-- ==== Sys2Proof/Word.lean ====
section
/-!
DEFINITION. The machine's words and their plainest arithmetic, and the type that names a register field.
-/
namespace Sys2Proof

/-- A register or message word of 32 bits (R66). -/
abbrev Word := BitVec 32

/-- A byte. -/
abbrev Byte := BitVec 8

namespace Machine

/-- The bit field of `w` that is `width` bits wide and starts at bit `lsb` (R5). -/
def bitsOf (w lsb width : Nat) : Nat := w / 2 ^ lsb % 2 ^ width

/-- Bit `k` of `w`. -/
def bitAt (w k : Nat) : Bool := w / 2 ^ k % 2 == 1

/-- The two's-complement reading of the low `width` bits of `v`. -/
def sgn (width v : Nat) : Int :=
  if v % 2 ^ width < 2 ^ (width - 1) then (v % 2 ^ width : Nat) else (v % 2 ^ width : Nat) - (2 : Int) ^ width

/-- The low `width` bits of an integer, as a natural number. -/
def uns (width : Nat) (i : Int) : Nat := (i % (2 : Int) ^ width).toNat

/-- A truth value as a bit. -/
def bit (b : Bool) : Nat := if b then 1 else 0

/-- One field of one register: the register's address in the space of R65, the field's lowest bit, its width and its
reset value. -/
structure Fld where
  addr : Nat
  lsb : Nat
  width : Nat
  rst : Nat
deriving DecidableEq, Repr

/-- The key under which a field's value is stored: fields of different places have different keys. -/
def Fld.key (f : Fld) : Nat := f.addr * 32 + f.lsb

/-- The access codes of Table 3-4A. -/
inductive Acc where
  | ro | rw | rws | w1c | wo | rc | rwl
deriving DecidableEq, Repr

/-- One field of the access table: place, access code, reset value by copy index, and the encodings R7 admits. -/
structure FieldRow where
  lsb : Nat
  width : Nat
  acc : Acc
  rst : Nat → Nat
  legal : List (Nat × Nat)

/-- One register of the access table: offset in the page, number of copies, their stride, and the fields. -/
structure RegRow where
  off : Nat
  count : Nat
  stride : Nat
  fields : List FieldRow

end Machine
end Sys2Proof
end

