-- ==== Sys2Proof/Machine/Types.lean ====
section
/-!
DEFINITION. The data types that commands and the state share: roles, pages, board entries, line messages and the
records that the block's engines hold.
-/
namespace Sys2Proof.Machine

/-- The two roles of Table 0-1. -/
inductive Role where
  | sender | tile
deriving DecidableEq, Repr

/-- The kinds of register page of Table 3-5, and the queue context window, which is laid out like a page. -/
inductive PageKind where
  | idn | rck | pwr | hkt | cal | tim | dep | mbx | fwu | svp | eth | ing | ingFlow | otg | map | cmp | cmpLayer
  | cmpSpire | col | klc | lnk | lnl | lne | cor | scn | rai | lfm | mem | par | que | ten | rdn | clu | queCtx
deriving DecidableEq, Repr

/-- Where the die is between power and reset (R374, R376, R516, R569): off, held in reset, running, in the undefined
state that follows a sag of the supply, or in the 10 s hold that follows a thermal shutdown. -/
inductive Power where
  | off | held | running | sagged | hot
deriving DecidableEq, Repr

/-- What the fuse blocks read as at a module reset (R522, R525): the factory trims, the stored and the computed check word
of the trim block, whether the identity block passes its CRC, the identity fields, the MAC base, and the key slots with
a fused hash with those hashes, as numbers of 384 bits. -/
structure Fuses where
  trims : List Int
  stored : Nat
  computed : Nat
  idOk : Bool
  stepping : Nat
  lotLo : Nat
  lotHi : Nat
  wafer : Nat
  dieX : Nat
  dieY : Nat
  serial : List Nat
  mac : Nat
  keys : Nat
  hashes : List Nat
deriving DecidableEq, Repr

/-- Who accesses the register space: tenant t through PCIe, the MC image in its secure or non-secure state, the service
path, or a line transaction with its ISSUER (R84, R442). -/
inductive Agent where
  | tenant (t : Nat)
  | mc (secure : Bool)
  | service
  | line (issuer : Nat)
deriving DecidableEq, Repr

/-- A frame schedule (R107): first departure number, its wall time in 2^-16 ns, base rate code and the three view phases. -/
structure Sched where
  n0 : Nat
  t0 : Int
  rate : Nat
  vphase : List Nat
deriving DecidableEq, Repr

/-- The states of Table 4-20. -/
inductive EntState where
  | free | armed | fired | late | missed | cancelled
deriving DecidableEq, Repr

/-- One entry of the departure board (R115). -/
structure Entry where
  time : Nat
  action : Nat
  form : Nat
  lateOk : Nat
  arg : Nat
  ofs : Int
  state : EntState
deriving DecidableEq, Repr

/-- The canvas a check looks at: width, height and origin. -/
structure Canvas where
  cw : Nat := 1920
  ch : Nat := 1080
  ox : Nat := 0
  oy : Nat := 0
deriving DecidableEq, Repr

/-- The fields of a mode word that can change (Table 2-1); VIEWS and SCAN as stored, one less than they mean. -/
structure ModeW where
  timing : Nat := 0
  views : Nat := 0
  codA : Nat := 0
  codB : Nat := 0
  redun : Nat := 0
  sink : Nat := 0
  emit : Nat := 0
  scan : Nat := 0
deriving DecidableEq, Repr

/-- One ANC packet of an ST 2110-40 RTP packet: DID, SDID, the timecode it spells if it is one, and its bytes. -/
structure AncPkt where
  did : Nat
  sdid : Nat
  tc : Nat
  bytes : List (BitVec 8)
deriving DecidableEq, Repr

/-- An RTP packet of an ST 2110 flow: extended sequence number, timestamp, marker, payload type, the runs of pixels it
carries (line, first pixel, packed sample bytes), its ANC packets, and whether it matches the declared format. -/
structure RtpPkt where
  seq : Nat
  ts : Nat
  marker : Bool
  pt : Nat
  runs : List (Nat × Nat × List (BitVec 8))
  anc : List AncPkt
  ok : Bool
deriving DecidableEq, Repr

/-- What an Ethernet frame carries, as far as ETH looks (R128): an IPv4 UDP datagram with addresses, ports, its size and
an RTP packet where there is one; ARP, ICMP or IGMP; or anything else. -/
inductive EthBody where
  | udp (src dst port size : Nat) (rtp : Option RtpPkt)
  | control
  | other
deriving DecidableEq, Repr

/-- An Ethernet frame at a port: the sixteenth of the cycle in which the first symbol after its start-of-frame delimiter came
(R99), length with FCS, FCS good, IEEE 802.1Q tag, and the body. -/
structure EthFrame where
  frac : Nat
  len : Nat
  fcsOk : Bool
  vlan : Option Nat
  body : EthBody
deriving DecidableEq, Repr

/-! ### Line messages (Tables 4-5, 4-6, 8-7, 8-13, 9-2, 9-5, 9-7, 9-8, 16-3). Wall times and corrections are in 2^-16 ns,
character fields are little-endian numbers. -/

/-- TIME (Table 4-5). -/
structure TimeMsg where
  relief : Bool
  valid : Bool
  holdover : Bool
  degraded : Bool
  seq : Nat
  k : Nat
  origin : Int
  corr : Int
deriving DecidableEq, Repr

/-- SCHED (Table 4-6); `mode` is the word DEP.MODE_NEXT. -/
structure SchedMsg where
  relief : Bool
  next : Bool
  seq : Nat
  sched : Sched
  mode : Nat
  dark : Nat
deriving DecidableEq, Repr

/-- CAPX (Table 8-7). -/
structure CapxMsg where
  fn : Nat
  level : Nat
  features : Nat
  rxGood : Nat
  seen : Bool
  typeId : Nat
  stepping : Nat
  serial : Nat
deriving DecidableEq, Repr

/-- LINK_STATE (Table 8-13). -/
structure LinkStateMsg where
  fn : Nat
  stopU : Nat
  stopD : Nat
  stage : Nat
  width : Nat
  lanes : Nat
  cause : Nat
  time : Int
deriving DecidableEq, Repr

/-- ENUM (Table 9-2). -/
structure EnumMsg where
  relief : Bool
  stop : Nat
  lineId : Nat
  run : Nat
deriving DecidableEq, Repr

/-- ENUM_RSP (Table 9-2). -/
structure EnumRsp where
  last : Bool
  noNumber : Bool
  stop : Nat
  other : Nat
  lineId : Nat
  run : Nat
  typeId : Nat
  stepping : Nat
  serial : Nat
deriving DecidableEq, Repr

/-- REQ (Table 9-5): OP, COUNT, STOP, SRC, TAG, DIDX, LOCAL, MASK and the data words. -/
structure ReqMsg where
  op : Nat
  count : Nat
  stop : Nat
  relief : Bool
  src : Nat
  tag : Nat
  didx : Nat
  loc : Nat
  mask : Nat
  data : List Nat
deriving DecidableEq, Repr

/-- RSP (Table 9-5). -/
structure RspMsg where
  status : Nat
  count : Nat
  stop : Nat
  cached : Bool
  src : Nat
  tag : Nat
  didx : Nat
  loc : Nat
  data : List Nat
deriving DecidableEq, Repr

/-- TELEM (Table 9-8). -/
structure TelemMsg where
  relief : Bool
  stop : Nat
  other : Nat
  frame : Nat
  epoch : Nat
  digest : Nat
  state : Nat
  rx : Nat
  rule : Nat
  temp : Nat
  timeErr : Nat
  lcrc : Nat
  faults : Nat
  evt : Nat
  ident : Nat
  rails : Nat
  zones : Nat
  underruns : Nat
deriving DecidableEq, Repr

/-- SVC (Table 9-7). -/
structure SvcMsg where
  last : Bool
  relief : Bool
  stop : Nat
  session : Nat
  seq : Nat
  data : List (BitVec 8)
deriving DecidableEq, Repr

/-- SVC_ACK (Table 9-7). -/
structure SvcAck where
  status : Nat
  stop : Nat
  session : Nat
  ack : Nat
deriving DecidableEq, Repr

/-- The content of a mirror record (Table 16-3): WRITE and IMAGE with the address of the first word, the words and the stop counts
of the lead's ports A and B, which go with the card table (R170); ARM with
the address of a PG_CTRL; ENTRY with the index, ENT_TIME, ENT_ACT, ENT_ARG, ENT_OFS and OP; FRAME with the part, the
departure, the commit groups, the epoch, MFADE_POS and eight L_FADE_POS. -/
inductive MirrorRec where
  | write (loc : Nat) (data : List Nat) (stopsA stopsB : Nat)
  | arm (on : Bool) (loc : Nat)
  | entry (idx time act arg : Nat) (ofs : Int) (op : Nat)
  | frame (part m groups epoch mfade : Nat) (lfades : List Nat)
  | imageStart (records : Nat)
  | image (loc : Nat) (data : List Nat) (stopsA stopsB : Nat)
  | imageEnd (digest : Nat)
deriving DecidableEq, Repr

/-- MIRROR (Table 9-7). -/
structure MirrorMsg where
  relief : Bool
  seq : Nat
  body : MirrorRec
deriving DecidableEq, Repr

/-- Who sent a service datagram, and the address it was sent to (R544). -/
structure Caller where
  ip : Nat
  udp : Nat
  at_ : Nat
deriving DecidableEq, Repr

/-- A service datagram (R546): its caller, the UDP port it was sent to, SEQ, SLOT, COUNT, ADDR and the data. -/
structure Dgram where
  from_ : Caller
  udp : Nat
  seq : Nat
  slot : Nat
  count : Nat
  addr : Nat
  data : List (BitVec 8)
deriving DecidableEq, Repr

/-- What the service port receives beside the datagrams of Table 18-5: ARP for an address, a datagram with another OP, or a
frame that is neither (R544). -/
inductive SvpFrame where
  | arp (ip : Nat)
  | unknown (op : Nat) (d : Dgram)
  | other
deriving DecidableEq, Repr

/-- A control message of 64 bytes (Table 9-1). -/
inductive Msg where
  | time (m : TimeMsg)
  | sched (m : SchedMsg)
  | capx (m : CapxMsg)
  | linkState (m : LinkStateMsg)
  | enumMsg (m : EnumMsg)
  | enumRsp (m : EnumRsp)
  | req (m : ReqMsg)
  | rsp (m : RspMsg)
  | ldReq (seq : Nat)
  | ldRsp (seq : Nat) (turn : Int)
  | telem (m : TelemMsg)
  | mirror (m : MirrorMsg)
  | svc (m : SvcMsg)
  | svcAck (m : SvcAck)
deriving DecidableEq, Repr

/-- CLUSTER_STATE (Table 16-6); FRAME, C_FLIP and C_DEADLINE are departure numbers whose low 32 bits are sent. -/
structure ClusterRec where
  member : Nat
  flags : Nat
  level : Nat
  frame : Nat
  epoch : Nat
  digest : Nat
  pEpoch : Nat
  pDigest : Nat
  timeErr : Int
  orgX : Nat
  orgY : Nat
  cw : Nat
  ch : Nat
  cmd : Nat
  cmdArg : Nat
  strict : Bool
  cEpoch : Nat
  cFlip : Nat
  cDeadline : Nat
  next : Bool
  sched : Sched
deriving DecidableEq, Repr

/-- A frame header of the video (Table 9-4, KIND 1): `health` the word of Table 16-2. -/
structure FrameHdr where
  view : Nat
  views : Nat
  coding : Nat
  dark : Bool
  relief : Bool
  frame : Nat
  nshare : Nat
  health : Nat
deriving DecidableEq, Repr

/-- A share header (KIND 2). -/
structure ShareHdr where
  stop : Nat
  dark : Bool
  spire : Bool
  w : Nat
  h : Nat
deriving DecidableEq, Repr

/-- A share trailer (KIND 4). -/
structure ShareTrl where
  stop : Nat
  incomplete : Bool
  spire : Bool
  bad : Bool
  crc : Nat
  rows : Nat
deriving DecidableEq, Repr

/-- What the module sends or drives, in the order it does so. -/
inductive Out where
  /-- The event route of the page at a base address is signalled (R82), with the function and the vector that HOST reaches, if any. -/
  | signal (page : Nat) (host : Option (Nat × Nat))
  /-- A received frame goes to the MC image, or to the time unit and the MC image with its timestamp, a counter value in
  sixteenths of a cycle (R99, R128). -/
  | toMc (port : Nat) (ptp : Bool) (stamp : Nat)
  /-- A command on the sink bus (Table 12-4) with its words. -/
  | sink (w : Nat) (words : List Nat)
  /-- The DATA words of the band that the last HEAD names, lane by lane (R352, R353, R356). -/
  | sinkData (lanes : List (List Nat))
  /-- Under PLANE, the bits of planes of a row visit: plane by plane, lane by lane (R353, R360). -/
  | sinkPlanes (planes : List (List (List Nat)))
  /-- A row-select edge (R348, R349): row, cycle, PORTS, BLANK held high, and the lit time of each lamp of the row in T_G
  periods, bands in ascending order (R354, R361, R362). -/
  | rowSelect (row seg ports : Nat) (blank : Bool) (lit : List Nat)
  /-- The readback window opens on the groups in use (R368). -/
  | readback (groups us : Nat)
  /-- OTG hands the VIDEO flits of one view to a line port (R270); they leave in groups. -/
  | video (port view : Nat) (flits : List Nat)
  /-- A packet of the monitor stream leaves an Ethernet port (R198): destination, UDP port and UDP payload. -/
  | monitor (port dst udp : Nat) (payload : List (BitVec 8))
  /-- A control message enters the control queue of a line port (R265); it leaves in groups. -/
  | msg (port : Nat) (m : Msg)
  /-- A training frame with the control and status fields leaves a lane (R224). -/
  | training (lane ctl sta : Nat)
  /-- An alignment-marker slot of so many codewords leaves a port on the lanes of the mask (R220, R249). -/
  | amSlot (port lanes count : Nat)
  /-- A group leaves a port: its header and its 31 data flits (R235). -/
  | group (port hdr : Nat) (flits : List Nat)
  /-- Symbols leave a lane: their number and the levels, two bits each, the first lowest (R216). -/
  | symbols (lane count levels : Nat)
  /-- A posted write to host memory by a function (R447). -/
  | hostWrite (fn addr : Nat) (bytes : List (BitVec 8))
  /-- A function signals a vector (R447). -/
  | msix (fn vector : Nat)
  /-- Data returned to the host for a read of a function, and whether its completion carries the poisoned bit (Table 14-5). -/
  | hostData (fn addr bytes value : Nat) (poisoned : Bool)
  /-- A CLUSTER_STATE datagram leaves the Ethernet ports of the mask (R492). -/
  | cluster (ports dst udp : Nat) (r : ClusterRec)
  /-- A service reply leaves the service port: destination, operation, SEQ, status and data (R546). -/
  | service (dst : Caller) (op tag status : Nat) (bytes : List (BitVec 8))
  /-- A frame other than a datagram leaves the service port: an ARP answer to an address (R544). -/
  | arp (ip : Nat)
  /-- A pulse on TICKOUT (0), PPSOUT (1) or GPIO 2 + k: width in ns, polarity and wall time (R113, R115). -/
  | pulse (pin width pol : Nat) (at_ : Int)
  /-- A processor starts on an image slot (R538): 0 the MC, 1 the LC. -/
  | start (cpu slot : Nat)
  /-- A word read from the register space by a command. -/
  | data (addr bytes value : Nat)
deriving DecidableEq, Repr

end Sys2Proof.Machine
end

