-- ==== Sys2Proof/Syntax.lean ====
section
/-!
DEFINITION. The commands of the block: one constructor per row of spec/opcode_table.json, in the table's order.
A command is what the outside does to the module: an access to a register, a message on a port, an event on a pin, or
a moment that an engine or timer of the module reaches. `t` is always the counter value (FRC, R89) at which the
command happens.
-/
namespace Sys2Proof

open Machine in
/-- The commands, with their operands. -/
inductive Instr where
  /-- POWER_UP (R374): VBUS rises above 36 V; the input stage limits inrush and PWR brings up the internal rails in order. Operand: how many microseconds the boot reset holds. -/
  | powerUp (us : Nat)
  /-- INTERNAL_5V_LOSS (R572): The internal 5 V rail falls below 4.0 V; rail PWM and EN outputs go high impedance and are held low. -/
  | internal5vLoss
  /-- RESET_N (R570): A low level of 10 µs or more on RESET_N resets the module and records the cause. Operand: how long RESET_N is low, in ns. -/
  | resetN (ns : Nat)
  /-- RESET_RELEASE (R569): At t_S the straps are sampled, the die leaves reset and the boot sequence starts. Operands: the sampled strap pins, the level of BOOT_SEL, the fuse content, and the offset of REFCLK in ppm. -/
  | resetRelease (strap : Nat) (bootSel : Bool) (f : Fuses) (ppm : Int)
  /-- SOFTWARE_RESET (R405): A write of 0xA5 to RCK.RST_CMD.KEY resets the module as RESET_N does. -/
  | softwareReset
  /-- MODRST (R582): The JTAG MODRST instruction resets the module with RST_CAUSE.JTAG set. -/
  | modrst
  /-- THERMAL_RESET (R516): After the rails have discharged and the ports are down, or within 20 ms of detection, a shutdown resets the module. -/
  | thermalReset (t : Nat)
  /-- SHUTDOWN_RESTART (R516): The 10 s reset hold after a thermal shutdown ends and the module starts again as from RESET_N. -/
  | shutdownRestart
  /-- REFCLK_LOST (R110): REFCLK is absent or out of tolerance for 1 µs; the core moves to the internal oscillator, TIME_VALID clears and the lanes drop. Operand: the difference of the two clocks in ppm. -/
  | refclkLost (ppm : Int) (t : Nat)
  /-- RET_AUTO (R405): REFCLK has been in tolerance for RET_MS with RET_AUTO set; RCK moves the clocks back to REFCLK. Operand: the difference of the two clocks in ppm. -/
  | retAuto (ppm : Int) (t : Nat)
  /-- RET_NOW (R405): A write of 1 to RET_NOW while REFCLK_OK is 1 moves the clocks back to REFCLK. Operand: the difference of the two clocks in ppm. -/
  | retNow (ppm : Int) (t : Nat)
  /-- REGISTER_WRITE (R73): A write to a register field that has no row of its own takes effect according to its access code. Operands: who writes, the global address, the bytes of the access and the word. -/
  | registerWrite (who : Agent) (a n v t : Nat)
  /-- RC_READ (R75): A read of an RC field returns its value and clears it. Operands: who reads, the global address and the bytes of the access. -/
  | rcRead (who : Agent) (a n t : Nat)
  /-- EVT_PEND_CLEAR (R82): A W1C write to EVT_PEND clears pending events and may signal the route again. Operands: the base address of the page and the word written. -/
  | evtPendClear (b v t : Nat)
  /-- EVT_SET (R82): A write of 1 to EVT_SET sets the matching EVT_PEND bit for test. Operands: the base address of the page and the word written. -/
  | evtSet (b v t : Nat)
  /-- EVT_EN_WRITE (R82): A write to EVT_EN changes the event enables and may signal the route. Operands: the base address of the page and the word written. -/
  | evtEnWrite (b v t : Nat)
  /-- ERR_INFO_CLEAR (R83): A write of 1 to ERR_INFO.VALID clears the recorded first error and its address. Operand: the base address of the page. -/
  | errInfoClear (b t : Nat)
  /-- PAGE_ENABLE (R70): A write of 1 to PG_CTRL.EN lets the block do its work, with the start-up effects of its chapter. Operand: the base address of the page. -/
  | pageEnable (b t : Nat)
  /-- PAGE_DISABLE (R70): A write of 0 to PG_CTRL.EN stops the block's work, with the effects its chapter gives. Operand: the base address of the page. -/
  | pageDisable (b t : Nat)
  /-- SOFT_RESET (R71): A write of 1 to PG_CTRL.SRST returns the block registers to reset and discards staged values and armed commits. Operand: the base address of the page. -/
  | softReset (b t : Nat)
  /-- COMMIT_ARM (R77): A write of 1 to PG_CTRL.COMMIT arms a shadow transfer and sets COMMIT_PENDING. Operand: the base address of the page. -/
  | commitArm (b t : Nat)
  /-- COMMIT_DISARM (R78): A write of 0 to PG_CTRL.COMMIT while pending disarms the commit and keeps the staged values. Operand: the base address of the page. -/
  | commitDisarm (b t : Nat)
  /-- FREEZE (R72): A write of 1 to PG_CTRL.FREEZE stops the block at the boundary of its unit of work. Operand: the base address of the page. -/
  | freezePage (b t : Nat)
  /-- UNFREEZE (R72): A write of 0 to PG_CTRL.FREEZE ends a software freeze. Operand: the base address of the page. -/
  | unfreezePage (b t : Nat)
  /-- HW_FREEZE (R427): A block detects an error in its own command path, records code 0x05 and freezes itself. Operand: the base address of the page. -/
  | hwFreeze (b t : Nat)
  /-- MODE_NEXT_WRITE (R37): A write to DEP.MODE_NEXT stages the mode word and starts its evaluation against Table 2-4. Operand: the word written. -/
  | modeNextWrite (v t : Nat)
  /-- MODE_FALLBACK_WRITE (R61): A write to DEP.MODE_FALLBACK re-evaluates the fallback word and FB_VALID. Operand: the word written. -/
  | modeFallbackWrite (v t : Nat)
  /-- FRAME_DEPARTURE (R19): A frame departure of the schedule launches: frame pick, flip, group 0 commit and per-frame updates. Operand: the departure number. -/
  | frameDeparture (n : Nat) (t : Nat)
  /-- VIEW_DEPARTURE (R114): A view departure after view 0 launches and SCN starts the subframe of that view. Operands: the frame and the view. -/
  | viewDeparture (n k : Nat) (t : Nat)
  /-- COMMIT (R77): A COMMIT board entry launches and transfers every armed page of the named groups. Operands: the entry, and whether it launches after its time. -/
  | commitEntry (idx : Nat) (late : Bool) (t : Nat)
  /-- EPOCH_FLIP (R45): An EPOCH_FLIP entry launches and copies all differing mode fields at once, starting the dark frames. Operands: the entry, and whether it launches after its time. -/
  | epochFlip (idx : Nat) (late : Bool) (t : Nat)
  /-- SCHEDULE (R115): A SCHEDULE entry launches and takes TIM.RATE_NEXT and the view phases into force. Operands: the entry, and whether it launches after its time. -/
  | scheduleEntry (idx : Nat) (late : Bool) (t : Nat)
  /-- FW_ACTIVATE (R538): A FW_ACTIVATE entry launches and restarts the named processors on the named slots when the pair is consistent. Operands: the entry, and whether it launches after its time. -/
  | fwActivate (idx : Nat) (late : Bool) (t : Nat)
  /-- RAIL_STEP (R385): A RAIL_STEP entry launches and copies CH_FIXED.SET into force for the named FIXED channels. Operands: the entry, and whether it launches after its time. -/
  | railStep (idx : Nat) (late : Bool) (t : Nat)
  /-- WALL_SWITCH (R98): A WALL_SWITCH entry launches and changes the wall domain without FORCE. Operands: the entry, and whether it launches after its time. -/
  | wallSwitch (idx : Nat) (late : Bool) (t : Nat)
  /-- PULSE (R115): A PULSE entry launches and pulses its GPIO, and TICKOUT when selected. Operands: the entry, and whether it launches after its time. -/
  | pulse (idx : Nat) (late : Bool) (t : Nat)
  /-- MARK (R115): A MARK entry launches and raises BOARD_MARK with its tag. Operands: the entry, and whether it launches after its time. -/
  | markEntry (idx : Nat) (late : Bool) (t : Nat)
  /-- ENT_MISSED (R117): An entry's launch time passes while TIME_VALID is 0 and the entry becomes MISSED. Operand: the entry. -/
  | entMissed (idx : Nat) (t : Nat)
  /-- ENT_WRITE (R116): ENT_CMD.OP = WRITE checks and writes, frees or immediately launches the selected board entry. -/
  | entWrite (t : Nat)
  /-- ENT_READ (R116): ENT_CMD.OP = READ loads the staging registers from the selected entry. -/
  | entRead (t : Nat)
  /-- ENT_CANCEL (R116): ENT_CMD.OP = CANCEL sets an ARMED entry to CANCELLED unless inside the guard time. -/
  | entCancel (t : Nat)
  /-- STARTUP_EPOCH_LOAD (R557): Once the conditions of Table 19-2 hold after DEP is enabled, the unit loads epoch 0 and sets its schedule. -/
  | startupEpochLoad (t : Nat)
  /-- DOM_MEAS (R94): A write to TIM.DOMd_MEAS supplies a PTP measurement that the servo filters into the domain. Operands: the domain, the word written to DOMd_MEAS, and the log2 of the sync interval of the selected master. -/
  | domMeas (d w : Nat) (e : Int) (t : Nat)
  /-- DOMAIN_ENABLE (R93): A write of 1 to DOMd_CFG.EN takes the domain to LISTEN. Operand: the domain. -/
  | domainEnable (d : Nat) (t : Nat)
  /-- DOMAIN_DISABLE (R93): A write of 0 to DOMd_CFG.EN takes the domain to DISABLED. Operand: the domain. -/
  | domainDisable (d : Nat) (t : Nat)
  /-- DOMAIN_LOSS_TIMEOUT (R93): No accepted measurement for the loss timeout takes the domain to HOLDOVER, with an automatic wall switch where set. Operand: the domain. -/
  | domainLossTimeout (d : Nat) (t : Nat)
  /-- SWITCH_NOW (R98): A write of 1 to TIM_CTRL.SWITCH_NOW switches the wall domain seamlessly, steps with FORCE, or refuses. Operand: whether SWITCH_FORCE is written with it. -/
  | switchNow (force : Bool) (t : Nat)
  /-- WALL_SEL_WRITE (R98): A write giving WALL_SEL the other domain requests a switch as SWITCH_NOW does. Operands: the domain written, and whether SWITCH_FORCE is written with it. -/
  | wallSelWrite (d : Nat) (force : Bool) (t : Nat)
  /-- SLEW_END (R98): The switch residual has decayed to 0 and SLEWING clears. -/
  | slewEnd (t : Nat)
  /-- TIME_INTERVAL (R103): Every 2^-k s a sender sends a TIME message on each active line port. -/
  | timeInterval (t : Nat)
  /-- TIME_MESSAGE (R102): A tile receives a TIME message, takes a measurement, and forwards it with the corrected CORR. Operands: the port, the message, and the counter values in 1/16 cycles at which it came in and goes out again. -/
  | timeMessage (p : Nat) (m : TimeMsg) (inF outF t : Nat)
  /-- SCHED_INTERVAL (R106): Every 1 ms a sender sends SCHED messages for the schedule in force and any pending schedule. -/
  | schedInterval (t : Nat)
  /-- SCHED (R106): A tile receives a SCHED message and adopts a pending or different schedule. Operands: the port and the message. -/
  | sched (p : Nat) (m : SchedMsg) (t : Nat)
  /-- LD_INTERVAL (R101): Every 1 ms a port sends LD_REQ to measure its link delay. Operands: the port, and the counter value in 1/16 cycles at which the request leaves. -/
  | ldInterval (p t1 t : Nat)
  /-- LD_REQ (R284): A port receives LD_REQ and answers with LD_RSP within 2 µs. Operands: the port, the tag, and the counter values in 1/16 cycles at which the request came in and the response leaves. -/
  | ldReq (p q t2 t3 t : Nat)
  /-- LD_RSP (R101): A port receives LD_RSP and updates its averaged link delay. Operands: the port, the tag, the turnaround, and the counter value in 1/16 cycles at which the response came in. -/
  | ldRsp (p q : Nat) (turn : Int) (t4 t : Nat)
  /-- LD_TIMEOUT (R284): An exchange without LD_RSP within 10 µs is discarded. Operand: the port. -/
  | ldTimeout (p t : Nat)
  /-- TICKIN (R111): A TICKIN edge is timestamped, classed IN or OUT, and drives the tick loop. Operand: the counter value of the edge in 1/16 cycles. -/
  | tickin (f16 t : Nat)
  /-- TICK_WINDOW_END (R111): A tick window ends without an IN tick; flywheel, relock or loss follows. -/
  | tickWindowEnd (t : Nat)
  /-- FRAME_SRC_WRITE (R108): A write to TIM_CTRL.FRAME_SRC selects the schedule source and starts or stops the tick states. Operand: the value written. -/
  | frameSrcWrite (v t : Nat)
  /-- TICKOUT_PULSE (R113): TICKOUT emits a pulse at its event time plus TICKOUT_OFS. -/
  | tickoutPulse (t : Nat)
  /-- PPS_PULSE (R113): PPSOUT emits a pulse at each whole second of wall time. -/
  | ppsPulse (t : Nat)
  /-- ETH_LINK_UP (R127): An Ethernet port's link comes up after auto-negotiation and training. Operand: the Ethernet port. -/
  | ethLinkUp (p : Nat) (t : Nat)
  /-- ETH_LINK_DOWN (R127): An Ethernet port's link goes down. Operand: the Ethernet port. -/
  | ethLinkDown (p : Nat) (t : Nat)
  /-- ETH_FRAME (R128): An Ethernet frame is received and delivered to ING, the time unit or the MC image, or discarded. Operands: the port, the frame, and the codewords corrected and uncorrectable before it. -/
  | ethFrame (p : Nat) (f : EthFrame) (corr uncorr : Nat) (t : Nat)
  /-- ING_PACKET (R138): A packet matching an enabled leg is merged, stored and may complete a frame. The packet is the oldest that ETH has delivered to ING. -/
  | ingPacket (t : Nat)
  /-- MERGE_WAIT_END (R140): SKEW_MAX passes after the marker with a gap unfilled and the frame is incomplete. Operand: the flow slot. -/
  | mergeWaitEnd (k : Nat) (t : Nat)
  /-- LEG_LOST (R134): An enabled leg delivers nothing for LEG_TIMEOUT while the other delivers; the slot becomes DEGRADED. Operands: the flow slot and the leg, 0 for A and 1 for B. -/
  | legLost (k l : Nat) (t : Nat)
  /-- FLOW_LOST (R134): No enabled leg delivers for FLOW_TIMEOUT and the slot becomes LOST. Operand: the flow slot. -/
  | flowLost (k : Nat) (t : Nat)
  /-- FLOW_ENABLE (R135): A write of FLOW_CTRL.EN = 1 runs the enable checks and allocates buffers or refuses. Operands: the flow slot and the word written to FLOW_CTRL. -/
  | flowEnable (k v : Nat) (t : Nat)
  /-- FLOW_DISABLE (R148): A write of FLOW_CTRL.EN = 0 stops storing at once and frees the buffers from the next departure. Operands: the flow slot and the word written to FLOW_CTRL. -/
  | flowDisable (k v : Nat) (t : Nat)
  /-- LEG_ENABLE (R135): A leg enable on a running slot repeats the admission checks of codes 0x11 and 0x12. Operands: the flow slot and the word written to FLOW_CTRL. -/
  | legEnable (k v : Nat) (t : Nat)
  /-- CARD_CHECK (R169): A write of 1 to MAP.CARD_CTRL.CHECK starts a check of the staging bank. -/
  | cardCheck (t : Nat)
  /-- CARD_CHECK_DONE (R169): The card check completes and reports in CARD_STAT. -/
  | cardCheckDone (t : Nat)
  /-- CARD_SYNC_DONE (R167): The copy of the bank in force into the staging bank completes and stalled writes proceed. -/
  | cardSyncDone (t : Nat)
  /-- SPIRE_CHECK (R192): A write of SP_CTRL.CHECK checks the Spire staging bank. -/
  | spireCheck (t : Nat)
  /-- SPIRE_SYNC_DONE (R192): The Spire bank copy completes and stalled accesses proceed. -/
  | spireSyncDone (t : Nat)
  /-- OTG_FRAME_START (R200): At T_n + START_OFS, OTG begins sending frame n on both line ports. -/
  | otgFrameStart (t : Nat)
  /-- BLANK_START (R204): Both ports have sent the trailer of the last view of the frame. Operands: how often port A and port B stalled in the frame. -/
  | blankStart (a b : Nat) (t : Nat)
  /-- OTG_ABORT (R203): At T_{n+1} − END_GUARD an unfinished port frame is dropped and sent INCOMPLETE. Operands: for each port the view and the number of rounds sent when it was cut (none: the port had finished), and how often the ports stalled. -/
  | otgAbort (cutA cutB : Option (Nat × Nat)) (a b : Nat) (t : Nat)
  /-- MONITOR_FRAME (R198): At departure n + 1 plus 100 µs the monitor stream of frame n is sent, or dropped when the port is down. -/
  | monitorFrame (t : Nat)
  /-- TRAINING_FRAME (R225): A lane receives a training frame and acts on its control and status fields. Operands: lane, the control and status fields received, whether the frame is valid, whether its levels come mirrored, what the receiver asks for next (bits [12:0]), and the symbol errors of a count over 2^24 pattern symbols that ends with it. -/
  | trainingFrame (l ctl sta : Nat) (valid inverted : Bool) (req : Nat) (errors : Option Nat) (t : Nat)
  /-- TRAIN_TIMEOUT (R227): No valid training frame for 1 ms in TRAIN marks the lane FAILED. Operand: the lane. -/
  | trainTimeout (l : Nat) (t : Nat)
  /-- TRAIN_GIVE_UP (R226): No working setting within TRAIN_CFG.TMO and the receiver sends GIVE_UP. Operand: the lane. -/
  | trainGiveUp (l : Nat) (t : Nat)
  /-- LANE_LOCKED (R232): A lane locks and deskews, which may end LOCK; in CAPX and ACTIVE it has deskewed again. Operands: the lane, its skew in ps, the port lane number in its AM slots, whether its levels come mirrored. -/
  | laneLocked (l : Nat) (skew : Int) (found : Nat) (inverted : Bool) (t : Nat)
  /-- LOCK_END (R232): 1 ms passes in LOCK; unlocked lanes fall back or fail and the port moves on. Operand: the port, 0 for U and A, 1 for D and B. -/
  | lockEnd (p : Nat) (t : Nat)
  /-- CAPX_SEND (R233): Every 20 µs in CAPX a port sends its CAPX message. Operand: the port, 0 for U and A, 1 for D and B. -/
  | capxSend (p : Nat) (t : Nat)
  /-- CAPX (R233): A port receives CAPX, agrees mask, level and features, and may enter ACTIVE. Operands: the port and the message. -/
  | capx (p : Nat) (m : CapxMsg) (t : Nat)
  /-- CAPX_TIMEOUT (R222): No CAPX completes within 500 µs and the port goes DOWN. Operand: the port, 0 for U and A, 1 for D and B. -/
  | capxTimeout (p : Nat) (t : Nat)
  /-- RETRY_INTERVAL (R222): RETRY_INT elapses in DOWN or HELD and the port returns to DETECT. Operand: the port, 0 for U and A, 1 for D and B. -/
  | retryInterval (p : Nat) (t : Nat)
  /-- RESTART (R222): A write of 1 to PORT_CTRL.RESTART takes the link down and restarts bring-up. Operand: the port, 0 for U and A, 1 for D and B. -/
  | restartPort (p : Nat) (t : Nat)
  /-- MAX_WIDTH_WRITE (R214): A write of MAX_WIDTH narrows or widens a live link or applies at the next bring-up. Operands: the port and the code written. -/
  | maxWidthWrite (p v : Nat) (t : Nat)
  /-- GROUP (R242): The header of group g + 1 arrives, group g is checked and accepted or discarded, and its flits are forwarded and consumed. Operands: the port and the codewords that bring them, each with its port lane and its 340 levels, two bits for each. -/
  | groupHeader (p : Nat) (rx : List (Nat × Nat)) (t : Nat)
  /-- REPLAY_TIMEOUT (R244): The oldest unacknowledged group waits REPLAY_CFG.TMO and is replayed. Operand: the port, 0 for U and A, 1 for D and B. -/
  | replayTimeout (p : Nat) (t : Nat)
  /-- LANE_FAULT (R248): A lane in ACTIVE loses lock, sees uncorrectable codewords or bad AM slots; the port narrows or goes down. Operand: the lane. -/
  | laneFault (l : Nat) (t : Nat)
  /-- RETRAIN_DONE (R250): Background training of a lane ends SPARE or FAILED, and widening may follow. Operands: the lane and whether it trained. -/
  | retrainDone (l : Nat) (ok : Bool) (t : Nat)
  /-- LANE_RETRY (R250): A write of LANE_CTRL.RETRY starts background training or clears FAILED. Operand: the lane. -/
  | laneRetry (l : Nat) (t : Nat)
  /-- LANE_RETIRE (R250): A write of RETIRE = 1 takes the lane out of service with reason RETIRED. Operand: the lane. -/
  | laneRetire (l : Nat) (t : Nat)
  /-- LINK_STATE (R254): A sender receives LINK_STATE and updates line width, N and redundancy state. Operands: the port and the message. -/
  | linkState (p : Nat) (m : LinkStateMsg) (t : Nat)
  /-- ENUM_START (R266): A write of 1 to LNE_CTRL.ENUM_START starts an enumeration run. Operand: the port. -/
  | enumStart (p t : Nat)
  /-- ENUM (R267): A tile receives ENUM, takes its stop number, responds and passes ENUM on. Operands: the port and the message. -/
  | enumMsg (p : Nat) (m : EnumMsg) (t : Nat)
  /-- ENUM_RSP (R268): A sender receives ENUM_RSP and may end the run and set N. Operands: the port and the message. -/
  | enumRsp (p : Nat) (m : EnumRsp) (t : Nat)
  /-- ENUM_TIMEOUT (R268): 1 ms passes since the run started and the run ends short. Operand: the port. -/
  | enumTimeout (p t : Nat)
  /-- FRAME_HEADER (R274): A frame header of a view is accepted or discarded; COR begins its pass at view 0. Operands: the port, the header, whether its CRC matches, and the cluster member number of the sender at the far end. -/
  | frameHeader (p : Nat) (h : FrameHdr) (crcOk : Bool) (member t : Nat)
  /-- SHARE_HEADER (R272): A share header is received and the tile locates its own share. Operands: the port, the header, whether its CRC matches. -/
  | shareHeader (p : Nat) (k : ShareHdr) (crcOk : Bool) (t : Nat)
  /-- SEGMENT_HEADER (R271): A segment header of 8 rounds is received. Operands: the port, VIEW, ROUND, FRAME, whether the CRC matches. -/
  | segmentHeader (p view round frame : Nat) (crcOk : Bool) (t : Nat)
  /-- ROW_DATA (R271): Row data of the tile's share arrives, is decoded and passed to COR. Operands: the port, the round, the row bits of the own share, its poisoned pixels. -/
  | rowData (p round bits : Nat) (bad : List Nat) (t : Nat)
  /-- SHARE_TRAILER (R274): A share trailer is received and the share is judged complete and Spire-checked. Operands: the port, the trailer, whether its CRC matches. -/
  | shareTrailer (p : Nat) (tr : ShareTrl) (crcOk : Bool) (t : Nat)
  /-- VIEW_TRAILER (R270): A view trailer ends the view sequence. Operands: the port, VIEW, FRAME, whether the CRC matches. -/
  | viewTrailer (p view frame : Nat) (crcOk : Bool) (t : Nat)
  /-- REQ (R281): A tile receives a REQ and holds it, discards it, or answers from the duplicate window. Operands: the port and the message. -/
  | req (p : Nat) (m : ReqMsg) (t : Nat)
  /-- READ (R276): The tile executes a READ of COUNT words and returns RSP. The request is the oldest that the tile holds. -/
  | readTxn (t : Nat)
  /-- WRITE (R276): The tile executes a WRITE of COUNT words and returns RSP. The request is the oldest that the tile holds. -/
  | writeTxn (t : Nat)
  /-- WRITE_MASKED (R276): The tile executes one masked read-modify-write and returns RSP. The request is the oldest that the tile holds. -/
  | writeMasked (t : Nat)
  /-- PING (R276): The tile answers a PING with OK. The request is the oldest that the tile holds. -/
  | ping (t : Nat)
  /-- RSP (R279): A sender receives RSP and completes the transaction, or discards it as late. Operands: the port and the message. -/
  | rsp (p : Nat) (m : RspMsg) (t : Nat)
  /-- TXN_TIMEOUT (R279): A transaction has no response after T and completes EXECUTED_UNKNOWN. Operands: the port and the DIDX of the transaction. -/
  | txnTimeout (p didx t : Nat)
  /-- CREDIT_RELEASE (R279): A further T after a timeout, the stop credits are released. Operands: the port and the DIDX of the transaction. -/
  | creditRelease (p didx t : Nat)
  /-- SVC (R286): A tile receives an SVC segment, accepts it in order and acknowledges. Operands: the port, the message, and whether the staging buffer has no room for it. -/
  | svc (p : Nat) (m : SvcMsg) (full : Bool) (t : Nat)
  /-- SVC_ACK (R286): A sender receives SVC_ACK and advances the session window. Operands: the port and the message. -/
  | svcAck (p : Nat) (m : SvcAck) (t : Nat)
  /-- SVC_RESEND (R286): ACK_SEQ has not advanced for 1 ms and the sender resends. Operands: the port and the stop of the session. -/
  | svcResend (p k t : Nat)
  /-- MIRROR (R478): A relief receives a MIRROR record and applies the first copy of each SEQ. Operands: the port and the message. -/
  | mirrorRecord (p : Nat) (m : MirrorMsg) (t : Nat)
  /-- MIRROR_GAP (R478): A SEQ is missing on both ports for 1 ms and the relief enters SYNCING. -/
  | mirrorGap (t : Nat)
  /-- TELEM (R288): A sender receives a telemetry record and stores it in its table. Operands: the port and the record. -/
  | telem (p : Nat) (m : TelemMsg) (t : Nat)
  /-- JR_TAIL (R302): Software advances JR_TAIL and posts descriptors to the job ring. Operand: the index written. -/
  | jrTail (v : Nat) (t : Nat)
  /-- COMPRESS (R303): The job engine takes a COMPRESS descriptor and codes blocks LOSSLESS_80. Operands: the queue and ring index of the descriptor, none for the job ring, and the blocks coded before another command. -/
  | compress (q : Option (Nat × Nat)) (blocks : Nat) (t : Nat)
  /-- DECOMPRESS (R303): The job engine takes a DECOMPRESS descriptor and decodes blocks. Operands: the queue and ring index of the descriptor, none for the job ring, and the blocks coded before another command. -/
  | decompress (q : Option (Nat × Nat)) (blocks : Nat) (t : Nat)
  /-- JOB_DONE (R303): A job ends, writes its status and advances JR_HEAD. -/
  | jobDone (t : Nat)
  /-- ABORT (R304): A write of 1 to KLC_CTRL.ABORT ends the running job at its next block boundary. -/
  | abortJob (t : Nat)
  /-- PASS_DONE (R322): COR completes the last plane of a frame and passes the rail maxima to RAI. -/
  | passDone (t : Nat)
  /-- BANK_SYNC_START (R328): After a swap, once the passes on the former bank end, COR starts copying the new bank in force. -/
  | bankSyncStart (t : Nat)
  /-- BANK_SYNC_DONE (R328): The COR bank copy completes and queued uploads may run. -/
  | bankSyncDone (t : Nat)
  /-- APERTURE_WRITE (R330): A write through the correction-table aperture lands or is refused as REGION_BUSY. Operands: offset in the window, bytes and value. -/
  | apertureWrite (ofs n v : Nat) (t : Nat)
  /-- UPL_CMD_GO (R332): A write of UPL_CMD with GO = 1 posts an upload command, superseding where set. Operand: the word written. -/
  | uplCmdGo (v : Nat) (t : Nat)
  /-- COPY (R333): The upload unit runs a COPY command region by region. -/
  | copyRegions (t : Nat)
  /-- COPY_PACK (R334): The upload unit runs a COPY_PACK command, coding each region or storing it raw. -/
  | copyPack (t : Nat)
  /-- COPY_PACKED (R334): The upload unit runs a COPY_PACKED command, checking coded regions. -/
  | copyPacked (t : Nat)
  /-- UNIT (R332): The upload unit writes unit records into the named regions. -/
  | unitRecords (t : Nat)
  /-- UPL_COMMAND_END (R336): An upload command ends and posts its completion entry. -/
  | uplCommandEnd (t : Nat)
  /-- UPL_DONE_READ (R336): A read of UPL_DONE returns and removes the oldest completion. -/
  | uplDoneRead (t : Nat)
  /-- GAP_START (R350): The last row visit of the subframe ends; BLANK rises and CONFIG and SUBSYNC are sent. -/
  | gapStart (t : Nat)
  /-- READBACK_WINDOW_END (R395): The readback window closes and LFM applies the records to the fault map and zones. Operands: the records that each readback lane carried in the window. -/
  | readbackWindowEnd (groups : List (Nat × List Nat)) (t : Nat)
  /-- FLIP_SEND (R358): At T − 2 µs SCN sends FLIP when the load is complete, or abandons it. -/
  | flipSend (t : Nat)
  /-- LOAD_START (R357): SCN starts loading the target memory once the plane is complete and the target is free. -/
  | loadStart (t : Nat)
  /-- LOAD_DONE (R356): A subframe load completes. -/
  | loadDone (t : Nat)
  /-- LOAD_DEADLINE (R357): The latest start for the view 0 load passes and SCN loads the front plane instead. -/
  | loadDeadline (t : Nat)
  /-- BAND_CLOSE (R363): Under BAND_LOCKED a band closes, missing rows are repeated and its load starts. Operand: the band. -/
  | bandClose (b : Nat) (t : Nat)
  /-- BAND_FLIP (R364): A loaded band flips at the next cycle start at least 1 µs after its load. Operand: the band. -/
  | bandFlip (b : Nat) (t : Nat)
  /-- TT_CHECK (R369): A write of 1 to TT_CTRL.CHECK starts the Timetable checks. -/
  | ttCheck (t : Nat)
  /-- TT_CHECK_DONE (R369): The Timetable check completes and reports in TT_STAT. -/
  | ttCheckDone (t : Nat)
  /-- TT_SYNC_DONE (R347): The Timetable bank copy completes and stalled writes proceed. -/
  | ttSyncDone (t : Nat)
  /-- RAMP_STEP (R380): A rail setpoint moves one code toward its target. Operands: channel, output in mV and current in 10 mA after the step. -/
  | rampStep (c mv ma : Nat) (t : Nat)
  /-- RAIL_READY (R379): A rail in SOFTSTART reaches its setpoint and becomes READY. Operands: channel, output in mV, current in 10 mA. -/
  | railReady (c mv ma : Nat) (t : Nat)
  /-- DISCHARGED (R390): A discharging rail falls below 1 V and the channel turns off. Operands: channel, output in mV. -/
  | discharged (c mv : Nat) (t : Nat)
  /-- DIS_TIMEOUT (R389): Discharge lasts 20 ms with the output at 1 V or above and the channel faults. Operands: channel, output in mV, current in 10 mA. -/
  | disTimeout (c mv ma : Nat) (t : Nat)
  /-- OVERCURRENT (R388): OC_CYC consecutive current-limited cycles fault the channel and start discharge. Operands: channel, number of consecutive limited cycles, output in mV, current in 10 mA. -/
  | overcurrent (c cycles mv ma : Nat) (t : Nat)
  /-- OVERVOLTAGE (R389): The sensed output exceeds the setpoint by OV_MV for 2 µs and the channel faults. Operands: channel, output in mV, current in 10 mA. -/
  | overvoltage (c mv ma : Nat) (t : Nat)
  /-- UNDERVOLTAGE (R389): In READY the output stays below the setpoint by UV_MV for UV_US and the channel faults. Operands: channel, output in mV, current in 10 mA. -/
  | undervoltage (c mv ma : Nat) (t : Nat)
  /-- EXTERNAL (R389): FLT is asserted for 1 µs and the channel faults. Operands: channel, output in mV, current in 10 mA. -/
  | externalFault (c mv ma : Nat) (t : Nat)
  /-- CLR_FAULT (R379): A write of CH_CTRL.CLR_FAULT while DISCHARGED returns the channel to OFF. Operand: channel. -/
  | clrFault (c : Nat) (t : Nat)
  /-- AUX_LIMIT (R377): An auxiliary output stays in current limit for 10 ms and turns off. Operand: 0 for the 3.3 V output, 1 for the 1.8 V output. -/
  | auxLimit (k : Nat) (t : Nat)
  /-- AUX_RETRY (R377): Every 100 ms an overloaded auxiliary output retries. Operands: output, and whether its overload is gone. -/
  | auxRetry (k : Nat) (clear : Bool) (t : Nat)
  /-- LATCH_CLEAR (R401): A W1C write to a LATCH bit clears it and re-evaluates the zone. Operand: the ones written, bit z for zone z. -/
  | latchClear (mask : Nat) (t : Nat)
  /-- FAULT_MAP_WRITE (R396): Software writes a fault-map word, stalling while records are applied. Operands: offset in the window, bytes and value. -/
  | faultMapWrite (ofs n v : Nat) (t : Nat)
  /-- TRAIN_DONE (R412): DRAM channel training finds a working setting and the channel fills or enters self-refresh. Operands: the channel and its smallest margin in 1/256 UI. -/
  | trainDone (c margin : Nat) (t : Nat)
  /-- DRAM_TRAIN_TIMEOUT (R412): No working setting within 30 ms and the channel goes OFFLINE. Operand: the channel. -/
  | dramTrainTimeout (c : Nat) (t : Nat)
  /-- FILL_DONE (R414): The zero fill of a channel completes and it becomes READY. Operand: the channel. -/
  | fillDone (c : Nat) (t : Nat)
  /-- RESILVER_DONE (R418): The resilver of the tile region completes and MIRROR_OK is set. Operand: the channel. -/
  | resilverDone (c : Nat) (t : Nat)
  /-- RETRAIN_START (R415): INTERVAL or a temperature change makes a channel retrain in steps. Operand: the channel. -/
  | retrainStart (c : Nat) (t : Nat)
  /-- RETRAIN_END (R416): A retraining ends, leaving the channel READY or DEGRADED. Operands: the channel, and the margin found or none. -/
  | retrainEnd (c : Nat) (margin : Option Nat) (t : Nat)
  /-- RETRAIN_NOW (R415): A write of RETRAIN_NOW requests retraining at the next permitted occasion. Operand: the channel. -/
  | retrainNow (c : Nat) (t : Nat)
  /-- SR_ENTER (R420): A write of CH_CTRL.SR = 1 takes the channel, or the tile pair, into self-refresh or is refused. Operand: the channel. -/
  | srEnter (c : Nat) (t : Nat)
  /-- SR_EXIT (R420): A write of CH_CTRL.SR = 0 takes the channel out of self-refresh. Operand: the channel. -/
  | srExit (c : Nat) (t : Nat)
  /-- OFFLINE (R417): A write of CH_CTRL.OFFLINE takes the channel OFFLINE and redirects pending requests. Operand: the channel. -/
  | offlineChannel (c : Nat) (t : Nat)
  /-- RETURN (R418): A write of CH_CTRL.RETURN takes an OFFLINE channel back to TRAIN. Operand: the channel. -/
  | returnChannel (c : Nat) (t : Nat)
  /-- BIST_GO (R421): A write of BIST_GO starts a destructive test of the channel or is refused. Operand: the channel. -/
  | bistGo (c : Nat) (t : Nat)
  /-- BIST_DONE (R421): The channel test ends, reports its result and fills. Operands: the channel, and the first failing address or none. -/
  | bistDone (c : Nat) (bad : Option Nat) (t : Nat)
  /-- DRAM_ACCESS (R426): A port request reaches a DRAM channel and is served with parity checking or an error response. Operands: the port, the address, the bytes, write or read, the value written, the parity bits of the word that have flipped in storage in each copy, the latency in 10 ns, whether a queued write serves it, whether it stalled. -/
  | dramAccess (port a n : Nat) (wr : Bool) (v flip0 flip1 lat : Nat) (fwd stall : Bool) (t : Nat)
  /-- SRAM_PARITY (R431): A new mismatch in on-die SRAM poisons the word and is logged. Operands: the base of the page of the block, its array, the offset in the array, the mismatched bytes, the local address of the word, and for a packet held in ING's merge buffers its slot, leg and extended sequence number. -/
  | sramParity (b array ofs bytes loc : Nat) (pkt : Option (Nat × Nat × Nat)) (t : Nat)
  /-- PATROL_READ (R436): The patrol reader reads and checks the next region at its rate. -/
  | patrolRead (t : Nat)
  /-- PAT_BAD_READ (R436): A read of PAT_BAD returns and removes the oldest entry. -/
  | patBadRead (t : Nat)
  /-- BAR_ACCESS (R441): A PCIe BAR0 access is checked against the tenant's rules and served or refused. Operands: the function, the address, the bytes, and the value written (none: a read). -/
  | barAccess (fn a n : Nat) (v : Option Nat) (t : Nat)
  /-- DOORBELL (R444): A doorbell write sets a queue's TAIL, or is denied, or sets ERROR. Operands: the function, the queue and the value. -/
  | doorbell (fn q tail t : Nat)
  /-- DESCRIPTOR_FETCH (R445): A queue with room fetches and admits a descriptor against its rules. Operands: the queue, the bytes read from host memory, whether they are poisoned, and whether the read failed. -/
  | descriptorFetch (q : Nat) (bytes : List (BitVec 8)) (poison failed : Bool) (t : Nat)
  /-- TILE_REG_READ (R446): The dispatcher sends a TILE_REG READ as one REQ. Operands: the queue and the ring index of the descriptor. -/
  | tileRegRead (q idx t : Nat)
  /-- TILE_REG_WRITE (R446): The dispatcher sends a TILE_REG WRITE as one REQ. Operands: the queue and the ring index of the descriptor. -/
  | tileRegWrite (q idx t : Nat)
  /-- TILE_REG_WRITE_MASKED (R446): The dispatcher sends a TILE_REG WRITE_MASKED as one REQ. Operands: the queue and the ring index of the descriptor. -/
  | tileRegWriteMasked (q idx t : Nat)
  /-- TILE_REG_PING (R446): The dispatcher sends a TILE_REG PING. Operands: the queue and the ring index of the descriptor. -/
  | tileRegPing (q idx t : Nat)
  /-- LAYER_READ (R452): The dispatcher reads words of a layer block. Operands: the queue and the ring index of the descriptor. -/
  | layerRead (q idx t : Nat)
  /-- LAYER_WRITE (R452): The dispatcher writes words of a layer block. Operands: the queue and the ring index of the descriptor. -/
  | layerWrite (q idx t : Nat)
  /-- LAYER_WRITE_MASKED (R452): The dispatcher applies a masked write to a layer block word. Operands: the queue and the ring index of the descriptor. -/
  | layerWriteMasked (q idx t : Nat)
  /-- CARD_WRITE (R452): The dispatcher writes inline words into the staged card window. Operands: the queue and the ring index of the descriptor. -/
  | cardWrite (q idx t : Nat)
  /-- CARD_COPY (R448): The dispatcher copies host bytes into the staged card window. Operands: the queue, the ring index, the bytes read from host memory, and the offset of the first poisoned ones. -/
  | cardCopy (q idx : Nat) (data : List (BitVec 8)) (bad : Option Nat) (t : Nat)
  /-- UPLOAD (R448): The dispatcher sends host bytes to a tile's aperture as 8-word WRITE requests. Operands: the queue, the ring index, the 32 bytes of the next request read from host memory, and whether they are poisoned. -/
  | upload (q idx : Nat) (data : List (BitVec 8)) (bad : Bool) (t : Nat)
  /-- DEPART_WRITE (R449): The dispatcher writes a board entry and reads back ENT_STATUS. Operands: the queue and the ring index of the descriptor. -/
  | departWrite (q idx t : Nat)
  /-- DEPART_CANCEL (R449): The dispatcher cancels a board entry and reads back ENT_STATUS. Operands: the queue and the ring index of the descriptor. -/
  | departCancel (q idx t : Nat)
  /-- QUEUE_DISABLE (R450): A write of Q_CTRL.EN = 0 stops fetching and aborts undispatched descriptors. Operand: the queue. -/
  | queueDisable (q t : Nat)
  /-- RULE_COMMIT (R453): A write of RULE_CTRL.COMMIT brings staged rule slots into force and starts draining. -/
  | ruleCommit (t : Nat)
  /-- RULE_DONE (R453): No access of an older epoch remains and DRAINING clears. -/
  | ruleDone (t : Nat)
  /-- FLR (R455): A Function Level Reset resets the tenant's queues, jobs and mailbox. Operand: the function. -/
  | flr (f t : Nat)
  /-- PERST_N (R578): PERST_N falls after training and resets the link and tenant 0 with every VF. -/
  | perstN (t : Nat)
  /-- SEND (R458): A mailbox side writes SEND and queues its message or is refused. Operands: the channel and the side, 0 for A and 1 for B. -/
  | sendMessage (c k : Nat) (t : Nat)
  /-- POP (R458): A mailbox side writes POP and removes the oldest received message. Operands: the channel and the side, 0 for A and 1 for B. -/
  | popMessage (c k : Nat) (t : Nat)
  /-- MAILBOX_TIMEOUT (R459): The oldest message has been in flight for TMO and TIMEOUT sets. Operands: the channel and the sending side. -/
  | mailboxTimeout (c k : Nat) (t : Nat)
  /-- TEST_GO (R465): A write of TEST_CTRL with GO = 1 starts a self-test or refuses it. Operands: the fields of the write. -/
  | testGo (id target retries t : Nat)
  /-- TEST_DONE (R465): A self-test ends with its result. Operands: the result (1 PASS, 2 FAIL, 3 PREEMPTED) and the detail. -/
  | testDone (result detail t : Nat)
  /-- TEST_RESUME (R466): A preempted test runs again at the block's next idle interval. -/
  | testResume (t : Nat)
  /-- LEAD_WAIT_END (R472): Two frame periods pass with no far-end lead header and a LEAD-configured sender enters LEAD. -/
  | leadWaitEnd (t : Nat)
  /-- STREAM_GAP (R481): No VIDEO flit or frame header of a stream arrives within GAP_US, and the stream fails with LOSS. Operand: the port of the stream. -/
  | streamGap (p : Nat) (t : Nat)
  /-- HANDOVER (R490): A write of RDN_CTRL.HANDOVER in LEAD hands the lead to the other sender or is refused. -/
  | handover (t : Nat)
  /-- RESYNC (R479): A write of RDN_CTRL.RESYNC enters SYNCING and requests the image. -/
  | resyncRelief (t : Nat)
  /-- CLUSTER_STATE (R492): A member receives a CLUSTER_STATE record and follows the master's schedule and commands. Operand: the record. -/
  | clusterState (r : ClusterRec) (t : Nat)
  /-- EPOCH_REQUEST (R496): A write of REQ_CTRL.GO at the master issues PREPARE or refuses the request. -/
  | epochRequest (t : Nat)
  /-- EPOCH_CANCEL (R498): A write of REQ_CTRL.CANCEL at the master issues CANCEL before ARM. -/
  | epochCancel (t : Nat)
  /-- MASTER_LOST (R500): No master record arrives for LOSS departures and MASTER_LOST is set. -/
  | masterLost (t : Nat)
  /-- ROUND_DONE (R506): A housekeeping round ends and the 64 results are published and evaluated. Operands: the raw readings of the channels and VBUS. -/
  | roundDone (raw : List Int) (vb : Nat) (t : Nat)
  /-- GRACE_END (R512): The grace timer ends and the throttle is enforced. -/
  | graceEnd (t : Nat)
  /-- ENFORCE_NOW (R512): A write of HKT_CTRL.ENFORCE_NOW enforces a requested throttle at once. -/
  | enforceNow (t : Nat)
  /-- ENG_DIV_STEP (R514): A further grace period in ENFORCED without fallback sets ENG_DIV to 4. -/
  | engDivStep (t : Nat)
  /-- BROKEN_CLEAR (R510): A W1C write to a BROKEN bit ends the channel's broken declaration. Operand: the ones written, bit c for channel c. -/
  | brokenClear (mask : Nat) (t : Nat)
  /-- CAL_RUN (R523): A write of CAL_CTRL.RUN starts a field calibration over 16 rounds. -/
  | calRun (t : Nat)
  /-- FIELD_DONE (R523): The field calibration ends, writing the trims or failing. Operands: what slots 56 and 57 measured over the 16 rounds, in µV. -/
  | fieldDone (ref gnd : Int) (t : Nat)
  /-- CONFIRM_MC (R536): A write of FWU_CTRL.CONFIRM_MC confirms the MC image in TRIAL. -/
  | confirmMc (t : Nat)
  /-- CONFIRM_LC (R536): A write of FWU_CTRL.CONFIRM_LC confirms the LC image in TRIAL. -/
  | confirmLc (t : Nat)
  /-- CONFIRM_WINDOW_END (R536): A TRIAL image is not confirmed within CONFIRM_S; it becomes BAD and the processor reverts. Operand: the processor, 0 the MC and 1 the LC. -/
  | confirmWindowEnd (cpu t : Nat)
  /-- RB_COMMIT (R537): A write of FWU_CTRL.RB_COMMIT raises the rollback count by blowing fuses, or is refused. Operand: whether the service path or the secure state of the MC image writes it. -/
  | rbCommit (secure : Bool) (t : Nat)
  /-- CHECK_DONE (R532): An image or settings slot check ends and the slot becomes CHECKED or BAD. Operand: the slot of Table 18-1. -/
  | checkDone (k : Nat) (t : Nat)
  /-- SERVICE_FRAME (R544): The service port answers ARP or discards a frame that is not a service datagram. Operand: the frame. -/
  | serviceFrame (f : SvpFrame) (t : Nat)
  /-- SVP_LINK_UP (R552): The service port link comes up. -/
  | svpLinkUp (t : Nat)
  /-- SVP_LINK_DOWN (R552): The service port link goes down. -/
  | svpLinkDown (t : Nat)
  /-- REG_READ (R546): A service REG_READ datagram reads words locally or by a REQ with ISSUER 17. Operand: the datagram. -/
  | regRead (d : Dgram) (t : Nat)
  /-- REG_WRITE (R546): A service REG_WRITE datagram writes words locally or remotely. Operand: the datagram. -/
  | regWrite (d : Dgram) (t : Nat)
  /-- SLOT_OPEN (R547): A service SLOT_OPEN opens a slot for writing locally or as an SVC session. Operand: the datagram. -/
  | slotOpen (d : Dgram) (t : Nat)
  /-- SLOT_DATA (R547): A service SLOT_DATA delivers the next bytes for erase and programming, or replies BUSY. Operands: the datagram, and whether the staging buffer has no room for it. -/
  | slotData (d : Dgram) (full : Bool) (t : Nat)
  /-- SLOT_CLOSE (R546): A service SLOT_CLOSE closes the slot and starts its check. Operand: the datagram. -/
  | slotClose (d : Dgram) (t : Nat)
  /-- MBX (R546): A service MBX datagram sends a message on a secure channel and returns the oldest side-B message. Operand: the datagram. -/
  | mbx (d : Dgram) (t : Nat)
  /-- KEY_REVOKE (R546): A service KEY_REVOKE revokes a key slot unless an image in use depends on it. Operand: the datagram. -/
  | keyRevoke (d : Dgram) (t : Nat)
  /-- SESSION_TIMEOUT (R549): No segment of an open tile session for 5 s ends the session and the slot becomes BAD. -/
  | sessionTimeout (t : Nat)
  /-- ROW_SELECT_EDGE (R348): At the end of each row visit (T_row) SCN moves to the next row or refresh cycle, makes the row-select edge, runs the PLANE slots with their PLATCH, and raises LINE_MATCH at the chosen row and cycle. -/
  | rowSelectEdge (t : Nat)
deriving DecidableEq, Repr

end Sys2Proof
end

