-- ==== Sys2Proof/Decode.lean ====
section
/-!
DEFINITION. The command that a word spells. No row of spec/opcode_table.json gives bits: a command of this block is not
encoded in a word, so no word spells one.
-/
namespace Sys2Proof

/-- The command a word of `nbits` bits spells: none, since no row has an encoding. -/
def decodeTableWord (_nbits _w : Nat) : Option Instr := none

end Sys2Proof
end

