-- ==== Sys2Proof/Config.lean ====
section
/-!
DEFINITION. What an implementation fixes and the values the spec leaves open. Each is an opaque constant or function
with no body, so that nothing can be proved about its value beyond the bounds stated where it is used.
-/
namespace Sys2Proof.Config

/-- The part of a switch residual that has decayed after some cycles, in 2^-16 ns (R98 gives only the bound). -/
opaque slewDecay : Int → Nat → Nat

/-- The error of a mapped canvas coordinate (R157 gives only the bound), by axis, card coefficients and pixel. -/
opaque mapError : Nat → List Nat → Nat → Nat → Nat

/-- The next free value of a choice that the spec leaves open, by its index (`State.fresh`). -/
opaque choice : Nat → Nat

/-- Where the tile region's tables begin, in units of 4 KiB (R309 and R343 leave the place open). -/
opaque tileBase : Nat

/-- Which neighbour of the exact value a chain code decodes to (R313 allows one unit). -/
opaque decodeUp : Nat → Nat

/-- The size of an ANC ring, in units of 4 KiB, less one (R145 gives none). -/
opaque ancRing : Nat

/-- What the interval over which ING measures the rate of an ANC leg has beyond 1 ms, in cycles (R137 gives none). -/
opaque ancWindow : Nat

/-- The rounding of a picture value that the spec leaves open: whether step `site` rounds the quotient of its operands
up (1) or down (0). -/
opaque rounding : Nat → Int → Nat → Nat

/-- How far the working format of resampled code values reaches below 0 and above 1, in 2^-20 (R163 gives no range). -/
opaque workBelow : Nat
opaque workAbove : Nat

/-- Light of a code value below black, by TCS (Table 7-1 gives none), in 2^-20. -/
opaque belowBlack : Nat → Int → Int

/-- PQ light of a code value above 1, where ST 2084 ends, in 2^-20 (Table 7-1). -/
opaque pqAbove : Nat → Nat

/-- The register words that the data of a settings slot holds, as address and value, in the order in which the MC image writes
them; the format is the image's own (R542). -/
opaque settingWords : List (BitVec 8) → List (Nat × Nat)

/-- How many pixel pairs a packet of the monitor stream holds, less one (R198 gives none). -/
opaque gpmGroups : Nat

/-- The RTP sequence number of the monitor stream's first packet after reset (R198 gives none). -/
opaque monitorSeq : Nat

/-- Layout version, stepping and block-specific capabilities in the header of a block's pages, by the block's type (Table 3-2). -/
opaque pageLayout : Nat → Nat
opaque pageStep : Nat → Nat
opaque pageBlock : Nat → Nat

/-- The number of the on-die SRAM array that holds a local address (Table 14-6). -/
opaque sramArray : Nat → Nat

end Sys2Proof.Config
end

