-- ==== Sys2Proof/Machine/Flags.lean ====
section
/-!
DEFINITION. The event bits of every page (R81 and the event tables of spec/), by block and event name. Events that a
table gives per port, slot or layer name the first one's bit.
-/
namespace Sys2Proof.Machine

/-- Table 2-11: DEP.MODE_CUR changes for any cause. -/
def Ev.DEP.MODE_CHANGE : Nat := 24
/-- Table 2-11: A commit, epoch flip or start-up load of the mode word is refused. -/
def Ev.DEP.MODE_REJECT : Nat := 25
/-- Table 2-11: DEP.MODE_CTRL.FB_VALID falls from 1 to 0. -/
def Ev.DEP.FB_INVALID : Nat := 26
/-- Table 2-11: Departure E of an epoch change. -/
def Ev.DEP.DARK_START : Nat := 27
/-- Table 2-11: Departure E + D of an epoch change. -/
def Ev.DEP.DARK_END : Nat := 28
/-- Table 4-18: Domain enters LOCKED. -/
def Ev.TIM.D0_LOCK : Nat := 8
/-- Table 4-18: Domain enters LOCKED. -/
def Ev.TIM.D1_LOCK : Nat := 9
/-- Table 4-18: Domain enters HOLDOVER. -/
def Ev.TIM.D0_HOLDOVER : Nat := 10
/-- Table 4-18: Domain enters HOLDOVER. -/
def Ev.TIM.D1_HOLDOVER : Nat := 11
/-- Table 4-18: Wall domain changes. -/
def Ev.TIM.WALL_SWITCH : Nat := 12
/-- Table 4-18: Wall time steps. -/
def Ev.TIM.WALL_STEP : Nat := 13
/-- Table 4-18: Switch refused under R98. -/
def Ev.TIM.DOMAIN_FAR : Nat := 14
/-- Table 4-18: Table 4-10. -/
def Ev.TIM.TICK_LOSS : Nat := 15
/-- Table 4-18: Table 4-10. -/
def Ev.TIM.TICK_RELOCK : Nat := 16
/-- Table 4-18: Table 4-10. -/
def Ev.TIM.RATE_CONFIRMED : Nat := 17
/-- Table 4-18: Table 4-10. -/
def Ev.TIM.RATE_UNSUPPORTED : Nat := 18
/-- Table 4-18: R110. -/
def Ev.TIM.REFCLK_LOST : Nat := 19
/-- Table 4-18: Time clock returns to REFCLK. -/
def Ev.TIM.REFCLK_BACK : Nat := 20
/-- Table 4-18: A port's link delay becomes invalid under R100. -/
def Ev.TIM.LD_INVALID : Nat := 21
/-- Table 4-21: Each frame departure. -/
def Ev.DEP.FRAME_DEP : Nat := 8
/-- Table 4-21: Each view departure after view 0. -/
def Ev.DEP.VIEW_DEP : Nat := 9
/-- Table 4-21: An entry launches. -/
def Ev.DEP.ENT_FIRED : Nat := 10
/-- Table 4-21: An entry launches LATE. -/
def Ev.DEP.ENT_LATE : Nat := 11
/-- Table 4-21: An entry becomes MISSED. -/
def Ev.DEP.ENT_MISSED : Nat := 12
/-- Table 4-21: A MARK launches. -/
def Ev.DEP.BOARD_MARK : Nat := 13
/-- Table 4-21: A frame departure is skipped. -/
def Ev.DEP.DEP_SKIPPED : Nat := 14
/-- Table 4-21: A new schedule comes into force. -/
def Ev.DEP.SCHED_CHANGE : Nat := 15
/-- Table 5-7: Port p link comes up. -/
def Ev.ETH.LINK_UP : Nat := 8
/-- Table 5-7: Port p link goes down. -/
def Ev.ETH.LINK_DOWN : Nat := 12
/-- Table 5-7: Port p sees an uncorrectable codeword. -/
def Ev.ETH.FEC_UNCORR : Nat := 16
/-- Table 5-9: An enable is refused under R135. -/
def Ev.ING.ADMIT_REFUSED : Nat := 8
/-- Table 5-9: R147. -/
def Ev.ING.FOLLOW_LATE : Nat := 9
/-- Table 5-9: R147. -/
def Ev.ING.FOLLOW_OVERRUN : Nat := 10
/-- Table 5-9: Code 0x15 recorded under R146. -/
def Ev.ING.FOLLOW_INVALID : Nat := 11
/-- Table 5-12: Table 5-3. -/
def Ev.FLOW.FLOW_UP : Nat := 8
/-- Table 5-12: Table 5-3. -/
def Ev.FLOW.FLOW_LOST : Nat := 9
/-- Table 5-12: Table 5-3. -/
def Ev.FLOW.LEG_LOST : Nat := 10
/-- Table 5-12: Table 5-3. -/
def Ev.FLOW.LEG_BACK : Nat := 11
/-- Table 5-12: A frame is declared incomplete under R140. -/
def Ev.FLOW.INCOMPLETE : Nat := 12
/-- Table 5-12: R148. -/
def Ev.FLOW.RATE_MISMATCH : Nat := 13
/-- Table 6-8: A CHECK completes. -/
def Ev.MAP.CHECK_DONE : Nat := 8
/-- Table 6-8: The copy of R167 completes. -/
def Ev.MAP.SYNC_DONE : Nat := 9
/-- Table 6-8: A frame held at least one degenerate pixel. -/
def Ev.MAP.DEGENERATE : Nat := 10
/-- Table 6-8: A frame needed extra source bursts. -/
def Ev.MAP.REFETCH : Nat := 11
/-- Table 8-17: The port enters ACTIVE. -/
def Ev.LNK.LINK_UP : Nat := 8
/-- Table 8-17: The port goes down. -/
def Ev.LNK.LINK_DOWN : Nat := 9
/-- Table 8-17: The width changes, R228 and R249. -/
def Ev.LNK.WIDTH_CHANGE : Nat := 10
/-- Table 8-17: R234. -/
def Ev.LNK.LEVEL_DOWN : Nat := 11
/-- Table 8-17: Table 8-8. -/
def Ev.LNK.MISWIRED : Nat := 12
/-- Table 8-17: R246. -/
def Ev.LNK.REPLAY_EXHAUSTED : Nat := 13
/-- Table 8-17: R247. -/
def Ev.LNK.FWD_DROP : Nat := 14
/-- Table 8-17: Sender role: LINE_WIDTH, NARROW_STOP or BREAK changes. -/
def Ev.LNK.LINE_CHANGE : Nat := 15
/-- Table 8-17: R228. -/
def Ev.LNK.NO_LANE : Nat := 16
/-- Table 8-21: The lane becomes IN_SERVICE or SPARE. -/
def Ev.LNL.LANE_UP : Nat := 8
/-- Table 8-21: R248. -/
def Ev.LNL.LANE_FAULT : Nat := 9
/-- Table 8-21: The lane becomes FAILED. -/
def Ev.LNL.LANE_FAILED : Nat := 10
/-- Table 8-21: R231. -/
def Ev.LNL.FIX_FALLBACK : Nat := 11
/-- Table 9-12: Sender: a run ends, R268. -/
def Ev.LNE.ENUM_DONE : Nat := 8
/-- Table 9-12: Sender: R268. -/
def Ev.LNE.TOPO_CHANGE : Nat := 9
/-- Table 9-12: Sender: R268. -/
def Ev.LNE.OVERLONG : Nat := 10
/-- Table 9-12: Sender: R268. -/
def Ev.LNE.STOP_SKEW : Nat := 11
/-- Table 9-12: Sender: R288. -/
def Ev.LNE.STOP_SILENT : Nat := 12
/-- Table 9-12: Sender: a transaction completes EXECUTED_UNKNOWN. -/
def Ev.LNE.TXN_TIMEOUT : Nat := 13
/-- Table 9-12: Tile: LIVE to HOLD. -/
def Ev.LNE.HOLD_START : Nat := 14
/-- Table 9-12: Tile: entry to FADE. -/
def Ev.LNE.FADE_START : Nat := 15
/-- Table 9-12: Tile: entry to BLACK other than at reset. -/
def Ev.LNE.BLACK_START : Nat := 16
/-- Table 9-12: Tile: return to LIVE from any other state. -/
def Ev.LNE.LIVE_AGAIN : Nat := 17
/-- Table 9-12: Tile: R275. -/
def Ev.LNE.LCRC_MISMATCH : Nat := 18
/-- Table 9-12: Tile: R273. -/
def Ev.LNE.HUNT : Nat := 19
/-- Table 10-6: Sender role: R297. -/
def Ev.KLC.BOUND_EXCEEDED : Nat := 8
/-- Table 10-6: A job with IRQ = 1 completes. -/
def Ev.KLC.JOB_DONE : Nat := 9
/-- Table 10-6: A job ends BAD_DESC, BAD_RANGE, CORRUPT or POISONED. -/
def Ev.KLC.JOB_ERR : Nat := 10
/-- Table 10-6: A job ends NOT_REDUCIBLE. -/
def Ev.KLC.NOT_REDUCIBLE : Nat := 11
/-- Table 11-9: The last plane of a frame is complete. -/
def Ev.COR.PASS_DONE : Nat := 8
/-- Table 11-9: A completion is posted, R336. -/
def Ev.COR.UPL_DONE : Nat := 9
/-- Table 11-9: The copy of R328 completes. -/
def Ev.COR.SYNC_DONE : Nat := 10
/-- Table 11-9: R310. -/
def Ev.COR.GEOM_MISMATCH : Nat := 11
/-- Table 11-9: R330. -/
def Ev.COR.APER_REFUSED : Nat := 12
/-- Table 11-9: A zone enters substitution, R317. -/
def Ev.COR.ZONE_SUBST : Nat := 13
/-- Table 11-9: R326. -/
def Ev.COR.BANK_SWAP : Nat := 14
/-- Table 12-8: BLANK rises at the start of a gap. -/
def Ev.SCN.BLANK_START : Nat := 8
/-- Table 12-8: The row-select edge of row LINE_MATCH.ROW in cycle LINE_MATCH.SEG, in every subframe. -/
def Ev.SCN.LINE_MATCH : Nat := 9
/-- Table 12-8: Every load for the frame that the next frame departure shows is complete; under BAND_LOCKED, the last band of frame n has flipped. -/
def Ev.SCN.FRAME_DONE : Nat := 10
/-- Table 12-8: R23, R358, R365. -/
def Ev.SCN.UNDERRUN : Nat := 11
/-- Table 12-8: R358, R361. -/
def Ev.SCN.LOAD_LATE : Nat := 12
/-- Table 12-8: The copy of R347 completes. -/
def Ev.SCN.TT_SYNC_DONE : Nat := 13
/-- Table 12-8: A CHECK completes. -/
def Ev.SCN.TT_CHECK_DONE : Nat := 14
/-- Table 12-8: R365. -/
def Ev.SCN.BAND_REPEAT : Nat := 15
/-- Table 14-9: A training finds a setting. -/
def Ev.MEM.TRAIN_DONE : Nat := 8
/-- Table 14-9: R416. -/
def Ev.MEM.DEGRADED : Nat := 9
/-- Table 14-9: The channel enters OFFLINE. -/
def Ev.MEM.OFFLINE : Nat := 10
/-- Table 14-9: The channel enters READY from FILL or DEGRADED. -/
def Ev.MEM.CH_READY : Nat := 11
/-- Table 14-9: R423. -/
def Ev.MEM.DEADLINE_MISS : Nat := 12
/-- Table 14-9: Self-refresh entered. -/
def Ev.MEM.SR_ENTER : Nat := 13
/-- Table 14-9: Self-refresh left. -/
def Ev.MEM.SR_EXIT : Nat := 14
/-- Table 14-9: R421. -/
def Ev.MEM.BIST_DONE : Nat := 15
/-- Table 14-9: R419. -/
def Ev.MEM.MIRROR_LOST : Nat := 16
/-- Table 14-9: R418. -/
def Ev.MEM.MIRROR_BACK : Nat := 17
/-- Table 14-11: R429, mismatch not repaired. -/
def Ev.PAR.DRAM_PARITY : Nat := 8
/-- Table 14-11: R431. -/
def Ev.PAR.SRAM_PARITY : Nat := 9
/-- Table 14-11: R429, mismatch repaired. -/
def Ev.PAR.MIRROR_FIX : Nat := 10
/-- Table 14-11: R436. -/
def Ev.PAR.PATROL_BAD : Nat := 11
/-- Table 14-11: R436. -/
def Ev.PAR.PATROL_PASS : Nat := 12
/-- Table 14-11: Table 14-6. -/
def Ev.PAR.CHK_INJECTED : Nat := 13
/-- Table 15-11: Sender: a queue sets ERROR. -/
def Ev.QUE.QUEUE_ERROR : Nat := 8
/-- Table 15-11: R465. -/
def Ev.QUE.TEST_DONE : Nat := 9
/-- Table 15-11: Tile: R463. -/
def Ev.QUE.ACC_DROP : Nat := 10
/-- Table 15-11: Tile: R463. -/
def Ev.QUE.DUP_EVICT : Nat := 11
/-- Table 15-14: R453. -/
def Ev.TEN.RULE_DONE : Nat := 8
/-- Table 15-14: R454. -/
def Ev.TEN.RULE_REFUSED : Nat := 9
/-- Table 15-14: R441. -/
def Ev.TEN.DENIED : Nat := 10
/-- Table 15-14: A tenant reset completes, R455. -/
def Ev.TEN.FLR : Nat := 11
/-- Table 15-16: A message for side A arrives. -/
def Ev.MBX.A_MSG : Nat := 8
/-- Table 15-16: R458, side A's messages all removed. -/
def Ev.MBX.A_EMPTY : Nat := 9
/-- Table 15-16: R459, side A. -/
def Ev.MBX.A_TIMEOUT : Nat := 10
/-- Table 15-16: A message for side B arrives. -/
def Ev.MBX.B_MSG : Nat := 11
/-- Table 15-16: R458, side B. -/
def Ev.MBX.B_EMPTY : Nat := 12
/-- Table 15-16: R459, side B. -/
def Ev.MBX.B_TIMEOUT : Nat := 13
/-- Table 16-8: R486. -/
def Ev.RDN.POINTS : Nat := 8
/-- Table 16-8: Table 16-1. -/
def Ev.RDN.DEPOSED : Nat := 9
/-- Table 16-8: R480. -/
def Ev.RDN.MISMATCH : Nat := 10
/-- Table 16-8: Table 16-1. -/
def Ev.RDN.SYNC_DONE : Nat := 11
/-- Table 16-8: R478. -/
def Ev.RDN.SYNC_LOST : Nat := 12
/-- Table 16-8: Table 16-1. -/
def Ev.RDN.LEAD_FAIL : Nat := 13
/-- Table 16-8: R490. -/
def Ev.RDN.HANDOVER_REFUSED : Nat := 14
/-- Table 16-10: A PREPARE is received or issued. -/
def Ev.CLU.EPOCH_PREPARED : Nat := 8
/-- Table 16-10: R498. -/
def Ev.CLU.EPOCH_ARMED : Nat := 9
/-- Table 16-10: R496, R498. -/
def Ev.CLU.EPOCH_CANCELLED : Nat := 10
/-- Table 16-10: This member or, at the master, any member is late. -/
def Ev.CLU.EPOCH_LATE : Nat := 11
/-- Table 16-10: R500. -/
def Ev.CLU.MASTER_LOST : Nat := 12
/-- Table 16-10: R500. -/
def Ev.CLU.MASTER_BACK : Nat := 13
/-- Table 16-10: A unit of this member enters OUT_OF_TIME. -/
def Ev.CLU.OUT_OF_TIME : Nat := 14
/-- Table 16-10: R501. -/
def Ev.CLU.DIGEST_MISMATCH : Nat := 15
/-- Table 16-10: R503. -/
def Ev.CLU.LEVEL_DOWN : Nat := 16
/-- Table 16-10: R499. -/
def Ev.CLU.CATCHUP : Nat := 17
/-- Table 18-10: A check ends. -/
def Ev.FWU.CHECK_DONE : Nat := 8
/-- Table 18-10: An activation is accepted. -/
def Ev.FWU.ACTIVATED : Nat := 9
/-- Table 18-10: R537, R538. -/
def Ev.FWU.ACT_REFUSED : Nat := 10
/-- Table 18-10: R536. -/
def Ev.FWU.REVERTED : Nat := 11
/-- Table 18-10: R543. -/
def Ev.FWU.SETTINGS_MIGRATED : Nat := 12
/-- Table 18-10: A session ends. -/
def Ev.FWU.SESSION_DONE : Nat := 13
/-- Event OVERLAP of the CMP page. -/
def Ev.CMP.OVERLAP : Nat := 8
/-- Event FADE_DONE of the LAY page. -/
def Ev.LAY.FADE_DONE : Nat := 8
/-- Event NO_KEY of the LAY page. -/
def Ev.LAY.NO_KEY : Nat := 10
/-- Event SYNC_DONE of the SPI page. -/
def Ev.SPI.SYNC_DONE : Nat := 8
/-- Event CONTENT_BAD of the SPI page. -/
def Ev.SPI.CONTENT_BAD : Nat := 9
/-- Event MFADE_DONE of the COL page. -/
def Ev.COL.MFADE_DONE : Nat := 8
/-- Event MON_DROP of the COL page. -/
def Ev.COL.MON_DROP : Nat := 9
/-- Event AUX33_LIM of the PWR page. -/
def Ev.PWR.AUX33_LIM : Nat := 8
/-- Event AUX18_LIM of the PWR page. -/
def Ev.PWR.AUX18_LIM : Nat := 9
/-- Event CLK_SWITCH of the RCK page. -/
def Ev.RCK.CLK_SWITCH : Nat := 8
/-- Event RAIL_FAULT of the RAI page. -/
def Ev.RAI.RAIL_FAULT : Nat := 8
/-- Event RAMP_LATE of the RAI page. -/
def Ev.RAI.RAMP_LATE : Nat := 9
/-- Event REJECT of the RAI page. -/
def Ev.RAI.REJECT : Nat := 10
/-- Event RAIL_READY of the RAI page. -/
def Ev.RAI.RAIL_READY : Nat := 11
/-- Event DISCHARGED of the RAI page. -/
def Ev.RAI.DISCHARGED : Nat := 12
/-- Event STEP_IGNORED of the RAI page. -/
def Ev.RAI.STEP_IGNORED : Nat := 13
/-- Event LAMP_FAULT of the LFM page. -/
def Ev.LFM.LAMP_FAULT : Nat := 8
/-- Event ZONE_DARK of the LFM page. -/
def Ev.LFM.ZONE_DARK : Nat := 9
/-- Event TILE_DARK of the LFM page. -/
def Ev.LFM.TILE_DARK : Nat := 10
/-- Event SPIRE_DARK of the LFM page. -/
def Ev.LFM.SPIRE_DARK : Nat := 11
/-- Event BLIND of the LFM page. -/
def Ev.LFM.BLIND : Nat := 12
/-- Event REC_ERR of the LFM page. -/
def Ev.LFM.REC_ERR : Nat := 13
/-- Event ROUND_DONE of the HKT page. -/
def Ev.HKT.ROUND_DONE : Nat := 8
/-- Event WARN of the HKT page. -/
def Ev.HKT.WARN : Nat := 9
/-- Event THROTTLE_REQ of the HKT page. -/
def Ev.HKT.THROTTLE_REQ : Nat := 10
/-- Event THROTTLE_ENFORCED of the HKT page. -/
def Ev.HKT.THROTTLE_ENFORCED : Nat := 11
/-- Event THROTTLE_END of the HKT page. -/
def Ev.HKT.THROTTLE_END : Nat := 12
/-- Event SENSOR_BROKEN of the HKT page. -/
def Ev.HKT.SENSOR_BROKEN : Nat := 13
/-- Event SHUTDOWN of the HKT page. -/
def Ev.HKT.SHUTDOWN : Nat := 14
/-- Event FIELD_DONE of the CAL page. -/
def Ev.CAL.FIELD_DONE : Nat := 8
/-- Event FUSE_BAD of the CAL page. -/
def Ev.CAL.FUSE_BAD : Nat := 9
/-- Event LINK_UP of the SVP page. -/
def Ev.SVP.LINK_UP : Nat := 8
/-- Event LINK_DOWN of the SVP page. -/
def Ev.SVP.LINK_DOWN : Nat := 9
/-- Event DGRAM_DROP of the SVP page. -/
def Ev.SVP.DGRAM_DROP : Nat := 10
/-- Event FAULT of the PG page. -/
def Ev.PG.FAULT : Nat := 0
/-- Event POISON of the PG page. -/
def Ev.PG.POISON : Nat := 1
/-- Event COMMIT_DONE of the PG page. -/
def Ev.PG.COMMIT_DONE : Nat := 2
/-- Event COMMIT_REFUSED of the PG page. -/
def Ev.PG.COMMIT_REFUSED : Nat := 3
/-- Event ERR_LOGGED of the PG page. -/
def Ev.PG.ERR_LOGGED : Nat := 4
/-- Event BLANK_START of the OTG page. -/
def Ev.OTG.BLANK_START : Nat := 8
/-- Event LINE_MATCH of the OTG page. -/
def Ev.OTG.LINE_MATCH : Nat := 9
/-- Event FRAME_DONE of the OTG page. -/
def Ev.OTG.FRAME_DONE : Nat := 10
/-- Event UNDERRUN of the OTG page. -/
def Ev.OTG.UNDERRUN : Nat := 11
/-- Event ABORT of the OTG page. -/
def Ev.OTG.ABORT : Nat := 12

end Sys2Proof.Machine
end

