-- ==== Sys2Proof/Machine/Regs.lean ====
section
/-!
DEFINITION. The named register fields of every page, one `Fld` per field, read off the register tables of spec/
(each section names its table). A field's `addr` is the register's address in the 32 MiB space of R65, `lsb` and
`width` its place in the word, `rst` its reset value (Sender column where a table gives one per role; fields
whose reset is a fuse, strap, boot result or flash content hold 0 here and are loaded by `Ops.loadFused`).
Arguments: first the page instance where the block has several pages, then the index inside the page.
-/
namespace Sys2Proof.Machine

/-- The tone curve after reset (R188): entry i is min(1.0, 16 (2^(10 i/256) - 1)/1023) in units of 2^-20, to the nearest unit. -/
def curveTable : List Nat :=
  [0, 450, 913, 1388, 1876, 2378, 2893, 3422, 3966, 4525, 5100, 5690, 6296, 6919, 7559, 8217, 8892, 9586, 10300, 11032, 11785, 12559, 13354, 14170, 15009, 15871, 16757, 17667, 18602, 19563, 20550, 21564, 22606, 23677, 24777, 25907, 27068, 28261, 29487, 30746] ++
  [32040, 33369, 34735, 36139, 37581, 39062, 40585, 42149, 43756, 45407, 47103, 48846, 50637, 52476, 54367, 56309, 58305, 60355, 62462, 64626, 66850, 69135, 71482, 73894, 76372, 78919, 81535, 84223, 86984, 89822, 92737, 95733, 98810, 101972, 105221, 108559, 111989, 115513, 119133, 122853] ++
  [126675, 130602, 134636, 138781, 143041, 147417, 151913, 156532, 161278, 166155, 171165, 176313, 181603, 187037, 192620, 198357, 204251, 210307, 216530, 222923, 229491, 236240, 243174, 250298, 257618, 265138, 272865, 280805, 288962, 297343, 305954, 314801, 323891, 333231, 342827, 352686, 362816, 373224, 383917, 394904] ++
  [406193, 417792, 429708, 441952, 454532, 467457, 480737, 494382, 508400, 522804, 537603, 552808, 568431, 584482, 600974, 617918, 635328, 653215, 671593, 690476, 709877, 729810, 750290, 771333, 792953, 815166, 837990, 861439, 885532, 910287, 935720, 961852, 988701, 1016287, 1044630]

/-- Entry i of any one channel's curve after reset; entries from 155 up are 1.0. -/
def curveReset (k : Nat) : Nat := curveTable.getD (k % 257) 0x100000

namespace R
/-! TIM: Table 4-16. -/
def TIM.TIM_CTRL.WALL_SEL : Fld := ⟨0x8100, 0, 1, 0⟩
def TIM.TIM_CTRL.AUTO_SWITCH : Fld := ⟨0x8100, 1, 1, 1⟩
def TIM.TIM_CTRL.STEP_EN : Fld := ⟨0x8100, 2, 1, 0⟩
def TIM.TIM_CTRL.SWITCH_NOW : Fld := ⟨0x8100, 3, 1, 0⟩
def TIM.TIM_CTRL.FORCE : Fld := ⟨0x8100, 4, 1, 0⟩
def TIM.TIM_CTRL.FRAME_SRC : Fld := ⟨0x8100, 8, 2, 0⟩
def TIM.TIM_STAT.TIME_VALID : Fld := ⟨0x8104, 0, 1, 0⟩
def TIM.TIM_STAT.WALL_DOM : Fld := ⟨0x8104, 1, 1, 0⟩
def TIM.TIM_STAT.SLEWING : Fld := ⟨0x8104, 2, 1, 0⟩
def TIM.TIM_STAT.HOLDOVER : Fld := ⟨0x8104, 3, 1, 0⟩
def TIM.TIM_STAT.D0_STATE : Fld := ⟨0x8104, 4, 3, 1⟩
def TIM.TIM_STAT.D1_STATE : Fld := ⟨0x8104, 8, 3, 1⟩
def TIM.TIM_STAT.TICK_STATE : Fld := ⟨0x8104, 12, 2, 0⟩
def TIM.TIM_STAT.ON_INTOSC : Fld := ⟨0x8104, 16, 1, 0⟩
def TIM.FRC_LO.V : Fld := ⟨0x8108, 0, 32, 0⟩
def TIM.FRC_HI.V : Fld := ⟨0x810c, 0, 32, 0⟩
def TIM.WALL_LO.V : Fld := ⟨0x8110, 0, 32, 0⟩
def TIM.WALL_HI.V : Fld := ⟨0x8114, 0, 32, 0⟩
def TIM.WALL_FRAC.V : Fld := ⟨0x8118, 0, 16, 0⟩
def TIM.SLEW_MAX.V : Fld := ⟨0x8120, 0, 16, 100⟩
def TIM.SWITCH_MAX.V : Fld := ⟨0x8124, 0, 32, 1000⟩
def TIM.RATE_CUR.RATE : Fld := ⟨0x8128, 0, 4, 9⟩
def TIM.RATE_NEXT.RATE : Fld := ⟨0x812c, 0, 4, 9⟩
def TIM.ALIGN_OFS.V : Fld := ⟨0x8130, 0, 32, 0⟩
def TIM.TICK_OFS.V : Fld := ⟨0x8134, 0, 32, 0⟩
def TIM.TICK_CFG.TC : Fld := ⟨0x8138, 0, 4, 4⟩
def TIM.TICK_CFG.POL : Fld := ⟨0x8138, 4, 1, 0⟩
def TIM.TICK_CFG.RATE_SEEN : Fld := ⟨0x8138, 8, 4, 15⟩
def TIM.TICK_CNT.OUT_TICKS : Fld := ⟨0x813c, 0, 16, 0⟩
def TIM.TICK_CNT.MISSES : Fld := ⟨0x813c, 16, 16, 0⟩
def TIM.SCHED_N0_LO.N0 : Fld := ⟨0x8140, 0, 32, 0⟩
def TIM.SCHED_N0_HI.N0 : Fld := ⟨0x8144, 0, 32, 0⟩
def TIM.SCHED_T0_LO.T0 : Fld := ⟨0x8148, 0, 32, 0⟩
def TIM.SCHED_T0_HI.T0 : Fld := ⟨0x814c, 0, 32, 0⟩
def TIM.PPS_CFG.EN : Fld := ⟨0x8150, 0, 1, 0⟩
def TIM.PPS_CFG.WIDTH : Fld := ⟨0x8150, 8, 8, 10⟩
def TIM.LINE_TIME_CFG.INTERVAL_EXP : Fld := ⟨0x8154, 0, 4, 13⟩
def TIM.LD.V (i : Nat) : Fld := ⟨0x8160 + i * 4, 0, 32, 0⟩
def TIM.ASYM.V (i : Nat) : Fld := ⟨0x8168 + i * 4, 0, 32, 0⟩
def TIM.DOM_CFG.EN (k : Nat) : Fld := ⟨0x8180 + k * 0x20, 0, 1, 1⟩
def TIM.DOM_CFG.PORT (k : Nat) : Fld := ⟨0x8180 + k * 0x20, 1, 2, k⟩
def TIM.DOM_CFG.PTP_DOMAIN (k : Nat) : Fld := ⟨0x8180 + k * 0x20, 8, 8, 127⟩
def TIM.DOM_CFG.LOCK_THR (k : Nat) : Fld := ⟨0x8180 + k * 0x20, 16, 8, 50⟩
def TIM.DOM_STAT.STATE (k : Nat) : Fld := ⟨0x8184 + k * 0x20, 0, 3, 1⟩
def TIM.DOM_STAT.LOCK_RUN (k : Nat) : Fld := ⟨0x8184 + k * 0x20, 8, 8, 0⟩
def TIM.DOM_STAT.REJECTED (k : Nat) : Fld := ⟨0x8184 + k * 0x20, 16, 16, 0⟩
def TIM.DOM_RATE.RATE (k : Nat) : Fld := ⟨0x8188 + k * 0x20, 0, 32, 0⟩
def TIM.DOM_OFFSET.OFFSET (k : Nat) : Fld := ⟨0x818c + k * 0x20, 0, 32, 0⟩
def TIM.DOM_DELAY.DELAY (k : Nat) : Fld := ⟨0x8190 + k * 0x20, 0, 32, 0⟩
def TIM.DOM_MEAS.MEAS (k : Nat) : Fld := ⟨0x8194 + k * 0x20, 0, 32, 0⟩
def TIM.DOM_LOOP.KP_SHIFT (k : Nat) : Fld := ⟨0x8198 + k * 0x20, 0, 5, 3⟩
def TIM.DOM_LOOP.KI_SHIFT (k : Nat) : Fld := ⟨0x8198 + k * 0x20, 8, 5, 7⟩
def TIM.DOM_LOST.COUNT (k : Nat) : Fld := ⟨0x819c + k * 0x20, 0, 8, 3⟩
/-! DEP: Table 4-19. -/
def DEP.DEP_CTRL.GUARD : Fld := ⟨0x9120, 0, 8, 2⟩
def DEP.DEP_STAT.ARMED : Fld := ⟨0x9124, 0, 9, 0⟩
def DEP.DEP_STAT.NEXT_IDX : Fld := ⟨0x9124, 16, 8, 0⟩
def DEP.FRAME_LO.FRAME : Fld := ⟨0x9128, 0, 32, 0⟩
def DEP.FRAME_HI.FRAME : Fld := ⟨0x912c, 0, 32, 0⟩
def DEP.ENT_SEL.IDX : Fld := ⟨0x9130, 0, 8, 0⟩
def DEP.ENT_TIME_LO.TIME : Fld := ⟨0x9134, 0, 32, 0⟩
def DEP.ENT_TIME_HI.TIME : Fld := ⟨0x9138, 0, 32, 0⟩
def DEP.ENT_ACT.ACTION : Fld := ⟨0x913c, 0, 8, 0⟩
def DEP.ENT_ACT.FORM : Fld := ⟨0x913c, 8, 1, 0⟩
def DEP.ENT_ACT.LATE_OK : Fld := ⟨0x913c, 9, 1, 0⟩
def DEP.ENT_ARG.ARG : Fld := ⟨0x9140, 0, 32, 0⟩
def DEP.ENT_OFS.OFS : Fld := ⟨0x9144, 0, 32, 0⟩
def DEP.ENT_CMD.OP : Fld := ⟨0x9148, 0, 2, 0⟩
def DEP.ENT_STATUS.STATE : Fld := ⟨0x914c, 0, 3, 0⟩
def DEP.ENT_STATUS.RESULT : Fld := ⟨0x914c, 4, 4, 0⟩
def DEP.VPHASE.V (i : Nat) : Fld := ⟨0x9150 + i * 4, 0, 32, 0⟩
def DEP.VPHASE_CUR.VPHASE (i : Nat) : Fld := ⟨0x915c + i * 4, 0, 32, 0⟩
def DEP.TICKOUT_CFG.EN : Fld := ⟨0x9168, 0, 1, 0⟩
def DEP.TICKOUT_CFG.SRC : Fld := ⟨0x9168, 1, 2, 0⟩
def DEP.TICKOUT_CFG.POL : Fld := ⟨0x9168, 3, 1, 0⟩
def DEP.TICKOUT_CFG.WIDTH : Fld := ⟨0x9168, 8, 8, 10⟩
def DEP.TICKOUT_OFS.OFS : Fld := ⟨0x916c, 0, 32, 0⟩
def DEP.MARK_TAG.TAG : Fld := ⟨0x9170, 0, 16, 0⟩
def DEP.LATE_CNT.LATE : Fld := ⟨0x9174, 0, 32, 0⟩
def DEP.MISSED_CNT.MISSED : Fld := ⟨0x9178, 0, 32, 0⟩
def DEP.SKIP_CNT.SKIPPED : Fld := ⟨0x917c, 0, 32, 0⟩
/-! ETH: Table 5-6. -/
def ETH.ETH_CFG.MODE : Fld := ⟨0x30100, 0, 1, 0⟩
def ETH.ETH_CFG.AN_EN : Fld := ⟨0x30100, 1, 1, 1⟩
def ETH.PORT_CTRL.EN (k : Nat) : Fld := ⟨0x30140 + k * 0x40, 0, 1, 0⟩
def ETH.PORT_CTRL.KR (k : Nat) : Fld := ⟨0x30140 + k * 0x40, 1, 1, 0⟩
def ETH.PORT_CTRL.EXT_UDP (k : Nat) : Fld := ⟨0x30140 + k * 0x40, 2, 1, 1⟩
def ETH.PORT_STAT.LINK_UP (k : Nat) : Fld := ⟨0x30144 + k * 0x40, 0, 1, 0⟩
def ETH.PORT_STAT.AN_DONE (k : Nat) : Fld := ⟨0x30144 + k * 0x40, 1, 1, 0⟩
def ETH.PORT_STAT.ALIGN_LOCK (k : Nat) : Fld := ⟨0x30144 + k * 0x40, 2, 1, 0⟩
def ETH.PORT_STAT.FEC_LOCK (k : Nat) : Fld := ⟨0x30144 + k * 0x40, 3, 1, 0⟩
def ETH.MAC_LO.MAC (k : Nat) : Fld := ⟨0x30148 + k * 0x40, 0, 32, 0⟩
def ETH.MAC_HI.MAC (k : Nat) : Fld := ⟨0x3014c + k * 0x40, 0, 16, 0⟩
def ETH.IPV4.ADDR (k : Nat) : Fld := ⟨0x30150 + k * 0x40, 0, 32, 0⟩
def ETH.VLAN.VID (k : Nat) : Fld := ⟨0x30154 + k * 0x40, 0, 12, 0⟩
def ETH.VLAN.TAGGED (k : Nat) : Fld := ⟨0x30154 + k * 0x40, 12, 1, 0⟩
def ETH.RX_FRAMES.COUNT (k : Nat) : Fld := ⟨0x30158 + k * 0x40, 0, 32, 0⟩
def ETH.RX_DROP.COUNT (k : Nat) : Fld := ⟨0x3015c + k * 0x40, 0, 32, 0⟩
def ETH.FCS_ERR.COUNT (k : Nat) : Fld := ⟨0x30160 + k * 0x40, 0, 32, 0⟩
def ETH.FEC_CORR.COUNT (k : Nat) : Fld := ⟨0x30164 + k * 0x40, 0, 32, 0⟩
def ETH.FEC_UNCORR.COUNT (k : Nat) : Fld := ⟨0x30168 + k * 0x40, 0, 32, 0⟩
def ETH.TX_FRAMES.COUNT (k : Nat) : Fld := ⟨0x3016c + k * 0x40, 0, 32, 0⟩
def ETH.RX_OVERSIZE.COUNT (k : Nat) : Fld := ⟨0x30170 + k * 0x40, 0, 32, 0⟩
/-! ING: Table 5-8. -/
def ING.ING_CTRL.LEG_TIMEOUT : Fld := ⟨0x40100, 0, 8, 10⟩
def ING.ING_CTRL.FLOW_TIMEOUT : Fld := ⟨0x40100, 8, 8, 50⟩
def ING.FS_BASE_LO.BASE : Fld := ⟨0x40104, 0, 32, 0⟩
def ING.FS_BASE_HI.BASE : Fld := ⟨0x40108, 0, 32, 0⟩
def ING.FS_SIZE.MIB : Fld := ⟨0x4010c, 0, 16, 0⟩
def ING.FS_FREE.MIB : Fld := ⟨0x40110, 0, 16, 0⟩
def ING.LOAD.GBPS : Fld := ⟨0x40114, 0, 16, 0⟩
def ING.PORT_LOAD.GBPS (i : Nat) : Fld := ⟨0x40118 + i * 4, 0, 16, 0⟩
def ING.FOLLOW.SLOT : Fld := ⟨0x40128, 0, 4, 0⟩
def ING.FOLLOW.EN : Fld := ⟨0x40128, 8, 1, 0⟩
def ING.FOLLOW.VALID : Fld := ⟨0x40128, 9, 1, 0⟩
def ING.FOLLOW.RING_EXP : Fld := ⟨0x40128, 16, 4, 8⟩
def ING.FOLLOW_CNT.LATE : Fld := ⟨0x4012c, 0, 16, 0⟩
def ING.FOLLOW_CNT.OVERRUN : Fld := ⟨0x4012c, 16, 16, 0⟩
def ING.SKEW_MAX.US : Fld := ⟨0x40130, 0, 12, 1000⟩
/-! FLOW: Table 5-10. -/
def FLOW.FLOW_CTRL.EN (k : Nat) : Fld := ⟨0x48100 + k / 4 * 0x1000 + k % 4 * 0x200, 0, 1, 0⟩
def FLOW.FLOW_CTRL.LEGA_EN (k : Nat) : Fld := ⟨0x48100 + k / 4 * 0x1000 + k % 4 * 0x200, 1, 1, 0⟩
def FLOW.FLOW_CTRL.LEGB_EN (k : Nat) : Fld := ⟨0x48100 + k / 4 * 0x1000 + k % 4 * 0x200, 2, 1, 0⟩
def FLOW.FLOW_CTRL.FS_DEPTH (k : Nat) : Fld := ⟨0x48100 + k / 4 * 0x1000 + k % 4 * 0x200, 3, 3, 3⟩
def FLOW.FLOW_CTRL.LOSS_POLICY (k : Nat) : Fld := ⟨0x48100 + k / 4 * 0x1000 + k % 4 * 0x200, 6, 2, 0⟩
def FLOW.FLOW_CTRL.LOSS_HOLD (k : Nat) : Fld := ⟨0x48100 + k / 4 * 0x1000 + k % 4 * 0x200, 8, 8, 6⟩
def FLOW.FLOW_CTRL.PAIR (k : Nat) : Fld := ⟨0x48100 + k / 4 * 0x1000 + k % 4 * 0x200, 16, 5, 0⟩
def FLOW.FLOW_CTRL.PAIR_EN (k : Nat) : Fld := ⟨0x48100 + k / 4 * 0x1000 + k % 4 * 0x200, 21, 1, 0⟩
def FLOW.FLOW_FMT.SAMPLING (k : Nat) : Fld := ⟨0x48104 + k / 4 * 0x1000 + k % 4 * 0x200, 0, 3, 0⟩
def FLOW.FLOW_FMT.DEPTH (k : Nat) : Fld := ⟨0x48104 + k / 4 * 0x1000 + k % 4 * 0x200, 4, 2, 1⟩
def FLOW.FLOW_FMT.PACKING (k : Nat) : Fld := ⟨0x48104 + k / 4 * 0x1000 + k % 4 * 0x200, 6, 1, 0⟩
def FLOW.FLOW_FMT.TCS (k : Nat) : Fld := ⟨0x48104 + k / 4 * 0x1000 + k % 4 * 0x200, 8, 3, 0⟩
def FLOW.FLOW_FMT.COLORIMETRY (k : Nat) : Fld := ⟨0x48104 + k / 4 * 0x1000 + k % 4 * 0x200, 12, 3, 1⟩
def FLOW.FLOW_FMT.RANGE (k : Nat) : Fld := ⟨0x48104 + k / 4 * 0x1000 + k % 4 * 0x200, 16, 2, 0⟩
def FLOW.FLOW_FMT.RATE (k : Nat) : Fld := ⟨0x48104 + k / 4 * 0x1000 + k % 4 * 0x200, 20, 4, 9⟩
def FLOW.FLOW_FMT.TP (k : Nat) : Fld := ⟨0x48104 + k / 4 * 0x1000 + k % 4 * 0x200, 24, 2, 0⟩
def FLOW.FLOW_SIZE.WIDTH (k : Nat) : Fld := ⟨0x48108 + k / 4 * 0x1000 + k % 4 * 0x200, 0, 14, 1920⟩
def FLOW.FLOW_SIZE.HEIGHT (k : Nat) : Fld := ⟨0x48108 + k / 4 * 0x1000 + k % 4 * 0x200, 16, 13, 1080⟩
def FLOW.FLOW_STAT.STATE (k : Nat) : Fld := ⟨0x4810c + k / 4 * 0x1000 + k % 4 * 0x200, 0, 3, 0⟩
def FLOW.FLOW_STAT.LEGA_UP (k : Nat) : Fld := ⟨0x4810c + k / 4 * 0x1000 + k % 4 * 0x200, 3, 1, 0⟩
def FLOW.FLOW_STAT.LEGB_UP (k : Nat) : Fld := ⟨0x4810c + k / 4 * 0x1000 + k % 4 * 0x200, 4, 1, 0⟩
def FLOW.FLOW_STAT.PAIR_WAIT (k : Nat) : Fld := ⟨0x4810c + k / 4 * 0x1000 + k % 4 * 0x200, 5, 1, 0⟩
def FLOW.FLOW_STAT.SKEW (k : Nat) : Fld := ⟨0x4810c + k / 4 * 0x1000 + k % 4 * 0x200, 16, 16, 0⟩
def FLOW.LEGA_DST.ADDR (k : Nat) : Fld := ⟨0x48110 + k / 4 * 0x1000 + k % 4 * 0x200, 0, 32, 0⟩
def FLOW.LEGB_DST.ADDR (k : Nat) : Fld := ⟨0x48120 + k / 4 * 0x1000 + k % 4 * 0x200, 0, 32, 0⟩
def FLOW.LEGA_SRC.ADDR (k : Nat) : Fld := ⟨0x48114 + k / 4 * 0x1000 + k % 4 * 0x200, 0, 32, 0⟩
def FLOW.LEGB_SRC.ADDR (k : Nat) : Fld := ⟨0x48124 + k / 4 * 0x1000 + k % 4 * 0x200, 0, 32, 0⟩
def FLOW.LEGA_PORT.UDP (k : Nat) : Fld := ⟨0x48118 + k / 4 * 0x1000 + k % 4 * 0x200, 0, 16, 0⟩
def FLOW.LEGA_PORT.ETH (k : Nat) : Fld := ⟨0x48118 + k / 4 * 0x1000 + k % 4 * 0x200, 16, 2, 0⟩
def FLOW.LEGA_PORT.PT (k : Nat) : Fld := ⟨0x48118 + k / 4 * 0x1000 + k % 4 * 0x200, 24, 7, 0⟩
def FLOW.LEGB_PORT.UDP (k : Nat) : Fld := ⟨0x48128 + k / 4 * 0x1000 + k % 4 * 0x200, 0, 16, 0⟩
def FLOW.LEGB_PORT.ETH (k : Nat) : Fld := ⟨0x48128 + k / 4 * 0x1000 + k % 4 * 0x200, 16, 2, 0⟩
def FLOW.LEGB_PORT.PT (k : Nat) : Fld := ⟨0x48128 + k / 4 * 0x1000 + k % 4 * 0x200, 24, 7, 0⟩
def FLOW.LEGA_VLAN.VID (k : Nat) : Fld := ⟨0x4811c + k / 4 * 0x1000 + k % 4 * 0x200, 0, 12, 0⟩
def FLOW.LEGA_VLAN.TAGGED (k : Nat) : Fld := ⟨0x4811c + k / 4 * 0x1000 + k % 4 * 0x200, 12, 1, 0⟩
def FLOW.LEGB_VLAN.VID (k : Nat) : Fld := ⟨0x4812c + k / 4 * 0x1000 + k % 4 * 0x200, 0, 12, 0⟩
def FLOW.LEGB_VLAN.TAGGED (k : Nat) : Fld := ⟨0x4812c + k / 4 * 0x1000 + k % 4 * 0x200, 12, 1, 0⟩
def FLOW.PKT_A.COUNT (k : Nat) : Fld := ⟨0x48130 + k / 4 * 0x1000 + k % 4 * 0x200, 0, 32, 0⟩
def FLOW.PKT_B.COUNT (k : Nat) : Fld := ⟨0x48134 + k / 4 * 0x1000 + k % 4 * 0x200, 0, 32, 0⟩
def FLOW.GAP_A.COUNT (k : Nat) : Fld := ⟨0x48138 + k / 4 * 0x1000 + k % 4 * 0x200, 0, 32, 0⟩
def FLOW.GAP_B.COUNT (k : Nat) : Fld := ⟨0x4813c + k / 4 * 0x1000 + k % 4 * 0x200, 0, 32, 0⟩
def FLOW.RECOVERED.COUNT (k : Nat) : Fld := ⟨0x48140 + k / 4 * 0x1000 + k % 4 * 0x200, 0, 32, 0⟩
def FLOW.UNRECOVERED.COUNT (k : Nat) : Fld := ⟨0x48144 + k / 4 * 0x1000 + k % 4 * 0x200, 0, 32, 0⟩
def FLOW.FRAMES.COUNT (k : Nat) : Fld := ⟨0x48148 + k / 4 * 0x1000 + k % 4 * 0x200, 0, 32, 0⟩
def FLOW.INCOMPLETE.COUNT (k : Nat) : Fld := ⟨0x4814c + k / 4 * 0x1000 + k % 4 * 0x200, 0, 32, 0⟩
def FLOW.REPEATS.COUNT (k : Nat) : Fld := ⟨0x48150 + k / 4 * 0x1000 + k % 4 * 0x200, 0, 32, 0⟩
def FLOW.DROPS.COUNT (k : Nat) : Fld := ⟨0x48154 + k / 4 * 0x1000 + k % 4 * 0x200, 0, 32, 0⟩
def FLOW.BAD_PKT.COUNT (k : Nat) : Fld := ⟨0x48158 + k / 4 * 0x1000 + k % 4 * 0x200, 0, 32, 0⟩
def FLOW.FS_ADDR_LO.ADDR (k : Nat) : Fld := ⟨0x48160 + k / 4 * 0x1000 + k % 4 * 0x200, 0, 32, 0⟩
def FLOW.FS_ADDR_HI.ADDR (k : Nat) : Fld := ⟨0x48164 + k / 4 * 0x1000 + k % 4 * 0x200, 0, 32, 0⟩
def FLOW.TC.V (k : Nat) : Fld := ⟨0x48168 + k / 4 * 0x1000 + k % 4 * 0x200, 0, 31, 0⟩
def FLOW.TC.STALE (k : Nat) : Fld := ⟨0x48168 + k / 4 * 0x1000 + k % 4 * 0x200, 31, 1, 0⟩
def FLOW.RTP_TS.TS (k : Nat) : Fld := ⟨0x4816c + k / 4 * 0x1000 + k % 4 * 0x200, 0, 32, 0⟩
def FLOW.FLOW_SUBST.RGB (k : Nat) : Fld := ⟨0x48170 + k / 4 * 0x1000 + k % 4 * 0x200, 0, 30, 0⟩
/-! MAP: Table 6-7. -/
def MAP.CANVAS_SIZE.CW : Fld := ⟨0x60100, 0, 15, 1920⟩
def MAP.CANVAS_SIZE.CH : Fld := ⟨0x60100, 16, 15, 1080⟩
def MAP.CANVAS_ORG_X.X : Fld := ⟨0x60104, 0, 18, 0⟩
def MAP.CANVAS_ORG_Y.Y : Fld := ⟨0x60108, 0, 18, 0⟩
def MAP.CARD_CTRL.CHECK : Fld := ⟨0x6010c, 0, 1, 0⟩
def MAP.CARD_STAT.SYNCING : Fld := ⟨0x60110, 0, 1, 0⟩
def MAP.CARD_STAT.CHECK_BUSY : Fld := ⟨0x60110, 1, 1, 0⟩
def MAP.CARD_STAT.CHECK_CODE : Fld := ⟨0x60110, 8, 8, 0⟩
def MAP.CARD_STAT.CHECK_CARD : Fld := ⟨0x60110, 16, 11, 0⟩
def MAP.CARDS_ACTIVE.COUNT : Fld := ⟨0x60114, 0, 12, 0⟩
def MAP.PIX_A.PIX : Fld := ⟨0x60118, 0, 32, 0⟩
def MAP.PIX_B.PIX : Fld := ⟨0x6011c, 0, 32, 0⟩
def MAP.OUTSIDE_CNT.COUNT : Fld := ⟨0x60120, 0, 32, 0⟩
def MAP.DEGEN_CNT.COUNT : Fld := ⟨0x60124, 0, 32, 0⟩
def MAP.REFETCH_CNT.COUNT : Fld := ⟨0x60128, 0, 32, 0⟩
def MAP.MIRROR_N.N_A : Fld := ⟨0x6012c, 0, 8, 0⟩
def MAP.MIRROR_N.N_B : Fld := ⟨0x6012c, 8, 8, 0⟩
/-! CMP: Table 7-7. -/
def CMP.CMP_CTRL.OVER8 : Fld := ⟨0x70100, 0, 1, 0⟩
def CMP.BG_COLOR.BG : Fld := ⟨0x70104, 0, 30, 0⟩
def CMP.CMP_STAT.ENG_DIV : Fld := ⟨0x70108, 0, 3, 1⟩
def CMP.SKIP_CNT.COUNT : Fld := ⟨0x7010c, 0, 32, 0⟩
def CMP.EXTEND_CNT.COUNT : Fld := ⟨0x70110, 0, 32, 0⟩
/-! LAY: Table 7-8. -/
def LAY.L_CTRL.EN (k : Nat) : Fld := ⟨0x71100 + k / 2 * 0x1000 + k % 2 * 0x200, 0, 1, 0⟩
def LAY.L_CTRL.KIND (k : Nat) : Fld := ⟨0x71100 + k / 2 * 0x1000 + k % 2 * 0x200, 1, 1, 0⟩
def LAY.L_CTRL.SLOT (k : Nat) : Fld := ⟨0x71100 + k / 2 * 0x1000 + k % 2 * 0x200, 2, 4, 0⟩
def LAY.L_CTRL.ALPHA_SRC (k : Nat) : Fld := ⟨0x71100 + k / 2 * 0x1000 + k % 2 * 0x200, 6, 1, 0⟩
def LAY.L_CTRL.ALPHA_FORM (k : Nat) : Fld := ⟨0x71100 + k / 2 * 0x1000 + k % 2 * 0x200, 7, 1, 0⟩
def LAY.L_CTRL.VIEW_MASK (k : Nat) : Fld := ⟨0x71100 + k / 2 * 0x1000 + k % 2 * 0x200, 8, 4, 1⟩
def LAY.L_DST_XY.DX (k : Nat) : Fld := ⟨0x71104 + k / 2 * 0x1000 + k % 2 * 0x200, 0, 15, 0⟩
def LAY.L_DST_XY.DY (k : Nat) : Fld := ⟨0x71104 + k / 2 * 0x1000 + k % 2 * 0x200, 16, 15, 0⟩
def LAY.L_DST_WH.DW (k : Nat) : Fld := ⟨0x71108 + k / 2 * 0x1000 + k % 2 * 0x200, 0, 15, 0⟩
def LAY.L_DST_WH.DH (k : Nat) : Fld := ⟨0x71108 + k / 2 * 0x1000 + k % 2 * 0x200, 16, 15, 0⟩
def LAY.L_U0.U0 (k : Nat) : Fld := ⟨0x7110c + k / 2 * 0x1000 + k % 2 * 0x200, 0, 32, 0⟩
def LAY.L_V0.V0 (k : Nat) : Fld := ⟨0x71110 + k / 2 * 0x1000 + k % 2 * 0x200, 0, 32, 0⟩
def LAY.L_USTEP.USTEP (k : Nat) : Fld := ⟨0x71114 + k / 2 * 0x1000 + k % 2 * 0x200, 0, 24, 65536⟩
def LAY.L_VSTEP.VSTEP (k : Nat) : Fld := ⟨0x71118 + k / 2 * 0x1000 + k % 2 * 0x200, 0, 24, 65536⟩
def LAY.L_ALPHA.LALPHA (k : Nat) : Fld := ⟨0x7111c + k / 2 * 0x1000 + k % 2 * 0x200, 0, 17, 65536⟩
def LAY.L_GAIN.GAIN (k : Nat) : Fld := ⟨0x71120 + k / 2 * 0x1000 + k % 2 * 0x200, 0, 16, 4096⟩
def LAY.L_COLOR.COLOR (k : Nat) : Fld := ⟨0x71124 + k / 2 * 0x1000 + k % 2 * 0x200, 0, 30, 0⟩
def LAY.L_FADE_TGT.TGT (k : Nat) : Fld := ⟨0x71128 + k / 2 * 0x1000 + k % 2 * 0x200, 0, 17, 65536⟩
def LAY.L_FADE_STEP.STEP (k : Nat) : Fld := ⟨0x7112c + k / 2 * 0x1000 + k % 2 * 0x200, 0, 16, 0⟩
def LAY.L_FADE_POS.POS (k : Nat) : Fld := ⟨0x71130 + k / 2 * 0x1000 + k % 2 * 0x200, 0, 17, 65536⟩
def LAY.L_STAT.NO_KEY (k : Nat) : Fld := ⟨0x71134 + k / 2 * 0x1000 + k % 2 * 0x200, 0, 1, 0⟩
def LAY.L_STAT.FADING (k : Nat) : Fld := ⟨0x71134 + k / 2 * 0x1000 + k % 2 * 0x200, 1, 1, 0⟩
/-! SPI: Table 7-9. -/
def SPI.SP_CTRL.CHECK : Fld := ⟨0x79100, 0, 1, 0⟩
def SPI.SP_STAT.SYNCING : Fld := ⟨0x79104, 0, 1, 0⟩
def SPI.SP_STAT.CHECK_CODE : Fld := ⟨0x79104, 8, 8, 0⟩
def SPI.SP_STAT.BAD : Fld := ⟨0x79104, 16, 16, 0⟩
def SPI.SP_ACTIVE.PANELS : Fld := ⟨0x79108, 0, 16, 0⟩
def SPI.SP_FAIL_CNT.COUNT : Fld := ⟨0x7910c, 0, 32, 0⟩
/-! COL: Table 7-10. -/
def COL.COL_CTRL.MTX_EN : Fld := ⟨0x80100, 0, 1, 0⟩
def COL.COL_CTRL.CURVE_EN : Fld := ⟨0x80100, 1, 1, 0⟩
def COL.MTX.COEF (i : Nat) : Fld := ⟨0x80104 + i * 4, 0, 16, if i % 4 = 0 then 0x1000 else 0⟩
def COL.MFADE_TGT.TGT : Fld := ⟨0x80128, 0, 17, 65536⟩
def COL.MFADE_STEP.STEP : Fld := ⟨0x8012c, 0, 16, 0⟩
def COL.MFADE_POS.POS : Fld := ⟨0x80130, 0, 17, 65536⟩
def COL.MON_CTRL.EN : Fld := ⟨0x80140, 0, 1, 0⟩
def COL.MON_CTRL.VIEW : Fld := ⟨0x80140, 1, 2, 0⟩
def COL.MON_CTRL.SUB : Fld := ⟨0x80140, 3, 2, 1⟩
def COL.MON_CTRL.FMT : Fld := ⟨0x80140, 5, 2, 0⟩
def COL.MON_CTRL.PORT : Fld := ⟨0x80140, 7, 2, 0⟩
def COL.MON_SIZE.MW : Fld := ⟨0x80144, 0, 11, 1920⟩
def COL.MON_SIZE.MH : Fld := ⟨0x80144, 16, 11, 1080⟩
def COL.MON_X0.ORG : Fld := ⟨0x80148, 0, 22, 0⟩
def COL.MON_Y0.ORG : Fld := ⟨0x8014c, 0, 22, 0⟩
def COL.MON_STEP_X.STEP : Fld := ⟨0x80150, 0, 24, 262144⟩
def COL.MON_STEP_Y.STEP : Fld := ⟨0x80154, 0, 24, 262144⟩
def COL.MON_DST.ADDR : Fld := ⟨0x80158, 0, 32, 0⟩
def COL.MON_UDP.PORT : Fld := ⟨0x8015c, 0, 16, 0⟩
def COL.MON_UDP.PT : Fld := ⟨0x8015c, 16, 7, 96⟩
def COL.MON_SSRC.SSRC : Fld := ⟨0x80160, 0, 32, 0⟩
def COL.MON_DROP.COUNT : Fld := ⟨0x80164, 0, 32, 0⟩
/-! OTG: Table 7-11. -/
def OTG.START_OFS.NS : Fld := ⟨0x50100, 0, 24, 20000⟩
def OTG.END_GUARD.NS : Fld := ⟨0x50104, 0, 24, 60000⟩
def OTG.LINE_MATCH.ROUND : Fld := ⟨0x50108, 0, 14, 0⟩
def OTG.LINE_MATCH.PORT : Fld := ⟨0x50108, 16, 1, 0⟩
def OTG.OTG_STAT.ROUND_A : Fld := ⟨0x5010c, 0, 14, 0⟩
def OTG.OTG_STAT.ROUND_B : Fld := ⟨0x5010c, 16, 14, 0⟩
def OTG.OTG_STAT.VIEW : Fld := ⟨0x5010c, 30, 2, 0⟩
def OTG.UNDERRUN_CNT.A : Fld := ⟨0x50110, 0, 16, 0⟩
def OTG.UNDERRUN_CNT.B : Fld := ⟨0x50110, 16, 16, 0⟩
def OTG.ABORT_CNT.COUNT : Fld := ⟨0x50114, 0, 32, 0⟩
def OTG.LAST_FINISH.NS : Fld := ⟨0x50118, 0, 32, 0⟩
/-! LNK: Table 8-16. -/
def LNK.PORT_CTRL.MAX_WIDTH (p : Nat) : Fld := ⟨0xa0100 + p * 0x1000, 0, 2, 0⟩
def LNK.PORT_CTRL.AUTO_WIDEN (p : Nat) : Fld := ⟨0xa0100 + p * 0x1000, 2, 1, 1⟩
def LNK.PORT_CTRL.RELOCK_EN (p : Nat) : Fld := ⟨0xa0100 + p * 0x1000, 3, 1, 1⟩
def LNK.PORT_CTRL.POLICY (p : Nat) : Fld := ⟨0xa0100 + p * 0x1000, 4, 1, 0⟩
def LNK.PORT_CTRL.RESTART (p : Nat) : Fld := ⟨0xa0100 + p * 0x1000, 5, 1, 0⟩
def LNK.PORT_CTRL.LEVEL_MAX (p : Nat) : Fld := ⟨0xa0100 + p * 0x1000, 8, 8, 2⟩
def LNK.PORT_STAT.STAGE (p : Nat) : Fld := ⟨0xa0104 + p * 0x1000, 0, 3, 0⟩
def LNK.PORT_STAT.WIDTH (p : Nat) : Fld := ⟨0xa0104 + p * 0x1000, 4, 2, 0⟩
def LNK.PORT_STAT.TIMING_LANE (p : Nat) : Fld := ⟨0xa0104 + p * 0x1000, 6, 2, 0⟩
def LNK.PORT_STAT.IN_SERVICE (p : Nat) : Fld := ⟨0xa0104 + p * 0x1000, 8, 4, 0⟩
def LNK.PORT_STAT.WORKING (p : Nat) : Fld := ⟨0xa0104 + p * 0x1000, 12, 4, 0⟩
def LNK.PORT_STAT.FAILED (p : Nat) : Fld := ⟨0xa0104 + p * 0x1000, 16, 4, 0⟩
def LNK.CAPX_STAT.LEVEL (p : Nat) : Fld := ⟨0xa0108 + p * 0x1000, 0, 8, 0⟩
def LNK.CAPX_STAT.FEATURES (p : Nat) : Fld := ⟨0xa0108 + p * 0x1000, 8, 2, 0⟩
def LNK.CAPX_STAT.DISABLED (p : Nat) : Fld := ⟨0xa0108 + p * 0x1000, 10, 2, 0⟩
def LNK.CAPX_STAT.PEER_FN (p : Nat) : Fld := ⟨0xa0108 + p * 0x1000, 16, 3, 0⟩
def LNK.CAPX_STAT.PEER_LEVEL_MAX (p : Nat) : Fld := ⟨0xa0108 + p * 0x1000, 24, 8, 0⟩
def LNK.PEER_ID.TYPE_ID (p : Nat) : Fld := ⟨0xa010c + p * 0x1000, 0, 16, 0⟩
def LNK.PEER_ID.STEPPING (p : Nat) : Fld := ⟨0xa010c + p * 0x1000, 16, 4, 0⟩
def LNK.REPLAY_CFG.TMO (p : Nat) : Fld := ⟨0xa0110 + p * 0x1000, 0, 8, 200⟩
def LNK.REPLAY_CFG.MAX (p : Nat) : Fld := ⟨0xa0110 + p * 0x1000, 8, 4, 8⟩
def LNK.RETRY_INT.MS (p : Nat) : Fld := ⟨0xa0114 + p * 0x1000, 0, 16, 1000⟩
def LNK.LINE_STAT.LINE_WIDTH (p : Nat) : Fld := ⟨0xa0118 + p * 0x1000, 0, 2, 0⟩
def LNK.LINE_STAT.NARROW_STOP (p : Nat) : Fld := ⟨0xa0118 + p * 0x1000, 8, 8, 0⟩
def LNK.LINE_STAT.BREAK (p : Nat) : Fld := ⟨0xa0118 + p * 0x1000, 16, 8, 0⟩
def LNK.BRINGUP_US.US (p : Nat) : Fld := ⟨0xa011c + p * 0x1000, 0, 32, 0⟩
def LNK.CRC_ERR.COUNT (p : Nat) : Fld := ⟨0xa0120 + p * 0x1000, 0, 32, 0⟩
def LNK.NAK_TX.COUNT (p : Nat) : Fld := ⟨0xa0124 + p * 0x1000, 0, 32, 0⟩
def LNK.REPLAY_CNT.COUNT (p : Nat) : Fld := ⟨0xa0128 + p * 0x1000, 0, 32, 0⟩
def LNK.STOMP_RX.COUNT (p : Nat) : Fld := ⟨0xa012c + p * 0x1000, 0, 32, 0⟩
def LNK.FWD_DROP.COUNT (p : Nat) : Fld := ⟨0xa0130 + p * 0x1000, 0, 32, 0⟩
def LNK.DOWN_CNT.COUNT (p : Nat) : Fld := ⟨0xa0134 + p * 0x1000, 0, 32, 0⟩
def LNK.WIDTH_CNT.COUNT (p : Nat) : Fld := ⟨0xa0138 + p * 0x1000, 0, 32, 0⟩
/-! LNL: Table 8-19. -/
def LNL.LANE_CTRL.FIX_EN (p : Nat) : Fld := ⟨0xb0100 + p * 0x1000, 0, 1, 0⟩
def LNL.LANE_CTRL.FIX_PRE_TX (p : Nat) : Fld := ⟨0xb0100 + p * 0x1000, 1, 1, 0⟩
def LNL.LANE_CTRL.FIX_PRE_RX (p : Nat) : Fld := ⟨0xb0100 + p * 0x1000, 2, 1, 0⟩
def LNL.LANE_CTRL.PRECODE_ALLOW (p : Nat) : Fld := ⟨0xb0100 + p * 0x1000, 3, 1, 1⟩
def LNL.LANE_CTRL.RETIRE (p : Nat) : Fld := ⟨0xb0100 + p * 0x1000, 4, 1, 0⟩
def LNL.LANE_CTRL.RETRY (p : Nat) : Fld := ⟨0xb0100 + p * 0x1000, 5, 1, 0⟩
def LNL.LANE_STAT.STATE (p : Nat) : Fld := ⟨0xb0104 + p * 0x1000, 0, 3, 0⟩
def LNL.LANE_STAT.REASON (p : Nat) : Fld := ⟨0xb0104 + p * 0x1000, 4, 4, 0⟩
def LNL.LANE_STAT.RX_INVERTED (p : Nat) : Fld := ⟨0xb0104 + p * 0x1000, 8, 1, 0⟩
def LNL.LANE_STAT.PRE_TX (p : Nat) : Fld := ⟨0xb0104 + p * 0x1000, 9, 1, 0⟩
def LNL.LANE_STAT.PRE_RX (p : Nat) : Fld := ⟨0xb0104 + p * 0x1000, 10, 1, 0⟩
def LNL.LANE_STAT.LAST_VALID (p : Nat) : Fld := ⟨0xb0104 + p * 0x1000, 11, 1, 0⟩
def LNL.LANE_STAT.LOGICAL (p : Nat) : Fld := ⟨0xb0104 + p * 0x1000, 12, 2, 0⟩
def LNL.TX_TAPS.CM2 (p : Nat) : Fld := ⟨0xb0108 + p * 0x1000, 0, 6, 0⟩
def LNL.TX_TAPS.CM1 (p : Nat) : Fld := ⟨0xb0108 + p * 0x1000, 6, 6, 0⟩
def LNL.TX_TAPS.C0 (p : Nat) : Fld := ⟨0xb0108 + p * 0x1000, 12, 7, 0⟩
def LNL.TX_TAPS.CP1 (p : Nat) : Fld := ⟨0xb0108 + p * 0x1000, 19, 6, 0⟩
def LNL.TX_TAPS.CP2 (p : Nat) : Fld := ⟨0xb0108 + p * 0x1000, 25, 6, 0⟩
def LNL.FIX_TX_TAPS.TAPS (p : Nat) : Fld := ⟨0xb010c + p * 0x1000, 0, 32, 29568640⟩
def LNL.FIX_RX.CTLE (p : Nat) : Fld := ⟨0xb0110 + p * 0x1000, 0, 5, 16⟩
def LNL.FIX_RX.VGA (p : Nat) : Fld := ⟨0xb0110 + p * 0x1000, 8, 5, 16⟩
def LNL.FIX_RX.DFE_EN (p : Nat) : Fld := ⟨0xb0110 + p * 0x1000, 16, 1, 1⟩
def LNL.LAST_TX_TAPS.TAPS (p : Nat) : Fld := ⟨0xb0114 + p * 0x1000, 0, 32, 0⟩
def LNL.LAST_RX.RX (p : Nat) : Fld := ⟨0xb0118 + p * 0x1000, 0, 32, 0⟩
def LNL.SKEW.PS (p : Nat) : Fld := ⟨0xb011c + p * 0x1000, 0, 16, 0⟩
def LNL.SER_CNT.COUNT (p : Nat) : Fld := ⟨0xb0120 + p * 0x1000, 0, 32, 0⟩
def LNL.FEC_CORR.COUNT (p : Nat) : Fld := ⟨0xb0124 + p * 0x1000, 0, 32, 0⟩
def LNL.FEC_UNCORR.COUNT (p : Nat) : Fld := ⟨0xb0128 + p * 0x1000, 0, 32, 0⟩
def LNL.AM_ERR.COUNT (p : Nat) : Fld := ⟨0xb012c + p * 0x1000, 0, 32, 0⟩
def LNL.TRAIN_CFG.TMO (p : Nat) : Fld := ⟨0xb0130 + p * 0x1000, 0, 8, 55⟩
def LNL.TRAIN_CFG.SER_EXP (p : Nat) : Fld := ⟨0xb0130 + p * 0x1000, 8, 4, 5⟩
def LNL.TRAIN_US.US (p : Nat) : Fld := ⟨0xb0134 + p * 0x1000, 0, 32, 0⟩
/-! LNE: Table 9-11. -/
def LNE.LNE_CTRL.ENUM_START (p : Nat) : Fld := ⟨0xc0100 + p * 0x1000, 0, 1, 0⟩
def LNE.LNE_CTRL.AUTO_ENUM (p : Nat) : Fld := ⟨0xc0100 + p * 0x1000, 1, 1, 1⟩
def LNE.LNE_CTRL.TEL_EN (p : Nat) : Fld := ⟨0xc0100 + p * 0x1000, 2, 1, 1⟩
def LNE.LNE_STAT.N (p : Nat) : Fld := ⟨0xc0104 + p * 0x1000, 0, 8, 0⟩
def LNE.LNE_STAT.ENUM_BUSY (p : Nat) : Fld := ⟨0xc0104 + p * 0x1000, 8, 1, 0⟩
def LNE.LNE_STAT.ENUM_SHORT (p : Nat) : Fld := ⟨0xc0104 + p * 0x1000, 9, 1, 0⟩
def LNE.LNE_STAT.OVERLONG (p : Nat) : Fld := ⟨0xc0104 + p * 0x1000, 10, 1, 0⟩
def LNE.LINE_ID.ID (p : Nat) : Fld := ⟨0xc0108 + p * 0x1000, 0, 11, 0⟩
def LNE.TXN_TMO.US (p : Nat) : Fld := ⟨0xc010c + p * 0x1000, 0, 16, 1000⟩
def LNE.TXN_TMO.EFF_US (p : Nat) : Fld := ⟨0xc010c + p * 0x1000, 16, 16, 1000⟩
def LNE.INFLIGHT.COUNT (p : Nat) : Fld := ⟨0xc0110 + p * 0x1000, 0, 12, 0⟩
def LNE.STALL_CNT.COUNT (p : Nat) : Fld := ⟨0xc0114 + p * 0x1000, 0, 32, 0⟩
def LNE.TMO_CNT.COUNT (p : Nat) : Fld := ⟨0xc0118 + p * 0x1000, 0, 32, 0⟩
def LNE.LATE_RSP.COUNT (p : Nat) : Fld := ⟨0xc011c + p * 0x1000, 0, 32, 0⟩
def LNE.LINKDOWN_CNT.COUNT (p : Nat) : Fld := ⟨0xc0120 + p * 0x1000, 0, 32, 0⟩
def LNE.TEL_BASE_LO.BASE (p : Nat) : Fld := ⟨0xc0124 + p * 0x1000, 0, 32, 0⟩
def LNE.TEL_BASE_HI.BASE (p : Nat) : Fld := ⟨0xc0128 + p * 0x1000, 0, 32, 0⟩
def LNE.TEL_MISS.COUNT (p : Nat) : Fld := ⟨0xc012c + p * 0x1000, 0, 32, 0⟩
def LNE.TEL_STAT.SILENT (p : Nat) : Fld := ⟨0xc0130 + p * 0x1000, 0, 8, 0⟩
def LNE.TEL_STAT.SKEW (p : Nat) : Fld := ⟨0xc0130 + p * 0x1000, 8, 8, 0⟩
def LNE.TEL_STAT.CHANGED (p : Nat) : Fld := ⟨0xc0130 + p * 0x1000, 16, 8, 0⟩
def LNE.ENUM_RUN.RUN (p : Nat) : Fld := ⟨0xc0134 + p * 0x1000, 0, 16, 0⟩
def LNE.TILE_STOP.STOP_U (p : Nat) : Fld := ⟨0xc0140 + p * 0x1000, 0, 8, 0⟩
def LNE.TILE_STOP.STOP_D (p : Nat) : Fld := ⟨0xc0140 + p * 0x1000, 8, 8, 0⟩
def LNE.HOLD_CFG.HOLD_FRAMES (p : Nat) : Fld := ⟨0xc0144 + p * 0x1000, 0, 8, 6⟩
def LNE.HOLD_CFG.BLACK (p : Nat) : Fld := ⟨0xc0144 + p * 0x1000, 8, 1, 0⟩
def LNE.HOLD_CFG.FADE_MS (p : Nat) : Fld := ⟨0xc0144 + p * 0x1000, 16, 10, 500⟩
def LNE.HOLD_STAT.STATE (p : Nat) : Fld := ⟨0xc0148 + p * 0x1000, 0, 2, 3⟩
def LNE.HOLD_STAT.HELD (p : Nat) : Fld := ⟨0xc0148 + p * 0x1000, 8, 8, 0⟩
def LNE.FADE_POS.F (p : Nat) : Fld := ⟨0xc014c + p * 0x1000, 0, 17, 0⟩
def LNE.RX_MISSING.COUNT (p : Nat) : Fld := ⟨0xc0150 + p * 0x1000, 0, 32, 0⟩
def LNE.RX_INCOMPLETE.COUNT (p : Nat) : Fld := ⟨0xc0154 + p * 0x1000, 0, 32, 0⟩
def LNE.FRAME_SKEW.COUNT (p : Nat) : Fld := ⟨0xc0158 + p * 0x1000, 0, 32, 0⟩
def LNE.HUNT_CNT.COUNT (p : Nat) : Fld := ⟨0xc015c + p * 0x1000, 0, 32, 0⟩
def LNE.LCRC_MISMATCH.COUNT (p : Nat) : Fld := ⟨0xc0160 + p * 0x1000, 0, 32, 0⟩
def LNE.MSG_UNKNOWN.COUNT (p : Nat) : Fld := ⟨0xc0164 + p * 0x1000, 0, 32, 0⟩
/-! KLC: Table 10-5. -/
def KLC.KLC_CTRL.ABORT : Fld := ⟨0x90100, 0, 1, 0⟩
def KLC.LINE_BOUND.CODES : Fld := ⟨0x90104, 0, 12, 32⟩
def KLC.BOUND_CNT.A : Fld := ⟨0x90108, 0, 16, 0⟩
def KLC.BOUND_CNT.B : Fld := ⟨0x90108, 16, 16, 0⟩
def KLC.BLOCK_CNT_A.COUNT : Fld := ⟨0x9010c, 0, 32, 0⟩
def KLC.BLOCK_CNT_B.COUNT : Fld := ⟨0x90110, 0, 32, 0⟩
def KLC.JR_BASE_LO.BASE : Fld := ⟨0x90114, 0, 32, 0⟩
def KLC.JR_BASE_HI.BASE : Fld := ⟨0x90118, 0, 32, 0⟩
def KLC.JR_SIZE.EXP : Fld := ⟨0x9011c, 0, 4, 4⟩
def KLC.JR_HEAD.IDX : Fld := ⟨0x90120, 0, 12, 0⟩
def KLC.JR_TAIL.IDX : Fld := ⟨0x90124, 0, 12, 0⟩
def KLC.JOB_STAT.BUSY : Fld := ⟨0x90128, 0, 1, 0⟩
def KLC.JOB_STAT.SRC : Fld := ⟨0x90128, 1, 1, 0⟩
def KLC.JOB_STAT.LAST : Fld := ⟨0x90128, 4, 4, 0⟩
def KLC.JOB_STAT.IDX : Fld := ⟨0x90128, 8, 12, 0⟩
def KLC.JOB_TAG.TAG : Fld := ⟨0x9012c, 0, 32, 0⟩
def KLC.JOB_CNT.COUNT : Fld := ⟨0x90130, 0, 32, 0⟩
def KLC.NR_CNT.COUNT : Fld := ⟨0x90134, 0, 32, 0⟩
/-! COR: Table 11-8. -/
def COR.COR_CTRL.DITHER : Fld := ⟨0xd0100, 0, 2, 1⟩
def COR.COR_CTRL.SYNC_EN : Fld := ⟨0xd0100, 2, 1, 1⟩
def COR.COR_CTRL.THERM_EN : Fld := ⟨0xd0100, 3, 1, 1⟩
def COR.COR_CTRL.ZMODE : Fld := ⟨0xd0100, 4, 1, 1⟩
def COR.GEOM.TW : Fld := ⟨0xd0104, 0, 15, 0⟩
def COR.GEOM.TH : Fld := ⟨0xd0104, 16, 15, 0⟩
def COR.BANK_CTRL.SWAP : Fld := ⟨0xd0108, 0, 1, 0⟩
def COR.BANK_STAT.CUR : Fld := ⟨0xd010c, 0, 1, 0⟩
def COR.BANK_STAT.SYNCING : Fld := ⟨0xd010c, 1, 1, 0⟩
def COR.BANK_STAT.UPL_BUSY : Fld := ⟨0xd010c, 2, 1, 0⟩
def COR.BANK_STAT.REFUSE : Fld := ⟨0xd010c, 4, 2, 0⟩
def COR.BANK_STAT.REGIONS : Fld := ⟨0xd010c, 16, 14, 0⟩
def COR.BANK0_BASE_LO.BASE : Fld := ⟨0xd0110, 0, 32, 0⟩
def COR.BANK0_BASE_HI.BASE : Fld := ⟨0xd0114, 0, 32, 0⟩
def COR.BANK1_BASE_LO.BASE : Fld := ⟨0xd0118, 0, 32, 0⟩
def COR.BANK1_BASE_HI.BASE : Fld := ⟨0xd011c, 0, 32, 0⟩
def COR.TREF.T : Fld := ⟨0xd0120, 0, 16, 400⟩
def COR.ZGRID.ZX : Fld := ⟨0xd0124, 0, 4, 0⟩
def COR.ZGRID.ZY : Fld := ⟨0xd0124, 4, 4, 0⟩
def COR.GAIN01.GAIN0 : Fld := ⟨0xd0128, 0, 16, 16384⟩
def COR.GAIN01.GAIN1 : Fld := ⟨0xd0128, 16, 16, 16384⟩
def COR.GAIN23.GAIN2 : Fld := ⟨0xd012c, 0, 16, 16384⟩
def COR.GAIN23.GAIN3 : Fld := ⟨0xd012c, 16, 16, 16384⟩
def COR.LAMP_MAP.UNIT0_3 : Fld := ⟨0xd0130, 0, 8, 228⟩
def COR.DITHER_SEED.SEED : Fld := ⟨0xd0134, 0, 23, 1⟩
def COR.ZONE_DEFAULT.T : Fld := ⟨0xd0138, 0, 16, 400⟩
def COR.APER_CTRL.TARGET : Fld := ⟨0xd0140, 0, 3, 0⟩
def COR.APER_OFS.OFS : Fld := ⟨0xd0144, 0, 32, 0⟩
def COR.UPBUF_BASE_LO.BASE : Fld := ⟨0xd0148, 0, 32, 0⟩
def COR.UPBUF_BASE_HI.BASE : Fld := ⟨0xd014c, 0, 32, 0⟩
def COR.UPBUF_SIZE.MIB : Fld := ⟨0xd0150, 0, 16, 0⟩
def COR.UPL_SRC.OFS : Fld := ⟨0xd0160, 0, 32, 0⟩
def COR.UPL_RGN.FIRST : Fld := ⟨0xd0164, 0, 14, 0⟩
def COR.UPL_RGN.COUNT : Fld := ⟨0xd0164, 16, 14, 0⟩
def COR.UPL_CMD.OP : Fld := ⟨0xd0168, 0, 3, 0⟩
def COR.UPL_CMD.SUPERSEDE : Fld := ⟨0xd0168, 3, 1, 0⟩
def COR.UPL_CMD.ID : Fld := ⟨0xd0168, 8, 8, 0⟩
def COR.UPL_CMD.GO : Fld := ⟨0xd0168, 31, 1, 0⟩
def COR.UPL_STAT.QUEUED : Fld := ⟨0xd016c, 0, 5, 0⟩
def COR.UPL_STAT.RUNNING : Fld := ⟨0xd016c, 5, 1, 0⟩
def COR.UPL_STAT.RUN_ID : Fld := ⟨0xd016c, 8, 8, 0⟩
def COR.UPL_STAT.RUN_DONE : Fld := ⟨0xd016c, 16, 14, 0⟩
def COR.UPL_DONE.ID : Fld := ⟨0xd0170, 0, 8, 0⟩
def COR.UPL_DONE.STATUS : Fld := ⟨0xd0170, 8, 4, 0⟩
def COR.UPL_DONE.REGIONS : Fld := ⟨0xd0170, 16, 14, 0⟩
def COR.UPL_NR_CNT.COUNT : Fld := ⟨0xd0174, 0, 32, 0⟩
def COR.APER_REFUSED.COUNT : Fld := ⟨0xd0178, 0, 32, 0⟩
def COR.GEOM_MISMATCH.COUNT : Fld := ⟨0xd017c, 0, 32, 0⟩
def COR.POISON_REC.COUNT : Fld := ⟨0xd0180, 0, 32, 0⟩
def COR.LAST_PASS.NS : Fld := ⟨0xd0184, 0, 32, 0⟩
def COR.ZONE_SUBST_LO.ZONES : Fld := ⟨0xd0188, 0, 32, 0⟩
def COR.ZONE_SUBST_HI.ZONES : Fld := ⟨0xd018c, 0, 16, 0⟩
def COR.ZONE_SRC.CHAN (i : Nat) : Fld := ⟨0xd0200 + i * 4, 0, 6, 0⟩
def COR.ZONE_SRC.EN (i : Nat) : Fld := ⟨0xd0200 + i * 4, 7, 1, 0⟩
def COR.ZONE_TEMP.T (i : Nat) : Fld := ⟨0xd0300 + i * 4, 0, 16, 0⟩
def COR.ZONE_TEMP.SUBST (i : Nat) : Fld := ⟨0xd0300 + i * 4, 16, 1, 0⟩
def COR.SLOPE.S_EVEN (i : Nat) : Fld := ⟨0xd0400 + i * 4, 0, 16, 0⟩
def COR.SLOPE.S_ODD (i : Nat) : Fld := ⟨0xd0400 + i * 4, 16, 16, 0⟩
/-! SCN: Table 12-9. -/
def SCN.TT_CTRL.CHECK : Fld := ⟨0xe0100, 0, 1, 0⟩
def SCN.TT_STAT.SYNCING : Fld := ⟨0xe0104, 0, 1, 0⟩
def SCN.TT_STAT.CHECK_BUSY : Fld := ⟨0xe0104, 1, 1, 0⟩
def SCN.TT_STAT.CHECK_CODE : Fld := ⟨0xe0104, 8, 8, 0⟩
def SCN.SCN_STAT.VIEW : Fld := ⟨0xe0108, 0, 2, 0⟩
def SCN.SCN_STAT.GAP : Fld := ⟨0xe0108, 2, 1, 0⟩
def SCN.SCN_STAT.LOADING : Fld := ⟨0xe0108, 3, 1, 0⟩
def SCN.SCN_STAT.FRONT : Fld := ⟨0xe0108, 4, 1, 0⟩
def SCN.SCN_STAT.SEG : Fld := ⟨0xe0108, 8, 8, 0⟩
def SCN.SCN_STAT.ROW : Fld := ⟨0xe0108, 16, 6, 0⟩
def SCN.PLANE_BASE_LO.BASE : Fld := ⟨0xe010c, 0, 32, 0⟩
def SCN.PLANE_BASE_HI.BASE : Fld := ⟨0xe0110, 0, 32, 0⟩
def SCN.PLANE_SIZE.BYTES : Fld := ⟨0xe0114, 0, 32, 0⟩
def SCN.T_ROW.CYC : Fld := ⟨0xe0118, 0, 32, 0⟩
def SCN.T_RC.CYC : Fld := ⟨0xe011c, 0, 32, 0⟩
def SCN.T_GAP.CYC : Fld := ⟨0xe0120, 0, 32, 0⟩
def SCN.REFRESH.HZ : Fld := ⟨0xe0124, 0, 24, 0⟩
def SCN.T_LOAD.NS : Fld := ⟨0xe0128, 0, 32, 0⟩
def SCN.T_BL.NS : Fld := ⟨0xe012c, 0, 32, 0⟩
def SCN.BUS_LOAD.GBPS : Fld := ⟨0xe0130, 0, 16, 0⟩
def SCN.SPREAD.A : Fld := ⟨0xe0134, 0, 8, 1⟩
def SCN.LINE_MATCH.ROW : Fld := ⟨0xe0138, 0, 6, 0⟩
def SCN.LINE_MATCH.SEG : Fld := ⟨0xe0138, 8, 8, 0⟩
def SCN.CAP.POS : Fld := ⟨0xe013c, 0, 17, 65536⟩
def SCN.CAP_K.K : Fld := ⟨0xe0140, 0, 12, 0⟩
def SCN.UNDERRUN_CNT.COUNT : Fld := ⟨0xe0150, 0, 32, 0⟩
def SCN.LOAD_LATE_CNT.COUNT : Fld := ⟨0xe0154, 0, 32, 0⟩
def SCN.BAND_REPEAT_CNT.COUNT : Fld := ⟨0xe0158, 0, 32, 0⟩
def SCN.ROW_REPEAT_CNT.COUNT : Fld := ⟨0xe015c, 0, 32, 0⟩
def SCN.POISON_WORDS.COUNT : Fld := ⟨0xe0160, 0, 32, 0⟩
def SCN.LAST_READY.NS : Fld := ⟨0xe0164, 0, 32, 0⟩
/-! PWR: Table 13-5. -/
def PWR.PWR_STAT.PG : Fld := ⟨0x2100, 0, 4, 15⟩
def PWR.PWR_STAT.AUX33_OK : Fld := ⟨0x2100, 4, 1, 1⟩
def PWR.PWR_STAT.AUX18_OK : Fld := ⟨0x2100, 5, 1, 1⟩
def PWR.AUX_CTRL.AUX33_EN : Fld := ⟨0x2104, 0, 1, 1⟩
def PWR.AUX_CTRL.AUX18_EN : Fld := ⟨0x2104, 1, 1, 1⟩
def PWR.AUX_STAT.AUX33_LIM : Fld := ⟨0x2108, 0, 1, 0⟩
def PWR.AUX_STAT.AUX18_LIM : Fld := ⟨0x2108, 1, 1, 0⟩
def PWR.IN_MEAS.VBUS : Fld := ⟨0x210c, 0, 16, 0⟩
def PWR.IN_MEAS.IIN : Fld := ⟨0x210c, 16, 16, 0⟩
def PWR.VBUS_MIN.V : Fld := ⟨0x2110, 0, 16, 65535⟩
def PWR.VBUS_MAX.V : Fld := ⟨0x2114, 0, 16, 0⟩
def PWR.RAIL_TIME.US : Fld := ⟨0x2118, 0, 32, 0⟩
/-! RCK: Table 13-6. -/
def RCK.RST_CAUSE.POWER_ON : Fld := ⟨0x1100, 0, 1, 0⟩
def RCK.RST_CAUSE.RESET_N : Fld := ⟨0x1100, 1, 1, 0⟩
def RCK.RST_CAUSE.SOFTWARE : Fld := ⟨0x1100, 2, 1, 0⟩
def RCK.RST_CAUSE.JTAG : Fld := ⟨0x1100, 3, 1, 0⟩
def RCK.RST_CAUSE.THERMAL : Fld := ⟨0x1100, 4, 1, 0⟩
def RCK.RST_CMD.KEY : Fld := ⟨0x1104, 0, 8, 0⟩
def RCK.CLK_STAT.ON_INTOSC : Fld := ⟨0x1108, 0, 1, 0⟩
def RCK.CLK_STAT.REFCLK_OK : Fld := ⟨0x1108, 1, 1, 0⟩
def RCK.CLK_STAT.PPM : Fld := ⟨0x1108, 16, 16, 0⟩
def RCK.CLK_CTRL.RET_AUTO : Fld := ⟨0x110c, 0, 1, 1⟩
def RCK.CLK_CTRL.RET_NOW : Fld := ⟨0x110c, 1, 1, 0⟩
def RCK.CLK_CTRL.RET_MS : Fld := ⟨0x110c, 8, 8, 100⟩
/-! RAI: Table 13-7. -/
def RAI.RAI_CTRL.RAMP : Fld := ⟨0xf0100, 0, 4, 10⟩
def RAI.RAI_STAT.FAULT : Fld := ⟨0xf0104, 0, 24, 0⟩
def RAI.RAI_READY.READY : Fld := ⟨0xf0108, 0, 24, 0⟩
def RAI.RGRID.RX : Fld := ⟨0xf010c, 0, 3, 0⟩
def RAI.RGRID.RY : Fld := ⟨0xf010c, 4, 3, 0⟩
/-! RCH: Table 13-8. -/
def RCH.CH_CTRL.MODE (k : Nat) : Fld := ⟨0xf0200 + k * 0x40, 0, 2, 0⟩
def RCH.CH_CTRL.CLR_FAULT (k : Nat) : Fld := ⟨0xf0200 + k * 0x40, 4, 1, 0⟩
def RCH.CH_CTRL.FSW (k : Nat) : Fld := ⟨0xf0200 + k * 0x40, 8, 8, 100⟩
def RCH.CH_CTRL.PHASE (k : Nat) : Fld := ⟨0xf0200 + k * 0x40, 16, 8, 0⟩
def RCH.CH_VLIM.VMIN (k : Nat) : Fld := ⟨0xf0204 + k * 0x40, 0, 10, 0⟩
def RCH.CH_VLIM.VMAX (k : Nat) : Fld := ⟨0xf0204 + k * 0x40, 16, 10, 800⟩
def RCH.CH_NEED.VBASE (k : Nat) : Fld := ⟨0xf0208 + k * 0x40, 0, 10, 0⟩
def RCH.CH_NEED.VSLOPE (k : Nat) : Fld := ⟨0xf0208 + k * 0x40, 16, 10, 0⟩
def RCH.CH_FIXED.SET (k : Nat) : Fld := ⟨0xf020c + k * 0x40, 0, 10, 0⟩
def RCH.CH_COUT.COUT (k : Nat) : Fld := ⟨0xf0210 + k * 0x40, 0, 16, 100⟩
def RCH.CH_COUT.CEIL (k : Nat) : Fld := ⟨0xf0210 + k * 0x40, 16, 16, 1000⟩
def RCH.CH_SENSE.RSENSE (k : Nat) : Fld := ⟨0xf0214 + k * 0x40, 0, 16, 500⟩
def RCH.CH_SENSE.ILIM (k : Nat) : Fld := ⟨0xf0214 + k * 0x40, 16, 8, 80⟩
def RCH.CH_SENSE.OC_CYC (k : Nat) : Fld := ⟨0xf0214 + k * 0x40, 24, 8, 64⟩
def RCH.CH_PROT.OV_MV (k : Nat) : Fld := ⟨0xf0218 + k * 0x40, 0, 8, 40⟩
def RCH.CH_PROT.UV_MV (k : Nat) : Fld := ⟨0xf0218 + k * 0x40, 8, 8, 60⟩
def RCH.CH_PROT.UV_US (k : Nat) : Fld := ⟨0xf0218 + k * 0x40, 16, 8, 10⟩
def RCH.CH_PROT.FLT_POL (k : Nat) : Fld := ⟨0xf0218 + k * 0x40, 24, 1, 0⟩
def RCH.CH_TRIM.VS_TRIM (k : Nat) : Fld := ⟨0xf021c + k * 0x40, 0, 8, 0⟩
def RCH.CH_TRIM.IS_TRIM (k : Nat) : Fld := ⟨0xf021c + k * 0x40, 8, 8, 0⟩
def RCH.CH_STAT.STATE (k : Nat) : Fld := ⟨0xf0220 + k * 0x40, 0, 3, 0⟩
def RCH.CH_STAT.AT_TARGET (k : Nat) : Fld := ⟨0xf0220 + k * 0x40, 3, 1, 0⟩
def RCH.CH_STAT.FCAUSE (k : Nat) : Fld := ⟨0xf0220 + k * 0x40, 4, 3, 0⟩
def RCH.CH_STAT.DISCHARGED (k : Nat) : Fld := ⟨0xf0220 + k * 0x40, 7, 1, 0⟩
def RCH.CH_STAT.CLAMPED (k : Nat) : Fld := ⟨0xf0220 + k * 0x40, 8, 1, 0⟩
def RCH.CH_STAT.SET_NOW (k : Nat) : Fld := ⟨0xf0220 + k * 0x40, 16, 10, 0⟩
def RCH.CH_TARGET.NEXT (k : Nat) : Fld := ⟨0xf0224 + k * 0x40, 0, 10, 0⟩
def RCH.CH_TARGET.FLOOR (k : Nat) : Fld := ⟨0xf0224 + k * 0x40, 16, 10, 0⟩
def RCH.CH_MEAS.V (k : Nat) : Fld := ⟨0xf0228 + k * 0x40, 0, 16, 0⟩
def RCH.CH_MEAS.I (k : Nat) : Fld := ⟨0xf0228 + k * 0x40, 16, 16, 0⟩
def RCH.CH_DMAX.NEXT (k : Nat) : Fld := ⟨0xf022c + k * 0x40, 0, 16, 0⟩
def RCH.CH_DMAX.CUR (k : Nat) : Fld := ⟨0xf022c + k * 0x40, 16, 16, 0⟩
def RCH.CH_CNT.RAMP_LATE (k : Nat) : Fld := ⟨0xf0230 + k * 0x40, 0, 16, 0⟩
def RCH.CH_CNT.REJECT (k : Nat) : Fld := ⟨0xf0230 + k * 0x40, 16, 16, 0⟩
def RCH.CH_LIM_CNT.COUNT (k : Nat) : Fld := ⟨0xf0234 + k * 0x40, 0, 32, 0⟩
def RCH.CH_VCAP.VCAP (k : Nat) : Fld := ⟨0xf0238 + k * 0x40, 0, 10, 800⟩
/-! LFM: Table 13-9. -/
def LFM.LFM_CTRL.STICKY : Fld := ⟨0x100100, 0, 1, 1⟩
def LFM.LFM_STAT.BLIND : Fld := ⟨0x100104, 0, 1, 0⟩
def LFM.LFM_STAT.APPLYING : Fld := ⟨0x100104, 1, 1, 0⟩
def LFM.LFM_STAT.SUSPENDED : Fld := ⟨0x100104, 2, 1, 0⟩
def LFM.LFM_STAT.TILE_DARK : Fld := ⟨0x100104, 3, 1, 0⟩
def LFM.LFM_STAT.ZONES : Fld := ⟨0x100104, 16, 7, 0⟩
def LFM.FAULT_CNT.COUNT : Fld := ⟨0x100108, 0, 32, 0⟩
def LFM.MASK_CNT.COUNT : Fld := ⟨0x10010c, 0, 32, 0⟩
def LFM.LATCH_LO.ZONES : Fld := ⟨0x100110, 0, 32, 0⟩
def LFM.LATCH_HI.ZONES : Fld := ⟨0x100114, 0, 32, 0⟩
def LFM.SPIRE_DARK_LO.ZONES : Fld := ⟨0x100118, 0, 32, 0⟩
def LFM.SPIRE_DARK_HI.ZONES : Fld := ⟨0x10011c, 0, 32, 0⟩
def LFM.REC_CNT.COUNT : Fld := ⟨0x100120, 0, 32, 0⟩
def LFM.BAD_REC.COUNT : Fld := ⟨0x100124, 0, 32, 0⟩
def LFM.SUPPR_CNT.COUNT : Fld := ⟨0x100128, 0, 32, 0⟩
def LFM.OVF_CNT.COUNT : Fld := ⟨0x10012c, 0, 32, 0⟩
/-! ZON: Table 13-10. -/
def ZON.ZONE_XY0.X0 (k : Nat) : Fld := ⟨0x100400 + k * 0x10, 0, 15, 0⟩
def ZON.ZONE_XY0.Y0 (k : Nat) : Fld := ⟨0x100400 + k * 0x10, 16, 15, 0⟩
def ZON.ZONE_XY1.X1 (k : Nat) : Fld := ⟨0x100404 + k * 0x10, 0, 15, 0⟩
def ZON.ZONE_XY1.Y1 (k : Nat) : Fld := ⟨0x100404 + k * 0x10, 16, 15, 0⟩
def ZON.ZONE_MODE.MODE (k : Nat) : Fld := ⟨0x100408 + k * 0x10, 0, 2, 0⟩
def ZON.ZONE_MODE.SPIRE (k : Nat) : Fld := ⟨0x100408 + k * 0x10, 2, 1, 0⟩
def ZON.ZONE_FAULTS.COUNT (k : Nat) : Fld := ⟨0x10040c + k * 0x10, 0, 32, 0⟩
/-! MEM: Table 14-8. -/
def MEM.CH_CTRL.SR (p : Nat) : Fld := ⟨0x110100 + p * 0x1000, 0, 1, 0⟩
def MEM.CH_CTRL.OFFLINE (p : Nat) : Fld := ⟨0x110100 + p * 0x1000, 1, 1, 0⟩
def MEM.CH_CTRL.RETURN (p : Nat) : Fld := ⟨0x110100 + p * 0x1000, 2, 1, 0⟩
def MEM.CH_CTRL.RETRAIN_NOW (p : Nat) : Fld := ⟨0x110100 + p * 0x1000, 3, 1, 0⟩
def MEM.CH_CTRL.BIST_GO (p : Nat) : Fld := ⟨0x110100 + p * 0x1000, 4, 1, 0⟩
def MEM.CH_STAT.STATE (p : Nat) : Fld := ⟨0x110104 + p * 0x1000, 0, 3, 0⟩
def MEM.CH_STAT.FILLED (p : Nat) : Fld := ⟨0x110104 + p * 0x1000, 3, 1, 0⟩
def MEM.CH_STAT.MIRROR_OK (p : Nat) : Fld := ⟨0x110104 + p * 0x1000, 4, 1, 0⟩
def MEM.CH_STAT.MARGIN (p : Nat) : Fld := ⟨0x110104 + p * 0x1000, 8, 8, 0⟩
def MEM.TRAIN_CFG.INTERVAL (p : Nat) : Fld := ⟨0x110108 + p * 0x1000, 0, 8, 20⟩
def MEM.TRAIN_CFG.DT (p : Nat) : Fld := ⟨0x110108 + p * 0x1000, 8, 8, 5⟩
def MEM.TRAIN_CFG.MIN_MARGIN (p : Nat) : Fld := ⟨0x110108 + p * 0x1000, 16, 8, 32⟩
def MEM.TEMP.T (p : Nat) : Fld := ⟨0x11010c + p * 0x1000, 0, 16, 0⟩
def MEM.OFFLINE_CFG.THR (p : Nat) : Fld := ⟨0x110110 + p * 0x1000, 0, 16, 16⟩
def MEM.OFFLINE_CFG.WIN (p : Nat) : Fld := ⟨0x110110 + p * 0x1000, 16, 16, 1000⟩
def MEM.TRAIN_CNT.DONE (p : Nat) : Fld := ⟨0x110114 + p * 0x1000, 0, 16, 0⟩
def MEM.TRAIN_CNT.FAILED (p : Nat) : Fld := ⟨0x110114 + p * 0x1000, 16, 16, 0⟩
def MEM.BIST_STAT.RESULT (p : Nat) : Fld := ⟨0x110118 + p * 0x1000, 0, 2, 0⟩
def MEM.DEMAND.GBPS (p : Nat) : Fld := ⟨0x11011c + p * 0x1000, 0, 16, 0⟩
def MEM.PORT_TGT.TGT (p : Nat) (i : Nat) : Fld := ⟨0x110120 + p * 0x1000 + i * 4, 0, 16, [400, 100, 400, 800, 800, 200, 400, 5000].getD i 0⟩
def MEM.PORT_TGT.HARD (p : Nat) (i : Nat) : Fld := ⟨0x110120 + p * 0x1000 + i * 4, 16, 1, 0⟩
def MEM.PORT_LAT.MAX (p : Nat) (i : Nat) : Fld := ⟨0x110140 + p * 0x1000 + i * 4, 0, 16, 0⟩
def MEM.PORT_LAT.MISS (p : Nat) (i : Nat) : Fld := ⟨0x110140 + p * 0x1000 + i * 4, 16, 16, 0⟩
def MEM.WQ_FWD.COUNT (p : Nat) : Fld := ⟨0x110160 + p * 0x1000, 0, 32, 0⟩
def MEM.STALL_RD.COUNT (p : Nat) : Fld := ⟨0x110164 + p * 0x1000, 0, 32, 0⟩
def MEM.STALL_WR.COUNT (p : Nat) : Fld := ⟨0x110168 + p * 0x1000, 0, 32, 0⟩
def MEM.DIAG_BASE_LO.BASE (p : Nat) : Fld := ⟨0x110180 + p * 0x1000, 0, 32, 0⟩
def MEM.DIAG_BASE_HI.BASE (p : Nat) : Fld := ⟨0x110184 + p * 0x1000, 0, 32, 0⟩
/-! PAR: Table 14-10. -/
def PAR.PAR_CTRL.POLICY : Fld := ⟨0x120100, 0, 2, 0⟩
def PAR.PAR_CTRL.SCRUB_EN : Fld := ⟨0x120100, 2, 1, 1⟩
def PAR.NEUTRAL.D : Fld := ⟨0x120104, 0, 16, 2048⟩
def PAR.CHK_CTRL.MODE : Fld := ⟨0x120108, 0, 2, 0⟩
def PAR.CHK_CTRL.INJ_SRAM : Fld := ⟨0x120108, 2, 1, 0⟩
def PAR.CHK_CTRL.INJ_ARM : Fld := ⟨0x120108, 3, 1, 0⟩
def PAR.CHK_CTRL.INJ_PORT : Fld := ⟨0x120108, 4, 4, 0⟩
def PAR.CHK_CTRL.INJ_MASK : Fld := ⟨0x120108, 8, 8, 0⟩
def PAR.CHK_CTRL.WR_PAR : Fld := ⟨0x120108, 16, 8, 0⟩
def PAR.CHK_CTRL.RD_PAR : Fld := ⟨0x120108, 24, 8, 0⟩
def PAR.PAT_CTRL.EN : Fld := ⟨0x12010c, 0, 1, 0⟩
def PAR.PAT_CTRL.SRC : Fld := ⟨0x12010c, 1, 1, 1⟩
def PAR.PAT_CTRL.RATE : Fld := ⟨0x12010c, 8, 8, 16⟩
def PAR.PAT_BASE_LO.BASE : Fld := ⟨0x120110, 0, 32, 0⟩
def PAR.PAT_BASE_HI.BASE : Fld := ⟨0x120114, 0, 32, 0⟩
def PAR.PAT_SIZE.MIB : Fld := ⟨0x120118, 0, 16, 0⟩
def PAR.PAT_STAT.RUNNING : Fld := ⟨0x12011c, 0, 1, 0⟩
def PAR.PAT_STAT.PASSES : Fld := ⟨0x12011c, 16, 16, 0⟩
def PAR.PAT_BAD.VALID : Fld := ⟨0x120120, 0, 1, 0⟩
def PAR.PAT_BAD.BANK : Fld := ⟨0x120120, 1, 1, 0⟩
def PAR.PAT_BAD.REGION : Fld := ⟨0x120120, 12, 20, 0⟩
def PAR.PAT_OVF.COUNT : Fld := ⟨0x120124, 0, 32, 0⟩
def PAR.DRAM_ERR_CNT.COUNT : Fld := ⟨0x120128, 0, 32, 0⟩
def PAR.SRAM_ERR_CNT.COUNT : Fld := ⟨0x12012c, 0, 32, 0⟩
def PAR.MIRROR_FIX_CNT.COUNT : Fld := ⟨0x120130, 0, 32, 0⟩
def PAR.LOG_STAT.NEXT : Fld := ⟨0x120134, 0, 4, 0⟩
def PAR.LOG_STAT.WRAPPED : Fld := ⟨0x120134, 4, 1, 0⟩
def PAR.LOG_STAT.TOTAL : Fld := ⟨0x120134, 16, 16, 0⟩
/-! LOG: Table 14-12. -/
def LOG.LOG_ADDR_LO.ADDR (k : Nat) : Fld := ⟨0x120200 + k * 0x10, 0, 32, 0⟩
def LOG.LOG_INFO.ADDR_HI (k : Nat) : Fld := ⟨0x120204 + k * 0x10, 0, 2, 0⟩
def LOG.LOG_INFO.PORT (k : Nat) : Fld := ⟨0x120204 + k * 0x10, 2, 3, 0⟩
def LOG.LOG_INFO.CHANNEL (k : Nat) : Fld := ⟨0x120204 + k * 0x10, 5, 2, 0⟩
def LOG.LOG_INFO.SRAM (k : Nat) : Fld := ⟨0x120204 + k * 0x10, 7, 1, 0⟩
def LOG.LOG_INFO.ARRAY (k : Nat) : Fld := ⟨0x120204 + k * 0x10, 8, 4, 0⟩
def LOG.LOG_INFO.CODE (k : Nat) : Fld := ⟨0x120204 + k * 0x10, 16, 8, 0⟩
def LOG.LOG_INFO.BYTES (k : Nat) : Fld := ⟨0x120204 + k * 0x10, 24, 8, 0⟩
def LOG.LOG_TIME_LO.NS (k : Nat) : Fld := ⟨0x120208 + k * 0x10, 0, 32, 0⟩
def LOG.LOG_TIME_HI.NS (k : Nat) : Fld := ⟨0x12020c + k * 0x10, 0, 32, 0⟩
/-! QUE: Table 15-9. -/
def QUE.QUE_STAT.ENABLED : Fld := ⟨0x140100, 0, 14, 0⟩
def QUE.INFLIGHT.COUNT : Fld := ⟨0x140104, 0, 20, 0⟩
def QUE.DISPATCHED.COUNT : Fld := ⟨0x140108, 0, 32, 0⟩
def QUE.STALL_Q.COUNT : Fld := ⟨0x14010c, 0, 32, 0⟩
def QUE.DESC_ERR.COUNT : Fld := ⟨0x140110, 0, 32, 0⟩
def QUE.ACC_HELD.U : Fld := ⟨0x140140, 0, 7, 0⟩
def QUE.ACC_HELD.D : Fld := ⟨0x140140, 16, 7, 0⟩
def QUE.ACC_DROP.U : Fld := ⟨0x140144, 0, 16, 0⟩
def QUE.ACC_DROP.D : Fld := ⟨0x140144, 16, 16, 0⟩
def QUE.DUP_HIT.COUNT : Fld := ⟨0x140148, 0, 32, 0⟩
def QUE.DUP_EVICT.COUNT : Fld := ⟨0x14014c, 0, 32, 0⟩
def QUE.DUP_SRCS.COUNT : Fld := ⟨0x140150, 0, 6, 0⟩
def QUE.TEST_CTRL.ID : Fld := ⟨0x140180, 0, 8, 0⟩
def QUE.TEST_CTRL.TARGET : Fld := ⟨0x140180, 8, 8, 0⟩
def QUE.TEST_CTRL.RETRIES : Fld := ⟨0x140180, 16, 4, 4⟩
def QUE.TEST_CTRL.GO : Fld := ⟨0x140180, 31, 1, 0⟩
def QUE.TEST_STAT.STATE : Fld := ⟨0x140184, 0, 2, 0⟩
def QUE.TEST_STAT.RESULT : Fld := ⟨0x140184, 4, 3, 0⟩
def QUE.TEST_STAT.TRIES : Fld := ⟨0x140184, 8, 4, 0⟩
def QUE.TEST_STAT.STANDBY : Fld := ⟨0x140184, 16, 1, 0⟩
def QUE.TEST_DETAIL.DETAIL : Fld := ⟨0x140188, 0, 32, 0⟩
/-! QCX: Table 15-10. -/
def QCX.Q_CTRL.EN (k : Nat) : Fld := ⟨0x1800000 + k * 0x40, 0, 1, 0⟩
def QCX.Q_CTRL.ERROR (k : Nat) : Fld := ⟨0x1800000 + k * 0x40, 1, 1, 0⟩
def QCX.Q_CTRL.IDLE (k : Nat) : Fld := ⟨0x1800000 + k * 0x40, 2, 1, 1⟩
def QCX.Q_CTRL.CLASS (k : Nat) : Fld := ⟨0x1800000 + k * 0x40, 3, 3, 0⟩
def QCX.Q_CTRL.OWNER (k : Nat) : Fld := ⟨0x1800000 + k * 0x40, 8, 4, 0⟩
def QCX.Q_CTRL.SIZE_EXP (k : Nat) : Fld := ⟨0x1800000 + k * 0x40, 16, 4, 1⟩
def QCX.Q_CTRL.VECTOR (k : Nat) : Fld := ⟨0x1800000 + k * 0x40, 24, 8, 0⟩
def QCX.Q_BASE_LO.BASE (k : Nat) : Fld := ⟨0x1800008 + k * 0x40, 0, 32, 0⟩
def QCX.Q_BASE_HI.BASE (k : Nat) : Fld := ⟨0x180000c + k * 0x40, 0, 32, 0⟩
def QCX.Q_HEAD.IDX (k : Nat) : Fld := ⟨0x1800010 + k * 0x40, 0, 12, 0⟩
def QCX.Q_TAIL.IDX (k : Nat) : Fld := ⟨0x1800014 + k * 0x40, 0, 12, 0⟩
def QCX.Q_FETCH.IDX (k : Nat) : Fld := ⟨0x1800018 + k * 0x40, 0, 12, 0⟩
def QCX.Q_INFLIGHT.COUNT (k : Nat) : Fld := ⟨0x180001c + k * 0x40, 0, 7, 0⟩
def QCX.Q_HSHADOW_LO.ADDR (k : Nat) : Fld := ⟨0x1800020 + k * 0x40, 0, 32, 0⟩
def QCX.Q_HSHADOW_HI.ADDR (k : Nat) : Fld := ⟨0x1800024 + k * 0x40, 0, 32, 0⟩
def QCX.Q_DONE_CNT.COUNT (k : Nat) : Fld := ⟨0x1800028 + k * 0x40, 0, 32, 0⟩
def QCX.Q_STALL_CNT.COUNT (k : Nat) : Fld := ⟨0x180002c + k * 0x40, 0, 32, 0⟩
def QCX.Q_ERR.CAUSE (k : Nat) : Fld := ⟨0x1800030 + k * 0x40, 0, 4, 0⟩
def QCX.Q_ERR.IDX (k : Nat) : Fld := ⟨0x1800030 + k * 0x40, 4, 12, 0⟩
/-! TEN: Table 15-12. -/
def TEN.RULE_CTRL.COMMIT : Fld := ⟨0x150100, 0, 1, 0⟩
def TEN.RULE_EPOCH.EPOCH : Fld := ⟨0x150104, 0, 32, 0⟩
def TEN.RULE_STAT.DRAINING : Fld := ⟨0x150108, 0, 1, 0⟩
def TEN.RULE_STAT.OLD : Fld := ⟨0x150108, 16, 16, 0⟩
def TEN.DENY_CNT.COUNT (k : Nat) : Fld := ⟨0x150c00 + k * 0x10, 0, 32, 0⟩
def TEN.DB_DENY.COUNT (k : Nat) : Fld := ⟨0x150c04 + k * 0x10, 0, 32, 0⟩
def TEN.REVOKED_CNT.COUNT (k : Nat) : Fld := ⟨0x150c08 + k * 0x10, 0, 32, 0⟩
def TEN.FLR_DISCARD.COUNT (k : Nat) : Fld := ⟨0x150c0c + k * 0x10, 0, 32, 0⟩
/-! RUL: Table 15-13. -/
def RUL.R_CLASS.CLASSES (k : Nat) : Fld := ⟨0x150400 + k * 0x40, 0, 6, 0⟩
def RUL.R_CLASS.ACTIONS (k : Nat) : Fld := ⟨0x150400 + k * 0x40, 8, 8, 0⟩
def RUL.R_CLASS.BCAST (k : Nat) : Fld := ⟨0x150400 + k * 0x40, 16, 1, 0⟩
def RUL.R_STOPS_A.LO (k : Nat) : Fld := ⟨0x150404 + k * 0x40, 0, 8, 1⟩
def RUL.R_STOPS_A.HI (k : Nat) : Fld := ⟨0x150404 + k * 0x40, 8, 8, 0⟩
def RUL.R_STOPS_A.EN (k : Nat) : Fld := ⟨0x150404 + k * 0x40, 16, 1, 0⟩
def RUL.R_STOPS_B.LO (k : Nat) : Fld := ⟨0x150408 + k * 0x40, 0, 8, 1⟩
def RUL.R_STOPS_B.HI (k : Nat) : Fld := ⟨0x150408 + k * 0x40, 8, 8, 0⟩
def RUL.R_STOPS_B.EN (k : Nat) : Fld := ⟨0x150408 + k * 0x40, 16, 1, 0⟩
def RUL.R_LAYERS.LAYERS (k : Nat) : Fld := ⟨0x15040c + k * 0x40, 0, 16, 0⟩
def RUL.R_LRD_LO.MASK (k : Nat) : Fld := ⟨0x150410 + k * 0x40, 0, 32, 0⟩
def RUL.R_LRD_HI.MASK (k : Nat) : Fld := ⟨0x150414 + k * 0x40, 0, 32, 0⟩
def RUL.R_LWR_LO.MASK (k : Nat) : Fld := ⟨0x150418 + k * 0x40, 0, 32, 0⟩
def RUL.R_LWR_HI.MASK (k : Nat) : Fld := ⟨0x15041c + k * 0x40, 0, 32, 0⟩
def RUL.R_RRD_LO.MASK (k : Nat) : Fld := ⟨0x150420 + k * 0x40, 0, 32, 0⟩
def RUL.R_RRD_HI.MASK (k : Nat) : Fld := ⟨0x150424 + k * 0x40, 0, 32, 0⟩
def RUL.R_RWR_LO.MASK (k : Nat) : Fld := ⟨0x150428 + k * 0x40, 0, 32, 0⟩
def RUL.R_RWR_HI.MASK (k : Nat) : Fld := ⟨0x15042c + k * 0x40, 0, 32, 0⟩
def RUL.R_DRAM_BASE.MIB (k : Nat) : Fld := ⟨0x150430 + k * 0x40, 0, 16, 0⟩
def RUL.R_DRAM_SIZE.MIB (k : Nat) : Fld := ⟨0x150434 + k * 0x40, 0, 16, 0⟩
/-! RUF: Table 15-13. -/
def RUF.R_CLASS.CLASSES (k : Nat) : Fld := ⟨0x150800 + k * 0x40, 0, 6, 0⟩
def RUF.R_CLASS.ACTIONS (k : Nat) : Fld := ⟨0x150800 + k * 0x40, 8, 8, 0⟩
def RUF.R_CLASS.BCAST (k : Nat) : Fld := ⟨0x150800 + k * 0x40, 16, 1, 0⟩
def RUF.R_STOPS_A.LO (k : Nat) : Fld := ⟨0x150804 + k * 0x40, 0, 8, 1⟩
def RUF.R_STOPS_A.HI (k : Nat) : Fld := ⟨0x150804 + k * 0x40, 8, 8, 0⟩
def RUF.R_STOPS_A.EN (k : Nat) : Fld := ⟨0x150804 + k * 0x40, 16, 1, 0⟩
def RUF.R_STOPS_B.LO (k : Nat) : Fld := ⟨0x150808 + k * 0x40, 0, 8, 1⟩
def RUF.R_STOPS_B.HI (k : Nat) : Fld := ⟨0x150808 + k * 0x40, 8, 8, 0⟩
def RUF.R_STOPS_B.EN (k : Nat) : Fld := ⟨0x150808 + k * 0x40, 16, 1, 0⟩
def RUF.R_LAYERS.LAYERS (k : Nat) : Fld := ⟨0x15080c + k * 0x40, 0, 16, 0⟩
def RUF.R_LRD_LO.MASK (k : Nat) : Fld := ⟨0x150810 + k * 0x40, 0, 32, 0⟩
def RUF.R_LRD_HI.MASK (k : Nat) : Fld := ⟨0x150814 + k * 0x40, 0, 32, 0⟩
def RUF.R_LWR_LO.MASK (k : Nat) : Fld := ⟨0x150818 + k * 0x40, 0, 32, 0⟩
def RUF.R_LWR_HI.MASK (k : Nat) : Fld := ⟨0x15081c + k * 0x40, 0, 32, 0⟩
def RUF.R_RRD_LO.MASK (k : Nat) : Fld := ⟨0x150820 + k * 0x40, 0, 32, 0⟩
def RUF.R_RRD_HI.MASK (k : Nat) : Fld := ⟨0x150824 + k * 0x40, 0, 32, 0⟩
def RUF.R_RWR_LO.MASK (k : Nat) : Fld := ⟨0x150828 + k * 0x40, 0, 32, 0⟩
def RUF.R_RWR_HI.MASK (k : Nat) : Fld := ⟨0x15082c + k * 0x40, 0, 32, 0⟩
def RUF.R_DRAM_BASE.MIB (k : Nat) : Fld := ⟨0x150830 + k * 0x40, 0, 16, 0⟩
def RUF.R_DRAM_SIZE.MIB (k : Nat) : Fld := ⟨0x150834 + k * 0x40, 0, 16, 0⟩
/-! MBX: Table 15-15. -/
def MBX.TX.DATA (p k : Nat) (i : Nat) : Fld := ⟨0x10100 + p * 0x1000 + k * 0x100 + i * 4, 0, 32, 0⟩
def MBX.RX.DATA (p k : Nat) (i : Nat) : Fld := ⟨0x10140 + p * 0x1000 + k * 0x100 + i * 4, 0, 32, 0⟩
def MBX.M_CTRL.SEND (p k : Nat) : Fld := ⟨0x10180 + p * 0x1000 + k * 0x100, 0, 1, 0⟩
def MBX.M_CTRL.POP (p k : Nat) : Fld := ⟨0x10180 + p * 0x1000 + k * 0x100, 1, 1, 0⟩
def MBX.M_STAT.TX_INFLIGHT (p k : Nat) : Fld := ⟨0x10184 + p * 0x1000 + k * 0x100, 0, 3, 0⟩
def MBX.M_STAT.TX_FULL (p k : Nat) : Fld := ⟨0x10184 + p * 0x1000 + k * 0x100, 3, 1, 0⟩
def MBX.M_STAT.TIMEOUT (p k : Nat) : Fld := ⟨0x10184 + p * 0x1000 + k * 0x100, 4, 1, 0⟩
def MBX.M_STAT.PEER_RESET (p k : Nat) : Fld := ⟨0x10184 + p * 0x1000 + k * 0x100, 5, 1, 0⟩
def MBX.M_STAT.RX_COUNT (p k : Nat) : Fld := ⟨0x10184 + p * 0x1000 + k * 0x100, 8, 3, 0⟩
def MBX.M_STAT.RX_POISON (p k : Nat) : Fld := ⟨0x10184 + p * 0x1000 + k * 0x100, 11, 1, 0⟩
def MBX.M_TMO.UNITS (p k : Nat) : Fld := ⟨0x10188 + p * 0x1000 + k * 0x100, 0, 16, 1000⟩
def MBX.M_REFUSED.COUNT (p k : Nat) : Fld := ⟨0x1018c + p * 0x1000 + k * 0x100, 0, 32, 0⟩
/-! RDN: Table 16-7. -/
def RDN.RDN_CFG.ROLE : Fld := ⟨0x160100, 0, 1, 0⟩
def RDN.RDN_CFG.AUTO : Fld := ⟨0x160100, 1, 1, 1⟩
def RDN.RDN_CFG.GAP_US : Fld := ⟨0x160100, 8, 8, 8⟩
def RDN.RDN_CTRL.HANDOVER : Fld := ⟨0x160104, 0, 1, 0⟩
def RDN.RDN_CTRL.RESYNC : Fld := ⟨0x160104, 1, 1, 0⟩
def RDN.RDN_STAT.STATE : Fld := ⟨0x160108, 0, 3, 0⟩
def RDN.RDN_STAT.LAST_CAUSE : Fld := ⟨0x160108, 4, 3, 0⟩
def RDN.RDN_STAT.MIS_STOP : Fld := ⟨0x160108, 8, 8, 0⟩
def RDN.RDN_STAT.MIS_PORT : Fld := ⟨0x160108, 16, 1, 0⟩
def RDN.HEALTH.TX : Fld := ⟨0x16010c, 0, 16, 2048⟩
def RDN.HEALTH.RX : Fld := ⟨0x16010c, 16, 16, 0⟩
def RDN.MIRROR_SEQ.TX : Fld := ⟨0x160110, 0, 16, 0⟩
def RDN.MIRROR_SEQ.RX : Fld := ⟨0x160110, 16, 16, 0⟩
def RDN.MIRROR_GAP.COUNT : Fld := ⟨0x160114, 0, 32, 0⟩
def RDN.MIRROR_LATE.COUNT : Fld := ⟨0x160118, 0, 32, 0⟩
def RDN.SWITCH_CNT.COUNT : Fld := ⟨0x16011c, 0, 32, 0⟩
def RDN.MISMATCH_CNT.COUNT : Fld := ⟨0x160120, 0, 32, 0⟩
def RDN.SYNC_MS.MS : Fld := ⟨0x160124, 0, 16, 0⟩
/-! CLU: Table 16-9. -/
def CLU.CLU_CFG.MEMBER : Fld := ⟨0x170100, 0, 5, 0⟩
def CLU.CLU_CFG.MASTER : Fld := ⟨0x170100, 8, 5, 0⟩
def CLU.CLU_CFG.STRICT : Fld := ⟨0x170100, 16, 1, 1⟩
def CLU.CLU_CFG.LEVEL_SYNC : Fld := ⟨0x170100, 17, 1, 1⟩
def CLU.CLU_CFG.LOSS : Fld := ⟨0x170100, 24, 8, 3⟩
def CLU.CLU_DST.ADDR : Fld := ⟨0x170104, 0, 32, 0⟩
def CLU.CLU_UDP.PORT : Fld := ⟨0x170108, 0, 16, 0⟩
def CLU.CLU_UDP.PORTS : Fld := ⟨0x170108, 16, 4, 1⟩
def CLU.MEMBERS.MASK : Fld := ⟨0x17010c, 0, 32, 0⟩
def CLU.ENT_IDX.IDX : Fld := ⟨0x170110, 0, 8, 255⟩
def CLU.EPOCH_CUR.EPOCH : Fld := ⟨0x170114, 0, 32, 0⟩
def CLU.DIGEST_CUR_LO.DIGEST : Fld := ⟨0x170118, 0, 32, 0⟩
def CLU.DIGEST_CUR_HI.DIGEST : Fld := ⟨0x17011c, 0, 32, 0⟩
def CLU.EPOCH_REQ.EPOCH : Fld := ⟨0x170120, 0, 32, 0⟩
def CLU.REQ_FLIP.FLIP : Fld := ⟨0x170124, 0, 32, 0⟩
def CLU.REQ_DEADLINE.DEADLINE : Fld := ⟨0x170128, 0, 32, 0⟩
def CLU.REQ_CTRL.GO : Fld := ⟨0x17012c, 0, 1, 0⟩
def CLU.REQ_CTRL.CANCEL : Fld := ⟨0x17012c, 1, 1, 0⟩
def CLU.EPOCH_PEND.EPOCH : Fld := ⟨0x170130, 0, 32, 0⟩
def CLU.DIGEST_PEND_LO.DIGEST : Fld := ⟨0x170134, 0, 32, 0⟩
def CLU.DIGEST_PEND_HI.DIGEST : Fld := ⟨0x170138, 0, 32, 0⟩
def CLU.CLU_STAT.IS_MASTER : Fld := ⟨0x17013c, 0, 1, 0⟩
def CLU.CLU_STAT.MASTER_LOST : Fld := ⟨0x17013c, 1, 1, 0⟩
def CLU.CLU_STAT.READY : Fld := ⟨0x17013c, 2, 1, 0⟩
def CLU.CLU_STAT.OUT_OF_TIME : Fld := ⟨0x17013c, 3, 1, 0⟩
def CLU.CLU_STAT.LATE : Fld := ⟨0x17013c, 4, 1, 0⟩
def CLU.CLU_STAT.PHASE : Fld := ⟨0x17013c, 5, 2, 0⟩
def CLU.CLU_STAT.LEVEL : Fld := ⟨0x17013c, 8, 8, 0⟩
def CLU.SEEN.MASK : Fld := ⟨0x170140, 0, 32, 0⟩
def CLU.READY_MASK.MASK : Fld := ⟨0x170144, 0, 32, 0⟩
def CLU.LATE_MASK.MASK : Fld := ⟨0x170148, 0, 32, 0⟩
def CLU.LATE_COLOR.COLOR : Fld := ⟨0x17014c, 0, 30, 0⟩
def CLU.TIME_ERR.NS : Fld := ⟨0x170150, 0, 32, 0⟩
def CLU.DIGEST_BAD.MEMBER : Fld := ⟨0x170154, 0, 5, 0⟩
def CLU.DIGEST_BAD.STOP : Fld := ⟨0x170154, 8, 8, 0⟩
def CLU.DIGEST_BAD.PORT : Fld := ⟨0x170154, 16, 1, 0⟩
def CLU.REC_MISS.COUNT : Fld := ⟨0x170158, 0, 32, 0⟩
def CLU.CONFLICT.COUNT : Fld := ⟨0x17015c, 0, 32, 0⟩
/-! HKT: Table 17-7. -/
def HKT.HKT_CTRL.THR_EN : Fld := ⟨0x3100, 0, 1, 1⟩
def HKT.HKT_CTRL.ROR_EN : Fld := ⟨0x3100, 1, 1, 1⟩
def HKT.HKT_CTRL.ENFORCE_NOW : Fld := ⟨0x3100, 2, 1, 0⟩
def HKT.HKT_CTRL.GRACE : Fld := ⟨0x3100, 8, 8, 20⟩
def HKT.HKT_STAT.THR_STATE : Fld := ⟨0x3104, 0, 2, 0⟩
def HKT.HKT_STAT.WARN : Fld := ⟨0x3104, 2, 1, 0⟩
def HKT.HKT_STAT.ROR : Fld := ⟨0x3104, 3, 1, 0⟩
def HKT.HKT_STAT.STALE : Fld := ⟨0x3104, 4, 1, 0⟩
def HKT.HKT_STAT.ROUND : Fld := ⟨0x3104, 16, 16, 0⟩
def HKT.TEMP_MAX.T : Fld := ⟨0x3108, 0, 16, 0⟩
def HKT.TEMP_MAX.CHAN : Fld := ⟨0x3108, 16, 6, 0⟩
def HKT.THR_CHAN.CHAN : Fld := ⟨0x310c, 0, 6, 0⟩
def HKT.THR_CHAN.BY_ROR : Fld := ⟨0x310c, 6, 1, 0⟩
def HKT.BROKEN_LO.CHANS : Fld := ⟨0x3110, 0, 32, 0⟩
def HKT.BROKEN_HI.CHANS : Fld := ⟨0x3114, 0, 32, 0⟩
def HKT.CAP_MIN.POS : Fld := ⟨0x3118, 0, 17, 58982⟩
def HKT.CAP_STEP.STEP : Fld := ⟨0x311c, 0, 16, 64⟩
/-! LIM: Table 17-8. -/
def LIM.LIM_A.WARN (k : Nat) : Fld := ⟨0x3140 + k * 0x10, 0, 16, [1520, 1360, 960, 800].getD k 0⟩
def LIM.LIM_A.THROTTLE (k : Nat) : Fld := ⟨0x3140 + k * 0x10, 16, 16, [1680, 1520, 1120, 960].getD k 0⟩
def LIM.LIM_B.SHUTDOWN (k : Nat) : Fld := ⟨0x3144 + k * 0x10, 0, 16, [1920, 1680, 1360, 1200].getD k 0⟩
def LIM.LIM_B.HYST (k : Nat) : Fld := ⟨0x3144 + k * 0x10, 16, 8, 5⟩
def LIM.LIM_ROR.ROR (k : Nat) : Fld := ⟨0x3148 + k * 0x10, 0, 16, [160, 0, 32, 0].getD k 0⟩
/-! HCH: Table 17-9. -/
def HCH.CH_CFG.TYPE (k : Nat) : Fld := ⟨0x3400 + k * 0x10, 0, 3, if k < 16 then 4 else if k < 48 then 0 else if k < 58 then 5 else 0⟩
def HCH.CH_CFG.LIMSET (k : Nat) : Fld := ⟨0x3400 + k * 0x10, 4, 2, if k < 14 then 0 else if k < 16 then 1 else if k < 48 then 2 else 0⟩
def HCH.CH_CFG.GROUP (k : Nat) : Fld := ⟨0x3400 + k * 0x10, 8, 5, if k < 14 then 1 else if k < 16 then 2 else 0⟩
def HCH.CH_VAL.VALUE (k : Nat) : Fld := ⟨0x3404 + k * 0x10, 0, 16, 0⟩
def HCH.CH_VAL.STALE (k : Nat) : Fld := ⟨0x3404 + k * 0x10, 16, 1, 0⟩
def HCH.CH_VAL.BROKEN (k : Nat) : Fld := ⟨0x3404 + k * 0x10, 17, 1, 0⟩
def HCH.CH_VAL.OVER (k : Nat) : Fld := ⟨0x3404 + k * 0x10, 18, 1, 0⟩
def HCH.CH_P0.A (k : Nat) : Fld := ⟨0x3408 + k * 0x10, 0, 16, 3435⟩
def HCH.CH_P0.C (k : Nat) : Fld := ⟨0x3408 + k * 0x10, 16, 16, 1000⟩
def HCH.CH_P1.RPU (k : Nat) : Fld := ⟨0x340c + k * 0x10, 0, 16, 1000⟩
/-! CAL: Table 17-10. -/
def CAL.CAL_CTRL.RUN : Fld := ⟨0x4100, 0, 1, 0⟩
def CAL.REFIN_CFG.UV : Fld := ⟨0x4104, 0, 21, 1250000⟩
def CAL.CAL_STAT.FUSE_OK : Fld := ⟨0x4108, 0, 1, 0⟩
def CAL.CAL_STAT.BUSY : Fld := ⟨0x4108, 1, 1, 0⟩
def CAL.CAL_STAT.RESULT : Fld := ⟨0x4108, 2, 2, 0⟩
def CAL.FUSE_CRC.STORED : Fld := ⟨0x410c, 0, 16, 0⟩
def CAL.FUSE_CRC.COMPUTED : Fld := ⟨0x410c, 16, 16, 0⟩
def CAL.TRIM_FACT.CODE (k : Nat) : Fld := ⟨0x4200 + k * 0x8, 0, 16, 0⟩
def CAL.TRIM_FIELD.CODE (k : Nat) : Fld := ⟨0x4204 + k * 0x8, 0, 16, 0⟩
/-! IDN: Table 17-11. -/
def IDN.IDN_TYPE.TYPE_ID : Fld := ⟨0x100, 0, 16, 36964⟩
def IDN.IDN_TYPE.STEPPING : Fld := ⟨0x100, 16, 4, 0⟩
def IDN.LOT_LO.LOT : Fld := ⟨0x104, 0, 32, 0⟩
def IDN.LOT_HI.LOT : Fld := ⟨0x108, 0, 32, 0⟩
def IDN.DIE.WAFER : Fld := ⟨0x10c, 0, 5, 0⟩
def IDN.DIE.DIE_X : Fld := ⟨0x10c, 8, 8, 0⟩
def IDN.DIE.DIE_Y : Fld := ⟨0x10c, 16, 8, 0⟩
def IDN.SERIAL.V (i : Nat) : Fld := ⟨0x110 + i * 4, 0, 32, 0⟩
def IDN.MAC_BASE_LO.MAC : Fld := ⟨0x11c, 0, 32, 0⟩
def IDN.MAC_BASE_HI.MAC : Fld := ⟨0x120, 0, 16, 0⟩
def IDN.ID_STAT.ID_OK : Fld := ⟨0x124, 0, 1, 0⟩
def IDN.STRAPS.ROLE : Fld := ⟨0x128, 0, 2, 0⟩
def IDN.STRAPS.BOOT_SEL : Fld := ⟨0x128, 2, 1, 0⟩
/-! FWU: Table 18-8. -/
def FWU.FWU_CTRL.CONFIRM_MC : Fld := ⟨0x28100, 0, 1, 0⟩
def FWU.FWU_CTRL.CONFIRM_LC : Fld := ⟨0x28100, 1, 1, 0⟩
def FWU.FWU_CTRL.RB_COMMIT : Fld := ⟨0x28100, 2, 1, 0⟩
def FWU.FWU_CFG.CONFIRM_S : Fld := ⟨0x28104, 0, 8, 60⟩
def FWU.FWU_STAT.SAFE : Fld := ⟨0x28108, 0, 1, 0⟩
def FWU.FWU_STAT.MC_SLOT : Fld := ⟨0x28108, 1, 1, 0⟩
def FWU.FWU_STAT.LC_SLOT : Fld := ⟨0x28108, 2, 1, 0⟩
def FWU.FWU_STAT.SET_SLOT : Fld := ⟨0x28108, 3, 1, 0⟩
def FWU.FWU_STAT.SET_DEFAULT : Fld := ⟨0x28108, 4, 1, 0⟩
def FWU.FWU_STAT.BOOT_PAIR : Fld := ⟨0x28108, 8, 3, 0⟩
def FWU.FWU_STAT.SAFE_CAUSE : Fld := ⟨0x28108, 12, 2, 0⟩
def FWU.ROLLBACK.COUNT : Fld := ⟨0x2810c, 0, 6, 0⟩
def FWU.KEYS.PRESENT : Fld := ⟨0x28110, 0, 4, 0⟩
def FWU.KEYS.REVOKED : Fld := ⟨0x28110, 4, 4, 0⟩
def FWU.SESSION.PURPOSE : Fld := ⟨0x28114, 0, 8, 0⟩
def FWU.SESSION.SLOT : Fld := ⟨0x28114, 8, 3, 0⟩
def FWU.SESSION.ID : Fld := ⟨0x28114, 16, 16, 0⟩
def FWU.SESS_BYTES.BYTES : Fld := ⟨0x28118, 0, 32, 0⟩
/-! SLT: Table 18-9. -/
def SLT.SLOT_STAT.STATE (k : Nat) : Fld := ⟨0x28140 + k * 0x10, 0, 3, 0⟩
def SLT.SLOT_STAT.RESULT (k : Nat) : Fld := ⟨0x28140 + k * 0x10, 4, 4, 0⟩
def SLT.SLOT_STAT.RB_INDEX (k : Nat) : Fld := ⟨0x28140 + k * 0x10, 8, 6, 0⟩
def SLT.SLOT_STAT.TRIALS (k : Nat) : Fld := ⟨0x28140 + k * 0x10, 14, 2, 0⟩
def SLT.SLOT_STAT.COMPAT (k : Nat) : Fld := ⟨0x28140 + k * 0x10, 16, 16, 0⟩
def SLT.SLOT_VER.VERSION (k : Nat) : Fld := ⟨0x28144 + k * 0x10, 0, 32, 0⟩
def SLT.SLOT_GEN.GEN (k : Nat) : Fld := ⟨0x28148 + k * 0x10, 0, 32, 0⟩
def SLT.SLOT_PEER.PEER_MIN (k : Nat) : Fld := ⟨0x2814c + k * 0x10, 0, 16, 0⟩
def SLT.SLOT_PEER.PEER_MAX (k : Nat) : Fld := ⟨0x2814c + k * 0x10, 16, 16, 0⟩
/-! SVP: Table 18-11. -/
def SVP.SVP_CTRL.PORT_EN : Fld := ⟨0x29100, 0, 1, 1⟩
def SVP.SVP_CTRL.SGMII : Fld := ⟨0x29100, 1, 1, 0⟩
def SVP.SVP_CTRL.AN_EN : Fld := ⟨0x29100, 2, 1, 1⟩
def SVP.SVP_STAT.LINK_UP : Fld := ⟨0x29104, 0, 1, 0⟩
def SVP.SVP_STAT.AN_DONE : Fld := ⟨0x29104, 1, 1, 0⟩
def SVP.SVP_IPV4.ADDR : Fld := ⟨0x29108, 0, 32, 0⟩
def SVP.SVP_UDP.PORT : Fld := ⟨0x2910c, 0, 16, 36964⟩
def SVP.SVP_ALLOW.ADDR : Fld := ⟨0x29110, 0, 32, 0⟩
def SVP.RX_DGRAM.COUNT : Fld := ⟨0x29114, 0, 32, 0⟩
def SVP.RX_DROP.COUNT : Fld := ⟨0x29118, 0, 32, 0⟩
def SVP.TX_DGRAM.COUNT : Fld := ⟨0x2911c, 0, 32, 0⟩
def SVP.SVC_SEG.COUNT : Fld := ⟨0x29120, 0, 32, 0⟩
def SVP.SVC_DISC.COUNT : Fld := ⟨0x29124, 0, 32, 0⟩
/-! DEP: Table 4-19. -/
def DEP.MODE_CUR.ROLE : Fld := ⟨0x9100, 0, 1, 0⟩
def DEP.MODE_CUR.TIMING : Fld := ⟨0x9100, 4, 1, 0⟩
def DEP.MODE_CUR.VIEWS : Fld := ⟨0x9100, 8, 2, 0⟩
def DEP.MODE_CUR.CODING_A : Fld := ⟨0x9100, 12, 2, 0⟩
def DEP.MODE_CUR.CODING_B : Fld := ⟨0x9100, 14, 2, 0⟩
def DEP.MODE_CUR.REDUN : Fld := ⟨0x9100, 16, 1, 0⟩
def DEP.MODE_CUR.SINK : Fld := ⟨0x9100, 20, 1, 0⟩
def DEP.MODE_CUR.EMIT : Fld := ⟨0x9100, 21, 1, 0⟩
def DEP.MODE_CUR.SCAN : Fld := ⟨0x9100, 24, 6, 0⟩
def DEP.MODE_NEXT.ROLE : Fld := ⟨0x9104, 0, 1, 0⟩
def DEP.MODE_NEXT.TIMING : Fld := ⟨0x9104, 4, 1, 0⟩
def DEP.MODE_NEXT.VIEWS : Fld := ⟨0x9104, 8, 2, 0⟩
def DEP.MODE_NEXT.CODING_A : Fld := ⟨0x9104, 12, 2, 0⟩
def DEP.MODE_NEXT.CODING_B : Fld := ⟨0x9104, 14, 2, 0⟩
def DEP.MODE_NEXT.REDUN : Fld := ⟨0x9104, 16, 1, 0⟩
def DEP.MODE_NEXT.SINK : Fld := ⟨0x9104, 20, 1, 0⟩
def DEP.MODE_NEXT.EMIT : Fld := ⟨0x9104, 21, 1, 0⟩
def DEP.MODE_NEXT.SCAN : Fld := ⟨0x9104, 24, 6, 0⟩
def DEP.MODE_FALLBACK.ROLE : Fld := ⟨0x9110, 0, 1, 0⟩
def DEP.MODE_FALLBACK.TIMING : Fld := ⟨0x9110, 4, 1, 0⟩
def DEP.MODE_FALLBACK.VIEWS : Fld := ⟨0x9110, 8, 2, 0⟩
def DEP.MODE_FALLBACK.CODING_A : Fld := ⟨0x9110, 12, 2, 0⟩
def DEP.MODE_FALLBACK.CODING_B : Fld := ⟨0x9110, 14, 2, 0⟩
def DEP.MODE_FALLBACK.REDUN : Fld := ⟨0x9110, 16, 1, 0⟩
def DEP.MODE_FALLBACK.SINK : Fld := ⟨0x9110, 20, 1, 0⟩
def DEP.MODE_FALLBACK.EMIT : Fld := ⟨0x9110, 21, 1, 0⟩
def DEP.MODE_FALLBACK.SCAN : Fld := ⟨0x9110, 24, 6, 0⟩
def DEP.MODE_CHECK.VALID : Fld := ⟨0x9108, 0, 1, 1⟩
def DEP.MODE_CHECK.EPOCH_PENDING : Fld := ⟨0x9108, 1, 1, 0⟩
def DEP.MODE_CHECK.DEP_PENDING : Fld := ⟨0x9108, 2, 1, 0⟩
def DEP.MODE_CHECK.LOCKED : Fld := ⟨0x9108, 3, 1, 0⟩
def DEP.MODE_CHECK.RULE : Fld := ⟨0x9108, 8, 8, 0⟩
def DEP.MODE_CHECK.FIELDS : Fld := ⟨0x9108, 16, 8, 0⟩
def DEP.MODE_CHECK.REJECT_RULE : Fld := ⟨0x9108, 24, 8, 0⟩
def DEP.MODE_CTRL.DARK_FRAMES : Fld := ⟨0x910c, 0, 4, 3⟩
def DEP.MODE_CTRL.FB_EN : Fld := ⟨0x910c, 8, 1, 0⟩
def DEP.MODE_CTRL.FB_VALID : Fld := ⟨0x910c, 9, 1, 0⟩
def DEP.MODE_CTRL.FB_ACTIVE : Fld := ⟨0x910c, 10, 1, 0⟩
def DEP.MODE_CTRL.LAST_CAUSE : Fld := ⟨0x910c, 16, 4, 0⟩
/-! RAI: Table 13-7. -/
def RAI.RMAP.E0 (i : Nat) : Fld := ⟨0xf0800 + i * 4, 0, 5, 0x1F⟩
def RAI.RMAP.E1 (i : Nat) : Fld := ⟨0xf0800 + i * 4, 8, 5, 0x1F⟩
def RAI.RMAP.E2 (i : Nat) : Fld := ⟨0xf0800 + i * 4, 16, 5, 0x1F⟩
def RAI.RMAP.E3 (i : Nat) : Fld := ⟨0xf0800 + i * 4, 24, 5, 0x1F⟩
/-! COL: Table 7-10. -/
def COL.CURVE.DRIVE (i : Nat) : Fld := ⟨0x80300 + i * 4, 0, 21, curveReset i⟩
end R
end Sys2Proof.Machine
end

