-- ==== Sys2Proof/Machine/RegMap.lean ====
section
/-!
DEFINITION. The access table of every register page: for each register its offset, how many copies it has and
their stride, and for each field its place, its access code (Table 3-4A), its reset value as a function of the
copy's index, and the encodings that R7 lets it hold (empty: every value). Read off the register tables of spec/.
-/
namespace Sys2Proof.Machine

/-- Table 4-16. -/
def rows_tim : List RegRow :=
  [ ⟨0x100, 1, 4, [⟨0, 1, .rw, fun _ => 0, []⟩, ⟨1, 1, .rw, fun _ => 1, []⟩, ⟨2, 1, .rw, fun _ => 0, []⟩, ⟨3, 1, .wo, fun _ => 0, []⟩, ⟨4, 1, .wo, fun _ => 0, []⟩, ⟨8, 2, .rw, fun _ => 0, []⟩]⟩,
    ⟨0x104, 1, 4, [⟨0, 1, .ro, fun _ => 0, []⟩, ⟨1, 1, .ro, fun _ => 0, []⟩, ⟨2, 1, .ro, fun _ => 0, []⟩, ⟨3, 1, .ro, fun _ => 0, []⟩, ⟨4, 3, .ro, fun _ => 1, []⟩, ⟨8, 3, .ro, fun _ => 1, []⟩, ⟨12, 2, .ro, fun _ => 0, []⟩, ⟨16, 1, .ro, fun _ => 0, []⟩]⟩,
    ⟨0x108, 1, 4, [⟨0, 32, .ro, fun _ => 0, []⟩]⟩,
    ⟨0x10c, 1, 4, [⟨0, 32, .ro, fun _ => 0, []⟩]⟩,
    ⟨0x110, 1, 4, [⟨0, 32, .ro, fun _ => 0, []⟩]⟩,
    ⟨0x114, 1, 4, [⟨0, 32, .ro, fun _ => 0, []⟩]⟩,
    ⟨0x118, 1, 4, [⟨0, 16, .ro, fun _ => 0, []⟩]⟩,
    ⟨0x120, 1, 4, [⟨0, 16, .rw, fun _ => 100, []⟩]⟩,
    ⟨0x124, 1, 4, [⟨0, 32, .rw, fun _ => 1000, []⟩]⟩,
    ⟨0x128, 1, 4, [⟨0, 4, .ro, fun _ => 9, []⟩]⟩,
    ⟨0x12c, 1, 4, [⟨0, 4, .rw, fun _ => 9, [(0, 12)]⟩]⟩,
    ⟨0x130, 1, 4, [⟨0, 32, .rw, fun _ => 0, []⟩]⟩ ] ++
  [ ⟨0x134, 1, 4, [⟨0, 32, .rw, fun _ => 0, []⟩]⟩,
    ⟨0x138, 1, 4, [⟨0, 4, .rw, fun _ => 4, []⟩, ⟨4, 1, .rw, fun _ => 0, []⟩, ⟨8, 4, .ro, fun _ => 15, []⟩]⟩,
    ⟨0x13c, 1, 4, [⟨0, 16, .rc, fun _ => 0, []⟩, ⟨16, 16, .rc, fun _ => 0, []⟩]⟩,
    ⟨0x140, 1, 4, [⟨0, 32, .ro, fun _ => 0, []⟩]⟩,
    ⟨0x144, 1, 4, [⟨0, 32, .ro, fun _ => 0, []⟩]⟩,
    ⟨0x148, 1, 4, [⟨0, 32, .ro, fun _ => 0, []⟩]⟩,
    ⟨0x14c, 1, 4, [⟨0, 32, .ro, fun _ => 0, []⟩]⟩,
    ⟨0x150, 1, 4, [⟨0, 1, .rw, fun _ => 0, []⟩, ⟨8, 8, .rw, fun _ => 10, []⟩]⟩,
    ⟨0x154, 1, 4, [⟨0, 4, .rw, fun _ => 13, []⟩]⟩,
    ⟨0x160, 2, 4, [⟨0, 32, .ro, fun _ => 0, []⟩]⟩,
    ⟨0x168, 2, 4, [⟨0, 32, .rw, fun _ => 0, []⟩]⟩,
    ⟨0x180, 2, 0x20, [⟨0, 1, .rw, fun _ => 1, []⟩, ⟨1, 2, .rw, fun i => i, []⟩, ⟨8, 8, .rw, fun _ => 127, []⟩, ⟨16, 8, .rw, fun _ => 50, []⟩]⟩ ] ++
  [ ⟨0x184, 2, 0x20, [⟨0, 3, .ro, fun _ => 1, []⟩, ⟨8, 8, .ro, fun _ => 0, []⟩, ⟨16, 16, .rc, fun _ => 0, []⟩]⟩,
    ⟨0x188, 2, 0x20, [⟨0, 32, .ro, fun _ => 0, []⟩]⟩,
    ⟨0x18c, 2, 0x20, [⟨0, 32, .ro, fun _ => 0, []⟩]⟩,
    ⟨0x190, 2, 0x20, [⟨0, 32, .ro, fun _ => 0, []⟩]⟩,
    ⟨0x194, 2, 0x20, [⟨0, 32, .wo, fun _ => 0, []⟩]⟩,
    ⟨0x198, 2, 0x20, [⟨0, 5, .rw, fun _ => 3, []⟩, ⟨8, 5, .rw, fun _ => 7, []⟩]⟩,
    ⟨0x19c, 2, 0x20, [⟨0, 8, .rw, fun _ => 3, []⟩]⟩ ]

/-- Table 4-19. -/
def rows_dep : List RegRow :=
  [ ⟨0x120, 1, 4, [⟨0, 8, .rw, fun _ => 2, []⟩]⟩,
    ⟨0x124, 1, 4, [⟨0, 9, .ro, fun _ => 0, []⟩, ⟨16, 8, .ro, fun _ => 0, []⟩]⟩,
    ⟨0x128, 1, 4, [⟨0, 32, .ro, fun _ => 0, []⟩]⟩,
    ⟨0x12c, 1, 4, [⟨0, 32, .ro, fun _ => 0, []⟩]⟩,
    ⟨0x130, 1, 4, [⟨0, 8, .rw, fun _ => 0, []⟩]⟩,
    ⟨0x134, 1, 4, [⟨0, 32, .rw, fun _ => 0, []⟩]⟩,
    ⟨0x138, 1, 4, [⟨0, 32, .rw, fun _ => 0, []⟩]⟩,
    ⟨0x13c, 1, 4, [⟨0, 8, .rw, fun _ => 0, []⟩, ⟨8, 1, .rw, fun _ => 0, []⟩, ⟨9, 1, .rw, fun _ => 0, []⟩]⟩,
    ⟨0x140, 1, 4, [⟨0, 32, .rw, fun _ => 0, []⟩]⟩,
    ⟨0x144, 1, 4, [⟨0, 32, .rw, fun _ => 0, []⟩]⟩,
    ⟨0x148, 1, 4, [⟨0, 2, .wo, fun _ => 0, []⟩]⟩,
    ⟨0x14c, 1, 4, [⟨0, 3, .ro, fun _ => 0, []⟩, ⟨4, 4, .ro, fun _ => 0, []⟩]⟩ ] ++
  [ ⟨0x150, 3, 4, [⟨0, 32, .rw, fun _ => 0, []⟩]⟩,
    ⟨0x15c, 3, 4, [⟨0, 32, .ro, fun _ => 0, []⟩]⟩,
    ⟨0x168, 1, 4, [⟨0, 1, .rw, fun _ => 0, []⟩, ⟨1, 2, .rw, fun _ => 0, [(0, 2)]⟩, ⟨3, 1, .rw, fun _ => 0, []⟩, ⟨8, 8, .rw, fun _ => 10, []⟩]⟩,
    ⟨0x16c, 1, 4, [⟨0, 32, .rw, fun _ => 0, []⟩]⟩,
    ⟨0x170, 1, 4, [⟨0, 16, .ro, fun _ => 0, []⟩]⟩,
    ⟨0x174, 1, 4, [⟨0, 32, .rc, fun _ => 0, []⟩]⟩,
    ⟨0x178, 1, 4, [⟨0, 32, .rc, fun _ => 0, []⟩]⟩,
    ⟨0x17c, 1, 4, [⟨0, 32, .rc, fun _ => 0, []⟩]⟩,
    ⟨0x100, 1, 4, [⟨0, 1, .ro, fun _ => 0, []⟩, ⟨4, 1, .ro, fun _ => 0, []⟩, ⟨8, 2, .ro, fun _ => 0, []⟩, ⟨12, 2, .ro, fun _ => 0, []⟩, ⟨14, 2, .ro, fun _ => 0, []⟩, ⟨16, 1, .ro, fun _ => 0, []⟩, ⟨20, 1, .ro, fun _ => 0, []⟩, ⟨21, 1, .ro, fun _ => 0, []⟩, ⟨24, 6, .ro, fun _ => 0, []⟩]⟩,
    ⟨0x104, 1, 4, [⟨0, 1, .ro, fun _ => 0, []⟩, ⟨4, 1, .rws, fun _ => 0, []⟩, ⟨8, 2, .rws, fun _ => 0, []⟩, ⟨12, 2, .rws, fun _ => 0, [(0, 2)]⟩, ⟨14, 2, .rws, fun _ => 0, [(0, 2)]⟩, ⟨16, 1, .rws, fun _ => 0, []⟩, ⟨20, 1, .rwl, fun _ => 0, []⟩, ⟨21, 1, .rwl, fun _ => 0, []⟩, ⟨24, 6, .rws, fun _ => 0, []⟩]⟩,
    ⟨0x110, 1, 4, [⟨0, 1, .ro, fun _ => 0, []⟩, ⟨4, 1, .rw, fun _ => 0, []⟩, ⟨8, 2, .rw, fun _ => 0, []⟩, ⟨12, 2, .rw, fun _ => 0, [(0, 2)]⟩, ⟨14, 2, .rw, fun _ => 0, [(0, 2)]⟩, ⟨16, 1, .rw, fun _ => 0, []⟩, ⟨20, 1, .ro, fun _ => 0, []⟩, ⟨21, 1, .ro, fun _ => 0, []⟩, ⟨24, 6, .ro, fun _ => 0, []⟩]⟩,
    ⟨0x108, 1, 4, [⟨0, 1, .ro, fun _ => 1, []⟩, ⟨1, 1, .ro, fun _ => 0, []⟩, ⟨2, 1, .ro, fun _ => 0, []⟩, ⟨3, 1, .ro, fun _ => 0, []⟩, ⟨8, 8, .ro, fun _ => 0, []⟩, ⟨16, 8, .ro, fun _ => 0, []⟩, ⟨24, 8, .ro, fun _ => 0, []⟩]⟩ ] ++
  [ ⟨0x10c, 1, 4, [⟨0, 4, .rw, fun _ => 3, [(2, 15)]⟩, ⟨8, 1, .rw, fun _ => 0, []⟩, ⟨9, 1, .ro, fun _ => 0, []⟩, ⟨10, 1, .ro, fun _ => 0, []⟩, ⟨16, 4, .ro, fun _ => 0, []⟩]⟩ ]

/-- Table 5-6. -/
def rows_eth : List RegRow :=
  [ ⟨0x100, 1, 4, [⟨0, 1, .rw, fun _ => 0, []⟩, ⟨1, 1, .rw, fun _ => 1, []⟩]⟩,
    ⟨0x140, 4, 0x40, [⟨0, 1, .rw, fun _ => 0, []⟩, ⟨1, 1, .rw, fun _ => 0, []⟩, ⟨2, 1, .rw, fun _ => 1, []⟩]⟩,
    ⟨0x144, 4, 0x40, [⟨0, 1, .ro, fun _ => 0, []⟩, ⟨1, 1, .ro, fun _ => 0, []⟩, ⟨2, 1, .ro, fun _ => 0, []⟩, ⟨3, 1, .ro, fun _ => 0, []⟩]⟩,
    ⟨0x148, 4, 0x40, [⟨0, 32, .rw, fun _ => 0, []⟩]⟩,
    ⟨0x14c, 4, 0x40, [⟨0, 16, .rw, fun _ => 0, []⟩]⟩,
    ⟨0x150, 4, 0x40, [⟨0, 32, .rw, fun _ => 0, []⟩]⟩,
    ⟨0x154, 4, 0x40, [⟨0, 12, .rw, fun _ => 0, []⟩, ⟨12, 1, .rw, fun _ => 0, []⟩]⟩,
    ⟨0x158, 4, 0x40, [⟨0, 32, .rc, fun _ => 0, []⟩]⟩,
    ⟨0x15c, 4, 0x40, [⟨0, 32, .rc, fun _ => 0, []⟩]⟩,
    ⟨0x160, 4, 0x40, [⟨0, 32, .rc, fun _ => 0, []⟩]⟩,
    ⟨0x164, 4, 0x40, [⟨0, 32, .rc, fun _ => 0, []⟩]⟩,
    ⟨0x168, 4, 0x40, [⟨0, 32, .rc, fun _ => 0, []⟩]⟩ ] ++
  [ ⟨0x16c, 4, 0x40, [⟨0, 32, .rc, fun _ => 0, []⟩]⟩,
    ⟨0x170, 4, 0x40, [⟨0, 32, .rc, fun _ => 0, []⟩]⟩ ]

/-- Table 5-8. -/
def rows_ing : List RegRow :=
  [ ⟨0x100, 1, 4, [⟨0, 8, .rw, fun _ => 10, []⟩, ⟨8, 8, .rw, fun _ => 50, []⟩]⟩,
    ⟨0x104, 1, 4, [⟨0, 32, .rw, fun _ => 0, []⟩]⟩,
    ⟨0x108, 1, 4, [⟨0, 32, .rw, fun _ => 0, []⟩]⟩,
    ⟨0x10c, 1, 4, [⟨0, 16, .rw, fun _ => 0, []⟩]⟩,
    ⟨0x110, 1, 4, [⟨0, 16, .ro, fun _ => 0, []⟩]⟩,
    ⟨0x114, 1, 4, [⟨0, 16, .ro, fun _ => 0, []⟩]⟩,
    ⟨0x118, 4, 4, [⟨0, 16, .ro, fun _ => 0, []⟩]⟩,
    ⟨0x128, 1, 4, [⟨0, 4, .rw, fun _ => 0, []⟩, ⟨8, 1, .rw, fun _ => 0, []⟩, ⟨9, 1, .ro, fun _ => 0, []⟩, ⟨16, 4, .rw, fun _ => 8, []⟩]⟩,
    ⟨0x12c, 1, 4, [⟨0, 16, .rc, fun _ => 0, []⟩, ⟨16, 16, .rc, fun _ => 0, []⟩]⟩,
    ⟨0x130, 1, 4, [⟨0, 12, .rw, fun _ => 1000, []⟩]⟩ ]

/-- Table 5-10. -/
def rows_ingFlow : List RegRow :=
  [ ⟨0x100, 4, 0x200, [⟨0, 1, .rw, fun _ => 0, []⟩, ⟨1, 1, .rw, fun _ => 0, []⟩, ⟨2, 1, .rw, fun _ => 0, []⟩, ⟨3, 3, .rw, fun _ => 3, [(2, 4)]⟩, ⟨6, 2, .rw, fun _ => 0, [(0, 2)]⟩, ⟨8, 8, .rw, fun _ => 6, []⟩, ⟨16, 5, .rw, fun _ => 0, []⟩, ⟨21, 1, .rw, fun _ => 0, []⟩]⟩,
    ⟨0x104, 4, 0x200, [⟨0, 3, .rw, fun _ => 0, [(0, 3)]⟩, ⟨4, 2, .rw, fun _ => 1, [(0, 2)]⟩, ⟨6, 1, .rw, fun _ => 0, []⟩, ⟨8, 3, .rw, fun _ => 0, [(0, 3)]⟩, ⟨12, 3, .rw, fun _ => 1, [(0, 3)]⟩, ⟨16, 2, .rw, fun _ => 0, [(0, 2)]⟩, ⟨20, 4, .rw, fun _ => 9, [(0, 12)]⟩, ⟨24, 2, .rw, fun _ => 0, [(0, 2)]⟩]⟩,
    ⟨0x108, 4, 0x200, [⟨0, 14, .rw, fun _ => 1920, []⟩, ⟨16, 13, .rw, fun _ => 1080, []⟩]⟩,
    ⟨0x10c, 4, 0x200, [⟨0, 3, .ro, fun _ => 0, []⟩, ⟨3, 1, .ro, fun _ => 0, []⟩, ⟨4, 1, .ro, fun _ => 0, []⟩, ⟨5, 1, .ro, fun _ => 0, []⟩, ⟨16, 16, .ro, fun _ => 0, []⟩]⟩,
    ⟨0x110, 4, 0x200, [⟨0, 32, .rw, fun _ => 0, []⟩]⟩,
    ⟨0x120, 4, 0x200, [⟨0, 32, .rw, fun _ => 0, []⟩]⟩,
    ⟨0x114, 4, 0x200, [⟨0, 32, .rw, fun _ => 0, []⟩]⟩,
    ⟨0x124, 4, 0x200, [⟨0, 32, .rw, fun _ => 0, []⟩]⟩,
    ⟨0x118, 4, 0x200, [⟨0, 16, .rw, fun _ => 0, []⟩, ⟨16, 2, .rw, fun _ => 0, []⟩, ⟨24, 7, .rw, fun _ => 0, []⟩]⟩,
    ⟨0x128, 4, 0x200, [⟨0, 16, .rw, fun _ => 0, []⟩, ⟨16, 2, .rw, fun _ => 0, []⟩, ⟨24, 7, .rw, fun _ => 0, []⟩]⟩,
    ⟨0x11c, 4, 0x200, [⟨0, 12, .rw, fun _ => 0, []⟩, ⟨12, 1, .rw, fun _ => 0, []⟩]⟩,
    ⟨0x12c, 4, 0x200, [⟨0, 12, .rw, fun _ => 0, []⟩, ⟨12, 1, .rw, fun _ => 0, []⟩]⟩ ] ++
  [ ⟨0x130, 4, 0x200, [⟨0, 32, .rc, fun _ => 0, []⟩]⟩,
    ⟨0x134, 4, 0x200, [⟨0, 32, .rc, fun _ => 0, []⟩]⟩,
    ⟨0x138, 4, 0x200, [⟨0, 32, .rc, fun _ => 0, []⟩]⟩,
    ⟨0x13c, 4, 0x200, [⟨0, 32, .rc, fun _ => 0, []⟩]⟩,
    ⟨0x140, 4, 0x200, [⟨0, 32, .rc, fun _ => 0, []⟩]⟩,
    ⟨0x144, 4, 0x200, [⟨0, 32, .rc, fun _ => 0, []⟩]⟩,
    ⟨0x148, 4, 0x200, [⟨0, 32, .rc, fun _ => 0, []⟩]⟩,
    ⟨0x14c, 4, 0x200, [⟨0, 32, .rc, fun _ => 0, []⟩]⟩,
    ⟨0x150, 4, 0x200, [⟨0, 32, .rc, fun _ => 0, []⟩]⟩,
    ⟨0x154, 4, 0x200, [⟨0, 32, .rc, fun _ => 0, []⟩]⟩,
    ⟨0x158, 4, 0x200, [⟨0, 32, .rc, fun _ => 0, []⟩]⟩,
    ⟨0x160, 4, 0x200, [⟨0, 32, .ro, fun _ => 0, []⟩]⟩ ] ++
  [ ⟨0x164, 4, 0x200, [⟨0, 32, .ro, fun _ => 0, []⟩]⟩,
    ⟨0x168, 4, 0x200, [⟨0, 31, .ro, fun _ => 0, []⟩, ⟨31, 1, .ro, fun _ => 0, []⟩]⟩,
    ⟨0x16c, 4, 0x200, [⟨0, 32, .ro, fun _ => 0, []⟩]⟩,
    ⟨0x170, 4, 0x200, [⟨0, 30, .rw, fun _ => 0, []⟩]⟩ ]

/-- Table 6-7. -/
def rows_map : List RegRow :=
  [ ⟨0x100, 1, 4, [⟨0, 15, .rws, fun _ => 1920, []⟩, ⟨16, 15, .rws, fun _ => 1080, []⟩]⟩,
    ⟨0x104, 1, 4, [⟨0, 18, .rws, fun _ => 0, []⟩]⟩,
    ⟨0x108, 1, 4, [⟨0, 18, .rws, fun _ => 0, []⟩]⟩,
    ⟨0x10c, 1, 4, [⟨0, 1, .wo, fun _ => 0, []⟩]⟩,
    ⟨0x110, 1, 4, [⟨0, 1, .ro, fun _ => 0, []⟩, ⟨1, 1, .ro, fun _ => 0, []⟩, ⟨8, 8, .ro, fun _ => 0, []⟩, ⟨16, 11, .ro, fun _ => 0, []⟩]⟩,
    ⟨0x114, 1, 4, [⟨0, 12, .ro, fun _ => 0, []⟩]⟩,
    ⟨0x118, 1, 4, [⟨0, 32, .ro, fun _ => 0, []⟩]⟩,
    ⟨0x11c, 1, 4, [⟨0, 32, .ro, fun _ => 0, []⟩]⟩,
    ⟨0x120, 1, 4, [⟨0, 32, .rc, fun _ => 0, []⟩]⟩,
    ⟨0x124, 1, 4, [⟨0, 32, .rc, fun _ => 0, []⟩]⟩,
    ⟨0x128, 1, 4, [⟨0, 32, .rc, fun _ => 0, []⟩]⟩,
    ⟨0x12c, 1, 4, [⟨0, 8, .ro, fun _ => 0, []⟩, ⟨8, 8, .ro, fun _ => 0, []⟩]⟩ ]

/-- Table 7-7. -/
def rows_cmp : List RegRow :=
  [ ⟨0x100, 1, 4, [⟨0, 1, .rws, fun _ => 0, []⟩]⟩,
    ⟨0x104, 1, 4, [⟨0, 30, .rws, fun _ => 0, []⟩]⟩,
    ⟨0x108, 1, 4, [⟨0, 3, .ro, fun _ => 1, []⟩]⟩,
    ⟨0x10c, 1, 4, [⟨0, 32, .rc, fun _ => 0, []⟩]⟩,
    ⟨0x110, 1, 4, [⟨0, 32, .rc, fun _ => 0, []⟩]⟩ ]

/-- Table 7-8. -/
def rows_cmpLayer : List RegRow :=
  [ ⟨0x100, 2, 0x200, [⟨0, 1, .rws, fun _ => 0, []⟩, ⟨1, 1, .rws, fun _ => 0, []⟩, ⟨2, 4, .rws, fun _ => 0, []⟩, ⟨6, 1, .rws, fun _ => 0, []⟩, ⟨7, 1, .rws, fun _ => 0, []⟩, ⟨8, 4, .rws, fun _ => 1, []⟩]⟩,
    ⟨0x104, 2, 0x200, [⟨0, 15, .rws, fun _ => 0, []⟩, ⟨16, 15, .rws, fun _ => 0, []⟩]⟩,
    ⟨0x108, 2, 0x200, [⟨0, 15, .rws, fun _ => 0, []⟩, ⟨16, 15, .rws, fun _ => 0, []⟩]⟩,
    ⟨0x10c, 2, 0x200, [⟨0, 32, .rws, fun _ => 0, []⟩]⟩,
    ⟨0x110, 2, 0x200, [⟨0, 32, .rws, fun _ => 0, []⟩]⟩,
    ⟨0x114, 2, 0x200, [⟨0, 24, .rws, fun _ => 65536, []⟩]⟩,
    ⟨0x118, 2, 0x200, [⟨0, 24, .rws, fun _ => 65536, []⟩]⟩,
    ⟨0x11c, 2, 0x200, [⟨0, 17, .rws, fun _ => 65536, []⟩]⟩,
    ⟨0x120, 2, 0x200, [⟨0, 16, .rws, fun _ => 4096, []⟩]⟩,
    ⟨0x124, 2, 0x200, [⟨0, 30, .rws, fun _ => 0, []⟩]⟩,
    ⟨0x128, 2, 0x200, [⟨0, 17, .rws, fun _ => 65536, []⟩]⟩,
    ⟨0x12c, 2, 0x200, [⟨0, 16, .rws, fun _ => 0, []⟩]⟩ ] ++
  [ ⟨0x130, 2, 0x200, [⟨0, 17, .ro, fun _ => 65536, []⟩]⟩,
    ⟨0x134, 2, 0x200, [⟨0, 1, .ro, fun _ => 0, []⟩, ⟨1, 1, .ro, fun _ => 0, []⟩]⟩ ]

/-- Table 7-9. -/
def rows_cmpSpire : List RegRow :=
  [ ⟨0x100, 1, 4, [⟨0, 1, .wo, fun _ => 0, []⟩]⟩,
    ⟨0x104, 1, 4, [⟨0, 1, .ro, fun _ => 0, []⟩, ⟨8, 8, .ro, fun _ => 0, []⟩, ⟨16, 16, .ro, fun _ => 0, []⟩]⟩,
    ⟨0x108, 1, 4, [⟨0, 16, .ro, fun _ => 0, []⟩]⟩,
    ⟨0x10c, 1, 4, [⟨0, 32, .rc, fun _ => 0, []⟩]⟩ ]

/-- Table 7-10. -/
def rows_col : List RegRow :=
  [ ⟨0x100, 1, 4, [⟨0, 1, .rws, fun _ => 0, []⟩, ⟨1, 1, .rws, fun _ => 0, []⟩]⟩,
    ⟨0x104, 9, 4, [⟨0, 16, .rws, fun i => if i % 4 = 0 then 0x1000 else 0, []⟩]⟩,
    ⟨0x128, 1, 4, [⟨0, 17, .rws, fun _ => 65536, []⟩]⟩,
    ⟨0x12c, 1, 4, [⟨0, 16, .rws, fun _ => 0, []⟩]⟩,
    ⟨0x130, 1, 4, [⟨0, 17, .ro, fun _ => 65536, []⟩]⟩,
    ⟨0x140, 1, 4, [⟨0, 1, .rws, fun _ => 0, []⟩, ⟨1, 2, .rws, fun _ => 0, []⟩, ⟨3, 2, .rws, fun _ => 1, []⟩, ⟨5, 2, .rws, fun _ => 0, [(0, 2)]⟩, ⟨7, 2, .rws, fun _ => 0, []⟩]⟩,
    ⟨0x144, 1, 4, [⟨0, 11, .rws, fun _ => 1920, []⟩, ⟨16, 11, .rws, fun _ => 1080, []⟩]⟩,
    ⟨0x148, 1, 4, [⟨0, 22, .rws, fun _ => 0, []⟩]⟩,
    ⟨0x14c, 1, 4, [⟨0, 22, .rws, fun _ => 0, []⟩]⟩,
    ⟨0x150, 1, 4, [⟨0, 24, .rws, fun _ => 262144, []⟩]⟩,
    ⟨0x154, 1, 4, [⟨0, 24, .rws, fun _ => 262144, []⟩]⟩,
    ⟨0x158, 1, 4, [⟨0, 32, .rws, fun _ => 0, []⟩]⟩ ] ++
  [ ⟨0x15c, 1, 4, [⟨0, 16, .rws, fun _ => 0, []⟩, ⟨16, 7, .rws, fun _ => 96, []⟩]⟩,
    ⟨0x160, 1, 4, [⟨0, 32, .rws, fun _ => 0, []⟩]⟩,
    ⟨0x164, 1, 4, [⟨0, 32, .rc, fun _ => 0, []⟩]⟩,
    ⟨0x300, 771, 4, [⟨0, 21, .rws, curveReset, []⟩]⟩ ]

/-- Table 7-11. -/
def rows_otg : List RegRow :=
  [ ⟨0x100, 1, 4, [⟨0, 24, .rws, fun _ => 20000, []⟩]⟩,
    ⟨0x104, 1, 4, [⟨0, 24, .rws, fun _ => 60000, []⟩]⟩,
    ⟨0x108, 1, 4, [⟨0, 14, .rw, fun _ => 0, []⟩, ⟨16, 1, .rw, fun _ => 0, []⟩]⟩,
    ⟨0x10c, 1, 4, [⟨0, 14, .ro, fun _ => 0, []⟩, ⟨16, 14, .ro, fun _ => 0, []⟩, ⟨30, 2, .ro, fun _ => 0, []⟩]⟩,
    ⟨0x110, 1, 4, [⟨0, 16, .rc, fun _ => 0, []⟩, ⟨16, 16, .rc, fun _ => 0, []⟩]⟩,
    ⟨0x114, 1, 4, [⟨0, 32, .rc, fun _ => 0, []⟩]⟩,
    ⟨0x118, 1, 4, [⟨0, 32, .ro, fun _ => 0, []⟩]⟩ ]

/-- Table 8-16. -/
def rows_lnk : List RegRow :=
  [ ⟨0x100, 1, 4, [⟨0, 2, .rw, fun _ => 0, [(0, 2)]⟩, ⟨2, 1, .rw, fun _ => 1, []⟩, ⟨3, 1, .rw, fun _ => 1, []⟩, ⟨4, 1, .rw, fun _ => 0, []⟩, ⟨5, 1, .wo, fun _ => 0, []⟩, ⟨8, 8, .rw, fun _ => 2, [(1, 2)]⟩]⟩,
    ⟨0x104, 1, 4, [⟨0, 3, .ro, fun _ => 0, []⟩, ⟨4, 2, .ro, fun _ => 0, []⟩, ⟨6, 2, .ro, fun _ => 0, []⟩, ⟨8, 4, .ro, fun _ => 0, []⟩, ⟨12, 4, .ro, fun _ => 0, []⟩, ⟨16, 4, .ro, fun _ => 0, []⟩]⟩,
    ⟨0x108, 1, 4, [⟨0, 8, .ro, fun _ => 0, []⟩, ⟨8, 2, .ro, fun _ => 0, []⟩, ⟨10, 2, .ro, fun _ => 0, []⟩, ⟨16, 3, .ro, fun _ => 0, []⟩, ⟨24, 8, .ro, fun _ => 0, []⟩]⟩,
    ⟨0x10c, 1, 4, [⟨0, 16, .ro, fun _ => 0, []⟩, ⟨16, 4, .ro, fun _ => 0, []⟩]⟩,
    ⟨0x110, 1, 4, [⟨0, 8, .rw, fun _ => 200, []⟩, ⟨8, 4, .rw, fun _ => 8, []⟩]⟩,
    ⟨0x114, 1, 4, [⟨0, 16, .rw, fun _ => 1000, []⟩]⟩,
    ⟨0x118, 1, 4, [⟨0, 2, .ro, fun _ => 0, []⟩, ⟨8, 8, .ro, fun _ => 0, []⟩, ⟨16, 8, .ro, fun _ => 0, []⟩]⟩,
    ⟨0x11c, 1, 4, [⟨0, 32, .ro, fun _ => 0, []⟩]⟩,
    ⟨0x120, 1, 4, [⟨0, 32, .rc, fun _ => 0, []⟩]⟩,
    ⟨0x124, 1, 4, [⟨0, 32, .rc, fun _ => 0, []⟩]⟩,
    ⟨0x128, 1, 4, [⟨0, 32, .rc, fun _ => 0, []⟩]⟩,
    ⟨0x12c, 1, 4, [⟨0, 32, .rc, fun _ => 0, []⟩]⟩ ] ++
  [ ⟨0x130, 1, 4, [⟨0, 32, .rc, fun _ => 0, []⟩]⟩,
    ⟨0x134, 1, 4, [⟨0, 32, .rc, fun _ => 0, []⟩]⟩,
    ⟨0x138, 1, 4, [⟨0, 32, .rc, fun _ => 0, []⟩]⟩ ]

/-- Table 8-19. -/
def rows_lnl : List RegRow :=
  [ ⟨0x100, 1, 4, [⟨0, 1, .rw, fun _ => 0, []⟩, ⟨1, 1, .rw, fun _ => 0, []⟩, ⟨2, 1, .rw, fun _ => 0, []⟩, ⟨3, 1, .rw, fun _ => 1, []⟩, ⟨4, 1, .rw, fun _ => 0, []⟩, ⟨5, 1, .wo, fun _ => 0, []⟩]⟩,
    ⟨0x104, 1, 4, [⟨0, 3, .ro, fun _ => 0, []⟩, ⟨4, 4, .ro, fun _ => 0, []⟩, ⟨8, 1, .ro, fun _ => 0, []⟩, ⟨9, 1, .ro, fun _ => 0, []⟩, ⟨10, 1, .ro, fun _ => 0, []⟩, ⟨11, 1, .ro, fun _ => 0, []⟩, ⟨12, 2, .ro, fun _ => 0, []⟩]⟩,
    ⟨0x108, 1, 4, [⟨0, 6, .ro, fun _ => 0, []⟩, ⟨6, 6, .ro, fun _ => 0, []⟩, ⟨12, 7, .ro, fun _ => 0, []⟩, ⟨19, 6, .ro, fun _ => 0, []⟩, ⟨25, 6, .ro, fun _ => 0, []⟩]⟩,
    ⟨0x10c, 1, 4, [⟨0, 32, .rw, fun _ => 29568640, []⟩]⟩,
    ⟨0x110, 1, 4, [⟨0, 5, .rw, fun _ => 16, []⟩, ⟨8, 5, .rw, fun _ => 16, []⟩, ⟨16, 1, .rw, fun _ => 1, []⟩]⟩,
    ⟨0x114, 1, 4, [⟨0, 32, .ro, fun _ => 0, []⟩]⟩,
    ⟨0x118, 1, 4, [⟨0, 32, .ro, fun _ => 0, []⟩]⟩,
    ⟨0x11c, 1, 4, [⟨0, 16, .ro, fun _ => 0, []⟩]⟩,
    ⟨0x120, 1, 4, [⟨0, 32, .ro, fun _ => 0, []⟩]⟩,
    ⟨0x124, 1, 4, [⟨0, 32, .rc, fun _ => 0, []⟩]⟩,
    ⟨0x128, 1, 4, [⟨0, 32, .rc, fun _ => 0, []⟩]⟩,
    ⟨0x12c, 1, 4, [⟨0, 32, .rc, fun _ => 0, []⟩]⟩ ] ++
  [ ⟨0x130, 1, 4, [⟨0, 8, .rw, fun _ => 55, []⟩, ⟨8, 4, .rw, fun _ => 5, []⟩]⟩,
    ⟨0x134, 1, 4, [⟨0, 32, .ro, fun _ => 0, []⟩]⟩ ]

/-- Table 9-11. -/
def rows_lne : List RegRow :=
  [ ⟨0x100, 1, 4, [⟨0, 1, .wo, fun _ => 0, []⟩, ⟨1, 1, .rw, fun _ => 1, []⟩, ⟨2, 1, .rw, fun _ => 1, []⟩]⟩,
    ⟨0x104, 1, 4, [⟨0, 8, .ro, fun _ => 0, []⟩, ⟨8, 1, .ro, fun _ => 0, []⟩, ⟨9, 1, .ro, fun _ => 0, []⟩, ⟨10, 1, .ro, fun _ => 0, []⟩]⟩,
    ⟨0x108, 1, 4, [⟨0, 11, .rw, fun _ => 0, []⟩]⟩,
    ⟨0x10c, 1, 4, [⟨0, 16, .rw, fun _ => 1000, []⟩, ⟨16, 16, .ro, fun _ => 1000, []⟩]⟩,
    ⟨0x110, 1, 4, [⟨0, 12, .ro, fun _ => 0, []⟩]⟩,
    ⟨0x114, 1, 4, [⟨0, 32, .rc, fun _ => 0, []⟩]⟩,
    ⟨0x118, 1, 4, [⟨0, 32, .rc, fun _ => 0, []⟩]⟩,
    ⟨0x11c, 1, 4, [⟨0, 32, .rc, fun _ => 0, []⟩]⟩,
    ⟨0x120, 1, 4, [⟨0, 32, .rc, fun _ => 0, []⟩]⟩,
    ⟨0x124, 1, 4, [⟨0, 32, .rw, fun _ => 0, []⟩]⟩,
    ⟨0x128, 1, 4, [⟨0, 32, .rw, fun _ => 0, []⟩]⟩,
    ⟨0x12c, 1, 4, [⟨0, 32, .rc, fun _ => 0, []⟩]⟩ ] ++
  [ ⟨0x130, 1, 4, [⟨0, 8, .ro, fun _ => 0, []⟩, ⟨8, 8, .ro, fun _ => 0, []⟩, ⟨16, 8, .ro, fun _ => 0, []⟩]⟩,
    ⟨0x134, 1, 4, [⟨0, 16, .ro, fun _ => 0, []⟩]⟩,
    ⟨0x140, 1, 4, [⟨0, 8, .ro, fun _ => 0, []⟩, ⟨8, 8, .ro, fun _ => 0, []⟩]⟩,
    ⟨0x144, 1, 4, [⟨0, 8, .rw, fun _ => 6, []⟩, ⟨8, 1, .rw, fun _ => 0, []⟩, ⟨16, 10, .rw, fun _ => 500, []⟩]⟩,
    ⟨0x148, 1, 4, [⟨0, 2, .ro, fun _ => 3, []⟩, ⟨8, 8, .ro, fun _ => 0, []⟩]⟩,
    ⟨0x14c, 1, 4, [⟨0, 17, .ro, fun _ => 0, []⟩]⟩,
    ⟨0x150, 1, 4, [⟨0, 32, .rc, fun _ => 0, []⟩]⟩,
    ⟨0x154, 1, 4, [⟨0, 32, .rc, fun _ => 0, []⟩]⟩,
    ⟨0x158, 1, 4, [⟨0, 32, .rc, fun _ => 0, []⟩]⟩,
    ⟨0x15c, 1, 4, [⟨0, 32, .rc, fun _ => 0, []⟩]⟩,
    ⟨0x160, 1, 4, [⟨0, 32, .rc, fun _ => 0, []⟩]⟩,
    ⟨0x164, 1, 4, [⟨0, 32, .rc, fun _ => 0, []⟩]⟩ ]

/-- Table 10-5. -/
def rows_klc : List RegRow :=
  [ ⟨0x100, 1, 4, [⟨0, 1, .wo, fun _ => 0, []⟩]⟩,
    ⟨0x104, 1, 4, [⟨0, 12, .rw, fun _ => 32, []⟩]⟩,
    ⟨0x108, 1, 4, [⟨0, 16, .rc, fun _ => 0, []⟩, ⟨16, 16, .rc, fun _ => 0, []⟩]⟩,
    ⟨0x10c, 1, 4, [⟨0, 32, .rc, fun _ => 0, []⟩]⟩,
    ⟨0x110, 1, 4, [⟨0, 32, .rc, fun _ => 0, []⟩]⟩,
    ⟨0x114, 1, 4, [⟨0, 32, .rw, fun _ => 0, []⟩]⟩,
    ⟨0x118, 1, 4, [⟨0, 32, .rw, fun _ => 0, []⟩]⟩,
    ⟨0x11c, 1, 4, [⟨0, 4, .rw, fun _ => 4, []⟩]⟩,
    ⟨0x120, 1, 4, [⟨0, 12, .ro, fun _ => 0, []⟩]⟩,
    ⟨0x124, 1, 4, [⟨0, 12, .rw, fun _ => 0, []⟩]⟩,
    ⟨0x128, 1, 4, [⟨0, 1, .ro, fun _ => 0, []⟩, ⟨1, 1, .ro, fun _ => 0, []⟩, ⟨4, 4, .ro, fun _ => 0, []⟩, ⟨8, 12, .ro, fun _ => 0, []⟩]⟩,
    ⟨0x12c, 1, 4, [⟨0, 32, .ro, fun _ => 0, []⟩]⟩ ] ++
  [ ⟨0x130, 1, 4, [⟨0, 32, .rc, fun _ => 0, []⟩]⟩,
    ⟨0x134, 1, 4, [⟨0, 32, .rc, fun _ => 0, []⟩]⟩ ]

/-- Table 11-8. -/
def rows_cor : List RegRow :=
  [ ⟨0x100, 1, 4, [⟨0, 2, .rws, fun _ => 1, [(0, 2)]⟩, ⟨2, 1, .rw, fun _ => 1, []⟩, ⟨3, 1, .rws, fun _ => 1, []⟩, ⟨4, 1, .rws, fun _ => 1, []⟩]⟩,
    ⟨0x104, 1, 4, [⟨0, 15, .rwl, fun _ => 0, []⟩, ⟨16, 15, .rwl, fun _ => 0, []⟩]⟩,
    ⟨0x108, 1, 4, [⟨0, 1, .rws, fun _ => 0, []⟩]⟩,
    ⟨0x10c, 1, 4, [⟨0, 1, .ro, fun _ => 0, []⟩, ⟨1, 1, .ro, fun _ => 0, []⟩, ⟨2, 1, .ro, fun _ => 0, []⟩, ⟨4, 2, .ro, fun _ => 0, []⟩, ⟨16, 14, .ro, fun _ => 0, []⟩]⟩,
    ⟨0x110, 1, 4, [⟨0, 32, .ro, fun _ => 0, []⟩]⟩,
    ⟨0x114, 1, 4, [⟨0, 32, .ro, fun _ => 0, []⟩]⟩,
    ⟨0x118, 1, 4, [⟨0, 32, .ro, fun _ => 0, []⟩]⟩,
    ⟨0x11c, 1, 4, [⟨0, 32, .ro, fun _ => 0, []⟩]⟩,
    ⟨0x120, 1, 4, [⟨0, 16, .rws, fun _ => 400, []⟩]⟩,
    ⟨0x124, 1, 4, [⟨0, 4, .rws, fun _ => 0, []⟩, ⟨4, 4, .rws, fun _ => 0, []⟩]⟩,
    ⟨0x128, 1, 4, [⟨0, 16, .rws, fun _ => 16384, []⟩, ⟨16, 16, .rws, fun _ => 16384, []⟩]⟩,
    ⟨0x12c, 1, 4, [⟨0, 16, .rws, fun _ => 16384, []⟩, ⟨16, 16, .rws, fun _ => 16384, []⟩]⟩ ] ++
  [ ⟨0x130, 1, 4, [⟨0, 8, .rws, fun _ => 228, []⟩]⟩,
    ⟨0x134, 1, 4, [⟨0, 23, .rws, fun _ => 1, []⟩]⟩,
    ⟨0x138, 1, 4, [⟨0, 16, .rws, fun _ => 400, []⟩]⟩,
    ⟨0x140, 1, 4, [⟨0, 3, .rw, fun _ => 0, [(0, 4)]⟩]⟩,
    ⟨0x144, 1, 4, [⟨0, 32, .rw, fun _ => 0, []⟩]⟩,
    ⟨0x148, 1, 4, [⟨0, 32, .rw, fun _ => 0, []⟩]⟩,
    ⟨0x14c, 1, 4, [⟨0, 32, .rw, fun _ => 0, []⟩]⟩,
    ⟨0x150, 1, 4, [⟨0, 16, .rw, fun _ => 0, []⟩]⟩,
    ⟨0x160, 1, 4, [⟨0, 32, .rw, fun _ => 0, []⟩]⟩,
    ⟨0x164, 1, 4, [⟨0, 14, .rw, fun _ => 0, []⟩, ⟨16, 14, .rw, fun _ => 0, []⟩]⟩,
    ⟨0x168, 1, 4, [⟨0, 3, .rw, fun _ => 0, []⟩, ⟨3, 1, .rw, fun _ => 0, []⟩, ⟨8, 8, .rw, fun _ => 0, []⟩, ⟨31, 1, .wo, fun _ => 0, []⟩]⟩,
    ⟨0x16c, 1, 4, [⟨0, 5, .ro, fun _ => 0, []⟩, ⟨5, 1, .ro, fun _ => 0, []⟩, ⟨8, 8, .ro, fun _ => 0, []⟩, ⟨16, 14, .ro, fun _ => 0, []⟩]⟩ ] ++
  [ ⟨0x170, 1, 4, [⟨0, 8, .rc, fun _ => 0, []⟩, ⟨8, 4, .rc, fun _ => 0, []⟩, ⟨16, 14, .rc, fun _ => 0, []⟩]⟩,
    ⟨0x174, 1, 4, [⟨0, 32, .rc, fun _ => 0, []⟩]⟩,
    ⟨0x178, 1, 4, [⟨0, 32, .rc, fun _ => 0, []⟩]⟩,
    ⟨0x17c, 1, 4, [⟨0, 32, .rc, fun _ => 0, []⟩]⟩,
    ⟨0x180, 1, 4, [⟨0, 32, .rc, fun _ => 0, []⟩]⟩,
    ⟨0x184, 1, 4, [⟨0, 32, .ro, fun _ => 0, []⟩]⟩,
    ⟨0x188, 1, 4, [⟨0, 32, .ro, fun _ => 0, []⟩]⟩,
    ⟨0x18c, 1, 4, [⟨0, 16, .ro, fun _ => 0, []⟩]⟩,
    ⟨0x200, 48, 4, [⟨0, 6, .rws, fun _ => 0, []⟩, ⟨7, 1, .rws, fun _ => 0, []⟩]⟩,
    ⟨0x300, 48, 4, [⟨0, 16, .ro, fun _ => 0, []⟩, ⟨16, 1, .ro, fun _ => 0, []⟩]⟩,
    ⟨0x400, 128, 4, [⟨0, 16, .rws, fun _ => 0, []⟩, ⟨16, 16, .rws, fun _ => 0, []⟩]⟩ ]

/-- Table 12-9. -/
def rows_scn : List RegRow :=
  [ ⟨0x100, 1, 4, [⟨0, 1, .wo, fun _ => 0, []⟩]⟩,
    ⟨0x104, 1, 4, [⟨0, 1, .ro, fun _ => 0, []⟩, ⟨1, 1, .ro, fun _ => 0, []⟩, ⟨8, 8, .ro, fun _ => 0, []⟩]⟩,
    ⟨0x108, 1, 4, [⟨0, 2, .ro, fun _ => 0, []⟩, ⟨2, 1, .ro, fun _ => 0, []⟩, ⟨3, 1, .ro, fun _ => 0, []⟩, ⟨4, 1, .ro, fun _ => 0, []⟩, ⟨8, 8, .ro, fun _ => 0, []⟩, ⟨16, 6, .ro, fun _ => 0, []⟩]⟩,
    ⟨0x10c, 1, 4, [⟨0, 32, .ro, fun _ => 0, []⟩]⟩,
    ⟨0x110, 1, 4, [⟨0, 32, .ro, fun _ => 0, []⟩]⟩,
    ⟨0x114, 1, 4, [⟨0, 32, .ro, fun _ => 0, []⟩]⟩,
    ⟨0x118, 1, 4, [⟨0, 32, .ro, fun _ => 0, []⟩]⟩,
    ⟨0x11c, 1, 4, [⟨0, 32, .ro, fun _ => 0, []⟩]⟩,
    ⟨0x120, 1, 4, [⟨0, 32, .ro, fun _ => 0, []⟩]⟩,
    ⟨0x124, 1, 4, [⟨0, 24, .ro, fun _ => 0, []⟩]⟩,
    ⟨0x128, 1, 4, [⟨0, 32, .ro, fun _ => 0, []⟩]⟩,
    ⟨0x12c, 1, 4, [⟨0, 32, .ro, fun _ => 0, []⟩]⟩ ] ++
  [ ⟨0x130, 1, 4, [⟨0, 16, .ro, fun _ => 0, []⟩]⟩,
    ⟨0x134, 1, 4, [⟨0, 8, .ro, fun _ => 1, []⟩]⟩,
    ⟨0x138, 1, 4, [⟨0, 6, .rw, fun _ => 0, []⟩, ⟨8, 8, .rw, fun _ => 0, []⟩]⟩,
    ⟨0x13c, 1, 4, [⟨0, 17, .ro, fun _ => 65536, []⟩]⟩,
    ⟨0x140, 1, 4, [⟨0, 12, .ro, fun _ => 0, []⟩]⟩,
    ⟨0x150, 1, 4, [⟨0, 32, .rc, fun _ => 0, []⟩]⟩,
    ⟨0x154, 1, 4, [⟨0, 32, .rc, fun _ => 0, []⟩]⟩,
    ⟨0x158, 1, 4, [⟨0, 32, .rc, fun _ => 0, []⟩]⟩,
    ⟨0x15c, 1, 4, [⟨0, 32, .rc, fun _ => 0, []⟩]⟩,
    ⟨0x160, 1, 4, [⟨0, 32, .rc, fun _ => 0, []⟩]⟩,
    ⟨0x164, 1, 4, [⟨0, 32, .ro, fun _ => 0, []⟩]⟩ ]

/-- Table 13-5. -/
def rows_pwr : List RegRow :=
  [ ⟨0x100, 1, 4, [⟨0, 4, .ro, fun _ => 15, []⟩, ⟨4, 1, .ro, fun _ => 1, []⟩, ⟨5, 1, .ro, fun _ => 1, []⟩]⟩,
    ⟨0x104, 1, 4, [⟨0, 1, .rw, fun _ => 1, []⟩, ⟨1, 1, .rw, fun _ => 1, []⟩]⟩,
    ⟨0x108, 1, 4, [⟨0, 1, .ro, fun _ => 0, []⟩, ⟨1, 1, .ro, fun _ => 0, []⟩]⟩,
    ⟨0x10c, 1, 4, [⟨0, 16, .ro, fun _ => 0, []⟩, ⟨16, 16, .ro, fun _ => 0, []⟩]⟩,
    ⟨0x110, 1, 4, [⟨0, 16, .rc, fun _ => 65535, []⟩]⟩,
    ⟨0x114, 1, 4, [⟨0, 16, .rc, fun _ => 0, []⟩]⟩,
    ⟨0x118, 1, 4, [⟨0, 32, .ro, fun _ => 0, []⟩]⟩ ]

/-- Table 13-6. -/
def rows_rck : List RegRow :=
  [ ⟨0x100, 1, 4, [⟨0, 1, .w1c, fun _ => 0, []⟩, ⟨1, 1, .w1c, fun _ => 0, []⟩, ⟨2, 1, .w1c, fun _ => 0, []⟩, ⟨3, 1, .w1c, fun _ => 0, []⟩, ⟨4, 1, .w1c, fun _ => 0, []⟩]⟩,
    ⟨0x104, 1, 4, [⟨0, 8, .wo, fun _ => 0, []⟩]⟩,
    ⟨0x108, 1, 4, [⟨0, 1, .ro, fun _ => 0, []⟩, ⟨1, 1, .ro, fun _ => 0, []⟩, ⟨16, 16, .ro, fun _ => 0, []⟩]⟩,
    ⟨0x10c, 1, 4, [⟨0, 1, .rw, fun _ => 1, []⟩, ⟨1, 1, .wo, fun _ => 0, []⟩, ⟨8, 8, .rw, fun _ => 100, []⟩]⟩ ]

/-- Table 13-7, 13-8. -/
def rows_rai : List RegRow :=
  [ ⟨0x100, 1, 4, [⟨0, 4, .rws, fun _ => 10, []⟩]⟩,
    ⟨0x104, 1, 4, [⟨0, 24, .ro, fun _ => 0, []⟩]⟩,
    ⟨0x108, 1, 4, [⟨0, 24, .ro, fun _ => 0, []⟩]⟩,
    ⟨0x10c, 1, 4, [⟨0, 3, .rws, fun _ => 0, []⟩, ⟨4, 3, .rws, fun _ => 0, []⟩]⟩,
    ⟨0x200, 24, 0x40, [⟨0, 2, .rws, fun _ => 0, [(0, 2)]⟩, ⟨4, 1, .wo, fun _ => 0, []⟩, ⟨8, 8, .rws, fun _ => 100, []⟩, ⟨16, 8, .rws, fun _ => 0, []⟩]⟩,
    ⟨0x204, 24, 0x40, [⟨0, 10, .rws, fun _ => 0, []⟩, ⟨16, 10, .rws, fun _ => 800, []⟩]⟩,
    ⟨0x208, 24, 0x40, [⟨0, 10, .rws, fun _ => 0, []⟩, ⟨16, 10, .rws, fun _ => 0, []⟩]⟩,
    ⟨0x20c, 24, 0x40, [⟨0, 10, .rw, fun _ => 0, []⟩]⟩,
    ⟨0x210, 24, 0x40, [⟨0, 16, .rws, fun _ => 100, []⟩, ⟨16, 16, .rws, fun _ => 1000, []⟩]⟩,
    ⟨0x214, 24, 0x40, [⟨0, 16, .rws, fun _ => 500, []⟩, ⟨16, 8, .rws, fun _ => 80, []⟩, ⟨24, 8, .rws, fun _ => 64, []⟩]⟩,
    ⟨0x218, 24, 0x40, [⟨0, 8, .rws, fun _ => 40, []⟩, ⟨8, 8, .rws, fun _ => 60, []⟩, ⟨16, 8, .rws, fun _ => 10, []⟩, ⟨24, 1, .rws, fun _ => 0, []⟩]⟩,
    ⟨0x21c, 24, 0x40, [⟨0, 8, .rw, fun _ => 0, []⟩, ⟨8, 8, .rw, fun _ => 0, []⟩]⟩ ] ++
  [ ⟨0x220, 24, 0x40, [⟨0, 3, .ro, fun _ => 0, []⟩, ⟨3, 1, .ro, fun _ => 0, []⟩, ⟨4, 3, .ro, fun _ => 0, []⟩, ⟨7, 1, .ro, fun _ => 0, []⟩, ⟨8, 1, .ro, fun _ => 0, []⟩, ⟨16, 10, .ro, fun _ => 0, []⟩]⟩,
    ⟨0x224, 24, 0x40, [⟨0, 10, .ro, fun _ => 0, []⟩, ⟨16, 10, .ro, fun _ => 0, []⟩]⟩,
    ⟨0x228, 24, 0x40, [⟨0, 16, .ro, fun _ => 0, []⟩, ⟨16, 16, .ro, fun _ => 0, []⟩]⟩,
    ⟨0x22c, 24, 0x40, [⟨0, 16, .ro, fun _ => 0, []⟩, ⟨16, 16, .ro, fun _ => 0, []⟩]⟩,
    ⟨0x230, 24, 0x40, [⟨0, 16, .rc, fun _ => 0, []⟩, ⟨16, 16, .rc, fun _ => 0, []⟩]⟩,
    ⟨0x234, 24, 0x40, [⟨0, 32, .rc, fun _ => 0, []⟩]⟩,
    ⟨0x238, 24, 0x40, [⟨0, 10, .ro, fun _ => 800, []⟩]⟩,
    ⟨0x800, 16, 4, [⟨0, 5, .rws, fun _ => 0x1F, []⟩, ⟨8, 5, .rws, fun _ => 0x1F, []⟩, ⟨16, 5, .rws, fun _ => 0x1F, []⟩, ⟨24, 5, .rws, fun _ => 0x1F, []⟩]⟩ ]

/-- Table 13-9, 13-10. -/
def rows_lfm : List RegRow :=
  [ ⟨0x100, 1, 4, [⟨0, 1, .rw, fun _ => 1, []⟩]⟩,
    ⟨0x104, 1, 4, [⟨0, 1, .ro, fun _ => 0, []⟩, ⟨1, 1, .ro, fun _ => 0, []⟩, ⟨2, 1, .ro, fun _ => 0, []⟩, ⟨3, 1, .ro, fun _ => 0, []⟩, ⟨16, 7, .ro, fun _ => 0, []⟩]⟩,
    ⟨0x108, 1, 4, [⟨0, 32, .ro, fun _ => 0, []⟩]⟩,
    ⟨0x10c, 1, 4, [⟨0, 32, .ro, fun _ => 0, []⟩]⟩,
    ⟨0x110, 1, 4, [⟨0, 32, .w1c, fun _ => 0, []⟩]⟩,
    ⟨0x114, 1, 4, [⟨0, 32, .w1c, fun _ => 0, []⟩]⟩,
    ⟨0x118, 1, 4, [⟨0, 32, .ro, fun _ => 0, []⟩]⟩,
    ⟨0x11c, 1, 4, [⟨0, 32, .ro, fun _ => 0, []⟩]⟩,
    ⟨0x120, 1, 4, [⟨0, 32, .rc, fun _ => 0, []⟩]⟩,
    ⟨0x124, 1, 4, [⟨0, 32, .rc, fun _ => 0, []⟩]⟩,
    ⟨0x128, 1, 4, [⟨0, 32, .rc, fun _ => 0, []⟩]⟩,
    ⟨0x12c, 1, 4, [⟨0, 32, .rc, fun _ => 0, []⟩]⟩ ] ++
  [ ⟨0x400, 64, 0x10, [⟨0, 15, .rws, fun _ => 0, []⟩, ⟨16, 15, .rws, fun _ => 0, []⟩]⟩,
    ⟨0x404, 64, 0x10, [⟨0, 15, .rws, fun _ => 0, []⟩, ⟨16, 15, .rws, fun _ => 0, []⟩]⟩,
    ⟨0x408, 64, 0x10, [⟨0, 2, .rws, fun _ => 0, [(0, 2)]⟩, ⟨2, 1, .rws, fun _ => 0, []⟩]⟩,
    ⟨0x40c, 64, 0x10, [⟨0, 32, .ro, fun _ => 0, []⟩]⟩ ]

/-- Table 14-8. -/
def rows_mem : List RegRow :=
  [ ⟨0x100, 1, 4, [⟨0, 1, .rw, fun _ => 0, []⟩, ⟨1, 1, .wo, fun _ => 0, []⟩, ⟨2, 1, .wo, fun _ => 0, []⟩, ⟨3, 1, .wo, fun _ => 0, []⟩, ⟨4, 1, .wo, fun _ => 0, []⟩]⟩,
    ⟨0x104, 1, 4, [⟨0, 3, .ro, fun _ => 0, []⟩, ⟨3, 1, .ro, fun _ => 0, []⟩, ⟨4, 1, .ro, fun _ => 0, []⟩, ⟨8, 8, .ro, fun _ => 0, []⟩]⟩,
    ⟨0x108, 1, 4, [⟨0, 8, .rw, fun _ => 20, []⟩, ⟨8, 8, .rw, fun _ => 5, []⟩, ⟨16, 8, .rw, fun _ => 32, []⟩]⟩,
    ⟨0x10c, 1, 4, [⟨0, 16, .ro, fun _ => 0, []⟩]⟩,
    ⟨0x110, 1, 4, [⟨0, 16, .rw, fun _ => 16, []⟩, ⟨16, 16, .rw, fun _ => 1000, []⟩]⟩,
    ⟨0x114, 1, 4, [⟨0, 16, .rc, fun _ => 0, []⟩, ⟨16, 16, .rc, fun _ => 0, []⟩]⟩,
    ⟨0x118, 1, 4, [⟨0, 2, .ro, fun _ => 0, []⟩]⟩,
    ⟨0x11c, 1, 4, [⟨0, 16, .ro, fun _ => 0, []⟩]⟩,
    ⟨0x120, 8, 4, [⟨0, 16, .rw, fun i => [400, 100, 400, 800, 800, 200, 400, 5000].getD i 0, []⟩, ⟨16, 1, .ro, fun _ => 0, []⟩]⟩,
    ⟨0x140, 8, 4, [⟨0, 16, .rc, fun _ => 0, []⟩, ⟨16, 16, .rc, fun _ => 0, []⟩]⟩,
    ⟨0x160, 1, 4, [⟨0, 32, .rc, fun _ => 0, []⟩]⟩,
    ⟨0x164, 1, 4, [⟨0, 32, .rc, fun _ => 0, []⟩]⟩ ] ++
  [ ⟨0x168, 1, 4, [⟨0, 32, .rc, fun _ => 0, []⟩]⟩,
    ⟨0x180, 1, 4, [⟨0, 32, .rw, fun _ => 0, []⟩]⟩,
    ⟨0x184, 1, 4, [⟨0, 32, .rw, fun _ => 0, []⟩]⟩ ]

/-- Table 14-10, 14-12. -/
def rows_par : List RegRow :=
  [ ⟨0x100, 1, 4, [⟨0, 2, .rw, fun _ => 0, [(0, 2)]⟩, ⟨2, 1, .rw, fun _ => 1, []⟩]⟩,
    ⟨0x104, 1, 4, [⟨0, 16, .rw, fun _ => 2048, []⟩]⟩,
    ⟨0x108, 1, 4, [⟨0, 2, .rw, fun _ => 0, []⟩, ⟨2, 1, .rw, fun _ => 0, []⟩, ⟨3, 1, .rw, fun _ => 0, []⟩, ⟨4, 4, .rw, fun _ => 0, []⟩, ⟨8, 8, .rw, fun _ => 0, []⟩, ⟨16, 8, .rw, fun _ => 0, []⟩, ⟨24, 8, .ro, fun _ => 0, []⟩]⟩,
    ⟨0x10c, 1, 4, [⟨0, 1, .rw, fun _ => 0, []⟩, ⟨1, 1, .rw, fun _ => 1, []⟩, ⟨8, 8, .rw, fun _ => 16, []⟩]⟩,
    ⟨0x110, 1, 4, [⟨0, 32, .rw, fun _ => 0, []⟩]⟩,
    ⟨0x114, 1, 4, [⟨0, 32, .rw, fun _ => 0, []⟩]⟩,
    ⟨0x118, 1, 4, [⟨0, 16, .rw, fun _ => 0, []⟩]⟩,
    ⟨0x11c, 1, 4, [⟨0, 1, .ro, fun _ => 0, []⟩, ⟨16, 16, .ro, fun _ => 0, []⟩]⟩,
    ⟨0x120, 1, 4, [⟨0, 1, .rc, fun _ => 0, []⟩, ⟨1, 1, .rc, fun _ => 0, []⟩, ⟨12, 20, .rc, fun _ => 0, []⟩]⟩,
    ⟨0x124, 1, 4, [⟨0, 32, .rc, fun _ => 0, []⟩]⟩,
    ⟨0x128, 1, 4, [⟨0, 32, .rc, fun _ => 0, []⟩]⟩,
    ⟨0x12c, 1, 4, [⟨0, 32, .rc, fun _ => 0, []⟩]⟩ ] ++
  [ ⟨0x130, 1, 4, [⟨0, 32, .rc, fun _ => 0, []⟩]⟩,
    ⟨0x134, 1, 4, [⟨0, 4, .ro, fun _ => 0, []⟩, ⟨4, 1, .ro, fun _ => 0, []⟩, ⟨16, 16, .ro, fun _ => 0, []⟩]⟩,
    ⟨0x200, 16, 0x10, [⟨0, 32, .ro, fun _ => 0, []⟩]⟩,
    ⟨0x204, 16, 0x10, [⟨0, 2, .ro, fun _ => 0, []⟩, ⟨2, 3, .ro, fun _ => 0, []⟩, ⟨5, 2, .ro, fun _ => 0, []⟩, ⟨7, 1, .ro, fun _ => 0, []⟩, ⟨8, 4, .ro, fun _ => 0, []⟩, ⟨16, 8, .ro, fun _ => 0, []⟩, ⟨24, 8, .ro, fun _ => 0, []⟩]⟩,
    ⟨0x208, 16, 0x10, [⟨0, 32, .ro, fun _ => 0, []⟩]⟩,
    ⟨0x20c, 16, 0x10, [⟨0, 32, .ro, fun _ => 0, []⟩]⟩ ]

/-- Table 15-9. -/
def rows_que : List RegRow :=
  [ ⟨0x100, 1, 4, [⟨0, 14, .ro, fun _ => 0, []⟩]⟩,
    ⟨0x104, 1, 4, [⟨0, 20, .ro, fun _ => 0, []⟩]⟩,
    ⟨0x108, 1, 4, [⟨0, 32, .rc, fun _ => 0, []⟩]⟩,
    ⟨0x10c, 1, 4, [⟨0, 32, .rc, fun _ => 0, []⟩]⟩,
    ⟨0x110, 1, 4, [⟨0, 32, .rc, fun _ => 0, []⟩]⟩,
    ⟨0x140, 1, 4, [⟨0, 7, .ro, fun _ => 0, []⟩, ⟨16, 7, .ro, fun _ => 0, []⟩]⟩,
    ⟨0x144, 1, 4, [⟨0, 16, .rc, fun _ => 0, []⟩, ⟨16, 16, .rc, fun _ => 0, []⟩]⟩,
    ⟨0x148, 1, 4, [⟨0, 32, .rc, fun _ => 0, []⟩]⟩,
    ⟨0x14c, 1, 4, [⟨0, 32, .rc, fun _ => 0, []⟩]⟩,
    ⟨0x150, 1, 4, [⟨0, 6, .ro, fun _ => 0, []⟩]⟩,
    ⟨0x180, 1, 4, [⟨0, 8, .rw, fun _ => 0, []⟩, ⟨8, 8, .rw, fun _ => 0, []⟩, ⟨16, 4, .rw, fun _ => 4, []⟩, ⟨31, 1, .wo, fun _ => 0, []⟩]⟩,
    ⟨0x184, 1, 4, [⟨0, 2, .ro, fun _ => 0, []⟩, ⟨4, 3, .ro, fun _ => 0, []⟩, ⟨8, 4, .ro, fun _ => 0, []⟩, ⟨16, 1, .ro, fun _ => 0, []⟩]⟩ ] ++
  [ ⟨0x188, 1, 4, [⟨0, 32, .ro, fun _ => 0, []⟩]⟩ ]

/-- Table 15-10. -/
def rows_queCtx : List RegRow :=
  [ ⟨0x0, 8192, 0x40, [⟨0, 1, .rw, fun _ => 0, []⟩, ⟨1, 1, .ro, fun _ => 0, []⟩, ⟨2, 1, .ro, fun _ => 1, []⟩, ⟨3, 3, .rw, fun _ => 0, [(0, 5)]⟩, ⟨8, 4, .rw, fun _ => 0, []⟩, ⟨16, 4, .rw, fun _ => 1, []⟩, ⟨24, 8, .rw, fun _ => 0, []⟩]⟩,
    ⟨0x8, 8192, 0x40, [⟨0, 32, .rw, fun _ => 0, []⟩]⟩,
    ⟨0xc, 8192, 0x40, [⟨0, 32, .rw, fun _ => 0, []⟩]⟩,
    ⟨0x10, 8192, 0x40, [⟨0, 12, .ro, fun _ => 0, []⟩]⟩,
    ⟨0x14, 8192, 0x40, [⟨0, 12, .ro, fun _ => 0, []⟩]⟩,
    ⟨0x18, 8192, 0x40, [⟨0, 12, .ro, fun _ => 0, []⟩]⟩,
    ⟨0x1c, 8192, 0x40, [⟨0, 7, .ro, fun _ => 0, []⟩]⟩,
    ⟨0x20, 8192, 0x40, [⟨0, 32, .rw, fun _ => 0, []⟩]⟩,
    ⟨0x24, 8192, 0x40, [⟨0, 32, .rw, fun _ => 0, []⟩]⟩,
    ⟨0x28, 8192, 0x40, [⟨0, 32, .rc, fun _ => 0, []⟩]⟩,
    ⟨0x2c, 8192, 0x40, [⟨0, 32, .rc, fun _ => 0, []⟩]⟩,
    ⟨0x30, 8192, 0x40, [⟨0, 4, .ro, fun _ => 0, []⟩, ⟨4, 12, .ro, fun _ => 0, []⟩]⟩ ]

/-- Table 15-12, 15-13. -/
def rows_ten : List RegRow :=
  [ ⟨0x100, 1, 4, [⟨0, 1, .wo, fun _ => 0, []⟩]⟩,
    ⟨0x104, 1, 4, [⟨0, 32, .ro, fun _ => 0, []⟩]⟩,
    ⟨0x108, 1, 4, [⟨0, 1, .ro, fun _ => 0, []⟩, ⟨16, 16, .ro, fun _ => 0, []⟩]⟩,
    ⟨0xc00, 16, 0x10, [⟨0, 32, .rc, fun _ => 0, []⟩]⟩,
    ⟨0xc04, 16, 0x10, [⟨0, 32, .rc, fun _ => 0, []⟩]⟩,
    ⟨0xc08, 16, 0x10, [⟨0, 32, .rc, fun _ => 0, []⟩]⟩,
    ⟨0xc0c, 16, 0x10, [⟨0, 32, .rc, fun _ => 0, []⟩]⟩,
    ⟨0x400, 16, 0x40, [⟨0, 6, .rw, fun _ => 0, []⟩, ⟨8, 8, .rw, fun _ => 0, []⟩, ⟨16, 1, .rw, fun _ => 0, []⟩]⟩,
    ⟨0x404, 16, 0x40, [⟨0, 8, .rw, fun _ => 1, []⟩, ⟨8, 8, .rw, fun _ => 0, []⟩, ⟨16, 1, .rw, fun _ => 0, []⟩]⟩,
    ⟨0x408, 16, 0x40, [⟨0, 8, .rw, fun _ => 1, []⟩, ⟨8, 8, .rw, fun _ => 0, []⟩, ⟨16, 1, .rw, fun _ => 0, []⟩]⟩,
    ⟨0x40c, 16, 0x40, [⟨0, 16, .rw, fun _ => 0, []⟩]⟩,
    ⟨0x410, 16, 0x40, [⟨0, 32, .rw, fun _ => 0, []⟩]⟩ ] ++
  [ ⟨0x414, 16, 0x40, [⟨0, 32, .rw, fun _ => 0, []⟩]⟩,
    ⟨0x418, 16, 0x40, [⟨0, 32, .rw, fun _ => 0, []⟩]⟩,
    ⟨0x41c, 16, 0x40, [⟨0, 32, .rw, fun _ => 0, []⟩]⟩,
    ⟨0x420, 16, 0x40, [⟨0, 32, .rw, fun _ => 0, []⟩]⟩,
    ⟨0x424, 16, 0x40, [⟨0, 32, .rw, fun _ => 0, []⟩]⟩,
    ⟨0x428, 16, 0x40, [⟨0, 32, .rw, fun _ => 0, []⟩]⟩,
    ⟨0x42c, 16, 0x40, [⟨0, 32, .rw, fun _ => 0, []⟩]⟩,
    ⟨0x430, 16, 0x40, [⟨0, 16, .rw, fun _ => 0, []⟩]⟩,
    ⟨0x434, 16, 0x40, [⟨0, 16, .rw, fun _ => 0, []⟩]⟩,
    ⟨0x800, 16, 0x40, [⟨0, 6, .ro, fun _ => 0, []⟩, ⟨8, 8, .ro, fun _ => 0, []⟩, ⟨16, 1, .ro, fun _ => 0, []⟩]⟩,
    ⟨0x804, 16, 0x40, [⟨0, 8, .ro, fun _ => 1, []⟩, ⟨8, 8, .ro, fun _ => 0, []⟩, ⟨16, 1, .ro, fun _ => 0, []⟩]⟩,
    ⟨0x808, 16, 0x40, [⟨0, 8, .ro, fun _ => 1, []⟩, ⟨8, 8, .ro, fun _ => 0, []⟩, ⟨16, 1, .ro, fun _ => 0, []⟩]⟩ ] ++
  [ ⟨0x80c, 16, 0x40, [⟨0, 16, .ro, fun _ => 0, []⟩]⟩,
    ⟨0x810, 16, 0x40, [⟨0, 32, .ro, fun _ => 0, []⟩]⟩,
    ⟨0x814, 16, 0x40, [⟨0, 32, .ro, fun _ => 0, []⟩]⟩,
    ⟨0x818, 16, 0x40, [⟨0, 32, .ro, fun _ => 0, []⟩]⟩,
    ⟨0x81c, 16, 0x40, [⟨0, 32, .ro, fun _ => 0, []⟩]⟩,
    ⟨0x820, 16, 0x40, [⟨0, 32, .ro, fun _ => 0, []⟩]⟩,
    ⟨0x824, 16, 0x40, [⟨0, 32, .ro, fun _ => 0, []⟩]⟩,
    ⟨0x828, 16, 0x40, [⟨0, 32, .ro, fun _ => 0, []⟩]⟩,
    ⟨0x82c, 16, 0x40, [⟨0, 32, .ro, fun _ => 0, []⟩]⟩,
    ⟨0x830, 16, 0x40, [⟨0, 16, .ro, fun _ => 0, []⟩]⟩,
    ⟨0x834, 16, 0x40, [⟨0, 16, .ro, fun _ => 0, []⟩]⟩ ]

/-- Table 15-15. -/
def rows_mbx : List RegRow :=
  [ ⟨0x100, 16, 4, [⟨0, 32, .rw, fun _ => 0, []⟩]⟩,
    ⟨0x200, 16, 4, [⟨0, 32, .rw, fun _ => 0, []⟩]⟩,
    ⟨0x140, 16, 4, [⟨0, 32, .ro, fun _ => 0, []⟩]⟩,
    ⟨0x240, 16, 4, [⟨0, 32, .ro, fun _ => 0, []⟩]⟩,
    ⟨0x180, 2, 0x100, [⟨0, 1, .wo, fun _ => 0, []⟩, ⟨1, 1, .wo, fun _ => 0, []⟩]⟩,
    ⟨0x184, 2, 0x100, [⟨0, 3, .ro, fun _ => 0, []⟩, ⟨3, 1, .ro, fun _ => 0, []⟩, ⟨4, 1, .w1c, fun _ => 0, []⟩, ⟨5, 1, .w1c, fun _ => 0, []⟩, ⟨8, 3, .ro, fun _ => 0, []⟩, ⟨11, 1, .ro, fun _ => 0, []⟩]⟩,
    ⟨0x188, 2, 0x100, [⟨0, 16, .rw, fun _ => 1000, []⟩]⟩,
    ⟨0x18c, 2, 0x100, [⟨0, 32, .rc, fun _ => 0, []⟩]⟩ ]

/-- Table 16-7. -/
def rows_rdn : List RegRow :=
  [ ⟨0x100, 1, 4, [⟨0, 1, .rw, fun _ => 0, []⟩, ⟨1, 1, .rw, fun _ => 1, []⟩, ⟨8, 8, .rw, fun _ => 8, []⟩]⟩,
    ⟨0x104, 1, 4, [⟨0, 1, .wo, fun _ => 0, []⟩, ⟨1, 1, .wo, fun _ => 0, []⟩]⟩,
    ⟨0x108, 1, 4, [⟨0, 3, .ro, fun _ => 0, []⟩, ⟨4, 3, .ro, fun _ => 0, []⟩, ⟨8, 8, .ro, fun _ => 0, []⟩, ⟨16, 1, .ro, fun _ => 0, []⟩]⟩,
    ⟨0x10c, 1, 4, [⟨0, 16, .ro, fun _ => 2048, []⟩, ⟨16, 16, .ro, fun _ => 0, []⟩]⟩,
    ⟨0x110, 1, 4, [⟨0, 16, .ro, fun _ => 0, []⟩, ⟨16, 16, .ro, fun _ => 0, []⟩]⟩,
    ⟨0x114, 1, 4, [⟨0, 32, .rc, fun _ => 0, []⟩]⟩,
    ⟨0x118, 1, 4, [⟨0, 32, .rc, fun _ => 0, []⟩]⟩,
    ⟨0x11c, 1, 4, [⟨0, 32, .rc, fun _ => 0, []⟩]⟩,
    ⟨0x120, 1, 4, [⟨0, 32, .rc, fun _ => 0, []⟩]⟩,
    ⟨0x124, 1, 4, [⟨0, 16, .ro, fun _ => 0, []⟩]⟩ ]

/-- Table 16-9. -/
def rows_clu : List RegRow :=
  [ ⟨0x100, 1, 4, [⟨0, 5, .rw, fun _ => 0, []⟩, ⟨8, 5, .rw, fun _ => 0, []⟩, ⟨16, 1, .rw, fun _ => 1, []⟩, ⟨17, 1, .rw, fun _ => 1, []⟩, ⟨24, 8, .rw, fun _ => 3, []⟩]⟩,
    ⟨0x104, 1, 4, [⟨0, 32, .rw, fun _ => 0, []⟩]⟩,
    ⟨0x108, 1, 4, [⟨0, 16, .rw, fun _ => 0, []⟩, ⟨16, 4, .rw, fun _ => 1, []⟩]⟩,
    ⟨0x10c, 1, 4, [⟨0, 32, .rw, fun _ => 0, []⟩]⟩,
    ⟨0x110, 1, 4, [⟨0, 8, .rw, fun _ => 255, []⟩]⟩,
    ⟨0x114, 1, 4, [⟨0, 32, .ro, fun _ => 0, []⟩]⟩,
    ⟨0x118, 1, 4, [⟨0, 32, .ro, fun _ => 0, []⟩]⟩,
    ⟨0x11c, 1, 4, [⟨0, 32, .ro, fun _ => 0, []⟩]⟩,
    ⟨0x120, 1, 4, [⟨0, 32, .rw, fun _ => 0, []⟩]⟩,
    ⟨0x124, 1, 4, [⟨0, 32, .rw, fun _ => 0, []⟩]⟩,
    ⟨0x128, 1, 4, [⟨0, 32, .rw, fun _ => 0, []⟩]⟩,
    ⟨0x12c, 1, 4, [⟨0, 1, .wo, fun _ => 0, []⟩, ⟨1, 1, .wo, fun _ => 0, []⟩]⟩ ] ++
  [ ⟨0x130, 1, 4, [⟨0, 32, .ro, fun _ => 0, []⟩]⟩,
    ⟨0x134, 1, 4, [⟨0, 32, .ro, fun _ => 0, []⟩]⟩,
    ⟨0x138, 1, 4, [⟨0, 32, .ro, fun _ => 0, []⟩]⟩,
    ⟨0x13c, 1, 4, [⟨0, 1, .ro, fun _ => 0, []⟩, ⟨1, 1, .ro, fun _ => 0, []⟩, ⟨2, 1, .ro, fun _ => 0, []⟩, ⟨3, 1, .ro, fun _ => 0, []⟩, ⟨4, 1, .ro, fun _ => 0, []⟩, ⟨5, 2, .ro, fun _ => 0, []⟩, ⟨8, 8, .ro, fun _ => 0, []⟩]⟩,
    ⟨0x140, 1, 4, [⟨0, 32, .ro, fun _ => 0, []⟩]⟩,
    ⟨0x144, 1, 4, [⟨0, 32, .ro, fun _ => 0, []⟩]⟩,
    ⟨0x148, 1, 4, [⟨0, 32, .ro, fun _ => 0, []⟩]⟩,
    ⟨0x14c, 1, 4, [⟨0, 30, .rw, fun _ => 0, []⟩]⟩,
    ⟨0x150, 1, 4, [⟨0, 32, .ro, fun _ => 0, []⟩]⟩,
    ⟨0x154, 1, 4, [⟨0, 5, .ro, fun _ => 0, []⟩, ⟨8, 8, .ro, fun _ => 0, []⟩, ⟨16, 1, .ro, fun _ => 0, []⟩]⟩,
    ⟨0x158, 1, 4, [⟨0, 32, .rc, fun _ => 0, []⟩]⟩,
    ⟨0x15c, 1, 4, [⟨0, 32, .rc, fun _ => 0, []⟩]⟩ ]

/-- Table 17-7, 17-8, 17-9. -/
def rows_hkt : List RegRow :=
  [ ⟨0x100, 1, 4, [⟨0, 1, .rw, fun _ => 1, []⟩, ⟨1, 1, .rw, fun _ => 1, []⟩, ⟨2, 1, .wo, fun _ => 0, []⟩, ⟨8, 8, .rw, fun _ => 20, []⟩]⟩,
    ⟨0x104, 1, 4, [⟨0, 2, .ro, fun _ => 0, []⟩, ⟨2, 1, .ro, fun _ => 0, []⟩, ⟨3, 1, .ro, fun _ => 0, []⟩, ⟨4, 1, .ro, fun _ => 0, []⟩, ⟨16, 16, .ro, fun _ => 0, []⟩]⟩,
    ⟨0x108, 1, 4, [⟨0, 16, .ro, fun _ => 0, []⟩, ⟨16, 6, .ro, fun _ => 0, []⟩]⟩,
    ⟨0x10c, 1, 4, [⟨0, 6, .ro, fun _ => 0, []⟩, ⟨6, 1, .ro, fun _ => 0, []⟩]⟩,
    ⟨0x110, 1, 4, [⟨0, 32, .w1c, fun _ => 0, []⟩]⟩,
    ⟨0x114, 1, 4, [⟨0, 32, .w1c, fun _ => 0, []⟩]⟩,
    ⟨0x118, 1, 4, [⟨0, 17, .rw, fun _ => 58982, []⟩]⟩,
    ⟨0x11c, 1, 4, [⟨0, 16, .rw, fun _ => 64, []⟩]⟩,
    ⟨0x140, 4, 0x10, [⟨0, 16, .rw, fun i => [1520, 1360, 960, 800].getD i 0, []⟩, ⟨16, 16, .rw, fun i => [1680, 1520, 1120, 960].getD i 0, []⟩]⟩,
    ⟨0x144, 4, 0x10, [⟨0, 16, .rw, fun i => [1920, 1680, 1360, 1200].getD i 0, []⟩, ⟨16, 8, .rw, fun _ => 5, []⟩]⟩,
    ⟨0x148, 4, 0x10, [⟨0, 16, .rw, fun i => [160, 0, 32, 0].getD i 0, []⟩]⟩,
    ⟨0x400, 64, 0x10, [⟨0, 3, .rw, fun i => if i < 16 then 4 else if i < 48 then 0 else if i < 58 then 5 else 0, [(0, 5)]⟩, ⟨4, 2, .rw, fun i => if i < 14 then 0 else if i < 16 then 1 else if i < 48 then 2 else 0, []⟩, ⟨8, 5, .rw, fun i => if i < 14 then 1 else if i < 16 then 2 else 0, []⟩]⟩ ] ++
  [ ⟨0x404, 64, 0x10, [⟨0, 16, .ro, fun _ => 0, []⟩, ⟨16, 1, .ro, fun _ => 0, []⟩, ⟨17, 1, .ro, fun _ => 0, []⟩, ⟨18, 1, .ro, fun _ => 0, []⟩]⟩,
    ⟨0x408, 64, 0x10, [⟨0, 16, .rw, fun _ => 3435, []⟩, ⟨16, 16, .rw, fun _ => 1000, []⟩]⟩,
    ⟨0x40c, 64, 0x10, [⟨0, 16, .rw, fun _ => 1000, []⟩]⟩ ]

/-- Table 17-10. -/
def rows_cal : List RegRow :=
  [ ⟨0x100, 1, 4, [⟨0, 1, .wo, fun _ => 0, []⟩]⟩,
    ⟨0x104, 1, 4, [⟨0, 21, .rw, fun _ => 1250000, []⟩]⟩,
    ⟨0x108, 1, 4, [⟨0, 1, .ro, fun _ => 0, []⟩, ⟨1, 1, .ro, fun _ => 0, []⟩, ⟨2, 2, .ro, fun _ => 0, []⟩]⟩,
    ⟨0x10c, 1, 4, [⟨0, 16, .ro, fun _ => 0, []⟩, ⟨16, 16, .ro, fun _ => 0, []⟩]⟩,
    ⟨0x200, 128, 0x8, [⟨0, 16, .ro, fun _ => 0, []⟩]⟩,
    ⟨0x204, 128, 0x8, [⟨0, 16, .rw, fun _ => 0, []⟩]⟩ ]

/-- Table 17-11. -/
def rows_idn : List RegRow :=
  [ ⟨0x100, 1, 4, [⟨0, 16, .ro, fun _ => 36964, []⟩, ⟨16, 4, .ro, fun _ => 0, []⟩]⟩,
    ⟨0x104, 1, 4, [⟨0, 32, .ro, fun _ => 0, []⟩]⟩,
    ⟨0x108, 1, 4, [⟨0, 32, .ro, fun _ => 0, []⟩]⟩,
    ⟨0x10c, 1, 4, [⟨0, 5, .ro, fun _ => 0, []⟩, ⟨8, 8, .ro, fun _ => 0, []⟩, ⟨16, 8, .ro, fun _ => 0, []⟩]⟩,
    ⟨0x110, 3, 4, [⟨0, 32, .ro, fun _ => 0, []⟩]⟩,
    ⟨0x11c, 1, 4, [⟨0, 32, .ro, fun _ => 0, []⟩]⟩,
    ⟨0x120, 1, 4, [⟨0, 16, .ro, fun _ => 0, []⟩]⟩,
    ⟨0x124, 1, 4, [⟨0, 1, .ro, fun _ => 0, []⟩]⟩,
    ⟨0x128, 1, 4, [⟨0, 2, .ro, fun _ => 0, []⟩, ⟨2, 1, .ro, fun _ => 0, []⟩]⟩ ]

/-- Table 18-8, 18-9. -/
def rows_fwu : List RegRow :=
  [ ⟨0x100, 1, 4, [⟨0, 1, .wo, fun _ => 0, []⟩, ⟨1, 1, .wo, fun _ => 0, []⟩, ⟨2, 1, .wo, fun _ => 0, []⟩]⟩,
    ⟨0x104, 1, 4, [⟨0, 8, .rw, fun _ => 60, []⟩]⟩,
    ⟨0x108, 1, 4, [⟨0, 1, .ro, fun _ => 0, []⟩, ⟨1, 1, .ro, fun _ => 0, []⟩, ⟨2, 1, .ro, fun _ => 0, []⟩, ⟨3, 1, .ro, fun _ => 0, []⟩, ⟨4, 1, .ro, fun _ => 0, []⟩, ⟨8, 3, .ro, fun _ => 0, []⟩, ⟨12, 2, .ro, fun _ => 0, []⟩]⟩,
    ⟨0x10c, 1, 4, [⟨0, 6, .ro, fun _ => 0, []⟩]⟩,
    ⟨0x110, 1, 4, [⟨0, 4, .ro, fun _ => 0, []⟩, ⟨4, 4, .ro, fun _ => 0, []⟩]⟩,
    ⟨0x114, 1, 4, [⟨0, 8, .ro, fun _ => 0, []⟩, ⟨8, 3, .ro, fun _ => 0, []⟩, ⟨16, 16, .ro, fun _ => 0, []⟩]⟩,
    ⟨0x118, 1, 4, [⟨0, 32, .ro, fun _ => 0, []⟩]⟩,
    ⟨0x140, 6, 0x10, [⟨0, 3, .ro, fun _ => 0, []⟩, ⟨4, 4, .ro, fun _ => 0, []⟩, ⟨8, 6, .ro, fun _ => 0, []⟩, ⟨14, 2, .ro, fun _ => 0, []⟩, ⟨16, 16, .ro, fun _ => 0, []⟩]⟩,
    ⟨0x144, 6, 0x10, [⟨0, 32, .ro, fun _ => 0, []⟩]⟩,
    ⟨0x148, 6, 0x10, [⟨0, 32, .ro, fun _ => 0, []⟩]⟩,
    ⟨0x14c, 6, 0x10, [⟨0, 16, .ro, fun _ => 0, []⟩, ⟨16, 16, .ro, fun _ => 0, []⟩]⟩ ]

/-- Table 18-11. -/
def rows_svp : List RegRow :=
  [ ⟨0x100, 1, 4, [⟨0, 1, .rw, fun _ => 1, []⟩, ⟨1, 1, .rw, fun _ => 0, []⟩, ⟨2, 1, .rw, fun _ => 1, []⟩]⟩,
    ⟨0x104, 1, 4, [⟨0, 1, .ro, fun _ => 0, []⟩, ⟨1, 1, .ro, fun _ => 0, []⟩]⟩,
    ⟨0x108, 1, 4, [⟨0, 32, .rw, fun _ => 0, []⟩]⟩,
    ⟨0x10c, 1, 4, [⟨0, 16, .rw, fun _ => 36964, []⟩]⟩,
    ⟨0x110, 1, 4, [⟨0, 32, .rw, fun _ => 0, []⟩]⟩,
    ⟨0x114, 1, 4, [⟨0, 32, .rc, fun _ => 0, []⟩]⟩,
    ⟨0x118, 1, 4, [⟨0, 32, .rc, fun _ => 0, []⟩]⟩,
    ⟨0x11c, 1, 4, [⟨0, 32, .rc, fun _ => 0, []⟩]⟩,
    ⟨0x120, 1, 4, [⟨0, 32, .rc, fun _ => 0, []⟩]⟩,
    ⟨0x124, 1, 4, [⟨0, 32, .rc, fun _ => 0, []⟩]⟩ ]

end Sys2Proof.Machine
end

