-- ==== Sys2Proof/Machine/Codec.lean ====
section
/-!
DEFINITION. Codes: the CRCs of the manual, the chain code of R187, the fade gain, the Kloile line blocks of R293 to
R297 and the LOSSLESS_80 blocks of R300 and R301.
-/
namespace Sys2Proof.Machine

/-- The largest number below 2^bits for which `p`, true up to some point and false beyond it, holds; 0 where none does. -/
def largest (p : Nat → Bool) : Nat → Nat → Nat
  | 0, acc => acc
  | k + 1, acc => largest p k (if p (acc + 2 ^ k) then acc + 2 ^ k else acc)

/-! ### CRCs -/

/-- Eight shifts of a reflected CRC register of polynomial `poly`. -/
def crcShift (poly : Nat) : Nat → Nat → Nat
  | 0, c => c
  | n + 1, c => crcShift poly n (if c % 2 = 1 then (c / 2) ^^^ poly else c / 2)

/-- A reflected CRC over bytes, from register value `c`. -/
def crcRefl (poly c : Nat) (l : List Nat) : Nat := l.foldl (fun c b => crcShift poly 8 (c ^^^ b)) c

/-- The CRC-32 of R191. -/
def crc32 (l : List Nat) : Nat := crcRefl 0xEDB88320 0xFFFFFFFF l ^^^ 0xFFFFFFFF

/-- `n` shifts of a non-reflected CRC register of width `w`, taking the bits of `d` from bit n - 1 down. -/
def crcBits (w poly d : Nat) : Nat → Nat → Nat
  | 0, c => c
  | n + 1, c =>
    let top := (c / 2 ^ (w - 1) + d / 2 ^ n) % 2
    crcBits w poly d n (if top = 1 then (c * 2) % 2 ^ w ^^^ poly else (c * 2) % 2 ^ w)

/-- The CRC-8 of Table 13-3 over bits [63:8] of a record. -/
def crc8 (rec : Nat) : Nat := crcBits 8 0x07 (rec / 256) 56 0

/-! ### Chain code -/

/-- Largest L in 2^-20 with L ≤ (2^(10 C/4095) - 1)/1023. -/
def chainFloor (c : Nat) : Nat := largest (fun n => (1048576 + 1023 * n) ^ 819 ≤ 2 ^ (20 * 819 + 2 * c)) 21 0

/-- Decoding a chain code (R187) within 1 unit of 2^-20 (R313): the two ends are exact, elsewhere which neighbour of the
exact value it is stays free. -/
def chainDecode (c : Nat) : Nat :=
  if c = 0 then 0 else if 4095 ≤ c then 1048576 else chainFloor c + Config.decodeUp c % 2

/-- Chain encoding of a drive in 2^-20, clipped to 1 (R187): round(4095 log2(1 + 1023 L)/10), halves up. -/
def chainEncode (l : Nat) : Nat :=
  let n := min l 1048576
  largest (fun c => 2 ^ (20 * 819 + 2 * c - 1) ≤ (1048576 + 1023 * n) ^ 819) 12 0

/-- floor(x g(F)) with g(f) = (2^(10 f) - 1)/1023 and F in 2^-16. -/
def gainMul (x f : Nat) : Nat :=
  if 65536 ≤ f then x else if f = 0 then 0
  else largest (fun n => (x + 1023 * n) ^ 32768 ≤ x ^ 32768 * 2 ^ (5 * f)) 32 0

/-- round(x g(F)), halves up: the largest n with n - 1/2 ≤ x g(F). -/
def gainRound (x f : Nat) : Nat :=
  if 65536 ≤ f then x else if f = 0 then 0
  else largest (fun n => (2 * x + 1023 * (2 * n - 1)) ^ 32768 ≤ (2 * x) ^ 32768 * 2 ^ (5 * f)) 32 0

/-! ### Kloile line blocks -/

/-- One pixel's chain codes. -/
structure Pix where
  r : Nat := 0
  g : Nat := 0
  b : Nat := 0
deriving DecidableEq, Repr

/-- Y, Cb and Cr of a pixel (R294). -/
def Pix.ycc (p : Pix) : Int × Int × Int := (((p.r + 2 * p.g + p.b) / 4 : Nat), (p.b : Int) - p.g, (p.r : Int) - p.g)

/-- Clamp to a code. -/
def clampCode (v : Int) : Nat := (max 0 (min 4095 v)).toNat

/-- The pixel of three decoded components (R295). -/
def unYcc (y cb cr : Int) : Pix :=
  let g := y - (cb + cr) / 4
  ⟨clampCode (cr + g), clampCode g, clampCode (cb + g)⟩

/-- Base of a component's 16 values. -/
def kBase (l : List Int) : Int := match l with | [] => 0 | a :: r => r.foldl min a

/-- h of a shift. -/
def kHalf (s : Nat) : Int := if s = 0 then 0 else (2 : Int) ^ (s - 1)

/-- The smallest shift that makes a component fit k bits. -/
def kShift (l : List Int) (k : Nat) : Nat :=
  let m := kBase l
  let mx := match l with | [] => 0 | a :: r => r.foldl max a
  ((List.range 16).find? (fun s => (mx - m + kHalf s) / (2 : Int) ^ s ≤ (2 : Int) ^ k - 1)).getD 15

/-- The coded form of one component: base, shift and samples. -/
structure Comp where
  base : Int
  shift : Nat
  q : List Nat

/-- Code one component at k bits. -/
def codeComp (l : List Int) (k : Nat) : Comp :=
  let s := kShift l k
  ⟨kBase l, s, l.map (fun x => ((x - kBase l + kHalf s) / (2 : Int) ^ s).toNat)⟩

/-- Rebuild one component. -/
def Comp.values (c : Comp) : List Int := c.q.map (fun (q : Nat) => c.base + (q : Int) * (2 : Int) ^ c.shift)

/-- Sample widths of a coding and a mode (Table 10-2). -/
def kWidths (coding mode : Nat) : Nat × Nat :=
  if coding = 1 then (if mode = 0 then (10, 5) else (8, 6)) else (if mode = 0 then (8, 3) else (6, 4))

/-- Pack numbers of width `n` from bit 0 upward. -/
def packBits (n : Nat) : List Nat → Nat
  | [] => 0
  | a :: r => a % 2 ^ n + 2 ^ n * packBits n r

/-- Take `count` numbers of width `n` starting at bit `at_`. -/
def unpackBits (v at_ n count : Nat) : List Nat := (List.range count).map (fun i => bitsOf v (at_ + n * i) n)

/-- The pixels of three component lists. -/
def zipYcc : List Int → List Int → List Int → List Pix
  | y :: ys, b :: bs, r :: rs => unYcc y b r :: zipYcc ys bs rs
  | _, _, _ => []

/-- A block coded in one mode: its bits and its decoded pixels. -/
def codeBlockMode (coding mode : Nat) (l : List Pix) : Nat × List Pix :=
  let (ky, kc) := kWidths coding mode
  let y := codeComp (l.map (·.ycc.1)) ky
  let cb := codeComp (l.map (·.ycc.2.1)) kc
  let cr := codeComp (l.map (·.ycc.2.2)) kc
  let head := mode + 2 * uns 12 y.base + 2 ^ 13 * y.shift + 2 ^ 17 * uns 13 cb.base + 2 ^ 30 * cb.shift +
    2 ^ 34 * uns 13 cr.base + 2 ^ 47 * cr.shift
  let bits := head + 2 ^ 64 * (packBits ky y.q + 2 ^ (16 * ky) * (packBits kc cb.q + 2 ^ (16 * kc) * packBits kc cr.q))
  (bits, zipYcc y.values cb.values cr.values)

/-- The largest channel error between two lists of pixels. -/
def pixError (a b : List Pix) : Nat :=
  (a.zip b).foldl (fun e p =>
    max e (max ((p.1.r : Int) - p.2.r).natAbs (max ((p.1.g : Int) - p.2.g).natAbs ((p.1.b : Int) - p.2.b).natAbs))) 0

/-- A full block coded (R294): bits, decoded pixels, error. -/
def codeBlock (coding : Nat) (l : List Pix) : Nat × List Pix × Nat :=
  let a := codeBlockMode coding 0 l
  let b := codeBlockMode coding 1 l
  let ea := pixError a.2 l
  let eb := pixError b.2 l
  if eb < ea then (b.1, b.2, eb) else (a.1, a.2, ea)

/-- A full block decoded (R295). -/
def decodeBlock (coding v : Nat) : List Pix :=
  let (ky, kc) := kWidths coding (bitsOf v 0 1)
  let y : Comp := ⟨bitsOf v 1 12, bitsOf v 13 4, unpackBits v 64 ky 16⟩
  let cb : Comp := ⟨sgn 13 (bitsOf v 17 13), bitsOf v 30 4, unpackBits v (64 + 16 * ky) kc 16⟩
  let cr : Comp := ⟨sgn 13 (bitsOf v 34 13), bitsOf v 47 4, unpackBits v (64 + 16 * ky + 16 * kc) kc 16⟩
  zipYcc y.values cb.values cr.values

/-- Code and rebuild of one tail channel at k bits (R296). -/
def tailCode (k v : Nat) : Nat := (v * (2 ^ k - 1) + 2047) / 4095
def tailDecode (k q : Nat) : Nat := (q * 4095 + (2 ^ k - 1) / 2) / (2 ^ k - 1)

/-- The bits of a pixel with k bits per channel. -/
def pixBits (k : Nat) (p : Pix) : Nat := p.r + 2 ^ k * p.g + 2 ^ (2 * k) * p.b

/-- A tail coded: bits, decoded pixels, error. -/
def codeTail (k : Nat) (l : List Pix) : Nat × List Pix × Nat :=
  let q := l.map (fun p => (⟨tailCode k p.r, tailCode k p.g, tailCode k p.b⟩ : Pix))
  let d := q.map (fun p => (⟨tailDecode k p.r, tailDecode k p.g, tailDecode k p.b⟩ : Pix))
  (packBits (3 * k) (q.map (pixBits k)), d, pixError d l)

/-- Bits per pixel. -/
def bpp (coding : Nat) : Nat := if coding = 1 then 24 else if coding = 2 then 18 else 36

/-- A row coded (R271, R293): bits, the pixels a tile decodes, and the error of each block and tail. -/
def codeRow (coding : Nat) (l : List Pix) : Nat × List Pix × List Nat :=
  if coding = 0 then (packBits 36 (l.map (pixBits 12)), l, [])
  else
    let b := bpp coding
    let nb := l.length / 16
    let blocks := (List.range nb).map (fun j => codeBlock coding ((l.drop (16 * j)).take 16))
    let bits := packBits (16 * b) (blocks.map (·.1))
    let px := (blocks.map (·.2.1)).foldl (· ++ ·) []
    let es := blocks.map (·.2.2)
    match l.drop (16 * nb) with
    | [] => (bits, px, es)
    | t =>
      let c := codeTail (b / 3) t
      (bits + 2 ^ (16 * b * nb) * c.1, px ++ c.2.1, es ++ [c.2.2])

/-- A row of `w` pixels decoded. -/
def decodeRow (coding w v : Nat) : List Pix :=
  if coding = 0 then (unpackBits v 0 36 w).map (fun p => ⟨bitsOf p 0 12, bitsOf p 12 12, bitsOf p 24 12⟩)
  else
    let b := bpp coding
    let k := b / 3
    let nb := w / 16
    ((List.range nb).map (fun j => decodeBlock coding (bitsOf v (16 * b * j) (16 * b)))).foldl (· ++ ·) [] ++
    ((unpackBits v (16 * b * nb) b (w % 16)).map (fun p =>
      ⟨tailDecode k (bitsOf p 0 k), tailDecode k (bitsOf p k k), tailDecode k (bitsOf p (2 * k) k)⟩))

/-- The bytes of a number, least significant first. -/
def numBytes : Nat → Nat → List Nat
  | 0, _ => []
  | n + 1, v => v % 256 :: numBytes n (v / 256)

/-- The line CRC of a row (R275): its bits in bytes, the last one zero-padded. -/
def rowCrc (coding w v : Nat) : Nat := crc32 (numBytes ((w * bpp coding + 7) / 8) v)

/-- The five bytes a pixel contributes to a Spire CRC (R194). -/
def spireBytes (p : Pix) : List Nat := [p.r % 256, p.g % 16 * 16 + p.r / 256 % 16, p.g / 16 % 256, p.b % 256, p.b / 256 % 16]

/-! ### LOSSLESS_80 -/

/-- Lane `l` of word `w` of a block given as 512 words. -/
def lane16 (b : List Nat) (w l : Nat) : Nat := bitsOf (b.getD w 0) (16 * l) 16

/-- The zig-zag value of a difference modulo 2^16 (R300 steps 1 and 2). -/
def zigzag (d : Nat) : Nat := if d < 32768 then 2 * d else 2 * (65536 - d) - 1

/-- The inverse of `zigzag`, modulo 2^16. -/
def unzigzag (z : Nat) : Nat := if z % 2 = 0 then z / 2 else (65536 - (z + 1) / 2) % 65536

/-- The z values of lane `l` of a block. -/
def laneZ (b : List Nat) (l : Nat) : List Nat :=
  (List.range 512).map (fun w => zigzag ((lane16 b w l + 65536 - (if w = 0 then 0 else lane16 b (w - 1) l)) % 65536))

/-- The smallest width that holds a value. -/
def widthFor (v : Nat) : Nat := if v = 0 then 0 else Nat.log2 v + 1

/-- The fields of a block in order: (value, width). -/
def packFields (b : List Nat) : List (Nat × Nat) :=
  let zs := (List.range 4).map (laneZ b)
  (List.range 32).foldl (fun acc g =>
    (List.range 4).foldl (fun acc l =>
      let z := ((zs.getD l []).drop (16 * g)).take 16
      let n := widthFor (z.foldl max 0)
      acc ++ [(n, 5)] ++ z.map (fun v => (v, n))) acc) []

/-- The bits of a list of fields from bit 0 upward, and how many there are. -/
def fieldBits (l : List (Nat × Nat)) : Nat × Nat := l.foldl (fun a f => (a.1 + 2 ^ a.2 * f.1, a.2 + f.2)) (0, 0)

/-- Code a block of 512 words: its 3,264 bytes as a number, or none when it does not fit (R300). -/
def lossless80 (b : List Nat) : Option Nat :=
  let (v, n) := fieldBits (packFields b)
  if n ≤ 26112 then some v else none

/-- Read the fields of a coded block, group by group: (bit position, lane values in reverse, corrupt). -/
def unpackGroups (v : Nat) : Nat → Nat → List (List Nat) → Option (Nat × List (List Nat))
  | 0, at_, acc => some (at_, acc)
  | n + 1, at_, acc =>
    let w := bitsOf v at_ 5
    if 16 < w then none else unpackGroups v n (at_ + 5 + 16 * w) (acc ++ [unpackBits v (at_ + 5) w 16])

/-- Running sums modulo 2^16. -/
def sums16 : Nat → List Nat → List Nat
  | _, [] => []
  | a, z :: r => let x := (a + unzigzag z) % 65536; x :: sums16 x r

/-- Decode a coded block to 512 words, or none when it is corrupt (R301). -/
def unlossless80 (v : Nat) : Option (List Nat) :=
  match unpackGroups v 128 0 [] with
  | none => none
  | some (at_, gs) =>
    if v % 2 ^ 26112 / 2 ^ at_ ≠ 0 then none
    else
      let lanes := (List.range 4).map (fun l =>
        sums16 0 (((List.range 32).map (fun g => gs.getD (4 * g + l) [])).foldl (· ++ ·) []))
      some ((List.range 512).map (fun w =>
        (List.range 4).foldl (fun x l => x + 2 ^ (16 * l) * (lanes.getD l []).getD w 0) 0))

end Sys2Proof.Machine
end

