-- ==== Sys2Proof/Machine/Units.lean ====
section
/-!
DEFINITION. The state the spec gives each unit beside its registers, one structure per unit. Wall times are integers
in units of 2^-16 ns (R91), counter values are cycles of the time clock (R89).
-/
namespace Sys2Proof.Machine

/-- One time domain (R90): anchor, offset (2^-16 ns) and rate correction (2^-40), and what the servo remembers. -/
structure Domain where
  anchor : Nat := 0
  offset : Int := 0
  rho : Int := 0
  /-- The next accepted measurement is the first after LISTEN and steps the domain (R95). -/
  first : Bool := true
  /-- Consecutive measurements outside 4 × LOCK_THR (Table 4-3). -/
  outRun : Nat := 0
  /-- Counter value of the last move of the offset, for the SLEW_MAX limit (R94). -/
  lastMove : Nat := 0
  /-- k of the last TIME message accepted on the domain's port (R103). -/
  k : Nat := 13
  /-- FLAGS.TIME_VALID of the last TIME message accepted, once there was one (R97, R105). -/
  msgValid : Option Bool := none
deriving DecidableEq, Repr

/-- The time unit. -/
structure TimSt where
  dom0 : Domain := {}
  dom1 : Domain := {}
  /-- The switch residual of R98 at counter value `resAt`. -/
  residual : Int := 0
  resAt : Nat := 0
  /-- The schedule in force (R104 to R112). -/
  sched : Option Sched := none
  /-- Pending schedule: taken into force at its N0 (R106, R112). -/
  pend : Option Sched := none
  /-- Tile role: a received schedule in force that differs from the own one, and the departure at which the tile adopts
  it (R106). -/
  adopting : Option (Sched × Nat) := none
  /-- Tile role: MODE_NEXT of the last SCHED message of each port, for rule 0x03. -/
  peerMode : List (Option Nat) := [none, none]
  /-- A SCHED message with NEXT = 0 received on each port of a tile, or under 0 the master's schedule at a member of its
  cluster (Table 19-2). -/
  schedSeen : List (Option Sched) := [none, none]
  /-- Times of the ticks of the current run of ACQUIRE, newest first (Table 4-10), and of the last tick. -/
  ticks : List Int := []
  lastTick : Int := 0
  /-- Consecutive windows without an IN tick, consecutive OUT ticks, OUT ticks since the last IN tick, consecutive
  windows with no tick of any kind, and whether the current window has had a tick and an IN tick. -/
  misses : Nat := 0
  outRun : Nat := 0
  outSince : Bool := false
  empties : Nat := 0
  tickSeen : Bool := false
  inSeen : Bool := false
  /-- Sequence numbers of TIME and SCHED messages, per port. -/
  seqTime : List Nat := [0, 0]
  seqSched : List Nat := [0, 0]
  /-- Link-delay samples of each port, newest first, at most 16, in 2^-16 ns, and whether the port's delay is valid (R100). -/
  ldSamples : List (List Int) := [[], []]
  /-- The LD exchange in progress on each port: its t1 in 1/16 cycles and tag. -/
  ldOpen : List (Option (Nat × Nat)) := [none, none]
  ldTag : List Nat := [0, 0]
  /-- The time clock and the core run on the internal oscillator (R110). -/
  onInt : Bool := false
  /-- The confirmed rate is the one in force: the next tick becomes a departure time (R112). -/
  rephase : Bool := false
  /-- A confirmed rate whose mode check failed: an epoch flip that passes adopts it (R59). -/
  heldRate : Option Nat := none
  /-- Wall time runs in holdover after a TIM soft reset, until the wall domain re-acquires (R121). -/
  resetHold : Bool := false
deriving DecidableEq, Repr

/-- The departure board and the epoch state. -/
structure DepSt where
  /-- Entries other than FREE, by index, rising. -/
  board : List (Nat × Entry) := []
  /-- The last frame departure launched, and the number that the next one of the schedule has. -/
  last : Option Nat := none
  next : Nat := 0
  /-- The departure board has seen the start-up epoch load (R557). -/
  loaded : Bool := false
  loadWait : Bool := false
  /-- The epoch in force. -/
  epoch : Nat := 0
  /-- Dark frames under way: E and D (R51). -/
  dark : Option (Nat × Nat) := none
  /-- The unit failed the mode check of its last epoch flip and keeps its old word (R57). -/
  flipFailed : Bool := false
  /-- The fallback is applied again at departure E + D - 1 (R587). -/
  fbAgain : Bool := false
  /-- The subframe of the frame departure of this instant waits for an epoch flip of the same instant (R118). -/
  scanDue : Bool := false
  /-- Ports whose width policy is evaluated at the next departure (R254), as a mask. -/
  policyDue : Nat := 0
  /-- Frame and view departures launched in the last 2.2 s, newest first: view and launch time; a positive TICKOUT_OFS moves their
  pulses behind them (R113). -/
  past : List (Nat × Int) := []
  /-- The last view of the frame `last` that has departed. -/
  lastView : Nat := 0
  /-- Wall time up to which the last forward step reached: views at or before it are not launched (R120). -/
  stepTo : Option Int := none
deriving DecidableEq, Repr

/-- A frame that a flow slot is receiving (R140): its timestamp, the buffer it goes to (none: it is discarded whole), the
sequence number of its marker, the sequence numbers that each leg has brought with their times, and its ANC packets with
the sequence number that brought each. -/
structure RecvFrame where
  ts : Nat
  buf : Option Nat
  marker : Option Nat := none
  a : List (Nat × Nat) := []
  b : List (Nat × Nat) := []
  anc : List (Nat × AncPkt) := []
deriving DecidableEq, Repr

/-- The format of a slot's pictures (R129): size, sampling, depth code, TCS, colorimetry and range. -/
structure Fmt where
  w : Nat := 1920
  h : Nat := 1080
  sampling : Nat := 0
  depth : Nat := 1
  tcs : Nat := 0
  colorimetry : Nat := 1
  range : Nat := 0
deriving DecidableEq, Repr

/-- A complete frame in a frame-sync buffer: the buffer, its address, the timestamp, the counter value at which it became
complete, the format, the ANC packets. -/
structure FrameRec where
  buf : Nat
  addr : Nat
  ts : Nat
  at_ : Nat := 0
  fmt : Fmt := {}
  anc : List AncPkt := []
deriving DecidableEq, Repr

/-- What one leg of a slot has brought: highest sequence number, numbers it has skipped with the counter value until
which they may still arrive, counter value of the last packet or else of the leg's enable, whether a marker has been seen
and none skipped since; for an ANC leg the bits that it has brought since a counter value (R137). -/
structure LegSt where
  last : Option Nat := none
  miss : List (Nat × Nat) := []
  at_ : Nat := 0
  whole : Bool := false
  bits : Nat := 0
  since : Nat := 0
deriving DecidableEq, Repr

/-- A flow slot beside its registers. -/
structure SlotSt where
  recv : List RecvFrame := []
  legA : LegSt := {}
  legB : LegSt := {}
  lastMarker : Option Nat := none
  /-- Sequence numbers that arrived on neither leg (R138). -/
  unrec : List Nat := []
  /-- Addresses and size of the buffers, and of those that are freed at the next departure (R148). -/
  bufs : List Nat := []
  size : Nat := 0
  freeing : List (Nat × Nat) := []
  /-- The picked frame (R141, R142). -/
  picked : Option FrameRec := none
  /-- The picked frame lies in a buffer of a slot that has been disabled since: it stays until the next departure (R148). -/
  stale : Bool := false
  /-- The candidate: the complete frame that the next departure picks (R141). -/
  cand : Option FrameRec := none
  /-- A complete frame that becomes the candidate after the cycle of its completion (R141). -/
  newest : Option FrameRec := none
  /-- Complete frames of a pair whose other half is missing (R144); in a paired ANC slot those that no pick of its video slot
  has named yet (R145). -/
  half : List FrameRec := []
  /-- What the frame-sync stage presents: 0 a transparent frame, 1 the picked frame, 2 the SUBST colour (R143). -/
  present : Nat := 0
  /-- Departures since the slot became LOST. -/
  lossCnt : Nat := 0
  /-- The leg that is lost while the slot is DEGRADED (R134). -/
  lostLeg : Option Nat := none
  /-- Timestamps of the last complete frames, newest first (R148). -/
  tsHist : List Nat := []
  /-- Next free byte of an ANC ring. -/
  ringAt : Nat := 0
deriving DecidableEq, Repr

/-- The ingest unit: the slots, packets that ETH has matched to a leg (slot, leg, packet), and the lines of the follow
flow in its ring: (line, timestamp, read by MAP). -/
structure IngSt where
  slots : List SlotSt := List.replicate 32 {}
  inbox : List (Nat × Nat × RtpPkt) := []
  ring : List (Nat × Nat × Bool) := []
  /-- Lines of the follow flow whose last packet has not come: line, timestamp and bits stored (R147). -/
  part : List (Nat × Nat × Nat) := []
deriving DecidableEq, Repr

/-- Three components of working light, in 2^-20 (R182). -/
structure Light where
  r : Nat := 0
  g : Nat := 0
  b : Nat := 0
deriving DecidableEq, Repr

/-- The MAP unit: the two card banks, the bank latched for the frame being mapped, and what waits for SYNCING. -/
structure MapSt where
  stage : List Host.Cell := []
  force : List Host.Cell := []
  latch : List Host.Cell := []
  canvas : Canvas := {}
  /-- Writes stalled by SYNCING: offset, bytes, value, and a stalled write of 1 to COMMIT (R167). -/
  stalled : List (Nat × Nat × Nat) := []
  stalledCommit : Bool := false
deriving DecidableEq, Repr

/-- A frame of the monitor stream that is ready: its number, departure time, what COL's registers gave for it (port,
destination, UDP port, payload type, SSRC, format) and its raster in working light (R197, R198). -/
structure MonFrame where
  frame : Nat
  time : Int
  port : Nat
  dst : Nat
  udp : Nat
  pt : Nat
  ssrc : Nat
  fmt : Nat
  rows : List (List Light)
deriving DecidableEq, Repr

/-- The CMP unit beside its registers: the values of the CMP, layer and COL pages latched at the last frame departure
(R176), the Spire window's two banks and the one latched, writes and a COMMIT that wait for SYNCING (R192), the panels
whose shares are flagged now (R193), the monitor frame that is ready and the packets sent so far (R198), and whether a block
of the picture path has been frozen or reset since the last frame departure (R171, R206). -/
structure CmpSt where
  latch : List (Nat × Nat) := []
  spStage : List Host.Cell := []
  spForce : List Host.Cell := []
  spLatch : List Host.Cell := []
  spStalled : List (Nat × Nat × Nat) := []
  spStalledCommit : Bool := false
  spFlag : Nat := 0
  monitor : Option MonFrame := none
  monSent : Nat := 0
  stopped : Bool := false
deriving DecidableEq, Repr

/-- One share of one view as OTG sends it: its stop, the DARK, SPIRE and SPIRE_BAD marks, its size, the bits of each row
and the CRC of R194. -/
structure Share where
  stop : Nat
  dark : Bool
  spire : Bool := false
  bad : Bool := false
  w : Nat := 0
  h : Nat := 0
  rows : List Nat := []
  crc : Nat := 0
deriving DecidableEq, Repr

/-- What MAP and CMP met at some pixels: addresses of poisoned bytes, the 8-byte words read, lines of the follow flow that
were not stored and lines that were read, and the source rows touched, by layer. -/
structure Probe where
  bad : List Nat := []
  words : List Nat := []
  late : List Nat := []
  got : List Nat := []
  rows : List (Nat × Nat) := []
deriving DecidableEq, Repr

/-- A share that is being composed: its port, view and stop, the rows coded so far, the pixels a tile decodes, the Spire panels
met, and whether poisoned Spire data were consumed. -/
structure ShareAcc where
  port : Nat
  view : Nat
  stop : Nat
  bits : List Nat := []
  dec : List Pix := []
  panels : List Nat := []
  bad : Bool := false
deriving DecidableEq, Repr

/-- The OTG unit: the frame being sent with its departure time, views, the codings of both ports, the health word of its
headers, whether it is dark as a whole, whether it waits for the follow flow, and the shares of each port and view. While the
frame is composed round by round (R200, R202): the shares under way, the next view and round, words of DRAM read and lines
found missing in the frame, the block events raised in it (page, bit), whether every pixel takes the late colour, and
whether the matrix and the curves are poisoned (R207). -/
structure OtgSt where
  frame : Option Nat := none
  time : Int := 0
  views : Nat := 1
  codA : Nat := 0
  codB : Nat := 0
  health : Nat := 0
  relief : Bool := false
  dark : Bool := true
  follow : Bool := false
  shares : List (Nat × Nat × List Share) := []
  accs : List ShareAcc := []
  next : Nat × Nat := (0, 0)
  words : List Nat := []
  late : List Nat := []
  seen : List (Nat × Nat) := []
  flat : Bool := false
  badM : Bool := false
  badC : Bool := false
deriving DecidableEq, Repr

/-- One band under BAND_LOCKED (R363 to R366): which set is its front, the rows of the current frame written in its back
plane, whether it has closed for the current frame, a load that waits for its flip (with the counter value of its
end), whether that load repeats the front plane, the frame that it loads otherwise, and the frame to which the band has
flipped last; whether its last load from a new frame was of zero values (R53), and whether a reload waits for the flip. -/
structure Band where
  front : Nat := 0
  rows : List Nat := []
  closed : Bool := false
  loadAt : Option Nat := none
  reload : Bool := false
  frame : Nat := 0
  flipped : Option Nat := none
  zero : Bool := false
  again : Bool := false
deriving DecidableEq, Repr

/-- A load of SCN: the view it is for, the set it reads, and the frame the plane belongs to. -/
structure Load where
  view : Nat
  set : Nat
  frame : Nat
deriving DecidableEq, Repr

/-- The SCN unit: Timetable banks, target memory, what the lamps show, and bands. -/
structure ScnSt where
  stage : List Host.Cell := []
  force : List Host.Cell := []
  stalled : List (Nat × Nat × Nat) := []
  stalledCommit : Bool := false
  /-- What the staging bank held before the copy of R347 that runs. -/
  old : List Host.Cell := []
  /-- Values in the target memory and in the memory shown, by lamp index. -/
  target : List Nat := []
  shown : List Nat := []
  /-- The load under way and the one that is complete (R354 to R358). -/
  load : Option Load := none
  loaded : Option Load := none
  /-- No flip moment has passed without a flip since the last view departure: a load may start (R356, R358). -/
  targetFree : Bool := true
  /-- FLIP has been sent for the next departure. -/
  flip : Bool := false
  /-- The frame whose planes are complete in the back set, and the frame the front set holds. -/
  backFrame : Option Nat := none
  frontFrame : Option Nat := none
  /-- The complete load of view 0 for the next departure came from the back set (R344). -/
  fromBack : Bool := false
  /-- Views without pixels in the back and in the front set: DARK shares (R155), all of them for a DARK frame (R53). -/
  backDark : List Nat := []
  frontDark : List Nat := []
  /-- BLANK is held high for the whole subframe (R358, R371). -/
  blank : Bool := true
  /-- Under PLANE, the bits of plane 0 of the next visit have been shifted (R361). -/
  ready : Bool := false
  /-- The bands of BAND_LOCKED (R363 to R366). -/
  bands : List Band := []
  /-- Lamps that LFM held dark at the last frame departure under BAND_LOCKED (R366). -/
  darkLamps : List Nat := []
  /-- CONFIG and SUBSYNC go out in the coming gap after a soft reset (R371). -/
  resync : Bool := false
deriving DecidableEq, Repr

/-- What COR latches at the start of its pass over a frame (R319, R381). -/
structure Latch where
  frame : Nat
  bank : Nat
  flags : List Nat
  dither : Nat
  seed : Nat
  therm : Nat
  zmode : Nat
  tref : Int
  zx : Nat
  zy : Nat
  gains : List Nat
  unitMap : Nat
  slopes : List Int
  badSlopes : List Nat
  temps : List Int
  rx : Nat
  ry : Nat
  rmap : List Nat
deriving DecidableEq, Repr

/-- An upload command (R332): status 0 while it is not ended. -/
structure Upload where
  op : Nat
  id : Nat
  first : Nat
  count : Nat
  src : Nat
  done : Nat := 0
  started : Bool := false
  status : Nat := 0
deriving DecidableEq, Repr

/-- The COR unit beside its registers. -/
structure CorSt where
  /-- The running pass. -/
  pass : Option Latch := none
  /-- Regions with compressed flag 1, per bank (R325). -/
  flags0 : List Nat := []
  flags1 : List Nat := []
  /-- Rows written by the pass: (view, row), newest first. -/
  rows : List (Nat × Nat) := []
  /-- Shares of the pass judged complete, by view. -/
  doneViews : List Nat := []
  /-- The view whose rows are being corrected, the PRBS23 state and the next lamp of that view (Table 11-3). -/
  prbs : Nat := 0
  prbsLamp : Nat := 0
  prbsView : Nat := 0
  /-- The rail maxima of the pass (R322). -/
  maxima : List Nat := []
  /-- The check of R308 failed: no drive values until module reset. -/
  badGeom : Bool := false
  /-- One channel is missing with more than two views since the last frame departure (R419). -/
  oneChannel : Bool := false
  /-- Zones in substitution at the last pass. -/
  subst : List Nat := []
  /-- The copy of R328 has been started. -/
  copying : Bool := false
  /-- Upload commands, oldest first, and completions (R332, R333). -/
  uploads : List Upload := []
  completions : List (Nat × Nat × Nat) := []
  /-- T_n of the frame being corrected. -/
  depTime : Int := 0
deriving DecidableEq, Repr

/-- The rail controller beside its registers; the lists have one entry per channel. -/
structure RaiSt where
  /-- Target of the frame being emitted and of the next frame, and whether the latter is known (R24). -/
  cur : List Nat := List.replicate 24 0
  next : List Nat := List.replicate 24 0
  known : Bool := false
  /-- Fixed setpoints in force by channel; a channel without one has VMIN (R385). -/
  fixed : List (Nat × Nat) := []
  /-- Channels whose REJECT has been raised for the frame being emitted, and for the next one (R387). -/
  rejected : List Nat := []
  nextRejected : List Nat := []
  /-- D of the last plane shown, by channel (R383). -/
  plane : List Nat := []
  /-- Channels that discharge: state DISCHARGE, or FAULT before the output is below 1 V (R390). -/
  discharging : List Nat := []
deriving DecidableEq, Repr

/-- The lamp-fault unit beside its registers. -/
structure LfmSt where
  /-- Frames whose Spire check failed, by number (R400). -/
  spireFail : List Nat := []
  /-- Records captured while frozen: group and record. -/
  held : List (Nat × Nat) := []
  /-- 32-bit words of the fault map whose lamps count as OPEN since LFM read them poisoned (R397). -/
  poisoned : List Nat := []
deriving DecidableEq, Repr

/-- Housekeeping beside its registers. A run is a number of consecutive rounds, kept per channel. -/
structure HktSt where
  /-- Temperatures of the last 64 rounds, newest first; none where the channel took no part (R511). -/
  hist : List (List (Option Int)) := []
  /-- Rounds outside the cross-check (R509), at or above WARN, THROTTLE and SHUTDOWN, and below the end of each condition. -/
  devRun : List (Nat × Nat) := []
  warnRun : List (Nat × Nat) := []
  thrRun : List (Nat × Nat) := []
  shutRun : List (Nat × Nat) := []
  warnEnd : List (Nat × Nat) := []
  thrEnd : List (Nat × Nat) := []
  rorEnd : List (Nat × Nat) := []
  /-- Channels with a WARN, THROTTLE and ROR condition. -/
  warn : List Nat := []
  thr : List Nat := []
  ror : List Nat := []
  /-- The throttle condition of the module at the last round. -/
  cond : Bool := false
  /-- The ENG_DIV to take at the next frame departure, and whether the fallback coding is wanted or to be ended (R514). -/
  divNext : Option Nat := none
  fbNext : Option Bool := none
  /-- A converter test runs (R518). -/
  testing : Bool := false
  /-- A thermal shutdown has been detected, with the rail channels that must discharge (R516). -/
  shutdown : Bool := false
  shutRails : List Nat := []
  /-- Counter value at that detection. -/
  shutAt : Nat := 0
  /-- The DAC codes of trims 0 to 19 in the round under way (R521), and the corrections of the oscillator and the reference, in 2^-5 of
  a code (R520). -/
  trims : List Int := []
  /-- CH_VAL of NTC and LINEAR channels as last converted with ρ inside its range (R507). -/
  inRange : List (Nat × Nat) := []
  osc : Int := 0
  refc : Int := 0
deriving DecidableEq, Repr

/-! ### Links (chapter 8) -/

/-- One Tybel lane: consecutive valid training frames, how many of them in a row carried FIXED, the control and status
fields it sends (Table 8-5), whether a request waits for its status, what the peer has sent, and the counter value at
which its training began. -/
structure LaneSt where
  run : Nat := 0
  fixedRun : Nat := 0
  ctl : Nat := 0
  sta : Nat := 0
  waiting : Bool := false
  peerReady : Bool := false
  peerGiveUp : Bool := false
  since : Nat := 0
  /-- The lane runs on fixed or relock settings in this bring-up (R229, R230). -/
  fixed : Bool := false
  /-- The request bits last applied (R225), the state of the training pattern and when a frame with new fields last left. -/
  req : Nat := 0
  pat : Nat := 0
  patAt : Nat := 0
  /-- The precoding flags stored with LAST_TX_TAPS and LAST_RX (R227). -/
  lastPre : Nat × Nat := (0, 0)
  /-- Transmitter: the scrambler and the last symbol sent (R217, R218). -/
  txScr : Nat := 0
  txY : Nat := 0
  /-- Receiver: the scrambler, the last symbol received, data codewords since the last AM slot, AM codewords of the slot still to
  come once one has come, and the flits decoded and not yet taken, each with the mark of an uncorrectable codeword. -/
  rxScr : Nat := 0
  rxY : Nat := 0
  rxCount : Nat := 0
  rxAm : Option Nat := none
  rxFlits : List (Nat × Bool) := []
  /-- Counter values of recent uncorrectable codewords (R248); symbols and symbol errors of the window of SER_CNT. -/
  unc : List Nat := []
  ser : Nat × Nat := (0, 0)
deriving DecidableEq, Repr

/-- A group in the replay buffer (R244): SEQ, the codes and data flits as a replay carries them (R245), replays so far, and when it
was first and last sent. -/
structure SentGroup where
  seq : Nat
  codes : List Nat
  flits : List Nat
  replays : Nat := 0
  at_ : Nat := 0
  last : Nat := 0
deriving DecidableEq, Repr

/-- A group that is composed and announced by the MAP before it (R236): its SEQ where it is a replay, its codes and data flits, those
that a replay of it carries, whether it is stomped (R243), and the own messages that it holds. -/
structure TxGroup where
  seq : Option Nat := none
  codes : List Nat := List.replicate 31 0
  flits : List Nat := List.replicate 31 0
  again : List (Nat × Nat) := List.replicate 31 (0, 0)
  stomped : Bool := false
  own : List Msg := []
deriving DecidableEq, Repr

/-- A data slot in the forwarding buffer (R247): its code, the flit, the TYPE of the control message it belongs to, and whether its
group was discarded on arrival (R243). -/
structure FwdSlot where
  code : Nat := 0
  flit : Nat := 0
  type : Nat := 0
  bad : Bool := false
deriving DecidableEq, Repr

/-- A Tybel port beside its registers. -/
structure PortSt where
  /-- Start of the bring-up under way: the first valid training frame in DETECT (R223). -/
  since : Option Nat := none
  /-- RELOCK was agreed at the last CAPX (R230). -/
  relock : Bool := false
  /-- Port lanes that have locked and deskewed in this bring-up, the mask that limits the lanes in service, and whether
  an agreed mask has already changed them (Table 8-3). -/
  locked : List Nat := []
  mask : Nat := 15
  cut : Bool := false
  /-- MAX_WIDTH that acts (R214). -/
  maxWidth : Nat := 0
  /-- The last CAPX received in this bring-up, and whether an own one has carried SEEN. -/
  peer : Option CapxMsg := none
  seenSent : Bool := false
  levelDown : Bool := false
  /-- The peer's PORT_FN, once known. -/
  peerFn : Option Nat := none
  /-- Width change under way: WMASK sent with WREQ, and received (R249). -/
  wTx : Option Nat := none
  wRx : Option Nat := none
  /-- Receiver: E, whether it has taken a first SEQ in this bring-up and accepted a group since, the codes of the group that follows,
  and when a NAK for E was asked for (R242). -/
  expect : Nat := 0
  synced : Bool := false
  got : Bool := false
  codes : List Nat := List.replicate 31 0
  nakAt : Option Nat := none
  /-- The control message whose flits are under way: its TYPE and the flits still to come. -/
  openMsg : Nat × Nat := (0, 0)
  /-- Transmitter: the next SEQ and the groups not acknowledged, oldest first (R244). -/
  txSeq : Nat := 0
  sent : List SentGroup := []
  /-- The port is in DOWN or HELD until RETRY_INT elapses (Table 8-3). -/
  waits : Bool := false
  /-- The control queue, in the order of queueing (R265); VIDEO flits that OTG has handed over; the forwarding buffer for this
  port's direction (R247), flits of a control message still to come in the stream that leaves, and whether the message that
  comes in is dropped. -/
  txq : List Msg := []
  vq : List Nat := []
  fwd : List FwdSlot := []
  fwdOpen : Nat := 0
  fwdDrop : Bool := false
  /-- The group announced; the CRC of the group sent last and whether that was stomped; a NAK goes in the next header. -/
  nextG : TxGroup := {}
  crc : Nat := 0
  crcBad : Bool := false
  nakDue : Bool := false
  /-- Video slots and own control slots of the last 63 groups, newest first (R239); transmission time to the good, in quarters of a
  group at width 4. -/
  used : List (Nat × Nat) := []
  credit : Int := 0
  /-- Flits that wait for a codeword, by logical lane; data codewords since the last AM slot, the slot counter and the length of the
  last slot (R220). -/
  acc : List (List Nat) := []
  words : Nat := 0
  slots : Nat := 0
  amLen : Nat := 3
deriving DecidableEq, Repr

/-! ### Lines (chapter 9) -/

/-- Who waits for a line transaction: a descriptor (queue, ring index, request of the descriptor), the service path
(destination and tag of the datagram), or the cluster unit, which waits for nothing. -/
inductive Owner where
  | desc (q idx part : Nat)
  | service (dst : Caller) (tag : Nat)
  | cluster
deriving DecidableEq, Repr

/-- A line transaction in its dispatch slot (R277): the request, who waits, its tenant (16 and 17 as ISSUER), the rule epoch of
its dispatch, whether a tenant reset discards its completion, and when it was dispatched. -/
structure Txn where
  slot : Nat
  req : ReqMsg
  owner : Owner
  tenant : Nat
  epoch : Nat
  discard : Bool := false
  at_ : Nat := 0
deriving DecidableEq, Repr

/-- What a sender knows of a stop: the serial of the last run that reached it, the last telemetry record, the frame of the
last record, consecutive misses, whether it is silent, OUT_OF_TIME with the departures in a row at 50 ns or less
(R502), and digest differences in a row (R501). -/
structure StopSt where
  stop : Nat
  serial : Option Nat := none
  tele : Option TelemMsg := none
  /-- The agreed level of its port U, as telemetry last gave it (R503). -/
  level : Nat := 0
  misses : Nat := 0
  silent : Bool := false
  out : Bool := false
  calm : Nat := 0
  differs : Nat := 0
  outside : Bool := false
deriving DecidableEq, Repr

/-- An SVC session of a sender (R286, R548): port is that of its line; stop, SESSION, PURPOSE and SLOT; the SEQ of the next
new segment and the last SEQ acknowledged; segments sent and not acknowledged; bytes in the relay buffer, and whether the
slot has been closed after them; bytes accepted; for a mailbox session the bytes that came back and their last SEQ; the
datagram (destination, tag, operation) that waits for an answer. -/
structure SvcOut where
  stop : Nat
  session : Nat
  purpose : Nat
  slot : Nat
  next : Nat := 0
  acked : Option Nat := none
  segs : List SvcMsg := []
  buf : List (BitVec 8) := []
  closing : Bool := false
  taken : Nat := 0
  rx : List (BitVec 8) := []
  rxSeq : Option Nat := none
  wait : Option (Caller × Nat × Nat) := none
deriving DecidableEq, Repr

/-- The SVC session of a tile (R549): the port it came in on, SESSION, the last SEQ accepted, PURPOSE, SLOT, the total length,
bytes of a mailbox message under way, whether the slot has been closed and its check runs, and the SEQ of its own next
segment. -/
structure SvcIn where
  port : Nat
  session : Nat
  seq : Nat
  purpose : Nat
  slot : Nat
  total : Nat
  part : List (BitVec 8) := []
  closed : Bool := false
  next : Nat := 0
  /-- Segments of its own that are not acknowledged. -/
  segs : List SvcMsg := []
deriving DecidableEq, Repr

/-- The line state of one port of a sender. -/
structure LineTx where
  /-- Transactions in their dispatch slots (R277). -/
  txns : List Txn := []
  /-- Generation of each dispatch slot that has been used. -/
  gens : List (Nat × Nat) := []
  /-- Transactions that timed out and still hold their stop credits: DIDX and stop (R279). -/
  held : List (Nat × Nat) := []
  /-- Responses of the run under way. -/
  rsps : List EnumRsp := []
  /-- What the sender knows of its stops. -/
  stops : List StopSt := []
  /-- Widths in lanes of links 2 and up, as LINK_STATE last reported them (R253). -/
  widths : List (Nat × Nat) := []
  /-- SVC sessions (R286). -/
  sessions : List SvcOut := []
  /-- Requests of the service path and the cluster unit that wait for room (R277), oldest first: request, who waits, tenant. -/
  waiting : List (ReqMsg × Owner × Nat) := []
deriving DecidableEq, Repr

/-- A request that a tile holds (R278, R281): the side it arrived from, the request, where its response goes (port and
DIDX), and whether the response is discarded. -/
structure HeldReq where
  side : Nat
  req : ReqMsg
  port : Nat
  didx : Nat
  drop : Bool := false
  /-- Words executed, where the next one waits, and the cached completion of a repeat that waits for its turn. -/
  next : Nat := 0
  done : Option RspMsg := none
deriving DecidableEq, Repr

/-- The duplicate window of one SRC (R282): its TAG values, newest first, each with its completion once there is one. -/
structure DupWin where
  src : Nat
  tags : List (Nat × Option RspMsg)
deriving DecidableEq, Repr

/-- A stream of video at a receiver's port (R270 to R274, R481, R482): the last frame header, the last departure or frame in
which a condition of Table 16-4 held, and the parsing of the view under way. -/
structure StreamSt where
  hdr : Option FrameHdr := none
  failed : Option Nat := none
  /-- A view is being received; the parser hunts; the header was discarded with its sequence (R274). -/
  open_ : Bool := false
  hunt : Bool := false
  skip : Bool := false
  shares : List ShareHdr := []
  /-- First round of the segment under way, the rounds of it already taken, and of the one expected next. -/
  seg : Option Nat := none
  nextSeg : Nat := 0
  rounds : List Nat := []
  /-- Trailers received for the view. -/
  trailers : Nat := 0
deriving DecidableEq, Repr

/-- The share that a tile puts together for the frame being received: view, share header, rows that have arrived, the
trailer seen, marked incomplete. -/
structure ViewRx where
  view : Nat
  share : Option ShareHdr := none
  rows : List Nat := []
  trailer : Option ShareTrl := none
  bad : Bool := false
  dark : Bool := false
  /-- CRC register of R194 over the rows taken so far, and the row it expects next; a row out of order leaves it behind. -/
  crc : Nat := 0xFFFFFFFF
  crcNext : Nat := 0
deriving DecidableEq, Repr

/-- What a tile keeps of a view of the stream that it does not show, for a points change (R484): frame, view, DARK, and the header and
trailer of its own share. -/
structure StandbyView where
  frame : Nat
  view : Nat
  dark : Bool
  share : Option ShareHdr := none
  trailer : Option ShareTrl := none
deriving DecidableEq, Repr

/-- The line engine beside its registers. -/
structure LineSt where
  /-- Tile: the port whose stream is shown (R483). -/
  shownPort : Nat := 0
  /-- The sixteen lanes and the two ports beside LNL and LNK (chapter 8). -/
  lanes : List LaneSt := List.replicate 16 {}
  port0 : PortSt := {}
  port1 : PortSt := {}
  /-- Sender: the line at each port (R277 to R290). -/
  tx0 : LineTx := {}
  tx1 : LineTx := {}
  /-- Tile: requests that it holds (R278), and the duplicate windows (R282). -/
  held : List HeldReq := []
  wins : List DupWin := []
  /-- The stream received at each port (R270 to R274). -/
  stream0 : StreamSt := {}
  stream1 : StreamSt := {}
  /-- Tile: the frame being received and its views. -/
  rxFrame : Option Nat := none
  views : List ViewRx := []
  /-- Tile: the standby ring (R484): frame, view, row and row bits of the stream not shown, newest first. -/
  ring : List (Nat × Nat × Nat × Nat) := []
  standby : List StandbyView := []
  /-- Tile: row CRCs of two frames (R275): port, frame, view, row, CRC. -/
  crcs : List (Nat × Nat × Nat × Nat × Nat) := []
  /-- The frames for which LCRC_MISMATCH has been raised. -/
  lcrcSeen : List Nat := []
  /-- What the next telemetry record tells of the period: rows counted under R275, result of the frame received (Table 9-8
  RX), Spire check failed, UNDERRUN, poison consumed, UNDERRUN events since reset. -/
  lcrc : Nat := 0
  rx : Nat := 0
  spireBad : Bool := false
  underrun : Bool := false
  poison : Bool := false
  underruns : Nat := 0
  /-- Tile: j of R290. -/
  fadeJ : Nat := 0
  /-- Sender: the last SESSION number used. -/
  lastSession : Nat := 0
  /-- Tile: the SVC session. -/
  svcIn : Option SvcIn := none
deriving DecidableEq, Repr

/-- The cluster unit beside its registers. -/
structure CluSt where
  /-- Units OUT_OF_TIME (R502): this sender and stops by port. -/
  selfOut : Bool := false
  outStops : List (Nat × Nat) := []
  calm : Nat := 0
  /-- Members' last records, and the members whose record for the last departure has arrived. -/
  recs : List ClusterRec := []
  /-- Departures in a row without a record of the master (R500), and in a row with a digest that differs, by member (R501). -/
  misses : Nat := 0
  differs : List (Nat × Nat) := []
  mismatch : Bool := false
  /-- The master's command in force (Table 16-6): CMD, CMD_ARG, C_EPOCH, C_FLIP and C_DEADLINE. -/
  cmd : Nat := 0
  arg : Nat := 0
  cEpoch : Nat := 0
  cFlip : Nat := 0
  cDeadline : Nat := 0
  /-- The command already acted on. -/
  acted : Nat × Nat := (0, 0)
  /-- The entry this member armed, by epoch. -/
  armed : Option Nat := none
  level : Option Nat := none
deriving DecidableEq, Repr

/-- The relief unit beside its registers. -/
structure RdnSt where
  /-- The far end's last frame header carried SRC_RELIEF: a relief sender carries a line of this sender. -/
  reliefLive : Bool := false
  /-- REDUN came into force with ROLE LEAD and the sender waits for a far-end header (Table 16-1). -/
  waiting : Bool := false
  /-- TAKEN and HANDOVER of the health word. -/
  taken : Bool := false
  handing : Bool := false
  /-- Wall time at the entry to SYNCING. -/
  syncAt : Int := 0
  /-- Mirror sequence at the relief: next SEQ, records that came early, and the last gap. -/
  nextSeq : Option Nat := none
  early : List (Nat × MirrorRec) := []
  /-- Values in force of the image, its end digest, and complete. -/
  image : List (Nat × List Nat) := []
  imageEnd : Option Nat := none
  /-- The last FRAME records: m and groups; MFADE_POS under 16 and the L_FADE_POS by layer. -/
  frameRec : Option (Nat × Nat) := none
  fades : List (Nat × Nat) := []
  /-- Commit groups transferred at the last departure: departure and mask. -/
  groups : Nat × Nat := (0, 0)
  /-- A frame departure is at its commits, whose groups are noted. -/
  noting : Bool := false
  /-- Wall time at which the lead last sent an image (R479). -/
  imaging : Option Int := none
deriving DecidableEq, Repr

/-! ### Queues, tenants and mailboxes (chapter 15) -/

/-- A descriptor admitted and not completed, or completed and not yet passed by HEAD: queue, ring index, the 64 bytes,
the rule epoch of its admission, requests sent, statuses of those answered with their part, whether it has been
dispatched, and its completion (STATUS, DONE, read data). -/
structure Desc where
  q : Nat
  idx : Nat
  bytes : List (BitVec 8)
  epoch : Nat
  sent : Nat := 0
  answers : List (Nat × Nat × List Nat) := []
  dispatched : Bool := false
  result : Option (Nat × Nat × List Nat) := none
  /-- The dispatcher sends no more requests of it; the status that holds if every answer is OK. -/
  stop : Option Nat := none
deriving DecidableEq, Repr

/-- Queues and tenants beside their registers: descriptors oldest first. -/
structure QueSt where
  descs : List Desc := []
  /-- A self-test that runs or waits: ID, TARGET, runs so far. -/
  test : Option (Nat × Nat × Nat) := none
  /-- VFs that PF0 has enabled: those that have sent a command since (R439). -/
  vfs : List Nat := []
  /-- The tenant that the dispatcher served last, and its last queue for each tenant (R446). -/
  lastTenant : Nat := 15
  lastQueues : List (Nat × Nat) := []
  /-- Counter value of the last VIDEO flit by port (R468). -/
  video : List (Option Nat) := [none, none]
deriving DecidableEq, Repr

/-- A mailbox channel: messages for side B and for side A, oldest first, each with its poison mark. -/
structure MbxChan where
  toB : List (List Nat × Bool) := []
  toA : List (List Nat × Bool) := []
  /-- Answers of the MC image that wait for room (R462). -/
  due : List (List Nat × Bool) := []
deriving DecidableEq, Repr

/-- A job that the codec engine runs (R302, R303): the queue descriptor it comes from (queue and ring index; none for the
ring), the ring index, the DRAM address of its ring descriptor and whether its end advances JR_HEAD, its 64 bytes, its rule
epoch, the whole blocks done in bytes of input and output, and how it ends, once it has: STATUS and the address for
ERR_ADDR. -/
structure Job where
  owner : Option (Nat × Nat) := none
  idx : Nat := 0
  at_ : Nat := 0
  counted : Bool := true
  bytes : List (BitVec 8) := []
  epoch : Nat := 0
  abort : Bool := false
  /-- A tenant reset ends it without write-back (R455). -/
  drop : Bool := false
  inDone : Nat := 0
  outDone : Nat := 0
  status : Option (Nat × Nat) := none
deriving DecidableEq, Repr

/-- The codec engine beside its registers. -/
structure KlcSt where
  job : Option Job := none
deriving DecidableEq, Repr

/-- A copy of the boot control block (R530): its sequence number, and STATE, GEN and TRIALS of the six slots. -/
structure BootCopy where
  seq : Nat
  slots : List (Nat × Nat × Nat)
deriving DecidableEq, Repr

/-- What survives a reset beside registers, and the firmware unit: the flash bytes (an unlisted one reads 0xFF) and the total
length of the open write session. -/
structure FwuSt where
  flash : List Host.Cell := []
  total : Nat := 0
  /-- The two copies of the boot control block; none where the CRC does not hold. -/
  boot0 : Option BootCopy := none
  boot1 : Option BootCopy := none
  /-- The MC image has started (step 7 of Table 19-1). -/
  mcUp : Bool := false
  /-- The causes of the last module reset as a mask: the reset value of RST_CAUSE (Table 13-6). -/
  cause : Nat := 1
  /-- The fused hashes of the key slots (R532). -/
  hashes : List Nat := []
deriving DecidableEq, Repr

/-- DRAM and its controller (R409 to R436). -/
structure MemSt where
  /-- Bytes of DRAM by address; the copy of the tile region in channel 1 holds the same bytes and has no addresses. -/
  dram : List Host.Cell := []
  /-- Parity bits that disagree with their byte, per aligned 8-byte word: key 2 × (address / 8) + copy, one bit per
  byte. All eight is the poison mark (R429). -/
  par : List (Nat × Nat) := []
  /-- Requests that a frozen channel holds: channel, port, address, whether a write (R427). -/
  held : List (Nat × Nat × Nat × Bool) := []
  /-- Per channel: the next FILL begins with a resilver (R418); FILL ends in SELF_REFRESH (R420, R421); retraining runs;
  a retraining is wanted; counter value and temperature of the last training. -/
  resilver : List Nat := []
  toSelfRefresh : List Nat := []
  retraining : List Nat := []
  wanted : List Nat := []
  lastTrain : List (Nat × Nat) := []
  lastTemp : List (Nat × Nat) := []
  /-- New mismatches of DEGRADED channels: channel and counter value (R412). -/
  hits : List (Nat × Nat) := []
  /-- The patrol's next bank and region, the bad regions it has found, and whether the current pass has begun (R436). -/
  patBank : Nat := 0
  patList : List (Nat × Nat) := []
  patRegion : Nat := 0
  patBad : List (Nat × Nat) := []
  /-- Poisoned words of on-die SRAM, by the local address under which software sees them (R431). -/
  sram : List Nat := []
  /-- Bytes that each channel has moved since the last frame departure (R411). -/
  traffic : List Nat := [0, 0, 0, 0]
  /-- Write queue of each channel: address and length, newest first, at most 64 (R425). -/
  queues : List (List (Nat × Nat)) := [[], [], [], []]
deriving DecidableEq, Repr

end Sys2Proof.Machine
end

