-- ==== Sys2Proof/Machine/State.lean ====
section
/-!
DEFINITION. The state of one FX9064 module as plain data: the register file (one entry per field that differs from
its reset value), the values in force of shadow fields, the state the spec gives each unit beside its registers, what
the module has sent, and the queue of waiting commands.
-/
namespace Sys2Proof.Machine

/-- Why a step stops with a fault. -/
inductive Fault where
  /-- Raised by every command but a reset after the supply has sagged: the spec calls the state undefined until the next
  reset (R376). Safe: the hardware goes on in a state the spec does not give. -/
  | undefinedAfterSag
deriving DecidableEq, Repr

/-- Why a step is refused. -/
inductive Refusal where
  /-- Raised by the dispatch for a command that has no meaning yet. Safe. -/
  | notModelled (mnemonic : String)
deriving DecidableEq, Repr

/-- The state. `regs` and `force` map field keys to values, keys strictly rising; a field without an entry holds its
reset value. `regs` is what a read returns (for a shadow field the staged value), `force` the shadow values in force. -/
structure State where
  pending : List Instr := []
  power : Power := .running
  role : Role := .sender
  /-- The free-running counter of R89. -/
  frc : Nat := 0
  regs : List (Nat × Nat) := []
  force : List (Nat × Nat) := []
  /-- Which free value is drawn next; the model's own field. -/
  fresh : Nat := 0
  /-- What the module has sent or driven, oldest first. -/
  out : List Out := []
  tim : TimSt := {}
  dep : DepSt := {}
  ing : IngSt := {}
  map : MapSt := {}
  cmp : CmpSt := {}
  otg : OtgSt := {}
  mem : MemSt := {}
  scn : ScnSt := {}
  cor : CorSt := {}
  rai : RaiSt := {}
  lfm : LfmSt := {}
  hkt : HktSt := {}
  line : LineSt := {}
  rdn : RdnSt := {}
  clu : CluSt := {}
  que : QueSt := {}
  mbx : List (Nat × MbxChan) := []
  klc : KlcSt := {}
  fwu : FwuSt := {}
deriving DecidableEq, Repr

/-- The machine right after reset: every register at its reset value, the Sender role, no command waiting. -/
def State.reset : State := { regs := [(R.RCK.RST_CAUSE.POWER_ON.key, 1)] }

end Sys2Proof.Machine
end

