-- ==== Sys2Proof/Machine/Ops.lean ====
section
/-!
DEFINITION. The named operations that every meaning is written with: reading and writing a field, the value in force of
a shadow field, events and errors of a page (R81 to R83), the page map (R85), byte memories, and the frame that a
running die puts around a command.
-/
namespace Sys2Proof.Machine

/-! ### Keyed lists in canonical form: keys strictly rising, no entry equal to the default. -/

/-- The value under key `k`, or `d` where none is listed. -/
def lookupD : List (Nat × Nat) → Nat → Nat → Nat
  | [], _, d => d
  | (a, v) :: r, k, d => if a = k then v else if k < a then d else lookupD r k d

/-- Put `v` under key `k`; a value equal to the default `d` is not listed. -/
def putD : List (Nat × Nat) → Nat → Nat → Nat → List (Nat × Nat)
  | [], k, v, d => if v = d then [] else [(k, v)]
  | (a, w) :: r, k, v, d =>
    if k < a then (if v = d then (a, w) :: r else (k, v) :: (a, w) :: r)
    else if a = k then (if v = d then r else (k, v) :: r)
    else (a, w) :: putD r k v d

/-- The keys of a list rise strictly. -/
abbrev keysRise (l : List (Nat × Nat)) : Prop := l.Pairwise (fun a b => a.1 < b.1)

/-! ### Byte memories -/

/-- The byte at `a`, `d a` where none is listed. -/
def readB (d : Nat → Byte) : List Host.Cell → Nat → Byte
  | [], a => d a
  | (b, v) :: r, a => if b = a then v else if a < b then d a else readB d r a

/-- Store the byte `v` at `a`, keeping the form. -/
def writeB (d : Nat → Byte) : List Host.Cell → Nat → Byte → List Host.Cell
  | [], a, v => if v = d a then [] else [(a, v)]
  | (b, w) :: r, a, v =>
    if a < b then (if v = d a then (b, w) :: r else (a, v) :: (b, w) :: r)
    else if b = a then (if v = d a then r else (a, v) :: r)
    else (b, w) :: writeB d r a v

/-- What a byte of DRAM, host memory or a plain buffer holds before anything is written: 0 (R414 for DRAM). -/
def zeroB (_ : Nat) : Byte := 0

/-- The canonical form of a byte memory whose unlisted bytes read as `d`. -/
abbrev Memory.wf (d : Nat → Byte) (m : List Host.Cell) : Prop :=
  m.Pairwise (fun a b => a.1 < b.1) ∧ ∀ c ∈ m, c.2 ≠ d c.1

/-- `n` bytes from `a` as a little-endian number (R5). -/
def readLE (d : Nat → Byte) (m : List Host.Cell) (a : Nat) : Nat → Nat
  | 0 => 0
  | n + 1 => (readB d m a).toNat + 256 * readLE d m (a + 1) n

/-- Store the low `n` bytes of `v` from `a`, little-endian. -/
def writeLE (d : Nat → Byte) (m : List Host.Cell) (a : Nat) : Nat → Nat → List Host.Cell
  | 0, _ => m
  | n + 1, v => writeLE d (writeB d m a (BitVec.ofNat 8 v)) (a + 1) n (v / 256)

/-- `n` bytes from `a`. -/
def readBytes (d : Nat → Byte) (m : List Host.Cell) (a : Nat) : Nat → List Byte
  | 0 => []
  | n + 1 => readB d m a :: readBytes d m (a + 1) n

/-- Store a list of bytes from `a`. -/
def writeBytes (d : Nat → Byte) (m : List Host.Cell) (a : Nat) : List Byte → List Host.Cell
  | [] => m
  | b :: r => writeBytes d (writeB d m a b) (a + 1) r

/-- The little-endian number that a list of bytes spells. -/
def leNat : List Byte → Nat
  | [] => 0
  | b :: r => b.toNat + 256 * leNat r

/-! ### Register fields -/

/-- The value a read of field `f` returns. -/
def State.get (s : State) (f : Fld) : Nat := lookupD s.regs f.key f.rst

/-- Store `v`, cut to the field's width, in field `f`. -/
def State.set (s : State) (f : Fld) (v : Nat) : State :=
  { s with regs := putD s.regs f.key (v % 2 ^ f.width) f.rst }

/-- The value of a shadow field that is in force (R74, R77). -/
def State.cur (s : State) (f : Fld) : Nat := lookupD s.force f.key f.rst

/-- Bring `v` into force in a shadow field. -/
def State.setCur (s : State) (f : Fld) (v : Nat) : State :=
  { s with force := putD s.force f.key (v % 2 ^ f.width) f.rst }

/-- Field `f` read as a signed number. -/
def State.getI (s : State) (f : Fld) : Int := sgn f.width (s.get f)

/-- The value in force of `f` read as a signed number. -/
def State.curI (s : State) (f : Fld) : Int := sgn f.width (s.cur f)

/-- Store a signed number in `f`. -/
def State.setI (s : State) (f : Fld) (v : Int) : State := s.set f (uns f.width v)

/-- Whether a one-bit field is 1. -/
def State.on (s : State) (f : Fld) : Bool := s.get f == 1

/-- Whether a one-bit shadow field is 1 in force. -/
def State.curOn (s : State) (f : Fld) : Bool := s.cur f == 1

/-- Add `n` to a counter field, which saturates at all ones. -/
def State.count (s : State) (f : Fld) (n : Nat := 1) : State := s.set f (min (s.get f + n) (2 ^ f.width - 1))

/-- A 64-bit value held in a low and a high field. -/
def State.get64 (s : State) (lo hi : Fld) : Nat := s.get lo + 2 ^ 32 * s.get hi

/-- Store a 64-bit value in a low and a high field. -/
def State.set64 (s : State) (lo hi : Fld) (v : Nat) : State := (s.set lo (v % 2 ^ 32)).set hi (v / 2 ^ 32)

/-! ### The page map (R68, R85) -/

/-- The rows of Table 3-5: block, base, number of pages. -/
def pageRows : List (PageKind × Nat × Nat) :=
  [ (.idn, 0x0, 1), (.rck, 0x1000, 1), (.pwr, 0x2000, 1), (.hkt, 0x3000, 1), (.cal, 0x4000, 1), (.tim, 0x8000, 1),
    (.dep, 0x9000, 1), (.mbx, 0x10000, 24), (.fwu, 0x28000, 1), (.svp, 0x29000, 1), (.eth, 0x30000, 1),
    (.ing, 0x40000, 1), (.ingFlow, 0x48000, 8), (.otg, 0x50000, 1), (.map, 0x60000, 1), (.cmp, 0x70000, 1),
    (.cmpLayer, 0x71000, 8), (.cmpSpire, 0x79000, 1), (.col, 0x80000, 1), (.klc, 0x90000, 1), (.lnk, 0xA0000, 2),
    (.lnl, 0xB0000, 16), (.lne, 0xC0000, 2), (.cor, 0xD0000, 1), (.scn, 0xE0000, 1), (.rai, 0xF0000, 1),
    (.lfm, 0x100000, 1), (.mem, 0x110000, 4), (.par, 0x120000, 1), (.que, 0x140000, 1), (.ten, 0x150000, 1),
    (.rdn, 0x160000, 1), (.clu, 0x170000, 1) ]

/-- The base of the first page of a block, and the number of its pages. -/
def pageBase (k : PageKind) : Nat × Nat :=
  match pageRows.find? (fun r => r.1 == k) with
  | some r => r.2
  | none => (0x1800000, 0)

/-- The page that holds an address below 0x040_0000: its block and instance. -/
def pageAt (addr : Nat) : Option (PageKind × Nat) :=
  match pageRows.find? (fun r => r.2.1 ≤ addr && addr < r.2.1 + r.2.2 * 0x1000) with
  | some r => some (r.1, (addr - r.2.1) / 0x1000)
  | none => none

/-- Whether a block is active in a role (R9, R11, Table 3-5). -/
def activeIn (r : Role) (k : PageKind) : Bool :=
  match r with
  | .sender => !([.cor, .scn, .rai, .lfm] : List PageKind).contains k
  | .tile => !([.eth, .ing, .ingFlow, .otg, .map, .cmp, .cmpLayer, .cmpSpire, .col, .ten, .rdn, .clu, .queCtx] : List PageKind).contains k

/-- Whether page `i` of a block is active in a role: LNL pages 0 to 7 belong to the Ethernet lanes, which a tile powers down
(R9, R215). -/
def activePage (r : Role) (k : PageKind) (i : Nat) : Bool := activeIn r k && !(r == .tile && k == .lnl && i < 8)

/-- Whether the page at base `b` exists and its block is active. -/
def State.live (s : State) (b : Nat) : Bool :=
  match pageAt b with
  | some (k, i) => activePage s.role k i
  | none => false

/-- The bases of the pages, by block. -/
def B.rck : Nat := 0x1000
def B.pwr : Nat := 0x2000
def B.hkt : Nat := 0x3000
def B.cal : Nat := 0x4000
def B.tim : Nat := 0x8000
def B.dep : Nat := 0x9000
def B.mbx (c : Nat) : Nat := 0x10000 + c * 0x1000
def B.fwu : Nat := 0x28000
def B.svp : Nat := 0x29000
def B.eth : Nat := 0x30000
def B.ing : Nat := 0x40000
def B.flow (slot : Nat) : Nat := 0x48000 + slot / 4 * 0x1000
def B.otg : Nat := 0x50000
def B.map : Nat := 0x60000
def B.cmp : Nat := 0x70000
def B.layer (k : Nat) : Nat := 0x71000 + k / 2 * 0x1000
def B.spire : Nat := 0x79000
def B.col : Nat := 0x80000
def B.klc : Nat := 0x90000
def B.lnk (p : Nat) : Nat := 0xA0000 + p * 0x1000
def B.lnl (l : Nat) : Nat := 0xB0000 + l * 0x1000
def B.lne (p : Nat) : Nat := 0xC0000 + p * 0x1000
def B.cor : Nat := 0xD0000
def B.scn : Nat := 0xE0000
def B.rai : Nat := 0xF0000
def B.lfm : Nat := 0x100000
def B.mem (c : Nat) : Nat := 0x110000 + c * 0x1000
def B.par : Nat := 0x120000
def B.que : Nat := 0x140000
def B.ten : Nat := 0x150000
def B.rdn : Nat := 0x160000
def B.clu : Nat := 0x170000

/-! ### The common page header (Tables 3-1 to 3-4D), for the page at base `b` -/

/-- The pages whose EN resets to 1 (R70). -/
def enReset (b : Nat) : Nat :=
  if [0x0, 0x1000, 0x2000, 0x3000, 0x4000, 0x8000, 0x29000].contains b then 1 else 0

def R.PG.EN (b : Nat) : Fld := ⟨b + 0x8, 0, 1, enReset b⟩
def R.PG.COMMIT (b : Nat) : Fld := ⟨b + 0x8, 2, 1, 0⟩
def R.PG.FREEZE (b : Nat) : Fld := ⟨b + 0x8, 3, 1, 0⟩
def R.PG.CGRP (b : Nat) : Fld := ⟨b + 0x8, 8, 4, 0⟩
def R.PG.BUSY (b : Nat) : Fld := ⟨b + 0xC, 0, 1, 0⟩
def R.PG.COMMIT_PENDING (b : Nat) : Fld := ⟨b + 0xC, 1, 1, 0⟩
def R.PG.FAULT (b : Nat) : Fld := ⟨b + 0xC, 2, 1, 0⟩
def R.PG.POISON_SEEN (b : Nat) : Fld := ⟨b + 0xC, 3, 1, 0⟩
def R.PG.FROZEN (b : Nat) : Fld := ⟨b + 0xC, 4, 1, 0⟩
def R.PG.HW_FREEZE (b : Nat) : Fld := ⟨b + 0xC, 5, 1, 0⟩
def R.PG.EVT_EN (b : Nat) : Fld := ⟨b + 0x14, 0, 32, 0⟩
def R.PG.EVT_PEND (b : Nat) : Fld := ⟨b + 0x18, 0, 32, 0⟩
def R.PG.RT_TENANT (b : Nat) : Fld := ⟨b + 0x20, 0, 4, 0⟩
def R.PG.RT_VECTOR (b : Nat) : Fld := ⟨b + 0x20, 8, 8, 0⟩
def R.PG.RT_HOST (b : Nat) : Fld := ⟨b + 0x20, 16, 1, 0⟩
def R.PG.RT_MC (b : Nat) : Fld := ⟨b + 0x20, 17, 1, 1⟩
def R.PG.RT_PIN (b : Nat) : Fld := ⟨b + 0x20, 18, 1, 0⟩
def R.PG.RT_LINE (b : Nat) : Fld := ⟨b + 0x20, 19, 1, 0⟩
def R.PG.ERR_CODE (b : Nat) : Fld := ⟨b + 0x24, 0, 8, 0⟩
def R.PG.ERR_SOURCE (b : Nat) : Fld := ⟨b + 0x24, 8, 8, 0⟩
def R.PG.ERR_COUNT (b : Nat) : Fld := ⟨b + 0x24, 16, 8, 0⟩
def R.PG.ERR_OVERFLOW (b : Nat) : Fld := ⟨b + 0x24, 30, 1, 0⟩
def R.PG.ERR_VALID (b : Nat) : Fld := ⟨b + 0x24, 31, 1, 0⟩
def R.PG.ERR_ADDR_LO (b : Nat) : Fld := ⟨b + 0x28, 0, 32, 0⟩
def R.PG.ERR_ADDR_HI (b : Nat) : Fld := ⟨b + 0x2C, 0, 32, 0⟩

/-! ### Outputs, events and errors -/

/-- Bits `lo` to `hi`. -/
def bitRange (lo hi : Nat) : Nat := 2 ^ (hi + 1) - 2 ^ lo

/-- The block event bits that the event table of a block defines (R81); its other bits are reserved. -/
def blockEvents : PageKind → Nat
  | .rck => bitRange 8 8 | .pwr => bitRange 8 9 | .hkt => bitRange 8 14 | .cal => bitRange 8 9 | .tim => bitRange 8 21
  | .dep => bitRange 8 15 + bitRange 24 28 | .mbx => bitRange 8 13 | .fwu => bitRange 8 13 | .svp => bitRange 8 10
  | .eth => bitRange 8 19 | .ing => bitRange 8 11 | .ingFlow => bitRange 8 31 | .otg => bitRange 8 12 | .map => bitRange 8 11
  | .cmp => bitRange 8 8 | .cmpLayer => bitRange 8 11 | .cmpSpire => bitRange 8 9 | .col => bitRange 8 9 | .klc => bitRange 8 11
  | .lnk => bitRange 8 16 | .lnl => bitRange 8 11 | .lne => bitRange 8 19 | .cor => bitRange 8 14 | .scn => bitRange 8 15
  | .rai => bitRange 8 13 | .lfm => bitRange 8 13 | .mem => bitRange 8 17 | .par => bitRange 8 13 | .que => bitRange 8 11
  | .ten => bitRange 8 11 | .rdn => bitRange 8 14 | .clu => bitRange 8 17 | .idn => 0 | .queCtx => 0

/-- The event bits of the page at base `b` that exist: the common ones (Table 3-4B) and the block's; the rest are reserved
and ignore writes (R6). -/
def evMask (b : Nat) : Nat :=
  match pageAt b with
  | some (k, _) => 0x1F + blockEvents k
  | none => 0

/-- The module sends or drives `o`. -/
def State.emit (s : State) (o : Out) : State := { s with out := s.out ++ [o] }

/-- What the page signals on: EVT_PEND AND EVT_EN (R82). -/
def State.pendEn (s : State) (b : Nat) : Nat := s.get (R.PG.EVT_PEND b) &&& s.get (R.PG.EVT_EN b)

/-- INT_N is asserted while a page with PIN set signals (Table 3-4C). -/
def State.intN (s : State) : Bool :=
  pageRows.any (fun r => (List.range r.2.2).any (fun i =>
    let b := r.2.1 + i * 0x1000
    s.on (R.PG.RT_PIN b) && s.pendEn b != 0))

/-- PF0, or a VF that PF0 has enabled (R439, log entry 128). -/
def State.fnUp (s : State) (fn : Nat) : Bool := fn == 0 || s.que.vfs.contains fn

/-- The function and the vector that the HOST route of the page at `b` signals: the tenant of an MBX page of channels 0 to 15 is that of
the channel; a vector of 32 or more signals nothing, and so does a function that is not enabled (R439, R471, Table 3-4C). -/
def State.hostVector (s : State) (b : Nat) : Option (Nat × Nat) :=
  let fn := if 0x10000 ≤ b && b < 0x20000 then b / 0x1000 - 0x10 else s.get (R.PG.RT_TENANT b)
  if s.role == .sender && s.on (R.PG.RT_HOST b) && s.get (R.PG.RT_VECTOR b) < 32 && s.fnUp fn then some (fn, s.get (R.PG.RT_VECTOR b)) else none

/-- The groups of events of a page that signal on their own: side A and side B of a mailbox (R471). -/
def eventSides (b : Nat) : List Nat := if 0x10000 ≤ b && b < 0x28000 then [0xFFFFC7FF, 0x3800] else [0xFFFFFFFF]

/-- The page at `b` signals for the events of group `g`; side B of a mailbox signals over the MC route alone. -/
def State.signalSide (s : State) (b g : Nat) : State := s.emit (.signal b (if g = 0x3800 then none else s.hostVector b))

/-- Set bits of EVT_PEND; the page signals its route when PEND AND EN leaves zero (R82). -/
def State.pendBits (s : State) (b m : Nat) : State :=
  let s' := s.set (R.PG.EVT_PEND b) (s.get (R.PG.EVT_PEND b) ||| m)
  (eventSides b).foldl (fun u g => if s.pendEn b &&& g == 0 && s'.pendEn b &&& g != 0 then State.signalSide u b g else u) s'

/-- Event `k` of the page at `b` occurs; an inactive page raises no event (R10, R82). -/
def State.ev (s : State) (b k : Nat) : State := if s.live b then s.pendBits b (2 ^ k) else s

/-- Event `k` occurs when `c` holds. -/
def State.evIf (s : State) (c : Bool) (b k : Nat) : State := if c then s.ev b k else s

/-- Record an error in ERR_INFO and ERR_ADDR (R83): the first is kept, later ones only count. -/
def State.err (s : State) (b code source addr : Nat) : State :=
  if !s.live b then s
  else
    let s := s.set (R.PG.ERR_COUNT b) (min (s.get (R.PG.ERR_COUNT b) + 1) 255)
    if s.on (R.PG.ERR_VALID b) then s.set (R.PG.ERR_OVERFLOW b) 1
    else
      let s := (s.set (R.PG.ERR_VALID b) 1).set (R.PG.ERR_CODE b) code
      let s := (s.set (R.PG.ERR_SOURCE b) source).set64 (R.PG.ERR_ADDR_LO b) (R.PG.ERR_ADDR_HI b) addr
      s.ev b Ev.PG.ERR_LOGGED

/-- Clear ERR_INFO and ERR_ADDR (Table 3-4D). -/
def State.errClear (s : State) (b : Nat) : State :=
  let s := ((s.set (R.PG.ERR_VALID b) 0).set (R.PG.ERR_OVERFLOW b) 0).set (R.PG.ERR_COUNT b) 0
  ((s.set (R.PG.ERR_CODE b) 0).set (R.PG.ERR_SOURCE b) 0).set64 (R.PG.ERR_ADDR_LO b) (R.PG.ERR_ADDR_HI b) 0

/-- Set or clear PG_STAT.FAULT; FAULT is raised when it rises (Table 3-4B). -/
def State.fault (s : State) (b : Nat) (c : Bool) : State :=
  let was := s.on (R.PG.FAULT b)
  (s.set (R.PG.FAULT b) (bit c)).evIf (c && !was) b Ev.PG.FAULT

/-- The block consumes poisoned data: POISON_SEEN, the POISON event and error code 0x01 (Tables 3-3, 3-4B, 3-4E), and the bit of a
tile's next telemetry record (Table 9-8). -/
def State.poison (s : State) (b source addr : Nat) : State :=
  let s := ((s.set (R.PG.POISON_SEEN b) 1).ev b Ev.PG.POISON).err b 0x01 source addr
  { s with line := { s.line with poison := true } }

/-- Whether the block does its work: enabled (R70). -/
def State.enabled (s : State) (b : Nat) : Bool := s.on (R.PG.EN b)

/-- Whether the block is frozen, by software or by itself (R72). -/
def State.frozen (s : State) (b : Nat) : Bool := s.on (R.PG.FREEZE b) || s.on (R.PG.HW_FREEZE b)

/-- Whether the block works now: active, enabled and not frozen. -/
def State.works (s : State) (b : Nat) : Bool := s.live b && s.enabled b && !s.frozen b

/-- Ethernet port `p` exists in the selected arrangement (R126). -/
def State.ethExists (s : State) (p : Nat) : Bool := p < (if s.get R.ETH.ETH_CFG.MODE = 0 then 4 else 2)

/-! ### Shadow transfer (R76 to R80) -/

/-- The key range of the page at base `b`. -/
def inPage (b k : Nat) : Bool := b * 32 ≤ k && k < (b + 0x1000) * 32

/-- The rows of a block's registers. -/
def rowsOf : PageKind → List RegRow
  | .idn => rows_idn | .rck => rows_rck | .pwr => rows_pwr | .hkt => rows_hkt | .cal => rows_cal | .tim => rows_tim
  | .dep => rows_dep | .mbx => rows_mbx | .fwu => rows_fwu | .svp => rows_svp | .eth => rows_eth | .ing => rows_ing
  | .ingFlow => rows_ingFlow | .otg => rows_otg | .map => rows_map | .cmp => rows_cmp | .cmpLayer => rows_cmpLayer
  | .cmpSpire => rows_cmpSpire | .col => rows_col | .klc => rows_klc | .lnk => rows_lnk | .lnl => rows_lnl
  | .lne => rows_lne | .cor => rows_cor | .scn => rows_scn | .rai => rows_rai | .lfm => rows_lfm | .mem => rows_mem
  | .par => rows_par | .que => rows_que | .ten => rows_ten | .rdn => rows_rdn | .clu => rows_clu | .queCtx => rows_queCtx

/-- The row of a block's table that holds offset `off`, with the copy's index. -/
def rowAt (k : PageKind) (off : Nat) : Option (RegRow × Nat) :=
  match (rowsOf k).find? (fun r => r.off ≤ off && off < r.off + r.count * r.stride && (off - r.off) % r.stride == 0) with
  | some r => some (r, (off - r.off) / r.stride)
  | none => none

/-- The access code of the field whose key is `k` in a page of block `kind` at base `b`. -/
def accOf (kind : PageKind) (b k : Nat) : Option Acc :=
  match rowAt kind (k / 32 - b) with
  | some (r, _) => (r.fields.find? (fun f => f.lsb == k % 32)).map (·.acc)
  | none => none

/-- Copy every staged shadow value of the page at `b` into force. -/
def State.transfer (s : State) (b : Nat) : State :=
  match pageAt b with
  | none => s
  | some (k, _) =>
    let kept := s.force.filter (fun e => inPage b e.1 && !(accOf k b e.1 == some .rws))
    { s with force := kept.foldl (fun l e => putD l e.1 e.2 (2 ^ 32)) (s.force.filter (fun e => e.1 < b * 32) ++
        s.regs.filter (fun e => inPage b e.1 && accOf k b e.1 == some .rws) ++
        s.force.filter (fun e => (b + 0x1000) * 32 ≤ e.1)) }

/-- Arm a shadow transfer (R77). -/
def State.armCommit (s : State) (b : Nat) : State := (s.set (R.PG.COMMIT b) 1).set (R.PG.COMMIT_PENDING b) 1

/-- End an armed commit without saying how it ended. -/
def State.commitEnd (s : State) (b : Nat) : State :=
  (s.set (R.PG.COMMIT b) 0).set (R.PG.COMMIT_PENDING b) 0

/-- A shadow transfer takes place: COMMIT and COMMIT_PENDING clear and COMMIT_DONE is raised (R77). -/
def State.commitDone (s : State) (b : Nat) : State := ((s.transfer b).commitEnd b).ev b Ev.PG.COMMIT_DONE

/-- A commit is refused: nothing transfers, code 0x04 is recorded and COMMIT_REFUSED raised (R79). -/
def State.commitRefused (s : State) (b : Nat) : State :=
  ((s.commitEnd b).ev b Ev.PG.COMMIT_REFUSED).err b 0x04 0 0

/-- Whether a commit of the page at `b` is armed and may take place now (R72). -/
def State.armed (s : State) (b : Nat) : Bool := s.on (R.PG.COMMIT b) && !s.frozen b

/-! ### Clearing registers -/

/-- Return every block register of the page at `b` to its reset value, except those that `keep` names by key (R71). -/
def State.clearPage (s : State) (b : Nat) (keep : Nat → Bool) : State :=
  { s with
    regs := s.regs.filter (fun e => !(inPage b e.1 && (b + 0x100) * 32 ≤ e.1) || keep e.1)
    force := s.force.filter (fun e => !inPage b e.1 || keep e.1) }

/-! ### Free values and time -/

/-- The counter moves to the command's time, never backwards (R89). -/
def State.tick (s : State) (t : Nat) : State := { s with frc := max s.frc t }

/-- Draw the next free value's index. -/
def State.draw (s : State) : State := { s with fresh := s.fresh + 1 }

/-- Draw `n` free values at once. -/
def State.drawN (s : State) (n : Nat) : State := { s with fresh := s.fresh + n }

/-- Apply `f` `n` times. -/
def iter (n : Nat) (f : State → State) (s : State) : State := Nat.rec s (fun _ r => f r) n

/-- Fold a state change over the numbers below `n`, in ascending order. -/
def State.forN (s : State) (n : Nat) (f : State → Nat → State) : State := (List.range n).foldl f s

/-! ### The frame around a command -/

/-- A command on a running die: held in reset or without power nothing happens; after a sag the state is undefined
(R376). -/
def run (f : State → State) (s : State) : Host.Outcome State Fault Refusal :=
  match s.power with
  | .running => .next (f s)
  | .sagged => .fault .undefinedAfterSag
  | .held => .next s
  | .hot => .next s
  | .off => .next s

/-- The same for a command of one role only: in the other role the units it acts on are held in reset (R9) and nothing
happens. -/
def runIn (r : Role) (f : State → State) (s : State) : Host.Outcome State Fault Refusal :=
  run (fun s => if s.role = r then f s else s) s

end Sys2Proof.Machine
end

