-- ==== Sys2Proof/Machine/Time.lean ====
section
/-!
DEFINITION. Wall time and the frame schedule (R89 to R98, R107 to R114): the arithmetic of domains, residual, departure
and view times, and the board's launch times.
-/
namespace Sys2Proof.Machine

/-- `n / d` rounded to the nearest integer, halves away from zero (R585). -/
def roundDiv (n : Int) (d : Nat) : Int :=
  if 0 ≤ n then (2 * n + d) / (2 * d) else -((2 * (-n) + d) / (2 * d))

/-- Nanoseconds as 2^-16 ns. -/
def nsU (n : Int) : Int := n * 65536

/-- Microseconds as 2^-16 ns. -/
def usU (n : Int) : Int := n * 65536000

/-- Domain `d` of the time unit. -/
def State.dom (s : State) (d : Nat) : Domain := if d = 0 then s.tim.dom0 else s.tim.dom1

/-- Replace domain `d`. -/
def State.setDom (s : State) (d : Nat) (x : Domain) : State :=
  { s with tim := if d = 0 then { s.tim with dom0 := x } else { s.tim with dom1 := x } }

/-- T_d at the counter value `f16`, in 1/16 cycles (R90, R99), in 2^-16 ns to the nearest unit. -/
def Domain.timeAt (x : Domain) (f16 : Nat) : Int :=
  x.offset + roundDiv (((f16 : Int) - 16 * x.anchor) * 131072 * (2 ^ 40 + x.rho)) (48 * 2 ^ 40)

/-- Move the domain's anchor to counter value `f` without moving its time (R90). -/
def Domain.rebase (x : Domain) (f : Nat) : Domain := { x with offset := x.timeAt (16 * f), anchor := f }

/-- The wall domain in use. -/
def State.wallDom (s : State) : Nat := s.get R.TIM.TIM_STAT.WALL_DOM

/-- A numeric field acts on the nearest end of its range (R586). -/
def clampN (lo hi v : Nat) : Nat := max lo (min hi v)

/-- SLEW_MAX in ns per second, 1 to 10,000. -/
def State.slewMax (s : State) : Nat := clampN 1 10000 (s.get R.TIM.SLEW_MAX.V)

/-- What SLEW_MAX allows over `cycles` of the time clock, in 2^-16 ns. -/
def State.slewBound (s : State) (cycles : Nat) : Nat := s.slewMax * 65536 * cycles / 1500000000

/-- The switch residual now: it has decayed toward 0 by an amount the spec only bounds by SLEW_MAX (R98). -/
def State.residualAt (s : State) (f : Nat) : Int :=
  let left := s.tim.residual.natAbs - min (Config.slewDecay s.tim.residual (f - s.tim.resAt)) (s.slewBound (f - s.tim.resAt))
  if 0 ≤ s.tim.residual then left else -left

/-- Wall time at counter value `f`, in 2^-16 ns (R91). Before the wall domain first leaves LISTEN it is FRC × 2/3 ns
(R105), which is what a domain with anchor, offset and rate 0 gives. -/
def State.wallAt (s : State) (f : Nat) : Int := (s.dom s.wallDom).timeAt (16 * f) + s.residualAt f

/-- Wall time now. -/
def State.wall (s : State) : Int := s.wallAt s.frc

/-- Whether TIME_VALID is 1. -/
def State.timeValid (s : State) : Bool := s.on R.TIM.TIM_STAT.TIME_VALID

/-- The cycle of the time clock in which wall time reaches `w`, counted from now. -/
def State.cycleOf (s : State) (w : Int) : Int := (w - s.wall) * 3 / 131072

/-! ### The frame schedule -/

/-- TF_NUM and TF_DEN of Table 4-8; reserved codes never come into force and give the row of 60 Hz. -/
def rateFrac (r : Nat) : Nat × Nat :=
  [ (125125000, 3), (125000000, 3), (40000000, 1), (100100000, 3), (100000000, 3), (62562500, 3), (62500000, 3),
    (20000000, 1), (50050000, 3), (50000000, 3), (10000000, 1), (25025000, 3), (25000000, 3) ].getD r (50000000, 3)

/-- The frame period of a base rate code in 2^-16 ns, to the nearest unit. -/
def periodU (r : Nat) : Int := roundDiv ((rateFrac r).1 * 65536) (rateFrac r).2

/-- T_n under a schedule (R107), rounded to 2^-16 ns. -/
def Sched.at (c : Sched) (n : Nat) : Int :=
  c.t0 + roundDiv (((n : Int) - c.n0) * (rateFrac c.rate).1 * 65536) (rateFrac c.rate).2

/-- The pending schedule (R106): one that was received or that TICKIN has confirmed, or in the Sender role that of the
earliest armed SCHEDULE entry, which begins at the time that the schedule in force gives its N0. An armed EPOCH_FLIP is not announced so (DESIGN CHOICE, log entry
111). -/
def State.pending? (s : State) : Option Sched :=
  match s.tim.pend with
  | some p => some p
  | none =>
    let l := (s.dep.board.filter (fun e => e.2.state == .armed && e.2.action == 3)).map (·.2.time)
    match l, s.tim.sched with
    | n :: r, some c =>
      let n := r.foldl min n
      some ⟨n, c.at n, s.get R.TIM.RATE_NEXT.RATE, [0, 1, 2].map (fun i => s.get (R.DEP.VPHASE.V i))⟩
    | _, _ => none

/-- The schedule that departure `n` follows: the pending one from its N0. -/
def State.schedFor (s : State) (n : Nat) : Option Sched :=
  match s.pending? with
  | some p => if p.n0 ≤ n then some p else s.tim.sched
  | none => s.tim.sched

/-- T_n, where a schedule exists. -/
def State.depTime (s : State) (n : Nat) : Option Int := (s.schedFor n).map (·.at n)

/-- The time of view `k` of frame `n` with `v` views (R114). -/
def Sched.viewAt (c : Sched) (v n k : Nat) : Int :=
  if k = 0 then c.at n
  else
    let p := c.vphase.getD (k - 1) 0
    if p = 0 then c.at n + roundDiv ((k : Int) * (rateFrac c.rate).1 * 65536) ((rateFrac c.rate).2 * v)
    else c.at n + nsU p

/-- Whether consecutive view departures, and the last one and the next frame departure, are at least 1/240 s apart
(R114), compared exactly in units of 1/(3 v) ns. -/
def viewSpacingOk (rate : Nat) (vphase : List Nat) (v : Nat) : Bool :=
  let num := (rateFrac rate).1
  let den := (rateFrac rate).2
  let pos (k : Nat) : Nat :=
    if k = 0 then 0
    else if vphase.getD (k - 1) 0 = 0 then k * num * (3 / den)
    else vphase.getD (k - 1) 0 * 3 * v
  let edges := (List.range v).map pos ++ [num * v * (3 / den)]
  (edges.zip (edges.drop 1)).all (fun e => e.1 + v * 12500000 ≤ e.2)

/-- The number of departures of a schedule, from `from_` on, whose time lies at or before `w`. -/
def Sched.countTo (c : Sched) (from_ : Nat) (w : Int) : Nat :=
  let (num, den) := rateFrac c.rate
  -- the largest n with (n - N0) × NUM × 65536 / DEN ≤ w - T0, adjusted by one either way for the rounding of T_n
  let q := (w - c.t0) * den / (num * 65536) + c.n0
  let n := if c.at (q + 1).toNat ≤ w && 0 ≤ q + 1 then q + 1 else if c.at q.toNat ≤ w then q else q - 1
  if (from_ : Int) ≤ n then (n - from_ + 1).toNat else 0

/-! ### The board -/

/-- Entry `i` of the board; an unlisted one is FREE. -/
def State.entry (s : State) (i : Nat) : Entry :=
  match s.dep.board.find? (fun e => e.1 == i) with
  | some e => e.2
  | none => ⟨0, 0, 0, 0, 0, 0, .free⟩

/-- Put an entry on a board list, indexes rising. -/
def putEntry : List (Nat × Entry) → Nat → Entry → List (Nat × Entry)
  | [], i, e => [(i, e)]
  | (j, x) :: r, i, e => if i < j then (i, e) :: (j, x) :: r else if i = j then (i, e) :: r else (j, x) :: putEntry r i e

/-- Store entry `i`. -/
def State.setEntry (s : State) (i : Nat) (e : Entry) : State :=
  { s with dep := { s.dep with board := putEntry s.dep.board i e } }

/-- The launch time of an entry (R115), where it is known. -/
def State.launchTime (s : State) (e : Entry) : Option Int :=
  if e.form = 0 then some (nsU e.time) else (s.depTime e.time).map (· + nsU e.ofs)

/-- The armed entries with their indexes. -/
def State.armedEntries (s : State) : List (Nat × Entry) := s.dep.board.filter (fun e => e.2.state == .armed)

/-- The number of armed entries. -/
def State.armedCount (s : State) : Nat := s.armedEntries.length

/-- The place of an action in the order of one instant (R118). -/
def actionRank (a : Nat) : Nat := [9, 4, 3, 1, 6, 5, 0, 7, 8].getD a 9

/-- Sort key order of launches: cycle, then action rank, then index (R118). -/
def launchBefore (a b : Int × Nat × Nat) : Bool :=
  a.1 < b.1 || (a.1 == b.1 && (a.2.1 < b.2.1 || (a.2.1 == b.2.1 && a.2.2 ≤ b.2.2)))

/-- Insert into a launch list. -/
def insertLaunch (x : Int × Nat × Nat) : List (Int × Nat × Nat) → List (Int × Nat × Nat)
  | [] => [x]
  | y :: r => if launchBefore x y then x :: y :: r else y :: insertLaunch x r

/-- The armed entries whose launch time lies after `w0` and not after `w1`, in launch order: (cycle, rank, index). -/
def State.dueBetween (s : State) (w0 w1 : Int) : List (Int × Nat × Nat) :=
  s.armedEntries.foldr (fun e l =>
    match s.launchTime e.2 with
    | some t => if w0 < t && t ≤ w1 then insertLaunch (s.cycleOf t, actionRank e.2.action, e.1) l else l
    | none => l) []

/-- The index of the next entry to launch, 0 when none is armed with a known time (DEP_STAT.NEXT_IDX). -/
def State.nextIdx (s : State) : Nat :=
  match s.armedEntries.foldr (fun e l =>
    match s.launchTime e.2 with
    | some t => insertLaunch (s.cycleOf t, actionRank e.2.action, e.1) l
    | none => l) [] with
  | e :: _ => e.2.2
  | [] => 0

/-- The views of the mode word in force. -/
def State.views (s : State) : Nat := s.get R.DEP.MODE_CUR.VIEWS + 1

/-- What this sender originates carries SRC_RELIEF (R473): in SYNCING and READY, and in OFF with ROLE = RELIEF. -/
def State.srcRelief (s : State) : Bool :=
  let st := s.get R.RDN.RDN_STAT.STATE
  st == 2 || st == 3 || (st == 0 && s.on R.RDN.RDN_CFG.ROLE)

end Sys2Proof.Machine
end

