-- ==== Sys2Proof/Machine/Memory.lean ====
section
/-!
DEFINITION. DRAM as its users see it (R409 to R430): the address map, the mirrored tile region, the parity mark, error
responses and the PAR log. An 8-byte word is the unit that carries a mark.
-/
namespace Sys2Proof.Machine

/-- Replace entry `c` of a list. -/
def putAt {α : Type} (l : List α) (c : Nat) (v : α) : List α := l.mapIdx (fun i x => if i = c then v else x)

/-! ### Channels -/

/-- Channel states of Table 14-2. -/
def Ch.reset : Nat := 0
def Ch.train : Nat := 1
def Ch.fill : Nat := 2
def Ch.ready : Nat := 3
def Ch.degraded : Nat := 4
def Ch.selfRefresh : Nat := 5
def Ch.offline : Nat := 6

/-- State of channel `c`. -/
def State.chState (s : State) (c : Nat) : Nat := s.get (R.MEM.CH_STAT.STATE c)

/-- Set the state of channel `c`. -/
def State.setCh (s : State) (c v : Nat) : State := s.set (R.MEM.CH_STAT.STATE c) v

/-- Channel `c` is frozen after an error in its command path (R427). -/
def State.chFrozen (s : State) (c : Nat) : Bool := s.on (R.PG.HW_FREEZE (B.mem c))

/-- Whether channel `c` serves requests: in TRAIN and FILL an access waits and is then served (R414). -/
def State.chServes (s : State) (c : Nat) : Bool :=
  !s.chFrozen c && [Ch.train, Ch.fill, Ch.ready, Ch.degraded].contains (s.chState c)

/-- The end of the tile region (R410). -/
def tileEnd : Nat := 0xA000000

/-- The module is a tile. -/
def State.isTile (s : State) : Bool := s.role == .tile

/-- The copies of the tile region that serve it: the channels that serve, without those that wait for a resilver from
another one. -/
def State.copies (s : State) : List Nat :=
  let l := [0, 1].filter s.chServes
  let g := l.filter (fun c => !s.mem.resilver.contains c)
  if g = [] then l else g

/-- Channel `c` of a tile's pair keeps the tile region: it has contents and waits for no resilver (R417 to R421). -/
def State.keeps (s : State) (c : Nat) : Bool :=
  [Ch.train, Ch.fill, Ch.ready, Ch.degraded, Ch.selfRefresh].contains (s.chState c) && !s.mem.resilver.contains c

/-! ### Routing of an address (Table 14-1, Table 14-4) -/

/-- How a request to an address is served: from one of some copies, not at all (code and page), or held by a frozen channel. -/
inductive Route where
  | copies (l : List Nat)
  | refuse (code page : Nat)
  | hold (ch : Nat)
deriving DecidableEq, Repr

/-- The response of a channel that does not serve. -/
def State.chRefusal (s : State) (c : Nat) : Route :=
  if s.chFrozen c then .hold c
  else if s.chState c = Ch.offline then .refuse 0x12 c
  else .refuse 0x13 c

/-- Channel `c` of a tile's pair is unavailable (R419, R427). -/
def State.chGone (s : State) (c : Nat) : Bool := s.chState c == Ch.offline || s.chState c == Ch.reset || s.chFrozen c

/-- The tile runs on one channel of its pair alone: one is gone, or has come back and has no copy yet (R418, R419). -/
def State.oneChannel (s : State) : Bool := [0, 1].any (fun c => s.chGone c || s.mem.resilver.contains c)

/-- How an address is served. The addresses of the tile region are those of channel 0 (Table 14-1); where no copy serves, channel 0
answers, unless only a frozen channel 1 can still hold the region. -/
def State.route (s : State) (a : Nat) : Route :=
  if 0x200000000 ≤ a then .refuse 0x11 0
  else
    let c := a / 0x80000000
    if 0x70000000 ≤ a % 0x80000000 then .refuse 0x11 c
    else if s.isTile && 0x80000000 ≤ a && a < 0x80000000 + tileEnd then .refuse 0x11 1
    else if s.isTile && a < tileEnd then
      match s.copies with
      | [] => s.chRefusal (if !s.chFrozen 0 && s.chState 0 == Ch.offline && s.chFrozen 1 then 1 else 0)
      | l => .copies l
    else if s.chServes c then .copies [c]
    else s.chRefusal c

/-! ### Errors and the log -/

/-- Write one PAR log entry (R438). -/
def State.parLog (s : State) (addr port ch sram array code bytes : Nat) : State :=
  let k := s.get R.PAR.LOG_STAT.NEXT
  let w := (s.wall / 65536).toNat
  let s := ((s.set (R.LOG.LOG_ADDR_LO.ADDR k) addr).set (R.LOG.LOG_INFO.ADDR_HI k) (addr / 2 ^ 32)).set (R.LOG.LOG_INFO.PORT k) port
  let s := ((s.set (R.LOG.LOG_INFO.CHANNEL k) ch).set (R.LOG.LOG_INFO.SRAM k) sram).set (R.LOG.LOG_INFO.ARRAY k) array
  let s := ((s.set (R.LOG.LOG_INFO.CODE k) code).set (R.LOG.LOG_INFO.BYTES k) bytes).set64 (R.LOG.LOG_TIME_LO.NS k) (R.LOG.LOG_TIME_HI.NS k) w
  let s := if s.get R.PAR.LOG_STAT.TOTAL ≥ 16 then s.set R.PAR.LOG_STAT.WRAPPED 1 else s
  (s.set R.PAR.LOG_STAT.NEXT ((k + 1) % 16)).count R.PAR.LOG_STAT.TOTAL

/-- A data error of the controller (R426). -/
def State.dramErr (s : State) (page code port addr bytes : Nat) : State :=
  (s.err (B.mem page) code port addr).parLog addr port page 0 0 code bytes

/-- Drop the contents of a channel: they are lost (R417, R421). The tile region survives while another copy holds it. -/
def State.dropChannel (s : State) (c : Nat) : State :=
  let other := s.isTile && c < 2 && s.keeps (1 - c)
  let lost (a : Nat) : Bool :=
    if s.isTile && a < tileEnd then c < 2 && !other else a / 0x80000000 == c
  { s with mem := { s.mem with
      dram := s.mem.dram.filter (fun e => !lost e.1)
      par := s.mem.par.filter (fun e => !lost (e.1 / 2 * 8) && !(c < 2 && s.isTile && e.1 / 2 * 8 < tileEnd && e.1 % 2 == c)) } }

/-- MIRROR_OK falls (R419). -/
def State.mirrorLost (s : State) : State :=
  if s.isTile && s.on (R.MEM.CH_STAT.MIRROR_OK 0) then
    (s.set (R.MEM.CH_STAT.MIRROR_OK 0) 0).ev (B.mem 0) Ev.MEM.MIRROR_LOST
  else s

/-- A channel enters OFFLINE (R417). -/
def State.enterOffline (s : State) (c : Nat) : State :=
  let s := s.dropChannel c
  let s := ((s.setCh c Ch.offline).set (R.MEM.CH_STAT.FILLED c) 0).ev (B.mem c) Ev.MEM.OFFLINE
  let s := { s with mem := { s.mem with
    retraining := s.mem.retraining.filter (· != c), wanted := s.mem.wanted.filter (· != c)
    toSelfRefresh := s.mem.toSelfRefresh.filter (· != c), queues := putAt s.mem.queues c []
    resilver := s.mem.resilver.filter (· != c) } }
  if c < 2 then s.mirrorLost else s

/-- A new mismatch in a DEGRADED channel counts toward OFFLINE_THR within OFFLINE_WIN (R412). -/
def State.mismatchHit (s : State) (c : Nat) : State :=
  if s.chState c = Ch.degraded then
    let win := max 1 (s.get (R.MEM.OFFLINE_CFG.WIN c)) * 1500000
    let hits := (c, s.frc) :: s.mem.hits.filter (fun h => h.1 != c || s.frc ≤ h.2 + win)
    let s := { s with mem := { s.mem with hits := hits } }
    if max 1 (s.get (R.MEM.OFFLINE_CFG.THR c)) ≤ (hits.filter (·.1 == c)).length then s.enterOffline c else s
  else s

/-! ### Reading and writing -/

/-- The key of a word's parity mask in copy `c`. -/
def parKey (a c : Nat) : Nat := a / 8 * 2 + (if c = 1 then 1 else 0)

/-- The parity mask of the word at `a` in copy `c`; outside the tile region there is one copy, number 0. -/
def State.parMask (s : State) (a c : Nat) : Nat :=
  lookupD s.mem.par (parKey a (if s.isTile && a < tileEnd then c else 0)) 0

/-- Set a parity mask. -/
def State.setPar (s : State) (a c m : Nat) : State :=
  { s with mem := { s.mem with par := putD s.mem.par (parKey a (if s.isTile && a < tileEnd then c else 0)) m 0 } }

/-- The data of the aligned word at `a`. -/
def State.word8 (s : State) (a : Nat) : Nat := readLE zeroB s.mem.dram (a / 8 * 8) 8

/-- The channels in `l` accept a write of `n` bytes at `a` into their queues of 64 entries; the oldest entry makes room (R425). -/
def State.queueWrite (s : State) (l : List Nat) (a n : Nat) : State :=
  { s with mem := { s.mem with queues := s.mem.queues.mapIdx (fun i q => if l.contains i then ((a, n) :: q).take 64 else q) } }

/-- Channels move bytes (R411). -/
def State.moved (s : State) (l : List Nat) (n : Nat) : State :=
  { s with mem := { s.mem with traffic := s.mem.traffic.mapIdx (fun i x => if l.contains i then x + n else x) } }

/-- Which of the serving copies `l` serves a read of address `a`: a free choice, which leaves room for the one whose channel is in a
step of a retraining (R410, R415). -/
def State.readCopy (s : State) (l : List Nat) : Nat := l.getD (Config.choice s.fresh % l.length) 0

/-- The channel in which copy `c` of the word at `a` lies. -/
def State.copyChannel (s : State) (a c : Nat) : Nat := if s.isTile && a < tileEnd then c else a / 0x80000000

/-- The channels that take a write at `a` which the copies `l` serve: in the tile region every one of the pair that serves (R410, R418). -/
def State.writeChannels (s : State) (a : Nat) (l : List Nat) : List Nat :=
  if s.isTile && a < tileEnd then [0, 1].filter s.chServes else l

/-- Port `port` reads the aligned 8-byte word at `a`: the state after it, the data and the poison mark (R426, R429). A read that a
frozen channel holds ends in the response that SRST gives it, zero data with a mark (R427); its port goes on with that (log
entry 123). -/
def State.dramRead (s : State) (port a : Nat) : State × Nat × Bool :=
  match s.route a with
  | .refuse code page => (s.dramErr page code port a 0, 0, true)
  | .hold c => ({ s with mem := { s.mem with held := s.mem.held ++ [(c, port, a, false)] } }, 0, true)
  | .copies l =>
    let c := s.readCopy l
    let ch := s.copyChannel a c
    let s := (s.draw).moved [ch] 8
    let m := s.parMask a c
    if m = 0 then (s, s.word8 a, false)
    else if m = 255 then (s, s.word8 a, true)
    else if s.isTile && a < tileEnd && s.on R.PAR.PAR_CTRL.SCRUB_EN && l.any (fun o => o != c && s.parMask a o == 0) then
      let s := ((s.setPar a c 0).count R.PAR.MIRROR_FIX_CNT.COUNT).ev B.par Ev.PAR.MIRROR_FIX
      let s := s.parLog a port ch 0 0 0x10 m
      (s.mismatchHit ch, s.word8 a, false)
    else
      let d := s.word8 a
      let s := (s.count R.PAR.DRAM_ERR_CNT.COUNT).ev B.par Ev.PAR.DRAM_PARITY
      ((s.dramErr ch 0x10 port a m).mismatchHit ch, d, true)

/-- The byte lanes of the word at `w` that bytes `a` to `a + n - 1` cover. -/
def laneMask (w a n : Nat) : Nat :=
  ((List.range 8).filter (fun k => a ≤ w + k && w + k < a + n)).foldl (fun m k => m + 2 ^ k) 0

/-- Set the parity of the written lanes of every word touched, in every copy: good, or marked when the data is poisoned. -/
def State.markWrite (s : State) (a n : Nat) (poison : Bool) : State :=
  (List.range ((a + n + 7) / 8 - a / 8)).foldl (fun s i =>
    let w := (a / 8 + i) * 8
    let l := laneMask w a n
    [0, 1].foldl (fun s c =>
      let m := s.parMask w c
      s.setPar w c (if poison then 255 else m &&& (255 - l))) s) s

/-- An armed injection meets a write of `n` bytes at `a` by its port: the mask strikes the check bits of the lanes written, in both copies
of the tile region (R435). -/
def State.injectWrite (s : State) (port a n : Nat) : State :=
  if s.get R.PAR.CHK_CTRL.MODE = 3 && s.on R.PAR.CHK_CTRL.INJ_ARM && !s.on R.PAR.CHK_CTRL.INJ_SRAM &&
      min 7 (s.get R.PAR.CHK_CTRL.INJ_PORT) = port then
    let s := (if s.isTile && a < tileEnd then [0, 1] else [0]).foldl (fun s c =>
      s.setPar a c (s.parMask a c ^^^ (s.get R.PAR.CHK_CTRL.INJ_MASK &&& laneMask (a / 8 * 8) a n))) s
    (s.set R.PAR.CHK_CTRL.INJ_ARM 0).ev B.par Ev.PAR.CHK_INJECTED
  else s

/-- Bytes of one range of Table 14-1 are written at `a` by port `port`, with or without a poison mark. A write into the tile region
lands in both copies. -/
def State.dramPut (s : State) (port a : Nat) (bytes : List Byte) (poison : Bool := false) : State :=
  match s.route a with
  | .refuse code page => s.dramErr page code port a 0
  | .hold c => { s with mem := { s.mem with held := s.mem.held ++ [(c, port, a, true)] } }
  | .copies l =>
    let s := { s with mem := { s.mem with dram := writeBytes zeroB s.mem.dram a bytes } }
    let chs := s.writeChannels a l
    let s := (s.moved chs bytes.length).queueWrite chs a bytes.length
    (s.markWrite a bytes.length poison).injectWrite port a bytes.length

/-- The addresses at which the ranges of Table 14-1 and the tile region end. -/
def rangeEnds : List Nat :=
  [tileEnd, 0x70000000, 0x80000000, 0x80000000 + tileEnd, 0xF0000000, 0x100000000, 0x170000000, 0x180000000, 0x1F0000000, 0x200000000]

/-- Port `port` writes bytes at `a`: a write that runs from one range of Table 14-1 into the next is served in two parts (R409, R426). -/
def State.dramWrite (s : State) (port a : Nat) (bytes : List Byte) (poison : Bool := false) : State :=
  match rangeEnds.find? (fun e => a < e && e < a + bytes.length) with
  | none => s.dramPut port a bytes poison
  | some e => (s.dramPut port a (bytes.take (e - a)) poison).dramPut port e (bytes.drop (e - a)) poison

/-- The `n` low bytes of a number, least significant first. -/
def toBytes : Nat → Nat → List Byte
  | 0, _ => []
  | n + 1, v => BitVec.ofNat 8 v :: toBytes n (v / 256)

/-- Port `port` reads `n` bytes from `a`: the state after it, the bytes, and whether any word carried a mark. -/
def State.dramBytes (s : State) (port a n : Nat) : State × List Byte × Bool :=
  let r := (List.range ((a + n + 7) / 8 - a / 8)).foldl (fun (acc : State × List Byte × Bool) i =>
    let (s, l, p) := acc
    let (s, d, q) := s.dramRead port ((a / 8 + i) * 8)
    (s, l ++ toBytes 8 d, p || q)) (s, [], false)
  (r.1, (r.2.1.drop (a % 8)).take n, r.2.2)

/-- The XOR of a byte's bits (R428). -/
def parityBit (b : Nat) : Nat := ((List.range 8).filter (fun k => bitAt b k)).length % 2

/-- The eight parity bits stored with a word: those of its bytes, inverted where the mask is set. -/
def storedParity (d m : Nat) : Nat :=
  (List.range 8).foldl (fun v k => v + 2 ^ k * ((parityBit (bitsOf d (8 * k) 8) + bitsOf m k 1) % 2)) 0

/-- A new mismatch in on-die SRAM of the block whose page is at `b` (R431). -/
def State.sramError (s : State) (b array ofs bytes : Nat) : State :=
  let s := (s.err b 0x02 array ofs).count R.PAR.SRAM_ERR_CNT.COUNT
  (s.ev B.par Ev.PAR.SRAM_PARITY).parLog ofs 0 0 1 array 0x02 bytes

/-- Whether the SRAM word seen at local address `a` is poisoned. -/
def State.sramPoisoned (s : State) (a : Nat) : Bool := s.mem.sram.contains (a / 8 * 8)

/-- A write to local address `a` leaves a good word. -/
def State.sramWritten (s : State) (a : Nat) : State :=
  { s with mem := { s.mem with sram := s.mem.sram.filter (· != a / 8 * 8) } }

/-- Copy `n` bytes of DRAM from `a` to `b`, word by word, keeping the marks (R430). -/
def State.dramCopy (s : State) (rd wr a b n : Nat) : State :=
  s.forN (n / 8) (fun s i =>
    let (s, d, p) := s.dramRead rd (a + 8 * i)
    s.dramWrite wr (b + 8 * i) (toBytes 8 d) p)

/-- A quotient whose rounding the spec leaves open: the floor, or one more where it is not exact, as free value `k`
decides. -/
def openDiv (k : Nat) (n : Int) (d : Nat) : Int :=
  n / d + (if n % (d : Int) = 0 then 0 else ((Config.choice k % 2 : Nat) : Int))

/-- Channel `c` moves bytes for a fill, a resilver or a test, of which no command tells how many (R414, R418, R421). -/
def State.filling (s : State) (c : Nat) : Bool :=
  s.chState c == Ch.fill || s.get (R.MEM.BIST_STAT.RESULT c) == 1 ||
    (s.isTile && c < 2 && s.chState (1 - c) == Ch.fill && s.mem.resilver.contains (1 - c))

/-- DEMAND of every channel over the frame period that ends, in 0.01 GB/s (R411); the rounding is open, and so is what a fill, a
resilver or a test has moved in the period (log entry 124). -/
def State.showDemand (s : State) : State :=
  let (num, den) := rateFrac (s.get R.TIM.RATE_CUR.RATE)
  let s := s.forN 4 (fun s c =>
    let n := s.mem.traffic.getD c 0 + (if s.filling c then Config.choice s.fresh else 0)
    let s := s.draw
    (s.set (R.MEM.DEMAND.GBPS c) (min 65535 (openDiv s.fresh (n * num : Nat) (den * 10000000)).toNat)).draw)
  { s with mem := { s.mem with traffic := [0, 0, 0, 0] } }

end Sys2Proof.Machine
end

