-- ==== Sys2Proof/Machine/Ingest.lean ====
section
/-!
DEFINITION. Ethernet and ingest (chapter 5): ports, flow slots, admission, merge, frame sync, loss, fill and key, ANC and
the follow flow.
-/
namespace Sys2Proof.Machine

/-! ### Slots -/

/-- Slot `k`. -/
def State.slot (s : State) (k : Nat) : SlotSt := s.ing.slots.getD k {}

/-- Replace slot `k`. -/
def State.setSlot (s : State) (k : Nat) (x : SlotSt) : State :=
  { s with ing := { s.ing with slots := s.ing.slots.mapIdx (fun i y => if i = k then x else y) } }

/-- A video slot (R131). -/
def isVideo (k : Nat) : Bool := k < 16

/-- States of Table 5-3. -/
def Flow.idle : Nat := 0
def Flow.wait : Nat := 1
def Flow.running : Nat := 2
def Flow.degraded : Nat := 3
def Flow.lost : Nat := 4
def Flow.refused : Nat := 5

/-- State of slot `k`. -/
def State.flow (s : State) (k : Nat) : Nat := s.get (R.FLOW.FLOW_STAT.STATE k)

/-- Set the state of slot `k`. -/
def State.setFlow (s : State) (k v : Nat) : State := s.set (R.FLOW.FLOW_STAT.STATE k) v

/-- Event `e` (0 to 5) of slot `k` (Table 5-12). -/
def State.flowEv (s : State) (k e : Nat) : State := s.ev (B.flow k) (8 + 6 * (k % 4) + e)

/-- An error of slot `k` in its flow page. -/
def State.flowErr (s : State) (k code : Nat) : State := s.err (B.flow k) code k 0

/-- The enable of leg 0 (A) or 1 (B). -/
def legEn (k leg : Nat) : Fld := if leg = 0 then R.FLOW.FLOW_CTRL.LEGA_EN k else R.FLOW.FLOW_CTRL.LEGB_EN k

/-- The leg's Ethernet port. -/
def legEth (k leg : Nat) : Fld := if leg = 0 then R.FLOW.LEGA_PORT.ETH k else R.FLOW.LEGB_PORT.ETH k

/-! ### Format and payload (R129, R135) -/

/-- Bits of a sample. -/
def depthBits (d : Nat) : Nat := 8 + 2 * d

/-- Bits per pixel of a slot's format. -/
def State.flowBpp (s : State) (k : Nat) : Nat :=
  let d := depthBits (s.get (R.FLOW.FLOW_FMT.DEPTH k))
  let sm := s.get (R.FLOW.FLOW_FMT.SAMPLING k)
  if sm = 0 then 2 * d else if sm = 3 then d else 3 * d

/-- The declared format of a slot. -/
def State.flowFmt (s : State) (k : Nat) : Fmt :=
  { w := s.get (R.FLOW.FLOW_SIZE.WIDTH k), h := s.get (R.FLOW.FLOW_SIZE.HEIGHT k), sampling := s.get (R.FLOW.FLOW_FMT.SAMPLING k)
    depth := s.get (R.FLOW.FLOW_FMT.DEPTH k), tcs := s.get (R.FLOW.FLOW_FMT.TCS k)
    colorimetry := s.get (R.FLOW.FLOW_FMT.COLORIMETRY k), range := s.get (R.FLOW.FLOW_FMT.RANGE k) }

/-- Pixels per pgroup (PRESUMED: SMPTE ST 2110-20; log entry 31). -/
def pgroup (sampling depth : Nat) : Nat := if sampling = 0 then 2 else if depth = 1 then 4 else if depth = 2 then 2 else 1

/-- The format lies in Table 5-2. An ANC slot uses RATE only. -/
def State.flowFmtOk (s : State) (k : Nat) : Bool :=
  let sm := s.get (R.FLOW.FLOW_FMT.SAMPLING k)
  let d := s.get (R.FLOW.FLOW_FMT.DEPTH k)
  let w := s.get (R.FLOW.FLOW_SIZE.WIDTH k)
  let h := s.get (R.FLOW.FLOW_SIZE.HEIGHT k)
  s.get (R.FLOW.FLOW_FMT.RATE k) ≤ 12 &&
  (!isVideo k || (sm ≤ 3 && d ≤ 2 && s.get (R.FLOW.FLOW_FMT.TCS k) ≤ 3 && s.get (R.FLOW.FLOW_FMT.COLORIMETRY k) ≤ 3 &&
    s.get (R.FLOW.FLOW_FMT.RANGE k) ≤ 2 && s.get (R.FLOW.FLOW_FMT.TP k) ≤ 2 && 16 ≤ w && w ≤ 8192 && 16 ≤ h && h ≤ 4320 &&
    w % pgroup sm d == 0))

/-- Frames in 1,001 s at a base rate code (Table 4-8). -/
def rate1001 (r : Nat) : Nat :=
  [24000, 24024, 25025, 30000, 30030, 48000, 48048, 50050, 60000, 60060, 100100, 120000, 120120].getD r 0

/-- The payload of one leg, in bits per 1,001 s. -/
def State.legLoad (s : State) (k : Nat) : Nat :=
  s.get (R.FLOW.FLOW_SIZE.WIDTH k) * s.get (R.FLOW.FLOW_SIZE.HEIGHT k) * s.flowBpp k * rate1001 (s.get (R.FLOW.FLOW_FMT.RATE k))

/-- The legs that count: those enabled in enabled video slots, with `extra` = (slot, legs) counted as enabled. -/
def State.loadLegs (s : State) (extra : Nat × List Nat) : List (Nat × Nat) :=
  ((List.range 16).map (fun k =>
    ([0, 1].filter (fun l => (s.on (R.FLOW.FLOW_CTRL.EN k) && s.on (legEn k l)) || (extra.1 == k && extra.2.contains l))).map
      (fun l => (k, l)))).foldl (· ++ ·) []

/-- The load of a list of legs. -/
def State.sumLoad (s : State) (l : List (Nat × Nat)) : Nat := l.foldl (fun a e => a + s.legLoad e.1) 0

/-- Code 0x11 or 0x12 of Table 5-4 with some legs more, 0 when both pass. -/
def State.admission (s : State) (k : Nat) (legs : List Nat) : Nat :=
  let l := s.loadLegs (k, legs)
  if !isVideo k then 0
  else if s.sumLoad l > 360000000000 * 1001 then 0x11
  else
    let lim := if s.get R.ETH.ETH_CFG.MODE = 0 then 90000000000 * 1001 else 180000000000 * 1001
    if (List.range 4).any (fun p => s.sumLoad (l.filter (fun e => s.get (legEth e.1 e.2) == p)) > lim) then 0x12 else 0

/-- Show LOAD and PORT_LOAD. -/
def State.showLoad (s : State) : State :=
  let l := s.loadLegs (32, [])
  let g (n : Nat) : Nat := (roundDiv n 10010000000).toNat
  let s := s.set R.ING.LOAD.GBPS (g (s.sumLoad l))
  s.forN 4 (fun s p => s.set (R.ING.PORT_LOAD.GBPS p) (g (s.sumLoad (l.filter (fun e => s.get (legEth e.1 e.2) == p)))))

/-! ### The frame-sync region (R136) -/

/-- Base of the region. -/
def State.fsBase (s : State) : Nat := s.get64 R.ING.FS_BASE_LO.BASE R.ING.FS_BASE_HI.BASE

/-- Size of the region in bytes. -/
def State.fsBytes (s : State) : Nat := s.get R.ING.FS_SIZE.MIB * 1048576

/-- What is allocated: (address, size). -/
def State.fsUsed (s : State) : List (Nat × Nat) :=
  (s.ing.slots.map (fun x => x.bufs.map (fun a => (a, x.size)) ++ x.freeing)).foldl (· ++ ·) []

/-- Bytes of one buffer of slot `k`; an ANC slot has one ring of open size. -/
def State.bufBytes (s : State) (k : Nat) : Nat :=
  if isVideo k then
    (s.get (R.FLOW.FLOW_SIZE.WIDTH k) * s.get (R.FLOW.FLOW_SIZE.HEIGHT k) * s.flowBpp k / 8 + 4095) / 4096 * 4096
  else (Config.ancRing + 1) * 4096

/-- The lowest place of the region, after the end of some allocated block or at its base, where `n` bytes are free. -/
def firstFit (base size n : Nat) (used : List (Nat × Nat)) : Option Nat :=
  let ok (a : Nat) : Bool := base ≤ a && a + n ≤ base + size && used.all (fun u => a + n ≤ u.1 || u.1 + u.2 ≤ a)
  (base :: used.map (fun u => u.1 + u.2)).foldl (fun best a =>
    if ok a then (match best with | some b => some (min a b) | none => some a) else best) none

/-- Allocate `n` blocks of `size` bytes. -/
def allocate (base total size : Nat) : Nat → List (Nat × Nat) → Option (List Nat)
  | 0, _ => some []
  | n + 1, used =>
    match firstFit base total size used with
    | none => none
    | some a => (allocate base total size n ((a, size) :: used)).map (a :: ·)

/-- Show FS_FREE. -/
def State.showFree (s : State) : State :=
  s.set R.ING.FS_FREE.MIB ((s.fsBytes - s.fsUsed.foldl (fun a u => a + u.2) 0) / 1048576)

/-! ### Pairs (R144) -/

/-- A key slot: a video slot with PAIR_EN. -/
def State.isKey (s : State) (k : Nat) : Bool := isVideo k && s.on (R.FLOW.FLOW_CTRL.PAIR_EN k)

/-- The pairing of key slot `k` holds. -/
def State.pairHolds (s : State) (k : Nat) : Bool :=
  let f := s.get (R.FLOW.FLOW_CTRL.PAIR k)
  isVideo f && f != k && !s.isKey f && (List.range 16).all (fun o => o == k || !s.isKey o || s.get (R.FLOW.FLOW_CTRL.PAIR o) != f) &&
  s.get (R.FLOW.FLOW_SIZE.WIDTH k) == s.get (R.FLOW.FLOW_SIZE.WIDTH f) &&
  s.get (R.FLOW.FLOW_SIZE.HEIGHT k) == s.get (R.FLOW.FLOW_SIZE.HEIGHT f) &&
  s.get (R.FLOW.FLOW_FMT.RATE k) == s.get (R.FLOW.FLOW_FMT.RATE f) && [0, 3].contains (s.get (R.FLOW.FLOW_FMT.SAMPLING k))

/-- The other half of an enabled pair that slot `k` belongs to: its fill slot or its key slot. -/
def State.partner (s : State) (k : Nat) : Option Nat :=
  if s.isKey k then some (s.get (R.FLOW.FLOW_CTRL.PAIR k))
  else (List.range 16).find? (fun o => s.isKey o && s.on (R.FLOW.FLOW_CTRL.EN o) && s.get (R.FLOW.FLOW_CTRL.PAIR o) == k && isVideo k)

/-! ### Enable and disable (R134, R135, R148) -/

/-- The first failing enable check of Table 5-4 for slot `k` with the values now in its registers, in the table's order. DESIGN CHOICE
(log entry 113): an ANC slot is never refused with 0x14. -/
def State.enableCode (s : State) (k : Nat) : Nat :=
  let legs := [0, 1].filter (fun l => s.on (legEn k l))
  let adm := s.admission k legs
  if !s.flowFmtOk k then 0x10
  else if adm != 0 then adm
  else if s.isKey k && !s.pairHolds k then 0x14
  else if (allocate s.fsBase s.fsBytes (s.bufBytes k) (if isVideo k then s.get (R.FLOW.FLOW_CTRL.FS_DEPTH k) else 1) s.fsUsed).isNone then 0x16
  else if legs = [] then 0x17
  else 0

/-- FLOW_CTRL.EN is written 1 on a slot that is not enabled. -/
def State.flowEnable (s : State) (k : Nat) : State :=
  let code := s.enableCode k
  if code != 0 then
    (((s.set (R.FLOW.FLOW_CTRL.EN k) 0).setFlow k Flow.refused).flowErr k code).ev B.ing Ev.ING.ADMIT_REFUSED
  else
    let n := if isVideo k then s.get (R.FLOW.FLOW_CTRL.FS_DEPTH k) else 1
    let bufs := (allocate s.fsBase s.fsBytes (s.bufBytes k) n s.fsUsed).getD []
    let old := s.slot k
    let leg : LegSt := { at_ := s.frc }
    let s := s.setSlot k { bufs := bufs, size := s.bufBytes k, freeing := old.freeing, present := old.present
                           picked := old.picked, stale := old.stale, legA := leg, legB := leg }
    let s := s.set64 (R.FLOW.FS_ADDR_LO.ADDR k) (R.FLOW.FS_ADDR_HI.ADDR k) (bufs.getD 0 0)
    (((s.set (R.FLOW.FLOW_CTRL.EN k) 1).setFlow k Flow.wait).showLoad).showFree

/-- FLOW_CTRL.EN is written 0: storing stops at once, the buffers are freed from the next departure. -/
def State.flowDisable (s : State) (k : Nat) : State :=
  let x := s.slot k
  let s := s.setSlot k { x with recv := [], cand := none, newest := none, half := [], bufs := [], size := x.size
                                stale := x.picked.isSome
                                freeing := x.freeing ++ x.bufs.map (fun a => (a, x.size)), legA := {}, legB := {}
                                lastMarker := none, unrec := [], lostLeg := none, tsHist := [], lossCnt := 0 }
  let s := ((s.set (R.FLOW.FLOW_CTRL.EN k) 0).setFlow k Flow.idle).set (R.FLOW.FLOW_STAT.PAIR_WAIT k) 0
  (((s.set (R.FLOW.FLOW_STAT.LEGA_UP k) 0).set (R.FLOW.FLOW_STAT.LEGB_UP k) 0).showLoad).showFree

/-- Leg `l` of a slot. -/
def SlotSt.leg (x : SlotSt) (l : Nat) : LegSt := if l = 0 then x.legA else x.legB

/-- Replace a leg. -/
def SlotSt.setLeg (x : SlotSt) (l : Nat) (g : LegSt) : SlotSt := if l = 0 then { x with legA := g } else { x with legB := g }

/-- LEGA_UP or LEGB_UP. -/
def legUp (k leg : Nat) : Fld := if leg = 0 then R.FLOW.FLOW_STAT.LEGA_UP k else R.FLOW.FLOW_STAT.LEGB_UP k

/-- Leg `l` of slot `k` is enabled or disabled; on a running slot an enable repeats codes 0x11 and 0x12 (R135). DESIGN CHOICE
(log entry 88): LEG_TIMEOUT and FLOW_TIMEOUT of a leg that has delivered nothing yet run from its enable. -/
def State.legWrite (s : State) (k l v : Nat) : State :=
  if s.get (legEn k l) = v then s
  else if v = 0 then
    (((s.setSlot k ((s.slot k).setLeg l {})).set (legEn k l) 0).set (legUp k l) 0).showLoad
  else if s.on (R.FLOW.FLOW_CTRL.EN k) then
    let code := s.admission k [l]
    if code != 0 then (s.flowErr k code).ev B.ing Ev.ING.ADMIT_REFUSED
    else
      let x := s.slot k
      ((s.setSlot k (x.setLeg l { at_ := s.frc })).set (legEn k l) 1).showLoad
  else s.set (legEn k l) 1

/-- The fields of FLOW_CTRL beside the enables (R132, R135). FS_DEPTH and PAIR do not change while EN is 1; an attempt records code
0x13. -/
def State.flowFields (s : State) (k v : Nat) : State :=
  let on := s.on (R.FLOW.FLOW_CTRL.EN k)
  let d := bitsOf v 3 3
  let d := if isVideo k && 2 ≤ d && d ≤ 4 then d else s.get (R.FLOW.FLOW_CTRL.FS_DEPTH k)
  let locked := on && (d != s.get (R.FLOW.FLOW_CTRL.FS_DEPTH k) || bitsOf v 16 5 != s.get (R.FLOW.FLOW_CTRL.PAIR k))
  let s := if locked then s.flowErr k 0x13
    else if on then s else (s.set (R.FLOW.FLOW_CTRL.FS_DEPTH k) d).set (R.FLOW.FLOW_CTRL.PAIR k) (bitsOf v 16 5)
  let s := if bitsOf v 6 2 = 3 then s else s.set (R.FLOW.FLOW_CTRL.LOSS_POLICY k) (bitsOf v 6 2)
  (s.set (R.FLOW.FLOW_CTRL.LOSS_HOLD k) (bitsOf v 8 8)).set (R.FLOW.FLOW_CTRL.PAIR_EN k) (bitsOf v 21 1)

/-- The leg enables that a write of 1 to EN brings with it. -/
def State.flowLegs (s : State) (k v : Nat) : State := (s.legWrite k 0 (bitsOf v 1 1)).legWrite k 1 (bitsOf v 2 1)

/-- A write of the word `v` to FLOW_CTRL of slot `k` (R132, R134, R135). -/
def State.flowCtrlWrite (s : State) (k v : Nat) : State :=
  let on := s.on (R.FLOW.FLOW_CTRL.EN k)
  let s := s.flowFields k v
  if bitsOf v 0 1 = 0 then
    let s := (s.set (legEn k 0) (bitsOf v 1 1)).set (legEn k 1) (bitsOf v 2 1)
    if on then s.flowDisable k else s.setFlow k Flow.idle
  else
    let s := s.flowLegs k v
    if on then s else s.flowEnable k

/-- A register of slot `k` that is locked while the slot or the leg is enabled (R132): FLOW_FMT and FLOW_SIZE, and a
leg's four registers; `ofs` is the offset in the slot. -/
def State.flowLocked (s : State) (k ofs : Nat) : Bool :=
  ((ofs == 0x04 || ofs == 0x08) && s.on (R.FLOW.FLOW_CTRL.EN k)) ||
  (0x10 ≤ ofs && ofs < 0x20 && s.on (legEn k 0)) || (0x20 ≤ ofs && ofs < 0x30 && s.on (legEn k 1))

/-! ### Ethernet ports (R126 to R128) -/

/-- The lanes of Ethernet port `p` (Table 5-1). -/
def State.ethLanes (s : State) (p : Nat) : List Nat :=
  if s.get R.ETH.ETH_CFG.MODE = 0 then [2 * p, 2 * p + 1] else (List.range 4).map (4 * p + ·)

/-- Ethernet links may come up: not in safe mode (R535), in a shutdown (R516) or on the internal oscillator (R110). -/
def State.ethMayRise (s : State) : Bool := s.works B.eth && !s.on R.FWU.FWU_STAT.SAFE && !s.hkt.shutdown && !s.tim.onInt

/-- The link of port `p` comes up. -/
def State.ethUp (s : State) (p : Nat) : State :=
  if s.ethMayRise && s.ethExists p && s.on (R.ETH.PORT_CTRL.EN p) && !s.on (R.ETH.PORT_STAT.LINK_UP p) then
    let s := (s.set (R.ETH.PORT_STAT.LINK_UP p) 1).set (R.ETH.PORT_STAT.AN_DONE p) (s.get R.ETH.ETH_CFG.AN_EN)
    let s := (s.ethLanes p).foldl (fun s l => s.set (R.LNL.LANE_STAT.STATE l) 4) s
    ((s.set (R.ETH.PORT_STAT.ALIGN_LOCK p) 1).set (R.ETH.PORT_STAT.FEC_LOCK p) 1).ev B.eth (Ev.ETH.LINK_UP + p)
  else s

/-- LNL of lane `l` shows what its Ethernet SerDes finds (R215): the transmit taps and the symbol errors are free values, and so are the
codewords of the frame that this lane carried of those corrected and those that could not be (log entry 99). -/
def State.ethLane (s : State) (l corr uncorr : Nat) : State :=
  let w := Config.choice s.fresh
  let s := ((s.set (R.LNL.TX_TAPS.CM2 l) (bitsOf w 0 6)).set (R.LNL.TX_TAPS.CM1 l) (bitsOf w 6 6)).set (R.LNL.TX_TAPS.C0 l) (bitsOf w 12 7)
  let s := (s.set (R.LNL.TX_TAPS.CP1 l) (bitsOf w 19 6)).set (R.LNL.TX_TAPS.CP2 l) (bitsOf w 25 6)
  let s := s.set (R.LNL.SER_CNT.COUNT l) (Config.choice (s.fresh + 1) % 2 ^ 32)
  let s := s.count (R.LNL.FEC_CORR.COUNT l) (Config.choice (s.fresh + 2) % (corr + 1))
  (s.count (R.LNL.FEC_UNCORR.COUNT l) (Config.choice (s.fresh + 3) % (uncorr + 1))).drawN 4

/-- The link of port `p` goes down. -/
def State.ethDown (s : State) (p : Nat) : State :=
  if s.on (R.ETH.PORT_STAT.LINK_UP p) then
    let s := (s.set (R.ETH.PORT_STAT.LINK_UP p) 0).set (R.ETH.PORT_STAT.AN_DONE p) 0
    let s := (s.ethLanes p).foldl (fun s l => s.set (R.LNL.LANE_STAT.STATE l) 0) s
    ((s.set (R.ETH.PORT_STAT.ALIGN_LOCK p) 0).set (R.ETH.PORT_STAT.FEC_LOCK p) 0).ev B.eth (Ev.ETH.LINK_DOWN + p)
  else s

/-- Leg `l` of slot `k` matches a datagram (R131). -/
def State.legMatches (s : State) (k l p src dst port pt : Nat) (vlan : Option Nat) : Bool :=
  let dstF := if l = 0 then R.FLOW.LEGA_DST.ADDR k else R.FLOW.LEGB_DST.ADDR k
  let srcF := if l = 0 then R.FLOW.LEGA_SRC.ADDR k else R.FLOW.LEGB_SRC.ADDR k
  let udpF := if l = 0 then R.FLOW.LEGA_PORT.UDP k else R.FLOW.LEGB_PORT.UDP k
  let ptF := if l = 0 then R.FLOW.LEGA_PORT.PT k else R.FLOW.LEGB_PORT.PT k
  let vidF := if l = 0 then R.FLOW.LEGA_VLAN.VID k else R.FLOW.LEGB_VLAN.VID k
  let tagF := if l = 0 then R.FLOW.LEGA_VLAN.TAGGED k else R.FLOW.LEGB_VLAN.TAGGED k
  s.on (R.FLOW.FLOW_CTRL.EN k) && s.on (legEn k l) && s.get dstF == dst && s.get udpF == port && s.get (legEth k l) == p &&
  (if s.on tagF then vlan == some (s.get vidF) else vlan == none) &&
  (s.get srcF == 0 || s.get srcF == src) && (s.get ptF == 0 || clampN 96 127 (s.get ptF) == pt)

/-- The leg that takes a datagram: the lowest slot, leg A first (R133). -/
def State.findLeg (s : State) (p src dst port pt : Nat) (vlan : Option Nat) : Option (Nat × Nat) :=
  (List.range 64).findSome? (fun i => if s.legMatches (i / 2) (i % 2) p src dst port pt vlan then some (i / 2, i % 2) else none)

/-- The largest UDP datagram (PRESUMED: SMPTE ST 2110-10 gives 1,460 bytes for the standard limit; log entry 31). -/
def State.udpLimit (s : State) (p : Nat) : Nat := if s.on (R.ETH.PORT_CTRL.EXT_UDP p) then 8960 else 1460

/-- `n` Ethernet frames leave port `p` (Table 5-6). -/
def State.ethSent (s : State) (p n : Nat) : State := s.count (R.ETH.TX_FRAMES.COUNT p) n

/-- A frame that is discarded (R128). -/
def State.rxDrop (s : State) (p : Nat) : State := s.count (R.ETH.RX_DROP.COUNT p)

/-- A frame is received at port `p` with corrected and uncorrectable codewords before it (R127, R128). DESIGN CHOICE (log entry
89): RX_FRAMES counts the frames with a good FCS and a length within R128. -/
def State.ethFrame (s : State) (p : Nat) (f : EthFrame) (corr uncorr : Nat) : State :=
  if !s.works B.eth || !s.ethExists p || !s.on (R.ETH.PORT_STAT.LINK_UP p) then s
  else
    let s := (s.count (R.ETH.FEC_CORR.COUNT p) corr).count (R.ETH.FEC_UNCORR.COUNT p) uncorr
    let s := s.evIf (uncorr != 0) B.eth (Ev.ETH.FEC_UNCORR + p)
    let s := (s.ethLanes p).foldl (fun s l => s.ethLane l corr uncorr) s
    if !f.fcsOk then (s.count (R.ETH.FCS_ERR.COUNT p)).rxDrop p
    else if 9022 < f.len then (s.count (R.ETH.RX_OVERSIZE.COUNT p)).rxDrop p
    else
      let s := s.count (R.ETH.RX_FRAMES.COUNT p)
      match f.body with
      | .other => s.rxDrop p
      | .control => s.emit (.toMc p false (16 * s.frc + f.frac % 16))
      | .udp src dst port size rtp =>
        if port = 319 ∨ port = 320 then s.emit (.toMc p true (16 * s.frc + f.frac % 16))
        else if s.udpLimit p < size then s.rxDrop p
        else match rtp with
          | none => s.rxDrop p
          | some r =>
            match s.findLeg p src dst port r.pt f.vlan with
            | none => s.rxDrop p
            | some (k, l) =>
              if s.live B.ing && s.enabled B.ing then { s with ing := { s.ing with inbox := s.ing.inbox ++ [(k, l, r)] } } else s.rxDrop p

/-! ### Frame sync (R140 to R145) -/

/-- The follow flow is in use and is slot `k`. -/
def State.follows (s : State) (k : Nat) : Bool := s.on R.ING.FOLLOW.VALID && s.get R.ING.FOLLOW.SLOT == k

/-- The buffers of slot `k` that hold nothing. -/
def SlotSt.freeBufs (x : SlotSt) : List Nat :=
  let used := ((if x.stale then [] else x.picked.toList) ++ x.cand.toList ++ x.newest.toList ++ x.half).map (·.buf) ++
    x.recv.filterMap (·.buf)
  (List.range x.bufs.length).filter (fun b => !used.contains b)

/-- SKEW_MAX in cycles of the time clock. -/
def State.skewMax (s : State) : Nat := clampN 10 4000 (s.get R.ING.SKEW_MAX.US) * 1500

/-- Both legs of a slot are enabled. -/
def State.bothLegs (s : State) (k : Nat) : Bool := s.on (legEn k 0) && s.on (legEn k 1)

/-- The frame of a slot with every sequence number after marker `m0` stored. DESIGN CHOICE (log entry 90): the first frame after
an enable has no previous marker to count from; it never becomes complete and counts INCOMPLETE when its wait ends. -/
def RecvFrame.complete (f : RecvFrame) (m0 : Option Nat) : Bool :=
  match f.marker, m0 with
  | some m, some p => (List.range (m - p)).all (fun i => f.a.any (fun e => e.1 == p + 1 + i) || f.b.any (fun e => e.1 == p + 1 + i))
  | _, _ => false

/-- The marker before frame `f` of a slot. -/
def SlotSt.markerBefore (x : SlotSt) (f : RecvFrame) : Option Nat :=
  let ms := x.lastMarker.toList ++ x.recv.filterMap (fun g => if g.ts = f.ts then none else g.marker)
  let top := f.marker.getD 0
  (ms.filter (· < top)).foldl (fun b m => match b with | some c => some (max c m) | none => some m) none

/-- A slot becomes RUNNING with its first complete frame (Table 5-3). -/
def State.flowUp (s : State) (k : Nat) : State :=
  if s.flow k = Flow.wait || s.flow k = Flow.lost then
    let s := (s.setFlow k Flow.running).flowEv k 0
    s.setSlot k { (s.slot k) with lossCnt := 0 }
  else s

/-- RATE_MISMATCH over eight intervals of complete frames, by their timestamps in 90 kHz units (R148). -/
def State.rateCheck (s : State) (k ts : Nat) : State :=
  let x := s.slot k
  let h := (ts :: x.tsHist).take 9
  let s := s.setSlot k { x with tsHist := h }
  match h.getD 8 ts, h.length with
  | old, 9 =>
    let d := (ts + 2 ^ 32 - old) % 2 ^ 32
    -- 8 intervals last d / 90,000 s; the declared rate is r / 1,001 frames per second
    let r := rate1001 (s.get (R.FLOW.FLOW_FMT.RATE k))
    let got := 8 * 90000 * 1001 * 100
    if got > 101 * r * d || got < 99 * r * d then (s.flowEv k 5).setSlot k { (s.slot k) with tsHist := [ts] } else s
  | _, _ => s

/-- A frame that became complete in an earlier cycle is the candidate, and drops an older one (R141, R142). -/
def State.frameSettle (s : State) (k : Nat) : State :=
  let x := s.slot k
  match x.newest with
  | some f =>
    if f.at_ < s.frc then
      let s := if x.cand.isSome then s.count (R.FLOW.DROPS.COUNT k) else s
      s.setSlot k { (s.slot k) with cand := some f, newest := none }
    else s
  | none => s

/-- RTP timestamp `a` is later than `b`. -/
def tsAfter (a b : Nat) : Bool := let d := (a + 2 ^ 32 - b % 2 ^ 32) % 2 ^ 32; d != 0 && d < 2 ^ 31

/-- A lone half `f` of a pair whose other half slot `y` will not bring any more: that frame has no buffer there, or `y` has gone on
to a later one without it. -/
def SlotSt.deserts (y : SlotSt) (f : FrameRec) : Bool :=
  match y.recv.find? (fun r => r.ts == f.ts) with
  | some r => r.buf.isNone
  | none => y.recv.any (fun r => tsAfter r.ts f.ts) || (y.half ++ y.newest.toList).any (fun r => tsAfter r.ts f.ts)

/-- Lone halves of slot `k` that slot `o` will not match free their buffers (log entry 109). -/
def State.dropLone (s : State) (k o : Nat) : State :=
  let x := s.slot k
  let gone := x.half.filter (fun f => (s.slot o).deserts f)
  if gone = [] then s
  else (s.setSlot k { x with half := x.half.filter (fun f => !(s.slot o).deserts f) }).count (R.FLOW.DROPS.COUNT k) gone.length

/-- PAIR_WAIT of both halves of a pair. -/
def State.showPairWait (s : State) (k o : Nat) : State :=
  let w := bit ((s.slot k).half != [] || (s.slot o).half != [])
  (s.set (R.FLOW.FLOW_STAT.PAIR_WAIT k) w).set (R.FLOW.FLOW_STAT.PAIR_WAIT o) w

/-- The pair that slot `k` belongs to loses the halves that cannot meet. -/
def State.prunePair (s : State) (k : Nat) : State :=
  match s.partner k with
  | some o => if isVideo k then ((s.dropLone k o).dropLone o k).showPairWait k o else s
  | none => s

/-- Put a complete frame of slot `k` forward. -/
def State.offer (s : State) (k : Nat) (f : FrameRec) : State :=
  let s := s.frameSettle k
  let x := s.slot k
  let s := if x.newest.isSome then s.count (R.FLOW.DROPS.COUNT k) else s
  s.setSlot k { (s.slot k) with newest := some f }

/-- A complete frame of slot `k` (R140, R142, R144). -/
def State.frameComplete (s : State) (k : Nat) (f : FrameRec) : State :=
  let s := (s.count (R.FLOW.FRAMES.COUNT k)).flowUp k
  let s := s.rateCheck k f.ts
  if s.follows k then s else
  if !isVideo k && s.on (R.FLOW.FLOW_CTRL.PAIR_EN k) then s.setSlot k { (s.slot k) with half := (s.slot k).half ++ [f] }
  else match s.partner k with
  | none => s.offer k f
  | some o =>
    match (s.slot o).half.find? (fun g => g.ts == f.ts) with
    | some g =>
      let s := s.setSlot o { (s.slot o) with half := (s.slot o).half.filter (fun h => h.ts != f.ts) }
      ((s.offer k f).offer o { g with at_ := f.at_ }).prunePair k
    | none => (s.setSlot k { (s.slot k) with half := (s.slot k).half ++ [f] }).prunePair k

/-- An ANC packet in its place by sequence number. -/
def insertAnc (e : Nat × AncPkt) : List (Nat × AncPkt) → List (Nat × AncPkt)
  | [] => [e]
  | f :: r => if f.1 ≤ e.1 then f :: insertAnc e r else e :: f :: r

/-- The ANC packets of a frame in the order of the sequence numbers that brought them. -/
def RecvFrame.ancOrder (f : RecvFrame) : List AncPkt := (f.anc.foldl (fun l e => insertAnc e l) []).map (·.2)

/-- Close received frames of slot `k` that are complete now. -/
def State.closeComplete (s : State) (k : Nat) : State :=
  let x := s.slot k
  match x.recv.find? (fun f => f.complete (x.markerBefore f)) with
  | none => s
  | some f =>
    let m := max (x.lastMarker.getD 0) (f.marker.getD 0)
    let s := s.setSlot k { x with recv := x.recv.filter (fun g => g.ts != f.ts), lastMarker := some m }
    match f.buf with
    | none => s.rateCheck k f.ts
    | some b => s.frameComplete k { buf := b, addr := x.bufs.getD b 0, ts := f.ts, at_ := s.frc, fmt := s.flowFmt k, anc := f.ancOrder }

/-- Sequence number `q` is stored for frame `f`. -/
def RecvFrame.holds (f : RecvFrame) (q : Nat) : Bool := f.a.any (fun e => e.1 == q) || f.b.any (fun e => e.1 == q)

/-- The highest number stored for a frame. -/
def RecvFrame.top (f : RecvFrame) : Nat := (f.a ++ f.b).foldl (fun m e => max m e.1) 0

/-- The numbers of frame `f` that never came and that UNRECOVERED has not counted. -/
def SlotSt.gaps (x : SlotSt) (f : RecvFrame) : List Nat :=
  match f.marker, x.markerBefore f with
  | some m, some p => ((List.range (m - p)).map (fun i => p + 1 + i)).filter (fun q => !f.holds q && !x.unrec.contains q)
  | _, _ => []

/-- A frame whose gap was not filled in time is incomplete (R140): its numbers arrived on neither leg (R138). A frame that
lost its marker ends before the next one. -/
def State.frameIncomplete (s : State) (k : Nat) (f : RecvFrame) : State :=
  let x := s.slot k
  let gaps := x.gaps f
  let m := max (x.lastMarker.getD 0) (f.marker.getD (f.top + 1))
  let s := s.setSlot k { x with recv := x.recv.filter (fun g => g.ts != f.ts), lastMarker := some m, unrec := x.unrec ++ gaps, tsHist := [] }
  let s := if s.on (legEn k 0) && s.on (legEn k 1) then s.count (R.FLOW.UNRECOVERED.COUNT k) gaps.length else s
  ((s.count (R.FLOW.INCOMPLETE.COUNT k)).flowEv k 4).prunePair k

/-- A frame whose marker is among the numbers that never came: a number after all of its own is lost, and a later frame has
begun. -/
def SlotSt.orphan (x : SlotSt) : Option RecvFrame :=
  x.recv.find? (fun f => f.marker.isNone && x.unrec.any (fun u => f.top < u && x.recv.any (fun g => g.ts != f.ts && u < g.top)))

/-- Write a packet's pixels into the frame's buffer (R136: line by line in the packed order of the flow). -/
def State.storeRuns (s : State) (k base : Nat) (runs : List (Nat × Nat × List Byte)) : State :=
  let w := s.get (R.FLOW.FLOW_SIZE.WIDTH k)
  let bpp := s.flowBpp k
  runs.foldl (fun s r => s.dramWrite 0 (base + (r.1 * w + r.2.1) * bpp / 8) r.2.2) s

/-- A packet's pixels lie inside the declared picture. -/
def State.runsOk (s : State) (k : Nat) (runs : List (Nat × Nat × List Byte)) : Bool :=
  runs.all (fun r => r.1 < s.get (R.FLOW.FLOW_SIZE.HEIGHT k) && r.2.1 < s.get (R.FLOW.FLOW_SIZE.WIDTH k) &&
    r.2.2.length * 8 ≤ (s.get (R.FLOW.FLOW_SIZE.WIDTH k) - r.2.1) * s.flowBpp k)

/-! ### Merge (R138) -/

/-- A 32-bit extended sequence number as the nearest number to `last`. DESIGN CHOICE (log entry 116): a sender that starts again
at lower numbers sends late copies. -/
def unwrapSeq (last : Option Nat) (q : Nat) : Nat :=
  match last with
  | none => q + 2 ^ 32
  | some l => let d := (q + 2 ^ 33 - l) % 2 ^ 32
    if d < 2 ^ 31 then l + d else l - (2 ^ 32 - d)

/-- Sequence number `q` has been stored from some leg. -/
def SlotSt.has (x : SlotSt) (q : Nat) : Bool :=
  x.recv.any (fun f => f.a.any (·.1 == q) || f.b.any (·.1 == q)) ||
  (q ≤ x.lastMarker.getD 0 && !x.unrec.contains q)

/-- The numbers that a leg has skipped and that can no longer arrive are missing on it (R138). -/
def State.expireLeg (s : State) (k l : Nat) : State :=
  let x := s.slot k
  let g := x.leg l
  let late := g.miss.filter (fun e => e.2 < s.frc)
  let lost := late.filter (fun e => !x.has e.1 && !x.unrec.contains e.1)
  let x := { (x.setLeg l { g with miss := g.miss.filter (fun e => s.frc ≤ e.2) }) with unrec := x.unrec ++ lost.map (·.1) }
  let s := (s.setSlot k x).count (if l = 0 then R.FLOW.GAP_A.COUNT k else R.FLOW.GAP_B.COUNT k) late.length
  let s := if s.bothLegs k then s.count (R.FLOW.UNRECOVERED.COUNT k) lost.length else s
  match (s.slot k).orphan with
  | some f => s.frameIncomplete k f
  | none => s

/-- Slot `k` gives the buffers free that it can for a new frame (R142): a newer complete frame drops an older one. -/
def State.makeRoom (s : State) (k : Nat) : State :=
  let s := (s.frameSettle k).prunePair k
  let x := s.slot k
  if x.freeBufs = [] && x.newest.isSome && x.cand.isSome then (s.setSlot k { x with cand := none }).count (R.FLOW.DROPS.COUNT k) else s

/-- A frame with timestamp `ts` begins in slot `k`: it takes a free buffer, or is discarded whole (R142). A frame of a pair that is
discarded leaves its other half alone. -/
def State.openFrame (s : State) (k ts : Nat) : State :=
  let s := s.makeRoom k
  let x := s.slot k
  let buf := if s.follows k || !isVideo k then some 0 else x.freeBufs.head?
  let s := s.setSlot k { x with recv := x.recv ++ [({ ts := ts, buf := buf } : RecvFrame)] }
  (if buf = none then s.count (R.FLOW.DROPS.COUNT k) else s).prunePair k

/-- Store the first copy of packet `r`, whose number is `q`, from leg `l`. -/
def State.storeCopy (s : State) (k l q : Nat) (r : RtpPkt) : State :=
  let s := if (s.slot k).recv.any (fun f => f.ts == r.ts) then s else s.openFrame k r.ts
  let x := s.slot k
  let upd (f : RecvFrame) : RecvFrame :=
    if f.ts = r.ts then
      { f with a := if l = 0 then f.a ++ [(q, s.frc)] else f.a, b := if l = 0 then f.b else f.b ++ [(q, s.frc)]
               marker := if r.marker then some q else f.marker, anc := f.anc ++ r.anc.map (fun p => (q, p)) }
    else f
  let buf := (x.recv.find? (fun (f : RecvFrame) => f.ts == r.ts)).bind (fun f => f.buf)
  let s := s.setSlot k { x with recv := x.recv.map upd }
  match buf with
  | some b => if isVideo k then s.storeRuns k (x.bufs.getD b 0) r.runs else s
  | none => s

/-- The arrival difference of the two legs at a second copy, in µs. -/
def State.showSkew (s : State) (k l q : Nat) : State :=
  match (s.slot k).recv.findSome? (fun f => (if l = 0 then f.b else f.a).find? (·.1 == q)) with
  | some e =>
    let d : Int := (s.frc : Int) - e.2
    s.setI (R.FLOW.FLOW_STAT.SKEW k) (roundDiv (if l = 0 then -d else d) 1500)
  | none => s

/-- The lost leg has delivered a complete frame: the slot is RUNNING again (Table 5-3). -/
def State.legBack (s : State) (k l : Nat) : State :=
  if s.flow k = Flow.degraded && (s.slot k).lostLeg == some l then
    ((s.setFlow k Flow.running).flowEv k 3).setSlot k { (s.slot k) with lostLeg := none }
  else s

/-- A packet brings `n` bits of a line of the follow flow (R147). With its first packet the line takes its place in the ring and a
line there that MAP has not read is overwritten; with its last one it is stored, and MAP may read it. -/
def State.followStore (s : State) (k line ts bits : Nat) : State :=
  let n := 2 ^ clampN 6 10 (s.get R.ING.FOLLOW.RING_EXP)
  let same (e : Nat × Nat × Nat) : Bool := e.1 == line && e.2.1 == ts
  if s.ing.ring.any (fun e => e.1 == line && e.2.1 == ts) then s
  else
    let first := !s.ing.part.any same
    let beyond := if first then s.ing.ring.filter (fun e => e.1 % n == line % n && !e.2.2) else []
    let got := bits + ((s.ing.part.find? same).map (·.2.2)).getD 0
    let done := s.get (R.FLOW.FLOW_SIZE.WIDTH k) * s.flowBpp k ≤ got
    let s := { s with ing := { s.ing with
      ring := s.ing.ring.filter (fun e => e.1 % n != line % n) ++ (if done then [(line, ts, false)] else [])
      part := s.ing.part.filter (fun e => e.1 % n != line % n) ++ (if done then [] else [(line, ts, got)]) } }
    if beyond = [] then s else (s.count R.ING.FOLLOW_CNT.OVERRUN beyond.length).ev B.ing Ev.ING.FOLLOW_OVERRUN

/-- The interval over which the rate of an ANC leg is measured, in cycles, at least 1 ms (log entry 91: the spec gives none). -/
def ancWindow : Nat := 1500000 + Config.ancWindow

/-- The bits of a packet that count against the limit of an ANC leg. -/
def RtpPkt.ancBits (r : RtpPkt) : Nat := r.anc.foldl (fun n p => n + 8 * p.bytes.length) 0

/-- An ANC leg with packet `r` added to its interval. -/
def LegSt.metered (g : LegSt) (now : Nat) (r : RtpPkt) : LegSt :=
  if g.since + ancWindow ≤ now then { g with since := now, bits := r.ancBits } else { g with bits := g.bits + r.ancBits }

/-- An ANC leg carries at most 50 Mb/s: packet `r` lies above the limit (R137). -/
def State.ancExcess (s : State) (k l : Nat) (r : RtpPkt) : Bool :=
  !isVideo k && decide (ancWindow < 30 * (((s.slot k).leg l).metered s.frc r).bits)

/-- ING takes a packet that matched leg `l` of slot `k`. DESIGN CHOICE (log entry 92): R138 merges video slots; an ANC slot with
two legs is merged and counted in the same way. -/
def State.ingPacket (s : State) (k l : Nat) (r : RtpPkt) : State :=
  if !s.works B.ing || s.frozen (B.flow k) || !s.on (R.FLOW.FLOW_CTRL.EN k) || !s.on (legEn k l) then s
  else if !r.ok || (isVideo k && !s.runsOk k r.runs) || s.ancExcess k l r then s.count (R.FLOW.BAD_PKT.COUNT k)
  else
    let s := (s.expireLeg k 0).expireLeg k 1
    let x := s.slot k
    let g := (x.leg l).metered s.frc r
    let q := unwrapSeq ((g.last <|> (x.leg (1 - l)).last)) r.seq
    let top := g.last.getD (q - 1)
    let skipped := if top < q then (List.range (q - top - 1)).map (fun i => (top + 1 + i, s.frc + s.skewMax)) else []
    let late := q ≤ top && g.last.isSome && !g.miss.any (fun e => e.1 == q)
    let s := (s.count (if l = 0 then R.FLOW.PKT_A.COUNT k else R.FLOW.PKT_B.COUNT k)).set
      (if l = 0 then R.FLOW.FLOW_STAT.LEGA_UP k else R.FLOW.FLOW_STAT.LEGB_UP k) 1
    let whole := g.whole && skipped == []
    let g' : LegSt := { g with last := some (max top q), miss := g.miss.filter (fun e => e.1 != q) ++ skipped, at_ := s.frc
                               whole := r.marker || (g.whole && skipped == []) }
    let recovered := (skipped.filter (fun e => x.has e.1)).length +
      (if (x.leg (1 - l)).miss.any (fun e => e.1 == q) && !x.has q then 1 else 0)
    let s := s.setSlot k (x.setLeg l g')
    let s := if s.bothLegs k then s.count (R.FLOW.RECOVERED.COUNT k) recovered else s
    if late || x.unrec.contains q then
      -- a number given up already: its copy comes too late (a late one of this leg has been counted when its wait ended)
      if late then s else s.count (if l = 0 then R.FLOW.GAP_A.COUNT k else R.FLOW.GAP_B.COUNT k)
    else
      let second := x.has q
      let s := if second then s.showSkew k l q else s.storeCopy k l q r
      let s := if second || !s.follows k then s else r.runs.foldl (fun s e => s.followStore k e.1 r.ts (8 * e.2.2.length)) s
      let s := s.closeComplete k
      if r.marker && whole then s.legBack k l else s

/-- The next packet that ETH has delivered. -/
def State.ingNext (s : State) : State :=
  match s.ing.inbox with
  | [] => s
  | (k, l, r) :: rest => ({ s with ing := { s.ing with inbox := rest } }).ingPacket k l r

/-- Leg `l` without its copy of number `q`, which may arrive within `skew` of the first later packet (R138): the earliest one held of
that leg, or the copy itself where none is held any more. Where `q` is the leg's newest number, the next packet begins the wait. -/
def SlotSt.missAgain (x : SlotSt) (l q skew : Nat) : LegSt :=
  let g := x.leg l
  let held := x.recv.flatMap (fun f => if l = 0 then f.a else f.b)
  let own := ((held.find? (fun e => e.1 == q)).map (·.2)).getD 0
  match (held.filter (fun e => q < e.1)).map (·.2) with
  | t :: r => { g with miss := g.miss ++ [(q, r.foldl min t + skew)], whole := false }
  | [] => if g.last = some q then { g with last := some (q - 1), whole := false } else { g with miss := g.miss ++ [(q, own + skew)], whole := false }

/-- A parity mismatch in the merge buffers on the copy of number `q` that leg `l` of slot `k` brought: the copy counts as not
received, and the other leg may still supply it (R139). -/
def State.mergeParity (s : State) (k l q : Nat) : State :=
  let x := s.slot k
  let upd (f : RecvFrame) : RecvFrame :=
    { f with a := if l = 0 then f.a.filter (fun e => e.1 != q) else f.a, b := if l = 0 then f.b else f.b.filter (fun e => e.1 != q)
             marker := if f.marker = some q then none else f.marker, anc := f.anc.filter (fun e => e.1 != q) }
  if x.recv.any (fun f => (if l = 0 then f.a else f.b).any (fun e => e.1 == q)) then
    let g := x.missAgain l q s.skewMax
    let x := { x with recv := x.recv.map upd }
    s.setSlot k (x.setLeg l g)
  else s

/-- The work of slot `k` stands still: ING or its page is frozen (R72). -/
def State.flowStands (s : State) (k : Nat) : Bool := s.frozen B.ing || s.frozen (B.flow k)

/-- SKEW_MAX has passed after the marker of a frame of slot `k` (R140). -/
def State.mergeWaitEnd (s : State) (k : Nat) : State :=
  if s.flowStands k then s
  else
    let s := (s.expireLeg k 0).expireLeg k 1
    match (s.slot k).recv.find? (fun f => f.marker.isSome) with
    | none => s
    | some f => if f.complete ((s.slot k).markerBefore f) then s.closeComplete k else s.frameIncomplete k f

/-! ### Loss (R134) -/

/-- Leg `l` of a RUNNING slot has delivered nothing for LEG_TIMEOUT while the other leg delivers. -/
def State.legLost (s : State) (k l : Nat) : State :=
  let x := s.slot k
  let lim := max 1 (s.get R.ING.ING_CTRL.LEG_TIMEOUT) * 1500000
  if !s.flowStands k && s.flow k = Flow.running && s.bothLegs k && (x.leg l).at_ + lim ≤ s.frc && s.frc < (x.leg (1 - l)).at_ + lim then
    let s := (s.setFlow k Flow.degraded).set (if l = 0 then R.FLOW.FLOW_STAT.LEGA_UP k else R.FLOW.FLOW_STAT.LEGB_UP k) 0
    (s.setSlot k { x with lostLeg := some l }).flowEv k 2
  else s

/-- No enabled leg of slot `k` has delivered a packet for FLOW_TIMEOUT. -/
def State.flowLost (s : State) (k : Nat) : State :=
  let x := s.slot k
  let lim := max 1 (s.get R.ING.ING_CTRL.FLOW_TIMEOUT) * 1500000
  if !s.flowStands k && [Flow.wait, Flow.running, Flow.degraded].contains (s.flow k) && max x.legA.at_ x.legB.at_ + lim ≤ s.frc then
    let s := (s.setSlot k { x with lostLeg := none, lossCnt := 0 }).setFlow k Flow.lost
    ((s.set (R.FLOW.FLOW_STAT.LEGA_UP k) 0).set (R.FLOW.FLOW_STAT.LEGB_UP k) 0).flowEv k 1
  else s

/-! ### The pick (R20, R142, R143) -/

/-- Pick the candidate of slot `k`, or the same frame again. DESIGN CHOICE (log entry 115): a slot that has never had a complete frame
presents a transparent one. -/
def State.pickFrame (s : State) (k : Nat) : State :=
  let x := s.slot k
  match x.cand with
  | some f => (s.setSlot k { x with picked := some f, cand := none, present := 1 }).set (R.FLOW.RTP_TS.TS k) f.ts
  | none =>
    if x.picked.isSome then (s.setSlot k { x with present := 1 }).count (R.FLOW.REPEATS.COUNT k)
    else s.setSlot k { x with present := 0 }

/-- Present a frame without a source, by a loss policy. -/
def State.pickLoss (s : State) (k policy : Nat) : State :=
  s.setSlot k { (s.slot k) with present := if policy = 1 then 2 else 0 }

/-- The slot whose loss policy applies: the fill slot of a pair. -/
def State.policySlot (s : State) (k : Nat) : Nat := if s.isKey k then s.get (R.FLOW.FLOW_CTRL.PAIR k) else k

/-- The state of the flow that a pick looks at: fill and key are one flow, LOST when one half is, and running when both
are (R144). -/
def State.pickState (s : State) (k : Nat) : Nat :=
  let st := s.flow k
  match s.partner k with
  | none => st
  | some o =>
    let so := s.flow o
    if st = Flow.lost || so = Flow.lost then Flow.lost
    else if so = Flow.running || so = Flow.degraded then st else so

/-- The pick of a video slot at a departure. -/
def State.pickVideo (s : State) (k : Nat) : State :=
  let st := s.pickState k
  let pol := s.get (R.FLOW.FLOW_CTRL.LOSS_POLICY (s.policySlot k))
  let s := s.frameSettle k
  let x := s.slot k
  let keep := s.on (R.FLOW.FLOW_CTRL.EN k) && !x.stale
  let s := s.setSlot k { x with freeing := [], stale := false, picked := if keep then x.picked else none
                                lossCnt := if st = Flow.lost then x.lossCnt else 0 }
  let s := s.showFree
  if st = Flow.running || st = Flow.degraded then s.pickFrame k
  else if st = Flow.lost then
    let n := (s.slot k).lossCnt
    let s := s.setSlot k { (s.slot k) with lossCnt := n + 1 }
    if n < s.get (R.FLOW.FLOW_CTRL.LOSS_HOLD (s.policySlot k)) || pol = 0 then s.pickFrame k else s.pickLoss k pol
  else s.pickLoss k pol

/-- The frame that an ANC slot picks (R145): its own newest one, or in a paired slot the one with the timestamp of its video
slot; complete before the cycle of the departure (R141). -/
def State.ancPick (s : State) (k : Nat) : Option FrameRec :=
  let x := s.slot k
  if s.on (R.FLOW.FLOW_CTRL.PAIR_EN k) then
    x.half.find? (fun f => f.ts == s.get (R.FLOW.RTP_TS.TS (s.get (R.FLOW.FLOW_CTRL.PAIR k))) && f.at_ < s.frc)
  else x.cand

/-- The pick of an ANC slot. The packets of the frame go into the ring and the first timecode into TC. -/
def State.pickAnc (s : State) (k : Nat) : State :=
  let s := s.frameSettle k
  let x := s.slot k
  let s := (s.setSlot k { x with freeing := [] }).showFree
  match s.ancPick k with
  | none => s
  | some f =>
      let s := s.setSlot k { (s.slot k) with cand := none, picked := some f
                                             half := ((s.slot k).half.dropWhile (fun g => g.ts != f.ts)).drop 1 }
      let s := s.set (R.FLOW.RTP_TS.TS k) f.ts
      let s := f.anc.foldl (fun s p =>
        p.bytes.foldl (fun s b =>
          let x := s.slot k
          let s := s.dramWrite 0 (x.bufs.getD 0 0 + x.ringAt) [b]
          s.setSlot k { x with ringAt := if x.size ≤ x.ringAt + 1 then 0 else x.ringAt + 1 }) s) s
      match f.anc.find? (fun p => p.did == 0x60 && p.sdid == 0x60) with
      | some p => (s.set (R.FLOW.TC.V k) p.tc).set (R.FLOW.TC.STALE k) 0
      | none => s.set (R.FLOW.TC.STALE k) 1

/-- The follow flow has no pick: buffers that its slot had before are freed (R148). -/
def State.freeOld (s : State) (k : Nat) : State :=
  (s.setSlot k { (s.slot k) with freeing := [], stale := false, picked := none, present := 0 }).showFree

/-- Every frame-sync stage picks at a frame departure (R20). A frozen ING keeps what it presents. -/
def State.pickAll (s : State) : State :=
  if !s.live B.ing || s.frozen B.ing then s
  else
    let s := s.forN 16 (fun s k => if s.frozen (B.flow k) then s else if s.follows k then s.freeOld k else s.pickVideo k)
    s.forN 16 (fun s i => if s.frozen (B.flow (16 + i)) then s else s.pickAnc (16 + i))

/-! ### The follow flow (R146) -/

/-- The follow flow may be used now. DESIGN CHOICE (log entry 114): a slot with FLOW_CTRL.EN = 0 is no follow flow. -/
def State.followOk (s : State) : Bool :=
  let k := s.get R.ING.FOLLOW.SLOT
  s.on R.ING.FOLLOW.EN && s.get R.DEP.MODE_CUR.TIMING == 1 && !s.isKey k && (s.partner k).isNone &&
  s.on (R.FLOW.FLOW_CTRL.EN k) && s.get (R.FLOW.FLOW_FMT.RATE k) == s.get R.TIM.RATE_CUR.RATE

/-- Slot `k` begins or ceases to be read line by line: what it is receiving goes to no buffer, it has no candidate and repeats no
frame picked before, and the ring holds no line of it. -/
def State.followTurn (s : State) (k : Nat) : State :=
  let x := s.slot k
  let s := s.setSlot k { x with recv := x.recv.map (fun f => { f with buf := none }), cand := none, newest := none, half := []
                                picked := none, present := 0 }
  { s with ing := { s.ing with ring := [], part := [] } }

/-- FOLLOW has been written; the follow flow was slot `old`. Another slot that is valid takes its place with an empty ring. -/
def State.followMoved (s : State) (old : Nat) : State :=
  if s.on R.ING.FOLLOW.VALID && s.get R.ING.FOLLOW.SLOT != old then (s.followTurn old).followTurn (s.get R.ING.FOLLOW.SLOT) else s

/-- Keep FOLLOW.VALID; code 0x15 at the time it becomes invalid. -/
def State.followEval (s : State) : State :=
  let was := s.on R.ING.FOLLOW.VALID
  let ok := s.followOk
  let k := s.get R.ING.FOLLOW.SLOT
  let s := s.set R.ING.FOLLOW.VALID (bit ok)
  let s := if ok = was then s else s.followTurn k
  if ok then s
  else
    let s := { s with ing := { s.ing with ring := [], part := [] } }
    if was then (s.err B.ing 0x15 (s.get R.ING.FOLLOW.SLOT) 0).ev B.ing Ev.ING.FOLLOW_INVALID else s

/-! ### Soft resets (R148) -/

/-- EN = 0 on every slot of a flow page. -/
def State.flowPageReset (s : State) (page : Nat) : State := s.forN 4 (fun s i => s.flowDisable (4 * page + i))

/-- EN = 0 on all slots, and FOLLOW.EN cleared. -/
def State.ingReset (s : State) : State := (s.forN 8 State.flowPageReset).followEval

/-! ### Commands -/

/-- ETH_LINK_UP (R127). -/
def execEthLinkUp (p t : Nat) (s : State) : Host.Outcome State Fault Refusal := runIn .sender (fun s => (s.tick t).ethUp p) s

/-- ETH_LINK_DOWN (R127). -/
def execEthLinkDown (p t : Nat) (s : State) : Host.Outcome State Fault Refusal := runIn .sender (fun s => (s.tick t).ethDown p) s

/-- ETH_FRAME (R128). -/
def execEthFrame (p : Nat) (f : EthFrame) (corr uncorr t : Nat) (s : State) : Host.Outcome State Fault Refusal :=
  runIn .sender (fun s => (s.tick t).ethFrame p f corr uncorr) s

/-- MERGE_WAIT_END (R140). -/
def execMergeWaitEnd (k t : Nat) (s : State) : Host.Outcome State Fault Refusal :=
  runIn .sender (fun s => (s.tick t).mergeWaitEnd k) s

/-- LEG_LOST (R134). -/
def execLegLost (k l t : Nat) (s : State) : Host.Outcome State Fault Refusal := runIn .sender (fun s => (s.tick t).legLost k l) s

/-- FLOW_LOST (R134). -/
def execFlowLost (k t : Nat) (s : State) : Host.Outcome State Fault Refusal := runIn .sender (fun s => (s.tick t).flowLost k) s

/-- FLOW_ENABLE (R135): a write of word `v` with EN = 1 to FLOW_CTRL of slot `k`. -/
def execFlowEnable (k v t : Nat) (s : State) : Host.Outcome State Fault Refusal :=
  runIn .sender (fun s => ((s.tick t).flowCtrlWrite k (v / 2 * 2 + 1)).followEval) s

/-- FLOW_DISABLE (R148): a write of word `v` with EN = 0. -/
def execFlowDisable (k v t : Nat) (s : State) : Host.Outcome State Fault Refusal :=
  runIn .sender (fun s => ((s.tick t).flowCtrlWrite k (v / 2 * 2)).followEval) s

/-- LEG_ENABLE (R135): a write of word `v` that enables a leg of a running slot. -/
def execLegEnable (k v t : Nat) (s : State) : Host.Outcome State Fault Refusal :=
  runIn .sender (fun s => ((s.tick t).flowCtrlWrite k v).followEval) s

end Sys2Proof.Machine
end

