-- ==== Sys2Proof/Machine/Message.lean ====
section
/-!
DEFINITION. The 64 bytes of each control message (Tables 4-5, 4-6, 8-7, 8-13, 9-2, 9-5, 9-7, 9-8, 16-3) and the 128 bytes
of a CLUSTER_STATE record (Table 16-6), little-endian, reserved bytes 0.
-/
namespace Sys2Proof.Machine

/-- A record as its fields: first byte, length in bytes, value. Bytes that no field covers are 0. -/
def layBytes (size : Nat) (fields : List (Nat × Nat × Nat)) : List Byte :=
  readBytes zeroB (fields.foldl (fun m f => writeLE zeroB m f.1 f.2.1 f.2.2) []) 0 size

/-- Whole ns of a time in 2^-16 ns, as 64 bits, and its fraction. -/
def nsOf (t : Int) : Nat := uns 64 (t / 65536)
def fracOf (t : Int) : Nat := uns 16 (t % 65536)

/-- Consecutive 32-bit words from byte `a`. -/
def wordFields (a : Nat) (l : List Nat) : List (Nat × Nat × Nat) := l.mapIdx (fun i v => (a + 4 * i, 4, v))

/-- Consecutive bytes from byte `a`. -/
def byteFields (a : Nat) (l : List Byte) : List (Nat × Nat × Nat) := l.mapIdx (fun i v => (a + i, 1, v.toNat))

/-- TYPE of a message (Table 9-1). -/
def Msg.type : Msg → Nat
  | .time _ => 1 | .sched _ => 2 | .capx _ => 3 | .linkState _ => 4 | .enumMsg _ => 5 | .enumRsp _ => 6 | .req _ => 7
  | .rsp _ => 8 | .ldReq _ => 9 | .ldRsp _ _ => 10 | .telem _ => 11 | .mirror _ => 12 | .svc _ => 13 | .svcAck _ => 14

/-- The fields of a mirror record's content. -/
def MirrorRec.fields : MirrorRec → List (Nat × Nat × Nat)
  | .write loc d na nb => (4, 1, 1) :: (5, 1, d.length) :: (6, 1, na) :: (7, 1, nb) :: (8, 4, loc) :: wordFields 12 d
  | .arm on loc => [(4, 1, 2), (5, 1, bit on), (8, 4, loc)]
  | .entry i tm act arg ofs op => [(4, 1, 3), (5, 1, i), (12, 8, tm), (20, 4, act), (24, 4, arg), (28, 4, uns 32 ofs), (32, 1, op)]
  | .frame p m g e mf lf => (4, 1, 4) :: (5, 1, p) :: (8, 8, m) :: (16, 2, g) :: (20, 4, e) :: (24, 4, mf) :: wordFields 28 lf
  | .imageStart n => [(4, 1, 5), (8, 4, n)]
  | .image loc d na nb => (4, 1, 6) :: (5, 1, d.length) :: (6, 1, na) :: (7, 1, nb) :: (8, 4, loc) :: wordFields 12 d
  | .imageEnd dg => [(4, 1, 7), (12, 8, dg)]

/-- The fields of a message beside byte 0. -/
def Msg.fields : Msg → List (Nat × Nat × Nat)
  | .time m => [(1, 1, bit m.relief + 2 * bit m.valid + 4 * bit m.holdover + 8 * bit m.degraded), (2, 2, m.seq), (4, 1, m.k),
      (8, 8, nsOf m.origin), (16, 2, fracOf m.origin), (24, 8, uns 64 m.corr)]
  | .sched m => [(1, 1, bit m.relief + 2 * bit m.next), (2, 2, m.seq), (4, 1, m.sched.rate), (8, 8, m.sched.n0),
      (16, 8, nsOf m.sched.t0), (24, 2, fracOf m.sched.t0), (44, 4, m.mode), (48, 1, m.dark)] ++ wordFields 32 m.sched.vphase
  | .capx m => [(1, 1, m.fn), (2, 1, m.level), (3, 1, m.features), (4, 1, m.rxGood + 16 * bit m.seen), (5, 2, 1024),
      (8, 2, m.typeId), (10, 1, m.stepping), (12, 12, m.serial)]
  | .linkState m => [(1, 1, m.fn), (2, 1, m.stopU), (3, 1, m.stopD), (4, 1, m.stage), (5, 1, m.width), (6, 1, m.lanes),
      (7, 1, m.cause), (8, 8, nsOf m.time), (16, 2, fracOf m.time)]
  | .enumMsg m => [(1, 1, bit m.relief), (2, 1, m.stop), (4, 2, m.lineId), (6, 2, m.run)]
  | .enumRsp m => [(1, 1, bit m.last + 2 * bit m.noNumber), (2, 1, m.stop), (3, 1, m.other), (4, 2, m.lineId), (6, 2, m.run),
      (8, 2, m.typeId), (10, 1, m.stepping), (12, 12, m.serial)]
  | .req m => [(1, 1, m.op + 16 * (m.count - 1)), (2, 1, m.stop), (3, 1, bit m.relief), (4, 2, m.src), (6, 2, m.tag),
      (8, 2, m.didx), (12, 4, m.loc), (16, 4, m.mask)] ++ wordFields 20 m.data
  | .rsp m => [(1, 1, m.status + 16 * (m.count - 1)), (2, 1, m.stop), (3, 1, bit m.cached), (4, 2, m.src), (6, 2, m.tag),
      (8, 2, m.didx), (12, 4, m.loc)] ++ wordFields 20 m.data
  | .ldReq q => [(2, 2, q)]
  | .ldRsp q turn => [(2, 2, q), (8, 8, uns 64 turn)]
  | .telem m => [(1, 1, bit m.relief), (2, 1, m.stop), (3, 1, m.other), (4, 4, m.frame), (8, 4, m.epoch), (12, 8, m.digest),
      (20, 1, m.state), (21, 1, m.rx), (22, 1, m.rule), (23, 1, m.temp), (24, 4, m.timeErr), (28, 2, m.lcrc),
      (30, 2, m.faults), (32, 8, m.evt), (40, 8, m.ident), (48, 4, m.rails), (52, 1, m.zones), (54, 2, m.underruns)]
  | .mirror m => (1, 1, bit m.relief) :: (2, 2, m.seq) :: m.body.fields
  | .svc m => [(1, 1, bit m.last + 2 * bit m.relief), (2, 1, m.stop), (4, 2, m.session), (6, 2, m.seq),
      (8, 1, m.data.length)] ++ byteFields 16 m.data
  | .svcAck m => [(1, 1, m.status), (2, 1, m.stop), (4, 2, m.session), (6, 2, m.ack)]

/-- The 64 bytes of a message; byte 0 holds TYPE and VER 1 (R237). -/
def Msg.bytes (m : Msg) : List Byte := layBytes 64 ((0, 1, m.type + 16) :: m.fields)

/-- The 128 bytes of a CLUSTER_STATE record. -/
def ClusterRec.bytes (r : ClusterRec) : List Byte :=
  layBytes 128 ([(0, 1, 0x11), (1, 1, r.member), (2, 1, r.flags), (3, 1, r.level), (4, 4, r.frame), (8, 4, r.epoch),
    (12, 8, r.digest), (20, 4, r.pEpoch), (24, 8, r.pDigest), (32, 4, uns 32 r.timeErr), (36, 4, r.orgX), (40, 4, r.orgY),
    (44, 2, r.cw), (46, 2, r.ch), (48, 1, r.cmd), (49, 1, r.cmdArg), (50, 1, bit r.strict), (52, 4, r.cEpoch),
    (56, 4, r.cFlip), (60, 4, r.cDeadline), (64, 8, r.sched.n0), (72, 8, nsOf r.sched.t0), (80, 2, fracOf r.sched.t0),
    (82, 1, r.sched.rate + 16 * bit r.next)] ++ wordFields 84 r.sched.vphase)

end Sys2Proof.Machine
end

