-- ==== Sys2Proof/Machine/Canvas.lean ====
section
/-!
DEFINITION. Canvas geometry and mapping cards (R151 to R171): the card window and its two banks, the card fields, the
checks of Table 6-5, the sums of R27 and R29, and the way from a tile pixel to a canvas point.
-/
namespace Sys2Proof.Machine

/-! ### The card window -/

/-- Kernel set 0 after reset (Table 6-4): the 3-lobe Lanczos kernel sinc(x) sinc(x/3) at (tap - 2) - phase/64, in
2^-14, each to the nearest integer, with the residue of a phase on its largest tap. PRESUMED: the kernel's formula is
not in the spec, and of two equally large taps the first takes the residue (log entry 13). -/
def lanczosSet : List (List Int) :=
  [[0, 0, 16384, 0, 0, 0], [52, -207, 16377, 216, -54, 0], [100, -405, 16356, 442, -111, 2], [147, -593, 16320, 676, -170, 4], [190, -772, 16272, 919, -232, 7], [230, -941, 16208, 1171, -296, 12], [268, -1101, 16131, 1431, -362, 17], [303, -1251, 16041, 1699, -431, 23]] ++
  [[335, -1391, 15936, 1975, -501, 30], [364, -1522, 15819, 2258, -573, 38], [390, -1643, 15687, 2549, -646, 47], [414, -1755, 15542, 2847, -721, 57], [435, -1858, 15386, 3151, -798, 68], [453, -1951, 15215, 3462, -875, 80], [468, -2035, 15033, 3778, -953, 93], [481, -2111, 14840, 4100, -1032, 106]] ++
  [[492, -2177, 14632, 4427, -1111, 121], [500, -2235, 14415, 4758, -1190, 136], [506, -2284, 14186, 5094, -1269, 151], [509, -2325, 13947, 5434, -1348, 167], [511, -2358, 13697, 5776, -1426, 184], [510, -2383, 13437, 6122, -1504, 202], [507, -2400, 13168, 6470, -1580, 219], [503, -2410, 12889, 6819, -1654, 237]] ++
  [[497, -2413, 12602, 7170, -1728, 256], [489, -2409, 12307, 7522, -1799, 274], [479, -2398, 12004, 7874, -1867, 292], [469, -2381, 11692, 8226, -1933, 311], [457, -2359, 11377, 8576, -1996, 329], [444, -2330, 11053, 8926, -2056, 347], [429, -2296, 10726, 9273, -2113, 365], [414, -2257, 10392, 9618, -2165, 382]] ++
  [[398, -2213, 10054, 9960, -2213, 398], [382, -2165, 9618, 10392, -2257, 414], [365, -2113, 9273, 10726, -2296, 429], [347, -2056, 8926, 11053, -2330, 444], [329, -1996, 8576, 11377, -2359, 457], [311, -1933, 8226, 11692, -2381, 469], [292, -1867, 7874, 12004, -2398, 479], [274, -1799, 7522, 12307, -2409, 489]] ++
  [[256, -1728, 7170, 12602, -2413, 497], [237, -1654, 6819, 12889, -2410, 503], [219, -1580, 6470, 13168, -2400, 507], [202, -1504, 6122, 13437, -2383, 510], [184, -1426, 5776, 13697, -2358, 511], [167, -1348, 5434, 13947, -2325, 509], [151, -1269, 5094, 14186, -2284, 506], [136, -1190, 4758, 14415, -2235, 500]] ++
  [[121, -1111, 4427, 14632, -2177, 492], [106, -1032, 4100, 14840, -2111, 481], [93, -953, 3778, 15033, -2035, 468], [80, -875, 3462, 15215, -1951, 453], [68, -798, 3151, 15386, -1858, 435], [57, -721, 2847, 15542, -1755, 414], [47, -646, 2549, 15687, -1643, 390], [38, -573, 2258, 15819, -1522, 364]] ++
  [[30, -501, 1975, 15936, -1391, 335], [23, -431, 1699, 16041, -1251, 303], [17, -362, 1431, 16131, -1101, 268], [12, -296, 1171, 16208, -941, 230], [7, -232, 919, 16272, -772, 190], [4, -170, 676, 16320, -593, 147], [2, -111, 442, 16356, -405, 100], [0, -54, 216, 16377, -207, 52]]

/-- Kernel set 1 after reset (Table 6-4): the Catmull-Rom cubic, rounded the same way (log entry 13). -/
def catmullSet : List (List Int) :=
  [[0, 0, 16384, 0, 0, 0], [0, -124, 16374, 136, -2, 0], [0, -240, 16345, 287, -8, 0], [0, -349, 16297, 453, -17, 0], [0, -450, 16230, 634, -30, 0], [0, -544, 16146, 828, -46, 0], [0, -631, 16044, 1036, -65, 0], [0, -711, 15926, 1256, -87, 0]] ++
  [[0, -784, 15792, 1488, -112, 0], [0, -851, 15642, 1732, -139, 0], [0, -911, 15478, 1986, -169, 0], [0, -966, 15299, 2251, -200, 0], [0, -1014, 15106, 2526, -234, 0], [0, -1057, 14900, 2810, -269, 0], [0, -1094, 14681, 3103, -306, 0], [0, -1125, 14450, 3404, -345, 0]] ++
  [[0, -1152, 14208, 3712, -384, 0], [0, -1174, 13955, 4027, -424, 0], [0, -1190, 13691, 4349, -466, 0], [0, -1202, 13417, 4677, -508, 0], [0, -1210, 13134, 5010, -550, 0], [0, -1213, 12842, 5348, -593, 0], [0, -1213, 12542, 5690, -635, 0], [0, -1208, 12235, 6035, -678, 0]] ++
  [[0, -1200, 11920, 6384, -720, 0], [0, -1188, 11599, 6735, -762, 0], [0, -1173, 11272, 7088, -803, 0], [0, -1155, 10939, 7443, -843, 0], [0, -1134, 10602, 7798, -882, 0], [0, -1110, 10260, 8154, -920, 0], [0, -1084, 9915, 8509, -956, 0], [0, -1055, 9567, 8863, -991, 0]] ++
  [[0, -1024, 9216, 9216, -1024, 0], [0, -991, 8863, 9567, -1055, 0], [0, -956, 8509, 9915, -1084, 0], [0, -920, 8154, 10260, -1110, 0], [0, -882, 7798, 10602, -1134, 0], [0, -843, 7443, 10939, -1155, 0], [0, -803, 7088, 11272, -1173, 0], [0, -762, 6735, 11599, -1188, 0]] ++
  [[0, -720, 6384, 11920, -1200, 0], [0, -678, 6035, 12235, -1208, 0], [0, -635, 5690, 12542, -1213, 0], [0, -593, 5348, 12842, -1213, 0], [0, -550, 5010, 13134, -1210, 0], [0, -508, 4677, 13417, -1202, 0], [0, -466, 4349, 13691, -1190, 0], [0, -424, 4027, 13955, -1174, 0]] ++
  [[0, -384, 3712, 14208, -1152, 0], [0, -345, 3404, 14450, -1125, 0], [0, -306, 3103, 14681, -1094, 0], [0, -269, 2810, 14900, -1057, 0], [0, -234, 2526, 15106, -1014, 0], [0, -200, 2251, 15299, -966, 0], [0, -169, 1986, 15478, -911, 0], [0, -139, 1732, 15642, -851, 0]] ++
  [[0, -112, 1488, 15792, -784, 0], [0, -87, 1256, 15926, -711, 0], [0, -65, 1036, 16044, -631, 0], [0, -46, 828, 16146, -544, 0], [0, -30, 634, 16230, -450, 0], [0, -17, 453, 16297, -349, 0], [0, -8, 287, 16345, -240, 0], [0, -2, 136, 16374, -124, 0]]

/-- Coefficient `t` of phase `p` of kernel set `k` after reset (Table 6-4). -/
def kernelReset (k p t : Nat) : Int :=
  if k = 0 then (lanczosSet.getD p []).getD t 0
  else if k = 1 then (catmullSet.getD p []).getD t 0
  else if k = 2 then (if t = 2 then 16384 - 256 * p else if t = 3 then 256 * p else 0)
  else if p < 32 then (if t = 2 then 16384 else 0) else (if t = 3 then 16384 else 0)

/-- What a byte of a card bank holds after module reset (R153): 0, except in the kernel sets. -/
def cardD (a : Nat) : Byte :=
  if 0x40000 ≤ a ∧ a < 0x40C00 then
    let o := a - 0x40000
    let c := uns 16 (kernelReset (o / 0x300) (o % 0x300 / 12) (o % 0x300 % 12 / 2))
    BitVec.ofNat 8 (if o % 2 = 0 then c else c / 256)
  else 0

/-- The bits of the aligned 32-bit word at offset `o` of a half that can be written (Tables 6-1 and 6-2). -/
def cardMask (o : Nat) : Nat :=
  if o < 0x40000 then
    if o % 128 = 0 then 0x03FFFFFF else if o % 128 = 4 then 0x7FFF7FFF else if o % 128 ≤ 0x2C then 0xFFFFFFFF else 0
  else if o < 0x40C00 then 0xFFFFFFFF
  else if o < 0x50000 then 0
  else if (o - 0x50000) % 0x1200 < 4356 ∧ o < 0x200000 then 0xFFFFFFFF else 0

/-- A card (Table 6-2). The nine coefficients are binary32 words. -/
structure Card where
  idx : Nat
  port : Nat
  view : Nat
  stop : Nat
  kset : Nat
  outside : Nat
  cluster : Nat
  meshEn : Nat
  mesh : Nat
  w : Nat
  h : Nat
  m : List Nat
deriving DecidableEq, Repr

/-- Card `i` of a bank. -/
def cardAt (b : List Host.Cell) (i : Nat) : Card :=
  let w0 := readLE cardD b (i * 128) 4
  let w1 := readLE cardD b (i * 128 + 4) 4
  { idx := i, port := bitsOf w0 1 1, view := bitsOf w0 2 2, stop := bitsOf w0 4 8, kset := bitsOf w0 12 2,
    outside := bitsOf w0 14 1, cluster := bitsOf w0 15 1, meshEn := bitsOf w0 16 1, mesh := bitsOf w0 17 9,
    w := bitsOf w1 0 15, h := bitsOf w1 16 15,
    m := (List.range 9).map (fun j => readLE cardD b (i * 128 + 8 + 4 * j) 4) }

/-- The enabled cards of a bank, lowest first (R154): EN is bit 0 of a card's first byte, which is listed when it is 1. -/
def enabledCards (b : List Host.Cell) : List Card :=
  (b.filter (fun c => c.1 < 0x40000 && c.1 % 128 == 0 && c.2.toNat % 2 == 1)).map (fun c => cardAt b (c.1 / 128))

/-- The enabled card for a port, stop and view (R155). -/
def findCard (cs : List Card) (port stop view : Nat) : Option Card :=
  cs.find? (fun c => c.port == port && c.stop == stop && c.view == view)

/-- P_k of a stop: W × H of its enabled cards (R156). -/
def stopPixels (cs : List Card) (port stop : Nat) : Nat :=
  match cs.find? (fun c => c.port == port && c.stop == stop) with
  | some c => c.w * c.h
  | none => 0

/-- The sum of P_k over a port's stops. -/
def portPixels (cs : List Card) (port : Nat) : Nat :=
  ((List.range 256).map (stopPixels cs port)).foldl (· + ·) 0

/-! ### Checks (Table 6-5) -/

/-- A binary32 word that is infinite or not a number. -/
def badFloat (w : Nat) : Bool := bitsOf w 23 8 == 255

/-- R151 and R152. -/
def canvasBad (c : Canvas) : Bool :=
  c.cw < 16 || c.cw > 16384 || c.ch < 16 || c.ch > 16384 || c.cw * c.ch > 33554432 || c.ox + c.cw > 262144 ||
  c.oy + c.ch > 262144

/-- The first card, in index order, that a predicate over the cards before it and itself refuses. -/
def firstCard (bad : List Card → Card → Bool) : List Card → List Card → Option Card
  | _, [] => none
  | seen, c :: r => if bad seen c then some c else firstCard bad (seen ++ [c]) r

/-- ERR_INFO.SOURCE of a failing card (R172). -/
def Card.source (c : Card) : Nat := c.port * 0x80 + c.stop % 0x80

/-- The first failing check of Table 6-5, lowest code first: code, CHECK_CARD, window offset and SOURCE. DESIGN CHOICE (log entry
94): where cards fail different checks the lowest code is reported, and among its cards the lowest; of two cards that conflict under 0x10 or 0x11 the later one fails, and code 0x14, which names no card, gives card 0,
offset 0 and SOURCE 0. -/
def cardCheck (cs : List Card) (cv : Canvas) : Option (Nat × Nat × Nat × Nat) :=
  let hit (code : Nat) (bad : List Card → Card → Bool) : Option (Nat × Nat × Nat × Nat) :=
    (firstCard bad [] cs).map (fun c => (code, c.idx, c.idx * 128, c.source))
  let mesh : Option (Nat × Nat × Nat × Nat) :=
    (firstCard (fun _ c => c.meshEn == 1 && c.mesh > 383) [] cs).map (fun c => (0x12, c.mesh, 0x50000 + c.mesh * 0x1200, c.source))
  (hit 0x10 (fun seen c => seen.any (fun d => d.port == c.port && d.stop == c.stop && d.view == c.view)))
    <|> (hit 0x11 (fun seen c => seen.any (fun d => d.port == c.port && d.stop == c.stop && (d.w != c.w || d.h != c.h))))
    <|> mesh
    <|> (hit 0x13 (fun _ c => c.stop == 0 || c.stop == 255))
    <|> (if canvasBad cv then some (0x14, 0, 0, 0) else none)
    <|> (hit 0x15 (fun _ c => c.w == 0 || c.h == 0 || c.w > 16384 || c.h > 16384))
    <|> (hit 0x16 (fun _ c => c.m.any badFloat))

/-! ### The sums of R27 to R29 -/

/-- Bits per pixel of a coding (Table 2-2). -/
def codingBits (c : Nat) : Nat := if c = 1 then 24 else if c = 2 then 18 else 36

/-- The video limit of a width in Gb/s (R28); width 0 stands for no width and counts as 4 (R253). -/
def videoLimit (w : Nat) : Nat := if w = 1 then 46 else if w = 2 then 92 else 184

/-- A width code of LNK.PORT_STAT.WIDTH as a number of lanes. -/
def widthLanes (code : Nat) : Nat := if code = 1 then 1 else if code = 2 then 2 else if code = 3 then 4 else 0

/-- A number of lanes as a width code. -/
def widthCode (w : Nat) : Nat := if w = 1 then 1 else if w = 2 then 2 else if w = 4 then 3 else 0

/-- The line width of a port for the commit checks (R253). -/
def State.lineWidth (s : State) (p : Nat) : Nat :=
  let w := widthLanes (s.get (R.LNK.LINE_STAT.LINE_WIDTH p))
  if w = 0 then 4 else w

/-- R27 holds for a load of `pix` pixels: pix × b × base rate × views ≤ limit, with the rate as period num/den ns. -/
def lineFits (pix b views : Nat) (num den limit : Nat) : Bool := pix * b * views * den ≤ limit * num

/-- R29 holds: both ports' pixels × subframe rate ≤ 12 Gpx/s. -/
def pixelFits (pix views : Nat) (num den : Nat) : Bool := pix * views * den ≤ 12 * num

/-! ### From tile pixel to canvas point (R157 to R160) -/

/-- `n / d` rounded down or up as free choice `site` decides; exact quotients stay. -/
def openR (site : Nat) (n : Int) (d : Nat) : Int :=
  n / d + (if n % (d : Int) = 0 then 0 else ((Config.rounding site n d % 2 : Nat) : Int))

/-- `x` raised by one where free choice `site` says so. -/
def openUp (site x : Nat) : Nat := x + Config.rounding site x 1 % 2

/-- A binary32 word as an integer in units of 2^-149 (infinities and NaN are refused by the card check and give 0). -/
def f32 (w : Nat) : Int :=
  let e := bitsOf w 23 8
  let f := bitsOf w 0 23
  let v : Int := if e = 0 then f else if e = 255 then 0 else ((0x800000 + f) * 2 ^ (e - 1) : Nat)
  if bitsOf w 31 1 = 1 then -v else v

/-- A point of the canvas, in units of 2^-16 canvas pixel. -/
structure Point where
  x : Int
  y : Int
deriving DecidableEq, Repr

/-- The tolerance of R157 in units of 2^-16 pixel: a free error strictly below 1/64. -/
def mapSlack (k : Nat) (cf : List Nat) (x y : Nat) : Int := ((Config.mapError k cf x y % 2047 : Nat) : Int) - 1023

/-- The projective point of tile pixel (x, y), or none where w ≤ 2^-16 (R158). -/
def projPoint (cf : List Nat) (x y : Nat) : Option Point :=
  let h (j : Nat) : Int := f32 (cf.getD j 0)
  let row (a : Nat) : Int := h a * (2 * x + 1) + h (a + 1) * (2 * y + 1) + 2 * h (a + 2)
  let w := row 6
  -- w is in units of 2^-150
  if w ≤ (2 : Int) ^ 134 then none
  else some ⟨row 0 * 65536 / w + mapSlack 0 cf x y, row 3 * 65536 / w + mapSlack 1 cf x y⟩

/-- One offset of mesh point (i, j): `hi` = 0 for DX, 1 for DY, in 1/16 canvas pixel. -/
def meshAt (b : List Host.Cell) (slot i j hi : Nat) : Int :=
  sgn 16 (readLE cardD b (0x50000 + slot * 0x1200 + (j * 33 + i) * 4 + 2 * hi) 2)

/-- The mesh offset of a pixel (R159), in 2^-16 canvas pixel: bilinear between four mesh points. How it is rounded to that unit
is open (log entry 38). -/
def meshOffset (b : List Host.Cell) (c : Card) (x y hi : Nat) : Int :=
  -- s = (2x + 1) × 16 / W, t likewise; weights over W and H
  let sN := (2 * x + 1) * 16
  let tN := (2 * y + 1) * 16
  let i := min (sN / c.w) 31
  let j := min (tN / c.h) 31
  let fs : Int := (sN : Int) - i * c.w
  let ft : Int := (tN : Int) - j * c.h
  let m (di dj : Nat) : Int := meshAt b c.mesh (i + di) (j + dj) hi
  let n := (m 0 0 * (c.w - fs) + m 1 0 * fs) * (c.h - ft) + (m 0 1 * (c.w - fs) + m 1 1 * fs) * ft
  if c.w * c.h = 0 then 0 else openR 20 (n * 4096) (c.w * c.h)

/-- What MAP finds at a tile pixel: the canvas point, or outside (with a degenerate mark). -/
inductive Spot where
  | at (p : Point)
  | outside
  | degenerate
deriving DecidableEq, Repr

/-- The canvas point of a card's pixel (R157 to R160). -/
def mapPixel (b : List Host.Cell) (cv : Canvas) (c : Card) (x y : Nat) : Spot :=
  match projPoint c.m x y with
  | none => .degenerate
  | some p =>
    let p := if c.meshEn = 1 then ⟨p.x + meshOffset b c x y 0, p.y + meshOffset b c x y 1⟩ else p
    let p : Point := if c.cluster = 1 then ⟨p.x - cv.ox * 65536, p.y - cv.oy * 65536⟩ else p
    if p.x < 0 || p.y < 0 || (cv.cw * 65536 : Nat) ≤ p.x || (cv.ch * 65536 : Nat) ≤ p.y then .outside else .at p

/-! ### The MAP unit -/

/-- The staged and the in-force canvas registers. -/
def State.canvasStaged (s : State) : Canvas :=
  ⟨s.get R.MAP.CANVAS_SIZE.CW, s.get R.MAP.CANVAS_SIZE.CH, s.get R.MAP.CANVAS_ORG_X.X, s.get R.MAP.CANVAS_ORG_Y.Y⟩

/-- The canvas registers in force. -/
def State.canvasForce (s : State) : Canvas :=
  ⟨s.cur R.MAP.CANVAS_SIZE.CW, s.cur R.MAP.CANVAS_SIZE.CH, s.cur R.MAP.CANVAS_ORG_X.X, s.cur R.MAP.CANVAS_ORG_Y.Y⟩

/-- Show the bank in force in CARDS_ACTIVE, PIX_A and PIX_B. -/
def State.showCards (s : State) : State :=
  let cs := enabledCards s.map.force
  ((s.set R.MAP.CARDS_ACTIVE.COUNT cs.length).set R.MAP.PIX_A.PIX (min (portPixels cs 0) (2 ^ 32 - 1))).set
    R.MAP.PIX_B.PIX (min (portPixels cs 1) (2 ^ 32 - 1))

/-- The poison marks of the `n` bytes of SRAM from `a` come to lie on those from `b`, in place of what was marked there: a bank takes
the words of another with their marks (R430). -/
def State.bankMarks (s : State) (a n b : Nat) : State :=
  let l := (s.mem.sram.filter (fun x => a ≤ x && x < a + n)).map (fun x => x - a + b)
  { s with mem := { s.mem with sram := s.mem.sram.filter (fun x => !(b ≤ x && x < b + n)) ++ l } }

/-- The banks exchange roles and the copy into the new staging bank begins (R167). -/
def State.exchangeCards (s : State) : State :=
  let s := { s with map := { s.map with force := s.map.stage } }
  ((s.set R.MAP.CARD_STAT.SYNCING 1).showCards).bankMarks 0x400000 0x200000 0x600000

/-- MAP latches the bank and canvas in force (R168). -/
def State.latchCards (s : State) : State :=
  { s with map := { s.map with latch := s.map.force, canvas := s.canvasForce } }

/-- Store the low `n` bytes of `v` at offset `o` of the staged half, the reserved bits as 0 (R6). -/
def State.cardStore (s : State) (o n v : Nat) : State :=
  let m := if n = 8 then cardMask o + 2 ^ 32 * cardMask (o + 4) else cardMask o
  { s with map := { s.map with stage := writeLE cardD s.map.stage o n (v &&& m) } }

/-- A write to the staged half: it stalls while SYNCING is 1 (R167). -/
def State.cardWrite (s : State) (o n v : Nat) : State :=
  if s.on R.MAP.CARD_STAT.SYNCING then { s with map := { s.map with stalled := s.map.stalled ++ [(o, n, v)] } }
  else s.cardStore o n v

/-- The word at offset `o` of the staged half as it reads once the stalled writes have completed. -/
def State.cardSettled (s : State) (o : Nat) : Nat :=
  readLE cardD (s.map.stalled.foldl (fun (s : State) e => s.cardStore e.1 e.2.1 e.2.2) s).map.stage o 4

/-- Read `n` bytes of the card window at offset `o` (R153). -/
def State.cardRead (s : State) (o n : Nat) : Nat :=
  if o < 0x200000 then readLE cardD s.map.stage o n else readLE cardD s.map.force (o - 0x200000) n

end Sys2Proof.Machine
end

