-- ==== Sys2Proof/Machine/Mailbox.lean ====
section
/-!
DEFINITION. Mailbox channels (R457 to R461): the messages in flight in both directions, sending, removing, timeouts and what
a reset of one side does. Side 0 is A, side 1 is B.
-/
namespace Sys2Proof.Machine

/-- The messages of channel `c`. -/
def State.chan (s : State) (c : Nat) : MbxChan := ((s.mbx.find? (fun e => e.1 == c)).map (·.2)).getD {}

/-- Replace them. -/
def State.setChan (s : State) (c : Nat) (x : MbxChan) : State :=
  { s with mbx := if x = {} then s.mbx.filter (fun e => e.1 != c) else (c, x) :: s.mbx.filter (fun e => e.1 != c) }

/-- The messages that side `k` has sent and that are in flight. -/
def MbxChan.sent (x : MbxChan) (k : Nat) : List (List Nat × Bool) := if k = 0 then x.toB else x.toA

/-- Replace them. -/
def MbxChan.setSent (x : MbxChan) (k : Nat) (l : List (List Nat × Bool)) : MbxChan :=
  if k = 0 then { x with toB := l } else { x with toA := l }

/-- M_STAT and RX of side `k` show the messages in flight. -/
def State.showSide (s : State) (c k : Nat) : State :=
  let x := s.chan c
  let rx := x.sent (1 - k)
  let s := (s.set (R.MBX.M_STAT.TX_INFLIGHT c k) (x.sent k).length).set (R.MBX.M_STAT.RX_COUNT c k) rx.length
  let s := s.set (R.MBX.M_STAT.RX_POISON c k) (match rx with | m :: _ => bit m.2 | [] => 0)
  let w := match rx with | m :: _ => m.1 | [] => []
  s.forN 16 (fun s i => s.set (R.MBX.RX.DATA c k i) (w.getD i 0))

/-- Both sides. -/
def State.showChan (s : State) (c : Nat) : State := (s.showSide c 0).showSide c 1

/-- A message of 16 words from side `k` (R458). -/
def State.mbxPut (s : State) (c k : Nat) (words : List Nat) (poison : Bool) : State :=
  let x := s.chan c
  let l := x.sent k
  if 4 ≤ l.length then (s.set (R.MBX.M_STAT.TX_FULL c k) 1).count (R.MBX.M_REFUSED.COUNT c k)
  else
    let s := (s.setChan c (x.setSent k (l ++ [(words, poison)]))).set (R.MBX.M_STAT.TX_FULL c k) 0
    (s.showChan c).ev (B.mbx c) (if k = 0 then Ev.MBX.B_MSG else Ev.MBX.A_MSG)

/-- The words of TX, and whether one of them is poisoned (R461, R431). -/
def State.txWords (s : State) (c k : Nat) : List Nat × Bool :=
  ((List.range 16).map (fun i => s.get (R.MBX.TX.DATA c k i)),
   (List.range 16).any (fun i => s.sramPoisoned (R.MBX.TX.DATA c k i).addr))

/-- SEND of side `k`. -/
def State.mbxSend (s : State) (c k : Nat) : State :=
  if !s.works (B.mbx c) then s else let (w, p) := s.txWords c k; s.mbxPut c k w p

/-- POP of side `k`: the oldest message of the other side leaves. -/
def State.mbxPop (s : State) (c k : Nat) : State :=
  let x := s.chan c
  match x.sent (1 - k) with
  | [] => s
  | _ :: r =>
    if !s.works (B.mbx c) then s
    else
      let s := (s.setChan c (x.setSent (1 - k) r)).showChan c
      s.evIf (r == []) (B.mbx c) (if k = 1 then Ev.MBX.A_EMPTY else Ev.MBX.B_EMPTY)

/-- MAILBOX_TIMEOUT of messages that side `k` has sent (R459). -/
def State.mbxTimeout (s : State) (c k : Nat) : State :=
  if (s.chan c).sent k = [] || s.get (R.MBX.M_TMO.UNITS c k) = 0 || !s.works (B.mbx c) then s
  else (s.set (R.MBX.M_STAT.TIMEOUT c k) 1).ev (B.mbx c) (if k = 0 then Ev.MBX.A_TIMEOUT else Ev.MBX.B_TIMEOUT)

/-- Every message of the channel is discarded; PEER_RESET is set on the sides of the list (R460). -/
def State.mbxReset (s : State) (c : Nat) (sides : List Nat) : State :=
  sides.foldl (fun s k => s.set (R.MBX.M_STAT.PEER_RESET c k) 1) ((s.setChan c {}).showChan c)

/-- The MC image restarts: side B of every channel was reset. -/
def State.mcRestarts (s : State) : State := s.forN 24 (fun s c => s.mbxReset c [0])

/-! ### What the MC image sends (R462, R515) -/

/-- The 16 words of 64 bytes. -/
def msgWords (l : List Byte) : List Nat := (List.range 16).map (fun i => leNat ((l.drop (4 * i)).take 4))

/-- Messages of the MC image that wait on channel `c` are sent while fewer than 4 messages of side B are in flight (R458). -/
def State.mcFlush (s : State) (c : Nat) : State :=
  s.forN 4 (fun s _ =>
    match (s.chan c).due with
    | [] => s
    | m :: r =>
      if 4 ≤ (s.chan c).toA.length || !s.works (B.mbx c) then s
      else (s.setChan c { s.chan c with due := r }).mbxPut c 1 m.1 m.2)

/-- The MC image sends the messages of a list on channel `c`, as room comes. -/
def State.mcAnswer (s : State) (c : Nat) (l : List (List Nat × Bool)) : State :=
  (s.setChan c { s.chan c with due := (s.chan c).due ++ l }).mcFlush c

end Sys2Proof.Machine
end

