-- ==== Sys2Proof/Machine/Timetable.lean ====
section
/-!
DEFINITION. The tile's geometry and the Timetable (R307, R343, R345, R348, R353, R354, R356, R361, R364, R369): its
fields, the sums derived from it and the checks of Table 12-7. Times are in units of 1/3000 ns unless said otherwise.
-/
namespace Sys2Proof.Machine

/-! ### Geometry -/

/-- Tile width and height (R307). -/
def State.tw (s : State) : Nat := s.get R.COR.GEOM.TW
def State.th (s : State) : Nat := s.get R.COR.GEOM.TH

/-- Emitters per pixel of an EMIT value. -/
def emitters (emit : Nat) : Nat := if emit = 1 then 4 else 3

/-- E of the mode word in force. -/
def State.numE (s : State) : Nat := emitters (s.get R.DEP.MODE_CUR.EMIT)

/-- The number of lamps, TW × TH × E. -/
def State.lamps (s : State) : Nat := s.tw * s.th * s.numE

/-! ### Fields of a bank (Table 12-2) -/

/-- The fields of the header of a Timetable bank. -/
structure Timetable where
  nseg : Nat
  seed : Nat
  groups : Nat
  ports : Nat
  rbEn : Nat
  rbUs : Nat
  gdiv : Nat
  p : Nat
  b : Nat
  q : Nat
  unit : Nat
deriving DecidableEq, Repr

/-- The header of a bank. -/
def timetable (m : List Host.Cell) : Timetable :=
  let w (o : Nat) := readLE zeroB m o 4
  { nseg := bitsOf (w 0) 0 8 + 1, seed := bitsOf (w 0) 16 16, groups := bitsOf (w 4) 0 4, ports := bitsOf (w 4) 8 8
    rbEn := bitsOf (w 4) 16 1, rbUs := bitsOf (w 4) 24 8, gdiv := bitsOf (w 8) 0 8, p := bitsOf (w 8) 8 12
    b := bitsOf (w 8) 20 12, q := bitsOf (w 12) 0 4, unit := bitsOf (w 12) 16 12 }

/-- The lane of a tile column. -/
def laneOf (m : List Host.Cell) (x : Nat) : Nat := (readB zeroB m (0x1000 + x)).toNat % 64

/-- The columns of lane `l` in ascending order. -/
def laneCols (m : List Host.Cell) (tw l : Nat) : List Nat := (List.range tw).filter (fun x => laneOf m x == l)

/-- The largest C_l over all lanes. -/
def maxCols (m : List Host.Cell) (tw : Nat) : Nat :=
  ((List.range 64).map (fun l => (laneCols m tw l).length)).foldl max 0

/-- The bits of the aligned word at offset `o` of a half that can be written. -/
def ttMask (o : Nat) : Nat :=
  if o = 0 then 0xFFFF00FF else if o = 4 then 0xFF01FF0F else if o = 8 then 0xFFFFFFFF else if o = 12 then 0x0FFF000F
  else if 0x1000 ≤ o ∧ o < 0x5000 then 0x3F3F3F3F else 0

/-- Whether two banks differ in a layout field (Table 12-2). -/
def layoutDiffers (a b : List Host.Cell) : Bool :=
  (timetable a).nseg != (timetable b).nseg || (timetable a).seed != (timetable b).seed ||
  (timetable a).groups != (timetable b).groups ||
  a.filter (fun c => 0x1000 ≤ c.1) != b.filter (fun c => 0x1000 ≤ c.1)

/-! ### Derived times -/

/-- T_SHIFT (R361). -/
def tShift (m : List Host.Cell) (tw e nb : Nat) : Nat := maxCols m tw * e * nb * 3699 * 3

/-- Duration of slot `j` of a PLANE visit (R361). -/
def slotTime (m : List Host.Cell) (tw e nb j : Nat) : Nat :=
  max (2 ^ j * (timetable m).unit * (timetable m).gdiv * 2000) (tShift m tw e nb)

/-- T_row (R348, R361). -/
def tRow (m : List Host.Cell) (sink tw e nb : Nat) : Nat :=
  let t := timetable m
  if sink = 1 then ((List.range t.q).map (slotTime m tw e nb)).foldl (· + ·) 0 + t.b * t.gdiv * 2000
  else (t.p + t.b) * t.gdiv * 2000

/-- T_LOAD (R356), in 1/100 ns. -/
def tLoad (m : List Host.Cell) (sink tw th e : Nat) : Nat :=
  if sink = 1 then tw * th * e * 50 else maxCols m tw * e * th * 5919

/-- T_BL (R364), in 1/100 ns. -/
def tBand (m : List Host.Cell) (sink tw e s : Nat) : Nat :=
  if sink = 1 then tw * e * s * 50 else maxCols m tw * e * s * 5919

/-- The shortest gap: 4 µs, plus the readback window. -/
def gapMin (t : Timetable) : Nat := (4 + (if t.rbEn = 1 then t.rbUs else 0)) * 3000000

/-- The times of the view departures of a frame and of the next frame departure, in units of 1/(3 v) ns (R114). -/
def viewEdges (rate : Nat) (vphase : List Nat) (v : Nat) : List Nat :=
  let num := (rateFrac rate).1
  let den := (rateFrac rate).2
  (List.range v).map (fun k =>
    if k = 0 then 0 else if vphase.getD (k - 1) 0 = 0 then k * num * (3 / den) else vphase.getD (k - 1) 0 * 3 * v) ++
  [num * v * (3 / den)]

/-- T_sub,min in units of 1/(3 v) ns. -/
def subMin (rate : Nat) (vphase : List Nat) (v : Nat) : Nat :=
  let e := viewEdges rate vphase v
  match (e.zip (e.drop 1)).map (fun p => p.2 - p.1) with
  | [] => 0
  | d :: r => r.foldl min d

/-- The smallest integer not below `n` × 0.618 that is coprime with `n` (R354). -/
def spread (n : Nat) : Nat :=
  let a0 := (n * 618 + 999) / 1000
  match (List.range (n + 1)).find? (fun i => Nat.gcd (a0 + i) n == 1) with
  | some i => a0 + i
  | none => 1

/-! ### The checks (Table 12-7) -/

/-- Whether the lanes of a bank are right (code 0x12). -/
def lanesOk (m : List Host.Cell) (tw : Nat) : Bool :=
  let g := (timetable m).groups
  let c (l : Nat) : Nat := (laneCols m tw l).length
  g != 0 && g ≤ 8 && (List.range tw).all (fun x => laneOf m x < 8 * g) &&
  (List.range (8 * g)).all (fun l => c l != 0 && c l == c (l / 8 * 8))

/-- The first failing check of a bank under a mode word, a rate and view phases; 0 when all pass. -/
def ttCheck (m : List Host.Cell) (tw th : Nat) (w : ModeW) (rate : Nat) (vphase : List Nat) : Nat :=
  let t := timetable m
  let s := w.scan + 1
  let e := emitters w.emit
  let v := w.views + 1
  let sub := subMin rate vphase v
  if s > th || th % s != 0 then 0x10
  else if t.gdiv < 10 || t.b < 2 then 0x11
  else if !lanesOk m tw then 0x12
  else if (if w.sink = 1 then t.q == 0 || t.q > 14 || t.unit == 0 || 2 ^ t.q - 1 < (16383 + t.nseg - 1) / t.nseg
      else t.p < (65535 + t.nseg - 1) / t.nseg) then 0x13
  else if (t.nseg * s * tRow m w.sink tw e (th / s) + gapMin t) * v > sub * 1000 then 0x14
  else if (tLoad m w.sink tw th e + 20000000) * 3 * v > sub * 100 then 0x15
  else if t.ports == 0 && s > 1 then 0x17
  else 0

/-! ### Registers that show what is in force (Table 12-9) -/

/-- The mode word in force. -/
def State.modeCur (s : State) : ModeW :=
  { timing := s.get R.DEP.MODE_CUR.TIMING, views := s.get R.DEP.MODE_CUR.VIEWS, codA := s.get R.DEP.MODE_CUR.CODING_A
    codB := s.get R.DEP.MODE_CUR.CODING_B, redun := s.get R.DEP.MODE_CUR.REDUN, sink := s.get R.DEP.MODE_CUR.SINK
    emit := s.get R.DEP.MODE_CUR.EMIT, scan := s.get R.DEP.MODE_CUR.SCAN }

/-- S, NB and the number of views in force. -/
def State.scanS (s : State) : Nat := s.get R.DEP.MODE_CUR.SCAN + 1
def State.nb (s : State) : Nat := s.th / s.scanS

/-- The view phases in force. -/
def State.vphaseCur (s : State) : List Nat := [0, 1, 2].map (fun i => s.get (R.DEP.VPHASE_CUR.VPHASE i))

/-- The staged view phases. -/
def State.vphaseNext (s : State) : List Nat := [0, 1, 2].map (fun i => s.get (R.DEP.VPHASE.V i))

/-- Show the Timetable in force in the derived registers. -/
def State.showTimetable (s : State) : State :=
  let m := s.scn.force
  let t := timetable m
  let w := s.modeCur
  let v := w.views + 1
  let rate := s.get R.TIM.RATE_CUR.RATE
  let row := tRow m w.sink s.tw s.numE s.nb
  let rc := s.scanS * row
  -- 1/(3 v) ns = 1000/(3000 v); the gap of the shortest subframe
  let gap := (subMin rate s.vphaseCur v * 1000 - t.nseg * rc * v) / v
  let slots := if w.sink = 1 then t.nseg * t.q else 16
  let (num, den) := rateFrac rate
  let s := ((s.set R.SCN.T_ROW.CYC (roundDiv row 2000).toNat).set R.SCN.T_RC.CYC (roundDiv rc 2000).toNat).set R.SCN.T_GAP.CYC (roundDiv gap 2000).toNat
  let s := (s.set R.SCN.REFRESH.HZ (roundDiv (t.nseg * v * den * 1000000000 * 16 : Nat) num).toNat).set R.SCN.SPREAD.A (spread t.nseg)
  let s := (s.set R.SCN.T_LOAD.NS (roundDiv (tLoad m w.sink s.tw s.th s.numE) 100).toNat).set R.SCN.T_BL.NS (roundDiv (tBand m w.sink s.tw s.numE s.scanS) 100).toNat
  s.set R.SCN.BUS_LOAD.GBPS (roundDiv (s.lamps * slots * v * den * 100 : Nat) num).toNat

/-- The on-count N_k of a lamp with value `x` and position `c` in cycle `k` (R354). -/
def onCount (t : Timetable) (x k c : Nat) : Nat := (x + (k * spread t.nseg + t.seed + c) % t.nseg) / t.nseg

end Sys2Proof.Machine
end

