-- ==== Sys2Proof/Machine/Wire.lean ====
section
/-!
DEFINITION. The digital coding of a Tybel lane (R216 to R220, R224): PAM4 levels and precoding, the PRBS31 scrambler,
Reed-Solomon codewords, alignment markers, and training frames. A sequence of levels or of bit pairs is a number with two
bits for each, the first lowest.
-/
namespace Sys2Proof.Machine

/-! ### Levels (R216, R217) -/

/-- The level of a bit pair v = 2 b_hi + b_lo, and the pair of a level: the Gray map is its own inverse. -/
def grayMap (v : Nat) : Nat := if v % 4 = 2 then 3 else if v % 4 = 3 then 2 else v % 4

/-- Apply `f` to each of `n` two-bit elements, in order, with a state. -/
def mapPairs (f : Nat → Nat → Nat × Nat) : Nat → Nat → Nat → Nat × Nat
  | 0, y, _ => (0, y)
  | n + 1, y, w =>
    let (o, y) := f y (w % 4)
    let (r, y) := mapPairs f n y (w / 4)
    (o + 4 * r, y)

/-- The levels of `n` bit pairs, and the pairs of `n` levels. -/
def grayPairs (n w : Nat) : Nat := (mapPairs (fun y v => (grayMap v, y)) n 0 w).1

/-- Every level mirrored, 3 - L (R224). -/
def mirrorPairs (n w : Nat) : Nat := (mapPairs (fun y v => (3 - v, y)) n 0 w).1

/-- Precoding of `n` levels from the last symbol `y` sent: y_n = (x_n - y_(n-1)) mod 4 (R217), and the last one sent. -/
def precode (n y w : Nat) : Nat × Nat := mapPairs (fun y x => ((x + 4 - y) % 4, (x + 4 - y) % 4)) n y w

/-- What a receiver recovers: x_n = (y_n + y_(n-1)) mod 4, and the last symbol received. -/
def unprecode (n y w : Nat) : Nat × Nat := mapPairs (fun y v => ((v + y) % 4, v)) n y w

/-! ### The scrambler (R218) -/

/-- What the PRBS31 generator x^31 + x^28 + 1 is loaded with on a logical lane. -/
def scrambleSeed (lane : Nat) : Nat := 0x7FFFFFF0 + lane

/-- One bit of the generator, and its next state. The bit that is fed back is the one that is sent (DESIGN CHOICE, log entry 97). -/
def prbs31 (st : Nat) : Nat × Nat :=
  let b := (bitsOf st 30 1 + bitsOf st 27 1) % 2
  (b, (2 * st + b) % 2 ^ 31)

/-- The next `n` bits of the generator as a number, bit 0 first, and the state after them. -/
def prbs31Bits : Nat → Nat → Nat × Nat
  | 0, st => (0, st)
  | n + 1, st =>
    let (b, st) := prbs31 st
    let (r, st) := prbs31Bits n st
    (b + 2 * r, st)

/-- Scramble, or descramble, the 640 data bits of a codeword. -/
def scramble (st d : Nat) : Nat × Nat :=
  let (k, st) := prbs31Bits 640 st
  (d ^^^ k, st)

/-! ### Reed-Solomon codewords (R219) -/

/-- Product in the field of 1,024 elements with polynomial x^10 + x^3 + 1. -/
def gfMul (a b : Nat) : Nat :=
  ((List.range 10).foldl (fun (r : Nat × Nat) i =>
    (if bitAt b i then r.1 ^^^ r.2 else r.1, if 512 ≤ r.2 then (2 * r.2) ^^^ 1033 else 2 * r.2)) (0, a)).1

/-- A power of the root α = 2. -/
def alphaPow (n : Nat) : Nat := (List.range n).foldl (fun a _ => gfMul a 2) 1

/-- The inverse of a non-zero element, its 1,022nd power. -/
def gfInv (a : Nat) : Nat :=
  ((List.range 9).foldl (fun (r : Nat × Nat) _ => (gfMul r.1 r.2, gfMul r.2 r.2)) (1, gfMul a a)).1

/-- Symbol `i` of a codeword. -/
def symbolAt (w i : Nat) : Nat := bitsOf w (10 * i) 10

/-- The four parity symbols of 64 data symbols: the remainder by (x - 1)(x - α)(x - α^2)(x - α^3), symbol 0 the coefficient of the
highest power (DEDUCED: it is sent first, and the parity follows). -/
def rsParity (data : Nat) : Nat :=
  let r := (List.range 64).foldl (fun (r : Nat × Nat × Nat × Nat) i =>
    let fb := symbolAt data i ^^^ r.1
    (r.2.1 ^^^ gfMul fb 15, r.2.2.1 ^^^ gfMul fb 54, r.2.2.2 ^^^ gfMul fb 120, gfMul fb 64)) (0, 0, 0, 0)
  r.1 + 2 ^ 10 * r.2.1 + 2 ^ 20 * r.2.2.1 + 2 ^ 30 * r.2.2.2

/-- A codeword of 680 bits. -/
def rsEncode (data : Nat) : Nat := data % 2 ^ 640 + 2 ^ 640 * rsParity data

/-- Syndrome `i`: the codeword's polynomial at α^i. -/
def syndrome (w i : Nat) : Nat := (List.range 68).foldl (fun a j => gfMul a (alphaPow i) ^^^ symbolAt w j) 0

/-- The location of symbol `j`: α to the power of its term. -/
def location (j : Nat) : Nat := alphaPow (67 - j)

/-- Symbol `j` of a codeword with error value `e` taken away. -/
def fixSymbol (w j e : Nat) : Nat := w ^^^ (2 ^ (10 * j) * e)

/-- The data bits and the whole codeword with up to two wrong symbols corrected, or none where it holds more. -/
def rsDecode (w : Nat) : Option Nat :=
  let s0 := syndrome w 0
  let s1 := syndrome w 1
  let s2 := syndrome w 2
  let s3 := syndrome w 3
  if s0 = 0 ∧ s1 = 0 ∧ s2 = 0 ∧ s3 = 0 then some w
  else
    let det := gfMul s0 s2 ^^^ gfMul s1 s1
    if det = 0 then
      -- one error: S1 = S0 X, S2 = S1 X, S3 = S2 X
      ((List.range 68).find? (fun j =>
        s0 != 0 && s1 == gfMul s0 (location j) && s2 == gfMul s1 (location j) && s3 == gfMul s2 (location j))).map
          (fun j => fixSymbol w j s0)
    else
      let k := gfInv det
      let a := gfMul k (gfMul s0 s3 ^^^ gfMul s1 s2)
      let b := gfMul k (gfMul s1 s3 ^^^ gfMul s2 s2)
      match (List.range 68).filter (fun j => gfMul (location j) (location j ^^^ a) ^^^ b == 0) with
      | [i, j] =>
        let x := location i
        let y := location j
        let e := gfMul (gfInv (x ^^^ y)) (s1 ^^^ gfMul s0 y)
        if e = 0 ∨ e = s0 then none else some (fixSymbol (fixSymbol w i e) j (s0 ^^^ e))
      | _ => none

/-! ### Codewords on a lane (R219, R220) -/

/-- The data codeword of 5 flits, scrambled, and the state of the scrambler after it. -/
def dataWord (st : Nat) (flits : List Nat) : Nat × Nat :=
  let (d, st) := scramble st (packBits 128 flits)
  (rsEncode d, st)

/-- AM codeword `i` of a slot of `n` (Table 8-2): port lane, logical lane, width code, mask of the lanes in service and slot counter. -/
def amWord (k logical width mask i n slot : Nat) : Nat :=
  let head := packBits 10 [0x2A5, 0x15A, 0x3C3, 0x03C, 0x2A5, 0x15A, 0x3C3, 0x03C, k + 4 * logical + 16 * width + 64 * mask,
    i + 8 * n, slot % 1024, slot / 1024 % 1024]
  rsEncode (head + 2 ^ 120 * packBits 10 ((List.range 52).map (fun j => if j % 2 = 0 then 0x2A5 else 0x15A)))

/-- A received word has the markers of an AM codeword. -/
def isAmWord (w : Nat) : Bool := bitsOf w 0 80 == bitsOf (amWord 0 0 0 0 0 0 0) 0 80

/-! ### Training frames (R224, Table 8-4) -/

/-- The seed of the training pattern on a port lane. -/
def trainSeed (k : Nat) : Nat := [0x0AFB, 0x0F37, 0x1D49, 0x13A2].getD k 0

/-- One bit of PRBS13, 1 + x + x^2 + x^12 + x^13, and its next state (its conventions as for PRBS31, log entry 97). -/
def prbs13 (st : Nat) : Nat × Nat :=
  let b := (bitsOf st 12 1 + bitsOf st 11 1 + bitsOf st 1 1 + bitsOf st 0 1) % 2
  (b, (2 * st + b) % 2 ^ 13)

/-- The state after `n` bits; the sequence repeats after 8,191. -/
def prbs13Skip (n st : Nat) : Nat := (List.range (n % 8191)).foldl (fun st _ => (prbs13 st).2) st

/-- The next `n` bit pairs of the pattern, the first bit of a pair its low one. -/
def prbs13Pairs : Nat → Nat → Nat
  | 0, _ => 0
  | n + 1, st =>
    let (a, st) := prbs13 st
    let (b, st) := prbs13 st
    a + 2 * b + 4 * prbs13Pairs n st

/-- `n` symbols of one level. -/
def levelRun (n l : Nat) : Nat := (List.range n).foldl (fun w _ => 4 * w + l) 0

/-- A field of 24 bits, bit 0 first, 8 symbols of level 3 or 0 for each bit. -/
def fieldLevels (v : Nat) : Nat := (List.range 24).foldr (fun i w => 4 ^ 8 * w + levelRun 8 (3 * bitsOf v i 1)) 0

/-- The 8,192 levels of a training frame with its two fields, the pattern continuing from state `st`. -/
def trainingLevels (ctl sta st : Nat) : Nat :=
  levelRun 32 3 + 4 ^ 64 * fieldLevels ctl + 4 ^ 256 * fieldLevels sta + 4 ^ 448 * grayPairs 7744 (prbs13Pairs 7744 st)

end Sys2Proof.Machine
end

