-- ==== Sys2Proof/Machine/Transmit.lean ====
section
/-!
DEFINITION. The transmitter of a Tybel port (R235 to R247, R265): the control queue, the groups of an originator and of a
forwarding tile, headers with CRC and MAP, the replay buffer, and the codewords and alignment markers that carry them.
DESIGN CHOICE (log entry 98): a transmitter sends a group when a command gives it the occasion, one for the time of each
group that is received, and OTG's flits at the latest when OTG has finished the frame; between commands it goes on with
groups of IDLE flits that the model does not show.
-/
namespace Sys2Proof.Machine

/-! ### Lanes and ports -/

/-- Port of a physical lane, and its port lane (R212). -/
def lanePort (l : Nat) : Nat := if l < 12 then 0 else 1
def laneIdx (l : Nat) : Nat := l % 4

/-- The physical lane of a port lane. -/
def physLane (p k : Nat) : Nat := 8 + 4 * p + k

/-- What a lane does beside its registers. -/
def State.lane (s : State) (l : Nat) : LaneSt := s.line.lanes.getD l {}

/-- Replace it. -/
def State.setLane (s : State) (l : Nat) (x : LaneSt) : State :=
  { s with line := { s.line with lanes := s.line.lanes.mapIdx (fun i y => if i = l then x else y) } }

/-- A port beside its registers. -/
def State.port (s : State) (p : Nat) : PortSt := if p = 0 then s.line.port0 else s.line.port1

/-- Replace it. -/
def State.setPort (s : State) (p : Nat) (x : PortSt) : State :=
  { s with line := if p = 0 then { s.line with port0 := x } else { s.line with port1 := x } }

/-- Stages of Table 8-3. -/
def Stage.disabled : Nat := 0
def Stage.detect : Nat := 1
def Stage.train : Nat := 2
def Stage.lock : Nat := 3
def Stage.capx : Nat := 4
def Stage.active : Nat := 5
def Stage.down : Nat := 6
def Stage.held : Nat := 7

/-- STAGE of a port. -/
def State.stage (s : State) (p : Nat) : Nat := s.get (R.LNK.PORT_STAT.STAGE p)
def State.setStage (s : State) (p v : Nat) : State := s.set (R.LNK.PORT_STAT.STAGE p) v

/-- The port is in ACTIVE. -/
def State.portActive (s : State) (p : Nat) : Bool := s.get (R.LNK.PORT_STAT.STAGE p) == 5

/-- A set of port lanes as a mask, and a mask as the list of its lanes. -/
def laneSet (l : List Nat) : Nat := (l.eraseDups).foldl (fun m k => m + 2 ^ k) 0
def lanesOf (m : Nat) : List Nat := (List.range 4).filter (bitAt m)

/-- Working lanes, and lanes in service, of a port. -/
def State.working (s : State) (p : Nat) : List Nat := lanesOf (s.get (R.LNK.PORT_STAT.WORKING p))
def State.inService (s : State) (p : Nat) : List Nat := lanesOf (s.get (R.LNK.PORT_STAT.IN_SERVICE p))

/-- WMASK that a MAX_WIDTH code allows of some lanes (R214, R249). -/
def maskFor (max : Nat) (l : List Nat) : List Nat := if max = 1 then l.take 2 else if max = 2 then l.take 1 else l

/-- The port lanes this end offers in its WMASK: without AUTO_WIDEN only lanes in service (R250). -/
def State.wmask (s : State) (p : Nat) : List Nat :=
  let w := s.working p
  maskFor (s.port p).maxWidth
    (if s.on (R.LNK.PORT_CTRL.AUTO_WIDEN p) then w else w.filter (fun k => (s.inService p).contains k))

/-- A counter of an LNK page, held while software freezes the page (R259). -/
def State.lnkCount (s : State) (p : Nat) (f : Fld) (n : Nat) : State := if s.on (R.PG.FREEZE (B.lnk p)) then s else s.count f n

/-- Lane states of Table 8-20. -/
def LaneS.off : Nat := 0
def LaneS.detect : Nat := 1
def LaneS.train : Nat := 2
def LaneS.lock : Nat := 3
def LaneS.inService : Nat := 4
def LaneS.spare : Nat := 5
def LaneS.failed : Nat := 6
def LaneS.retrain : Nat := 7

/-- STATE of a lane. -/
def State.laneState (s : State) (l : Nat) : Nat := s.get (R.LNL.LANE_STAT.STATE l)
def State.setLaneState (s : State) (l v : Nat) : State := s.set (R.LNL.LANE_STAT.STATE l) v

/-! ### Symbols of a lane (R216 to R220) -/

/-- A codeword leaves lane `l`, precoded where precoding is on. -/
def State.sendWord (s : State) (l w : Nat) : State :=
  let g := grayPairs 340 w
  if s.on (R.LNL.LANE_STAT.PRE_TX l) then
    let (v, y) := precode 340 (s.lane l).txY g
    (s.setLane l { s.lane l with txY := y }).emit (.symbols l 340 v)
  else s.emit (.symbols l 340 g)

/-- The next data codeword of logical lane `i` of port `p`, on port lane `k`. A lane that trains sends training frames in its place
(R250). -/
def State.sendData (s : State) (p i k : Nat) : State :=
  let l := physLane p k
  if s.laneState l = LaneS.retrain then s
  else
    let (w, st) := dataWord (s.lane l).txScr (((s.port p).acc.getD i []).take 5)
    (s.setLane l { s.lane l with txScr := st }).sendWord l w

/-- An AM slot of `n` codewords leaves every lane in service, and the scramblers are loaded (R218, R220). -/
def State.sendAm (s : State) (p n : Nat) : State :=
  let x := s.port p
  let mask := s.get (R.LNK.PORT_STAT.IN_SERVICE p)
  let width := s.get (R.LNK.PORT_STAT.WIDTH p)
  let s := s.emit (.amSlot p mask n)
  let s := (s.inService p).zipIdx.foldl (fun s e =>
    let s := s.forN n (fun s i => s.sendWord (physLane p e.1) (amWord e.1 e.2 width mask i n x.slots))
    s.setLane (physLane p e.1) { s.lane (physLane p e.1) with txScr := scrambleSeed e.2 }) s
  s.setPort p { s.port p with words := 0, slots := (x.slots + 1) % 2 ^ 20, amLen := n }

/-- The length of the next AM slot: 3 at mid-fill of the elastic buffer, one step per slot toward fewer or more as its fill, which
the clocks decide, lies above or below (R220). -/
def State.nextAm (s : State) (p : Nat) : Nat := max 1 (min 5 ((s.port p).amLen + Config.choice s.fresh % 3 - 1))

/-- One data codeword leaves every lane in service; after 16,384 of them an AM slot follows. -/
def State.sendWords (s : State) (p : Nat) : State :=
  let s := (s.inService p).zipIdx.foldl (fun s e => s.sendData p e.2 e.1) s
  let x := s.port p
  let s := s.setPort p { x with acc := x.acc.map (·.drop 5), words := x.words + 1 }
  if x.words + 1 < 16384 then s
  else
    let n := s.nextAm p
    (s.draw).sendAm p n

/-- Flits join the stream of port `p`: flit i goes on logical lane i mod W (R235). -/
def State.pushFlits (s : State) (p : Nat) (l : List Nat) : State :=
  let w := (s.inService p).length
  let x := s.port p
  let acc := (List.range w).map (fun i => x.acc.getD i [] ++ (l.zipIdx.filter (fun e => e.2 % w == i)).map (·.1))
  let s := s.setPort p { x with acc := acc }
  s.forN ((acc.headD []).length / 5) (fun s _ => s.sendWords p)

/-! ### Messages as flits (R237, R265) -/

/-- The priority of a message in the control queue (R265), 0 the highest; CAPX, which R265 does not name, comes with the link-delay
exchange (DESIGN CHOICE, log entry 98). -/
def Msg.rank : Msg → Nat
  | .ldReq _ => 0
  | .ldRsp _ _ => 0
  | .capx _ => 0
  | .time _ => 1
  | .sched _ => 1
  | .linkState _ => 2
  | .rsp _ => 3
  | .enumRsp _ => 3
  | .req _ => 4
  | .enumMsg _ => 4
  | .mirror _ => 5
  | .telem _ => 6
  | .svc _ => 7
  | .svcAck _ => 7

/-- The message that leaves next: the oldest of the highest priority. -/
def nextMsg (q : List Msg) : Option Msg := (List.range 8).findSome? (fun c => q.find? (fun m => m.rank == c))

/-- The CTRL_FIRST flit of a TIME or link-delay message lies on the timing lane (R237). -/
def laneBound (type : Nat) : Bool := [1, 9, 10].contains type

/-- The four flits of a message. -/
def Msg.flits (m : Msg) : List Nat := (List.range 4).map (fun j => leNat ((m.bytes.drop (16 * j)).take 16))

/-- The data slots that a message fills. -/
def Msg.slots (m : Msg) : List FwdSlot :=
  m.flits.zipIdx.map (fun e => { code := if e.2 = 0 then 2 else 3, flit := e.1, type := m.type })

/-- A message enters the control queue of port `p`. -/
def State.queueMsg (s : State) (p : Nat) (m : Msg) : State :=
  (s.emit (.msg p m)).setPort p { s.port p with txq := (s.port p).txq ++ [m] }

/-! ### Composing groups (R236 to R239) -/

/-- The slots that an originator fills from data slot `k` on, with at most `nv` video flits and `nc` control flits; what is left of
the queue and of the video, and the own messages. Own messages do not straddle groups. -/
def fillOwn (w : Nat) : Nat → Nat → Nat → Nat → List Msg → List Nat → List FwdSlot × List Msg × List Nat × List Msg
  | 0, _, _, _, q, vq => ([], q, vq, [])
  | n + 1, k, nv, nc, q, vq =>
    if 31 < k then ([], q, vq, [])
    else
      let m := if nc < 4 || 31 < k + 3 then none
        else (nextMsg q).filter (fun m => !laneBound m.type || k % w == 0)
      match m with
      | some m =>
        let (l, q, vq, own) := fillOwn w n (k + 4) nv (nc - 4) (q.erase m) vq
        (m.slots ++ l, q, vq, m :: own)
      | none =>
        match nv, vq with
        | nv + 1, v :: r =>
          let (l, q, vq, own) := fillOwn w n (k + 1) nv nc q r
          ({ code := 1, flit := v } :: l, q, vq, own)
        | _, _ =>
          let (l, q, vq, own) := fillOwn w n (k + 1) nv nc q vq
          ({} :: l, q, vq, own)

/-- Video slots and own control slots of a group. -/
def TxGroup.used (g : TxGroup) : Nat × Nat := ((g.codes.filter (· == 1)).length, 4 * g.own.length)

/-- How many video flits and control flits the next group of an originator may hold (R239): of the data slots of 64 groups at least
82 stay free of video, and of those free of video 21 stay IDLE; waiting control takes precedence up to 82 × 4 / W. The 63 groups
before it are the one that is announced and the last 62 sent. -/
def PortSt.budget (x : PortSt) (w : Nat) : Nat × Nat :=
  let before := x.nextG.used :: x.used.take 62
  let free := 1953 - (before.map (·.1)).foldl (· + ·) 0
  let own := (before.map (·.2)).foldl (· + ·) 0
  let waits := 4 * x.txq.length
  let keep := max 82 (min (82 * 4 / w) (own + waits + 21))
  let nv := min x.vq.length (min 31 (free + 31 - keep))
  (nv, min waits (free + 31 - nv - 21 - own))

/-- Take `n` IDLE slots out of a list, the first ones. -/
def dropIdle : Nat → List FwdSlot → List FwdSlot
  | 0, l => l
  | _, [] => []
  | n + 1, e :: r => if e.code = 0 then dropIdle n r else e :: dropIdle (n + 1) r

/-- How many slots at the front of a list go on with a message. -/
def moreSlots (l : List FwdSlot) : Nat := (l.takeWhile (fun e => e.code == 3)).length

/-- The forwarded slots from data slot `k` on, and what stays in the buffer: a message bound to the timing lane waits for a slot there,
and one of which flits have still to come waits for those that follow it in this group (R237). -/
def layFwd (w : Nat) : Nat → Nat → List FwdSlot → List FwdSlot × List FwdSlot
  | 0, _, l => ([], l)
  | n + 1, k, l =>
    match l with
    | [] =>
      let (a, r) := layFwd w n (k + 1) []
      ({} :: a, r)
    | e :: r =>
      if e.code = 2 && ((laneBound e.type && k % w != 0) || (moreSlots r < min 3 n && !e.bad && r.all (fun f => !f.bad))) then
        let (a, r) := layFwd w n (k + 1) (e :: r)
        ({} :: a, r)
      else
        let (a, r) := layFwd w n (k + 1) r
        (e :: a, r)

/-- A tile's own messages go into slots that arrive IDLE (R238): the slots, the queue, and the messages inserted. -/
def insertOwn (w : Nat) : Nat → Nat → List FwdSlot → List Msg → List FwdSlot × List Msg × List Msg
  | 0, _, l, q => (l, q, [])
  | n + 1, k, l, q =>
    match l with
    | a :: b :: c :: d :: r =>
      match (nextMsg q).filter (fun m => [a, b, c, d].all (fun e => e.code == 0) && (!laneBound m.type || k % w == 0)) with
      | some m =>
        let (r, q, own) := insertOwn w n (k + 4) r (q.erase m)
        (m.slots ++ r, q, m :: own)
      | none =>
        let (r, q, own) := insertOwn w n (k + 1) (b :: c :: d :: r) q
        (a :: r, q, own)
    | _ => (l, q, [])

/-- The group that 31 slots make, with the own messages in it. -/
def groupOf (l : List FwdSlot) (own : List Msg) : TxGroup :=
  { codes := l.map (·.code), flits := l.map (·.flit), again := l.map (fun e => if laneBound e.type then (0, 0) else (e.code, e.flit))
    stomped := l.any (·.bad), own := own }

/-- Control flits still to come after some codes. -/
def openAfter (n : Nat) (codes : List Nat) : Nat :=
  codes.foldl (fun n c => if c = 2 then 3 else if c = 3 then n - 1 else n) n

/-- The next group of an originator: the port after it, and the group. -/
def PortSt.composeOwn (x : PortSt) (w : Nat) : PortSt × TxGroup :=
  let (nv, nc) := x.budget w
  let (l, q, vq, own) := fillOwn w 31 1 nv nc x.txq x.vq
  ({ x with txq := q, vq := vq }, groupOf l own)

/-- The next group of a direction that a tile forwards. Of a group that leaves stomped (R243), the flits that came in accepted groups
stay in the buffer and leave again, in order. -/
def PortSt.composeFwd (x : PortSt) (w : Nat) : PortSt × TxGroup :=
  let (l, rest) := layFwd w 31 1 (dropIdle (x.fwd.length - 31) x.fwd)
  let rest := if l.any (·.bad) then l.filter (fun e => !e.bad && e.code != 0) ++ rest else rest
  let open_ := if l.any (·.bad) then x.fwdOpen else openAfter x.fwdOpen (l.map (·.code))
  let (l, q, own) := insertOwn w 31 1 l x.txq
  ({ x with txq := q, fwd := rest, fwdOpen := open_ }, groupOf l own)

/-! ### Sending groups (R235, R236, R244) -/

/-- The CRC-24 of a group (R236): header bits [127:56] and [31:0], then the data flits, each from bit 127 down. -/
def crc24 (hdr : Nat) (flits : List Nat) : Nat :=
  let c := crcBits 24 0x864CFB (bitsOf hdr 56 72) 72 0xFFFFFF
  let c := crcBits 24 0x864CFB (bitsOf hdr 0 32) 32 c
  flits.foldl (fun c f => crcBits 24 0x864CFB f 128 c) c

/-- The header of a group (Table 8-10): its SEQ, what the receiver of the port has accepted, the width request, the CRC of the group
before it, complemented where that was stomped, and the codes of the next one. -/
def State.header_ (s : State) (p seq : Nat) (next : List Nat) : Nat :=
  let x := s.port p
  seq + 2 ^ 12 * ((x.expect + 4095) % 4096) + 2 ^ 24 * bit x.got + 2 ^ 25 * bit x.nakDue + 2 ^ 26 * bit x.wTx.isSome +
    2 ^ 27 * (x.wTx.getD (laneSet (s.wmask p))) + 2 ^ 32 * (if x.crcBad then 0xFFFFFF - x.crc else x.crc) + 2 ^ 56 * packBits 2 next

/-- The announced group leaves port `p`, and `g` is announced in its MAP. A group that is not stomped is kept from CAPX on until it is
acknowledged; own messages of a stomped one are queued again (R243). -/
def State.txSend (s : State) (p : Nat) (g : TxGroup) : State :=
  let x := s.port p
  let o := x.nextG
  let seq := o.seq.getD x.txSeq
  let hdr := s.header_ p seq g.codes
  let fresh := o.seq.isNone && !o.stomped
  let kept : SentGroup := { seq := seq, codes := o.again.map (·.1), flits := o.again.map (·.2), at_ := s.frc, last := s.frc }
  let s := s.emit (.group p hdr o.flits)
  let s := s.setPort p { x with
    nextG := g, crc := crc24 hdr o.flits, crcBad := o.stomped, nakDue := false, txSeq := if fresh then (seq + 1) % 4096 else x.txSeq
    sent := if fresh && Stage.capx ≤ s.stage p then x.sent ++ [kept] else x.sent
    txq := if o.stomped then o.own ++ x.txq else x.txq, used := (o.used :: x.used).take 63 }
  s.pushFlits p (hdr :: o.flits)

/-- Both ports of a tile carry a line: it forwards (R238). -/
def State.forwards (s : State) : Bool := s.role == .tile && s.portActive 0 && s.portActive 1

/-- The rest of a forwarded message that the next group begins with has not come (R237). -/
def PortSt.lacks (x : PortSt) : Bool := moreSlots x.fwd < x.fwdOpen && x.fwd.all (fun e => !e.bad)

/-- Port `p` sends one group, unless its replay buffer is full or the rest of a forwarded message has not come. -/
def State.txGroup (s : State) (p : Nat) : State :=
  let x := s.port p
  let w := (s.inService p).length
  if w = 0 || 1024 ≤ x.sent.length then s
  else if s.forwards then
    if x.lacks then s
    else
      let (x, g) := x.composeFwd w
      (s.setPort p x).txSend p g
  else
    let (x, g) := x.composeOwn w
    (s.setPort p x).txSend p g

/-- The time of one group at width `w`, in quarters of a group at width 4. -/
def groupTime (w : Nat) : Int := if w = 1 then 16 else if w = 2 then 8 else 4

/-- A group holds a forwarded TIME message. -/
def TxGroup.holdsTime (g : TxGroup) : Bool :=
  (g.codes.zip g.flits).any (fun e => e.1 == 2 && e.2 % 16 == 1)

/-- Port `p` sends what the time of a group received at width `w` lets it send. After the first group, one that a tile forwards with a
TIME message waits for the next turn: the message is rewritten before it leaves (R238). -/
def State.txTurn (s : State) (p w : Nat) : State :=
  let s := s.setPort p { s.port p with credit := (s.port p).credit + groupTime w }
  s.forN 8 (fun s i =>
    let x := s.port p
    let c := groupTime (s.inService p).length
    if x.credit < c || (i != 0 && s.forwards && x.nextG.holdsTime) then s
    else (s.setPort p { x with credit := x.credit - c }).txGroup p)

/-- The transmitter starts with LOCK (R232, R236): the precoders at 0 (R217), an AM slot, and a first group of IDLE flits with SEQ 0. -/
def State.txStart (s : State) (p : Nat) : State :=
  let s := (s.inService p).foldl (fun s k => s.setLane (physLane p k) { s.lane (physLane p k) with txY := 0, rxY := 0 }) s
  (s.sendAm p 3).txSend p {}

/-- The VIDEO flits that OTG has handed over leave at the latest now. -/
def State.flushVideo (s : State) (p : Nat) : State :=
  s.forN ((s.port p).vq.length + 64) (fun s _ => if (s.port p).vq == [] || !s.portActive p then s else s.txGroup p)

/-! ### Forwarding (R238, R247) -/

/-- What the forwarding buffer holds: 256 KiB of flits other than IDLE. -/
def fwdMax : Nat := 16384

/-- Take the newest `n` video flits out of a buffer. -/
def dropVideo : Nat → List FwdSlot → List FwdSlot
  | 0, l => l
  | n + 1, l => dropVideo n ((l.reverse.eraseP (fun e => e.code == 1)).reverse)

/-- A slot enters the forwarding buffer: the buffer, whether the message under way is dropped, and how many flits are dropped. A full
buffer drops incoming video; for control messages it drops video that it holds, and a whole message only when it holds none. -/
def fwdPut (l : List FwdSlot) (dropping : Bool) (e : FwdSlot) : List FwdSlot × Bool × Nat :=
  let n := (l.filter (fun x => x.code != 0)).length
  let v := (l.filter (fun x => x.code == 1)).length
  if e.code = 0 then (if l.length < 62 then l ++ [e] else l, dropping, 0)
  else if e.code = 1 then (if n < fwdMax then (l ++ [e], dropping, 0) else (l, dropping, 1))
  else if e.code = 2 then
    let lack := n + 4 - fwdMax
    if lack ≤ v then (dropVideo lack l ++ [e], false, lack) else (l, true, 1)
  else if dropping then (l, true, 1) else (l ++ [e], dropping, 0)

/-- Slots enter the forwarding buffer of port `q`, with FWD_DROP for what is dropped. -/
def State.fwdPush (s : State) (q : Nat) (l : List FwdSlot) : State :=
  let x := s.port q
  let (b, d, n) := l.foldl (fun (a : List FwdSlot × Bool × Nat) e =>
    let (b, d, k) := fwdPut a.1 a.2.1 e
    (b, d, a.2.2 + k)) (x.fwd, x.fwdDrop, 0)
  let s := s.setPort q { x with fwd := b, fwdDrop := d }
  if n = 0 then s
  else (s.lnkCount q (R.LNK.FWD_DROP.COUNT q) n).ev (B.lnk q) Ev.LNK.FWD_DROP

/-- Replace the first place where `a` lies in a list by `b`, of the same length. -/
def replaceRun (a b : List Nat) : List Nat → List Nat
  | [] => []
  | x :: r => if a.isPrefixOf (x :: r) then b ++ (x :: r).drop a.length else x :: replaceRun a b r

/-- A forwarded TIME message is rewritten in its place (R102, R104, R238); one that has not come in a group is queued. -/
def State.passTime (s : State) (q : Nat) (old new : Msg) : State :=
  if !s.portActive q then s
  else
    let x := s.port q
    let l := x.nextG.flits ++ x.fwd.map (·.flit)
    let l' := replaceRun old.flits new.flits l
    if l' = l then s.queueMsg q new
    else
      let n := x.nextG.flits.length
      (s.emit (.msg q new)).setPort q { x with
        nextG := { x.nextG with flits := l'.take n }
        fwd := (x.fwd.zip (l'.drop n)).map (fun e => { e.1 with flit := e.2 }) }

end Sys2Proof.Machine
end

