-- ==== Sys2Proof/Machine/Mode.lean ====
section
/-!
DEFINITION. The mode word (chapter 2): Table 2-4, the evaluation of R37, the fallback check of R61, and the copies into
DEP.MODE_CUR.
-/
namespace Sys2Proof.Machine

/-- The staged mode word. -/
def State.modeNext (s : State) : ModeW :=
  { timing := s.get R.DEP.MODE_NEXT.TIMING, views := s.get R.DEP.MODE_NEXT.VIEWS, codA := s.get R.DEP.MODE_NEXT.CODING_A
    codB := s.get R.DEP.MODE_NEXT.CODING_B, redun := s.get R.DEP.MODE_NEXT.REDUN, sink := s.get R.DEP.MODE_NEXT.SINK
    emit := s.get R.DEP.MODE_NEXT.EMIT, scan := s.get R.DEP.MODE_NEXT.SCAN }

/-- The fallback word; SINK, EMIT and SCAN are reserved in it (R34). -/
def State.modeFb (s : State) : ModeW :=
  { timing := s.get R.DEP.MODE_FALLBACK.TIMING, views := s.get R.DEP.MODE_FALLBACK.VIEWS
    codA := s.get R.DEP.MODE_FALLBACK.CODING_A, codB := s.get R.DEP.MODE_FALLBACK.CODING_B
    redun := s.get R.DEP.MODE_FALLBACK.REDUN }

/-- Write the mode word in force. -/
def State.putModeCur (s : State) (m : ModeW) : State :=
  let s := ((s.set R.DEP.MODE_CUR.TIMING m.timing).set R.DEP.MODE_CUR.VIEWS m.views).set R.DEP.MODE_CUR.CODING_A m.codA
  let s := ((s.set R.DEP.MODE_CUR.CODING_B m.codB).set R.DEP.MODE_CUR.REDUN m.redun).set R.DEP.MODE_CUR.SINK m.sink
  (s.set R.DEP.MODE_CUR.EMIT m.emit).set R.DEP.MODE_CUR.SCAN m.scan

/-- Write the staged mode word. -/
def State.putModeNext (s : State) (m : ModeW) : State :=
  let s := ((s.set R.DEP.MODE_NEXT.TIMING m.timing).set R.DEP.MODE_NEXT.VIEWS m.views).set R.DEP.MODE_NEXT.CODING_A m.codA
  let s := ((s.set R.DEP.MODE_NEXT.CODING_B m.codB).set R.DEP.MODE_NEXT.REDUN m.redun).set R.DEP.MODE_NEXT.SINK m.sink
  (s.set R.DEP.MODE_NEXT.EMIT m.emit).set R.DEP.MODE_NEXT.SCAN m.scan

/-! ### Table 2-4 -/

/-- The other inputs of a check: the base rate, the view phases, and which banks of cards and Timetable it looks at. -/
structure ModeEnv where
  rate : Nat
  vphase : List Nat
  cards : List Card
  tt : List Host.Cell

/-- The inputs for MODE_CHECK.VALID, the start-up load and an epoch flip: the staged rate, cards and Timetable. -/
def State.envStaged (s : State) : ModeEnv :=
  ⟨s.get R.TIM.RATE_NEXT.RATE, s.vphaseNext, enabledCards s.map.stage, s.scn.stage⟩

/-- The inputs in force. -/
def State.envForce (s : State) : ModeEnv :=
  ⟨s.get R.TIM.RATE_CUR.RATE, s.vphaseCur, enabledCards s.map.force, s.scn.force⟩

/-- A relief sender carries a line of this sender: the far end's last health word says so with SRC_RELIEF. -/
def State.reliefCarries (s : State) : Bool := s.rdn.reliefLive

/-- The coding of a port in a mode word. -/
def ModeW.coding (m : ModeW) (p : Nat) : Nat := if p = 0 then m.codA else m.codB

/-- Rule 0x10 fails for port `p`. -/
def State.lineFails (s : State) (m : ModeW) (e : ModeEnv) (p : Nat) : Bool :=
  let (num, den) := rateFrac e.rate
  !lineFits (portPixels e.cards p) (codingBits (m.coding p)) (m.views + 1) num den (videoLimit (s.lineWidth p))

/-- The lowest failing rule of Table 2-4 with its FIELDS bits (bit 0 stands for bit 16), rules 0x05 and 0x06 apart. Rule 0x03
looks at the tile's DEP.MODE_NEXT, whatever word is checked; it passes before a SCHED message has come on the shown port (DESIGN
CHOICE, log entry 110). -/
def State.modeFail (s : State) (m : ModeW) (e : ModeEnv) : Option (Nat × Nat) :=
  let (num, den) := rateFrac e.rate
  let v := m.views + 1
  let own := s.modeNext
  let peer := (s.tim.peerMode.getD s.line.shownPort none).getD (own.timing * 16 + own.views * 256 + own.redun * 65536)
  let wall := bit (bitsOf peer 4 1 != own.timing) + 2 * bit (bitsOf peer 8 2 != own.views) + 16 * bit (bitsOf peer 16 1 != own.redun)
  let lamps := s.tw * s.th * emitters m.emit
  let t := timetable e.tt
  let slots := if m.sink = 1 then t.nseg * t.q else 16
  if v * den * 1000000000 > 240 * num then some (0x01, 0x42)
  else if m.timing = 1 && v > 1 then some (0x02, 0x03)
  else if s.isTile && wall != 0 then some (0x03, wall)
  else if !s.isTile && s.get R.DEP.MODE_CUR.REDUN = 1 && m.redun = 0 && s.reliefCarries then some (0x04, 0x10)
  else if !s.isTile then
    let a := s.lineFails m e 0
    let b := s.lineFails m e 1
    if a || b then some (0x10, 0xC2 + 4 * bit a + 8 * bit b)
    else if !pixelFits (portPixels e.cards 0 + portPixels e.cards 1) v num den then some (0x11, 0xC2)
    else if e.cards.any (fun c => c.view ≥ v) then some (0x12, 0x82)
    else if e.cards.any (fun c => c.w * c.h > 1048576) then some (0x13, 0x80)
    else none
  else if lamps * slots * v * den * 10 > 173 * num then some (0x14, 0xC2)
  else if m.sink = 1 && lamps > 262144 then some (0x15, 0x80)
  else if ttCheck e.tt s.tw s.th m e.rate e.vphase != 0 then some (0x16, 0xE2)
  else if v > 2 && s.oneChannel then some (0x17, 0x82)
  else none

/-! ### Evaluation -/

/-- The reference word of the fallback check (R61). -/
def State.fbReference (s : State) : ModeW :=
  if s.on R.DEP.MODE_CTRL.FB_ACTIVE then { s.modeCur with codA := s.modeNext.codA, codB := s.modeNext.codB } else s.modeCur

/-- The result of R61. -/
def State.fbOk (s : State) : Bool :=
  let f := s.modeFb
  let r := s.fbReference
  !s.isTile && (f.codA != r.codA || f.codB != r.codB) && f.timing == r.timing && f.views == r.views && f.redun == r.redun &&
  s.modeFail f s.envForce == none

/-- Evaluate DEP.MODE_NEXT into MODE_CHECK and the fallback word into FB_VALID (R37, R61). -/
def State.evaluate (s : State) : State :=
  let m := s.modeNext
  let c := s.modeCur
  let r := (s.modeFail m s.envStaged).getD (0, 0)
  let s := ((s.set R.DEP.MODE_CHECK.VALID (bit (r.1 == 0))).set R.DEP.MODE_CHECK.RULE r.1).set R.DEP.MODE_CHECK.FIELDS r.2
  let s := s.set R.DEP.MODE_CHECK.EPOCH_PENDING (bit (m.timing != c.timing || m.views != c.views || m.scan != c.scan))
  let s := s.set R.DEP.MODE_CHECK.DEP_PENDING (bit (m.codA != c.codA || m.codB != c.codB || m.redun != c.redun))
  let ok := s.fbOk
  let was := s.on R.DEP.MODE_CTRL.FB_VALID
  (s.set R.DEP.MODE_CTRL.FB_VALID (bit ok)).evIf (was && !ok) B.dep Ev.DEP.FB_INVALID

/-- After a change of a channel's state: FAULT of the channel 0 page (R419), and the mode check (rule 0x17). -/
def State.memCheck (s : State) : State := (s.fault (B.mem 0) (s.isTile && s.chGone 0 && s.chGone 1)).evaluate

/-- The states of the four channels. -/
def State.chStates (s : State) : List Nat := (List.range 4).map s.chState

/-- After reads of DRAM that began with channel states `was`: a channel that its mismatches took OFFLINE is noted (R412, R419). -/
def State.memSettle (s : State) (was : List Nat) : State := if s.chStates == was then s else s.memCheck


/-- A refusal of a mode word: MODE_REJECT with its rule (R37). -/
def State.modeReject (s : State) (rule : Nat) : State :=
  (s.set R.DEP.MODE_CHECK.REJECT_RULE rule).ev B.dep Ev.DEP.MODE_REJECT

/-- A refused commit of word `m` with the inputs `e` reports every failing sum of R27 and R29 in OTG.ERR_INFO (R211): each
failing port, then the pixel rate. DESIGN CHOICE (log entry 80): the spec does not say which port is named when both sums
fail; port A is recorded first and port B only counts, as R83 has it for a later error; SOURCE of code 0x11 is 0. -/
def State.capacityError (s : State) (m : ModeW) (l : List ModeEnv) : State :=
  if s.isTile then s
  else
    let fits (e : ModeEnv) : Bool :=
      let (num, den) := rateFrac e.rate
      pixelFits (portPixels e.cards 0 + portPixels e.cards 1) (m.views + 1) num den
    let s := if l.any (fun e => s.lineFails m e 0) then s.err B.otg 0x10 0 0 else s
    let s := if l.any (fun e => s.lineFails m e 1) then s.err B.otg 0x10 1 0 else s
    if l.all fits then s else s.err B.otg 0x11 0 0

/-- The mode word in force becomes `m`, with a cause of Table 2-10; MODE_CHANGE when it changes. -/
def State.modeChange (s : State) (m : ModeW) (cause : Nat) : State :=
  if m = s.modeCur then s
  else ((s.putModeCur m).set R.DEP.MODE_CTRL.LAST_CAUSE cause).ev B.dep Ev.DEP.MODE_CHANGE

/-- D of R51. -/
def State.darkFrames (s : State) : Nat := max 2 (s.get R.DEP.MODE_CTRL.DARK_FRAMES)

/-- An EPOCH_FLIP entry is ARMED. -/
def State.flipArmed (s : State) : Bool := s.armedEntries.any (fun e => e.2.action == 2)

/-- The dark frames of an epoch change are under way: from E until E + D (R51). -/
def State.inDark (s : State) : Bool := s.dep.dark.isSome

/-- Rule 0x05 applies to a commit (R56). -/
def State.epochBusy (s : State) : Bool := s.flipArmed || s.inDark

/-- The last frame departure launched. -/
def State.lastDep (s : State) : Nat := s.dep.last.getD 0

/-- Every member of a list of pages is free of a hardware freeze. -/
def State.unfrozen (s : State) (l : List Nat) : Bool := l.all (fun b => !s.on (R.PG.HW_FREEZE b))

/-- The pages of ING, MAP, CMP, COL, OTG and KLC, whose hardware freeze clears OK (R475). -/
def healthPages : List Nat :=
  [B.ing, B.map, B.cmp, B.spire, B.col, B.otg, B.klc] ++ (List.range 8).map (fun i => B.layer (2 * i)) ++
  (List.range 8).map (fun i => B.flow (4 * i))

/-- The health word to send (Table 16-2). -/
def State.healthWord (s : State) : Nat :=
  let st := s.get R.RDN.RDN_STAT.STATE
  let ok := s.timeValid && s.unfrozen healthPages && !(s.on R.CLU.CLU_CFG.STRICT && s.clu.selfOut) && !s.rdn.handing
  bit ok + 2 * bit (st == 1 || st == 3) + 4 * bit s.rdn.taken + 8 * bit (st == 2) + 16 * bit s.rdn.handing +
    256 * clampN 2 255 (s.get R.RDN.RDN_CFG.GAP_US)

end Sys2Proof.Machine
end

