-- ==== Sys2Proof/Machine/Correct.lean ====
section
/-!
DEFINITION. Per-lamp correction (chapter 11): the drive value of a lamp, the pass over a frame, the two banks and their
swap, the aperture, and uploads.
-/
namespace Sys2Proof.Machine

/-! ### The tile's tables in DRAM (R309, R343; where they lie is open) -/

/-- Regions per bank. -/
def State.regions (s : State) : Nat := (s.lamps + 511) / 512

/-- Base of bank `b`. -/
def State.bankBase (s : State) (b : Nat) : Nat :=
  if b = 0 then s.get64 R.COR.BANK0_BASE_LO.BASE R.COR.BANK0_BASE_HI.BASE
  else s.get64 R.COR.BANK1_BASE_LO.BASE R.COR.BANK1_BASE_HI.BASE

/-- Base of the fault map: after the banks. -/
def State.faultBase (s : State) : Nat := s.bankBase 1 + s.regions * 4096

/-- Bytes of the fault map: whole 32-bit words of 16 lamps (R396). -/
def State.faultBytes (s : State) : Nat := (s.lamps + 15) / 16 * 4

/-- Where the drive planes begin: after the fault map, on a 4 KiB boundary. -/
def State.planesBase (s : State) : Nat := s.faultBase + (s.faultBytes + 4095) / 4096 * 4096

/-- Base of plane (set, view) (R343). -/
def State.planeBase (s : State) (set view : Nat) : Nat :=
  s.get64 R.SCN.PLANE_BASE_LO.BASE R.SCN.PLANE_BASE_HI.BASE +
    (set * (s.get R.DEP.MODE_CUR.VIEWS + 1) + view) * s.get R.SCN.PLANE_SIZE.BYTES

/-- Lay the drive planes out for the mode word in force (R343). -/
def State.layPlanes (s : State) : State :=
  (s.set64 R.SCN.PLANE_BASE_LO.BASE R.SCN.PLANE_BASE_HI.BASE s.planesBase).set R.SCN.PLANE_SIZE.BYTES
    ((s.lamps * 2 + 4095) / 4096 * 4096)

/-- Where the tables of the tile begin: an open place from which all of them lie in the tile region, whatever VIEWS may become
(R31, R410). -/
def State.tileBase (s : State) : Nat :=
  let all := 2 * s.regions * 4096 + (s.faultBytes + 4095) / 4096 * 4096 + 8 * ((s.lamps * 2 + 4095) / 4096 * 4096)
  min (Config.tileBase * 4096) ((tileEnd - all) / 4096 * 4096)

/-- GEOM is locked and the banks are allocated at the start-up epoch load (R308, R309). -/
def State.corLock (s : State) : State :=
  if s.tw = 0 || s.th = 0 || s.tw * s.th > 1048576 then
    { (s.fault B.cor true).err B.cor 0x10 0 0 with cor := { s.cor with badGeom := true } }
  else
    let b := s.tileBase
    let s := s.set64 R.COR.BANK0_BASE_LO.BASE R.COR.BANK0_BASE_HI.BASE b
    let s := s.set64 R.COR.BANK1_BASE_LO.BASE R.COR.BANK1_BASE_HI.BASE (b + s.regions * 4096)
    s.set R.COR.BANK_STAT.REGIONS s.regions

/-! ### Records -/

/-- The coefficients of a unit record (Table 11-2). -/
def unitCoef (v : Nat) : Int × Int × Int :=
  if v = 0 then (0x4000, 0, 0) else if v = 1 then (0, 0x4000, 0) else if v = 2 then (0, 0, 0x4000) else (4304, 11108, 972)

/-- The unit record of lamp position `e` under a LAMP_MAP value (R312). -/
def unitRecord (map e : Nat) : Nat :=
  let (r, g, b) := unitCoef (bitsOf map (2 * e) 2)
  uns 16 r + 2 ^ 16 * uns 16 g + 2 ^ 32 * uns 16 b

/-- The records of lamps `i0` to `i0 + n - 1` of a bank, none where a unit record is substituted (R337). -/
def State.records (s : State) (bank : Nat) (flags : List Nat) (i0 n : Nat) : State × List (Option Nat) :=
  let base := s.bankBase bank
  (List.range n).foldl (fun (acc : State × List (Option Nat)) j =>
    let (s, l) := acc
    let i := i0 + j
    let reg := i / 512
    if flags.contains reg then
      let (s, bytes, bad) := s.dramBytes 0 (base + 4096 * reg) 3264
      let r := if bad then none else (unlossless80 (leNat bytes)).map (fun b => b.getD (i % 512) 0)
      (s, l ++ [r])
    else
      let (s, d, bad) := s.dramRead 0 (base + 8 * i)
      (s, l ++ [if bad then none else some d])) (s, [])

/-! ### From chain code to drive value (R313 to R316) -/

/-- The temperature at a pixel, in 2^-8 °C (R316). -/
def Latch.tempAt (L : Latch) (tw th x y : Nat) : Int :=
  let t (a b : Nat) : Int := L.temps.getD (b * L.zx + a) 0
  if L.zmode = 0 then 16 * t (x * L.zx / tw) (y * L.zy / th)
  else
    let sn : Int := max 0 (min (((L.zx : Int) - 1) * (2 * tw)) (((2 * x + 1) * L.zx : Nat) - (tw : Int)))
    let tn : Int := max 0 (min (((L.zy : Int) - 1) * (2 * th)) (((2 * y + 1) * L.zy : Nat) - (th : Int)))
    let a := if L.zx ≤ 1 then 0 else min (sn.toNat / (2 * tw)) (L.zx - 2)
    let b := if L.zy ≤ 1 then 0 else min (tn.toNat / (2 * th)) (L.zy - 2)
    let ws : Int := sn - a * (2 * tw)
    let wt : Int := tn - b * (2 * th)
    let a' := if L.zx ≤ 1 then a else a + 1
    let b' := if L.zy ≤ 1 then b else b + 1
    let n := (t a b * (2 * tw - ws) + t a' b * ws) * (2 * th - wt) + (t a b' * (2 * tw - ws) + t a' b' * ws) * wt
    roundDiv (16 * n) (4 * tw * th)

/-- The thermal factor in 2^-20 (R316). -/
def Latch.factor (L : Latch) (slope : Nat) (t : Int) : Int :=
  if L.badSlopes.contains slope then 1048576
  else max 524288 (min 2097151 (roundDiv (1048576 * 256 + L.slopes.getD slope 0 * (t - 16 * L.tref)) 256))

/-- The ORDERED dither matrix (Table 11-3). -/
def ditherB (i j : Nat) : Nat := ([0, 8, 2, 10, 12, 4, 14, 6, 3, 11, 1, 9, 15, 7, 13, 5].getD (i * 4 + j) 0)

/-- One step of the PRBS23 generator x^23 + x^18 + 1. -/
def prbsStep (v : Nat) : Nat := (v * 2 + (bitsOf v 22 1 + bitsOf v 17 1) % 2) % 2 ^ 23

/-- v before dither (R313 steps 2 to 6). -/
def Latch.value (L : Latch) (rc : Option Nat) (e : Nat) (lr lg lb : Nat) (t : Int) : Nat :=
  let w := rc.getD (unitRecord L.unitMap e)
  let v := roundDiv (sgn 16 w * lr + sgn 16 (bitsOf w 16 16) * lg + sgn 16 (bitsOf w 32 16) * lb) 16384
  let v := if L.therm = 1 && rc.isSome then roundDiv (v * L.factor (bitsOf w 56 8) t) 1048576 else v
  let v := roundDiv (v * L.gains.getD e 0) 16384
  let v := (max 0 (min 1048575 v)).toNat
  if v = 0 then 0 else min 1048575 (v + 16 * bitsOf w 48 8)

/-- The drive value of lamp position `e` of pixel (x, y) (R314); `r` is the PRBS state after its advance. A value that
is 0 after step 5 stays 0. -/
def Latch.drive (L : Latch) (v x y e r : Nat) : Nat :=
  if v = 0 then 0
  else
    let d := if L.dither = 1 then ditherB ((y + L.frame / 4) % 4) ((x + e + L.frame) % 4)
      else if L.dither = 2 then r % 16 else 8
    min 65535 ((v + d) / 16)

/-- The rail channel that feeds lamp position `e` of pixel (x, y) (R381). -/
def railOf (rmap : List Nat) (rx ry tw th numE x y e : Nat) : Nat :=
  rmap.getD ((y * ry / th * rx + x * rx / tw) * numE + e) 0x1F

/-! ### The pass -/

/-- A zone's own temperature, where its channel supplies one (R317). -/
def State.zoneOwn (s : State) (z : Nat) : Option Int :=
  let c := s.cur (R.COR.ZONE_SRC.CHAN z)
  let ty := s.get (R.HCH.CH_CFG.TYPE c)
  if !s.curOn (R.COR.ZONE_SRC.EN z) || s.on (R.HCH.CH_VAL.BROKEN c) || !([2, 3, 4].contains ty) ||
      s.sramPoisoned (R.HCH.CH_VAL.VALUE c).addr then none
  else some (s.getI (R.HCH.CH_VAL.VALUE c))

/-- Zone temperatures and the zones substituted (R317). -/
def State.zoneTemps (s : State) (zx zy : Nat) : List Int × List Nat :=
  let own (z : Nat) : Option Int := s.zoneOwn z
  let sub := (List.range (zx * zy)).filter (fun z => (own z).isNone)
  let temps := (List.range (zx * zy)).map (fun z =>
    match own z with
    | some t => t
    | none =>
      let a := z % zx
      let b := z / zx
      let ns := ((if 0 < a then [z - 1] else []) ++ (if a + 1 < zx then [z + 1] else []) ++
        (if 0 < b then [z - zx] else []) ++ (if b + 1 < zy then [z + zx] else [])).filterMap own
      if ns = [] then s.curI R.COR.ZONE_DEFAULT.T
      else openDiv (s.fresh + z) (ns.foldl (· + ·) 0) ns.length)
  (temps, sub)

/-- The rail map in force (R407). -/
def State.rmapForce (s : State) : List Nat :=
  (List.range 16).foldl (fun l i => l ++ [s.cur (R.RAI.RMAP.E0 i), s.cur (R.RAI.RMAP.E1 i), s.cur (R.RAI.RMAP.E2 i), s.cur (R.RAI.RMAP.E3 i)]) []

/-- COR begins its pass for frame `n` and latches what R319 names. -/
def State.beginPass (s : State) (n : Nat) : State :=
  let zx := s.cur R.COR.ZGRID.ZX + 1
  let zy := s.cur R.COR.ZGRID.ZY + 1
  let (temps, sub) := s.zoneTemps zx zy
  let slopes := (List.range 128).foldl (fun l i => l ++ [s.curI (R.COR.SLOPE.S_EVEN i), s.curI (R.COR.SLOPE.S_ODD i)]) []
  let bad := (List.range 256).filter (fun k => s.sramPoisoned (R.COR.SLOPE.S_EVEN (k / 2)).addr)
  let L : Latch :=
    { frame := n, bank := s.get R.COR.BANK_STAT.CUR
      flags := if s.get R.COR.BANK_STAT.CUR = 0 then s.cor.flags0 else s.cor.flags1
      dither := s.cur R.COR.COR_CTRL.DITHER, seed := s.cur R.COR.DITHER_SEED.SEED, therm := s.cur R.COR.COR_CTRL.THERM_EN
      zmode := s.cur R.COR.COR_CTRL.ZMODE, tref := s.curI R.COR.TREF.T, zx := zx, zy := zy
      gains := [s.cur R.COR.GAIN01.GAIN0, s.cur R.COR.GAIN01.GAIN1, s.cur R.COR.GAIN23.GAIN2, s.cur R.COR.GAIN23.GAIN3]
      unitMap := s.cur R.COR.LAMP_MAP.UNIT0_3, slopes := slopes, badSlopes := bad, temps := temps
      rx := s.cur R.RAI.RGRID.RX + 1, ry := s.cur R.RAI.RGRID.RY + 1, rmap := s.rmapForce }
  let entering := sub.any (fun z => !s.cor.subst.contains z)
  let dep := (s.depTime n).getD s.wall
  let s := s.drawN 48
  let s := { s with cor := { s.cor with
    pass := some L, rows := [], doneViews := [], prbs := 0, prbsLamp := 0, prbsView := 4
    maxima := List.replicate 24 0, subst := sub, depTime := dep } }
  let mask := sub.foldl (fun m z => m + 2 ^ z) 0
  let s := (s.set R.COR.ZONE_SUBST_LO.ZONES (mask % 2 ^ 32)).set R.COR.ZONE_SUBST_HI.ZONES (mask / 2 ^ 32)
  let s := s.forN (zx * zy) (fun s z =>
    (s.setI (R.COR.ZONE_TEMP.T z) (temps.getD z 0)).set (R.COR.ZONE_TEMP.SUBST z) (bit (sub.contains z)))
  s.evIf entering B.cor Ev.COR.ZONE_SUBST

/-- Advance the PRBS of a view to lamp `i` and past it: the state that lamp `i` uses. -/
def State.prbsTo (s : State) (L : Latch) (view i : Nat) : State × Nat :=
  let (v, at_) := if s.cor.prbsView = view && s.cor.prbsLamp ≤ i then (s.cor.prbs, s.cor.prbsLamp)
    else (L.seed ^^^ (L.frame % 2 ^ 23), 0)
  let v := Nat.rec v (fun _ r => prbsStep r) (i + 1 - at_)
  ({ s with cor := { s.cor with prbs := v, prbsLamp := i + 1, prbsView := view } }, v)

/-- The front set that tile row `y` is shown from: one per band under BAND_LOCKED (R344). -/
def State.frontOf (s : State) (y : Nat) : Nat :=
  if s.modeCur.timing = 1 then (s.scn.bands.getD (y / s.scanS) {}).front else s.get R.SCN.SCN_STAT.FRONT

/-- The rail maximum of the channel that feeds lamp position `e` of pixel (x, y) takes a drive value (R322); a poisoned one counts as
65,535 (Table 14-5). -/
def State.keepMax (s : State) (L : Latch) (x y e d : Nat) (bad : Bool) : State :=
  let ch := railOf L.rmap L.rx L.ry s.tw s.th s.numE x y e
  let d := if bad then 65535 else d
  { s with cor := { s.cor with maxima := s.cor.maxima.mapIdx (fun k m => if k = ch then max m d else m) } }

/-- Port `port` reads the drive values of `n` consecutive lamps at address `a`, each word once, with their marks. -/
def State.readLamps (s : State) (port a n : Nat) : State × List (Nat × Bool) :=
  (List.range ((a + 2 * n + 7) / 8 - a / 8)).foldl (fun (r : State × List (Nat × Bool)) i =>
    let w := (a / 8 + i) * 8
    let b := max a w
    let (s, d, bad) := r.1.dramRead port w
    (s, r.2 ++ (List.range ((min (a + 2 * n) (w + 8) - b) / 2)).map (fun j => (bitsOf d (8 * (b - w) + 16 * j) 16, bad)))) (s, [])

/-- Drive values of consecutive lamps, each with its mark, go to address `a` in groups of one word (R340): a word with a poisoned lamp
carries the mark (R338, R429), also where its first lamps were written with the row before. -/
def State.writeLamps (s : State) (a : Nat) (l : List (Nat × Bool)) : State :=
  s.forN ((a + 2 * l.length + 7) / 8 - a / 8) (fun s i =>
    let w := (a / 8 + i) * 8
    let b := max a w
    let g := (l.drop ((b - a) / 2)).take ((w + 8 - b) / 2)
    let marked := w < a && (s.parMask w 0 == 255 || s.parMask w 1 == 255)
    s.dramWrite 1 b ((g.map (fun e => toBytes 2 e.1)).foldl (· ++ ·) []) (marked || g.any (·.2)))

/-- Correct row `y` of view `view`: write its drive values into the back set and keep the rail maxima (R313, R322,
R337, R338). `bad x` says that pixel x was poisoned in the receive buffer. -/
def State.correctRow (s : State) (L : Latch) (view y : Nat) (px : List Pix) (bad : List Nat) : State :=
  let ne := s.numE
  let tw := s.tw
  let th := s.th
  let back := 1 - s.frontOf y
  let base := s.planeBase back view
  let (s, recs) := s.records L.bank L.flags (y * tw * ne) (tw * ne)
  let lost := (recs.filter (·.isNone)).length
  let s := if lost = 0 then s else (s.count R.COR.POISON_REC.COUNT lost).poison B.cor 0 (s.bankBase L.bank + 8 * (y * tw * ne))
  let s := if bad = [] then s else s.poison B.cor 0 0
  let hot := if L.therm = 1 then recs.findSome? (fun r => r.filter (fun w => L.badSlopes.contains (bitsOf w 56 8))) else none
  let s := match hot with
    | some w => s.poison B.cor 0 (R.COR.SLOPE.S_EVEN (bitsOf w 56 8 / 2)).addr
    | none => s
  let (s, l) := (List.range (tw * ne)).foldl (fun (a : State × List (Nat × Bool)) j =>
    let s := a.1
    let x := j / ne
    let e := j % ne
    let i := y * tw * ne + j
    let p := px.getD x {}
    let rc := recs.getD j none
    let v := L.value rc e (chainDecode p.r) (chainDecode p.g) (chainDecode p.b) (L.tempAt tw th x y)
    let (s, r) := if L.dither = 2 then s.prbsTo L view i else (s, 0)
    let d := L.drive v x y e r
    (s.keepMax L x y e d (bad.contains x), a.2 ++ [(d, bad.contains x)])) (s, [])
  s.writeLamps (base + 2 * (y * tw * ne)) l

/-! ### Banks -/

/-- The compressed flags of a bank. -/
def State.bankFlags (s : State) (b : Nat) : List Nat := if b = 0 then s.cor.flags0 else s.cor.flags1

/-- Replace the compressed flags of a bank. -/
def State.setFlags (s : State) (b : Nat) (l : List Nat) : State :=
  { s with cor := if b = 0 then { s.cor with flags0 := l } else { s.cor with flags1 := l } }

/-- The bank that uploads write. -/
def State.stagingBank (s : State) : Nat := 1 - s.get R.COR.BANK_STAT.CUR

/-- Why the commit of the COR page is refused, if it is: 1 upload or copy busy, 2 zone grid (R315, R327). -/
def State.corRefusal (s : State) : Nat :=
  if s.on R.COR.BANK_CTRL.SWAP && (s.cor.uploads != [] || s.on R.COR.BANK_STAT.SYNCING) then 1
  else if (s.get R.COR.ZGRID.ZX + 1) * (s.get R.COR.ZGRID.ZY + 1) > 48 then 2
  else 0

/-- After the page's transfer: the swap (R326, R328). -/
def State.corSwap (s : State) : State :=
  if s.curOn R.COR.BANK_CTRL.SWAP then
    let s := (s.set R.COR.BANK_CTRL.SWAP 0).setCur R.COR.BANK_CTRL.SWAP 0
    let s := (s.set R.COR.BANK_STAT.CUR s.stagingBank).ev B.cor Ev.COR.BANK_SWAP
    if s.on R.COR.COR_CTRL.SYNC_EN then
      { (s.set R.COR.BANK_STAT.SYNCING 1) with cor := { s.cor with copying := false } }
    else s
  else s

/-- BANK_SYNC_START: the copy starts once no pass uses the former bank (R328). -/
def State.bankSyncStart (s : State) : State :=
  let former := match s.cor.pass with | some L => L.bank != s.get R.COR.BANK_STAT.CUR | none => false
  if s.on R.COR.BANK_STAT.SYNCING && !former then { s with cor := { s.cor with copying := true } } else s

/-- BANK_SYNC_DONE: the copy of the bank in force, flags included, has ended (R328). -/
def State.bankSyncDone (s : State) : State :=
  if s.cor.copying then
    let cur := s.get R.COR.BANK_STAT.CUR
    let s := s.dramCopy 0 1 (s.bankBase cur) (s.bankBase (1 - cur)) (s.regions * 4096)
    let s := (s.setFlags (1 - cur) (s.bankFlags cur)).set R.COR.BANK_STAT.SYNCING 0
    ({ s with cor := { s.cor with copying := false } }).ev B.cor Ev.COR.SYNC_DONE
  else s

/-- A soft reset stops the copy at an open region (R341). -/
def State.bankSyncStop (s : State) : State :=
  let s := if s.cor.copying then
      let cur := s.get R.COR.BANK_STAT.CUR
      let k := Config.choice s.fresh % (s.regions + 1)
      let s := s.draw.dramCopy 0 1 (s.bankBase cur) (s.bankBase (1 - cur)) (k * 4096)
      let s := s.setFlags (1 - cur) ((s.bankFlags cur).filter (· < k) ++ (s.bankFlags (1 - cur)).filter (k ≤ ·))
      { s with cor := { s.cor with copying := false } }
    else s
  s.set R.COR.BANK_STAT.SYNCING 0

/-! ### Uploads (R332 to R336) -/

/-- Show the upload queue and the oldest completion in their registers. -/
def State.showUploads (s : State) : State :=
  let q := s.cor.uploads
  let s := (s.set R.COR.UPL_STAT.QUEUED q.length).set R.COR.BANK_STAT.UPL_BUSY (bit (q != []))
  let s := match q with
    | u :: _ =>
      if u.started then ((s.set R.COR.UPL_STAT.RUNNING 1).set R.COR.UPL_STAT.RUN_ID u.id).set R.COR.UPL_STAT.RUN_DONE u.done
      else s.set R.COR.UPL_STAT.RUNNING 0
    | [] => s.set R.COR.UPL_STAT.RUNNING 0
  match s.cor.completions with
  | (id, st, rg) :: _ => ((s.set R.COR.UPL_DONE.ID id).set R.COR.UPL_DONE.STATUS st).set R.COR.UPL_DONE.REGIONS rg
  | [] => ((s.set R.COR.UPL_DONE.ID 0).set R.COR.UPL_DONE.STATUS 0).set R.COR.UPL_DONE.REGIONS 0

/-- Post the completion of an ended command (R336). -/
def State.postUpload (s : State) (u : Upload) : State :=
  let s := { s with cor := { s.cor with completions := s.cor.completions ++ [(u.id, u.status, u.done)] } }
  let s := s.ev B.cor Ev.COR.UPL_DONE
  if u.status = 1 || u.status = 2 then s else s.err B.cor 0x16 u.id 0

/-- The ranges of two commands overlap. -/
def Upload.overlaps (a b : Upload) : Bool := a.first < b.first + b.count && b.first < a.first + a.count

/-- A write of UPL_CMD with GO = 1 posts a command (R332, R335). -/
def State.uplGo (s : State) (v : Nat) : State :=
  let s := ((s.set R.COR.UPL_CMD.OP v).set R.COR.UPL_CMD.SUPERSEDE (v / 8)).set R.COR.UPL_CMD.ID (v / 256)
  if bitsOf v 31 1 = 0 then s
  else if s.cor.uploads.length ≥ 16 then s.err B.cor 0x15 0 (R.COR.UPL_CMD.GO).addr
  else
    let u : Upload := { op := bitsOf v 0 3, id := bitsOf v 8 8, first := s.get R.COR.UPL_RGN.FIRST
                        count := s.get R.COR.UPL_RGN.COUNT, src := s.get R.COR.UPL_SRC.OFS }
    let sup := bitsOf v 3 1 = 1
    let ended (w : Upload) : Bool := sup && w.status == 0 && w.overlaps u
    -- a queued command ends without running; a running one ends at the end of the region it is writing
    let s := (s.cor.uploads.filter (fun w => ended w && !w.started)).foldl (fun s w => s.postUpload { w with status := 2 }) s
    let q := (s.cor.uploads.filter (fun w => !(ended w && !w.started))).map (fun w => if ended w then { w with status := 2 } else w)
    ({ s with cor := { s.cor with uploads := q ++ [u] } }).showUploads

/-- The upload buffer's base. -/
def State.upbuf (s : State) : Nat := s.get64 R.COR.UPBUF_BASE_LO.BASE R.COR.UPBUF_BASE_HI.BASE

/-- Source bytes per region of an operation. -/
def srcBytes (op : Nat) : Nat := if op = 3 then 3264 else if op = 4 then 0 else 4096

/-- The checks before a command's first region (R333). -/
def State.uplRangeOk (s : State) (u : Upload) : Bool :=
  let n := u.count * srcBytes u.op
  let a := s.upbuf + u.src
  u.first + u.count ≤ s.regions && 1 ≤ u.count &&
  (u.op == 4 || (u.src + n ≤ s.get R.COR.UPBUF_SIZE.MIB * 1048576 &&
    s.chState (a / 0x80000000) != Ch.selfRefresh && s.chState ((a + n - 1) / 0x80000000) != Ch.selfRefresh))

/-- Whether the unit may work on its command now (R328, R336, R339, R340). -/
def State.uplMayRun (s : State) (u : Upload) : Bool :=
  u.status == 0 && !s.frozen B.cor &&
  (u.started || (s.enabled B.cor && s.cor.completions.length < 16 && !s.on R.COR.BANK_STAT.SYNCING))

/-- The head of the queue is replaced. -/
def State.setHead (s : State) (u : Upload) : State :=
  ({ s with cor := { s.cor with uploads := u :: s.cor.uploads.drop 1 } }).showUploads

/-- Write one region of the staging bank and its flag. -/
def State.putRegion (s : State) (u : Upload) (bytes : List Byte) (flag : Bool) : State :=
  let b := s.stagingBank
  let r := u.first + u.done
  let s := s.dramWrite 1 (s.bankBase b + 4096 * r) bytes
  let fl := (s.bankFlags b).filter (· != r)
  let s := s.setFlags b (if flag then r :: fl else fl)
  s.setHead { u with done := u.done + 1, status := if u.done + 1 = u.count then 1 else 0 }

/-- The next region of the command at the head, for operation `op` (R333, R334). -/
def State.uplRegion (s : State) (op : Nat) : State :=
  match s.cor.uploads with
  | [] => s
  | u :: _ =>
    if u.op != op || !s.uplMayRun u then s
    else if !u.started && !s.uplRangeOk u then s.setHead { u with started := true, status := 3 }
    else
      let u := { u with started := true }
      let n := srcBytes op
      if op = 4 then
        let ne := s.numE
        let r := u.first + u.done
        let bytes := (List.range 512).foldl (fun l k => l ++ toBytes 8 (unitRecord (s.cur R.COR.LAMP_MAP.UNIT0_3) ((512 * r + k) % ne))) []
        s.putRegion u bytes false
      else
        let (s, bytes, bad) := s.dramBytes 3 (s.upbuf + u.src + u.done * n) n
        if bad then (s.poison B.cor 0 (s.upbuf + u.src + u.done * n)).setHead { u with status := 5 }
        else if op = 1 then s.putRegion u bytes false
        else if op = 2 then
          match lossless80 ((List.range 512).map (fun w => leNat ((bytes.drop (8 * w)).take 8))) with
          | some v => s.putRegion u (toBytes 3264 v) true
          | none => (s.count R.COR.UPL_NR_CNT.COUNT).putRegion u bytes false
        else
          match unlossless80 (leNat bytes) with
          | some _ => s.putRegion u bytes true
          | none => s.setHead { u with status := 4 }

/-- The command at the head ends and posts its completion (R336). -/
def State.uplEnd (s : State) : State :=
  match s.cor.uploads with
  | [] => s
  | u :: r =>
    let u := if u.op = 0 || 5 ≤ u.op then (if s.uplMayRun u then { u with status := 7 } else u) else u
    if u.status = 0 then s
    else (({ s with cor := { s.cor with uploads := r } }).postUpload u).showUploads

/-- A read of UPL_DONE removes the oldest completion (R336). -/
def State.uplDoneRead (s : State) : State :=
  ({ s with cor := { s.cor with completions := s.cor.completions.drop 1 } }).showUploads

/-! ### The aperture (R329, R330) -/

/-- Whether a write through target 0 to region `r` is refused. -/
def State.regionBusy (s : State) (r : Nat) : Bool :=
  (s.bankFlags s.stagingBank).contains r || s.on R.COR.BANK_STAT.SYNCING ||
  s.cor.uploads.any (fun u => u.first ≤ r && r < u.first + u.count)

/-- The bytes of a list of region flags as a number, bit r for region r. -/
def flagWord (l : List Nat) (ofs n : Nat) : Nat :=
  (List.range (8 * n)).foldl (fun v k => if l.contains (8 * ofs + k) then v + 2 ^ k else v) 0

/-- Read `n` bytes at byte `a` of bank `b`; the unwritten end of a region and what lies behind the bank read 0. -/
def State.bankRead (s : State) (a n b : Nat) : State × Nat × Bool :=
  if a + n > s.regions * 4096 then (s, 0, false)
  else if (s.bankFlags b).contains (a / 4096) && a % 4096 ≥ 3264 then (s, 0, false)
  else
    let (s, l, bad) := s.dramBytes 0 (s.bankBase b + a) n
    (s, leNat l, bad)

/-- Read `n` bytes through the aperture at window offset `o`. -/
def State.aperRead (s : State) (o n : Nat) : State × Nat × Bool :=
  let t := s.get R.COR.APER_CTRL.TARGET
  let a := s.get R.COR.APER_OFS.OFS / 2 ^ 22 * 2 ^ 22 + o
  if t = 0 then s.bankRead a n (if s.on R.COR.BANK_STAT.SYNCING then s.get R.COR.BANK_STAT.CUR else s.stagingBank)
  else if t = 1 then s.bankRead a n (s.get R.COR.BANK_STAT.CUR)
  else if t = 2 then
    if a + n > s.get R.COR.UPBUF_SIZE.MIB * 1048576 then (s, 0, false)
    else
      let (s, l, bad) := s.dramBytes 3 (s.upbuf + a) n
      (s, leNat l, bad)
  else if (s.regions + 7) / 8 ≤ a then (s, 0, false)
  else (s, flagWord (s.bankFlags (if t = 3 then s.stagingBank else s.get R.COR.BANK_STAT.CUR)) a n, false)

/-- Write `n` bytes through the aperture at window offset `o`. -/
def State.aperWrite (s : State) (o n v : Nat) : State :=
  let t := s.get R.COR.APER_CTRL.TARGET
  let a := s.get R.COR.APER_OFS.OFS / 2 ^ 22 * 2 ^ 22 + o
  if t = 0 then
    if a + n > s.regions * 4096 then s
    else if s.regionBusy (a / 4096) then
      ((s.err B.cor 0x14 0 (0xC00000 + o)).count R.COR.APER_REFUSED.COUNT).ev B.cor Ev.COR.APER_REFUSED
    else s.dramWrite 1 (s.bankBase s.stagingBank + a) (toBytes n v)
  else if t = 2 then
    if a + n > s.get R.COR.UPBUF_SIZE.MIB * 1048576 then s else s.dramWrite 1 (s.upbuf + a) (toBytes n v)
  else s.err B.cor 0x14 0 (0xC00000 + o)

/-- Whether an upload buffer lies in usable DRAM and outside the tile's tables (R331). -/
def State.upbufOk (s : State) : Bool :=
  let a := s.upbuf
  let e := a + s.get R.COR.UPBUF_SIZE.MIB * 1048576
  let lo := s.bankBase 0
  let hi := s.planeBase 2 0
  a == e || (e ≤ 0x200000000 && a / 0x80000000 == (e - 1) / 0x80000000 && (e - 1) % 0x80000000 < 0x70000000 &&
    !(0x80000000 ≤ a && a < 0x80000000 + tileEnd) && (e ≤ lo || hi ≤ a || s.regions == 0))

end Sys2Proof.Machine
end

