-- ==== Sys2Proof/Machine/Rails.lean ====
section
/-!
DEFINITION. Anode rails and lamp faults (chapter 13): channel states, targets and ramps, the commit checks, the fault
map and the integrity zones.
-/
namespace Sys2Proof.Machine

/-! ### Bits of a register that holds one bit per thing -/

/-- Bit `k` of a 64-bit value in a low and a high field. -/
def State.bit64 (s : State) (lo hi : Fld) (k : Nat) : Bool := bitAt (s.get64 lo hi) k

/-- Set or clear a bit of a field. -/
def State.putBit (s : State) (f : Fld) (k : Nat) (b : Bool) : State :=
  let v := s.get f
  s.set f (if b then v ||| 2 ^ k else v &&& (2 ^ f.width - 1 - 2 ^ k))

/-- Set or clear a bit of a 64-bit value. -/
def State.putBit64 (s : State) (lo hi : Fld) (k : Nat) (b : Bool) : State :=
  if k < 32 then s.putBit lo k b else s.putBit hi (k - 32) b

/-! ### Channels (Table 13-1) -/

def Rail.off : Nat := 0
def Rail.softstart : Nat := 1
def Rail.ready : Nat := 2
def Rail.discharge : Nat := 3
def Rail.fault : Nat := 4

/-- State of rail channel `c`. -/
def State.railState (s : State) (c : Nat) : Nat := s.get (R.RCH.CH_STAT.STATE c)

/-- VCAP of an energy ceiling and a capacitance (R387): none where the ceiling does not allow 2.000 V. -/
def vcapOf (ceil cout : Nat) : Option Nat :=
  if cout = 0 then none
  else if 8000000 * ceil < 400 * 400 * cout then none
  else some (largest (fun n => (400 + n) * (400 + n) * cout ≤ 8000000 * ceil && n ≤ 800) 10 0)

/-- VCAP in force of channel `c`. -/
def State.vcap (s : State) (c : Nat) : Nat := (vcapOf (s.cur (R.RCH.CH_COUT.CEIL c)) (s.cur (R.RCH.CH_COUT.COUT c))).getD 0

/-- Limit a setpoint code to VMIN to VMAX, then to VCAP; the second part says that VCAP lowered it (R382, R387). -/
def State.limitTarget (s : State) (c t : Nat) : Nat × Bool :=
  let t := max (s.cur (R.RCH.CH_VLIM.VMIN c)) (min (s.cur (R.RCH.CH_VLIM.VMAX c)) t)
  if s.vcap c < t then (s.vcap c, true) else (t, false)

/-- need(D) (R382). -/
def State.railNeed (s : State) (c d : Nat) : Nat :=
  s.cur (R.RCH.CH_NEED.VBASE c) + (min 800 (s.cur (R.RCH.CH_NEED.VSLOPE c)) * d + 65535) / 65536

/-- REJECT of channel `c` is raised and counted (R387). -/
def State.rejectEv (s : State) (c : Nat) : State := (s.count (R.RCH.CH_CNT.REJECT c)).ev B.rai Ev.RAI.REJECT

/-- Raise REJECT for channel `c` and the frame being emitted, at most once per frame (R387). -/
def State.railReject (s : State) (c : Nat) : State :=
  if s.rai.rejected.contains c then s
  else ({ s with rai := { s.rai with rejected := c :: s.rai.rejected } }).rejectEv c

/-- The same for the next frame. -/
def State.railRejectNext (s : State) (c : Nat) : State :=
  if s.rai.nextRejected.contains c then s
  else ({ s with rai := { s.rai with nextRejected := c :: s.rai.nextRejected } }).rejectEv c

/-- What channel `c` ramps toward now: the floor of R24. -/
def State.railGoal (s : State) (c : Nat) : Nat :=
  let t := s.rai.cur.getD c 0
  if s.rai.known && s.cur (R.RCH.CH_CTRL.MODE c) = 2 then max t (s.rai.next.getD c 0) else t

/-- Show target, floor and AT_TARGET of a channel. -/
def State.showRail (s : State) (c : Nat) : State :=
  let g := s.railGoal c
  let nx := if s.rai.known then s.rai.next.getD c 0 else s.rai.cur.getD c 0
  let s := (s.set (R.RCH.CH_TARGET.NEXT c) nx).set (R.RCH.CH_TARGET.FLOOR c) g
  s.set (R.RCH.CH_STAT.AT_TARGET c) (bit (s.get (R.RCH.CH_STAT.SET_NOW c) == g))

/-- Give channel `c` a target for what is emitted now. -/
def State.setRailCur (s : State) (c t : Nat) : State :=
  let (v, low) := s.limitTarget c t
  let s := { s with rai := { s.rai with cur := putAt s.rai.cur c v } }
  let s := s.set (R.RCH.CH_STAT.CLAMPED c) (bit low)
  (if low then s.railReject c else s).showRail c

/-- Give channel `c` the target of the next frame, whose maximum drive is `d` (R382). CLAMPED tells of the current target alone. -/
def State.setRailNext (s : State) (c d : Nat) : State :=
  let (t, low) := s.limitTarget c (s.railNeed c d)
  let s := { s with rai := { s.rai with next := putAt s.rai.next c t } }
  (if low then s.railRejectNext c else s).showRail c

/-- The fixed setpoint in force. -/
def State.fixedSet (s : State) (c : Nat) : Nat :=
  match s.rai.fixed.find? (fun e => e.1 == c) with
  | some e => e.2
  | none => s.cur (R.RCH.CH_VLIM.VMIN c)

/-- Move a channel to a state and keep RAI_READY. -/
def State.setRail (s : State) (c st : Nat) : State :=
  (s.set (R.RCH.CH_STAT.STATE c) st).putBit R.RAI.RAI_READY.READY c (st == Rail.ready)

/-- Start the discharge of a channel (R390). -/
def State.startDischarge (s : State) (c : Nat) : State :=
  { s with rai := { s.rai with discharging := c :: s.rai.discharging.filter (· != c) } }

/-- The measured output of a channel as a setpoint code. -/
def State.measuredCode (s : State) (c : Nat) : Nat := (s.get (R.RCH.CH_MEAS.V c) - 2000) / 5

/-- The largest setpoint that VMAX and VCAP in force allow (R392). -/
def State.setMax (s : State) (c : Nat) : Nat := min (s.cur (R.RCH.CH_VLIM.VMAX c)) (s.vcap c)

/-- Channel `c` takes its targets by the values in force: of the frame that is emitted and, once it is known, of the next one (R24,
R382, R385). -/
def State.railAim (s : State) (c : Nat) : State :=
  if s.cur (R.RCH.CH_CTRL.MODE c) = 1 then s.setRailCur c (s.fixedSet c)
  else
    let s := s.setRailCur c (s.railNeed c (s.get (R.RCH.CH_DMAX.CUR c)))
    if s.rai.known then s.setRailNext c (s.get (R.RCH.CH_DMAX.NEXT c)) else s

/-- OFF, SOFTSTART and READY follow the mode in force and PG_CTRL.EN (Table 13-1); a shutdown takes precedence (R517). -/
def State.railEval (s : State) (c : Nat) : State :=
  let m := s.cur (R.RCH.CH_CTRL.MODE c)
  let st := s.railState c
  let run := m != 0 && s.enabled B.rai && !s.hkt.shutdown
  if st = Rail.off && run then
    let s := (s.setRail c Rail.softstart).set (R.RCH.CH_STAT.DISCHARGED c) 0
    (s.set (R.RCH.CH_STAT.SET_NOW c) (min (s.measuredCode c) (s.setMax c))).railAim c
  else if (st = Rail.softstart || st = Rail.ready) && !run then (s.setRail c Rail.discharge).startDischarge c
  else s

/-- One code step of channel `c` toward its goal (R380). A frozen page does not ramp (R403). -/
def State.rampStep (s : State) (c : Nat) : State :=
  let st := s.railState c
  if (st = Rail.softstart || st = Rail.ready) && !s.frozen B.rai then
    let v := s.get (R.RCH.CH_STAT.SET_NOW c)
    let g := s.railGoal c
    (s.set (R.RCH.CH_STAT.SET_NOW c) (if v < g then v + 1 else if g < v then v - 1 else v)).showRail c
  else s

/-- COR passes the maxima of a frame (R382 to R384). -/
def State.raiTake (s : State) (maxima : List Nat) : State :=
  if s.frozen B.rai then s
  else
    let s := { s with rai := { s.rai with known := true, nextRejected := [] } }
    s.forN 24 (fun s c =>
      let d := if s.modeCur.timing = 1 then 65535 else maxima.getD c 0
      let s := s.set (R.RCH.CH_DMAX.NEXT c) d
      if s.cur (R.RCH.CH_CTRL.MODE c) = 2 then
        s.setRailNext c d
      else s)

/-- The light needs drive maxima `d` from now on (R383). -/
def State.raiShows (s : State) (d : List Nat) : State :=
  s.forN 24 (fun s c =>
    let s := s.set (R.RCH.CH_DMAX.CUR c) (d.getD c 0)
    if s.cur (R.RCH.CH_CTRL.MODE c) = 2 && !s.frozen B.rai then s.setRailCur c (s.railNeed c (d.getD c 0)) else s)

/-- A frame departure: the light now needs drive maxima `d`; `late` says whether RAMP_LATE may count (R24, R383). A frame that is shown
keeps the REJECT that its target raised (R387). -/
def State.raiDeparture (s : State) (d : List Nat) (late : Bool) : State :=
  let s := s.forN 24 (fun s c =>
    (s.setCur (R.RCH.CH_TRIM.VS_TRIM c) (s.get (R.RCH.CH_TRIM.VS_TRIM c))).setCur (R.RCH.CH_TRIM.IS_TRIM c) (s.get (R.RCH.CH_TRIM.IS_TRIM c)))
  let s := { s with rai := { s.rai with
    known := false, rejected := if s.rai.known then s.rai.nextRejected else s.rai.rejected, nextRejected := [] } }
  (s.raiShows d).forN 24 (fun s c =>
    if s.cur (R.RCH.CH_CTRL.MODE c) = 2 && !s.frozen B.rai then
      if late && s.modeCur.timing = 0 && (s.railState c = Rail.softstart || s.railState c = Rail.ready) &&
          s.get (R.RCH.CH_STAT.SET_NOW c) < s.railGoal c then
        (s.count (R.RCH.CH_CNT.RAMP_LATE c)).ev B.rai Ev.RAI.RAMP_LATE
      else s
    else s)

/-- A RAIL_STEP launches with a channel mask (R385). -/
def State.railStep (s : State) (mask : Nat) : State :=
  if s.frozen B.rai then s
  else s.forN 24 (fun s c =>
    if !bitAt mask c then s
    else if s.cur (R.RCH.CH_CTRL.MODE c) = 1 then
      let s := { s with rai := { s.rai with
        fixed := (c, s.get (R.RCH.CH_FIXED.SET c)) :: s.rai.fixed.filter (fun e => e.1 != c), rejected := s.rai.rejected.filter (· != c) } }
      s.setRailCur c (s.fixedSet c)
    else s.ev B.rai Ev.RAI.STEP_IGNORED)

/-! ### Commit of the RAI page (R391) -/

/-- The code that refuses a commit for channel `c`, 0 for none, by the staged values. -/
def State.railBad (s : State) (c : Nat) : Nat :=
  let cout := s.get (R.RCH.CH_COUT.COUT c)
  let ceil := s.get (R.RCH.CH_COUT.CEIL c)
  let rs := s.get (R.RCH.CH_SENSE.RSENSE c)
  let il := s.get (R.RCH.CH_SENSE.ILIM c)
  let vmin := s.get (R.RCH.CH_VLIM.VMIN c)
  let vmax := s.get (R.RCH.CH_VLIM.VMAX c)
  let fsw := s.get (R.RCH.CH_CTRL.FSW c)
  let cap := vcapOf ceil cout
  if s.get (R.RCH.CH_CTRL.MODE c) = 0 then 0
  else if cout * rs * (200 + min vmax (cap.getD 0)) > 9000000 * il then 0x10
  else if vmin > vmax || vmin > cap.getD 0 || il < 20 || fsw < 40 || fsw > 200 || ceil < 50 || ceil > 5000 ||
      s.get R.RAI.RAI_CTRL.RAMP < 1 || s.get R.RAI.RAI_CTRL.RAMP > 10 || cout = 0 || rs = 0 || cap = none then 0x11
  else 0

/-- The refusal of an RAI commit: code and SOURCE. -/
def State.raiRefusal (s : State) : Option (Nat × Nat) :=
  match (List.range 24).find? (fun c => s.railBad c != 0) with
  | some c => some (s.railBad c, c)
  | none =>
    if (s.get R.RAI.RGRID.RX + 1) * (s.get R.RAI.RGRID.RY + 1) > 16 then some (0x11, 0x1F) else none

/-- After an RAI transfer: VCAP, modes, targets, and a setpoint that no longer fits comes down at once (R24, R392). -/
def State.raiCommitted (s : State) : State :=
  s.forN 24 (fun s c =>
    let s := s.set (R.RCH.CH_VCAP.VCAP c) (s.vcap c)
    let s := s.railEval c
    let s := s.set (R.RCH.CH_STAT.SET_NOW c) (min (s.get (R.RCH.CH_STAT.SET_NOW c)) (s.setMax c))
    if s.railState c = Rail.softstart || s.railState c = Rail.ready then s.railAim c else s)

/-! ### The fault map (R396) -/

/-- The listed bytes of the fault map: (offset, byte). -/
def State.faultCells (s : State) : List (Nat × Nat) :=
  let b := s.faultBase
  (s.mem.dram.filter (fun c => b ≤ c.1 && c.1 < b + s.faultBytes)).map (fun c => (c.1 - b, c.2.toNat))

/-- The lamps with an entry equal to one of `ks`, ascending. -/
def State.lampsWith (s : State) (ks : List Nat) : List Nat :=
  let n := s.lamps
  s.faultCells.foldl (fun l c =>
    l ++ ((List.range 4).filter (fun k => 4 * c.1 + k < n && ks.contains (bitsOf c.2 (2 * k) 2))).map (fun k => 4 * c.1 + k)) []

/-- The lamps of the 32-bit words of the map that LFM has read poisoned, which count as OPEN (R397). -/
def State.poisonedLamps (s : State) : List Nat :=
  ((s.lfm.poisoned.map (fun w => (List.range 16).map (fun k => 16 * w + k))).foldl (· ++ ·) []).filter (· < s.lamps)

/-- Word `w` of the map has a byte whose parity is wrong in some copy. -/
def State.markedWord (s : State) (w : Nat) : Bool :=
  let a := s.faultBase + 4 * w
  bitsOf (s.parMask a 0 ||| s.parMask a 1) (a % 8) 4 != 0

/-- LFM reads the 8-byte word `i` of its map and checks it (R428): its 32-bit words with a mark count as OPEN from then on, and POISON
is raised for a new one (R397). -/
def State.faultCheck (s : State) (i : Nat) : State :=
  let (s, _, bad) := s.dramRead 4 (s.faultBase + 8 * i)
  let l := [2 * i, 2 * i + 1].filter (fun w => s.markedWord w && !s.lfm.poisoned.contains w)
  if bad && l != [] then
    ({ s with lfm := { s.lfm with poisoned := s.lfm.poisoned ++ l } }).poison B.lfm 0 (s.faultBase + 8 * i)
  else s

/-- The 8-byte words of the map with a wrong parity bit in some copy, ascending. -/
def State.faultMarks (s : State) : List Nat :=
  let b := s.faultBase
  (s.mem.par.filter (fun e => b ≤ e.1 / 2 * 8 && e.1 / 2 * 8 < b + s.faultBytes)).foldl
    (fun l e => let i := (e.1 / 2 * 8 - b) / 8; if l.contains i then l else l ++ [i]) []

/-- LFM goes through its map: words that software has rewritten count as written, and bad ones are found (R397). Words whose parity is
right change nothing and are passed over. -/
def State.faultScan (s : State) : State :=
  let s := { s with lfm := { s.lfm with poisoned := s.lfm.poisoned.filter s.markedWord } }
  s.faultMarks.foldl State.faultCheck s

/-- The entry of lamp `i`. -/
def State.faultEntry (s : State) (i : Nat) : Nat := bitsOf (readB zeroB s.mem.dram (s.faultBase + i / 4)).toNat (2 * (i % 4)) 2

/-- LFM reads the entry of lamp `i` and writes what `f` makes of it; a word that is read poisoned is written with its mark (R430). -/
def State.changeEntry (s : State) (i : Nat) (f : Nat → Option Nat) : State :=
  let a := s.faultBase + i / 4
  let (s, d, bad) := s.dramRead 4 (a / 8 * 8)
  let b := bitsOf d (8 * (a % 8)) 8
  let k := 2 * (i % 4)
  match f (bitsOf b k 2) with
  | some v => s.dramWrite 4 a [BitVec.ofNat 8 (b - bitsOf b k 2 * 2 ^ k + v * 2 ^ k)] bad
  | none => s

/-- Keep FAULT_CNT and MASK_CNT. -/
def State.showFaults (s : State) : State :=
  (s.set R.LFM.FAULT_CNT.COUNT (s.lampsWith [1, 2]).length).set R.LFM.MASK_CNT.COUNT (s.lampsWith [3]).length

/-! ### Integrity zones (R398 to R402) -/

/-- Zone `z` covers pixel (x, y), by the values in force. -/
def State.zoneHas (s : State) (z x y : Nat) : Bool :=
  s.cur (R.ZON.ZONE_XY0.X0 z) ≤ x && x ≤ s.cur (R.ZON.ZONE_XY1.X1 z) && s.cur (R.ZON.ZONE_XY0.Y0 z) ≤ y && y ≤ s.cur (R.ZON.ZONE_XY1.Y1 z)

/-- MODE of a zone in force. -/
def State.zoneMode (s : State) (z : Nat) : Nat := s.cur (R.ZON.ZONE_MODE.MODE z)

/-- The coordinates of a lamp: pixel x, y and position e. -/
def State.lampXY (s : State) (i : Nat) : Nat × Nat × Nat := (i / s.numE % s.tw, i / s.numE / s.tw, i % s.numE)

/-- The faulty lamps of a zone. -/
def State.zoneLamps (s : State) (z : Nat) (l : List Nat) : Nat :=
  (l.filter (fun i => s.zoneHas z (s.lampXY i).1 (s.lampXY i).2.1)).length

/-- Some pixel of a zone lies in rail strip (a, b). -/
def State.zoneMeets (s : State) (z a b : Nat) : Bool :=
  let rx := s.cur R.RAI.RGRID.RX + 1
  let ry := s.cur R.RAI.RGRID.RY + 1
  let up (n d : Nat) : Nat := (n + d - 1) / d
  max (s.cur (R.ZON.ZONE_XY0.X0 z)) (up (a * s.tw) rx) < min (s.cur (R.ZON.ZONE_XY1.X1 z) + 1) (up ((a + 1) * s.tw) rx) &&
  max (s.cur (R.ZON.ZONE_XY0.Y0 z)) (up (b * s.th) ry) < min (s.cur (R.ZON.ZONE_XY1.Y1 z) + 1) (up ((b + 1) * s.th) ry)

/-- A rail channel in FAULT feeds a lamp of the zone (R399). -/
def State.zoneRailFault (s : State) (z : Nat) : Bool :=
  let rx := s.cur R.RAI.RGRID.RX + 1
  let ry := s.cur R.RAI.RGRID.RY + 1
  let map := s.rmapForce
  (List.range (rx * ry)).any (fun st =>
    s.zoneMeets z (st % rx) (st / rx) &&
    (List.range s.numE).any (fun e =>
      let c := map.getD (st * s.numE + e) 0x1F
      c < 24 && s.railState c == Rail.fault))

/-- Whether zone `z` is dark: latched, or by the Spire check. -/
def State.zoneDark (s : State) (z : Nat) : Bool :=
  s.zoneMode z != 0 && (s.bit64 R.LFM.LATCH_LO.ZONES R.LFM.LATCH_HI.ZONES z || s.bit64 R.LFM.SPIRE_DARK_LO.ZONES R.LFM.SPIRE_DARK_HI.ZONES z)

/-- Keep LFM_STAT.ZONES, TILE_DARK and BLIND with their events. -/
def State.showZones (s : State) : State :=
  let dark := (List.range 64).filter s.zoneDark
  let tile := dark.any (fun z => s.zoneMode z == 2)
  let was := s.on R.LFM.LFM_STAT.TILE_DARK
  let blind := (List.range 64).any (fun z => s.zoneMode z != 0) && (timetable s.scn.force).rbEn == 0
  let wasB := s.on R.LFM.LFM_STAT.BLIND
  let s := (s.set R.LFM.LFM_STAT.ZONES dark.length).set R.LFM.LFM_STAT.TILE_DARK (bit tile)
  let s := s.evIf (tile && !was) B.lfm Ev.LFM.TILE_DARK
  let s := (s.set R.LFM.LFM_STAT.BLIND (bit blind)).fault B.lfm blind
  s.evIf (blind && !wasB) B.lfm Ev.LFM.BLIND

/-- Evaluate zone `z`: a faulted zone latches and raises ZONE_DARK (R399). -/
def State.evalZone (s : State) (z : Nat) : State :=
  let open_ := s.lampsWith [1, 2] ++ s.poisonedLamps
  let n := s.zoneLamps z open_
  let s := s.set (R.ZON.ZONE_FAULTS.COUNT z) (s.zoneLamps z (s.lampsWith [1, 2]))
  let faulted := s.zoneMode z != 0 && (n != 0 || s.zoneRailFault z)
  if faulted && !s.bit64 R.LFM.LATCH_LO.ZONES R.LFM.LATCH_HI.ZONES z && !s.frozen B.lfm then
    (s.putBit64 R.LFM.LATCH_LO.ZONES R.LFM.LATCH_HI.ZONES z true).ev B.lfm Ev.LFM.ZONE_DARK
  else s

/-- Evaluate every zone, by the map as LFM reads it. -/
def State.evalZones (s : State) : State := (s.faultScan.forN 64 State.evalZone).showZones

/-- Whether LFM holds lamp `i` dark (R359 step 2). -/
def State.lampDark (s : State) (i : Nat) : Bool :=
  s.on R.LFM.LFM_STAT.TILE_DARK ||
  (List.range 64).any (fun z => s.zoneMode z == 1 && s.zoneDark z && s.zoneHas z (s.lampXY i).1 (s.lampXY i).2.1)

/-- The Spire dark state at a load for frames `l`: the one it brings, and the one that the departure would show (R195, R400). While LFM
is frozen it stays (R403). -/
def State.spireLoad (s : State) (l : List Nat) : State :=
  if s.frozen B.lfm then s
  else
  let fail := l.any s.lfm.spireFail.contains
  let s := s.forN 64 (fun s z =>
    let dark := fail && s.zoneMode z != 0 && s.curOn (R.ZON.ZONE_MODE.SPIRE z)
    let was := s.bit64 R.LFM.SPIRE_DARK_LO.ZONES R.LFM.SPIRE_DARK_HI.ZONES z
    (s.putBit64 R.LFM.SPIRE_DARK_LO.ZONES R.LFM.SPIRE_DARK_HI.ZONES z dark).evIf (dark && !was) B.lfm Ev.LFM.SPIRE_DARK)
  s.showZones

/-! ### Faults of a channel (R389) -/

/-- Channel `c` stops to discharge (R390). -/
def State.stopDischarge (s : State) (c : Nat) : State :=
  { s with rai := { s.rai with discharging := s.rai.discharging.filter (· != c) } }

/-- Channel `c` faults with a cause. A cause that does not apply in the channel's state has no effect, but that DIS_TIMEOUT also ends the
discharge of a channel in FAULT (R390). -/
def State.railFault (s : State) (c cause : Nat) : State :=
  let st := s.railState c
  if cause = 5 && st = Rail.fault then s.stopDischarge c
  else
  let applies := st = Rail.softstart || st = Rail.ready || st = Rail.discharge
  let applies := applies && (cause != 3 || st == Rail.ready) && (cause != 5 || st == Rail.discharge)
  if !applies then s
  else
    let s := (s.setRail c Rail.fault).set (R.RCH.CH_STAT.FCAUSE c) cause
    let s := s.putBit R.RAI.RAI_STAT.FAULT c true
    let s := if cause = 5 then s.stopDischarge c else s.startDischarge c
    ((s.err B.rai 0x12 c 0).ev B.rai Ev.RAI.RAIL_FAULT).evalZones

/-- Update what the channel measures: output in mV, current in 10 mA. -/
def State.railMeasure (s : State) (c mv ma : Nat) : State :=
  (s.set (R.RCH.CH_MEAS.V c) mv).set (R.RCH.CH_MEAS.I c) ma

/-- The output of a channel in DISCHARGE or FAULT falls below 1 V (Table 13-1, R390), in FAULT also after its discharge has stopped. -/
def State.railDischarged (s : State) (c : Nat) : State :=
  if s.railState c != Rail.discharge && s.railState c != Rail.fault then s
  else
    let s := (s.stopDischarge c).set (R.RCH.CH_STAT.DISCHARGED c) 1
    if s.railState c = Rail.discharge then ((s.setRail c Rail.off).ev B.rai Ev.RAI.DISCHARGED).railEval c else s

/-- CLR_FAULT (Table 13-1). -/
def State.railClear (s : State) (c : Nat) : State :=
  if s.railState c = Rail.fault && s.on (R.RCH.CH_STAT.DISCHARGED c) then
    let s := ((s.setRail c Rail.off).set (R.RCH.CH_STAT.FCAUSE c) 0).putBit R.RAI.RAI_STAT.FAULT c false
    s.railEval c
  else s

/-! ### Readback (R393 to R396) -/

/-- The lamp a record names, by the Timetable in force (R395). -/
def State.recordLamp (s : State) (g r : Nat) : Option Nat :=
  let t := timetable s.scn.force
  let l := 8 * g + bitsOf r 59 3
  let row := bitsOf r 53 6
  let band := bitsOf r 39 14
  let pos := bitsOf r 23 16
  let ne := s.numE
  let cols := laneCols s.scn.force s.tw l
  if l < 8 * t.groups && row < s.scanS && band < s.nb && pos < cols.length * ne then
    some (((band * s.scanS + row) * s.tw + cols.getD (pos / ne) 0) * ne + pos % ne)
  else none

/-- Apply one record: the state, and whether it was bad and whether it marked a lamp. -/
def State.applyRecord (s : State) (g r : Nat) : State × Bool × Bool :=
  let kind := bitsOf r 62 2
  match (if kind = 0 || crc8 r != r % 256 then none else s.recordLamp g r) with
  | none => (s.count R.LFM.BAD_REC.COUNT, true, false)
  | some i =>
    let (x, y, e) := s.lampXY i
    let ch := railOf s.rmapForce (s.cur R.RAI.RGRID.RX + 1) (s.cur R.RAI.RGRID.RY + 1) s.tw s.th s.numE x y e
    if ch < 24 && s.railState ch != Rail.ready then (s.count R.LFM.SUPPR_CNT.COUNT, false, false)
    else
      let masked := s.faultEntry i == 3
      let keep := s.on R.LFM.LFM_CTRL.STICKY
      let put (v : Nat) : Option Nat := if v = 3 || kind = 3 && keep then none else some (if kind = 3 then 0 else kind)
      ((s.count R.LFM.REC_CNT.COUNT).changeEntry i put, false, !masked && kind != 3)

/-- Apply a list of records (group, record) as one step. -/
def State.applyRecords (s : State) (l : List (Nat × Nat)) : State :=
  let r := l.foldl (fun (a : State × Bool × Bool) e =>
    let (s, b, m) := a.1.applyRecord e.1 e.2
    (s, a.2.1 || b, a.2.2 || m)) (s, false, false)
  let s := r.1.evIf r.2.1 B.lfm Ev.LFM.REC_ERR
  (s.evIf r.2.2 B.lfm Ev.LFM.LAMP_FAULT).showFaults.evalZones

/-- The records before the end record of a list, and whether there was one (R393). -/
def upToEnd : List Nat → List Nat × Bool
  | [] => ([], false)
  | r :: l => if r / 256 = 0 then ([], true) else
    let (a, b) := upToEnd l
    (r :: a, b)

/-- The window closes before an end record of some group: LFM counts the window (R393). -/
def State.windowOverflow (s : State) (b : Bool) : State :=
  if b then (s.count R.LFM.OVF_CNT.COUNT).ev B.lfm Ev.LFM.REC_ERR else s

/-- The readback window closes with what each group sent. A frozen LFM keeps the records (R403). -/
def State.readback (s : State) (groups : List (Nat × List Nat)) : State :=
  if s.on R.LFM.LFM_STAT.SUSPENDED || !s.enabled B.lfm || (timetable s.scn.force).rbEn = 0 then s
  else
    let recs := (groups.map (fun g => (upToEnd g.2).1.map (fun r => (g.1, r)))).foldl (· ++ ·) []
    let s := s.windowOverflow (groups.any (fun g => !(upToEnd g.2).2))
    if s.frozen B.lfm then { s with lfm := { s.lfm with held := s.lfm.held ++ recs } }
    else s.applyRecords recs

/-- Write into the fault-map window (R396): entries beyond the last lamp do not exist. -/
def State.faultWrite (s : State) (o n v : Nat) : State :=
  if s.faultBytes < o + n then s
  else
    let s := s.dramWrite 4 (s.faultBase + o) (toBytes n v)
    s.showFaults.evalZones

/-- Read the fault-map window. -/
def State.faultRead (s : State) (o n : Nat) : State × Nat × Bool :=
  if s.faultBytes < o + n then (s, 0, false)
  else
    let (s, l, bad) := s.dramBytes 4 (s.faultBase + o) n
    (s, leNat l, bad)

end Sys2Proof.Machine
end

