-- ==== Sys2Proof/Machine/House.lean ====
section
/-!
DEFINITION. Housekeeping, calibration and identity (chapter 17): the round, conversions, cross-check, limits, throttle,
shutdown and field calibration.
-/
namespace Sys2Proof.Machine

/-! ### Conversions (R507) -/

/-- The next `n` binary digits of log2 of a mantissa `m` in 2^-48 between 1 and 2, most significant first, as a number. -/
def log2Bits : Nat → Nat → Nat → Nat
  | 0, _, a => a
  | n + 1, m, a =>
    let q := m * m / 2 ^ 48
    if 2 ^ 49 ≤ q then log2Bits n (q / 2) (2 * a + 1) else log2Bits n q (2 * a)

/-- log2 of a positive number, in 2^-32, with the mantissa cut to 2^-48. -/
def log2Fix (n : Nat) : Int :=
  let k := Nat.log2 n
  (k : Int) * 2 ^ 32 + log2Bits 32 (n * 2 ^ 48 / 2 ^ k) 0

/-- ln (n / d) in 2^-32, from the base-2 logarithms. -/
def lnFix (n d : Nat) : Int := (log2Fix n - log2Fix d) * 2977044472 / 2 ^ 32

/-- The NTC temperature in 2^-4 °C for B, R25 and RPU (10 Ω) at input `v` of a bias `vb`, rounded as free value `k`
decides; none where the formula has no value or leaves the range of CH_VAL. -/
def ntcTemp (k b r25 rpu v vb : Nat) : Option Int :=
  if b = 0 ∨ r25 = 0 ∨ rpu = 0 ∨ v = 0 ∨ vb ≤ v then none
  else
    let l := lnFix (rpu * v) (r25 * (vb - v))
    let den := 100 * (b : Int) * 2 ^ 32 + 29815 * l
    if den ≤ 0 then none
    else
      let t := openDiv k (16 * 29815 * (b : Int) * 2 ^ 32 * 10 - 43704 * den) (10 * den.toNat)
      if -32768 ≤ t ∧ t < 32768 then some t else none

/-- The LINEAR temperature in 2^-4 °C for V0 (0.1 mV) and SLOPE (µV per °C). -/
def linTemp (k v0 : Nat) (slope : Int) (v : Nat) : Option Int :=
  if slope = 0 then none
  else
    let n : Int := ((v : Int) - v0) * 1600 * (if slope < 0 then -1 else 1)
    let t := openDiv k n slope.natAbs
    if -32768 ≤ t ∧ t < 32768 then some t else none

/-- Type of channel `c`. -/
def State.chType (s : State) (c : Nat) : Nat := s.get (R.HCH.CH_CFG.TYPE c)

/-- A temperature channel: NTC, LINEAR or SENSOR. -/
def State.isTemp (s : State) (c : Nat) : Bool := [2, 3, 4].contains (s.chType c)

/-- The ratio ρ of an NTC or LINEAR channel lies outside 0.02 to 0.98 (R507). -/
def rhoOut (v vb : Nat) : Bool := 50 * v < vb || 98 * vb < 100 * v

/-- Publish the result of channel `c`: a SENSOR or INTERNAL channel brings its value, an external one its input voltage
in 0.1 mV (R506, R507). A value that the formulas do not give is free. Out of range the last value converted in range stays, or 0. -/
def State.publish (s : State) (c : Nat) (x : Int) (vb : Nat) : State :=
  let s := s.set (R.HCH.CH_VAL.STALE c) 0
  let ty := s.chType c
  if 58 ≤ c ∨ ty = 0 then s
  else if ty = 1 then (s.set (R.HCH.CH_VAL.OVER c) 0).setI (R.HCH.CH_VAL.VALUE c) x
  else if ty = 2 ∨ ty = 3 then
    let v := x.toNat
    if rhoOut v vb then (s.set (R.HCH.CH_VAL.OVER c) 1).set (R.HCH.CH_VAL.VALUE c) (lookupD s.hkt.inRange c 0)
    else
      let s := s.set (R.HCH.CH_VAL.OVER c) 0
      let t := if ty = 2 then
          ntcTemp s.fresh (s.get (R.HCH.CH_P0.A c)) (s.get (R.HCH.CH_P0.C c)) (s.get (R.HCH.CH_P1.RPU c)) v vb
        else linTemp s.fresh (s.get (R.HCH.CH_P0.A c)) (s.getI (R.HCH.CH_P0.C c)) v
      let s := (s.setI (R.HCH.CH_VAL.VALUE c) (t.getD (Config.choice s.fresh : Nat))).draw
      { s with hkt := { s.hkt with inRange := putD s.hkt.inRange c (s.get (R.HCH.CH_VAL.VALUE c)) 0 } }
  else s.setI (R.HCH.CH_VAL.VALUE c) x

/-! ### Cross-check (R509, R510) -/

/-- Channel `c` is broken. -/
def State.chBroken (s : State) (c : Nat) : Bool := s.on (R.HCH.CH_VAL.BROKEN c)

/-- Channel `c` takes part in this round: a temperature channel, not broken and not out of range. -/
def State.takesPart (s : State) (c : Nat) : Bool := s.isTemp c && !s.chBroken c && !s.on (R.HCH.CH_VAL.OVER c)

/-- The published temperature of channel `c`. -/
def State.chTemp (s : State) (c : Nat) : Int := s.getI (R.HCH.CH_VAL.VALUE c)

/-- Insert into an ascending list. -/
def insertI (x : Int) : List Int → List Int
  | [] => [x]
  | y :: r => if x ≤ y then x :: y :: r else y :: insertI x r

/-- Twice the median of a list that is not empty. -/
def median2 (l : List Int) : Int :=
  let t := l.foldr insertI []
  let n := t.length
  if n % 2 = 1 then 2 * t.getD (n / 2) 0 else t.getD (n / 2 - 1) 0 + t.getD (n / 2) 0

/-- A run of rounds: one more where `c`, otherwise none. -/
def runOn (l : List (Nat × Nat)) (k : Nat) (c : Bool) : List (Nat × Nat) :=
  if c then putD l k (lookupD l k 0 + 1) 0 else putD l k 0 0

/-- Channel `c` has no condition and counts toward none. -/
def State.dropConds (s : State) (c : Nat) : State :=
  let drop (l : List (Nat × Nat)) := putD l c 0 0
  let h := s.hkt
  { s with hkt := { h with
    devRun := drop h.devRun, warnRun := drop h.warnRun, thrRun := drop h.thrRun, shutRun := drop h.shutRun
    warnEnd := drop h.warnEnd, thrEnd := drop h.thrEnd, rorEnd := drop h.rorEnd
    warn := h.warn.filter (· != c), thr := h.thr.filter (· != c), ror := h.ror.filter (· != c) } }

/-- Declare channel `c` broken. -/
def State.declareBroken (s : State) (c : Nat) : State :=
  let s := (s.set (R.HCH.CH_VAL.BROKEN c) 1).putBit64 R.HKT.BROKEN_LO.CHANS R.HKT.BROKEN_HI.CHANS c true
  let s := s.dropConds c
  (s.ev B.hkt Ev.HKT.SENSOR_BROKEN).err B.hkt 0x10 c 0

/-- Cross-check the channels of every group other than 0 against the medians of this round (R509). -/
def State.crossCheck (s : State) : State :=
  let start := s
  s.forN 64 (fun s c =>
    let g := start.get (R.HCH.CH_CFG.GROUP c)
    let peers := (List.range 64).filter (fun o => o != c && start.takesPart o && start.get (R.HCH.CH_CFG.GROUP o) == g)
    if g = 0 ∨ !start.takesPart c then s
    else
      let off := 2 ≤ peers.length ∧ 2 * 128 < (2 * start.chTemp c - median2 (peers.map start.chTemp)).natAbs
      let s := { s with hkt := { s.hkt with devRun := runOn s.hkt.devRun c (decide off) } }
      if 3 ≤ lookupD s.hkt.devRun c 0 then s.declareBroken c else s)

/-! ### Limits (R511) -/

/-- A field of the limit set of channel `c`, signed. -/
def State.limit (s : State) (f : Nat → Fld) (c : Nat) : Int := s.getI (f (s.get (R.HCH.CH_CFG.LIMSET c)))

/-- The state of one condition after a round: present now, rounds toward its beginning and its end. -/
def condStep (on : Bool) (up down : Nat) (hot cool : Bool) (needUp needDown : Nat) : Bool × Nat × Nat :=
  let up := if hot then up + 1 else 0
  let down := if cool then down + 1 else 0
  if !on && needUp ≤ up then (true, up, 0)
  else if on && needDown ≤ down then (false, 0, down)
  else (on, up, down)

/-- Put `c` into or out of a list. -/
def member (l : List Nat) (c : Nat) (b : Bool) : List Nat := if b then (if l.contains c then l else l ++ [c]) else l.filter (· != c)

/-- WARN, THROTTLE and ROR of channel `c` in this round. A channel that is no temperature channel has no condition. -/
def State.limitRound (s : State) (c : Nat) : State :=
  if !s.isTemp c then s.dropConds c
  else if !s.takesPart c then s
  else
    let t := s.chTemp c
    let h := s.hkt
    let hyst := 16 * (clampN 1 20 (s.get (R.LIM.LIM_B.HYST (s.get (R.HCH.CH_CFG.LIMSET c)))) : Int)
    let w := s.limit R.LIM.LIM_A.WARN c
    let th := s.limit R.LIM.LIM_A.THROTTLE c
    let ror : Int := s.get (R.LIM.LIM_ROR.ROR (s.get (R.HCH.CH_CFG.LIMSET c)))
    let old := (h.hist.getD 63 []).getD c none
    -- (T - T_64) / 0.256 s, in 2^-4 °C per second, against ROR
    let fast (lim2 : Int) : Bool := match old with | some o => 2 * (t - o) * 1000 > lim2 * 256 | none => false
    let slow : Bool := match old with | some o => 2 * (t - o) * 1000 < ror * 256 | none => true
    let rorOn := s.on R.HKT.HKT_CTRL.ROR_EN && ror != 0
    let (cw, uw, dw) := condStep (h.warn.contains c) (lookupD h.warnRun c 0) (lookupD h.warnEnd c 0) (decide (w ≤ t)) (decide (t < w - hyst)) 2 16
    let (ct, ut, dt) := condStep (h.thr.contains c) (lookupD h.thrRun c 0) (lookupD h.thrEnd c 0) (decide (th ≤ t)) (decide (t < th - hyst)) 2 16
    let (cr, _, dr) := condStep (h.ror.contains c) 0 (lookupD h.rorEnd c 0) (rorOn && fast (2 * ror)) (slow || !rorOn) 1 64
    { s with hkt := { h with
      warn := member h.warn c cw, thr := member h.thr c ct, ror := member h.ror c cr
      warnRun := putD h.warnRun c (min uw 2) 0, warnEnd := putD h.warnEnd c dw 0
      thrRun := putD h.thrRun c (min ut 2) 0, thrEnd := putD h.thrEnd c dt 0, rorEnd := putD h.rorEnd c dr 0 } }

/-! ### Throttle (R512 to R514) -/

/-- The throttle state. -/
def State.thr (s : State) : Nat := s.get R.HKT.HKT_STAT.THR_STATE

/-- The notification of Table 17-4 after a change of THR_STATE. REQUESTED begins with the whole grace time. -/
def State.thrMessage (s : State) : List Nat :=
  let c := s.get R.HKT.THR_CHAN.CHAN
  let grace := if s.thr = 1 then 100 * s.get R.HKT.HKT_CTRL.GRACE else 0
  msgWords ([0x41#8, 0#8] ++ toBytes 1 s.thr ++ toBytes 1 c ++ toBytes 4 grace ++ toBytes 2 (s.get (R.HCH.CH_VAL.VALUE c)))

/-- The MC image of a sender sends it on every channel with an enabled tenant (R515): PF0, and the VFs that PF0 has enabled (log
entries 101 and 128). -/
def State.thrNotice (s : State) : State :=
  if s.isTile then s
  else
    let m := s.thrMessage
    s.forN 16 (fun s c => if s.fnUp c then s.mcAnswer c [(m, false)] else s)

/-- Set the throttle state; a change is notified (R515). -/
def State.setThr (s : State) (v : Nat) : State := if s.thr = v then s else (s.set R.HKT.HKT_STAT.THR_STATE v).thrNotice

/-- The fallback coding may be applied now (R62). -/
def State.fbUsable (s : State) : Bool := s.on R.DEP.MODE_CTRL.FB_EN && s.on R.DEP.MODE_CTRL.FB_VALID

/-- What entry to ENFORCED asks of the next frame departure in the Sender role (R514). -/
def State.enforceSender (s : State) : State :=
  if s.isTile then s
  else if s.fbUsable then { s with hkt := { s.hkt with fbNext := some true } }
  else { s with hkt := { s.hkt with divNext := some 2 } }

/-- Enter ENFORCED. -/
def State.enforce (s : State) : State := ((s.setThr 2).ev B.hkt Ev.HKT.THROTTLE_ENFORCED).enforceSender

/-- The throttle condition began in channel `c`. -/
def State.throttleBegin (s : State) (c : Nat) (byRor : Bool) : State :=
  let s := (s.set R.HKT.THR_CHAN.CHAN c).set R.HKT.THR_CHAN.BY_ROR (bit byRor)
  if s.thr = 0 then
    let s := (s.setThr 1).ev B.hkt Ev.HKT.THROTTLE_REQ
    if s.get R.HKT.HKT_CTRL.GRACE = 0 then s.enforce else s
  else if s.thr = 3 then s.enforce
  else s

/-- What entry to RELEASING asks of the next frame departure outside dark frames in the Sender role (R514). -/
def State.releaseSender (s : State) : State :=
  if s.isTile then s
  else { s with hkt := { s.hkt with
    fbNext := if s.on R.DEP.MODE_CTRL.FB_ACTIVE || s.hkt.fbNext == some true then some false else none
    divNext := some 1 } }

/-- The throttle condition ended. -/
def State.throttleEnd (s : State) : State :=
  if s.thr = 1 then (s.setThr 0).ev B.hkt Ev.HKT.THROTTLE_END
  else if s.thr = 2 then ((s.setThr 3).ev B.hkt Ev.HKT.THROTTLE_END).releaseSender
  else s

/-- Whether HKT evaluates: not frozen, and enabled (R519). -/
def State.hktEval (s : State) : Bool := s.enabled B.hkt && !s.frozen B.hkt

/-- Move the brightness cap at a frame departure in the Tile role (R513). -/
def State.hktCap (s : State) : State :=
  if !s.isTile || !s.hktEval then s
  else
    let p := s.get R.SCN.CAP.POS
    let st := s.get R.HKT.CAP_STEP.STEP
    if s.thr = 2 then s.set R.SCN.CAP.POS (max (min 65536 (s.get R.HKT.CAP_MIN.POS)) (p - st))
    else if s.thr = 3 then
      let q := min 65536 (p + st)
      let s := s.set R.SCN.CAP.POS q
      if q = 65536 then s.setThr 0 else s
    else s

/-! ### Trims and compensation (R520, R521) -/

/-- The DAC code of trim `k`: the factory value and the field value, which for the sense paths of a rail channel is its CH_TRIM in
force, clamped (R521, Table 17-6). -/
def State.dacCode (s : State) (k : Nat) : Int :=
  let field : Int :=
    if k < 20 then s.getI (R.CAL.TRIM_FIELD.CODE k)
    else if k < 44 then sgn 8 (s.cur (R.RCH.CH_TRIM.VS_TRIM (k - 20)))
    else sgn 8 (s.cur (R.RCH.CH_TRIM.IS_TRIM (k - 44)))
  max (-2048) (min 2047 (s.getI (R.CAL.TRIM_FACT.CODE k) + field))

/-- Trims 0 to 19 take effect: their DAC codes for the round that begins. -/
def State.takeTrims (s : State) : State := { s with hkt := { s.hkt with trims := (List.range 20).map s.dacCode } }

/-- The corrections of the internal oscillator and of the converter reference at the end of a round, in 2^-5 of a trim code: trim 3 +
trim 4 × (T - 25 °C) and trim 2 + trim 5 × (T - 25 °C), T the median of the on-die sensors that are not broken (R520). -/
def State.compensate (s : State) : State :=
  match ((List.range 14).filter s.takesPart).map s.chTemp with
  | [] => s
  | l =>
    let d := median2 l - 800
    let k (i : Nat) : Int := s.hkt.trims.getD i 0
    { s with hkt := { s.hkt with osc := 32 * k 3 + k 4 * d, refc := 32 * k 2 + k 5 * d } }

/-! ### The round (R506) -/

/-- TEMP_MAX: the highest temperature, of the lowest such channel. -/
def State.tempMax (s : State) : State :=
  match ((List.range 64).filter s.takesPart).foldl (fun (a : Option (Int × Nat)) c =>
      match a with
      | none => some (s.chTemp c, c)
      | some (t, k) => if t < s.chTemp c then some (s.chTemp c, c) else some (t, k)) none with
  | none => s
  | some (t, c) => (s.setI R.HKT.TEMP_MAX.T t).set R.HKT.TEMP_MAX.CHAN c

/-- Two rounds at or above SHUTDOWN in a channel that takes part (R516). -/
def State.shutCheck (s : State) : State × Bool :=
  let s := s.forN 64 (fun s c =>
    let n := if s.limit R.LIM.LIM_B.SHUTDOWN c ≤ s.chTemp c then min 2 (lookupD s.hkt.shutRun c 0 + 1) else 0
    if s.takesPart c then { s with hkt := { s.hkt with shutRun := putD s.hkt.shutRun c n 0 } } else s)
  (s, !s.hkt.shutdown && (List.range 64).any (fun c => 2 ≤ lookupD s.hkt.shutRun c 0))

/-- Start the discharge of every rail channel that is not OFF (R516). -/
def State.shutRailsDown (s : State) : State :=
  if !s.isTile then s
  else
    let l := (List.range 24).filter (fun c => s.railState c != Rail.off)
    let s := l.foldl (fun s c =>
      let s := if [Rail.softstart, Rail.ready].contains (s.railState c) then s.setRail c Rail.discharge else s
      if s.on (R.RCH.CH_STAT.DISCHARGED c) then s else s.startDischarge c) s
    { s with hkt := { s.hkt with shutRails := l } }

/-- The smallest of a list, `k` where it is empty or larger. -/
def smallest (l : List Nat) (k : Nat) : Nat := l.foldl min k

/-- The throttle condition of the module now (R511), and what its beginning or end does; `newT` and `newR` are the
channels whose THROTTLE and ROR conditions began in this round. -/
def State.throttleRound (s : State) (newT newR : List Nat) : State :=
  let cond := (s.hkt.thr != [] || s.hkt.ror != []) && s.on R.HKT.HKT_CTRL.THR_EN
  let was := s.hkt.cond
  let s := { s with hkt := { s.hkt with cond := cond } }
  let t := smallest (if newT = [] then s.hkt.thr else newT) 64
  let r := smallest (if newR = [] then s.hkt.ror else newR) 64
  if cond && !was then s.throttleBegin (min t r) (decide (r < t))
  else if was && !cond then s.throttleEnd
  else s

/-- Evaluate WARN, THROTTLE and ROR of every channel. -/
def State.limits (s : State) : State :=
  let h := s.hkt
  let s := s.forN 64 State.limitRound
  let s := (s.set R.HKT.HKT_STAT.WARN (bit (s.hkt.warn != []))).set R.HKT.HKT_STAT.ROR (bit (s.hkt.ror != []))
  let s := s.evIf (h.warn == [] && s.hkt.warn != []) B.hkt Ev.HKT.WARN
  s.throttleRound (s.hkt.thr.filter (fun c => !h.thr.contains c)) (s.hkt.ror.filter (fun c => !h.ror.contains c))

/-- Two rounds too hot: the shutdown begins. The second part of the answer says so. -/
def State.shutRound (s : State) : State × Bool :=
  let (s, down) := s.shutCheck
  if down then
    let s := (s.ev B.hkt Ev.HKT.SHUTDOWN).shutRailsDown
    ({ s with hkt := { s.hkt with shutdown := true } }, true)
  else (s, false)

/-- The results of a completed round: `raw` holds the 64 results as the converter gives them, `vb` the bias voltage in 0.1 mV. -/
def State.hktResults (s : State) (raw : List Int) (vb : Nat) : State :=
  let s := (s.forN 64 (fun s c => s.publish c (raw.getD c 0) vb)).set R.HKT.HKT_STAT.STALE 0
  let s := if s.hktEval then s.crossCheck.limits else s
  let s := { s with hkt := { s.hkt with hist :=
    (((List.range 64).map (fun c => if s.takesPart c then some (s.chTemp c) else none)) :: s.hkt.hist).take 64 } }
  let s := s.tempMax.compensate.takeTrims
  let s := s.forN 4 (fun s p => s.setI (R.MEM.TEMP.T p) (s.chTemp (14 + p / 2)))
  let vbus := s.get (R.HCH.CH_VAL.VALUE 48)
  let s := (s.set R.PWR.IN_MEAS.VBUS vbus).set R.PWR.IN_MEAS.IIN (s.get (R.HCH.CH_VAL.VALUE 55))
  let s := (s.set R.PWR.VBUS_MIN.V (min (s.get R.PWR.VBUS_MIN.V) vbus)).set R.PWR.VBUS_MAX.V (max (s.get R.PWR.VBUS_MAX.V) vbus)
  (s.set R.HKT.HKT_STAT.ROUND (s.get R.HKT.HKT_STAT.ROUND + 1)).ev B.hkt Ev.HKT.ROUND_DONE

/-- The end of a round. A converter test takes no samples, so no round completes in it, and shutdown is evaluated with the last samples
(R517, R518). -/
def State.hktRound (s : State) (raw : List Int) (vb : Nat) : State × Bool :=
  (if s.hkt.testing then s else s.hktResults raw vb).shutRound

/-! ### Commands -/

/-- A requested throttle is enforced. -/
def State.enforceReq (s : State) : State := if s.thr = 1 && s.hktEval then s.enforce else s

/-- The channels of a mask are broken no more, and their run starts anew. -/
def State.brokenClear (s : State) (mask : Nat) : State :=
  s.forN 64 (fun s c =>
    if bitAt mask c && s.chBroken c then
      let s := (s.set (R.HCH.CH_VAL.BROKEN c) 0).putBit64 R.HKT.BROKEN_LO.CHANS R.HKT.BROKEN_HI.CHANS c false
      { s with hkt := { s.hkt with devRun := putD s.hkt.devRun c 0 0 } }
    else s)

/-- GRACE_END (R512). -/
def execGraceEnd (t : Nat) (s : State) : Host.Outcome State Fault Refusal :=
  run (fun s => (s.tick t).enforceReq) s

/-- ENFORCE_NOW (R512): a write of 1 to HKT_CTRL.ENFORCE_NOW. -/
def execEnforceNow (t : Nat) (s : State) : Host.Outcome State Fault Refusal :=
  run (fun s => (s.tick t).enforceReq) s

/-- ENG_DIV_STEP (R514). -/
def execEngDivStep (t : Nat) (s : State) : Host.Outcome State Fault Refusal :=
  runIn .sender (fun s =>
    let s := s.tick t
    if s.thr = 2 && s.hktEval && !s.on R.DEP.MODE_CTRL.FB_ACTIVE && s.hkt.fbNext != some true then
      { s with hkt := { s.hkt with divNext := some 4 } }
    else s) s

/-- BROKEN_CLEAR (R510): bit c of the mask is the bit written for channel c. -/
def execBrokenClear (mask t : Nat) (s : State) : Host.Outcome State Fault Refusal :=
  run (fun s => (s.tick t).brokenClear mask) s

/-- CAL_RUN (R523): a write of 1 to CAL_CTRL.RUN. -/
def execCalRun (t : Nat) (s : State) : Host.Outcome State Fault Refusal :=
  run (fun s => (s.tick t).set R.CAL.CAL_STAT.BUSY 1) s

/-- The field calibration ends: slot 56 measured `ref` µV and slot 57 `gnd` µV. It fails when the gain would change by
more than 2 % or the offset by more than 20 mV; otherwise both trims take codes that the spec does not give (free values). A frozen CAL
ends none (log entry 132). -/
def State.fieldDone (s : State) (ref gnd : Int) : State :=
  if !s.on R.CAL.CAL_STAT.BUSY || s.frozen B.cal then s
  else
    let s := s.set R.CAL.CAL_STAT.BUSY 0
    let cfg : Int := s.get R.CAL.REFIN_CFG.UV
    let span := ref - gnd
    if 20000 < gnd.natAbs || 2 * span.natAbs < 100 * (cfg - span).natAbs then
      ((s.set R.CAL.CAL_STAT.RESULT 2).err B.cal 0x10 0 0).ev B.cal Ev.CAL.FIELD_DONE
    else
      let s := ((s.set (R.CAL.TRIM_FIELD.CODE 0) (Config.choice s.fresh)).set (R.CAL.TRIM_FIELD.CODE 1) (Config.choice (s.fresh + 1))).draw.draw
      (s.set R.CAL.CAL_STAT.RESULT 1).ev B.cal Ev.CAL.FIELD_DONE

/-- FIELD_DONE (R523). -/
def execFieldDone (ref gnd : Int) (t : Nat) (s : State) : Host.Outcome State Fault Refusal :=
  run (fun s => (s.tick t).fieldDone ref gnd) s

end Sys2Proof.Machine
end

