-- ==== Sys2Proof/Machine/Light.lean ====
section
/-!
DEFINITION. The light of one canvas point (chapters 6 and 7): sampling a source, linear light, the layer stack, output
colour and the Spire panels. Picture values are numbers in 2^-20. Where the spec leaves a rounding open it is a free
choice (`openR`, log entry 38).
-/
namespace Sys2Proof.Machine

/-- One in 2^-20. -/
def unit20 : Nat := 1048576

/-- Working light saturates below 16 (R182). -/
def satLight (x : Int) : Nat := (max 0 (min 16777215 x)).toNat

/-- Apply a function to the three components. -/
def Light.map (f : Nat → Nat) (c : Light) : Light := ⟨f c.r, f c.g, f c.b⟩

/-- A latched field of CMP, a layer page or COL (R176). -/
def State.lat (s : State) (f : Fld) : Nat := lookupD s.cmp.latch f.key f.rst

/-- A latched one-bit field. -/
def State.latOn (s : State) (f : Fld) : Bool := s.lat f == 1

/-! ### Chain colours and the fade gain -/

/-- A 10-bit chain code as working light (R183). -/
def decode10 (c : Nat) : Nat :=
  if c = 0 then 0 else if 1023 ≤ c then unit20
  else openUp 1 (largest (fun n => (1048576 + 1023 * n) ^ 1023 ≤ 2 ^ (20 * 1023 + 10 * c)) 21 0)

/-- A 30-bit colour of three 10-bit chain codes. -/
def decodeColor (w : Nat) : Light := ⟨decode10 (bitsOf w 20 10), decode10 (bitsOf w 10 10), decode10 (bitsOf w 0 10)⟩

/-- x g(f), rounded as the spec leaves open. -/
def fadeMul (x f : Nat) : Nat := if x = 0 ∨ f = 0 ∨ 65536 ≤ f then gainMul x f else openUp 2 (gainMul x f)

/-! ### Samples -/

/-- Both. -/
def Probe.add (a b : Probe) : Probe :=
  ⟨a.bad ++ b.bad, a.words ++ b.words, a.late ++ b.late, a.got ++ b.got, a.rows ++ b.rows⟩

/-- The layer makes no contribution: a sample is poisoned (R207), or its line is not stored (R147). -/
def Probe.fails (a : Probe) : Bool := a.bad != [] || a.late != []

/-- The byte of DRAM at `a` as a port would get it, and whether it is poisoned or not to be had. -/
def State.peekB (s : State) (a : Nat) : Nat × Bool :=
  match s.route a with
  | .copies _ => ((readB zeroB s.mem.dram a).toNat, s.parMask a 0 != 0)
  | _ => (0, true)

/-- A picture in DRAM: its address, its format, and for the follow flow the lines of the frame that the ring holds. -/
structure Src where
  addr : Nat
  fmt : Fmt
  lines : Option (List Nat) := none

/-- Bits per pixel of a format. -/
def Fmt.bpp (f : Fmt) : Nat :=
  let d := depthBits f.depth
  if f.sampling = 0 then 2 * d else if f.sampling = 3 then d else 3 * d

/-- Which sample of a line component `comp` of sample column `i` is (log entry 31). -/
def Fmt.place (f : Fmt) (comp i : Nat) : Nat :=
  if f.sampling = 0 then (if comp = 0 then i / 2 * 4 + i % 2 * 2 + 1 else 4 * i + 2 * (comp - 1))
  else if f.sampling = 1 then 3 * i + (if comp = 0 then 1 else if comp = 1 then 0 else 2)
  else if f.sampling = 2 then 3 * i + comp
  else i

/-- Range conversion of a code value (PRESUMED: the levels of the ranges are not in the spec; log entry 39). -/
def rangeConvert (range d : Nat) (chroma : Bool) (c : Nat) : Int :=
  if range = 0 then
    if chroma then openR 3 (((c : Int) - 128 * 2 ^ (d - 8)) * unit20) (224 * 2 ^ (d - 8))
    else openR 3 (((c : Int) - 16 * 2 ^ (d - 8)) * unit20) (219 * 2 ^ (d - 8))
  else if chroma then openR 3 (((c : Int) - 2 ^ (d - 1)) * unit20) (2 ^ d - 1)
  else openR 3 ((c : Int) * unit20) (2 ^ d - 1)

/-- Component `comp` is a colour difference. -/
def Fmt.chroma (f : Fmt) (comp : Nat) : Bool := f.sampling < 2 && comp != 0

/-- Component `comp` of sample (i, j) after range conversion. -/
def State.sampleAt (s : State) (src : Src) (comp i j : Nat) : Int × Probe :=
  let d := depthBits src.fmt.depth
  let pos := src.fmt.place comp i * d
  let a := src.addr + j * (src.fmt.w * src.fmt.bpp / 8) + pos / 8
  let b0 := s.peekB a
  let b1 := s.peekB (a + 1)
  let two := 8 < pos % 8 + d
  let w := b0.1 * 256 + (if two then b1.1 else 0)
  (rangeConvert src.fmt.range d (src.fmt.chroma comp) (w / 2 ^ (16 - pos % 8 - d) % 2 ^ d),
   ⟨(if b0.2 then [a] else []) ++ (if two && b1.2 then [a + 1] else []),
    if two then [a / 8 * 8, (a + 1) / 8 * 8] else [a / 8 * 8], [], [], []⟩)

/-! ### Resampling (R161 to R164) -/

/-- The first sample and the phase of a source position in 2^-k (R162). -/
def tapOf (u : Int) (k : Nat) : Int × Nat :=
  let p := u - 2 ^ (k - 1)
  let i := p / 2 ^ k
  let f := ((p % 2 ^ k * 64 + 2 ^ (k - 1)) / 2 ^ k).toNat
  if f = 64 then (i + 1, 0) else (i, f)

/-- Coefficient `t` of phase `f` of a kernel set of the latched bank (R163). -/
def State.kernel (s : State) (set f t : Nat) : Int := sgn 16 (readLE cardD s.map.latch (0x40000 + set * 0x300 + f * 12 + t * 2) 2)

/-- Saturation to the working format (R163). -/
def satCode (x : Int) : Int := max (-(Config.workBelow : Int)) (min (unit20 + Config.workAbove : Nat) x)

/-- The nearest sample index (R162). -/
def edge (i : Int) (n : Nat) : Nat := (max 0 (min ((n : Int) - 1) i)).toNat

/-- The six taps of one axis. -/
def State.taps (s : State) (site set f : Nat) (v : Nat → Int × Probe) : Int × Probe :=
  let l := (List.range 6).map (fun t => (s.kernel set f t, v t))
  (satCode (openR site (l.foldl (fun a e => a + e.1 * e.2.1) 0) 16384), l.foldl (fun a e => a.add e.2.2) {})

/-- Component `comp` of a source at (u, v) in 2^-32 (R161, R162, R164). -/
def State.resample (s : State) (src : Src) (set : Nat) (comp : Nat) (u v : Int) : Int × Probe :=
  let half := src.fmt.sampling == 0 && comp != 0
  let (iu, fu) := if half then tapOf (u + 2 ^ 31) 33 else tapOf u 32
  let (iv, fv) := tapOf v 32
  let n := if half then (src.fmt.w + 1) / 2 else src.fmt.w
  s.taps 5 set fv (fun r =>
    let j := edge (iv - 2 + r) src.fmt.h
    let (late, got) : List Nat × List Nat := match src.lines with
      | none => ([], [])
      | some l => if l.contains j then ([], [j]) else ([j], [])
    let (x, p) := s.taps 4 set fu (fun t => s.sampleAt src comp (edge (iu - 2 + t) n) j)
    (x, p.add ⟨[], [], late, got, [(0, j)]⟩))

/-! ### Linear light (R182) -/

/-- The non-linear components R'G'B' of the three components of a source. -/
def toRgb (f : Fmt) (a b c : Int) : Int × Int × Int :=
  if 2 ≤ f.sampling then (a, b, c)
  else
    let kr : Int := [2990, 2126, 2627, 2627].getD f.colorimetry 2126
    let kb : Int := [1140, 722, 593, 593].getD f.colorimetry 722
    let kg := 10000 - kr - kb
    (a + openR 6 (2 * (10000 - kr) * c) 10000,
     a - openR 6 (2 * kr * (10000 - kr) * c + 2 * kb * (10000 - kb) * b) (10000 * kg.toNat),
     a + openR 6 (2 * (10000 - kb) * b) 10000)

/-- E'^2.4, the largest n with n^5 · 2^140 ≤ E'^12, exact at 0 and 1. -/
def sdrLight (e : Nat) : Nat :=
  if e = 0 then 0 else if e = unit20 then unit20
  else openUp 7 (largest (fun n => n ^ 5 * 2 ^ 140 ≤ e ^ 12) 28 0)

/-- E' to the power 1/m2 of ST 2084, 32/2523, in 2^-64. -/
def pqRoot (e : Nat) : Nat := largest (fun x => x ^ 2523 * 2 ^ 640 ≤ e ^ 32 * 2 ^ 161472) 65 0

/-- The EOTF of ST 2084 in cd/m² divided by 203, for E' from 0 to 1: the largest light whose encoding does not exceed E'. With m1 =
1305/8192, c1 = 107/128, c2 = 2413/128 and c3 = 2392/128; PRESUMED from the standard that Table 7-1 names (log entry 40). -/
def pqLight (e : Nat) : Nat :=
  let x := pqRoot e
  let num := 128 * x - 107 * 2 ^ 64
  let den := 2413 * 2 ^ 64 - 2392 * x
  if num = 0 then 0
  else openUp 21 (largest (fun n => (203 * n) ^ 1305 * den ^ 8192 ≤ num ^ 8192 * (10000 * unit20) ^ 1305) 26 0)

/-- The exponential of `x` in 2^-64, by its power series. -/
def expFix (x : Int) : Int :=
  ((List.range 200).foldl (fun (a : Int × Int) i => (a.1 + a.2, a.2 * x / ((i + 1 : Nat) * 2 ^ 64))) (0, 2 ^ 64)).1

/-- The inverse of the HLG OETF of BT.2100 for E' in 2^-20: scene light in 2^-40. Its constants a, b and c are in 10^-8; PRESUMED from
the standard (log entry 40). -/
def hlgScene (e : Int) : Int :=
  if e < 0 then Config.belowBlack 2 e * unit20
  else if e ≤ 524288 then e * e / 3
  else (expFix ((e * 100000000 - 55991073 * unit20) * 2 ^ 64 / (17883277 * unit20)) / 2 ^ 24 + 28466892 * 2 ^ 40 / 100000000) / 12

/-- The luminance of scene light (BT.2100). -/
def hlgLuma (r g b : Int) : Nat := ((2627 * r + 6780 * g + 593 * b) / 10000).toNat

/-- HLG light: scene light `e` of a component times the fifth root of the luminance `y` (system gamma 1.2), for a nominal peak of
1,000 cd/m², divided by 203. -/
def hlgLight (y : Nat) (e : Int) : Int :=
  openR 22 (e * (1000 * largest (fun n => n ^ 5 ≤ y * 2 ^ 160) 48 0 : Nat)) (203 * 2 ^ 60)

/-- Table 7-1 for one component `e` of R'G'B'. -/
def transfer (tcs : Nat) (r g b e : Int) : Int :=
  if tcs = 2 then hlgLight (hlgLuma (hlgScene r) (hlgScene g) (hlgScene b)) (hlgScene e)
  else if tcs = 3 then e
  else if e < 0 then Config.belowBlack tcs e
  else if tcs = 0 then sdrLight e.toNat
  else if tcs = 1 then (if unit20 < e then Config.pqAbove e.toNat else pqLight e.toNat)
  else e

/-- From the primaries of BT.601 (625 lines) and of BT.709 to those of BT.2020, white D65, in 2^-40, row by row; computed from the
chromaticities of those standards (PRESUMED, log entry 40). -/
def primaries (colorimetry : Nat) : List Int :=
  if colorimetry = 0 then
    [720220552605, 332229494454, 47061580717, 79319379825, 1007846584520, 12345663431, 18816349789, 107591027999, 973104249988]
  else [689837878892, 362050529526, 47623219358, 75973273097, 1011045356595, 12492998084, 18022577639, 96771655410, 984717394727]

/-- From BT.2020 to BT.709, in 2^-40. -/
def toBt709 : List Int :=
  [1825729164636, -646118265058, -80099271802, -136944694982, 1245636609996, -9180287239, -19956975362, -110587667869, 1230056271006]

/-- Row `i` of a matrix in 2^-40 applied to a colour; a negative result is clamped to 0. -/
def primRow (site : Nat) (m : List Int) (i : Nat) (r g b : Int) : Int :=
  max 0 (openR site (m.getD (3 * i) 0 * r + m.getD (3 * i + 1) 0 * g + m.getD (3 * i + 2) 0 * b) (2 ^ 40))

/-- Working light of R'G'B' (R182, steps 2 to 4). -/
def linearise (f : Fmt) (gain : Nat) (c : Int × Int × Int) : Light :=
  let t (e : Int) : Int := transfer f.tcs c.1 c.2.1 c.2.2 e
  let l := (t c.1, t c.2.1, t c.2.2)
  let m (i : Nat) (own : Int) : Int :=
    if 2 ≤ f.colorimetry then max 0 own else primRow 8 (primaries f.colorimetry) i l.1 l.2.1 l.2.2
  let g (x : Int) : Nat := satLight (openR 9 (x * gain) 4096)
  ⟨g (m 0 l.1), g (m 1 l.2.1), g (m 2 l.2.2)⟩

/-! ### Layers (R173 to R181) -/

/-- The key slot of the enabled pair whose fill slot is `k`. -/
def State.keyOf (s : State) (k : Nat) : Option Nat :=
  (List.range 16).find? (fun o => s.isKey o && s.on (R.FLOW.FLOW_CTRL.EN o) && s.on (R.FLOW.FLOW_CTRL.EN k) &&
    s.get (R.FLOW.FLOW_CTRL.PAIR o) == k)

/-- The 90 kHz timestamps that belong to departure `n` (R147). -/
def State.followTs (s : State) (n : Nat) : List Nat :=
  match s.depTime n with
  | none => []
  | some t =>
    let c := (t / 65536 - s.getI R.TIM.ALIGN_OFS.V) * 9 / 100000
    [uns 32 (c - 1), uns 32 c, uns 32 (c + 1)]

/-- The picture that slot `k` shows in frame `n`: 0 transparent, 1 a source, 2 the SUBST colour (R143, R146). -/
def State.slotShows (s : State) (n k : Nat) : Nat × Src :=
  if s.follows k then
    let ts := s.followTs n
    (1, ⟨(s.slot k).bufs.getD 0 0, s.flowFmt k, some ((s.ing.ring.filter (fun e => ts.contains e.2.1)).map (·.1))⟩)
  else
    match (s.slot k).picked with
    | some f => ((s.slot k).present, ⟨f.addr, f.fmt, none⟩)
    | none => (if (s.slot k).present = 2 then 2 else 0, ⟨0, s.flowFmt k, none⟩)

/-- Layer `k` covers the point, and its source position in 2^-32 (R174). -/
def State.placement (s : State) (k : Nat) (p : Point) : Option (Int × Int) :=
  let dx := p.x - s.lat (R.LAY.L_DST_XY.DX k) * 65536
  let dy := p.y - s.lat (R.LAY.L_DST_XY.DY k) * 65536
  let size (f : Fld) : Int := (min 16384 (s.lat f) * 65536 : Nat)
  if 0 ≤ dx && dx < size (R.LAY.L_DST_WH.DW k) && 0 ≤ dy && dy < size (R.LAY.L_DST_WH.DH k) then
    some (sgn 32 (s.lat (R.LAY.L_U0.U0 k)) * 65536 + dx * s.lat (R.LAY.L_USTEP.USTEP k),
          sgn 32 (s.lat (R.LAY.L_V0.V0 k)) * 65536 + dy * s.lat (R.LAY.L_VSTEP.VSTEP k))
  else none

/-- What a layer gives at a point: nothing, or its alpha-multiplied light, effective alpha and whether it is opaque. -/
structure LayerOut where
  some_ : Bool := false
  col : Light := {}
  alpha : Nat := 0
  opaque_ : Bool := false
  probe : Probe := {}

/-- The three components of a source at (u, v). -/
def State.components (s : State) (src : Src) (set : Nat) (u v : Int) : (Int × Int × Int) × Probe :=
  let a := s.resample src set 0 u v
  if src.fmt.sampling = 3 then ((a.1, a.1, a.1), a.2)
  else
    let b := s.resample src set 1 u v
    let c := s.resample src set 2 u v
    ((a.1, b.1, c.1), (a.2.add b.2).add c.2)

/-- The components of the SUBST colour: 10-bit codes in the declared format (FLOW_SUBST). -/
def State.substCode (s : State) (k : Nat) (f : Fmt) : Int × Int × Int :=
  let w := s.get (R.FLOW.FLOW_SUBST.RGB k)
  let v (comp lsb : Nat) : Int := rangeConvert f.range 10 (f.chroma comp) (bitsOf w lsb 10)
  (v 0 20, v 1 10, v 2 0)

/-- A pre-multiplied code value divided by α_pix (R178). -/
def unmultiply (a : Nat) (x : Int) : Int := if a < 1024 then 0 else min unit20 (openR 10 (x * unit20) a)

/-- Layer `k` of frame `n` in view `v` at point `p`, sampled with kernel set `set` (R174, R177 to R180). -/
def State.layerAt (s : State) (n set v : Nat) (p : Point) (k : Nat) : LayerOut :=
  let la := min 65536 (s.lat (R.LAY.L_ALPHA.LALPHA k))
  let fp := s.get (R.LAY.L_FADE_POS.POS k)
  if !s.latOn (R.LAY.L_CTRL.EN k) || !bitAt (s.lat (R.LAY.L_CTRL.VIEW_MASK k)) v || la = 0 || fp = 0 then {}
  else match s.placement k p with
  | none => {}
  | some (u, w) =>
    let keyed := s.latOn (R.LAY.L_CTRL.ALPHA_SRC k)
    let slot := s.lat (R.LAY.L_CTRL.SLOT k)
    let effective (a : Nat) : Nat := fadeMul (openR 11 (a * la : Nat) 65536).toNat fp
    let put (a : Nat) (c : Light) (pr : Probe) : LayerOut :=
      let e := effective a
      ⟨true, c.map (fun x => (openR 12 (x * e : Nat) unit20).toNat), e, !keyed && la == 65536 && fp == 65536, pr⟩
    if s.lat (R.LAY.L_CTRL.KIND k) = 1 && !keyed then put unit20 (decodeColor (s.lat (R.LAY.L_COLOR.COLOR k))) {}
    else
      let key := s.keyOf slot
      let (shows, src) := s.slotShows n slot
      if keyed && key.isNone then {}
      else if shows = 0 then {}
      else
        let (a, pa) : Nat × Probe :=
          match keyed, key, shows with
          | true, some o, 1 =>
            let x := s.resample (s.slotShows n o).2 set 0 u w
            ((max 0 (min (unit20 : Int) x.1)).toNat, x.2)
          | _, _, _ => (unit20, {})
        if s.lat (R.LAY.L_CTRL.KIND k) = 1 then
          if pa.fails then ⟨false, {}, 0, false, pa⟩
          else put a (decodeColor (s.lat (R.LAY.L_COLOR.COLOR k))) pa
        else
          let (c, pc) := if shows = 2 then (s.substCode slot src.fmt, ({} : Probe)) else s.components src set u w
          let pr := pa.add pc
          if pr.fails then ⟨false, {}, 0, false, pr⟩
          else
            let c := if s.latOn (R.LAY.L_CTRL.ALPHA_FORM k) then (unmultiply a c.1, unmultiply a c.2.1, unmultiply a c.2.2) else c
            put a (linearise src.fmt (s.lat (R.LAY.L_GAIN.GAIN k)) (toRgb src.fmt c.1 c.2.1 c.2.2)) pr

/-- The contributing layers from the top down to the first opaque one (R180), and what was fetched. -/
def State.stack (s : State) (n set v : Nat) (p : Point) : List Nat → List LayerOut × Probe
  | [] => ([], {})
  | k :: r =>
    let o := s.layerAt n set v p k
    let o := { o with probe := { o.probe with rows := o.probe.rows.map (fun e => (k, e.2)) } }
    if o.some_ && o.opaque_ then ([o], o.probe)
    else
      let (l, q) := s.stack n set v p r
      (if o.some_ then o :: l else l, o.probe.add q)

/-- Composite a list of layers, top first, over a background (R179). -/
def compose (bg : Light) (l : List LayerOut) : Light :=
  l.foldr (fun o below =>
    let f (c x : Nat) : Nat := satLight ((c : Int) + openR 13 (x * (unit20 - o.alpha) : Nat) unit20)
    ⟨f o.col.r below.r, f o.col.g below.g, f o.col.b below.b⟩) bg

/-- Working light of frame `n`, view `v`, at a point: the light, layers left out, extra clocks, and the fetches (R181). -/
def State.lightAt (s : State) (n set v : Nat) (p : Point) : Light × Nat × Nat × Probe :=
  let bg := decodeColor (s.lat R.CMP.BG_COLOR.BG)
  let (l, pr) := s.stack n set v p ((List.range 16).reverse)
  if l.length ≤ 8 then (compose bg l, 0, 0, pr)
  else if s.latOn R.CMP.CMP_CTRL.OVER8 then (compose bg l, 0, (l.length - 8 + 7) / 8, pr)
  else (compose bg (l.take 8), l.length - 8, 0, pr)

/-! ### Output colour (R185 to R188) -/

/-- Whether COL must use the identity matrix, or the reset curves, because an entry is poisoned (R207). The staged entry and the one in
force share one mark (DESIGN CHOICE, log entry 118). -/
def State.badMatrix (s : State) : Bool := (List.range 9).any (fun i => s.sramPoisoned (0x80104 + 4 * i))
def State.badCurve (s : State) : Bool := (List.range 771).any (fun i => s.sramPoisoned (0x80300 + 4 * i))

/-- The output matrix (R186 step 1). -/
def State.matrix (s : State) (bad : Bool) (c : Light) : Light :=
  if bad || !s.latOn R.COL.COL_CTRL.MTX_EN then c
  else
    let m (i : Nat) : Int := sgn 16 (s.lat (R.COL.MTX.COEF i))
    let row (i : Nat) : Nat := satLight (openR 14 (m i * c.r + m (i + 1) * c.g + m (i + 2) * c.b) 4096)
    ⟨row 0, row 3, row 6⟩

/-- The tone curve of channel `ch` (R188). An entry above 0x10_0000 counts as 0x10_0000 (R586). -/
def State.curve (s : State) (bad : Bool) (ch x : Nat) : Nat :=
  if !s.latOn R.COL.COL_CTRL.CURVE_EN then min unit20 x
  else
    let f (i : Nat) : Fld := R.COL.CURVE.DRIVE (ch * 257 + i)
    let e (i : Nat) : Nat := if bad then (f i).rst else min unit20 (s.lat (f i))
    let p := ((log2Fix (2 ^ 24 + 1023 * x) - 24 * 2 ^ 32) * 128 / 5).toNat
    let i := p / 2 ^ 32
    if 256 ≤ i then e 256
    else (((e i : Nat) : Int) + openR 15 (((e (i + 1) : Int) - e i) * (p % 2 ^ 32 : Nat)) (2 ^ 32)).toNat

/-- The chain codes of a pixel of working light (R186). -/
def State.outputPixel (s : State) (badM badC : Bool) (c : Light) : Pix :=
  let c := s.matrix badM c
  let f := s.get R.COL.MFADE_POS.POS
  let ch (i x : Nat) : Nat := chainEncode (fadeMul (s.curve badC i x) f)
  ⟨ch 0 c.r, ch 1 c.g, ch 2 c.b⟩

/-! ### Spire panels (R189, R190) -/

/-- A panel descriptor. -/
structure Panel where
  q : Nat
  dx : Nat
  dy : Nat
  w : Nat
  h : Nat
  ofs : Nat
  crc : Nat

/-- The enabled panels of a bank, lowest first. -/
def panels (m : List Host.Cell) : List Panel :=
  ((List.range 16).filter (fun q => readLE zeroB m (q * 256) 1 % 2 == 1)).map (fun q =>
    let w (o : Nat) : Nat := readLE zeroB m (q * 256 + o) 4
    ⟨q, bitsOf (w 4) 0 15, bitsOf (w 4) 16 15, bitsOf (w 8) 0 15, bitsOf (w 8) 16 15, bitsOf (w 12) 0 20, w 16⟩)

/-- The panel that shows at a point: the highest-numbered one that contains it. -/
def panelAt (l : List Panel) (p : Point) : Option Panel :=
  let x := (p.x / 65536).toNat
  let y := (p.y / 65536).toNat
  l.reverse.find? (fun q => q.dx ≤ x && x < q.dx + q.w && q.dy ≤ y && y < q.dy + q.h)

/-- Where the poison marks of the Spire bank in force are kept: it has no local addresses of its own. -/
def spireMarks : Nat := 0x100000000

/-- The palette entry of a panel at a point, and the addresses in the window of the poisoned words that it comes from: the descriptor,
the index and the palette entry (R193). -/
def State.panelPixel (s : State) (q : Panel) (p : Point) : Pix × List Nat :=
  let m := s.cmp.spLatch
  let k := ((p.y / 65536).toNat - q.dy) * q.w + ((p.x / 65536).toNat - q.dx)
  let a := q.ofs + k / 2
  let b := readLE zeroB m a 1
  let e := if k % 2 = 0 then b % 16 else b / 16
  let pa := q.q * 256 + 0x80 + e * 8
  let rg := readLE zeroB m pa 4
  (⟨bitsOf rg 0 12, bitsOf rg 16 12, bitsOf (readLE zeroB m (pa + 4) 4) 0 12⟩,
   ((List.range 3).map (fun i => q.q * 256 + 8 * i) ++ [a, pa]).filter (fun o => s.sramPoisoned (spireMarks + o)))

end Sys2Proof.Machine
end

