-- ==== Sys2Proof/Machine/Compose.lean ====
section
/-!
DEFINITION. The sender's picture path: the checks and copies of the card table and the Spire window (R167, R169, R192,
R193), fades and latches at a departure (R168, R176, R184), the shares of a frame (R155 to R194), their sequences on the
line ports (R200, R203, R270, R271) and the monitor stream (R197 to R199).
-/
namespace Sys2Proof.Machine

/-! ### The card table -/

/-- What a check of the staging bank finds (R169): code, CHECK_CARD, window offset and SOURCE. -/
def State.cardStaged (s : State) : Option (Nat × Nat × Nat × Nat) := cardCheck (enabledCards s.map.stage) s.canvasStaged

/-- A CHECK completes (R169): its result is shown, and the mode check is repeated. -/
def State.cardChecked (s : State) : State :=
  if s.on R.MAP.CARD_STAT.CHECK_BUSY then
    let (code, card, _) := s.cardStaged.getD (0, 0, 0, 0)
    let s := ((s.set R.MAP.CARD_STAT.CHECK_CODE code).set R.MAP.CARD_STAT.CHECK_CARD card).set R.MAP.CARD_STAT.CHECK_BUSY 0
    s.evaluate.ev B.map Ev.MAP.CHECK_DONE
  else s

/-! ### The Spire window (R189 to R193) -/

/-- The CRC of a panel's palette and data (Table 7-3). -/
def panelCrc (m : List Host.Cell) (q : Panel) : Nat :=
  crc32 (((readBytes zeroB m (q.q * 256 + 0x80) 128) ++ (readBytes zeroB m q.ofs (q.w * q.h / 2))).map (·.toNat))

/-- A panel's size is refused (BAD_SIZE). -/
def Panel.badSize (q : Panel) : Bool := q.w % 2 == 1 || q.w == 0 || q.h == 0 || q.w > 16384 || q.h > 16384

/-- A panel's data lie outside the window (BAD_RANGE). -/
def Panel.badRange (q : Panel) : Bool := q.ofs < 0x1000 || q.ofs + q.w * q.h / 2 > 0x100000

/-- The first failure of Table 7-4 in panel order: (code, panel). Range and size come before the CRC, which cannot be
computed without them. -/
def spireCheck (m : List Host.Cell) : Option (Nat × Nat) :=
  (panels m).findSome? (fun q =>
    if q.badRange then some (0x11, q.q) else if q.badSize then some (0x12, q.q)
    else if panelCrc m q != q.crc then some (0x10, q.q) else none)

/-- Show the enabled panels of the bank in force in SP_ACTIVE. -/
def State.showPanels (s : State) : State :=
  s.set R.SPI.SP_ACTIVE.PANELS ((panels s.cmp.spForce).foldl (fun a q => a + 2 ^ q.q) 0)

/-- The banks exchange roles and the copy begins (R192). -/
def State.exchangeSpire (s : State) : State :=
  let s := { s with cmp := { s.cmp with spForce := s.cmp.spStage } }
  (((s.set R.SPI.SP_STAT.SYNCING 1).showPanels).set R.SPI.SP_STAT.BAD 0).bankMarks 0x800000 0x100000 spireMarks

/-- The bits of the aligned 32-bit word at an offset of the window that can be written (Table 7-3). -/
def spireMask (o : Nat) : Nat :=
  if 0x1000 ≤ o then 0xFFFFFFFF
  else
    let r := o % 256
    if r = 0 then 1 else if r = 4 ∨ r = 8 then 0x7FFF7FFF else if r = 12 then 0xFFFFF else if r = 16 then 0xFFFFFFFF
    else if r < 0x80 then 0 else if r % 8 = 0 then 0x0FFF0FFF else 0xFFF

/-- Store in the staging bank, reserved bits as 0. -/
def State.spireStore (s : State) (o n v : Nat) : State :=
  let m := if n = 8 then spireMask o + 2 ^ 32 * spireMask (o + 4) else spireMask o
  { s with cmp := { s.cmp with spStage := writeLE zeroB s.cmp.spStage o n (v &&& m) } }

/-- A write of the window stalls while SYNCING is 1. -/
def State.spireWrite (s : State) (o n v : Nat) : State :=
  if s.on R.SPI.SP_STAT.SYNCING then { s with cmp := { s.cmp with spStalled := s.cmp.spStalled ++ [(o, n, v)] } }
  else s.spireStore o n v

/-- The staging bank as it stands once the stalled writes have completed. -/
def State.spireSettled (s : State) : List Host.Cell :=
  (s.cmp.spStalled.foldl (fun (s : State) e => s.spireStore e.1 e.2.1 e.2.2) s).cmp.spStage

/-- A read of the window. During the copy it stalls with the accesses before it, and completes after it (R192). -/
def State.spireRead (s : State) (o n : Nat) : Nat :=
  readLE zeroB (if s.on R.SPI.SP_STAT.SYNCING then s.spireSettled else s.cmp.spStage) o n

/-- The check of every frame period (R193): a panel that fails is shown in BAD; its shares are flagged from the next
frame departure. -/
def State.contentCheck (s : State) : State :=
  let bad := ((panels s.cmp.spForce).filter (fun q => panelCrc s.cmp.spForce q != q.crc)).foldl (fun a q => a + 2 ^ q.q) 0
  (s.set R.SPI.SP_STAT.BAD (s.get R.SPI.SP_STAT.BAD ||| bad)).evIf (bad != 0) B.spire Ev.SPI.CONTENT_BAD

/-! ### Latches and fades at a frame departure (R168, R176, R184) -/

/-- The new position of a fade: toward the target by the step, at once with step 0. -/
def fadeStep (pos tgt step : Nat) : Nat :=
  if step = 0 then tgt else if pos < tgt then min tgt (pos + step) else max tgt (pos - step)

/-- The position of layer `k` differs from its target in force (Table 7-8). -/
def State.fading (s : State) (k : Nat) : Bool :=
  s.get (R.LAY.L_FADE_POS.POS k) != min 65536 (s.cur (R.LAY.L_FADE_TGT.TGT k))

/-- Keep L_STAT.FADING of every layer. -/
def State.showFading (s : State) : State := s.forN 16 (fun s k => s.set (R.LAY.L_STAT.FADING k) (bit (s.fading k)))

/-- The fades take their step. FADE_DONE is raised when a position reaches its target. -/
def State.stepFades (s : State) : State :=
  let s := s.forN 16 (fun s k =>
    let t := min 65536 (s.cur (R.LAY.L_FADE_TGT.TGT k))
    if s.frozen (B.layer k) || !s.fading k then s
    else
      let q := fadeStep (s.get (R.LAY.L_FADE_POS.POS k)) t (s.cur (R.LAY.L_FADE_STEP.STEP k))
      (s.set (R.LAY.L_FADE_POS.POS k) q).evIf (q == t) (B.layer k) (Ev.LAY.FADE_DONE + k % 2))
  let s := s.showFading
  let p := s.get R.COL.MFADE_POS.POS
  let t := min 65536 (s.cur R.COL.MFADE_TGT.TGT)
  if s.frozen B.col || p = t then s
  else
    let q := fadeStep p t (s.cur R.COL.MFADE_STEP.STEP)
    (s.set R.COL.MFADE_POS.POS q).evIf (q == t) B.col Ev.COL.MFADE_DONE

/-- Key `k` lies in the CMP page, a layer page or the COL page. -/
def picturePage (k : Nat) : Bool := inPage B.cmp k || inPage B.col k || (List.range 8).any (fun i => inPage (B.layer (2 * i)) k)

/-- MAP, CMP, the layer pages, the Spire window and COL are latched for the frame picked at this departure. -/
def State.latchPicture (s : State) : State :=
  let s := s.latchCards
  let s := { s with cmp := { s.cmp with
    latch := s.force.filter (fun e => picturePage e.1), spLatch := s.cmp.spForce, spFlag := s.get R.SPI.SP_STAT.BAD
    stopped := false } }
  -- NO_KEY (R177), whatever L_CTRL.EN is
  s.forN 16 (fun s k =>
    let no := s.latOn (R.LAY.L_CTRL.ALPHA_SRC k) && (s.keyOf (s.lat (R.LAY.L_CTRL.SLOT k))).isNone
    let was := s.on (R.LAY.L_STAT.NO_KEY k)
    (s.set (R.LAY.L_STAT.NO_KEY k) (bit no)).evIf (no && !was) (B.layer k) (Ev.LAY.NO_KEY + k % 2))

/-! ### Which shares a frame has (R155, R206, R255, R499, R502) -/

/-- The last stop that a port carries video to: N, or the stop before the first held one. -/
def State.lastCarried (s : State) (p : Nat) : Nat :=
  let b := s.get (R.LNK.LINE_STAT.BREAK p)
  let n := s.get (R.LNE.LNE_STAT.N p)
  if b = 0 then n else min n (b - 1)

/-- The pages of the picture path whose freeze or soft reset makes shares DARK: MAP, CMP, its layer pages and COL (R171, R206). -/
def picturePages : List Nat := [B.map, B.cmp, B.col] ++ (List.range 8).map (fun i => B.layer (2 * i))

/-- A block of the picture path does not work, or has been frozen or reset since the last frame departure, or the copy of a MAP
soft reset runs: every share is DARK (R171, R206). -/
def State.pathStopped (s : State) : Bool :=
  s.cmp.stopped || s.on (R.PG.BUSY B.map) || picturePages.any (fun b => !s.works b)

/-- A freeze or a soft reset reaches the page at `b`: shares of the frame under way are DARK. -/
def State.stopPicture (s : State) (b : Nat) : State :=
  if picturePages.contains b then { s with cmp := { s.cmp with stopped := true } } else s

/-- The sender is late (R57) outside the dark frames. -/
def State.senderLate (s : State) : Bool := s.dep.flipFailed

/-- Every share of the frame is DARK. -/
def State.allDark (s : State) : Bool :=
  s.pathStopped || (s.on R.CLU.CLU_CFG.STRICT && (s.senderLate || s.clu.selfOut))

/-- Frame `n` is dark as a whole (R52): from E - 1 to E + D - 2. -/
def State.frameDark (s : State) (n : Nat) : Bool :=
  (match s.dep.dark with | some (e, d) => decide (e ≤ n + 1 ∧ n + 2 ≤ e + d) | none => false) ||
  s.armedEntries.any (fun e => e.2.action == 2 &&
    (match s.launchTime e.2, s.depTime n, s.depTime (n + 1) with
     | some t, some a, some b => decide (a < t ∧ t ≤ b)
     | _, _, _ => false))

/-! ### Composing -/

/-- What the pixels of a row have added up to: counts of R160, R158, R181 and R165, the extra clocks of the group of 8 pixels under
way, the Spire panels met, addresses of poisoned Spire words, and the fetches. -/
structure Tally where
  outside : Nat := 0
  degen : Nat := 0
  skip : Nat := 0
  ext : Nat := 0
  grp : Nat := 0
  panels : List Nat := []
  spireBad : List Nat := []
  probe : Probe := {}

/-- One pixel of a card: its chain codes, and the tally with it. -/
def State.cardPixel (s : State) (n v : Nat) (c : Card) (ps : List Panel) (x y : Nat) (a : Tally) : Pix × Tally :=
  let bg (s : State) : Pix :=
    if c.outside = 1 then s.outputPixel s.otg.badM s.otg.badC (decodeColor (s.lat R.CMP.BG_COLOR.BG)) else {}
  match mapPixel s.map.latch s.map.canvas c x y with
  | .outside => (bg s, { a with outside := a.outside + 1 })
  | .degenerate => (bg s, { a with outside := a.outside + 1, degen := a.degen + 1 })
  | .at p =>
    match panelAt ps p with
    | some q =>
      let (px, bad) := s.panelPixel q p
      (px, { a with panels := if a.panels.contains q.q then a.panels else q.q :: a.panels, spireBad := a.spireBad ++ bad })
    | none =>
      let (l, sk, ex, pr) := s.lightAt n c.kset v p
      (s.outputPixel s.otg.badM s.otg.badC l, { a with skip := a.skip + sk, grp := max a.grp ex, probe := a.probe.add pr })

/-- The layers of which one tile row touches more than 58 source rows (R165). -/
def refetched (rows : List (Nat × Nat)) : Nat :=
  ((List.range 16).filter (fun k =>
    let l := (rows.filter (·.1 == k)).map (·.2)
    58 < l.foldl max 0 + 1 - l.foldl min (l.headD 0))).length

/-- Row `y` of a card. The groups of 8 output pixels of R181 begin at pixel 0 of each row; the extra clocks of a group are the most
that one of its pixels asks for (DESIGN CHOICE, log entry 41). -/
def State.cardRow (s : State) (n v : Nat) (c : Card) (ps : List Panel) (y : Nat) : List Pix × Tally :=
  (List.range c.w).foldl (fun (r : List Pix × Tally) x =>
    let (px, t) := s.cardPixel n v c ps x y r.2
    (r.1 ++ [px], if x % 8 = 7 || x + 1 = c.w then { t with ext := t.ext + t.grp, grp := 0 } else t)) ([], {})

/-- The card of a share that is being composed. -/
def State.accCard (s : State) (a : ShareAcc) : Option Card := findCard (enabledCards s.map.latch) a.port a.stop a.view

/-- Row `r` of a share, where its card has it: its pixels and their tally. A sender that is late shows LATE_COLOR (R499). -/
def State.shareRow (s : State) (n r : Nat) (a : ShareAcc) : Option (List Pix × Tally) :=
  match s.accCard a with
  | none => none
  | some c =>
    if c.h ≤ r then none
    else if s.otg.flat then
      let px := (decodeColor (s.get R.CLU.LATE_COLOR.COLOR)).map chainEncode
      some (List.replicate c.w ⟨px.r, px.g, px.b⟩, {})
    else some (s.cardRow n a.view c (panels s.cmp.spLatch) r)

/-- A block event that is raised once in a frame for each port. -/
def State.portFrameEv (s : State) (p : Nat) (c : Bool) (b k : Nat) : State :=
  if c && !s.otg.seen.contains (b, k + 32 * p) then
    ({ s with otg := { s.otg with seen := (b, k + 32 * p) :: s.otg.seen } }).ev b k
  else s

/-- A block event that is raised once in a frame. -/
def State.frameEv (s : State) (c : Bool) (b k : Nat) : State := s.portFrameEv 0 c b k

/-- Poison consumed in the frame: raised once by a block (R193, R207). -/
def State.framePoison (s : State) (b : Nat) (l : List Nat) : State :=
  match l with
  | [] => s
  | a :: _ =>
    if s.otg.seen.contains (b, Ev.PG.POISON) then s
    else ({ s with otg := { s.otg with seen := (b, Ev.PG.POISON) :: s.otg.seen } }).poison b 0 a

/-- MAP reads the words of a row: each used word once in a frame, and those of a row that spans more than 58 source rows of a layer
anew (R165); how many bursts that takes beyond one a layer is open. -/
def State.readWords (s : State) (pr : Probe) : State :=
  let l := pr.words.eraseDups
  let new := l.filter (fun w => !s.otg.words.contains w)
  let again := l.filter s.otg.words.contains
  let extra := refetched pr.rows
  let s := { s with otg := { s.otg with words := s.otg.words ++ new } }
  let s := new.foldl (fun s w => (s.dramRead 1 w).1) s
  if extra = 0 then s
  else
    let s := again.foldl (fun s w => (s.dramRead 1 w).1) s
    ((s.count R.MAP.REFETCH_CNT.COUNT (extra + Config.choice s.fresh)).draw).frameEv true B.map Ev.MAP.REFETCH

/-- MAP has read lines of the follow flow for frame `n`, and found others missing, each counted once in a frame (R147). -/
def State.readLines (s : State) (n : Nat) (pr : Probe) : State :=
  let ts := s.followTs n
  let s := { s with ing := { s.ing with
    ring := s.ing.ring.map (fun (e : Nat × Nat × Bool) => (e.1, e.2.1, e.2.2 || (pr.got.contains e.1 && ts.contains e.2.1))) } }
  let new := pr.late.eraseDups.filter (fun j => !s.otg.late.contains j)
  let s := { s with otg := { s.otg with late := s.otg.late ++ new } }
  (s.count R.ING.FOLLOW_CNT.LATE new.length).frameEv (new != []) B.ing Ev.ING.FOLLOW_LATE

/-- The effects of a row of frame `n` on port `p`: the counters and events of R158, R160, R165, R181, R193, R207 and R297. -/
def State.applyTally (s : State) (n p : Nat) (a : Tally) (errs : List Nat) : State :=
  let s := (s.count R.MAP.OUTSIDE_CNT.COUNT a.outside).count R.MAP.DEGEN_CNT.COUNT a.degen
  let s := s.frameEv (a.degen != 0) B.map Ev.MAP.DEGENERATE
  let s := (s.count R.CMP.SKIP_CNT.COUNT a.skip).count R.CMP.EXTEND_CNT.COUNT a.ext
  let s := s.frameEv (a.skip + a.ext != 0) B.cmp Ev.CMP.OVERLAP
  let s := ((s.readWords a.probe).readLines n a.probe).framePoison B.cmp a.probe.bad
  let s := s.framePoison B.spire (a.spireBad.map (0x800000 + ·))
  let beyond := (errs.filter (fun e => s.get R.KLC.LINE_BOUND.CODES < e)).length
  let s := s.count (if p = 0 then R.KLC.BLOCK_CNT_A.COUNT else R.KLC.BLOCK_CNT_B.COUNT) errs.length
  (s.count (if p = 0 then R.KLC.BOUND_CNT.A else R.KLC.BOUND_CNT.B) beyond).portFrameEv p (beyond != 0) B.klc Ev.KLC.BOUND_EXCEEDED

/-- One more row of a share: coded, and its effects. -/
def State.putRow (s : State) (n : Nat) (a : ShareAcc) (row : Option (List Pix × Tally)) : State × ShareAcc :=
  match row with
  | none => (s, a)
  | some (l, t) =>
    let (bits, dec, errs) := codeRow (if a.port = 0 then s.otg.codA else s.otg.codB) l
    (s.applyTally n a.port t errs,
     { a with bits := a.bits ++ [bits], dec := a.dec ++ dec, bad := a.bad || t.spireBad != []
              panels := a.panels ++ t.panels.filter (fun q => !a.panels.contains q) })

/-- The number of rounds of a view: the tallest card (R200). -/
def State.viewRounds (s : State) (v : Nat) : Nat :=
  ((s.otg.accs.filter (fun a => a.view == v)).map (fun a => ((s.accCard a).map (·.h)).getD 0)).foldl max 0

/-- Line `j` of the follow flow of frame `n` cannot come any more: the ring has gone past it (R147). -/
def State.lineGone (s : State) (n j : Nat) : Bool :=
  let ts := s.followTs n
  s.ing.ring.any (fun e => ts.contains e.2.1 && j + 2 ^ clampN 6 10 (s.get R.ING.FOLLOW.RING_EXP) ≤ e.1)

/-- Compose the next round of the frame on both ports (R200). Under BAND_LOCKED it waits for the lines that its rows reach (R202),
unless `force` says that OTG has come to it. -/
def State.composeRound (s : State) (n : Nat) (force : Bool) : State :=
  let (v, r) := s.otg.next
  if s.otg.views ≤ v then s
  else if s.viewRounds v ≤ r then { s with otg := { s.otg with next := (v + 1, 0) } }
  else
    let rows := s.otg.accs.map (fun a => (a, if a.view = v then s.shareRow n r a else none))
    let waits := rows.any (fun x => (x.2.map (fun y => y.2.probe.late.any (fun j => !s.lineGone n j))).getD false)
    if waits && !force then s
    else
      let (s, l) := rows.foldl (fun (z : State × List ShareAcc) x =>
        let (s, a) := z.1.putRow n x.1 x.2
        (s, z.2 ++ [a])) (s, [])
      { s with otg := { s.otg with accs := l, next := (v, r + 1) } }

/-- Compose as many rounds as can be composed. -/
def State.composeRounds (s : State) (n : Nat) (force : Bool) : State :=
  s.forN (((List.range s.otg.views).map (fun v => s.viewRounds v + 1)).foldl (· + ·) 0) (fun s _ => s.composeRound n force)

/-- A share of view `v` on port `p` that is carried DARK: no card names it (R155), or its pixels are withheld. -/
def State.darkShare (s : State) (p k : Nat) : Share :=
  let size := (enabledCards s.map.latch).find? (fun c => c.port == p && c.stop == k)
  { stop := k, dark := true, w := (size.map (·.w)).getD 0, h := (size.map (·.h)).getD 0 }

/-- The shares of frame `n` begin (R155): one for each stop that a port carries video to and each view that has a card. -/
def State.composeStart (s : State) : State :=
  let all := s.allDark
  let held (p k : Nat) : Bool := all || (s.on R.CLU.CLU_CFG.STRICT && s.clu.outStops.contains (p, k))
  let accs := (List.range (2 * s.otg.views)).flatMap (fun i =>
    ((List.range (s.lastCarried (i % 2))).map (fun k => ({ port := i % 2, view := i / 2, stop := k + 1 } : ShareAcc))).filter
      (fun a => (s.accCard a).isSome && !held a.port a.stop))
  let badM := s.badMatrix && s.latOn R.COL.COL_CTRL.MTX_EN
  let badC := s.badCurve && s.latOn R.COL.COL_CTRL.CURVE_EN
  let s := { s with otg := { s.otg with
    accs := accs, next := (0, 0), words := [], late := [], seen := [], flat := s.senderLate, badM := badM, badC := badC } }
  if accs != [] then
    s.framePoison B.col ((if badM then [R.COL.MTX.COEF 0 |>.addr] else []) ++ (if badC then [R.COL.CURVE.DRIVE 0 |>.addr] else []))
  else s

/-- A composed share, with the marks and the CRC of its Spire pixels (R193, R194). -/
def State.shareOf (s : State) (a : ShareAcc) : Share :=
  let c := s.accCard a
  let spire := a.panels != []
  let bad := a.bad || a.panels.any (fun q => bitAt s.cmp.spFlag q)
  { stop := a.stop, dark := false, spire := spire, bad := spire && bad, w := (c.map (·.w)).getD 0, h := (c.map (·.h)).getD 0
    rows := a.bits, crc := if spire then crc32 ((a.dec.map spireBytes).foldl (· ++ ·) []) else 0 }

/-- The shares of the frame are composed: each stop that a port carries video to has one in each view. -/
def State.composeEnd (s : State) : State :=
  let sh := (List.range (2 * s.otg.views)).map (fun i => (i % 2, i / 2, (List.range (s.lastCarried (i % 2))).map (fun k =>
    match s.otg.accs.find? (fun a => a.port == i % 2 && a.view == i / 2 && a.stop == k + 1) with
    | some a => s.shareOf a
    | none => s.darkShare (i % 2) (k + 1))))
  let s := { s with otg := { s.otg with shares := sh, follow := false, accs := [], words := [], late := [] } }
  s.count R.SPI.SP_FAIL_CNT.COUNT ((sh.map (fun e => (e.2.2.filter (·.bad)).length)).foldl (· + ·) 0)

/-- Compose the whole frame, or what is left of it. -/
def State.composeFrame (s : State) (n : Nat) : State := (s.composeRounds n true).composeEnd

/-- A line of the follow flow has been stored: the rounds that waited for it follow (R202). -/
def State.followAdvance (s : State) : State :=
  match s.otg.frame with
  | some n => if s.otg.follow then s.composeRounds n false else s
  | none => s

/-! ### The sequence of one view (R270, R271) -/

/-- A framing flit of a kind with the fields of bits [95:20]. -/
def framing (kind fields : Nat) : Nat :=
  let w := 0x9D2B + 2 ^ 16 * kind + fields
  w + 2 ^ 96 * crc32 (numBytes 12 w)

/-- Flits of 128 bits of the low `n` bits of a number. -/
def flitsOf (v n : Nat) : List Nat := (List.range ((n + 127) / 128)).map (fun i => bitsOf v (128 * i) 128)

/-- The data of rounds `r0` to `r1 - 1` of some shares, packed from bit 0 upward: the bits and their number. -/
def roundBits (coding r0 r1 : Nat) (sh : List Share) : Nat × Nat :=
  ((List.range (r1 - r0)).map (fun i => (sh.filter (fun x => !x.dark && r0 + i < x.h)).map (fun x =>
    (x.rows.getD (r0 + i) 0, x.w * bpp coding)))).foldl (fun a l =>
      l.foldl (fun a e => (a.1 + 2 ^ a.2 * e.1, a.2 + e.2)) a) (0, 0)

/-- The number of rounds of a view. -/
def roundsOf (sh : List Share) : Nat := (sh.map (fun x => if x.dark then 0 else x.h)).foldl max 0

/-- The VIDEO flits of one view, cut after `cut` rounds where one is given (R203). -/
def OtgSt.viewFlits (o : OtgSt) (v coding : Nat) (sh : List Share) (cut : Option Nat) : List Nat :=
  let n := o.frame.getD 0 % 2 ^ 32
  let total := roundsOf sh
  let sent := match cut with | some r => min r total | none => total
  let head := framing 1 (v * 2 ^ 20 + (o.views - 1) * 2 ^ 22 + coding * 2 ^ 24 + bit o.dark * 2 ^ 26 + bit o.relief * 2 ^ 27 +
    n * 2 ^ 32 + (if o.dark then 0 else sh.length) * 2 ^ 64 + o.health * 2 ^ 72)
  let heads := sh.map (fun x => framing 2 (x.stop * 2 ^ 20 + bit x.dark * 2 ^ 28 + bit x.spire * 2 ^ 29 + x.w * 2 ^ 32 + x.h * 2 ^ 48))
  let segs := ((List.range ((sent + 7) / 8)).map (fun s =>
    let (b, k) := roundBits coding (8 * s) (min sent (8 * s + 8)) sh
    framing 3 (v * 2 ^ 20 + 8 * s * 2 ^ 24 + n * 2 ^ 64) :: flitsOf b k)).foldl (· ++ ·) []
  let tails := (sh.filter (fun x => !x.dark)).map (fun x =>
    framing 4 (x.stop * 2 ^ 20 + bit (sent < x.h) * 2 ^ 28 + bit x.spire * 2 ^ 29 + bit x.bad * 2 ^ 30 + x.crc * 2 ^ 32 +
      min sent x.h * 2 ^ 64))
  let body := if o.dark then [head] else head :: (heads ++ segs ++ tails)
  body ++ [framing 5 (v * 2 ^ 20 + bit cut.isSome * 2 ^ 22 + n * 2 ^ 32 + body.length * 2 ^ 64)]

/-- Send the views of the frame on port `p`, up to a cut (view, rounds). -/
def State.sendPort (s : State) (p : Nat) (cut : Option (Nat × Nat)) : State :=
  let o := s.otg
  let coding := if p = 0 then o.codA else o.codB
  let views := match cut with | some c => c.1 + 1 | none => o.views
  s.forN (min views o.views) (fun s v =>
    let sh := ((o.shares.find? (fun e => e.1 == p && e.2.1 == v)).map (·.2.2)).getD []
    let c := match cut with | some (cv, r) => if cv = v then some r else none | none => none
    let rounds := match c with | some r => min r (roundsOf sh) | none => roundsOf sh
    let s := s.set (if p = 0 then R.OTG.OTG_STAT.ROUND_A else R.OTG.OTG_STAT.ROUND_B) (rounds - 1)
    let s := s.set R.OTG.OTG_STAT.VIEW v
    let s := s.evIf (s.get R.OTG.LINE_MATCH.PORT == p && s.get R.OTG.LINE_MATCH.ROUND < rounds) B.otg Ev.OTG.LINE_MATCH
    if s.portActive p then
      let flits := o.viewFlits v coding sh c
      let s := (s.emit (.video p v flits)).setPort p { s.port p with vq := (s.port p).vq ++ flits }
      { s with que := { s.que with video := s.que.video.mapIdx (fun i x => if i = p then some s.frc else x) } }
    else s)

/-- Count the stalls of a port in a frame (R200). -/
def State.underruns (s : State) (a b : Nat) : State :=
  let s := (s.count R.OTG.UNDERRUN_CNT.A a).count R.OTG.UNDERRUN_CNT.B b
  (s.evIf (a != 0) B.otg Ev.OTG.UNDERRUN).evIf (b != 0) B.otg Ev.OTG.UNDERRUN

/-- OTG begins the frame of the last departure (R200). Frozen it sends DARK headers (R206); disabled, or in safe mode (R535), it
sends nothing. -/
def State.otgStart (s : State) : State :=
  match s.dep.last with
  | none => s
  | some n =>
    if !s.live B.otg || !s.enabled B.otg || s.on R.FWU.FWU_STAT.SAFE then { s with otg := { s.otg with frame := none } }
    else
      let m := s.modeCur
      let dark := s.frameDark n || s.frozen B.otg
      let follow := m.timing == 1 && s.on R.ING.FOLLOW.VALID && !dark
      let s := s.set R.RDN.HEALTH.TX s.healthWord
      let s := { s with otg := {
        frame := some n, time := (s.depTime n).getD s.wall, views := m.views + 1, codA := m.codA, codB := m.codB
        health := s.get R.RDN.HEALTH.TX, relief := s.srcRelief, dark := dark, follow := follow, shares := [] } }
      let s := ((s.set R.OTG.OTG_STAT.ROUND_A 0).set R.OTG.OTG_STAT.ROUND_B 0).set R.OTG.OTG_STAT.VIEW 0
      if dark then s
      else if follow then s.composeStart.composeRounds n false
      else s.composeStart.composeFrame n

/-- The shares as they leave: what is left of a frame that waited for the follow flow is composed with the lines that there are
(R147), and every share is DARK where the picture path was frozen or reset in the frame (R171, R206). -/
def State.otgCompose (s : State) (n : Nat) : State :=
  let s := if s.otg.follow then s.composeFrame n else s
  if s.pathStopped then
    { s with otg := { s.otg with shares := s.otg.shares.map (fun e =>
      (e.1, e.2.1, e.2.2.map (fun x => ({ stop := x.stop, dark := true, w := x.w, h := x.h } : Share)))) } }
  else s

/-- Both ports have sent the frame (R204). -/
def State.blankStart (s : State) (a b : Nat) : State :=
  match s.otg.frame with
  | none => s
  | some n =>
    let s := ((((s.otgCompose n).sendPort 0 none).sendPort 1 none).flushVideo 0).flushVideo 1
    let s := (s.underruns a b).evIf (!s.otg.dark) B.otg Ev.OTG.FRAME_DONE
    let s := s.set R.OTG.LAST_FINISH.NS ((s.wall - s.otg.time) / 65536).toNat
    { (s.ev B.otg Ev.OTG.BLANK_START) with otg := { s.otg with frame := none, shares := [] } }

/-- The cut of R203: for each port where it fell (view, rounds sent), or none where the port had finished. A frame that is cut raises no
FRAME_DONE (DESIGN CHOICE, log entry 117). -/
def State.otgAbort (s : State) (cutA cutB : Option (Nat × Nat)) (a b : Nat) : State :=
  match s.otg.frame with
  | none => s
  | some n =>
    let s := ((((s.otgCompose n).sendPort 0 cutA).sendPort 1 cutB).flushVideo 0).flushVideo 1
    let s := (s.underruns a b).count R.OTG.ABORT_CNT.COUNT
    let lastSent (c : Option (Nat × Nat)) : Bool := match c with | some x => s.otg.views ≤ x.1 + 1 | none => true
    let s := s.ev B.otg Ev.OTG.ABORT
    let s := if lastSent cutA && lastSent cutB then
        (s.set R.OTG.LAST_FINISH.NS ((s.wall - s.otg.time) / 65536).toNat).ev B.otg Ev.OTG.BLANK_START
      else s
    { s with otg := { s.otg with frame := none, shares := [] } }

/-! ### The monitor stream (R197 to R199) -/

/-- The rate check of R199 for the staged monitor registers. -/
def State.monitorBad (s : State) : Bool :=
  let w := s.get R.COL.MON_SIZE.MW
  let h := s.get R.COL.MON_SIZE.MH
  let sub := s.get R.COL.MON_CTRL.SUB + 1
  s.on R.COL.MON_CTRL.EN && (w > 1920 || h > 1080 || w % 2 == 1 ||
    w * h * sub * sub * rate1001 (s.get R.TIM.RATE_CUR.RATE) > 500000000 * 1001)

/-- The light of monitor point in 2^-16 canvas pixels: the layers with kernel set 3 and the master fade, a Spire pixel
decoded, black for a point outside the canvas; and the words that it reads. -/
def State.monitorPoint (s : State) (n v : Nat) (p : Point) : Light × List Nat :=
  let cv := s.map.canvas
  if p.x < 0 || p.y < 0 || (cv.cw * 65536 : Nat) ≤ p.x || (cv.ch * 65536 : Nat) ≤ p.y then ({}, [])
  else match panelAt (panels s.cmp.spLatch) p with
  | some q => let px := (s.panelPixel q p).1; (⟨chainDecode px.r, chainDecode px.g, chainDecode px.b⟩, [])
  | none =>
    let (l, _, _, pr) := s.lightAt n 3 v p
    (l.map (fun x => fadeMul x (s.get R.COL.MFADE_POS.POS)), pr.words)

/-- One monitor pixel: the mean of SUB × SUB points, and the words that they read. -/
def State.monitorPixel (s : State) (n mx my : Nat) : Light × List Nat :=
  let sub := s.lat R.COL.MON_CTRL.SUB + 1
  let at_ (org step m a : Nat) : Int :=
    -- (m + (a + 0.5) / SUB) × step, in 2^-16
    (org * 4096 : Nat) + openR 16 ((2 * m * sub + 2 * a + 1) * step : Nat) (2 * sub)
  let ps := (List.range (sub * sub)).map (fun i => s.monitorPoint n (s.lat R.COL.MON_CTRL.VIEW)
    ⟨at_ (s.lat R.COL.MON_X0.ORG) (s.lat R.COL.MON_STEP_X.STEP) mx (i % sub),
     at_ (s.lat R.COL.MON_Y0.ORG) (s.lat R.COL.MON_STEP_Y.STEP) my (i / sub)⟩)
  let mean (f : Light → Nat) : Nat := (openR 17 ((ps.map (fun q => f q.1)).foldl (· + ·) 0 : Nat) (sub * sub)).toNat
  (⟨mean (·.r), mean (·.g), mean (·.b)⟩, ps.flatMap (·.2))

/-- The raster of frame `n`, black for a dark frame, computed with the values latched for it, and the words that each pixel reads. -/
def State.monitorRaster (s : State) (n : Nat) : List (List (Light × List Nat)) :=
  let dark := s.frameDark n
  (List.range (s.lat R.COL.MON_SIZE.MH)).map (fun y => (List.range (s.lat R.COL.MON_SIZE.MW)).map (fun x =>
    if dark then ({}, []) else s.monitorPixel n x y))

/-- At departure n + 1, before the new latches, the monitor engine has frame `n` ready, with what COL gives for it. It has read each word
of its sources once, through port 2, and checked it (R428). -/
def State.monitorTake (s : State) (n : Nat) : State :=
  if s.live B.col && s.latOn R.COL.MON_CTRL.EN then
    let img := s.monitorRaster n
    let s := (img.flatten.flatMap (·.2)).eraseDups.foldl (fun (s : State) w => (s.dramRead 2 w).1) s
    { s with cmp := { s.cmp with monitor := some ⟨n, (s.depTime n).getD s.wall, s.lat R.COL.MON_CTRL.PORT, s.lat R.COL.MON_DST.ADDR,
      s.lat R.COL.MON_UDP.PORT, s.lat R.COL.MON_UDP.PT, s.lat R.COL.MON_SSRC.SSRC, s.lat R.COL.MON_CTRL.FMT, img.map (fun l => l.map (·.1))⟩ } }
  else { s with cmp := { s.cmp with monitor := none } }

/-- The non-linear value of working light `x`, 0 to 1 in 2^-20 (R198): the inverse of Table 7-1 for SDR (0), clipped at 1.0, and for
PQ (1). -/
def sdrCode (x : Nat) : Nat := if unit20 ≤ x then unit20 else openUp 23 (largest (fun e => e ^ 12 ≤ x ^ 5 * 2 ^ 140) 20 0)
def pqCode (x : Nat) : Nat := openUp 24 (largest (fun e => e ≤ unit20 && pqLight e ≤ x) 21 0)

/-- The HLG values of a colour: inverse OOTF for a nominal peak of 1,000 cd/m², then the OETF, as the inverse of Table 7-1 (BT.2100).
The sixth root is of the display luminance. -/
def hlgCode (c : Light) : Light :=
  let f (x : Nat) : Nat := x * 203 * 2 ^ 20 / 1000
  let y := hlgLuma (f c.r) (f c.g) (f c.b)
  let root := largest (fun n => n ^ 6 ≤ y * 2 ^ 200) 42 0
  let e (x : Nat) : Nat := if root = 0 then 0 else openUp 25 (largest (fun e => hlgScene e ≤ (f x * 2 ^ 40 / root : Nat)) 21 0)
  ⟨e c.r, e c.g, e c.b⟩

/-- R'G'B' of a monitor pixel in format `fmt`: SDR in BT.709 primaries, PQ and HLG in those of BT.2100. -/
def monitorCode (fmt : Nat) (c : Light) : Light :=
  if fmt = 1 then c.map pqCode
  else if fmt = 2 then hlgCode c
  else
    let m (i : Nat) : Nat := (primRow 26 toBt709 i c.r c.g c.b).toNat
    ⟨sdrCode (m 0), sdrCode (m 1), sdrCode (m 2)⟩

/-- The 10-bit Y', C'B and C'R codes of a monitor pixel, in the narrow range (PRESUMED, log entry 45). -/
def monitorYcc (fmt : Nat) (c : Light) : Nat × Nat × Nat :=
  let k := monitorCode fmt c
  let (kr, kb) : Int × Int := if fmt = 0 then (2126, 722) else (2627, 593)
  let y : Int := kr * k.r + (10000 - kr - kb) * k.g + kb * k.b
  let d (x : Nat) (kx : Int) : Int := 512 + openR 27 (448 * ((x : Int) * 10000 - y)) ((10000 - kx).toNat * unit20)
  let code (x : Int) : Nat := (max 4 (min 1019 x)).toNat
  (code (64 + openR 28 (876 * y) (10000 * unit20)), code (d k.b kb), code (d k.r kr))

/-- A chroma code of a pixel pair: between those of its two pixels, the filter being open (log entry 45). -/
def pairChroma (a b : Nat) : Nat := min a b + Config.rounding 29 a b % (max a b - min a b + 1)

/-- A row of the monitor raster as pixel groups of ST 2110-20: C'B, Y'0, C'R, Y'1 in 5 bytes. -/
def monitorGroups (fmt : Nat) (row : List Light) : List (List Byte) :=
  (List.range (row.length / 2)).map (fun i =>
    let (y0, b0, r0) := monitorYcc fmt (row.getD (2 * i) {})
    let (y1, b1, r1) := monitorYcc fmt (row.getD (2 * i + 1) {})
    (toBytes 5 (((pairChroma b0 b1 * 1024 + y0) * 1024 + pairChroma r0 r1) * 1024 + y1)).reverse)

/-- Bytes of a number, most significant first. -/
def beBytes (n v : Nat) : List Byte := (toBytes n v).reverse

/-- The packets of a monitor frame in GPM: the pixel groups of one row, at most `k` in each packet (log entry 45). -/
def MonFrame.packets (m : MonFrame) (k : Nat) : List (Nat × Nat × List (List Byte)) :=
  (m.rows.mapIdx (fun y row =>
    let g := monitorGroups m.fmt row
    (List.range ((g.length + k - 1) / k)).map (fun i => (y, 2 * k * i, (g.drop (k * i)).take k)))).flatten

/-- The UDP payload of a packet of ST 2110-20: the RTP header with extended sequence number `q`, the timestamp of the 90 kHz clock at
the frame's departure, and one sample row data header (PRESUMED, log entry 45). -/
def MonFrame.payload (m : MonFrame) (q : Nat) (last : Bool) (x : Nat × Nat × List (List Byte)) : List Byte :=
  let body := x.2.2.flatten
  beBytes 1 0x80 ++ beBytes 1 (128 * bit last + m.pt) ++ beBytes 2 q ++ beBytes 4 (uns 32 (m.time / 65536 * 9 / 100000)) ++
    beBytes 4 m.ssrc ++ beBytes 2 (q / 65536) ++ beBytes 2 body.length ++ beBytes 2 x.1 ++ beBytes 2 x.2.1 ++ body

/-- The frame's packets leave from 100 µs after departure n + 1, or the frame is dropped while the Ethernet port is down. -/
def State.monitorSend (s : State) : State :=
  match s.cmp.monitor with
  | none => s
  | some m =>
    let s := { s with cmp := { s.cmp with monitor := none } }
    if s.ethExists m.port && s.on (R.ETH.PORT_STAT.LINK_UP m.port) then
      let l := m.packets (1 + Config.gpmGroups % 280)
      let q := Config.monitorSeq + s.cmp.monSent
      let s := (l.mapIdx (fun i x => (i, x))).foldl (fun (s : State) x =>
        s.emit (.monitor m.port m.dst m.udp (m.payload (q + x.1) (x.1 + 1 == l.length) x.2))) s
      ({ s with cmp := { s.cmp with monSent := s.cmp.monSent + l.length } }).ethSent m.port l.length
    else (s.count R.COL.MON_DROP.COUNT).ev B.col Ev.COL.MON_DROP

/-! ### Commands -/

/-- CARD_CHECK (R169): a write of 1 to CARD_CTRL.CHECK. -/
def execCardCheck (t : Nat) (s : State) : Host.Outcome State Fault Refusal :=
  runIn .sender (fun s => (s.tick t).set R.MAP.CARD_STAT.CHECK_BUSY 1) s

/-- CARD_CHECK_DONE (R169). -/
def execCardCheckDone (t : Nat) (s : State) : Host.Outcome State Fault Refusal := runIn .sender (fun s => (s.tick t).cardChecked) s

/-- SPIRE_CHECK (R192): a write of 1 to SP_CTRL.CHECK. -/
def execSpireCheck (t : Nat) (s : State) : Host.Outcome State Fault Refusal :=
  runIn .sender (fun s =>
    let s := s.tick t
    s.set R.SPI.SP_STAT.CHECK_CODE ((spireCheck s.cmp.spStage).getD (0, 0)).1) s

/-- OTG_FRAME_START (R200). -/
def execOtgFrameStart (t : Nat) (s : State) : Host.Outcome State Fault Refusal := runIn .sender (fun s => (s.tick t).otgStart) s

/-- BLANK_START (R204). -/
def execBlankStart (a b t : Nat) (s : State) : Host.Outcome State Fault Refusal :=
  runIn .sender (fun s => (s.tick t).blankStart a b) s

/-- OTG_ABORT (R203). -/
def execOtgAbort (cutA cutB : Option (Nat × Nat)) (a b t : Nat) (s : State) : Host.Outcome State Fault Refusal :=
  runIn .sender (fun s => (s.tick t).otgAbort cutA cutB a b) s

/-- ING_PACKET (R138): a line of the follow flow may let rounds follow (R202). -/
def execIngPacket (t : Nat) (s : State) : Host.Outcome State Fault Refusal :=
  runIn .sender (fun s => (s.tick t).ingNext.followAdvance) s

/-- MONITOR_FRAME (R198). -/
def execMonitorFrame (t : Nat) (s : State) : Host.Outcome State Fault Refusal := runIn .sender (fun s => (s.tick t).monitorSend) s

end Sys2Proof.Machine
end

