-- ==== Sys2Proof/Machine/Scan.lean ====
section
/-!
DEFINITION. Scan-out (chapter 12): loads and flips of the drive planes, row visits and gaps, the bands of BAND_LOCKED,
and the Timetable window.
-/
namespace Sys2Proof.Machine

/-! ### The Timetable window (R345, R347) -/

/-- Store `n` bytes at offset `o` of the staged half, reserved bits as 0. -/
def State.ttStore (s : State) (o n v : Nat) : State :=
  let m := if n = 8 then ttMask o + 2 ^ 32 * ttMask (o + 4) else ttMask o
  { s with scn := { s.scn with stage := writeLE zeroB s.scn.stage o n (v &&& m) } }

/-- A write to the Timetable window: the in-force half ignores it, and it stalls while SYNCING is 1. Staging a Timetable
evaluates the mode word (R37). -/
def State.ttWrite (s : State) (o n v : Nat) : State :=
  if 0x80000 ≤ o then s
  else if s.on R.SCN.TT_STAT.SYNCING then { s with scn := { s.scn with stalled := s.scn.stalled ++ [(o, n, v)] } }
  else (s.ttStore o n v).evaluate

/-- A read of the Timetable window. -/
def State.ttRead (s : State) (o n : Nat) : Nat :=
  if o < 0x80000 then readLE zeroB s.scn.stage o n else readLE zeroB s.scn.force (o - 0x80000) n

/-- The banks exchange roles and the copy into the new staging bank begins (R347). -/
def State.exchangeTt (s : State) : State :=
  let s := { s with scn := { s.scn with force := s.scn.stage, old := s.scn.force } }
  (s.set R.SCN.TT_STAT.SYNCING 1).showTimetable

/-- The writes and the COMMIT that the copy of R347 has stalled proceed, on a staging bank that holds `stage`. -/
def State.ttProceed (s : State) (stage : List Host.Cell) : State :=
  let w := s.scn.stalled
  let arm := s.scn.stalledCommit
  let s := { s with scn := { s.scn with stage := stage, old := [], stalled := [], stalledCommit := false } }
  let s := (w.foldl (fun s e => s.ttStore e.1 e.2.1 e.2.2) (s.set R.SCN.TT_STAT.SYNCING 0)).evaluate
  if arm then s.armCommit B.scn else s

/-- The copy of R347 ends. -/
def State.ttSynced (s : State) : State :=
  if s.on R.SCN.TT_STAT.SYNCING then (s.ev B.scn Ev.SCN.TT_SYNC_DONE).ttProceed s.scn.force else s

/-- A soft reset abandons the copy at an open point: the staging bank has the new contents before it and the former ones
after it (R371). -/
def State.ttAbandon (s : State) : State :=
  if s.on R.SCN.TT_STAT.SYNCING then
    let k := Config.choice s.fresh % 0x80000
    s.draw.ttProceed (s.scn.force.filter (fun e => e.1 < k) ++ s.scn.old.filter (fun e => k ≤ e.1))
  else s

/-- What a check of the staging bank finds now (R369), LAYOUT_LOCKED apart. -/
def State.ttStagedCode (s : State) : Nat :=
  ttCheck s.scn.stage s.tw s.th s.modeNext (s.get R.TIM.RATE_NEXT.RATE) s.vphaseNext

/-! ### What a load brings to a lamp (R359) -/

/-- E to E + D: every load is of zero values, but for that of view 0 for departure E + D (R53, R372). So is every load of a tile
that has failed its mode check at an epoch flip (R57). -/
def State.darkLoad (s : State) (next : Nat) : Bool :=
  s.dep.flipFailed ||
  match s.dep.dark with
  | some (e, d) => !(next == 0 && s.dep.last.getD 0 + 1 == e + d)
  | none => false

/-- The drive value of lamp `i` that has been read from plane (set, view): a poisoned one is substituted under PAR_CTRL.POLICY (R433). -/
def State.planeValue (s : State) (set view i : Nat) (d : Nat × Bool) : State × Nat :=
  if !d.2 then (s, d.1)
  else
    let s := (s.count R.SCN.POISON_WORDS.COUNT).poison B.scn 0 (s.planeBase set view + 2 * i)
    let p := s.get R.PAR.PAR_CTRL.POLICY
    if p = 2 then (s, s.get R.PAR.NEUTRAL.D)
    else if p = 1 then (s, 0)
    else
      let other := if s.modeCur.timing = 1 then s.frontOf (i / s.numE / s.tw) else 1 - set
      let (s, d2, bad2) := s.dramRead 2 (s.planeBase other view + 2 * i)
      (s, if bad2 then 0 else bitsOf d2 (16 * (i % 4)) 16)

/-- The value that a load brings to lamp `i` from its drive value (R359). -/
def State.loadValue (s : State) (set view i : Nat) (d : Nat × Bool) (dark : Bool) : State × Nat :=
  let (s, v) := s.planeValue set view i d
  let v := if s.lampDark i || dark then 0 else v
  let st := s.get (R.LNE.HOLD_STAT.STATE 0)
  let v := if st = 2 then gainMul v (s.get (R.LNE.FADE_POS.F 0)) else if st = 3 then 0 else v
  (s, if s.modeCur.sink = 1 then v / 4 else v)

/-- The values of lamps `i0` to `i0 + n - 1`, 0 while neither channel of the pair is available (R419). -/
def State.loadValues (s : State) (set view i0 n : Nat) (dark : Bool) : State × List Nat :=
  if s.copies = [] then (s, List.replicate n 0)
  else
    let (s, l) := s.readLamps 2 (s.planeBase set view + 2 * i0) n
    l.zipIdx.foldl (fun (a : State × List Nat) e =>
      let (s, v) := a.1.loadValue set view (i0 + e.2) e.1 dark
      (s, a.2 ++ [v])) (s, [])

/-! ### Loads of a whole subframe (R356 to R358) -/

/-- SCN does its work: enabled, not frozen, from the first frame departure on (R555). -/
def State.scnWorks (s : State) : Bool := s.works B.scn && s.dep.last.isSome

/-- The view of the next view departure. -/
def State.nextView (s : State) : Nat :=
  if s.get R.SCN.SCN_STAT.VIEW + 1 < s.views then s.get R.SCN.SCN_STAT.VIEW + 1 else 0

/-- A load may start: none runs, none waits for its flip, and the flip moment has not passed. -/
def State.loadFree (s : State) : Bool :=
  s.scnWorks && s.modeCur.timing == 0 && s.scn.targetFree && s.scn.load.isNone && s.scn.loaded.isNone

/-- SCN_STAT.LOADING: a load of a subframe or of a band runs (Table 12-9). -/
def State.showLoading (s : State) : State :=
  s.set R.SCN.SCN_STAT.LOADING (bit (s.scn.load.isSome || s.scn.bands.any (fun x => x.loadAt.any (s.frc < ·))))

/-- Every load is abandoned, and no flip is under way (R371, R372). -/
def State.dropLoads (s : State) : State :=
  let s := { s with scn := { s.scn with
    load := none, loaded := none, flip := false
    bands := s.scn.bands.map (fun (x : Band) => { x with loadAt := none, reload := false, again := false }) } }
  s.set R.SCN.SCN_STAT.LOADING 0

/-- A load is under way. -/
def State.putLoad (s : State) (l : Load) (fromBack : Bool) (vals : List Nat) : State :=
  { s with scn := { s.scn with target := vals, load := some l, fromBack := fromBack } }.set R.SCN.SCN_STAT.LOADING 1

/-- A command reaches an external sink. -/
def State.sinkCell (s : State) (kind : Nat) (words : List Nat) : State :=
  if s.modeCur.sink = 1 then s else s.emit (.sink kind words)

/-- The columns of lane `l` in ascending order. -/
def State.laneCols (s : State) (l : Nat) : List Nat := (List.range s.tw).filter (fun x => laneOf s.scn.force x == l)

/-- The lamps of one row, as offsets from its first, in the order in which lane `l` carries them (R353). -/
def State.laneLamps (s : State) (l : Nat) : List Nat :=
  (s.laneCols l).flatMap (fun x => (List.range s.numE).map (fun e => x * s.numE + e))

/-- The lanes of the clock groups in use (R351). -/
def lanesUsed (t : Timetable) : List Nat := List.range (8 * t.groups)

/-- The words of one band on each lane: its rows in order, each in the order of R353. -/
def State.bandWords (s : State) (vals : List Nat) : List (List Nat) :=
  let n := s.tw * s.numE
  (lanesUsed (timetable s.scn.force)).map (fun l =>
    let k := s.laneLamps l
    (List.range s.scanS).flatMap (fun r => k.map (fun i => vals.getD (r * n + i) 0)))

/-- HEAD and DATA for band `b` reach the sinks (R356, R364). -/
def State.sendBand (s : State) (b : Nat) (vals : List Nat) : State :=
  if s.modeCur.sink = 1 then s
  else (s.emit (.sink 2 [b % 16384])).emit (.sinkData (s.bandWords vals))

/-- A whole load: HEAD and DATA for every band in ascending order (R356). -/
def State.sendBands (s : State) (vals : List Nat) : State :=
  let n := s.scanS * s.tw * s.numE
  s.forN s.nb (fun s b => s.sendBand b ((vals.drop (b * n)).take n))

/-- The frame that departure `lastDep + 1` (view 0) or view `v` of the last departure would show. -/
def State.dueFrames (s : State) (v : Nat) : List Nat :=
  if v = 0 then [s.lastDep] else if s.lastDep = 0 then [] else [s.lastDep - 1]

/-- Start a load of plane (set, view) for the next departure. -/
def State.startLoad (s : State) (set view : Nat) (fromBack : Bool) : State :=
  let frame := if fromBack then s.scn.backFrame.getD 0 else s.scn.frontFrame.getD 0
  let s := s.spireLoad (frame :: s.dueFrames view)
  let shares := if fromBack then s.scn.backDark else s.scn.frontDark
  let was := s.chStates
  let (s, vals) := s.loadValues set view 0 s.lamps (s.darkLoad view || shares.contains view)
  ((s.memSettle was).putLoad ⟨view, set, frame⟩ fromBack vals).sendBands vals

/-- LOAD_START (R357): view 0 from the back set once its frame is complete, another view from the front set. -/
def State.loadStart (s : State) : State :=
  let front := s.get R.SCN.SCN_STAT.FRONT
  let v := s.nextView
  if !s.loadFree then s
  else if v = 0 then
    if s.scn.backFrame.isSome && s.scn.backFrame == s.dep.last then s.startLoad (1 - front) 0 true else s
  else s.startLoad front v false

/-- LOAD_DEADLINE (R357): the front plane of view 0 loads instead. -/
def State.loadDeadline (s : State) : State :=
  if s.loadFree && s.nextView == 0 then s.startLoad (s.get R.SCN.SCN_STAT.FRONT) 0 false else s

/-- FRAME_DONE with LAST_READY: nanoseconds since the last frame departure. -/
def State.frameDone (s : State) : State :=
  let since := (s.wall - (s.depTime (s.dep.last.getD 0)).getD s.wall) / 65536
  (s.set R.SCN.LAST_READY.NS since.toNat).ev B.scn Ev.SCN.FRAME_DONE

/-- LOAD_DONE (R356, R370). -/
def State.loadDone (s : State) : State :=
  match s.scn.load with
  | none => s
  | some l =>
    let s := ({ s with scn := { s.scn with load := none, loaded := some l } }).set R.SCN.SCN_STAT.LOADING 0
    if l.view = 0 then s.frameDone else s

/-- FLIP_SEND (R358): flip when the load is complete, otherwise abandon it. -/
def State.flipSend (s : State) : State :=
  if !s.scnWorks || s.modeCur.timing != 0 || s.scn.flip || !s.scn.targetFree then s
  else match s.scn.loaded with
    | some _ => { s with scn := { s.scn with flip := true, targetFree := false } }.sinkCell 3 [0x8000]
    | none =>
      let s := { s with scn := { s.scn with load := none, target := [], fromBack := false, targetFree := false } }
      ((s.set R.SCN.SCN_STAT.LOADING 0).count R.SCN.LOAD_LATE_CNT.COUNT).ev B.scn Ev.SCN.LOAD_LATE

/-! ### Row visits (R348, R349, R354, R361, R362) -/

/-- The lamps of the visited row in every band, in the order of R353 over bands, columns and positions. -/
def State.rowLamps (s : State) (row : Nat) : List Nat :=
  (List.range s.nb).foldl (fun l b =>
    l ++ (List.range (s.tw * s.numE)).map (fun k => (b * s.scanS + row) * s.tw * s.numE + k)) []

/-- The position c of lamp `i` on its lane (R353). -/
def State.lampPos (s : State) (i : Nat) : Nat :=
  let x := i / s.numE % s.tw
  let l := laneOf s.scn.force x
  (((List.range x).filter (fun k => laneOf s.scn.force k == l)).length) * s.numE + i % s.numE

/-- The lit time of a lamp in one visit, in T_G periods, under the brightness cap. -/
def litTime (t : Timetable) (plane : Bool) (cap n : Nat) : Nat :=
  if plane then ((List.range t.q).filter (bitAt n)).foldl (fun a j => a + gainRound (2 ^ j * t.unit) cap) 0
  else
    let k := t.p - gainRound t.p cap
    min n t.p - min n t.p * k / t.p

/-- K of R362 in CAP_K, from CAP.POS and the Timetable in force. -/
def State.takeCap (s : State) : State :=
  let t := timetable s.scn.force
  s.set R.SCN.CAP_K.K (t.p - gainRound t.p (s.get R.SCN.CAP.POS))

/-- The planes of a row visit in slot order, each with the bits of every lane: bands in ascending order, and bit j of N_k (R353,
R360). -/
def State.visitPlanes (s : State) (t : Timetable) (row seg : Nat) : List (List (List Nat)) :=
  let n := s.tw * s.numE
  (List.range t.q).map (fun j => (lanesUsed t).map (fun l =>
    let k := s.laneLamps l
    (List.range s.nb).flatMap (fun b => k.map (fun o =>
      let i := (b * s.scanS + row) * n + o
      bit (bitAt (onCount t (s.scn.shown.getD i 0) seg (s.lampPos i)) j)))))

/-- A slot of a PLANE visit is shown without bits: those of slot 0, where no slot or gap with SCN at work went before it to shift them
(R361; DESIGN CHOICE, log entry 121). -/
def State.slotLate (s : State) : Bool := s.modeCur.sink == 1 && !s.scn.ready

/-- Under PLANE the bits of each plane of the visit are shifted, and PLATCH moves them to the outputs at the start of their slot (R352,
R361). -/
def State.sendPlanes (s : State) (t : Timetable) (row seg : Nat) : State :=
  if s.modeCur.sink = 1 then
    (s.visitPlanes t row seg).zipIdx.foldl (fun s e =>
      let bits := if e.2 = 0 && s.slotLate then e.1.map (fun l => l.map (fun _ => 0)) else e.1
      (s.emit (.sinkPlanes [bits])).emit (.sink 7 [])) s
  else s

/-- The row-select edge of the row and cycle in SCN_STAT, and LINE_MATCH (R370). -/
def State.rowEdge (s : State) : State :=
  let t := timetable s.scn.force
  let row := s.get R.SCN.SCN_STAT.ROW
  let seg := s.get R.SCN.SCN_STAT.SEG
  let cap := s.get R.SCN.CAP.POS
  let late := s.slotLate
  let lit := if s.scn.blank then [] else (s.rowLamps row).map (fun i =>
    let n := onCount t (s.scn.shown.getD i 0) seg (s.lampPos i)
    litTime t (s.modeCur.sink == 1) cap (if late then n - n % 2 else n))
  let s := (s.sendPlanes t row seg).emit (.rowSelect row seg t.ports s.scn.blank lit)
  let s := (s.count R.SCN.LOAD_LATE_CNT.COUNT (bit late)).evIf late B.scn Ev.SCN.LOAD_LATE
  let s := { s with scn := { s.scn with ready := true } }
  s.evIf (s.get R.SCN.LINE_MATCH.ROW == row && s.get R.SCN.LINE_MATCH.SEG == seg) B.scn Ev.SCN.LINE_MATCH

/-- A subframe of view `v` starts at its departure: the flip takes effect, and row 0 of cycle 0 is selected. -/
def State.subframe (s : State) (v : Nat) : State :=
  let works := s.scnWorks
  let flip := s.scn.flip
  let late := s.modeCur.timing == 0 && s.views > 1 && !flip
  let s := { s with scn := { s.scn with
    shown := if flip then s.scn.target else s.scn.shown, loaded := none
    load := none, flip := false, targetFree := true, blank := !works || late } }
  let s := ((s.showLoading.set R.SCN.SCN_STAT.VIEW v).set R.SCN.SCN_STAT.SEG 0).set R.SCN.SCN_STAT.ROW 0
  if works then (s.set R.SCN.SCN_STAT.GAP 0).rowEdge else s.set R.SCN.SCN_STAT.GAP 1

/-- ROW_SELECT_EDGE (R348): the next row, or the next cycle. After the last visit comes the gap. -/
def State.nextRow (s : State) : State :=
  let row := s.get R.SCN.SCN_STAT.ROW
  let seg := s.get R.SCN.SCN_STAT.SEG
  if !s.live B.scn || !s.enabled B.scn || s.on R.SCN.SCN_STAT.GAP || s.dep.last.isNone then s
  else if row + 1 < s.scanS then (s.set R.SCN.SCN_STAT.ROW (row + 1)).rowEdge
  else if seg + 1 < (timetable s.scn.force).nseg then
    ((s.set R.SCN.SCN_STAT.ROW 0).set R.SCN.SCN_STAT.SEG (seg + 1)).rowEdge
  else s

/-- GAP_START (R350): BLANK rises, CONFIG and SUBSYNC go out, and the readback window opens. -/
def State.gapStart (s : State) : State :=
  if !s.live B.scn || !s.enabled B.scn || s.on R.SCN.SCN_STAT.GAP || s.dep.last.isNone then s
  else
    let t := timetable s.scn.force
    let s := (s.set R.SCN.SCN_STAT.GAP 1).ev B.scn Ev.SCN.BLANK_START
    let s := (s.emit (.sink 5 [s.scanS - 1, t.nseg - 1, spread t.nseg, t.seed])).emit (.sink 4 [0])
    let s := { s with scn := { s.scn with resync := false, ready := true } }
    if t.rbEn = 1 then (s.emit (.sink 6 [0])).emit (.readback t.groups t.rbUs) else s

/-! ### Bands (R363 to R366) -/

/-- Replace band `b`. -/
def State.setBand (s : State) (b : Nat) (x : Band) : State :=
  { s with scn := { s.scn with bands := s.scn.bands.mapIdx (fun i y => if i = b then x else y) } }

/-- Band `b`. -/
def State.band (s : State) (b : Nat) : Band := s.scn.bands.getD b {}

/-- T_BL in cycles of the counter (R364). -/
def State.bandCycles (s : State) : Nat := tBand s.scn.force s.modeCur.sink s.tw s.numE s.scanS * 3 / 200

/-- Load band `b` from plane (set, 0). A band flips at once where it may, so that until E + D it takes zero values (R53, R372). How long
the load lasts, up to T_BL, is a free value (log entry 122). -/
def State.loadBand (s : State) (b set : Nat) (reload : Bool) : State :=
  let n := s.scanS * s.tw * s.numE
  let zero := s.dep.flipFailed || s.inDark
  let dark := if reload then s.scn.frontDark else s.scn.backDark
  let was := s.chStates
  let (s, vals) := s.loadValues set 0 (b * n) n (zero || dark.contains 0)
  let s := s.memSettle was
  let tgt := if s.scn.target.length = s.lamps then s.scn.target else List.replicate s.lamps 0
  let tgt := tgt.take (b * n) ++ vals ++ tgt.drop ((b + 1) * n)
  let s := { s with scn := { s.scn with target := tgt } }
  let x := s.band b
  let s := s.setBand b { x with
    loadAt := some (s.frc + Config.choice s.fresh % (s.bandCycles + 1)), reload := reload, again := false
    frame := if reload then x.frame else s.dep.last.getD 0, zero := if reload then x.zero && zero else zero }
  (s.draw.sendBand b vals).showLoading

/-- Copy row `y` of the front plane of its band into the back plane. -/
def State.repeatRow (s : State) (y : Nat) : State :=
  let f := s.frontOf y
  let n := s.tw * s.numE
  let (s, l) := s.readLamps 2 (s.planeBase f 0 + 2 * (y * n)) n
  s.writeLamps (s.planeBase (1 - f) 0 + 2 * (y * n)) l

/-- Band `b` closes: missing rows are repeated and its load starts (R363, R364). -/
def State.closeBand (s : State) (b : Nat) : State :=
  let x := s.band b
  if x.closed || s.modeCur.timing != 1 || s.scn.bands.length ≤ b then s
  else
    let s := s.setBand b { x with closed := true }
    if x.rows = [] then s
    else
      let missing := (List.range s.scanS).filter (fun r => !x.rows.contains r)
      let s := missing.foldl (fun s r => s.repeatRow (b * s.scanS + r)) s
      let s := s.count R.SCN.ROW_REPEAT_CNT.COUNT missing.length
      if s.scnWorks then s.loadBand b (1 - x.front) false else s

/-- The target set becomes the shown set in the rows of band `b`. -/
def State.showBand (s : State) (b : Nat) : State :=
  let n := s.scanS * s.tw * s.numE
  let sh := if s.scn.shown.length = s.lamps then s.scn.shown else List.replicate s.lamps 0
  { s with scn := { s.scn with shown := sh.take (b * n) ++ (s.scn.target.drop (b * n)).take n ++ sh.drop ((b + 1) * n) } }

/-- The next row-select edge is one of row 0: the last row of a cycle is visited, or the gap runs. -/
def State.cycleEnds (s : State) : Bool := s.on R.SCN.SCN_STAT.GAP || s.get R.SCN.SCN_STAT.ROW + 1 == s.scanS

/-- BAND_FLIP (R364): the band's load has ended at least 1 µs before the start of a cycle that comes now. The last band that flips to a
frame raises FRAME_DONE (R370). -/
def State.flipBand (s : State) (b : Nat) : State :=
  let x := s.band b
  match x.loadAt with
  | none => s
  | some a =>
    if s.modeCur.timing != 1 || !s.scnWorks || !s.cycleEnds || s.frc < a + 1500 then s
    else
      let s := (s.showBand b).setBand b { x with
        loadAt := none, reload := false, again := false, flipped := if x.reload then x.flipped else some x.frame
        front := if x.reload then x.front else 1 - x.front }
      let s := s.sinkCell 3 [b % 16384]
      let s := if !x.reload && s.scn.bands.all (fun y => y.flipped.any (x.frame ≤ ·)) then s.frameDone else s
      if x.again then s.loadBand b (s.band b).front true else s.showLoading

/-- The band part of frame departure n + 1: what has rows closes, what has none repeats, and the new frame begins; the
answer says whether a band has flipped to frame n (R363, R365). -/
def State.bandsDeparture (s : State) : State × Bool :=
  let n := s.scn.bands.length
  let new := s.scn.bands.any (fun x => x.flipped.isSome && x.flipped == s.dep.last)
  let empty := (s.scn.bands.filter (fun x => x.rows == [])).length
  let s := s.forN n State.closeBand
  let s := if empty = 0 then s else
    (((s.count R.SCN.BAND_REPEAT_CNT.COUNT empty).ev B.scn Ev.SCN.BAND_REPEAT).count R.SCN.UNDERRUN_CNT.COUNT).ev B.scn Ev.SCN.UNDERRUN
  ({ s with scn := { s.scn with bands := s.scn.bands.map (fun x => { x with rows := [], closed := false }) } }, new)

/-- Reload band `b` from its front plane, now or after the flip that it waits for (R366). -/
def State.reloadBand (s : State) (b : Nat) : State :=
  let x := s.band b
  if x.loadAt.isNone then s.loadBand b x.front true else s.setBand b { x with again := true }

/-- R366: reload bands from their front plane, in the hold states and where a lamp's dark state changed; and at E + D those that frame
E + D - 1 has loaded with zero values (R372). -/
def State.bandsReload (s : State) : State :=
  let s := s.spireLoad (s.dueFrames 1)
  if !s.scnWorks then s
  else
  let dark := if (List.range 64).any (fun z => s.zoneDark z) then (List.range s.lamps).filter s.lampDark else []
  let changed := dark.filter (fun i => !s.scn.darkLamps.contains i) ++ s.scn.darkLamps.filter (fun i => !dark.contains i)
  let s := { s with scn := { s.scn with darkLamps := dark } }
  let hold := s.get (R.LNE.HOLD_STAT.STATE 0) != 0
  let n := s.scanS * s.tw * s.numE
  let zero := s.dep.flipFailed || s.inDark
  s.forN s.scn.bands.length (fun s b =>
    if hold || changed.any (fun i => i / n == b) || ((s.band b).zero && !zero) then s.reloadBand b else s)

/-- COR has written row `y`; a row of a later band closes the bands before it (R321, R363). -/
def State.bandRow (s : State) (y : Nat) : State :=
  if s.modeCur.timing != 1 then s
  else
    let b := y / s.scanS
    let s := s.forN b State.closeBand
    let x := s.band b
    if x.closed then s
    else
      let x := { x with rows := if x.rows.contains (y % s.scanS) then x.rows else x.rows ++ [y % s.scanS] }
      let s := s.setBand b x
      if x.rows.length = s.scanS then s.closeBand b else s

/-- The planes are laid out anew: both are discarded and the bands start from set 0 (R343, R372). -/
def State.newPlanes (s : State) : State :=
  let s := s.layPlanes
  let s := { s with scn := { s.scn with
    target := [], shown := [], load := none, loaded := none, flip := false, targetFree := true, backFrame := none
    frontFrame := none, fromBack := false, backDark := [], frontDark := [], ready := true
    bands := List.replicate s.nb {}, darkLamps := [] } }
  s.set R.SCN.SCN_STAT.LOADING 0

/-! ### The commands -/

/-- GAP_START (R350). -/
def execGapStart (t : Nat) (s : State) : Host.Outcome State Fault Refusal := runIn .tile (fun s => (s.tick t).gapStart) s

/-- The readback window closes, and what LFM's reads of its map did to the channels. -/
def State.windowEnd (s : State) (groups : List (Nat × List Nat)) : State := (s.readback groups).memSettle s.chStates

/-- READBACK_WINDOW_END (R395): what each group sent in the window, in order. -/
def execReadbackWindowEnd (groups : List (Nat × List Nat)) (t : Nat) (s : State) : Host.Outcome State Fault Refusal :=
  runIn .tile (fun s => (s.tick t).windowEnd groups) s

/-- FLIP_SEND (R358). -/
def execFlipSend (t : Nat) (s : State) : Host.Outcome State Fault Refusal := runIn .tile (fun s => (s.tick t).flipSend) s

/-- LOAD_START (R357). -/
def execLoadStart (t : Nat) (s : State) : Host.Outcome State Fault Refusal := runIn .tile (fun s => (s.tick t).loadStart) s

/-- LOAD_DONE (R356). -/
def execLoadDone (t : Nat) (s : State) : Host.Outcome State Fault Refusal := runIn .tile (fun s => (s.tick t).loadDone) s

/-- LOAD_DEADLINE (R357). -/
def execLoadDeadline (t : Nat) (s : State) : Host.Outcome State Fault Refusal :=
  runIn .tile (fun s => (s.tick t).loadDeadline) s

/-- BAND_CLOSE (R363). -/
def execBandClose (b t : Nat) (s : State) : Host.Outcome State Fault Refusal :=
  runIn .tile (fun s => (s.tick t).closeBand b) s

/-- BAND_FLIP (R364). -/
def execBandFlip (b t : Nat) (s : State) : Host.Outcome State Fault Refusal :=
  runIn .tile (fun s => (s.tick t).flipBand b) s

/-- TT_CHECK (R369): a write of 1 to TT_CTRL.CHECK. -/
def execTtCheck (t : Nat) (s : State) : Host.Outcome State Fault Refusal :=
  runIn .tile (fun s => (s.tick t).set R.SCN.TT_STAT.CHECK_BUSY 1) s

/-- TT_CHECK_DONE (R369). -/
def execTtCheckDone (t : Nat) (s : State) : Host.Outcome State Fault Refusal :=
  runIn .tile (fun s =>
    let s := s.tick t
    if s.on R.SCN.TT_STAT.CHECK_BUSY then
      ((s.set R.SCN.TT_STAT.CHECK_CODE s.ttStagedCode).set R.SCN.TT_STAT.CHECK_BUSY 0).ev B.scn Ev.SCN.TT_CHECK_DONE
    else s) s

/-- ROW_SELECT_EDGE (R348). -/
def execRowSelectEdge (t : Nat) (s : State) : Host.Outcome State Fault Refusal := runIn .tile (fun s => (s.tick t).nextRow) s

end Sys2Proof.Machine
end

