-- ==== Sys2Proof/Machine/Tile.lean ====
section
/-!
DEFINITION. The commands of correction (chapter 11), of the rails and the lamp faults (chapter 13) and of the auxiliary
outputs (R377).
-/
namespace Sys2Proof.Machine

/-! ### Correction -/

/-- The last plane of the frame is complete: the frame waits in the back set and the rails take its maxima (R322), and
LAST_PASS takes the time since its departure. Every view is either corrected or DARK. -/
def State.passDone (s : State) : State :=
  match s.cor.pass with
  | none => s
  | some L =>
    if (List.range s.views).all (fun v => s.cor.doneViews.contains v || s.scn.backDark.contains v) then
      let s := s.set R.COR.LAST_PASS.NS ((s.wall - s.cor.depTime) / 65536).toNat
      let s := { s with cor := { s.cor with pass := none }, scn := { s.scn with backFrame := some L.frame } }
      (s.ev B.cor Ev.COR.PASS_DONE).raiTake s.cor.maxima
    else s

/-- PASS_DONE (R322). -/
def execPassDone (t : Nat) (s : State) : Host.Outcome State Fault Refusal := runIn .tile (fun s => (s.tick t).passDone) s

/-- The next region of an upload, or the whole of a bank copy, and what its reads did to the channels. -/
def State.uplStep (s : State) (op : Nat) : State := (s.uplRegion op).memSettle s.chStates
def State.syncStep (s : State) : State := s.bankSyncDone.memSettle s.chStates

/-- BANK_SYNC_START (R328). -/
def execBankSyncStart (t : Nat) (s : State) : Host.Outcome State Fault Refusal :=
  runIn .tile (fun s => (s.tick t).bankSyncStart) s

/-- BANK_SYNC_DONE (R328). -/
def execBankSyncDone (t : Nat) (s : State) : Host.Outcome State Fault Refusal :=
  runIn .tile (fun s => (s.tick t).syncStep) s

/-- APERTURE_WRITE (R330): offset in the window, bytes and value. -/
def execApertureWrite (ofs n v t : Nat) (s : State) : Host.Outcome State Fault Refusal :=
  runIn .tile (fun s => (s.tick t).aperWrite (ofs % 0x400000) n v) s

/-- UPL_CMD_GO (R332): the word written to UPL_CMD. -/
def execUplCmdGo (v t : Nat) (s : State) : Host.Outcome State Fault Refusal :=
  runIn .tile (fun s => (s.tick t).uplGo v) s

/-- COPY (R333): the next region of a COPY command. -/
def execCopyRegions (t : Nat) (s : State) : Host.Outcome State Fault Refusal :=
  runIn .tile (fun s => (s.tick t).uplStep 1) s

/-- COPY_PACK (R334): the next region of a COPY_PACK command. -/
def execCopyPack (t : Nat) (s : State) : Host.Outcome State Fault Refusal :=
  runIn .tile (fun s => (s.tick t).uplStep 2) s

/-- COPY_PACKED (R334): the next region of a COPY_PACKED command. -/
def execCopyPacked (t : Nat) (s : State) : Host.Outcome State Fault Refusal :=
  runIn .tile (fun s => (s.tick t).uplStep 3) s

/-- UNIT (R332): the next region of a UNIT command. -/
def execUnitRecords (t : Nat) (s : State) : Host.Outcome State Fault Refusal :=
  runIn .tile (fun s => (s.tick t).uplStep 4) s

/-- UPL_COMMAND_END (R336). -/
def execUplCommandEnd (t : Nat) (s : State) : Host.Outcome State Fault Refusal :=
  runIn .tile (fun s => (s.tick t).uplEnd) s

/-- UPL_DONE_READ (R336). -/
def execUplDoneRead (t : Nat) (s : State) : Host.Outcome State Fault Refusal :=
  runIn .tile (fun s => (s.tick t).uplDoneRead) s

/-! ### Rails -/

/-- RAMP_STEP (R380): one code of channel `c`, with the output voltage (mV) and current (10 mA) after it. -/
def execRampStep (c mv ma t : Nat) (s : State) : Host.Outcome State Fault Refusal :=
  runIn .tile (fun s => ((s.tick t).rampStep c).railMeasure c mv ma) s

/-- A channel in SOFTSTART whose output has reached its setpoint (Table 13-1). -/
def State.railReady (s : State) (c : Nat) : State :=
  if c < 24 && s.railState c == Rail.softstart then (s.setRail c Rail.ready).ev B.rai Ev.RAI.RAIL_READY else s

/-- RAIL_READY (R379). -/
def execRailReady (c mv ma t : Nat) (s : State) : Host.Outcome State Fault Refusal :=
  runIn .tile (fun s => ((s.tick t).railMeasure c mv ma).railReady c) s

/-- DISCHARGED (R390). -/
def execDischarged (c mv t : Nat) (s : State) : Host.Outcome State Fault Refusal :=
  runIn .tile (fun s => ((s.tick t).railMeasure c mv 0).railDischarged c) s

/-- DIS_TIMEOUT (R389). -/
def execDisTimeout (c mv ma t : Nat) (s : State) : Host.Outcome State Fault Refusal :=
  runIn .tile (fun s => ((s.tick t).railMeasure c mv ma).railFault c 5) s

/-- A run of consecutive current-limited cycles of a switching channel (R388): each counts, and OC_CYC of them fault it. -/
def State.railLimited (s : State) (c cycles : Nat) : State :=
  let st := s.railState c
  if st = Rail.softstart || st = Rail.ready || st = Rail.discharge then
    let s := s.count (R.RCH.CH_LIM_CNT.COUNT c) cycles
    if max 1 (s.cur (R.RCH.CH_SENSE.OC_CYC c)) ≤ cycles then s.railFault c 1 else s
  else s

/-- OVERCURRENT (R388): the number of consecutive limited cycles. -/
def execOvercurrent (c cycles mv ma t : Nat) (s : State) : Host.Outcome State Fault Refusal :=
  runIn .tile (fun s => ((s.tick t).railMeasure c mv ma).railLimited c cycles) s

/-- OVERVOLTAGE (R389). -/
def execOvervoltage (c mv ma t : Nat) (s : State) : Host.Outcome State Fault Refusal :=
  runIn .tile (fun s => ((s.tick t).railMeasure c mv ma).railFault c 2) s

/-- UNDERVOLTAGE (R389). -/
def execUndervoltage (c mv ma t : Nat) (s : State) : Host.Outcome State Fault Refusal :=
  runIn .tile (fun s => ((s.tick t).railMeasure c mv ma).railFault c 3) s

/-- EXTERNAL (R389). -/
def execExternalFault (c mv ma t : Nat) (s : State) : Host.Outcome State Fault Refusal :=
  runIn .tile (fun s => ((s.tick t).railMeasure c mv ma).railFault c 4) s

/-- CLR_FAULT (Table 13-1): a write of 1 to CH_CTRL.CLR_FAULT. -/
def execClrFault (c t : Nat) (s : State) : Host.Outcome State Fault Refusal :=
  runIn .tile (fun s => (s.tick t).railClear c) s

/-! ### Auxiliary outputs (R377): 0 the 3.3 V output, 1 the 1.8 V output -/

def auxEn (k : Nat) : Fld := if k = 0 then R.PWR.AUX_CTRL.AUX33_EN else R.PWR.AUX_CTRL.AUX18_EN
def auxOk (k : Nat) : Fld := if k = 0 then R.PWR.PWR_STAT.AUX33_OK else R.PWR.PWR_STAT.AUX18_OK
def auxLim (k : Nat) : Fld := if k = 0 then R.PWR.AUX_STAT.AUX33_LIM else R.PWR.AUX_STAT.AUX18_LIM

/-- An output has been in current limit for 10 ms: it turns off. -/
def State.auxLimit (s : State) (k : Nat) : State :=
  if s.on (auxEn k) && s.on (auxOk k) then
    ((s.set (auxOk k) 0).set (auxLim k) 1).ev B.pwr (if k = 0 then Ev.PWR.AUX33_LIM else Ev.PWR.AUX18_LIM)
  else s

/-- A retry of an overloaded output; `clear` says that the overload is gone. -/
def State.auxRetry (s : State) (k : Nat) (clear : Bool) : State :=
  if s.on (auxLim k) && s.on (auxEn k) && clear then (s.set (auxOk k) 1).set (auxLim k) 0 else s

/-- AUX_LIMIT (R377). -/
def execAuxLimit (k t : Nat) (s : State) : Host.Outcome State Fault Refusal := run (fun s => (s.tick t).auxLimit k) s

/-- AUX_RETRY (R377). -/
def execAuxRetry (k : Nat) (clear : Bool) (t : Nat) (s : State) : Host.Outcome State Fault Refusal :=
  run (fun s => (s.tick t).auxRetry k clear) s

/-! ### Lamp faults -/

/-- A write of ones to LATCH bits: each clears and its zone is evaluated again (R401). -/
def State.latchClear (s : State) (mask : Nat) : State :=
  (s.forN 64 (fun s z =>
    if bitAt mask z && s.bit64 R.LFM.LATCH_LO.ZONES R.LFM.LATCH_HI.ZONES z then
      (s.putBit64 R.LFM.LATCH_LO.ZONES R.LFM.LATCH_HI.ZONES z false).evalZone z
    else s)).showZones

/-- LATCH_CLEAR (R401): bit z of the mask is the bit written for zone z. -/
def execLatchClear (mask t : Nat) (s : State) : Host.Outcome State Fault Refusal :=
  runIn .tile (fun s => (s.tick t).latchClear mask) s

/-- A write into the fault-map window, and what the reads of LFM after it did to the channels. -/
def State.mapWrite (s : State) (o n v : Nat) : State := (s.faultWrite o n v).memSettle s.chStates

/-- FAULT_MAP_WRITE (R396): offset in the window, bytes and value. -/
def execFaultMapWrite (ofs n v t : Nat) (s : State) : Host.Outcome State Fault Refusal :=
  runIn .tile (fun s => (s.tick t).mapWrite ofs n v) s

end Sys2Proof.Machine
end

