-- ==== Sys2Proof/Machine/Stream.lean ====
section
/-!
DEFINITION. Two streams on a line: the relief states of a sender (Table 16-1, R486, R487), the conditions of Table 16-4,
and at a tile the rows of its share, the standby ring and the points change (R272 to R275, R481 to R484).
-/
namespace Sys2Proof.Machine

/-! ### Streams -/

/-- The stream that arrives on port `p`. -/
def State.stream (s : State) (p : Nat) : StreamSt := if p = 0 then s.line.stream0 else s.line.stream1

/-- Replace it. -/
def State.setStream (s : State) (p : Nat) (x : StreamSt) : State :=
  { s with line := if p = 0 then { s.line with stream0 := x } else { s.line with stream1 := x } }

/-- OK, IN_SYNC, TAKEN, RESYNC_REQ and HANDOVER of a frame header's health word. -/
def FrameHdr.ok (h : FrameHdr) : Bool := bitAt h.health 0
def FrameHdr.inSync (h : FrameHdr) : Bool := bitAt h.health 1
def FrameHdr.taken (h : FrameHdr) : Bool := bitAt h.health 2
def FrameHdr.resync (h : FrameHdr) : Bool := bitAt h.health 3
def FrameHdr.handover (h : FrameHdr) : Bool := bitAt h.health 4

/-- REDUN in force is DUAL_ENDED. -/
def State.dual (s : State) : Bool := s.on R.DEP.MODE_CUR.REDUN

/-! ### The sender's relief states -/

/-- The pages whose staged values a lead mirrors (R476). -/
def mirrorPages : List Nat :=
  [B.dep, B.map, B.cmp] ++ (List.range 8).map (fun i => B.layer (2 * i)) ++ [B.spire, B.col, B.otg]

/-- Return the staged shadow values of the page at `b` to the values in force and disarm its commit. -/
def State.unstage (s : State) (b : Nat) : State :=
  match pageAt b with
  | none => s
  | some (k, _) =>
    let regs := s.regs.filter (fun e => !(inPage b e.1 && accOf k b e.1 == some .rws))
    let regs := (s.force.filter (fun e => inPage b e.1)).foldl (fun l e => putD l e.1 e.2 (e.2 + 1)) regs
    ({ s with regs := regs }).commitEnd b

/-- A deposed sender discards its armed commits and the staged values of mirrored pages (R487). -/
def State.dropStaged (s : State) : State :=
  let s := mirrorPages.foldl State.unstage s
  let s := (s.putModeNext s.modeCur).evaluate
  { s with map := { s.map with stage := s.map.force }, cmp := { s.cmp with spStage := s.cmp.spForce } }

/-- Enter SYNCING: the image is requested (R479). -/
def State.toSyncing (s : State) : State :=
  let s := s.set R.RDN.RDN_STAT.STATE 2
  { s with rdn := { s.rdn with
    waiting := false, taken := false, handing := false, imaging := none, syncAt := s.wall, nextSeq := none, early := []
    image := [], imageEnd := none, frameRec := none, fades := [] } }

/-- The sender is deposed (R487). -/
def State.depose (s : State) : State := s.toSyncing.dropStaged.ev B.rdn Ev.RDN.DEPOSED

/-- READY loses its image (R478). -/
def State.syncLost (s : State) : State :=
  if s.get R.RDN.RDN_STAT.STATE = 3 then s.toSyncing.ev B.rdn Ev.RDN.SYNC_LOST else s

/-- A relief in READY takes the lead (R486). -/
def State.takeLead (s : State) (cause : Nat) : State :=
  let s := (s.set R.RDN.RDN_STAT.STATE 1).set R.RDN.RDN_STAT.LAST_CAUSE cause
  let s := { s with rdn := { s.rdn with taken := true, imaging := none } }
  (s.count R.RDN.SWITCH_CNT.COUNT).ev B.rdn Ev.RDN.POINTS

/-- The lead's stream fails at this sender (Table 16-1). -/
def State.leadFails (s : State) (cause : Nat) : State :=
  let st := s.get R.RDN.RDN_STAT.STATE
  if !s.works B.rdn then s
  else if st = 3 && s.on R.RDN.RDN_CFG.AUTO then s.takeLead cause
  else if st = 2 || st = 3 then s.ev B.rdn Ev.RDN.LEAD_FAIL
  else s

/-- REDUN in force has become `dual` (Table 16-1). -/
def State.redunChanged (s : State) (dual : Bool) : State :=
  if s.role != .sender then
    -- the tile shows the stream from port U, the only one of a SINGLE line (R483)
    { s with line := { s.line with shownPort := 0, ring := [], standby := [], crcs := [] } }
  else if !dual then
    let s := s.set R.RDN.RDN_STAT.STATE 0
    { s with rdn := { s.rdn with waiting := false, taken := false, handing := false, imaging := none } }
  else if s.on R.RDN.RDN_CFG.ROLE then s.toSyncing
  else { s with rdn := { s.rdn with waiting := true } }

/-! ### Rows of a tile's share -/

/-- The tile's stop number on the side of port `p` (R267). -/
def State.ownStop (s : State) (p : Nat) : Nat := s.get (if p = 0 then R.LNE.TILE_STOP.STOP_U 0 else R.LNE.TILE_STOP.STOP_D 0)

/-- The view `v` of the frame being received. -/
def State.rxView (s : State) (v : Nat) : Option ViewRx := s.line.views.find? (fun x => x.view == v)

/-- Replace it. -/
def State.setRxView (s : State) (x : ViewRx) : State :=
  { s with line := { s.line with views := x :: s.line.views.filter (fun y => y.view != x.view) } }

/-- The share has the size of the board (R310). -/
def State.sizeOk (s : State) (h : ShareHdr) : Bool := h.w == s.tw && h.h == s.th

/-- A row that neither stream supplies: the row of the front plane of the same view is copied into the back plane (R484), and its lamps
count in the rail maxima of the frame (R322). -/
def State.lostRow (s : State) (v y : Nat) : State :=
  if s.modeCur.timing = 1 then s
  else
    let f := s.frontOf y
    let n := s.tw * s.numE
    let (s, l) := s.readLamps 2 (s.planeBase f v + 2 * (y * n)) n
    let s := match s.cor.pass with
      | some L => l.zipIdx.foldl (fun (s : State) (e : (Nat × Bool) × Nat) => s.keepMax L (e.2 / s.numE) y (e.2 % s.numE) e.1.1 e.1.2) s
      | none => s
    let s := s.writeLamps (s.planeBase (1 - f) v + 2 * (y * n)) l
    let s := s.count R.SCN.ROW_REPEAT_CNT.COUNT
    match s.rxView v with
    | some x => s.setRxView { x with rows := y :: x.rows }
    | none => s

/-- Take row `y` of the shown stream's share in view `v`: decode it, correct it and report it to the bands (R271, R313,
R321); `bad` are its poisoned pixels. -/
def State.takeRow (s : State) (v y bits : Nat) (bad : List Nat) : State :=
  match s.rxView v with
  | none => s
  | some x =>
    match x.share with
    | none => s
    | some h =>
      if h.dark || x.dark || x.rows.contains y || h.h ≤ y then s
      else
        let px := decodeRow (s.get R.DEP.MODE_CUR.CODING_A) h.w bits
        let crc := if x.crcNext = y then crcRefl 0xEDB88320 x.crc ((px.map spireBytes).foldl (· ++ ·) []) else x.crc
        let s := s.setRxView { x with rows := y :: x.rows, crc := crc, crcNext := if x.crcNext = y then y + 1 else x.crcNext }
        let s := if bad = [] then s else { s with line := { s.line with poison := true } }
        match s.cor.pass with
        | some L =>
          if s.sizeOk h && !s.frozen B.cor then
            let s := (s.correctRow L v y px bad).memSettle s.chStates
            ({ s with cor := { s.cor with rows := (v, y) :: s.cor.rows } }).bandRow y
          else s
        | none => s

/-- The tile is dark for the frame of its last departure, which COR leaves alone: the dark frames of R53, and a flip that failed. -/
def State.corIdle (s : State) : Bool := s.dep.flipFailed || s.dep.dark.any (fun e => s.lastDep + 1 < e.1 + e.2)

/-- COR begins its pass for the frame of the last departure, unless it is off, frozen, refused by R308 or short of a channel
(R319, R339, R340, R419). -/
def State.maybeBegin (s : State) : State :=
  if s.works B.cor && !s.cor.badGeom && !s.cor.oneChannel && s.cor.pass.isNone && s.dep.loaded && !s.corIdle then
    s.beginPass s.lastDep
  else s

/-- A view of the frame being received is DARK. A frame of DARK views alone for which COR makes no pass is complete in the back set at
once, with drive values of 0 on every channel (R53, R383). -/
def State.viewDark (s : State) (v : Nat) : State :=
  let l := if s.scn.backDark.contains v then s.scn.backDark else s.scn.backDark ++ [v]
  let s := { s with scn := { s.scn with backDark := l } }
  if s.corIdle && s.scn.backFrame.isNone && (List.range s.views).all l.contains then
    ({ s with scn := { s.scn with backFrame := some s.lastDep } }).raiTake (List.replicate 24 0)
  else s

/-- The tile begins a view of the frame of its last departure from an accepted header, and COR its pass with view 0 (R319); DARK views
count as received. -/
def State.openView (s : State) (v : Nat) (dark : Bool) : State :=
  let s := if s.line.rxFrame = some s.lastDep then s else { s with line := { s.line with rxFrame := some s.lastDep, views := [] } }
  let s := if (s.rxView v).isSome then s else
    let s := s.setRxView { view := v, dark := dark }
    if v = 0 then s.maybeBegin else s
  if dark then s.viewDark v else s

/-- The tile takes its own share header of view `v` (R272, R310). -/
def State.openShare (s : State) (v : Nat) (h : ShareHdr) : State :=
  match s.rxView v with
  | none => s
  | some x =>
    if x.share.isSome then s
    else
      let s := s.setRxView { x with share := some h, bad := x.bad || (!h.dark && !s.sizeOk h) }
      if h.dark then s.viewDark v
      else if s.sizeOk h then s
      else ((s.count R.COR.GEOM_MISMATCH.COUNT).err B.cor 0x11 0 0).ev B.cor Ev.COR.GEOM_MISMATCH

/-- Frame `n` may still be loaded: it is recent, or a plane or a band in the sinks or waiting for them holds it. -/
def State.stillHeld (s : State) (n : Nat) : Bool :=
  n + 4 > s.lastDep || s.scn.frontFrame == some n || s.scn.backFrame == some n || s.scn.bands.any (fun b => b.frame == n || b.flipped == some n)

/-- The Spire check fails for the frame of the last departure (R195, R400). -/
def State.spireFails (s : State) : State :=
  { s with
    lfm := { s.lfm with spireFail := s.lastDep :: s.lfm.spireFail.filter (fun n => n != s.lastDep && s.stillHeld n) }
    line := { s.line with spireBad := true } }

/-- The share of view `v` is judged by its trailer (R195, R274): complete, and its Spire check. -/
def State.judgeShare (s : State) (v : Nat) (tr : ShareTrl) : State :=
  match s.rxView v with
  | none => s
  | some x =>
    match x.share with
    | none => s
    | some h =>
      if h.dark then s
      else
        let whole := !x.bad && !tr.incomplete && tr.rows == h.h && x.rows.length == h.h
        let spire := h.spire || tr.spire
        let fails := spire && (tr.bad || !whole || x.crcNext != h.h || (x.crc ^^^ 0xFFFFFFFF) != tr.crc)
        let s := s.setRxView { x with trailer := some tr, bad := !whole }
        let s := if whole then { s with cor := { s.cor with doneViews := v :: s.cor.doneViews } } else s
        if fails then
          s.spireFails
        else s

/-- The view's share is incomplete (R273); one that carries Spire pixels fails its check. -/
def State.markBad (s : State) (v : Nat) : State :=
  match s.rxView v with
  | none => s
  | some x =>
    let s := s.setRxView { x with bad := true }
    if (x.share.map (·.spire)).getD false then
      s.spireFails
    else s

/-! ### The standby ring and the points change -/

/-- Bits of the standby ring (R484). -/
def ringBits : Nat := 1536 * 1024 * 8

/-- The newest rows whose bits fit the ring, `w` bits each. -/
def ringFit (w : Nat) : List (Nat × Nat × Nat × Nat) → List (Nat × Nat × Nat × Nat)
  | l => l.take (if w = 0 then 0 else ringBits / w)

/-- Keep a row of the stream that is not shown. -/
def State.ringPut (s : State) (frame v y bits w : Nat) : State :=
  { s with line := { s.line with ring := ringFit w ((frame, v, y, bits) :: s.line.ring) } }

/-- What the tile keeps of view `v` of frame `f` of the stream that it does not show, with `put` applied; views of older frames go. -/
def State.standbyPut (s : State) (f v : Nat) (dark : Bool) (put : StandbyView → StandbyView) : State :=
  let near := s.line.standby.filter (fun x => x.frame == f || x.frame == (f + 2 ^ 32 - 1) % 2 ^ 32)
  let old := (near.find? (fun x => x.frame == f && x.view == v)).getD { frame := f, view := v, dark := dark }
  { s with line := { s.line with standby := put old :: near.filter (fun x => !(x.frame == f && x.view == v)) } }

/-- The rounds of view `v` that the stream on port `q` has passed, of a share of height `h`. -/
def StreamSt.passed (x : StreamSt) (v h : Nat) : Nat :=
  match x.hdr with
  | none => 0
  | some d =>
    if v < d.view then h
    else if d.view < v then 0
    else if !x.open_ || x.trailers != 0 then h
    else match x.seg with
      | none => 0
      | some r => (x.rounds.map (· + 1)).foldl max r

/-- The views of the current frame that the tile keeps of the stream that it now shows, oldest first. -/
def State.standbyViews (s : State) : List StandbyView := (s.line.standby.filter (fun x => x.frame == s.lastDep % 2 ^ 32)).reverse

/-- Open the views and shares that the new stream has already passed or begun. -/
def State.standbyOpen (s : State) (l : List StandbyView) : State :=
  l.foldl (fun (s : State) (x : StandbyView) =>
    let s := s.openView x.view (x.dark || s.dep.flipFailed)
    match x.share with
    | some k => s.openShare x.view k
    | none => s) s

/-- Judge the shares whose trailers the new stream has already passed. -/
def State.standbyJudge (s : State) (l : List StandbyView) : State :=
  l.foldl (fun (s : State) (x : StandbyView) =>
    match x.trailer, s.rxView x.view with
    | some t, some r => if r.trailer.isSome then s else (s.judgeShare x.view t).forN s.scn.bands.length State.closeBand
    | _, _ => s) s

/-- Take the ring's rows of the current frame, oldest first. -/
def State.fromRing (s : State) : State :=
  let l := s.line.ring
  let s := { s with line := { s.line with ring := [] } }
  (l.filter (fun e => e.1 == s.lastDep)).foldr (fun e s => s.takeRow e.2.1 e.2.2.1 e.2.2.2 []) s

/-- The coding marked in a header of the shown stream goes into both mode words (R36). DESIGN CHOICE (log entry 93): a tile that
shows the stream of port D copies the coding marked there; Table 2-1 speaks of port U, R36 of each received frame. -/
def State.copyCoding (s : State) (c : Nat) : State :=
  if s.get R.DEP.MODE_CUR.CODING_A = c && s.get R.DEP.MODE_NEXT.CODING_A = c then s
  else
    let s := s.putModeNext { s.modeNext with codA := c }
    (s.modeChange { s.modeCur with codA := c } 7).evaluate

/-- Show the stream on port `q` from its next round boundary (R483, R484). -/
def State.showPort (s : State) (q : Nat) : State :=
  let x := s.stream q
  let l := s.standbyViews
  let s := { s with line := { s.line with shownPort := q, standby := [] } }
  match x.hdr with
  | none => s
  | some h =>
    if x.skip || h.frame != s.lastDep % 2 ^ 32 then { s with line := { s.line with ring := [] } }
    else
      let s := (((s.copyCoding h.coding).standbyOpen l).openView h.view (h.dark || s.dep.flipFailed)).fromRing
      let s := s.line.views.foldl (fun (s : State) (r : ViewRx) =>
        match r.share with
        | some k =>
          if k.dark then s
          else (List.range (min k.h (x.passed r.view k.h))).foldl (fun s y =>
            match s.rxView r.view with
            | some z => if z.rows.contains y then s else s.lostRow r.view y
            | none => s) s
        | none => s) s
      s.standbyJudge l

/-- The stream on port `q` is eligible (R482). -/
def State.eligible (s : State) (q : Nat) : Bool :=
  s.portActive q &&
  (match (s.stream q).hdr with | some h => h.ok && (!h.relief || h.inSync) | none => false) &&
  (match (s.stream q).failed with | some f => f + 1 < s.lastDep | none => true)

/-- A condition of Table 16-4 holds for the stream on port `p`. -/
def State.streamFail (s : State) (p cause : Nat) : State :=
  let x := s.stream p
  match s.role with
  | .sender =>
    match x.hdr with
    | some h => if h.relief then s else s.leadFails cause
    | none => s
  | .tile =>
    let s := s.setStream p { x with failed := some s.lastDep }
    if s.dual && p == s.line.shownPort && s.eligible (1 - p) then s.showPort (1 - p) else s

/-- R483 step 2: the shown stream is a relief's, the other one is not and is eligible. -/
def State.preferLead (s : State) : State :=
  let p := s.line.shownPort
  match (s.stream p).hdr, (s.stream (1 - p)).hdr with
  | some a, some b =>
    if s.dual && a.relief && !b.relief && a.frame == b.frame && s.eligible (1 - p) then s.showPort (1 - p) else s
  | _, _ => s

/-- The port of a stream goes down: LOSS, and the stream is gone. -/
def State.streamLost (s : State) (p : Nat) : State :=
  let s := s.streamFail p 1
  let s := if s.role == .tile && p == s.line.shownPort then
      (s.line.views.filter (fun x => x.trailer.isNone && !x.dark)).foldl (fun s x => s.markBad x.view) s
    else s
  s.setStream p { failed := (s.stream p).failed }

/-! ### Line CRCs (R275) -/

/-- Frame numbers at most one apart, modulo 2^32. -/
def nearFrame (a b : Nat) : Bool := (a + 2 ^ 32 - b) % 2 ^ 32 ≤ 1 || (b + 2 ^ 32 - a) % 2 ^ 32 ≤ 1

/-- Keep the CRC of a row and compare it with the other stream's; the event comes once for a frame. -/
def State.lineCrc (s : State) (p frame v y crc : Nat) : State :=
  let other := s.line.crcs.find? (fun e => e.1 != p && e.2.1 == frame && e.2.2.1 == v && e.2.2.2.1 == y)
  let s := { s with line := { s.line with
    crcs := (p, frame, v, y, crc) :: s.line.crcs.filter (fun e => nearFrame e.2.1 frame) } }
  match other with
  | some e =>
    if e.2.2.2.2 = crc then s
    else
      let first := !s.line.lcrcSeen.contains frame
      let seen := frame :: s.line.lcrcSeen.filter (fun f => f != frame && nearFrame f frame)
      let s := { s with line := { s.line with lcrc := min 65535 (s.line.lcrc + 1), lcrcSeen := seen } }
      (s.count (R.LNE.LCRC_MISMATCH.COUNT 0)).evIf first (B.lne 0) Ev.LNE.LCRC_MISMATCH
  | none => s

end Sys2Proof.Machine
end

