-- ==== Sys2Proof/Machine/QueueBase.lean ====
section
/-!
DEFINITION. How a descriptor completes (R447, R448), and what a tenant's rule slot in force says (R442, R452).
-/
namespace Sys2Proof.Machine

/-! ### Descriptors -/

/-- `n` bytes of a descriptor from byte `a`, as a number. -/
def Desc.le (d : Desc) (a n : Nat) : Nat := leNat ((d.bytes.drop a).take n)

/-- OP, FENCE, IRQ, TAG, ADDR and LEN of a descriptor (Table 15-3). -/
def Desc.op (d : Desc) : Nat := d.le 0 1
def Desc.irq (d : Desc) : Bool := bitAt (d.le 1 1) 0
def Desc.fence (d : Desc) : Bool := bitAt (d.le 1 1) 1
def Desc.tag (d : Desc) : Nat := d.le 2 2
def Desc.addr (d : Desc) : Nat := d.le 8 8
def Desc.len (d : Desc) : Nat := d.le 16 4

/-- The fields of a remote address word (R86). -/
def locOf (a : Nat) : Nat := bitsOf a 0 25
def stopOf (a : Nat) : Nat := bitsOf a 25 8
def portOf (a : Nat) : Nat := bitsOf a 33 1

/-- Class and owner of a queue. -/
def State.qClass (s : State) (q : Nat) : Nat := s.get (R.QCX.Q_CTRL.CLASS q)
def State.qOwner (s : State) (q : Nat) : Nat := s.get (R.QCX.Q_CTRL.OWNER q)

/-- Entries of a queue's ring; SIZE_EXP reaches from 1 to 12. -/
def State.qSize (s : State) (q : Nat) : Nat := 2 ^ clampN 1 12 (s.get (R.QCX.Q_CTRL.SIZE_EXP q))

/-- The descriptor in entry `idx` of queue `q`. -/
def State.desc (s : State) (q idx : Nat) : Option Desc := s.que.descs.find? (fun d => d.q == q && d.idx == idx)

/-- Replace a descriptor. -/
def State.setDesc (s : State) (d : Desc) : State :=
  { s with que := { s.que with descs := s.que.descs.map (fun e => if e.q = d.q && e.idx = d.idx then d else e) } }

/-- INFLIGHT of a queue and of the page, and IDLE, after a change of what is admitted. -/
def State.showInflight (s : State) (q : Nat) : State :=
  let open_ (d : Desc) : Bool := d.result.isNone
  let n := (s.que.descs.filter (fun d => open_ d && d.q == q)).length
  let s := (s.set (R.QCX.Q_INFLIGHT.COUNT q) n).set (R.QCX.Q_CTRL.IDLE q) (bit (n == 0))
  s.set R.QUE.INFLIGHT.COUNT (s.que.descs.filter open_).length

/-- HEAD advances in ring order over completed descriptors; the entries passed, oldest first (R447). -/
def State.passed (s : State) (q : Nat) : Nat → Nat → List Desc
  | 0, _ => []
  | n + 1, h =>
    match s.desc q h with
    | some d => if d.result.isSome then d :: State.passed s q n ((h + 1) % s.qSize q) else []
    | none => []

/-- The entries `l` of queue `q` are gone. -/
def State.dropDescs (s : State) (q : Nat) (l : List Desc) : State :=
  { s with que := { s.que with descs := s.que.descs.filter (fun d => !(d.q == q && l.any (fun e => e.idx == d.idx))) } }

/-- HEAD advances; the shadow is written and the vector signalled (R447). -/
def State.advanceHead (s : State) (q : Nat) : State :=
  let h := s.get (R.QCX.Q_HEAD.IDX q)
  let l := s.passed q s.que.descs.length h
  if l = [] then s
  else
    let h' := (h + l.length) % s.qSize q
    let s := s.set (R.QCX.Q_HEAD.IDX q) h'
    let s := s.dropDescs q l
    let sh := s.get64 (R.QCX.Q_HSHADOW_LO.ADDR q) (R.QCX.Q_HSHADOW_HI.ADDR q)
    let s := if sh = 0 then s else s.emit (.hostWrite (s.qOwner q) sh (toBytes 4 h'))
    let v := s.get (R.QCX.Q_CTRL.VECTOR q)
    if l.any (·.irq) && v < 32 then s.emit (.msix (s.qOwner q) v) else s

/-- A descriptor completes with STATUS, DONE and read data: bytes 56 to 63 and DATA are written back and HEAD advances
(R447). Revocations, and completions of bad descriptors, are counted. -/
def State.complete (s : State) (q idx status done : Nat) (data : List Nat) : State :=
  match s.desc q idx with
  | none => s
  | some d =>
    if d.result.isSome then s
    else
      let s := s.setDesc { d with result := some (status, done, data) }
      let a := s.get64 (R.QCX.Q_BASE_LO.BASE q) (R.QCX.Q_BASE_HI.BASE q) + 64 * idx
      let fn := s.qOwner q
      let s := if data = [] then s else s.emit (.hostWrite fn (a + 24) ((data.map (toBytes 4)).foldl (· ++ ·) []))
      let s := s.emit (.hostWrite fn (a + 56) ([BitVec.ofNat 8 status, 0, 0, 0] ++ toBytes 4 done))
      let s := (s.count (R.QCX.Q_DONE_CNT.COUNT q)).showInflight q
      let s := if status = 7 || status = 8 then s.count R.QUE.DESC_ERR.COUNT else s
      let s := if status = 8 then s.poison B.que q a else s
      let s := if status = 5 then s.count (R.TEN.REVOKED_CNT.COUNT fn) else s
      s.advanceHead q

/-- The first answer other than OK in request order, and the number of OK answers before it. -/
def firstBad (l : List (Nat × Nat × List Nat)) (n : Nat) : Option (Nat × Nat) :=
  (List.range n).findSome? (fun k =>
    match l.find? (fun a => a.1 == k) with
    | some a => if a.2.1 = 0 then none else some (a.2.1, k)
    | none => none)

/-- Words of a one-request descriptor that its answer completes: COUNT for OK, 0 otherwise and for PING. -/
def Desc.words (d : Desc) (status : Nat) : Nat :=
  if status != 0 || d.op = 4 then 0 else if d.op = 3 then 1 else d.len

/-- A descriptor whose sent requests are all answered completes when no further request is to be sent (R447 to R449,
R453). -/
def State.settle (s : State) (q idx : Nat) : State :=
  match s.desc q idx with
  | none => s
  | some d =>
    let c := s.qClass q
    if d.result.isSome || d.answers.length != d.sent then s
    else if c = 3 then
      let bad := firstBad d.answers d.sent
      let total := d.len / 32
      match bad, d.stop with
      | some (st, k), _ => s.complete q idx st (32 * k) []
      | none, some st => s.complete q idx st (32 * d.sent) []
      | none, none => if d.sent = total then s.complete q idx 0 d.len [] else s
    else if c = 5 then
      let w := ((d.answers.find? (fun a => a.1 == 1)).map (fun a => a.2.2.headD 0)).getD 0
      match firstBad d.answers d.sent with
      | some (st, _) => s.complete q idx st w []
      | none => s.complete q idx 0 w []
    else
      match d.answers with
      | a :: _ => s.complete q idx a.2.1 (d.words a.2.1) (if d.op = 1 then a.2.2 else [])
      | [] => s

/-- Request `part` of a descriptor is answered. -/
def State.answer (s : State) (q idx part status : Nat) (data : List Nat) : State :=
  match s.desc q idx with
  | none => s
  | some d => (s.setDesc { d with answers := d.answers ++ [(part, status, data)] }).settle q idx

/-! ### Rules (R442, R452) -/

/-- A field of tenant `t`'s slot in force; PF0 passes everything. -/
def State.rule (s : State) (f : Nat → Fld) (t : Nat) : Nat := if t = 0 then 2 ^ 32 - 1 else s.get (f t)

/-- Bit `k` of a 64-bit mask of the slot in force. -/
def State.ruleBit (s : State) (lo hi : Nat → Fld) (t k : Nat) : Bool :=
  if k < 32 then bitAt (s.rule lo t) k else bitAt (s.rule hi t) (k - 32)

/-- The mask bit of a local address: the row of Table 3-5, or 40 and the row of Table 3-6. -/
def maskBit (a : Nat) : Option Nat :=
  let j := (List.range pageRows.length).find? (fun i =>
    match pageRows[i]? with | some r => r.2.1 ≤ a && a < r.2.1 + r.2.2 * 0x1000 | none => false)
  match j with
  | some i => some i
  | none =>
    if 0x400000 ≤ a && a < 0x800000 then some 40 else if 0x800000 ≤ a && a < 0x900000 then some 41
    else if 0xC00000 ≤ a && a < 0x1000000 then some 42 else if 0x1000000 ≤ a && a < 0x1100000 then some 43
    else if 0x1100000 ≤ a && a < 0x1200000 then some 44 else if 0x1400000 ≤ a && a < 0x1800000 then some 45
    else if 0x1800000 ≤ a && a < 0x1880000 then some 46 else none

/-- The layers that an address in a CMP layer page concerns: the block's layer, or both layers of the page header. -/
def layersAt (a : Nat) : List Nat :=
  if 0x71000 ≤ a && a < 0x79000 then
    let pg := (a - 0x71000) / 0x1000
    let o := a % 0x1000
    if o < 0x100 then [2 * pg, 2 * pg + 1] else if o < 0x300 then [2 * pg] else if o < 0x500 then [2 * pg + 1]
    else [2 * pg, 2 * pg + 1]
  else []

/-- A local access of tenant `t` passes its mask and layer conditions. -/
def State.localOk (s : State) (t a : Nat) (write : Bool) : Bool :=
  t == 0 ||
  (match maskBit a with
   | some k => if write then s.ruleBit R.RUF.R_LWR_LO.MASK R.RUF.R_LWR_HI.MASK t k
       else s.ruleBit R.RUF.R_LRD_LO.MASK R.RUF.R_LRD_HI.MASK t k
   | none => true) &&
  (layersAt a).all (fun n => bitAt (s.rule R.RUF.R_LAYERS.LAYERS t) n)

/-- What no rule slot allows (R442, R84): the TEN page, EVT_ROUTE and OWNER for a VF, foreign queue contexts and mailboxes,
and secure pages. `owner` says that a write of a queue context changes OWNER. -/
def State.barred (s : State) (t a : Nat) (write : Bool) : Bool :=
  let secure := (0x79000 ≤ a && a < 0x7A000) || (0x800000 ≤ a && a < 0x900000) || (0x20000 ≤ a && a < 0x28000)
  secure ||
  (t != 0 &&
    ((write && 0x150000 ≤ a && a < 0x151000) ||
     (write && (pageAt a).isSome && a % 0x1000 / 4 == 0x20 / 4) ||
     (0x1800000 ≤ a && a < 0x1880000 && s.qOwner ((a - 0x1800000) / 0x40) != t) ||
     (0x10000 ≤ a && a < 0x28000 && (a - 0x10000) / 0x1000 != t)))

/-- A stop passes the stop ranges of tenant `t` on port `p`. -/
def State.stopOk (s : State) (t p k : Nat) : Bool :=
  t == 0 ||
  (let en := if p = 0 then s.get (R.RUF.R_STOPS_A.EN t) else s.get (R.RUF.R_STOPS_B.EN t)
   let lo := if p = 0 then s.get (R.RUF.R_STOPS_A.LO t) else s.get (R.RUF.R_STOPS_B.LO t)
   let hi := if p = 0 then s.get (R.RUF.R_STOPS_A.HI t) else s.get (R.RUF.R_STOPS_B.HI t)
   en == 1 && (if k = 255 then s.get (R.RUF.R_CLASS.BCAST t) == 1 && lo == 1 && hi == 254 else lo ≤ k && k ≤ hi))

/-- A remote access to `a` at a stop passes the remote masks. -/
def State.remoteOk (s : State) (t a : Nat) (write : Bool) : Bool :=
  t == 0 ||
  (match maskBit a with
   | some k => if write then s.ruleBit R.RUF.R_RWR_LO.MASK R.RUF.R_RWR_HI.MASK t k
       else s.ruleBit R.RUF.R_RRD_LO.MASK R.RUF.R_RRD_HI.MASK t k
   | none => true)

/-- An access of `n` words through a remote address word passes (R452). -/
def State.wordsOk (s : State) (t addr n : Nat) (write : Bool) : Bool :=
  let k := stopOf addr
  let locs := (List.range n).map (fun i => locOf addr + 4 * i)
  if k = 0 then locs.all (fun a => s.localOk t a write && !s.barred t a write)
  else s.stopOk t (portOf addr) k && locs.all (fun a => s.remoteOk t a write && !s.barred t a write)

/-- The class bit of a queue's class. -/
def State.classOk (s : State) (t c : Nat) : Bool := t == 0 || bitAt (s.get (R.RUF.R_CLASS.CLASSES t)) c

/-- SRC and DST ranges of a codec descriptor lie in the tenant's DRAM range (R452). -/
def State.codecOk (s : State) (t src slen dst dlen : Nat) : Bool :=
  t == 0 ||
  (let lo := s.get (R.RUF.R_DRAM_BASE.MIB t) * 1048576
   let hi := lo + s.get (R.RUF.R_DRAM_SIZE.MIB t) * 1048576
   lo ≤ src && src + slen ≤ hi && lo ≤ dst && dst + dlen ≤ hi)

/-- A descriptor passes the rule table in force of its queue's owner (R452). -/
def State.descOk (s : State) (d : Desc) : Bool :=
  let c := s.qClass d.q
  let t := s.qOwner d.q
  let wr := d.op != 1 && d.op != 4
  s.classOk t c &&
  (if c = 0 then
     if d.op = 4 then stopOf d.addr == 0 || s.stopOk t (portOf d.addr) (stopOf d.addr)
     else s.wordsOk t d.addr (if d.op = 3 then 1 else d.len) wr
   else if c = 1 then (List.range (max 1 d.len)).all (fun i => s.localOk t (d.addr + 4 * i) wr)
   else if c = 2 then t == 0 || s.ruleBit R.RUF.R_LWR_LO.MASK R.RUF.R_LWR_HI.MASK t 40
   else if c = 3 then
     t == 0 || (s.ruleBit R.RUF.R_RWR_LO.MASK R.RUF.R_RWR_HI.MASK t 42 && s.stopOk t (portOf d.addr) (stopOf d.addr))
   else if c = 4 then s.codecOk t (d.le 8 8) (d.le 24 4) (d.le 16 8) (d.le 28 4)
   else
     let a := bitsOf (d.le 20 4) 0 8
     t == 0 ||
     ((if stopOf d.addr = 0 then s.ruleBit R.RUF.R_LWR_LO.MASK R.RUF.R_LWR_HI.MASK t 6
       else s.stopOk t (portOf d.addr) (stopOf d.addr) && s.ruleBit R.RUF.R_RWR_LO.MASK R.RUF.R_RWR_HI.MASK t 6) &&
      1 ≤ a && bitAt (s.get (R.RUF.R_CLASS.ACTIONS t)) (a - 1)))

/-! ### Dispatch (R446, R453) -/

/-- Descriptor `idx` of queue `q` is the next of its queue to be dispatched: it has unsent requests, every earlier one has
been dispatched whole, and a FENCE finds every earlier one completed. -/
def State.dispatchable (s : State) (q idx : Nat) : Bool :=
  let l := s.que.descs.filter (fun d => d.q == q)
  let before := l.takeWhile (fun d => d.idx != idx)
  match s.desc q idx with
  | some d => d.result.isNone && d.stop.isNone && !d.dispatched && before.all (fun e => e.dispatched || e.result.isSome || e.stop.isSome) &&
      (!d.fence || before.all (fun e => e.result.isSome))
  | none => false

/-- A descriptor that comes to dispatch under a newer rule epoch is checked again; one that fails sends no more and
completes with ACCESS_REVOKED once its sent requests have (R453). The descriptor to go on with, if any. -/
def State.recheck (s : State) (q idx : Nat) : State × Option Desc :=
  if !s.dispatchable q idx then (s, none)
  else match s.desc q idx with
    | none => (s, none)
    | some d =>
      if d.epoch = s.get R.TEN.RULE_EPOCH.EPOCH || s.descOk d then (s, some d)
      else
        let s := s.setDesc { d with stop := some 5 }
        (if d.sent = 0 then s.complete q idx 5 0 [] else s.settle q idx, none)

end Sys2Proof.Machine
end

