-- ==== Sys2Proof/Machine/LineBase.lean ====
section
/-!
DEFINITION. What the commands of a line share: line messages out of a port, line transactions and their slots and credits
(R277 to R280), the number of stops and silent stops (R269, R288), and the line width and width policy (R253, R254).
-/
namespace Sys2Proof.Machine

/-! ### Messages -/

/-- A message is queued on port `p` when the port is in ACTIVE, else lost (R265). -/
def State.send (s : State) (p : Nat) (m : Msg) : State := if s.portActive p then s.queueMsg p m else s

/-- PORT_FN of a port (Table 8-7). -/
def State.portFn (s : State) (p : Nat) : Nat := match s.role with | .sender => p | .tile => 6 + p

/-- The line state of port `p` of a sender. -/
def State.lineTx (s : State) (p : Nat) : LineTx := if p = 0 then s.line.tx0 else s.line.tx1

/-- Replace it. -/
def State.setLineTx (s : State) (p : Nat) (x : LineTx) : State :=
  { s with line := if p = 0 then { s.line with tx0 := x } else { s.line with tx1 := x } }

/-- The last enumerated stop of a port. -/
def State.lastStop (s : State) (p : Nat) : Nat := s.get (R.LNE.LNE_STAT.N p)

/-! ### Transactions -/

/-- EFF_US (R279): the larger of TXN_TMO, at least 100 µs, and 100 µs + N × 1 µs. -/
def State.showTmo (s : State) (p : Nat) : State :=
  s.set (R.LNE.TXN_TMO.EFF_US p) (max (max 100 (s.get (R.LNE.TXN_TMO.US p))) (100 + s.lastStop p))

/-- A request names stop `k`: itself, or by broadcast. -/
def hitsStop (stop k : Nat) : Bool := stop == k || stop == 255

/-- Credits of stop `k` in use (R277, R279). -/
def LineTx.credits (x : LineTx) (k : Nat) : Nat :=
  (x.txns.filter (fun t => hitsStop t.req.stop k)).length + (x.held.filter (fun h => hitsStop h.2 k)).length

/-- The bounds of R277 leave room for a request to a stop of port `p`. -/
def State.lineRoom (s : State) (p stop : Nat) : Bool :=
  let x := s.lineTx p
  x.txns.length < 2048 &&
  (if stop = 255 then (List.range (s.lastStop p)).all (fun k => x.credits (k + 1) < 64) else x.credits stop < 64)

/-- Why a remote access is refused before dispatch (R87). -/
def State.badAddress (s : State) (addr op : Nat) : Bool :=
  let p := portOf addr
  let k := stopOf addr
  addr / 2 ^ 34 != 0 || (k != 0 && ((k != 255 && s.lastStop p < k) || (k == 255 && (op == 1 || op == 4)) || !s.portActive p))

/-- The lowest free dispatch slot of a port. -/
def LineTx.freeSlot (x : LineTx) : Nat :=
  ((List.range (x.txns.length + 1)).find? (fun k => x.txns.all (fun t => t.slot != k))).getD 0

/-- INFLIGHT of a port. -/
def State.showTxns (s : State) (p : Nat) : State := s.set (R.LNE.INFLIGHT.COUNT p) (s.lineTx p).txns.length

/-- Dispatch a request on port `p` (R277): the slot's generation advances at each reuse. -/
def State.dispatch (s : State) (p : Nat) (req : ReqMsg) (owner : Owner) (tenant : Nat) : State :=
  let x := s.lineTx p
  let slot := x.freeSlot
  let gen := match x.gens.find? (fun g => g.1 == slot) with | some g => (g.2 + 1) % 32 | none => 0
  let req := { req with didx := slot + 2048 * gen, relief := s.srcRelief, src := tenant + 32 * s.get (R.LNE.LINE_ID.ID p) }
  let t : Txn := { slot := slot, req := req, owner := owner, tenant := tenant, epoch := s.get R.TEN.RULE_EPOCH.EPOCH, at_ := s.frc }
  let s := s.setLineTx p { x with txns := x.txns ++ [t], gens := (slot, gen) :: x.gens.filter (fun g => g.1 != slot) }
  (s.showTxns p).send p (.req req)

/-- Accesses dispatched under an older rule epoch, in RULE_STAT.OLD (Table 15-12). -/
def State.showOld (s : State) : State :=
  let e := s.get R.TEN.RULE_EPOCH.EPOCH
  let old (l : List Txn) : Nat := (l.filter (fun t => t.epoch != e)).length
  s.set R.TEN.RULE_STAT.OLD (min 65535 (old s.line.tx0.txns + old s.line.tx1.txns +
    (match s.klc.job with | some j => if j.owner.isSome && j.epoch != e then 1 else 0 | none => 0)))

/-- A reply leaves the service port (R546). -/
def State.reply (s : State) (dst : Caller) (op tag status : Nat) (data : List Byte) : State :=
  if s.on R.SVP.SVP_STAT.LINK_UP then (s.count R.SVP.TX_DGRAM.COUNT).emit (.service dst op tag status data) else s

/-- Who waits for a request is told its status and read data. -/
def State.tell (s : State) (o : Owner) (op status : Nat) (data : List Nat) : State :=
  match o with
  | .desc q i k => s.answer q i k status data
  | .service dst tag => s.reply dst op tag status ((data.map (toBytes 4)).foldl (· ++ ·) [])
  | .cluster => s

/-- A transaction completes with a status and read data: its slot is free, and who waits is told (R279, R455). -/
def State.txnDone (s : State) (p : Nat) (t : Txn) (status : Nat) (data : List Nat) : State :=
  let x := s.lineTx p
  let s := (s.setLineTx p { x with txns := x.txns.filter (fun u => u.slot != t.slot) }).showTxns p
  let s := s.showOld
  if t.discard then s.count (R.TEN.FLR_DISCARD.COUNT t.tenant)
  else s.tell t.owner t.req.op status data

/-- The oldest waiting request of port `p` goes on its way, or ends with BAD_ADDRESS (R87, R280). -/
def State.pumpOne (s : State) (p : Nat) : State :=
  match (s.lineTx p).waiting with
  | [] => s
  | w :: r =>
    let next := s.setLineTx p { s.lineTx p with waiting := r }
    if !s.portActive p || (w.1.stop != 255 && s.lastStop p < w.1.stop) then next.tell w.2.1 w.1.op 1 []
    else if s.lineRoom p w.1.stop then next.dispatch p w.1 w.2.1 w.2.2 else s

/-- Waiting requests go on as room appears (R277). -/
def State.pump (s : State) (p : Nat) : State := s.forN (s.lineTx p).waiting.length (fun s _ => s.pumpOne p)

/-- A request of the service path or the cluster unit: it is dispatched, or waits for room and STALL_CNT counts (R277). -/
def State.request (s : State) (p : Nat) (req : ReqMsg) (owner : Owner) (tenant : Nat) : State :=
  if (s.lineTx p).waiting == [] && s.lineRoom p req.stop then s.dispatch p req owner tenant
  else (s.setLineTx p { s.lineTx p with waiting := (s.lineTx p).waiting ++ [(req, owner, tenant)] }).count (R.LNE.STALL_CNT.COUNT p)

/-- TXN_TIMEOUT (R279): completed with EXECUTED_UNKNOWN, the stop credits are held for a further T. -/
def State.txnExpire (s : State) (p : Nat) (t : Txn) : State :=
  let x := s.lineTx p
  let s := s.setLineTx p { x with held := x.held ++ [(t.req.didx, t.req.stop)] }
  let s := (s.count (R.LNE.TMO_CNT.COUNT p)).txnDone p t 4 []
  (s.ev (B.lne p) Ev.LNE.TXN_TIMEOUT).pump p

/-! ### Stops -/

/-- What the sender knows of stop `k`. -/
def LineTx.stop (x : LineTx) (k : Nat) : StopSt := (x.stops.find? (fun e => e.stop == k)).getD { stop := k }

/-- Put it back. -/
def LineTx.setStop (x : LineTx) (e : StopSt) : LineTx := { x with stops := e :: x.stops.filter (fun y => y.stop != e.stop) }

/-- TEL_STAT.SILENT: the lowest-numbered silent stop (R288). -/
def State.showSilent (s : State) (p : Nat) : State :=
  let l := ((s.lineTx p).stops.filter (·.silent)).map (·.stop)
  s.set (R.LNE.TEL_STAT.SILENT p) (match l with | [] => 0 | a :: r => r.foldl min a)

/-- A line width becomes due at the next departure (R254). -/
def State.policyDue (s : State) (p : Nat) : State :=
  { s with dep := { s.dep with policyDue := s.dep.policyDue ||| 2 ^ p } }

/-- N of a port becomes `n` (R268, R269): stops that it leaves out are silent, and a stop numbered again is not (R288). -/
def State.numberTo (s : State) (p n : Nat) : State :=
  let old := s.lastStop p
  let s := (s.set (R.LNE.LNE_STAT.N p) n).showTmo p
  let s := if old = n then s else s.policyDue p
  let x := s.lineTx p
  if old ≤ n then
    (s.setLineTx p { x with stops := x.stops.map (fun e => if old < e.stop && e.stop ≤ n then { e with silent := false, misses := 0 } else e) }).showSilent p
  else
    let x := (List.range (old - n)).foldl (fun (x : LineTx) i => x.setStop { x.stop (n + 1 + i) with silent := true }) x
    ((s.setLineTx p x).showSilent p).ev (B.lne p) Ev.LNE.STOP_SILENT

/-- The sessions with stops above `n` end (R550). -/
def State.dropSessions (s : State) (p n : Nat) : State :=
  let x := s.lineTx p
  let s := s.setLineTx p { x with sessions := x.sessions.filter (fun v => v.stop ≤ n) }
  (x.sessions.filter (fun v => n < v.stop)).foldl (fun (s : State) (v : SvcOut) =>
    match v.wait with | some w => s.reply w.1 w.2.2 w.2.1 0x13 [] | none => s) s

/-- A link of port `p`'s line has gone down: stop `n` is the last that can be reached (R269). What is in flight beyond it
completes with LINK_DOWN (R280); credits of what has timed out stay held (R279). -/
def State.setN (s : State) (p n : Nat) : State :=
  let s := s.numberTo p n
  let x := s.lineTx p
  let lost := x.txns.filter (fun t => n < t.req.stop)
  let s := lost.foldl (fun s t => (s.count (R.LNE.LINKDOWN_CNT.COUNT p)).txnDone p t 3 []) s
  (s.dropSessions p n).pump p

/-! ### Line width and width policy -/

/-- The width of link `j` of a sender's port in lanes; a link never reported counts as 4. -/
def State.linkWidth (s : State) (p j : Nat) : Nat :=
  if j ≤ 1 then widthLanes (s.get (R.LNK.PORT_STAT.WIDTH p))
  else (((s.lineTx p).widths.find? (fun w => w.1 == j)).map (·.2)).getD 4

/-- The narrowest width among links 1 to `n`, and the stop whose link sets it, 0 for link 1 and for none. -/
def State.narrowest (s : State) (p n : Nat) : Nat × Nat :=
  (List.range n).foldl (fun (a : Nat × Nat) i =>
    let w := s.linkWidth p (i + 1)
    if w < a.1 then (w, if i = 0 then 0 else i + 1) else a) (4, 0)

/-- LINE_WIDTH and NARROW_STOP (R253), with LINE_CHANGE; a change makes the width policy due at the next departure. -/
def State.showLine (s : State) (p : Nat) : State :=
  if s.role != .sender then s
  else
    let last := s.lastCarried p
    let (w, k) := if s.portActive p && last != 0 then s.narrowest p last else (0, 0)
    let was := (s.get (R.LNK.LINE_STAT.LINE_WIDTH p), s.get (R.LNK.LINE_STAT.NARROW_STOP p))
    let s := (s.set (R.LNK.LINE_STAT.LINE_WIDTH p) (widthCode w)).set (R.LNK.LINE_STAT.NARROW_STOP p) k
    if was = (widthCode w, k) then s
    else
      let s := if was.1 = widthCode w then s else s.policyDue p
      s.ev (B.lnk p) Ev.LNK.LINE_CHANGE

/-- D(b, n) of R254 fits C(w), for the cards in force and the rate and views in force. -/
def State.loadFits (s : State) (p b n w : Nat) : Bool :=
  let cs := enabledCards s.map.force
  let pix := ((List.range n).map (fun i => stopPixels cs p (i + 1))).foldl (· + ·) 0
  let (num, den) := rateFrac (s.get R.TIM.RATE_CUR.RATE)
  lineFits pix b s.views num den (videoLimit w)

/-- The coding with `b` bits per pixel. -/
def codeOfBits (b : Nat) : Nat := if b = 24 then 1 else if b = 18 then 2 else 0

/-- The width policy of port `p` (R254): the coding it takes and the last stop that is not held. -/
def State.policy (s : State) (p : Nat) : Nat × Nat :=
  let n := s.lastStop p
  let b := codingBits (s.modeCur.coding p)
  let wmin (k : Nat) : Nat := if s.portActive p && k != 0 then (s.narrowest p k).1 else 4
  let lastFor (b : Nat) : Nat :=
    ((List.range (n + 1)).reverse.find? (fun k => k == 0 || s.loadFits p b k (wmin k))).getD 0
  if s.on (R.LNK.PORT_CTRL.POLICY p) then (b, lastFor b)
  else
    let tries := [b] ++ (if 24 < b then [24] else []) ++ (if 18 < b then [18] else [])
    match tries.find? (fun b' => s.loadFits p b' n (wmin n)) with
    | some b' => (b', n)
    | none => (18, lastFor 18)

/-- Apply the width policy of port `p`: the coding in both words (R47) and the first held stop. -/
def State.applyPolicy (s : State) (p : Nat) : State :=
  let n := s.lastStop p
  let (b, last) := s.policy p
  let c := codeOfBits b
  let m := s.modeCur
  let s := if c = m.coding p then s
    else
      let nx := s.modeNext
      let s := s.putModeNext (if p = 0 then { nx with codA := c } else { nx with codB := c })
      (s.modeChange (if p = 0 then { m with codA := c } else { m with codB := c }) 3).evaluate
  let brk := if last < n then last + 1 else 0
  let was := s.get (R.LNK.LINE_STAT.BREAK p)
  let s := s.set (R.LNK.LINE_STAT.BREAK p) brk
  let s := s.evIf (was != brk) (B.lnk p) Ev.LNK.LINE_CHANGE
  let s := s.showLine p
  { s with dep := { s.dep with policyDue := s.dep.policyDue &&& (3 - 2 ^ p) } }

/-! ### LINK_STATE -/

/-- The stop numbers that a unit gives in LINK_STATE and telemetry. -/
def State.stopU (s : State) : Nat := if s.role == .tile then s.get (R.LNE.TILE_STOP.STOP_U 0) else 0
def State.stopD (s : State) : Nat := if s.role == .tile then s.get (R.LNE.TILE_STOP.STOP_D 0) else 0

/-- Report a change of port `q` out of every port that is ACTIVE (R252). -/
def State.reportLink (s : State) (q cause : Nat) : State :=
  let m : LinkStateMsg := {
    fn := s.portFn q, stopU := s.stopU, stopD := s.stopD, stage := s.get (R.LNK.PORT_STAT.STAGE q)
    width := s.get (R.LNK.PORT_STAT.WIDTH q)
    lanes := s.get (R.LNK.PORT_STAT.IN_SERVICE q) + 16 * s.get (R.LNK.PORT_STAT.FAILED q), cause := cause, time := s.wall }
  (s.send 0 (.linkState m)).send 1 (.linkState m)

/-! ### The boot control block (R530) -/

/-- STATE, GEN and TRIALS of the slots, as the registers show them. -/
def State.bootSlots (s : State) : List (Nat × Nat × Nat) :=
  (List.range 6).map (fun k => (s.get (R.SLT.SLOT_STAT.STATE k), s.get (R.SLT.SLOT_GEN.GEN k), s.get (R.SLT.SLOT_STAT.TRIALS k)))

/-- The sequence number of a copy; one whose CRC does not hold comes before every other. -/
def bootSeq (c : Option BootCopy) : Nat := match c with | some b => b.seq + 1 | none => 0

/-- The copy that is read: the valid one with the higher sequence number. -/
def State.bootNewest (s : State) : Option BootCopy := if bootSeq s.fwu.boot0 < bootSeq s.fwu.boot1 then s.fwu.boot1 else s.fwu.boot0

/-- An update is written into the copy with the lower sequence number, and gets the higher one plus 1. -/
def State.bootSave (s : State) : State :=
  let l := s.bootSlots
  if s.bootNewest.any (fun b => b.slots == l) then s
  else
    let c : BootCopy := ⟨max (bootSeq s.fwu.boot0) (bootSeq s.fwu.boot1) % 2 ^ 32, l⟩
    if bootSeq s.fwu.boot0 < bootSeq s.fwu.boot1 then { s with fwu := { s.fwu with boot0 := some c } }
    else { s with fwu := { s.fwu with boot1 := some c } }

/-! ### The open session of a unit (R546 to R549) -/

/-- The open session ends; a slot that was being written becomes BAD when it was not closed. -/
def State.endSession (s : State) (bad : Bool) : State :=
  if s.get R.FWU.SESSION.PURPOSE = 0 then { s with line := { s.line with svcIn := none } }
  else
    let k := s.get R.FWU.SESSION.SLOT
    let s := if bad && s.get R.FWU.SESSION.PURPOSE == 1 then s.set (R.SLT.SLOT_STAT.STATE k) 4 else s
    let s := ((s.bootSave.set R.FWU.SESSION.PURPOSE 0).set R.FWU.SESSION.SLOT 0).set R.FWU.SESSION.ID 0
    { ((s.set R.FWU.SESS_BYTES.BYTES 0).ev B.fwu Ev.FWU.SESSION_DONE) with
      line := { s.line with svcIn := s.line.svcIn.filter (fun x => x.closed && !bad) } }

/-! ### Enumeration runs -/

/-- Start a run (R266): a busy one is replaced. On a port that is not ACTIVE its message is lost, and the run ends on its limit. -/
def State.enumStart (s : State) (p : Nat) : State :=
  if s.role != .sender || !s.works (B.lne p) then s
  else
    let run := (s.get (R.LNE.ENUM_RUN.RUN p) + 1) % 65536
    let s := (s.set (R.LNE.ENUM_RUN.RUN p) run).set (R.LNE.LNE_STAT.ENUM_BUSY p) 1
    let s := s.setLineTx p { s.lineTx p with rsps := [] }
    s.send p (.enumMsg ⟨s.srcRelief, 1, s.get (R.LNE.LINE_ID.ID p), run⟩)

/-- A run is abandoned (R269, R588). -/
def State.enumAbandon (s : State) (p : Nat) : State :=
  (s.set (R.LNE.LNE_STAT.ENUM_BUSY p) 0).setLineTx p { s.lineTx p with rsps := [] }

/-! ### Where telemetry records lie (R288) -/

/-- TEL_BASE, aligned to 16 KiB. -/
def State.telBase (s : State) (p : Nat) : Nat :=
  s.get64 (R.LNE.TEL_BASE_LO.BASE p) (R.LNE.TEL_BASE_HI.BASE p) / 16384 * 16384

/-- The address of the record of stop `k` of port `p`. -/
def State.telRecord (s : State) (p k : Nat) : Nat := s.telBase p + (k - 1) * 64

end Sys2Proof.Machine
end

