-- ==== Sys2Proof/Machine/Answers.lean ====
section
/-!
DEFINITION. The services of the MC image on the mailbox channels of a sender's tenants (R462): it answers a request when it
removes it from its side of the channel.
-/
namespace Sys2Proof.Machine

/-- Byte `i` of a message. -/
def msgByte (m : List Nat) (i : Nat) : Nat := bitsOf (m.getD (i / 4) 0) (8 * (i % 4)) 8

/-- 0x81 with the SEQ of the request: 1 NONE, 2 DENIED. -/
def State.mcRefuse (s : State) (c seq why : Nat) : State := s.mcAnswer c [(msgWords (toBytes 3 (0x81 + 256 * seq + 65536 * why)), false)]

/-- TEL_GET: the stored record of stop `k` of port `p`. -/
def State.telGet (s : State) (c seq p k : Nat) : State :=
  if !(s.stopOk c p k && s.ruleBit R.RUF.R_RRD_LO.MASK R.RUF.R_RRD_HI.MASK c 22) then s.mcRefuse c seq 2
  else if 1 < p || k = 0 || ((s.lineTx p).stop k).tele.isNone then s.mcRefuse c seq 1
  else
    let (s, l, bad) := s.dramBytes 5 (s.telRecord p k) 64
    s.mcAnswer c [(msgWords l, bad)]

/-- The bytes in the ring of ANC slot `k` that hold the packets of its picked frame, oldest first, and whether a word of them is
poisoned. -/
def State.ancBytes (s : State) (k : Nat) (f : FrameRec) : State × List Byte × Bool :=
  let x := s.slot k
  let n := (f.anc.map (fun p => p.bytes.length)).foldl (· + ·) 0
  let start := x.ringAt + x.size - n % x.size
  (List.range n).foldl (fun (a : State × List Byte × Bool) i =>
    let (s, l, bad) := a.1.dramBytes 5 (x.bufs.getD 0 0 + (start + i) % x.size) 1
    (s, a.2.1 ++ l, a.2.2 || bad)) (s, [], false)

/-- The messages 0x82 for the bytes of a frame with timestamp `ts`: up to 52 of them each, and MORE in all but the last. Their OFFSET
counts from the first byte of the frame (log entry 100). -/
def ancMessages (seq k ts : Nat) (l : List Byte) (bad : Bool) : List (List Nat × Bool) :=
  let n := max 1 ((l.length + 51) / 52)
  (List.range n).map (fun j =>
    let d := (l.drop (52 * j)).take 52
    (msgWords (toBytes 4 (0x82 + 256 * seq + 65536 * k + 0x1000000 * bit (j + 1 < n)) ++ toBytes 4 ts ++ toBytes 2 (52 * j) ++
      toBytes 2 d.length ++ d), bad))

/-- ANC_GET: the packets of the picked frame of ANC slot `k`. -/
def State.ancGet (s : State) (c seq k : Nat) : State :=
  if !s.ruleBit R.RUF.R_LRD_LO.MASK R.RUF.R_LRD_HI.MASK c 12 then s.mcRefuse c seq 2
  else match (if 16 ≤ k && k < 32 then (s.slot k).picked else none) with
    | none => s.mcRefuse c seq 1
    | some f =>
      let (s, l, bad) := s.ancBytes k f
      s.mcAnswer c (ancMessages seq k f.ts l bad)

/-- The MC image serves a message that it has removed; one with a poison mark is discarded (R461). -/
def State.mcServe (s : State) (c : Nat) (m : List Nat × Bool) : State :=
  if m.2 || s.role != Role.sender || 16 ≤ c then s
  else
    let b := msgByte m.1
    if b 0 = 1 then s.telGet c (b 1) (b 2) (b 3) else if b 0 = 2 then s.ancGet c (b 1) (b 2) else s

/-- POP of side `k` (R458): the MC image serves what side B removes, and answers that have waited for room go out. -/
def State.mbxTake (s : State) (c k : Nat) : State :=
  if !s.works (B.mbx c) then s
  else if k = 1 then
    match (s.chan c).toB with
    | [] => s
    | m :: _ => (s.mbxPop c 1).mcServe c m
  else (s.mbxPop c 0).mcFlush c

/-- POP (R458). -/
def execPopMessage (c k t : Nat) (s : State) : Host.Outcome State Fault Refusal := run (fun s => (s.tick t).mbxTake c k) s

end Sys2Proof.Machine
end

