-- ==== Sys2Proof/Machine/Crypto.lean ====
section
/-!
DEFINITION. The two algorithms that an image check names (R531, R532) and the spec leaves to their standards: SHA-384
(FIPS 180-4) and the verification of an ECDSA signature over P-384 (FIPS 186-4).
-/
namespace Sys2Proof.Machine

/-- The big-endian number that a list of bytes spells. -/
def beNat (l : List Byte) : Nat := l.foldl (fun a b => a * 256 + b.toNat) 0

/-! ### SHA-384 -/

/-- The integer `k`-th root of `n`, from its bits below `b` and a first part `r`. -/
def rootBits (k n : Nat) : Nat → Nat → Nat
  | 0, r => r
  | b + 1, r => rootBits k n b (if (r + 2 ^ b) ^ k ≤ n then r + 2 ^ b else r)

/-- The first 64 fraction bits of the `k`-th root of `p`. -/
def rootFraction (k p : Nat) : Nat := rootBits k (p * 2 ^ (64 * k)) 72 0 % 2 ^ 64

/-- The first 80 primes. -/
def shaPrimes : List Nat := (List.range 410).filter (fun n => 2 ≤ n && (List.range n).all (fun d => d < 2 || n % d != 0))

/-- The 80 round constants, and the eight words that SHA-384 begins with. -/
def shaRounds : List Nat := shaPrimes.map (rootFraction 3)
def shaStart : List Nat := ((shaPrimes.drop 8).take 8).map (rootFraction 2)

/-- A word of 64 bits rotated right by `n`. -/
def rotr64 (x n : Nat) : Nat := (x / 2 ^ n + x * 2 ^ (64 - n)) % 2 ^ 64

/-- Every word of the message schedule, the last first, from the words so far. -/
def shaSchedule : Nat → List Nat → List Nat
  | 0, w => w
  | n + 1, w =>
    let a := w.getD 1 0
    let b := w.getD 14 0
    let x := rotr64 a 19 ^^^ rotr64 a 61 ^^^ (a / 2 ^ 6)
    let y := rotr64 b 1 ^^^ rotr64 b 8 ^^^ (b / 2 ^ 7)
    shaSchedule n ((x + w.getD 6 0 + y + w.getD 15 0) % 2 ^ 64 :: w)

/-- One round on the eight working words, with a word of the schedule and a round constant. -/
def shaRound (v : List Nat) (wk : Nat × Nat) : List Nat :=
  let g (i : Nat) : Nat := v.getD i 0
  let e := g 4
  let a := g 0
  let ch := (e &&& g 5) ^^^ ((2 ^ 64 - 1 - e) &&& g 6)
  let t1 := g 7 + (rotr64 e 14 ^^^ rotr64 e 18 ^^^ rotr64 e 41) + ch + wk.2 + wk.1
  let t2 := (rotr64 a 28 ^^^ rotr64 a 34 ^^^ rotr64 a 39) + ((a &&& g 1) ^^^ (a &&& g 2) ^^^ (g 1 &&& g 2))
  [(t1 + t2) % 2 ^ 64, a, g 1, g 2, (g 3 + t1) % 2 ^ 64, e, g 5, g 6]

/-- The hash words after one block of 128 bytes. -/
def shaBlock (h : List Nat) (block : List Byte) : List Nat :=
  let w := (List.range 16).map (fun i => beNat ((block.drop (8 * i)).take 8))
  let v := (List.zip (shaSchedule 64 w.reverse).reverse shaRounds).foldl shaRound h
  (List.zip h v).map (fun p => (p.1 + p.2) % 2 ^ 64)

/-- A message padded to whole blocks: a 1 bit, zeros, and its length in bits in 16 bytes. -/
def shaPad (l : List Byte) : List Byte :=
  let z := (239 - l.length % 128) % 128
  l ++ [0x80] ++ List.replicate z 0 ++ (List.range 16).map (fun i => BitVec.ofNat 8 (8 * l.length / 2 ^ (8 * (15 - i))))

/-- The SHA-384 of a message, as a number of 384 bits, the first byte highest. -/
def sha384 (l : List Byte) : Nat :=
  let m := shaPad l
  let h := (List.range (m.length / 128)).foldl (fun h i => shaBlock h ((m.drop (128 * i)).take 128)) shaStart
  (h.take 6).foldl (fun a x => a * 2 ^ 64 + x) 0

/-! ### P-384 -/

/-- The field prime, the order of the base point, the coefficient b and the base point. -/
def p384P : Nat := 2 ^ 384 - 2 ^ 128 - 2 ^ 96 + 2 ^ 32 - 1
def p384N : Nat := 0xffffffffffffffffffffffffffffffffffffffffffffffffc7634d81f4372ddf581a0db248b0a77aecec196accc52973
def p384B : Nat := 0xb3312fa7e23ee7e4988e056be3f82d19181d9c6efe8141120314088f5013875ac656398d8a2ed19d2a85c8edd3ec2aef
def p384G : Nat × Nat :=
  (0xaa87ca22be8b05378eb1c71ef320ad746e1d3b628ba79b9859f741e082542a385502f25dbf55296c3a545e3872760ab7,
   0x3617de4a96262c6f5d9e98bf9292dc29f8f41dbd289a147ce9da3113b5f0b8c00a60b1ce1d7e819d7a431d7c90ea0e5f)

/-- `a` to the power `e` modulo `m`, over the low `n` bits of `e`. -/
def powMod (m a e : Nat) : Nat → Nat
  | 0 => 1 % m
  | n + 1 => powMod m (a * a % m) (e / 2) n * (if e % 2 = 1 then a else 1) % m

/-- The inverse of `a` modulo a prime of 384 bits. -/
def invMod (m a : Nat) : Nat := powMod m (a % m) (m - 2) 384

/-- A point of the curve; none is the point at infinity. -/
abbrev CurvePoint := Option (Nat × Nat)

/-- The sum of two points. -/
def CurvePoint.add (a b : CurvePoint) : CurvePoint :=
  match a, b with
  | none, _ => b
  | _, none => a
  | some (x1, y1), some (x2, y2) =>
    let p := p384P
    if x1 = x2 && (y1 + y2) % p = 0 then none
    else
      let s := if x1 = x2 then (3 * x1 * x1 + p - 3) * invMod p (2 * y1) % p else (y2 + p - y1) * invMod p (x2 + p - x1) % p
      let x3 := (s * s + 2 * p - x1 - x2) % p
      some (x3, (s * (x1 + p - x3) + p - y1) % p)

/-- `k` times a point, over the low `n` bits of `k`. -/
def CurvePoint.mul (k : Nat) (a : CurvePoint) : Nat → CurvePoint
  | 0 => none
  | n + 1 => CurvePoint.add (CurvePoint.mul (k / 2) (a.add a) n) (if k % 2 = 1 then a else none)

/-- A pair is a point of the curve. -/
def onCurve (q : Nat × Nat) : Bool :=
  q.1 < p384P && q.2 < p384P && q.2 * q.2 % p384P == (q.1 * q.1 * q.1 + (p384P - 3) * q.1 + p384B) % p384P

/-- The signature `r`, `t` of a hash `z` verifies against the public key `q`. -/
def ecdsaOk (z r t : Nat) (q : Nat × Nat) : Bool :=
  let n := p384N
  0 < r && r < n && 0 < t && t < n && onCurve q &&
    (let w := invMod n t
     match CurvePoint.add (CurvePoint.mul (z * w % n) (some p384G) 384) (CurvePoint.mul (r * w % n) (some q) 384) with
     | some (x, _) => x % n == r
     | none => false)

/-- Whether the signature of a Sarbo header verifies (R531): over the SHA-384 of bytes 0 to 223, with the public key of bytes 64
to 160, an uncompressed point. -/
def signatureOk (h : List Byte) : Bool :=
  let f (a n : Nat) : Nat := beNat ((h.drop a).take n)
  f 64 1 == 4 && ecdsaOk (sha384 (h.take 224)) (f 224 48) (f 272 48) (f 65 48, f 113 48)

end Sys2Proof.Machine
end

