-- ==== Sys2Proof/Machine/Link.lean ====
section
/-!
DEFINITION. Tybel links (chapter 8): training, lock, capability exchange, reduced width, and a link that goes down.
-/
namespace Sys2Proof.Machine

/-! ### Lanes -/

/-- The lanes in service that a set of working lanes gives under a MAX_WIDTH code (R214). -/
def serviceOf (max : Nat) (l : List Nat) : List Nat :=
  let w := if 4 ≤ l.length then 4 else if 2 ≤ l.length then 2 else l.length
  l.take (min w (if max = 1 then 2 else if max = 2 then 1 else 4))

/-- The port's link delay becomes invalid (R100). -/
def State.ldInvalid (s : State) (p : Nat) : State :=
  let valid := ((s.tim.ldSamples.getD p []).length == 16)
  let clear {α : Type} (l : List α) (d : α) : List α := l.mapIdx (fun i x => if i = p then d else x)
  let s := { s with tim := { s.tim with ldSamples := clear s.tim.ldSamples [], ldOpen := clear s.tim.ldOpen none } }
  s.evIf valid B.tim Ev.TIM.LD_INVALID

/-- Show the lanes in service: IN_SERVICE, WIDTH, TIMING_LANE and the logical lane numbers. -/
def State.setService (s : State) (p : Nat) (l : List Nat) : State :=
  let s := (s.set (R.LNK.PORT_STAT.IN_SERVICE p) (laneSet l)).set (R.LNK.PORT_STAT.WIDTH p) (widthCode l.length)
  let s := s.set (R.LNK.PORT_STAT.TIMING_LANE p) (l.headD 0)
  s.forN 4 (fun s k => s.set (R.LNL.LANE_STAT.LOGICAL (physLane p k)) (((List.range 4).find? (fun i => l[i]? == some k)).getD 0))

/-- A lane becomes IN_SERVICE or SPARE: LANE_UP when it was neither (Table 8-21). -/
def State.laneUp (s : State) (l : Nat) (inServ : Bool) : State :=
  let was := s.laneState l
  let s := s.setLaneState l (if inServ then LaneS.inService else LaneS.spare)
  s.evIf (was != LaneS.inService && was != LaneS.spare) (B.lnl l) Ev.LNL.LANE_UP

/-- The states of working lanes follow the lanes in service. -/
def State.placeLanes (s : State) (p : Nat) : State :=
  (s.working p).foldl (fun s k => s.laneUp (physLane p k) ((s.inService p).contains k)) s

/-- A lane that leaves service, or starts anew, keeps of its training only what is stored, and precodes no more (R217). -/
def State.laneAnew (s : State) (l : Nat) : State :=
  let x := s.lane l
  ((s.set (R.LNL.LANE_STAT.PRE_TX l) 0).set (R.LNL.LANE_STAT.PRE_RX l) 0).setLane l
    { lastPre := x.lastPre, pat := x.pat, patAt := x.patAt, ser := x.ser }

/-- Both ends of a lane have sent FIXED (R229). -/
def LaneSt.bothFixed (x : LaneSt) : Bool := x.fixed && x.fixedRun != 0

/-- The precoding flags with which a lane enters service: the fixed ones where both ends are fixed, else those stored when it trained
(R217, R229). -/
def State.usePre (s : State) (l : Nat) : State :=
  let fx := (s.lane l).bothFixed && s.on (R.LNL.LANE_CTRL.FIX_EN l)
  let (a, b) := if fx then (s.get (R.LNL.LANE_CTRL.FIX_PRE_TX l), s.get (R.LNL.LANE_CTRL.FIX_PRE_RX l)) else (s.lane l).lastPre
  (s.set (R.LNL.LANE_STAT.PRE_TX l) a).set (R.LNL.LANE_STAT.PRE_RX l) b

/-- TRAIN_US: the training of a lane has ended, well or not (Table 8-19). -/
def State.trainOver (s : State) (l : Nat) : State := s.set (R.LNL.TRAIN_US.US l) ((s.frc - (s.lane l).since) / 1500)

/-- Mark port lane `k` FAILED with a reason (Table 8-20): LAST_VALID clears, and the change is reported (R230, R252). -/
def State.failLane (s : State) (p k reason : Nat) : State :=
  let l := physLane p k
  if s.laneState l = LaneS.failed then s.set (R.LNL.LANE_STAT.REASON l) reason
  else
    let s := if s.laneState l = LaneS.train || s.laneState l = LaneS.retrain then s.trainOver l else s
    let s := (s.setLaneState l LaneS.failed).set (R.LNL.LANE_STAT.REASON l) reason
    let s := (s.laneAnew l).set (R.LNL.LANE_STAT.LAST_VALID l) 0
    let s := s.set (R.LNK.PORT_STAT.FAILED p) (s.get (R.LNK.PORT_STAT.FAILED p) ||| 2 ^ k)
    let s := s.set (R.LNK.PORT_STAT.WORKING p) (s.get (R.LNK.PORT_STAT.WORKING p) &&& (15 - 2 ^ k))
    (s.ev (B.lnl l) Ev.LNL.LANE_FAILED).reportLink p 5

/-- The lanes that take part in the bring-up of a port: not FAILED, and not cleared by a RETRY since it began (R250). -/
def State.candidates (s : State) (p : Nat) : List Nat :=
  (List.range 4).filter (fun k => s.laneState (physLane p k) != LaneS.failed && s.laneState (physLane p k) != LaneS.off)

/-! ### Taps (Table 8-6, R225) -/

/-- The taps c(-2) to c(+2) of a lane. -/
def State.txTaps (s : State) (l : Nat) : List Int :=
  [s.getI (R.LNL.TX_TAPS.CM2 l), s.getI (R.LNL.TX_TAPS.CM1 l), (s.get (R.LNL.TX_TAPS.C0 l) : Int),
   s.getI (R.LNL.TX_TAPS.CP1 l), s.getI (R.LNL.TX_TAPS.CP2 l)]

/-- Set the taps of a lane. -/
def State.setTxTaps (s : State) (l : Nat) (t : List Int) : State :=
  let s := (s.setI (R.LNL.TX_TAPS.CM2 l) (t.getD 0 0)).setI (R.LNL.TX_TAPS.CM1 l) (t.getD 1 0)
  let s := (s.setI (R.LNL.TX_TAPS.C0 l) (t.getD 2 0)).setI (R.LNL.TX_TAPS.CP1 l) (t.getD 3 0)
  s.setI (R.LNL.TX_TAPS.CP2 l) (t.getD 4 0)

/-- The taps that a word in the layout of TX_TAPS spells, and back. -/
def tapsOf (w : Nat) : List Int :=
  [sgn 6 (bitsOf w 0 6), sgn 6 (bitsOf w 6 6), (bitsOf w 12 7 : Nat), sgn 6 (bitsOf w 19 6), sgn 6 (bitsOf w 25 6)]
def tapsWord (t : List Int) : Nat :=
  uns 6 (t.getD 0 0) + 2 ^ 6 * uns 6 (t.getD 1 0) + 2 ^ 12 * uns 7 (t.getD 2 0) + 2 ^ 19 * uns 6 (t.getD 3 0) +
    2 ^ 25 * uns 6 (t.getD 4 0)

/-- Preset 1, 2 or 3. -/
def preset (n : Nat) : List Int :=
  if n = 1 then [0, 0, 64, 0, 0] else if n = 2 then [0, -6, 50, -8, 0] else [2, -8, 42, -12, 0]

/-- The range of tap `i`. -/
def tapRange (i : Nat) : Int × Int := [((0, 6) : Int × Int), (-16, 0), (32, 64), (-20, 0), (-6, 6)].getD i (0, 0)

/-- Whether taps lie in their ranges with magnitudes that sum to at most 64. -/
def tapsOk (t : List Int) : Bool :=
  (List.range 5).all (fun i => (tapRange i).1 ≤ t.getD i 0 && t.getD i 0 ≤ (tapRange i).2) &&
  (t.map (·.natAbs)).foldl (· + ·) 0 ≤ 64

/-- Apply the requests of a control field tap by tap: the new taps and the status bits [9:0]. -/
def applyTaps (t : List Int) (ctl : Nat) : List Int × Nat :=
  (List.range 5).foldl (fun (a : List Int × Nat) i =>
    let r := bitsOf ctl (2 * i) 2
    let d : Int := if r = 1 then 1 else if r = 2 then -1 else 0
    if d = 0 then a
    else
      let t' := a.1.mapIdx (fun j x => if j = i then x + d else x)
      if tapsOk t' then (t', a.2 + 2 ^ (2 * i)) else (a.1, a.2 + 2 * 2 ^ (2 * i))) (t, 0)

/-! ### Stages -/

/-- A lane runs on fixed or relock settings (R229, R230). -/
def State.laneFixed (s : State) (l : Nat) : Bool :=
  s.on (R.LNL.LANE_CTRL.FIX_EN l) ||
  (s.on (R.LNK.PORT_CTRL.RELOCK_EN (lanePort l)) && !s.on R.FWU.FWU_STAT.SAFE && (s.port (lanePort l)).relock && s.on (R.LNL.LANE_STAT.LAST_VALID l))

/-- The stored taps that a fixed or relock lane starts from. -/
def State.storedTaps (s : State) (l : Nat) : List Int :=
  if s.on (R.LNL.LANE_CTRL.FIX_EN l) then tapsOf (s.get (R.LNL.FIX_TX_TAPS.TAPS l)) else tapsOf (s.get (R.LNL.LAST_TX_TAPS.TAPS l))

/-- The fields a lane sends in DETECT: FIXED and its port lane, P2 in use where it is not fixed. -/
def detectWord (fixed : Bool) (k : Nat) : Nat := 2 ^ 14 * bit fixed + 2 ^ 15 * k

/-- The training frames that a lane has sent since its fields last changed: one lasts 8,192 symbols of 26.5625 GBd. -/
def framesSince (s : State) (x : LaneSt) : Nat := max 1 ((s.frc - x.patAt) * 265625 / 122880000)

/-- A lane sends its training fields: the first frame that carries them (R224). Further frames repeat the fields, with the pattern
running on. -/
def State.sendTraining (s : State) (l : Nat) : State :=
  let x := s.lane l
  let st := if x.pat = 0 then trainSeed (laneIdx l) else prbs13Skip (framesSince s x * 15488) x.pat
  ((s.emit (.training l x.ctl x.sta)).emit (.symbols l 8192 (trainingLevels x.ctl x.sta st))).setLane l { x with pat := st, patAt := s.frc }

/-- The highest level that a port offers; in safe mode 1 (R535). -/
def State.levelMax (s : State) (p : Nat) : Nat := if s.on R.FWU.FWU_STAT.SAFE then 1 else s.get (R.LNK.PORT_CTRL.LEVEL_MAX p)

/-- The port enters DETECT: a new bring-up (Table 8-3). A retired lane stays FAILED. -/
def State.toDetect (s : State) (p : Nat) : State :=
  let s := s.setStage p Stage.detect
  let old := s.port p
  let s := s.setPort p { relock := old.relock, maxWidth := s.get (R.LNK.PORT_CTRL.MAX_WIDTH p) }
  let s := ((s.set (R.LNK.PORT_STAT.WORKING p) 0).set (R.LNK.PORT_STAT.FAILED p) 0).setService p []
  let s := ((s.set (R.LNK.CAPX_STAT.LEVEL p) 0).set (R.LNK.CAPX_STAT.FEATURES p) 0).set (R.LNK.CAPX_STAT.DISABLED p) 0
  s.forN 4 (fun s k =>
    let l := physLane p k
    if s.on (R.LNL.LANE_CTRL.RETIRE l) then
      let s := s.failLane p k 6
      s.set (R.LNK.PORT_STAT.FAILED p) (s.get (R.LNK.PORT_STAT.FAILED p) ||| 2 ^ k)
    else
      let fx := s.laneFixed l
      let s := (s.setLaneState l LaneS.detect).set (R.LNL.LANE_STAT.REASON l) 0
      let s := s.setTxTaps l (if fx then s.storedTaps l else preset 2)
      let w := detectWord fx k
      let s := s.laneAnew l
      (s.setLane l { s.lane l with ctl := w, sta := w + (if fx then 0 else 2 ^ 11), fixed := fx }).sendTraining l)

/-- A port's stage may change other than into DOWN, which a freeze does not hold back (R259). -/
def State.lnkMoves (s : State) (p : Nat) : Bool := s.works (B.lnk p) && !s.hkt.shutdown && !s.tim.onInt

/-- The port goes to DOWN for NO_LANE, MASK_DISAGREE or CAPX_TIMEOUT: it waits for RETRY_INT. -/
def State.bringupFails (s : State) (p code source : Nat) : State :=
  let s := ((s.setStage p Stage.down).setPort p { s.port p with waits := true }).err (B.lnk p) code source 0
  s.evIf (code == 0x13) (B.lnk p) Ev.LNK.NO_LANE

/-- Both ports of a tile are down: a session on the line ends (R549). -/
def State.sessionLost (s : State) : State :=
  if s.role == .tile && !s.portActive 0 && !s.portActive 1 && s.line.svcIn.isSome then s.endSession true else s

/-- What a link that goes down takes with it, on the line it carries (R258, R269, R280, R481). -/
def State.lineLost (s : State) (p : Nat) : State :=
  let s := (s.ldInvalid p).streamLost p
  match s.role with
  | .sender =>
    let s := (s.setN p 0).enumAbandon p
    s.showLine p
  | .tile =>
    let s := { s with line := { s.line with held := s.line.held.map (fun (h : HeldReq) => if h.port = p then { h with drop := true } else h) } }
    s.sessionLost

/-- The port leaves its stage for `st`, DOWN or DISABLED (R257, R258): what its two directions hold is discarded. -/
def State.portLeaves (s : State) (p st : Nat) : State :=
  if s.stage p = Stage.disabled then s
  else
    let up := s.portActive p
    let s := s.setStage p st
    let x := s.port p
    let s := s.setPort p { relock := x.relock, maxWidth := x.maxWidth, levelDown := x.levelDown, peerFn := x.peerFn }
    let s := (s.inService p).foldl (fun s k => s.laneAnew (physLane p k)) s
    let s := (s.setService p []).set (R.LNK.PORT_STAT.WORKING p) 0
    if up then
      let s := (s.lnkCount p (R.LNK.DOWN_CNT.COUNT p) 1).ev (B.lnk p) Ev.LNK.LINK_DOWN
      (s.reportLink p 2).lineLost p
    else s

/-- The port goes down and stays in DOWN. -/
def State.portDown (s : State) (p : Nat) : State := s.portLeaves p Stage.down

/-- The link goes down and bring-up begins again at once (Table 8-3). -/
def State.linkDown (s : State) (p : Nat) : State :=
  let s := s.portDown p
  if s.stage p != Stage.disabled && s.lnkMoves p then s.toDetect p else s

/-- The page is enabled: bring-up starts (R222). -/
def State.portEnable (s : State) (p : Nat) : State :=
  if s.stage p = Stage.disabled && !s.frozen (B.lnk p) then s.toDetect p else s

/-- PG_CTRL.EN is written 0. -/
def State.portDisable (s : State) (p : Nat) : State :=
  let s := s.portLeaves p Stage.disabled
  s.forN 4 (fun s k => s.setLaneState (physLane p k) LaneS.off)

/-- The lanes that LOCK puts in service. -/
def State.lockSet (s : State) (p : Nat) : List Nat :=
  serviceOf (s.port p).maxWidth ((s.candidates p).filter (bitAt (s.port p).mask))

/-- The count at which a receiver of a lane looks for an alignment-marker slot, and discards what comes before it. -/
def rxHunt : Nat := 16385

/-- The receivers of the lanes in service look for an alignment-marker slot, with no group begun. -/
def State.rxStart (s : State) (p : Nat) : State :=
  (s.inService p).foldl (fun s k =>
    s.setLane (physLane p k) { s.lane (physLane p k) with rxCount := rxHunt, rxAm := none, rxFlits := [], unc := [] }) s

/-- The port enters, or restarts, LOCK (R232): groups start at SEQ 0 (R236), and both precoders at 0 (R217). With no lane left to lock it goes to DOWN, and to DETECT at
once (Table 8-3). -/
def State.toLock (s : State) (p : Nat) : State :=
  let s := s.setStage p Stage.lock
  let x := s.port p
  let s := s.setPort p {
    since := x.since, relock := x.relock, mask := x.mask, cut := x.cut, maxWidth := x.maxWidth, levelDown := x.levelDown
    peerFn := x.peerFn }
  let s := (s.candidates p).foldl (fun s k =>
    let s := s.setLaneState (physLane p k) LaneS.lock
    if (s.lane (physLane p k)).bothFixed then s.usePre (physLane p k) else s) s
  let l := s.lockSet p
  if l = [] then s.linkDown p else ((s.setService p l).txStart p).rxStart p

/-- LOCK ends: the port moves to CAPX with the lanes that have locked, and with those that have trained and were not in service. The
streams of LOCK go on; where the lanes in service change, they go on behind an AM slot on the new ones. -/
def State.toCapx (s : State) (p : Nat) : State :=
  let was := s.inService p
  let s := s.setStage p Stage.capx
  let x := s.port p
  let trained := s.working p
  let spare := trained.filter (fun k => !(s.inService p).contains k)
  let s := s.set (R.LNK.PORT_STAT.WORKING p) (laneSet ((s.candidates p).filter (fun k => x.locked.contains k || spare.contains k)))
  let s := s.setService p (serviceOf x.maxWidth ((s.working p).filter (fun k => bitAt x.mask k && x.locked.contains k)))
  let s := s.placeLanes p
  if s.inService p = was then s else ((s.setPort p { s.port p with acc := [] }).sendAm p 3).rxStart p

/-- The port enters ACTIVE (R233). -/
def State.toActive (s : State) (p : Nat) : State :=
  let s := s.setStage p Stage.active
  let us := match (s.port p).since with | some a => (s.frc - a) / 1500 | none => 0
  let s := (s.set (R.LNK.BRINGUP_US.US p) us).ev (B.lnk p) Ev.LNK.LINK_UP
  let s := s.evIf ((s.inService p).length < 4 && (s.working p).length < 4) (B.lnk p) Ev.LNK.WIDTH_CHANGE
  let s := ((s.ldInvalid p).reportLink p 1).showLine p
  s.enumStart p

/-- An end enters ACTIVE when SEEN has gone both ways. -/
def State.tryActive (s : State) (p : Nat) : State :=
  let x := s.port p
  if s.stage p = Stage.capx && x.seenSent && s.lnkMoves p && (match x.peer with | some m => m.seen | none => false) then s.toActive p else s

/-! ### Training -/

/-- Every lane that trains has left TRAIN: LOCK, or NO_LANE (R227, R228). -/
def State.trainEnds (s : State) (p : Nat) : State :=
  if s.stage p != Stage.train || (List.range 4).any (fun k => s.laneState (physLane p k) == LaneS.train) then s
  else if s.candidates p = [] then s.bringupFails p 0x13 0
  else if s.lnkMoves p then s.toLock p
  else s

/-- A lane starts training (R225): from P2, or from its stored taps when only this end is fixed. -/
def State.startTraining (s : State) (l st : Nat) : State :=
  let k := laneIdx l
  let fx := (s.lane l).fixed
  let s := s.setLaneState l st
  let s := s.setTxTaps l (if fx then s.storedTaps l else preset 2)
  let w := detectWord fx k
  let run := (s.lane l).run
  let s := s.laneAnew l
  (s.setLane l { s.lane l with run := run, ctl := w, sta := w + (if fx then 0 else 2 ^ 11), fixed := fx, since := s.frc }).sendTraining l

/-- FIX_EN of a lane is written with another value: what the lane sends in DETECT or training follows (R229). -/
def State.fixChanged (s : State) (l : Nat) : State :=
  let st := s.laneState l
  let x := s.lane l
  let fx := s.laneFixed l
  if (st != LaneS.detect && st != LaneS.train && st != LaneS.retrain) || fx = x.fixed then s
  else
    let s := if fx then s.setTxTaps l (s.storedTaps l) else if st = LaneS.detect then s.setTxTaps l (preset 2) else s
    let mark (w : Nat) : Nat := if fx then w + 2 ^ 14 else w - 2 ^ 14
    let inUse := if fx then 0 else if st = LaneS.detect then 2 else bitsOf x.sta 10 2
    (s.setLane l { x with
      fixed := fx, ctl := mark x.ctl, sta := mark x.sta + 2 ^ 10 * inUse - 2 ^ 10 * bitsOf x.sta 10 2 }).sendTraining l

/-- DETECT ends once some lane has had eight valid frames in a row (Table 8-3). -/
def State.detectEnds (s : State) (p : Nat) : State :=
  let seen := (List.range 4).filter (fun k => 8 ≤ (s.lane (physLane p k)).run)
  if s.stage p != Stage.detect || seen = [] || !s.lnkMoves p then s
  else if seen.all (fun k => (s.lane (physLane p k)).fixed && 8 ≤ (s.lane (physLane p k)).fixedRun) then s.toLock p
  else
    let s := s.setStage p Stage.train
    (s.candidates p).foldl (fun s k => s.startTraining (physLane p k) LaneS.train) s

/-- A lane has trained (R227): its settings and precoding state are stored; the receive settings found are a free value in the layout
of FIX_RX. -/
def State.laneTrained (s : State) (l : Nat) : State :=
  let s := s.trainOver l
  let s := (s.set (R.LNL.LAST_TX_TAPS.TAPS l) (tapsWord (s.txTaps l))).set (R.LNL.LAST_RX.RX l) (Config.choice s.fresh &&& 0x11F1F)
  let s := s.setLane l { s.lane l with lastPre := (s.get (R.LNL.LANE_STAT.PRE_TX l), s.get (R.LNL.LANE_STAT.PRE_RX l)) }
  (s.draw).set (R.LNL.LANE_STAT.LAST_VALID l) 1

/-- READY or GIVE_UP have gone both ways. -/
def State.laneLeaves (s : State) (l : Nat) : State :=
  let x := s.lane l
  let p := lanePort l
  let k := laneIdx l
  let own := bitAt x.ctl 13 || bitAt x.ctl 17
  if s.laneState l != LaneS.train || !own || !(x.peerReady || x.peerGiveUp) then s
  else if bitAt x.ctl 17 || x.peerGiveUp then
    (s.failLane p k 1).trainEnds p
  else
    let s := (if x.bothFixed then s.usePre l else s.laneTrained l).setLaneState l LaneS.lock
    (s.set (R.LNK.PORT_STAT.WORKING p) (s.get (R.LNK.PORT_STAT.WORKING p) ||| 2 ^ k)).trainEnds p

/-- The transmitter applies a control field (R225): a request that the receiver holds over several frames is applied once. -/
def State.applyControl (s : State) (l ctl : Nat) : State :=
  let x := s.lane l
  let ask := bitsOf ctl 0 12
  let pr := bitsOf ctl 10 2
  let pre := bitAt ctl 12 && s.on (R.LNL.LANE_CTRL.PRECODE_ALLOW l)
  let s := s.set (R.LNL.LANE_STAT.PRE_TX l) (bit pre)
  let (t, st) :=
    if ask = x.req then (s.txTaps l, bitsOf x.sta 0 10)
    else if pr = 0 then applyTaps (s.txTaps l) ctl
    else (preset pr, 0x155)
  let inUse := if pr = 0 then bitsOf x.sta 10 2 else pr
  let s := s.setTxTaps l t
  s.setLane l { x with
    req := ask, sta := st + 2 ^ 10 * inUse + 2 ^ 12 * bit pre + 2 ^ 14 * bit x.fixed + 2 ^ 15 * laneIdx l
    peerReady := bitAt ctl 13, peerGiveUp := bitAt ctl 17 }

/-- A count of symbol errors over 2^24 pattern symbols shows a working setting (R226). -/
def State.settingWorks (s : State) (l : Nat) (errors : Option Nat) : Bool :=
  match errors with
  | some n => n * 10 ^ clampN 4 7 (s.get (R.LNL.TRAIN_CFG.SER_EXP l)) ≤ 2 ^ 24
  | none => false

/-- The receiver acts on a status field: its next request `req` (bits [12:0] of the control field) goes out once the status of the
previous one has come back, with HOLD before one that repeats it. -/
def State.applyStatus (s : State) (l sta req : Nat) (ready : Bool) : State :=
  let x := s.lane l
  let s := s.set (R.LNL.LANE_STAT.PRE_RX l) (bit (bitAt sta 12 && bitAt x.ctl 12))
  let base := 2 ^ 14 * bit x.fixed + 2 ^ 15 * laneIdx l
  let asked := bitsOf x.ctl 0 12
  let back := !x.waiting || (if asked = 0 then bitsOf sta 0 10 == 0 else bitsOf sta 0 10 != 0)
  let next := if asked = bitsOf req 0 12 then bitsOf req 12 1 * 2 ^ 12 else req % 2 ^ 13
  let x :=
    if bitAt x.ctl 17 then x
    else if ready || (x.bothFixed && s.laneState l != LaneS.retrain) then
      { x with ctl := 2 ^ 13 + base + 2 ^ 12 * bitsOf x.ctl 12 1, waiting := false }
    else if back then { x with ctl := next + base, waiting := bitsOf next 0 12 != asked }
    else x
  s.setLane l x

/-- TRAINING_FRAME: the fields received on lane `l`, whether the frame is valid, whether the levels come mirrored, what
the receiver wants next, and the symbol errors of a count over 2^24 pattern symbols that ends with it. -/
def State.trainingFrame (s : State) (l ctl sta : Nat) (valid inverted : Bool) (req : Nat) (errors : Option Nat) : State :=
  if l < 8 || 16 ≤ l then s
  else
    let p := lanePort l
    let k := laneIdx l
    let st := s.laneState l
    let x := s.lane l
    if st != LaneS.detect && st != LaneS.train && st != LaneS.retrain then s
    else if !valid then s.setLane l { x with run := 0, fixedRun := 0 }
    else if bitsOf ctl 15 2 != k then
      if st = LaneS.retrain then s.failLane p k 4 else ((s.failLane p k 4).trainEnds p).detectEnds p
    else
      let s := s.set (R.LNL.LANE_STAT.RX_INVERTED l) (bit inverted)
      let fx := bitAt ctl 14 && bitAt sta 14
      let s := s.setLane l { x with run := min 8 (x.run + 1), fixedRun := if fx then min 8 (x.fixedRun + 1) else 0 }
      let s := if (s.port p).since.isNone then s.setPort p { s.port p with since := some s.frc } else s
      if st = LaneS.detect then s.detectEnds p
      else
        let s := (s.applyControl l ctl).applyStatus l sta req (s.settingWorks l errors)
        let s := if (s.lane l).ctl != x.ctl || (s.lane l).sta != x.sta then s.sendTraining l else s
        s.laneLeaves l

/-- TRAIN_TIMEOUT (R227). -/
def State.trainTimeout (s : State) (l : Nat) : State :=
  if s.laneState l = LaneS.train then ((s.failLane (lanePort l) (laneIdx l) 2).trainEnds (lanePort l)) else s

/-- TRAIN_GIVE_UP (R226): TRAIN_CFG.TMO has passed since training began, and no working setting has been found. -/
def State.giveUp (s : State) (l : Nat) : State :=
  let x := s.lane l
  let due := clampN 10 55 (s.get (R.LNL.TRAIN_CFG.TMO l)) * 1500000 ≤ s.frc - x.since
  if due && !bitAt x.ctl 13 && (s.laneState l = LaneS.train || s.laneState l = LaneS.retrain) then
    ((s.setLane l { x with ctl := 2 ^ 17 + 2 ^ 14 * bit x.fixed + 2 ^ 15 * laneIdx l }).sendTraining l).laneLeaves l
  else s

/-! ### Lock -/

/-- LOCK ends early only when every lane in service has locked (R232). -/
def State.lockCheck (s : State) (p : Nat) : State :=
  if s.stage p = Stage.lock && s.inService p != [] && (s.inService p).all (fun k => (s.port p).locked.contains k) && s.lnkMoves p
  then s.toCapx p else s

/-- A lane fails in LOCK: LOCK restarts when the lanes in service change. -/
def State.lockFail (s : State) (p k reason : Nat) : State :=
  let was := s.inService p
  let s := s.failLane p k reason
  if s.lockSet p = was then s.lockCheck p else if s.lnkMoves p || s.lockSet p = [] then s.toLock p else s

/-- SKEW of a lane, at most what its field can show (R221). -/
def State.showLaneSkew (s : State) (l : Nat) (skew : Int) : State := s.setI (R.LNL.SKEW.PS l) (max (-32768) (min 32767 skew))

/-- LOCK_END: 1 ms has passed in LOCK (R231, R232). -/
def State.lockEnd (s : State) (p : Nat) : State :=
  let x := s.port p
  let late := (s.inService p).filter (fun k => !x.locked.contains k)
  let back := late.filter (fun k => (s.lane (physLane p k)).fixed)
  let falls := back == [] && !(s.candidates p).any (fun k => x.locked.contains k)
  if s.stage p != Stage.lock || !(s.lnkMoves p || falls) then s
  else
    let s := (late.filter (fun k => !back.contains k)).foldl (fun s k => s.failLane p k 5) s
    if back != [] then
      let s := s.setStage p Stage.train
      back.foldl (fun s k =>
        let l := physLane p k
        let s := (s.set (R.LNL.LANE_STAT.LAST_VALID l) 0).ev (B.lnl l) Ev.LNL.FIX_FALLBACK
        (s.setLane l { s.lane l with fixed := false }).startTraining l LaneS.train) s
    else if (s.candidates p).any (fun k => x.locked.contains k) then s.toCapx p
    else s.linkDown p

/-! ### Capability exchange -/

/-- The lanes an end has locked, as RX_GOOD. -/
def State.rxGood (s : State) (p : Nat) : Nat := laneSet (s.port p).locked

/-- CAPX_SEND (R233). -/
def State.capxSend (s : State) (p : Nat) : State :=
  if s.stage p != Stage.capx then s
  else
    let x := s.port p
    let m : CapxMsg := {
      fn := s.portFn p, level := s.levelMax p, features := 3, rxGood := s.rxGood p
      seen := x.peer.isSome, typeId := s.get R.IDN.IDN_TYPE.TYPE_ID, stepping := s.get R.IDN.IDN_TYPE.STEPPING
      serial := s.get (R.IDN.SERIAL.V 0) + 2 ^ 32 * s.get (R.IDN.SERIAL.V 1) + 2 ^ 64 * s.get (R.IDN.SERIAL.V 2) }
    let s := (s.queueMsg p (.capx m)).forN 2 (fun s _ => s.txGroup p)
    (s.setPort p { s.port p with seenSent := x.seenSent || x.peer.isSome }).tryActive p

/-- A pairing of PORT_FN values is valid (Table 8-8). -/
def pairOk (a b : Nat) : Bool :=
  let tile (f : Nat) : Bool := bitAt f 2
  if tile a && tile b then a != b else tile a != tile b

/-- The lanes in service that the agreed mask gives (R233). -/
def State.agreed (s : State) (p : Nat) (m : CapxMsg) : List Nat :=
  serviceOf (s.port p).maxWidth ((s.working p).filter (bitAt (s.rxGood p &&& m.rxGood)))

/-- CAPX (R233, R234). Of what it brings about, a freeze lets MASK_DISAGREE pass, which leads to DOWN (R259). -/
def State.capx (s : State) (p : Nat) (m : CapxMsg) : State :=
  let falls := pairOk (s.portFn p) (m.fn % 8) && (s.port p).cut && s.agreed p m != s.inService p
  if s.stage p != Stage.capx || !(s.lnkMoves p || falls) then s
  else
    let own := s.levelMax p
    let level := min own m.level
    let feat := if 2 ≤ level then 3 &&& m.features else 0
    let s := ((s.set (R.LNK.CAPX_STAT.PEER_FN p) m.fn).set (R.LNK.CAPX_STAT.PEER_LEVEL_MAX p) m.level)
    let s := (s.set (R.LNK.PEER_ID.TYPE_ID p) m.typeId).set (R.LNK.PEER_ID.STEPPING p) m.stepping
    if !pairOk (s.portFn p) (m.fn % 8) then
      (((s.setStage p Stage.held).setPort p { s.port p with waits := true }).err (B.lnk p) 0x10 m.fn 0).ev (B.lnk p) Ev.LNK.MISWIRED
    else
      let s := ((s.set (R.LNK.CAPX_STAT.LEVEL p) level).set (R.LNK.CAPX_STAT.FEATURES p) feat).set (R.LNK.CAPX_STAT.DISABLED p) (3 - feat)
      let x := s.port p
      let s := s.evIf (level < own && !x.levelDown) (B.lnk p) Ev.LNK.LEVEL_DOWN
      let s := s.setPort p { x with levelDown := x.levelDown || level < own, relock := bitAt feat 1 }
      let mask := s.rxGood p &&& m.rxGood
      if s.agreed p m = s.inService p then
        (s.setPort p { s.port p with peer := some m, peerFn := some (m.fn % 8) }).tryActive p
      else if x.cut then s.bringupFails p 0x14 (mask % 16)
      else (s.setPort p { s.port p with mask := mask % 16, cut := true }).toLock p

/-- CAPX_TIMEOUT (Table 8-3). -/
def State.capxTimeout (s : State) (p : Nat) : State :=
  if s.stage p = Stage.capx then s.bringupFails p 0x11 0 else s

/-- RETRY_INTERVAL (Table 8-3). -/
def State.retryInterval (s : State) (p : Nat) : State :=
  if (s.stage p = Stage.down || s.stage p = Stage.held) && (s.port p).waits && s.lnkMoves p then s.toDetect p else s

/-! ### Width changes (R249, R250) -/

/-- LIVE_WIDTH was agreed. -/
def State.liveWidth (s : State) (p : Nat) : Bool := bitAt (s.get (R.LNK.CAPX_STAT.FEATURES p)) 0

/-- Replay every unacknowledged group from `from_` on (R244), and with them the group that is announced, which leaves in between. -/
def State.replayFrom (s : State) (p from_ : Nat) : State :=
  let x := s.port p
  let isOld (g : SentGroup) : Bool := (g.seq + 4096 - from_ % 4096) % 4096 < 2048
  let l := x.sent.filter isOld
  if l = [] then s
  else
    let ann : List SentGroup := if x.nextG.seq.isSome || x.nextG.stomped then []
      else [{ seq := x.txSeq, codes := x.nextG.again.map (·.1), flits := x.nextG.again.map (·.2) }]
    let again := l ++ ann
    let s := s.setPort p { x with
      sent := x.sent.map (fun g => if isOld g then { g with replays := g.replays + 1, last := s.frc } else g)
      credit := x.credit - (again.length : Int) * groupTime (s.inService p).length }
    let s := s.lnkCount p (R.LNK.REPLAY_CNT.COUNT p) 1
    again.foldl (fun s g => s.txSend p
      { seq := some g.seq, codes := g.codes, flits := g.flits, again := g.codes.zip g.flits }) s

/-- The lanes in service change in ACTIVE: the precoding of each follows, and its receiver looks for the slot of the peer (R249). -/
def State.moveLanes (s : State) (p : Nat) (was now : List Nat) : State :=
  let s := (was.filter (fun k => !now.contains k)).foldl (fun s k =>
    (s.set (R.LNL.LANE_STAT.PRE_TX (physLane p k)) 0).set (R.LNL.LANE_STAT.PRE_RX (physLane p k)) 0) s
  let s := (now.filter (fun k => !was.contains k)).foldl (fun s k =>
    let s := s.usePre (physLane p k)
    s.setLane (physLane p k) { s.lane (physLane p k) with txY := 0, rxY := 0 }) s
  now.foldl (fun s k => s.setLane (physLane p k) { s.lane (physLane p k) with rxFlits := [], rxAm := none, rxCount := rxHunt }) s

/-- WREQ has gone both ways: the lanes in service follow from the AND of both masks (R249); with none the link goes down (R257). -/
def State.widthSwitch (s : State) (p : Nat) : State :=
  let x := s.port p
  match x.wTx, x.wRx with
  | some a, some b =>
    let was := s.inService p
    let now := serviceOf x.maxWidth (lanesOf (a &&& b))
    let s := s.setPort p { x with wTx := none, wRx := none, acc := [] }
    if now = [] then s.linkDown p
    else
      let s := ((s.setService p now).placeLanes p).moveLanes p was now
      let s := s.sendAm p 3
      let s := if was.length = now.length && was.head? = now.head? then s else s.ldInvalid p
      let s := match x.sent with | g :: _ => s.replayFrom p g.seq | [] => s
      if was.length = now.length then s
      else
        let s := ((s.lnkCount p (R.LNK.WIDTH_CNT.COUNT p) 1).ev (B.lnk p) Ev.LNK.WIDTH_CHANGE).showLine p
        s.reportLink p (if now.length < was.length then 3 else 4)
  | _, _ => s

/-- This end asks for a width change, or answers one, in its next header. -/
def State.startWidth (s : State) (p : Nat) : State :=
  ((s.setPort p { s.port p with wTx := some (laneSet (s.wmask p)) }).txGroup p).widthSwitch p

/-- A lane leaves service in ACTIVE, to state `st` with a reason for FAILED: the port narrows or goes down (R249, R257, R259). At agreed
level 1 a fault takes the link down even where the lane is SPARE (R251). -/
def State.laneOut (s : State) (l st reason : Nat) (fault : Bool) : State :=
  let p := lanePort l
  let k := laneIdx l
  let served := (s.inService p).contains k
  let low := fault && s.get (R.LNK.CAPX_STAT.LEVEL p) == 1
  let s := if st = LaneS.failed then s.failLane p k reason
    else (s.setLaneState l st).set (R.LNK.PORT_STAT.WORKING p) (s.get (R.LNK.PORT_STAT.WORKING p) &&& (15 - 2 ^ k))
  if !served then (if low then s.linkDown p else s)
  else if s.frozen (B.lnk p) || !s.liveWidth p || s.working p = [] then s.linkDown p
  else s.startWidth p

/-- Background training of a lane starts (R250); a lane with FIX_EN = 1 sends FIXED in it (R229). -/
def State.retrain (s : State) (l : Nat) : State :=
  let s := s.laneAnew l
  (s.setLane l { s.lane l with fixed := s.on (R.LNL.LANE_CTRL.FIX_EN l) }).startTraining l LaneS.retrain

/-- LANE_FAULT (R248): the lane leaves service and retrains in the background (R250). -/
def State.laneFault (s : State) (l : Nat) : State :=
  let p := lanePort l
  if l < 8 || 16 ≤ l || !s.portActive p then s
  else if s.laneState l != LaneS.inService && s.laneState l != LaneS.spare then s
  else
    let s := (s.ev (B.lnl l) Ev.LNL.LANE_FAULT).laneOut l LaneS.retrain 0 true
    if s.portActive p && s.laneState l = LaneS.retrain then s.retrain l else s

/-- A lane that carries traffic shows another port lane number, or too much skew: it is FAILED (R213, R221). -/
def State.laneWrong (s : State) (l reason : Nat) : State :=
  let p := lanePort l
  if s.portActive p then (s.evIf (reason == 4) (B.lnl l) Ev.LNL.LANE_FAULT).laneOut l LaneS.failed reason true
  else
    if s.stage p = Stage.lock then s.lockFail p (laneIdx l) reason
    else
      let s := s.failLane p (laneIdx l) reason
      if s.lnkMoves p || s.lockSet p = [] then s.toLock p else s

/-- LANE_LOCKED: a lane has aligned on its AM slots: its skew against the timing lane in ps, the port lane number in the slots, and
whether the levels come mirrored. In LOCK the lane locks; later the receiver has deskewed again (R221, R249). -/
def State.laneLocked (s : State) (l : Nat) (skew : Int) (found : Nat) (inverted : Bool) : State :=
  let p := lanePort l
  let k := laneIdx l
  let bad := found != k || 48000 < skew.natAbs
  let reason := if found != k then 4 else 3
  if l < 8 || 16 ≤ l then s
  else if s.stage p = Stage.lock then
    if s.laneState l != LaneS.lock then s
    else
      let s := (s.showLaneSkew l skew).set (R.LNL.LANE_STAT.RX_INVERTED l) (bit inverted)
      if bad then s.lockFail p k reason
      else
        let x := s.port p
        (s.setPort p { x with locked := if x.locked.contains k then x.locked else k :: x.locked }).lockCheck p
  else if s.laneState l != LaneS.inService || (s.stage p != Stage.capx && s.stage p != Stage.active) then s
  else
    let s := (s.showLaneSkew l skew).set (R.LNL.LANE_STAT.RX_INVERTED l) (bit inverted)
    if bad then s.laneWrong l reason else s

/-- A wider width is possible and this end starts it (R250). -/
def State.mayWiden (s : State) (p : Nat) : State :=
  let l := s.wmask p
  if s.on (R.LNK.PORT_CTRL.AUTO_WIDEN p) && s.liveWidth p && s.lnkMoves p &&
      (s.inService p).length < (serviceOf (s.port p).maxWidth l).length then s.startWidth p
  else s

/-- RETRAIN_DONE: background training of a lane ends (R250). -/
def State.retrainDone (s : State) (l : Nat) (ok : Bool) : State :=
  let p := lanePort l
  let k := laneIdx l
  if s.laneState l != LaneS.retrain || !s.portActive p then s
  else if ok then
    let s := (s.laneTrained l).set (R.LNK.PORT_STAT.WORKING p) (s.get (R.LNK.PORT_STAT.WORKING p) ||| 2 ^ k)
    let s := s.set (R.LNK.PORT_STAT.FAILED p) (s.get (R.LNK.PORT_STAT.FAILED p) &&& (15 - 2 ^ k))
    (s.laneUp l false).mayWiden p
  else s.failLane p k 7

/-- LANE_RETRY (R250). A lane whose RETIRE is still 1 takes no retry (DESIGN CHOICE, log entry 119). -/
def State.laneRetry (s : State) (l : Nat) : State :=
  let p := lanePort l
  let k := laneIdx l
  if l < 8 || 16 ≤ l || s.laneState l != LaneS.failed || s.on (R.LNL.LANE_CTRL.RETIRE l) then s
  else
    let s := (s.set (R.LNL.LANE_STAT.REASON l) 0).set (R.LNK.PORT_STAT.FAILED p) (s.get (R.LNK.PORT_STAT.FAILED p) &&& (15 - 2 ^ k))
    if s.portActive p then s.retrain l else s.setLaneState l LaneS.off

/-- LANE_RETIRE: a write of RETIRE = 1 (R230, R250). -/
def State.laneRetire (s : State) (l : Nat) : State :=
  let p := lanePort l
  let k := laneIdx l
  if l < 8 || 16 ≤ l then s
  else
    let s := (s.set (R.LNL.LANE_CTRL.RETIRE l) 1).set (R.LNL.LANE_STAT.LAST_VALID l) 0
    if s.stage p = Stage.active then s.laneOut l LaneS.failed 6 false
    else if s.stage p = Stage.disabled then s
    else
      let s := s.failLane p k 6
      if s.stage p = Stage.train then s.trainEnds p
      else if s.stage p = Stage.lock then
        (if s.lockSet p = s.inService p then s.lockCheck p else if s.lnkMoves p || s.lockSet p = [] then s.toLock p else s)
      else if s.stage p = Stage.capx then
        (if (s.inService p).contains k && (s.lnkMoves p || s.lockSet p = []) then s.toLock p else s)
      else s

/-- MAX_WIDTH acts on a port in ACTIVE where LIVE_WIDTH was agreed: the port narrows, or widens where it can (R214). -/
def State.limitWidth (s : State) (p : Nat) : State :=
  if s.portActive p && s.liveWidth p && s.lnkMoves p then
    let v := s.get (R.LNK.PORT_CTRL.MAX_WIDTH p)
    let s := s.setPort p { s.port p with maxWidth := v }
    if (serviceOf v (s.wmask p)).length < (s.inService p).length then s.startWidth p else s.mayWiden p
  else s

/-- MAX_WIDTH_WRITE (R214). -/
def State.maxWidthWrite (s : State) (p v : Nat) : State :=
  if 3 ≤ v then s else (s.set (R.LNK.PORT_CTRL.MAX_WIDTH p) v).limitWidth p

/-- A freeze of an LNK page ends: what it held back goes on (Table 8-3, R259). -/
def State.portThaw (s : State) (p : Nat) : State :=
  let st := s.stage p
  if !s.lnkMoves p then s
  else if st = Stage.disabled || (st = Stage.down && !(s.port p).waits) then s.toDetect p
  else if st = Stage.detect then s.detectEnds p
  else if st = Stage.train then s.trainEnds p
  else if st = Stage.lock then (if s.lockSet p = s.inService p then s.lockCheck p else s.toLock p)
  else if st = Stage.capx then (if (s.inService p).all (fun k => (s.working p).contains k) then s.tryActive p else s.toLock p)
  else if st = Stage.active then s.limitWidth p
  else s

/-! ### Commands -/

/-- TRAINING_FRAME (R225). -/
def execTrainingFrame (l ctl sta : Nat) (valid inverted : Bool) (req : Nat) (errors : Option Nat) (t : Nat)
    (s : State) : Host.Outcome State Fault Refusal :=
  run (fun s => (s.tick t).trainingFrame l ctl sta valid inverted req errors) s

/-- TRAIN_TIMEOUT (R227). -/
def execTrainTimeout (l t : Nat) (s : State) : Host.Outcome State Fault Refusal := run (fun s => (s.tick t).trainTimeout l) s

/-- TRAIN_GIVE_UP (R226). -/
def execTrainGiveUp (l t : Nat) (s : State) : Host.Outcome State Fault Refusal := run (fun s => (s.tick t).giveUp l) s

/-- LANE_LOCKED (R232). -/
def execLaneLocked (l : Nat) (skew : Int) (found : Nat) (inverted : Bool) (t : Nat) (s : State) : Host.Outcome State Fault Refusal :=
  run (fun s => (s.tick t).laneLocked l skew found inverted) s

/-- LOCK_END (R232). -/
def execLockEnd (p t : Nat) (s : State) : Host.Outcome State Fault Refusal := run (fun s => (s.tick t).lockEnd p) s

/-- CAPX_SEND (R233). -/
def execCapxSend (p t : Nat) (s : State) : Host.Outcome State Fault Refusal := run (fun s => (s.tick t).capxSend p) s

/-- CAPX (R233). -/
def execCapx (p : Nat) (m : CapxMsg) (t : Nat) (s : State) : Host.Outcome State Fault Refusal :=
  run (fun s => (s.tick t).capx p m) s

/-- CAPX_TIMEOUT (R222). -/
def execCapxTimeout (p t : Nat) (s : State) : Host.Outcome State Fault Refusal := run (fun s => (s.tick t).capxTimeout p) s

/-- RETRY_INTERVAL (R222). -/
def execRetryInterval (p t : Nat) (s : State) : Host.Outcome State Fault Refusal := run (fun s => (s.tick t).retryInterval p) s

/-- RESTART (R222). -/
def execRestartPort (p t : Nat) (s : State) : Host.Outcome State Fault Refusal := run (fun s => (s.tick t).linkDown p) s

/-- MAX_WIDTH_WRITE (R214). -/
def execMaxWidthWrite (p v t : Nat) (s : State) : Host.Outcome State Fault Refusal := run (fun s => (s.tick t).maxWidthWrite p v) s

/-- LANE_FAULT (R248). -/
def execLaneFault (l t : Nat) (s : State) : Host.Outcome State Fault Refusal := run (fun s => (s.tick t).laneFault l) s

/-- RETRAIN_DONE (R250). -/
def execRetrainDone (l : Nat) (ok : Bool) (t : Nat) (s : State) : Host.Outcome State Fault Refusal :=
  run (fun s => (s.tick t).retrainDone l ok) s

/-- LANE_RETRY (R250). -/
def execLaneRetry (l t : Nat) (s : State) : Host.Outcome State Fault Refusal := run (fun s => (s.tick t).laneRetry l) s

/-- LANE_RETIRE (R250). -/
def execLaneRetire (l t : Nat) (s : State) : Host.Outcome State Fault Refusal := run (fun s => (s.tick t).laneRetire l) s

end Sys2Proof.Machine
end

