-- ==== Sys2Proof/Machine/Firmware.lean ====
section
/-!
DEFINITION. Images, slots and the boot pair (chapter 18): the check of Table 18-3, the slot states, writing a slot, the
choice of a pair, confirmation, revert and activation.
-/
namespace Sys2Proof.Machine

/-! ### Flash and slots -/

/-- An erased byte of flash. -/
def erased (_ : Nat) : Byte := 0xFF

/-- Start and size of slot `k` (Table 18-1). -/
def slotBase (k : Nat) : Nat := [0x100000, 0x1100000, 0x2100000, 0x2500000, 0x2900000, 0x2B00000].getD k 0
def slotSize (k : Nat) : Nat := if k < 2 then 0x1000000 else if k < 4 then 0x400000 else 0x200000

/-- States of Table 18-4. -/
def Img.empty : Nat := 0
def Img.writing : Nat := 1
def Img.written : Nat := 2
def Img.checked : Nat := 3
def Img.bad : Nat := 4
def Img.trial : Nat := 5
def Img.inForce : Nat := 6

/-- STATE of a slot. -/
def State.img (s : State) (k : Nat) : Nat := s.get (R.SLT.SLOT_STAT.STATE k)
def State.setImg (s : State) (k v : Nat) : State := s.set (R.SLT.SLOT_STAT.STATE k) v

/-- `n` bytes of slot `k` from byte `a`, as bytes and as a number. -/
def State.slotBytes (s : State) (k a n : Nat) : List Byte := readBytes erased s.fwu.flash (slotBase k + a) n
def State.slotLe (s : State) (k a n : Nat) : Nat := leNat (s.slotBytes k a n)

/-- Every byte of slot `k` from `a` on is 0, `n` of them. -/
def State.slotZero (s : State) (k a n : Nat) : Bool := (s.slotBytes k a n).all (· == 0)

/-- The check of an image slot (Table 18-3). -/
def State.imageResult (s : State) (k : Nat) : Nat :=
  let le := s.slotLe k
  let len := le 48 4
  let key := le 6 1
  if le 0 4 != 0x4F425253 || le 4 1 != 1 || le 5 1 != (if k < 2 then 1 else 2) || slotSize k < 512 + len || 1 < le 20 1 ||
      !s.slotZero k 21 3 || !s.slotZero k 35 1 || !s.slotZero k 54 10 || !s.slotZero k 161 15 || !s.slotZero k 320 192 then 2
  else if le 18 2 != s.get R.IDN.IDN_TYPE.TYPE_ID then 3
  else if 3 < key || !bitAt (s.get R.FWU.KEYS.PRESENT) key || bitAt (s.get R.FWU.KEYS.REVOKED) key ||
      sha384 (s.slotBytes k 64 97) != s.fwu.hashes.getD key 0 then 4
  else if !signatureOk (s.slotBytes k 0 320) then 5
  else if sha384 (s.slotBytes k 512 len) != beNat (s.slotBytes k 176 48) then 6
  else if le 20 1 = 1 && (!s.on R.IDN.ID_STAT.ID_OK || le 24 4 != s.get R.IDN.LOT_LO.LOT || le 28 4 != s.get R.IDN.LOT_HI.LOT ||
      le 32 1 != s.get R.IDN.DIE.WAFER || le 33 1 != s.get R.IDN.DIE.DIE_X || le 34 1 != s.get R.IDN.DIE.DIE_Y ||
      (List.range 3).any (fun i => le (36 + 4 * i) 4 != s.get (R.IDN.SERIAL.V i))) then 7
  else if le 7 1 < s.get R.FWU.ROLLBACK.COUNT then 8
  else 1

/-- The check of a settings slot (R542). -/
def State.settingsResult (s : State) (k : Nat) : Nat :=
  let le := s.slotLe k
  let len := le 12 4
  if le 0 4 != 0x47544553 || slotSize k < 64 + len || !s.slotZero k 6 2 || !s.slotZero k 20 44 then 2
  else if crc32 ((s.slotBytes k 64 len).map (·.toNat)) != le 16 4 then 6
  else 1

/-- The result of a check of slot `k`. -/
def State.slotResult (s : State) (k : Nat) : Nat := if k < 4 then s.imageResult k else s.settingsResult k

/-- RESULT and what the slot registers show from the header. -/
def State.showSlot (s : State) (k res : Nat) : State :=
  let s := s.set (R.SLT.SLOT_STAT.RESULT k) res
  if k < 4 then
    let s := (s.set (R.SLT.SLOT_STAT.RB_INDEX k) (s.slotLe k 7 1)).set (R.SLT.SLOT_STAT.COMPAT k) (s.slotLe k 12 2)
    let s := (s.set (R.SLT.SLOT_VER.VERSION k) (s.slotLe k 8 4)).set (R.SLT.SLOT_PEER.PEER_MIN k) (s.slotLe k 14 2)
    s.set (R.SLT.SLOT_PEER.PEER_MAX k) (s.slotLe k 16 2)
  else s.set (R.SLT.SLOT_VER.VERSION k) (s.slotLe k 4 2)

/-- The check of slot `k` ends; a tile tells the sender whose session wrote it (R548). -/
def State.checkDone (s : State) (k : Nat) : State :=
  if s.img k != Img.written || 6 ≤ k then s
  else
    let res := s.slotResult k
    let s := ((s.showSlot k res).setImg k (if res = 1 then Img.checked else Img.bad)).bootSave
    let s := if res = 1 then s else s.err B.fwu 0x10 k 0
    let s := s.ev B.fwu Ev.FWU.CHECK_DONE
    match s.line.svcIn with
    | some x =>
      if x.closed && x.slot == k then
        let s := s.send x.port (.svcAck ⟨if res = 1 then 3 else 4, s.ownStop x.port, x.session, x.seq⟩)
        { s with line := { s.line with svcIn := none } }
      else s
    | none => s

/-! ### Writing a slot (R533, R547) -/

/-- The settings slot that holds the newest CHECKED or IN_FORCE copy. -/
def State.newestSettings (s : State) : Option Nat :=
  let ok (k : Nat) : Bool := s.img k == Img.checked || s.img k == Img.inForce
  if ok 4 && (!ok 5 || s.get (R.SLT.SLOT_GEN.GEN 5) ≤ s.get (R.SLT.SLOT_GEN.GEN 4)) then some 4
  else if ok 5 then some 5 else none

/-- Statuses of Table 18-6. -/
def Svc.ok : Nat := 0
def Svc.busy : Nat := 0x10
def Svc.refused : Nat := 0x11
def Svc.badOp : Nat := 0x12
def Svc.noSession : Nat := 0x13
def Svc.empty : Nat := 0x14

/-- Open slot `k` for `total` bytes under session `id`: the state and the status. -/
def State.openSlot (s : State) (k total id : Nat) : State × Nat :=
  if s.get R.FWU.SESSION.PURPOSE != 0 then (s, Svc.busy)
  else if 6 ≤ k || !([Img.empty, Img.checked, Img.bad].contains (s.img k)) || slotSize k < total || s.newestSettings == some k then
    (s.err B.fwu 0x13 k 0, Svc.refused)
  else
    let gen := ((List.range 6).map (fun j => s.get (R.SLT.SLOT_GEN.GEN j))).foldl max 0 + 1
    let s := ((s.setImg k Img.writing).set (R.SLT.SLOT_STAT.RESULT k) 0).set (R.SLT.SLOT_GEN.GEN k) gen
    let s := (s.set (R.SLT.SLOT_STAT.TRIALS k) 0).bootSave
    let s := ((s.set R.FWU.SESSION.PURPOSE 1).set R.FWU.SESSION.SLOT k).set R.FWU.SESSION.ID id
    let b := slotBase k
    ({ (s.set R.FWU.SESS_BYTES.BYTES 0) with fwu := { s.fwu with
        total := total, flash := s.fwu.flash.filter (fun c => !(b ≤ c.1 && c.1 < b + (total + 65535) / 65536 * 65536)) } }, Svc.ok)

/-- The next bytes of the slot being written (R547): programming only clears bits of erased flash. -/
def State.writeSlot (s : State) (l : List Byte) : State :=
  let a := slotBase (s.get R.FWU.SESSION.SLOT) + s.get R.FWU.SESS_BYTES.BYTES
  let s := { s with fwu := { s.fwu with flash := writeBytes erased s.fwu.flash a l } }
  s.set R.FWU.SESS_BYTES.BYTES (s.get R.FWU.SESS_BYTES.BYTES + l.length)

/-- The slot is closed: its check starts. -/
def State.closeSlot (s : State) : State :=
  let s := s.setImg (s.get R.FWU.SESSION.SLOT) Img.written
  s.endSession false

/-! ### Pairs (R534, R538) -/

/-- An MC slot and an LC slot are consistent. -/
def State.pairConsistent (s : State) (m l : Nat) : Bool :=
  let c (k : Nat) : Nat := s.get (R.SLT.SLOT_STAT.COMPAT k)
  let lo (k : Nat) : Nat := s.get (R.SLT.SLOT_PEER.PEER_MIN k)
  let hi (k : Nat) : Nat := s.get (R.SLT.SLOT_PEER.PEER_MAX k)
  lo l ≤ c m && c m ≤ hi l && lo m ≤ c l && c l ≤ hi m

/-- The running MC and LC slots. -/
def State.mcSlot (s : State) : Nat := s.get R.FWU.FWU_STAT.MC_SLOT
def State.lcSlot (s : State) : Nat := 2 + s.get R.FWU.FWU_STAT.LC_SLOT

/-- Pairs of passing slots in the order of R534. -/
def State.pairOrder (s : State) : List (Nat × Nat) :=
  let pass (k : Nat) : Bool := [Img.checked, Img.trial, Img.inForce].contains (s.img k)
  let gen (k : Nat) : Nat := s.get (R.SLT.SLOT_GEN.GEN k)
  let key (p : Nat × Nat) : Nat × Nat := (max (gen p.1) (gen p.2), min (gen p.1) (gen p.2))
  let before (a b : Nat × Nat) : Bool := (key b).1 < (key a).1 || ((key a).1 == (key b).1 && (key b).2 ≤ (key a).2)
  ([(0, 2), (0, 3), (1, 2), (1, 3)].filter (fun p => pass p.1 && pass p.2)).foldr
    (fun p l => l.takeWhile (fun q => !before p q) ++ [p] ++ l.dropWhile (fun q => !before p q)) []

/-- A slot starts on a processor (Table 18-4). -/
def State.startSlot (s : State) (k : Nat) : State :=
  let s := if s.img k = Img.checked then (s.setImg k Img.trial).set (R.SLT.SLOT_STAT.TRIALS k) 1 else s
  let s := if k < 2 then s.set R.FWU.FWU_STAT.MC_SLOT k else s.set R.FWU.FWU_STAT.LC_SLOT (k - 2)
  s.bootSave.emit (.start (if k < 2 then 0 else 1) k)

/-- What a module reset does to the slots (Table 18-4); no MC image runs from a settings slot now. -/
def State.slotsReset (s : State) : State :=
  (s.forN 6 (fun s k =>
    if s.img k = Img.writing then s.setImg k Img.bad
    else if 4 ≤ k && s.img k = Img.inForce then s.setImg k Img.checked
    else if s.img k = Img.trial then
      if s.get (R.SLT.SLOT_STAT.TRIALS k) < 2 then s.set (R.SLT.SLOT_STAT.TRIALS k) 2 else s.setImg k Img.bad
    else s)).bootSave

/-- STATE, GEN and TRIALS of the slots as the boot control block holds them (R530): where no copy is valid, an image slot that
passes its check is CHECKED, and every other slot is EMPTY. -/
def State.bootLoad (s : State) : State :=
  match s.bootNewest with
  | some b =>
    s.forN 6 (fun s k =>
      let v := b.slots.getD k (0, 0, 0)
      ((s.setImg k v.1).set (R.SLT.SLOT_GEN.GEN k) v.2.1).set (R.SLT.SLOT_STAT.TRIALS k) v.2.2)
  | none =>
    (s.forN 6 (fun s k =>
      let res := s.slotResult k
      let s := if k < 4 then s.showSlot k res else s
      let s := s.setImg k (if k < 4 && res = 1 then Img.checked else Img.empty)
      (s.set (R.SLT.SLOT_GEN.GEN k) 0).set (R.SLT.SLOT_STAT.TRIALS k) 0)).bootSave

/-- The boot ROM checks the slots and starts the first consistent pair, or enters safe mode (R534, R535). -/
def State.boot (s : State) (bootSel : Bool) : State :=
  if bootSel then ((s.set R.FWU.FWU_STAT.SAFE 1).set R.FWU.FWU_STAT.SAFE_CAUSE 1).set R.FWU.FWU_STAT.BOOT_PAIR 0
  else
    let s := s.forN 4 (fun s k =>
      if [Img.checked, Img.trial, Img.inForce].contains (s.img k) then
        let res := s.slotResult k
        let s := s.showSlot k res
        if res = 1 then s else (s.setImg k Img.bad).bootSave
      else s)
    let l := s.pairOrder
    match l.findIdx? (fun p => s.pairConsistent p.1 p.2) with
    | some i =>
      let p := l.getD i (0, 2)
      ((s.set R.FWU.FWU_STAT.BOOT_PAIR (i + 1)).startSlot p.1).startSlot p.2
    | none => ((s.set R.FWU.FWU_STAT.SAFE 1).set R.FWU.FWU_STAT.SAFE_CAUSE 2).set R.FWU.FWU_STAT.BOOT_PAIR 0

/-- The MC image loads or migrates its settings (R543), whatever the state of a slot that is not being written; a slot that it does not run
from is not IN_FORCE (R533). Migrated data keeps its bytes: the format is the image's own. -/
def State.loadSettings (s : State) : State :=
  let own := s.slotLe s.mcSlot 52 2
  let ok (k : Nat) : Bool := s.settingsResult k == 1 && s.slotLe k 4 2 ≤ own &&
    s.img k != Img.writing
  let gen (k : Nat) : Nat := s.slotLe k 8 4
  let pick := if ok 4 && (!ok 5 || gen 5 ≤ gen 4) then some 4 else if ok 5 then some 5 else none
  match pick with
  | none =>
    let s := s.forN 2 (fun s i => if s.img (4 + i) = Img.inForce then s.setImg (4 + i) Img.checked else s)
    s.bootSave.set R.FWU.FWU_STAT.SET_DEFAULT 1
  | some k =>
    let s := s.set R.FWU.FWU_STAT.SET_DEFAULT 0
    if s.slotLe k 4 2 = own then
      let s := if s.img (9 - k) = Img.inForce then s.setImg (9 - k) Img.checked else s
      (s.setImg k Img.inForce).bootSave.set R.FWU.FWU_STAT.SET_SLOT (k - 4)
    else
      let o := 9 - k
      let n := 64 + s.slotLe k 12 4
      let fl := writeBytes erased s.fwu.flash (slotBase o) (s.slotBytes k 0 n)
      let fl := writeLE erased (writeLE erased fl (slotBase o + 4) 2 own) (slotBase o + 8) 4 (gen k + 1)
      let s := { s with fwu := { s.fwu with flash := fl } }
      let s := (s.setImg k Img.checked).setImg o Img.inForce
      let s := ((s.showSlot o 1).set (R.SLT.SLOT_GEN.GEN o) (gen k + 1)).set R.FWU.FWU_STAT.SET_SLOT (o - 4)
      s.bootSave.ev B.fwu Ev.FWU.SETTINGS_MIGRATED

/-- A processor restarts on slot `k` (R539, R540). -/
def State.restartOn (s : State) (k : Nat) : State :=
  if k < 2 then ((s.startSlot k).mcRestarts).loadSettings
  else ((s.startSlot k).linkDown 0).linkDown 1

/-- An FW_ACTIVATE entry launches (R538). In safe mode there is no running slot for a type that is not named. -/
def State.activate (s : State) (arg : Nat) : State :=
  let mc := bitAt arg 0
  let lc := bitAt arg 1
  let m := if mc then bitsOf arg 4 1 else s.mcSlot
  let l := if lc then 2 + bitsOf arg 5 1 else s.lcSlot
  let named := (mc && lc) || !s.on R.FWU.FWU_STAT.SAFE
  if (!mc || s.img m == Img.checked) && (!lc || s.img l == Img.checked) && s.pairConsistent m l && named && !s.hkt.shutdown then
    let s := s.ev B.fwu Ev.FWU.ACTIVATED
    let s := if mc then s.restartOn m else s
    if lc then s.restartOn l else s
  else (s.ev B.fwu Ev.FWU.ACT_REFUSED).err B.fwu 0x11 0 0

/-! ### Confirmation (R536, R537) -/

/-- The slot of the same type other than `k`. -/
def otherSlot (k : Nat) : Nat := if k % 2 = 0 then k + 1 else k - 1

/-- CONFIRM_MC, CONFIRM_LC: the running slot in TRIAL comes into force. In safe mode no slot runs. -/
def State.confirm (s : State) (k : Nat) : State :=
  if s.img k != Img.trial || s.on R.FWU.FWU_STAT.SAFE then s
  else
    let s := (s.setImg k Img.inForce).set (R.SLT.SLOT_STAT.TRIALS k) 0
    (if s.img (otherSlot k) = Img.inForce then s.setImg (otherSlot k) Img.checked else s).bootSave

/-- The confirm window of the running slot `k` ends: BAD, and the slot that was in force runs again; false when there is
none, and the module is reset. -/
def State.revert (s : State) (k : Nat) : State × Bool :=
  if s.img k != Img.trial || s.on R.FWU.FWU_STAT.SAFE then (s, true)
  else
    let s := ((s.setImg k Img.bad).bootSave.ev B.fwu Ev.FWU.REVERTED).err B.fwu 0x12 0 0
    if s.img (otherSlot k) = Img.inForce then (s.restartOn (otherSlot k), true) else (s, false)

/-- RB_COMMIT, by the service path or the MC image's secure state (R537). -/
def State.rbCommit (s : State) (secure : Bool) : State :=
  if !secure then s
  else if !s.on R.FWU.FWU_STAT.SAFE && (s.img s.mcSlot == Img.trial || s.img s.lcSlot == Img.trial) then
    (s.ev B.fwu Ev.FWU.ACT_REFUSED).err B.fwu 0x11 0 0
  else
    let inForce (a : Nat) : Option Nat := [a, a + 1].find? (fun k => s.img k == Img.inForce)
    match inForce 0, inForce 2 with
    | some m, some l =>
      let v := min (s.get (R.SLT.SLOT_STAT.RB_INDEX m)) (s.get (R.SLT.SLOT_STAT.RB_INDEX l))
      s.set R.FWU.ROLLBACK.COUNT (max v (s.get R.FWU.ROLLBACK.COUNT))
    | _, _ => s

/-! ### Commands -/

/-- CONFIRM_MC (R536). -/
def execConfirmMc (t : Nat) (s : State) : Host.Outcome State Fault Refusal := run (fun s => let s := s.tick t; s.confirm s.mcSlot) s

/-- CONFIRM_LC (R536). -/
def execConfirmLc (t : Nat) (s : State) : Host.Outcome State Fault Refusal := run (fun s => let s := s.tick t; s.confirm s.lcSlot) s

/-- RB_COMMIT (R537). -/
def execRbCommit (secure : Bool) (t : Nat) (s : State) : Host.Outcome State Fault Refusal :=
  run (fun s => (s.tick t).rbCommit secure) s

/-- CHECK_DONE (R532). -/
def execCheckDone (k t : Nat) (s : State) : Host.Outcome State Fault Refusal := run (fun s => (s.tick t).checkDone k) s

/-- MAILBOX_TIMEOUT (R459). -/
def execMailboxTimeout (c k t : Nat) (s : State) : Host.Outcome State Fault Refusal := run (fun s => (s.tick t).mbxTimeout c k) s

end Sys2Proof.Machine
end

