-- ==== Sys2Proof/Machine/Clock.lean ====
section
/-!
DEFINITION. The domains (R90 to R98): their states and the servo, the wall domain and its change, TIME_VALID.
-/
namespace Sys2Proof.Machine

/-- The states of Table 4-17. -/
def DomS.disabled : Nat := 0
def DomS.listen : Nat := 1
def DomS.acquire : Nat := 2
def DomS.locked : Nat := 3
def DomS.holdover : Nat := 4

/-- The state of domain `d`. -/
def State.domState (s : State) (d : Nat) : Nat := s.get (R.TIM.DOM_STAT.STATE d)

/-- TIM_STAT.HOLDOVER, WALL_DOM and WALL_SEL, and in the Tile role the k of the wall domain (R96, R98, R103). After a TIM soft
reset HOLDOVER stays 1 until the wall domain re-acquires (R121): DEDUCED, it leaves LISTEN or enters ACQUIRE (log entry 81). -/
def State.showWall (s : State) : State :=
  let st := s.domState s.wallDom
  let hold := s.tim.resetHold && st != DomS.acquire && st != DomS.locked
  let s := { s with tim := { s.tim with resetHold := hold } }
  let s := s.set R.TIM.TIM_STAT.HOLDOVER (bit (st == DomS.holdover || hold))
  let s := s.set R.TIM.TIM_CTRL.WALL_SEL s.wallDom
  if s.role == .tile then s.set R.TIM.LINE_TIME_CFG.INTERVAL_EXP (s.dom s.wallDom).k else s

/-- Domain `d` takes state `v`. -/
def State.putDomState (s : State) (d v : Nat) : State :=
  ((s.set (R.TIM.DOM_STAT.STATE d) v).set (if d = 0 then R.TIM.TIM_STAT.D0_STATE else R.TIM.TIM_STAT.D1_STATE) v).showWall

/-- TIME_VALID rises when the wall domain is LOCKED, in the Tile role on valid time (R97). -/
def State.validCheck (s : State) : State :=
  if s.domState s.wallDom == DomS.locked && (s.role == .sender || (s.dom s.wallDom).msgValid == some true) then
    s.set R.TIM.TIM_STAT.TIME_VALID 1
  else s

/-- T_old - T_new of R98 for a change to `target`, the switch residual included. -/
def State.wallGap (s : State) (target : Nat) : Int := s.wall - (s.dom target).timeAt (16 * s.frc)

/-- SWITCH_MAX in 2^-16 ns. -/
def State.switchMax (s : State) : Int := nsU (s.get R.TIM.SWITCH_MAX.V)

/-- The wall domain becomes `target`, with the residual `r`. -/
def State.setWallDom (s : State) (target : Nat) (r : Int) : State :=
  let s := s.set R.TIM.TIM_STAT.WALL_DOM target
  let s := { s with tim := { s.tim with residual := r, resAt := s.frc } }
  (((s.set R.TIM.TIM_STAT.SLEWING (bit (r != 0))).showWall).ev B.tim Ev.TIM.WALL_SWITCH).validCheck

/-- A request to change the wall domain to `target` (R98): seamless, refused with DOMAIN_FAR, or with `force` a step. -/
def State.switchWall (s : State) (target : Nat) (force : Bool) : State :=
  if target = s.wallDom then s
  else if (s.wallGap target).natAbs ≤ s.switchMax.natAbs then s.setWallDom target (s.wallGap target)
  else if force then (s.setWallDom target 0).ev B.tim Ev.TIM.WALL_STEP
  else s.ev B.tim Ev.TIM.DOMAIN_FAR

/-- Whether that request steps wall time. -/
def State.switchSteps (s : State) (target : Nat) (force : Bool) : Bool :=
  target != s.wallDom && force && s.switchMax.natAbs < (s.wallGap target).natAbs

/-- Domain `d` enters HOLDOVER; AUTO_SWITCH changes the wall domain when the other one is LOCKED (R98). -/
def State.enterHoldover (s : State) (d : Nat) : State :=
  let s := (s.putDomState d DomS.holdover).ev B.tim (Ev.TIM.D0_HOLDOVER + d)
  if s.wallDom = d && s.on R.TIM.TIM_CTRL.AUTO_SWITCH && s.domState (1 - d) == DomS.locked then s.switchWall (1 - d) false
  else s

/-- Domain `d` enters ACQUIRE: the runs of Table 4-3 begin. -/
def State.enterAcquire (s : State) (d : Nat) : State :=
  let s := s.setDom d { s.dom d with outRun := 0 }
  (s.set (R.TIM.DOM_STAT.LOCK_RUN d) 0).putDomState d DomS.acquire

/-- Domain `d` enters LISTEN. -/
def State.enterListen (s : State) (d : Nat) : State :=
  (s.setDom d { s.dom d with first := true, outRun := 0, msgValid := none }).putDomState d DomS.listen

/-- DOMd_CFG.EN is written (Table 4-3). -/
def State.domEnable (s : State) (d : Nat) (on : Bool) : State :=
  let s := s.set (R.TIM.DOM_CFG.EN d) (bit on)
  if on then (if s.domState d = DomS.disabled then s.enterListen d else s) else s.putDomState d DomS.disabled

/-! ### The servo (R94, R95) -/

/-- The change of ρ, in 2^-40, for a measurement `m` in 2^-16 ns and an interval of 2^e s. -/
def rateMove (m : Int) (ki : Nat) (e : Int) : Int :=
  let x : Int := 24 - ki - e
  if 0 ≤ x then roundDiv (m * 2 ^ x.toNat) 1000000000 else roundDiv m (1000000000 * 2 ^ (-x).toNat)

/-- ±1,000 × 10^-6 in 2^-40. -/
def rhoMax : Int := 1099511628

/-- Limit `x` to ±`b`. -/
def clampI (b x : Int) : Int := max (-b) (min b x)

/-- A measurement of domain `d` is accepted (R93). A sender's domain that names an absent port stays in LISTEN (R126). -/
def State.accepts (s : State) (d : Nat) : Bool :=
  let st := s.domState d
  st == DomS.acquire || st == DomS.locked || st == DomS.holdover ||
  (s.role == .sender && st == DomS.listen && s.ethExists (s.get (R.TIM.DOM_CFG.PORT d)))

/-- An accepted measurement `m` steps domain `d` (R95, R105). -/
def State.measureSteps (s : State) (d : Nat) (m : Int) (force : Bool) : Bool :=
  force || (s.dom d).first || d != s.wallDom || (s.on R.TIM.TIM_CTRL.STEP_EN && s.switchMax < m.natAbs)

/-- The loop filter: anchor, offset and rate after `m` (R90, R94). -/
def State.filter (s : State) (d : Nat) (m : Int) (e : Int) (step : Bool) : State :=
  let x := (s.dom d).rebase s.frc
  let rho := clampI rhoMax (x.rho - rateMove m (s.get (R.TIM.DOM_LOOP.KI_SHIFT d)) e)
  let move := roundDiv (-m) (2 ^ s.get (R.TIM.DOM_LOOP.KP_SHIFT d))
  let move := if d = s.wallDom then clampI (s.slewBound (s.frc - x.lastMove)) move else move
  let x := { x with rho := rho, offset := x.offset + (if step then -m else move), first := false, lastMove := s.frc }
  let s := s.setDom d x
  (s.setI (R.TIM.DOM_RATE.RATE d) rho).setI (R.TIM.DOM_OFFSET.OFFSET d) (roundDiv m 4096)

/-- The runs of Table 4-3 after `m`, and the states they lead to. -/
def State.lockRuns (s : State) (d : Nat) (m : Int) : State :=
  let thr := nsU (s.get (R.TIM.DOM_CFG.LOCK_THR d))
  let run := if (m.natAbs : Int) < thr then min 255 (s.get (R.TIM.DOM_STAT.LOCK_RUN d) + 1) else 0
  let out := if 4 * thr < m.natAbs then (s.dom d).outRun + 1 else 0
  let s := (s.set (R.TIM.DOM_STAT.LOCK_RUN d) run).setDom d { s.dom d with outRun := out }
  if s.domState d = DomS.acquire && 16 ≤ run then (s.putDomState d DomS.locked).ev B.tim (Ev.TIM.D0_LOCK + d)
  else if s.domState d = DomS.locked && 16 ≤ out then s.enterAcquire d
  else s

/-- A measurement `m` (2^-16 ns, domain time minus reference) of domain `d` at interval 2^`e` s; `force` steps it. -/
def State.measure (s : State) (d : Nat) (m : Int) (e : Int) (force : Bool) : State :=
  if !s.accepts d then s.count (R.TIM.DOM_STAT.REJECTED d)
  else
    let st := s.domState d
    let s := if st = DomS.listen || st = DomS.holdover then s.enterAcquire d else s
    let step := s.measureSteps d m force
    let s := s.filter d m e step
    let s := s.evIf (step && d == s.wallDom) B.tim Ev.TIM.WALL_STEP
    (s.lockRuns d m).validCheck

/-! ### Schedules -/

/-- The schedule in force is shown in RATE_CUR, SCHED_N0 and SCHED_T0, and its view phases in VPHASEk_CUR. -/
def State.showSched (s : State) : State :=
  match s.tim.sched with
  | none => s
  | some c =>
    let s := (s.set R.TIM.RATE_CUR.RATE c.rate).set64 R.TIM.SCHED_N0_LO.N0 R.TIM.SCHED_N0_HI.N0 c.n0
    let s := s.set64 R.TIM.SCHED_T0_LO.T0 R.TIM.SCHED_T0_HI.T0 (c.t0 / 65536).toNat
    s.forN 3 (fun s i => s.set (R.DEP.VPHASE_CUR.VPHASE i) (c.vphase.getD i 0))

/-- The SCHED message of schedule `c` out of port `p` (Table 4-6). -/
def State.sendSched (s : State) (p : Nat) (c : Sched) (next : Bool) : State :=
  if !s.portActive p then s
  else
    let q := s.tim.seqSched.getD p 0
    let m := s.modeNext
    let w := m.timing * 16 + m.views * 256 + m.codA * 4096 + m.codB * 16384 + m.redun * 65536
    let s := { s with tim := { s.tim with seqSched := putAt s.tim.seqSched p ((q + 1) % 65536) } }
    s.send p (.sched ⟨s.srcRelief, next, q, c, w, s.get R.DEP.MODE_CTRL.DARK_FRAMES⟩)

/-- The SCHED messages of R106 on both ports: the schedule in force, and a pending one. -/
def State.sendScheds (s : State) : State :=
  if s.role != .sender || s.on R.FWU.FWU_STAT.SAFE then s
  else s.forN 2 (fun s p =>
    let s := match s.tim.sched with | some c => s.sendSched p c false | none => s
    match s.pending? with | some c => s.sendSched p c true | none => s)

/-- Schedule `c` comes into force (R106, R109, R112, R114); a tile shows what follows from its rate (Table 12-9). -/
def State.takeSched (s : State) (c : Sched) : State :=
  let s := { s with tim := { s.tim with sched := some c, adopting := none, rephase := false,
                                        pend := s.tim.pend.filter (fun p => c.n0 < p.n0) } }
  let s := s.showSched
  let s := if s.role == .tile then s.set R.TIM.RATE_NEXT.RATE ((s.tim.pend.map (·.rate)).getD c.rate) else s
  let s := (s.ev B.dep Ev.DEP.SCHED_CHANGE).evaluate.sendScheds
  if s.role == .sender then s.followEval else s.showTimetable

end Sys2Proof.Machine
end

