-- ==== Sys2Proof/Machine/Launch.lean ====
section
/-!
DEFINITION. What a departure does to the configuration: commits of pages with their checks (R76 to R80, R44, R169, R369),
and the launches of the board (R115 to R119, R45 to R57).
-/
namespace Sys2Proof.Machine

/-! ### Entries that launch -/

/-- The code of an entry's state (Table 4-20). -/
def EntState.code : EntState → Nat
  | .free => 0
  | .armed => 1
  | .fired => 2
  | .late => 3
  | .missed => 4
  | .cancelled => 5

/-- DEP_STAT and the state of the entry at ENT_SEL. -/
def State.showBoard (s : State) : State :=
  let s := (s.set R.DEP.DEP_STAT.ARMED s.armedCount).set R.DEP.DEP_STAT.NEXT_IDX s.nextIdx
  s.set R.DEP.ENT_STATUS.STATE (s.entry (s.get R.DEP.ENT_SEL.IDX)).state.code

/-- Entry `i` launches (R117). -/
def State.fire (s : State) (i : Nat) (late : Bool) : State :=
  let s := (s.setEntry i { s.entry i with state := if late then .late else .fired }).showBoard.ev B.dep Ev.DEP.ENT_FIRED
  if late then (s.count R.DEP.LATE_CNT.LATE).ev B.dep Ev.DEP.ENT_LATE else s

/-- Entry `i` becomes MISSED (R115, R117). -/
def State.miss (s : State) (i : Nat) : State :=
  (((s.setEntry i { s.entry i with state := .missed }).showBoard).count R.DEP.MISSED_CNT.MISSED).ev B.dep Ev.DEP.ENT_MISSED

/-- The launch of entry `i`, armed with action `action`: its effect, or MISSED while TIME_VALID is 0. A frozen DEP page launches
nothing (R72). -/
def State.launch (s : State) (i action : Nat) (late : Bool) (f : Entry → State → State) : State :=
  if s.frozen B.dep || (s.entry i).state != .armed || (s.entry i).action != action then s
  else if !s.timeValid then s.miss i
  else f (s.entry i) (s.fire i late)

/-- ENT_STATUS.RESULT = REFUSED at a launch (R56, R119). -/
def State.refusedLaunch (s : State) (rule : Nat) : State := (s.set R.DEP.ENT_STATUS.RESULT 5).modeReject rule

/-! ### Instants (R118) -/

/-- The armed entries of an action that launch in the cycle of `w`. -/
def State.armedAt (s : State) (w : Int) (action : Nat) : List (Nat × Entry) :=
  s.armedEntries.filter (fun e => e.2.action == action &&
    (match s.launchTime e.2 with | some x => s.cycleOf x == s.cycleOf w | none => false))

/-- An EPOCH_FLIP launches in the cycle of `w`; none does while TIME_VALID is 0 (R110). -/
def State.flipAt (s : State) (w : Int) : Bool := s.timeValid && s.armedAt w 2 != []

/-- The commit groups that an entry names: group 0 and the reserved bits take no part. -/
def groupBits (arg : Nat) : Nat := arg % 65536 / 2 * 2

/-- The groups that commit at the instant of `w`: `mask`, and those of COMMIT entries still to launch in it. -/
def State.instantMask (s : State) (w : Int) (mask : Nat) : Nat :=
  if s.timeValid then (s.armedAt w 1).foldl (fun m e => m ||| groupBits e.2.arg) mask else mask

/-! ### Commits -/

/-- The bases of all pages. -/
def allPages : List Nat := pageRows.flatMap (fun r => (List.range r.2.2).map (fun i => r.2.1 + i * 0x1000))

/-- The pages whose commits one mode check covers (R79, R169, R369). -/
def jointPages : List Nat := [B.dep, B.map, B.scn]

/-- The pages with an armed commit in the groups of a mask, that are not frozen, in ascending group (R118). -/
def State.duePages (s : State) (mask : Nat) : List Nat :=
  let l := allPages.filter (fun b => s.live b && s.armed b && bitAt mask (s.get (R.PG.CGRP b)))
  (List.range 16).flatMap (fun g => l.filter (fun b => s.get (R.PG.CGRP b) == g))

/-- The code of the Timetable check at a commit (R346, R369); `layout` says that a layout change is accepted. -/
def State.ttCommitCode (s : State) (layout : Bool) : Nat :=
  let c := s.ttStagedCode
  if !layout && layoutDiffers s.scn.stage s.scn.force && (c == 0 || 0x16 < c) then 0x16 else c

/-- The page's own check at a commit: code, SOURCE and address of the refusal. -/
def State.ownCheck (s : State) (layout : Bool) (b : Nat) : Option (Nat × Nat × Nat) :=
  if b = B.map then s.cardStaged.map (fun x => (x.1, x.2.2.2, 0x400000 + x.2.2.1))
  else if b = B.spire then (spireCheck s.cmp.spStage).map (fun x => (x.1, x.2, 0))
  else if b = B.cor then (if s.corRefusal = 0 then none else some (0x04, 0, 0))
  else if b = B.scn then (if s.ttCommitCode layout = 0 then none else some (s.ttCommitCode layout, 0, 0))
  else if b = B.rai then s.raiRefusal.map (fun x => (x.1, x.2, 0))
  else if b = B.col then (if s.monitorBad then some (0x10, 0, 0) else none)
  else none

/-- The commit of the page at `b` is refused with a code of its own (R79). -/
def State.refuseOwn (s : State) (b : Nat) (x : Nat × Nat × Nat) : State :=
  let s := if b = B.cor then s.set R.COR.BANK_STAT.REFUSE s.corRefusal else s
  ((s.commitEnd b).ev b Ev.PG.COMMIT_REFUSED).err b x.1 x.2.1 x.2.2

/-- The group of a mirrored page that transfers at a frame departure is noted for the FRAME records (R478). -/
def State.noteGroup (s : State) (b : Nat) : State :=
  if s.rdn.noting && mirrorPages.contains b then
    { s with rdn := { s.rdn with groups := (s.rdn.groups.1, s.rdn.groups.2 ||| 2 ^ s.get (R.PG.CGRP b)) } }
  else s

/-- The page at `b` transfers, with what its chapter adds (R77, R167, R192, R326, R347, R385, R399). -/
def State.commitPage (s : State) (b : Nat) : State :=
  let s := s.noteGroup b
  if b = B.map then s.exchangeCards.commitDone b
  else if b = B.spire then s.exchangeSpire.commitDone b
  else if b = B.cor then (s.commitDone b).corSwap
  else if b = B.scn then (s.exchangeTt.commitDone b).showZones
  else if b = B.rai then (s.commitDone b).raiCommitted.evalZones
  else if b = B.lfm then (s.commitDone b).evalZones
  else if (List.range 8).any (fun i => b == B.layer (2 * i)) then (s.commitDone b).showFading
  else s.commitDone b

/-- A commit of one page outside the mode check. -/
def State.commitSingle (s : State) (b : Nat) : State :=
  match s.ownCheck false b with
  | some x => s.refuseOwn b x
  | none => s.commitPage b

/-- The mode word in force becomes `m`: the follow flow is evaluated (R146), and a change of REDUN changes the relief state
(Table 16-1, R483). -/
def State.applyMode (s : State) (m : ModeW) (cause : Nat) : State :=
  let was := s.dual
  let s := s.modeChange m cause
  let s := if s.role == .sender then s.followEval else s
  if s.dual = was then s else s.redunChanged s.dual

/-- The intermediate word of a departure-class commit (R44): MODE_CUR with the departure-class fields of MODE_NEXT. -/
def State.depWord (s : State) : ModeW :=
  let n := s.modeNext
  { s.modeCur with codA := n.codA, codB := n.codB, redun := n.redun }

/-- Rule 0x06: the commit changes a coding while the thermal fallback is in force (Table 2-4). -/
def State.thermalHold (s : State) : Bool :=
  s.on R.DEP.MODE_CTRL.FB_ACTIVE && (s.modeNext.codA, s.modeNext.codB) != (s.modeCur.codA, s.modeCur.codB)

/-- The lower of two failing rules. -/
def lowerRule (a b : Option (Nat × Nat)) : Option (Nat × Nat) :=
  match a, b with
  | some x, some y => if y.1 < x.1 then some y else some x
  | some x, none => some x
  | none, y => y

/-- The inputs of the mode check that result from a commit of the pages in `l`. -/
def State.envAfter (s : State) (l : List Nat) (rate : Nat) (vphase : List Nat) : ModeEnv :=
  ⟨rate, vphase, enabledCards (if l.contains B.map then s.map.stage else s.map.force),
    if l.contains B.scn then s.scn.stage else s.scn.force⟩

/-- The state without a word of the feeding sender: rule 0x03 judges MODE_NEXT alone. -/
def State.noPeer (s : State) : State := { s with tim := { s.tim with peerMode := [none, none] } }

/-- Refuse the pages of a list with code 0x04. -/
def State.refuseAll (s : State) (l : List Nat) : State := l.foldl State.commitRefused s

/-- Refuse the pages of `l` that fail their own check; the others pass. -/
def State.ownPass (s : State) (layout : Bool) (l : List Nat) : List Nat := l.filter (fun b => (s.ownCheck layout b).isNone)
def State.ownRefuse (s : State) (layout : Bool) (l : List Nat) : State :=
  l.foldl (fun s b => match s.ownCheck layout b with | some x => s.refuseOwn b x | none => s) s

/-- SCHED messages go out at once when DEP.MODE_NEXT or DARK_FRAMES has changed from `was` (R106). -/
def State.sendChanged (s : State) (was : ModeW × Nat) : State :=
  if (s.modeNext, s.get R.DEP.MODE_CTRL.DARK_FRAMES) = was then s else s.sendScheds

/-- DEP.MODE_NEXT and DARK_FRAMES now. -/
def State.schedWords (s : State) : ModeW × Nat := (s.modeNext, s.get R.DEP.MODE_CTRL.DARK_FRAMES)

/-- The width policy is evaluated after a commit of cards or mode word in the Sender role (R254). -/
def State.policies (s : State) : State :=
  if s.role == .sender then ((s.applyPolicy 0).applyPolicy 1).sendChanged s.schedWords else s

/-- A failing rule of a commit of cards or Timetable alone is shown in MODE_CHECK (R172). -/
def State.showRule (s : State) (r : Nat × Nat) : State :=
  ((s.set R.DEP.MODE_CHECK.VALID 0).set R.DEP.MODE_CHECK.RULE r.1).set R.DEP.MODE_CHECK.FIELDS r.2

/-- The rule that a commit of the pages `ok`, with a change of the mode word if `mode`, fails; `scnBad` says that the
Timetable of the instant has failed its own check. -/
def State.jointFail (s : State) (ok : List Nat) (mode scnBad : Bool) : Option (Nat × Nat) :=
  let env := s.envAfter ok (s.get R.TIM.RATE_CUR.RATE) s.vphaseCur
  let own : Option (Nat × Nat) := if mode && scnBad then some (0x16, 0xE2) else none
  let tried := if mode || ok.any (fun b => b != B.dep) then
      (if mode then s else s.noPeer).modeFail (if mode then s.depWord else s.modeCur) env else none
  let hold : Option (Nat × Nat) := if mode && s.thermalHold then some (0x06, 0) else none
  let busy : Option (Nat × Nat) := if mode && s.epochBusy then some (0x05, 0) else none
  lowerRule (lowerRule tried own) (lowerRule busy hold)

/-- A refused mode word: MODE_REJECT with its rule, or with an open one where a check of cards stops it, which has no rule
in Table 2-4 (R169). -/
def State.rejectOpen (s : State) : State := (s.modeReject (Config.choice s.fresh % 256)).draw

/-- A commit of pages of `jointPages` at one instant (R44, R79, R118, R169). -/
def State.commitJoint (s : State) (l : List Nat) : State :=
  if l = [] then s
  else
    let mode := l.contains B.dep && s.depWord != s.modeCur
    let ok := s.ownPass false l
    let mapBad := l.contains B.map && !ok.contains B.map
    let fail := s.jointFail ok mode (l.contains B.scn && !ok.contains B.scn)
    let word := s.depWord
    let checked := if mode then word else s.modeCur
    let rate := s.get R.TIM.RATE_CUR.RATE
    let tables := (if mapBad then [s.envAfter (B.map :: ok) rate s.vphaseCur] else []) ++
      (if fail.isSome then [s.envAfter ok rate s.vphaseCur] else [])
    let s := (s.ownRefuse false l).capacityError checked tables
    match fail with
    | some r =>
      let stopped := ok.filter (fun b => mode || b != B.dep)
      let kept := ok.filter (fun b => !(mode || b != B.dep))
      let s := (kept.foldl State.commitPage (s.refuseAll stopped)).evaluate
      if mode then s.modeReject r.1 else s.showRule r
    | none =>
      if mapBad && mode then
        (((ok.filter (· != B.dep)).foldl State.commitPage (s.refuseAll [B.dep])).evaluate).rejectOpen
      else
        let s := if mode then s.applyMode word 1 else s
        let s := (ok.foldl State.commitPage s).evaluate
        if mode || ok.contains B.map then s.policies else s

/-- The commits of the instant of wall time `w`: the groups of `mask` and those of COMMIT entries still to launch in it. The
pages of the mode check go with an EPOCH_FLIP of the instant where there is one (R55, R118). -/
def State.commitGroups (s : State) (mask : Nat) (w : Int) : State :=
  let due := s.duePages (s.instantMask w mask)
  let joint := if s.flipAt w then [] else due.filter jointPages.contains
  let rest := due.filter (fun b => !jointPages.contains b)
  rest.foldl State.commitSingle (s.commitJoint joint)

/-! ### COMMIT -/

/-- A COMMIT entry (Table 4-12). -/
def State.launchCommit (s : State) (e : Entry) : State :=
  s.commitGroups (groupBits e.arg) ((s.launchTime e).getD s.wall)

/-! ### EPOCH_FLIP (R45, R51 to R57, R587) -/

/-- E of a flip: its departure, or the next one where that has passed. -/
def State.flipDeparture (s : State) (e : Entry) : Nat :=
  match s.dep.last with
  | some l => if e.time < l then l + 1 else e.time
  | none => e.time

/-- The target memory and what the sinks show become black, and no load or flip is under way (R53, R57, R372). -/
def State.lightOff (s : State) : State :=
  { s.dropLoads with scn := { s.dropLoads.scn with target := [], shown := [], fromBack := false, backFrame := none } }

/-- D of the frame that the departure shows (R383, R384). -/
def State.frameD (s : State) : List Nat :=
  let st := s.get (R.LNE.HOLD_STAT.STATE 0)
  if s.modeCur.timing = 1 then List.replicate 24 65535
  else if s.inDark || s.dep.flipFailed || st = 3 || (List.range s.views).all s.scn.frontDark.contains then List.replicate 24 0
  else (List.range 24).map (fun c =>
    let d := s.rai.plane.getD c 0
    if st = 2 then gainMul d (s.get (R.LNE.FADE_POS.F 0)) else d)

/-- DARK_START at E: every lamp of a tile goes to 0, whether it has passed its check or not, and its LFM suspends fault capture
(R53, R57). -/
def State.darkBegin (s : State) : State :=
  (if s.role == .tile then (s.lightOff.raiShows s.frameD).set R.LFM.LFM_STAT.SUSPENDED 1 else s).ev B.dep Ev.DEP.DARK_START

/-- DARK_END at E + D. -/
def State.darkFinish (s : State) : State :=
  let s := { s with dep := { s.dep with dark := none } }
  (if s.role == .tile then s.set R.LFM.LFM_STAT.SUSPENDED 0 else s).ev B.dep Ev.DEP.DARK_END

/-- The dark frames begin at departure `n` (R51, R57). -/
def State.darkStart (s : State) (n : Nat) : State :=
  let u := { s with dep := { s.dep with dark := some (n, s.darkFrames) } }
  if s.dep.last = some n then u.darkBegin else u

/-- The configuration epoch becomes `n` (R494). -/
def State.setEpoch (s : State) (n : Nat) : State :=
  let s := { s with dep := { s.dep with epoch := n } }
  if s.role == .sender then s.set R.CLU.EPOCH_CUR.EPOCH n else s

/-- The rate that an epoch flip brings: the one that R59 holds back, else the staged one. -/
def State.flipRate (s : State) : Nat := s.tim.heldRate.getD (s.get R.TIM.RATE_NEXT.RATE)

/-- The word and the pages of a flip come into force, with its rate and the staged view phases. -/
def State.flipApply (s : State) (e : Entry) (n : Nat) (word : ModeW) (ok : List Nat) : State :=
  let fb := s.on R.DEP.MODE_CTRL.FB_ACTIVE
  let s := (s.set R.DEP.MODE_CTRL.FB_ACTIVE 0).applyMode word 2
  let s := if fb then s.set R.DEP.MODE_CTRL.LAST_CAUSE 2 else s
  let s := { s with dep := { s.dep with flipFailed := false, fbAgain := fb && s.thr == 2 } }
  let s := (ok.foldl State.commitPage s).setEpoch e.arg
  let rate := s.flipRate
  match s.role, s.tim.sched with
  | .sender, some c =>
    let new : Sched := ⟨n, c.at n, rate, s.vphaseNext⟩
    let s := { s.set R.TIM.RATE_NEXT.RATE rate with tim := { s.tim with heldRate := none } }
    (if new.rate = c.rate && new.vphase == c.vphase then s.evaluate else s.takeSched new).policies
  | .sender, none => s.evaluate.policies
  | .tile, _ => s.newPlanes.showTimetable.evaluate

/-- The rule that the word of a flip fails, with the rate, phases, cards and Timetable that result from the instant. -/
def State.flipFail (s : State) (word : ModeW) (ok : List Nat) (scnBad : Bool) : Option (Nat × Nat) :=
  let rate := s.flipRate
  let spaced := s.role == .tile || viewSpacingOk rate s.vphaseNext (word.views + 1)
  lowerRule (lowerRule (s.modeFail word (s.envAfter ok rate s.vphaseNext)) (if scnBad then some (0x16, 0xE2) else none))
    (if spaced then none else some (0x01, 0x42))

/-- What an EPOCH_FLIP does once its checks have answered `fail` (R56, R57). -/
def State.flipAnswer (s : State) (e : Entry) (n : Nat) (word : ModeW) (ok : List Nat) (mapBad : Bool) (fail : Option (Nat × Nat)) : State :=
  match fail with
  | some r =>
    let s := if mapBad then s else s.capacityError word [s.envAfter ok s.flipRate s.vphaseNext]
    let s := ({ s with dep := { s.dep with flipFailed := true } }).refuseAll ok
    (s.evaluate.modeReject r.1).darkStart n
  | none =>
    if mapBad then
      let s := ({ s with dep := { s.dep with flipFailed := true } }).refuseAll ok
      s.evaluate.rejectOpen.darkStart n
    else (s.flipApply e n word ok).darkStart n

/-- An EPOCH_FLIP that may launch at departure `n`. -/
def State.flip (s : State) (e : Entry) (n : Nat) : State :=
  let w := (s.launchTime e).getD s.wall
  let mask := if s.dep.last = some n then 1 else 0
  let l := (s.duePages (s.instantMask w mask)).filter jointPages.contains
  let ok := s.ownPass true l
  let mapBad := l.contains B.map && !ok.contains B.map
  let word := s.modeNext
  let s := if mapBad then s.capacityError word [s.envAfter (B.map :: ok) s.flipRate s.vphaseNext] else s
  (s.ownRefuse true l).flipAnswer e n word ok mapBad (s.flipFail word ok (l.contains B.scn && !ok.contains B.scn))

/-- The subframe of view 0 starts once no flip of its instant is still to launch. -/
def State.runScan (s : State) : State :=
  if s.dep.scanDue then ({ s with dep := { s.dep with scanDue := false } }).takeCap.subframe 0 else s

/-- The commits of the instant of a refused flip that its check does not cover: rule 0x05 stops a difference of the mode word
(R56), the other pages commit under their own checks (R79). -/
def State.flipRefused (s : State) (e : Entry) : State :=
  let w := (s.launchTime e).getD s.wall
  let mask := if s.dep.last = some (s.flipDeparture e) then 1 else 0
  (s.refusedLaunch 0x05).commitJoint ((s.duePages (s.instantMask w mask)).filter jointPages.contains)

/-- An EPOCH_FLIP entry (R56). -/
def State.launchFlip (s : State) (e : Entry) : State :=
  let s := if s.inDark then s.flipRefused e else s.flip e (s.flipDeparture e)
  if s.flipAt ((s.launchTime e).getD s.wall) then s else s.runScan

/-! ### SCHEDULE (R119) -/

/-- A schedule is refused by a rule of Table 2-4, or taken. -/
def State.schedAnswer (s : State) (c : Sched) (fail : Option (Nat × Nat)) : State :=
  match fail with
  | some r => s.refusedLaunch r.1
  | none => s.takeSched c

/-- A SCHEDULE entry: the staged rate and phases come into force at departure ENT_TIME, or are refused. Its T0 is the time that the old
schedule gives that departure, with FRAME_SRC 0 as well (DESIGN CHOICE, log entry 112). -/
def State.launchSchedule (s : State) (e : Entry) : State :=
  match s.role, s.tim.sched with
  | .sender, some c =>
    let w := c.at e.time
    let rate := s.get R.TIM.RATE_NEXT.RATE
    let due := s.duePages (s.instantMask w 1)
    let word := if s.flipAt w then s.modeNext else if due.contains B.dep then s.depWord else s.modeCur
    let fail := s.modeFail word (s.envAfter due rate s.vphaseNext)
    let spaced := viewSpacingOk rate s.vphaseNext (word.views + 1)
    s.schedAnswer ⟨e.time, w, rate, s.vphaseNext⟩ (lowerRule fail (if spaced then none else some (0x01, 0x42)))
  | _, _ => s

/-! ### The other actions -/

/-- FW_ACTIVATE (R538). -/
def State.launchActivate (s : State) (e : Entry) : State := s.activate e.arg

/-- RAIL_STEP (R385). -/
def State.launchRailStep (s : State) (e : Entry) : State := if s.role == .tile then s.railStep (e.arg % 2 ^ 24) else s

/-- WALL_SWITCH (R98). -/
def State.launchWallSwitch (s : State) (e : Entry) : State := s.switchWall (e.arg % 2) false

/-- TICKOUT_OFS in 2^-16 ns. -/
def State.tickoutOfs (s : State) : Int := nsU (s.getI R.DEP.TICKOUT_OFS.OFS)

/-- A departure of view `k` has been launched in the cycle of wall time `w`. -/
def State.pastEvent (s : State) (k : Nat) (w : Int) : Bool := s.dep.past.any (fun e => e.1 == k && s.cycleOf e.2 == s.cycleOf w)

/-- The departure of view `k` launches at wall time `w`. -/
def State.noteEvent (s : State) (k : Nat) (w : Int) : State :=
  { s with dep := { s.dep with past := ((k, w) :: s.dep.past).filter (fun e => w - 2200000000 * 65536 < e.2) } }

/-- TICKOUT may emit a pulse (R113). -/
def State.tickoutOn (s : State) : Bool := s.on R.DEP.TICKOUT_CFG.EN && s.timeValid && !s.frozen B.dep

/-- TICKOUT emits a pulse of WIDTH µs, 1 to 255, that starts at `w` (R113). -/
def State.tickoutAt (s : State) (w : Int) : State :=
  s.emit (.pulse 0 (1000 * clampN 1 255 (s.get R.DEP.TICKOUT_CFG.WIDTH)) (s.get R.DEP.TICKOUT_CFG.POL) w)

/-- PULSE (Table 4-12): the GPIO, and TICKOUT where SRC selects PULSE actions. With a negative TICKOUT_OFS that pulse has gone
ahead of the launch (TICKOUT_PULSE), and one whose start has passed is not emitted (R113). -/
def State.launchPulse (s : State) (e : Entry) : State :=
  let w := (s.launchTime e).getD s.wall + s.tickoutOfs
  let out := s.tickoutOn && s.get R.DEP.TICKOUT_CFG.SRC == 2 && 0 ≤ s.tickoutOfs && 0 ≤ s.cycleOf w
  let s := s.emit (.pulse (2 + e.arg % 16) (bitsOf e.arg 8 8 * 1000) 1 s.wall)
  if out then s.tickoutAt w else s

/-- MARK (Table 4-12). -/
def State.launchMark (s : State) (e : Entry) : State := (s.set R.DEP.MARK_TAG.TAG e.arg).ev B.dep Ev.DEP.BOARD_MARK

/-- The launch of entry `i` with whatever action it has: the launches at a step of wall time and those of a write that
comes late (R116, R120). -/
def State.launchAny (s : State) (i : Nat) (late : Bool) : State :=
  let a := (s.entry i).action
  s.launch i a late (fun e s =>
    if a = 1 then s.launchCommit e else if a = 2 then s.launchFlip e else if a = 3 then s.launchSchedule e
    else if a = 4 then s.launchActivate e else if a = 5 then s.launchRailStep e else if a = 6 then s.launchWallSwitch e
    else if a = 7 then s.launchPulse e else if a = 8 then s.launchMark e else s)

end Sys2Proof.Machine
end

