-- ==== Sys2Proof/Machine/Board.lean ====
section
/-!
DEFINITION. The board operations of ENT_CMD (R116, R117) and entries that are missed.
-/
namespace Sys2Proof.Machine

/-- GUARD in 2^-16 ns. -/
def State.guardU (s : State) : Int := usU (clampN 1 255 (s.get R.DEP.DEP_CTRL.GUARD))

/-- The launch time of `e` is known and less than `u` away. -/
def State.nearer (s : State) (e : Entry) (u : Int) : Bool :=
  match s.launchTime e with
  | some w => w - s.wall < u
  | none => false

/-- The entry that the staging registers hold. -/
def State.stagedEntry (s : State) : Entry :=
  { time := s.get64 R.DEP.ENT_TIME_LO.TIME R.DEP.ENT_TIME_HI.TIME, action := s.get R.DEP.ENT_ACT.ACTION
    form := s.get R.DEP.ENT_ACT.FORM, lateOk := s.get R.DEP.ENT_ACT.LATE_OK, arg := s.get R.DEP.ENT_ARG.ARG
    ofs := s.getI R.DEP.ENT_OFS.OFS, state := .armed }

/-- A write refused with BAD_ACTION (R116). -/
def State.badAction (s : State) (e : Entry) : Bool :=
  8 < e.action || ((e.action == 2 || e.action == 3) && (e.form == 0 || e.ofs != 0)) ||
  (e.action == 3 && 2 ≤ s.get R.TIM.TIM_CTRL.FRAME_SRC) || (e.action == 7 && bitsOf e.arg 8 8 == 0)

/-- The time of `e` has passed. -/
def State.past (s : State) (e : Entry) : Bool := s.nearer e 1

/-- What a WRITE of entry `e` in place `i` answers (Table 4-13), in the order of R116. DESIGN CHOICE (log entry 83): R117 does not
say where the FULL check stands in that order; it is made after BAD_ACTION, GUARD and the freeing WRITE of NONE, and before
PAST. -/
def State.writeResult (s : State) (i : Nat) (e : Entry) : Nat :=
  if s.badAction e then 3
  else if (s.entry i).state == .armed && s.nearer (s.entry i) s.guardU then 1
  else if e.action = 0 then 0
  else if s.armedCount = 256 then 4
  else if e.action = 3 && s.nearer e (2 * periodU (s.get R.TIM.RATE_CUR.RATE)) then 2
  else if e.lateOk = 0 && s.nearer e s.guardU then 2
  else 0

/-- ENT_CMD.OP = WRITE with an entry `e` for place `i`: it is written, freed or launched at once with LATE. -/
def State.entWrite (s : State) (i : Nat) (e : Entry) : State :=
  let r := s.writeResult i e
  let s := s.set R.DEP.ENT_STATUS.RESULT r
  if r != 0 then s.showBoard
  else if e.action = 0 then ({ s with dep := { s.dep with board := s.dep.board.filter (fun x => x.1 != i) } }).showBoard
  else
    let late := e.lateOk == 1 && s.past e
    let s := (s.setEntry i e).showBoard
    if late then s.launchAny i true else s

/-- ENT_CMD.OP = READ. -/
def State.entRead (s : State) (i : Nat) : State :=
  let e := s.entry i
  let s := (s.set64 R.DEP.ENT_TIME_LO.TIME R.DEP.ENT_TIME_HI.TIME e.time).set R.DEP.ENT_ACT.ACTION e.action
  let s := ((s.set R.DEP.ENT_ACT.FORM e.form).set R.DEP.ENT_ACT.LATE_OK e.lateOk).set R.DEP.ENT_ARG.ARG e.arg
  ((s.setI R.DEP.ENT_OFS.OFS e.ofs).set R.DEP.ENT_STATUS.RESULT 0).showBoard

/-- ENT_CMD.OP = CANCEL. -/
def State.entCancel (s : State) (i : Nat) : State :=
  let e := s.entry i
  if e.state != .armed then (s.set R.DEP.ENT_STATUS.RESULT 0).showBoard
  else if s.nearer e s.guardU then (s.set R.DEP.ENT_STATUS.RESULT 1).showBoard
  else ((s.set R.DEP.ENT_STATUS.RESULT 0).setEntry i { e with state := .cancelled }).showBoard

/-- The entry index in ENT_SEL. -/
def State.entSel (s : State) : Nat := s.get R.DEP.ENT_SEL.IDX

/-- FORM 1 entries below the first frame departure of the first schedule become MISSED (R115). -/
def State.missBefore (s : State) (first : Nat) : State :=
  s.armedEntries.foldl (fun s e => if e.2.form == 1 && e.2.time < first then s.miss e.1 else s) s

/-- An entry's time has passed while TIME_VALID is 0 (R110, R117). -/
def State.entMissed (s : State) (i : Nat) : State :=
  if (s.entry i).state == .armed && !s.timeValid && !s.frozen B.dep then s.miss i else s

end Sys2Proof.Machine
end

