-- ==== Sys2Proof/Machine/Words.lean ====
section
/-!
DEFINITION. Register words put together from their fields: which addresses are mirrored between the senders of a pair
(R476), and the values of a word as staged and in force.
-/
namespace Sys2Proof.Machine

/-- The field of a row's copy `i` in the page at base `b`. -/
def FieldRow.fld (f : FieldRow) (b off i : Nat) : Fld := ⟨b + off, f.lsb, f.width, f.rst i⟩

/-- The fields of the header register at offset `off` that software can write, but for SRST and COMMIT (Tables 3-3 to 3-4C). -/
def headerFields (b off : Nat) : List Fld :=
  if off = 0x8 then [R.PG.EN b, R.PG.FREEZE b, R.PG.CGRP b]
  else if off = 0x14 then [R.PG.EVT_EN b]
  else if off = 0x20 then [R.PG.RT_TENANT b, R.PG.RT_VECTOR b, R.PG.RT_HOST b, R.PG.RT_MC b, R.PG.RT_PIN b, R.PG.RT_LINE b]
  else []

/-- The fields of the register at `addr` with their access codes. -/
def regFields (addr : Nat) : List (Fld × Acc) :=
  match pageAt addr with
  | none => []
  | some (k, _) =>
    let b := addr / 0x1000 * 0x1000
    let off := addr % 0x1000
    if off < 0x100 then (headerFields b off).map (fun f => (f, .rw))
    else match rowAt k off with
      | some (r, i) => r.fields.map (fun f => (f.fld b off i, f.acc))
      | none => []

/-- A word with the fields of a list, read by `val`. -/
def wordWith (l : List (Fld × Acc)) (val : Fld → Acc → Nat) : Nat := l.foldl (fun w f => w + 2 ^ f.1.lsb * val f.1 f.2) 0

/-- A field that a WRITE record carries (R476): RW and RWS. -/
def Acc.mirrors (a : Acc) : Bool := a == .rw || a == .rws

/-- Registers whose RW and RWS fields the lead mirrors (R476): in DEP those of R64, in LNE only LINE_ID. -/
def mirroredReg (addr : Nat) : Bool :=
  let b := addr / 0x1000 * 0x1000
  let off := addr % 0x1000
  if b = B.dep then [0x104, 0x10C, 0x110].contains off
  else if b = B.lne 0 || b = B.lne 1 then off == 0x108
  else ([B.map, B.cmp, B.spire, B.col, B.otg].contains b || (List.range 8).any (fun i => b == B.layer (2 * i))) &&
    (regFields addr).any (fun f => f.2.mirrors)

/-- The staged halves of the mapping-card and Spire windows (Table 3-6). -/
def mirroredWindow (addr : Nat) : Bool := (0x400000 ≤ addr && addr < 0x600000) || (0x800000 ≤ addr && addr < 0x900000)

/-- The value of a mirrored register as staged or written, and in force. -/
def State.stagedWord (s : State) (addr : Nat) : Nat := wordWith (regFields addr) (fun f a => if a.mirrors then s.get f else 0)
def State.forceWord (s : State) (addr : Nat) : Nat :=
  if addr = R.DEP.MODE_NEXT.TIMING.addr then wordWith (regFields R.DEP.MODE_CUR.TIMING.addr) (fun f _ => s.get f)
  else wordWith (regFields addr) (fun f a => if a == .rws then s.cur f else if a == .rw then s.get f else 0)

/-- The addresses of all mirrored registers. -/
def mirroredRegs : List Nat :=
  (pageRows.flatMap (fun r => (List.range r.2.2).flatMap (fun i =>
    (List.range 0x400).map (fun w => r.2.1 + i * 0x1000 + 4 * w)))).filter mirroredReg

/-- Store the fields of the register at `addr` from a word, those whose access code `p` admits, with `put`. -/
def State.putFields (s : State) (addr v : Nat) (p : Acc → Bool) (put : State → Fld → Acc → Nat → State) : State :=
  (regFields addr).foldl (fun s f => if p f.2 then put s f.1 f.2 (bitsOf v f.1.lsb f.1.width) else s) s

end Sys2Proof.Machine
end

