-- ==== Sys2Proof/Machine/Telemetry.lean ====
section
/-!
DEFINITION. The epoch digest (R495) and telemetry: a tile's record (R287) and what a sender does with the records of its
stops (R288, R480).
-/
namespace Sys2Proof.Machine

/-! ### The digest -/

/-- CRC-64 of R495: polynomial 0x42F0_E1EB_A9EA_3693, reflected. -/
def crc64 (l : List Nat) : Nat := crcRefl 0xC96C5795D7870F42 (2 ^ 64 - 1) l ^^^ (2 ^ 64 - 1)

/-- The mode word AND 0x0001_0310. -/
def ModeW.key (m : ModeW) : Nat := 16 * m.timing + 256 * m.views + 65536 * m.redun

/-- The digest of an epoch number, mode word, rate code, DARK_FRAMES and view phases. -/
def digestOf (epoch : Nat) (m : ModeW) (rate dark : Nat) (vphase : List Nat) : Nat :=
  crc64 (numBytes 4 epoch ++ numBytes 4 m.key ++ [rate, dark, 0, 0] ++ vphase.flatMap (numBytes 4))

/-- The digest in force. -/
def State.digestCur (s : State) : Nat :=
  digestOf s.dep.epoch s.modeCur (s.get R.TIM.RATE_CUR.RATE) (s.get R.DEP.MODE_CTRL.DARK_FRAMES) s.vphaseCur

/-- The pending digest of a sender. -/
def State.digestPend (s : State) : Nat :=
  digestOf s.clu.cEpoch s.modeNext (s.get R.TIM.RATE_NEXT.RATE) (s.get R.DEP.MODE_CTRL.DARK_FRAMES) s.vphaseNext

/-! ### The record of a tile -/

/-- EVT_SUMMARY: bit i for row i of Table 3-5. -/
def State.evtSummary (s : State) : Nat :=
  (List.range pageRows.length).foldl (fun a i =>
    let r := pageRows.getD i (.idn, 0, 0)
    let hit := (List.range r.2.2).any (fun k =>
      let b := r.2.1 + k * 0x1000
      s.live b && s.on (R.PG.RT_LINE b) && s.pendEn b != 0)
    a + 2 ^ i * bit hit) 0

/-- IDENT: the segment FRAME mod 4. -/
def State.ident (s : State) (n : Nat) : Nat :=
  let k := n % 4
  if k = 0 then s.get R.IDN.LOT_LO.LOT + 2 ^ 32 * s.get R.IDN.LOT_HI.LOT
  else if k = 1 then s.get (R.IDN.SERIAL.V 0) + 2 ^ 32 * s.get (R.IDN.SERIAL.V 1)
  else if k = 2 then
    s.get (R.IDN.SERIAL.V 2) + 2 ^ 32 * s.get R.IDN.DIE.WAFER + 2 ^ 40 * s.get R.IDN.DIE.DIE_X +
      2 ^ 48 * s.get R.IDN.DIE.DIE_Y + 2 ^ 56 * s.get R.IDN.IDN_TYPE.STEPPING
  else s.get R.IDN.IDN_TYPE.TYPE_ID + 2 ^ 16 * s.get (R.LNK.CAPX_STAT.LEVEL 0)

/-- STATE of the record. -/
def State.teleState (s : State) : Nat :=
  s.get R.DEP.MODE_CHECK.VALID + 2 * bit (!s.dep.flipFailed) + 4 * bit s.timeValid + 8 * s.get R.TIM.TIM_STAT.HOLDOVER +
    16 * s.get (R.LNE.HOLD_STAT.STATE 0) + 64 * bit (s.thr == 2 || s.thr == 3)

/-- The record of frame departure `n` for the sender behind port `p` (Table 9-8). -/
def State.teleMsg (s : State) (n p : Nat) : TelemMsg := {
  relief := ((s.stream p).hdr.map (·.relief)).getD false, stop := s.ownStop p, other := s.ownStop (1 - p), frame := n % 2 ^ 32
  epoch := s.dep.epoch, digest := s.digestCur, state := s.teleState
  rx := s.line.rx + 4 * bit s.line.spireBad + 8 * bit s.line.underrun + 16 * bit s.line.poison
  rule := s.get R.DEP.MODE_CHECK.RULE, temp := uns 8 (roundDiv (s.getI R.HKT.TEMP_MAX.T) 16)
  timeErr := s.get (R.TIM.DOM_OFFSET.OFFSET p), lcrc := min 65535 s.line.lcrc, faults := min 65535 (s.get R.LFM.FAULT_CNT.COUNT)
  evt := s.evtSummary, ident := s.ident n
  rails := ((List.range 24).filter (fun c => s.railState c == Rail.fault)).foldl (fun a c => a + 2 ^ c) 0
  zones := s.get R.LFM.LFM_STAT.ZONES, underruns := min 65535 s.line.underruns }

/-- The record of departure `n` goes out of port U, and out of port D where a sender is there (R287); a new period begins. -/
def State.sendTelemetry (s : State) (n : Nat) : State :=
  let s := if s.on (R.LNE.LNE_CTRL.TEL_EN 0) && s.works (B.lne 0) && !s.on R.FWU.FWU_STAT.SAFE then
      let u := s.send 0 (.telem (s.teleMsg n 0))
      if s.dual && ((s.port 1).peerFn == some 0 || (s.port 1).peerFn == some 1) then u.send 1 (.telem (s.teleMsg n 1)) else u
    else s
  { s with line := { s.line with lcrc := 0, spireBad := false, underrun := false, poison := false } }

/-! ### The records at a sender -/

/-- TEL_EN of a sender's port. -/
def State.telOn (s : State) (p : Nat) : Bool := s.on (R.LNE.LNE_CTRL.TEL_EN p) && s.works (B.lne p)

/-- A record shows rows that the two streams delivered differently (R480). -/
def State.mismatch (s : State) (p k : Nat) : State :=
  let s := (s.count R.RDN.MISMATCH_CNT.COUNT).ev B.rdn Ev.RDN.MISMATCH
  if s.get R.RDN.RDN_STAT.MIS_STOP = 0 then (s.set R.RDN.RDN_STAT.MIS_STOP k).set R.RDN.RDN_STAT.MIS_PORT p else s

/-- TELEM: a record arrives on port `p` (R288, R480). -/
def State.telem (s : State) (p : Nat) (m : TelemMsg) : State :=
  if !s.telOn p || m.stop = 0 || 254 < m.stop then s
  else
    let s := s.dramWrite 4 (s.telRecord p m.stop) (Msg.telem m).bytes
    let e := (s.lineTx p).stop m.stop
    let e := { e with tele := some m, level := if m.frame % 4 = 3 then bitsOf m.ident 16 8 else e.level }
    let e := if m.stop ≤ s.lastStop p then { e with misses := 0, silent := false } else e
    let s := (s.setLineTx p ((s.lineTx p).setStop e)).showSilent p
    if s.dual && s.works B.rdn && m.lcrc != 0 then s.mismatch p m.stop else s

/-- The record of departure `n` of stop `k` has arrived. -/
def LineTx.told (x : LineTx) (k n : Nat) : Bool := match (x.stop k).tele with | some m => m.frame == n % 2 ^ 32 | none => false

/-- Stop `k` of port `p` has missed a record; the third in a row makes it silent (R288). -/
def State.telMiss (s : State) (p k : Nat) : State :=
  let e := (s.lineTx p).stop k
  let falls := !e.silent && 3 ≤ e.misses + 1
  let s := s.setLineTx p ((s.lineTx p).setStop { e with misses := e.misses + 1, silent := e.silent || falls })
  ((s.count (R.LNE.TEL_MISS.COUNT p)).showSilent p).evIf falls (B.lne p) Ev.LNE.STOP_SILENT

/-- Before a departure that follows departure `n`: the records of `n` that have not arrived. -/
def State.telMisses (s : State) (n : Nat) : State :=
  s.forN 2 (fun s p =>
    if !s.telOn p then s
    else s.forN (s.lastStop p) (fun s i => if (s.lineTx p).told (i + 1) n then s else s.telMiss p (i + 1)))

/-- TELEM (R288): a telemetry record arrives on a line port of a sender. -/
def execTelem (p : Nat) (m : TelemMsg) (t : Nat) (s : State) : Host.Outcome State Fault Refusal :=
  runIn .sender (fun s =>
    let s := s.tick t
    if s.portActive p && !s.on R.FWU.FWU_STAT.SAFE then s.telem p m else s) s

end Sys2Proof.Machine
end

