-- ==== Sys2Proof/Machine/Relief.lean ====
section
/-!
DEFINITION. The mirrored state of a pair (R476 to R479): what the lead sends, and what the relief does with it at a
departure.
-/
namespace Sys2Proof.Machine

/-! ### The lead -/

/-- This sender mirrors: it leads a DUAL_ENDED line. -/
def State.mirrors (s : State) : Bool := s.role == .sender && s.dual && s.get R.RDN.RDN_STAT.STATE == 1 && s.works B.rdn

/-- Send a record out of both line ports with the next SEQ (R477). -/
def State.mirror (s : State) (r : MirrorRec) : State :=
  let q := (s.get R.RDN.MIRROR_SEQ.TX + 1) % 65536
  let m : MirrorMsg := ⟨s.srcRelief, q, r⟩
  ((s.set R.RDN.MIRROR_SEQ.TX q).send 0 (.mirror m)).send 1 (.mirror m)

/-- The stop counts that a record at `loc` carries: those of the lead's ports with the card table (R170), else 0. DESIGN CHOICE (log
entry 95): they stand in bytes 6 and 7 of Table 16-3, which names no place for them. -/
def State.mirrorStops (s : State) (loc p : Nat) : Nat :=
  if 0x400000 ≤ loc && loc < 0x800000 then s.get (R.LNE.LNE_STAT.N p) else 0

/-- A WRITE or an IMAGE record (Table 16-3). -/
def State.writeRec (s : State) (loc : Nat) (l : List Nat) : MirrorRec := .write loc l (s.mirrorStops loc 0) (s.mirrorStops loc 1)
def State.imageRec (s : State) (loc : Nat) (l : List Nat) : MirrorRec := .image loc l (s.mirrorStops loc 0) (s.mirrorStops loc 1)

/-- Software has written the register at `addr`. -/
def State.mirrorReg (s : State) (addr : Nat) : State :=
  if s.mirrors && mirroredReg addr then s.mirror (s.writeRec addr [s.stagedWord addr]) else s

/-- Software has written `n` bytes of a window from `addr`: the words that hold them, with the writes that stall (R167, R192). -/
def State.mirrorWindow (s : State) (addr n : Nat) : State :=
  if s.mirrors && mirroredWindow addr then
    let a := addr / 4 * 4
    let word (x : Nat) : Nat :=
      if x < 0x800000 then s.cardSettled (x - 0x400000) else readLE zeroB s.spireSettled (x - 0x800000) 4
    s.mirror (s.writeRec a ((List.range ((addr + n - a + 3) / 4)).map (fun i => word (a + 4 * i))))
  else s

/-- The pages whose commits the lead mirrors. -/
def mirrorsCommit (b : Nat) : Bool := mirrorPages.contains b

/-- A commit of the page at `b` has been armed or disarmed by software. -/
def State.mirrorArm (s : State) (b : Nat) (on : Bool) : State :=
  if s.mirrors && mirrorsCommit b then s.mirror (.arm on (b + 8)) else s

/-- ENT_ACT as a word. -/
def Entry.actWord (e : Entry) : Nat := e.action + 256 * e.form + 512 * e.lateOk

/-- Software has written (OP 1) or cancelled (OP 3) the board entry at `i`. -/
def State.mirrorEntry (s : State) (i : Nat) (e : Entry) (op : Nat) : State :=
  if s.mirrors && e.action != 4 then s.mirror (.entry i e.time e.actWord e.arg e.ofs op) else s

/-- The words of a window, by offset, that differ between two contents. -/
def changedWords (dflt : Nat → Byte) (old new : List Host.Cell) : List Nat :=
  (((old ++ new).map (fun c => c.1 / 4 * 4)).eraseDups).filter (fun o => readLE dflt old o 4 != readLE dflt new o 4)

/-- What a soft reset of the page at `b` has changed beside the state `was` before it reaches the relief as if software had written it
(R170, R208, R476): the disarm, the registers, the staged half of the page's window and the board entries. -/
def State.mirrorReset (s was : State) (b : Nat) : State :=
  if !(s.mirrors && mirrorsCommit b) then s
  else
    let s := if was.on (R.PG.COMMIT_PENDING b) then s.mirrorArm b false else s
    let l := ((List.range 0x400).map (fun w => b + 4 * w)).filter (fun a => mirroredReg a && was.stagedWord a != s.stagedWord a)
    let s := l.foldl State.mirrorReg s
    if b = B.map then (changedWords cardD was.map.stage s.map.stage).foldl (fun s o => s.mirrorWindow (0x400000 + o) 4) s
    else if b = B.spire then (changedWords zeroB was.cmp.spStage s.cmp.spStage).foldl (fun s o => s.mirrorWindow (0x800000 + o) 4) s
    else if b = B.dep then was.dep.board.foldl (fun s e => if s.dep.board.any (fun x => x.1 == e.1) then s else s.mirrorEntry e.1 e.2 3) s
    else s

/-- The words of a window in records of at most 12. -/
def windowRecords (base bytes : Nat) (word : Nat → Nat) : List (Nat × List Nat) :=
  (List.range ((bytes / 4 + 11) / 12)).map (fun i =>
    (base + 48 * i, (List.range (min 12 (bytes / 4 - 12 * i))).map (fun k => word (48 * i + 4 * k))))

/-- The records of an image (R479): values in force, and staged values. -/
def State.imageRecords (s : State) : List MirrorRec :=
  let inForce := (mirroredRegs.map (fun a => (a, [s.forceWord a]))) ++
    windowRecords 0x400000 0x200000 (fun o => readLE cardD s.map.force o 4) ++
    windowRecords 0x800000 0x100000 (fun o => readLE zeroB s.cmp.spForce o 4)
  let staged := (mirroredRegs.map (fun a => (a, [s.stagedWord a]))) ++
    windowRecords 0x400000 0x200000 (fun o => readLE cardD s.map.stage o 4) ++
    windowRecords 0x800000 0x100000 (fun o => readLE zeroB s.cmp.spStage o 4)
  inForce.map (fun r => s.imageRec r.1 r.2) ++ staged.map (fun r => s.writeRec r.1 r.2) ++
  (mirrorPages.filter (fun b => s.on (R.PG.COMMIT b))).map (fun b => .arm true (b + 8)) ++
  (s.armedEntries.filter (fun e => e.2.action != 4)).map (fun e => .entry e.1 e.2.time e.2.actWord e.2.arg e.2.ofs 1)

/-- The lead sends an image to a far end that asks for one, unless one is still under way: an image takes at most 70 ms
plus two frame periods (R479). -/
def State.sendImage (s : State) : State :=
  let due := match s.rdn.imaging with
    | none => true
    | some w => w + usU 70000 + 2 * periodU (s.get R.TIM.RATE_CUR.RATE) ≤ s.wall
  if !s.mirrors || !due then s
  else
    let l := s.imageRecords
    let s := { s with rdn := { s.rdn with imaging := some s.wall } }
    (l.foldl State.mirror (s.mirror (.imageStart l.length))).mirror (.imageEnd s.digestCur)

/-! ### Departures -/

/-- The commits of departure `n` at wall time `w` begin: the groups that transfer are noted, those that go with an epoch flip of the
instant at once (R478). -/
def State.noteGroups (s : State) (n : Nat) (w : Int) : State :=
  let flip := if s.flipAt w then (s.duePages (s.instantMask w 1)).filter (fun b => jointPages.contains b && mirrorsCommit b) else []
  { s with rdn := { s.rdn with noting := true, groups := (n, flip.foldl (fun m b => m ||| 2 ^ s.get (R.PG.CGRP b)) 0) } }

/-- The commits of the departure are over. -/
def State.notedGroups (s : State) : State := { s with rdn := { s.rdn with noting := false } }

/-- The FRAME records of departure `n` (R478). -/
def State.mirrorFrame (s : State) (n : Nat) : State :=
  if !s.mirrors then s
  else s.forN 2 (fun s part => s.mirror (.frame part n s.rdn.groups.2 s.dep.epoch (s.get R.COL.MFADE_POS.POS)
    ((List.range 8).map (fun i => s.get (R.LAY.L_FADE_POS.POS (8 * part + i))))))

/-- A word at `loc` of the card window as a relief takes it (R170): in the first word of a card STOP k becomes N + 1 - k, as an 8-bit
number, with N of the card's port. -/
def reliefWord (loc v : Nat) (stopsA stopsB : Nat) : Nat :=
  let o := loc - 0x400000
  if 0x400000 ≤ loc && o < 0x40000 && o % 128 = 0 then
    let n := if bitAt v 1 then stopsB else stopsA
    v - 16 * bitsOf v 4 8 + 16 * ((n + 257 - bitsOf v 4 8) % 256)
  else v

/-- MAP.MIRROR_N shows the stop counts in use (R170). -/
def State.mirrorN (s : State) (loc stopsA stopsB : Nat) : State :=
  if 0x400000 ≤ loc && loc < 0x800000 then (s.set R.MAP.MIRROR_N.N_A stopsA).set R.MAP.MIRROR_N.N_B stopsB else s

/-- The relief's image comes into force (R479). The mode word in force goes in the record of MODE_NEXT, and its coding comes into force as
at a commit departure (DEDUCED). -/
def State.takeImage (s : State) : State :=
  let l := s.rdn.image
  let s := l.foldl (fun s r =>
    if 0x800000 ≤ r.1 then
      { s with cmp := { s.cmp with spForce := (r.2.foldl (fun (a : List Host.Cell × Nat) v => (writeLE zeroB a.1 a.2 4 v, a.2 + 4)) (s.cmp.spForce, r.1 - 0x800000)).1 } }
    else if 0x400000 ≤ r.1 then
      { s with map := { s.map with force := (r.2.foldl (fun (a : List Host.Cell × Nat) v => (writeLE cardD a.1 a.2 4 v, a.2 + 4)) (s.map.force, r.1 - 0x400000)).1 } }
    else if r.1 = R.DEP.MODE_NEXT.TIMING.addr then
      s.modeChange (s.putFields R.DEP.MODE_CUR.TIMING.addr (r.2.getD 0 0) (fun _ => true) (fun s f _ v => s.set f v)).modeCur 1
    else s.putFields r.1 (r.2.getD 0 0) (· == .rws) (fun s f _ v => s.setCur f v)) s
  let s := { s with rdn := { s.rdn with image := [], imageEnd := none } }
  s.showCards.showPanels.evaluate

/-- A departure at a relief that waits for its image: it enters READY, or asks again (R479). -/
def State.imageDeparture (s : State) : State :=
  match s.rdn.imageEnd with
  | none => s
  | some d =>
    if s.get R.RDN.RDN_STAT.STATE != 2 || !s.works B.rdn then s
    else if d = s.digestCur then
      let s := s.takeImage
      let ms := (s.wall - s.rdn.syncAt) / 65536000000
      ((s.set R.RDN.RDN_STAT.STATE 3).set R.RDN.SYNC_MS.MS (min ms.toNat 65535)).ev B.rdn Ev.RDN.SYNC_DONE
    else { s with rdn := { s.rdn with image := [], imageEnd := none } }

/-- The FRAME records of the departure before `n` at a relief: its fades take their positions, and commit groups that
differ lose the image (R478). -/
def State.reliefDeparture (s : State) (n : Nat) : State :=
  let st := s.get R.RDN.RDN_STAT.STATE
  match s.rdn.frameRec with
  | none => s
  | some (m, g) =>
    if (st != 2 && st != 3) || m + 1 != n || !s.works B.rdn then s
    else
      let s := s.rdn.fades.foldl (fun s e =>
        if e.1 = 16 then s.set R.COL.MFADE_POS.POS e.2 else s.set (R.LAY.L_FADE_POS.POS e.1) e.2) s
      let own := if s.rdn.groups.1 = m then s.rdn.groups.2 else 0
      if st = 3 && own != g then (s.count R.RDN.MIRROR_LATE.COUNT).syncLost else s

end Sys2Proof.Machine
end

