-- ==== Sys2Proof/Machine/Cluster.lean ====
section
/-!
DEFINITION. The cluster (R492 to R503): member records, epochs prepared, armed and caught up, master loss, digests, units out
of time and the protocol level.
-/
namespace Sys2Proof.Machine

/-- The cluster unit works. -/
def State.cluWorks (s : State) : Bool := s.role == .sender && s.works B.clu && !s.on R.FWU.FWU_STAT.SAFE

/-- Member number and station master (R492). -/
def State.ownMember (s : State) : Nat := s.get R.CLU.CLU_CFG.MEMBER
def State.isMaster (s : State) : Bool := s.get R.CLU.CLU_CFG.MASTER == s.ownMember

/-- PHASE: 0 idle, 1 prepared, 2 armed. -/
def State.cluPhase (s : State) : Nat := s.get R.CLU.CLU_STAT.PHASE
def State.setPhase (s : State) (v : Nat) : State := s.set R.CLU.CLU_STAT.PHASE v

/-- The next departure whose low 32 bits are `v` (R492). -/
def State.depNumber (s : State) (v : Nat) : Nat := s.dep.next + (v + 2 ^ 32 - s.dep.next % 2 ^ 32) % 2 ^ 32

/-- Whether a 32-bit departure number is `n` or later, by half the range. -/
def atOrAfter (v n : Nat) : Bool := (v + 2 ^ 32 - n % 2 ^ 32) % 2 ^ 32 < 2 ^ 31

/-- The enumerated stops of the ACTIVE line ports, with what is known of them. -/
def State.liveStops (s : State) : List (Nat × StopSt) :=
  (List.range 2).flatMap (fun p =>
    if s.portActive p then (List.range (s.lastStop p)).map (fun i => (p, (s.lineTx p).stop (i + 1))) else [])

/-! ### Units out of time (R502) -/

/-- The magnitude of a DOMd_OFFSET value, in 2^-4 ns. -/
def offsetMag (v : Nat) : Nat := (sgn 32 v).natAbs

/-- Whether a unit is OUT_OF_TIME and its departures in a row at 50 ns or less, after one with magnitude `m` (2^-4 ns). -/
def outStep (out : Bool) (calm m : Nat) : Bool × Nat :=
  let calm := if m ≤ 800 then calm + 1 else 0
  if 1600 < m then (true, 0) else if out && calm < 16 then (true, calm) else (false, min calm 16)

/-- TIME_ERR and OUT_OF_TIME at a departure. -/
def State.timeErrors (s : State) : State :=
  let own := offsetMag (s.get (R.TIM.DOM_OFFSET.OFFSET s.wallDom))
  let stops := s.liveStops
  let mags := stops.filterMap (fun e => e.2.tele.map (fun m => offsetMag m.timeErr))
  let s := s.set R.CLU.TIME_ERR.NS (roundDiv (mags.foldl max own : Nat) 16).toNat
  let (out, calm) := outStep s.clu.selfOut s.clu.calm own
  let new := out && !s.clu.selfOut
  let s := { s with clu := { s.clu with selfOut := out, calm := calm } }
  let (s, new) := stops.foldl (fun (a : State × Bool) e =>
    match e.2.tele with
    | none => a
    | some m =>
      let (out, calm) := outStep e.2.out e.2.calm (offsetMag m.timeErr)
      let s := a.1.setLineTx e.1 ((a.1.lineTx e.1).setStop { e.2 with out := out, calm := calm })
      (s, a.2 || (out && !e.2.out))) (s, new)
  let l := (s.liveStops.filter (fun e => e.2.out)).map (fun e => (e.1, e.2.stop))
  let s := { s with clu := { s.clu with outStops := l } }
  (s.set R.CLU.CLU_STAT.OUT_OF_TIME (bit (s.clu.selfOut || l != []))).evIf new B.clu Ev.CLU.OUT_OF_TIME

/-! ### Records -/

/-- The last record of member `m`. -/
def State.recOf (s : State) (m : Nat) : Option ClusterRec := s.clu.recs.find? (fun r => r.member == m)

/-- The record of member `m` for departure `n` has arrived. -/
def State.recAt (s : State) (m n : Nat) : Bool := match s.recOf m with | some r => atOrAfter r.frame n | none => false

/-- SEEN for departure `n`. -/
def State.showSeen (s : State) (n : Nat) : State :=
  s.set R.CLU.SEEN.MASK (((List.range 32).filter (fun m => s.recAt m n)).foldl (fun a m => a + 2 ^ m) 0)

/-- The numbers of the expected members. -/
def State.members (s : State) : List Nat := (List.range 32).filter (bitAt (s.get R.CLU.MEMBERS.MASK))

/-- A digest of `who` compared at a departure: how many departures in a row it has differed (R501). -/
def differStep (n : Nat) (same : Bool) : Nat := if same then 0 else min 3 (n + 1)

/-- Compare the digests of the records of departure `n`, outside the dark frames. -/
def State.digestCheck (s : State) (n : Nat) : State :=
  if s.inDark then s
  else
    let d := s.digestCur
    let (s, bad) := (s.clu.recs.filter (fun r => atOrAfter r.frame n)).foldl (fun (a : State × Option Nat) r =>
      let k := differStep (lookupD a.1.clu.differs r.member 0) (r.digest == d)
      ({ a.1 with clu := { a.1.clu with differs := putD a.1.clu.differs r.member k 0 } },
        if k = 2 && a.2.isNone then some r.member else a.2)) (s, none)
    let (s, stop) := s.liveStops.foldl (fun (a : State × Option (Nat × Nat)) e =>
      match e.2.tele with
      | none => a
      | some m =>
        if m.frame != n % 2 ^ 32 then a
        else
          let k := differStep e.2.differs (m.digest == d)
          (a.1.setLineTx e.1 ((a.1.lineTx e.1).setStop { e.2 with differs := k }),
            if k = 2 && a.2.isNone then some (e.1, e.2.stop) else a.2)) (s, none)
    match bad, stop with
    | none, none => s
    | some m, _ => (((s.set R.CLU.DIGEST_BAD.MEMBER m).set R.CLU.DIGEST_BAD.STOP 0).set R.CLU.DIGEST_BAD.PORT 0).ev B.clu Ev.CLU.DIGEST_MISMATCH
    | none, some (p, k) => ((s.set R.CLU.DIGEST_BAD.STOP k).set R.CLU.DIGEST_BAD.PORT p).ev B.clu Ev.CLU.DIGEST_MISMATCH

/-- Records of departure `n` that have not arrived before the next one: REC_MISS, and the master's run of them (R500). -/
def State.recMisses (s : State) (n : Nat) : State :=
  let lost := (s.members.filter (fun m => m != s.ownMember && !s.recAt m n)).length
  let s := s.count R.CLU.REC_MISS.COUNT lost
  let k := if s.isMaster || s.recAt (s.get R.CLU.CLU_CFG.MASTER) n then 0 else s.clu.misses + 1
  { s with clu := { s.clu with misses := k } }

/-! ### READY (R497) -/

/-- Every enumerated stop reported READY for departure `n`. -/
def State.stopsReady (s : State) (n : Nat) : Bool :=
  s.liveStops.all (fun e => match e.2.tele with | some m => m.frame == n % 2 ^ 32 && bitAt m.state 0 | none => false)

/-- The pending digest of the master. -/
def State.masterDigest (s : State) : Option Nat :=
  if s.isMaster then some s.digestPend else (s.recOf (s.get R.CLU.CLU_CFG.MASTER)).map (·.pDigest)

/-- READY after departure `n`. -/
def State.readyNow (s : State) (n : Nat) : Bool :=
  s.on R.DEP.MODE_CHECK.VALID && s.masterDigest == some s.digestPend && s.stopsReady n

/-- Stops whose last telemetry says that the epoch is not applied. -/
def State.lateStops (s : State) : List (Nat × Nat) :=
  (s.liveStops.filter (fun e => match e.2.tele with | some m => !bitAt m.state 1 | none => false)).map (fun e => (e.1, e.2.stop))

/-- This member is late: the sender or one of its stops (R498, R499). -/
def State.memberLate (s : State) : Bool := s.dep.flipFailed || s.lateStops != []

/-- What a departure after departure `n` finds of the cluster: misses, digests, time errors, READY and LATE. -/
def State.cluBefore (s : State) (n : Nat) : State :=
  if !s.cluWorks then (if s.enabled B.clu then s else { s with clu := { s.clu with selfOut := false, calm := 0, outStops := [] } })
  else
    let s := ((s.recMisses n).digestCheck n).timeErrors
    let s := s.set R.CLU.CLU_STAT.READY (bit (s.readyNow n))
    let late := s.memberLate
    let was := s.on R.CLU.CLU_STAT.LATE
    (s.set R.CLU.CLU_STAT.LATE (bit late)).evIf (late && !was) B.clu Ev.CLU.EPOCH_LATE

/-! ### Flips of an epoch -/

/-- The entry of R498. -/
def flipEntry (n epoch : Nat) : Entry := ⟨n, 2, 1, 0, epoch, 0, .armed⟩

/-- A request of the cluster unit to stop `k` of port `p`: ISSUER 16, with a TAG that the spec leaves open. -/
def State.cluRequest (s : State) (p k op loc mask : Nat) (data : List Nat) : State :=
  let req : ReqMsg := { op := op, count := data.length, stop := k, relief := false, src := 0
                        tag := Config.choice s.fresh % 65536, didx := 0, loc := loc, mask := mask, data := data }
  s.draw.request p req .cluster 16

/-- The seven words from ENT_SEL to ENT_CMD that write entry `e` at place `i`. -/
def entryWords (i : Nat) (e : Entry) : List Nat :=
  [i, e.time % 2 ^ 32, e.time / 2 ^ 32 % 2 ^ 32, e.actWord, e.arg, uns 32 e.ofs, 1]

/-- Write an entry on the board of stops. -/
def State.stopsEntry (s : State) (stops : List (Nat × Nat)) (i : Nat) (e : Entry) : State :=
  stops.foldl (fun s k => s.cluRequest k.1 k.2 2 (B.dep + 0x130) 0 (entryWords i e)) s

/-- Every stop of each port that has some, by broadcast. -/
def State.everyStop (s : State) : List (Nat × Nat) :=
  ((List.range 2).filter (fun p => s.portActive p && s.lastStop p != 0)).map (fun p => (p, 255))

/-- Write an entry on the own board, as software would. -/
def State.ownEntry (s : State) (i : Nat) (e : Entry) : State := if s.writeResult i e = 0 then (s.setEntry i e).showBoard else s

/-- ENT_IDX. -/
def State.cluIdx (s : State) : Nat := s.get R.CLU.ENT_IDX.IDX

/-- A PREPARE is received or issued. -/
def State.prepare (s : State) (epoch flip deadline : Nat) : State :=
  let s := { s with clu := { s.clu with cEpoch := epoch, cFlip := flip, cDeadline := deadline } }
  ((s.setPhase 1).set R.CLU.EPOCH_PEND.EPOCH epoch).ev B.clu Ev.CLU.EPOCH_PREPARED

/-- ARM: the entry goes on the own board and on every stop's (R498). -/
def State.armEpoch (s : State) (epoch flip : Nat) : State :=
  let s := { s with clu := { s.clu with cEpoch := epoch, cFlip := flip, armed := some epoch } }
  let s := (s.ownEntry s.cluIdx (flipEntry flip epoch)).stopsEntry s.everyStop s.cluIdx (flipEntry flip epoch)
  ((s.setPhase 2).set R.CLU.EPOCH_PEND.EPOCH epoch).ev B.clu Ev.CLU.EPOCH_ARMED

/-- No epoch is prepared or armed any more. -/
def State.cluIdle (s : State) : State :=
  ({ s with clu := { s.clu with armed := none } }.setPhase 0).set R.CLU.EPOCH_PEND.EPOCH 0

/-- CANCEL: an entry armed for the epoch goes (R498). -/
def State.cancelEpoch (s : State) (epoch : Nat) : State :=
  let i := s.cluIdx
  let mine := s.clu.armed == some epoch && (s.entry i).state == .armed && (s.entry i).action == 2 && (s.entry i).arg == epoch
  let s := if mine then
      let s := ({ s with dep := { s.dep with board := s.dep.board.filter (fun x => x.1 != i) } }).showBoard
      s.stopsEntry s.everyStop i ⟨0, 0, 0, 0, 0, 0, .free⟩
    else s
  s.cluIdle.ev B.clu Ev.CLU.EPOCH_CANCELLED

/-- The first departure at least 2 frame periods ahead. -/
def State.twoAhead (s : State) : Nat :=
  match s.tim.sched with
  | some c =>
    let n := s.dep.next
    let w := s.wall + 2 * periodU c.rate
    if w ≤ c.at n then n else if w ≤ c.at (n + 1) then n + 1 else if w ≤ c.at (n + 2) then n + 2 else n + 3
  | none => s.dep.next

/-- CATCHUP at the member it names (R499). -/
def State.catchUp (s : State) (epoch : Nat) : State :=
  if s.cluPhase != 0 || !s.memberLate || !s.on R.CLU.CLU_STAT.READY then s
  else
    let n := s.twoAhead
    let e := flipEntry n epoch
    let late := s.lateStops
    let s := if s.dep.flipFailed then s.ownEntry s.cluIdx e else s
    let s := s.stopsEntry late s.cluIdx e
    let s := { s with clu := { s.clu with armed := some epoch, cFlip := n } }
    ((s.setPhase 2).set R.CLU.EPOCH_PEND.EPOCH epoch).ev B.clu Ev.CLU.CATCHUP

/-! ### The protocol level (R503) -/

/-- The lowest of some levels, 0 (none known) apart; 0 when none is known. -/
def lowestLevel (l : List Nat) : Nat :=
  match l.filter (· != 0) with
  | [] => 0
  | a :: r => r.foldl min a

/-- LEVEL: what this member reports. -/
def State.ownLevel (s : State) : Nat :=
  lowestLevel (((List.range 2).map (fun p => if s.portActive p then s.get (R.LNK.CAPX_STAT.LEVEL p) else 0)) ++
    s.liveStops.map (fun e => e.2.level))

/-- The cluster level becomes `v`: with LEVEL_SYNC it goes into LEVEL_MAX of the own ports and of every stop's. -/
def State.takeLevel (s : State) (v : Nat) : State :=
  let s := s.set R.CLU.CLU_STAT.LEVEL v
  if v = 0 || 2 < v || s.clu.level == some v then s
  else
    let s := { s with clu := { s.clu with level := some v } }
    if !s.on R.CLU.CLU_CFG.LEVEL_SYNC then s
    else
      let down := (List.range 2).any (fun p => v < s.get (R.LNK.PORT_CTRL.LEVEL_MAX p))
      let s := s.forN 2 (fun s p => s.set (R.LNK.PORT_CTRL.LEVEL_MAX p) v)
      let s := s.everyStop.foldl (fun s k => [0, 1].foldl (fun s q => s.cluRequest k.1 k.2 3 (B.lnk q + 0x100) 0xFF00 [v * 256]) s) s
      s.evIf down B.clu Ev.CLU.LEVEL_DOWN

/-! ### The master -/

/-- The members that have reported READY for departure `n`, the master by its own state. -/
def State.readyMask (s : State) (n : Nat) : Nat :=
  ((List.range 32).filter (fun m =>
    if m = s.ownMember then s.on R.CLU.CLU_STAT.READY
    else match s.recOf m with | some r => atOrAfter r.frame n && bitAt r.flags 2 | none => false)).foldl (fun a m => a + 2 ^ m) 0

/-- Member `m` has reported READY for the epoch that the master prepares: a record made before the PREPARE reached it speaks of another
pending epoch (DEDUCED from R497, R498). -/
def State.readyFor (s : State) (m : Nat) : Bool :=
  bitAt (s.get R.CLU.READY_MASK.MASK) m &&
    (m == s.ownMember || match s.recOf m with | some r => r.pEpoch == s.clu.cEpoch && r.pDigest == s.digestPend | none => false)

/-- LATE_MASK follows the members' records: LATE sets a bit, the new epoch without LATE clears it. -/
def State.lateMask (s : State) : Nat :=
  (List.range 32).foldl (fun a m =>
    let was := bitAt (s.get R.CLU.LATE_MASK.MASK) m
    let now :=
      if m = s.ownMember then s.on R.CLU.CLU_STAT.LATE
      else match s.recOf m with
        | some r => bitAt r.flags 5 || (was && !(r.epoch == s.clu.cEpoch))
        | none => was
    a + 2 ^ m * bit now) 0

/-- The master issues a command. -/
def State.issue (s : State) (cmd arg : Nat) : State := { s with clu := { s.clu with cmd := cmd, arg := arg } }

/-- What the master decides at departure `n` (R498, R499). -/
def State.masterStep (s : State) (n : Nat) : State :=
  if !s.isMaster then s
  else
    let was := s.get R.CLU.LATE_MASK.MASK
    let s := (s.set R.CLU.READY_MASK.MASK (s.readyMask (n - 1))).set R.CLU.LATE_MASK.MASK s.lateMask
    let ready := s.get R.CLU.READY_MASK.MASK
    let missing := s.members.filter (fun m => !s.readyFor m)
    let level := lowestLevel (s.ownLevel :: s.clu.recs.map (·.level))
    let s := s.takeLevel level
    let s := if s.clu.cmd = 4 then s else s.issue s.clu.cmd level
    let s := if s.cluPhase = 1 then
        if missing = [] && n ≤ s.clu.cDeadline then (s.issue 2 level).armEpoch s.clu.cEpoch s.clu.cFlip
        else if s.clu.cDeadline ≤ n then
          if s.on R.CLU.CLU_CFG.STRICT then (s.issue 3 level).cancelEpoch s.clu.cEpoch
          else
            let s := (s.issue 2 level).armEpoch s.clu.cEpoch s.clu.cFlip
            s.set R.CLU.LATE_MASK.MASK (missing.foldl (fun a m => a ||| 2 ^ m) (s.get R.CLU.LATE_MASK.MASK))
        else s
      else if s.cluPhase = 0 then
        match (List.range 32).find? (fun m => bitAt (s.get R.CLU.LATE_MASK.MASK) m && bitAt ready m) with
        | some m => if m = s.ownMember then (s.issue 4 m).catchUp s.clu.cEpoch else s.issue 4 m
        | none => s
      else s
    s.evIf (was == 0 && s.get R.CLU.LATE_MASK.MASK != 0) B.clu Ev.CLU.EPOCH_LATE

/-- The CLUSTER_STATE record of departure `n` (Table 16-6). -/
def State.clusterRec (s : State) (n : Nat) : ClusterRec :=
  let m := s.isMaster
  let pend := s.cluPhase != 0
  let c := if m then (s.pending?.or s.tim.sched) else s.tim.sched
  { member := s.ownMember
    flags := bit m + 2 * bit s.srcRelief + 4 * s.get R.CLU.CLU_STAT.READY + 8 * s.get R.CLU.CLU_STAT.OUT_OF_TIME +
      16 * s.get R.CLU.CLU_STAT.MASTER_LOST + 32 * s.get R.CLU.CLU_STAT.LATE
    level := s.ownLevel, frame := n % 2 ^ 32, epoch := s.dep.epoch, digest := s.digestCur
    pEpoch := if pend then s.clu.cEpoch else 0, pDigest := s.digestPend, timeErr := s.getI R.CLU.TIME_ERR.NS
    orgX := s.canvasForce.ox, orgY := s.canvasForce.oy, cw := s.canvasForce.cw, ch := s.canvasForce.ch
    cmd := if m then s.clu.cmd else 0, cmdArg := if m then s.clu.arg else 0, strict := s.on R.CLU.CLU_CFG.STRICT
    cEpoch := s.clu.cEpoch, cFlip := s.clu.cFlip % 2 ^ 32, cDeadline := s.clu.cDeadline % 2 ^ 32
    next := m && s.pending?.isSome, sched := c.getD ⟨0, 0, 0, [0, 0, 0]⟩ }

/-- A CLUSTER_STATE datagram leaves the Ethernet ports that CLU_UDP names (R492); each port whose link is up sends a frame. -/
def State.sendCluster (s : State) (r : ClusterRec) : State :=
  let ports := s.get R.CLU.CLU_UDP.PORTS
  let s := s.emit (.cluster ports (s.get R.CLU.CLU_DST.ADDR) (s.get R.CLU.CLU_UDP.PORT) r)
  s.forN 4 (fun s p => if bitAt ports p && s.ethExists p && s.on (R.ETH.PORT_STAT.LINK_UP p) then s.ethSent p 1 else s)

/-- The end of a departure: an armed flip that the stops' telemetry has had time to report, the master's step, and the
record (R492). -/
def State.cluAfter (s : State) (n : Nat) : State :=
  if !s.cluWorks then s
  else
    let s := s.set R.CLU.CLU_STAT.IS_MASTER (bit s.isMaster)
    let s := if s.cluPhase = 2 && s.clu.cFlip + 1 < n && (s.entry s.cluIdx).state != .armed then s.cluIdle else s
    let s := (s.masterStep n).showSeen n
    s.sendCluster (s.clusterRec n)

end Sys2Proof.Machine
end

