-- ==== Sys2Proof/Machine/Video.lean ====
section
/-!
DEFINITION. The video of a line at its receivers (R270 to R275): the framing flits of a view, hunting, the far end's header
at a sender (Table 16-1), and the loss of a stream (R481).
-/
namespace Sys2Proof.Machine

/-! ### Parsing -/

/-- The shares of the view under way that carry rows. -/
def StreamSt.lit (x : StreamSt) : List ShareHdr := x.shares.filter (fun k => !k.dark)

/-- Rounds of the view under way: the largest H among its shares that carry rows. -/
def StreamSt.roundsOf (x : StreamSt) : Nat := (x.lit.map (·.h)).foldl max 0

/-- Every share header of the view under way has been received. -/
def StreamSt.listed (x : StreamSt) : Bool := match x.hdr with | some h => x.shares.length == h.nshare | none => false

/-- The rounds of the segment under way have all arrived. -/
def StreamSt.segDone (x : StreamSt) : Bool :=
  match x.seg with
  | none => true
  | some r => (List.range 8).all (fun i => x.roundsOf ≤ r + i || x.rounds.contains (r + i))

/-- The tile shows the stream on port `p` (R272, R483). -/
def State.shows (s : State) (p : Nat) : Bool := s.role == .tile && p == s.line.shownPort

/-- Flits of a stream are looked at: the port is ACTIVE, the line engine works, and a tile of a SINGLE line looks at port U
alone. -/
def State.watches (s : State) (p : Nat) : Bool :=
  s.portActive p && s.works (B.lne p) && (s.role == .sender || s.dual || p == 0)

/-- A framing flit is missing or wrong on port `p` (R273): the share of the view is incomplete, the parser hunts, and a
condition of Table 16-4 holds. -/
def State.frameError (s : State) (p cause : Nat) : State :=
  let x := s.stream p
  let shown := s.shows p
  let s := s.setStream p { x with hunt := true }
  let s := if shown && !x.hunt then
      let s := (s.count (R.LNE.HUNT_CNT.COUNT p)).ev (B.lne p) Ev.LNE.HUNT
      match x.hdr with
      | some h => if x.open_ && !x.skip then s.markBad h.view else s
      | none => s
    else s
  s.streamFail p cause

/-! ### Frame headers -/

/-- The FRAME of a header follows that of the stream's previous header: one above for view 0, the same for later views. -/
def frameFollows (prev : Option FrameHdr) (h : FrameHdr) : Bool :=
  match prev with
  | none => true
  | some d => if h.view = 0 then h.frame == (d.frame + 1) % 2 ^ 32 else h.frame == d.frame

/-- What a sender takes from a far-end header (Table 16-1, R475); `member` is the far end's member number. -/
def State.farEnd (s : State) (h : FrameHdr) (member : Nat) : State :=
  let s := { s with rdn := { s.rdn with reliefLive := h.relief, taken := s.rdn.taken && !h.relief } }
  let s := s.set R.RDN.HEALTH.RX h.health
  let s := if h.resync then s.sendImage else { s with rdn := { s.rdn with imaging := none } }
  let st := s.get R.RDN.RDN_STAT.STATE
  if h.relief || !s.works B.rdn then s
  else if st = 0 && s.rdn.waiting then s.depose
  else if st = 1 && (h.taken || member < s.get R.CLU.CLU_CFG.MEMBER) then s.depose
  else s

/-- The tile takes a header of the stream it shows (R274, R36), or looks at one of the other stream. -/
def State.tileHeader (s : State) (p : Nat) (h : FrameHdr) (skip : Bool) : State :=
  if !s.shows p then (s.standbyPut h.frame h.view h.dark id).preferLead
  else if skip then (s.count (R.LNE.FRAME_SKEW.COUNT p)).preferLead
  else (s.copyCoding h.coding).openView h.view (h.dark || s.dep.flipFailed) |>.preferLead

/-- An accepted header on port `p`: it begins the sequence of a view; SEQ_GAP, HEALTH and HANDOVER follow from it. -/
def State.takeHeader (s : State) (p : Nat) (h : FrameHdr) (member : Nat) : State :=
  let prev := (s.stream p).hdr
  let skip := s.role == .tile && h.frame != s.lastDep % 2 ^ 32
  let s := s.setStream p { hdr := some h, failed := (s.stream p).failed, open_ := true, skip := skip }
  let s := if frameFollows prev h then s else s.streamFail p 3
  let s := if h.ok then s else s.streamFail p (if h.handover then 6 else 5)
  match s.role with
  | .sender => s.farEnd h member
  | .tile => s.tileHeader p h skip

/-- FRAME_HEADER: a header where none is expected is itself the error and, once the parser hunts, its end. -/
def State.frameHeader (s : State) (p : Nat) (h : FrameHdr) (crcOk : Bool) (member : Nat) : State :=
  if !s.watches p then s
  else if !crcOk then s.frameError p 4
  else
    let s := if (s.stream p).open_ && !(s.stream p).hunt then s.frameError p 2 else s
    s.takeHeader p h member

/-! ### Shares, segments and rows -/

/-- SHARE_HEADER. -/
def State.shareHeader (s : State) (p : Nat) (k : ShareHdr) (crcOk : Bool) : State :=
  let x := s.stream p
  if !s.watches p || x.hunt then s
  else if !crcOk then s.frameError p 4
  else
    match x.hdr with
    | none => s
    | some h =>
      if !x.open_ || h.nshare ≤ x.shares.length || x.shares.any (fun e => k.stop ≤ e.stop) then s.frameError p 2
      else
        let s := s.setStream p { x with shares := x.shares ++ [k] }
        if s.role == .sender || k.stop != s.ownStop p || k.stop == 0 then s
        else if !s.shows p then s.standbyPut h.frame h.view h.dark (fun e => { e with share := some k })
        else if x.skip then s
        else s.openShare h.view k

/-- SEGMENT_HEADER: view, first round and FRAME. A hunting parser resumes at one of the same view. -/
def State.segmentHeader (s : State) (p view round frame : Nat) (crcOk : Bool) : State :=
  let x := s.stream p
  if !s.watches p then s
  else if !crcOk then (if x.hunt then s else s.frameError p 4)
  else
    match x.hdr with
    | none => s
    | some h =>
      let same := x.open_ && x.listed && view == h.view && frame == h.frame && round % 8 == 0 && round < x.roundsOf
      let next : StreamSt := { x with seg := some round, nextSeg := round + 8, rounds := [], hunt := false }
      if x.hunt then (if same then s.setStream p next else s)
      else if same && x.segDone && round == x.nextSeg then s.setStream p next
      else
        let s := s.frameError p (if same && x.segDone then 3 else 2)
        if same then s.setStream p { next with failed := (s.stream p).failed } else s

/-- A row of the tile's own share on port `p`: the shown stream's is taken, the other one's goes to the standby ring, and
both are compared (R271, R275, R484). -/
def State.ownRow (s : State) (p v y bits : Nat) (k : ShareHdr) (h : FrameHdr) (skip : Bool) (bad : List Nat) : State :=
  let w := k.w * bpp h.coding
  let row := bits % 2 ^ w
  let s := if s.dual && bad = [] then s.lineCrc p h.frame v y (crc32 ((toBytes ((w + 7) / 8) row).map (·.toNat))) else s
  if s.shows p then (if skip then s else s.takeRow v y row bad)
  else s.ringPut h.frame v y row w

/-- ROW_DATA: round `r` of the segment under way; `bits` are the row of the tile's own share. Data of no such round stands where a
framing flit is expected (R273). -/
def State.rowData (s : State) (p r bits : Nat) (bad : List Nat) : State :=
  let x := s.stream p
  if !s.watches p || x.hunt then s
  else
    match x.hdr, x.seg with
    | some h, some a =>
      if !x.open_ || r < a || a + 8 ≤ r || x.roundsOf ≤ r || x.rounds.contains r then s.frameError p 2
      else
        let s := s.setStream p { x with rounds := x.rounds ++ [r] }
        match x.shares.find? (fun k => k.stop == s.ownStop p && k.stop != 0 && !k.dark) with
        | some k => if s.role == .tile && r < k.h then s.ownRow p h.view r bits k h x.skip bad else s
        | none => s
    | _, _ => s.frameError p 2

/-- The rows of a share of height `n` have arrived: those of the segments before and of the one under way. -/
def StreamSt.rowsIn (x : StreamSt) (n : Nat) : Bool :=
  match x.seg with
  | none => n == 0
  | some a => n ≤ a + 8 && (List.range 8).all (fun i => n ≤ a + i || x.rounds.contains (a + i))

/-- SHARE_TRAILER: it stands after the rows of its share, or after the cut of R203, before which a share may be whole. That of the tile's
own share closes its bands under BAND_LOCKED (R363). -/
def State.shareTrailer (s : State) (p : Nat) (tr : ShareTrl) (crcOk : Bool) : State :=
  let x := s.stream p
  if !s.watches p || x.hunt then s
  else if !crcOk then s.frameError p 4
  else
    match x.hdr, x.lit[x.trailers]? with
    | some h, some k =>
      if !x.open_ || !x.listed || tr.stop != k.stop || !(tr.incomplete || x.rowsIn k.h) then s.frameError p 2
      else
        let s := s.setStream p { x with trailers := x.trailers + 1 }
        if s.role == .sender || k.stop != s.ownStop p || k.stop == 0 then s
        else if !s.shows p then s.standbyPut h.frame h.view h.dark (fun e => { e with trailer := some tr })
        else if x.skip then s
        else (s.judgeShare h.view tr).forN s.scn.bands.length State.closeBand
    | _, _ => if x.hdr.isSome then s.frameError p 2 else s

/-- VIEW_TRAILER. -/
def State.viewTrailer (s : State) (p view frame : Nat) (crcOk : Bool) : State :=
  let x := s.stream p
  if !s.watches p || x.hunt then s
  else if !crcOk then s.frameError p 4
  else
    match x.hdr with
    | none => s
    | some h =>
      if x.open_ && x.listed && x.trailers == x.lit.length && view == h.view && frame == h.frame then
        s.setStream p { x with open_ := false }
      else s.frameError p 2

/-! ### Senders -/

/-- LEAD_WAIT_END: no far-end header of a lead came within two frame periods (Table 16-1). -/
def State.leadWaitEnd (s : State) : State :=
  if s.works B.rdn && s.dual && s.rdn.waiting && s.get R.RDN.RDN_STAT.STATE == 0 then
    ({ s with rdn := { s.rdn with waiting := false } }).set R.RDN.RDN_STAT.STATE 1
  else s

/-- HANDOVER (R490). -/
def State.handover (s : State) : State :=
  let rx := s.get R.RDN.HEALTH.RX
  if s.frozen B.rdn then s
  else if s.get R.RDN.RDN_STAT.STATE = 1 && bitAt rx 0 && bitAt rx 1 then { s with rdn := { s.rdn with handing := true } }
  else (s.ev B.rdn Ev.RDN.HANDOVER_REFUSED).err B.rdn 0x10 0 0

/-- RESYNC: enter SYNCING and request the image (Table 16-7). A sender whose REDUN is SINGLE stays OFF. -/
def State.resync (s : State) : State := if s.dual && !s.frozen B.rdn then s.toSyncing else s

/-! ### Commands -/

/-- FRAME_HEADER (R274, Table 16-1). -/
def execFrameHeader (p : Nat) (h : FrameHdr) (crcOk : Bool) (member t : Nat) (s : State) :
    Host.Outcome State Fault Refusal := run (fun s => (s.tick t).frameHeader p h crcOk member) s

/-- SHARE_HEADER (R272). -/
def execShareHeader (p : Nat) (k : ShareHdr) (crcOk : Bool) (t : Nat) (s : State) : Host.Outcome State Fault Refusal :=
  run (fun s => (s.tick t).shareHeader p k crcOk) s

/-- SEGMENT_HEADER (R271, R273). -/
def execSegmentHeader (p view round frame : Nat) (crcOk : Bool) (t : Nat) (s : State) : Host.Outcome State Fault Refusal :=
  run (fun s => (s.tick t).segmentHeader p view round frame crcOk) s

/-- ROW_DATA (R271). -/
def execRowData (p round bits : Nat) (bad : List Nat) (t : Nat) (s : State) : Host.Outcome State Fault Refusal :=
  run (fun s => (s.tick t).rowData p round bits bad) s

/-- SHARE_TRAILER (R274). -/
def execShareTrailer (p : Nat) (tr : ShareTrl) (crcOk : Bool) (t : Nat) (s : State) : Host.Outcome State Fault Refusal :=
  run (fun s => (s.tick t).shareTrailer p tr crcOk) s

/-- VIEW_TRAILER (R270). -/
def execViewTrailer (p view frame : Nat) (crcOk : Bool) (t : Nat) (s : State) : Host.Outcome State Fault Refusal :=
  run (fun s => (s.tick t).viewTrailer p view frame crcOk) s

/-- STREAM_GAP (R481). -/
def execStreamGap (p t : Nat) (s : State) : Host.Outcome State Fault Refusal := run (fun s => (s.tick t).streamFail p 1) s

/-- LEAD_WAIT_END (R472). -/
def execLeadWaitEnd (t : Nat) (s : State) : Host.Outcome State Fault Refusal := runIn .sender (fun s => (s.tick t).leadWaitEnd) s

/-- HANDOVER (R490). -/
def execHandover (t : Nat) (s : State) : Host.Outcome State Fault Refusal := runIn .sender (fun s => (s.tick t).handover) s

/-- RESYNC (R479). -/
def execResyncRelief (t : Nat) (s : State) : Host.Outcome State Fault Refusal := runIn .sender (fun s => (s.tick t).resync) s

end Sys2Proof.Machine
end

