-- ==== Sys2Proof/Machine/Frame.lean ====
section
/-!
DEFINITION. Departures (R19 to R24, R106, R110, R118, R289, R290): what a frame departure does in each role, view departures
and the launches of the board.
-/
namespace Sys2Proof.Machine

/-! ### The sender -/

/-- The fallback coding comes into force (R62). -/
def State.fallbackOn (s : State) : State :=
  let f := s.modeFb
  let m := s.modeCur
  ((s.set R.DEP.MODE_CTRL.FB_ACTIVE 1).modeChange { m with codA := f.codA, codB := f.codB } 4).evaluate

/-- The coding of MODE_NEXT comes back (R62). -/
def State.fallbackOff (s : State) : State :=
  let n := s.modeNext
  if s.on R.DEP.MODE_CTRL.FB_ACTIVE then
    ((s.set R.DEP.MODE_CTRL.FB_ACTIVE 0).modeChange { s.modeCur with codA := n.codA, codB := n.codB } 5).evaluate
  else s

/-- CMP_STAT.ENG_DIV. -/
def State.setDiv (s : State) (v : Nat) : State := s.set R.CMP.CMP_STAT.ENG_DIV v

/-- RELEASING ends once the restore of R514 has been applied (Table 17-3). -/
def State.restored (s : State) : State :=
  if s.thr = 3 && s.hkt.fbNext.isNone && s.hkt.divNext.isNone then s.setThr 0 else s

/-- What an enforced throttle asks of departure `n` in the Sender role (R62, R514, R587). -/
def State.throttleApply (s : State) (n : Nat) : State :=
  let again := s.dep.fbAgain && !s.frameDark n
  let s := if again then
      { s with dep := { s.dep with fbAgain := false }
               hkt := { s.hkt with fbNext := if s.thr = 2 then some true else s.hkt.fbNext } }
    else s
  let dark := s.frameDark n
  let s := match s.hkt.fbNext with
    | some true =>
      if dark then s
      else
        let s := { s with hkt := { s.hkt with fbNext := none } }
        if s.fbUsable then s.fallbackOn else s.setDiv 2
    | some false => if dark then s else ({ s with hkt := { s.hkt with fbNext := none } }).fallbackOff
    | none => s
  match s.hkt.divNext with
  | some d => if d = 1 && dark then s else ({ s with hkt := { s.hkt with divNext := none } }).setDiv d
  | none => s

/-- The throttle at departure `n` of a sender; while HKT is frozen or its EN is 0 its effect stays as it is (R519). -/
def State.throttleDeparture (s : State) (n : Nat) : State := if s.hktEval then (s.throttleApply n).restored else s

/-- The width policies that are due (R254), with the SCHED messages of a changed MODE_NEXT (R106). -/
def State.dueWidths (s : State) : State :=
  (s.forN 2 (fun s p => if bitAt s.dep.policyDue p then s.applyPolicy p else s)).sendChanged s.schedWords

/-- What the sender closes before departure `n`: the monitor frame, telemetry, cluster records and mirrored fades of the
departure before it. -/
def State.senderBefore (s : State) (n : Nat) : State :=
  match s.dep.last with
  | none => s
  | some l => (((s.monitorTake l).telMisses l).cluBefore l).reliefDeparture n

/-- Departure `n` in the Sender role: frame pick, commits, and the values latched for frame `n` (R20, R118, R184). -/
def State.senderDeparture (s : State) (n : Nat) : State :=
  let w := (s.depTime n).getD s.wall
  let s := ((s.pickAll.imageDeparture.noteGroups n w).commitGroups 1 w).notedGroups
  let s := (s.throttleDeparture n).dueWidths
  let s := s.stepFades.contentCheck.latchPicture
  (s.mirrorFrame n).cluAfter n

/-! ### The tile -/

/-- A view of the frame received is DARK, or its share is. -/
def ViewRx.isDark (x : ViewRx) : Bool := x.dark || (x.share.map (·.dark)).getD false

/-- What the tile received of frame `n` on the stream it shows: 0 complete, 1 incomplete, 2 missing, 3 dark (R274, Table 9-8). -/
def State.received (s : State) (n : Nat) : Nat :=
  let l := if s.line.rxFrame = some n then s.line.views else []
  if l = [] || l.any (fun x => x.share.isNone && !x.dark && !x.bad) then 2
  else if s.views ≤ l.length && l.all ViewRx.isDark then 3
  else if s.views ≤ l.length && l.all (fun x => x.isDark || (x.trailer.isSome && !x.bad)) then 0
  else 1

/-- Frame `n` is judged at the next departure: RX, and the counters of the shown port. -/
def State.judgeFrame (s : State) (n : Nat) : State :=
  let rx := s.received n
  let s := { s with line := { s.line with rx := rx } }
  let p := s.line.shownPort
  if rx = 1 then s.count (R.LNE.RX_INCOMPLETE.COUNT p) else if rx = 2 then s.count (R.LNE.RX_MISSING.COUNT p) else s

/-- UNDERRUN (R23, R365): the count of telemetry goes with the event. -/
def State.noteUnderrun (s : State) : State :=
  { s with line := { s.line with underrun := true, underruns := min 65535 (s.line.underruns + 1) } }

/-- The frame received was DARK in some view (R289). -/
def State.gotDark (s : State) (n : Nat) : Bool := s.line.rxFrame == some n && s.line.views.any ViewRx.isDark

/-- FRAME_LOCKED: the sets exchange roles when the load of view 0 came from the back set (R344); otherwise the tile shows the
last frame again (R23). The answer says whether they did. -/
def State.flipPlanes (s : State) (n : Nat) : State × Bool :=
  if s.scn.flip && s.scn.fromBack then
    let d := if (List.range s.views).all s.scn.backDark.contains then List.replicate 24 0
      else (List.range 24).map (fun c => s.get (R.RCH.CH_DMAX.NEXT c))
    let s := { s with scn := { s.scn with frontFrame := s.scn.backFrame, frontDark := s.scn.backDark }
                      rai := { s.rai with plane := d } }
    (s.set R.SCN.SCN_STAT.FRONT (1 - s.get R.SCN.SCN_STAT.FRONT), true)
  else if s.inDark || s.received n = 3 || !s.scnWorks then (s, false)
  else (((s.count R.SCN.UNDERRUN_CNT.COUNT).ev B.scn Ev.SCN.UNDERRUN).noteUnderrun, false)

/-- Every band shows black for a DARK frame (R53, R155). -/
def State.bandsDark (s : State) : State :=
  let s := { s with scn := { s.scn with frontDark := [0], bands := s.scn.bands.map (fun (x : Band) => { x with rows := [], closed := false }) } }
  s.forN s.scn.bands.length (fun s b => if s.scnWorks then s.reloadBand b else s)

/-- BAND_LOCKED: the bands of frame `n` close (R363, R365); the answer says whether one has flipped to it. -/
def State.closeBands (s : State) (n : Nat) : State × Bool :=
  if s.inDark || s.received n = 3 then (s.bandsDark, false)
  else
    let empty := s.scn.bands.any (fun x => x.rows == [])
    let (s, new) := s.bandsDeparture
    let s := if empty then s.noteUnderrun else s
    (if new then { s with scn := { s.scn with frontDark := [] } } else s, new)

/-- f of R290 for step `j`, in 2^-16. -/
def State.fadeF (s : State) (j : Nat) : Nat :=
  let (num, den) := rateFrac (s.get R.TIM.RATE_CUR.RATE)
  let ms := clampN 20 1000 (s.get (R.LNE.HOLD_CFG.FADE_MS 0))
  (65536 - roundDiv (j * num * 65536 : Nat) (den * ms * 1000000)).toNat

/-- Set the hold state with HELD and j. -/
def State.setHold (s : State) (st held j : Nat) : State :=
  let s := { s with line := { s.line with fadeJ := j } }
  let s := (s.set (R.LNE.HOLD_STAT.STATE 0) st).set (R.LNE.HOLD_STAT.HELD 0) held
  s.set (R.LNE.FADE_POS.F 0) (if st = 3 then 0 else s.fadeF j)

/-- FADE at step `j`, or BLACK when f is 0. -/
def State.fadeTo (s : State) (j : Nat) : State :=
  let held := s.get (R.LNE.HOLD_STAT.HELD 0)
  let was := s.get (R.LNE.HOLD_STAT.STATE 0)
  if s.fadeF j = 0 then (s.setHold 3 held 0).ev (B.lne 0) Ev.LNE.BLACK_START
  else (s.setHold 2 held j).evIf (was != 2) (B.lne 0) Ev.LNE.FADE_START

/-- The end of HOLD: FADE or BLACK. -/
def State.holdEnds (s : State) : State :=
  if s.on (R.LNE.HOLD_CFG.BLACK 0) then (s.setHold 3 (s.get (R.LNE.HOLD_STAT.HELD 0)) 0).ev (B.lne 0) Ev.LNE.BLACK_START
  else s.fadeTo 1

/-- Table 9-9 at a departure. -/
def State.holdStep (s : State) (new : Bool) : State :=
  let st := s.get (R.LNE.HOLD_STAT.STATE 0)
  let held := s.get (R.LNE.HOLD_STAT.HELD 0)
  let frames := s.get (R.LNE.HOLD_CFG.HOLD_FRAMES 0)
  if s.inDark then s
  else if new then (s.setHold 0 0 0).evIf (st != 0) (B.lne 0) Ev.LNE.LIVE_AGAIN
  else if st = 0 then
    if frames = 0 then s.holdEnds else (s.setHold 1 1 0).ev (B.lne 0) Ev.LNE.HOLD_START
  else if st = 1 then
    if held < frames then s.setHold 1 (held + 1) 0 else s.holdEnds
  else if st = 2 then s.fadeTo (s.line.fadeJ + 1)
  else s

/-- Departure `n` at a tile before anything of frame `n` is done: frame `n` - 1 is judged and shown or not, and the hold state
moves. -/
def State.tileBefore (s : State) : State :=
  match s.dep.last with
  | none => s
  | some l =>
    let s := s.judgeFrame l
    let dark := s.gotDark l
    let (s, new) := if s.modeCur.timing = 1 then s.closeBands l else s.flipPlanes l
    let s := s.holdStep (new || dark)
    let s := s.raiDeparture s.frameD new
    { s with
      cor := { s.cor with
        pass := none, doneViews := [], rows := []
        oneChannel := 2 < s.views && s.oneChannel }
      scn := { s.scn with backFrame := none, backDark := [] }
      line := { s.line with rxFrame := none, views := [] } }

/-- Departure `n` at a tile (R118): brightness cap, telemetry, group 0, and the subframe of view 0, which waits for an epoch
flip of the same instant. -/
def State.tileDeparture (s : State) (n : Nat) : State :=
  let w := (s.depTime n).getD s.wall
  let s := s.hktCap.sendTelemetry n
  let s := (s.commitGroups 1 w).takeCap
  let s := if s.flipAt w then { s with dep := { s.dep with scanDue := true } } else s.subframe 0
  if s.modeCur.timing = 1 then s.bandsReload else s

/-! ### Both roles -/

/-- Count `k` frame departures as skipped. -/
def State.skip (s : State) (k : Nat) : State := if k = 0 then s else (s.count R.DEP.SKIP_CNT.SKIPPED k).ev B.dep Ev.DEP.DEP_SKIPPED

/-- DARK_START at E, DARK_END at E + D. -/
def State.darkEdges (s : State) (n : Nat) : State :=
  match s.dep.dark with
  | none => s
  | some (e, d) => if e + d ≤ n then s.darkFinish else if n = e then s.darkBegin else s

/-- Departure `n` is the last one launched. -/
def State.launched (s : State) (n : Nat) : State := { s with dep := { s.dep with last := some n, next := n + 1, lastView := 0 } }

/-- Frame departure `n` launches; numbers between it and the last one count as skipped. The dark frames begin and end before
the frame that departs here is judged: at E + D the frame E + D - 1 is the first new one (R51, R53). -/
def State.depart (s : State) (n : Nat) : State :=
  let s := ((s.skip (n - s.dep.next)).darkEdges n).showDemand
  let s := match s.role with | .sender => s.senderBefore n | .tile => s.tileBefore
  let s := (s.noteEvent 0 ((s.depTime n).getD s.wall)).launched n
  let s := (s.set R.DEP.FRAME_LO.FRAME n).ev B.dep Ev.DEP.FRAME_DEP
  match s.role with | .sender => s.senderDeparture n | .tile => s.tileDeparture n

/-- FORM 1 entries whose launch time under the schedule just adopted lies before T_n launch at `n` with LATE (R106). -/
def State.adoptLate (s : State) (n : Nat) : State :=
  match s.depTime n with
  | none => s
  | some w =>
    let l := s.armedEntries.foldr (fun e l =>
      match s.launchTime e.2 with
      | some x => if e.2.form = 1 && x < w then insertLaunch (s.cycleOf x, actionRank e.2.action, e.1) l else l
      | none => l) []
    l.foldl (fun s e => s.launchAny e.2.2 true) s

/-- A schedule that waits for departure `n` comes into force: one a tile has received, or a pending one from its N0 (R106,
R112). Departures that the former schedule put between the two count as skipped. -/
def State.dueSched (s : State) (n : Nat) : State :=
  let s := match s.tim.adopting with
    | some (c, k) => if k ≤ n && c.at n ≤ s.wall + 65536 then (s.takeSched c).adoptLate n else s
    | none => s
  match s.tim.pend, s.tim.sched with
  | some p, some c => if p.n0 ≤ n then (s.takeSched p).skip (c.countTo p.n0 (p.t0 - 1)) else s
  | _, _ => s

/-- Departure `n` of the schedule falls due. A number already launched or skipped is not launched (R106, R120); while TIME_VALID
is 0 a sender launches none (R110). DESIGN CHOICE (log entry 82): a departure that falls due while the DEP page is frozen
(R72) does not launch and does not count in SKIP_CNT, which R125 keeps for R106, R110, R112 and R120. -/
def State.frameDeparture (s : State) (n : Nat) : State :=
  if !s.dep.loaded then s
  else if s.frozen B.dep then { s with dep := { s.dep with next := max s.dep.next (n + 1) } }
  else
    let s := s.dueSched n
    if n < s.dep.next then s
    else if s.role == .sender && !s.timeValid then
      let s := s.skip (n - s.dep.next + 1)
      { s with dep := { s.dep with next := n + 1 } }
    else s.depart n

/-- View `k` of frame `n` lies in the interval of the last forward step of wall time (R120). -/
def State.viewStepped (s : State) (n k : Nat) : Bool :=
  match s.dep.stepTo, s.schedFor n with
  | some w, some c => decide (c.viewAt s.views n k ≤ w)
  | _, _ => false

/-- VIEW_DEPARTURE: view `k` of frame `n` (R114, R344), once, in ascending order, and not one that a step has passed (R120). -/
def State.viewDeparture (s : State) (n k : Nat) : State :=
  if !s.dep.loaded || s.frozen B.dep || s.dep.last != some n || k ≤ s.dep.lastView || s.views ≤ k || s.viewStepped n k ||
      (s.role == .sender && !s.timeValid) then s
  else
    let s := { s with dep := { s.dep with lastView := k } }
    let s := (s.noteEvent k ((s.tim.sched.map (fun c => c.viewAt s.views n k)).getD s.wall)).ev B.dep Ev.DEP.VIEW_DEP
    if s.role == .tile then s.subframe k else s

/-! ### The order of one instant (R118) -/

/-- The armed entries of the cycle of `w` whose action comes before (rank, index), in the order of R118. -/
def State.instantFirst (s : State) (w : Int) (rank idx : Nat) : List (Int × Nat × Nat) :=
  s.armedEntries.foldr (fun e l =>
    match s.launchTime e.2 with
    | some x =>
      if s.cycleOf x = s.cycleOf w && launchBefore (0, actionRank e.2.action, e.1) (0, rank, idx) && e.1 != idx then
        insertLaunch (0, actionRank e.2.action, e.1) l
      else l
    | none => l) []

/-- Launch what R118 puts before (rank, index) at the instant of `w`: the entries with a lower rank or index, and the frame
departure where it has rank 2 of its own instant. -/
def State.instantLaunch (s : State) (w : Int) (rank idx : Nat) : State :=
  let l := s.instantFirst w rank idx
  let s := (l.filter (fun e => e.2.1 < 2)).foldl (fun s e => s.launchAny e.2.2 false) s
  let dep := 2 < rank && s.dep.loaded && (match s.depTime s.dep.next with | some x => s.cycleOf x == s.cycleOf w | none => false)
  let s := if dep then s.frameDeparture s.dep.next else s
  (l.filter (fun e => 2 ≤ e.2.1)).foldl (fun s e => s.launchAny e.2.2 false) s

/-- The frame departure of a command: SCHEDULE and WALL_SWITCH entries of its instant launch first (R118). -/
def State.departInstant (s : State) (n : Nat) : State :=
  match s.depTime n with
  | some w => (if s.dep.loaded && s.dep.next ≤ n then s.instantLaunch w 2 0 else s).frameDeparture n
  | none => s.frameDeparture n

/-- The launch of entry `i` with action `action` at its time; what precedes it in its instant launches first (R118). -/
def State.launchInstant (s : State) (i action : Nat) (late : Bool) (f : Entry → State → State) : State :=
  let e := s.entry i
  let s := match s.launchTime e with
    | some w => if late || e.state != EntState.armed || e.action != action then s else s.instantLaunch w (actionRank action) i
    | none => s
  s.launch i action late f

/-! ### Commands -/

/-- FRAME_DEPARTURE (R19): departure `n` of the schedule falls due. -/
def execFrameDeparture (n t : Nat) (s : State) : Host.Outcome State Fault Refusal := run (fun s => (s.tick t).departInstant n) s

/-- VIEW_DEPARTURE (R114): view `k` of frame `n`. -/
def execViewDeparture (n k t : Nat) (s : State) : Host.Outcome State Fault Refusal := run (fun s => (s.tick t).viewDeparture n k) s

/-- COMMIT (Table 4-12): entry `i`, late or at its time. -/
def execCommitEntry (i : Nat) (late : Bool) (t : Nat) (s : State) : Host.Outcome State Fault Refusal :=
  run (fun s => (s.tick t).launchInstant i 1 late (fun e s => s.launchCommit e)) s

/-- EPOCH_FLIP (R45, R51): entry `i`. -/
def execEpochFlip (i : Nat) (late : Bool) (t : Nat) (s : State) : Host.Outcome State Fault Refusal :=
  run (fun s => (s.tick t).launchInstant i 2 late (fun e s => s.launchFlip e)) s

/-- SCHEDULE (R119): entry `i`. -/
def execScheduleEntry (i : Nat) (late : Bool) (t : Nat) (s : State) : Host.Outcome State Fault Refusal :=
  run (fun s => (s.tick t).launchInstant i 3 late (fun e s => s.launchSchedule e)) s

/-- FW_ACTIVATE (R538): entry `i`. -/
def execFwActivate (i : Nat) (late : Bool) (t : Nat) (s : State) : Host.Outcome State Fault Refusal :=
  run (fun s => (s.tick t).launchInstant i 4 late (fun e s => s.launchActivate e)) s

/-- RAIL_STEP (R385): entry `i`. -/
def execRailStep (i : Nat) (late : Bool) (t : Nat) (s : State) : Host.Outcome State Fault Refusal :=
  run (fun s => (s.tick t).launchInstant i 5 late (fun e s => s.launchRailStep e)) s

/-- WALL_SWITCH (R98): entry `i`. -/
def execWallSwitch (i : Nat) (late : Bool) (t : Nat) (s : State) : Host.Outcome State Fault Refusal :=
  run (fun s => (s.tick t).launchInstant i 6 late (fun e s => s.launchWallSwitch e)) s

/-- PULSE (Table 4-12): entry `i`. -/
def execPulse (i : Nat) (late : Bool) (t : Nat) (s : State) : Host.Outcome State Fault Refusal :=
  run (fun s => (s.tick t).launchInstant i 7 late (fun e s => s.launchPulse e)) s

/-- MARK (Table 4-12): entry `i`. -/
def execMarkEntry (i : Nat) (late : Bool) (t : Nat) (s : State) : Host.Outcome State Fault Refusal :=
  run (fun s => (s.tick t).launchInstant i 8 late (fun e s => s.launchMark e)) s

/-- ENT_MISSED (R110): the time of entry `i` passes while TIME_VALID is 0. -/
def execEntMissed (i t : Nat) (s : State) : Host.Outcome State Fault Refusal := run (fun s => (s.tick t).entMissed i) s

end Sys2Proof.Machine
end

