-- ==== Sys2Proof/Machine/TimeCmd.lean ====
section
/-!
DEFINITION. The commands of the time unit (chapter 4): measurements, domains and the wall domain, line time and schedules,
link delays, TICKIN, pulses, the board's registers, and the start-up epoch load (R557 to R561).
-/
namespace Sys2Proof.Machine

/-! ### Steps of wall time (R120) -/

/-- The highest departure from `from_` on whose time lies at or before `w`, where there is one. -/
def State.lastDue (s : State) (from_ : Nat) (w : Int) : Option Nat :=
  let top (c : Sched) (lo : Nat) : Option Nat := let k := c.countTo (max lo c.n0) w; if k = 0 then none else some (max lo c.n0 + k - 1)
  match s.pending?, s.tim.sched with
  | some p, some c => if p.t0 ≤ w then top p from_ else (top c from_).map (fun n => min n (p.n0 - 1))
  | none, some c => top c from_
  | _, none => none

/-- Wall time has stepped from `w0`: forward, the entries in the interval launch late, and of its departures the last one; the
views in it are passed. A step back ends that: what has not launched launches when its time comes again. -/
def State.stepLaunch (s : State) (w0 : Int) : State :=
  let w1 := s.wall
  if w1 ≤ w0 then { s with dep := { s.dep with stepTo := none } }
  else
    let s := { s with dep := { s.dep with stepTo := some w1 } }
    let l := s.dueBetween w0 w1
    match s.lastDue s.dep.next w1 with
    | none => l.foldl (fun s e => s.launchAny e.2.2 true) s
    | some n =>
      let x : Int × Nat × Nat := (s.cycleOf ((s.depTime n).getD w1), 2, 0)
      let early := l.filter (fun e => launchBefore e x)
      let late := l.filter (fun e => !launchBefore e x)
      let s := early.foldl (fun s e => s.launchAny e.2.2 true) s
      late.foldl (fun s e => s.launchAny e.2.2 true) (s.frameDeparture n)

/-! ### Domains -/

/-- A measurement of domain `d` (R93 to R95), with the launches of a step. -/
def State.measureAt (s : State) (d : Nat) (m e : Int) (force : Bool) : State :=
  let w0 := s.wall
  let steps := s.accepts d && d == s.wallDom && s.measureSteps d m force
  let s := s.measure d m e force
  if steps then s.stepLaunch w0 else s

/-- DOM_MEAS (R92): a write of `w` to DOMd_MEAS; `e` is logSyncInterval of the selected master. The mean path delay that the
measurement goes with is a free value (DESIGN CHOICE, log entry 84: Table 4-16 shows it, and no rule says how it comes to
the register). -/
def State.domMeas (s : State) (d w : Nat) (e : Int) : State :=
  if s.frozen B.tim || (s.domState d = DomS.listen && !(-7 ≤ e && e ≤ 0)) then s
  else ((s.set (R.TIM.DOM_DELAY.DELAY d) (Config.choice s.fresh)).draw).measureAt d (sgn 32 w * 4096) e false

/-- A request to change the wall domain (R98), with the launches of a step. -/
def State.requestWall (s : State) (target : Nat) (force : Bool) : State :=
  let w0 := s.wall
  let steps := s.switchSteps target force
  let s := s.switchWall target force
  if steps then s.stepLaunch w0 else s

/-- The loss timeout of domain `d` has passed (R93, Table 4-3). -/
def State.domLost (s : State) (d : Nat) : State :=
  if !s.frozen B.tim && (s.domState d = DomS.acquire || s.domState d = DomS.locked) then s.enterHoldover d else s

/-- Both domains lose their time at once (R110): each one in ACQUIRE or LOCKED goes to HOLDOVER, and AUTO_SWITCH finds none that is
LOCKED. -/
def State.domsLost (s : State) : State :=
  s.forN 2 (fun s d =>
    if !s.frozen B.tim && (s.domState d = DomS.acquire || s.domState d = DomS.locked) then
      (s.putDomState d DomS.holdover).ev B.tim (Ev.TIM.D0_HOLDOVER + d)
    else s)

/-- SLEWING ends when the residual is 0 (R98). -/
def State.slewEnd (s : State) : State :=
  if !s.frozen B.tim && s.on R.TIM.TIM_STAT.SLEWING && s.residualAt s.frc = 0 then
    { s.set R.TIM.TIM_STAT.SLEWING 0 with tim := { s.tim with residual := 0, resAt := s.frc } }
  else s

/-! ### Line time (R101 to R105) -/

/-- The change of a counter by `d16` sixteenths of a cycle in the units of wall time, 2^-16 ns (R102). -/
def State.wallSpan (s : State) (d16 : Int) : Int := roundDiv (d16 * 131072 * (2 ^ 40 + (s.dom s.wallDom).rho)) (48 * 2 ^ 40)

/-- The samples of a port's link delay. -/
def State.ldList (s : State) (p : Nat) : List Int := s.tim.ldSamples.getD p []

/-- The link delay of port `p` in 2^-16 ns, with its asymmetry (R101). -/
def State.linkDelay (s : State) (p : Nat) : Int :=
  let l := s.ldList p
  (if l = [] then 0 else roundDiv (l.foldl (· + ·) 0) l.length) + s.getI (R.TIM.ASYM.V p) * 4096

/-- It is valid: 16 samples since the port's width or timing lane last changed (R100). -/
def State.ldValid (s : State) (p : Nat) : Bool := (s.ldList p).length == 16

/-- Show the link delay of port `p`, in a tile in DOMd_DELAY too. -/
def State.showDelay (s : State) (p : Nat) : State :=
  let v := uns 32 (roundDiv (s.linkDelay p) 4096)
  let s := s.set (R.TIM.LD.V p) v
  if s.role == .tile then s.set (R.TIM.DOM_DELAY.DELAY p) v else s

/-- k of R103. -/
def State.timeK (s : State) : Nat := clampN 10 14 (s.get R.TIM.LINE_TIME_CFG.INTERVAL_EXP)

/-- Wall time at `f16` sixteenths of a cycle after the counter value now. -/
def State.wallFrac (s : State) (f16 : Nat) : Int := (s.dom s.wallDom).timeAt (16 * s.frc + f16) + s.residualAt s.frc

/-- The TIME messages of a sender (R103, R105). Each takes its ORIGIN at its own egress, in sixteenths of a cycle (R99); the
sixteenth at which the flit leaves is a free value (log entry 84). -/
def State.sendTimes (s : State) : State :=
  if s.on R.FWU.FWU_STAT.SAFE || s.frozen B.tim then s
  else s.forN 2 (fun s p =>
    if !s.portActive p then s
    else
      let q := s.tim.seqTime.getD p 0
      let w := s.wallFrac (Config.choice s.fresh % 16)
      let s := { s.draw with tim := { s.tim with seqTime := putAt s.tim.seqTime p ((q + 1) % 65536) } }
      s.send p (.time ⟨s.srcRelief, s.timeValid, s.on R.TIM.TIM_STAT.HOLDOVER, false, q, s.timeK, w, 0⟩))

/-- A TIME message received on port `p` leaves the other port with its correction (R102, R104). -/
def State.forwardTime (s : State) (p : Nat) (m : TimeMsg) (inF outF : Nat) : State :=
  s.passTime (1 - p) (.time m) (.time { m with
    degraded := m.degraded || !s.ldValid p
    corr := m.corr + s.linkDelay p + s.wallSpan ((outF : Int) - inF) })

/-- The measurement that a TIME message brings (R93, R103 to R105). -/
def State.timeMeasure (s : State) (p : Nat) (m : TimeMsg) (inF : Nat) : State :=
  let st := s.domState p
  if st = DomS.listen then (s.enterAcquire p).count (R.TIM.DOM_STAT.REJECTED p)
  else if m.degraded || !s.ldValid p || !s.accepts p then s.count (R.TIM.DOM_STAT.REJECTED p)
  else
    let x := (s.dom p).timeAt inF - (m.origin + m.corr + s.linkDelay p)
    let back := (s.dom p).msgValid == some false && m.valid
    let force := back || (!m.valid && s.switchMax < x.natAbs)
    let s := if back && st = DomS.locked then s.enterAcquire p else s
    let s := s.setDom p { s.dom p with k := m.k, msgValid := some m.valid }
    (s.measureAt p x (-(m.k : Int)) force).showWall

/-- TIME_MESSAGE at a tile: counter values of ingress and egress in sixteenths. -/
def State.timeMessage (s : State) (p : Nat) (m : TimeMsg) (inF outF : Nat) : State :=
  if !s.portActive p || 2 ≤ p || s.frozen B.tim then s else (s.forwardTime p m inF outF).timeMeasure p m inF

/-! ### Schedules received (R106, R493) -/

/-- The next departure of a schedule after wall time `w`, not below its N0 nor below `lo`. -/
def Sched.nextAfter (c : Sched) (lo : Nat) (w : Int) : Nat := max lo c.n0 + c.countTo (max lo c.n0) w

/-- A schedule arrives from the unit that this one follows: pending, or in force there. -/
def State.receiveSched (s : State) (c : Sched) (next : Bool) : State :=
  if next then
    if s.dep.last.any (fun n => c.n0 ≤ n) then s
    else { s with tim := { s.tim with pend := some c } }
  else if !s.dep.loaded then s
  else if s.tim.sched = some c then { s with tim := { s.tim with adopting := none } }
  else
    let n := c.nextAfter s.dep.next s.wall
    match s.tim.adopting with
    | some (a, _) => if a = c then s else { s with tim := { s.tim with adopting := some (c, n) } }
    | none => { s with tim := { s.tim with adopting := some (c, n) } }

/-- SCHED at a tile. -/
def State.schedMessage (s : State) (p : Nat) (m : SchedMsg) : State :=
  if !s.portActive p || 2 ≤ p || s.frozen B.tim then s
  else
    let s := { s with tim := { s.tim with peerMode := putOption s.tim.peerMode p (some m.mode) } }
    let s := if p = s.line.shownPort then s.set R.DEP.MODE_CTRL.DARK_FRAMES m.dark else s
    let s := if p = s.wallDom then
        let ph := if m.next then m.sched.vphase else ((s.tim.pend.map (·.vphase)).getD m.sched.vphase)
        let s := s.forN 3 (fun s i => s.set (R.DEP.VPHASE.V i) (ph.getD i 0))
        let s := s.set R.TIM.RATE_NEXT.RATE (if m.next then m.sched.rate else ((s.tim.pend.map (·.rate)).getD m.sched.rate))
        let s := if m.next then s else { s with tim := { s.tim with schedSeen := putOption s.tim.schedSeen p (some m.sched) } }
        s.receiveSched m.sched m.next
      else s
    s.evaluate
where
  /-- Replace element `p` of a list of two. -/
  putOption {α : Type} (l : List (Option α)) (p : Nat) (x : Option α) : List (Option α) := l.mapIdx (fun i y => if i = p then x else y)

/-! ### Link delays (R101, R284) -/

/-- LD_REQ leaves port `p` at counter value `t1`, in sixteenths. -/
def State.ldInterval (s : State) (p t1 : Nat) : State :=
  if !s.portActive p || 2 ≤ p || s.frozen B.tim then s
  else
    let q := (s.tim.ldTag.getD p 0 + 1) % 65536
    let s := { s with tim := { s.tim with
      ldTag := putAt s.tim.ldTag p q, ldOpen := s.tim.ldOpen.mapIdx (fun i y => if i = p then some (t1, q) else y) } }
    s.send p (.ldReq q)

/-- LD_REQ arrives at `t2` and is answered at `t3`. -/
def State.ldReq (s : State) (p q t2 t3 : Nat) : State := if s.frozen B.tim then s else s.send p (.ldRsp q (s.wallSpan ((t3 : Int) - t2)))

/-- The exchange of port `p` ends. -/
def State.ldClose (s : State) (p : Nat) : State :=
  { s with tim := { s.tim with ldOpen := s.tim.ldOpen.mapIdx (fun i y => if i = p then none else y) } }

/-- LD_RSP arrives at `t4`. -/
def State.ldRsp (s : State) (p q : Nat) (turn : Int) (t4 : Nat) : State :=
  match s.tim.ldOpen.getD p none with
  | none => s
  | some (t1, tag) =>
    if tag != q || s.frozen B.tim then s
    else
      let x := roundDiv (s.wallSpan ((t4 : Int) - t1) - turn) 2
      let s := s.ldClose p
      ({ s with tim := { s.tim with
        ldSamples := s.tim.ldSamples.mapIdx (fun i l => if i = p then (x :: l).take 16 else l) } }).showDelay p

/-! ### TICKIN (R111, R112) -/

/-- The states of Table 4-10. -/
def TickS.off : Nat := 0
def TickS.acquire : Nat := 1
def TickS.locked : Nat := 2
def TickS.holdover : Nat := 3
def State.tickState (s : State) : Nat := s.get R.TIM.TIM_STAT.TICK_STATE

/-- The runs of Table 4-10 begin again in state `v`. -/
def State.setTick (s : State) (v : Nat) : State :=
  { s.set R.TIM.TIM_STAT.TICK_STATE v with tim := { s.tim with
    ticks := [], misses := 0, outRun := 0, outSince := false, empties := 0, tickSeen := false, inSeen := false
    rephase := false } }

/-- TICK_OFS in 2^-16 ns. -/
def State.tickOfs (s : State) : Int := nsU (s.getI R.TIM.TICK_OFS.V)

/-- The departure of a schedule, continued backwards too, that lies nearest to `w`, and its distance. -/
def Sched.nearest (c : Sched) (w : Int) : Int × Int :=
  let (num, den) := rateFrac c.rate
  let k := roundDiv ((w - c.t0) * den) (num * 65536)
  (k, w - (c.t0 + roundDiv (k * num * 65536) den))

/-- A tick that becomes departure time `w` is IN: within 2 µs of a predicted one. -/
def State.tickErr (s : State) (w : Int) : Option Int :=
  match s.tim.pend.or s.tim.sched with
  | none => none
  | some c => if (c.nearest w).2.natAbs ≤ (usU 2).natAbs then some (c.nearest w).2 else none

/-- A schedule moved toward an IN tick: by 2^-TC of its distance, at most 100 ppm of the period. -/
def State.movedSched (s : State) (c : Sched) (err : Int) : Sched :=
  { c with t0 := c.t0 + clampI (roundDiv (periodU c.rate) 10000) (roundDiv err (2 ^ min 8 (s.get R.TIM.TICK_CFG.TC))) }

/-- An IN tick moves the schedule that predicted it toward itself. -/
def State.tickMove (s : State) (err : Int) : State :=
  match s.tim.pend, s.tim.sched with
  | some c, _ => ({ s with tim := { s.tim with pend := some (s.movedSched c err) } }).sendScheds
  | none, some c => (({ s with tim := { s.tim with sched := some (s.movedSched c err) } }).showSched).sendScheds
  | none, none => s

/-- Each of 7 intervals is the period of rate `r` within 100 ppm. -/
def ticksMatch (l : List Int) (r : Nat) : Bool :=
  (l.zip (l.drop 1)).all (fun e => 10000 * ((e.1 - e.2) - periodU r).natAbs ≤ (periodU r).natAbs)

/-- The last departure of `c` at or before `w`, as a number one above it (0: none). -/
def Sched.after (c : Sched) (w : Int) : Nat := c.n0 + c.countTo c.n0 w

/-- The first departure of a pending schedule of rate `r` is at `t0`: departures of `c` less than 0.75 of its periods before
are not launched (R112). -/
def State.pendAt (s : State) (c : Sched) (r : Nat) (t0 : Int) : State :=
  let n0 := max s.dep.next (c.after (t0 - roundDiv (3 * periodU r) 4))
  ({ s with tim := { s.tim with pend := some ⟨n0, t0, r, c.vphase⟩ } }).sendScheds

/-- Another rate than that of the schedule `c` has been confirmed at `x`: it fails the mode check, or it is adopted unless it waits
for a flip (R59, R112). -/
def State.rateAnswer (s : State) (c : Sched) (r : Nat) (x : Int) (fail : Option (Nat × Nat)) : State :=
  match fail with
  | some f =>
    let s := { s with tim := { s.tim with heldRate := some r } }
    ((s.set R.DEP.MODE_CHECK.VALID 0).set R.DEP.MODE_CHECK.RULE f.1).set R.DEP.MODE_CHECK.FIELDS (f.2 ||| 0x40) |>.setTick TickS.holdover
  | none =>
    if s.tim.heldRate = some r then s.setTick TickS.holdover
    else ({ s with tim := { s.tim with heldRate := none } }).pendAt c r (x + 2 * periodU r + s.tickOfs)

/-- The rate `r` is confirmed by the tick at `x` (R112, R59). One that is in force moves the phase at the next tick; a new one
becomes a pending schedule when the mode word passes with it; one that fails is held back for an epoch flip, and stays held
when the same rate is confirmed again. DESIGN CHOICE (log entry 85): before any schedule exists the rate is staged in
RATE_NEXT, from which the start-up load takes it. -/
def State.confirmRate (s : State) (r : Nat) (x : Int) : State :=
  let s := ((s.set R.TIM.TICK_CFG.RATE_SEEN r).ev B.tim Ev.TIM.RATE_CONFIRMED).setTick TickS.locked
  match s.tim.sched with
  | none => s.set R.TIM.RATE_NEXT.RATE r |>.evaluate
  | some c =>
    let word := s.modeFail s.modeCur { s.envForce with rate := r, vphase := c.vphase }
    let spaced := viewSpacingOk r c.vphase s.views
    if r = c.rate then
      let s := s.pendAt c r (x + periodU r + s.tickOfs)
      { s with tim := { s.tim with rephase := true, heldRate := none } }
    else s.rateAnswer c r x (lowerRule word (if spaced then none else some (0x01, 0x42)))

/-- A tick in ACQUIRE. -/
def State.tickAcquire (s : State) (x : Int) : State :=
  let l := (x :: s.tim.ticks).take 8
  let s := { s with tim := { s.tim with ticks := l, empties := 0 } }
  if l.length < 8 then s
  else match (List.range 13).find? (ticksMatch l) with
    | some r => s.confirmRate r x
    | none => ({ s with tim := { s.tim with ticks := [] } }).ev B.tim Ev.TIM.RATE_UNSUPPORTED

/-- The tick at `x` after the rate in force was confirmed again: its time plus TICK_OFS becomes a departure time (R112). -/
def State.tickPhase (s : State) (x : Int) : State :=
  let s := { s with tim := { s.tim with rephase := false, misses := 0, outRun := 0, outSince := false, empties := 0, inSeen := true } }
  match s.tim.sched with
  | some c =>
    let t := x + s.tickOfs
    s.pendAt c c.rate (if t < s.wall then t + periodU c.rate else t)
  | none => s

/-- A tick in LOCKED. -/
def State.tickLocked (s : State) (x : Int) : State :=
  if s.tim.rephase then s.tickPhase x
  else match s.tickErr (x + s.tickOfs) with
  | some err =>
    ({ s with tim := { s.tim with misses := 0, outRun := 0, outSince := false, empties := 0, inSeen := true } }).tickMove err
  | none =>
    if s.tim.sched.isNone then s
    else
      let s := s.count R.TIM.TICK_CNT.OUT_TICKS
      let s := { s with tim := { s.tim with outRun := s.tim.outRun + 1, outSince := true, empties := 0 } }
      if 3 ≤ s.tim.outRun then (s.setTick TickS.acquire).ev B.tim Ev.TIM.TICK_RELOCK else s

/-- TICKIN: an active edge at counter value `f16`, in sixteenths. -/
def State.tickIn (s : State) (f16 : Nat) : State :=
  let st := s.tickState
  if st = TickS.off || s.frozen B.tim then s
  else
    let x := (s.dom s.wallDom).timeAt f16 + s.residualAt s.frc
    let s := { s with tim := { s.tim with tickSeen := true, lastTick := x } }
    if st = TickS.locked then s.tickLocked x
    else if st = TickS.holdover then (s.setTick TickS.acquire).tickAcquire x
    else s.tickAcquire x

/-- The end of a tick window (Table 4-10). -/
def State.tickWindowEnd (s : State) : State :=
  let st := s.tickState
  let empties := if s.tim.tickSeen then 0 else s.tim.empties + 1
  let missed := st = TickS.locked && !s.tim.inSeen && s.tim.pend.isNone
  let misses := if missed then s.tim.misses + 1 else 0
  let s := if missed then s.count R.TIM.TICK_CNT.MISSES else s
  let s := { s with tim := { s.tim with empties := empties, misses := misses, tickSeen := false, inSeen := false } }
  if (st = TickS.locked || st = TickS.acquire) && 3 ≤ empties then (s.setTick TickS.holdover).ev B.tim Ev.TIM.TICK_LOSS
  else if missed && 3 ≤ misses && s.tim.outSince then (s.setTick TickS.acquire).ev B.tim Ev.TIM.TICK_RELOCK
  else s

/-- TICK_WINDOW_END. -/
def State.tickWindow (s : State) : State := if s.frozen B.tim then s else s.tickWindowEnd

/-- FRAME_SRC_WRITE. A sender's field takes every code of Table 4-9. DESIGN CHOICE (log entry 86): the spec does not say what
LINE means in the Sender role, which receives no SCHED message; the field holds it, and no schedule comes from it. -/
def State.frameSrc (s : State) (v : Nat) : State :=
  let s := s.set R.TIM.TIM_CTRL.FRAME_SRC v
  if v % 4 = 1 then (if s.tickState = TickS.off then s.setTick TickS.acquire else s) else s.setTick TickS.off

/-! ### Pulses (R113) -/

/-- The departure of a schedule that lies in the cycle of `w`, where there is one. -/
def State.departsAt (s : State) (c : Sched) (w : Int) : Option Nat :=
  let n := (c.nearest w).1 + c.n0
  ([n - 1, n, n + 1].filter (fun m => 0 ≤ m && s.cycleOf (c.at m.toNat) == s.cycleOf w)).head?.map Int.toNat

/-- A frame departure that launches lies in the cycle of `w`. -/
def State.frameEventAt (s : State) (w : Int) : Bool :=
  if 0 < s.tickoutOfs then s.pastEvent 0 w
  else s.dep.loaded && [s.pending?, s.tim.sched].any (fun o => match o with
    | some c => (match s.departsAt c w with
      | some n => (s.dep.next ≤ n || s.dep.last == some n) && s.schedFor n == some c
      | none => false)
    | none => false)

/-- A view departure that launches lies in the cycle of `w`; view 0 departs with its frame (R114). -/
def State.viewEventAt (s : State) (w : Int) : Bool :=
  s.frameEventAt w || (if 0 < s.tickoutOfs then (List.range 3).any (fun k => s.pastEvent (k + 1) w) else s.dep.loaded && match s.tim.sched with
    | some c =>
      let n := (c.countTo c.n0 w + c.n0) - 1
      (List.range s.views).any (fun k => k != 0 && s.cycleOf (c.viewAt s.views n k) == s.cycleOf w && !s.viewStepped n k)
    | none => false)

/-- An armed PULSE entry launches in the cycle of `w`. -/
def State.pulseEventAt (s : State) (w : Int) : Bool := s.armedAt w 7 != []

/-- The event that TICKOUT_CFG.SRC selects has its pulse in the present cycle (R113): it is TICKOUT_OFS before now, or with a
negative offset ahead of now. A PULSE entry at or after whose launch the pulse starts emits it itself. -/
def State.tickoutDue (s : State) : Bool :=
  let w := s.wall - s.tickoutOfs
  let src := s.get R.DEP.TICKOUT_CFG.SRC
  if src = 0 then s.frameEventAt w else if src = 1 then s.viewEventAt w
  else if src = 2 then s.tickoutOfs < 0 && s.pulseEventAt w else false

/-- TICKOUT_PULSE: a pulse whose start falls in another cycle has passed, and is not emitted. -/
def State.tickOut (s : State) : State := if s.tickoutOn && s.tickoutDue then s.tickoutAt s.wall else s

/-- PPSOUT: WIDTH is 1 to 255 µs. -/
def State.ppsOut (s : State) : State :=
  if s.on R.TIM.PPS_CFG.EN && s.timeValid && !s.frozen B.tim then
    s.emit (.pulse 1 (1000 * clampN 1 255 (s.get R.TIM.PPS_CFG.WIDTH)) 0 s.wall)
  else s

/-! ### The start-up epoch load (R557 to R561) -/

/-- The schedule that the load sets (R109, R559), once its conditions hold (Table 19-2). -/
def State.startSched (s : State) : Option Sched :=
  let ph := s.vphaseNext
  let soon := s.wall + usU 10000
  if !s.timeValid then none
  else match s.role with
    | .tile => s.tim.schedSeen.getD s.wallDom none
    | .sender =>
      let src := s.get R.TIM.TIM_CTRL.FRAME_SRC
      let rate := s.get R.TIM.RATE_NEXT.RATE
      if src = 0 then
        let (num, den) := rateFrac rate
        let ofs := nsU (s.getI R.TIM.ALIGN_OFS.V)
        let k := (soon - ofs) * den / (num * 65536)
        let t (k : Int) : Int := roundDiv (k * num * 65536) den + ofs
        some ⟨0, if soon ≤ t k then t k else if soon ≤ t (k + 1) then t (k + 1) else t (k + 2), rate, ph⟩
      else if src = 1 then
        if s.tickState = TickS.locked && (s.modeFail s.modeNext s.envStaged).isNone then
          let p := periodU rate
          let k := max 0 ((soon - s.tim.lastTick + p - 1) / p)
          some ⟨0, s.tim.lastTick + k * p + s.tickOfs, rate, ph⟩
        else none
      else if src = 2 then s.tim.schedSeen.getD 0 none
      else none

/-- The pages that transfer at the load, whatever their group. -/
def State.loadPages (s : State) : State :=
  (allPages.filter (fun b => s.live b && s.armed b)).foldl (fun s b =>
    match s.ownCheck true b with
    | some x => s.refuseOwn b x
    | none => s.commitPage b) s

/-- The load with schedule `c`, in one step (R558). -/
def State.loadEpoch (s : State) (c : Sched) : State :=
  let was := s.dual
  let s := (s.putModeCur s.modeNext).set R.DEP.MODE_CHECK.LOCKED 1
  let s := (s.set R.DEP.MODE_CTRL.LAST_CAUSE 6).ev B.dep Ev.DEP.MODE_CHANGE
  let s := if s.dual = was then s else s.redunChanged s.dual
  let s := if s.role == .tile then s.corLock else s
  let s := s.loadPages.setEpoch 0
  let first := c.nextAfter 0 s.wall
  let s := { s with dep := { s.dep with loaded := true, loadWait := false, next := first } }
  let s := (s.set (R.PG.BUSY B.dep) 0).takeSched c
  let s := if s.role == .tile then s.newPlanes.showTimetable else s.policies
  let s := (s.missBefore first).evaluate
  let s := if s.role == .sender then s.followEval else s
  if s.cluWorks && s.isMaster then
    s.sendCluster (s.clusterRec s.lastDep)
  else s

/-- The load fails: nothing of it happens (R560). -/
def State.loadFails (s : State) (rule : Nat) : State :=
  let s := { s with dep := { s.dep with loadWait := false } }
  (((s.set (R.PG.BUSY B.dep) 0).set (R.PG.EN B.dep) 0).evaluate).modeReject rule

/-- The first epoch fails a rule of Table 2-4, or loads. -/
def State.startupAnswer (s : State) (c : Sched) (fail : Option (Nat × Nat)) : State :=
  match fail with
  | some r => s.loadFails r.1
  | none => s.loadEpoch c

/-- STARTUP_EPOCH_LOAD: the conditions hold. -/
def State.startupLoad (s : State) : State :=
  if s.dep.loaded || !s.dep.loadWait || s.frozen B.dep then s
  else match s.startSched with
    | none => s
    | some c =>
      let spaced := s.role == .tile || viewSpacingOk c.rate c.vphase (s.modeNext.views + 1)
      s.startupAnswer c (lowerRule (s.modeFail s.modeNext s.envStaged) (if spaced then none else some (0x01, 0x42)))

/-! ### Commands -/

/-- DOM_MEAS (R92): a write of `w` to DOMd_MEAS; `e` is logSyncInterval of the selected master. -/
def execDomMeas (d w : Nat) (e : Int) (t : Nat) (s : State) : Host.Outcome State Fault Refusal :=
  runIn .sender (fun s => (s.tick t).domMeas (d % 2) w e) s

/-- DOMAIN_ENABLE (Table 4-3). -/
def execDomainEnable (d t : Nat) (s : State) : Host.Outcome State Fault Refusal := run (fun s => (s.tick t).domEnable (d % 2) true) s

/-- DOMAIN_DISABLE (Table 4-3). -/
def execDomainDisable (d t : Nat) (s : State) : Host.Outcome State Fault Refusal := run (fun s => (s.tick t).domEnable (d % 2) false) s

/-- DOMAIN_LOSS_TIMEOUT (R93). -/
def execDomainLossTimeout (d t : Nat) (s : State) : Host.Outcome State Fault Refusal := run (fun s => (s.tick t).domLost (d % 2)) s

/-- SWITCH_NOW (R98): with FORCE as written. -/
def execSwitchNow (force : Bool) (t : Nat) (s : State) : Host.Outcome State Fault Refusal :=
  run (fun s => (s.tick t).requestWall (1 - s.wallDom) force) s

/-- WALL_SEL_WRITE (R98): the domain and FORCE as written. -/
def execWallSelWrite (d : Nat) (force : Bool) (t : Nat) (s : State) : Host.Outcome State Fault Refusal :=
  run (fun s => (s.tick t).requestWall (d % 2) force) s

/-- SLEW_END (R98). -/
def execSlewEnd (t : Nat) (s : State) : Host.Outcome State Fault Refusal := run (fun s => (s.tick t).slewEnd) s

/-- TIME_INTERVAL (R103). -/
def execTimeInterval (t : Nat) (s : State) : Host.Outcome State Fault Refusal := runIn .sender (fun s => (s.tick t).sendTimes) s

/-- TIME_MESSAGE (R102 to R105). -/
def execTimeMessage (p : Nat) (m : TimeMsg) (inF outF t : Nat) (s : State) : Host.Outcome State Fault Refusal :=
  runIn .tile (fun s => (s.tick t).timeMessage p m inF outF) s

/-- SCHED_INTERVAL (R106). -/
def execSchedInterval (t : Nat) (s : State) : Host.Outcome State Fault Refusal := runIn .sender (fun s => (s.tick t).sendScheds) s

/-- SCHED (R106, R51). -/
def execSched (p : Nat) (m : SchedMsg) (t : Nat) (s : State) : Host.Outcome State Fault Refusal :=
  runIn .tile (fun s => (s.tick t).schedMessage p m) s

/-- LD_INTERVAL (R101). -/
def execLdInterval (p t1 t : Nat) (s : State) : Host.Outcome State Fault Refusal := run (fun s => (s.tick t).ldInterval p t1) s

/-- LD_REQ (R284). -/
def execLdReq (p q t2 t3 t : Nat) (s : State) : Host.Outcome State Fault Refusal := run (fun s => (s.tick t).ldReq p q t2 t3) s

/-- LD_RSP (R101). -/
def execLdRsp (p q : Nat) (turn : Int) (t4 t : Nat) (s : State) : Host.Outcome State Fault Refusal :=
  run (fun s => (s.tick t).ldRsp p q turn t4) s

/-- LD_TIMEOUT (R284). -/
def execLdTimeout (p t : Nat) (s : State) : Host.Outcome State Fault Refusal := run (fun s => (s.tick t).ldClose p) s

/-- TICKIN (R111): the counter value of the edge in sixteenths. -/
def execTickin (f16 t : Nat) (s : State) : Host.Outcome State Fault Refusal := runIn .sender (fun s => (s.tick t).tickIn f16) s

/-- TICK_WINDOW_END (Table 4-10). -/
def execTickWindowEnd (t : Nat) (s : State) : Host.Outcome State Fault Refusal := runIn .sender (fun s => (s.tick t).tickWindow) s

/-- FRAME_SRC_WRITE (R108). -/
def execFrameSrcWrite (v t : Nat) (s : State) : Host.Outcome State Fault Refusal := runIn .sender (fun s => (s.tick t).frameSrc v) s

/-- TICKOUT_PULSE (R113). -/
def execTickoutPulse (t : Nat) (s : State) : Host.Outcome State Fault Refusal := run (fun s => (s.tick t).tickOut) s

/-- PPS_PULSE (R113). -/
def execPpsPulse (t : Nat) (s : State) : Host.Outcome State Fault Refusal := run (fun s => (s.tick t).ppsOut) s

/-- ENT_WRITE (R116). -/
def execEntWrite (t : Nat) (s : State) : Host.Outcome State Fault Refusal :=
  run (fun s =>
    let s := s.tick t
    let e := s.stagedEntry
    (s.entWrite s.entSel e).mirrorEntry s.entSel e 1) s

/-- ENT_READ (R116). -/
def execEntRead (t : Nat) (s : State) : Host.Outcome State Fault Refusal := run (fun s => (s.tick t).entRead s.entSel) s

/-- ENT_CANCEL (R116). -/
def execEntCancel (t : Nat) (s : State) : Host.Outcome State Fault Refusal :=
  run (fun s =>
    let s := s.tick t
    (s.entCancel s.entSel).mirrorEntry s.entSel (s.entry s.entSel) 3) s

/-- STARTUP_EPOCH_LOAD (R557). -/
def execStartupEpochLoad (t : Nat) (s : State) : Host.Outcome State Fault Refusal := run (fun s => (s.tick t).startupLoad) s

end Sys2Proof.Machine
end

