-- ==== Sys2Proof/Machine/ClusterCmd.lean ====
section
/-!
DEFINITION. The cluster's commands: member records, epoch requests and the loss of the master (R492, R493, R496, R498 to R500).
-/
namespace Sys2Proof.Machine

/-- The command of record `r` has been carried out; it comes again with every record. -/
def State.hasActed (s : State) (r : ClusterRec) : State := { s with clu := { s.clu with acted := (r.cmd, r.cEpoch) } }

/-- The master's command, acted on once (R492, R498, R499, R503). -/
def State.obeyMaster (s : State) (r : ClusterRec) : State :=
  let s := if r.cmd = 1 then
      if s.clu.acted = (1, r.cEpoch) || s.cluPhase != 0 then s
      else (s.prepare r.cEpoch (s.depNumber r.cFlip) (s.depNumber r.cDeadline)).hasActed r
    else if r.cmd = 2 then
      if s.clu.acted = (2, r.cEpoch) then s else (s.armEpoch r.cEpoch (s.depNumber r.cFlip)).hasActed r
    else if r.cmd = 3 then
      if s.clu.acted = (3, r.cEpoch) then s else (s.cancelEpoch r.cEpoch).hasActed r
    else if r.cmd = 4 && r.cmdArg = s.ownMember then s.catchUp r.cEpoch
    else s
  if r.cmd = 4 then s else s.takeLevel r.cmdArg

/-- The master's schedule at a member with FRAME_SRC 2 (R493, Table 19-2). -/
def State.masterSched (s : State) (r : ClusterRec) : State :=
  if s.get R.TIM.TIM_CTRL.FRAME_SRC != 2 then s
  else
    let seen := s.tim.schedSeen.getD 0 none
    let s := if r.next && seen.isSome then s
      else { s with tim := { s.tim with schedSeen := s.tim.schedSeen.set 0 (some r.sched) } }
    s.receiveSched r.sched r.next

/-- Records of the member named in MASTER return, or software names another one (R500). -/
def State.masterBack (s : State) : State :=
  let s := { s with clu := { s.clu with misses := 0 } }
  if s.on R.CLU.CLU_STAT.MASTER_LOST then (s.set R.CLU.CLU_STAT.MASTER_LOST 0).ev B.clu Ev.CLU.MASTER_BACK else s

/-- A CLUSTER_STATE record arrives: the first copy of each member's record for a departure counts. -/
def State.clusterState (s : State) (r : ClusterRec) : State :=
  let master := s.get R.CLU.CLU_CFG.MASTER
  if !s.cluWorks || r.member = s.ownMember || 32 ≤ r.member then s
  else if bitAt r.flags 0 && r.member != master then s.count R.CLU.CONFLICT.COUNT
  else if (match s.recOf r.member with | some o => atOrAfter o.frame r.frame | none => false) then s
  else
    let s := { s with clu := { s.clu with recs := s.clu.recs.filter (fun o => o.member != r.member) ++ [r] } }
    if r.member = master && bitAt r.flags 0 then (s.masterBack.masterSched r).obeyMaster r else s

/-- A flip is prepared or armed: by the cluster, until its departure, or by an entry of the own board. -/
def State.flipHeld (s : State) : Bool := s.cluPhase == 1 || (s.cluPhase == 2 && s.dep.next ≤ s.clu.cFlip) || s.flipArmed

/-- REQ_CTRL.GO at the master (R496). -/
def State.epochRequest (s : State) : State :=
  if !s.cluWorks || !s.isMaster then s
  else
    let flip := s.depNumber (s.get R.CLU.REQ_FLIP.FLIP)
    let dead := s.depNumber (s.get R.CLU.REQ_DEADLINE.DEADLINE)
    if flip < dead + 2 || s.flipHeld || s.on R.CLU.CLU_STAT.MASTER_LOST then
      (s.ev B.clu Ev.CLU.EPOCH_CANCELLED).err B.clu 0x11 0 0
    else (s.issue 1 s.clu.arg).prepare (s.get R.CLU.EPOCH_REQ.EPOCH) flip dead

/-- REQ_CTRL.CANCEL at the master, before ARM. -/
def State.epochCancel (s : State) : State :=
  if s.cluWorks && s.isMaster && s.cluPhase == 1 then (s.issue 3 s.clu.arg).cancelEpoch s.clu.cEpoch else s

/-- No record of the master for LOSS departures (R500): a PREPARE that is not armed is discarded. -/
def State.masterLost (s : State) : State :=
  if !s.cluWorks || s.isMaster || s.on R.CLU.CLU_STAT.MASTER_LOST || s.clu.misses < max 1 (s.get R.CLU.CLU_CFG.LOSS) then s
  else
    let s := (s.set R.CLU.CLU_STAT.MASTER_LOST 1).ev B.clu Ev.CLU.MASTER_LOST
    if s.cluPhase = 1 then { s.cluIdle with clu := { s.cluIdle.clu with acted := (0, 0) } } else s

/-! ### Commands -/

/-- CLUSTER_STATE (R492). -/
def execClusterState (r : ClusterRec) (t : Nat) (s : State) : Host.Outcome State Fault Refusal :=
  runIn .sender (fun s => (s.tick t).clusterState r) s

/-- EPOCH_REQUEST (R496). -/
def execEpochRequest (t : Nat) (s : State) : Host.Outcome State Fault Refusal :=
  runIn .sender (fun s => (s.tick t).epochRequest) s

/-- EPOCH_CANCEL (R498). -/
def execEpochCancel (t : Nat) (s : State) : Host.Outcome State Fault Refusal :=
  runIn .sender (fun s => (s.tick t).epochCancel) s

/-- MASTER_LOST (R500). -/
def execMasterLost (t : Nat) (s : State) : Host.Outcome State Fault Refusal :=
  runIn .sender (fun s => (s.tick t).masterLost) s

end Sys2Proof.Machine
end

