-- ==== Sys2Proof/Machine/Jobs.lean ====
section
/-!
DEFINITION. Memory jobs of the codec engine (R300 to R306): taking a descriptor, coding block by block, and the end of a job.
-/
namespace Sys2Proof.Machine

/-- A field of a job descriptor (Table 10-3). -/
def Job.le (j : Job) (a n : Nat) : Nat := leNat ((j.bytes.drop a).take n)

/-- OP and MODE, lengths and addresses of a job. -/
def Job.op (j : Job) : Nat := j.le 0 1 % 16
def Job.mode (j : Job) : Nat := j.le 0 1 / 16
def Job.src (j : Job) : Nat := j.le 8 8
def Job.dst (j : Job) : Nat := j.le 16 8
def Job.srcLen (j : Job) : Nat := j.le 24 4
def Job.dstLen (j : Job) : Nat := j.le 28 4

/-- Input and output bytes of one block. -/
def Job.inBlock (j : Job) : Nat := if j.op = 1 then 4096 else 3264
def Job.outBlock (j : Job) : Nat := if j.op = 1 then 3264 else 4096

/-- `n` bytes from `a` lie in usable DRAM, in one channel (Table 14-1); a tile's copy of the tile region is not addressable (R410). -/
def usable (tile : Bool) (a n : Nat) : Bool :=
  n == 0 || (a + n ≤ 0x200000000 && a % 0x80000000 + n ≤ 0x70000000 && !(tile && a < 0x80000000 + tileEnd && 0x80000000 < a + n))

/-- Job STATUS values (Table 10-4). -/
def JobS.ok : Nat := 1
def JobS.outFull : Nat := 2
def JobS.notReducible : Nat := 3
def JobS.badDesc : Nat := 4
def JobS.badRange : Nat := 5
def JobS.corrupt : Nat := 6
def JobS.poisoned : Nat := 7
def JobS.aborted : Nat := 8

/-- The check of a descriptor before any input is read (R303). -/
def Job.check (j : Job) (tile : Bool) : Option Nat :=
  if (j.op != 1 && j.op != 2) || j.mode != 1 || j.srcLen % j.inBlock != 0 then some JobS.badDesc
  else if !usable tile j.src j.srcLen || !usable tile j.dst j.dstLen ||
      (j.src < j.dst + j.dstLen && j.dst < j.src + j.srcLen) then some JobS.badRange
  else none

/-- One block: the state after it and the job after it (R303). -/
def State.jobBlock (s : State) (j : Job) : State × Job :=
  if j.srcLen ≤ j.inDone then (s, { j with status := some (JobS.ok, 0) })
  else
    let a := j.src + j.inDone
    let full := j.dstLen < j.outDone + j.outBlock
    let (s1, l, bad) := s.dramBytes 3 a j.inBlock
    let out : Option (List Byte) :=
      if j.op = 1 then (lossless80 ((List.range 512).map (fun w => leNat ((l.drop (8 * w)).take 8)))).map (toBytes 3264)
      else (unlossless80 (leNat l)).map (fun ws => (ws.map (toBytes 8)).foldl (· ++ ·) [])
    if j.op = 1 && !bad && out.isNone then (s1, { j with status := some (JobS.notReducible, 0) })
    else if full then (s, { j with status := some (JobS.outFull, 0) })
    else if bad then (s1, { j with status := some (JobS.poisoned, a) })
    else match out with
      | none => (s1, { j with status := some (JobS.corrupt, a) })
      | some b => (s1.dramWrite 3 (j.dst + j.outDone) b,
          { j with inDone := j.inDone + j.inBlock, outDone := j.outDone + j.outBlock })

/-- At most `n` blocks. -/
def State.jobBlocks (s : State) (j : Job) : Nat → State × Job
  | 0 => (s, j)
  | n + 1 =>
    if j.status.isSome then (s, j)
    else let (s, j) := s.jobBlock j; State.jobBlocks s j n

/-- Entries of the ring. -/
def State.ringSize (s : State) : Nat := 2 ^ clampN 4 12 (s.get R.KLC.JR_SIZE.EXP)

/-- A ring descriptor is pending. -/
def State.ringPending (s : State) : Bool := s.get R.KLC.JR_HEAD.IDX != s.get R.KLC.JR_TAIL.IDX

/-- A tenant queue has a CODEC descriptor that may be dispatched. -/
def State.queuePending (s : State) : Bool := s.que.descs.any (fun d => s.qClass d.q == 4 && s.dispatchable d.q d.idx)

/-- Show the running job. -/
def State.showJob (s : State) (j : Job) : State :=
  let s := (s.set R.KLC.JOB_STAT.BUSY 1).set R.KLC.JOB_STAT.SRC (bit j.owner.isSome)
  let s := if j.owner.isSome then s else s.set R.KLC.JOB_STAT.IDX j.idx
  s.set R.KLC.JOB_TAG.TAG (j.le 4 4)

/-- The job starts: its check, then its blocks. -/
def State.jobStart (s : State) (j : Job) (op blocks : Nat) : State :=
  if j.op != op && (j.op = 1 || j.op = 2) then s
  else
    let s := s.showJob j
    let s := match j.owner with
      | some (q, i) => (match s.desc q i with | some d => s.setDesc { d with dispatched := true, sent := 1 } | none => s)
      | none => s
    match j.status, j.check s.isTile with
    | some _, _ => { s with klc := { s.klc with job := some j } }
    | none, some st => { s with klc := { s.klc with job := some { j with status := some (st, 0) } } }
    | none, none => let (s, j) := s.jobBlocks j blocks; { s with klc := { s.klc with job := some j } }

/-- COMPRESS and DECOMPRESS: the engine takes the next descriptor of the ring, or of a queue, and alternates between them
(R302); `blocks` is how many blocks it codes before something else happens. -/
def State.takeJob (s : State) (op : Nat) (from_ : Option (Nat × Nat)) (blocks : Nat) : State :=
  let last := s.get R.KLC.JOB_STAT.SRC
  if s.klc.job.isSome || !s.works B.klc then s
  else match from_ with
    | none =>
      if !s.ringPending || (s.queuePending && s.role == .sender && last = 0 && s.get R.KLC.JOB_STAT.LAST != 0) then s
      else
        let i := s.get R.KLC.JR_HEAD.IDX
        let a := s.get64 R.KLC.JR_BASE_LO.BASE R.KLC.JR_BASE_HI.BASE + 64 * i
        let (s, l, bad) := s.dramBytes 3 a 64
        s.jobStart { idx := i, at_ := a, bytes := l, status := if bad then some (JobS.poisoned, a) else none } op blocks
    | some (q, i) =>
      if s.role != .sender || s.qClass q != 4 || (s.ringPending && last = 1) then s
      else match s.recheck q i with
        | (s, some d) => s.jobStart { owner := some (q, i), idx := i, bytes := d.bytes, epoch := s.get R.TEN.RULE_EPOCH.EPOCH } op blocks
        | (s, none) => s

/-- What the end of a job records (R303, R306). -/
def State.jobErrors (s : State) (j : Job) (st a : Nat) : State :=
  let s := if st = JobS.badDesc then s.err B.klc 0x10 j.idx a else if st = JobS.badRange then s.err B.klc 0x11 j.idx a
    else if st = JobS.corrupt then s.err B.klc 0x12 j.idx a else if st = JobS.poisoned then s.poison B.klc j.idx a else s
  let s := s.evIf ([JobS.badDesc, JobS.badRange, JobS.corrupt, JobS.poisoned].contains st) B.klc Ev.KLC.JOB_ERR
  if st = JobS.notReducible then (s.count R.KLC.NR_CNT.COUNT).ev B.klc Ev.KLC.NOT_REDUCIBLE else s

/-- Bytes 32 to 43 of a finished descriptor. -/
def Job.result (j : Job) (st : Nat) : List Byte :=
  [BitVec.ofNat 8 st, 0, 0, 0] ++ toBytes 4 j.inDone ++ toBytes 4 j.outDone

/-- JOB_DONE (R303, R447, R455): status and counts are written, JR_HEAD or the queue advances, JOB_DONE is raised. -/
def State.jobDone (s : State) : State :=
  match s.klc.job with
  | none => s
  | some j =>
    if s.frozen B.klc then s
    else
      let (s, j) := if j.abort || j.status.isSome then (s, j) else s.jobBlocks j (j.srcLen / j.inBlock + 1)
      let (st, a) := j.status.getD (JobS.aborted, 0)
      let s := { s with klc := { s.klc with job := none } }
      let s := (s.set R.KLC.JOB_STAT.BUSY 0).set R.KLC.JOB_STAT.LAST st
      let s := ((s.count R.KLC.JOB_CNT.COUNT).jobErrors j st a).showOld
      if j.drop then s.evIf (bitAt (j.le 1 1) 0) B.klc Ev.KLC.JOB_DONE
      else match j.owner with
        | none =>
          let s := s.dramWrite 3 (j.at_ + 32) (j.result st)
          let s := if j.counted then s.set R.KLC.JR_HEAD.IDX ((j.idx + 1) % s.ringSize) else s
          s.evIf (bitAt (j.le 1 1) 0) B.klc Ev.KLC.JOB_DONE
        | some (q, i) =>
          let base := s.get64 (R.QCX.Q_BASE_LO.BASE q) (R.QCX.Q_BASE_HI.BASE q) + 64 * i
          let s := s.emit (.hostWrite (s.qOwner q) (base + 32) (j.result st))
          -- the spec gives no meaning to DONE of a CODEC descriptor
          let s := s.draw.complete q i 0 (Config.choice s.fresh % 2 ^ 32) []
          s.evIf (bitAt (j.le 1 1) 0) B.klc Ev.KLC.JOB_DONE

/-- ABORT is written 1 (R304). -/
def State.jobAbort (s : State) : State :=
  { s with klc := { s.klc with job := s.klc.job.map (fun j => { j with abort := true }) } }

/-- JR_TAIL is written. -/
def State.jrTail (s : State) (v : Nat) : State := s.set R.KLC.JR_TAIL.IDX v

/-- A KLC soft reset acts as ABORT on the running job; the ring is empty after it (R304). -/
def State.klcReset (s : State) : State :=
  { s with klc := { s.klc with job := s.klc.job.map (fun j => { j with abort := true, counted := false }) } }

/-! ### Commands -/

/-- JR_TAIL (R302). -/
def execJrTail (v t : Nat) (s : State) : Host.Outcome State Fault Refusal := run (fun s => (s.tick t).jrTail v) s

/-- COMPRESS (R303). -/
def execCompress (q : Option (Nat × Nat)) (blocks t : Nat) (s : State) : Host.Outcome State Fault Refusal :=
  run (fun s => (s.tick t).takeJob 1 q blocks) s

/-- DECOMPRESS (R303). -/
def execDecompress (q : Option (Nat × Nat)) (blocks t : Nat) (s : State) : Host.Outcome State Fault Refusal :=
  run (fun s => (s.tick t).takeJob 2 q blocks) s

/-- JOB_DONE (R303). -/
def execJobDone (t : Nat) (s : State) : Host.Outcome State Fault Refusal := run (fun s => (s.tick t).jobDone) s

/-- ABORT (R304). -/
def execAbortJob (t : Nat) (s : State) : Host.Outcome State Fault Refusal := run (fun s => (s.tick t).jobAbort) s

end Sys2Proof.Machine
end

