-- ==== Sys2Proof/Machine/MemCmd.lean ====
section
/-!
DEFINITION. The commands of the memory controller (chapter 14): channel states, self-refresh, BIST, port requests, on-die
SRAM, and the patrol reader.
-/
namespace Sys2Proof.Machine

/-! ### Channel states (Table 14-2) -/

/-- Both channels of a tile's pair are whole: MIRROR_OK is set; MIRROR_BACK is raised when it had been lost. -/
def State.mirrorWhole (s : State) (back : Bool) : State :=
  let up (c : Nat) : Bool := s.chServes c && !s.mem.resilver.contains c
  if s.isTile && up 0 && up 1 && !s.on (R.MEM.CH_STAT.MIRROR_OK 0) then
    (s.set (R.MEM.CH_STAT.MIRROR_OK 0) 1).evIf back (B.mem 0) Ev.MEM.MIRROR_BACK
  else s

/-- A channel becomes READY; CH_READY when it comes from FILL or DEGRADED. -/
def State.chReady (s : State) (c : Nat) (ev : Bool) : State :=
  let s := (s.setCh c Ch.ready).evIf ev (B.mem c) Ev.MEM.CH_READY
  if c < 2 && s.chState (1 - c) != Ch.train && s.chState (1 - c) != Ch.fill then s.mirrorWhole false else s

/-- The channel has a working setting: MARGIN, the count, and what R415 measures from. -/
def State.trained (s : State) (c margin : Nat) : State :=
  let s := ((s.set (R.MEM.CH_STAT.MARGIN c) margin).count (R.MEM.TRAIN_CNT.DONE c)).ev (B.mem c) Ev.MEM.TRAIN_DONE
  { s with mem := { s.mem with
    lastTrain := (c, s.frc) :: s.mem.lastTrain.filter (fun e => e.1 != c), wanted := s.mem.wanted.filter (· != c)
    lastTemp := (c, s.get (R.MEM.TEMP.T c)) :: s.mem.lastTemp.filter (fun e => e.1 != c) } }

/-- The channel enters self-refresh. -/
def State.enterSr (s : State) (c : Nat) : State :=
  let s := ((s.setCh c Ch.selfRefresh).set (R.MEM.CH_CTRL.SR c) 1).ev (B.mem c) Ev.MEM.SR_ENTER
  { s with mem := { s.mem with
    retraining := s.mem.retraining.filter (· != c), toSelfRefresh := s.mem.toSelfRefresh.filter (· != c) } }

/-- The channel passes on from a training: FILL where it must be filled or resilvered, else READY (R412, R420, R427). -/
def State.afterTrain (s : State) (c : Nat) : State :=
  if s.mem.toSelfRefresh.contains c then (s.set (R.MEM.CH_STAT.FILLED c) 0).enterSr c
  else if !s.on (R.MEM.CH_STAT.FILLED c) || s.mem.resilver.contains c then s.setCh c Ch.fill
  else s.chReady c false

/-- PG_CTRL.EN of channel `c` is written 1: TRAIN; channels 2 and 3 of a tile go to self-refresh after it. -/
def State.memEnable (s : State) (c : Nat) : State :=
  if s.chState c = Ch.reset then
    let s := s.setCh c Ch.train
    if s.isTile && 2 ≤ c then { s with mem := { s.mem with toSelfRefresh := s.mem.toSelfRefresh ++ [c] } } else s
  else s

/-- A margin makes a working setting when it reaches MIN_MARGIN (R413). -/
def State.workingMargin (s : State) (c margin : Nat) : Bool := s.get (R.MEM.TRAIN_CFG.MIN_MARGIN c) ≤ margin

/-- TRAIN_DONE: a training that has found the smallest margin `margin` (R413). -/
def State.trainDone (s : State) (c margin : Nat) : State :=
  if s.chState c = Ch.train && !s.chFrozen c && s.workingMargin c margin then ((s.trained c margin).afterTrain c).memCheck else s

/-- DRAM_TRAIN_TIMEOUT. -/
def State.dramTrainTimeout (s : State) (c : Nat) : State :=
  if s.chState c = Ch.train then ((s.count (R.MEM.TRAIN_CNT.FAILED c)).enterOffline c).memCheck else s

/-- FILL_DONE (R414, R421). -/
def State.fillDone (s : State) (c : Nat) : State :=
  if s.chState c = Ch.fill && (!s.mem.resilver.contains c || s.mem.toSelfRefresh.contains c) && !s.chFrozen c then
    let s := s.set (R.MEM.CH_STAT.FILLED c) 1
    (if s.mem.toSelfRefresh.contains c then s.enterSr c else s.chReady c true).memCheck
  else s

/-- The marks of the copy in channel `c` after a resilver from the other one: a poison mark travels with its word, and a
new mismatch of the source is an error of port 7 (R418, R429, R430). -/
def State.resilverMarks (s : State) (c : Nat) : State :=
  let inRegion (e : Nat × Nat) : Bool := e.1 / 2 * 8 < tileEnd
  let s := { s with mem := { s.mem with par := s.mem.par.filter (fun e => !(inRegion e && e.1 % 2 == c)) } }
  (s.mem.par.filter (fun e => inRegion e && e.1 % 2 != c)).foldl (fun s e =>
    let a := e.1 / 2 * 8
    let s := if e.2 = 255 then s
      else (((s.count R.PAR.DRAM_ERR_CNT.COUNT).ev B.par Ev.PAR.DRAM_PARITY).dramErr (1 - c) 0x10 7 a e.2).mismatchHit (1 - c)
    s.setPar a c 255) s

/-- RESILVER_DONE (R418). -/
def State.resilverDone (s : State) (c : Nat) : State :=
  if s.chState c = Ch.fill && s.mem.resilver.contains c && !s.mem.toSelfRefresh.contains c && c < 2 && !s.chFrozen c then
    let s := s.resilverMarks c
    let s := { s with mem := { s.mem with resilver := s.mem.resilver.filter (· != c) } }
    let s := s.mirrorWhole true
    (if s.on (R.MEM.CH_STAT.FILLED c) then s.chReady c true else s).memCheck
  else s

/-! ### Retraining (R415, R416) -/

/-- A retraining of channel `c` is due. -/
def State.retrainDue (s : State) (c : Nat) : Bool :=
  let at_ := ((s.mem.lastTrain.find? (fun e => e.1 == c)).map (·.2)).getD 0
  let t0 := ((s.mem.lastTemp.find? (fun e => e.1 == c)).map (·.2)).getD (s.get (R.MEM.TEMP.T c))
  let dt := (sgn 16 (s.get (R.MEM.TEMP.T c)) - sgn 16 t0).natAbs
  s.mem.wanted.contains c || at_ + clampN 5 255 (s.get (R.MEM.TRAIN_CFG.INTERVAL c)) * 150000000 ≤ s.frc ||
    clampN 1 20 (s.get (R.MEM.TRAIN_CFG.DT c)) * 16 ≤ dt

/-- Whether channel `c` is READY or DEGRADED and not frozen. -/
def State.chUp (s : State) (c : Nat) : Bool :=
  (s.chState c == Ch.ready || s.chState c == Ch.degraded) && !s.chFrozen c

/-- RETRAIN_START. -/
def State.retrainStart (s : State) (c : Nat) : State :=
  if s.chUp c && s.retrainDue c && !s.mem.retraining.contains c then
    { s with mem := { s.mem with retraining := s.mem.retraining ++ [c], wanted := s.mem.wanted.filter (· != c) } }
  else s

/-- RETRAIN_END: the smallest margin found. With none, or one below MIN_MARGIN, no setting works (R413, R416). -/
def State.retrainEnd (s : State) (c : Nat) (margin : Option Nat) : State :=
  if !s.mem.retraining.contains c then s
  else
    let s := { s with mem := { s.mem with retraining := s.mem.retraining.filter (· != c) } }
    match margin.filter (s.workingMargin c) with
    | some m =>
      let s := s.trained c m
      if s.chState c = Ch.degraded then
        ({ s with mem := { s.mem with hits := s.mem.hits.filter (fun h => h.1 != c) } }).chReady c true else s
    | none =>
      let s := s.count (R.MEM.TRAIN_CNT.FAILED c)
      let s := { s with mem := { s.mem with
        lastTrain := (c, s.frc) :: s.mem.lastTrain.filter (fun e => e.1 != c)
        lastTemp := (c, s.get (R.MEM.TEMP.T c)) :: s.mem.lastTemp.filter (fun e => e.1 != c) } }
      if s.chState c = Ch.ready then (s.setCh c Ch.degraded).ev (B.mem c) Ev.MEM.DEGRADED else s

/-- RETRAIN_NOW. -/
def State.retrainNow (s : State) (c : Nat) : State :=
  if s.chUp c && !s.mem.wanted.contains c then { s with mem := { s.mem with wanted := s.mem.wanted ++ [c] } } else s

/-! ### Self-refresh and BIST (R420, R421) -/

/-- Every Tybel port is DISABLED or DOWN. -/
def State.portsQuiet (s : State) : Bool :=
  [0, 1].all (fun p => s.get (R.LNK.PORT_STAT.STAGE p) == 0 || s.get (R.LNK.PORT_STAT.STAGE p) == 6)

/-- Every rail channel is OFF. -/
def State.railsOff (s : State) : Bool := (List.range 24).all (fun c => s.get (R.RCH.CH_STAT.STATE c) == 0)

/-- The other channel of a pair goes into self-refresh with it, whatever it was doing; one in TRAIN has its training still to come
(R420). An OFFLINE channel and one that never started have nothing to keep. -/
def State.srPartner (s : State) (c : Nat) : State :=
  if s.chState c = Ch.offline || s.chState c = Ch.reset then s.set (R.MEM.CH_CTRL.SR c) 1
  else if s.chState c = Ch.train then
    ({ s with mem := { s.mem with wanted := s.mem.wanted.filter (· != c) ++ [c] } }).enterSr c
  else s.enterSr c

/-- SR is written 1. -/
def State.srEnter (s : State) (c : Nat) : State :=
  let pair := s.isTile && c < 2
  let ok := s.chState c == Ch.ready && !s.chFrozen c &&
    (!pair || (!s.enabled B.cor && !s.enabled B.scn && !s.enabled B.lfm && s.railsOff && s.portsQuiet))
  if !ok then s.err (B.mem c) 0x15 0 0
  else if pair then
    ((s.enterSr c).srPartner (1 - c)).memCheck
  else s.enterSr c

/-- One channel leaves self-refresh. -/
def State.leaveSr (s : State) (c : Nat) : State :=
  let s := s.set (R.MEM.CH_CTRL.SR c) 0
  if s.chState c != Ch.selfRefresh then s
  else
    let s := s.ev (B.mem c) Ev.MEM.SR_EXIT
    if s.retrainDue c then s.setCh c Ch.train else s.afterTrain c

/-- SR is written 0. -/
def State.srExit (s : State) (c : Nat) : State :=
  if s.isTile && c < 2 then ((s.leaveSr c).leaveSr (1 - c)).memCheck else (s.leaveSr c).memCheck

/-- OFFLINE is written 1. -/
def State.chOffline (s : State) (c : Nat) : State := if s.chUp c then (s.enterOffline c).memCheck else s

/-- RETURN is written 1. -/
def State.chReturn (s : State) (c : Nat) : State :=
  if s.chState c = Ch.offline then
    let s := s.setCh c Ch.train
    let s := if s.isTile && c < 2 then { s with mem := { s.mem with resilver := c :: s.mem.resilver.filter (· != c) } } else s
    s.memCheck
  else s

/-- BIST_GO is written 1. -/
def State.bistGo (s : State) (c : Nat) : State :=
  let sr := s.isTile && c < 2 && s.chState c == Ch.selfRefresh
  let ok := (s.chState c == Ch.ready || sr) && !s.chFrozen c && s.portsQuiet && (!s.isTile || s.railsOff) &&
    (List.range 4).all (fun o => o == c || s.chState o == Ch.selfRefresh || s.chState o == Ch.offline)
  if !ok then s.err (B.mem c) 0x14 0 0
  else
    let s := ((s.dropChannel c).set (R.MEM.CH_STAT.FILLED c) 0).set (R.MEM.BIST_STAT.RESULT c) 1
    if sr then
      ({ s with mem := { s.mem with
        resilver := c :: s.mem.resilver.filter (· != c), toSelfRefresh := c :: s.mem.toSelfRefresh.filter (· != c) } }).mirrorLost
    else s

/-- BIST_DONE: the first failing address, none when the test passes. A channel that went OFFLINE meanwhile stays so (R417). -/
def State.bistDone (s : State) (c : Nat) (bad : Option Nat) : State :=
  if s.get (R.MEM.BIST_STAT.RESULT c) != 1 then s
  else
    let s := s.set (R.MEM.BIST_STAT.RESULT c) (if bad.isSome then 3 else 2)
    let s := match bad with
      | some a => s.set64 (R.PG.ERR_ADDR_LO (B.mem c)) (R.PG.ERR_ADDR_HI (B.mem c)) a
      | none => s
    let s := s.ev (B.mem c) Ev.MEM.BIST_DONE
    (if s.chState c = Ch.offline then s else s.setCh c Ch.fill).memCheck

/-! ### Requests -/

/-- The channels whose pages count a request: each that takes the write, or the one that serves the read. -/
def State.accessChannels (s : State) (a : Nat) (wr : Bool) : List Nat :=
  match s.route a with
  | .copies l => if wr then s.writeChannels a l else [s.copyChannel a (s.readCopy l)]
  | _ => []

/-- A read of `n` bytes at `a` comes to channel `c`: it is served from the queue when `fwd` says so and a queued write covers it in full;
otherwise the writes that it overlaps have reached DRAM, and those before them (R425). -/
def State.queueRead (s : State) (c a n : Nat) (fwd : Bool) : State :=
  let q := s.mem.queues.getD c []
  if fwd && q.any (fun w => w.1 ≤ a && a + n ≤ w.1 + w.2) then s.count (R.MEM.WQ_FWD.COUNT c)
  else { s with mem := { s.mem with queues := putAt s.mem.queues c (q.takeWhile (fun w => w.1 + w.2 ≤ a || a + n ≤ w.1)) } }

/-- The channel may have stalled a request: for a write its queue holds 64 (R424). -/
def State.mayStall (s : State) (c : Nat) (wr : Bool) : Bool := !wr || (s.mem.queues.getD c []).length == 64

/-- What a channel's page counts of a request: its latency in 10 ns, a read served from the write queue, a stall. The commands come in
the order in which the channel serves them; by which urgency it chose them, and that retraining steps and refresh waited for it, is
timing, of which the latency tells (R422 to R424; log entry 125). -/
def State.portCounts (s : State) (c port a n lat : Nat) (wr fwd stall : Bool) : State :=
  let miss := clampN 10 65535 (s.get (R.MEM.PORT_TGT.TGT c port)) < lat
  let s := s.set (R.MEM.PORT_LAT.MAX c port) (min 65535 (max lat (s.get (R.MEM.PORT_LAT.MAX c port))))
  let s := if miss then s.count (R.MEM.PORT_LAT.MISS c port) else s
  let s := s.evIf (miss && s.isTile && port == 2) (B.mem c) Ev.MEM.DEADLINE_MISS
  let st := stall && s.mayStall c wr
  let s := if wr then s else s.queueRead c a n fwd
  let s := match s.klc.job with
    | some j => (match j.owner with | some o => if st && port = 3 then s.count (R.QCX.Q_STALL_CNT.COUNT o.1) else s | none => s)
    | none => s
  if !st then s else if wr then s.count (R.MEM.STALL_WR.COUNT c) else s.count (R.MEM.STALL_RD.COUNT c)

/-- DRAM_ACCESS: port `port` reads `n` bytes from `a`, or writes the low `n` bytes of `v`. Parity bits that have flipped in
storage are given by word copy. -/
def State.dramAccess (s : State) (port a n : Nat) (wr : Bool) (v flip0 flip1 lat : Nat) (fwd stall : Bool) : State :=
  let s := (s.setPar a 0 (s.parMask a 0 ^^^ flip0 % 256))
  let s := if s.isTile && a < tileEnd then s.setPar a 1 (s.parMask a 1 ^^^ flip1 % 256) else s
  let was := s.chStates
  let s := (s.accessChannels a wr).foldl (fun (s : State) c => s.portCounts c port a n lat wr fwd stall) s
  let r :=
    if wr then s.dramWrite port a (toBytes n v)
    else
      let (s, l, _) := s.dramBytes port a n
      s.emit (.data a n (leNat l))
  r.memSettle was

/-- SRAM_PARITY: the page of the block, its array, the offset in it, the mismatched bytes, the local address under which
software sees the word (R431), and the packet that a word of the merge buffers belongs to (R139). -/
def State.sramParity (s : State) (b array ofs bytes loc : Nat) (pkt : Option (Nat × Nat × Nat)) : State :=
  let s := s.sramError b array ofs bytes
  let s := match pkt with
    | some (k, l, q) => if s.role == Role.sender then s.mergeParity k l (unwrapSeq ((s.slot k).leg l).last q) else s
    | none => s
  { s with mem := { s.mem with sram := if s.mem.sram.contains (loc / 8 * 8) then s.mem.sram else s.mem.sram ++ [loc / 8 * 8] } }

/-! ### Patrol (R436) -/

/-- Show the head of the list in PAT_BAD. -/
def State.showBad (s : State) : State :=
  match s.mem.patBad with
  | [] => ((s.set R.PAR.PAT_BAD.VALID 0).set R.PAR.PAT_BAD.BANK 0).set R.PAR.PAT_BAD.REGION 0
  | e :: _ => ((s.set R.PAR.PAT_BAD.VALID 1).set R.PAR.PAT_BAD.BANK e.1).set R.PAR.PAT_BAD.REGION e.2

/-- The regions that the patrol walks, as (base of region 0, number) per bank. -/
def State.patWalk (s : State) : List (Nat × Nat) :=
  if s.on R.PAR.PAT_CTRL.SRC && s.isTile then [(s.bankBase 0, s.regions), (s.bankBase 1, s.regions)]
  else [(s.get64 R.PAR.PAT_BASE_LO.BASE R.PAR.PAT_BASE_HI.BASE, s.get R.PAR.PAT_SIZE.MIB * 256)]

/-- Read the 512 words of a region at `a`: the state after it, and whether any carried a mark. -/
def State.patrolScan (s : State) (a : Nat) : State × Bool :=
  (List.range 512).foldl (fun (x : State × Bool) i => ((x.1.dramRead 7 (a + 8 * i)).1, x.2 || (x.1.dramRead 7 (a + 8 * i)).2.2)) (s, false)

/-- Region `r` of bank `b` is bad: it goes into the list, or the overflow counter counts it. -/
def State.patrolFound (s : State) (b r : Nat) : State :=
  let s := s.ev B.par Ev.PAR.PATROL_BAD
  if s.mem.patBad.length < 32 then ({ s with mem := { s.mem with patBad := s.mem.patBad ++ [(b, r)] } }).showBad
  else s.count R.PAR.PAT_OVF.COUNT

/-- Read region `r` of bank `b`, which holds `n` regions from `base`. -/
def State.patrolRegion (s : State) (base n b r : Nat) : State :=
  if n ≤ r then s
  else
    let x := s.patrolScan (base + 4096 * r)
    if x.2 then x.1.patrolFound b r else x.1

/-- The patrol goes on after region `r` of bank `b`; the end of the last bank ends the pass. -/
def State.patrolOn (s : State) (banks n b r : Nat) : State :=
  if r + 1 < n then { s with mem := { s.mem with patRegion := r + 1 } }
  else if b + 1 < banks then { s with mem := { s.mem with patBank := b + 1, patRegion := 0 } }
  else
    let s := { s with mem := { s.mem with patBank := 0, patRegion := 0 } }
    ((s.set R.PAR.PAT_STAT.RUNNING 0).count R.PAR.PAT_STAT.PASSES).ev B.par Ev.PAR.PATROL_PASS

/-- A pass that begins takes the addresses of its regions; a change of the bank addresses reaches the next pass. -/
def State.patrolStart (s : State) : State :=
  if s.mem.patBank = 0 && s.mem.patRegion = 0 then { s with mem := { s.mem with patList := s.patWalk } } else s

/-- PATROL_READ: the next region is read and checked. -/
def State.patrolRead (s : State) : State :=
  if !s.on R.PAR.PAT_CTRL.EN || !s.works B.par then s
  else
    let s := s.patrolStart
    match s.mem.patList[s.mem.patBank]? with
    | none => { s with mem := { s.mem with patBank := 0, patRegion := 0 } }
    | some (base, n) =>
      (((s.set R.PAR.PAT_STAT.RUNNING 1).patrolRegion base n s.mem.patBank s.mem.patRegion).patrolOn s.mem.patList.length n
        s.mem.patBank s.mem.patRegion).memSettle s.chStates

/-- The word that a read of PAT_BAD returns; the entry is removed (Table 14-10). -/
def State.patBadRead (s : State) : State × Nat :=
  let v := s.get R.PAR.PAT_BAD.VALID + 2 * s.get R.PAR.PAT_BAD.BANK + 4096 * s.get R.PAR.PAT_BAD.REGION
  (({ s with mem := { s.mem with patBad := s.mem.patBad.drop 1 } }).showBad, v)

/-! ### Commands -/

/-- FILL_DONE (R414). -/
def execFillDone (c t : Nat) (s : State) : Host.Outcome State Fault Refusal := run (fun s => (s.tick t).fillDone c) s

/-- RESILVER_DONE (R418). -/
def execResilverDone (c t : Nat) (s : State) : Host.Outcome State Fault Refusal := run (fun s => (s.tick t).resilverDone c) s

/-- RETRAIN_START (R415). -/
def execRetrainStart (c t : Nat) (s : State) : Host.Outcome State Fault Refusal := run (fun s => (s.tick t).retrainStart c) s

/-- RETRAIN_END (R416). -/
def execRetrainEnd (c : Nat) (margin : Option Nat) (t : Nat) (s : State) : Host.Outcome State Fault Refusal :=
  run (fun s => (s.tick t).retrainEnd c margin) s

/-- RETRAIN_NOW (R415). -/
def execRetrainNow (c t : Nat) (s : State) : Host.Outcome State Fault Refusal := run (fun s => (s.tick t).retrainNow c) s

/-- SR_ENTER (R420). -/
def execSrEnter (c t : Nat) (s : State) : Host.Outcome State Fault Refusal := run (fun s => (s.tick t).srEnter c) s

/-- SR_EXIT (R420). -/
def execSrExit (c t : Nat) (s : State) : Host.Outcome State Fault Refusal := run (fun s => (s.tick t).srExit c) s

/-- OFFLINE (R417). -/
def execOfflineChannel (c t : Nat) (s : State) : Host.Outcome State Fault Refusal := run (fun s => (s.tick t).chOffline c) s

/-- RETURN (R418). -/
def execReturnChannel (c t : Nat) (s : State) : Host.Outcome State Fault Refusal := run (fun s => (s.tick t).chReturn c) s

/-- BIST_GO (R421). -/
def execBistGo (c t : Nat) (s : State) : Host.Outcome State Fault Refusal := run (fun s => (s.tick t).bistGo c) s

/-- BIST_DONE (R421). -/
def execBistDone (c : Nat) (bad : Option Nat) (t : Nat) (s : State) : Host.Outcome State Fault Refusal :=
  run (fun s => (s.tick t).bistDone c bad) s

/-- DRAM_ACCESS (R422 to R429). -/
def execDramAccess (port a n : Nat) (wr : Bool) (v flip0 flip1 lat : Nat) (fwd stall : Bool) (t : Nat) (s : State) :
    Host.Outcome State Fault Refusal := run (fun s => (s.tick t).dramAccess port a n wr v flip0 flip1 lat fwd stall) s

/-- SRAM_PARITY (R431). -/
def execSramParity (b array ofs bytes loc : Nat) (pkt : Option (Nat × Nat × Nat)) (t : Nat) (s : State) : Host.Outcome State Fault Refusal :=
  run (fun s => (s.tick t).sramParity b array ofs bytes loc pkt) s

/-- PATROL_READ (R436). -/
def execPatrolRead (t : Nat) (s : State) : Host.Outcome State Fault Refusal := run (fun s => (s.tick t).patrolRead) s

/-- PAT_BAD_READ (R436). -/
def execPatBadRead (t : Nat) (s : State) : Host.Outcome State Fault Refusal :=
  run (fun s => let (s, v) := (s.tick t).patBadRead; s.emit (.data 0x120120 4 v)) s

end Sys2Proof.Machine
end

