-- ==== Sys2Proof/Machine/Power.lean ====
section
/-!
DEFINITION. Supply, reset, reference clock and the boot sequence (R110, R374 to R376, R405, R516, R522, R525, R553,
R554, R568 to R572, R582), and the two commands that can end in a reset: a housekeeping round and the end of a confirm
window.
-/
namespace Sys2Proof.Machine

/-! ### Causes of a module reset (Table 13-6, RST_CAUSE) -/

def Cause.powerOn : Nat := 1
def Cause.resetN : Nat := 2
def Cause.software : Nat := 4
def Cause.jtag : Nat := 8
def Cause.thermal : Nat := 16

/-- The causes of a module reset are the bits of `m`: RST_CAUSE and its reset value. -/
def State.setCause (s : State) (m : Nat) : State :=
  let s := { s with fwu := { s.fwu with cause := m } }
  let s := ((s.set R.RCK.RST_CAUSE.POWER_ON (bitsOf m 0 1)).set R.RCK.RST_CAUSE.RESET_N (bitsOf m 1 1))
  ((s.set R.RCK.RST_CAUSE.SOFTWARE (bitsOf m 2 1)).set R.RCK.RST_CAUSE.JTAG (bitsOf m 3 1)).set R.RCK.RST_CAUSE.THERMAL (bitsOf m 4 1)

/-- Whether the field under key `k` outlives a module reset: what the slot registers show of flash and what fuses hold
(R530, R537, R546). -/
def outlivesReset (k : Nat) : Bool :=
  (0x28140 * 32 ≤ k && k < 0x281A0 * 32) || k == R.FWU.KEYS.REVOKED.key || k == R.FWU.ROLLBACK.COUNT.key

/-- The state of a module held in reset: registers at reset, flash, boot control block and fuses kept (R563). -/
def State.inReset (s : State) (p : Power) (cause : Nat) : State :=
  let n : State := { pending := s.pending, power := p, role := s.role, fresh := s.fresh, out := s.out,
                     fwu := { flash := s.fwu.flash, boot0 := s.fwu.boot0, boot1 := s.fwu.boot1 }, regs := s.regs.filter (fun e => outlivesReset e.1) }
  n.setCause cause

/-- A cause that comes while the module is held in reset already. -/
def State.addCause (s : State) (cause : Nat) : State := s.setCause (s.fwu.cause ||| cause)

/-! ### The registers whose reset value depends on the role -/

/-- Tile values of the page at `b` that differ from the Sender's (Tables 4-16, 4-19, 14-3). -/
def State.roleDefaults (s : State) (b : Nat) : State :=
  if s.role = .sender then s
  else if b = B.tim then
    ((s.set R.TIM.TIM_CTRL.FRAME_SRC 3).set (R.TIM.DOM_LOST.COUNT 0) 8).set (R.TIM.DOM_LOST.COUNT 1) 8
  else if b = B.dep then (s.set R.DEP.MODE_CUR.ROLE 1).set R.DEP.MODE_NEXT.ROLE 1
  else if (List.range 4).any (fun c => b == B.mem c) then
    let c := (b - 0x110000) / 0x1000
    let s := s.forN 8 (fun s i => s.set (R.MEM.PORT_TGT.TGT c i) ([200, 400, 150, 800, 400, 200, 400, 5000].getD i 0))
    s.set (R.MEM.PORT_TGT.HARD c 2) 1
  else s

/-! ### Fuses (R522, R525) -/

/-- The trim fuse block. -/
def State.loadTrims (s : State) (f : Fuses) : State :=
  let ok := f.stored % 65536 == f.computed % 65536
  let s := ((s.set R.CAL.FUSE_CRC.STORED f.stored).set R.CAL.FUSE_CRC.COMPUTED f.computed).set R.CAL.CAL_STAT.FUSE_OK (bit ok)
  let s := s.forN 68 (fun s k => s.setI (R.CAL.TRIM_FACT.CODE k) (if ok then f.trims.getD k 0 else 0))
  let s := s.takeTrims
  if ok then s else (s.fault B.cal true).ev B.cal Ev.CAL.FUSE_BAD

/-- The MAC address of Ethernet port p after reset is MAC_BASE + p (R525). -/
def State.loadMacs (s : State) : State :=
  s.forN 4 (fun s p => s.set64 (R.ETH.MAC_LO.MAC p) (R.ETH.MAC_HI.MAC p) ((s.get64 R.IDN.MAC_BASE_LO.MAC R.IDN.MAC_BASE_HI.MAC + p) % 2 ^ 48))

/-- The identity fuse block, and the MAC addresses of the Ethernet ports. -/
def State.loadIdentity (s : State) (f : Fuses) : State :=
  let v (n : Nat) : Nat := if f.idOk then n else 0
  let s := (s.set R.IDN.ID_STAT.ID_OK (bit f.idOk)).set R.IDN.IDN_TYPE.STEPPING (v f.stepping)
  let s := (s.set R.IDN.LOT_LO.LOT (v f.lotLo)).set R.IDN.LOT_HI.LOT (v f.lotHi)
  let s := ((s.set R.IDN.DIE.WAFER (v f.wafer)).set R.IDN.DIE.DIE_X (v f.dieX)).set R.IDN.DIE.DIE_Y (v f.dieY)
  let s := s.forN 3 (fun s i => s.set (R.IDN.SERIAL.V i) (v (f.serial.getD i 0)))
  let mac := v f.mac % 2 ^ 48
  let s := s.set64 R.IDN.MAC_BASE_LO.MAC R.IDN.MAC_BASE_HI.MAC mac
  let s := if s.role = .sender then s.loadMacs else s
  if f.idOk then s else s.fault 0 true

/-! ### Leaving reset (R553, R554, R569) -/

/-- The boot ROM sets EN in the pages of R554. -/
def State.bootEnables (s : State) : State :=
  let l := [B.fwu, B.par, B.lnk 0, B.lnk 1, B.lne 0, B.lne 1] ++ (if s.role = .tile then (List.range 8).map (fun i => B.lnl (8 + i)) else (List.range 16).map B.lnl) ++ (List.range 4).map B.mem ++
    (if s.role = .tile then [B.que] else [])
  let s := l.foldl (fun s b => s.set (R.PG.EN b) 1) s
  ((s.forN 4 State.memEnable).portEnable 0).portEnable 1

/-- At t_S the straps are sampled, the die leaves reset and the boot sequence runs. -/
def State.release (s : State) (strap : Nat) (bootSel : Bool) (f : Fuses) (ppm : Int) : State :=
  let s := { s with power := .running, role := if strap = 1 then .tile else .sender, frc := 0 }
  let s := (s.set R.IDN.STRAPS.ROLE strap).set R.IDN.STRAPS.BOOT_SEL (bit bootSel)
  let s := ([B.tim, B.dep] ++ (List.range 4).map B.mem).foldl State.roleDefaults s
  let s := (s.setI R.RCK.CLK_STAT.PPM ppm).set R.RCK.CLK_STAT.REFCLK_OK (bit (ppm.natAbs ≤ 1000))
  let s := ((s.loadTrims f).loadIdentity f).set R.FWU.KEYS.PRESENT f.keys
  let s := { s with fwu := { s.fwu with hashes := f.hashes } }
  (s.bootLoad.slotsReset.boot (bootSel || 2 ≤ strap)).bootEnables

/-! ### The reference clock (R110, R405) -/

/-- REFCLK is lost. -/
def State.refclkLost (s : State) (ppm : Int) : State :=
  let s := (s.setI R.RCK.CLK_STAT.PPM ppm).set R.RCK.CLK_STAT.REFCLK_OK 0
  if s.tim.onInt then s
  else
    let s := { s with tim := { s.tim with onInt := true } }
    let s := ((s.set R.RCK.CLK_STAT.ON_INTOSC 1).ev B.rck Ev.RCK.CLK_SWITCH).set R.TIM.TIM_STAT.ON_INTOSC 1
    let s := (s.set R.TIM.TIM_STAT.TIME_VALID 0).ev B.tim Ev.TIM.REFCLK_LOST
    let s := ((s.portDown 0).portDown 1).forN 4 State.ethDown
    s.domsLost

/-- The time clock and the core go back to REFCLK, and the links restart bring-up. -/
def State.refclkBack (s : State) : State :=
  if !s.tim.onInt then s
  else
    let s := { s with tim := { s.tim with onInt := false } }
    let s := ((s.set R.RCK.CLK_STAT.ON_INTOSC 0).ev B.rck Ev.RCK.CLK_SWITCH).set R.TIM.TIM_STAT.ON_INTOSC 0
    let s := s.ev B.tim Ev.TIM.REFCLK_BACK
    (s.portThaw 0).portThaw 1

/-- REFCLK deviates by `ppm`: what CLK_STAT shows. -/
def State.showRefclk (s : State) (ppm : Int) : State :=
  (s.setI R.RCK.CLK_STAT.PPM ppm).set R.RCK.CLK_STAT.REFCLK_OK (bit (ppm.natAbs ≤ 1000))

/-! ### Shutdown (R516) -/

/-- Every rail channel that had to discharge has done so. -/
def State.shutDischarged (s : State) : Bool := s.hkt.shutRails.all (fun c => s.on (R.RCH.CH_STAT.DISCHARGED c))

/-- The reset of a shutdown: not before the rails have discharged, unless 20 ms have passed. -/
def State.thermalReset (s : State) : State :=
  if s.hkt.shutdown && (s.shutDischarged || s.hkt.shutAt + 30000000 ≤ s.frc) then s.inReset .hot Cause.thermal else s

/-- A round is over; where it found the die too hot, the links go down and the shutdown is timed. -/
def State.roundEnd (s : State) (down : Bool) : State :=
  if down then
    (((({ s with hkt := { s.hkt with shutAt := s.frc } }).portDown 0).portDown 1)).forN 4 State.ethDown
  else s

/-- A housekeeping round; a shutdown takes every Tybel and Ethernet port down. -/
def State.roundDone (s : State) (raw : List Int) (vb : Nat) : State :=
  (s.hktRound raw vb).1.roundEnd (s.hktRound raw vb).2

/-! ### Rail outputs (R378, R571, R572) -/

/-- Whether RAILc_PWM and RAILc_EN of channel `c` may switch, in FAULT for its discharge (R390): only in a running tile whose 5 V rail holds. -/
def State.railDriven (s : State) (c : Nat) : Bool :=
  s.power == .running && s.role == .tile && 
    ([Rail.softstart, Rail.ready, Rail.discharge].contains (s.railState c) || s.railState c == Rail.fault && s.rai.discharging.contains c)

/-! ### Commands -/

/-- POWER_UP (R374): a start from VBUS; the rails come up in `us` µs and the die stays in reset. -/
def execPowerUp (us : Nat) (s : State) : Host.Outcome State Fault Refusal :=
  .next ((s.inReset .held Cause.powerOn).set R.PWR.RAIL_TIME.US us)

/-- INTERNAL_5V_LOSS (R376, R572): the state is undefined until the next reset, and the rail outputs are held low. -/
def execInternal5vLoss (s : State) : Host.Outcome State Fault Refusal :=
  .next (if s.power = .off then s else { s with power := .sagged })

/-- A reset by RESET_N. -/
def State.resetN (s : State) : State :=
  match s.power with
  | .off => s
  | .held => s.addCause Cause.resetN
  | .hot => s.addCause Cause.resetN
  | .running => s.inReset .held Cause.resetN
  | .sagged => s.inReset .held Cause.resetN

/-- RESET_N (R570): a low level of `ns` ns; between 1 µs and 10 µs the module resets or ignores the pulse. -/
def execResetN (ns : Nat) (s : State) : Host.Outcome State Fault Refusal :=
  .next (if ns < 1000 then s
    else if 10000 ≤ ns then s.resetN
    else if Config.choice s.fresh % 2 = 0 then s.draw else s.draw.resetN)

/-- RESET_RELEASE (R569). -/
def execResetRelease (strap : Nat) (bootSel : Bool) (f : Fuses) (ppm : Int) (s : State) :
    Host.Outcome State Fault Refusal :=
  match s.power with
  | .held => .next (s.release (strap % 4) bootSel f ppm)
  | .sagged => .fault .undefinedAfterSag
  | .running => .next s
  | .hot => .next s
  | .off => .next s

/-- SOFTWARE_RESET (R405). -/
def execSoftwareReset (s : State) : Host.Outcome State Fault Refusal := run (fun s => s.inReset .held Cause.software) s

/-- MODRST (R582): the test port works while the internal rails are in regulation, whatever RESET_N. -/
def execModrst (s : State) : Host.Outcome State Fault Refusal :=
  match s.power with
  | .off => .next s
  | .held => .next (s.addCause Cause.jtag)
  | .hot => .next (s.addCause Cause.jtag)
  | .running => .next (s.inReset .held Cause.jtag)
  | .sagged => .fault .undefinedAfterSag

/-- THERMAL_RESET (R516). -/
def execThermalReset (t : Nat) (s : State) : Host.Outcome State Fault Refusal := run (fun s => (s.tick t).thermalReset) s

/-- SHUTDOWN_RESTART (R516): the module starts again as from RESET_N. -/
def execShutdownRestart (s : State) : Host.Outcome State Fault Refusal :=
  match s.power with
  | .hot => .next { s with power := .held }
  | .sagged => .fault .undefinedAfterSag
  | .running => .next s
  | .held => .next s
  | .off => .next s

/-- REFCLK_LOST (R110). -/
def execRefclkLost (ppm : Int) (t : Nat) (s : State) : Host.Outcome State Fault Refusal :=
  run (fun s => (s.tick t).refclkLost ppm) s

/-- RET_AUTO (R405): only while RET_AUTO is 1. -/
def execRetAuto (ppm : Int) (t : Nat) (s : State) : Host.Outcome State Fault Refusal :=
  run (fun s =>
    let s := (s.tick t).showRefclk ppm
    if s.on R.RCK.CLK_CTRL.RET_AUTO && s.on R.RCK.CLK_STAT.REFCLK_OK then s.refclkBack else s) s

/-- RET_NOW (R405): no effect while REFCLK_OK is 0. -/
def execRetNow (ppm : Int) (t : Nat) (s : State) : Host.Outcome State Fault Refusal :=
  run (fun s =>
    let s := (s.tick t).showRefclk ppm
    if s.on R.RCK.CLK_STAT.REFCLK_OK then s.refclkBack else s) s

/-- ROUND_DONE (R506). -/
def execRoundDone (raw : List Int) (vb : Nat) (t : Nat) (s : State) : Host.Outcome State Fault Refusal :=
  run (fun s => (s.tick t).roundDone raw vb) s

/-- The confirm window of the MC (`cpu` 0) or the LC (1) ends; with no slot to go back to the module is reset, with a cause
that the spec does not name. -/
def State.confirmWindow (s : State) (cpu : Nat) : State :=
  let (s, ok) := s.revert (if cpu = 0 then s.mcSlot else s.lcSlot)
  if ok then s else s.draw.inReset .held (Config.choice s.fresh % 32)

/-- CONFIRM_WINDOW_END (R536). -/
def execConfirmWindowEnd (cpu t : Nat) (s : State) : Host.Outcome State Fault Refusal :=
  run (fun s => (s.tick t).confirmWindow cpu) s

end Sys2Proof.Machine
end

