-- ==== Sys2Proof/Machine/Session.lean ====
section
/-!
DEFINITION. The SVC sessions of both ends of a line (R286, R548 to R550): cutting data into segments, and the messages that a
mailbox session returns.
-/
namespace Sys2Proof.Machine

/-! ### The sender's end -/

/-- The session of port `p` with stop `k`. -/
def State.session (s : State) (p k : Nat) : Option SvcOut := (s.lineTx p).sessions.find? (fun v => v.stop == k)

/-- Replace it, or begin it. -/
def State.setSession (s : State) (p : Nat) (v : SvcOut) : State :=
  s.setLineTx p { s.lineTx p with sessions := v :: (s.lineTx p).sessions.filter (fun w => w.stop != v.stop) }

/-- It ends. -/
def State.endOut (s : State) (p k : Nat) : State :=
  s.setLineTx p { s.lineTx p with sessions := (s.lineTx p).sessions.filter (fun w => w.stop != k) }

/-- Bytes in the relay buffer (R550): not sent, and sent but not acknowledged. -/
def SvcOut.held (v : SvcOut) : Nat := v.buf.length + (v.segs.map (fun g => g.data.length)).foldl (· + ·) 0

/-- The next segment of a session, if one is due: 48 bytes, or what is left of a mailbox message or of a slot that has been
closed; a slot's last bytes wait for SLOT_CLOSE, whose segment carries LAST. At most 32 segments are not acknowledged. -/
def SvcOut.due (v : SvcOut) : Option (List Byte × Bool) :=
  if v.acked.isNone || 32 ≤ v.segs.length || v.closing && v.segs.any (·.last) then none
  else if v.closing && v.buf.length ≤ 48 then some (v.buf, true)
  else if 48 < v.buf.length || (v.purpose == 4 && v.buf != []) then some (v.buf.take 48, false)
  else none

/-- Send what is due of the session with stop `k`, at most `n` segments. -/
def State.pumpSession (s : State) (p k : Nat) : Nat → State
  | 0 => s
  | n + 1 =>
    match s.session p k with
    | none => s
    | some v =>
      match v.due with
      | none => s
      | some (d, last) =>
        let g : SvcMsg := ⟨last, s.srcRelief, k, v.session, v.next, d⟩
        let v := { v with next := (v.next + 1) % 65536, segs := v.segs ++ [g], buf := v.buf.drop d.length }
        State.pumpSession ((s.setSession p v).send p (.svc g)) p k n

/-- Begin a session (R548): SEQ 0 goes out, and `w` waits for its answer. -/
def State.openOut (s : State) (p k purpose slot total : Nat) (buf : List Byte) (w : Caller × Nat × Nat) : State :=
  -- a new number; which one is left open
  let id := (s.line.lastSession + 1 + Config.choice s.fresh % 1000) % 65536
  let s := s.draw
  let s := { s with line := { s.line with lastSession := id } }
  let g : SvcMsg := ⟨false, s.srcRelief, k, id, 0,
    [BitVec.ofNat 8 purpose, BitVec.ofNat 8 slot, 0, 0] ++ toBytes 4 total⟩
  let v : SvcOut := { stop := k, session := id, purpose := purpose, slot := slot, next := 1, segs := [g], buf := buf, wait := some w }
  (s.setSession p v).send p (.svc g)

/-! ### The tile's end of a mailbox session (R549) -/

/-- Cut a message of 64 bytes into two segments. -/
def SvcIn.returns (x : SvcIn) (stop : Nat) (bytes : List Byte) : List SvcMsg :=
  [⟨false, false, stop, x.session, x.next, bytes.take 48⟩, ⟨false, false, stop, x.session, (x.next + 1) % 65536, bytes.drop 48⟩]

/-- Side-B messages of the session's channel go to the sender that opened it, oldest first, at most `n`; one with a poison mark is discarded (R461). -/
def State.mbxReturn (s : State) : Nat → State
  | 0 => s
  | n + 1 =>
    match s.line.svcIn with
    | none => s
    | some x =>
      match (s.chan x.slot).toA with
      | [] => s
      | m :: _ =>
        if x.purpose != 4 || 30 < x.segs.length || !s.works (B.mbx x.slot) then s
        else if m.2 then State.mbxReturn (s.mbxPop x.slot 0) n
        else
          let l := x.returns (s.ownStop x.port) ((m.1.map (toBytes 4)).foldl (· ++ ·) [])
          let s := { s with line := { s.line with svcIn := some { x with next := (x.next + 2) % 65536, segs := x.segs ++ l } } }
          State.mbxReturn ((l.foldl (fun (s : State) g => s.send x.port (.svc g)) s).mbxPop x.slot 0) n

/-- All that are there. -/
def State.mbxRelay (s : State) : State :=
  match s.line.svcIn with
  | some x => if s.isTile then s.mbxReturn (s.chan x.slot).toA.length else s
  | none => s

/-- Side `k` sends, and a mailbox session takes what side B has sent. -/
def State.mbxSendRelay (s : State) (c k : Nat) : State := (s.mbxSend c k).mbxRelay

end Sys2Proof.Machine
end

