-- ==== Sys2Proof/Machine/Rules.lean ====
section
/-!
DEFINITION. Queue enables and errors, rule commits, tenant resets and self-tests (R444, R450, R453 to R455, R464 to R468).
-/
namespace Sys2Proof.Machine

/-! ### Queues (R444, R445, R450) -/

/-- The queues whose context differs from reset, in ascending order. -/
def State.usedQueues (s : State) : List Nat :=
  ((s.regs.filter (fun e => 0x1800000 * 32 ≤ e.1 && e.1 < 0x1880000 * 32)).map (fun e => (e.1 / 32 - 0x1800000) / 0x40)).eraseDups

/-- QUE_STAT.ENABLED. -/
def State.showQueues (s : State) : State :=
  s.set R.QUE.QUE_STAT.ENABLED (s.usedQueues.filter (fun q => s.on (R.QCX.Q_CTRL.EN q))).length

/-- EN of queue `q` is written 1: ERROR clears (Table 15-10). -/
def State.queueEnable (s : State) (q : Nat) : State :=
  ((s.set (R.QCX.Q_CTRL.ERROR q) 0).set (R.QCX.Q_CTRL.EN q) 1).showQueues

/-- An admitted descriptor that has not been dispatched whole sends no more and ends with `st`. -/
def State.dropDesc (s : State) (st : Nat) (d : Desc) : State :=
  if d.result.isSome || d.dispatched || d.stop.isSome then s
  else
    let s := s.setDesc { d with stop := some st }
    if d.sent = 0 then s.complete d.q d.idx st 0 [] else s.settle d.q d.idx

/-- EN of queue `q` is written 0 (R450). -/
def State.queueDisable (s : State) (q : Nat) : State :=
  let s := (s.set (R.QCX.Q_CTRL.EN q) 0).showQueues
  (s.que.descs.filter (fun d => d.q == q)).foldl (State.dropDesc · 9) s

/-- The queue sets ERROR and clears EN (R444, R445). -/
def State.queueError (s : State) (q cause idx : Nat) : State :=
  let s := ((s.set (R.QCX.Q_CTRL.ERROR q) 1).set (R.QCX.Q_CTRL.EN q) 0).showQueues
  let s := (s.set (R.QCX.Q_ERR.CAUSE q) cause).set (R.QCX.Q_ERR.IDX q) idx
  (s.ev B.que Ev.QUE.QUEUE_ERROR).err B.que 0x10 cause q

/-! ### Rule commits (R453, R454) -/

/-- The staged slots become the slots in force. -/
def State.takeRules (s : State) : State :=
  { s with regs := s.regs.filter (fun e => e.1 < 0x150800 * 32) ++
      (s.regs.filter (fun e => 0x150400 * 32 ≤ e.1 && e.1 < 0x150800 * 32)).map (fun e => (e.1 + 0x400 * 32, e.2)) ++
      s.regs.filter (fun e => 0x150C00 * 32 ≤ e.1) }

/-- A running job under the new rules: it ends at its next block boundary, or counts under the new epoch. -/
def State.recheckJob (s : State) : State :=
  match s.klc.job with
  | none => s
  | some j =>
    match j.owner with
    | none => s
    | some o =>
      match s.desc o.1 o.2 with
      | none => s
      | some d =>
        if s.descOk d then { s with klc := { s.klc with job := some { j with epoch := s.get R.TEN.RULE_EPOCH.EPOCH } } }
        else { s with klc := { s.klc with job := some { j with abort := true } } }

/-- A write of 1 to RULE_CTRL.COMMIT. -/
def State.ruleCommit (s : State) : State :=
  if s.on R.TEN.RULE_STAT.DRAINING then (s.ev B.ten Ev.TEN.RULE_REFUSED).err B.ten 0x11 0 0
  else
    let s := s.takeRules
    let s := s.set R.TEN.RULE_EPOCH.EPOCH (s.get R.TEN.RULE_EPOCH.EPOCH + 1)
    ((s.set R.TEN.RULE_STAT.DRAINING 1).recheckJob).showOld

/-- No access of an older epoch remains: DRAINING clears. -/
def State.ruleDone (s : State) : State :=
  let s := s.showOld
  if s.on R.TEN.RULE_STAT.DRAINING && s.get R.TEN.RULE_STAT.OLD == 0 then
    (s.set R.TEN.RULE_STAT.DRAINING 0).ev B.ten Ev.TEN.RULE_DONE
  else s

/-! ### Tenant reset (R455, R460) -/

/-- A queue of a tenant that is reset. -/
def State.queueReset (s : State) (q : Nat) : State :=
  let s := ((s.set (R.QCX.Q_CTRL.EN q) 0).set (R.QCX.Q_INFLIGHT.COUNT q) 0).set (R.QCX.Q_CTRL.IDLE q) 1
  ((s.set (R.QCX.Q_FETCH.IDX q) 0).set (R.QCX.Q_HEAD.IDX q) 0).set (R.QCX.Q_TAIL.IDX q) 0

/-- The transactions of tenant `t`'s descriptors on port `p`: their completions will be discarded. -/
def State.discardTxns (s : State) (t p : Nat) : State :=
  let x := s.lineTx p
  s.setLineTx p { x with txns := x.txns.map (fun u =>
    match u.owner with
    | .desc _ _ _ => if u.tenant = t then { u with discard := true } else u
    | _ => u) }

/-- Reset of tenant `t`. -/
def State.tenantReset (s : State) (t : Nat) : State :=
  let l := s.usedQueues.filter (fun q => s.qOwner q == t)
  let mine (d : Desc) : Bool := s.qOwner d.q == t
  let jobs := match s.klc.job with
    | some j => (match j.owner with | some o => s.qOwner o.1 == t | none => false)
    | none => false
  let s := { s with que := { s.que with descs := s.que.descs.filter (fun d => !mine d) } }
  let s := (s.discardTxns t 0).discardTxns t 1
  let s := if jobs then
      { s with klc := { s.klc with job := s.klc.job.map (fun j => { j with abort := true, drop := true }) } } else s
  let s := (l.foldl State.queueReset s).showQueues
  let s := s.set R.QUE.INFLIGHT.COUNT (s.que.descs.filter (fun d => d.result.isNone)).length
  (s.mbxReset t [1]).ev B.ten Ev.TEN.FLR

/-- A Function Level Reset of function `t`: one of PF0 clears VF Enable and resets every VF. -/
def State.flr (s : State) (t : Nat) : State :=
  if t = 0 then ({ s with que := { s.que with vfs := [] } }).forN 16 State.tenantReset
  else s.tenantReset t

/-! ### Self-tests (R464 to R468) -/

/-- Dark standby (R464). -/
def State.standby (s : State) : Bool :=
  let asleep (c : Nat) : Bool := s.chState c == Ch.selfRefresh || s.chState c == Ch.offline
  let awake := (List.range 4).filter (fun c => !asleep c)
  (!s.isTile || s.railsOff) && [0, 1].all (fun p => s.stage p == Stage.disabled) &&
  (s.isTile || (List.range 4).all (fun p => !s.on (R.ETH.PORT_CTRL.EN p))) &&
  (awake == [] || (awake.length == 1 && awake.all (fun c => s.chState c == Ch.ready)))

/-- Video is active on port `p` (R468): a VIDEO flit within the last 100 ms. -/
def State.videoActive (s : State) (p : Nat) : Bool :=
  let seen (q : Nat) : Bool := match s.que.video.getD q none with | some a => s.frc < a + 150000000 | none => false
  if s.isTile then seen 0 || seen 1 else seen p

/-- The page that a test on row `k` of Table 3-5 runs in, and whether its block is a frame-path block (R466). -/
def rowPage (k : Nat) : Nat := match pageRows[k]? with | some r => r.2.1 | none => 0
def framePath (r : Role) (k : Nat) : Bool :=
  match pageRows[k]? with
  | none => false
  | some (b, _) =>
    match r with
    | .sender => ([.ing, .ingFlow, .map, .cmp, .cmpLayer, .cmpSpire, .col, .otg, .klc] : List PageKind).contains b
    | .tile => ([.klc, .cor, .scn, .lfm] : List PageKind).contains b

/-- The condition of Table 15-8. -/
def State.testOk (s : State) (id k : Nat) : Bool :=
  if id = 1 || id = 2 || id = 3 then true
  else if id = 4 then
    s.standby && (s.chState k == Ch.ready || (s.isTile && k < 2 && s.chState k == Ch.selfRefresh)) && !s.chFrozen k &&
      (List.range 4).all (fun o => o == k || s.chState o == Ch.selfRefresh || s.chState o == Ch.offline)
  else if id = 5 then !s.videoActive k
  else if id = 6 then s.isTile && s.get (R.RCH.CH_STAT.STATE k) == 0
  else false

/-- The largest target of a test. -/
def testMax (id : Nat) : Nat := if id = 1 || id = 2 then 32 else if id = 4 then 3 else if id = 5 then 1 else if id = 6 then 23 else 0

/-- Block `k` has a unit of its work under way in page `i` (Table 3-3, log entry 131). -/
def State.workIn (s : State) (k : PageKind) (i : Nat) : Bool :=
  match k with
  | .map => s.otg.frame.isSome || s.on R.MAP.CARD_STAT.CHECK_BUSY
  | .klc => s.klc.job.isSome
  | .cor => s.cor.pass.isSome || s.cor.uploads != []
  | .scn => s.scn.load.isSome || s.on R.SCN.TT_STAT.CHECK_BUSY || s.scn.bands.any (fun b => b.loadAt.isSome)
  | .mem => s.chState i == Ch.train || s.chState i == Ch.fill || s.mem.retraining.contains i || s.get (R.MEM.BIST_STAT.RESULT i) == 1
  | .que => s.get R.QUE.INFLIGHT.COUNT != 0
  | .cal => s.on R.CAL.CAL_STAT.BUSY
  | k => ([.cmp, .cmpLayer, .col, .otg] : List PageKind).contains k && s.otg.frame.isSome

/-- A march or parity test runs on the block of the page at `b`. -/
def State.testedAt (s : State) (b : Nat) : Bool :=
  match s.que.test with
  | some (id, k, _) => (id == 1 || id == 2) && s.get R.QUE.TEST_STAT.STATE == 1 && rowPage k == b
  | none => false

/-- A test on a frame-path block waits while a unit of the block's work is under way (R466). -/
def State.testWaits (s : State) (id k : Nat) : Bool :=
  (id == 1 || id == 2) && framePath s.role k &&
    (match pageRows[k]? with | some r => s.workIn r.1 0 | none => false)

/-- A test that begins or begins again. -/
def State.testRun (s : State) (id k : Nat) : State :=
  let s := (s.set R.QUE.TEST_STAT.STATE 1).set R.QUE.TEST_STAT.RESULT 0
  let s := s.count R.QUE.TEST_STAT.TRIES
  if id = 3 then
    ({ s with hkt := { s.hkt with testing := true } }.forN 64 (fun s c => s.set (R.HCH.CH_VAL.STALE c) 1)).set R.HKT.HKT_STAT.STALE 1
  else if id = 4 then s.bistGo k
  else if id = 5 then s.portDown k
  else s

/-- A test ends with a result. -/
def State.testEnd (s : State) (result detail : Nat) : State :=
  let s := ((s.set R.QUE.TEST_STAT.STATE 0).set R.QUE.TEST_STAT.RESULT result).set R.QUE.TEST_DETAIL.DETAIL detail
  ({ s with que := { s.que with test := none } }).ev B.que Ev.QUE.TEST_DONE

/-- TEST_CTRL is written with GO = 1; while a test runs or waits the write starts nothing. -/
def State.testGo (s : State) : State :=
  if s.que.test.isSome then s
  else
    let id := s.get R.QUE.TEST_CTRL.ID
    let k := min (s.get R.QUE.TEST_CTRL.TARGET) (testMax id)
    let s := s.set R.QUE.TEST_STAT.TRIES 0
    if s.testOk id k && s.testWaits id k then
      (({ s with que := { s.que with test := some (id, k, 0) } }).set R.QUE.TEST_STAT.STATE 2).set R.QUE.TEST_STAT.RESULT 0
    else if s.testOk id k then ({ s with que := { s.que with test := some (id, k, 1) } }).testRun id k
    else (s.err B.que 0x14 0 0).testEnd 4 0

/-- What a test leaves behind when it stops. -/
def State.testStop (s : State) (id k : Nat) : State :=
  if id = 3 then { s with hkt := { s.hkt with testing := false } }
  else if id = 5 then s.portThaw k
  else s

/-- A test ends, or is preempted (`result` 3) on a frame-path block and waits for its next idle interval. -/
def State.testDone (s : State) (result detail : Nat) : State :=
  match s.que.test with
  | none => s
  | some (id, k, n) =>
    if s.get R.QUE.TEST_STAT.STATE != 1 then s
    else
      let s := s.testStop id k
      if result = 3 && (id = 1 || id = 2) && framePath s.role k && n ≤ s.get R.QUE.TEST_CTRL.RETRIES then
        (s.set R.QUE.TEST_STAT.STATE 2).set R.QUE.TEST_STAT.RESULT 3
      else s.testEnd result detail

/-- A preempted test runs again. -/
def State.testResume (s : State) : State :=
  match s.que.test with
  | none => s
  | some (id, k, n) =>
    if s.get R.QUE.TEST_STAT.STATE != 2 || s.testWaits id k then s
    else ({ s with que := { s.que with test := some (id, k, n + 1) } }).testRun id k

/-! ### Commands -/

/-- QUEUE_DISABLE (R450). -/
def execQueueDisable (q t : Nat) (s : State) : Host.Outcome State Fault Refusal :=
  runIn .sender (fun s => (s.tick t).queueDisable (q % 8192)) s

/-- RULE_COMMIT (R453). -/
def execRuleCommit (t : Nat) (s : State) : Host.Outcome State Fault Refusal := runIn .sender (fun s => (s.tick t).ruleCommit) s

/-- RULE_DONE (R453). -/
def execRuleDone (t : Nat) (s : State) : Host.Outcome State Fault Refusal := runIn .sender (fun s => (s.tick t).ruleDone) s

/-- FLR (R455). -/
def execFlr (f t : Nat) (s : State) : Host.Outcome State Fault Refusal := runIn .sender (fun s => (s.tick t).flr (f % 16)) s

/-- PERST_N (R578): tenant 0 and every VF are reset. -/
def execPerstN (t : Nat) (s : State) : Host.Outcome State Fault Refusal := runIn .sender (fun s => (s.tick t).flr 0) s

/-- SEND (R458). -/
def execSendMessage (c k t : Nat) (s : State) : Host.Outcome State Fault Refusal :=
  run (fun s => (s.tick t).mbxSendRelay (c % 24) (k % 2)) s

/-- TEST_GO (R465). -/
def execTestGo (id target retries t : Nat) (s : State) : Host.Outcome State Fault Refusal :=
  run (fun s =>
    let s := (s.tick t).set R.QUE.TEST_CTRL.ID id
    ((s.set R.QUE.TEST_CTRL.TARGET target).set R.QUE.TEST_CTRL.RETRIES retries).testGo) s

/-- TEST_DONE (R465). -/
def execTestDone (result detail t : Nat) (s : State) : Host.Outcome State Fault Refusal :=
  run (fun s => (s.tick t).testDone result detail) s

/-- TEST_RESUME (R466). -/
def execTestResume (t : Nat) (s : State) : Host.Outcome State Fault Refusal := run (fun s => (s.tick t).testResume) s

end Sys2Proof.Machine
end

