-- ==== Sys2Proof/Machine/Page.lean ====
section
/-!
DEFINITION. The commands of the common page header (R70 to R83): enable and disable with what each chapter gives them, the
soft reset of every block, events and errors, commits, freezes; and the writes of the mode words.
-/
namespace Sys2Proof.Machine

/-- The page at base `b` exists and its block is active: a command to its header has an effect (R10, R67). -/
def State.header (s : State) (b : Nat) (f : State → State) : State := if s.live b && b % 0x1000 == 0 then f s else s

/-! ### Events and errors (R82, R83) -/

/-- The page signals again after a write that leaves (PEND AND EN) non-zero. -/
def State.resignal (s : State) (b : Nat) : State := 
  (eventSides b).foldl (fun u g => if s.pendEn b &&& g != 0 then State.signalSide u b g else u) s

/-- A write of ones to EVT_PEND. -/
def State.evtClear (s : State) (b m : Nat) : State :=
  let p := s.get (R.PG.EVT_PEND b)
  (s.set (R.PG.EVT_PEND b) (p - (p &&& m))).resignal b

/-- The event bits that exist in the page at `b`: MIRROR_LOST and MIRROR_BACK only in the channel 0 page of a tile (R437). -/
def State.evOpen (s : State) (b : Nat) : Nat :=
  if (List.range 4).any (fun c => b == B.mem c && !(s.isTile && c == 0)) then evMask b - (evMask b &&& 0x30000) else evMask b

/-- A write of ones to EVT_SET; reserved bits are ignored (R6). -/
def State.evtSet (s : State) (b m : Nat) : State := s.pendBits b (m &&& s.evOpen b)

/-- A write to EVT_EN; reserved bits are ignored (R6). -/
def State.evtEn (s : State) (b v : Nat) : State := (s.set (R.PG.EVT_EN b) (v &&& s.evOpen b)).resignal b

/-! ### Enable (R70) -/

/-- PG_CTRL.EN is written 1. -/
def State.pageEnable (s : State) (b : Nat) : State :=
  let s := s.set (R.PG.EN b) 1
  match pageAt b with
  | some (.lnk, p) => s.portEnable p
  | some (.mem, c) => s.memEnable c
  | some (.rai, _) => s.forN 24 State.railEval
  | some (.dep, _) =>
    if s.dep.loaded || s.dep.loadWait then s
    else ({ s with dep := { s.dep with loadWait := true } }).set (R.PG.BUSY b) 1
  | _ => s

/-- PG_CTRL.EN is written 0. -/
def State.pageDisable (s : State) (b : Nat) : State :=
  let s := s.set (R.PG.EN b) 0
  match pageAt b with
  | some (.lnk, p) => s.portDisable p
  | some (.rai, _) => s.forN 24 State.railEval
  | some (.scn, _) =>
    let s := s.dropLoads
    { s with scn := { s.scn with blank := true, ready := false } }
  | _ => s

/-- A tile in safe mode keeps EN of RAI, SCN, COR and LFM at 0 (R556). -/
def State.mayEnable (s : State) (b : Nat) : Bool :=
  !(s.role == .tile && s.on R.FWU.FWU_STAT.SAFE && [B.rai, B.scn, B.cor, B.lfm].contains b)

/-- EN as a bit of a write. -/
def State.writeEn (s : State) (b v : Nat) : State :=
  if v % 2 = 1 then (if s.mayEnable b then s.pageEnable b else s)
  else if s.enabled b then s.pageDisable b else s

/-! ### Commits (R77, R78, R167, R192, R347) -/

/-- COMMIT is written 1: it stalls while a copy runs. -/
def State.commitArm (s : State) (b : Nat) : State :=
  if b = B.map && s.on R.MAP.CARD_STAT.SYNCING then { s with map := { s.map with stalledCommit := true } }
  else if b = B.spire && s.on R.SPI.SP_STAT.SYNCING then { s with cmp := { s.cmp with spStalledCommit := true } }
  else if b = B.scn && s.on R.SCN.TT_STAT.SYNCING then { s with scn := { s.scn with stalledCommit := true } }
  else
    let s := (s.armCommit b).mirrorArm b true
    if b = B.map then s.evaluate else s

/-- The copy of R167 ends, or that of a MAP soft reset (R171): the stalled writes and the stalled COMMIT proceed. -/
def State.cardsSynced (s : State) : State :=
  if s.on R.MAP.CARD_STAT.SYNCING then
    let w := s.map.stalled
    let arm := s.map.stalledCommit
    let s := { s with map := { s.map with stage := s.map.force, stalled := [], stalledCommit := false } }
    let s := ((s.set R.MAP.CARD_STAT.SYNCING 0).set (R.PG.BUSY B.map) 0).ev B.map Ev.MAP.SYNC_DONE
    let s := w.foldl (fun s e => s.cardStore e.1 e.2.1 e.2.2) s
    if arm then ((s.armCommit B.map).mirrorArm B.map true).evaluate else s
  else s

/-- The copy of R192 ends, or that of a soft reset of the Spire page (R206). -/
def State.spireSynced (s : State) : State :=
  if s.on R.SPI.SP_STAT.SYNCING then
    let w := s.cmp.spStalled
    let arm := s.cmp.spStalledCommit
    let s := { s with cmp := { s.cmp with spStage := s.cmp.spForce, spStalled := [], spStalledCommit := false } }
    let s := ((s.set R.SPI.SP_STAT.SYNCING 0).set (R.PG.BUSY B.spire) 0).ev B.spire Ev.SPI.SYNC_DONE
    let s := w.foldl (fun s e => s.spireStore e.1 e.2.1 e.2.2) s
    if arm then (s.armCommit B.spire).mirrorArm B.spire true else s
  else s

/-- COMMIT is written 0. -/
def State.commitDisarm (s : State) (b : Nat) : State :=
  if s.on (R.PG.COMMIT_PENDING b) then (s.commitEnd b).mirrorArm b false else s

/-! ### Freezes (R72) -/

/-- PG_STAT.FROZEN. -/
def State.showFrozen (s : State) (b : Nat) : State := s.set (R.PG.FROZEN b) (bit (s.frozen b))

/-- COR ends its pass: the partial planes stay out of the frame (R323, R340, R341). -/
def State.stopPass (s : State) : State :=
  { s with cor := { s.cor with pass := none, rows := [], doneViews := [], maxima := [] } }

/-- FREEZE is written. A freeze of the picture path makes shares DARK (R206), one of
COR ends the pass (R340). A LFM that comes out of a freeze applies the records it
holds. -/
def State.writeFreeze (s : State) (b v : Nat) : State :=
  let s := (s.set (R.PG.FREEZE b) v).showFrozen b
  let s := if v % 2 = 1 then s.stopPicture b else s
  let s := if b = B.cor && s.frozen b then s.stopPass else s
  if b = B.lfm && !s.frozen b then
    let l := s.lfm.held
    ({ s with lfm := { s.lfm with held := [] } }).applyRecords l
  else
    match pageAt b with
    | some (.lnk, p) => if s.frozen b then s else s.portThaw p
    | _ => s

/-- A block freezes itself after an error in its own command path (Table 3-4E, R257, R427). -/
def State.hwFreeze (s : State) (b : Nat) : State :=
  let s := (((s.set (R.PG.HW_FREEZE b) 1).showFrozen b).err b 0x05 0 0).stopPicture b
  let s := if b = B.cor then s.stopPass else s
  match pageAt b with
  | some (.lnk, p) => s.linkDown p
  | some (.mem, c) => (if c < 2 then s.mirrorLost else s).memCheck
  | _ => s

/-! ### Soft reset (R71) -/

/-- The header registers that SRST returns to reset, and the armed commit. -/
def State.headerReset (s : State) (b : Nat) : State :=
  let s := (s.set (R.PG.EVT_PEND b) 0).errClear b
  let s := ((s.set (R.PG.FREEZE b) 0).set (R.PG.HW_FREEZE b) 0).set (R.PG.FROZEN b) 0
  s.commitEnd b

/-- The block registers return to reset, but for those of a list. -/
def State.regsReset (s : State) (b : Nat) (keep : List Fld) : State := s.clearPage b (fun k => keep.any (fun f => f.key == k))

/-- TIM (R121). -/
def State.timReset (s : State) : State :=
  let keep := [R.TIM.TIM_STAT.TIME_VALID, R.TIM.TIM_STAT.WALL_DOM, R.TIM.TIM_STAT.SLEWING, R.TIM.TIM_STAT.ON_INTOSC, R.TIM.FRC_HI.V,
    R.TIM.WALL_LO.V, R.TIM.WALL_HI.V, R.TIM.WALL_FRAC.V, R.TIM.RATE_CUR.RATE, R.TIM.SCHED_N0_LO.N0, R.TIM.SCHED_N0_HI.N0,
    R.TIM.SCHED_T0_LO.T0, R.TIM.SCHED_T0_HI.T0, R.TIM.LD.V 0, R.TIM.LD.V 1, R.TIM.DOM_RATE.RATE 0, R.TIM.DOM_RATE.RATE 1]
  let s := (s.regsReset B.tim keep).roleDefaults B.tim
  let s := { s with tim := { s.tim with resetHold := true } }
  let s := (s.set R.TIM.RATE_NEXT.RATE (s.get R.TIM.RATE_CUR.RATE)).frameSrc (s.get R.TIM.TIM_CTRL.FRAME_SRC)
  let s := s.forN 2 (fun s d => (s.putDomState d DomS.disabled).domEnable d true)
  s.showWall.evaluate

/-- DEP (R121). -/
def State.depReset (s : State) : State :=
  let m := s.modeCur
  let was := s.schedWords
  let cur := [R.DEP.MODE_CUR.ROLE, R.DEP.MODE_CUR.TIMING, R.DEP.MODE_CUR.VIEWS, R.DEP.MODE_CUR.CODING_A, R.DEP.MODE_CUR.CODING_B,
    R.DEP.MODE_CUR.REDUN, R.DEP.MODE_CUR.SINK, R.DEP.MODE_CUR.EMIT, R.DEP.MODE_CUR.SCAN, R.DEP.MODE_CHECK.LOCKED,
    R.DEP.MODE_CTRL.LAST_CAUSE, R.DEP.MODE_CTRL.FB_ACTIVE, R.DEP.FRAME_LO.FRAME, R.DEP.FRAME_HI.FRAME] ++
    (List.range 3).map R.DEP.VPHASE_CUR.VPHASE
  let keep := if s.role == .tile then cur ++ [R.DEP.MODE_CTRL.DARK_FRAMES] ++ (List.range 3).map R.DEP.VPHASE.V else cur
  let s := ((s.regsReset B.dep keep).roleDefaults B.dep).putModeNext m
  let s := if s.role == .tile then s
    else s.forN 3 (fun s i => s.set (R.DEP.VPHASE.V i) (s.get (R.DEP.VPHASE_CUR.VPHASE i)))
  ({ s with dep := { s.dep with board := [] } }).showBoard.evaluate.sendChanged was

/-- MAP (R171): the staging bank and the staged canvas are copied from those in force. -/
def State.mapReset (s : State) : State :=
  let c := s.canvasForce
  let keep := [R.MAP.CANVAS_SIZE.CW, R.MAP.CANVAS_SIZE.CH, R.MAP.CANVAS_ORG_X.X, R.MAP.CANVAS_ORG_Y.Y, R.MAP.CARDS_ACTIVE.COUNT,
    R.MAP.PIX_A.PIX, R.MAP.PIX_B.PIX, R.MAP.MIRROR_N.N_A, R.MAP.MIRROR_N.N_B]
  let s := ((s.regsReset B.map keep).set R.MAP.CANVAS_SIZE.CW c.cw).set R.MAP.CANVAS_SIZE.CH c.ch
  let s := ((s.set R.MAP.CANVAS_ORG_X.X c.ox).set R.MAP.CANVAS_ORG_Y.Y c.oy).set R.MAP.CARD_STAT.SYNCING 1
  let s := (s.set (R.PG.BUSY B.map) 1).bankMarks 0x600000 0x200000 0x400000
  ({ s with map := { s.map with stage := s.map.force } }).evaluate

/-- The Spire page (R206). -/
def State.spireReset (s : State) : State :=
  let s := (s.regsReset B.spire [R.SPI.SP_ACTIVE.PANELS, R.SPI.SP_STAT.BAD]).set R.SPI.SP_STAT.SYNCING 1
  let s := (s.set (R.PG.BUSY B.spire) 1).bankMarks spireMarks 0x100000 0x800000
  { s with cmp := { s.cmp with spStage := s.cmp.spForce } }

/-- A layer page (R206): its two layers are disabled, and their fade positions are 0. -/
def State.layerReset (s : State) (i : Nat) : State :=
  let s := s.regsReset (B.layer (2 * i)) []
  ((s.set (R.LAY.L_FADE_POS.POS (2 * i)) 0).set (R.LAY.L_FADE_POS.POS (2 * i + 1)) 0).showFading

/-- ETH: every port is disabled. The MAC addresses are fuse values. -/
def State.ethReset (s : State) : State :=
  ((s.forN 4 State.ethDown).regsReset B.eth []).loadMacs

/-- KLC (R292, R304). -/
def State.klcSoft (s : State) : State :=
  let s := s.klcReset.regsReset B.klc [R.KLC.LINE_BOUND.CODES, R.KLC.BOUND_CNT.A, R.KLC.BOUND_CNT.B, R.KLC.BLOCK_CNT_A.COUNT,
    R.KLC.BLOCK_CNT_B.COUNT]
  match s.klc.job with
  | some j => s.showJob j
  | none => s

/-- LNK (R259). -/
def State.lnkReset (s : State) (p : Nat) : State :=
  let s := (s.portDown p).regsReset (B.lnk p) []
  let s := s.setPort p { s.port p with relock := false, peer := none, maxWidth := 0, mask := 15 }
  if s.enabled (B.lnk p) then (if s.lnkMoves p then s.toDetect p else s.setStage p Stage.down)
  else s.forN 4 (fun s k => s.setLaneState (physLane p k) LaneS.off)

/-- LNL (R259). -/
def State.lnlReset (s : State) (l : Nat) : State :=
  let s := s.regsReset (B.lnl l) [R.LNL.LANE_STAT.STATE l, R.LNL.LANE_STAT.LOGICAL l]
  let s := s.setLane l { s.lane l with lastPre := (0, 0), ser := (0, 0), unc := [] }
  if l < 8 then s else if s.laneState l = LaneS.failed then s.laneRetry l else s.laneFault l

/-- LNE (R588). -/
def State.lneReset (s : State) (p : Nat) : State :=
  let keep := [R.LNE.LINE_ID.ID p, R.LNE.TEL_BASE_LO.BASE p, R.LNE.TEL_BASE_HI.BASE p, R.LNE.LNE_STAT.N p, R.LNE.TILE_STOP.STOP_U p,
    R.LNE.TILE_STOP.STOP_D p, R.LNE.HOLD_STAT.STATE p, R.LNE.HOLD_STAT.HELD p, R.LNE.FADE_POS.F p]
  let s := match s.role with
    | .sender =>
      let any := (s.lineTx p).txns != []
      let s := (s.lineTx p).txns.foldl (fun (s : State) (t : Txn) =>
        let x := s.lineTx p
        (s.setLineTx p { x with held := x.held ++ [(t.req.didx, t.req.stop)] }).txnDone p t 4 []) s
      (s.enumAbandon p).evIf any (B.lne p) Ev.LNE.TXN_TIMEOUT
    | .tile =>
      let x := s.stream p
      let s := match x.hdr with
        | some h => if x.open_ && !x.skip && s.shows p then s.markBad h.view else s
        | none => s
      (s.setStream p { s.stream p with hunt := true }).evIf (s.shows p && !x.hunt) (B.lne p) Ev.LNE.HUNT
  ((s.regsReset (B.lne p) keep).showTmo p).showSilent p

/-- COR (R341). -/
def State.corReset (s : State) : State :=
  let s := s.stopPass
  let s := { s with cor := { s.cor with subst := [] } }
  let ups := s.cor.uploads
  let s := ups.foldl (fun s u => s.postUpload { u with status := 6 }) { s with cor := { s.cor with uploads := [] } }
  let geom := if s.on R.DEP.MODE_CHECK.LOCKED then [R.COR.GEOM.TW, R.COR.GEOM.TH] else []
  let keep := geom ++ [R.COR.BANK_STAT.CUR, R.COR.BANK0_BASE_LO.BASE, R.COR.BANK0_BASE_HI.BASE,
    R.COR.BANK1_BASE_LO.BASE, R.COR.BANK1_BASE_HI.BASE]
  (s.bankSyncStop.regsReset B.cor keep).showUploads

/-- SCN (R371): derived registers, the cap and the front set stay. -/
def State.scnReset (s : State) : State :=
  let keep := [R.SCN.SCN_STAT.VIEW, R.SCN.SCN_STAT.GAP, R.SCN.SCN_STAT.FRONT, R.SCN.SCN_STAT.SEG, R.SCN.SCN_STAT.ROW,
    R.SCN.PLANE_BASE_LO.BASE, R.SCN.PLANE_BASE_HI.BASE, R.SCN.PLANE_SIZE.BYTES, R.SCN.T_ROW.CYC, R.SCN.T_RC.CYC, R.SCN.T_GAP.CYC,
    R.SCN.REFRESH.HZ, R.SCN.T_LOAD.NS, R.SCN.T_BL.NS, R.SCN.BUS_LOAD.GBPS, R.SCN.SPREAD.A, R.SCN.CAP.POS, R.SCN.CAP_K.K]
  let s := (s.ttAbandon.regsReset B.scn keep).dropLoads
  { s with scn := { s.scn with blank := true, ready := false, targetFree := true, resync := s.modeCur.sink == 1 } }

/-- RAI (R403): the fields that tell of the outputs stay; MODE is OFF, so running channels discharge. -/
def State.raiReset (s : State) : State :=
  let chan (c : Nat) : List Fld := [R.RCH.CH_STAT.STATE c, R.RCH.CH_STAT.FCAUSE c, R.RCH.CH_STAT.DISCHARGED c, R.RCH.CH_STAT.SET_NOW c,
    R.RCH.CH_MEAS.V c, R.RCH.CH_MEAS.I c]
  let keep := [R.RAI.RAI_STAT.FAULT, R.RAI.RAI_READY.READY] ++ (List.range 24).flatMap chan
  let s := s.regsReset B.rai keep
  (({ s with rai := { s.rai with fixed := [], rejected := [], nextRejected := [] } }).forN 24 State.railEval).evalZones

/-- LFM (R403): the fault map stays. -/
def State.lfmReset (s : State) : State :=
  let s := ((s.regsReset B.lfm []).set R.LFM.LFM_STAT.SUSPENDED (bit s.inDark)).showFaults
  ({ s with lfm := { s.lfm with held := [] } }).evalZones

/-- MEM (R414, R417, R427): held requests are completed with the responses of code 0x13, and a frozen channel retrains. -/
def State.memReset (s : State) (c : Nat) (wasFrozen : Bool) : State :=
  let keep := [R.MEM.CH_CTRL.SR c, R.MEM.CH_STAT.STATE c, R.MEM.CH_STAT.FILLED c, R.MEM.CH_STAT.MIRROR_OK c, R.MEM.CH_STAT.MARGIN c,
    R.MEM.TEMP.T c, R.MEM.BIST_STAT.RESULT c]
  let s := (s.regsReset (B.mem c) keep).roleDefaults (B.mem c)
  let held := s.mem.held.filter (fun h => h.1 == c)
  let s := { s with mem := { s.mem with held := s.mem.held.filter (fun h => h.1 != c) } }
  let s := held.foldl (fun s h => s.dramErr c 0x13 h.2.1 h.2.2.1 0) s
  if wasFrozen && [Ch.train, Ch.fill, Ch.ready, Ch.degraded].contains (s.chState c) then
    let s := s.setCh c Ch.train
    let s := if s.isTile && c < 2 then { s with mem := { s.mem with resilver := c :: s.mem.resilver.filter (· != c) } } else s
    s.memCheck
  else s.memCheck

/-- HKT (R510, R519): shutdown goes on. -/
def State.hktReset (s : State) : State :=
  let v := if s.thr = 2 then 3 else 0
  let s := (if s.thr = 2 then s.releaseSender else s).setThr v
  let h := s.hkt
  let s := (s.regsReset B.hkt []).set R.HKT.HKT_STAT.THR_STATE v
  { s with hkt := { divNext := h.divNext, fbNext := h.fbNext, testing := h.testing, shutdown := h.shutdown
                    shutRails := h.shutRails, shutAt := h.shutAt, shutRun := h.shutRun, trims := h.trims, osc := h.osc, refc := h.refc } }

/-- CAL (R524). -/
def State.calReset (s : State) : State :=
  s.regsReset B.cal ([R.CAL.CAL_STAT.FUSE_OK, R.CAL.FUSE_CRC.STORED, R.CAL.FUSE_CRC.COMPUTED] ++
    (List.range 68).map R.CAL.TRIM_FACT.CODE)

/-- FWU: what boot, flash and fuses gave stays; an open session ends. -/
def State.fwuReset (s : State) : State :=
  let s := (s.endSession true).set R.FWU.FWU_CFG.CONFIRM_S R.FWU.FWU_CFG.CONFIRM_S.rst
  (s.set R.FWU.FWU_STAT.SET_SLOT 0).set R.FWU.FWU_STAT.SET_DEFAULT 0

/-- PWR: the measurements of the start stay, and the auxiliary outputs are on. -/
def State.pwrReset (s : State) : State :=
  s.regsReset B.pwr [R.PWR.PWR_STAT.PG, R.PWR.IN_MEAS.VBUS, R.PWR.IN_MEAS.IIN, R.PWR.RAIL_TIME.US]

/-- RCK: the causes and the state of the clocks stay. -/
def State.rckReset (s : State) : State :=
  ((s.set R.RCK.CLK_CTRL.RET_AUTO R.RCK.CLK_CTRL.RET_AUTO.rst).set R.RCK.CLK_CTRL.RET_MS R.RCK.CLK_CTRL.RET_MS.rst).setCause s.fwu.cause

/-- SVP: the link stays as it is. -/
def State.svpReset (s : State) : State := s.regsReset B.svp [R.SVP.SVP_STAT.LINK_UP, R.SVP.SVP_STAT.AN_DONE]

/-- PAR: the patrol begins anew. -/
def State.parReset (s : State) : State :=
  let s := s.regsReset B.par []
  { s with mem := { s.mem with patBank := 0, patRegion := 0, patBad := [] } }

/-- How many requests of one side a tile's acceptor holds; a repeat that waits with a cached completion is none. -/
def State.heldOf (s : State) (k : Nat) : Nat := (s.line.held.filter (fun h => h.side == k && h.done.isNone)).length

/-- The requests that a tile's acceptor holds, by side, and the sources of the duplicate windows (Table 15-6). -/
def State.showHeld (s : State) : State :=
  ((s.set R.QUE.ACC_HELD.U (s.heldOf 0)).set R.QUE.ACC_HELD.D (s.heldOf 1)).set R.QUE.DUP_SRCS.COUNT s.line.wins.length

/-- QUE (R450): EN = 0 on every queue, and a self-test ends without a result. -/
def State.queReset (s : State) : State :=
  let s := s.usedQueues.foldl State.queueDisable s
  let s := match s.que.test with
    | some (id, k, _) => ({ s with que := { s.que with test := none } }).testStop id k
    | none => s
  let s := (s.regsReset B.que []).showQueues.showHeld
  s.set R.QUE.INFLIGHT.COUNT (s.que.descs.filter (fun d => d.result.isNone)).length

/-- RDN: a sender of a DUAL_ENDED line enters Table 16-1 anew. -/
def State.rdnReset (s : State) : State :=
  let s := { s.regsReset B.rdn [] with rdn := { reliefLive := s.rdn.reliefLive } }
  if s.dual then s.redunChanged true else s

/-- CLU: the unit forgets records and commands. -/
def State.cluReset (s : State) : State :=
  let s := s.regsReset B.clu [R.CLU.EPOCH_CUR.EPOCH]
  let clear (x : LineTx) : LineTx := { x with stops := x.stops.map (fun e => { e with out := false, calm := 0, differs := 0 }) }
  let s := { s with line := { s.line with tx0 := clear s.line.tx0, tx1 := clear s.line.tx1 } }
  { s with clu := {} }

/-- The block's own part of a soft reset. -/
def State.blockReset (s : State) (b : Nat) (wasFrozen : Bool) : State :=
  match pageAt b with
  | none => s
  | some (k, i) =>
    match k with
    | .idn => s
    | .rck => s.rckReset
    | .pwr => s.pwrReset
    | .hkt => s.hktReset
    | .cal => s.calReset
    | .tim => s.timReset
    | .dep => s.depReset
    | .mbx => (s.regsReset b []).mbxReset i [0, 1]
    | .fwu => s.fwuReset
    | .svp => s.svpReset
    | .eth => s.ethReset
    | .ing => ((s.ingReset.regsReset b []).showLoad.showFree).followEval
    | .ingFlow => (((s.flowPageReset i).regsReset b []).showLoad.showFree).followEval
    | .otg => s.regsReset b []
    | .map => s.mapReset
    | .cmp => s.regsReset b [R.CMP.CMP_STAT.ENG_DIV]
    | .cmpLayer => s.layerReset i
    | .cmpSpire => s.spireReset
    | .col => s.regsReset b []
    | .klc => s.klcSoft
    | .lnk => s.lnkReset i
    | .lnl => s.lnlReset i
    | .lne => s.lneReset i
    | .cor => s.corReset
    | .scn => s.scnReset
    | .rai => s.raiReset
    | .lfm => s.lfmReset
    | .mem => s.memReset i wasFrozen
    | .par => s.parReset
    | .que => s.queReset
    | .ten => (s.regsReset b []).showOld
    | .rdn => s.rdnReset
    | .clu => s.cluReset
    | .queCtx => s

/-- SRST of the page at `b`: the events that the reset itself causes stay pending. -/
def State.softReset (s : State) (b : Nat) : State :=
  let was := s.on (R.PG.HW_FREEZE b)
  (((s.headerReset b).blockReset b was).stopPicture b).mirrorReset s b

/-! ### Mode words (R37, R61) -/

/-- The value that a staged field of a word takes, kept as it is where R7 does not allow it. -/
def keepLegal (old v max : Nat) : Nat := if v ≤ max then v else old

/-- DEP.MODE_NEXT is written (Table 2-1): SINK and EMIT until they are locked; a sender writes neither them nor SCAN, a tile
no coding. -/
def State.modeNextWrite (s : State) (v : Nat) : State :=
  let m := s.modeNext
  let was := s.schedWords
  let tile := s.role == .tile
  let free := tile && !s.on R.DEP.MODE_CHECK.LOCKED
  let s := s.putModeNext {
    timing := bitsOf v 4 1, views := bitsOf v 8 2, codA := if tile then m.codA else keepLegal m.codA (bitsOf v 12 2) 2
    codB := if tile then m.codB else keepLegal m.codB (bitsOf v 14 2) 2, redun := bitsOf v 16 1
    sink := if free then bitsOf v 20 1 else m.sink, emit := if free then bitsOf v 21 1 else m.emit
    scan := if tile then bitsOf v 24 6 else m.scan }
  s.evaluate.sendChanged was

/-- DEP.MODE_FALLBACK is written. -/
def State.modeFallbackWrite (s : State) (v : Nat) : State :=
  if s.role == .tile then s
  else
    let m := s.modeFb
    let s := (s.set R.DEP.MODE_FALLBACK.TIMING (bitsOf v 4 1)).set R.DEP.MODE_FALLBACK.VIEWS (bitsOf v 8 2)
    let s := s.set R.DEP.MODE_FALLBACK.CODING_A (keepLegal m.codA (bitsOf v 12 2) 2)
    let s := s.set R.DEP.MODE_FALLBACK.CODING_B (keepLegal m.codB (bitsOf v 14 2) 2)
    (s.set R.DEP.MODE_FALLBACK.REDUN (bitsOf v 16 1)).evaluate

/-! ### Commands -/

/-- EVT_PEND_CLEAR (R82): the word written to EVT_PEND of the page at `b`. -/
def execEvtPendClear (b v t : Nat) (s : State) : Host.Outcome State Fault Refusal := run (fun s => (s.tick t).header b (·.evtClear b v)) s

/-- EVT_SET (R82). -/
def execEvtSet (b v t : Nat) (s : State) : Host.Outcome State Fault Refusal := run (fun s => (s.tick t).header b (·.evtSet b v)) s

/-- EVT_EN_WRITE (R82). -/
def execEvtEnWrite (b v t : Nat) (s : State) : Host.Outcome State Fault Refusal := run (fun s => (s.tick t).header b (fun s => (s.evtEn b v).mirrorReg (b + 0x14))) s

/-- ERR_INFO_CLEAR (R83). -/
def execErrInfoClear (b t : Nat) (s : State) : Host.Outcome State Fault Refusal := run (fun s => (s.tick t).header b (·.errClear b)) s

/-- PAGE_ENABLE (R70). -/
def execPageEnable (b t : Nat) (s : State) : Host.Outcome State Fault Refusal := run (fun s => (s.tick t).header b (fun s => (s.writeEn b 1).mirrorReg (b + 8))) s

/-- PAGE_DISABLE (R70). -/
def execPageDisable (b t : Nat) (s : State) : Host.Outcome State Fault Refusal := run (fun s => (s.tick t).header b (fun s => (s.writeEn b 0).mirrorReg (b + 8))) s

/-- SOFT_RESET (R71). -/
def execSoftReset (b t : Nat) (s : State) : Host.Outcome State Fault Refusal := run (fun s => (s.tick t).header b (·.softReset b)) s

/-- COMMIT_ARM (R77). -/
def execCommitArm (b t : Nat) (s : State) : Host.Outcome State Fault Refusal := run (fun s => (s.tick t).header b (·.commitArm b)) s

/-- COMMIT_DISARM (R78). -/
def execCommitDisarm (b t : Nat) (s : State) : Host.Outcome State Fault Refusal := run (fun s => (s.tick t).header b (·.commitDisarm b)) s

/-- FREEZE (R72). -/
def execFreezePage (b t : Nat) (s : State) : Host.Outcome State Fault Refusal := run (fun s => (s.tick t).header b (fun s => (s.writeFreeze b 1).mirrorReg (b + 8))) s

/-- UNFREEZE (R72). -/
def execUnfreezePage (b t : Nat) (s : State) : Host.Outcome State Fault Refusal := run (fun s => (s.tick t).header b (fun s => (s.writeFreeze b 0).mirrorReg (b + 8))) s

/-- HW_FREEZE (R427, Table 3-4E). -/
def execHwFreeze (b t : Nat) (s : State) : Host.Outcome State Fault Refusal := run (fun s => (s.tick t).header b (·.hwFreeze b)) s

/-- MODE_NEXT_WRITE (R37). -/
def execModeNextWrite (v t : Nat) (s : State) : Host.Outcome State Fault Refusal := run (fun s => ((s.tick t).modeNextWrite v).mirrorReg (B.dep + 0x104)) s

/-- MODE_FALLBACK_WRITE (R61). -/
def execModeFallbackWrite (v t : Nat) (s : State) : Host.Outcome State Fault Refusal := run (fun s => ((s.tick t).modeFallbackWrite v).mirrorReg (B.dep + 0x110)) s

/-- CARD_SYNC_DONE (R167). -/
def execCardSyncDone (t : Nat) (s : State) : Host.Outcome State Fault Refusal := runIn .sender (fun s => (s.tick t).cardsSynced) s

/-- SPIRE_SYNC_DONE (R192). -/
def execSpireSyncDone (t : Nat) (s : State) : Host.Outcome State Fault Refusal := runIn .sender (fun s => (s.tick t).spireSynced) s

/-- TT_SYNC_DONE (R347). -/
def execTtSyncDone (t : Nat) (s : State) : Host.Outcome State Fault Refusal := runIn .tile (fun s => (s.tick t).ttSynced) s

end Sys2Proof.Machine
end

