-- ==== Sys2Proof/Machine/Raw.lean ====
section
/-!
DEFINITION. EVT_RAW (R82): for each event that tells of the beginning of a condition, whether that condition lasts. The bits of
events that are over at once read 0.
-/
namespace Sys2Proof.Machine

/-- A bit that shows a condition. -/
def rawBit (k : Nat) (c : Bool) : Nat := if c then 2 ^ k else 0

/-- TIM (Tables 4-3, 4-10, 4-18). -/
def State.rawTim (s : State) : Nat :=
  rawBit Ev.TIM.D0_LOCK (s.domState 0 == DomS.locked) + rawBit Ev.TIM.D1_LOCK (s.domState 1 == DomS.locked) +
    rawBit Ev.TIM.D0_HOLDOVER (s.domState 0 == DomS.holdover) + rawBit Ev.TIM.D1_HOLDOVER (s.domState 1 == DomS.holdover) +
    rawBit Ev.TIM.TICK_LOSS (s.get R.TIM.TIM_STAT.TICK_STATE == TickS.holdover) +
    rawBit Ev.TIM.LD_INVALID ((List.range 2).any (fun p => !s.ldValid p)) +
    rawBit Ev.TIM.REFCLK_LOST (s.on R.TIM.TIM_STAT.ON_INTOSC)

/-- ETH (Table 5-7). -/
def State.rawEth (s : State) : Nat :=
  ((List.range 4).map (fun p =>
    rawBit (Ev.ETH.LINK_UP + p) (s.on (R.ETH.PORT_STAT.LINK_UP p)) +
      rawBit (Ev.ETH.LINK_DOWN + p) (s.on (R.ETH.PORT_CTRL.EN p) && !s.on (R.ETH.PORT_STAT.LINK_UP p)))).sum

/-- The flow page `i` (Tables 5-3, 5-12). -/
def State.rawFlow (s : State) (i : Nat) : Nat :=
  ((List.range 4).map (fun j =>
    let st := s.flow (4 * i + j)
    rawBit (8 + 6 * j) (st == Flow.running || st == Flow.degraded) + rawBit (9 + 6 * j) (st == Flow.lost) +
      rawBit (10 + 6 * j) (st == Flow.degraded))).sum

/-- LNK of port `p` (Tables 8-3, 8-17). -/
def State.rawLnk (s : State) (p : Nat) : Nat :=
  let st := s.get (R.LNK.PORT_STAT.STAGE p)
  rawBit Ev.LNK.LINK_UP (st == Stage.active) + rawBit Ev.LNK.LINK_DOWN (st == Stage.down) + rawBit Ev.LNK.MISWIRED (st == Stage.held)

/-- LNL of lane `l` (Table 8-21). -/
def State.rawLnl (s : State) (l : Nat) : Nat :=
  rawBit Ev.LNL.LANE_UP (s.laneState l == LaneS.inService || s.laneState l == LaneS.spare) +
    rawBit Ev.LNL.LANE_FAILED (s.laneState l == LaneS.failed)

/-- LNE of port `p` (Table 9-12): BLACK counts from the first frame departure on. -/
def State.rawLne (s : State) (p : Nat) : Nat :=
  let st := s.get (R.LNE.HOLD_STAT.STATE 0)
  if s.role == .sender then
    rawBit Ev.LNE.OVERLONG (s.on (R.LNE.LNE_STAT.OVERLONG p)) + rawBit Ev.LNE.STOP_SKEW (s.get (R.LNE.TEL_STAT.SKEW p) != 0) +
      rawBit Ev.LNE.STOP_SILENT (s.get (R.LNE.TEL_STAT.SILENT p) != 0)
  else if p = 0 && s.dep.last.isSome then
    rawBit Ev.LNE.HOLD_START (st == 1) + rawBit Ev.LNE.FADE_START (st == 2) + rawBit Ev.LNE.BLACK_START (st == 3) +
      rawBit Ev.LNE.LIVE_AGAIN (st == 0)
  else 0

/-- MEM channel `c` (Table 14-9). -/
def State.rawMem (s : State) (c : Nat) : Nat :=
  rawBit Ev.MEM.DEGRADED (s.chState c == Ch.degraded) + rawBit Ev.MEM.OFFLINE (s.chState c == Ch.offline) +
    rawBit Ev.MEM.CH_READY (s.chState c == Ch.ready) + rawBit Ev.MEM.SR_ENTER (s.chState c == Ch.selfRefresh) +
    rawBit Ev.MEM.MIRROR_LOST (c == 0 && s.role == .tile && !s.on (R.MEM.CH_STAT.MIRROR_OK 0))

/-- MBX channel `c` (Table 15-16): messages that wait, and messages that have waited too long. -/
def State.rawMbx (s : State) (c : Nat) : Nat :=
  rawBit Ev.MBX.A_MSG (s.get (R.MBX.M_STAT.RX_COUNT c 0) != 0) + rawBit Ev.MBX.A_TIMEOUT (s.on (R.MBX.M_STAT.TIMEOUT c 0)) +
    rawBit Ev.MBX.B_MSG (s.get (R.MBX.M_STAT.RX_COUNT c 1) != 0) + rawBit Ev.MBX.B_TIMEOUT (s.on (R.MBX.M_STAT.TIMEOUT c 1))

/-- LFM (Tables 13-8, 13-9). -/
def State.rawLfm (s : State) : Nat :=
  rawBit Ev.LFM.ZONE_DARK (s.get64 R.LFM.LATCH_LO.ZONES R.LFM.LATCH_HI.ZONES != 0) +
    rawBit Ev.LFM.TILE_DARK (s.on R.LFM.LFM_STAT.TILE_DARK) +
    rawBit Ev.LFM.SPIRE_DARK (s.get64 R.LFM.SPIRE_DARK_LO.ZONES R.LFM.SPIRE_DARK_HI.ZONES != 0) +
    rawBit Ev.LFM.BLIND (s.on R.LFM.LFM_STAT.BLIND)

/-- HKT (R511, R516, Table 17-3). -/
def State.rawHkt (s : State) : Nat :=
  rawBit Ev.HKT.WARN (s.on R.HKT.HKT_STAT.WARN) + rawBit Ev.HKT.THROTTLE_REQ (s.thr == 1) + rawBit Ev.HKT.THROTTLE_ENFORCED (s.thr == 2) +
    rawBit Ev.HKT.SENSOR_BROKEN ((List.range 64).any (fun c => s.on (R.HCH.CH_VAL.BROKEN c))) + rawBit Ev.HKT.SHUTDOWN s.hkt.shutdown

/-- The lasting conditions of the block events of page `i` of block `k`. -/
def State.rawBlock (s : State) (k : PageKind) (i : Nat) : Nat :=
  match k with
  | .tim => s.rawTim
  | .dep => rawBit Ev.DEP.DARK_START s.inDark
  | .eth => s.rawEth
  | .ing => rawBit Ev.ING.FOLLOW_INVALID (s.on R.ING.FOLLOW.EN && !s.on R.ING.FOLLOW.VALID)
  | .ingFlow => s.rawFlow i
  | .otg => rawBit Ev.OTG.BLANK_START (s.otg.frame.isNone && s.dep.last.isSome)
  | .cmpLayer => rawBit Ev.LAY.NO_KEY (s.on (R.LAY.L_STAT.NO_KEY (2 * i))) + rawBit (Ev.LAY.NO_KEY + 1) (s.on (R.LAY.L_STAT.NO_KEY (2 * i + 1)))
  | .cmpSpire => rawBit Ev.SPI.CONTENT_BAD (s.get R.SPI.SP_STAT.BAD != 0)
  | .lnk => s.rawLnk i
  | .lnl => s.rawLnl i
  | .lne => s.rawLne i
  | .cor => rawBit Ev.COR.GEOM_MISMATCH s.cor.badGeom + rawBit Ev.COR.ZONE_SUBST (s.cor.subst != [])
  | .scn => rawBit Ev.SCN.BLANK_START (s.on R.SCN.SCN_STAT.GAP)
  | .rai => rawBit Ev.RAI.RAIL_FAULT (s.get R.RAI.RAI_STAT.FAULT != 0)
  | .lfm => s.rawLfm
  | .mem => s.rawMem i
  | .que => rawBit Ev.QUE.QUEUE_ERROR (s.usedQueues.any (fun q => s.on (R.QCX.Q_CTRL.ERROR q)))
  | .mbx => s.rawMbx i
  | .rdn => rawBit Ev.RDN.MISMATCH (s.get R.RDN.RDN_STAT.MIS_STOP != 0)
  | .clu =>
    rawBit Ev.CLU.EPOCH_PREPARED (s.get R.CLU.CLU_STAT.PHASE == 1) + rawBit Ev.CLU.EPOCH_ARMED (s.get R.CLU.CLU_STAT.PHASE == 2) +
      rawBit Ev.CLU.EPOCH_LATE (s.on R.CLU.CLU_STAT.LATE) + rawBit Ev.CLU.MASTER_LOST (s.on R.CLU.CLU_STAT.MASTER_LOST) +
      rawBit Ev.CLU.OUT_OF_TIME (s.on R.CLU.CLU_STAT.OUT_OF_TIME)
  | .hkt => s.rawHkt
  | .pwr => rawBit Ev.PWR.AUX33_LIM (s.on R.PWR.AUX_STAT.AUX33_LIM) + rawBit Ev.PWR.AUX18_LIM (s.on R.PWR.AUX_STAT.AUX18_LIM)
  | .cal => rawBit Ev.CAL.FUSE_BAD (!s.on R.CAL.CAL_STAT.FUSE_OK)
  | .svp =>
    rawBit Ev.SVP.LINK_UP (s.on R.SVP.SVP_STAT.LINK_UP) +
      rawBit Ev.SVP.LINK_DOWN (s.role == .sender && s.on R.SVP.SVP_CTRL.PORT_EN && !s.on R.SVP.SVP_STAT.LINK_UP)
  | .idn => 0
  | .rck => 0
  | .map => 0
  | .cmp => 0
  | .col => 0
  | .klc => 0
  | .par => 0
  | .ten => 0
  | .fwu => 0
  | .queCtx => 0

/-- EVT_RAW of page `i` of block `k` at `b`: FAULT lasts with PG_STAT.FAULT, ERR_LOGGED with ERR_INFO.VALID. -/
def State.rawWord (s : State) (k : PageKind) (i b : Nat) : Nat :=
  rawBit Ev.PG.FAULT (s.on (R.PG.FAULT b)) + rawBit Ev.PG.ERR_LOGGED (s.on (R.PG.ERR_VALID b)) + s.rawBlock k i

end Sys2Proof.Machine
end

