-- ==== Sys2Proof/Machine/Access.lean ====
section
/-!
DEFINITION. Reads and writes of the register space (R65 to R84, R86): width and alignment, inactive and secure pages, the
common header, block registers by their access codes with what a write to each starts, and the memory windows.
-/
namespace Sys2Proof.Machine

/-! ### Who accesses what (R84, R457) -/

/-- The agent may access secure pages. -/
def Agent.secure : Agent → Bool
  | .tenant _ => false
  | .mc b => b
  | .service => true
  | .line _ => false

/-- The addresses of the secure pages. -/
def secureAddr (a : Nat) : Bool :=
  (0x79000 ≤ a && a < 0x7A000) || (0x800000 ≤ a && a < 0x900000) || (0x20000 ≤ a && a < 0x28000)

/-- The side of mailbox channel `c` that an agent has. -/
def Agent.side (g : Agent) (c : Nat) : Option Nat :=
  match g with
  | .tenant t => if t = c && c < 16 then some 0 else none
  | .mc b => if c < 16 || b then some 1 else none
  | .service => if 16 ≤ c then some 0 else none
  | .line i => if i = c && c < 16 then some 0 else none

/-- The memory windows of Table 3-6: start, end, and the page that owns each. -/
def windowRows : List (Nat × Nat × Nat) :=
  [(0x400000, 0x800000, B.map), (0x800000, 0x900000, B.spire), (0xC00000, 0x1000000, B.cor), (0x1000000, 0x1100000, B.scn),
   (0x1100000, 0x1200000, B.lfm), (0x1400000, 0x1800000, B.mem 0), (0x1800000, 0x1880000, B.que)]

/-- The window that holds an address. -/
def windowAt (a : Nat) : Option (Nat × Nat × Nat) := windowRows.find? (fun w => w.1 ≤ a && a < w.2.1)

/-- A window is active with the block that owns it; the queue contexts exist in the Sender role only (R11). -/
def State.windowLive (s : State) (w : Nat × Nat × Nat) : Bool :=
  s.live w.2.2 && (w.1 != 0x1800000 || s.role == .sender)

/-! ### Which bits a role has -/

/-- The bits of a register that exist in the present role; the others read 0 and ignore writes. -/
def State.shown (s : State) (k : PageKind) (i off : Nat) : Nat :=
  let all := 2 ^ 32 - 1
  let tile := s.role == .tile
  let when_ (c : Bool) : Nat := if c then all else 0
  if off < 0x100 then (if off = 0x20 then (if tile then 0xE0000 else 0x7FF0F) else all)
  else if k = .lne then
    if off = 0x100 then (if tile then 4 else all)
    else if off < 0x140 then when_ (!tile)
    else if off < 0x150 then when_ (tile && i == 0)
    else if off < 0x160 then when_ tile
    else if off = 0x160 then when_ (tile && i == 0) else all
  else if k = .dep && tile && off = 0x10C then 0xF000F
  else if k = .dep && tile && off = 0x110 then 0
  else if k = .tim && tile && (off = 0x180 || off = 0x1A0) then 0xFFFF00FF
  else if k = .lnl && i < 8 then (if off = 0x104 then 7 else when_ (off = 0x108 || off = 0x120 || off = 0x124 || off = 0x128))
  else if k = .lnl && off = 0x10C then 2 ^ 31 - 1
  else if k = .ingFlow && 4 ≤ i && off % 0x200 = 0x100 then all - 0x38
  else if k = .lnk && tile && off = 0x100 then all - 16
  else if k = .lnk && tile && off = 0x118 then 0
  else if k = .que && off < 0x140 then when_ (!tile)
  else if k = .que && off < 0x180 then when_ tile
  else if k = .klc && 0x104 ≤ off && off < 0x114 then when_ (!tile)
  else if k = .par && off = 0x100 && !tile then all - 3
  else if k = .hkt && (off = 0x118 || off = 0x11C) then when_ tile
  else if k = .svp then (if off < 0x120 then when_ (!tile) else when_ tile)
  else if k = .mem && (off = 0x180 || off = 0x184) then when_ (i == 0)
  else if k = .eth && 0x140 ≤ off then when_ (s.ethExists ((off - 0x140) / 0x40))
  else all

/-- How many low bits of an address register read 0. -/
def lowBits (k : PageKind) (off : Nat) : Nat :=
  match k with
  | .ing => if off = 0x104 then 12 else 0
  | .lne => if off = 0x124 then 14 else 0
  | .klc => if off = 0x114 then 6 else 0
  | .cor => if off = 0x144 then 22 else if off = 0x148 then 12 else if off = 0x160 then 6 else 0
  | .mem => if off = 0x180 then 22 else 0
  | .par => if off = 0x110 then 12 else 0
  | .queCtx => if off % 0x40 = 0x08 then 12 else if off % 0x40 = 0x20 then 3 else 0
  | _ => 0

/-! ### Reading a page -/

/-- What a read returns: the state after it, the value, whether it was refused (R66, R84), and whether the word carries a
poison mark. -/
structure Rd where
  st : State
  v : Nat := 0
  refused : Bool := false
  poison : Bool := false

/-- PG_ID (R68). -/
def pageId (k : PageKind) (i : Nat) : Nat :=
  let ty := (pageBase k).1 / 0x1000 % 0x1000
  ty * 2 ^ 20 + i * 2 ^ 12 + Config.pageLayout ty % 256 * 16 + Config.pageStep ty % 16

/-- The page holds shadow registers: RWS fields, or the shadowed Timetable (R373). -/
def shadowed (k : PageKind) : Bool := k == .scn || (rowsOf k).any (fun r => r.fields.any (fun f => f.acc == .rws))

/-- PG_CAPS (Table 3-2). -/
def pageCaps (k : PageKind) (b : Nat) : Nat :=
  let mirror := ([.dep, .map, .cmp, .cmpLayer, .cmpSpire, .col, .otg, .lne] : List PageKind).contains k
  1 + 2 * bit (shadowed k) + 4 * bit mirror + 8 * bit (secureAddr b) + 2 ^ 8 * (pageBase k).2 +
    2 ^ 16 * (Config.pageBlock ((pageBase k).1 / 0x1000) % 2 ^ 16)

/-- A word of a header register from its fields. -/
def State.fieldsWord (s : State) (l : List Fld) : Nat := l.foldl (fun w f => w + 2 ^ f.lsb * s.get f) 0

/-- A read of the common header (Tables 3-1 to 3-4D). -/
def State.headerWord (s : State) (k : PageKind) (i b off : Nat) : Nat :=
  if off = 0x0 then pageId k i
  else if off = 0x4 then pageCaps k b
  else if off = 0x8 then s.fieldsWord [R.PG.EN b, R.PG.COMMIT b, R.PG.FREEZE b, R.PG.CGRP b]
  else if off = 0xC then s.fieldsWord [R.PG.COMMIT_PENDING b, R.PG.FAULT b, R.PG.POISON_SEEN b, R.PG.HW_FREEZE b] +
    bit (s.on (R.PG.BUSY b) || s.workIn k i || s.testedAt b) + 16 * bit (s.frozen b)
  else if off = 0x10 then s.rawWord k i b
  else if off = 0x14 then s.get (R.PG.EVT_EN b)
  else if off = 0x18 then s.get (R.PG.EVT_PEND b)
  else if off = 0x20 then s.fieldsWord ((headerFields b 0x20))
  else if off = 0x24 then s.fieldsWord [R.PG.ERR_CODE b, R.PG.ERR_SOURCE b, R.PG.ERR_COUNT b, R.PG.ERR_OVERFLOW b, R.PG.ERR_VALID b]
  else if off = 0x28 then s.get (R.PG.ERR_ADDR_LO b)
  else if off = 0x2C then s.get (R.PG.ERR_ADDR_HI b)
  else 0

/-- Registers whose value a read computes, or latches (Tables 4-16, 4-19, 15-8, 16-9). -/
def State.refresh (s : State) (k : PageKind) (off : Nat) : State :=
  match k with
  | .tim =>
    if off = 0x108 then
      let w := s.wall
      let s := (s.set R.TIM.FRC_LO.V (s.frc % 2 ^ 32)).set R.TIM.FRC_HI.V (s.frc / 2 ^ 32)
      (s.set64 R.TIM.WALL_LO.V R.TIM.WALL_HI.V (nsOf w)).set R.TIM.WALL_FRAC.V (fracOf w)
    else s
  | .dep =>
    if off = 0x128 then s.set R.DEP.FRAME_HI.FRAME (s.lastDep / 2 ^ 32)
    else if off = 0x124 || off = 0x14C then s.showBoard else s
  | .clu =>
    if off = 0x118 || off = 0x11C then s.set64 R.CLU.DIGEST_CUR_LO.DIGEST R.CLU.DIGEST_CUR_HI.DIGEST s.digestCur
    else if off = 0x134 || off = 0x138 then s.set64 R.CLU.DIGEST_PEND_LO.DIGEST R.CLU.DIGEST_PEND_HI.DIGEST s.digestPend
    else if off = 0x13C then s.set R.CLU.CLU_STAT.IS_MASTER (bit s.isMaster)
    else s
  | .que => if off = 0x184 then s.set R.QUE.TEST_STAT.STANDBY (bit s.standby) else s
  | _ => s

/-- The value of a field as a read returns it (Table 3-4A). -/
def State.readField (s : State) (f : Fld) (a : Acc) : Nat :=
  match a with
  | .wo => 0
  | .ro => s.get f
  | .rw => s.get f
  | .rws => s.get f
  | .w1c => s.get f
  | .rc => s.get f
  | .rwl => s.get f

/-- The RC fields of a register clear (R75). -/
def State.clearRc (s : State) (fs : List (Fld × Acc)) : State :=
  fs.foldl (fun s f => if f.2 == .rc then s.set f.1 f.1.rst else s) s

/-- The fields of the register of block `k` at `b` + `off`. -/
def rowFields (k : PageKind) (b off : Nat) : List (Fld × Acc) :=
  match rowAt k off with
  | some (r, i) => r.fields.map (fun f => (f.fld b off i, f.acc))
  | none => []

/-- A read of a block register. -/
def State.blockRead (s : State) (k : PageKind) (i b off : Nat) : State × Nat :=
  let s := s.refresh k off
  let fs := rowFields k b off
  let v := (wordWith fs s.readField) &&& s.shown k i off
  if k = .par && off = 0x120 then s.patBadRead
  else if k = .cor && off = 0x170 then (s.uplDoneRead, v)
  else (s.clearRc fs, v)

/-- A page serves a block register: a MEM page in SELF_REFRESH only CH_CTRL and CH_STAT (R420); of a mailbox page each side
reads its own block (R457). -/
def State.serves (s : State) (g : Agent) (k : PageKind) (i off : Nat) : Bool :=
  if k = .mem then s.chState i != Ch.selfRefresh || off < 0x108
  else if k = .mbx then (match g.side i with | some d => off / 0x100 == 1 + d | none => false)
  else true

/-- A read of an aligned 32-bit word of a page. -/
def State.pageRead (s : State) (g : Agent) (k : PageKind) (i a : Nat) : Rd :=
  let b := a / 0x1000 * 0x1000
  let off := a % 0x1000
  if !s.live b then ⟨s, if off = 0 then pageId k i else 0, false, false⟩
  else if secureAddr a && !g.secure then ⟨s.err b 0x03 0 a, 0, true, false⟩
  else if off < 0x100 then ⟨s, s.headerWord k i b off &&& s.shown k i off, false, false⟩
  else if !s.serves g k i off then ⟨s, 0, false, false⟩
  else if k = .ten && (off / 0x40 = 0x10 || off / 0x40 = 0x20) then ⟨s, 2 ^ 32 - 1, false, false⟩
  else
    let (t, v) := s.blockRead k i b off
    ⟨t, v, false, s.sramPoisoned a⟩

/-! ### Reading a window -/

/-- The DRAM address that offset `o` of the diagnostic aperture stands for. -/
def State.diagAt (s : State) (o : Nat) : Nat :=
  s.get64 (R.MEM.DIAG_BASE_LO.BASE 0) (R.MEM.DIAG_BASE_HI.BASE 0) / 2 ^ 22 * 2 ^ 22 + o

/-- A read of DRAM address `a` through the diagnostic aperture (R435). -/
def State.diagRead (s : State) (a n : Nat) : State × Nat × Bool :=
  if s.get R.PAR.CHK_CTRL.MODE = 2 then
    match s.route a with
    | .refuse code page => (s.dramErr page code 6 a 0, 0, true)
    | .hold c => ({ s with mem := { s.mem with held := s.mem.held ++ [(c, 6, a, false)] } }, 0, true)
    | .copies l =>
      let c := s.readCopy l
      ((s.draw.moved [s.copyChannel a c] n).set R.PAR.CHK_CTRL.RD_PAR (storedParity (s.word8 a) (s.parMask a c)), readLE zeroB s.mem.dram a n, false)
  else
    let (s, d, bad) := s.dramRead 6 (a / 8 * 8)
    (s, bitsOf d (8 * (a % 8)) (8 * n), bad)

/-- A read of one register of a queue context. -/
def State.ctxRead (s : State) (o : Nat) : State × Nat :=
  let fs := rowFields .queCtx 0x1800000 o
  (s.clearRc fs, wordWith fs s.readField)

/-- A read of `n` bytes of a window, aligned, at address `a`. -/
def State.windowRead (s : State) (w : Nat × Nat × Nat) (a n : Nat) : Rd :=
  let o := a - w.1
  if w.1 = 0x400000 then ⟨s, s.cardRead o n, false, s.sramPoisoned a⟩
  else if w.1 = 0x800000 then ⟨s, s.spireRead o n, false, s.sramPoisoned a⟩
  else if w.1 = 0xC00000 then let (t, v, p) := s.aperRead o n; ⟨t.memSettle s.chStates, v, false, p⟩
  else if w.1 = 0x1000000 then ⟨s, s.ttRead o n, false, s.sramPoisoned a⟩
  else if w.1 = 0x1100000 then let (t, v, p) := s.faultRead o n; ⟨t.memSettle s.chStates, v, false, p⟩
  else if w.1 = 0x1400000 then let (t, v, p) := s.diagRead (s.diagAt o) n; ⟨t.memSettle s.chStates, v, false, p⟩
  else
    let (t, lo) := s.ctxRead o
    if n = 4 then ⟨t, lo, false, s.sramPoisoned a⟩
    else
      let (t, hi) := t.ctxRead (o + 4)
      ⟨t, lo + 2 ^ 32 * hi, false, s.sramPoisoned a⟩

/-- The width and alignment that a page and a window accept (R66). -/
def pageAccess (a n : Nat) : Bool := n == 4 && a % 4 == 0
def windowAccess (a n : Nat) : Bool := (n == 4 || n == 8) && a % n == 0

/-- Agent `g` reads `n` bytes at address `a`. -/
def State.readAt (s : State) (g : Agent) (a n : Nat) : Rd :=
  match pageAt a with
  | some (k, i) =>
    if !pageAccess a n then ⟨s.err (a / 0x1000 * 0x1000) 0x03 0 a, 0, true, false⟩ else s.pageRead g k i a
  | none =>
    match windowAt a with
    | none => ⟨s, 0, false, false⟩
    | some w =>
      if !windowAccess a n then ⟨s.err w.2.2 0x03 0 a, 0, true, false⟩
      else if !s.windowLive w then ⟨s, 0, false, false⟩
      else if secureAddr a && !g.secure then ⟨s.err w.2.2 0x03 0 a, 0, true, false⟩
      else s.windowRead w a n

/-! ### Writing by access codes -/

/-- The encodings that R7 lets a field hold. -/
def FieldRow.takes (f : FieldRow) (x : Nat) : Bool := f.legal.isEmpty || f.legal.any (fun r => r.1 ≤ x && x ≤ r.2)

/-- Write one field by its access code; WO and RWL fields act where their register is written. -/
def State.writeField (s : State) (f : FieldRow) (g : Fld) (v : Nat) : State :=
  let x := bitsOf v f.lsb f.width
  match f.acc with
  | .rw => if f.takes x then s.set g x else s
  | .rws => if f.takes x then s.set g x else s
  | .w1c => s.set g (s.get g - (s.get g &&& x))
  | .ro => s
  | .wo => s
  | .rc => s
  | .rwl => s

/-- Write every field of a register that exists in the present role. -/
def State.writeReg (s : State) (k : PageKind) (i b off v : Nat) : State :=
  let v := v / 2 ^ lowBits k off * 2 ^ lowBits k off
  match rowAt k off with
  | some (r, j) =>
    r.fields.foldl (fun s f => if bitAt (s.shown k i off) f.lsb then s.writeField f (f.fld b off j) v else s) s
  | none => s

/-- A register write that is refused with code 0x13 of its page. -/
def State.refuseReg (s : State) (b a : Nat) : State := s.err b 0x13 0 a

/-! ### What a write starts, by block -/

/-- TIM (R93, R98, R100, R108). -/
def State.timWrite (s : State) (off v : Nat) : State :=
  let sender := s.role == .sender
  if off = 0x100 then
    let s := (s.set R.TIM.TIM_CTRL.AUTO_SWITCH (bitsOf v 1 1)).set R.TIM.TIM_CTRL.STEP_EN (bitsOf v 2 1)
    let src := bitsOf v 8 2
    let s := if sender && src != s.get R.TIM.TIM_CTRL.FRAME_SRC then s.frameSrc src else s
    let force := bitsOf v 4 1 == 1
    if bitsOf v 3 1 = 1 then s.requestWall (1 - s.wallDom) force
    else if bitsOf v 0 1 != s.wallDom then s.requestWall (bitsOf v 0 1) force
    else s
  else if off = 0x12C then
    if sender then
      let was := s.pending?
      let s := (s.writeReg .tim 0 B.tim off v).evaluate
      if s.pending? = was then s else s.sendScheds
    else s
  else if off = 0x154 then (if sender then s.writeReg .tim 0 B.tim off v else s)
  else if off = 0x168 || off = 0x16C then (s.writeReg .tim 0 B.tim off v).showDelay ((off - 0x168) / 4)
  else if off = 0x180 || off = 0x1A0 then
    let d := (off - 0x180) / 0x20
    let s := s.set (R.TIM.DOM_CFG.LOCK_THR d) (bitsOf v 16 8)
    let s := if sender then (s.set (R.TIM.DOM_CFG.PORT d) (bitsOf v 1 2)).set (R.TIM.DOM_CFG.PTP_DOMAIN d) (bitsOf v 8 8) else s
    if bitsOf v 0 1 = s.get (R.TIM.DOM_CFG.EN d) then s else s.domEnable d (bitsOf v 0 1 == 1)
  else if off = 0x194 || off = 0x1B4 then
    if sender then s.draw.domMeas ((off - 0x194) / 0x20) v (-((Config.choice s.fresh % 8 : Nat) : Int)) else s
  else s.writeReg .tim 0 B.tim off v

/-- ENT_CMD (R116). -/
def State.entCmd (s : State) (op : Nat) : State :=
  let i := s.entSel
  if op = 1 then (let e := s.stagedEntry; (s.entWrite i e).mirrorEntry i e 1)
  else if op = 2 then s.entRead i
  else if op = 3 then (let e := s.entry i; (s.entCancel i).mirrorEntry i e 3)
  else s

/-- MODE_CTRL of a sender (R51, R61): DARK_FRAMES does not change while an epoch change is under way. -/
def State.modeCtrlWrite (s : State) (v : Nat) : State :=
  if s.role == .tile then s
  else
    let d := bitsOf v 0 4
    let was := s.schedWords
    let s := if 2 ≤ d && !s.epochBusy then s.set R.DEP.MODE_CTRL.DARK_FRAMES d else s
    (s.set R.DEP.MODE_CTRL.FB_EN (bitsOf v 8 1)).evaluate.sendChanged was

/-- DEP. -/
def State.depWrite (s : State) (off v : Nat) : State :=
  if off = 0x104 then s.modeNextWrite v
  else if off = 0x110 then s.modeFallbackWrite v
  else if off = 0x10C then s.modeCtrlWrite v
  else if off = 0x130 then (s.writeReg .dep 0 B.dep off v).showBoard
  else if off = 0x148 then s.entCmd (bitsOf v 0 2)
  else if off = 0x150 || off = 0x154 || off = 0x158 then
    if s.role == .tile then s else (s.writeReg .dep 0 B.dep off v).evaluate
  else s.writeReg .dep 0 B.dep off v

/-- ETH (R126). DESIGN CHOICE (log entry 36): a write that leaves MODE at its value is no attempt to change it and records no
code 0x13. -/
def State.ethWrite (s : State) (off v : Nat) : State :=
  if off = 0x100 then
    let s := s.set R.ETH.ETH_CFG.AN_EN (bitsOf v 1 1)
    if bitsOf v 0 1 = s.get R.ETH.ETH_CFG.MODE then s
    else if (List.range 4).any (fun p => s.on (R.ETH.PORT_CTRL.EN p)) then s.refuseReg B.eth (B.eth + off)
    else s.set R.ETH.ETH_CFG.MODE (bitsOf v 0 1)
  else
    let p := (off - 0x140) / 0x40
    let was := s.on (R.ETH.PORT_CTRL.EN p)
    let s := s.writeReg .eth 0 B.eth off v
    if off % 0x40 = 0 && was && !s.on (R.ETH.PORT_CTRL.EN p) then s.ethDown p else s

/-- ING (R136, R146): the frame-sync region stays while a slot is enabled. -/
def State.ingWrite (s : State) (off v : Nat) : State :=
  if off = 0x104 || off = 0x108 || off = 0x10C then
    if (List.range 32).all (fun k => s.flow k == Flow.idle || s.flow k == Flow.refused) then
      (s.writeReg .ing 0 B.ing off v).showFree
    else s.refuseReg B.ing (B.ing + off)
  else if off = 0x128 then ((s.writeReg .ing 0 B.ing off v).followMoved (s.get R.ING.FOLLOW.SLOT)).followEval
  else s.writeReg .ing 0 B.ing off v

/-- ING flow page `i` (R132, R135). -/
def State.flowWrite (s : State) (i b off v : Nat) : State :=
  let k := 4 * i + (off - 0x100) / 0x200
  let ofs := (off - 0x100) % 0x200
  if ofs = 0 then (s.flowCtrlWrite k v).followEval
  else if s.flowLocked k ofs then s.flowErr k 0x13
  else (s.writeReg .ingFlow i b off v).followEval

/-- LNK (R214, R222). -/
def State.lnkWrite (s : State) (p off v : Nat) : State :=
  if off = 0x100 then
    let s := (s.set (R.LNK.PORT_CTRL.AUTO_WIDEN p) (bitsOf v 2 1)).set (R.LNK.PORT_CTRL.RELOCK_EN p) (bitsOf v 3 1)
    let s := if s.role == .sender then s.set (R.LNK.PORT_CTRL.POLICY p) (bitsOf v 4 1) else s
    let s := if bitsOf v 8 8 = 1 || bitsOf v 8 8 = 2 then s.set (R.LNK.PORT_CTRL.LEVEL_MAX p) (bitsOf v 8 8) else s
    let s := if bitsOf v 0 2 = s.get (R.LNK.PORT_CTRL.MAX_WIDTH p) then s else s.maxWidthWrite p (bitsOf v 0 2)
    let s := if s.portActive p then s.mayWiden p else s
    if bitsOf v 5 1 = 1 then s.linkDown p else s
  else s.writeReg .lnk p (B.lnk p) off v

/-- LNL (R230, R250): writes to the Ethernet lanes have no effect (R215). -/
def State.lnlWrite (s : State) (l off v : Nat) : State :=
  if l < 8 then s
  else if off = 0x100 then
    let was := s.get (R.LNL.LANE_CTRL.FIX_EN l)
    let s := (s.set (R.LNL.LANE_CTRL.FIX_EN l) (bitsOf v 0 1)).set (R.LNL.LANE_CTRL.FIX_PRE_TX l) (bitsOf v 1 1)
    let s := (s.set (R.LNL.LANE_CTRL.FIX_PRE_RX l) (bitsOf v 2 1)).set (R.LNL.LANE_CTRL.PRECODE_ALLOW l) (bitsOf v 3 1)
    let s := if bitsOf v 0 1 = was then s else s.fixChanged l
    let s := if bitsOf v 4 1 = 0 then s.set (R.LNL.LANE_CTRL.RETIRE l) 0
      else if s.on (R.LNL.LANE_CTRL.RETIRE l) then s else (s.laneRetire l).set (R.LNL.LANE_CTRL.RETIRE l) 1
    if bitsOf v 5 1 = 1 then s.laneRetry l else s
  else s.writeReg .lnl l (B.lnl l) off v

/-- LNE (R266, R279). -/
def State.lneWrite (s : State) (p off v : Nat) : State :=
  let s := s.writeReg .lne p (B.lne p) off v
  if s.role == .tile then s
  else if off = 0x100 && bitsOf v 0 1 = 1 then s.enumStart p
  else if off = 0x10C then s.showTmo p
  else s

/-- KLC (R302, R304). -/
def State.klcWrite (s : State) (off v : Nat) : State :=
  if off = 0x100 then (if bitsOf v 0 1 = 1 then s.jobAbort else s)
  else if (off = 0x114 || off = 0x118 || off = 0x11C) && (s.on R.KLC.JOB_STAT.BUSY || s.ringPending) then
    s.refuseReg B.klc (B.klc + off)
  else if off = 0x124 then s.jrTail v
  else s.writeReg .klc 0 B.klc off v

/-- COR (R308, R331, R332). -/
def State.corWrite (s : State) (off v : Nat) : State :=
  if off = 0x104 then
    if s.on R.DEP.MODE_CHECK.LOCKED then s
    else (s.set R.COR.GEOM.TW (bitsOf v 0 15)).set R.COR.GEOM.TH (bitsOf v 16 15)
  else if off = 0x148 || off = 0x14C || off = 0x150 then
    let t := s.writeReg .cor 0 B.cor off v
    if t.upbufOk then t else s.refuseReg B.cor (B.cor + off)
  else if off = 0x168 then s.uplGo v
  else s.writeReg .cor 0 B.cor off v

/-- RCK (R405). -/
def State.rckWrite (s : State) (off v : Nat) : State :=
  if off = 0x104 then (if v % 256 = 0xA5 then s.inReset .held Cause.software else s)
  else
    let s := s.writeReg .rck 0 B.rck off v
    if off = 0x10C && bitsOf v 1 1 = 1 && s.on R.RCK.CLK_STAT.REFCLK_OK then s.refclkBack else s

/-- An auxiliary output is switched (R377). -/
def State.auxSwitch (s : State) (k on : Nat) : State :=
  if s.get (auxEn k) = on then s
  else ((s.set (auxEn k) on).set (auxOk k) on).set (auxLim k) 0

/-- MEM CH_CTRL (R415 to R421). -/
def State.memCtrl (s : State) (c v : Nat) : State :=
  let s := if bitsOf v 0 1 = s.get (R.MEM.CH_CTRL.SR c) then s else if bitsOf v 0 1 = 1 then s.srEnter c else s.srExit c
  let s := if bitsOf v 1 1 = 1 then s.chOffline c else s
  let s := if bitsOf v 2 1 = 1 then s.chReturn c else s
  let s := if bitsOf v 3 1 = 1 then s.retrainNow c else s
  if bitsOf v 4 1 = 1 then s.bistGo c else s

/-- HKT (R510, R512): the type of a channel can be written for channels 16 to 47, with values 0 to 3. -/
def State.hktWrite (s : State) (off v : Nat) : State :=
  if off = 0x110 then s.brokenClear v
  else if off = 0x114 then s.brokenClear (v % 2 ^ 32 * 2 ^ 32)
  else
    let old := s
    let s := s.writeReg .hkt 0 B.hkt off v
    let s := match rowAt .hkt off with
      | some (_, c) =>
        let f := R.HCH.CH_CFG.TYPE c
        if f.addr = B.hkt + off then (if 16 ≤ c && c < 48 && s.get f ≤ 3 then s else s.set f (old.get f)) else s
      | none => s
    if off = 0x100 then
      let s := if s.hktEval then s.throttleRound [] [] else s
      if bitsOf v 2 1 = 1 then s.enforceReq else s
    else s

/-- CAL (R523, R524): the field trims of slots 20 and up belong to the calibration. -/
def State.calWrite (s : State) (off v : Nat) : State :=
  if off = 0x100 then (if bitsOf v 0 1 = 1 then s.set R.CAL.CAL_STAT.BUSY 1 else s)
  else if 0x200 + 8 * 20 ≤ off then s
  else s.writeReg .cal 0 B.cal off v

/-- FWU (R536, R537). -/
def State.fwuWrite (s : State) (g : Agent) (off v : Nat) : State :=
  if off = 0x100 then
    let s := if bitsOf v 0 1 = 1 then s.confirm s.mcSlot else s
    let s := if bitsOf v 1 1 = 1 then s.confirm s.lcSlot else s
    if bitsOf v 2 1 = 1 then s.rbCommit g.secure else s
  else s.writeReg .fwu 0 B.fwu off v

/-- The service port's link comes up or goes down (R552). -/
def State.svpLink (s : State) (up : Bool) : State :=
  if s.on R.SVP.SVP_STAT.LINK_UP = up then s
  else
    let s := (s.set R.SVP.SVP_STAT.LINK_UP (bit up)).set R.SVP.SVP_STAT.AN_DONE (bit (up && s.on R.SVP.SVP_CTRL.AN_EN))
    s.ev B.svp (if up then Ev.SVP.LINK_UP else Ev.SVP.LINK_DOWN)

/-- MBX channel `c`, by the side whose block `off` lies in. -/
def State.mbxWrite (s : State) (c off v : Nat) : State :=
  let k := off / 0x100 - 1
  let s := s.writeReg .mbx c (B.mbx c) off v
  if off % 0x100 = 0x80 then
    let s := if bitsOf v 0 1 = 1 then s.mbxSendRelay c k else s
    if bitsOf v 1 1 = 1 then s.mbxTake c k else s
  else s

/-- CLU (R496, R498, R500). -/
def State.cluWrite (s : State) (off v : Nat) : State :=
  if off = 0x12C then
    let s := if bitsOf v 0 1 = 1 then s.epochRequest else s
    if bitsOf v 1 1 = 1 then s.epochCancel else s
  else
    let was := s.get R.CLU.CLU_CFG.MASTER
    let s := s.writeReg .clu 0 B.clu off v
    if s.get R.CLU.CLU_CFG.MASTER = was then s else s.masterBack

/-- A write of a block register. -/
def State.blockWrite (s : State) (g : Agent) (k : PageKind) (i b off v : Nat) : State :=
  match k with
  | .tim => s.timWrite off v
  | .dep => s.depWrite off v
  | .eth => s.ethWrite off v
  | .ing => s.ingWrite off v
  | .ingFlow => s.flowWrite i b off v
  | .map => if off = 0x10C then (if bitsOf v 0 1 = 1 then s.set R.MAP.CARD_STAT.CHECK_BUSY 1 else s) else (s.writeReg k i b off v).evaluate
  | .cmpSpire =>
    if off = 0x100 && bitsOf v 0 1 = 1 then s.set R.SPI.SP_STAT.CHECK_CODE ((spireCheck s.cmp.spStage).getD (0, 0)).1
    else s.writeReg k i b off v
  | .lnk => s.lnkWrite i off v
  | .lnl => s.lnlWrite i off v
  | .lne => s.lneWrite i off v
  | .klc => s.klcWrite off v
  | .cor => s.corWrite off v
  | .scn => if off = 0x100 then (if bitsOf v 0 1 = 1 then s.set R.SCN.TT_STAT.CHECK_BUSY 1 else s) else s.writeReg k i b off v
  | .rck => s.rckWrite off v
  | .pwr => if off = 0x104 then (s.auxSwitch 0 (bitsOf v 0 1)).auxSwitch 1 (bitsOf v 1 1) else s.writeReg k i b off v
  | .rai =>
    let s := s.writeReg k i b off v
    if 0x200 ≤ off && off < 0x800 && off % 0x40 = 0 && bitsOf v 4 1 = 1 then s.railClear ((off - 0x200) / 0x40) else s
  | .lfm => if off = 0x110 then s.latchClear v else if off = 0x114 then s.latchClear (v * 2 ^ 32) else s.writeReg k i b off v
  | .mem => if off = 0x100 then s.memCtrl i v else s.writeReg k i b off v
  | .que =>
    let s := s.writeReg k i b off v
    if off = 0x180 && bitsOf v 31 1 = 1 then s.testGo else s
  | .ten => if off = 0x100 then (if bitsOf v 0 1 = 1 then s.ruleCommit else s) else if off / 0x40 = 0x10 then s else s.writeReg k i b off v
  | .rdn =>
    if off = 0x104 then
      let s := if bitsOf v 0 1 = 1 then s.handover else s
      if bitsOf v 1 1 = 1 then s.resync else s
    else s.writeReg k i b off v
  | .clu => s.cluWrite off v
  | .hkt => s.hktWrite off v
  | .cal => s.calWrite off v
  | .fwu => s.fwuWrite g off v
  | .svp =>
    let s := s.writeReg k i b off v
    if off = 0x100 && !s.on R.SVP.SVP_CTRL.PORT_EN then s.svpLink false else s
  | .mbx => s.mbxWrite i off v
  | .idn => s
  | .otg => s.writeReg k i b off v
  | .cmp => s.writeReg k i b off v
  | .cmpLayer => s.writeReg k i b off v
  | .col => s.writeReg k i b off v
  | .par => s.writeReg k i b off v
  | .queCtx => s

/-- A write of PG_CTRL: CGRP, EN, FREEZE and COMMIT take the values written, then SRST acts. -/
def State.ctrlWrite (s : State) (b v : Nat) : State :=
  let s := s.set (R.PG.CGRP b) (bitsOf v 8 4)
  let s := if bitsOf v 3 1 = s.get (R.PG.FREEZE b) then s else s.writeFreeze b (bitsOf v 3 1)
  let s := s.writeEn b (bitsOf v 0 1)
  let s := if bitsOf v 2 1 = 1 then s.commitArm b else s.commitDisarm b
  if bitsOf v 1 1 = 1 then s.softReset b else s

/-- A write of the common header. -/
def State.headerWrite (s : State) (k : PageKind) (i b off v : Nat) : State :=
  if off = 0x8 then s.ctrlWrite b v
  else if off = 0xC then (if bitsOf v 3 1 = 1 then s.set (R.PG.POISON_SEEN b) 0 else s)
  else if off = 0x14 then s.evtEn b v
  else if off = 0x18 then s.evtClear b v
  else if off = 0x1C then s.evtSet b v
  else if off = 0x20 then
    (headerFields b 0x20).foldl (fun s f => if bitAt (s.shown k i 0x20) f.lsb then s.set f (bitsOf v f.lsb f.width) else s) s
  else if off = 0x24 then (if bitsOf v 31 1 = 1 then s.errClear b else s)
  else s

/-! ### Writing a page or a window -/

/-- The page whose ERR_INFO shows a poisoned word at `a` (R434). -/
def pageOf (a : Nat) : Nat :=
  match windowAt a with
  | some w => w.2.2
  | none => a / 0x1000 * 0x1000

/-- A write to a word of on-die SRAM: its mark goes, and an armed injection is used up (Table 14-6). A word that it stores with wrong
parity is a new mismatch, which its block meets with its next read, at once (log entry 126). -/
def State.sramStore (s : State) (a : Nat) : State :=
  let s := s.sramWritten a
  let bad := s.get R.PAR.CHK_CTRL.INJ_MASK &&& laneMask (a / 8 * 8) a 4
  if s.get R.PAR.CHK_CTRL.MODE = 3 && s.on R.PAR.CHK_CTRL.INJ_ARM && s.on R.PAR.CHK_CTRL.INJ_SRAM &&
      Config.sramArray a = s.get R.PAR.CHK_CTRL.INJ_PORT then
    let s := (s.set R.PAR.CHK_CTRL.INJ_ARM 0).ev B.par Ev.PAR.CHK_INJECTED
    if bad = 0 then s
    else
      let s := s.sramError (pageOf a) (Config.sramArray a) a bad
      { s with mem := { s.mem with sram := s.mem.sram ++ [a / 8 * 8] } }
  else s

/-- A write of an aligned 32-bit word of a page: the state after it, and whether it was refused. -/
def State.pageWrite (s : State) (g : Agent) (k : PageKind) (i a v : Nat) : State × Bool :=
  let b := a / 0x1000 * 0x1000
  let off := a % 0x1000
  if !s.live b then (s, false)
  else if secureAddr a && !g.secure then (s.err b 0x03 0 a, true)
  else if off < 0x100 then ((s.headerWrite k i b off v).mirrorReg a, false)
  else if !s.serves g k i off then (s, false)
  else (((s.blockWrite g k i b off v).sramStore a).mirrorReg a, false)

/-- A write of DRAM address `a` through the diagnostic aperture (R435). -/
def State.diagWrite (s : State) (a n v : Nat) : State :=
  if s.get R.PAR.CHK_CTRL.MODE = 1 then
    match s.route a with
    | .refuse code page => s.dramErr page code 6 a 0
    | .hold c => { s with mem := { s.mem with held := s.mem.held ++ [(c, 6, a, true)] } }
    | .copies l =>
      let s := { s with mem := { s.mem with dram := writeBytes zeroB s.mem.dram a (toBytes n v) } }
      let s := (s.moved (s.writeChannels a l) n).queueWrite (s.writeChannels a l) a n
      let l := laneMask (a / 8 * 8) a n
      let bad := storedParity (s.word8 a) 0 ^^^ s.get R.PAR.CHK_CTRL.WR_PAR
      [0, 1].foldl (fun s c => s.setPar a c ((s.parMask a c &&& (255 - l)) ||| (bad &&& l))) s
  else s.dramWrite 6 a (toBytes n v)

/-- A write of one register of a queue context (R443): a VF keeps OWNER, and an enabled queue its ring, class and owner. -/
def State.ctxWrite (s : State) (g : Agent) (o v : Nat) : State :=
  let q := o / 0x40
  let reg := o % 0x40
  let on := s.on (R.QCX.Q_CTRL.EN q)
  let owner := match g with | .tenant t => t == 0 | .mc _ => true | .service => true | .line _ => true
  if reg = 0 then
    let cls := if bitsOf v 3 3 ≤ 5 then bitsOf v 3 3 else s.qClass q
    let own := if owner then bitsOf v 8 4 else s.qOwner q
    let changes := cls != s.qClass q || own != s.qOwner q || bitsOf v 16 4 != s.get (R.QCX.Q_CTRL.SIZE_EXP q)
    let s := s.set (R.QCX.Q_CTRL.VECTOR q) (bitsOf v 24 8)
    let s := if on then (if changes then s.refuseReg B.que (0x1800000 + o) else s)
      else ((s.set (R.QCX.Q_CTRL.CLASS q) cls).set (R.QCX.Q_CTRL.OWNER q) own).set (R.QCX.Q_CTRL.SIZE_EXP q) (bitsOf v 16 4)
    if bitsOf v 0 1 = 1 then s.queueEnable q else if on then s.queueDisable q else s
  else if (reg = 8 || reg = 12) && on then s.refuseReg B.que (0x1800000 + o)
  else s.writeReg .queCtx 0 0x1800000 o v

/-- A write of `n` bytes to a window, aligned, at address `a`. -/
def State.windowWrite (s : State) (g : Agent) (w : Nat × Nat × Nat) (a n v : Nat) : State :=
  let o := a - w.1
  if w.1 = 0x400000 then (if o < 0x200000 then ((s.cardWrite o n v).sramStore a).mirrorWindow a n else s)
  else if w.1 = 0x800000 then ((s.spireWrite o n v).sramStore a).mirrorWindow a n
  else if w.1 = 0xC00000 then s.aperWrite o n v
  else if w.1 = 0x1000000 then (s.ttWrite o n v).sramStore a
  else if w.1 = 0x1100000 then (s.faultWrite o n v).memSettle s.chStates
  else if w.1 = 0x1400000 then s.diagWrite (s.diagAt o) n v
  else
    let s := s.ctxWrite g o (v % 2 ^ 32)
    (if n = 4 then s else s.ctxWrite g (o + 4) (v / 2 ^ 32)).sramStore a

/-- Agent `g` writes `n` bytes at address `a`: the state after it, and whether it was refused. -/
def State.writeAt (s : State) (g : Agent) (a n v : Nat) : State × Bool :=
  let v := v % 2 ^ (8 * n)
  match pageAt a with
  | some (k, i) =>
    if !pageAccess a n then (s.err (a / 0x1000 * 0x1000) 0x03 0 a, true) else s.pageWrite g k i a v
  | none =>
    match windowAt a with
    | none => (s, false)
    | some w =>
      if !windowAccess a n then (s.err w.2.2 0x03 0 a, true)
      else if !s.windowLive w then (s, false)
      else if secureAddr a && !g.secure then (s.err w.2.2 0x03 0 a, true)
      else (s.windowWrite g w a n v, false)

/-! ### Commands -/

/-- REGISTER_WRITE (R73): agent, address, width in bytes, value. -/
def execRegisterWrite (who : Agent) (a n v t : Nat) (s : State) : Host.Outcome State Fault Refusal :=
  run (fun s => ((s.tick t).writeAt who (a % 2 ^ 25) n v).1) s

/-- RC_READ (R75), and any other read: the word read is the command's answer. -/
def execRcRead (who : Agent) (a n t : Nat) (s : State) : Host.Outcome State Fault Refusal :=
  run (fun s =>
    let r := (s.tick t).readAt who (a % 2 ^ 25) n
    r.st.emit (.data (a % 2 ^ 25) n r.v)) s

end Sys2Proof.Machine
end

