-- ==== Sys2Proof/Machine/Line.lean ====
section
/-!
DEFINITION. The messages of a line at the units they are meant for (chapter 9): LINK_STATE, enumeration, transactions at
both ends, and SVC sessions.
-/
namespace Sys2Proof.Machine

/-! ### LINK_STATE (R252 to R254, R266, R269, R481) -/

/-- PORT_FN of the tile port that faces the sender on port `p`: port U, or port D at the far end of a line (R15, R16). -/
def State.faceFn (s : State) (p : Nat) : Nat := if (s.port p).peerFn == some 7 then 7 else 6

/-- The stop number of the reporting unit, counted from the sender on port `p`. -/
def State.reportStop (s : State) (p : Nat) (m : LinkStateMsg) : Nat := if s.faceFn p = 7 then m.stopD else m.stopU

/-- The width of a link that a stop reports; a link that is not ACTIVE has none to keep. -/
def State.keepWidth (s : State) (p : Nat) (m : LinkStateMsg) : State :=
  let k := s.reportStop p m
  let j := if m.fn = s.faceFn p then k else k + 1
  let x := s.lineTx p
  let rest := x.widths.filter (fun w => w.1 != j)
  s.setLineTx p { x with widths := if m.stage = Stage.active then (j, widthLanes m.width) :: rest else rest }

/-- LINK_STATE at a sender: widths, N, and a new run. -/
def State.linkStateSender (s : State) (p : Nat) (m : LinkStateMsg) : State :=
  let k := s.reportStop p m
  let tile := m.fn == 6 || m.fn == 7
  let s := if m.cause = 2 && tile then s.streamFail p 1 else s
  let s := if tile && k != 0 then s.keepWidth p m else s
  let s := if m.cause = 2 && tile && m.fn != s.faceFn p && k != 0 && k ≤ s.lastStop p then s.setN p k else s
  let s := s.showLine p
  if (m.cause = 1 || m.cause = 2) && s.on (R.LNE.LNE_CTRL.AUTO_ENUM p) then s.enumStart p else s

/-- LINK_STATE arrives on port `p`. A tile acts on the loss of a link between it and the stream's originator. -/
def State.linkState (s : State) (p : Nat) (m : LinkStateMsg) : State :=
  if !s.portActive p || !s.works (B.lne p) then s
  else match s.role with
    | .sender => s.linkStateSender p m
    | .tile => if m.cause = 2 && (m.fn == 6 || m.fn == 7) then s.streamFail p 1 else s

/-! ### Enumeration (R266 to R269) -/

/-- A tile sends ENUM on from its other port: that port is ACTIVE and its peer a tile (R267). -/
def State.hasNext (s : State) (p : Nat) : Bool :=
  s.portActive (1 - p) && ((s.port (1 - p)).peerFn == some 6 || (s.port (1 - p)).peerFn == some 7)

/-- The serial as a number of 12 characters. -/
def State.serial (s : State) : Nat :=
  s.get (R.IDN.SERIAL.V 0) + 2 ^ 32 * s.get (R.IDN.SERIAL.V 1) + 2 ^ 64 * s.get (R.IDN.SERIAL.V 2)

/-- ENUM arrives at a tile on port `p`. -/
def State.enumAt (s : State) (p : Nat) (m : EnumMsg) : State :=
  if s.role != .tile || !s.portActive p || !s.works (B.lne p) then s
  else
    let no := decide (254 < m.stop)
    let s := if no then s else s.set (if p = 0 then R.LNE.TILE_STOP.STOP_U 0 else R.LNE.TILE_STOP.STOP_D 0) m.stop
    let on := !no && s.hasNext p
    let s := s.send p (.enumRsp {
      last := !on, noNumber := no, stop := m.stop, other := s.ownStop (1 - p), lineId := m.lineId, run := m.run
      typeId := s.get R.IDN.IDN_TYPE.TYPE_ID, stepping := s.get R.IDN.IDN_TYPE.STEPPING, serial := s.serial })
    if on then s.send (1 - p) (.enumMsg { m with stop := m.stop + 1 }) else s

/-- How many stops from stop 1 on have responded without a gap, up to one that is LAST. -/
def heard (l : List EnumRsp) : Nat :=
  let gap := ((List.range 255).find? (fun i => !l.any (fun r => r.stop == i + 1))).getD 255
  match (List.range gap).find? (fun i => l.any (fun r => r.stop == i + 1 && (r.last || r.noNumber))) with
  | some i => i + 1
  | none => gap

/-- Every stop up to one with LAST or NO_NUMBER has responded. -/
def heardAll (l : List EnumRsp) : Bool :=
  let n := heard l
  l.any (fun r => r.stop == n && (r.last || r.noNumber))

/-- The lowest stop of a list, 0 for none. -/
def lowest : List Nat → Nat
  | [] => 0
  | a :: r => r.foldl min a

/-- What a run tells of the stops' serials (TOPO_CHANGE). -/
def State.takeSerials (s : State) (p : Nat) (l : List EnumRsp) : State :=
  let x := s.lineTx p
  let l := l.filter (fun r => !r.noNumber)
  let changed := l.filter (fun r => match (x.stop r.stop).serial with | some v => v != r.serial | none => false)
  let s := s.setLineTx p (l.foldl (fun (x : LineTx) r => x.setStop { x.stop r.stop with serial := some r.serial }) x)
  if changed = [] then s
  else (s.set (R.LNE.TEL_STAT.CHANGED p) (lowest (changed.map (·.stop)))).ev (B.lne p) Ev.LNE.TOPO_CHANGE

/-- Stop numbers from the two ends of a DUAL_ENDED line that do not sum to N + 1 (STOP_SKEW). -/
def State.checkSkew (s : State) (p n : Nat) (l : List EnumRsp) : State :=
  let bad := (l.filter (fun r => r.other != 0 && r.stop + r.other != n + 1)).map (·.stop)
  if !s.dual || bad = [] then s
  else
    let k := lowest bad
    ((s.set (R.LNE.TEL_STAT.SKEW p) k).err (B.lne p) 0x11 k 0).ev (B.lne p) Ev.LNE.STOP_SKEW

/-- A run ends, on time or on the limit of 1 ms (R268). -/
def State.enumEnd (s : State) (p : Nat) (short : Bool) : State :=
  let l := (s.lineTx p).rsps
  let beyond := l.find? (fun r => r.noNumber)
  let n := if beyond.isSome then 254 else min 254 (heard l)
  let s := (s.set (R.LNE.LNE_STAT.ENUM_SHORT p) (bit short)).set (R.LNE.LNE_STAT.OVERLONG p) (bit beyond.isSome)
  let s := s.enumAbandon p
  let s := match beyond with
    | some r => (s.err (B.lne p) 0x10 r.stop 0).ev (B.lne p) Ev.LNE.OVERLONG
    | none => s
  let s := (s.numberTo p n).takeSerials p l
  ((s.checkSkew p n l).ev (B.lne p) Ev.LNE.ENUM_DONE).showLine p

/-- ENUM_RSP arrives at a sender on port `p`; one of another run is ignored. -/
def State.enumRspAt (s : State) (p : Nat) (r : EnumRsp) : State :=
  if s.role != .sender || !s.portActive p || !s.works (B.lne p) || !s.on (R.LNE.LNE_STAT.ENUM_BUSY p) ||
      r.run != s.get (R.LNE.ENUM_RUN.RUN p) then s
  else
    let x := s.lineTx p
    let l := x.rsps.filter (fun e => e.stop != r.stop) ++ [r]
    let s := s.setLineTx p { x with rsps := l }
    if heardAll l then s.enumEnd p false else s

/-- ENUM_TIMEOUT. -/
def State.enumTimeout (s : State) (p : Nat) : State :=
  if s.role == .sender && s.on (R.LNE.LNE_STAT.ENUM_BUSY p) then s.enumEnd p true else s

/-! ### A tile's acceptor (R278, R281, R282, R463) -/

/-- The tile answers a request: its own, or a broadcast at the stop that sends no further ENUM (R278). -/
def State.answers (s : State) (p : Nat) (m : ReqMsg) : Bool := m.stop != 255 || !s.hasNext p

/-- The response to a request that came in on port `p` with `didx`. -/
def State.respond (s : State) (p : Nat) (m : ReqMsg) (didx : Nat) (r : RspMsg) : State :=
  if s.answers p m then s.send p (.rsp { r with stop := s.ownStop p, didx := didx }) else s

/-- The window of a source becomes the most recently used; the 37th evicts the oldest. -/
def State.putWin (s : State) (w : DupWin) : State :=
  let rest := s.line.wins.filter (fun x => x.src != w.src)
  if 36 ≤ rest.length then
    (({ s with line := { s.line with wins := w :: rest.take 35 } }).count R.QUE.DUP_EVICT.COUNT).ev B.que Ev.QUE.DUP_EVICT
  else { s with line := { s.line with wins := w :: rest } }

/-- The window of a source. -/
def State.winOf (s : State) (src : Nat) : DupWin := (s.line.wins.find? (fun w => w.src == src)).getD ⟨src, []⟩

/-- Cached completions that no earlier request of their port holds up any more leave (R278, R282). -/
def State.releaseDone (s : State) : State :=
  let (t, l) := s.line.held.foldl (fun (a : State × List HeldReq) h =>
    match h.done with
    | none => (a.1, a.2 ++ [h])
    | some r =>
      if a.2.any (fun e => e.port == h.port) then (a.1, a.2 ++ [h])
      else (if h.drop then a.1 else a.1.respond h.port h.req h.didx r, a.2)) (s, [])
  { t with line := { t.line with held := l } }

/-- A repeat of a request (R282). A cached completion leaves after the responses to the requests of that port that are held (R278). -/
def State.repeatOf (s : State) (p : Nat) (m : ReqMsg) (done : Option RspMsg) : State :=
  let s := (s.putWin (s.winOf m.src)).count R.QUE.DUP_HIT.COUNT
  match done with
  | some r =>
    ({ s with line := { s.line with held := s.line.held ++
        [({ side := p, req := m, port := p, didx := m.didx, done := some { r with cached := true } } : HeldReq)] } }).releaseDone
  | none =>
    { s with line := { s.line with held := s.line.held.map (fun (h : HeldReq) =>
        if h.req.src = m.src && h.req.tag = m.tag && h.done.isNone then { h with port := p, didx := m.didx, drop := false } else h) } }

/-- A request is accepted: it is held, and its TAG enters the window of its source. -/
def State.accept (s : State) (p : Nat) (m : ReqMsg) : State :=
  let w := s.winOf m.src
  let s := s.putWin { w with tags := ((m.tag, none) :: w.tags).take 256 }
  { s with line := { s.line with held := s.line.held ++ [({ side := p, req := m, port := p, didx := m.didx } : HeldReq)] } }

/-- A request that a tile can act on (R276): its operation is one of the four, and a broadcast is a write. -/
def ReqMsg.valid (m : ReqMsg) : Bool := m.op != 0 && m.op ≤ 4 && (m.stop != 255 || m.op == 2 || m.op == 3)

/-- REQ arrives at a tile on port `p` (R269, R281, R282). -/
def State.reqAt (s : State) (p : Nat) (m : ReqMsg) : State :=
  let own := s.ownStop p
  if s.role != .tile || !s.portActive p || !s.works (B.lne p) || own = 0 || !hitsStop m.stop own || !m.valid then s
  else
    let s := match (s.winOf m.src).tags.find? (fun e => e.1 == m.tag) with
      | some e => s.repeatOf p m e.2
      | none =>
        if 64 ≤ s.heldOf p then
          (s.count (if p = 0 then R.QUE.ACC_DROP.U else R.QUE.ACC_DROP.D)).ev B.que Ev.QUE.ACC_DROP
        else s.accept p m
    s.showHeld

/-! ### Executing a request (R276) -/

/-- Pages that a unit in safe mode serves to line requests: IDN, RCK, PWR, HKT, CAL, FWU, SVP, LNK, LNL and LNE (R535). -/
def safePage (a : Nat) : Bool :=
  match pageAt a with
  | some (k, _) => ([.idn, .rck, .pwr, .hkt, .cal, .fwu, .svp, .lnk, .lnl, .lne] : List PageKind).contains k
  | none => false

/-- A line request to `a` that safe mode denies. -/
def State.safeDenied (s : State) (g : Agent) (a : Nat) : Bool :=
  s.on R.FWU.FWU_STAT.SAFE && !safePage a && (match g with | .line _ => true | _ => false)

/-- What a read brings to a request: a poisoned word that it meets is 0 and is recorded. R434 says so of a tile's line transaction; a
request of a queue or of the service path to STOP 0 is read alike (log entry 127). -/
def State.readFor (s : State) (a : Nat) (r : Rd) : State × Nat × Bool :=
  if r.poison then (s.poison (pageOf a) 0 a, 0, r.refused) else (s, r.v, r.refused)

/-- A word read for a request: the state, its value, and whether it was refused. -/
def State.wordRead (s : State) (g : Agent) (a : Nat) : State × Nat × Bool :=
  let a := a % 2 ^ 25
  if s.safeDenied g a then (s, 0, true) else let r := s.readAt g a 4; r.st.readFor a r

/-- The old word of a masked write: reading it clears no RC field. -/
def State.wordPeek (s : State) (g : Agent) (a : Nat) : State × Nat × Bool :=
  let a := a % 2 ^ 25
  if s.safeDenied g a then (s, 0, true)
  else let r := s.readAt g a 4; if r.refused then (r.st, 0, true) else s.readFor a r

/-- A word written for a request. -/
def State.wordWrite (s : State) (g : Agent) (a v : Nat) : State × Bool :=
  let a := a % 2 ^ 25
  if s.safeDenied g a then (s, true) else s.writeAt g a 4 v

/-- Read `n` words: none after a refused one is read, and those read as 0. -/
def State.wordsRead (s : State) (g : Agent) (a : Nat) : Nat → State × List Nat × Bool
  | 0 => (s, [], false)
  | n + 1 =>
    match s.wordRead g a with
    | (s, _, true) => (s, List.replicate (n + 1) 0, true)
    | (s, v, false) => let (s, l, b) := State.wordsRead s g (a + 4) n; (s, v :: l, b)

/-- Write words: none after a refused one. -/
def State.wordsWrite (s : State) (g : Agent) (a : Nat) : List Nat → State × Bool
  | [] => (s, false)
  | v :: r =>
    match s.wordWrite g a v with
    | (s, true) => (s, true)
    | (s, false) => State.wordsWrite s g (a + 4) r

/-- One masked write, as one step (R276). -/
def State.maskedWrite (s : State) (g : Agent) (a mask v : Nat) : State × Bool :=
  match s.wordPeek g a with
  | (s, _, true) => (s, true)
  | (s, old, false) => s.wordWrite g a ((old &&& (2 ^ 32 - 1 - mask % 2 ^ 32)) ||| (v &&& mask))

/-- Execute a request: the state, its status (Table 9-6) and the data read. -/
def State.perform (s : State) (g : Agent) (m : ReqMsg) : State × Nat × List Nat :=
  let st (b : Bool) : Nat := if b then 2 else 0
  if m.op = 1 then let (s, l, b) := s.wordsRead g m.loc m.count; (s, st b, l)
  else if m.op = 2 then let (s, b) := s.wordsWrite g m.loc (m.data.take m.count); (s, st b, [])
  else if m.op = 3 then let (s, b) := s.maskedWrite g m.loc m.mask (m.data.headD 0); (s, st b, [])
  else (s, 0, [])

/-- The completion of a request enters the window of its source. -/
def State.cacheRsp (s : State) (m : ReqMsg) (r : RspMsg) : State :=
  { s with line := { s.line with wins := s.line.wins.map (fun (w : DupWin) =>
      if w.src = m.src then { w with tags := w.tags.map (fun e => if e.1 = m.tag then (e.1, some r) else e) } else w) } }

/-- A word written for a request waits while SCN copies the Timetable: one of the staged half, and one that writes 1 to COMMIT (R278,
R347). -/
def State.stallsAt (s : State) (a v : Nat) : Bool :=
  s.on R.SCN.TT_STAT.SYNCING && ((0x1000000 ≤ a % 2 ^ 25 && a % 2 ^ 25 < 0x1080000) || (a % 2 ^ 25 == B.scn + 8 && bitAt v 2))

/-- The first word of a request, from word `k` on, that waits. -/
def State.stallsIn (s : State) (m : ReqMsg) (k : Nat) : Option Nat :=
  if m.op = 2 then ((List.range m.count).drop k).find? (fun i => s.stallsAt (m.loc + 4 * i) (m.data.getD i 0))
  else if m.op = 3 then (if s.stallsAt m.loc (m.data.headD 0 &&& m.mask) then some 0 else none)
  else none

/-- What is left of a request of which `k` words have been executed. -/
def ReqMsg.after (m : ReqMsg) (k : Nat) : ReqMsg :=
  if k = 0 then m else { m with loc := m.loc + 4 * k, count := m.count - k, data := m.data.drop k }

/-- The oldest request held is complete: its completion enters the window and its response goes out (R278, R282). -/
def State.finishReq (s : State) (status : Nat) (data : List Nat) : State :=
  match s.line.held with
  | [] => s
  | h :: rest =>
    let r : RspMsg := { status := status, count := h.req.count, stop := 0, cached := false, src := h.req.src
                        tag := h.req.tag, didx := 0, loc := h.req.loc, data := data }
    let s := ({ s with line := { s.line with held := rest } }).cacheRsp h.req r
    (if h.drop then s else s.respond h.port h.req h.didx r).releaseDone.showHeld

/-- The oldest request has been executed up to word `k`, which waits. -/
def State.heldAt (s : State) (k : Nat) : State :=
  match s.line.held with
  | [] => s
  | h :: rest => { s with line := { s.line with held := { h with next := k } :: rest } }

/-- READ, WRITE, WRITE_MASKED, PING at a tile: the oldest request held is executed when it has the operation `op`, and its
response goes out (R278). Where a word waits, the request stays held and goes on with a later command of its operation. -/
def State.executeReq (s : State) (op : Nat) : State :=
  match s.line.held with
  | [] => s
  | h :: _ =>
    if h.req.op != op || s.role != .tile then s
    else
      let g := Agent.line (h.req.src % 32)
      match s.stallsIn h.req h.next with
      | some k =>
        let (t, refused) := s.wordsWrite g (h.req.loc + 4 * h.next) ((h.req.data.take k).drop h.next)
        if refused then t.finishReq 2 [] else t.heldAt k
      | none =>
        let (t, status, data) := s.perform g (h.req.after h.next)
        t.finishReq status data

/-! ### Transactions at a sender (R279) -/

/-- RSP arrives at a sender. -/
def State.rspAt (s : State) (p : Nat) (r : RspMsg) : State :=
  if s.role != .sender || !s.portActive p || r.src / 32 != s.get (R.LNE.LINE_ID.ID p) then s
  else match (s.lineTx p).txns.find? (fun t => t.req.didx == r.didx) with
    | some t => (s.txnDone p t r.status (if t.req.op = 1 then r.data else [])).pump p
    | none => s.count (R.LNE.LATE_RSP.COUNT p)

/-- TXN_TIMEOUT of the transaction with `didx`. -/
def State.txnTimeout (s : State) (p didx : Nat) : State :=
  match (s.lineTx p).txns.find? (fun t => t.req.didx == didx) with
  | some t => s.txnExpire p t
  | none => s

/-- CREDIT_RELEASE of a transaction that timed out. -/
def State.creditRelease (s : State) (p didx : Nat) : State :=
  let x := s.lineTx p
  (s.setLineTx p { x with held := x.held.filter (fun h => h.1 != didx) }).pump p

/-! ### SVC (R286, R547 to R550) -/

/-- The tile acknowledges. -/
def State.svcReply (s : State) (p status session ack : Nat) : State :=
  s.send p (.svcAck ⟨status, s.ownStop p, session, ack⟩)

/-- A session opens at the receiving end. -/
def State.takeIn (s : State) (x : SvcIn) : State :=
  ({ s with line := { s.line with svcIn := some x } }).count R.SVP.SVC_SEG.COUNT

/-- SEQ 0 at a tile: it opens a session, or is turned away (R548, R549). -/
def State.svcOpen (s : State) (p : Nat) (m : SvcMsg) : State :=
  let purpose := leNat (m.data.take 1)
  let slot := leNat ((m.data.drop 1).take 1)
  let total := leNat ((m.data.drop 4).take 4)
  let x : SvcIn := ⟨p, m.session, 0, purpose, slot, total, [], false, 0, []⟩
  if s.line.svcIn.isSome || s.get R.FWU.SESSION.PURPOSE != 0 then s.svcReply p 1 m.session 0
  else if purpose = 1 then
    let (s, st) := s.openSlot slot total m.session
    if st = 0 then (s.takeIn x).svcReply p 0 m.session 0 else s.svcReply p (if st = Svc.busy then 1 else 2) m.session 0
  else if purpose = 4 && 16 ≤ slot && slot < 24 then
    let s := ((s.set R.FWU.SESSION.PURPOSE 4).set R.FWU.SESSION.SLOT slot).set R.FWU.SESSION.ID m.session
    (((s.set R.FWU.SESS_BYTES.BYTES 0).takeIn x).svcReply p 0 m.session 0).mbxRelay
  else s.svcReply p 2 m.session 0

/-- The bytes of an accepted segment. -/
def State.svcTake (s : State) (x : SvcIn) (l : List Byte) : State × SvcIn :=
  if x.purpose = 1 then (s.writeSlot l, x)
  else
    let s := s.set R.FWU.SESS_BYTES.BYTES (s.get R.FWU.SESS_BYTES.BYTES + l.length)
    let part := x.part ++ l
    if part.length < 64 then (s, { x with part := part })
    else (s.mbxPut x.slot 0 (msgWords part) false, { x with part := part.drop 64 })

/-- A later segment of the open session; `full`: it does not fit the staging buffer now. -/
def State.svcNext (s : State) (p : Nat) (x : SvcIn) (m : SvcMsg) (full : Bool) : State :=
  let away := s.count R.SVP.SVC_DISC.COUNT
  if m.seq != (x.seq + 1) % 65536 || x.closed then away.svcReply p 0 x.session x.seq
  else if x.purpose = 1 && x.total < s.get R.FWU.SESS_BYTES.BYTES + m.data.length then away.svcReply p 2 x.session x.seq
  else if full || (x.purpose != 1 && 64 ≤ x.part.length + m.data.length && 4 ≤ (s.chan x.slot).toB.length) then away
  else
    let (s, x) := (s.count R.SVP.SVC_SEG.COUNT).svcTake x m.data
    let x := { x with seq := m.seq, closed := m.last }
    let s := { s with line := { s.line with svcIn := some x } }
    let s := if !m.last then s else if x.purpose = 1 then s.closeSlot else (s.endSession false)
    let s := if m.last && x.purpose != 1 then { s with line := { s.line with svcIn := none } } else s
    (s.svcReply p 0 x.session m.seq).mbxRelay

/-- SVC at a tile. -/
def State.svcTile (s : State) (p : Nat) (m : SvcMsg) (full : Bool) : State :=
  if s.ownStop p = 0 || m.stop != s.ownStop p then s
  else match s.line.svcIn with
    | some x =>
      if x.session = m.session && x.port = p then s.svcNext p x m full
      else if m.seq = 0 then s.svcOpen p m else s.count R.SVP.SVC_DISC.COUNT
    | none => if m.seq = 0 then s.svcOpen p m else s.count R.SVP.SVC_DISC.COUNT

/-- SVC at a sender: a segment that a mailbox session returns. -/
def State.svcSender (s : State) (p : Nat) (m : SvcMsg) : State :=
  match s.session p m.stop with
  | none => s
  | some v =>
    if v.session != m.session || v.purpose != 4 then s
    else
      let next := match v.rxSeq with | some q => (q + 1) % 65536 | none => 0
      if m.seq != next then
        match v.rxSeq with | some q => s.send p (.svcAck ⟨0, m.stop, v.session, q⟩) | none => s
      else (s.setSession p { v with rx := v.rx ++ m.data, rxSeq := some m.seq }).send p (.svcAck ⟨0, m.stop, v.session, m.seq⟩)

/-- SVC arrives on port `p`. -/
def State.svcAt (s : State) (p : Nat) (m : SvcMsg) (full : Bool) : State :=
  if !s.portActive p then s
  else match s.role with
    | .tile => s.svcTile p m full
    | .sender => s.svcSender p m

/-- The oldest message that a mailbox session has brought back: the session after it, and the message. -/
def SvcOut.take (v : SvcOut) : SvcOut × Option (List Byte) :=
  if v.rx.length < 64 then (v, none) else ({ v with rx := v.rx.drop 64 }, some (v.rx.take 64))

/-- The datagram that opened a session is answered with `st`. -/
def State.answerOpen (s : State) (p : Nat) (v : SvcOut) (st : Nat) : State :=
  match v.wait with
  | none => s
  | some (c, tag, op) =>
    let s := s.setSession p { v with wait := none }
    if op = 0x20 && st = 0 then s.reply c op tag Svc.empty [] else s.reply c op tag st []

/-- A segment at or before `ack`, in the order of sequence numbers. -/
def acked (ack q : Nat) : Bool := (ack + 65536 - q) % 65536 < 32768

/-- SVC_ACK at a sender. -/
def State.ackSender (s : State) (p : Nat) (a : SvcAck) : State :=
  match s.session p a.stop with
  | none => s
  | some v =>
    if v.session != a.session then s
    else if a.status = 1 || a.status = 2 then
      let st := if a.status = 1 then Svc.busy else Svc.refused
      (s.answerOpen p v st).endOut p v.stop
    else if a.status = 3 || a.status = 4 then s.endOut p v.stop
    else
      let left := v.segs.filter (fun g => !acked a.ack g.seq)
      let done := v.closing && v.purpose == 4 && left == [] && v.segs.any (·.last)
      let v := { v with segs := left, acked := some a.ack }
      let s := (s.setSession p v).answerOpen p v 0
      if done then s.endOut p v.stop else s.pumpSession p v.stop 32

/-- SVC_ACK at a tile, for the segments of its mailbox session. -/
def State.ackTile (s : State) (p : Nat) (a : SvcAck) : State :=
  match s.line.svcIn with
  | none => s
  | some x =>
    if x.session != a.session || x.port != p || a.stop != s.ownStop p then s
    else ({ s with line := { s.line with svcIn := some { x with segs := x.segs.filter (fun g => !acked a.ack g.seq) } } }).mbxRelay

/-- SVC_ACK arrives on port `p`. -/
def State.svcAckAt (s : State) (p : Nat) (a : SvcAck) : State :=
  if !s.portActive p then s else match s.role with | .tile => s.ackTile p a | .sender => s.ackSender p a

/-- Segments go out at port `p`, oldest first. -/
def State.sendSegs (s : State) (l : List SvcMsg) (p : Nat) : State := l.foldl (fun (s : State) g => s.send p (.svc g)) s

/-- SVC_RESEND: every segment of the session with stop `k` from ACK_SEQ + 1 on goes out again. -/
def State.svcResend (s : State) (p k : Nat) : State :=
  match s.role with
  | .sender => match s.session p k with | some v => s.sendSegs v.segs p | none => s
  | .tile => match s.line.svcIn with | some x => s.sendSegs x.segs x.port | none => s

/-! ### Commands -/

/-- LINK_STATE (R254). -/
def execLinkState (p : Nat) (m : LinkStateMsg) (t : Nat) (s : State) : Host.Outcome State Fault Refusal :=
  run (fun s => (s.tick t).linkState (p % 2) m) s

/-- ENUM_START (R266). -/
def execEnumStart (p t : Nat) (s : State) : Host.Outcome State Fault Refusal := run (fun s => (s.tick t).enumStart (p % 2)) s

/-- ENUM (R267). -/
def execEnumMsg (p : Nat) (m : EnumMsg) (t : Nat) (s : State) : Host.Outcome State Fault Refusal :=
  run (fun s => (s.tick t).enumAt (p % 2) m) s

/-- ENUM_RSP (R268). -/
def execEnumRsp (p : Nat) (m : EnumRsp) (t : Nat) (s : State) : Host.Outcome State Fault Refusal :=
  run (fun s => (s.tick t).enumRspAt (p % 2) m) s

/-- ENUM_TIMEOUT (R268). -/
def execEnumTimeout (p t : Nat) (s : State) : Host.Outcome State Fault Refusal := run (fun s => (s.tick t).enumTimeout (p % 2)) s

/-- REQ (R281, R282). -/
def execReq (p : Nat) (m : ReqMsg) (t : Nat) (s : State) : Host.Outcome State Fault Refusal :=
  run (fun s => (s.tick t).reqAt (p % 2) m) s

/-- READ (R276). -/
def execReadTxn (t : Nat) (s : State) : Host.Outcome State Fault Refusal := run (fun s => (s.tick t).executeReq 1) s

/-- WRITE (R276). -/
def execWriteTxn (t : Nat) (s : State) : Host.Outcome State Fault Refusal := run (fun s => (s.tick t).executeReq 2) s

/-- WRITE_MASKED (R276). -/
def execWriteMasked (t : Nat) (s : State) : Host.Outcome State Fault Refusal := run (fun s => (s.tick t).executeReq 3) s

/-- PING (R276). -/
def execPing (t : Nat) (s : State) : Host.Outcome State Fault Refusal := run (fun s => (s.tick t).executeReq 4) s

/-- RSP (R279). -/
def execRsp (p : Nat) (m : RspMsg) (t : Nat) (s : State) : Host.Outcome State Fault Refusal :=
  run (fun s => (s.tick t).rspAt (p % 2) m) s

/-- TXN_TIMEOUT (R279). -/
def execTxnTimeout (p didx t : Nat) (s : State) : Host.Outcome State Fault Refusal :=
  run (fun s => (s.tick t).txnTimeout (p % 2) didx) s

/-- CREDIT_RELEASE (R279). -/
def execCreditRelease (p didx t : Nat) (s : State) : Host.Outcome State Fault Refusal :=
  run (fun s => (s.tick t).creditRelease (p % 2) didx) s

/-- SVC (R286). -/
def execSvc (p : Nat) (m : SvcMsg) (full : Bool) (t : Nat) (s : State) : Host.Outcome State Fault Refusal :=
  run (fun s => (s.tick t).svcAt (p % 2) m full) s

/-- SVC_ACK (R286). -/
def execSvcAck (p : Nat) (m : SvcAck) (t : Nat) (s : State) : Host.Outcome State Fault Refusal :=
  run (fun s => (s.tick t).svcAckAt (p % 2) m) s

/-- SVC_RESEND (R286). -/
def execSvcResend (p k t : Nat) (s : State) : Host.Outcome State Fault Refusal :=
  run (fun s => (s.tick t).svcResend (p % 2) k) s

end Sys2Proof.Machine
end

