-- ==== Sys2Proof/Machine/Mirror.lean ====
section
/-!
DEFINITION. Mirror records at a relief (R477 to R479): each SEQ once and in order, and what a record changes.
-/
namespace Sys2Proof.Machine

/-- A mirrored word, applied as a software write (R478). A word of PG_CTRL brings EN, FREEZE and CGRP; commits have records
of their own. -/
def State.mirrorWord (s : State) (a v : Nat) : State :=
  let b := a / 0x1000 * 0x1000
  if (pageAt a).isSome && a % 0x1000 = 8 then
    let s := s.set (R.PG.CGRP b) (bitsOf v 8 4)
    let s := if bitsOf v 3 1 = s.get (R.PG.FREEZE b) then s else s.writeFreeze b (bitsOf v 3 1)
    s.writeEn b (bitsOf v 0 1)
  else (s.writeAt (.mc true) a 4 v).1

/-- A board entry from the words of an ENTRY record. -/
def entryOf (time act arg : Nat) (ofs : Int) : Entry :=
  { time := time, action := bitsOf act 0 8, form := bitsOf act 8 1, lateOk := bitsOf act 9 1, arg := arg, ofs := ofs, state := .armed }

/-- Apply a record (Table 16-3). -/
def State.mirrorApply (s : State) (r : MirrorRec) : State :=
  match r with
  | .write loc data na nb =>
    ((data.foldl (fun (a : State × Nat) v => (a.1.mirrorWord a.2 (reliefWord a.2 v na nb), a.2 + 4)) (s.mirrorN loc na nb, loc))).1
  | .arm on loc => if on then s.commitArm (loc / 0x1000 * 0x1000) else s.commitDisarm (loc / 0x1000 * 0x1000)
  | .entry i time act arg ofs op =>
    if op = 1 then s.entWrite i (entryOf time act arg ofs) else if op = 3 then s.entCancel i else s
  | .frame part m groups epoch mfade lfades =>
    let s := if s.get R.RDN.RDN_STAT.STATE = 2 then s.setEpoch epoch else s
    let l := (lfades.mapIdx (fun j v => (8 * part + j, v))) ++ [(16, mfade)]
    let old := s.rdn.fades.filter (fun e => !l.any (fun n => n.1 == e.1))
    { s with rdn := { s.rdn with frameRec := some (m, groups), fades := old ++ l } }
  | .imageStart _ => { s with rdn := { s.rdn with image := [], imageEnd := none } }
  | .image loc data na nb =>
    let l := data.mapIdx (fun i v => reliefWord (loc + 4 * i) v na nb)
    { (s.mirrorN loc na nb) with rdn := { s.rdn with image := s.rdn.image ++ [(loc, l)] } }
  | .imageEnd d => { s with rdn := { s.rdn with imageEnd := some d } }

/-- Apply the record with SEQ `q`. -/
def State.mirrorTake (s : State) (q : Nat) (r : MirrorRec) : State :=
  let s := (s.mirrorApply r).set R.RDN.MIRROR_SEQ.RX q
  { s with rdn := { s.rdn with nextSeq := some ((q + 1) % 65536) } }

/-- Records that came early and are now due, at most `n`. -/
def State.mirrorDrain (s : State) : Nat → State
  | 0 => s
  | n + 1 =>
    match s.rdn.nextSeq with
    | none => s
    | some q =>
      match s.rdn.early.find? (fun e => e.1 == q) with
      | none => s
      | some e =>
        let s := { s with rdn := { s.rdn with early := s.rdn.early.filter (fun x => x.1 != q) } }
        State.mirrorDrain (s.mirrorTake q e.2) n

/-- This sender takes mirror records: a relief in SYNCING or READY. -/
def State.isRelief (s : State) : Bool :=
  s.role == .sender && s.dual && s.works B.rdn && (s.get R.RDN.RDN_STAT.STATE == 2 || s.get R.RDN.RDN_STAT.STATE == 3)

/-- MIRROR arrives on port `p`: the first copy of each SEQ is applied in the order of SEQ, the second is discarded. -/
def State.mirrorAt (s : State) (p : Nat) (m : MirrorMsg) : State :=
  if !s.isRelief || !s.portActive p then s
  else
    let next := s.rdn.nextSeq.getD m.seq
    let ahead := (m.seq + 65536 - next) % 65536
    if ahead = 0 then (s.mirrorTake m.seq m.body).mirrorDrain s.rdn.early.length
    else if ahead < 32768 && !s.rdn.early.any (fun e => e.1 == m.seq) then
      { s with rdn := { s.rdn with early := s.rdn.early ++ [(m.seq, m.body)] } }
    else s

/-- MIRROR_GAP: a SEQ before one that has come is missing for 1 ms. READY is left with SYNC_LOST; a relief that is SYNCING
takes the sequence up anew. -/
def State.mirrorGap (s : State) : State :=
  if !s.isRelief || s.rdn.early == [] then s
  else
    let s := s.count R.RDN.MIRROR_GAP.COUNT
    if s.get R.RDN.RDN_STAT.STATE = 3 then s.syncLost
    else { s with rdn := { s.rdn with nextSeq := none, early := [], image := [], imageEnd := none } }

/-! ### Commands -/

/-- MIRROR (R478). -/
def execMirrorRecord (p : Nat) (m : MirrorMsg) (t : Nat) (s : State) : Host.Outcome State Fault Refusal :=
  run (fun s => (s.tick t).mirrorAt (p % 2) m) s

/-- MIRROR_GAP (R478). -/
def execMirrorGap (t : Nat) (s : State) : Host.Outcome State Fault Refusal := run (fun s => (s.tick t).mirrorGap) s

end Sys2Proof.Machine
end

