-- ==== Sys2Proof/Machine/Receive.lean ====
section
/-!
DEFINITION. The receiver of a Tybel port (R219 to R221, R235 to R247): codewords, alignment markers, groups and what is
forwarded of them, acknowledgement and replay.
-/
namespace Sys2Proof.Machine

/-! ### Codewords (R216 to R220, R248) -/

/-- The pairs in which two words of `n` pairs differ. -/
def pairErrors : Nat → Nat → Nat → Nat
  | 0, _, _ => 0
  | n + 1, a, b => (if a % 4 = b % 4 then 0 else 1) + pairErrors n (a / 4) (b / 4)

/-- A codeword that was corrected or could not be. -/
def State.countFec (s : State) (l got : Nat) (d : Option Nat) : State :=
  match d with
  | some w => if w = got then s else s.count (R.LNL.FEC_CORR.COUNT l)
  | none => s.draw.count (R.LNL.FEC_UNCORR.COUNT l)

/-- `bad` wrong symbols of a codeword. -/
def State.countSer (s : State) (l bad : Nat) : State :=
  let x := s.lane l
  let n := x.ser.1 + 340
  let e := x.ser.2 + bad
  if n < 2 ^ 30 then s.setLane l { x with ser := (n, e) }
  else (s.setLane l { x with ser := (n - 2 ^ 30, 0) }).set (R.LNL.SER_CNT.COUNT l) (min e 0xFFFFFFFF)

/-- Count a received codeword: FEC_CORR, FEC_UNCORR, and symbol errors in windows of 2^30 symbols (Table 8-19). How many symbols of an
uncorrectable codeword are wrong is a free value. -/
def State.countWord (s : State) (l got : Nat) (d : Option Nat) : State :=
  (s.countFec l got d).countSer l (match d with | some w => pairErrors 340 got w | none => 3 + Config.choice s.fresh % 338)


/-- A codeword of 5 flits: it is descrambled, and a fourth uncorrectable one within 2 µs is a lane fault (R218, R219, R248). -/
def State.takeData (s : State) (l w : Nat) (bad : Bool) : State :=
  let x := s.lane l
  let (d, st) := scramble x.rxScr (w % 2 ^ 640)
  let unc := if bad then s.frc :: x.unc.filter (fun a => s.frc - a ≤ 3000) else x.unc
  let s := s.setLane l { x with
    rxScr := st, rxCount := x.rxCount + 1, unc := unc
    rxFlits := x.rxFlits ++ (List.range 5).map (fun j => (bitsOf d (128 * j) 128, bad)) }
  if bad && 4 ≤ unc.length then s.laneFault l else s

/-- An AM slot on other lanes than those in service comes while a width change is under way: the peer has both sent and received WREQ,
and its new lanes follow from the slot (R249, log entry 98). -/
def State.peerMoved (s : State) (p w : Nat) : State :=
  let x := s.port p
  let mask := bitsOf (symbolAt w 8) 6 4
  if x.wTx.isSome && x.wRx.isNone && mask != laneSet (s.inService p) then
    (s.setPort p { x with wRx := some mask }).widthSwitch p
  else s

/-- A codeword where an alignment marker is due (Table 8-2): the slot ends with its last codeword; a slot that is missing or wrong is
counted and is a lane fault, and one with another port lane number fails the lane (R213, R248). -/
def State.takeAm (s : State) (l w logical : Nat) : State :=
  let x := s.lane l
  let left := match x.rxAm with | some n => n - 1 | none => bitsOf (symbolAt w 9) 3 3 - 1 - bitsOf (symbolAt w 9) 0 3
  if !isAmWord w then
    if x.rxCount = rxHunt then s else (s.count (R.LNL.AM_ERR.COUNT l)).laneFault l
  else if bitsOf (symbolAt w 8) 0 2 != laneIdx l then (s.count (R.LNL.AM_ERR.COUNT l)).laneWrong l 4
  else if left = 0 then s.setLane l { x with rxAm := none, rxCount := 0, rxScr := scrambleSeed logical }
  else s.setLane l { x with rxAm := some left, rxCount := 16384 }

/-- The levels of one codeword arrive on port lane `k` of port `p`; the receiver of a lane in service works from LOCK on. -/
def State.takeWord (s : State) (p k levels : Nat) : State :=
  let l := physLane p k
  match (s.inService p).findIdx? (· == k) with
  | none => s
  | some logical =>
    let locks := s.stage p = Stage.lock && s.laneState l = LaneS.lock
    if !locks && (s.laneState l != LaneS.inService || (s.stage p != Stage.capx && s.stage p != Stage.active)) then s
    else
      let x := s.lane l
      let v := if s.on (R.LNL.LANE_STAT.RX_INVERTED l) then mirrorPairs 340 levels else levels % 2 ^ 680
      let (v, y) := if s.on (R.LNL.LANE_STAT.PRE_RX l) then unprecode 340 x.rxY v else (v, x.rxY)
      let got := grayPairs 340 v
      let d := rsDecode got
      let s := (s.setLane l { x with rxY := y }).countWord l got d
      let w := d.getD got
      if (s.port p).wTx.isSome && isAmWord w then
        let s := s.peerMoved p w
        if (s.inService p).contains k then s.takeAm l w ((s.inService p).findIdx (· == k)) else s
      else if x.rxAm.isSome || 16384 ≤ x.rxCount then s.takeAm l w logical
      else s.takeData l w d.isNone

/-! ### Acknowledgement and replay (R242, R244, R246) -/

/-- The codes of MAP (Table 8-10). -/
def mapCodes (hdr : Nat) : List Nat := (List.range 31).map (fun k => bitsOf hdr (56 + 2 * k) 2)

/-- REPLAY_EXHAUSTED (R246). -/
def State.exhausted (s : State) (p seq : Nat) : State :=
  ((s.ev (B.lnk p) Ev.LNK.REPLAY_EXHAUSTED).err (B.lnk p) 0x12 0 seq).linkDown p

/-- Replay from group `seq`, or give up when it has been replayed MAX times or is 20 µs old. -/
def State.replay (s : State) (p seq : Nat) : State :=
  match (s.port p).sent.find? (fun g => g.seq == seq % 4096) with
  | none => s
  | some g =>
    if clampN 1 8 (s.get (R.LNK.REPLAY_CFG.MAX p)) ≤ g.replays || 30000 ≤ s.frc - g.at_ then s.exhausted p g.seq
    else s.replayFrom p g.seq

/-- REPLAY_CFG.TMO in cycles. -/
def State.replayTmo (s : State) (p : Nat) : Nat := 15 * clampN 50 250 (s.get (R.LNK.REPLAY_CFG.TMO p))

/-- REPLAY_TIMEOUT: the oldest group not acknowledged has waited REPLAY_CFG.TMO since it was last sent, or 20 µs since it was first
sent (R244, R246). -/
def State.replayTimeout (s : State) (p : Nat) : State :=
  match (s.port p).sent with
  | [] => s
  | g :: _ =>
    let due := s.replayTmo p ≤ s.frc - g.last || 30000 ≤ s.frc - g.at_
    if (s.stage p = Stage.capx || s.stage p = Stage.active) && due then s.replay p g.seq else s

/-- ACK and NAK of a header that checks (R244). -/
def State.takeAck (s : State) (p hdr : Nat) : State :=
  let ack := bitsOf hdr 12 12
  let s := if bitAt hdr 24 then
      let x := s.port p
      s.setPort p { x with sent := x.sent.filter (fun g => (ack + 4096 - g.seq) % 4096 ≥ 2048) }
    else s
  if bitAt hdr 25 then s.replay p ((ack + 1) % 4096) else s

/-- WREQ of a header that came in a good codeword (R249): a group that a faulted lane breaks still brings it (log entry 98). -/
def State.takeWreq (s : State) (p hdr : Nat) : State :=
  if bitAt hdr 26 && s.portActive p && s.liveWidth p && !s.frozen (B.lnk p) then
    let x := s.port p
    let s := s.setPort p { x with wRx := some (bitsOf hdr 27 4) }
    if x.wTx.isSome then s.widthSwitch p else s.startWidth p
  else s

/-- The receiver asks for a replay in the next header, once for each E until REPLAY_TMO passes (R242). -/
def State.sendNak (s : State) (p : Nat) : State :=
  let x := s.port p
  if x.nakAt.any (fun a => s.frc - a < s.replayTmo p) then s
  else (s.setPort p { x with nakAt := some s.frc, nakDue := true }).lnkCount p (R.LNK.NAK_TX.COUNT p) 1

/-- The TYPE of the message each control flit belongs to, 0 for other flits, and the message still open at the end. -/
def flitTypes (open_ : Nat × Nat) (cf : List (Nat × Nat)) : List Nat × (Nat × Nat) :=
  cf.foldl (fun (a : List Nat × (Nat × Nat)) e =>
    if e.1 = 2 then (a.1 ++ [bitsOf e.2 0 4], (bitsOf e.2 0 4, 3))
    else if e.1 = 3 then (a.1 ++ [if a.2.2 = 0 then 0 else a.2.1], (a.2.1, a.2.2 - 1))
    else (a.1 ++ [0], a.2)) ([], open_)

/-! ### Forwarding (R238, R243, R247, R264) -/

/-- Types whose slots a tile forwards as IDLE: the link-local ones (Table 9-1). -/
def idleTypes : List Nat := [3, 5, 9, 10]

/-- The slots of a group as a tile forwards them: link-local messages as IDLE, and marked where the group was discarded. -/
def forwardSlots (codes flits types : List Nat) (bad : Bool) : List FwdSlot :=
  (codes.zip (flits.zip types)).map (fun e =>
    if e.1 = 0 || (2 ≤ e.1 && idleTypes.contains e.2.2) then { bad := bad } else { code := e.1, flit := e.2.1, type := e.2.2, bad := bad })

/-- A message of a reserved type or of a VER above 1 is counted (R264). -/
def State.unknown (s : State) (p : Nat) (codes flits : List Nat) : State :=
  let n := ((codes.zip flits).filter (fun e => e.1 == 2 &&
    (bitsOf e.2 0 4 == 0 || bitsOf e.2 0 4 == 15 || 1 < bitsOf e.2 4 4))).length
  s.count (R.LNE.MSG_UNKNOWN.COUNT p) n

/-- Video has come in at port `p`. -/
def State.videoSeen (s : State) (p : Nat) : State :=
  { s with que := { s.que with video := s.que.video.mapIdx (fun i v => if i = p || (s.role == .tile) then some s.frc else v) } }

/-! ### Groups (R235, R236, R242) -/

/-- The receiver after a group: the map of the next one where this one was readable, and the sequence where accepted. -/
def PortSt.afterGroup (x : PortSt) (hdr : Nat) (readable accept : Bool) (openMsg : Nat × Nat) : PortSt :=
  { x with
    codes := if readable then mapCodes hdr else List.replicate 31 0
    expect := if accept then (x.expect + 1) % 4096 else x.expect, got := x.got || accept
    nakAt := if accept then none else x.nakAt, nakDue := x.nakDue && !accept
    openMsg := if accept then openMsg else x.openMsg }

/-- A group in LOCK brings the codes of the next one only: acceptance and replay run from CAPX (R232). -/
def State.groupInLock (s : State) (p hdr : Nat) (flits : List Nat) (next : Nat) (uncorr : Bool) : State :=
  let x := s.port p
  let good := !uncorr && bitsOf next 32 24 == crc24 hdr flits
  s.setPort p { x with codes := if good then mapCodes hdr else List.replicate 31 0 }

/-- A group of which the header of the next one has come: header and data flits of group g, the header of g + 1, whether a flit of g
came in an uncorrectable codeword, and whether its header did. -/
def State.group (s : State) (p hdr : Nat) (flits : List Nat) (next : Nat) (uncorr lost : Bool) : State :=
  let codes := (s.port p).codes
  let crc := crc24 hdr flits
  let good := !uncorr && bitsOf next 32 24 == crc
  let stomped := !uncorr && bitsOf next 32 24 == 0xFFFFFF - crc
  let seq := bitsOf hdr 0 12
  -- the first good group of a bring-up gives E (log entry 98)
  let x := if good && !(s.port p).synced then { s.port p with synced := true, expect := seq } else s.port p
  let accept := good && seq == x.expect
  let dup := good && !accept && (x.expect + 4096 - seq) % 4096 ≤ 2048
  let video := codes.contains 1
  let (types, openMsg) := flitTypes x.openMsg (codes.zip flits)
  let s := s.setPort p (x.afterGroup hdr (good || stomped) accept openMsg)
  let s := if video then s.videoSeen p else s
  let s := if stomped then s.lnkCount p (R.LNK.STOMP_RX.COUNT p) 1 else s
  let s := if stomped && video then s.streamFail p 4 else s
  let s := if good || stomped then s else (s.lnkCount p (R.LNK.CRC_ERR.COUNT p) 1).sendNak p
  let s := if good && !accept && !dup then s.sendNak p else s
  let s := if accept then s.unknown p codes flits else s
  let s := if s.forwards then s.fwdPush (1 - p) (forwardSlots codes flits types (!accept)) else s
  let s := if good then s.takeAck p hdr else s
  let s := if lost then s else s.takeWreq p hdr
  s.txTurn (if s.forwards then 1 - p else p) (s.inService p).length

/-- A whole group and the header of the next one have come on the lanes in service (R235); a lane that a fault has taken out of service
brings nothing, and its flits count as uncorrectable. -/
def State.rxReady (s : State) (p : Nat) : Bool :=
  let l := s.inService p
  let works := l.zipIdx.filter (fun e =>
    s.laneState (physLane p e.1) == LaneS.inService || s.laneState (physLane p e.1) == LaneS.lock)
  works != [] && works.all (fun e => (33 - e.2 + l.length - 1) / l.length ≤ (s.lane (physLane p e.1)).rxFlits.length)

/-- Flit `i` of the group that waits at port `p`, flit 32 being the header of the next, and whether it came in an uncorrectable
codeword: flit i lies on logical lane i mod W (R235). -/
def State.rxFlit (s : State) (p i : Nat) : Nat × Bool :=
  let l := s.inService p
  (s.lane (physLane p (l.getD (i % l.length) 0))).rxFlits.getD (i / l.length) (0, true)

/-- The waiting group leaves the lanes. -/
def State.rxDrop32 (s : State) (p : Nat) : State :=
  (s.inService p).foldl (fun s k => s.setLane (physLane p k) { s.lane (physLane p k) with
    rxFlits := (s.lane (physLane p k)).rxFlits.drop (32 / (s.inService p).length) }) s

/-- Take a group off the lanes and check it. -/
def State.popGroup (s : State) (p : Nat) : State :=
  let flits := (List.range 31).map (fun i => (s.rxFlit p (i + 1)).1)
  let uncorr := (List.range 32).any (fun i => (s.rxFlit p i).2)
  if s.stage p = Stage.lock then (s.rxDrop32 p).groupInLock p (s.rxFlit p 0).1 flits (s.rxFlit p 32).1 uncorr
  else (s.rxDrop32 p).group p (s.rxFlit p 0).1 flits (s.rxFlit p 32).1 uncorr (s.rxFlit p 0).2

/-- Check every group that has come. -/
def State.rxGroups (s : State) (p : Nat) : State :=
  let n := ((List.range 4).map (fun k => (s.lane (physLane p k)).rxFlits.length)).foldl max 0
  s.forN (n / 8) (fun s _ => if s.rxReady p then s.popGroup p else s)

/-- GROUP: codewords arrive on the lanes of port `p`, in order on each, up to the header of the next group. -/
def State.groupWords (s : State) (p : Nat) (rx : List (Nat × Nat)) : State :=
  (rx.foldl (fun s e => s.takeWord p e.1 e.2) s).rxGroups p

/-! ### Commands -/

/-- GROUP (R242). -/
def execGroupHeader (p : Nat) (rx : List (Nat × Nat)) (t : Nat) (s : State) : Host.Outcome State Fault Refusal :=
  run (fun s => (s.tick t).groupWords p rx) s

/-- REPLAY_TIMEOUT (R244). -/
def execReplayTimeout (p t : Nat) (s : State) : Host.Outcome State Fault Refusal := run (fun s => (s.tick t).replayTimeout p) s

end Sys2Proof.Machine
end

