-- ==== Sys2Proof/Machine/Service.lean ====
section
/-!
DEFINITION. The service port of a sender (R544 to R550): its link, the frames it answers or discards, and the operations of
Table 18-5, at the sender itself and over the line.
-/
namespace Sys2Proof.Machine

/-! ### Frames (R544) -/

/-- The service port receives: a sender whose service link is up. -/
def State.svpUp (s : State) : Bool := s.role == .sender && s.works B.svp && s.on R.SVP.SVP_STAT.LINK_UP

/-- A frame is discarded. -/
def State.svpDrop (s : State) : State := (s.count R.SVP.RX_DROP.COUNT).ev B.svp Ev.SVP.DGRAM_DROP

/-- The datagram is addressed to the service port, from a permitted source. -/
def State.svpMine (s : State) (d : Dgram) : Bool :=
  let own := s.get R.SVP.SVP_IPV4.ADDR
  let allow := s.get R.SVP.SVP_ALLOW.ADDR
  (own == 0 || d.from_.at_ == own) && d.udp == s.get R.SVP.SVP_UDP.PORT && (allow == 0 || d.from_.ip == allow)

/-- Receive a datagram and act on it. -/
def State.svpTake (s : State) (d : Dgram) (act : State → State) : State :=
  if !s.svpUp then s
  else if s.svpMine d then act (s.count R.SVP.RX_DGRAM.COUNT) else s.svpDrop

/-- A request whose operands Table 18-5 does not allow: it changes nothing, and its status is left open. -/
def State.svpOpenStatus (s : State) (d : Dgram) (op : Nat) : State :=
  s.draw.reply d.from_ op d.seq (Config.choice s.fresh % 256) []

/-- SERVICE_FRAME: ARP for SVP_IPV4 is answered, an unknown OP is a BAD_OP, any other frame is discarded. -/
def State.serviceFrame (s : State) (f : SvpFrame) : State :=
  match f with
  | .arp ip =>
    if !s.svpUp then s
    else if ip = s.get R.SVP.SVP_IPV4.ADDR && ip != 0 then s.emit (.arp ip) else s.svpDrop
  | .unknown op d => s.svpTake d (fun s => s.reply d.from_ op d.seq Svc.badOp [])
  | .other => if s.svpUp then s.svpDrop else s

/-! ### Registers (Table 18-5) -/

/-- REG_READ (op 1) and REG_WRITE (op 2). -/
def State.serviceReg (s : State) (d : Dgram) (op : Nat) : State :=
  let m : ReqMsg := { op := op, count := d.count, stop := stopOf d.addr, relief := false, src := 0, tag := d.seq, didx := 0
                      loc := locOf d.addr, mask := 0, data := if op = 2 then (msgWords d.data).take d.count else [] }
  if d.count = 0 || 8 < d.count || (op = 2 && d.data.length < 4 * d.count) then s.svpOpenStatus d op
  else if s.badAddress d.addr op then s.reply d.from_ op d.seq 1 []
  else if m.stop = 0 then
    let (s, st, l) := s.perform .service m
    s.reply d.from_ op d.seq st ((l.map (toBytes 4)).foldl (· ++ ·) [])
  else s.request (portOf d.addr) m (.service d.from_ d.seq) 17

/-! ### Slots (R547 to R550) -/

/-- A stop that a session can be opened with. -/
def State.reaches (s : State) (addr : Nat) : Bool := !s.badAddress addr 2 && stopOf addr != 255

/-- SLOT_OPEN. -/
def State.slotOpen (s : State) (d : Dgram) : State :=
  let total := leNat (d.data.take 4)
  let p := portOf d.addr
  let k := stopOf d.addr
  if k = 0 then
    let (s, st) := s.openSlot d.slot total 0
    s.reply d.from_ 0x10 d.seq st []
  else if !s.reaches d.addr then s.reply d.from_ 0x10 d.seq 1 []
  else if (s.session p k).isSome then s.reply d.from_ 0x10 d.seq Svc.busy []
  else s.openOut p k 1 d.slot total [] (d.from_, d.seq, 0x10)

/-- SLOT_DATA at the sender itself; `full`: the staging buffer has no room for it. -/
def State.slotDataOwn (s : State) (d : Dgram) (full : Bool) : State × Nat :=
  let at_ := s.get R.FWU.SESS_BYTES.BYTES
  if s.get R.FWU.SESSION.PURPOSE != 1 then (s, Svc.noSession)
  else if locOf d.addr != at_ || s.fwu.total < at_ + d.count then (s, Svc.refused)
  else if full then (s, Svc.busy)
  else (s.writeSlot (d.data.take d.count), Svc.ok)

/-- SLOT_DATA for a stop: the bytes enter its relay buffer of 64 KiB. -/
def State.slotDataFar (s : State) (p k : Nat) (d : Dgram) : State × Nat :=
  match s.session p k with
  | none => (s, Svc.noSession)
  | some v =>
    if v.purpose != 1 || v.closing then (s, Svc.noSession)
    else if locOf d.addr != v.taken then (s, Svc.refused)
    else if 65536 < v.held + d.count then (s, Svc.busy)
    else ((s.setSession p { v with buf := v.buf ++ d.data.take d.count, taken := v.taken + d.count }).pumpSession p k 32, Svc.ok)

/-- SLOT_DATA. -/
def State.slotData (s : State) (d : Dgram) (full : Bool) : State :=
  let k := stopOf d.addr
  if d.count = 0 || 960 < d.count || d.data.length < d.count then s.svpOpenStatus d 0x11
  else
    let (s, st) := if k = 0 then s.slotDataOwn d full else s.slotDataFar (portOf d.addr) k d
    s.reply d.from_ 0x11 d.seq st []

/-- SLOT_CLOSE: the check starts, or the last segment of the session carries LAST. -/
def State.slotClose (s : State) (d : Dgram) : State :=
  let p := portOf d.addr
  let k := stopOf d.addr
  let (s, st) :=
    if k = 0 then (if s.get R.FWU.SESSION.PURPOSE = 1 then (s.closeSlot, Svc.ok) else (s, Svc.noSession))
    else match s.session p k with
      | some v => if v.closing then (s, Svc.noSession) else ((s.setSession p { v with closing := true }).pumpSession p k 32, Svc.ok)
      | none => (s, Svc.noSession)
  s.reply d.from_ 0x12 d.seq st []

/-! ### Secure mailboxes (R546, R548, R549) -/

/-- The service path, as the reading side, discards poisoned messages of channel `c` that are the oldest (R461). -/
def State.dropPoisoned (s : State) (c : Nat) : State :=
  s.forN 4 (fun s _ => match (s.chan c).toA with
    | m :: _ => if m.2 then s.mbxPop c 0 else s
    | [] => s)

/-- MBX on a channel of the sender: a message goes to side B, and the oldest side-B message comes back. -/
def State.mbxOwn (s : State) (d : Dgram) : State :=
  let s := if d.count = 64 && s.works (B.mbx d.slot) then s.mbxPut d.slot 0 (msgWords d.data) false else s
  let s := s.dropPoisoned d.slot
  match (s.chan d.slot).toA with
  | m :: _ =>
    (s.mbxPop d.slot 0).reply d.from_ 0x20 d.seq Svc.ok ((m.1.map (toBytes 4)).foldl (· ++ ·) [])
  | [] => s.reply d.from_ 0x20 d.seq Svc.empty []

/-- MBX on a channel of a tile: through its mailbox session, which the first one opens. -/
def State.mbxFar (s : State) (p k : Nat) (d : Dgram) : State :=
  let bytes := if d.count = 64 then d.data.take 64 else []
  match s.session p k with
  | none => s.openOut p k 4 d.slot 0 bytes (d.from_, d.seq, 0x20)
  | some v =>
    if v.purpose != 4 || v.slot != d.slot || v.closing then s.reply d.from_ 0x20 d.seq Svc.busy []
    else
      let (v, got) := ({ v with buf := v.buf ++ bytes }).take
      let s := (s.setSession p v).pumpSession p k 32
      match got with
      | some l => s.reply d.from_ 0x20 d.seq Svc.ok l
      | none => s.reply d.from_ 0x20 d.seq Svc.empty []

/-- MBX. -/
def State.mbxService (s : State) (d : Dgram) : State :=
  let k := stopOf d.addr
  if d.slot < 16 || 23 < d.slot || (d.count != 0 && d.count != 64) || d.data.length < d.count then s.svpOpenStatus d 0x20
  else if k = 0 then s.mbxOwn d
  else if s.reaches d.addr then s.mbxFar (portOf d.addr) k d
  else s.reply d.from_ 0x20 d.seq Svc.noSession []

/-! ### Keys (Table 18-5) -/

/-- A slot IN_FORCE or TRIAL uses key `key`. -/
def State.keyInUse (s : State) (key : Nat) : Bool :=
  (List.range 4).any (fun k => (s.img k == Img.inForce || s.img k == Img.trial) && s.slotLe k 6 1 == key)

/-- KEY_REVOKE. -/
def State.keyRevoke (s : State) (d : Dgram) : State :=
  if 3 < d.slot || stopOf d.addr != 0 then s.svpOpenStatus d 0x30
  else if s.keyInUse d.slot then s.reply d.from_ 0x30 d.seq Svc.refused []
  else (s.set R.FWU.KEYS.REVOKED (s.get R.FWU.KEYS.REVOKED ||| 2 ^ d.slot)).reply d.from_ 0x30 d.seq Svc.ok []

/-- SESSION_TIMEOUT: no segment of the open session of a tile for 5 s (R549). -/
def State.sessionTimeout (s : State) : State :=
  match s.line.svcIn with
  | some x => if s.isTile && !x.closed then ({ (s.endSession true) with line := { (s.endSession true).line with svcIn := none } }) else s
  | none => s

/-! ### Commands -/

/-- SERVICE_FRAME (R544). -/
def execServiceFrame (f : SvpFrame) (t : Nat) (s : State) : Host.Outcome State Fault Refusal := run (fun s => (s.tick t).serviceFrame f) s

/-- SVP_LINK_UP (R552). -/
def execSvpLinkUp (t : Nat) (s : State) : Host.Outcome State Fault Refusal :=
  run (fun s =>
    let s := s.tick t
    if s.role == .sender && s.works B.svp && s.on R.SVP.SVP_CTRL.PORT_EN then s.svpLink true else s) s

/-- SVP_LINK_DOWN (R552). -/
def execSvpLinkDown (t : Nat) (s : State) : Host.Outcome State Fault Refusal :=
  run (fun s => let s := s.tick t; if s.role == .sender then s.svpLink false else s) s

/-- REG_READ (R546). -/
def execRegRead (d : Dgram) (t : Nat) (s : State) : Host.Outcome State Fault Refusal :=
  run (fun s => (s.tick t).svpTake d (fun s => s.serviceReg d 1)) s

/-- REG_WRITE (R546). -/
def execRegWrite (d : Dgram) (t : Nat) (s : State) : Host.Outcome State Fault Refusal :=
  run (fun s => (s.tick t).svpTake d (fun s => s.serviceReg d 2)) s

/-- SLOT_OPEN (R547). -/
def execSlotOpen (d : Dgram) (t : Nat) (s : State) : Host.Outcome State Fault Refusal :=
  run (fun s => (s.tick t).svpTake d (fun s => s.slotOpen d)) s

/-- SLOT_DATA (R547). -/
def execSlotData (d : Dgram) (full : Bool) (t : Nat) (s : State) : Host.Outcome State Fault Refusal :=
  run (fun s => (s.tick t).svpTake d (fun s => s.slotData d full)) s

/-- SLOT_CLOSE (R546). -/
def execSlotClose (d : Dgram) (t : Nat) (s : State) : Host.Outcome State Fault Refusal :=
  run (fun s => (s.tick t).svpTake d (fun s => s.slotClose d)) s

/-- MBX (R546). -/
def execMbx (d : Dgram) (t : Nat) (s : State) : Host.Outcome State Fault Refusal :=
  run (fun s => (s.tick t).svpTake d (fun s => s.mbxService d)) s

/-- KEY_REVOKE (R546). -/
def execKeyRevoke (d : Dgram) (t : Nat) (s : State) : Host.Outcome State Fault Refusal :=
  run (fun s => (s.tick t).svpTake d (fun s => s.keyRevoke d)) s

/-- SESSION_TIMEOUT (R549). -/
def execSessionTimeout (t : Nat) (s : State) : Host.Outcome State Fault Refusal := run (fun s => (s.tick t).sessionTimeout) s

end Sys2Proof.Machine
end

