-- ==== Sys2Proof/Machine/Startup.lean ====
section
/-!
DEFINITION. The MC image's part of a start (Table 19-1, steps 7 and 8, R554, R562): once no DRAM channel trains any more, the
image starts, loads its settings, stages what they hold, enables the pages and, where it has settings, DEP last of all.
-/
namespace Sys2Proof.Machine

/-- The staging page of a window: mapping cards, Spire panels and the Timetable. -/
def stagingWindow (a : Nat) : Option Nat :=
  match windowAt a with
  | some w => if [B.map, B.spire, B.scn].contains w.2.2 then some w.2.2 else none
  | none => none

/-- The fields of the block register at `a`, none in a page's header. -/
def settingFields (a : Nat) : List (Fld × Acc) :=
  match pageAt a with
  | some (k, _) => if a % 0x1000 < 0x100 then [] else rowFields k (a / 0x1000 * 0x1000) (a % 0x1000)
  | none => []

/-- Settings hold register values and staged tables, not commands: a word of a register with a field that keeps what is written and
none that only acts. -/
def settable (a : Nat) : Bool :=
  let l := settingFields a
  (stagingWindow a).isSome || (l.any (fun f => f.2 == .rw || f.2 == .rws || f.2 == .rwl) && !l.any (fun f => f.2 == .wo))

/-- The page whose COMMIT a write of `a` calls for. -/
def stagedBy (a : Nat) : Option Nat :=
  match stagingWindow a with
  | some b => some b
  | none => if (settingFields a).any (fun f => f.2 == .rws) || a = B.dep + 0x104 then some (a / 0x1000 * 0x1000) else none

/-- The words that the settings in force hold, in the image's own format (R542); none without settings. -/
def State.settingWords (s : State) : List (Nat × Nat) :=
  if s.on R.FWU.FWU_STAT.SET_DEFAULT then []
  else
    let k := 4 + s.get R.FWU.FWU_STAT.SET_SLOT
    (Config.settingWords (s.slotBytes k 64 (s.slotLe k 12 4))).filter (fun w => settable w.1)

/-- The pages that the MC image enables, DEP apart (R554). -/
def State.startPages (s : State) : List Nat :=
  allPages.filter (fun b => enReset b == 0 && b != B.dep && s.live b && !s.enabled b)

/-- Step 8 (R562). -/
def State.stageSettings (s : State) : State :=
  let l := s.settingWords
  let s := l.foldl (fun s w => (s.writeAt (.mc true) (w.1 / 4 * 4) 4 w.2).1) s
  let s := (l.filterMap (fun w => stagedBy w.1)).foldl State.commitArm s
  let s := s.startPages.foldl (fun s b => s.writeEn b 1) s
  if s.on R.FWU.FWU_STAT.SET_DEFAULT then s else s.writeEn B.dep 1

/-- The MC image starts once the training of the channels has ended, and works through step 8 (R553, R562). -/
def State.mcStart (s : State) : State :=
  if s.fwu.mcUp || s.on R.FWU.FWU_STAT.SAFE || (List.range 4).any (fun c => s.chState c == Ch.train) then s
  else ({ s with fwu := { s.fwu with mcUp := true } }).loadSettings.stageSettings

/-! ### Commands -/

/-- TRAIN_DONE (R412). -/
def execTrainDone (c margin t : Nat) (s : State) : Host.Outcome State Fault Refusal :=
  run (fun s => ((s.tick t).trainDone c margin).mcStart) s

/-- DRAM_TRAIN_TIMEOUT (R412). -/
def execDramTrainTimeout (c t : Nat) (s : State) : Host.Outcome State Fault Refusal :=
  run (fun s => ((s.tick t).dramTrainTimeout c).mcStart) s

end Sys2Proof.Machine
end

