-- ==== Sys2Proof/Machine/Tenant.lean ====
section
/-!
DEFINITION. What tenants do (chapter 15): BAR0 accesses, doorbells, the fetch and admission of descriptors, and the dispatch
of each class of work but CODEC.
-/
namespace Sys2Proof.Machine

/-! ### BAR0 (R440 to R442) -/

/-- The PCIe link serves hosts: a sender outside safe mode (R439, R535), once the MC image has started and 1 s after the die has left
reset at the latest (R556). -/
def State.pcieUp (s : State) : Bool :=
  s.role == .sender && !s.on R.FWU.FWU_STAT.SAFE && (s.fwu.mcUp || 1500000000 ≤ s.frc)

/-- Function `fn` sends a command: PF0 has enabled it (R439; no command shows the SR-IOV control, log entry 128). -/
def State.seenFn (s : State) (fn : Nat) : State := if s.fnUp fn then s else { s with que := { s.que with vfs := s.que.vfs ++ [fn] } }

/-- An access of tenant `t` is refused: code 0x10 of TEN, DENY_CNT and DENIED (R441). -/
def State.deny (s : State) (t a : Nat) : State :=
  ((s.err B.ten 0x10 t a).count (R.TEN.DENY_CNT.COUNT t)).ev B.ten Ev.TEN.DENIED

/-- Tenant `t` may make the access. -/
def State.barOk (s : State) (t a : Nat) (write : Bool) : Bool := s.localOk t a write && !s.barred t a write

/-- One BAR0 access of function `t`: `n` bytes at `a`, a write of `v` or a read. A refused one still meets R84 at a secure
page. -/
def State.barOne (s : State) (t a n : Nat) (v : Option Nat) : State :=
  match v with
  | some v =>
    if s.barOk t a true then (s.writeAt (.tenant t) a n v).1
    else (if secureAddr a then (s.writeAt (.tenant t) a n v).1 else s).deny t a
  | none =>
    if s.barOk t a false then
      let r := s.readAt (.tenant t) a n
      r.st.emit (.hostData t a n r.v r.poison)
    else ((if secureAddr a then (s.readAt (.tenant t) a n).st else s).deny t a).emit (.hostData t a n 0 false)

/-- A BAR0 request; one of more than 8 bytes is split into accesses of 4 bytes (R440). -/
def State.barAccess (s : State) (t a n : Nat) (v : Option Nat) : State :=
  if !s.pcieUp then s
  else if n ≤ 8 then (s.seenFn t).barOne t (a % 2 ^ 25) n v
  else (s.seenFn t).forN (n / 4) (fun s i => s.barOne t ((a + 4 * i) % 2 ^ 25) 4 (v.map (fun x => x / 2 ^ (32 * i))))

/-! ### Doorbells and fetches (R444, R445) -/

/-- A doorbell of function `t` for queue `q`. -/
def State.doorbell (s : State) (t q tail : Nat) : State :=
  if !s.pcieUp then s
  else
  let s := s.seenFn t
  if s.qOwner q != t then (s.count (R.TEN.DB_DENY.COUNT t)).ev B.ten Ev.TEN.DENIED
  else if s.qSize q ≤ tail then s.queueError q 1 tail
  else s.set (R.QCX.Q_TAIL.IDX q) tail

/-- The correction-table aperture (Table 3-6). -/
def inAperture (a : Nat) : Bool := 0xC00000 ≤ a && a < 0x1000000

/-- An address in a layer block of a CMP layer page, and one behind it of the same block. -/
def inLayerBlock (a n : Nat) : Bool :=
  let block (x : Nat) : Nat := (x - 0x71000) / 0x1000 * 16 + (if x % 0x1000 < 0x300 then 1 else 2)
  let ok (x : Nat) : Bool := 0x71000 ≤ x && x < 0x79000 && 0x100 ≤ x % 0x1000 && x % 0x1000 < 0x500
  ok a && ok (a + 4 * n - 4) && block a == block (a + 4 * n - 4)

/-- A descriptor follows Tables 15-2 and 15-3; otherwise it is a BAD_DESC. -/
def State.descLegal (s : State) (d : Desc) : Bool :=
  let c := s.qClass d.q
  let words := decide (1 ≤ d.len) && decide (d.len ≤ 8)
  let host := d.le 24 8 % 64 == 0 && decide (d.len ≤ 0x400000)
  if c = 0 then 1 ≤ d.op && d.op ≤ 4 && words
  else if c = 1 then 1 ≤ d.op && d.op ≤ 3 && words && inLayerBlock d.addr d.len
  else if c = 2 then
    if d.op = 2 then words && d.addr + 4 * d.len ≤ 0x200000
    else d.op == 5 && host && d.len % 64 == 0 && d.addr + d.len ≤ 0x200000
  else if c = 3 then d.op == 5 && host && d.len % 32 == 0 && inAperture (locOf d.addr)
  else if c = 4 then d.op % 16 == 1 || d.op % 16 == 2
  else if c = 5 then (d.op == 2 || d.op == 6) && stopOf d.addr != 255
  else false

/-- Admission of a descriptor that has been read. -/
def State.admitDesc (s : State) (d : Desc) (poison : Bool) : State :=
  if poison then s.complete d.q d.idx 8 0 []
  else if !s.descLegal d then s.complete d.q d.idx 7 0 []
  else if !s.descOk d then (s.ev B.ten Ev.TEN.DENIED).complete d.q d.idx 6 0 []
  else s

/-- A queue fetches its next descriptor: the 64 bytes read, whether they are poisoned, and whether the read failed. -/
def State.fetchDesc (s : State) (q : Nat) (bytes : List Byte) (poison failed : Bool) : State :=
  let i := s.get (R.QCX.Q_FETCH.IDX q)
  if !s.pcieUp || !s.works B.que || !s.on (R.QCX.Q_CTRL.EN q) || i = s.get (R.QCX.Q_TAIL.IDX q) || !s.fnUp (s.qOwner q) then s
  else if 64 ≤ s.get (R.QCX.Q_INFLIGHT.COUNT q) then (s.count (R.QCX.Q_STALL_CNT.COUNT q)).count R.QUE.STALL_Q.COUNT
  else if failed then s.queueError q 2 i
  else
    let s := s.set (R.QCX.Q_FETCH.IDX q) ((i + 1) % s.qSize q)
    let d : Desc := { q := q, idx := i, bytes := bytes, epoch := s.get R.TEN.RULE_EPOCH.EPOCH }
    (({ s with que := { s.que with descs := s.que.descs ++ [d] } }).showInflight q).admitDesc d poison

/-! ### Dispatch (R446 to R449, R451) -/

/-- A stall at a bound of the line (R277, R451). -/
def State.lineStall (s : State) (p q : Nat) : State := (s.count (R.LNE.STALL_CNT.COUNT p)).count (R.QCX.Q_STALL_CNT.COUNT q)

/-- The next access of a descriptor waits at a bound of the line (Table 15-5). -/
def State.atBound (s : State) (d : Desc) : Bool :=
  let k := stopOf d.addr
  [0, 3, 5].contains (s.qClass d.q) && k != 0 && !s.badAddress d.addr (if s.qClass d.q = 0 then d.op else 2) && !s.lineRoom (portOf d.addr) k

/-- Queue `q` has an access for the dispatcher. CODEC descriptors go to the codec engine (R299). -/
def State.queueReady (s : State) (q : Nat) : Bool :=
  s.qClass q != 4 && s.que.descs.any (fun d => d.q == q && s.dispatchable q d.idx && !s.atBound d)

/-- How far `x` lies behind `last` in a round of `n`. -/
def roundDist (n last x : Nat) : Nat := (x + 2 * n - last - 1) % n

/-- The queue that the dispatcher served last for tenant `t`. -/
def State.lastQueue (s : State) (t : Nat) : Nat := lookupD s.que.lastQueues t 8191

/-- It is the turn of queue `q`: no other tenant with an access comes before its owner, and no other queue of the owner before it (R446). -/
def State.myTurn (s : State) (q : Nat) : Bool :=
  let t := s.qOwner q
  s.que.descs.all (fun d => !s.queueReady d.q ||
    (roundDist 16 s.que.lastTenant t ≤ roundDist 16 s.que.lastTenant (s.qOwner d.q) &&
      (s.qOwner d.q != t || roundDist 8192 (s.lastQueue t) q ≤ roundDist 8192 (s.lastQueue t) d.q)))

/-- The dispatcher serves queue `q`. -/
def State.served (s : State) (q : Nat) : State :=
  let t := s.qOwner q
  { s with que := { s.que with lastTenant := t, lastQueues := putD s.que.lastQueues t q 8191 } }

/-- The descriptor of class `c` with operation `op` that comes to dispatch in the turn of its queue, checked under the rules in force. One
that waits at a bound meets it outside of any turn. -/
def State.turn (s : State) (q idx c op : Nat) : State × Option Desc :=
  match s.desc q idx with
  | some d =>
    if !(s.role == .sender && s.works B.que && s.qClass q == c && d.op == op) then (s, none)
    else if s.atBound d || !s.dispatchable q idx then s.recheck q idx
    else if s.myTurn q then (s.served q).recheck q idx
    else (s, none)
  | none => (s, none)

/-- All of a descriptor's `n` accesses are on their way. -/
def State.sentAll (s : State) (d : Desc) (n : Nat) : State :=
  (s.setDesc { d with dispatched := true, sent := n }).count R.QUE.DISPATCHED.COUNT n

/-- The inline words of a descriptor. -/
def Desc.inline (d : Desc) (n : Nat) : List Nat := (List.range n).map (fun i => d.le (24 + 4 * i) 4)

/-- The request of a TILE_REG or LAYER descriptor to a local or remote address. -/
def Desc.request (d : Desc) (stop loc : Nat) : ReqMsg :=
  let n := if d.op = 1 || d.op = 2 then d.len else 1
  { op := d.op, count := n, stop := stop, relief := false, src := 0, tag := d.tag, didx := 0, loc := loc
    mask := if d.op = 3 then d.le 20 4 else 0, data := if d.op = 2 || d.op = 3 then d.inline n else [] }

/-- An access of one request that the sender itself serves. -/
def State.serveLocal (s : State) (d : Desc) (m : ReqMsg) : State :=
  let (s, st, data) := (s.sentAll d 1).perform (.tenant (s.qOwner d.q)) m
  s.complete d.q d.idx st (d.words st) data

/-- TILE_REG. -/
def State.tileReg (s : State) (q idx op : Nat) : State :=
  match s.turn q idx 0 op with
  | (s, none) => s
  | (s, some d) =>
    let m := d.request (stopOf d.addr) (locOf d.addr)
    let p := portOf d.addr
    if s.badAddress d.addr op then s.complete q idx 1 0 []
    else if m.stop = 0 then s.serveLocal d m
    else if !s.lineRoom p m.stop then s.lineStall p q
    else (s.sentAll d 1).dispatch p m (.desc q idx 0) (s.qOwner q)

/-- LAYER. -/
def State.layerReg (s : State) (q idx op : Nat) : State :=
  match s.turn q idx 1 op with
  | (s, none) => s
  | (s, some d) => s.serveLocal d (d.request 0 (locOf d.addr))

/-- CARD WRITE. -/
def State.cardDesc (s : State) (q idx : Nat) : State :=
  match s.turn q idx 2 2 with
  | (s, none) => s
  | (s, some d) => s.serveLocal d (d.request 0 (0x400000 + d.addr))

/-- Words of a list of bytes. -/
def wordList (l : List Byte) : List Nat := (List.range (l.length / 4)).map (fun i => leNat ((l.drop (4 * i)).take 4))

/-- Write words in ascending address order up to one that is refused: how many were written (R448). -/
def State.wordsCopy (s : State) (g : Agent) (a : Nat) : List Nat → State × Nat
  | [] => (s, 0)
  | v :: r =>
    match s.wordWrite g a v with
    | (s, true) => (s, 0)
    | (s, false) => let (s, k) := State.wordsCopy s g (a + 4) r; (s, k + 1)

/-- CARD COPY: `data` are the host's bytes, and `bad` the offset of the first poisoned ones. -/
def State.cardCopy (s : State) (q idx : Nat) (data : List Byte) (bad : Option Nat) : State :=
  match s.turn q idx 2 5 with
  | (s, none) => s
  | (s, some d) =>
    let n := match bad with | some k => min d.len (k / 4 * 4) | none => d.len
    let l := wordList (data.take n)
    let (s, k) := (s.sentAll d 1).wordsCopy (.tenant (s.qOwner q)) (0x400000 + d.addr) l
    let st := if k < l.length then 2 else if n < d.len then 8 else 0
    s.complete q idx st (4 * k) []

/-- No further request of an UPLOAD is sent: it ends with `st` unless an earlier request failed. -/
def State.uploadStop (s : State) (d : Desc) (st : Nat) : State :=
  let s := s.setDesc { d with stop := some st }
  if d.sent = 0 then s.complete d.q d.idx st 0 [] else s.settle d.q d.idx

/-- UPLOAD: the next request of 8 words goes out; `data` are its 32 bytes of host memory, `bad` whether they are poisoned.
Requests after a failure are not sent (R448). -/
def State.uploadNext (s : State) (q idx : Nat) (data : List Byte) (bad : Bool) : State :=
  match s.turn q idx 3 5 with
  | (s, none) => s
  | (s, some d) =>
    let k := d.sent
    let m : ReqMsg := { op := 2, count := 8, stop := stopOf d.addr, relief := false, src := 0, tag := (d.tag + k) % 65536, didx := 0
                        loc := locOf d.addr + 32 * k, mask := 0, data := (List.range 8).map (fun i => leNat ((data.drop (4 * i)).take 4)) }
    let p := portOf d.addr
    let next : Desc := { d with sent := k + 1, dispatched := (k + 1) * 32 == d.len }
    if d.len = 0 then s.complete q idx 0 0 []
    else if (firstBad d.answers k).isSome then s
    else if bad then s.uploadStop d 8
    else if s.badAddress d.addr 2 then s.uploadStop d 1
    else if m.stop = 0 then
      let (s, st, _) := ((s.setDesc next).count R.QUE.DISPATCHED.COUNT).perform (.tenant (s.qOwner q)) m
      s.answer q idx k st []
    else if !s.lineRoom p m.stop then s.lineStall p q
    else ((s.setDesc next).count R.QUE.DISPATCHED.COUNT).dispatch p m (.desc q idx k) (s.qOwner q)

/-- The seven words of a DEPART descriptor, from ENT_SEL to ENT_CMD (R449). -/
def Desc.entryWords (d : Desc) : List Nat :=
  [d.len, d.le 24 4, d.le 28 4, d.le 20 4, d.le 32 4, d.le 36 4, if d.op = 6 then 3 else 1]

/-- DEPART: one WRITE of the entry and one READ of ENT_STATUS. -/
def State.departDesc (s : State) (q idx op : Nat) : State :=
  match s.turn q idx 5 op with
  | (s, none) => s
  | (s, some d) =>
    let k := stopOf d.addr
    let p := portOf d.addr
    let w : ReqMsg := { op := 2, count := 7, stop := k, relief := false, src := 0, tag := d.tag, didx := 0
                        loc := B.dep + 0x130, mask := 0, data := d.entryWords }
    -- the READ takes another TAG than the WRITE; which one is left open
    let r : ReqMsg := { w with op := 1, count := 1, data := [], loc := B.dep + 0x14C
                               tag := (d.tag + 1 + Config.choice s.fresh % 65535) % 65536 }
    let t := s.qOwner q
    if s.badAddress d.addr 2 then s.complete q idx 1 0 []
    else if k = 0 then
      let (s, st, _) := (s.sentAll d 2).perform (.tenant t) w
      let (s, st2, l) := s.perform (.tenant t) r
      s.complete q idx (if st = 0 then st2 else st) (l.headD 0) []
    else if !s.lineRoom p k then s.lineStall p q
    else
      let u := (s.draw.sentAll d 2).dispatch p w (.desc q idx 0) t
      if u.lineRoom p k then u.dispatch p r (.desc q idx 1) t else s.lineStall p q

/-! ### Commands -/

/-- BAR_ACCESS (R441). -/
def execBarAccess (fn a n : Nat) (v : Option Nat) (t : Nat) (s : State) : Host.Outcome State Fault Refusal :=
  run (fun s => (s.tick t).barAccess (fn % 16) a n v) s

/-- DOORBELL (R444). -/
def execDoorbell (fn q tail t : Nat) (s : State) : Host.Outcome State Fault Refusal :=
  run (fun s => (s.tick t).doorbell (fn % 16) (q % 8192) (tail % 4096)) s

/-- DESCRIPTOR_FETCH (R445). -/
def execDescriptorFetch (q : Nat) (bytes : List Byte) (poison failed : Bool) (t : Nat) (s : State) :
    Host.Outcome State Fault Refusal := run (fun s => (s.tick t).fetchDesc (q % 8192) (bytes.take 64) poison failed) s

/-- TILE_REG READ (R446). -/
def execTileRegRead (q idx t : Nat) (s : State) : Host.Outcome State Fault Refusal := run (fun s => (s.tick t).tileReg q idx 1) s

/-- TILE_REG WRITE (R446). -/
def execTileRegWrite (q idx t : Nat) (s : State) : Host.Outcome State Fault Refusal := run (fun s => (s.tick t).tileReg q idx 2) s

/-- TILE_REG WRITE_MASKED (R446). -/
def execTileRegWriteMasked (q idx t : Nat) (s : State) : Host.Outcome State Fault Refusal :=
  run (fun s => (s.tick t).tileReg q idx 3) s

/-- TILE_REG PING (R446). -/
def execTileRegPing (q idx t : Nat) (s : State) : Host.Outcome State Fault Refusal := run (fun s => (s.tick t).tileReg q idx 4) s

/-- LAYER READ (R452). -/
def execLayerRead (q idx t : Nat) (s : State) : Host.Outcome State Fault Refusal := run (fun s => (s.tick t).layerReg q idx 1) s

/-- LAYER WRITE (R452). -/
def execLayerWrite (q idx t : Nat) (s : State) : Host.Outcome State Fault Refusal := run (fun s => (s.tick t).layerReg q idx 2) s

/-- LAYER WRITE_MASKED (R452). -/
def execLayerWriteMasked (q idx t : Nat) (s : State) : Host.Outcome State Fault Refusal :=
  run (fun s => (s.tick t).layerReg q idx 3) s

/-- CARD WRITE (R452). -/
def execCardWrite (q idx t : Nat) (s : State) : Host.Outcome State Fault Refusal := run (fun s => (s.tick t).cardDesc q idx) s

/-- CARD COPY (R448). -/
def execCardCopy (q idx : Nat) (data : List Byte) (bad : Option Nat) (t : Nat) (s : State) : Host.Outcome State Fault Refusal :=
  run (fun s => (s.tick t).cardCopy q idx data bad) s

/-- UPLOAD (R448). -/
def execUpload (q idx : Nat) (data : List Byte) (bad : Bool) (t : Nat) (s : State) : Host.Outcome State Fault Refusal :=
  run (fun s => (s.tick t).uploadNext q idx data bad) s

/-- DEPART WRITE (R449). -/
def execDepartWrite (q idx t : Nat) (s : State) : Host.Outcome State Fault Refusal := run (fun s => (s.tick t).departDesc q idx 2) s

/-- DEPART CANCEL (R449). -/
def execDepartCancel (q idx t : Nat) (s : State) : Host.Outcome State Fault Refusal := run (fun s => (s.tick t).departDesc q idx 6) s

end Sys2Proof.Machine
end

