-- ==== Sys2Proof/Machine/Dispatch.lean ====
section
/-!
DEFINITION. The one place that ties each command to its meaning: one arm per constructor, no wildcard.
-/
namespace Sys2Proof.Machine

/-- The effect of one command on everything but the queue. -/
def exec (i : Instr) (s : State) : Host.Outcome State Fault Refusal :=
  match i with
  | .powerUp us => Sys2Proof.Machine.execPowerUp us s
  | .internal5vLoss => Sys2Proof.Machine.execInternal5vLoss s
  | .resetN ns => Sys2Proof.Machine.execResetN ns s
  | .resetRelease strap bootSel f ppm => Sys2Proof.Machine.execResetRelease strap bootSel f ppm s
  | .softwareReset => Sys2Proof.Machine.execSoftwareReset s
  | .modrst => Sys2Proof.Machine.execModrst s
  | .thermalReset t => Sys2Proof.Machine.execThermalReset t s
  | .shutdownRestart => Sys2Proof.Machine.execShutdownRestart s
  | .refclkLost ppm t => Sys2Proof.Machine.execRefclkLost ppm t s
  | .retAuto ppm t => Sys2Proof.Machine.execRetAuto ppm t s
  | .retNow ppm t => Sys2Proof.Machine.execRetNow ppm t s
  | .registerWrite who a n v t => Sys2Proof.Machine.execRegisterWrite who a n v t s
  | .rcRead who a n t => Sys2Proof.Machine.execRcRead who a n t s
  | .evtPendClear b v t => Sys2Proof.Machine.execEvtPendClear b v t s
  | .evtSet b v t => Sys2Proof.Machine.execEvtSet b v t s
  | .evtEnWrite b v t => Sys2Proof.Machine.execEvtEnWrite b v t s
  | .errInfoClear b t => Sys2Proof.Machine.execErrInfoClear b t s
  | .pageEnable b t => Sys2Proof.Machine.execPageEnable b t s
  | .pageDisable b t => Sys2Proof.Machine.execPageDisable b t s
  | .softReset b t => Sys2Proof.Machine.execSoftReset b t s
  | .commitArm b t => Sys2Proof.Machine.execCommitArm b t s
  | .commitDisarm b t => Sys2Proof.Machine.execCommitDisarm b t s
  | .freezePage b t => Sys2Proof.Machine.execFreezePage b t s
  | .unfreezePage b t => Sys2Proof.Machine.execUnfreezePage b t s
  | .hwFreeze b t => Sys2Proof.Machine.execHwFreeze b t s
  | .modeNextWrite v t => Sys2Proof.Machine.execModeNextWrite v t s
  | .modeFallbackWrite v t => Sys2Proof.Machine.execModeFallbackWrite v t s
  | .frameDeparture n t => Sys2Proof.Machine.execFrameDeparture n t s
  | .viewDeparture n k t => Sys2Proof.Machine.execViewDeparture n k t s
  | .commitEntry idx late t => Sys2Proof.Machine.execCommitEntry idx late t s
  | .epochFlip idx late t => Sys2Proof.Machine.execEpochFlip idx late t s
  | .scheduleEntry idx late t => Sys2Proof.Machine.execScheduleEntry idx late t s
  | .fwActivate idx late t => Sys2Proof.Machine.execFwActivate idx late t s
  | .railStep idx late t => Sys2Proof.Machine.execRailStep idx late t s
  | .wallSwitch idx late t => Sys2Proof.Machine.execWallSwitch idx late t s
  | .pulse idx late t => Sys2Proof.Machine.execPulse idx late t s
  | .markEntry idx late t => Sys2Proof.Machine.execMarkEntry idx late t s
  | .entMissed idx t => Sys2Proof.Machine.execEntMissed idx t s
  | .entWrite t => Sys2Proof.Machine.execEntWrite t s
  | .entRead t => Sys2Proof.Machine.execEntRead t s
  | .entCancel t => Sys2Proof.Machine.execEntCancel t s
  | .startupEpochLoad t => Sys2Proof.Machine.execStartupEpochLoad t s
  | .domMeas d w e t => Sys2Proof.Machine.execDomMeas d w e t s
  | .domainEnable d t => Sys2Proof.Machine.execDomainEnable d t s
  | .domainDisable d t => Sys2Proof.Machine.execDomainDisable d t s
  | .domainLossTimeout d t => Sys2Proof.Machine.execDomainLossTimeout d t s
  | .switchNow force t => Sys2Proof.Machine.execSwitchNow force t s
  | .wallSelWrite d force t => Sys2Proof.Machine.execWallSelWrite d force t s
  | .slewEnd t => Sys2Proof.Machine.execSlewEnd t s
  | .timeInterval t => Sys2Proof.Machine.execTimeInterval t s
  | .timeMessage p m inF outF t => Sys2Proof.Machine.execTimeMessage p m inF outF t s
  | .schedInterval t => Sys2Proof.Machine.execSchedInterval t s
  | .sched p m t => Sys2Proof.Machine.execSched p m t s
  | .ldInterval p t1 t => Sys2Proof.Machine.execLdInterval p t1 t s
  | .ldReq p q t2 t3 t => Sys2Proof.Machine.execLdReq p q t2 t3 t s
  | .ldRsp p q turn t4 t => Sys2Proof.Machine.execLdRsp p q turn t4 t s
  | .ldTimeout p t => Sys2Proof.Machine.execLdTimeout p t s
  | .tickin f16 t => Sys2Proof.Machine.execTickin f16 t s
  | .tickWindowEnd t => Sys2Proof.Machine.execTickWindowEnd t s
  | .frameSrcWrite v t => Sys2Proof.Machine.execFrameSrcWrite v t s
  | .tickoutPulse t => Sys2Proof.Machine.execTickoutPulse t s
  | .ppsPulse t => Sys2Proof.Machine.execPpsPulse t s
  | .ethLinkUp p t => Sys2Proof.Machine.execEthLinkUp p t s
  | .ethLinkDown p t => Sys2Proof.Machine.execEthLinkDown p t s
  | .ethFrame p f corr uncorr t => Sys2Proof.Machine.execEthFrame p f corr uncorr t s
  | .ingPacket t => Sys2Proof.Machine.execIngPacket t s
  | .mergeWaitEnd k t => Sys2Proof.Machine.execMergeWaitEnd k t s
  | .legLost k l t => Sys2Proof.Machine.execLegLost k l t s
  | .flowLost k t => Sys2Proof.Machine.execFlowLost k t s
  | .flowEnable k v t => Sys2Proof.Machine.execFlowEnable k v t s
  | .flowDisable k v t => Sys2Proof.Machine.execFlowDisable k v t s
  | .legEnable k v t => Sys2Proof.Machine.execLegEnable k v t s
  | .cardCheck t => Sys2Proof.Machine.execCardCheck t s
  | .cardCheckDone t => Sys2Proof.Machine.execCardCheckDone t s
  | .cardSyncDone t => Sys2Proof.Machine.execCardSyncDone t s
  | .spireCheck t => Sys2Proof.Machine.execSpireCheck t s
  | .spireSyncDone t => Sys2Proof.Machine.execSpireSyncDone t s
  | .otgFrameStart t => Sys2Proof.Machine.execOtgFrameStart t s
  | .blankStart a b t => Sys2Proof.Machine.execBlankStart a b t s
  | .otgAbort cutA cutB a b t => Sys2Proof.Machine.execOtgAbort cutA cutB a b t s
  | .monitorFrame t => Sys2Proof.Machine.execMonitorFrame t s
  | .trainingFrame l ctl sta valid inverted req errors t => Sys2Proof.Machine.execTrainingFrame l ctl sta valid inverted req errors t s
  | .trainTimeout l t => Sys2Proof.Machine.execTrainTimeout l t s
  | .trainGiveUp l t => Sys2Proof.Machine.execTrainGiveUp l t s
  | .laneLocked l skew found inverted t => Sys2Proof.Machine.execLaneLocked l skew found inverted t s
  | .lockEnd p t => Sys2Proof.Machine.execLockEnd p t s
  | .capxSend p t => Sys2Proof.Machine.execCapxSend p t s
  | .capx p m t => Sys2Proof.Machine.execCapx p m t s
  | .capxTimeout p t => Sys2Proof.Machine.execCapxTimeout p t s
  | .retryInterval p t => Sys2Proof.Machine.execRetryInterval p t s
  | .restartPort p t => Sys2Proof.Machine.execRestartPort p t s
  | .maxWidthWrite p v t => Sys2Proof.Machine.execMaxWidthWrite p v t s
  | .groupHeader p rx t => Sys2Proof.Machine.execGroupHeader p rx t s
  | .replayTimeout p t => Sys2Proof.Machine.execReplayTimeout p t s
  | .laneFault l t => Sys2Proof.Machine.execLaneFault l t s
  | .retrainDone l ok t => Sys2Proof.Machine.execRetrainDone l ok t s
  | .laneRetry l t => Sys2Proof.Machine.execLaneRetry l t s
  | .laneRetire l t => Sys2Proof.Machine.execLaneRetire l t s
  | .linkState p m t => Sys2Proof.Machine.execLinkState p m t s
  | .enumStart p t => Sys2Proof.Machine.execEnumStart p t s
  | .enumMsg p m t => Sys2Proof.Machine.execEnumMsg p m t s
  | .enumRsp p m t => Sys2Proof.Machine.execEnumRsp p m t s
  | .enumTimeout p t => Sys2Proof.Machine.execEnumTimeout p t s
  | .frameHeader p h crcOk member t => Sys2Proof.Machine.execFrameHeader p h crcOk member t s
  | .shareHeader p k crcOk t => Sys2Proof.Machine.execShareHeader p k crcOk t s
  | .segmentHeader p view round frame crcOk t => Sys2Proof.Machine.execSegmentHeader p view round frame crcOk t s
  | .rowData p round bits bad t => Sys2Proof.Machine.execRowData p round bits bad t s
  | .shareTrailer p tr crcOk t => Sys2Proof.Machine.execShareTrailer p tr crcOk t s
  | .viewTrailer p view frame crcOk t => Sys2Proof.Machine.execViewTrailer p view frame crcOk t s
  | .req p m t => Sys2Proof.Machine.execReq p m t s
  | .readTxn t => Sys2Proof.Machine.execReadTxn t s
  | .writeTxn t => Sys2Proof.Machine.execWriteTxn t s
  | .writeMasked t => Sys2Proof.Machine.execWriteMasked t s
  | .ping t => Sys2Proof.Machine.execPing t s
  | .rsp p m t => Sys2Proof.Machine.execRsp p m t s
  | .txnTimeout p didx t => Sys2Proof.Machine.execTxnTimeout p didx t s
  | .creditRelease p didx t => Sys2Proof.Machine.execCreditRelease p didx t s
  | .svc p m full t => Sys2Proof.Machine.execSvc p m full t s
  | .svcAck p m t => Sys2Proof.Machine.execSvcAck p m t s
  | .svcResend p k t => Sys2Proof.Machine.execSvcResend p k t s
  | .mirrorRecord p m t => Sys2Proof.Machine.execMirrorRecord p m t s
  | .mirrorGap t => Sys2Proof.Machine.execMirrorGap t s
  | .telem p m t => Sys2Proof.Machine.execTelem p m t s
  | .jrTail v t => Sys2Proof.Machine.execJrTail v t s
  | .compress q blocks t => Sys2Proof.Machine.execCompress q blocks t s
  | .decompress q blocks t => Sys2Proof.Machine.execDecompress q blocks t s
  | .jobDone t => Sys2Proof.Machine.execJobDone t s
  | .abortJob t => Sys2Proof.Machine.execAbortJob t s
  | .passDone t => Sys2Proof.Machine.execPassDone t s
  | .bankSyncStart t => Sys2Proof.Machine.execBankSyncStart t s
  | .bankSyncDone t => Sys2Proof.Machine.execBankSyncDone t s
  | .apertureWrite ofs n v t => Sys2Proof.Machine.execApertureWrite ofs n v t s
  | .uplCmdGo v t => Sys2Proof.Machine.execUplCmdGo v t s
  | .copyRegions t => Sys2Proof.Machine.execCopyRegions t s
  | .copyPack t => Sys2Proof.Machine.execCopyPack t s
  | .copyPacked t => Sys2Proof.Machine.execCopyPacked t s
  | .unitRecords t => Sys2Proof.Machine.execUnitRecords t s
  | .uplCommandEnd t => Sys2Proof.Machine.execUplCommandEnd t s
  | .uplDoneRead t => Sys2Proof.Machine.execUplDoneRead t s
  | .gapStart t => Sys2Proof.Machine.execGapStart t s
  | .readbackWindowEnd groups t => Sys2Proof.Machine.execReadbackWindowEnd groups t s
  | .flipSend t => Sys2Proof.Machine.execFlipSend t s
  | .loadStart t => Sys2Proof.Machine.execLoadStart t s
  | .loadDone t => Sys2Proof.Machine.execLoadDone t s
  | .loadDeadline t => Sys2Proof.Machine.execLoadDeadline t s
  | .bandClose b t => Sys2Proof.Machine.execBandClose b t s
  | .bandFlip b t => Sys2Proof.Machine.execBandFlip b t s
  | .ttCheck t => Sys2Proof.Machine.execTtCheck t s
  | .ttCheckDone t => Sys2Proof.Machine.execTtCheckDone t s
  | .ttSyncDone t => Sys2Proof.Machine.execTtSyncDone t s
  | .rampStep c mv ma t => Sys2Proof.Machine.execRampStep c mv ma t s
  | .railReady c mv ma t => Sys2Proof.Machine.execRailReady c mv ma t s
  | .discharged c mv t => Sys2Proof.Machine.execDischarged c mv t s
  | .disTimeout c mv ma t => Sys2Proof.Machine.execDisTimeout c mv ma t s
  | .overcurrent c cycles mv ma t => Sys2Proof.Machine.execOvercurrent c cycles mv ma t s
  | .overvoltage c mv ma t => Sys2Proof.Machine.execOvervoltage c mv ma t s
  | .undervoltage c mv ma t => Sys2Proof.Machine.execUndervoltage c mv ma t s
  | .externalFault c mv ma t => Sys2Proof.Machine.execExternalFault c mv ma t s
  | .clrFault c t => Sys2Proof.Machine.execClrFault c t s
  | .auxLimit k t => Sys2Proof.Machine.execAuxLimit k t s
  | .auxRetry k clear t => Sys2Proof.Machine.execAuxRetry k clear t s
  | .latchClear mask t => Sys2Proof.Machine.execLatchClear mask t s
  | .faultMapWrite ofs n v t => Sys2Proof.Machine.execFaultMapWrite ofs n v t s
  | .trainDone c margin t => Sys2Proof.Machine.execTrainDone c margin t s
  | .dramTrainTimeout c t => Sys2Proof.Machine.execDramTrainTimeout c t s
  | .fillDone c t => Sys2Proof.Machine.execFillDone c t s
  | .resilverDone c t => Sys2Proof.Machine.execResilverDone c t s
  | .retrainStart c t => Sys2Proof.Machine.execRetrainStart c t s
  | .retrainEnd c margin t => Sys2Proof.Machine.execRetrainEnd c margin t s
  | .retrainNow c t => Sys2Proof.Machine.execRetrainNow c t s
  | .srEnter c t => Sys2Proof.Machine.execSrEnter c t s
  | .srExit c t => Sys2Proof.Machine.execSrExit c t s
  | .offlineChannel c t => Sys2Proof.Machine.execOfflineChannel c t s
  | .returnChannel c t => Sys2Proof.Machine.execReturnChannel c t s
  | .bistGo c t => Sys2Proof.Machine.execBistGo c t s
  | .bistDone c bad t => Sys2Proof.Machine.execBistDone c bad t s
  | .dramAccess port a n wr v flip0 flip1 lat fwd stall t => Sys2Proof.Machine.execDramAccess port a n wr v flip0 flip1 lat fwd stall t s
  | .sramParity b array ofs bytes loc pkt t => Sys2Proof.Machine.execSramParity b array ofs bytes loc pkt t s
  | .patrolRead t => Sys2Proof.Machine.execPatrolRead t s
  | .patBadRead t => Sys2Proof.Machine.execPatBadRead t s
  | .barAccess fn a n v t => Sys2Proof.Machine.execBarAccess fn a n v t s
  | .doorbell fn q tail t => Sys2Proof.Machine.execDoorbell fn q tail t s
  | .descriptorFetch q bytes poison failed t => Sys2Proof.Machine.execDescriptorFetch q bytes poison failed t s
  | .tileRegRead q idx t => Sys2Proof.Machine.execTileRegRead q idx t s
  | .tileRegWrite q idx t => Sys2Proof.Machine.execTileRegWrite q idx t s
  | .tileRegWriteMasked q idx t => Sys2Proof.Machine.execTileRegWriteMasked q idx t s
  | .tileRegPing q idx t => Sys2Proof.Machine.execTileRegPing q idx t s
  | .layerRead q idx t => Sys2Proof.Machine.execLayerRead q idx t s
  | .layerWrite q idx t => Sys2Proof.Machine.execLayerWrite q idx t s
  | .layerWriteMasked q idx t => Sys2Proof.Machine.execLayerWriteMasked q idx t s
  | .cardWrite q idx t => Sys2Proof.Machine.execCardWrite q idx t s
  | .cardCopy q idx data bad t => Sys2Proof.Machine.execCardCopy q idx data bad t s
  | .upload q idx data bad t => Sys2Proof.Machine.execUpload q idx data bad t s
  | .departWrite q idx t => Sys2Proof.Machine.execDepartWrite q idx t s
  | .departCancel q idx t => Sys2Proof.Machine.execDepartCancel q idx t s
  | .queueDisable q t => Sys2Proof.Machine.execQueueDisable q t s
  | .ruleCommit t => Sys2Proof.Machine.execRuleCommit t s
  | .ruleDone t => Sys2Proof.Machine.execRuleDone t s
  | .flr f t => Sys2Proof.Machine.execFlr f t s
  | .perstN t => Sys2Proof.Machine.execPerstN t s
  | .sendMessage c k t => Sys2Proof.Machine.execSendMessage c k t s
  | .popMessage c k t => Sys2Proof.Machine.execPopMessage c k t s
  | .mailboxTimeout c k t => Sys2Proof.Machine.execMailboxTimeout c k t s
  | .testGo id target retries t => Sys2Proof.Machine.execTestGo id target retries t s
  | .testDone result detail t => Sys2Proof.Machine.execTestDone result detail t s
  | .testResume t => Sys2Proof.Machine.execTestResume t s
  | .leadWaitEnd t => Sys2Proof.Machine.execLeadWaitEnd t s
  | .streamGap p t => Sys2Proof.Machine.execStreamGap p t s
  | .handover t => Sys2Proof.Machine.execHandover t s
  | .resyncRelief t => Sys2Proof.Machine.execResyncRelief t s
  | .clusterState r t => Sys2Proof.Machine.execClusterState r t s
  | .epochRequest t => Sys2Proof.Machine.execEpochRequest t s
  | .epochCancel t => Sys2Proof.Machine.execEpochCancel t s
  | .masterLost t => Sys2Proof.Machine.execMasterLost t s
  | .roundDone raw vb t => Sys2Proof.Machine.execRoundDone raw vb t s
  | .graceEnd t => Sys2Proof.Machine.execGraceEnd t s
  | .enforceNow t => Sys2Proof.Machine.execEnforceNow t s
  | .engDivStep t => Sys2Proof.Machine.execEngDivStep t s
  | .brokenClear mask t => Sys2Proof.Machine.execBrokenClear mask t s
  | .calRun t => Sys2Proof.Machine.execCalRun t s
  | .fieldDone ref gnd t => Sys2Proof.Machine.execFieldDone ref gnd t s
  | .confirmMc t => Sys2Proof.Machine.execConfirmMc t s
  | .confirmLc t => Sys2Proof.Machine.execConfirmLc t s
  | .confirmWindowEnd cpu t => Sys2Proof.Machine.execConfirmWindowEnd cpu t s
  | .rbCommit secure t => Sys2Proof.Machine.execRbCommit secure t s
  | .checkDone k t => Sys2Proof.Machine.execCheckDone k t s
  | .serviceFrame f t => Sys2Proof.Machine.execServiceFrame f t s
  | .svpLinkUp t => Sys2Proof.Machine.execSvpLinkUp t s
  | .svpLinkDown t => Sys2Proof.Machine.execSvpLinkDown t s
  | .regRead d t => Sys2Proof.Machine.execRegRead d t s
  | .regWrite d t => Sys2Proof.Machine.execRegWrite d t s
  | .slotOpen d t => Sys2Proof.Machine.execSlotOpen d t s
  | .slotData d full t => Sys2Proof.Machine.execSlotData d full t s
  | .slotClose d t => Sys2Proof.Machine.execSlotClose d t s
  | .mbx d t => Sys2Proof.Machine.execMbx d t s
  | .keyRevoke d t => Sys2Proof.Machine.execKeyRevoke d t s
  | .sessionTimeout t => Sys2Proof.Machine.execSessionTimeout t s
  | .rowSelectEdge t => Sys2Proof.Machine.execRowSelectEdge t s

end Sys2Proof.Machine
end

