-- ==== Sys2Proof/Machine/Step.lean ====
section
/-!
DEFINITION. One step of the block: the command at the front of the queue, or one cycle of the time clock.
-/
namespace Sys2Proof.Machine

/-- Nothing is commanded: a running module's time counter counts one cycle of the time clock (R89). -/
def State.idle (s : State) : State :=
  match s.power with
  | .running => { s with frc := s.frc + 1 }
  | _ => s

/-- Take the command at the front of the queue and run it; an empty queue idles. -/
def step (s : State) : Host.Outcome State Fault Refusal :=
  match s.pending with
  | [] => .next s.idle
  | c :: r => exec c { s with pending := r }

/-- The command that a word spells, put at the front of the queue; no word spells one. -/
def State.withFetchWord (s : State) (nbits w : Nat) : State :=
  match decodeTableWord nbits w with
  | some c => { s with pending := c :: s.pending }
  | none => s

end Sys2Proof.Machine
end

