-- ==== Sys2Proof/Machine/Pins.lean ====
section
/-!
DEFINITION. The output levels outside service (R9, R349, R351, R371, R378, R571, R572): for each output, whether it is held and
at which level.
-/
namespace Sys2Proof.Machine

/-- The outputs of Table 20-5: clock group `g` of the sink bus; ADDR, EN and BLANK of row port `p`; EN and PWM of rail channel
`c`; the transmitter of lane `l`; and the single ones. -/
inductive Pin where
  | sink (g : Nat) | rowAddr (p : Nat) | rowEn (p : Nat) | rowBlank (p : Nat) | railEn (c : Nat) | railPwm (c : Nat)
  | laneTx (l : Nat) | pcieTx | svcTx | tickout | ppsout | intN | gpio (k : Nat) | aux (k : Nat)
deriving DecidableEq, Repr

/-- The levels of Table 20-5; `inactive` is the level opposite to a pulse of that POL. -/
inductive Level where
  | diffZero | zero | low | high | electricalIdle | inactive (pol : Nat) | highZ | inputDown | on
deriving DecidableEq, Repr

/-- The level that an output takes when it is held. -/
def State.restLevel (s : State) : Pin → Level
  | .sink _ => .diffZero
  | .rowAddr _ => .zero
  | .rowEn _ => .low
  | .rowBlank _ => .high
  | .railEn _ => .low
  | .railPwm _ => .low
  | .laneTx _ => .electricalIdle
  | .pcieTx => .electricalIdle
  | .svcTx => .electricalIdle
  | .tickout => .inactive (s.get R.DEP.TICKOUT_CFG.POL)
  | .ppsout => .inactive 0
  | .intN => .highZ
  | .gpio _ => .inputDown
  | .aux _ => .on

/-- The module is in reset (R570, R516). -/
def State.inResetNow (s : State) : Bool := s.power == .held || s.power == .hot

/-- SCN drives no sink bus: a sender, EN = 0, or a freeze once the subframe in which it began has ended (R9, R371). -/
def State.scanOff (s : State) : Bool :=
  s.inResetNow || s.role == .sender || !s.enabled B.scn || (s.frozen B.scn && s.scn.blank)

/-- An output is held at its level of Table 20-5. -/
def State.held (s : State) : Pin → Bool
  | .sink g => s.scanOff || (timetable s.scn.force).groups ≤ g
  | .rowAddr _ => s.scanOff
  | .rowEn p => s.scanOff || !bitAt (timetable s.scn.force).ports p
  | .rowBlank p => s.scanOff || !bitAt (timetable s.scn.force).ports p || s.scn.blank || s.dep.last.isNone || s.on R.SCN.SCN_STAT.GAP
  | .railEn c => !s.railDriven c
  | .railPwm c => !s.railDriven c
  | .laneTx l =>
    s.inResetNow || (if l < 8 then s.role == .tile else s.get (R.LNK.PORT_STAT.STAGE (lanePort l)) == Stage.disabled)
  | .pcieTx => s.inResetNow || s.role == .tile
  | .svcTx => s.inResetNow || s.role == .tile || !s.on R.SVP.SVP_CTRL.PORT_EN
  | .tickout => s.inResetNow || !s.timeValid || !s.on R.DEP.TICKOUT_CFG.EN
  | .ppsout => s.inResetNow || !s.timeValid || !s.on R.TIM.PPS_CFG.EN
  | .intN => s.inResetNow || !s.intN
  | .gpio _ => s.inResetNow
  | .aux _ => s.inResetNow

/-- The level of an output that is held, none of one in service. After the 5 V rail has fallen only the rail outputs are known
(R376, R572). -/
def State.pinLevel (s : State) (p : Pin) : Option Level :=
  match s.power with
  | .off => none
  | .sagged => (match p with | .railEn _ => some .low | .railPwm _ => some .low | _ => none)
  | _ => if s.held p then some (s.restLevel p) else none

end Sys2Proof.Machine
end

