-- ==== Sys2Proof/WellFormed.lean ====
section
/-!
DEFINITION. Which operands a command can carry: each at the width of the register, message or pin that it comes from. A
command with other operands is none that the hardware can receive.
-/
namespace Sys2Proof
namespace Machine

/-- The base address of a page (Table 3-5). -/
def isPage (b : Nat) : Bool := (pageAt b).isSome && b % 0x1000 == 0

/-- The widths of an access in bytes that R66 speaks of. -/
def accessBytes (n : Nat) : Bool := n == 1 || n == 2 || n == 4 || n == 8

/-- A list of 32-bit words, at most `n`. -/
def wordsFit (l : List Nat) (n : Nat) : Bool := l.length ≤ n && l.all (fun v => v < 2 ^ 32)

/-- An integer that fits `n` bits in two's complement. -/
def fits (n : Nat) (i : Int) : Bool := -(2 : Int) ^ (n - 1) ≤ i && i < (2 : Int) ^ (n - 1)

/-- A tenant number of 0 to 15; an ISSUER of 5 bits. -/
def Agent.fit : Agent → Bool
  | .tenant t => t < 16
  | .mc _ => true
  | .service => true
  | .line i => i < 32

/-- The fuse content at its widths (R522, R525). -/
def Fuses.fit (f : Fuses) : Bool :=
  f.stored < 2 ^ 32 && f.computed < 2 ^ 32 && f.stepping < 16 && f.lotLo < 2 ^ 32 && f.lotHi < 2 ^ 32 && f.wafer < 32 &&
  f.dieX < 256 && f.dieY < 256 && wordsFit f.serial 3 && f.mac < 2 ^ 48 && f.keys < 16 &&
  f.hashes.length ≤ 4 && f.hashes.all (· < 2 ^ 384)

/-- Schedule, Table 4-6. -/
def Sched.fit (x : Sched) : Bool := x.n0 < 2 ^ 64 && x.rate < 16 && wordsFit x.vphase 3

/-- Table 4-5. -/
def TimeMsg.fit (m : TimeMsg) : Bool := m.seq < 2 ^ 16 && m.k < 256 && 0 ≤ m.origin && fits 64 m.corr

/-- Table 4-6. -/
def SchedMsg.fit (m : SchedMsg) : Bool := m.seq < 2 ^ 16 && m.sched.fit && m.mode < 2 ^ 32 && m.dark < 16

/-- Table 8-7. -/
def CapxMsg.fit (m : CapxMsg) : Bool :=
  m.fn < 256 && m.level < 256 && m.features < 256 && m.rxGood < 16 && m.typeId < 2 ^ 16 && m.stepping < 16 && m.serial < 2 ^ 96

/-- Table 8-13. -/
def LinkStateMsg.fit (m : LinkStateMsg) : Bool :=
  m.fn < 256 && m.stopU < 256 && m.stopD < 256 && m.stage < 8 && m.width < 4 && m.lanes < 256 && 1 ≤ m.cause && m.cause ≤ 5

/-- Table 9-2. -/
def EnumMsg.fit (m : EnumMsg) : Bool := 1 ≤ m.stop && m.stop < 256 && m.lineId < 2 ^ 16 && m.run < 2 ^ 16

/-- Table 9-2. -/
def EnumRsp.fit (m : EnumRsp) : Bool :=
  1 ≤ m.stop && m.stop < 256 && m.other < 256 && m.lineId < 2 ^ 16 && m.run < 2 ^ 16 && m.typeId < 2 ^ 16 && m.stepping < 16 &&
  m.serial < 2 ^ 96

/-- Table 9-5: OP 1 to 4, COUNT 1 to 8. -/
def ReqMsg.fit (m : ReqMsg) : Bool :=
  1 ≤ m.op && m.op ≤ 4 && 1 ≤ m.count && m.count ≤ 8 && m.stop < 256 && m.src < 2 ^ 16 && m.tag < 2 ^ 16 && m.didx < 2 ^ 16 &&
  m.loc < 2 ^ 25 && m.mask < 2 ^ 32 && wordsFit m.data 8

/-- Table 9-5. -/
def RspMsg.fit (m : RspMsg) : Bool :=
  m.status < 16 && 1 ≤ m.count && m.count ≤ 8 && m.stop < 256 && m.src < 2 ^ 16 && m.tag < 2 ^ 16 && m.didx < 2 ^ 16 &&
  m.loc < 2 ^ 25 && wordsFit m.data 8

/-- Table 9-8. -/
def TelemMsg.fit (m : TelemMsg) : Bool :=
  m.stop < 256 && m.other < 256 && m.frame < 2 ^ 32 && m.epoch < 2 ^ 32 && m.digest < 2 ^ 64 && m.state < 256 && m.rx < 256 &&
  m.rule < 256 && m.temp < 256 && m.timeErr < 2 ^ 32 && m.lcrc < 2 ^ 16 && m.faults < 2 ^ 16 && m.evt < 2 ^ 64 &&
  m.ident < 2 ^ 64 && m.rails < 2 ^ 24 && m.zones < 256 && m.underruns < 2 ^ 16

/-- Table 9-7: 1 to 48 bytes of data. -/
def SvcMsg.fit (m : SvcMsg) : Bool := m.stop < 256 && m.session < 2 ^ 16 && m.seq < 2 ^ 16 && m.data.length ≤ 48

/-- Table 9-7. -/
def SvcAck.fit (m : SvcAck) : Bool := m.status < 256 && m.stop < 256 && m.session < 2 ^ 16 && m.ack < 2 ^ 16

/-- Table 16-3. -/
def MirrorRec.fit : MirrorRec → Bool
  | .write loc d na nb => loc < 2 ^ 25 && wordsFit d 12 && na < 256 && nb < 256
  | .arm _ loc => loc < 2 ^ 25
  | .entry i time act arg ofs op => i < 256 && time < 2 ^ 64 && act < 2 ^ 32 && arg < 2 ^ 32 && fits 32 ofs && op < 256
  | .frame part m groups epoch mfade lfades =>
    part < 2 && m < 2 ^ 64 && groups < 2 ^ 16 && epoch < 2 ^ 32 && mfade < 2 ^ 32 && wordsFit lfades 8
  | .imageStart n => n < 2 ^ 32
  | .image loc d na nb => loc < 2 ^ 25 && wordsFit d 12 && na < 256 && nb < 256
  | .imageEnd d => d < 2 ^ 64

/-- Table 9-7. -/
def MirrorMsg.fit (m : MirrorMsg) : Bool := m.seq < 2 ^ 16 && m.body.fit

/-- Table 16-6. -/
def ClusterRec.fit (r : ClusterRec) : Bool :=
  r.member < 32 && r.flags < 2 ^ 8 && r.level < 256 && r.frame < 2 ^ 32 && r.epoch < 2 ^ 32 && r.digest < 2 ^ 64 &&
  r.pEpoch < 2 ^ 32 && r.pDigest < 2 ^ 64 && fits 32 r.timeErr && r.orgX < 2 ^ 32 && r.orgY < 2 ^ 32 && r.cw < 2 ^ 16 && r.ch < 2 ^ 16 &&
  r.cmd < 256 && r.cmdArg < 2 ^ 8 && r.cEpoch < 2 ^ 32 && r.cFlip < 2 ^ 64 && r.cDeadline < 2 ^ 64 && r.sched.fit

/-- Table 9-4. -/
def FrameHdr.fit (h : FrameHdr) : Bool :=
  h.view < 4 && h.views < 4 && h.coding < 4 && h.frame < 2 ^ 32 && h.nshare < 255 && h.health < 2 ^ 16

/-- Table 9-4. -/
def ShareHdr.fit (k : ShareHdr) : Bool := k.stop < 256 && k.w < 2 ^ 15 && k.h < 2 ^ 15

/-- Table 9-4. -/
def ShareTrl.fit (k : ShareTrl) : Bool := k.stop < 256 && k.crc < 2 ^ 32 && k.rows < 2 ^ 14

/-- An Ethernet frame: a sixteenth of a cycle, a tag of 12 bits, addresses and ports of IPv4 and UDP. -/
def EthFrame.fit (f : EthFrame) : Bool :=
  f.frac < 16 && (match f.vlan with | some v => v < 2 ^ 16 | none => true) &&
  (match f.body with
   | .udp src dst port size _ => src < 2 ^ 32 && dst < 2 ^ 32 && port < 2 ^ 16 && size < 2 ^ 16
   | .control => true
   | .other => true)

/-- A service datagram of at most 960 bytes of data (R546). -/
def Dgram.fit (d : Dgram) : Bool :=
  d.from_.ip < 2 ^ 32 && d.from_.udp < 2 ^ 16 && d.from_.at_ < 2 ^ 32 && d.udp < 2 ^ 16 && d.seq < 2 ^ 16 && d.slot < 256 &&
  d.count < 2 ^ 16 && d.addr < 2 ^ 64 && d.data.length ≤ 960

/-- R544. -/
def SvpFrame.fit : SvpFrame → Bool
  | .arp ip => ip < 2 ^ 32
  | .unknown op d => op < 256 && d.fit
  | .other => true

end Machine

open Machine

/-- The command is well-formed. -/
def Instr.wellFormed : Instr → Bool
  | .powerUp _ => true
  | .internal5vLoss => true
  | .resetN _ => true
  | .resetRelease strap _ f _ => strap < 4 && f.fit
  | .softwareReset => true
  | .modrst => true
  | .thermalReset t => t < 2 ^ 64
  | .shutdownRestart => true
  | .refclkLost _ t => t < 2 ^ 64
  | .retAuto _ t => t < 2 ^ 64
  | .retNow _ t => t < 2 ^ 64
  | .registerWrite who a n v t => who.fit && a < 2 ^ 25 && accessBytes n && v < 2 ^ 64 && t < 2 ^ 64
  | .rcRead who a n t => who.fit && a < 2 ^ 25 && accessBytes n && t < 2 ^ 64
  | .evtPendClear b v t => isPage b && v < 2 ^ 32 && t < 2 ^ 64
  | .evtSet b v t => isPage b && v < 2 ^ 32 && t < 2 ^ 64
  | .evtEnWrite b v t => isPage b && v < 2 ^ 32 && t < 2 ^ 64
  | .errInfoClear b t => isPage b && t < 2 ^ 64
  | .pageEnable b t => isPage b && t < 2 ^ 64
  | .pageDisable b t => isPage b && t < 2 ^ 64
  | .softReset b t => isPage b && t < 2 ^ 64
  | .commitArm b t => isPage b && t < 2 ^ 64
  | .commitDisarm b t => isPage b && t < 2 ^ 64
  | .freezePage b t => isPage b && t < 2 ^ 64
  | .unfreezePage b t => isPage b && t < 2 ^ 64
  | .hwFreeze b t => isPage b && t < 2 ^ 64
  | .modeNextWrite v t => v < 2 ^ 32 && t < 2 ^ 64
  | .modeFallbackWrite v t => v < 2 ^ 32 && t < 2 ^ 64
  | .frameDeparture n t => n < 2 ^ 64 && t < 2 ^ 64
  | .viewDeparture n k t => n < 2 ^ 64 && 1 ≤ k && k < 4 && t < 2 ^ 64
  | .commitEntry i _ t => i < 256 && t < 2 ^ 64
  | .epochFlip i _ t => i < 256 && t < 2 ^ 64
  | .scheduleEntry i _ t => i < 256 && t < 2 ^ 64
  | .fwActivate i _ t => i < 256 && t < 2 ^ 64
  | .railStep i _ t => i < 256 && t < 2 ^ 64
  | .wallSwitch i _ t => i < 256 && t < 2 ^ 64
  | .pulse i _ t => i < 256 && t < 2 ^ 64
  | .markEntry i _ t => i < 256 && t < 2 ^ 64
  | .entMissed i t => i < 256 && t < 2 ^ 64
  | .entWrite t => t < 2 ^ 64
  | .entRead t => t < 2 ^ 64
  | .entCancel t => t < 2 ^ 64
  | .startupEpochLoad t => t < 2 ^ 64
  | .domMeas d w _ t => d < 2 && w < 2 ^ 32 && t < 2 ^ 64
  | .domainEnable d t => d < 2 && t < 2 ^ 64
  | .domainDisable d t => d < 2 && t < 2 ^ 64
  | .domainLossTimeout d t => d < 2 && t < 2 ^ 64
  | .switchNow _ t => t < 2 ^ 64
  | .wallSelWrite d _ t => d < 2 && t < 2 ^ 64
  | .slewEnd t => t < 2 ^ 64
  | .timeInterval t => t < 2 ^ 64
  | .timeMessage p m inF outF t => p < 2 && m.fit && inF < 2 ^ 68 && outF < 2 ^ 68 && t < 2 ^ 64
  | .schedInterval t => t < 2 ^ 64
  | .sched p m t => p < 2 && m.fit && t < 2 ^ 64
  | .ldInterval p t1 t => p < 2 && t1 < 2 ^ 68 && t < 2 ^ 64
  | .ldReq p q t2 t3 t => p < 2 && q < 2 ^ 16 && t2 < 2 ^ 68 && t3 < 2 ^ 68 && t < 2 ^ 64
  | .ldRsp p q _ t4 t => p < 2 && q < 2 ^ 16 && t4 < 2 ^ 68 && t < 2 ^ 64
  | .ldTimeout p t => p < 2 && t < 2 ^ 64
  | .tickin f16 t => f16 < 2 ^ 68 && t < 2 ^ 64
  | .tickWindowEnd t => t < 2 ^ 64
  | .frameSrcWrite v t => v < 4 && t < 2 ^ 64
  | .tickoutPulse t => t < 2 ^ 64
  | .ppsPulse t => t < 2 ^ 64
  | .ethLinkUp p t => p < 4 && t < 2 ^ 64
  | .ethLinkDown p t => p < 4 && t < 2 ^ 64
  | .ethFrame p f _ _ t => p < 4 && f.fit && t < 2 ^ 64
  | .ingPacket t => t < 2 ^ 64
  | .mergeWaitEnd k t => k < 32 && t < 2 ^ 64
  | .legLost k l t => k < 32 && l < 2 && t < 2 ^ 64
  | .flowLost k t => k < 32 && t < 2 ^ 64
  | .flowEnable k v t => k < 32 && v < 2 ^ 32 && t < 2 ^ 64
  | .flowDisable k v t => k < 32 && v < 2 ^ 32 && t < 2 ^ 64
  | .legEnable k v t => k < 32 && v < 2 ^ 32 && t < 2 ^ 64
  | .cardCheck t => t < 2 ^ 64
  | .cardCheckDone t => t < 2 ^ 64
  | .cardSyncDone t => t < 2 ^ 64
  | .spireCheck t => t < 2 ^ 64
  | .spireSyncDone t => t < 2 ^ 64
  | .otgFrameStart t => t < 2 ^ 64
  | .blankStart _ _ t => t < 2 ^ 64
  | .otgAbort _ _ _ _ t => t < 2 ^ 64
  | .monitorFrame t => t < 2 ^ 64
  | .trainingFrame l ctl sta _ _ ask _ t => l < 16 && ctl < 2 ^ 24 && sta < 2 ^ 24 && ask < 2 ^ 13 && t < 2 ^ 64
  | .trainTimeout l t => l < 16 && t < 2 ^ 64
  | .trainGiveUp l t => l < 16 && t < 2 ^ 64
  | .laneLocked l _ found _ t => l < 16 && found < 4 && t < 2 ^ 64
  | .lockEnd p t => p < 2 && t < 2 ^ 64
  | .capxSend p t => p < 2 && t < 2 ^ 64
  | .capx p m t => p < 2 && m.fit && t < 2 ^ 64
  | .capxTimeout p t => p < 2 && t < 2 ^ 64
  | .retryInterval p t => p < 2 && t < 2 ^ 64
  | .restartPort p t => p < 2 && t < 2 ^ 64
  | .maxWidthWrite p v t => p < 2 && v < 4 && t < 2 ^ 64
  | .groupHeader p rx t => p < 2 && rx.all (fun e => e.1 < 4 && e.2 < 2 ^ 680) && t < 2 ^ 64
  | .replayTimeout p t => p < 2 && t < 2 ^ 64
  | .laneFault l t => l < 16 && t < 2 ^ 64
  | .retrainDone l _ t => l < 16 && t < 2 ^ 64
  | .laneRetry l t => l < 16 && t < 2 ^ 64
  | .laneRetire l t => l < 16 && t < 2 ^ 64
  | .linkState p m t => p < 2 && m.fit && t < 2 ^ 64
  | .enumStart p t => p < 2 && t < 2 ^ 64
  | .enumMsg p m t => p < 2 && m.fit && t < 2 ^ 64
  | .enumRsp p m t => p < 2 && m.fit && t < 2 ^ 64
  | .enumTimeout p t => p < 2 && t < 2 ^ 64
  | .frameHeader p h _ member t => p < 2 && h.fit && member < 32 && t < 2 ^ 64
  | .shareHeader p k _ t => p < 2 && k.fit && t < 2 ^ 64
  | .segmentHeader p view round frame _ t => p < 2 && view < 4 && round < 2 ^ 14 && frame < 2 ^ 32 && t < 2 ^ 64
  | .rowData p round _ _ t => p < 2 && round < 2 ^ 14 && t < 2 ^ 64
  | .shareTrailer p tr _ t => p < 2 && tr.fit && t < 2 ^ 64
  | .viewTrailer p view frame _ t => p < 2 && view < 4 && frame < 2 ^ 32 && t < 2 ^ 64
  | .req p m t => p < 2 && m.fit && t < 2 ^ 64
  | .readTxn t => t < 2 ^ 64
  | .writeTxn t => t < 2 ^ 64
  | .writeMasked t => t < 2 ^ 64
  | .ping t => t < 2 ^ 64
  | .rsp p m t => p < 2 && m.fit && t < 2 ^ 64
  | .txnTimeout p didx t => p < 2 && didx < 2 ^ 16 && t < 2 ^ 64
  | .creditRelease p didx t => p < 2 && didx < 2 ^ 16 && t < 2 ^ 64
  | .svc p m _ t => p < 2 && m.fit && t < 2 ^ 64
  | .svcAck p m t => p < 2 && m.fit && t < 2 ^ 64
  | .svcResend p k t => p < 2 && 1 ≤ k && k < 255 && t < 2 ^ 64
  | .mirrorRecord p m t => p < 2 && m.fit && t < 2 ^ 64
  | .mirrorGap t => t < 2 ^ 64
  | .telem p m t => p < 2 && m.fit && t < 2 ^ 64
  | .jrTail v t => v < 4096 && t < 2 ^ 64
  | .compress q _ t => (match q with | some x => x.1 < 8192 && x.2 < 4096 | none => true) && t < 2 ^ 64
  | .decompress q _ t => (match q with | some x => x.1 < 8192 && x.2 < 4096 | none => true) && t < 2 ^ 64
  | .jobDone t => t < 2 ^ 64
  | .abortJob t => t < 2 ^ 64
  | .passDone t => t < 2 ^ 64
  | .bankSyncStart t => t < 2 ^ 64
  | .bankSyncDone t => t < 2 ^ 64
  | .apertureWrite ofs n v t => ofs < 0x400000 && accessBytes n && v < 2 ^ 64 && t < 2 ^ 64
  | .uplCmdGo v t => v < 2 ^ 32 && t < 2 ^ 64
  | .copyRegions t => t < 2 ^ 64
  | .copyPack t => t < 2 ^ 64
  | .copyPacked t => t < 2 ^ 64
  | .unitRecords t => t < 2 ^ 64
  | .uplCommandEnd t => t < 2 ^ 64
  | .uplDoneRead t => t < 2 ^ 64
  | .gapStart t => t < 2 ^ 64
  | .readbackWindowEnd groups t => groups.all (fun g => g.2.all (fun r => r < 2 ^ 32)) && t < 2 ^ 64
  | .flipSend t => t < 2 ^ 64
  | .loadStart t => t < 2 ^ 64
  | .loadDone t => t < 2 ^ 64
  | .loadDeadline t => t < 2 ^ 64
  | .bandClose b t => b < 2 ^ 15 && t < 2 ^ 64
  | .bandFlip b t => b < 2 ^ 15 && t < 2 ^ 64
  | .ttCheck t => t < 2 ^ 64
  | .ttCheckDone t => t < 2 ^ 64
  | .ttSyncDone t => t < 2 ^ 64
  | .rampStep c mv ma t => c < 24 && mv < 2 ^ 16 && ma < 2 ^ 16 && t < 2 ^ 64
  | .railReady c mv ma t => c < 24 && mv < 2 ^ 16 && ma < 2 ^ 16 && t < 2 ^ 64
  | .discharged c mv t => c < 24 && mv < 2 ^ 16 && t < 2 ^ 64
  | .disTimeout c mv ma t => c < 24 && mv < 2 ^ 16 && ma < 2 ^ 16 && t < 2 ^ 64
  | .overcurrent c _ mv ma t => c < 24 && mv < 2 ^ 16 && ma < 2 ^ 16 && t < 2 ^ 64
  | .overvoltage c mv ma t => c < 24 && mv < 2 ^ 16 && ma < 2 ^ 16 && t < 2 ^ 64
  | .undervoltage c mv ma t => c < 24 && mv < 2 ^ 16 && ma < 2 ^ 16 && t < 2 ^ 64
  | .externalFault c mv ma t => c < 24 && mv < 2 ^ 16 && ma < 2 ^ 16 && t < 2 ^ 64
  | .clrFault c t => c < 24 && t < 2 ^ 64
  | .auxLimit k t => k < 2 && t < 2 ^ 64
  | .auxRetry k _ t => k < 2 && t < 2 ^ 64
  | .latchClear mask t => mask < 2 ^ 64 && t < 2 ^ 64
  | .faultMapWrite ofs n v t => ofs < 0x100000 && accessBytes n && v < 2 ^ 64 && t < 2 ^ 64
  | .trainDone c _ t => c < 4 && t < 2 ^ 64
  | .dramTrainTimeout c t => c < 4 && t < 2 ^ 64
  | .fillDone c t => c < 4 && t < 2 ^ 64
  | .resilverDone c t => c < 4 && t < 2 ^ 64
  | .retrainStart c t => c < 4 && t < 2 ^ 64
  | .retrainEnd c _ t => c < 4 && t < 2 ^ 64
  | .retrainNow c t => c < 4 && t < 2 ^ 64
  | .srEnter c t => c < 4 && t < 2 ^ 64
  | .srExit c t => c < 4 && t < 2 ^ 64
  | .offlineChannel c t => c < 4 && t < 2 ^ 64
  | .returnChannel c t => c < 4 && t < 2 ^ 64
  | .bistGo c t => c < 4 && t < 2 ^ 64
  | .bistDone c _ t => c < 4 && t < 2 ^ 64
  | .dramAccess port a _ _ _ _ _ _ _ _ t => port < 8 && a < 2 ^ 64 && t < 2 ^ 64
  | .sramParity b _ _ _ loc pkt t =>
    isPage b && (loc < 2 ^ 25 || (2 ^ 32 ≤ loc && loc < 2 ^ 32 + 0x100000)) && (match pkt with | some (k, l, _) => b == 0x40000 && k < 32 && l < 2 | none => true) && t < 2 ^ 64
  | .patrolRead t => t < 2 ^ 64
  | .patBadRead t => t < 2 ^ 64
  | .barAccess fn a _ _ t => fn < 16 && a < 2 ^ 25 && t < 2 ^ 64
  | .doorbell fn q tail t => fn < 16 && q < 8192 && tail < 4096 && t < 2 ^ 64
  | .descriptorFetch q bytes _ _ t => q < 8192 && bytes.length = 64 && t < 2 ^ 64
  | .tileRegRead q idx t => q < 8192 && idx < 4096 && t < 2 ^ 64
  | .tileRegWrite q idx t => q < 8192 && idx < 4096 && t < 2 ^ 64
  | .tileRegWriteMasked q idx t => q < 8192 && idx < 4096 && t < 2 ^ 64
  | .tileRegPing q idx t => q < 8192 && idx < 4096 && t < 2 ^ 64
  | .layerRead q idx t => q < 8192 && idx < 4096 && t < 2 ^ 64
  | .layerWrite q idx t => q < 8192 && idx < 4096 && t < 2 ^ 64
  | .layerWriteMasked q idx t => q < 8192 && idx < 4096 && t < 2 ^ 64
  | .cardWrite q idx t => q < 8192 && idx < 4096 && t < 2 ^ 64
  | .cardCopy q idx _ _ t => q < 8192 && idx < 4096 && t < 2 ^ 64
  | .upload q idx data _ t => q < 8192 && idx < 4096 && data.length ≤ 32 && t < 2 ^ 64
  | .departWrite q idx t => q < 8192 && idx < 4096 && t < 2 ^ 64
  | .departCancel q idx t => q < 8192 && idx < 4096 && t < 2 ^ 64
  | .queueDisable q t => q < 8192 && t < 2 ^ 64
  | .ruleCommit t => t < 2 ^ 64
  | .ruleDone t => t < 2 ^ 64
  | .flr f t => f < 16 && t < 2 ^ 64
  | .perstN t => t < 2 ^ 64
  | .sendMessage c k t => c < 24 && k < 2 && t < 2 ^ 64
  | .popMessage c k t => c < 24 && k < 2 && t < 2 ^ 64
  | .mailboxTimeout c k t => c < 24 && k < 2 && t < 2 ^ 64
  | .testGo id target retries t => id < 256 && target < 256 && retries < 16 && t < 2 ^ 64
  | .testDone result detail t => 1 ≤ result && result ≤ 3 && detail < 2 ^ 32 && t < 2 ^ 64
  | .testResume t => t < 2 ^ 64
  | .leadWaitEnd t => t < 2 ^ 64
  | .streamGap p t => p < 2 && t < 2 ^ 64
  | .handover t => t < 2 ^ 64
  | .resyncRelief t => t < 2 ^ 64
  | .clusterState r t => r.fit && t < 2 ^ 64
  | .epochRequest t => t < 2 ^ 64
  | .epochCancel t => t < 2 ^ 64
  | .masterLost t => t < 2 ^ 64
  | .roundDone raw _ t => raw.length = 64 && t < 2 ^ 64
  | .graceEnd t => t < 2 ^ 64
  | .enforceNow t => t < 2 ^ 64
  | .engDivStep t => t < 2 ^ 64
  | .brokenClear mask t => mask < 2 ^ 64 && t < 2 ^ 64
  | .calRun t => t < 2 ^ 64
  | .fieldDone _ _ t => t < 2 ^ 64
  | .confirmMc t => t < 2 ^ 64
  | .confirmLc t => t < 2 ^ 64
  | .confirmWindowEnd cpu t => cpu < 2 && t < 2 ^ 64
  | .rbCommit _ t => t < 2 ^ 64
  | .checkDone k t => k < 6 && t < 2 ^ 64
  | .serviceFrame f t => f.fit && t < 2 ^ 64
  | .svpLinkUp t => t < 2 ^ 64
  | .svpLinkDown t => t < 2 ^ 64
  | .regRead d t => d.fit && t < 2 ^ 64
  | .regWrite d t => d.fit && t < 2 ^ 64
  | .slotOpen d t => d.fit && t < 2 ^ 64
  | .slotData d _ t => d.fit && t < 2 ^ 64
  | .slotClose d t => d.fit && t < 2 ^ 64
  | .mbx d t => d.fit && t < 2 ^ 64
  | .keyRevoke d t => d.fit && t < 2 ^ 64
  | .sessionTimeout t => t < 2 ^ 64
  | .rowSelectEdge t => t < 2 ^ 64

end Sys2Proof
end

