-- ==== Sys2Proof/Safety.lean ====
section
/-!
DEFINITION. What counts as a safe state and a safe run, in the terms that claims use: the canonical form of every keyed list
and byte memory that State holds.
-/
namespace Sys2Proof.Machine

/-- The register file is in its one form: keys rise strictly. -/
def State.regsOk (s : State) : Prop := keysRise s.regs

/-- The values in force are in their one form. -/
def State.forceOk (s : State) : Prop := keysRise s.force

/-- DRAM is in its one form: addresses rise strictly, and no byte equals what an unlisted address reads as. -/
def State.dramOk (s : State) : Prop := Memory.wf zeroB s.mem.dram

/-- The canonical forms of the three keyed parts of the state. -/
def State.Canon (s : State) : Prop := s.regsOk ∧ s.forceOk ∧ s.dramOk

/-- Event `k` of the page at `b` is pending. -/
def State.raised (s : State) (b k : Nat) : Bool := bitAt (s.get (R.PG.EVT_PEND b)) k

/-- Every field outside a list reads in `t` as it reads in `s`. -/
def State.sameRegs (s t : State) (l : List Fld) : Prop := ∀ f : Fld, (∀ g ∈ l, f.key ≠ g.key) → t.get f = s.get f

/-- Every byte of DRAM reads in `t` as it reads in `s`. -/
def State.sameDram (s t : State) : Prop := ∀ a, readB zeroB t.mem.dram a = readB zeroB s.mem.dram a

/-! ### What a command leaves alone -/

/-- The parts of the state beside the register file; `starts` is what says which frame starts next, `dram` the bytes of
DRAM, `mem` the memory controllers' own state with them. -/
inductive Part where
  | role | power | frc | force | out | tim | dep | starts | ing | map | cmp | otg | mem | dram | scn | cor | rai | lfm | hkt
  | line | rdn | clu | que | mbx | klc | fwu
deriving DecidableEq, Repr

/-- The part `p` is in `s` what it is in `z`. -/
def State.samePart (s z : State) : Part → Prop
  | .role => s.role = z.role
  | .power => s.power = z.power
  | .frc => s.frc = z.frc
  | .force => s.force = z.force
  | .out => s.out = z.out
  | .tim => s.tim = z.tim
  | .dep => s.dep = z.dep
  | .starts => s.dep.last = z.dep.last ∧ s.dep.next = z.dep.next ∧ s.dep.loaded = z.dep.loaded
  | .ing => s.ing = z.ing
  | .map => s.map = z.map
  | .cmp => s.cmp = z.cmp
  | .otg => s.otg = z.otg
  | .mem => s.mem = z.mem
  | .dram => s.mem.dram = z.mem.dram
  | .scn => s.scn = z.scn
  | .cor => s.cor = z.cor
  | .rai => s.rai = z.rai
  | .lfm => s.lfm = z.lfm
  | .hkt => s.hkt = z.hkt
  | .line => s.line = z.line
  | .rdn => s.rdn = z.rdn
  | .clu => s.clu = z.clu
  | .que => s.que = z.que
  | .mbx => s.mbx = z.mbx
  | .klc => s.klc = z.klc
  | .fwu => s.fwu = z.fwu

/-- What may change: which parts, and which register fields. -/
structure May where
  part : Part → Prop
  fld : Fld → Prop

/-- `s` comes after `z`, and nothing but what `k` allows has changed: the canonical forms hold, the queue is that of `z`,
what `z` had sent is still there, no free value is drawn twice, and each part and each register field that `k` does not
name is what it was in `z`. -/
structure State.Keeps (s : State) (k : May) (z : State) : Prop where
  regs : s.regsOk
  force : s.forceOk
  dram : s.dramOk
  pending : s.pending = z.pending
  out : z.out <+: s.out
  fresh : z.fresh ≤ s.fresh
  part : ∀ p, k.part p ∨ s.samePart z p
  fld : ∀ f, (∃ g, k.fld g ∧ f.key = g.key) ∨ s.get f = z.get f

/-- Only the parts in `ps` and the register fields of the families in `fs` may change; a family gives a field for every index. -/
def May.of (ps : List Part) (fs : List (Nat → Nat → Nat → Fld)) : May :=
  ⟨fun p => p ∈ ps, fun f => ∃ g ∈ fs, ∃ a b c, f = g a b c⟩

/-- Only the parts in `ps` may change, and any register field. -/
def May.anyReg (ps : List Part) : May := ⟨fun p => p ∈ ps, fun _ => True⟩

/-- Whatever next state the command `c` answers at `s`, it leaves alone all that `k` does not name. -/
def State.leaves (s : State) (c : Instr) (k : May) : Prop := ∀ t, exec c s = .next t → t.Keeps k s

/-- The module runs, and the keyed parts of its state are in their canonical forms. -/
def State.up (s : State) : Prop := s.power = .running ∧ s.Canon

/-- The command `c` completes at `s`: it answers a next state, and that state is as `p` says. -/
def State.gives (s : State) (c : Instr) (p : State → Prop) : Prop := ∃ t, exec c s = .next t ∧ p t

/-- The queue of waiting commands holds only commands that the hardware can receive. -/
def State.queueOk (s : State) : Prop := ∀ c ∈ s.pending, c.wellFormed = true

end Sys2Proof.Machine
end

