-- ==== Sys2Proof/Certificates/Slice0/Obligations.lean ====
section
/-!
DEFINITION. The statements for the provers: what a step is, what reset leaves, what every command does where it completes,
what it leaves alone, and the invariants that every step keeps.
-/
open Sys2Proof Sys2Proof.Machine

/-- A step runs the command at the front of the queue. For every state whose queue begins with a command c, the step
  is exec of c on the state with the rest of the queue. On an empty queue a running module counts one cycle of the
  time clock and a module that does not run changes nothing (the model's choice, log entry 2). Rests on R89. -/
def Obligations.StepTakesTheFront : Prop :=
  (∀ (s : State) (c : Instr) (r : List Instr), s.pending = c :: r → step s = exec c { s with pending := r }) ∧
  (∀ s : State, s.pending = [] → s.power = .running → step s = .next { s with frc := s.frc + 1 }) ∧
  (∀ s : State, s.pending = [] → s.power ≠ .running → step s = .next s)

/-- What reset leaves: every field at its reset value, no command waiting, the canonical forms. State.reset reads
  every register field at the reset value of its row but the cause of the power-on reset, which reads 1; its queue is
  empty, its memories list nothing, its keyed parts are canonical and nothing has been sent. Which module and role it
  stands for is the model's choice (log entry 3). Rests on R70, R405, R414. -/
def Obligations.ResetState : Prop :=
  (∀ f : Fld, f.key ≠ R.RCK.RST_CAUSE.POWER_ON.key → State.reset.get f = f.rst) ∧
  State.reset.get R.RCK.RST_CAUSE.POWER_ON = 1 ∧ State.reset.Canon ∧ State.reset.queueOk ∧ State.reset.pending = [] ∧
  State.reset.mem.dram = [] ∧ State.reset.out = [] ∧ State.reset.frc = 0 ∧ State.reset.power = .running

/-- After a sag every command but a reset stops with undefinedAfterSag. In a module whose supply has sagged every
  command but powering up, a RESET_N pulse and a further loss of the 5 V rail ends in the fault undefinedAfterSag; the
  spec calls the state undefined until the next reset, and answering that with a fault is the model's choice. Rests on
  R376. -/
def Obligations.SaggedModuleStops : Prop :=
  ∀ (s : State) (c : Instr), s.power = .sagged → (∀ us, c ≠ .powerUp us) → c ≠ .internal5vLoss → (∀ ns, c ≠ .resetN ns) →
    exec c s = .fault .undefinedAfterSag

/-- No command stops on a module that has not sagged. For every command and every state of a module that has not
  sagged, with any operands, exec answers a next state. Rests on R8, R376. -/
def Obligations.EveryCommandCompletes : Prop :=
  ∀ (s : State) (c : Instr), s.power ≠ .sagged → ∃ t, exec c s = .next t

/-- No command of a running module takes back an output, reorders the queue, draws a free value twice or changes the
  role. For every running state in canonical form and every command: what was sent stays sent, the counter of free
  values never falls, the queue is unchanged by exec, and the role stays what its strap chose until the next release
  of reset. That outputs and free values are counted in these fields is the model's choice (log entries 5, 8 and 78).
  Rests on R569. -/
def Obligations.NothingIsTakenBack : Prop :=
  ∀ (s t : State) (c : Instr), s.up → exec c s = .next t →
    s.out <+: t.out ∧ s.fresh ≤ t.fresh ∧ t.pending = s.pending ∧ t.role = s.role

/-- Every step keeps the canonical forms of the registers, the values in force and DRAM. From every state whose
  register file, values in force and DRAM are in their canonical forms, whatever command is at the front of the queue,
  a step that answers a next state answers one in canonical form. Rests on R5, R74, R414. -/
def Obligations.CanonicalFormsAreKept : Prop :=
  ∀ s t : State, s.Canon → step s = .next t → t.Canon

/-- Every step keeps the queue free of commands that the hardware cannot receive. From every state in canonical form
  whose queue holds only well-formed commands, a step that answers a next state answers one with such a queue, which
  is the rest of the former one. Rests on R66. -/
def Obligations.WaitingCommandsStayWellFormed : Prop :=
  ∀ s t : State, s.Canon → s.queueOk → step s = .next t → t.queueOk ∧ t.pending = s.pending.drop 1

/-- An address in no page and no window reads as 0 and takes no write. For every agent, address, width and value: a
  read of an address that lies in no register page and in no window returns 0 and changes nothing else, and a write
  changes nothing; neither records an error. Quote: "An address that lies in no page of Table 3-5 and in no window of
  Table 3-6 reads as 0x0000_0000." (R67). -/
def Obligations.NowhereReadsZero : Prop :=
  (∀ (s : State) (who : Agent) (a n t : Nat), s.up → pageAt (a % 2 ^ 25) = none → windowAt (a % 2 ^ 25) = none →
    s.gives (.rcRead who a n t) fun u => u = (s.tick t).emit (.data (a % 2 ^ 25) n 0)) ∧
  (∀ (s : State) (who : Agent) (a n v t : Nat), s.up → pageAt (a % 2 ^ 25) = none → windowAt (a % 2 ^ 25) = none →
    s.gives (.registerWrite who a n v t) fun u => u = s.tick t)

/-- A page that is inactive in the role reads its identity and 0, takes no write and raises no event. For every agent
  and every aligned access to a page whose block is inactive in the current role: a read returns PG_ID at offset 0 and
  0 at every other offset, a write changes nothing, and the page raises no event. Quote: "A register page of a
  subsystem that is inactive in the current role returns its block type, instance and layout version in PG_ID and
  reads 0x0000_0000 at every other offset." (R10). -/
def Obligations.InactivePages : Prop :=
  (∀ (s : State) (who : Agent) (a n t : Nat) (k : PageKind) (i : Nat), s.up → pageAt (a % 2 ^ 25) = some (k, i) →
    activePage s.role k i = false → pageAccess (a % 2 ^ 25) n → s.gives (.rcRead who a n t) fun u => u = (s.tick
    t).emit (.data (a % 2 ^ 25) n (if a % 2 ^ 25 % 0x1000 = 0 then pageId k i else 0))) ∧
  (∀ (s : State) (who : Agent) (a n v t : Nat) (k : PageKind) (i : Nat), s.up → pageAt (a % 2 ^ 25) = some (k, i) →
    activePage s.role k i = false → pageAccess (a % 2 ^ 25) n → s.gives (.registerWrite who a n v t) fun u => u =
    s.tick t) ∧
  (∀ (s : State) (b k : Nat) (g : PageKind) (i : Nat), pageAt b = some (g, i) → activePage s.role g i = false → s.ev b k = s)

/-- Module reset and a CAL soft reset return every field trim to 0. After MODRST, the software reset, a RESET_N pulse
  of 10 µs or more and a soft reset of CAL, both TRIM_FIELD codes read 0. Quote: "Module reset and a CAL soft reset
  return every TRIM_FIELD to 0." (R524). -/
def Obligations.TrimsReturnToZero : Prop :=
  (∀ (s : State) , s.up → s.gives (.modrst) fun u => u.get (R.CAL.TRIM_FIELD.CODE 0) = 0 ∧ u.get
    (R.CAL.TRIM_FIELD.CODE 1) = 0) ∧
  (∀ (s : State) , s.up → s.gives (.softwareReset) fun u => u.get (R.CAL.TRIM_FIELD.CODE 0) = 0 ∧ u.get
    (R.CAL.TRIM_FIELD.CODE 1) = 0) ∧
  (∀ (s : State) (ns : Nat), s.up → 10000 ≤ ns → s.gives (.resetN ns) fun u => u.get (R.CAL.TRIM_FIELD.CODE 0) = 0 ∧
    u.get (R.CAL.TRIM_FIELD.CODE 1) = 0) ∧
  (∀ (s : State) (t : Nat), s.up → s.live B.cal → s.gives (.softReset B.cal t) fun u => u.get (R.CAL.TRIM_FIELD.CODE
    0) = 0 ∧ u.get (R.CAL.TRIM_FIELD.CODE 1) = 0)

/-- A retraining without a working setting leaves a DEGRADED channel that serves and retrains again. A READY channel
  whose retraining finds no setting keeps the margin of its last good values, becomes DEGRADED, still serves accesses
  and counts the failure; a DEGRADED channel starts its next retraining when one is due and still serves. Quote: "When
  retraining finds no working setting, the channel keeps its last good values and enters DEGRADED." (R416). -/
def Obligations.FailedRetrainingDegrades : Prop :=
  (∀ (s : State) (c t : Nat), s.up → c < 4 → s.live (B.mem c) → s.chFrozen c = false → s.mem.retraining.contains c →
    s.chState c = Ch.ready → s.gives (.retrainEnd c none t) fun u => u.mem.retraining = s.mem.retraining.filter (· !=
    c) ∧ u.chState c = Ch.degraded ∧ u.chServes c ∧ u.get (R.MEM.CH_STAT.MARGIN c) = s.get (R.MEM.CH_STAT.MARGIN c) ∧
    u.get (R.MEM.TRAIN_CNT.FAILED c) = min (s.get (R.MEM.TRAIN_CNT.FAILED c) + 1) (2 ^ (R.MEM.TRAIN_CNT.FAILED
    c).width - 1) ∧ u.raised (B.mem c) Ev.MEM.DEGRADED) ∧
  (∀ (s : State) (c t : Nat), s.up → c < 4 → s.chState c = Ch.degraded → s.chFrozen c = false → (s.tick t).retrainDue
    c → s.mem.retraining.contains c = false → s.gives (.retrainStart c t) fun u => u.mem.retraining = s.mem.retraining
    ++ [c] ∧ u.chState c = Ch.degraded ∧ u.chServes c)

/-- A start-up load whose mode check fails loads nothing. When the evaluation of the staged mode fails, the load
  leaves the module unloaded with the mode, the lock, the geometry, the schedule and every value in force as they
  were, raises MODE_REJECT and clears the enable of DEP; the next write of 1 to that enable makes the load wait again.
  Quote: "It raises MODE_REJECT, clears DEP.PG_CTRL.EN, and leaves DEP.MODE_CUR, LOCKED and GEOM unchanged." (R560).
  -/
def Obligations.RefusedStartUpLoad : Prop :=
  (∀ (s : State) (t : Nat) (c : Sched) (r : Nat × Nat), s.up → s.frozen B.dep = false → s.dep.loaded = false →
    s.dep.loadWait = true → (s.tick t).startSched = some c → s.modeFail s.modeNext s.envStaged = some r → s.gives
    (.startupEpochLoad t) fun u => u.dep.loaded = false ∧ u.raised B.dep Ev.DEP.MODE_REJECT ∧ u.get (R.PG.EN B.dep) =
    0 ∧ u.modeCur = s.modeCur ∧ u.get R.DEP.MODE_CHECK.LOCKED = s.get R.DEP.MODE_CHECK.LOCKED ∧ u.get R.COR.GEOM.TW =
    s.get R.COR.GEOM.TW ∧ u.get R.COR.GEOM.TH = s.get R.COR.GEOM.TH ∧ u.dep.loadWait = false ∧ u.tim.sched =
    s.tim.sched ∧ u.force = s.force) ∧
  (∀ (s : State) (t : Nat), s.up → s.dep.loaded = false → s.dep.loadWait = false → s.gives (.pageEnable B.dep t) fun u
    => u.dep.loadWait = true ∧ u.get (R.PG.EN B.dep) = 1 ∧ u.get (R.PG.BUSY B.dep) = 1)

/-- A mailbox channel queues, refuses and hands over its messages in order. With fewer than 4 messages in flight SEND
  queues the sixteen words of TX and counts them in flight; with 4 it only sets TX_FULL and counts the refusal, and TX
  keeps its words; POP removes the oldest message and shows the next in RX, and the POP that leaves none raises EMPTY
  of the sending side. Quote: "When fewer than 4 of its messages are in flight, the message is queued for the other
  side and TX_INFLIGHT increments." (R458). -/
def Obligations.MailboxSendAndPop : Prop :=
  (∀ (s : State) (c k t : Nat), s.up → c < 24 → k < 2 → s.works (B.mbx c) → ((s.chan c).sent k).length < 4 →
    s.line.svcIn = none → s.gives (.sendMessage c k t) fun u => (u.chan c).sent k = (s.chan c).sent k ++ [s.txWords c
    k] ∧ u.get (R.MBX.M_STAT.TX_FULL c k) = 0 ∧ u.get (R.MBX.M_STAT.TX_INFLIGHT c k) = ((s.chan c).sent k).length + 1
    ∧ u.raised (B.mbx c) (if k = 0 then Ev.MBX.B_MSG else Ev.MBX.A_MSG)) ∧
  (∀ (s : State) (c k t : Nat), s.up → c < 24 → k < 2 → s.works (B.mbx c) → 4 ≤ ((s.chan c).sent k).length →
    s.line.svcIn = none → s.gives (.sendMessage c k t) fun u => (u.chan c).sent k = (s.chan c).sent k ∧ u.get
    (R.MBX.M_STAT.TX_FULL c k) = 1 ∧ u.get (R.MBX.M_REFUSED.COUNT c k) = min (s.get (R.MBX.M_REFUSED.COUNT c k) + 1)
    (2 ^ (R.MBX.M_REFUSED.COUNT c k).width - 1) ∧ (List.range 16).all (fun i => u.get (R.MBX.TX.DATA c k i) == s.get
    (R.MBX.TX.DATA c k i))) ∧
  (∀ (s : State) (c k t : Nat) (m : List Nat × Bool) (r : List (List Nat × Bool)), s.up → c < 24 → k < 2 → s.works
    (B.mbx c) → (s.chan c).sent (1 - k) = m :: r → (s.chan c).due = [] → (k = 1 → s.role = .tile ∨ 16 ≤ c) → s.gives
    (.popMessage c k t) fun u => (u.chan c).sent (1 - k) = r ∧ (u.chan c).sent k = (s.chan c).sent k ∧ u.get
    (R.MBX.M_STAT.RX_COUNT c k) = r.length % 2 ^ (R.MBX.M_STAT.RX_COUNT c k).width ∧ (List.range 16).all (fun i =>
    u.get (R.MBX.RX.DATA c k i) == ((r.map (·.1)).headD []).getD i 0 % 2 ^ 32)) ∧
  (∀ (s : State) (c k t : Nat) (m : List Nat × Bool), s.up → c < 24 → k < 2 → s.works (B.mbx c) → (s.chan c).sent (1 -
    k) = [m] → (s.chan c).due = [] → s.gives (.popMessage c k t) fun u => (u.chan c).sent (1 - k) = [] ∧ u.raised
    (B.mbx c) (if k = 1 then Ev.MBX.A_EMPTY else Ev.MBX.B_EMPTY))

/-- Outputs are held at their levels in reset, and those of the other role always. In reset every output has its
  inactive level. In a running sender the sink bus is at differential 0, the row ports are at address 0, disabled and
  blanked, and the rail outputs are low; in a running tile lanes L0 to L7, the PCIe transmitter and the service
  transmitter are electrically idle. Rests on R571, R9, R544. -/
def Obligations.OutputsOutsideService : Prop :=
  (∀ (s : State) (p : Pin), s.power = .held ∨ s.power = .hot → s.pinLevel p = some (s.restLevel p)) ∧
  (∀ (s : State) (k : Nat), s.power = .running → s.role = .sender →
    s.pinLevel (.sink k) = some .diffZero ∧ s.pinLevel (.rowAddr k) = some .zero ∧ s.pinLevel (.rowEn k) = some .low ∧
    s.pinLevel (.rowBlank k) = some .high ∧ s.pinLevel (.railEn k) = some .low ∧ s.pinLevel (.railPwm k) = some .low) ∧
  (∀ (s : State) (l : Nat), s.power = .running → s.role = .tile → l < 8 →
    s.pinLevel (.laneTx l) = some .electricalIdle ∧ s.pinLevel .pcieTx = some .electricalIdle ∧
    s.pinLevel .svcTx = some .electricalIdle)

/-- Power, RESET_N, the software and JTAG resets, and the release of reset complete. A loss of the internal 5 V rail
  leaves a state in which only a reset acts; powering up, a RESET_N pulse of 10 µs or more, the software reset and
  MODRST leave the module held in reset with its free-running counter at 0 and their cause recorded, a pulse below 1
  µs changes nothing (the model's choice), and RESET_RELEASE leaves a running module in the role its strap names.
  Commands: POWER_UP, INTERNAL_5V_LOSS, RESET_N, RESET_RELEASE, SOFTWARE_RESET, MODRST. Each clause says that the
  command answers a next state, under conditions on the state and operands alone, and what that state holds. Where a
  clause goes beyond the words of these rules it rests on log entries 4, 52, 53. Rests on R374, R572, R570, R569,
  R405, R582. -/
def Obligations.ResetCommands : Prop :=
  (∀ (s : State) (us : Nat), s.Canon → s.gives (.powerUp us) fun u => u.power = .held ∧ u.frc = 0 ∧ u.get
    R.RCK.RST_CAUSE.POWER_ON = 1 ∧ u.get R.PWR.RAIL_TIME.US = us % 2 ^ 16) ∧
  (∀ (s : State) , s.power ≠ .off → s.gives (.internal5vLoss) fun u => u = { s with power := .sagged }) ∧
  (∀ (s : State) (ns : Nat), s.up → 10000 ≤ ns → s.gives (.resetN ns) fun u => u.power = .held ∧ u.frc = 0 ∧ u.get
    R.RCK.RST_CAUSE.RESET_N = 1) ∧
  (∀ (s : State) (ns : Nat), s.up → ns < 1000 → s.gives (.resetN ns) fun u => u = s) ∧
  (∀ (s : State) (strap : Nat) (b : Bool) (f : Fuses) (ppm : Int), s.Canon → s.power = .held → s.gives (.resetRelease
    strap b f ppm) fun u => u.power = .running ∧ u.role = (if strap % 4 = 1 then .tile else .sender)) ∧
  (∀ (s : State) , s.up → s.gives (.softwareReset) fun u => u.power = .held ∧ u.frc = 0 ∧ u.get
    R.RCK.RST_CAUSE.SOFTWARE = 1) ∧
  (∀ (s : State) , s.up → s.gives (.modrst) fun u => u.power = .held ∧ u.frc = 0 ∧ u.get R.RCK.RST_CAUSE.JTAG = 1)

/-- Thermal shutdown and the change of the reference clock complete. The thermal reset leaves a module that stays off
  until it is cool, the restart holds it in reset; a lost reference moves it to the internal oscillator and clears
  TIME_VALID, and the automatic and the commanded return move it back. Commands: THERMAL_RESET, SHUTDOWN_RESTART,
  REFCLK_LOST, RET_AUTO, RET_NOW. Each clause says that the command answers a next state, under conditions on the
  state and operands alone, and what that state holds. Where a clause goes beyond the words of these rules it rests on
  log entry 4. Rests on R516, R110, R405. -/
def Obligations.ThermalAndClock : Prop :=
  (∀ (s : State) (t : Nat), s.up → s.hkt.shutdown = true → s.hkt.shutAt + 30000000 ≤ s.frc → s.gives (.thermalReset t)
    fun u => u.power = .hot ∧ u.get R.RCK.RST_CAUSE.THERMAL = 1) ∧
  (∀ (s : State) , s.power = .hot → s.gives (.shutdownRestart) fun u => u = { s with power := .held }) ∧
  (∀ (s : State) (ppm : Int) (t : Nat), s.up → s.tim.onInt = false → s.gives (.refclkLost ppm t) fun u => u.tim.onInt
    = true ∧ u.get R.RCK.CLK_STAT.REFCLK_OK = 0 ∧ u.get R.RCK.CLK_STAT.ON_INTOSC = 1 ∧ u.get R.TIM.TIM_STAT.TIME_VALID
    = 0) ∧
  (∀ (s : State) (ppm : Int) (t : Nat), s.up → ppm.natAbs ≤ 1000 → s.on R.RCK.CLK_CTRL.RET_AUTO → s.tim.onInt = true →
    s.gives (.retAuto ppm t) fun u => u.tim.onInt = false ∧ u.get R.RCK.CLK_STAT.ON_INTOSC = 0 ∧ u.get
    R.RCK.CLK_STAT.REFCLK_OK = 1) ∧
  (∀ (s : State) (ppm : Int) (t : Nat), s.up → ppm.natAbs ≤ 1000 → s.tim.onInt = true → s.gives (.retNow ppm t) fun u
    => u.tim.onInt = false ∧ u.get R.RCK.CLK_STAT.ON_INTOSC = 0 ∧ u.get R.RCK.CLK_STAT.REFCLK_OK = 1)

/-- Register writes, clearing reads and the event and error registers complete. A write reaches the fields at its
  address, a shadow register without its value in force, and a misaligned one records code 0x03; a read returns the
  register, a clearing one is cleared, and EVT_RAW shows the conditions that last; EVT_PEND clears where 1 is written
  and sets through EVT_SET where the page has an event; a write of EVT_EN keeps the events the page has and signals
  while an enabled one is pending; clearing ERR_INFO clears the error registers. Commands: REGISTER_WRITE, RC_READ,
  EVT_PEND_CLEAR, EVT_SET, EVT_EN_WRITE, ERR_INFO_CLEAR. Each clause says that the command answers a next state, under
  conditions on the state and operands alone, and what that state holds. Where a clause goes beyond the words of these
  rules it rests on log entries 6, 7, 50, 107. Rests on R73, R75, R82, R83. -/
def Obligations.RegisterAccess : Prop :=
  (∀ (s : State) (v t : Nat), s.up → s.gives (.registerWrite (.tenant 0) 0x8120 4 v t) fun u => u.get R.TIM.SLEW_MAX.V
    = v % 2 ^ 16) ∧
  (∀ (s : State) (i v t : Nat), s.up → i < 9 → s.mirrors = false → s.gives (.registerWrite .service (0x80104 + 4 * i)
    4 v t) fun u => u.get (R.COL.MTX.COEF i) = v % 2 ^ 16 ∧ u.cur (R.COL.MTX.COEF i) = s.cur (R.COL.MTX.COEF i)) ∧
  (∀ (s : State) (who : Agent) (a n v t : Nat), s.up → (pageAt a).isSome → a < 2 ^ 25 → pageAccess a n = false →
    s.live (a / 0x1000 * 0x1000) → s.get (R.PG.ERR_VALID (a / 0x1000 * 0x1000)) = 0 → s.gives (.registerWrite who a n
    v t) fun u => u.get (R.PG.ERR_CODE (a / 0x1000 * 0x1000)) = 0x03 ∧ u.get (R.PG.ERR_VALID (a / 0x1000 * 0x1000)) =
    1 ∧ u.raised (a / 0x1000 * 0x1000) Ev.PG.ERR_LOGGED) ∧
  (∀ (s : State) (who : Agent) (t : Nat), s.up → who.secure → s.get R.TIM.TICK_CNT.OUT_TICKS < 2 ^ 16 → s.get
    R.TIM.TICK_CNT.MISSES < 2 ^ 16 → s.gives (.rcRead who 0x813C 4 t) fun u => u.out = s.out ++ [.data 0x813C 4 (s.get
    R.TIM.TICK_CNT.OUT_TICKS + 2 ^ 16 * s.get R.TIM.TICK_CNT.MISSES)] ∧ u.get R.TIM.TICK_CNT.OUT_TICKS = 0 ∧ u.get
    R.TIM.TICK_CNT.MISSES = 0) ∧
  (∀ (s : State) (who : Agent) (t : Nat), s.up → s.live B.tim → s.gives (.rcRead who 0x8010 4 t) fun u => u = (s.tick
    t).emit (.data 0x8010 4 ((s.tick t).rawWord .tim 0 B.tim))) ∧
  (∀ (s : State) (who : Agent) (t : Nat), s.up → s.live B.tim → s.get R.TIM.SLEW_MAX.V < 2 ^ 16 → s.gives (.rcRead who
    0x8120 4 t) fun u => u = (s.tick t).emit (.data 0x8120 4 (s.get R.TIM.SLEW_MAX.V))) ∧
  (∀ (s : State) (b v t : Nat), s.up → s.live b → b % 0x1000 = 0 → s.get (R.PG.EVT_PEND b) < 2 ^ 32 → s.gives
    (.evtPendClear b v t) fun u => u.get (R.PG.EVT_PEND b) = s.get (R.PG.EVT_PEND b) - (s.get (R.PG.EVT_PEND b) &&&
    v)) ∧
  (∀ (s : State) (b v t : Nat), s.up → s.live b → b % 0x1000 = 0 → s.gives (.evtSet b v t) fun u => u.get
    (R.PG.EVT_PEND b) = (s.get (R.PG.EVT_PEND b) ||| (v &&& s.evOpen b)) % 2 ^ 32) ∧
  (∀ (s : State) (b v t : Nat), s.up → s.live b → b % 0x1000 = 0 → s.mirrors = false → s.gives (.evtEnWrite b v t) fun
    u => u.get (R.PG.EVT_EN b) = (v &&& s.evOpen b) ∧ u.out = s.out ++ ((eventSides b).filter (fun g => s.get
    (R.PG.EVT_PEND b) &&& (v &&& s.evOpen b) &&& g != 0)).map (fun g => Out.signal b (if g = 0x3800 then none else
    s.hostVector b))) ∧
  (∀ (s : State) (b t : Nat), s.up → s.live b → b % 0x1000 = 0 → s.gives (.errInfoClear b t) fun u => u.get
    (R.PG.ERR_VALID b) = 0 ∧ u.get (R.PG.ERR_OVERFLOW b) = 0 ∧ u.get (R.PG.ERR_COUNT b) = 0 ∧ u.get (R.PG.ERR_CODE b)
    = 0 ∧ u.get (R.PG.ERR_SOURCE b) = 0 ∧ u.get (R.PG.ERR_ADDR_LO b) = 0 ∧ u.get (R.PG.ERR_ADDR_HI b) = 0)

/-- Enabling, freezing, resetting and arming a page complete. The enable bit, the freeze bits, the armed commit and
  the soft reset of a page take the values the rules give, and a hardware freeze records its code. Commands:
  PAGE_ENABLE, PAGE_DISABLE, SOFT_RESET, COMMIT_ARM, COMMIT_DISARM, FREEZE, UNFREEZE, HW_FREEZE. Each clause says that
  the command answers a next state, under conditions on the state and operands alone, and what that state holds. Where
  a clause goes beyond the words of these rules it rests on log entries 49, 51. Rests on R70, R71, R77, R78, R72,
  R427. -/
def Obligations.PageControl : Prop :=
  (∀ (s : State) (b t : Nat), s.up → s.live b → b % 0x1000 = 0 → s.mayEnable b → s.gives (.pageEnable b t) fun u =>
    u.get (R.PG.EN b) = 1) ∧
  (∀ (s : State) (b t : Nat), s.up → s.live b → b % 0x1000 = 0 → s.get (R.PG.EN b) ≤ 1 → s.gives (.pageDisable b t)
    fun u => u.get (R.PG.EN b) = 0) ∧
  (∀ (s : State) (t : Nat), s.up → s.live B.tim → s.gives (.softReset B.tim t) fun u => u.get (R.PG.EVT_PEND B.tim) =
    0 ∧ u.get (R.PG.ERR_VALID B.tim) = 0 ∧ u.get (R.PG.COMMIT_PENDING B.tim) = 0 ∧ u.get R.TIM.SLEW_MAX.V = 100) ∧
  (∀ (s : State) (b t : Nat), s.up → s.live b → b % 0x1000 = 0 → b ≠ B.map → b ≠ B.spire → b ≠ B.scn → s.gives
    (.commitArm b t) fun u => u.get (R.PG.COMMIT b) = 1 ∧ u.get (R.PG.COMMIT_PENDING b) = 1) ∧
  (∀ (s : State) (b t : Nat), s.up → s.live b → b % 0x1000 = 0 → s.get (R.PG.COMMIT_PENDING b) ≤ 1 → s.gives
    (.commitDisarm b t) fun u => u.get (R.PG.COMMIT_PENDING b) = 0) ∧
  (∀ (s : State) (b t : Nat), s.up → s.live b → b % 0x1000 = 0 → b ≠ B.lfm → s.gives (.freezePage b t) fun u => u.get
    (R.PG.FREEZE b) = 1 ∧ u.get (R.PG.FROZEN b) = 1) ∧
  (∀ (s : State) (b t : Nat), s.up → s.live b → b % 0x1000 = 0 → b ≠ B.lfm → s.get (R.PG.HW_FREEZE b) = 0 → s.gives
    (.unfreezePage b t) fun u => u.get (R.PG.FREEZE b) = 0 ∧ u.get (R.PG.FROZEN b) = 0) ∧
  (∀ (s : State) (b t : Nat), s.up → s.live b → b % 0x1000 = 0 → s.get (R.PG.ERR_VALID b) = 0 → s.gives (.hwFreeze b
    t) fun u => u.get (R.PG.HW_FREEZE b) = 1 ∧ u.get (R.PG.FROZEN b) = 1 ∧ u.get (R.PG.ERR_CODE b) = 0x05)

/-- Mode words and departures complete. A write of the next or the fallback mode stages its fields; a frame departure
  launches its number on a tile and on a sender with valid time, a sender without valid time skips it, and a view
  departure raises its event. Commands: MODE_NEXT_WRITE, MODE_FALLBACK_WRITE, FRAME_DEPARTURE, VIEW_DEPARTURE. Each
  clause says that the command answers a next state, under conditions on the state and operands alone, and what that
  state holds. Where a clause goes beyond the words of these rules it rests on log entries 14, 60, 82. Rests on R37,
  R61, R19, R114. -/
def Obligations.ModesAndDepartures : Prop :=
  (∀ (s : State) (v t : Nat), s.up → s.role = .sender → s.get R.DEP.MODE_NEXT.SCAN < 2 ^ R.DEP.MODE_NEXT.SCAN.width →
    s.gives (.modeNextWrite v t) fun u => u.get R.DEP.MODE_NEXT.TIMING = bitsOf v 4 1 ∧ u.get R.DEP.MODE_NEXT.VIEWS =
    bitsOf v 8 2 ∧ u.get R.DEP.MODE_NEXT.REDUN = bitsOf v 16 1 ∧ u.get R.DEP.MODE_NEXT.SCAN = s.get
    R.DEP.MODE_NEXT.SCAN) ∧
  (∀ (s : State) (v t : Nat), s.up → s.role = .sender → s.gives (.modeFallbackWrite v t) fun u => u.get
    R.DEP.MODE_FALLBACK.TIMING = bitsOf v 4 1 ∧ u.get R.DEP.MODE_FALLBACK.VIEWS = bitsOf v 8 2 ∧ u.get
    R.DEP.MODE_FALLBACK.REDUN = bitsOf v 16 1) ∧
  (∀ (s : State) (n t : Nat), s.up → s.role = .tile → s.frozen B.dep = false → s.dep.loaded = true → s.dep.next ≤ n →
    s.gives (.frameDeparture n t) fun u => u.dep.last = some n ∧ u.dep.next = n + 1) ∧
  (∀ (s : State) (n t : Nat), s.up → s.role = .sender → s.frozen B.dep = false → s.dep.loaded = true → s.dep.next ≤ n
    → s.timeValid = false → s.tim.pend = none → s.gives (.frameDeparture n t) fun u => u.dep.next = n + 1 ∧ u.dep.last
    = s.dep.last ∧ u.get R.DEP.SKIP_CNT.SKIPPED = min (s.get R.DEP.SKIP_CNT.SKIPPED + (n - s.dep.next + 1)) (2 ^
    R.DEP.SKIP_CNT.SKIPPED.width - 1) ∧ u.raised B.dep Ev.DEP.DEP_SKIPPED) ∧
  (∀ (s : State) (n t : Nat), s.up → s.role = .sender → s.frozen B.dep = false → s.dep.loaded = true → s.dep.next ≤ n
    → s.timeValid = true → s.gives (.frameDeparture n t) fun u => u.dep.last = some n ∧ u.dep.next = n + 1 ∧ u.raised
    B.dep Ev.DEP.FRAME_DEP) ∧
  (∀ (s : State) (n k t : Nat), s.up → s.role = .sender → s.frozen B.dep = false → s.dep.loaded = true → s.dep.last =
    some n → 0 < k → k < 4 → k < s.views → s.timeValid = true → s.gives (.viewDeparture n k t) fun u => u.raised B.dep
    Ev.DEP.VIEW_DEP)

/-- COMMIT, EPOCH_FLIP, SCHEDULE and FW_ACTIVATE entries launch. An entry that launches becomes FIRED or LATE; a
  COMMIT transfers the armed page, an EPOCH_FLIP that passes takes the next mode and its epoch and one inside the dark
  frames is refused, a SCHEDULE that passes becomes the schedule in force, and FW_ACTIVATE starts the named slot in
  TRIAL. Commands: COMMIT, EPOCH_FLIP, SCHEDULE, FW_ACTIVATE. Each clause says that the command answers a next state,
  under conditions on the state and operands alone, and what that state holds. Where a clause goes beyond the words of
  these rules it rests on log entries 14, 60. Rests on R77, R45, R115, R538. -/
def Obligations.BoardLaunches : Prop :=
  (∀ (s : State) (idx : Nat) (late : Bool) (t : Nat), s.up → (s.entry idx).state = .armed → (s.entry idx).action = 1 →
    s.timeValid = true → s.frozen B.dep = false → s.gives (.commitEntry idx late t) fun u => (u.entry idx).state = (if
    late then .late else .fired) ∧ u.raised B.dep Ev.DEP.ENT_FIRED) ∧
  (∀ (s : State) (idx t : Nat), s.up → (s.entry idx).state = .armed → (s.entry idx).action = 1 → s.timeValid = true →
    s.frozen B.dep = false → s.role = .sender → s.dep.board = [(idx, s.entry idx)] → s.duePages (groupBits (s.entry
    idx).arg) = [B.col] → s.gives (.commitEntry idx false t) fun u => (∀ i, i < 9 → u.cur (R.COL.MTX.COEF i) = s.get
    (R.COL.MTX.COEF i)) ∧ u.get (R.PG.COMMIT_PENDING B.col) = 0 ∧ u.raised B.col Ev.PG.COMMIT_DONE) ∧
  (∀ (s : State) (idx : Nat) (late : Bool) (t : Nat), s.up → (s.entry idx).state = .armed → (s.entry idx).action = 2 →
    s.timeValid = true → s.frozen B.dep = false → s.gives (.epochFlip idx late t) fun u => (u.entry idx).state = (if
    late then .late else .fired) ∧ u.raised B.dep Ev.DEP.ENT_FIRED) ∧
  (∀ (s : State) (idx : Nat) (late : Bool) (t : Nat) (x : State), s.up → (s.entry idx).state = .armed → (s.entry
    idx).action = 2 → s.timeValid = true → s.frozen B.dep = false → x = (s.tick t).fire idx late → s.dep.dark = none →
    s.dep.scanDue = false → (x.duePages (x.instantMask ((x.launchTime (s.entry idx)).getD x.wall) (if x.dep.last =
    some (x.flipDeparture (s.entry idx)) then 1 else 0))).filter jointPages.contains = [] → x.flipFail x.modeNext []
    false = none → s.gives (.epochFlip idx late t) fun u => u.get R.DEP.MODE_CUR.TIMING = s.get R.DEP.MODE_NEXT.TIMING
    % 2 ^ R.DEP.MODE_CUR.TIMING.width ∧ u.get R.DEP.MODE_CUR.VIEWS = s.get R.DEP.MODE_NEXT.VIEWS % 2 ^
    R.DEP.MODE_CUR.VIEWS.width ∧ u.get R.DEP.MODE_CUR.CODING_A = s.get R.DEP.MODE_NEXT.CODING_A % 2 ^
    R.DEP.MODE_CUR.CODING_A.width ∧ u.get R.DEP.MODE_CUR.CODING_B = s.get R.DEP.MODE_NEXT.CODING_B % 2 ^
    R.DEP.MODE_CUR.CODING_B.width ∧ u.get R.DEP.MODE_CUR.REDUN = s.get R.DEP.MODE_NEXT.REDUN % 2 ^
    R.DEP.MODE_CUR.REDUN.width ∧ u.get R.DEP.MODE_CUR.SINK = s.get R.DEP.MODE_NEXT.SINK % 2 ^
    R.DEP.MODE_CUR.SINK.width ∧ u.get R.DEP.MODE_CUR.EMIT = s.get R.DEP.MODE_NEXT.EMIT % 2 ^ R.DEP.MODE_CUR.EMIT.width
    ∧ u.get R.DEP.MODE_CUR.SCAN = s.get R.DEP.MODE_NEXT.SCAN % 2 ^ R.DEP.MODE_CUR.SCAN.width ∧ u.dep.epoch = (s.entry
    idx).arg ∧ u.dep.flipFailed = false ∧ u.get R.DEP.MODE_CTRL.FB_ACTIVE = 0) ∧
  (∀ (s : State) (idx : Nat) (late : Bool) (t : Nat), s.up → (s.entry idx).state = .armed → (s.entry idx).action = 2 →
    s.timeValid = true → s.frozen B.dep = false → s.dep.dark ≠ none → s.dep.scanDue = false → s.gives (.epochFlip idx
    late t) fun u => u.modeCur = s.modeCur ∧ u.get R.DEP.ENT_STATUS.RESULT = 5 ∧ u.get R.DEP.MODE_CHECK.REJECT_RULE =
    5 ∧ u.raised B.dep Ev.DEP.MODE_REJECT) ∧
  (∀ (s : State) (idx : Nat) (late : Bool) (t : Nat), s.up → (s.entry idx).state = .armed → (s.entry idx).action = 3 →
    s.timeValid = true → s.frozen B.dep = false → s.gives (.scheduleEntry idx late t) fun u => (u.entry idx).state =
    (if late then .late else .fired) ∧ u.raised B.dep Ev.DEP.ENT_FIRED) ∧
  (∀ (s : State) (idx : Nat) (late : Bool) (t : Nat) (x : State) (c : Sched), s.up → (s.entry idx).state = .armed →
    (s.entry idx).action = 3 → s.timeValid = true → s.frozen B.dep = false → s.role = .sender → x = (s.tick t).fire
    idx late → s.tim.sched = some c → x.armedAt (c.at (s.entry idx).time) 2 = [] → x.modeFail x.modeCur (x.envAfter
    (x.duePages (x.instantMask (c.at (s.entry idx).time) 1)) (s.get R.TIM.RATE_NEXT.RATE) s.vphaseNext) = none →
    viewSpacingOk (s.get R.TIM.RATE_NEXT.RATE) s.vphaseNext (s.modeCur.views + 1) → s.gives (.scheduleEntry idx late
    t) fun u => u.tim.sched = some ⟨(s.entry idx).time, c.at (s.entry idx).time, s.get R.TIM.RATE_NEXT.RATE,
    s.vphaseNext⟩ ∧ u.raised B.dep Ev.DEP.SCHED_CHANGE) ∧
  (∀ (s : State) (idx : Nat) (late : Bool) (t : Nat), s.up → (s.entry idx).state = .armed → (s.entry idx).action = 4 →
    s.timeValid = true → s.frozen B.dep = false → s.gives (.fwActivate idx late t) fun u => (u.entry idx).state = (if
    late then .late else .fired) ∧ u.raised B.dep Ev.DEP.ENT_FIRED) ∧
  (∀ (s : State) (idx : Nat) (late : Bool) (t k : Nat), s.up → (s.entry idx).state = .armed → (s.entry idx).action = 4
    → s.timeValid = true → s.frozen B.dep = false → s.get R.FWU.FWU_STAT.SAFE = 0 → bitAt (s.entry idx).arg 0 = false
    → bitAt (s.entry idx).arg 1 → k = 2 + bitsOf (s.entry idx).arg 5 1 → s.img k = Img.checked → s.pairConsistent
    s.mcSlot k → s.hkt.shutdown = false → s.gives (.fwActivate idx late t) fun u => u.img k = Img.trial ∧ u.lcSlot = k
    ∧ u.raised B.fwu Ev.FWU.ACTIVATED)

/-- RAIL_STEP, WALL_SWITCH, PULSE and MARK entries launch, and an entry without valid time is missed. A RAIL_STEP
  gives a FIXED channel its set value and is ignored by every other channel, a WALL_SWITCH within the limit moves the
  wall domain, PULSE drives its pin, MARK stores its tag, and an entry whose time passes while TIME_VALID is 0 becomes
  MISSED. Commands: RAIL_STEP, WALL_SWITCH, PULSE, MARK, ENT_MISSED. Each clause says that the command answers a next
  state, under conditions on the state and operands alone, and what that state holds. Where a clause goes beyond the
  words of these rules it rests on log entry 20. Rests on R385, R98, R115, R117. -/
def Obligations.BoardSteps : Prop :=
  (∀ (s : State) (idx : Nat) (late : Bool) (c t : Nat), s.up → (s.entry idx).state = .armed → (s.entry idx).action = 5
    → s.timeValid = true → s.frozen B.dep = false → s.role = .tile → s.frozen B.rai = false → c < 24 → bitAt (s.entry
    idx).arg c → s.cur (R.RCH.CH_CTRL.MODE c) ≠ 1 → s.gives (.railStep idx late t) fun u => (u.entry idx).state = (if
    late then .late else .fired) ∧ u.raised B.rai Ev.RAI.STEP_IGNORED) ∧
  (∀ (s : State) (idx : Nat) (late : Bool) (c t : Nat), s.up → (s.entry idx).state = .armed → (s.entry idx).action = 5
    → s.timeValid = true → s.frozen B.dep = false → s.role = .tile → s.frozen B.rai = false → c < 24 → (List.range
    24).all (fun k => bitAt (s.entry idx).arg k == (k == c)) → s.cur (R.RCH.CH_CTRL.MODE c) = 1 → s.gives (.railStep
    idx late t) fun u => u.rai.fixed = (c, s.get (R.RCH.CH_FIXED.SET c)) :: s.rai.fixed.filter (fun e => e.1 != c)) ∧
  (∀ (s : State) (idx : Nat) (late : Bool) (t : Nat), s.up → (s.entry idx).state = .armed → (s.entry idx).action = 6 →
    s.timeValid = true → s.frozen B.dep = false → (s.entry idx).arg % 2 ≠ s.wallDom → ((s.tick t).wallGap ((s.entry
    idx).arg % 2)).natAbs ≤ s.switchMax.natAbs → s.gives (.wallSwitch idx late t) fun u => (u.entry idx).state = (if
    late then .late else .fired) ∧ u.wallDom = (s.entry idx).arg % 2) ∧
  (∀ (s : State) (idx : Nat) (late : Bool) (t : Nat), s.up → (s.entry idx).state = .armed → (s.entry idx).action = 7 →
    s.timeValid = true → s.frozen B.dep = false → s.gives (.pulse idx late t) fun u => u.out.getLast? = some (.pulse
    (2 + (s.entry idx).arg % 16) (bitsOf (s.entry idx).arg 8 8 * 1000) 1 u.wall) ∧ (u.entry idx).state = (if late then
    .late else .fired)) ∧
  (∀ (s : State) (idx : Nat) (late : Bool) (t : Nat), s.up → (s.entry idx).state = .armed → (s.entry idx).action = 8 →
    s.timeValid = true → s.frozen B.dep = false → s.gives (.markEntry idx late t) fun u => u.get R.DEP.MARK_TAG.TAG =
    (s.entry idx).arg % 2 ^ R.DEP.MARK_TAG.TAG.width ∧ u.raised B.dep Ev.DEP.BOARD_MARK ∧ (u.entry idx).state = (if
    late then .late else .fired)) ∧
  (∀ (s : State) (idx t : Nat), s.up → s.frozen B.dep = false → (s.entry idx).state = .armed → s.timeValid = false →
    s.gives (.entMissed idx t) fun u => (u.entry idx).state = .missed ∧ u.raised B.dep Ev.DEP.ENT_MISSED)

/-- Board entries are written, read and cancelled, and the start-up load takes place. A WRITE stores the staged entry,
  a READ shows the selected one, a CANCEL of an armed entry cancels it, and the start-up epoch load loads a sender
  whose conditions hold. Commands: ENT_WRITE, ENT_READ, ENT_CANCEL, STARTUP_EPOCH_LOAD. Each clause says that the
  command answers a next state, under conditions on the state and operands alone, and what that state holds. Where a
  clause goes beyond the words of these rules it rests on log entries 46, 60. Rests on R116, R557. -/
def Obligations.BoardWrites : Prop :=
  (∀ (s : State) (t : Nat), s.up → (s.tick t).writeResult s.entSel s.stagedEntry = 0 → s.stagedEntry.action ≠ 0 →
    s.stagedEntry.lateOk = 0 → s.gives (.entWrite t) fun u => u.entry s.entSel = s.stagedEntry ∧ u.get
    R.DEP.ENT_STATUS.RESULT = 0) ∧
  (∀ (s : State) (t : Nat), s.up → s.gives (.entRead t) fun u => u.get R.DEP.ENT_ARG.ARG = (s.entry s.entSel).arg % 2
    ^ R.DEP.ENT_ARG.ARG.width ∧ u.get R.DEP.ENT_ACT.ACTION = (s.entry s.entSel).action % 2 ^
    R.DEP.ENT_ACT.ACTION.width ∧ u.get R.DEP.ENT_STATUS.RESULT = 0 ∧ u.get R.DEP.ENT_STATUS.STATE = (s.entry
    s.entSel).state.code) ∧
  (∀ (s : State) (t : Nat), s.up → (s.entry s.entSel).state = .armed → (s.tick t).nearer (s.entry s.entSel) s.guardU =
    false → s.gives (.entCancel t) fun u => (u.entry s.entSel).state = .cancelled ∧ u.get R.DEP.ENT_STATUS.RESULT = 0) ∧
  (∀ (s : State) (t : Nat) (c : Sched), s.up → s.frozen B.dep = false → s.role = .sender → s.dep.loaded = false →
    s.dep.loadWait = true → (s.tick t).startSched = some c → s.modeFail s.modeNext s.envStaged = none → viewSpacingOk
    c.rate c.vphase (s.modeNext.views + 1) → s.gives (.startupEpochLoad t) fun u => u.dep.loaded = true)

/-- Clock domains and the wall domain move. A rejected measurement counts; an accepted one shows its offset and moves
  the rate, and in LISTEN starts ACQUIRE; enabling, disabling and losing a domain set its state; a switch within the
  limit changes the wall domain and one beyond it only raises DOMAIN_FAR; the end of a slew clears SLEWING. Commands:
  DOM_MEAS, DOMAIN_ENABLE, DOMAIN_DISABLE, DOMAIN_LOSS_TIMEOUT, SWITCH_NOW, WALL_SEL_WRITE, SLEW_END. Each clause says
  that the command answers a next state, under conditions on the state and operands alone, and what that state holds.
  Where a clause goes beyond the words of these rules it rests on log entries 9, 11, 55, 84. Rests on R94, R93, R98.
  -/
def Obligations.Domains : Prop :=
  (∀ (s : State) (d w : Nat) (e : Int) (t : Nat), s.up → s.role = .sender → s.frozen B.tim = false → d < 2 → s.accepts
    d = false → s.domState d ≠ DomS.listen → s.gives (.domMeas d w e t) fun u => u.get (R.TIM.DOM_STAT.REJECTED d) =
    min (s.get (R.TIM.DOM_STAT.REJECTED d) + 1) (2 ^ (R.TIM.DOM_STAT.REJECTED d).width - 1)) ∧
  (∀ (s : State) (d w : Nat) (e : Int) (t : Nat), s.up → s.role = .sender → s.frozen B.tim = false → d < 2 → w < 2 ^
    32 → -7 ≤ e → e ≤ 0 → s.domState d = DomS.listen → s.accepts d → s.wallDom ≠ d → s.gives (.domMeas d w e t) fun u
    => u.domState d = DomS.acquire ∧ u.get (R.TIM.DOM_OFFSET.OFFSET d) = w ∧ (u.dom d).rho = clampI rhoMax ((s.dom
    d).rho - rateMove (sgn 32 w * 4096) (s.get (R.TIM.DOM_LOOP.KI_SHIFT d)) e)) ∧
  (∀ (s : State) (d w : Nat) (e : Int) (t : Nat), s.up → s.role = .sender → s.frozen B.tim = false → d < 2 → w < 2 ^
    32 → s.domState d = DomS.acquire ∨ s.domState d = DomS.locked ∨ s.domState d = DomS.holdover → s.gives (.domMeas d
    w e t) fun u => u.get (R.TIM.DOM_OFFSET.OFFSET d) = w ∧ (u.dom d).rho = clampI rhoMax ((s.dom d).rho - rateMove
    (sgn 32 w * 4096) (s.get (R.TIM.DOM_LOOP.KI_SHIFT d)) e)) ∧
  (∀ (s : State) (d t : Nat), s.up → d < 2 → s.domState d = DomS.disabled → s.gives (.domainEnable d t) fun u => u.get
    (R.TIM.DOM_CFG.EN d) = 1 ∧ u.domState d = DomS.listen) ∧
  (∀ (s : State) (d t : Nat), s.up → d < 2 → s.gives (.domainDisable d t) fun u => u.get (R.TIM.DOM_CFG.EN d) = 0 ∧
    u.domState d = DomS.disabled) ∧
  (∀ (s : State) (d t : Nat), s.up → s.frozen B.tim = false → d < 2 → s.domState d = DomS.acquire ∨ s.domState d =
    DomS.locked → s.gives (.domainLossTimeout d t) fun u => u.domState d = DomS.holdover ∧ u.raised B.tim
    (Ev.TIM.D0_HOLDOVER + d)) ∧
  (∀ (s : State) (t : Nat), s.up → s.wallDom < 2 → ((s.tick t).wallGap (1 - s.wallDom)).natAbs ≤ s.switchMax.natAbs →
    s.gives (.switchNow false t) fun u => u.wallDom = 1 - s.wallDom) ∧
  (∀ (s : State) (t : Nat), s.up → s.wallDom < 2 → s.switchMax.natAbs < ((s.tick t).wallGap (1 - s.wallDom)).natAbs →
    s.gives (.switchNow false t) fun u => u.wallDom = s.wallDom ∧ u.raised B.tim Ev.TIM.DOMAIN_FAR) ∧
  (∀ (s : State) (d t : Nat), s.up → d < 2 → d ≠ s.wallDom → ((s.tick t).wallGap d).natAbs ≤ s.switchMax.natAbs →
    s.gives (.wallSelWrite d false t) fun u => u.wallDom = d) ∧
  (∀ (s : State) (t : Nat), s.up → s.frozen B.tim = false → s.on R.TIM.TIM_STAT.SLEWING → (s.tick t).residualAt (max
    s.frc t) = 0 → s.gives (.slewEnd t) fun u => u.get R.TIM.TIM_STAT.SLEWING = 0 ∧ u.tim.residual = 0)

/-- TIME, SCHED and link-delay messages are sent, relayed and taken. A sender sends TIME and SCHED out of its active
  ports, a tile relays TIME with its correction and takes a pending schedule, and a link-delay exchange is opened,
  answered, measured and given up. Commands: TIME_INTERVAL, TIME_MESSAGE, SCHED_INTERVAL, SCHED, LD_INTERVAL, LD_REQ,
  LD_RSP, LD_TIMEOUT. Each clause says that the command answers a next state, under conditions on the state and
  operands alone, and what that state holds. Where a clause goes beyond the words of these rules it rests on log
  entries 57, 58, 84, 98. Rests on R103, R102, R106, R101, R284. -/
def Obligations.TimeMessages : Prop :=
  (∀ (s : State) (t : Nat), s.up → s.role = .sender → s.frozen B.tim = false → s.get R.FWU.FWU_STAT.SAFE = 0 →
    s.portActive 0 = false → s.portActive 1 → s.gives (.timeInterval t) fun u => (∃ f, f < 16 ∧ u.out = s.out ++ [.msg
    1 (.time ⟨s.srcRelief, s.timeValid, s.on R.TIM.TIM_STAT.HOLDOVER, false, s.tim.seqTime.getD 1 0, s.timeK, (s.tick
    t).wallFrac f, 0⟩)])) ∧
  (∀ (s : State) (p : Nat) (m : TimeMsg) (inF outF t : Nat), s.up → s.role = .tile → s.frozen B.tim = false → p < 2 →
    s.portActive p → s.portActive (1 - p) → s.accepts p = false → s.gives (.timeMessage p m inF outF t) fun u => (∃ d
    c, u.out = s.out ++ [.msg (1 - p) (.time { m with degraded := d, corr := c })])) ∧
  (∀ (s : State) (c : Sched) (t : Nat), s.up → s.role = .sender → s.get R.FWU.FWU_STAT.SAFE = 0 → s.portActive 0 →
    s.portActive 1 = false → s.tim.sched = some c → s.pending? = none → s.gives (.schedInterval t) fun u => (∃ m,
    u.out = s.out ++ [.msg 0 (.sched m)] ∧ m.sched = c ∧ m.next = false)) ∧
  (∀ (s : State) (p : Nat) (m : SchedMsg) (t : Nat), s.up → s.role = .tile → s.frozen B.tim = false → p < 2 →
    s.portActive p → p = s.wallDom → m.next = true → s.dep.last = none → p = s.line.shownPort → m.dark < 16 → s.gives
    (.sched p m t) fun u => u.tim.pend = some m.sched ∧ u.get R.TIM.RATE_NEXT.RATE = m.sched.rate % 16 ∧ u.get
    R.DEP.MODE_CTRL.DARK_FRAMES = m.dark) ∧
  (∀ (s : State) (p t1 t : Nat), s.up → s.frozen B.tim = false → p < 2 → s.portActive p → s.gives (.ldInterval p t1 t)
    fun u => u.out = s.out ++ [.msg p (.ldReq ((s.tim.ldTag.getD p 0 + 1) % 65536))]) ∧
  (∀ (s : State) (p q t2 t3 t : Nat), s.up → s.frozen B.tim = false → s.portActive p → s.gives (.ldReq p q t2 t3 t)
    fun u => u.out = s.out ++ [.msg p (.ldRsp q (s.wallSpan ((t3 : Int) - t2)))]) ∧
  (∀ (s : State) (p q : Nat) (turn : Int) (t4 t t1 : Nat), s.up → s.frozen B.tim = false → s.tim.ldOpen.getD p none =
    some (t1, q) → p < s.tim.ldSamples.length → s.gives (.ldRsp p q turn t4 t) fun u => u.tim.ldSamples.getD p [] =
    (roundDiv (s.wallSpan ((t4 : Int) - t1) - turn) 2 :: s.tim.ldSamples.getD p []).take 16 ∧ u.tim.ldOpen.getD p none
    = none) ∧
  (∀ (s : State) (p t : Nat), s.up → s.gives (.ldTimeout p t) fun u => u.tim.ldOpen.getD p none = none)

/-- TICKIN, its windows, the frame source and the pulse outputs complete. A tick is stored in ACQUIRE, an empty window
  after two others loses the tick, a write of FRAME_SRC moves the tick machine, and TICKOUT and PPSOUT emit their
  pulses while time is valid. Commands: TICKIN, TICK_WINDOW_END, FRAME_SRC_WRITE, TICKOUT_PULSE, PPS_PULSE. Each
  clause says that the command answers a next state, under conditions on the state and operands alone, and what that
  state holds. Where a clause goes beyond the words of these rules it rests on log entry 59. Rests on R111, R108,
  R113. -/
def Obligations.TicksAndPulses : Prop :=
  (∀ (s : State) (f t : Nat), s.up → s.role = .sender → s.frozen B.tim = false → s.tickState = TickS.acquire →
    s.tim.ticks = [] → s.gives (.tickin f t) fun u => u.tim.ticks = [u.tim.lastTick] ∧ u.tim.tickSeen = true) ∧
  (∀ (s : State) (t : Nat), s.up → s.role = .sender → s.frozen B.tim = false → s.tickState = TickS.acquire →
    s.tim.tickSeen = false → 2 ≤ s.tim.empties → s.gives (.tickWindowEnd t) fun u => u.tickState = TickS.holdover ∧
    u.raised B.tim Ev.TIM.TICK_LOSS) ∧
  (∀ (s : State) (v t : Nat), s.up → s.role = .sender → v < 4 → s.gives (.frameSrcWrite v t) fun u => u.get
    R.TIM.TIM_CTRL.FRAME_SRC = v ∧ (v ≠ 1 → u.tickState = TickS.off) ∧ (v = 1 → s.tickState = TickS.off → u.tickState
    = TickS.acquire)) ∧
  (∀ (s : State) (t : Nat), s.up → s.frozen B.dep = false → s.on R.DEP.TICKOUT_CFG.EN → s.timeValid = true → (s.tick
    t).tickoutDue → s.gives (.tickoutPulse t) fun u => u.out = s.out ++ [.pulse 0 (1000 * clampN 1 255 (s.get
    R.DEP.TICKOUT_CFG.WIDTH)) (s.get R.DEP.TICKOUT_CFG.POL) u.wall]) ∧
  (∀ (s : State) (t : Nat), s.up → s.frozen B.tim = false → s.on R.TIM.PPS_CFG.EN → s.timeValid = true → s.gives
    (.ppsPulse t) fun u => u.out = s.out ++ [.pulse 1 (1000 * clampN 1 255 (s.get R.TIM.PPS_CFG.WIDTH)) 0 u.wall])

/-- Ethernet ports, received frames and the monitor stream complete. A port comes up and goes down, a control or PTP
  frame goes to the management cluster with its time stamp, a packet of an enabled leg waits for ING, and a frame with
  a bad FCS is dropped and counted; ING counts a packet it takes, stores the first packet of a frame, and discards a
  bad one; a monitor frame leaves as its packets, or is dropped without a port. Commands: ETH_LINK_UP, ETH_LINK_DOWN,
  ETH_FRAME, ING_PACKET, MONITOR_FRAME. Each clause says that the command answers a next state, under conditions on
  the state and operands alone, and what that state holds. Where a clause goes beyond the words of these rules it
  rests on log entries 34, 45, 89. Rests on R127, R128, R138, R198. -/
def Obligations.EthernetPorts : Prop :=
  (∀ (s : State) (p t : Nat), s.up → s.frozen B.eth = false → s.get R.FWU.FWU_STAT.SAFE = 0 → s.hkt.shutdown = false →
    s.tim.onInt = false → s.role = .sender → s.enabled B.eth → s.ethExists p → s.on (R.ETH.PORT_CTRL.EN p) → s.get
    (R.ETH.PORT_STAT.LINK_UP p) = 0 → s.gives (.ethLinkUp p t) fun u => u.get (R.ETH.PORT_STAT.LINK_UP p) = 1 ∧
    u.raised B.eth (Ev.ETH.LINK_UP + p)) ∧
  (∀ (s : State) (p t : Nat), s.up → s.role = .sender → p < 4 → s.on (R.ETH.PORT_STAT.LINK_UP p) → s.gives
    (.ethLinkDown p t) fun u => u.get (R.ETH.PORT_STAT.LINK_UP p) = 0 ∧ u.get (R.ETH.PORT_STAT.FEC_LOCK p) = 0 ∧
    u.raised B.eth (Ev.ETH.LINK_DOWN + p)) ∧
  (∀ (s : State) (p : Nat) (f : EthFrame) (corr t : Nat), s.up → s.frozen B.eth = false → s.role = .sender → p < 4 →
    s.live B.eth → s.enabled B.eth → s.ethExists p → s.on (R.ETH.PORT_STAT.LINK_UP p) → f.fcsOk = true → f.len ≤ 9022
    → f.body = .control → s.gives (.ethFrame p f corr 0 t) fun u => u.out = s.out ++ [.toMc p false (16 * (s.tick
    t).frc + f.frac % 16)] ∧ u.get (R.ETH.RX_FRAMES.COUNT p) = min (s.get (R.ETH.RX_FRAMES.COUNT p) + 1) (2 ^ 32 - 1)) ∧
  (∀ (s : State) (p : Nat) (f : EthFrame) (corr uncorr t : Nat), s.up → s.frozen B.eth = false → s.role = .sender → p
    < 4 → s.live B.eth → s.enabled B.eth → s.ethExists p → s.on (R.ETH.PORT_STAT.LINK_UP p) → f.fcsOk = false →
    s.gives (.ethFrame p f corr uncorr t) fun u => u.get (R.ETH.FCS_ERR.COUNT p) = min (s.get (R.ETH.FCS_ERR.COUNT p)
    + 1) (2 ^ (R.ETH.FCS_ERR.COUNT p).width - 1) ∧ u.get (R.ETH.RX_DROP.COUNT p) = min (s.get (R.ETH.RX_DROP.COUNT p)
    + 1) (2 ^ (R.ETH.RX_DROP.COUNT p).width - 1) ∧ u.ing = s.ing) ∧
  (∀ (s : State) (p : Nat) (f : EthFrame) (corr t src dst port size : Nat) (rtp : Option RtpPkt), s.up → s.frozen
    B.eth = false → s.role = .sender → p < 4 → s.live B.eth → s.enabled B.eth → s.ethExists p → s.on
    (R.ETH.PORT_STAT.LINK_UP p) → f.fcsOk = true → f.len ≤ 9022 → f.body = .udp src dst port size rtp → port = 319 ∨
    port = 320 → s.gives (.ethFrame p f corr 0 t) fun u => u.out = s.out ++ [.toMc p true (16 * (s.tick t).frc +
    f.frac % 16)]) ∧
  (∀ (s : State) (p : Nat) (f : EthFrame) (corr t src dst port size : Nat) (r : RtpPkt) (k l : Nat), s.up → s.frozen
    B.eth = false → s.role = .sender → p < 4 → s.live B.eth → s.enabled B.eth → s.enabled B.ing → s.live B.ing →
    s.ethExists p → s.on (R.ETH.PORT_STAT.LINK_UP p) → f.fcsOk = true → f.len ≤ 9022 → f.body = .udp src dst port size
    (some r) → port ≠ 319 → port ≠ 320 → size ≤ s.udpLimit p → s.findLeg p src dst port r.pt f.vlan = some (k, l) →
    s.gives (.ethFrame p f corr 0 t) fun u => u.ing.inbox = s.ing.inbox ++ [(k, l, r)]) ∧
  (∀ (s : State) (t k l : Nat) (r : RtpPkt) (rest : List (Nat × Nat × RtpPkt)), s.up → s.role = .sender → s.ing.inbox
    = (k, l, r) :: rest → s.gives (.ingPacket t) fun u => u.ing.inbox = rest) ∧
  (∀ (s : State) (t k : Nat) (r : RtpPkt) (rest : List (Nat × Nat × RtpPkt)), s.up → s.role = .sender → s.ing.inbox =
    (k, 0, r) :: rest → k < 32 → k < s.ing.slots.length → s.works B.ing → s.frozen (B.flow k) = false → s.on
    (R.FLOW.FLOW_CTRL.EN k) → s.on (R.FLOW.FLOW_CTRL.LEGA_EN k) → r.ok = true → isVideo k → s.runsOk k r.runs →
    s.gives (.ingPacket t) fun u => u.ing.inbox = rest ∧ u.get (R.FLOW.PKT_A.COUNT k) = min (s.get (R.FLOW.PKT_A.COUNT
    k) + 1) (2 ^ (R.FLOW.PKT_A.COUNT k).width - 1) ∧ u.get (R.FLOW.FLOW_STAT.LEGA_UP k) = 1 ∧ ((u.slot k).leg 0).at_ =
    (s.tick t).frc ∧ ((u.slot k).leg 0).last.isSome) ∧
  (∀ (s : State) (t k : Nat) (r : RtpPkt) (rest : List (Nat × Nat × RtpPkt)), s.up → s.role = .sender → s.ing.inbox =
    (k, 0, r) :: rest → k < 32 → k < s.ing.slots.length → s.works B.ing → s.frozen (B.flow k) = false → s.on
    (R.FLOW.FLOW_CTRL.EN k) → s.on (R.FLOW.FLOW_CTRL.LEGA_EN k) → r.ok = true → isVideo k → s.runsOk k r.runs →
    r.marker = false → s.follows k = false → (s.slot k).recv = [] → (s.slot k).legA.last = none → (s.slot k).legB.last
    = none → (s.slot k).legA.miss = [] → (s.slot k).legB.miss = [] → (s.slot k).unrec = [] → (s.slot k).lastMarker =
    none → s.gives (.ingPacket t) fun u => (∃ f, (u.slot k).recv = [f] ∧ f.ts = r.ts ∧ f.a = [(r.seq, (s.tick t).frc)]
    ∧ f.buf = (s.slot k).freeBufs.head?)) ∧
  (∀ (s : State) (t k : Nat) (r : RtpPkt) (rest : List (Nat × Nat × RtpPkt)), s.up → s.role = .sender → s.ing.inbox =
    (k, 0, r) :: rest → k < 32 → k < s.ing.slots.length → s.works B.ing → s.frozen (B.flow k) = false → s.on
    (R.FLOW.FLOW_CTRL.EN k) → s.on (R.FLOW.FLOW_CTRL.LEGA_EN k) → r.ok = false → s.gives (.ingPacket t) fun u => u.get
    (R.FLOW.BAD_PKT.COUNT k) = min (s.get (R.FLOW.BAD_PKT.COUNT k) + 1) (2 ^ (R.FLOW.BAD_PKT.COUNT k).width - 1) ∧
    u.slot k = s.slot k) ∧
  (∀ (s : State) (t : Nat) (m : MonFrame), s.up → s.role = .sender → s.cmp.monitor = some m → s.ethExists m.port →
    s.on (R.ETH.PORT_STAT.LINK_UP m.port) → s.gives (.monitorFrame t) fun u => u.cmp.monitor = none ∧ (∃ l, u.out =
    s.out ++ l ∧ l.length = (m.packets (1 + Config.gpmGroups % 280)).length ∧ ∀ o ∈ l, ∃ b, o = .monitor m.port m.dst
    m.udp b) ∧ u.cmp.monSent = s.cmp.monSent + (m.packets (1 + Config.gpmGroups % 280)).length) ∧
  (∀ (s : State) (t : Nat) (m : MonFrame), s.up → s.role = .sender → s.cmp.monitor = some m → s.ethExists m.port =
    false → s.gives (.monitorFrame t) fun u => u.cmp.monitor = none ∧ u.out = s.out ∧ u.raised B.col Ev.COL.MON_DROP ∧
    u.get R.COL.MON_DROP.COUNT = min (s.get R.COL.MON_DROP.COUNT + 1) (2 ^ R.COL.MON_DROP.COUNT.width - 1))

/-- Flow slots are enabled, disabled, lose legs and drop incomplete frames. A slot whose checks pass takes its enable,
  its legs and its buffers and waits, refuses while ING is disabled, loses a leg or the flow by the timeouts, and
  drops a frame whose merge wait ends incomplete. Commands: MERGE_WAIT_END, LEG_LOST, FLOW_LOST, FLOW_ENABLE,
  FLOW_DISABLE, LEG_ENABLE. Each clause says that the command answers a next state, under conditions on the state and
  operands alone, and what that state holds. Where a clause goes beyond the words of these rules it rests on log
  entries 33, 35, 36, 59, 88. Rests on R140, R134, R135, R148. -/
def Obligations.FlowSlots : Prop :=
  (∀ (s : State) (k t : Nat) (f : RecvFrame), s.up → s.flowStands k = false → s.role = .sender → k < 32 → k <
    s.ing.slots.length → (((s.tick t).expireLeg k 0).expireLeg k 1).slot k = s.slot k → (s.slot k).recv.find? (fun f
    => f.marker.isSome) = some f → f.complete ((s.slot k).markerBefore f) = false → s.gives (.mergeWaitEnd k t) fun u
    => (u.slot k).recv = (s.slot k).recv.filter (fun g => g.ts != f.ts) ∧ u.get (R.FLOW.INCOMPLETE.COUNT k) = min
    (s.get (R.FLOW.INCOMPLETE.COUNT k) + 1) (2 ^ (R.FLOW.INCOMPLETE.COUNT k).width - 1)) ∧
  (∀ (s : State) (k l t : Nat), s.up → s.flowStands k = false → s.role = .sender → k < 32 → k < s.ing.slots.length → l
    < 2 → s.flow k = Flow.running → s.bothLegs k → ((s.slot k).leg l).at_ + max 1 (s.get R.ING.ING_CTRL.LEG_TIMEOUT) *
    1500000 ≤ max s.frc t → max s.frc t < ((s.slot k).leg (1 - l)).at_ + max 1 (s.get R.ING.ING_CTRL.LEG_TIMEOUT) *
    1500000 → s.gives (.legLost k l t) fun u => u.flow k = Flow.degraded ∧ (u.slot k).lostLeg = some l) ∧
  (∀ (s : State) (k t : Nat), s.up → s.flowStands k = false → s.role = .sender → k < 32 → s.flow k = Flow.wait ∨
    s.flow k = Flow.running ∨ s.flow k = Flow.degraded → max (s.slot k).legA.at_ (s.slot k).legB.at_ + max 1 (s.get
    R.ING.ING_CTRL.FLOW_TIMEOUT) * 1500000 ≤ max s.frc t → s.gives (.flowLost k t) fun u => u.flow k = Flow.lost ∧
    u.get (R.FLOW.FLOW_STAT.LEGA_UP k) = 0 ∧ u.get (R.FLOW.FLOW_STAT.LEGB_UP k) = 0) ∧
  (∀ (s : State) (k v t : Nat), s.up → s.role = .sender → k < 32 → s.on (R.FLOW.FLOW_CTRL.EN k) → s.gives (.flowEnable
    k v t) fun u => u.get (R.FLOW.FLOW_CTRL.EN k) = 1 ∧ u.get (R.FLOW.FLOW_CTRL.LOSS_HOLD k) = bitsOf v 8 8) ∧
  (∀ (s : State) (k v t : Nat) (x : State), s.up → s.role = .sender → k < 32 → k < s.ing.slots.length → s.get
    (R.FLOW.FLOW_CTRL.EN k) = 0 → x = ((s.tick t).flowFields k (v / 2 * 2 + 1)).flowLegs k (v / 2 * 2 + 1) →
    x.enableCode k = 0 → s.gives (.flowEnable k v t) fun u => u.get (R.FLOW.FLOW_CTRL.EN k) = 1 ∧ u.flow k = Flow.wait
    ∧ u.get (R.FLOW.FLOW_CTRL.LOSS_HOLD k) = bitsOf v 8 8 ∧ (u.slot k).recv = [] ∧ (u.slot k).bufs = (allocate
    x.fsBase x.fsBytes (x.bufBytes k) (if isVideo k then x.get (R.FLOW.FLOW_CTRL.FS_DEPTH k) else 1) x.fsUsed).getD
    []) ∧
  (∀ (s : State) (k v t : Nat), s.up → s.role = .sender → k < 32 → s.get (R.FLOW.FLOW_CTRL.EN k) = 0 → s.enabled B.ing
    = false → s.gives (.flowEnable k v t) fun u => u.get (R.FLOW.FLOW_CTRL.EN k) = 0 ∧ u.flow k = Flow.refused) ∧
  (∀ (s : State) (k v t : Nat), s.up → s.role = .sender → k < 32 → k < s.ing.slots.length → s.on (R.FLOW.FLOW_CTRL.EN
    k) → s.gives (.flowDisable k v t) fun u => u.get (R.FLOW.FLOW_CTRL.EN k) = 0 ∧ u.flow k = Flow.idle ∧ (u.slot
    k).recv = [] ∧ (u.slot k).bufs = []) ∧
  (∀ (s : State) (k v t : Nat), s.up → s.role = .sender → k < 32 → bitsOf v 0 1 = 0 → s.gives (.legEnable k v t) fun u
    => u.get (R.FLOW.FLOW_CTRL.LEGA_EN k) = bitsOf v 1 1 ∧ u.get (R.FLOW.FLOW_CTRL.LEGB_EN k) = bitsOf v 2 1)

/-- Mapping cards, the Spire layer and the generation of views complete. The checks of cards and Spire give their
  codes, their synchronisation copies the half in force into the staged half, and OTG begins, ends and aborts a frame,
  and sends the views of it on an active port. Commands: CARD_CHECK, CARD_CHECK_DONE, CARD_SYNC_DONE, SPIRE_CHECK,
  SPIRE_SYNC_DONE, OTG_FRAME_START, BLANK_START, OTG_ABORT. Each clause says that the command answers a next state,
  under conditions on the state and operands alone, and what that state holds. Where a clause goes beyond the words of
  these rules it rests on log entries 18, 37, 42, 43, 44, 94. Rests on R169, R167, R192, R200, R204, R203. -/
def Obligations.CardsSpireAndViews : Prop :=
  (∀ (s : State) (t : Nat), s.up → s.role = .sender → s.gives (.cardCheck t) fun u => u.get R.MAP.CARD_STAT.CHECK_BUSY
    = 1) ∧
  (∀ (s : State) (t : Nat), s.up → s.role = .sender → s.on R.MAP.CARD_STAT.CHECK_BUSY → s.cardStaged = none → s.gives
    (.cardCheckDone t) fun u => u.get R.MAP.CARD_STAT.CHECK_BUSY = 0 ∧ u.get R.MAP.CARD_STAT.CHECK_CODE = 0 ∧ u.raised
    B.map Ev.MAP.CHECK_DONE) ∧
  (∀ (s : State) (t code c loc src : Nat), s.up → s.role = .sender → s.on R.MAP.CARD_STAT.CHECK_BUSY → s.cardStaged =
    some (code, c, loc, src) → code < 2 ^ R.MAP.CARD_STAT.CHECK_CODE.width → s.gives (.cardCheckDone t) fun u => u.get
    R.MAP.CARD_STAT.CHECK_BUSY = 0 ∧ u.get R.MAP.CARD_STAT.CHECK_CODE = code ∧ u.get R.MAP.CARD_STAT.CHECK_CARD = c %
    2 ^ R.MAP.CARD_STAT.CHECK_CARD.width ∧ u.raised B.map Ev.MAP.CHECK_DONE) ∧
  (∀ (s : State) (t : Nat), s.up → s.role = .sender → s.on R.MAP.CARD_STAT.SYNCING → s.map.stalled = [] →
    s.map.stalledCommit = false → s.gives (.cardSyncDone t) fun u => u.get R.MAP.CARD_STAT.SYNCING = 0 ∧ u.map.stage =
    s.map.force ∧ u.raised B.map Ev.MAP.SYNC_DONE) ∧
  (∀ (s : State) (t : Nat), s.up → s.role = .sender → s.gives (.spireCheck t) fun u => u.get R.SPI.SP_STAT.CHECK_CODE
    = ((spireCheck s.cmp.spStage).getD (0, 0)).1 % 2 ^ R.SPI.SP_STAT.CHECK_CODE.width) ∧
  (∀ (s : State) (t : Nat), s.up → s.role = .sender → s.on R.SPI.SP_STAT.SYNCING → s.cmp.spStalled = [] →
    s.cmp.spStalledCommit = false → s.gives (.spireSyncDone t) fun u => u.get R.SPI.SP_STAT.SYNCING = 0 ∧
    u.cmp.spStage = s.cmp.spForce ∧ u.raised B.spire Ev.SPI.SYNC_DONE) ∧
  (∀ (s : State) (n t : Nat), s.up → s.role = .sender → s.get R.FWU.FWU_STAT.SAFE = 0 → s.dep.last = some n →
    s.enabled B.otg → s.frozen B.otg → s.gives (.otgFrameStart t) fun u => u.otg.frame = some n ∧ u.otg.dark = true ∧
    u.otg.shares = [] ∧ u.get R.OTG.OTG_STAT.VIEW = 0) ∧
  (∀ (s : State) (n t : Nat), s.up → s.role = .sender → s.get R.FWU.FWU_STAT.SAFE = 0 → s.dep.last = some n → s.live
    B.otg → s.enabled B.otg → s.frozen B.otg = false → s.frameDark n = false → s.modeCur.timing = 0 → s.gives
    (.otgFrameStart t) fun u => u.otg.frame = some n ∧ u.otg.dark = false ∧ u.otg.views = s.modeCur.views + 1 ∧
    u.otg.codA = s.modeCur.codA ∧ u.otg.codB = s.modeCur.codB ∧ u.otg.follow = false ∧ u.get R.RDN.HEALTH.TX =
    s.healthWord % 2 ^ R.RDN.HEALTH.TX.width) ∧
  (∀ (s : State) (n a b t : Nat), s.up → s.role = .sender → s.otg.frame = some n → s.gives (.blankStart a b t) fun u
    => u.otg.frame = none ∧ u.otg.shares = [] ∧ u.raised B.otg Ev.OTG.BLANK_START) ∧
  (∀ (s : State) (n p v a b t : Nat), s.up → s.role = .sender → s.otg.frame = some n → s.otg.follow = false →
    s.pathStopped = false → p < 2 → s.portActive p → v < s.otg.views → s.gives (.blankStart a b t) fun u => Out.video
    p v (s.otg.viewFlits v (if p = 0 then s.otg.codA else s.otg.codB) (((s.otg.shares.find? (fun e => e.1 == p &&
    e.2.1 == v)).map (·.2.2)).getD []) none) ∈ u.out ∧ u.raised B.otg Ev.OTG.BLANK_START) ∧
  (∀ (s : State) (n : Nat) (cutA cutB : Option (Nat × Nat)) (a b t : Nat), s.up → s.role = .sender → s.otg.frame =
    some n → s.gives (.otgAbort cutA cutB a b t) fun u => u.otg.frame = none ∧ u.otg.shares = [] ∧ u.raised B.otg
    Ev.OTG.ABORT)

/-- Lanes train, give up and lock. A valid training frame counts, an invalid one starts the count again, and a new
  request moves the taps; a lane that times out becomes FAILED, and one that gives up asks its peer and becomes FAILED
  with its reason; a locked lane is counted, and the end of LOCK fails the lanes that did not lock and moves the port
  on. Commands: TRAINING_FRAME, TRAIN_TIMEOUT, TRAIN_GIVE_UP, LANE_LOCKED, LOCK_END. Each clause says that the command
  answers a next state, under conditions on the state and operands alone, and what that state holds. Where a clause
  goes beyond the words of these rules it rests on log entries 61, 98. Rests on R225, R227, R226, R232. -/
def Obligations.LaneTraining : Prop :=
  (∀ (s : State) (l ctl sta : Nat) (inverted : Bool) (req : Nat) (errors : Option Nat) (t : Nat), s.up → 8 ≤ l → l <
    16 → l < s.line.lanes.length → s.laneState l = LaneS.detect ∨ s.laneState l = LaneS.train ∨ s.laneState l =
    LaneS.retrain → s.gives (.trainingFrame l ctl sta false inverted req errors t) fun u => (u.lane l).run = 0 ∧
    (u.lane l).fixedRun = 0) ∧
  (∀ (s : State) (l ctl sta : Nat) (inverted : Bool) (req t : Nat), s.up → 8 ≤ l → l < 16 → l < s.line.lanes.length →
    s.laneState l = LaneS.train → bitsOf ctl 15 2 = laneIdx l → bitAt ctl 13 = false → bitAt ctl 17 = false → bitsOf
    ctl 10 2 = 0 → bitsOf ctl 0 12 ≠ (s.lane l).req → s.gives (.trainingFrame l ctl sta true inverted req none t) fun
    u => u.get (R.LNL.LANE_STAT.RX_INVERTED l) = bit inverted ∧ u.laneState l = LaneS.train ∧ u.txTaps l = (applyTaps
    (s.txTaps l) ctl).1 ∧ (u.lane l).req = bitsOf ctl 0 12) ∧
  (∀ (s : State) (l ctl sta : Nat) (inverted : Bool) (req : Nat) (errors : Option Nat) (t : Nat), s.up → 8 ≤ l → l <
    16 → l < s.line.lanes.length → s.laneState l = LaneS.detect → bitsOf ctl 15 2 = laneIdx l → (s.lane l).run < 7 →
    (List.range 4).all (fun k => decide ((s.lane (physLane (lanePort l) k)).run < 8)) → s.gives (.trainingFrame l ctl
    sta true inverted req errors t) fun u => (u.lane l).run = (s.lane l).run + 1 ∧ u.get (R.LNL.LANE_STAT.RX_INVERTED
    l) = bit inverted) ∧
  (∀ (s : State) (l t : Nat), s.up → 8 ≤ l → l < 16 → s.laneState l = LaneS.train → s.gives (.trainTimeout l t) fun u
    => u.laneState l = LaneS.failed ∧ u.get (R.LNL.LANE_STAT.REASON l) = 2) ∧
  (∀ (s : State) (l t : Nat), s.up → 8 ≤ l → l < 16 → s.laneState l = LaneS.train → (s.lane l).peerReady ∨ (s.lane
    l).peerGiveUp → clampN 10 55 (s.get (R.LNL.TRAIN_CFG.TMO l)) * 1500000 ≤ (s.tick t).frc - (s.lane l).since →
    s.gives (.trainGiveUp l t) fun u => u.laneState l = LaneS.failed ∧ u.get (R.LNL.LANE_STAT.REASON l) = 1) ∧
  (∀ (s : State) (l t : Nat), s.up → 8 ≤ l → l < 16 → l < s.line.lanes.length → s.laneState l = LaneS.train → (s.lane
    l).peerReady = false → (s.lane l).peerGiveUp = false → clampN 10 55 (s.get (R.LNL.TRAIN_CFG.TMO l)) * 1500000 ≤
    (s.tick t).frc - (s.lane l).since → s.gives (.trainGiveUp l t) fun u => u.laneState l = LaneS.train ∧ bitAt
    (u.lane l).ctl 17 ∧ (∃ w, u.out = s.out ++ [w, .training l (u.lane l).ctl (u.lane l).sta] ∨ u.out = s.out ++
    [.training l (u.lane l).ctl (u.lane l).sta])) ∧
  (∀ (s : State) (l : Nat) (skew : Int) (inverted : Bool) (t : Nat), s.up → 8 ≤ l → l < 16 → s.stage (lanePort l) =
    Stage.lock → s.laneState l = LaneS.lock → skew.natAbs ≤ 48000 → s.gives (.laneLocked l skew (laneIdx l) inverted
    t) fun u => laneIdx l ∈ (u.port (lanePort l)).locked ∧ u.get (R.LNL.LANE_STAT.RX_INVERTED l) = bit inverted) ∧
  (∀ (s : State) (p t : Nat), s.up → p < 2 → s.stage p = Stage.lock → s.lnkMoves p → (s.inService p).all (fun k =>
    (s.port p).locked.contains k || !(s.lane (physLane p k)).fixed) → (s.candidates p).any (fun k => (s.port
    p).locked.contains k) → s.gives (.lockEnd p t) fun u => u.stage p = Stage.capx ∧ (s.inService p).all (fun k =>
    (s.port p).locked.contains k || (u.laneState (physLane p k) == LaneS.failed && u.get (R.LNL.LANE_STAT.REASON
    (physLane p k)) == 5))) ∧
  (∀ (s : State) (p t : Nat), s.up → p < 2 → s.stage p = Stage.lock → s.lnkMoves p → s.inService p = [] → s.candidates
    p = [] → s.gives (.lockEnd p t) fun u => u.stage p = Stage.detect)

/-- Capability exchange and the port stages move. CAPX is sent and taken, an agreed one stores the level and can make
  the port ACTIVE, a mis-wired pair is held, and the timeouts, the retry, the restart and the width limit act as the
  table of port stages gives. Commands: CAPX_SEND, CAPX, CAPX_TIMEOUT, RETRY_INTERVAL, RESTART, MAX_WIDTH_WRITE. Each
  clause says that the command answers a next state, under conditions on the state and operands alone, and what that
  state holds. Where a clause goes beyond the words of these rules it rests on log entries 61, 98. Rests on R233,
  R222, R214. -/
def Obligations.PortStages : Prop :=
  (∀ (s : State) (p t : Nat), s.up → p < 2 → s.stage p = Stage.capx → s.gives (.capxSend p t) fun u => (∃ m : CapxMsg,
    u.out[s.out.length]? = some (.msg p (.capx m)) ∧ m.fn = s.portFn p ∧ m.level = s.levelMax p ∧ m.features = 3 ∧
    m.rxGood = s.rxGood p ∧ m.seen = (s.port p).peer.isSome) ∧ ((s.port p).peer.isSome → (u.port p).seenSent = true)) ∧
  (∀ (s : State) (p : Nat) (m : CapxMsg) (t : Nat), s.up → p < 2 → s.stage p = Stage.capx → s.lnkMoves p → pairOk
    (s.portFn p) (m.fn % 8) = false → s.gives (.capx p m t) fun u => u.stage p = Stage.held ∧ u.raised (B.lnk p)
    Ev.LNK.MISWIRED ∧ u.get (R.LNK.CAPX_STAT.PEER_LEVEL_MAX p) = m.level % 2 ^ (R.LNK.CAPX_STAT.PEER_LEVEL_MAX
    p).width) ∧
  (∀ (s : State) (p : Nat) (m : CapxMsg) (t : Nat), s.up → p < 2 → s.stage p = Stage.capx → s.lnkMoves p → pairOk
    (s.portFn p) (m.fn % 8) → serviceOf (s.port p).maxWidth ((s.working p).filter (bitAt (s.rxGood p &&& m.rxGood))) =
    s.inService p → s.gives (.capx p m t) fun u => u.get (R.LNK.CAPX_STAT.LEVEL p) = min (s.levelMax p) m.level % 2 ^
    (R.LNK.CAPX_STAT.LEVEL p).width ∧ u.get (R.LNK.CAPX_STAT.PEER_LEVEL_MAX p) = m.level % 2 ^
    (R.LNK.CAPX_STAT.PEER_LEVEL_MAX p).width ∧ (u.port p).peer = some m ∧ ((s.port p).seenSent = true → m.seen = true
    → u.stage p = Stage.active ∧ u.raised (B.lnk p) Ev.LNK.LINK_UP)) ∧
  (∀ (s : State) (p t : Nat), s.up → p < 2 → s.stage p = Stage.capx → s.lnkMoves p → s.gives (.capxTimeout p t) fun u
    => u.stage p = Stage.down) ∧
  (∀ (s : State) (p t : Nat), s.up → p < 2 → s.stage p = Stage.down ∨ s.stage p = Stage.held → (s.port p).waits = true
    → s.lnkMoves p → s.gives (.retryInterval p t) fun u => u.stage p = Stage.detect) ∧
  (∀ (s : State) (p t : Nat), s.up → p < 2 → s.stage p = Stage.active → s.lnkMoves p → s.gives (.restartPort p t) fun
    u => u.stage p = Stage.detect ∧ u.raised (B.lnk p) Ev.LNK.LINK_DOWN ∧ u.get (R.LNK.DOWN_CNT.COUNT p) = min (s.get
    (R.LNK.DOWN_CNT.COUNT p) + 1) (2 ^ (R.LNK.DOWN_CNT.COUNT p).width - 1)) ∧
  (∀ (s : State) (p v t : Nat), s.up → p < 2 → v < 3 → s.gives (.maxWidthWrite p v t) fun u => u.get
    (R.LNK.PORT_CTRL.MAX_WIDTH p) = v)

/-- Groups, replays and lane faults complete. A group in sequence with a right CRC is accepted and its map taken, one
  with a wrong CRC counts and asks for a replay; an old group is replayed until it is exhausted; a faulted lane
  retrains, one in service with a width request; a retraining lane becomes spare or FAILED, RETRY and RETIRE act on a
  lane. Commands: GROUP, REPLAY_TIMEOUT, LANE_FAULT, RETRAIN_DONE, LANE_RETRY, LANE_RETIRE. Each clause says that the
  command answers a next state, under conditions on the state and operands alone, and what that state holds. Where a
  clause goes beyond the words of these rules it rests on log entries 61, 98. Rests on R242, R244, R248, R250. -/
def Obligations.GroupsAndLanes : Prop :=
  (∀ (s : State) (p : Nat) (rx : List (Nat × Nat)) (t : Nat) (x : State), s.up → p < 2 → x = rx.foldl (fun z e =>
    z.takeWord p e.1 e.2) (s.tick t) → x.rxReady p → x.stage p ≠ Stage.lock → (x.popGroup p).rxReady p = false →
    (List.range 32).all (fun i => !(x.rxFlit p i).2) → bitsOf (x.rxFlit p 32).1 32 24 = crc24 (x.rxFlit p 0).1
    ((List.range 31).map (fun i => (x.rxFlit p (i + 1)).1)) → bitsOf (x.rxFlit p 0).1 0 12 = (x.port p).expect →
    (x.port p).synced = true → bitAt (x.rxFlit p 0).1 25 = false → bitAt (x.rxFlit p 0).1 26 = false → s.gives
    (.groupHeader p rx t) fun u => (u.port p).expect = ((x.port p).expect + 1) % 4096 ∧ (u.port p).got = true ∧
    (u.port p).codes = mapCodes (x.rxFlit p 0).1) ∧
  (∀ (s : State) (p : Nat) (rx : List (Nat × Nat)) (t : Nat) (x : State), s.up → p < 2 → x = rx.foldl (fun z e =>
    z.takeWord p e.1 e.2) (s.tick t) → x.rxReady p → x.stage p ≠ Stage.lock → (x.popGroup p).rxReady p = false →
    x.frozen (B.lnk p) = false → bitsOf (x.rxFlit p 32).1 32 24 ≠ crc24 (x.rxFlit p 0).1 ((List.range 31).map (fun i
    => (x.rxFlit p (i + 1)).1)) → bitsOf (x.rxFlit p 32).1 32 24 ≠ 0xFFFFFF - crc24 (x.rxFlit p 0).1 ((List.range
    31).map (fun i => (x.rxFlit p (i + 1)).1)) → (x.port p).nakAt = none → s.gives (.groupHeader p rx t) fun u =>
    (u.port p).expect = (x.port p).expect ∧ (u.port p).codes = List.replicate 31 0 ∧ u.get (R.LNK.CRC_ERR.COUNT p) =
    min (x.get (R.LNK.CRC_ERR.COUNT p) + 1) (2 ^ (R.LNK.CRC_ERR.COUNT p).width - 1) ∧ u.get (R.LNK.NAK_TX.COUNT p) =
    min (x.get (R.LNK.NAK_TX.COUNT p) + 1) (2 ^ (R.LNK.NAK_TX.COUNT p).width - 1)) ∧
  (∀ (s : State) (p t : Nat) (g : SentGroup) (r : List SentGroup), s.up → p < 2 → s.stage p = Stage.capx ∨ s.stage p =
    Stage.active → s.frozen (B.lnk p) = false → (s.port p).sent = g :: r → g.seq < 4096 → s.replayTmo p ≤ (s.tick
    t).frc - g.last → g.replays < clampN 1 8 (s.get (R.LNK.REPLAY_CFG.MAX p)) → (s.tick t).frc - g.at_ < 30000 →
    s.gives (.replayTimeout p t) fun u => (u.port p).sent.head? = some
    { g with replays := g.replays + 1, last := (s.tick t).frc } ∧ u.get (R.LNK.REPLAY_CNT.COUNT p) = min (s.get
    (R.LNK.REPLAY_CNT.COUNT p) + 1) (2 ^ (R.LNK.REPLAY_CNT.COUNT p).width - 1)) ∧
  (∀ (s : State) (p t : Nat) (g : SentGroup) (r : List SentGroup), s.up → p < 2 → s.stage p = Stage.capx ∨ s.stage p =
    Stage.active → s.frozen (B.lnk p) = false → (s.port p).sent = g :: r → g.seq < 4096 → s.replayTmo p ≤ (s.tick
    t).frc - g.last → clampN 1 8 (s.get (R.LNK.REPLAY_CFG.MAX p)) ≤ g.replays ∨ 30000 ≤ (s.tick t).frc - g.at_ →
    s.gives (.replayTimeout p t) fun u => u.raised (B.lnk p) Ev.LNK.REPLAY_EXHAUSTED ∧ u.stage p ≠ Stage.active) ∧
  (∀ (s : State) (l t : Nat), s.up → 8 ≤ l → l < 16 → s.portActive (lanePort l) → s.laneState l = LaneS.spare →
    (s.inService (lanePort l)).contains (laneIdx l) = false → s.gives (.laneFault l t) fun u => u.laneState l =
    LaneS.retrain ∧ u.raised (B.lnl l) Ev.LNL.LANE_FAULT) ∧
  (∀ (s : State) (l t : Nat), s.up → 8 ≤ l → l < 16 → s.portActive (lanePort l) → s.laneState l = LaneS.inService →
    (s.inService (lanePort l)).contains (laneIdx l) → (s.working (lanePort l)).any (fun k => k != laneIdx l &&
    (s.inService (lanePort l)).contains k) → s.liveWidth (lanePort l) → s.frozen (B.lnk (lanePort l)) = false →
    (s.port (lanePort l)).wRx = none → s.gives (.laneFault l t) fun u => u.laneState l = LaneS.retrain ∧ (u.port
    (lanePort l)).wTx.isSome ∧ bitAt ((u.port (lanePort l)).wTx.getD 0) (laneIdx l) = false ∧ u.stage (lanePort l) =
    Stage.active ∧ u.raised (B.lnl l) Ev.LNL.LANE_FAULT) ∧
  (∀ (s : State) (l t : Nat), s.up → 8 ≤ l → l < 16 → s.laneState l = LaneS.retrain → s.portActive (lanePort l) →
    s.gives (.retrainDone l false t) fun u => u.laneState l = LaneS.failed ∧ u.get (R.LNL.LANE_STAT.REASON l) = 7 ∧
    u.raised (B.lnl l) Ev.LNL.LANE_FAILED) ∧
  (∀ (s : State) (l t : Nat), s.up → 8 ≤ l → l < 16 → s.laneState l = LaneS.retrain → s.portActive (lanePort l) →
    s.get (R.LNK.PORT_CTRL.AUTO_WIDEN (lanePort l)) = 0 → s.gives (.retrainDone l true t) fun u => u.laneState l =
    LaneS.spare ∧ u.get (R.LNL.LANE_STAT.LAST_VALID l) = 1 ∧ u.raised (B.lnl l) Ev.LNL.LANE_UP) ∧
  (∀ (s : State) (l t : Nat), s.up → 8 ≤ l → l < 16 → s.laneState l = LaneS.failed → s.get (R.LNL.LANE_CTRL.RETIRE l)
    = 0 → s.portActive (lanePort l) = false → s.gives (.laneRetry l t) fun u => u.laneState l = LaneS.off ∧ u.get
    (R.LNL.LANE_STAT.REASON l) = 0) ∧
  (∀ (s : State) (l t : Nat), s.up → 8 ≤ l → l < 16 → s.laneState l = LaneS.failed → s.get (R.LNL.LANE_CTRL.RETIRE l)
    = 0 → s.portActive (lanePort l) → s.gives (.laneRetry l t) fun u => u.laneState l = LaneS.retrain ∧ u.get
    (R.LNL.LANE_STAT.REASON l) = 0) ∧
  (∀ (s : State) (l t : Nat), s.up → 8 ≤ l → l < 16 → s.stage (lanePort l) = Stage.detect → s.laneState l ≠
    LaneS.failed → s.gives (.laneRetire l t) fun u => u.get (R.LNL.LANE_CTRL.RETIRE l) = 1 ∧ u.laneState l =
    LaneS.failed ∧ u.get (R.LNL.LANE_STAT.REASON l) = 6 ∧ u.raised (B.lnl l) Ev.LNL.LANE_FAILED)

/-- Link states, enumeration and telemetry complete. A link state updates the widths a sender holds and fails the
  stream of a tile; an enumeration starts, is answered by a tile and passed on to the next with the next number,
  collects responses and ends short on its limit; a telemetry record is stored for its stop. Commands: LINK_STATE,
  ENUM_START, ENUM, ENUM_RSP, ENUM_TIMEOUT, TELEM. Each clause says that the command answers a next state, under
  conditions on the state and operands alone, and what that state holds. Where a clause goes beyond the words of these
  rules it rests on log entries 65, 67, 71. Rests on R254, R266, R267, R268, R288. -/
def Obligations.LineEnumeration : Prop :=
  (∀ (s : State) (p : Nat) (m : LinkStateMsg) (t : Nat), s.up → s.role = .tile → p < 2 → s.portActive p → s.works
    (B.lne p) → m.cause = 2 → m.fn = 6 ∨ m.fn = 7 → s.dual = false → s.gives (.linkState p m t) fun u => (u.stream
    p).failed = some s.lastDep) ∧
  (∀ (s : State) (p : Nat) (m : LinkStateMsg) (t : Nat), s.up → s.role = .sender → p < 2 → s.portActive p → s.works
    (B.lne p) → m.cause = 3 → m.fn = s.faceFn p → m.fn = 6 ∨ m.fn = 7 → m.stage = Stage.active → s.reportStop p m ≠ 0
    → s.gives (.linkState p m t) fun u => (u.lineTx p).widths = (s.reportStop p m, widthLanes m.width) :: (s.lineTx
    p).widths.filter (fun w => w.1 != s.reportStop p m)) ∧
  (∀ (s : State) (p t : Nat), s.up → s.role = .sender → p < 2 → s.portActive p → s.works (B.lne p) → s.gives
    (.enumStart p t) fun u => u.get (R.LNE.LNE_STAT.ENUM_BUSY p) = 1 ∧ u.get (R.LNE.ENUM_RUN.RUN p) = (s.get
    (R.LNE.ENUM_RUN.RUN p) + 1) % 65536 ∧ u.out = s.out ++ [.msg p (.enumMsg ⟨s.srcRelief, 1, s.get (R.LNE.LINE_ID.ID
    p), u.get (R.LNE.ENUM_RUN.RUN p)⟩)] ∧ (u.lineTx p).rsps = []) ∧
  (∀ (s : State) (p : Nat) (m : EnumMsg) (t : Nat), s.up → s.role = .tile → p < 2 → s.portActive p → s.works (B.lne p)
    → m.stop ≤ 254 → s.hasNext p = false → s.gives (.enumMsg p m t) fun u => u.ownStop p = m.stop ∧ (∃ r, u.out =
    s.out ++ [.msg p (.enumRsp r)] ∧ r.last = true ∧ r.stop = m.stop ∧ r.lineId = m.lineId ∧ r.run = m.run)) ∧
  (∀ (s : State) (p : Nat) (m : EnumMsg) (t : Nat), s.up → s.role = .tile → p < 2 → s.portActive p → s.works (B.lne p)
    → m.stop ≤ 254 → s.hasNext p → s.gives (.enumMsg p m t) fun u => u.ownStop p = m.stop ∧ u.out[s.out.length + 1]? =
    some (.msg (1 - p) (.enumMsg { m with stop := m.stop + 1 })) ∧ u.out.length = s.out.length + 2) ∧
  (∀ (s : State) (p : Nat) (m : EnumMsg) (t : Nat), s.up → s.role = .tile → p < 2 → s.portActive p → s.works (B.lne p)
    → 254 < m.stop → s.gives (.enumMsg p m t) fun u => u.ownStop p = s.ownStop p ∧ u.out.length = s.out.length + 1) ∧
  (∀ (s : State) (p : Nat) (m : EnumRsp) (t : Nat), s.up → s.role = .sender → p < 2 → s.portActive p → s.works (B.lne
    p) → s.on (R.LNE.LNE_STAT.ENUM_BUSY p) → m.run = s.get (R.LNE.ENUM_RUN.RUN p) → heardAll ((s.lineTx p).rsps.filter
    (fun e => e.stop != m.stop) ++ [m]) = false → s.gives (.enumRsp p m t) fun u => (u.lineTx p).rsps = (s.lineTx
    p).rsps.filter (fun e => e.stop != m.stop) ++ [m]) ∧
  (∀ (s : State) (p t : Nat), s.up → s.role = .sender → p < 2 → s.on (R.LNE.LNE_STAT.ENUM_BUSY p) → s.gives
    (.enumTimeout p t) fun u => u.get (R.LNE.LNE_STAT.ENUM_BUSY p) = 0 ∧ u.get (R.LNE.LNE_STAT.ENUM_SHORT p) = 1 ∧
    u.raised (B.lne p) Ev.LNE.ENUM_DONE) ∧
  (∀ (s : State) (p : Nat) (m : TelemMsg) (t : Nat), s.up → s.role = .sender → p < 2 → s.portActive p → s.get
    R.FWU.FWU_STAT.SAFE = 0 → s.telOn p → 1 ≤ m.stop → m.stop ≤ 254 → s.dual = false → s.gives (.telem p m t) fun u =>
    ((u.lineTx p).stop m.stop).tele = some m ∧ (m.stop ≤ s.lastStop p → ((u.lineTx p).stop m.stop).misses = 0))

/-- The headers, rounds and trailers of the video stream are followed. A receiver follows the frame, share and segment
  headers, the rounds and the trailers of a view, and a header with a wrong CRC starts the hunt. Commands:
  FRAME_HEADER, SHARE_HEADER, SEGMENT_HEADER, ROW_DATA, SHARE_TRAILER, VIEW_TRAILER. Each clause says that the command
  answers a next state, under conditions on the state and operands alone, and what that state holds. Where a clause
  goes beyond the words of these rules it rests on log entry 64. Rests on R274, R272, R271, R270. -/
def Obligations.VideoStream : Prop :=
  (∀ (s : State) (p : Nat) (h : FrameHdr) (member t : Nat), s.up → p < 2 → s.watches p → s.role = .sender → (s.stream
    p).open_ = false → s.gives (.frameHeader p h true member t) fun u => (u.stream p).hdr = some h ∧ (u.stream
    p).open_ = true ∧ (u.stream p).shares = []) ∧
  (∀ (s : State) (p : Nat) (h : FrameHdr) (member t : Nat), s.up → p < 2 → s.watches p → s.gives (.frameHeader p h
    false member t) fun u => (u.stream p).hunt = true) ∧
  (∀ (s : State) (p : Nat) (k : ShareHdr) (t : Nat) (h : FrameHdr), s.up → p < 2 → s.watches p → s.role = .sender →
    (s.stream p).hunt = false → (s.stream p).hdr = some h → (s.stream p).open_ = true → (s.stream p).shares.length <
    h.nshare → (∀ e ∈ (s.stream p).shares, e.stop < k.stop) → s.gives (.shareHeader p k true t) fun u => (u.stream p)
    = { s.stream p with shares := (s.stream p).shares ++ [k] }) ∧
  (∀ (s : State) (p : Nat) (k : ShareHdr) (t : Nat) (h : FrameHdr), s.up → p < 2 → s.watches p → s.role = .tile →
    (s.stream p).hunt = false → (s.stream p).hdr = some h → (s.stream p).open_ = true → (s.stream p).shares.length <
    h.nshare → (∀ e ∈ (s.stream p).shares, e.stop < k.stop) → s.gives (.shareHeader p k true t) fun u => (u.stream p)
    = { s.stream p with shares := (s.stream p).shares ++ [k] }) ∧
  (∀ (s : State) (p round t : Nat) (h : FrameHdr), s.up → p < 2 → s.watches p → (s.stream p).hunt = false → (s.stream
    p).hdr = some h → (s.stream p).open_ = true → (s.stream p).listed = true → (s.stream p).segDone = true → round =
    (s.stream p).nextSeg → round % 8 = 0 → round < (s.stream p).roundsOf → s.gives (.segmentHeader p h.view round
    h.frame true t) fun u => u.stream p =
    { s.stream p with seg := some round, nextSeg := round + 8, rounds := [], hunt := false }) ∧
  (∀ (s : State) (p r bits : Nat) (bad : List Nat) (t : Nat) (h : FrameHdr) (a : Nat), s.up → p < 2 → s.watches p →
    (s.stream p).hunt = false → (s.stream p).open_ = true → (s.stream p).hdr = some h → (s.stream p).seg = some a → a
    ≤ r → r < a + 8 → r < (s.stream p).roundsOf → (s.stream p).rounds.contains r = false → s.gives (.rowData p r bits
    bad t) fun u => u.stream p = { s.stream p with rounds := (s.stream p).rounds ++ [r] }) ∧
  (∀ (s : State) (p : Nat) (tr : ShareTrl) (t : Nat) (h : FrameHdr) (k : ShareHdr), s.up → p < 2 → s.watches p →
    (s.stream p).hunt = false → (s.stream p).hdr = some h → (s.stream p).open_ = true → (s.stream p).listed = true →
    (s.stream p).lit[(s.stream p).trailers]? = some k → tr.stop = k.stop → tr.incomplete = true → s.gives
    (.shareTrailer p tr true t) fun u => u.stream p = { s.stream p with trailers := (s.stream p).trailers + 1 }) ∧
  (∀ (s : State) (p t : Nat) (h : FrameHdr), s.up → p < 2 → s.watches p → (s.stream p).hunt = false → (s.stream p).hdr
    = some h → (s.stream p).open_ = true → (s.stream p).listed = true → (s.stream p).trailers = (s.stream
    p).lit.length → s.gives (.viewTrailer p h.view h.frame true t) fun u => u.stream p =
    { s.stream p with open_ := false })

/-- Line transactions are accepted, executed, answered, timed out and released. A tile accepts a request, executes
  reads, writes, masked writes and pings from the front of its queue and answers them; an issuer answers the owner of
  the transaction, counts a late response, expires a transaction with status 4 and releases its credit. Commands: REQ,
  READ, WRITE, WRITE_MASKED, PING, RSP, TXN_TIMEOUT, CREDIT_RELEASE. Each clause says that the command answers a next
  state, under conditions on the state and operands alone, and what that state holds. Where a clause goes beyond the
  words of these rules it rests on log entries 66, 67, 72. Rests on R281, R276, R279. -/
def Obligations.LineRequests : Prop :=
  (∀ (s : State) (p : Nat) (m : ReqMsg) (t : Nat), s.up → s.role = .tile → p < 2 → s.portActive p → s.works (B.lne p)
    → s.ownStop p ≠ 0 → hitsStop m.stop (s.ownStop p) → m.valid → (s.winOf m.src).tags.find? (fun e => e.1 == m.tag) =
    none → (s.line.held.filter (fun h => h.side == p)).length < 64 → s.gives (.req p m t) fun u => u.line.held =
    s.line.held ++ [⟨p, m, p, m.didx, false, 0, none⟩]) ∧
  (∀ (s : State) (t : Nat) (h : HeldReq) (rest : List HeldReq), s.up → s.role = .tile → s.line.held = h :: rest →
    h.req.op = 1 → h.drop = false → h.next = 0 → h.done = none → h.port < 2 → s.ownStop h.port ≠ 0 → h.req.stop =
    s.ownStop h.port → s.portActive h.port → h.req.loc = 0x8120 → h.req.count = 1 → s.get R.FWU.FWU_STAT.SAFE = 0 →
    s.get R.TIM.SLEW_MAX.V < 2 ^ 16 → s.gives (.readTxn t) fun u => u.line.held = rest ∧ (∃ r : RspMsg, u.out = s.out
    ++ [.msg h.port (.rsp r)] ∧ r.status = 0 ∧ r.tag = h.req.tag ∧ r.src = h.req.src ∧ r.data = [s.get
    R.TIM.SLEW_MAX.V])) ∧
  (∀ (s : State) (t : Nat) (h : HeldReq) (rest : List HeldReq) (v : Nat), s.up → s.role = .tile → s.line.held = h ::
    rest → h.req.op = 2 → h.drop = false → h.next = 0 → h.done = none → h.port < 2 → s.ownStop h.port ≠ 0 → h.req.stop
    = s.ownStop h.port → s.portActive h.port → h.req.loc = 0x8120 → h.req.count = 1 → h.req.data = [v] → s.get
    R.FWU.FWU_STAT.SAFE = 0 → s.gives (.writeTxn t) fun u => u.line.held = rest ∧ u.get R.TIM.SLEW_MAX.V = v % 2 ^ 16
    ∧ (∃ r : RspMsg, u.out = s.out ++ [.msg h.port (.rsp r)] ∧ r.status = 0 ∧ r.tag = h.req.tag ∧ r.src = h.req.src)) ∧
  (∀ (s : State) (t : Nat) (h : HeldReq) (rest : List HeldReq) (v : Nat), s.up → s.role = .tile → s.line.held = h ::
    rest → h.req.op = 3 → h.drop = false → h.next = 0 → h.done = none → h.port < 2 → s.ownStop h.port ≠ 0 → h.req.stop
    = s.ownStop h.port → s.portActive h.port → h.req.loc = 0x8120 → h.req.mask = 0xFFFF → h.req.data = [v] → s.get
    R.FWU.FWU_STAT.SAFE = 0 → s.gives (.writeMasked t) fun u => u.line.held = rest ∧ u.get R.TIM.SLEW_MAX.V = v % 2 ^
    16 ∧ (∃ r : RspMsg, u.out = s.out ++ [.msg h.port (.rsp r)] ∧ r.status = 0 ∧ r.tag = h.req.tag ∧ r.src =
    h.req.src)) ∧
  (∀ (s : State) (t : Nat) (h : HeldReq) (rest : List HeldReq), s.up → s.role = .tile → s.line.held = h :: rest →
    h.req.op = 4 → h.drop = false → h.next = 0 → h.done = none → h.port < 2 → s.ownStop h.port ≠ 0 → h.req.stop =
    s.ownStop h.port → s.portActive h.port → s.gives (.ping t) fun u => u.line.held = rest ∧ (∃ r : RspMsg, u.out =
    s.out ++ [.msg h.port (.rsp r)] ∧ r.status = 0 ∧ r.tag = h.req.tag ∧ r.src = h.req.src)) ∧
  (∀ (s : State) (p : Nat) (m : RspMsg) (t : Nat), s.up → s.role = .sender → p < 2 → s.portActive p → m.src / 32 =
    s.get (R.LNE.LINE_ID.ID p) → (s.lineTx p).txns.find? (fun e => e.req.didx == m.didx) = none → s.gives (.rsp p m t)
    fun u => u.get (R.LNE.LATE_RSP.COUNT p) = min (s.get (R.LNE.LATE_RSP.COUNT p) + 1) (2 ^ (R.LNE.LATE_RSP.COUNT
    p).width - 1)) ∧
  (∀ (s : State) (p : Nat) (m : RspMsg) (t : Nat) (x : Txn), s.up → s.role = .sender → p < 2 → s.portActive p → m.src
    / 32 = s.get (R.LNE.LINE_ID.ID p) → (s.lineTx p).txns.find? (fun e => e.req.didx == m.didx) = some x → x.discard =
    true → x.tenant < 16 → (s.lineTx p).waiting = [] → s.gives (.rsp p m t) fun u => (u.lineTx p).txns = (s.lineTx
    p).txns.filter (fun y => y.slot != x.slot) ∧ u.get (R.TEN.FLR_DISCARD.COUNT x.tenant) = min (s.get
    (R.TEN.FLR_DISCARD.COUNT x.tenant) + 1) (2 ^ (R.TEN.FLR_DISCARD.COUNT x.tenant).width - 1)) ∧
  (∀ (s : State) (p : Nat) (m : RspMsg) (t : Nat) (x : Txn) (dst : Caller) (tag : Nat), s.up → s.role = .sender → p <
    2 → s.portActive p → m.src / 32 = s.get (R.LNE.LINE_ID.ID p) → (s.lineTx p).txns.find? (fun e => e.req.didx ==
    m.didx) = some x → x.discard = false → x.owner = .service dst tag → (s.lineTx p).waiting = [] → s.on
    R.SVP.SVP_STAT.LINK_UP → s.gives (.rsp p m t) fun u => (u.lineTx p).txns = (s.lineTx p).txns.filter (fun y =>
    y.slot != x.slot) ∧ u.out = s.out ++ [.service dst x.req.op tag m.status (if x.req.op = 1 then (m.data.map
    (toBytes 4)).foldl (· ++ ·) [] else [])]) ∧
  (∀ (s : State) (p : Nat) (m : RspMsg) (t : Nat) (x : Txn) (q i : Nat) (d : Desc), s.up → s.role = .sender → p < 2 →
    s.portActive p → m.src / 32 = s.get (R.LNE.LINE_ID.ID p) → (s.lineTx p).txns.find? (fun e => e.req.didx == m.didx)
    = some x → x.discard = false → x.owner = .desc q i 0 → x.req.op ≠ 1 → (s.lineTx p).waiting = [] → s.desc q i =
    some d → d.result = none → d.answers = [] → d.sent = 1 → d.op ≠ 1 → s.qClass q < 3 → s.gives (.rsp p m t) fun u =>
    (u.lineTx p).txns = (s.lineTx p).txns.filter (fun y => y.slot != x.slot) ∧ Out.hostWrite (s.qOwner q) (s.get64
    (R.QCX.Q_BASE_LO.BASE q) (R.QCX.Q_BASE_HI.BASE q) + 64 * i + 56) ([BitVec.ofNat 8 m.status, 0, 0, 0] ++ toBytes 4
    (d.words m.status)) ∈ u.out ∧ u.get (R.QCX.Q_DONE_CNT.COUNT q) = min (s.get (R.QCX.Q_DONE_CNT.COUNT q) + 1) (2 ^
    (R.QCX.Q_DONE_CNT.COUNT q).width - 1)) ∧
  (∀ (s : State) (p didx t : Nat) (x : Txn), s.up → p < 2 → (s.lineTx p).txns.find? (fun e => e.req.didx == didx) =
    some x → x.discard = true → x.tenant < 16 → (s.lineTx p).waiting = [] → s.gives (.txnTimeout p didx t) fun u =>
    (u.lineTx p).txns = (s.lineTx p).txns.filter (fun y => y.slot != x.slot) ∧ (u.lineTx p).held = (s.lineTx p).held
    ++ [(x.req.didx, x.req.stop)] ∧ u.get (R.LNE.TMO_CNT.COUNT p) = min (s.get (R.LNE.TMO_CNT.COUNT p) + 1) (2 ^
    (R.LNE.TMO_CNT.COUNT p).width - 1)) ∧
  (∀ (s : State) (p didx t : Nat) (x : Txn) (dst : Caller) (tag : Nat), s.up → p < 2 → (s.lineTx p).txns.find? (fun e
    => e.req.didx == didx) = some x → x.discard = false → x.owner = .service dst tag → (s.lineTx p).waiting = [] →
    s.on R.SVP.SVP_STAT.LINK_UP → s.live (B.lne p) → s.gives (.txnTimeout p didx t) fun u => (u.lineTx p).txns =
    (s.lineTx p).txns.filter (fun y => y.slot != x.slot) ∧ (u.lineTx p).held = (s.lineTx p).held ++ [(x.req.didx,
    x.req.stop)] ∧ u.get (R.LNE.TMO_CNT.COUNT p) = min (s.get (R.LNE.TMO_CNT.COUNT p) + 1) (2 ^ (R.LNE.TMO_CNT.COUNT
    p).width - 1) ∧ Out.service dst x.req.op tag 4 [] ∈ u.out ∧ u.raised (B.lne p) Ev.LNE.TXN_TIMEOUT) ∧
  (∀ (s : State) (p didx t : Nat), s.up → p < 2 → (s.lineTx p).waiting = [] → s.gives (.creditRelease p didx t) fun u
    => (u.lineTx p).held = (s.lineTx p).held.filter (fun h => h.1 != didx))

/-- Service sessions and the MIRROR channel complete. Segments and acknowledgements of a session are taken in order,
  lost ones are sent again; a mirror record in order is applied, an early one waits, and a gap restarts the
  synchronisation. Commands: SVC, SVC_ACK, SVC_RESEND, MIRROR, MIRROR_GAP. Each clause says that the command answers a
  next state, under conditions on the state and operands alone, and what that state holds. Where a clause goes beyond
  the words of these rules it rests on log entries 68, 69, 70, 75. Rests on R286, R478. -/
def Obligations.SessionsAndMirror : Prop :=
  (∀ (s : State) (p : Nat) (m : SvcMsg) (full : Bool) (t : Nat) (v : SvcOut), s.up → s.role = .sender → p < 2 →
    s.portActive p → s.session p m.stop = some v → v.session = m.session → v.purpose = 4 → v.rxSeq = none → m.seq = 0
    → m.stop = v.stop → s.gives (.svc p m full t) fun u => u.session p m.stop = some
    { v with rx := v.rx ++ m.data, rxSeq := some 0 } ∧ u.out = s.out ++ [.msg p (.svcAck ⟨0, m.stop, v.session, 0⟩)]) ∧
  (∀ (s : State) (p : Nat) (m : SvcMsg) (full : Bool) (t : Nat), s.up → s.role = .tile → p < 2 → s.portActive p →
    s.ownStop p ≠ 0 → m.stop = s.ownStop p → s.line.svcIn = none → m.seq ≠ 0 → s.gives (.svc p m full t) fun u =>
    u.get (R.SVP.SVC_DISC.COUNT) = min (s.get (R.SVP.SVC_DISC.COUNT) + 1) (2 ^ (R.SVP.SVC_DISC.COUNT).width - 1)) ∧
  (∀ (s : State) (p : Nat) (m : SvcAck) (t : Nat) (v : SvcOut), s.up → s.role = .sender → p < 2 → s.portActive p →
    s.session p m.stop = some v → v.session = m.session → m.status = 0 → v.closing = false → v.wait = none → v.buf =
    [] → v.stop = m.stop → s.gives (.svcAck p m t) fun u => u.session p m.stop = some
    { v with segs := v.segs.filter (fun g => !acked m.ack g.seq), acked := some m.ack }) ∧
  (∀ (s : State) (p : Nat) (m : SvcAck) (t : Nat) (v : SvcOut), s.up → s.role = .sender → p < 2 → s.portActive p →
    s.session p m.stop = some v → v.session = m.session → m.status = 3 ∨ m.status = 4 → s.gives (.svcAck p m t) fun u
    => u.session p m.stop = none) ∧
  (∀ (s : State) (p k t : Nat) (v : SvcOut), s.up → s.role = .sender → p < 2 → s.portActive p → s.session p k = some v
    → s.gives (.svcResend p k t) fun u => u.out = s.out ++ v.segs.map (fun g => .msg p (.svc g))) ∧
  (∀ (s : State) (p : Nat) (m : MirrorMsg) (t : Nat), s.up → p < 2 → s.isRelief → s.portActive p → s.rdn.nextSeq.getD
    m.seq = m.seq → s.rdn.early = [] → m.body = .imageStart 2 → s.gives (.mirrorRecord p m t) fun u => u.rdn.nextSeq =
    some ((m.seq + 1) % 65536) ∧ u.get R.RDN.MIRROR_SEQ.RX = m.seq % 2 ^ 16 ∧ u.rdn.image = []) ∧
  (∀ (s : State) (p : Nat) (m : MirrorMsg) (t n : Nat), s.up → p < 2 → s.isRelief → s.portActive p → s.rdn.nextSeq =
    some n → n < m.seq → m.seq < n + 32768 → m.seq < 65536 → s.rdn.early = [] → s.gives (.mirrorRecord p m t) fun u =>
    u.rdn.early = [(m.seq, m.body)] ∧ u.rdn.nextSeq = some n) ∧
  (∀ (s : State) (t : Nat), s.up → s.isRelief → s.rdn.early ≠ [] → s.get R.RDN.RDN_STAT.STATE = 2 → s.gives
    (.mirrorGap t) fun u => u.get (R.RDN.MIRROR_GAP.COUNT) = min (s.get (R.RDN.MIRROR_GAP.COUNT) + 1) (2 ^
    (R.RDN.MIRROR_GAP.COUNT).width - 1) ∧ u.rdn.nextSeq = none ∧ u.rdn.early = [] ∧ u.rdn.image = []) ∧
  (∀ (s : State) (t : Nat), s.up → s.isRelief → s.rdn.early ≠ [] → s.get R.RDN.RDN_STAT.STATE = 3 → s.gives
    (.mirrorGap t) fun u => u.get R.RDN.RDN_STAT.STATE = 2 ∧ u.rdn.early = [] ∧ u.raised B.rdn Ev.RDN.SYNC_LOST)

/-- CODEC jobs start, end and are aborted. A write of JR_TAIL stores the index, a job of the ring starts as COMPRESS
  or DECOMPRESS, a job that ends writes its result and advances the ring, an aborted one ends with ABORTED, and ABORT
  marks the running job. Commands: JR_TAIL, COMPRESS, DECOMPRESS, JOB_DONE, ABORT. Each clause says that the command
  answers a next state, under conditions on the state and operands alone, and what that state holds. Where a clause
  goes beyond the words of these rules it rests on log entry 74. Rests on R302, R303, R304. -/
def Obligations.CodecJobs : Prop :=
  (∀ (s : State) (v t : Nat), s.up → s.gives (.jrTail v t) fun u => u.get R.KLC.JR_TAIL.IDX = v % 2 ^
    R.KLC.JR_TAIL.IDX.width) ∧
  (∀ (s : State) (blocks t : Nat) (b : List (BitVec 8)), s.up → s.klc.job = none → s.works B.klc → s.ringPending →
    s.queuePending = false → b = ((s.tick t).dramBytes 3 (s.get64 R.KLC.JR_BASE_LO.BASE R.KLC.JR_BASE_HI.BASE + 64 *
    s.get R.KLC.JR_HEAD.IDX) 64).2.1 → ({ bytes := b } : Job).op = 1 → s.gives (.compress none blocks t) fun u => (∃
    j, u.klc.job = some j ∧ j.bytes = b ∧ j.idx = s.get R.KLC.JR_HEAD.IDX)) ∧
  (∀ (s : State) (blocks t : Nat) (b : List (BitVec 8)), s.up → s.klc.job = none → s.works B.klc → s.ringPending →
    s.queuePending = false → b = ((s.tick t).dramBytes 3 (s.get64 R.KLC.JR_BASE_LO.BASE R.KLC.JR_BASE_HI.BASE + 64 *
    s.get R.KLC.JR_HEAD.IDX) 64).2.1 → ({ bytes := b } : Job).op = 2 → s.gives (.decompress none blocks t) fun u => (∃
    j, u.klc.job = some j ∧ j.bytes = b ∧ j.idx = s.get R.KLC.JR_HEAD.IDX)) ∧
  (∀ (s : State) (t : Nat) (j : Job), s.up → s.klc.job = some j → s.frozen B.klc = false → j.abort = true → j.status =
    none → j.drop = false → j.owner = none → j.counted = true → s.gives (.jobDone t) fun u => u.klc.job = none ∧ u.get
    R.KLC.JOB_STAT.BUSY = 0 ∧ u.get R.KLC.JOB_STAT.LAST = JobS.aborted ∧ u.get (R.KLC.JOB_CNT.COUNT) = min (s.get
    (R.KLC.JOB_CNT.COUNT) + 1) (2 ^ (R.KLC.JOB_CNT.COUNT).width - 1) ∧ u.get R.KLC.JR_HEAD.IDX = (j.idx + 1) %
    s.ringSize % 2 ^ R.KLC.JR_HEAD.IDX.width) ∧
  (∀ (s : State) (t : Nat) (j : Job) (st a : Nat), s.up → s.klc.job = some j → s.frozen B.klc = false → j.status =
    some (st, a) → j.drop = false → j.owner = none → j.counted = true → s.get R.PAR.CHK_CTRL.MODE ≠ 3 → (s.route
    (j.at_ + 32)) = .copies [0] → s.isTile = false → s.gives (.jobDone t) fun u => u.klc.job = none ∧ u.get
    R.KLC.JOB_STAT.BUSY = 0 ∧ u.get R.KLC.JOB_STAT.LAST = st % 2 ^ R.KLC.JOB_STAT.LAST.width ∧ u.get
    (R.KLC.JOB_CNT.COUNT) = min (s.get (R.KLC.JOB_CNT.COUNT) + 1) (2 ^ (R.KLC.JOB_CNT.COUNT).width - 1) ∧ u.get
    R.KLC.JR_HEAD.IDX = (j.idx + 1) % s.ringSize % 2 ^ R.KLC.JR_HEAD.IDX.width ∧ u.mem.dram = writeBytes zeroB
    s.mem.dram (j.at_ + 32) (j.result st)) ∧
  (∀ (s : State) (t : Nat) (j : Job), s.up → s.klc.job = some j → s.gives (.abortJob t) fun u => u.klc.job = some
    { j with abort := true })

/-- The correction pass, the bank copy and the aperture complete. A finished pass hands its frame to scan-out, the
  copy of a bank starts and ends, and the aperture writes the staging bank or refuses a busy region. Commands:
  PASS_DONE, BANK_SYNC_START, BANK_SYNC_DONE, APERTURE_WRITE. Each clause says that the command answers a next state,
  under conditions on the state and operands alone, and what that state holds. Where a clause goes beyond the words of
  these rules it rests on log entry 12. Rests on R322, R328, R330. -/
def Obligations.CorrectionBanks : Prop :=
  (∀ (s : State) (t : Nat) (x : Latch), s.up → s.role = .tile → s.cor.pass = some x → (List.range s.views).all (fun v
    => s.cor.doneViews.contains v || s.scn.backDark.contains v) = true → s.gives (.passDone t) fun u => u.cor.pass =
    none ∧ u.scn.backFrame = some x.frame ∧ u.raised B.cor Ev.COR.PASS_DONE) ∧
  (∀ (s : State) (t : Nat), s.up → s.role = .tile → s.on R.COR.BANK_STAT.SYNCING → s.cor.pass = none → s.gives
    (.bankSyncStart t) fun u => u.cor.copying = true) ∧
  (∀ (s : State) (t : Nat), s.up → s.role = .tile → s.cor.copying = true → s.gives (.bankSyncDone t) fun u =>
    u.cor.copying = false ∧ u.get R.COR.BANK_STAT.SYNCING = 0 ∧ u.raised B.cor Ev.COR.SYNC_DONE) ∧
  (∀ (s : State) (o n v t : Nat), s.up → s.role = .tile → o < 0x400000 → s.get R.COR.APER_CTRL.TARGET = 0 → s.get
    R.COR.APER_OFS.OFS / 2 ^ 22 * 2 ^ 22 + o + n ≤ s.regions * 4096 → s.regionBusy ((s.get R.COR.APER_OFS.OFS / 2 ^ 22
    * 2 ^ 22 + o) / 4096) = false → s.isTile = true → (s.route (s.bankBase s.stagingBank + (s.get R.COR.APER_OFS.OFS /
    2 ^ 22 * 2 ^ 22 + o))) = .copies [0] → s.get R.PAR.CHK_CTRL.MODE ≠ 3 → s.gives (.apertureWrite o n v t) fun u =>
    u.mem.dram = writeBytes zeroB s.mem.dram (s.bankBase s.stagingBank + (s.get R.COR.APER_OFS.OFS / 2 ^ 22 * 2 ^ 22 +
    o)) (toBytes n v)) ∧
  (∀ (s : State) (o n v t : Nat), s.up → s.role = .tile → o < 0x400000 → s.get R.COR.APER_CTRL.TARGET = 0 → s.get
    R.COR.APER_OFS.OFS / 2 ^ 22 * 2 ^ 22 + o + n ≤ s.regions * 4096 → s.on R.COR.BANK_STAT.SYNCING → s.gives
    (.apertureWrite o n v t) fun u => u.get (R.COR.APER_REFUSED.COUNT) = min (s.get (R.COR.APER_REFUSED.COUNT) + 1) (2
    ^ (R.COR.APER_REFUSED.COUNT).width - 1) ∧ u.mem = s.mem ∧ u.raised B.cor Ev.COR.APER_REFUSED)

/-- Upload commands are queued, write their regions and end. GO queues a command with its staged operands; each region
  of COPY, COPY_PACK, COPY_PACKED and UNIT_RECORDS advances the command by one; the end posts its entry, and a read of
  UPL_DONE removes the oldest. Commands: UPL_CMD_GO, COPY, COPY_PACK, COPY_PACKED, UNIT, UPL_COMMAND_END,
  UPL_DONE_READ. Each clause says that the command answers a next state, under conditions on the state and operands
  alone, and what that state holds. Where a clause goes beyond the words of these rules it rests on log entry 12.
  Rests on R332, R333, R334, R336. -/
def Obligations.UploadCommands : Prop :=
  (∀ (s : State) (v t : Nat), s.up → s.role = .tile → bitsOf v 31 1 = 1 → bitsOf v 3 1 = 0 → s.cor.uploads.length < 16
    → s.gives (.uplCmdGo v t) fun u => u.cor.uploads = s.cor.uploads ++
    [{ op := bitsOf v 0 3, id := bitsOf v 8 8, first := s.get R.COR.UPL_RGN.FIRST, count := s.get R.COR.UPL_RGN.COUNT, src := s.get R.COR.UPL_SRC.OFS }]
    ∧ u.get R.COR.BANK_STAT.UPL_BUSY = 1) ∧
  (∀ (s : State) (t : Nat) (x : Upload) (r : List Upload), s.up → s.role = .tile → s.cor.uploads = x :: r → x.op = 1 →
    x.status = 0 → x.started = true → s.frozen B.cor = false → ((s.tick t).dramBytes 3 (s.upbuf + x.src + x.done *
    srcBytes 1) (srcBytes 1)).2.2 = false → s.gives (.copyRegions t) fun u => u.cor.uploads =
    { x with done := x.done + 1, status := if x.done + 1 = x.count then 1 else 0 } :: r) ∧
  (∀ (s : State) (t : Nat) (x : Upload) (r : List Upload), s.up → s.role = .tile → s.cor.uploads = x :: r → x.op = 2 →
    x.status = 0 → x.started = true → s.frozen B.cor = false → ((s.tick t).dramBytes 3 (s.upbuf + x.src + x.done *
    srcBytes 2) (srcBytes 2)).2.2 = false → s.gives (.copyPack t) fun u => u.cor.uploads =
    { x with done := x.done + 1, status := if x.done + 1 = x.count then 1 else 0 } :: r) ∧
  (∀ (s : State) (t : Nat) (x : Upload) (r : List Upload), s.up → s.role = .tile → s.cor.uploads = x :: r → x.op = 3 →
    x.status = 0 → x.started = true → s.frozen B.cor = false → ((s.tick t).dramBytes 3 (s.upbuf + x.src + x.done *
    srcBytes 3) (srcBytes 3)).2.2 = false → (unlossless80 (leNat ((s.tick t).dramBytes 3 (s.upbuf + x.src + x.done *
    srcBytes 3) (srcBytes 3)).2.1)).isSome → s.gives (.copyPacked t) fun u => u.cor.uploads =
    { x with done := x.done + 1, status := if x.done + 1 = x.count then 1 else 0 } :: r) ∧
  (∀ (s : State) (t : Nat) (x : Upload) (r : List Upload), s.up → s.role = .tile → s.cor.uploads = x :: r → x.op = 4 →
    x.status = 0 → x.started = true → s.frozen B.cor = false → s.gives (.unitRecords t) fun u => u.cor.uploads =
    { x with done := x.done + 1, status := if x.done + 1 = x.count then 1 else 0 } :: r) ∧
  (∀ (s : State) (t : Nat) (x : Upload) (r : List Upload), s.up → s.role = .tile → s.cor.uploads = x :: r → x.op = 1 →
    x.status ≠ 0 → s.gives (.uplCommandEnd t) fun u => u.cor.uploads = r ∧ u.cor.completions = s.cor.completions ++
    [(x.id, x.status, x.done)] ∧ u.raised B.cor Ev.COR.UPL_DONE) ∧
  (∀ (s : State) (t : Nat) (c d : Nat × Nat × Nat) (r : List (Nat × Nat × Nat)), s.up → s.role = .tile →
    s.cor.completions = c :: d :: r → s.gives (.uplDoneRead t) fun u => u.cor.completions = d :: r ∧ u.get
    R.COR.UPL_DONE.ID = d.1 % 2 ^ R.COR.UPL_DONE.ID.width ∧ u.get R.COR.UPL_DONE.STATUS = d.2.1 % 2 ^
    R.COR.UPL_DONE.STATUS.width)

/-- The gap, the loads, the flips and the rows of scan-out complete. The gap starts with its cells and the readback, a
  load starts in either set and ends, a flip is sent or counted late, the next row is selected, and a readback window
  counts its overflows. Commands: GAP_START, READBACK_WINDOW_END, FLIP_SEND, LOAD_START, LOAD_DONE, LOAD_DEADLINE,
  ROW_SELECT_EDGE. Each clause says that the command answers a next state, under conditions on the state and operands
  alone, and what that state holds. Where a clause goes beyond the words of these rules it rests on log entries 16,
  19, 21. Rests on R350, R395, R358, R357, R356, R348. -/
def Obligations.ScanLoads : Prop :=
  (∀ (s : State) (t : Nat), s.up → s.role = .tile → s.live B.scn → s.enabled B.scn → s.get R.SCN.SCN_STAT.GAP = 0 →
    s.dep.last.isSome → (timetable s.scn.force).rbEn = 0 → s.gives (.gapStart t) fun u => u.get R.SCN.SCN_STAT.GAP = 1
    ∧ u.raised B.scn Ev.SCN.BLANK_START ∧ u.out.getLast? = some (.sink 4 [0])) ∧
  (∀ (s : State) (t : Nat), s.up → s.role = .tile → s.live B.scn → s.enabled B.scn → s.get R.SCN.SCN_STAT.GAP = 0 →
    s.dep.last.isSome → (timetable s.scn.force).rbEn = 1 → s.gives (.gapStart t) fun u => u.get R.SCN.SCN_STAT.GAP = 1
    ∧ u.raised B.scn Ev.SCN.BLANK_START ∧ Out.sink 5 [s.scanS - 1, (timetable s.scn.force).nseg - 1, spread (timetable
    s.scn.force).nseg, (timetable s.scn.force).seed] ∈ u.out ∧ u.out.getLast? = some (.readback (timetable
    s.scn.force).groups (timetable s.scn.force).rbUs)) ∧
  (∀ (s : State) (g : List (Nat × List Nat)) (t : Nat), s.up → s.role = .tile → s.get R.LFM.LFM_STAT.SUSPENDED = 0 →
    s.enabled B.lfm → (timetable s.scn.force).rbEn ≠ 0 → s.frozen B.lfm = false → s.gives (.readbackWindowEnd g t) fun
    u => u.get R.LFM.OVF_CNT.COUNT = (if g.any (fun e => !(upToEnd e.2).2) then min (s.get R.LFM.OVF_CNT.COUNT + 1) (2
    ^ R.LFM.OVF_CNT.COUNT.width - 1) else s.get R.LFM.OVF_CNT.COUNT) ∧ (g.any (fun e => !(upToEnd e.2).2) → u.raised
    B.lfm Ev.LFM.REC_ERR)) ∧
  (∀ (s : State) (t : Nat) (x : Load), s.up → s.role = .tile → s.scnWorks → s.modeCur.timing = 0 → s.scn.flip = false
    → s.scn.targetFree = true → s.scn.loaded = some x → s.gives (.flipSend t) fun u => u.scn.flip = true ∧
    u.scn.targetFree = false ∧ (s.modeCur.sink ≠ 1 → u.out = s.out ++ [.sink 3 [0x8000]])) ∧
  (∀ (s : State) (t : Nat), s.up → s.role = .tile → s.scnWorks → s.modeCur.timing = 0 → s.scn.flip = false →
    s.scn.targetFree = true → s.scn.loaded = none → s.gives (.flipSend t) fun u => u.scn.load = none ∧ u.get
    R.SCN.SCN_STAT.LOADING = 0 ∧ u.get (R.SCN.LOAD_LATE_CNT.COUNT) = min (s.get (R.SCN.LOAD_LATE_CNT.COUNT) + 1) (2 ^
    (R.SCN.LOAD_LATE_CNT.COUNT).width - 1) ∧ u.raised B.scn Ev.SCN.LOAD_LATE) ∧
  (∀ (s : State) (t : Nat), s.up → s.role = .tile → s.loadFree → s.nextView ≠ 0 → s.gives (.loadStart t) fun u =>
    u.scn.load = some ⟨s.nextView, s.get R.SCN.SCN_STAT.FRONT, s.scn.frontFrame.getD 0⟩ ∧ u.get R.SCN.SCN_STAT.LOADING
    = 1) ∧
  (∀ (s : State) (t : Nat), s.up → s.role = .tile → s.loadFree → s.nextView = 0 → s.scn.backFrame = s.dep.last →
    s.gives (.loadStart t) fun u => u.scn.load = some ⟨0, 1 - s.get R.SCN.SCN_STAT.FRONT, s.dep.last.getD 0⟩ ∧
    u.scn.fromBack = true ∧ u.get R.SCN.SCN_STAT.LOADING = 1) ∧
  (∀ (s : State) (t : Nat) (x : Load), s.up → s.role = .tile → s.scn.load = some x → x.view = 0 → s.gives (.loadDone
    t) fun u => u.scn.load = none ∧ u.scn.loaded = some x ∧ u.get R.SCN.SCN_STAT.LOADING = 0 ∧ u.raised B.scn
    Ev.SCN.FRAME_DONE) ∧
  (∀ (s : State) (t : Nat), s.up → s.role = .tile → s.loadFree → s.nextView = 0 → s.gives (.loadDeadline t) fun u =>
    u.scn.load = some ⟨0, s.get R.SCN.SCN_STAT.FRONT, s.scn.frontFrame.getD 0⟩ ∧ u.get R.SCN.SCN_STAT.LOADING = 1) ∧
  (∀ (s : State) (t : Nat), s.up → s.role = .tile → s.live B.scn → s.enabled B.scn → s.get R.SCN.SCN_STAT.GAP = 0 →
    s.dep.last.isSome → s.get R.SCN.SCN_STAT.ROW + 1 < s.scanS → s.gives (.rowSelectEdge t) fun u => u.get
    R.SCN.SCN_STAT.ROW = (s.get R.SCN.SCN_STAT.ROW + 1) % 2 ^ R.SCN.SCN_STAT.ROW.width ∧ u.get R.SCN.SCN_STAT.SEG =
    s.get R.SCN.SCN_STAT.SEG)

/-- Bands and the Timetable complete. A band without rows closes, one with its rows loads, a loaded band flips its
  plane, and the check and the synchronisation of the Timetable give their results. Commands: BAND_CLOSE, BAND_FLIP,
  TT_CHECK, TT_CHECK_DONE, TT_SYNC_DONE. Each clause says that the command answers a next state, under conditions on
  the state and operands alone, and what that state holds. Where a clause goes beyond the words of these rules it
  rests on log entries 17, 18. Rests on R363, R364, R369, R347. -/
def Obligations.BandsAndTimetable : Prop :=
  (∀ (s : State) (b t : Nat), s.up → s.role = .tile → b < s.scn.bands.length → s.modeCur.timing = 1 → (s.band
    b).closed = false → (s.band b).rows = [] → s.gives (.bandClose b t) fun u => u.band b =
    { s.band b with closed := true }) ∧
  (∀ (s : State) (b t : Nat), s.up → s.role = .tile → b < s.scn.bands.length → s.modeCur.timing = 1 → s.scnWorks →
    (s.band b).closed = false → (s.band b).rows ≠ [] → (List.range s.scanS).all (fun r => (s.band b).rows.contains r)
    → s.gives (.bandClose b t) fun u => (u.band b).closed = true ∧ (u.band b).loadAt = some (s.tick t).frc ∧ (u.band
    b).reload = false ∧ u.get R.SCN.ROW_REPEAT_CNT.COUNT = min (s.get R.SCN.ROW_REPEAT_CNT.COUNT) (2 ^ 32 - 1)) ∧
  (∀ (s : State) (b t a : Nat), s.up → s.role = .tile → b < s.scn.bands.length → s.modeCur.timing = 1 → s.scnWorks →
    (s.band b).loadAt = some a → a + 1500 ≤ max s.frc t → (s.band b).reload = false → s.gives (.bandFlip b t) fun u =>
    (u.band b).loadAt = none ∧ (u.band b).front = 1 - (s.band b).front ∧ (s.modeCur.sink ≠ 1 → u.out[s.out.length]? =
    some (.sink 3 [b % 16384]))) ∧
  (∀ (s : State) (t : Nat), s.up → s.role = .tile → s.gives (.ttCheck t) fun u => u.get R.SCN.TT_STAT.CHECK_BUSY = 1) ∧
  (∀ (s : State) (t : Nat), s.up → s.role = .tile → s.on R.SCN.TT_STAT.CHECK_BUSY → s.gives (.ttCheckDone t) fun u =>
    u.get R.SCN.TT_STAT.CHECK_BUSY = 0 ∧ u.get R.SCN.TT_STAT.CHECK_CODE = s.ttStagedCode % 2 ^
    R.SCN.TT_STAT.CHECK_CODE.width ∧ u.raised B.scn Ev.SCN.TT_CHECK_DONE) ∧
  (∀ (s : State) (t : Nat), s.up → s.role = .tile → s.on R.SCN.TT_STAT.SYNCING → s.scn.stalled = [] →
    s.scn.stalledCommit = false → s.gives (.ttSyncDone t) fun u => u.get R.SCN.TT_STAT.SYNCING = 0 ∧ u.scn.stage =
    s.scn.force ∧ u.raised B.scn Ev.SCN.TT_SYNC_DONE)

/-- Rail channels ramp, become ready, discharge, fault and clear. A ramping channel steps its setpoint by one toward
  its goal, and the events of the rail state table move a channel to READY, OFF and FAULT with the cause and the
  measured values. Commands: RAMP_STEP, RAIL_READY, DISCHARGED, DIS_TIMEOUT, OVERCURRENT, OVERVOLTAGE, UNDERVOLTAGE,
  EXTERNAL, CLR_FAULT. Each clause says that the command answers a next state, under conditions on the state and
  operands alone, and what that state holds. Where a clause goes beyond the words of these rules it rests on log
  entries 20, 25. Rests on R380, R379, R390, R389, R388. -/
def Obligations.RailStates : Prop :=
  (∀ (s : State) (c mv ma t : Nat), s.up → s.role = .tile → c < 24 → s.railState c = Rail.softstart ∨ s.railState c =
    Rail.ready → s.frozen B.rai = false → s.get (R.RCH.CH_STAT.SET_NOW c) < 2 ^ (R.RCH.CH_STAT.SET_NOW c).width →
    s.gives (.rampStep c mv ma t) fun u => (s.get (R.RCH.CH_STAT.SET_NOW c) < s.railGoal c → u.get
    (R.RCH.CH_STAT.SET_NOW c) = (s.get (R.RCH.CH_STAT.SET_NOW c) + 1) % 2 ^ (R.RCH.CH_STAT.SET_NOW c).width) ∧
    (s.railGoal c < s.get (R.RCH.CH_STAT.SET_NOW c) → u.get (R.RCH.CH_STAT.SET_NOW c) = s.get (R.RCH.CH_STAT.SET_NOW
    c) - 1) ∧ (s.get (R.RCH.CH_STAT.SET_NOW c) = s.railGoal c → u.get (R.RCH.CH_STAT.SET_NOW c) = s.railGoal c) ∧
    u.get (R.RCH.CH_MEAS.V c) = mv % 2 ^ (R.RCH.CH_MEAS.V c).width) ∧
  (∀ (s : State) (c mv ma t : Nat), s.up → s.role = .tile → c < 24 → s.railState c = Rail.softstart → s.gives
    (.railReady c mv ma t) fun u => u.railState c = Rail.ready ∧ u.get (R.RCH.CH_MEAS.V c) = mv % 2 ^ (R.RCH.CH_MEAS.V
    c).width ∧ u.raised B.rai Ev.RAI.RAIL_READY) ∧
  (∀ (s : State) (c mv t : Nat), s.up → s.role = .tile → c < 24 → s.rai.discharging.contains c → s.railState c =
    Rail.discharge → s.cur (R.RCH.CH_CTRL.MODE c) = 0 → s.gives (.discharged c mv t) fun u => u.railState c = Rail.off
    ∧ u.get (R.RCH.CH_STAT.DISCHARGED c) = 1 ∧ u.rai.discharging = s.rai.discharging.filter (· != c) ∧ u.raised B.rai
    Ev.RAI.DISCHARGED) ∧
  (∀ (s : State) (c mv ma t : Nat), s.up → s.role = .tile → c < 24 → s.railState c = Rail.discharge → s.gives
    (.disTimeout c mv ma t) fun u => u.railState c = Rail.fault ∧ u.get (R.RCH.CH_STAT.FCAUSE c) = 5 ∧ u.raised B.rai
    Ev.RAI.RAIL_FAULT) ∧
  (∀ (s : State) (c n mv ma t : Nat), s.up → s.role = .tile → c < 24 → s.railState c = Rail.ready → max 1 (s.cur
    (R.RCH.CH_SENSE.OC_CYC c)) ≤ n → s.gives (.overcurrent c n mv ma t) fun u => u.railState c = Rail.fault ∧ u.get
    (R.RCH.CH_STAT.FCAUSE c) = 1 ∧ u.get (R.RCH.CH_LIM_CNT.COUNT c) = min (s.get (R.RCH.CH_LIM_CNT.COUNT c) + n) (2 ^
    (R.RCH.CH_LIM_CNT.COUNT c).width - 1) ∧ c ∈ u.rai.discharging) ∧
  (∀ (s : State) (c mv ma t : Nat), s.up → s.role = .tile → c < 24 → s.railState c = Rail.softstart ∨ s.railState c =
    Rail.ready ∨ s.railState c = Rail.discharge → s.gives (.overvoltage c mv ma t) fun u => u.railState c = Rail.fault
    ∧ u.get (R.RCH.CH_STAT.FCAUSE c) = 2 ∧ c ∈ u.rai.discharging) ∧
  (∀ (s : State) (c mv ma t : Nat), s.up → s.role = .tile → c < 24 → s.railState c = Rail.ready → s.gives
    (.undervoltage c mv ma t) fun u => u.railState c = Rail.fault ∧ u.get (R.RCH.CH_STAT.FCAUSE c) = 3 ∧ c ∈
    u.rai.discharging) ∧
  (∀ (s : State) (c mv ma t : Nat), s.up → s.role = .tile → c < 24 → s.railState c = Rail.softstart ∨ s.railState c =
    Rail.ready ∨ s.railState c = Rail.discharge → s.gives (.externalFault c mv ma t) fun u => u.railState c =
    Rail.fault ∧ u.get (R.RCH.CH_STAT.FCAUSE c) = 4 ∧ c ∈ u.rai.discharging) ∧
  (∀ (s : State) (c t : Nat), s.up → s.role = .tile → c < 24 → s.railState c = Rail.fault → s.on
    (R.RCH.CH_STAT.DISCHARGED c) → s.cur (R.RCH.CH_CTRL.MODE c) = 0 → s.gives (.clrFault c t) fun u => u.railState c =
    Rail.off ∧ u.get (R.RCH.CH_STAT.FCAUSE c) = 0)

/-- The auxiliary outputs, the zone latches and the fault map complete. An auxiliary output limits and retries, a
  latch clears where 1 is written and sets again while its zone is faulted, and the fault map takes the bytes written.
  Commands: AUX_LIMIT, AUX_RETRY, LATCH_CLEAR, FAULT_MAP_WRITE. Each clause says that the command answers a next
  state, under conditions on the state and operands alone, and what that state holds. Where a clause goes beyond the
  words of these rules it rests on log entries 12, 23. Rests on R377, R401, R396. -/
def Obligations.AuxAndLatches : Prop :=
  (∀ (s : State) (k t : Nat), s.up → s.on (auxEn k) → s.on (auxOk k) → s.gives (.auxLimit k t) fun u => u.get (auxOk
    k) = 0 ∧ u.get (auxLim k) = 1 ∧ u.raised B.pwr (if k = 0 then Ev.PWR.AUX33_LIM else Ev.PWR.AUX18_LIM)) ∧
  (∀ (s : State) (k t : Nat), s.up → s.on (auxEn k) → s.on (auxLim k) → s.gives (.auxRetry k true t) fun u => u.get
    (auxOk k) = 1 ∧ u.get (auxLim k) = 0) ∧
  (∀ (s : State) (m t : Nat), s.up → s.role = .tile → (List.range 64).all (fun z => s.zoneMode z == 0) → s.gives
    (.latchClear m t) fun u => (List.range 64).all (fun z => u.bit64 R.LFM.LATCH_LO.ZONES R.LFM.LATCH_HI.ZONES z ==
    (s.bit64 R.LFM.LATCH_LO.ZONES R.LFM.LATCH_HI.ZONES z && !bitAt m z))) ∧
  (∀ (s : State) (m t z : Nat), s.up → s.role = .tile → z < 64 → s.zoneMode z ≠ 0 → s.zoneRailFault z → s.frozen B.lfm
    = false → s.live B.lfm → s.bit64 R.LFM.LATCH_LO.ZONES R.LFM.LATCH_HI.ZONES z → bitAt m z → s.get
    R.LFM.LATCH_LO.ZONES < 2 ^ 32 → s.get R.LFM.LATCH_HI.ZONES < 2 ^ 32 → s.gives (.latchClear m t) fun u => u.bit64
    R.LFM.LATCH_LO.ZONES R.LFM.LATCH_HI.ZONES z ∧ u.raised B.lfm Ev.LFM.ZONE_DARK) ∧
  (∀ (s : State) (o n v t : Nat), s.up → s.role = .tile → o + n ≤ s.faultBytes → s.route (s.faultBase + o) = .copies
    [0] → s.get R.PAR.CHK_CTRL.MODE ≠ 3 → rangeEnds.all (fun e => !(decide (s.faultBase + o < e) && decide (e <
    s.faultBase + o + n))) → s.gives (.faultMapWrite o n v t) fun u => u.mem.dram = writeBytes zeroB s.mem.dram
    (s.faultBase + o) (toBytes n v))

/-- DRAM channels train, fill, resilver and retrain. A training, a fill and a resilver that end move the channel to
  FILL, READY or OFFLINE with their counters and events, and a retraining is wanted, starts and ends with a margin or
  in DEGRADED. Commands: TRAIN_DONE, DRAM_TRAIN_TIMEOUT, FILL_DONE, RESILVER_DONE, RETRAIN_START, RETRAIN_END,
  RETRAIN_NOW. Each clause says that the command answers a next state, under conditions on the state and operands
  alone, and what that state holds. Where a clause goes beyond the words of these rules it rests on log entries 15,
  62, 63, 106. Rests on R412, R414, R418, R415, R416. -/
def Obligations.ChannelTraining : Prop :=
  (∀ (s : State) (c margin t : Nat), s.up → c < 4 → s.workingMargin c margin → s.fwu.mcUp = true ∨ (List.range 4).any
    (fun k => k != c && s.chState k == Ch.train) → s.live (B.mem c) → s.chState c = Ch.train → s.chFrozen c = false →
    s.on (R.MEM.CH_STAT.FILLED c) → s.mem.resilver.contains c = false → s.mem.toSelfRefresh.contains c = false →
    s.gives (.trainDone c margin t) fun u => u.chState c = Ch.ready ∧ u.get (R.MEM.CH_STAT.MARGIN c) = margin % 2 ^
    (R.MEM.CH_STAT.MARGIN c).width ∧ u.get (R.MEM.TRAIN_CNT.DONE c) = min (s.get (R.MEM.TRAIN_CNT.DONE c) + 1) (2 ^
    (R.MEM.TRAIN_CNT.DONE c).width - 1) ∧ u.raised (B.mem c) Ev.MEM.TRAIN_DONE) ∧
  (∀ (s : State) (c margin t : Nat), s.up → c < 4 → s.workingMargin c margin → s.fwu.mcUp = true ∨ (List.range 4).any
    (fun k => k != c && s.chState k == Ch.train) → s.chState c = Ch.train → s.chFrozen c = false → s.get
    (R.MEM.CH_STAT.FILLED c) = 0 → s.mem.toSelfRefresh.contains c = false → s.gives (.trainDone c margin t) fun u =>
    u.chState c = Ch.fill ∧ u.get (R.MEM.TRAIN_CNT.DONE c) = min (s.get (R.MEM.TRAIN_CNT.DONE c) + 1) (2 ^
    (R.MEM.TRAIN_CNT.DONE c).width - 1)) ∧
  (∀ (s : State) (c t : Nat), s.up → c < 4 → s.fwu.mcUp = true ∨ (List.range 4).any (fun k => k != c && s.chState k ==
    Ch.train) → s.live (B.mem c) → s.chState c = Ch.train → s.gives (.dramTrainTimeout c t) fun u => u.chState c =
    Ch.offline ∧ u.get (R.MEM.TRAIN_CNT.FAILED c) = min (s.get (R.MEM.TRAIN_CNT.FAILED c) + 1) (2 ^
    (R.MEM.TRAIN_CNT.FAILED c).width - 1) ∧ u.get (R.MEM.CH_STAT.FILLED c) = 0 ∧ u.raised (B.mem c) Ev.MEM.OFFLINE) ∧
  (∀ (s : State) (c t : Nat), s.up → c < 4 → s.live (B.mem c) → s.chState c = Ch.fill → s.chFrozen c = false →
    s.mem.resilver.contains c = false → s.mem.toSelfRefresh.contains c = false → s.gives (.fillDone c t) fun u =>
    u.chState c = Ch.ready ∧ u.get (R.MEM.CH_STAT.FILLED c) = 1 ∧ u.raised (B.mem c) Ev.MEM.CH_READY) ∧
  (∀ (s : State) (c t : Nat), s.up → c < 2 → s.live (B.mem c) → s.chState c = Ch.fill → s.chFrozen c = false →
    s.mem.resilver.contains c → s.mem.toSelfRefresh.contains c = false → s.on (R.MEM.CH_STAT.FILLED c) → s.gives
    (.resilverDone c t) fun u => u.chState c = Ch.ready ∧ u.mem.resilver = s.mem.resilver.filter (· != c) ∧ u.raised
    (B.mem c) Ev.MEM.CH_READY) ∧
  (∀ (s : State) (c t : Nat), s.up → c < 4 → s.chUp c → (s.tick t).retrainDue c → s.mem.retraining.contains c = false
    → s.gives (.retrainStart c t) fun u => u.mem.retraining = s.mem.retraining ++ [c] ∧ u.mem.wanted =
    s.mem.wanted.filter (· != c)) ∧
  (∀ (s : State) (c m t : Nat), s.up → c < 4 → s.workingMargin c m → s.live (B.mem c) → s.mem.retraining.contains c →
    s.chState c = Ch.ready → s.gives (.retrainEnd c (some m) t) fun u => u.mem.retraining = s.mem.retraining.filter (·
    != c) ∧ u.chState c = Ch.ready ∧ u.get (R.MEM.TRAIN_CNT.DONE c) = min (s.get (R.MEM.TRAIN_CNT.DONE c) + 1) (2 ^
    (R.MEM.TRAIN_CNT.DONE c).width - 1) ∧ u.get (R.MEM.CH_STAT.MARGIN c) = m % 2 ^ (R.MEM.CH_STAT.MARGIN c).width) ∧
  (∀ (s : State) (c m t : Nat), s.up → c < 4 → s.workingMargin c m = false → s.live (B.mem c) →
    s.mem.retraining.contains c → s.chState c = Ch.ready → s.gives (.retrainEnd c (some m) t) fun u =>
    u.mem.retraining = s.mem.retraining.filter (· != c) ∧ u.chState c = Ch.degraded ∧ u.get (R.MEM.TRAIN_CNT.FAILED c)
    = min (s.get (R.MEM.TRAIN_CNT.FAILED c) + 1) (2 ^ (R.MEM.TRAIN_CNT.FAILED c).width - 1) ∧ u.get
    (R.MEM.CH_STAT.MARGIN c) = s.get (R.MEM.CH_STAT.MARGIN c)) ∧
  (∀ (s : State) (c t : Nat), s.up → c < 4 → s.chUp c → s.mem.wanted.contains c = false → s.gives (.retrainNow c t)
    fun u => u.mem.wanted = s.mem.wanted ++ [c])

/-- DRAM channels enter and leave self-refresh, go offline, return and are tested. Self-refresh, OFFLINE, RETURN and
  the BIST move a channel as their rules give, and a refused entry records code 0x15. Commands: SR_ENTER, SR_EXIT,
  OFFLINE, RETURN, BIST_GO, BIST_DONE. Each clause says that the command answers a next state, under conditions on the
  state and operands alone, and what that state holds. Where a clause goes beyond the words of these rules it rests on
  log entries 47, 62. Rests on R420, R417, R418, R421. -/
def Obligations.ChannelStates : Prop :=
  (∀ (s : State) (c t : Nat), s.up → s.role = .sender → c < 4 → s.chState c = Ch.ready → s.chFrozen c = false →
    s.gives (.srEnter c t) fun u => u.chState c = Ch.selfRefresh ∧ u.get (R.MEM.CH_CTRL.SR c) = 1 ∧ u.raised (B.mem c)
    Ev.MEM.SR_ENTER) ∧
  (∀ (s : State) (c t : Nat), s.up → c < 4 → s.live (B.mem c) → s.chState c ≠ Ch.ready → s.get (R.PG.ERR_VALID (B.mem
    c)) = 0 → s.gives (.srEnter c t) fun u => u.chState c = s.chState c ∧ u.get (R.PG.ERR_CODE (B.mem c)) = 0x15 ∧
    u.get (R.PG.ERR_VALID (B.mem c)) = 1) ∧
  (∀ (s : State) (c t : Nat), s.up → s.role = .sender → c < 4 → s.chState c = Ch.selfRefresh → (s.tick t).retrainDue c
    → s.gives (.srExit c t) fun u => u.chState c = Ch.train ∧ u.get (R.MEM.CH_CTRL.SR c) = 0 ∧ u.raised (B.mem c)
    Ev.MEM.SR_EXIT) ∧
  (∀ (s : State) (c t : Nat), s.up → c < 4 → s.live (B.mem c) → s.chUp c → s.gives (.offlineChannel c t) fun u =>
    u.chState c = Ch.offline ∧ u.get (R.MEM.CH_STAT.FILLED c) = 0 ∧ u.raised (B.mem c) Ev.MEM.OFFLINE) ∧
  (∀ (s : State) (c t : Nat), s.up → c < 4 → s.chState c = Ch.offline → s.gives (.returnChannel c t) fun u =>
    u.chState c = Ch.train) ∧
  (∀ (s : State) (c t : Nat), s.up → s.role = .sender → c < 4 → s.chState c = Ch.ready → s.chFrozen c = false →
    s.portsQuiet → (List.range 4).all (fun o => o == c || s.chState o == Ch.selfRefresh || s.chState o == Ch.offline)
    → s.gives (.bistGo c t) fun u => u.get (R.MEM.BIST_STAT.RESULT c) = 1 ∧ u.get (R.MEM.CH_STAT.FILLED c) = 0) ∧
  (∀ (s : State) (c : Nat) (bad : Option Nat) (t : Nat), s.up → c < 4 → s.get (R.MEM.BIST_STAT.RESULT c) = 1 →
    s.chState c ≠ Ch.offline → s.live (B.mem c) → s.gives (.bistDone c bad t) fun u => u.get (R.MEM.BIST_STAT.RESULT
    c) = (if bad.isSome then 3 else 2) ∧ u.chState c = Ch.fill ∧ u.raised (B.mem c) Ev.MEM.BIST_DONE)

/-- DRAM accesses, SRAM parity and the patrol reader complete. A write stores its bytes and a read returns them; a
  parity error of an SRAM word is counted and recorded, and takes a packet out of the merge buffer; the patrol reader
  walks on by one region, and PAT_BAD shows and removes its oldest entry. Commands: DRAM_ACCESS, SRAM_PARITY,
  PATROL_READ, PAT_BAD_READ. Each clause says that the command answers a next state, under conditions on the state and
  operands alone, and what that state holds. Where a clause goes beyond the words of these rules it rests on log
  entries 47, 77. Rests on R426, R431, R436. -/
def Obligations.MemoryAccess : Prop :=
  (∀ (s : State) (port a n v lat : Nat) (fwd stall : Bool) (t : Nat) (l : List Nat), s.up → s.route a = .copies l →
    s.get R.PAR.CHK_CTRL.MODE ≠ 3 → rangeEnds.all (fun e => !(decide (a < e) && decide (e < a + n))) → s.gives
    (.dramAccess port a n true v 0 0 lat fwd stall t) fun u => u.mem.dram = writeBytes zeroB s.mem.dram a (toBytes n
    v)) ∧
  (∀ (s : State) (port a t c : Nat), s.up → s.route a = .copies [c] → a % 8 = 0 → s.parMask a c = 0 → s.role = .sender
    → s.gives (.dramAccess port a 8 false 0 0 0 0 false false t) fun u => u.out.getLast? = some (.data a 8 (s.word8
    a)) ∧ u.mem.dram = s.mem.dram) ∧
  (∀ (s : State) (b array o bytes loc t : Nat), s.up → s.live b → b % 0x1000 = 0 → s.live B.par → b ≠ B.par → s.get
    (R.PG.ERR_VALID b) = 0 → s.gives (.sramParity b array o bytes loc none t) fun u => u.get
    (R.PAR.SRAM_ERR_CNT.COUNT) = min (s.get (R.PAR.SRAM_ERR_CNT.COUNT) + 1) (2 ^ (R.PAR.SRAM_ERR_CNT.COUNT).width - 1)
    ∧ u.get (R.PG.ERR_CODE b) = 2 ∧ u.get (R.PG.ERR_VALID b) = 1 ∧ u.raised B.par Ev.PAR.SRAM_PARITY ∧
    u.mem.sram.contains (loc / 8 * 8)) ∧
  (∀ (s : State) (array o bytes loc t k q : Nat) (f : RecvFrame) (a : Nat) (r : List Nat), s.up → s.role = .sender → k
    < 32 → k < s.ing.slots.length → (s.slot k).recv = [f] → f.a.any (fun e => e.1 == unwrapSeq (s.slot k).legA.last q)
    → (f.a.filter (fun e => unwrapSeq (s.slot k).legA.last q < e.1)).map (·.2) = a :: r → s.gives (.sramParity B.ing
    array o bytes loc (some (k, 0, q)) t) fun u => u.get (R.PAR.SRAM_ERR_CNT.COUNT) = min (s.get
    (R.PAR.SRAM_ERR_CNT.COUNT) + 1) (2 ^ (R.PAR.SRAM_ERR_CNT.COUNT).width - 1) ∧ (∃ g, (u.slot k).recv = [g] ∧ g.a =
    f.a.filter (fun e => e.1 != unwrapSeq (s.slot k).legA.last q) ∧ g.b = f.b) ∧ (u.slot k).legA.miss = (s.slot
    k).legA.miss ++ [(unwrapSeq (s.slot k).legA.last q, r.foldl min a + s.skewMax)]) ∧
  (∀ (s : State) (t base n : Nat), s.up → s.on R.PAR.PAT_CTRL.EN → s.works B.par → s.patWalk[s.mem.patBank]? = some
    (base, n) → s.mem.patRegion + 1 < n → s.gives (.patrolRead t) fun u => u.get R.PAR.PAT_STAT.RUNNING = 1 ∧
    u.mem.patRegion = s.mem.patRegion + 1 ∧ u.mem.patBank = s.mem.patBank) ∧
  (∀ (s : State) (t : Nat), s.up → s.gives (.patBadRead t) fun u => u.mem.patBad = s.mem.patBad.drop 1 ∧ u.out = s.out
    ++ [.data 0x120120 4 (s.get R.PAR.PAT_BAD.VALID + 2 * s.get R.PAR.PAT_BAD.BANK + 4096 * s.get
    R.PAR.PAT_BAD.REGION)])

/-- BAR accesses, doorbells and descriptor fetches complete. An allowed BAR access reads or writes its register and a
  denied one counts; a doorbell of the owner moves the tail and another is denied; a fetched descriptor is queued, a
  failed fetch stops the queue. Commands: BAR_ACCESS, DOORBELL, DESCRIPTOR_FETCH. Each clause says that the command
  answers a next state, under conditions on the state and operands alone, and what that state holds. Where a clause
  goes beyond the words of these rules it rests on log entries 48, 56, 73. Rests on R441, R444, R445. -/
def Obligations.HostAccess : Prop :=
  (∀ (s : State) (fn t : Nat), s.up → fn < 16 → s.pcieUp → s.barOk fn 0x8120 false → s.get R.TIM.SLEW_MAX.V < 2 ^ 16 →
    s.gives (.barAccess fn 0x8120 4 none t) fun u => u.out = s.out ++ [.hostData fn 0x8120 4 (s.get R.TIM.SLEW_MAX.V)
    false]) ∧
  (∀ (s : State) (fn v t : Nat), s.up → fn < 16 → s.pcieUp → s.barOk fn 0x8120 true → s.gives (.barAccess fn 0x8120 4
    (some v) t) fun u => u.get R.TIM.SLEW_MAX.V = v % 2 ^ 16) ∧
  (∀ (s : State) (fn t : Nat), s.up → fn < 16 → s.pcieUp → s.barOk fn 0x8120 true = false → s.gives (.barAccess fn
    0x8120 4 (some 7) t) fun u => u.get R.TIM.SLEW_MAX.V = s.get R.TIM.SLEW_MAX.V ∧ u.get (R.TEN.DENY_CNT.COUNT fn) =
    min (s.get (R.TEN.DENY_CNT.COUNT fn) + 1) (2 ^ (R.TEN.DENY_CNT.COUNT fn).width - 1) ∧ u.raised B.ten
    Ev.TEN.DENIED) ∧
  (∀ (s : State) (fn q tail t : Nat), s.up → fn < 16 → q < 8192 → tail < 4096 → s.pcieUp → s.qOwner q = fn → tail <
    s.qSize q → s.gives (.doorbell fn q tail t) fun u => u.get (R.QCX.Q_TAIL.IDX q) = tail) ∧
  (∀ (s : State) (fn q tail t : Nat), s.up → fn < 16 → q < 8192 → s.pcieUp → s.qOwner q ≠ fn → s.gives (.doorbell fn q
    tail t) fun u => u.get (R.QCX.Q_TAIL.IDX q) = s.get (R.QCX.Q_TAIL.IDX q) ∧ u.get (R.TEN.DB_DENY.COUNT fn) = min
    (s.get (R.TEN.DB_DENY.COUNT fn) + 1) (2 ^ (R.TEN.DB_DENY.COUNT fn).width - 1) ∧ u.raised B.ten Ev.TEN.DENIED) ∧
  (∀ (s : State) (q : Nat) (l : List (BitVec 8)) (t : Nat), s.up → q < 8192 → s.fnUp (s.qOwner q) → l.length = 64 →
    s.pcieUp → s.works B.que → s.on (R.QCX.Q_CTRL.EN q) → s.get (R.QCX.Q_FETCH.IDX q) ≠ s.get (R.QCX.Q_TAIL.IDX q) →
    s.get (R.QCX.Q_INFLIGHT.COUNT q) < 64 → s.descLegal ⟨q, s.get (R.QCX.Q_FETCH.IDX q), l, s.get
    R.TEN.RULE_EPOCH.EPOCH, 0, [], false, none, none⟩ → s.descOk ⟨q, s.get (R.QCX.Q_FETCH.IDX q), l, s.get
    R.TEN.RULE_EPOCH.EPOCH, 0, [], false, none, none⟩ → s.gives (.descriptorFetch q l false false t) fun u =>
    u.que.descs = s.que.descs ++ [⟨q, s.get (R.QCX.Q_FETCH.IDX q), l, s.get R.TEN.RULE_EPOCH.EPOCH, 0, [], false,
    none, none⟩] ∧ u.get (R.QCX.Q_FETCH.IDX q) = (s.get (R.QCX.Q_FETCH.IDX q) + 1) % s.qSize q) ∧
  (∀ (s : State) (q : Nat) (l : List (BitVec 8)) (poison : Bool) (t : Nat), s.up → q < 8192 → s.fnUp (s.qOwner q) →
    s.pcieUp → s.works B.que → s.on (R.QCX.Q_CTRL.EN q) → s.get (R.QCX.Q_FETCH.IDX q) ≠ s.get (R.QCX.Q_TAIL.IDX q) →
    s.get (R.QCX.Q_INFLIGHT.COUNT q) < 64 → s.gives (.descriptorFetch q l poison true t) fun u => u.get
    (R.QCX.Q_CTRL.ERROR q) = 1 ∧ u.get (R.QCX.Q_CTRL.EN q) = 0 ∧ u.get (R.QCX.Q_ERR.CAUSE q) = 2 ∧ u.raised B.que
    Ev.QUE.QUEUE_ERROR)

/-- Descriptors for a tile are sent over the line. A register descriptor, an upload part and a departure entry for a
  stop leave as requests on the port their address names, and are counted as dispatched. Commands: TILE_REG_READ,
  TILE_REG_WRITE, TILE_REG_WRITE_MASKED, TILE_REG_PING, UPLOAD, DEPART_WRITE, DEPART_CANCEL. Each clause says that the
  command answers a next state, under conditions on the state and operands alone, and what that state holds. Where a
  clause goes beyond the words of these rules it rests on log entry 74. Rests on R446, R448, R449. -/
def Obligations.RemoteDescriptors : Prop :=
  (∀ (s : State) (q idx t : Nat) (d : Desc), s.up → s.role = .sender → q < 8192 → s.works B.que → s.qClass q = 0 →
    s.desc q idx = some d → d.op = 1 → s.dispatchable q idx → s.myTurn q → d.epoch = s.get R.TEN.RULE_EPOCH.EPOCH →
    stopOf d.addr ≠ 0 → s.badAddress d.addr d.op = false → s.lineRoom (portOf d.addr) (stopOf d.addr) → s.gives
    (.tileRegRead q idx t) fun u => (∃ r : ReqMsg, u.out = s.out ++ [.msg (portOf d.addr) (.req r)] ∧ r.op = 1 ∧
    r.stop = stopOf d.addr ∧ r.loc = locOf d.addr ∧ r.tag = d.tag ∧ r.count = d.len) ∧ (u.lineTx (portOf
    d.addr)).txns.length = (s.lineTx (portOf d.addr)).txns.length + 1 ∧ u.get (R.QUE.DISPATCHED.COUNT) = min (s.get
    (R.QUE.DISPATCHED.COUNT) + 1) (2 ^ (R.QUE.DISPATCHED.COUNT).width - 1)) ∧
  (∀ (s : State) (q idx t : Nat) (d : Desc), s.up → s.role = .sender → q < 8192 → s.works B.que → s.qClass q = 0 →
    s.desc q idx = some d → d.op = 2 → s.dispatchable q idx → s.myTurn q → d.epoch = s.get R.TEN.RULE_EPOCH.EPOCH →
    stopOf d.addr ≠ 0 → s.badAddress d.addr d.op = false → s.lineRoom (portOf d.addr) (stopOf d.addr) → s.gives
    (.tileRegWrite q idx t) fun u => (∃ r : ReqMsg, u.out = s.out ++ [.msg (portOf d.addr) (.req r)] ∧ r.op = 2 ∧
    r.stop = stopOf d.addr ∧ r.loc = locOf d.addr ∧ r.tag = d.tag ∧ r.data = d.inline d.len) ∧ (u.lineTx (portOf
    d.addr)).txns.length = (s.lineTx (portOf d.addr)).txns.length + 1 ∧ u.get (R.QUE.DISPATCHED.COUNT) = min (s.get
    (R.QUE.DISPATCHED.COUNT) + 1) (2 ^ (R.QUE.DISPATCHED.COUNT).width - 1)) ∧
  (∀ (s : State) (q idx t : Nat) (d : Desc), s.up → s.role = .sender → q < 8192 → s.works B.que → s.qClass q = 0 →
    s.desc q idx = some d → d.op = 3 → s.dispatchable q idx → s.myTurn q → d.epoch = s.get R.TEN.RULE_EPOCH.EPOCH →
    stopOf d.addr ≠ 0 → s.badAddress d.addr d.op = false → s.lineRoom (portOf d.addr) (stopOf d.addr) → s.gives
    (.tileRegWriteMasked q idx t) fun u => (∃ r : ReqMsg, u.out = s.out ++ [.msg (portOf d.addr) (.req r)] ∧ r.op = 3
    ∧ r.stop = stopOf d.addr ∧ r.loc = locOf d.addr ∧ r.tag = d.tag ∧ r.mask = d.le 20 4 ∧ r.data = d.inline 1) ∧
    (u.lineTx (portOf d.addr)).txns.length = (s.lineTx (portOf d.addr)).txns.length + 1 ∧ u.get
    (R.QUE.DISPATCHED.COUNT) = min (s.get (R.QUE.DISPATCHED.COUNT) + 1) (2 ^ (R.QUE.DISPATCHED.COUNT).width - 1)) ∧
  (∀ (s : State) (q idx t : Nat) (d : Desc), s.up → s.role = .sender → q < 8192 → s.works B.que → s.qClass q = 0 →
    s.desc q idx = some d → d.op = 4 → s.dispatchable q idx → s.myTurn q → d.epoch = s.get R.TEN.RULE_EPOCH.EPOCH →
    stopOf d.addr ≠ 0 → s.badAddress d.addr d.op = false → s.lineRoom (portOf d.addr) (stopOf d.addr) → s.gives
    (.tileRegPing q idx t) fun u => (∃ r : ReqMsg, u.out = s.out ++ [.msg (portOf d.addr) (.req r)] ∧ r.op = 4 ∧
    r.stop = stopOf d.addr ∧ r.loc = locOf d.addr ∧ r.tag = d.tag) ∧ (u.lineTx (portOf d.addr)).txns.length =
    (s.lineTx (portOf d.addr)).txns.length + 1 ∧ u.get (R.QUE.DISPATCHED.COUNT) = min (s.get (R.QUE.DISPATCHED.COUNT)
    + 1) (2 ^ (R.QUE.DISPATCHED.COUNT).width - 1)) ∧
  (∀ (s : State) (q idx : Nat) (l : List (BitVec 8)) (t : Nat) (d : Desc), s.up → s.role = .sender → q < 8192 →
    s.works B.que → s.qClass q = 3 → s.desc q idx = some d → d.op = 5 → s.dispatchable q idx → s.myTurn q → d.epoch =
    s.get R.TEN.RULE_EPOCH.EPOCH → d.len ≠ 0 → d.answers = [] → stopOf d.addr ≠ 0 → s.badAddress d.addr 2 = false →
    s.lineRoom (portOf d.addr) (stopOf d.addr) → s.gives (.upload q idx l false t) fun u => (∃ r : ReqMsg, u.out =
    s.out ++ [.msg (portOf d.addr) (.req r)] ∧ r.op = 2 ∧ r.count = 8 ∧ r.stop = stopOf d.addr ∧ r.loc = locOf d.addr
    + 32 * d.sent) ∧ u.desc q idx = some { d with sent := d.sent + 1, dispatched := (d.sent + 1) * 32 == d.len }) ∧
  (∀ (s : State) (q idx t : Nat) (d : Desc), s.up → s.role = .sender → q < 8192 → s.works B.que → s.qClass q = 5 →
    s.desc q idx = some d → d.op = 2 → s.dispatchable q idx → s.myTurn q → d.epoch = s.get R.TEN.RULE_EPOCH.EPOCH →
    stopOf d.addr ≠ 0 → s.badAddress d.addr 2 = false → s.lineRoom (portOf d.addr) (stopOf d.addr) → (s.lineTx (portOf
    d.addr)).txns = [] → stopOf d.addr ≠ 255 → (s.lineTx (portOf d.addr)).held = [] → s.gives (.departWrite q idx t)
    fun u => (∃ r : ReqMsg, u.out[s.out.length]? = some (.msg (portOf d.addr) (.req r)) ∧ r.op = 2 ∧ r.loc = B.dep +
    0x130 ∧ r.data = d.entryWords) ∧ (∃ r : ReqMsg, u.out[s.out.length + 1]? = some (.msg (portOf d.addr) (.req r)) ∧
    r.op = 1 ∧ r.loc = B.dep + 0x14C)) ∧
  (∀ (s : State) (q idx t : Nat) (d : Desc), s.up → s.role = .sender → q < 8192 → s.works B.que → s.qClass q = 5 →
    s.desc q idx = some d → d.op = 6 → s.dispatchable q idx → s.myTurn q → d.epoch = s.get R.TEN.RULE_EPOCH.EPOCH →
    stopOf d.addr ≠ 0 → s.badAddress d.addr 2 = false → s.lineRoom (portOf d.addr) (stopOf d.addr) → (s.lineTx (portOf
    d.addr)).txns = [] → stopOf d.addr ≠ 255 → (s.lineTx (portOf d.addr)).held = [] → s.gives (.departCancel q idx t)
    fun u => (∃ r : ReqMsg, u.out[s.out.length]? = some (.msg (portOf d.addr) (.req r)) ∧ r.op = 2 ∧ r.loc = B.dep +
    0x130 ∧ r.data = d.entryWords) ∧ (∃ r : ReqMsg, u.out[s.out.length + 1]? = some (.msg (portOf d.addr) (.req r)) ∧
    r.op = 1 ∧ r.loc = B.dep + 0x14C))

/-- Descriptors for the sender itself complete in place. A LAYER descriptor reads or writes its register and a CARD
  descriptor its card, the completion is written to the ring, and a queue that is disabled drops its descriptors with
  status 9. Commands: LAYER_READ, LAYER_WRITE, LAYER_WRITE_MASKED, CARD_WRITE, CARD_COPY, QUEUE_DISABLE. Each clause
  says that the command answers a next state, under conditions on the state and operands alone, and what that state
  holds. Where a clause goes beyond the words of these rules it rests on log entry 74. Rests on R452, R448, R450. -/
def Obligations.LocalDescriptors : Prop :=
  (∀ (s : State) (q idx t : Nat) (d : Desc), s.up → s.role = .sender → q < 8192 → s.works B.que → s.qClass q = 1 →
    s.desc q idx = some d → d.op = 1 → s.dispatchable q idx → s.myTurn q → d.epoch = s.get R.TEN.RULE_EPOCH.EPOCH →
    locOf d.addr = 0x71104 → d.len = 1 → s.get (R.LAY.L_DST_XY.DX 0) < 2 ^ 15 → s.get (R.LAY.L_DST_XY.DY 0) < 2 ^ 15 →
    s.gives (.layerRead q idx t) fun u => Out.hostWrite (s.qOwner q) (s.get64 (R.QCX.Q_BASE_LO.BASE q)
    (R.QCX.Q_BASE_HI.BASE q) + 64 * idx + 56) ([BitVec.ofNat 8 0, 0, 0, 0] ++ toBytes 4 (1)) ∈ u.out ∧ Out.hostWrite
    (s.qOwner q) (s.get64 (R.QCX.Q_BASE_LO.BASE q) (R.QCX.Q_BASE_HI.BASE q) + 64 * idx + 24) (toBytes 4 (s.get
    (R.LAY.L_DST_XY.DX 0) + 2 ^ 16 * s.get (R.LAY.L_DST_XY.DY 0))) ∈ u.out) ∧
  (∀ (s : State) (q idx t : Nat) (d : Desc), s.up → s.role = .sender → q < 8192 → s.works B.que → s.qClass q = 1 →
    s.desc q idx = some d → d.op = 2 → s.dispatchable q idx → s.myTurn q → d.epoch = s.get R.TEN.RULE_EPOCH.EPOCH →
    locOf d.addr = 0x71104 → d.len = 1 → s.gives (.layerWrite q idx t) fun u => Out.hostWrite (s.qOwner q) (s.get64
    (R.QCX.Q_BASE_LO.BASE q) (R.QCX.Q_BASE_HI.BASE q) + 64 * idx + 56) ([BitVec.ofNat 8 0, 0, 0, 0] ++ toBytes 4 (1))
    ∈ u.out ∧ u.get (R.LAY.L_DST_XY.DX 0) = d.le 24 4 % 2 ^ 15) ∧
  (∀ (s : State) (q idx t : Nat) (d : Desc), s.up → s.role = .sender → q < 8192 → s.works B.que → s.qClass q = 1 →
    s.desc q idx = some d → d.op = 3 → s.dispatchable q idx → s.myTurn q → d.epoch = s.get R.TEN.RULE_EPOCH.EPOCH →
    locOf d.addr = 0x71104 → d.len = 1 → d.le 20 4 = 0x7FFF → s.gives (.layerWriteMasked q idx t) fun u =>
    Out.hostWrite (s.qOwner q) (s.get64 (R.QCX.Q_BASE_LO.BASE q) (R.QCX.Q_BASE_HI.BASE q) + 64 * idx + 56)
    ([BitVec.ofNat 8 0, 0, 0, 0] ++ toBytes 4 (1)) ∈ u.out ∧ u.get (R.LAY.L_DST_XY.DX 0) = d.le 24 4 % 2 ^ 15) ∧
  (∀ (s : State) (q idx t : Nat) (d : Desc), s.up → s.role = .sender → q < 8192 → s.works B.que → s.qClass q = 2 →
    s.desc q idx = some d → d.op = 2 → s.dispatchable q idx → s.myTurn q → d.epoch = s.get R.TEN.RULE_EPOCH.EPOCH →
    d.addr + 4 * d.len ≤ 0x200000 → d.addr % 4 = 0 → d.len = 1 → s.get R.MAP.CARD_STAT.SYNCING = 0 → s.gives
    (.cardWrite q idx t) fun u => Out.hostWrite (s.qOwner q) (s.get64 (R.QCX.Q_BASE_LO.BASE q) (R.QCX.Q_BASE_HI.BASE
    q) + 64 * idx + 56) ([BitVec.ofNat 8 0, 0, 0, 0] ++ toBytes 4 (1)) ∈ u.out ∧ u.map.stage = (s.cardStore d.addr 4
    (d.le 24 4)).map.stage) ∧
  (∀ (s : State) (q idx : Nat) (l : List (BitVec 8)) (t : Nat) (d : Desc), s.up → s.role = .sender → q < 8192 →
    s.works B.que → s.qClass q = 2 → s.desc q idx = some d → d.op = 5 → s.dispatchable q idx → s.myTurn q → d.epoch =
    s.get R.TEN.RULE_EPOCH.EPOCH → d.addr + d.len ≤ 0x200000 → d.addr % 4 = 0 → l.length = d.len → s.gives (.cardCopy
    q idx l none t) fun u => Out.hostWrite (s.qOwner q) (s.get64 (R.QCX.Q_BASE_LO.BASE q) (R.QCX.Q_BASE_HI.BASE q) +
    64 * idx + 56) ([BitVec.ofNat 8 0, 0, 0, 0] ++ toBytes 4 (d.len)) ∈ u.out) ∧
  (∀ (s : State) (q t : Nat), s.up → s.role = .sender → q < 8192 → s.que.descs = [] → s.gives (.queueDisable q t) fun
    u => u.get (R.QCX.Q_CTRL.EN q) = 0 ∧ u.que.descs = []) ∧
  (∀ (s : State) (q t : Nat) (d : Desc), s.up → s.role = .sender → q < 8192 → s.que.descs = [d] → d.q = q → d.result =
    none → d.dispatched = false → d.stop = none → d.sent = 0 → s.gives (.queueDisable q t) fun u => u.get
    (R.QCX.Q_CTRL.EN q) = 0 ∧ Out.hostWrite (s.qOwner q) (s.get64 (R.QCX.Q_BASE_LO.BASE q) (R.QCX.Q_BASE_HI.BASE q) +
    64 * d.idx + 56) [9, 0, 0, 0, 0, 0, 0, 0] ∈ u.out)

/-- Rule commits, tenant resets and the mailbox timeout complete. A rule commit takes the staged slots, counts the
  epoch and drains; while it drains another is refused; a tenant reset drops the descriptors of the tenant; a mailbox
  timeout sets its bit and keeps the messages. Commands: RULE_COMMIT, RULE_DONE, FLR, PERST_N, MAILBOX_TIMEOUT. Each
  clause says that the command answers a next state, under conditions on the state and operands alone, and what that
  state holds. Where a clause goes beyond the words of these rules it rests on log entry 48. Rests on R453, R455,
  R578, R459. -/
def Obligations.RulesAndResets : Prop :=
  (∀ (s : State) (t : Nat), s.up → s.role = .sender → s.get R.TEN.RULE_STAT.DRAINING = 0 → s.gives (.ruleCommit t) fun
    u => u.get R.TEN.RULE_EPOCH.EPOCH = (s.get R.TEN.RULE_EPOCH.EPOCH + 1) % 2 ^ R.TEN.RULE_EPOCH.EPOCH.width ∧ u.get
    R.TEN.RULE_STAT.DRAINING = 1 ∧ u.get (R.RUF.R_LWR_LO.MASK 3) = s.get (R.RUL.R_LWR_LO.MASK 3)) ∧
  (∀ (s : State) (t : Nat), s.up → s.role = .sender → s.on R.TEN.RULE_STAT.DRAINING → s.gives (.ruleCommit t) fun u =>
    u.get R.TEN.RULE_EPOCH.EPOCH = s.get R.TEN.RULE_EPOCH.EPOCH ∧ u.raised B.ten Ev.TEN.RULE_REFUSED) ∧
  (∀ (s : State) (t : Nat), s.up → s.role = .sender → s.on R.TEN.RULE_STAT.DRAINING → s.line.tx0.txns = [] →
    s.line.tx1.txns = [] → s.klc.job = none → s.gives (.ruleDone t) fun u => u.get R.TEN.RULE_STAT.DRAINING = 0 ∧
    u.raised B.ten Ev.TEN.RULE_DONE) ∧
  (∀ (s : State) (f t : Nat), s.up → s.role = .sender → 0 < f → f < 16 → s.gives (.flr f t) fun u => (∀ d ∈
    u.que.descs, u.qOwner d.q ≠ f) ∧ u.raised B.ten Ev.TEN.FLR) ∧
  (∀ (s : State) (t : Nat), s.up → s.role = .sender → s.gives (.perstN t) fun u => u.que.descs = s.que.descs.filter
    (fun d => 16 ≤ s.qOwner d.q) ∧ u.raised B.ten Ev.TEN.FLR) ∧
  (∀ (s : State) (c k t : Nat), s.up → c < 24 → k < 2 → (s.chan c).sent k ≠ [] → s.get (R.MBX.M_TMO.UNITS c k) ≠ 0 →
    s.works (B.mbx c) → s.gives (.mailboxTimeout c k t) fun u => u.get (R.MBX.M_STAT.TIMEOUT c k) = 1 ∧ u.raised
    (B.mbx c) (if k = 0 then Ev.MBX.A_TIMEOUT else Ev.MBX.B_TIMEOUT) ∧ (u.chan c).sent k = (s.chan c).sent k)

/-- Self-tests start, end and resume. A test starts with its target and counts its tries, an unknown one is refused
  with result 4, its end stores result and detail, and a suspended one runs again. Commands: TEST_GO, TEST_DONE,
  TEST_RESUME. Each clause says that the command answers a next state, under conditions on the state and operands
  alone, and what that state holds. Where a clause goes beyond the words of these rules it rests on log entry 59.
  Rests on R465, R466. -/
def Obligations.SelfTests : Prop :=
  (∀ (s : State) (target r t : Nat), s.up → s.que.test = none → s.gives (.testGo 3 target r t) fun u => u.que.test =
    some (3, min (target % 2 ^ R.QUE.TEST_CTRL.TARGET.width) (testMax 3), 1) ∧ u.get R.QUE.TEST_STAT.STATE = 1 ∧ u.get
    R.QUE.TEST_STAT.TRIES = 1 ∧ u.hkt.testing = true) ∧
  (∀ (s : State) (target r t : Nat), s.up → s.que.test = none → s.gives (.testGo 7 target r t) fun u => u.que.test =
    none ∧ u.get R.QUE.TEST_STAT.STATE = 0 ∧ u.get R.QUE.TEST_STAT.RESULT = 4) ∧
  (∀ (s : State) (result detail t k n : Nat), s.up → s.que.test = some (3, k, n) → s.get R.QUE.TEST_STAT.STATE = 1 →
    s.gives (.testDone result detail t) fun u => u.que.test = none ∧ u.get R.QUE.TEST_STAT.STATE = 0 ∧ u.get
    R.QUE.TEST_STAT.RESULT = result % 2 ^ R.QUE.TEST_STAT.RESULT.width ∧ u.get R.QUE.TEST_DETAIL.DETAIL = detail % 2 ^
    R.QUE.TEST_DETAIL.DETAIL.width ∧ u.hkt.testing = false) ∧
  (∀ (s : State) (t k n : Nat), s.up → s.que.test = some (1, k, n) → s.get R.QUE.TEST_STAT.STATE = 2 → s.testWaits 1 k
    = false → s.gives (.testResume t) fun u => u.que.test = some (1, k, n + 1) ∧ u.get R.QUE.TEST_STAT.STATE = 1)

/-- The lead wait, stream gaps, the handover and the resync complete. A sender that waited becomes LEAD, a gap fails
  the stream or makes the relief take the lead, a handover is accepted under its conditions and refused otherwise, and
  a resync returns the relief to SYNCING. Commands: LEAD_WAIT_END, STREAM_GAP, HANDOVER, RESYNC. Each clause says that
  the command answers a next state, under conditions on the state and operands alone, and what that state holds. Where
  a clause goes beyond the words of these rules it rests on log entry 67. Rests on R472, R481, R490, R479. -/
def Obligations.LeadAndRelief : Prop :=
  (∀ (s : State) (t : Nat), s.up → s.role = .sender → s.works B.rdn → s.dual → s.rdn.waiting = true → s.get
    R.RDN.RDN_STAT.STATE = 0 → s.gives (.leadWaitEnd t) fun u => u.get R.RDN.RDN_STAT.STATE = 1 ∧ u.rdn.waiting =
    false) ∧
  (∀ (s : State) (p t : Nat), s.up → s.role = .tile → p < 2 → s.dual = false → s.gives (.streamGap p t) fun u =>
    (u.stream p).failed = some s.lastDep) ∧
  (∀ (s : State) (p t : Nat) (h : FrameHdr), s.up → s.role = .sender → s.works B.rdn → p < 2 → (s.stream p).hdr = some
    h → h.relief = false → s.get R.RDN.RDN_STAT.STATE = 2 → s.gives (.streamGap p t) fun u => u.raised B.rdn
    Ev.RDN.LEAD_FAIL ∧ u.get R.RDN.RDN_STAT.STATE = 2) ∧
  (∀ (s : State) (p t : Nat) (h : FrameHdr), s.up → s.role = .sender → s.works B.rdn → p < 2 → (s.stream p).hdr = some
    h → h.relief = false → s.get R.RDN.RDN_STAT.STATE = 3 → s.on R.RDN.RDN_CFG.AUTO → s.gives (.streamGap p t) fun u
    => u.get R.RDN.RDN_STAT.STATE = 1 ∧ u.get R.RDN.RDN_STAT.LAST_CAUSE = 1 ∧ u.rdn.taken = true ∧ u.get
    (R.RDN.SWITCH_CNT.COUNT) = min (s.get (R.RDN.SWITCH_CNT.COUNT) + 1) (2 ^ (R.RDN.SWITCH_CNT.COUNT).width - 1) ∧
    u.raised B.rdn Ev.RDN.POINTS) ∧
  (∀ (s : State) (t : Nat), s.up → s.role = .sender → s.frozen B.rdn = false → s.get R.RDN.RDN_STAT.STATE = 1 → bitAt
    (s.get R.RDN.HEALTH.RX) 0 → bitAt (s.get R.RDN.HEALTH.RX) 1 → s.gives (.handover t) fun u => u.rdn.handing = true) ∧
  (∀ (s : State) (t : Nat), s.up → s.role = .sender → s.frozen B.rdn = false → s.get R.RDN.RDN_STAT.STATE ≠ 1 →
    s.gives (.handover t) fun u => u.rdn.handing = s.rdn.handing ∧ u.raised B.rdn Ev.RDN.HANDOVER_REFUSED) ∧
  (∀ (s : State) (t : Nat), s.up → s.role = .sender → s.frozen B.rdn = false → s.dual → s.gives (.resyncRelief t) fun
    u => u.get R.RDN.RDN_STAT.STATE = 2 ∧ u.rdn.image = [] ∧ u.rdn.nextSeq = none ∧ u.rdn.early = [])

/-- Cluster records and epochs complete. A record of a member is stored, one that claims to be the master counts as a
  conflict, a request of the master prepares the epoch, a cancel ends it, and a lost master is shown. Commands:
  CLUSTER_STATE, EPOCH_REQUEST, EPOCH_CANCEL, MASTER_LOST. Each clause says that the command answers a next state,
  under conditions on the state and operands alone, and what that state holds. Where a clause goes beyond the words of
  these rules it rests on log entry 58. Rests on R492, R496, R498, R500. -/
def Obligations.Cluster : Prop :=
  (∀ (s : State) (r : ClusterRec) (t : Nat), s.up → s.cluWorks → r.member ≠ s.ownMember → r.member < 32 → bitAt
    r.flags 0 = false → s.recOf r.member = none → s.gives (.clusterState r t) fun u => u.clu.recs = s.clu.recs.filter
    (fun o => o.member != r.member) ++ [r]) ∧
  (∀ (s : State) (r : ClusterRec) (t : Nat), s.up → s.cluWorks → r.member ≠ s.ownMember → r.member < 32 → bitAt
    r.flags 0 → r.member ≠ s.get R.CLU.CLU_CFG.MASTER → s.gives (.clusterState r t) fun u => u.get
    (R.CLU.CONFLICT.COUNT) = min (s.get (R.CLU.CONFLICT.COUNT) + 1) (2 ^ (R.CLU.CONFLICT.COUNT).width - 1) ∧ u.clu =
    s.clu) ∧
  (∀ (s : State) (t : Nat), s.up → s.cluWorks → s.isMaster → s.depNumber (s.get R.CLU.REQ_DEADLINE.DEADLINE) + 2 ≤
    s.depNumber (s.get R.CLU.REQ_FLIP.FLIP) → s.flipHeld = false → s.get R.CLU.CLU_STAT.MASTER_LOST = 0 → s.gives
    (.epochRequest t) fun u => u.cluPhase = 1 ∧ u.clu.cmd = 1 ∧ u.clu.cEpoch = s.get R.CLU.EPOCH_REQ.EPOCH ∧
    u.clu.cFlip = s.depNumber (s.get R.CLU.REQ_FLIP.FLIP) ∧ u.clu.cDeadline = s.depNumber (s.get
    R.CLU.REQ_DEADLINE.DEADLINE) ∧ u.raised B.clu Ev.CLU.EPOCH_PREPARED) ∧
  (∀ (s : State) (t : Nat), s.up → s.cluWorks → s.isMaster → s.cluPhase = 1 → s.gives (.epochCancel t) fun u =>
    u.cluPhase = 0 ∧ u.clu.cmd = 3 ∧ u.raised B.clu Ev.CLU.EPOCH_CANCELLED) ∧
  (∀ (s : State) (t : Nat), s.up → s.cluWorks → s.isMaster = false → s.get R.CLU.CLU_STAT.MASTER_LOST = 0 → max 1
    (s.get R.CLU.CLU_CFG.LOSS) ≤ s.clu.misses → s.gives (.masterLost t) fun u => u.get R.CLU.CLU_STAT.MASTER_LOST = 1
    ∧ u.raised B.clu Ev.CLU.MASTER_LOST)

/-- Housekeeping rounds, the throttle and the calibration complete. A round counts and publishes, the throttle
  enforces, a broken channel clears, and a field calibration ends with result 1 or 2. Commands: ROUND_DONE, GRACE_END,
  ENFORCE_NOW, ENG_DIV_STEP, BROKEN_CLEAR, CAL_RUN, FIELD_DONE. Each clause says that the command answers a next
  state, under conditions on the state and operands alone, and what that state holds. Where a clause goes beyond the
  words of these rules it rests on log entries 26, 27, 28, 29. Rests on R506, R512, R514, R510, R523. -/
def Obligations.Housekeeping : Prop :=
  (∀ (s : State) (raw : List Int) (vb t : Nat), s.up → s.hkt.testing = false → s.gives (.roundDone raw vb t) fun u =>
    u.get R.HKT.HKT_STAT.ROUND = (s.get R.HKT.HKT_STAT.ROUND + 1) % 2 ^ R.HKT.HKT_STAT.ROUND.width ∧ u.get
    R.HKT.HKT_STAT.STALE = 0 ∧ u.raised B.hkt Ev.HKT.ROUND_DONE) ∧
  (∀ (s : State) (t : Nat), s.up → s.thr = 1 → s.hktEval → s.gives (.graceEnd t) fun u => u.thr = 2 ∧ u.raised B.hkt
    Ev.HKT.THROTTLE_ENFORCED) ∧
  (∀ (s : State) (t : Nat), s.up → s.thr = 1 → s.hktEval → s.gives (.enforceNow t) fun u => u.thr = 2 ∧ u.raised B.hkt
    Ev.HKT.THROTTLE_ENFORCED) ∧
  (∀ (s : State) (t : Nat), s.up → s.role = .sender → s.thr = 2 → s.hktEval → s.get R.DEP.MODE_CTRL.FB_ACTIVE = 0 →
    s.hkt.fbNext ≠ some true → s.gives (.engDivStep t) fun u => u.hkt.divNext = some 4) ∧
  (∀ (s : State) (m t : Nat), s.up → s.gives (.brokenClear m t) fun u => (List.range 64).all (fun c => !bitAt m c ||
    u.get (R.HCH.CH_VAL.BROKEN c) == 0)) ∧
  (∀ (s : State) (t : Nat), s.up → s.gives (.calRun t) fun u => u.get R.CAL.CAL_STAT.BUSY = 1) ∧
  (∀ (s : State) (a g : Int) (t : Nat), s.up → s.frozen B.cal = false → s.on R.CAL.CAL_STAT.BUSY → g.natAbs ≤ 20000 →
    100 * ((s.get R.CAL.REFIN_CFG.UV : Int) - (a - g)).natAbs ≤ 2 * (a - g).natAbs → s.gives (.fieldDone a g t) fun u
    => u.get R.CAL.CAL_STAT.BUSY = 0 ∧ u.get R.CAL.CAL_STAT.RESULT = 1 ∧ u.raised B.cal Ev.CAL.FIELD_DONE) ∧
  (∀ (s : State) (a g : Int) (t : Nat), s.up → s.frozen B.cal = false → s.on R.CAL.CAL_STAT.BUSY → 20000 < g.natAbs →
    s.gives (.fieldDone a g t) fun u => u.get R.CAL.CAL_STAT.BUSY = 0 ∧ u.get R.CAL.CAL_STAT.RESULT = 2 ∧ u.raised
    B.cal Ev.CAL.FIELD_DONE)

/-- Images are confirmed, reverted, checked and protected against rollback. A confirmed TRIAL slot becomes IN_FORCE,
  an unconfirmed one becomes BAD and restarts or resets, RB_COMMIT raises the rollback counter or is refused, and a
  checked slot becomes CHECKED or BAD. Commands: CONFIRM_MC, CONFIRM_LC, CONFIRM_WINDOW_END, RB_COMMIT, CHECK_DONE.
  Each clause says that the command answers a next state, under conditions on the state and operands alone, and what
  that state holds. Where a clause goes beyond the words of these rules it rests on log entries 46, 54, 77. Rests on
  R536, R537, R532. -/
def Obligations.Images : Prop :=
  (∀ (s : State) (t : Nat), s.up → s.get R.FWU.FWU_STAT.SAFE = 0 → s.mcSlot < 4 → s.img s.mcSlot = Img.trial → s.gives
    (.confirmMc t) fun u => u.img s.mcSlot = Img.inForce ∧ u.get (R.SLT.SLOT_STAT.TRIALS s.mcSlot) = 0 ∧ (s.img
    (otherSlot s.mcSlot) = Img.inForce → u.img (otherSlot s.mcSlot) = Img.checked)) ∧
  (∀ (s : State) (t : Nat), s.up → s.get R.FWU.FWU_STAT.SAFE = 0 → s.lcSlot < 4 → s.img s.lcSlot = Img.trial → s.gives
    (.confirmLc t) fun u => u.img s.lcSlot = Img.inForce ∧ u.get (R.SLT.SLOT_STAT.TRIALS s.lcSlot) = 0 ∧ (s.img
    (otherSlot s.lcSlot) = Img.inForce → u.img (otherSlot s.lcSlot) = Img.checked)) ∧
  (∀ (s : State) (t : Nat), s.up → s.get R.FWU.FWU_STAT.SAFE = 0 → s.mcSlot < 2 → s.img s.mcSlot = Img.trial → s.img
    (otherSlot s.mcSlot) ≠ Img.inForce → s.gives (.confirmWindowEnd 0 t) fun u => u.power = .held) ∧
  (∀ (s : State) (t : Nat), s.up → s.get R.FWU.FWU_STAT.SAFE = 0 → s.lcSlot < 4 → s.img s.lcSlot = Img.trial → s.img
    (otherSlot s.lcSlot) = Img.inForce → s.gives (.confirmWindowEnd 1 t) fun u => u.img s.lcSlot = Img.bad ∧ u.raised
    B.fwu Ev.FWU.REVERTED) ∧
  (∀ (s : State) (t : Nat), s.up → s.img s.mcSlot = Img.inForce → s.img s.lcSlot = Img.inForce → s.mcSlot = 0 →
    s.lcSlot = 2 → s.gives (.rbCommit true t) fun u => u.get R.FWU.ROLLBACK.COUNT = max (min (s.get
    (R.SLT.SLOT_STAT.RB_INDEX 0)) (s.get (R.SLT.SLOT_STAT.RB_INDEX 2))) (s.get R.FWU.ROLLBACK.COUNT) % 2 ^
    R.FWU.ROLLBACK.COUNT.width) ∧
  (∀ (s : State) (t : Nat), s.up → s.get R.FWU.FWU_STAT.SAFE = 0 → s.mcSlot < 4 → s.img s.mcSlot = Img.trial → s.gives
    (.rbCommit true t) fun u => u.get R.FWU.ROLLBACK.COUNT = s.get R.FWU.ROLLBACK.COUNT ∧ u.raised B.fwu
    Ev.FWU.ACT_REFUSED) ∧
  (∀ (s : State) (k t : Nat), s.up → k < 6 → s.img k = Img.written → s.line.svcIn = none → s.gives (.checkDone k t)
    fun u => u.img k = (if s.slotResult k = 1 then Img.checked else Img.bad) ∧ u.raised B.fwu Ev.FWU.CHECK_DONE)

/-- The service port answers ARP, register access and key revocation. The port comes up and goes down, answers ARP for
  its address, drops other frames, serves register reads and writes with a reply, and revokes a key that no running
  image uses. Commands: SERVICE_FRAME, SVP_LINK_UP, SVP_LINK_DOWN, REG_READ, REG_WRITE, KEY_REVOKE. Each clause says
  that the command answers a next state, under conditions on the state and operands alone, and what that state holds.
  Where a clause goes beyond the words of these rules it rests on log entry 68. Rests on R544, R552, R546. -/
def Obligations.ServicePort : Prop :=
  (∀ (s : State) (t : Nat), s.up → s.svpUp → s.get R.SVP.SVP_IPV4.ADDR ≠ 0 → s.gives (.serviceFrame (.arp (s.get
    R.SVP.SVP_IPV4.ADDR)) t) fun u => u.out = s.out ++ [.arp (s.get R.SVP.SVP_IPV4.ADDR)]) ∧
  (∀ (s : State) (t : Nat), s.up → s.svpUp → s.gives (.serviceFrame .other t) fun u => u.get (R.SVP.RX_DROP.COUNT) =
    min (s.get (R.SVP.RX_DROP.COUNT) + 1) (2 ^ (R.SVP.RX_DROP.COUNT).width - 1) ∧ u.raised B.svp Ev.SVP.DGRAM_DROP) ∧
  (∀ (s : State) (t : Nat), s.up → s.role = .sender → s.works B.svp → s.on R.SVP.SVP_CTRL.PORT_EN → s.get
    R.SVP.SVP_STAT.LINK_UP = 0 → s.gives (.svpLinkUp t) fun u => u.get R.SVP.SVP_STAT.LINK_UP = 1 ∧ u.raised B.svp
    Ev.SVP.LINK_UP) ∧
  (∀ (s : State) (t : Nat), s.up → s.role = .sender → s.on R.SVP.SVP_STAT.LINK_UP → s.gives (.svpLinkDown t) fun u =>
    u.get R.SVP.SVP_STAT.LINK_UP = 0 ∧ u.raised B.svp Ev.SVP.LINK_DOWN) ∧
  (∀ (s : State) (d : Dgram) (t : Nat), s.up → s.svpUp → s.svpMine d → d.count = 1 → d.addr = 0x8120 → s.get
    R.TIM.SLEW_MAX.V < 2 ^ 16 → s.gives (.regRead d t) fun u => u.out.getLast? = some (.service d.from_ 1 d.seq 0
    (toBytes 4 (s.get R.TIM.SLEW_MAX.V))) ∧ u.get (R.SVP.RX_DGRAM.COUNT) = min (s.get (R.SVP.RX_DGRAM.COUNT) + 1) (2 ^
    (R.SVP.RX_DGRAM.COUNT).width - 1)) ∧
  (∀ (s : State) (d : Dgram) (t : Nat), s.up → s.svpUp → s.svpMine d → d.count = 1 → d.addr = 0x8120 → 4 ≤
    d.data.length → s.gives (.regWrite d t) fun u => u.get R.TIM.SLEW_MAX.V = leNat (d.data.take 4) % 2 ^ 16 ∧
    u.out.getLast? = some (.service d.from_ 2 d.seq 0 ([])) ∧ u.get (R.SVP.RX_DGRAM.COUNT) = min (s.get
    (R.SVP.RX_DGRAM.COUNT) + 1) (2 ^ (R.SVP.RX_DGRAM.COUNT).width - 1)) ∧
  (∀ (s : State) (d : Dgram) (t : Nat), s.up → s.svpUp → s.svpMine d → d.slot ≤ 3 → stopOf d.addr = 0 → s.keyInUse
    d.slot = false → s.gives (.keyRevoke d t) fun u => u.get R.FWU.KEYS.REVOKED = (s.get R.FWU.KEYS.REVOKED ||| 2 ^
    d.slot) % 2 ^ R.FWU.KEYS.REVOKED.width ∧ u.out.getLast? = some (.service d.from_ 0x30 d.seq Svc.ok ([]))) ∧
  (∀ (s : State) (d : Dgram) (t : Nat), s.up → s.svpUp → s.svpMine d → d.slot ≤ 3 → stopOf d.addr = 0 → s.keyInUse
    d.slot → s.gives (.keyRevoke d t) fun u => u.get R.FWU.KEYS.REVOKED = s.get R.FWU.KEYS.REVOKED ∧ u.out.getLast? =
    some (.service d.from_ 0x30 d.seq Svc.refused ([])))

/-- Image slots and mailboxes are reached over the service port. A slot opens, takes data at its place and closes with
  a reply, a mailbox message is queued, and a session that times out ends with its slot BAD. Commands: SLOT_OPEN,
  SLOT_DATA, SLOT_CLOSE, MBX, SESSION_TIMEOUT. Each clause says that the command answers a next state, under
  conditions on the state and operands alone, and what that state holds. Where a clause goes beyond the words of these
  rules it rests on log entries 68, 70. Rests on R547, R546, R549. -/
def Obligations.ServiceSlots : Prop :=
  (∀ (s : State) (d : Dgram) (t : Nat), s.up → s.svpUp → s.svpMine d → stopOf d.addr = 0 → s.get R.FWU.SESSION.PURPOSE
    = 0 → d.slot < 6 → s.img d.slot = Img.empty ∨ s.img d.slot = Img.checked ∨ s.img d.slot = Img.bad → leNat
    (d.data.take 4) ≤ slotSize d.slot → s.newestSettings ≠ some d.slot → s.gives (.slotOpen d t) fun u => u.img d.slot
    = Img.writing ∧ u.get R.FWU.SESSION.PURPOSE = 1 ∧ u.get R.FWU.SESSION.SLOT = d.slot ∧ u.get R.FWU.SESS_BYTES.BYTES
    = 0 ∧ u.fwu.total = leNat (d.data.take 4) ∧ u.out.getLast? = some (.service d.from_ 0x10 d.seq Svc.ok ([]))) ∧
  (∀ (s : State) (d : Dgram) (t : Nat), s.up → s.svpUp → s.svpMine d → stopOf d.addr = 0 → 1 ≤ d.count → d.count ≤ 960
    → d.count ≤ d.data.length → s.get R.FWU.SESSION.PURPOSE = 1 → locOf d.addr = s.get R.FWU.SESS_BYTES.BYTES → s.get
    R.FWU.SESS_BYTES.BYTES + d.count ≤ s.fwu.total → s.get R.FWU.SESS_BYTES.BYTES + d.count < 2 ^
    R.FWU.SESS_BYTES.BYTES.width → s.gives (.slotData d false t) fun u => u.fwu.flash = writeBytes erased s.fwu.flash
    (slotBase (s.get R.FWU.SESSION.SLOT) + s.get R.FWU.SESS_BYTES.BYTES) (d.data.take d.count) ∧ u.get
    R.FWU.SESS_BYTES.BYTES = s.get R.FWU.SESS_BYTES.BYTES + d.count ∧ u.out.getLast? = some (.service d.from_ 0x11
    d.seq Svc.ok ([]))) ∧
  (∀ (s : State) (d : Dgram) (t : Nat), s.up → s.svpUp → s.svpMine d → stopOf d.addr = 0 → s.get R.FWU.SESSION.PURPOSE
    = 1 → s.get R.FWU.SESSION.SLOT < 6 → s.gives (.slotClose d t) fun u => u.img (s.get R.FWU.SESSION.SLOT) =
    Img.written ∧ u.get R.FWU.SESSION.PURPOSE = 0 ∧ u.raised B.fwu Ev.FWU.SESSION_DONE ∧ u.out.getLast? = some
    (.service d.from_ 0x12 d.seq Svc.ok ([]))) ∧
  (∀ (s : State) (d : Dgram) (t : Nat), s.up → s.svpUp → s.svpMine d → 16 ≤ d.slot → d.slot ≤ 23 → d.count = 64 → 64 ≤
    d.data.length → stopOf d.addr = 0 → s.works (B.mbx d.slot) → (s.chan d.slot).toB.length < 4 → (s.chan d.slot).toA
    = [] → s.gives (.mbx d t) fun u => (u.chan d.slot).toB = (s.chan d.slot).toB ++ [(msgWords d.data, false)] ∧
    u.out.getLast? = some (.service d.from_ 0x20 d.seq Svc.empty ([]))) ∧
  (∀ (s : State) (t : Nat) (x : SvcIn), s.up → s.role = .tile → s.line.svcIn = some x → x.closed = false → s.get
    R.FWU.SESSION.SLOT < 6 → s.gives (.sessionTimeout t) fun u => u.line.svcIn = none ∧ u.get R.FWU.SESSION.PURPOSE =
    0 ∧ (s.get R.FWU.SESSION.PURPOSE = 1 → u.img (s.get R.FWU.SESSION.SLOT) = 4))

/-- Frames of the reset, register, page, board and time commands. For every state in canonical form and every next
  state that a command of this group answers: each part of the state and each register field that the clause of the
  command does not name is what it was, what was sent before stays sent, the queue stays, and the canonical forms
  hold. A clause with anyReg names every register field: such a command writes a register that its operands choose,
  resets a page or the module, or commits staged values. Where the frame of a command includes a field of the model
  (log entries 5, 8 and 78), the clause names it. Rests on R71, R77, R74. -/
def Obligations.ControlCommandFrames : Prop :=
  ∀ s : State, s.Canon →
    (∀ (us : Nat), s.leaves (.powerUp us) (May.anyReg [.clu, .cmp, .cor, .dep, .dram, .force, .frc, .fwu, .hkt, .ing,
      .klc, .lfm, .line, .map, .mbx, .mem, .otg, .out, .power, .que, .rai, .rdn, .role, .scn, .starts, .tim])) ∧
    (s.leaves .internal5vLoss (May.of [.power] [])) ∧
    (∀ (ns : Nat), s.leaves (.resetN ns) (May.anyReg [.clu, .cmp, .cor, .dep, .dram, .force, .frc, .fwu, .hkt, .ing,
      .klc, .lfm, .line, .map, .mbx, .mem, .otg, .out, .power, .que, .rai, .rdn, .role, .scn, .starts, .tim])) ∧
    (∀ (strap : Nat) (bootSel : Bool) (f : Fuses) (ppm : Int), s.leaves (.resetRelease strap bootSel f ppm)
      (May.anyReg [.cor, .dep, .dram, .frc, .fwu, .hkt, .lfm, .line, .mem, .out, .power, .que, .rai, .rdn, .role,
      .scn, .tim])) ∧
    (s.leaves .softwareReset (May.anyReg [.clu, .cmp, .cor, .dep, .dram, .force, .frc, .fwu, .hkt, .ing, .klc, .lfm,
      .line, .map, .mbx, .mem, .otg, .out, .power, .que, .rai, .rdn, .role, .scn, .starts, .tim])) ∧
    (s.leaves .modrst (May.anyReg [.clu, .cmp, .cor, .dep, .dram, .force, .frc, .fwu, .hkt, .ing, .klc, .lfm, .line,
      .map, .mbx, .mem, .otg, .out, .power, .que, .rai, .rdn, .role, .scn, .starts, .tim])) ∧
    (∀ (t : Nat), s.leaves (.thermalReset t) (May.anyReg [.clu, .cmp, .cor, .dep, .dram, .force, .frc, .fwu, .hkt,
      .ing, .klc, .lfm, .line, .map, .mbx, .mem, .otg, .out, .power, .que, .rai, .rdn, .role, .scn, .starts, .tim])) ∧
    (s.leaves .shutdownRestart (May.of [.power] [])) ∧
    (∀ (ppm : Int) (t : Nat), s.leaves (.refclkLost ppm t) (May.anyReg [.cor, .dep, .dram, .frc, .fwu, .lfm, .line,
      .mem, .out, .que, .rai, .rdn, .scn, .tim])) ∧
    (∀ (ppm : Int) (t : Nat), s.leaves (.retAuto ppm t) (May.anyReg [.cor, .dep, .dram, .frc, .fwu, .lfm, .line, .mem,
      .out, .que, .rai, .rdn, .scn, .tim])) ∧
    (∀ (ppm : Int) (t : Nat), s.leaves (.retNow ppm t) (May.anyReg [.cor, .dep, .dram, .frc, .fwu, .lfm, .line, .mem,
      .out, .que, .rai, .rdn, .scn, .tim])) ∧
    (∀ (who : Agent) (a n v t : Nat), s.leaves (.registerWrite who a n v t) (May.anyReg [.clu, .cmp, .cor, .dep,
      .dram, .force, .frc, .fwu, .hkt, .ing, .klc, .lfm, .line, .map, .mbx, .mem, .otg, .out, .power, .que, .rai,
      .rdn, .role, .scn, .starts, .tim])) ∧
    (∀ (who : Agent) (a n t : Nat), s.leaves (.rcRead who a n t) (May.anyReg [.cor, .dram, .frc, .mem, .out, .tim])) ∧
    (∀ (b v t : Nat), s.leaves (.evtPendClear b v t) (May.of [.frc, .out] [fun a _ _ => R.PG.EVT_PEND a])) ∧
    (∀ (b v t : Nat), s.leaves (.evtSet b v t) (May.of [.frc, .out] [fun a _ _ => R.PG.EVT_PEND a])) ∧
    (∀ (b v t : Nat), s.leaves (.evtEnWrite b v t) (May.of [.frc, .line, .out] [fun a _ _ => R.PG.EVT_EN a, fun _ _ _
      => R.RDN.MIRROR_SEQ.TX])) ∧
    (∀ (b t : Nat), s.leaves (.errInfoClear b t) (May.of [.frc] [fun a _ _ => R.PG.ERR_ADDR_HI a, fun a _ _ =>
      R.PG.ERR_ADDR_LO a, fun a _ _ => R.PG.ERR_CODE a, fun a _ _ => R.PG.ERR_COUNT a, fun a _ _ => R.PG.ERR_OVERFLOW
      a, fun a _ _ => R.PG.ERR_SOURCE a, fun a _ _ => R.PG.ERR_VALID a])) ∧
    (∀ (b t : Nat), s.leaves (.pageEnable b t) (May.anyReg [.cor, .dep, .dram, .frc, .fwu, .lfm, .line, .mem, .out,
      .que, .rai, .rdn, .scn, .tim])) ∧
    (∀ (b t : Nat), s.leaves (.pageDisable b t) (May.anyReg [.cor, .dep, .dram, .frc, .fwu, .lfm, .line, .mem, .out,
      .que, .rai, .rdn, .scn, .tim])) ∧
    (∀ (b t : Nat), s.leaves (.softReset b t) (May.anyReg [.clu, .cmp, .cor, .dep, .dram, .force, .frc, .fwu, .hkt,
      .ing, .klc, .lfm, .line, .map, .mbx, .mem, .out, .que, .rai, .rdn, .scn, .tim])) ∧
    (∀ (b t : Nat), s.leaves (.commitArm b t) (May.of [.cmp, .frc, .line, .map, .out, .scn] [fun _ _ _ =>
      R.DEP.MODE_CHECK.DEP_PENDING, fun _ _ _ => R.DEP.MODE_CHECK.EPOCH_PENDING, fun _ _ _ => R.DEP.MODE_CHECK.FIELDS,
      fun _ _ _ => R.DEP.MODE_CHECK.RULE, fun _ _ _ => R.DEP.MODE_CHECK.VALID, fun _ _ _ => R.DEP.MODE_CTRL.FB_VALID,
      fun a _ _ => R.PG.COMMIT a, fun a _ _ => R.PG.COMMIT_PENDING a, fun a _ _ => R.PG.EVT_PEND a, fun _ _ _ =>
      R.RDN.MIRROR_SEQ.TX])) ∧
    (∀ (b t : Nat), s.leaves (.commitDisarm b t) (May.of [.frc, .line, .out] [fun a _ _ => R.PG.COMMIT a, fun a _ _ =>
      R.PG.COMMIT_PENDING a, fun _ _ _ => R.RDN.MIRROR_SEQ.TX])) ∧
    (∀ (b t : Nat), s.leaves (.freezePage b t) (May.anyReg [.cmp, .cor, .dep, .dram, .frc, .fwu, .lfm, .line, .mem,
      .out, .que, .rai, .rdn, .scn, .tim])) ∧
    (∀ (b t : Nat), s.leaves (.unfreezePage b t) (May.anyReg [.cmp, .cor, .dep, .dram, .frc, .fwu, .lfm, .line, .mem,
      .out, .que, .rai, .rdn, .scn, .tim])) ∧
    (∀ (b t : Nat), s.leaves (.hwFreeze b t) (May.anyReg [.cmp, .cor, .dep, .dram, .frc, .fwu, .lfm, .line, .mem,
      .out, .que, .rai, .rdn, .scn, .tim])) ∧
    (∀ (v t : Nat), s.leaves (.modeNextWrite v t) (May.of [.frc, .line, .out, .tim] [fun _ _ _ =>
      R.DEP.MODE_CHECK.DEP_PENDING, fun _ _ _ => R.DEP.MODE_CHECK.EPOCH_PENDING, fun _ _ _ => R.DEP.MODE_CHECK.FIELDS,
      fun _ _ _ => R.DEP.MODE_CHECK.RULE, fun _ _ _ => R.DEP.MODE_CHECK.VALID, fun _ _ _ => R.DEP.MODE_CTRL.FB_VALID,
      fun _ _ _ => R.DEP.MODE_NEXT.CODING_A, fun _ _ _ => R.DEP.MODE_NEXT.CODING_B, fun _ _ _ => R.DEP.MODE_NEXT.EMIT,
      fun _ _ _ => R.DEP.MODE_NEXT.REDUN, fun _ _ _ => R.DEP.MODE_NEXT.SCAN, fun _ _ _ => R.DEP.MODE_NEXT.SINK, fun _
      _ _ => R.DEP.MODE_NEXT.TIMING, fun _ _ _ => R.DEP.MODE_NEXT.VIEWS, fun a _ _ => R.PG.EVT_PEND a, fun _ _ _ =>
      R.RDN.MIRROR_SEQ.TX])) ∧
    (∀ (v t : Nat), s.leaves (.modeFallbackWrite v t) (May.of [.frc, .line, .out] [fun _ _ _ =>
      R.DEP.MODE_CHECK.DEP_PENDING, fun _ _ _ => R.DEP.MODE_CHECK.EPOCH_PENDING, fun _ _ _ => R.DEP.MODE_CHECK.FIELDS,
      fun _ _ _ => R.DEP.MODE_CHECK.RULE, fun _ _ _ => R.DEP.MODE_CHECK.VALID, fun _ _ _ => R.DEP.MODE_CTRL.FB_VALID,
      fun _ _ _ => R.DEP.MODE_FALLBACK.CODING_A, fun _ _ _ => R.DEP.MODE_FALLBACK.CODING_B, fun _ _ _ =>
      R.DEP.MODE_FALLBACK.REDUN, fun _ _ _ => R.DEP.MODE_FALLBACK.TIMING, fun _ _ _ => R.DEP.MODE_FALLBACK.VIEWS, fun
      a _ _ => R.PG.EVT_PEND a, fun _ _ _ => R.RDN.MIRROR_SEQ.TX])) ∧
    (∀ (n : Nat) (t : Nat), s.leaves (.frameDeparture n t) (May.anyReg [.clu, .cmp, .cor, .dep, .dram, .force, .frc,
      .fwu, .hkt, .ing, .lfm, .line, .map, .mbx, .mem, .out, .que, .rai, .rdn, .scn, .starts, .tim])) ∧
    (∀ (n k : Nat) (t : Nat), s.leaves (.viewDeparture n k t) (May.anyReg [.cmp, .cor, .dep, .dram, .force, .frc,
      .ing, .lfm, .line, .map, .mem, .out, .rai, .rdn, .scn, .tim])) ∧
    (∀ (idx : Nat) (late : Bool) (t : Nat), s.leaves (.commitEntry idx late t) (May.anyReg [.clu, .cmp, .cor, .dep,
      .dram, .force, .frc, .fwu, .hkt, .ing, .lfm, .line, .map, .mbx, .mem, .out, .que, .rai, .rdn, .scn, .starts,
      .tim])) ∧
    (∀ (idx : Nat) (late : Bool) (t : Nat), s.leaves (.epochFlip idx late t) (May.anyReg [.clu, .cmp, .cor, .dep,
      .dram, .force, .frc, .fwu, .hkt, .ing, .lfm, .line, .map, .mbx, .mem, .out, .que, .rai, .rdn, .scn, .starts,
      .tim])) ∧
    (∀ (idx : Nat) (late : Bool) (t : Nat), s.leaves (.scheduleEntry idx late t) (May.anyReg [.clu, .cmp, .cor, .dep,
      .dram, .force, .frc, .fwu, .hkt, .ing, .lfm, .line, .map, .mbx, .mem, .out, .que, .rai, .rdn, .scn, .starts,
      .tim])) ∧
    (∀ (idx : Nat) (late : Bool) (t : Nat), s.leaves (.fwActivate idx late t) (May.anyReg [.clu, .cmp, .cor, .dep,
      .dram, .force, .frc, .fwu, .hkt, .ing, .lfm, .line, .map, .mbx, .mem, .out, .que, .rai, .rdn, .scn, .starts,
      .tim])) ∧
    (∀ (idx : Nat) (late : Bool) (t : Nat), s.leaves (.railStep idx late t) (May.anyReg [.clu, .cmp, .cor, .dep,
      .dram, .force, .frc, .fwu, .hkt, .ing, .lfm, .line, .map, .mbx, .mem, .out, .que, .rai, .rdn, .scn, .starts,
      .tim])) ∧
    (∀ (idx : Nat) (late : Bool) (t : Nat), s.leaves (.wallSwitch idx late t) (May.anyReg [.clu, .cmp, .cor, .dep,
      .dram, .force, .frc, .fwu, .hkt, .ing, .lfm, .line, .map, .mbx, .mem, .out, .que, .rai, .rdn, .scn, .starts,
      .tim])) ∧
    (∀ (idx : Nat) (late : Bool) (t : Nat), s.leaves (.pulse idx late t) (May.anyReg [.clu, .cmp, .cor, .dep, .dram,
      .force, .frc, .fwu, .hkt, .ing, .lfm, .line, .map, .mbx, .mem, .out, .que, .rai, .rdn, .scn, .starts, .tim])) ∧
    (∀ (idx : Nat) (late : Bool) (t : Nat), s.leaves (.markEntry idx late t) (May.anyReg [.clu, .cmp, .cor, .dep,
      .dram, .force, .frc, .fwu, .hkt, .ing, .lfm, .line, .map, .mbx, .mem, .out, .que, .rai, .rdn, .scn, .starts,
      .tim])) ∧
    (∀ (idx : Nat) (t : Nat), s.leaves (.entMissed idx t) (May.of [.dep, .frc, .out] [fun _ _ _ =>
      R.DEP.DEP_STAT.ARMED, fun _ _ _ => R.DEP.DEP_STAT.NEXT_IDX, fun _ _ _ => R.DEP.ENT_STATUS.STATE, fun _ _ _ =>
      R.DEP.MISSED_CNT.MISSED, fun a _ _ => R.PG.EVT_PEND a])) ∧
    (∀ (t : Nat), s.leaves (.entWrite t) (May.anyReg [.cmp, .cor, .dep, .dram, .force, .frc, .fwu, .ing, .lfm, .line,
      .map, .mbx, .mem, .out, .que, .rai, .rdn, .scn, .tim])) ∧
    (∀ (t : Nat), s.leaves (.entRead t) (May.of [.frc] [fun _ _ _ => R.DEP.DEP_STAT.ARMED, fun _ _ _ =>
      R.DEP.DEP_STAT.NEXT_IDX, fun _ _ _ => R.DEP.ENT_ACT.ACTION, fun _ _ _ => R.DEP.ENT_ACT.FORM, fun _ _ _ =>
      R.DEP.ENT_ACT.LATE_OK, fun _ _ _ => R.DEP.ENT_ARG.ARG, fun _ _ _ => R.DEP.ENT_OFS.OFS, fun _ _ _ =>
      R.DEP.ENT_STATUS.RESULT, fun _ _ _ => R.DEP.ENT_STATUS.STATE, fun _ _ _ => R.DEP.ENT_TIME_HI.TIME, fun _ _ _ =>
      R.DEP.ENT_TIME_LO.TIME])) ∧
    (∀ (t : Nat), s.leaves (.entCancel t) (May.of [.dep, .frc, .line, .out] [fun _ _ _ => R.DEP.DEP_STAT.ARMED, fun _
      _ _ => R.DEP.DEP_STAT.NEXT_IDX, fun _ _ _ => R.DEP.ENT_STATUS.RESULT, fun _ _ _ => R.DEP.ENT_STATUS.STATE, fun _
      _ _ => R.RDN.MIRROR_SEQ.TX])) ∧
    (∀ (t : Nat), s.leaves (.startupEpochLoad t) (May.anyReg [.cmp, .cor, .dep, .dram, .force, .frc, .ing, .lfm,
      .line, .map, .mem, .out, .rai, .rdn, .scn, .starts, .tim])) ∧
    (∀ (d w : Nat) (e : Int) (t : Nat), s.leaves (.domMeas d w e t) (May.anyReg [.clu, .cmp, .cor, .dep, .dram,
      .force, .frc, .fwu, .hkt, .ing, .lfm, .line, .map, .mbx, .mem, .out, .que, .rai, .rdn, .scn, .starts, .tim])) ∧
    (∀ (d : Nat) (t : Nat), s.leaves (.domainEnable d t) (May.of [.frc, .tim] [fun a _ _ => R.TIM.DOM_CFG.EN a, fun a
      _ _ => R.TIM.DOM_STAT.STATE a, fun _ _ _ => R.TIM.LINE_TIME_CFG.INTERVAL_EXP, fun _ _ _ =>
      R.TIM.TIM_CTRL.WALL_SEL, fun _ _ _ => R.TIM.TIM_STAT.D0_STATE, fun _ _ _ => R.TIM.TIM_STAT.D1_STATE, fun _ _ _
      => R.TIM.TIM_STAT.HOLDOVER])) ∧
    (∀ (d : Nat) (t : Nat), s.leaves (.domainDisable d t) (May.of [.frc, .tim] [fun a _ _ => R.TIM.DOM_CFG.EN a, fun a
      _ _ => R.TIM.DOM_STAT.STATE a, fun _ _ _ => R.TIM.LINE_TIME_CFG.INTERVAL_EXP, fun _ _ _ =>
      R.TIM.TIM_CTRL.WALL_SEL, fun _ _ _ => R.TIM.TIM_STAT.D0_STATE, fun _ _ _ => R.TIM.TIM_STAT.D1_STATE, fun _ _ _
      => R.TIM.TIM_STAT.HOLDOVER])) ∧
    (∀ (d : Nat) (t : Nat), s.leaves (.domainLossTimeout d t) (May.of [.frc, .out, .tim] [fun a _ _ => R.PG.EVT_PEND
      a, fun a _ _ => R.TIM.DOM_STAT.STATE a, fun _ _ _ => R.TIM.LINE_TIME_CFG.INTERVAL_EXP, fun _ _ _ =>
      R.TIM.TIM_CTRL.WALL_SEL, fun _ _ _ => R.TIM.TIM_STAT.D0_STATE, fun _ _ _ => R.TIM.TIM_STAT.D1_STATE, fun _ _ _
      => R.TIM.TIM_STAT.HOLDOVER, fun _ _ _ => R.TIM.TIM_STAT.SLEWING, fun _ _ _ => R.TIM.TIM_STAT.TIME_VALID, fun _ _
      _ => R.TIM.TIM_STAT.WALL_DOM])) ∧
    (∀ (force : Bool) (t : Nat), s.leaves (.switchNow force t) (May.anyReg [.clu, .cmp, .cor, .dep, .dram, .force,
      .frc, .fwu, .hkt, .ing, .lfm, .line, .map, .mbx, .mem, .out, .que, .rai, .rdn, .scn, .starts, .tim])) ∧
    (∀ (d : Nat) (force : Bool) (t : Nat), s.leaves (.wallSelWrite d force t) (May.anyReg [.clu, .cmp, .cor, .dep,
      .dram, .force, .frc, .fwu, .hkt, .ing, .lfm, .line, .map, .mbx, .mem, .out, .que, .rai, .rdn, .scn, .starts,
      .tim])) ∧
    (∀ (t : Nat), s.leaves (.slewEnd t) (May.of [.frc, .tim] [fun _ _ _ => R.TIM.TIM_STAT.SLEWING])) ∧
    (∀ (t : Nat), s.leaves (.timeInterval t) (May.of [.frc, .line, .out, .tim] [])) ∧
    (∀ (p : Nat) (m : TimeMsg) (inF outF t : Nat), s.leaves (.timeMessage p m inF outF t) (May.anyReg [.clu, .cmp,
      .cor, .dep, .dram, .force, .frc, .fwu, .hkt, .ing, .lfm, .line, .map, .mbx, .mem, .out, .que, .rai, .rdn, .scn,
      .starts, .tim])) ∧
    (∀ (t : Nat), s.leaves (.schedInterval t) (May.of [.frc, .line, .out, .tim] [])) ∧
    (∀ (p : Nat) (m : SchedMsg) (t : Nat), s.leaves (.sched p m t) (May.of [.frc, .out, .tim] [fun _ _ _ =>
      R.DEP.MODE_CHECK.DEP_PENDING, fun _ _ _ => R.DEP.MODE_CHECK.EPOCH_PENDING, fun _ _ _ => R.DEP.MODE_CHECK.FIELDS,
      fun _ _ _ => R.DEP.MODE_CHECK.RULE, fun _ _ _ => R.DEP.MODE_CHECK.VALID, fun _ _ _ =>
      R.DEP.MODE_CTRL.DARK_FRAMES, fun _ _ _ => R.DEP.MODE_CTRL.FB_VALID, fun a _ _ => R.DEP.VPHASE.V a, fun a _ _ =>
      R.PG.EVT_PEND a, fun _ _ _ => R.TIM.RATE_NEXT.RATE])) ∧
    (∀ (p t1 t : Nat), s.leaves (.ldInterval p t1 t) (May.of [.frc, .line, .out, .tim] [fun a _ _ =>
      R.TIM.DOM_DELAY.DELAY a, fun a _ _ => R.TIM.LD.V a])) ∧
    (∀ (p q t2 t3 t : Nat), s.leaves (.ldReq p q t2 t3 t) (May.of [.frc, .line, .out, .tim] [fun a _ _ =>
      R.TIM.DOM_DELAY.DELAY a, fun a _ _ => R.TIM.LD.V a])) ∧
    (∀ (p q : Nat) (turn : Int) (t4 t : Nat), s.leaves (.ldRsp p q turn t4 t) (May.of [.frc, .tim] [fun a _ _ =>
      R.TIM.DOM_DELAY.DELAY a, fun a _ _ => R.TIM.LD.V a])) ∧
    (∀ (p t : Nat), s.leaves (.ldTimeout p t) (May.of [.frc, .tim] [])) ∧
    (∀ (f16 t : Nat), s.leaves (.tickin f16 t) (May.of [.frc, .line, .out, .tim] [fun _ _ _ =>
      R.DEP.MODE_CHECK.DEP_PENDING, fun _ _ _ => R.DEP.MODE_CHECK.EPOCH_PENDING, fun _ _ _ => R.DEP.MODE_CHECK.FIELDS,
      fun _ _ _ => R.DEP.MODE_CHECK.RULE, fun _ _ _ => R.DEP.MODE_CHECK.VALID, fun _ _ _ => R.DEP.MODE_CTRL.FB_VALID,
      fun a _ _ => R.DEP.VPHASE_CUR.VPHASE a, fun a _ _ => R.PG.EVT_PEND a, fun _ _ _ => R.TIM.RATE_CUR.RATE, fun _ _
      _ => R.TIM.RATE_NEXT.RATE, fun _ _ _ => R.TIM.SCHED_N0_HI.N0, fun _ _ _ => R.TIM.SCHED_N0_LO.N0, fun _ _ _ =>
      R.TIM.SCHED_T0_HI.T0, fun _ _ _ => R.TIM.SCHED_T0_LO.T0, fun _ _ _ => R.TIM.TICK_CFG.RATE_SEEN, fun _ _ _ =>
      R.TIM.TICK_CNT.OUT_TICKS, fun _ _ _ => R.TIM.TIM_STAT.TICK_STATE])) ∧
    (∀ (t : Nat), s.leaves (.tickWindowEnd t) (May.of [.frc, .out, .tim] [fun a _ _ => R.PG.EVT_PEND a, fun _ _ _ =>
      R.TIM.TICK_CNT.MISSES, fun _ _ _ => R.TIM.TIM_STAT.TICK_STATE])) ∧
    (∀ (v t : Nat), s.leaves (.frameSrcWrite v t) (May.of [.frc, .tim] [fun _ _ _ => R.TIM.TIM_CTRL.FRAME_SRC, fun _ _
      _ => R.TIM.TIM_STAT.TICK_STATE])) ∧
    (∀ (t : Nat), s.leaves (.tickoutPulse t) (May.of [.frc, .out] [])) ∧
    (∀ (t : Nat), s.leaves (.ppsPulse t) (May.of [.frc, .out] []))

/-- Frames of the Ethernet, composition, link and line commands. For every state in canonical form and every next
  state that a command of this group answers: each part of the state and each register field that the clause of the
  command does not name is what it was, what was sent before stays sent, the queue stays, and the canonical forms
  hold. A clause with anyReg names every register field: such a command writes a register that its operands choose,
  resets a page or the module, or commits staged values. Where the frame of a command includes a field of the model
  (log entries 5, 8 and 78), the clause names it. Rests on R74, R82. -/
def Obligations.PictureAndLinkFrames : Prop :=
  ∀ s : State, s.Canon →
    (∀ (p : Nat) (t : Nat), s.leaves (.ethLinkUp p t) (May.of [.frc, .out] [fun a _ _ => R.ETH.PORT_STAT.ALIGN_LOCK a,
      fun a _ _ => R.ETH.PORT_STAT.AN_DONE a, fun a _ _ => R.ETH.PORT_STAT.FEC_LOCK a, fun a _ _ =>
      R.ETH.PORT_STAT.LINK_UP a, fun a _ _ => R.LNL.LANE_STAT.STATE a, fun a _ _ => R.PG.EVT_PEND a])) ∧
    (∀ (p : Nat) (t : Nat), s.leaves (.ethLinkDown p t) (May.of [.frc, .out] [fun a _ _ => R.ETH.PORT_STAT.ALIGN_LOCK
      a, fun a _ _ => R.ETH.PORT_STAT.AN_DONE a, fun a _ _ => R.ETH.PORT_STAT.FEC_LOCK a, fun a _ _ =>
      R.ETH.PORT_STAT.LINK_UP a, fun a _ _ => R.LNL.LANE_STAT.STATE a, fun a _ _ => R.PG.EVT_PEND a])) ∧
    (∀ (p : Nat) (f : EthFrame) (corr uncorr : Nat) (t : Nat), s.leaves (.ethFrame p f corr uncorr t) (May.of [.frc,
      .ing, .out] [fun a _ _ => R.ETH.FCS_ERR.COUNT a, fun a _ _ => R.ETH.FEC_CORR.COUNT a, fun a _ _ =>
      R.ETH.FEC_UNCORR.COUNT a, fun a _ _ => R.ETH.RX_DROP.COUNT a, fun a _ _ => R.ETH.RX_FRAMES.COUNT a, fun a _ _ =>
      R.ETH.RX_OVERSIZE.COUNT a, fun a _ _ => R.LNL.FEC_CORR.COUNT a, fun a _ _ => R.LNL.FEC_UNCORR.COUNT a, fun a _ _
      => R.LNL.SER_CNT.COUNT a, fun a _ _ => R.LNL.TX_TAPS.C0 a, fun a _ _ => R.LNL.TX_TAPS.CM1 a, fun a _ _ =>
      R.LNL.TX_TAPS.CM2 a, fun a _ _ => R.LNL.TX_TAPS.CP1 a, fun a _ _ => R.LNL.TX_TAPS.CP2 a, fun a _ _ =>
      R.PG.EVT_PEND a])) ∧
    (∀ (t : Nat), s.leaves (.ingPacket t) (May.anyReg [.dep, .dram, .frc, .ing, .line, .mem, .otg, .out, .que, .tim])) ∧
    (∀ (k : Nat) (t : Nat), s.leaves (.mergeWaitEnd k t) (May.of [.dep, .frc, .ing, .line, .out, .que, .tim] [fun _ _
      _ => R.DEP.DEP_STAT.ARMED, fun _ _ _ => R.DEP.DEP_STAT.NEXT_IDX, fun _ _ _ => R.DEP.ENT_STATUS.STATE, fun _ _ _
      => R.DEP.MISSED_CNT.MISSED, fun a _ _ => R.FLOW.DROPS.COUNT a, fun a _ _ => R.FLOW.FLOW_STAT.PAIR_WAIT a, fun a
      _ _ => R.FLOW.FLOW_STAT.STATE a, fun a _ _ => R.FLOW.FRAMES.COUNT a, fun a _ _ => R.FLOW.GAP_A.COUNT a, fun a _
      _ => R.FLOW.GAP_B.COUNT a, fun a _ _ => R.FLOW.INCOMPLETE.COUNT a, fun a _ _ => R.FLOW.UNRECOVERED.COUNT a, fun
      a _ _ => R.PG.ERR_ADDR_HI a, fun a _ _ => R.PG.ERR_ADDR_LO a, fun a _ _ => R.PG.ERR_CODE a, fun a _ _ =>
      R.PG.ERR_COUNT a, fun a _ _ => R.PG.ERR_OVERFLOW a, fun a _ _ => R.PG.ERR_SOURCE a, fun a _ _ => R.PG.ERR_VALID
      a, fun a _ _ => R.PG.EVT_PEND a, fun a _ _ => R.PG.POISON_SEEN a, fun a _ _ => R.QCX.Q_CTRL.IDLE a, fun a _ _ =>
      R.QCX.Q_DONE_CNT.COUNT a, fun a _ _ => R.QCX.Q_HEAD.IDX a, fun a _ _ => R.QCX.Q_INFLIGHT.COUNT a, fun _ _ _ =>
      R.QUE.DESC_ERR.COUNT, fun _ _ _ => R.QUE.INFLIGHT.COUNT, fun a _ _ => R.TEN.REVOKED_CNT.COUNT a, fun a _ _ =>
      R.TIM.DOM_OFFSET.OFFSET a, fun a _ _ => R.TIM.DOM_RATE.RATE a])) ∧
    (∀ (k l : Nat) (t : Nat), s.leaves (.legLost k l t) (May.of [.frc, .ing, .out] [fun a _ _ =>
      R.FLOW.FLOW_STAT.LEGA_UP a, fun a _ _ => R.FLOW.FLOW_STAT.LEGB_UP a, fun a _ _ => R.FLOW.FLOW_STAT.STATE a, fun
      a _ _ => R.PG.EVT_PEND a])) ∧
    (∀ (k : Nat) (t : Nat), s.leaves (.flowLost k t) (May.of [.frc, .ing, .out] [fun a _ _ => R.FLOW.FLOW_STAT.LEGA_UP
      a, fun a _ _ => R.FLOW.FLOW_STAT.LEGB_UP a, fun a _ _ => R.FLOW.FLOW_STAT.STATE a, fun a _ _ => R.PG.EVT_PEND
      a])) ∧
    (∀ (k v : Nat) (t : Nat), s.leaves (.flowEnable k v t) (May.anyReg [.frc, .ing, .out, .tim])) ∧
    (∀ (k v : Nat) (t : Nat), s.leaves (.flowDisable k v t) (May.anyReg [.frc, .ing, .out, .tim])) ∧
    (∀ (k v : Nat) (t : Nat), s.leaves (.legEnable k v t) (May.anyReg [.frc, .ing, .out, .tim])) ∧
    (∀ (t : Nat), s.leaves (.cardCheck t) (May.of [.frc] [fun _ _ _ => R.MAP.CARD_STAT.CHECK_BUSY])) ∧
    (∀ (t : Nat), s.leaves (.cardCheckDone t) (May.of [.frc, .out] [fun _ _ _ => R.DEP.MODE_CHECK.DEP_PENDING, fun _ _
      _ => R.DEP.MODE_CHECK.EPOCH_PENDING, fun _ _ _ => R.DEP.MODE_CHECK.FIELDS, fun _ _ _ => R.DEP.MODE_CHECK.RULE,
      fun _ _ _ => R.DEP.MODE_CHECK.VALID, fun _ _ _ => R.DEP.MODE_CTRL.FB_VALID, fun _ _ _ =>
      R.MAP.CARD_STAT.CHECK_BUSY, fun _ _ _ => R.MAP.CARD_STAT.CHECK_CARD, fun _ _ _ => R.MAP.CARD_STAT.CHECK_CODE,
      fun a _ _ => R.PG.EVT_PEND a])) ∧
    (∀ (t : Nat), s.leaves (.cardSyncDone t) (May.of [.frc, .line, .map, .out] [fun _ _ _ =>
      R.DEP.MODE_CHECK.DEP_PENDING, fun _ _ _ => R.DEP.MODE_CHECK.EPOCH_PENDING, fun _ _ _ => R.DEP.MODE_CHECK.FIELDS,
      fun _ _ _ => R.DEP.MODE_CHECK.RULE, fun _ _ _ => R.DEP.MODE_CHECK.VALID, fun _ _ _ => R.DEP.MODE_CTRL.FB_VALID,
      fun _ _ _ => R.MAP.CARD_STAT.SYNCING, fun a _ _ => R.PG.BUSY a, fun a _ _ => R.PG.COMMIT a, fun a _ _ =>
      R.PG.COMMIT_PENDING a, fun a _ _ => R.PG.EVT_PEND a, fun _ _ _ => R.RDN.MIRROR_SEQ.TX])) ∧
    (∀ (t : Nat), s.leaves (.spireCheck t) (May.of [.frc] [fun _ _ _ => R.SPI.SP_STAT.CHECK_CODE])) ∧
    (∀ (t : Nat), s.leaves (.spireSyncDone t) (May.of [.cmp, .frc, .line, .out] [fun a _ _ => R.PG.BUSY a, fun a _ _
      => R.PG.COMMIT a, fun a _ _ => R.PG.COMMIT_PENDING a, fun a _ _ => R.PG.EVT_PEND a, fun _ _ _ =>
      R.RDN.MIRROR_SEQ.TX, fun _ _ _ => R.SPI.SP_STAT.SYNCING])) ∧
    (∀ (t : Nat), s.leaves (.otgFrameStart t) (May.anyReg [.dram, .frc, .ing, .line, .mem, .otg, .out, .tim])) ∧
    (∀ (a b : Nat) (t : Nat), s.leaves (.blankStart a b t) (May.anyReg [.cor, .dep, .dram, .frc, .fwu, .ing, .lfm,
      .line, .mem, .otg, .out, .que, .rai, .rdn, .scn, .tim])) ∧
    (∀ (cutA cutB : Option (Nat × Nat)) (a b : Nat) (t : Nat), s.leaves (.otgAbort cutA cutB a b t) (May.anyReg [.cor,
      .dep, .dram, .frc, .fwu, .ing, .lfm, .line, .mem, .otg, .out, .que, .rai, .rdn, .scn, .tim])) ∧
    (∀ (t : Nat), s.leaves (.monitorFrame t) (May.of [.cmp, .frc, .out] [fun _ _ _ => R.COL.MON_DROP.COUNT, fun a _ _
      => R.ETH.TX_FRAMES.COUNT a, fun a _ _ => R.PG.EVT_PEND a])) ∧
    (∀ (l ctl sta : Nat) (valid inverted : Bool) (req : Nat) (errors : Option Nat) (t : Nat), s.leaves (.trainingFrame
      l ctl sta valid inverted req errors t) (May.anyReg [.cor, .dep, .dram, .frc, .fwu, .lfm, .line, .mem, .out,
      .que, .rai, .rdn, .scn, .tim])) ∧
    (∀ (l : Nat) (t : Nat), s.leaves (.trainTimeout l t) (May.anyReg [.cor, .dep, .dram, .frc, .fwu, .lfm, .line,
      .mem, .out, .que, .rai, .rdn, .scn, .tim])) ∧
    (∀ (l : Nat) (t : Nat), s.leaves (.trainGiveUp l t) (May.anyReg [.cor, .dep, .dram, .frc, .fwu, .lfm, .line, .mem,
      .out, .que, .rai, .rdn, .scn, .tim])) ∧
    (∀ (l : Nat) (skew : Int) (found : Nat) (inverted : Bool) (t : Nat), s.leaves (.laneLocked l skew found inverted
      t) (May.anyReg [.cor, .dep, .dram, .frc, .fwu, .lfm, .line, .mem, .out, .que, .rai, .rdn, .scn, .tim])) ∧
    (∀ (p : Nat) (t : Nat), s.leaves (.lockEnd p t) (May.anyReg [.cor, .dep, .dram, .frc, .fwu, .lfm, .line, .mem,
      .out, .que, .rai, .rdn, .scn, .tim])) ∧
    (∀ (p : Nat) (t : Nat), s.leaves (.capxSend p t) (May.anyReg [.cor, .dep, .dram, .frc, .fwu, .lfm, .line, .mem,
      .out, .que, .rai, .rdn, .scn, .tim])) ∧
    (∀ (p : Nat) (m : CapxMsg) (t : Nat), s.leaves (.capx p m t) (May.anyReg [.cor, .dep, .dram, .frc, .fwu, .lfm,
      .line, .mem, .out, .que, .rai, .rdn, .scn, .tim])) ∧
    (∀ (p : Nat) (t : Nat), s.leaves (.capxTimeout p t) (May.anyReg [.cor, .dep, .dram, .frc, .fwu, .lfm, .line, .mem,
      .out, .que, .rai, .rdn, .scn, .tim])) ∧
    (∀ (p : Nat) (t : Nat), s.leaves (.retryInterval p t) (May.anyReg [.cor, .dep, .dram, .frc, .lfm, .line, .mem,
      .out, .que, .rai, .rdn, .scn, .tim])) ∧
    (∀ (p : Nat) (t : Nat), s.leaves (.restartPort p t) (May.anyReg [.cor, .dep, .dram, .frc, .fwu, .lfm, .line, .mem,
      .out, .que, .rai, .rdn, .scn, .tim])) ∧
    (∀ (p v : Nat) (t : Nat), s.leaves (.maxWidthWrite p v t) (May.anyReg [.cor, .dep, .dram, .frc, .fwu, .lfm, .line,
      .mem, .out, .que, .rai, .rdn, .scn, .tim])) ∧
    (∀ (p : Nat) (rx : List (Nat × Nat)) (t : Nat), s.leaves (.groupHeader p rx t) (May.anyReg [.cor, .dep, .dram,
      .frc, .fwu, .lfm, .line, .mem, .out, .que, .rai, .rdn, .scn, .tim])) ∧
    (∀ (p : Nat) (t : Nat), s.leaves (.replayTimeout p t) (May.anyReg [.cor, .dep, .dram, .frc, .fwu, .lfm, .line,
      .mem, .out, .que, .rai, .rdn, .scn, .tim])) ∧
    (∀ (l : Nat) (t : Nat), s.leaves (.laneFault l t) (May.anyReg [.cor, .dep, .dram, .frc, .fwu, .lfm, .line, .mem,
      .out, .que, .rai, .rdn, .scn, .tim])) ∧
    (∀ (l : Nat) (ok : Bool) (t : Nat), s.leaves (.retrainDone l ok t) (May.anyReg [.cor, .dep, .dram, .frc, .fwu,
      .lfm, .line, .mem, .out, .que, .rai, .rdn, .scn, .tim])) ∧
    (∀ (l : Nat) (t : Nat), s.leaves (.laneRetry l t) (May.of [.frc, .line, .out] [fun a _ _ => R.LNK.PORT_STAT.FAILED
      a, fun a _ _ => R.LNL.LANE_STAT.PRE_RX a, fun a _ _ => R.LNL.LANE_STAT.PRE_TX a, fun a _ _ =>
      R.LNL.LANE_STAT.REASON a, fun a _ _ => R.LNL.LANE_STAT.STATE a, fun a _ _ => R.LNL.TX_TAPS.C0 a, fun a _ _ =>
      R.LNL.TX_TAPS.CM1 a, fun a _ _ => R.LNL.TX_TAPS.CM2 a, fun a _ _ => R.LNL.TX_TAPS.CP1 a, fun a _ _ =>
      R.LNL.TX_TAPS.CP2 a])) ∧
    (∀ (l : Nat) (t : Nat), s.leaves (.laneRetire l t) (May.anyReg [.cor, .dep, .dram, .frc, .fwu, .lfm, .line, .mem,
      .out, .que, .rai, .rdn, .scn, .tim])) ∧
    (∀ (p : Nat) (m : LinkStateMsg) (t : Nat), s.leaves (.linkState p m t) (May.anyReg [.cor, .dep, .dram, .frc, .lfm,
      .line, .mem, .out, .que, .rai, .rdn, .scn, .tim])) ∧
    (∀ (p t : Nat), s.leaves (.enumStart p t) (May.of [.frc, .line, .out] [fun a _ _ => R.LNE.ENUM_RUN.RUN a, fun a _
      _ => R.LNE.LNE_STAT.ENUM_BUSY a])) ∧
    (∀ (p : Nat) (m : EnumMsg) (t : Nat), s.leaves (.enumMsg p m t) (May.of [.frc, .line, .out] [fun a _ _ =>
      R.LNE.TILE_STOP.STOP_D a, fun a _ _ => R.LNE.TILE_STOP.STOP_U a])) ∧
    (∀ (p : Nat) (m : EnumRsp) (t : Nat), s.leaves (.enumRsp p m t) (May.of [.dep, .frc, .line, .out, .tim] [fun a _ _
      => R.LNE.LNE_STAT.ENUM_BUSY a, fun a _ _ => R.LNE.LNE_STAT.ENUM_SHORT a, fun a _ _ => R.LNE.LNE_STAT.N a, fun a
      _ _ => R.LNE.LNE_STAT.OVERLONG a, fun a _ _ => R.LNE.TEL_STAT.CHANGED a, fun a _ _ => R.LNE.TEL_STAT.SILENT a,
      fun a _ _ => R.LNE.TEL_STAT.SKEW a, fun a _ _ => R.LNE.TXN_TMO.EFF_US a, fun a _ _ => R.LNK.LINE_STAT.LINE_WIDTH
      a, fun a _ _ => R.LNK.LINE_STAT.NARROW_STOP a, fun a _ _ => R.PG.ERR_ADDR_HI a, fun a _ _ => R.PG.ERR_ADDR_LO a,
      fun a _ _ => R.PG.ERR_CODE a, fun a _ _ => R.PG.ERR_COUNT a, fun a _ _ => R.PG.ERR_OVERFLOW a, fun a _ _ =>
      R.PG.ERR_SOURCE a, fun a _ _ => R.PG.ERR_VALID a, fun a _ _ => R.PG.EVT_PEND a, fun a _ _ =>
      R.TIM.DOM_OFFSET.OFFSET a, fun a _ _ => R.TIM.DOM_RATE.RATE a])) ∧
    (∀ (p t : Nat), s.leaves (.enumTimeout p t) (May.of [.dep, .frc, .line, .out, .tim] [fun a _ _ =>
      R.LNE.LNE_STAT.ENUM_BUSY a, fun a _ _ => R.LNE.LNE_STAT.ENUM_SHORT a, fun a _ _ => R.LNE.LNE_STAT.N a, fun a _ _
      => R.LNE.LNE_STAT.OVERLONG a, fun a _ _ => R.LNE.TEL_STAT.CHANGED a, fun a _ _ => R.LNE.TEL_STAT.SILENT a, fun a
      _ _ => R.LNE.TEL_STAT.SKEW a, fun a _ _ => R.LNE.TXN_TMO.EFF_US a, fun a _ _ => R.LNK.LINE_STAT.LINE_WIDTH a,
      fun a _ _ => R.LNK.LINE_STAT.NARROW_STOP a, fun a _ _ => R.PG.ERR_ADDR_HI a, fun a _ _ => R.PG.ERR_ADDR_LO a,
      fun a _ _ => R.PG.ERR_CODE a, fun a _ _ => R.PG.ERR_COUNT a, fun a _ _ => R.PG.ERR_OVERFLOW a, fun a _ _ =>
      R.PG.ERR_SOURCE a, fun a _ _ => R.PG.ERR_VALID a, fun a _ _ => R.PG.EVT_PEND a, fun a _ _ =>
      R.TIM.DOM_OFFSET.OFFSET a, fun a _ _ => R.TIM.DOM_RATE.RATE a])) ∧
    (∀ (p : Nat) (h : FrameHdr) (crcOk : Bool) (member t : Nat), s.leaves (.frameHeader p h crcOk member t)
      (May.anyReg [.cmp, .cor, .dram, .frc, .lfm, .line, .map, .mem, .out, .rai, .rdn, .scn, .tim])) ∧
    (∀ (p : Nat) (k : ShareHdr) (crcOk : Bool) (t : Nat), s.leaves (.shareHeader p k crcOk t) (May.anyReg [.cor,
      .dram, .frc, .lfm, .line, .mem, .out, .rai, .rdn, .scn, .tim])) ∧
    (∀ (p view round frame : Nat) (crcOk : Bool) (t : Nat), s.leaves (.segmentHeader p view round frame crcOk t)
      (May.anyReg [.cor, .dram, .frc, .lfm, .line, .mem, .out, .rai, .rdn, .scn, .tim])) ∧
    (∀ (p round bits : Nat) (bad : List Nat) (t : Nat), s.leaves (.rowData p round bits bad t) (May.anyReg [.cor,
      .dram, .frc, .lfm, .line, .mem, .out, .rai, .rdn, .scn, .tim])) ∧
    (∀ (p : Nat) (tr : ShareTrl) (crcOk : Bool) (t : Nat), s.leaves (.shareTrailer p tr crcOk t) (May.anyReg [.cor,
      .dram, .frc, .lfm, .line, .mem, .out, .rai, .rdn, .scn, .tim])) ∧
    (∀ (p view frame : Nat) (crcOk : Bool) (t : Nat), s.leaves (.viewTrailer p view frame crcOk t) (May.anyReg [.cor,
      .dram, .frc, .lfm, .line, .mem, .out, .rai, .rdn, .scn, .tim])) ∧
    (∀ (p : Nat) (m : ReqMsg) (t : Nat), s.leaves (.req p m t) (May.of [.frc, .line, .out, .tim] [fun a _ _ =>
      R.PG.EVT_PEND a, fun _ _ _ => R.QUE.ACC_DROP.D, fun _ _ _ => R.QUE.ACC_DROP.U, fun _ _ _ => R.QUE.ACC_HELD.D,
      fun _ _ _ => R.QUE.ACC_HELD.U, fun _ _ _ => R.QUE.DUP_EVICT.COUNT, fun _ _ _ => R.QUE.DUP_HIT.COUNT, fun _ _ _
      => R.QUE.DUP_SRCS.COUNT, fun a _ _ => R.TIM.DOM_OFFSET.OFFSET a, fun a _ _ => R.TIM.DOM_RATE.RATE a])) ∧
    (∀ (t : Nat), s.leaves (.readTxn t) (May.anyReg [.clu, .cmp, .cor, .dep, .dram, .force, .frc, .fwu, .hkt, .ing,
      .klc, .lfm, .line, .map, .mbx, .mem, .otg, .out, .power, .que, .rai, .rdn, .role, .scn, .starts, .tim])) ∧
    (∀ (t : Nat), s.leaves (.writeTxn t) (May.anyReg [.clu, .cmp, .cor, .dep, .dram, .force, .frc, .fwu, .hkt, .ing,
      .klc, .lfm, .line, .map, .mbx, .mem, .otg, .out, .power, .que, .rai, .rdn, .role, .scn, .starts, .tim])) ∧
    (∀ (t : Nat), s.leaves (.writeMasked t) (May.anyReg [.clu, .cmp, .cor, .dep, .dram, .force, .frc, .fwu, .hkt,
      .ing, .klc, .lfm, .line, .map, .mbx, .mem, .otg, .out, .power, .que, .rai, .rdn, .role, .scn, .starts, .tim])) ∧
    (∀ (t : Nat), s.leaves (.ping t) (May.anyReg [.clu, .cmp, .cor, .dep, .dram, .force, .frc, .fwu, .hkt, .ing, .klc,
      .lfm, .line, .map, .mbx, .mem, .otg, .out, .power, .que, .rai, .rdn, .role, .scn, .starts, .tim])) ∧
    (∀ (p : Nat) (m : RspMsg) (t : Nat), s.leaves (.rsp p m t) (May.of [.frc, .line, .out, .que, .tim] [fun a _ _ =>
      R.LNE.INFLIGHT.COUNT a, fun a _ _ => R.LNE.LATE_RSP.COUNT a, fun a _ _ => R.PG.ERR_ADDR_HI a, fun a _ _ =>
      R.PG.ERR_ADDR_LO a, fun a _ _ => R.PG.ERR_CODE a, fun a _ _ => R.PG.ERR_COUNT a, fun a _ _ => R.PG.ERR_OVERFLOW
      a, fun a _ _ => R.PG.ERR_SOURCE a, fun a _ _ => R.PG.ERR_VALID a, fun a _ _ => R.PG.EVT_PEND a, fun a _ _ =>
      R.PG.POISON_SEEN a, fun a _ _ => R.QCX.Q_CTRL.IDLE a, fun a _ _ => R.QCX.Q_DONE_CNT.COUNT a, fun a _ _ =>
      R.QCX.Q_HEAD.IDX a, fun a _ _ => R.QCX.Q_INFLIGHT.COUNT a, fun _ _ _ => R.QUE.DESC_ERR.COUNT, fun _ _ _ =>
      R.QUE.INFLIGHT.COUNT, fun _ _ _ => R.SVP.TX_DGRAM.COUNT, fun a _ _ => R.TEN.FLR_DISCARD.COUNT a, fun a _ _ =>
      R.TEN.REVOKED_CNT.COUNT a, fun _ _ _ => R.TEN.RULE_STAT.OLD, fun a _ _ => R.TIM.DOM_OFFSET.OFFSET a, fun a _ _
      => R.TIM.DOM_RATE.RATE a])) ∧
    (∀ (p didx t : Nat), s.leaves (.txnTimeout p didx t) (May.of [.frc, .line, .out, .que, .tim] [fun a _ _ =>
      R.LNE.INFLIGHT.COUNT a, fun a _ _ => R.LNE.TMO_CNT.COUNT a, fun a _ _ => R.PG.ERR_ADDR_HI a, fun a _ _ =>
      R.PG.ERR_ADDR_LO a, fun a _ _ => R.PG.ERR_CODE a, fun a _ _ => R.PG.ERR_COUNT a, fun a _ _ => R.PG.ERR_OVERFLOW
      a, fun a _ _ => R.PG.ERR_SOURCE a, fun a _ _ => R.PG.ERR_VALID a, fun a _ _ => R.PG.EVT_PEND a, fun a _ _ =>
      R.PG.POISON_SEEN a, fun a _ _ => R.QCX.Q_CTRL.IDLE a, fun a _ _ => R.QCX.Q_DONE_CNT.COUNT a, fun a _ _ =>
      R.QCX.Q_HEAD.IDX a, fun a _ _ => R.QCX.Q_INFLIGHT.COUNT a, fun _ _ _ => R.QUE.DESC_ERR.COUNT, fun _ _ _ =>
      R.QUE.INFLIGHT.COUNT, fun _ _ _ => R.SVP.TX_DGRAM.COUNT, fun a _ _ => R.TEN.FLR_DISCARD.COUNT a, fun a _ _ =>
      R.TEN.REVOKED_CNT.COUNT a, fun _ _ _ => R.TEN.RULE_STAT.OLD, fun a _ _ => R.TIM.DOM_OFFSET.OFFSET a, fun a _ _
      => R.TIM.DOM_RATE.RATE a])) ∧
    (∀ (p didx t : Nat), s.leaves (.creditRelease p didx t) (May.of [.frc, .line, .out, .que, .tim] [fun a _ _ =>
      R.LNE.INFLIGHT.COUNT a, fun a _ _ => R.PG.ERR_ADDR_HI a, fun a _ _ => R.PG.ERR_ADDR_LO a, fun a _ _ =>
      R.PG.ERR_CODE a, fun a _ _ => R.PG.ERR_COUNT a, fun a _ _ => R.PG.ERR_OVERFLOW a, fun a _ _ => R.PG.ERR_SOURCE
      a, fun a _ _ => R.PG.ERR_VALID a, fun a _ _ => R.PG.EVT_PEND a, fun a _ _ => R.PG.POISON_SEEN a, fun a _ _ =>
      R.QCX.Q_CTRL.IDLE a, fun a _ _ => R.QCX.Q_DONE_CNT.COUNT a, fun a _ _ => R.QCX.Q_HEAD.IDX a, fun a _ _ =>
      R.QCX.Q_INFLIGHT.COUNT a, fun _ _ _ => R.QUE.DESC_ERR.COUNT, fun _ _ _ => R.QUE.INFLIGHT.COUNT, fun _ _ _ =>
      R.SVP.TX_DGRAM.COUNT, fun a _ _ => R.TEN.REVOKED_CNT.COUNT a, fun a _ _ => R.TIM.DOM_OFFSET.OFFSET a, fun a _ _
      => R.TIM.DOM_RATE.RATE a])) ∧
    (∀ (p : Nat) (m : SvcMsg) (full : Bool) (t : Nat), s.leaves (.svc p m full t) (May.of [.frc, .fwu, .line, .mbx,
      .out, .tim] [fun _ _ _ => R.FWU.SESSION.ID, fun _ _ _ => R.FWU.SESSION.PURPOSE, fun _ _ _ => R.FWU.SESSION.SLOT,
      fun _ _ _ => R.FWU.SESS_BYTES.BYTES, fun a b _ => R.MBX.M_REFUSED.COUNT a b, fun a b _ => R.MBX.M_STAT.RX_COUNT
      a b, fun a b _ => R.MBX.M_STAT.RX_POISON a b, fun a b _ => R.MBX.M_STAT.TX_FULL a b, fun a b _ =>
      R.MBX.M_STAT.TX_INFLIGHT a b, fun a b c => R.MBX.RX.DATA a b c, fun a _ _ => R.PG.ERR_ADDR_HI a, fun a _ _ =>
      R.PG.ERR_ADDR_LO a, fun a _ _ => R.PG.ERR_CODE a, fun a _ _ => R.PG.ERR_COUNT a, fun a _ _ => R.PG.ERR_OVERFLOW
      a, fun a _ _ => R.PG.ERR_SOURCE a, fun a _ _ => R.PG.ERR_VALID a, fun a _ _ => R.PG.EVT_PEND a, fun a _ _ =>
      R.SLT.SLOT_GEN.GEN a, fun a _ _ => R.SLT.SLOT_STAT.RESULT a, fun a _ _ => R.SLT.SLOT_STAT.STATE a, fun a _ _ =>
      R.SLT.SLOT_STAT.TRIALS a, fun _ _ _ => R.SVP.SVC_DISC.COUNT, fun _ _ _ => R.SVP.SVC_SEG.COUNT, fun a _ _ =>
      R.TIM.DOM_OFFSET.OFFSET a, fun a _ _ => R.TIM.DOM_RATE.RATE a])) ∧
    (∀ (p : Nat) (m : SvcAck) (t : Nat), s.leaves (.svcAck p m t) (May.of [.frc, .line, .mbx, .out, .tim] [fun a b _
      => R.MBX.M_STAT.RX_COUNT a b, fun a b _ => R.MBX.M_STAT.RX_POISON a b, fun a b _ => R.MBX.M_STAT.TX_INFLIGHT a
      b, fun a b c => R.MBX.RX.DATA a b c, fun a _ _ => R.PG.EVT_PEND a, fun _ _ _ => R.SVP.TX_DGRAM.COUNT, fun a _ _
      => R.TIM.DOM_OFFSET.OFFSET a, fun a _ _ => R.TIM.DOM_RATE.RATE a])) ∧
    (∀ (p k t : Nat), s.leaves (.svcResend p k t) (May.of [.frc, .line, .out] [])) ∧
    (∀ (p : Nat) (m : MirrorMsg) (t : Nat), s.leaves (.mirrorRecord p m t) (May.anyReg [.clu, .cmp, .cor, .dep, .dram,
      .force, .frc, .fwu, .hkt, .ing, .klc, .lfm, .line, .map, .mbx, .mem, .otg, .out, .power, .que, .rai, .rdn,
      .role, .scn, .starts, .tim])) ∧
    (∀ (t : Nat), s.leaves (.mirrorGap t) (May.of [.frc, .out, .rdn] [fun a _ _ => R.PG.EVT_PEND a, fun _ _ _ =>
      R.RDN.MIRROR_GAP.COUNT, fun _ _ _ => R.RDN.RDN_STAT.STATE])) ∧
    (∀ (p : Nat) (m : TelemMsg) (t : Nat), s.leaves (.telem p m t) (May.of [.dram, .frc, .line, .mem, .out, .tim] [fun
      a _ _ => R.LNE.TEL_STAT.SILENT a, fun a _ _ => R.LOG.LOG_ADDR_LO.ADDR a, fun a _ _ => R.LOG.LOG_INFO.ADDR_HI a,
      fun a _ _ => R.LOG.LOG_INFO.ARRAY a, fun a _ _ => R.LOG.LOG_INFO.BYTES a, fun a _ _ => R.LOG.LOG_INFO.CHANNEL a,
      fun a _ _ => R.LOG.LOG_INFO.CODE a, fun a _ _ => R.LOG.LOG_INFO.PORT a, fun a _ _ => R.LOG.LOG_INFO.SRAM a, fun
      a _ _ => R.LOG.LOG_TIME_HI.NS a, fun a _ _ => R.LOG.LOG_TIME_LO.NS a, fun _ _ _ => R.PAR.CHK_CTRL.INJ_ARM, fun _
      _ _ => R.PAR.LOG_STAT.NEXT, fun _ _ _ => R.PAR.LOG_STAT.TOTAL, fun _ _ _ => R.PAR.LOG_STAT.WRAPPED, fun a _ _ =>
      R.PG.ERR_ADDR_HI a, fun a _ _ => R.PG.ERR_ADDR_LO a, fun a _ _ => R.PG.ERR_CODE a, fun a _ _ => R.PG.ERR_COUNT
      a, fun a _ _ => R.PG.ERR_OVERFLOW a, fun a _ _ => R.PG.ERR_SOURCE a, fun a _ _ => R.PG.ERR_VALID a, fun a _ _ =>
      R.PG.EVT_PEND a, fun _ _ _ => R.RDN.MISMATCH_CNT.COUNT, fun _ _ _ => R.RDN.RDN_STAT.MIS_PORT, fun _ _ _ =>
      R.RDN.RDN_STAT.MIS_STOP, fun a _ _ => R.TIM.DOM_OFFSET.OFFSET a, fun a _ _ => R.TIM.DOM_RATE.RATE a])) ∧
    (∀ (v : Nat) (t : Nat), s.leaves (.jrTail v t) (May.of [.frc] [fun _ _ _ => R.KLC.JR_TAIL.IDX])) ∧
    (∀ (q : Option (Nat × Nat)) (blocks : Nat) (t : Nat), s.leaves (.compress q blocks t) (May.anyReg [.dram, .frc,
      .klc, .line, .mem, .out, .que, .tim])) ∧
    (∀ (q : Option (Nat × Nat)) (blocks : Nat) (t : Nat), s.leaves (.decompress q blocks t) (May.anyReg [.dram, .frc,
      .klc, .line, .mem, .out, .que, .tim])) ∧
    (∀ (t : Nat), s.leaves (.jobDone t) (May.anyReg [.dram, .frc, .klc, .line, .mem, .out, .que, .tim]))

/-- Frames of the correction, scan, rail and memory commands. For every state in canonical form and every next state
  that a command of this group answers: each part of the state and each register field that the clause of the command
  does not name is what it was, what was sent before stays sent, the queue stays, and the canonical forms hold. A
  clause with anyReg names every register field: such a command writes a register that its operands choose, resets a
  page or the module, or commits staged values. Where the frame of a command includes a field of the model (log
  entries 5, 8 and 78), the clause names it. Rests on R74, R82. -/
def Obligations.LightAndMemoryFrames : Prop :=
  ∀ s : State, s.Canon →
    (∀ (t : Nat), s.leaves (.abortJob t) (May.of [.frc, .klc] [])) ∧
    (∀ (t : Nat), s.leaves (.passDone t) (May.of [.cor, .frc, .out, .rai, .scn] [fun _ _ _ => R.COR.LAST_PASS.NS, fun
      a _ _ => R.PG.EVT_PEND a, fun a _ _ => R.RCH.CH_CNT.REJECT a, fun a _ _ => R.RCH.CH_DMAX.NEXT a, fun a _ _ =>
      R.RCH.CH_STAT.AT_TARGET a, fun a _ _ => R.RCH.CH_TARGET.FLOOR a, fun a _ _ => R.RCH.CH_TARGET.NEXT a])) ∧
    (∀ (t : Nat), s.leaves (.bankSyncStart t) (May.of [.cor, .frc] [])) ∧
    (∀ (t : Nat), s.leaves (.bankSyncDone t) (May.of [.cor, .dram, .frc, .mem, .out, .tim] [fun _ _ _ =>
      R.COR.BANK_STAT.SYNCING, fun _ _ _ => R.DEP.MODE_CHECK.DEP_PENDING, fun _ _ _ => R.DEP.MODE_CHECK.EPOCH_PENDING,
      fun _ _ _ => R.DEP.MODE_CHECK.FIELDS, fun _ _ _ => R.DEP.MODE_CHECK.RULE, fun _ _ _ => R.DEP.MODE_CHECK.VALID,
      fun _ _ _ => R.DEP.MODE_CTRL.FB_VALID, fun a _ _ => R.LOG.LOG_ADDR_LO.ADDR a, fun a _ _ =>
      R.LOG.LOG_INFO.ADDR_HI a, fun a _ _ => R.LOG.LOG_INFO.ARRAY a, fun a _ _ => R.LOG.LOG_INFO.BYTES a, fun a _ _ =>
      R.LOG.LOG_INFO.CHANNEL a, fun a _ _ => R.LOG.LOG_INFO.CODE a, fun a _ _ => R.LOG.LOG_INFO.PORT a, fun a _ _ =>
      R.LOG.LOG_INFO.SRAM a, fun a _ _ => R.LOG.LOG_TIME_HI.NS a, fun a _ _ => R.LOG.LOG_TIME_LO.NS a, fun a _ _ =>
      R.MEM.CH_STAT.FILLED a, fun a _ _ => R.MEM.CH_STAT.MIRROR_OK a, fun a _ _ => R.MEM.CH_STAT.STATE a, fun _ _ _ =>
      R.PAR.CHK_CTRL.INJ_ARM, fun _ _ _ => R.PAR.DRAM_ERR_CNT.COUNT, fun _ _ _ => R.PAR.LOG_STAT.NEXT, fun _ _ _ =>
      R.PAR.LOG_STAT.TOTAL, fun _ _ _ => R.PAR.LOG_STAT.WRAPPED, fun _ _ _ => R.PAR.MIRROR_FIX_CNT.COUNT, fun a _ _ =>
      R.PG.ERR_ADDR_HI a, fun a _ _ => R.PG.ERR_ADDR_LO a, fun a _ _ => R.PG.ERR_CODE a, fun a _ _ => R.PG.ERR_COUNT
      a, fun a _ _ => R.PG.ERR_OVERFLOW a, fun a _ _ => R.PG.ERR_SOURCE a, fun a _ _ => R.PG.ERR_VALID a, fun a _ _ =>
      R.PG.EVT_PEND a, fun a _ _ => R.PG.FAULT a, fun a _ _ => R.TIM.DOM_OFFSET.OFFSET a, fun a _ _ =>
      R.TIM.DOM_RATE.RATE a])) ∧
    (∀ (ofs n v : Nat) (t : Nat), s.leaves (.apertureWrite ofs n v t) (May.of [.dram, .frc, .mem, .out] [fun _ _ _ =>
      R.COR.APER_REFUSED.COUNT, fun a _ _ => R.LOG.LOG_ADDR_LO.ADDR a, fun a _ _ => R.LOG.LOG_INFO.ADDR_HI a, fun a _
      _ => R.LOG.LOG_INFO.ARRAY a, fun a _ _ => R.LOG.LOG_INFO.BYTES a, fun a _ _ => R.LOG.LOG_INFO.CHANNEL a, fun a _
      _ => R.LOG.LOG_INFO.CODE a, fun a _ _ => R.LOG.LOG_INFO.PORT a, fun a _ _ => R.LOG.LOG_INFO.SRAM a, fun a _ _ =>
      R.LOG.LOG_TIME_HI.NS a, fun a _ _ => R.LOG.LOG_TIME_LO.NS a, fun _ _ _ => R.PAR.CHK_CTRL.INJ_ARM, fun _ _ _ =>
      R.PAR.LOG_STAT.NEXT, fun _ _ _ => R.PAR.LOG_STAT.TOTAL, fun _ _ _ => R.PAR.LOG_STAT.WRAPPED, fun a _ _ =>
      R.PG.ERR_ADDR_HI a, fun a _ _ => R.PG.ERR_ADDR_LO a, fun a _ _ => R.PG.ERR_CODE a, fun a _ _ => R.PG.ERR_COUNT
      a, fun a _ _ => R.PG.ERR_OVERFLOW a, fun a _ _ => R.PG.ERR_SOURCE a, fun a _ _ => R.PG.ERR_VALID a, fun a _ _ =>
      R.PG.EVT_PEND a])) ∧
    (∀ (v : Nat) (t : Nat), s.leaves (.uplCmdGo v t) (May.of [.cor, .frc, .out, .tim] [fun _ _ _ =>
      R.COR.BANK_STAT.UPL_BUSY, fun _ _ _ => R.COR.UPL_CMD.ID, fun _ _ _ => R.COR.UPL_CMD.OP, fun _ _ _ =>
      R.COR.UPL_CMD.SUPERSEDE, fun _ _ _ => R.COR.UPL_DONE.ID, fun _ _ _ => R.COR.UPL_DONE.REGIONS, fun _ _ _ =>
      R.COR.UPL_DONE.STATUS, fun _ _ _ => R.COR.UPL_STAT.QUEUED, fun _ _ _ => R.COR.UPL_STAT.RUNNING, fun _ _ _ =>
      R.COR.UPL_STAT.RUN_DONE, fun _ _ _ => R.COR.UPL_STAT.RUN_ID, fun a _ _ => R.PG.ERR_ADDR_HI a, fun a _ _ =>
      R.PG.ERR_ADDR_LO a, fun a _ _ => R.PG.ERR_CODE a, fun a _ _ => R.PG.ERR_COUNT a, fun a _ _ => R.PG.ERR_OVERFLOW
      a, fun a _ _ => R.PG.ERR_SOURCE a, fun a _ _ => R.PG.ERR_VALID a, fun a _ _ => R.PG.EVT_PEND a, fun a _ _ =>
      R.TIM.DOM_OFFSET.OFFSET a, fun a _ _ => R.TIM.DOM_RATE.RATE a])) ∧
    (∀ (t : Nat), s.leaves (.copyRegions t) (May.anyReg [.cor, .dram, .frc, .line, .mem, .out, .tim])) ∧
    (∀ (t : Nat), s.leaves (.copyPack t) (May.anyReg [.cor, .dram, .frc, .line, .mem, .out, .tim])) ∧
    (∀ (t : Nat), s.leaves (.copyPacked t) (May.anyReg [.cor, .dram, .frc, .line, .mem, .out, .tim])) ∧
    (∀ (t : Nat), s.leaves (.unitRecords t) (May.anyReg [.cor, .dram, .frc, .line, .mem, .out, .tim])) ∧
    (∀ (t : Nat), s.leaves (.uplCommandEnd t) (May.of [.cor, .frc, .out] [fun _ _ _ => R.COR.BANK_STAT.UPL_BUSY, fun _
      _ _ => R.COR.UPL_DONE.ID, fun _ _ _ => R.COR.UPL_DONE.REGIONS, fun _ _ _ => R.COR.UPL_DONE.STATUS, fun _ _ _ =>
      R.COR.UPL_STAT.QUEUED, fun _ _ _ => R.COR.UPL_STAT.RUNNING, fun _ _ _ => R.COR.UPL_STAT.RUN_DONE, fun _ _ _ =>
      R.COR.UPL_STAT.RUN_ID, fun a _ _ => R.PG.ERR_ADDR_HI a, fun a _ _ => R.PG.ERR_ADDR_LO a, fun a _ _ =>
      R.PG.ERR_CODE a, fun a _ _ => R.PG.ERR_COUNT a, fun a _ _ => R.PG.ERR_OVERFLOW a, fun a _ _ => R.PG.ERR_SOURCE
      a, fun a _ _ => R.PG.ERR_VALID a, fun a _ _ => R.PG.EVT_PEND a])) ∧
    (∀ (t : Nat), s.leaves (.uplDoneRead t) (May.of [.cor, .frc] [fun _ _ _ => R.COR.BANK_STAT.UPL_BUSY, fun _ _ _ =>
      R.COR.UPL_DONE.ID, fun _ _ _ => R.COR.UPL_DONE.REGIONS, fun _ _ _ => R.COR.UPL_DONE.STATUS, fun _ _ _ =>
      R.COR.UPL_STAT.QUEUED, fun _ _ _ => R.COR.UPL_STAT.RUNNING, fun _ _ _ => R.COR.UPL_STAT.RUN_DONE, fun _ _ _ =>
      R.COR.UPL_STAT.RUN_ID])) ∧
    (∀ (t : Nat), s.leaves (.gapStart t) (May.anyReg [.dram, .frc, .lfm, .line, .mem, .out, .scn, .tim])) ∧
    (∀ (groups : List (Nat × List Nat)) (t : Nat), s.leaves (.readbackWindowEnd groups t) (May.anyReg [.dram, .frc,
      .lfm, .line, .mem, .out, .tim])) ∧
    (∀ (t : Nat), s.leaves (.flipSend t) (May.anyReg [.cmp, .cor, .dep, .dram, .force, .frc, .ing, .lfm, .line, .map,
      .mem, .out, .rai, .rdn, .scn, .tim])) ∧
    (∀ (t : Nat), s.leaves (.loadStart t) (May.anyReg [.dram, .frc, .line, .mem, .out, .scn, .tim])) ∧
    (∀ (t : Nat), s.leaves (.loadDone t) (May.of [.frc, .out, .scn] [fun a _ _ => R.PG.EVT_PEND a, fun _ _ _ =>
      R.SCN.LAST_READY.NS, fun _ _ _ => R.SCN.SCN_STAT.LOADING])) ∧
    (∀ (t : Nat), s.leaves (.loadDeadline t) (May.anyReg [.dram, .frc, .line, .mem, .out, .scn, .tim])) ∧
    (∀ (b : Nat) (t : Nat), s.leaves (.bandClose b t) (May.of [.dram, .frc, .line, .mem, .out, .scn, .tim] [fun _ _ _
      => R.DEP.MODE_CHECK.DEP_PENDING, fun _ _ _ => R.DEP.MODE_CHECK.EPOCH_PENDING, fun _ _ _ =>
      R.DEP.MODE_CHECK.FIELDS, fun _ _ _ => R.DEP.MODE_CHECK.RULE, fun _ _ _ => R.DEP.MODE_CHECK.VALID, fun _ _ _ =>
      R.DEP.MODE_CTRL.FB_VALID, fun a _ _ => R.LOG.LOG_ADDR_LO.ADDR a, fun a _ _ => R.LOG.LOG_INFO.ADDR_HI a, fun a _
      _ => R.LOG.LOG_INFO.ARRAY a, fun a _ _ => R.LOG.LOG_INFO.BYTES a, fun a _ _ => R.LOG.LOG_INFO.CHANNEL a, fun a _
      _ => R.LOG.LOG_INFO.CODE a, fun a _ _ => R.LOG.LOG_INFO.PORT a, fun a _ _ => R.LOG.LOG_INFO.SRAM a, fun a _ _ =>
      R.LOG.LOG_TIME_HI.NS a, fun a _ _ => R.LOG.LOG_TIME_LO.NS a, fun a _ _ => R.MEM.CH_STAT.FILLED a, fun a _ _ =>
      R.MEM.CH_STAT.MIRROR_OK a, fun a _ _ => R.MEM.CH_STAT.STATE a, fun _ _ _ => R.PAR.CHK_CTRL.INJ_ARM, fun _ _ _ =>
      R.PAR.DRAM_ERR_CNT.COUNT, fun _ _ _ => R.PAR.LOG_STAT.NEXT, fun _ _ _ => R.PAR.LOG_STAT.TOTAL, fun _ _ _ =>
      R.PAR.LOG_STAT.WRAPPED, fun _ _ _ => R.PAR.MIRROR_FIX_CNT.COUNT, fun a _ _ => R.PG.ERR_ADDR_HI a, fun a _ _ =>
      R.PG.ERR_ADDR_LO a, fun a _ _ => R.PG.ERR_CODE a, fun a _ _ => R.PG.ERR_COUNT a, fun a _ _ => R.PG.ERR_OVERFLOW
      a, fun a _ _ => R.PG.ERR_SOURCE a, fun a _ _ => R.PG.ERR_VALID a, fun a _ _ => R.PG.EVT_PEND a, fun a _ _ =>
      R.PG.FAULT a, fun a _ _ => R.PG.POISON_SEEN a, fun _ _ _ => R.SCN.POISON_WORDS.COUNT, fun _ _ _ =>
      R.SCN.ROW_REPEAT_CNT.COUNT, fun _ _ _ => R.SCN.SCN_STAT.LOADING, fun a _ _ => R.TIM.DOM_OFFSET.OFFSET a, fun a _
      _ => R.TIM.DOM_RATE.RATE a])) ∧
    (∀ (b : Nat) (t : Nat), s.leaves (.bandFlip b t) (May.of [.dram, .frc, .line, .mem, .out, .scn, .tim] [fun _ _ _
      => R.DEP.MODE_CHECK.DEP_PENDING, fun _ _ _ => R.DEP.MODE_CHECK.EPOCH_PENDING, fun _ _ _ =>
      R.DEP.MODE_CHECK.FIELDS, fun _ _ _ => R.DEP.MODE_CHECK.RULE, fun _ _ _ => R.DEP.MODE_CHECK.VALID, fun _ _ _ =>
      R.DEP.MODE_CTRL.FB_VALID, fun a _ _ => R.LOG.LOG_ADDR_LO.ADDR a, fun a _ _ => R.LOG.LOG_INFO.ADDR_HI a, fun a _
      _ => R.LOG.LOG_INFO.ARRAY a, fun a _ _ => R.LOG.LOG_INFO.BYTES a, fun a _ _ => R.LOG.LOG_INFO.CHANNEL a, fun a _
      _ => R.LOG.LOG_INFO.CODE a, fun a _ _ => R.LOG.LOG_INFO.PORT a, fun a _ _ => R.LOG.LOG_INFO.SRAM a, fun a _ _ =>
      R.LOG.LOG_TIME_HI.NS a, fun a _ _ => R.LOG.LOG_TIME_LO.NS a, fun a _ _ => R.MEM.CH_STAT.FILLED a, fun a _ _ =>
      R.MEM.CH_STAT.MIRROR_OK a, fun a _ _ => R.MEM.CH_STAT.STATE a, fun _ _ _ => R.PAR.DRAM_ERR_CNT.COUNT, fun _ _ _
      => R.PAR.LOG_STAT.NEXT, fun _ _ _ => R.PAR.LOG_STAT.TOTAL, fun _ _ _ => R.PAR.LOG_STAT.WRAPPED, fun _ _ _ =>
      R.PAR.MIRROR_FIX_CNT.COUNT, fun a _ _ => R.PG.ERR_ADDR_HI a, fun a _ _ => R.PG.ERR_ADDR_LO a, fun a _ _ =>
      R.PG.ERR_CODE a, fun a _ _ => R.PG.ERR_COUNT a, fun a _ _ => R.PG.ERR_OVERFLOW a, fun a _ _ => R.PG.ERR_SOURCE
      a, fun a _ _ => R.PG.ERR_VALID a, fun a _ _ => R.PG.EVT_PEND a, fun a _ _ => R.PG.FAULT a, fun a _ _ =>
      R.PG.POISON_SEEN a, fun _ _ _ => R.SCN.LAST_READY.NS, fun _ _ _ => R.SCN.POISON_WORDS.COUNT, fun _ _ _ =>
      R.SCN.SCN_STAT.LOADING, fun a _ _ => R.TIM.DOM_OFFSET.OFFSET a, fun a _ _ => R.TIM.DOM_RATE.RATE a])) ∧
    (∀ (t : Nat), s.leaves (.ttCheck t) (May.of [.frc] [fun _ _ _ => R.SCN.TT_STAT.CHECK_BUSY])) ∧
    (∀ (t : Nat), s.leaves (.ttCheckDone t) (May.of [.frc, .out] [fun a _ _ => R.PG.EVT_PEND a, fun _ _ _ =>
      R.SCN.TT_STAT.CHECK_BUSY, fun _ _ _ => R.SCN.TT_STAT.CHECK_CODE])) ∧
    (∀ (t : Nat), s.leaves (.ttSyncDone t) (May.of [.frc, .out, .scn] [fun _ _ _ => R.DEP.MODE_CHECK.DEP_PENDING, fun
      _ _ _ => R.DEP.MODE_CHECK.EPOCH_PENDING, fun _ _ _ => R.DEP.MODE_CHECK.FIELDS, fun _ _ _ =>
      R.DEP.MODE_CHECK.RULE, fun _ _ _ => R.DEP.MODE_CHECK.VALID, fun _ _ _ => R.DEP.MODE_CTRL.FB_VALID, fun a _ _ =>
      R.PG.COMMIT a, fun a _ _ => R.PG.COMMIT_PENDING a, fun a _ _ => R.PG.EVT_PEND a, fun _ _ _ =>
      R.SCN.TT_STAT.SYNCING])) ∧
    (∀ (c mv ma : Nat) (t : Nat), s.leaves (.rampStep c mv ma t) (May.of [.frc] [fun a _ _ => R.RCH.CH_MEAS.I a, fun a
      _ _ => R.RCH.CH_MEAS.V a, fun a _ _ => R.RCH.CH_STAT.AT_TARGET a, fun a _ _ => R.RCH.CH_STAT.SET_NOW a, fun a _
      _ => R.RCH.CH_TARGET.FLOOR a, fun a _ _ => R.RCH.CH_TARGET.NEXT a])) ∧
    (∀ (c mv ma : Nat) (t : Nat), s.leaves (.railReady c mv ma t) (May.of [.frc, .out] [fun a _ _ => R.PG.EVT_PEND a,
      fun _ _ _ => R.RAI.RAI_READY.READY, fun a _ _ => R.RCH.CH_MEAS.I a, fun a _ _ => R.RCH.CH_MEAS.V a, fun a _ _ =>
      R.RCH.CH_STAT.STATE a])) ∧
    (∀ (c mv : Nat) (t : Nat), s.leaves (.discharged c mv t) (May.of [.frc, .out, .rai, .tim] [fun a _ _ =>
      R.PG.EVT_PEND a, fun a _ _ => R.PG.FAULT a, fun _ _ _ => R.RAI.RAI_READY.READY, fun a _ _ => R.RCH.CH_CNT.REJECT
      a, fun a _ _ => R.RCH.CH_MEAS.I a, fun a _ _ => R.RCH.CH_MEAS.V a, fun a _ _ => R.RCH.CH_STAT.AT_TARGET a, fun a
      _ _ => R.RCH.CH_STAT.CLAMPED a, fun a _ _ => R.RCH.CH_STAT.DISCHARGED a, fun a _ _ => R.RCH.CH_STAT.SET_NOW a,
      fun a _ _ => R.RCH.CH_STAT.STATE a, fun a _ _ => R.RCH.CH_TARGET.FLOOR a, fun a _ _ => R.RCH.CH_TARGET.NEXT a,
      fun a _ _ => R.TIM.DOM_OFFSET.OFFSET a, fun a _ _ => R.TIM.DOM_RATE.RATE a])) ∧
    (∀ (c mv ma : Nat) (t : Nat), s.leaves (.disTimeout c mv ma t) (May.anyReg [.dram, .frc, .lfm, .line, .mem, .out,
      .rai, .tim])) ∧
    (∀ (c cycles mv ma : Nat) (t : Nat), s.leaves (.overcurrent c cycles mv ma t) (May.anyReg [.dram, .frc, .lfm,
      .line, .mem, .out, .rai, .tim])) ∧
    (∀ (c mv ma : Nat) (t : Nat), s.leaves (.overvoltage c mv ma t) (May.anyReg [.dram, .frc, .lfm, .line, .mem, .out,
      .rai, .tim])) ∧
    (∀ (c mv ma : Nat) (t : Nat), s.leaves (.undervoltage c mv ma t) (May.anyReg [.dram, .frc, .lfm, .line, .mem,
      .out, .rai, .tim])) ∧
    (∀ (c mv ma : Nat) (t : Nat), s.leaves (.externalFault c mv ma t) (May.anyReg [.dram, .frc, .lfm, .line, .mem,
      .out, .rai, .tim])) ∧
    (∀ (c : Nat) (t : Nat), s.leaves (.clrFault c t) (May.of [.frc, .out, .rai, .tim] [fun a _ _ => R.PG.EVT_PEND a,
      fun a _ _ => R.PG.FAULT a, fun _ _ _ => R.RAI.RAI_READY.READY, fun _ _ _ => R.RAI.RAI_STAT.FAULT, fun a _ _ =>
      R.RCH.CH_CNT.REJECT a, fun a _ _ => R.RCH.CH_STAT.AT_TARGET a, fun a _ _ => R.RCH.CH_STAT.CLAMPED a, fun a _ _
      => R.RCH.CH_STAT.DISCHARGED a, fun a _ _ => R.RCH.CH_STAT.FCAUSE a, fun a _ _ => R.RCH.CH_STAT.SET_NOW a, fun a
      _ _ => R.RCH.CH_STAT.STATE a, fun a _ _ => R.RCH.CH_TARGET.FLOOR a, fun a _ _ => R.RCH.CH_TARGET.NEXT a, fun a _
      _ => R.TIM.DOM_OFFSET.OFFSET a, fun a _ _ => R.TIM.DOM_RATE.RATE a])) ∧
    (∀ (k : Nat) (t : Nat), s.leaves (.auxLimit k t) (May.of [.frc, .out] [fun a _ _ => R.PG.EVT_PEND a, fun _ _ _ =>
      R.PWR.AUX_STAT.AUX18_LIM, fun _ _ _ => R.PWR.AUX_STAT.AUX33_LIM, fun _ _ _ => R.PWR.PWR_STAT.AUX18_OK, fun _ _ _
      => R.PWR.PWR_STAT.AUX33_OK])) ∧
    (∀ (k : Nat) (clear : Bool) (t : Nat), s.leaves (.auxRetry k clear t) (May.of [.frc] [fun _ _ _ =>
      R.PWR.AUX_STAT.AUX18_LIM, fun _ _ _ => R.PWR.AUX_STAT.AUX33_LIM, fun _ _ _ => R.PWR.PWR_STAT.AUX18_OK, fun _ _ _
      => R.PWR.PWR_STAT.AUX33_OK])) ∧
    (∀ (mask : Nat) (t : Nat), s.leaves (.latchClear mask t) (May.of [.frc, .out, .tim] [fun _ _ _ =>
      R.LFM.LATCH_HI.ZONES, fun _ _ _ => R.LFM.LATCH_LO.ZONES, fun _ _ _ => R.LFM.LFM_STAT.BLIND, fun _ _ _ =>
      R.LFM.LFM_STAT.TILE_DARK, fun _ _ _ => R.LFM.LFM_STAT.ZONES, fun a _ _ => R.PG.EVT_PEND a, fun a _ _ =>
      R.PG.FAULT a, fun a _ _ => R.TIM.DOM_OFFSET.OFFSET a, fun a _ _ => R.TIM.DOM_RATE.RATE a, fun a _ _ =>
      R.ZON.ZONE_FAULTS.COUNT a])) ∧
    (∀ (ofs n v : Nat) (t : Nat), s.leaves (.faultMapWrite ofs n v t) (May.anyReg [.dram, .frc, .lfm, .line, .mem,
      .out, .tim])) ∧
    (∀ (c margin : Nat) (t : Nat), s.leaves (.trainDone c margin t) (May.anyReg [.clu, .cmp, .cor, .dep, .dram,
      .force, .frc, .fwu, .hkt, .ing, .klc, .lfm, .line, .map, .mbx, .mem, .otg, .out, .power, .que, .rai, .rdn,
      .role, .scn, .starts, .tim])) ∧
    (∀ (c : Nat) (t : Nat), s.leaves (.dramTrainTimeout c t) (May.anyReg [.clu, .cmp, .cor, .dep, .dram, .force, .frc,
      .fwu, .hkt, .ing, .klc, .lfm, .line, .map, .mbx, .mem, .otg, .out, .power, .que, .rai, .rdn, .role, .scn,
      .starts, .tim])) ∧
    (∀ (c : Nat) (t : Nat), s.leaves (.fillDone c t) (May.of [.frc, .mem, .out, .tim] [fun _ _ _ =>
      R.DEP.MODE_CHECK.DEP_PENDING, fun _ _ _ => R.DEP.MODE_CHECK.EPOCH_PENDING, fun _ _ _ => R.DEP.MODE_CHECK.FIELDS,
      fun _ _ _ => R.DEP.MODE_CHECK.RULE, fun _ _ _ => R.DEP.MODE_CHECK.VALID, fun _ _ _ => R.DEP.MODE_CTRL.FB_VALID,
      fun a _ _ => R.MEM.CH_CTRL.SR a, fun a _ _ => R.MEM.CH_STAT.FILLED a, fun a _ _ => R.MEM.CH_STAT.MIRROR_OK a,
      fun a _ _ => R.MEM.CH_STAT.STATE a, fun a _ _ => R.PG.EVT_PEND a, fun a _ _ => R.PG.FAULT a, fun a _ _ =>
      R.TIM.DOM_OFFSET.OFFSET a, fun a _ _ => R.TIM.DOM_RATE.RATE a])) ∧
    (∀ (c : Nat) (t : Nat), s.leaves (.resilverDone c t) (May.of [.dram, .frc, .mem, .out, .tim] [fun _ _ _ =>
      R.DEP.MODE_CHECK.DEP_PENDING, fun _ _ _ => R.DEP.MODE_CHECK.EPOCH_PENDING, fun _ _ _ => R.DEP.MODE_CHECK.FIELDS,
      fun _ _ _ => R.DEP.MODE_CHECK.RULE, fun _ _ _ => R.DEP.MODE_CHECK.VALID, fun _ _ _ => R.DEP.MODE_CTRL.FB_VALID,
      fun a _ _ => R.LOG.LOG_ADDR_LO.ADDR a, fun a _ _ => R.LOG.LOG_INFO.ADDR_HI a, fun a _ _ => R.LOG.LOG_INFO.ARRAY
      a, fun a _ _ => R.LOG.LOG_INFO.BYTES a, fun a _ _ => R.LOG.LOG_INFO.CHANNEL a, fun a _ _ => R.LOG.LOG_INFO.CODE
      a, fun a _ _ => R.LOG.LOG_INFO.PORT a, fun a _ _ => R.LOG.LOG_INFO.SRAM a, fun a _ _ => R.LOG.LOG_TIME_HI.NS a,
      fun a _ _ => R.LOG.LOG_TIME_LO.NS a, fun a _ _ => R.MEM.CH_STAT.FILLED a, fun a _ _ => R.MEM.CH_STAT.MIRROR_OK
      a, fun a _ _ => R.MEM.CH_STAT.STATE a, fun _ _ _ => R.PAR.DRAM_ERR_CNT.COUNT, fun _ _ _ => R.PAR.LOG_STAT.NEXT,
      fun _ _ _ => R.PAR.LOG_STAT.TOTAL, fun _ _ _ => R.PAR.LOG_STAT.WRAPPED, fun a _ _ => R.PG.ERR_ADDR_HI a, fun a _
      _ => R.PG.ERR_ADDR_LO a, fun a _ _ => R.PG.ERR_CODE a, fun a _ _ => R.PG.ERR_COUNT a, fun a _ _ =>
      R.PG.ERR_OVERFLOW a, fun a _ _ => R.PG.ERR_SOURCE a, fun a _ _ => R.PG.ERR_VALID a, fun a _ _ => R.PG.EVT_PEND
      a, fun a _ _ => R.PG.FAULT a, fun a _ _ => R.TIM.DOM_OFFSET.OFFSET a, fun a _ _ => R.TIM.DOM_RATE.RATE a])) ∧
    (∀ (c : Nat) (t : Nat), s.leaves (.retrainStart c t) (May.of [.frc, .mem, .tim] [fun a _ _ =>
      R.TIM.DOM_OFFSET.OFFSET a, fun a _ _ => R.TIM.DOM_RATE.RATE a])) ∧
    (∀ (c : Nat) (margin : Option Nat) (t : Nat), s.leaves (.retrainEnd c margin t) (May.of [.frc, .mem, .out, .tim]
      [fun a _ _ => R.MEM.CH_STAT.MARGIN a, fun a _ _ => R.MEM.CH_STAT.MIRROR_OK a, fun a _ _ => R.MEM.CH_STAT.STATE
      a, fun a _ _ => R.MEM.TRAIN_CNT.DONE a, fun a _ _ => R.MEM.TRAIN_CNT.FAILED a, fun a _ _ => R.PG.EVT_PEND a, fun
      a _ _ => R.TIM.DOM_OFFSET.OFFSET a, fun a _ _ => R.TIM.DOM_RATE.RATE a])) ∧
    (∀ (c : Nat) (t : Nat), s.leaves (.retrainNow c t) (May.of [.frc, .mem] [])) ∧
    (∀ (c : Nat) (t : Nat), s.leaves (.srEnter c t) (May.of [.frc, .mem, .out, .tim] [fun _ _ _ =>
      R.DEP.MODE_CHECK.DEP_PENDING, fun _ _ _ => R.DEP.MODE_CHECK.EPOCH_PENDING, fun _ _ _ => R.DEP.MODE_CHECK.FIELDS,
      fun _ _ _ => R.DEP.MODE_CHECK.RULE, fun _ _ _ => R.DEP.MODE_CHECK.VALID, fun _ _ _ => R.DEP.MODE_CTRL.FB_VALID,
      fun a _ _ => R.MEM.CH_CTRL.SR a, fun a _ _ => R.MEM.CH_STAT.STATE a, fun a _ _ => R.PG.ERR_ADDR_HI a, fun a _ _
      => R.PG.ERR_ADDR_LO a, fun a _ _ => R.PG.ERR_CODE a, fun a _ _ => R.PG.ERR_COUNT a, fun a _ _ =>
      R.PG.ERR_OVERFLOW a, fun a _ _ => R.PG.ERR_SOURCE a, fun a _ _ => R.PG.ERR_VALID a, fun a _ _ => R.PG.EVT_PEND
      a, fun a _ _ => R.PG.FAULT a, fun a _ _ => R.TIM.DOM_OFFSET.OFFSET a, fun a _ _ => R.TIM.DOM_RATE.RATE a])) ∧
    (∀ (c : Nat) (t : Nat), s.leaves (.srExit c t) (May.of [.frc, .mem, .out, .tim] [fun _ _ _ =>
      R.DEP.MODE_CHECK.DEP_PENDING, fun _ _ _ => R.DEP.MODE_CHECK.EPOCH_PENDING, fun _ _ _ => R.DEP.MODE_CHECK.FIELDS,
      fun _ _ _ => R.DEP.MODE_CHECK.RULE, fun _ _ _ => R.DEP.MODE_CHECK.VALID, fun _ _ _ => R.DEP.MODE_CTRL.FB_VALID,
      fun a _ _ => R.MEM.CH_CTRL.SR a, fun a _ _ => R.MEM.CH_STAT.FILLED a, fun a _ _ => R.MEM.CH_STAT.MIRROR_OK a,
      fun a _ _ => R.MEM.CH_STAT.STATE a, fun a _ _ => R.PG.EVT_PEND a, fun a _ _ => R.PG.FAULT a, fun a _ _ =>
      R.TIM.DOM_OFFSET.OFFSET a, fun a _ _ => R.TIM.DOM_RATE.RATE a])) ∧
    (∀ (c : Nat) (t : Nat), s.leaves (.offlineChannel c t) (May.of [.dram, .frc, .mem, .out, .tim] [fun _ _ _ =>
      R.DEP.MODE_CHECK.DEP_PENDING, fun _ _ _ => R.DEP.MODE_CHECK.EPOCH_PENDING, fun _ _ _ => R.DEP.MODE_CHECK.FIELDS,
      fun _ _ _ => R.DEP.MODE_CHECK.RULE, fun _ _ _ => R.DEP.MODE_CHECK.VALID, fun _ _ _ => R.DEP.MODE_CTRL.FB_VALID,
      fun a _ _ => R.MEM.CH_STAT.FILLED a, fun a _ _ => R.MEM.CH_STAT.MIRROR_OK a, fun a _ _ => R.MEM.CH_STAT.STATE a,
      fun a _ _ => R.PG.EVT_PEND a, fun a _ _ => R.PG.FAULT a, fun a _ _ => R.TIM.DOM_OFFSET.OFFSET a, fun a _ _ =>
      R.TIM.DOM_RATE.RATE a])) ∧
    (∀ (c : Nat) (t : Nat), s.leaves (.returnChannel c t) (May.of [.frc, .mem, .out, .tim] [fun _ _ _ =>
      R.DEP.MODE_CHECK.DEP_PENDING, fun _ _ _ => R.DEP.MODE_CHECK.EPOCH_PENDING, fun _ _ _ => R.DEP.MODE_CHECK.FIELDS,
      fun _ _ _ => R.DEP.MODE_CHECK.RULE, fun _ _ _ => R.DEP.MODE_CHECK.VALID, fun _ _ _ => R.DEP.MODE_CTRL.FB_VALID,
      fun a _ _ => R.MEM.CH_STAT.STATE a, fun a _ _ => R.PG.EVT_PEND a, fun a _ _ => R.PG.FAULT a, fun a _ _ =>
      R.TIM.DOM_OFFSET.OFFSET a, fun a _ _ => R.TIM.DOM_RATE.RATE a])) ∧
    (∀ (c : Nat) (t : Nat), s.leaves (.bistGo c t) (May.of [.dram, .frc, .mem, .out, .tim] [fun a _ _ =>
      R.MEM.BIST_STAT.RESULT a, fun a _ _ => R.MEM.CH_STAT.FILLED a, fun a _ _ => R.MEM.CH_STAT.MIRROR_OK a, fun a _ _
      => R.PG.ERR_ADDR_HI a, fun a _ _ => R.PG.ERR_ADDR_LO a, fun a _ _ => R.PG.ERR_CODE a, fun a _ _ =>
      R.PG.ERR_COUNT a, fun a _ _ => R.PG.ERR_OVERFLOW a, fun a _ _ => R.PG.ERR_SOURCE a, fun a _ _ => R.PG.ERR_VALID
      a, fun a _ _ => R.PG.EVT_PEND a, fun a _ _ => R.TIM.DOM_OFFSET.OFFSET a, fun a _ _ => R.TIM.DOM_RATE.RATE a])) ∧
    (∀ (c : Nat) (bad : Option Nat) (t : Nat), s.leaves (.bistDone c bad t) (May.of [.frc, .out] [fun _ _ _ =>
      R.DEP.MODE_CHECK.DEP_PENDING, fun _ _ _ => R.DEP.MODE_CHECK.EPOCH_PENDING, fun _ _ _ => R.DEP.MODE_CHECK.FIELDS,
      fun _ _ _ => R.DEP.MODE_CHECK.RULE, fun _ _ _ => R.DEP.MODE_CHECK.VALID, fun _ _ _ => R.DEP.MODE_CTRL.FB_VALID,
      fun a _ _ => R.MEM.BIST_STAT.RESULT a, fun a _ _ => R.MEM.CH_STAT.STATE a, fun a _ _ => R.PG.ERR_ADDR_HI a, fun
      a _ _ => R.PG.ERR_ADDR_LO a, fun a _ _ => R.PG.EVT_PEND a, fun a _ _ => R.PG.FAULT a])) ∧
    (∀ (port a n : Nat) (wr : Bool) (v flip0 flip1 lat : Nat) (fwd stall : Bool) (t : Nat), s.leaves (.dramAccess port
      a n wr v flip0 flip1 lat fwd stall t) (May.anyReg [.dram, .frc, .mem, .out, .tim])) ∧
    (∀ (b array ofs bytes loc : Nat) (pkt : Option (Nat × Nat × Nat)) (t : Nat), s.leaves (.sramParity b array ofs
      bytes loc pkt t) (May.of [.frc, .ing, .mem, .out, .tim] [fun a _ _ => R.LOG.LOG_ADDR_LO.ADDR a, fun a _ _ =>
      R.LOG.LOG_INFO.ADDR_HI a, fun a _ _ => R.LOG.LOG_INFO.ARRAY a, fun a _ _ => R.LOG.LOG_INFO.BYTES a, fun a _ _ =>
      R.LOG.LOG_INFO.CHANNEL a, fun a _ _ => R.LOG.LOG_INFO.CODE a, fun a _ _ => R.LOG.LOG_INFO.PORT a, fun a _ _ =>
      R.LOG.LOG_INFO.SRAM a, fun a _ _ => R.LOG.LOG_TIME_HI.NS a, fun a _ _ => R.LOG.LOG_TIME_LO.NS a, fun _ _ _ =>
      R.PAR.LOG_STAT.NEXT, fun _ _ _ => R.PAR.LOG_STAT.TOTAL, fun _ _ _ => R.PAR.LOG_STAT.WRAPPED, fun _ _ _ =>
      R.PAR.SRAM_ERR_CNT.COUNT, fun a _ _ => R.PG.ERR_ADDR_HI a, fun a _ _ => R.PG.ERR_ADDR_LO a, fun a _ _ =>
      R.PG.ERR_CODE a, fun a _ _ => R.PG.ERR_COUNT a, fun a _ _ => R.PG.ERR_OVERFLOW a, fun a _ _ => R.PG.ERR_SOURCE
      a, fun a _ _ => R.PG.ERR_VALID a, fun a _ _ => R.PG.EVT_PEND a, fun a _ _ => R.TIM.DOM_OFFSET.OFFSET a, fun a _
      _ => R.TIM.DOM_RATE.RATE a])) ∧
    (∀ (t : Nat), s.leaves (.patrolRead t) (May.anyReg [.dram, .frc, .mem, .out, .tim]))

/-- Frames of the host, tenant, relief, housekeeping and service commands. For every state in canonical form and every
  next state that a command of this group answers: each part of the state and each register field that the clause of
  the command does not name is what it was, what was sent before stays sent, the queue stays, and the canonical forms
  hold. A clause with anyReg names every register field: such a command writes a register that its operands choose,
  resets a page or the module, or commits staged values. Where the frame of a command includes a field of the model
  (log entries 5, 8 and 78), the clause names it. Rests on R74, R82. -/
def Obligations.HostAndServiceFrames : Prop :=
  ∀ s : State, s.Canon →
    (∀ (t : Nat), s.leaves (.patBadRead t) (May.of [.frc, .mem, .out] [fun _ _ _ => R.PAR.PAT_BAD.BANK, fun _ _ _ =>
      R.PAR.PAT_BAD.REGION, fun _ _ _ => R.PAR.PAT_BAD.VALID])) ∧
    (∀ (fn a n : Nat) (v : Option Nat) (t : Nat), s.leaves (.barAccess fn a n v t) (May.anyReg [.clu, .cmp, .cor,
      .dep, .dram, .force, .frc, .fwu, .hkt, .ing, .klc, .lfm, .line, .map, .mbx, .mem, .otg, .out, .power, .que,
      .rai, .rdn, .role, .scn, .starts, .tim])) ∧
    (∀ (fn q tail t : Nat), s.leaves (.doorbell fn q tail t) (May.of [.frc, .out, .que, .tim] [fun a _ _ =>
      R.PG.ERR_ADDR_HI a, fun a _ _ => R.PG.ERR_ADDR_LO a, fun a _ _ => R.PG.ERR_CODE a, fun a _ _ => R.PG.ERR_COUNT
      a, fun a _ _ => R.PG.ERR_OVERFLOW a, fun a _ _ => R.PG.ERR_SOURCE a, fun a _ _ => R.PG.ERR_VALID a, fun a _ _ =>
      R.PG.EVT_PEND a, fun a _ _ => R.QCX.Q_CTRL.EN a, fun a _ _ => R.QCX.Q_CTRL.ERROR a, fun a _ _ =>
      R.QCX.Q_ERR.CAUSE a, fun a _ _ => R.QCX.Q_ERR.IDX a, fun a _ _ => R.QCX.Q_TAIL.IDX a, fun _ _ _ =>
      R.QUE.QUE_STAT.ENABLED, fun a _ _ => R.TEN.DB_DENY.COUNT a, fun a _ _ => R.TIM.DOM_OFFSET.OFFSET a, fun a _ _ =>
      R.TIM.DOM_RATE.RATE a])) ∧
    (∀ (q : Nat) (bytes : List (BitVec 8)) (poison failed : Bool) (t : Nat), s.leaves (.descriptorFetch q bytes poison
      failed t) (May.of [.frc, .line, .out, .que, .tim] [fun a _ _ => R.PG.ERR_ADDR_HI a, fun a _ _ =>
      R.PG.ERR_ADDR_LO a, fun a _ _ => R.PG.ERR_CODE a, fun a _ _ => R.PG.ERR_COUNT a, fun a _ _ => R.PG.ERR_OVERFLOW
      a, fun a _ _ => R.PG.ERR_SOURCE a, fun a _ _ => R.PG.ERR_VALID a, fun a _ _ => R.PG.EVT_PEND a, fun a _ _ =>
      R.PG.POISON_SEEN a, fun a _ _ => R.QCX.Q_CTRL.EN a, fun a _ _ => R.QCX.Q_CTRL.ERROR a, fun a _ _ =>
      R.QCX.Q_CTRL.IDLE a, fun a _ _ => R.QCX.Q_DONE_CNT.COUNT a, fun a _ _ => R.QCX.Q_ERR.CAUSE a, fun a _ _ =>
      R.QCX.Q_ERR.IDX a, fun a _ _ => R.QCX.Q_FETCH.IDX a, fun a _ _ => R.QCX.Q_HEAD.IDX a, fun a _ _ =>
      R.QCX.Q_INFLIGHT.COUNT a, fun a _ _ => R.QCX.Q_STALL_CNT.COUNT a, fun _ _ _ => R.QUE.DESC_ERR.COUNT, fun _ _ _
      => R.QUE.INFLIGHT.COUNT, fun _ _ _ => R.QUE.QUE_STAT.ENABLED, fun _ _ _ => R.QUE.STALL_Q.COUNT, fun a _ _ =>
      R.TEN.REVOKED_CNT.COUNT a, fun a _ _ => R.TIM.DOM_OFFSET.OFFSET a, fun a _ _ => R.TIM.DOM_RATE.RATE a])) ∧
    (∀ (q idx t : Nat), s.leaves (.tileRegRead q idx t) (May.anyReg [.clu, .cmp, .cor, .dep, .dram, .force, .frc,
      .fwu, .hkt, .ing, .klc, .lfm, .line, .map, .mbx, .mem, .otg, .out, .power, .que, .rai, .rdn, .role, .scn,
      .starts, .tim])) ∧
    (∀ (q idx t : Nat), s.leaves (.tileRegWrite q idx t) (May.anyReg [.clu, .cmp, .cor, .dep, .dram, .force, .frc,
      .fwu, .hkt, .ing, .klc, .lfm, .line, .map, .mbx, .mem, .otg, .out, .power, .que, .rai, .rdn, .role, .scn,
      .starts, .tim])) ∧
    (∀ (q idx t : Nat), s.leaves (.tileRegWriteMasked q idx t) (May.anyReg [.clu, .cmp, .cor, .dep, .dram, .force,
      .frc, .fwu, .hkt, .ing, .klc, .lfm, .line, .map, .mbx, .mem, .otg, .out, .power, .que, .rai, .rdn, .role, .scn,
      .starts, .tim])) ∧
    (∀ (q idx t : Nat), s.leaves (.tileRegPing q idx t) (May.anyReg [.clu, .cmp, .cor, .dep, .dram, .force, .frc,
      .fwu, .hkt, .ing, .klc, .lfm, .line, .map, .mbx, .mem, .otg, .out, .power, .que, .rai, .rdn, .role, .scn,
      .starts, .tim])) ∧
    (∀ (q idx t : Nat), s.leaves (.layerRead q idx t) (May.anyReg [.clu, .cmp, .cor, .dep, .dram, .force, .frc, .fwu,
      .hkt, .ing, .klc, .lfm, .line, .map, .mbx, .mem, .otg, .out, .power, .que, .rai, .rdn, .role, .scn, .starts,
      .tim])) ∧
    (∀ (q idx t : Nat), s.leaves (.layerWrite q idx t) (May.anyReg [.clu, .cmp, .cor, .dep, .dram, .force, .frc, .fwu,
      .hkt, .ing, .klc, .lfm, .line, .map, .mbx, .mem, .otg, .out, .power, .que, .rai, .rdn, .role, .scn, .starts,
      .tim])) ∧
    (∀ (q idx t : Nat), s.leaves (.layerWriteMasked q idx t) (May.anyReg [.clu, .cmp, .cor, .dep, .dram, .force, .frc,
      .fwu, .hkt, .ing, .klc, .lfm, .line, .map, .mbx, .mem, .otg, .out, .power, .que, .rai, .rdn, .role, .scn,
      .starts, .tim])) ∧
    (∀ (q idx t : Nat), s.leaves (.cardWrite q idx t) (May.anyReg [.clu, .cmp, .cor, .dep, .dram, .force, .frc, .fwu,
      .hkt, .ing, .klc, .lfm, .line, .map, .mbx, .mem, .otg, .out, .power, .que, .rai, .rdn, .role, .scn, .starts,
      .tim])) ∧
    (∀ (q idx : Nat) (data : List (BitVec 8)) (bad : Option Nat) (t : Nat), s.leaves (.cardCopy q idx data bad t)
      (May.anyReg [.clu, .cmp, .cor, .dep, .dram, .force, .frc, .fwu, .hkt, .ing, .klc, .lfm, .line, .map, .mbx, .mem,
      .otg, .out, .power, .que, .rai, .rdn, .role, .scn, .starts, .tim])) ∧
    (∀ (q idx : Nat) (data : List (BitVec 8)) (bad : Bool) (t : Nat), s.leaves (.upload q idx data bad t) (May.anyReg
      [.clu, .cmp, .cor, .dep, .dram, .force, .frc, .fwu, .hkt, .ing, .klc, .lfm, .line, .map, .mbx, .mem, .otg, .out,
      .power, .que, .rai, .rdn, .role, .scn, .starts, .tim])) ∧
    (∀ (q idx t : Nat), s.leaves (.departWrite q idx t) (May.anyReg [.clu, .cmp, .cor, .dep, .dram, .force, .frc,
      .fwu, .hkt, .ing, .klc, .lfm, .line, .map, .mbx, .mem, .otg, .out, .power, .que, .rai, .rdn, .role, .scn,
      .starts, .tim])) ∧
    (∀ (q idx t : Nat), s.leaves (.departCancel q idx t) (May.anyReg [.clu, .cmp, .cor, .dep, .dram, .force, .frc,
      .fwu, .hkt, .ing, .klc, .lfm, .line, .map, .mbx, .mem, .otg, .out, .power, .que, .rai, .rdn, .role, .scn,
      .starts, .tim])) ∧
    (∀ (q t : Nat), s.leaves (.queueDisable q t) (May.of [.frc, .line, .out, .que, .tim] [fun a _ _ =>
      R.PG.ERR_ADDR_HI a, fun a _ _ => R.PG.ERR_ADDR_LO a, fun a _ _ => R.PG.ERR_CODE a, fun a _ _ => R.PG.ERR_COUNT
      a, fun a _ _ => R.PG.ERR_OVERFLOW a, fun a _ _ => R.PG.ERR_SOURCE a, fun a _ _ => R.PG.ERR_VALID a, fun a _ _ =>
      R.PG.EVT_PEND a, fun a _ _ => R.PG.POISON_SEEN a, fun a _ _ => R.QCX.Q_CTRL.EN a, fun a _ _ => R.QCX.Q_CTRL.IDLE
      a, fun a _ _ => R.QCX.Q_DONE_CNT.COUNT a, fun a _ _ => R.QCX.Q_HEAD.IDX a, fun a _ _ => R.QCX.Q_INFLIGHT.COUNT
      a, fun _ _ _ => R.QUE.DESC_ERR.COUNT, fun _ _ _ => R.QUE.INFLIGHT.COUNT, fun _ _ _ => R.QUE.QUE_STAT.ENABLED,
      fun a _ _ => R.TEN.REVOKED_CNT.COUNT a, fun a _ _ => R.TIM.DOM_OFFSET.OFFSET a, fun a _ _ => R.TIM.DOM_RATE.RATE
      a])) ∧
    (∀ (t : Nat), s.leaves (.ruleCommit t) (May.anyReg [.frc, .klc, .out, .tim])) ∧
    (∀ (t : Nat), s.leaves (.ruleDone t) (May.of [.frc, .out, .tim] [fun a _ _ => R.PG.EVT_PEND a, fun _ _ _ =>
      R.TEN.RULE_STAT.DRAINING, fun _ _ _ => R.TEN.RULE_STAT.OLD, fun a _ _ => R.TIM.DOM_OFFSET.OFFSET a, fun a _ _ =>
      R.TIM.DOM_RATE.RATE a])) ∧
    (∀ (f t : Nat), s.leaves (.flr f t) (May.of [.frc, .klc, .line, .mbx, .out, .que, .tim] [fun a b _ =>
      R.MBX.M_STAT.PEER_RESET a b, fun a b _ => R.MBX.M_STAT.RX_COUNT a b, fun a b _ => R.MBX.M_STAT.RX_POISON a b,
      fun a b _ => R.MBX.M_STAT.TX_INFLIGHT a b, fun a b c => R.MBX.RX.DATA a b c, fun a _ _ => R.PG.EVT_PEND a, fun a
      _ _ => R.QCX.Q_CTRL.EN a, fun a _ _ => R.QCX.Q_CTRL.IDLE a, fun a _ _ => R.QCX.Q_FETCH.IDX a, fun a _ _ =>
      R.QCX.Q_HEAD.IDX a, fun a _ _ => R.QCX.Q_INFLIGHT.COUNT a, fun a _ _ => R.QCX.Q_TAIL.IDX a, fun _ _ _ =>
      R.QUE.INFLIGHT.COUNT, fun _ _ _ => R.QUE.QUE_STAT.ENABLED, fun a _ _ => R.TIM.DOM_OFFSET.OFFSET a, fun a _ _ =>
      R.TIM.DOM_RATE.RATE a])) ∧
    (∀ (t : Nat), s.leaves (.perstN t) (May.of [.frc, .klc, .line, .mbx, .out, .que, .tim] [fun a b _ =>
      R.MBX.M_STAT.PEER_RESET a b, fun a b _ => R.MBX.M_STAT.RX_COUNT a b, fun a b _ => R.MBX.M_STAT.RX_POISON a b,
      fun a b _ => R.MBX.M_STAT.TX_INFLIGHT a b, fun a b c => R.MBX.RX.DATA a b c, fun a _ _ => R.PG.EVT_PEND a, fun a
      _ _ => R.QCX.Q_CTRL.EN a, fun a _ _ => R.QCX.Q_CTRL.IDLE a, fun a _ _ => R.QCX.Q_FETCH.IDX a, fun a _ _ =>
      R.QCX.Q_HEAD.IDX a, fun a _ _ => R.QCX.Q_INFLIGHT.COUNT a, fun a _ _ => R.QCX.Q_TAIL.IDX a, fun _ _ _ =>
      R.QUE.INFLIGHT.COUNT, fun _ _ _ => R.QUE.QUE_STAT.ENABLED, fun a _ _ => R.TIM.DOM_OFFSET.OFFSET a, fun a _ _ =>
      R.TIM.DOM_RATE.RATE a])) ∧
    (∀ (c k : Nat) (t : Nat), s.leaves (.sendMessage c k t) (May.of [.frc, .line, .mbx, .out, .tim] [fun a b _ =>
      R.MBX.M_REFUSED.COUNT a b, fun a b _ => R.MBX.M_STAT.RX_COUNT a b, fun a b _ => R.MBX.M_STAT.RX_POISON a b, fun
      a b _ => R.MBX.M_STAT.TX_FULL a b, fun a b _ => R.MBX.M_STAT.TX_INFLIGHT a b, fun a b c => R.MBX.RX.DATA a b c,
      fun a _ _ => R.PG.EVT_PEND a, fun a _ _ => R.TIM.DOM_OFFSET.OFFSET a, fun a _ _ => R.TIM.DOM_RATE.RATE a])) ∧
    (∀ (c k : Nat) (t : Nat), s.leaves (.popMessage c k t) (May.of [.dram, .frc, .mbx, .mem, .out, .tim] [fun a _ _ =>
      R.LOG.LOG_ADDR_LO.ADDR a, fun a _ _ => R.LOG.LOG_INFO.ADDR_HI a, fun a _ _ => R.LOG.LOG_INFO.ARRAY a, fun a _ _
      => R.LOG.LOG_INFO.BYTES a, fun a _ _ => R.LOG.LOG_INFO.CHANNEL a, fun a _ _ => R.LOG.LOG_INFO.CODE a, fun a _ _
      => R.LOG.LOG_INFO.PORT a, fun a _ _ => R.LOG.LOG_INFO.SRAM a, fun a _ _ => R.LOG.LOG_TIME_HI.NS a, fun a _ _ =>
      R.LOG.LOG_TIME_LO.NS a, fun a b _ => R.MBX.M_REFUSED.COUNT a b, fun a b _ => R.MBX.M_STAT.RX_COUNT a b, fun a b
      _ => R.MBX.M_STAT.RX_POISON a b, fun a b _ => R.MBX.M_STAT.TX_FULL a b, fun a b _ => R.MBX.M_STAT.TX_INFLIGHT a
      b, fun a b c => R.MBX.RX.DATA a b c, fun a _ _ => R.MEM.CH_STAT.FILLED a, fun a _ _ => R.MEM.CH_STAT.MIRROR_OK
      a, fun a _ _ => R.MEM.CH_STAT.STATE a, fun _ _ _ => R.PAR.DRAM_ERR_CNT.COUNT, fun _ _ _ => R.PAR.LOG_STAT.NEXT,
      fun _ _ _ => R.PAR.LOG_STAT.TOTAL, fun _ _ _ => R.PAR.LOG_STAT.WRAPPED, fun _ _ _ => R.PAR.MIRROR_FIX_CNT.COUNT,
      fun a _ _ => R.PG.ERR_ADDR_HI a, fun a _ _ => R.PG.ERR_ADDR_LO a, fun a _ _ => R.PG.ERR_CODE a, fun a _ _ =>
      R.PG.ERR_COUNT a, fun a _ _ => R.PG.ERR_OVERFLOW a, fun a _ _ => R.PG.ERR_SOURCE a, fun a _ _ => R.PG.ERR_VALID
      a, fun a _ _ => R.PG.EVT_PEND a, fun a _ _ => R.TIM.DOM_OFFSET.OFFSET a, fun a _ _ => R.TIM.DOM_RATE.RATE a])) ∧
    (∀ (c k : Nat) (t : Nat), s.leaves (.mailboxTimeout c k t) (May.of [.frc, .out] [fun a b _ => R.MBX.M_STAT.TIMEOUT
      a b, fun a _ _ => R.PG.EVT_PEND a])) ∧
    (∀ (id target retries t : Nat), s.leaves (.testGo id target retries t) (May.anyReg [.cor, .dep, .dram, .frc, .fwu,
      .hkt, .lfm, .line, .mem, .out, .que, .rai, .rdn, .scn, .tim])) ∧
    (∀ (result detail t : Nat), s.leaves (.testDone result detail t) (May.anyReg [.cor, .dep, .dram, .frc, .fwu, .hkt,
      .lfm, .line, .mem, .out, .que, .rai, .rdn, .scn, .tim])) ∧
    (∀ (t : Nat), s.leaves (.testResume t) (May.anyReg [.cor, .dep, .dram, .frc, .fwu, .hkt, .lfm, .line, .mem, .out,
      .que, .rai, .rdn, .scn, .tim])) ∧
    (∀ (t : Nat), s.leaves (.leadWaitEnd t) (May.of [.frc, .rdn] [fun _ _ _ => R.RDN.RDN_STAT.STATE])) ∧
    (∀ (p : Nat) (t : Nat), s.leaves (.streamGap p t) (May.anyReg [.cor, .dram, .frc, .lfm, .line, .mem, .out, .rai,
      .rdn, .scn, .tim])) ∧
    (∀ (t : Nat), s.leaves (.handover t) (May.of [.frc, .out, .rdn] [fun a _ _ => R.PG.ERR_ADDR_HI a, fun a _ _ =>
      R.PG.ERR_ADDR_LO a, fun a _ _ => R.PG.ERR_CODE a, fun a _ _ => R.PG.ERR_COUNT a, fun a _ _ => R.PG.ERR_OVERFLOW
      a, fun a _ _ => R.PG.ERR_SOURCE a, fun a _ _ => R.PG.ERR_VALID a, fun a _ _ => R.PG.EVT_PEND a])) ∧
    (∀ (t : Nat), s.leaves (.resyncRelief t) (May.of [.frc, .rdn] [fun _ _ _ => R.RDN.RDN_STAT.STATE])) ∧
    (∀ (r : ClusterRec) (t : Nat), s.leaves (.clusterState r t) (May.of [.clu, .dep, .frc, .line, .out, .tim] [fun _ _
      _ => R.CLU.CLU_STAT.LEVEL, fun _ _ _ => R.CLU.CLU_STAT.MASTER_LOST, fun _ _ _ => R.CLU.CLU_STAT.PHASE, fun _ _ _
      => R.CLU.CONFLICT.COUNT, fun _ _ _ => R.CLU.EPOCH_PEND.EPOCH, fun _ _ _ => R.DEP.DEP_STAT.ARMED, fun _ _ _ =>
      R.DEP.DEP_STAT.NEXT_IDX, fun _ _ _ => R.DEP.ENT_STATUS.STATE, fun a _ _ => R.LNE.INFLIGHT.COUNT a, fun a _ _ =>
      R.LNE.STALL_CNT.COUNT a, fun a _ _ => R.LNK.PORT_CTRL.LEVEL_MAX a, fun a _ _ => R.PG.EVT_PEND a, fun a _ _ =>
      R.TIM.DOM_OFFSET.OFFSET a, fun a _ _ => R.TIM.DOM_RATE.RATE a])) ∧
    (∀ (t : Nat), s.leaves (.epochRequest t) (May.of [.clu, .frc, .out] [fun _ _ _ => R.CLU.CLU_STAT.PHASE, fun _ _ _
      => R.CLU.EPOCH_PEND.EPOCH, fun a _ _ => R.PG.ERR_ADDR_HI a, fun a _ _ => R.PG.ERR_ADDR_LO a, fun a _ _ =>
      R.PG.ERR_CODE a, fun a _ _ => R.PG.ERR_COUNT a, fun a _ _ => R.PG.ERR_OVERFLOW a, fun a _ _ => R.PG.ERR_SOURCE
      a, fun a _ _ => R.PG.ERR_VALID a, fun a _ _ => R.PG.EVT_PEND a])) ∧
    (∀ (t : Nat), s.leaves (.epochCancel t) (May.of [.clu, .dep, .frc, .line, .out, .tim] [fun _ _ _ =>
      R.CLU.CLU_STAT.PHASE, fun _ _ _ => R.CLU.EPOCH_PEND.EPOCH, fun _ _ _ => R.DEP.DEP_STAT.ARMED, fun _ _ _ =>
      R.DEP.DEP_STAT.NEXT_IDX, fun _ _ _ => R.DEP.ENT_STATUS.STATE, fun a _ _ => R.LNE.INFLIGHT.COUNT a, fun a _ _ =>
      R.LNE.STALL_CNT.COUNT a, fun a _ _ => R.PG.EVT_PEND a, fun a _ _ => R.TIM.DOM_OFFSET.OFFSET a, fun a _ _ =>
      R.TIM.DOM_RATE.RATE a])) ∧
    (∀ (t : Nat), s.leaves (.masterLost t) (May.of [.clu, .frc, .out] [fun _ _ _ => R.CLU.CLU_STAT.MASTER_LOST, fun _
      _ _ => R.CLU.CLU_STAT.PHASE, fun _ _ _ => R.CLU.EPOCH_PEND.EPOCH, fun a _ _ => R.PG.EVT_PEND a])) ∧
    (∀ (raw : List Int) (vb : Nat) (t : Nat), s.leaves (.roundDone raw vb t) (May.anyReg [.cor, .dep, .dram, .frc,
      .fwu, .hkt, .lfm, .line, .mbx, .mem, .out, .que, .rai, .rdn, .scn, .tim])) ∧
    (∀ (t : Nat), s.leaves (.graceEnd t) (May.of [.frc, .hkt, .mbx, .out, .tim] [fun _ _ _ =>
      R.HKT.HKT_STAT.THR_STATE, fun a b _ => R.MBX.M_REFUSED.COUNT a b, fun a b _ => R.MBX.M_STAT.RX_COUNT a b, fun a
      b _ => R.MBX.M_STAT.RX_POISON a b, fun a b _ => R.MBX.M_STAT.TX_FULL a b, fun a b _ => R.MBX.M_STAT.TX_INFLIGHT
      a b, fun a b c => R.MBX.RX.DATA a b c, fun a _ _ => R.PG.EVT_PEND a, fun a _ _ => R.TIM.DOM_OFFSET.OFFSET a, fun
      a _ _ => R.TIM.DOM_RATE.RATE a])) ∧
    (∀ (t : Nat), s.leaves (.enforceNow t) (May.of [.frc, .hkt, .mbx, .out, .tim] [fun _ _ _ =>
      R.HKT.HKT_STAT.THR_STATE, fun a b _ => R.MBX.M_REFUSED.COUNT a b, fun a b _ => R.MBX.M_STAT.RX_COUNT a b, fun a
      b _ => R.MBX.M_STAT.RX_POISON a b, fun a b _ => R.MBX.M_STAT.TX_FULL a b, fun a b _ => R.MBX.M_STAT.TX_INFLIGHT
      a b, fun a b c => R.MBX.RX.DATA a b c, fun a _ _ => R.PG.EVT_PEND a, fun a _ _ => R.TIM.DOM_OFFSET.OFFSET a, fun
      a _ _ => R.TIM.DOM_RATE.RATE a])) ∧
    (∀ (t : Nat), s.leaves (.engDivStep t) (May.of [.frc, .hkt] [])) ∧
    (∀ (mask : Nat) (t : Nat), s.leaves (.brokenClear mask t) (May.of [.frc, .hkt] [fun a _ _ => R.HCH.CH_VAL.BROKEN
      a, fun _ _ _ => R.HKT.BROKEN_HI.CHANS, fun _ _ _ => R.HKT.BROKEN_LO.CHANS])) ∧
    (∀ (t : Nat), s.leaves (.calRun t) (May.of [.frc] [fun _ _ _ => R.CAL.CAL_STAT.BUSY])) ∧
    (∀ (ref gnd : Int) (t : Nat), s.leaves (.fieldDone ref gnd t) (May.of [.frc, .out] [fun _ _ _ =>
      R.CAL.CAL_STAT.BUSY, fun _ _ _ => R.CAL.CAL_STAT.RESULT, fun a _ _ => R.CAL.TRIM_FIELD.CODE a, fun a _ _ =>
      R.PG.ERR_ADDR_HI a, fun a _ _ => R.PG.ERR_ADDR_LO a, fun a _ _ => R.PG.ERR_CODE a, fun a _ _ => R.PG.ERR_COUNT
      a, fun a _ _ => R.PG.ERR_OVERFLOW a, fun a _ _ => R.PG.ERR_SOURCE a, fun a _ _ => R.PG.ERR_VALID a, fun a _ _ =>
      R.PG.EVT_PEND a])) ∧
    (∀ (t : Nat), s.leaves (.confirmMc t) (May.of [.frc, .fwu] [fun a _ _ => R.SLT.SLOT_STAT.STATE a, fun a _ _ =>
      R.SLT.SLOT_STAT.TRIALS a])) ∧
    (∀ (t : Nat), s.leaves (.confirmLc t) (May.of [.frc, .fwu] [fun a _ _ => R.SLT.SLOT_STAT.STATE a, fun a _ _ =>
      R.SLT.SLOT_STAT.TRIALS a])) ∧
    (∀ (cpu t : Nat), s.leaves (.confirmWindowEnd cpu t) (May.anyReg [.clu, .cmp, .cor, .dep, .dram, .force, .frc,
      .fwu, .hkt, .ing, .klc, .lfm, .line, .map, .mbx, .mem, .otg, .out, .power, .que, .rai, .rdn, .role, .scn,
      .starts, .tim])) ∧
    (∀ (secure : Bool) (t : Nat), s.leaves (.rbCommit secure t) (May.of [.frc, .out] [fun _ _ _ =>
      R.FWU.ROLLBACK.COUNT, fun a _ _ => R.PG.ERR_ADDR_HI a, fun a _ _ => R.PG.ERR_ADDR_LO a, fun a _ _ =>
      R.PG.ERR_CODE a, fun a _ _ => R.PG.ERR_COUNT a, fun a _ _ => R.PG.ERR_OVERFLOW a, fun a _ _ => R.PG.ERR_SOURCE
      a, fun a _ _ => R.PG.ERR_VALID a, fun a _ _ => R.PG.EVT_PEND a])) ∧
    (∀ (k : Nat) (t : Nat), s.leaves (.checkDone k t) (May.of [.frc, .fwu, .line, .out] [fun a _ _ => R.PG.ERR_ADDR_HI
      a, fun a _ _ => R.PG.ERR_ADDR_LO a, fun a _ _ => R.PG.ERR_CODE a, fun a _ _ => R.PG.ERR_COUNT a, fun a _ _ =>
      R.PG.ERR_OVERFLOW a, fun a _ _ => R.PG.ERR_SOURCE a, fun a _ _ => R.PG.ERR_VALID a, fun a _ _ => R.PG.EVT_PEND
      a, fun a _ _ => R.SLT.SLOT_PEER.PEER_MAX a, fun a _ _ => R.SLT.SLOT_PEER.PEER_MIN a, fun a _ _ =>
      R.SLT.SLOT_STAT.COMPAT a, fun a _ _ => R.SLT.SLOT_STAT.RB_INDEX a, fun a _ _ => R.SLT.SLOT_STAT.RESULT a, fun a
      _ _ => R.SLT.SLOT_STAT.STATE a, fun a _ _ => R.SLT.SLOT_VER.VERSION a])) ∧
    (∀ (f : SvpFrame) (t : Nat), s.leaves (.serviceFrame f t) (May.of [.frc, .out, .tim] [fun a _ _ =>
      R.LNE.MSG_UNKNOWN.COUNT a, fun a _ _ => R.PG.EVT_PEND a, fun _ _ _ => R.SVP.RX_DGRAM.COUNT, fun _ _ _ =>
      R.SVP.RX_DROP.COUNT, fun _ _ _ => R.SVP.TX_DGRAM.COUNT, fun a _ _ => R.TIM.DOM_OFFSET.OFFSET a, fun a _ _ =>
      R.TIM.DOM_RATE.RATE a])) ∧
    (∀ (t : Nat), s.leaves (.svpLinkUp t) (May.of [.frc, .out] [fun a _ _ => R.PG.EVT_PEND a, fun _ _ _ =>
      R.SVP.SVP_STAT.AN_DONE, fun _ _ _ => R.SVP.SVP_STAT.LINK_UP])) ∧
    (∀ (t : Nat), s.leaves (.svpLinkDown t) (May.of [.frc, .out] [fun a _ _ => R.PG.EVT_PEND a, fun _ _ _ =>
      R.SVP.SVP_STAT.AN_DONE, fun _ _ _ => R.SVP.SVP_STAT.LINK_UP])) ∧
    (∀ (d : Dgram) (t : Nat), s.leaves (.regRead d t) (May.anyReg [.clu, .cmp, .cor, .dep, .dram, .force, .frc, .fwu,
      .hkt, .ing, .klc, .lfm, .line, .map, .mbx, .mem, .otg, .out, .power, .que, .rai, .rdn, .role, .scn, .starts,
      .tim])) ∧
    (∀ (d : Dgram) (t : Nat), s.leaves (.regWrite d t) (May.anyReg [.clu, .cmp, .cor, .dep, .dram, .force, .frc, .fwu,
      .hkt, .ing, .klc, .lfm, .line, .map, .mbx, .mem, .otg, .out, .power, .que, .rai, .rdn, .role, .scn, .starts,
      .tim])) ∧
    (∀ (d : Dgram) (t : Nat), s.leaves (.slotOpen d t) (May.of [.frc, .fwu, .line, .out, .tim] [fun _ _ _ =>
      R.FWU.SESSION.ID, fun _ _ _ => R.FWU.SESSION.PURPOSE, fun _ _ _ => R.FWU.SESSION.SLOT, fun _ _ _ =>
      R.FWU.SESS_BYTES.BYTES, fun a _ _ => R.PG.ERR_ADDR_HI a, fun a _ _ => R.PG.ERR_ADDR_LO a, fun a _ _ =>
      R.PG.ERR_CODE a, fun a _ _ => R.PG.ERR_COUNT a, fun a _ _ => R.PG.ERR_OVERFLOW a, fun a _ _ => R.PG.ERR_SOURCE
      a, fun a _ _ => R.PG.ERR_VALID a, fun a _ _ => R.PG.EVT_PEND a, fun a _ _ => R.SLT.SLOT_GEN.GEN a, fun a _ _ =>
      R.SLT.SLOT_STAT.RESULT a, fun a _ _ => R.SLT.SLOT_STAT.STATE a, fun a _ _ => R.SLT.SLOT_STAT.TRIALS a, fun _ _ _
      => R.SVP.RX_DGRAM.COUNT, fun _ _ _ => R.SVP.RX_DROP.COUNT, fun _ _ _ => R.SVP.TX_DGRAM.COUNT, fun a _ _ =>
      R.TIM.DOM_OFFSET.OFFSET a, fun a _ _ => R.TIM.DOM_RATE.RATE a])) ∧
    (∀ (d : Dgram) (full : Bool) (t : Nat), s.leaves (.slotData d full t) (May.of [.frc, .fwu, .line, .out, .tim] [fun
      _ _ _ => R.FWU.SESS_BYTES.BYTES, fun a _ _ => R.PG.EVT_PEND a, fun _ _ _ => R.SVP.RX_DGRAM.COUNT, fun _ _ _ =>
      R.SVP.RX_DROP.COUNT, fun _ _ _ => R.SVP.TX_DGRAM.COUNT, fun a _ _ => R.TIM.DOM_OFFSET.OFFSET a, fun a _ _ =>
      R.TIM.DOM_RATE.RATE a])) ∧
    (∀ (d : Dgram) (t : Nat), s.leaves (.slotClose d t) (May.of [.frc, .fwu, .line, .out, .tim] [fun _ _ _ =>
      R.FWU.SESSION.ID, fun _ _ _ => R.FWU.SESSION.PURPOSE, fun _ _ _ => R.FWU.SESSION.SLOT, fun _ _ _ =>
      R.FWU.SESS_BYTES.BYTES, fun a _ _ => R.PG.EVT_PEND a, fun a _ _ => R.SLT.SLOT_STAT.STATE a, fun _ _ _ =>
      R.SVP.RX_DGRAM.COUNT, fun _ _ _ => R.SVP.RX_DROP.COUNT, fun _ _ _ => R.SVP.TX_DGRAM.COUNT, fun a _ _ =>
      R.TIM.DOM_OFFSET.OFFSET a, fun a _ _ => R.TIM.DOM_RATE.RATE a])) ∧
    (∀ (d : Dgram) (t : Nat), s.leaves (.mbx d t) (May.of [.frc, .line, .mbx, .out, .tim] [fun a b _ =>
      R.MBX.M_REFUSED.COUNT a b, fun a b _ => R.MBX.M_STAT.RX_COUNT a b, fun a b _ => R.MBX.M_STAT.RX_POISON a b, fun
      a b _ => R.MBX.M_STAT.TX_FULL a b, fun a b _ => R.MBX.M_STAT.TX_INFLIGHT a b, fun a b c => R.MBX.RX.DATA a b c,
      fun a _ _ => R.PG.EVT_PEND a, fun _ _ _ => R.SVP.RX_DGRAM.COUNT, fun _ _ _ => R.SVP.RX_DROP.COUNT, fun _ _ _ =>
      R.SVP.TX_DGRAM.COUNT, fun a _ _ => R.TIM.DOM_OFFSET.OFFSET a, fun a _ _ => R.TIM.DOM_RATE.RATE a])) ∧
    (∀ (d : Dgram) (t : Nat), s.leaves (.keyRevoke d t) (May.of [.frc, .out] [fun _ _ _ => R.FWU.KEYS.REVOKED, fun a _
      _ => R.PG.EVT_PEND a, fun _ _ _ => R.SVP.RX_DGRAM.COUNT, fun _ _ _ => R.SVP.RX_DROP.COUNT, fun _ _ _ =>
      R.SVP.TX_DGRAM.COUNT])) ∧
    (∀ (t : Nat), s.leaves (.sessionTimeout t) (May.of [.frc, .fwu, .line, .out, .tim] [fun _ _ _ => R.FWU.SESSION.ID,
      fun _ _ _ => R.FWU.SESSION.PURPOSE, fun _ _ _ => R.FWU.SESSION.SLOT, fun _ _ _ => R.FWU.SESS_BYTES.BYTES, fun a
      _ _ => R.PG.EVT_PEND a, fun a _ _ => R.SLT.SLOT_STAT.STATE a, fun a _ _ => R.TIM.DOM_OFFSET.OFFSET a, fun a _ _
      => R.TIM.DOM_RATE.RATE a])) ∧
    (∀ (t : Nat), s.leaves (.rowSelectEdge t) (May.of [.frc, .out, .scn] [fun a _ _ => R.PG.EVT_PEND a, fun _ _ _ =>
      R.SCN.LOAD_LATE_CNT.COUNT, fun _ _ _ => R.SCN.SCN_STAT.ROW, fun _ _ _ => R.SCN.SCN_STAT.SEG]))
end

