-- ==== Sys2Proof/Laws/Memory.lean ====
section
/-!
SUPPORT. Keyed lists and byte memories: a read after a write gives the value written, a write leaves every other place
alone, and every operation keeps the canonical form.
-/
namespace Sys2Proof.Machine

theorem lookupD_low (l : List (Nat × Nat)) (d j : Nat) (h : ∀ e ∈ l, j < e.1) : lookupD l j d = d := by
  cases l with
  | nil => rfl
  | cons a r =>
    have := h a (by simp)
    obtain ⟨b, v⟩ := a
    simp only [lookupD]
    rw [if_neg (by simp at this; omega), if_pos (by simpa using this)]

theorem lookupD_putD (l : List (Nat × Nat)) (k v d j : Nat) (h : keysRise l) :
    lookupD (putD l k v d) j d = if j = k then v else lookupD l j d := by
  induction l with
  | nil =>
    simp only [putD, lookupD]
    split
    · simp [lookupD, *]
    · simp only [lookupD]
      by_cases hj : k = j
      · simp [hj]
      · simp [hj, Ne.symm hj]
  | cons a r ih =>
    obtain ⟨b, w⟩ := a
    have hr : keysRise r := (List.pairwise_cons.1 h).2
    have ha : ∀ e ∈ r, b < e.1 := (List.pairwise_cons.1 h).1
    simp only [putD]
    split
    · rename_i hk
      split
      · simp only [lookupD]; split_ifs <;> simp_all
      · simp only [lookupD]; split_ifs <;> first | rfl | omega
    · split
      · rename_i hk hk2
        subst hk2
        split
        · rename_i hv
          by_cases hj : j = b
          · subst hj; rw [lookupD_low r d j ha, if_pos rfl, hv]
          · rw [if_neg hj]; simp only [lookupD]; rw [if_neg (Ne.symm hj)]
            split
            · exact lookupD_low r d j (fun e he => lt_trans ‹_› (ha e he))
            · rfl
        · simp only [lookupD]; split_ifs <;> first | rfl | omega
      · rename_i hk hk2
        simp only [lookupD, ih hr]; split_ifs <;> first | rfl | omega

theorem readB_low (d : Nat → Byte) (m : List Host.Cell) (a : Nat) (h : ∀ c ∈ m, a < c.1) : readB d m a = d a := by
  cases m with
  | nil => rfl
  | cons c r =>
    have := h c (by simp)
    obtain ⟨b, v⟩ := c
    simp only [readB]
    rw [if_neg (by simp at this; omega), if_pos (by simpa using this)]

theorem readB_writeB (d : Nat → Byte) (m : List Host.Cell) (a : Nat) (v : Byte) (x : Nat) (h : m.Pairwise (fun a b => a.1 < b.1)) :
    readB d (writeB d m a v) x = if x = a then v else readB d m x := by
  induction m with
  | nil =>
    simp only [writeB, readB]
    split
    · by_cases hx : x = a
      · simp_all [readB]
      · simp [readB, hx]
    · simp only [readB]
      by_cases hx : a = x
      · simp [hx]
      · simp [hx, Ne.symm hx]
  | cons c r ih =>
    obtain ⟨b, w⟩ := c
    have hr := (List.pairwise_cons.1 h).2
    have ha : ∀ e ∈ r, b < e.1 := (List.pairwise_cons.1 h).1
    simp only [writeB]
    split
    · rename_i hk
      split
      · simp only [readB]; split_ifs <;> simp_all
      · simp only [readB]; split_ifs <;> first | rfl | omega
    · split
      · rename_i hk hk2
        subst hk2
        split
        · rename_i hv
          by_cases hx : x = b
          · subst hx; rw [readB_low d r x ha, if_pos rfl, hv]
          · rw [if_neg hx]; simp only [readB]; rw [if_neg (Ne.symm hx)]
            split
            · exact readB_low d r x (fun e he => lt_trans ‹_› (ha e he))
            · rfl
        · simp only [readB]; split_ifs <;> first | rfl | omega
      · rename_i hk hk2
        simp only [readB, ih hr]; split_ifs <;> first | rfl | omega

theorem writeB_mem {d : Nat → Byte} {m : List Host.Cell} {a : Nat} {v : Byte} :
    ∀ c ∈ writeB d m a v, c ∈ m ∨ (c = (a, v) ∧ v ≠ d a) := by
  induction m with
  | nil => intro c; simp only [writeB]; split <;> simp_all
  | cons e r ih =>
    obtain ⟨b, w⟩ := e
    intro c hc
    simp only [writeB] at hc
    split_ifs at hc with h1 h2 h3 h4
    · exact .inl hc
    · rcases List.mem_cons.1 hc with h | h
      · exact .inr ⟨h, h2⟩
      · exact .inl h
    · exact .inl (List.mem_cons_of_mem _ hc)
    · rcases List.mem_cons.1 hc with h | h
      · exact .inr ⟨h, h4⟩
      · exact .inl (List.mem_cons_of_mem _ h)
    · rcases List.mem_cons.1 hc with h | h
      · exact .inl (h ▸ List.mem_cons_self)
      · rcases ih c h with h | h
        · exact .inl (List.mem_cons_of_mem _ h)
        · exact .inr h

theorem writeB_wf {d : Nat → Byte} {m : List Host.Cell} {a : Nat} {v : Byte} (h : Memory.wf d m) :
    Memory.wf d (writeB d m a v) := by
  constructor
  · obtain ⟨hm, -⟩ := h
    induction m with
    | nil => simp only [writeB]; split <;> simp
    | cons e r ih =>
      obtain ⟨b, w⟩ := e
      have hr := (List.pairwise_cons.1 hm).2
      have ha : ∀ c ∈ r, b < c.1 := (List.pairwise_cons.1 hm).1
      simp only [writeB]
      split_ifs with h1 h2 h3 h4
      · exact hm
      · refine List.pairwise_cons.2 ⟨fun c hc => ?_, hm⟩
        rcases List.mem_cons.1 hc with rfl | hc
        · exact h1
        · exact lt_trans h1 (ha c hc)
      · exact hr
      · exact List.pairwise_cons.2 ⟨fun c hc => h3 ▸ ha c hc, hr⟩
      · refine List.pairwise_cons.2 ⟨fun c hc => ?_, ih hr⟩
        rcases writeB_mem c hc with hc | ⟨rfl, -⟩
        · exact ha c hc
        · show b < a; omega
  · intro c hc
    rcases writeB_mem c hc with hc | ⟨rfl, hv⟩
    · exact h.2 c hc
    · exact hv

theorem writeLE_wf {d : Nat → Byte} {m : List Host.Cell} {a n v : Nat} (h : Memory.wf d m) :
    Memory.wf d (writeLE d m a n v) := by
  induction n generalizing m a v with
  | zero => exact h
  | succ n ih => exact ih (writeB_wf h)

theorem writeBytes_wf {d : Nat → Byte} {m : List Host.Cell} {a : Nat} {l : List Byte} (h : Memory.wf d m) :
    Memory.wf d (writeBytes d m a l) := by
  induction l generalizing m a with
  | nil => exact h
  | cons b r ih => exact ih (writeB_wf h)

theorem readB_writeBytes (d : Nat → Byte) (m : List Host.Cell) (a : Nat) (l : List Byte) (x : Nat) (h : Memory.wf d m)
    (hx : x < a ∨ a + l.length ≤ x) : readB d (writeBytes d m a l) x = readB d m x := by
  induction l generalizing m a with
  | nil => rfl
  | cons b r ih =>
    simp only [List.length_cons] at hx
    rw [writeBytes, ih _ _ (writeB_wf h) (by omega), readB_writeB _ _ _ _ _ h.1, if_neg (by omega)]

theorem readB_writeBytes_at (d : Nat → Byte) (m : List Host.Cell) (a : Nat) (l : List Byte) (k : Nat) (h : Memory.wf d m)
    (hk : k < l.length) : readB d (writeBytes d m a l) (a + k) = l[k] := by
  induction l generalizing m a k with
  | nil => simp at hk
  | cons b r ih =>
    cases k with
    | zero => rw [writeBytes, readB_writeBytes _ _ _ _ _ (writeB_wf h) (by omega), readB_writeB _ _ _ _ _ h.1]; simp
    | succ k =>
      have := ih (writeB d m a b) (a + 1) k (writeB_wf h) (by simpa using hk)
      rw [writeBytes, show a + (k + 1) = a + 1 + k by omega, this]; simp

theorem filter_wf {d : Nat → Byte} {m : List Host.Cell} (p : Host.Cell → Bool) (h : Memory.wf d m) : Memory.wf d (m.filter p) :=
  ⟨List.Pairwise.filter p h.1, fun c hc => h.2 c (List.mem_of_mem_filter hc)⟩

end Sys2Proof.Machine
end

