-- ==== Sys2Proof/Laws/Keeps.lean ====
section
/-!
SUPPORT. What may change (`State.Keeps`), and how a proof that a function changes nothing else goes through updates of the
state, lets, pairs and folds.
-/
namespace Sys2Proof.Machine

theorem putD_mem {l : List (Nat × Nat)} {k v d : Nat} : ∀ e ∈ putD l k v d, e ∈ l ∨ e.1 = k := by
  induction l with
  | nil => intro e; unfold putD; split <;> simp_all
  | cons a r ih =>
    intro e; unfold putD
    split
    · split <;> simp_all
      rintro (h | h | h) <;> simp_all
    · split
      · split <;> simp_all
        · rintro (h | h) <;> simp_all
      · simp only [List.mem_cons]; rintro (h | h)
        · simp [h]
        · rcases ih e h with h | h <;> simp [h]

theorem putD_rise {l : List (Nat × Nat)} {k v d : Nat} (h : keysRise l) : keysRise (putD l k v d) := by
  induction l with
  | nil => unfold putD; split <;> simp [keysRise]
  | cons a r ih =>
    have hr : keysRise r := (List.pairwise_cons.1 h).2
    have ha := (List.pairwise_cons.1 h).1
    unfold putD
    split
    · rename_i hk
      split
      · exact h
      · refine List.pairwise_cons.2 ⟨?_, h⟩
        intro e he
        rcases List.mem_cons.1 he with rfl | he
        · exact hk
        · exact lt_trans hk (ha e he)
    · split
      · rename_i hk hk2
        split
        · exact hr
        · refine List.pairwise_cons.2 ⟨?_, hr⟩
          intro e he; have := ha e he; simp_all
      · rename_i hk hk2
        refine List.pairwise_cons.2 ⟨?_, ih hr⟩
        intro e he
        rcases putD_mem e he with he | he
        · exact ha e he
        · show a.1 < e.1; omega

theorem rise_filter {l : List (Nat × Nat)} (p : Nat × Nat → Bool) (h : keysRise l) : keysRise (l.filter p) :=
  List.Pairwise.filter p h

theorem State.get_set_self {s : State} {f : Fld} {v : Nat} (h : s.regsOk) : (s.set f v).get f = v % 2 ^ f.width := by
  unfold State.get State.set; rw [lookupD_putD _ _ _ _ _ h, if_pos rfl]

theorem State.get_set_ne {s : State} {f g : Fld} {v : Nat} (h : s.regsOk) (hk : g.key ≠ f.key) : (s.set f v).get g = s.get g := by
  have aux : ∀ (l : List (Nat × Nat)) (d : Nat), keysRise l →
      lookupD (putD l f.key (v % 2 ^ f.width) f.rst) g.key d = lookupD l g.key d := by
    intro l d hl
    induction l with
    | nil =>
      simp only [putD]
      split
      · rfl
      · simp only [lookupD]; rw [if_neg (Ne.symm hk)]; split <;> rfl
    | cons a r ih =>
      obtain ⟨b, w⟩ := a
      have hr : keysRise r := (List.pairwise_cons.1 hl).2
      have ha : ∀ e ∈ r, b < e.1 := (List.pairwise_cons.1 hl).1
      simp only [putD]
      split
      · split
        · rfl
        · simp only [lookupD]; split_ifs <;> first | rfl | omega
      · split
        · rename_i h1 h2
          subst h2
          split
          · simp only [lookupD]; rw [if_neg (Ne.symm hk)]
            split
            · exact lookupD_low r d g.key fun e he => lt_trans ‹_› (ha e he)
            · rfl
          · simp only [lookupD]; rw [if_neg (Ne.symm hk), if_neg (Ne.symm hk)]
        · simp only [lookupD, ih hr]
  exact aux s.regs g.rst h

/-- `Keeps` of a state that an update builds. -/
def State.Built (s : State) (k : May) (q : State) : Prop := s.Keeps k q

namespace Keep

variable {k : May} {q s : State} {β γ : Type}

theorem use {P : Prop} (h : s.Keeps k q) (f : s.Keeps k q → P) : P := f h
theorem usePair {p : State × β} {P : Prop} (h : p.1.Keeps k q) (f : p.1.Keeps k q → P) : P := f h
theorem memSt {P : Prop} {x : MemSt} (f : P) : P := f
theorem depSt {P : Prop} {x : DepSt} (f : P) : P := f

theorem fst {p : State × β} {a : State} {b : β} (h : p = (a, b)) (hp : p.1.Keeps k q) : a.Keeps k q := by subst h; exact hp

theorem foldl_of {α β : Type} {P : α → Prop} {f : α → β → α} {l : List β} {a : α} (h : P a) (hf : ∀ a x, P a → P (f a x)) :
    P (l.foldl f a) := by
  induction l generalizing a with
  | nil => exact h
  | cons x r ih => exact ih (hf a x h)

theorem foldr_of {α β : Type} {P : α → Prop} {f : β → α → α} {l : List β} {a : α} (h : P a) (hf : ∀ x a, P a → P (f x a)) :
    P (l.foldr f a) := by
  induction l with
  | nil => exact h
  | cons x r ih => exact hf x _ ih

theorem foldl {f : State → β → State} {l : List β} (h : s.Keeps k q) (hf : ∀ a x, a.Keeps k q → (f a x).Keeps k q) :
    (l.foldl f s).Keeps k q :=
  foldl_of (P := fun a => State.Keeps a k q) h hf
theorem foldr {f : β → State → State} {l : List β} (h : s.Keeps k q) (hf : ∀ x a, a.Keeps k q → (f x a).Keeps k q) :
    (l.foldr f s).Keeps k q :=
  foldr_of (P := fun a => State.Keeps a k q) h hf
theorem foldl1 {f : State × γ → β → State × γ} {l : List β} {p : State × γ} (h : p.1.Keeps k q)
    (hf : ∀ a x, a.1.Keeps k q → (f a x).1.Keeps k q) : (l.foldl f p).1.Keeps k q :=
  foldl_of (P := fun (a : State × γ) => a.1.Keeps k q) h hf

theorem ite {c : Prop} [Decidable c] {a b : State} (ha : a.Keeps k q) (hb : b.Keeps k q) : (if c then a else b).Keeps k q := by
  split
  · exact ha
  · exact hb
theorem ite1 {c : Prop} [Decidable c] {a b : State × β} (ha : a.1.Keeps k q) (hb : b.1.Keeps k q) :
    (if c then a else b).1.Keeps k q := by
  split
  · exact ha
  · exact hb

/-- A state keeps itself. -/
theorem refl (h : s.Canon) : s.Keeps k s :=
  ⟨h.1, h.2.1, h.2.2, rfl, List.prefix_rfl, le_rfl, fun p => .inr (by cases p <;> simp [State.samePart]), fun _ => .inr rfl⟩

theorem canon (h : s.Keeps k q) : s.Canon := ⟨h.1, h.2, h.3⟩

theorem mk_iff {k : May} {q : State} {pending power' role' frc' regs' force' fresh' out' tim' dep' ing' map' cmp' otg' mem' scn' cor' rai' lfm' hkt' line' rdn' clu' que' mbx' klc' fwu'} :
    (State.mk pending power' role' frc' regs' force' fresh' out' tim' dep' ing' map' cmp' otg' mem' scn' cor' rai' lfm' hkt' line' rdn' clu' que' mbx' klc' fwu').Keeps k q ↔ (State.mk pending power' role' frc' regs' force' fresh' out' tim' dep' ing' map' cmp' otg' mem' scn' cor' rai' lfm' hkt' line' rdn' clu' que' mbx' klc' fwu').Built k q := Iff.rfl

/-- An update of the state keeps what it does not name. -/
theorem upd {k : May} {s q : State} {pending power' role' frc' regs' force' fresh' out' tim' dep' ing' map' cmp' otg' mem' scn' cor' rai' lfm' hkt' line' rdn' clu' que' mbx' klc' fwu'} (h : s.Keeps k q) (hp : pending = s.pending)
    (c : (power' = s.power ∨ k.part .power) ∧ (role' = s.role ∨ k.part .role) ∧ (frc' = s.frc ∨ k.part .frc) ∧ (tim' = s.tim ∨ k.part .tim) ∧ (ing' = s.ing ∨ k.part .ing) ∧ (map' = s.map ∨ k.part .map) ∧ (cmp' = s.cmp ∨ k.part .cmp) ∧ (otg' = s.otg ∨ k.part .otg) ∧ (scn' = s.scn ∨ k.part .scn) ∧ (cor' = s.cor ∨ k.part .cor) ∧ (rai' = s.rai ∨ k.part .rai) ∧ (lfm' = s.lfm ∨ k.part .lfm) ∧ (hkt' = s.hkt ∨ k.part .hkt) ∧ (line' = s.line ∨ k.part .line) ∧ (rdn' = s.rdn ∨ k.part .rdn) ∧ (clu' = s.clu ∨ k.part .clu) ∧ (que' = s.que ∨ k.part .que) ∧ (mbx' = s.mbx ∨ k.part .mbx) ∧ (klc' = s.klc ∨ k.part .klc) ∧ (fwu' = s.fwu ∨ k.part .fwu) ∧ (dep' = s.dep ∨ k.part .dep) ∧ (dep'.last = s.dep.last ∧ dep'.next = s.dep.next ∧ dep'.loaded = s.dep.loaded ∨ k.part .starts) ∧ (mem' = s.mem ∨ k.part .mem) ∧ (mem'.dram = s.mem.dram ∨ (k.part .dram ∧ (Memory.wf zeroB s.mem.dram → Memory.wf zeroB mem'.dram))) ∧ (force' = s.force ∨ (k.part .force ∧ (keysRise s.force → keysRise force'))) ∧ (regs' = s.regs ∨ ((∀ f, k.fld f) ∧ (keysRise s.regs → keysRise regs'))) ∧ (out' = s.out ∨ (k.part .out ∧ s.out <+: out')) ∧ s.fresh ≤ fresh') :
    (State.mk pending power' role' frc' regs' force' fresh' out' tim' dep' ing' map' cmp' otg' mem' scn' cor' rai' lfm' hkt' line' rdn' clu' que' mbx' klc' fwu').Built k q := by
  subst hp
  obtain ⟨cpower, crole, cfrc, ctim, cing, cmap, ccmp, cotg, cscn, ccor, crai, clfm, chkt, cline, crdn, cclu, cque, cmbx, cklc, cfwu, cdep, cst, cmem, cdram, cforce, cregs, cout, cfresh⟩ := c
  refine State.Keeps.mk ?_ ?_ ?_ h.pending  ?_ ?_ ?_ ?_
  · rcases cregs with e | e
    · show keysRise regs'
      rw [e]; exact h.regs
    · exact e.2 h.regs
  · rcases cforce with e | e
    · show keysRise force'
      rw [e]; exact h.force
    · exact e.2 h.force
  · rcases cdram with e | e
    · show Memory.wf zeroB mem'.dram
      rw [e]; exact h.dram
    · exact e.2 h.dram
  · rcases cout with e | e
    · show q.out <+: out'
      rw [e]; exact h.out
    · exact h.out.trans e.2
  · exact le_trans h.fresh cfresh
  · intro p
    rcases h.part p with hk | hk
    · exact .inl hk
    cases p
    · exact crole.elim (fun e => .inr (e.trans hk)) .inl
    · exact cpower.elim (fun e => .inr (e.trans hk)) .inl
    · exact cfrc.elim (fun e => .inr (e.trans hk)) .inl
    · exact cforce.elim (fun e => .inr (e.trans hk)) fun e => .inl e.1
    · exact cout.elim (fun e => .inr (e.trans hk)) fun e => .inl e.1
    · exact ctim.elim (fun e => .inr (e.trans hk)) .inl
    · exact cdep.elim (fun e => .inr (e.trans hk)) .inl
    · exact cst.elim (fun e => .inr ⟨e.1.trans hk.1, e.2.1.trans hk.2.1, e.2.2.trans hk.2.2⟩) .inl
    · exact cing.elim (fun e => .inr (e.trans hk)) .inl
    · exact cmap.elim (fun e => .inr (e.trans hk)) .inl
    · exact ccmp.elim (fun e => .inr (e.trans hk)) .inl
    · exact cotg.elim (fun e => .inr (e.trans hk)) .inl
    · exact cmem.elim (fun e => .inr (e.trans hk)) .inl
    · exact cdram.elim (fun e => .inr (e.trans hk)) fun e => .inl e.1
    · exact cscn.elim (fun e => .inr (e.trans hk)) .inl
    · exact ccor.elim (fun e => .inr (e.trans hk)) .inl
    · exact crai.elim (fun e => .inr (e.trans hk)) .inl
    · exact clfm.elim (fun e => .inr (e.trans hk)) .inl
    · exact chkt.elim (fun e => .inr (e.trans hk)) .inl
    · exact cline.elim (fun e => .inr (e.trans hk)) .inl
    · exact crdn.elim (fun e => .inr (e.trans hk)) .inl
    · exact cclu.elim (fun e => .inr (e.trans hk)) .inl
    · exact cque.elim (fun e => .inr (e.trans hk)) .inl
    · exact cmbx.elim (fun e => .inr (e.trans hk)) .inl
    · exact cklc.elim (fun e => .inr (e.trans hk)) .inl
    · exact cfwu.elim (fun e => .inr (e.trans hk)) .inl
  · intro f
    rcases cregs with e | e
    · subst e; exact h.fld f
    · exact .inl ⟨f, e.1 f, rfl⟩

end Keep

variable {k : May} {q : State}

theorem State.set_good (s : State) (f : Fld) (v : Nat) (hf : k.fld f) (h : s.Keeps k q) : (s.set f v).Keeps k q := by
  refine ⟨putD_rise h.1, h.2, h.3, h.4, h.5, h.6, h.7, fun g => ?_⟩
  by_cases e : g.key = f.key
  · exact .inl ⟨f, hf, e⟩
  · rw [State.get_set_ne h.1 e]; exact h.8 g

theorem State.setCur_good (s : State) (f : Fld) (v : Nat) (force : k.part .force) (h : s.Keeps k q) : (s.setCur f v).Keeps k q :=
  Keep.mk_iff.2 <| Keep.upd h rfl (by and_intros <;> first | exact .inl rfl | exact .inl ⟨rfl, rfl, rfl⟩ | exact .inr ⟨force, putD_rise⟩ | exact Nat.le_refl _)

theorem State.emit_good (s : State) (o : Out) (out : k.part .out) (h : s.Keeps k q) : (s.emit o).Keeps k q :=
  Keep.mk_iff.2 <| Keep.upd h rfl (by and_intros <;> first | exact .inl rfl | exact .inl ⟨rfl, rfl, rfl⟩ | exact .inr ⟨out, List.prefix_append _ _⟩ | exact Nat.le_refl _)

theorem State.draw_good (s : State) (h : s.Keeps k q) : s.draw.Keeps k q :=
  Keep.mk_iff.2 <| Keep.upd h rfl (by and_intros <;> first | exact .inl rfl | exact .inl ⟨rfl, rfl, rfl⟩ | exact Nat.le_succ _)

theorem State.drawN_good (s : State) (n : Nat) (h : s.Keeps k q) : (s.drawN n).Keeps k q :=
  Keep.mk_iff.2 <| Keep.upd h rfl (by and_intros <;> first | exact .inl rfl | exact .inl ⟨rfl, rfl, rfl⟩ | exact Nat.le_add_right _ _)

theorem State.tick_good (s : State) (t : Nat) (frc : k.part .frc) (h : s.Keeps k q) : (s.tick t).Keeps k q :=
  Keep.mk_iff.2 <| Keep.upd h rfl (by and_intros <;> first | exact .inl rfl | exact .inl ⟨rfl, rfl, rfl⟩ | exact .inr frc | exact Nat.le_refl _)

end Sys2Proof.Machine
end

