-- ==== Sys2Proof/Laws/KeepsOps.lean ====
section
/-!
SUPPORT. Every function of Machine/Ops.lean changes what the hypotheses of its lemma name, and nothing else.
-/
namespace Sys2Proof.Machine
set_option Elab.async false
set_option linter.unusedVariables false
set_option linter.unusedTactic false
set_option linter.unreachableTactic false

variable {km : May} {pq : State}



theorem State.setI_good (s : State) (f : Fld) (v : Int) (hf : km.fld f) (hs : s.Keeps km pq) : (State.setI s f v).Keeps km pq := by
  unfold State.setI
  repeat' first
    | with_reducible assumption
    | (intro _)
    | with_reducible apply State.set_good

theorem State.count_good (s : State) (f : Fld) (n : Nat) (hf : km.fld f) (hs : s.Keeps km pq) : (State.count s f n).Keeps km pq := by
  unfold State.count
  repeat' first
    | with_reducible assumption
    | (intro _)
    | with_reducible apply State.set_good

theorem State.set64_good (s : State) (lo hi : Fld) (v : Nat) (hlo : km.fld lo) (hhi : km.fld hi) (hs : s.Keeps km pq)
    : (State.set64 s lo hi v).Keeps km pq := by
  unfold State.set64
  repeat' first
    | with_reducible assumption
    | (intro _)
    | with_reducible apply State.set_good


theorem State.signalSide_good (out : km.part .out) (s : State) (b g : Nat) (hs : s.Keeps km pq) : (State.signalSide s b g).Keeps km pq := by
  unfold State.signalSide
  repeat' first
    | with_reducible assumption
    | (intro _)
    | with_reducible apply Keep.ite
    | with_reducible apply State.emit_good

theorem State.pendBits_good (out : km.part .out) (hPG_EVT_PEND : ∀ a, km.fld (R.PG.EVT_PEND a)) (s : State)
    (b m : Nat) (hs : s.Keeps km pq) : (State.pendBits s b m).Keeps km pq := by
  unfold State.pendBits
  repeat' first
    | with_reducible assumption
    | with_reducible exact hPG_EVT_PEND _
    | ((try lift_lets -underBinder); intro x; refine Keep.use (k := km) (q := pq) (s := x) ?_ ?_; (on_goal 1 => dsimp -zeta only [x]); (on_goal 2 => clear_value x; intro _))
    | ((try lift_lets -underBinder); intro x; refine Keep.usePair (k := km) (q := pq) (p := x) ?_ ?_; (on_goal 1 => dsimp -zeta only [x]); (on_goal 2 => clear_value x; intro _))
    | ((try lift_lets -underBinder); intro x; refine Keep.memSt (x := x) ?_; subst x)
    | ((try lift_lets -underBinder); intro x; refine Keep.depSt (x := x) ?_; subst x)
    | ((try lift_lets -underBinder); intro x; clear_value x)
    | (intro _)
    | with_reducible apply Keep.ite
    | with_reducible apply State.set_good
    | with_reducible apply State.signalSide_good
    | with_reducible apply Keep.foldl

theorem State.ev_good (out : km.part .out) (hPG_EVT_PEND : ∀ a, km.fld (R.PG.EVT_PEND a)) (s : State) (b k : Nat)
    (hs : s.Keeps km pq) : (State.ev s b k).Keeps km pq := by
  unfold State.ev
  repeat' first
    | with_reducible assumption
    | with_reducible exact hPG_EVT_PEND _
    | (intro _)
    | with_reducible apply Keep.ite
    | with_reducible apply State.pendBits_good

theorem State.evIf_good (out : km.part .out) (hPG_EVT_PEND : ∀ a, km.fld (R.PG.EVT_PEND a)) (s : State) (c : Bool)
    (b k : Nat) (hs : s.Keeps km pq) : (State.evIf s c b k).Keeps km pq := by
  unfold State.evIf
  repeat' first
    | with_reducible assumption
    | with_reducible exact hPG_EVT_PEND _
    | (intro _)
    | with_reducible apply Keep.ite
    | with_reducible apply State.ev_good

theorem State.err_good (out : km.part .out) (hPG_ERR_ADDR_HI : ∀ a, km.fld (R.PG.ERR_ADDR_HI a))
    (hPG_ERR_ADDR_LO : ∀ a, km.fld (R.PG.ERR_ADDR_LO a)) (hPG_ERR_CODE : ∀ a, km.fld (R.PG.ERR_CODE a))
    (hPG_ERR_COUNT : ∀ a, km.fld (R.PG.ERR_COUNT a)) (hPG_ERR_OVERFLOW : ∀ a, km.fld (R.PG.ERR_OVERFLOW a))
    (hPG_ERR_SOURCE : ∀ a, km.fld (R.PG.ERR_SOURCE a)) (hPG_ERR_VALID : ∀ a, km.fld (R.PG.ERR_VALID a))
    (hPG_EVT_PEND : ∀ a, km.fld (R.PG.EVT_PEND a)) (s : State) (b code source addr : Nat) (hs : s.Keeps km pq) : (State.err s b code source addr).Keeps km pq := by
  unfold State.err
  repeat' first
    | with_reducible assumption
    | with_reducible exact hPG_ERR_ADDR_HI _
    | with_reducible exact hPG_ERR_ADDR_LO _
    | with_reducible exact hPG_ERR_CODE _
    | with_reducible exact hPG_ERR_COUNT _
    | with_reducible exact hPG_ERR_OVERFLOW _
    | with_reducible exact hPG_ERR_SOURCE _
    | with_reducible exact hPG_ERR_VALID _
    | with_reducible exact hPG_EVT_PEND _
    | ((try lift_lets -underBinder); intro x; refine Keep.use (k := km) (q := pq) (s := x) ?_ ?_; (on_goal 1 => dsimp -zeta only [x]); (on_goal 2 => clear_value x; intro _))
    | ((try lift_lets -underBinder); intro x; refine Keep.usePair (k := km) (q := pq) (p := x) ?_ ?_; (on_goal 1 => dsimp -zeta only [x]); (on_goal 2 => clear_value x; intro _))
    | ((try lift_lets -underBinder); intro x; refine Keep.memSt (x := x) ?_; subst x)
    | ((try lift_lets -underBinder); intro x; refine Keep.depSt (x := x) ?_; subst x)
    | ((try lift_lets -underBinder); intro x; clear_value x)
    | (intro _)
    | with_reducible apply Keep.ite
    | with_reducible apply State.set_good
    | with_reducible apply State.set64_good
    | with_reducible apply State.ev_good

theorem State.errClear_good (hPG_ERR_ADDR_HI : ∀ a, km.fld (R.PG.ERR_ADDR_HI a))
    (hPG_ERR_ADDR_LO : ∀ a, km.fld (R.PG.ERR_ADDR_LO a)) (hPG_ERR_CODE : ∀ a, km.fld (R.PG.ERR_CODE a))
    (hPG_ERR_COUNT : ∀ a, km.fld (R.PG.ERR_COUNT a)) (hPG_ERR_OVERFLOW : ∀ a, km.fld (R.PG.ERR_OVERFLOW a))
    (hPG_ERR_SOURCE : ∀ a, km.fld (R.PG.ERR_SOURCE a)) (hPG_ERR_VALID : ∀ a, km.fld (R.PG.ERR_VALID a)) (s : State)
    (b : Nat) (hs : s.Keeps km pq) : (State.errClear s b).Keeps km pq := by
  unfold State.errClear
  repeat' first
    | with_reducible assumption
    | with_reducible exact hPG_ERR_ADDR_HI _
    | with_reducible exact hPG_ERR_ADDR_LO _
    | with_reducible exact hPG_ERR_CODE _
    | with_reducible exact hPG_ERR_COUNT _
    | with_reducible exact hPG_ERR_OVERFLOW _
    | with_reducible exact hPG_ERR_SOURCE _
    | with_reducible exact hPG_ERR_VALID _
    | ((try lift_lets -underBinder); intro x; refine Keep.use (k := km) (q := pq) (s := x) ?_ ?_; (on_goal 1 => dsimp -zeta only [x]); (on_goal 2 => clear_value x; intro _))
    | ((try lift_lets -underBinder); intro x; refine Keep.usePair (k := km) (q := pq) (p := x) ?_ ?_; (on_goal 1 => dsimp -zeta only [x]); (on_goal 2 => clear_value x; intro _))
    | ((try lift_lets -underBinder); intro x; refine Keep.memSt (x := x) ?_; subst x)
    | ((try lift_lets -underBinder); intro x; refine Keep.depSt (x := x) ?_; subst x)
    | ((try lift_lets -underBinder); intro x; clear_value x)
    | (intro _)
    | with_reducible apply State.set_good
    | with_reducible apply State.set64_good

theorem State.fault_good (out : km.part .out) (hPG_EVT_PEND : ∀ a, km.fld (R.PG.EVT_PEND a))
    (hPG_FAULT : ∀ a, km.fld (R.PG.FAULT a)) (s : State) (b : Nat) (c : Bool) (hs : s.Keeps km pq) : (State.fault s b c).Keeps km pq := by
  unfold State.fault
  repeat' first
    | with_reducible assumption
    | with_reducible exact hPG_EVT_PEND _
    | with_reducible exact hPG_FAULT _
    | ((try lift_lets -underBinder); intro x; refine Keep.use (k := km) (q := pq) (s := x) ?_ ?_; (on_goal 1 => dsimp -zeta only [x]); (on_goal 2 => clear_value x; intro _))
    | ((try lift_lets -underBinder); intro x; refine Keep.usePair (k := km) (q := pq) (p := x) ?_ ?_; (on_goal 1 => dsimp -zeta only [x]); (on_goal 2 => clear_value x; intro _))
    | ((try lift_lets -underBinder); intro x; refine Keep.memSt (x := x) ?_; subst x)
    | ((try lift_lets -underBinder); intro x; refine Keep.depSt (x := x) ?_; subst x)
    | ((try lift_lets -underBinder); intro x; clear_value x)
    | (intro _)
    | with_reducible apply State.set_good
    | with_reducible apply State.evIf_good

theorem State.poison_good (out : km.part .out) (line : km.part .line)
    (hPG_ERR_ADDR_HI : ∀ a, km.fld (R.PG.ERR_ADDR_HI a)) (hPG_ERR_ADDR_LO : ∀ a, km.fld (R.PG.ERR_ADDR_LO a))
    (hPG_ERR_CODE : ∀ a, km.fld (R.PG.ERR_CODE a)) (hPG_ERR_COUNT : ∀ a, km.fld (R.PG.ERR_COUNT a))
    (hPG_ERR_OVERFLOW : ∀ a, km.fld (R.PG.ERR_OVERFLOW a)) (hPG_ERR_SOURCE : ∀ a, km.fld (R.PG.ERR_SOURCE a))
    (hPG_ERR_VALID : ∀ a, km.fld (R.PG.ERR_VALID a)) (hPG_EVT_PEND : ∀ a, km.fld (R.PG.EVT_PEND a))
    (hPG_POISON_SEEN : ∀ a, km.fld (R.PG.POISON_SEEN a)) (s : State) (b source addr : Nat) (hs : s.Keeps km pq) : (State.poison s b source addr).Keeps km pq := by
  unfold State.poison
  repeat' first
    | with_reducible assumption
    | with_reducible exact hPG_ERR_ADDR_HI _
    | with_reducible exact hPG_ERR_ADDR_LO _
    | with_reducible exact hPG_ERR_CODE _
    | with_reducible exact hPG_ERR_COUNT _
    | with_reducible exact hPG_ERR_OVERFLOW _
    | with_reducible exact hPG_ERR_SOURCE _
    | with_reducible exact hPG_ERR_VALID _
    | with_reducible exact hPG_EVT_PEND _
    | with_reducible exact hPG_POISON_SEEN _
    | ((try lift_lets -underBinder); intro x; refine Keep.use (k := km) (q := pq) (s := x) ?_ ?_; (on_goal 1 => dsimp -zeta only [x]); (on_goal 2 => clear_value x; intro _))
    | ((try lift_lets -underBinder); intro x; refine Keep.usePair (k := km) (q := pq) (p := x) ?_ ?_; (on_goal 1 => dsimp -zeta only [x]); (on_goal 2 => clear_value x; intro _))
    | ((try lift_lets -underBinder); intro x; refine Keep.memSt (x := x) ?_; subst x)
    | ((try lift_lets -underBinder); intro x; refine Keep.depSt (x := x) ?_; subst x)
    | ((try lift_lets -underBinder); intro x; clear_value x)
    | (intro _)
    | with_reducible apply State.set_good
    | with_reducible apply State.ev_good
    | with_reducible apply State.err_good
    | (simp -zeta only [Keep.mk_iff]; with_reducible refine Keep.upd ?_ rfl ?_; on_goal 2 => (and_intros <;> with_reducible first | exact .inl rfl | exact .inl ⟨rfl, rfl, rfl⟩ | exact .inr ‹_› | exact Nat.le_refl _ | exact Nat.le_add_right _ _))

theorem State.transfer_good (force : km.part .force) (tim : km.part .tim) (hTIM_DOM_OFFSET_OFFSET : ∀ a, km.fld (R.TIM.DOM_OFFSET.OFFSET a)) (hTIM_DOM_RATE_RATE : ∀ a, km.fld (R.TIM.DOM_RATE.RATE a)) (s : State) (b : Nat) (h : s.Keeps km pq) : (s.transfer b).Keeps km pq := by
  unfold State.transfer
  split
  · exact h
  · refine Keep.mk_iff.2 <| Keep.upd (s := s) h rfl ?_
    and_intros <;> try first | exact .inl rfl | exact .inl ⟨rfl, rfl, rfl⟩ | exact Nat.le_refl _
    refine .inr ⟨force, fun hf => ?_⟩
    refine List.foldlRecOn _ _ ?_ (fun _ hl _ _ => putD_rise hl)
    refine List.pairwise_append.2 ⟨List.pairwise_append.2 ⟨rise_filter _ hf, rise_filter _ h.1, ?_⟩, rise_filter _ hf, ?_⟩
    · intro x hx y hy
      simp only [List.mem_filter, inPage, Bool.and_eq_true, decide_eq_true_eq] at hx hy
      omega
    · intro x hx y hy
      simp only [List.mem_append, List.mem_filter, inPage, Bool.and_eq_true, decide_eq_true_eq] at hx hy
      omega

theorem State.armCommit_good (hPG_COMMIT : ∀ a, km.fld (R.PG.COMMIT a))
    (hPG_COMMIT_PENDING : ∀ a, km.fld (R.PG.COMMIT_PENDING a)) (s : State) (b : Nat) (hs : s.Keeps km pq) : (State.armCommit s b).Keeps km pq := by
  unfold State.armCommit
  repeat' first
    | with_reducible assumption
    | with_reducible exact hPG_COMMIT _
    | with_reducible exact hPG_COMMIT_PENDING _
    | (intro _)
    | with_reducible apply State.set_good

theorem State.commitEnd_good (hPG_COMMIT : ∀ a, km.fld (R.PG.COMMIT a))
    (hPG_COMMIT_PENDING : ∀ a, km.fld (R.PG.COMMIT_PENDING a)) (s : State) (b : Nat) (hs : s.Keeps km pq) : (State.commitEnd s b).Keeps km pq := by
  unfold State.commitEnd
  repeat' first
    | with_reducible assumption
    | with_reducible exact hPG_COMMIT _
    | with_reducible exact hPG_COMMIT_PENDING _
    | (intro _)
    | with_reducible apply State.set_good

theorem State.commitDone_good (force : km.part .force) (out : km.part .out) (tim : km.part .tim)
    (hPG_COMMIT : ∀ a, km.fld (R.PG.COMMIT a)) (hPG_COMMIT_PENDING : ∀ a, km.fld (R.PG.COMMIT_PENDING a))
    (hPG_EVT_PEND : ∀ a, km.fld (R.PG.EVT_PEND a)) (hTIM_DOM_OFFSET_OFFSET : ∀ a, km.fld (R.TIM.DOM_OFFSET.OFFSET a))
    (hTIM_DOM_RATE_RATE : ∀ a, km.fld (R.TIM.DOM_RATE.RATE a)) (s : State) (b : Nat) (hs : s.Keeps km pq) : (State.commitDone s b).Keeps km pq := by
  unfold State.commitDone
  repeat' first
    | with_reducible assumption
    | with_reducible exact hPG_COMMIT _
    | with_reducible exact hPG_COMMIT_PENDING _
    | with_reducible exact hPG_EVT_PEND _
    | with_reducible exact hTIM_DOM_OFFSET_OFFSET _
    | with_reducible exact hTIM_DOM_RATE_RATE _
    | (intro _)
    | with_reducible apply State.transfer_good
    | with_reducible apply State.commitEnd_good
    | with_reducible apply State.ev_good

theorem State.commitRefused_good (out : km.part .out) (hPG_COMMIT : ∀ a, km.fld (R.PG.COMMIT a))
    (hPG_COMMIT_PENDING : ∀ a, km.fld (R.PG.COMMIT_PENDING a)) (hPG_ERR_ADDR_HI : ∀ a, km.fld (R.PG.ERR_ADDR_HI a))
    (hPG_ERR_ADDR_LO : ∀ a, km.fld (R.PG.ERR_ADDR_LO a)) (hPG_ERR_CODE : ∀ a, km.fld (R.PG.ERR_CODE a))
    (hPG_ERR_COUNT : ∀ a, km.fld (R.PG.ERR_COUNT a)) (hPG_ERR_OVERFLOW : ∀ a, km.fld (R.PG.ERR_OVERFLOW a))
    (hPG_ERR_SOURCE : ∀ a, km.fld (R.PG.ERR_SOURCE a)) (hPG_ERR_VALID : ∀ a, km.fld (R.PG.ERR_VALID a))
    (hPG_EVT_PEND : ∀ a, km.fld (R.PG.EVT_PEND a)) (s : State) (b : Nat) (hs : s.Keeps km pq) : (State.commitRefused s b).Keeps km pq := by
  unfold State.commitRefused
  repeat' first
    | with_reducible assumption
    | with_reducible exact hPG_COMMIT _
    | with_reducible exact hPG_COMMIT_PENDING _
    | with_reducible exact hPG_ERR_ADDR_HI _
    | with_reducible exact hPG_ERR_ADDR_LO _
    | with_reducible exact hPG_ERR_CODE _
    | with_reducible exact hPG_ERR_COUNT _
    | with_reducible exact hPG_ERR_OVERFLOW _
    | with_reducible exact hPG_ERR_SOURCE _
    | with_reducible exact hPG_ERR_VALID _
    | with_reducible exact hPG_EVT_PEND _
    | (intro _)
    | with_reducible apply State.commitEnd_good
    | with_reducible apply State.ev_good
    | with_reducible apply State.err_good

theorem State.clearPage_good (force : km.part .force) (tim : km.part .tim) (any : ∀ f, km.fld f) (s : State) (b : Nat) (keep : Nat → Bool) (h : s.Keeps km pq) : (s.clearPage b keep).Keeps km pq :=
  Keep.mk_iff.2 <| Keep.upd h rfl (by and_intros <;> first | exact .inl rfl | exact .inl ⟨rfl, rfl, rfl⟩ | exact Nat.le_refl _ | exact .inr ⟨force, rise_filter _⟩ | exact .inr ⟨any, rise_filter _⟩ | exact .inr ‹_›)




theorem iter_good  (n : Nat) (f : State → State) (s : State) (h : s.Keeps km pq) (hf : ∀ s, s.Keeps km pq → (f s).Keeps km pq) :
    (iter n f s).Keeps km pq := by
  unfold iter
  induction n with
  | zero => exact h
  | succ n ih => exact hf _ ih

theorem State.forN_good  (s : State) (n : Nat) (f : State → Nat → State) (h : s.Keeps km pq)
    (hf : ∀ s i, s.Keeps km pq → (f s i).Keeps km pq) : (s.forN n f).Keeps km pq :=
  Keep.foldl h hf

theorem run_good  {f : State → State} {s : State} (h : s.Keeps km pq) (hf : ∀ s, s.Keeps km pq → (f s).Keeps km pq) :
    ∀ t, run f s = .next t → t.Keeps km pq := by
  intro t ht
  unfold run at ht
  split at ht
  · cases ht; exact hf _ h
  · cases ht
  · cases ht; exact h
  · cases ht; exact h
  · cases ht; exact h

theorem runIn_good  {r : Role} {f : State → State} {s : State} (h : s.Keeps km pq) (hf : ∀ s, s.Keeps km pq → (f s).Keeps km pq) :
    ∀ t, runIn r f s = .next t → t.Keeps km pq :=
  run_good h (fun s hs => Keep.ite (hf s hs) hs)

end Sys2Proof.Machine
end

