-- ==== Sys2Proof/Laws/KeepsTime.lean ====
section
/-!
SUPPORT. Every function of Machine/Time.lean changes what the hypotheses of its lemma name, and nothing else.
-/
namespace Sys2Proof.Machine
set_option Elab.async false
set_option linter.unusedVariables false
set_option linter.unusedTactic false
set_option linter.unreachableTactic false

variable {km : May} {pq : State}

theorem State.setDom_good (tim : km.part .tim) (s : State) (d : Nat) (x : Domain) (hs : s.Keeps km pq) : (State.setDom s d x).Keeps km pq := by
  unfold State.setDom
  repeat' first
    | with_reducible assumption
    | ((try lift_lets -underBinder); intro x; refine Keep.use (k := km) (q := pq) (s := x) ?_ ?_; (on_goal 1 => dsimp -zeta only [x]); (on_goal 2 => clear_value x; intro _))
    | ((try lift_lets -underBinder); intro x; refine Keep.usePair (k := km) (q := pq) (p := x) ?_ ?_; (on_goal 1 => dsimp -zeta only [x]); (on_goal 2 => clear_value x; intro _))
    | ((try lift_lets -underBinder); intro x; refine Keep.memSt (x := x) ?_; subst x)
    | ((try lift_lets -underBinder); intro x; refine Keep.depSt (x := x) ?_; subst x)
    | ((try lift_lets -underBinder); intro x; clear_value x)
    | (intro _)
    | with_reducible apply Keep.ite
    | (simp -zeta only [Keep.mk_iff]; with_reducible refine Keep.upd ?_ rfl ?_; on_goal 2 => (and_intros <;> with_reducible first | exact .inl rfl | exact .inl ⟨rfl, rfl, rfl⟩ | exact .inr ‹_› | exact Nat.le_refl _ | exact Nat.le_add_right _ _))

theorem State.setEntry_good (dep : km.part .dep) (s : State) (i : Nat) (e : Entry) (hs : s.Keeps km pq) : (State.setEntry s i e).Keeps km pq := by
  unfold State.setEntry
  repeat' first
    | with_reducible assumption
    | ((try lift_lets -underBinder); intro x; refine Keep.use (k := km) (q := pq) (s := x) ?_ ?_; (on_goal 1 => dsimp -zeta only [x]); (on_goal 2 => clear_value x; intro _))
    | ((try lift_lets -underBinder); intro x; refine Keep.usePair (k := km) (q := pq) (p := x) ?_ ?_; (on_goal 1 => dsimp -zeta only [x]); (on_goal 2 => clear_value x; intro _))
    | ((try lift_lets -underBinder); intro x; refine Keep.memSt (x := x) ?_; subst x)
    | ((try lift_lets -underBinder); intro x; refine Keep.depSt (x := x) ?_; subst x)
    | ((try lift_lets -underBinder); intro x; clear_value x)
    | (intro _)
    | (simp -zeta only [Keep.mk_iff]; with_reducible refine Keep.upd ?_ rfl ?_; on_goal 2 => (and_intros <;> with_reducible first | exact .inl rfl | exact .inl ⟨rfl, rfl, rfl⟩ | exact .inr ‹_› | exact Nat.le_refl _ | exact Nat.le_add_right _ _))

end Sys2Proof.Machine
end

