-- ==== Sys2Proof/Laws/KeepsMemory.lean ====
section
/-!
SUPPORT. Every function of Machine/Memory.lean changes what the hypotheses of its lemma name, and nothing else.
-/
namespace Sys2Proof.Machine
set_option Elab.async false
set_option linter.unusedVariables false
set_option linter.unusedTactic false
set_option linter.unreachableTactic false

variable {km : May} {pq : State}

theorem State.setCh_good (hMEM_CH_STAT_STATE : ∀ a, km.fld (R.MEM.CH_STAT.STATE a)) (s : State) (c v : Nat)
    (hs : s.Keeps km pq) : (State.setCh s c v).Keeps km pq := by
  unfold State.setCh
  repeat' first
    | with_reducible assumption
    | with_reducible exact hMEM_CH_STAT_STATE _
    | (intro _)
    | with_reducible apply State.set_good

theorem State.parLog_good (hLOG_LOG_ADDR_LO_ADDR : ∀ a, km.fld (R.LOG.LOG_ADDR_LO.ADDR a))
    (hLOG_LOG_INFO_ADDR_HI : ∀ a, km.fld (R.LOG.LOG_INFO.ADDR_HI a))
    (hLOG_LOG_INFO_ARRAY : ∀ a, km.fld (R.LOG.LOG_INFO.ARRAY a))
    (hLOG_LOG_INFO_BYTES : ∀ a, km.fld (R.LOG.LOG_INFO.BYTES a))
    (hLOG_LOG_INFO_CHANNEL : ∀ a, km.fld (R.LOG.LOG_INFO.CHANNEL a))
    (hLOG_LOG_INFO_CODE : ∀ a, km.fld (R.LOG.LOG_INFO.CODE a))
    (hLOG_LOG_INFO_PORT : ∀ a, km.fld (R.LOG.LOG_INFO.PORT a))
    (hLOG_LOG_INFO_SRAM : ∀ a, km.fld (R.LOG.LOG_INFO.SRAM a))
    (hLOG_LOG_TIME_HI_NS : ∀ a, km.fld (R.LOG.LOG_TIME_HI.NS a))
    (hLOG_LOG_TIME_LO_NS : ∀ a, km.fld (R.LOG.LOG_TIME_LO.NS a)) (hPAR_LOG_STAT_NEXT : km.fld R.PAR.LOG_STAT.NEXT)
    (hPAR_LOG_STAT_TOTAL : km.fld R.PAR.LOG_STAT.TOTAL) (hPAR_LOG_STAT_WRAPPED : km.fld R.PAR.LOG_STAT.WRAPPED)
    (s : State) (addr port ch sram array code bytes : Nat) (hs : s.Keeps km pq) : (State.parLog s addr port ch sram array code bytes).Keeps km pq := by
  unfold State.parLog
  repeat' first
    | with_reducible assumption
    | with_reducible exact hLOG_LOG_ADDR_LO_ADDR _
    | with_reducible exact hLOG_LOG_INFO_ADDR_HI _
    | with_reducible exact hLOG_LOG_INFO_ARRAY _
    | with_reducible exact hLOG_LOG_INFO_BYTES _
    | with_reducible exact hLOG_LOG_INFO_CHANNEL _
    | with_reducible exact hLOG_LOG_INFO_CODE _
    | with_reducible exact hLOG_LOG_INFO_PORT _
    | with_reducible exact hLOG_LOG_INFO_SRAM _
    | with_reducible exact hLOG_LOG_TIME_HI_NS _
    | with_reducible exact hLOG_LOG_TIME_LO_NS _
    | ((try lift_lets -underBinder); intro x; refine Keep.use (k := km) (q := pq) (s := x) ?_ ?_; (on_goal 1 => dsimp -zeta only [x]); (on_goal 2 => clear_value x; intro _))
    | ((try lift_lets -underBinder); intro x; refine Keep.usePair (k := km) (q := pq) (p := x) ?_ ?_; (on_goal 1 => dsimp -zeta only [x]); (on_goal 2 => clear_value x; intro _))
    | ((try lift_lets -underBinder); intro x; refine Keep.memSt (x := x) ?_; subst x)
    | ((try lift_lets -underBinder); intro x; refine Keep.depSt (x := x) ?_; subst x)
    | ((try lift_lets -underBinder); intro x; clear_value x)
    | (intro _)
    | with_reducible apply Keep.ite
    | with_reducible apply State.set_good
    | with_reducible apply State.set64_good
    | with_reducible apply State.count_good

theorem State.dramErr_good (out : km.part .out) (hLOG_LOG_ADDR_LO_ADDR : ∀ a, km.fld (R.LOG.LOG_ADDR_LO.ADDR a))
    (hLOG_LOG_INFO_ADDR_HI : ∀ a, km.fld (R.LOG.LOG_INFO.ADDR_HI a))
    (hLOG_LOG_INFO_ARRAY : ∀ a, km.fld (R.LOG.LOG_INFO.ARRAY a))
    (hLOG_LOG_INFO_BYTES : ∀ a, km.fld (R.LOG.LOG_INFO.BYTES a))
    (hLOG_LOG_INFO_CHANNEL : ∀ a, km.fld (R.LOG.LOG_INFO.CHANNEL a))
    (hLOG_LOG_INFO_CODE : ∀ a, km.fld (R.LOG.LOG_INFO.CODE a))
    (hLOG_LOG_INFO_PORT : ∀ a, km.fld (R.LOG.LOG_INFO.PORT a))
    (hLOG_LOG_INFO_SRAM : ∀ a, km.fld (R.LOG.LOG_INFO.SRAM a))
    (hLOG_LOG_TIME_HI_NS : ∀ a, km.fld (R.LOG.LOG_TIME_HI.NS a))
    (hLOG_LOG_TIME_LO_NS : ∀ a, km.fld (R.LOG.LOG_TIME_LO.NS a)) (hPAR_LOG_STAT_NEXT : km.fld R.PAR.LOG_STAT.NEXT)
    (hPAR_LOG_STAT_TOTAL : km.fld R.PAR.LOG_STAT.TOTAL) (hPAR_LOG_STAT_WRAPPED : km.fld R.PAR.LOG_STAT.WRAPPED)
    (hPG_ERR_ADDR_HI : ∀ a, km.fld (R.PG.ERR_ADDR_HI a)) (hPG_ERR_ADDR_LO : ∀ a, km.fld (R.PG.ERR_ADDR_LO a))
    (hPG_ERR_CODE : ∀ a, km.fld (R.PG.ERR_CODE a)) (hPG_ERR_COUNT : ∀ a, km.fld (R.PG.ERR_COUNT a))
    (hPG_ERR_OVERFLOW : ∀ a, km.fld (R.PG.ERR_OVERFLOW a)) (hPG_ERR_SOURCE : ∀ a, km.fld (R.PG.ERR_SOURCE a))
    (hPG_ERR_VALID : ∀ a, km.fld (R.PG.ERR_VALID a)) (hPG_EVT_PEND : ∀ a, km.fld (R.PG.EVT_PEND a)) (s : State)
    (page code port addr bytes : Nat) (hs : s.Keeps km pq) : (State.dramErr s page code port addr bytes).Keeps km pq := by
  unfold State.dramErr
  repeat' first
    | with_reducible assumption
    | with_reducible exact hLOG_LOG_ADDR_LO_ADDR _
    | with_reducible exact hLOG_LOG_INFO_ADDR_HI _
    | with_reducible exact hLOG_LOG_INFO_ARRAY _
    | with_reducible exact hLOG_LOG_INFO_BYTES _
    | with_reducible exact hLOG_LOG_INFO_CHANNEL _
    | with_reducible exact hLOG_LOG_INFO_CODE _
    | with_reducible exact hLOG_LOG_INFO_PORT _
    | with_reducible exact hLOG_LOG_INFO_SRAM _
    | with_reducible exact hLOG_LOG_TIME_HI_NS _
    | with_reducible exact hLOG_LOG_TIME_LO_NS _
    | with_reducible exact hPG_ERR_ADDR_HI _
    | with_reducible exact hPG_ERR_ADDR_LO _
    | with_reducible exact hPG_ERR_CODE _
    | with_reducible exact hPG_ERR_COUNT _
    | with_reducible exact hPG_ERR_OVERFLOW _
    | with_reducible exact hPG_ERR_SOURCE _
    | with_reducible exact hPG_ERR_VALID _
    | with_reducible exact hPG_EVT_PEND _
    | (intro _)
    | with_reducible apply State.err_good
    | with_reducible apply State.parLog_good

theorem State.dropChannel_good (tim : km.part .tim) (mem : km.part .mem) (dram : km.part .dram) (hTIM_DOM_OFFSET_OFFSET : ∀ a, km.fld (R.TIM.DOM_OFFSET.OFFSET a)) (hTIM_DOM_RATE_RATE : ∀ a, km.fld (R.TIM.DOM_RATE.RATE a)) (s : State) (c : Nat) (h : s.Keeps km pq) : (s.dropChannel c).Keeps km pq :=
  Keep.mk_iff.2 <| Keep.upd h rfl (by and_intros <;> first | exact .inl rfl | exact .inl ⟨rfl, rfl, rfl⟩ | exact Nat.le_refl _ | exact .inr ⟨dram, filter_wf _⟩ | exact .inr ‹_›)

theorem State.mirrorLost_good (out : km.part .out) (hMEM_CH_STAT_MIRROR_OK : ∀ a, km.fld (R.MEM.CH_STAT.MIRROR_OK a))
    (hPG_EVT_PEND : ∀ a, km.fld (R.PG.EVT_PEND a)) (s : State) (hs : s.Keeps km pq) : (State.mirrorLost s).Keeps km pq := by
  unfold State.mirrorLost
  repeat' first
    | with_reducible assumption
    | with_reducible exact hMEM_CH_STAT_MIRROR_OK _
    | with_reducible exact hPG_EVT_PEND _
    | (intro _)
    | with_reducible apply Keep.ite
    | with_reducible apply State.set_good
    | with_reducible apply State.ev_good

theorem State.enterOffline_good (out : km.part .out) (tim : km.part .tim) (mem : km.part .mem) (dram : km.part .dram)
    (hMEM_CH_STAT_FILLED : ∀ a, km.fld (R.MEM.CH_STAT.FILLED a))
    (hMEM_CH_STAT_MIRROR_OK : ∀ a, km.fld (R.MEM.CH_STAT.MIRROR_OK a))
    (hMEM_CH_STAT_STATE : ∀ a, km.fld (R.MEM.CH_STAT.STATE a)) (hPG_EVT_PEND : ∀ a, km.fld (R.PG.EVT_PEND a))
    (hTIM_DOM_OFFSET_OFFSET : ∀ a, km.fld (R.TIM.DOM_OFFSET.OFFSET a))
    (hTIM_DOM_RATE_RATE : ∀ a, km.fld (R.TIM.DOM_RATE.RATE a)) (s : State) (c : Nat) (hs : s.Keeps km pq) : (State.enterOffline s c).Keeps km pq := by
  unfold State.enterOffline
  repeat' first
    | with_reducible assumption
    | with_reducible exact hMEM_CH_STAT_FILLED _
    | with_reducible exact hMEM_CH_STAT_MIRROR_OK _
    | with_reducible exact hMEM_CH_STAT_STATE _
    | with_reducible exact hPG_EVT_PEND _
    | with_reducible exact hTIM_DOM_OFFSET_OFFSET _
    | with_reducible exact hTIM_DOM_RATE_RATE _
    | ((try lift_lets -underBinder); intro x; refine Keep.use (k := km) (q := pq) (s := x) ?_ ?_; (on_goal 1 => dsimp -zeta only [x]); (on_goal 2 => clear_value x; intro _))
    | ((try lift_lets -underBinder); intro x; refine Keep.usePair (k := km) (q := pq) (p := x) ?_ ?_; (on_goal 1 => dsimp -zeta only [x]); (on_goal 2 => clear_value x; intro _))
    | ((try lift_lets -underBinder); intro x; refine Keep.memSt (x := x) ?_; subst x)
    | ((try lift_lets -underBinder); intro x; refine Keep.depSt (x := x) ?_; subst x)
    | ((try lift_lets -underBinder); intro x; clear_value x)
    | (intro _)
    | with_reducible apply Keep.ite
    | with_reducible apply State.dropChannel_good
    | with_reducible apply State.setCh_good
    | with_reducible apply State.set_good
    | with_reducible apply State.ev_good
    | with_reducible apply State.filter_good
    | with_reducible apply State.mirrorLost_good
    | (simp -zeta only [Keep.mk_iff]; with_reducible refine Keep.upd ?_ rfl ?_; on_goal 2 => (and_intros <;> with_reducible first | exact .inl rfl | exact .inl ⟨rfl, rfl, rfl⟩ | exact .inr ‹_› | exact Nat.le_refl _ | exact Nat.le_add_right _ _))

theorem State.mismatchHit_good (out : km.part .out) (tim : km.part .tim) (mem : km.part .mem) (dram : km.part .dram)
    (hMEM_CH_STAT_FILLED : ∀ a, km.fld (R.MEM.CH_STAT.FILLED a))
    (hMEM_CH_STAT_MIRROR_OK : ∀ a, km.fld (R.MEM.CH_STAT.MIRROR_OK a))
    (hMEM_CH_STAT_STATE : ∀ a, km.fld (R.MEM.CH_STAT.STATE a)) (hPG_EVT_PEND : ∀ a, km.fld (R.PG.EVT_PEND a))
    (hTIM_DOM_OFFSET_OFFSET : ∀ a, km.fld (R.TIM.DOM_OFFSET.OFFSET a))
    (hTIM_DOM_RATE_RATE : ∀ a, km.fld (R.TIM.DOM_RATE.RATE a)) (s : State) (c : Nat) (hs : s.Keeps km pq) : (State.mismatchHit s c).Keeps km pq := by
  unfold State.mismatchHit
  repeat' first
    | with_reducible assumption
    | with_reducible exact hMEM_CH_STAT_FILLED _
    | with_reducible exact hMEM_CH_STAT_MIRROR_OK _
    | with_reducible exact hMEM_CH_STAT_STATE _
    | with_reducible exact hPG_EVT_PEND _
    | with_reducible exact hTIM_DOM_OFFSET_OFFSET _
    | with_reducible exact hTIM_DOM_RATE_RATE _
    | ((try lift_lets -underBinder); intro x; refine Keep.use (k := km) (q := pq) (s := x) ?_ ?_; (on_goal 1 => dsimp -zeta only [x]); (on_goal 2 => clear_value x; intro _))
    | ((try lift_lets -underBinder); intro x; refine Keep.usePair (k := km) (q := pq) (p := x) ?_ ?_; (on_goal 1 => dsimp -zeta only [x]); (on_goal 2 => clear_value x; intro _))
    | ((try lift_lets -underBinder); intro x; refine Keep.memSt (x := x) ?_; subst x)
    | ((try lift_lets -underBinder); intro x; refine Keep.depSt (x := x) ?_; subst x)
    | ((try lift_lets -underBinder); intro x; clear_value x)
    | (intro _)
    | with_reducible apply Keep.ite
    | with_reducible apply State.filter_good
    | with_reducible apply State.enterOffline_good
    | (simp -zeta only [Keep.mk_iff]; with_reducible refine Keep.upd ?_ rfl ?_; on_goal 2 => (and_intros <;> with_reducible first | exact .inl rfl | exact .inl ⟨rfl, rfl, rfl⟩ | exact .inr ‹_› | exact Nat.le_refl _ | exact Nat.le_add_right _ _))

theorem State.setPar_good (mem : km.part .mem) (s : State) (a c m : Nat) (hs : s.Keeps km pq) : (State.setPar s a c m).Keeps km pq := by
  unfold State.setPar
  repeat' first
    | with_reducible assumption
    | ((try lift_lets -underBinder); intro x; refine Keep.use (k := km) (q := pq) (s := x) ?_ ?_; (on_goal 1 => dsimp -zeta only [x]); (on_goal 2 => clear_value x; intro _))
    | ((try lift_lets -underBinder); intro x; refine Keep.usePair (k := km) (q := pq) (p := x) ?_ ?_; (on_goal 1 => dsimp -zeta only [x]); (on_goal 2 => clear_value x; intro _))
    | ((try lift_lets -underBinder); intro x; refine Keep.memSt (x := x) ?_; subst x)
    | ((try lift_lets -underBinder); intro x; refine Keep.depSt (x := x) ?_; subst x)
    | ((try lift_lets -underBinder); intro x; clear_value x)
    | (intro _)
    | with_reducible apply Keep.ite
    | (simp -zeta only [Keep.mk_iff]; with_reducible refine Keep.upd ?_ rfl ?_; on_goal 2 => (and_intros <;> with_reducible first | exact .inl rfl | exact .inl ⟨rfl, rfl, rfl⟩ | exact .inr ‹_› | exact Nat.le_refl _ | exact Nat.le_add_right _ _))

theorem State.queueWrite_good (mem : km.part .mem) (s : State) (l : List Nat) (a n : Nat) (hs : s.Keeps km pq) : (State.queueWrite s l a n).Keeps km pq := by
  unfold State.queueWrite
  repeat' first
    | with_reducible assumption
    | ((try lift_lets -underBinder); intro x; refine Keep.use (k := km) (q := pq) (s := x) ?_ ?_; (on_goal 1 => dsimp -zeta only [x]); (on_goal 2 => clear_value x; intro _))
    | ((try lift_lets -underBinder); intro x; refine Keep.usePair (k := km) (q := pq) (p := x) ?_ ?_; (on_goal 1 => dsimp -zeta only [x]); (on_goal 2 => clear_value x; intro _))
    | ((try lift_lets -underBinder); intro x; refine Keep.memSt (x := x) ?_; subst x)
    | ((try lift_lets -underBinder); intro x; refine Keep.depSt (x := x) ?_; subst x)
    | ((try lift_lets -underBinder); intro x; clear_value x)
    | (intro _)
    | with_reducible apply Keep.ite
    | (simp -zeta only [Keep.mk_iff]; with_reducible refine Keep.upd ?_ rfl ?_; on_goal 2 => (and_intros <;> with_reducible first | exact .inl rfl | exact .inl ⟨rfl, rfl, rfl⟩ | exact .inr ‹_› | exact Nat.le_refl _ | exact Nat.le_add_right _ _))

theorem State.moved_good (mem : km.part .mem) (s : State) (l : List Nat) (n : Nat) (hs : s.Keeps km pq) : (State.moved s l n).Keeps km pq := by
  unfold State.moved
  repeat' first
    | with_reducible assumption
    | ((try lift_lets -underBinder); intro x; refine Keep.use (k := km) (q := pq) (s := x) ?_ ?_; (on_goal 1 => dsimp -zeta only [x]); (on_goal 2 => clear_value x; intro _))
    | ((try lift_lets -underBinder); intro x; refine Keep.usePair (k := km) (q := pq) (p := x) ?_ ?_; (on_goal 1 => dsimp -zeta only [x]); (on_goal 2 => clear_value x; intro _))
    | ((try lift_lets -underBinder); intro x; refine Keep.memSt (x := x) ?_; subst x)
    | ((try lift_lets -underBinder); intro x; refine Keep.depSt (x := x) ?_; subst x)
    | ((try lift_lets -underBinder); intro x; clear_value x)
    | (intro _)
    | with_reducible apply Keep.ite
    | (simp -zeta only [Keep.mk_iff]; with_reducible refine Keep.upd ?_ rfl ?_; on_goal 2 => (and_intros <;> with_reducible first | exact .inl rfl | exact .inl ⟨rfl, rfl, rfl⟩ | exact .inr ‹_› | exact Nat.le_refl _ | exact Nat.le_add_right _ _))

theorem State.dramRead_good (out : km.part .out) (tim : km.part .tim) (mem : km.part .mem) (dram : km.part .dram)
    (hLOG_LOG_ADDR_LO_ADDR : ∀ a, km.fld (R.LOG.LOG_ADDR_LO.ADDR a))
    (hLOG_LOG_INFO_ADDR_HI : ∀ a, km.fld (R.LOG.LOG_INFO.ADDR_HI a))
    (hLOG_LOG_INFO_ARRAY : ∀ a, km.fld (R.LOG.LOG_INFO.ARRAY a))
    (hLOG_LOG_INFO_BYTES : ∀ a, km.fld (R.LOG.LOG_INFO.BYTES a))
    (hLOG_LOG_INFO_CHANNEL : ∀ a, km.fld (R.LOG.LOG_INFO.CHANNEL a))
    (hLOG_LOG_INFO_CODE : ∀ a, km.fld (R.LOG.LOG_INFO.CODE a))
    (hLOG_LOG_INFO_PORT : ∀ a, km.fld (R.LOG.LOG_INFO.PORT a))
    (hLOG_LOG_INFO_SRAM : ∀ a, km.fld (R.LOG.LOG_INFO.SRAM a))
    (hLOG_LOG_TIME_HI_NS : ∀ a, km.fld (R.LOG.LOG_TIME_HI.NS a))
    (hLOG_LOG_TIME_LO_NS : ∀ a, km.fld (R.LOG.LOG_TIME_LO.NS a))
    (hMEM_CH_STAT_FILLED : ∀ a, km.fld (R.MEM.CH_STAT.FILLED a))
    (hMEM_CH_STAT_MIRROR_OK : ∀ a, km.fld (R.MEM.CH_STAT.MIRROR_OK a))
    (hMEM_CH_STAT_STATE : ∀ a, km.fld (R.MEM.CH_STAT.STATE a))
    (hPAR_DRAM_ERR_CNT_COUNT : km.fld R.PAR.DRAM_ERR_CNT.COUNT) (hPAR_LOG_STAT_NEXT : km.fld R.PAR.LOG_STAT.NEXT)
    (hPAR_LOG_STAT_TOTAL : km.fld R.PAR.LOG_STAT.TOTAL) (hPAR_LOG_STAT_WRAPPED : km.fld R.PAR.LOG_STAT.WRAPPED)
    (hPAR_MIRROR_FIX_CNT_COUNT : km.fld R.PAR.MIRROR_FIX_CNT.COUNT)
    (hPG_ERR_ADDR_HI : ∀ a, km.fld (R.PG.ERR_ADDR_HI a)) (hPG_ERR_ADDR_LO : ∀ a, km.fld (R.PG.ERR_ADDR_LO a))
    (hPG_ERR_CODE : ∀ a, km.fld (R.PG.ERR_CODE a)) (hPG_ERR_COUNT : ∀ a, km.fld (R.PG.ERR_COUNT a))
    (hPG_ERR_OVERFLOW : ∀ a, km.fld (R.PG.ERR_OVERFLOW a)) (hPG_ERR_SOURCE : ∀ a, km.fld (R.PG.ERR_SOURCE a))
    (hPG_ERR_VALID : ∀ a, km.fld (R.PG.ERR_VALID a)) (hPG_EVT_PEND : ∀ a, km.fld (R.PG.EVT_PEND a))
    (hTIM_DOM_OFFSET_OFFSET : ∀ a, km.fld (R.TIM.DOM_OFFSET.OFFSET a))
    (hTIM_DOM_RATE_RATE : ∀ a, km.fld (R.TIM.DOM_RATE.RATE a)) (s : State) (port a : Nat) (hs : s.Keeps km pq) : (State.dramRead s port a).1.Keeps km pq := by
  unfold State.dramRead
  repeat' first
    | with_reducible assumption
    | with_reducible exact hLOG_LOG_ADDR_LO_ADDR _
    | with_reducible exact hLOG_LOG_INFO_ADDR_HI _
    | with_reducible exact hLOG_LOG_INFO_ARRAY _
    | with_reducible exact hLOG_LOG_INFO_BYTES _
    | with_reducible exact hLOG_LOG_INFO_CHANNEL _
    | with_reducible exact hLOG_LOG_INFO_CODE _
    | with_reducible exact hLOG_LOG_INFO_PORT _
    | with_reducible exact hLOG_LOG_INFO_SRAM _
    | with_reducible exact hLOG_LOG_TIME_HI_NS _
    | with_reducible exact hLOG_LOG_TIME_LO_NS _
    | with_reducible exact hMEM_CH_STAT_FILLED _
    | with_reducible exact hMEM_CH_STAT_MIRROR_OK _
    | with_reducible exact hMEM_CH_STAT_STATE _
    | with_reducible exact hPG_ERR_ADDR_HI _
    | with_reducible exact hPG_ERR_ADDR_LO _
    | with_reducible exact hPG_ERR_CODE _
    | with_reducible exact hPG_ERR_COUNT _
    | with_reducible exact hPG_ERR_OVERFLOW _
    | with_reducible exact hPG_ERR_SOURCE _
    | with_reducible exact hPG_ERR_VALID _
    | with_reducible exact hPG_EVT_PEND _
    | with_reducible exact hTIM_DOM_OFFSET_OFFSET _
    | with_reducible exact hTIM_DOM_RATE_RATE _
    | ((try lift_lets -underBinder); intro x; refine Keep.use (k := km) (q := pq) (s := x) ?_ ?_; (on_goal 1 => dsimp -zeta only [x]); (on_goal 2 => clear_value x; intro _))
    | ((try lift_lets -underBinder); intro x; refine Keep.usePair (k := km) (q := pq) (p := x) ?_ ?_; (on_goal 1 => dsimp -zeta only [x]); (on_goal 2 => clear_value x; intro _))
    | ((try lift_lets -underBinder); intro x; refine Keep.memSt (x := x) ?_; subst x)
    | ((try lift_lets -underBinder); intro x; refine Keep.depSt (x := x) ?_; subst x)
    | ((try lift_lets -underBinder); intro x; clear_value x)
    | (intro _)
    | with_reducible apply Keep.ite
    | with_reducible apply Keep.ite1
    | dsimp -zeta only
    | with_reducible apply State.dramErr_good
    | with_reducible apply State.draw_good
    | with_reducible apply State.moved_good
    | with_reducible apply State.setPar_good
    | with_reducible apply State.count_good
    | with_reducible apply State.ev_good
    | with_reducible apply State.parLog_good
    | with_reducible apply State.mismatchHit_good
    | split
    | with_reducible refine Keep.fst (by assumption) ?_
    | (simp -zeta only [Keep.mk_iff]; with_reducible refine Keep.upd ?_ rfl ?_; on_goal 2 => (and_intros <;> with_reducible first | exact .inl rfl | exact .inl ⟨rfl, rfl, rfl⟩ | exact .inr ‹_› | exact Nat.le_refl _ | exact Nat.le_add_right _ _))

theorem State.markWrite_good (mem : km.part .mem) (s : State) (a n : Nat) (poison : Bool) (hs : s.Keeps km pq) : (State.markWrite s a n poison).Keeps km pq := by
  unfold State.markWrite
  repeat' first
    | with_reducible assumption
    | ((try lift_lets -underBinder); intro x; refine Keep.use (k := km) (q := pq) (s := x) ?_ ?_; (on_goal 1 => dsimp -zeta only [x]); (on_goal 2 => clear_value x; intro _))
    | ((try lift_lets -underBinder); intro x; refine Keep.usePair (k := km) (q := pq) (p := x) ?_ ?_; (on_goal 1 => dsimp -zeta only [x]); (on_goal 2 => clear_value x; intro _))
    | ((try lift_lets -underBinder); intro x; refine Keep.memSt (x := x) ?_; subst x)
    | ((try lift_lets -underBinder); intro x; refine Keep.depSt (x := x) ?_; subst x)
    | ((try lift_lets -underBinder); intro x; clear_value x)
    | (intro _)
    | with_reducible apply Keep.ite
    | with_reducible apply State.setPar_good
    | with_reducible apply Keep.foldl

theorem State.injectWrite_good (out : km.part .out) (mem : km.part .mem)
    (hPAR_CHK_CTRL_INJ_ARM : km.fld R.PAR.CHK_CTRL.INJ_ARM) (hPG_EVT_PEND : ∀ a, km.fld (R.PG.EVT_PEND a))
    (s : State) (port a n : Nat) (hs : s.Keeps km pq) : (State.injectWrite s port a n).Keeps km pq := by
  unfold State.injectWrite
  repeat' first
    | with_reducible assumption
    | with_reducible exact hPG_EVT_PEND _
    | ((try lift_lets -underBinder); intro x; refine Keep.use (k := km) (q := pq) (s := x) ?_ ?_; (on_goal 1 => dsimp -zeta only [x]); (on_goal 2 => clear_value x; intro _))
    | ((try lift_lets -underBinder); intro x; refine Keep.usePair (k := km) (q := pq) (p := x) ?_ ?_; (on_goal 1 => dsimp -zeta only [x]); (on_goal 2 => clear_value x; intro _))
    | ((try lift_lets -underBinder); intro x; refine Keep.memSt (x := x) ?_; subst x)
    | ((try lift_lets -underBinder); intro x; refine Keep.depSt (x := x) ?_; subst x)
    | ((try lift_lets -underBinder); intro x; clear_value x)
    | (intro _)
    | with_reducible apply Keep.ite
    | with_reducible apply State.setPar_good
    | with_reducible apply State.set_good
    | with_reducible apply State.ev_good
    | with_reducible apply Keep.foldl

theorem State.dramPut_good (out : km.part .out) (mem : km.part .mem) (dram : km.part .dram)
    (hLOG_LOG_ADDR_LO_ADDR : ∀ a, km.fld (R.LOG.LOG_ADDR_LO.ADDR a))
    (hLOG_LOG_INFO_ADDR_HI : ∀ a, km.fld (R.LOG.LOG_INFO.ADDR_HI a))
    (hLOG_LOG_INFO_ARRAY : ∀ a, km.fld (R.LOG.LOG_INFO.ARRAY a))
    (hLOG_LOG_INFO_BYTES : ∀ a, km.fld (R.LOG.LOG_INFO.BYTES a))
    (hLOG_LOG_INFO_CHANNEL : ∀ a, km.fld (R.LOG.LOG_INFO.CHANNEL a))
    (hLOG_LOG_INFO_CODE : ∀ a, km.fld (R.LOG.LOG_INFO.CODE a))
    (hLOG_LOG_INFO_PORT : ∀ a, km.fld (R.LOG.LOG_INFO.PORT a))
    (hLOG_LOG_INFO_SRAM : ∀ a, km.fld (R.LOG.LOG_INFO.SRAM a))
    (hLOG_LOG_TIME_HI_NS : ∀ a, km.fld (R.LOG.LOG_TIME_HI.NS a))
    (hLOG_LOG_TIME_LO_NS : ∀ a, km.fld (R.LOG.LOG_TIME_LO.NS a))
    (hPAR_CHK_CTRL_INJ_ARM : km.fld R.PAR.CHK_CTRL.INJ_ARM) (hPAR_LOG_STAT_NEXT : km.fld R.PAR.LOG_STAT.NEXT)
    (hPAR_LOG_STAT_TOTAL : km.fld R.PAR.LOG_STAT.TOTAL) (hPAR_LOG_STAT_WRAPPED : km.fld R.PAR.LOG_STAT.WRAPPED)
    (hPG_ERR_ADDR_HI : ∀ a, km.fld (R.PG.ERR_ADDR_HI a)) (hPG_ERR_ADDR_LO : ∀ a, km.fld (R.PG.ERR_ADDR_LO a))
    (hPG_ERR_CODE : ∀ a, km.fld (R.PG.ERR_CODE a)) (hPG_ERR_COUNT : ∀ a, km.fld (R.PG.ERR_COUNT a))
    (hPG_ERR_OVERFLOW : ∀ a, km.fld (R.PG.ERR_OVERFLOW a)) (hPG_ERR_SOURCE : ∀ a, km.fld (R.PG.ERR_SOURCE a))
    (hPG_ERR_VALID : ∀ a, km.fld (R.PG.ERR_VALID a)) (hPG_EVT_PEND : ∀ a, km.fld (R.PG.EVT_PEND a)) (s : State)
    (port a : Nat) (bytes : List Byte) (poison : Bool) (hs : s.Keeps km pq) : (State.dramPut s port a bytes poison).Keeps km pq := by
  unfold State.dramPut
  repeat' first
    | with_reducible assumption
    | with_reducible exact hLOG_LOG_ADDR_LO_ADDR _
    | with_reducible exact hLOG_LOG_INFO_ADDR_HI _
    | with_reducible exact hLOG_LOG_INFO_ARRAY _
    | with_reducible exact hLOG_LOG_INFO_BYTES _
    | with_reducible exact hLOG_LOG_INFO_CHANNEL _
    | with_reducible exact hLOG_LOG_INFO_CODE _
    | with_reducible exact hLOG_LOG_INFO_PORT _
    | with_reducible exact hLOG_LOG_INFO_SRAM _
    | with_reducible exact hLOG_LOG_TIME_HI_NS _
    | with_reducible exact hLOG_LOG_TIME_LO_NS _
    | with_reducible exact hPG_ERR_ADDR_HI _
    | with_reducible exact hPG_ERR_ADDR_LO _
    | with_reducible exact hPG_ERR_CODE _
    | with_reducible exact hPG_ERR_COUNT _
    | with_reducible exact hPG_ERR_OVERFLOW _
    | with_reducible exact hPG_ERR_SOURCE _
    | with_reducible exact hPG_ERR_VALID _
    | with_reducible exact hPG_EVT_PEND _
    | ((try lift_lets -underBinder); intro x; refine Keep.use (k := km) (q := pq) (s := x) ?_ ?_; (on_goal 1 => dsimp -zeta only [x]); (on_goal 2 => clear_value x; intro _))
    | ((try lift_lets -underBinder); intro x; refine Keep.usePair (k := km) (q := pq) (p := x) ?_ ?_; (on_goal 1 => dsimp -zeta only [x]); (on_goal 2 => clear_value x; intro _))
    | ((try lift_lets -underBinder); intro x; refine Keep.memSt (x := x) ?_; subst x)
    | ((try lift_lets -underBinder); intro x; refine Keep.depSt (x := x) ?_; subst x)
    | ((try lift_lets -underBinder); intro x; clear_value x)
    | (intro _)
    | with_reducible apply State.dramErr_good
    | with_reducible apply State.moved_good
    | with_reducible apply State.queueWrite_good
    | with_reducible apply State.markWrite_good
    | with_reducible apply State.injectWrite_good
    | split
    | (simp -zeta only [Keep.mk_iff]; with_reducible refine Keep.upd ?_ rfl ?_; on_goal 2 => (and_intros <;> with_reducible first | exact .inl rfl | exact .inl ⟨rfl, rfl, rfl⟩ | exact .inr ‹_› | exact Nat.le_refl _ | exact .inr ⟨dram, writeBytes_wf⟩))

theorem State.dramWrite_good (out : km.part .out) (mem : km.part .mem) (dram : km.part .dram)
    (hLOG_LOG_ADDR_LO_ADDR : ∀ a, km.fld (R.LOG.LOG_ADDR_LO.ADDR a))
    (hLOG_LOG_INFO_ADDR_HI : ∀ a, km.fld (R.LOG.LOG_INFO.ADDR_HI a))
    (hLOG_LOG_INFO_ARRAY : ∀ a, km.fld (R.LOG.LOG_INFO.ARRAY a))
    (hLOG_LOG_INFO_BYTES : ∀ a, km.fld (R.LOG.LOG_INFO.BYTES a))
    (hLOG_LOG_INFO_CHANNEL : ∀ a, km.fld (R.LOG.LOG_INFO.CHANNEL a))
    (hLOG_LOG_INFO_CODE : ∀ a, km.fld (R.LOG.LOG_INFO.CODE a))
    (hLOG_LOG_INFO_PORT : ∀ a, km.fld (R.LOG.LOG_INFO.PORT a))
    (hLOG_LOG_INFO_SRAM : ∀ a, km.fld (R.LOG.LOG_INFO.SRAM a))
    (hLOG_LOG_TIME_HI_NS : ∀ a, km.fld (R.LOG.LOG_TIME_HI.NS a))
    (hLOG_LOG_TIME_LO_NS : ∀ a, km.fld (R.LOG.LOG_TIME_LO.NS a))
    (hPAR_CHK_CTRL_INJ_ARM : km.fld R.PAR.CHK_CTRL.INJ_ARM) (hPAR_LOG_STAT_NEXT : km.fld R.PAR.LOG_STAT.NEXT)
    (hPAR_LOG_STAT_TOTAL : km.fld R.PAR.LOG_STAT.TOTAL) (hPAR_LOG_STAT_WRAPPED : km.fld R.PAR.LOG_STAT.WRAPPED)
    (hPG_ERR_ADDR_HI : ∀ a, km.fld (R.PG.ERR_ADDR_HI a)) (hPG_ERR_ADDR_LO : ∀ a, km.fld (R.PG.ERR_ADDR_LO a))
    (hPG_ERR_CODE : ∀ a, km.fld (R.PG.ERR_CODE a)) (hPG_ERR_COUNT : ∀ a, km.fld (R.PG.ERR_COUNT a))
    (hPG_ERR_OVERFLOW : ∀ a, km.fld (R.PG.ERR_OVERFLOW a)) (hPG_ERR_SOURCE : ∀ a, km.fld (R.PG.ERR_SOURCE a))
    (hPG_ERR_VALID : ∀ a, km.fld (R.PG.ERR_VALID a)) (hPG_EVT_PEND : ∀ a, km.fld (R.PG.EVT_PEND a)) (s : State)
    (port a : Nat) (bytes : List Byte) (poison : Bool) (hs : s.Keeps km pq) : (State.dramWrite s port a bytes poison).Keeps km pq := by
  unfold State.dramWrite
  repeat' first
    | with_reducible assumption
    | with_reducible exact hLOG_LOG_ADDR_LO_ADDR _
    | with_reducible exact hLOG_LOG_INFO_ADDR_HI _
    | with_reducible exact hLOG_LOG_INFO_ARRAY _
    | with_reducible exact hLOG_LOG_INFO_BYTES _
    | with_reducible exact hLOG_LOG_INFO_CHANNEL _
    | with_reducible exact hLOG_LOG_INFO_CODE _
    | with_reducible exact hLOG_LOG_INFO_PORT _
    | with_reducible exact hLOG_LOG_INFO_SRAM _
    | with_reducible exact hLOG_LOG_TIME_HI_NS _
    | with_reducible exact hLOG_LOG_TIME_LO_NS _
    | with_reducible exact hPG_ERR_ADDR_HI _
    | with_reducible exact hPG_ERR_ADDR_LO _
    | with_reducible exact hPG_ERR_CODE _
    | with_reducible exact hPG_ERR_COUNT _
    | with_reducible exact hPG_ERR_OVERFLOW _
    | with_reducible exact hPG_ERR_SOURCE _
    | with_reducible exact hPG_ERR_VALID _
    | with_reducible exact hPG_EVT_PEND _
    | ((try lift_lets -underBinder); intro x; refine Keep.use (k := km) (q := pq) (s := x) ?_ ?_; (on_goal 1 => dsimp -zeta only [x]); (on_goal 2 => clear_value x; intro _))
    | ((try lift_lets -underBinder); intro x; refine Keep.usePair (k := km) (q := pq) (p := x) ?_ ?_; (on_goal 1 => dsimp -zeta only [x]); (on_goal 2 => clear_value x; intro _))
    | ((try lift_lets -underBinder); intro x; refine Keep.memSt (x := x) ?_; subst x)
    | ((try lift_lets -underBinder); intro x; refine Keep.depSt (x := x) ?_; subst x)
    | ((try lift_lets -underBinder); intro x; clear_value x)
    | (intro _)
    | with_reducible apply State.dramPut_good
    | split

theorem State.dramBytes_good (out : km.part .out) (tim : km.part .tim) (mem : km.part .mem) (dram : km.part .dram)
    (hLOG_LOG_ADDR_LO_ADDR : ∀ a, km.fld (R.LOG.LOG_ADDR_LO.ADDR a))
    (hLOG_LOG_INFO_ADDR_HI : ∀ a, km.fld (R.LOG.LOG_INFO.ADDR_HI a))
    (hLOG_LOG_INFO_ARRAY : ∀ a, km.fld (R.LOG.LOG_INFO.ARRAY a))
    (hLOG_LOG_INFO_BYTES : ∀ a, km.fld (R.LOG.LOG_INFO.BYTES a))
    (hLOG_LOG_INFO_CHANNEL : ∀ a, km.fld (R.LOG.LOG_INFO.CHANNEL a))
    (hLOG_LOG_INFO_CODE : ∀ a, km.fld (R.LOG.LOG_INFO.CODE a))
    (hLOG_LOG_INFO_PORT : ∀ a, km.fld (R.LOG.LOG_INFO.PORT a))
    (hLOG_LOG_INFO_SRAM : ∀ a, km.fld (R.LOG.LOG_INFO.SRAM a))
    (hLOG_LOG_TIME_HI_NS : ∀ a, km.fld (R.LOG.LOG_TIME_HI.NS a))
    (hLOG_LOG_TIME_LO_NS : ∀ a, km.fld (R.LOG.LOG_TIME_LO.NS a))
    (hMEM_CH_STAT_FILLED : ∀ a, km.fld (R.MEM.CH_STAT.FILLED a))
    (hMEM_CH_STAT_MIRROR_OK : ∀ a, km.fld (R.MEM.CH_STAT.MIRROR_OK a))
    (hMEM_CH_STAT_STATE : ∀ a, km.fld (R.MEM.CH_STAT.STATE a))
    (hPAR_DRAM_ERR_CNT_COUNT : km.fld R.PAR.DRAM_ERR_CNT.COUNT) (hPAR_LOG_STAT_NEXT : km.fld R.PAR.LOG_STAT.NEXT)
    (hPAR_LOG_STAT_TOTAL : km.fld R.PAR.LOG_STAT.TOTAL) (hPAR_LOG_STAT_WRAPPED : km.fld R.PAR.LOG_STAT.WRAPPED)
    (hPAR_MIRROR_FIX_CNT_COUNT : km.fld R.PAR.MIRROR_FIX_CNT.COUNT)
    (hPG_ERR_ADDR_HI : ∀ a, km.fld (R.PG.ERR_ADDR_HI a)) (hPG_ERR_ADDR_LO : ∀ a, km.fld (R.PG.ERR_ADDR_LO a))
    (hPG_ERR_CODE : ∀ a, km.fld (R.PG.ERR_CODE a)) (hPG_ERR_COUNT : ∀ a, km.fld (R.PG.ERR_COUNT a))
    (hPG_ERR_OVERFLOW : ∀ a, km.fld (R.PG.ERR_OVERFLOW a)) (hPG_ERR_SOURCE : ∀ a, km.fld (R.PG.ERR_SOURCE a))
    (hPG_ERR_VALID : ∀ a, km.fld (R.PG.ERR_VALID a)) (hPG_EVT_PEND : ∀ a, km.fld (R.PG.EVT_PEND a))
    (hTIM_DOM_OFFSET_OFFSET : ∀ a, km.fld (R.TIM.DOM_OFFSET.OFFSET a))
    (hTIM_DOM_RATE_RATE : ∀ a, km.fld (R.TIM.DOM_RATE.RATE a)) (s : State) (port a n : Nat) (hs : s.Keeps km pq) : (State.dramBytes s port a n).1.Keeps km pq := by
  unfold State.dramBytes
  repeat' first
    | with_reducible assumption
    | with_reducible exact hLOG_LOG_ADDR_LO_ADDR _
    | with_reducible exact hLOG_LOG_INFO_ADDR_HI _
    | with_reducible exact hLOG_LOG_INFO_ARRAY _
    | with_reducible exact hLOG_LOG_INFO_BYTES _
    | with_reducible exact hLOG_LOG_INFO_CHANNEL _
    | with_reducible exact hLOG_LOG_INFO_CODE _
    | with_reducible exact hLOG_LOG_INFO_PORT _
    | with_reducible exact hLOG_LOG_INFO_SRAM _
    | with_reducible exact hLOG_LOG_TIME_HI_NS _
    | with_reducible exact hLOG_LOG_TIME_LO_NS _
    | with_reducible exact hMEM_CH_STAT_FILLED _
    | with_reducible exact hMEM_CH_STAT_MIRROR_OK _
    | with_reducible exact hMEM_CH_STAT_STATE _
    | with_reducible exact hPG_ERR_ADDR_HI _
    | with_reducible exact hPG_ERR_ADDR_LO _
    | with_reducible exact hPG_ERR_CODE _
    | with_reducible exact hPG_ERR_COUNT _
    | with_reducible exact hPG_ERR_OVERFLOW _
    | with_reducible exact hPG_ERR_SOURCE _
    | with_reducible exact hPG_ERR_VALID _
    | with_reducible exact hPG_EVT_PEND _
    | with_reducible exact hTIM_DOM_OFFSET_OFFSET _
    | with_reducible exact hTIM_DOM_RATE_RATE _
    | ((try lift_lets -underBinder); intro x; refine Keep.use (k := km) (q := pq) (s := x) ?_ ?_; (on_goal 1 => dsimp -zeta only [x]); (on_goal 2 => clear_value x; intro _))
    | ((try lift_lets -underBinder); intro x; refine Keep.usePair (k := km) (q := pq) (p := x) ?_ ?_; (on_goal 1 => dsimp -zeta only [x]); (on_goal 2 => clear_value x; intro _))
    | ((try lift_lets -underBinder); intro x; refine Keep.memSt (x := x) ?_; subst x)
    | ((try lift_lets -underBinder); intro x; refine Keep.depSt (x := x) ?_; subst x)
    | ((try lift_lets -underBinder); intro x; clear_value x)
    | (intro _)
    | dsimp -zeta only
    | with_reducible apply State.dramRead_good
    | split
    | with_reducible refine Keep.fst (by assumption) ?_
    | with_reducible apply Keep.foldl
    | with_reducible apply Keep.foldl1

theorem State.sramError_good (out : km.part .out) (hLOG_LOG_ADDR_LO_ADDR : ∀ a, km.fld (R.LOG.LOG_ADDR_LO.ADDR a))
    (hLOG_LOG_INFO_ADDR_HI : ∀ a, km.fld (R.LOG.LOG_INFO.ADDR_HI a))
    (hLOG_LOG_INFO_ARRAY : ∀ a, km.fld (R.LOG.LOG_INFO.ARRAY a))
    (hLOG_LOG_INFO_BYTES : ∀ a, km.fld (R.LOG.LOG_INFO.BYTES a))
    (hLOG_LOG_INFO_CHANNEL : ∀ a, km.fld (R.LOG.LOG_INFO.CHANNEL a))
    (hLOG_LOG_INFO_CODE : ∀ a, km.fld (R.LOG.LOG_INFO.CODE a))
    (hLOG_LOG_INFO_PORT : ∀ a, km.fld (R.LOG.LOG_INFO.PORT a))
    (hLOG_LOG_INFO_SRAM : ∀ a, km.fld (R.LOG.LOG_INFO.SRAM a))
    (hLOG_LOG_TIME_HI_NS : ∀ a, km.fld (R.LOG.LOG_TIME_HI.NS a))
    (hLOG_LOG_TIME_LO_NS : ∀ a, km.fld (R.LOG.LOG_TIME_LO.NS a)) (hPAR_LOG_STAT_NEXT : km.fld R.PAR.LOG_STAT.NEXT)
    (hPAR_LOG_STAT_TOTAL : km.fld R.PAR.LOG_STAT.TOTAL) (hPAR_LOG_STAT_WRAPPED : km.fld R.PAR.LOG_STAT.WRAPPED)
    (hPAR_SRAM_ERR_CNT_COUNT : km.fld R.PAR.SRAM_ERR_CNT.COUNT) (hPG_ERR_ADDR_HI : ∀ a, km.fld (R.PG.ERR_ADDR_HI a))
    (hPG_ERR_ADDR_LO : ∀ a, km.fld (R.PG.ERR_ADDR_LO a)) (hPG_ERR_CODE : ∀ a, km.fld (R.PG.ERR_CODE a))
    (hPG_ERR_COUNT : ∀ a, km.fld (R.PG.ERR_COUNT a)) (hPG_ERR_OVERFLOW : ∀ a, km.fld (R.PG.ERR_OVERFLOW a))
    (hPG_ERR_SOURCE : ∀ a, km.fld (R.PG.ERR_SOURCE a)) (hPG_ERR_VALID : ∀ a, km.fld (R.PG.ERR_VALID a))
    (hPG_EVT_PEND : ∀ a, km.fld (R.PG.EVT_PEND a)) (s : State) (b array ofs bytes : Nat) (hs : s.Keeps km pq) : (State.sramError s b array ofs bytes).Keeps km pq := by
  unfold State.sramError
  repeat' first
    | with_reducible assumption
    | with_reducible exact hLOG_LOG_ADDR_LO_ADDR _
    | with_reducible exact hLOG_LOG_INFO_ADDR_HI _
    | with_reducible exact hLOG_LOG_INFO_ARRAY _
    | with_reducible exact hLOG_LOG_INFO_BYTES _
    | with_reducible exact hLOG_LOG_INFO_CHANNEL _
    | with_reducible exact hLOG_LOG_INFO_CODE _
    | with_reducible exact hLOG_LOG_INFO_PORT _
    | with_reducible exact hLOG_LOG_INFO_SRAM _
    | with_reducible exact hLOG_LOG_TIME_HI_NS _
    | with_reducible exact hLOG_LOG_TIME_LO_NS _
    | with_reducible exact hPG_ERR_ADDR_HI _
    | with_reducible exact hPG_ERR_ADDR_LO _
    | with_reducible exact hPG_ERR_CODE _
    | with_reducible exact hPG_ERR_COUNT _
    | with_reducible exact hPG_ERR_OVERFLOW _
    | with_reducible exact hPG_ERR_SOURCE _
    | with_reducible exact hPG_ERR_VALID _
    | with_reducible exact hPG_EVT_PEND _
    | ((try lift_lets -underBinder); intro x; refine Keep.use (k := km) (q := pq) (s := x) ?_ ?_; (on_goal 1 => dsimp -zeta only [x]); (on_goal 2 => clear_value x; intro _))
    | ((try lift_lets -underBinder); intro x; refine Keep.usePair (k := km) (q := pq) (p := x) ?_ ?_; (on_goal 1 => dsimp -zeta only [x]); (on_goal 2 => clear_value x; intro _))
    | ((try lift_lets -underBinder); intro x; refine Keep.memSt (x := x) ?_; subst x)
    | ((try lift_lets -underBinder); intro x; refine Keep.depSt (x := x) ?_; subst x)
    | ((try lift_lets -underBinder); intro x; clear_value x)
    | (intro _)
    | with_reducible apply State.err_good
    | with_reducible apply State.count_good
    | with_reducible apply State.ev_good
    | with_reducible apply State.parLog_good

theorem State.sramWritten_good (tim : km.part .tim) (mem : km.part .mem)
    (hTIM_DOM_OFFSET_OFFSET : ∀ a, km.fld (R.TIM.DOM_OFFSET.OFFSET a))
    (hTIM_DOM_RATE_RATE : ∀ a, km.fld (R.TIM.DOM_RATE.RATE a)) (s : State) (a : Nat) (hs : s.Keeps km pq) : (State.sramWritten s a).Keeps km pq := by
  unfold State.sramWritten
  repeat' first
    | with_reducible assumption
    | with_reducible exact hTIM_DOM_OFFSET_OFFSET _
    | with_reducible exact hTIM_DOM_RATE_RATE _
    | ((try lift_lets -underBinder); intro x; refine Keep.use (k := km) (q := pq) (s := x) ?_ ?_; (on_goal 1 => dsimp -zeta only [x]); (on_goal 2 => clear_value x; intro _))
    | ((try lift_lets -underBinder); intro x; refine Keep.usePair (k := km) (q := pq) (p := x) ?_ ?_; (on_goal 1 => dsimp -zeta only [x]); (on_goal 2 => clear_value x; intro _))
    | ((try lift_lets -underBinder); intro x; refine Keep.memSt (x := x) ?_; subst x)
    | ((try lift_lets -underBinder); intro x; refine Keep.depSt (x := x) ?_; subst x)
    | ((try lift_lets -underBinder); intro x; clear_value x)
    | (intro _)
    | with_reducible apply State.filter_good
    | (simp -zeta only [Keep.mk_iff]; with_reducible refine Keep.upd ?_ rfl ?_; on_goal 2 => (and_intros <;> with_reducible first | exact .inl rfl | exact .inl ⟨rfl, rfl, rfl⟩ | exact .inr ‹_› | exact Nat.le_refl _ | exact Nat.le_add_right _ _))

theorem State.dramCopy_good (out : km.part .out) (tim : km.part .tim) (mem : km.part .mem) (dram : km.part .dram)
    (hLOG_LOG_ADDR_LO_ADDR : ∀ a, km.fld (R.LOG.LOG_ADDR_LO.ADDR a))
    (hLOG_LOG_INFO_ADDR_HI : ∀ a, km.fld (R.LOG.LOG_INFO.ADDR_HI a))
    (hLOG_LOG_INFO_ARRAY : ∀ a, km.fld (R.LOG.LOG_INFO.ARRAY a))
    (hLOG_LOG_INFO_BYTES : ∀ a, km.fld (R.LOG.LOG_INFO.BYTES a))
    (hLOG_LOG_INFO_CHANNEL : ∀ a, km.fld (R.LOG.LOG_INFO.CHANNEL a))
    (hLOG_LOG_INFO_CODE : ∀ a, km.fld (R.LOG.LOG_INFO.CODE a))
    (hLOG_LOG_INFO_PORT : ∀ a, km.fld (R.LOG.LOG_INFO.PORT a))
    (hLOG_LOG_INFO_SRAM : ∀ a, km.fld (R.LOG.LOG_INFO.SRAM a))
    (hLOG_LOG_TIME_HI_NS : ∀ a, km.fld (R.LOG.LOG_TIME_HI.NS a))
    (hLOG_LOG_TIME_LO_NS : ∀ a, km.fld (R.LOG.LOG_TIME_LO.NS a))
    (hMEM_CH_STAT_FILLED : ∀ a, km.fld (R.MEM.CH_STAT.FILLED a))
    (hMEM_CH_STAT_MIRROR_OK : ∀ a, km.fld (R.MEM.CH_STAT.MIRROR_OK a))
    (hMEM_CH_STAT_STATE : ∀ a, km.fld (R.MEM.CH_STAT.STATE a))
    (hPAR_CHK_CTRL_INJ_ARM : km.fld R.PAR.CHK_CTRL.INJ_ARM)
    (hPAR_DRAM_ERR_CNT_COUNT : km.fld R.PAR.DRAM_ERR_CNT.COUNT) (hPAR_LOG_STAT_NEXT : km.fld R.PAR.LOG_STAT.NEXT)
    (hPAR_LOG_STAT_TOTAL : km.fld R.PAR.LOG_STAT.TOTAL) (hPAR_LOG_STAT_WRAPPED : km.fld R.PAR.LOG_STAT.WRAPPED)
    (hPAR_MIRROR_FIX_CNT_COUNT : km.fld R.PAR.MIRROR_FIX_CNT.COUNT)
    (hPG_ERR_ADDR_HI : ∀ a, km.fld (R.PG.ERR_ADDR_HI a)) (hPG_ERR_ADDR_LO : ∀ a, km.fld (R.PG.ERR_ADDR_LO a))
    (hPG_ERR_CODE : ∀ a, km.fld (R.PG.ERR_CODE a)) (hPG_ERR_COUNT : ∀ a, km.fld (R.PG.ERR_COUNT a))
    (hPG_ERR_OVERFLOW : ∀ a, km.fld (R.PG.ERR_OVERFLOW a)) (hPG_ERR_SOURCE : ∀ a, km.fld (R.PG.ERR_SOURCE a))
    (hPG_ERR_VALID : ∀ a, km.fld (R.PG.ERR_VALID a)) (hPG_EVT_PEND : ∀ a, km.fld (R.PG.EVT_PEND a))
    (hTIM_DOM_OFFSET_OFFSET : ∀ a, km.fld (R.TIM.DOM_OFFSET.OFFSET a))
    (hTIM_DOM_RATE_RATE : ∀ a, km.fld (R.TIM.DOM_RATE.RATE a)) (s : State) (rd wr a b n : Nat) (hs : s.Keeps km pq) : (State.dramCopy s rd wr a b n).Keeps km pq := by
  unfold State.dramCopy
  repeat' first
    | with_reducible assumption
    | with_reducible exact hLOG_LOG_ADDR_LO_ADDR _
    | with_reducible exact hLOG_LOG_INFO_ADDR_HI _
    | with_reducible exact hLOG_LOG_INFO_ARRAY _
    | with_reducible exact hLOG_LOG_INFO_BYTES _
    | with_reducible exact hLOG_LOG_INFO_CHANNEL _
    | with_reducible exact hLOG_LOG_INFO_CODE _
    | with_reducible exact hLOG_LOG_INFO_PORT _
    | with_reducible exact hLOG_LOG_INFO_SRAM _
    | with_reducible exact hLOG_LOG_TIME_HI_NS _
    | with_reducible exact hLOG_LOG_TIME_LO_NS _
    | with_reducible exact hMEM_CH_STAT_FILLED _
    | with_reducible exact hMEM_CH_STAT_MIRROR_OK _
    | with_reducible exact hMEM_CH_STAT_STATE _
    | with_reducible exact hPG_ERR_ADDR_HI _
    | with_reducible exact hPG_ERR_ADDR_LO _
    | with_reducible exact hPG_ERR_CODE _
    | with_reducible exact hPG_ERR_COUNT _
    | with_reducible exact hPG_ERR_OVERFLOW _
    | with_reducible exact hPG_ERR_SOURCE _
    | with_reducible exact hPG_ERR_VALID _
    | with_reducible exact hPG_EVT_PEND _
    | with_reducible exact hTIM_DOM_OFFSET_OFFSET _
    | with_reducible exact hTIM_DOM_RATE_RATE _
    | ((try lift_lets -underBinder); intro x; refine Keep.use (k := km) (q := pq) (s := x) ?_ ?_; (on_goal 1 => dsimp -zeta only [x]); (on_goal 2 => clear_value x; intro _))
    | ((try lift_lets -underBinder); intro x; refine Keep.usePair (k := km) (q := pq) (p := x) ?_ ?_; (on_goal 1 => dsimp -zeta only [x]); (on_goal 2 => clear_value x; intro _))
    | ((try lift_lets -underBinder); intro x; refine Keep.memSt (x := x) ?_; subst x)
    | ((try lift_lets -underBinder); intro x; refine Keep.depSt (x := x) ?_; subst x)
    | ((try lift_lets -underBinder); intro x; clear_value x)
    | (intro _)
    | dsimp -zeta only
    | with_reducible apply State.forN_good
    | with_reducible apply State.dramRead_good
    | with_reducible apply State.dramWrite_good

theorem State.showDemand_good (mem : km.part .mem) (hMEM_DEMAND_GBPS : ∀ a, km.fld (R.MEM.DEMAND.GBPS a)) (s : State)
    (hs : s.Keeps km pq) : (State.showDemand s).Keeps km pq := by
  unfold State.showDemand
  repeat' first
    | with_reducible assumption
    | with_reducible exact hMEM_DEMAND_GBPS _
    | ((try lift_lets -underBinder); intro x; refine Keep.use (k := km) (q := pq) (s := x) ?_ ?_; (on_goal 1 => dsimp -zeta only [x]); (on_goal 2 => clear_value x; intro _))
    | ((try lift_lets -underBinder); intro x; refine Keep.usePair (k := km) (q := pq) (p := x) ?_ ?_; (on_goal 1 => dsimp -zeta only [x]); (on_goal 2 => clear_value x; intro _))
    | ((try lift_lets -underBinder); intro x; refine Keep.memSt (x := x) ?_; subst x)
    | ((try lift_lets -underBinder); intro x; refine Keep.depSt (x := x) ?_; subst x)
    | ((try lift_lets -underBinder); intro x; clear_value x)
    | (intro _)
    | with_reducible apply Keep.ite
    | with_reducible apply Keep.ite1
    | dsimp -zeta only
    | with_reducible apply State.forN_good
    | with_reducible apply State.draw_good
    | with_reducible apply State.set_good
    | split
    | with_reducible refine Keep.fst (by assumption) ?_
    | (simp -zeta only [Keep.mk_iff]; with_reducible refine Keep.upd ?_ rfl ?_; on_goal 2 => (and_intros <;> with_reducible first | exact .inl rfl | exact .inl ⟨rfl, rfl, rfl⟩ | exact .inr ‹_› | exact Nat.le_refl _ | exact Nat.le_add_right _ _))

end Sys2Proof.Machine
end

