-- ==== Sys2Proof/Laws/KeepsIngest.lean ====
section
/-!
SUPPORT. Every function of Machine/Ingest.lean changes what the hypotheses of its lemma name, and nothing else.
-/
namespace Sys2Proof.Machine
set_option Elab.async false
set_option linter.unusedVariables false
set_option linter.unusedTactic false
set_option linter.unreachableTactic false

variable {km : May} {pq : State}

theorem State.setSlot_good (ing : km.part .ing) (s : State) (k : Nat) (x : SlotSt) (hs : s.Keeps km pq) : (State.setSlot s k x).Keeps km pq := by
  unfold State.setSlot
  repeat' first
    | with_reducible assumption
    | ((try lift_lets -underBinder); intro x; refine Keep.use (k := km) (q := pq) (s := x) ?_ ?_; (on_goal 1 => dsimp -zeta only [x]); (on_goal 2 => clear_value x; intro _))
    | ((try lift_lets -underBinder); intro x; refine Keep.usePair (k := km) (q := pq) (p := x) ?_ ?_; (on_goal 1 => dsimp -zeta only [x]); (on_goal 2 => clear_value x; intro _))
    | ((try lift_lets -underBinder); intro x; refine Keep.memSt (x := x) ?_; subst x)
    | ((try lift_lets -underBinder); intro x; refine Keep.depSt (x := x) ?_; subst x)
    | ((try lift_lets -underBinder); intro x; clear_value x)
    | (intro _)
    | with_reducible apply Keep.ite
    | (simp -zeta only [Keep.mk_iff]; with_reducible refine Keep.upd ?_ rfl ?_; on_goal 2 => (and_intros <;> with_reducible first | exact .inl rfl | exact .inl ⟨rfl, rfl, rfl⟩ | exact .inr ‹_› | exact Nat.le_refl _ | exact Nat.le_add_right _ _))

theorem State.setFlow_good (hFLOW_FLOW_STAT_STATE : ∀ a, km.fld (R.FLOW.FLOW_STAT.STATE a)) (s : State) (k v : Nat)
    (hs : s.Keeps km pq) : (State.setFlow s k v).Keeps km pq := by
  unfold State.setFlow
  repeat' first
    | with_reducible assumption
    | with_reducible exact hFLOW_FLOW_STAT_STATE _
    | (intro _)
    | with_reducible apply State.set_good

theorem State.flowEv_good (out : km.part .out) (hPG_EVT_PEND : ∀ a, km.fld (R.PG.EVT_PEND a)) (s : State) (k e : Nat)
    (hs : s.Keeps km pq) : (State.flowEv s k e).Keeps km pq := by
  unfold State.flowEv
  repeat' first
    | with_reducible assumption
    | with_reducible exact hPG_EVT_PEND _
    | (intro _)
    | with_reducible apply State.ev_good

theorem State.flowErr_good (out : km.part .out) (hPG_ERR_ADDR_HI : ∀ a, km.fld (R.PG.ERR_ADDR_HI a))
    (hPG_ERR_ADDR_LO : ∀ a, km.fld (R.PG.ERR_ADDR_LO a)) (hPG_ERR_CODE : ∀ a, km.fld (R.PG.ERR_CODE a))
    (hPG_ERR_COUNT : ∀ a, km.fld (R.PG.ERR_COUNT a)) (hPG_ERR_OVERFLOW : ∀ a, km.fld (R.PG.ERR_OVERFLOW a))
    (hPG_ERR_SOURCE : ∀ a, km.fld (R.PG.ERR_SOURCE a)) (hPG_ERR_VALID : ∀ a, km.fld (R.PG.ERR_VALID a))
    (hPG_EVT_PEND : ∀ a, km.fld (R.PG.EVT_PEND a)) (s : State) (k code : Nat) (hs : s.Keeps km pq) : (State.flowErr s k code).Keeps km pq := by
  unfold State.flowErr
  repeat' first
    | with_reducible assumption
    | with_reducible exact hPG_ERR_ADDR_HI _
    | with_reducible exact hPG_ERR_ADDR_LO _
    | with_reducible exact hPG_ERR_CODE _
    | with_reducible exact hPG_ERR_COUNT _
    | with_reducible exact hPG_ERR_OVERFLOW _
    | with_reducible exact hPG_ERR_SOURCE _
    | with_reducible exact hPG_ERR_VALID _
    | with_reducible exact hPG_EVT_PEND _
    | (intro _)
    | with_reducible apply State.err_good

theorem State.showLoad_good (tim : km.part .tim) (hING_LOAD_GBPS : km.fld R.ING.LOAD.GBPS)
    (hING_PORT_LOAD_GBPS : ∀ a, km.fld (R.ING.PORT_LOAD.GBPS a))
    (hTIM_DOM_OFFSET_OFFSET : ∀ a, km.fld (R.TIM.DOM_OFFSET.OFFSET a))
    (hTIM_DOM_RATE_RATE : ∀ a, km.fld (R.TIM.DOM_RATE.RATE a)) (s : State) (hs : s.Keeps km pq) : (State.showLoad s).Keeps km pq := by
  unfold State.showLoad
  repeat' first
    | with_reducible assumption
    | with_reducible exact hING_PORT_LOAD_GBPS _
    | with_reducible exact hTIM_DOM_OFFSET_OFFSET _
    | with_reducible exact hTIM_DOM_RATE_RATE _
    | ((try lift_lets -underBinder); intro x; refine Keep.use (k := km) (q := pq) (s := x) ?_ ?_; (on_goal 1 => dsimp -zeta only [x]); (on_goal 2 => clear_value x; intro _))
    | ((try lift_lets -underBinder); intro x; refine Keep.usePair (k := km) (q := pq) (p := x) ?_ ?_; (on_goal 1 => dsimp -zeta only [x]); (on_goal 2 => clear_value x; intro _))
    | ((try lift_lets -underBinder); intro x; refine Keep.memSt (x := x) ?_; subst x)
    | ((try lift_lets -underBinder); intro x; refine Keep.depSt (x := x) ?_; subst x)
    | ((try lift_lets -underBinder); intro x; clear_value x)
    | (intro _)
    | with_reducible apply State.set_good
    | with_reducible apply State.forN_good

theorem State.showFree_good (hING_FS_FREE_MIB : km.fld R.ING.FS_FREE.MIB) (s : State) (hs : s.Keeps km pq) : (State.showFree s).Keeps km pq := by
  unfold State.showFree
  repeat' first
    | with_reducible assumption
    | (intro _)
    | with_reducible apply State.set_good

theorem State.flowEnable_good (out : km.part .out) (tim : km.part .tim) (ing : km.part .ing)
    (hFLOW_FLOW_CTRL_EN : ∀ a, km.fld (R.FLOW.FLOW_CTRL.EN a))
    (hFLOW_FLOW_STAT_STATE : ∀ a, km.fld (R.FLOW.FLOW_STAT.STATE a))
    (hFLOW_FS_ADDR_HI_ADDR : ∀ a, km.fld (R.FLOW.FS_ADDR_HI.ADDR a))
    (hFLOW_FS_ADDR_LO_ADDR : ∀ a, km.fld (R.FLOW.FS_ADDR_LO.ADDR a)) (hING_FS_FREE_MIB : km.fld R.ING.FS_FREE.MIB)
    (hING_LOAD_GBPS : km.fld R.ING.LOAD.GBPS) (hING_PORT_LOAD_GBPS : ∀ a, km.fld (R.ING.PORT_LOAD.GBPS a))
    (hPG_ERR_ADDR_HI : ∀ a, km.fld (R.PG.ERR_ADDR_HI a)) (hPG_ERR_ADDR_LO : ∀ a, km.fld (R.PG.ERR_ADDR_LO a))
    (hPG_ERR_CODE : ∀ a, km.fld (R.PG.ERR_CODE a)) (hPG_ERR_COUNT : ∀ a, km.fld (R.PG.ERR_COUNT a))
    (hPG_ERR_OVERFLOW : ∀ a, km.fld (R.PG.ERR_OVERFLOW a)) (hPG_ERR_SOURCE : ∀ a, km.fld (R.PG.ERR_SOURCE a))
    (hPG_ERR_VALID : ∀ a, km.fld (R.PG.ERR_VALID a)) (hPG_EVT_PEND : ∀ a, km.fld (R.PG.EVT_PEND a))
    (hTIM_DOM_OFFSET_OFFSET : ∀ a, km.fld (R.TIM.DOM_OFFSET.OFFSET a))
    (hTIM_DOM_RATE_RATE : ∀ a, km.fld (R.TIM.DOM_RATE.RATE a)) (s : State) (k : Nat) (hs : s.Keeps km pq) : (State.flowEnable s k).Keeps km pq := by
  unfold State.flowEnable
  repeat' first
    | with_reducible assumption
    | with_reducible exact hFLOW_FLOW_CTRL_EN _
    | with_reducible exact hFLOW_FLOW_STAT_STATE _
    | with_reducible exact hFLOW_FS_ADDR_HI_ADDR _
    | with_reducible exact hFLOW_FS_ADDR_LO_ADDR _
    | with_reducible exact hING_PORT_LOAD_GBPS _
    | with_reducible exact hPG_ERR_ADDR_HI _
    | with_reducible exact hPG_ERR_ADDR_LO _
    | with_reducible exact hPG_ERR_CODE _
    | with_reducible exact hPG_ERR_COUNT _
    | with_reducible exact hPG_ERR_OVERFLOW _
    | with_reducible exact hPG_ERR_SOURCE _
    | with_reducible exact hPG_ERR_VALID _
    | with_reducible exact hPG_EVT_PEND _
    | with_reducible exact hTIM_DOM_OFFSET_OFFSET _
    | with_reducible exact hTIM_DOM_RATE_RATE _
    | ((try lift_lets -underBinder); intro x; refine Keep.use (k := km) (q := pq) (s := x) ?_ ?_; (on_goal 1 => dsimp -zeta only [x]); (on_goal 2 => clear_value x; intro _))
    | ((try lift_lets -underBinder); intro x; refine Keep.usePair (k := km) (q := pq) (p := x) ?_ ?_; (on_goal 1 => dsimp -zeta only [x]); (on_goal 2 => clear_value x; intro _))
    | ((try lift_lets -underBinder); intro x; refine Keep.memSt (x := x) ?_; subst x)
    | ((try lift_lets -underBinder); intro x; refine Keep.depSt (x := x) ?_; subst x)
    | ((try lift_lets -underBinder); intro x; clear_value x)
    | (intro _)
    | with_reducible apply Keep.ite
    | with_reducible apply State.set_good
    | with_reducible apply State.setFlow_good
    | with_reducible apply State.flowErr_good
    | with_reducible apply State.ev_good
    | with_reducible apply State.setSlot_good
    | with_reducible apply State.set64_good
    | with_reducible apply State.showLoad_good
    | with_reducible apply State.showFree_good

theorem State.flowDisable_good (tim : km.part .tim) (ing : km.part .ing)
    (hFLOW_FLOW_CTRL_EN : ∀ a, km.fld (R.FLOW.FLOW_CTRL.EN a))
    (hFLOW_FLOW_STAT_LEGA_UP : ∀ a, km.fld (R.FLOW.FLOW_STAT.LEGA_UP a))
    (hFLOW_FLOW_STAT_LEGB_UP : ∀ a, km.fld (R.FLOW.FLOW_STAT.LEGB_UP a))
    (hFLOW_FLOW_STAT_PAIR_WAIT : ∀ a, km.fld (R.FLOW.FLOW_STAT.PAIR_WAIT a))
    (hFLOW_FLOW_STAT_STATE : ∀ a, km.fld (R.FLOW.FLOW_STAT.STATE a)) (hING_FS_FREE_MIB : km.fld R.ING.FS_FREE.MIB)
    (hING_LOAD_GBPS : km.fld R.ING.LOAD.GBPS) (hING_PORT_LOAD_GBPS : ∀ a, km.fld (R.ING.PORT_LOAD.GBPS a))
    (hTIM_DOM_OFFSET_OFFSET : ∀ a, km.fld (R.TIM.DOM_OFFSET.OFFSET a))
    (hTIM_DOM_RATE_RATE : ∀ a, km.fld (R.TIM.DOM_RATE.RATE a)) (s : State) (k : Nat) (hs : s.Keeps km pq) : (State.flowDisable s k).Keeps km pq := by
  unfold State.flowDisable
  repeat' first
    | with_reducible assumption
    | with_reducible exact hFLOW_FLOW_CTRL_EN _
    | with_reducible exact hFLOW_FLOW_STAT_LEGA_UP _
    | with_reducible exact hFLOW_FLOW_STAT_LEGB_UP _
    | with_reducible exact hFLOW_FLOW_STAT_PAIR_WAIT _
    | with_reducible exact hFLOW_FLOW_STAT_STATE _
    | with_reducible exact hING_PORT_LOAD_GBPS _
    | with_reducible exact hTIM_DOM_OFFSET_OFFSET _
    | with_reducible exact hTIM_DOM_RATE_RATE _
    | ((try lift_lets -underBinder); intro x; refine Keep.use (k := km) (q := pq) (s := x) ?_ ?_; (on_goal 1 => dsimp -zeta only [x]); (on_goal 2 => clear_value x; intro _))
    | ((try lift_lets -underBinder); intro x; refine Keep.usePair (k := km) (q := pq) (p := x) ?_ ?_; (on_goal 1 => dsimp -zeta only [x]); (on_goal 2 => clear_value x; intro _))
    | ((try lift_lets -underBinder); intro x; refine Keep.memSt (x := x) ?_; subst x)
    | ((try lift_lets -underBinder); intro x; refine Keep.depSt (x := x) ?_; subst x)
    | ((try lift_lets -underBinder); intro x; clear_value x)
    | (intro _)
    | with_reducible apply State.setSlot_good
    | with_reducible apply State.set_good
    | with_reducible apply State.setFlow_good
    | with_reducible apply State.showLoad_good
    | with_reducible apply State.showFree_good

theorem State.legWrite_good (out : km.part .out) (tim : km.part .tim) (ing : km.part .ing) (any : ∀ f, km.fld f)
    (s : State) (k l v : Nat) (hs : s.Keeps km pq) : (State.legWrite s k l v).Keeps km pq := by
  unfold State.legWrite
  repeat' first
    | with_reducible assumption
    | (with_reducible (intros; exact any _))
    | ((try lift_lets -underBinder); intro x; refine Keep.use (k := km) (q := pq) (s := x) ?_ ?_; (on_goal 1 => dsimp -zeta only [x]); (on_goal 2 => clear_value x; intro _))
    | ((try lift_lets -underBinder); intro x; refine Keep.usePair (k := km) (q := pq) (p := x) ?_ ?_; (on_goal 1 => dsimp -zeta only [x]); (on_goal 2 => clear_value x; intro _))
    | ((try lift_lets -underBinder); intro x; refine Keep.memSt (x := x) ?_; subst x)
    | ((try lift_lets -underBinder); intro x; refine Keep.depSt (x := x) ?_; subst x)
    | ((try lift_lets -underBinder); intro x; clear_value x)
    | (intro _)
    | with_reducible apply Keep.ite
    | with_reducible apply State.setSlot_good
    | with_reducible apply State.set_good
    | with_reducible apply State.showLoad_good
    | with_reducible apply State.flowErr_good
    | with_reducible apply State.ev_good

theorem State.flowFields_good (out : km.part .out)
    (hFLOW_FLOW_CTRL_FS_DEPTH : ∀ a, km.fld (R.FLOW.FLOW_CTRL.FS_DEPTH a))
    (hFLOW_FLOW_CTRL_LOSS_HOLD : ∀ a, km.fld (R.FLOW.FLOW_CTRL.LOSS_HOLD a))
    (hFLOW_FLOW_CTRL_LOSS_POLICY : ∀ a, km.fld (R.FLOW.FLOW_CTRL.LOSS_POLICY a))
    (hFLOW_FLOW_CTRL_PAIR : ∀ a, km.fld (R.FLOW.FLOW_CTRL.PAIR a))
    (hFLOW_FLOW_CTRL_PAIR_EN : ∀ a, km.fld (R.FLOW.FLOW_CTRL.PAIR_EN a))
    (hPG_ERR_ADDR_HI : ∀ a, km.fld (R.PG.ERR_ADDR_HI a)) (hPG_ERR_ADDR_LO : ∀ a, km.fld (R.PG.ERR_ADDR_LO a))
    (hPG_ERR_CODE : ∀ a, km.fld (R.PG.ERR_CODE a)) (hPG_ERR_COUNT : ∀ a, km.fld (R.PG.ERR_COUNT a))
    (hPG_ERR_OVERFLOW : ∀ a, km.fld (R.PG.ERR_OVERFLOW a)) (hPG_ERR_SOURCE : ∀ a, km.fld (R.PG.ERR_SOURCE a))
    (hPG_ERR_VALID : ∀ a, km.fld (R.PG.ERR_VALID a)) (hPG_EVT_PEND : ∀ a, km.fld (R.PG.EVT_PEND a)) (s : State)
    (k v : Nat) (hs : s.Keeps km pq) : (State.flowFields s k v).Keeps km pq := by
  unfold State.flowFields
  repeat' first
    | with_reducible assumption
    | with_reducible exact hFLOW_FLOW_CTRL_FS_DEPTH _
    | with_reducible exact hFLOW_FLOW_CTRL_LOSS_HOLD _
    | with_reducible exact hFLOW_FLOW_CTRL_LOSS_POLICY _
    | with_reducible exact hFLOW_FLOW_CTRL_PAIR _
    | with_reducible exact hFLOW_FLOW_CTRL_PAIR_EN _
    | with_reducible exact hPG_ERR_ADDR_HI _
    | with_reducible exact hPG_ERR_ADDR_LO _
    | with_reducible exact hPG_ERR_CODE _
    | with_reducible exact hPG_ERR_COUNT _
    | with_reducible exact hPG_ERR_OVERFLOW _
    | with_reducible exact hPG_ERR_SOURCE _
    | with_reducible exact hPG_ERR_VALID _
    | with_reducible exact hPG_EVT_PEND _
    | ((try lift_lets -underBinder); intro x; refine Keep.use (k := km) (q := pq) (s := x) ?_ ?_; (on_goal 1 => dsimp -zeta only [x]); (on_goal 2 => clear_value x; intro _))
    | ((try lift_lets -underBinder); intro x; refine Keep.usePair (k := km) (q := pq) (p := x) ?_ ?_; (on_goal 1 => dsimp -zeta only [x]); (on_goal 2 => clear_value x; intro _))
    | ((try lift_lets -underBinder); intro x; refine Keep.memSt (x := x) ?_; subst x)
    | ((try lift_lets -underBinder); intro x; refine Keep.depSt (x := x) ?_; subst x)
    | ((try lift_lets -underBinder); intro x; clear_value x)
    | (intro _)
    | with_reducible apply Keep.ite
    | with_reducible apply State.flowErr_good
    | with_reducible apply State.set_good

theorem State.flowLegs_good (out : km.part .out) (tim : km.part .tim) (ing : km.part .ing) (any : ∀ f, km.fld f)
    (s : State) (k v : Nat) (hs : s.Keeps km pq) : (State.flowLegs s k v).Keeps km pq := by
  unfold State.flowLegs
  repeat' first
    | with_reducible assumption
    | (with_reducible (intros; exact any _))
    | (intro _)
    | with_reducible apply State.legWrite_good

theorem State.flowCtrlWrite_good (out : km.part .out) (tim : km.part .tim) (ing : km.part .ing) (any : ∀ f, km.fld f)
    (s : State) (k v : Nat) (hs : s.Keeps km pq) : (State.flowCtrlWrite s k v).Keeps km pq := by
  unfold State.flowCtrlWrite
  repeat' first
    | with_reducible assumption
    | (with_reducible (intros; exact any _))
    | ((try lift_lets -underBinder); intro x; refine Keep.use (k := km) (q := pq) (s := x) ?_ ?_; (on_goal 1 => dsimp -zeta only [x]); (on_goal 2 => clear_value x; intro _))
    | ((try lift_lets -underBinder); intro x; refine Keep.usePair (k := km) (q := pq) (p := x) ?_ ?_; (on_goal 1 => dsimp -zeta only [x]); (on_goal 2 => clear_value x; intro _))
    | ((try lift_lets -underBinder); intro x; refine Keep.memSt (x := x) ?_; subst x)
    | ((try lift_lets -underBinder); intro x; refine Keep.depSt (x := x) ?_; subst x)
    | ((try lift_lets -underBinder); intro x; clear_value x)
    | (intro _)
    | with_reducible apply Keep.ite
    | with_reducible apply State.flowFields_good
    | with_reducible apply State.set_good
    | with_reducible apply State.flowDisable_good
    | with_reducible apply State.setFlow_good
    | with_reducible apply State.flowLegs_good
    | with_reducible apply State.flowEnable_good

theorem State.ethUp_good (out : km.part .out)
    (hETH_PORT_STAT_ALIGN_LOCK : ∀ a, km.fld (R.ETH.PORT_STAT.ALIGN_LOCK a))
    (hETH_PORT_STAT_AN_DONE : ∀ a, km.fld (R.ETH.PORT_STAT.AN_DONE a))
    (hETH_PORT_STAT_FEC_LOCK : ∀ a, km.fld (R.ETH.PORT_STAT.FEC_LOCK a))
    (hETH_PORT_STAT_LINK_UP : ∀ a, km.fld (R.ETH.PORT_STAT.LINK_UP a))
    (hLNL_LANE_STAT_STATE : ∀ a, km.fld (R.LNL.LANE_STAT.STATE a)) (hPG_EVT_PEND : ∀ a, km.fld (R.PG.EVT_PEND a))
    (s : State) (p : Nat) (hs : s.Keeps km pq) : (State.ethUp s p).Keeps km pq := by
  unfold State.ethUp
  repeat' first
    | with_reducible assumption
    | with_reducible exact hETH_PORT_STAT_ALIGN_LOCK _
    | with_reducible exact hETH_PORT_STAT_AN_DONE _
    | with_reducible exact hETH_PORT_STAT_FEC_LOCK _
    | with_reducible exact hETH_PORT_STAT_LINK_UP _
    | with_reducible exact hLNL_LANE_STAT_STATE _
    | with_reducible exact hPG_EVT_PEND _
    | ((try lift_lets -underBinder); intro x; refine Keep.use (k := km) (q := pq) (s := x) ?_ ?_; (on_goal 1 => dsimp -zeta only [x]); (on_goal 2 => clear_value x; intro _))
    | ((try lift_lets -underBinder); intro x; refine Keep.usePair (k := km) (q := pq) (p := x) ?_ ?_; (on_goal 1 => dsimp -zeta only [x]); (on_goal 2 => clear_value x; intro _))
    | ((try lift_lets -underBinder); intro x; refine Keep.memSt (x := x) ?_; subst x)
    | ((try lift_lets -underBinder); intro x; refine Keep.depSt (x := x) ?_; subst x)
    | ((try lift_lets -underBinder); intro x; clear_value x)
    | (intro _)
    | with_reducible apply Keep.ite
    | with_reducible apply State.set_good
    | with_reducible apply State.ev_good
    | with_reducible apply Keep.foldl

theorem State.ethLane_good (hLNL_FEC_CORR_COUNT : ∀ a, km.fld (R.LNL.FEC_CORR.COUNT a))
    (hLNL_FEC_UNCORR_COUNT : ∀ a, km.fld (R.LNL.FEC_UNCORR.COUNT a))
    (hLNL_SER_CNT_COUNT : ∀ a, km.fld (R.LNL.SER_CNT.COUNT a)) (hLNL_TX_TAPS_C0 : ∀ a, km.fld (R.LNL.TX_TAPS.C0 a))
    (hLNL_TX_TAPS_CM1 : ∀ a, km.fld (R.LNL.TX_TAPS.CM1 a)) (hLNL_TX_TAPS_CM2 : ∀ a, km.fld (R.LNL.TX_TAPS.CM2 a))
    (hLNL_TX_TAPS_CP1 : ∀ a, km.fld (R.LNL.TX_TAPS.CP1 a)) (hLNL_TX_TAPS_CP2 : ∀ a, km.fld (R.LNL.TX_TAPS.CP2 a))
    (s : State) (l corr uncorr : Nat) (hs : s.Keeps km pq) : (State.ethLane s l corr uncorr).Keeps km pq := by
  unfold State.ethLane
  repeat' first
    | with_reducible assumption
    | with_reducible exact hLNL_FEC_CORR_COUNT _
    | with_reducible exact hLNL_FEC_UNCORR_COUNT _
    | with_reducible exact hLNL_SER_CNT_COUNT _
    | with_reducible exact hLNL_TX_TAPS_C0 _
    | with_reducible exact hLNL_TX_TAPS_CM1 _
    | with_reducible exact hLNL_TX_TAPS_CM2 _
    | with_reducible exact hLNL_TX_TAPS_CP1 _
    | with_reducible exact hLNL_TX_TAPS_CP2 _
    | ((try lift_lets -underBinder); intro x; refine Keep.use (k := km) (q := pq) (s := x) ?_ ?_; (on_goal 1 => dsimp -zeta only [x]); (on_goal 2 => clear_value x; intro _))
    | ((try lift_lets -underBinder); intro x; refine Keep.usePair (k := km) (q := pq) (p := x) ?_ ?_; (on_goal 1 => dsimp -zeta only [x]); (on_goal 2 => clear_value x; intro _))
    | ((try lift_lets -underBinder); intro x; refine Keep.memSt (x := x) ?_; subst x)
    | ((try lift_lets -underBinder); intro x; refine Keep.depSt (x := x) ?_; subst x)
    | ((try lift_lets -underBinder); intro x; clear_value x)
    | (intro _)
    | with_reducible apply State.set_good
    | with_reducible apply State.count_good
    | with_reducible apply State.drawN_good

theorem State.ethDown_good (out : km.part .out)
    (hETH_PORT_STAT_ALIGN_LOCK : ∀ a, km.fld (R.ETH.PORT_STAT.ALIGN_LOCK a))
    (hETH_PORT_STAT_AN_DONE : ∀ a, km.fld (R.ETH.PORT_STAT.AN_DONE a))
    (hETH_PORT_STAT_FEC_LOCK : ∀ a, km.fld (R.ETH.PORT_STAT.FEC_LOCK a))
    (hETH_PORT_STAT_LINK_UP : ∀ a, km.fld (R.ETH.PORT_STAT.LINK_UP a))
    (hLNL_LANE_STAT_STATE : ∀ a, km.fld (R.LNL.LANE_STAT.STATE a)) (hPG_EVT_PEND : ∀ a, km.fld (R.PG.EVT_PEND a))
    (s : State) (p : Nat) (hs : s.Keeps km pq) : (State.ethDown s p).Keeps km pq := by
  unfold State.ethDown
  repeat' first
    | with_reducible assumption
    | with_reducible exact hETH_PORT_STAT_ALIGN_LOCK _
    | with_reducible exact hETH_PORT_STAT_AN_DONE _
    | with_reducible exact hETH_PORT_STAT_FEC_LOCK _
    | with_reducible exact hETH_PORT_STAT_LINK_UP _
    | with_reducible exact hLNL_LANE_STAT_STATE _
    | with_reducible exact hPG_EVT_PEND _
    | ((try lift_lets -underBinder); intro x; refine Keep.use (k := km) (q := pq) (s := x) ?_ ?_; (on_goal 1 => dsimp -zeta only [x]); (on_goal 2 => clear_value x; intro _))
    | ((try lift_lets -underBinder); intro x; refine Keep.usePair (k := km) (q := pq) (p := x) ?_ ?_; (on_goal 1 => dsimp -zeta only [x]); (on_goal 2 => clear_value x; intro _))
    | ((try lift_lets -underBinder); intro x; refine Keep.memSt (x := x) ?_; subst x)
    | ((try lift_lets -underBinder); intro x; refine Keep.depSt (x := x) ?_; subst x)
    | ((try lift_lets -underBinder); intro x; clear_value x)
    | (intro _)
    | with_reducible apply Keep.ite
    | with_reducible apply State.set_good
    | with_reducible apply State.ev_good
    | with_reducible apply Keep.foldl

theorem State.ethSent_good (hETH_TX_FRAMES_COUNT : ∀ a, km.fld (R.ETH.TX_FRAMES.COUNT a)) (s : State) (p n : Nat)
    (hs : s.Keeps km pq) : (State.ethSent s p n).Keeps km pq := by
  unfold State.ethSent
  repeat' first
    | with_reducible assumption
    | with_reducible exact hETH_TX_FRAMES_COUNT _
    | (intro _)
    | with_reducible apply State.count_good

theorem State.rxDrop_good (hETH_RX_DROP_COUNT : ∀ a, km.fld (R.ETH.RX_DROP.COUNT a)) (s : State) (p : Nat)
    (hs : s.Keeps km pq) : (State.rxDrop s p).Keeps km pq := by
  unfold State.rxDrop
  repeat' first
    | with_reducible assumption
    | with_reducible exact hETH_RX_DROP_COUNT _
    | (intro _)
    | with_reducible apply State.count_good

theorem State.ethFrame_good (out : km.part .out) (ing : km.part .ing)
    (hETH_FCS_ERR_COUNT : ∀ a, km.fld (R.ETH.FCS_ERR.COUNT a))
    (hETH_FEC_CORR_COUNT : ∀ a, km.fld (R.ETH.FEC_CORR.COUNT a))
    (hETH_FEC_UNCORR_COUNT : ∀ a, km.fld (R.ETH.FEC_UNCORR.COUNT a))
    (hETH_RX_DROP_COUNT : ∀ a, km.fld (R.ETH.RX_DROP.COUNT a))
    (hETH_RX_FRAMES_COUNT : ∀ a, km.fld (R.ETH.RX_FRAMES.COUNT a))
    (hETH_RX_OVERSIZE_COUNT : ∀ a, km.fld (R.ETH.RX_OVERSIZE.COUNT a))
    (hLNL_FEC_CORR_COUNT : ∀ a, km.fld (R.LNL.FEC_CORR.COUNT a))
    (hLNL_FEC_UNCORR_COUNT : ∀ a, km.fld (R.LNL.FEC_UNCORR.COUNT a))
    (hLNL_SER_CNT_COUNT : ∀ a, km.fld (R.LNL.SER_CNT.COUNT a)) (hLNL_TX_TAPS_C0 : ∀ a, km.fld (R.LNL.TX_TAPS.C0 a))
    (hLNL_TX_TAPS_CM1 : ∀ a, km.fld (R.LNL.TX_TAPS.CM1 a)) (hLNL_TX_TAPS_CM2 : ∀ a, km.fld (R.LNL.TX_TAPS.CM2 a))
    (hLNL_TX_TAPS_CP1 : ∀ a, km.fld (R.LNL.TX_TAPS.CP1 a)) (hLNL_TX_TAPS_CP2 : ∀ a, km.fld (R.LNL.TX_TAPS.CP2 a))
    (hPG_EVT_PEND : ∀ a, km.fld (R.PG.EVT_PEND a)) (s : State) (p : Nat) (f : EthFrame) (corr uncorr : Nat)
    (hs : s.Keeps km pq) : (State.ethFrame s p f corr uncorr).Keeps km pq := by
  unfold State.ethFrame
  repeat' first
    | with_reducible assumption
    | with_reducible exact hETH_FCS_ERR_COUNT _
    | with_reducible exact hETH_FEC_CORR_COUNT _
    | with_reducible exact hETH_FEC_UNCORR_COUNT _
    | with_reducible exact hETH_RX_DROP_COUNT _
    | with_reducible exact hETH_RX_FRAMES_COUNT _
    | with_reducible exact hETH_RX_OVERSIZE_COUNT _
    | with_reducible exact hLNL_FEC_CORR_COUNT _
    | with_reducible exact hLNL_FEC_UNCORR_COUNT _
    | with_reducible exact hLNL_SER_CNT_COUNT _
    | with_reducible exact hLNL_TX_TAPS_C0 _
    | with_reducible exact hLNL_TX_TAPS_CM1 _
    | with_reducible exact hLNL_TX_TAPS_CM2 _
    | with_reducible exact hLNL_TX_TAPS_CP1 _
    | with_reducible exact hLNL_TX_TAPS_CP2 _
    | with_reducible exact hPG_EVT_PEND _
    | ((try lift_lets -underBinder); intro x; refine Keep.use (k := km) (q := pq) (s := x) ?_ ?_; (on_goal 1 => dsimp -zeta only [x]); (on_goal 2 => clear_value x; intro _))
    | ((try lift_lets -underBinder); intro x; refine Keep.usePair (k := km) (q := pq) (p := x) ?_ ?_; (on_goal 1 => dsimp -zeta only [x]); (on_goal 2 => clear_value x; intro _))
    | ((try lift_lets -underBinder); intro x; refine Keep.memSt (x := x) ?_; subst x)
    | ((try lift_lets -underBinder); intro x; refine Keep.depSt (x := x) ?_; subst x)
    | ((try lift_lets -underBinder); intro x; clear_value x)
    | (intro _)
    | with_reducible apply Keep.ite
    | with_reducible apply State.count_good
    | with_reducible apply State.evIf_good
    | with_reducible apply State.ethLane_good
    | with_reducible apply State.rxDrop_good
    | with_reducible apply State.emit_good
    | split
    | (simp -zeta only [Keep.mk_iff]; with_reducible refine Keep.upd ?_ rfl ?_; on_goal 2 => (and_intros <;> with_reducible first | exact .inl rfl | exact .inl ⟨rfl, rfl, rfl⟩ | exact .inr ‹_› | exact Nat.le_refl _ | exact Nat.le_add_right _ _))
    | with_reducible apply Keep.foldl

theorem State.flowUp_good (out : km.part .out) (ing : km.part .ing)
    (hFLOW_FLOW_STAT_STATE : ∀ a, km.fld (R.FLOW.FLOW_STAT.STATE a)) (hPG_EVT_PEND : ∀ a, km.fld (R.PG.EVT_PEND a))
    (s : State) (k : Nat) (hs : s.Keeps km pq) : (State.flowUp s k).Keeps km pq := by
  unfold State.flowUp
  repeat' first
    | with_reducible assumption
    | with_reducible exact hFLOW_FLOW_STAT_STATE _
    | with_reducible exact hPG_EVT_PEND _
    | ((try lift_lets -underBinder); intro x; refine Keep.use (k := km) (q := pq) (s := x) ?_ ?_; (on_goal 1 => dsimp -zeta only [x]); (on_goal 2 => clear_value x; intro _))
    | ((try lift_lets -underBinder); intro x; refine Keep.usePair (k := km) (q := pq) (p := x) ?_ ?_; (on_goal 1 => dsimp -zeta only [x]); (on_goal 2 => clear_value x; intro _))
    | ((try lift_lets -underBinder); intro x; refine Keep.memSt (x := x) ?_; subst x)
    | ((try lift_lets -underBinder); intro x; refine Keep.depSt (x := x) ?_; subst x)
    | ((try lift_lets -underBinder); intro x; clear_value x)
    | (intro _)
    | with_reducible apply Keep.ite
    | with_reducible apply State.setFlow_good
    | with_reducible apply State.flowEv_good
    | with_reducible apply State.setSlot_good

theorem State.rateCheck_good (out : km.part .out) (ing : km.part .ing) (hPG_EVT_PEND : ∀ a, km.fld (R.PG.EVT_PEND a))
    (s : State) (k ts : Nat) (hs : s.Keeps km pq) : (State.rateCheck s k ts).Keeps km pq := by
  unfold State.rateCheck
  repeat' first
    | with_reducible assumption
    | with_reducible exact hPG_EVT_PEND _
    | ((try lift_lets -underBinder); intro x; refine Keep.use (k := km) (q := pq) (s := x) ?_ ?_; (on_goal 1 => dsimp -zeta only [x]); (on_goal 2 => clear_value x; intro _))
    | ((try lift_lets -underBinder); intro x; refine Keep.usePair (k := km) (q := pq) (p := x) ?_ ?_; (on_goal 1 => dsimp -zeta only [x]); (on_goal 2 => clear_value x; intro _))
    | ((try lift_lets -underBinder); intro x; refine Keep.memSt (x := x) ?_; subst x)
    | ((try lift_lets -underBinder); intro x; refine Keep.depSt (x := x) ?_; subst x)
    | ((try lift_lets -underBinder); intro x; clear_value x)
    | (intro _)
    | with_reducible apply Keep.ite
    | with_reducible apply State.setSlot_good
    | with_reducible apply State.flowEv_good
    | split

theorem State.frameSettle_good (ing : km.part .ing) (hFLOW_DROPS_COUNT : ∀ a, km.fld (R.FLOW.DROPS.COUNT a))
    (s : State) (k : Nat) (hs : s.Keeps km pq) : (State.frameSettle s k).Keeps km pq := by
  unfold State.frameSettle
  repeat' first
    | with_reducible assumption
    | with_reducible exact hFLOW_DROPS_COUNT _
    | ((try lift_lets -underBinder); intro x; refine Keep.use (k := km) (q := pq) (s := x) ?_ ?_; (on_goal 1 => dsimp -zeta only [x]); (on_goal 2 => clear_value x; intro _))
    | ((try lift_lets -underBinder); intro x; refine Keep.usePair (k := km) (q := pq) (p := x) ?_ ?_; (on_goal 1 => dsimp -zeta only [x]); (on_goal 2 => clear_value x; intro _))
    | ((try lift_lets -underBinder); intro x; refine Keep.memSt (x := x) ?_; subst x)
    | ((try lift_lets -underBinder); intro x; refine Keep.depSt (x := x) ?_; subst x)
    | ((try lift_lets -underBinder); intro x; clear_value x)
    | (intro _)
    | with_reducible apply Keep.ite
    | with_reducible apply State.count_good
    | with_reducible apply State.setSlot_good
    | split

theorem State.dropLone_good (tim : km.part .tim) (ing : km.part .ing)
    (hFLOW_DROPS_COUNT : ∀ a, km.fld (R.FLOW.DROPS.COUNT a))
    (hTIM_DOM_OFFSET_OFFSET : ∀ a, km.fld (R.TIM.DOM_OFFSET.OFFSET a))
    (hTIM_DOM_RATE_RATE : ∀ a, km.fld (R.TIM.DOM_RATE.RATE a)) (s : State) (k o : Nat) (hs : s.Keeps km pq) : (State.dropLone s k o).Keeps km pq := by
  unfold State.dropLone
  repeat' first
    | with_reducible assumption
    | with_reducible exact hFLOW_DROPS_COUNT _
    | with_reducible exact hTIM_DOM_OFFSET_OFFSET _
    | with_reducible exact hTIM_DOM_RATE_RATE _
    | ((try lift_lets -underBinder); intro x; refine Keep.use (k := km) (q := pq) (s := x) ?_ ?_; (on_goal 1 => dsimp -zeta only [x]); (on_goal 2 => clear_value x; intro _))
    | ((try lift_lets -underBinder); intro x; refine Keep.usePair (k := km) (q := pq) (p := x) ?_ ?_; (on_goal 1 => dsimp -zeta only [x]); (on_goal 2 => clear_value x; intro _))
    | ((try lift_lets -underBinder); intro x; refine Keep.memSt (x := x) ?_; subst x)
    | ((try lift_lets -underBinder); intro x; refine Keep.depSt (x := x) ?_; subst x)
    | ((try lift_lets -underBinder); intro x; clear_value x)
    | (intro _)
    | with_reducible apply Keep.ite
    | with_reducible apply State.filter_good
    | with_reducible apply State.setSlot_good
    | with_reducible apply State.count_good

theorem State.showPairWait_good (hFLOW_FLOW_STAT_PAIR_WAIT : ∀ a, km.fld (R.FLOW.FLOW_STAT.PAIR_WAIT a)) (s : State)
    (k o : Nat) (hs : s.Keeps km pq) : (State.showPairWait s k o).Keeps km pq := by
  unfold State.showPairWait
  repeat' first
    | with_reducible assumption
    | with_reducible exact hFLOW_FLOW_STAT_PAIR_WAIT _
    | ((try lift_lets -underBinder); intro x; refine Keep.use (k := km) (q := pq) (s := x) ?_ ?_; (on_goal 1 => dsimp -zeta only [x]); (on_goal 2 => clear_value x; intro _))
    | ((try lift_lets -underBinder); intro x; refine Keep.usePair (k := km) (q := pq) (p := x) ?_ ?_; (on_goal 1 => dsimp -zeta only [x]); (on_goal 2 => clear_value x; intro _))
    | ((try lift_lets -underBinder); intro x; refine Keep.memSt (x := x) ?_; subst x)
    | ((try lift_lets -underBinder); intro x; refine Keep.depSt (x := x) ?_; subst x)
    | ((try lift_lets -underBinder); intro x; clear_value x)
    | (intro _)
    | with_reducible apply State.set_good

theorem State.prunePair_good (tim : km.part .tim) (ing : km.part .ing)
    (hFLOW_DROPS_COUNT : ∀ a, km.fld (R.FLOW.DROPS.COUNT a))
    (hFLOW_FLOW_STAT_PAIR_WAIT : ∀ a, km.fld (R.FLOW.FLOW_STAT.PAIR_WAIT a))
    (hTIM_DOM_OFFSET_OFFSET : ∀ a, km.fld (R.TIM.DOM_OFFSET.OFFSET a))
    (hTIM_DOM_RATE_RATE : ∀ a, km.fld (R.TIM.DOM_RATE.RATE a)) (s : State) (k : Nat) (hs : s.Keeps km pq) : (State.prunePair s k).Keeps km pq := by
  unfold State.prunePair
  repeat' first
    | with_reducible assumption
    | with_reducible exact hFLOW_DROPS_COUNT _
    | with_reducible exact hFLOW_FLOW_STAT_PAIR_WAIT _
    | with_reducible exact hTIM_DOM_OFFSET_OFFSET _
    | with_reducible exact hTIM_DOM_RATE_RATE _
    | ((try lift_lets -underBinder); intro x; refine Keep.use (k := km) (q := pq) (s := x) ?_ ?_; (on_goal 1 => dsimp -zeta only [x]); (on_goal 2 => clear_value x; intro _))
    | ((try lift_lets -underBinder); intro x; refine Keep.usePair (k := km) (q := pq) (p := x) ?_ ?_; (on_goal 1 => dsimp -zeta only [x]); (on_goal 2 => clear_value x; intro _))
    | ((try lift_lets -underBinder); intro x; refine Keep.memSt (x := x) ?_; subst x)
    | ((try lift_lets -underBinder); intro x; refine Keep.depSt (x := x) ?_; subst x)
    | ((try lift_lets -underBinder); intro x; clear_value x)
    | (intro _)
    | with_reducible apply Keep.ite
    | with_reducible apply State.dropLone_good
    | with_reducible apply State.showPairWait_good
    | split

theorem State.offer_good (ing : km.part .ing) (hFLOW_DROPS_COUNT : ∀ a, km.fld (R.FLOW.DROPS.COUNT a)) (s : State)
    (k : Nat) (f : FrameRec) (hs : s.Keeps km pq) : (State.offer s k f).Keeps km pq := by
  unfold State.offer
  repeat' first
    | with_reducible assumption
    | with_reducible exact hFLOW_DROPS_COUNT _
    | ((try lift_lets -underBinder); intro x; refine Keep.use (k := km) (q := pq) (s := x) ?_ ?_; (on_goal 1 => dsimp -zeta only [x]); (on_goal 2 => clear_value x; intro _))
    | ((try lift_lets -underBinder); intro x; refine Keep.usePair (k := km) (q := pq) (p := x) ?_ ?_; (on_goal 1 => dsimp -zeta only [x]); (on_goal 2 => clear_value x; intro _))
    | ((try lift_lets -underBinder); intro x; refine Keep.memSt (x := x) ?_; subst x)
    | ((try lift_lets -underBinder); intro x; refine Keep.depSt (x := x) ?_; subst x)
    | ((try lift_lets -underBinder); intro x; clear_value x)
    | (intro _)
    | with_reducible apply Keep.ite
    | with_reducible apply State.frameSettle_good
    | with_reducible apply State.count_good
    | with_reducible apply State.setSlot_good

theorem State.frameComplete_good (out : km.part .out) (tim : km.part .tim) (ing : km.part .ing)
    (hFLOW_DROPS_COUNT : ∀ a, km.fld (R.FLOW.DROPS.COUNT a))
    (hFLOW_FLOW_STAT_PAIR_WAIT : ∀ a, km.fld (R.FLOW.FLOW_STAT.PAIR_WAIT a))
    (hFLOW_FLOW_STAT_STATE : ∀ a, km.fld (R.FLOW.FLOW_STAT.STATE a))
    (hFLOW_FRAMES_COUNT : ∀ a, km.fld (R.FLOW.FRAMES.COUNT a)) (hPG_EVT_PEND : ∀ a, km.fld (R.PG.EVT_PEND a))
    (hTIM_DOM_OFFSET_OFFSET : ∀ a, km.fld (R.TIM.DOM_OFFSET.OFFSET a))
    (hTIM_DOM_RATE_RATE : ∀ a, km.fld (R.TIM.DOM_RATE.RATE a)) (s : State) (k : Nat) (f : FrameRec)
    (hs : s.Keeps km pq) : (State.frameComplete s k f).Keeps km pq := by
  unfold State.frameComplete
  repeat' first
    | with_reducible assumption
    | with_reducible exact hFLOW_DROPS_COUNT _
    | with_reducible exact hFLOW_FLOW_STAT_PAIR_WAIT _
    | with_reducible exact hFLOW_FLOW_STAT_STATE _
    | with_reducible exact hFLOW_FRAMES_COUNT _
    | with_reducible exact hPG_EVT_PEND _
    | with_reducible exact hTIM_DOM_OFFSET_OFFSET _
    | with_reducible exact hTIM_DOM_RATE_RATE _
    | ((try lift_lets -underBinder); intro x; refine Keep.use (k := km) (q := pq) (s := x) ?_ ?_; (on_goal 1 => dsimp -zeta only [x]); (on_goal 2 => clear_value x; intro _))
    | ((try lift_lets -underBinder); intro x; refine Keep.usePair (k := km) (q := pq) (p := x) ?_ ?_; (on_goal 1 => dsimp -zeta only [x]); (on_goal 2 => clear_value x; intro _))
    | ((try lift_lets -underBinder); intro x; refine Keep.memSt (x := x) ?_; subst x)
    | ((try lift_lets -underBinder); intro x; refine Keep.depSt (x := x) ?_; subst x)
    | ((try lift_lets -underBinder); intro x; clear_value x)
    | (intro _)
    | with_reducible apply Keep.ite
    | with_reducible apply State.count_good
    | with_reducible apply State.flowUp_good
    | with_reducible apply State.rateCheck_good
    | with_reducible apply State.setSlot_good
    | with_reducible apply State.offer_good
    | with_reducible apply State.filter_good
    | with_reducible apply State.prunePair_good
    | split

theorem State.closeComplete_good (out : km.part .out) (tim : km.part .tim) (ing : km.part .ing)
    (line : km.part .line) (que : km.part .que) (hFLOW_DROPS_COUNT : ∀ a, km.fld (R.FLOW.DROPS.COUNT a))
    (hFLOW_FLOW_STAT_PAIR_WAIT : ∀ a, km.fld (R.FLOW.FLOW_STAT.PAIR_WAIT a))
    (hFLOW_FLOW_STAT_STATE : ∀ a, km.fld (R.FLOW.FLOW_STAT.STATE a))
    (hFLOW_FRAMES_COUNT : ∀ a, km.fld (R.FLOW.FRAMES.COUNT a)) (hPG_ERR_ADDR_HI : ∀ a, km.fld (R.PG.ERR_ADDR_HI a))
    (hPG_ERR_ADDR_LO : ∀ a, km.fld (R.PG.ERR_ADDR_LO a)) (hPG_ERR_CODE : ∀ a, km.fld (R.PG.ERR_CODE a))
    (hPG_ERR_COUNT : ∀ a, km.fld (R.PG.ERR_COUNT a)) (hPG_ERR_OVERFLOW : ∀ a, km.fld (R.PG.ERR_OVERFLOW a))
    (hPG_ERR_SOURCE : ∀ a, km.fld (R.PG.ERR_SOURCE a)) (hPG_ERR_VALID : ∀ a, km.fld (R.PG.ERR_VALID a))
    (hPG_EVT_PEND : ∀ a, km.fld (R.PG.EVT_PEND a)) (hPG_POISON_SEEN : ∀ a, km.fld (R.PG.POISON_SEEN a))
    (hQCX_Q_CTRL_IDLE : ∀ a, km.fld (R.QCX.Q_CTRL.IDLE a))
    (hQCX_Q_DONE_CNT_COUNT : ∀ a, km.fld (R.QCX.Q_DONE_CNT.COUNT a))
    (hQCX_Q_HEAD_IDX : ∀ a, km.fld (R.QCX.Q_HEAD.IDX a))
    (hQCX_Q_INFLIGHT_COUNT : ∀ a, km.fld (R.QCX.Q_INFLIGHT.COUNT a))
    (hQUE_DESC_ERR_COUNT : km.fld R.QUE.DESC_ERR.COUNT) (hQUE_INFLIGHT_COUNT : km.fld R.QUE.INFLIGHT.COUNT)
    (hTEN_REVOKED_CNT_COUNT : ∀ a, km.fld (R.TEN.REVOKED_CNT.COUNT a))
    (hTIM_DOM_OFFSET_OFFSET : ∀ a, km.fld (R.TIM.DOM_OFFSET.OFFSET a))
    (hTIM_DOM_RATE_RATE : ∀ a, km.fld (R.TIM.DOM_RATE.RATE a)) (s : State) (k : Nat) (hs : s.Keeps km pq) : (State.closeComplete s k).Keeps km pq := by
  unfold State.closeComplete
  repeat' first
    | with_reducible assumption
    | with_reducible exact hFLOW_DROPS_COUNT _
    | with_reducible exact hFLOW_FLOW_STAT_PAIR_WAIT _
    | with_reducible exact hFLOW_FLOW_STAT_STATE _
    | with_reducible exact hFLOW_FRAMES_COUNT _
    | with_reducible exact hPG_ERR_ADDR_HI _
    | with_reducible exact hPG_ERR_ADDR_LO _
    | with_reducible exact hPG_ERR_CODE _
    | with_reducible exact hPG_ERR_COUNT _
    | with_reducible exact hPG_ERR_OVERFLOW _
    | with_reducible exact hPG_ERR_SOURCE _
    | with_reducible exact hPG_ERR_VALID _
    | with_reducible exact hPG_EVT_PEND _
    | with_reducible exact hPG_POISON_SEEN _
    | with_reducible exact hQCX_Q_CTRL_IDLE _
    | with_reducible exact hQCX_Q_DONE_CNT_COUNT _
    | with_reducible exact hQCX_Q_HEAD_IDX _
    | with_reducible exact hQCX_Q_INFLIGHT_COUNT _
    | with_reducible exact hTEN_REVOKED_CNT_COUNT _
    | with_reducible exact hTIM_DOM_OFFSET_OFFSET _
    | with_reducible exact hTIM_DOM_RATE_RATE _
    | ((try lift_lets -underBinder); intro x; refine Keep.use (k := km) (q := pq) (s := x) ?_ ?_; (on_goal 1 => dsimp -zeta only [x]); (on_goal 2 => clear_value x; intro _))
    | ((try lift_lets -underBinder); intro x; refine Keep.usePair (k := km) (q := pq) (p := x) ?_ ?_; (on_goal 1 => dsimp -zeta only [x]); (on_goal 2 => clear_value x; intro _))
    | ((try lift_lets -underBinder); intro x; refine Keep.memSt (x := x) ?_; subst x)
    | ((try lift_lets -underBinder); intro x; refine Keep.depSt (x := x) ?_; subst x)
    | ((try lift_lets -underBinder); intro x; clear_value x)
    | (intro _)
    | with_reducible apply State.complete_good
    | with_reducible apply State.setSlot_good
    | with_reducible apply State.filter_good
    | with_reducible apply State.rateCheck_good
    | with_reducible apply State.frameComplete_good
    | split

theorem State.frameIncomplete_good (out : km.part .out) (tim : km.part .tim) (ing : km.part .ing)
    (hFLOW_DROPS_COUNT : ∀ a, km.fld (R.FLOW.DROPS.COUNT a))
    (hFLOW_FLOW_STAT_PAIR_WAIT : ∀ a, km.fld (R.FLOW.FLOW_STAT.PAIR_WAIT a))
    (hFLOW_INCOMPLETE_COUNT : ∀ a, km.fld (R.FLOW.INCOMPLETE.COUNT a))
    (hFLOW_UNRECOVERED_COUNT : ∀ a, km.fld (R.FLOW.UNRECOVERED.COUNT a))
    (hPG_EVT_PEND : ∀ a, km.fld (R.PG.EVT_PEND a)) (hTIM_DOM_OFFSET_OFFSET : ∀ a, km.fld (R.TIM.DOM_OFFSET.OFFSET a))
    (hTIM_DOM_RATE_RATE : ∀ a, km.fld (R.TIM.DOM_RATE.RATE a)) (s : State) (k : Nat) (f : RecvFrame)
    (hs : s.Keeps km pq) : (State.frameIncomplete s k f).Keeps km pq := by
  unfold State.frameIncomplete
  repeat' first
    | with_reducible assumption
    | with_reducible exact hFLOW_DROPS_COUNT _
    | with_reducible exact hFLOW_FLOW_STAT_PAIR_WAIT _
    | with_reducible exact hFLOW_INCOMPLETE_COUNT _
    | with_reducible exact hFLOW_UNRECOVERED_COUNT _
    | with_reducible exact hPG_EVT_PEND _
    | with_reducible exact hTIM_DOM_OFFSET_OFFSET _
    | with_reducible exact hTIM_DOM_RATE_RATE _
    | ((try lift_lets -underBinder); intro x; refine Keep.use (k := km) (q := pq) (s := x) ?_ ?_; (on_goal 1 => dsimp -zeta only [x]); (on_goal 2 => clear_value x; intro _))
    | ((try lift_lets -underBinder); intro x; refine Keep.usePair (k := km) (q := pq) (p := x) ?_ ?_; (on_goal 1 => dsimp -zeta only [x]); (on_goal 2 => clear_value x; intro _))
    | ((try lift_lets -underBinder); intro x; refine Keep.memSt (x := x) ?_; subst x)
    | ((try lift_lets -underBinder); intro x; refine Keep.depSt (x := x) ?_; subst x)
    | ((try lift_lets -underBinder); intro x; clear_value x)
    | (intro _)
    | with_reducible apply Keep.ite
    | with_reducible apply State.setSlot_good
    | with_reducible apply State.filter_good
    | with_reducible apply State.count_good
    | with_reducible apply State.flowEv_good
    | with_reducible apply State.prunePair_good

theorem State.storeRuns_good (out : km.part .out) (mem : km.part .mem) (dram : km.part .dram)
    (hLOG_LOG_ADDR_LO_ADDR : ∀ a, km.fld (R.LOG.LOG_ADDR_LO.ADDR a))
    (hLOG_LOG_INFO_ADDR_HI : ∀ a, km.fld (R.LOG.LOG_INFO.ADDR_HI a))
    (hLOG_LOG_INFO_ARRAY : ∀ a, km.fld (R.LOG.LOG_INFO.ARRAY a))
    (hLOG_LOG_INFO_BYTES : ∀ a, km.fld (R.LOG.LOG_INFO.BYTES a))
    (hLOG_LOG_INFO_CHANNEL : ∀ a, km.fld (R.LOG.LOG_INFO.CHANNEL a))
    (hLOG_LOG_INFO_CODE : ∀ a, km.fld (R.LOG.LOG_INFO.CODE a))
    (hLOG_LOG_INFO_PORT : ∀ a, km.fld (R.LOG.LOG_INFO.PORT a))
    (hLOG_LOG_INFO_SRAM : ∀ a, km.fld (R.LOG.LOG_INFO.SRAM a))
    (hLOG_LOG_TIME_HI_NS : ∀ a, km.fld (R.LOG.LOG_TIME_HI.NS a))
    (hLOG_LOG_TIME_LO_NS : ∀ a, km.fld (R.LOG.LOG_TIME_LO.NS a))
    (hPAR_CHK_CTRL_INJ_ARM : km.fld R.PAR.CHK_CTRL.INJ_ARM) (hPAR_LOG_STAT_NEXT : km.fld R.PAR.LOG_STAT.NEXT)
    (hPAR_LOG_STAT_TOTAL : km.fld R.PAR.LOG_STAT.TOTAL) (hPAR_LOG_STAT_WRAPPED : km.fld R.PAR.LOG_STAT.WRAPPED)
    (hPG_ERR_ADDR_HI : ∀ a, km.fld (R.PG.ERR_ADDR_HI a)) (hPG_ERR_ADDR_LO : ∀ a, km.fld (R.PG.ERR_ADDR_LO a))
    (hPG_ERR_CODE : ∀ a, km.fld (R.PG.ERR_CODE a)) (hPG_ERR_COUNT : ∀ a, km.fld (R.PG.ERR_COUNT a))
    (hPG_ERR_OVERFLOW : ∀ a, km.fld (R.PG.ERR_OVERFLOW a)) (hPG_ERR_SOURCE : ∀ a, km.fld (R.PG.ERR_SOURCE a))
    (hPG_ERR_VALID : ∀ a, km.fld (R.PG.ERR_VALID a)) (hPG_EVT_PEND : ∀ a, km.fld (R.PG.EVT_PEND a)) (s : State)
    (k base : Nat) (runs : List (Nat × Nat × List Byte)) (hs : s.Keeps km pq) : (State.storeRuns s k base runs).Keeps km pq := by
  unfold State.storeRuns
  repeat' first
    | with_reducible assumption
    | with_reducible exact hLOG_LOG_ADDR_LO_ADDR _
    | with_reducible exact hLOG_LOG_INFO_ADDR_HI _
    | with_reducible exact hLOG_LOG_INFO_ARRAY _
    | with_reducible exact hLOG_LOG_INFO_BYTES _
    | with_reducible exact hLOG_LOG_INFO_CHANNEL _
    | with_reducible exact hLOG_LOG_INFO_CODE _
    | with_reducible exact hLOG_LOG_INFO_PORT _
    | with_reducible exact hLOG_LOG_INFO_SRAM _
    | with_reducible exact hLOG_LOG_TIME_HI_NS _
    | with_reducible exact hLOG_LOG_TIME_LO_NS _
    | with_reducible exact hPG_ERR_ADDR_HI _
    | with_reducible exact hPG_ERR_ADDR_LO _
    | with_reducible exact hPG_ERR_CODE _
    | with_reducible exact hPG_ERR_COUNT _
    | with_reducible exact hPG_ERR_OVERFLOW _
    | with_reducible exact hPG_ERR_SOURCE _
    | with_reducible exact hPG_ERR_VALID _
    | with_reducible exact hPG_EVT_PEND _
    | ((try lift_lets -underBinder); intro x; refine Keep.use (k := km) (q := pq) (s := x) ?_ ?_; (on_goal 1 => dsimp -zeta only [x]); (on_goal 2 => clear_value x; intro _))
    | ((try lift_lets -underBinder); intro x; refine Keep.usePair (k := km) (q := pq) (p := x) ?_ ?_; (on_goal 1 => dsimp -zeta only [x]); (on_goal 2 => clear_value x; intro _))
    | ((try lift_lets -underBinder); intro x; refine Keep.memSt (x := x) ?_; subst x)
    | ((try lift_lets -underBinder); intro x; refine Keep.depSt (x := x) ?_; subst x)
    | ((try lift_lets -underBinder); intro x; clear_value x)
    | (intro _)
    | with_reducible apply State.dramWrite_good
    | with_reducible apply Keep.foldl

theorem State.expireLeg_good (out : km.part .out) (tim : km.part .tim) (dep : km.part .dep) (ing : km.part .ing)
    (hDEP_DEP_STAT_ARMED : km.fld R.DEP.DEP_STAT.ARMED) (hDEP_DEP_STAT_NEXT_IDX : km.fld R.DEP.DEP_STAT.NEXT_IDX)
    (hDEP_ENT_STATUS_STATE : km.fld R.DEP.ENT_STATUS.STATE) (hDEP_MISSED_CNT_MISSED : km.fld R.DEP.MISSED_CNT.MISSED)
    (hFLOW_DROPS_COUNT : ∀ a, km.fld (R.FLOW.DROPS.COUNT a))
    (hFLOW_FLOW_STAT_PAIR_WAIT : ∀ a, km.fld (R.FLOW.FLOW_STAT.PAIR_WAIT a))
    (hFLOW_GAP_A_COUNT : ∀ a, km.fld (R.FLOW.GAP_A.COUNT a)) (hFLOW_GAP_B_COUNT : ∀ a, km.fld (R.FLOW.GAP_B.COUNT a))
    (hFLOW_INCOMPLETE_COUNT : ∀ a, km.fld (R.FLOW.INCOMPLETE.COUNT a))
    (hFLOW_UNRECOVERED_COUNT : ∀ a, km.fld (R.FLOW.UNRECOVERED.COUNT a))
    (hPG_EVT_PEND : ∀ a, km.fld (R.PG.EVT_PEND a)) (hTIM_DOM_OFFSET_OFFSET : ∀ a, km.fld (R.TIM.DOM_OFFSET.OFFSET a))
    (hTIM_DOM_RATE_RATE : ∀ a, km.fld (R.TIM.DOM_RATE.RATE a)) (s : State) (k l : Nat) (hs : s.Keeps km pq) : (State.expireLeg s k l).Keeps km pq := by
  unfold State.expireLeg
  repeat' first
    | with_reducible assumption
    | with_reducible exact hFLOW_DROPS_COUNT _
    | with_reducible exact hFLOW_FLOW_STAT_PAIR_WAIT _
    | with_reducible exact hFLOW_GAP_A_COUNT _
    | with_reducible exact hFLOW_GAP_B_COUNT _
    | with_reducible exact hFLOW_INCOMPLETE_COUNT _
    | with_reducible exact hFLOW_UNRECOVERED_COUNT _
    | with_reducible exact hPG_EVT_PEND _
    | with_reducible exact hTIM_DOM_OFFSET_OFFSET _
    | with_reducible exact hTIM_DOM_RATE_RATE _
    | (show km.fld _; split <;> first | assumption | exact hDEP_DEP_STAT_ARMED | exact hDEP_DEP_STAT_NEXT_IDX | exact hDEP_ENT_STATUS_STATE | exact hDEP_MISSED_CNT_MISSED | exact hFLOW_DROPS_COUNT _ | exact hFLOW_FLOW_STAT_PAIR_WAIT _ | exact hFLOW_GAP_A_COUNT _ | exact hFLOW_GAP_B_COUNT _ | exact hFLOW_INCOMPLETE_COUNT _ | exact hFLOW_UNRECOVERED_COUNT _ | exact hPG_EVT_PEND _ | exact hTIM_DOM_OFFSET_OFFSET _ | exact hTIM_DOM_RATE_RATE _)
    | ((try lift_lets -underBinder); intro x; refine Keep.use (k := km) (q := pq) (s := x) ?_ ?_; (on_goal 1 => dsimp -zeta only [x]); (on_goal 2 => clear_value x; intro _))
    | ((try lift_lets -underBinder); intro x; refine Keep.usePair (k := km) (q := pq) (p := x) ?_ ?_; (on_goal 1 => dsimp -zeta only [x]); (on_goal 2 => clear_value x; intro _))
    | ((try lift_lets -underBinder); intro x; refine Keep.memSt (x := x) ?_; subst x)
    | ((try lift_lets -underBinder); intro x; refine Keep.depSt (x := x) ?_; subst x)
    | ((try lift_lets -underBinder); intro x; clear_value x)
    | (intro _)
    | with_reducible apply Keep.ite
    | with_reducible apply State.miss_good
    | with_reducible apply State.filter_good
    | with_reducible apply State.setSlot_good
    | with_reducible apply State.count_good
    | with_reducible apply State.frameIncomplete_good
    | split

theorem State.makeRoom_good (tim : km.part .tim) (ing : km.part .ing)
    (hFLOW_DROPS_COUNT : ∀ a, km.fld (R.FLOW.DROPS.COUNT a))
    (hFLOW_FLOW_STAT_PAIR_WAIT : ∀ a, km.fld (R.FLOW.FLOW_STAT.PAIR_WAIT a))
    (hTIM_DOM_OFFSET_OFFSET : ∀ a, km.fld (R.TIM.DOM_OFFSET.OFFSET a))
    (hTIM_DOM_RATE_RATE : ∀ a, km.fld (R.TIM.DOM_RATE.RATE a)) (s : State) (k : Nat) (hs : s.Keeps km pq) : (State.makeRoom s k).Keeps km pq := by
  unfold State.makeRoom
  repeat' first
    | with_reducible assumption
    | with_reducible exact hFLOW_DROPS_COUNT _
    | with_reducible exact hFLOW_FLOW_STAT_PAIR_WAIT _
    | with_reducible exact hTIM_DOM_OFFSET_OFFSET _
    | with_reducible exact hTIM_DOM_RATE_RATE _
    | ((try lift_lets -underBinder); intro x; refine Keep.use (k := km) (q := pq) (s := x) ?_ ?_; (on_goal 1 => dsimp -zeta only [x]); (on_goal 2 => clear_value x; intro _))
    | ((try lift_lets -underBinder); intro x; refine Keep.usePair (k := km) (q := pq) (p := x) ?_ ?_; (on_goal 1 => dsimp -zeta only [x]); (on_goal 2 => clear_value x; intro _))
    | ((try lift_lets -underBinder); intro x; refine Keep.memSt (x := x) ?_; subst x)
    | ((try lift_lets -underBinder); intro x; refine Keep.depSt (x := x) ?_; subst x)
    | ((try lift_lets -underBinder); intro x; clear_value x)
    | (intro _)
    | with_reducible apply Keep.ite
    | with_reducible apply State.frameSettle_good
    | with_reducible apply State.prunePair_good
    | with_reducible apply State.setSlot_good
    | with_reducible apply State.count_good

theorem State.openFrame_good (tim : km.part .tim) (ing : km.part .ing)
    (hFLOW_DROPS_COUNT : ∀ a, km.fld (R.FLOW.DROPS.COUNT a))
    (hFLOW_FLOW_STAT_PAIR_WAIT : ∀ a, km.fld (R.FLOW.FLOW_STAT.PAIR_WAIT a))
    (hTIM_DOM_OFFSET_OFFSET : ∀ a, km.fld (R.TIM.DOM_OFFSET.OFFSET a))
    (hTIM_DOM_RATE_RATE : ∀ a, km.fld (R.TIM.DOM_RATE.RATE a)) (s : State) (k ts : Nat) (hs : s.Keeps km pq) : (State.openFrame s k ts).Keeps km pq := by
  unfold State.openFrame
  repeat' first
    | with_reducible assumption
    | with_reducible exact hFLOW_DROPS_COUNT _
    | with_reducible exact hFLOW_FLOW_STAT_PAIR_WAIT _
    | with_reducible exact hTIM_DOM_OFFSET_OFFSET _
    | with_reducible exact hTIM_DOM_RATE_RATE _
    | ((try lift_lets -underBinder); intro x; refine Keep.use (k := km) (q := pq) (s := x) ?_ ?_; (on_goal 1 => dsimp -zeta only [x]); (on_goal 2 => clear_value x; intro _))
    | ((try lift_lets -underBinder); intro x; refine Keep.usePair (k := km) (q := pq) (p := x) ?_ ?_; (on_goal 1 => dsimp -zeta only [x]); (on_goal 2 => clear_value x; intro _))
    | ((try lift_lets -underBinder); intro x; refine Keep.memSt (x := x) ?_; subst x)
    | ((try lift_lets -underBinder); intro x; refine Keep.depSt (x := x) ?_; subst x)
    | ((try lift_lets -underBinder); intro x; clear_value x)
    | (intro _)
    | with_reducible apply Keep.ite
    | with_reducible apply State.makeRoom_good
    | with_reducible apply State.setSlot_good
    | with_reducible apply State.count_good
    | with_reducible apply State.prunePair_good

theorem State.storeCopy_good (out : km.part .out) (tim : km.part .tim) (ing : km.part .ing) (mem : km.part .mem)
    (dram : km.part .dram) (hFLOW_DROPS_COUNT : ∀ a, km.fld (R.FLOW.DROPS.COUNT a))
    (hFLOW_FLOW_STAT_PAIR_WAIT : ∀ a, km.fld (R.FLOW.FLOW_STAT.PAIR_WAIT a))
    (hLOG_LOG_ADDR_LO_ADDR : ∀ a, km.fld (R.LOG.LOG_ADDR_LO.ADDR a))
    (hLOG_LOG_INFO_ADDR_HI : ∀ a, km.fld (R.LOG.LOG_INFO.ADDR_HI a))
    (hLOG_LOG_INFO_ARRAY : ∀ a, km.fld (R.LOG.LOG_INFO.ARRAY a))
    (hLOG_LOG_INFO_BYTES : ∀ a, km.fld (R.LOG.LOG_INFO.BYTES a))
    (hLOG_LOG_INFO_CHANNEL : ∀ a, km.fld (R.LOG.LOG_INFO.CHANNEL a))
    (hLOG_LOG_INFO_CODE : ∀ a, km.fld (R.LOG.LOG_INFO.CODE a))
    (hLOG_LOG_INFO_PORT : ∀ a, km.fld (R.LOG.LOG_INFO.PORT a))
    (hLOG_LOG_INFO_SRAM : ∀ a, km.fld (R.LOG.LOG_INFO.SRAM a))
    (hLOG_LOG_TIME_HI_NS : ∀ a, km.fld (R.LOG.LOG_TIME_HI.NS a))
    (hLOG_LOG_TIME_LO_NS : ∀ a, km.fld (R.LOG.LOG_TIME_LO.NS a))
    (hPAR_CHK_CTRL_INJ_ARM : km.fld R.PAR.CHK_CTRL.INJ_ARM) (hPAR_LOG_STAT_NEXT : km.fld R.PAR.LOG_STAT.NEXT)
    (hPAR_LOG_STAT_TOTAL : km.fld R.PAR.LOG_STAT.TOTAL) (hPAR_LOG_STAT_WRAPPED : km.fld R.PAR.LOG_STAT.WRAPPED)
    (hPG_ERR_ADDR_HI : ∀ a, km.fld (R.PG.ERR_ADDR_HI a)) (hPG_ERR_ADDR_LO : ∀ a, km.fld (R.PG.ERR_ADDR_LO a))
    (hPG_ERR_CODE : ∀ a, km.fld (R.PG.ERR_CODE a)) (hPG_ERR_COUNT : ∀ a, km.fld (R.PG.ERR_COUNT a))
    (hPG_ERR_OVERFLOW : ∀ a, km.fld (R.PG.ERR_OVERFLOW a)) (hPG_ERR_SOURCE : ∀ a, km.fld (R.PG.ERR_SOURCE a))
    (hPG_ERR_VALID : ∀ a, km.fld (R.PG.ERR_VALID a)) (hPG_EVT_PEND : ∀ a, km.fld (R.PG.EVT_PEND a))
    (hTIM_DOM_OFFSET_OFFSET : ∀ a, km.fld (R.TIM.DOM_OFFSET.OFFSET a))
    (hTIM_DOM_RATE_RATE : ∀ a, km.fld (R.TIM.DOM_RATE.RATE a)) (s : State) (k l q : Nat) (r : RtpPkt)
    (hs : s.Keeps km pq) : (State.storeCopy s k l q r).Keeps km pq := by
  unfold State.storeCopy
  repeat' first
    | with_reducible assumption
    | with_reducible exact hFLOW_DROPS_COUNT _
    | with_reducible exact hFLOW_FLOW_STAT_PAIR_WAIT _
    | with_reducible exact hLOG_LOG_ADDR_LO_ADDR _
    | with_reducible exact hLOG_LOG_INFO_ADDR_HI _
    | with_reducible exact hLOG_LOG_INFO_ARRAY _
    | with_reducible exact hLOG_LOG_INFO_BYTES _
    | with_reducible exact hLOG_LOG_INFO_CHANNEL _
    | with_reducible exact hLOG_LOG_INFO_CODE _
    | with_reducible exact hLOG_LOG_INFO_PORT _
    | with_reducible exact hLOG_LOG_INFO_SRAM _
    | with_reducible exact hLOG_LOG_TIME_HI_NS _
    | with_reducible exact hLOG_LOG_TIME_LO_NS _
    | with_reducible exact hPG_ERR_ADDR_HI _
    | with_reducible exact hPG_ERR_ADDR_LO _
    | with_reducible exact hPG_ERR_CODE _
    | with_reducible exact hPG_ERR_COUNT _
    | with_reducible exact hPG_ERR_OVERFLOW _
    | with_reducible exact hPG_ERR_SOURCE _
    | with_reducible exact hPG_ERR_VALID _
    | with_reducible exact hPG_EVT_PEND _
    | with_reducible exact hTIM_DOM_OFFSET_OFFSET _
    | with_reducible exact hTIM_DOM_RATE_RATE _
    | ((try lift_lets -underBinder); intro x; refine Keep.use (k := km) (q := pq) (s := x) ?_ ?_; (on_goal 1 => dsimp -zeta only [x]); (on_goal 2 => clear_value x; intro _))
    | ((try lift_lets -underBinder); intro x; refine Keep.usePair (k := km) (q := pq) (p := x) ?_ ?_; (on_goal 1 => dsimp -zeta only [x]); (on_goal 2 => clear_value x; intro _))
    | ((try lift_lets -underBinder); intro x; refine Keep.memSt (x := x) ?_; subst x)
    | ((try lift_lets -underBinder); intro x; refine Keep.depSt (x := x) ?_; subst x)
    | ((try lift_lets -underBinder); intro x; clear_value x)
    | (intro _)
    | with_reducible apply Keep.ite
    | with_reducible apply State.openFrame_good
    | with_reducible apply State.setSlot_good
    | with_reducible apply State.storeRuns_good
    | split

theorem State.showSkew_good (hFLOW_FLOW_STAT_SKEW : ∀ a, km.fld (R.FLOW.FLOW_STAT.SKEW a)) (s : State) (k l q : Nat)
    (hs : s.Keeps km pq) : (State.showSkew s k l q).Keeps km pq := by
  unfold State.showSkew
  repeat' first
    | with_reducible assumption
    | with_reducible exact hFLOW_FLOW_STAT_SKEW _
    | ((try lift_lets -underBinder); intro x; refine Keep.use (k := km) (q := pq) (s := x) ?_ ?_; (on_goal 1 => dsimp -zeta only [x]); (on_goal 2 => clear_value x; intro _))
    | ((try lift_lets -underBinder); intro x; refine Keep.usePair (k := km) (q := pq) (p := x) ?_ ?_; (on_goal 1 => dsimp -zeta only [x]); (on_goal 2 => clear_value x; intro _))
    | ((try lift_lets -underBinder); intro x; refine Keep.memSt (x := x) ?_; subst x)
    | ((try lift_lets -underBinder); intro x; refine Keep.depSt (x := x) ?_; subst x)
    | ((try lift_lets -underBinder); intro x; clear_value x)
    | (intro _)
    | with_reducible apply Keep.ite
    | with_reducible apply State.setI_good
    | split

theorem State.legBack_good (out : km.part .out) (ing : km.part .ing)
    (hFLOW_FLOW_STAT_STATE : ∀ a, km.fld (R.FLOW.FLOW_STAT.STATE a)) (hPG_EVT_PEND : ∀ a, km.fld (R.PG.EVT_PEND a))
    (s : State) (k l : Nat) (hs : s.Keeps km pq) : (State.legBack s k l).Keeps km pq := by
  unfold State.legBack
  repeat' first
    | with_reducible assumption
    | with_reducible exact hFLOW_FLOW_STAT_STATE _
    | with_reducible exact hPG_EVT_PEND _
    | ((try lift_lets -underBinder); intro x; refine Keep.use (k := km) (q := pq) (s := x) ?_ ?_; (on_goal 1 => dsimp -zeta only [x]); (on_goal 2 => clear_value x; intro _))
    | ((try lift_lets -underBinder); intro x; refine Keep.usePair (k := km) (q := pq) (p := x) ?_ ?_; (on_goal 1 => dsimp -zeta only [x]); (on_goal 2 => clear_value x; intro _))
    | ((try lift_lets -underBinder); intro x; refine Keep.memSt (x := x) ?_; subst x)
    | ((try lift_lets -underBinder); intro x; refine Keep.depSt (x := x) ?_; subst x)
    | ((try lift_lets -underBinder); intro x; clear_value x)
    | (intro _)
    | with_reducible apply Keep.ite
    | with_reducible apply State.setFlow_good
    | with_reducible apply State.flowEv_good
    | with_reducible apply State.setSlot_good

theorem State.followStore_good (out : km.part .out) (tim : km.part .tim) (ing : km.part .ing)
    (hING_FOLLOW_CNT_OVERRUN : km.fld R.ING.FOLLOW_CNT.OVERRUN) (hPG_EVT_PEND : ∀ a, km.fld (R.PG.EVT_PEND a))
    (hTIM_DOM_OFFSET_OFFSET : ∀ a, km.fld (R.TIM.DOM_OFFSET.OFFSET a))
    (hTIM_DOM_RATE_RATE : ∀ a, km.fld (R.TIM.DOM_RATE.RATE a)) (s : State) (k line ts bits : Nat)
    (hs : s.Keeps km pq) : (State.followStore s k line ts bits).Keeps km pq := by
  unfold State.followStore
  repeat' first
    | with_reducible assumption
    | with_reducible exact hPG_EVT_PEND _
    | with_reducible exact hTIM_DOM_OFFSET_OFFSET _
    | with_reducible exact hTIM_DOM_RATE_RATE _
    | ((try lift_lets -underBinder); intro x; refine Keep.use (k := km) (q := pq) (s := x) ?_ ?_; (on_goal 1 => dsimp -zeta only [x]); (on_goal 2 => clear_value x; intro _))
    | ((try lift_lets -underBinder); intro x; refine Keep.usePair (k := km) (q := pq) (p := x) ?_ ?_; (on_goal 1 => dsimp -zeta only [x]); (on_goal 2 => clear_value x; intro _))
    | ((try lift_lets -underBinder); intro x; refine Keep.memSt (x := x) ?_; subst x)
    | ((try lift_lets -underBinder); intro x; refine Keep.depSt (x := x) ?_; subst x)
    | ((try lift_lets -underBinder); intro x; clear_value x)
    | (intro _)
    | with_reducible apply Keep.ite
    | with_reducible apply State.filter_good
    | with_reducible apply State.count_good
    | with_reducible apply State.ev_good
    | (simp -zeta only [Keep.mk_iff]; with_reducible refine Keep.upd ?_ rfl ?_; on_goal 2 => (and_intros <;> with_reducible first | exact .inl rfl | exact .inl ⟨rfl, rfl, rfl⟩ | exact .inr ‹_› | exact Nat.le_refl _ | exact Nat.le_add_right _ _))

theorem State.ingPacket_good (out : km.part .out) (tim : km.part .tim) (dep : km.part .dep) (ing : km.part .ing)
    (mem : km.part .mem) (dram : km.part .dram) (line : km.part .line) (que : km.part .que) (any : ∀ f, km.fld f)
    (s : State) (k l : Nat) (r : RtpPkt) (hs : s.Keeps km pq) : (State.ingPacket s k l r).Keeps km pq := by
  unfold State.ingPacket
  repeat' first
    | with_reducible assumption
    | (with_reducible (intros; exact any _))
    | ((try lift_lets -underBinder); intro x; refine Keep.use (k := km) (q := pq) (s := x) ?_ ?_; (on_goal 1 => dsimp -zeta only [x]); (on_goal 2 => clear_value x; intro _))
    | ((try lift_lets -underBinder); intro x; refine Keep.usePair (k := km) (q := pq) (p := x) ?_ ?_; (on_goal 1 => dsimp -zeta only [x]); (on_goal 2 => clear_value x; intro _))
    | ((try lift_lets -underBinder); intro x; refine Keep.memSt (x := x) ?_; subst x)
    | ((try lift_lets -underBinder); intro x; refine Keep.depSt (x := x) ?_; subst x)
    | ((try lift_lets -underBinder); intro x; clear_value x)
    | (intro _)
    | with_reducible apply Keep.ite
    | with_reducible apply State.count_good
    | with_reducible apply State.expireLeg_good
    | with_reducible apply State.miss_good
    | with_reducible apply State.set_good
    | with_reducible apply State.filter_good
    | with_reducible apply State.setSlot_good
    | with_reducible apply State.showSkew_good
    | with_reducible apply State.storeCopy_good
    | with_reducible apply State.followStore_good
    | with_reducible apply State.closeComplete_good
    | with_reducible apply State.legBack_good
    | (simp -zeta only [Keep.mk_iff]; with_reducible refine Keep.upd ?_ rfl ?_; on_goal 2 => (and_intros <;> with_reducible first | exact .inl rfl | exact .inl ⟨rfl, rfl, rfl⟩ | exact .inr ‹_› | exact Nat.le_refl _ | exact Nat.le_add_right _ _))
    | with_reducible apply Keep.foldl

theorem State.ingNext_good (out : km.part .out) (tim : km.part .tim) (dep : km.part .dep) (ing : km.part .ing)
    (mem : km.part .mem) (dram : km.part .dram) (line : km.part .line) (que : km.part .que) (any : ∀ f, km.fld f)
    (s : State) (hs : s.Keeps km pq) : (State.ingNext s).Keeps km pq := by
  unfold State.ingNext
  repeat' first
    | with_reducible assumption
    | (with_reducible (intros; exact any _))
    | ((try lift_lets -underBinder); intro x; refine Keep.use (k := km) (q := pq) (s := x) ?_ ?_; (on_goal 1 => dsimp -zeta only [x]); (on_goal 2 => clear_value x; intro _))
    | ((try lift_lets -underBinder); intro x; refine Keep.usePair (k := km) (q := pq) (p := x) ?_ ?_; (on_goal 1 => dsimp -zeta only [x]); (on_goal 2 => clear_value x; intro _))
    | ((try lift_lets -underBinder); intro x; refine Keep.memSt (x := x) ?_; subst x)
    | ((try lift_lets -underBinder); intro x; refine Keep.depSt (x := x) ?_; subst x)
    | ((try lift_lets -underBinder); intro x; clear_value x)
    | (intro _)
    | with_reducible apply State.ingPacket_good
    | split
    | (simp -zeta only [Keep.mk_iff]; with_reducible refine Keep.upd ?_ rfl ?_; on_goal 2 => (and_intros <;> with_reducible first | exact .inl rfl | exact .inl ⟨rfl, rfl, rfl⟩ | exact .inr ‹_› | exact Nat.le_refl _ | exact Nat.le_add_right _ _))

theorem State.mergeParity_good (tim : km.part .tim) (ing : km.part .ing)
    (hTIM_DOM_OFFSET_OFFSET : ∀ a, km.fld (R.TIM.DOM_OFFSET.OFFSET a))
    (hTIM_DOM_RATE_RATE : ∀ a, km.fld (R.TIM.DOM_RATE.RATE a)) (s : State) (k l q : Nat) (hs : s.Keeps km pq) : (State.mergeParity s k l q).Keeps km pq := by
  unfold State.mergeParity
  repeat' first
    | with_reducible assumption
    | with_reducible exact hTIM_DOM_OFFSET_OFFSET _
    | with_reducible exact hTIM_DOM_RATE_RATE _
    | ((try lift_lets -underBinder); intro x; refine Keep.use (k := km) (q := pq) (s := x) ?_ ?_; (on_goal 1 => dsimp -zeta only [x]); (on_goal 2 => clear_value x; intro _))
    | ((try lift_lets -underBinder); intro x; refine Keep.usePair (k := km) (q := pq) (p := x) ?_ ?_; (on_goal 1 => dsimp -zeta only [x]); (on_goal 2 => clear_value x; intro _))
    | ((try lift_lets -underBinder); intro x; refine Keep.memSt (x := x) ?_; subst x)
    | ((try lift_lets -underBinder); intro x; refine Keep.depSt (x := x) ?_; subst x)
    | ((try lift_lets -underBinder); intro x; clear_value x)
    | (intro _)
    | with_reducible apply Keep.ite
    | with_reducible apply State.filter_good
    | with_reducible apply State.setSlot_good

theorem State.mergeWaitEnd_good (out : km.part .out) (tim : km.part .tim) (dep : km.part .dep) (ing : km.part .ing)
    (line : km.part .line) (que : km.part .que) (hDEP_DEP_STAT_ARMED : km.fld R.DEP.DEP_STAT.ARMED)
    (hDEP_DEP_STAT_NEXT_IDX : km.fld R.DEP.DEP_STAT.NEXT_IDX) (hDEP_ENT_STATUS_STATE : km.fld R.DEP.ENT_STATUS.STATE)
    (hDEP_MISSED_CNT_MISSED : km.fld R.DEP.MISSED_CNT.MISSED)
    (hFLOW_DROPS_COUNT : ∀ a, km.fld (R.FLOW.DROPS.COUNT a))
    (hFLOW_FLOW_STAT_PAIR_WAIT : ∀ a, km.fld (R.FLOW.FLOW_STAT.PAIR_WAIT a))
    (hFLOW_FLOW_STAT_STATE : ∀ a, km.fld (R.FLOW.FLOW_STAT.STATE a))
    (hFLOW_FRAMES_COUNT : ∀ a, km.fld (R.FLOW.FRAMES.COUNT a))
    (hFLOW_GAP_A_COUNT : ∀ a, km.fld (R.FLOW.GAP_A.COUNT a)) (hFLOW_GAP_B_COUNT : ∀ a, km.fld (R.FLOW.GAP_B.COUNT a))
    (hFLOW_INCOMPLETE_COUNT : ∀ a, km.fld (R.FLOW.INCOMPLETE.COUNT a))
    (hFLOW_UNRECOVERED_COUNT : ∀ a, km.fld (R.FLOW.UNRECOVERED.COUNT a))
    (hPG_ERR_ADDR_HI : ∀ a, km.fld (R.PG.ERR_ADDR_HI a)) (hPG_ERR_ADDR_LO : ∀ a, km.fld (R.PG.ERR_ADDR_LO a))
    (hPG_ERR_CODE : ∀ a, km.fld (R.PG.ERR_CODE a)) (hPG_ERR_COUNT : ∀ a, km.fld (R.PG.ERR_COUNT a))
    (hPG_ERR_OVERFLOW : ∀ a, km.fld (R.PG.ERR_OVERFLOW a)) (hPG_ERR_SOURCE : ∀ a, km.fld (R.PG.ERR_SOURCE a))
    (hPG_ERR_VALID : ∀ a, km.fld (R.PG.ERR_VALID a)) (hPG_EVT_PEND : ∀ a, km.fld (R.PG.EVT_PEND a))
    (hPG_POISON_SEEN : ∀ a, km.fld (R.PG.POISON_SEEN a)) (hQCX_Q_CTRL_IDLE : ∀ a, km.fld (R.QCX.Q_CTRL.IDLE a))
    (hQCX_Q_DONE_CNT_COUNT : ∀ a, km.fld (R.QCX.Q_DONE_CNT.COUNT a))
    (hQCX_Q_HEAD_IDX : ∀ a, km.fld (R.QCX.Q_HEAD.IDX a))
    (hQCX_Q_INFLIGHT_COUNT : ∀ a, km.fld (R.QCX.Q_INFLIGHT.COUNT a))
    (hQUE_DESC_ERR_COUNT : km.fld R.QUE.DESC_ERR.COUNT) (hQUE_INFLIGHT_COUNT : km.fld R.QUE.INFLIGHT.COUNT)
    (hTEN_REVOKED_CNT_COUNT : ∀ a, km.fld (R.TEN.REVOKED_CNT.COUNT a))
    (hTIM_DOM_OFFSET_OFFSET : ∀ a, km.fld (R.TIM.DOM_OFFSET.OFFSET a))
    (hTIM_DOM_RATE_RATE : ∀ a, km.fld (R.TIM.DOM_RATE.RATE a)) (s : State) (k : Nat) (hs : s.Keeps km pq) : (State.mergeWaitEnd s k).Keeps km pq := by
  unfold State.mergeWaitEnd
  repeat' first
    | with_reducible assumption
    | with_reducible exact hFLOW_DROPS_COUNT _
    | with_reducible exact hFLOW_FLOW_STAT_PAIR_WAIT _
    | with_reducible exact hFLOW_FLOW_STAT_STATE _
    | with_reducible exact hFLOW_FRAMES_COUNT _
    | with_reducible exact hFLOW_GAP_A_COUNT _
    | with_reducible exact hFLOW_GAP_B_COUNT _
    | with_reducible exact hFLOW_INCOMPLETE_COUNT _
    | with_reducible exact hFLOW_UNRECOVERED_COUNT _
    | with_reducible exact hPG_ERR_ADDR_HI _
    | with_reducible exact hPG_ERR_ADDR_LO _
    | with_reducible exact hPG_ERR_CODE _
    | with_reducible exact hPG_ERR_COUNT _
    | with_reducible exact hPG_ERR_OVERFLOW _
    | with_reducible exact hPG_ERR_SOURCE _
    | with_reducible exact hPG_ERR_VALID _
    | with_reducible exact hPG_EVT_PEND _
    | with_reducible exact hPG_POISON_SEEN _
    | with_reducible exact hQCX_Q_CTRL_IDLE _
    | with_reducible exact hQCX_Q_DONE_CNT_COUNT _
    | with_reducible exact hQCX_Q_HEAD_IDX _
    | with_reducible exact hQCX_Q_INFLIGHT_COUNT _
    | with_reducible exact hTEN_REVOKED_CNT_COUNT _
    | with_reducible exact hTIM_DOM_OFFSET_OFFSET _
    | with_reducible exact hTIM_DOM_RATE_RATE _
    | ((try lift_lets -underBinder); intro x; refine Keep.use (k := km) (q := pq) (s := x) ?_ ?_; (on_goal 1 => dsimp -zeta only [x]); (on_goal 2 => clear_value x; intro _))
    | ((try lift_lets -underBinder); intro x; refine Keep.usePair (k := km) (q := pq) (p := x) ?_ ?_; (on_goal 1 => dsimp -zeta only [x]); (on_goal 2 => clear_value x; intro _))
    | ((try lift_lets -underBinder); intro x; refine Keep.memSt (x := x) ?_; subst x)
    | ((try lift_lets -underBinder); intro x; refine Keep.depSt (x := x) ?_; subst x)
    | ((try lift_lets -underBinder); intro x; clear_value x)
    | (intro _)
    | with_reducible apply Keep.ite
    | with_reducible apply State.expireLeg_good
    | with_reducible apply State.complete_good
    | with_reducible apply State.closeComplete_good
    | with_reducible apply State.frameIncomplete_good
    | split

theorem State.legLost_good (out : km.part .out) (ing : km.part .ing)
    (hFLOW_FLOW_STAT_LEGA_UP : ∀ a, km.fld (R.FLOW.FLOW_STAT.LEGA_UP a))
    (hFLOW_FLOW_STAT_LEGB_UP : ∀ a, km.fld (R.FLOW.FLOW_STAT.LEGB_UP a))
    (hFLOW_FLOW_STAT_STATE : ∀ a, km.fld (R.FLOW.FLOW_STAT.STATE a)) (hPG_EVT_PEND : ∀ a, km.fld (R.PG.EVT_PEND a))
    (s : State) (k l : Nat) (hs : s.Keeps km pq) : (State.legLost s k l).Keeps km pq := by
  unfold State.legLost
  repeat' first
    | with_reducible assumption
    | with_reducible exact hFLOW_FLOW_STAT_LEGA_UP _
    | with_reducible exact hFLOW_FLOW_STAT_LEGB_UP _
    | with_reducible exact hFLOW_FLOW_STAT_STATE _
    | with_reducible exact hPG_EVT_PEND _
    | (show km.fld _; split <;> first | assumption | exact hFLOW_FLOW_STAT_LEGA_UP _ | exact hFLOW_FLOW_STAT_LEGB_UP _ | exact hFLOW_FLOW_STAT_STATE _ | exact hPG_EVT_PEND _)
    | ((try lift_lets -underBinder); intro x; refine Keep.use (k := km) (q := pq) (s := x) ?_ ?_; (on_goal 1 => dsimp -zeta only [x]); (on_goal 2 => clear_value x; intro _))
    | ((try lift_lets -underBinder); intro x; refine Keep.usePair (k := km) (q := pq) (p := x) ?_ ?_; (on_goal 1 => dsimp -zeta only [x]); (on_goal 2 => clear_value x; intro _))
    | ((try lift_lets -underBinder); intro x; refine Keep.memSt (x := x) ?_; subst x)
    | ((try lift_lets -underBinder); intro x; refine Keep.depSt (x := x) ?_; subst x)
    | ((try lift_lets -underBinder); intro x; clear_value x)
    | (intro _)
    | with_reducible apply Keep.ite
    | with_reducible apply State.setFlow_good
    | with_reducible apply State.set_good
    | with_reducible apply State.setSlot_good
    | with_reducible apply State.flowEv_good

theorem State.flowLost_good (out : km.part .out) (ing : km.part .ing)
    (hFLOW_FLOW_STAT_LEGA_UP : ∀ a, km.fld (R.FLOW.FLOW_STAT.LEGA_UP a))
    (hFLOW_FLOW_STAT_LEGB_UP : ∀ a, km.fld (R.FLOW.FLOW_STAT.LEGB_UP a))
    (hFLOW_FLOW_STAT_STATE : ∀ a, km.fld (R.FLOW.FLOW_STAT.STATE a)) (hPG_EVT_PEND : ∀ a, km.fld (R.PG.EVT_PEND a))
    (s : State) (k : Nat) (hs : s.Keeps km pq) : (State.flowLost s k).Keeps km pq := by
  unfold State.flowLost
  repeat' first
    | with_reducible assumption
    | with_reducible exact hFLOW_FLOW_STAT_LEGA_UP _
    | with_reducible exact hFLOW_FLOW_STAT_LEGB_UP _
    | with_reducible exact hFLOW_FLOW_STAT_STATE _
    | with_reducible exact hPG_EVT_PEND _
    | ((try lift_lets -underBinder); intro x; refine Keep.use (k := km) (q := pq) (s := x) ?_ ?_; (on_goal 1 => dsimp -zeta only [x]); (on_goal 2 => clear_value x; intro _))
    | ((try lift_lets -underBinder); intro x; refine Keep.usePair (k := km) (q := pq) (p := x) ?_ ?_; (on_goal 1 => dsimp -zeta only [x]); (on_goal 2 => clear_value x; intro _))
    | ((try lift_lets -underBinder); intro x; refine Keep.memSt (x := x) ?_; subst x)
    | ((try lift_lets -underBinder); intro x; refine Keep.depSt (x := x) ?_; subst x)
    | ((try lift_lets -underBinder); intro x; clear_value x)
    | (intro _)
    | with_reducible apply Keep.ite
    | with_reducible apply State.setSlot_good
    | with_reducible apply State.setFlow_good
    | with_reducible apply State.set_good
    | with_reducible apply State.flowEv_good

theorem State.pickFrame_good (ing : km.part .ing) (hFLOW_REPEATS_COUNT : ∀ a, km.fld (R.FLOW.REPEATS.COUNT a))
    (hFLOW_RTP_TS_TS : ∀ a, km.fld (R.FLOW.RTP_TS.TS a)) (s : State) (k : Nat) (hs : s.Keeps km pq) : (State.pickFrame s k).Keeps km pq := by
  unfold State.pickFrame
  repeat' first
    | with_reducible assumption
    | with_reducible exact hFLOW_REPEATS_COUNT _
    | with_reducible exact hFLOW_RTP_TS_TS _
    | ((try lift_lets -underBinder); intro x; refine Keep.use (k := km) (q := pq) (s := x) ?_ ?_; (on_goal 1 => dsimp -zeta only [x]); (on_goal 2 => clear_value x; intro _))
    | ((try lift_lets -underBinder); intro x; refine Keep.usePair (k := km) (q := pq) (p := x) ?_ ?_; (on_goal 1 => dsimp -zeta only [x]); (on_goal 2 => clear_value x; intro _))
    | ((try lift_lets -underBinder); intro x; refine Keep.memSt (x := x) ?_; subst x)
    | ((try lift_lets -underBinder); intro x; refine Keep.depSt (x := x) ?_; subst x)
    | ((try lift_lets -underBinder); intro x; clear_value x)
    | (intro _)
    | with_reducible apply Keep.ite
    | with_reducible apply State.setSlot_good
    | with_reducible apply State.set_good
    | with_reducible apply State.count_good
    | split

theorem State.pickLoss_good (ing : km.part .ing) (s : State) (k policy : Nat) (hs : s.Keeps km pq) : (State.pickLoss s k policy).Keeps km pq := by
  unfold State.pickLoss
  repeat' first
    | with_reducible assumption
    | ((try lift_lets -underBinder); intro x; refine Keep.use (k := km) (q := pq) (s := x) ?_ ?_; (on_goal 1 => dsimp -zeta only [x]); (on_goal 2 => clear_value x; intro _))
    | ((try lift_lets -underBinder); intro x; refine Keep.usePair (k := km) (q := pq) (p := x) ?_ ?_; (on_goal 1 => dsimp -zeta only [x]); (on_goal 2 => clear_value x; intro _))
    | ((try lift_lets -underBinder); intro x; refine Keep.memSt (x := x) ?_; subst x)
    | ((try lift_lets -underBinder); intro x; refine Keep.depSt (x := x) ?_; subst x)
    | ((try lift_lets -underBinder); intro x; clear_value x)
    | (intro _)
    | with_reducible apply Keep.ite
    | with_reducible apply State.setSlot_good

theorem State.pickVideo_good (ing : km.part .ing) (hFLOW_DROPS_COUNT : ∀ a, km.fld (R.FLOW.DROPS.COUNT a))
    (hFLOW_REPEATS_COUNT : ∀ a, km.fld (R.FLOW.REPEATS.COUNT a)) (hFLOW_RTP_TS_TS : ∀ a, km.fld (R.FLOW.RTP_TS.TS a))
    (hING_FS_FREE_MIB : km.fld R.ING.FS_FREE.MIB) (s : State) (k : Nat) (hs : s.Keeps km pq) : (State.pickVideo s k).Keeps km pq := by
  unfold State.pickVideo
  repeat' first
    | with_reducible assumption
    | with_reducible exact hFLOW_DROPS_COUNT _
    | with_reducible exact hFLOW_REPEATS_COUNT _
    | with_reducible exact hFLOW_RTP_TS_TS _
    | ((try lift_lets -underBinder); intro x; refine Keep.use (k := km) (q := pq) (s := x) ?_ ?_; (on_goal 1 => dsimp -zeta only [x]); (on_goal 2 => clear_value x; intro _))
    | ((try lift_lets -underBinder); intro x; refine Keep.usePair (k := km) (q := pq) (p := x) ?_ ?_; (on_goal 1 => dsimp -zeta only [x]); (on_goal 2 => clear_value x; intro _))
    | ((try lift_lets -underBinder); intro x; refine Keep.memSt (x := x) ?_; subst x)
    | ((try lift_lets -underBinder); intro x; refine Keep.depSt (x := x) ?_; subst x)
    | ((try lift_lets -underBinder); intro x; clear_value x)
    | (intro _)
    | with_reducible apply Keep.ite
    | with_reducible apply State.frameSettle_good
    | with_reducible apply State.setSlot_good
    | with_reducible apply State.showFree_good
    | with_reducible apply State.pickFrame_good
    | with_reducible apply State.pickLoss_good

theorem State.pickAnc_good (out : km.part .out) (ing : km.part .ing) (mem : km.part .mem) (dram : km.part .dram)
    (hFLOW_DROPS_COUNT : ∀ a, km.fld (R.FLOW.DROPS.COUNT a)) (hFLOW_RTP_TS_TS : ∀ a, km.fld (R.FLOW.RTP_TS.TS a))
    (hFLOW_TC_STALE : ∀ a, km.fld (R.FLOW.TC.STALE a)) (hFLOW_TC_V : ∀ a, km.fld (R.FLOW.TC.V a))
    (hING_FS_FREE_MIB : km.fld R.ING.FS_FREE.MIB) (hLOG_LOG_ADDR_LO_ADDR : ∀ a, km.fld (R.LOG.LOG_ADDR_LO.ADDR a))
    (hLOG_LOG_INFO_ADDR_HI : ∀ a, km.fld (R.LOG.LOG_INFO.ADDR_HI a))
    (hLOG_LOG_INFO_ARRAY : ∀ a, km.fld (R.LOG.LOG_INFO.ARRAY a))
    (hLOG_LOG_INFO_BYTES : ∀ a, km.fld (R.LOG.LOG_INFO.BYTES a))
    (hLOG_LOG_INFO_CHANNEL : ∀ a, km.fld (R.LOG.LOG_INFO.CHANNEL a))
    (hLOG_LOG_INFO_CODE : ∀ a, km.fld (R.LOG.LOG_INFO.CODE a))
    (hLOG_LOG_INFO_PORT : ∀ a, km.fld (R.LOG.LOG_INFO.PORT a))
    (hLOG_LOG_INFO_SRAM : ∀ a, km.fld (R.LOG.LOG_INFO.SRAM a))
    (hLOG_LOG_TIME_HI_NS : ∀ a, km.fld (R.LOG.LOG_TIME_HI.NS a))
    (hLOG_LOG_TIME_LO_NS : ∀ a, km.fld (R.LOG.LOG_TIME_LO.NS a))
    (hPAR_CHK_CTRL_INJ_ARM : km.fld R.PAR.CHK_CTRL.INJ_ARM) (hPAR_LOG_STAT_NEXT : km.fld R.PAR.LOG_STAT.NEXT)
    (hPAR_LOG_STAT_TOTAL : km.fld R.PAR.LOG_STAT.TOTAL) (hPAR_LOG_STAT_WRAPPED : km.fld R.PAR.LOG_STAT.WRAPPED)
    (hPG_ERR_ADDR_HI : ∀ a, km.fld (R.PG.ERR_ADDR_HI a)) (hPG_ERR_ADDR_LO : ∀ a, km.fld (R.PG.ERR_ADDR_LO a))
    (hPG_ERR_CODE : ∀ a, km.fld (R.PG.ERR_CODE a)) (hPG_ERR_COUNT : ∀ a, km.fld (R.PG.ERR_COUNT a))
    (hPG_ERR_OVERFLOW : ∀ a, km.fld (R.PG.ERR_OVERFLOW a)) (hPG_ERR_SOURCE : ∀ a, km.fld (R.PG.ERR_SOURCE a))
    (hPG_ERR_VALID : ∀ a, km.fld (R.PG.ERR_VALID a)) (hPG_EVT_PEND : ∀ a, km.fld (R.PG.EVT_PEND a)) (s : State)
    (k : Nat) (hs : s.Keeps km pq) : (State.pickAnc s k).Keeps km pq := by
  unfold State.pickAnc
  repeat' first
    | with_reducible assumption
    | with_reducible exact hFLOW_DROPS_COUNT _
    | with_reducible exact hFLOW_RTP_TS_TS _
    | with_reducible exact hFLOW_TC_STALE _
    | with_reducible exact hFLOW_TC_V _
    | with_reducible exact hLOG_LOG_ADDR_LO_ADDR _
    | with_reducible exact hLOG_LOG_INFO_ADDR_HI _
    | with_reducible exact hLOG_LOG_INFO_ARRAY _
    | with_reducible exact hLOG_LOG_INFO_BYTES _
    | with_reducible exact hLOG_LOG_INFO_CHANNEL _
    | with_reducible exact hLOG_LOG_INFO_CODE _
    | with_reducible exact hLOG_LOG_INFO_PORT _
    | with_reducible exact hLOG_LOG_INFO_SRAM _
    | with_reducible exact hLOG_LOG_TIME_HI_NS _
    | with_reducible exact hLOG_LOG_TIME_LO_NS _
    | with_reducible exact hPG_ERR_ADDR_HI _
    | with_reducible exact hPG_ERR_ADDR_LO _
    | with_reducible exact hPG_ERR_CODE _
    | with_reducible exact hPG_ERR_COUNT _
    | with_reducible exact hPG_ERR_OVERFLOW _
    | with_reducible exact hPG_ERR_SOURCE _
    | with_reducible exact hPG_ERR_VALID _
    | with_reducible exact hPG_EVT_PEND _
    | ((try lift_lets -underBinder); intro x; refine Keep.use (k := km) (q := pq) (s := x) ?_ ?_; (on_goal 1 => dsimp -zeta only [x]); (on_goal 2 => clear_value x; intro _))
    | ((try lift_lets -underBinder); intro x; refine Keep.usePair (k := km) (q := pq) (p := x) ?_ ?_; (on_goal 1 => dsimp -zeta only [x]); (on_goal 2 => clear_value x; intro _))
    | ((try lift_lets -underBinder); intro x; refine Keep.memSt (x := x) ?_; subst x)
    | ((try lift_lets -underBinder); intro x; refine Keep.depSt (x := x) ?_; subst x)
    | ((try lift_lets -underBinder); intro x; clear_value x)
    | (intro _)
    | with_reducible apply Keep.ite
    | with_reducible apply State.frameSettle_good
    | with_reducible apply State.setSlot_good
    | with_reducible apply State.showFree_good
    | with_reducible apply State.set_good
    | with_reducible apply State.dramWrite_good
    | split
    | (simp -zeta only [Keep.mk_iff]; with_reducible refine Keep.upd ?_ rfl ?_; on_goal 2 => (and_intros <;> with_reducible first | exact .inl rfl | exact .inl ⟨rfl, rfl, rfl⟩ | exact .inr ‹_› | exact Nat.le_refl _ | exact Nat.le_add_right _ _))
    | with_reducible apply Keep.foldl

theorem State.freeOld_good (ing : km.part .ing) (hING_FS_FREE_MIB : km.fld R.ING.FS_FREE.MIB) (s : State) (k : Nat)
    (hs : s.Keeps km pq) : (State.freeOld s k).Keeps km pq := by
  unfold State.freeOld
  repeat' first
    | with_reducible assumption
    | ((try lift_lets -underBinder); intro x; refine Keep.use (k := km) (q := pq) (s := x) ?_ ?_; (on_goal 1 => dsimp -zeta only [x]); (on_goal 2 => clear_value x; intro _))
    | ((try lift_lets -underBinder); intro x; refine Keep.usePair (k := km) (q := pq) (p := x) ?_ ?_; (on_goal 1 => dsimp -zeta only [x]); (on_goal 2 => clear_value x; intro _))
    | ((try lift_lets -underBinder); intro x; refine Keep.memSt (x := x) ?_; subst x)
    | ((try lift_lets -underBinder); intro x; refine Keep.depSt (x := x) ?_; subst x)
    | ((try lift_lets -underBinder); intro x; clear_value x)
    | (intro _)
    | with_reducible apply State.setSlot_good
    | with_reducible apply State.showFree_good

theorem State.pickAll_good (out : km.part .out) (ing : km.part .ing) (mem : km.part .mem) (dram : km.part .dram)
    (hFLOW_DROPS_COUNT : ∀ a, km.fld (R.FLOW.DROPS.COUNT a))
    (hFLOW_REPEATS_COUNT : ∀ a, km.fld (R.FLOW.REPEATS.COUNT a)) (hFLOW_RTP_TS_TS : ∀ a, km.fld (R.FLOW.RTP_TS.TS a))
    (hFLOW_TC_STALE : ∀ a, km.fld (R.FLOW.TC.STALE a)) (hFLOW_TC_V : ∀ a, km.fld (R.FLOW.TC.V a))
    (hING_FS_FREE_MIB : km.fld R.ING.FS_FREE.MIB) (hLOG_LOG_ADDR_LO_ADDR : ∀ a, km.fld (R.LOG.LOG_ADDR_LO.ADDR a))
    (hLOG_LOG_INFO_ADDR_HI : ∀ a, km.fld (R.LOG.LOG_INFO.ADDR_HI a))
    (hLOG_LOG_INFO_ARRAY : ∀ a, km.fld (R.LOG.LOG_INFO.ARRAY a))
    (hLOG_LOG_INFO_BYTES : ∀ a, km.fld (R.LOG.LOG_INFO.BYTES a))
    (hLOG_LOG_INFO_CHANNEL : ∀ a, km.fld (R.LOG.LOG_INFO.CHANNEL a))
    (hLOG_LOG_INFO_CODE : ∀ a, km.fld (R.LOG.LOG_INFO.CODE a))
    (hLOG_LOG_INFO_PORT : ∀ a, km.fld (R.LOG.LOG_INFO.PORT a))
    (hLOG_LOG_INFO_SRAM : ∀ a, km.fld (R.LOG.LOG_INFO.SRAM a))
    (hLOG_LOG_TIME_HI_NS : ∀ a, km.fld (R.LOG.LOG_TIME_HI.NS a))
    (hLOG_LOG_TIME_LO_NS : ∀ a, km.fld (R.LOG.LOG_TIME_LO.NS a))
    (hPAR_CHK_CTRL_INJ_ARM : km.fld R.PAR.CHK_CTRL.INJ_ARM) (hPAR_LOG_STAT_NEXT : km.fld R.PAR.LOG_STAT.NEXT)
    (hPAR_LOG_STAT_TOTAL : km.fld R.PAR.LOG_STAT.TOTAL) (hPAR_LOG_STAT_WRAPPED : km.fld R.PAR.LOG_STAT.WRAPPED)
    (hPG_ERR_ADDR_HI : ∀ a, km.fld (R.PG.ERR_ADDR_HI a)) (hPG_ERR_ADDR_LO : ∀ a, km.fld (R.PG.ERR_ADDR_LO a))
    (hPG_ERR_CODE : ∀ a, km.fld (R.PG.ERR_CODE a)) (hPG_ERR_COUNT : ∀ a, km.fld (R.PG.ERR_COUNT a))
    (hPG_ERR_OVERFLOW : ∀ a, km.fld (R.PG.ERR_OVERFLOW a)) (hPG_ERR_SOURCE : ∀ a, km.fld (R.PG.ERR_SOURCE a))
    (hPG_ERR_VALID : ∀ a, km.fld (R.PG.ERR_VALID a)) (hPG_EVT_PEND : ∀ a, km.fld (R.PG.EVT_PEND a)) (s : State)
    (hs : s.Keeps km pq) : (State.pickAll s).Keeps km pq := by
  unfold State.pickAll
  repeat' first
    | with_reducible assumption
    | with_reducible exact hFLOW_DROPS_COUNT _
    | with_reducible exact hFLOW_REPEATS_COUNT _
    | with_reducible exact hFLOW_RTP_TS_TS _
    | with_reducible exact hFLOW_TC_STALE _
    | with_reducible exact hFLOW_TC_V _
    | with_reducible exact hLOG_LOG_ADDR_LO_ADDR _
    | with_reducible exact hLOG_LOG_INFO_ADDR_HI _
    | with_reducible exact hLOG_LOG_INFO_ARRAY _
    | with_reducible exact hLOG_LOG_INFO_BYTES _
    | with_reducible exact hLOG_LOG_INFO_CHANNEL _
    | with_reducible exact hLOG_LOG_INFO_CODE _
    | with_reducible exact hLOG_LOG_INFO_PORT _
    | with_reducible exact hLOG_LOG_INFO_SRAM _
    | with_reducible exact hLOG_LOG_TIME_HI_NS _
    | with_reducible exact hLOG_LOG_TIME_LO_NS _
    | with_reducible exact hPG_ERR_ADDR_HI _
    | with_reducible exact hPG_ERR_ADDR_LO _
    | with_reducible exact hPG_ERR_CODE _
    | with_reducible exact hPG_ERR_COUNT _
    | with_reducible exact hPG_ERR_OVERFLOW _
    | with_reducible exact hPG_ERR_SOURCE _
    | with_reducible exact hPG_ERR_VALID _
    | with_reducible exact hPG_EVT_PEND _
    | ((try lift_lets -underBinder); intro x; refine Keep.use (k := km) (q := pq) (s := x) ?_ ?_; (on_goal 1 => dsimp -zeta only [x]); (on_goal 2 => clear_value x; intro _))
    | ((try lift_lets -underBinder); intro x; refine Keep.usePair (k := km) (q := pq) (p := x) ?_ ?_; (on_goal 1 => dsimp -zeta only [x]); (on_goal 2 => clear_value x; intro _))
    | ((try lift_lets -underBinder); intro x; refine Keep.memSt (x := x) ?_; subst x)
    | ((try lift_lets -underBinder); intro x; refine Keep.depSt (x := x) ?_; subst x)
    | ((try lift_lets -underBinder); intro x; clear_value x)
    | (intro _)
    | with_reducible apply Keep.ite
    | with_reducible apply State.forN_good
    | with_reducible apply State.freeOld_good
    | with_reducible apply State.pickVideo_good
    | with_reducible apply State.pickAnc_good

theorem State.followTurn_good (ing : km.part .ing) (s : State) (k : Nat) (hs : s.Keeps km pq) : (State.followTurn s k).Keeps km pq := by
  unfold State.followTurn
  repeat' first
    | with_reducible assumption
    | ((try lift_lets -underBinder); intro x; refine Keep.use (k := km) (q := pq) (s := x) ?_ ?_; (on_goal 1 => dsimp -zeta only [x]); (on_goal 2 => clear_value x; intro _))
    | ((try lift_lets -underBinder); intro x; refine Keep.usePair (k := km) (q := pq) (p := x) ?_ ?_; (on_goal 1 => dsimp -zeta only [x]); (on_goal 2 => clear_value x; intro _))
    | ((try lift_lets -underBinder); intro x; refine Keep.memSt (x := x) ?_; subst x)
    | ((try lift_lets -underBinder); intro x; refine Keep.depSt (x := x) ?_; subst x)
    | ((try lift_lets -underBinder); intro x; clear_value x)
    | (intro _)
    | with_reducible apply State.setSlot_good
    | (simp -zeta only [Keep.mk_iff]; with_reducible refine Keep.upd ?_ rfl ?_; on_goal 2 => (and_intros <;> with_reducible first | exact .inl rfl | exact .inl ⟨rfl, rfl, rfl⟩ | exact .inr ‹_› | exact Nat.le_refl _ | exact Nat.le_add_right _ _))

theorem State.followMoved_good (ing : km.part .ing) (s : State) (old : Nat) (hs : s.Keeps km pq) : (State.followMoved s old).Keeps km pq := by
  unfold State.followMoved
  repeat' first
    | with_reducible assumption
    | (intro _)
    | with_reducible apply Keep.ite
    | with_reducible apply State.followTurn_good

theorem State.followEval_good (out : km.part .out) (ing : km.part .ing)
    (hING_FOLLOW_VALID : km.fld R.ING.FOLLOW.VALID) (hPG_ERR_ADDR_HI : ∀ a, km.fld (R.PG.ERR_ADDR_HI a))
    (hPG_ERR_ADDR_LO : ∀ a, km.fld (R.PG.ERR_ADDR_LO a)) (hPG_ERR_CODE : ∀ a, km.fld (R.PG.ERR_CODE a))
    (hPG_ERR_COUNT : ∀ a, km.fld (R.PG.ERR_COUNT a)) (hPG_ERR_OVERFLOW : ∀ a, km.fld (R.PG.ERR_OVERFLOW a))
    (hPG_ERR_SOURCE : ∀ a, km.fld (R.PG.ERR_SOURCE a)) (hPG_ERR_VALID : ∀ a, km.fld (R.PG.ERR_VALID a))
    (hPG_EVT_PEND : ∀ a, km.fld (R.PG.EVT_PEND a)) (s : State) (hs : s.Keeps km pq) : (State.followEval s).Keeps km pq := by
  unfold State.followEval
  repeat' first
    | with_reducible assumption
    | with_reducible exact hPG_ERR_ADDR_HI _
    | with_reducible exact hPG_ERR_ADDR_LO _
    | with_reducible exact hPG_ERR_CODE _
    | with_reducible exact hPG_ERR_COUNT _
    | with_reducible exact hPG_ERR_OVERFLOW _
    | with_reducible exact hPG_ERR_SOURCE _
    | with_reducible exact hPG_ERR_VALID _
    | with_reducible exact hPG_EVT_PEND _
    | ((try lift_lets -underBinder); intro x; refine Keep.use (k := km) (q := pq) (s := x) ?_ ?_; (on_goal 1 => dsimp -zeta only [x]); (on_goal 2 => clear_value x; intro _))
    | ((try lift_lets -underBinder); intro x; refine Keep.usePair (k := km) (q := pq) (p := x) ?_ ?_; (on_goal 1 => dsimp -zeta only [x]); (on_goal 2 => clear_value x; intro _))
    | ((try lift_lets -underBinder); intro x; refine Keep.memSt (x := x) ?_; subst x)
    | ((try lift_lets -underBinder); intro x; refine Keep.depSt (x := x) ?_; subst x)
    | ((try lift_lets -underBinder); intro x; clear_value x)
    | (intro _)
    | with_reducible apply Keep.ite
    | with_reducible apply State.set_good
    | with_reducible apply State.followTurn_good
    | with_reducible apply State.err_good
    | with_reducible apply State.ev_good
    | (simp -zeta only [Keep.mk_iff]; with_reducible refine Keep.upd ?_ rfl ?_; on_goal 2 => (and_intros <;> with_reducible first | exact .inl rfl | exact .inl ⟨rfl, rfl, rfl⟩ | exact .inr ‹_› | exact Nat.le_refl _ | exact Nat.le_add_right _ _))

theorem State.flowPageReset_good (tim : km.part .tim) (ing : km.part .ing)
    (hFLOW_FLOW_CTRL_EN : ∀ a, km.fld (R.FLOW.FLOW_CTRL.EN a))
    (hFLOW_FLOW_STAT_LEGA_UP : ∀ a, km.fld (R.FLOW.FLOW_STAT.LEGA_UP a))
    (hFLOW_FLOW_STAT_LEGB_UP : ∀ a, km.fld (R.FLOW.FLOW_STAT.LEGB_UP a))
    (hFLOW_FLOW_STAT_PAIR_WAIT : ∀ a, km.fld (R.FLOW.FLOW_STAT.PAIR_WAIT a))
    (hFLOW_FLOW_STAT_STATE : ∀ a, km.fld (R.FLOW.FLOW_STAT.STATE a)) (hING_FS_FREE_MIB : km.fld R.ING.FS_FREE.MIB)
    (hING_LOAD_GBPS : km.fld R.ING.LOAD.GBPS) (hING_PORT_LOAD_GBPS : ∀ a, km.fld (R.ING.PORT_LOAD.GBPS a))
    (hTIM_DOM_OFFSET_OFFSET : ∀ a, km.fld (R.TIM.DOM_OFFSET.OFFSET a))
    (hTIM_DOM_RATE_RATE : ∀ a, km.fld (R.TIM.DOM_RATE.RATE a)) (s : State) (page : Nat) (hs : s.Keeps km pq) : (State.flowPageReset s page).Keeps km pq := by
  unfold State.flowPageReset
  repeat' first
    | with_reducible assumption
    | with_reducible exact hFLOW_FLOW_CTRL_EN _
    | with_reducible exact hFLOW_FLOW_STAT_LEGA_UP _
    | with_reducible exact hFLOW_FLOW_STAT_LEGB_UP _
    | with_reducible exact hFLOW_FLOW_STAT_PAIR_WAIT _
    | with_reducible exact hFLOW_FLOW_STAT_STATE _
    | with_reducible exact hING_PORT_LOAD_GBPS _
    | with_reducible exact hTIM_DOM_OFFSET_OFFSET _
    | with_reducible exact hTIM_DOM_RATE_RATE _
    | (intro _)
    | with_reducible apply State.forN_good
    | with_reducible apply State.flowDisable_good

theorem State.ingReset_good (out : km.part .out) (tim : km.part .tim) (ing : km.part .ing)
    (hFLOW_FLOW_CTRL_EN : ∀ a, km.fld (R.FLOW.FLOW_CTRL.EN a))
    (hFLOW_FLOW_STAT_LEGA_UP : ∀ a, km.fld (R.FLOW.FLOW_STAT.LEGA_UP a))
    (hFLOW_FLOW_STAT_LEGB_UP : ∀ a, km.fld (R.FLOW.FLOW_STAT.LEGB_UP a))
    (hFLOW_FLOW_STAT_PAIR_WAIT : ∀ a, km.fld (R.FLOW.FLOW_STAT.PAIR_WAIT a))
    (hFLOW_FLOW_STAT_STATE : ∀ a, km.fld (R.FLOW.FLOW_STAT.STATE a)) (hING_FOLLOW_VALID : km.fld R.ING.FOLLOW.VALID)
    (hING_FS_FREE_MIB : km.fld R.ING.FS_FREE.MIB) (hING_LOAD_GBPS : km.fld R.ING.LOAD.GBPS)
    (hING_PORT_LOAD_GBPS : ∀ a, km.fld (R.ING.PORT_LOAD.GBPS a)) (hPG_ERR_ADDR_HI : ∀ a, km.fld (R.PG.ERR_ADDR_HI a))
    (hPG_ERR_ADDR_LO : ∀ a, km.fld (R.PG.ERR_ADDR_LO a)) (hPG_ERR_CODE : ∀ a, km.fld (R.PG.ERR_CODE a))
    (hPG_ERR_COUNT : ∀ a, km.fld (R.PG.ERR_COUNT a)) (hPG_ERR_OVERFLOW : ∀ a, km.fld (R.PG.ERR_OVERFLOW a))
    (hPG_ERR_SOURCE : ∀ a, km.fld (R.PG.ERR_SOURCE a)) (hPG_ERR_VALID : ∀ a, km.fld (R.PG.ERR_VALID a))
    (hPG_EVT_PEND : ∀ a, km.fld (R.PG.EVT_PEND a)) (hTIM_DOM_OFFSET_OFFSET : ∀ a, km.fld (R.TIM.DOM_OFFSET.OFFSET a))
    (hTIM_DOM_RATE_RATE : ∀ a, km.fld (R.TIM.DOM_RATE.RATE a)) (s : State) (hs : s.Keeps km pq) : (State.ingReset s).Keeps km pq := by
  unfold State.ingReset
  repeat' first
    | with_reducible assumption
    | with_reducible exact hFLOW_FLOW_CTRL_EN _
    | with_reducible exact hFLOW_FLOW_STAT_LEGA_UP _
    | with_reducible exact hFLOW_FLOW_STAT_LEGB_UP _
    | with_reducible exact hFLOW_FLOW_STAT_PAIR_WAIT _
    | with_reducible exact hFLOW_FLOW_STAT_STATE _
    | with_reducible exact hING_PORT_LOAD_GBPS _
    | with_reducible exact hPG_ERR_ADDR_HI _
    | with_reducible exact hPG_ERR_ADDR_LO _
    | with_reducible exact hPG_ERR_CODE _
    | with_reducible exact hPG_ERR_COUNT _
    | with_reducible exact hPG_ERR_OVERFLOW _
    | with_reducible exact hPG_ERR_SOURCE _
    | with_reducible exact hPG_ERR_VALID _
    | with_reducible exact hPG_EVT_PEND _
    | with_reducible exact hTIM_DOM_OFFSET_OFFSET _
    | with_reducible exact hTIM_DOM_RATE_RATE _
    | (intro _)
    | with_reducible apply State.forN_good
    | with_reducible apply State.flowPageReset_good
    | with_reducible apply State.followEval_good

theorem execEthLinkUp_good (frc : km.part .frc) (out : km.part .out)
    (hETH_PORT_STAT_ALIGN_LOCK : ∀ a, km.fld (R.ETH.PORT_STAT.ALIGN_LOCK a))
    (hETH_PORT_STAT_AN_DONE : ∀ a, km.fld (R.ETH.PORT_STAT.AN_DONE a))
    (hETH_PORT_STAT_FEC_LOCK : ∀ a, km.fld (R.ETH.PORT_STAT.FEC_LOCK a))
    (hETH_PORT_STAT_LINK_UP : ∀ a, km.fld (R.ETH.PORT_STAT.LINK_UP a))
    (hLNL_LANE_STAT_STATE : ∀ a, km.fld (R.LNL.LANE_STAT.STATE a)) (hPG_EVT_PEND : ∀ a, km.fld (R.PG.EVT_PEND a))
    (p t : Nat) (s : State) (hs : s.Keeps km pq) : ∀ st, execEthLinkUp p t s = .next st → st.Keeps km pq := by
  unfold execEthLinkUp
  refine runIn_good hs (fun s hs => ?_)
  repeat' first
    | with_reducible assumption
    | with_reducible exact hETH_PORT_STAT_ALIGN_LOCK _
    | with_reducible exact hETH_PORT_STAT_AN_DONE _
    | with_reducible exact hETH_PORT_STAT_FEC_LOCK _
    | with_reducible exact hETH_PORT_STAT_LINK_UP _
    | with_reducible exact hLNL_LANE_STAT_STATE _
    | with_reducible exact hPG_EVT_PEND _
    | (intro _)
    | with_reducible apply State.tick_good
    | with_reducible apply State.ethUp_good

theorem execEthLinkDown_good (frc : km.part .frc) (out : km.part .out)
    (hETH_PORT_STAT_ALIGN_LOCK : ∀ a, km.fld (R.ETH.PORT_STAT.ALIGN_LOCK a))
    (hETH_PORT_STAT_AN_DONE : ∀ a, km.fld (R.ETH.PORT_STAT.AN_DONE a))
    (hETH_PORT_STAT_FEC_LOCK : ∀ a, km.fld (R.ETH.PORT_STAT.FEC_LOCK a))
    (hETH_PORT_STAT_LINK_UP : ∀ a, km.fld (R.ETH.PORT_STAT.LINK_UP a))
    (hLNL_LANE_STAT_STATE : ∀ a, km.fld (R.LNL.LANE_STAT.STATE a)) (hPG_EVT_PEND : ∀ a, km.fld (R.PG.EVT_PEND a))
    (p t : Nat) (s : State) (hs : s.Keeps km pq) : ∀ st, execEthLinkDown p t s = .next st → st.Keeps km pq := by
  unfold execEthLinkDown
  refine runIn_good hs (fun s hs => ?_)
  repeat' first
    | with_reducible assumption
    | with_reducible exact hETH_PORT_STAT_ALIGN_LOCK _
    | with_reducible exact hETH_PORT_STAT_AN_DONE _
    | with_reducible exact hETH_PORT_STAT_FEC_LOCK _
    | with_reducible exact hETH_PORT_STAT_LINK_UP _
    | with_reducible exact hLNL_LANE_STAT_STATE _
    | with_reducible exact hPG_EVT_PEND _
    | (intro _)
    | with_reducible apply State.tick_good
    | with_reducible apply State.ethDown_good

theorem execEthFrame_good (frc : km.part .frc) (out : km.part .out) (ing : km.part .ing)
    (hETH_FCS_ERR_COUNT : ∀ a, km.fld (R.ETH.FCS_ERR.COUNT a))
    (hETH_FEC_CORR_COUNT : ∀ a, km.fld (R.ETH.FEC_CORR.COUNT a))
    (hETH_FEC_UNCORR_COUNT : ∀ a, km.fld (R.ETH.FEC_UNCORR.COUNT a))
    (hETH_RX_DROP_COUNT : ∀ a, km.fld (R.ETH.RX_DROP.COUNT a))
    (hETH_RX_FRAMES_COUNT : ∀ a, km.fld (R.ETH.RX_FRAMES.COUNT a))
    (hETH_RX_OVERSIZE_COUNT : ∀ a, km.fld (R.ETH.RX_OVERSIZE.COUNT a))
    (hLNL_FEC_CORR_COUNT : ∀ a, km.fld (R.LNL.FEC_CORR.COUNT a))
    (hLNL_FEC_UNCORR_COUNT : ∀ a, km.fld (R.LNL.FEC_UNCORR.COUNT a))
    (hLNL_SER_CNT_COUNT : ∀ a, km.fld (R.LNL.SER_CNT.COUNT a)) (hLNL_TX_TAPS_C0 : ∀ a, km.fld (R.LNL.TX_TAPS.C0 a))
    (hLNL_TX_TAPS_CM1 : ∀ a, km.fld (R.LNL.TX_TAPS.CM1 a)) (hLNL_TX_TAPS_CM2 : ∀ a, km.fld (R.LNL.TX_TAPS.CM2 a))
    (hLNL_TX_TAPS_CP1 : ∀ a, km.fld (R.LNL.TX_TAPS.CP1 a)) (hLNL_TX_TAPS_CP2 : ∀ a, km.fld (R.LNL.TX_TAPS.CP2 a))
    (hPG_EVT_PEND : ∀ a, km.fld (R.PG.EVT_PEND a)) (p : Nat) (f : EthFrame) (corr uncorr t : Nat) (s : State)
    (hs : s.Keeps km pq) : ∀ st, execEthFrame p f corr uncorr t s = .next st → st.Keeps km pq := by
  unfold execEthFrame
  refine runIn_good hs (fun s hs => ?_)
  repeat' first
    | with_reducible assumption
    | with_reducible exact hETH_FCS_ERR_COUNT _
    | with_reducible exact hETH_FEC_CORR_COUNT _
    | with_reducible exact hETH_FEC_UNCORR_COUNT _
    | with_reducible exact hETH_RX_DROP_COUNT _
    | with_reducible exact hETH_RX_FRAMES_COUNT _
    | with_reducible exact hETH_RX_OVERSIZE_COUNT _
    | with_reducible exact hLNL_FEC_CORR_COUNT _
    | with_reducible exact hLNL_FEC_UNCORR_COUNT _
    | with_reducible exact hLNL_SER_CNT_COUNT _
    | with_reducible exact hLNL_TX_TAPS_C0 _
    | with_reducible exact hLNL_TX_TAPS_CM1 _
    | with_reducible exact hLNL_TX_TAPS_CM2 _
    | with_reducible exact hLNL_TX_TAPS_CP1 _
    | with_reducible exact hLNL_TX_TAPS_CP2 _
    | with_reducible exact hPG_EVT_PEND _
    | (intro _)
    | with_reducible apply State.tick_good
    | with_reducible apply State.ethFrame_good

theorem execMergeWaitEnd_good (frc : km.part .frc) (out : km.part .out) (tim : km.part .tim) (dep : km.part .dep)
    (ing : km.part .ing) (line : km.part .line) (que : km.part .que)
    (hDEP_DEP_STAT_ARMED : km.fld R.DEP.DEP_STAT.ARMED) (hDEP_DEP_STAT_NEXT_IDX : km.fld R.DEP.DEP_STAT.NEXT_IDX)
    (hDEP_ENT_STATUS_STATE : km.fld R.DEP.ENT_STATUS.STATE) (hDEP_MISSED_CNT_MISSED : km.fld R.DEP.MISSED_CNT.MISSED)
    (hFLOW_DROPS_COUNT : ∀ a, km.fld (R.FLOW.DROPS.COUNT a))
    (hFLOW_FLOW_STAT_PAIR_WAIT : ∀ a, km.fld (R.FLOW.FLOW_STAT.PAIR_WAIT a))
    (hFLOW_FLOW_STAT_STATE : ∀ a, km.fld (R.FLOW.FLOW_STAT.STATE a))
    (hFLOW_FRAMES_COUNT : ∀ a, km.fld (R.FLOW.FRAMES.COUNT a))
    (hFLOW_GAP_A_COUNT : ∀ a, km.fld (R.FLOW.GAP_A.COUNT a)) (hFLOW_GAP_B_COUNT : ∀ a, km.fld (R.FLOW.GAP_B.COUNT a))
    (hFLOW_INCOMPLETE_COUNT : ∀ a, km.fld (R.FLOW.INCOMPLETE.COUNT a))
    (hFLOW_UNRECOVERED_COUNT : ∀ a, km.fld (R.FLOW.UNRECOVERED.COUNT a))
    (hPG_ERR_ADDR_HI : ∀ a, km.fld (R.PG.ERR_ADDR_HI a)) (hPG_ERR_ADDR_LO : ∀ a, km.fld (R.PG.ERR_ADDR_LO a))
    (hPG_ERR_CODE : ∀ a, km.fld (R.PG.ERR_CODE a)) (hPG_ERR_COUNT : ∀ a, km.fld (R.PG.ERR_COUNT a))
    (hPG_ERR_OVERFLOW : ∀ a, km.fld (R.PG.ERR_OVERFLOW a)) (hPG_ERR_SOURCE : ∀ a, km.fld (R.PG.ERR_SOURCE a))
    (hPG_ERR_VALID : ∀ a, km.fld (R.PG.ERR_VALID a)) (hPG_EVT_PEND : ∀ a, km.fld (R.PG.EVT_PEND a))
    (hPG_POISON_SEEN : ∀ a, km.fld (R.PG.POISON_SEEN a)) (hQCX_Q_CTRL_IDLE : ∀ a, km.fld (R.QCX.Q_CTRL.IDLE a))
    (hQCX_Q_DONE_CNT_COUNT : ∀ a, km.fld (R.QCX.Q_DONE_CNT.COUNT a))
    (hQCX_Q_HEAD_IDX : ∀ a, km.fld (R.QCX.Q_HEAD.IDX a))
    (hQCX_Q_INFLIGHT_COUNT : ∀ a, km.fld (R.QCX.Q_INFLIGHT.COUNT a))
    (hQUE_DESC_ERR_COUNT : km.fld R.QUE.DESC_ERR.COUNT) (hQUE_INFLIGHT_COUNT : km.fld R.QUE.INFLIGHT.COUNT)
    (hTEN_REVOKED_CNT_COUNT : ∀ a, km.fld (R.TEN.REVOKED_CNT.COUNT a))
    (hTIM_DOM_OFFSET_OFFSET : ∀ a, km.fld (R.TIM.DOM_OFFSET.OFFSET a))
    (hTIM_DOM_RATE_RATE : ∀ a, km.fld (R.TIM.DOM_RATE.RATE a)) (k t : Nat) (s : State) (hs : s.Keeps km pq) : ∀ st, execMergeWaitEnd k t s = .next st → st.Keeps km pq := by
  unfold execMergeWaitEnd
  refine runIn_good hs (fun s hs => ?_)
  repeat' first
    | with_reducible assumption
    | with_reducible exact hFLOW_DROPS_COUNT _
    | with_reducible exact hFLOW_FLOW_STAT_PAIR_WAIT _
    | with_reducible exact hFLOW_FLOW_STAT_STATE _
    | with_reducible exact hFLOW_FRAMES_COUNT _
    | with_reducible exact hFLOW_GAP_A_COUNT _
    | with_reducible exact hFLOW_GAP_B_COUNT _
    | with_reducible exact hFLOW_INCOMPLETE_COUNT _
    | with_reducible exact hFLOW_UNRECOVERED_COUNT _
    | with_reducible exact hPG_ERR_ADDR_HI _
    | with_reducible exact hPG_ERR_ADDR_LO _
    | with_reducible exact hPG_ERR_CODE _
    | with_reducible exact hPG_ERR_COUNT _
    | with_reducible exact hPG_ERR_OVERFLOW _
    | with_reducible exact hPG_ERR_SOURCE _
    | with_reducible exact hPG_ERR_VALID _
    | with_reducible exact hPG_EVT_PEND _
    | with_reducible exact hPG_POISON_SEEN _
    | with_reducible exact hQCX_Q_CTRL_IDLE _
    | with_reducible exact hQCX_Q_DONE_CNT_COUNT _
    | with_reducible exact hQCX_Q_HEAD_IDX _
    | with_reducible exact hQCX_Q_INFLIGHT_COUNT _
    | with_reducible exact hTEN_REVOKED_CNT_COUNT _
    | with_reducible exact hTIM_DOM_OFFSET_OFFSET _
    | with_reducible exact hTIM_DOM_RATE_RATE _
    | (intro _)
    | with_reducible apply State.tick_good
    | with_reducible apply State.mergeWaitEnd_good

theorem execLegLost_good (frc : km.part .frc) (out : km.part .out) (ing : km.part .ing)
    (hFLOW_FLOW_STAT_LEGA_UP : ∀ a, km.fld (R.FLOW.FLOW_STAT.LEGA_UP a))
    (hFLOW_FLOW_STAT_LEGB_UP : ∀ a, km.fld (R.FLOW.FLOW_STAT.LEGB_UP a))
    (hFLOW_FLOW_STAT_STATE : ∀ a, km.fld (R.FLOW.FLOW_STAT.STATE a)) (hPG_EVT_PEND : ∀ a, km.fld (R.PG.EVT_PEND a))
    (k l t : Nat) (s : State) (hs : s.Keeps km pq) : ∀ st, execLegLost k l t s = .next st → st.Keeps km pq := by
  unfold execLegLost
  refine runIn_good hs (fun s hs => ?_)
  repeat' first
    | with_reducible assumption
    | with_reducible exact hFLOW_FLOW_STAT_LEGA_UP _
    | with_reducible exact hFLOW_FLOW_STAT_LEGB_UP _
    | with_reducible exact hFLOW_FLOW_STAT_STATE _
    | with_reducible exact hPG_EVT_PEND _
    | (intro _)
    | with_reducible apply State.tick_good
    | with_reducible apply State.legLost_good

theorem execFlowLost_good (frc : km.part .frc) (out : km.part .out) (ing : km.part .ing)
    (hFLOW_FLOW_STAT_LEGA_UP : ∀ a, km.fld (R.FLOW.FLOW_STAT.LEGA_UP a))
    (hFLOW_FLOW_STAT_LEGB_UP : ∀ a, km.fld (R.FLOW.FLOW_STAT.LEGB_UP a))
    (hFLOW_FLOW_STAT_STATE : ∀ a, km.fld (R.FLOW.FLOW_STAT.STATE a)) (hPG_EVT_PEND : ∀ a, km.fld (R.PG.EVT_PEND a))
    (k t : Nat) (s : State) (hs : s.Keeps km pq) : ∀ st, execFlowLost k t s = .next st → st.Keeps km pq := by
  unfold execFlowLost
  refine runIn_good hs (fun s hs => ?_)
  repeat' first
    | with_reducible assumption
    | with_reducible exact hFLOW_FLOW_STAT_LEGA_UP _
    | with_reducible exact hFLOW_FLOW_STAT_LEGB_UP _
    | with_reducible exact hFLOW_FLOW_STAT_STATE _
    | with_reducible exact hPG_EVT_PEND _
    | (intro _)
    | with_reducible apply State.tick_good
    | with_reducible apply State.flowLost_good

theorem execFlowEnable_good (frc : km.part .frc) (out : km.part .out) (tim : km.part .tim) (ing : km.part .ing)
    (any : ∀ f, km.fld f) (k v t : Nat) (s : State) (hs : s.Keeps km pq) : ∀ st, execFlowEnable k v t s = .next st → st.Keeps km pq := by
  unfold execFlowEnable
  refine runIn_good hs (fun s hs => ?_)
  repeat' first
    | with_reducible assumption
    | (with_reducible (intros; exact any _))
    | (intro _)
    | with_reducible apply State.tick_good
    | with_reducible apply State.flowCtrlWrite_good
    | with_reducible apply State.followEval_good

theorem execFlowDisable_good (frc : km.part .frc) (out : km.part .out) (tim : km.part .tim) (ing : km.part .ing)
    (any : ∀ f, km.fld f) (k v t : Nat) (s : State) (hs : s.Keeps km pq) : ∀ st, execFlowDisable k v t s = .next st → st.Keeps km pq := by
  unfold execFlowDisable
  refine runIn_good hs (fun s hs => ?_)
  repeat' first
    | with_reducible assumption
    | (with_reducible (intros; exact any _))
    | (intro _)
    | with_reducible apply State.tick_good
    | with_reducible apply State.flowCtrlWrite_good
    | with_reducible apply State.followEval_good

theorem execLegEnable_good (frc : km.part .frc) (out : km.part .out) (tim : km.part .tim) (ing : km.part .ing)
    (any : ∀ f, km.fld f) (k v t : Nat) (s : State) (hs : s.Keeps km pq) : ∀ st, execLegEnable k v t s = .next st → st.Keeps km pq := by
  unfold execLegEnable
  refine runIn_good hs (fun s hs => ?_)
  repeat' first
    | with_reducible assumption
    | (with_reducible (intros; exact any _))
    | (intro _)
    | with_reducible apply State.tick_good
    | with_reducible apply State.flowCtrlWrite_good
    | with_reducible apply State.followEval_good

end Sys2Proof.Machine
end

