-- ==== Sys2Proof/Laws/KeepsCanvas.lean ====
section
/-!
SUPPORT. Every function of Machine/Canvas.lean changes what the hypotheses of its lemma name, and nothing else.
-/
namespace Sys2Proof.Machine
set_option Elab.async false
set_option linter.unusedVariables false
set_option linter.unusedTactic false
set_option linter.unreachableTactic false

variable {km : May} {pq : State}

theorem State.showCards_good (hMAP_CARDS_ACTIVE_COUNT : km.fld R.MAP.CARDS_ACTIVE.COUNT)
    (hMAP_PIX_A_PIX : km.fld R.MAP.PIX_A.PIX) (hMAP_PIX_B_PIX : km.fld R.MAP.PIX_B.PIX) (s : State)
    (hs : s.Keeps km pq) : (State.showCards s).Keeps km pq := by
  unfold State.showCards
  repeat' first
    | with_reducible assumption
    | ((try lift_lets -underBinder); intro x; refine Keep.use (k := km) (q := pq) (s := x) ?_ ?_; (on_goal 1 => dsimp -zeta only [x]); (on_goal 2 => clear_value x; intro _))
    | ((try lift_lets -underBinder); intro x; refine Keep.usePair (k := km) (q := pq) (p := x) ?_ ?_; (on_goal 1 => dsimp -zeta only [x]); (on_goal 2 => clear_value x; intro _))
    | ((try lift_lets -underBinder); intro x; refine Keep.memSt (x := x) ?_; subst x)
    | ((try lift_lets -underBinder); intro x; refine Keep.depSt (x := x) ?_; subst x)
    | ((try lift_lets -underBinder); intro x; clear_value x)
    | (intro _)
    | with_reducible apply State.set_good

theorem State.bankMarks_good (tim : km.part .tim) (mem : km.part .mem)
    (hTIM_DOM_OFFSET_OFFSET : ∀ a, km.fld (R.TIM.DOM_OFFSET.OFFSET a))
    (hTIM_DOM_RATE_RATE : ∀ a, km.fld (R.TIM.DOM_RATE.RATE a)) (s : State) (a n b : Nat) (hs : s.Keeps km pq) : (State.bankMarks s a n b).Keeps km pq := by
  unfold State.bankMarks
  repeat' first
    | with_reducible assumption
    | with_reducible exact hTIM_DOM_OFFSET_OFFSET _
    | with_reducible exact hTIM_DOM_RATE_RATE _
    | ((try lift_lets -underBinder); intro x; refine Keep.use (k := km) (q := pq) (s := x) ?_ ?_; (on_goal 1 => dsimp -zeta only [x]); (on_goal 2 => clear_value x; intro _))
    | ((try lift_lets -underBinder); intro x; refine Keep.usePair (k := km) (q := pq) (p := x) ?_ ?_; (on_goal 1 => dsimp -zeta only [x]); (on_goal 2 => clear_value x; intro _))
    | ((try lift_lets -underBinder); intro x; refine Keep.memSt (x := x) ?_; subst x)
    | ((try lift_lets -underBinder); intro x; refine Keep.depSt (x := x) ?_; subst x)
    | ((try lift_lets -underBinder); intro x; clear_value x)
    | (intro _)
    | with_reducible apply State.filter_good
    | (simp -zeta only [Keep.mk_iff]; with_reducible refine Keep.upd ?_ rfl ?_; on_goal 2 => (and_intros <;> with_reducible first | exact .inl rfl | exact .inl ⟨rfl, rfl, rfl⟩ | exact .inr ‹_› | exact Nat.le_refl _ | exact Nat.le_add_right _ _))

theorem State.exchangeCards_good (force : km.part .force) (tim : km.part .tim) (map : km.part .map)
    (mem : km.part .mem) (hMAP_CARDS_ACTIVE_COUNT : km.fld R.MAP.CARDS_ACTIVE.COUNT)
    (hMAP_CARD_STAT_SYNCING : km.fld R.MAP.CARD_STAT.SYNCING) (hMAP_PIX_A_PIX : km.fld R.MAP.PIX_A.PIX)
    (hMAP_PIX_B_PIX : km.fld R.MAP.PIX_B.PIX) (hTIM_DOM_OFFSET_OFFSET : ∀ a, km.fld (R.TIM.DOM_OFFSET.OFFSET a))
    (hTIM_DOM_RATE_RATE : ∀ a, km.fld (R.TIM.DOM_RATE.RATE a)) (s : State) (hs : s.Keeps km pq) : (State.exchangeCards s).Keeps km pq := by
  unfold State.exchangeCards
  repeat' first
    | with_reducible assumption
    | with_reducible exact hTIM_DOM_OFFSET_OFFSET _
    | with_reducible exact hTIM_DOM_RATE_RATE _
    | ((try lift_lets -underBinder); intro x; refine Keep.use (k := km) (q := pq) (s := x) ?_ ?_; (on_goal 1 => dsimp -zeta only [x]); (on_goal 2 => clear_value x; intro _))
    | ((try lift_lets -underBinder); intro x; refine Keep.usePair (k := km) (q := pq) (p := x) ?_ ?_; (on_goal 1 => dsimp -zeta only [x]); (on_goal 2 => clear_value x; intro _))
    | ((try lift_lets -underBinder); intro x; refine Keep.memSt (x := x) ?_; subst x)
    | ((try lift_lets -underBinder); intro x; refine Keep.depSt (x := x) ?_; subst x)
    | ((try lift_lets -underBinder); intro x; clear_value x)
    | (intro _)
    | with_reducible apply State.set_good
    | with_reducible apply State.showCards_good
    | with_reducible apply State.bankMarks_good
    | (simp -zeta only [Keep.mk_iff]; with_reducible refine Keep.upd ?_ rfl ?_; on_goal 2 => (and_intros <;> with_reducible first | exact .inl rfl | exact .inl ⟨rfl, rfl, rfl⟩ | exact .inr ‹_› | exact Nat.le_refl _ | exact Nat.le_add_right _ _))

theorem State.latchCards_good (map : km.part .map) (s : State) (hs : s.Keeps km pq) : (State.latchCards s).Keeps km pq := by
  unfold State.latchCards
  repeat' first
    | with_reducible assumption
    | ((try lift_lets -underBinder); intro x; refine Keep.use (k := km) (q := pq) (s := x) ?_ ?_; (on_goal 1 => dsimp -zeta only [x]); (on_goal 2 => clear_value x; intro _))
    | ((try lift_lets -underBinder); intro x; refine Keep.usePair (k := km) (q := pq) (p := x) ?_ ?_; (on_goal 1 => dsimp -zeta only [x]); (on_goal 2 => clear_value x; intro _))
    | ((try lift_lets -underBinder); intro x; refine Keep.memSt (x := x) ?_; subst x)
    | ((try lift_lets -underBinder); intro x; refine Keep.depSt (x := x) ?_; subst x)
    | ((try lift_lets -underBinder); intro x; clear_value x)
    | (intro _)
    | (simp -zeta only [Keep.mk_iff]; with_reducible refine Keep.upd ?_ rfl ?_; on_goal 2 => (and_intros <;> with_reducible first | exact .inl rfl | exact .inl ⟨rfl, rfl, rfl⟩ | exact .inr ‹_› | exact Nat.le_refl _ | exact Nat.le_add_right _ _))

theorem State.cardStore_good (map : km.part .map) (s : State) (o n v : Nat) (hs : s.Keeps km pq) : (State.cardStore s o n v).Keeps km pq := by
  unfold State.cardStore
  repeat' first
    | with_reducible assumption
    | ((try lift_lets -underBinder); intro x; refine Keep.use (k := km) (q := pq) (s := x) ?_ ?_; (on_goal 1 => dsimp -zeta only [x]); (on_goal 2 => clear_value x; intro _))
    | ((try lift_lets -underBinder); intro x; refine Keep.usePair (k := km) (q := pq) (p := x) ?_ ?_; (on_goal 1 => dsimp -zeta only [x]); (on_goal 2 => clear_value x; intro _))
    | ((try lift_lets -underBinder); intro x; refine Keep.memSt (x := x) ?_; subst x)
    | ((try lift_lets -underBinder); intro x; refine Keep.depSt (x := x) ?_; subst x)
    | ((try lift_lets -underBinder); intro x; clear_value x)
    | (intro _)
    | with_reducible apply Keep.ite
    | (simp -zeta only [Keep.mk_iff]; with_reducible refine Keep.upd ?_ rfl ?_; on_goal 2 => (and_intros <;> with_reducible first | exact .inl rfl | exact .inl ⟨rfl, rfl, rfl⟩ | exact .inr ‹_› | exact Nat.le_refl _ | exact Nat.le_add_right _ _))

theorem State.cardWrite_good (map : km.part .map) (s : State) (o n v : Nat) (hs : s.Keeps km pq) : (State.cardWrite s o n v).Keeps km pq := by
  unfold State.cardWrite
  repeat' first
    | with_reducible assumption
    | ((try lift_lets -underBinder); intro x; refine Keep.use (k := km) (q := pq) (s := x) ?_ ?_; (on_goal 1 => dsimp -zeta only [x]); (on_goal 2 => clear_value x; intro _))
    | ((try lift_lets -underBinder); intro x; refine Keep.usePair (k := km) (q := pq) (p := x) ?_ ?_; (on_goal 1 => dsimp -zeta only [x]); (on_goal 2 => clear_value x; intro _))
    | ((try lift_lets -underBinder); intro x; refine Keep.memSt (x := x) ?_; subst x)
    | ((try lift_lets -underBinder); intro x; refine Keep.depSt (x := x) ?_; subst x)
    | ((try lift_lets -underBinder); intro x; clear_value x)
    | (intro _)
    | with_reducible apply Keep.ite
    | with_reducible apply State.cardStore_good
    | (simp -zeta only [Keep.mk_iff]; with_reducible refine Keep.upd ?_ rfl ?_; on_goal 2 => (and_intros <;> with_reducible first | exact .inl rfl | exact .inl ⟨rfl, rfl, rfl⟩ | exact .inr ‹_› | exact Nat.le_refl _ | exact Nat.le_add_right _ _))

end Sys2Proof.Machine
end

