-- ==== Sys2Proof/Laws/KeepsMailbox.lean ====
section
/-!
SUPPORT. Every function of Machine/Mailbox.lean changes what the hypotheses of its lemma name, and nothing else.
-/
namespace Sys2Proof.Machine
set_option Elab.async false
set_option linter.unusedVariables false
set_option linter.unusedTactic false
set_option linter.unreachableTactic false

variable {km : May} {pq : State}

theorem State.setChan_good (tim : km.part .tim) (mbx : km.part .mbx)
    (hTIM_DOM_OFFSET_OFFSET : ∀ a, km.fld (R.TIM.DOM_OFFSET.OFFSET a))
    (hTIM_DOM_RATE_RATE : ∀ a, km.fld (R.TIM.DOM_RATE.RATE a)) (s : State) (c : Nat) (x : MbxChan)
    (hs : s.Keeps km pq) : (State.setChan s c x).Keeps km pq := by
  unfold State.setChan
  repeat' first
    | with_reducible assumption
    | with_reducible exact hTIM_DOM_OFFSET_OFFSET _
    | with_reducible exact hTIM_DOM_RATE_RATE _
    | ((try lift_lets -underBinder); intro x; refine Keep.use (k := km) (q := pq) (s := x) ?_ ?_; (on_goal 1 => dsimp -zeta only [x]); (on_goal 2 => clear_value x; intro _))
    | ((try lift_lets -underBinder); intro x; refine Keep.usePair (k := km) (q := pq) (p := x) ?_ ?_; (on_goal 1 => dsimp -zeta only [x]); (on_goal 2 => clear_value x; intro _))
    | ((try lift_lets -underBinder); intro x; refine Keep.memSt (x := x) ?_; subst x)
    | ((try lift_lets -underBinder); intro x; refine Keep.depSt (x := x) ?_; subst x)
    | ((try lift_lets -underBinder); intro x; clear_value x)
    | (intro _)
    | with_reducible apply Keep.ite
    | with_reducible apply State.filter_good
    | (simp -zeta only [Keep.mk_iff]; with_reducible refine Keep.upd ?_ rfl ?_; on_goal 2 => (and_intros <;> with_reducible first | exact .inl rfl | exact .inl ⟨rfl, rfl, rfl⟩ | exact .inr ‹_› | exact Nat.le_refl _ | exact Nat.le_add_right _ _))

theorem State.showSide_good (hMBX_M_STAT_RX_COUNT : ∀ a b, km.fld (R.MBX.M_STAT.RX_COUNT a b))
    (hMBX_M_STAT_RX_POISON : ∀ a b, km.fld (R.MBX.M_STAT.RX_POISON a b))
    (hMBX_M_STAT_TX_INFLIGHT : ∀ a b, km.fld (R.MBX.M_STAT.TX_INFLIGHT a b))
    (hMBX_RX_DATA : ∀ a b c, km.fld (R.MBX.RX.DATA a b c)) (s : State) (c k : Nat) (hs : s.Keeps km pq) : (State.showSide s c k).Keeps km pq := by
  unfold State.showSide
  repeat' first
    | with_reducible assumption
    | with_reducible exact hMBX_M_STAT_RX_COUNT _ _
    | with_reducible exact hMBX_M_STAT_RX_POISON _ _
    | with_reducible exact hMBX_M_STAT_TX_INFLIGHT _ _
    | with_reducible exact hMBX_RX_DATA _ _ _
    | ((try lift_lets -underBinder); intro x; refine Keep.use (k := km) (q := pq) (s := x) ?_ ?_; (on_goal 1 => dsimp -zeta only [x]); (on_goal 2 => clear_value x; intro _))
    | ((try lift_lets -underBinder); intro x; refine Keep.usePair (k := km) (q := pq) (p := x) ?_ ?_; (on_goal 1 => dsimp -zeta only [x]); (on_goal 2 => clear_value x; intro _))
    | ((try lift_lets -underBinder); intro x; refine Keep.memSt (x := x) ?_; subst x)
    | ((try lift_lets -underBinder); intro x; refine Keep.depSt (x := x) ?_; subst x)
    | ((try lift_lets -underBinder); intro x; clear_value x)
    | (intro _)
    | with_reducible apply State.set_good
    | with_reducible apply State.forN_good

theorem State.showChan_good (hMBX_M_STAT_RX_COUNT : ∀ a b, km.fld (R.MBX.M_STAT.RX_COUNT a b))
    (hMBX_M_STAT_RX_POISON : ∀ a b, km.fld (R.MBX.M_STAT.RX_POISON a b))
    (hMBX_M_STAT_TX_INFLIGHT : ∀ a b, km.fld (R.MBX.M_STAT.TX_INFLIGHT a b))
    (hMBX_RX_DATA : ∀ a b c, km.fld (R.MBX.RX.DATA a b c)) (s : State) (c : Nat) (hs : s.Keeps km pq) : (State.showChan s c).Keeps km pq := by
  unfold State.showChan
  repeat' first
    | with_reducible assumption
    | with_reducible exact hMBX_M_STAT_RX_COUNT _ _
    | with_reducible exact hMBX_M_STAT_RX_POISON _ _
    | with_reducible exact hMBX_M_STAT_TX_INFLIGHT _ _
    | with_reducible exact hMBX_RX_DATA _ _ _
    | (intro _)
    | with_reducible apply State.showSide_good

theorem State.mbxPut_good (out : km.part .out) (tim : km.part .tim) (mbx : km.part .mbx)
    (hMBX_M_REFUSED_COUNT : ∀ a b, km.fld (R.MBX.M_REFUSED.COUNT a b))
    (hMBX_M_STAT_RX_COUNT : ∀ a b, km.fld (R.MBX.M_STAT.RX_COUNT a b))
    (hMBX_M_STAT_RX_POISON : ∀ a b, km.fld (R.MBX.M_STAT.RX_POISON a b))
    (hMBX_M_STAT_TX_FULL : ∀ a b, km.fld (R.MBX.M_STAT.TX_FULL a b))
    (hMBX_M_STAT_TX_INFLIGHT : ∀ a b, km.fld (R.MBX.M_STAT.TX_INFLIGHT a b))
    (hMBX_RX_DATA : ∀ a b c, km.fld (R.MBX.RX.DATA a b c)) (hPG_EVT_PEND : ∀ a, km.fld (R.PG.EVT_PEND a))
    (hTIM_DOM_OFFSET_OFFSET : ∀ a, km.fld (R.TIM.DOM_OFFSET.OFFSET a))
    (hTIM_DOM_RATE_RATE : ∀ a, km.fld (R.TIM.DOM_RATE.RATE a)) (s : State) (c k : Nat) (words : List Nat)
    (poison : Bool) (hs : s.Keeps km pq) : (State.mbxPut s c k words poison).Keeps km pq := by
  unfold State.mbxPut
  repeat' first
    | with_reducible assumption
    | with_reducible exact hMBX_M_REFUSED_COUNT _ _
    | with_reducible exact hMBX_M_STAT_RX_COUNT _ _
    | with_reducible exact hMBX_M_STAT_RX_POISON _ _
    | with_reducible exact hMBX_M_STAT_TX_FULL _ _
    | with_reducible exact hMBX_M_STAT_TX_INFLIGHT _ _
    | with_reducible exact hMBX_RX_DATA _ _ _
    | with_reducible exact hPG_EVT_PEND _
    | with_reducible exact hTIM_DOM_OFFSET_OFFSET _
    | with_reducible exact hTIM_DOM_RATE_RATE _
    | ((try lift_lets -underBinder); intro x; refine Keep.use (k := km) (q := pq) (s := x) ?_ ?_; (on_goal 1 => dsimp -zeta only [x]); (on_goal 2 => clear_value x; intro _))
    | ((try lift_lets -underBinder); intro x; refine Keep.usePair (k := km) (q := pq) (p := x) ?_ ?_; (on_goal 1 => dsimp -zeta only [x]); (on_goal 2 => clear_value x; intro _))
    | ((try lift_lets -underBinder); intro x; refine Keep.memSt (x := x) ?_; subst x)
    | ((try lift_lets -underBinder); intro x; refine Keep.depSt (x := x) ?_; subst x)
    | ((try lift_lets -underBinder); intro x; clear_value x)
    | (intro _)
    | with_reducible apply Keep.ite
    | with_reducible apply State.set_good
    | with_reducible apply State.count_good
    | with_reducible apply State.setChan_good
    | with_reducible apply State.showChan_good
    | with_reducible apply State.ev_good

theorem State.mbxSend_good (out : km.part .out) (tim : km.part .tim) (mbx : km.part .mbx)
    (hMBX_M_REFUSED_COUNT : ∀ a b, km.fld (R.MBX.M_REFUSED.COUNT a b))
    (hMBX_M_STAT_RX_COUNT : ∀ a b, km.fld (R.MBX.M_STAT.RX_COUNT a b))
    (hMBX_M_STAT_RX_POISON : ∀ a b, km.fld (R.MBX.M_STAT.RX_POISON a b))
    (hMBX_M_STAT_TX_FULL : ∀ a b, km.fld (R.MBX.M_STAT.TX_FULL a b))
    (hMBX_M_STAT_TX_INFLIGHT : ∀ a b, km.fld (R.MBX.M_STAT.TX_INFLIGHT a b))
    (hMBX_RX_DATA : ∀ a b c, km.fld (R.MBX.RX.DATA a b c)) (hPG_EVT_PEND : ∀ a, km.fld (R.PG.EVT_PEND a))
    (hTIM_DOM_OFFSET_OFFSET : ∀ a, km.fld (R.TIM.DOM_OFFSET.OFFSET a))
    (hTIM_DOM_RATE_RATE : ∀ a, km.fld (R.TIM.DOM_RATE.RATE a)) (s : State) (c k : Nat) (hs : s.Keeps km pq) : (State.mbxSend s c k).Keeps km pq := by
  unfold State.mbxSend
  repeat' first
    | with_reducible assumption
    | with_reducible exact hMBX_M_REFUSED_COUNT _ _
    | with_reducible exact hMBX_M_STAT_RX_COUNT _ _
    | with_reducible exact hMBX_M_STAT_RX_POISON _ _
    | with_reducible exact hMBX_M_STAT_TX_FULL _ _
    | with_reducible exact hMBX_M_STAT_TX_INFLIGHT _ _
    | with_reducible exact hMBX_RX_DATA _ _ _
    | with_reducible exact hPG_EVT_PEND _
    | with_reducible exact hTIM_DOM_OFFSET_OFFSET _
    | with_reducible exact hTIM_DOM_RATE_RATE _
    | ((try lift_lets -underBinder); intro x; refine Keep.use (k := km) (q := pq) (s := x) ?_ ?_; (on_goal 1 => dsimp -zeta only [x]); (on_goal 2 => clear_value x; intro _))
    | ((try lift_lets -underBinder); intro x; refine Keep.usePair (k := km) (q := pq) (p := x) ?_ ?_; (on_goal 1 => dsimp -zeta only [x]); (on_goal 2 => clear_value x; intro _))
    | ((try lift_lets -underBinder); intro x; refine Keep.memSt (x := x) ?_; subst x)
    | ((try lift_lets -underBinder); intro x; refine Keep.depSt (x := x) ?_; subst x)
    | ((try lift_lets -underBinder); intro x; clear_value x)
    | (intro _)
    | with_reducible apply Keep.ite
    | with_reducible apply Keep.ite1
    | dsimp -zeta only
    | with_reducible apply State.mbxPut_good

theorem State.mbxPop_good (out : km.part .out) (tim : km.part .tim) (mbx : km.part .mbx)
    (hMBX_M_STAT_RX_COUNT : ∀ a b, km.fld (R.MBX.M_STAT.RX_COUNT a b))
    (hMBX_M_STAT_RX_POISON : ∀ a b, km.fld (R.MBX.M_STAT.RX_POISON a b))
    (hMBX_M_STAT_TX_INFLIGHT : ∀ a b, km.fld (R.MBX.M_STAT.TX_INFLIGHT a b))
    (hMBX_RX_DATA : ∀ a b c, km.fld (R.MBX.RX.DATA a b c)) (hPG_EVT_PEND : ∀ a, km.fld (R.PG.EVT_PEND a))
    (hTIM_DOM_OFFSET_OFFSET : ∀ a, km.fld (R.TIM.DOM_OFFSET.OFFSET a))
    (hTIM_DOM_RATE_RATE : ∀ a, km.fld (R.TIM.DOM_RATE.RATE a)) (s : State) (c k : Nat) (hs : s.Keeps km pq) : (State.mbxPop s c k).Keeps km pq := by
  unfold State.mbxPop
  repeat' first
    | with_reducible assumption
    | with_reducible exact hMBX_M_STAT_RX_COUNT _ _
    | with_reducible exact hMBX_M_STAT_RX_POISON _ _
    | with_reducible exact hMBX_M_STAT_TX_INFLIGHT _ _
    | with_reducible exact hMBX_RX_DATA _ _ _
    | with_reducible exact hPG_EVT_PEND _
    | with_reducible exact hTIM_DOM_OFFSET_OFFSET _
    | with_reducible exact hTIM_DOM_RATE_RATE _
    | ((try lift_lets -underBinder); intro x; refine Keep.use (k := km) (q := pq) (s := x) ?_ ?_; (on_goal 1 => dsimp -zeta only [x]); (on_goal 2 => clear_value x; intro _))
    | ((try lift_lets -underBinder); intro x; refine Keep.usePair (k := km) (q := pq) (p := x) ?_ ?_; (on_goal 1 => dsimp -zeta only [x]); (on_goal 2 => clear_value x; intro _))
    | ((try lift_lets -underBinder); intro x; refine Keep.memSt (x := x) ?_; subst x)
    | ((try lift_lets -underBinder); intro x; refine Keep.depSt (x := x) ?_; subst x)
    | ((try lift_lets -underBinder); intro x; clear_value x)
    | (intro _)
    | with_reducible apply Keep.ite
    | with_reducible apply State.setChan_good
    | with_reducible apply State.showChan_good
    | with_reducible apply State.evIf_good
    | split

theorem State.mbxTimeout_good (out : km.part .out) (hMBX_M_STAT_TIMEOUT : ∀ a b, km.fld (R.MBX.M_STAT.TIMEOUT a b))
    (hPG_EVT_PEND : ∀ a, km.fld (R.PG.EVT_PEND a)) (s : State) (c k : Nat) (hs : s.Keeps km pq) : (State.mbxTimeout s c k).Keeps km pq := by
  unfold State.mbxTimeout
  repeat' first
    | with_reducible assumption
    | with_reducible exact hMBX_M_STAT_TIMEOUT _ _
    | with_reducible exact hPG_EVT_PEND _
    | (intro _)
    | with_reducible apply Keep.ite
    | with_reducible apply State.set_good
    | with_reducible apply State.ev_good

theorem State.mbxReset_good (tim : km.part .tim) (mbx : km.part .mbx)
    (hMBX_M_STAT_PEER_RESET : ∀ a b, km.fld (R.MBX.M_STAT.PEER_RESET a b))
    (hMBX_M_STAT_RX_COUNT : ∀ a b, km.fld (R.MBX.M_STAT.RX_COUNT a b))
    (hMBX_M_STAT_RX_POISON : ∀ a b, km.fld (R.MBX.M_STAT.RX_POISON a b))
    (hMBX_M_STAT_TX_INFLIGHT : ∀ a b, km.fld (R.MBX.M_STAT.TX_INFLIGHT a b))
    (hMBX_RX_DATA : ∀ a b c, km.fld (R.MBX.RX.DATA a b c))
    (hTIM_DOM_OFFSET_OFFSET : ∀ a, km.fld (R.TIM.DOM_OFFSET.OFFSET a))
    (hTIM_DOM_RATE_RATE : ∀ a, km.fld (R.TIM.DOM_RATE.RATE a)) (s : State) (c : Nat) (sides : List Nat)
    (hs : s.Keeps km pq) : (State.mbxReset s c sides).Keeps km pq := by
  unfold State.mbxReset
  repeat' first
    | with_reducible assumption
    | with_reducible exact hMBX_M_STAT_PEER_RESET _ _
    | with_reducible exact hMBX_M_STAT_RX_COUNT _ _
    | with_reducible exact hMBX_M_STAT_RX_POISON _ _
    | with_reducible exact hMBX_M_STAT_TX_INFLIGHT _ _
    | with_reducible exact hMBX_RX_DATA _ _ _
    | with_reducible exact hTIM_DOM_OFFSET_OFFSET _
    | with_reducible exact hTIM_DOM_RATE_RATE _
    | (intro _)
    | with_reducible apply State.set_good
    | with_reducible apply State.setChan_good
    | with_reducible apply State.showChan_good
    | with_reducible apply Keep.foldl

theorem State.mcRestarts_good (tim : km.part .tim) (mbx : km.part .mbx)
    (hMBX_M_STAT_PEER_RESET : ∀ a b, km.fld (R.MBX.M_STAT.PEER_RESET a b))
    (hMBX_M_STAT_RX_COUNT : ∀ a b, km.fld (R.MBX.M_STAT.RX_COUNT a b))
    (hMBX_M_STAT_RX_POISON : ∀ a b, km.fld (R.MBX.M_STAT.RX_POISON a b))
    (hMBX_M_STAT_TX_INFLIGHT : ∀ a b, km.fld (R.MBX.M_STAT.TX_INFLIGHT a b))
    (hMBX_RX_DATA : ∀ a b c, km.fld (R.MBX.RX.DATA a b c))
    (hTIM_DOM_OFFSET_OFFSET : ∀ a, km.fld (R.TIM.DOM_OFFSET.OFFSET a))
    (hTIM_DOM_RATE_RATE : ∀ a, km.fld (R.TIM.DOM_RATE.RATE a)) (s : State) (hs : s.Keeps km pq) : (State.mcRestarts s).Keeps km pq := by
  unfold State.mcRestarts
  repeat' first
    | with_reducible assumption
    | with_reducible exact hMBX_M_STAT_PEER_RESET _ _
    | with_reducible exact hMBX_M_STAT_RX_COUNT _ _
    | with_reducible exact hMBX_M_STAT_RX_POISON _ _
    | with_reducible exact hMBX_M_STAT_TX_INFLIGHT _ _
    | with_reducible exact hMBX_RX_DATA _ _ _
    | with_reducible exact hTIM_DOM_OFFSET_OFFSET _
    | with_reducible exact hTIM_DOM_RATE_RATE _
    | (intro _)
    | with_reducible apply State.forN_good
    | with_reducible apply State.mbxReset_good

theorem State.mcFlush_good (out : km.part .out) (tim : km.part .tim) (mbx : km.part .mbx)
    (hMBX_M_REFUSED_COUNT : ∀ a b, km.fld (R.MBX.M_REFUSED.COUNT a b))
    (hMBX_M_STAT_RX_COUNT : ∀ a b, km.fld (R.MBX.M_STAT.RX_COUNT a b))
    (hMBX_M_STAT_RX_POISON : ∀ a b, km.fld (R.MBX.M_STAT.RX_POISON a b))
    (hMBX_M_STAT_TX_FULL : ∀ a b, km.fld (R.MBX.M_STAT.TX_FULL a b))
    (hMBX_M_STAT_TX_INFLIGHT : ∀ a b, km.fld (R.MBX.M_STAT.TX_INFLIGHT a b))
    (hMBX_RX_DATA : ∀ a b c, km.fld (R.MBX.RX.DATA a b c)) (hPG_EVT_PEND : ∀ a, km.fld (R.PG.EVT_PEND a))
    (hTIM_DOM_OFFSET_OFFSET : ∀ a, km.fld (R.TIM.DOM_OFFSET.OFFSET a))
    (hTIM_DOM_RATE_RATE : ∀ a, km.fld (R.TIM.DOM_RATE.RATE a)) (s : State) (c : Nat) (hs : s.Keeps km pq) : (State.mcFlush s c).Keeps km pq := by
  unfold State.mcFlush
  repeat' first
    | with_reducible assumption
    | with_reducible exact hMBX_M_REFUSED_COUNT _ _
    | with_reducible exact hMBX_M_STAT_RX_COUNT _ _
    | with_reducible exact hMBX_M_STAT_RX_POISON _ _
    | with_reducible exact hMBX_M_STAT_TX_FULL _ _
    | with_reducible exact hMBX_M_STAT_TX_INFLIGHT _ _
    | with_reducible exact hMBX_RX_DATA _ _ _
    | with_reducible exact hPG_EVT_PEND _
    | with_reducible exact hTIM_DOM_OFFSET_OFFSET _
    | with_reducible exact hTIM_DOM_RATE_RATE _
    | ((try lift_lets -underBinder); intro x; refine Keep.use (k := km) (q := pq) (s := x) ?_ ?_; (on_goal 1 => dsimp -zeta only [x]); (on_goal 2 => clear_value x; intro _))
    | ((try lift_lets -underBinder); intro x; refine Keep.usePair (k := km) (q := pq) (p := x) ?_ ?_; (on_goal 1 => dsimp -zeta only [x]); (on_goal 2 => clear_value x; intro _))
    | ((try lift_lets -underBinder); intro x; refine Keep.memSt (x := x) ?_; subst x)
    | ((try lift_lets -underBinder); intro x; refine Keep.depSt (x := x) ?_; subst x)
    | ((try lift_lets -underBinder); intro x; clear_value x)
    | (intro _)
    | with_reducible apply Keep.ite
    | with_reducible apply State.forN_good
    | with_reducible apply State.setChan_good
    | with_reducible apply State.mbxPut_good
    | split

theorem State.mcAnswer_good (out : km.part .out) (tim : km.part .tim) (mbx : km.part .mbx)
    (hMBX_M_REFUSED_COUNT : ∀ a b, km.fld (R.MBX.M_REFUSED.COUNT a b))
    (hMBX_M_STAT_RX_COUNT : ∀ a b, km.fld (R.MBX.M_STAT.RX_COUNT a b))
    (hMBX_M_STAT_RX_POISON : ∀ a b, km.fld (R.MBX.M_STAT.RX_POISON a b))
    (hMBX_M_STAT_TX_FULL : ∀ a b, km.fld (R.MBX.M_STAT.TX_FULL a b))
    (hMBX_M_STAT_TX_INFLIGHT : ∀ a b, km.fld (R.MBX.M_STAT.TX_INFLIGHT a b))
    (hMBX_RX_DATA : ∀ a b c, km.fld (R.MBX.RX.DATA a b c)) (hPG_EVT_PEND : ∀ a, km.fld (R.PG.EVT_PEND a))
    (hTIM_DOM_OFFSET_OFFSET : ∀ a, km.fld (R.TIM.DOM_OFFSET.OFFSET a))
    (hTIM_DOM_RATE_RATE : ∀ a, km.fld (R.TIM.DOM_RATE.RATE a)) (s : State) (c : Nat) (l : List (List Nat × Bool))
    (hs : s.Keeps km pq) : (State.mcAnswer s c l).Keeps km pq := by
  unfold State.mcAnswer
  repeat' first
    | with_reducible assumption
    | with_reducible exact hMBX_M_REFUSED_COUNT _ _
    | with_reducible exact hMBX_M_STAT_RX_COUNT _ _
    | with_reducible exact hMBX_M_STAT_RX_POISON _ _
    | with_reducible exact hMBX_M_STAT_TX_FULL _ _
    | with_reducible exact hMBX_M_STAT_TX_INFLIGHT _ _
    | with_reducible exact hMBX_RX_DATA _ _ _
    | with_reducible exact hPG_EVT_PEND _
    | with_reducible exact hTIM_DOM_OFFSET_OFFSET _
    | with_reducible exact hTIM_DOM_RATE_RATE _
    | ((try lift_lets -underBinder); intro x; refine Keep.use (k := km) (q := pq) (s := x) ?_ ?_; (on_goal 1 => dsimp -zeta only [x]); (on_goal 2 => clear_value x; intro _))
    | ((try lift_lets -underBinder); intro x; refine Keep.usePair (k := km) (q := pq) (p := x) ?_ ?_; (on_goal 1 => dsimp -zeta only [x]); (on_goal 2 => clear_value x; intro _))
    | ((try lift_lets -underBinder); intro x; refine Keep.memSt (x := x) ?_; subst x)
    | ((try lift_lets -underBinder); intro x; refine Keep.depSt (x := x) ?_; subst x)
    | ((try lift_lets -underBinder); intro x; clear_value x)
    | (intro _)
    | with_reducible apply State.setChan_good
    | with_reducible apply State.mcFlush_good

end Sys2Proof.Machine
end

