-- ==== Sys2Proof/Laws/KeepsTimetable.lean ====
section
/-!
SUPPORT. Every function of Machine/Timetable.lean changes what the hypotheses of its lemma name, and nothing else.
-/
namespace Sys2Proof.Machine
set_option Elab.async false
set_option linter.unusedVariables false
set_option linter.unusedTactic false
set_option linter.unreachableTactic false

variable {km : May} {pq : State}

theorem State.showTimetable_good (hSCN_BUS_LOAD_GBPS : km.fld R.SCN.BUS_LOAD.GBPS)
    (hSCN_REFRESH_HZ : km.fld R.SCN.REFRESH.HZ) (hSCN_SPREAD_A : km.fld R.SCN.SPREAD.A)
    (hSCN_T_BL_NS : km.fld R.SCN.T_BL.NS) (hSCN_T_GAP_CYC : km.fld R.SCN.T_GAP.CYC)
    (hSCN_T_LOAD_NS : km.fld R.SCN.T_LOAD.NS) (hSCN_T_RC_CYC : km.fld R.SCN.T_RC.CYC)
    (hSCN_T_ROW_CYC : km.fld R.SCN.T_ROW.CYC) (s : State) (hs : s.Keeps km pq) : (State.showTimetable s).Keeps km pq := by
  unfold State.showTimetable
  repeat' first
    | with_reducible assumption
    | ((try lift_lets -underBinder); intro x; refine Keep.use (k := km) (q := pq) (s := x) ?_ ?_; (on_goal 1 => dsimp -zeta only [x]); (on_goal 2 => clear_value x; intro _))
    | ((try lift_lets -underBinder); intro x; refine Keep.usePair (k := km) (q := pq) (p := x) ?_ ?_; (on_goal 1 => dsimp -zeta only [x]); (on_goal 2 => clear_value x; intro _))
    | ((try lift_lets -underBinder); intro x; refine Keep.memSt (x := x) ?_; subst x)
    | ((try lift_lets -underBinder); intro x; refine Keep.depSt (x := x) ?_; subst x)
    | ((try lift_lets -underBinder); intro x; clear_value x)
    | (intro _)
    | with_reducible apply Keep.ite
    | with_reducible apply Keep.ite1
    | dsimp -zeta only
    | with_reducible apply State.set_good

end Sys2Proof.Machine
end

