-- ==== Sys2Proof/Laws/KeepsTransmit.lean ====
section
/-!
SUPPORT. Every function of Machine/Transmit.lean changes what the hypotheses of its lemma name, and nothing else.
-/
namespace Sys2Proof.Machine
set_option Elab.async false
set_option linter.unusedVariables false
set_option linter.unusedTactic false
set_option linter.unreachableTactic false

variable {km : May} {pq : State}

theorem State.setLane_good (line : km.part .line) (s : State) (l : Nat) (x : LaneSt) (hs : s.Keeps km pq) : (State.setLane s l x).Keeps km pq := by
  unfold State.setLane
  repeat' first
    | with_reducible assumption
    | ((try lift_lets -underBinder); intro x; refine Keep.use (k := km) (q := pq) (s := x) ?_ ?_; (on_goal 1 => dsimp -zeta only [x]); (on_goal 2 => clear_value x; intro _))
    | ((try lift_lets -underBinder); intro x; refine Keep.usePair (k := km) (q := pq) (p := x) ?_ ?_; (on_goal 1 => dsimp -zeta only [x]); (on_goal 2 => clear_value x; intro _))
    | ((try lift_lets -underBinder); intro x; refine Keep.memSt (x := x) ?_; subst x)
    | ((try lift_lets -underBinder); intro x; refine Keep.depSt (x := x) ?_; subst x)
    | ((try lift_lets -underBinder); intro x; clear_value x)
    | (intro _)
    | with_reducible apply Keep.ite
    | (simp -zeta only [Keep.mk_iff]; with_reducible refine Keep.upd ?_ rfl ?_; on_goal 2 => (and_intros <;> with_reducible first | exact .inl rfl | exact .inl ⟨rfl, rfl, rfl⟩ | exact .inr ‹_› | exact Nat.le_refl _ | exact Nat.le_add_right _ _))

theorem State.setPort_good (line : km.part .line) (s : State) (p : Nat) (x : PortSt) (hs : s.Keeps km pq) : (State.setPort s p x).Keeps km pq := by
  unfold State.setPort
  repeat' first
    | with_reducible assumption
    | ((try lift_lets -underBinder); intro x; refine Keep.use (k := km) (q := pq) (s := x) ?_ ?_; (on_goal 1 => dsimp -zeta only [x]); (on_goal 2 => clear_value x; intro _))
    | ((try lift_lets -underBinder); intro x; refine Keep.usePair (k := km) (q := pq) (p := x) ?_ ?_; (on_goal 1 => dsimp -zeta only [x]); (on_goal 2 => clear_value x; intro _))
    | ((try lift_lets -underBinder); intro x; refine Keep.memSt (x := x) ?_; subst x)
    | ((try lift_lets -underBinder); intro x; refine Keep.depSt (x := x) ?_; subst x)
    | ((try lift_lets -underBinder); intro x; clear_value x)
    | (intro _)
    | with_reducible apply Keep.ite
    | (simp -zeta only [Keep.mk_iff]; with_reducible refine Keep.upd ?_ rfl ?_; on_goal 2 => (and_intros <;> with_reducible first | exact .inl rfl | exact .inl ⟨rfl, rfl, rfl⟩ | exact .inr ‹_› | exact Nat.le_refl _ | exact Nat.le_add_right _ _))

theorem State.setStage_good (hLNK_PORT_STAT_STAGE : ∀ a, km.fld (R.LNK.PORT_STAT.STAGE a)) (s : State) (p v : Nat)
    (hs : s.Keeps km pq) : (State.setStage s p v).Keeps km pq := by
  unfold State.setStage
  repeat' first
    | with_reducible assumption
    | with_reducible exact hLNK_PORT_STAT_STAGE _
    | (intro _)
    | with_reducible apply State.set_good

theorem State.lnkCount_good (any : ∀ f, km.fld f) (s : State) (p : Nat) (f : Fld) (n : Nat) (hs : s.Keeps km pq) : (State.lnkCount s p f n).Keeps km pq := by
  unfold State.lnkCount
  repeat' first
    | with_reducible assumption
    | (with_reducible (intros; exact any _))
    | (intro _)
    | with_reducible apply Keep.ite
    | with_reducible apply State.count_good

theorem State.setLaneState_good (hLNL_LANE_STAT_STATE : ∀ a, km.fld (R.LNL.LANE_STAT.STATE a)) (s : State)
    (l v : Nat) (hs : s.Keeps km pq) : (State.setLaneState s l v).Keeps km pq := by
  unfold State.setLaneState
  repeat' first
    | with_reducible assumption
    | with_reducible exact hLNL_LANE_STAT_STATE _
    | (intro _)
    | with_reducible apply State.set_good

theorem State.sendWord_good (out : km.part .out) (line : km.part .line) (s : State) (l w : Nat) (hs : s.Keeps km pq) : (State.sendWord s l w).Keeps km pq := by
  unfold State.sendWord
  repeat' first
    | with_reducible assumption
    | ((try lift_lets -underBinder); intro x; refine Keep.use (k := km) (q := pq) (s := x) ?_ ?_; (on_goal 1 => dsimp -zeta only [x]); (on_goal 2 => clear_value x; intro _))
    | ((try lift_lets -underBinder); intro x; refine Keep.usePair (k := km) (q := pq) (p := x) ?_ ?_; (on_goal 1 => dsimp -zeta only [x]); (on_goal 2 => clear_value x; intro _))
    | ((try lift_lets -underBinder); intro x; refine Keep.memSt (x := x) ?_; subst x)
    | ((try lift_lets -underBinder); intro x; refine Keep.depSt (x := x) ?_; subst x)
    | ((try lift_lets -underBinder); intro x; clear_value x)
    | (intro _)
    | with_reducible apply Keep.ite
    | with_reducible apply Keep.ite1
    | dsimp -zeta only
    | with_reducible apply State.setLane_good
    | with_reducible apply State.emit_good

theorem State.sendData_good (out : km.part .out) (line : km.part .line)
    (hLNL_LANE_STAT_PRE_RX : ∀ a, km.fld (R.LNL.LANE_STAT.PRE_RX a))
    (hLNL_LANE_STAT_PRE_TX : ∀ a, km.fld (R.LNL.LANE_STAT.PRE_TX a))
    (hLNL_LANE_STAT_STATE : ∀ a, km.fld (R.LNL.LANE_STAT.STATE a))
    (hLNL_TX_TAPS_C0 : ∀ a, km.fld (R.LNL.TX_TAPS.C0 a)) (hLNL_TX_TAPS_CM1 : ∀ a, km.fld (R.LNL.TX_TAPS.CM1 a))
    (hLNL_TX_TAPS_CM2 : ∀ a, km.fld (R.LNL.TX_TAPS.CM2 a)) (hLNL_TX_TAPS_CP1 : ∀ a, km.fld (R.LNL.TX_TAPS.CP1 a))
    (hLNL_TX_TAPS_CP2 : ∀ a, km.fld (R.LNL.TX_TAPS.CP2 a)) (s : State) (p i k : Nat) (hs : s.Keeps km pq) : (State.sendData s p i k).Keeps km pq := by
  unfold State.sendData
  repeat' first
    | with_reducible assumption
    | with_reducible exact hLNL_LANE_STAT_PRE_RX _
    | with_reducible exact hLNL_LANE_STAT_PRE_TX _
    | with_reducible exact hLNL_LANE_STAT_STATE _
    | with_reducible exact hLNL_TX_TAPS_C0 _
    | with_reducible exact hLNL_TX_TAPS_CM1 _
    | with_reducible exact hLNL_TX_TAPS_CM2 _
    | with_reducible exact hLNL_TX_TAPS_CP1 _
    | with_reducible exact hLNL_TX_TAPS_CP2 _
    | ((try lift_lets -underBinder); intro x; refine Keep.use (k := km) (q := pq) (s := x) ?_ ?_; (on_goal 1 => dsimp -zeta only [x]); (on_goal 2 => clear_value x; intro _))
    | ((try lift_lets -underBinder); intro x; refine Keep.usePair (k := km) (q := pq) (p := x) ?_ ?_; (on_goal 1 => dsimp -zeta only [x]); (on_goal 2 => clear_value x; intro _))
    | ((try lift_lets -underBinder); intro x; refine Keep.memSt (x := x) ?_; subst x)
    | ((try lift_lets -underBinder); intro x; refine Keep.depSt (x := x) ?_; subst x)
    | ((try lift_lets -underBinder); intro x; clear_value x)
    | (intro _)
    | with_reducible apply Keep.ite
    | with_reducible apply Keep.ite1
    | dsimp -zeta only
    | with_reducible apply State.retrain_good
    | with_reducible apply State.setLane_good
    | with_reducible apply State.sendWord_good

theorem State.sendAm_good (out : km.part .out) (line : km.part .line) (s : State) (p n : Nat) (hs : s.Keeps km pq) : (State.sendAm s p n).Keeps km pq := by
  unfold State.sendAm
  repeat' first
    | with_reducible assumption
    | ((try lift_lets -underBinder); intro x; refine Keep.use (k := km) (q := pq) (s := x) ?_ ?_; (on_goal 1 => dsimp -zeta only [x]); (on_goal 2 => clear_value x; intro _))
    | ((try lift_lets -underBinder); intro x; refine Keep.usePair (k := km) (q := pq) (p := x) ?_ ?_; (on_goal 1 => dsimp -zeta only [x]); (on_goal 2 => clear_value x; intro _))
    | ((try lift_lets -underBinder); intro x; refine Keep.memSt (x := x) ?_; subst x)
    | ((try lift_lets -underBinder); intro x; refine Keep.depSt (x := x) ?_; subst x)
    | ((try lift_lets -underBinder); intro x; clear_value x)
    | (intro _)
    | with_reducible apply State.emit_good
    | with_reducible apply State.forN_good
    | with_reducible apply State.sendWord_good
    | with_reducible apply State.setLane_good
    | with_reducible apply State.setPort_good
    | (simp -zeta only [Keep.mk_iff]; with_reducible refine Keep.upd ?_ rfl ?_; on_goal 2 => (and_intros <;> with_reducible first | exact .inl rfl | exact .inl ⟨rfl, rfl, rfl⟩ | exact .inr ‹_› | exact Nat.le_refl _ | exact Nat.le_add_right _ _))
    | with_reducible apply Keep.foldl

theorem State.sendWords_good (out : km.part .out) (line : km.part .line)
    (hLNL_LANE_STAT_PRE_RX : ∀ a, km.fld (R.LNL.LANE_STAT.PRE_RX a))
    (hLNL_LANE_STAT_PRE_TX : ∀ a, km.fld (R.LNL.LANE_STAT.PRE_TX a))
    (hLNL_LANE_STAT_STATE : ∀ a, km.fld (R.LNL.LANE_STAT.STATE a))
    (hLNL_TX_TAPS_C0 : ∀ a, km.fld (R.LNL.TX_TAPS.C0 a)) (hLNL_TX_TAPS_CM1 : ∀ a, km.fld (R.LNL.TX_TAPS.CM1 a))
    (hLNL_TX_TAPS_CM2 : ∀ a, km.fld (R.LNL.TX_TAPS.CM2 a)) (hLNL_TX_TAPS_CP1 : ∀ a, km.fld (R.LNL.TX_TAPS.CP1 a))
    (hLNL_TX_TAPS_CP2 : ∀ a, km.fld (R.LNL.TX_TAPS.CP2 a)) (s : State) (p : Nat) (hs : s.Keeps km pq) : (State.sendWords s p).Keeps km pq := by
  unfold State.sendWords
  repeat' first
    | with_reducible assumption
    | with_reducible exact hLNL_LANE_STAT_PRE_RX _
    | with_reducible exact hLNL_LANE_STAT_PRE_TX _
    | with_reducible exact hLNL_LANE_STAT_STATE _
    | with_reducible exact hLNL_TX_TAPS_C0 _
    | with_reducible exact hLNL_TX_TAPS_CM1 _
    | with_reducible exact hLNL_TX_TAPS_CM2 _
    | with_reducible exact hLNL_TX_TAPS_CP1 _
    | with_reducible exact hLNL_TX_TAPS_CP2 _
    | ((try lift_lets -underBinder); intro x; refine Keep.use (k := km) (q := pq) (s := x) ?_ ?_; (on_goal 1 => dsimp -zeta only [x]); (on_goal 2 => clear_value x; intro _))
    | ((try lift_lets -underBinder); intro x; refine Keep.usePair (k := km) (q := pq) (p := x) ?_ ?_; (on_goal 1 => dsimp -zeta only [x]); (on_goal 2 => clear_value x; intro _))
    | ((try lift_lets -underBinder); intro x; refine Keep.memSt (x := x) ?_; subst x)
    | ((try lift_lets -underBinder); intro x; refine Keep.depSt (x := x) ?_; subst x)
    | ((try lift_lets -underBinder); intro x; clear_value x)
    | (intro _)
    | with_reducible apply Keep.ite
    | with_reducible apply State.sendData_good
    | with_reducible apply State.setPort_good
    | with_reducible apply State.draw_good
    | with_reducible apply State.sendAm_good
    | (simp -zeta only [Keep.mk_iff]; with_reducible refine Keep.upd ?_ rfl ?_; on_goal 2 => (and_intros <;> with_reducible first | exact .inl rfl | exact .inl ⟨rfl, rfl, rfl⟩ | exact .inr ‹_› | exact Nat.le_refl _ | exact Nat.le_add_right _ _))
    | with_reducible apply Keep.foldl

theorem State.pushFlits_good (out : km.part .out) (tim : km.part .tim) (line : km.part .line)
    (hLNL_LANE_STAT_PRE_RX : ∀ a, km.fld (R.LNL.LANE_STAT.PRE_RX a))
    (hLNL_LANE_STAT_PRE_TX : ∀ a, km.fld (R.LNL.LANE_STAT.PRE_TX a))
    (hLNL_LANE_STAT_STATE : ∀ a, km.fld (R.LNL.LANE_STAT.STATE a))
    (hLNL_TX_TAPS_C0 : ∀ a, km.fld (R.LNL.TX_TAPS.C0 a)) (hLNL_TX_TAPS_CM1 : ∀ a, km.fld (R.LNL.TX_TAPS.CM1 a))
    (hLNL_TX_TAPS_CM2 : ∀ a, km.fld (R.LNL.TX_TAPS.CM2 a)) (hLNL_TX_TAPS_CP1 : ∀ a, km.fld (R.LNL.TX_TAPS.CP1 a))
    (hLNL_TX_TAPS_CP2 : ∀ a, km.fld (R.LNL.TX_TAPS.CP2 a))
    (hTIM_DOM_OFFSET_OFFSET : ∀ a, km.fld (R.TIM.DOM_OFFSET.OFFSET a))
    (hTIM_DOM_RATE_RATE : ∀ a, km.fld (R.TIM.DOM_RATE.RATE a)) (s : State) (p : Nat) (l : List Nat)
    (hs : s.Keeps km pq) : (State.pushFlits s p l).Keeps km pq := by
  unfold State.pushFlits
  repeat' first
    | with_reducible assumption
    | with_reducible exact hLNL_LANE_STAT_PRE_RX _
    | with_reducible exact hLNL_LANE_STAT_PRE_TX _
    | with_reducible exact hLNL_LANE_STAT_STATE _
    | with_reducible exact hLNL_TX_TAPS_C0 _
    | with_reducible exact hLNL_TX_TAPS_CM1 _
    | with_reducible exact hLNL_TX_TAPS_CM2 _
    | with_reducible exact hLNL_TX_TAPS_CP1 _
    | with_reducible exact hLNL_TX_TAPS_CP2 _
    | with_reducible exact hTIM_DOM_OFFSET_OFFSET _
    | with_reducible exact hTIM_DOM_RATE_RATE _
    | ((try lift_lets -underBinder); intro x; refine Keep.use (k := km) (q := pq) (s := x) ?_ ?_; (on_goal 1 => dsimp -zeta only [x]); (on_goal 2 => clear_value x; intro _))
    | ((try lift_lets -underBinder); intro x; refine Keep.usePair (k := km) (q := pq) (p := x) ?_ ?_; (on_goal 1 => dsimp -zeta only [x]); (on_goal 2 => clear_value x; intro _))
    | ((try lift_lets -underBinder); intro x; refine Keep.memSt (x := x) ?_; subst x)
    | ((try lift_lets -underBinder); intro x; refine Keep.depSt (x := x) ?_; subst x)
    | ((try lift_lets -underBinder); intro x; clear_value x)
    | (intro _)
    | with_reducible apply State.filter_good
    | with_reducible apply State.setPort_good
    | with_reducible apply State.forN_good
    | with_reducible apply State.sendWords_good

theorem State.queueMsg_good (out : km.part .out) (line : km.part .line) (s : State) (p : Nat) (m : Msg)
    (hs : s.Keeps km pq) : (State.queueMsg s p m).Keeps km pq := by
  unfold State.queueMsg
  repeat' first
    | with_reducible assumption
    | ((try lift_lets -underBinder); intro x; refine Keep.use (k := km) (q := pq) (s := x) ?_ ?_; (on_goal 1 => dsimp -zeta only [x]); (on_goal 2 => clear_value x; intro _))
    | ((try lift_lets -underBinder); intro x; refine Keep.usePair (k := km) (q := pq) (p := x) ?_ ?_; (on_goal 1 => dsimp -zeta only [x]); (on_goal 2 => clear_value x; intro _))
    | ((try lift_lets -underBinder); intro x; refine Keep.memSt (x := x) ?_; subst x)
    | ((try lift_lets -underBinder); intro x; refine Keep.depSt (x := x) ?_; subst x)
    | ((try lift_lets -underBinder); intro x; clear_value x)
    | (intro _)
    | with_reducible apply State.emit_good
    | with_reducible apply State.setPort_good

theorem State.txSend_good (out : km.part .out) (tim : km.part .tim) (dep : km.part .dep) (mem : km.part .mem)
    (dram : km.part .dram) (scn : km.part .scn) (cor : km.part .cor) (rai : km.part .rai) (lfm : km.part .lfm)
    (line : km.part .line) (rdn : km.part .rdn) (que : km.part .que) (fwu : km.part .fwu) (any : ∀ f, km.fld f)
    (s : State) (p : Nat) (g : TxGroup) (hs : s.Keeps km pq) : (State.txSend s p g).Keeps km pq := by
  unfold State.txSend
  repeat' first
    | with_reducible assumption
    | (with_reducible (intros; exact any _))
    | ((try lift_lets -underBinder); intro x; refine Keep.use (k := km) (q := pq) (s := x) ?_ ?_; (on_goal 1 => dsimp -zeta only [x]); (on_goal 2 => clear_value x; intro _))
    | ((try lift_lets -underBinder); intro x; refine Keep.usePair (k := km) (q := pq) (p := x) ?_ ?_; (on_goal 1 => dsimp -zeta only [x]); (on_goal 2 => clear_value x; intro _))
    | ((try lift_lets -underBinder); intro x; refine Keep.memSt (x := x) ?_; subst x)
    | ((try lift_lets -underBinder); intro x; refine Keep.depSt (x := x) ?_; subst x)
    | ((try lift_lets -underBinder); intro x; clear_value x)
    | (intro _)
    | with_reducible apply Keep.ite
    | with_reducible apply State.emit_good
    | with_reducible apply State.group_good
    | with_reducible apply State.setPort_good
    | with_reducible apply State.capx_good
    | with_reducible apply State.pushFlits_good

theorem State.txGroup_good (out : km.part .out) (tim : km.part .tim) (dep : km.part .dep) (mem : km.part .mem)
    (dram : km.part .dram) (scn : km.part .scn) (cor : km.part .cor) (rai : km.part .rai) (lfm : km.part .lfm)
    (line : km.part .line) (rdn : km.part .rdn) (que : km.part .que) (fwu : km.part .fwu) (any : ∀ f, km.fld f)
    (s : State) (p : Nat) (hs : s.Keeps km pq) : (State.txGroup s p).Keeps km pq := by
  unfold State.txGroup
  repeat' first
    | with_reducible assumption
    | (with_reducible (intros; exact any _))
    | ((try lift_lets -underBinder); intro x; refine Keep.use (k := km) (q := pq) (s := x) ?_ ?_; (on_goal 1 => dsimp -zeta only [x]); (on_goal 2 => clear_value x; intro _))
    | ((try lift_lets -underBinder); intro x; refine Keep.usePair (k := km) (q := pq) (p := x) ?_ ?_; (on_goal 1 => dsimp -zeta only [x]); (on_goal 2 => clear_value x; intro _))
    | ((try lift_lets -underBinder); intro x; refine Keep.memSt (x := x) ?_; subst x)
    | ((try lift_lets -underBinder); intro x; refine Keep.depSt (x := x) ?_; subst x)
    | ((try lift_lets -underBinder); intro x; clear_value x)
    | (intro _)
    | with_reducible apply Keep.ite
    | with_reducible apply Keep.ite1
    | dsimp -zeta only
    | with_reducible apply State.setPort_good
    | with_reducible apply State.txSend_good

theorem State.txTurn_good (out : km.part .out) (tim : km.part .tim) (dep : km.part .dep) (mem : km.part .mem)
    (dram : km.part .dram) (scn : km.part .scn) (cor : km.part .cor) (rai : km.part .rai) (lfm : km.part .lfm)
    (line : km.part .line) (rdn : km.part .rdn) (que : km.part .que) (fwu : km.part .fwu) (any : ∀ f, km.fld f)
    (s : State) (p w : Nat) (hs : s.Keeps km pq) : (State.txTurn s p w).Keeps km pq := by
  unfold State.txTurn
  repeat' first
    | with_reducible assumption
    | (with_reducible (intros; exact any _))
    | ((try lift_lets -underBinder); intro x; refine Keep.use (k := km) (q := pq) (s := x) ?_ ?_; (on_goal 1 => dsimp -zeta only [x]); (on_goal 2 => clear_value x; intro _))
    | ((try lift_lets -underBinder); intro x; refine Keep.usePair (k := km) (q := pq) (p := x) ?_ ?_; (on_goal 1 => dsimp -zeta only [x]); (on_goal 2 => clear_value x; intro _))
    | ((try lift_lets -underBinder); intro x; refine Keep.memSt (x := x) ?_; subst x)
    | ((try lift_lets -underBinder); intro x; refine Keep.depSt (x := x) ?_; subst x)
    | ((try lift_lets -underBinder); intro x; clear_value x)
    | (intro _)
    | with_reducible apply Keep.ite
    | with_reducible apply State.setPort_good
    | with_reducible apply State.forN_good
    | with_reducible apply State.txGroup_good

theorem State.txStart_good (out : km.part .out) (tim : km.part .tim) (dep : km.part .dep) (mem : km.part .mem)
    (dram : km.part .dram) (scn : km.part .scn) (cor : km.part .cor) (rai : km.part .rai) (lfm : km.part .lfm)
    (line : km.part .line) (rdn : km.part .rdn) (que : km.part .que) (fwu : km.part .fwu) (any : ∀ f, km.fld f)
    (s : State) (p : Nat) (hs : s.Keeps km pq) : (State.txStart s p).Keeps km pq := by
  unfold State.txStart
  repeat' first
    | with_reducible assumption
    | (with_reducible (intros; exact any _))
    | ((try lift_lets -underBinder); intro x; refine Keep.use (k := km) (q := pq) (s := x) ?_ ?_; (on_goal 1 => dsimp -zeta only [x]); (on_goal 2 => clear_value x; intro _))
    | ((try lift_lets -underBinder); intro x; refine Keep.usePair (k := km) (q := pq) (p := x) ?_ ?_; (on_goal 1 => dsimp -zeta only [x]); (on_goal 2 => clear_value x; intro _))
    | ((try lift_lets -underBinder); intro x; refine Keep.memSt (x := x) ?_; subst x)
    | ((try lift_lets -underBinder); intro x; refine Keep.depSt (x := x) ?_; subst x)
    | ((try lift_lets -underBinder); intro x; clear_value x)
    | (intro _)
    | with_reducible apply State.setLane_good
    | with_reducible apply State.sendAm_good
    | with_reducible apply State.txSend_good
    | (simp -zeta only [Keep.mk_iff]; with_reducible refine Keep.upd ?_ rfl ?_; on_goal 2 => (and_intros <;> with_reducible first | exact .inl rfl | exact .inl ⟨rfl, rfl, rfl⟩ | exact .inr ‹_› | exact Nat.le_refl _ | exact Nat.le_add_right _ _))
    | with_reducible apply Keep.foldl

theorem State.flushVideo_good (out : km.part .out) (tim : km.part .tim) (dep : km.part .dep) (mem : km.part .mem)
    (dram : km.part .dram) (scn : km.part .scn) (cor : km.part .cor) (rai : km.part .rai) (lfm : km.part .lfm)
    (line : km.part .line) (rdn : km.part .rdn) (que : km.part .que) (fwu : km.part .fwu) (any : ∀ f, km.fld f)
    (s : State) (p : Nat) (hs : s.Keeps km pq) : (State.flushVideo s p).Keeps km pq := by
  unfold State.flushVideo
  repeat' first
    | with_reducible assumption
    | (with_reducible (intros; exact any _))
    | (intro _)
    | with_reducible apply Keep.ite
    | with_reducible apply State.forN_good
    | with_reducible apply State.txGroup_good

theorem State.fwdPush_good (out : km.part .out) (line : km.part .line) (any : ∀ f, km.fld f) (s : State) (q : Nat)
    (l : List FwdSlot) (hs : s.Keeps km pq) : (State.fwdPush s q l).Keeps km pq := by
  unfold State.fwdPush
  repeat' first
    | with_reducible assumption
    | (with_reducible (intros; exact any _))
    | ((try lift_lets -underBinder); intro x; refine Keep.use (k := km) (q := pq) (s := x) ?_ ?_; (on_goal 1 => dsimp -zeta only [x]); (on_goal 2 => clear_value x; intro _))
    | ((try lift_lets -underBinder); intro x; refine Keep.usePair (k := km) (q := pq) (p := x) ?_ ?_; (on_goal 1 => dsimp -zeta only [x]); (on_goal 2 => clear_value x; intro _))
    | ((try lift_lets -underBinder); intro x; refine Keep.memSt (x := x) ?_; subst x)
    | ((try lift_lets -underBinder); intro x; refine Keep.depSt (x := x) ?_; subst x)
    | ((try lift_lets -underBinder); intro x; clear_value x)
    | (intro _)
    | with_reducible apply Keep.ite
    | with_reducible apply Keep.ite1
    | dsimp -zeta only
    | with_reducible apply State.setPort_good
    | with_reducible apply State.lnkCount_good
    | with_reducible apply State.ev_good

theorem State.passTime_good (out : km.part .out) (line : km.part .line) (s : State) (q : Nat) (old new : Msg)
    (hs : s.Keeps km pq) : (State.passTime s q old new).Keeps km pq := by
  unfold State.passTime
  repeat' first
    | with_reducible assumption
    | ((try lift_lets -underBinder); intro x; refine Keep.use (k := km) (q := pq) (s := x) ?_ ?_; (on_goal 1 => dsimp -zeta only [x]); (on_goal 2 => clear_value x; intro _))
    | ((try lift_lets -underBinder); intro x; refine Keep.usePair (k := km) (q := pq) (p := x) ?_ ?_; (on_goal 1 => dsimp -zeta only [x]); (on_goal 2 => clear_value x; intro _))
    | ((try lift_lets -underBinder); intro x; refine Keep.memSt (x := x) ?_; subst x)
    | ((try lift_lets -underBinder); intro x; refine Keep.depSt (x := x) ?_; subst x)
    | ((try lift_lets -underBinder); intro x; clear_value x)
    | (intro _)
    | with_reducible apply Keep.ite
    | with_reducible apply State.queueMsg_good
    | with_reducible apply State.emit_good
    | with_reducible apply State.setPort_good

end Sys2Proof.Machine
end

