-- ==== Sys2Proof/Laws/KeepsMode.lean ====
section
/-!
SUPPORT. Every function of Machine/Mode.lean changes what the hypotheses of its lemma name, and nothing else.
-/
namespace Sys2Proof.Machine
set_option Elab.async false
set_option linter.unusedVariables false
set_option linter.unusedTactic false
set_option linter.unreachableTactic false

variable {km : May} {pq : State}

theorem State.putModeCur_good (out : km.part .out) (hDEP_MODE_CUR_CODING_A : km.fld R.DEP.MODE_CUR.CODING_A)
    (hDEP_MODE_CUR_CODING_B : km.fld R.DEP.MODE_CUR.CODING_B) (hDEP_MODE_CUR_EMIT : km.fld R.DEP.MODE_CUR.EMIT)
    (hDEP_MODE_CUR_REDUN : km.fld R.DEP.MODE_CUR.REDUN) (hDEP_MODE_CUR_SCAN : km.fld R.DEP.MODE_CUR.SCAN)
    (hDEP_MODE_CUR_SINK : km.fld R.DEP.MODE_CUR.SINK) (hDEP_MODE_CUR_TIMING : km.fld R.DEP.MODE_CUR.TIMING)
    (hDEP_MODE_CUR_VIEWS : km.fld R.DEP.MODE_CUR.VIEWS) (s : State) (m : ModeW) (hs : s.Keeps km pq) : (State.putModeCur s m).Keeps km pq := by
  unfold State.putModeCur
  repeat' first
    | with_reducible assumption
    | ((try lift_lets -underBinder); intro x; refine Keep.use (k := km) (q := pq) (s := x) ?_ ?_; (on_goal 1 => dsimp -zeta only [x]); (on_goal 2 => clear_value x; intro _))
    | ((try lift_lets -underBinder); intro x; refine Keep.usePair (k := km) (q := pq) (p := x) ?_ ?_; (on_goal 1 => dsimp -zeta only [x]); (on_goal 2 => clear_value x; intro _))
    | ((try lift_lets -underBinder); intro x; refine Keep.memSt (x := x) ?_; subst x)
    | ((try lift_lets -underBinder); intro x; refine Keep.depSt (x := x) ?_; subst x)
    | ((try lift_lets -underBinder); intro x; clear_value x)
    | (intro _)
    | with_reducible apply State.set_good

theorem State.putModeNext_good (out : km.part .out) (hDEP_MODE_NEXT_CODING_A : km.fld R.DEP.MODE_NEXT.CODING_A)
    (hDEP_MODE_NEXT_CODING_B : km.fld R.DEP.MODE_NEXT.CODING_B) (hDEP_MODE_NEXT_EMIT : km.fld R.DEP.MODE_NEXT.EMIT)
    (hDEP_MODE_NEXT_REDUN : km.fld R.DEP.MODE_NEXT.REDUN) (hDEP_MODE_NEXT_SCAN : km.fld R.DEP.MODE_NEXT.SCAN)
    (hDEP_MODE_NEXT_SINK : km.fld R.DEP.MODE_NEXT.SINK) (hDEP_MODE_NEXT_TIMING : km.fld R.DEP.MODE_NEXT.TIMING)
    (hDEP_MODE_NEXT_VIEWS : km.fld R.DEP.MODE_NEXT.VIEWS) (s : State) (m : ModeW) (hs : s.Keeps km pq) : (State.putModeNext s m).Keeps km pq := by
  unfold State.putModeNext
  repeat' first
    | with_reducible assumption
    | ((try lift_lets -underBinder); intro x; refine Keep.use (k := km) (q := pq) (s := x) ?_ ?_; (on_goal 1 => dsimp -zeta only [x]); (on_goal 2 => clear_value x; intro _))
    | ((try lift_lets -underBinder); intro x; refine Keep.usePair (k := km) (q := pq) (p := x) ?_ ?_; (on_goal 1 => dsimp -zeta only [x]); (on_goal 2 => clear_value x; intro _))
    | ((try lift_lets -underBinder); intro x; refine Keep.memSt (x := x) ?_; subst x)
    | ((try lift_lets -underBinder); intro x; refine Keep.depSt (x := x) ?_; subst x)
    | ((try lift_lets -underBinder); intro x; clear_value x)
    | (intro _)
    | with_reducible apply State.set_good

theorem State.evaluate_good (out : km.part .out) (hDEP_MODE_CHECK_DEP_PENDING : km.fld R.DEP.MODE_CHECK.DEP_PENDING)
    (hDEP_MODE_CHECK_EPOCH_PENDING : km.fld R.DEP.MODE_CHECK.EPOCH_PENDING)
    (hDEP_MODE_CHECK_FIELDS : km.fld R.DEP.MODE_CHECK.FIELDS) (hDEP_MODE_CHECK_RULE : km.fld R.DEP.MODE_CHECK.RULE)
    (hDEP_MODE_CHECK_VALID : km.fld R.DEP.MODE_CHECK.VALID)
    (hDEP_MODE_CTRL_FB_VALID : km.fld R.DEP.MODE_CTRL.FB_VALID) (hPG_EVT_PEND : ∀ a, km.fld (R.PG.EVT_PEND a))
    (s : State) (hs : s.Keeps km pq) : (State.evaluate s).Keeps km pq := by
  unfold State.evaluate
  repeat' first
    | with_reducible assumption
    | with_reducible exact hPG_EVT_PEND _
    | ((try lift_lets -underBinder); intro x; refine Keep.use (k := km) (q := pq) (s := x) ?_ ?_; (on_goal 1 => dsimp -zeta only [x]); (on_goal 2 => clear_value x; intro _))
    | ((try lift_lets -underBinder); intro x; refine Keep.usePair (k := km) (q := pq) (p := x) ?_ ?_; (on_goal 1 => dsimp -zeta only [x]); (on_goal 2 => clear_value x; intro _))
    | ((try lift_lets -underBinder); intro x; refine Keep.memSt (x := x) ?_; subst x)
    | ((try lift_lets -underBinder); intro x; refine Keep.depSt (x := x) ?_; subst x)
    | ((try lift_lets -underBinder); intro x; clear_value x)
    | (intro _)
    | with_reducible apply State.set_good
    | with_reducible apply State.evIf_good

theorem State.memCheck_good (out : km.part .out) (hDEP_MODE_CHECK_DEP_PENDING : km.fld R.DEP.MODE_CHECK.DEP_PENDING)
    (hDEP_MODE_CHECK_EPOCH_PENDING : km.fld R.DEP.MODE_CHECK.EPOCH_PENDING)
    (hDEP_MODE_CHECK_FIELDS : km.fld R.DEP.MODE_CHECK.FIELDS) (hDEP_MODE_CHECK_RULE : km.fld R.DEP.MODE_CHECK.RULE)
    (hDEP_MODE_CHECK_VALID : km.fld R.DEP.MODE_CHECK.VALID)
    (hDEP_MODE_CTRL_FB_VALID : km.fld R.DEP.MODE_CTRL.FB_VALID) (hPG_EVT_PEND : ∀ a, km.fld (R.PG.EVT_PEND a))
    (hPG_FAULT : ∀ a, km.fld (R.PG.FAULT a)) (s : State) (hs : s.Keeps km pq) : (State.memCheck s).Keeps km pq := by
  unfold State.memCheck
  repeat' first
    | with_reducible assumption
    | with_reducible exact hPG_EVT_PEND _
    | with_reducible exact hPG_FAULT _
    | (intro _)
    | with_reducible apply State.fault_good
    | with_reducible apply State.evaluate_good

theorem State.memSettle_good (out : km.part .out) (hDEP_MODE_CHECK_DEP_PENDING : km.fld R.DEP.MODE_CHECK.DEP_PENDING)
    (hDEP_MODE_CHECK_EPOCH_PENDING : km.fld R.DEP.MODE_CHECK.EPOCH_PENDING)
    (hDEP_MODE_CHECK_FIELDS : km.fld R.DEP.MODE_CHECK.FIELDS) (hDEP_MODE_CHECK_RULE : km.fld R.DEP.MODE_CHECK.RULE)
    (hDEP_MODE_CHECK_VALID : km.fld R.DEP.MODE_CHECK.VALID)
    (hDEP_MODE_CTRL_FB_VALID : km.fld R.DEP.MODE_CTRL.FB_VALID) (hPG_EVT_PEND : ∀ a, km.fld (R.PG.EVT_PEND a))
    (hPG_FAULT : ∀ a, km.fld (R.PG.FAULT a)) (s : State) (was : List Nat) (hs : s.Keeps km pq) : (State.memSettle s was).Keeps km pq := by
  unfold State.memSettle
  repeat' first
    | with_reducible assumption
    | with_reducible exact hPG_EVT_PEND _
    | with_reducible exact hPG_FAULT _
    | (intro _)
    | with_reducible apply Keep.ite
    | with_reducible apply State.memCheck_good

theorem State.modeReject_good (out : km.part .out)
    (hDEP_MODE_CHECK_REJECT_RULE : km.fld R.DEP.MODE_CHECK.REJECT_RULE)
    (hPG_EVT_PEND : ∀ a, km.fld (R.PG.EVT_PEND a)) (s : State) (rule : Nat) (hs : s.Keeps km pq) : (State.modeReject s rule).Keeps km pq := by
  unfold State.modeReject
  repeat' first
    | with_reducible assumption
    | with_reducible exact hPG_EVT_PEND _
    | (intro _)
    | with_reducible apply State.set_good
    | with_reducible apply State.ev_good

theorem State.capacityError_good (out : km.part .out) (hPG_ERR_ADDR_HI : ∀ a, km.fld (R.PG.ERR_ADDR_HI a))
    (hPG_ERR_ADDR_LO : ∀ a, km.fld (R.PG.ERR_ADDR_LO a)) (hPG_ERR_CODE : ∀ a, km.fld (R.PG.ERR_CODE a))
    (hPG_ERR_COUNT : ∀ a, km.fld (R.PG.ERR_COUNT a)) (hPG_ERR_OVERFLOW : ∀ a, km.fld (R.PG.ERR_OVERFLOW a))
    (hPG_ERR_SOURCE : ∀ a, km.fld (R.PG.ERR_SOURCE a)) (hPG_ERR_VALID : ∀ a, km.fld (R.PG.ERR_VALID a))
    (hPG_EVT_PEND : ∀ a, km.fld (R.PG.EVT_PEND a)) (s : State) (m : ModeW) (l : List ModeEnv) (hs : s.Keeps km pq) : (State.capacityError s m l).Keeps km pq := by
  unfold State.capacityError
  repeat' first
    | with_reducible assumption
    | with_reducible exact hPG_ERR_ADDR_HI _
    | with_reducible exact hPG_ERR_ADDR_LO _
    | with_reducible exact hPG_ERR_CODE _
    | with_reducible exact hPG_ERR_COUNT _
    | with_reducible exact hPG_ERR_OVERFLOW _
    | with_reducible exact hPG_ERR_SOURCE _
    | with_reducible exact hPG_ERR_VALID _
    | with_reducible exact hPG_EVT_PEND _
    | ((try lift_lets -underBinder); intro x; refine Keep.use (k := km) (q := pq) (s := x) ?_ ?_; (on_goal 1 => dsimp -zeta only [x]); (on_goal 2 => clear_value x; intro _))
    | ((try lift_lets -underBinder); intro x; refine Keep.usePair (k := km) (q := pq) (p := x) ?_ ?_; (on_goal 1 => dsimp -zeta only [x]); (on_goal 2 => clear_value x; intro _))
    | ((try lift_lets -underBinder); intro x; refine Keep.memSt (x := x) ?_; subst x)
    | ((try lift_lets -underBinder); intro x; refine Keep.depSt (x := x) ?_; subst x)
    | ((try lift_lets -underBinder); intro x; clear_value x)
    | (intro _)
    | with_reducible apply Keep.ite
    | with_reducible apply Keep.ite1
    | dsimp -zeta only
    | with_reducible apply State.err_good

theorem State.modeChange_good (out : km.part .out) (hDEP_MODE_CTRL_LAST_CAUSE : km.fld R.DEP.MODE_CTRL.LAST_CAUSE)
    (hDEP_MODE_CUR_CODING_A : km.fld R.DEP.MODE_CUR.CODING_A)
    (hDEP_MODE_CUR_CODING_B : km.fld R.DEP.MODE_CUR.CODING_B) (hDEP_MODE_CUR_EMIT : km.fld R.DEP.MODE_CUR.EMIT)
    (hDEP_MODE_CUR_REDUN : km.fld R.DEP.MODE_CUR.REDUN) (hDEP_MODE_CUR_SCAN : km.fld R.DEP.MODE_CUR.SCAN)
    (hDEP_MODE_CUR_SINK : km.fld R.DEP.MODE_CUR.SINK) (hDEP_MODE_CUR_TIMING : km.fld R.DEP.MODE_CUR.TIMING)
    (hDEP_MODE_CUR_VIEWS : km.fld R.DEP.MODE_CUR.VIEWS) (hPG_EVT_PEND : ∀ a, km.fld (R.PG.EVT_PEND a)) (s : State)
    (m : ModeW) (cause : Nat) (hs : s.Keeps km pq) : (State.modeChange s m cause).Keeps km pq := by
  unfold State.modeChange
  repeat' first
    | with_reducible assumption
    | with_reducible exact hPG_EVT_PEND _
    | (intro _)
    | with_reducible apply Keep.ite
    | with_reducible apply State.putModeCur_good
    | with_reducible apply State.set_good
    | with_reducible apply State.ev_good

end Sys2Proof.Machine
end

