-- ==== Sys2Proof/Laws/KeepsCorrect.lean ====
section
/-!
SUPPORT. Every function of Machine/Correct.lean changes what the hypotheses of its lemma name, and nothing else.
-/
namespace Sys2Proof.Machine
set_option Elab.async false
set_option linter.unusedVariables false
set_option linter.unusedTactic false
set_option linter.unreachableTactic false

variable {km : May} {pq : State}

theorem State.layPlanes_good (hSCN_PLANE_BASE_HI_BASE : km.fld R.SCN.PLANE_BASE_HI.BASE)
    (hSCN_PLANE_BASE_LO_BASE : km.fld R.SCN.PLANE_BASE_LO.BASE)
    (hSCN_PLANE_SIZE_BYTES : km.fld R.SCN.PLANE_SIZE.BYTES) (s : State) (hs : s.Keeps km pq) : (State.layPlanes s).Keeps km pq := by
  unfold State.layPlanes
  repeat' first
    | with_reducible assumption
    | (intro _)
    | with_reducible apply State.set64_good
    | with_reducible apply State.set_good

theorem State.corLock_good (out : km.part .out) (cor : km.part .cor)
    (hCOR_BANK0_BASE_HI_BASE : km.fld R.COR.BANK0_BASE_HI.BASE)
    (hCOR_BANK0_BASE_LO_BASE : km.fld R.COR.BANK0_BASE_LO.BASE)
    (hCOR_BANK1_BASE_HI_BASE : km.fld R.COR.BANK1_BASE_HI.BASE)
    (hCOR_BANK1_BASE_LO_BASE : km.fld R.COR.BANK1_BASE_LO.BASE)
    (hCOR_BANK_STAT_REGIONS : km.fld R.COR.BANK_STAT.REGIONS) (hPG_ERR_ADDR_HI : ∀ a, km.fld (R.PG.ERR_ADDR_HI a))
    (hPG_ERR_ADDR_LO : ∀ a, km.fld (R.PG.ERR_ADDR_LO a)) (hPG_ERR_CODE : ∀ a, km.fld (R.PG.ERR_CODE a))
    (hPG_ERR_COUNT : ∀ a, km.fld (R.PG.ERR_COUNT a)) (hPG_ERR_OVERFLOW : ∀ a, km.fld (R.PG.ERR_OVERFLOW a))
    (hPG_ERR_SOURCE : ∀ a, km.fld (R.PG.ERR_SOURCE a)) (hPG_ERR_VALID : ∀ a, km.fld (R.PG.ERR_VALID a))
    (hPG_EVT_PEND : ∀ a, km.fld (R.PG.EVT_PEND a)) (hPG_FAULT : ∀ a, km.fld (R.PG.FAULT a)) (s : State)
    (hs : s.Keeps km pq) : (State.corLock s).Keeps km pq := by
  unfold State.corLock
  repeat' first
    | with_reducible assumption
    | with_reducible exact hPG_ERR_ADDR_HI _
    | with_reducible exact hPG_ERR_ADDR_LO _
    | with_reducible exact hPG_ERR_CODE _
    | with_reducible exact hPG_ERR_COUNT _
    | with_reducible exact hPG_ERR_OVERFLOW _
    | with_reducible exact hPG_ERR_SOURCE _
    | with_reducible exact hPG_ERR_VALID _
    | with_reducible exact hPG_EVT_PEND _
    | with_reducible exact hPG_FAULT _
    | ((try lift_lets -underBinder); intro x; refine Keep.use (k := km) (q := pq) (s := x) ?_ ?_; (on_goal 1 => dsimp -zeta only [x]); (on_goal 2 => clear_value x; intro _))
    | ((try lift_lets -underBinder); intro x; refine Keep.usePair (k := km) (q := pq) (p := x) ?_ ?_; (on_goal 1 => dsimp -zeta only [x]); (on_goal 2 => clear_value x; intro _))
    | ((try lift_lets -underBinder); intro x; refine Keep.memSt (x := x) ?_; subst x)
    | ((try lift_lets -underBinder); intro x; refine Keep.depSt (x := x) ?_; subst x)
    | ((try lift_lets -underBinder); intro x; clear_value x)
    | (intro _)
    | with_reducible apply Keep.ite
    | with_reducible apply State.fault_good
    | with_reducible apply State.err_good
    | with_reducible apply State.set64_good
    | with_reducible apply State.set_good
    | (simp -zeta only [Keep.mk_iff]; with_reducible refine Keep.upd ?_ rfl ?_; on_goal 2 => (and_intros <;> with_reducible first | exact .inl rfl | exact .inl ⟨rfl, rfl, rfl⟩ | exact .inr ‹_› | exact Nat.le_refl _ | exact Nat.le_add_right _ _))

theorem State.records_good (out : km.part .out) (tim : km.part .tim) (mem : km.part .mem) (dram : km.part .dram)
    (hLOG_LOG_ADDR_LO_ADDR : ∀ a, km.fld (R.LOG.LOG_ADDR_LO.ADDR a))
    (hLOG_LOG_INFO_ADDR_HI : ∀ a, km.fld (R.LOG.LOG_INFO.ADDR_HI a))
    (hLOG_LOG_INFO_ARRAY : ∀ a, km.fld (R.LOG.LOG_INFO.ARRAY a))
    (hLOG_LOG_INFO_BYTES : ∀ a, km.fld (R.LOG.LOG_INFO.BYTES a))
    (hLOG_LOG_INFO_CHANNEL : ∀ a, km.fld (R.LOG.LOG_INFO.CHANNEL a))
    (hLOG_LOG_INFO_CODE : ∀ a, km.fld (R.LOG.LOG_INFO.CODE a))
    (hLOG_LOG_INFO_PORT : ∀ a, km.fld (R.LOG.LOG_INFO.PORT a))
    (hLOG_LOG_INFO_SRAM : ∀ a, km.fld (R.LOG.LOG_INFO.SRAM a))
    (hLOG_LOG_TIME_HI_NS : ∀ a, km.fld (R.LOG.LOG_TIME_HI.NS a))
    (hLOG_LOG_TIME_LO_NS : ∀ a, km.fld (R.LOG.LOG_TIME_LO.NS a))
    (hMEM_CH_STAT_FILLED : ∀ a, km.fld (R.MEM.CH_STAT.FILLED a))
    (hMEM_CH_STAT_MIRROR_OK : ∀ a, km.fld (R.MEM.CH_STAT.MIRROR_OK a))
    (hMEM_CH_STAT_STATE : ∀ a, km.fld (R.MEM.CH_STAT.STATE a))
    (hPAR_DRAM_ERR_CNT_COUNT : km.fld R.PAR.DRAM_ERR_CNT.COUNT) (hPAR_LOG_STAT_NEXT : km.fld R.PAR.LOG_STAT.NEXT)
    (hPAR_LOG_STAT_TOTAL : km.fld R.PAR.LOG_STAT.TOTAL) (hPAR_LOG_STAT_WRAPPED : km.fld R.PAR.LOG_STAT.WRAPPED)
    (hPAR_MIRROR_FIX_CNT_COUNT : km.fld R.PAR.MIRROR_FIX_CNT.COUNT)
    (hPG_ERR_ADDR_HI : ∀ a, km.fld (R.PG.ERR_ADDR_HI a)) (hPG_ERR_ADDR_LO : ∀ a, km.fld (R.PG.ERR_ADDR_LO a))
    (hPG_ERR_CODE : ∀ a, km.fld (R.PG.ERR_CODE a)) (hPG_ERR_COUNT : ∀ a, km.fld (R.PG.ERR_COUNT a))
    (hPG_ERR_OVERFLOW : ∀ a, km.fld (R.PG.ERR_OVERFLOW a)) (hPG_ERR_SOURCE : ∀ a, km.fld (R.PG.ERR_SOURCE a))
    (hPG_ERR_VALID : ∀ a, km.fld (R.PG.ERR_VALID a)) (hPG_EVT_PEND : ∀ a, km.fld (R.PG.EVT_PEND a))
    (hTIM_DOM_OFFSET_OFFSET : ∀ a, km.fld (R.TIM.DOM_OFFSET.OFFSET a))
    (hTIM_DOM_RATE_RATE : ∀ a, km.fld (R.TIM.DOM_RATE.RATE a)) (s : State) (bank : Nat) (flags : List Nat)
    (i0 n : Nat) (hs : s.Keeps km pq) : (State.records s bank flags i0 n).1.Keeps km pq := by
  unfold State.records
  repeat' first
    | with_reducible assumption
    | with_reducible exact hLOG_LOG_ADDR_LO_ADDR _
    | with_reducible exact hLOG_LOG_INFO_ADDR_HI _
    | with_reducible exact hLOG_LOG_INFO_ARRAY _
    | with_reducible exact hLOG_LOG_INFO_BYTES _
    | with_reducible exact hLOG_LOG_INFO_CHANNEL _
    | with_reducible exact hLOG_LOG_INFO_CODE _
    | with_reducible exact hLOG_LOG_INFO_PORT _
    | with_reducible exact hLOG_LOG_INFO_SRAM _
    | with_reducible exact hLOG_LOG_TIME_HI_NS _
    | with_reducible exact hLOG_LOG_TIME_LO_NS _
    | with_reducible exact hMEM_CH_STAT_FILLED _
    | with_reducible exact hMEM_CH_STAT_MIRROR_OK _
    | with_reducible exact hMEM_CH_STAT_STATE _
    | with_reducible exact hPG_ERR_ADDR_HI _
    | with_reducible exact hPG_ERR_ADDR_LO _
    | with_reducible exact hPG_ERR_CODE _
    | with_reducible exact hPG_ERR_COUNT _
    | with_reducible exact hPG_ERR_OVERFLOW _
    | with_reducible exact hPG_ERR_SOURCE _
    | with_reducible exact hPG_ERR_VALID _
    | with_reducible exact hPG_EVT_PEND _
    | with_reducible exact hTIM_DOM_OFFSET_OFFSET _
    | with_reducible exact hTIM_DOM_RATE_RATE _
    | ((try lift_lets -underBinder); intro x; refine Keep.use (k := km) (q := pq) (s := x) ?_ ?_; (on_goal 1 => dsimp -zeta only [x]); (on_goal 2 => clear_value x; intro _))
    | ((try lift_lets -underBinder); intro x; refine Keep.usePair (k := km) (q := pq) (p := x) ?_ ?_; (on_goal 1 => dsimp -zeta only [x]); (on_goal 2 => clear_value x; intro _))
    | ((try lift_lets -underBinder); intro x; refine Keep.memSt (x := x) ?_; subst x)
    | ((try lift_lets -underBinder); intro x; refine Keep.depSt (x := x) ?_; subst x)
    | ((try lift_lets -underBinder); intro x; clear_value x)
    | (intro _)
    | with_reducible apply Keep.ite
    | with_reducible apply Keep.ite1
    | dsimp -zeta only
    | with_reducible apply State.dramBytes_good
    | with_reducible apply State.dramRead_good
    | split
    | with_reducible refine Keep.fst (by assumption) ?_
    | with_reducible apply Keep.foldl
    | with_reducible apply Keep.foldl1

theorem State.beginPass_good (out : km.part .out) (tim : km.part .tim) (cor : km.part .cor)
    (hCOR_ZONE_SUBST_HI_ZONES : km.fld R.COR.ZONE_SUBST_HI.ZONES)
    (hCOR_ZONE_SUBST_LO_ZONES : km.fld R.COR.ZONE_SUBST_LO.ZONES)
    (hCOR_ZONE_TEMP_SUBST : ∀ a, km.fld (R.COR.ZONE_TEMP.SUBST a))
    (hCOR_ZONE_TEMP_T : ∀ a, km.fld (R.COR.ZONE_TEMP.T a)) (hPG_EVT_PEND : ∀ a, km.fld (R.PG.EVT_PEND a))
    (hTIM_DOM_OFFSET_OFFSET : ∀ a, km.fld (R.TIM.DOM_OFFSET.OFFSET a))
    (hTIM_DOM_RATE_RATE : ∀ a, km.fld (R.TIM.DOM_RATE.RATE a)) (s : State) (n : Nat) (hs : s.Keeps km pq) : (State.beginPass s n).Keeps km pq := by
  unfold State.beginPass
  repeat' first
    | with_reducible assumption
    | with_reducible exact hCOR_ZONE_TEMP_SUBST _
    | with_reducible exact hCOR_ZONE_TEMP_T _
    | with_reducible exact hPG_EVT_PEND _
    | with_reducible exact hTIM_DOM_OFFSET_OFFSET _
    | with_reducible exact hTIM_DOM_RATE_RATE _
    | ((try lift_lets -underBinder); intro x; refine Keep.use (k := km) (q := pq) (s := x) ?_ ?_; (on_goal 1 => dsimp -zeta only [x]); (on_goal 2 => clear_value x; intro _))
    | ((try lift_lets -underBinder); intro x; refine Keep.usePair (k := km) (q := pq) (p := x) ?_ ?_; (on_goal 1 => dsimp -zeta only [x]); (on_goal 2 => clear_value x; intro _))
    | ((try lift_lets -underBinder); intro x; refine Keep.memSt (x := x) ?_; subst x)
    | ((try lift_lets -underBinder); intro x; refine Keep.depSt (x := x) ?_; subst x)
    | ((try lift_lets -underBinder); intro x; clear_value x)
    | (intro _)
    | with_reducible apply Keep.ite
    | with_reducible apply Keep.ite1
    | dsimp -zeta only
    | with_reducible apply State.filter_good
    | with_reducible apply State.drawN_good
    | with_reducible apply State.set_good
    | with_reducible apply State.forN_good
    | with_reducible apply State.setI_good
    | with_reducible apply State.evIf_good
    | split
    | with_reducible refine Keep.fst (by assumption) ?_
    | (simp -zeta only [Keep.mk_iff]; with_reducible refine Keep.upd ?_ rfl ?_; on_goal 2 => (and_intros <;> with_reducible first | exact .inl rfl | exact .inl ⟨rfl, rfl, rfl⟩ | exact .inr ‹_› | exact Nat.le_refl _ | exact Nat.le_add_right _ _))

theorem State.prbsTo_good (cor : km.part .cor) (s : State) (L : Latch) (view i : Nat) (hs : s.Keeps km pq) : (State.prbsTo s L view i).1.Keeps km pq := by
  unfold State.prbsTo
  repeat' first
    | with_reducible assumption
    | ((try lift_lets -underBinder); intro x; refine Keep.use (k := km) (q := pq) (s := x) ?_ ?_; (on_goal 1 => dsimp -zeta only [x]); (on_goal 2 => clear_value x; intro _))
    | ((try lift_lets -underBinder); intro x; refine Keep.usePair (k := km) (q := pq) (p := x) ?_ ?_; (on_goal 1 => dsimp -zeta only [x]); (on_goal 2 => clear_value x; intro _))
    | ((try lift_lets -underBinder); intro x; refine Keep.memSt (x := x) ?_; subst x)
    | ((try lift_lets -underBinder); intro x; refine Keep.depSt (x := x) ?_; subst x)
    | ((try lift_lets -underBinder); intro x; clear_value x)
    | (intro _)
    | with_reducible apply Keep.ite
    | with_reducible apply Keep.ite1
    | dsimp -zeta only
    | split
    | with_reducible refine Keep.fst (by assumption) ?_
    | (simp -zeta only [Keep.mk_iff]; with_reducible refine Keep.upd ?_ rfl ?_; on_goal 2 => (and_intros <;> with_reducible first | exact .inl rfl | exact .inl ⟨rfl, rfl, rfl⟩ | exact .inr ‹_› | exact Nat.le_refl _ | exact Nat.le_add_right _ _))

theorem State.keepMax_good (cor : km.part .cor) (s : State) (L : Latch) (x y e d : Nat) (bad : Bool)
    (hs : s.Keeps km pq) : (State.keepMax s L x y e d bad).Keeps km pq := by
  unfold State.keepMax
  repeat' first
    | with_reducible assumption
    | ((try lift_lets -underBinder); intro x; refine Keep.use (k := km) (q := pq) (s := x) ?_ ?_; (on_goal 1 => dsimp -zeta only [x]); (on_goal 2 => clear_value x; intro _))
    | ((try lift_lets -underBinder); intro x; refine Keep.usePair (k := km) (q := pq) (p := x) ?_ ?_; (on_goal 1 => dsimp -zeta only [x]); (on_goal 2 => clear_value x; intro _))
    | ((try lift_lets -underBinder); intro x; refine Keep.memSt (x := x) ?_; subst x)
    | ((try lift_lets -underBinder); intro x; refine Keep.depSt (x := x) ?_; subst x)
    | ((try lift_lets -underBinder); intro x; clear_value x)
    | (intro _)
    | with_reducible apply Keep.ite
    | (simp -zeta only [Keep.mk_iff]; with_reducible refine Keep.upd ?_ rfl ?_; on_goal 2 => (and_intros <;> with_reducible first | exact .inl rfl | exact .inl ⟨rfl, rfl, rfl⟩ | exact .inr ‹_› | exact Nat.le_refl _ | exact Nat.le_add_right _ _))

theorem State.readLamps_good (out : km.part .out) (tim : km.part .tim) (mem : km.part .mem) (dram : km.part .dram)
    (hLOG_LOG_ADDR_LO_ADDR : ∀ a, km.fld (R.LOG.LOG_ADDR_LO.ADDR a))
    (hLOG_LOG_INFO_ADDR_HI : ∀ a, km.fld (R.LOG.LOG_INFO.ADDR_HI a))
    (hLOG_LOG_INFO_ARRAY : ∀ a, km.fld (R.LOG.LOG_INFO.ARRAY a))
    (hLOG_LOG_INFO_BYTES : ∀ a, km.fld (R.LOG.LOG_INFO.BYTES a))
    (hLOG_LOG_INFO_CHANNEL : ∀ a, km.fld (R.LOG.LOG_INFO.CHANNEL a))
    (hLOG_LOG_INFO_CODE : ∀ a, km.fld (R.LOG.LOG_INFO.CODE a))
    (hLOG_LOG_INFO_PORT : ∀ a, km.fld (R.LOG.LOG_INFO.PORT a))
    (hLOG_LOG_INFO_SRAM : ∀ a, km.fld (R.LOG.LOG_INFO.SRAM a))
    (hLOG_LOG_TIME_HI_NS : ∀ a, km.fld (R.LOG.LOG_TIME_HI.NS a))
    (hLOG_LOG_TIME_LO_NS : ∀ a, km.fld (R.LOG.LOG_TIME_LO.NS a))
    (hMEM_CH_STAT_FILLED : ∀ a, km.fld (R.MEM.CH_STAT.FILLED a))
    (hMEM_CH_STAT_MIRROR_OK : ∀ a, km.fld (R.MEM.CH_STAT.MIRROR_OK a))
    (hMEM_CH_STAT_STATE : ∀ a, km.fld (R.MEM.CH_STAT.STATE a))
    (hPAR_DRAM_ERR_CNT_COUNT : km.fld R.PAR.DRAM_ERR_CNT.COUNT) (hPAR_LOG_STAT_NEXT : km.fld R.PAR.LOG_STAT.NEXT)
    (hPAR_LOG_STAT_TOTAL : km.fld R.PAR.LOG_STAT.TOTAL) (hPAR_LOG_STAT_WRAPPED : km.fld R.PAR.LOG_STAT.WRAPPED)
    (hPAR_MIRROR_FIX_CNT_COUNT : km.fld R.PAR.MIRROR_FIX_CNT.COUNT)
    (hPG_ERR_ADDR_HI : ∀ a, km.fld (R.PG.ERR_ADDR_HI a)) (hPG_ERR_ADDR_LO : ∀ a, km.fld (R.PG.ERR_ADDR_LO a))
    (hPG_ERR_CODE : ∀ a, km.fld (R.PG.ERR_CODE a)) (hPG_ERR_COUNT : ∀ a, km.fld (R.PG.ERR_COUNT a))
    (hPG_ERR_OVERFLOW : ∀ a, km.fld (R.PG.ERR_OVERFLOW a)) (hPG_ERR_SOURCE : ∀ a, km.fld (R.PG.ERR_SOURCE a))
    (hPG_ERR_VALID : ∀ a, km.fld (R.PG.ERR_VALID a)) (hPG_EVT_PEND : ∀ a, km.fld (R.PG.EVT_PEND a))
    (hTIM_DOM_OFFSET_OFFSET : ∀ a, km.fld (R.TIM.DOM_OFFSET.OFFSET a))
    (hTIM_DOM_RATE_RATE : ∀ a, km.fld (R.TIM.DOM_RATE.RATE a)) (s : State) (port a n : Nat) (hs : s.Keeps km pq) : (State.readLamps s port a n).1.Keeps km pq := by
  unfold State.readLamps
  repeat' first
    | with_reducible assumption
    | with_reducible exact hLOG_LOG_ADDR_LO_ADDR _
    | with_reducible exact hLOG_LOG_INFO_ADDR_HI _
    | with_reducible exact hLOG_LOG_INFO_ARRAY _
    | with_reducible exact hLOG_LOG_INFO_BYTES _
    | with_reducible exact hLOG_LOG_INFO_CHANNEL _
    | with_reducible exact hLOG_LOG_INFO_CODE _
    | with_reducible exact hLOG_LOG_INFO_PORT _
    | with_reducible exact hLOG_LOG_INFO_SRAM _
    | with_reducible exact hLOG_LOG_TIME_HI_NS _
    | with_reducible exact hLOG_LOG_TIME_LO_NS _
    | with_reducible exact hMEM_CH_STAT_FILLED _
    | with_reducible exact hMEM_CH_STAT_MIRROR_OK _
    | with_reducible exact hMEM_CH_STAT_STATE _
    | with_reducible exact hPG_ERR_ADDR_HI _
    | with_reducible exact hPG_ERR_ADDR_LO _
    | with_reducible exact hPG_ERR_CODE _
    | with_reducible exact hPG_ERR_COUNT _
    | with_reducible exact hPG_ERR_OVERFLOW _
    | with_reducible exact hPG_ERR_SOURCE _
    | with_reducible exact hPG_ERR_VALID _
    | with_reducible exact hPG_EVT_PEND _
    | with_reducible exact hTIM_DOM_OFFSET_OFFSET _
    | with_reducible exact hTIM_DOM_RATE_RATE _
    | ((try lift_lets -underBinder); intro x; refine Keep.use (k := km) (q := pq) (s := x) ?_ ?_; (on_goal 1 => dsimp -zeta only [x]); (on_goal 2 => clear_value x; intro _))
    | ((try lift_lets -underBinder); intro x; refine Keep.usePair (k := km) (q := pq) (p := x) ?_ ?_; (on_goal 1 => dsimp -zeta only [x]); (on_goal 2 => clear_value x; intro _))
    | ((try lift_lets -underBinder); intro x; refine Keep.memSt (x := x) ?_; subst x)
    | ((try lift_lets -underBinder); intro x; refine Keep.depSt (x := x) ?_; subst x)
    | ((try lift_lets -underBinder); intro x; clear_value x)
    | (intro _)
    | dsimp -zeta only
    | with_reducible apply State.dramRead_good
    | split
    | with_reducible refine Keep.fst (by assumption) ?_
    | with_reducible apply Keep.foldl
    | with_reducible apply Keep.foldl1

theorem State.writeLamps_good (out : km.part .out) (mem : km.part .mem) (dram : km.part .dram)
    (hLOG_LOG_ADDR_LO_ADDR : ∀ a, km.fld (R.LOG.LOG_ADDR_LO.ADDR a))
    (hLOG_LOG_INFO_ADDR_HI : ∀ a, km.fld (R.LOG.LOG_INFO.ADDR_HI a))
    (hLOG_LOG_INFO_ARRAY : ∀ a, km.fld (R.LOG.LOG_INFO.ARRAY a))
    (hLOG_LOG_INFO_BYTES : ∀ a, km.fld (R.LOG.LOG_INFO.BYTES a))
    (hLOG_LOG_INFO_CHANNEL : ∀ a, km.fld (R.LOG.LOG_INFO.CHANNEL a))
    (hLOG_LOG_INFO_CODE : ∀ a, km.fld (R.LOG.LOG_INFO.CODE a))
    (hLOG_LOG_INFO_PORT : ∀ a, km.fld (R.LOG.LOG_INFO.PORT a))
    (hLOG_LOG_INFO_SRAM : ∀ a, km.fld (R.LOG.LOG_INFO.SRAM a))
    (hLOG_LOG_TIME_HI_NS : ∀ a, km.fld (R.LOG.LOG_TIME_HI.NS a))
    (hLOG_LOG_TIME_LO_NS : ∀ a, km.fld (R.LOG.LOG_TIME_LO.NS a))
    (hPAR_CHK_CTRL_INJ_ARM : km.fld R.PAR.CHK_CTRL.INJ_ARM) (hPAR_LOG_STAT_NEXT : km.fld R.PAR.LOG_STAT.NEXT)
    (hPAR_LOG_STAT_TOTAL : km.fld R.PAR.LOG_STAT.TOTAL) (hPAR_LOG_STAT_WRAPPED : km.fld R.PAR.LOG_STAT.WRAPPED)
    (hPG_ERR_ADDR_HI : ∀ a, km.fld (R.PG.ERR_ADDR_HI a)) (hPG_ERR_ADDR_LO : ∀ a, km.fld (R.PG.ERR_ADDR_LO a))
    (hPG_ERR_CODE : ∀ a, km.fld (R.PG.ERR_CODE a)) (hPG_ERR_COUNT : ∀ a, km.fld (R.PG.ERR_COUNT a))
    (hPG_ERR_OVERFLOW : ∀ a, km.fld (R.PG.ERR_OVERFLOW a)) (hPG_ERR_SOURCE : ∀ a, km.fld (R.PG.ERR_SOURCE a))
    (hPG_ERR_VALID : ∀ a, km.fld (R.PG.ERR_VALID a)) (hPG_EVT_PEND : ∀ a, km.fld (R.PG.EVT_PEND a)) (s : State)
    (a : Nat) (l : List (Nat × Bool)) (hs : s.Keeps km pq) : (State.writeLamps s a l).Keeps km pq := by
  unfold State.writeLamps
  repeat' first
    | with_reducible assumption
    | with_reducible exact hLOG_LOG_ADDR_LO_ADDR _
    | with_reducible exact hLOG_LOG_INFO_ADDR_HI _
    | with_reducible exact hLOG_LOG_INFO_ARRAY _
    | with_reducible exact hLOG_LOG_INFO_BYTES _
    | with_reducible exact hLOG_LOG_INFO_CHANNEL _
    | with_reducible exact hLOG_LOG_INFO_CODE _
    | with_reducible exact hLOG_LOG_INFO_PORT _
    | with_reducible exact hLOG_LOG_INFO_SRAM _
    | with_reducible exact hLOG_LOG_TIME_HI_NS _
    | with_reducible exact hLOG_LOG_TIME_LO_NS _
    | with_reducible exact hPG_ERR_ADDR_HI _
    | with_reducible exact hPG_ERR_ADDR_LO _
    | with_reducible exact hPG_ERR_CODE _
    | with_reducible exact hPG_ERR_COUNT _
    | with_reducible exact hPG_ERR_OVERFLOW _
    | with_reducible exact hPG_ERR_SOURCE _
    | with_reducible exact hPG_ERR_VALID _
    | with_reducible exact hPG_EVT_PEND _
    | ((try lift_lets -underBinder); intro x; refine Keep.use (k := km) (q := pq) (s := x) ?_ ?_; (on_goal 1 => dsimp -zeta only [x]); (on_goal 2 => clear_value x; intro _))
    | ((try lift_lets -underBinder); intro x; refine Keep.usePair (k := km) (q := pq) (p := x) ?_ ?_; (on_goal 1 => dsimp -zeta only [x]); (on_goal 2 => clear_value x; intro _))
    | ((try lift_lets -underBinder); intro x; refine Keep.memSt (x := x) ?_; subst x)
    | ((try lift_lets -underBinder); intro x; refine Keep.depSt (x := x) ?_; subst x)
    | ((try lift_lets -underBinder); intro x; clear_value x)
    | (intro _)
    | with_reducible apply State.forN_good
    | with_reducible apply State.dramWrite_good

theorem State.correctRow_good (out : km.part .out) (tim : km.part .tim) (mem : km.part .mem) (dram : km.part .dram)
    (cor : km.part .cor) (line : km.part .line) (hCOR_POISON_REC_COUNT : km.fld R.COR.POISON_REC.COUNT)
    (hLOG_LOG_ADDR_LO_ADDR : ∀ a, km.fld (R.LOG.LOG_ADDR_LO.ADDR a))
    (hLOG_LOG_INFO_ADDR_HI : ∀ a, km.fld (R.LOG.LOG_INFO.ADDR_HI a))
    (hLOG_LOG_INFO_ARRAY : ∀ a, km.fld (R.LOG.LOG_INFO.ARRAY a))
    (hLOG_LOG_INFO_BYTES : ∀ a, km.fld (R.LOG.LOG_INFO.BYTES a))
    (hLOG_LOG_INFO_CHANNEL : ∀ a, km.fld (R.LOG.LOG_INFO.CHANNEL a))
    (hLOG_LOG_INFO_CODE : ∀ a, km.fld (R.LOG.LOG_INFO.CODE a))
    (hLOG_LOG_INFO_PORT : ∀ a, km.fld (R.LOG.LOG_INFO.PORT a))
    (hLOG_LOG_INFO_SRAM : ∀ a, km.fld (R.LOG.LOG_INFO.SRAM a))
    (hLOG_LOG_TIME_HI_NS : ∀ a, km.fld (R.LOG.LOG_TIME_HI.NS a))
    (hLOG_LOG_TIME_LO_NS : ∀ a, km.fld (R.LOG.LOG_TIME_LO.NS a))
    (hMEM_CH_STAT_FILLED : ∀ a, km.fld (R.MEM.CH_STAT.FILLED a))
    (hMEM_CH_STAT_MIRROR_OK : ∀ a, km.fld (R.MEM.CH_STAT.MIRROR_OK a))
    (hMEM_CH_STAT_STATE : ∀ a, km.fld (R.MEM.CH_STAT.STATE a))
    (hPAR_CHK_CTRL_INJ_ARM : km.fld R.PAR.CHK_CTRL.INJ_ARM)
    (hPAR_DRAM_ERR_CNT_COUNT : km.fld R.PAR.DRAM_ERR_CNT.COUNT) (hPAR_LOG_STAT_NEXT : km.fld R.PAR.LOG_STAT.NEXT)
    (hPAR_LOG_STAT_TOTAL : km.fld R.PAR.LOG_STAT.TOTAL) (hPAR_LOG_STAT_WRAPPED : km.fld R.PAR.LOG_STAT.WRAPPED)
    (hPAR_MIRROR_FIX_CNT_COUNT : km.fld R.PAR.MIRROR_FIX_CNT.COUNT)
    (hPG_ERR_ADDR_HI : ∀ a, km.fld (R.PG.ERR_ADDR_HI a)) (hPG_ERR_ADDR_LO : ∀ a, km.fld (R.PG.ERR_ADDR_LO a))
    (hPG_ERR_CODE : ∀ a, km.fld (R.PG.ERR_CODE a)) (hPG_ERR_COUNT : ∀ a, km.fld (R.PG.ERR_COUNT a))
    (hPG_ERR_OVERFLOW : ∀ a, km.fld (R.PG.ERR_OVERFLOW a)) (hPG_ERR_SOURCE : ∀ a, km.fld (R.PG.ERR_SOURCE a))
    (hPG_ERR_VALID : ∀ a, km.fld (R.PG.ERR_VALID a)) (hPG_EVT_PEND : ∀ a, km.fld (R.PG.EVT_PEND a))
    (hPG_POISON_SEEN : ∀ a, km.fld (R.PG.POISON_SEEN a))
    (hTIM_DOM_OFFSET_OFFSET : ∀ a, km.fld (R.TIM.DOM_OFFSET.OFFSET a))
    (hTIM_DOM_RATE_RATE : ∀ a, km.fld (R.TIM.DOM_RATE.RATE a)) (s : State) (L : Latch) (view y : Nat) (px : List Pix)
    (bad : List Nat) (hs : s.Keeps km pq) : (State.correctRow s L view y px bad).Keeps km pq := by
  unfold State.correctRow
  repeat' first
    | with_reducible assumption
    | with_reducible exact hLOG_LOG_ADDR_LO_ADDR _
    | with_reducible exact hLOG_LOG_INFO_ADDR_HI _
    | with_reducible exact hLOG_LOG_INFO_ARRAY _
    | with_reducible exact hLOG_LOG_INFO_BYTES _
    | with_reducible exact hLOG_LOG_INFO_CHANNEL _
    | with_reducible exact hLOG_LOG_INFO_CODE _
    | with_reducible exact hLOG_LOG_INFO_PORT _
    | with_reducible exact hLOG_LOG_INFO_SRAM _
    | with_reducible exact hLOG_LOG_TIME_HI_NS _
    | with_reducible exact hLOG_LOG_TIME_LO_NS _
    | with_reducible exact hMEM_CH_STAT_FILLED _
    | with_reducible exact hMEM_CH_STAT_MIRROR_OK _
    | with_reducible exact hMEM_CH_STAT_STATE _
    | with_reducible exact hPG_ERR_ADDR_HI _
    | with_reducible exact hPG_ERR_ADDR_LO _
    | with_reducible exact hPG_ERR_CODE _
    | with_reducible exact hPG_ERR_COUNT _
    | with_reducible exact hPG_ERR_OVERFLOW _
    | with_reducible exact hPG_ERR_SOURCE _
    | with_reducible exact hPG_ERR_VALID _
    | with_reducible exact hPG_EVT_PEND _
    | with_reducible exact hPG_POISON_SEEN _
    | with_reducible exact hTIM_DOM_OFFSET_OFFSET _
    | with_reducible exact hTIM_DOM_RATE_RATE _
    | ((try lift_lets -underBinder); intro x; refine Keep.use (k := km) (q := pq) (s := x) ?_ ?_; (on_goal 1 => dsimp -zeta only [x]); (on_goal 2 => clear_value x; intro _))
    | ((try lift_lets -underBinder); intro x; refine Keep.usePair (k := km) (q := pq) (p := x) ?_ ?_; (on_goal 1 => dsimp -zeta only [x]); (on_goal 2 => clear_value x; intro _))
    | ((try lift_lets -underBinder); intro x; refine Keep.memSt (x := x) ?_; subst x)
    | ((try lift_lets -underBinder); intro x; refine Keep.depSt (x := x) ?_; subst x)
    | ((try lift_lets -underBinder); intro x; clear_value x)
    | (intro _)
    | with_reducible apply Keep.ite
    | with_reducible apply Keep.ite1
    | dsimp -zeta only
    | with_reducible apply State.records_good
    | with_reducible apply State.filter_good
    | with_reducible apply State.count_good
    | with_reducible apply State.poison_good
    | with_reducible apply State.prbsTo_good
    | with_reducible apply State.keepMax_good
    | with_reducible apply State.writeLamps_good
    | split
    | with_reducible refine Keep.fst (by assumption) ?_
    | (simp -zeta only [Keep.mk_iff]; with_reducible refine Keep.upd ?_ rfl ?_; on_goal 2 => (and_intros <;> with_reducible first | exact .inl rfl | exact .inl ⟨rfl, rfl, rfl⟩ | exact .inr ‹_› | exact Nat.le_refl _ | exact Nat.le_add_right _ _))
    | with_reducible apply Keep.foldl
    | with_reducible apply Keep.foldl1

theorem State.setFlags_good (cor : km.part .cor) (s : State) (b : Nat) (l : List Nat) (hs : s.Keeps km pq) : (State.setFlags s b l).Keeps km pq := by
  unfold State.setFlags
  repeat' first
    | with_reducible assumption
    | ((try lift_lets -underBinder); intro x; refine Keep.use (k := km) (q := pq) (s := x) ?_ ?_; (on_goal 1 => dsimp -zeta only [x]); (on_goal 2 => clear_value x; intro _))
    | ((try lift_lets -underBinder); intro x; refine Keep.usePair (k := km) (q := pq) (p := x) ?_ ?_; (on_goal 1 => dsimp -zeta only [x]); (on_goal 2 => clear_value x; intro _))
    | ((try lift_lets -underBinder); intro x; refine Keep.memSt (x := x) ?_; subst x)
    | ((try lift_lets -underBinder); intro x; refine Keep.depSt (x := x) ?_; subst x)
    | ((try lift_lets -underBinder); intro x; clear_value x)
    | (intro _)
    | with_reducible apply Keep.ite
    | (simp -zeta only [Keep.mk_iff]; with_reducible refine Keep.upd ?_ rfl ?_; on_goal 2 => (and_intros <;> with_reducible first | exact .inl rfl | exact .inl ⟨rfl, rfl, rfl⟩ | exact .inr ‹_› | exact Nat.le_refl _ | exact Nat.le_add_right _ _))

theorem State.corSwap_good (force : km.part .force) (out : km.part .out) (cor : km.part .cor)
    (hCOR_BANK_CTRL_SWAP : km.fld R.COR.BANK_CTRL.SWAP) (hCOR_BANK_STAT_CUR : km.fld R.COR.BANK_STAT.CUR)
    (hCOR_BANK_STAT_SYNCING : km.fld R.COR.BANK_STAT.SYNCING) (hPG_EVT_PEND : ∀ a, km.fld (R.PG.EVT_PEND a))
    (s : State) (hs : s.Keeps km pq) : (State.corSwap s).Keeps km pq := by
  unfold State.corSwap
  repeat' first
    | with_reducible assumption
    | with_reducible exact hPG_EVT_PEND _
    | ((try lift_lets -underBinder); intro x; refine Keep.use (k := km) (q := pq) (s := x) ?_ ?_; (on_goal 1 => dsimp -zeta only [x]); (on_goal 2 => clear_value x; intro _))
    | ((try lift_lets -underBinder); intro x; refine Keep.usePair (k := km) (q := pq) (p := x) ?_ ?_; (on_goal 1 => dsimp -zeta only [x]); (on_goal 2 => clear_value x; intro _))
    | ((try lift_lets -underBinder); intro x; refine Keep.memSt (x := x) ?_; subst x)
    | ((try lift_lets -underBinder); intro x; refine Keep.depSt (x := x) ?_; subst x)
    | ((try lift_lets -underBinder); intro x; clear_value x)
    | (intro _)
    | with_reducible apply Keep.ite
    | with_reducible apply State.set_good
    | with_reducible apply State.setCur_good
    | with_reducible apply State.ev_good
    | (simp -zeta only [Keep.mk_iff]; with_reducible refine Keep.upd ?_ rfl ?_; on_goal 2 => (and_intros <;> with_reducible first | exact .inl rfl | exact .inl ⟨rfl, rfl, rfl⟩ | exact .inr ‹_› | exact Nat.le_refl _ | exact Nat.le_add_right _ _))

theorem State.bankSyncStart_good (cor : km.part .cor) (s : State) (hs : s.Keeps km pq) : (State.bankSyncStart s).Keeps km pq := by
  unfold State.bankSyncStart
  repeat' first
    | with_reducible assumption
    | ((try lift_lets -underBinder); intro x; refine Keep.use (k := km) (q := pq) (s := x) ?_ ?_; (on_goal 1 => dsimp -zeta only [x]); (on_goal 2 => clear_value x; intro _))
    | ((try lift_lets -underBinder); intro x; refine Keep.usePair (k := km) (q := pq) (p := x) ?_ ?_; (on_goal 1 => dsimp -zeta only [x]); (on_goal 2 => clear_value x; intro _))
    | ((try lift_lets -underBinder); intro x; refine Keep.memSt (x := x) ?_; subst x)
    | ((try lift_lets -underBinder); intro x; refine Keep.depSt (x := x) ?_; subst x)
    | ((try lift_lets -underBinder); intro x; clear_value x)
    | (intro _)
    | with_reducible apply Keep.ite
    | split
    | (simp -zeta only [Keep.mk_iff]; with_reducible refine Keep.upd ?_ rfl ?_; on_goal 2 => (and_intros <;> with_reducible first | exact .inl rfl | exact .inl ⟨rfl, rfl, rfl⟩ | exact .inr ‹_› | exact Nat.le_refl _ | exact Nat.le_add_right _ _))

theorem State.bankSyncDone_good (out : km.part .out) (tim : km.part .tim) (mem : km.part .mem) (dram : km.part .dram)
    (cor : km.part .cor) (hCOR_BANK_STAT_SYNCING : km.fld R.COR.BANK_STAT.SYNCING)
    (hLOG_LOG_ADDR_LO_ADDR : ∀ a, km.fld (R.LOG.LOG_ADDR_LO.ADDR a))
    (hLOG_LOG_INFO_ADDR_HI : ∀ a, km.fld (R.LOG.LOG_INFO.ADDR_HI a))
    (hLOG_LOG_INFO_ARRAY : ∀ a, km.fld (R.LOG.LOG_INFO.ARRAY a))
    (hLOG_LOG_INFO_BYTES : ∀ a, km.fld (R.LOG.LOG_INFO.BYTES a))
    (hLOG_LOG_INFO_CHANNEL : ∀ a, km.fld (R.LOG.LOG_INFO.CHANNEL a))
    (hLOG_LOG_INFO_CODE : ∀ a, km.fld (R.LOG.LOG_INFO.CODE a))
    (hLOG_LOG_INFO_PORT : ∀ a, km.fld (R.LOG.LOG_INFO.PORT a))
    (hLOG_LOG_INFO_SRAM : ∀ a, km.fld (R.LOG.LOG_INFO.SRAM a))
    (hLOG_LOG_TIME_HI_NS : ∀ a, km.fld (R.LOG.LOG_TIME_HI.NS a))
    (hLOG_LOG_TIME_LO_NS : ∀ a, km.fld (R.LOG.LOG_TIME_LO.NS a))
    (hMEM_CH_STAT_FILLED : ∀ a, km.fld (R.MEM.CH_STAT.FILLED a))
    (hMEM_CH_STAT_MIRROR_OK : ∀ a, km.fld (R.MEM.CH_STAT.MIRROR_OK a))
    (hMEM_CH_STAT_STATE : ∀ a, km.fld (R.MEM.CH_STAT.STATE a))
    (hPAR_CHK_CTRL_INJ_ARM : km.fld R.PAR.CHK_CTRL.INJ_ARM)
    (hPAR_DRAM_ERR_CNT_COUNT : km.fld R.PAR.DRAM_ERR_CNT.COUNT) (hPAR_LOG_STAT_NEXT : km.fld R.PAR.LOG_STAT.NEXT)
    (hPAR_LOG_STAT_TOTAL : km.fld R.PAR.LOG_STAT.TOTAL) (hPAR_LOG_STAT_WRAPPED : km.fld R.PAR.LOG_STAT.WRAPPED)
    (hPAR_MIRROR_FIX_CNT_COUNT : km.fld R.PAR.MIRROR_FIX_CNT.COUNT)
    (hPG_ERR_ADDR_HI : ∀ a, km.fld (R.PG.ERR_ADDR_HI a)) (hPG_ERR_ADDR_LO : ∀ a, km.fld (R.PG.ERR_ADDR_LO a))
    (hPG_ERR_CODE : ∀ a, km.fld (R.PG.ERR_CODE a)) (hPG_ERR_COUNT : ∀ a, km.fld (R.PG.ERR_COUNT a))
    (hPG_ERR_OVERFLOW : ∀ a, km.fld (R.PG.ERR_OVERFLOW a)) (hPG_ERR_SOURCE : ∀ a, km.fld (R.PG.ERR_SOURCE a))
    (hPG_ERR_VALID : ∀ a, km.fld (R.PG.ERR_VALID a)) (hPG_EVT_PEND : ∀ a, km.fld (R.PG.EVT_PEND a))
    (hTIM_DOM_OFFSET_OFFSET : ∀ a, km.fld (R.TIM.DOM_OFFSET.OFFSET a))
    (hTIM_DOM_RATE_RATE : ∀ a, km.fld (R.TIM.DOM_RATE.RATE a)) (s : State) (hs : s.Keeps km pq) : (State.bankSyncDone s).Keeps km pq := by
  unfold State.bankSyncDone
  repeat' first
    | with_reducible assumption
    | with_reducible exact hLOG_LOG_ADDR_LO_ADDR _
    | with_reducible exact hLOG_LOG_INFO_ADDR_HI _
    | with_reducible exact hLOG_LOG_INFO_ARRAY _
    | with_reducible exact hLOG_LOG_INFO_BYTES _
    | with_reducible exact hLOG_LOG_INFO_CHANNEL _
    | with_reducible exact hLOG_LOG_INFO_CODE _
    | with_reducible exact hLOG_LOG_INFO_PORT _
    | with_reducible exact hLOG_LOG_INFO_SRAM _
    | with_reducible exact hLOG_LOG_TIME_HI_NS _
    | with_reducible exact hLOG_LOG_TIME_LO_NS _
    | with_reducible exact hMEM_CH_STAT_FILLED _
    | with_reducible exact hMEM_CH_STAT_MIRROR_OK _
    | with_reducible exact hMEM_CH_STAT_STATE _
    | with_reducible exact hPG_ERR_ADDR_HI _
    | with_reducible exact hPG_ERR_ADDR_LO _
    | with_reducible exact hPG_ERR_CODE _
    | with_reducible exact hPG_ERR_COUNT _
    | with_reducible exact hPG_ERR_OVERFLOW _
    | with_reducible exact hPG_ERR_SOURCE _
    | with_reducible exact hPG_ERR_VALID _
    | with_reducible exact hPG_EVT_PEND _
    | with_reducible exact hTIM_DOM_OFFSET_OFFSET _
    | with_reducible exact hTIM_DOM_RATE_RATE _
    | ((try lift_lets -underBinder); intro x; refine Keep.use (k := km) (q := pq) (s := x) ?_ ?_; (on_goal 1 => dsimp -zeta only [x]); (on_goal 2 => clear_value x; intro _))
    | ((try lift_lets -underBinder); intro x; refine Keep.usePair (k := km) (q := pq) (p := x) ?_ ?_; (on_goal 1 => dsimp -zeta only [x]); (on_goal 2 => clear_value x; intro _))
    | ((try lift_lets -underBinder); intro x; refine Keep.memSt (x := x) ?_; subst x)
    | ((try lift_lets -underBinder); intro x; refine Keep.depSt (x := x) ?_; subst x)
    | ((try lift_lets -underBinder); intro x; clear_value x)
    | (intro _)
    | with_reducible apply Keep.ite
    | with_reducible apply State.dramCopy_good
    | with_reducible apply State.setFlags_good
    | with_reducible apply State.set_good
    | with_reducible apply State.ev_good
    | (simp -zeta only [Keep.mk_iff]; with_reducible refine Keep.upd ?_ rfl ?_; on_goal 2 => (and_intros <;> with_reducible first | exact .inl rfl | exact .inl ⟨rfl, rfl, rfl⟩ | exact .inr ‹_› | exact Nat.le_refl _ | exact Nat.le_add_right _ _))

theorem State.bankSyncStop_good (out : km.part .out) (tim : km.part .tim) (mem : km.part .mem) (dram : km.part .dram)
    (cor : km.part .cor) (hCOR_BANK_STAT_SYNCING : km.fld R.COR.BANK_STAT.SYNCING)
    (hLOG_LOG_ADDR_LO_ADDR : ∀ a, km.fld (R.LOG.LOG_ADDR_LO.ADDR a))
    (hLOG_LOG_INFO_ADDR_HI : ∀ a, km.fld (R.LOG.LOG_INFO.ADDR_HI a))
    (hLOG_LOG_INFO_ARRAY : ∀ a, km.fld (R.LOG.LOG_INFO.ARRAY a))
    (hLOG_LOG_INFO_BYTES : ∀ a, km.fld (R.LOG.LOG_INFO.BYTES a))
    (hLOG_LOG_INFO_CHANNEL : ∀ a, km.fld (R.LOG.LOG_INFO.CHANNEL a))
    (hLOG_LOG_INFO_CODE : ∀ a, km.fld (R.LOG.LOG_INFO.CODE a))
    (hLOG_LOG_INFO_PORT : ∀ a, km.fld (R.LOG.LOG_INFO.PORT a))
    (hLOG_LOG_INFO_SRAM : ∀ a, km.fld (R.LOG.LOG_INFO.SRAM a))
    (hLOG_LOG_TIME_HI_NS : ∀ a, km.fld (R.LOG.LOG_TIME_HI.NS a))
    (hLOG_LOG_TIME_LO_NS : ∀ a, km.fld (R.LOG.LOG_TIME_LO.NS a))
    (hMEM_CH_STAT_FILLED : ∀ a, km.fld (R.MEM.CH_STAT.FILLED a))
    (hMEM_CH_STAT_MIRROR_OK : ∀ a, km.fld (R.MEM.CH_STAT.MIRROR_OK a))
    (hMEM_CH_STAT_STATE : ∀ a, km.fld (R.MEM.CH_STAT.STATE a))
    (hPAR_CHK_CTRL_INJ_ARM : km.fld R.PAR.CHK_CTRL.INJ_ARM)
    (hPAR_DRAM_ERR_CNT_COUNT : km.fld R.PAR.DRAM_ERR_CNT.COUNT) (hPAR_LOG_STAT_NEXT : km.fld R.PAR.LOG_STAT.NEXT)
    (hPAR_LOG_STAT_TOTAL : km.fld R.PAR.LOG_STAT.TOTAL) (hPAR_LOG_STAT_WRAPPED : km.fld R.PAR.LOG_STAT.WRAPPED)
    (hPAR_MIRROR_FIX_CNT_COUNT : km.fld R.PAR.MIRROR_FIX_CNT.COUNT)
    (hPG_ERR_ADDR_HI : ∀ a, km.fld (R.PG.ERR_ADDR_HI a)) (hPG_ERR_ADDR_LO : ∀ a, km.fld (R.PG.ERR_ADDR_LO a))
    (hPG_ERR_CODE : ∀ a, km.fld (R.PG.ERR_CODE a)) (hPG_ERR_COUNT : ∀ a, km.fld (R.PG.ERR_COUNT a))
    (hPG_ERR_OVERFLOW : ∀ a, km.fld (R.PG.ERR_OVERFLOW a)) (hPG_ERR_SOURCE : ∀ a, km.fld (R.PG.ERR_SOURCE a))
    (hPG_ERR_VALID : ∀ a, km.fld (R.PG.ERR_VALID a)) (hPG_EVT_PEND : ∀ a, km.fld (R.PG.EVT_PEND a))
    (hTIM_DOM_OFFSET_OFFSET : ∀ a, km.fld (R.TIM.DOM_OFFSET.OFFSET a))
    (hTIM_DOM_RATE_RATE : ∀ a, km.fld (R.TIM.DOM_RATE.RATE a)) (s : State) (hs : s.Keeps km pq) : (State.bankSyncStop s).Keeps km pq := by
  unfold State.bankSyncStop
  repeat' first
    | with_reducible assumption
    | with_reducible exact hLOG_LOG_ADDR_LO_ADDR _
    | with_reducible exact hLOG_LOG_INFO_ADDR_HI _
    | with_reducible exact hLOG_LOG_INFO_ARRAY _
    | with_reducible exact hLOG_LOG_INFO_BYTES _
    | with_reducible exact hLOG_LOG_INFO_CHANNEL _
    | with_reducible exact hLOG_LOG_INFO_CODE _
    | with_reducible exact hLOG_LOG_INFO_PORT _
    | with_reducible exact hLOG_LOG_INFO_SRAM _
    | with_reducible exact hLOG_LOG_TIME_HI_NS _
    | with_reducible exact hLOG_LOG_TIME_LO_NS _
    | with_reducible exact hMEM_CH_STAT_FILLED _
    | with_reducible exact hMEM_CH_STAT_MIRROR_OK _
    | with_reducible exact hMEM_CH_STAT_STATE _
    | with_reducible exact hPG_ERR_ADDR_HI _
    | with_reducible exact hPG_ERR_ADDR_LO _
    | with_reducible exact hPG_ERR_CODE _
    | with_reducible exact hPG_ERR_COUNT _
    | with_reducible exact hPG_ERR_OVERFLOW _
    | with_reducible exact hPG_ERR_SOURCE _
    | with_reducible exact hPG_ERR_VALID _
    | with_reducible exact hPG_EVT_PEND _
    | with_reducible exact hTIM_DOM_OFFSET_OFFSET _
    | with_reducible exact hTIM_DOM_RATE_RATE _
    | ((try lift_lets -underBinder); intro x; refine Keep.use (k := km) (q := pq) (s := x) ?_ ?_; (on_goal 1 => dsimp -zeta only [x]); (on_goal 2 => clear_value x; intro _))
    | ((try lift_lets -underBinder); intro x; refine Keep.usePair (k := km) (q := pq) (p := x) ?_ ?_; (on_goal 1 => dsimp -zeta only [x]); (on_goal 2 => clear_value x; intro _))
    | ((try lift_lets -underBinder); intro x; refine Keep.memSt (x := x) ?_; subst x)
    | ((try lift_lets -underBinder); intro x; refine Keep.depSt (x := x) ?_; subst x)
    | ((try lift_lets -underBinder); intro x; clear_value x)
    | (intro _)
    | with_reducible apply Keep.ite
    | with_reducible apply State.draw_good
    | with_reducible apply State.dramCopy_good
    | with_reducible apply State.setFlags_good
    | with_reducible apply State.filter_good
    | with_reducible apply State.set_good
    | (simp -zeta only [Keep.mk_iff]; with_reducible refine Keep.upd ?_ rfl ?_; on_goal 2 => (and_intros <;> with_reducible first | exact .inl rfl | exact .inl ⟨rfl, rfl, rfl⟩ | exact .inr ‹_› | exact Nat.le_refl _ | exact Nat.le_add_right _ _))

theorem State.showUploads_good (hCOR_BANK_STAT_UPL_BUSY : km.fld R.COR.BANK_STAT.UPL_BUSY)
    (hCOR_UPL_DONE_ID : km.fld R.COR.UPL_DONE.ID) (hCOR_UPL_DONE_REGIONS : km.fld R.COR.UPL_DONE.REGIONS)
    (hCOR_UPL_DONE_STATUS : km.fld R.COR.UPL_DONE.STATUS) (hCOR_UPL_STAT_QUEUED : km.fld R.COR.UPL_STAT.QUEUED)
    (hCOR_UPL_STAT_RUNNING : km.fld R.COR.UPL_STAT.RUNNING) (hCOR_UPL_STAT_RUN_DONE : km.fld R.COR.UPL_STAT.RUN_DONE)
    (hCOR_UPL_STAT_RUN_ID : km.fld R.COR.UPL_STAT.RUN_ID) (s : State) (hs : s.Keeps km pq) : (State.showUploads s).Keeps km pq := by
  unfold State.showUploads
  repeat' first
    | with_reducible assumption
    | ((try lift_lets -underBinder); intro x; refine Keep.use (k := km) (q := pq) (s := x) ?_ ?_; (on_goal 1 => dsimp -zeta only [x]); (on_goal 2 => clear_value x; intro _))
    | ((try lift_lets -underBinder); intro x; refine Keep.usePair (k := km) (q := pq) (p := x) ?_ ?_; (on_goal 1 => dsimp -zeta only [x]); (on_goal 2 => clear_value x; intro _))
    | ((try lift_lets -underBinder); intro x; refine Keep.memSt (x := x) ?_; subst x)
    | ((try lift_lets -underBinder); intro x; refine Keep.depSt (x := x) ?_; subst x)
    | ((try lift_lets -underBinder); intro x; clear_value x)
    | (intro _)
    | with_reducible apply Keep.ite
    | with_reducible apply State.set_good
    | split

theorem State.postUpload_good (out : km.part .out) (cor : km.part .cor)
    (hPG_ERR_ADDR_HI : ∀ a, km.fld (R.PG.ERR_ADDR_HI a)) (hPG_ERR_ADDR_LO : ∀ a, km.fld (R.PG.ERR_ADDR_LO a))
    (hPG_ERR_CODE : ∀ a, km.fld (R.PG.ERR_CODE a)) (hPG_ERR_COUNT : ∀ a, km.fld (R.PG.ERR_COUNT a))
    (hPG_ERR_OVERFLOW : ∀ a, km.fld (R.PG.ERR_OVERFLOW a)) (hPG_ERR_SOURCE : ∀ a, km.fld (R.PG.ERR_SOURCE a))
    (hPG_ERR_VALID : ∀ a, km.fld (R.PG.ERR_VALID a)) (hPG_EVT_PEND : ∀ a, km.fld (R.PG.EVT_PEND a)) (s : State)
    (u : Upload) (hs : s.Keeps km pq) : (State.postUpload s u).Keeps km pq := by
  unfold State.postUpload
  repeat' first
    | with_reducible assumption
    | with_reducible exact hPG_ERR_ADDR_HI _
    | with_reducible exact hPG_ERR_ADDR_LO _
    | with_reducible exact hPG_ERR_CODE _
    | with_reducible exact hPG_ERR_COUNT _
    | with_reducible exact hPG_ERR_OVERFLOW _
    | with_reducible exact hPG_ERR_SOURCE _
    | with_reducible exact hPG_ERR_VALID _
    | with_reducible exact hPG_EVT_PEND _
    | ((try lift_lets -underBinder); intro x; refine Keep.use (k := km) (q := pq) (s := x) ?_ ?_; (on_goal 1 => dsimp -zeta only [x]); (on_goal 2 => clear_value x; intro _))
    | ((try lift_lets -underBinder); intro x; refine Keep.usePair (k := km) (q := pq) (p := x) ?_ ?_; (on_goal 1 => dsimp -zeta only [x]); (on_goal 2 => clear_value x; intro _))
    | ((try lift_lets -underBinder); intro x; refine Keep.memSt (x := x) ?_; subst x)
    | ((try lift_lets -underBinder); intro x; refine Keep.depSt (x := x) ?_; subst x)
    | ((try lift_lets -underBinder); intro x; clear_value x)
    | (intro _)
    | with_reducible apply Keep.ite
    | with_reducible apply State.ev_good
    | with_reducible apply State.err_good
    | (simp -zeta only [Keep.mk_iff]; with_reducible refine Keep.upd ?_ rfl ?_; on_goal 2 => (and_intros <;> with_reducible first | exact .inl rfl | exact .inl ⟨rfl, rfl, rfl⟩ | exact .inr ‹_› | exact Nat.le_refl _ | exact Nat.le_add_right _ _))

theorem State.uplGo_good (out : km.part .out) (tim : km.part .tim) (cor : km.part .cor)
    (hCOR_BANK_STAT_UPL_BUSY : km.fld R.COR.BANK_STAT.UPL_BUSY) (hCOR_UPL_CMD_ID : km.fld R.COR.UPL_CMD.ID)
    (hCOR_UPL_CMD_OP : km.fld R.COR.UPL_CMD.OP) (hCOR_UPL_CMD_SUPERSEDE : km.fld R.COR.UPL_CMD.SUPERSEDE)
    (hCOR_UPL_DONE_ID : km.fld R.COR.UPL_DONE.ID) (hCOR_UPL_DONE_REGIONS : km.fld R.COR.UPL_DONE.REGIONS)
    (hCOR_UPL_DONE_STATUS : km.fld R.COR.UPL_DONE.STATUS) (hCOR_UPL_STAT_QUEUED : km.fld R.COR.UPL_STAT.QUEUED)
    (hCOR_UPL_STAT_RUNNING : km.fld R.COR.UPL_STAT.RUNNING) (hCOR_UPL_STAT_RUN_DONE : km.fld R.COR.UPL_STAT.RUN_DONE)
    (hCOR_UPL_STAT_RUN_ID : km.fld R.COR.UPL_STAT.RUN_ID) (hPG_ERR_ADDR_HI : ∀ a, km.fld (R.PG.ERR_ADDR_HI a))
    (hPG_ERR_ADDR_LO : ∀ a, km.fld (R.PG.ERR_ADDR_LO a)) (hPG_ERR_CODE : ∀ a, km.fld (R.PG.ERR_CODE a))
    (hPG_ERR_COUNT : ∀ a, km.fld (R.PG.ERR_COUNT a)) (hPG_ERR_OVERFLOW : ∀ a, km.fld (R.PG.ERR_OVERFLOW a))
    (hPG_ERR_SOURCE : ∀ a, km.fld (R.PG.ERR_SOURCE a)) (hPG_ERR_VALID : ∀ a, km.fld (R.PG.ERR_VALID a))
    (hPG_EVT_PEND : ∀ a, km.fld (R.PG.EVT_PEND a)) (hTIM_DOM_OFFSET_OFFSET : ∀ a, km.fld (R.TIM.DOM_OFFSET.OFFSET a))
    (hTIM_DOM_RATE_RATE : ∀ a, km.fld (R.TIM.DOM_RATE.RATE a)) (s : State) (v : Nat) (hs : s.Keeps km pq) : (State.uplGo s v).Keeps km pq := by
  unfold State.uplGo
  repeat' first
    | with_reducible assumption
    | with_reducible exact hPG_ERR_ADDR_HI _
    | with_reducible exact hPG_ERR_ADDR_LO _
    | with_reducible exact hPG_ERR_CODE _
    | with_reducible exact hPG_ERR_COUNT _
    | with_reducible exact hPG_ERR_OVERFLOW _
    | with_reducible exact hPG_ERR_SOURCE _
    | with_reducible exact hPG_ERR_VALID _
    | with_reducible exact hPG_EVT_PEND _
    | with_reducible exact hTIM_DOM_OFFSET_OFFSET _
    | with_reducible exact hTIM_DOM_RATE_RATE _
    | ((try lift_lets -underBinder); intro x; refine Keep.use (k := km) (q := pq) (s := x) ?_ ?_; (on_goal 1 => dsimp -zeta only [x]); (on_goal 2 => clear_value x; intro _))
    | ((try lift_lets -underBinder); intro x; refine Keep.usePair (k := km) (q := pq) (p := x) ?_ ?_; (on_goal 1 => dsimp -zeta only [x]); (on_goal 2 => clear_value x; intro _))
    | ((try lift_lets -underBinder); intro x; refine Keep.memSt (x := x) ?_; subst x)
    | ((try lift_lets -underBinder); intro x; refine Keep.depSt (x := x) ?_; subst x)
    | ((try lift_lets -underBinder); intro x; clear_value x)
    | (intro _)
    | with_reducible apply Keep.ite
    | with_reducible apply State.set_good
    | with_reducible apply State.err_good
    | with_reducible apply State.filter_good
    | with_reducible apply State.postUpload_good
    | with_reducible apply State.showUploads_good
    | (simp -zeta only [Keep.mk_iff]; with_reducible refine Keep.upd ?_ rfl ?_; on_goal 2 => (and_intros <;> with_reducible first | exact .inl rfl | exact .inl ⟨rfl, rfl, rfl⟩ | exact .inr ‹_› | exact Nat.le_refl _ | exact Nat.le_add_right _ _))
    | with_reducible apply Keep.foldl

theorem State.setHead_good (cor : km.part .cor) (hCOR_BANK_STAT_UPL_BUSY : km.fld R.COR.BANK_STAT.UPL_BUSY)
    (hCOR_UPL_DONE_ID : km.fld R.COR.UPL_DONE.ID) (hCOR_UPL_DONE_REGIONS : km.fld R.COR.UPL_DONE.REGIONS)
    (hCOR_UPL_DONE_STATUS : km.fld R.COR.UPL_DONE.STATUS) (hCOR_UPL_STAT_QUEUED : km.fld R.COR.UPL_STAT.QUEUED)
    (hCOR_UPL_STAT_RUNNING : km.fld R.COR.UPL_STAT.RUNNING) (hCOR_UPL_STAT_RUN_DONE : km.fld R.COR.UPL_STAT.RUN_DONE)
    (hCOR_UPL_STAT_RUN_ID : km.fld R.COR.UPL_STAT.RUN_ID) (s : State) (u : Upload) (hs : s.Keeps km pq) : (State.setHead s u).Keeps km pq := by
  unfold State.setHead
  repeat' first
    | with_reducible assumption
    | ((try lift_lets -underBinder); intro x; refine Keep.use (k := km) (q := pq) (s := x) ?_ ?_; (on_goal 1 => dsimp -zeta only [x]); (on_goal 2 => clear_value x; intro _))
    | ((try lift_lets -underBinder); intro x; refine Keep.usePair (k := km) (q := pq) (p := x) ?_ ?_; (on_goal 1 => dsimp -zeta only [x]); (on_goal 2 => clear_value x; intro _))
    | ((try lift_lets -underBinder); intro x; refine Keep.memSt (x := x) ?_; subst x)
    | ((try lift_lets -underBinder); intro x; refine Keep.depSt (x := x) ?_; subst x)
    | ((try lift_lets -underBinder); intro x; clear_value x)
    | (intro _)
    | with_reducible apply State.showUploads_good
    | (simp -zeta only [Keep.mk_iff]; with_reducible refine Keep.upd ?_ rfl ?_; on_goal 2 => (and_intros <;> with_reducible first | exact .inl rfl | exact .inl ⟨rfl, rfl, rfl⟩ | exact .inr ‹_› | exact Nat.le_refl _ | exact Nat.le_add_right _ _))

theorem State.putRegion_good (out : km.part .out) (tim : km.part .tim) (mem : km.part .mem) (dram : km.part .dram)
    (cor : km.part .cor) (hCOR_BANK_STAT_UPL_BUSY : km.fld R.COR.BANK_STAT.UPL_BUSY)
    (hCOR_UPL_DONE_ID : km.fld R.COR.UPL_DONE.ID) (hCOR_UPL_DONE_REGIONS : km.fld R.COR.UPL_DONE.REGIONS)
    (hCOR_UPL_DONE_STATUS : km.fld R.COR.UPL_DONE.STATUS) (hCOR_UPL_STAT_QUEUED : km.fld R.COR.UPL_STAT.QUEUED)
    (hCOR_UPL_STAT_RUNNING : km.fld R.COR.UPL_STAT.RUNNING) (hCOR_UPL_STAT_RUN_DONE : km.fld R.COR.UPL_STAT.RUN_DONE)
    (hCOR_UPL_STAT_RUN_ID : km.fld R.COR.UPL_STAT.RUN_ID)
    (hLOG_LOG_ADDR_LO_ADDR : ∀ a, km.fld (R.LOG.LOG_ADDR_LO.ADDR a))
    (hLOG_LOG_INFO_ADDR_HI : ∀ a, km.fld (R.LOG.LOG_INFO.ADDR_HI a))
    (hLOG_LOG_INFO_ARRAY : ∀ a, km.fld (R.LOG.LOG_INFO.ARRAY a))
    (hLOG_LOG_INFO_BYTES : ∀ a, km.fld (R.LOG.LOG_INFO.BYTES a))
    (hLOG_LOG_INFO_CHANNEL : ∀ a, km.fld (R.LOG.LOG_INFO.CHANNEL a))
    (hLOG_LOG_INFO_CODE : ∀ a, km.fld (R.LOG.LOG_INFO.CODE a))
    (hLOG_LOG_INFO_PORT : ∀ a, km.fld (R.LOG.LOG_INFO.PORT a))
    (hLOG_LOG_INFO_SRAM : ∀ a, km.fld (R.LOG.LOG_INFO.SRAM a))
    (hLOG_LOG_TIME_HI_NS : ∀ a, km.fld (R.LOG.LOG_TIME_HI.NS a))
    (hLOG_LOG_TIME_LO_NS : ∀ a, km.fld (R.LOG.LOG_TIME_LO.NS a))
    (hPAR_CHK_CTRL_INJ_ARM : km.fld R.PAR.CHK_CTRL.INJ_ARM) (hPAR_LOG_STAT_NEXT : km.fld R.PAR.LOG_STAT.NEXT)
    (hPAR_LOG_STAT_TOTAL : km.fld R.PAR.LOG_STAT.TOTAL) (hPAR_LOG_STAT_WRAPPED : km.fld R.PAR.LOG_STAT.WRAPPED)
    (hPG_ERR_ADDR_HI : ∀ a, km.fld (R.PG.ERR_ADDR_HI a)) (hPG_ERR_ADDR_LO : ∀ a, km.fld (R.PG.ERR_ADDR_LO a))
    (hPG_ERR_CODE : ∀ a, km.fld (R.PG.ERR_CODE a)) (hPG_ERR_COUNT : ∀ a, km.fld (R.PG.ERR_COUNT a))
    (hPG_ERR_OVERFLOW : ∀ a, km.fld (R.PG.ERR_OVERFLOW a)) (hPG_ERR_SOURCE : ∀ a, km.fld (R.PG.ERR_SOURCE a))
    (hPG_ERR_VALID : ∀ a, km.fld (R.PG.ERR_VALID a)) (hPG_EVT_PEND : ∀ a, km.fld (R.PG.EVT_PEND a))
    (hTIM_DOM_OFFSET_OFFSET : ∀ a, km.fld (R.TIM.DOM_OFFSET.OFFSET a))
    (hTIM_DOM_RATE_RATE : ∀ a, km.fld (R.TIM.DOM_RATE.RATE a)) (s : State) (u : Upload) (bytes : List Byte)
    (flag : Bool) (hs : s.Keeps km pq) : (State.putRegion s u bytes flag).Keeps km pq := by
  unfold State.putRegion
  repeat' first
    | with_reducible assumption
    | with_reducible exact hLOG_LOG_ADDR_LO_ADDR _
    | with_reducible exact hLOG_LOG_INFO_ADDR_HI _
    | with_reducible exact hLOG_LOG_INFO_ARRAY _
    | with_reducible exact hLOG_LOG_INFO_BYTES _
    | with_reducible exact hLOG_LOG_INFO_CHANNEL _
    | with_reducible exact hLOG_LOG_INFO_CODE _
    | with_reducible exact hLOG_LOG_INFO_PORT _
    | with_reducible exact hLOG_LOG_INFO_SRAM _
    | with_reducible exact hLOG_LOG_TIME_HI_NS _
    | with_reducible exact hLOG_LOG_TIME_LO_NS _
    | with_reducible exact hPG_ERR_ADDR_HI _
    | with_reducible exact hPG_ERR_ADDR_LO _
    | with_reducible exact hPG_ERR_CODE _
    | with_reducible exact hPG_ERR_COUNT _
    | with_reducible exact hPG_ERR_OVERFLOW _
    | with_reducible exact hPG_ERR_SOURCE _
    | with_reducible exact hPG_ERR_VALID _
    | with_reducible exact hPG_EVT_PEND _
    | with_reducible exact hTIM_DOM_OFFSET_OFFSET _
    | with_reducible exact hTIM_DOM_RATE_RATE _
    | ((try lift_lets -underBinder); intro x; refine Keep.use (k := km) (q := pq) (s := x) ?_ ?_; (on_goal 1 => dsimp -zeta only [x]); (on_goal 2 => clear_value x; intro _))
    | ((try lift_lets -underBinder); intro x; refine Keep.usePair (k := km) (q := pq) (p := x) ?_ ?_; (on_goal 1 => dsimp -zeta only [x]); (on_goal 2 => clear_value x; intro _))
    | ((try lift_lets -underBinder); intro x; refine Keep.memSt (x := x) ?_; subst x)
    | ((try lift_lets -underBinder); intro x; refine Keep.depSt (x := x) ?_; subst x)
    | ((try lift_lets -underBinder); intro x; clear_value x)
    | (intro _)
    | with_reducible apply Keep.ite
    | with_reducible apply State.dramWrite_good
    | with_reducible apply State.filter_good
    | with_reducible apply State.setFlags_good
    | with_reducible apply State.setHead_good

theorem State.uplRegion_good (out : km.part .out) (tim : km.part .tim) (mem : km.part .mem) (dram : km.part .dram)
    (cor : km.part .cor) (line : km.part .line) (hCOR_BANK_STAT_UPL_BUSY : km.fld R.COR.BANK_STAT.UPL_BUSY)
    (hCOR_UPL_DONE_ID : km.fld R.COR.UPL_DONE.ID) (hCOR_UPL_DONE_REGIONS : km.fld R.COR.UPL_DONE.REGIONS)
    (hCOR_UPL_DONE_STATUS : km.fld R.COR.UPL_DONE.STATUS) (hCOR_UPL_NR_CNT_COUNT : km.fld R.COR.UPL_NR_CNT.COUNT)
    (hCOR_UPL_STAT_QUEUED : km.fld R.COR.UPL_STAT.QUEUED) (hCOR_UPL_STAT_RUNNING : km.fld R.COR.UPL_STAT.RUNNING)
    (hCOR_UPL_STAT_RUN_DONE : km.fld R.COR.UPL_STAT.RUN_DONE) (hCOR_UPL_STAT_RUN_ID : km.fld R.COR.UPL_STAT.RUN_ID)
    (hLOG_LOG_ADDR_LO_ADDR : ∀ a, km.fld (R.LOG.LOG_ADDR_LO.ADDR a))
    (hLOG_LOG_INFO_ADDR_HI : ∀ a, km.fld (R.LOG.LOG_INFO.ADDR_HI a))
    (hLOG_LOG_INFO_ARRAY : ∀ a, km.fld (R.LOG.LOG_INFO.ARRAY a))
    (hLOG_LOG_INFO_BYTES : ∀ a, km.fld (R.LOG.LOG_INFO.BYTES a))
    (hLOG_LOG_INFO_CHANNEL : ∀ a, km.fld (R.LOG.LOG_INFO.CHANNEL a))
    (hLOG_LOG_INFO_CODE : ∀ a, km.fld (R.LOG.LOG_INFO.CODE a))
    (hLOG_LOG_INFO_PORT : ∀ a, km.fld (R.LOG.LOG_INFO.PORT a))
    (hLOG_LOG_INFO_SRAM : ∀ a, km.fld (R.LOG.LOG_INFO.SRAM a))
    (hLOG_LOG_TIME_HI_NS : ∀ a, km.fld (R.LOG.LOG_TIME_HI.NS a))
    (hLOG_LOG_TIME_LO_NS : ∀ a, km.fld (R.LOG.LOG_TIME_LO.NS a))
    (hMEM_CH_STAT_FILLED : ∀ a, km.fld (R.MEM.CH_STAT.FILLED a))
    (hMEM_CH_STAT_MIRROR_OK : ∀ a, km.fld (R.MEM.CH_STAT.MIRROR_OK a))
    (hMEM_CH_STAT_STATE : ∀ a, km.fld (R.MEM.CH_STAT.STATE a))
    (hPAR_CHK_CTRL_INJ_ARM : km.fld R.PAR.CHK_CTRL.INJ_ARM)
    (hPAR_DRAM_ERR_CNT_COUNT : km.fld R.PAR.DRAM_ERR_CNT.COUNT) (hPAR_LOG_STAT_NEXT : km.fld R.PAR.LOG_STAT.NEXT)
    (hPAR_LOG_STAT_TOTAL : km.fld R.PAR.LOG_STAT.TOTAL) (hPAR_LOG_STAT_WRAPPED : km.fld R.PAR.LOG_STAT.WRAPPED)
    (hPAR_MIRROR_FIX_CNT_COUNT : km.fld R.PAR.MIRROR_FIX_CNT.COUNT)
    (hPG_ERR_ADDR_HI : ∀ a, km.fld (R.PG.ERR_ADDR_HI a)) (hPG_ERR_ADDR_LO : ∀ a, km.fld (R.PG.ERR_ADDR_LO a))
    (hPG_ERR_CODE : ∀ a, km.fld (R.PG.ERR_CODE a)) (hPG_ERR_COUNT : ∀ a, km.fld (R.PG.ERR_COUNT a))
    (hPG_ERR_OVERFLOW : ∀ a, km.fld (R.PG.ERR_OVERFLOW a)) (hPG_ERR_SOURCE : ∀ a, km.fld (R.PG.ERR_SOURCE a))
    (hPG_ERR_VALID : ∀ a, km.fld (R.PG.ERR_VALID a)) (hPG_EVT_PEND : ∀ a, km.fld (R.PG.EVT_PEND a))
    (hPG_POISON_SEEN : ∀ a, km.fld (R.PG.POISON_SEEN a))
    (hTIM_DOM_OFFSET_OFFSET : ∀ a, km.fld (R.TIM.DOM_OFFSET.OFFSET a))
    (hTIM_DOM_RATE_RATE : ∀ a, km.fld (R.TIM.DOM_RATE.RATE a)) (s : State) (op : Nat) (hs : s.Keeps km pq) : (State.uplRegion s op).Keeps km pq := by
  unfold State.uplRegion
  repeat' first
    | with_reducible assumption
    | with_reducible exact hLOG_LOG_ADDR_LO_ADDR _
    | with_reducible exact hLOG_LOG_INFO_ADDR_HI _
    | with_reducible exact hLOG_LOG_INFO_ARRAY _
    | with_reducible exact hLOG_LOG_INFO_BYTES _
    | with_reducible exact hLOG_LOG_INFO_CHANNEL _
    | with_reducible exact hLOG_LOG_INFO_CODE _
    | with_reducible exact hLOG_LOG_INFO_PORT _
    | with_reducible exact hLOG_LOG_INFO_SRAM _
    | with_reducible exact hLOG_LOG_TIME_HI_NS _
    | with_reducible exact hLOG_LOG_TIME_LO_NS _
    | with_reducible exact hMEM_CH_STAT_FILLED _
    | with_reducible exact hMEM_CH_STAT_MIRROR_OK _
    | with_reducible exact hMEM_CH_STAT_STATE _
    | with_reducible exact hPG_ERR_ADDR_HI _
    | with_reducible exact hPG_ERR_ADDR_LO _
    | with_reducible exact hPG_ERR_CODE _
    | with_reducible exact hPG_ERR_COUNT _
    | with_reducible exact hPG_ERR_OVERFLOW _
    | with_reducible exact hPG_ERR_SOURCE _
    | with_reducible exact hPG_ERR_VALID _
    | with_reducible exact hPG_EVT_PEND _
    | with_reducible exact hPG_POISON_SEEN _
    | with_reducible exact hTIM_DOM_OFFSET_OFFSET _
    | with_reducible exact hTIM_DOM_RATE_RATE _
    | ((try lift_lets -underBinder); intro x; refine Keep.use (k := km) (q := pq) (s := x) ?_ ?_; (on_goal 1 => dsimp -zeta only [x]); (on_goal 2 => clear_value x; intro _))
    | ((try lift_lets -underBinder); intro x; refine Keep.usePair (k := km) (q := pq) (p := x) ?_ ?_; (on_goal 1 => dsimp -zeta only [x]); (on_goal 2 => clear_value x; intro _))
    | ((try lift_lets -underBinder); intro x; refine Keep.memSt (x := x) ?_; subst x)
    | ((try lift_lets -underBinder); intro x; refine Keep.depSt (x := x) ?_; subst x)
    | ((try lift_lets -underBinder); intro x; clear_value x)
    | (intro _)
    | with_reducible apply Keep.ite
    | with_reducible apply Keep.ite1
    | dsimp -zeta only
    | with_reducible apply State.setHead_good
    | with_reducible apply State.putRegion_good
    | with_reducible apply State.dramBytes_good
    | with_reducible apply State.poison_good
    | with_reducible apply State.count_good
    | split

theorem State.uplEnd_good (out : km.part .out) (cor : km.part .cor)
    (hCOR_BANK_STAT_UPL_BUSY : km.fld R.COR.BANK_STAT.UPL_BUSY) (hCOR_UPL_DONE_ID : km.fld R.COR.UPL_DONE.ID)
    (hCOR_UPL_DONE_REGIONS : km.fld R.COR.UPL_DONE.REGIONS) (hCOR_UPL_DONE_STATUS : km.fld R.COR.UPL_DONE.STATUS)
    (hCOR_UPL_STAT_QUEUED : km.fld R.COR.UPL_STAT.QUEUED) (hCOR_UPL_STAT_RUNNING : km.fld R.COR.UPL_STAT.RUNNING)
    (hCOR_UPL_STAT_RUN_DONE : km.fld R.COR.UPL_STAT.RUN_DONE) (hCOR_UPL_STAT_RUN_ID : km.fld R.COR.UPL_STAT.RUN_ID)
    (hPG_ERR_ADDR_HI : ∀ a, km.fld (R.PG.ERR_ADDR_HI a)) (hPG_ERR_ADDR_LO : ∀ a, km.fld (R.PG.ERR_ADDR_LO a))
    (hPG_ERR_CODE : ∀ a, km.fld (R.PG.ERR_CODE a)) (hPG_ERR_COUNT : ∀ a, km.fld (R.PG.ERR_COUNT a))
    (hPG_ERR_OVERFLOW : ∀ a, km.fld (R.PG.ERR_OVERFLOW a)) (hPG_ERR_SOURCE : ∀ a, km.fld (R.PG.ERR_SOURCE a))
    (hPG_ERR_VALID : ∀ a, km.fld (R.PG.ERR_VALID a)) (hPG_EVT_PEND : ∀ a, km.fld (R.PG.EVT_PEND a)) (s : State)
    (hs : s.Keeps km pq) : (State.uplEnd s).Keeps km pq := by
  unfold State.uplEnd
  repeat' first
    | with_reducible assumption
    | with_reducible exact hPG_ERR_ADDR_HI _
    | with_reducible exact hPG_ERR_ADDR_LO _
    | with_reducible exact hPG_ERR_CODE _
    | with_reducible exact hPG_ERR_COUNT _
    | with_reducible exact hPG_ERR_OVERFLOW _
    | with_reducible exact hPG_ERR_SOURCE _
    | with_reducible exact hPG_ERR_VALID _
    | with_reducible exact hPG_EVT_PEND _
    | ((try lift_lets -underBinder); intro x; refine Keep.use (k := km) (q := pq) (s := x) ?_ ?_; (on_goal 1 => dsimp -zeta only [x]); (on_goal 2 => clear_value x; intro _))
    | ((try lift_lets -underBinder); intro x; refine Keep.usePair (k := km) (q := pq) (p := x) ?_ ?_; (on_goal 1 => dsimp -zeta only [x]); (on_goal 2 => clear_value x; intro _))
    | ((try lift_lets -underBinder); intro x; refine Keep.memSt (x := x) ?_; subst x)
    | ((try lift_lets -underBinder); intro x; refine Keep.depSt (x := x) ?_; subst x)
    | ((try lift_lets -underBinder); intro x; clear_value x)
    | (intro _)
    | with_reducible apply Keep.ite
    | with_reducible apply State.postUpload_good
    | with_reducible apply State.showUploads_good
    | split
    | (simp -zeta only [Keep.mk_iff]; with_reducible refine Keep.upd ?_ rfl ?_; on_goal 2 => (and_intros <;> with_reducible first | exact .inl rfl | exact .inl ⟨rfl, rfl, rfl⟩ | exact .inr ‹_› | exact Nat.le_refl _ | exact Nat.le_add_right _ _))

theorem State.uplDoneRead_good (cor : km.part .cor) (hCOR_BANK_STAT_UPL_BUSY : km.fld R.COR.BANK_STAT.UPL_BUSY)
    (hCOR_UPL_DONE_ID : km.fld R.COR.UPL_DONE.ID) (hCOR_UPL_DONE_REGIONS : km.fld R.COR.UPL_DONE.REGIONS)
    (hCOR_UPL_DONE_STATUS : km.fld R.COR.UPL_DONE.STATUS) (hCOR_UPL_STAT_QUEUED : km.fld R.COR.UPL_STAT.QUEUED)
    (hCOR_UPL_STAT_RUNNING : km.fld R.COR.UPL_STAT.RUNNING) (hCOR_UPL_STAT_RUN_DONE : km.fld R.COR.UPL_STAT.RUN_DONE)
    (hCOR_UPL_STAT_RUN_ID : km.fld R.COR.UPL_STAT.RUN_ID) (s : State) (hs : s.Keeps km pq) : (State.uplDoneRead s).Keeps km pq := by
  unfold State.uplDoneRead
  repeat' first
    | with_reducible assumption
    | ((try lift_lets -underBinder); intro x; refine Keep.use (k := km) (q := pq) (s := x) ?_ ?_; (on_goal 1 => dsimp -zeta only [x]); (on_goal 2 => clear_value x; intro _))
    | ((try lift_lets -underBinder); intro x; refine Keep.usePair (k := km) (q := pq) (p := x) ?_ ?_; (on_goal 1 => dsimp -zeta only [x]); (on_goal 2 => clear_value x; intro _))
    | ((try lift_lets -underBinder); intro x; refine Keep.memSt (x := x) ?_; subst x)
    | ((try lift_lets -underBinder); intro x; refine Keep.depSt (x := x) ?_; subst x)
    | ((try lift_lets -underBinder); intro x; clear_value x)
    | (intro _)
    | with_reducible apply State.showUploads_good
    | (simp -zeta only [Keep.mk_iff]; with_reducible refine Keep.upd ?_ rfl ?_; on_goal 2 => (and_intros <;> with_reducible first | exact .inl rfl | exact .inl ⟨rfl, rfl, rfl⟩ | exact .inr ‹_› | exact Nat.le_refl _ | exact Nat.le_add_right _ _))

theorem State.bankRead_good (out : km.part .out) (tim : km.part .tim) (mem : km.part .mem) (dram : km.part .dram)
    (hLOG_LOG_ADDR_LO_ADDR : ∀ a, km.fld (R.LOG.LOG_ADDR_LO.ADDR a))
    (hLOG_LOG_INFO_ADDR_HI : ∀ a, km.fld (R.LOG.LOG_INFO.ADDR_HI a))
    (hLOG_LOG_INFO_ARRAY : ∀ a, km.fld (R.LOG.LOG_INFO.ARRAY a))
    (hLOG_LOG_INFO_BYTES : ∀ a, km.fld (R.LOG.LOG_INFO.BYTES a))
    (hLOG_LOG_INFO_CHANNEL : ∀ a, km.fld (R.LOG.LOG_INFO.CHANNEL a))
    (hLOG_LOG_INFO_CODE : ∀ a, km.fld (R.LOG.LOG_INFO.CODE a))
    (hLOG_LOG_INFO_PORT : ∀ a, km.fld (R.LOG.LOG_INFO.PORT a))
    (hLOG_LOG_INFO_SRAM : ∀ a, km.fld (R.LOG.LOG_INFO.SRAM a))
    (hLOG_LOG_TIME_HI_NS : ∀ a, km.fld (R.LOG.LOG_TIME_HI.NS a))
    (hLOG_LOG_TIME_LO_NS : ∀ a, km.fld (R.LOG.LOG_TIME_LO.NS a))
    (hMEM_CH_STAT_FILLED : ∀ a, km.fld (R.MEM.CH_STAT.FILLED a))
    (hMEM_CH_STAT_MIRROR_OK : ∀ a, km.fld (R.MEM.CH_STAT.MIRROR_OK a))
    (hMEM_CH_STAT_STATE : ∀ a, km.fld (R.MEM.CH_STAT.STATE a))
    (hPAR_DRAM_ERR_CNT_COUNT : km.fld R.PAR.DRAM_ERR_CNT.COUNT) (hPAR_LOG_STAT_NEXT : km.fld R.PAR.LOG_STAT.NEXT)
    (hPAR_LOG_STAT_TOTAL : km.fld R.PAR.LOG_STAT.TOTAL) (hPAR_LOG_STAT_WRAPPED : km.fld R.PAR.LOG_STAT.WRAPPED)
    (hPAR_MIRROR_FIX_CNT_COUNT : km.fld R.PAR.MIRROR_FIX_CNT.COUNT)
    (hPG_ERR_ADDR_HI : ∀ a, km.fld (R.PG.ERR_ADDR_HI a)) (hPG_ERR_ADDR_LO : ∀ a, km.fld (R.PG.ERR_ADDR_LO a))
    (hPG_ERR_CODE : ∀ a, km.fld (R.PG.ERR_CODE a)) (hPG_ERR_COUNT : ∀ a, km.fld (R.PG.ERR_COUNT a))
    (hPG_ERR_OVERFLOW : ∀ a, km.fld (R.PG.ERR_OVERFLOW a)) (hPG_ERR_SOURCE : ∀ a, km.fld (R.PG.ERR_SOURCE a))
    (hPG_ERR_VALID : ∀ a, km.fld (R.PG.ERR_VALID a)) (hPG_EVT_PEND : ∀ a, km.fld (R.PG.EVT_PEND a))
    (hTIM_DOM_OFFSET_OFFSET : ∀ a, km.fld (R.TIM.DOM_OFFSET.OFFSET a))
    (hTIM_DOM_RATE_RATE : ∀ a, km.fld (R.TIM.DOM_RATE.RATE a)) (s : State) (a n b : Nat) (hs : s.Keeps km pq) : (State.bankRead s a n b).1.Keeps km pq := by
  unfold State.bankRead
  repeat' first
    | with_reducible assumption
    | with_reducible exact hLOG_LOG_ADDR_LO_ADDR _
    | with_reducible exact hLOG_LOG_INFO_ADDR_HI _
    | with_reducible exact hLOG_LOG_INFO_ARRAY _
    | with_reducible exact hLOG_LOG_INFO_BYTES _
    | with_reducible exact hLOG_LOG_INFO_CHANNEL _
    | with_reducible exact hLOG_LOG_INFO_CODE _
    | with_reducible exact hLOG_LOG_INFO_PORT _
    | with_reducible exact hLOG_LOG_INFO_SRAM _
    | with_reducible exact hLOG_LOG_TIME_HI_NS _
    | with_reducible exact hLOG_LOG_TIME_LO_NS _
    | with_reducible exact hMEM_CH_STAT_FILLED _
    | with_reducible exact hMEM_CH_STAT_MIRROR_OK _
    | with_reducible exact hMEM_CH_STAT_STATE _
    | with_reducible exact hPG_ERR_ADDR_HI _
    | with_reducible exact hPG_ERR_ADDR_LO _
    | with_reducible exact hPG_ERR_CODE _
    | with_reducible exact hPG_ERR_COUNT _
    | with_reducible exact hPG_ERR_OVERFLOW _
    | with_reducible exact hPG_ERR_SOURCE _
    | with_reducible exact hPG_ERR_VALID _
    | with_reducible exact hPG_EVT_PEND _
    | with_reducible exact hTIM_DOM_OFFSET_OFFSET _
    | with_reducible exact hTIM_DOM_RATE_RATE _
    | ((try lift_lets -underBinder); intro x; refine Keep.use (k := km) (q := pq) (s := x) ?_ ?_; (on_goal 1 => dsimp -zeta only [x]); (on_goal 2 => clear_value x; intro _))
    | ((try lift_lets -underBinder); intro x; refine Keep.usePair (k := km) (q := pq) (p := x) ?_ ?_; (on_goal 1 => dsimp -zeta only [x]); (on_goal 2 => clear_value x; intro _))
    | ((try lift_lets -underBinder); intro x; refine Keep.memSt (x := x) ?_; subst x)
    | ((try lift_lets -underBinder); intro x; refine Keep.depSt (x := x) ?_; subst x)
    | ((try lift_lets -underBinder); intro x; clear_value x)
    | (intro _)
    | with_reducible apply Keep.ite
    | with_reducible apply Keep.ite1
    | dsimp -zeta only
    | with_reducible apply State.dramBytes_good

theorem State.aperRead_good (out : km.part .out) (tim : km.part .tim) (mem : km.part .mem) (dram : km.part .dram)
    (hLOG_LOG_ADDR_LO_ADDR : ∀ a, km.fld (R.LOG.LOG_ADDR_LO.ADDR a))
    (hLOG_LOG_INFO_ADDR_HI : ∀ a, km.fld (R.LOG.LOG_INFO.ADDR_HI a))
    (hLOG_LOG_INFO_ARRAY : ∀ a, km.fld (R.LOG.LOG_INFO.ARRAY a))
    (hLOG_LOG_INFO_BYTES : ∀ a, km.fld (R.LOG.LOG_INFO.BYTES a))
    (hLOG_LOG_INFO_CHANNEL : ∀ a, km.fld (R.LOG.LOG_INFO.CHANNEL a))
    (hLOG_LOG_INFO_CODE : ∀ a, km.fld (R.LOG.LOG_INFO.CODE a))
    (hLOG_LOG_INFO_PORT : ∀ a, km.fld (R.LOG.LOG_INFO.PORT a))
    (hLOG_LOG_INFO_SRAM : ∀ a, km.fld (R.LOG.LOG_INFO.SRAM a))
    (hLOG_LOG_TIME_HI_NS : ∀ a, km.fld (R.LOG.LOG_TIME_HI.NS a))
    (hLOG_LOG_TIME_LO_NS : ∀ a, km.fld (R.LOG.LOG_TIME_LO.NS a))
    (hMEM_CH_STAT_FILLED : ∀ a, km.fld (R.MEM.CH_STAT.FILLED a))
    (hMEM_CH_STAT_MIRROR_OK : ∀ a, km.fld (R.MEM.CH_STAT.MIRROR_OK a))
    (hMEM_CH_STAT_STATE : ∀ a, km.fld (R.MEM.CH_STAT.STATE a))
    (hPAR_DRAM_ERR_CNT_COUNT : km.fld R.PAR.DRAM_ERR_CNT.COUNT) (hPAR_LOG_STAT_NEXT : km.fld R.PAR.LOG_STAT.NEXT)
    (hPAR_LOG_STAT_TOTAL : km.fld R.PAR.LOG_STAT.TOTAL) (hPAR_LOG_STAT_WRAPPED : km.fld R.PAR.LOG_STAT.WRAPPED)
    (hPAR_MIRROR_FIX_CNT_COUNT : km.fld R.PAR.MIRROR_FIX_CNT.COUNT)
    (hPG_ERR_ADDR_HI : ∀ a, km.fld (R.PG.ERR_ADDR_HI a)) (hPG_ERR_ADDR_LO : ∀ a, km.fld (R.PG.ERR_ADDR_LO a))
    (hPG_ERR_CODE : ∀ a, km.fld (R.PG.ERR_CODE a)) (hPG_ERR_COUNT : ∀ a, km.fld (R.PG.ERR_COUNT a))
    (hPG_ERR_OVERFLOW : ∀ a, km.fld (R.PG.ERR_OVERFLOW a)) (hPG_ERR_SOURCE : ∀ a, km.fld (R.PG.ERR_SOURCE a))
    (hPG_ERR_VALID : ∀ a, km.fld (R.PG.ERR_VALID a)) (hPG_EVT_PEND : ∀ a, km.fld (R.PG.EVT_PEND a))
    (hTIM_DOM_OFFSET_OFFSET : ∀ a, km.fld (R.TIM.DOM_OFFSET.OFFSET a))
    (hTIM_DOM_RATE_RATE : ∀ a, km.fld (R.TIM.DOM_RATE.RATE a)) (s : State) (o n : Nat) (hs : s.Keeps km pq) : (State.aperRead s o n).1.Keeps km pq := by
  unfold State.aperRead
  repeat' first
    | with_reducible assumption
    | with_reducible exact hLOG_LOG_ADDR_LO_ADDR _
    | with_reducible exact hLOG_LOG_INFO_ADDR_HI _
    | with_reducible exact hLOG_LOG_INFO_ARRAY _
    | with_reducible exact hLOG_LOG_INFO_BYTES _
    | with_reducible exact hLOG_LOG_INFO_CHANNEL _
    | with_reducible exact hLOG_LOG_INFO_CODE _
    | with_reducible exact hLOG_LOG_INFO_PORT _
    | with_reducible exact hLOG_LOG_INFO_SRAM _
    | with_reducible exact hLOG_LOG_TIME_HI_NS _
    | with_reducible exact hLOG_LOG_TIME_LO_NS _
    | with_reducible exact hMEM_CH_STAT_FILLED _
    | with_reducible exact hMEM_CH_STAT_MIRROR_OK _
    | with_reducible exact hMEM_CH_STAT_STATE _
    | with_reducible exact hPG_ERR_ADDR_HI _
    | with_reducible exact hPG_ERR_ADDR_LO _
    | with_reducible exact hPG_ERR_CODE _
    | with_reducible exact hPG_ERR_COUNT _
    | with_reducible exact hPG_ERR_OVERFLOW _
    | with_reducible exact hPG_ERR_SOURCE _
    | with_reducible exact hPG_ERR_VALID _
    | with_reducible exact hPG_EVT_PEND _
    | with_reducible exact hTIM_DOM_OFFSET_OFFSET _
    | with_reducible exact hTIM_DOM_RATE_RATE _
    | ((try lift_lets -underBinder); intro x; refine Keep.use (k := km) (q := pq) (s := x) ?_ ?_; (on_goal 1 => dsimp -zeta only [x]); (on_goal 2 => clear_value x; intro _))
    | ((try lift_lets -underBinder); intro x; refine Keep.usePair (k := km) (q := pq) (p := x) ?_ ?_; (on_goal 1 => dsimp -zeta only [x]); (on_goal 2 => clear_value x; intro _))
    | ((try lift_lets -underBinder); intro x; refine Keep.memSt (x := x) ?_; subst x)
    | ((try lift_lets -underBinder); intro x; refine Keep.depSt (x := x) ?_; subst x)
    | ((try lift_lets -underBinder); intro x; clear_value x)
    | (intro _)
    | with_reducible apply Keep.ite
    | with_reducible apply Keep.ite1
    | dsimp -zeta only
    | with_reducible apply State.bankRead_good
    | with_reducible apply State.dramBytes_good

theorem State.aperWrite_good (out : km.part .out) (mem : km.part .mem) (dram : km.part .dram)
    (hCOR_APER_REFUSED_COUNT : km.fld R.COR.APER_REFUSED.COUNT)
    (hLOG_LOG_ADDR_LO_ADDR : ∀ a, km.fld (R.LOG.LOG_ADDR_LO.ADDR a))
    (hLOG_LOG_INFO_ADDR_HI : ∀ a, km.fld (R.LOG.LOG_INFO.ADDR_HI a))
    (hLOG_LOG_INFO_ARRAY : ∀ a, km.fld (R.LOG.LOG_INFO.ARRAY a))
    (hLOG_LOG_INFO_BYTES : ∀ a, km.fld (R.LOG.LOG_INFO.BYTES a))
    (hLOG_LOG_INFO_CHANNEL : ∀ a, km.fld (R.LOG.LOG_INFO.CHANNEL a))
    (hLOG_LOG_INFO_CODE : ∀ a, km.fld (R.LOG.LOG_INFO.CODE a))
    (hLOG_LOG_INFO_PORT : ∀ a, km.fld (R.LOG.LOG_INFO.PORT a))
    (hLOG_LOG_INFO_SRAM : ∀ a, km.fld (R.LOG.LOG_INFO.SRAM a))
    (hLOG_LOG_TIME_HI_NS : ∀ a, km.fld (R.LOG.LOG_TIME_HI.NS a))
    (hLOG_LOG_TIME_LO_NS : ∀ a, km.fld (R.LOG.LOG_TIME_LO.NS a))
    (hPAR_CHK_CTRL_INJ_ARM : km.fld R.PAR.CHK_CTRL.INJ_ARM) (hPAR_LOG_STAT_NEXT : km.fld R.PAR.LOG_STAT.NEXT)
    (hPAR_LOG_STAT_TOTAL : km.fld R.PAR.LOG_STAT.TOTAL) (hPAR_LOG_STAT_WRAPPED : km.fld R.PAR.LOG_STAT.WRAPPED)
    (hPG_ERR_ADDR_HI : ∀ a, km.fld (R.PG.ERR_ADDR_HI a)) (hPG_ERR_ADDR_LO : ∀ a, km.fld (R.PG.ERR_ADDR_LO a))
    (hPG_ERR_CODE : ∀ a, km.fld (R.PG.ERR_CODE a)) (hPG_ERR_COUNT : ∀ a, km.fld (R.PG.ERR_COUNT a))
    (hPG_ERR_OVERFLOW : ∀ a, km.fld (R.PG.ERR_OVERFLOW a)) (hPG_ERR_SOURCE : ∀ a, km.fld (R.PG.ERR_SOURCE a))
    (hPG_ERR_VALID : ∀ a, km.fld (R.PG.ERR_VALID a)) (hPG_EVT_PEND : ∀ a, km.fld (R.PG.EVT_PEND a)) (s : State)
    (o n v : Nat) (hs : s.Keeps km pq) : (State.aperWrite s o n v).Keeps km pq := by
  unfold State.aperWrite
  repeat' first
    | with_reducible assumption
    | with_reducible exact hLOG_LOG_ADDR_LO_ADDR _
    | with_reducible exact hLOG_LOG_INFO_ADDR_HI _
    | with_reducible exact hLOG_LOG_INFO_ARRAY _
    | with_reducible exact hLOG_LOG_INFO_BYTES _
    | with_reducible exact hLOG_LOG_INFO_CHANNEL _
    | with_reducible exact hLOG_LOG_INFO_CODE _
    | with_reducible exact hLOG_LOG_INFO_PORT _
    | with_reducible exact hLOG_LOG_INFO_SRAM _
    | with_reducible exact hLOG_LOG_TIME_HI_NS _
    | with_reducible exact hLOG_LOG_TIME_LO_NS _
    | with_reducible exact hPG_ERR_ADDR_HI _
    | with_reducible exact hPG_ERR_ADDR_LO _
    | with_reducible exact hPG_ERR_CODE _
    | with_reducible exact hPG_ERR_COUNT _
    | with_reducible exact hPG_ERR_OVERFLOW _
    | with_reducible exact hPG_ERR_SOURCE _
    | with_reducible exact hPG_ERR_VALID _
    | with_reducible exact hPG_EVT_PEND _
    | ((try lift_lets -underBinder); intro x; refine Keep.use (k := km) (q := pq) (s := x) ?_ ?_; (on_goal 1 => dsimp -zeta only [x]); (on_goal 2 => clear_value x; intro _))
    | ((try lift_lets -underBinder); intro x; refine Keep.usePair (k := km) (q := pq) (p := x) ?_ ?_; (on_goal 1 => dsimp -zeta only [x]); (on_goal 2 => clear_value x; intro _))
    | ((try lift_lets -underBinder); intro x; refine Keep.memSt (x := x) ?_; subst x)
    | ((try lift_lets -underBinder); intro x; refine Keep.depSt (x := x) ?_; subst x)
    | ((try lift_lets -underBinder); intro x; clear_value x)
    | (intro _)
    | with_reducible apply Keep.ite
    | with_reducible apply State.err_good
    | with_reducible apply State.count_good
    | with_reducible apply State.ev_good
    | with_reducible apply State.dramWrite_good

end Sys2Proof.Machine
end

