-- ==== Sys2Proof/Laws/KeepsRails.lean ====
section
/-!
SUPPORT. Every function of Machine/Rails.lean changes what the hypotheses of its lemma name, and nothing else.
-/
namespace Sys2Proof.Machine
set_option Elab.async false
set_option linter.unusedVariables false
set_option linter.unusedTactic false
set_option linter.unreachableTactic false

variable {km : May} {pq : State}

theorem State.putBit_good (s : State) (f : Fld) (k : Nat) (b : Bool) (hf : km.fld f) (hs : s.Keeps km pq) : (State.putBit s f k b).Keeps km pq := by
  unfold State.putBit
  repeat' first
    | with_reducible assumption
    | ((try lift_lets -underBinder); intro x; refine Keep.use (k := km) (q := pq) (s := x) ?_ ?_; (on_goal 1 => dsimp -zeta only [x]); (on_goal 2 => clear_value x; intro _))
    | ((try lift_lets -underBinder); intro x; refine Keep.usePair (k := km) (q := pq) (p := x) ?_ ?_; (on_goal 1 => dsimp -zeta only [x]); (on_goal 2 => clear_value x; intro _))
    | ((try lift_lets -underBinder); intro x; refine Keep.memSt (x := x) ?_; subst x)
    | ((try lift_lets -underBinder); intro x; refine Keep.depSt (x := x) ?_; subst x)
    | ((try lift_lets -underBinder); intro x; clear_value x)
    | (intro _)
    | with_reducible apply Keep.ite
    | with_reducible apply State.set_good

theorem State.putBit64_good (s : State) (lo hi : Fld) (k : Nat) (b : Bool) (hlo : km.fld lo) (hhi : km.fld hi)
    (hs : s.Keeps km pq) : (State.putBit64 s lo hi k b).Keeps km pq := by
  unfold State.putBit64
  repeat' first
    | with_reducible assumption
    | (intro _)
    | with_reducible apply Keep.ite
    | with_reducible apply State.putBit_good

theorem State.rejectEv_good (out : km.part .out) (hPG_EVT_PEND : ∀ a, km.fld (R.PG.EVT_PEND a))
    (hRCH_CH_CNT_REJECT : ∀ a, km.fld (R.RCH.CH_CNT.REJECT a)) (s : State) (c : Nat) (hs : s.Keeps km pq) : (State.rejectEv s c).Keeps km pq := by
  unfold State.rejectEv
  repeat' first
    | with_reducible assumption
    | with_reducible exact hPG_EVT_PEND _
    | with_reducible exact hRCH_CH_CNT_REJECT _
    | (intro _)
    | with_reducible apply State.count_good
    | with_reducible apply State.ev_good

theorem State.railReject_good (out : km.part .out) (rai : km.part .rai)
    (hPG_EVT_PEND : ∀ a, km.fld (R.PG.EVT_PEND a)) (hRCH_CH_CNT_REJECT : ∀ a, km.fld (R.RCH.CH_CNT.REJECT a))
    (s : State) (c : Nat) (hs : s.Keeps km pq) : (State.railReject s c).Keeps km pq := by
  unfold State.railReject
  repeat' first
    | with_reducible assumption
    | with_reducible exact hPG_EVT_PEND _
    | with_reducible exact hRCH_CH_CNT_REJECT _
    | ((try lift_lets -underBinder); intro x; refine Keep.use (k := km) (q := pq) (s := x) ?_ ?_; (on_goal 1 => dsimp -zeta only [x]); (on_goal 2 => clear_value x; intro _))
    | ((try lift_lets -underBinder); intro x; refine Keep.usePair (k := km) (q := pq) (p := x) ?_ ?_; (on_goal 1 => dsimp -zeta only [x]); (on_goal 2 => clear_value x; intro _))
    | ((try lift_lets -underBinder); intro x; refine Keep.memSt (x := x) ?_; subst x)
    | ((try lift_lets -underBinder); intro x; refine Keep.depSt (x := x) ?_; subst x)
    | ((try lift_lets -underBinder); intro x; clear_value x)
    | (intro _)
    | with_reducible apply Keep.ite
    | with_reducible apply State.rejectEv_good
    | (simp -zeta only [Keep.mk_iff]; with_reducible refine Keep.upd ?_ rfl ?_; on_goal 2 => (and_intros <;> with_reducible first | exact .inl rfl | exact .inl ⟨rfl, rfl, rfl⟩ | exact .inr ‹_› | exact Nat.le_refl _ | exact Nat.le_add_right _ _))

theorem State.railRejectNext_good (out : km.part .out) (rai : km.part .rai)
    (hPG_EVT_PEND : ∀ a, km.fld (R.PG.EVT_PEND a)) (hRCH_CH_CNT_REJECT : ∀ a, km.fld (R.RCH.CH_CNT.REJECT a))
    (s : State) (c : Nat) (hs : s.Keeps km pq) : (State.railRejectNext s c).Keeps km pq := by
  unfold State.railRejectNext
  repeat' first
    | with_reducible assumption
    | with_reducible exact hPG_EVT_PEND _
    | with_reducible exact hRCH_CH_CNT_REJECT _
    | ((try lift_lets -underBinder); intro x; refine Keep.use (k := km) (q := pq) (s := x) ?_ ?_; (on_goal 1 => dsimp -zeta only [x]); (on_goal 2 => clear_value x; intro _))
    | ((try lift_lets -underBinder); intro x; refine Keep.usePair (k := km) (q := pq) (p := x) ?_ ?_; (on_goal 1 => dsimp -zeta only [x]); (on_goal 2 => clear_value x; intro _))
    | ((try lift_lets -underBinder); intro x; refine Keep.memSt (x := x) ?_; subst x)
    | ((try lift_lets -underBinder); intro x; refine Keep.depSt (x := x) ?_; subst x)
    | ((try lift_lets -underBinder); intro x; clear_value x)
    | (intro _)
    | with_reducible apply Keep.ite
    | with_reducible apply State.rejectEv_good
    | (simp -zeta only [Keep.mk_iff]; with_reducible refine Keep.upd ?_ rfl ?_; on_goal 2 => (and_intros <;> with_reducible first | exact .inl rfl | exact .inl ⟨rfl, rfl, rfl⟩ | exact .inr ‹_› | exact Nat.le_refl _ | exact Nat.le_add_right _ _))

theorem State.showRail_good (hRCH_CH_STAT_AT_TARGET : ∀ a, km.fld (R.RCH.CH_STAT.AT_TARGET a))
    (hRCH_CH_TARGET_FLOOR : ∀ a, km.fld (R.RCH.CH_TARGET.FLOOR a))
    (hRCH_CH_TARGET_NEXT : ∀ a, km.fld (R.RCH.CH_TARGET.NEXT a)) (s : State) (c : Nat) (hs : s.Keeps km pq) : (State.showRail s c).Keeps km pq := by
  unfold State.showRail
  repeat' first
    | with_reducible assumption
    | with_reducible exact hRCH_CH_STAT_AT_TARGET _
    | with_reducible exact hRCH_CH_TARGET_FLOOR _
    | with_reducible exact hRCH_CH_TARGET_NEXT _
    | ((try lift_lets -underBinder); intro x; refine Keep.use (k := km) (q := pq) (s := x) ?_ ?_; (on_goal 1 => dsimp -zeta only [x]); (on_goal 2 => clear_value x; intro _))
    | ((try lift_lets -underBinder); intro x; refine Keep.usePair (k := km) (q := pq) (p := x) ?_ ?_; (on_goal 1 => dsimp -zeta only [x]); (on_goal 2 => clear_value x; intro _))
    | ((try lift_lets -underBinder); intro x; refine Keep.memSt (x := x) ?_; subst x)
    | ((try lift_lets -underBinder); intro x; refine Keep.depSt (x := x) ?_; subst x)
    | ((try lift_lets -underBinder); intro x; clear_value x)
    | (intro _)
    | with_reducible apply Keep.ite
    | with_reducible apply State.set_good

theorem State.setRailCur_good (out : km.part .out) (rai : km.part .rai)
    (hPG_EVT_PEND : ∀ a, km.fld (R.PG.EVT_PEND a)) (hRCH_CH_CNT_REJECT : ∀ a, km.fld (R.RCH.CH_CNT.REJECT a))
    (hRCH_CH_STAT_AT_TARGET : ∀ a, km.fld (R.RCH.CH_STAT.AT_TARGET a))
    (hRCH_CH_STAT_CLAMPED : ∀ a, km.fld (R.RCH.CH_STAT.CLAMPED a))
    (hRCH_CH_TARGET_FLOOR : ∀ a, km.fld (R.RCH.CH_TARGET.FLOOR a))
    (hRCH_CH_TARGET_NEXT : ∀ a, km.fld (R.RCH.CH_TARGET.NEXT a)) (s : State) (c t : Nat) (hs : s.Keeps km pq) : (State.setRailCur s c t).Keeps km pq := by
  unfold State.setRailCur
  repeat' first
    | with_reducible assumption
    | with_reducible exact hPG_EVT_PEND _
    | with_reducible exact hRCH_CH_CNT_REJECT _
    | with_reducible exact hRCH_CH_STAT_AT_TARGET _
    | with_reducible exact hRCH_CH_STAT_CLAMPED _
    | with_reducible exact hRCH_CH_TARGET_FLOOR _
    | with_reducible exact hRCH_CH_TARGET_NEXT _
    | ((try lift_lets -underBinder); intro x; refine Keep.use (k := km) (q := pq) (s := x) ?_ ?_; (on_goal 1 => dsimp -zeta only [x]); (on_goal 2 => clear_value x; intro _))
    | ((try lift_lets -underBinder); intro x; refine Keep.usePair (k := km) (q := pq) (p := x) ?_ ?_; (on_goal 1 => dsimp -zeta only [x]); (on_goal 2 => clear_value x; intro _))
    | ((try lift_lets -underBinder); intro x; refine Keep.memSt (x := x) ?_; subst x)
    | ((try lift_lets -underBinder); intro x; refine Keep.depSt (x := x) ?_; subst x)
    | ((try lift_lets -underBinder); intro x; clear_value x)
    | (intro _)
    | with_reducible apply Keep.ite
    | with_reducible apply Keep.ite1
    | dsimp -zeta only
    | with_reducible apply State.set_good
    | with_reducible apply State.railReject_good
    | with_reducible apply State.showRail_good
    | split
    | with_reducible refine Keep.fst (by assumption) ?_
    | (simp -zeta only [Keep.mk_iff]; with_reducible refine Keep.upd ?_ rfl ?_; on_goal 2 => (and_intros <;> with_reducible first | exact .inl rfl | exact .inl ⟨rfl, rfl, rfl⟩ | exact .inr ‹_› | exact Nat.le_refl _ | exact Nat.le_add_right _ _))

theorem State.setRailNext_good (out : km.part .out) (rai : km.part .rai)
    (hPG_EVT_PEND : ∀ a, km.fld (R.PG.EVT_PEND a)) (hRCH_CH_CNT_REJECT : ∀ a, km.fld (R.RCH.CH_CNT.REJECT a))
    (hRCH_CH_STAT_AT_TARGET : ∀ a, km.fld (R.RCH.CH_STAT.AT_TARGET a))
    (hRCH_CH_TARGET_FLOOR : ∀ a, km.fld (R.RCH.CH_TARGET.FLOOR a))
    (hRCH_CH_TARGET_NEXT : ∀ a, km.fld (R.RCH.CH_TARGET.NEXT a)) (s : State) (c d : Nat) (hs : s.Keeps km pq) : (State.setRailNext s c d).Keeps km pq := by
  unfold State.setRailNext
  repeat' first
    | with_reducible assumption
    | with_reducible exact hPG_EVT_PEND _
    | with_reducible exact hRCH_CH_CNT_REJECT _
    | with_reducible exact hRCH_CH_STAT_AT_TARGET _
    | with_reducible exact hRCH_CH_TARGET_FLOOR _
    | with_reducible exact hRCH_CH_TARGET_NEXT _
    | ((try lift_lets -underBinder); intro x; refine Keep.use (k := km) (q := pq) (s := x) ?_ ?_; (on_goal 1 => dsimp -zeta only [x]); (on_goal 2 => clear_value x; intro _))
    | ((try lift_lets -underBinder); intro x; refine Keep.usePair (k := km) (q := pq) (p := x) ?_ ?_; (on_goal 1 => dsimp -zeta only [x]); (on_goal 2 => clear_value x; intro _))
    | ((try lift_lets -underBinder); intro x; refine Keep.memSt (x := x) ?_; subst x)
    | ((try lift_lets -underBinder); intro x; refine Keep.depSt (x := x) ?_; subst x)
    | ((try lift_lets -underBinder); intro x; clear_value x)
    | (intro _)
    | with_reducible apply Keep.ite
    | with_reducible apply Keep.ite1
    | dsimp -zeta only
    | with_reducible apply State.railRejectNext_good
    | with_reducible apply State.showRail_good
    | split
    | with_reducible refine Keep.fst (by assumption) ?_
    | (simp -zeta only [Keep.mk_iff]; with_reducible refine Keep.upd ?_ rfl ?_; on_goal 2 => (and_intros <;> with_reducible first | exact .inl rfl | exact .inl ⟨rfl, rfl, rfl⟩ | exact .inr ‹_› | exact Nat.le_refl _ | exact Nat.le_add_right _ _))

theorem State.setRail_good (hRAI_RAI_READY_READY : km.fld R.RAI.RAI_READY.READY)
    (hRCH_CH_STAT_STATE : ∀ a, km.fld (R.RCH.CH_STAT.STATE a)) (s : State) (c st : Nat) (hs : s.Keeps km pq) : (State.setRail s c st).Keeps km pq := by
  unfold State.setRail
  repeat' first
    | with_reducible assumption
    | with_reducible exact hRCH_CH_STAT_STATE _
    | (intro _)
    | with_reducible apply State.set_good
    | with_reducible apply State.putBit_good

theorem State.startDischarge_good (tim : km.part .tim) (rai : km.part .rai)
    (hTIM_DOM_OFFSET_OFFSET : ∀ a, km.fld (R.TIM.DOM_OFFSET.OFFSET a))
    (hTIM_DOM_RATE_RATE : ∀ a, km.fld (R.TIM.DOM_RATE.RATE a)) (s : State) (c : Nat) (hs : s.Keeps km pq) : (State.startDischarge s c).Keeps km pq := by
  unfold State.startDischarge
  repeat' first
    | with_reducible assumption
    | with_reducible exact hTIM_DOM_OFFSET_OFFSET _
    | with_reducible exact hTIM_DOM_RATE_RATE _
    | ((try lift_lets -underBinder); intro x; refine Keep.use (k := km) (q := pq) (s := x) ?_ ?_; (on_goal 1 => dsimp -zeta only [x]); (on_goal 2 => clear_value x; intro _))
    | ((try lift_lets -underBinder); intro x; refine Keep.usePair (k := km) (q := pq) (p := x) ?_ ?_; (on_goal 1 => dsimp -zeta only [x]); (on_goal 2 => clear_value x; intro _))
    | ((try lift_lets -underBinder); intro x; refine Keep.memSt (x := x) ?_; subst x)
    | ((try lift_lets -underBinder); intro x; refine Keep.depSt (x := x) ?_; subst x)
    | ((try lift_lets -underBinder); intro x; clear_value x)
    | (intro _)
    | with_reducible apply State.filter_good
    | (simp -zeta only [Keep.mk_iff]; with_reducible refine Keep.upd ?_ rfl ?_; on_goal 2 => (and_intros <;> with_reducible first | exact .inl rfl | exact .inl ⟨rfl, rfl, rfl⟩ | exact .inr ‹_› | exact Nat.le_refl _ | exact Nat.le_add_right _ _))

theorem State.railAim_good (out : km.part .out) (rai : km.part .rai) (hPG_EVT_PEND : ∀ a, km.fld (R.PG.EVT_PEND a))
    (hRCH_CH_CNT_REJECT : ∀ a, km.fld (R.RCH.CH_CNT.REJECT a))
    (hRCH_CH_STAT_AT_TARGET : ∀ a, km.fld (R.RCH.CH_STAT.AT_TARGET a))
    (hRCH_CH_STAT_CLAMPED : ∀ a, km.fld (R.RCH.CH_STAT.CLAMPED a))
    (hRCH_CH_TARGET_FLOOR : ∀ a, km.fld (R.RCH.CH_TARGET.FLOOR a))
    (hRCH_CH_TARGET_NEXT : ∀ a, km.fld (R.RCH.CH_TARGET.NEXT a)) (s : State) (c : Nat) (hs : s.Keeps km pq) : (State.railAim s c).Keeps km pq := by
  unfold State.railAim
  repeat' first
    | with_reducible assumption
    | with_reducible exact hPG_EVT_PEND _
    | with_reducible exact hRCH_CH_CNT_REJECT _
    | with_reducible exact hRCH_CH_STAT_AT_TARGET _
    | with_reducible exact hRCH_CH_STAT_CLAMPED _
    | with_reducible exact hRCH_CH_TARGET_FLOOR _
    | with_reducible exact hRCH_CH_TARGET_NEXT _
    | ((try lift_lets -underBinder); intro x; refine Keep.use (k := km) (q := pq) (s := x) ?_ ?_; (on_goal 1 => dsimp -zeta only [x]); (on_goal 2 => clear_value x; intro _))
    | ((try lift_lets -underBinder); intro x; refine Keep.usePair (k := km) (q := pq) (p := x) ?_ ?_; (on_goal 1 => dsimp -zeta only [x]); (on_goal 2 => clear_value x; intro _))
    | ((try lift_lets -underBinder); intro x; refine Keep.memSt (x := x) ?_; subst x)
    | ((try lift_lets -underBinder); intro x; refine Keep.depSt (x := x) ?_; subst x)
    | ((try lift_lets -underBinder); intro x; clear_value x)
    | (intro _)
    | with_reducible apply Keep.ite
    | with_reducible apply State.setRailCur_good
    | with_reducible apply State.setRailNext_good

theorem State.railEval_good (out : km.part .out) (tim : km.part .tim) (rai : km.part .rai)
    (hPG_EVT_PEND : ∀ a, km.fld (R.PG.EVT_PEND a)) (hRAI_RAI_READY_READY : km.fld R.RAI.RAI_READY.READY)
    (hRCH_CH_CNT_REJECT : ∀ a, km.fld (R.RCH.CH_CNT.REJECT a))
    (hRCH_CH_STAT_AT_TARGET : ∀ a, km.fld (R.RCH.CH_STAT.AT_TARGET a))
    (hRCH_CH_STAT_CLAMPED : ∀ a, km.fld (R.RCH.CH_STAT.CLAMPED a))
    (hRCH_CH_STAT_DISCHARGED : ∀ a, km.fld (R.RCH.CH_STAT.DISCHARGED a))
    (hRCH_CH_STAT_SET_NOW : ∀ a, km.fld (R.RCH.CH_STAT.SET_NOW a))
    (hRCH_CH_STAT_STATE : ∀ a, km.fld (R.RCH.CH_STAT.STATE a))
    (hRCH_CH_TARGET_FLOOR : ∀ a, km.fld (R.RCH.CH_TARGET.FLOOR a))
    (hRCH_CH_TARGET_NEXT : ∀ a, km.fld (R.RCH.CH_TARGET.NEXT a))
    (hTIM_DOM_OFFSET_OFFSET : ∀ a, km.fld (R.TIM.DOM_OFFSET.OFFSET a))
    (hTIM_DOM_RATE_RATE : ∀ a, km.fld (R.TIM.DOM_RATE.RATE a)) (s : State) (c : Nat) (hs : s.Keeps km pq) : (State.railEval s c).Keeps km pq := by
  unfold State.railEval
  repeat' first
    | with_reducible assumption
    | with_reducible exact hPG_EVT_PEND _
    | with_reducible exact hRCH_CH_CNT_REJECT _
    | with_reducible exact hRCH_CH_STAT_AT_TARGET _
    | with_reducible exact hRCH_CH_STAT_CLAMPED _
    | with_reducible exact hRCH_CH_STAT_DISCHARGED _
    | with_reducible exact hRCH_CH_STAT_SET_NOW _
    | with_reducible exact hRCH_CH_STAT_STATE _
    | with_reducible exact hRCH_CH_TARGET_FLOOR _
    | with_reducible exact hRCH_CH_TARGET_NEXT _
    | with_reducible exact hTIM_DOM_OFFSET_OFFSET _
    | with_reducible exact hTIM_DOM_RATE_RATE _
    | ((try lift_lets -underBinder); intro x; refine Keep.use (k := km) (q := pq) (s := x) ?_ ?_; (on_goal 1 => dsimp -zeta only [x]); (on_goal 2 => clear_value x; intro _))
    | ((try lift_lets -underBinder); intro x; refine Keep.usePair (k := km) (q := pq) (p := x) ?_ ?_; (on_goal 1 => dsimp -zeta only [x]); (on_goal 2 => clear_value x; intro _))
    | ((try lift_lets -underBinder); intro x; refine Keep.memSt (x := x) ?_; subst x)
    | ((try lift_lets -underBinder); intro x; refine Keep.depSt (x := x) ?_; subst x)
    | ((try lift_lets -underBinder); intro x; clear_value x)
    | (intro _)
    | with_reducible apply Keep.ite
    | with_reducible apply State.setRail_good
    | with_reducible apply State.set_good
    | with_reducible apply State.railAim_good
    | with_reducible apply State.startDischarge_good

theorem State.rampStep_good (hRCH_CH_STAT_AT_TARGET : ∀ a, km.fld (R.RCH.CH_STAT.AT_TARGET a))
    (hRCH_CH_STAT_SET_NOW : ∀ a, km.fld (R.RCH.CH_STAT.SET_NOW a))
    (hRCH_CH_TARGET_FLOOR : ∀ a, km.fld (R.RCH.CH_TARGET.FLOOR a))
    (hRCH_CH_TARGET_NEXT : ∀ a, km.fld (R.RCH.CH_TARGET.NEXT a)) (s : State) (c : Nat) (hs : s.Keeps km pq) : (State.rampStep s c).Keeps km pq := by
  unfold State.rampStep
  repeat' first
    | with_reducible assumption
    | with_reducible exact hRCH_CH_STAT_AT_TARGET _
    | with_reducible exact hRCH_CH_STAT_SET_NOW _
    | with_reducible exact hRCH_CH_TARGET_FLOOR _
    | with_reducible exact hRCH_CH_TARGET_NEXT _
    | ((try lift_lets -underBinder); intro x; refine Keep.use (k := km) (q := pq) (s := x) ?_ ?_; (on_goal 1 => dsimp -zeta only [x]); (on_goal 2 => clear_value x; intro _))
    | ((try lift_lets -underBinder); intro x; refine Keep.usePair (k := km) (q := pq) (p := x) ?_ ?_; (on_goal 1 => dsimp -zeta only [x]); (on_goal 2 => clear_value x; intro _))
    | ((try lift_lets -underBinder); intro x; refine Keep.memSt (x := x) ?_; subst x)
    | ((try lift_lets -underBinder); intro x; refine Keep.depSt (x := x) ?_; subst x)
    | ((try lift_lets -underBinder); intro x; clear_value x)
    | (intro _)
    | with_reducible apply Keep.ite
    | with_reducible apply State.set_good
    | with_reducible apply State.showRail_good

theorem State.raiTake_good (out : km.part .out) (rai : km.part .rai) (hPG_EVT_PEND : ∀ a, km.fld (R.PG.EVT_PEND a))
    (hRCH_CH_CNT_REJECT : ∀ a, km.fld (R.RCH.CH_CNT.REJECT a))
    (hRCH_CH_DMAX_NEXT : ∀ a, km.fld (R.RCH.CH_DMAX.NEXT a))
    (hRCH_CH_STAT_AT_TARGET : ∀ a, km.fld (R.RCH.CH_STAT.AT_TARGET a))
    (hRCH_CH_TARGET_FLOOR : ∀ a, km.fld (R.RCH.CH_TARGET.FLOOR a))
    (hRCH_CH_TARGET_NEXT : ∀ a, km.fld (R.RCH.CH_TARGET.NEXT a)) (s : State) (maxima : List Nat) (hs : s.Keeps km pq)
    : (State.raiTake s maxima).Keeps km pq := by
  unfold State.raiTake
  repeat' first
    | with_reducible assumption
    | with_reducible exact hPG_EVT_PEND _
    | with_reducible exact hRCH_CH_CNT_REJECT _
    | with_reducible exact hRCH_CH_DMAX_NEXT _
    | with_reducible exact hRCH_CH_STAT_AT_TARGET _
    | with_reducible exact hRCH_CH_TARGET_FLOOR _
    | with_reducible exact hRCH_CH_TARGET_NEXT _
    | ((try lift_lets -underBinder); intro x; refine Keep.use (k := km) (q := pq) (s := x) ?_ ?_; (on_goal 1 => dsimp -zeta only [x]); (on_goal 2 => clear_value x; intro _))
    | ((try lift_lets -underBinder); intro x; refine Keep.usePair (k := km) (q := pq) (p := x) ?_ ?_; (on_goal 1 => dsimp -zeta only [x]); (on_goal 2 => clear_value x; intro _))
    | ((try lift_lets -underBinder); intro x; refine Keep.memSt (x := x) ?_; subst x)
    | ((try lift_lets -underBinder); intro x; refine Keep.depSt (x := x) ?_; subst x)
    | ((try lift_lets -underBinder); intro x; clear_value x)
    | (intro _)
    | with_reducible apply Keep.ite
    | with_reducible apply State.forN_good
    | with_reducible apply State.set_good
    | with_reducible apply State.setRailNext_good
    | (simp -zeta only [Keep.mk_iff]; with_reducible refine Keep.upd ?_ rfl ?_; on_goal 2 => (and_intros <;> with_reducible first | exact .inl rfl | exact .inl ⟨rfl, rfl, rfl⟩ | exact .inr ‹_› | exact Nat.le_refl _ | exact Nat.le_add_right _ _))

theorem State.raiShows_good (out : km.part .out) (rai : km.part .rai) (hPG_EVT_PEND : ∀ a, km.fld (R.PG.EVT_PEND a))
    (hRCH_CH_CNT_REJECT : ∀ a, km.fld (R.RCH.CH_CNT.REJECT a)) (hRCH_CH_DMAX_CUR : ∀ a, km.fld (R.RCH.CH_DMAX.CUR a))
    (hRCH_CH_STAT_AT_TARGET : ∀ a, km.fld (R.RCH.CH_STAT.AT_TARGET a))
    (hRCH_CH_STAT_CLAMPED : ∀ a, km.fld (R.RCH.CH_STAT.CLAMPED a))
    (hRCH_CH_TARGET_FLOOR : ∀ a, km.fld (R.RCH.CH_TARGET.FLOOR a))
    (hRCH_CH_TARGET_NEXT : ∀ a, km.fld (R.RCH.CH_TARGET.NEXT a)) (s : State) (d : List Nat) (hs : s.Keeps km pq) : (State.raiShows s d).Keeps km pq := by
  unfold State.raiShows
  repeat' first
    | with_reducible assumption
    | with_reducible exact hPG_EVT_PEND _
    | with_reducible exact hRCH_CH_CNT_REJECT _
    | with_reducible exact hRCH_CH_DMAX_CUR _
    | with_reducible exact hRCH_CH_STAT_AT_TARGET _
    | with_reducible exact hRCH_CH_STAT_CLAMPED _
    | with_reducible exact hRCH_CH_TARGET_FLOOR _
    | with_reducible exact hRCH_CH_TARGET_NEXT _
    | ((try lift_lets -underBinder); intro x; refine Keep.use (k := km) (q := pq) (s := x) ?_ ?_; (on_goal 1 => dsimp -zeta only [x]); (on_goal 2 => clear_value x; intro _))
    | ((try lift_lets -underBinder); intro x; refine Keep.usePair (k := km) (q := pq) (p := x) ?_ ?_; (on_goal 1 => dsimp -zeta only [x]); (on_goal 2 => clear_value x; intro _))
    | ((try lift_lets -underBinder); intro x; refine Keep.memSt (x := x) ?_; subst x)
    | ((try lift_lets -underBinder); intro x; refine Keep.depSt (x := x) ?_; subst x)
    | ((try lift_lets -underBinder); intro x; clear_value x)
    | (intro _)
    | with_reducible apply Keep.ite
    | with_reducible apply State.forN_good
    | with_reducible apply State.set_good
    | with_reducible apply State.setRailCur_good

theorem State.raiDeparture_good (force : km.part .force) (out : km.part .out) (rai : km.part .rai)
    (hPG_EVT_PEND : ∀ a, km.fld (R.PG.EVT_PEND a)) (hRCH_CH_CNT_RAMP_LATE : ∀ a, km.fld (R.RCH.CH_CNT.RAMP_LATE a))
    (hRCH_CH_CNT_REJECT : ∀ a, km.fld (R.RCH.CH_CNT.REJECT a)) (hRCH_CH_DMAX_CUR : ∀ a, km.fld (R.RCH.CH_DMAX.CUR a))
    (hRCH_CH_STAT_AT_TARGET : ∀ a, km.fld (R.RCH.CH_STAT.AT_TARGET a))
    (hRCH_CH_STAT_CLAMPED : ∀ a, km.fld (R.RCH.CH_STAT.CLAMPED a))
    (hRCH_CH_TARGET_FLOOR : ∀ a, km.fld (R.RCH.CH_TARGET.FLOOR a))
    (hRCH_CH_TARGET_NEXT : ∀ a, km.fld (R.RCH.CH_TARGET.NEXT a)) (s : State) (d : List Nat) (late : Bool)
    (hs : s.Keeps km pq) : (State.raiDeparture s d late).Keeps km pq := by
  unfold State.raiDeparture
  repeat' first
    | with_reducible assumption
    | with_reducible exact hPG_EVT_PEND _
    | with_reducible exact hRCH_CH_CNT_RAMP_LATE _
    | with_reducible exact hRCH_CH_CNT_REJECT _
    | with_reducible exact hRCH_CH_DMAX_CUR _
    | with_reducible exact hRCH_CH_STAT_AT_TARGET _
    | with_reducible exact hRCH_CH_STAT_CLAMPED _
    | with_reducible exact hRCH_CH_TARGET_FLOOR _
    | with_reducible exact hRCH_CH_TARGET_NEXT _
    | ((try lift_lets -underBinder); intro x; refine Keep.use (k := km) (q := pq) (s := x) ?_ ?_; (on_goal 1 => dsimp -zeta only [x]); (on_goal 2 => clear_value x; intro _))
    | ((try lift_lets -underBinder); intro x; refine Keep.usePair (k := km) (q := pq) (p := x) ?_ ?_; (on_goal 1 => dsimp -zeta only [x]); (on_goal 2 => clear_value x; intro _))
    | ((try lift_lets -underBinder); intro x; refine Keep.memSt (x := x) ?_; subst x)
    | ((try lift_lets -underBinder); intro x; refine Keep.depSt (x := x) ?_; subst x)
    | ((try lift_lets -underBinder); intro x; clear_value x)
    | (intro _)
    | with_reducible apply Keep.ite
    | with_reducible apply State.forN_good
    | with_reducible apply State.setCur_good
    | with_reducible apply State.raiShows_good
    | with_reducible apply State.count_good
    | with_reducible apply State.ev_good
    | (simp -zeta only [Keep.mk_iff]; with_reducible refine Keep.upd ?_ rfl ?_; on_goal 2 => (and_intros <;> with_reducible first | exact .inl rfl | exact .inl ⟨rfl, rfl, rfl⟩ | exact .inr ‹_› | exact Nat.le_refl _ | exact Nat.le_add_right _ _))

theorem State.railStep_good (out : km.part .out) (tim : km.part .tim) (rai : km.part .rai)
    (hPG_EVT_PEND : ∀ a, km.fld (R.PG.EVT_PEND a)) (hRCH_CH_CNT_REJECT : ∀ a, km.fld (R.RCH.CH_CNT.REJECT a))
    (hRCH_CH_STAT_AT_TARGET : ∀ a, km.fld (R.RCH.CH_STAT.AT_TARGET a))
    (hRCH_CH_STAT_CLAMPED : ∀ a, km.fld (R.RCH.CH_STAT.CLAMPED a))
    (hRCH_CH_TARGET_FLOOR : ∀ a, km.fld (R.RCH.CH_TARGET.FLOOR a))
    (hRCH_CH_TARGET_NEXT : ∀ a, km.fld (R.RCH.CH_TARGET.NEXT a))
    (hTIM_DOM_OFFSET_OFFSET : ∀ a, km.fld (R.TIM.DOM_OFFSET.OFFSET a))
    (hTIM_DOM_RATE_RATE : ∀ a, km.fld (R.TIM.DOM_RATE.RATE a)) (s : State) (mask : Nat) (hs : s.Keeps km pq) : (State.railStep s mask).Keeps km pq := by
  unfold State.railStep
  repeat' first
    | with_reducible assumption
    | with_reducible exact hPG_EVT_PEND _
    | with_reducible exact hRCH_CH_CNT_REJECT _
    | with_reducible exact hRCH_CH_STAT_AT_TARGET _
    | with_reducible exact hRCH_CH_STAT_CLAMPED _
    | with_reducible exact hRCH_CH_TARGET_FLOOR _
    | with_reducible exact hRCH_CH_TARGET_NEXT _
    | with_reducible exact hTIM_DOM_OFFSET_OFFSET _
    | with_reducible exact hTIM_DOM_RATE_RATE _
    | ((try lift_lets -underBinder); intro x; refine Keep.use (k := km) (q := pq) (s := x) ?_ ?_; (on_goal 1 => dsimp -zeta only [x]); (on_goal 2 => clear_value x; intro _))
    | ((try lift_lets -underBinder); intro x; refine Keep.usePair (k := km) (q := pq) (p := x) ?_ ?_; (on_goal 1 => dsimp -zeta only [x]); (on_goal 2 => clear_value x; intro _))
    | ((try lift_lets -underBinder); intro x; refine Keep.memSt (x := x) ?_; subst x)
    | ((try lift_lets -underBinder); intro x; refine Keep.depSt (x := x) ?_; subst x)
    | ((try lift_lets -underBinder); intro x; clear_value x)
    | (intro _)
    | with_reducible apply Keep.ite
    | with_reducible apply State.forN_good
    | with_reducible apply State.filter_good
    | with_reducible apply State.setRailCur_good
    | with_reducible apply State.ev_good
    | (simp -zeta only [Keep.mk_iff]; with_reducible refine Keep.upd ?_ rfl ?_; on_goal 2 => (and_intros <;> with_reducible first | exact .inl rfl | exact .inl ⟨rfl, rfl, rfl⟩ | exact .inr ‹_› | exact Nat.le_refl _ | exact Nat.le_add_right _ _))

theorem State.raiCommitted_good (out : km.part .out) (tim : km.part .tim) (rai : km.part .rai)
    (hPG_EVT_PEND : ∀ a, km.fld (R.PG.EVT_PEND a)) (hRAI_RAI_READY_READY : km.fld R.RAI.RAI_READY.READY)
    (hRCH_CH_CNT_REJECT : ∀ a, km.fld (R.RCH.CH_CNT.REJECT a))
    (hRCH_CH_STAT_AT_TARGET : ∀ a, km.fld (R.RCH.CH_STAT.AT_TARGET a))
    (hRCH_CH_STAT_CLAMPED : ∀ a, km.fld (R.RCH.CH_STAT.CLAMPED a))
    (hRCH_CH_STAT_DISCHARGED : ∀ a, km.fld (R.RCH.CH_STAT.DISCHARGED a))
    (hRCH_CH_STAT_SET_NOW : ∀ a, km.fld (R.RCH.CH_STAT.SET_NOW a))
    (hRCH_CH_STAT_STATE : ∀ a, km.fld (R.RCH.CH_STAT.STATE a))
    (hRCH_CH_TARGET_FLOOR : ∀ a, km.fld (R.RCH.CH_TARGET.FLOOR a))
    (hRCH_CH_TARGET_NEXT : ∀ a, km.fld (R.RCH.CH_TARGET.NEXT a))
    (hRCH_CH_VCAP_VCAP : ∀ a, km.fld (R.RCH.CH_VCAP.VCAP a))
    (hTIM_DOM_OFFSET_OFFSET : ∀ a, km.fld (R.TIM.DOM_OFFSET.OFFSET a))
    (hTIM_DOM_RATE_RATE : ∀ a, km.fld (R.TIM.DOM_RATE.RATE a)) (s : State) (hs : s.Keeps km pq) : (State.raiCommitted s).Keeps km pq := by
  unfold State.raiCommitted
  repeat' first
    | with_reducible assumption
    | with_reducible exact hPG_EVT_PEND _
    | with_reducible exact hRCH_CH_CNT_REJECT _
    | with_reducible exact hRCH_CH_STAT_AT_TARGET _
    | with_reducible exact hRCH_CH_STAT_CLAMPED _
    | with_reducible exact hRCH_CH_STAT_DISCHARGED _
    | with_reducible exact hRCH_CH_STAT_SET_NOW _
    | with_reducible exact hRCH_CH_STAT_STATE _
    | with_reducible exact hRCH_CH_TARGET_FLOOR _
    | with_reducible exact hRCH_CH_TARGET_NEXT _
    | with_reducible exact hRCH_CH_VCAP_VCAP _
    | with_reducible exact hTIM_DOM_OFFSET_OFFSET _
    | with_reducible exact hTIM_DOM_RATE_RATE _
    | ((try lift_lets -underBinder); intro x; refine Keep.use (k := km) (q := pq) (s := x) ?_ ?_; (on_goal 1 => dsimp -zeta only [x]); (on_goal 2 => clear_value x; intro _))
    | ((try lift_lets -underBinder); intro x; refine Keep.usePair (k := km) (q := pq) (p := x) ?_ ?_; (on_goal 1 => dsimp -zeta only [x]); (on_goal 2 => clear_value x; intro _))
    | ((try lift_lets -underBinder); intro x; refine Keep.memSt (x := x) ?_; subst x)
    | ((try lift_lets -underBinder); intro x; refine Keep.depSt (x := x) ?_; subst x)
    | ((try lift_lets -underBinder); intro x; clear_value x)
    | (intro _)
    | with_reducible apply Keep.ite
    | with_reducible apply State.forN_good
    | with_reducible apply State.set_good
    | with_reducible apply State.railEval_good
    | with_reducible apply State.railAim_good

theorem State.faultCheck_good (out : km.part .out) (tim : km.part .tim) (mem : km.part .mem) (dram : km.part .dram)
    (lfm : km.part .lfm) (line : km.part .line) (hLOG_LOG_ADDR_LO_ADDR : ∀ a, km.fld (R.LOG.LOG_ADDR_LO.ADDR a))
    (hLOG_LOG_INFO_ADDR_HI : ∀ a, km.fld (R.LOG.LOG_INFO.ADDR_HI a))
    (hLOG_LOG_INFO_ARRAY : ∀ a, km.fld (R.LOG.LOG_INFO.ARRAY a))
    (hLOG_LOG_INFO_BYTES : ∀ a, km.fld (R.LOG.LOG_INFO.BYTES a))
    (hLOG_LOG_INFO_CHANNEL : ∀ a, km.fld (R.LOG.LOG_INFO.CHANNEL a))
    (hLOG_LOG_INFO_CODE : ∀ a, km.fld (R.LOG.LOG_INFO.CODE a))
    (hLOG_LOG_INFO_PORT : ∀ a, km.fld (R.LOG.LOG_INFO.PORT a))
    (hLOG_LOG_INFO_SRAM : ∀ a, km.fld (R.LOG.LOG_INFO.SRAM a))
    (hLOG_LOG_TIME_HI_NS : ∀ a, km.fld (R.LOG.LOG_TIME_HI.NS a))
    (hLOG_LOG_TIME_LO_NS : ∀ a, km.fld (R.LOG.LOG_TIME_LO.NS a))
    (hMEM_CH_STAT_FILLED : ∀ a, km.fld (R.MEM.CH_STAT.FILLED a))
    (hMEM_CH_STAT_MIRROR_OK : ∀ a, km.fld (R.MEM.CH_STAT.MIRROR_OK a))
    (hMEM_CH_STAT_STATE : ∀ a, km.fld (R.MEM.CH_STAT.STATE a))
    (hPAR_DRAM_ERR_CNT_COUNT : km.fld R.PAR.DRAM_ERR_CNT.COUNT) (hPAR_LOG_STAT_NEXT : km.fld R.PAR.LOG_STAT.NEXT)
    (hPAR_LOG_STAT_TOTAL : km.fld R.PAR.LOG_STAT.TOTAL) (hPAR_LOG_STAT_WRAPPED : km.fld R.PAR.LOG_STAT.WRAPPED)
    (hPAR_MIRROR_FIX_CNT_COUNT : km.fld R.PAR.MIRROR_FIX_CNT.COUNT)
    (hPG_ERR_ADDR_HI : ∀ a, km.fld (R.PG.ERR_ADDR_HI a)) (hPG_ERR_ADDR_LO : ∀ a, km.fld (R.PG.ERR_ADDR_LO a))
    (hPG_ERR_CODE : ∀ a, km.fld (R.PG.ERR_CODE a)) (hPG_ERR_COUNT : ∀ a, km.fld (R.PG.ERR_COUNT a))
    (hPG_ERR_OVERFLOW : ∀ a, km.fld (R.PG.ERR_OVERFLOW a)) (hPG_ERR_SOURCE : ∀ a, km.fld (R.PG.ERR_SOURCE a))
    (hPG_ERR_VALID : ∀ a, km.fld (R.PG.ERR_VALID a)) (hPG_EVT_PEND : ∀ a, km.fld (R.PG.EVT_PEND a))
    (hPG_POISON_SEEN : ∀ a, km.fld (R.PG.POISON_SEEN a))
    (hTIM_DOM_OFFSET_OFFSET : ∀ a, km.fld (R.TIM.DOM_OFFSET.OFFSET a))
    (hTIM_DOM_RATE_RATE : ∀ a, km.fld (R.TIM.DOM_RATE.RATE a)) (s : State) (i : Nat) (hs : s.Keeps km pq) : (State.faultCheck s i).Keeps km pq := by
  unfold State.faultCheck
  repeat' first
    | with_reducible assumption
    | with_reducible exact hLOG_LOG_ADDR_LO_ADDR _
    | with_reducible exact hLOG_LOG_INFO_ADDR_HI _
    | with_reducible exact hLOG_LOG_INFO_ARRAY _
    | with_reducible exact hLOG_LOG_INFO_BYTES _
    | with_reducible exact hLOG_LOG_INFO_CHANNEL _
    | with_reducible exact hLOG_LOG_INFO_CODE _
    | with_reducible exact hLOG_LOG_INFO_PORT _
    | with_reducible exact hLOG_LOG_INFO_SRAM _
    | with_reducible exact hLOG_LOG_TIME_HI_NS _
    | with_reducible exact hLOG_LOG_TIME_LO_NS _
    | with_reducible exact hMEM_CH_STAT_FILLED _
    | with_reducible exact hMEM_CH_STAT_MIRROR_OK _
    | with_reducible exact hMEM_CH_STAT_STATE _
    | with_reducible exact hPG_ERR_ADDR_HI _
    | with_reducible exact hPG_ERR_ADDR_LO _
    | with_reducible exact hPG_ERR_CODE _
    | with_reducible exact hPG_ERR_COUNT _
    | with_reducible exact hPG_ERR_OVERFLOW _
    | with_reducible exact hPG_ERR_SOURCE _
    | with_reducible exact hPG_ERR_VALID _
    | with_reducible exact hPG_EVT_PEND _
    | with_reducible exact hPG_POISON_SEEN _
    | with_reducible exact hTIM_DOM_OFFSET_OFFSET _
    | with_reducible exact hTIM_DOM_RATE_RATE _
    | ((try lift_lets -underBinder); intro x; refine Keep.use (k := km) (q := pq) (s := x) ?_ ?_; (on_goal 1 => dsimp -zeta only [x]); (on_goal 2 => clear_value x; intro _))
    | ((try lift_lets -underBinder); intro x; refine Keep.usePair (k := km) (q := pq) (p := x) ?_ ?_; (on_goal 1 => dsimp -zeta only [x]); (on_goal 2 => clear_value x; intro _))
    | ((try lift_lets -underBinder); intro x; refine Keep.memSt (x := x) ?_; subst x)
    | ((try lift_lets -underBinder); intro x; refine Keep.depSt (x := x) ?_; subst x)
    | ((try lift_lets -underBinder); intro x; clear_value x)
    | (intro _)
    | with_reducible apply Keep.ite
    | with_reducible apply Keep.ite1
    | dsimp -zeta only
    | with_reducible apply State.dramRead_good
    | with_reducible apply State.filter_good
    | with_reducible apply State.poison_good
    | split
    | with_reducible refine Keep.fst (by assumption) ?_
    | (simp -zeta only [Keep.mk_iff]; with_reducible refine Keep.upd ?_ rfl ?_; on_goal 2 => (and_intros <;> with_reducible first | exact .inl rfl | exact .inl ⟨rfl, rfl, rfl⟩ | exact .inr ‹_› | exact Nat.le_refl _ | exact Nat.le_add_right _ _))

theorem State.faultScan_good (out : km.part .out) (tim : km.part .tim) (mem : km.part .mem) (dram : km.part .dram)
    (lfm : km.part .lfm) (line : km.part .line) (hLOG_LOG_ADDR_LO_ADDR : ∀ a, km.fld (R.LOG.LOG_ADDR_LO.ADDR a))
    (hLOG_LOG_INFO_ADDR_HI : ∀ a, km.fld (R.LOG.LOG_INFO.ADDR_HI a))
    (hLOG_LOG_INFO_ARRAY : ∀ a, km.fld (R.LOG.LOG_INFO.ARRAY a))
    (hLOG_LOG_INFO_BYTES : ∀ a, km.fld (R.LOG.LOG_INFO.BYTES a))
    (hLOG_LOG_INFO_CHANNEL : ∀ a, km.fld (R.LOG.LOG_INFO.CHANNEL a))
    (hLOG_LOG_INFO_CODE : ∀ a, km.fld (R.LOG.LOG_INFO.CODE a))
    (hLOG_LOG_INFO_PORT : ∀ a, km.fld (R.LOG.LOG_INFO.PORT a))
    (hLOG_LOG_INFO_SRAM : ∀ a, km.fld (R.LOG.LOG_INFO.SRAM a))
    (hLOG_LOG_TIME_HI_NS : ∀ a, km.fld (R.LOG.LOG_TIME_HI.NS a))
    (hLOG_LOG_TIME_LO_NS : ∀ a, km.fld (R.LOG.LOG_TIME_LO.NS a))
    (hMEM_CH_STAT_FILLED : ∀ a, km.fld (R.MEM.CH_STAT.FILLED a))
    (hMEM_CH_STAT_MIRROR_OK : ∀ a, km.fld (R.MEM.CH_STAT.MIRROR_OK a))
    (hMEM_CH_STAT_STATE : ∀ a, km.fld (R.MEM.CH_STAT.STATE a))
    (hPAR_DRAM_ERR_CNT_COUNT : km.fld R.PAR.DRAM_ERR_CNT.COUNT) (hPAR_LOG_STAT_NEXT : km.fld R.PAR.LOG_STAT.NEXT)
    (hPAR_LOG_STAT_TOTAL : km.fld R.PAR.LOG_STAT.TOTAL) (hPAR_LOG_STAT_WRAPPED : km.fld R.PAR.LOG_STAT.WRAPPED)
    (hPAR_MIRROR_FIX_CNT_COUNT : km.fld R.PAR.MIRROR_FIX_CNT.COUNT)
    (hPG_ERR_ADDR_HI : ∀ a, km.fld (R.PG.ERR_ADDR_HI a)) (hPG_ERR_ADDR_LO : ∀ a, km.fld (R.PG.ERR_ADDR_LO a))
    (hPG_ERR_CODE : ∀ a, km.fld (R.PG.ERR_CODE a)) (hPG_ERR_COUNT : ∀ a, km.fld (R.PG.ERR_COUNT a))
    (hPG_ERR_OVERFLOW : ∀ a, km.fld (R.PG.ERR_OVERFLOW a)) (hPG_ERR_SOURCE : ∀ a, km.fld (R.PG.ERR_SOURCE a))
    (hPG_ERR_VALID : ∀ a, km.fld (R.PG.ERR_VALID a)) (hPG_EVT_PEND : ∀ a, km.fld (R.PG.EVT_PEND a))
    (hPG_POISON_SEEN : ∀ a, km.fld (R.PG.POISON_SEEN a))
    (hTIM_DOM_OFFSET_OFFSET : ∀ a, km.fld (R.TIM.DOM_OFFSET.OFFSET a))
    (hTIM_DOM_RATE_RATE : ∀ a, km.fld (R.TIM.DOM_RATE.RATE a)) (s : State) (hs : s.Keeps km pq) : (State.faultScan s).Keeps km pq := by
  unfold State.faultScan
  repeat' first
    | with_reducible assumption
    | with_reducible exact hLOG_LOG_ADDR_LO_ADDR _
    | with_reducible exact hLOG_LOG_INFO_ADDR_HI _
    | with_reducible exact hLOG_LOG_INFO_ARRAY _
    | with_reducible exact hLOG_LOG_INFO_BYTES _
    | with_reducible exact hLOG_LOG_INFO_CHANNEL _
    | with_reducible exact hLOG_LOG_INFO_CODE _
    | with_reducible exact hLOG_LOG_INFO_PORT _
    | with_reducible exact hLOG_LOG_INFO_SRAM _
    | with_reducible exact hLOG_LOG_TIME_HI_NS _
    | with_reducible exact hLOG_LOG_TIME_LO_NS _
    | with_reducible exact hMEM_CH_STAT_FILLED _
    | with_reducible exact hMEM_CH_STAT_MIRROR_OK _
    | with_reducible exact hMEM_CH_STAT_STATE _
    | with_reducible exact hPG_ERR_ADDR_HI _
    | with_reducible exact hPG_ERR_ADDR_LO _
    | with_reducible exact hPG_ERR_CODE _
    | with_reducible exact hPG_ERR_COUNT _
    | with_reducible exact hPG_ERR_OVERFLOW _
    | with_reducible exact hPG_ERR_SOURCE _
    | with_reducible exact hPG_ERR_VALID _
    | with_reducible exact hPG_EVT_PEND _
    | with_reducible exact hPG_POISON_SEEN _
    | with_reducible exact hTIM_DOM_OFFSET_OFFSET _
    | with_reducible exact hTIM_DOM_RATE_RATE _
    | ((try lift_lets -underBinder); intro x; refine Keep.use (k := km) (q := pq) (s := x) ?_ ?_; (on_goal 1 => dsimp -zeta only [x]); (on_goal 2 => clear_value x; intro _))
    | ((try lift_lets -underBinder); intro x; refine Keep.usePair (k := km) (q := pq) (p := x) ?_ ?_; (on_goal 1 => dsimp -zeta only [x]); (on_goal 2 => clear_value x; intro _))
    | ((try lift_lets -underBinder); intro x; refine Keep.memSt (x := x) ?_; subst x)
    | ((try lift_lets -underBinder); intro x; refine Keep.depSt (x := x) ?_; subst x)
    | ((try lift_lets -underBinder); intro x; clear_value x)
    | (intro _)
    | with_reducible apply State.filter_good
    | with_reducible apply State.faultCheck_good
    | (simp -zeta only [Keep.mk_iff]; with_reducible refine Keep.upd ?_ rfl ?_; on_goal 2 => (and_intros <;> with_reducible first | exact .inl rfl | exact .inl ⟨rfl, rfl, rfl⟩ | exact .inr ‹_› | exact Nat.le_refl _ | exact Nat.le_add_right _ _))
    | with_reducible apply Keep.foldl

theorem State.changeEntry_good (out : km.part .out) (tim : km.part .tim) (mem : km.part .mem) (dram : km.part .dram)
    (hLOG_LOG_ADDR_LO_ADDR : ∀ a, km.fld (R.LOG.LOG_ADDR_LO.ADDR a))
    (hLOG_LOG_INFO_ADDR_HI : ∀ a, km.fld (R.LOG.LOG_INFO.ADDR_HI a))
    (hLOG_LOG_INFO_ARRAY : ∀ a, km.fld (R.LOG.LOG_INFO.ARRAY a))
    (hLOG_LOG_INFO_BYTES : ∀ a, km.fld (R.LOG.LOG_INFO.BYTES a))
    (hLOG_LOG_INFO_CHANNEL : ∀ a, km.fld (R.LOG.LOG_INFO.CHANNEL a))
    (hLOG_LOG_INFO_CODE : ∀ a, km.fld (R.LOG.LOG_INFO.CODE a))
    (hLOG_LOG_INFO_PORT : ∀ a, km.fld (R.LOG.LOG_INFO.PORT a))
    (hLOG_LOG_INFO_SRAM : ∀ a, km.fld (R.LOG.LOG_INFO.SRAM a))
    (hLOG_LOG_TIME_HI_NS : ∀ a, km.fld (R.LOG.LOG_TIME_HI.NS a))
    (hLOG_LOG_TIME_LO_NS : ∀ a, km.fld (R.LOG.LOG_TIME_LO.NS a))
    (hMEM_CH_STAT_FILLED : ∀ a, km.fld (R.MEM.CH_STAT.FILLED a))
    (hMEM_CH_STAT_MIRROR_OK : ∀ a, km.fld (R.MEM.CH_STAT.MIRROR_OK a))
    (hMEM_CH_STAT_STATE : ∀ a, km.fld (R.MEM.CH_STAT.STATE a))
    (hPAR_CHK_CTRL_INJ_ARM : km.fld R.PAR.CHK_CTRL.INJ_ARM)
    (hPAR_DRAM_ERR_CNT_COUNT : km.fld R.PAR.DRAM_ERR_CNT.COUNT) (hPAR_LOG_STAT_NEXT : km.fld R.PAR.LOG_STAT.NEXT)
    (hPAR_LOG_STAT_TOTAL : km.fld R.PAR.LOG_STAT.TOTAL) (hPAR_LOG_STAT_WRAPPED : km.fld R.PAR.LOG_STAT.WRAPPED)
    (hPAR_MIRROR_FIX_CNT_COUNT : km.fld R.PAR.MIRROR_FIX_CNT.COUNT)
    (hPG_ERR_ADDR_HI : ∀ a, km.fld (R.PG.ERR_ADDR_HI a)) (hPG_ERR_ADDR_LO : ∀ a, km.fld (R.PG.ERR_ADDR_LO a))
    (hPG_ERR_CODE : ∀ a, km.fld (R.PG.ERR_CODE a)) (hPG_ERR_COUNT : ∀ a, km.fld (R.PG.ERR_COUNT a))
    (hPG_ERR_OVERFLOW : ∀ a, km.fld (R.PG.ERR_OVERFLOW a)) (hPG_ERR_SOURCE : ∀ a, km.fld (R.PG.ERR_SOURCE a))
    (hPG_ERR_VALID : ∀ a, km.fld (R.PG.ERR_VALID a)) (hPG_EVT_PEND : ∀ a, km.fld (R.PG.EVT_PEND a))
    (hTIM_DOM_OFFSET_OFFSET : ∀ a, km.fld (R.TIM.DOM_OFFSET.OFFSET a))
    (hTIM_DOM_RATE_RATE : ∀ a, km.fld (R.TIM.DOM_RATE.RATE a)) (s : State) (i : Nat) (f : Nat → Option Nat)
    (hs : s.Keeps km pq) : (State.changeEntry s i f).Keeps km pq := by
  unfold State.changeEntry
  repeat' first
    | with_reducible assumption
    | with_reducible exact hLOG_LOG_ADDR_LO_ADDR _
    | with_reducible exact hLOG_LOG_INFO_ADDR_HI _
    | with_reducible exact hLOG_LOG_INFO_ARRAY _
    | with_reducible exact hLOG_LOG_INFO_BYTES _
    | with_reducible exact hLOG_LOG_INFO_CHANNEL _
    | with_reducible exact hLOG_LOG_INFO_CODE _
    | with_reducible exact hLOG_LOG_INFO_PORT _
    | with_reducible exact hLOG_LOG_INFO_SRAM _
    | with_reducible exact hLOG_LOG_TIME_HI_NS _
    | with_reducible exact hLOG_LOG_TIME_LO_NS _
    | with_reducible exact hMEM_CH_STAT_FILLED _
    | with_reducible exact hMEM_CH_STAT_MIRROR_OK _
    | with_reducible exact hMEM_CH_STAT_STATE _
    | with_reducible exact hPG_ERR_ADDR_HI _
    | with_reducible exact hPG_ERR_ADDR_LO _
    | with_reducible exact hPG_ERR_CODE _
    | with_reducible exact hPG_ERR_COUNT _
    | with_reducible exact hPG_ERR_OVERFLOW _
    | with_reducible exact hPG_ERR_SOURCE _
    | with_reducible exact hPG_ERR_VALID _
    | with_reducible exact hPG_EVT_PEND _
    | with_reducible exact hTIM_DOM_OFFSET_OFFSET _
    | with_reducible exact hTIM_DOM_RATE_RATE _
    | ((try lift_lets -underBinder); intro x; refine Keep.use (k := km) (q := pq) (s := x) ?_ ?_; (on_goal 1 => dsimp -zeta only [x]); (on_goal 2 => clear_value x; intro _))
    | ((try lift_lets -underBinder); intro x; refine Keep.usePair (k := km) (q := pq) (p := x) ?_ ?_; (on_goal 1 => dsimp -zeta only [x]); (on_goal 2 => clear_value x; intro _))
    | ((try lift_lets -underBinder); intro x; refine Keep.memSt (x := x) ?_; subst x)
    | ((try lift_lets -underBinder); intro x; refine Keep.depSt (x := x) ?_; subst x)
    | ((try lift_lets -underBinder); intro x; clear_value x)
    | (intro _)
    | dsimp -zeta only
    | with_reducible apply State.dramRead_good
    | with_reducible apply State.dramWrite_good
    | split

theorem State.showFaults_good (hLFM_FAULT_CNT_COUNT : km.fld R.LFM.FAULT_CNT.COUNT)
    (hLFM_MASK_CNT_COUNT : km.fld R.LFM.MASK_CNT.COUNT) (s : State) (hs : s.Keeps km pq) : (State.showFaults s).Keeps km pq := by
  unfold State.showFaults
  repeat' first
    | with_reducible assumption
    | (intro _)
    | with_reducible apply State.set_good

theorem State.showZones_good (out : km.part .out) (tim : km.part .tim)
    (hLFM_LFM_STAT_BLIND : km.fld R.LFM.LFM_STAT.BLIND) (hLFM_LFM_STAT_TILE_DARK : km.fld R.LFM.LFM_STAT.TILE_DARK)
    (hLFM_LFM_STAT_ZONES : km.fld R.LFM.LFM_STAT.ZONES) (hPG_EVT_PEND : ∀ a, km.fld (R.PG.EVT_PEND a))
    (hPG_FAULT : ∀ a, km.fld (R.PG.FAULT a)) (hTIM_DOM_OFFSET_OFFSET : ∀ a, km.fld (R.TIM.DOM_OFFSET.OFFSET a))
    (hTIM_DOM_RATE_RATE : ∀ a, km.fld (R.TIM.DOM_RATE.RATE a)) (s : State) (hs : s.Keeps km pq) : (State.showZones s).Keeps km pq := by
  unfold State.showZones
  repeat' first
    | with_reducible assumption
    | with_reducible exact hPG_EVT_PEND _
    | with_reducible exact hPG_FAULT _
    | with_reducible exact hTIM_DOM_OFFSET_OFFSET _
    | with_reducible exact hTIM_DOM_RATE_RATE _
    | ((try lift_lets -underBinder); intro x; refine Keep.use (k := km) (q := pq) (s := x) ?_ ?_; (on_goal 1 => dsimp -zeta only [x]); (on_goal 2 => clear_value x; intro _))
    | ((try lift_lets -underBinder); intro x; refine Keep.usePair (k := km) (q := pq) (p := x) ?_ ?_; (on_goal 1 => dsimp -zeta only [x]); (on_goal 2 => clear_value x; intro _))
    | ((try lift_lets -underBinder); intro x; refine Keep.memSt (x := x) ?_; subst x)
    | ((try lift_lets -underBinder); intro x; refine Keep.depSt (x := x) ?_; subst x)
    | ((try lift_lets -underBinder); intro x; clear_value x)
    | (intro _)
    | with_reducible apply State.filter_good
    | with_reducible apply State.set_good
    | with_reducible apply State.evIf_good
    | with_reducible apply State.fault_good

theorem State.evalZone_good (out : km.part .out) (hLFM_LATCH_HI_ZONES : km.fld R.LFM.LATCH_HI.ZONES)
    (hLFM_LATCH_LO_ZONES : km.fld R.LFM.LATCH_LO.ZONES) (hPG_EVT_PEND : ∀ a, km.fld (R.PG.EVT_PEND a))
    (hZON_ZONE_FAULTS_COUNT : ∀ a, km.fld (R.ZON.ZONE_FAULTS.COUNT a)) (s : State) (z : Nat) (hs : s.Keeps km pq) : (State.evalZone s z).Keeps km pq := by
  unfold State.evalZone
  repeat' first
    | with_reducible assumption
    | with_reducible exact hPG_EVT_PEND _
    | with_reducible exact hZON_ZONE_FAULTS_COUNT _
    | ((try lift_lets -underBinder); intro x; refine Keep.use (k := km) (q := pq) (s := x) ?_ ?_; (on_goal 1 => dsimp -zeta only [x]); (on_goal 2 => clear_value x; intro _))
    | ((try lift_lets -underBinder); intro x; refine Keep.usePair (k := km) (q := pq) (p := x) ?_ ?_; (on_goal 1 => dsimp -zeta only [x]); (on_goal 2 => clear_value x; intro _))
    | ((try lift_lets -underBinder); intro x; refine Keep.memSt (x := x) ?_; subst x)
    | ((try lift_lets -underBinder); intro x; refine Keep.depSt (x := x) ?_; subst x)
    | ((try lift_lets -underBinder); intro x; clear_value x)
    | (intro _)
    | with_reducible apply Keep.ite
    | with_reducible apply State.set_good
    | with_reducible apply State.putBit64_good
    | with_reducible apply State.ev_good

theorem State.evalZones_good (out : km.part .out) (tim : km.part .tim) (mem : km.part .mem) (dram : km.part .dram)
    (lfm : km.part .lfm) (line : km.part .line) (hLFM_LATCH_HI_ZONES : km.fld R.LFM.LATCH_HI.ZONES)
    (hLFM_LATCH_LO_ZONES : km.fld R.LFM.LATCH_LO.ZONES) (hLFM_LFM_STAT_BLIND : km.fld R.LFM.LFM_STAT.BLIND)
    (hLFM_LFM_STAT_TILE_DARK : km.fld R.LFM.LFM_STAT.TILE_DARK) (hLFM_LFM_STAT_ZONES : km.fld R.LFM.LFM_STAT.ZONES)
    (hLOG_LOG_ADDR_LO_ADDR : ∀ a, km.fld (R.LOG.LOG_ADDR_LO.ADDR a))
    (hLOG_LOG_INFO_ADDR_HI : ∀ a, km.fld (R.LOG.LOG_INFO.ADDR_HI a))
    (hLOG_LOG_INFO_ARRAY : ∀ a, km.fld (R.LOG.LOG_INFO.ARRAY a))
    (hLOG_LOG_INFO_BYTES : ∀ a, km.fld (R.LOG.LOG_INFO.BYTES a))
    (hLOG_LOG_INFO_CHANNEL : ∀ a, km.fld (R.LOG.LOG_INFO.CHANNEL a))
    (hLOG_LOG_INFO_CODE : ∀ a, km.fld (R.LOG.LOG_INFO.CODE a))
    (hLOG_LOG_INFO_PORT : ∀ a, km.fld (R.LOG.LOG_INFO.PORT a))
    (hLOG_LOG_INFO_SRAM : ∀ a, km.fld (R.LOG.LOG_INFO.SRAM a))
    (hLOG_LOG_TIME_HI_NS : ∀ a, km.fld (R.LOG.LOG_TIME_HI.NS a))
    (hLOG_LOG_TIME_LO_NS : ∀ a, km.fld (R.LOG.LOG_TIME_LO.NS a))
    (hMEM_CH_STAT_FILLED : ∀ a, km.fld (R.MEM.CH_STAT.FILLED a))
    (hMEM_CH_STAT_MIRROR_OK : ∀ a, km.fld (R.MEM.CH_STAT.MIRROR_OK a))
    (hMEM_CH_STAT_STATE : ∀ a, km.fld (R.MEM.CH_STAT.STATE a))
    (hPAR_DRAM_ERR_CNT_COUNT : km.fld R.PAR.DRAM_ERR_CNT.COUNT) (hPAR_LOG_STAT_NEXT : km.fld R.PAR.LOG_STAT.NEXT)
    (hPAR_LOG_STAT_TOTAL : km.fld R.PAR.LOG_STAT.TOTAL) (hPAR_LOG_STAT_WRAPPED : km.fld R.PAR.LOG_STAT.WRAPPED)
    (hPAR_MIRROR_FIX_CNT_COUNT : km.fld R.PAR.MIRROR_FIX_CNT.COUNT)
    (hPG_ERR_ADDR_HI : ∀ a, km.fld (R.PG.ERR_ADDR_HI a)) (hPG_ERR_ADDR_LO : ∀ a, km.fld (R.PG.ERR_ADDR_LO a))
    (hPG_ERR_CODE : ∀ a, km.fld (R.PG.ERR_CODE a)) (hPG_ERR_COUNT : ∀ a, km.fld (R.PG.ERR_COUNT a))
    (hPG_ERR_OVERFLOW : ∀ a, km.fld (R.PG.ERR_OVERFLOW a)) (hPG_ERR_SOURCE : ∀ a, km.fld (R.PG.ERR_SOURCE a))
    (hPG_ERR_VALID : ∀ a, km.fld (R.PG.ERR_VALID a)) (hPG_EVT_PEND : ∀ a, km.fld (R.PG.EVT_PEND a))
    (hPG_FAULT : ∀ a, km.fld (R.PG.FAULT a)) (hPG_POISON_SEEN : ∀ a, km.fld (R.PG.POISON_SEEN a))
    (hTIM_DOM_OFFSET_OFFSET : ∀ a, km.fld (R.TIM.DOM_OFFSET.OFFSET a))
    (hTIM_DOM_RATE_RATE : ∀ a, km.fld (R.TIM.DOM_RATE.RATE a))
    (hZON_ZONE_FAULTS_COUNT : ∀ a, km.fld (R.ZON.ZONE_FAULTS.COUNT a)) (s : State) (hs : s.Keeps km pq) : (State.evalZones s).Keeps km pq := by
  unfold State.evalZones
  repeat' first
    | with_reducible assumption
    | with_reducible exact hLOG_LOG_ADDR_LO_ADDR _
    | with_reducible exact hLOG_LOG_INFO_ADDR_HI _
    | with_reducible exact hLOG_LOG_INFO_ARRAY _
    | with_reducible exact hLOG_LOG_INFO_BYTES _
    | with_reducible exact hLOG_LOG_INFO_CHANNEL _
    | with_reducible exact hLOG_LOG_INFO_CODE _
    | with_reducible exact hLOG_LOG_INFO_PORT _
    | with_reducible exact hLOG_LOG_INFO_SRAM _
    | with_reducible exact hLOG_LOG_TIME_HI_NS _
    | with_reducible exact hLOG_LOG_TIME_LO_NS _
    | with_reducible exact hMEM_CH_STAT_FILLED _
    | with_reducible exact hMEM_CH_STAT_MIRROR_OK _
    | with_reducible exact hMEM_CH_STAT_STATE _
    | with_reducible exact hPG_ERR_ADDR_HI _
    | with_reducible exact hPG_ERR_ADDR_LO _
    | with_reducible exact hPG_ERR_CODE _
    | with_reducible exact hPG_ERR_COUNT _
    | with_reducible exact hPG_ERR_OVERFLOW _
    | with_reducible exact hPG_ERR_SOURCE _
    | with_reducible exact hPG_ERR_VALID _
    | with_reducible exact hPG_EVT_PEND _
    | with_reducible exact hPG_FAULT _
    | with_reducible exact hPG_POISON_SEEN _
    | with_reducible exact hTIM_DOM_OFFSET_OFFSET _
    | with_reducible exact hTIM_DOM_RATE_RATE _
    | with_reducible exact hZON_ZONE_FAULTS_COUNT _
    | (intro _)
    | with_reducible apply State.faultScan_good
    | with_reducible apply State.forN_good
    | with_reducible apply State.evalZone_good
    | with_reducible apply State.showZones_good

theorem State.spireLoad_good (out : km.part .out) (tim : km.part .tim)
    (hLFM_LFM_STAT_BLIND : km.fld R.LFM.LFM_STAT.BLIND) (hLFM_LFM_STAT_TILE_DARK : km.fld R.LFM.LFM_STAT.TILE_DARK)
    (hLFM_LFM_STAT_ZONES : km.fld R.LFM.LFM_STAT.ZONES) (hLFM_SPIRE_DARK_HI_ZONES : km.fld R.LFM.SPIRE_DARK_HI.ZONES)
    (hLFM_SPIRE_DARK_LO_ZONES : km.fld R.LFM.SPIRE_DARK_LO.ZONES) (hPG_EVT_PEND : ∀ a, km.fld (R.PG.EVT_PEND a))
    (hPG_FAULT : ∀ a, km.fld (R.PG.FAULT a)) (hTIM_DOM_OFFSET_OFFSET : ∀ a, km.fld (R.TIM.DOM_OFFSET.OFFSET a))
    (hTIM_DOM_RATE_RATE : ∀ a, km.fld (R.TIM.DOM_RATE.RATE a)) (s : State) (l : List Nat) (hs : s.Keeps km pq) : (State.spireLoad s l).Keeps km pq := by
  unfold State.spireLoad
  repeat' first
    | with_reducible assumption
    | with_reducible exact hPG_EVT_PEND _
    | with_reducible exact hPG_FAULT _
    | with_reducible exact hTIM_DOM_OFFSET_OFFSET _
    | with_reducible exact hTIM_DOM_RATE_RATE _
    | ((try lift_lets -underBinder); intro x; refine Keep.use (k := km) (q := pq) (s := x) ?_ ?_; (on_goal 1 => dsimp -zeta only [x]); (on_goal 2 => clear_value x; intro _))
    | ((try lift_lets -underBinder); intro x; refine Keep.usePair (k := km) (q := pq) (p := x) ?_ ?_; (on_goal 1 => dsimp -zeta only [x]); (on_goal 2 => clear_value x; intro _))
    | ((try lift_lets -underBinder); intro x; refine Keep.memSt (x := x) ?_; subst x)
    | ((try lift_lets -underBinder); intro x; refine Keep.depSt (x := x) ?_; subst x)
    | ((try lift_lets -underBinder); intro x; clear_value x)
    | (intro _)
    | with_reducible apply Keep.ite
    | with_reducible apply State.forN_good
    | with_reducible apply State.putBit64_good
    | with_reducible apply State.evIf_good
    | with_reducible apply State.showZones_good

theorem State.stopDischarge_good (tim : km.part .tim) (rai : km.part .rai)
    (hTIM_DOM_OFFSET_OFFSET : ∀ a, km.fld (R.TIM.DOM_OFFSET.OFFSET a))
    (hTIM_DOM_RATE_RATE : ∀ a, km.fld (R.TIM.DOM_RATE.RATE a)) (s : State) (c : Nat) (hs : s.Keeps km pq) : (State.stopDischarge s c).Keeps km pq := by
  unfold State.stopDischarge
  repeat' first
    | with_reducible assumption
    | with_reducible exact hTIM_DOM_OFFSET_OFFSET _
    | with_reducible exact hTIM_DOM_RATE_RATE _
    | ((try lift_lets -underBinder); intro x; refine Keep.use (k := km) (q := pq) (s := x) ?_ ?_; (on_goal 1 => dsimp -zeta only [x]); (on_goal 2 => clear_value x; intro _))
    | ((try lift_lets -underBinder); intro x; refine Keep.usePair (k := km) (q := pq) (p := x) ?_ ?_; (on_goal 1 => dsimp -zeta only [x]); (on_goal 2 => clear_value x; intro _))
    | ((try lift_lets -underBinder); intro x; refine Keep.memSt (x := x) ?_; subst x)
    | ((try lift_lets -underBinder); intro x; refine Keep.depSt (x := x) ?_; subst x)
    | ((try lift_lets -underBinder); intro x; clear_value x)
    | (intro _)
    | with_reducible apply State.filter_good
    | (simp -zeta only [Keep.mk_iff]; with_reducible refine Keep.upd ?_ rfl ?_; on_goal 2 => (and_intros <;> with_reducible first | exact .inl rfl | exact .inl ⟨rfl, rfl, rfl⟩ | exact .inr ‹_› | exact Nat.le_refl _ | exact Nat.le_add_right _ _))

theorem State.railFault_good (out : km.part .out) (tim : km.part .tim) (mem : km.part .mem) (dram : km.part .dram)
    (rai : km.part .rai) (lfm : km.part .lfm) (line : km.part .line)
    (hLFM_LATCH_HI_ZONES : km.fld R.LFM.LATCH_HI.ZONES) (hLFM_LATCH_LO_ZONES : km.fld R.LFM.LATCH_LO.ZONES)
    (hLFM_LFM_STAT_BLIND : km.fld R.LFM.LFM_STAT.BLIND) (hLFM_LFM_STAT_TILE_DARK : km.fld R.LFM.LFM_STAT.TILE_DARK)
    (hLFM_LFM_STAT_ZONES : km.fld R.LFM.LFM_STAT.ZONES)
    (hLOG_LOG_ADDR_LO_ADDR : ∀ a, km.fld (R.LOG.LOG_ADDR_LO.ADDR a))
    (hLOG_LOG_INFO_ADDR_HI : ∀ a, km.fld (R.LOG.LOG_INFO.ADDR_HI a))
    (hLOG_LOG_INFO_ARRAY : ∀ a, km.fld (R.LOG.LOG_INFO.ARRAY a))
    (hLOG_LOG_INFO_BYTES : ∀ a, km.fld (R.LOG.LOG_INFO.BYTES a))
    (hLOG_LOG_INFO_CHANNEL : ∀ a, km.fld (R.LOG.LOG_INFO.CHANNEL a))
    (hLOG_LOG_INFO_CODE : ∀ a, km.fld (R.LOG.LOG_INFO.CODE a))
    (hLOG_LOG_INFO_PORT : ∀ a, km.fld (R.LOG.LOG_INFO.PORT a))
    (hLOG_LOG_INFO_SRAM : ∀ a, km.fld (R.LOG.LOG_INFO.SRAM a))
    (hLOG_LOG_TIME_HI_NS : ∀ a, km.fld (R.LOG.LOG_TIME_HI.NS a))
    (hLOG_LOG_TIME_LO_NS : ∀ a, km.fld (R.LOG.LOG_TIME_LO.NS a))
    (hMEM_CH_STAT_FILLED : ∀ a, km.fld (R.MEM.CH_STAT.FILLED a))
    (hMEM_CH_STAT_MIRROR_OK : ∀ a, km.fld (R.MEM.CH_STAT.MIRROR_OK a))
    (hMEM_CH_STAT_STATE : ∀ a, km.fld (R.MEM.CH_STAT.STATE a))
    (hPAR_DRAM_ERR_CNT_COUNT : km.fld R.PAR.DRAM_ERR_CNT.COUNT) (hPAR_LOG_STAT_NEXT : km.fld R.PAR.LOG_STAT.NEXT)
    (hPAR_LOG_STAT_TOTAL : km.fld R.PAR.LOG_STAT.TOTAL) (hPAR_LOG_STAT_WRAPPED : km.fld R.PAR.LOG_STAT.WRAPPED)
    (hPAR_MIRROR_FIX_CNT_COUNT : km.fld R.PAR.MIRROR_FIX_CNT.COUNT)
    (hPG_ERR_ADDR_HI : ∀ a, km.fld (R.PG.ERR_ADDR_HI a)) (hPG_ERR_ADDR_LO : ∀ a, km.fld (R.PG.ERR_ADDR_LO a))
    (hPG_ERR_CODE : ∀ a, km.fld (R.PG.ERR_CODE a)) (hPG_ERR_COUNT : ∀ a, km.fld (R.PG.ERR_COUNT a))
    (hPG_ERR_OVERFLOW : ∀ a, km.fld (R.PG.ERR_OVERFLOW a)) (hPG_ERR_SOURCE : ∀ a, km.fld (R.PG.ERR_SOURCE a))
    (hPG_ERR_VALID : ∀ a, km.fld (R.PG.ERR_VALID a)) (hPG_EVT_PEND : ∀ a, km.fld (R.PG.EVT_PEND a))
    (hPG_FAULT : ∀ a, km.fld (R.PG.FAULT a)) (hPG_POISON_SEEN : ∀ a, km.fld (R.PG.POISON_SEEN a))
    (hRAI_RAI_READY_READY : km.fld R.RAI.RAI_READY.READY) (hRAI_RAI_STAT_FAULT : km.fld R.RAI.RAI_STAT.FAULT)
    (hRCH_CH_STAT_FCAUSE : ∀ a, km.fld (R.RCH.CH_STAT.FCAUSE a))
    (hRCH_CH_STAT_STATE : ∀ a, km.fld (R.RCH.CH_STAT.STATE a))
    (hTIM_DOM_OFFSET_OFFSET : ∀ a, km.fld (R.TIM.DOM_OFFSET.OFFSET a))
    (hTIM_DOM_RATE_RATE : ∀ a, km.fld (R.TIM.DOM_RATE.RATE a))
    (hZON_ZONE_FAULTS_COUNT : ∀ a, km.fld (R.ZON.ZONE_FAULTS.COUNT a)) (s : State) (c cause : Nat)
    (hs : s.Keeps km pq) : (State.railFault s c cause).Keeps km pq := by
  unfold State.railFault
  repeat' first
    | with_reducible assumption
    | with_reducible exact hLOG_LOG_ADDR_LO_ADDR _
    | with_reducible exact hLOG_LOG_INFO_ADDR_HI _
    | with_reducible exact hLOG_LOG_INFO_ARRAY _
    | with_reducible exact hLOG_LOG_INFO_BYTES _
    | with_reducible exact hLOG_LOG_INFO_CHANNEL _
    | with_reducible exact hLOG_LOG_INFO_CODE _
    | with_reducible exact hLOG_LOG_INFO_PORT _
    | with_reducible exact hLOG_LOG_INFO_SRAM _
    | with_reducible exact hLOG_LOG_TIME_HI_NS _
    | with_reducible exact hLOG_LOG_TIME_LO_NS _
    | with_reducible exact hMEM_CH_STAT_FILLED _
    | with_reducible exact hMEM_CH_STAT_MIRROR_OK _
    | with_reducible exact hMEM_CH_STAT_STATE _
    | with_reducible exact hPG_ERR_ADDR_HI _
    | with_reducible exact hPG_ERR_ADDR_LO _
    | with_reducible exact hPG_ERR_CODE _
    | with_reducible exact hPG_ERR_COUNT _
    | with_reducible exact hPG_ERR_OVERFLOW _
    | with_reducible exact hPG_ERR_SOURCE _
    | with_reducible exact hPG_ERR_VALID _
    | with_reducible exact hPG_EVT_PEND _
    | with_reducible exact hPG_FAULT _
    | with_reducible exact hPG_POISON_SEEN _
    | with_reducible exact hRCH_CH_STAT_FCAUSE _
    | with_reducible exact hRCH_CH_STAT_STATE _
    | with_reducible exact hTIM_DOM_OFFSET_OFFSET _
    | with_reducible exact hTIM_DOM_RATE_RATE _
    | with_reducible exact hZON_ZONE_FAULTS_COUNT _
    | ((try lift_lets -underBinder); intro x; refine Keep.use (k := km) (q := pq) (s := x) ?_ ?_; (on_goal 1 => dsimp -zeta only [x]); (on_goal 2 => clear_value x; intro _))
    | ((try lift_lets -underBinder); intro x; refine Keep.usePair (k := km) (q := pq) (p := x) ?_ ?_; (on_goal 1 => dsimp -zeta only [x]); (on_goal 2 => clear_value x; intro _))
    | ((try lift_lets -underBinder); intro x; refine Keep.memSt (x := x) ?_; subst x)
    | ((try lift_lets -underBinder); intro x; refine Keep.depSt (x := x) ?_; subst x)
    | ((try lift_lets -underBinder); intro x; clear_value x)
    | (intro _)
    | with_reducible apply Keep.ite
    | with_reducible apply State.fault_good
    | with_reducible apply State.stopDischarge_good
    | with_reducible apply State.setRail_good
    | with_reducible apply State.set_good
    | with_reducible apply State.putBit_good
    | with_reducible apply State.startDischarge_good
    | with_reducible apply State.err_good
    | with_reducible apply State.ev_good
    | with_reducible apply State.evalZones_good

theorem State.railMeasure_good (hRCH_CH_MEAS_I : ∀ a, km.fld (R.RCH.CH_MEAS.I a))
    (hRCH_CH_MEAS_V : ∀ a, km.fld (R.RCH.CH_MEAS.V a)) (s : State) (c mv ma : Nat) (hs : s.Keeps km pq) : (State.railMeasure s c mv ma).Keeps km pq := by
  unfold State.railMeasure
  repeat' first
    | with_reducible assumption
    | with_reducible exact hRCH_CH_MEAS_I _
    | with_reducible exact hRCH_CH_MEAS_V _
    | (intro _)
    | with_reducible apply State.set_good

theorem State.railDischarged_good (out : km.part .out) (tim : km.part .tim) (rai : km.part .rai)
    (hPG_EVT_PEND : ∀ a, km.fld (R.PG.EVT_PEND a)) (hPG_FAULT : ∀ a, km.fld (R.PG.FAULT a))
    (hRAI_RAI_READY_READY : km.fld R.RAI.RAI_READY.READY) (hRCH_CH_CNT_REJECT : ∀ a, km.fld (R.RCH.CH_CNT.REJECT a))
    (hRCH_CH_STAT_AT_TARGET : ∀ a, km.fld (R.RCH.CH_STAT.AT_TARGET a))
    (hRCH_CH_STAT_CLAMPED : ∀ a, km.fld (R.RCH.CH_STAT.CLAMPED a))
    (hRCH_CH_STAT_DISCHARGED : ∀ a, km.fld (R.RCH.CH_STAT.DISCHARGED a))
    (hRCH_CH_STAT_SET_NOW : ∀ a, km.fld (R.RCH.CH_STAT.SET_NOW a))
    (hRCH_CH_STAT_STATE : ∀ a, km.fld (R.RCH.CH_STAT.STATE a))
    (hRCH_CH_TARGET_FLOOR : ∀ a, km.fld (R.RCH.CH_TARGET.FLOOR a))
    (hRCH_CH_TARGET_NEXT : ∀ a, km.fld (R.RCH.CH_TARGET.NEXT a))
    (hTIM_DOM_OFFSET_OFFSET : ∀ a, km.fld (R.TIM.DOM_OFFSET.OFFSET a))
    (hTIM_DOM_RATE_RATE : ∀ a, km.fld (R.TIM.DOM_RATE.RATE a)) (s : State) (c : Nat) (hs : s.Keeps km pq) : (State.railDischarged s c).Keeps km pq := by
  unfold State.railDischarged
  repeat' first
    | with_reducible assumption
    | with_reducible exact hPG_EVT_PEND _
    | with_reducible exact hPG_FAULT _
    | with_reducible exact hRCH_CH_CNT_REJECT _
    | with_reducible exact hRCH_CH_STAT_AT_TARGET _
    | with_reducible exact hRCH_CH_STAT_CLAMPED _
    | with_reducible exact hRCH_CH_STAT_DISCHARGED _
    | with_reducible exact hRCH_CH_STAT_SET_NOW _
    | with_reducible exact hRCH_CH_STAT_STATE _
    | with_reducible exact hRCH_CH_TARGET_FLOOR _
    | with_reducible exact hRCH_CH_TARGET_NEXT _
    | with_reducible exact hTIM_DOM_OFFSET_OFFSET _
    | with_reducible exact hTIM_DOM_RATE_RATE _
    | ((try lift_lets -underBinder); intro x; refine Keep.use (k := km) (q := pq) (s := x) ?_ ?_; (on_goal 1 => dsimp -zeta only [x]); (on_goal 2 => clear_value x; intro _))
    | ((try lift_lets -underBinder); intro x; refine Keep.usePair (k := km) (q := pq) (p := x) ?_ ?_; (on_goal 1 => dsimp -zeta only [x]); (on_goal 2 => clear_value x; intro _))
    | ((try lift_lets -underBinder); intro x; refine Keep.memSt (x := x) ?_; subst x)
    | ((try lift_lets -underBinder); intro x; refine Keep.depSt (x := x) ?_; subst x)
    | ((try lift_lets -underBinder); intro x; clear_value x)
    | (intro _)
    | with_reducible apply Keep.ite
    | with_reducible apply State.fault_good
    | with_reducible apply State.stopDischarge_good
    | with_reducible apply State.set_good
    | with_reducible apply State.setRail_good
    | with_reducible apply State.ev_good
    | with_reducible apply State.railEval_good

theorem State.railClear_good (out : km.part .out) (tim : km.part .tim) (rai : km.part .rai)
    (hPG_EVT_PEND : ∀ a, km.fld (R.PG.EVT_PEND a)) (hPG_FAULT : ∀ a, km.fld (R.PG.FAULT a))
    (hRAI_RAI_READY_READY : km.fld R.RAI.RAI_READY.READY) (hRAI_RAI_STAT_FAULT : km.fld R.RAI.RAI_STAT.FAULT)
    (hRCH_CH_CNT_REJECT : ∀ a, km.fld (R.RCH.CH_CNT.REJECT a))
    (hRCH_CH_STAT_AT_TARGET : ∀ a, km.fld (R.RCH.CH_STAT.AT_TARGET a))
    (hRCH_CH_STAT_CLAMPED : ∀ a, km.fld (R.RCH.CH_STAT.CLAMPED a))
    (hRCH_CH_STAT_DISCHARGED : ∀ a, km.fld (R.RCH.CH_STAT.DISCHARGED a))
    (hRCH_CH_STAT_FCAUSE : ∀ a, km.fld (R.RCH.CH_STAT.FCAUSE a))
    (hRCH_CH_STAT_SET_NOW : ∀ a, km.fld (R.RCH.CH_STAT.SET_NOW a))
    (hRCH_CH_STAT_STATE : ∀ a, km.fld (R.RCH.CH_STAT.STATE a))
    (hRCH_CH_TARGET_FLOOR : ∀ a, km.fld (R.RCH.CH_TARGET.FLOOR a))
    (hRCH_CH_TARGET_NEXT : ∀ a, km.fld (R.RCH.CH_TARGET.NEXT a))
    (hTIM_DOM_OFFSET_OFFSET : ∀ a, km.fld (R.TIM.DOM_OFFSET.OFFSET a))
    (hTIM_DOM_RATE_RATE : ∀ a, km.fld (R.TIM.DOM_RATE.RATE a)) (s : State) (c : Nat) (hs : s.Keeps km pq) : (State.railClear s c).Keeps km pq := by
  unfold State.railClear
  repeat' first
    | with_reducible assumption
    | with_reducible exact hPG_EVT_PEND _
    | with_reducible exact hPG_FAULT _
    | with_reducible exact hRCH_CH_CNT_REJECT _
    | with_reducible exact hRCH_CH_STAT_AT_TARGET _
    | with_reducible exact hRCH_CH_STAT_CLAMPED _
    | with_reducible exact hRCH_CH_STAT_DISCHARGED _
    | with_reducible exact hRCH_CH_STAT_FCAUSE _
    | with_reducible exact hRCH_CH_STAT_SET_NOW _
    | with_reducible exact hRCH_CH_STAT_STATE _
    | with_reducible exact hRCH_CH_TARGET_FLOOR _
    | with_reducible exact hRCH_CH_TARGET_NEXT _
    | with_reducible exact hTIM_DOM_OFFSET_OFFSET _
    | with_reducible exact hTIM_DOM_RATE_RATE _
    | ((try lift_lets -underBinder); intro x; refine Keep.use (k := km) (q := pq) (s := x) ?_ ?_; (on_goal 1 => dsimp -zeta only [x]); (on_goal 2 => clear_value x; intro _))
    | ((try lift_lets -underBinder); intro x; refine Keep.usePair (k := km) (q := pq) (p := x) ?_ ?_; (on_goal 1 => dsimp -zeta only [x]); (on_goal 2 => clear_value x; intro _))
    | ((try lift_lets -underBinder); intro x; refine Keep.memSt (x := x) ?_; subst x)
    | ((try lift_lets -underBinder); intro x; refine Keep.depSt (x := x) ?_; subst x)
    | ((try lift_lets -underBinder); intro x; clear_value x)
    | (intro _)
    | with_reducible apply Keep.ite
    | with_reducible apply State.fault_good
    | with_reducible apply State.setRail_good
    | with_reducible apply State.set_good
    | with_reducible apply State.putBit_good
    | with_reducible apply State.railEval_good

theorem State.applyRecord_good (out : km.part .out) (tim : km.part .tim) (mem : km.part .mem) (dram : km.part .dram)
    (hLFM_BAD_REC_COUNT : km.fld R.LFM.BAD_REC.COUNT) (hLFM_REC_CNT_COUNT : km.fld R.LFM.REC_CNT.COUNT)
    (hLFM_SUPPR_CNT_COUNT : km.fld R.LFM.SUPPR_CNT.COUNT)
    (hLOG_LOG_ADDR_LO_ADDR : ∀ a, km.fld (R.LOG.LOG_ADDR_LO.ADDR a))
    (hLOG_LOG_INFO_ADDR_HI : ∀ a, km.fld (R.LOG.LOG_INFO.ADDR_HI a))
    (hLOG_LOG_INFO_ARRAY : ∀ a, km.fld (R.LOG.LOG_INFO.ARRAY a))
    (hLOG_LOG_INFO_BYTES : ∀ a, km.fld (R.LOG.LOG_INFO.BYTES a))
    (hLOG_LOG_INFO_CHANNEL : ∀ a, km.fld (R.LOG.LOG_INFO.CHANNEL a))
    (hLOG_LOG_INFO_CODE : ∀ a, km.fld (R.LOG.LOG_INFO.CODE a))
    (hLOG_LOG_INFO_PORT : ∀ a, km.fld (R.LOG.LOG_INFO.PORT a))
    (hLOG_LOG_INFO_SRAM : ∀ a, km.fld (R.LOG.LOG_INFO.SRAM a))
    (hLOG_LOG_TIME_HI_NS : ∀ a, km.fld (R.LOG.LOG_TIME_HI.NS a))
    (hLOG_LOG_TIME_LO_NS : ∀ a, km.fld (R.LOG.LOG_TIME_LO.NS a))
    (hMEM_CH_STAT_FILLED : ∀ a, km.fld (R.MEM.CH_STAT.FILLED a))
    (hMEM_CH_STAT_MIRROR_OK : ∀ a, km.fld (R.MEM.CH_STAT.MIRROR_OK a))
    (hMEM_CH_STAT_STATE : ∀ a, km.fld (R.MEM.CH_STAT.STATE a))
    (hPAR_CHK_CTRL_INJ_ARM : km.fld R.PAR.CHK_CTRL.INJ_ARM)
    (hPAR_DRAM_ERR_CNT_COUNT : km.fld R.PAR.DRAM_ERR_CNT.COUNT) (hPAR_LOG_STAT_NEXT : km.fld R.PAR.LOG_STAT.NEXT)
    (hPAR_LOG_STAT_TOTAL : km.fld R.PAR.LOG_STAT.TOTAL) (hPAR_LOG_STAT_WRAPPED : km.fld R.PAR.LOG_STAT.WRAPPED)
    (hPAR_MIRROR_FIX_CNT_COUNT : km.fld R.PAR.MIRROR_FIX_CNT.COUNT)
    (hPG_ERR_ADDR_HI : ∀ a, km.fld (R.PG.ERR_ADDR_HI a)) (hPG_ERR_ADDR_LO : ∀ a, km.fld (R.PG.ERR_ADDR_LO a))
    (hPG_ERR_CODE : ∀ a, km.fld (R.PG.ERR_CODE a)) (hPG_ERR_COUNT : ∀ a, km.fld (R.PG.ERR_COUNT a))
    (hPG_ERR_OVERFLOW : ∀ a, km.fld (R.PG.ERR_OVERFLOW a)) (hPG_ERR_SOURCE : ∀ a, km.fld (R.PG.ERR_SOURCE a))
    (hPG_ERR_VALID : ∀ a, km.fld (R.PG.ERR_VALID a)) (hPG_EVT_PEND : ∀ a, km.fld (R.PG.EVT_PEND a))
    (hTIM_DOM_OFFSET_OFFSET : ∀ a, km.fld (R.TIM.DOM_OFFSET.OFFSET a))
    (hTIM_DOM_RATE_RATE : ∀ a, km.fld (R.TIM.DOM_RATE.RATE a)) (s : State) (g r : Nat) (hs : s.Keeps km pq) : (State.applyRecord s g r).1.Keeps km pq := by
  unfold State.applyRecord
  repeat' first
    | with_reducible assumption
    | with_reducible exact hLOG_LOG_ADDR_LO_ADDR _
    | with_reducible exact hLOG_LOG_INFO_ADDR_HI _
    | with_reducible exact hLOG_LOG_INFO_ARRAY _
    | with_reducible exact hLOG_LOG_INFO_BYTES _
    | with_reducible exact hLOG_LOG_INFO_CHANNEL _
    | with_reducible exact hLOG_LOG_INFO_CODE _
    | with_reducible exact hLOG_LOG_INFO_PORT _
    | with_reducible exact hLOG_LOG_INFO_SRAM _
    | with_reducible exact hLOG_LOG_TIME_HI_NS _
    | with_reducible exact hLOG_LOG_TIME_LO_NS _
    | with_reducible exact hMEM_CH_STAT_FILLED _
    | with_reducible exact hMEM_CH_STAT_MIRROR_OK _
    | with_reducible exact hMEM_CH_STAT_STATE _
    | with_reducible exact hPG_ERR_ADDR_HI _
    | with_reducible exact hPG_ERR_ADDR_LO _
    | with_reducible exact hPG_ERR_CODE _
    | with_reducible exact hPG_ERR_COUNT _
    | with_reducible exact hPG_ERR_OVERFLOW _
    | with_reducible exact hPG_ERR_SOURCE _
    | with_reducible exact hPG_ERR_VALID _
    | with_reducible exact hPG_EVT_PEND _
    | with_reducible exact hTIM_DOM_OFFSET_OFFSET _
    | with_reducible exact hTIM_DOM_RATE_RATE _
    | ((try lift_lets -underBinder); intro x; refine Keep.use (k := km) (q := pq) (s := x) ?_ ?_; (on_goal 1 => dsimp -zeta only [x]); (on_goal 2 => clear_value x; intro _))
    | ((try lift_lets -underBinder); intro x; refine Keep.usePair (k := km) (q := pq) (p := x) ?_ ?_; (on_goal 1 => dsimp -zeta only [x]); (on_goal 2 => clear_value x; intro _))
    | ((try lift_lets -underBinder); intro x; refine Keep.memSt (x := x) ?_; subst x)
    | ((try lift_lets -underBinder); intro x; refine Keep.depSt (x := x) ?_; subst x)
    | ((try lift_lets -underBinder); intro x; clear_value x)
    | (intro _)
    | with_reducible apply Keep.ite
    | with_reducible apply Keep.ite1
    | dsimp -zeta only
    | with_reducible apply State.count_good
    | with_reducible apply State.changeEntry_good
    | split

theorem State.applyRecords_good (out : km.part .out) (tim : km.part .tim) (mem : km.part .mem) (dram : km.part .dram)
    (lfm : km.part .lfm) (line : km.part .line) (any : ∀ f, km.fld f) (s : State) (l : List (Nat × Nat))
    (hs : s.Keeps km pq) : (State.applyRecords s l).Keeps km pq := by
  unfold State.applyRecords
  repeat' first
    | with_reducible assumption
    | (with_reducible (intros; exact any _))
    | ((try lift_lets -underBinder); intro x; refine Keep.use (k := km) (q := pq) (s := x) ?_ ?_; (on_goal 1 => dsimp -zeta only [x]); (on_goal 2 => clear_value x; intro _))
    | ((try lift_lets -underBinder); intro x; refine Keep.usePair (k := km) (q := pq) (p := x) ?_ ?_; (on_goal 1 => dsimp -zeta only [x]); (on_goal 2 => clear_value x; intro _))
    | ((try lift_lets -underBinder); intro x; refine Keep.memSt (x := x) ?_; subst x)
    | ((try lift_lets -underBinder); intro x; refine Keep.depSt (x := x) ?_; subst x)
    | ((try lift_lets -underBinder); intro x; clear_value x)
    | (intro _)
    | dsimp -zeta only
    | with_reducible apply State.applyRecord_good
    | with_reducible apply State.evIf_good
    | with_reducible apply State.showFaults_good
    | with_reducible apply State.evalZones_good
    | split
    | with_reducible refine Keep.fst (by assumption) ?_
    | with_reducible apply Keep.foldl
    | with_reducible apply Keep.foldl1

theorem State.windowOverflow_good (out : km.part .out) (hLFM_OVF_CNT_COUNT : km.fld R.LFM.OVF_CNT.COUNT)
    (hPG_EVT_PEND : ∀ a, km.fld (R.PG.EVT_PEND a)) (s : State) (b : Bool) (hs : s.Keeps km pq) : (State.windowOverflow s b).Keeps km pq := by
  unfold State.windowOverflow
  repeat' first
    | with_reducible assumption
    | with_reducible exact hPG_EVT_PEND _
    | (intro _)
    | with_reducible apply Keep.ite
    | with_reducible apply State.count_good
    | with_reducible apply State.ev_good

theorem State.readback_good (out : km.part .out) (tim : km.part .tim) (mem : km.part .mem) (dram : km.part .dram)
    (lfm : km.part .lfm) (line : km.part .line) (any : ∀ f, km.fld f) (s : State) (groups : List (Nat × List Nat))
    (hs : s.Keeps km pq) : (State.readback s groups).Keeps km pq := by
  unfold State.readback
  repeat' first
    | with_reducible assumption
    | (with_reducible (intros; exact any _))
    | ((try lift_lets -underBinder); intro x; refine Keep.use (k := km) (q := pq) (s := x) ?_ ?_; (on_goal 1 => dsimp -zeta only [x]); (on_goal 2 => clear_value x; intro _))
    | ((try lift_lets -underBinder); intro x; refine Keep.usePair (k := km) (q := pq) (p := x) ?_ ?_; (on_goal 1 => dsimp -zeta only [x]); (on_goal 2 => clear_value x; intro _))
    | ((try lift_lets -underBinder); intro x; refine Keep.memSt (x := x) ?_; subst x)
    | ((try lift_lets -underBinder); intro x; refine Keep.depSt (x := x) ?_; subst x)
    | ((try lift_lets -underBinder); intro x; clear_value x)
    | (intro _)
    | with_reducible apply Keep.ite
    | with_reducible apply State.windowOverflow_good
    | with_reducible apply State.applyRecords_good
    | (simp -zeta only [Keep.mk_iff]; with_reducible refine Keep.upd ?_ rfl ?_; on_goal 2 => (and_intros <;> with_reducible first | exact .inl rfl | exact .inl ⟨rfl, rfl, rfl⟩ | exact .inr ‹_› | exact Nat.le_refl _ | exact Nat.le_add_right _ _))

theorem State.faultWrite_good (out : km.part .out) (tim : km.part .tim) (mem : km.part .mem) (dram : km.part .dram)
    (lfm : km.part .lfm) (line : km.part .line) (hLFM_FAULT_CNT_COUNT : km.fld R.LFM.FAULT_CNT.COUNT)
    (hLFM_LATCH_HI_ZONES : km.fld R.LFM.LATCH_HI.ZONES) (hLFM_LATCH_LO_ZONES : km.fld R.LFM.LATCH_LO.ZONES)
    (hLFM_LFM_STAT_BLIND : km.fld R.LFM.LFM_STAT.BLIND) (hLFM_LFM_STAT_TILE_DARK : km.fld R.LFM.LFM_STAT.TILE_DARK)
    (hLFM_LFM_STAT_ZONES : km.fld R.LFM.LFM_STAT.ZONES) (hLFM_MASK_CNT_COUNT : km.fld R.LFM.MASK_CNT.COUNT)
    (hLOG_LOG_ADDR_LO_ADDR : ∀ a, km.fld (R.LOG.LOG_ADDR_LO.ADDR a))
    (hLOG_LOG_INFO_ADDR_HI : ∀ a, km.fld (R.LOG.LOG_INFO.ADDR_HI a))
    (hLOG_LOG_INFO_ARRAY : ∀ a, km.fld (R.LOG.LOG_INFO.ARRAY a))
    (hLOG_LOG_INFO_BYTES : ∀ a, km.fld (R.LOG.LOG_INFO.BYTES a))
    (hLOG_LOG_INFO_CHANNEL : ∀ a, km.fld (R.LOG.LOG_INFO.CHANNEL a))
    (hLOG_LOG_INFO_CODE : ∀ a, km.fld (R.LOG.LOG_INFO.CODE a))
    (hLOG_LOG_INFO_PORT : ∀ a, km.fld (R.LOG.LOG_INFO.PORT a))
    (hLOG_LOG_INFO_SRAM : ∀ a, km.fld (R.LOG.LOG_INFO.SRAM a))
    (hLOG_LOG_TIME_HI_NS : ∀ a, km.fld (R.LOG.LOG_TIME_HI.NS a))
    (hLOG_LOG_TIME_LO_NS : ∀ a, km.fld (R.LOG.LOG_TIME_LO.NS a))
    (hMEM_CH_STAT_FILLED : ∀ a, km.fld (R.MEM.CH_STAT.FILLED a))
    (hMEM_CH_STAT_MIRROR_OK : ∀ a, km.fld (R.MEM.CH_STAT.MIRROR_OK a))
    (hMEM_CH_STAT_STATE : ∀ a, km.fld (R.MEM.CH_STAT.STATE a))
    (hPAR_CHK_CTRL_INJ_ARM : km.fld R.PAR.CHK_CTRL.INJ_ARM)
    (hPAR_DRAM_ERR_CNT_COUNT : km.fld R.PAR.DRAM_ERR_CNT.COUNT) (hPAR_LOG_STAT_NEXT : km.fld R.PAR.LOG_STAT.NEXT)
    (hPAR_LOG_STAT_TOTAL : km.fld R.PAR.LOG_STAT.TOTAL) (hPAR_LOG_STAT_WRAPPED : km.fld R.PAR.LOG_STAT.WRAPPED)
    (hPAR_MIRROR_FIX_CNT_COUNT : km.fld R.PAR.MIRROR_FIX_CNT.COUNT)
    (hPG_ERR_ADDR_HI : ∀ a, km.fld (R.PG.ERR_ADDR_HI a)) (hPG_ERR_ADDR_LO : ∀ a, km.fld (R.PG.ERR_ADDR_LO a))
    (hPG_ERR_CODE : ∀ a, km.fld (R.PG.ERR_CODE a)) (hPG_ERR_COUNT : ∀ a, km.fld (R.PG.ERR_COUNT a))
    (hPG_ERR_OVERFLOW : ∀ a, km.fld (R.PG.ERR_OVERFLOW a)) (hPG_ERR_SOURCE : ∀ a, km.fld (R.PG.ERR_SOURCE a))
    (hPG_ERR_VALID : ∀ a, km.fld (R.PG.ERR_VALID a)) (hPG_EVT_PEND : ∀ a, km.fld (R.PG.EVT_PEND a))
    (hPG_FAULT : ∀ a, km.fld (R.PG.FAULT a)) (hPG_POISON_SEEN : ∀ a, km.fld (R.PG.POISON_SEEN a))
    (hTIM_DOM_OFFSET_OFFSET : ∀ a, km.fld (R.TIM.DOM_OFFSET.OFFSET a))
    (hTIM_DOM_RATE_RATE : ∀ a, km.fld (R.TIM.DOM_RATE.RATE a))
    (hZON_ZONE_FAULTS_COUNT : ∀ a, km.fld (R.ZON.ZONE_FAULTS.COUNT a)) (s : State) (o n v : Nat) (hs : s.Keeps km pq)
    : (State.faultWrite s o n v).Keeps km pq := by
  unfold State.faultWrite
  repeat' first
    | with_reducible assumption
    | with_reducible exact hLOG_LOG_ADDR_LO_ADDR _
    | with_reducible exact hLOG_LOG_INFO_ADDR_HI _
    | with_reducible exact hLOG_LOG_INFO_ARRAY _
    | with_reducible exact hLOG_LOG_INFO_BYTES _
    | with_reducible exact hLOG_LOG_INFO_CHANNEL _
    | with_reducible exact hLOG_LOG_INFO_CODE _
    | with_reducible exact hLOG_LOG_INFO_PORT _
    | with_reducible exact hLOG_LOG_INFO_SRAM _
    | with_reducible exact hLOG_LOG_TIME_HI_NS _
    | with_reducible exact hLOG_LOG_TIME_LO_NS _
    | with_reducible exact hMEM_CH_STAT_FILLED _
    | with_reducible exact hMEM_CH_STAT_MIRROR_OK _
    | with_reducible exact hMEM_CH_STAT_STATE _
    | with_reducible exact hPG_ERR_ADDR_HI _
    | with_reducible exact hPG_ERR_ADDR_LO _
    | with_reducible exact hPG_ERR_CODE _
    | with_reducible exact hPG_ERR_COUNT _
    | with_reducible exact hPG_ERR_OVERFLOW _
    | with_reducible exact hPG_ERR_SOURCE _
    | with_reducible exact hPG_ERR_VALID _
    | with_reducible exact hPG_EVT_PEND _
    | with_reducible exact hPG_FAULT _
    | with_reducible exact hPG_POISON_SEEN _
    | with_reducible exact hTIM_DOM_OFFSET_OFFSET _
    | with_reducible exact hTIM_DOM_RATE_RATE _
    | with_reducible exact hZON_ZONE_FAULTS_COUNT _
    | ((try lift_lets -underBinder); intro x; refine Keep.use (k := km) (q := pq) (s := x) ?_ ?_; (on_goal 1 => dsimp -zeta only [x]); (on_goal 2 => clear_value x; intro _))
    | ((try lift_lets -underBinder); intro x; refine Keep.usePair (k := km) (q := pq) (p := x) ?_ ?_; (on_goal 1 => dsimp -zeta only [x]); (on_goal 2 => clear_value x; intro _))
    | ((try lift_lets -underBinder); intro x; refine Keep.memSt (x := x) ?_; subst x)
    | ((try lift_lets -underBinder); intro x; refine Keep.depSt (x := x) ?_; subst x)
    | ((try lift_lets -underBinder); intro x; clear_value x)
    | (intro _)
    | with_reducible apply Keep.ite
    | with_reducible apply State.dramWrite_good
    | with_reducible apply State.showFaults_good
    | with_reducible apply State.evalZones_good

theorem State.faultRead_good (out : km.part .out) (tim : km.part .tim) (mem : km.part .mem) (dram : km.part .dram)
    (hLOG_LOG_ADDR_LO_ADDR : ∀ a, km.fld (R.LOG.LOG_ADDR_LO.ADDR a))
    (hLOG_LOG_INFO_ADDR_HI : ∀ a, km.fld (R.LOG.LOG_INFO.ADDR_HI a))
    (hLOG_LOG_INFO_ARRAY : ∀ a, km.fld (R.LOG.LOG_INFO.ARRAY a))
    (hLOG_LOG_INFO_BYTES : ∀ a, km.fld (R.LOG.LOG_INFO.BYTES a))
    (hLOG_LOG_INFO_CHANNEL : ∀ a, km.fld (R.LOG.LOG_INFO.CHANNEL a))
    (hLOG_LOG_INFO_CODE : ∀ a, km.fld (R.LOG.LOG_INFO.CODE a))
    (hLOG_LOG_INFO_PORT : ∀ a, km.fld (R.LOG.LOG_INFO.PORT a))
    (hLOG_LOG_INFO_SRAM : ∀ a, km.fld (R.LOG.LOG_INFO.SRAM a))
    (hLOG_LOG_TIME_HI_NS : ∀ a, km.fld (R.LOG.LOG_TIME_HI.NS a))
    (hLOG_LOG_TIME_LO_NS : ∀ a, km.fld (R.LOG.LOG_TIME_LO.NS a))
    (hMEM_CH_STAT_FILLED : ∀ a, km.fld (R.MEM.CH_STAT.FILLED a))
    (hMEM_CH_STAT_MIRROR_OK : ∀ a, km.fld (R.MEM.CH_STAT.MIRROR_OK a))
    (hMEM_CH_STAT_STATE : ∀ a, km.fld (R.MEM.CH_STAT.STATE a))
    (hPAR_DRAM_ERR_CNT_COUNT : km.fld R.PAR.DRAM_ERR_CNT.COUNT) (hPAR_LOG_STAT_NEXT : km.fld R.PAR.LOG_STAT.NEXT)
    (hPAR_LOG_STAT_TOTAL : km.fld R.PAR.LOG_STAT.TOTAL) (hPAR_LOG_STAT_WRAPPED : km.fld R.PAR.LOG_STAT.WRAPPED)
    (hPAR_MIRROR_FIX_CNT_COUNT : km.fld R.PAR.MIRROR_FIX_CNT.COUNT)
    (hPG_ERR_ADDR_HI : ∀ a, km.fld (R.PG.ERR_ADDR_HI a)) (hPG_ERR_ADDR_LO : ∀ a, km.fld (R.PG.ERR_ADDR_LO a))
    (hPG_ERR_CODE : ∀ a, km.fld (R.PG.ERR_CODE a)) (hPG_ERR_COUNT : ∀ a, km.fld (R.PG.ERR_COUNT a))
    (hPG_ERR_OVERFLOW : ∀ a, km.fld (R.PG.ERR_OVERFLOW a)) (hPG_ERR_SOURCE : ∀ a, km.fld (R.PG.ERR_SOURCE a))
    (hPG_ERR_VALID : ∀ a, km.fld (R.PG.ERR_VALID a)) (hPG_EVT_PEND : ∀ a, km.fld (R.PG.EVT_PEND a))
    (hTIM_DOM_OFFSET_OFFSET : ∀ a, km.fld (R.TIM.DOM_OFFSET.OFFSET a))
    (hTIM_DOM_RATE_RATE : ∀ a, km.fld (R.TIM.DOM_RATE.RATE a)) (s : State) (o n : Nat) (hs : s.Keeps km pq) : (State.faultRead s o n).1.Keeps km pq := by
  unfold State.faultRead
  repeat' first
    | with_reducible assumption
    | with_reducible exact hLOG_LOG_ADDR_LO_ADDR _
    | with_reducible exact hLOG_LOG_INFO_ADDR_HI _
    | with_reducible exact hLOG_LOG_INFO_ARRAY _
    | with_reducible exact hLOG_LOG_INFO_BYTES _
    | with_reducible exact hLOG_LOG_INFO_CHANNEL _
    | with_reducible exact hLOG_LOG_INFO_CODE _
    | with_reducible exact hLOG_LOG_INFO_PORT _
    | with_reducible exact hLOG_LOG_INFO_SRAM _
    | with_reducible exact hLOG_LOG_TIME_HI_NS _
    | with_reducible exact hLOG_LOG_TIME_LO_NS _
    | with_reducible exact hMEM_CH_STAT_FILLED _
    | with_reducible exact hMEM_CH_STAT_MIRROR_OK _
    | with_reducible exact hMEM_CH_STAT_STATE _
    | with_reducible exact hPG_ERR_ADDR_HI _
    | with_reducible exact hPG_ERR_ADDR_LO _
    | with_reducible exact hPG_ERR_CODE _
    | with_reducible exact hPG_ERR_COUNT _
    | with_reducible exact hPG_ERR_OVERFLOW _
    | with_reducible exact hPG_ERR_SOURCE _
    | with_reducible exact hPG_ERR_VALID _
    | with_reducible exact hPG_EVT_PEND _
    | with_reducible exact hTIM_DOM_OFFSET_OFFSET _
    | with_reducible exact hTIM_DOM_RATE_RATE _
    | ((try lift_lets -underBinder); intro x; refine Keep.use (k := km) (q := pq) (s := x) ?_ ?_; (on_goal 1 => dsimp -zeta only [x]); (on_goal 2 => clear_value x; intro _))
    | ((try lift_lets -underBinder); intro x; refine Keep.usePair (k := km) (q := pq) (p := x) ?_ ?_; (on_goal 1 => dsimp -zeta only [x]); (on_goal 2 => clear_value x; intro _))
    | ((try lift_lets -underBinder); intro x; refine Keep.memSt (x := x) ?_; subst x)
    | ((try lift_lets -underBinder); intro x; refine Keep.depSt (x := x) ?_; subst x)
    | ((try lift_lets -underBinder); intro x; clear_value x)
    | (intro _)
    | with_reducible apply Keep.ite
    | with_reducible apply Keep.ite1
    | dsimp -zeta only
    | with_reducible apply State.dramBytes_good

end Sys2Proof.Machine
end

