-- ==== Sys2Proof/Laws/KeepsHouse.lean ====
section
/-!
SUPPORT. Every function of Machine/House.lean changes what the hypotheses of its lemma name, and nothing else.
-/
namespace Sys2Proof.Machine
set_option Elab.async false
set_option linter.unusedVariables false
set_option linter.unusedTactic false
set_option linter.unreachableTactic false

variable {km : May} {pq : State}

theorem State.publish_good (hkt : km.part .hkt) (hHCH_CH_VAL_OVER : ∀ a, km.fld (R.HCH.CH_VAL.OVER a))
    (hHCH_CH_VAL_STALE : ∀ a, km.fld (R.HCH.CH_VAL.STALE a)) (hHCH_CH_VAL_VALUE : ∀ a, km.fld (R.HCH.CH_VAL.VALUE a))
    (s : State) (c : Nat) (x : Int) (vb : Nat) (hs : s.Keeps km pq) : (State.publish s c x vb).Keeps km pq := by
  unfold State.publish
  repeat' first
    | with_reducible assumption
    | with_reducible exact hHCH_CH_VAL_OVER _
    | with_reducible exact hHCH_CH_VAL_STALE _
    | with_reducible exact hHCH_CH_VAL_VALUE _
    | ((try lift_lets -underBinder); intro x; refine Keep.use (k := km) (q := pq) (s := x) ?_ ?_; (on_goal 1 => dsimp -zeta only [x]); (on_goal 2 => clear_value x; intro _))
    | ((try lift_lets -underBinder); intro x; refine Keep.usePair (k := km) (q := pq) (p := x) ?_ ?_; (on_goal 1 => dsimp -zeta only [x]); (on_goal 2 => clear_value x; intro _))
    | ((try lift_lets -underBinder); intro x; refine Keep.memSt (x := x) ?_; subst x)
    | ((try lift_lets -underBinder); intro x; refine Keep.depSt (x := x) ?_; subst x)
    | ((try lift_lets -underBinder); intro x; clear_value x)
    | (intro _)
    | with_reducible apply Keep.ite
    | with_reducible apply State.set_good
    | with_reducible apply State.setI_good
    | with_reducible apply State.draw_good
    | (simp -zeta only [Keep.mk_iff]; with_reducible refine Keep.upd ?_ rfl ?_; on_goal 2 => (and_intros <;> with_reducible first | exact .inl rfl | exact .inl ⟨rfl, rfl, rfl⟩ | exact .inr ‹_› | exact Nat.le_refl _ | exact Nat.le_add_right _ _))

theorem State.dropConds_good (tim : km.part .tim) (hkt : km.part .hkt)
    (hTIM_DOM_OFFSET_OFFSET : ∀ a, km.fld (R.TIM.DOM_OFFSET.OFFSET a))
    (hTIM_DOM_RATE_RATE : ∀ a, km.fld (R.TIM.DOM_RATE.RATE a)) (s : State) (c : Nat) (hs : s.Keeps km pq) : (State.dropConds s c).Keeps km pq := by
  unfold State.dropConds
  repeat' first
    | with_reducible assumption
    | with_reducible exact hTIM_DOM_OFFSET_OFFSET _
    | with_reducible exact hTIM_DOM_RATE_RATE _
    | ((try lift_lets -underBinder); intro x; refine Keep.use (k := km) (q := pq) (s := x) ?_ ?_; (on_goal 1 => dsimp -zeta only [x]); (on_goal 2 => clear_value x; intro _))
    | ((try lift_lets -underBinder); intro x; refine Keep.usePair (k := km) (q := pq) (p := x) ?_ ?_; (on_goal 1 => dsimp -zeta only [x]); (on_goal 2 => clear_value x; intro _))
    | ((try lift_lets -underBinder); intro x; refine Keep.memSt (x := x) ?_; subst x)
    | ((try lift_lets -underBinder); intro x; refine Keep.depSt (x := x) ?_; subst x)
    | ((try lift_lets -underBinder); intro x; clear_value x)
    | (intro _)
    | with_reducible apply State.filter_good
    | (simp -zeta only [Keep.mk_iff]; with_reducible refine Keep.upd ?_ rfl ?_; on_goal 2 => (and_intros <;> with_reducible first | exact .inl rfl | exact .inl ⟨rfl, rfl, rfl⟩ | exact .inr ‹_› | exact Nat.le_refl _ | exact Nat.le_add_right _ _))

theorem State.declareBroken_good (out : km.part .out) (tim : km.part .tim) (hkt : km.part .hkt)
    (hHCH_CH_VAL_BROKEN : ∀ a, km.fld (R.HCH.CH_VAL.BROKEN a)) (hHKT_BROKEN_HI_CHANS : km.fld R.HKT.BROKEN_HI.CHANS)
    (hHKT_BROKEN_LO_CHANS : km.fld R.HKT.BROKEN_LO.CHANS) (hPG_ERR_ADDR_HI : ∀ a, km.fld (R.PG.ERR_ADDR_HI a))
    (hPG_ERR_ADDR_LO : ∀ a, km.fld (R.PG.ERR_ADDR_LO a)) (hPG_ERR_CODE : ∀ a, km.fld (R.PG.ERR_CODE a))
    (hPG_ERR_COUNT : ∀ a, km.fld (R.PG.ERR_COUNT a)) (hPG_ERR_OVERFLOW : ∀ a, km.fld (R.PG.ERR_OVERFLOW a))
    (hPG_ERR_SOURCE : ∀ a, km.fld (R.PG.ERR_SOURCE a)) (hPG_ERR_VALID : ∀ a, km.fld (R.PG.ERR_VALID a))
    (hPG_EVT_PEND : ∀ a, km.fld (R.PG.EVT_PEND a)) (hTIM_DOM_OFFSET_OFFSET : ∀ a, km.fld (R.TIM.DOM_OFFSET.OFFSET a))
    (hTIM_DOM_RATE_RATE : ∀ a, km.fld (R.TIM.DOM_RATE.RATE a)) (s : State) (c : Nat) (hs : s.Keeps km pq) : (State.declareBroken s c).Keeps km pq := by
  unfold State.declareBroken
  repeat' first
    | with_reducible assumption
    | with_reducible exact hHCH_CH_VAL_BROKEN _
    | with_reducible exact hPG_ERR_ADDR_HI _
    | with_reducible exact hPG_ERR_ADDR_LO _
    | with_reducible exact hPG_ERR_CODE _
    | with_reducible exact hPG_ERR_COUNT _
    | with_reducible exact hPG_ERR_OVERFLOW _
    | with_reducible exact hPG_ERR_SOURCE _
    | with_reducible exact hPG_ERR_VALID _
    | with_reducible exact hPG_EVT_PEND _
    | with_reducible exact hTIM_DOM_OFFSET_OFFSET _
    | with_reducible exact hTIM_DOM_RATE_RATE _
    | ((try lift_lets -underBinder); intro x; refine Keep.use (k := km) (q := pq) (s := x) ?_ ?_; (on_goal 1 => dsimp -zeta only [x]); (on_goal 2 => clear_value x; intro _))
    | ((try lift_lets -underBinder); intro x; refine Keep.usePair (k := km) (q := pq) (p := x) ?_ ?_; (on_goal 1 => dsimp -zeta only [x]); (on_goal 2 => clear_value x; intro _))
    | ((try lift_lets -underBinder); intro x; refine Keep.memSt (x := x) ?_; subst x)
    | ((try lift_lets -underBinder); intro x; refine Keep.depSt (x := x) ?_; subst x)
    | ((try lift_lets -underBinder); intro x; clear_value x)
    | (intro _)
    | with_reducible apply State.set_good
    | with_reducible apply State.putBit64_good
    | with_reducible apply State.dropConds_good
    | with_reducible apply State.ev_good
    | with_reducible apply State.err_good

theorem State.crossCheck_good (out : km.part .out) (tim : km.part .tim) (hkt : km.part .hkt)
    (hHCH_CH_VAL_BROKEN : ∀ a, km.fld (R.HCH.CH_VAL.BROKEN a)) (hHKT_BROKEN_HI_CHANS : km.fld R.HKT.BROKEN_HI.CHANS)
    (hHKT_BROKEN_LO_CHANS : km.fld R.HKT.BROKEN_LO.CHANS) (hPG_ERR_ADDR_HI : ∀ a, km.fld (R.PG.ERR_ADDR_HI a))
    (hPG_ERR_ADDR_LO : ∀ a, km.fld (R.PG.ERR_ADDR_LO a)) (hPG_ERR_CODE : ∀ a, km.fld (R.PG.ERR_CODE a))
    (hPG_ERR_COUNT : ∀ a, km.fld (R.PG.ERR_COUNT a)) (hPG_ERR_OVERFLOW : ∀ a, km.fld (R.PG.ERR_OVERFLOW a))
    (hPG_ERR_SOURCE : ∀ a, km.fld (R.PG.ERR_SOURCE a)) (hPG_ERR_VALID : ∀ a, km.fld (R.PG.ERR_VALID a))
    (hPG_EVT_PEND : ∀ a, km.fld (R.PG.EVT_PEND a)) (hTIM_DOM_OFFSET_OFFSET : ∀ a, km.fld (R.TIM.DOM_OFFSET.OFFSET a))
    (hTIM_DOM_RATE_RATE : ∀ a, km.fld (R.TIM.DOM_RATE.RATE a)) (s : State) (hs : s.Keeps km pq) : (State.crossCheck s).Keeps km pq := by
  unfold State.crossCheck
  repeat' first
    | with_reducible assumption
    | with_reducible exact hHCH_CH_VAL_BROKEN _
    | with_reducible exact hPG_ERR_ADDR_HI _
    | with_reducible exact hPG_ERR_ADDR_LO _
    | with_reducible exact hPG_ERR_CODE _
    | with_reducible exact hPG_ERR_COUNT _
    | with_reducible exact hPG_ERR_OVERFLOW _
    | with_reducible exact hPG_ERR_SOURCE _
    | with_reducible exact hPG_ERR_VALID _
    | with_reducible exact hPG_EVT_PEND _
    | with_reducible exact hTIM_DOM_OFFSET_OFFSET _
    | with_reducible exact hTIM_DOM_RATE_RATE _
    | ((try lift_lets -underBinder); intro x; refine Keep.use (k := km) (q := pq) (s := x) ?_ ?_; (on_goal 1 => dsimp -zeta only [x]); (on_goal 2 => clear_value x; intro _))
    | ((try lift_lets -underBinder); intro x; refine Keep.usePair (k := km) (q := pq) (p := x) ?_ ?_; (on_goal 1 => dsimp -zeta only [x]); (on_goal 2 => clear_value x; intro _))
    | ((try lift_lets -underBinder); intro x; refine Keep.memSt (x := x) ?_; subst x)
    | ((try lift_lets -underBinder); intro x; refine Keep.depSt (x := x) ?_; subst x)
    | ((try lift_lets -underBinder); intro x; clear_value x)
    | (intro _)
    | with_reducible apply Keep.ite
    | with_reducible apply State.forN_good
    | with_reducible apply State.filter_good
    | with_reducible apply State.declareBroken_good
    | (simp -zeta only [Keep.mk_iff]; with_reducible refine Keep.upd ?_ rfl ?_; on_goal 2 => (and_intros <;> with_reducible first | exact .inl rfl | exact .inl ⟨rfl, rfl, rfl⟩ | exact .inr ‹_› | exact Nat.le_refl _ | exact Nat.le_add_right _ _))

theorem State.limitRound_good (tim : km.part .tim) (hkt : km.part .hkt)
    (hTIM_DOM_OFFSET_OFFSET : ∀ a, km.fld (R.TIM.DOM_OFFSET.OFFSET a))
    (hTIM_DOM_RATE_RATE : ∀ a, km.fld (R.TIM.DOM_RATE.RATE a)) (s : State) (c : Nat) (hs : s.Keeps km pq) : (State.limitRound s c).Keeps km pq := by
  unfold State.limitRound
  repeat' first
    | with_reducible assumption
    | with_reducible exact hTIM_DOM_OFFSET_OFFSET _
    | with_reducible exact hTIM_DOM_RATE_RATE _
    | ((try lift_lets -underBinder); intro x; refine Keep.use (k := km) (q := pq) (s := x) ?_ ?_; (on_goal 1 => dsimp -zeta only [x]); (on_goal 2 => clear_value x; intro _))
    | ((try lift_lets -underBinder); intro x; refine Keep.usePair (k := km) (q := pq) (p := x) ?_ ?_; (on_goal 1 => dsimp -zeta only [x]); (on_goal 2 => clear_value x; intro _))
    | ((try lift_lets -underBinder); intro x; refine Keep.memSt (x := x) ?_; subst x)
    | ((try lift_lets -underBinder); intro x; refine Keep.depSt (x := x) ?_; subst x)
    | ((try lift_lets -underBinder); intro x; clear_value x)
    | (intro _)
    | with_reducible apply Keep.ite
    | with_reducible apply Keep.ite1
    | dsimp -zeta only
    | with_reducible apply State.dropConds_good
    | split
    | with_reducible refine Keep.fst (by assumption) ?_
    | (simp -zeta only [Keep.mk_iff]; with_reducible refine Keep.upd ?_ rfl ?_; on_goal 2 => (and_intros <;> with_reducible first | exact .inl rfl | exact .inl ⟨rfl, rfl, rfl⟩ | exact .inr ‹_› | exact Nat.le_refl _ | exact Nat.le_add_right _ _))

theorem State.thrNotice_good (out : km.part .out) (tim : km.part .tim) (mbx : km.part .mbx)
    (hMBX_M_REFUSED_COUNT : ∀ a b, km.fld (R.MBX.M_REFUSED.COUNT a b))
    (hMBX_M_STAT_RX_COUNT : ∀ a b, km.fld (R.MBX.M_STAT.RX_COUNT a b))
    (hMBX_M_STAT_RX_POISON : ∀ a b, km.fld (R.MBX.M_STAT.RX_POISON a b))
    (hMBX_M_STAT_TX_FULL : ∀ a b, km.fld (R.MBX.M_STAT.TX_FULL a b))
    (hMBX_M_STAT_TX_INFLIGHT : ∀ a b, km.fld (R.MBX.M_STAT.TX_INFLIGHT a b))
    (hMBX_RX_DATA : ∀ a b c, km.fld (R.MBX.RX.DATA a b c)) (hPG_EVT_PEND : ∀ a, km.fld (R.PG.EVT_PEND a))
    (hTIM_DOM_OFFSET_OFFSET : ∀ a, km.fld (R.TIM.DOM_OFFSET.OFFSET a))
    (hTIM_DOM_RATE_RATE : ∀ a, km.fld (R.TIM.DOM_RATE.RATE a)) (s : State) (hs : s.Keeps km pq) : (State.thrNotice s).Keeps km pq := by
  unfold State.thrNotice
  repeat' first
    | with_reducible assumption
    | with_reducible exact hMBX_M_REFUSED_COUNT _ _
    | with_reducible exact hMBX_M_STAT_RX_COUNT _ _
    | with_reducible exact hMBX_M_STAT_RX_POISON _ _
    | with_reducible exact hMBX_M_STAT_TX_FULL _ _
    | with_reducible exact hMBX_M_STAT_TX_INFLIGHT _ _
    | with_reducible exact hMBX_RX_DATA _ _ _
    | with_reducible exact hPG_EVT_PEND _
    | with_reducible exact hTIM_DOM_OFFSET_OFFSET _
    | with_reducible exact hTIM_DOM_RATE_RATE _
    | ((try lift_lets -underBinder); intro x; refine Keep.use (k := km) (q := pq) (s := x) ?_ ?_; (on_goal 1 => dsimp -zeta only [x]); (on_goal 2 => clear_value x; intro _))
    | ((try lift_lets -underBinder); intro x; refine Keep.usePair (k := km) (q := pq) (p := x) ?_ ?_; (on_goal 1 => dsimp -zeta only [x]); (on_goal 2 => clear_value x; intro _))
    | ((try lift_lets -underBinder); intro x; refine Keep.memSt (x := x) ?_; subst x)
    | ((try lift_lets -underBinder); intro x; refine Keep.depSt (x := x) ?_; subst x)
    | ((try lift_lets -underBinder); intro x; clear_value x)
    | (intro _)
    | with_reducible apply Keep.ite
    | with_reducible apply State.forN_good
    | with_reducible apply State.mcAnswer_good

theorem State.setThr_good (out : km.part .out) (tim : km.part .tim) (mbx : km.part .mbx)
    (hHKT_HKT_STAT_THR_STATE : km.fld R.HKT.HKT_STAT.THR_STATE)
    (hMBX_M_REFUSED_COUNT : ∀ a b, km.fld (R.MBX.M_REFUSED.COUNT a b))
    (hMBX_M_STAT_RX_COUNT : ∀ a b, km.fld (R.MBX.M_STAT.RX_COUNT a b))
    (hMBX_M_STAT_RX_POISON : ∀ a b, km.fld (R.MBX.M_STAT.RX_POISON a b))
    (hMBX_M_STAT_TX_FULL : ∀ a b, km.fld (R.MBX.M_STAT.TX_FULL a b))
    (hMBX_M_STAT_TX_INFLIGHT : ∀ a b, km.fld (R.MBX.M_STAT.TX_INFLIGHT a b))
    (hMBX_RX_DATA : ∀ a b c, km.fld (R.MBX.RX.DATA a b c)) (hPG_EVT_PEND : ∀ a, km.fld (R.PG.EVT_PEND a))
    (hTIM_DOM_OFFSET_OFFSET : ∀ a, km.fld (R.TIM.DOM_OFFSET.OFFSET a))
    (hTIM_DOM_RATE_RATE : ∀ a, km.fld (R.TIM.DOM_RATE.RATE a)) (s : State) (v : Nat) (hs : s.Keeps km pq) : (State.setThr s v).Keeps km pq := by
  unfold State.setThr
  repeat' first
    | with_reducible assumption
    | with_reducible exact hMBX_M_REFUSED_COUNT _ _
    | with_reducible exact hMBX_M_STAT_RX_COUNT _ _
    | with_reducible exact hMBX_M_STAT_RX_POISON _ _
    | with_reducible exact hMBX_M_STAT_TX_FULL _ _
    | with_reducible exact hMBX_M_STAT_TX_INFLIGHT _ _
    | with_reducible exact hMBX_RX_DATA _ _ _
    | with_reducible exact hPG_EVT_PEND _
    | with_reducible exact hTIM_DOM_OFFSET_OFFSET _
    | with_reducible exact hTIM_DOM_RATE_RATE _
    | (intro _)
    | with_reducible apply Keep.ite
    | with_reducible apply State.set_good
    | with_reducible apply State.thrNotice_good

theorem State.enforceSender_good (hkt : km.part .hkt) (s : State) (hs : s.Keeps km pq) : (State.enforceSender s).Keeps km pq := by
  unfold State.enforceSender
  repeat' first
    | with_reducible assumption
    | ((try lift_lets -underBinder); intro x; refine Keep.use (k := km) (q := pq) (s := x) ?_ ?_; (on_goal 1 => dsimp -zeta only [x]); (on_goal 2 => clear_value x; intro _))
    | ((try lift_lets -underBinder); intro x; refine Keep.usePair (k := km) (q := pq) (p := x) ?_ ?_; (on_goal 1 => dsimp -zeta only [x]); (on_goal 2 => clear_value x; intro _))
    | ((try lift_lets -underBinder); intro x; refine Keep.memSt (x := x) ?_; subst x)
    | ((try lift_lets -underBinder); intro x; refine Keep.depSt (x := x) ?_; subst x)
    | ((try lift_lets -underBinder); intro x; clear_value x)
    | (intro _)
    | with_reducible apply Keep.ite
    | (simp -zeta only [Keep.mk_iff]; with_reducible refine Keep.upd ?_ rfl ?_; on_goal 2 => (and_intros <;> with_reducible first | exact .inl rfl | exact .inl ⟨rfl, rfl, rfl⟩ | exact .inr ‹_› | exact Nat.le_refl _ | exact Nat.le_add_right _ _))

theorem State.enforce_good (out : km.part .out) (tim : km.part .tim) (hkt : km.part .hkt) (mbx : km.part .mbx)
    (hHKT_HKT_STAT_THR_STATE : km.fld R.HKT.HKT_STAT.THR_STATE)
    (hMBX_M_REFUSED_COUNT : ∀ a b, km.fld (R.MBX.M_REFUSED.COUNT a b))
    (hMBX_M_STAT_RX_COUNT : ∀ a b, km.fld (R.MBX.M_STAT.RX_COUNT a b))
    (hMBX_M_STAT_RX_POISON : ∀ a b, km.fld (R.MBX.M_STAT.RX_POISON a b))
    (hMBX_M_STAT_TX_FULL : ∀ a b, km.fld (R.MBX.M_STAT.TX_FULL a b))
    (hMBX_M_STAT_TX_INFLIGHT : ∀ a b, km.fld (R.MBX.M_STAT.TX_INFLIGHT a b))
    (hMBX_RX_DATA : ∀ a b c, km.fld (R.MBX.RX.DATA a b c)) (hPG_EVT_PEND : ∀ a, km.fld (R.PG.EVT_PEND a))
    (hTIM_DOM_OFFSET_OFFSET : ∀ a, km.fld (R.TIM.DOM_OFFSET.OFFSET a))
    (hTIM_DOM_RATE_RATE : ∀ a, km.fld (R.TIM.DOM_RATE.RATE a)) (s : State) (hs : s.Keeps km pq) : (State.enforce s).Keeps km pq := by
  unfold State.enforce
  repeat' first
    | with_reducible assumption
    | with_reducible exact hMBX_M_REFUSED_COUNT _ _
    | with_reducible exact hMBX_M_STAT_RX_COUNT _ _
    | with_reducible exact hMBX_M_STAT_RX_POISON _ _
    | with_reducible exact hMBX_M_STAT_TX_FULL _ _
    | with_reducible exact hMBX_M_STAT_TX_INFLIGHT _ _
    | with_reducible exact hMBX_RX_DATA _ _ _
    | with_reducible exact hPG_EVT_PEND _
    | with_reducible exact hTIM_DOM_OFFSET_OFFSET _
    | with_reducible exact hTIM_DOM_RATE_RATE _
    | (intro _)
    | with_reducible apply State.setThr_good
    | with_reducible apply State.ev_good
    | with_reducible apply State.enforceSender_good

theorem State.throttleBegin_good (out : km.part .out) (tim : km.part .tim) (hkt : km.part .hkt) (mbx : km.part .mbx)
    (hHKT_HKT_STAT_THR_STATE : km.fld R.HKT.HKT_STAT.THR_STATE) (hHKT_THR_CHAN_BY_ROR : km.fld R.HKT.THR_CHAN.BY_ROR)
    (hHKT_THR_CHAN_CHAN : km.fld R.HKT.THR_CHAN.CHAN)
    (hMBX_M_REFUSED_COUNT : ∀ a b, km.fld (R.MBX.M_REFUSED.COUNT a b))
    (hMBX_M_STAT_RX_COUNT : ∀ a b, km.fld (R.MBX.M_STAT.RX_COUNT a b))
    (hMBX_M_STAT_RX_POISON : ∀ a b, km.fld (R.MBX.M_STAT.RX_POISON a b))
    (hMBX_M_STAT_TX_FULL : ∀ a b, km.fld (R.MBX.M_STAT.TX_FULL a b))
    (hMBX_M_STAT_TX_INFLIGHT : ∀ a b, km.fld (R.MBX.M_STAT.TX_INFLIGHT a b))
    (hMBX_RX_DATA : ∀ a b c, km.fld (R.MBX.RX.DATA a b c)) (hPG_EVT_PEND : ∀ a, km.fld (R.PG.EVT_PEND a))
    (hTIM_DOM_OFFSET_OFFSET : ∀ a, km.fld (R.TIM.DOM_OFFSET.OFFSET a))
    (hTIM_DOM_RATE_RATE : ∀ a, km.fld (R.TIM.DOM_RATE.RATE a)) (s : State) (c : Nat) (byRor : Bool)
    (hs : s.Keeps km pq) : (State.throttleBegin s c byRor).Keeps km pq := by
  unfold State.throttleBegin
  repeat' first
    | with_reducible assumption
    | with_reducible exact hMBX_M_REFUSED_COUNT _ _
    | with_reducible exact hMBX_M_STAT_RX_COUNT _ _
    | with_reducible exact hMBX_M_STAT_RX_POISON _ _
    | with_reducible exact hMBX_M_STAT_TX_FULL _ _
    | with_reducible exact hMBX_M_STAT_TX_INFLIGHT _ _
    | with_reducible exact hMBX_RX_DATA _ _ _
    | with_reducible exact hPG_EVT_PEND _
    | with_reducible exact hTIM_DOM_OFFSET_OFFSET _
    | with_reducible exact hTIM_DOM_RATE_RATE _
    | ((try lift_lets -underBinder); intro x; refine Keep.use (k := km) (q := pq) (s := x) ?_ ?_; (on_goal 1 => dsimp -zeta only [x]); (on_goal 2 => clear_value x; intro _))
    | ((try lift_lets -underBinder); intro x; refine Keep.usePair (k := km) (q := pq) (p := x) ?_ ?_; (on_goal 1 => dsimp -zeta only [x]); (on_goal 2 => clear_value x; intro _))
    | ((try lift_lets -underBinder); intro x; refine Keep.memSt (x := x) ?_; subst x)
    | ((try lift_lets -underBinder); intro x; refine Keep.depSt (x := x) ?_; subst x)
    | ((try lift_lets -underBinder); intro x; clear_value x)
    | (intro _)
    | with_reducible apply Keep.ite
    | with_reducible apply State.set_good
    | with_reducible apply State.setThr_good
    | with_reducible apply State.ev_good
    | with_reducible apply State.enforce_good

theorem State.releaseSender_good (hkt : km.part .hkt) (s : State) (hs : s.Keeps km pq) : (State.releaseSender s).Keeps km pq := by
  unfold State.releaseSender
  repeat' first
    | with_reducible assumption
    | ((try lift_lets -underBinder); intro x; refine Keep.use (k := km) (q := pq) (s := x) ?_ ?_; (on_goal 1 => dsimp -zeta only [x]); (on_goal 2 => clear_value x; intro _))
    | ((try lift_lets -underBinder); intro x; refine Keep.usePair (k := km) (q := pq) (p := x) ?_ ?_; (on_goal 1 => dsimp -zeta only [x]); (on_goal 2 => clear_value x; intro _))
    | ((try lift_lets -underBinder); intro x; refine Keep.memSt (x := x) ?_; subst x)
    | ((try lift_lets -underBinder); intro x; refine Keep.depSt (x := x) ?_; subst x)
    | ((try lift_lets -underBinder); intro x; clear_value x)
    | (intro _)
    | with_reducible apply Keep.ite
    | (simp -zeta only [Keep.mk_iff]; with_reducible refine Keep.upd ?_ rfl ?_; on_goal 2 => (and_intros <;> with_reducible first | exact .inl rfl | exact .inl ⟨rfl, rfl, rfl⟩ | exact .inr ‹_› | exact Nat.le_refl _ | exact Nat.le_add_right _ _))

theorem State.throttleEnd_good (out : km.part .out) (tim : km.part .tim) (hkt : km.part .hkt) (mbx : km.part .mbx)
    (hHKT_HKT_STAT_THR_STATE : km.fld R.HKT.HKT_STAT.THR_STATE)
    (hMBX_M_REFUSED_COUNT : ∀ a b, km.fld (R.MBX.M_REFUSED.COUNT a b))
    (hMBX_M_STAT_RX_COUNT : ∀ a b, km.fld (R.MBX.M_STAT.RX_COUNT a b))
    (hMBX_M_STAT_RX_POISON : ∀ a b, km.fld (R.MBX.M_STAT.RX_POISON a b))
    (hMBX_M_STAT_TX_FULL : ∀ a b, km.fld (R.MBX.M_STAT.TX_FULL a b))
    (hMBX_M_STAT_TX_INFLIGHT : ∀ a b, km.fld (R.MBX.M_STAT.TX_INFLIGHT a b))
    (hMBX_RX_DATA : ∀ a b c, km.fld (R.MBX.RX.DATA a b c)) (hPG_EVT_PEND : ∀ a, km.fld (R.PG.EVT_PEND a))
    (hTIM_DOM_OFFSET_OFFSET : ∀ a, km.fld (R.TIM.DOM_OFFSET.OFFSET a))
    (hTIM_DOM_RATE_RATE : ∀ a, km.fld (R.TIM.DOM_RATE.RATE a)) (s : State) (hs : s.Keeps km pq) : (State.throttleEnd s).Keeps km pq := by
  unfold State.throttleEnd
  repeat' first
    | with_reducible assumption
    | with_reducible exact hMBX_M_REFUSED_COUNT _ _
    | with_reducible exact hMBX_M_STAT_RX_COUNT _ _
    | with_reducible exact hMBX_M_STAT_RX_POISON _ _
    | with_reducible exact hMBX_M_STAT_TX_FULL _ _
    | with_reducible exact hMBX_M_STAT_TX_INFLIGHT _ _
    | with_reducible exact hMBX_RX_DATA _ _ _
    | with_reducible exact hPG_EVT_PEND _
    | with_reducible exact hTIM_DOM_OFFSET_OFFSET _
    | with_reducible exact hTIM_DOM_RATE_RATE _
    | (intro _)
    | with_reducible apply Keep.ite
    | with_reducible apply State.setThr_good
    | with_reducible apply State.ev_good
    | with_reducible apply State.releaseSender_good

theorem State.hktCap_good (out : km.part .out) (tim : km.part .tim) (mbx : km.part .mbx)
    (hHKT_HKT_STAT_THR_STATE : km.fld R.HKT.HKT_STAT.THR_STATE)
    (hMBX_M_REFUSED_COUNT : ∀ a b, km.fld (R.MBX.M_REFUSED.COUNT a b))
    (hMBX_M_STAT_RX_COUNT : ∀ a b, km.fld (R.MBX.M_STAT.RX_COUNT a b))
    (hMBX_M_STAT_RX_POISON : ∀ a b, km.fld (R.MBX.M_STAT.RX_POISON a b))
    (hMBX_M_STAT_TX_FULL : ∀ a b, km.fld (R.MBX.M_STAT.TX_FULL a b))
    (hMBX_M_STAT_TX_INFLIGHT : ∀ a b, km.fld (R.MBX.M_STAT.TX_INFLIGHT a b))
    (hMBX_RX_DATA : ∀ a b c, km.fld (R.MBX.RX.DATA a b c)) (hPG_EVT_PEND : ∀ a, km.fld (R.PG.EVT_PEND a))
    (hSCN_CAP_POS : km.fld R.SCN.CAP.POS) (hTIM_DOM_OFFSET_OFFSET : ∀ a, km.fld (R.TIM.DOM_OFFSET.OFFSET a))
    (hTIM_DOM_RATE_RATE : ∀ a, km.fld (R.TIM.DOM_RATE.RATE a)) (s : State) (hs : s.Keeps km pq) : (State.hktCap s).Keeps km pq := by
  unfold State.hktCap
  repeat' first
    | with_reducible assumption
    | with_reducible exact hMBX_M_REFUSED_COUNT _ _
    | with_reducible exact hMBX_M_STAT_RX_COUNT _ _
    | with_reducible exact hMBX_M_STAT_RX_POISON _ _
    | with_reducible exact hMBX_M_STAT_TX_FULL _ _
    | with_reducible exact hMBX_M_STAT_TX_INFLIGHT _ _
    | with_reducible exact hMBX_RX_DATA _ _ _
    | with_reducible exact hPG_EVT_PEND _
    | with_reducible exact hTIM_DOM_OFFSET_OFFSET _
    | with_reducible exact hTIM_DOM_RATE_RATE _
    | ((try lift_lets -underBinder); intro x; refine Keep.use (k := km) (q := pq) (s := x) ?_ ?_; (on_goal 1 => dsimp -zeta only [x]); (on_goal 2 => clear_value x; intro _))
    | ((try lift_lets -underBinder); intro x; refine Keep.usePair (k := km) (q := pq) (p := x) ?_ ?_; (on_goal 1 => dsimp -zeta only [x]); (on_goal 2 => clear_value x; intro _))
    | ((try lift_lets -underBinder); intro x; refine Keep.memSt (x := x) ?_; subst x)
    | ((try lift_lets -underBinder); intro x; refine Keep.depSt (x := x) ?_; subst x)
    | ((try lift_lets -underBinder); intro x; clear_value x)
    | (intro _)
    | with_reducible apply Keep.ite
    | with_reducible apply State.set_good
    | with_reducible apply State.setThr_good

theorem State.takeTrims_good (hkt : km.part .hkt) (s : State) (hs : s.Keeps km pq) : (State.takeTrims s).Keeps km pq := by
  unfold State.takeTrims
  repeat' first
    | with_reducible assumption
    | ((try lift_lets -underBinder); intro x; refine Keep.use (k := km) (q := pq) (s := x) ?_ ?_; (on_goal 1 => dsimp -zeta only [x]); (on_goal 2 => clear_value x; intro _))
    | ((try lift_lets -underBinder); intro x; refine Keep.usePair (k := km) (q := pq) (p := x) ?_ ?_; (on_goal 1 => dsimp -zeta only [x]); (on_goal 2 => clear_value x; intro _))
    | ((try lift_lets -underBinder); intro x; refine Keep.memSt (x := x) ?_; subst x)
    | ((try lift_lets -underBinder); intro x; refine Keep.depSt (x := x) ?_; subst x)
    | ((try lift_lets -underBinder); intro x; clear_value x)
    | (intro _)
    | (simp -zeta only [Keep.mk_iff]; with_reducible refine Keep.upd ?_ rfl ?_; on_goal 2 => (and_intros <;> with_reducible first | exact .inl rfl | exact .inl ⟨rfl, rfl, rfl⟩ | exact .inr ‹_› | exact Nat.le_refl _ | exact Nat.le_add_right _ _))

theorem State.compensate_good (tim : km.part .tim) (hkt : km.part .hkt)
    (hTIM_DOM_OFFSET_OFFSET : ∀ a, km.fld (R.TIM.DOM_OFFSET.OFFSET a))
    (hTIM_DOM_RATE_RATE : ∀ a, km.fld (R.TIM.DOM_RATE.RATE a)) (s : State) (hs : s.Keeps km pq) : (State.compensate s).Keeps km pq := by
  unfold State.compensate
  repeat' first
    | with_reducible assumption
    | with_reducible exact hTIM_DOM_OFFSET_OFFSET _
    | with_reducible exact hTIM_DOM_RATE_RATE _
    | ((try lift_lets -underBinder); intro x; refine Keep.use (k := km) (q := pq) (s := x) ?_ ?_; (on_goal 1 => dsimp -zeta only [x]); (on_goal 2 => clear_value x; intro _))
    | ((try lift_lets -underBinder); intro x; refine Keep.usePair (k := km) (q := pq) (p := x) ?_ ?_; (on_goal 1 => dsimp -zeta only [x]); (on_goal 2 => clear_value x; intro _))
    | ((try lift_lets -underBinder); intro x; refine Keep.memSt (x := x) ?_; subst x)
    | ((try lift_lets -underBinder); intro x; refine Keep.depSt (x := x) ?_; subst x)
    | ((try lift_lets -underBinder); intro x; clear_value x)
    | (intro _)
    | with_reducible apply State.filter_good
    | split
    | (simp -zeta only [Keep.mk_iff]; with_reducible refine Keep.upd ?_ rfl ?_; on_goal 2 => (and_intros <;> with_reducible first | exact .inl rfl | exact .inl ⟨rfl, rfl, rfl⟩ | exact .inr ‹_› | exact Nat.le_refl _ | exact Nat.le_add_right _ _))

theorem State.tempMax_good (tim : km.part .tim) (hHKT_TEMP_MAX_CHAN : km.fld R.HKT.TEMP_MAX.CHAN)
    (hHKT_TEMP_MAX_T : km.fld R.HKT.TEMP_MAX.T) (hTIM_DOM_OFFSET_OFFSET : ∀ a, km.fld (R.TIM.DOM_OFFSET.OFFSET a))
    (hTIM_DOM_RATE_RATE : ∀ a, km.fld (R.TIM.DOM_RATE.RATE a)) (s : State) (hs : s.Keeps km pq) : (State.tempMax s).Keeps km pq := by
  unfold State.tempMax
  repeat' first
    | with_reducible assumption
    | with_reducible exact hTIM_DOM_OFFSET_OFFSET _
    | with_reducible exact hTIM_DOM_RATE_RATE _
    | ((try lift_lets -underBinder); intro x; refine Keep.use (k := km) (q := pq) (s := x) ?_ ?_; (on_goal 1 => dsimp -zeta only [x]); (on_goal 2 => clear_value x; intro _))
    | ((try lift_lets -underBinder); intro x; refine Keep.usePair (k := km) (q := pq) (p := x) ?_ ?_; (on_goal 1 => dsimp -zeta only [x]); (on_goal 2 => clear_value x; intro _))
    | ((try lift_lets -underBinder); intro x; refine Keep.memSt (x := x) ?_; subst x)
    | ((try lift_lets -underBinder); intro x; refine Keep.depSt (x := x) ?_; subst x)
    | ((try lift_lets -underBinder); intro x; clear_value x)
    | (intro _)
    | with_reducible apply Keep.ite
    | with_reducible apply State.filter_good
    | with_reducible apply State.setI_good
    | with_reducible apply State.set_good
    | split

theorem State.shutCheck_good (hkt : km.part .hkt) (s : State) (hs : s.Keeps km pq) : (State.shutCheck s).1.Keeps km pq := by
  unfold State.shutCheck
  repeat' first
    | with_reducible assumption
    | ((try lift_lets -underBinder); intro x; refine Keep.use (k := km) (q := pq) (s := x) ?_ ?_; (on_goal 1 => dsimp -zeta only [x]); (on_goal 2 => clear_value x; intro _))
    | ((try lift_lets -underBinder); intro x; refine Keep.usePair (k := km) (q := pq) (p := x) ?_ ?_; (on_goal 1 => dsimp -zeta only [x]); (on_goal 2 => clear_value x; intro _))
    | ((try lift_lets -underBinder); intro x; refine Keep.memSt (x := x) ?_; subst x)
    | ((try lift_lets -underBinder); intro x; refine Keep.depSt (x := x) ?_; subst x)
    | ((try lift_lets -underBinder); intro x; clear_value x)
    | (intro _)
    | with_reducible apply Keep.ite
    | with_reducible apply Keep.ite1
    | dsimp -zeta only
    | with_reducible apply State.forN_good
    | split
    | with_reducible refine Keep.fst (by assumption) ?_
    | (simp -zeta only [Keep.mk_iff]; with_reducible refine Keep.upd ?_ rfl ?_; on_goal 2 => (and_intros <;> with_reducible first | exact .inl rfl | exact .inl ⟨rfl, rfl, rfl⟩ | exact .inr ‹_› | exact Nat.le_refl _ | exact Nat.le_add_right _ _))

theorem State.shutRailsDown_good (tim : km.part .tim) (rai : km.part .rai) (hkt : km.part .hkt)
    (hRAI_RAI_READY_READY : km.fld R.RAI.RAI_READY.READY) (hRCH_CH_STAT_STATE : ∀ a, km.fld (R.RCH.CH_STAT.STATE a))
    (hTIM_DOM_OFFSET_OFFSET : ∀ a, km.fld (R.TIM.DOM_OFFSET.OFFSET a))
    (hTIM_DOM_RATE_RATE : ∀ a, km.fld (R.TIM.DOM_RATE.RATE a)) (s : State) (hs : s.Keeps km pq) : (State.shutRailsDown s).Keeps km pq := by
  unfold State.shutRailsDown
  repeat' first
    | with_reducible assumption
    | with_reducible exact hRCH_CH_STAT_STATE _
    | with_reducible exact hTIM_DOM_OFFSET_OFFSET _
    | with_reducible exact hTIM_DOM_RATE_RATE _
    | ((try lift_lets -underBinder); intro x; refine Keep.use (k := km) (q := pq) (s := x) ?_ ?_; (on_goal 1 => dsimp -zeta only [x]); (on_goal 2 => clear_value x; intro _))
    | ((try lift_lets -underBinder); intro x; refine Keep.usePair (k := km) (q := pq) (p := x) ?_ ?_; (on_goal 1 => dsimp -zeta only [x]); (on_goal 2 => clear_value x; intro _))
    | ((try lift_lets -underBinder); intro x; refine Keep.memSt (x := x) ?_; subst x)
    | ((try lift_lets -underBinder); intro x; refine Keep.depSt (x := x) ?_; subst x)
    | ((try lift_lets -underBinder); intro x; clear_value x)
    | (intro _)
    | with_reducible apply Keep.ite
    | with_reducible apply State.filter_good
    | with_reducible apply State.setRail_good
    | with_reducible apply State.startDischarge_good
    | (simp -zeta only [Keep.mk_iff]; with_reducible refine Keep.upd ?_ rfl ?_; on_goal 2 => (and_intros <;> with_reducible first | exact .inl rfl | exact .inl ⟨rfl, rfl, rfl⟩ | exact .inr ‹_› | exact Nat.le_refl _ | exact Nat.le_add_right _ _))
    | with_reducible apply Keep.foldl

theorem State.throttleRound_good (out : km.part .out) (tim : km.part .tim) (hkt : km.part .hkt) (mbx : km.part .mbx)
    (hHKT_HKT_STAT_THR_STATE : km.fld R.HKT.HKT_STAT.THR_STATE) (hHKT_THR_CHAN_BY_ROR : km.fld R.HKT.THR_CHAN.BY_ROR)
    (hHKT_THR_CHAN_CHAN : km.fld R.HKT.THR_CHAN.CHAN)
    (hMBX_M_REFUSED_COUNT : ∀ a b, km.fld (R.MBX.M_REFUSED.COUNT a b))
    (hMBX_M_STAT_RX_COUNT : ∀ a b, km.fld (R.MBX.M_STAT.RX_COUNT a b))
    (hMBX_M_STAT_RX_POISON : ∀ a b, km.fld (R.MBX.M_STAT.RX_POISON a b))
    (hMBX_M_STAT_TX_FULL : ∀ a b, km.fld (R.MBX.M_STAT.TX_FULL a b))
    (hMBX_M_STAT_TX_INFLIGHT : ∀ a b, km.fld (R.MBX.M_STAT.TX_INFLIGHT a b))
    (hMBX_RX_DATA : ∀ a b c, km.fld (R.MBX.RX.DATA a b c)) (hPG_EVT_PEND : ∀ a, km.fld (R.PG.EVT_PEND a))
    (hTIM_DOM_OFFSET_OFFSET : ∀ a, km.fld (R.TIM.DOM_OFFSET.OFFSET a))
    (hTIM_DOM_RATE_RATE : ∀ a, km.fld (R.TIM.DOM_RATE.RATE a)) (s : State) (newT newR : List Nat)
    (hs : s.Keeps km pq) : (State.throttleRound s newT newR).Keeps km pq := by
  unfold State.throttleRound
  repeat' first
    | with_reducible assumption
    | with_reducible exact hMBX_M_REFUSED_COUNT _ _
    | with_reducible exact hMBX_M_STAT_RX_COUNT _ _
    | with_reducible exact hMBX_M_STAT_RX_POISON _ _
    | with_reducible exact hMBX_M_STAT_TX_FULL _ _
    | with_reducible exact hMBX_M_STAT_TX_INFLIGHT _ _
    | with_reducible exact hMBX_RX_DATA _ _ _
    | with_reducible exact hPG_EVT_PEND _
    | with_reducible exact hTIM_DOM_OFFSET_OFFSET _
    | with_reducible exact hTIM_DOM_RATE_RATE _
    | ((try lift_lets -underBinder); intro x; refine Keep.use (k := km) (q := pq) (s := x) ?_ ?_; (on_goal 1 => dsimp -zeta only [x]); (on_goal 2 => clear_value x; intro _))
    | ((try lift_lets -underBinder); intro x; refine Keep.usePair (k := km) (q := pq) (p := x) ?_ ?_; (on_goal 1 => dsimp -zeta only [x]); (on_goal 2 => clear_value x; intro _))
    | ((try lift_lets -underBinder); intro x; refine Keep.memSt (x := x) ?_; subst x)
    | ((try lift_lets -underBinder); intro x; refine Keep.depSt (x := x) ?_; subst x)
    | ((try lift_lets -underBinder); intro x; clear_value x)
    | (intro _)
    | with_reducible apply Keep.ite
    | with_reducible apply State.throttleBegin_good
    | with_reducible apply State.throttleEnd_good
    | (simp -zeta only [Keep.mk_iff]; with_reducible refine Keep.upd ?_ rfl ?_; on_goal 2 => (and_intros <;> with_reducible first | exact .inl rfl | exact .inl ⟨rfl, rfl, rfl⟩ | exact .inr ‹_› | exact Nat.le_refl _ | exact Nat.le_add_right _ _))

theorem State.limits_good (out : km.part .out) (tim : km.part .tim) (hkt : km.part .hkt) (mbx : km.part .mbx)
    (hHKT_HKT_STAT_ROR : km.fld R.HKT.HKT_STAT.ROR) (hHKT_HKT_STAT_THR_STATE : km.fld R.HKT.HKT_STAT.THR_STATE)
    (hHKT_HKT_STAT_WARN : km.fld R.HKT.HKT_STAT.WARN) (hHKT_THR_CHAN_BY_ROR : km.fld R.HKT.THR_CHAN.BY_ROR)
    (hHKT_THR_CHAN_CHAN : km.fld R.HKT.THR_CHAN.CHAN)
    (hMBX_M_REFUSED_COUNT : ∀ a b, km.fld (R.MBX.M_REFUSED.COUNT a b))
    (hMBX_M_STAT_RX_COUNT : ∀ a b, km.fld (R.MBX.M_STAT.RX_COUNT a b))
    (hMBX_M_STAT_RX_POISON : ∀ a b, km.fld (R.MBX.M_STAT.RX_POISON a b))
    (hMBX_M_STAT_TX_FULL : ∀ a b, km.fld (R.MBX.M_STAT.TX_FULL a b))
    (hMBX_M_STAT_TX_INFLIGHT : ∀ a b, km.fld (R.MBX.M_STAT.TX_INFLIGHT a b))
    (hMBX_RX_DATA : ∀ a b c, km.fld (R.MBX.RX.DATA a b c)) (hPG_EVT_PEND : ∀ a, km.fld (R.PG.EVT_PEND a))
    (hTIM_DOM_OFFSET_OFFSET : ∀ a, km.fld (R.TIM.DOM_OFFSET.OFFSET a))
    (hTIM_DOM_RATE_RATE : ∀ a, km.fld (R.TIM.DOM_RATE.RATE a)) (s : State) (hs : s.Keeps km pq) : (State.limits s).Keeps km pq := by
  unfold State.limits
  repeat' first
    | with_reducible assumption
    | with_reducible exact hMBX_M_REFUSED_COUNT _ _
    | with_reducible exact hMBX_M_STAT_RX_COUNT _ _
    | with_reducible exact hMBX_M_STAT_RX_POISON _ _
    | with_reducible exact hMBX_M_STAT_TX_FULL _ _
    | with_reducible exact hMBX_M_STAT_TX_INFLIGHT _ _
    | with_reducible exact hMBX_RX_DATA _ _ _
    | with_reducible exact hPG_EVT_PEND _
    | with_reducible exact hTIM_DOM_OFFSET_OFFSET _
    | with_reducible exact hTIM_DOM_RATE_RATE _
    | ((try lift_lets -underBinder); intro x; refine Keep.use (k := km) (q := pq) (s := x) ?_ ?_; (on_goal 1 => dsimp -zeta only [x]); (on_goal 2 => clear_value x; intro _))
    | ((try lift_lets -underBinder); intro x; refine Keep.usePair (k := km) (q := pq) (p := x) ?_ ?_; (on_goal 1 => dsimp -zeta only [x]); (on_goal 2 => clear_value x; intro _))
    | ((try lift_lets -underBinder); intro x; refine Keep.memSt (x := x) ?_; subst x)
    | ((try lift_lets -underBinder); intro x; refine Keep.depSt (x := x) ?_; subst x)
    | ((try lift_lets -underBinder); intro x; clear_value x)
    | (intro _)
    | with_reducible apply State.forN_good
    | with_reducible apply State.limitRound_good
    | with_reducible apply State.set_good
    | with_reducible apply State.evIf_good
    | with_reducible apply State.throttleRound_good

theorem State.shutRound_good (out : km.part .out) (tim : km.part .tim) (rai : km.part .rai) (hkt : km.part .hkt)
    (hPG_EVT_PEND : ∀ a, km.fld (R.PG.EVT_PEND a)) (hRAI_RAI_READY_READY : km.fld R.RAI.RAI_READY.READY)
    (hRCH_CH_STAT_STATE : ∀ a, km.fld (R.RCH.CH_STAT.STATE a))
    (hTIM_DOM_OFFSET_OFFSET : ∀ a, km.fld (R.TIM.DOM_OFFSET.OFFSET a))
    (hTIM_DOM_RATE_RATE : ∀ a, km.fld (R.TIM.DOM_RATE.RATE a)) (s : State) (hs : s.Keeps km pq) : (State.shutRound s).1.Keeps km pq := by
  unfold State.shutRound
  repeat' first
    | with_reducible assumption
    | with_reducible exact hPG_EVT_PEND _
    | with_reducible exact hRCH_CH_STAT_STATE _
    | with_reducible exact hTIM_DOM_OFFSET_OFFSET _
    | with_reducible exact hTIM_DOM_RATE_RATE _
    | ((try lift_lets -underBinder); intro x; refine Keep.use (k := km) (q := pq) (s := x) ?_ ?_; (on_goal 1 => dsimp -zeta only [x]); (on_goal 2 => clear_value x; intro _))
    | ((try lift_lets -underBinder); intro x; refine Keep.usePair (k := km) (q := pq) (p := x) ?_ ?_; (on_goal 1 => dsimp -zeta only [x]); (on_goal 2 => clear_value x; intro _))
    | ((try lift_lets -underBinder); intro x; refine Keep.memSt (x := x) ?_; subst x)
    | ((try lift_lets -underBinder); intro x; refine Keep.depSt (x := x) ?_; subst x)
    | ((try lift_lets -underBinder); intro x; clear_value x)
    | (intro _)
    | with_reducible apply Keep.ite
    | with_reducible apply Keep.ite1
    | dsimp -zeta only
    | with_reducible apply State.shutCheck_good
    | with_reducible apply State.ev_good
    | with_reducible apply State.shutRailsDown_good
    | split
    | with_reducible refine Keep.fst (by assumption) ?_
    | (simp -zeta only [Keep.mk_iff]; with_reducible refine Keep.upd ?_ rfl ?_; on_goal 2 => (and_intros <;> with_reducible first | exact .inl rfl | exact .inl ⟨rfl, rfl, rfl⟩ | exact .inr ‹_› | exact Nat.le_refl _ | exact Nat.le_add_right _ _))

theorem State.hktResults_good (out : km.part .out) (tim : km.part .tim) (hkt : km.part .hkt) (mbx : km.part .mbx)
    (hHCH_CH_VAL_BROKEN : ∀ a, km.fld (R.HCH.CH_VAL.BROKEN a)) (hHCH_CH_VAL_OVER : ∀ a, km.fld (R.HCH.CH_VAL.OVER a))
    (hHCH_CH_VAL_STALE : ∀ a, km.fld (R.HCH.CH_VAL.STALE a)) (hHCH_CH_VAL_VALUE : ∀ a, km.fld (R.HCH.CH_VAL.VALUE a))
    (hHKT_BROKEN_HI_CHANS : km.fld R.HKT.BROKEN_HI.CHANS) (hHKT_BROKEN_LO_CHANS : km.fld R.HKT.BROKEN_LO.CHANS)
    (hHKT_HKT_STAT_ROR : km.fld R.HKT.HKT_STAT.ROR) (hHKT_HKT_STAT_ROUND : km.fld R.HKT.HKT_STAT.ROUND)
    (hHKT_HKT_STAT_STALE : km.fld R.HKT.HKT_STAT.STALE) (hHKT_HKT_STAT_THR_STATE : km.fld R.HKT.HKT_STAT.THR_STATE)
    (hHKT_HKT_STAT_WARN : km.fld R.HKT.HKT_STAT.WARN) (hHKT_TEMP_MAX_CHAN : km.fld R.HKT.TEMP_MAX.CHAN)
    (hHKT_TEMP_MAX_T : km.fld R.HKT.TEMP_MAX.T) (hHKT_THR_CHAN_BY_ROR : km.fld R.HKT.THR_CHAN.BY_ROR)
    (hHKT_THR_CHAN_CHAN : km.fld R.HKT.THR_CHAN.CHAN)
    (hMBX_M_REFUSED_COUNT : ∀ a b, km.fld (R.MBX.M_REFUSED.COUNT a b))
    (hMBX_M_STAT_RX_COUNT : ∀ a b, km.fld (R.MBX.M_STAT.RX_COUNT a b))
    (hMBX_M_STAT_RX_POISON : ∀ a b, km.fld (R.MBX.M_STAT.RX_POISON a b))
    (hMBX_M_STAT_TX_FULL : ∀ a b, km.fld (R.MBX.M_STAT.TX_FULL a b))
    (hMBX_M_STAT_TX_INFLIGHT : ∀ a b, km.fld (R.MBX.M_STAT.TX_INFLIGHT a b))
    (hMBX_RX_DATA : ∀ a b c, km.fld (R.MBX.RX.DATA a b c)) (hMEM_TEMP_T : ∀ a, km.fld (R.MEM.TEMP.T a))
    (hPG_ERR_ADDR_HI : ∀ a, km.fld (R.PG.ERR_ADDR_HI a)) (hPG_ERR_ADDR_LO : ∀ a, km.fld (R.PG.ERR_ADDR_LO a))
    (hPG_ERR_CODE : ∀ a, km.fld (R.PG.ERR_CODE a)) (hPG_ERR_COUNT : ∀ a, km.fld (R.PG.ERR_COUNT a))
    (hPG_ERR_OVERFLOW : ∀ a, km.fld (R.PG.ERR_OVERFLOW a)) (hPG_ERR_SOURCE : ∀ a, km.fld (R.PG.ERR_SOURCE a))
    (hPG_ERR_VALID : ∀ a, km.fld (R.PG.ERR_VALID a)) (hPG_EVT_PEND : ∀ a, km.fld (R.PG.EVT_PEND a))
    (hPWR_IN_MEAS_IIN : km.fld R.PWR.IN_MEAS.IIN) (hPWR_IN_MEAS_VBUS : km.fld R.PWR.IN_MEAS.VBUS)
    (hPWR_VBUS_MAX_V : km.fld R.PWR.VBUS_MAX.V) (hPWR_VBUS_MIN_V : km.fld R.PWR.VBUS_MIN.V)
    (hTIM_DOM_OFFSET_OFFSET : ∀ a, km.fld (R.TIM.DOM_OFFSET.OFFSET a))
    (hTIM_DOM_RATE_RATE : ∀ a, km.fld (R.TIM.DOM_RATE.RATE a)) (s : State) (raw : List Int) (vb : Nat)
    (hs : s.Keeps km pq) : (State.hktResults s raw vb).Keeps km pq := by
  unfold State.hktResults
  repeat' first
    | with_reducible assumption
    | with_reducible exact hHCH_CH_VAL_BROKEN _
    | with_reducible exact hHCH_CH_VAL_OVER _
    | with_reducible exact hHCH_CH_VAL_STALE _
    | with_reducible exact hHCH_CH_VAL_VALUE _
    | with_reducible exact hMBX_M_REFUSED_COUNT _ _
    | with_reducible exact hMBX_M_STAT_RX_COUNT _ _
    | with_reducible exact hMBX_M_STAT_RX_POISON _ _
    | with_reducible exact hMBX_M_STAT_TX_FULL _ _
    | with_reducible exact hMBX_M_STAT_TX_INFLIGHT _ _
    | with_reducible exact hMBX_RX_DATA _ _ _
    | with_reducible exact hMEM_TEMP_T _
    | with_reducible exact hPG_ERR_ADDR_HI _
    | with_reducible exact hPG_ERR_ADDR_LO _
    | with_reducible exact hPG_ERR_CODE _
    | with_reducible exact hPG_ERR_COUNT _
    | with_reducible exact hPG_ERR_OVERFLOW _
    | with_reducible exact hPG_ERR_SOURCE _
    | with_reducible exact hPG_ERR_VALID _
    | with_reducible exact hPG_EVT_PEND _
    | with_reducible exact hTIM_DOM_OFFSET_OFFSET _
    | with_reducible exact hTIM_DOM_RATE_RATE _
    | ((try lift_lets -underBinder); intro x; refine Keep.use (k := km) (q := pq) (s := x) ?_ ?_; (on_goal 1 => dsimp -zeta only [x]); (on_goal 2 => clear_value x; intro _))
    | ((try lift_lets -underBinder); intro x; refine Keep.usePair (k := km) (q := pq) (p := x) ?_ ?_; (on_goal 1 => dsimp -zeta only [x]); (on_goal 2 => clear_value x; intro _))
    | ((try lift_lets -underBinder); intro x; refine Keep.memSt (x := x) ?_; subst x)
    | ((try lift_lets -underBinder); intro x; refine Keep.depSt (x := x) ?_; subst x)
    | ((try lift_lets -underBinder); intro x; clear_value x)
    | (intro _)
    | with_reducible apply Keep.ite
    | with_reducible apply State.forN_good
    | with_reducible apply State.publish_good
    | with_reducible apply State.set_good
    | with_reducible apply State.crossCheck_good
    | with_reducible apply State.limits_good
    | with_reducible apply State.tempMax_good
    | with_reducible apply State.compensate_good
    | with_reducible apply State.takeTrims_good
    | with_reducible apply State.setI_good
    | with_reducible apply State.ev_good
    | (simp -zeta only [Keep.mk_iff]; with_reducible refine Keep.upd ?_ rfl ?_; on_goal 2 => (and_intros <;> with_reducible first | exact .inl rfl | exact .inl ⟨rfl, rfl, rfl⟩ | exact .inr ‹_› | exact Nat.le_refl _ | exact Nat.le_add_right _ _))

theorem State.hktRound_good (out : km.part .out) (tim : km.part .tim) (rai : km.part .rai) (hkt : km.part .hkt)
    (mbx : km.part .mbx) (hHCH_CH_VAL_BROKEN : ∀ a, km.fld (R.HCH.CH_VAL.BROKEN a))
    (hHCH_CH_VAL_OVER : ∀ a, km.fld (R.HCH.CH_VAL.OVER a)) (hHCH_CH_VAL_STALE : ∀ a, km.fld (R.HCH.CH_VAL.STALE a))
    (hHCH_CH_VAL_VALUE : ∀ a, km.fld (R.HCH.CH_VAL.VALUE a)) (hHKT_BROKEN_HI_CHANS : km.fld R.HKT.BROKEN_HI.CHANS)
    (hHKT_BROKEN_LO_CHANS : km.fld R.HKT.BROKEN_LO.CHANS) (hHKT_HKT_STAT_ROR : km.fld R.HKT.HKT_STAT.ROR)
    (hHKT_HKT_STAT_ROUND : km.fld R.HKT.HKT_STAT.ROUND) (hHKT_HKT_STAT_STALE : km.fld R.HKT.HKT_STAT.STALE)
    (hHKT_HKT_STAT_THR_STATE : km.fld R.HKT.HKT_STAT.THR_STATE) (hHKT_HKT_STAT_WARN : km.fld R.HKT.HKT_STAT.WARN)
    (hHKT_TEMP_MAX_CHAN : km.fld R.HKT.TEMP_MAX.CHAN) (hHKT_TEMP_MAX_T : km.fld R.HKT.TEMP_MAX.T)
    (hHKT_THR_CHAN_BY_ROR : km.fld R.HKT.THR_CHAN.BY_ROR) (hHKT_THR_CHAN_CHAN : km.fld R.HKT.THR_CHAN.CHAN)
    (hMBX_M_REFUSED_COUNT : ∀ a b, km.fld (R.MBX.M_REFUSED.COUNT a b))
    (hMBX_M_STAT_RX_COUNT : ∀ a b, km.fld (R.MBX.M_STAT.RX_COUNT a b))
    (hMBX_M_STAT_RX_POISON : ∀ a b, km.fld (R.MBX.M_STAT.RX_POISON a b))
    (hMBX_M_STAT_TX_FULL : ∀ a b, km.fld (R.MBX.M_STAT.TX_FULL a b))
    (hMBX_M_STAT_TX_INFLIGHT : ∀ a b, km.fld (R.MBX.M_STAT.TX_INFLIGHT a b))
    (hMBX_RX_DATA : ∀ a b c, km.fld (R.MBX.RX.DATA a b c)) (hMEM_TEMP_T : ∀ a, km.fld (R.MEM.TEMP.T a))
    (hPG_ERR_ADDR_HI : ∀ a, km.fld (R.PG.ERR_ADDR_HI a)) (hPG_ERR_ADDR_LO : ∀ a, km.fld (R.PG.ERR_ADDR_LO a))
    (hPG_ERR_CODE : ∀ a, km.fld (R.PG.ERR_CODE a)) (hPG_ERR_COUNT : ∀ a, km.fld (R.PG.ERR_COUNT a))
    (hPG_ERR_OVERFLOW : ∀ a, km.fld (R.PG.ERR_OVERFLOW a)) (hPG_ERR_SOURCE : ∀ a, km.fld (R.PG.ERR_SOURCE a))
    (hPG_ERR_VALID : ∀ a, km.fld (R.PG.ERR_VALID a)) (hPG_EVT_PEND : ∀ a, km.fld (R.PG.EVT_PEND a))
    (hPWR_IN_MEAS_IIN : km.fld R.PWR.IN_MEAS.IIN) (hPWR_IN_MEAS_VBUS : km.fld R.PWR.IN_MEAS.VBUS)
    (hPWR_VBUS_MAX_V : km.fld R.PWR.VBUS_MAX.V) (hPWR_VBUS_MIN_V : km.fld R.PWR.VBUS_MIN.V)
    (hRAI_RAI_READY_READY : km.fld R.RAI.RAI_READY.READY) (hRCH_CH_STAT_STATE : ∀ a, km.fld (R.RCH.CH_STAT.STATE a))
    (hTIM_DOM_OFFSET_OFFSET : ∀ a, km.fld (R.TIM.DOM_OFFSET.OFFSET a))
    (hTIM_DOM_RATE_RATE : ∀ a, km.fld (R.TIM.DOM_RATE.RATE a)) (s : State) (raw : List Int) (vb : Nat)
    (hs : s.Keeps km pq) : (State.hktRound s raw vb).1.Keeps km pq := by
  unfold State.hktRound
  repeat' first
    | with_reducible assumption
    | with_reducible exact hHCH_CH_VAL_BROKEN _
    | with_reducible exact hHCH_CH_VAL_OVER _
    | with_reducible exact hHCH_CH_VAL_STALE _
    | with_reducible exact hHCH_CH_VAL_VALUE _
    | with_reducible exact hMBX_M_REFUSED_COUNT _ _
    | with_reducible exact hMBX_M_STAT_RX_COUNT _ _
    | with_reducible exact hMBX_M_STAT_RX_POISON _ _
    | with_reducible exact hMBX_M_STAT_TX_FULL _ _
    | with_reducible exact hMBX_M_STAT_TX_INFLIGHT _ _
    | with_reducible exact hMBX_RX_DATA _ _ _
    | with_reducible exact hMEM_TEMP_T _
    | with_reducible exact hPG_ERR_ADDR_HI _
    | with_reducible exact hPG_ERR_ADDR_LO _
    | with_reducible exact hPG_ERR_CODE _
    | with_reducible exact hPG_ERR_COUNT _
    | with_reducible exact hPG_ERR_OVERFLOW _
    | with_reducible exact hPG_ERR_SOURCE _
    | with_reducible exact hPG_ERR_VALID _
    | with_reducible exact hPG_EVT_PEND _
    | with_reducible exact hRCH_CH_STAT_STATE _
    | with_reducible exact hTIM_DOM_OFFSET_OFFSET _
    | with_reducible exact hTIM_DOM_RATE_RATE _
    | (intro _)
    | with_reducible apply Keep.ite
    | with_reducible apply Keep.ite1
    | dsimp -zeta only
    | with_reducible apply State.hktResults_good
    | with_reducible apply State.shutRound_good

theorem State.enforceReq_good (out : km.part .out) (tim : km.part .tim) (hkt : km.part .hkt) (mbx : km.part .mbx)
    (hHKT_HKT_STAT_THR_STATE : km.fld R.HKT.HKT_STAT.THR_STATE)
    (hMBX_M_REFUSED_COUNT : ∀ a b, km.fld (R.MBX.M_REFUSED.COUNT a b))
    (hMBX_M_STAT_RX_COUNT : ∀ a b, km.fld (R.MBX.M_STAT.RX_COUNT a b))
    (hMBX_M_STAT_RX_POISON : ∀ a b, km.fld (R.MBX.M_STAT.RX_POISON a b))
    (hMBX_M_STAT_TX_FULL : ∀ a b, km.fld (R.MBX.M_STAT.TX_FULL a b))
    (hMBX_M_STAT_TX_INFLIGHT : ∀ a b, km.fld (R.MBX.M_STAT.TX_INFLIGHT a b))
    (hMBX_RX_DATA : ∀ a b c, km.fld (R.MBX.RX.DATA a b c)) (hPG_EVT_PEND : ∀ a, km.fld (R.PG.EVT_PEND a))
    (hTIM_DOM_OFFSET_OFFSET : ∀ a, km.fld (R.TIM.DOM_OFFSET.OFFSET a))
    (hTIM_DOM_RATE_RATE : ∀ a, km.fld (R.TIM.DOM_RATE.RATE a)) (s : State) (hs : s.Keeps km pq) : (State.enforceReq s).Keeps km pq := by
  unfold State.enforceReq
  repeat' first
    | with_reducible assumption
    | with_reducible exact hMBX_M_REFUSED_COUNT _ _
    | with_reducible exact hMBX_M_STAT_RX_COUNT _ _
    | with_reducible exact hMBX_M_STAT_RX_POISON _ _
    | with_reducible exact hMBX_M_STAT_TX_FULL _ _
    | with_reducible exact hMBX_M_STAT_TX_INFLIGHT _ _
    | with_reducible exact hMBX_RX_DATA _ _ _
    | with_reducible exact hPG_EVT_PEND _
    | with_reducible exact hTIM_DOM_OFFSET_OFFSET _
    | with_reducible exact hTIM_DOM_RATE_RATE _
    | (intro _)
    | with_reducible apply Keep.ite
    | with_reducible apply State.enforce_good

theorem State.brokenClear_good (hkt : km.part .hkt) (hHCH_CH_VAL_BROKEN : ∀ a, km.fld (R.HCH.CH_VAL.BROKEN a))
    (hHKT_BROKEN_HI_CHANS : km.fld R.HKT.BROKEN_HI.CHANS) (hHKT_BROKEN_LO_CHANS : km.fld R.HKT.BROKEN_LO.CHANS)
    (s : State) (mask : Nat) (hs : s.Keeps km pq) : (State.brokenClear s mask).Keeps km pq := by
  unfold State.brokenClear
  repeat' first
    | with_reducible assumption
    | with_reducible exact hHCH_CH_VAL_BROKEN _
    | ((try lift_lets -underBinder); intro x; refine Keep.use (k := km) (q := pq) (s := x) ?_ ?_; (on_goal 1 => dsimp -zeta only [x]); (on_goal 2 => clear_value x; intro _))
    | ((try lift_lets -underBinder); intro x; refine Keep.usePair (k := km) (q := pq) (p := x) ?_ ?_; (on_goal 1 => dsimp -zeta only [x]); (on_goal 2 => clear_value x; intro _))
    | ((try lift_lets -underBinder); intro x; refine Keep.memSt (x := x) ?_; subst x)
    | ((try lift_lets -underBinder); intro x; refine Keep.depSt (x := x) ?_; subst x)
    | ((try lift_lets -underBinder); intro x; clear_value x)
    | (intro _)
    | with_reducible apply Keep.ite
    | with_reducible apply State.forN_good
    | with_reducible apply State.set_good
    | with_reducible apply State.putBit64_good
    | (simp -zeta only [Keep.mk_iff]; with_reducible refine Keep.upd ?_ rfl ?_; on_goal 2 => (and_intros <;> with_reducible first | exact .inl rfl | exact .inl ⟨rfl, rfl, rfl⟩ | exact .inr ‹_› | exact Nat.le_refl _ | exact Nat.le_add_right _ _))

theorem execGraceEnd_good (frc : km.part .frc) (out : km.part .out) (tim : km.part .tim) (hkt : km.part .hkt)
    (mbx : km.part .mbx) (hHKT_HKT_STAT_THR_STATE : km.fld R.HKT.HKT_STAT.THR_STATE)
    (hMBX_M_REFUSED_COUNT : ∀ a b, km.fld (R.MBX.M_REFUSED.COUNT a b))
    (hMBX_M_STAT_RX_COUNT : ∀ a b, km.fld (R.MBX.M_STAT.RX_COUNT a b))
    (hMBX_M_STAT_RX_POISON : ∀ a b, km.fld (R.MBX.M_STAT.RX_POISON a b))
    (hMBX_M_STAT_TX_FULL : ∀ a b, km.fld (R.MBX.M_STAT.TX_FULL a b))
    (hMBX_M_STAT_TX_INFLIGHT : ∀ a b, km.fld (R.MBX.M_STAT.TX_INFLIGHT a b))
    (hMBX_RX_DATA : ∀ a b c, km.fld (R.MBX.RX.DATA a b c)) (hPG_EVT_PEND : ∀ a, km.fld (R.PG.EVT_PEND a))
    (hTIM_DOM_OFFSET_OFFSET : ∀ a, km.fld (R.TIM.DOM_OFFSET.OFFSET a))
    (hTIM_DOM_RATE_RATE : ∀ a, km.fld (R.TIM.DOM_RATE.RATE a)) (t : Nat) (s : State) (hs : s.Keeps km pq) : ∀ st, execGraceEnd t s = .next st → st.Keeps km pq := by
  unfold execGraceEnd
  refine run_good hs (fun s hs => ?_)
  repeat' first
    | with_reducible assumption
    | with_reducible exact hMBX_M_REFUSED_COUNT _ _
    | with_reducible exact hMBX_M_STAT_RX_COUNT _ _
    | with_reducible exact hMBX_M_STAT_RX_POISON _ _
    | with_reducible exact hMBX_M_STAT_TX_FULL _ _
    | with_reducible exact hMBX_M_STAT_TX_INFLIGHT _ _
    | with_reducible exact hMBX_RX_DATA _ _ _
    | with_reducible exact hPG_EVT_PEND _
    | with_reducible exact hTIM_DOM_OFFSET_OFFSET _
    | with_reducible exact hTIM_DOM_RATE_RATE _
    | (intro _)
    | with_reducible apply State.tick_good
    | with_reducible apply State.enforceReq_good

theorem execEnforceNow_good (frc : km.part .frc) (out : km.part .out) (tim : km.part .tim) (hkt : km.part .hkt)
    (mbx : km.part .mbx) (hHKT_HKT_STAT_THR_STATE : km.fld R.HKT.HKT_STAT.THR_STATE)
    (hMBX_M_REFUSED_COUNT : ∀ a b, km.fld (R.MBX.M_REFUSED.COUNT a b))
    (hMBX_M_STAT_RX_COUNT : ∀ a b, km.fld (R.MBX.M_STAT.RX_COUNT a b))
    (hMBX_M_STAT_RX_POISON : ∀ a b, km.fld (R.MBX.M_STAT.RX_POISON a b))
    (hMBX_M_STAT_TX_FULL : ∀ a b, km.fld (R.MBX.M_STAT.TX_FULL a b))
    (hMBX_M_STAT_TX_INFLIGHT : ∀ a b, km.fld (R.MBX.M_STAT.TX_INFLIGHT a b))
    (hMBX_RX_DATA : ∀ a b c, km.fld (R.MBX.RX.DATA a b c)) (hPG_EVT_PEND : ∀ a, km.fld (R.PG.EVT_PEND a))
    (hTIM_DOM_OFFSET_OFFSET : ∀ a, km.fld (R.TIM.DOM_OFFSET.OFFSET a))
    (hTIM_DOM_RATE_RATE : ∀ a, km.fld (R.TIM.DOM_RATE.RATE a)) (t : Nat) (s : State) (hs : s.Keeps km pq) : ∀ st, execEnforceNow t s = .next st → st.Keeps km pq := by
  unfold execEnforceNow
  refine run_good hs (fun s hs => ?_)
  repeat' first
    | with_reducible assumption
    | with_reducible exact hMBX_M_REFUSED_COUNT _ _
    | with_reducible exact hMBX_M_STAT_RX_COUNT _ _
    | with_reducible exact hMBX_M_STAT_RX_POISON _ _
    | with_reducible exact hMBX_M_STAT_TX_FULL _ _
    | with_reducible exact hMBX_M_STAT_TX_INFLIGHT _ _
    | with_reducible exact hMBX_RX_DATA _ _ _
    | with_reducible exact hPG_EVT_PEND _
    | with_reducible exact hTIM_DOM_OFFSET_OFFSET _
    | with_reducible exact hTIM_DOM_RATE_RATE _
    | (intro _)
    | with_reducible apply State.tick_good
    | with_reducible apply State.enforceReq_good

theorem execEngDivStep_good (frc : km.part .frc) (hkt : km.part .hkt) (t : Nat) (s : State) (hs : s.Keeps km pq) : ∀ st, execEngDivStep t s = .next st → st.Keeps km pq := by
  unfold execEngDivStep
  refine runIn_good hs (fun s hs => ?_)
  repeat' first
    | with_reducible assumption
    | ((try lift_lets -underBinder); intro x; refine Keep.use (k := km) (q := pq) (s := x) ?_ ?_; (on_goal 1 => dsimp -zeta only [x]); (on_goal 2 => clear_value x; intro _))
    | ((try lift_lets -underBinder); intro x; refine Keep.usePair (k := km) (q := pq) (p := x) ?_ ?_; (on_goal 1 => dsimp -zeta only [x]); (on_goal 2 => clear_value x; intro _))
    | ((try lift_lets -underBinder); intro x; refine Keep.memSt (x := x) ?_; subst x)
    | ((try lift_lets -underBinder); intro x; refine Keep.depSt (x := x) ?_; subst x)
    | ((try lift_lets -underBinder); intro x; clear_value x)
    | (intro _)
    | with_reducible apply Keep.ite
    | with_reducible apply State.tick_good
    | (simp -zeta only [Keep.mk_iff]; with_reducible refine Keep.upd ?_ rfl ?_; on_goal 2 => (and_intros <;> with_reducible first | exact .inl rfl | exact .inl ⟨rfl, rfl, rfl⟩ | exact .inr ‹_› | exact Nat.le_refl _ | exact Nat.le_add_right _ _))

theorem execBrokenClear_good (frc : km.part .frc) (hkt : km.part .hkt)
    (hHCH_CH_VAL_BROKEN : ∀ a, km.fld (R.HCH.CH_VAL.BROKEN a)) (hHKT_BROKEN_HI_CHANS : km.fld R.HKT.BROKEN_HI.CHANS)
    (hHKT_BROKEN_LO_CHANS : km.fld R.HKT.BROKEN_LO.CHANS) (mask t : Nat) (s : State) (hs : s.Keeps km pq) : ∀ st, execBrokenClear mask t s = .next st → st.Keeps km pq := by
  unfold execBrokenClear
  refine run_good hs (fun s hs => ?_)
  repeat' first
    | with_reducible assumption
    | with_reducible exact hHCH_CH_VAL_BROKEN _
    | (intro _)
    | with_reducible apply State.tick_good
    | with_reducible apply State.brokenClear_good

theorem execCalRun_good (frc : km.part .frc) (hCAL_CAL_STAT_BUSY : km.fld R.CAL.CAL_STAT.BUSY) (t : Nat) (s : State)
    (hs : s.Keeps km pq) : ∀ st, execCalRun t s = .next st → st.Keeps km pq := by
  unfold execCalRun
  refine run_good hs (fun s hs => ?_)
  repeat' first
    | with_reducible assumption
    | (intro _)
    | with_reducible apply State.tick_good
    | with_reducible apply State.set_good

theorem State.fieldDone_good (out : km.part .out) (hCAL_CAL_STAT_BUSY : km.fld R.CAL.CAL_STAT.BUSY)
    (hCAL_CAL_STAT_RESULT : km.fld R.CAL.CAL_STAT.RESULT)
    (hCAL_TRIM_FIELD_CODE : ∀ a, km.fld (R.CAL.TRIM_FIELD.CODE a))
    (hPG_ERR_ADDR_HI : ∀ a, km.fld (R.PG.ERR_ADDR_HI a)) (hPG_ERR_ADDR_LO : ∀ a, km.fld (R.PG.ERR_ADDR_LO a))
    (hPG_ERR_CODE : ∀ a, km.fld (R.PG.ERR_CODE a)) (hPG_ERR_COUNT : ∀ a, km.fld (R.PG.ERR_COUNT a))
    (hPG_ERR_OVERFLOW : ∀ a, km.fld (R.PG.ERR_OVERFLOW a)) (hPG_ERR_SOURCE : ∀ a, km.fld (R.PG.ERR_SOURCE a))
    (hPG_ERR_VALID : ∀ a, km.fld (R.PG.ERR_VALID a)) (hPG_EVT_PEND : ∀ a, km.fld (R.PG.EVT_PEND a)) (s : State)
    (ref gnd : Int) (hs : s.Keeps km pq) : (State.fieldDone s ref gnd).Keeps km pq := by
  unfold State.fieldDone
  repeat' first
    | with_reducible assumption
    | with_reducible exact hCAL_TRIM_FIELD_CODE _
    | with_reducible exact hPG_ERR_ADDR_HI _
    | with_reducible exact hPG_ERR_ADDR_LO _
    | with_reducible exact hPG_ERR_CODE _
    | with_reducible exact hPG_ERR_COUNT _
    | with_reducible exact hPG_ERR_OVERFLOW _
    | with_reducible exact hPG_ERR_SOURCE _
    | with_reducible exact hPG_ERR_VALID _
    | with_reducible exact hPG_EVT_PEND _
    | ((try lift_lets -underBinder); intro x; refine Keep.use (k := km) (q := pq) (s := x) ?_ ?_; (on_goal 1 => dsimp -zeta only [x]); (on_goal 2 => clear_value x; intro _))
    | ((try lift_lets -underBinder); intro x; refine Keep.usePair (k := km) (q := pq) (p := x) ?_ ?_; (on_goal 1 => dsimp -zeta only [x]); (on_goal 2 => clear_value x; intro _))
    | ((try lift_lets -underBinder); intro x; refine Keep.memSt (x := x) ?_; subst x)
    | ((try lift_lets -underBinder); intro x; refine Keep.depSt (x := x) ?_; subst x)
    | ((try lift_lets -underBinder); intro x; clear_value x)
    | (intro _)
    | with_reducible apply Keep.ite
    | with_reducible apply State.set_good
    | with_reducible apply State.err_good
    | with_reducible apply State.ev_good
    | with_reducible apply State.draw_good

theorem execFieldDone_good (frc : km.part .frc) (out : km.part .out)
    (hCAL_CAL_STAT_BUSY : km.fld R.CAL.CAL_STAT.BUSY) (hCAL_CAL_STAT_RESULT : km.fld R.CAL.CAL_STAT.RESULT)
    (hCAL_TRIM_FIELD_CODE : ∀ a, km.fld (R.CAL.TRIM_FIELD.CODE a))
    (hPG_ERR_ADDR_HI : ∀ a, km.fld (R.PG.ERR_ADDR_HI a)) (hPG_ERR_ADDR_LO : ∀ a, km.fld (R.PG.ERR_ADDR_LO a))
    (hPG_ERR_CODE : ∀ a, km.fld (R.PG.ERR_CODE a)) (hPG_ERR_COUNT : ∀ a, km.fld (R.PG.ERR_COUNT a))
    (hPG_ERR_OVERFLOW : ∀ a, km.fld (R.PG.ERR_OVERFLOW a)) (hPG_ERR_SOURCE : ∀ a, km.fld (R.PG.ERR_SOURCE a))
    (hPG_ERR_VALID : ∀ a, km.fld (R.PG.ERR_VALID a)) (hPG_EVT_PEND : ∀ a, km.fld (R.PG.EVT_PEND a)) (ref gnd : Int)
    (t : Nat) (s : State) (hs : s.Keeps km pq) : ∀ st, execFieldDone ref gnd t s = .next st → st.Keeps km pq := by
  unfold execFieldDone
  refine run_good hs (fun s hs => ?_)
  repeat' first
    | with_reducible assumption
    | with_reducible exact hCAL_TRIM_FIELD_CODE _
    | with_reducible exact hPG_ERR_ADDR_HI _
    | with_reducible exact hPG_ERR_ADDR_LO _
    | with_reducible exact hPG_ERR_CODE _
    | with_reducible exact hPG_ERR_COUNT _
    | with_reducible exact hPG_ERR_OVERFLOW _
    | with_reducible exact hPG_ERR_SOURCE _
    | with_reducible exact hPG_ERR_VALID _
    | with_reducible exact hPG_EVT_PEND _
    | (intro _)
    | with_reducible apply State.tick_good
    | with_reducible apply State.fieldDone_good

end Sys2Proof.Machine
end

