-- ==== Sys2Proof/Laws/KeepsCompose.lean ====
section
/-!
SUPPORT. Every function of Machine/Compose.lean changes what the hypotheses of its lemma name, and nothing else.
-/
namespace Sys2Proof.Machine
set_option Elab.async false
set_option linter.unusedVariables false
set_option linter.unusedTactic false
set_option linter.unreachableTactic false

variable {km : May} {pq : State}

theorem State.cardChecked_good (out : km.part .out)
    (hDEP_MODE_CHECK_DEP_PENDING : km.fld R.DEP.MODE_CHECK.DEP_PENDING)
    (hDEP_MODE_CHECK_EPOCH_PENDING : km.fld R.DEP.MODE_CHECK.EPOCH_PENDING)
    (hDEP_MODE_CHECK_FIELDS : km.fld R.DEP.MODE_CHECK.FIELDS) (hDEP_MODE_CHECK_RULE : km.fld R.DEP.MODE_CHECK.RULE)
    (hDEP_MODE_CHECK_VALID : km.fld R.DEP.MODE_CHECK.VALID)
    (hDEP_MODE_CTRL_FB_VALID : km.fld R.DEP.MODE_CTRL.FB_VALID)
    (hMAP_CARD_STAT_CHECK_BUSY : km.fld R.MAP.CARD_STAT.CHECK_BUSY)
    (hMAP_CARD_STAT_CHECK_CARD : km.fld R.MAP.CARD_STAT.CHECK_CARD)
    (hMAP_CARD_STAT_CHECK_CODE : km.fld R.MAP.CARD_STAT.CHECK_CODE) (hPG_EVT_PEND : ∀ a, km.fld (R.PG.EVT_PEND a))
    (s : State) (hs : s.Keeps km pq) : (State.cardChecked s).Keeps km pq := by
  unfold State.cardChecked
  repeat' first
    | with_reducible assumption
    | with_reducible exact hPG_EVT_PEND _
    | ((try lift_lets -underBinder); intro x; refine Keep.use (k := km) (q := pq) (s := x) ?_ ?_; (on_goal 1 => dsimp -zeta only [x]); (on_goal 2 => clear_value x; intro _))
    | ((try lift_lets -underBinder); intro x; refine Keep.usePair (k := km) (q := pq) (p := x) ?_ ?_; (on_goal 1 => dsimp -zeta only [x]); (on_goal 2 => clear_value x; intro _))
    | ((try lift_lets -underBinder); intro x; refine Keep.memSt (x := x) ?_; subst x)
    | ((try lift_lets -underBinder); intro x; refine Keep.depSt (x := x) ?_; subst x)
    | ((try lift_lets -underBinder); intro x; clear_value x)
    | (intro _)
    | with_reducible apply Keep.ite
    | with_reducible apply Keep.ite1
    | dsimp -zeta only
    | with_reducible apply State.set_good
    | with_reducible apply State.evaluate_good
    | with_reducible apply State.ev_good

theorem State.showPanels_good (hSPI_SP_ACTIVE_PANELS : km.fld R.SPI.SP_ACTIVE.PANELS) (s : State)
    (hs : s.Keeps km pq) : (State.showPanels s).Keeps km pq := by
  unfold State.showPanels
  repeat' first
    | with_reducible assumption
    | (intro _)
    | with_reducible apply State.set_good

theorem State.exchangeSpire_good (tim : km.part .tim) (cmp : km.part .cmp) (mem : km.part .mem)
    (hSPI_SP_ACTIVE_PANELS : km.fld R.SPI.SP_ACTIVE.PANELS) (hSPI_SP_STAT_BAD : km.fld R.SPI.SP_STAT.BAD)
    (hSPI_SP_STAT_SYNCING : km.fld R.SPI.SP_STAT.SYNCING)
    (hTIM_DOM_OFFSET_OFFSET : ∀ a, km.fld (R.TIM.DOM_OFFSET.OFFSET a))
    (hTIM_DOM_RATE_RATE : ∀ a, km.fld (R.TIM.DOM_RATE.RATE a)) (s : State) (hs : s.Keeps km pq) : (State.exchangeSpire s).Keeps km pq := by
  unfold State.exchangeSpire
  repeat' first
    | with_reducible assumption
    | with_reducible exact hTIM_DOM_OFFSET_OFFSET _
    | with_reducible exact hTIM_DOM_RATE_RATE _
    | ((try lift_lets -underBinder); intro x; refine Keep.use (k := km) (q := pq) (s := x) ?_ ?_; (on_goal 1 => dsimp -zeta only [x]); (on_goal 2 => clear_value x; intro _))
    | ((try lift_lets -underBinder); intro x; refine Keep.usePair (k := km) (q := pq) (p := x) ?_ ?_; (on_goal 1 => dsimp -zeta only [x]); (on_goal 2 => clear_value x; intro _))
    | ((try lift_lets -underBinder); intro x; refine Keep.memSt (x := x) ?_; subst x)
    | ((try lift_lets -underBinder); intro x; refine Keep.depSt (x := x) ?_; subst x)
    | ((try lift_lets -underBinder); intro x; clear_value x)
    | (intro _)
    | with_reducible apply State.set_good
    | with_reducible apply State.showPanels_good
    | with_reducible apply State.bankMarks_good
    | (simp -zeta only [Keep.mk_iff]; with_reducible refine Keep.upd ?_ rfl ?_; on_goal 2 => (and_intros <;> with_reducible first | exact .inl rfl | exact .inl ⟨rfl, rfl, rfl⟩ | exact .inr ‹_› | exact Nat.le_refl _ | exact Nat.le_add_right _ _))

theorem State.spireStore_good (cmp : km.part .cmp) (s : State) (o n v : Nat) (hs : s.Keeps km pq) : (State.spireStore s o n v).Keeps km pq := by
  unfold State.spireStore
  repeat' first
    | with_reducible assumption
    | ((try lift_lets -underBinder); intro x; refine Keep.use (k := km) (q := pq) (s := x) ?_ ?_; (on_goal 1 => dsimp -zeta only [x]); (on_goal 2 => clear_value x; intro _))
    | ((try lift_lets -underBinder); intro x; refine Keep.usePair (k := km) (q := pq) (p := x) ?_ ?_; (on_goal 1 => dsimp -zeta only [x]); (on_goal 2 => clear_value x; intro _))
    | ((try lift_lets -underBinder); intro x; refine Keep.memSt (x := x) ?_; subst x)
    | ((try lift_lets -underBinder); intro x; refine Keep.depSt (x := x) ?_; subst x)
    | ((try lift_lets -underBinder); intro x; clear_value x)
    | (intro _)
    | with_reducible apply Keep.ite
    | (simp -zeta only [Keep.mk_iff]; with_reducible refine Keep.upd ?_ rfl ?_; on_goal 2 => (and_intros <;> with_reducible first | exact .inl rfl | exact .inl ⟨rfl, rfl, rfl⟩ | exact .inr ‹_› | exact Nat.le_refl _ | exact Nat.le_add_right _ _))

theorem State.spireWrite_good (cmp : km.part .cmp) (s : State) (o n v : Nat) (hs : s.Keeps km pq) : (State.spireWrite s o n v).Keeps km pq := by
  unfold State.spireWrite
  repeat' first
    | with_reducible assumption
    | ((try lift_lets -underBinder); intro x; refine Keep.use (k := km) (q := pq) (s := x) ?_ ?_; (on_goal 1 => dsimp -zeta only [x]); (on_goal 2 => clear_value x; intro _))
    | ((try lift_lets -underBinder); intro x; refine Keep.usePair (k := km) (q := pq) (p := x) ?_ ?_; (on_goal 1 => dsimp -zeta only [x]); (on_goal 2 => clear_value x; intro _))
    | ((try lift_lets -underBinder); intro x; refine Keep.memSt (x := x) ?_; subst x)
    | ((try lift_lets -underBinder); intro x; refine Keep.depSt (x := x) ?_; subst x)
    | ((try lift_lets -underBinder); intro x; clear_value x)
    | (intro _)
    | with_reducible apply Keep.ite
    | with_reducible apply State.spireStore_good
    | (simp -zeta only [Keep.mk_iff]; with_reducible refine Keep.upd ?_ rfl ?_; on_goal 2 => (and_intros <;> with_reducible first | exact .inl rfl | exact .inl ⟨rfl, rfl, rfl⟩ | exact .inr ‹_› | exact Nat.le_refl _ | exact Nat.le_add_right _ _))

theorem State.contentCheck_good (out : km.part .out) (tim : km.part .tim)
    (hPG_EVT_PEND : ∀ a, km.fld (R.PG.EVT_PEND a)) (hSPI_SP_STAT_BAD : km.fld R.SPI.SP_STAT.BAD)
    (hTIM_DOM_OFFSET_OFFSET : ∀ a, km.fld (R.TIM.DOM_OFFSET.OFFSET a))
    (hTIM_DOM_RATE_RATE : ∀ a, km.fld (R.TIM.DOM_RATE.RATE a)) (s : State) (hs : s.Keeps km pq) : (State.contentCheck s).Keeps km pq := by
  unfold State.contentCheck
  repeat' first
    | with_reducible assumption
    | with_reducible exact hPG_EVT_PEND _
    | with_reducible exact hTIM_DOM_OFFSET_OFFSET _
    | with_reducible exact hTIM_DOM_RATE_RATE _
    | ((try lift_lets -underBinder); intro x; refine Keep.use (k := km) (q := pq) (s := x) ?_ ?_; (on_goal 1 => dsimp -zeta only [x]); (on_goal 2 => clear_value x; intro _))
    | ((try lift_lets -underBinder); intro x; refine Keep.usePair (k := km) (q := pq) (p := x) ?_ ?_; (on_goal 1 => dsimp -zeta only [x]); (on_goal 2 => clear_value x; intro _))
    | ((try lift_lets -underBinder); intro x; refine Keep.memSt (x := x) ?_; subst x)
    | ((try lift_lets -underBinder); intro x; refine Keep.depSt (x := x) ?_; subst x)
    | ((try lift_lets -underBinder); intro x; clear_value x)
    | (intro _)
    | with_reducible apply State.filter_good
    | with_reducible apply State.set_good
    | with_reducible apply State.evIf_good

theorem State.showFading_good (hLAY_L_STAT_FADING : ∀ a, km.fld (R.LAY.L_STAT.FADING a)) (s : State)
    (hs : s.Keeps km pq) : (State.showFading s).Keeps km pq := by
  unfold State.showFading
  repeat' first
    | with_reducible assumption
    | with_reducible exact hLAY_L_STAT_FADING _
    | (intro _)
    | with_reducible apply State.forN_good
    | with_reducible apply State.set_good

theorem State.stepFades_good (out : km.part .out) (hCOL_MFADE_POS_POS : km.fld R.COL.MFADE_POS.POS)
    (hLAY_L_FADE_POS_POS : ∀ a, km.fld (R.LAY.L_FADE_POS.POS a))
    (hLAY_L_STAT_FADING : ∀ a, km.fld (R.LAY.L_STAT.FADING a)) (hPG_EVT_PEND : ∀ a, km.fld (R.PG.EVT_PEND a))
    (s : State) (hs : s.Keeps km pq) : (State.stepFades s).Keeps km pq := by
  unfold State.stepFades
  repeat' first
    | with_reducible assumption
    | with_reducible exact hLAY_L_FADE_POS_POS _
    | with_reducible exact hLAY_L_STAT_FADING _
    | with_reducible exact hPG_EVT_PEND _
    | ((try lift_lets -underBinder); intro x; refine Keep.use (k := km) (q := pq) (s := x) ?_ ?_; (on_goal 1 => dsimp -zeta only [x]); (on_goal 2 => clear_value x; intro _))
    | ((try lift_lets -underBinder); intro x; refine Keep.usePair (k := km) (q := pq) (p := x) ?_ ?_; (on_goal 1 => dsimp -zeta only [x]); (on_goal 2 => clear_value x; intro _))
    | ((try lift_lets -underBinder); intro x; refine Keep.memSt (x := x) ?_; subst x)
    | ((try lift_lets -underBinder); intro x; refine Keep.depSt (x := x) ?_; subst x)
    | ((try lift_lets -underBinder); intro x; clear_value x)
    | (intro _)
    | with_reducible apply Keep.ite
    | with_reducible apply State.forN_good
    | with_reducible apply State.set_good
    | with_reducible apply State.evIf_good
    | with_reducible apply State.showFading_good

theorem State.latchPicture_good (out : km.part .out) (tim : km.part .tim) (map : km.part .map) (cmp : km.part .cmp)
    (hLAY_L_STAT_NO_KEY : ∀ a, km.fld (R.LAY.L_STAT.NO_KEY a)) (hPG_EVT_PEND : ∀ a, km.fld (R.PG.EVT_PEND a))
    (hTIM_DOM_OFFSET_OFFSET : ∀ a, km.fld (R.TIM.DOM_OFFSET.OFFSET a))
    (hTIM_DOM_RATE_RATE : ∀ a, km.fld (R.TIM.DOM_RATE.RATE a)) (s : State) (hs : s.Keeps km pq) : (State.latchPicture s).Keeps km pq := by
  unfold State.latchPicture
  repeat' first
    | with_reducible assumption
    | with_reducible exact hLAY_L_STAT_NO_KEY _
    | with_reducible exact hPG_EVT_PEND _
    | with_reducible exact hTIM_DOM_OFFSET_OFFSET _
    | with_reducible exact hTIM_DOM_RATE_RATE _
    | ((try lift_lets -underBinder); intro x; refine Keep.use (k := km) (q := pq) (s := x) ?_ ?_; (on_goal 1 => dsimp -zeta only [x]); (on_goal 2 => clear_value x; intro _))
    | ((try lift_lets -underBinder); intro x; refine Keep.usePair (k := km) (q := pq) (p := x) ?_ ?_; (on_goal 1 => dsimp -zeta only [x]); (on_goal 2 => clear_value x; intro _))
    | ((try lift_lets -underBinder); intro x; refine Keep.memSt (x := x) ?_; subst x)
    | ((try lift_lets -underBinder); intro x; refine Keep.depSt (x := x) ?_; subst x)
    | ((try lift_lets -underBinder); intro x; clear_value x)
    | (intro _)
    | with_reducible apply State.latchCards_good
    | with_reducible apply State.filter_good
    | with_reducible apply State.forN_good
    | with_reducible apply State.set_good
    | with_reducible apply State.evIf_good
    | (simp -zeta only [Keep.mk_iff]; with_reducible refine Keep.upd ?_ rfl ?_; on_goal 2 => (and_intros <;> with_reducible first | exact .inl rfl | exact .inl ⟨rfl, rfl, rfl⟩ | exact .inr ‹_› | exact Nat.le_refl _ | exact Nat.le_add_right _ _))

theorem State.stopPicture_good (cmp : km.part .cmp) (s : State) (b : Nat) (hs : s.Keeps km pq) : (State.stopPicture s b).Keeps km pq := by
  unfold State.stopPicture
  repeat' first
    | with_reducible assumption
    | ((try lift_lets -underBinder); intro x; refine Keep.use (k := km) (q := pq) (s := x) ?_ ?_; (on_goal 1 => dsimp -zeta only [x]); (on_goal 2 => clear_value x; intro _))
    | ((try lift_lets -underBinder); intro x; refine Keep.usePair (k := km) (q := pq) (p := x) ?_ ?_; (on_goal 1 => dsimp -zeta only [x]); (on_goal 2 => clear_value x; intro _))
    | ((try lift_lets -underBinder); intro x; refine Keep.memSt (x := x) ?_; subst x)
    | ((try lift_lets -underBinder); intro x; refine Keep.depSt (x := x) ?_; subst x)
    | ((try lift_lets -underBinder); intro x; clear_value x)
    | (intro _)
    | with_reducible apply Keep.ite
    | (simp -zeta only [Keep.mk_iff]; with_reducible refine Keep.upd ?_ rfl ?_; on_goal 2 => (and_intros <;> with_reducible first | exact .inl rfl | exact .inl ⟨rfl, rfl, rfl⟩ | exact .inr ‹_› | exact Nat.le_refl _ | exact Nat.le_add_right _ _))

theorem State.portFrameEv_good (out : km.part .out) (otg : km.part .otg)
    (hPG_EVT_PEND : ∀ a, km.fld (R.PG.EVT_PEND a)) (s : State) (p : Nat) (c : Bool) (b k : Nat) (hs : s.Keeps km pq)
    : (State.portFrameEv s p c b k).Keeps km pq := by
  unfold State.portFrameEv
  repeat' first
    | with_reducible assumption
    | with_reducible exact hPG_EVT_PEND _
    | ((try lift_lets -underBinder); intro x; refine Keep.use (k := km) (q := pq) (s := x) ?_ ?_; (on_goal 1 => dsimp -zeta only [x]); (on_goal 2 => clear_value x; intro _))
    | ((try lift_lets -underBinder); intro x; refine Keep.usePair (k := km) (q := pq) (p := x) ?_ ?_; (on_goal 1 => dsimp -zeta only [x]); (on_goal 2 => clear_value x; intro _))
    | ((try lift_lets -underBinder); intro x; refine Keep.memSt (x := x) ?_; subst x)
    | ((try lift_lets -underBinder); intro x; refine Keep.depSt (x := x) ?_; subst x)
    | ((try lift_lets -underBinder); intro x; clear_value x)
    | (intro _)
    | with_reducible apply Keep.ite
    | with_reducible apply State.ev_good
    | (simp -zeta only [Keep.mk_iff]; with_reducible refine Keep.upd ?_ rfl ?_; on_goal 2 => (and_intros <;> with_reducible first | exact .inl rfl | exact .inl ⟨rfl, rfl, rfl⟩ | exact .inr ‹_› | exact Nat.le_refl _ | exact Nat.le_add_right _ _))

theorem State.frameEv_good (out : km.part .out) (otg : km.part .otg) (hPG_EVT_PEND : ∀ a, km.fld (R.PG.EVT_PEND a))
    (s : State) (c : Bool) (b k : Nat) (hs : s.Keeps km pq) : (State.frameEv s c b k).Keeps km pq := by
  unfold State.frameEv
  repeat' first
    | with_reducible assumption
    | with_reducible exact hPG_EVT_PEND _
    | (intro _)
    | with_reducible apply State.portFrameEv_good

theorem State.framePoison_good (out : km.part .out) (otg : km.part .otg) (line : km.part .line)
    (hPG_ERR_ADDR_HI : ∀ a, km.fld (R.PG.ERR_ADDR_HI a)) (hPG_ERR_ADDR_LO : ∀ a, km.fld (R.PG.ERR_ADDR_LO a))
    (hPG_ERR_CODE : ∀ a, km.fld (R.PG.ERR_CODE a)) (hPG_ERR_COUNT : ∀ a, km.fld (R.PG.ERR_COUNT a))
    (hPG_ERR_OVERFLOW : ∀ a, km.fld (R.PG.ERR_OVERFLOW a)) (hPG_ERR_SOURCE : ∀ a, km.fld (R.PG.ERR_SOURCE a))
    (hPG_ERR_VALID : ∀ a, km.fld (R.PG.ERR_VALID a)) (hPG_EVT_PEND : ∀ a, km.fld (R.PG.EVT_PEND a))
    (hPG_POISON_SEEN : ∀ a, km.fld (R.PG.POISON_SEEN a)) (s : State) (b : Nat) (l : List Nat) (hs : s.Keeps km pq) : (State.framePoison s b l).Keeps km pq := by
  unfold State.framePoison
  repeat' first
    | with_reducible assumption
    | with_reducible exact hPG_ERR_ADDR_HI _
    | with_reducible exact hPG_ERR_ADDR_LO _
    | with_reducible exact hPG_ERR_CODE _
    | with_reducible exact hPG_ERR_COUNT _
    | with_reducible exact hPG_ERR_OVERFLOW _
    | with_reducible exact hPG_ERR_SOURCE _
    | with_reducible exact hPG_ERR_VALID _
    | with_reducible exact hPG_EVT_PEND _
    | with_reducible exact hPG_POISON_SEEN _
    | ((try lift_lets -underBinder); intro x; refine Keep.use (k := km) (q := pq) (s := x) ?_ ?_; (on_goal 1 => dsimp -zeta only [x]); (on_goal 2 => clear_value x; intro _))
    | ((try lift_lets -underBinder); intro x; refine Keep.usePair (k := km) (q := pq) (p := x) ?_ ?_; (on_goal 1 => dsimp -zeta only [x]); (on_goal 2 => clear_value x; intro _))
    | ((try lift_lets -underBinder); intro x; refine Keep.memSt (x := x) ?_; subst x)
    | ((try lift_lets -underBinder); intro x; refine Keep.depSt (x := x) ?_; subst x)
    | ((try lift_lets -underBinder); intro x; clear_value x)
    | (intro _)
    | with_reducible apply Keep.ite
    | with_reducible apply State.poison_good
    | split
    | (simp -zeta only [Keep.mk_iff]; with_reducible refine Keep.upd ?_ rfl ?_; on_goal 2 => (and_intros <;> with_reducible first | exact .inl rfl | exact .inl ⟨rfl, rfl, rfl⟩ | exact .inr ‹_› | exact Nat.le_refl _ | exact Nat.le_add_right _ _))

theorem State.readWords_good (out : km.part .out) (tim : km.part .tim) (otg : km.part .otg) (mem : km.part .mem)
    (dram : km.part .dram) (hLOG_LOG_ADDR_LO_ADDR : ∀ a, km.fld (R.LOG.LOG_ADDR_LO.ADDR a))
    (hLOG_LOG_INFO_ADDR_HI : ∀ a, km.fld (R.LOG.LOG_INFO.ADDR_HI a))
    (hLOG_LOG_INFO_ARRAY : ∀ a, km.fld (R.LOG.LOG_INFO.ARRAY a))
    (hLOG_LOG_INFO_BYTES : ∀ a, km.fld (R.LOG.LOG_INFO.BYTES a))
    (hLOG_LOG_INFO_CHANNEL : ∀ a, km.fld (R.LOG.LOG_INFO.CHANNEL a))
    (hLOG_LOG_INFO_CODE : ∀ a, km.fld (R.LOG.LOG_INFO.CODE a))
    (hLOG_LOG_INFO_PORT : ∀ a, km.fld (R.LOG.LOG_INFO.PORT a))
    (hLOG_LOG_INFO_SRAM : ∀ a, km.fld (R.LOG.LOG_INFO.SRAM a))
    (hLOG_LOG_TIME_HI_NS : ∀ a, km.fld (R.LOG.LOG_TIME_HI.NS a))
    (hLOG_LOG_TIME_LO_NS : ∀ a, km.fld (R.LOG.LOG_TIME_LO.NS a))
    (hMAP_REFETCH_CNT_COUNT : km.fld R.MAP.REFETCH_CNT.COUNT)
    (hMEM_CH_STAT_FILLED : ∀ a, km.fld (R.MEM.CH_STAT.FILLED a))
    (hMEM_CH_STAT_MIRROR_OK : ∀ a, km.fld (R.MEM.CH_STAT.MIRROR_OK a))
    (hMEM_CH_STAT_STATE : ∀ a, km.fld (R.MEM.CH_STAT.STATE a))
    (hPAR_DRAM_ERR_CNT_COUNT : km.fld R.PAR.DRAM_ERR_CNT.COUNT) (hPAR_LOG_STAT_NEXT : km.fld R.PAR.LOG_STAT.NEXT)
    (hPAR_LOG_STAT_TOTAL : km.fld R.PAR.LOG_STAT.TOTAL) (hPAR_LOG_STAT_WRAPPED : km.fld R.PAR.LOG_STAT.WRAPPED)
    (hPAR_MIRROR_FIX_CNT_COUNT : km.fld R.PAR.MIRROR_FIX_CNT.COUNT)
    (hPG_ERR_ADDR_HI : ∀ a, km.fld (R.PG.ERR_ADDR_HI a)) (hPG_ERR_ADDR_LO : ∀ a, km.fld (R.PG.ERR_ADDR_LO a))
    (hPG_ERR_CODE : ∀ a, km.fld (R.PG.ERR_CODE a)) (hPG_ERR_COUNT : ∀ a, km.fld (R.PG.ERR_COUNT a))
    (hPG_ERR_OVERFLOW : ∀ a, km.fld (R.PG.ERR_OVERFLOW a)) (hPG_ERR_SOURCE : ∀ a, km.fld (R.PG.ERR_SOURCE a))
    (hPG_ERR_VALID : ∀ a, km.fld (R.PG.ERR_VALID a)) (hPG_EVT_PEND : ∀ a, km.fld (R.PG.EVT_PEND a))
    (hTIM_DOM_OFFSET_OFFSET : ∀ a, km.fld (R.TIM.DOM_OFFSET.OFFSET a))
    (hTIM_DOM_RATE_RATE : ∀ a, km.fld (R.TIM.DOM_RATE.RATE a)) (s : State) (pr : Probe) (hs : s.Keeps km pq) : (State.readWords s pr).Keeps km pq := by
  unfold State.readWords
  repeat' first
    | with_reducible assumption
    | with_reducible exact hLOG_LOG_ADDR_LO_ADDR _
    | with_reducible exact hLOG_LOG_INFO_ADDR_HI _
    | with_reducible exact hLOG_LOG_INFO_ARRAY _
    | with_reducible exact hLOG_LOG_INFO_BYTES _
    | with_reducible exact hLOG_LOG_INFO_CHANNEL _
    | with_reducible exact hLOG_LOG_INFO_CODE _
    | with_reducible exact hLOG_LOG_INFO_PORT _
    | with_reducible exact hLOG_LOG_INFO_SRAM _
    | with_reducible exact hLOG_LOG_TIME_HI_NS _
    | with_reducible exact hLOG_LOG_TIME_LO_NS _
    | with_reducible exact hMEM_CH_STAT_FILLED _
    | with_reducible exact hMEM_CH_STAT_MIRROR_OK _
    | with_reducible exact hMEM_CH_STAT_STATE _
    | with_reducible exact hPG_ERR_ADDR_HI _
    | with_reducible exact hPG_ERR_ADDR_LO _
    | with_reducible exact hPG_ERR_CODE _
    | with_reducible exact hPG_ERR_COUNT _
    | with_reducible exact hPG_ERR_OVERFLOW _
    | with_reducible exact hPG_ERR_SOURCE _
    | with_reducible exact hPG_ERR_VALID _
    | with_reducible exact hPG_EVT_PEND _
    | with_reducible exact hTIM_DOM_OFFSET_OFFSET _
    | with_reducible exact hTIM_DOM_RATE_RATE _
    | ((try lift_lets -underBinder); intro x; refine Keep.use (k := km) (q := pq) (s := x) ?_ ?_; (on_goal 1 => dsimp -zeta only [x]); (on_goal 2 => clear_value x; intro _))
    | ((try lift_lets -underBinder); intro x; refine Keep.usePair (k := km) (q := pq) (p := x) ?_ ?_; (on_goal 1 => dsimp -zeta only [x]); (on_goal 2 => clear_value x; intro _))
    | ((try lift_lets -underBinder); intro x; refine Keep.memSt (x := x) ?_; subst x)
    | ((try lift_lets -underBinder); intro x; refine Keep.depSt (x := x) ?_; subst x)
    | ((try lift_lets -underBinder); intro x; clear_value x)
    | (intro _)
    | with_reducible apply Keep.ite
    | with_reducible apply State.filter_good
    | with_reducible apply State.dramRead_good
    | with_reducible apply State.count_good
    | with_reducible apply State.draw_good
    | with_reducible apply State.frameEv_good
    | (simp -zeta only [Keep.mk_iff]; with_reducible refine Keep.upd ?_ rfl ?_; on_goal 2 => (and_intros <;> with_reducible first | exact .inl rfl | exact .inl ⟨rfl, rfl, rfl⟩ | exact .inr ‹_› | exact Nat.le_refl _ | exact Nat.le_add_right _ _))
    | with_reducible apply Keep.foldl

theorem State.readLines_good (out : km.part .out) (tim : km.part .tim) (ing : km.part .ing) (otg : km.part .otg)
    (hING_FOLLOW_CNT_LATE : km.fld R.ING.FOLLOW_CNT.LATE) (hPG_EVT_PEND : ∀ a, km.fld (R.PG.EVT_PEND a))
    (hTIM_DOM_OFFSET_OFFSET : ∀ a, km.fld (R.TIM.DOM_OFFSET.OFFSET a))
    (hTIM_DOM_RATE_RATE : ∀ a, km.fld (R.TIM.DOM_RATE.RATE a)) (s : State) (n : Nat) (pr : Probe)
    (hs : s.Keeps km pq) : (State.readLines s n pr).Keeps km pq := by
  unfold State.readLines
  repeat' first
    | with_reducible assumption
    | with_reducible exact hPG_EVT_PEND _
    | with_reducible exact hTIM_DOM_OFFSET_OFFSET _
    | with_reducible exact hTIM_DOM_RATE_RATE _
    | ((try lift_lets -underBinder); intro x; refine Keep.use (k := km) (q := pq) (s := x) ?_ ?_; (on_goal 1 => dsimp -zeta only [x]); (on_goal 2 => clear_value x; intro _))
    | ((try lift_lets -underBinder); intro x; refine Keep.usePair (k := km) (q := pq) (p := x) ?_ ?_; (on_goal 1 => dsimp -zeta only [x]); (on_goal 2 => clear_value x; intro _))
    | ((try lift_lets -underBinder); intro x; refine Keep.memSt (x := x) ?_; subst x)
    | ((try lift_lets -underBinder); intro x; refine Keep.depSt (x := x) ?_; subst x)
    | ((try lift_lets -underBinder); intro x; clear_value x)
    | (intro _)
    | with_reducible apply State.filter_good
    | with_reducible apply State.count_good
    | with_reducible apply State.frameEv_good
    | (simp -zeta only [Keep.mk_iff]; with_reducible refine Keep.upd ?_ rfl ?_; on_goal 2 => (and_intros <;> with_reducible first | exact .inl rfl | exact .inl ⟨rfl, rfl, rfl⟩ | exact .inr ‹_› | exact Nat.le_refl _ | exact Nat.le_add_right _ _))

theorem State.applyTally_good (out : km.part .out) (tim : km.part .tim) (ing : km.part .ing) (otg : km.part .otg)
    (mem : km.part .mem) (dram : km.part .dram) (line : km.part .line)
    (hCMP_EXTEND_CNT_COUNT : km.fld R.CMP.EXTEND_CNT.COUNT) (hCMP_SKIP_CNT_COUNT : km.fld R.CMP.SKIP_CNT.COUNT)
    (hDEP_SKIP_CNT_SKIPPED : km.fld R.DEP.SKIP_CNT.SKIPPED) (hING_FOLLOW_CNT_LATE : km.fld R.ING.FOLLOW_CNT.LATE)
    (hKLC_BLOCK_CNT_A_COUNT : km.fld R.KLC.BLOCK_CNT_A.COUNT)
    (hKLC_BLOCK_CNT_B_COUNT : km.fld R.KLC.BLOCK_CNT_B.COUNT) (hKLC_BOUND_CNT_A : km.fld R.KLC.BOUND_CNT.A)
    (hKLC_BOUND_CNT_B : km.fld R.KLC.BOUND_CNT.B) (hLOG_LOG_ADDR_LO_ADDR : ∀ a, km.fld (R.LOG.LOG_ADDR_LO.ADDR a))
    (hLOG_LOG_INFO_ADDR_HI : ∀ a, km.fld (R.LOG.LOG_INFO.ADDR_HI a))
    (hLOG_LOG_INFO_ARRAY : ∀ a, km.fld (R.LOG.LOG_INFO.ARRAY a))
    (hLOG_LOG_INFO_BYTES : ∀ a, km.fld (R.LOG.LOG_INFO.BYTES a))
    (hLOG_LOG_INFO_CHANNEL : ∀ a, km.fld (R.LOG.LOG_INFO.CHANNEL a))
    (hLOG_LOG_INFO_CODE : ∀ a, km.fld (R.LOG.LOG_INFO.CODE a))
    (hLOG_LOG_INFO_PORT : ∀ a, km.fld (R.LOG.LOG_INFO.PORT a))
    (hLOG_LOG_INFO_SRAM : ∀ a, km.fld (R.LOG.LOG_INFO.SRAM a))
    (hLOG_LOG_TIME_HI_NS : ∀ a, km.fld (R.LOG.LOG_TIME_HI.NS a))
    (hLOG_LOG_TIME_LO_NS : ∀ a, km.fld (R.LOG.LOG_TIME_LO.NS a))
    (hMAP_DEGEN_CNT_COUNT : km.fld R.MAP.DEGEN_CNT.COUNT) (hMAP_OUTSIDE_CNT_COUNT : km.fld R.MAP.OUTSIDE_CNT.COUNT)
    (hMAP_REFETCH_CNT_COUNT : km.fld R.MAP.REFETCH_CNT.COUNT)
    (hMEM_CH_STAT_FILLED : ∀ a, km.fld (R.MEM.CH_STAT.FILLED a))
    (hMEM_CH_STAT_MIRROR_OK : ∀ a, km.fld (R.MEM.CH_STAT.MIRROR_OK a))
    (hMEM_CH_STAT_STATE : ∀ a, km.fld (R.MEM.CH_STAT.STATE a))
    (hPAR_DRAM_ERR_CNT_COUNT : km.fld R.PAR.DRAM_ERR_CNT.COUNT) (hPAR_LOG_STAT_NEXT : km.fld R.PAR.LOG_STAT.NEXT)
    (hPAR_LOG_STAT_TOTAL : km.fld R.PAR.LOG_STAT.TOTAL) (hPAR_LOG_STAT_WRAPPED : km.fld R.PAR.LOG_STAT.WRAPPED)
    (hPAR_MIRROR_FIX_CNT_COUNT : km.fld R.PAR.MIRROR_FIX_CNT.COUNT)
    (hPG_ERR_ADDR_HI : ∀ a, km.fld (R.PG.ERR_ADDR_HI a)) (hPG_ERR_ADDR_LO : ∀ a, km.fld (R.PG.ERR_ADDR_LO a))
    (hPG_ERR_CODE : ∀ a, km.fld (R.PG.ERR_CODE a)) (hPG_ERR_COUNT : ∀ a, km.fld (R.PG.ERR_COUNT a))
    (hPG_ERR_OVERFLOW : ∀ a, km.fld (R.PG.ERR_OVERFLOW a)) (hPG_ERR_SOURCE : ∀ a, km.fld (R.PG.ERR_SOURCE a))
    (hPG_ERR_VALID : ∀ a, km.fld (R.PG.ERR_VALID a)) (hPG_EVT_PEND : ∀ a, km.fld (R.PG.EVT_PEND a))
    (hPG_POISON_SEEN : ∀ a, km.fld (R.PG.POISON_SEEN a))
    (hTIM_DOM_OFFSET_OFFSET : ∀ a, km.fld (R.TIM.DOM_OFFSET.OFFSET a))
    (hTIM_DOM_RATE_RATE : ∀ a, km.fld (R.TIM.DOM_RATE.RATE a)) (s : State) (n p : Nat) (a : Tally) (errs : List Nat)
    (hs : s.Keeps km pq) : (State.applyTally s n p a errs).Keeps km pq := by
  unfold State.applyTally
  repeat' first
    | with_reducible assumption
    | with_reducible exact hLOG_LOG_ADDR_LO_ADDR _
    | with_reducible exact hLOG_LOG_INFO_ADDR_HI _
    | with_reducible exact hLOG_LOG_INFO_ARRAY _
    | with_reducible exact hLOG_LOG_INFO_BYTES _
    | with_reducible exact hLOG_LOG_INFO_CHANNEL _
    | with_reducible exact hLOG_LOG_INFO_CODE _
    | with_reducible exact hLOG_LOG_INFO_PORT _
    | with_reducible exact hLOG_LOG_INFO_SRAM _
    | with_reducible exact hLOG_LOG_TIME_HI_NS _
    | with_reducible exact hLOG_LOG_TIME_LO_NS _
    | with_reducible exact hMEM_CH_STAT_FILLED _
    | with_reducible exact hMEM_CH_STAT_MIRROR_OK _
    | with_reducible exact hMEM_CH_STAT_STATE _
    | with_reducible exact hPG_ERR_ADDR_HI _
    | with_reducible exact hPG_ERR_ADDR_LO _
    | with_reducible exact hPG_ERR_CODE _
    | with_reducible exact hPG_ERR_COUNT _
    | with_reducible exact hPG_ERR_OVERFLOW _
    | with_reducible exact hPG_ERR_SOURCE _
    | with_reducible exact hPG_ERR_VALID _
    | with_reducible exact hPG_EVT_PEND _
    | with_reducible exact hPG_POISON_SEEN _
    | with_reducible exact hTIM_DOM_OFFSET_OFFSET _
    | with_reducible exact hTIM_DOM_RATE_RATE _
    | (show km.fld _; split <;> first | assumption | exact hCMP_EXTEND_CNT_COUNT | exact hCMP_SKIP_CNT_COUNT | exact hDEP_SKIP_CNT_SKIPPED | exact hING_FOLLOW_CNT_LATE | exact hKLC_BLOCK_CNT_A_COUNT | exact hKLC_BLOCK_CNT_B_COUNT | exact hKLC_BOUND_CNT_A | exact hKLC_BOUND_CNT_B | exact hLOG_LOG_ADDR_LO_ADDR _ | exact hLOG_LOG_INFO_ADDR_HI _ | exact hLOG_LOG_INFO_ARRAY _ | exact hLOG_LOG_INFO_BYTES _ | exact hLOG_LOG_INFO_CHANNEL _ | exact hLOG_LOG_INFO_CODE _ | exact hLOG_LOG_INFO_PORT _ | exact hLOG_LOG_INFO_SRAM _ | exact hLOG_LOG_TIME_HI_NS _ | exact hLOG_LOG_TIME_LO_NS _ | exact hMAP_DEGEN_CNT_COUNT | exact hMAP_OUTSIDE_CNT_COUNT | exact hMAP_REFETCH_CNT_COUNT | exact hMEM_CH_STAT_FILLED _ | exact hMEM_CH_STAT_MIRROR_OK _ | exact hMEM_CH_STAT_STATE _ | exact hPAR_DRAM_ERR_CNT_COUNT | exact hPAR_LOG_STAT_NEXT | exact hPAR_LOG_STAT_TOTAL | exact hPAR_LOG_STAT_WRAPPED | exact hPAR_MIRROR_FIX_CNT_COUNT | exact hPG_ERR_ADDR_HI _ | exact hPG_ERR_ADDR_LO _ | exact hPG_ERR_CODE _ | exact hPG_ERR_COUNT _ | exact hPG_ERR_OVERFLOW _ | exact hPG_ERR_SOURCE _ | exact hPG_ERR_VALID _ | exact hPG_EVT_PEND _ | exact hPG_POISON_SEEN _ | exact hTIM_DOM_OFFSET_OFFSET _ | exact hTIM_DOM_RATE_RATE _)
    | ((try lift_lets -underBinder); intro x; refine Keep.use (k := km) (q := pq) (s := x) ?_ ?_; (on_goal 1 => dsimp -zeta only [x]); (on_goal 2 => clear_value x; intro _))
    | ((try lift_lets -underBinder); intro x; refine Keep.usePair (k := km) (q := pq) (p := x) ?_ ?_; (on_goal 1 => dsimp -zeta only [x]); (on_goal 2 => clear_value x; intro _))
    | ((try lift_lets -underBinder); intro x; refine Keep.memSt (x := x) ?_; subst x)
    | ((try lift_lets -underBinder); intro x; refine Keep.depSt (x := x) ?_; subst x)
    | ((try lift_lets -underBinder); intro x; clear_value x)
    | (intro _)
    | with_reducible apply Keep.ite
    | with_reducible apply State.count_good
    | with_reducible apply State.frameEv_good
    | with_reducible apply State.skip_good
    | with_reducible apply State.readWords_good
    | with_reducible apply State.readLines_good
    | with_reducible apply State.framePoison_good
    | with_reducible apply State.filter_good
    | with_reducible apply State.portFrameEv_good

theorem State.putRow_good (out : km.part .out) (tim : km.part .tim) (ing : km.part .ing) (otg : km.part .otg)
    (mem : km.part .mem) (dram : km.part .dram) (line : km.part .line)
    (hCMP_EXTEND_CNT_COUNT : km.fld R.CMP.EXTEND_CNT.COUNT) (hCMP_SKIP_CNT_COUNT : km.fld R.CMP.SKIP_CNT.COUNT)
    (hDEP_SKIP_CNT_SKIPPED : km.fld R.DEP.SKIP_CNT.SKIPPED) (hING_FOLLOW_CNT_LATE : km.fld R.ING.FOLLOW_CNT.LATE)
    (hKLC_BLOCK_CNT_A_COUNT : km.fld R.KLC.BLOCK_CNT_A.COUNT)
    (hKLC_BLOCK_CNT_B_COUNT : km.fld R.KLC.BLOCK_CNT_B.COUNT) (hKLC_BOUND_CNT_A : km.fld R.KLC.BOUND_CNT.A)
    (hKLC_BOUND_CNT_B : km.fld R.KLC.BOUND_CNT.B) (hLOG_LOG_ADDR_LO_ADDR : ∀ a, km.fld (R.LOG.LOG_ADDR_LO.ADDR a))
    (hLOG_LOG_INFO_ADDR_HI : ∀ a, km.fld (R.LOG.LOG_INFO.ADDR_HI a))
    (hLOG_LOG_INFO_ARRAY : ∀ a, km.fld (R.LOG.LOG_INFO.ARRAY a))
    (hLOG_LOG_INFO_BYTES : ∀ a, km.fld (R.LOG.LOG_INFO.BYTES a))
    (hLOG_LOG_INFO_CHANNEL : ∀ a, km.fld (R.LOG.LOG_INFO.CHANNEL a))
    (hLOG_LOG_INFO_CODE : ∀ a, km.fld (R.LOG.LOG_INFO.CODE a))
    (hLOG_LOG_INFO_PORT : ∀ a, km.fld (R.LOG.LOG_INFO.PORT a))
    (hLOG_LOG_INFO_SRAM : ∀ a, km.fld (R.LOG.LOG_INFO.SRAM a))
    (hLOG_LOG_TIME_HI_NS : ∀ a, km.fld (R.LOG.LOG_TIME_HI.NS a))
    (hLOG_LOG_TIME_LO_NS : ∀ a, km.fld (R.LOG.LOG_TIME_LO.NS a))
    (hMAP_DEGEN_CNT_COUNT : km.fld R.MAP.DEGEN_CNT.COUNT) (hMAP_OUTSIDE_CNT_COUNT : km.fld R.MAP.OUTSIDE_CNT.COUNT)
    (hMAP_REFETCH_CNT_COUNT : km.fld R.MAP.REFETCH_CNT.COUNT)
    (hMEM_CH_STAT_FILLED : ∀ a, km.fld (R.MEM.CH_STAT.FILLED a))
    (hMEM_CH_STAT_MIRROR_OK : ∀ a, km.fld (R.MEM.CH_STAT.MIRROR_OK a))
    (hMEM_CH_STAT_STATE : ∀ a, km.fld (R.MEM.CH_STAT.STATE a))
    (hPAR_DRAM_ERR_CNT_COUNT : km.fld R.PAR.DRAM_ERR_CNT.COUNT) (hPAR_LOG_STAT_NEXT : km.fld R.PAR.LOG_STAT.NEXT)
    (hPAR_LOG_STAT_TOTAL : km.fld R.PAR.LOG_STAT.TOTAL) (hPAR_LOG_STAT_WRAPPED : km.fld R.PAR.LOG_STAT.WRAPPED)
    (hPAR_MIRROR_FIX_CNT_COUNT : km.fld R.PAR.MIRROR_FIX_CNT.COUNT)
    (hPG_ERR_ADDR_HI : ∀ a, km.fld (R.PG.ERR_ADDR_HI a)) (hPG_ERR_ADDR_LO : ∀ a, km.fld (R.PG.ERR_ADDR_LO a))
    (hPG_ERR_CODE : ∀ a, km.fld (R.PG.ERR_CODE a)) (hPG_ERR_COUNT : ∀ a, km.fld (R.PG.ERR_COUNT a))
    (hPG_ERR_OVERFLOW : ∀ a, km.fld (R.PG.ERR_OVERFLOW a)) (hPG_ERR_SOURCE : ∀ a, km.fld (R.PG.ERR_SOURCE a))
    (hPG_ERR_VALID : ∀ a, km.fld (R.PG.ERR_VALID a)) (hPG_EVT_PEND : ∀ a, km.fld (R.PG.EVT_PEND a))
    (hPG_POISON_SEEN : ∀ a, km.fld (R.PG.POISON_SEEN a))
    (hTIM_DOM_OFFSET_OFFSET : ∀ a, km.fld (R.TIM.DOM_OFFSET.OFFSET a))
    (hTIM_DOM_RATE_RATE : ∀ a, km.fld (R.TIM.DOM_RATE.RATE a)) (s : State) (n : Nat) (a : ShareAcc)
    (row : Option (List Pix × Tally)) (hs : s.Keeps km pq) : (State.putRow s n a row).1.Keeps km pq := by
  unfold State.putRow
  repeat' first
    | with_reducible assumption
    | with_reducible exact hLOG_LOG_ADDR_LO_ADDR _
    | with_reducible exact hLOG_LOG_INFO_ADDR_HI _
    | with_reducible exact hLOG_LOG_INFO_ARRAY _
    | with_reducible exact hLOG_LOG_INFO_BYTES _
    | with_reducible exact hLOG_LOG_INFO_CHANNEL _
    | with_reducible exact hLOG_LOG_INFO_CODE _
    | with_reducible exact hLOG_LOG_INFO_PORT _
    | with_reducible exact hLOG_LOG_INFO_SRAM _
    | with_reducible exact hLOG_LOG_TIME_HI_NS _
    | with_reducible exact hLOG_LOG_TIME_LO_NS _
    | with_reducible exact hMEM_CH_STAT_FILLED _
    | with_reducible exact hMEM_CH_STAT_MIRROR_OK _
    | with_reducible exact hMEM_CH_STAT_STATE _
    | with_reducible exact hPG_ERR_ADDR_HI _
    | with_reducible exact hPG_ERR_ADDR_LO _
    | with_reducible exact hPG_ERR_CODE _
    | with_reducible exact hPG_ERR_COUNT _
    | with_reducible exact hPG_ERR_OVERFLOW _
    | with_reducible exact hPG_ERR_SOURCE _
    | with_reducible exact hPG_ERR_VALID _
    | with_reducible exact hPG_EVT_PEND _
    | with_reducible exact hPG_POISON_SEEN _
    | with_reducible exact hTIM_DOM_OFFSET_OFFSET _
    | with_reducible exact hTIM_DOM_RATE_RATE _
    | ((try lift_lets -underBinder); intro x; refine Keep.use (k := km) (q := pq) (s := x) ?_ ?_; (on_goal 1 => dsimp -zeta only [x]); (on_goal 2 => clear_value x; intro _))
    | ((try lift_lets -underBinder); intro x; refine Keep.usePair (k := km) (q := pq) (p := x) ?_ ?_; (on_goal 1 => dsimp -zeta only [x]); (on_goal 2 => clear_value x; intro _))
    | ((try lift_lets -underBinder); intro x; refine Keep.memSt (x := x) ?_; subst x)
    | ((try lift_lets -underBinder); intro x; refine Keep.depSt (x := x) ?_; subst x)
    | ((try lift_lets -underBinder); intro x; clear_value x)
    | (intro _)
    | with_reducible apply Keep.ite
    | with_reducible apply Keep.ite1
    | dsimp -zeta only
    | with_reducible apply State.applyTally_good
    | with_reducible apply State.filter_good
    | split

theorem State.composeRound_good (out : km.part .out) (tim : km.part .tim) (ing : km.part .ing) (otg : km.part .otg)
    (mem : km.part .mem) (dram : km.part .dram) (line : km.part .line)
    (hCMP_EXTEND_CNT_COUNT : km.fld R.CMP.EXTEND_CNT.COUNT) (hCMP_SKIP_CNT_COUNT : km.fld R.CMP.SKIP_CNT.COUNT)
    (hDEP_SKIP_CNT_SKIPPED : km.fld R.DEP.SKIP_CNT.SKIPPED) (hING_FOLLOW_CNT_LATE : km.fld R.ING.FOLLOW_CNT.LATE)
    (hKLC_BLOCK_CNT_A_COUNT : km.fld R.KLC.BLOCK_CNT_A.COUNT)
    (hKLC_BLOCK_CNT_B_COUNT : km.fld R.KLC.BLOCK_CNT_B.COUNT) (hKLC_BOUND_CNT_A : km.fld R.KLC.BOUND_CNT.A)
    (hKLC_BOUND_CNT_B : km.fld R.KLC.BOUND_CNT.B) (hLOG_LOG_ADDR_LO_ADDR : ∀ a, km.fld (R.LOG.LOG_ADDR_LO.ADDR a))
    (hLOG_LOG_INFO_ADDR_HI : ∀ a, km.fld (R.LOG.LOG_INFO.ADDR_HI a))
    (hLOG_LOG_INFO_ARRAY : ∀ a, km.fld (R.LOG.LOG_INFO.ARRAY a))
    (hLOG_LOG_INFO_BYTES : ∀ a, km.fld (R.LOG.LOG_INFO.BYTES a))
    (hLOG_LOG_INFO_CHANNEL : ∀ a, km.fld (R.LOG.LOG_INFO.CHANNEL a))
    (hLOG_LOG_INFO_CODE : ∀ a, km.fld (R.LOG.LOG_INFO.CODE a))
    (hLOG_LOG_INFO_PORT : ∀ a, km.fld (R.LOG.LOG_INFO.PORT a))
    (hLOG_LOG_INFO_SRAM : ∀ a, km.fld (R.LOG.LOG_INFO.SRAM a))
    (hLOG_LOG_TIME_HI_NS : ∀ a, km.fld (R.LOG.LOG_TIME_HI.NS a))
    (hLOG_LOG_TIME_LO_NS : ∀ a, km.fld (R.LOG.LOG_TIME_LO.NS a))
    (hMAP_DEGEN_CNT_COUNT : km.fld R.MAP.DEGEN_CNT.COUNT) (hMAP_OUTSIDE_CNT_COUNT : km.fld R.MAP.OUTSIDE_CNT.COUNT)
    (hMAP_REFETCH_CNT_COUNT : km.fld R.MAP.REFETCH_CNT.COUNT)
    (hMEM_CH_STAT_FILLED : ∀ a, km.fld (R.MEM.CH_STAT.FILLED a))
    (hMEM_CH_STAT_MIRROR_OK : ∀ a, km.fld (R.MEM.CH_STAT.MIRROR_OK a))
    (hMEM_CH_STAT_STATE : ∀ a, km.fld (R.MEM.CH_STAT.STATE a))
    (hPAR_DRAM_ERR_CNT_COUNT : km.fld R.PAR.DRAM_ERR_CNT.COUNT) (hPAR_LOG_STAT_NEXT : km.fld R.PAR.LOG_STAT.NEXT)
    (hPAR_LOG_STAT_TOTAL : km.fld R.PAR.LOG_STAT.TOTAL) (hPAR_LOG_STAT_WRAPPED : km.fld R.PAR.LOG_STAT.WRAPPED)
    (hPAR_MIRROR_FIX_CNT_COUNT : km.fld R.PAR.MIRROR_FIX_CNT.COUNT)
    (hPG_ERR_ADDR_HI : ∀ a, km.fld (R.PG.ERR_ADDR_HI a)) (hPG_ERR_ADDR_LO : ∀ a, km.fld (R.PG.ERR_ADDR_LO a))
    (hPG_ERR_CODE : ∀ a, km.fld (R.PG.ERR_CODE a)) (hPG_ERR_COUNT : ∀ a, km.fld (R.PG.ERR_COUNT a))
    (hPG_ERR_OVERFLOW : ∀ a, km.fld (R.PG.ERR_OVERFLOW a)) (hPG_ERR_SOURCE : ∀ a, km.fld (R.PG.ERR_SOURCE a))
    (hPG_ERR_VALID : ∀ a, km.fld (R.PG.ERR_VALID a)) (hPG_EVT_PEND : ∀ a, km.fld (R.PG.EVT_PEND a))
    (hPG_POISON_SEEN : ∀ a, km.fld (R.PG.POISON_SEEN a))
    (hTIM_DOM_OFFSET_OFFSET : ∀ a, km.fld (R.TIM.DOM_OFFSET.OFFSET a))
    (hTIM_DOM_RATE_RATE : ∀ a, km.fld (R.TIM.DOM_RATE.RATE a)) (s : State) (n : Nat) (force : Bool)
    (hs : s.Keeps km pq) : (State.composeRound s n force).Keeps km pq := by
  unfold State.composeRound
  repeat' first
    | with_reducible assumption
    | with_reducible exact hLOG_LOG_ADDR_LO_ADDR _
    | with_reducible exact hLOG_LOG_INFO_ADDR_HI _
    | with_reducible exact hLOG_LOG_INFO_ARRAY _
    | with_reducible exact hLOG_LOG_INFO_BYTES _
    | with_reducible exact hLOG_LOG_INFO_CHANNEL _
    | with_reducible exact hLOG_LOG_INFO_CODE _
    | with_reducible exact hLOG_LOG_INFO_PORT _
    | with_reducible exact hLOG_LOG_INFO_SRAM _
    | with_reducible exact hLOG_LOG_TIME_HI_NS _
    | with_reducible exact hLOG_LOG_TIME_LO_NS _
    | with_reducible exact hMEM_CH_STAT_FILLED _
    | with_reducible exact hMEM_CH_STAT_MIRROR_OK _
    | with_reducible exact hMEM_CH_STAT_STATE _
    | with_reducible exact hPG_ERR_ADDR_HI _
    | with_reducible exact hPG_ERR_ADDR_LO _
    | with_reducible exact hPG_ERR_CODE _
    | with_reducible exact hPG_ERR_COUNT _
    | with_reducible exact hPG_ERR_OVERFLOW _
    | with_reducible exact hPG_ERR_SOURCE _
    | with_reducible exact hPG_ERR_VALID _
    | with_reducible exact hPG_EVT_PEND _
    | with_reducible exact hPG_POISON_SEEN _
    | with_reducible exact hTIM_DOM_OFFSET_OFFSET _
    | with_reducible exact hTIM_DOM_RATE_RATE _
    | ((try lift_lets -underBinder); intro x; refine Keep.use (k := km) (q := pq) (s := x) ?_ ?_; (on_goal 1 => dsimp -zeta only [x]); (on_goal 2 => clear_value x; intro _))
    | ((try lift_lets -underBinder); intro x; refine Keep.usePair (k := km) (q := pq) (p := x) ?_ ?_; (on_goal 1 => dsimp -zeta only [x]); (on_goal 2 => clear_value x; intro _))
    | ((try lift_lets -underBinder); intro x; refine Keep.memSt (x := x) ?_; subst x)
    | ((try lift_lets -underBinder); intro x; refine Keep.depSt (x := x) ?_; subst x)
    | ((try lift_lets -underBinder); intro x; clear_value x)
    | (intro _)
    | with_reducible apply Keep.ite
    | with_reducible apply Keep.ite1
    | dsimp -zeta only
    | with_reducible apply State.putRow_good
    | split
    | with_reducible refine Keep.fst (by assumption) ?_
    | (simp -zeta only [Keep.mk_iff]; with_reducible refine Keep.upd ?_ rfl ?_; on_goal 2 => (and_intros <;> with_reducible first | exact .inl rfl | exact .inl ⟨rfl, rfl, rfl⟩ | exact .inr ‹_› | exact Nat.le_refl _ | exact Nat.le_add_right _ _))
    | with_reducible apply Keep.foldl
    | with_reducible apply Keep.foldl1

theorem State.composeRounds_good (out : km.part .out) (tim : km.part .tim) (ing : km.part .ing) (otg : km.part .otg)
    (mem : km.part .mem) (dram : km.part .dram) (line : km.part .line)
    (hCMP_EXTEND_CNT_COUNT : km.fld R.CMP.EXTEND_CNT.COUNT) (hCMP_SKIP_CNT_COUNT : km.fld R.CMP.SKIP_CNT.COUNT)
    (hDEP_SKIP_CNT_SKIPPED : km.fld R.DEP.SKIP_CNT.SKIPPED) (hING_FOLLOW_CNT_LATE : km.fld R.ING.FOLLOW_CNT.LATE)
    (hKLC_BLOCK_CNT_A_COUNT : km.fld R.KLC.BLOCK_CNT_A.COUNT)
    (hKLC_BLOCK_CNT_B_COUNT : km.fld R.KLC.BLOCK_CNT_B.COUNT) (hKLC_BOUND_CNT_A : km.fld R.KLC.BOUND_CNT.A)
    (hKLC_BOUND_CNT_B : km.fld R.KLC.BOUND_CNT.B) (hLOG_LOG_ADDR_LO_ADDR : ∀ a, km.fld (R.LOG.LOG_ADDR_LO.ADDR a))
    (hLOG_LOG_INFO_ADDR_HI : ∀ a, km.fld (R.LOG.LOG_INFO.ADDR_HI a))
    (hLOG_LOG_INFO_ARRAY : ∀ a, km.fld (R.LOG.LOG_INFO.ARRAY a))
    (hLOG_LOG_INFO_BYTES : ∀ a, km.fld (R.LOG.LOG_INFO.BYTES a))
    (hLOG_LOG_INFO_CHANNEL : ∀ a, km.fld (R.LOG.LOG_INFO.CHANNEL a))
    (hLOG_LOG_INFO_CODE : ∀ a, km.fld (R.LOG.LOG_INFO.CODE a))
    (hLOG_LOG_INFO_PORT : ∀ a, km.fld (R.LOG.LOG_INFO.PORT a))
    (hLOG_LOG_INFO_SRAM : ∀ a, km.fld (R.LOG.LOG_INFO.SRAM a))
    (hLOG_LOG_TIME_HI_NS : ∀ a, km.fld (R.LOG.LOG_TIME_HI.NS a))
    (hLOG_LOG_TIME_LO_NS : ∀ a, km.fld (R.LOG.LOG_TIME_LO.NS a))
    (hMAP_DEGEN_CNT_COUNT : km.fld R.MAP.DEGEN_CNT.COUNT) (hMAP_OUTSIDE_CNT_COUNT : km.fld R.MAP.OUTSIDE_CNT.COUNT)
    (hMAP_REFETCH_CNT_COUNT : km.fld R.MAP.REFETCH_CNT.COUNT)
    (hMEM_CH_STAT_FILLED : ∀ a, km.fld (R.MEM.CH_STAT.FILLED a))
    (hMEM_CH_STAT_MIRROR_OK : ∀ a, km.fld (R.MEM.CH_STAT.MIRROR_OK a))
    (hMEM_CH_STAT_STATE : ∀ a, km.fld (R.MEM.CH_STAT.STATE a))
    (hPAR_DRAM_ERR_CNT_COUNT : km.fld R.PAR.DRAM_ERR_CNT.COUNT) (hPAR_LOG_STAT_NEXT : km.fld R.PAR.LOG_STAT.NEXT)
    (hPAR_LOG_STAT_TOTAL : km.fld R.PAR.LOG_STAT.TOTAL) (hPAR_LOG_STAT_WRAPPED : km.fld R.PAR.LOG_STAT.WRAPPED)
    (hPAR_MIRROR_FIX_CNT_COUNT : km.fld R.PAR.MIRROR_FIX_CNT.COUNT)
    (hPG_ERR_ADDR_HI : ∀ a, km.fld (R.PG.ERR_ADDR_HI a)) (hPG_ERR_ADDR_LO : ∀ a, km.fld (R.PG.ERR_ADDR_LO a))
    (hPG_ERR_CODE : ∀ a, km.fld (R.PG.ERR_CODE a)) (hPG_ERR_COUNT : ∀ a, km.fld (R.PG.ERR_COUNT a))
    (hPG_ERR_OVERFLOW : ∀ a, km.fld (R.PG.ERR_OVERFLOW a)) (hPG_ERR_SOURCE : ∀ a, km.fld (R.PG.ERR_SOURCE a))
    (hPG_ERR_VALID : ∀ a, km.fld (R.PG.ERR_VALID a)) (hPG_EVT_PEND : ∀ a, km.fld (R.PG.EVT_PEND a))
    (hPG_POISON_SEEN : ∀ a, km.fld (R.PG.POISON_SEEN a))
    (hTIM_DOM_OFFSET_OFFSET : ∀ a, km.fld (R.TIM.DOM_OFFSET.OFFSET a))
    (hTIM_DOM_RATE_RATE : ∀ a, km.fld (R.TIM.DOM_RATE.RATE a)) (s : State) (n : Nat) (force : Bool)
    (hs : s.Keeps km pq) : (State.composeRounds s n force).Keeps km pq := by
  unfold State.composeRounds
  repeat' first
    | with_reducible assumption
    | with_reducible exact hLOG_LOG_ADDR_LO_ADDR _
    | with_reducible exact hLOG_LOG_INFO_ADDR_HI _
    | with_reducible exact hLOG_LOG_INFO_ARRAY _
    | with_reducible exact hLOG_LOG_INFO_BYTES _
    | with_reducible exact hLOG_LOG_INFO_CHANNEL _
    | with_reducible exact hLOG_LOG_INFO_CODE _
    | with_reducible exact hLOG_LOG_INFO_PORT _
    | with_reducible exact hLOG_LOG_INFO_SRAM _
    | with_reducible exact hLOG_LOG_TIME_HI_NS _
    | with_reducible exact hLOG_LOG_TIME_LO_NS _
    | with_reducible exact hMEM_CH_STAT_FILLED _
    | with_reducible exact hMEM_CH_STAT_MIRROR_OK _
    | with_reducible exact hMEM_CH_STAT_STATE _
    | with_reducible exact hPG_ERR_ADDR_HI _
    | with_reducible exact hPG_ERR_ADDR_LO _
    | with_reducible exact hPG_ERR_CODE _
    | with_reducible exact hPG_ERR_COUNT _
    | with_reducible exact hPG_ERR_OVERFLOW _
    | with_reducible exact hPG_ERR_SOURCE _
    | with_reducible exact hPG_ERR_VALID _
    | with_reducible exact hPG_EVT_PEND _
    | with_reducible exact hPG_POISON_SEEN _
    | with_reducible exact hTIM_DOM_OFFSET_OFFSET _
    | with_reducible exact hTIM_DOM_RATE_RATE _
    | (intro _)
    | with_reducible apply State.forN_good
    | with_reducible apply State.composeRound_good

theorem State.composeStart_good (out : km.part .out) (tim : km.part .tim) (otg : km.part .otg) (line : km.part .line)
    (hPG_ERR_ADDR_HI : ∀ a, km.fld (R.PG.ERR_ADDR_HI a)) (hPG_ERR_ADDR_LO : ∀ a, km.fld (R.PG.ERR_ADDR_LO a))
    (hPG_ERR_CODE : ∀ a, km.fld (R.PG.ERR_CODE a)) (hPG_ERR_COUNT : ∀ a, km.fld (R.PG.ERR_COUNT a))
    (hPG_ERR_OVERFLOW : ∀ a, km.fld (R.PG.ERR_OVERFLOW a)) (hPG_ERR_SOURCE : ∀ a, km.fld (R.PG.ERR_SOURCE a))
    (hPG_ERR_VALID : ∀ a, km.fld (R.PG.ERR_VALID a)) (hPG_EVT_PEND : ∀ a, km.fld (R.PG.EVT_PEND a))
    (hPG_POISON_SEEN : ∀ a, km.fld (R.PG.POISON_SEEN a))
    (hTIM_DOM_OFFSET_OFFSET : ∀ a, km.fld (R.TIM.DOM_OFFSET.OFFSET a))
    (hTIM_DOM_RATE_RATE : ∀ a, km.fld (R.TIM.DOM_RATE.RATE a)) (s : State) (hs : s.Keeps km pq) : (State.composeStart s).Keeps km pq := by
  unfold State.composeStart
  repeat' first
    | with_reducible assumption
    | with_reducible exact hPG_ERR_ADDR_HI _
    | with_reducible exact hPG_ERR_ADDR_LO _
    | with_reducible exact hPG_ERR_CODE _
    | with_reducible exact hPG_ERR_COUNT _
    | with_reducible exact hPG_ERR_OVERFLOW _
    | with_reducible exact hPG_ERR_SOURCE _
    | with_reducible exact hPG_ERR_VALID _
    | with_reducible exact hPG_EVT_PEND _
    | with_reducible exact hPG_POISON_SEEN _
    | with_reducible exact hTIM_DOM_OFFSET_OFFSET _
    | with_reducible exact hTIM_DOM_RATE_RATE _
    | ((try lift_lets -underBinder); intro x; refine Keep.use (k := km) (q := pq) (s := x) ?_ ?_; (on_goal 1 => dsimp -zeta only [x]); (on_goal 2 => clear_value x; intro _))
    | ((try lift_lets -underBinder); intro x; refine Keep.usePair (k := km) (q := pq) (p := x) ?_ ?_; (on_goal 1 => dsimp -zeta only [x]); (on_goal 2 => clear_value x; intro _))
    | ((try lift_lets -underBinder); intro x; refine Keep.memSt (x := x) ?_; subst x)
    | ((try lift_lets -underBinder); intro x; refine Keep.depSt (x := x) ?_; subst x)
    | ((try lift_lets -underBinder); intro x; clear_value x)
    | (intro _)
    | with_reducible apply Keep.ite
    | with_reducible apply State.filter_good
    | with_reducible apply State.framePoison_good
    | (simp -zeta only [Keep.mk_iff]; with_reducible refine Keep.upd ?_ rfl ?_; on_goal 2 => (and_intros <;> with_reducible first | exact .inl rfl | exact .inl ⟨rfl, rfl, rfl⟩ | exact .inr ‹_› | exact Nat.le_refl _ | exact Nat.le_add_right _ _))

theorem State.composeEnd_good (tim : km.part .tim) (otg : km.part .otg)
    (hSPI_SP_FAIL_CNT_COUNT : km.fld R.SPI.SP_FAIL_CNT.COUNT)
    (hTIM_DOM_OFFSET_OFFSET : ∀ a, km.fld (R.TIM.DOM_OFFSET.OFFSET a))
    (hTIM_DOM_RATE_RATE : ∀ a, km.fld (R.TIM.DOM_RATE.RATE a)) (s : State) (hs : s.Keeps km pq) : (State.composeEnd s).Keeps km pq := by
  unfold State.composeEnd
  repeat' first
    | with_reducible assumption
    | with_reducible exact hTIM_DOM_OFFSET_OFFSET _
    | with_reducible exact hTIM_DOM_RATE_RATE _
    | ((try lift_lets -underBinder); intro x; refine Keep.use (k := km) (q := pq) (s := x) ?_ ?_; (on_goal 1 => dsimp -zeta only [x]); (on_goal 2 => clear_value x; intro _))
    | ((try lift_lets -underBinder); intro x; refine Keep.usePair (k := km) (q := pq) (p := x) ?_ ?_; (on_goal 1 => dsimp -zeta only [x]); (on_goal 2 => clear_value x; intro _))
    | ((try lift_lets -underBinder); intro x; refine Keep.memSt (x := x) ?_; subst x)
    | ((try lift_lets -underBinder); intro x; refine Keep.depSt (x := x) ?_; subst x)
    | ((try lift_lets -underBinder); intro x; clear_value x)
    | (intro _)
    | with_reducible apply State.count_good
    | with_reducible apply State.filter_good
    | split
    | (simp -zeta only [Keep.mk_iff]; with_reducible refine Keep.upd ?_ rfl ?_; on_goal 2 => (and_intros <;> with_reducible first | exact .inl rfl | exact .inl ⟨rfl, rfl, rfl⟩ | exact .inr ‹_› | exact Nat.le_refl _ | exact Nat.le_add_right _ _))

theorem State.composeFrame_good (out : km.part .out) (tim : km.part .tim) (ing : km.part .ing) (otg : km.part .otg)
    (mem : km.part .mem) (dram : km.part .dram) (line : km.part .line) (any : ∀ f, km.fld f) (s : State) (n : Nat)
    (hs : s.Keeps km pq) : (State.composeFrame s n).Keeps km pq := by
  unfold State.composeFrame
  repeat' first
    | with_reducible assumption
    | (with_reducible (intros; exact any _))
    | (intro _)
    | with_reducible apply State.composeRounds_good
    | with_reducible apply State.composeEnd_good

theorem State.followAdvance_good (out : km.part .out) (tim : km.part .tim) (ing : km.part .ing) (otg : km.part .otg)
    (mem : km.part .mem) (dram : km.part .dram) (line : km.part .line)
    (hCMP_EXTEND_CNT_COUNT : km.fld R.CMP.EXTEND_CNT.COUNT) (hCMP_SKIP_CNT_COUNT : km.fld R.CMP.SKIP_CNT.COUNT)
    (hDEP_SKIP_CNT_SKIPPED : km.fld R.DEP.SKIP_CNT.SKIPPED) (hING_FOLLOW_CNT_LATE : km.fld R.ING.FOLLOW_CNT.LATE)
    (hKLC_BLOCK_CNT_A_COUNT : km.fld R.KLC.BLOCK_CNT_A.COUNT)
    (hKLC_BLOCK_CNT_B_COUNT : km.fld R.KLC.BLOCK_CNT_B.COUNT) (hKLC_BOUND_CNT_A : km.fld R.KLC.BOUND_CNT.A)
    (hKLC_BOUND_CNT_B : km.fld R.KLC.BOUND_CNT.B) (hLOG_LOG_ADDR_LO_ADDR : ∀ a, km.fld (R.LOG.LOG_ADDR_LO.ADDR a))
    (hLOG_LOG_INFO_ADDR_HI : ∀ a, km.fld (R.LOG.LOG_INFO.ADDR_HI a))
    (hLOG_LOG_INFO_ARRAY : ∀ a, km.fld (R.LOG.LOG_INFO.ARRAY a))
    (hLOG_LOG_INFO_BYTES : ∀ a, km.fld (R.LOG.LOG_INFO.BYTES a))
    (hLOG_LOG_INFO_CHANNEL : ∀ a, km.fld (R.LOG.LOG_INFO.CHANNEL a))
    (hLOG_LOG_INFO_CODE : ∀ a, km.fld (R.LOG.LOG_INFO.CODE a))
    (hLOG_LOG_INFO_PORT : ∀ a, km.fld (R.LOG.LOG_INFO.PORT a))
    (hLOG_LOG_INFO_SRAM : ∀ a, km.fld (R.LOG.LOG_INFO.SRAM a))
    (hLOG_LOG_TIME_HI_NS : ∀ a, km.fld (R.LOG.LOG_TIME_HI.NS a))
    (hLOG_LOG_TIME_LO_NS : ∀ a, km.fld (R.LOG.LOG_TIME_LO.NS a))
    (hMAP_DEGEN_CNT_COUNT : km.fld R.MAP.DEGEN_CNT.COUNT) (hMAP_OUTSIDE_CNT_COUNT : km.fld R.MAP.OUTSIDE_CNT.COUNT)
    (hMAP_REFETCH_CNT_COUNT : km.fld R.MAP.REFETCH_CNT.COUNT)
    (hMEM_CH_STAT_FILLED : ∀ a, km.fld (R.MEM.CH_STAT.FILLED a))
    (hMEM_CH_STAT_MIRROR_OK : ∀ a, km.fld (R.MEM.CH_STAT.MIRROR_OK a))
    (hMEM_CH_STAT_STATE : ∀ a, km.fld (R.MEM.CH_STAT.STATE a))
    (hPAR_DRAM_ERR_CNT_COUNT : km.fld R.PAR.DRAM_ERR_CNT.COUNT) (hPAR_LOG_STAT_NEXT : km.fld R.PAR.LOG_STAT.NEXT)
    (hPAR_LOG_STAT_TOTAL : km.fld R.PAR.LOG_STAT.TOTAL) (hPAR_LOG_STAT_WRAPPED : km.fld R.PAR.LOG_STAT.WRAPPED)
    (hPAR_MIRROR_FIX_CNT_COUNT : km.fld R.PAR.MIRROR_FIX_CNT.COUNT)
    (hPG_ERR_ADDR_HI : ∀ a, km.fld (R.PG.ERR_ADDR_HI a)) (hPG_ERR_ADDR_LO : ∀ a, km.fld (R.PG.ERR_ADDR_LO a))
    (hPG_ERR_CODE : ∀ a, km.fld (R.PG.ERR_CODE a)) (hPG_ERR_COUNT : ∀ a, km.fld (R.PG.ERR_COUNT a))
    (hPG_ERR_OVERFLOW : ∀ a, km.fld (R.PG.ERR_OVERFLOW a)) (hPG_ERR_SOURCE : ∀ a, km.fld (R.PG.ERR_SOURCE a))
    (hPG_ERR_VALID : ∀ a, km.fld (R.PG.ERR_VALID a)) (hPG_EVT_PEND : ∀ a, km.fld (R.PG.EVT_PEND a))
    (hPG_POISON_SEEN : ∀ a, km.fld (R.PG.POISON_SEEN a))
    (hTIM_DOM_OFFSET_OFFSET : ∀ a, km.fld (R.TIM.DOM_OFFSET.OFFSET a))
    (hTIM_DOM_RATE_RATE : ∀ a, km.fld (R.TIM.DOM_RATE.RATE a)) (s : State) (hs : s.Keeps km pq) : (State.followAdvance s).Keeps km pq := by
  unfold State.followAdvance
  repeat' first
    | with_reducible assumption
    | with_reducible exact hLOG_LOG_ADDR_LO_ADDR _
    | with_reducible exact hLOG_LOG_INFO_ADDR_HI _
    | with_reducible exact hLOG_LOG_INFO_ARRAY _
    | with_reducible exact hLOG_LOG_INFO_BYTES _
    | with_reducible exact hLOG_LOG_INFO_CHANNEL _
    | with_reducible exact hLOG_LOG_INFO_CODE _
    | with_reducible exact hLOG_LOG_INFO_PORT _
    | with_reducible exact hLOG_LOG_INFO_SRAM _
    | with_reducible exact hLOG_LOG_TIME_HI_NS _
    | with_reducible exact hLOG_LOG_TIME_LO_NS _
    | with_reducible exact hMEM_CH_STAT_FILLED _
    | with_reducible exact hMEM_CH_STAT_MIRROR_OK _
    | with_reducible exact hMEM_CH_STAT_STATE _
    | with_reducible exact hPG_ERR_ADDR_HI _
    | with_reducible exact hPG_ERR_ADDR_LO _
    | with_reducible exact hPG_ERR_CODE _
    | with_reducible exact hPG_ERR_COUNT _
    | with_reducible exact hPG_ERR_OVERFLOW _
    | with_reducible exact hPG_ERR_SOURCE _
    | with_reducible exact hPG_ERR_VALID _
    | with_reducible exact hPG_EVT_PEND _
    | with_reducible exact hPG_POISON_SEEN _
    | with_reducible exact hTIM_DOM_OFFSET_OFFSET _
    | with_reducible exact hTIM_DOM_RATE_RATE _
    | ((try lift_lets -underBinder); intro x; refine Keep.use (k := km) (q := pq) (s := x) ?_ ?_; (on_goal 1 => dsimp -zeta only [x]); (on_goal 2 => clear_value x; intro _))
    | ((try lift_lets -underBinder); intro x; refine Keep.usePair (k := km) (q := pq) (p := x) ?_ ?_; (on_goal 1 => dsimp -zeta only [x]); (on_goal 2 => clear_value x; intro _))
    | ((try lift_lets -underBinder); intro x; refine Keep.memSt (x := x) ?_; subst x)
    | ((try lift_lets -underBinder); intro x; refine Keep.depSt (x := x) ?_; subst x)
    | ((try lift_lets -underBinder); intro x; clear_value x)
    | (intro _)
    | with_reducible apply Keep.ite
    | with_reducible apply State.composeRounds_good
    | split

theorem State.sendPort_good (out : km.part .out) (line : km.part .line) (que : km.part .que)
    (hOTG_OTG_STAT_ROUND_A : km.fld R.OTG.OTG_STAT.ROUND_A) (hOTG_OTG_STAT_ROUND_B : km.fld R.OTG.OTG_STAT.ROUND_B)
    (hOTG_OTG_STAT_VIEW : km.fld R.OTG.OTG_STAT.VIEW) (hPG_EVT_PEND : ∀ a, km.fld (R.PG.EVT_PEND a)) (s : State)
    (p : Nat) (cut : Option (Nat × Nat)) (hs : s.Keeps km pq) : (State.sendPort s p cut).Keeps km pq := by
  unfold State.sendPort
  repeat' first
    | with_reducible assumption
    | with_reducible exact hPG_EVT_PEND _
    | (show km.fld _; split <;> first | assumption | exact hOTG_OTG_STAT_ROUND_A | exact hOTG_OTG_STAT_ROUND_B | exact hOTG_OTG_STAT_VIEW | exact hPG_EVT_PEND _)
    | ((try lift_lets -underBinder); intro x; refine Keep.use (k := km) (q := pq) (s := x) ?_ ?_; (on_goal 1 => dsimp -zeta only [x]); (on_goal 2 => clear_value x; intro _))
    | ((try lift_lets -underBinder); intro x; refine Keep.usePair (k := km) (q := pq) (p := x) ?_ ?_; (on_goal 1 => dsimp -zeta only [x]); (on_goal 2 => clear_value x; intro _))
    | ((try lift_lets -underBinder); intro x; refine Keep.memSt (x := x) ?_; subst x)
    | ((try lift_lets -underBinder); intro x; refine Keep.depSt (x := x) ?_; subst x)
    | ((try lift_lets -underBinder); intro x; clear_value x)
    | (intro _)
    | with_reducible apply Keep.ite
    | with_reducible apply State.forN_good
    | with_reducible apply State.set_good
    | with_reducible apply State.evIf_good
    | with_reducible apply State.emit_good
    | with_reducible apply State.setPort_good
    | split
    | (simp -zeta only [Keep.mk_iff]; with_reducible refine Keep.upd ?_ rfl ?_; on_goal 2 => (and_intros <;> with_reducible first | exact .inl rfl | exact .inl ⟨rfl, rfl, rfl⟩ | exact .inr ‹_› | exact Nat.le_refl _ | exact Nat.le_add_right _ _))

theorem State.underruns_good (out : km.part .out) (hOTG_UNDERRUN_CNT_A : km.fld R.OTG.UNDERRUN_CNT.A)
    (hOTG_UNDERRUN_CNT_B : km.fld R.OTG.UNDERRUN_CNT.B) (hPG_EVT_PEND : ∀ a, km.fld (R.PG.EVT_PEND a)) (s : State)
    (a b : Nat) (hs : s.Keeps km pq) : (State.underruns s a b).Keeps km pq := by
  unfold State.underruns
  repeat' first
    | with_reducible assumption
    | with_reducible exact hPG_EVT_PEND _
    | ((try lift_lets -underBinder); intro x; refine Keep.use (k := km) (q := pq) (s := x) ?_ ?_; (on_goal 1 => dsimp -zeta only [x]); (on_goal 2 => clear_value x; intro _))
    | ((try lift_lets -underBinder); intro x; refine Keep.usePair (k := km) (q := pq) (p := x) ?_ ?_; (on_goal 1 => dsimp -zeta only [x]); (on_goal 2 => clear_value x; intro _))
    | ((try lift_lets -underBinder); intro x; refine Keep.memSt (x := x) ?_; subst x)
    | ((try lift_lets -underBinder); intro x; refine Keep.depSt (x := x) ?_; subst x)
    | ((try lift_lets -underBinder); intro x; clear_value x)
    | (intro _)
    | with_reducible apply State.count_good
    | with_reducible apply State.evIf_good

theorem State.otgStart_good (out : km.part .out) (tim : km.part .tim) (ing : km.part .ing) (otg : km.part .otg)
    (mem : km.part .mem) (dram : km.part .dram) (line : km.part .line) (any : ∀ f, km.fld f) (s : State)
    (hs : s.Keeps km pq) : (State.otgStart s).Keeps km pq := by
  unfold State.otgStart
  repeat' first
    | with_reducible assumption
    | (with_reducible (intros; exact any _))
    | ((try lift_lets -underBinder); intro x; refine Keep.use (k := km) (q := pq) (s := x) ?_ ?_; (on_goal 1 => dsimp -zeta only [x]); (on_goal 2 => clear_value x; intro _))
    | ((try lift_lets -underBinder); intro x; refine Keep.usePair (k := km) (q := pq) (p := x) ?_ ?_; (on_goal 1 => dsimp -zeta only [x]); (on_goal 2 => clear_value x; intro _))
    | ((try lift_lets -underBinder); intro x; refine Keep.memSt (x := x) ?_; subst x)
    | ((try lift_lets -underBinder); intro x; refine Keep.depSt (x := x) ?_; subst x)
    | ((try lift_lets -underBinder); intro x; clear_value x)
    | (intro _)
    | with_reducible apply Keep.ite
    | with_reducible apply State.set_good
    | with_reducible apply State.composeStart_good
    | with_reducible apply State.composeRounds_good
    | with_reducible apply State.composeFrame_good
    | split
    | (simp -zeta only [Keep.mk_iff]; with_reducible refine Keep.upd ?_ rfl ?_; on_goal 2 => (and_intros <;> with_reducible first | exact .inl rfl | exact .inl ⟨rfl, rfl, rfl⟩ | exact .inr ‹_› | exact Nat.le_refl _ | exact Nat.le_add_right _ _))

theorem State.otgCompose_good (out : km.part .out) (tim : km.part .tim) (ing : km.part .ing) (otg : km.part .otg)
    (mem : km.part .mem) (dram : km.part .dram) (line : km.part .line) (any : ∀ f, km.fld f) (s : State) (n : Nat)
    (hs : s.Keeps km pq) : (State.otgCompose s n).Keeps km pq := by
  unfold State.otgCompose
  repeat' first
    | with_reducible assumption
    | (with_reducible (intros; exact any _))
    | ((try lift_lets -underBinder); intro x; refine Keep.use (k := km) (q := pq) (s := x) ?_ ?_; (on_goal 1 => dsimp -zeta only [x]); (on_goal 2 => clear_value x; intro _))
    | ((try lift_lets -underBinder); intro x; refine Keep.usePair (k := km) (q := pq) (p := x) ?_ ?_; (on_goal 1 => dsimp -zeta only [x]); (on_goal 2 => clear_value x; intro _))
    | ((try lift_lets -underBinder); intro x; refine Keep.memSt (x := x) ?_; subst x)
    | ((try lift_lets -underBinder); intro x; refine Keep.depSt (x := x) ?_; subst x)
    | ((try lift_lets -underBinder); intro x; clear_value x)
    | (intro _)
    | with_reducible apply Keep.ite
    | with_reducible apply State.composeFrame_good
    | (simp -zeta only [Keep.mk_iff]; with_reducible refine Keep.upd ?_ rfl ?_; on_goal 2 => (and_intros <;> with_reducible first | exact .inl rfl | exact .inl ⟨rfl, rfl, rfl⟩ | exact .inr ‹_› | exact Nat.le_refl _ | exact Nat.le_add_right _ _))

theorem State.blankStart_good (out : km.part .out) (tim : km.part .tim) (dep : km.part .dep) (ing : km.part .ing)
    (otg : km.part .otg) (mem : km.part .mem) (dram : km.part .dram) (scn : km.part .scn) (cor : km.part .cor)
    (rai : km.part .rai) (lfm : km.part .lfm) (line : km.part .line) (rdn : km.part .rdn) (que : km.part .que)
    (fwu : km.part .fwu) (any : ∀ f, km.fld f) (s : State) (a b : Nat) (hs : s.Keeps km pq) : (State.blankStart s a b).Keeps km pq := by
  unfold State.blankStart
  repeat' first
    | with_reducible assumption
    | (with_reducible (intros; exact any _))
    | ((try lift_lets -underBinder); intro x; refine Keep.use (k := km) (q := pq) (s := x) ?_ ?_; (on_goal 1 => dsimp -zeta only [x]); (on_goal 2 => clear_value x; intro _))
    | ((try lift_lets -underBinder); intro x; refine Keep.usePair (k := km) (q := pq) (p := x) ?_ ?_; (on_goal 1 => dsimp -zeta only [x]); (on_goal 2 => clear_value x; intro _))
    | ((try lift_lets -underBinder); intro x; refine Keep.memSt (x := x) ?_; subst x)
    | ((try lift_lets -underBinder); intro x; refine Keep.depSt (x := x) ?_; subst x)
    | ((try lift_lets -underBinder); intro x; clear_value x)
    | (intro _)
    | with_reducible apply State.otgCompose_good
    | with_reducible apply State.sendPort_good
    | with_reducible apply State.flushVideo_good
    | with_reducible apply State.underruns_good
    | with_reducible apply State.evIf_good
    | with_reducible apply State.set_good
    | with_reducible apply State.ev_good
    | split
    | (simp -zeta only [Keep.mk_iff]; with_reducible refine Keep.upd ?_ rfl ?_; on_goal 2 => (and_intros <;> with_reducible first | exact .inl rfl | exact .inl ⟨rfl, rfl, rfl⟩ | exact .inr ‹_› | exact Nat.le_refl _ | exact Nat.le_add_right _ _))

theorem State.otgAbort_good (out : km.part .out) (tim : km.part .tim) (dep : km.part .dep) (ing : km.part .ing)
    (otg : km.part .otg) (mem : km.part .mem) (dram : km.part .dram) (scn : km.part .scn) (cor : km.part .cor)
    (rai : km.part .rai) (lfm : km.part .lfm) (line : km.part .line) (rdn : km.part .rdn) (que : km.part .que)
    (fwu : km.part .fwu) (any : ∀ f, km.fld f) (s : State) (cutA cutB : Option (Nat × Nat)) (a b : Nat)
    (hs : s.Keeps km pq) : (State.otgAbort s cutA cutB a b).Keeps km pq := by
  unfold State.otgAbort
  repeat' first
    | with_reducible assumption
    | (with_reducible (intros; exact any _))
    | ((try lift_lets -underBinder); intro x; refine Keep.use (k := km) (q := pq) (s := x) ?_ ?_; (on_goal 1 => dsimp -zeta only [x]); (on_goal 2 => clear_value x; intro _))
    | ((try lift_lets -underBinder); intro x; refine Keep.usePair (k := km) (q := pq) (p := x) ?_ ?_; (on_goal 1 => dsimp -zeta only [x]); (on_goal 2 => clear_value x; intro _))
    | ((try lift_lets -underBinder); intro x; refine Keep.memSt (x := x) ?_; subst x)
    | ((try lift_lets -underBinder); intro x; refine Keep.depSt (x := x) ?_; subst x)
    | ((try lift_lets -underBinder); intro x; clear_value x)
    | (intro _)
    | with_reducible apply Keep.ite
    | with_reducible apply State.otgCompose_good
    | with_reducible apply State.sendPort_good
    | with_reducible apply State.flushVideo_good
    | with_reducible apply State.underruns_good
    | with_reducible apply State.count_good
    | with_reducible apply State.ev_good
    | with_reducible apply State.set_good
    | split
    | (simp -zeta only [Keep.mk_iff]; with_reducible refine Keep.upd ?_ rfl ?_; on_goal 2 => (and_intros <;> with_reducible first | exact .inl rfl | exact .inl ⟨rfl, rfl, rfl⟩ | exact .inr ‹_› | exact Nat.le_refl _ | exact Nat.le_add_right _ _))

theorem State.monitorTake_good (out : km.part .out) (tim : km.part .tim) (cmp : km.part .cmp) (mem : km.part .mem)
    (dram : km.part .dram) (hLOG_LOG_ADDR_LO_ADDR : ∀ a, km.fld (R.LOG.LOG_ADDR_LO.ADDR a))
    (hLOG_LOG_INFO_ADDR_HI : ∀ a, km.fld (R.LOG.LOG_INFO.ADDR_HI a))
    (hLOG_LOG_INFO_ARRAY : ∀ a, km.fld (R.LOG.LOG_INFO.ARRAY a))
    (hLOG_LOG_INFO_BYTES : ∀ a, km.fld (R.LOG.LOG_INFO.BYTES a))
    (hLOG_LOG_INFO_CHANNEL : ∀ a, km.fld (R.LOG.LOG_INFO.CHANNEL a))
    (hLOG_LOG_INFO_CODE : ∀ a, km.fld (R.LOG.LOG_INFO.CODE a))
    (hLOG_LOG_INFO_PORT : ∀ a, km.fld (R.LOG.LOG_INFO.PORT a))
    (hLOG_LOG_INFO_SRAM : ∀ a, km.fld (R.LOG.LOG_INFO.SRAM a))
    (hLOG_LOG_TIME_HI_NS : ∀ a, km.fld (R.LOG.LOG_TIME_HI.NS a))
    (hLOG_LOG_TIME_LO_NS : ∀ a, km.fld (R.LOG.LOG_TIME_LO.NS a))
    (hMEM_CH_STAT_FILLED : ∀ a, km.fld (R.MEM.CH_STAT.FILLED a))
    (hMEM_CH_STAT_MIRROR_OK : ∀ a, km.fld (R.MEM.CH_STAT.MIRROR_OK a))
    (hMEM_CH_STAT_STATE : ∀ a, km.fld (R.MEM.CH_STAT.STATE a))
    (hPAR_DRAM_ERR_CNT_COUNT : km.fld R.PAR.DRAM_ERR_CNT.COUNT) (hPAR_LOG_STAT_NEXT : km.fld R.PAR.LOG_STAT.NEXT)
    (hPAR_LOG_STAT_TOTAL : km.fld R.PAR.LOG_STAT.TOTAL) (hPAR_LOG_STAT_WRAPPED : km.fld R.PAR.LOG_STAT.WRAPPED)
    (hPAR_MIRROR_FIX_CNT_COUNT : km.fld R.PAR.MIRROR_FIX_CNT.COUNT)
    (hPG_ERR_ADDR_HI : ∀ a, km.fld (R.PG.ERR_ADDR_HI a)) (hPG_ERR_ADDR_LO : ∀ a, km.fld (R.PG.ERR_ADDR_LO a))
    (hPG_ERR_CODE : ∀ a, km.fld (R.PG.ERR_CODE a)) (hPG_ERR_COUNT : ∀ a, km.fld (R.PG.ERR_COUNT a))
    (hPG_ERR_OVERFLOW : ∀ a, km.fld (R.PG.ERR_OVERFLOW a)) (hPG_ERR_SOURCE : ∀ a, km.fld (R.PG.ERR_SOURCE a))
    (hPG_ERR_VALID : ∀ a, km.fld (R.PG.ERR_VALID a)) (hPG_EVT_PEND : ∀ a, km.fld (R.PG.EVT_PEND a))
    (hTIM_DOM_OFFSET_OFFSET : ∀ a, km.fld (R.TIM.DOM_OFFSET.OFFSET a))
    (hTIM_DOM_RATE_RATE : ∀ a, km.fld (R.TIM.DOM_RATE.RATE a)) (s : State) (n : Nat) (hs : s.Keeps km pq) : (State.monitorTake s n).Keeps km pq := by
  unfold State.monitorTake
  repeat' first
    | with_reducible assumption
    | with_reducible exact hLOG_LOG_ADDR_LO_ADDR _
    | with_reducible exact hLOG_LOG_INFO_ADDR_HI _
    | with_reducible exact hLOG_LOG_INFO_ARRAY _
    | with_reducible exact hLOG_LOG_INFO_BYTES _
    | with_reducible exact hLOG_LOG_INFO_CHANNEL _
    | with_reducible exact hLOG_LOG_INFO_CODE _
    | with_reducible exact hLOG_LOG_INFO_PORT _
    | with_reducible exact hLOG_LOG_INFO_SRAM _
    | with_reducible exact hLOG_LOG_TIME_HI_NS _
    | with_reducible exact hLOG_LOG_TIME_LO_NS _
    | with_reducible exact hMEM_CH_STAT_FILLED _
    | with_reducible exact hMEM_CH_STAT_MIRROR_OK _
    | with_reducible exact hMEM_CH_STAT_STATE _
    | with_reducible exact hPG_ERR_ADDR_HI _
    | with_reducible exact hPG_ERR_ADDR_LO _
    | with_reducible exact hPG_ERR_CODE _
    | with_reducible exact hPG_ERR_COUNT _
    | with_reducible exact hPG_ERR_OVERFLOW _
    | with_reducible exact hPG_ERR_SOURCE _
    | with_reducible exact hPG_ERR_VALID _
    | with_reducible exact hPG_EVT_PEND _
    | with_reducible exact hTIM_DOM_OFFSET_OFFSET _
    | with_reducible exact hTIM_DOM_RATE_RATE _
    | ((try lift_lets -underBinder); intro x; refine Keep.use (k := km) (q := pq) (s := x) ?_ ?_; (on_goal 1 => dsimp -zeta only [x]); (on_goal 2 => clear_value x; intro _))
    | ((try lift_lets -underBinder); intro x; refine Keep.usePair (k := km) (q := pq) (p := x) ?_ ?_; (on_goal 1 => dsimp -zeta only [x]); (on_goal 2 => clear_value x; intro _))
    | ((try lift_lets -underBinder); intro x; refine Keep.memSt (x := x) ?_; subst x)
    | ((try lift_lets -underBinder); intro x; refine Keep.depSt (x := x) ?_; subst x)
    | ((try lift_lets -underBinder); intro x; clear_value x)
    | (intro _)
    | with_reducible apply Keep.ite
    | with_reducible apply State.dramRead_good
    | (simp -zeta only [Keep.mk_iff]; with_reducible refine Keep.upd ?_ rfl ?_; on_goal 2 => (and_intros <;> with_reducible first | exact .inl rfl | exact .inl ⟨rfl, rfl, rfl⟩ | exact .inr ‹_› | exact Nat.le_refl _ | exact Nat.le_add_right _ _))
    | with_reducible apply Keep.foldl

theorem State.monitorSend_good (out : km.part .out) (cmp : km.part .cmp)
    (hCOL_MON_DROP_COUNT : km.fld R.COL.MON_DROP.COUNT)
    (hETH_TX_FRAMES_COUNT : ∀ a, km.fld (R.ETH.TX_FRAMES.COUNT a)) (hPG_EVT_PEND : ∀ a, km.fld (R.PG.EVT_PEND a))
    (s : State) (hs : s.Keeps km pq) : (State.monitorSend s).Keeps km pq := by
  unfold State.monitorSend
  repeat' first
    | with_reducible assumption
    | with_reducible exact hETH_TX_FRAMES_COUNT _
    | with_reducible exact hPG_EVT_PEND _
    | ((try lift_lets -underBinder); intro x; refine Keep.use (k := km) (q := pq) (s := x) ?_ ?_; (on_goal 1 => dsimp -zeta only [x]); (on_goal 2 => clear_value x; intro _))
    | ((try lift_lets -underBinder); intro x; refine Keep.usePair (k := km) (q := pq) (p := x) ?_ ?_; (on_goal 1 => dsimp -zeta only [x]); (on_goal 2 => clear_value x; intro _))
    | ((try lift_lets -underBinder); intro x; refine Keep.memSt (x := x) ?_; subst x)
    | ((try lift_lets -underBinder); intro x; refine Keep.depSt (x := x) ?_; subst x)
    | ((try lift_lets -underBinder); intro x; clear_value x)
    | (intro _)
    | with_reducible apply Keep.ite
    | with_reducible apply State.emit_good
    | with_reducible apply State.ethSent_good
    | with_reducible apply State.count_good
    | with_reducible apply State.ev_good
    | split
    | (simp -zeta only [Keep.mk_iff]; with_reducible refine Keep.upd ?_ rfl ?_; on_goal 2 => (and_intros <;> with_reducible first | exact .inl rfl | exact .inl ⟨rfl, rfl, rfl⟩ | exact .inr ‹_› | exact Nat.le_refl _ | exact Nat.le_add_right _ _))
    | with_reducible apply Keep.foldl

theorem execCardCheck_good (frc : km.part .frc) (hMAP_CARD_STAT_CHECK_BUSY : km.fld R.MAP.CARD_STAT.CHECK_BUSY)
    (t : Nat) (s : State) (hs : s.Keeps km pq) : ∀ st, execCardCheck t s = .next st → st.Keeps km pq := by
  unfold execCardCheck
  refine runIn_good hs (fun s hs => ?_)
  repeat' first
    | with_reducible assumption
    | (intro _)
    | with_reducible apply State.tick_good
    | with_reducible apply State.set_good

theorem execCardCheckDone_good (frc : km.part .frc) (out : km.part .out)
    (hDEP_MODE_CHECK_DEP_PENDING : km.fld R.DEP.MODE_CHECK.DEP_PENDING)
    (hDEP_MODE_CHECK_EPOCH_PENDING : km.fld R.DEP.MODE_CHECK.EPOCH_PENDING)
    (hDEP_MODE_CHECK_FIELDS : km.fld R.DEP.MODE_CHECK.FIELDS) (hDEP_MODE_CHECK_RULE : km.fld R.DEP.MODE_CHECK.RULE)
    (hDEP_MODE_CHECK_VALID : km.fld R.DEP.MODE_CHECK.VALID)
    (hDEP_MODE_CTRL_FB_VALID : km.fld R.DEP.MODE_CTRL.FB_VALID)
    (hMAP_CARD_STAT_CHECK_BUSY : km.fld R.MAP.CARD_STAT.CHECK_BUSY)
    (hMAP_CARD_STAT_CHECK_CARD : km.fld R.MAP.CARD_STAT.CHECK_CARD)
    (hMAP_CARD_STAT_CHECK_CODE : km.fld R.MAP.CARD_STAT.CHECK_CODE) (hPG_EVT_PEND : ∀ a, km.fld (R.PG.EVT_PEND a))
    (t : Nat) (s : State) (hs : s.Keeps km pq) : ∀ st, execCardCheckDone t s = .next st → st.Keeps km pq := by
  unfold execCardCheckDone
  refine runIn_good hs (fun s hs => ?_)
  repeat' first
    | with_reducible assumption
    | with_reducible exact hPG_EVT_PEND _
    | (intro _)
    | with_reducible apply State.tick_good
    | with_reducible apply State.cardChecked_good

theorem execSpireCheck_good (frc : km.part .frc) (hSPI_SP_STAT_CHECK_CODE : km.fld R.SPI.SP_STAT.CHECK_CODE)
    (t : Nat) (s : State) (hs : s.Keeps km pq) : ∀ st, execSpireCheck t s = .next st → st.Keeps km pq := by
  unfold execSpireCheck
  refine runIn_good hs (fun s hs => ?_)
  repeat' first
    | with_reducible assumption
    | ((try lift_lets -underBinder); intro x; refine Keep.use (k := km) (q := pq) (s := x) ?_ ?_; (on_goal 1 => dsimp -zeta only [x]); (on_goal 2 => clear_value x; intro _))
    | ((try lift_lets -underBinder); intro x; refine Keep.usePair (k := km) (q := pq) (p := x) ?_ ?_; (on_goal 1 => dsimp -zeta only [x]); (on_goal 2 => clear_value x; intro _))
    | ((try lift_lets -underBinder); intro x; refine Keep.memSt (x := x) ?_; subst x)
    | ((try lift_lets -underBinder); intro x; refine Keep.depSt (x := x) ?_; subst x)
    | ((try lift_lets -underBinder); intro x; clear_value x)
    | (intro _)
    | with_reducible apply State.tick_good
    | with_reducible apply State.set_good

theorem execOtgFrameStart_good (frc : km.part .frc) (out : km.part .out) (tim : km.part .tim) (ing : km.part .ing)
    (otg : km.part .otg) (mem : km.part .mem) (dram : km.part .dram) (line : km.part .line) (any : ∀ f, km.fld f)
    (t : Nat) (s : State) (hs : s.Keeps km pq) : ∀ st, execOtgFrameStart t s = .next st → st.Keeps km pq := by
  unfold execOtgFrameStart
  refine runIn_good hs (fun s hs => ?_)
  repeat' first
    | with_reducible assumption
    | (with_reducible (intros; exact any _))
    | (intro _)
    | with_reducible apply State.tick_good
    | with_reducible apply State.otgStart_good

theorem execBlankStart_good (frc : km.part .frc) (out : km.part .out) (tim : km.part .tim) (dep : km.part .dep)
    (ing : km.part .ing) (otg : km.part .otg) (mem : km.part .mem) (dram : km.part .dram) (scn : km.part .scn)
    (cor : km.part .cor) (rai : km.part .rai) (lfm : km.part .lfm) (line : km.part .line) (rdn : km.part .rdn)
    (que : km.part .que) (fwu : km.part .fwu) (any : ∀ f, km.fld f) (a b t : Nat) (s : State) (hs : s.Keeps km pq) : ∀ st, execBlankStart a b t s = .next st → st.Keeps km pq := by
  unfold execBlankStart
  refine runIn_good hs (fun s hs => ?_)
  repeat' first
    | with_reducible assumption
    | (with_reducible (intros; exact any _))
    | (intro _)
    | with_reducible apply State.tick_good
    | with_reducible apply State.blankStart_good

theorem execOtgAbort_good (frc : km.part .frc) (out : km.part .out) (tim : km.part .tim) (dep : km.part .dep)
    (ing : km.part .ing) (otg : km.part .otg) (mem : km.part .mem) (dram : km.part .dram) (scn : km.part .scn)
    (cor : km.part .cor) (rai : km.part .rai) (lfm : km.part .lfm) (line : km.part .line) (rdn : km.part .rdn)
    (que : km.part .que) (fwu : km.part .fwu) (any : ∀ f, km.fld f) (cutA cutB : Option (Nat × Nat)) (a b t : Nat)
    (s : State) (hs : s.Keeps km pq) : ∀ st, execOtgAbort cutA cutB a b t s = .next st → st.Keeps km pq := by
  unfold execOtgAbort
  refine runIn_good hs (fun s hs => ?_)
  repeat' first
    | with_reducible assumption
    | (with_reducible (intros; exact any _))
    | (intro _)
    | with_reducible apply State.tick_good
    | with_reducible apply State.otgAbort_good

theorem execIngPacket_good (frc : km.part .frc) (out : km.part .out) (tim : km.part .tim) (dep : km.part .dep)
    (ing : km.part .ing) (otg : km.part .otg) (mem : km.part .mem) (dram : km.part .dram) (line : km.part .line)
    (que : km.part .que) (any : ∀ f, km.fld f) (t : Nat) (s : State) (hs : s.Keeps km pq) : ∀ st, execIngPacket t s = .next st → st.Keeps km pq := by
  unfold execIngPacket
  refine runIn_good hs (fun s hs => ?_)
  repeat' first
    | with_reducible assumption
    | (with_reducible (intros; exact any _))
    | (intro _)
    | with_reducible apply State.tick_good
    | with_reducible apply State.ingNext_good
    | with_reducible apply State.followAdvance_good

theorem execMonitorFrame_good (frc : km.part .frc) (out : km.part .out) (cmp : km.part .cmp)
    (hCOL_MON_DROP_COUNT : km.fld R.COL.MON_DROP.COUNT)
    (hETH_TX_FRAMES_COUNT : ∀ a, km.fld (R.ETH.TX_FRAMES.COUNT a)) (hPG_EVT_PEND : ∀ a, km.fld (R.PG.EVT_PEND a))
    (t : Nat) (s : State) (hs : s.Keeps km pq) : ∀ st, execMonitorFrame t s = .next st → st.Keeps km pq := by
  unfold execMonitorFrame
  refine runIn_good hs (fun s hs => ?_)
  repeat' first
    | with_reducible assumption
    | with_reducible exact hETH_TX_FRAMES_COUNT _
    | with_reducible exact hPG_EVT_PEND _
    | (intro _)
    | with_reducible apply State.tick_good
    | with_reducible apply State.monitorSend_good

end Sys2Proof.Machine
end

