-- ==== Sys2Proof/Laws/KeepsScan.lean ====
section
/-!
SUPPORT. Every function of Machine/Scan.lean changes what the hypotheses of its lemma name, and nothing else.
-/
namespace Sys2Proof.Machine
set_option Elab.async false
set_option linter.unusedVariables false
set_option linter.unusedTactic false
set_option linter.unreachableTactic false

variable {km : May} {pq : State}

theorem State.ttStore_good (scn : km.part .scn) (s : State) (o n v : Nat) (hs : s.Keeps km pq) : (State.ttStore s o n v).Keeps km pq := by
  unfold State.ttStore
  repeat' first
    | with_reducible assumption
    | ((try lift_lets -underBinder); intro x; refine Keep.use (k := km) (q := pq) (s := x) ?_ ?_; (on_goal 1 => dsimp -zeta only [x]); (on_goal 2 => clear_value x; intro _))
    | ((try lift_lets -underBinder); intro x; refine Keep.usePair (k := km) (q := pq) (p := x) ?_ ?_; (on_goal 1 => dsimp -zeta only [x]); (on_goal 2 => clear_value x; intro _))
    | ((try lift_lets -underBinder); intro x; refine Keep.memSt (x := x) ?_; subst x)
    | ((try lift_lets -underBinder); intro x; refine Keep.depSt (x := x) ?_; subst x)
    | ((try lift_lets -underBinder); intro x; clear_value x)
    | (intro _)
    | with_reducible apply Keep.ite
    | (simp -zeta only [Keep.mk_iff]; with_reducible refine Keep.upd ?_ rfl ?_; on_goal 2 => (and_intros <;> with_reducible first | exact .inl rfl | exact .inl ⟨rfl, rfl, rfl⟩ | exact .inr ‹_› | exact Nat.le_refl _ | exact Nat.le_add_right _ _))

theorem State.ttWrite_good (out : km.part .out) (scn : km.part .scn)
    (hDEP_MODE_CHECK_DEP_PENDING : km.fld R.DEP.MODE_CHECK.DEP_PENDING)
    (hDEP_MODE_CHECK_EPOCH_PENDING : km.fld R.DEP.MODE_CHECK.EPOCH_PENDING)
    (hDEP_MODE_CHECK_FIELDS : km.fld R.DEP.MODE_CHECK.FIELDS) (hDEP_MODE_CHECK_RULE : km.fld R.DEP.MODE_CHECK.RULE)
    (hDEP_MODE_CHECK_VALID : km.fld R.DEP.MODE_CHECK.VALID)
    (hDEP_MODE_CTRL_FB_VALID : km.fld R.DEP.MODE_CTRL.FB_VALID) (hPG_EVT_PEND : ∀ a, km.fld (R.PG.EVT_PEND a))
    (s : State) (o n v : Nat) (hs : s.Keeps km pq) : (State.ttWrite s o n v).Keeps km pq := by
  unfold State.ttWrite
  repeat' first
    | with_reducible assumption
    | with_reducible exact hPG_EVT_PEND _
    | ((try lift_lets -underBinder); intro x; refine Keep.use (k := km) (q := pq) (s := x) ?_ ?_; (on_goal 1 => dsimp -zeta only [x]); (on_goal 2 => clear_value x; intro _))
    | ((try lift_lets -underBinder); intro x; refine Keep.usePair (k := km) (q := pq) (p := x) ?_ ?_; (on_goal 1 => dsimp -zeta only [x]); (on_goal 2 => clear_value x; intro _))
    | ((try lift_lets -underBinder); intro x; refine Keep.memSt (x := x) ?_; subst x)
    | ((try lift_lets -underBinder); intro x; refine Keep.depSt (x := x) ?_; subst x)
    | ((try lift_lets -underBinder); intro x; clear_value x)
    | (intro _)
    | with_reducible apply Keep.ite
    | with_reducible apply State.ttStore_good
    | with_reducible apply State.evaluate_good
    | (simp -zeta only [Keep.mk_iff]; with_reducible refine Keep.upd ?_ rfl ?_; on_goal 2 => (and_intros <;> with_reducible first | exact .inl rfl | exact .inl ⟨rfl, rfl, rfl⟩ | exact .inr ‹_› | exact Nat.le_refl _ | exact Nat.le_add_right _ _))

theorem State.exchangeTt_good (force : km.part .force) (scn : km.part .scn)
    (hSCN_BUS_LOAD_GBPS : km.fld R.SCN.BUS_LOAD.GBPS) (hSCN_REFRESH_HZ : km.fld R.SCN.REFRESH.HZ)
    (hSCN_SPREAD_A : km.fld R.SCN.SPREAD.A) (hSCN_TT_STAT_SYNCING : km.fld R.SCN.TT_STAT.SYNCING)
    (hSCN_T_BL_NS : km.fld R.SCN.T_BL.NS) (hSCN_T_GAP_CYC : km.fld R.SCN.T_GAP.CYC)
    (hSCN_T_LOAD_NS : km.fld R.SCN.T_LOAD.NS) (hSCN_T_RC_CYC : km.fld R.SCN.T_RC.CYC)
    (hSCN_T_ROW_CYC : km.fld R.SCN.T_ROW.CYC) (s : State) (hs : s.Keeps km pq) : (State.exchangeTt s).Keeps km pq := by
  unfold State.exchangeTt
  repeat' first
    | with_reducible assumption
    | ((try lift_lets -underBinder); intro x; refine Keep.use (k := km) (q := pq) (s := x) ?_ ?_; (on_goal 1 => dsimp -zeta only [x]); (on_goal 2 => clear_value x; intro _))
    | ((try lift_lets -underBinder); intro x; refine Keep.usePair (k := km) (q := pq) (p := x) ?_ ?_; (on_goal 1 => dsimp -zeta only [x]); (on_goal 2 => clear_value x; intro _))
    | ((try lift_lets -underBinder); intro x; refine Keep.memSt (x := x) ?_; subst x)
    | ((try lift_lets -underBinder); intro x; refine Keep.depSt (x := x) ?_; subst x)
    | ((try lift_lets -underBinder); intro x; clear_value x)
    | (intro _)
    | with_reducible apply State.set_good
    | with_reducible apply State.showTimetable_good
    | (simp -zeta only [Keep.mk_iff]; with_reducible refine Keep.upd ?_ rfl ?_; on_goal 2 => (and_intros <;> with_reducible first | exact .inl rfl | exact .inl ⟨rfl, rfl, rfl⟩ | exact .inr ‹_› | exact Nat.le_refl _ | exact Nat.le_add_right _ _))

theorem State.ttProceed_good (out : km.part .out) (scn : km.part .scn)
    (hDEP_MODE_CHECK_DEP_PENDING : km.fld R.DEP.MODE_CHECK.DEP_PENDING)
    (hDEP_MODE_CHECK_EPOCH_PENDING : km.fld R.DEP.MODE_CHECK.EPOCH_PENDING)
    (hDEP_MODE_CHECK_FIELDS : km.fld R.DEP.MODE_CHECK.FIELDS) (hDEP_MODE_CHECK_RULE : km.fld R.DEP.MODE_CHECK.RULE)
    (hDEP_MODE_CHECK_VALID : km.fld R.DEP.MODE_CHECK.VALID)
    (hDEP_MODE_CTRL_FB_VALID : km.fld R.DEP.MODE_CTRL.FB_VALID) (hPG_COMMIT : ∀ a, km.fld (R.PG.COMMIT a))
    (hPG_COMMIT_PENDING : ∀ a, km.fld (R.PG.COMMIT_PENDING a)) (hPG_EVT_PEND : ∀ a, km.fld (R.PG.EVT_PEND a))
    (hSCN_TT_STAT_SYNCING : km.fld R.SCN.TT_STAT.SYNCING) (s : State) (stage : List Host.Cell) (hs : s.Keeps km pq) : (State.ttProceed s stage).Keeps km pq := by
  unfold State.ttProceed
  repeat' first
    | with_reducible assumption
    | with_reducible exact hPG_COMMIT _
    | with_reducible exact hPG_COMMIT_PENDING _
    | with_reducible exact hPG_EVT_PEND _
    | ((try lift_lets -underBinder); intro x; refine Keep.use (k := km) (q := pq) (s := x) ?_ ?_; (on_goal 1 => dsimp -zeta only [x]); (on_goal 2 => clear_value x; intro _))
    | ((try lift_lets -underBinder); intro x; refine Keep.usePair (k := km) (q := pq) (p := x) ?_ ?_; (on_goal 1 => dsimp -zeta only [x]); (on_goal 2 => clear_value x; intro _))
    | ((try lift_lets -underBinder); intro x; refine Keep.memSt (x := x) ?_; subst x)
    | ((try lift_lets -underBinder); intro x; refine Keep.depSt (x := x) ?_; subst x)
    | ((try lift_lets -underBinder); intro x; clear_value x)
    | (intro _)
    | with_reducible apply Keep.ite
    | with_reducible apply State.ttStore_good
    | with_reducible apply State.set_good
    | with_reducible apply State.evaluate_good
    | with_reducible apply State.armCommit_good
    | (simp -zeta only [Keep.mk_iff]; with_reducible refine Keep.upd ?_ rfl ?_; on_goal 2 => (and_intros <;> with_reducible first | exact .inl rfl | exact .inl ⟨rfl, rfl, rfl⟩ | exact .inr ‹_› | exact Nat.le_refl _ | exact Nat.le_add_right _ _))
    | with_reducible apply Keep.foldl

theorem State.ttSynced_good (out : km.part .out) (scn : km.part .scn)
    (hDEP_MODE_CHECK_DEP_PENDING : km.fld R.DEP.MODE_CHECK.DEP_PENDING)
    (hDEP_MODE_CHECK_EPOCH_PENDING : km.fld R.DEP.MODE_CHECK.EPOCH_PENDING)
    (hDEP_MODE_CHECK_FIELDS : km.fld R.DEP.MODE_CHECK.FIELDS) (hDEP_MODE_CHECK_RULE : km.fld R.DEP.MODE_CHECK.RULE)
    (hDEP_MODE_CHECK_VALID : km.fld R.DEP.MODE_CHECK.VALID)
    (hDEP_MODE_CTRL_FB_VALID : km.fld R.DEP.MODE_CTRL.FB_VALID) (hPG_COMMIT : ∀ a, km.fld (R.PG.COMMIT a))
    (hPG_COMMIT_PENDING : ∀ a, km.fld (R.PG.COMMIT_PENDING a)) (hPG_EVT_PEND : ∀ a, km.fld (R.PG.EVT_PEND a))
    (hSCN_TT_STAT_SYNCING : km.fld R.SCN.TT_STAT.SYNCING) (s : State) (hs : s.Keeps km pq) : (State.ttSynced s).Keeps km pq := by
  unfold State.ttSynced
  repeat' first
    | with_reducible assumption
    | with_reducible exact hPG_COMMIT _
    | with_reducible exact hPG_COMMIT_PENDING _
    | with_reducible exact hPG_EVT_PEND _
    | (intro _)
    | with_reducible apply Keep.ite
    | with_reducible apply State.ev_good
    | with_reducible apply State.ttProceed_good

theorem State.ttAbandon_good (out : km.part .out) (tim : km.part .tim) (scn : km.part .scn)
    (hDEP_MODE_CHECK_DEP_PENDING : km.fld R.DEP.MODE_CHECK.DEP_PENDING)
    (hDEP_MODE_CHECK_EPOCH_PENDING : km.fld R.DEP.MODE_CHECK.EPOCH_PENDING)
    (hDEP_MODE_CHECK_FIELDS : km.fld R.DEP.MODE_CHECK.FIELDS) (hDEP_MODE_CHECK_RULE : km.fld R.DEP.MODE_CHECK.RULE)
    (hDEP_MODE_CHECK_VALID : km.fld R.DEP.MODE_CHECK.VALID)
    (hDEP_MODE_CTRL_FB_VALID : km.fld R.DEP.MODE_CTRL.FB_VALID) (hPG_COMMIT : ∀ a, km.fld (R.PG.COMMIT a))
    (hPG_COMMIT_PENDING : ∀ a, km.fld (R.PG.COMMIT_PENDING a)) (hPG_EVT_PEND : ∀ a, km.fld (R.PG.EVT_PEND a))
    (hSCN_TT_STAT_SYNCING : km.fld R.SCN.TT_STAT.SYNCING)
    (hTIM_DOM_OFFSET_OFFSET : ∀ a, km.fld (R.TIM.DOM_OFFSET.OFFSET a))
    (hTIM_DOM_RATE_RATE : ∀ a, km.fld (R.TIM.DOM_RATE.RATE a)) (s : State) (hs : s.Keeps km pq) : (State.ttAbandon s).Keeps km pq := by
  unfold State.ttAbandon
  repeat' first
    | with_reducible assumption
    | with_reducible exact hPG_COMMIT _
    | with_reducible exact hPG_COMMIT_PENDING _
    | with_reducible exact hPG_EVT_PEND _
    | with_reducible exact hTIM_DOM_OFFSET_OFFSET _
    | with_reducible exact hTIM_DOM_RATE_RATE _
    | ((try lift_lets -underBinder); intro x; refine Keep.use (k := km) (q := pq) (s := x) ?_ ?_; (on_goal 1 => dsimp -zeta only [x]); (on_goal 2 => clear_value x; intro _))
    | ((try lift_lets -underBinder); intro x; refine Keep.usePair (k := km) (q := pq) (p := x) ?_ ?_; (on_goal 1 => dsimp -zeta only [x]); (on_goal 2 => clear_value x; intro _))
    | ((try lift_lets -underBinder); intro x; refine Keep.memSt (x := x) ?_; subst x)
    | ((try lift_lets -underBinder); intro x; refine Keep.depSt (x := x) ?_; subst x)
    | ((try lift_lets -underBinder); intro x; clear_value x)
    | (intro _)
    | with_reducible apply Keep.ite
    | with_reducible apply State.draw_good
    | with_reducible apply State.ttProceed_good

theorem State.planeValue_good (out : km.part .out) (tim : km.part .tim) (mem : km.part .mem) (dram : km.part .dram)
    (line : km.part .line) (hLOG_LOG_ADDR_LO_ADDR : ∀ a, km.fld (R.LOG.LOG_ADDR_LO.ADDR a))
    (hLOG_LOG_INFO_ADDR_HI : ∀ a, km.fld (R.LOG.LOG_INFO.ADDR_HI a))
    (hLOG_LOG_INFO_ARRAY : ∀ a, km.fld (R.LOG.LOG_INFO.ARRAY a))
    (hLOG_LOG_INFO_BYTES : ∀ a, km.fld (R.LOG.LOG_INFO.BYTES a))
    (hLOG_LOG_INFO_CHANNEL : ∀ a, km.fld (R.LOG.LOG_INFO.CHANNEL a))
    (hLOG_LOG_INFO_CODE : ∀ a, km.fld (R.LOG.LOG_INFO.CODE a))
    (hLOG_LOG_INFO_PORT : ∀ a, km.fld (R.LOG.LOG_INFO.PORT a))
    (hLOG_LOG_INFO_SRAM : ∀ a, km.fld (R.LOG.LOG_INFO.SRAM a))
    (hLOG_LOG_TIME_HI_NS : ∀ a, km.fld (R.LOG.LOG_TIME_HI.NS a))
    (hLOG_LOG_TIME_LO_NS : ∀ a, km.fld (R.LOG.LOG_TIME_LO.NS a))
    (hMEM_CH_STAT_FILLED : ∀ a, km.fld (R.MEM.CH_STAT.FILLED a))
    (hMEM_CH_STAT_MIRROR_OK : ∀ a, km.fld (R.MEM.CH_STAT.MIRROR_OK a))
    (hMEM_CH_STAT_STATE : ∀ a, km.fld (R.MEM.CH_STAT.STATE a))
    (hPAR_DRAM_ERR_CNT_COUNT : km.fld R.PAR.DRAM_ERR_CNT.COUNT) (hPAR_LOG_STAT_NEXT : km.fld R.PAR.LOG_STAT.NEXT)
    (hPAR_LOG_STAT_TOTAL : km.fld R.PAR.LOG_STAT.TOTAL) (hPAR_LOG_STAT_WRAPPED : km.fld R.PAR.LOG_STAT.WRAPPED)
    (hPAR_MIRROR_FIX_CNT_COUNT : km.fld R.PAR.MIRROR_FIX_CNT.COUNT)
    (hPG_ERR_ADDR_HI : ∀ a, km.fld (R.PG.ERR_ADDR_HI a)) (hPG_ERR_ADDR_LO : ∀ a, km.fld (R.PG.ERR_ADDR_LO a))
    (hPG_ERR_CODE : ∀ a, km.fld (R.PG.ERR_CODE a)) (hPG_ERR_COUNT : ∀ a, km.fld (R.PG.ERR_COUNT a))
    (hPG_ERR_OVERFLOW : ∀ a, km.fld (R.PG.ERR_OVERFLOW a)) (hPG_ERR_SOURCE : ∀ a, km.fld (R.PG.ERR_SOURCE a))
    (hPG_ERR_VALID : ∀ a, km.fld (R.PG.ERR_VALID a)) (hPG_EVT_PEND : ∀ a, km.fld (R.PG.EVT_PEND a))
    (hPG_POISON_SEEN : ∀ a, km.fld (R.PG.POISON_SEEN a)) (hSCN_POISON_WORDS_COUNT : km.fld R.SCN.POISON_WORDS.COUNT)
    (hTIM_DOM_OFFSET_OFFSET : ∀ a, km.fld (R.TIM.DOM_OFFSET.OFFSET a))
    (hTIM_DOM_RATE_RATE : ∀ a, km.fld (R.TIM.DOM_RATE.RATE a)) (s : State) (set view i : Nat) (d : Nat × Bool)
    (hs : s.Keeps km pq) : (State.planeValue s set view i d).1.Keeps km pq := by
  unfold State.planeValue
  repeat' first
    | with_reducible assumption
    | with_reducible exact hLOG_LOG_ADDR_LO_ADDR _
    | with_reducible exact hLOG_LOG_INFO_ADDR_HI _
    | with_reducible exact hLOG_LOG_INFO_ARRAY _
    | with_reducible exact hLOG_LOG_INFO_BYTES _
    | with_reducible exact hLOG_LOG_INFO_CHANNEL _
    | with_reducible exact hLOG_LOG_INFO_CODE _
    | with_reducible exact hLOG_LOG_INFO_PORT _
    | with_reducible exact hLOG_LOG_INFO_SRAM _
    | with_reducible exact hLOG_LOG_TIME_HI_NS _
    | with_reducible exact hLOG_LOG_TIME_LO_NS _
    | with_reducible exact hMEM_CH_STAT_FILLED _
    | with_reducible exact hMEM_CH_STAT_MIRROR_OK _
    | with_reducible exact hMEM_CH_STAT_STATE _
    | with_reducible exact hPG_ERR_ADDR_HI _
    | with_reducible exact hPG_ERR_ADDR_LO _
    | with_reducible exact hPG_ERR_CODE _
    | with_reducible exact hPG_ERR_COUNT _
    | with_reducible exact hPG_ERR_OVERFLOW _
    | with_reducible exact hPG_ERR_SOURCE _
    | with_reducible exact hPG_ERR_VALID _
    | with_reducible exact hPG_EVT_PEND _
    | with_reducible exact hPG_POISON_SEEN _
    | with_reducible exact hTIM_DOM_OFFSET_OFFSET _
    | with_reducible exact hTIM_DOM_RATE_RATE _
    | ((try lift_lets -underBinder); intro x; refine Keep.use (k := km) (q := pq) (s := x) ?_ ?_; (on_goal 1 => dsimp -zeta only [x]); (on_goal 2 => clear_value x; intro _))
    | ((try lift_lets -underBinder); intro x; refine Keep.usePair (k := km) (q := pq) (p := x) ?_ ?_; (on_goal 1 => dsimp -zeta only [x]); (on_goal 2 => clear_value x; intro _))
    | ((try lift_lets -underBinder); intro x; refine Keep.memSt (x := x) ?_; subst x)
    | ((try lift_lets -underBinder); intro x; refine Keep.depSt (x := x) ?_; subst x)
    | ((try lift_lets -underBinder); intro x; clear_value x)
    | (intro _)
    | with_reducible apply Keep.ite
    | with_reducible apply Keep.ite1
    | dsimp -zeta only
    | with_reducible apply State.count_good
    | with_reducible apply State.poison_good
    | with_reducible apply State.dramRead_good

theorem State.loadValue_good (out : km.part .out) (tim : km.part .tim) (mem : km.part .mem) (dram : km.part .dram)
    (line : km.part .line) (hLOG_LOG_ADDR_LO_ADDR : ∀ a, km.fld (R.LOG.LOG_ADDR_LO.ADDR a))
    (hLOG_LOG_INFO_ADDR_HI : ∀ a, km.fld (R.LOG.LOG_INFO.ADDR_HI a))
    (hLOG_LOG_INFO_ARRAY : ∀ a, km.fld (R.LOG.LOG_INFO.ARRAY a))
    (hLOG_LOG_INFO_BYTES : ∀ a, km.fld (R.LOG.LOG_INFO.BYTES a))
    (hLOG_LOG_INFO_CHANNEL : ∀ a, km.fld (R.LOG.LOG_INFO.CHANNEL a))
    (hLOG_LOG_INFO_CODE : ∀ a, km.fld (R.LOG.LOG_INFO.CODE a))
    (hLOG_LOG_INFO_PORT : ∀ a, km.fld (R.LOG.LOG_INFO.PORT a))
    (hLOG_LOG_INFO_SRAM : ∀ a, km.fld (R.LOG.LOG_INFO.SRAM a))
    (hLOG_LOG_TIME_HI_NS : ∀ a, km.fld (R.LOG.LOG_TIME_HI.NS a))
    (hLOG_LOG_TIME_LO_NS : ∀ a, km.fld (R.LOG.LOG_TIME_LO.NS a))
    (hMEM_CH_STAT_FILLED : ∀ a, km.fld (R.MEM.CH_STAT.FILLED a))
    (hMEM_CH_STAT_MIRROR_OK : ∀ a, km.fld (R.MEM.CH_STAT.MIRROR_OK a))
    (hMEM_CH_STAT_STATE : ∀ a, km.fld (R.MEM.CH_STAT.STATE a))
    (hPAR_DRAM_ERR_CNT_COUNT : km.fld R.PAR.DRAM_ERR_CNT.COUNT) (hPAR_LOG_STAT_NEXT : km.fld R.PAR.LOG_STAT.NEXT)
    (hPAR_LOG_STAT_TOTAL : km.fld R.PAR.LOG_STAT.TOTAL) (hPAR_LOG_STAT_WRAPPED : km.fld R.PAR.LOG_STAT.WRAPPED)
    (hPAR_MIRROR_FIX_CNT_COUNT : km.fld R.PAR.MIRROR_FIX_CNT.COUNT)
    (hPG_ERR_ADDR_HI : ∀ a, km.fld (R.PG.ERR_ADDR_HI a)) (hPG_ERR_ADDR_LO : ∀ a, km.fld (R.PG.ERR_ADDR_LO a))
    (hPG_ERR_CODE : ∀ a, km.fld (R.PG.ERR_CODE a)) (hPG_ERR_COUNT : ∀ a, km.fld (R.PG.ERR_COUNT a))
    (hPG_ERR_OVERFLOW : ∀ a, km.fld (R.PG.ERR_OVERFLOW a)) (hPG_ERR_SOURCE : ∀ a, km.fld (R.PG.ERR_SOURCE a))
    (hPG_ERR_VALID : ∀ a, km.fld (R.PG.ERR_VALID a)) (hPG_EVT_PEND : ∀ a, km.fld (R.PG.EVT_PEND a))
    (hPG_POISON_SEEN : ∀ a, km.fld (R.PG.POISON_SEEN a)) (hSCN_POISON_WORDS_COUNT : km.fld R.SCN.POISON_WORDS.COUNT)
    (hTIM_DOM_OFFSET_OFFSET : ∀ a, km.fld (R.TIM.DOM_OFFSET.OFFSET a))
    (hTIM_DOM_RATE_RATE : ∀ a, km.fld (R.TIM.DOM_RATE.RATE a)) (s : State) (set view i : Nat) (d : Nat × Bool)
    (dark : Bool) (hs : s.Keeps km pq) : (State.loadValue s set view i d dark).1.Keeps km pq := by
  unfold State.loadValue
  repeat' first
    | with_reducible assumption
    | with_reducible exact hLOG_LOG_ADDR_LO_ADDR _
    | with_reducible exact hLOG_LOG_INFO_ADDR_HI _
    | with_reducible exact hLOG_LOG_INFO_ARRAY _
    | with_reducible exact hLOG_LOG_INFO_BYTES _
    | with_reducible exact hLOG_LOG_INFO_CHANNEL _
    | with_reducible exact hLOG_LOG_INFO_CODE _
    | with_reducible exact hLOG_LOG_INFO_PORT _
    | with_reducible exact hLOG_LOG_INFO_SRAM _
    | with_reducible exact hLOG_LOG_TIME_HI_NS _
    | with_reducible exact hLOG_LOG_TIME_LO_NS _
    | with_reducible exact hMEM_CH_STAT_FILLED _
    | with_reducible exact hMEM_CH_STAT_MIRROR_OK _
    | with_reducible exact hMEM_CH_STAT_STATE _
    | with_reducible exact hPG_ERR_ADDR_HI _
    | with_reducible exact hPG_ERR_ADDR_LO _
    | with_reducible exact hPG_ERR_CODE _
    | with_reducible exact hPG_ERR_COUNT _
    | with_reducible exact hPG_ERR_OVERFLOW _
    | with_reducible exact hPG_ERR_SOURCE _
    | with_reducible exact hPG_ERR_VALID _
    | with_reducible exact hPG_EVT_PEND _
    | with_reducible exact hPG_POISON_SEEN _
    | with_reducible exact hTIM_DOM_OFFSET_OFFSET _
    | with_reducible exact hTIM_DOM_RATE_RATE _
    | ((try lift_lets -underBinder); intro x; refine Keep.use (k := km) (q := pq) (s := x) ?_ ?_; (on_goal 1 => dsimp -zeta only [x]); (on_goal 2 => clear_value x; intro _))
    | ((try lift_lets -underBinder); intro x; refine Keep.usePair (k := km) (q := pq) (p := x) ?_ ?_; (on_goal 1 => dsimp -zeta only [x]); (on_goal 2 => clear_value x; intro _))
    | ((try lift_lets -underBinder); intro x; refine Keep.memSt (x := x) ?_; subst x)
    | ((try lift_lets -underBinder); intro x; refine Keep.depSt (x := x) ?_; subst x)
    | ((try lift_lets -underBinder); intro x; clear_value x)
    | (intro _)
    | with_reducible apply Keep.ite
    | with_reducible apply Keep.ite1
    | dsimp -zeta only
    | with_reducible apply State.planeValue_good

theorem State.loadValues_good (out : km.part .out) (tim : km.part .tim) (mem : km.part .mem) (dram : km.part .dram)
    (line : km.part .line) (hLOG_LOG_ADDR_LO_ADDR : ∀ a, km.fld (R.LOG.LOG_ADDR_LO.ADDR a))
    (hLOG_LOG_INFO_ADDR_HI : ∀ a, km.fld (R.LOG.LOG_INFO.ADDR_HI a))
    (hLOG_LOG_INFO_ARRAY : ∀ a, km.fld (R.LOG.LOG_INFO.ARRAY a))
    (hLOG_LOG_INFO_BYTES : ∀ a, km.fld (R.LOG.LOG_INFO.BYTES a))
    (hLOG_LOG_INFO_CHANNEL : ∀ a, km.fld (R.LOG.LOG_INFO.CHANNEL a))
    (hLOG_LOG_INFO_CODE : ∀ a, km.fld (R.LOG.LOG_INFO.CODE a))
    (hLOG_LOG_INFO_PORT : ∀ a, km.fld (R.LOG.LOG_INFO.PORT a))
    (hLOG_LOG_INFO_SRAM : ∀ a, km.fld (R.LOG.LOG_INFO.SRAM a))
    (hLOG_LOG_TIME_HI_NS : ∀ a, km.fld (R.LOG.LOG_TIME_HI.NS a))
    (hLOG_LOG_TIME_LO_NS : ∀ a, km.fld (R.LOG.LOG_TIME_LO.NS a))
    (hMEM_CH_STAT_FILLED : ∀ a, km.fld (R.MEM.CH_STAT.FILLED a))
    (hMEM_CH_STAT_MIRROR_OK : ∀ a, km.fld (R.MEM.CH_STAT.MIRROR_OK a))
    (hMEM_CH_STAT_STATE : ∀ a, km.fld (R.MEM.CH_STAT.STATE a))
    (hPAR_DRAM_ERR_CNT_COUNT : km.fld R.PAR.DRAM_ERR_CNT.COUNT) (hPAR_LOG_STAT_NEXT : km.fld R.PAR.LOG_STAT.NEXT)
    (hPAR_LOG_STAT_TOTAL : km.fld R.PAR.LOG_STAT.TOTAL) (hPAR_LOG_STAT_WRAPPED : km.fld R.PAR.LOG_STAT.WRAPPED)
    (hPAR_MIRROR_FIX_CNT_COUNT : km.fld R.PAR.MIRROR_FIX_CNT.COUNT)
    (hPG_ERR_ADDR_HI : ∀ a, km.fld (R.PG.ERR_ADDR_HI a)) (hPG_ERR_ADDR_LO : ∀ a, km.fld (R.PG.ERR_ADDR_LO a))
    (hPG_ERR_CODE : ∀ a, km.fld (R.PG.ERR_CODE a)) (hPG_ERR_COUNT : ∀ a, km.fld (R.PG.ERR_COUNT a))
    (hPG_ERR_OVERFLOW : ∀ a, km.fld (R.PG.ERR_OVERFLOW a)) (hPG_ERR_SOURCE : ∀ a, km.fld (R.PG.ERR_SOURCE a))
    (hPG_ERR_VALID : ∀ a, km.fld (R.PG.ERR_VALID a)) (hPG_EVT_PEND : ∀ a, km.fld (R.PG.EVT_PEND a))
    (hPG_POISON_SEEN : ∀ a, km.fld (R.PG.POISON_SEEN a)) (hSCN_POISON_WORDS_COUNT : km.fld R.SCN.POISON_WORDS.COUNT)
    (hTIM_DOM_OFFSET_OFFSET : ∀ a, km.fld (R.TIM.DOM_OFFSET.OFFSET a))
    (hTIM_DOM_RATE_RATE : ∀ a, km.fld (R.TIM.DOM_RATE.RATE a)) (s : State) (set view i0 n : Nat) (dark : Bool)
    (hs : s.Keeps km pq) : (State.loadValues s set view i0 n dark).1.Keeps km pq := by
  unfold State.loadValues
  repeat' first
    | with_reducible assumption
    | with_reducible exact hLOG_LOG_ADDR_LO_ADDR _
    | with_reducible exact hLOG_LOG_INFO_ADDR_HI _
    | with_reducible exact hLOG_LOG_INFO_ARRAY _
    | with_reducible exact hLOG_LOG_INFO_BYTES _
    | with_reducible exact hLOG_LOG_INFO_CHANNEL _
    | with_reducible exact hLOG_LOG_INFO_CODE _
    | with_reducible exact hLOG_LOG_INFO_PORT _
    | with_reducible exact hLOG_LOG_INFO_SRAM _
    | with_reducible exact hLOG_LOG_TIME_HI_NS _
    | with_reducible exact hLOG_LOG_TIME_LO_NS _
    | with_reducible exact hMEM_CH_STAT_FILLED _
    | with_reducible exact hMEM_CH_STAT_MIRROR_OK _
    | with_reducible exact hMEM_CH_STAT_STATE _
    | with_reducible exact hPG_ERR_ADDR_HI _
    | with_reducible exact hPG_ERR_ADDR_LO _
    | with_reducible exact hPG_ERR_CODE _
    | with_reducible exact hPG_ERR_COUNT _
    | with_reducible exact hPG_ERR_OVERFLOW _
    | with_reducible exact hPG_ERR_SOURCE _
    | with_reducible exact hPG_ERR_VALID _
    | with_reducible exact hPG_EVT_PEND _
    | with_reducible exact hPG_POISON_SEEN _
    | with_reducible exact hTIM_DOM_OFFSET_OFFSET _
    | with_reducible exact hTIM_DOM_RATE_RATE _
    | ((try lift_lets -underBinder); intro x; refine Keep.use (k := km) (q := pq) (s := x) ?_ ?_; (on_goal 1 => dsimp -zeta only [x]); (on_goal 2 => clear_value x; intro _))
    | ((try lift_lets -underBinder); intro x; refine Keep.usePair (k := km) (q := pq) (p := x) ?_ ?_; (on_goal 1 => dsimp -zeta only [x]); (on_goal 2 => clear_value x; intro _))
    | ((try lift_lets -underBinder); intro x; refine Keep.memSt (x := x) ?_; subst x)
    | ((try lift_lets -underBinder); intro x; refine Keep.depSt (x := x) ?_; subst x)
    | ((try lift_lets -underBinder); intro x; clear_value x)
    | (intro _)
    | with_reducible apply Keep.ite
    | with_reducible apply Keep.ite1
    | dsimp -zeta only
    | with_reducible apply State.readLamps_good
    | with_reducible apply State.loadValue_good
    | split
    | with_reducible refine Keep.fst (by assumption) ?_
    | with_reducible apply Keep.foldl
    | with_reducible apply Keep.foldl1

theorem State.showLoading_good (hSCN_SCN_STAT_LOADING : km.fld R.SCN.SCN_STAT.LOADING) (s : State)
    (hs : s.Keeps km pq) : (State.showLoading s).Keeps km pq := by
  unfold State.showLoading
  repeat' first
    | with_reducible assumption
    | (intro _)
    | with_reducible apply State.set_good

theorem State.dropLoads_good (scn : km.part .scn) (hSCN_SCN_STAT_LOADING : km.fld R.SCN.SCN_STAT.LOADING) (s : State)
    (hs : s.Keeps km pq) : (State.dropLoads s).Keeps km pq := by
  unfold State.dropLoads
  repeat' first
    | with_reducible assumption
    | ((try lift_lets -underBinder); intro x; refine Keep.use (k := km) (q := pq) (s := x) ?_ ?_; (on_goal 1 => dsimp -zeta only [x]); (on_goal 2 => clear_value x; intro _))
    | ((try lift_lets -underBinder); intro x; refine Keep.usePair (k := km) (q := pq) (p := x) ?_ ?_; (on_goal 1 => dsimp -zeta only [x]); (on_goal 2 => clear_value x; intro _))
    | ((try lift_lets -underBinder); intro x; refine Keep.memSt (x := x) ?_; subst x)
    | ((try lift_lets -underBinder); intro x; refine Keep.depSt (x := x) ?_; subst x)
    | ((try lift_lets -underBinder); intro x; clear_value x)
    | (intro _)
    | with_reducible apply State.set_good
    | (simp -zeta only [Keep.mk_iff]; with_reducible refine Keep.upd ?_ rfl ?_; on_goal 2 => (and_intros <;> with_reducible first | exact .inl rfl | exact .inl ⟨rfl, rfl, rfl⟩ | exact .inr ‹_› | exact Nat.le_refl _ | exact Nat.le_add_right _ _))

theorem State.putLoad_good (scn : km.part .scn) (hSCN_SCN_STAT_LOADING : km.fld R.SCN.SCN_STAT.LOADING) (s : State)
    (l : Load) (fromBack : Bool) (vals : List Nat) (hs : s.Keeps km pq) : (State.putLoad s l fromBack vals).Keeps km pq := by
  unfold State.putLoad
  repeat' first
    | with_reducible assumption
    | ((try lift_lets -underBinder); intro x; refine Keep.use (k := km) (q := pq) (s := x) ?_ ?_; (on_goal 1 => dsimp -zeta only [x]); (on_goal 2 => clear_value x; intro _))
    | ((try lift_lets -underBinder); intro x; refine Keep.usePair (k := km) (q := pq) (p := x) ?_ ?_; (on_goal 1 => dsimp -zeta only [x]); (on_goal 2 => clear_value x; intro _))
    | ((try lift_lets -underBinder); intro x; refine Keep.memSt (x := x) ?_; subst x)
    | ((try lift_lets -underBinder); intro x; refine Keep.depSt (x := x) ?_; subst x)
    | ((try lift_lets -underBinder); intro x; clear_value x)
    | (intro _)
    | with_reducible apply State.set_good
    | (simp -zeta only [Keep.mk_iff]; with_reducible refine Keep.upd ?_ rfl ?_; on_goal 2 => (and_intros <;> with_reducible first | exact .inl rfl | exact .inl ⟨rfl, rfl, rfl⟩ | exact .inr ‹_› | exact Nat.le_refl _ | exact Nat.le_add_right _ _))

theorem State.sinkCell_good (out : km.part .out) (s : State) (kind : Nat) (words : List Nat) (hs : s.Keeps km pq) : (State.sinkCell s kind words).Keeps km pq := by
  unfold State.sinkCell
  repeat' first
    | with_reducible assumption
    | (intro _)
    | with_reducible apply Keep.ite
    | with_reducible apply State.emit_good

theorem State.sendBand_good (out : km.part .out) (s : State) (b : Nat) (vals : List Nat) (hs : s.Keeps km pq) : (State.sendBand s b vals).Keeps km pq := by
  unfold State.sendBand
  repeat' first
    | with_reducible assumption
    | (intro _)
    | with_reducible apply Keep.ite
    | with_reducible apply State.emit_good

theorem State.sendBands_good (out : km.part .out) (s : State) (vals : List Nat) (hs : s.Keeps km pq) : (State.sendBands s vals).Keeps km pq := by
  unfold State.sendBands
  repeat' first
    | with_reducible assumption
    | ((try lift_lets -underBinder); intro x; refine Keep.use (k := km) (q := pq) (s := x) ?_ ?_; (on_goal 1 => dsimp -zeta only [x]); (on_goal 2 => clear_value x; intro _))
    | ((try lift_lets -underBinder); intro x; refine Keep.usePair (k := km) (q := pq) (p := x) ?_ ?_; (on_goal 1 => dsimp -zeta only [x]); (on_goal 2 => clear_value x; intro _))
    | ((try lift_lets -underBinder); intro x; refine Keep.memSt (x := x) ?_; subst x)
    | ((try lift_lets -underBinder); intro x; refine Keep.depSt (x := x) ?_; subst x)
    | ((try lift_lets -underBinder); intro x; clear_value x)
    | (intro _)
    | with_reducible apply State.forN_good
    | with_reducible apply State.sendBand_good

theorem State.startLoad_good (out : km.part .out) (tim : km.part .tim) (mem : km.part .mem) (dram : km.part .dram)
    (scn : km.part .scn) (line : km.part .line) (any : ∀ f, km.fld f) (s : State) (set view : Nat) (fromBack : Bool)
    (hs : s.Keeps km pq) : (State.startLoad s set view fromBack).Keeps km pq := by
  unfold State.startLoad
  repeat' first
    | with_reducible assumption
    | (with_reducible (intros; exact any _))
    | ((try lift_lets -underBinder); intro x; refine Keep.use (k := km) (q := pq) (s := x) ?_ ?_; (on_goal 1 => dsimp -zeta only [x]); (on_goal 2 => clear_value x; intro _))
    | ((try lift_lets -underBinder); intro x; refine Keep.usePair (k := km) (q := pq) (p := x) ?_ ?_; (on_goal 1 => dsimp -zeta only [x]); (on_goal 2 => clear_value x; intro _))
    | ((try lift_lets -underBinder); intro x; refine Keep.memSt (x := x) ?_; subst x)
    | ((try lift_lets -underBinder); intro x; refine Keep.depSt (x := x) ?_; subst x)
    | ((try lift_lets -underBinder); intro x; clear_value x)
    | (intro _)
    | with_reducible apply Keep.ite
    | with_reducible apply Keep.ite1
    | dsimp -zeta only
    | with_reducible apply State.spireLoad_good
    | with_reducible apply State.loadValues_good
    | with_reducible apply State.memSettle_good
    | with_reducible apply State.putLoad_good
    | with_reducible apply State.sendBands_good

theorem State.loadStart_good (out : km.part .out) (tim : km.part .tim) (mem : km.part .mem) (dram : km.part .dram)
    (scn : km.part .scn) (line : km.part .line) (any : ∀ f, km.fld f) (s : State) (hs : s.Keeps km pq) : (State.loadStart s).Keeps km pq := by
  unfold State.loadStart
  repeat' first
    | with_reducible assumption
    | (with_reducible (intros; exact any _))
    | ((try lift_lets -underBinder); intro x; refine Keep.use (k := km) (q := pq) (s := x) ?_ ?_; (on_goal 1 => dsimp -zeta only [x]); (on_goal 2 => clear_value x; intro _))
    | ((try lift_lets -underBinder); intro x; refine Keep.usePair (k := km) (q := pq) (p := x) ?_ ?_; (on_goal 1 => dsimp -zeta only [x]); (on_goal 2 => clear_value x; intro _))
    | ((try lift_lets -underBinder); intro x; refine Keep.memSt (x := x) ?_; subst x)
    | ((try lift_lets -underBinder); intro x; refine Keep.depSt (x := x) ?_; subst x)
    | ((try lift_lets -underBinder); intro x; clear_value x)
    | (intro _)
    | with_reducible apply Keep.ite
    | with_reducible apply State.startLoad_good

theorem State.loadDeadline_good (out : km.part .out) (tim : km.part .tim) (mem : km.part .mem) (dram : km.part .dram)
    (scn : km.part .scn) (line : km.part .line) (any : ∀ f, km.fld f) (s : State) (hs : s.Keeps km pq) : (State.loadDeadline s).Keeps km pq := by
  unfold State.loadDeadline
  repeat' first
    | with_reducible assumption
    | (with_reducible (intros; exact any _))
    | (intro _)
    | with_reducible apply Keep.ite
    | with_reducible apply State.startLoad_good

theorem State.frameDone_good (out : km.part .out) (hPG_EVT_PEND : ∀ a, km.fld (R.PG.EVT_PEND a))
    (hSCN_LAST_READY_NS : km.fld R.SCN.LAST_READY.NS) (s : State) (hs : s.Keeps km pq) : (State.frameDone s).Keeps km pq := by
  unfold State.frameDone
  repeat' first
    | with_reducible assumption
    | with_reducible exact hPG_EVT_PEND _
    | ((try lift_lets -underBinder); intro x; refine Keep.use (k := km) (q := pq) (s := x) ?_ ?_; (on_goal 1 => dsimp -zeta only [x]); (on_goal 2 => clear_value x; intro _))
    | ((try lift_lets -underBinder); intro x; refine Keep.usePair (k := km) (q := pq) (p := x) ?_ ?_; (on_goal 1 => dsimp -zeta only [x]); (on_goal 2 => clear_value x; intro _))
    | ((try lift_lets -underBinder); intro x; refine Keep.memSt (x := x) ?_; subst x)
    | ((try lift_lets -underBinder); intro x; refine Keep.depSt (x := x) ?_; subst x)
    | ((try lift_lets -underBinder); intro x; clear_value x)
    | (intro _)
    | with_reducible apply State.set_good
    | with_reducible apply State.ev_good

theorem State.loadDone_good (out : km.part .out) (scn : km.part .scn) (hPG_EVT_PEND : ∀ a, km.fld (R.PG.EVT_PEND a))
    (hSCN_LAST_READY_NS : km.fld R.SCN.LAST_READY.NS) (hSCN_SCN_STAT_LOADING : km.fld R.SCN.SCN_STAT.LOADING)
    (s : State) (hs : s.Keeps km pq) : (State.loadDone s).Keeps km pq := by
  unfold State.loadDone
  repeat' first
    | with_reducible assumption
    | with_reducible exact hPG_EVT_PEND _
    | ((try lift_lets -underBinder); intro x; refine Keep.use (k := km) (q := pq) (s := x) ?_ ?_; (on_goal 1 => dsimp -zeta only [x]); (on_goal 2 => clear_value x; intro _))
    | ((try lift_lets -underBinder); intro x; refine Keep.usePair (k := km) (q := pq) (p := x) ?_ ?_; (on_goal 1 => dsimp -zeta only [x]); (on_goal 2 => clear_value x; intro _))
    | ((try lift_lets -underBinder); intro x; refine Keep.memSt (x := x) ?_; subst x)
    | ((try lift_lets -underBinder); intro x; refine Keep.depSt (x := x) ?_; subst x)
    | ((try lift_lets -underBinder); intro x; clear_value x)
    | (intro _)
    | with_reducible apply Keep.ite
    | with_reducible apply State.set_good
    | with_reducible apply State.frameDone_good
    | split
    | (simp -zeta only [Keep.mk_iff]; with_reducible refine Keep.upd ?_ rfl ?_; on_goal 2 => (and_intros <;> with_reducible first | exact .inl rfl | exact .inl ⟨rfl, rfl, rfl⟩ | exact .inr ‹_› | exact Nat.le_refl _ | exact Nat.le_add_right _ _))

theorem State.flipSend_good (force : km.part .force) (out : km.part .out) (tim : km.part .tim) (dep : km.part .dep)
    (ing : km.part .ing) (map : km.part .map) (cmp : km.part .cmp) (mem : km.part .mem) (dram : km.part .dram)
    (scn : km.part .scn) (cor : km.part .cor) (rai : km.part .rai) (lfm : km.part .lfm) (line : km.part .line)
    (rdn : km.part .rdn) (any : ∀ f, km.fld f) (s : State) (hs : s.Keeps km pq) : (State.flipSend s).Keeps km pq := by
  unfold State.flipSend
  repeat' first
    | with_reducible assumption
    | (with_reducible (intros; exact any _))
    | ((try lift_lets -underBinder); intro x; refine Keep.use (k := km) (q := pq) (s := x) ?_ ?_; (on_goal 1 => dsimp -zeta only [x]); (on_goal 2 => clear_value x; intro _))
    | ((try lift_lets -underBinder); intro x; refine Keep.usePair (k := km) (q := pq) (p := x) ?_ ?_; (on_goal 1 => dsimp -zeta only [x]); (on_goal 2 => clear_value x; intro _))
    | ((try lift_lets -underBinder); intro x; refine Keep.memSt (x := x) ?_; subst x)
    | ((try lift_lets -underBinder); intro x; refine Keep.depSt (x := x) ?_; subst x)
    | ((try lift_lets -underBinder); intro x; clear_value x)
    | (intro _)
    | with_reducible apply Keep.ite
    | with_reducible apply State.flip_good
    | with_reducible apply State.sinkCell_good
    | with_reducible apply State.set_good
    | with_reducible apply State.count_good
    | with_reducible apply State.ev_good
    | split
    | (simp -zeta only [Keep.mk_iff]; with_reducible refine Keep.upd ?_ rfl ?_; on_goal 2 => (and_intros <;> with_reducible first | exact .inl rfl | exact .inl ⟨rfl, rfl, rfl⟩ | exact .inr ‹_› | exact Nat.le_refl _ | exact Nat.le_add_right _ _))

theorem State.takeCap_good (hSCN_CAP_K_K : km.fld R.SCN.CAP_K.K) (s : State) (hs : s.Keeps km pq) : (State.takeCap s).Keeps km pq := by
  unfold State.takeCap
  repeat' first
    | with_reducible assumption
    | ((try lift_lets -underBinder); intro x; refine Keep.use (k := km) (q := pq) (s := x) ?_ ?_; (on_goal 1 => dsimp -zeta only [x]); (on_goal 2 => clear_value x; intro _))
    | ((try lift_lets -underBinder); intro x; refine Keep.usePair (k := km) (q := pq) (p := x) ?_ ?_; (on_goal 1 => dsimp -zeta only [x]); (on_goal 2 => clear_value x; intro _))
    | ((try lift_lets -underBinder); intro x; refine Keep.memSt (x := x) ?_; subst x)
    | ((try lift_lets -underBinder); intro x; refine Keep.depSt (x := x) ?_; subst x)
    | ((try lift_lets -underBinder); intro x; clear_value x)
    | (intro _)
    | with_reducible apply State.set_good

theorem State.sendPlanes_good (out : km.part .out) (s : State) (t : Timetable) (row seg : Nat) (hs : s.Keeps km pq) : (State.sendPlanes s t row seg).Keeps km pq := by
  unfold State.sendPlanes
  repeat' first
    | with_reducible assumption
    | ((try lift_lets -underBinder); intro x; refine Keep.use (k := km) (q := pq) (s := x) ?_ ?_; (on_goal 1 => dsimp -zeta only [x]); (on_goal 2 => clear_value x; intro _))
    | ((try lift_lets -underBinder); intro x; refine Keep.usePair (k := km) (q := pq) (p := x) ?_ ?_; (on_goal 1 => dsimp -zeta only [x]); (on_goal 2 => clear_value x; intro _))
    | ((try lift_lets -underBinder); intro x; refine Keep.memSt (x := x) ?_; subst x)
    | ((try lift_lets -underBinder); intro x; refine Keep.depSt (x := x) ?_; subst x)
    | ((try lift_lets -underBinder); intro x; clear_value x)
    | (intro _)
    | with_reducible apply Keep.ite
    | with_reducible apply State.emit_good
    | with_reducible apply Keep.foldl

theorem State.rowEdge_good (out : km.part .out) (scn : km.part .scn) (hPG_EVT_PEND : ∀ a, km.fld (R.PG.EVT_PEND a))
    (hSCN_LOAD_LATE_CNT_COUNT : km.fld R.SCN.LOAD_LATE_CNT.COUNT) (s : State) (hs : s.Keeps km pq) : (State.rowEdge s).Keeps km pq := by
  unfold State.rowEdge
  repeat' first
    | with_reducible assumption
    | with_reducible exact hPG_EVT_PEND _
    | ((try lift_lets -underBinder); intro x; refine Keep.use (k := km) (q := pq) (s := x) ?_ ?_; (on_goal 1 => dsimp -zeta only [x]); (on_goal 2 => clear_value x; intro _))
    | ((try lift_lets -underBinder); intro x; refine Keep.usePair (k := km) (q := pq) (p := x) ?_ ?_; (on_goal 1 => dsimp -zeta only [x]); (on_goal 2 => clear_value x; intro _))
    | ((try lift_lets -underBinder); intro x; refine Keep.memSt (x := x) ?_; subst x)
    | ((try lift_lets -underBinder); intro x; refine Keep.depSt (x := x) ?_; subst x)
    | ((try lift_lets -underBinder); intro x; clear_value x)
    | (intro _)
    | with_reducible apply Keep.ite
    | with_reducible apply State.sendPlanes_good
    | with_reducible apply State.emit_good
    | with_reducible apply State.count_good
    | with_reducible apply State.evIf_good
    | (simp -zeta only [Keep.mk_iff]; with_reducible refine Keep.upd ?_ rfl ?_; on_goal 2 => (and_intros <;> with_reducible first | exact .inl rfl | exact .inl ⟨rfl, rfl, rfl⟩ | exact .inr ‹_› | exact Nat.le_refl _ | exact Nat.le_add_right _ _))

theorem State.subframe_good (force : km.part .force) (out : km.part .out) (tim : km.part .tim) (dep : km.part .dep)
    (ing : km.part .ing) (map : km.part .map) (cmp : km.part .cmp) (mem : km.part .mem) (dram : km.part .dram)
    (scn : km.part .scn) (cor : km.part .cor) (rai : km.part .rai) (lfm : km.part .lfm) (line : km.part .line)
    (rdn : km.part .rdn) (any : ∀ f, km.fld f) (s : State) (v : Nat) (hs : s.Keeps km pq) : (State.subframe s v).Keeps km pq := by
  unfold State.subframe
  repeat' first
    | with_reducible assumption
    | (with_reducible (intros; exact any _))
    | ((try lift_lets -underBinder); intro x; refine Keep.use (k := km) (q := pq) (s := x) ?_ ?_; (on_goal 1 => dsimp -zeta only [x]); (on_goal 2 => clear_value x; intro _))
    | ((try lift_lets -underBinder); intro x; refine Keep.usePair (k := km) (q := pq) (p := x) ?_ ?_; (on_goal 1 => dsimp -zeta only [x]); (on_goal 2 => clear_value x; intro _))
    | ((try lift_lets -underBinder); intro x; refine Keep.memSt (x := x) ?_; subst x)
    | ((try lift_lets -underBinder); intro x; refine Keep.depSt (x := x) ?_; subst x)
    | ((try lift_lets -underBinder); intro x; clear_value x)
    | (intro _)
    | with_reducible apply Keep.ite
    | with_reducible apply State.flip_good
    | with_reducible apply State.showLoading_good
    | with_reducible apply State.set_good
    | with_reducible apply State.rowEdge_good
    | (simp -zeta only [Keep.mk_iff]; with_reducible refine Keep.upd ?_ rfl ?_; on_goal 2 => (and_intros <;> with_reducible first | exact .inl rfl | exact .inl ⟨rfl, rfl, rfl⟩ | exact .inr ‹_› | exact Nat.le_refl _ | exact Nat.le_add_right _ _))

theorem State.nextRow_good (out : km.part .out) (scn : km.part .scn) (hPG_EVT_PEND : ∀ a, km.fld (R.PG.EVT_PEND a))
    (hSCN_LOAD_LATE_CNT_COUNT : km.fld R.SCN.LOAD_LATE_CNT.COUNT) (hSCN_SCN_STAT_ROW : km.fld R.SCN.SCN_STAT.ROW)
    (hSCN_SCN_STAT_SEG : km.fld R.SCN.SCN_STAT.SEG) (s : State) (hs : s.Keeps km pq) : (State.nextRow s).Keeps km pq := by
  unfold State.nextRow
  repeat' first
    | with_reducible assumption
    | with_reducible exact hPG_EVT_PEND _
    | ((try lift_lets -underBinder); intro x; refine Keep.use (k := km) (q := pq) (s := x) ?_ ?_; (on_goal 1 => dsimp -zeta only [x]); (on_goal 2 => clear_value x; intro _))
    | ((try lift_lets -underBinder); intro x; refine Keep.usePair (k := km) (q := pq) (p := x) ?_ ?_; (on_goal 1 => dsimp -zeta only [x]); (on_goal 2 => clear_value x; intro _))
    | ((try lift_lets -underBinder); intro x; refine Keep.memSt (x := x) ?_; subst x)
    | ((try lift_lets -underBinder); intro x; refine Keep.depSt (x := x) ?_; subst x)
    | ((try lift_lets -underBinder); intro x; clear_value x)
    | (intro _)
    | with_reducible apply Keep.ite
    | with_reducible apply State.set_good
    | with_reducible apply State.rowEdge_good

theorem State.gapStart_good (out : km.part .out) (tim : km.part .tim) (mem : km.part .mem) (dram : km.part .dram)
    (scn : km.part .scn) (lfm : km.part .lfm) (line : km.part .line) (any : ∀ f, km.fld f) (s : State)
    (hs : s.Keeps km pq) : (State.gapStart s).Keeps km pq := by
  unfold State.gapStart
  repeat' first
    | with_reducible assumption
    | (with_reducible (intros; exact any _))
    | ((try lift_lets -underBinder); intro x; refine Keep.use (k := km) (q := pq) (s := x) ?_ ?_; (on_goal 1 => dsimp -zeta only [x]); (on_goal 2 => clear_value x; intro _))
    | ((try lift_lets -underBinder); intro x; refine Keep.usePair (k := km) (q := pq) (p := x) ?_ ?_; (on_goal 1 => dsimp -zeta only [x]); (on_goal 2 => clear_value x; intro _))
    | ((try lift_lets -underBinder); intro x; refine Keep.memSt (x := x) ?_; subst x)
    | ((try lift_lets -underBinder); intro x; refine Keep.depSt (x := x) ?_; subst x)
    | ((try lift_lets -underBinder); intro x; clear_value x)
    | (intro _)
    | with_reducible apply Keep.ite
    | with_reducible apply State.set_good
    | with_reducible apply State.ev_good
    | with_reducible apply State.emit_good
    | with_reducible apply State.readback_good
    | (simp -zeta only [Keep.mk_iff]; with_reducible refine Keep.upd ?_ rfl ?_; on_goal 2 => (and_intros <;> with_reducible first | exact .inl rfl | exact .inl ⟨rfl, rfl, rfl⟩ | exact .inr ‹_› | exact Nat.le_refl _ | exact Nat.le_add_right _ _))

theorem State.setBand_good (scn : km.part .scn) (s : State) (b : Nat) (x : Band) (hs : s.Keeps km pq) : (State.setBand s b x).Keeps km pq := by
  unfold State.setBand
  repeat' first
    | with_reducible assumption
    | ((try lift_lets -underBinder); intro x; refine Keep.use (k := km) (q := pq) (s := x) ?_ ?_; (on_goal 1 => dsimp -zeta only [x]); (on_goal 2 => clear_value x; intro _))
    | ((try lift_lets -underBinder); intro x; refine Keep.usePair (k := km) (q := pq) (p := x) ?_ ?_; (on_goal 1 => dsimp -zeta only [x]); (on_goal 2 => clear_value x; intro _))
    | ((try lift_lets -underBinder); intro x; refine Keep.memSt (x := x) ?_; subst x)
    | ((try lift_lets -underBinder); intro x; refine Keep.depSt (x := x) ?_; subst x)
    | ((try lift_lets -underBinder); intro x; clear_value x)
    | (intro _)
    | with_reducible apply Keep.ite
    | (simp -zeta only [Keep.mk_iff]; with_reducible refine Keep.upd ?_ rfl ?_; on_goal 2 => (and_intros <;> with_reducible first | exact .inl rfl | exact .inl ⟨rfl, rfl, rfl⟩ | exact .inr ‹_› | exact Nat.le_refl _ | exact Nat.le_add_right _ _))

theorem State.loadBand_good (out : km.part .out) (tim : km.part .tim) (mem : km.part .mem) (dram : km.part .dram)
    (scn : km.part .scn) (line : km.part .line) (hDEP_MODE_CHECK_DEP_PENDING : km.fld R.DEP.MODE_CHECK.DEP_PENDING)
    (hDEP_MODE_CHECK_EPOCH_PENDING : km.fld R.DEP.MODE_CHECK.EPOCH_PENDING)
    (hDEP_MODE_CHECK_FIELDS : km.fld R.DEP.MODE_CHECK.FIELDS) (hDEP_MODE_CHECK_RULE : km.fld R.DEP.MODE_CHECK.RULE)
    (hDEP_MODE_CHECK_VALID : km.fld R.DEP.MODE_CHECK.VALID)
    (hDEP_MODE_CTRL_FB_VALID : km.fld R.DEP.MODE_CTRL.FB_VALID)
    (hLOG_LOG_ADDR_LO_ADDR : ∀ a, km.fld (R.LOG.LOG_ADDR_LO.ADDR a))
    (hLOG_LOG_INFO_ADDR_HI : ∀ a, km.fld (R.LOG.LOG_INFO.ADDR_HI a))
    (hLOG_LOG_INFO_ARRAY : ∀ a, km.fld (R.LOG.LOG_INFO.ARRAY a))
    (hLOG_LOG_INFO_BYTES : ∀ a, km.fld (R.LOG.LOG_INFO.BYTES a))
    (hLOG_LOG_INFO_CHANNEL : ∀ a, km.fld (R.LOG.LOG_INFO.CHANNEL a))
    (hLOG_LOG_INFO_CODE : ∀ a, km.fld (R.LOG.LOG_INFO.CODE a))
    (hLOG_LOG_INFO_PORT : ∀ a, km.fld (R.LOG.LOG_INFO.PORT a))
    (hLOG_LOG_INFO_SRAM : ∀ a, km.fld (R.LOG.LOG_INFO.SRAM a))
    (hLOG_LOG_TIME_HI_NS : ∀ a, km.fld (R.LOG.LOG_TIME_HI.NS a))
    (hLOG_LOG_TIME_LO_NS : ∀ a, km.fld (R.LOG.LOG_TIME_LO.NS a))
    (hMEM_CH_STAT_FILLED : ∀ a, km.fld (R.MEM.CH_STAT.FILLED a))
    (hMEM_CH_STAT_MIRROR_OK : ∀ a, km.fld (R.MEM.CH_STAT.MIRROR_OK a))
    (hMEM_CH_STAT_STATE : ∀ a, km.fld (R.MEM.CH_STAT.STATE a))
    (hPAR_DRAM_ERR_CNT_COUNT : km.fld R.PAR.DRAM_ERR_CNT.COUNT) (hPAR_LOG_STAT_NEXT : km.fld R.PAR.LOG_STAT.NEXT)
    (hPAR_LOG_STAT_TOTAL : km.fld R.PAR.LOG_STAT.TOTAL) (hPAR_LOG_STAT_WRAPPED : km.fld R.PAR.LOG_STAT.WRAPPED)
    (hPAR_MIRROR_FIX_CNT_COUNT : km.fld R.PAR.MIRROR_FIX_CNT.COUNT)
    (hPG_ERR_ADDR_HI : ∀ a, km.fld (R.PG.ERR_ADDR_HI a)) (hPG_ERR_ADDR_LO : ∀ a, km.fld (R.PG.ERR_ADDR_LO a))
    (hPG_ERR_CODE : ∀ a, km.fld (R.PG.ERR_CODE a)) (hPG_ERR_COUNT : ∀ a, km.fld (R.PG.ERR_COUNT a))
    (hPG_ERR_OVERFLOW : ∀ a, km.fld (R.PG.ERR_OVERFLOW a)) (hPG_ERR_SOURCE : ∀ a, km.fld (R.PG.ERR_SOURCE a))
    (hPG_ERR_VALID : ∀ a, km.fld (R.PG.ERR_VALID a)) (hPG_EVT_PEND : ∀ a, km.fld (R.PG.EVT_PEND a))
    (hPG_FAULT : ∀ a, km.fld (R.PG.FAULT a)) (hPG_POISON_SEEN : ∀ a, km.fld (R.PG.POISON_SEEN a))
    (hSCN_POISON_WORDS_COUNT : km.fld R.SCN.POISON_WORDS.COUNT)
    (hSCN_SCN_STAT_LOADING : km.fld R.SCN.SCN_STAT.LOADING)
    (hTIM_DOM_OFFSET_OFFSET : ∀ a, km.fld (R.TIM.DOM_OFFSET.OFFSET a))
    (hTIM_DOM_RATE_RATE : ∀ a, km.fld (R.TIM.DOM_RATE.RATE a)) (s : State) (b set : Nat) (reload : Bool)
    (hs : s.Keeps km pq) : (State.loadBand s b set reload).Keeps km pq := by
  unfold State.loadBand
  repeat' first
    | with_reducible assumption
    | with_reducible exact hLOG_LOG_ADDR_LO_ADDR _
    | with_reducible exact hLOG_LOG_INFO_ADDR_HI _
    | with_reducible exact hLOG_LOG_INFO_ARRAY _
    | with_reducible exact hLOG_LOG_INFO_BYTES _
    | with_reducible exact hLOG_LOG_INFO_CHANNEL _
    | with_reducible exact hLOG_LOG_INFO_CODE _
    | with_reducible exact hLOG_LOG_INFO_PORT _
    | with_reducible exact hLOG_LOG_INFO_SRAM _
    | with_reducible exact hLOG_LOG_TIME_HI_NS _
    | with_reducible exact hLOG_LOG_TIME_LO_NS _
    | with_reducible exact hMEM_CH_STAT_FILLED _
    | with_reducible exact hMEM_CH_STAT_MIRROR_OK _
    | with_reducible exact hMEM_CH_STAT_STATE _
    | with_reducible exact hPG_ERR_ADDR_HI _
    | with_reducible exact hPG_ERR_ADDR_LO _
    | with_reducible exact hPG_ERR_CODE _
    | with_reducible exact hPG_ERR_COUNT _
    | with_reducible exact hPG_ERR_OVERFLOW _
    | with_reducible exact hPG_ERR_SOURCE _
    | with_reducible exact hPG_ERR_VALID _
    | with_reducible exact hPG_EVT_PEND _
    | with_reducible exact hPG_FAULT _
    | with_reducible exact hPG_POISON_SEEN _
    | with_reducible exact hTIM_DOM_OFFSET_OFFSET _
    | with_reducible exact hTIM_DOM_RATE_RATE _
    | ((try lift_lets -underBinder); intro x; refine Keep.use (k := km) (q := pq) (s := x) ?_ ?_; (on_goal 1 => dsimp -zeta only [x]); (on_goal 2 => clear_value x; intro _))
    | ((try lift_lets -underBinder); intro x; refine Keep.usePair (k := km) (q := pq) (p := x) ?_ ?_; (on_goal 1 => dsimp -zeta only [x]); (on_goal 2 => clear_value x; intro _))
    | ((try lift_lets -underBinder); intro x; refine Keep.memSt (x := x) ?_; subst x)
    | ((try lift_lets -underBinder); intro x; refine Keep.depSt (x := x) ?_; subst x)
    | ((try lift_lets -underBinder); intro x; clear_value x)
    | (intro _)
    | with_reducible apply Keep.ite
    | with_reducible apply Keep.ite1
    | dsimp -zeta only
    | with_reducible apply State.loadValues_good
    | with_reducible apply State.memSettle_good
    | with_reducible apply State.setBand_good
    | with_reducible apply State.draw_good
    | with_reducible apply State.sendBand_good
    | with_reducible apply State.showLoading_good
    | split
    | with_reducible refine Keep.fst (by assumption) ?_
    | (simp -zeta only [Keep.mk_iff]; with_reducible refine Keep.upd ?_ rfl ?_; on_goal 2 => (and_intros <;> with_reducible first | exact .inl rfl | exact .inl ⟨rfl, rfl, rfl⟩ | exact .inr ‹_› | exact Nat.le_refl _ | exact Nat.le_add_right _ _))

theorem State.repeatRow_good (out : km.part .out) (tim : km.part .tim) (mem : km.part .mem) (dram : km.part .dram)
    (hLOG_LOG_ADDR_LO_ADDR : ∀ a, km.fld (R.LOG.LOG_ADDR_LO.ADDR a))
    (hLOG_LOG_INFO_ADDR_HI : ∀ a, km.fld (R.LOG.LOG_INFO.ADDR_HI a))
    (hLOG_LOG_INFO_ARRAY : ∀ a, km.fld (R.LOG.LOG_INFO.ARRAY a))
    (hLOG_LOG_INFO_BYTES : ∀ a, km.fld (R.LOG.LOG_INFO.BYTES a))
    (hLOG_LOG_INFO_CHANNEL : ∀ a, km.fld (R.LOG.LOG_INFO.CHANNEL a))
    (hLOG_LOG_INFO_CODE : ∀ a, km.fld (R.LOG.LOG_INFO.CODE a))
    (hLOG_LOG_INFO_PORT : ∀ a, km.fld (R.LOG.LOG_INFO.PORT a))
    (hLOG_LOG_INFO_SRAM : ∀ a, km.fld (R.LOG.LOG_INFO.SRAM a))
    (hLOG_LOG_TIME_HI_NS : ∀ a, km.fld (R.LOG.LOG_TIME_HI.NS a))
    (hLOG_LOG_TIME_LO_NS : ∀ a, km.fld (R.LOG.LOG_TIME_LO.NS a))
    (hMEM_CH_STAT_FILLED : ∀ a, km.fld (R.MEM.CH_STAT.FILLED a))
    (hMEM_CH_STAT_MIRROR_OK : ∀ a, km.fld (R.MEM.CH_STAT.MIRROR_OK a))
    (hMEM_CH_STAT_STATE : ∀ a, km.fld (R.MEM.CH_STAT.STATE a))
    (hPAR_CHK_CTRL_INJ_ARM : km.fld R.PAR.CHK_CTRL.INJ_ARM)
    (hPAR_DRAM_ERR_CNT_COUNT : km.fld R.PAR.DRAM_ERR_CNT.COUNT) (hPAR_LOG_STAT_NEXT : km.fld R.PAR.LOG_STAT.NEXT)
    (hPAR_LOG_STAT_TOTAL : km.fld R.PAR.LOG_STAT.TOTAL) (hPAR_LOG_STAT_WRAPPED : km.fld R.PAR.LOG_STAT.WRAPPED)
    (hPAR_MIRROR_FIX_CNT_COUNT : km.fld R.PAR.MIRROR_FIX_CNT.COUNT)
    (hPG_ERR_ADDR_HI : ∀ a, km.fld (R.PG.ERR_ADDR_HI a)) (hPG_ERR_ADDR_LO : ∀ a, km.fld (R.PG.ERR_ADDR_LO a))
    (hPG_ERR_CODE : ∀ a, km.fld (R.PG.ERR_CODE a)) (hPG_ERR_COUNT : ∀ a, km.fld (R.PG.ERR_COUNT a))
    (hPG_ERR_OVERFLOW : ∀ a, km.fld (R.PG.ERR_OVERFLOW a)) (hPG_ERR_SOURCE : ∀ a, km.fld (R.PG.ERR_SOURCE a))
    (hPG_ERR_VALID : ∀ a, km.fld (R.PG.ERR_VALID a)) (hPG_EVT_PEND : ∀ a, km.fld (R.PG.EVT_PEND a))
    (hTIM_DOM_OFFSET_OFFSET : ∀ a, km.fld (R.TIM.DOM_OFFSET.OFFSET a))
    (hTIM_DOM_RATE_RATE : ∀ a, km.fld (R.TIM.DOM_RATE.RATE a)) (s : State) (y : Nat) (hs : s.Keeps km pq) : (State.repeatRow s y).Keeps km pq := by
  unfold State.repeatRow
  repeat' first
    | with_reducible assumption
    | with_reducible exact hLOG_LOG_ADDR_LO_ADDR _
    | with_reducible exact hLOG_LOG_INFO_ADDR_HI _
    | with_reducible exact hLOG_LOG_INFO_ARRAY _
    | with_reducible exact hLOG_LOG_INFO_BYTES _
    | with_reducible exact hLOG_LOG_INFO_CHANNEL _
    | with_reducible exact hLOG_LOG_INFO_CODE _
    | with_reducible exact hLOG_LOG_INFO_PORT _
    | with_reducible exact hLOG_LOG_INFO_SRAM _
    | with_reducible exact hLOG_LOG_TIME_HI_NS _
    | with_reducible exact hLOG_LOG_TIME_LO_NS _
    | with_reducible exact hMEM_CH_STAT_FILLED _
    | with_reducible exact hMEM_CH_STAT_MIRROR_OK _
    | with_reducible exact hMEM_CH_STAT_STATE _
    | with_reducible exact hPG_ERR_ADDR_HI _
    | with_reducible exact hPG_ERR_ADDR_LO _
    | with_reducible exact hPG_ERR_CODE _
    | with_reducible exact hPG_ERR_COUNT _
    | with_reducible exact hPG_ERR_OVERFLOW _
    | with_reducible exact hPG_ERR_SOURCE _
    | with_reducible exact hPG_ERR_VALID _
    | with_reducible exact hPG_EVT_PEND _
    | with_reducible exact hTIM_DOM_OFFSET_OFFSET _
    | with_reducible exact hTIM_DOM_RATE_RATE _
    | ((try lift_lets -underBinder); intro x; refine Keep.use (k := km) (q := pq) (s := x) ?_ ?_; (on_goal 1 => dsimp -zeta only [x]); (on_goal 2 => clear_value x; intro _))
    | ((try lift_lets -underBinder); intro x; refine Keep.usePair (k := km) (q := pq) (p := x) ?_ ?_; (on_goal 1 => dsimp -zeta only [x]); (on_goal 2 => clear_value x; intro _))
    | ((try lift_lets -underBinder); intro x; refine Keep.memSt (x := x) ?_; subst x)
    | ((try lift_lets -underBinder); intro x; refine Keep.depSt (x := x) ?_; subst x)
    | ((try lift_lets -underBinder); intro x; clear_value x)
    | (intro _)
    | dsimp -zeta only
    | with_reducible apply State.readLamps_good
    | with_reducible apply State.writeLamps_good

theorem State.closeBand_good (out : km.part .out) (tim : km.part .tim) (mem : km.part .mem) (dram : km.part .dram)
    (scn : km.part .scn) (line : km.part .line) (hDEP_MODE_CHECK_DEP_PENDING : km.fld R.DEP.MODE_CHECK.DEP_PENDING)
    (hDEP_MODE_CHECK_EPOCH_PENDING : km.fld R.DEP.MODE_CHECK.EPOCH_PENDING)
    (hDEP_MODE_CHECK_FIELDS : km.fld R.DEP.MODE_CHECK.FIELDS) (hDEP_MODE_CHECK_RULE : km.fld R.DEP.MODE_CHECK.RULE)
    (hDEP_MODE_CHECK_VALID : km.fld R.DEP.MODE_CHECK.VALID)
    (hDEP_MODE_CTRL_FB_VALID : km.fld R.DEP.MODE_CTRL.FB_VALID)
    (hLOG_LOG_ADDR_LO_ADDR : ∀ a, km.fld (R.LOG.LOG_ADDR_LO.ADDR a))
    (hLOG_LOG_INFO_ADDR_HI : ∀ a, km.fld (R.LOG.LOG_INFO.ADDR_HI a))
    (hLOG_LOG_INFO_ARRAY : ∀ a, km.fld (R.LOG.LOG_INFO.ARRAY a))
    (hLOG_LOG_INFO_BYTES : ∀ a, km.fld (R.LOG.LOG_INFO.BYTES a))
    (hLOG_LOG_INFO_CHANNEL : ∀ a, km.fld (R.LOG.LOG_INFO.CHANNEL a))
    (hLOG_LOG_INFO_CODE : ∀ a, km.fld (R.LOG.LOG_INFO.CODE a))
    (hLOG_LOG_INFO_PORT : ∀ a, km.fld (R.LOG.LOG_INFO.PORT a))
    (hLOG_LOG_INFO_SRAM : ∀ a, km.fld (R.LOG.LOG_INFO.SRAM a))
    (hLOG_LOG_TIME_HI_NS : ∀ a, km.fld (R.LOG.LOG_TIME_HI.NS a))
    (hLOG_LOG_TIME_LO_NS : ∀ a, km.fld (R.LOG.LOG_TIME_LO.NS a))
    (hMEM_CH_STAT_FILLED : ∀ a, km.fld (R.MEM.CH_STAT.FILLED a))
    (hMEM_CH_STAT_MIRROR_OK : ∀ a, km.fld (R.MEM.CH_STAT.MIRROR_OK a))
    (hMEM_CH_STAT_STATE : ∀ a, km.fld (R.MEM.CH_STAT.STATE a))
    (hPAR_CHK_CTRL_INJ_ARM : km.fld R.PAR.CHK_CTRL.INJ_ARM)
    (hPAR_DRAM_ERR_CNT_COUNT : km.fld R.PAR.DRAM_ERR_CNT.COUNT) (hPAR_LOG_STAT_NEXT : km.fld R.PAR.LOG_STAT.NEXT)
    (hPAR_LOG_STAT_TOTAL : km.fld R.PAR.LOG_STAT.TOTAL) (hPAR_LOG_STAT_WRAPPED : km.fld R.PAR.LOG_STAT.WRAPPED)
    (hPAR_MIRROR_FIX_CNT_COUNT : km.fld R.PAR.MIRROR_FIX_CNT.COUNT)
    (hPG_ERR_ADDR_HI : ∀ a, km.fld (R.PG.ERR_ADDR_HI a)) (hPG_ERR_ADDR_LO : ∀ a, km.fld (R.PG.ERR_ADDR_LO a))
    (hPG_ERR_CODE : ∀ a, km.fld (R.PG.ERR_CODE a)) (hPG_ERR_COUNT : ∀ a, km.fld (R.PG.ERR_COUNT a))
    (hPG_ERR_OVERFLOW : ∀ a, km.fld (R.PG.ERR_OVERFLOW a)) (hPG_ERR_SOURCE : ∀ a, km.fld (R.PG.ERR_SOURCE a))
    (hPG_ERR_VALID : ∀ a, km.fld (R.PG.ERR_VALID a)) (hPG_EVT_PEND : ∀ a, km.fld (R.PG.EVT_PEND a))
    (hPG_FAULT : ∀ a, km.fld (R.PG.FAULT a)) (hPG_POISON_SEEN : ∀ a, km.fld (R.PG.POISON_SEEN a))
    (hSCN_POISON_WORDS_COUNT : km.fld R.SCN.POISON_WORDS.COUNT)
    (hSCN_ROW_REPEAT_CNT_COUNT : km.fld R.SCN.ROW_REPEAT_CNT.COUNT)
    (hSCN_SCN_STAT_LOADING : km.fld R.SCN.SCN_STAT.LOADING)
    (hTIM_DOM_OFFSET_OFFSET : ∀ a, km.fld (R.TIM.DOM_OFFSET.OFFSET a))
    (hTIM_DOM_RATE_RATE : ∀ a, km.fld (R.TIM.DOM_RATE.RATE a)) (s : State) (b : Nat) (hs : s.Keeps km pq) : (State.closeBand s b).Keeps km pq := by
  unfold State.closeBand
  repeat' first
    | with_reducible assumption
    | with_reducible exact hLOG_LOG_ADDR_LO_ADDR _
    | with_reducible exact hLOG_LOG_INFO_ADDR_HI _
    | with_reducible exact hLOG_LOG_INFO_ARRAY _
    | with_reducible exact hLOG_LOG_INFO_BYTES _
    | with_reducible exact hLOG_LOG_INFO_CHANNEL _
    | with_reducible exact hLOG_LOG_INFO_CODE _
    | with_reducible exact hLOG_LOG_INFO_PORT _
    | with_reducible exact hLOG_LOG_INFO_SRAM _
    | with_reducible exact hLOG_LOG_TIME_HI_NS _
    | with_reducible exact hLOG_LOG_TIME_LO_NS _
    | with_reducible exact hMEM_CH_STAT_FILLED _
    | with_reducible exact hMEM_CH_STAT_MIRROR_OK _
    | with_reducible exact hMEM_CH_STAT_STATE _
    | with_reducible exact hPG_ERR_ADDR_HI _
    | with_reducible exact hPG_ERR_ADDR_LO _
    | with_reducible exact hPG_ERR_CODE _
    | with_reducible exact hPG_ERR_COUNT _
    | with_reducible exact hPG_ERR_OVERFLOW _
    | with_reducible exact hPG_ERR_SOURCE _
    | with_reducible exact hPG_ERR_VALID _
    | with_reducible exact hPG_EVT_PEND _
    | with_reducible exact hPG_FAULT _
    | with_reducible exact hPG_POISON_SEEN _
    | with_reducible exact hTIM_DOM_OFFSET_OFFSET _
    | with_reducible exact hTIM_DOM_RATE_RATE _
    | ((try lift_lets -underBinder); intro x; refine Keep.use (k := km) (q := pq) (s := x) ?_ ?_; (on_goal 1 => dsimp -zeta only [x]); (on_goal 2 => clear_value x; intro _))
    | ((try lift_lets -underBinder); intro x; refine Keep.usePair (k := km) (q := pq) (p := x) ?_ ?_; (on_goal 1 => dsimp -zeta only [x]); (on_goal 2 => clear_value x; intro _))
    | ((try lift_lets -underBinder); intro x; refine Keep.memSt (x := x) ?_; subst x)
    | ((try lift_lets -underBinder); intro x; refine Keep.depSt (x := x) ?_; subst x)
    | ((try lift_lets -underBinder); intro x; clear_value x)
    | (intro _)
    | with_reducible apply Keep.ite
    | with_reducible apply State.setBand_good
    | with_reducible apply State.filter_good
    | with_reducible apply State.repeatRow_good
    | with_reducible apply State.count_good
    | with_reducible apply State.loadBand_good
    | (simp -zeta only [Keep.mk_iff]; with_reducible refine Keep.upd ?_ rfl ?_; on_goal 2 => (and_intros <;> with_reducible first | exact .inl rfl | exact .inl ⟨rfl, rfl, rfl⟩ | exact .inr ‹_› | exact Nat.le_refl _ | exact Nat.le_add_right _ _))
    | with_reducible apply Keep.foldl

theorem State.showBand_good (scn : km.part .scn) (s : State) (b : Nat) (hs : s.Keeps km pq) : (State.showBand s b).Keeps km pq := by
  unfold State.showBand
  repeat' first
    | with_reducible assumption
    | ((try lift_lets -underBinder); intro x; refine Keep.use (k := km) (q := pq) (s := x) ?_ ?_; (on_goal 1 => dsimp -zeta only [x]); (on_goal 2 => clear_value x; intro _))
    | ((try lift_lets -underBinder); intro x; refine Keep.usePair (k := km) (q := pq) (p := x) ?_ ?_; (on_goal 1 => dsimp -zeta only [x]); (on_goal 2 => clear_value x; intro _))
    | ((try lift_lets -underBinder); intro x; refine Keep.memSt (x := x) ?_; subst x)
    | ((try lift_lets -underBinder); intro x; refine Keep.depSt (x := x) ?_; subst x)
    | ((try lift_lets -underBinder); intro x; clear_value x)
    | (intro _)
    | with_reducible apply Keep.ite
    | (simp -zeta only [Keep.mk_iff]; with_reducible refine Keep.upd ?_ rfl ?_; on_goal 2 => (and_intros <;> with_reducible first | exact .inl rfl | exact .inl ⟨rfl, rfl, rfl⟩ | exact .inr ‹_› | exact Nat.le_refl _ | exact Nat.le_add_right _ _))

theorem State.flipBand_good (out : km.part .out) (tim : km.part .tim) (mem : km.part .mem) (dram : km.part .dram)
    (scn : km.part .scn) (line : km.part .line) (hDEP_MODE_CHECK_DEP_PENDING : km.fld R.DEP.MODE_CHECK.DEP_PENDING)
    (hDEP_MODE_CHECK_EPOCH_PENDING : km.fld R.DEP.MODE_CHECK.EPOCH_PENDING)
    (hDEP_MODE_CHECK_FIELDS : km.fld R.DEP.MODE_CHECK.FIELDS) (hDEP_MODE_CHECK_RULE : km.fld R.DEP.MODE_CHECK.RULE)
    (hDEP_MODE_CHECK_VALID : km.fld R.DEP.MODE_CHECK.VALID)
    (hDEP_MODE_CTRL_FB_VALID : km.fld R.DEP.MODE_CTRL.FB_VALID)
    (hLOG_LOG_ADDR_LO_ADDR : ∀ a, km.fld (R.LOG.LOG_ADDR_LO.ADDR a))
    (hLOG_LOG_INFO_ADDR_HI : ∀ a, km.fld (R.LOG.LOG_INFO.ADDR_HI a))
    (hLOG_LOG_INFO_ARRAY : ∀ a, km.fld (R.LOG.LOG_INFO.ARRAY a))
    (hLOG_LOG_INFO_BYTES : ∀ a, km.fld (R.LOG.LOG_INFO.BYTES a))
    (hLOG_LOG_INFO_CHANNEL : ∀ a, km.fld (R.LOG.LOG_INFO.CHANNEL a))
    (hLOG_LOG_INFO_CODE : ∀ a, km.fld (R.LOG.LOG_INFO.CODE a))
    (hLOG_LOG_INFO_PORT : ∀ a, km.fld (R.LOG.LOG_INFO.PORT a))
    (hLOG_LOG_INFO_SRAM : ∀ a, km.fld (R.LOG.LOG_INFO.SRAM a))
    (hLOG_LOG_TIME_HI_NS : ∀ a, km.fld (R.LOG.LOG_TIME_HI.NS a))
    (hLOG_LOG_TIME_LO_NS : ∀ a, km.fld (R.LOG.LOG_TIME_LO.NS a))
    (hMEM_CH_STAT_FILLED : ∀ a, km.fld (R.MEM.CH_STAT.FILLED a))
    (hMEM_CH_STAT_MIRROR_OK : ∀ a, km.fld (R.MEM.CH_STAT.MIRROR_OK a))
    (hMEM_CH_STAT_STATE : ∀ a, km.fld (R.MEM.CH_STAT.STATE a))
    (hPAR_DRAM_ERR_CNT_COUNT : km.fld R.PAR.DRAM_ERR_CNT.COUNT) (hPAR_LOG_STAT_NEXT : km.fld R.PAR.LOG_STAT.NEXT)
    (hPAR_LOG_STAT_TOTAL : km.fld R.PAR.LOG_STAT.TOTAL) (hPAR_LOG_STAT_WRAPPED : km.fld R.PAR.LOG_STAT.WRAPPED)
    (hPAR_MIRROR_FIX_CNT_COUNT : km.fld R.PAR.MIRROR_FIX_CNT.COUNT)
    (hPG_ERR_ADDR_HI : ∀ a, km.fld (R.PG.ERR_ADDR_HI a)) (hPG_ERR_ADDR_LO : ∀ a, km.fld (R.PG.ERR_ADDR_LO a))
    (hPG_ERR_CODE : ∀ a, km.fld (R.PG.ERR_CODE a)) (hPG_ERR_COUNT : ∀ a, km.fld (R.PG.ERR_COUNT a))
    (hPG_ERR_OVERFLOW : ∀ a, km.fld (R.PG.ERR_OVERFLOW a)) (hPG_ERR_SOURCE : ∀ a, km.fld (R.PG.ERR_SOURCE a))
    (hPG_ERR_VALID : ∀ a, km.fld (R.PG.ERR_VALID a)) (hPG_EVT_PEND : ∀ a, km.fld (R.PG.EVT_PEND a))
    (hPG_FAULT : ∀ a, km.fld (R.PG.FAULT a)) (hPG_POISON_SEEN : ∀ a, km.fld (R.PG.POISON_SEEN a))
    (hSCN_LAST_READY_NS : km.fld R.SCN.LAST_READY.NS) (hSCN_POISON_WORDS_COUNT : km.fld R.SCN.POISON_WORDS.COUNT)
    (hSCN_SCN_STAT_LOADING : km.fld R.SCN.SCN_STAT.LOADING)
    (hTIM_DOM_OFFSET_OFFSET : ∀ a, km.fld (R.TIM.DOM_OFFSET.OFFSET a))
    (hTIM_DOM_RATE_RATE : ∀ a, km.fld (R.TIM.DOM_RATE.RATE a)) (s : State) (b : Nat) (hs : s.Keeps km pq) : (State.flipBand s b).Keeps km pq := by
  unfold State.flipBand
  repeat' first
    | with_reducible assumption
    | with_reducible exact hLOG_LOG_ADDR_LO_ADDR _
    | with_reducible exact hLOG_LOG_INFO_ADDR_HI _
    | with_reducible exact hLOG_LOG_INFO_ARRAY _
    | with_reducible exact hLOG_LOG_INFO_BYTES _
    | with_reducible exact hLOG_LOG_INFO_CHANNEL _
    | with_reducible exact hLOG_LOG_INFO_CODE _
    | with_reducible exact hLOG_LOG_INFO_PORT _
    | with_reducible exact hLOG_LOG_INFO_SRAM _
    | with_reducible exact hLOG_LOG_TIME_HI_NS _
    | with_reducible exact hLOG_LOG_TIME_LO_NS _
    | with_reducible exact hMEM_CH_STAT_FILLED _
    | with_reducible exact hMEM_CH_STAT_MIRROR_OK _
    | with_reducible exact hMEM_CH_STAT_STATE _
    | with_reducible exact hPG_ERR_ADDR_HI _
    | with_reducible exact hPG_ERR_ADDR_LO _
    | with_reducible exact hPG_ERR_CODE _
    | with_reducible exact hPG_ERR_COUNT _
    | with_reducible exact hPG_ERR_OVERFLOW _
    | with_reducible exact hPG_ERR_SOURCE _
    | with_reducible exact hPG_ERR_VALID _
    | with_reducible exact hPG_EVT_PEND _
    | with_reducible exact hPG_FAULT _
    | with_reducible exact hPG_POISON_SEEN _
    | with_reducible exact hTIM_DOM_OFFSET_OFFSET _
    | with_reducible exact hTIM_DOM_RATE_RATE _
    | ((try lift_lets -underBinder); intro x; refine Keep.use (k := km) (q := pq) (s := x) ?_ ?_; (on_goal 1 => dsimp -zeta only [x]); (on_goal 2 => clear_value x; intro _))
    | ((try lift_lets -underBinder); intro x; refine Keep.usePair (k := km) (q := pq) (p := x) ?_ ?_; (on_goal 1 => dsimp -zeta only [x]); (on_goal 2 => clear_value x; intro _))
    | ((try lift_lets -underBinder); intro x; refine Keep.memSt (x := x) ?_; subst x)
    | ((try lift_lets -underBinder); intro x; refine Keep.depSt (x := x) ?_; subst x)
    | ((try lift_lets -underBinder); intro x; clear_value x)
    | (intro _)
    | with_reducible apply Keep.ite
    | with_reducible apply State.showBand_good
    | with_reducible apply State.setBand_good
    | with_reducible apply State.sinkCell_good
    | with_reducible apply State.frameDone_good
    | with_reducible apply State.loadBand_good
    | with_reducible apply State.showLoading_good
    | split

theorem State.bandsDeparture_good (out : km.part .out) (tim : km.part .tim) (mem : km.part .mem)
    (dram : km.part .dram) (scn : km.part .scn) (line : km.part .line) (any : ∀ f, km.fld f) (s : State)
    (hs : s.Keeps km pq) : (State.bandsDeparture s).1.Keeps km pq := by
  unfold State.bandsDeparture
  repeat' first
    | with_reducible assumption
    | (with_reducible (intros; exact any _))
    | ((try lift_lets -underBinder); intro x; refine Keep.use (k := km) (q := pq) (s := x) ?_ ?_; (on_goal 1 => dsimp -zeta only [x]); (on_goal 2 => clear_value x; intro _))
    | ((try lift_lets -underBinder); intro x; refine Keep.usePair (k := km) (q := pq) (p := x) ?_ ?_; (on_goal 1 => dsimp -zeta only [x]); (on_goal 2 => clear_value x; intro _))
    | ((try lift_lets -underBinder); intro x; refine Keep.memSt (x := x) ?_; subst x)
    | ((try lift_lets -underBinder); intro x; refine Keep.depSt (x := x) ?_; subst x)
    | ((try lift_lets -underBinder); intro x; clear_value x)
    | (intro _)
    | with_reducible apply Keep.ite
    | with_reducible apply Keep.ite1
    | dsimp -zeta only
    | with_reducible apply State.filter_good
    | with_reducible apply State.forN_good
    | with_reducible apply State.closeBand_good
    | with_reducible apply State.count_good
    | with_reducible apply State.ev_good
    | split
    | with_reducible refine Keep.fst (by assumption) ?_
    | (simp -zeta only [Keep.mk_iff]; with_reducible refine Keep.upd ?_ rfl ?_; on_goal 2 => (and_intros <;> with_reducible first | exact .inl rfl | exact .inl ⟨rfl, rfl, rfl⟩ | exact .inr ‹_› | exact Nat.le_refl _ | exact Nat.le_add_right _ _))

theorem State.reloadBand_good (out : km.part .out) (tim : km.part .tim) (mem : km.part .mem) (dram : km.part .dram)
    (scn : km.part .scn) (line : km.part .line) (hDEP_MODE_CHECK_DEP_PENDING : km.fld R.DEP.MODE_CHECK.DEP_PENDING)
    (hDEP_MODE_CHECK_EPOCH_PENDING : km.fld R.DEP.MODE_CHECK.EPOCH_PENDING)
    (hDEP_MODE_CHECK_FIELDS : km.fld R.DEP.MODE_CHECK.FIELDS) (hDEP_MODE_CHECK_RULE : km.fld R.DEP.MODE_CHECK.RULE)
    (hDEP_MODE_CHECK_VALID : km.fld R.DEP.MODE_CHECK.VALID)
    (hDEP_MODE_CTRL_FB_VALID : km.fld R.DEP.MODE_CTRL.FB_VALID)
    (hLOG_LOG_ADDR_LO_ADDR : ∀ a, km.fld (R.LOG.LOG_ADDR_LO.ADDR a))
    (hLOG_LOG_INFO_ADDR_HI : ∀ a, km.fld (R.LOG.LOG_INFO.ADDR_HI a))
    (hLOG_LOG_INFO_ARRAY : ∀ a, km.fld (R.LOG.LOG_INFO.ARRAY a))
    (hLOG_LOG_INFO_BYTES : ∀ a, km.fld (R.LOG.LOG_INFO.BYTES a))
    (hLOG_LOG_INFO_CHANNEL : ∀ a, km.fld (R.LOG.LOG_INFO.CHANNEL a))
    (hLOG_LOG_INFO_CODE : ∀ a, km.fld (R.LOG.LOG_INFO.CODE a))
    (hLOG_LOG_INFO_PORT : ∀ a, km.fld (R.LOG.LOG_INFO.PORT a))
    (hLOG_LOG_INFO_SRAM : ∀ a, km.fld (R.LOG.LOG_INFO.SRAM a))
    (hLOG_LOG_TIME_HI_NS : ∀ a, km.fld (R.LOG.LOG_TIME_HI.NS a))
    (hLOG_LOG_TIME_LO_NS : ∀ a, km.fld (R.LOG.LOG_TIME_LO.NS a))
    (hMEM_CH_STAT_FILLED : ∀ a, km.fld (R.MEM.CH_STAT.FILLED a))
    (hMEM_CH_STAT_MIRROR_OK : ∀ a, km.fld (R.MEM.CH_STAT.MIRROR_OK a))
    (hMEM_CH_STAT_STATE : ∀ a, km.fld (R.MEM.CH_STAT.STATE a))
    (hPAR_DRAM_ERR_CNT_COUNT : km.fld R.PAR.DRAM_ERR_CNT.COUNT) (hPAR_LOG_STAT_NEXT : km.fld R.PAR.LOG_STAT.NEXT)
    (hPAR_LOG_STAT_TOTAL : km.fld R.PAR.LOG_STAT.TOTAL) (hPAR_LOG_STAT_WRAPPED : km.fld R.PAR.LOG_STAT.WRAPPED)
    (hPAR_MIRROR_FIX_CNT_COUNT : km.fld R.PAR.MIRROR_FIX_CNT.COUNT)
    (hPG_ERR_ADDR_HI : ∀ a, km.fld (R.PG.ERR_ADDR_HI a)) (hPG_ERR_ADDR_LO : ∀ a, km.fld (R.PG.ERR_ADDR_LO a))
    (hPG_ERR_CODE : ∀ a, km.fld (R.PG.ERR_CODE a)) (hPG_ERR_COUNT : ∀ a, km.fld (R.PG.ERR_COUNT a))
    (hPG_ERR_OVERFLOW : ∀ a, km.fld (R.PG.ERR_OVERFLOW a)) (hPG_ERR_SOURCE : ∀ a, km.fld (R.PG.ERR_SOURCE a))
    (hPG_ERR_VALID : ∀ a, km.fld (R.PG.ERR_VALID a)) (hPG_EVT_PEND : ∀ a, km.fld (R.PG.EVT_PEND a))
    (hPG_FAULT : ∀ a, km.fld (R.PG.FAULT a)) (hPG_POISON_SEEN : ∀ a, km.fld (R.PG.POISON_SEEN a))
    (hSCN_POISON_WORDS_COUNT : km.fld R.SCN.POISON_WORDS.COUNT)
    (hSCN_SCN_STAT_LOADING : km.fld R.SCN.SCN_STAT.LOADING)
    (hTIM_DOM_OFFSET_OFFSET : ∀ a, km.fld (R.TIM.DOM_OFFSET.OFFSET a))
    (hTIM_DOM_RATE_RATE : ∀ a, km.fld (R.TIM.DOM_RATE.RATE a)) (s : State) (b : Nat) (hs : s.Keeps km pq) : (State.reloadBand s b).Keeps km pq := by
  unfold State.reloadBand
  repeat' first
    | with_reducible assumption
    | with_reducible exact hLOG_LOG_ADDR_LO_ADDR _
    | with_reducible exact hLOG_LOG_INFO_ADDR_HI _
    | with_reducible exact hLOG_LOG_INFO_ARRAY _
    | with_reducible exact hLOG_LOG_INFO_BYTES _
    | with_reducible exact hLOG_LOG_INFO_CHANNEL _
    | with_reducible exact hLOG_LOG_INFO_CODE _
    | with_reducible exact hLOG_LOG_INFO_PORT _
    | with_reducible exact hLOG_LOG_INFO_SRAM _
    | with_reducible exact hLOG_LOG_TIME_HI_NS _
    | with_reducible exact hLOG_LOG_TIME_LO_NS _
    | with_reducible exact hMEM_CH_STAT_FILLED _
    | with_reducible exact hMEM_CH_STAT_MIRROR_OK _
    | with_reducible exact hMEM_CH_STAT_STATE _
    | with_reducible exact hPG_ERR_ADDR_HI _
    | with_reducible exact hPG_ERR_ADDR_LO _
    | with_reducible exact hPG_ERR_CODE _
    | with_reducible exact hPG_ERR_COUNT _
    | with_reducible exact hPG_ERR_OVERFLOW _
    | with_reducible exact hPG_ERR_SOURCE _
    | with_reducible exact hPG_ERR_VALID _
    | with_reducible exact hPG_EVT_PEND _
    | with_reducible exact hPG_FAULT _
    | with_reducible exact hPG_POISON_SEEN _
    | with_reducible exact hTIM_DOM_OFFSET_OFFSET _
    | with_reducible exact hTIM_DOM_RATE_RATE _
    | ((try lift_lets -underBinder); intro x; refine Keep.use (k := km) (q := pq) (s := x) ?_ ?_; (on_goal 1 => dsimp -zeta only [x]); (on_goal 2 => clear_value x; intro _))
    | ((try lift_lets -underBinder); intro x; refine Keep.usePair (k := km) (q := pq) (p := x) ?_ ?_; (on_goal 1 => dsimp -zeta only [x]); (on_goal 2 => clear_value x; intro _))
    | ((try lift_lets -underBinder); intro x; refine Keep.memSt (x := x) ?_; subst x)
    | ((try lift_lets -underBinder); intro x; refine Keep.depSt (x := x) ?_; subst x)
    | ((try lift_lets -underBinder); intro x; clear_value x)
    | (intro _)
    | with_reducible apply Keep.ite
    | with_reducible apply State.loadBand_good
    | with_reducible apply State.setBand_good

theorem State.bandsReload_good (out : km.part .out) (tim : km.part .tim) (mem : km.part .mem) (dram : km.part .dram)
    (scn : km.part .scn) (line : km.part .line) (any : ∀ f, km.fld f) (s : State) (hs : s.Keeps km pq) : (State.bandsReload s).Keeps km pq := by
  unfold State.bandsReload
  repeat' first
    | with_reducible assumption
    | (with_reducible (intros; exact any _))
    | ((try lift_lets -underBinder); intro x; refine Keep.use (k := km) (q := pq) (s := x) ?_ ?_; (on_goal 1 => dsimp -zeta only [x]); (on_goal 2 => clear_value x; intro _))
    | ((try lift_lets -underBinder); intro x; refine Keep.usePair (k := km) (q := pq) (p := x) ?_ ?_; (on_goal 1 => dsimp -zeta only [x]); (on_goal 2 => clear_value x; intro _))
    | ((try lift_lets -underBinder); intro x; refine Keep.memSt (x := x) ?_; subst x)
    | ((try lift_lets -underBinder); intro x; refine Keep.depSt (x := x) ?_; subst x)
    | ((try lift_lets -underBinder); intro x; clear_value x)
    | (intro _)
    | with_reducible apply Keep.ite
    | with_reducible apply State.spireLoad_good
    | with_reducible apply State.filter_good
    | with_reducible apply State.forN_good
    | with_reducible apply State.reloadBand_good
    | (simp -zeta only [Keep.mk_iff]; with_reducible refine Keep.upd ?_ rfl ?_; on_goal 2 => (and_intros <;> with_reducible first | exact .inl rfl | exact .inl ⟨rfl, rfl, rfl⟩ | exact .inr ‹_› | exact Nat.le_refl _ | exact Nat.le_add_right _ _))

theorem State.bandRow_good (out : km.part .out) (tim : km.part .tim) (mem : km.part .mem) (dram : km.part .dram)
    (scn : km.part .scn) (line : km.part .line) (hDEP_MODE_CHECK_DEP_PENDING : km.fld R.DEP.MODE_CHECK.DEP_PENDING)
    (hDEP_MODE_CHECK_EPOCH_PENDING : km.fld R.DEP.MODE_CHECK.EPOCH_PENDING)
    (hDEP_MODE_CHECK_FIELDS : km.fld R.DEP.MODE_CHECK.FIELDS) (hDEP_MODE_CHECK_RULE : km.fld R.DEP.MODE_CHECK.RULE)
    (hDEP_MODE_CHECK_VALID : km.fld R.DEP.MODE_CHECK.VALID)
    (hDEP_MODE_CTRL_FB_VALID : km.fld R.DEP.MODE_CTRL.FB_VALID)
    (hLOG_LOG_ADDR_LO_ADDR : ∀ a, km.fld (R.LOG.LOG_ADDR_LO.ADDR a))
    (hLOG_LOG_INFO_ADDR_HI : ∀ a, km.fld (R.LOG.LOG_INFO.ADDR_HI a))
    (hLOG_LOG_INFO_ARRAY : ∀ a, km.fld (R.LOG.LOG_INFO.ARRAY a))
    (hLOG_LOG_INFO_BYTES : ∀ a, km.fld (R.LOG.LOG_INFO.BYTES a))
    (hLOG_LOG_INFO_CHANNEL : ∀ a, km.fld (R.LOG.LOG_INFO.CHANNEL a))
    (hLOG_LOG_INFO_CODE : ∀ a, km.fld (R.LOG.LOG_INFO.CODE a))
    (hLOG_LOG_INFO_PORT : ∀ a, km.fld (R.LOG.LOG_INFO.PORT a))
    (hLOG_LOG_INFO_SRAM : ∀ a, km.fld (R.LOG.LOG_INFO.SRAM a))
    (hLOG_LOG_TIME_HI_NS : ∀ a, km.fld (R.LOG.LOG_TIME_HI.NS a))
    (hLOG_LOG_TIME_LO_NS : ∀ a, km.fld (R.LOG.LOG_TIME_LO.NS a))
    (hMEM_CH_STAT_FILLED : ∀ a, km.fld (R.MEM.CH_STAT.FILLED a))
    (hMEM_CH_STAT_MIRROR_OK : ∀ a, km.fld (R.MEM.CH_STAT.MIRROR_OK a))
    (hMEM_CH_STAT_STATE : ∀ a, km.fld (R.MEM.CH_STAT.STATE a))
    (hPAR_CHK_CTRL_INJ_ARM : km.fld R.PAR.CHK_CTRL.INJ_ARM)
    (hPAR_DRAM_ERR_CNT_COUNT : km.fld R.PAR.DRAM_ERR_CNT.COUNT) (hPAR_LOG_STAT_NEXT : km.fld R.PAR.LOG_STAT.NEXT)
    (hPAR_LOG_STAT_TOTAL : km.fld R.PAR.LOG_STAT.TOTAL) (hPAR_LOG_STAT_WRAPPED : km.fld R.PAR.LOG_STAT.WRAPPED)
    (hPAR_MIRROR_FIX_CNT_COUNT : km.fld R.PAR.MIRROR_FIX_CNT.COUNT)
    (hPG_ERR_ADDR_HI : ∀ a, km.fld (R.PG.ERR_ADDR_HI a)) (hPG_ERR_ADDR_LO : ∀ a, km.fld (R.PG.ERR_ADDR_LO a))
    (hPG_ERR_CODE : ∀ a, km.fld (R.PG.ERR_CODE a)) (hPG_ERR_COUNT : ∀ a, km.fld (R.PG.ERR_COUNT a))
    (hPG_ERR_OVERFLOW : ∀ a, km.fld (R.PG.ERR_OVERFLOW a)) (hPG_ERR_SOURCE : ∀ a, km.fld (R.PG.ERR_SOURCE a))
    (hPG_ERR_VALID : ∀ a, km.fld (R.PG.ERR_VALID a)) (hPG_EVT_PEND : ∀ a, km.fld (R.PG.EVT_PEND a))
    (hPG_FAULT : ∀ a, km.fld (R.PG.FAULT a)) (hPG_POISON_SEEN : ∀ a, km.fld (R.PG.POISON_SEEN a))
    (hSCN_POISON_WORDS_COUNT : km.fld R.SCN.POISON_WORDS.COUNT)
    (hSCN_ROW_REPEAT_CNT_COUNT : km.fld R.SCN.ROW_REPEAT_CNT.COUNT)
    (hSCN_SCN_STAT_LOADING : km.fld R.SCN.SCN_STAT.LOADING)
    (hTIM_DOM_OFFSET_OFFSET : ∀ a, km.fld (R.TIM.DOM_OFFSET.OFFSET a))
    (hTIM_DOM_RATE_RATE : ∀ a, km.fld (R.TIM.DOM_RATE.RATE a)) (s : State) (y : Nat) (hs : s.Keeps km pq) : (State.bandRow s y).Keeps km pq := by
  unfold State.bandRow
  repeat' first
    | with_reducible assumption
    | with_reducible exact hLOG_LOG_ADDR_LO_ADDR _
    | with_reducible exact hLOG_LOG_INFO_ADDR_HI _
    | with_reducible exact hLOG_LOG_INFO_ARRAY _
    | with_reducible exact hLOG_LOG_INFO_BYTES _
    | with_reducible exact hLOG_LOG_INFO_CHANNEL _
    | with_reducible exact hLOG_LOG_INFO_CODE _
    | with_reducible exact hLOG_LOG_INFO_PORT _
    | with_reducible exact hLOG_LOG_INFO_SRAM _
    | with_reducible exact hLOG_LOG_TIME_HI_NS _
    | with_reducible exact hLOG_LOG_TIME_LO_NS _
    | with_reducible exact hMEM_CH_STAT_FILLED _
    | with_reducible exact hMEM_CH_STAT_MIRROR_OK _
    | with_reducible exact hMEM_CH_STAT_STATE _
    | with_reducible exact hPG_ERR_ADDR_HI _
    | with_reducible exact hPG_ERR_ADDR_LO _
    | with_reducible exact hPG_ERR_CODE _
    | with_reducible exact hPG_ERR_COUNT _
    | with_reducible exact hPG_ERR_OVERFLOW _
    | with_reducible exact hPG_ERR_SOURCE _
    | with_reducible exact hPG_ERR_VALID _
    | with_reducible exact hPG_EVT_PEND _
    | with_reducible exact hPG_FAULT _
    | with_reducible exact hPG_POISON_SEEN _
    | with_reducible exact hTIM_DOM_OFFSET_OFFSET _
    | with_reducible exact hTIM_DOM_RATE_RATE _
    | ((try lift_lets -underBinder); intro x; refine Keep.use (k := km) (q := pq) (s := x) ?_ ?_; (on_goal 1 => dsimp -zeta only [x]); (on_goal 2 => clear_value x; intro _))
    | ((try lift_lets -underBinder); intro x; refine Keep.usePair (k := km) (q := pq) (p := x) ?_ ?_; (on_goal 1 => dsimp -zeta only [x]); (on_goal 2 => clear_value x; intro _))
    | ((try lift_lets -underBinder); intro x; refine Keep.memSt (x := x) ?_; subst x)
    | ((try lift_lets -underBinder); intro x; refine Keep.depSt (x := x) ?_; subst x)
    | ((try lift_lets -underBinder); intro x; clear_value x)
    | (intro _)
    | with_reducible apply Keep.ite
    | with_reducible apply State.forN_good
    | with_reducible apply State.closeBand_good
    | with_reducible apply State.setBand_good

theorem State.newPlanes_good (scn : km.part .scn) (hSCN_PLANE_BASE_HI_BASE : km.fld R.SCN.PLANE_BASE_HI.BASE)
    (hSCN_PLANE_BASE_LO_BASE : km.fld R.SCN.PLANE_BASE_LO.BASE)
    (hSCN_PLANE_SIZE_BYTES : km.fld R.SCN.PLANE_SIZE.BYTES) (hSCN_SCN_STAT_LOADING : km.fld R.SCN.SCN_STAT.LOADING)
    (s : State) (hs : s.Keeps km pq) : (State.newPlanes s).Keeps km pq := by
  unfold State.newPlanes
  repeat' first
    | with_reducible assumption
    | ((try lift_lets -underBinder); intro x; refine Keep.use (k := km) (q := pq) (s := x) ?_ ?_; (on_goal 1 => dsimp -zeta only [x]); (on_goal 2 => clear_value x; intro _))
    | ((try lift_lets -underBinder); intro x; refine Keep.usePair (k := km) (q := pq) (p := x) ?_ ?_; (on_goal 1 => dsimp -zeta only [x]); (on_goal 2 => clear_value x; intro _))
    | ((try lift_lets -underBinder); intro x; refine Keep.memSt (x := x) ?_; subst x)
    | ((try lift_lets -underBinder); intro x; refine Keep.depSt (x := x) ?_; subst x)
    | ((try lift_lets -underBinder); intro x; clear_value x)
    | (intro _)
    | with_reducible apply State.layPlanes_good
    | with_reducible apply State.set_good
    | (simp -zeta only [Keep.mk_iff]; with_reducible refine Keep.upd ?_ rfl ?_; on_goal 2 => (and_intros <;> with_reducible first | exact .inl rfl | exact .inl ⟨rfl, rfl, rfl⟩ | exact .inr ‹_› | exact Nat.le_refl _ | exact Nat.le_add_right _ _))

theorem execGapStart_good (frc : km.part .frc) (out : km.part .out) (tim : km.part .tim) (mem : km.part .mem)
    (dram : km.part .dram) (scn : km.part .scn) (lfm : km.part .lfm) (line : km.part .line) (any : ∀ f, km.fld f)
    (t : Nat) (s : State) (hs : s.Keeps km pq) : ∀ st, execGapStart t s = .next st → st.Keeps km pq := by
  unfold execGapStart
  refine runIn_good hs (fun s hs => ?_)
  repeat' first
    | with_reducible assumption
    | (with_reducible (intros; exact any _))
    | (intro _)
    | with_reducible apply State.tick_good
    | with_reducible apply State.gapStart_good

theorem State.windowEnd_good (out : km.part .out) (tim : km.part .tim) (mem : km.part .mem) (dram : km.part .dram)
    (lfm : km.part .lfm) (line : km.part .line) (any : ∀ f, km.fld f) (s : State) (groups : List (Nat × List Nat))
    (hs : s.Keeps km pq) : (State.windowEnd s groups).Keeps km pq := by
  unfold State.windowEnd
  repeat' first
    | with_reducible assumption
    | (with_reducible (intros; exact any _))
    | (intro _)
    | with_reducible apply State.readback_good
    | with_reducible apply State.memSettle_good

theorem execReadbackWindowEnd_good (frc : km.part .frc) (out : km.part .out) (tim : km.part .tim)
    (mem : km.part .mem) (dram : km.part .dram) (lfm : km.part .lfm) (line : km.part .line) (any : ∀ f, km.fld f)
    (groups : List (Nat × List Nat)) (t : Nat) (s : State) (hs : s.Keeps km pq) : ∀ st, execReadbackWindowEnd groups t s = .next st → st.Keeps km pq := by
  unfold execReadbackWindowEnd
  refine runIn_good hs (fun s hs => ?_)
  repeat' first
    | with_reducible assumption
    | (with_reducible (intros; exact any _))
    | (intro _)
    | with_reducible apply State.tick_good
    | with_reducible apply State.windowEnd_good

theorem execFlipSend_good (frc : km.part .frc) (force : km.part .force) (out : km.part .out) (tim : km.part .tim)
    (dep : km.part .dep) (ing : km.part .ing) (map : km.part .map) (cmp : km.part .cmp) (mem : km.part .mem)
    (dram : km.part .dram) (scn : km.part .scn) (cor : km.part .cor) (rai : km.part .rai) (lfm : km.part .lfm)
    (line : km.part .line) (rdn : km.part .rdn) (any : ∀ f, km.fld f) (t : Nat) (s : State) (hs : s.Keeps km pq) : ∀ st, execFlipSend t s = .next st → st.Keeps km pq := by
  unfold execFlipSend
  refine runIn_good hs (fun s hs => ?_)
  repeat' first
    | with_reducible assumption
    | (with_reducible (intros; exact any _))
    | (intro _)
    | with_reducible apply State.tick_good
    | with_reducible apply State.flipSend_good

theorem execLoadStart_good (frc : km.part .frc) (out : km.part .out) (tim : km.part .tim) (mem : km.part .mem)
    (dram : km.part .dram) (scn : km.part .scn) (line : km.part .line) (any : ∀ f, km.fld f) (t : Nat) (s : State)
    (hs : s.Keeps km pq) : ∀ st, execLoadStart t s = .next st → st.Keeps km pq := by
  unfold execLoadStart
  refine runIn_good hs (fun s hs => ?_)
  repeat' first
    | with_reducible assumption
    | (with_reducible (intros; exact any _))
    | (intro _)
    | with_reducible apply State.tick_good
    | with_reducible apply State.loadStart_good

theorem execLoadDone_good (frc : km.part .frc) (out : km.part .out) (scn : km.part .scn)
    (hPG_EVT_PEND : ∀ a, km.fld (R.PG.EVT_PEND a)) (hSCN_LAST_READY_NS : km.fld R.SCN.LAST_READY.NS)
    (hSCN_SCN_STAT_LOADING : km.fld R.SCN.SCN_STAT.LOADING) (t : Nat) (s : State) (hs : s.Keeps km pq) : ∀ st, execLoadDone t s = .next st → st.Keeps km pq := by
  unfold execLoadDone
  refine runIn_good hs (fun s hs => ?_)
  repeat' first
    | with_reducible assumption
    | with_reducible exact hPG_EVT_PEND _
    | (intro _)
    | with_reducible apply State.tick_good
    | with_reducible apply State.loadDone_good

theorem execLoadDeadline_good (frc : km.part .frc) (out : km.part .out) (tim : km.part .tim) (mem : km.part .mem)
    (dram : km.part .dram) (scn : km.part .scn) (line : km.part .line) (any : ∀ f, km.fld f) (t : Nat) (s : State)
    (hs : s.Keeps km pq) : ∀ st, execLoadDeadline t s = .next st → st.Keeps km pq := by
  unfold execLoadDeadline
  refine runIn_good hs (fun s hs => ?_)
  repeat' first
    | with_reducible assumption
    | (with_reducible (intros; exact any _))
    | (intro _)
    | with_reducible apply State.tick_good
    | with_reducible apply State.loadDeadline_good

theorem execBandClose_good (frc : km.part .frc) (out : km.part .out) (tim : km.part .tim) (mem : km.part .mem)
    (dram : km.part .dram) (scn : km.part .scn) (line : km.part .line)
    (hDEP_MODE_CHECK_DEP_PENDING : km.fld R.DEP.MODE_CHECK.DEP_PENDING)
    (hDEP_MODE_CHECK_EPOCH_PENDING : km.fld R.DEP.MODE_CHECK.EPOCH_PENDING)
    (hDEP_MODE_CHECK_FIELDS : km.fld R.DEP.MODE_CHECK.FIELDS) (hDEP_MODE_CHECK_RULE : km.fld R.DEP.MODE_CHECK.RULE)
    (hDEP_MODE_CHECK_VALID : km.fld R.DEP.MODE_CHECK.VALID)
    (hDEP_MODE_CTRL_FB_VALID : km.fld R.DEP.MODE_CTRL.FB_VALID)
    (hLOG_LOG_ADDR_LO_ADDR : ∀ a, km.fld (R.LOG.LOG_ADDR_LO.ADDR a))
    (hLOG_LOG_INFO_ADDR_HI : ∀ a, km.fld (R.LOG.LOG_INFO.ADDR_HI a))
    (hLOG_LOG_INFO_ARRAY : ∀ a, km.fld (R.LOG.LOG_INFO.ARRAY a))
    (hLOG_LOG_INFO_BYTES : ∀ a, km.fld (R.LOG.LOG_INFO.BYTES a))
    (hLOG_LOG_INFO_CHANNEL : ∀ a, km.fld (R.LOG.LOG_INFO.CHANNEL a))
    (hLOG_LOG_INFO_CODE : ∀ a, km.fld (R.LOG.LOG_INFO.CODE a))
    (hLOG_LOG_INFO_PORT : ∀ a, km.fld (R.LOG.LOG_INFO.PORT a))
    (hLOG_LOG_INFO_SRAM : ∀ a, km.fld (R.LOG.LOG_INFO.SRAM a))
    (hLOG_LOG_TIME_HI_NS : ∀ a, km.fld (R.LOG.LOG_TIME_HI.NS a))
    (hLOG_LOG_TIME_LO_NS : ∀ a, km.fld (R.LOG.LOG_TIME_LO.NS a))
    (hMEM_CH_STAT_FILLED : ∀ a, km.fld (R.MEM.CH_STAT.FILLED a))
    (hMEM_CH_STAT_MIRROR_OK : ∀ a, km.fld (R.MEM.CH_STAT.MIRROR_OK a))
    (hMEM_CH_STAT_STATE : ∀ a, km.fld (R.MEM.CH_STAT.STATE a))
    (hPAR_CHK_CTRL_INJ_ARM : km.fld R.PAR.CHK_CTRL.INJ_ARM)
    (hPAR_DRAM_ERR_CNT_COUNT : km.fld R.PAR.DRAM_ERR_CNT.COUNT) (hPAR_LOG_STAT_NEXT : km.fld R.PAR.LOG_STAT.NEXT)
    (hPAR_LOG_STAT_TOTAL : km.fld R.PAR.LOG_STAT.TOTAL) (hPAR_LOG_STAT_WRAPPED : km.fld R.PAR.LOG_STAT.WRAPPED)
    (hPAR_MIRROR_FIX_CNT_COUNT : km.fld R.PAR.MIRROR_FIX_CNT.COUNT)
    (hPG_ERR_ADDR_HI : ∀ a, km.fld (R.PG.ERR_ADDR_HI a)) (hPG_ERR_ADDR_LO : ∀ a, km.fld (R.PG.ERR_ADDR_LO a))
    (hPG_ERR_CODE : ∀ a, km.fld (R.PG.ERR_CODE a)) (hPG_ERR_COUNT : ∀ a, km.fld (R.PG.ERR_COUNT a))
    (hPG_ERR_OVERFLOW : ∀ a, km.fld (R.PG.ERR_OVERFLOW a)) (hPG_ERR_SOURCE : ∀ a, km.fld (R.PG.ERR_SOURCE a))
    (hPG_ERR_VALID : ∀ a, km.fld (R.PG.ERR_VALID a)) (hPG_EVT_PEND : ∀ a, km.fld (R.PG.EVT_PEND a))
    (hPG_FAULT : ∀ a, km.fld (R.PG.FAULT a)) (hPG_POISON_SEEN : ∀ a, km.fld (R.PG.POISON_SEEN a))
    (hSCN_POISON_WORDS_COUNT : km.fld R.SCN.POISON_WORDS.COUNT)
    (hSCN_ROW_REPEAT_CNT_COUNT : km.fld R.SCN.ROW_REPEAT_CNT.COUNT)
    (hSCN_SCN_STAT_LOADING : km.fld R.SCN.SCN_STAT.LOADING)
    (hTIM_DOM_OFFSET_OFFSET : ∀ a, km.fld (R.TIM.DOM_OFFSET.OFFSET a))
    (hTIM_DOM_RATE_RATE : ∀ a, km.fld (R.TIM.DOM_RATE.RATE a)) (b t : Nat) (s : State) (hs : s.Keeps km pq) : ∀ st, execBandClose b t s = .next st → st.Keeps km pq := by
  unfold execBandClose
  refine runIn_good hs (fun s hs => ?_)
  repeat' first
    | with_reducible assumption
    | with_reducible exact hLOG_LOG_ADDR_LO_ADDR _
    | with_reducible exact hLOG_LOG_INFO_ADDR_HI _
    | with_reducible exact hLOG_LOG_INFO_ARRAY _
    | with_reducible exact hLOG_LOG_INFO_BYTES _
    | with_reducible exact hLOG_LOG_INFO_CHANNEL _
    | with_reducible exact hLOG_LOG_INFO_CODE _
    | with_reducible exact hLOG_LOG_INFO_PORT _
    | with_reducible exact hLOG_LOG_INFO_SRAM _
    | with_reducible exact hLOG_LOG_TIME_HI_NS _
    | with_reducible exact hLOG_LOG_TIME_LO_NS _
    | with_reducible exact hMEM_CH_STAT_FILLED _
    | with_reducible exact hMEM_CH_STAT_MIRROR_OK _
    | with_reducible exact hMEM_CH_STAT_STATE _
    | with_reducible exact hPG_ERR_ADDR_HI _
    | with_reducible exact hPG_ERR_ADDR_LO _
    | with_reducible exact hPG_ERR_CODE _
    | with_reducible exact hPG_ERR_COUNT _
    | with_reducible exact hPG_ERR_OVERFLOW _
    | with_reducible exact hPG_ERR_SOURCE _
    | with_reducible exact hPG_ERR_VALID _
    | with_reducible exact hPG_EVT_PEND _
    | with_reducible exact hPG_FAULT _
    | with_reducible exact hPG_POISON_SEEN _
    | with_reducible exact hTIM_DOM_OFFSET_OFFSET _
    | with_reducible exact hTIM_DOM_RATE_RATE _
    | (intro _)
    | with_reducible apply State.tick_good
    | with_reducible apply State.closeBand_good

theorem execBandFlip_good (frc : km.part .frc) (out : km.part .out) (tim : km.part .tim) (mem : km.part .mem)
    (dram : km.part .dram) (scn : km.part .scn) (line : km.part .line)
    (hDEP_MODE_CHECK_DEP_PENDING : km.fld R.DEP.MODE_CHECK.DEP_PENDING)
    (hDEP_MODE_CHECK_EPOCH_PENDING : km.fld R.DEP.MODE_CHECK.EPOCH_PENDING)
    (hDEP_MODE_CHECK_FIELDS : km.fld R.DEP.MODE_CHECK.FIELDS) (hDEP_MODE_CHECK_RULE : km.fld R.DEP.MODE_CHECK.RULE)
    (hDEP_MODE_CHECK_VALID : km.fld R.DEP.MODE_CHECK.VALID)
    (hDEP_MODE_CTRL_FB_VALID : km.fld R.DEP.MODE_CTRL.FB_VALID)
    (hLOG_LOG_ADDR_LO_ADDR : ∀ a, km.fld (R.LOG.LOG_ADDR_LO.ADDR a))
    (hLOG_LOG_INFO_ADDR_HI : ∀ a, km.fld (R.LOG.LOG_INFO.ADDR_HI a))
    (hLOG_LOG_INFO_ARRAY : ∀ a, km.fld (R.LOG.LOG_INFO.ARRAY a))
    (hLOG_LOG_INFO_BYTES : ∀ a, km.fld (R.LOG.LOG_INFO.BYTES a))
    (hLOG_LOG_INFO_CHANNEL : ∀ a, km.fld (R.LOG.LOG_INFO.CHANNEL a))
    (hLOG_LOG_INFO_CODE : ∀ a, km.fld (R.LOG.LOG_INFO.CODE a))
    (hLOG_LOG_INFO_PORT : ∀ a, km.fld (R.LOG.LOG_INFO.PORT a))
    (hLOG_LOG_INFO_SRAM : ∀ a, km.fld (R.LOG.LOG_INFO.SRAM a))
    (hLOG_LOG_TIME_HI_NS : ∀ a, km.fld (R.LOG.LOG_TIME_HI.NS a))
    (hLOG_LOG_TIME_LO_NS : ∀ a, km.fld (R.LOG.LOG_TIME_LO.NS a))
    (hMEM_CH_STAT_FILLED : ∀ a, km.fld (R.MEM.CH_STAT.FILLED a))
    (hMEM_CH_STAT_MIRROR_OK : ∀ a, km.fld (R.MEM.CH_STAT.MIRROR_OK a))
    (hMEM_CH_STAT_STATE : ∀ a, km.fld (R.MEM.CH_STAT.STATE a))
    (hPAR_DRAM_ERR_CNT_COUNT : km.fld R.PAR.DRAM_ERR_CNT.COUNT) (hPAR_LOG_STAT_NEXT : km.fld R.PAR.LOG_STAT.NEXT)
    (hPAR_LOG_STAT_TOTAL : km.fld R.PAR.LOG_STAT.TOTAL) (hPAR_LOG_STAT_WRAPPED : km.fld R.PAR.LOG_STAT.WRAPPED)
    (hPAR_MIRROR_FIX_CNT_COUNT : km.fld R.PAR.MIRROR_FIX_CNT.COUNT)
    (hPG_ERR_ADDR_HI : ∀ a, km.fld (R.PG.ERR_ADDR_HI a)) (hPG_ERR_ADDR_LO : ∀ a, km.fld (R.PG.ERR_ADDR_LO a))
    (hPG_ERR_CODE : ∀ a, km.fld (R.PG.ERR_CODE a)) (hPG_ERR_COUNT : ∀ a, km.fld (R.PG.ERR_COUNT a))
    (hPG_ERR_OVERFLOW : ∀ a, km.fld (R.PG.ERR_OVERFLOW a)) (hPG_ERR_SOURCE : ∀ a, km.fld (R.PG.ERR_SOURCE a))
    (hPG_ERR_VALID : ∀ a, km.fld (R.PG.ERR_VALID a)) (hPG_EVT_PEND : ∀ a, km.fld (R.PG.EVT_PEND a))
    (hPG_FAULT : ∀ a, km.fld (R.PG.FAULT a)) (hPG_POISON_SEEN : ∀ a, km.fld (R.PG.POISON_SEEN a))
    (hSCN_LAST_READY_NS : km.fld R.SCN.LAST_READY.NS) (hSCN_POISON_WORDS_COUNT : km.fld R.SCN.POISON_WORDS.COUNT)
    (hSCN_SCN_STAT_LOADING : km.fld R.SCN.SCN_STAT.LOADING)
    (hTIM_DOM_OFFSET_OFFSET : ∀ a, km.fld (R.TIM.DOM_OFFSET.OFFSET a))
    (hTIM_DOM_RATE_RATE : ∀ a, km.fld (R.TIM.DOM_RATE.RATE a)) (b t : Nat) (s : State) (hs : s.Keeps km pq) : ∀ st, execBandFlip b t s = .next st → st.Keeps km pq := by
  unfold execBandFlip
  refine runIn_good hs (fun s hs => ?_)
  repeat' first
    | with_reducible assumption
    | with_reducible exact hLOG_LOG_ADDR_LO_ADDR _
    | with_reducible exact hLOG_LOG_INFO_ADDR_HI _
    | with_reducible exact hLOG_LOG_INFO_ARRAY _
    | with_reducible exact hLOG_LOG_INFO_BYTES _
    | with_reducible exact hLOG_LOG_INFO_CHANNEL _
    | with_reducible exact hLOG_LOG_INFO_CODE _
    | with_reducible exact hLOG_LOG_INFO_PORT _
    | with_reducible exact hLOG_LOG_INFO_SRAM _
    | with_reducible exact hLOG_LOG_TIME_HI_NS _
    | with_reducible exact hLOG_LOG_TIME_LO_NS _
    | with_reducible exact hMEM_CH_STAT_FILLED _
    | with_reducible exact hMEM_CH_STAT_MIRROR_OK _
    | with_reducible exact hMEM_CH_STAT_STATE _
    | with_reducible exact hPG_ERR_ADDR_HI _
    | with_reducible exact hPG_ERR_ADDR_LO _
    | with_reducible exact hPG_ERR_CODE _
    | with_reducible exact hPG_ERR_COUNT _
    | with_reducible exact hPG_ERR_OVERFLOW _
    | with_reducible exact hPG_ERR_SOURCE _
    | with_reducible exact hPG_ERR_VALID _
    | with_reducible exact hPG_EVT_PEND _
    | with_reducible exact hPG_FAULT _
    | with_reducible exact hPG_POISON_SEEN _
    | with_reducible exact hTIM_DOM_OFFSET_OFFSET _
    | with_reducible exact hTIM_DOM_RATE_RATE _
    | (intro _)
    | with_reducible apply State.tick_good
    | with_reducible apply State.flipBand_good

theorem execTtCheck_good (frc : km.part .frc) (hSCN_TT_STAT_CHECK_BUSY : km.fld R.SCN.TT_STAT.CHECK_BUSY) (t : Nat)
    (s : State) (hs : s.Keeps km pq) : ∀ st, execTtCheck t s = .next st → st.Keeps km pq := by
  unfold execTtCheck
  refine runIn_good hs (fun s hs => ?_)
  repeat' first
    | with_reducible assumption
    | (intro _)
    | with_reducible apply State.tick_good
    | with_reducible apply State.set_good

theorem execTtCheckDone_good (frc : km.part .frc) (out : km.part .out) (hPG_EVT_PEND : ∀ a, km.fld (R.PG.EVT_PEND a))
    (hSCN_TT_STAT_CHECK_BUSY : km.fld R.SCN.TT_STAT.CHECK_BUSY)
    (hSCN_TT_STAT_CHECK_CODE : km.fld R.SCN.TT_STAT.CHECK_CODE) (t : Nat) (s : State) (hs : s.Keeps km pq) : ∀ st, execTtCheckDone t s = .next st → st.Keeps km pq := by
  unfold execTtCheckDone
  refine runIn_good hs (fun s hs => ?_)
  repeat' first
    | with_reducible assumption
    | with_reducible exact hPG_EVT_PEND _
    | ((try lift_lets -underBinder); intro x; refine Keep.use (k := km) (q := pq) (s := x) ?_ ?_; (on_goal 1 => dsimp -zeta only [x]); (on_goal 2 => clear_value x; intro _))
    | ((try lift_lets -underBinder); intro x; refine Keep.usePair (k := km) (q := pq) (p := x) ?_ ?_; (on_goal 1 => dsimp -zeta only [x]); (on_goal 2 => clear_value x; intro _))
    | ((try lift_lets -underBinder); intro x; refine Keep.memSt (x := x) ?_; subst x)
    | ((try lift_lets -underBinder); intro x; refine Keep.depSt (x := x) ?_; subst x)
    | ((try lift_lets -underBinder); intro x; clear_value x)
    | (intro _)
    | with_reducible apply Keep.ite
    | with_reducible apply State.tick_good
    | with_reducible apply State.set_good
    | with_reducible apply State.ev_good

theorem execRowSelectEdge_good (frc : km.part .frc) (out : km.part .out) (scn : km.part .scn)
    (hPG_EVT_PEND : ∀ a, km.fld (R.PG.EVT_PEND a)) (hSCN_LOAD_LATE_CNT_COUNT : km.fld R.SCN.LOAD_LATE_CNT.COUNT)
    (hSCN_SCN_STAT_ROW : km.fld R.SCN.SCN_STAT.ROW) (hSCN_SCN_STAT_SEG : km.fld R.SCN.SCN_STAT.SEG) (t : Nat)
    (s : State) (hs : s.Keeps km pq) : ∀ st, execRowSelectEdge t s = .next st → st.Keeps km pq := by
  unfold execRowSelectEdge
  refine runIn_good hs (fun s hs => ?_)
  repeat' first
    | with_reducible assumption
    | with_reducible exact hPG_EVT_PEND _
    | (intro _)
    | with_reducible apply State.tick_good
    | with_reducible apply State.nextRow_good

end Sys2Proof.Machine
end

