-- ==== Sys2Proof/Laws/KeepsTile.lean ====
section
/-!
SUPPORT. Every function of Machine/Tile.lean changes what the hypotheses of its lemma name, and nothing else.
-/
namespace Sys2Proof.Machine
set_option Elab.async false
set_option linter.unusedVariables false
set_option linter.unusedTactic false
set_option linter.unreachableTactic false

variable {km : May} {pq : State}

theorem State.passDone_good (out : km.part .out) (scn : km.part .scn) (cor : km.part .cor) (rai : km.part .rai)
    (hCOR_LAST_PASS_NS : km.fld R.COR.LAST_PASS.NS) (hPG_EVT_PEND : ∀ a, km.fld (R.PG.EVT_PEND a))
    (hRCH_CH_CNT_REJECT : ∀ a, km.fld (R.RCH.CH_CNT.REJECT a))
    (hRCH_CH_DMAX_NEXT : ∀ a, km.fld (R.RCH.CH_DMAX.NEXT a))
    (hRCH_CH_STAT_AT_TARGET : ∀ a, km.fld (R.RCH.CH_STAT.AT_TARGET a))
    (hRCH_CH_TARGET_FLOOR : ∀ a, km.fld (R.RCH.CH_TARGET.FLOOR a))
    (hRCH_CH_TARGET_NEXT : ∀ a, km.fld (R.RCH.CH_TARGET.NEXT a)) (s : State) (hs : s.Keeps km pq) : (State.passDone s).Keeps km pq := by
  unfold State.passDone
  repeat' first
    | with_reducible assumption
    | with_reducible exact hPG_EVT_PEND _
    | with_reducible exact hRCH_CH_CNT_REJECT _
    | with_reducible exact hRCH_CH_DMAX_NEXT _
    | with_reducible exact hRCH_CH_STAT_AT_TARGET _
    | with_reducible exact hRCH_CH_TARGET_FLOOR _
    | with_reducible exact hRCH_CH_TARGET_NEXT _
    | ((try lift_lets -underBinder); intro x; refine Keep.use (k := km) (q := pq) (s := x) ?_ ?_; (on_goal 1 => dsimp -zeta only [x]); (on_goal 2 => clear_value x; intro _))
    | ((try lift_lets -underBinder); intro x; refine Keep.usePair (k := km) (q := pq) (p := x) ?_ ?_; (on_goal 1 => dsimp -zeta only [x]); (on_goal 2 => clear_value x; intro _))
    | ((try lift_lets -underBinder); intro x; refine Keep.memSt (x := x) ?_; subst x)
    | ((try lift_lets -underBinder); intro x; refine Keep.depSt (x := x) ?_; subst x)
    | ((try lift_lets -underBinder); intro x; clear_value x)
    | (intro _)
    | with_reducible apply Keep.ite
    | with_reducible apply State.set_good
    | with_reducible apply State.ev_good
    | with_reducible apply State.raiTake_good
    | split
    | (simp -zeta only [Keep.mk_iff]; with_reducible refine Keep.upd ?_ rfl ?_; on_goal 2 => (and_intros <;> with_reducible first | exact .inl rfl | exact .inl ⟨rfl, rfl, rfl⟩ | exact .inr ‹_› | exact Nat.le_refl _ | exact Nat.le_add_right _ _))

theorem execPassDone_good (frc : km.part .frc) (out : km.part .out) (scn : km.part .scn) (cor : km.part .cor)
    (rai : km.part .rai) (hCOR_LAST_PASS_NS : km.fld R.COR.LAST_PASS.NS)
    (hPG_EVT_PEND : ∀ a, km.fld (R.PG.EVT_PEND a)) (hRCH_CH_CNT_REJECT : ∀ a, km.fld (R.RCH.CH_CNT.REJECT a))
    (hRCH_CH_DMAX_NEXT : ∀ a, km.fld (R.RCH.CH_DMAX.NEXT a))
    (hRCH_CH_STAT_AT_TARGET : ∀ a, km.fld (R.RCH.CH_STAT.AT_TARGET a))
    (hRCH_CH_TARGET_FLOOR : ∀ a, km.fld (R.RCH.CH_TARGET.FLOOR a))
    (hRCH_CH_TARGET_NEXT : ∀ a, km.fld (R.RCH.CH_TARGET.NEXT a)) (t : Nat) (s : State) (hs : s.Keeps km pq) : ∀ st, execPassDone t s = .next st → st.Keeps km pq := by
  unfold execPassDone
  refine runIn_good hs (fun s hs => ?_)
  repeat' first
    | with_reducible assumption
    | with_reducible exact hPG_EVT_PEND _
    | with_reducible exact hRCH_CH_CNT_REJECT _
    | with_reducible exact hRCH_CH_DMAX_NEXT _
    | with_reducible exact hRCH_CH_STAT_AT_TARGET _
    | with_reducible exact hRCH_CH_TARGET_FLOOR _
    | with_reducible exact hRCH_CH_TARGET_NEXT _
    | (intro _)
    | with_reducible apply State.tick_good
    | with_reducible apply State.passDone_good

theorem State.uplStep_good (out : km.part .out) (tim : km.part .tim) (mem : km.part .mem) (dram : km.part .dram)
    (cor : km.part .cor) (line : km.part .line) (any : ∀ f, km.fld f) (s : State) (op : Nat) (hs : s.Keeps km pq) : (State.uplStep s op).Keeps km pq := by
  unfold State.uplStep
  repeat' first
    | with_reducible assumption
    | (with_reducible (intros; exact any _))
    | (intro _)
    | with_reducible apply State.uplRegion_good
    | with_reducible apply State.memSettle_good

theorem State.syncStep_good (out : km.part .out) (tim : km.part .tim) (mem : km.part .mem) (dram : km.part .dram)
    (cor : km.part .cor) (hCOR_BANK_STAT_SYNCING : km.fld R.COR.BANK_STAT.SYNCING)
    (hDEP_MODE_CHECK_DEP_PENDING : km.fld R.DEP.MODE_CHECK.DEP_PENDING)
    (hDEP_MODE_CHECK_EPOCH_PENDING : km.fld R.DEP.MODE_CHECK.EPOCH_PENDING)
    (hDEP_MODE_CHECK_FIELDS : km.fld R.DEP.MODE_CHECK.FIELDS) (hDEP_MODE_CHECK_RULE : km.fld R.DEP.MODE_CHECK.RULE)
    (hDEP_MODE_CHECK_VALID : km.fld R.DEP.MODE_CHECK.VALID)
    (hDEP_MODE_CTRL_FB_VALID : km.fld R.DEP.MODE_CTRL.FB_VALID)
    (hLOG_LOG_ADDR_LO_ADDR : ∀ a, km.fld (R.LOG.LOG_ADDR_LO.ADDR a))
    (hLOG_LOG_INFO_ADDR_HI : ∀ a, km.fld (R.LOG.LOG_INFO.ADDR_HI a))
    (hLOG_LOG_INFO_ARRAY : ∀ a, km.fld (R.LOG.LOG_INFO.ARRAY a))
    (hLOG_LOG_INFO_BYTES : ∀ a, km.fld (R.LOG.LOG_INFO.BYTES a))
    (hLOG_LOG_INFO_CHANNEL : ∀ a, km.fld (R.LOG.LOG_INFO.CHANNEL a))
    (hLOG_LOG_INFO_CODE : ∀ a, km.fld (R.LOG.LOG_INFO.CODE a))
    (hLOG_LOG_INFO_PORT : ∀ a, km.fld (R.LOG.LOG_INFO.PORT a))
    (hLOG_LOG_INFO_SRAM : ∀ a, km.fld (R.LOG.LOG_INFO.SRAM a))
    (hLOG_LOG_TIME_HI_NS : ∀ a, km.fld (R.LOG.LOG_TIME_HI.NS a))
    (hLOG_LOG_TIME_LO_NS : ∀ a, km.fld (R.LOG.LOG_TIME_LO.NS a))
    (hMEM_CH_STAT_FILLED : ∀ a, km.fld (R.MEM.CH_STAT.FILLED a))
    (hMEM_CH_STAT_MIRROR_OK : ∀ a, km.fld (R.MEM.CH_STAT.MIRROR_OK a))
    (hMEM_CH_STAT_STATE : ∀ a, km.fld (R.MEM.CH_STAT.STATE a))
    (hPAR_CHK_CTRL_INJ_ARM : km.fld R.PAR.CHK_CTRL.INJ_ARM)
    (hPAR_DRAM_ERR_CNT_COUNT : km.fld R.PAR.DRAM_ERR_CNT.COUNT) (hPAR_LOG_STAT_NEXT : km.fld R.PAR.LOG_STAT.NEXT)
    (hPAR_LOG_STAT_TOTAL : km.fld R.PAR.LOG_STAT.TOTAL) (hPAR_LOG_STAT_WRAPPED : km.fld R.PAR.LOG_STAT.WRAPPED)
    (hPAR_MIRROR_FIX_CNT_COUNT : km.fld R.PAR.MIRROR_FIX_CNT.COUNT)
    (hPG_ERR_ADDR_HI : ∀ a, km.fld (R.PG.ERR_ADDR_HI a)) (hPG_ERR_ADDR_LO : ∀ a, km.fld (R.PG.ERR_ADDR_LO a))
    (hPG_ERR_CODE : ∀ a, km.fld (R.PG.ERR_CODE a)) (hPG_ERR_COUNT : ∀ a, km.fld (R.PG.ERR_COUNT a))
    (hPG_ERR_OVERFLOW : ∀ a, km.fld (R.PG.ERR_OVERFLOW a)) (hPG_ERR_SOURCE : ∀ a, km.fld (R.PG.ERR_SOURCE a))
    (hPG_ERR_VALID : ∀ a, km.fld (R.PG.ERR_VALID a)) (hPG_EVT_PEND : ∀ a, km.fld (R.PG.EVT_PEND a))
    (hPG_FAULT : ∀ a, km.fld (R.PG.FAULT a)) (hTIM_DOM_OFFSET_OFFSET : ∀ a, km.fld (R.TIM.DOM_OFFSET.OFFSET a))
    (hTIM_DOM_RATE_RATE : ∀ a, km.fld (R.TIM.DOM_RATE.RATE a)) (s : State) (hs : s.Keeps km pq) : (State.syncStep s).Keeps km pq := by
  unfold State.syncStep
  repeat' first
    | with_reducible assumption
    | with_reducible exact hLOG_LOG_ADDR_LO_ADDR _
    | with_reducible exact hLOG_LOG_INFO_ADDR_HI _
    | with_reducible exact hLOG_LOG_INFO_ARRAY _
    | with_reducible exact hLOG_LOG_INFO_BYTES _
    | with_reducible exact hLOG_LOG_INFO_CHANNEL _
    | with_reducible exact hLOG_LOG_INFO_CODE _
    | with_reducible exact hLOG_LOG_INFO_PORT _
    | with_reducible exact hLOG_LOG_INFO_SRAM _
    | with_reducible exact hLOG_LOG_TIME_HI_NS _
    | with_reducible exact hLOG_LOG_TIME_LO_NS _
    | with_reducible exact hMEM_CH_STAT_FILLED _
    | with_reducible exact hMEM_CH_STAT_MIRROR_OK _
    | with_reducible exact hMEM_CH_STAT_STATE _
    | with_reducible exact hPG_ERR_ADDR_HI _
    | with_reducible exact hPG_ERR_ADDR_LO _
    | with_reducible exact hPG_ERR_CODE _
    | with_reducible exact hPG_ERR_COUNT _
    | with_reducible exact hPG_ERR_OVERFLOW _
    | with_reducible exact hPG_ERR_SOURCE _
    | with_reducible exact hPG_ERR_VALID _
    | with_reducible exact hPG_EVT_PEND _
    | with_reducible exact hPG_FAULT _
    | with_reducible exact hTIM_DOM_OFFSET_OFFSET _
    | with_reducible exact hTIM_DOM_RATE_RATE _
    | (intro _)
    | with_reducible apply State.bankSyncDone_good
    | with_reducible apply State.memSettle_good

theorem execBankSyncStart_good (frc : km.part .frc) (cor : km.part .cor) (t : Nat) (s : State) (hs : s.Keeps km pq) : ∀ st, execBankSyncStart t s = .next st → st.Keeps km pq := by
  unfold execBankSyncStart
  refine runIn_good hs (fun s hs => ?_)
  repeat' first
    | with_reducible assumption
    | (intro _)
    | with_reducible apply State.tick_good
    | with_reducible apply State.bankSyncStart_good

theorem execBankSyncDone_good (frc : km.part .frc) (out : km.part .out) (tim : km.part .tim) (mem : km.part .mem)
    (dram : km.part .dram) (cor : km.part .cor) (hCOR_BANK_STAT_SYNCING : km.fld R.COR.BANK_STAT.SYNCING)
    (hDEP_MODE_CHECK_DEP_PENDING : km.fld R.DEP.MODE_CHECK.DEP_PENDING)
    (hDEP_MODE_CHECK_EPOCH_PENDING : km.fld R.DEP.MODE_CHECK.EPOCH_PENDING)
    (hDEP_MODE_CHECK_FIELDS : km.fld R.DEP.MODE_CHECK.FIELDS) (hDEP_MODE_CHECK_RULE : km.fld R.DEP.MODE_CHECK.RULE)
    (hDEP_MODE_CHECK_VALID : km.fld R.DEP.MODE_CHECK.VALID)
    (hDEP_MODE_CTRL_FB_VALID : km.fld R.DEP.MODE_CTRL.FB_VALID)
    (hLOG_LOG_ADDR_LO_ADDR : ∀ a, km.fld (R.LOG.LOG_ADDR_LO.ADDR a))
    (hLOG_LOG_INFO_ADDR_HI : ∀ a, km.fld (R.LOG.LOG_INFO.ADDR_HI a))
    (hLOG_LOG_INFO_ARRAY : ∀ a, km.fld (R.LOG.LOG_INFO.ARRAY a))
    (hLOG_LOG_INFO_BYTES : ∀ a, km.fld (R.LOG.LOG_INFO.BYTES a))
    (hLOG_LOG_INFO_CHANNEL : ∀ a, km.fld (R.LOG.LOG_INFO.CHANNEL a))
    (hLOG_LOG_INFO_CODE : ∀ a, km.fld (R.LOG.LOG_INFO.CODE a))
    (hLOG_LOG_INFO_PORT : ∀ a, km.fld (R.LOG.LOG_INFO.PORT a))
    (hLOG_LOG_INFO_SRAM : ∀ a, km.fld (R.LOG.LOG_INFO.SRAM a))
    (hLOG_LOG_TIME_HI_NS : ∀ a, km.fld (R.LOG.LOG_TIME_HI.NS a))
    (hLOG_LOG_TIME_LO_NS : ∀ a, km.fld (R.LOG.LOG_TIME_LO.NS a))
    (hMEM_CH_STAT_FILLED : ∀ a, km.fld (R.MEM.CH_STAT.FILLED a))
    (hMEM_CH_STAT_MIRROR_OK : ∀ a, km.fld (R.MEM.CH_STAT.MIRROR_OK a))
    (hMEM_CH_STAT_STATE : ∀ a, km.fld (R.MEM.CH_STAT.STATE a))
    (hPAR_CHK_CTRL_INJ_ARM : km.fld R.PAR.CHK_CTRL.INJ_ARM)
    (hPAR_DRAM_ERR_CNT_COUNT : km.fld R.PAR.DRAM_ERR_CNT.COUNT) (hPAR_LOG_STAT_NEXT : km.fld R.PAR.LOG_STAT.NEXT)
    (hPAR_LOG_STAT_TOTAL : km.fld R.PAR.LOG_STAT.TOTAL) (hPAR_LOG_STAT_WRAPPED : km.fld R.PAR.LOG_STAT.WRAPPED)
    (hPAR_MIRROR_FIX_CNT_COUNT : km.fld R.PAR.MIRROR_FIX_CNT.COUNT)
    (hPG_ERR_ADDR_HI : ∀ a, km.fld (R.PG.ERR_ADDR_HI a)) (hPG_ERR_ADDR_LO : ∀ a, km.fld (R.PG.ERR_ADDR_LO a))
    (hPG_ERR_CODE : ∀ a, km.fld (R.PG.ERR_CODE a)) (hPG_ERR_COUNT : ∀ a, km.fld (R.PG.ERR_COUNT a))
    (hPG_ERR_OVERFLOW : ∀ a, km.fld (R.PG.ERR_OVERFLOW a)) (hPG_ERR_SOURCE : ∀ a, km.fld (R.PG.ERR_SOURCE a))
    (hPG_ERR_VALID : ∀ a, km.fld (R.PG.ERR_VALID a)) (hPG_EVT_PEND : ∀ a, km.fld (R.PG.EVT_PEND a))
    (hPG_FAULT : ∀ a, km.fld (R.PG.FAULT a)) (hTIM_DOM_OFFSET_OFFSET : ∀ a, km.fld (R.TIM.DOM_OFFSET.OFFSET a))
    (hTIM_DOM_RATE_RATE : ∀ a, km.fld (R.TIM.DOM_RATE.RATE a)) (t : Nat) (s : State) (hs : s.Keeps km pq) : ∀ st, execBankSyncDone t s = .next st → st.Keeps km pq := by
  unfold execBankSyncDone
  refine runIn_good hs (fun s hs => ?_)
  repeat' first
    | with_reducible assumption
    | with_reducible exact hLOG_LOG_ADDR_LO_ADDR _
    | with_reducible exact hLOG_LOG_INFO_ADDR_HI _
    | with_reducible exact hLOG_LOG_INFO_ARRAY _
    | with_reducible exact hLOG_LOG_INFO_BYTES _
    | with_reducible exact hLOG_LOG_INFO_CHANNEL _
    | with_reducible exact hLOG_LOG_INFO_CODE _
    | with_reducible exact hLOG_LOG_INFO_PORT _
    | with_reducible exact hLOG_LOG_INFO_SRAM _
    | with_reducible exact hLOG_LOG_TIME_HI_NS _
    | with_reducible exact hLOG_LOG_TIME_LO_NS _
    | with_reducible exact hMEM_CH_STAT_FILLED _
    | with_reducible exact hMEM_CH_STAT_MIRROR_OK _
    | with_reducible exact hMEM_CH_STAT_STATE _
    | with_reducible exact hPG_ERR_ADDR_HI _
    | with_reducible exact hPG_ERR_ADDR_LO _
    | with_reducible exact hPG_ERR_CODE _
    | with_reducible exact hPG_ERR_COUNT _
    | with_reducible exact hPG_ERR_OVERFLOW _
    | with_reducible exact hPG_ERR_SOURCE _
    | with_reducible exact hPG_ERR_VALID _
    | with_reducible exact hPG_EVT_PEND _
    | with_reducible exact hPG_FAULT _
    | with_reducible exact hTIM_DOM_OFFSET_OFFSET _
    | with_reducible exact hTIM_DOM_RATE_RATE _
    | (intro _)
    | with_reducible apply State.tick_good
    | with_reducible apply State.syncStep_good

theorem execApertureWrite_good (frc : km.part .frc) (out : km.part .out) (mem : km.part .mem) (dram : km.part .dram)
    (hCOR_APER_REFUSED_COUNT : km.fld R.COR.APER_REFUSED.COUNT)
    (hLOG_LOG_ADDR_LO_ADDR : ∀ a, km.fld (R.LOG.LOG_ADDR_LO.ADDR a))
    (hLOG_LOG_INFO_ADDR_HI : ∀ a, km.fld (R.LOG.LOG_INFO.ADDR_HI a))
    (hLOG_LOG_INFO_ARRAY : ∀ a, km.fld (R.LOG.LOG_INFO.ARRAY a))
    (hLOG_LOG_INFO_BYTES : ∀ a, km.fld (R.LOG.LOG_INFO.BYTES a))
    (hLOG_LOG_INFO_CHANNEL : ∀ a, km.fld (R.LOG.LOG_INFO.CHANNEL a))
    (hLOG_LOG_INFO_CODE : ∀ a, km.fld (R.LOG.LOG_INFO.CODE a))
    (hLOG_LOG_INFO_PORT : ∀ a, km.fld (R.LOG.LOG_INFO.PORT a))
    (hLOG_LOG_INFO_SRAM : ∀ a, km.fld (R.LOG.LOG_INFO.SRAM a))
    (hLOG_LOG_TIME_HI_NS : ∀ a, km.fld (R.LOG.LOG_TIME_HI.NS a))
    (hLOG_LOG_TIME_LO_NS : ∀ a, km.fld (R.LOG.LOG_TIME_LO.NS a))
    (hPAR_CHK_CTRL_INJ_ARM : km.fld R.PAR.CHK_CTRL.INJ_ARM) (hPAR_LOG_STAT_NEXT : km.fld R.PAR.LOG_STAT.NEXT)
    (hPAR_LOG_STAT_TOTAL : km.fld R.PAR.LOG_STAT.TOTAL) (hPAR_LOG_STAT_WRAPPED : km.fld R.PAR.LOG_STAT.WRAPPED)
    (hPG_ERR_ADDR_HI : ∀ a, km.fld (R.PG.ERR_ADDR_HI a)) (hPG_ERR_ADDR_LO : ∀ a, km.fld (R.PG.ERR_ADDR_LO a))
    (hPG_ERR_CODE : ∀ a, km.fld (R.PG.ERR_CODE a)) (hPG_ERR_COUNT : ∀ a, km.fld (R.PG.ERR_COUNT a))
    (hPG_ERR_OVERFLOW : ∀ a, km.fld (R.PG.ERR_OVERFLOW a)) (hPG_ERR_SOURCE : ∀ a, km.fld (R.PG.ERR_SOURCE a))
    (hPG_ERR_VALID : ∀ a, km.fld (R.PG.ERR_VALID a)) (hPG_EVT_PEND : ∀ a, km.fld (R.PG.EVT_PEND a)) (ofs n v t : Nat)
    (s : State) (hs : s.Keeps km pq) : ∀ st, execApertureWrite ofs n v t s = .next st → st.Keeps km pq := by
  unfold execApertureWrite
  refine runIn_good hs (fun s hs => ?_)
  repeat' first
    | with_reducible assumption
    | with_reducible exact hLOG_LOG_ADDR_LO_ADDR _
    | with_reducible exact hLOG_LOG_INFO_ADDR_HI _
    | with_reducible exact hLOG_LOG_INFO_ARRAY _
    | with_reducible exact hLOG_LOG_INFO_BYTES _
    | with_reducible exact hLOG_LOG_INFO_CHANNEL _
    | with_reducible exact hLOG_LOG_INFO_CODE _
    | with_reducible exact hLOG_LOG_INFO_PORT _
    | with_reducible exact hLOG_LOG_INFO_SRAM _
    | with_reducible exact hLOG_LOG_TIME_HI_NS _
    | with_reducible exact hLOG_LOG_TIME_LO_NS _
    | with_reducible exact hPG_ERR_ADDR_HI _
    | with_reducible exact hPG_ERR_ADDR_LO _
    | with_reducible exact hPG_ERR_CODE _
    | with_reducible exact hPG_ERR_COUNT _
    | with_reducible exact hPG_ERR_OVERFLOW _
    | with_reducible exact hPG_ERR_SOURCE _
    | with_reducible exact hPG_ERR_VALID _
    | with_reducible exact hPG_EVT_PEND _
    | (intro _)
    | with_reducible apply State.tick_good
    | with_reducible apply State.aperWrite_good

theorem execUplCmdGo_good (frc : km.part .frc) (out : km.part .out) (tim : km.part .tim) (cor : km.part .cor)
    (hCOR_BANK_STAT_UPL_BUSY : km.fld R.COR.BANK_STAT.UPL_BUSY) (hCOR_UPL_CMD_ID : km.fld R.COR.UPL_CMD.ID)
    (hCOR_UPL_CMD_OP : km.fld R.COR.UPL_CMD.OP) (hCOR_UPL_CMD_SUPERSEDE : km.fld R.COR.UPL_CMD.SUPERSEDE)
    (hCOR_UPL_DONE_ID : km.fld R.COR.UPL_DONE.ID) (hCOR_UPL_DONE_REGIONS : km.fld R.COR.UPL_DONE.REGIONS)
    (hCOR_UPL_DONE_STATUS : km.fld R.COR.UPL_DONE.STATUS) (hCOR_UPL_STAT_QUEUED : km.fld R.COR.UPL_STAT.QUEUED)
    (hCOR_UPL_STAT_RUNNING : km.fld R.COR.UPL_STAT.RUNNING) (hCOR_UPL_STAT_RUN_DONE : km.fld R.COR.UPL_STAT.RUN_DONE)
    (hCOR_UPL_STAT_RUN_ID : km.fld R.COR.UPL_STAT.RUN_ID) (hPG_ERR_ADDR_HI : ∀ a, km.fld (R.PG.ERR_ADDR_HI a))
    (hPG_ERR_ADDR_LO : ∀ a, km.fld (R.PG.ERR_ADDR_LO a)) (hPG_ERR_CODE : ∀ a, km.fld (R.PG.ERR_CODE a))
    (hPG_ERR_COUNT : ∀ a, km.fld (R.PG.ERR_COUNT a)) (hPG_ERR_OVERFLOW : ∀ a, km.fld (R.PG.ERR_OVERFLOW a))
    (hPG_ERR_SOURCE : ∀ a, km.fld (R.PG.ERR_SOURCE a)) (hPG_ERR_VALID : ∀ a, km.fld (R.PG.ERR_VALID a))
    (hPG_EVT_PEND : ∀ a, km.fld (R.PG.EVT_PEND a)) (hTIM_DOM_OFFSET_OFFSET : ∀ a, km.fld (R.TIM.DOM_OFFSET.OFFSET a))
    (hTIM_DOM_RATE_RATE : ∀ a, km.fld (R.TIM.DOM_RATE.RATE a)) (v t : Nat) (s : State) (hs : s.Keeps km pq) : ∀ st, execUplCmdGo v t s = .next st → st.Keeps km pq := by
  unfold execUplCmdGo
  refine runIn_good hs (fun s hs => ?_)
  repeat' first
    | with_reducible assumption
    | with_reducible exact hPG_ERR_ADDR_HI _
    | with_reducible exact hPG_ERR_ADDR_LO _
    | with_reducible exact hPG_ERR_CODE _
    | with_reducible exact hPG_ERR_COUNT _
    | with_reducible exact hPG_ERR_OVERFLOW _
    | with_reducible exact hPG_ERR_SOURCE _
    | with_reducible exact hPG_ERR_VALID _
    | with_reducible exact hPG_EVT_PEND _
    | with_reducible exact hTIM_DOM_OFFSET_OFFSET _
    | with_reducible exact hTIM_DOM_RATE_RATE _
    | (intro _)
    | with_reducible apply State.tick_good
    | with_reducible apply State.uplGo_good

theorem execCopyRegions_good (frc : km.part .frc) (out : km.part .out) (tim : km.part .tim) (mem : km.part .mem)
    (dram : km.part .dram) (cor : km.part .cor) (line : km.part .line) (any : ∀ f, km.fld f) (t : Nat) (s : State)
    (hs : s.Keeps km pq) : ∀ st, execCopyRegions t s = .next st → st.Keeps km pq := by
  unfold execCopyRegions
  refine runIn_good hs (fun s hs => ?_)
  repeat' first
    | with_reducible assumption
    | (with_reducible (intros; exact any _))
    | (intro _)
    | with_reducible apply State.tick_good
    | with_reducible apply State.uplStep_good

theorem execCopyPack_good (frc : km.part .frc) (out : km.part .out) (tim : km.part .tim) (mem : km.part .mem)
    (dram : km.part .dram) (cor : km.part .cor) (line : km.part .line) (any : ∀ f, km.fld f) (t : Nat) (s : State)
    (hs : s.Keeps km pq) : ∀ st, execCopyPack t s = .next st → st.Keeps km pq := by
  unfold execCopyPack
  refine runIn_good hs (fun s hs => ?_)
  repeat' first
    | with_reducible assumption
    | (with_reducible (intros; exact any _))
    | (intro _)
    | with_reducible apply State.tick_good
    | with_reducible apply State.uplStep_good

theorem execCopyPacked_good (frc : km.part .frc) (out : km.part .out) (tim : km.part .tim) (mem : km.part .mem)
    (dram : km.part .dram) (cor : km.part .cor) (line : km.part .line) (any : ∀ f, km.fld f) (t : Nat) (s : State)
    (hs : s.Keeps km pq) : ∀ st, execCopyPacked t s = .next st → st.Keeps km pq := by
  unfold execCopyPacked
  refine runIn_good hs (fun s hs => ?_)
  repeat' first
    | with_reducible assumption
    | (with_reducible (intros; exact any _))
    | (intro _)
    | with_reducible apply State.tick_good
    | with_reducible apply State.uplStep_good

theorem execUnitRecords_good (frc : km.part .frc) (out : km.part .out) (tim : km.part .tim) (mem : km.part .mem)
    (dram : km.part .dram) (cor : km.part .cor) (line : km.part .line) (any : ∀ f, km.fld f) (t : Nat) (s : State)
    (hs : s.Keeps km pq) : ∀ st, execUnitRecords t s = .next st → st.Keeps km pq := by
  unfold execUnitRecords
  refine runIn_good hs (fun s hs => ?_)
  repeat' first
    | with_reducible assumption
    | (with_reducible (intros; exact any _))
    | (intro _)
    | with_reducible apply State.tick_good
    | with_reducible apply State.uplStep_good

theorem execUplCommandEnd_good (frc : km.part .frc) (out : km.part .out) (cor : km.part .cor)
    (hCOR_BANK_STAT_UPL_BUSY : km.fld R.COR.BANK_STAT.UPL_BUSY) (hCOR_UPL_DONE_ID : km.fld R.COR.UPL_DONE.ID)
    (hCOR_UPL_DONE_REGIONS : km.fld R.COR.UPL_DONE.REGIONS) (hCOR_UPL_DONE_STATUS : km.fld R.COR.UPL_DONE.STATUS)
    (hCOR_UPL_STAT_QUEUED : km.fld R.COR.UPL_STAT.QUEUED) (hCOR_UPL_STAT_RUNNING : km.fld R.COR.UPL_STAT.RUNNING)
    (hCOR_UPL_STAT_RUN_DONE : km.fld R.COR.UPL_STAT.RUN_DONE) (hCOR_UPL_STAT_RUN_ID : km.fld R.COR.UPL_STAT.RUN_ID)
    (hPG_ERR_ADDR_HI : ∀ a, km.fld (R.PG.ERR_ADDR_HI a)) (hPG_ERR_ADDR_LO : ∀ a, km.fld (R.PG.ERR_ADDR_LO a))
    (hPG_ERR_CODE : ∀ a, km.fld (R.PG.ERR_CODE a)) (hPG_ERR_COUNT : ∀ a, km.fld (R.PG.ERR_COUNT a))
    (hPG_ERR_OVERFLOW : ∀ a, km.fld (R.PG.ERR_OVERFLOW a)) (hPG_ERR_SOURCE : ∀ a, km.fld (R.PG.ERR_SOURCE a))
    (hPG_ERR_VALID : ∀ a, km.fld (R.PG.ERR_VALID a)) (hPG_EVT_PEND : ∀ a, km.fld (R.PG.EVT_PEND a)) (t : Nat)
    (s : State) (hs : s.Keeps km pq) : ∀ st, execUplCommandEnd t s = .next st → st.Keeps km pq := by
  unfold execUplCommandEnd
  refine runIn_good hs (fun s hs => ?_)
  repeat' first
    | with_reducible assumption
    | with_reducible exact hPG_ERR_ADDR_HI _
    | with_reducible exact hPG_ERR_ADDR_LO _
    | with_reducible exact hPG_ERR_CODE _
    | with_reducible exact hPG_ERR_COUNT _
    | with_reducible exact hPG_ERR_OVERFLOW _
    | with_reducible exact hPG_ERR_SOURCE _
    | with_reducible exact hPG_ERR_VALID _
    | with_reducible exact hPG_EVT_PEND _
    | (intro _)
    | with_reducible apply State.tick_good
    | with_reducible apply State.uplEnd_good

theorem execUplDoneRead_good (frc : km.part .frc) (cor : km.part .cor)
    (hCOR_BANK_STAT_UPL_BUSY : km.fld R.COR.BANK_STAT.UPL_BUSY) (hCOR_UPL_DONE_ID : km.fld R.COR.UPL_DONE.ID)
    (hCOR_UPL_DONE_REGIONS : km.fld R.COR.UPL_DONE.REGIONS) (hCOR_UPL_DONE_STATUS : km.fld R.COR.UPL_DONE.STATUS)
    (hCOR_UPL_STAT_QUEUED : km.fld R.COR.UPL_STAT.QUEUED) (hCOR_UPL_STAT_RUNNING : km.fld R.COR.UPL_STAT.RUNNING)
    (hCOR_UPL_STAT_RUN_DONE : km.fld R.COR.UPL_STAT.RUN_DONE) (hCOR_UPL_STAT_RUN_ID : km.fld R.COR.UPL_STAT.RUN_ID)
    (t : Nat) (s : State) (hs : s.Keeps km pq) : ∀ st, execUplDoneRead t s = .next st → st.Keeps km pq := by
  unfold execUplDoneRead
  refine runIn_good hs (fun s hs => ?_)
  repeat' first
    | with_reducible assumption
    | (intro _)
    | with_reducible apply State.tick_good
    | with_reducible apply State.uplDoneRead_good

theorem execRampStep_good (frc : km.part .frc) (hRCH_CH_MEAS_I : ∀ a, km.fld (R.RCH.CH_MEAS.I a))
    (hRCH_CH_MEAS_V : ∀ a, km.fld (R.RCH.CH_MEAS.V a))
    (hRCH_CH_STAT_AT_TARGET : ∀ a, km.fld (R.RCH.CH_STAT.AT_TARGET a))
    (hRCH_CH_STAT_SET_NOW : ∀ a, km.fld (R.RCH.CH_STAT.SET_NOW a))
    (hRCH_CH_TARGET_FLOOR : ∀ a, km.fld (R.RCH.CH_TARGET.FLOOR a))
    (hRCH_CH_TARGET_NEXT : ∀ a, km.fld (R.RCH.CH_TARGET.NEXT a)) (c mv ma t : Nat) (s : State) (hs : s.Keeps km pq) : ∀ st, execRampStep c mv ma t s = .next st → st.Keeps km pq := by
  unfold execRampStep
  refine runIn_good hs (fun s hs => ?_)
  repeat' first
    | with_reducible assumption
    | with_reducible exact hRCH_CH_MEAS_I _
    | with_reducible exact hRCH_CH_MEAS_V _
    | with_reducible exact hRCH_CH_STAT_AT_TARGET _
    | with_reducible exact hRCH_CH_STAT_SET_NOW _
    | with_reducible exact hRCH_CH_TARGET_FLOOR _
    | with_reducible exact hRCH_CH_TARGET_NEXT _
    | (intro _)
    | with_reducible apply State.tick_good
    | with_reducible apply State.rampStep_good
    | with_reducible apply State.railMeasure_good

theorem State.railReady_good (out : km.part .out) (hPG_EVT_PEND : ∀ a, km.fld (R.PG.EVT_PEND a))
    (hRAI_RAI_READY_READY : km.fld R.RAI.RAI_READY.READY) (hRCH_CH_STAT_STATE : ∀ a, km.fld (R.RCH.CH_STAT.STATE a))
    (s : State) (c : Nat) (hs : s.Keeps km pq) : (State.railReady s c).Keeps km pq := by
  unfold State.railReady
  repeat' first
    | with_reducible assumption
    | with_reducible exact hPG_EVT_PEND _
    | with_reducible exact hRCH_CH_STAT_STATE _
    | (intro _)
    | with_reducible apply Keep.ite
    | with_reducible apply State.setRail_good
    | with_reducible apply State.ev_good

theorem execRailReady_good (frc : km.part .frc) (out : km.part .out) (hPG_EVT_PEND : ∀ a, km.fld (R.PG.EVT_PEND a))
    (hRAI_RAI_READY_READY : km.fld R.RAI.RAI_READY.READY) (hRCH_CH_MEAS_I : ∀ a, km.fld (R.RCH.CH_MEAS.I a))
    (hRCH_CH_MEAS_V : ∀ a, km.fld (R.RCH.CH_MEAS.V a)) (hRCH_CH_STAT_STATE : ∀ a, km.fld (R.RCH.CH_STAT.STATE a))
    (c mv ma t : Nat) (s : State) (hs : s.Keeps km pq) : ∀ st, execRailReady c mv ma t s = .next st → st.Keeps km pq := by
  unfold execRailReady
  refine runIn_good hs (fun s hs => ?_)
  repeat' first
    | with_reducible assumption
    | with_reducible exact hPG_EVT_PEND _
    | with_reducible exact hRCH_CH_MEAS_I _
    | with_reducible exact hRCH_CH_MEAS_V _
    | with_reducible exact hRCH_CH_STAT_STATE _
    | (intro _)
    | with_reducible apply State.tick_good
    | with_reducible apply State.railMeasure_good
    | with_reducible apply State.railReady_good

theorem execDischarged_good (frc : km.part .frc) (out : km.part .out) (tim : km.part .tim) (rai : km.part .rai)
    (hPG_EVT_PEND : ∀ a, km.fld (R.PG.EVT_PEND a)) (hPG_FAULT : ∀ a, km.fld (R.PG.FAULT a))
    (hRAI_RAI_READY_READY : km.fld R.RAI.RAI_READY.READY) (hRCH_CH_CNT_REJECT : ∀ a, km.fld (R.RCH.CH_CNT.REJECT a))
    (hRCH_CH_MEAS_I : ∀ a, km.fld (R.RCH.CH_MEAS.I a)) (hRCH_CH_MEAS_V : ∀ a, km.fld (R.RCH.CH_MEAS.V a))
    (hRCH_CH_STAT_AT_TARGET : ∀ a, km.fld (R.RCH.CH_STAT.AT_TARGET a))
    (hRCH_CH_STAT_CLAMPED : ∀ a, km.fld (R.RCH.CH_STAT.CLAMPED a))
    (hRCH_CH_STAT_DISCHARGED : ∀ a, km.fld (R.RCH.CH_STAT.DISCHARGED a))
    (hRCH_CH_STAT_SET_NOW : ∀ a, km.fld (R.RCH.CH_STAT.SET_NOW a))
    (hRCH_CH_STAT_STATE : ∀ a, km.fld (R.RCH.CH_STAT.STATE a))
    (hRCH_CH_TARGET_FLOOR : ∀ a, km.fld (R.RCH.CH_TARGET.FLOOR a))
    (hRCH_CH_TARGET_NEXT : ∀ a, km.fld (R.RCH.CH_TARGET.NEXT a))
    (hTIM_DOM_OFFSET_OFFSET : ∀ a, km.fld (R.TIM.DOM_OFFSET.OFFSET a))
    (hTIM_DOM_RATE_RATE : ∀ a, km.fld (R.TIM.DOM_RATE.RATE a)) (c mv t : Nat) (s : State) (hs : s.Keeps km pq) : ∀ st, execDischarged c mv t s = .next st → st.Keeps km pq := by
  unfold execDischarged
  refine runIn_good hs (fun s hs => ?_)
  repeat' first
    | with_reducible assumption
    | with_reducible exact hPG_EVT_PEND _
    | with_reducible exact hPG_FAULT _
    | with_reducible exact hRCH_CH_CNT_REJECT _
    | with_reducible exact hRCH_CH_MEAS_I _
    | with_reducible exact hRCH_CH_MEAS_V _
    | with_reducible exact hRCH_CH_STAT_AT_TARGET _
    | with_reducible exact hRCH_CH_STAT_CLAMPED _
    | with_reducible exact hRCH_CH_STAT_DISCHARGED _
    | with_reducible exact hRCH_CH_STAT_SET_NOW _
    | with_reducible exact hRCH_CH_STAT_STATE _
    | with_reducible exact hRCH_CH_TARGET_FLOOR _
    | with_reducible exact hRCH_CH_TARGET_NEXT _
    | with_reducible exact hTIM_DOM_OFFSET_OFFSET _
    | with_reducible exact hTIM_DOM_RATE_RATE _
    | (intro _)
    | with_reducible apply State.tick_good
    | with_reducible apply State.railMeasure_good
    | with_reducible apply State.railDischarged_good

theorem execDisTimeout_good (frc : km.part .frc) (out : km.part .out) (tim : km.part .tim) (mem : km.part .mem)
    (dram : km.part .dram) (rai : km.part .rai) (lfm : km.part .lfm) (line : km.part .line) (any : ∀ f, km.fld f)
    (c mv ma t : Nat) (s : State) (hs : s.Keeps km pq) : ∀ st, execDisTimeout c mv ma t s = .next st → st.Keeps km pq := by
  unfold execDisTimeout
  refine runIn_good hs (fun s hs => ?_)
  repeat' first
    | with_reducible assumption
    | (with_reducible (intros; exact any _))
    | (intro _)
    | with_reducible apply State.tick_good
    | with_reducible apply State.railMeasure_good
    | with_reducible apply State.railFault_good

theorem State.railLimited_good (out : km.part .out) (tim : km.part .tim) (mem : km.part .mem) (dram : km.part .dram)
    (rai : km.part .rai) (lfm : km.part .lfm) (line : km.part .line) (any : ∀ f, km.fld f) (s : State)
    (c cycles : Nat) (hs : s.Keeps km pq) : (State.railLimited s c cycles).Keeps km pq := by
  unfold State.railLimited
  repeat' first
    | with_reducible assumption
    | (with_reducible (intros; exact any _))
    | ((try lift_lets -underBinder); intro x; refine Keep.use (k := km) (q := pq) (s := x) ?_ ?_; (on_goal 1 => dsimp -zeta only [x]); (on_goal 2 => clear_value x; intro _))
    | ((try lift_lets -underBinder); intro x; refine Keep.usePair (k := km) (q := pq) (p := x) ?_ ?_; (on_goal 1 => dsimp -zeta only [x]); (on_goal 2 => clear_value x; intro _))
    | ((try lift_lets -underBinder); intro x; refine Keep.memSt (x := x) ?_; subst x)
    | ((try lift_lets -underBinder); intro x; refine Keep.depSt (x := x) ?_; subst x)
    | ((try lift_lets -underBinder); intro x; clear_value x)
    | (intro _)
    | with_reducible apply Keep.ite
    | with_reducible apply State.count_good
    | with_reducible apply State.railFault_good

theorem execOvercurrent_good (frc : km.part .frc) (out : km.part .out) (tim : km.part .tim) (mem : km.part .mem)
    (dram : km.part .dram) (rai : km.part .rai) (lfm : km.part .lfm) (line : km.part .line) (any : ∀ f, km.fld f)
    (c cycles mv ma t : Nat) (s : State) (hs : s.Keeps km pq) : ∀ st, execOvercurrent c cycles mv ma t s = .next st → st.Keeps km pq := by
  unfold execOvercurrent
  refine runIn_good hs (fun s hs => ?_)
  repeat' first
    | with_reducible assumption
    | (with_reducible (intros; exact any _))
    | (intro _)
    | with_reducible apply State.tick_good
    | with_reducible apply State.railMeasure_good
    | with_reducible apply State.railLimited_good

theorem execOvervoltage_good (frc : km.part .frc) (out : km.part .out) (tim : km.part .tim) (mem : km.part .mem)
    (dram : km.part .dram) (rai : km.part .rai) (lfm : km.part .lfm) (line : km.part .line) (any : ∀ f, km.fld f)
    (c mv ma t : Nat) (s : State) (hs : s.Keeps km pq) : ∀ st, execOvervoltage c mv ma t s = .next st → st.Keeps km pq := by
  unfold execOvervoltage
  refine runIn_good hs (fun s hs => ?_)
  repeat' first
    | with_reducible assumption
    | (with_reducible (intros; exact any _))
    | (intro _)
    | with_reducible apply State.tick_good
    | with_reducible apply State.railMeasure_good
    | with_reducible apply State.railFault_good

theorem execUndervoltage_good (frc : km.part .frc) (out : km.part .out) (tim : km.part .tim) (mem : km.part .mem)
    (dram : km.part .dram) (rai : km.part .rai) (lfm : km.part .lfm) (line : km.part .line) (any : ∀ f, km.fld f)
    (c mv ma t : Nat) (s : State) (hs : s.Keeps km pq) : ∀ st, execUndervoltage c mv ma t s = .next st → st.Keeps km pq := by
  unfold execUndervoltage
  refine runIn_good hs (fun s hs => ?_)
  repeat' first
    | with_reducible assumption
    | (with_reducible (intros; exact any _))
    | (intro _)
    | with_reducible apply State.tick_good
    | with_reducible apply State.railMeasure_good
    | with_reducible apply State.railFault_good

theorem execExternalFault_good (frc : km.part .frc) (out : km.part .out) (tim : km.part .tim) (mem : km.part .mem)
    (dram : km.part .dram) (rai : km.part .rai) (lfm : km.part .lfm) (line : km.part .line) (any : ∀ f, km.fld f)
    (c mv ma t : Nat) (s : State) (hs : s.Keeps km pq) : ∀ st, execExternalFault c mv ma t s = .next st → st.Keeps km pq := by
  unfold execExternalFault
  refine runIn_good hs (fun s hs => ?_)
  repeat' first
    | with_reducible assumption
    | (with_reducible (intros; exact any _))
    | (intro _)
    | with_reducible apply State.tick_good
    | with_reducible apply State.railMeasure_good
    | with_reducible apply State.railFault_good

theorem execClrFault_good (frc : km.part .frc) (out : km.part .out) (tim : km.part .tim) (rai : km.part .rai)
    (hPG_EVT_PEND : ∀ a, km.fld (R.PG.EVT_PEND a)) (hPG_FAULT : ∀ a, km.fld (R.PG.FAULT a))
    (hRAI_RAI_READY_READY : km.fld R.RAI.RAI_READY.READY) (hRAI_RAI_STAT_FAULT : km.fld R.RAI.RAI_STAT.FAULT)
    (hRCH_CH_CNT_REJECT : ∀ a, km.fld (R.RCH.CH_CNT.REJECT a))
    (hRCH_CH_STAT_AT_TARGET : ∀ a, km.fld (R.RCH.CH_STAT.AT_TARGET a))
    (hRCH_CH_STAT_CLAMPED : ∀ a, km.fld (R.RCH.CH_STAT.CLAMPED a))
    (hRCH_CH_STAT_DISCHARGED : ∀ a, km.fld (R.RCH.CH_STAT.DISCHARGED a))
    (hRCH_CH_STAT_FCAUSE : ∀ a, km.fld (R.RCH.CH_STAT.FCAUSE a))
    (hRCH_CH_STAT_SET_NOW : ∀ a, km.fld (R.RCH.CH_STAT.SET_NOW a))
    (hRCH_CH_STAT_STATE : ∀ a, km.fld (R.RCH.CH_STAT.STATE a))
    (hRCH_CH_TARGET_FLOOR : ∀ a, km.fld (R.RCH.CH_TARGET.FLOOR a))
    (hRCH_CH_TARGET_NEXT : ∀ a, km.fld (R.RCH.CH_TARGET.NEXT a))
    (hTIM_DOM_OFFSET_OFFSET : ∀ a, km.fld (R.TIM.DOM_OFFSET.OFFSET a))
    (hTIM_DOM_RATE_RATE : ∀ a, km.fld (R.TIM.DOM_RATE.RATE a)) (c t : Nat) (s : State) (hs : s.Keeps km pq) : ∀ st, execClrFault c t s = .next st → st.Keeps km pq := by
  unfold execClrFault
  refine runIn_good hs (fun s hs => ?_)
  repeat' first
    | with_reducible assumption
    | with_reducible exact hPG_EVT_PEND _
    | with_reducible exact hPG_FAULT _
    | with_reducible exact hRCH_CH_CNT_REJECT _
    | with_reducible exact hRCH_CH_STAT_AT_TARGET _
    | with_reducible exact hRCH_CH_STAT_CLAMPED _
    | with_reducible exact hRCH_CH_STAT_DISCHARGED _
    | with_reducible exact hRCH_CH_STAT_FCAUSE _
    | with_reducible exact hRCH_CH_STAT_SET_NOW _
    | with_reducible exact hRCH_CH_STAT_STATE _
    | with_reducible exact hRCH_CH_TARGET_FLOOR _
    | with_reducible exact hRCH_CH_TARGET_NEXT _
    | with_reducible exact hTIM_DOM_OFFSET_OFFSET _
    | with_reducible exact hTIM_DOM_RATE_RATE _
    | (intro _)
    | with_reducible apply State.tick_good
    | with_reducible apply State.railClear_good

theorem State.auxLimit_good (out : km.part .out) (hPG_EVT_PEND : ∀ a, km.fld (R.PG.EVT_PEND a))
    (hPWR_AUX_STAT_AUX18_LIM : km.fld R.PWR.AUX_STAT.AUX18_LIM)
    (hPWR_AUX_STAT_AUX33_LIM : km.fld R.PWR.AUX_STAT.AUX33_LIM)
    (hPWR_PWR_STAT_AUX18_OK : km.fld R.PWR.PWR_STAT.AUX18_OK)
    (hPWR_PWR_STAT_AUX33_OK : km.fld R.PWR.PWR_STAT.AUX33_OK) (s : State) (k : Nat) (hs : s.Keeps km pq) : (State.auxLimit s k).Keeps km pq := by
  unfold State.auxLimit
  repeat' first
    | with_reducible assumption
    | with_reducible exact hPG_EVT_PEND _
    | (show km.fld _; (try unfold auxOk); (try unfold auxLim); split <;> first | assumption | exact hPG_EVT_PEND _ | exact hPWR_AUX_STAT_AUX18_LIM | exact hPWR_AUX_STAT_AUX33_LIM | exact hPWR_PWR_STAT_AUX18_OK | exact hPWR_PWR_STAT_AUX33_OK)
    | (intro _)
    | with_reducible apply Keep.ite
    | with_reducible apply State.set_good
    | with_reducible apply State.ev_good

theorem State.auxRetry_good (hPWR_AUX_STAT_AUX18_LIM : km.fld R.PWR.AUX_STAT.AUX18_LIM)
    (hPWR_AUX_STAT_AUX33_LIM : km.fld R.PWR.AUX_STAT.AUX33_LIM)
    (hPWR_PWR_STAT_AUX18_OK : km.fld R.PWR.PWR_STAT.AUX18_OK)
    (hPWR_PWR_STAT_AUX33_OK : km.fld R.PWR.PWR_STAT.AUX33_OK) (s : State) (k : Nat) (clear : Bool)
    (hs : s.Keeps km pq) : (State.auxRetry s k clear).Keeps km pq := by
  unfold State.auxRetry
  repeat' first
    | with_reducible assumption
    | (show km.fld _; (try unfold auxOk); (try unfold auxLim); split <;> first | assumption | exact hPWR_AUX_STAT_AUX18_LIM | exact hPWR_AUX_STAT_AUX33_LIM | exact hPWR_PWR_STAT_AUX18_OK | exact hPWR_PWR_STAT_AUX33_OK)
    | (intro _)
    | with_reducible apply Keep.ite
    | with_reducible apply State.set_good

theorem execAuxLimit_good (frc : km.part .frc) (out : km.part .out) (hPG_EVT_PEND : ∀ a, km.fld (R.PG.EVT_PEND a))
    (hPWR_AUX_STAT_AUX18_LIM : km.fld R.PWR.AUX_STAT.AUX18_LIM)
    (hPWR_AUX_STAT_AUX33_LIM : km.fld R.PWR.AUX_STAT.AUX33_LIM)
    (hPWR_PWR_STAT_AUX18_OK : km.fld R.PWR.PWR_STAT.AUX18_OK)
    (hPWR_PWR_STAT_AUX33_OK : km.fld R.PWR.PWR_STAT.AUX33_OK) (k t : Nat) (s : State) (hs : s.Keeps km pq) : ∀ st, execAuxLimit k t s = .next st → st.Keeps km pq := by
  unfold execAuxLimit
  refine run_good hs (fun s hs => ?_)
  repeat' first
    | with_reducible assumption
    | with_reducible exact hPG_EVT_PEND _
    | (intro _)
    | with_reducible apply State.tick_good
    | with_reducible apply State.auxLimit_good

theorem execAuxRetry_good (frc : km.part .frc) (hPWR_AUX_STAT_AUX18_LIM : km.fld R.PWR.AUX_STAT.AUX18_LIM)
    (hPWR_AUX_STAT_AUX33_LIM : km.fld R.PWR.AUX_STAT.AUX33_LIM)
    (hPWR_PWR_STAT_AUX18_OK : km.fld R.PWR.PWR_STAT.AUX18_OK)
    (hPWR_PWR_STAT_AUX33_OK : km.fld R.PWR.PWR_STAT.AUX33_OK) (k : Nat) (clear : Bool) (t : Nat) (s : State)
    (hs : s.Keeps km pq) : ∀ st, execAuxRetry k clear t s = .next st → st.Keeps km pq := by
  unfold execAuxRetry
  refine run_good hs (fun s hs => ?_)
  repeat' first
    | with_reducible assumption
    | (intro _)
    | with_reducible apply State.tick_good
    | with_reducible apply State.auxRetry_good

theorem State.latchClear_good (out : km.part .out) (tim : km.part .tim)
    (hLFM_LATCH_HI_ZONES : km.fld R.LFM.LATCH_HI.ZONES) (hLFM_LATCH_LO_ZONES : km.fld R.LFM.LATCH_LO.ZONES)
    (hLFM_LFM_STAT_BLIND : km.fld R.LFM.LFM_STAT.BLIND) (hLFM_LFM_STAT_TILE_DARK : km.fld R.LFM.LFM_STAT.TILE_DARK)
    (hLFM_LFM_STAT_ZONES : km.fld R.LFM.LFM_STAT.ZONES) (hPG_EVT_PEND : ∀ a, km.fld (R.PG.EVT_PEND a))
    (hPG_FAULT : ∀ a, km.fld (R.PG.FAULT a)) (hTIM_DOM_OFFSET_OFFSET : ∀ a, km.fld (R.TIM.DOM_OFFSET.OFFSET a))
    (hTIM_DOM_RATE_RATE : ∀ a, km.fld (R.TIM.DOM_RATE.RATE a))
    (hZON_ZONE_FAULTS_COUNT : ∀ a, km.fld (R.ZON.ZONE_FAULTS.COUNT a)) (s : State) (mask : Nat) (hs : s.Keeps km pq)
    : (State.latchClear s mask).Keeps km pq := by
  unfold State.latchClear
  repeat' first
    | with_reducible assumption
    | with_reducible exact hPG_EVT_PEND _
    | with_reducible exact hPG_FAULT _
    | with_reducible exact hTIM_DOM_OFFSET_OFFSET _
    | with_reducible exact hTIM_DOM_RATE_RATE _
    | with_reducible exact hZON_ZONE_FAULTS_COUNT _
    | (intro _)
    | with_reducible apply Keep.ite
    | with_reducible apply State.forN_good
    | with_reducible apply State.putBit64_good
    | with_reducible apply State.evalZone_good
    | with_reducible apply State.showZones_good

theorem execLatchClear_good (frc : km.part .frc) (out : km.part .out) (tim : km.part .tim)
    (hLFM_LATCH_HI_ZONES : km.fld R.LFM.LATCH_HI.ZONES) (hLFM_LATCH_LO_ZONES : km.fld R.LFM.LATCH_LO.ZONES)
    (hLFM_LFM_STAT_BLIND : km.fld R.LFM.LFM_STAT.BLIND) (hLFM_LFM_STAT_TILE_DARK : km.fld R.LFM.LFM_STAT.TILE_DARK)
    (hLFM_LFM_STAT_ZONES : km.fld R.LFM.LFM_STAT.ZONES) (hPG_EVT_PEND : ∀ a, km.fld (R.PG.EVT_PEND a))
    (hPG_FAULT : ∀ a, km.fld (R.PG.FAULT a)) (hTIM_DOM_OFFSET_OFFSET : ∀ a, km.fld (R.TIM.DOM_OFFSET.OFFSET a))
    (hTIM_DOM_RATE_RATE : ∀ a, km.fld (R.TIM.DOM_RATE.RATE a))
    (hZON_ZONE_FAULTS_COUNT : ∀ a, km.fld (R.ZON.ZONE_FAULTS.COUNT a)) (mask t : Nat) (s : State)
    (hs : s.Keeps km pq) : ∀ st, execLatchClear mask t s = .next st → st.Keeps km pq := by
  unfold execLatchClear
  refine runIn_good hs (fun s hs => ?_)
  repeat' first
    | with_reducible assumption
    | with_reducible exact hPG_EVT_PEND _
    | with_reducible exact hPG_FAULT _
    | with_reducible exact hTIM_DOM_OFFSET_OFFSET _
    | with_reducible exact hTIM_DOM_RATE_RATE _
    | with_reducible exact hZON_ZONE_FAULTS_COUNT _
    | (intro _)
    | with_reducible apply State.tick_good
    | with_reducible apply State.latchClear_good

theorem State.mapWrite_good (out : km.part .out) (tim : km.part .tim) (mem : km.part .mem) (dram : km.part .dram)
    (lfm : km.part .lfm) (line : km.part .line) (any : ∀ f, km.fld f) (s : State) (o n v : Nat) (hs : s.Keeps km pq)
    : (State.mapWrite s o n v).Keeps km pq := by
  unfold State.mapWrite
  repeat' first
    | with_reducible assumption
    | (with_reducible (intros; exact any _))
    | (intro _)
    | with_reducible apply State.faultWrite_good
    | with_reducible apply State.memSettle_good

theorem execFaultMapWrite_good (frc : km.part .frc) (out : km.part .out) (tim : km.part .tim) (mem : km.part .mem)
    (dram : km.part .dram) (lfm : km.part .lfm) (line : km.part .line) (any : ∀ f, km.fld f) (ofs n v t : Nat)
    (s : State) (hs : s.Keeps km pq) : ∀ st, execFaultMapWrite ofs n v t s = .next st → st.Keeps km pq := by
  unfold execFaultMapWrite
  refine runIn_good hs (fun s hs => ?_)
  repeat' first
    | with_reducible assumption
    | (with_reducible (intros; exact any _))
    | (intro _)
    | with_reducible apply State.tick_good
    | with_reducible apply State.mapWrite_good

end Sys2Proof.Machine
end

