-- ==== Sys2Proof/Laws/KeepsStream.lean ====
section
/-!
SUPPORT. Every function of Machine/Stream.lean changes what the hypotheses of its lemma name, and nothing else.
-/
namespace Sys2Proof.Machine
set_option Elab.async false
set_option linter.unusedVariables false
set_option linter.unusedTactic false
set_option linter.unreachableTactic false

variable {km : May} {pq : State}

theorem State.setStream_good (line : km.part .line) (s : State) (p : Nat) (x : StreamSt) (hs : s.Keeps km pq) : (State.setStream s p x).Keeps km pq := by
  unfold State.setStream
  repeat' first
    | with_reducible assumption
    | ((try lift_lets -underBinder); intro x; refine Keep.use (k := km) (q := pq) (s := x) ?_ ?_; (on_goal 1 => dsimp -zeta only [x]); (on_goal 2 => clear_value x; intro _))
    | ((try lift_lets -underBinder); intro x; refine Keep.usePair (k := km) (q := pq) (p := x) ?_ ?_; (on_goal 1 => dsimp -zeta only [x]); (on_goal 2 => clear_value x; intro _))
    | ((try lift_lets -underBinder); intro x; refine Keep.memSt (x := x) ?_; subst x)
    | ((try lift_lets -underBinder); intro x; refine Keep.depSt (x := x) ?_; subst x)
    | ((try lift_lets -underBinder); intro x; clear_value x)
    | (intro _)
    | with_reducible apply Keep.ite
    | (simp -zeta only [Keep.mk_iff]; with_reducible refine Keep.upd ?_ rfl ?_; on_goal 2 => (and_intros <;> with_reducible first | exact .inl rfl | exact .inl ⟨rfl, rfl, rfl⟩ | exact .inr ‹_› | exact Nat.le_refl _ | exact Nat.le_add_right _ _))

theorem State.unstage_good (tim : km.part .tim) (any : ∀ f, km.fld f) (s : State) (b : Nat) (hs : s.Keeps km pq) : (s.unstage b).Keeps km pq := by
  unfold State.unstage
  split
  · exact hs
  · apply State.commitEnd_good <;> try (first | assumption | (intros; exact any _))
    refine Keep.mk_iff.2 <| Keep.upd (s := s) hs rfl ?_
    and_intros <;> try first | exact .inl rfl | exact .inl ⟨rfl, rfl, rfl⟩ | exact Nat.le_refl _
    refine .inr ⟨any, fun _ => ?_⟩
    generalize s.force.filter _ = l
    have : ∀ (m : List (Nat × Nat)), keysRise m → keysRise (l.foldl (fun l e => putD l e.1 e.2 (e.2 + 1)) m) := by
      induction l with
      | nil => exact fun _ h => h
      | cons e r ih => exact fun m h => ih _ (putD_rise h)
    exact this _ (rise_filter _ hs.1)

theorem State.dropStaged_good (out : km.part .out) (tim : km.part .tim) (map : km.part .map) (cmp : km.part .cmp)
    (any : ∀ f, km.fld f) (s : State) (hs : s.Keeps km pq) : (State.dropStaged s).Keeps km pq := by
  unfold State.dropStaged
  repeat' first
    | with_reducible assumption
    | (with_reducible (intros; exact any _))
    | ((try lift_lets -underBinder); intro x; refine Keep.use (k := km) (q := pq) (s := x) ?_ ?_; (on_goal 1 => dsimp -zeta only [x]); (on_goal 2 => clear_value x; intro _))
    | ((try lift_lets -underBinder); intro x; refine Keep.usePair (k := km) (q := pq) (p := x) ?_ ?_; (on_goal 1 => dsimp -zeta only [x]); (on_goal 2 => clear_value x; intro _))
    | ((try lift_lets -underBinder); intro x; refine Keep.memSt (x := x) ?_; subst x)
    | ((try lift_lets -underBinder); intro x; refine Keep.depSt (x := x) ?_; subst x)
    | ((try lift_lets -underBinder); intro x; clear_value x)
    | (intro _)
    | with_reducible apply State.unstage_good
    | with_reducible apply State.putModeNext_good
    | with_reducible apply State.evaluate_good
    | (simp -zeta only [Keep.mk_iff]; with_reducible refine Keep.upd ?_ rfl ?_; on_goal 2 => (and_intros <;> with_reducible first | exact .inl rfl | exact .inl ⟨rfl, rfl, rfl⟩ | exact .inr ‹_› | exact Nat.le_refl _ | exact Nat.le_add_right _ _))
    | with_reducible apply Keep.foldl

theorem State.toSyncing_good (rdn : km.part .rdn) (hRDN_RDN_STAT_STATE : km.fld R.RDN.RDN_STAT.STATE) (s : State)
    (hs : s.Keeps km pq) : (State.toSyncing s).Keeps km pq := by
  unfold State.toSyncing
  repeat' first
    | with_reducible assumption
    | ((try lift_lets -underBinder); intro x; refine Keep.use (k := km) (q := pq) (s := x) ?_ ?_; (on_goal 1 => dsimp -zeta only [x]); (on_goal 2 => clear_value x; intro _))
    | ((try lift_lets -underBinder); intro x; refine Keep.usePair (k := km) (q := pq) (p := x) ?_ ?_; (on_goal 1 => dsimp -zeta only [x]); (on_goal 2 => clear_value x; intro _))
    | ((try lift_lets -underBinder); intro x; refine Keep.memSt (x := x) ?_; subst x)
    | ((try lift_lets -underBinder); intro x; refine Keep.depSt (x := x) ?_; subst x)
    | ((try lift_lets -underBinder); intro x; clear_value x)
    | (intro _)
    | with_reducible apply State.set_good
    | (simp -zeta only [Keep.mk_iff]; with_reducible refine Keep.upd ?_ rfl ?_; on_goal 2 => (and_intros <;> with_reducible first | exact .inl rfl | exact .inl ⟨rfl, rfl, rfl⟩ | exact .inr ‹_› | exact Nat.le_refl _ | exact Nat.le_add_right _ _))

theorem State.depose_good (out : km.part .out) (tim : km.part .tim) (map : km.part .map) (cmp : km.part .cmp)
    (rdn : km.part .rdn) (any : ∀ f, km.fld f) (s : State) (hs : s.Keeps km pq) : (State.depose s).Keeps km pq := by
  unfold State.depose
  repeat' first
    | with_reducible assumption
    | (with_reducible (intros; exact any _))
    | (intro _)
    | with_reducible apply State.toSyncing_good
    | with_reducible apply State.dropStaged_good
    | with_reducible apply State.ev_good

theorem State.syncLost_good (out : km.part .out) (rdn : km.part .rdn) (hPG_EVT_PEND : ∀ a, km.fld (R.PG.EVT_PEND a))
    (hRDN_RDN_STAT_STATE : km.fld R.RDN.RDN_STAT.STATE) (s : State) (hs : s.Keeps km pq) : (State.syncLost s).Keeps km pq := by
  unfold State.syncLost
  repeat' first
    | with_reducible assumption
    | with_reducible exact hPG_EVT_PEND _
    | (intro _)
    | with_reducible apply Keep.ite
    | with_reducible apply State.toSyncing_good
    | with_reducible apply State.ev_good

theorem State.takeLead_good (out : km.part .out) (rdn : km.part .rdn) (hPG_EVT_PEND : ∀ a, km.fld (R.PG.EVT_PEND a))
    (hRDN_RDN_STAT_LAST_CAUSE : km.fld R.RDN.RDN_STAT.LAST_CAUSE) (hRDN_RDN_STAT_STATE : km.fld R.RDN.RDN_STAT.STATE)
    (hRDN_SWITCH_CNT_COUNT : km.fld R.RDN.SWITCH_CNT.COUNT) (s : State) (cause : Nat) (hs : s.Keeps km pq) : (State.takeLead s cause).Keeps km pq := by
  unfold State.takeLead
  repeat' first
    | with_reducible assumption
    | with_reducible exact hPG_EVT_PEND _
    | ((try lift_lets -underBinder); intro x; refine Keep.use (k := km) (q := pq) (s := x) ?_ ?_; (on_goal 1 => dsimp -zeta only [x]); (on_goal 2 => clear_value x; intro _))
    | ((try lift_lets -underBinder); intro x; refine Keep.usePair (k := km) (q := pq) (p := x) ?_ ?_; (on_goal 1 => dsimp -zeta only [x]); (on_goal 2 => clear_value x; intro _))
    | ((try lift_lets -underBinder); intro x; refine Keep.memSt (x := x) ?_; subst x)
    | ((try lift_lets -underBinder); intro x; refine Keep.depSt (x := x) ?_; subst x)
    | ((try lift_lets -underBinder); intro x; clear_value x)
    | (intro _)
    | with_reducible apply State.set_good
    | with_reducible apply State.count_good
    | with_reducible apply State.ev_good
    | (simp -zeta only [Keep.mk_iff]; with_reducible refine Keep.upd ?_ rfl ?_; on_goal 2 => (and_intros <;> with_reducible first | exact .inl rfl | exact .inl ⟨rfl, rfl, rfl⟩ | exact .inr ‹_› | exact Nat.le_refl _ | exact Nat.le_add_right _ _))

theorem State.leadFails_good (out : km.part .out) (rdn : km.part .rdn) (hPG_EVT_PEND : ∀ a, km.fld (R.PG.EVT_PEND a))
    (hRDN_RDN_STAT_LAST_CAUSE : km.fld R.RDN.RDN_STAT.LAST_CAUSE) (hRDN_RDN_STAT_STATE : km.fld R.RDN.RDN_STAT.STATE)
    (hRDN_SWITCH_CNT_COUNT : km.fld R.RDN.SWITCH_CNT.COUNT) (s : State) (cause : Nat) (hs : s.Keeps km pq) : (State.leadFails s cause).Keeps km pq := by
  unfold State.leadFails
  repeat' first
    | with_reducible assumption
    | with_reducible exact hPG_EVT_PEND _
    | ((try lift_lets -underBinder); intro x; refine Keep.use (k := km) (q := pq) (s := x) ?_ ?_; (on_goal 1 => dsimp -zeta only [x]); (on_goal 2 => clear_value x; intro _))
    | ((try lift_lets -underBinder); intro x; refine Keep.usePair (k := km) (q := pq) (p := x) ?_ ?_; (on_goal 1 => dsimp -zeta only [x]); (on_goal 2 => clear_value x; intro _))
    | ((try lift_lets -underBinder); intro x; refine Keep.memSt (x := x) ?_; subst x)
    | ((try lift_lets -underBinder); intro x; refine Keep.depSt (x := x) ?_; subst x)
    | ((try lift_lets -underBinder); intro x; clear_value x)
    | (intro _)
    | with_reducible apply Keep.ite
    | with_reducible apply State.takeLead_good
    | with_reducible apply State.ev_good

theorem State.redunChanged_good (line : km.part .line) (rdn : km.part .rdn)
    (hRDN_RDN_STAT_STATE : km.fld R.RDN.RDN_STAT.STATE) (s : State) (dual : Bool) (hs : s.Keeps km pq) : (State.redunChanged s dual).Keeps km pq := by
  unfold State.redunChanged
  repeat' first
    | with_reducible assumption
    | ((try lift_lets -underBinder); intro x; refine Keep.use (k := km) (q := pq) (s := x) ?_ ?_; (on_goal 1 => dsimp -zeta only [x]); (on_goal 2 => clear_value x; intro _))
    | ((try lift_lets -underBinder); intro x; refine Keep.usePair (k := km) (q := pq) (p := x) ?_ ?_; (on_goal 1 => dsimp -zeta only [x]); (on_goal 2 => clear_value x; intro _))
    | ((try lift_lets -underBinder); intro x; refine Keep.memSt (x := x) ?_; subst x)
    | ((try lift_lets -underBinder); intro x; refine Keep.depSt (x := x) ?_; subst x)
    | ((try lift_lets -underBinder); intro x; clear_value x)
    | (intro _)
    | with_reducible apply Keep.ite
    | with_reducible apply State.set_good
    | with_reducible apply State.toSyncing_good
    | (simp -zeta only [Keep.mk_iff]; with_reducible refine Keep.upd ?_ rfl ?_; on_goal 2 => (and_intros <;> with_reducible first | exact .inl rfl | exact .inl ⟨rfl, rfl, rfl⟩ | exact .inr ‹_› | exact Nat.le_refl _ | exact Nat.le_add_right _ _))

theorem State.setRxView_good (tim : km.part .tim) (line : km.part .line)
    (hTIM_DOM_OFFSET_OFFSET : ∀ a, km.fld (R.TIM.DOM_OFFSET.OFFSET a))
    (hTIM_DOM_RATE_RATE : ∀ a, km.fld (R.TIM.DOM_RATE.RATE a)) (s : State) (x : ViewRx) (hs : s.Keeps km pq) : (State.setRxView s x).Keeps km pq := by
  unfold State.setRxView
  repeat' first
    | with_reducible assumption
    | with_reducible exact hTIM_DOM_OFFSET_OFFSET _
    | with_reducible exact hTIM_DOM_RATE_RATE _
    | ((try lift_lets -underBinder); intro x; refine Keep.use (k := km) (q := pq) (s := x) ?_ ?_; (on_goal 1 => dsimp -zeta only [x]); (on_goal 2 => clear_value x; intro _))
    | ((try lift_lets -underBinder); intro x; refine Keep.usePair (k := km) (q := pq) (p := x) ?_ ?_; (on_goal 1 => dsimp -zeta only [x]); (on_goal 2 => clear_value x; intro _))
    | ((try lift_lets -underBinder); intro x; refine Keep.memSt (x := x) ?_; subst x)
    | ((try lift_lets -underBinder); intro x; refine Keep.depSt (x := x) ?_; subst x)
    | ((try lift_lets -underBinder); intro x; clear_value x)
    | (intro _)
    | with_reducible apply State.filter_good
    | (simp -zeta only [Keep.mk_iff]; with_reducible refine Keep.upd ?_ rfl ?_; on_goal 2 => (and_intros <;> with_reducible first | exact .inl rfl | exact .inl ⟨rfl, rfl, rfl⟩ | exact .inr ‹_› | exact Nat.le_refl _ | exact Nat.le_add_right _ _))

theorem State.lostRow_good (out : km.part .out) (tim : km.part .tim) (mem : km.part .mem) (dram : km.part .dram)
    (cor : km.part .cor) (line : km.part .line) (hLOG_LOG_ADDR_LO_ADDR : ∀ a, km.fld (R.LOG.LOG_ADDR_LO.ADDR a))
    (hLOG_LOG_INFO_ADDR_HI : ∀ a, km.fld (R.LOG.LOG_INFO.ADDR_HI a))
    (hLOG_LOG_INFO_ARRAY : ∀ a, km.fld (R.LOG.LOG_INFO.ARRAY a))
    (hLOG_LOG_INFO_BYTES : ∀ a, km.fld (R.LOG.LOG_INFO.BYTES a))
    (hLOG_LOG_INFO_CHANNEL : ∀ a, km.fld (R.LOG.LOG_INFO.CHANNEL a))
    (hLOG_LOG_INFO_CODE : ∀ a, km.fld (R.LOG.LOG_INFO.CODE a))
    (hLOG_LOG_INFO_PORT : ∀ a, km.fld (R.LOG.LOG_INFO.PORT a))
    (hLOG_LOG_INFO_SRAM : ∀ a, km.fld (R.LOG.LOG_INFO.SRAM a))
    (hLOG_LOG_TIME_HI_NS : ∀ a, km.fld (R.LOG.LOG_TIME_HI.NS a))
    (hLOG_LOG_TIME_LO_NS : ∀ a, km.fld (R.LOG.LOG_TIME_LO.NS a))
    (hMEM_CH_STAT_FILLED : ∀ a, km.fld (R.MEM.CH_STAT.FILLED a))
    (hMEM_CH_STAT_MIRROR_OK : ∀ a, km.fld (R.MEM.CH_STAT.MIRROR_OK a))
    (hMEM_CH_STAT_STATE : ∀ a, km.fld (R.MEM.CH_STAT.STATE a))
    (hPAR_CHK_CTRL_INJ_ARM : km.fld R.PAR.CHK_CTRL.INJ_ARM)
    (hPAR_DRAM_ERR_CNT_COUNT : km.fld R.PAR.DRAM_ERR_CNT.COUNT) (hPAR_LOG_STAT_NEXT : km.fld R.PAR.LOG_STAT.NEXT)
    (hPAR_LOG_STAT_TOTAL : km.fld R.PAR.LOG_STAT.TOTAL) (hPAR_LOG_STAT_WRAPPED : km.fld R.PAR.LOG_STAT.WRAPPED)
    (hPAR_MIRROR_FIX_CNT_COUNT : km.fld R.PAR.MIRROR_FIX_CNT.COUNT)
    (hPG_ERR_ADDR_HI : ∀ a, km.fld (R.PG.ERR_ADDR_HI a)) (hPG_ERR_ADDR_LO : ∀ a, km.fld (R.PG.ERR_ADDR_LO a))
    (hPG_ERR_CODE : ∀ a, km.fld (R.PG.ERR_CODE a)) (hPG_ERR_COUNT : ∀ a, km.fld (R.PG.ERR_COUNT a))
    (hPG_ERR_OVERFLOW : ∀ a, km.fld (R.PG.ERR_OVERFLOW a)) (hPG_ERR_SOURCE : ∀ a, km.fld (R.PG.ERR_SOURCE a))
    (hPG_ERR_VALID : ∀ a, km.fld (R.PG.ERR_VALID a)) (hPG_EVT_PEND : ∀ a, km.fld (R.PG.EVT_PEND a))
    (hSCN_ROW_REPEAT_CNT_COUNT : km.fld R.SCN.ROW_REPEAT_CNT.COUNT)
    (hTIM_DOM_OFFSET_OFFSET : ∀ a, km.fld (R.TIM.DOM_OFFSET.OFFSET a))
    (hTIM_DOM_RATE_RATE : ∀ a, km.fld (R.TIM.DOM_RATE.RATE a)) (s : State) (v y : Nat) (hs : s.Keeps km pq) : (State.lostRow s v y).Keeps km pq := by
  unfold State.lostRow
  repeat' first
    | with_reducible assumption
    | with_reducible exact hLOG_LOG_ADDR_LO_ADDR _
    | with_reducible exact hLOG_LOG_INFO_ADDR_HI _
    | with_reducible exact hLOG_LOG_INFO_ARRAY _
    | with_reducible exact hLOG_LOG_INFO_BYTES _
    | with_reducible exact hLOG_LOG_INFO_CHANNEL _
    | with_reducible exact hLOG_LOG_INFO_CODE _
    | with_reducible exact hLOG_LOG_INFO_PORT _
    | with_reducible exact hLOG_LOG_INFO_SRAM _
    | with_reducible exact hLOG_LOG_TIME_HI_NS _
    | with_reducible exact hLOG_LOG_TIME_LO_NS _
    | with_reducible exact hMEM_CH_STAT_FILLED _
    | with_reducible exact hMEM_CH_STAT_MIRROR_OK _
    | with_reducible exact hMEM_CH_STAT_STATE _
    | with_reducible exact hPG_ERR_ADDR_HI _
    | with_reducible exact hPG_ERR_ADDR_LO _
    | with_reducible exact hPG_ERR_CODE _
    | with_reducible exact hPG_ERR_COUNT _
    | with_reducible exact hPG_ERR_OVERFLOW _
    | with_reducible exact hPG_ERR_SOURCE _
    | with_reducible exact hPG_ERR_VALID _
    | with_reducible exact hPG_EVT_PEND _
    | with_reducible exact hTIM_DOM_OFFSET_OFFSET _
    | with_reducible exact hTIM_DOM_RATE_RATE _
    | ((try lift_lets -underBinder); intro x; refine Keep.use (k := km) (q := pq) (s := x) ?_ ?_; (on_goal 1 => dsimp -zeta only [x]); (on_goal 2 => clear_value x; intro _))
    | ((try lift_lets -underBinder); intro x; refine Keep.usePair (k := km) (q := pq) (p := x) ?_ ?_; (on_goal 1 => dsimp -zeta only [x]); (on_goal 2 => clear_value x; intro _))
    | ((try lift_lets -underBinder); intro x; refine Keep.memSt (x := x) ?_; subst x)
    | ((try lift_lets -underBinder); intro x; refine Keep.depSt (x := x) ?_; subst x)
    | ((try lift_lets -underBinder); intro x; clear_value x)
    | (intro _)
    | with_reducible apply Keep.ite
    | with_reducible apply Keep.ite1
    | dsimp -zeta only
    | with_reducible apply State.readLamps_good
    | with_reducible apply State.keepMax_good
    | with_reducible apply State.writeLamps_good
    | with_reducible apply State.count_good
    | with_reducible apply State.setRxView_good
    | split
    | with_reducible refine Keep.fst (by assumption) ?_
    | (simp -zeta only [Keep.mk_iff]; with_reducible refine Keep.upd ?_ rfl ?_; on_goal 2 => (and_intros <;> with_reducible first | exact .inl rfl | exact .inl ⟨rfl, rfl, rfl⟩ | exact .inr ‹_› | exact Nat.le_refl _ | exact Nat.le_add_right _ _))
    | with_reducible apply Keep.foldl

theorem State.takeRow_good (out : km.part .out) (tim : km.part .tim) (mem : km.part .mem) (dram : km.part .dram)
    (scn : km.part .scn) (cor : km.part .cor) (line : km.part .line) (any : ∀ f, km.fld f) (s : State)
    (v y bits : Nat) (bad : List Nat) (hs : s.Keeps km pq) : (State.takeRow s v y bits bad).Keeps km pq := by
  unfold State.takeRow
  repeat' first
    | with_reducible assumption
    | (with_reducible (intros; exact any _))
    | ((try lift_lets -underBinder); intro x; refine Keep.use (k := km) (q := pq) (s := x) ?_ ?_; (on_goal 1 => dsimp -zeta only [x]); (on_goal 2 => clear_value x; intro _))
    | ((try lift_lets -underBinder); intro x; refine Keep.usePair (k := km) (q := pq) (p := x) ?_ ?_; (on_goal 1 => dsimp -zeta only [x]); (on_goal 2 => clear_value x; intro _))
    | ((try lift_lets -underBinder); intro x; refine Keep.memSt (x := x) ?_; subst x)
    | ((try lift_lets -underBinder); intro x; refine Keep.depSt (x := x) ?_; subst x)
    | ((try lift_lets -underBinder); intro x; clear_value x)
    | (intro _)
    | with_reducible apply Keep.ite
    | with_reducible apply State.setRxView_good
    | with_reducible apply State.correctRow_good
    | with_reducible apply State.memSettle_good
    | with_reducible apply State.bandRow_good
    | split
    | (simp -zeta only [Keep.mk_iff]; with_reducible refine Keep.upd ?_ rfl ?_; on_goal 2 => (and_intros <;> with_reducible first | exact .inl rfl | exact .inl ⟨rfl, rfl, rfl⟩ | exact .inr ‹_› | exact Nat.le_refl _ | exact Nat.le_add_right _ _))

theorem State.maybeBegin_good (out : km.part .out) (tim : km.part .tim) (cor : km.part .cor)
    (hCOR_ZONE_SUBST_HI_ZONES : km.fld R.COR.ZONE_SUBST_HI.ZONES)
    (hCOR_ZONE_SUBST_LO_ZONES : km.fld R.COR.ZONE_SUBST_LO.ZONES)
    (hCOR_ZONE_TEMP_SUBST : ∀ a, km.fld (R.COR.ZONE_TEMP.SUBST a))
    (hCOR_ZONE_TEMP_T : ∀ a, km.fld (R.COR.ZONE_TEMP.T a)) (hPG_EVT_PEND : ∀ a, km.fld (R.PG.EVT_PEND a))
    (hTIM_DOM_OFFSET_OFFSET : ∀ a, km.fld (R.TIM.DOM_OFFSET.OFFSET a))
    (hTIM_DOM_RATE_RATE : ∀ a, km.fld (R.TIM.DOM_RATE.RATE a)) (s : State) (hs : s.Keeps km pq) : (State.maybeBegin s).Keeps km pq := by
  unfold State.maybeBegin
  repeat' first
    | with_reducible assumption
    | with_reducible exact hCOR_ZONE_TEMP_SUBST _
    | with_reducible exact hCOR_ZONE_TEMP_T _
    | with_reducible exact hPG_EVT_PEND _
    | with_reducible exact hTIM_DOM_OFFSET_OFFSET _
    | with_reducible exact hTIM_DOM_RATE_RATE _
    | (intro _)
    | with_reducible apply Keep.ite
    | with_reducible apply State.beginPass_good

theorem State.viewDark_good (out : km.part .out) (scn : km.part .scn) (rai : km.part .rai)
    (hPG_EVT_PEND : ∀ a, km.fld (R.PG.EVT_PEND a)) (hRCH_CH_CNT_REJECT : ∀ a, km.fld (R.RCH.CH_CNT.REJECT a))
    (hRCH_CH_DMAX_NEXT : ∀ a, km.fld (R.RCH.CH_DMAX.NEXT a))
    (hRCH_CH_STAT_AT_TARGET : ∀ a, km.fld (R.RCH.CH_STAT.AT_TARGET a))
    (hRCH_CH_TARGET_FLOOR : ∀ a, km.fld (R.RCH.CH_TARGET.FLOOR a))
    (hRCH_CH_TARGET_NEXT : ∀ a, km.fld (R.RCH.CH_TARGET.NEXT a)) (s : State) (v : Nat) (hs : s.Keeps km pq) : (State.viewDark s v).Keeps km pq := by
  unfold State.viewDark
  repeat' first
    | with_reducible assumption
    | with_reducible exact hPG_EVT_PEND _
    | with_reducible exact hRCH_CH_CNT_REJECT _
    | with_reducible exact hRCH_CH_DMAX_NEXT _
    | with_reducible exact hRCH_CH_STAT_AT_TARGET _
    | with_reducible exact hRCH_CH_TARGET_FLOOR _
    | with_reducible exact hRCH_CH_TARGET_NEXT _
    | ((try lift_lets -underBinder); intro x; refine Keep.use (k := km) (q := pq) (s := x) ?_ ?_; (on_goal 1 => dsimp -zeta only [x]); (on_goal 2 => clear_value x; intro _))
    | ((try lift_lets -underBinder); intro x; refine Keep.usePair (k := km) (q := pq) (p := x) ?_ ?_; (on_goal 1 => dsimp -zeta only [x]); (on_goal 2 => clear_value x; intro _))
    | ((try lift_lets -underBinder); intro x; refine Keep.memSt (x := x) ?_; subst x)
    | ((try lift_lets -underBinder); intro x; refine Keep.depSt (x := x) ?_; subst x)
    | ((try lift_lets -underBinder); intro x; clear_value x)
    | (intro _)
    | with_reducible apply Keep.ite
    | with_reducible apply State.raiTake_good
    | (simp -zeta only [Keep.mk_iff]; with_reducible refine Keep.upd ?_ rfl ?_; on_goal 2 => (and_intros <;> with_reducible first | exact .inl rfl | exact .inl ⟨rfl, rfl, rfl⟩ | exact .inr ‹_› | exact Nat.le_refl _ | exact Nat.le_add_right _ _))

theorem State.openView_good (out : km.part .out) (tim : km.part .tim) (scn : km.part .scn) (cor : km.part .cor)
    (rai : km.part .rai) (line : km.part .line) (hCOR_ZONE_SUBST_HI_ZONES : km.fld R.COR.ZONE_SUBST_HI.ZONES)
    (hCOR_ZONE_SUBST_LO_ZONES : km.fld R.COR.ZONE_SUBST_LO.ZONES)
    (hCOR_ZONE_TEMP_SUBST : ∀ a, km.fld (R.COR.ZONE_TEMP.SUBST a))
    (hCOR_ZONE_TEMP_T : ∀ a, km.fld (R.COR.ZONE_TEMP.T a)) (hPG_EVT_PEND : ∀ a, km.fld (R.PG.EVT_PEND a))
    (hRCH_CH_CNT_REJECT : ∀ a, km.fld (R.RCH.CH_CNT.REJECT a))
    (hRCH_CH_DMAX_NEXT : ∀ a, km.fld (R.RCH.CH_DMAX.NEXT a))
    (hRCH_CH_STAT_AT_TARGET : ∀ a, km.fld (R.RCH.CH_STAT.AT_TARGET a))
    (hRCH_CH_TARGET_FLOOR : ∀ a, km.fld (R.RCH.CH_TARGET.FLOOR a))
    (hRCH_CH_TARGET_NEXT : ∀ a, km.fld (R.RCH.CH_TARGET.NEXT a))
    (hTIM_DOM_OFFSET_OFFSET : ∀ a, km.fld (R.TIM.DOM_OFFSET.OFFSET a))
    (hTIM_DOM_RATE_RATE : ∀ a, km.fld (R.TIM.DOM_RATE.RATE a)) (s : State) (v : Nat) (dark : Bool)
    (hs : s.Keeps km pq) : (State.openView s v dark).Keeps km pq := by
  unfold State.openView
  repeat' first
    | with_reducible assumption
    | with_reducible exact hCOR_ZONE_TEMP_SUBST _
    | with_reducible exact hCOR_ZONE_TEMP_T _
    | with_reducible exact hPG_EVT_PEND _
    | with_reducible exact hRCH_CH_CNT_REJECT _
    | with_reducible exact hRCH_CH_DMAX_NEXT _
    | with_reducible exact hRCH_CH_STAT_AT_TARGET _
    | with_reducible exact hRCH_CH_TARGET_FLOOR _
    | with_reducible exact hRCH_CH_TARGET_NEXT _
    | with_reducible exact hTIM_DOM_OFFSET_OFFSET _
    | with_reducible exact hTIM_DOM_RATE_RATE _
    | ((try lift_lets -underBinder); intro x; refine Keep.use (k := km) (q := pq) (s := x) ?_ ?_; (on_goal 1 => dsimp -zeta only [x]); (on_goal 2 => clear_value x; intro _))
    | ((try lift_lets -underBinder); intro x; refine Keep.usePair (k := km) (q := pq) (p := x) ?_ ?_; (on_goal 1 => dsimp -zeta only [x]); (on_goal 2 => clear_value x; intro _))
    | ((try lift_lets -underBinder); intro x; refine Keep.memSt (x := x) ?_; subst x)
    | ((try lift_lets -underBinder); intro x; refine Keep.depSt (x := x) ?_; subst x)
    | ((try lift_lets -underBinder); intro x; clear_value x)
    | (intro _)
    | with_reducible apply Keep.ite
    | with_reducible apply State.setRxView_good
    | with_reducible apply State.maybeBegin_good
    | with_reducible apply State.viewDark_good
    | (simp -zeta only [Keep.mk_iff]; with_reducible refine Keep.upd ?_ rfl ?_; on_goal 2 => (and_intros <;> with_reducible first | exact .inl rfl | exact .inl ⟨rfl, rfl, rfl⟩ | exact .inr ‹_› | exact Nat.le_refl _ | exact Nat.le_add_right _ _))

theorem State.openShare_good (out : km.part .out) (tim : km.part .tim) (scn : km.part .scn) (rai : km.part .rai)
    (line : km.part .line) (hCOR_GEOM_MISMATCH_COUNT : km.fld R.COR.GEOM_MISMATCH.COUNT)
    (hPG_ERR_ADDR_HI : ∀ a, km.fld (R.PG.ERR_ADDR_HI a)) (hPG_ERR_ADDR_LO : ∀ a, km.fld (R.PG.ERR_ADDR_LO a))
    (hPG_ERR_CODE : ∀ a, km.fld (R.PG.ERR_CODE a)) (hPG_ERR_COUNT : ∀ a, km.fld (R.PG.ERR_COUNT a))
    (hPG_ERR_OVERFLOW : ∀ a, km.fld (R.PG.ERR_OVERFLOW a)) (hPG_ERR_SOURCE : ∀ a, km.fld (R.PG.ERR_SOURCE a))
    (hPG_ERR_VALID : ∀ a, km.fld (R.PG.ERR_VALID a)) (hPG_EVT_PEND : ∀ a, km.fld (R.PG.EVT_PEND a))
    (hRCH_CH_CNT_REJECT : ∀ a, km.fld (R.RCH.CH_CNT.REJECT a))
    (hRCH_CH_DMAX_NEXT : ∀ a, km.fld (R.RCH.CH_DMAX.NEXT a))
    (hRCH_CH_STAT_AT_TARGET : ∀ a, km.fld (R.RCH.CH_STAT.AT_TARGET a))
    (hRCH_CH_TARGET_FLOOR : ∀ a, km.fld (R.RCH.CH_TARGET.FLOOR a))
    (hRCH_CH_TARGET_NEXT : ∀ a, km.fld (R.RCH.CH_TARGET.NEXT a))
    (hTIM_DOM_OFFSET_OFFSET : ∀ a, km.fld (R.TIM.DOM_OFFSET.OFFSET a))
    (hTIM_DOM_RATE_RATE : ∀ a, km.fld (R.TIM.DOM_RATE.RATE a)) (s : State) (v : Nat) (h : ShareHdr)
    (hs : s.Keeps km pq) : (State.openShare s v h).Keeps km pq := by
  unfold State.openShare
  repeat' first
    | with_reducible assumption
    | with_reducible exact hPG_ERR_ADDR_HI _
    | with_reducible exact hPG_ERR_ADDR_LO _
    | with_reducible exact hPG_ERR_CODE _
    | with_reducible exact hPG_ERR_COUNT _
    | with_reducible exact hPG_ERR_OVERFLOW _
    | with_reducible exact hPG_ERR_SOURCE _
    | with_reducible exact hPG_ERR_VALID _
    | with_reducible exact hPG_EVT_PEND _
    | with_reducible exact hRCH_CH_CNT_REJECT _
    | with_reducible exact hRCH_CH_DMAX_NEXT _
    | with_reducible exact hRCH_CH_STAT_AT_TARGET _
    | with_reducible exact hRCH_CH_TARGET_FLOOR _
    | with_reducible exact hRCH_CH_TARGET_NEXT _
    | with_reducible exact hTIM_DOM_OFFSET_OFFSET _
    | with_reducible exact hTIM_DOM_RATE_RATE _
    | ((try lift_lets -underBinder); intro x; refine Keep.use (k := km) (q := pq) (s := x) ?_ ?_; (on_goal 1 => dsimp -zeta only [x]); (on_goal 2 => clear_value x; intro _))
    | ((try lift_lets -underBinder); intro x; refine Keep.usePair (k := km) (q := pq) (p := x) ?_ ?_; (on_goal 1 => dsimp -zeta only [x]); (on_goal 2 => clear_value x; intro _))
    | ((try lift_lets -underBinder); intro x; refine Keep.memSt (x := x) ?_; subst x)
    | ((try lift_lets -underBinder); intro x; refine Keep.depSt (x := x) ?_; subst x)
    | ((try lift_lets -underBinder); intro x; clear_value x)
    | (intro _)
    | with_reducible apply Keep.ite
    | with_reducible apply State.setRxView_good
    | with_reducible apply State.viewDark_good
    | with_reducible apply State.count_good
    | with_reducible apply State.err_good
    | with_reducible apply State.ev_good
    | split

theorem State.spireFails_good (tim : km.part .tim) (lfm : km.part .lfm) (line : km.part .line)
    (hTIM_DOM_OFFSET_OFFSET : ∀ a, km.fld (R.TIM.DOM_OFFSET.OFFSET a))
    (hTIM_DOM_RATE_RATE : ∀ a, km.fld (R.TIM.DOM_RATE.RATE a)) (s : State) (hs : s.Keeps km pq) : (State.spireFails s).Keeps km pq := by
  unfold State.spireFails
  repeat' first
    | with_reducible assumption
    | with_reducible exact hTIM_DOM_OFFSET_OFFSET _
    | with_reducible exact hTIM_DOM_RATE_RATE _
    | ((try lift_lets -underBinder); intro x; refine Keep.use (k := km) (q := pq) (s := x) ?_ ?_; (on_goal 1 => dsimp -zeta only [x]); (on_goal 2 => clear_value x; intro _))
    | ((try lift_lets -underBinder); intro x; refine Keep.usePair (k := km) (q := pq) (p := x) ?_ ?_; (on_goal 1 => dsimp -zeta only [x]); (on_goal 2 => clear_value x; intro _))
    | ((try lift_lets -underBinder); intro x; refine Keep.memSt (x := x) ?_; subst x)
    | ((try lift_lets -underBinder); intro x; refine Keep.depSt (x := x) ?_; subst x)
    | ((try lift_lets -underBinder); intro x; clear_value x)
    | (intro _)
    | with_reducible apply State.filter_good
    | (simp -zeta only [Keep.mk_iff]; with_reducible refine Keep.upd ?_ rfl ?_; on_goal 2 => (and_intros <;> with_reducible first | exact .inl rfl | exact .inl ⟨rfl, rfl, rfl⟩ | exact .inr ‹_› | exact Nat.le_refl _ | exact Nat.le_add_right _ _))

theorem State.judgeShare_good (tim : km.part .tim) (cor : km.part .cor) (lfm : km.part .lfm) (line : km.part .line)
    (hTIM_DOM_OFFSET_OFFSET : ∀ a, km.fld (R.TIM.DOM_OFFSET.OFFSET a))
    (hTIM_DOM_RATE_RATE : ∀ a, km.fld (R.TIM.DOM_RATE.RATE a)) (s : State) (v : Nat) (tr : ShareTrl)
    (hs : s.Keeps km pq) : (State.judgeShare s v tr).Keeps km pq := by
  unfold State.judgeShare
  repeat' first
    | with_reducible assumption
    | with_reducible exact hTIM_DOM_OFFSET_OFFSET _
    | with_reducible exact hTIM_DOM_RATE_RATE _
    | ((try lift_lets -underBinder); intro x; refine Keep.use (k := km) (q := pq) (s := x) ?_ ?_; (on_goal 1 => dsimp -zeta only [x]); (on_goal 2 => clear_value x; intro _))
    | ((try lift_lets -underBinder); intro x; refine Keep.usePair (k := km) (q := pq) (p := x) ?_ ?_; (on_goal 1 => dsimp -zeta only [x]); (on_goal 2 => clear_value x; intro _))
    | ((try lift_lets -underBinder); intro x; refine Keep.memSt (x := x) ?_; subst x)
    | ((try lift_lets -underBinder); intro x; refine Keep.depSt (x := x) ?_; subst x)
    | ((try lift_lets -underBinder); intro x; clear_value x)
    | (intro _)
    | with_reducible apply Keep.ite
    | with_reducible apply State.setRxView_good
    | with_reducible apply State.spireFails_good
    | split
    | (simp -zeta only [Keep.mk_iff]; with_reducible refine Keep.upd ?_ rfl ?_; on_goal 2 => (and_intros <;> with_reducible first | exact .inl rfl | exact .inl ⟨rfl, rfl, rfl⟩ | exact .inr ‹_› | exact Nat.le_refl _ | exact Nat.le_add_right _ _))

theorem State.markBad_good (tim : km.part .tim) (lfm : km.part .lfm) (line : km.part .line)
    (hTIM_DOM_OFFSET_OFFSET : ∀ a, km.fld (R.TIM.DOM_OFFSET.OFFSET a))
    (hTIM_DOM_RATE_RATE : ∀ a, km.fld (R.TIM.DOM_RATE.RATE a)) (s : State) (v : Nat) (hs : s.Keeps km pq) : (State.markBad s v).Keeps km pq := by
  unfold State.markBad
  repeat' first
    | with_reducible assumption
    | with_reducible exact hTIM_DOM_OFFSET_OFFSET _
    | with_reducible exact hTIM_DOM_RATE_RATE _
    | ((try lift_lets -underBinder); intro x; refine Keep.use (k := km) (q := pq) (s := x) ?_ ?_; (on_goal 1 => dsimp -zeta only [x]); (on_goal 2 => clear_value x; intro _))
    | ((try lift_lets -underBinder); intro x; refine Keep.usePair (k := km) (q := pq) (p := x) ?_ ?_; (on_goal 1 => dsimp -zeta only [x]); (on_goal 2 => clear_value x; intro _))
    | ((try lift_lets -underBinder); intro x; refine Keep.memSt (x := x) ?_; subst x)
    | ((try lift_lets -underBinder); intro x; refine Keep.depSt (x := x) ?_; subst x)
    | ((try lift_lets -underBinder); intro x; clear_value x)
    | (intro _)
    | with_reducible apply Keep.ite
    | with_reducible apply State.setRxView_good
    | with_reducible apply State.spireFails_good
    | split

theorem State.ringPut_good (line : km.part .line) (s : State) (frame v y bits w : Nat) (hs : s.Keeps km pq) : (State.ringPut s frame v y bits w).Keeps km pq := by
  unfold State.ringPut
  repeat' first
    | with_reducible assumption
    | ((try lift_lets -underBinder); intro x; refine Keep.use (k := km) (q := pq) (s := x) ?_ ?_; (on_goal 1 => dsimp -zeta only [x]); (on_goal 2 => clear_value x; intro _))
    | ((try lift_lets -underBinder); intro x; refine Keep.usePair (k := km) (q := pq) (p := x) ?_ ?_; (on_goal 1 => dsimp -zeta only [x]); (on_goal 2 => clear_value x; intro _))
    | ((try lift_lets -underBinder); intro x; refine Keep.memSt (x := x) ?_; subst x)
    | ((try lift_lets -underBinder); intro x; refine Keep.depSt (x := x) ?_; subst x)
    | ((try lift_lets -underBinder); intro x; clear_value x)
    | (intro _)
    | (simp -zeta only [Keep.mk_iff]; with_reducible refine Keep.upd ?_ rfl ?_; on_goal 2 => (and_intros <;> with_reducible first | exact .inl rfl | exact .inl ⟨rfl, rfl, rfl⟩ | exact .inr ‹_› | exact Nat.le_refl _ | exact Nat.le_add_right _ _))

theorem State.standbyPut_good (tim : km.part .tim) (line : km.part .line)
    (hTIM_DOM_OFFSET_OFFSET : ∀ a, km.fld (R.TIM.DOM_OFFSET.OFFSET a))
    (hTIM_DOM_RATE_RATE : ∀ a, km.fld (R.TIM.DOM_RATE.RATE a)) (s : State) (f v : Nat) (dark : Bool)
    (put : StandbyView → StandbyView) (hs : s.Keeps km pq) : (State.standbyPut s f v dark put).Keeps km pq := by
  unfold State.standbyPut
  repeat' first
    | with_reducible assumption
    | with_reducible exact hTIM_DOM_OFFSET_OFFSET _
    | with_reducible exact hTIM_DOM_RATE_RATE _
    | ((try lift_lets -underBinder); intro x; refine Keep.use (k := km) (q := pq) (s := x) ?_ ?_; (on_goal 1 => dsimp -zeta only [x]); (on_goal 2 => clear_value x; intro _))
    | ((try lift_lets -underBinder); intro x; refine Keep.usePair (k := km) (q := pq) (p := x) ?_ ?_; (on_goal 1 => dsimp -zeta only [x]); (on_goal 2 => clear_value x; intro _))
    | ((try lift_lets -underBinder); intro x; refine Keep.memSt (x := x) ?_; subst x)
    | ((try lift_lets -underBinder); intro x; refine Keep.depSt (x := x) ?_; subst x)
    | ((try lift_lets -underBinder); intro x; clear_value x)
    | (intro _)
    | with_reducible apply State.filter_good
    | (simp -zeta only [Keep.mk_iff]; with_reducible refine Keep.upd ?_ rfl ?_; on_goal 2 => (and_intros <;> with_reducible first | exact .inl rfl | exact .inl ⟨rfl, rfl, rfl⟩ | exact .inr ‹_› | exact Nat.le_refl _ | exact Nat.le_add_right _ _))

theorem State.standbyOpen_good (out : km.part .out) (tim : km.part .tim) (scn : km.part .scn) (cor : km.part .cor)
    (rai : km.part .rai) (line : km.part .line) (hCOR_GEOM_MISMATCH_COUNT : km.fld R.COR.GEOM_MISMATCH.COUNT)
    (hCOR_ZONE_SUBST_HI_ZONES : km.fld R.COR.ZONE_SUBST_HI.ZONES)
    (hCOR_ZONE_SUBST_LO_ZONES : km.fld R.COR.ZONE_SUBST_LO.ZONES)
    (hCOR_ZONE_TEMP_SUBST : ∀ a, km.fld (R.COR.ZONE_TEMP.SUBST a))
    (hCOR_ZONE_TEMP_T : ∀ a, km.fld (R.COR.ZONE_TEMP.T a)) (hPG_ERR_ADDR_HI : ∀ a, km.fld (R.PG.ERR_ADDR_HI a))
    (hPG_ERR_ADDR_LO : ∀ a, km.fld (R.PG.ERR_ADDR_LO a)) (hPG_ERR_CODE : ∀ a, km.fld (R.PG.ERR_CODE a))
    (hPG_ERR_COUNT : ∀ a, km.fld (R.PG.ERR_COUNT a)) (hPG_ERR_OVERFLOW : ∀ a, km.fld (R.PG.ERR_OVERFLOW a))
    (hPG_ERR_SOURCE : ∀ a, km.fld (R.PG.ERR_SOURCE a)) (hPG_ERR_VALID : ∀ a, km.fld (R.PG.ERR_VALID a))
    (hPG_EVT_PEND : ∀ a, km.fld (R.PG.EVT_PEND a)) (hRCH_CH_CNT_REJECT : ∀ a, km.fld (R.RCH.CH_CNT.REJECT a))
    (hRCH_CH_DMAX_NEXT : ∀ a, km.fld (R.RCH.CH_DMAX.NEXT a))
    (hRCH_CH_STAT_AT_TARGET : ∀ a, km.fld (R.RCH.CH_STAT.AT_TARGET a))
    (hRCH_CH_TARGET_FLOOR : ∀ a, km.fld (R.RCH.CH_TARGET.FLOOR a))
    (hRCH_CH_TARGET_NEXT : ∀ a, km.fld (R.RCH.CH_TARGET.NEXT a))
    (hTIM_DOM_OFFSET_OFFSET : ∀ a, km.fld (R.TIM.DOM_OFFSET.OFFSET a))
    (hTIM_DOM_RATE_RATE : ∀ a, km.fld (R.TIM.DOM_RATE.RATE a)) (s : State) (l : List StandbyView)
    (hs : s.Keeps km pq) : (State.standbyOpen s l).Keeps km pq := by
  unfold State.standbyOpen
  repeat' first
    | with_reducible assumption
    | with_reducible exact hCOR_ZONE_TEMP_SUBST _
    | with_reducible exact hCOR_ZONE_TEMP_T _
    | with_reducible exact hPG_ERR_ADDR_HI _
    | with_reducible exact hPG_ERR_ADDR_LO _
    | with_reducible exact hPG_ERR_CODE _
    | with_reducible exact hPG_ERR_COUNT _
    | with_reducible exact hPG_ERR_OVERFLOW _
    | with_reducible exact hPG_ERR_SOURCE _
    | with_reducible exact hPG_ERR_VALID _
    | with_reducible exact hPG_EVT_PEND _
    | with_reducible exact hRCH_CH_CNT_REJECT _
    | with_reducible exact hRCH_CH_DMAX_NEXT _
    | with_reducible exact hRCH_CH_STAT_AT_TARGET _
    | with_reducible exact hRCH_CH_TARGET_FLOOR _
    | with_reducible exact hRCH_CH_TARGET_NEXT _
    | with_reducible exact hTIM_DOM_OFFSET_OFFSET _
    | with_reducible exact hTIM_DOM_RATE_RATE _
    | ((try lift_lets -underBinder); intro x; refine Keep.use (k := km) (q := pq) (s := x) ?_ ?_; (on_goal 1 => dsimp -zeta only [x]); (on_goal 2 => clear_value x; intro _))
    | ((try lift_lets -underBinder); intro x; refine Keep.usePair (k := km) (q := pq) (p := x) ?_ ?_; (on_goal 1 => dsimp -zeta only [x]); (on_goal 2 => clear_value x; intro _))
    | ((try lift_lets -underBinder); intro x; refine Keep.memSt (x := x) ?_; subst x)
    | ((try lift_lets -underBinder); intro x; refine Keep.depSt (x := x) ?_; subst x)
    | ((try lift_lets -underBinder); intro x; clear_value x)
    | (intro _)
    | with_reducible apply State.openView_good
    | with_reducible apply State.openShare_good
    | split
    | (simp -zeta only [Keep.mk_iff]; with_reducible refine Keep.upd ?_ rfl ?_; on_goal 2 => (and_intros <;> with_reducible first | exact .inl rfl | exact .inl ⟨rfl, rfl, rfl⟩ | exact .inr ‹_› | exact Nat.le_refl _ | exact Nat.le_add_right _ _))
    | with_reducible apply Keep.foldl

theorem State.standbyJudge_good (out : km.part .out) (tim : km.part .tim) (mem : km.part .mem) (dram : km.part .dram)
    (scn : km.part .scn) (cor : km.part .cor) (lfm : km.part .lfm) (line : km.part .line)
    (hDEP_MODE_CHECK_DEP_PENDING : km.fld R.DEP.MODE_CHECK.DEP_PENDING)
    (hDEP_MODE_CHECK_EPOCH_PENDING : km.fld R.DEP.MODE_CHECK.EPOCH_PENDING)
    (hDEP_MODE_CHECK_FIELDS : km.fld R.DEP.MODE_CHECK.FIELDS) (hDEP_MODE_CHECK_RULE : km.fld R.DEP.MODE_CHECK.RULE)
    (hDEP_MODE_CHECK_VALID : km.fld R.DEP.MODE_CHECK.VALID)
    (hDEP_MODE_CTRL_FB_VALID : km.fld R.DEP.MODE_CTRL.FB_VALID)
    (hLOG_LOG_ADDR_LO_ADDR : ∀ a, km.fld (R.LOG.LOG_ADDR_LO.ADDR a))
    (hLOG_LOG_INFO_ADDR_HI : ∀ a, km.fld (R.LOG.LOG_INFO.ADDR_HI a))
    (hLOG_LOG_INFO_ARRAY : ∀ a, km.fld (R.LOG.LOG_INFO.ARRAY a))
    (hLOG_LOG_INFO_BYTES : ∀ a, km.fld (R.LOG.LOG_INFO.BYTES a))
    (hLOG_LOG_INFO_CHANNEL : ∀ a, km.fld (R.LOG.LOG_INFO.CHANNEL a))
    (hLOG_LOG_INFO_CODE : ∀ a, km.fld (R.LOG.LOG_INFO.CODE a))
    (hLOG_LOG_INFO_PORT : ∀ a, km.fld (R.LOG.LOG_INFO.PORT a))
    (hLOG_LOG_INFO_SRAM : ∀ a, km.fld (R.LOG.LOG_INFO.SRAM a))
    (hLOG_LOG_TIME_HI_NS : ∀ a, km.fld (R.LOG.LOG_TIME_HI.NS a))
    (hLOG_LOG_TIME_LO_NS : ∀ a, km.fld (R.LOG.LOG_TIME_LO.NS a))
    (hMEM_CH_STAT_FILLED : ∀ a, km.fld (R.MEM.CH_STAT.FILLED a))
    (hMEM_CH_STAT_MIRROR_OK : ∀ a, km.fld (R.MEM.CH_STAT.MIRROR_OK a))
    (hMEM_CH_STAT_STATE : ∀ a, km.fld (R.MEM.CH_STAT.STATE a))
    (hPAR_CHK_CTRL_INJ_ARM : km.fld R.PAR.CHK_CTRL.INJ_ARM)
    (hPAR_DRAM_ERR_CNT_COUNT : km.fld R.PAR.DRAM_ERR_CNT.COUNT) (hPAR_LOG_STAT_NEXT : km.fld R.PAR.LOG_STAT.NEXT)
    (hPAR_LOG_STAT_TOTAL : km.fld R.PAR.LOG_STAT.TOTAL) (hPAR_LOG_STAT_WRAPPED : km.fld R.PAR.LOG_STAT.WRAPPED)
    (hPAR_MIRROR_FIX_CNT_COUNT : km.fld R.PAR.MIRROR_FIX_CNT.COUNT)
    (hPG_ERR_ADDR_HI : ∀ a, km.fld (R.PG.ERR_ADDR_HI a)) (hPG_ERR_ADDR_LO : ∀ a, km.fld (R.PG.ERR_ADDR_LO a))
    (hPG_ERR_CODE : ∀ a, km.fld (R.PG.ERR_CODE a)) (hPG_ERR_COUNT : ∀ a, km.fld (R.PG.ERR_COUNT a))
    (hPG_ERR_OVERFLOW : ∀ a, km.fld (R.PG.ERR_OVERFLOW a)) (hPG_ERR_SOURCE : ∀ a, km.fld (R.PG.ERR_SOURCE a))
    (hPG_ERR_VALID : ∀ a, km.fld (R.PG.ERR_VALID a)) (hPG_EVT_PEND : ∀ a, km.fld (R.PG.EVT_PEND a))
    (hPG_FAULT : ∀ a, km.fld (R.PG.FAULT a)) (hPG_POISON_SEEN : ∀ a, km.fld (R.PG.POISON_SEEN a))
    (hSCN_POISON_WORDS_COUNT : km.fld R.SCN.POISON_WORDS.COUNT)
    (hSCN_ROW_REPEAT_CNT_COUNT : km.fld R.SCN.ROW_REPEAT_CNT.COUNT)
    (hSCN_SCN_STAT_LOADING : km.fld R.SCN.SCN_STAT.LOADING)
    (hTIM_DOM_OFFSET_OFFSET : ∀ a, km.fld (R.TIM.DOM_OFFSET.OFFSET a))
    (hTIM_DOM_RATE_RATE : ∀ a, km.fld (R.TIM.DOM_RATE.RATE a)) (s : State) (l : List StandbyView)
    (hs : s.Keeps km pq) : (State.standbyJudge s l).Keeps km pq := by
  unfold State.standbyJudge
  repeat' first
    | with_reducible assumption
    | with_reducible exact hLOG_LOG_ADDR_LO_ADDR _
    | with_reducible exact hLOG_LOG_INFO_ADDR_HI _
    | with_reducible exact hLOG_LOG_INFO_ARRAY _
    | with_reducible exact hLOG_LOG_INFO_BYTES _
    | with_reducible exact hLOG_LOG_INFO_CHANNEL _
    | with_reducible exact hLOG_LOG_INFO_CODE _
    | with_reducible exact hLOG_LOG_INFO_PORT _
    | with_reducible exact hLOG_LOG_INFO_SRAM _
    | with_reducible exact hLOG_LOG_TIME_HI_NS _
    | with_reducible exact hLOG_LOG_TIME_LO_NS _
    | with_reducible exact hMEM_CH_STAT_FILLED _
    | with_reducible exact hMEM_CH_STAT_MIRROR_OK _
    | with_reducible exact hMEM_CH_STAT_STATE _
    | with_reducible exact hPG_ERR_ADDR_HI _
    | with_reducible exact hPG_ERR_ADDR_LO _
    | with_reducible exact hPG_ERR_CODE _
    | with_reducible exact hPG_ERR_COUNT _
    | with_reducible exact hPG_ERR_OVERFLOW _
    | with_reducible exact hPG_ERR_SOURCE _
    | with_reducible exact hPG_ERR_VALID _
    | with_reducible exact hPG_EVT_PEND _
    | with_reducible exact hPG_FAULT _
    | with_reducible exact hPG_POISON_SEEN _
    | with_reducible exact hTIM_DOM_OFFSET_OFFSET _
    | with_reducible exact hTIM_DOM_RATE_RATE _
    | ((try lift_lets -underBinder); intro x; refine Keep.use (k := km) (q := pq) (s := x) ?_ ?_; (on_goal 1 => dsimp -zeta only [x]); (on_goal 2 => clear_value x; intro _))
    | ((try lift_lets -underBinder); intro x; refine Keep.usePair (k := km) (q := pq) (p := x) ?_ ?_; (on_goal 1 => dsimp -zeta only [x]); (on_goal 2 => clear_value x; intro _))
    | ((try lift_lets -underBinder); intro x; refine Keep.memSt (x := x) ?_; subst x)
    | ((try lift_lets -underBinder); intro x; refine Keep.depSt (x := x) ?_; subst x)
    | ((try lift_lets -underBinder); intro x; clear_value x)
    | (intro _)
    | with_reducible apply Keep.ite
    | with_reducible apply State.judgeShare_good
    | with_reducible apply State.forN_good
    | with_reducible apply State.closeBand_good
    | split
    | (simp -zeta only [Keep.mk_iff]; with_reducible refine Keep.upd ?_ rfl ?_; on_goal 2 => (and_intros <;> with_reducible first | exact .inl rfl | exact .inl ⟨rfl, rfl, rfl⟩ | exact .inr ‹_› | exact Nat.le_refl _ | exact Nat.le_add_right _ _))
    | with_reducible apply Keep.foldl

theorem State.fromRing_good (out : km.part .out) (tim : km.part .tim) (mem : km.part .mem) (dram : km.part .dram)
    (scn : km.part .scn) (cor : km.part .cor) (line : km.part .line) (any : ∀ f, km.fld f) (s : State)
    (hs : s.Keeps km pq) : (State.fromRing s).Keeps km pq := by
  unfold State.fromRing
  repeat' first
    | with_reducible assumption
    | (with_reducible (intros; exact any _))
    | ((try lift_lets -underBinder); intro x; refine Keep.use (k := km) (q := pq) (s := x) ?_ ?_; (on_goal 1 => dsimp -zeta only [x]); (on_goal 2 => clear_value x; intro _))
    | ((try lift_lets -underBinder); intro x; refine Keep.usePair (k := km) (q := pq) (p := x) ?_ ?_; (on_goal 1 => dsimp -zeta only [x]); (on_goal 2 => clear_value x; intro _))
    | ((try lift_lets -underBinder); intro x; refine Keep.memSt (x := x) ?_; subst x)
    | ((try lift_lets -underBinder); intro x; refine Keep.depSt (x := x) ?_; subst x)
    | ((try lift_lets -underBinder); intro x; clear_value x)
    | (intro _)
    | with_reducible apply State.filter_good
    | with_reducible apply State.takeRow_good
    | (simp -zeta only [Keep.mk_iff]; with_reducible refine Keep.upd ?_ rfl ?_; on_goal 2 => (and_intros <;> with_reducible first | exact .inl rfl | exact .inl ⟨rfl, rfl, rfl⟩ | exact .inr ‹_› | exact Nat.le_refl _ | exact Nat.le_add_right _ _))
    | with_reducible apply Keep.foldr

theorem State.copyCoding_good (out : km.part .out)
    (hDEP_MODE_CHECK_DEP_PENDING : km.fld R.DEP.MODE_CHECK.DEP_PENDING)
    (hDEP_MODE_CHECK_EPOCH_PENDING : km.fld R.DEP.MODE_CHECK.EPOCH_PENDING)
    (hDEP_MODE_CHECK_FIELDS : km.fld R.DEP.MODE_CHECK.FIELDS) (hDEP_MODE_CHECK_RULE : km.fld R.DEP.MODE_CHECK.RULE)
    (hDEP_MODE_CHECK_VALID : km.fld R.DEP.MODE_CHECK.VALID)
    (hDEP_MODE_CTRL_FB_VALID : km.fld R.DEP.MODE_CTRL.FB_VALID)
    (hDEP_MODE_CTRL_LAST_CAUSE : km.fld R.DEP.MODE_CTRL.LAST_CAUSE)
    (hDEP_MODE_CUR_CODING_A : km.fld R.DEP.MODE_CUR.CODING_A)
    (hDEP_MODE_CUR_CODING_B : km.fld R.DEP.MODE_CUR.CODING_B) (hDEP_MODE_CUR_EMIT : km.fld R.DEP.MODE_CUR.EMIT)
    (hDEP_MODE_CUR_REDUN : km.fld R.DEP.MODE_CUR.REDUN) (hDEP_MODE_CUR_SCAN : km.fld R.DEP.MODE_CUR.SCAN)
    (hDEP_MODE_CUR_SINK : km.fld R.DEP.MODE_CUR.SINK) (hDEP_MODE_CUR_TIMING : km.fld R.DEP.MODE_CUR.TIMING)
    (hDEP_MODE_CUR_VIEWS : km.fld R.DEP.MODE_CUR.VIEWS) (hDEP_MODE_NEXT_CODING_A : km.fld R.DEP.MODE_NEXT.CODING_A)
    (hDEP_MODE_NEXT_CODING_B : km.fld R.DEP.MODE_NEXT.CODING_B) (hDEP_MODE_NEXT_EMIT : km.fld R.DEP.MODE_NEXT.EMIT)
    (hDEP_MODE_NEXT_REDUN : km.fld R.DEP.MODE_NEXT.REDUN) (hDEP_MODE_NEXT_SCAN : km.fld R.DEP.MODE_NEXT.SCAN)
    (hDEP_MODE_NEXT_SINK : km.fld R.DEP.MODE_NEXT.SINK) (hDEP_MODE_NEXT_TIMING : km.fld R.DEP.MODE_NEXT.TIMING)
    (hDEP_MODE_NEXT_VIEWS : km.fld R.DEP.MODE_NEXT.VIEWS) (hPG_EVT_PEND : ∀ a, km.fld (R.PG.EVT_PEND a)) (s : State)
    (c : Nat) (hs : s.Keeps km pq) : (State.copyCoding s c).Keeps km pq := by
  unfold State.copyCoding
  repeat' first
    | with_reducible assumption
    | with_reducible exact hPG_EVT_PEND _
    | ((try lift_lets -underBinder); intro x; refine Keep.use (k := km) (q := pq) (s := x) ?_ ?_; (on_goal 1 => dsimp -zeta only [x]); (on_goal 2 => clear_value x; intro _))
    | ((try lift_lets -underBinder); intro x; refine Keep.usePair (k := km) (q := pq) (p := x) ?_ ?_; (on_goal 1 => dsimp -zeta only [x]); (on_goal 2 => clear_value x; intro _))
    | ((try lift_lets -underBinder); intro x; refine Keep.memSt (x := x) ?_; subst x)
    | ((try lift_lets -underBinder); intro x; refine Keep.depSt (x := x) ?_; subst x)
    | ((try lift_lets -underBinder); intro x; clear_value x)
    | (intro _)
    | with_reducible apply Keep.ite
    | with_reducible apply State.putModeNext_good
    | with_reducible apply State.modeChange_good
    | with_reducible apply State.evaluate_good

theorem State.showPort_good (out : km.part .out) (tim : km.part .tim) (mem : km.part .mem) (dram : km.part .dram)
    (scn : km.part .scn) (cor : km.part .cor) (rai : km.part .rai) (lfm : km.part .lfm) (line : km.part .line)
    (any : ∀ f, km.fld f) (s : State) (q : Nat) (hs : s.Keeps km pq) : (State.showPort s q).Keeps km pq := by
  unfold State.showPort
  repeat' first
    | with_reducible assumption
    | (with_reducible (intros; exact any _))
    | ((try lift_lets -underBinder); intro x; refine Keep.use (k := km) (q := pq) (s := x) ?_ ?_; (on_goal 1 => dsimp -zeta only [x]); (on_goal 2 => clear_value x; intro _))
    | ((try lift_lets -underBinder); intro x; refine Keep.usePair (k := km) (q := pq) (p := x) ?_ ?_; (on_goal 1 => dsimp -zeta only [x]); (on_goal 2 => clear_value x; intro _))
    | ((try lift_lets -underBinder); intro x; refine Keep.memSt (x := x) ?_; subst x)
    | ((try lift_lets -underBinder); intro x; refine Keep.depSt (x := x) ?_; subst x)
    | ((try lift_lets -underBinder); intro x; clear_value x)
    | (intro _)
    | with_reducible apply Keep.ite
    | with_reducible apply State.skip_good
    | with_reducible apply State.copyCoding_good
    | with_reducible apply State.standbyOpen_good
    | with_reducible apply State.openView_good
    | with_reducible apply State.fromRing_good
    | with_reducible apply State.lostRow_good
    | with_reducible apply State.standbyJudge_good
    | split
    | (simp -zeta only [Keep.mk_iff]; with_reducible refine Keep.upd ?_ rfl ?_; on_goal 2 => (and_intros <;> with_reducible first | exact .inl rfl | exact .inl ⟨rfl, rfl, rfl⟩ | exact .inr ‹_› | exact Nat.le_refl _ | exact Nat.le_add_right _ _))
    | with_reducible apply Keep.foldl

theorem State.streamFail_good (out : km.part .out) (tim : km.part .tim) (mem : km.part .mem) (dram : km.part .dram)
    (scn : km.part .scn) (cor : km.part .cor) (rai : km.part .rai) (lfm : km.part .lfm) (line : km.part .line)
    (rdn : km.part .rdn) (any : ∀ f, km.fld f) (s : State) (p cause : Nat) (hs : s.Keeps km pq) : (State.streamFail s p cause).Keeps km pq := by
  unfold State.streamFail
  repeat' first
    | with_reducible assumption
    | (with_reducible (intros; exact any _))
    | ((try lift_lets -underBinder); intro x; refine Keep.use (k := km) (q := pq) (s := x) ?_ ?_; (on_goal 1 => dsimp -zeta only [x]); (on_goal 2 => clear_value x; intro _))
    | ((try lift_lets -underBinder); intro x; refine Keep.usePair (k := km) (q := pq) (p := x) ?_ ?_; (on_goal 1 => dsimp -zeta only [x]); (on_goal 2 => clear_value x; intro _))
    | ((try lift_lets -underBinder); intro x; refine Keep.memSt (x := x) ?_; subst x)
    | ((try lift_lets -underBinder); intro x; refine Keep.depSt (x := x) ?_; subst x)
    | ((try lift_lets -underBinder); intro x; clear_value x)
    | (intro _)
    | with_reducible apply Keep.ite
    | with_reducible apply State.leadFails_good
    | with_reducible apply State.setStream_good
    | with_reducible apply State.showPort_good
    | split

theorem State.preferLead_good (out : km.part .out) (tim : km.part .tim) (mem : km.part .mem) (dram : km.part .dram)
    (scn : km.part .scn) (cor : km.part .cor) (rai : km.part .rai) (lfm : km.part .lfm) (line : km.part .line)
    (any : ∀ f, km.fld f) (s : State) (hs : s.Keeps km pq) : (State.preferLead s).Keeps km pq := by
  unfold State.preferLead
  repeat' first
    | with_reducible assumption
    | (with_reducible (intros; exact any _))
    | ((try lift_lets -underBinder); intro x; refine Keep.use (k := km) (q := pq) (s := x) ?_ ?_; (on_goal 1 => dsimp -zeta only [x]); (on_goal 2 => clear_value x; intro _))
    | ((try lift_lets -underBinder); intro x; refine Keep.usePair (k := km) (q := pq) (p := x) ?_ ?_; (on_goal 1 => dsimp -zeta only [x]); (on_goal 2 => clear_value x; intro _))
    | ((try lift_lets -underBinder); intro x; refine Keep.memSt (x := x) ?_; subst x)
    | ((try lift_lets -underBinder); intro x; refine Keep.depSt (x := x) ?_; subst x)
    | ((try lift_lets -underBinder); intro x; clear_value x)
    | (intro _)
    | with_reducible apply Keep.ite
    | with_reducible apply State.showPort_good
    | split

theorem State.streamLost_good (out : km.part .out) (tim : km.part .tim) (mem : km.part .mem) (dram : km.part .dram)
    (scn : km.part .scn) (cor : km.part .cor) (rai : km.part .rai) (lfm : km.part .lfm) (line : km.part .line)
    (rdn : km.part .rdn) (any : ∀ f, km.fld f) (s : State) (p : Nat) (hs : s.Keeps km pq) : (State.streamLost s p).Keeps km pq := by
  unfold State.streamLost
  repeat' first
    | with_reducible assumption
    | (with_reducible (intros; exact any _))
    | ((try lift_lets -underBinder); intro x; refine Keep.use (k := km) (q := pq) (s := x) ?_ ?_; (on_goal 1 => dsimp -zeta only [x]); (on_goal 2 => clear_value x; intro _))
    | ((try lift_lets -underBinder); intro x; refine Keep.usePair (k := km) (q := pq) (p := x) ?_ ?_; (on_goal 1 => dsimp -zeta only [x]); (on_goal 2 => clear_value x; intro _))
    | ((try lift_lets -underBinder); intro x; refine Keep.memSt (x := x) ?_; subst x)
    | ((try lift_lets -underBinder); intro x; refine Keep.depSt (x := x) ?_; subst x)
    | ((try lift_lets -underBinder); intro x; clear_value x)
    | (intro _)
    | with_reducible apply Keep.ite
    | with_reducible apply State.streamFail_good
    | with_reducible apply State.filter_good
    | with_reducible apply State.markBad_good
    | with_reducible apply State.setStream_good
    | with_reducible apply Keep.foldl

theorem State.lineCrc_good (out : km.part .out) (tim : km.part .tim) (line : km.part .line)
    (hLNE_LCRC_MISMATCH_COUNT : ∀ a, km.fld (R.LNE.LCRC_MISMATCH.COUNT a))
    (hPG_EVT_PEND : ∀ a, km.fld (R.PG.EVT_PEND a)) (hTIM_DOM_OFFSET_OFFSET : ∀ a, km.fld (R.TIM.DOM_OFFSET.OFFSET a))
    (hTIM_DOM_RATE_RATE : ∀ a, km.fld (R.TIM.DOM_RATE.RATE a)) (s : State) (p frame v y crc : Nat)
    (hs : s.Keeps km pq) : (State.lineCrc s p frame v y crc).Keeps km pq := by
  unfold State.lineCrc
  repeat' first
    | with_reducible assumption
    | with_reducible exact hLNE_LCRC_MISMATCH_COUNT _
    | with_reducible exact hPG_EVT_PEND _
    | with_reducible exact hTIM_DOM_OFFSET_OFFSET _
    | with_reducible exact hTIM_DOM_RATE_RATE _
    | ((try lift_lets -underBinder); intro x; refine Keep.use (k := km) (q := pq) (s := x) ?_ ?_; (on_goal 1 => dsimp -zeta only [x]); (on_goal 2 => clear_value x; intro _))
    | ((try lift_lets -underBinder); intro x; refine Keep.usePair (k := km) (q := pq) (p := x) ?_ ?_; (on_goal 1 => dsimp -zeta only [x]); (on_goal 2 => clear_value x; intro _))
    | ((try lift_lets -underBinder); intro x; refine Keep.memSt (x := x) ?_; subst x)
    | ((try lift_lets -underBinder); intro x; refine Keep.depSt (x := x) ?_; subst x)
    | ((try lift_lets -underBinder); intro x; clear_value x)
    | (intro _)
    | with_reducible apply Keep.ite
    | with_reducible apply State.filter_good
    | with_reducible apply State.count_good
    | with_reducible apply State.evIf_good
    | split
    | (simp -zeta only [Keep.mk_iff]; with_reducible refine Keep.upd ?_ rfl ?_; on_goal 2 => (and_intros <;> with_reducible first | exact .inl rfl | exact .inl ⟨rfl, rfl, rfl⟩ | exact .inr ‹_› | exact Nat.le_refl _ | exact Nat.le_add_right _ _))

end Sys2Proof.Machine
end

