-- ==== Sys2Proof/Laws/KeepsQueueBase.lean ====
section
/-!
SUPPORT. Every function of Machine/QueueBase.lean changes what the hypotheses of its lemma name, and nothing else.
-/
namespace Sys2Proof.Machine
set_option Elab.async false
set_option linter.unusedVariables false
set_option linter.unusedTactic false
set_option linter.unreachableTactic false

variable {km : May} {pq : State}

theorem State.setDesc_good (que : km.part .que) (s : State) (d : Desc) (hs : s.Keeps km pq) : (State.setDesc s d).Keeps km pq := by
  unfold State.setDesc
  repeat' first
    | with_reducible assumption
    | ((try lift_lets -underBinder); intro x; refine Keep.use (k := km) (q := pq) (s := x) ?_ ?_; (on_goal 1 => dsimp -zeta only [x]); (on_goal 2 => clear_value x; intro _))
    | ((try lift_lets -underBinder); intro x; refine Keep.usePair (k := km) (q := pq) (p := x) ?_ ?_; (on_goal 1 => dsimp -zeta only [x]); (on_goal 2 => clear_value x; intro _))
    | ((try lift_lets -underBinder); intro x; refine Keep.memSt (x := x) ?_; subst x)
    | ((try lift_lets -underBinder); intro x; refine Keep.depSt (x := x) ?_; subst x)
    | ((try lift_lets -underBinder); intro x; clear_value x)
    | (intro _)
    | with_reducible apply Keep.ite
    | (simp -zeta only [Keep.mk_iff]; with_reducible refine Keep.upd ?_ rfl ?_; on_goal 2 => (and_intros <;> with_reducible first | exact .inl rfl | exact .inl ⟨rfl, rfl, rfl⟩ | exact .inr ‹_› | exact Nat.le_refl _ | exact Nat.le_add_right _ _))

theorem State.showInflight_good (tim : km.part .tim) (hQCX_Q_CTRL_IDLE : ∀ a, km.fld (R.QCX.Q_CTRL.IDLE a))
    (hQCX_Q_INFLIGHT_COUNT : ∀ a, km.fld (R.QCX.Q_INFLIGHT.COUNT a))
    (hQUE_INFLIGHT_COUNT : km.fld R.QUE.INFLIGHT.COUNT)
    (hTIM_DOM_OFFSET_OFFSET : ∀ a, km.fld (R.TIM.DOM_OFFSET.OFFSET a))
    (hTIM_DOM_RATE_RATE : ∀ a, km.fld (R.TIM.DOM_RATE.RATE a)) (s : State) (q : Nat) (hs : s.Keeps km pq) : (State.showInflight s q).Keeps km pq := by
  unfold State.showInflight
  repeat' first
    | with_reducible assumption
    | with_reducible exact hQCX_Q_CTRL_IDLE _
    | with_reducible exact hQCX_Q_INFLIGHT_COUNT _
    | with_reducible exact hTIM_DOM_OFFSET_OFFSET _
    | with_reducible exact hTIM_DOM_RATE_RATE _
    | ((try lift_lets -underBinder); intro x; refine Keep.use (k := km) (q := pq) (s := x) ?_ ?_; (on_goal 1 => dsimp -zeta only [x]); (on_goal 2 => clear_value x; intro _))
    | ((try lift_lets -underBinder); intro x; refine Keep.usePair (k := km) (q := pq) (p := x) ?_ ?_; (on_goal 1 => dsimp -zeta only [x]); (on_goal 2 => clear_value x; intro _))
    | ((try lift_lets -underBinder); intro x; refine Keep.memSt (x := x) ?_; subst x)
    | ((try lift_lets -underBinder); intro x; refine Keep.depSt (x := x) ?_; subst x)
    | ((try lift_lets -underBinder); intro x; clear_value x)
    | (intro _)
    | with_reducible apply State.filter_good
    | with_reducible apply State.set_good

theorem State.dropDescs_good (tim : km.part .tim) (que : km.part .que)
    (hTIM_DOM_OFFSET_OFFSET : ∀ a, km.fld (R.TIM.DOM_OFFSET.OFFSET a))
    (hTIM_DOM_RATE_RATE : ∀ a, km.fld (R.TIM.DOM_RATE.RATE a)) (s : State) (q : Nat) (l : List Desc)
    (hs : s.Keeps km pq) : (State.dropDescs s q l).Keeps km pq := by
  unfold State.dropDescs
  repeat' first
    | with_reducible assumption
    | with_reducible exact hTIM_DOM_OFFSET_OFFSET _
    | with_reducible exact hTIM_DOM_RATE_RATE _
    | ((try lift_lets -underBinder); intro x; refine Keep.use (k := km) (q := pq) (s := x) ?_ ?_; (on_goal 1 => dsimp -zeta only [x]); (on_goal 2 => clear_value x; intro _))
    | ((try lift_lets -underBinder); intro x; refine Keep.usePair (k := km) (q := pq) (p := x) ?_ ?_; (on_goal 1 => dsimp -zeta only [x]); (on_goal 2 => clear_value x; intro _))
    | ((try lift_lets -underBinder); intro x; refine Keep.memSt (x := x) ?_; subst x)
    | ((try lift_lets -underBinder); intro x; refine Keep.depSt (x := x) ?_; subst x)
    | ((try lift_lets -underBinder); intro x; clear_value x)
    | (intro _)
    | with_reducible apply State.filter_good
    | (simp -zeta only [Keep.mk_iff]; with_reducible refine Keep.upd ?_ rfl ?_; on_goal 2 => (and_intros <;> with_reducible first | exact .inl rfl | exact .inl ⟨rfl, rfl, rfl⟩ | exact .inr ‹_› | exact Nat.le_refl _ | exact Nat.le_add_right _ _))

theorem State.advanceHead_good (out : km.part .out) (tim : km.part .tim) (que : km.part .que)
    (hQCX_Q_HEAD_IDX : ∀ a, km.fld (R.QCX.Q_HEAD.IDX a))
    (hTIM_DOM_OFFSET_OFFSET : ∀ a, km.fld (R.TIM.DOM_OFFSET.OFFSET a))
    (hTIM_DOM_RATE_RATE : ∀ a, km.fld (R.TIM.DOM_RATE.RATE a)) (s : State) (q : Nat) (hs : s.Keeps km pq) : (State.advanceHead s q).Keeps km pq := by
  unfold State.advanceHead
  repeat' first
    | with_reducible assumption
    | with_reducible exact hQCX_Q_HEAD_IDX _
    | with_reducible exact hTIM_DOM_OFFSET_OFFSET _
    | with_reducible exact hTIM_DOM_RATE_RATE _
    | ((try lift_lets -underBinder); intro x; refine Keep.use (k := km) (q := pq) (s := x) ?_ ?_; (on_goal 1 => dsimp -zeta only [x]); (on_goal 2 => clear_value x; intro _))
    | ((try lift_lets -underBinder); intro x; refine Keep.usePair (k := km) (q := pq) (p := x) ?_ ?_; (on_goal 1 => dsimp -zeta only [x]); (on_goal 2 => clear_value x; intro _))
    | ((try lift_lets -underBinder); intro x; refine Keep.memSt (x := x) ?_; subst x)
    | ((try lift_lets -underBinder); intro x; refine Keep.depSt (x := x) ?_; subst x)
    | ((try lift_lets -underBinder); intro x; clear_value x)
    | (intro _)
    | with_reducible apply Keep.ite
    | with_reducible apply State.set_good
    | with_reducible apply State.dropDescs_good
    | with_reducible apply State.emit_good

theorem State.complete_good (out : km.part .out) (tim : km.part .tim) (line : km.part .line) (que : km.part .que)
    (hPG_ERR_ADDR_HI : ∀ a, km.fld (R.PG.ERR_ADDR_HI a)) (hPG_ERR_ADDR_LO : ∀ a, km.fld (R.PG.ERR_ADDR_LO a))
    (hPG_ERR_CODE : ∀ a, km.fld (R.PG.ERR_CODE a)) (hPG_ERR_COUNT : ∀ a, km.fld (R.PG.ERR_COUNT a))
    (hPG_ERR_OVERFLOW : ∀ a, km.fld (R.PG.ERR_OVERFLOW a)) (hPG_ERR_SOURCE : ∀ a, km.fld (R.PG.ERR_SOURCE a))
    (hPG_ERR_VALID : ∀ a, km.fld (R.PG.ERR_VALID a)) (hPG_EVT_PEND : ∀ a, km.fld (R.PG.EVT_PEND a))
    (hPG_POISON_SEEN : ∀ a, km.fld (R.PG.POISON_SEEN a)) (hQCX_Q_CTRL_IDLE : ∀ a, km.fld (R.QCX.Q_CTRL.IDLE a))
    (hQCX_Q_DONE_CNT_COUNT : ∀ a, km.fld (R.QCX.Q_DONE_CNT.COUNT a))
    (hQCX_Q_HEAD_IDX : ∀ a, km.fld (R.QCX.Q_HEAD.IDX a))
    (hQCX_Q_INFLIGHT_COUNT : ∀ a, km.fld (R.QCX.Q_INFLIGHT.COUNT a))
    (hQUE_DESC_ERR_COUNT : km.fld R.QUE.DESC_ERR.COUNT) (hQUE_INFLIGHT_COUNT : km.fld R.QUE.INFLIGHT.COUNT)
    (hTEN_REVOKED_CNT_COUNT : ∀ a, km.fld (R.TEN.REVOKED_CNT.COUNT a))
    (hTIM_DOM_OFFSET_OFFSET : ∀ a, km.fld (R.TIM.DOM_OFFSET.OFFSET a))
    (hTIM_DOM_RATE_RATE : ∀ a, km.fld (R.TIM.DOM_RATE.RATE a)) (s : State) (q idx status done : Nat)
    (data : List Nat) (hs : s.Keeps km pq) : (State.complete s q idx status done data).Keeps km pq := by
  unfold State.complete
  repeat' first
    | with_reducible assumption
    | with_reducible exact hPG_ERR_ADDR_HI _
    | with_reducible exact hPG_ERR_ADDR_LO _
    | with_reducible exact hPG_ERR_CODE _
    | with_reducible exact hPG_ERR_COUNT _
    | with_reducible exact hPG_ERR_OVERFLOW _
    | with_reducible exact hPG_ERR_SOURCE _
    | with_reducible exact hPG_ERR_VALID _
    | with_reducible exact hPG_EVT_PEND _
    | with_reducible exact hPG_POISON_SEEN _
    | with_reducible exact hQCX_Q_CTRL_IDLE _
    | with_reducible exact hQCX_Q_DONE_CNT_COUNT _
    | with_reducible exact hQCX_Q_HEAD_IDX _
    | with_reducible exact hQCX_Q_INFLIGHT_COUNT _
    | with_reducible exact hTEN_REVOKED_CNT_COUNT _
    | with_reducible exact hTIM_DOM_OFFSET_OFFSET _
    | with_reducible exact hTIM_DOM_RATE_RATE _
    | ((try lift_lets -underBinder); intro x; refine Keep.use (k := km) (q := pq) (s := x) ?_ ?_; (on_goal 1 => dsimp -zeta only [x]); (on_goal 2 => clear_value x; intro _))
    | ((try lift_lets -underBinder); intro x; refine Keep.usePair (k := km) (q := pq) (p := x) ?_ ?_; (on_goal 1 => dsimp -zeta only [x]); (on_goal 2 => clear_value x; intro _))
    | ((try lift_lets -underBinder); intro x; refine Keep.memSt (x := x) ?_; subst x)
    | ((try lift_lets -underBinder); intro x; refine Keep.depSt (x := x) ?_; subst x)
    | ((try lift_lets -underBinder); intro x; clear_value x)
    | (intro _)
    | with_reducible apply Keep.ite
    | with_reducible apply State.setDesc_good
    | with_reducible apply State.emit_good
    | with_reducible apply State.count_good
    | with_reducible apply State.showInflight_good
    | with_reducible apply State.poison_good
    | with_reducible apply State.advanceHead_good
    | split

theorem State.settle_good (out : km.part .out) (tim : km.part .tim) (line : km.part .line) (que : km.part .que)
    (hPG_ERR_ADDR_HI : ∀ a, km.fld (R.PG.ERR_ADDR_HI a)) (hPG_ERR_ADDR_LO : ∀ a, km.fld (R.PG.ERR_ADDR_LO a))
    (hPG_ERR_CODE : ∀ a, km.fld (R.PG.ERR_CODE a)) (hPG_ERR_COUNT : ∀ a, km.fld (R.PG.ERR_COUNT a))
    (hPG_ERR_OVERFLOW : ∀ a, km.fld (R.PG.ERR_OVERFLOW a)) (hPG_ERR_SOURCE : ∀ a, km.fld (R.PG.ERR_SOURCE a))
    (hPG_ERR_VALID : ∀ a, km.fld (R.PG.ERR_VALID a)) (hPG_EVT_PEND : ∀ a, km.fld (R.PG.EVT_PEND a))
    (hPG_POISON_SEEN : ∀ a, km.fld (R.PG.POISON_SEEN a)) (hQCX_Q_CTRL_IDLE : ∀ a, km.fld (R.QCX.Q_CTRL.IDLE a))
    (hQCX_Q_DONE_CNT_COUNT : ∀ a, km.fld (R.QCX.Q_DONE_CNT.COUNT a))
    (hQCX_Q_HEAD_IDX : ∀ a, km.fld (R.QCX.Q_HEAD.IDX a))
    (hQCX_Q_INFLIGHT_COUNT : ∀ a, km.fld (R.QCX.Q_INFLIGHT.COUNT a))
    (hQUE_DESC_ERR_COUNT : km.fld R.QUE.DESC_ERR.COUNT) (hQUE_INFLIGHT_COUNT : km.fld R.QUE.INFLIGHT.COUNT)
    (hTEN_REVOKED_CNT_COUNT : ∀ a, km.fld (R.TEN.REVOKED_CNT.COUNT a))
    (hTIM_DOM_OFFSET_OFFSET : ∀ a, km.fld (R.TIM.DOM_OFFSET.OFFSET a))
    (hTIM_DOM_RATE_RATE : ∀ a, km.fld (R.TIM.DOM_RATE.RATE a)) (s : State) (q idx : Nat) (hs : s.Keeps km pq) : (State.settle s q idx).Keeps km pq := by
  unfold State.settle
  repeat' first
    | with_reducible assumption
    | with_reducible exact hPG_ERR_ADDR_HI _
    | with_reducible exact hPG_ERR_ADDR_LO _
    | with_reducible exact hPG_ERR_CODE _
    | with_reducible exact hPG_ERR_COUNT _
    | with_reducible exact hPG_ERR_OVERFLOW _
    | with_reducible exact hPG_ERR_SOURCE _
    | with_reducible exact hPG_ERR_VALID _
    | with_reducible exact hPG_EVT_PEND _
    | with_reducible exact hPG_POISON_SEEN _
    | with_reducible exact hQCX_Q_CTRL_IDLE _
    | with_reducible exact hQCX_Q_DONE_CNT_COUNT _
    | with_reducible exact hQCX_Q_HEAD_IDX _
    | with_reducible exact hQCX_Q_INFLIGHT_COUNT _
    | with_reducible exact hTEN_REVOKED_CNT_COUNT _
    | with_reducible exact hTIM_DOM_OFFSET_OFFSET _
    | with_reducible exact hTIM_DOM_RATE_RATE _
    | ((try lift_lets -underBinder); intro x; refine Keep.use (k := km) (q := pq) (s := x) ?_ ?_; (on_goal 1 => dsimp -zeta only [x]); (on_goal 2 => clear_value x; intro _))
    | ((try lift_lets -underBinder); intro x; refine Keep.usePair (k := km) (q := pq) (p := x) ?_ ?_; (on_goal 1 => dsimp -zeta only [x]); (on_goal 2 => clear_value x; intro _))
    | ((try lift_lets -underBinder); intro x; refine Keep.memSt (x := x) ?_; subst x)
    | ((try lift_lets -underBinder); intro x; refine Keep.depSt (x := x) ?_; subst x)
    | ((try lift_lets -underBinder); intro x; clear_value x)
    | (intro _)
    | with_reducible apply Keep.ite
    | with_reducible apply State.complete_good
    | split

theorem State.answer_good (out : km.part .out) (tim : km.part .tim) (line : km.part .line) (que : km.part .que)
    (hPG_ERR_ADDR_HI : ∀ a, km.fld (R.PG.ERR_ADDR_HI a)) (hPG_ERR_ADDR_LO : ∀ a, km.fld (R.PG.ERR_ADDR_LO a))
    (hPG_ERR_CODE : ∀ a, km.fld (R.PG.ERR_CODE a)) (hPG_ERR_COUNT : ∀ a, km.fld (R.PG.ERR_COUNT a))
    (hPG_ERR_OVERFLOW : ∀ a, km.fld (R.PG.ERR_OVERFLOW a)) (hPG_ERR_SOURCE : ∀ a, km.fld (R.PG.ERR_SOURCE a))
    (hPG_ERR_VALID : ∀ a, km.fld (R.PG.ERR_VALID a)) (hPG_EVT_PEND : ∀ a, km.fld (R.PG.EVT_PEND a))
    (hPG_POISON_SEEN : ∀ a, km.fld (R.PG.POISON_SEEN a)) (hQCX_Q_CTRL_IDLE : ∀ a, km.fld (R.QCX.Q_CTRL.IDLE a))
    (hQCX_Q_DONE_CNT_COUNT : ∀ a, km.fld (R.QCX.Q_DONE_CNT.COUNT a))
    (hQCX_Q_HEAD_IDX : ∀ a, km.fld (R.QCX.Q_HEAD.IDX a))
    (hQCX_Q_INFLIGHT_COUNT : ∀ a, km.fld (R.QCX.Q_INFLIGHT.COUNT a))
    (hQUE_DESC_ERR_COUNT : km.fld R.QUE.DESC_ERR.COUNT) (hQUE_INFLIGHT_COUNT : km.fld R.QUE.INFLIGHT.COUNT)
    (hTEN_REVOKED_CNT_COUNT : ∀ a, km.fld (R.TEN.REVOKED_CNT.COUNT a))
    (hTIM_DOM_OFFSET_OFFSET : ∀ a, km.fld (R.TIM.DOM_OFFSET.OFFSET a))
    (hTIM_DOM_RATE_RATE : ∀ a, km.fld (R.TIM.DOM_RATE.RATE a)) (s : State) (q idx part status : Nat)
    (data : List Nat) (hs : s.Keeps km pq) : (State.answer s q idx part status data).Keeps km pq := by
  unfold State.answer
  repeat' first
    | with_reducible assumption
    | with_reducible exact hPG_ERR_ADDR_HI _
    | with_reducible exact hPG_ERR_ADDR_LO _
    | with_reducible exact hPG_ERR_CODE _
    | with_reducible exact hPG_ERR_COUNT _
    | with_reducible exact hPG_ERR_OVERFLOW _
    | with_reducible exact hPG_ERR_SOURCE _
    | with_reducible exact hPG_ERR_VALID _
    | with_reducible exact hPG_EVT_PEND _
    | with_reducible exact hPG_POISON_SEEN _
    | with_reducible exact hQCX_Q_CTRL_IDLE _
    | with_reducible exact hQCX_Q_DONE_CNT_COUNT _
    | with_reducible exact hQCX_Q_HEAD_IDX _
    | with_reducible exact hQCX_Q_INFLIGHT_COUNT _
    | with_reducible exact hTEN_REVOKED_CNT_COUNT _
    | with_reducible exact hTIM_DOM_OFFSET_OFFSET _
    | with_reducible exact hTIM_DOM_RATE_RATE _
    | ((try lift_lets -underBinder); intro x; refine Keep.use (k := km) (q := pq) (s := x) ?_ ?_; (on_goal 1 => dsimp -zeta only [x]); (on_goal 2 => clear_value x; intro _))
    | ((try lift_lets -underBinder); intro x; refine Keep.usePair (k := km) (q := pq) (p := x) ?_ ?_; (on_goal 1 => dsimp -zeta only [x]); (on_goal 2 => clear_value x; intro _))
    | ((try lift_lets -underBinder); intro x; refine Keep.memSt (x := x) ?_; subst x)
    | ((try lift_lets -underBinder); intro x; refine Keep.depSt (x := x) ?_; subst x)
    | ((try lift_lets -underBinder); intro x; clear_value x)
    | (intro _)
    | with_reducible apply State.setDesc_good
    | with_reducible apply State.settle_good
    | split

theorem State.recheck_good (out : km.part .out) (tim : km.part .tim) (line : km.part .line) (que : km.part .que)
    (hPG_ERR_ADDR_HI : ∀ a, km.fld (R.PG.ERR_ADDR_HI a)) (hPG_ERR_ADDR_LO : ∀ a, km.fld (R.PG.ERR_ADDR_LO a))
    (hPG_ERR_CODE : ∀ a, km.fld (R.PG.ERR_CODE a)) (hPG_ERR_COUNT : ∀ a, km.fld (R.PG.ERR_COUNT a))
    (hPG_ERR_OVERFLOW : ∀ a, km.fld (R.PG.ERR_OVERFLOW a)) (hPG_ERR_SOURCE : ∀ a, km.fld (R.PG.ERR_SOURCE a))
    (hPG_ERR_VALID : ∀ a, km.fld (R.PG.ERR_VALID a)) (hPG_EVT_PEND : ∀ a, km.fld (R.PG.EVT_PEND a))
    (hPG_POISON_SEEN : ∀ a, km.fld (R.PG.POISON_SEEN a)) (hQCX_Q_CTRL_IDLE : ∀ a, km.fld (R.QCX.Q_CTRL.IDLE a))
    (hQCX_Q_DONE_CNT_COUNT : ∀ a, km.fld (R.QCX.Q_DONE_CNT.COUNT a))
    (hQCX_Q_HEAD_IDX : ∀ a, km.fld (R.QCX.Q_HEAD.IDX a))
    (hQCX_Q_INFLIGHT_COUNT : ∀ a, km.fld (R.QCX.Q_INFLIGHT.COUNT a))
    (hQUE_DESC_ERR_COUNT : km.fld R.QUE.DESC_ERR.COUNT) (hQUE_INFLIGHT_COUNT : km.fld R.QUE.INFLIGHT.COUNT)
    (hTEN_REVOKED_CNT_COUNT : ∀ a, km.fld (R.TEN.REVOKED_CNT.COUNT a))
    (hTIM_DOM_OFFSET_OFFSET : ∀ a, km.fld (R.TIM.DOM_OFFSET.OFFSET a))
    (hTIM_DOM_RATE_RATE : ∀ a, km.fld (R.TIM.DOM_RATE.RATE a)) (s : State) (q idx : Nat) (hs : s.Keeps km pq) : (State.recheck s q idx).1.Keeps km pq := by
  unfold State.recheck
  repeat' first
    | with_reducible assumption
    | with_reducible exact hPG_ERR_ADDR_HI _
    | with_reducible exact hPG_ERR_ADDR_LO _
    | with_reducible exact hPG_ERR_CODE _
    | with_reducible exact hPG_ERR_COUNT _
    | with_reducible exact hPG_ERR_OVERFLOW _
    | with_reducible exact hPG_ERR_SOURCE _
    | with_reducible exact hPG_ERR_VALID _
    | with_reducible exact hPG_EVT_PEND _
    | with_reducible exact hPG_POISON_SEEN _
    | with_reducible exact hQCX_Q_CTRL_IDLE _
    | with_reducible exact hQCX_Q_DONE_CNT_COUNT _
    | with_reducible exact hQCX_Q_HEAD_IDX _
    | with_reducible exact hQCX_Q_INFLIGHT_COUNT _
    | with_reducible exact hTEN_REVOKED_CNT_COUNT _
    | with_reducible exact hTIM_DOM_OFFSET_OFFSET _
    | with_reducible exact hTIM_DOM_RATE_RATE _
    | ((try lift_lets -underBinder); intro x; refine Keep.use (k := km) (q := pq) (s := x) ?_ ?_; (on_goal 1 => dsimp -zeta only [x]); (on_goal 2 => clear_value x; intro _))
    | ((try lift_lets -underBinder); intro x; refine Keep.usePair (k := km) (q := pq) (p := x) ?_ ?_; (on_goal 1 => dsimp -zeta only [x]); (on_goal 2 => clear_value x; intro _))
    | ((try lift_lets -underBinder); intro x; refine Keep.memSt (x := x) ?_; subst x)
    | ((try lift_lets -underBinder); intro x; refine Keep.depSt (x := x) ?_; subst x)
    | ((try lift_lets -underBinder); intro x; clear_value x)
    | (intro _)
    | with_reducible apply Keep.ite
    | with_reducible apply Keep.ite1
    | dsimp -zeta only
    | with_reducible apply State.setDesc_good
    | with_reducible apply State.complete_good
    | with_reducible apply State.settle_good
    | split

end Sys2Proof.Machine
end

