-- ==== Sys2Proof/Laws/KeepsLineBase.lean ====
section
/-!
SUPPORT. Every function of Machine/LineBase.lean changes what the hypotheses of its lemma name, and nothing else.
-/
namespace Sys2Proof.Machine
set_option Elab.async false
set_option linter.unusedVariables false
set_option linter.unusedTactic false
set_option linter.unreachableTactic false

variable {km : May} {pq : State}

theorem State.send_good (out : km.part .out) (line : km.part .line) (s : State) (p : Nat) (m : Msg)
    (hs : s.Keeps km pq) : (State.send s p m).Keeps km pq := by
  unfold State.send
  repeat' first
    | with_reducible assumption
    | (intro _)
    | with_reducible apply Keep.ite
    | with_reducible apply State.queueMsg_good

theorem State.setLineTx_good (line : km.part .line) (s : State) (p : Nat) (x : LineTx) (hs : s.Keeps km pq) : (State.setLineTx s p x).Keeps km pq := by
  unfold State.setLineTx
  repeat' first
    | with_reducible assumption
    | ((try lift_lets -underBinder); intro x; refine Keep.use (k := km) (q := pq) (s := x) ?_ ?_; (on_goal 1 => dsimp -zeta only [x]); (on_goal 2 => clear_value x; intro _))
    | ((try lift_lets -underBinder); intro x; refine Keep.usePair (k := km) (q := pq) (p := x) ?_ ?_; (on_goal 1 => dsimp -zeta only [x]); (on_goal 2 => clear_value x; intro _))
    | ((try lift_lets -underBinder); intro x; refine Keep.memSt (x := x) ?_; subst x)
    | ((try lift_lets -underBinder); intro x; refine Keep.depSt (x := x) ?_; subst x)
    | ((try lift_lets -underBinder); intro x; clear_value x)
    | (intro _)
    | with_reducible apply Keep.ite
    | (simp -zeta only [Keep.mk_iff]; with_reducible refine Keep.upd ?_ rfl ?_; on_goal 2 => (and_intros <;> with_reducible first | exact .inl rfl | exact .inl ⟨rfl, rfl, rfl⟩ | exact .inr ‹_› | exact Nat.le_refl _ | exact Nat.le_add_right _ _))

theorem State.showTmo_good (hLNE_TXN_TMO_EFF_US : ∀ a, km.fld (R.LNE.TXN_TMO.EFF_US a)) (s : State) (p : Nat)
    (hs : s.Keeps km pq) : (State.showTmo s p).Keeps km pq := by
  unfold State.showTmo
  repeat' first
    | with_reducible assumption
    | with_reducible exact hLNE_TXN_TMO_EFF_US _
    | (intro _)
    | with_reducible apply State.set_good

theorem State.showTxns_good (hLNE_INFLIGHT_COUNT : ∀ a, km.fld (R.LNE.INFLIGHT.COUNT a)) (s : State) (p : Nat)
    (hs : s.Keeps km pq) : (State.showTxns s p).Keeps km pq := by
  unfold State.showTxns
  repeat' first
    | with_reducible assumption
    | with_reducible exact hLNE_INFLIGHT_COUNT _
    | (intro _)
    | with_reducible apply State.set_good

theorem State.dispatch_good (out : km.part .out) (tim : km.part .tim) (line : km.part .line)
    (hLNE_INFLIGHT_COUNT : ∀ a, km.fld (R.LNE.INFLIGHT.COUNT a))
    (hTIM_DOM_OFFSET_OFFSET : ∀ a, km.fld (R.TIM.DOM_OFFSET.OFFSET a))
    (hTIM_DOM_RATE_RATE : ∀ a, km.fld (R.TIM.DOM_RATE.RATE a)) (s : State) (p : Nat) (req : ReqMsg) (owner : Owner)
    (tenant : Nat) (hs : s.Keeps km pq) : (State.dispatch s p req owner tenant).Keeps km pq := by
  unfold State.dispatch
  repeat' first
    | with_reducible assumption
    | with_reducible exact hLNE_INFLIGHT_COUNT _
    | with_reducible exact hTIM_DOM_OFFSET_OFFSET _
    | with_reducible exact hTIM_DOM_RATE_RATE _
    | ((try lift_lets -underBinder); intro x; refine Keep.use (k := km) (q := pq) (s := x) ?_ ?_; (on_goal 1 => dsimp -zeta only [x]); (on_goal 2 => clear_value x; intro _))
    | ((try lift_lets -underBinder); intro x; refine Keep.usePair (k := km) (q := pq) (p := x) ?_ ?_; (on_goal 1 => dsimp -zeta only [x]); (on_goal 2 => clear_value x; intro _))
    | ((try lift_lets -underBinder); intro x; refine Keep.memSt (x := x) ?_; subst x)
    | ((try lift_lets -underBinder); intro x; refine Keep.depSt (x := x) ?_; subst x)
    | ((try lift_lets -underBinder); intro x; clear_value x)
    | (intro _)
    | with_reducible apply State.setLineTx_good
    | with_reducible apply State.filter_good
    | with_reducible apply State.showTxns_good
    | with_reducible apply State.send_good

theorem State.showOld_good (tim : km.part .tim) (hTEN_RULE_STAT_OLD : km.fld R.TEN.RULE_STAT.OLD)
    (hTIM_DOM_OFFSET_OFFSET : ∀ a, km.fld (R.TIM.DOM_OFFSET.OFFSET a))
    (hTIM_DOM_RATE_RATE : ∀ a, km.fld (R.TIM.DOM_RATE.RATE a)) (s : State) (hs : s.Keeps km pq) : (State.showOld s).Keeps km pq := by
  unfold State.showOld
  repeat' first
    | with_reducible assumption
    | with_reducible exact hTIM_DOM_OFFSET_OFFSET _
    | with_reducible exact hTIM_DOM_RATE_RATE _
    | ((try lift_lets -underBinder); intro x; refine Keep.use (k := km) (q := pq) (s := x) ?_ ?_; (on_goal 1 => dsimp -zeta only [x]); (on_goal 2 => clear_value x; intro _))
    | ((try lift_lets -underBinder); intro x; refine Keep.usePair (k := km) (q := pq) (p := x) ?_ ?_; (on_goal 1 => dsimp -zeta only [x]); (on_goal 2 => clear_value x; intro _))
    | ((try lift_lets -underBinder); intro x; refine Keep.memSt (x := x) ?_; subst x)
    | ((try lift_lets -underBinder); intro x; refine Keep.depSt (x := x) ?_; subst x)
    | ((try lift_lets -underBinder); intro x; clear_value x)
    | (intro _)
    | with_reducible apply Keep.ite
    | with_reducible apply State.filter_good
    | with_reducible apply State.set_good

theorem State.reply_good (out : km.part .out) (hSVP_TX_DGRAM_COUNT : km.fld R.SVP.TX_DGRAM.COUNT) (s : State)
    (dst : Caller) (op tag status : Nat) (data : List Byte) (hs : s.Keeps km pq) : (State.reply s dst op tag status data).Keeps km pq := by
  unfold State.reply
  repeat' first
    | with_reducible assumption
    | (intro _)
    | with_reducible apply Keep.ite
    | with_reducible apply State.count_good
    | with_reducible apply State.emit_good

theorem State.tell_good (out : km.part .out) (tim : km.part .tim) (line : km.part .line) (que : km.part .que)
    (hPG_ERR_ADDR_HI : ∀ a, km.fld (R.PG.ERR_ADDR_HI a)) (hPG_ERR_ADDR_LO : ∀ a, km.fld (R.PG.ERR_ADDR_LO a))
    (hPG_ERR_CODE : ∀ a, km.fld (R.PG.ERR_CODE a)) (hPG_ERR_COUNT : ∀ a, km.fld (R.PG.ERR_COUNT a))
    (hPG_ERR_OVERFLOW : ∀ a, km.fld (R.PG.ERR_OVERFLOW a)) (hPG_ERR_SOURCE : ∀ a, km.fld (R.PG.ERR_SOURCE a))
    (hPG_ERR_VALID : ∀ a, km.fld (R.PG.ERR_VALID a)) (hPG_EVT_PEND : ∀ a, km.fld (R.PG.EVT_PEND a))
    (hPG_POISON_SEEN : ∀ a, km.fld (R.PG.POISON_SEEN a)) (hQCX_Q_CTRL_IDLE : ∀ a, km.fld (R.QCX.Q_CTRL.IDLE a))
    (hQCX_Q_DONE_CNT_COUNT : ∀ a, km.fld (R.QCX.Q_DONE_CNT.COUNT a))
    (hQCX_Q_HEAD_IDX : ∀ a, km.fld (R.QCX.Q_HEAD.IDX a))
    (hQCX_Q_INFLIGHT_COUNT : ∀ a, km.fld (R.QCX.Q_INFLIGHT.COUNT a))
    (hQUE_DESC_ERR_COUNT : km.fld R.QUE.DESC_ERR.COUNT) (hQUE_INFLIGHT_COUNT : km.fld R.QUE.INFLIGHT.COUNT)
    (hSVP_TX_DGRAM_COUNT : km.fld R.SVP.TX_DGRAM.COUNT)
    (hTEN_REVOKED_CNT_COUNT : ∀ a, km.fld (R.TEN.REVOKED_CNT.COUNT a))
    (hTIM_DOM_OFFSET_OFFSET : ∀ a, km.fld (R.TIM.DOM_OFFSET.OFFSET a))
    (hTIM_DOM_RATE_RATE : ∀ a, km.fld (R.TIM.DOM_RATE.RATE a)) (s : State) (o : Owner) (op status : Nat)
    (data : List Nat) (hs : s.Keeps km pq) : (State.tell s o op status data).Keeps km pq := by
  unfold State.tell
  repeat' first
    | with_reducible assumption
    | with_reducible exact hPG_ERR_ADDR_HI _
    | with_reducible exact hPG_ERR_ADDR_LO _
    | with_reducible exact hPG_ERR_CODE _
    | with_reducible exact hPG_ERR_COUNT _
    | with_reducible exact hPG_ERR_OVERFLOW _
    | with_reducible exact hPG_ERR_SOURCE _
    | with_reducible exact hPG_ERR_VALID _
    | with_reducible exact hPG_EVT_PEND _
    | with_reducible exact hPG_POISON_SEEN _
    | with_reducible exact hQCX_Q_CTRL_IDLE _
    | with_reducible exact hQCX_Q_DONE_CNT_COUNT _
    | with_reducible exact hQCX_Q_HEAD_IDX _
    | with_reducible exact hQCX_Q_INFLIGHT_COUNT _
    | with_reducible exact hTEN_REVOKED_CNT_COUNT _
    | with_reducible exact hTIM_DOM_OFFSET_OFFSET _
    | with_reducible exact hTIM_DOM_RATE_RATE _
    | ((try lift_lets -underBinder); intro x; refine Keep.use (k := km) (q := pq) (s := x) ?_ ?_; (on_goal 1 => dsimp -zeta only [x]); (on_goal 2 => clear_value x; intro _))
    | ((try lift_lets -underBinder); intro x; refine Keep.usePair (k := km) (q := pq) (p := x) ?_ ?_; (on_goal 1 => dsimp -zeta only [x]); (on_goal 2 => clear_value x; intro _))
    | ((try lift_lets -underBinder); intro x; refine Keep.memSt (x := x) ?_; subst x)
    | ((try lift_lets -underBinder); intro x; refine Keep.depSt (x := x) ?_; subst x)
    | ((try lift_lets -underBinder); intro x; clear_value x)
    | (intro _)
    | with_reducible apply State.answer_good
    | with_reducible apply State.reply_good
    | split

theorem State.txnDone_good (out : km.part .out) (tim : km.part .tim) (line : km.part .line) (que : km.part .que)
    (hLNE_INFLIGHT_COUNT : ∀ a, km.fld (R.LNE.INFLIGHT.COUNT a)) (hPG_ERR_ADDR_HI : ∀ a, km.fld (R.PG.ERR_ADDR_HI a))
    (hPG_ERR_ADDR_LO : ∀ a, km.fld (R.PG.ERR_ADDR_LO a)) (hPG_ERR_CODE : ∀ a, km.fld (R.PG.ERR_CODE a))
    (hPG_ERR_COUNT : ∀ a, km.fld (R.PG.ERR_COUNT a)) (hPG_ERR_OVERFLOW : ∀ a, km.fld (R.PG.ERR_OVERFLOW a))
    (hPG_ERR_SOURCE : ∀ a, km.fld (R.PG.ERR_SOURCE a)) (hPG_ERR_VALID : ∀ a, km.fld (R.PG.ERR_VALID a))
    (hPG_EVT_PEND : ∀ a, km.fld (R.PG.EVT_PEND a)) (hPG_POISON_SEEN : ∀ a, km.fld (R.PG.POISON_SEEN a))
    (hQCX_Q_CTRL_IDLE : ∀ a, km.fld (R.QCX.Q_CTRL.IDLE a))
    (hQCX_Q_DONE_CNT_COUNT : ∀ a, km.fld (R.QCX.Q_DONE_CNT.COUNT a))
    (hQCX_Q_HEAD_IDX : ∀ a, km.fld (R.QCX.Q_HEAD.IDX a))
    (hQCX_Q_INFLIGHT_COUNT : ∀ a, km.fld (R.QCX.Q_INFLIGHT.COUNT a))
    (hQUE_DESC_ERR_COUNT : km.fld R.QUE.DESC_ERR.COUNT) (hQUE_INFLIGHT_COUNT : km.fld R.QUE.INFLIGHT.COUNT)
    (hSVP_TX_DGRAM_COUNT : km.fld R.SVP.TX_DGRAM.COUNT)
    (hTEN_FLR_DISCARD_COUNT : ∀ a, km.fld (R.TEN.FLR_DISCARD.COUNT a))
    (hTEN_REVOKED_CNT_COUNT : ∀ a, km.fld (R.TEN.REVOKED_CNT.COUNT a))
    (hTEN_RULE_STAT_OLD : km.fld R.TEN.RULE_STAT.OLD)
    (hTIM_DOM_OFFSET_OFFSET : ∀ a, km.fld (R.TIM.DOM_OFFSET.OFFSET a))
    (hTIM_DOM_RATE_RATE : ∀ a, km.fld (R.TIM.DOM_RATE.RATE a)) (s : State) (p : Nat) (t : Txn) (status : Nat)
    (data : List Nat) (hs : s.Keeps km pq) : (State.txnDone s p t status data).Keeps km pq := by
  unfold State.txnDone
  repeat' first
    | with_reducible assumption
    | with_reducible exact hLNE_INFLIGHT_COUNT _
    | with_reducible exact hPG_ERR_ADDR_HI _
    | with_reducible exact hPG_ERR_ADDR_LO _
    | with_reducible exact hPG_ERR_CODE _
    | with_reducible exact hPG_ERR_COUNT _
    | with_reducible exact hPG_ERR_OVERFLOW _
    | with_reducible exact hPG_ERR_SOURCE _
    | with_reducible exact hPG_ERR_VALID _
    | with_reducible exact hPG_EVT_PEND _
    | with_reducible exact hPG_POISON_SEEN _
    | with_reducible exact hQCX_Q_CTRL_IDLE _
    | with_reducible exact hQCX_Q_DONE_CNT_COUNT _
    | with_reducible exact hQCX_Q_HEAD_IDX _
    | with_reducible exact hQCX_Q_INFLIGHT_COUNT _
    | with_reducible exact hTEN_FLR_DISCARD_COUNT _
    | with_reducible exact hTEN_REVOKED_CNT_COUNT _
    | with_reducible exact hTIM_DOM_OFFSET_OFFSET _
    | with_reducible exact hTIM_DOM_RATE_RATE _
    | ((try lift_lets -underBinder); intro x; refine Keep.use (k := km) (q := pq) (s := x) ?_ ?_; (on_goal 1 => dsimp -zeta only [x]); (on_goal 2 => clear_value x; intro _))
    | ((try lift_lets -underBinder); intro x; refine Keep.usePair (k := km) (q := pq) (p := x) ?_ ?_; (on_goal 1 => dsimp -zeta only [x]); (on_goal 2 => clear_value x; intro _))
    | ((try lift_lets -underBinder); intro x; refine Keep.memSt (x := x) ?_; subst x)
    | ((try lift_lets -underBinder); intro x; refine Keep.depSt (x := x) ?_; subst x)
    | ((try lift_lets -underBinder); intro x; clear_value x)
    | (intro _)
    | with_reducible apply Keep.ite
    | with_reducible apply State.setLineTx_good
    | with_reducible apply State.filter_good
    | with_reducible apply State.showTxns_good
    | with_reducible apply State.showOld_good
    | with_reducible apply State.count_good
    | with_reducible apply State.tell_good

theorem State.pumpOne_good (out : km.part .out) (tim : km.part .tim) (line : km.part .line) (que : km.part .que)
    (hLNE_INFLIGHT_COUNT : ∀ a, km.fld (R.LNE.INFLIGHT.COUNT a)) (hPG_ERR_ADDR_HI : ∀ a, km.fld (R.PG.ERR_ADDR_HI a))
    (hPG_ERR_ADDR_LO : ∀ a, km.fld (R.PG.ERR_ADDR_LO a)) (hPG_ERR_CODE : ∀ a, km.fld (R.PG.ERR_CODE a))
    (hPG_ERR_COUNT : ∀ a, km.fld (R.PG.ERR_COUNT a)) (hPG_ERR_OVERFLOW : ∀ a, km.fld (R.PG.ERR_OVERFLOW a))
    (hPG_ERR_SOURCE : ∀ a, km.fld (R.PG.ERR_SOURCE a)) (hPG_ERR_VALID : ∀ a, km.fld (R.PG.ERR_VALID a))
    (hPG_EVT_PEND : ∀ a, km.fld (R.PG.EVT_PEND a)) (hPG_POISON_SEEN : ∀ a, km.fld (R.PG.POISON_SEEN a))
    (hQCX_Q_CTRL_IDLE : ∀ a, km.fld (R.QCX.Q_CTRL.IDLE a))
    (hQCX_Q_DONE_CNT_COUNT : ∀ a, km.fld (R.QCX.Q_DONE_CNT.COUNT a))
    (hQCX_Q_HEAD_IDX : ∀ a, km.fld (R.QCX.Q_HEAD.IDX a))
    (hQCX_Q_INFLIGHT_COUNT : ∀ a, km.fld (R.QCX.Q_INFLIGHT.COUNT a))
    (hQUE_DESC_ERR_COUNT : km.fld R.QUE.DESC_ERR.COUNT) (hQUE_INFLIGHT_COUNT : km.fld R.QUE.INFLIGHT.COUNT)
    (hSVP_TX_DGRAM_COUNT : km.fld R.SVP.TX_DGRAM.COUNT)
    (hTEN_REVOKED_CNT_COUNT : ∀ a, km.fld (R.TEN.REVOKED_CNT.COUNT a))
    (hTIM_DOM_OFFSET_OFFSET : ∀ a, km.fld (R.TIM.DOM_OFFSET.OFFSET a))
    (hTIM_DOM_RATE_RATE : ∀ a, km.fld (R.TIM.DOM_RATE.RATE a)) (s : State) (p : Nat) (hs : s.Keeps km pq) : (State.pumpOne s p).Keeps km pq := by
  unfold State.pumpOne
  repeat' first
    | with_reducible assumption
    | with_reducible exact hLNE_INFLIGHT_COUNT _
    | with_reducible exact hPG_ERR_ADDR_HI _
    | with_reducible exact hPG_ERR_ADDR_LO _
    | with_reducible exact hPG_ERR_CODE _
    | with_reducible exact hPG_ERR_COUNT _
    | with_reducible exact hPG_ERR_OVERFLOW _
    | with_reducible exact hPG_ERR_SOURCE _
    | with_reducible exact hPG_ERR_VALID _
    | with_reducible exact hPG_EVT_PEND _
    | with_reducible exact hPG_POISON_SEEN _
    | with_reducible exact hQCX_Q_CTRL_IDLE _
    | with_reducible exact hQCX_Q_DONE_CNT_COUNT _
    | with_reducible exact hQCX_Q_HEAD_IDX _
    | with_reducible exact hQCX_Q_INFLIGHT_COUNT _
    | with_reducible exact hTEN_REVOKED_CNT_COUNT _
    | with_reducible exact hTIM_DOM_OFFSET_OFFSET _
    | with_reducible exact hTIM_DOM_RATE_RATE _
    | ((try lift_lets -underBinder); intro x; refine Keep.use (k := km) (q := pq) (s := x) ?_ ?_; (on_goal 1 => dsimp -zeta only [x]); (on_goal 2 => clear_value x; intro _))
    | ((try lift_lets -underBinder); intro x; refine Keep.usePair (k := km) (q := pq) (p := x) ?_ ?_; (on_goal 1 => dsimp -zeta only [x]); (on_goal 2 => clear_value x; intro _))
    | ((try lift_lets -underBinder); intro x; refine Keep.memSt (x := x) ?_; subst x)
    | ((try lift_lets -underBinder); intro x; refine Keep.depSt (x := x) ?_; subst x)
    | ((try lift_lets -underBinder); intro x; clear_value x)
    | (intro _)
    | with_reducible apply Keep.ite
    | with_reducible apply State.setLineTx_good
    | with_reducible apply State.tell_good
    | with_reducible apply State.dispatch_good
    | split

theorem State.pump_good (out : km.part .out) (tim : km.part .tim) (line : km.part .line) (que : km.part .que)
    (hLNE_INFLIGHT_COUNT : ∀ a, km.fld (R.LNE.INFLIGHT.COUNT a)) (hPG_ERR_ADDR_HI : ∀ a, km.fld (R.PG.ERR_ADDR_HI a))
    (hPG_ERR_ADDR_LO : ∀ a, km.fld (R.PG.ERR_ADDR_LO a)) (hPG_ERR_CODE : ∀ a, km.fld (R.PG.ERR_CODE a))
    (hPG_ERR_COUNT : ∀ a, km.fld (R.PG.ERR_COUNT a)) (hPG_ERR_OVERFLOW : ∀ a, km.fld (R.PG.ERR_OVERFLOW a))
    (hPG_ERR_SOURCE : ∀ a, km.fld (R.PG.ERR_SOURCE a)) (hPG_ERR_VALID : ∀ a, km.fld (R.PG.ERR_VALID a))
    (hPG_EVT_PEND : ∀ a, km.fld (R.PG.EVT_PEND a)) (hPG_POISON_SEEN : ∀ a, km.fld (R.PG.POISON_SEEN a))
    (hQCX_Q_CTRL_IDLE : ∀ a, km.fld (R.QCX.Q_CTRL.IDLE a))
    (hQCX_Q_DONE_CNT_COUNT : ∀ a, km.fld (R.QCX.Q_DONE_CNT.COUNT a))
    (hQCX_Q_HEAD_IDX : ∀ a, km.fld (R.QCX.Q_HEAD.IDX a))
    (hQCX_Q_INFLIGHT_COUNT : ∀ a, km.fld (R.QCX.Q_INFLIGHT.COUNT a))
    (hQUE_DESC_ERR_COUNT : km.fld R.QUE.DESC_ERR.COUNT) (hQUE_INFLIGHT_COUNT : km.fld R.QUE.INFLIGHT.COUNT)
    (hSVP_TX_DGRAM_COUNT : km.fld R.SVP.TX_DGRAM.COUNT)
    (hTEN_REVOKED_CNT_COUNT : ∀ a, km.fld (R.TEN.REVOKED_CNT.COUNT a))
    (hTIM_DOM_OFFSET_OFFSET : ∀ a, km.fld (R.TIM.DOM_OFFSET.OFFSET a))
    (hTIM_DOM_RATE_RATE : ∀ a, km.fld (R.TIM.DOM_RATE.RATE a)) (s : State) (p : Nat) (hs : s.Keeps km pq) : (State.pump s p).Keeps km pq := by
  unfold State.pump
  repeat' first
    | with_reducible assumption
    | with_reducible exact hLNE_INFLIGHT_COUNT _
    | with_reducible exact hPG_ERR_ADDR_HI _
    | with_reducible exact hPG_ERR_ADDR_LO _
    | with_reducible exact hPG_ERR_CODE _
    | with_reducible exact hPG_ERR_COUNT _
    | with_reducible exact hPG_ERR_OVERFLOW _
    | with_reducible exact hPG_ERR_SOURCE _
    | with_reducible exact hPG_ERR_VALID _
    | with_reducible exact hPG_EVT_PEND _
    | with_reducible exact hPG_POISON_SEEN _
    | with_reducible exact hQCX_Q_CTRL_IDLE _
    | with_reducible exact hQCX_Q_DONE_CNT_COUNT _
    | with_reducible exact hQCX_Q_HEAD_IDX _
    | with_reducible exact hQCX_Q_INFLIGHT_COUNT _
    | with_reducible exact hTEN_REVOKED_CNT_COUNT _
    | with_reducible exact hTIM_DOM_OFFSET_OFFSET _
    | with_reducible exact hTIM_DOM_RATE_RATE _
    | (intro _)
    | with_reducible apply State.forN_good
    | with_reducible apply State.pumpOne_good

theorem State.request_good (out : km.part .out) (tim : km.part .tim) (line : km.part .line)
    (hLNE_INFLIGHT_COUNT : ∀ a, km.fld (R.LNE.INFLIGHT.COUNT a))
    (hLNE_STALL_CNT_COUNT : ∀ a, km.fld (R.LNE.STALL_CNT.COUNT a))
    (hTIM_DOM_OFFSET_OFFSET : ∀ a, km.fld (R.TIM.DOM_OFFSET.OFFSET a))
    (hTIM_DOM_RATE_RATE : ∀ a, km.fld (R.TIM.DOM_RATE.RATE a)) (s : State) (p : Nat) (req : ReqMsg) (owner : Owner)
    (tenant : Nat) (hs : s.Keeps km pq) : (State.request s p req owner tenant).Keeps km pq := by
  unfold State.request
  repeat' first
    | with_reducible assumption
    | with_reducible exact hLNE_INFLIGHT_COUNT _
    | with_reducible exact hLNE_STALL_CNT_COUNT _
    | with_reducible exact hTIM_DOM_OFFSET_OFFSET _
    | with_reducible exact hTIM_DOM_RATE_RATE _
    | ((try lift_lets -underBinder); intro x; refine Keep.use (k := km) (q := pq) (s := x) ?_ ?_; (on_goal 1 => dsimp -zeta only [x]); (on_goal 2 => clear_value x; intro _))
    | ((try lift_lets -underBinder); intro x; refine Keep.usePair (k := km) (q := pq) (p := x) ?_ ?_; (on_goal 1 => dsimp -zeta only [x]); (on_goal 2 => clear_value x; intro _))
    | ((try lift_lets -underBinder); intro x; refine Keep.memSt (x := x) ?_; subst x)
    | ((try lift_lets -underBinder); intro x; refine Keep.depSt (x := x) ?_; subst x)
    | ((try lift_lets -underBinder); intro x; clear_value x)
    | (intro _)
    | with_reducible apply Keep.ite
    | with_reducible apply State.dispatch_good
    | with_reducible apply State.setLineTx_good
    | with_reducible apply State.count_good

theorem State.txnExpire_good (out : km.part .out) (tim : km.part .tim) (line : km.part .line) (que : km.part .que)
    (hLNE_INFLIGHT_COUNT : ∀ a, km.fld (R.LNE.INFLIGHT.COUNT a))
    (hLNE_TMO_CNT_COUNT : ∀ a, km.fld (R.LNE.TMO_CNT.COUNT a)) (hPG_ERR_ADDR_HI : ∀ a, km.fld (R.PG.ERR_ADDR_HI a))
    (hPG_ERR_ADDR_LO : ∀ a, km.fld (R.PG.ERR_ADDR_LO a)) (hPG_ERR_CODE : ∀ a, km.fld (R.PG.ERR_CODE a))
    (hPG_ERR_COUNT : ∀ a, km.fld (R.PG.ERR_COUNT a)) (hPG_ERR_OVERFLOW : ∀ a, km.fld (R.PG.ERR_OVERFLOW a))
    (hPG_ERR_SOURCE : ∀ a, km.fld (R.PG.ERR_SOURCE a)) (hPG_ERR_VALID : ∀ a, km.fld (R.PG.ERR_VALID a))
    (hPG_EVT_PEND : ∀ a, km.fld (R.PG.EVT_PEND a)) (hPG_POISON_SEEN : ∀ a, km.fld (R.PG.POISON_SEEN a))
    (hQCX_Q_CTRL_IDLE : ∀ a, km.fld (R.QCX.Q_CTRL.IDLE a))
    (hQCX_Q_DONE_CNT_COUNT : ∀ a, km.fld (R.QCX.Q_DONE_CNT.COUNT a))
    (hQCX_Q_HEAD_IDX : ∀ a, km.fld (R.QCX.Q_HEAD.IDX a))
    (hQCX_Q_INFLIGHT_COUNT : ∀ a, km.fld (R.QCX.Q_INFLIGHT.COUNT a))
    (hQUE_DESC_ERR_COUNT : km.fld R.QUE.DESC_ERR.COUNT) (hQUE_INFLIGHT_COUNT : km.fld R.QUE.INFLIGHT.COUNT)
    (hSVP_TX_DGRAM_COUNT : km.fld R.SVP.TX_DGRAM.COUNT)
    (hTEN_FLR_DISCARD_COUNT : ∀ a, km.fld (R.TEN.FLR_DISCARD.COUNT a))
    (hTEN_REVOKED_CNT_COUNT : ∀ a, km.fld (R.TEN.REVOKED_CNT.COUNT a))
    (hTEN_RULE_STAT_OLD : km.fld R.TEN.RULE_STAT.OLD)
    (hTIM_DOM_OFFSET_OFFSET : ∀ a, km.fld (R.TIM.DOM_OFFSET.OFFSET a))
    (hTIM_DOM_RATE_RATE : ∀ a, km.fld (R.TIM.DOM_RATE.RATE a)) (s : State) (p : Nat) (t : Txn) (hs : s.Keeps km pq) : (State.txnExpire s p t).Keeps km pq := by
  unfold State.txnExpire
  repeat' first
    | with_reducible assumption
    | with_reducible exact hLNE_INFLIGHT_COUNT _
    | with_reducible exact hLNE_TMO_CNT_COUNT _
    | with_reducible exact hPG_ERR_ADDR_HI _
    | with_reducible exact hPG_ERR_ADDR_LO _
    | with_reducible exact hPG_ERR_CODE _
    | with_reducible exact hPG_ERR_COUNT _
    | with_reducible exact hPG_ERR_OVERFLOW _
    | with_reducible exact hPG_ERR_SOURCE _
    | with_reducible exact hPG_ERR_VALID _
    | with_reducible exact hPG_EVT_PEND _
    | with_reducible exact hPG_POISON_SEEN _
    | with_reducible exact hQCX_Q_CTRL_IDLE _
    | with_reducible exact hQCX_Q_DONE_CNT_COUNT _
    | with_reducible exact hQCX_Q_HEAD_IDX _
    | with_reducible exact hQCX_Q_INFLIGHT_COUNT _
    | with_reducible exact hTEN_FLR_DISCARD_COUNT _
    | with_reducible exact hTEN_REVOKED_CNT_COUNT _
    | with_reducible exact hTIM_DOM_OFFSET_OFFSET _
    | with_reducible exact hTIM_DOM_RATE_RATE _
    | ((try lift_lets -underBinder); intro x; refine Keep.use (k := km) (q := pq) (s := x) ?_ ?_; (on_goal 1 => dsimp -zeta only [x]); (on_goal 2 => clear_value x; intro _))
    | ((try lift_lets -underBinder); intro x; refine Keep.usePair (k := km) (q := pq) (p := x) ?_ ?_; (on_goal 1 => dsimp -zeta only [x]); (on_goal 2 => clear_value x; intro _))
    | ((try lift_lets -underBinder); intro x; refine Keep.memSt (x := x) ?_; subst x)
    | ((try lift_lets -underBinder); intro x; refine Keep.depSt (x := x) ?_; subst x)
    | ((try lift_lets -underBinder); intro x; clear_value x)
    | (intro _)
    | with_reducible apply State.setLineTx_good
    | with_reducible apply State.count_good
    | with_reducible apply State.txnDone_good
    | with_reducible apply State.ev_good
    | with_reducible apply State.pump_good

theorem State.showSilent_good (tim : km.part .tim) (hLNE_TEL_STAT_SILENT : ∀ a, km.fld (R.LNE.TEL_STAT.SILENT a))
    (hTIM_DOM_OFFSET_OFFSET : ∀ a, km.fld (R.TIM.DOM_OFFSET.OFFSET a))
    (hTIM_DOM_RATE_RATE : ∀ a, km.fld (R.TIM.DOM_RATE.RATE a)) (s : State) (p : Nat) (hs : s.Keeps km pq) : (State.showSilent s p).Keeps km pq := by
  unfold State.showSilent
  repeat' first
    | with_reducible assumption
    | with_reducible exact hLNE_TEL_STAT_SILENT _
    | with_reducible exact hTIM_DOM_OFFSET_OFFSET _
    | with_reducible exact hTIM_DOM_RATE_RATE _
    | ((try lift_lets -underBinder); intro x; refine Keep.use (k := km) (q := pq) (s := x) ?_ ?_; (on_goal 1 => dsimp -zeta only [x]); (on_goal 2 => clear_value x; intro _))
    | ((try lift_lets -underBinder); intro x; refine Keep.usePair (k := km) (q := pq) (p := x) ?_ ?_; (on_goal 1 => dsimp -zeta only [x]); (on_goal 2 => clear_value x; intro _))
    | ((try lift_lets -underBinder); intro x; refine Keep.memSt (x := x) ?_; subst x)
    | ((try lift_lets -underBinder); intro x; refine Keep.depSt (x := x) ?_; subst x)
    | ((try lift_lets -underBinder); intro x; clear_value x)
    | (intro _)
    | with_reducible apply State.filter_good
    | with_reducible apply State.set_good

theorem State.policyDue_good (dep : km.part .dep) (s : State) (p : Nat) (hs : s.Keeps km pq) : (State.policyDue s p).Keeps km pq := by
  unfold State.policyDue
  repeat' first
    | with_reducible assumption
    | ((try lift_lets -underBinder); intro x; refine Keep.use (k := km) (q := pq) (s := x) ?_ ?_; (on_goal 1 => dsimp -zeta only [x]); (on_goal 2 => clear_value x; intro _))
    | ((try lift_lets -underBinder); intro x; refine Keep.usePair (k := km) (q := pq) (p := x) ?_ ?_; (on_goal 1 => dsimp -zeta only [x]); (on_goal 2 => clear_value x; intro _))
    | ((try lift_lets -underBinder); intro x; refine Keep.memSt (x := x) ?_; subst x)
    | ((try lift_lets -underBinder); intro x; refine Keep.depSt (x := x) ?_; subst x)
    | ((try lift_lets -underBinder); intro x; clear_value x)
    | (intro _)
    | (simp -zeta only [Keep.mk_iff]; with_reducible refine Keep.upd ?_ rfl ?_; on_goal 2 => (and_intros <;> with_reducible first | exact .inl rfl | exact .inl ⟨rfl, rfl, rfl⟩ | exact .inr ‹_› | exact Nat.le_refl _ | exact Nat.le_add_right _ _))

theorem State.numberTo_good (out : km.part .out) (tim : km.part .tim) (dep : km.part .dep) (line : km.part .line)
    (hLNE_LNE_STAT_N : ∀ a, km.fld (R.LNE.LNE_STAT.N a))
    (hLNE_TEL_STAT_SILENT : ∀ a, km.fld (R.LNE.TEL_STAT.SILENT a))
    (hLNE_TXN_TMO_EFF_US : ∀ a, km.fld (R.LNE.TXN_TMO.EFF_US a)) (hPG_EVT_PEND : ∀ a, km.fld (R.PG.EVT_PEND a))
    (hTIM_DOM_OFFSET_OFFSET : ∀ a, km.fld (R.TIM.DOM_OFFSET.OFFSET a))
    (hTIM_DOM_RATE_RATE : ∀ a, km.fld (R.TIM.DOM_RATE.RATE a)) (s : State) (p n : Nat) (hs : s.Keeps km pq) : (State.numberTo s p n).Keeps km pq := by
  unfold State.numberTo
  repeat' first
    | with_reducible assumption
    | with_reducible exact hLNE_LNE_STAT_N _
    | with_reducible exact hLNE_TEL_STAT_SILENT _
    | with_reducible exact hLNE_TXN_TMO_EFF_US _
    | with_reducible exact hPG_EVT_PEND _
    | with_reducible exact hTIM_DOM_OFFSET_OFFSET _
    | with_reducible exact hTIM_DOM_RATE_RATE _
    | ((try lift_lets -underBinder); intro x; refine Keep.use (k := km) (q := pq) (s := x) ?_ ?_; (on_goal 1 => dsimp -zeta only [x]); (on_goal 2 => clear_value x; intro _))
    | ((try lift_lets -underBinder); intro x; refine Keep.usePair (k := km) (q := pq) (p := x) ?_ ?_; (on_goal 1 => dsimp -zeta only [x]); (on_goal 2 => clear_value x; intro _))
    | ((try lift_lets -underBinder); intro x; refine Keep.memSt (x := x) ?_; subst x)
    | ((try lift_lets -underBinder); intro x; refine Keep.depSt (x := x) ?_; subst x)
    | ((try lift_lets -underBinder); intro x; clear_value x)
    | (intro _)
    | with_reducible apply Keep.ite
    | with_reducible apply State.set_good
    | with_reducible apply State.showTmo_good
    | with_reducible apply State.policyDue_good
    | with_reducible apply State.setLineTx_good
    | with_reducible apply State.showSilent_good
    | with_reducible apply State.ev_good

theorem State.dropSessions_good (out : km.part .out) (tim : km.part .tim) (line : km.part .line)
    (hSVP_TX_DGRAM_COUNT : km.fld R.SVP.TX_DGRAM.COUNT)
    (hTIM_DOM_OFFSET_OFFSET : ∀ a, km.fld (R.TIM.DOM_OFFSET.OFFSET a))
    (hTIM_DOM_RATE_RATE : ∀ a, km.fld (R.TIM.DOM_RATE.RATE a)) (s : State) (p n : Nat) (hs : s.Keeps km pq) : (State.dropSessions s p n).Keeps km pq := by
  unfold State.dropSessions
  repeat' first
    | with_reducible assumption
    | with_reducible exact hTIM_DOM_OFFSET_OFFSET _
    | with_reducible exact hTIM_DOM_RATE_RATE _
    | ((try lift_lets -underBinder); intro x; refine Keep.use (k := km) (q := pq) (s := x) ?_ ?_; (on_goal 1 => dsimp -zeta only [x]); (on_goal 2 => clear_value x; intro _))
    | ((try lift_lets -underBinder); intro x; refine Keep.usePair (k := km) (q := pq) (p := x) ?_ ?_; (on_goal 1 => dsimp -zeta only [x]); (on_goal 2 => clear_value x; intro _))
    | ((try lift_lets -underBinder); intro x; refine Keep.memSt (x := x) ?_; subst x)
    | ((try lift_lets -underBinder); intro x; refine Keep.depSt (x := x) ?_; subst x)
    | ((try lift_lets -underBinder); intro x; clear_value x)
    | (intro _)
    | with_reducible apply State.setLineTx_good
    | with_reducible apply State.filter_good
    | with_reducible apply State.reply_good
    | split
    | (simp -zeta only [Keep.mk_iff]; with_reducible refine Keep.upd ?_ rfl ?_; on_goal 2 => (and_intros <;> with_reducible first | exact .inl rfl | exact .inl ⟨rfl, rfl, rfl⟩ | exact .inr ‹_› | exact Nat.le_refl _ | exact Nat.le_add_right _ _))
    | with_reducible apply Keep.foldl

theorem State.setN_good (out : km.part .out) (tim : km.part .tim) (dep : km.part .dep) (line : km.part .line)
    (que : km.part .que) (hLNE_INFLIGHT_COUNT : ∀ a, km.fld (R.LNE.INFLIGHT.COUNT a))
    (hLNE_LINKDOWN_CNT_COUNT : ∀ a, km.fld (R.LNE.LINKDOWN_CNT.COUNT a))
    (hLNE_LNE_STAT_N : ∀ a, km.fld (R.LNE.LNE_STAT.N a))
    (hLNE_TEL_STAT_SILENT : ∀ a, km.fld (R.LNE.TEL_STAT.SILENT a))
    (hLNE_TXN_TMO_EFF_US : ∀ a, km.fld (R.LNE.TXN_TMO.EFF_US a)) (hPG_ERR_ADDR_HI : ∀ a, km.fld (R.PG.ERR_ADDR_HI a))
    (hPG_ERR_ADDR_LO : ∀ a, km.fld (R.PG.ERR_ADDR_LO a)) (hPG_ERR_CODE : ∀ a, km.fld (R.PG.ERR_CODE a))
    (hPG_ERR_COUNT : ∀ a, km.fld (R.PG.ERR_COUNT a)) (hPG_ERR_OVERFLOW : ∀ a, km.fld (R.PG.ERR_OVERFLOW a))
    (hPG_ERR_SOURCE : ∀ a, km.fld (R.PG.ERR_SOURCE a)) (hPG_ERR_VALID : ∀ a, km.fld (R.PG.ERR_VALID a))
    (hPG_EVT_PEND : ∀ a, km.fld (R.PG.EVT_PEND a)) (hPG_POISON_SEEN : ∀ a, km.fld (R.PG.POISON_SEEN a))
    (hQCX_Q_CTRL_IDLE : ∀ a, km.fld (R.QCX.Q_CTRL.IDLE a))
    (hQCX_Q_DONE_CNT_COUNT : ∀ a, km.fld (R.QCX.Q_DONE_CNT.COUNT a))
    (hQCX_Q_HEAD_IDX : ∀ a, km.fld (R.QCX.Q_HEAD.IDX a))
    (hQCX_Q_INFLIGHT_COUNT : ∀ a, km.fld (R.QCX.Q_INFLIGHT.COUNT a))
    (hQUE_DESC_ERR_COUNT : km.fld R.QUE.DESC_ERR.COUNT) (hQUE_INFLIGHT_COUNT : km.fld R.QUE.INFLIGHT.COUNT)
    (hSVP_TX_DGRAM_COUNT : km.fld R.SVP.TX_DGRAM.COUNT)
    (hTEN_FLR_DISCARD_COUNT : ∀ a, km.fld (R.TEN.FLR_DISCARD.COUNT a))
    (hTEN_REVOKED_CNT_COUNT : ∀ a, km.fld (R.TEN.REVOKED_CNT.COUNT a))
    (hTEN_RULE_STAT_OLD : km.fld R.TEN.RULE_STAT.OLD)
    (hTIM_DOM_OFFSET_OFFSET : ∀ a, km.fld (R.TIM.DOM_OFFSET.OFFSET a))
    (hTIM_DOM_RATE_RATE : ∀ a, km.fld (R.TIM.DOM_RATE.RATE a)) (s : State) (p n : Nat) (hs : s.Keeps km pq) : (State.setN s p n).Keeps km pq := by
  unfold State.setN
  repeat' first
    | with_reducible assumption
    | with_reducible exact hLNE_INFLIGHT_COUNT _
    | with_reducible exact hLNE_LINKDOWN_CNT_COUNT _
    | with_reducible exact hLNE_LNE_STAT_N _
    | with_reducible exact hLNE_TEL_STAT_SILENT _
    | with_reducible exact hLNE_TXN_TMO_EFF_US _
    | with_reducible exact hPG_ERR_ADDR_HI _
    | with_reducible exact hPG_ERR_ADDR_LO _
    | with_reducible exact hPG_ERR_CODE _
    | with_reducible exact hPG_ERR_COUNT _
    | with_reducible exact hPG_ERR_OVERFLOW _
    | with_reducible exact hPG_ERR_SOURCE _
    | with_reducible exact hPG_ERR_VALID _
    | with_reducible exact hPG_EVT_PEND _
    | with_reducible exact hPG_POISON_SEEN _
    | with_reducible exact hQCX_Q_CTRL_IDLE _
    | with_reducible exact hQCX_Q_DONE_CNT_COUNT _
    | with_reducible exact hQCX_Q_HEAD_IDX _
    | with_reducible exact hQCX_Q_INFLIGHT_COUNT _
    | with_reducible exact hTEN_FLR_DISCARD_COUNT _
    | with_reducible exact hTEN_REVOKED_CNT_COUNT _
    | with_reducible exact hTIM_DOM_OFFSET_OFFSET _
    | with_reducible exact hTIM_DOM_RATE_RATE _
    | ((try lift_lets -underBinder); intro x; refine Keep.use (k := km) (q := pq) (s := x) ?_ ?_; (on_goal 1 => dsimp -zeta only [x]); (on_goal 2 => clear_value x; intro _))
    | ((try lift_lets -underBinder); intro x; refine Keep.usePair (k := km) (q := pq) (p := x) ?_ ?_; (on_goal 1 => dsimp -zeta only [x]); (on_goal 2 => clear_value x; intro _))
    | ((try lift_lets -underBinder); intro x; refine Keep.memSt (x := x) ?_; subst x)
    | ((try lift_lets -underBinder); intro x; refine Keep.depSt (x := x) ?_; subst x)
    | ((try lift_lets -underBinder); intro x; clear_value x)
    | (intro _)
    | with_reducible apply State.numberTo_good
    | with_reducible apply State.filter_good
    | with_reducible apply State.count_good
    | with_reducible apply State.txnDone_good
    | with_reducible apply State.dropSessions_good
    | with_reducible apply State.pump_good
    | with_reducible apply Keep.foldl

theorem State.showLine_good (out : km.part .out) (dep : km.part .dep)
    (hLNK_LINE_STAT_LINE_WIDTH : ∀ a, km.fld (R.LNK.LINE_STAT.LINE_WIDTH a))
    (hLNK_LINE_STAT_NARROW_STOP : ∀ a, km.fld (R.LNK.LINE_STAT.NARROW_STOP a))
    (hPG_EVT_PEND : ∀ a, km.fld (R.PG.EVT_PEND a)) (s : State) (p : Nat) (hs : s.Keeps km pq) : (State.showLine s p).Keeps km pq := by
  unfold State.showLine
  repeat' first
    | with_reducible assumption
    | with_reducible exact hLNK_LINE_STAT_LINE_WIDTH _
    | with_reducible exact hLNK_LINE_STAT_NARROW_STOP _
    | with_reducible exact hPG_EVT_PEND _
    | ((try lift_lets -underBinder); intro x; refine Keep.use (k := km) (q := pq) (s := x) ?_ ?_; (on_goal 1 => dsimp -zeta only [x]); (on_goal 2 => clear_value x; intro _))
    | ((try lift_lets -underBinder); intro x; refine Keep.usePair (k := km) (q := pq) (p := x) ?_ ?_; (on_goal 1 => dsimp -zeta only [x]); (on_goal 2 => clear_value x; intro _))
    | ((try lift_lets -underBinder); intro x; refine Keep.memSt (x := x) ?_; subst x)
    | ((try lift_lets -underBinder); intro x; refine Keep.depSt (x := x) ?_; subst x)
    | ((try lift_lets -underBinder); intro x; clear_value x)
    | (intro _)
    | with_reducible apply Keep.ite
    | with_reducible apply Keep.ite1
    | dsimp -zeta only
    | with_reducible apply State.set_good
    | with_reducible apply State.policyDue_good
    | with_reducible apply State.ev_good

theorem State.applyPolicy_good (out : km.part .out) (dep : km.part .dep)
    (hDEP_MODE_CHECK_DEP_PENDING : km.fld R.DEP.MODE_CHECK.DEP_PENDING)
    (hDEP_MODE_CHECK_EPOCH_PENDING : km.fld R.DEP.MODE_CHECK.EPOCH_PENDING)
    (hDEP_MODE_CHECK_FIELDS : km.fld R.DEP.MODE_CHECK.FIELDS) (hDEP_MODE_CHECK_RULE : km.fld R.DEP.MODE_CHECK.RULE)
    (hDEP_MODE_CHECK_VALID : km.fld R.DEP.MODE_CHECK.VALID)
    (hDEP_MODE_CTRL_FB_VALID : km.fld R.DEP.MODE_CTRL.FB_VALID)
    (hDEP_MODE_CTRL_LAST_CAUSE : km.fld R.DEP.MODE_CTRL.LAST_CAUSE)
    (hDEP_MODE_CUR_CODING_A : km.fld R.DEP.MODE_CUR.CODING_A)
    (hDEP_MODE_CUR_CODING_B : km.fld R.DEP.MODE_CUR.CODING_B) (hDEP_MODE_CUR_EMIT : km.fld R.DEP.MODE_CUR.EMIT)
    (hDEP_MODE_CUR_REDUN : km.fld R.DEP.MODE_CUR.REDUN) (hDEP_MODE_CUR_SCAN : km.fld R.DEP.MODE_CUR.SCAN)
    (hDEP_MODE_CUR_SINK : km.fld R.DEP.MODE_CUR.SINK) (hDEP_MODE_CUR_TIMING : km.fld R.DEP.MODE_CUR.TIMING)
    (hDEP_MODE_CUR_VIEWS : km.fld R.DEP.MODE_CUR.VIEWS) (hDEP_MODE_NEXT_CODING_A : km.fld R.DEP.MODE_NEXT.CODING_A)
    (hDEP_MODE_NEXT_CODING_B : km.fld R.DEP.MODE_NEXT.CODING_B) (hDEP_MODE_NEXT_EMIT : km.fld R.DEP.MODE_NEXT.EMIT)
    (hDEP_MODE_NEXT_REDUN : km.fld R.DEP.MODE_NEXT.REDUN) (hDEP_MODE_NEXT_SCAN : km.fld R.DEP.MODE_NEXT.SCAN)
    (hDEP_MODE_NEXT_SINK : km.fld R.DEP.MODE_NEXT.SINK) (hDEP_MODE_NEXT_TIMING : km.fld R.DEP.MODE_NEXT.TIMING)
    (hDEP_MODE_NEXT_VIEWS : km.fld R.DEP.MODE_NEXT.VIEWS)
    (hLNK_LINE_STAT_BREAK : ∀ a, km.fld (R.LNK.LINE_STAT.BREAK a))
    (hLNK_LINE_STAT_LINE_WIDTH : ∀ a, km.fld (R.LNK.LINE_STAT.LINE_WIDTH a))
    (hLNK_LINE_STAT_NARROW_STOP : ∀ a, km.fld (R.LNK.LINE_STAT.NARROW_STOP a))
    (hPG_EVT_PEND : ∀ a, km.fld (R.PG.EVT_PEND a)) (s : State) (p : Nat) (hs : s.Keeps km pq) : (State.applyPolicy s p).Keeps km pq := by
  unfold State.applyPolicy
  repeat' first
    | with_reducible assumption
    | with_reducible exact hLNK_LINE_STAT_BREAK _
    | with_reducible exact hLNK_LINE_STAT_LINE_WIDTH _
    | with_reducible exact hLNK_LINE_STAT_NARROW_STOP _
    | with_reducible exact hPG_EVT_PEND _
    | ((try lift_lets -underBinder); intro x; refine Keep.use (k := km) (q := pq) (s := x) ?_ ?_; (on_goal 1 => dsimp -zeta only [x]); (on_goal 2 => clear_value x; intro _))
    | ((try lift_lets -underBinder); intro x; refine Keep.usePair (k := km) (q := pq) (p := x) ?_ ?_; (on_goal 1 => dsimp -zeta only [x]); (on_goal 2 => clear_value x; intro _))
    | ((try lift_lets -underBinder); intro x; refine Keep.memSt (x := x) ?_; subst x)
    | ((try lift_lets -underBinder); intro x; refine Keep.depSt (x := x) ?_; subst x)
    | ((try lift_lets -underBinder); intro x; clear_value x)
    | (intro _)
    | with_reducible apply Keep.ite
    | with_reducible apply Keep.ite1
    | dsimp -zeta only
    | with_reducible apply State.putModeNext_good
    | with_reducible apply State.modeChange_good
    | with_reducible apply State.evaluate_good
    | with_reducible apply State.set_good
    | with_reducible apply State.evIf_good
    | with_reducible apply State.showLine_good
    | with_reducible apply State.policyDue_good
    | split
    | with_reducible refine Keep.fst (by assumption) ?_
    | (simp -zeta only [Keep.mk_iff]; with_reducible refine Keep.upd ?_ rfl ?_; on_goal 2 => (and_intros <;> with_reducible first | exact .inl rfl | exact .inl ⟨rfl, rfl, rfl⟩ | exact .inr ‹_› | exact Nat.le_refl _ | exact Nat.le_add_right _ _))

theorem State.reportLink_good (out : km.part .out) (tim : km.part .tim) (dep : km.part .dep) (mem : km.part .mem)
    (dram : km.part .dram) (scn : km.part .scn) (cor : km.part .cor) (rai : km.part .rai) (lfm : km.part .lfm)
    (line : km.part .line) (rdn : km.part .rdn) (que : km.part .que) (any : ∀ f, km.fld f) (s : State)
    (q cause : Nat) (hs : s.Keeps km pq) : (State.reportLink s q cause).Keeps km pq := by
  unfold State.reportLink
  repeat' first
    | with_reducible assumption
    | (with_reducible (intros; exact any _))
    | ((try lift_lets -underBinder); intro x; refine Keep.use (k := km) (q := pq) (s := x) ?_ ?_; (on_goal 1 => dsimp -zeta only [x]); (on_goal 2 => clear_value x; intro _))
    | ((try lift_lets -underBinder); intro x; refine Keep.usePair (k := km) (q := pq) (p := x) ?_ ?_; (on_goal 1 => dsimp -zeta only [x]); (on_goal 2 => clear_value x; intro _))
    | ((try lift_lets -underBinder); intro x; refine Keep.memSt (x := x) ?_; subst x)
    | ((try lift_lets -underBinder); intro x; refine Keep.depSt (x := x) ?_; subst x)
    | ((try lift_lets -underBinder); intro x; clear_value x)
    | (intro _)
    | with_reducible apply State.send_good

theorem State.bootSave_good (fwu : km.part .fwu) (s : State) (hs : s.Keeps km pq) : (State.bootSave s).Keeps km pq := by
  unfold State.bootSave
  repeat' first
    | with_reducible assumption
    | ((try lift_lets -underBinder); intro x; refine Keep.use (k := km) (q := pq) (s := x) ?_ ?_; (on_goal 1 => dsimp -zeta only [x]); (on_goal 2 => clear_value x; intro _))
    | ((try lift_lets -underBinder); intro x; refine Keep.usePair (k := km) (q := pq) (p := x) ?_ ?_; (on_goal 1 => dsimp -zeta only [x]); (on_goal 2 => clear_value x; intro _))
    | ((try lift_lets -underBinder); intro x; refine Keep.memSt (x := x) ?_; subst x)
    | ((try lift_lets -underBinder); intro x; refine Keep.depSt (x := x) ?_; subst x)
    | ((try lift_lets -underBinder); intro x; clear_value x)
    | (intro _)
    | with_reducible apply Keep.ite
    | (simp -zeta only [Keep.mk_iff]; with_reducible refine Keep.upd ?_ rfl ?_; on_goal 2 => (and_intros <;> with_reducible first | exact .inl rfl | exact .inl ⟨rfl, rfl, rfl⟩ | exact .inr ‹_› | exact Nat.le_refl _ | exact Nat.le_add_right _ _))

theorem State.endSession_good (out : km.part .out) (tim : km.part .tim) (line : km.part .line) (fwu : km.part .fwu)
    (hFWU_SESSION_ID : km.fld R.FWU.SESSION.ID) (hFWU_SESSION_PURPOSE : km.fld R.FWU.SESSION.PURPOSE)
    (hFWU_SESSION_SLOT : km.fld R.FWU.SESSION.SLOT) (hFWU_SESS_BYTES_BYTES : km.fld R.FWU.SESS_BYTES.BYTES)
    (hPG_EVT_PEND : ∀ a, km.fld (R.PG.EVT_PEND a)) (hSLT_SLOT_STAT_STATE : ∀ a, km.fld (R.SLT.SLOT_STAT.STATE a))
    (hTIM_DOM_OFFSET_OFFSET : ∀ a, km.fld (R.TIM.DOM_OFFSET.OFFSET a))
    (hTIM_DOM_RATE_RATE : ∀ a, km.fld (R.TIM.DOM_RATE.RATE a)) (s : State) (bad : Bool) (hs : s.Keeps km pq) : (State.endSession s bad).Keeps km pq := by
  unfold State.endSession
  repeat' first
    | with_reducible assumption
    | with_reducible exact hPG_EVT_PEND _
    | with_reducible exact hSLT_SLOT_STAT_STATE _
    | with_reducible exact hTIM_DOM_OFFSET_OFFSET _
    | with_reducible exact hTIM_DOM_RATE_RATE _
    | ((try lift_lets -underBinder); intro x; refine Keep.use (k := km) (q := pq) (s := x) ?_ ?_; (on_goal 1 => dsimp -zeta only [x]); (on_goal 2 => clear_value x; intro _))
    | ((try lift_lets -underBinder); intro x; refine Keep.usePair (k := km) (q := pq) (p := x) ?_ ?_; (on_goal 1 => dsimp -zeta only [x]); (on_goal 2 => clear_value x; intro _))
    | ((try lift_lets -underBinder); intro x; refine Keep.memSt (x := x) ?_; subst x)
    | ((try lift_lets -underBinder); intro x; refine Keep.depSt (x := x) ?_; subst x)
    | ((try lift_lets -underBinder); intro x; clear_value x)
    | (intro _)
    | with_reducible apply Keep.ite
    | with_reducible apply State.set_good
    | with_reducible apply State.bootSave_good
    | with_reducible apply State.ev_good
    | with_reducible apply State.filter_good
    | (simp -zeta only [Keep.mk_iff]; with_reducible refine Keep.upd ?_ rfl ?_; on_goal 2 => (and_intros <;> with_reducible first | exact .inl rfl | exact .inl ⟨rfl, rfl, rfl⟩ | exact .inr ‹_› | exact Nat.le_refl _ | exact Nat.le_add_right _ _))

theorem State.enumStart_good (out : km.part .out) (line : km.part .line)
    (hLNE_ENUM_RUN_RUN : ∀ a, km.fld (R.LNE.ENUM_RUN.RUN a))
    (hLNE_LNE_STAT_ENUM_BUSY : ∀ a, km.fld (R.LNE.LNE_STAT.ENUM_BUSY a)) (s : State) (p : Nat) (hs : s.Keeps km pq) : (State.enumStart s p).Keeps km pq := by
  unfold State.enumStart
  repeat' first
    | with_reducible assumption
    | with_reducible exact hLNE_ENUM_RUN_RUN _
    | with_reducible exact hLNE_LNE_STAT_ENUM_BUSY _
    | ((try lift_lets -underBinder); intro x; refine Keep.use (k := km) (q := pq) (s := x) ?_ ?_; (on_goal 1 => dsimp -zeta only [x]); (on_goal 2 => clear_value x; intro _))
    | ((try lift_lets -underBinder); intro x; refine Keep.usePair (k := km) (q := pq) (p := x) ?_ ?_; (on_goal 1 => dsimp -zeta only [x]); (on_goal 2 => clear_value x; intro _))
    | ((try lift_lets -underBinder); intro x; refine Keep.memSt (x := x) ?_; subst x)
    | ((try lift_lets -underBinder); intro x; refine Keep.depSt (x := x) ?_; subst x)
    | ((try lift_lets -underBinder); intro x; clear_value x)
    | (intro _)
    | with_reducible apply Keep.ite
    | with_reducible apply State.set_good
    | with_reducible apply State.setLineTx_good
    | with_reducible apply State.send_good

theorem State.enumAbandon_good (line : km.part .line)
    (hLNE_LNE_STAT_ENUM_BUSY : ∀ a, km.fld (R.LNE.LNE_STAT.ENUM_BUSY a)) (s : State) (p : Nat) (hs : s.Keeps km pq) : (State.enumAbandon s p).Keeps km pq := by
  unfold State.enumAbandon
  repeat' first
    | with_reducible assumption
    | with_reducible exact hLNE_LNE_STAT_ENUM_BUSY _
    | ((try lift_lets -underBinder); intro x; refine Keep.use (k := km) (q := pq) (s := x) ?_ ?_; (on_goal 1 => dsimp -zeta only [x]); (on_goal 2 => clear_value x; intro _))
    | ((try lift_lets -underBinder); intro x; refine Keep.usePair (k := km) (q := pq) (p := x) ?_ ?_; (on_goal 1 => dsimp -zeta only [x]); (on_goal 2 => clear_value x; intro _))
    | ((try lift_lets -underBinder); intro x; refine Keep.memSt (x := x) ?_; subst x)
    | ((try lift_lets -underBinder); intro x; refine Keep.depSt (x := x) ?_; subst x)
    | ((try lift_lets -underBinder); intro x; clear_value x)
    | (intro _)
    | with_reducible apply State.set_good
    | with_reducible apply State.setLineTx_good

end Sys2Proof.Machine
end

