-- ==== Sys2Proof/Laws/KeepsLink.lean ====
section
/-!
SUPPORT. Every function of Machine/Link.lean changes what the hypotheses of its lemma name, and nothing else.
-/
namespace Sys2Proof.Machine
set_option Elab.async false
set_option linter.unusedVariables false
set_option linter.unusedTactic false
set_option linter.unreachableTactic false

variable {km : May} {pq : State}

theorem State.ldInvalid_good (out : km.part .out) (tim : km.part .tim) (hPG_EVT_PEND : ∀ a, km.fld (R.PG.EVT_PEND a))
    (s : State) (p : Nat) (hs : s.Keeps km pq) : (State.ldInvalid s p).Keeps km pq := by
  unfold State.ldInvalid
  repeat' first
    | with_reducible assumption
    | with_reducible exact hPG_EVT_PEND _
    | ((try lift_lets -underBinder); intro x; refine Keep.use (k := km) (q := pq) (s := x) ?_ ?_; (on_goal 1 => dsimp -zeta only [x]); (on_goal 2 => clear_value x; intro _))
    | ((try lift_lets -underBinder); intro x; refine Keep.usePair (k := km) (q := pq) (p := x) ?_ ?_; (on_goal 1 => dsimp -zeta only [x]); (on_goal 2 => clear_value x; intro _))
    | ((try lift_lets -underBinder); intro x; refine Keep.memSt (x := x) ?_; subst x)
    | ((try lift_lets -underBinder); intro x; refine Keep.depSt (x := x) ?_; subst x)
    | ((try lift_lets -underBinder); intro x; clear_value x)
    | (intro _)
    | with_reducible apply Keep.ite
    | with_reducible apply State.evIf_good
    | (simp -zeta only [Keep.mk_iff]; with_reducible refine Keep.upd ?_ rfl ?_; on_goal 2 => (and_intros <;> with_reducible first | exact .inl rfl | exact .inl ⟨rfl, rfl, rfl⟩ | exact .inr ‹_› | exact Nat.le_refl _ | exact Nat.le_add_right _ _))

theorem State.setService_good (hLNK_PORT_STAT_IN_SERVICE : ∀ a, km.fld (R.LNK.PORT_STAT.IN_SERVICE a))
    (hLNK_PORT_STAT_TIMING_LANE : ∀ a, km.fld (R.LNK.PORT_STAT.TIMING_LANE a))
    (hLNK_PORT_STAT_WIDTH : ∀ a, km.fld (R.LNK.PORT_STAT.WIDTH a))
    (hLNL_LANE_STAT_LOGICAL : ∀ a, km.fld (R.LNL.LANE_STAT.LOGICAL a)) (s : State) (p : Nat) (l : List Nat)
    (hs : s.Keeps km pq) : (State.setService s p l).Keeps km pq := by
  unfold State.setService
  repeat' first
    | with_reducible assumption
    | with_reducible exact hLNK_PORT_STAT_IN_SERVICE _
    | with_reducible exact hLNK_PORT_STAT_TIMING_LANE _
    | with_reducible exact hLNK_PORT_STAT_WIDTH _
    | with_reducible exact hLNL_LANE_STAT_LOGICAL _
    | ((try lift_lets -underBinder); intro x; refine Keep.use (k := km) (q := pq) (s := x) ?_ ?_; (on_goal 1 => dsimp -zeta only [x]); (on_goal 2 => clear_value x; intro _))
    | ((try lift_lets -underBinder); intro x; refine Keep.usePair (k := km) (q := pq) (p := x) ?_ ?_; (on_goal 1 => dsimp -zeta only [x]); (on_goal 2 => clear_value x; intro _))
    | ((try lift_lets -underBinder); intro x; refine Keep.memSt (x := x) ?_; subst x)
    | ((try lift_lets -underBinder); intro x; refine Keep.depSt (x := x) ?_; subst x)
    | ((try lift_lets -underBinder); intro x; clear_value x)
    | (intro _)
    | with_reducible apply State.set_good
    | with_reducible apply State.forN_good

theorem State.laneUp_good (out : km.part .out) (hLNL_LANE_STAT_STATE : ∀ a, km.fld (R.LNL.LANE_STAT.STATE a))
    (hPG_EVT_PEND : ∀ a, km.fld (R.PG.EVT_PEND a)) (s : State) (l : Nat) (inServ : Bool) (hs : s.Keeps km pq) : (State.laneUp s l inServ).Keeps km pq := by
  unfold State.laneUp
  repeat' first
    | with_reducible assumption
    | with_reducible exact hLNL_LANE_STAT_STATE _
    | with_reducible exact hPG_EVT_PEND _
    | ((try lift_lets -underBinder); intro x; refine Keep.use (k := km) (q := pq) (s := x) ?_ ?_; (on_goal 1 => dsimp -zeta only [x]); (on_goal 2 => clear_value x; intro _))
    | ((try lift_lets -underBinder); intro x; refine Keep.usePair (k := km) (q := pq) (p := x) ?_ ?_; (on_goal 1 => dsimp -zeta only [x]); (on_goal 2 => clear_value x; intro _))
    | ((try lift_lets -underBinder); intro x; refine Keep.memSt (x := x) ?_; subst x)
    | ((try lift_lets -underBinder); intro x; refine Keep.depSt (x := x) ?_; subst x)
    | ((try lift_lets -underBinder); intro x; clear_value x)
    | (intro _)
    | with_reducible apply Keep.ite
    | with_reducible apply State.setLaneState_good
    | with_reducible apply State.evIf_good

theorem State.placeLanes_good (out : km.part .out) (hLNL_LANE_STAT_STATE : ∀ a, km.fld (R.LNL.LANE_STAT.STATE a))
    (hPG_EVT_PEND : ∀ a, km.fld (R.PG.EVT_PEND a)) (s : State) (p : Nat) (hs : s.Keeps km pq) : (State.placeLanes s p).Keeps km pq := by
  unfold State.placeLanes
  repeat' first
    | with_reducible assumption
    | with_reducible exact hLNL_LANE_STAT_STATE _
    | with_reducible exact hPG_EVT_PEND _
    | (intro _)
    | with_reducible apply State.laneUp_good
    | with_reducible apply Keep.foldl

theorem State.laneAnew_good (line : km.part .line) (hLNL_LANE_STAT_PRE_RX : ∀ a, km.fld (R.LNL.LANE_STAT.PRE_RX a))
    (hLNL_LANE_STAT_PRE_TX : ∀ a, km.fld (R.LNL.LANE_STAT.PRE_TX a)) (s : State) (l : Nat) (hs : s.Keeps km pq) : (State.laneAnew s l).Keeps km pq := by
  unfold State.laneAnew
  repeat' first
    | with_reducible assumption
    | with_reducible exact hLNL_LANE_STAT_PRE_RX _
    | with_reducible exact hLNL_LANE_STAT_PRE_TX _
    | ((try lift_lets -underBinder); intro x; refine Keep.use (k := km) (q := pq) (s := x) ?_ ?_; (on_goal 1 => dsimp -zeta only [x]); (on_goal 2 => clear_value x; intro _))
    | ((try lift_lets -underBinder); intro x; refine Keep.usePair (k := km) (q := pq) (p := x) ?_ ?_; (on_goal 1 => dsimp -zeta only [x]); (on_goal 2 => clear_value x; intro _))
    | ((try lift_lets -underBinder); intro x; refine Keep.memSt (x := x) ?_; subst x)
    | ((try lift_lets -underBinder); intro x; refine Keep.depSt (x := x) ?_; subst x)
    | ((try lift_lets -underBinder); intro x; clear_value x)
    | (intro _)
    | with_reducible apply State.set_good
    | with_reducible apply State.setLane_good

theorem State.usePre_good (hLNL_LANE_STAT_PRE_RX : ∀ a, km.fld (R.LNL.LANE_STAT.PRE_RX a))
    (hLNL_LANE_STAT_PRE_TX : ∀ a, km.fld (R.LNL.LANE_STAT.PRE_TX a)) (s : State) (l : Nat) (hs : s.Keeps km pq) : (State.usePre s l).Keeps km pq := by
  unfold State.usePre
  repeat' first
    | with_reducible assumption
    | with_reducible exact hLNL_LANE_STAT_PRE_RX _
    | with_reducible exact hLNL_LANE_STAT_PRE_TX _
    | ((try lift_lets -underBinder); intro x; refine Keep.use (k := km) (q := pq) (s := x) ?_ ?_; (on_goal 1 => dsimp -zeta only [x]); (on_goal 2 => clear_value x; intro _))
    | ((try lift_lets -underBinder); intro x; refine Keep.usePair (k := km) (q := pq) (p := x) ?_ ?_; (on_goal 1 => dsimp -zeta only [x]); (on_goal 2 => clear_value x; intro _))
    | ((try lift_lets -underBinder); intro x; refine Keep.memSt (x := x) ?_; subst x)
    | ((try lift_lets -underBinder); intro x; refine Keep.depSt (x := x) ?_; subst x)
    | ((try lift_lets -underBinder); intro x; clear_value x)
    | (intro _)
    | with_reducible apply Keep.ite
    | with_reducible apply Keep.ite1
    | dsimp -zeta only
    | with_reducible apply State.set_good

theorem State.trainOver_good (hLNL_TRAIN_US_US : ∀ a, km.fld (R.LNL.TRAIN_US.US a)) (s : State) (l : Nat)
    (hs : s.Keeps km pq) : (State.trainOver s l).Keeps km pq := by
  unfold State.trainOver
  repeat' first
    | with_reducible assumption
    | with_reducible exact hLNL_TRAIN_US_US _
    | (intro _)
    | with_reducible apply State.set_good

theorem State.failLane_good (out : km.part .out) (tim : km.part .tim) (dep : km.part .dep) (mem : km.part .mem)
    (dram : km.part .dram) (scn : km.part .scn) (cor : km.part .cor) (rai : km.part .rai) (lfm : km.part .lfm)
    (line : km.part .line) (rdn : km.part .rdn) (que : km.part .que) (any : ∀ f, km.fld f) (s : State)
    (p k reason : Nat) (hs : s.Keeps km pq) : (State.failLane s p k reason).Keeps km pq := by
  unfold State.failLane
  repeat' first
    | with_reducible assumption
    | (with_reducible (intros; exact any _))
    | ((try lift_lets -underBinder); intro x; refine Keep.use (k := km) (q := pq) (s := x) ?_ ?_; (on_goal 1 => dsimp -zeta only [x]); (on_goal 2 => clear_value x; intro _))
    | ((try lift_lets -underBinder); intro x; refine Keep.usePair (k := km) (q := pq) (p := x) ?_ ?_; (on_goal 1 => dsimp -zeta only [x]); (on_goal 2 => clear_value x; intro _))
    | ((try lift_lets -underBinder); intro x; refine Keep.memSt (x := x) ?_; subst x)
    | ((try lift_lets -underBinder); intro x; refine Keep.depSt (x := x) ?_; subst x)
    | ((try lift_lets -underBinder); intro x; clear_value x)
    | (intro _)
    | with_reducible apply Keep.ite
    | with_reducible apply State.set_good
    | with_reducible apply State.retrain_good
    | with_reducible apply State.trainOver_good
    | with_reducible apply State.setLaneState_good
    | with_reducible apply State.laneAnew_good
    | with_reducible apply State.ev_good
    | with_reducible apply State.reportLink_good

theorem State.setTxTaps_good (hLNL_TX_TAPS_C0 : ∀ a, km.fld (R.LNL.TX_TAPS.C0 a))
    (hLNL_TX_TAPS_CM1 : ∀ a, km.fld (R.LNL.TX_TAPS.CM1 a)) (hLNL_TX_TAPS_CM2 : ∀ a, km.fld (R.LNL.TX_TAPS.CM2 a))
    (hLNL_TX_TAPS_CP1 : ∀ a, km.fld (R.LNL.TX_TAPS.CP1 a)) (hLNL_TX_TAPS_CP2 : ∀ a, km.fld (R.LNL.TX_TAPS.CP2 a))
    (s : State) (l : Nat) (t : List Int) (hs : s.Keeps km pq) : (State.setTxTaps s l t).Keeps km pq := by
  unfold State.setTxTaps
  repeat' first
    | with_reducible assumption
    | with_reducible exact hLNL_TX_TAPS_C0 _
    | with_reducible exact hLNL_TX_TAPS_CM1 _
    | with_reducible exact hLNL_TX_TAPS_CM2 _
    | with_reducible exact hLNL_TX_TAPS_CP1 _
    | with_reducible exact hLNL_TX_TAPS_CP2 _
    | ((try lift_lets -underBinder); intro x; refine Keep.use (k := km) (q := pq) (s := x) ?_ ?_; (on_goal 1 => dsimp -zeta only [x]); (on_goal 2 => clear_value x; intro _))
    | ((try lift_lets -underBinder); intro x; refine Keep.usePair (k := km) (q := pq) (p := x) ?_ ?_; (on_goal 1 => dsimp -zeta only [x]); (on_goal 2 => clear_value x; intro _))
    | ((try lift_lets -underBinder); intro x; refine Keep.memSt (x := x) ?_; subst x)
    | ((try lift_lets -underBinder); intro x; refine Keep.depSt (x := x) ?_; subst x)
    | ((try lift_lets -underBinder); intro x; clear_value x)
    | (intro _)
    | with_reducible apply State.setI_good

theorem State.sendTraining_good (out : km.part .out) (line : km.part .line) (s : State) (l : Nat)
    (hs : s.Keeps km pq) : (State.sendTraining s l).Keeps km pq := by
  unfold State.sendTraining
  repeat' first
    | with_reducible assumption
    | ((try lift_lets -underBinder); intro x; refine Keep.use (k := km) (q := pq) (s := x) ?_ ?_; (on_goal 1 => dsimp -zeta only [x]); (on_goal 2 => clear_value x; intro _))
    | ((try lift_lets -underBinder); intro x; refine Keep.usePair (k := km) (q := pq) (p := x) ?_ ?_; (on_goal 1 => dsimp -zeta only [x]); (on_goal 2 => clear_value x; intro _))
    | ((try lift_lets -underBinder); intro x; refine Keep.memSt (x := x) ?_; subst x)
    | ((try lift_lets -underBinder); intro x; refine Keep.depSt (x := x) ?_; subst x)
    | ((try lift_lets -underBinder); intro x; clear_value x)
    | (intro _)
    | with_reducible apply Keep.ite
    | with_reducible apply State.emit_good
    | with_reducible apply State.setLane_good

theorem State.toDetect_good (out : km.part .out) (tim : km.part .tim) (dep : km.part .dep) (mem : km.part .mem)
    (dram : km.part .dram) (scn : km.part .scn) (cor : km.part .cor) (rai : km.part .rai) (lfm : km.part .lfm)
    (line : km.part .line) (rdn : km.part .rdn) (que : km.part .que) (any : ∀ f, km.fld f) (s : State) (p : Nat)
    (hs : s.Keeps km pq) : (State.toDetect s p).Keeps km pq := by
  unfold State.toDetect
  repeat' first
    | with_reducible assumption
    | (with_reducible (intros; exact any _))
    | ((try lift_lets -underBinder); intro x; refine Keep.use (k := km) (q := pq) (s := x) ?_ ?_; (on_goal 1 => dsimp -zeta only [x]); (on_goal 2 => clear_value x; intro _))
    | ((try lift_lets -underBinder); intro x; refine Keep.usePair (k := km) (q := pq) (p := x) ?_ ?_; (on_goal 1 => dsimp -zeta only [x]); (on_goal 2 => clear_value x; intro _))
    | ((try lift_lets -underBinder); intro x; refine Keep.memSt (x := x) ?_; subst x)
    | ((try lift_lets -underBinder); intro x; refine Keep.depSt (x := x) ?_; subst x)
    | ((try lift_lets -underBinder); intro x; clear_value x)
    | (intro _)
    | with_reducible apply Keep.ite
    | with_reducible apply State.setStage_good
    | with_reducible apply State.setPort_good
    | with_reducible apply State.set_good
    | with_reducible apply State.setService_good
    | with_reducible apply State.forN_good
    | with_reducible apply State.failLane_good
    | with_reducible apply State.setLaneState_good
    | with_reducible apply State.setTxTaps_good
    | with_reducible apply State.laneAnew_good
    | with_reducible apply State.setLane_good
    | with_reducible apply State.sendTraining_good

theorem State.bringupFails_good (out : km.part .out) (line : km.part .line)
    (hLNK_PORT_STAT_STAGE : ∀ a, km.fld (R.LNK.PORT_STAT.STAGE a))
    (hPG_ERR_ADDR_HI : ∀ a, km.fld (R.PG.ERR_ADDR_HI a)) (hPG_ERR_ADDR_LO : ∀ a, km.fld (R.PG.ERR_ADDR_LO a))
    (hPG_ERR_CODE : ∀ a, km.fld (R.PG.ERR_CODE a)) (hPG_ERR_COUNT : ∀ a, km.fld (R.PG.ERR_COUNT a))
    (hPG_ERR_OVERFLOW : ∀ a, km.fld (R.PG.ERR_OVERFLOW a)) (hPG_ERR_SOURCE : ∀ a, km.fld (R.PG.ERR_SOURCE a))
    (hPG_ERR_VALID : ∀ a, km.fld (R.PG.ERR_VALID a)) (hPG_EVT_PEND : ∀ a, km.fld (R.PG.EVT_PEND a)) (s : State)
    (p code source : Nat) (hs : s.Keeps km pq) : (State.bringupFails s p code source).Keeps km pq := by
  unfold State.bringupFails
  repeat' first
    | with_reducible assumption
    | with_reducible exact hLNK_PORT_STAT_STAGE _
    | with_reducible exact hPG_ERR_ADDR_HI _
    | with_reducible exact hPG_ERR_ADDR_LO _
    | with_reducible exact hPG_ERR_CODE _
    | with_reducible exact hPG_ERR_COUNT _
    | with_reducible exact hPG_ERR_OVERFLOW _
    | with_reducible exact hPG_ERR_SOURCE _
    | with_reducible exact hPG_ERR_VALID _
    | with_reducible exact hPG_EVT_PEND _
    | ((try lift_lets -underBinder); intro x; refine Keep.use (k := km) (q := pq) (s := x) ?_ ?_; (on_goal 1 => dsimp -zeta only [x]); (on_goal 2 => clear_value x; intro _))
    | ((try lift_lets -underBinder); intro x; refine Keep.usePair (k := km) (q := pq) (p := x) ?_ ?_; (on_goal 1 => dsimp -zeta only [x]); (on_goal 2 => clear_value x; intro _))
    | ((try lift_lets -underBinder); intro x; refine Keep.memSt (x := x) ?_; subst x)
    | ((try lift_lets -underBinder); intro x; refine Keep.depSt (x := x) ?_; subst x)
    | ((try lift_lets -underBinder); intro x; clear_value x)
    | (intro _)
    | with_reducible apply State.setStage_good
    | with_reducible apply State.setPort_good
    | with_reducible apply State.err_good
    | with_reducible apply State.evIf_good

theorem State.sessionLost_good (out : km.part .out) (tim : km.part .tim) (line : km.part .line) (fwu : km.part .fwu)
    (hFWU_SESSION_ID : km.fld R.FWU.SESSION.ID) (hFWU_SESSION_PURPOSE : km.fld R.FWU.SESSION.PURPOSE)
    (hFWU_SESSION_SLOT : km.fld R.FWU.SESSION.SLOT) (hFWU_SESS_BYTES_BYTES : km.fld R.FWU.SESS_BYTES.BYTES)
    (hPG_EVT_PEND : ∀ a, km.fld (R.PG.EVT_PEND a)) (hSLT_SLOT_STAT_STATE : ∀ a, km.fld (R.SLT.SLOT_STAT.STATE a))
    (hTIM_DOM_OFFSET_OFFSET : ∀ a, km.fld (R.TIM.DOM_OFFSET.OFFSET a))
    (hTIM_DOM_RATE_RATE : ∀ a, km.fld (R.TIM.DOM_RATE.RATE a)) (s : State) (hs : s.Keeps km pq) : (State.sessionLost s).Keeps km pq := by
  unfold State.sessionLost
  repeat' first
    | with_reducible assumption
    | with_reducible exact hPG_EVT_PEND _
    | with_reducible exact hSLT_SLOT_STAT_STATE _
    | with_reducible exact hTIM_DOM_OFFSET_OFFSET _
    | with_reducible exact hTIM_DOM_RATE_RATE _
    | (intro _)
    | with_reducible apply Keep.ite
    | with_reducible apply State.endSession_good

theorem State.lineLost_good (out : km.part .out) (tim : km.part .tim) (dep : km.part .dep) (mem : km.part .mem)
    (dram : km.part .dram) (scn : km.part .scn) (cor : km.part .cor) (rai : km.part .rai) (lfm : km.part .lfm)
    (line : km.part .line) (rdn : km.part .rdn) (que : km.part .que) (fwu : km.part .fwu) (any : ∀ f, km.fld f)
    (s : State) (p : Nat) (hs : s.Keeps km pq) : (State.lineLost s p).Keeps km pq := by
  unfold State.lineLost
  repeat' first
    | with_reducible assumption
    | (with_reducible (intros; exact any _))
    | ((try lift_lets -underBinder); intro x; refine Keep.use (k := km) (q := pq) (s := x) ?_ ?_; (on_goal 1 => dsimp -zeta only [x]); (on_goal 2 => clear_value x; intro _))
    | ((try lift_lets -underBinder); intro x; refine Keep.usePair (k := km) (q := pq) (p := x) ?_ ?_; (on_goal 1 => dsimp -zeta only [x]); (on_goal 2 => clear_value x; intro _))
    | ((try lift_lets -underBinder); intro x; refine Keep.memSt (x := x) ?_; subst x)
    | ((try lift_lets -underBinder); intro x; refine Keep.depSt (x := x) ?_; subst x)
    | ((try lift_lets -underBinder); intro x; clear_value x)
    | (intro _)
    | with_reducible apply Keep.ite
    | with_reducible apply State.ldInvalid_good
    | with_reducible apply State.streamLost_good
    | with_reducible apply State.setN_good
    | with_reducible apply State.enumAbandon_good
    | with_reducible apply State.showLine_good
    | with_reducible apply State.sessionLost_good
    | split
    | (simp -zeta only [Keep.mk_iff]; with_reducible refine Keep.upd ?_ rfl ?_; on_goal 2 => (and_intros <;> with_reducible first | exact .inl rfl | exact .inl ⟨rfl, rfl, rfl⟩ | exact .inr ‹_› | exact Nat.le_refl _ | exact Nat.le_add_right _ _))

theorem State.portLeaves_good (out : km.part .out) (tim : km.part .tim) (dep : km.part .dep) (mem : km.part .mem)
    (dram : km.part .dram) (scn : km.part .scn) (cor : km.part .cor) (rai : km.part .rai) (lfm : km.part .lfm)
    (line : km.part .line) (rdn : km.part .rdn) (que : km.part .que) (fwu : km.part .fwu) (any : ∀ f, km.fld f)
    (s : State) (p st : Nat) (hs : s.Keeps km pq) : (State.portLeaves s p st).Keeps km pq := by
  unfold State.portLeaves
  repeat' first
    | with_reducible assumption
    | (with_reducible (intros; exact any _))
    | ((try lift_lets -underBinder); intro x; refine Keep.use (k := km) (q := pq) (s := x) ?_ ?_; (on_goal 1 => dsimp -zeta only [x]); (on_goal 2 => clear_value x; intro _))
    | ((try lift_lets -underBinder); intro x; refine Keep.usePair (k := km) (q := pq) (p := x) ?_ ?_; (on_goal 1 => dsimp -zeta only [x]); (on_goal 2 => clear_value x; intro _))
    | ((try lift_lets -underBinder); intro x; refine Keep.memSt (x := x) ?_; subst x)
    | ((try lift_lets -underBinder); intro x; refine Keep.depSt (x := x) ?_; subst x)
    | ((try lift_lets -underBinder); intro x; clear_value x)
    | (intro _)
    | with_reducible apply Keep.ite
    | with_reducible apply State.setStage_good
    | with_reducible apply State.setPort_good
    | with_reducible apply State.laneAnew_good
    | with_reducible apply State.setService_good
    | with_reducible apply State.set_good
    | with_reducible apply State.lnkCount_good
    | with_reducible apply State.ev_good
    | with_reducible apply State.reportLink_good
    | with_reducible apply State.lineLost_good
    | with_reducible apply Keep.foldl

theorem State.portDown_good (out : km.part .out) (tim : km.part .tim) (dep : km.part .dep) (mem : km.part .mem)
    (dram : km.part .dram) (scn : km.part .scn) (cor : km.part .cor) (rai : km.part .rai) (lfm : km.part .lfm)
    (line : km.part .line) (rdn : km.part .rdn) (que : km.part .que) (fwu : km.part .fwu) (any : ∀ f, km.fld f)
    (s : State) (p : Nat) (hs : s.Keeps km pq) : (State.portDown s p).Keeps km pq := by
  unfold State.portDown
  repeat' first
    | with_reducible assumption
    | (with_reducible (intros; exact any _))
    | (intro _)
    | with_reducible apply State.portLeaves_good

theorem State.linkDown_good (out : km.part .out) (tim : km.part .tim) (dep : km.part .dep) (mem : km.part .mem)
    (dram : km.part .dram) (scn : km.part .scn) (cor : km.part .cor) (rai : km.part .rai) (lfm : km.part .lfm)
    (line : km.part .line) (rdn : km.part .rdn) (que : km.part .que) (fwu : km.part .fwu) (any : ∀ f, km.fld f)
    (s : State) (p : Nat) (hs : s.Keeps km pq) : (State.linkDown s p).Keeps km pq := by
  unfold State.linkDown
  repeat' first
    | with_reducible assumption
    | (with_reducible (intros; exact any _))
    | ((try lift_lets -underBinder); intro x; refine Keep.use (k := km) (q := pq) (s := x) ?_ ?_; (on_goal 1 => dsimp -zeta only [x]); (on_goal 2 => clear_value x; intro _))
    | ((try lift_lets -underBinder); intro x; refine Keep.usePair (k := km) (q := pq) (p := x) ?_ ?_; (on_goal 1 => dsimp -zeta only [x]); (on_goal 2 => clear_value x; intro _))
    | ((try lift_lets -underBinder); intro x; refine Keep.memSt (x := x) ?_; subst x)
    | ((try lift_lets -underBinder); intro x; refine Keep.depSt (x := x) ?_; subst x)
    | ((try lift_lets -underBinder); intro x; clear_value x)
    | (intro _)
    | with_reducible apply Keep.ite
    | with_reducible apply State.portDown_good
    | with_reducible apply State.toDetect_good

theorem State.portEnable_good (out : km.part .out) (tim : km.part .tim) (dep : km.part .dep) (mem : km.part .mem)
    (dram : km.part .dram) (scn : km.part .scn) (cor : km.part .cor) (rai : km.part .rai) (lfm : km.part .lfm)
    (line : km.part .line) (rdn : km.part .rdn) (que : km.part .que) (any : ∀ f, km.fld f) (s : State) (p : Nat)
    (hs : s.Keeps km pq) : (State.portEnable s p).Keeps km pq := by
  unfold State.portEnable
  repeat' first
    | with_reducible assumption
    | (with_reducible (intros; exact any _))
    | (intro _)
    | with_reducible apply Keep.ite
    | with_reducible apply State.toDetect_good

theorem State.portDisable_good (out : km.part .out) (tim : km.part .tim) (dep : km.part .dep) (mem : km.part .mem)
    (dram : km.part .dram) (scn : km.part .scn) (cor : km.part .cor) (rai : km.part .rai) (lfm : km.part .lfm)
    (line : km.part .line) (rdn : km.part .rdn) (que : km.part .que) (fwu : km.part .fwu) (any : ∀ f, km.fld f)
    (s : State) (p : Nat) (hs : s.Keeps km pq) : (State.portDisable s p).Keeps km pq := by
  unfold State.portDisable
  repeat' first
    | with_reducible assumption
    | (with_reducible (intros; exact any _))
    | ((try lift_lets -underBinder); intro x; refine Keep.use (k := km) (q := pq) (s := x) ?_ ?_; (on_goal 1 => dsimp -zeta only [x]); (on_goal 2 => clear_value x; intro _))
    | ((try lift_lets -underBinder); intro x; refine Keep.usePair (k := km) (q := pq) (p := x) ?_ ?_; (on_goal 1 => dsimp -zeta only [x]); (on_goal 2 => clear_value x; intro _))
    | ((try lift_lets -underBinder); intro x; refine Keep.memSt (x := x) ?_; subst x)
    | ((try lift_lets -underBinder); intro x; refine Keep.depSt (x := x) ?_; subst x)
    | ((try lift_lets -underBinder); intro x; clear_value x)
    | (intro _)
    | with_reducible apply State.portLeaves_good
    | with_reducible apply State.forN_good
    | with_reducible apply State.setLaneState_good

theorem State.rxStart_good (line : km.part .line) (s : State) (p : Nat) (hs : s.Keeps km pq) : (State.rxStart s p).Keeps km pq := by
  unfold State.rxStart
  repeat' first
    | with_reducible assumption
    | ((try lift_lets -underBinder); intro x; refine Keep.use (k := km) (q := pq) (s := x) ?_ ?_; (on_goal 1 => dsimp -zeta only [x]); (on_goal 2 => clear_value x; intro _))
    | ((try lift_lets -underBinder); intro x; refine Keep.usePair (k := km) (q := pq) (p := x) ?_ ?_; (on_goal 1 => dsimp -zeta only [x]); (on_goal 2 => clear_value x; intro _))
    | ((try lift_lets -underBinder); intro x; refine Keep.memSt (x := x) ?_; subst x)
    | ((try lift_lets -underBinder); intro x; refine Keep.depSt (x := x) ?_; subst x)
    | ((try lift_lets -underBinder); intro x; clear_value x)
    | (intro _)
    | with_reducible apply State.setLane_good
    | (simp -zeta only [Keep.mk_iff]; with_reducible refine Keep.upd ?_ rfl ?_; on_goal 2 => (and_intros <;> with_reducible first | exact .inl rfl | exact .inl ⟨rfl, rfl, rfl⟩ | exact .inr ‹_› | exact Nat.le_refl _ | exact Nat.le_add_right _ _))
    | with_reducible apply Keep.foldl

theorem State.toLock_good (out : km.part .out) (tim : km.part .tim) (dep : km.part .dep) (mem : km.part .mem)
    (dram : km.part .dram) (scn : km.part .scn) (cor : km.part .cor) (rai : km.part .rai) (lfm : km.part .lfm)
    (line : km.part .line) (rdn : km.part .rdn) (que : km.part .que) (fwu : km.part .fwu) (any : ∀ f, km.fld f)
    (s : State) (p : Nat) (hs : s.Keeps km pq) : (State.toLock s p).Keeps km pq := by
  unfold State.toLock
  repeat' first
    | with_reducible assumption
    | (with_reducible (intros; exact any _))
    | ((try lift_lets -underBinder); intro x; refine Keep.use (k := km) (q := pq) (s := x) ?_ ?_; (on_goal 1 => dsimp -zeta only [x]); (on_goal 2 => clear_value x; intro _))
    | ((try lift_lets -underBinder); intro x; refine Keep.usePair (k := km) (q := pq) (p := x) ?_ ?_; (on_goal 1 => dsimp -zeta only [x]); (on_goal 2 => clear_value x; intro _))
    | ((try lift_lets -underBinder); intro x; refine Keep.memSt (x := x) ?_; subst x)
    | ((try lift_lets -underBinder); intro x; refine Keep.depSt (x := x) ?_; subst x)
    | ((try lift_lets -underBinder); intro x; clear_value x)
    | (intro _)
    | with_reducible apply Keep.ite
    | with_reducible apply State.setStage_good
    | with_reducible apply State.setPort_good
    | with_reducible apply State.setLaneState_good
    | with_reducible apply State.usePre_good
    | with_reducible apply State.linkDown_good
    | with_reducible apply State.setService_good
    | with_reducible apply State.txStart_good
    | with_reducible apply State.rxStart_good
    | with_reducible apply Keep.foldl

theorem State.toCapx_good (out : km.part .out) (tim : km.part .tim) (dep : km.part .dep) (mem : km.part .mem)
    (dram : km.part .dram) (scn : km.part .scn) (cor : km.part .cor) (rai : km.part .rai) (lfm : km.part .lfm)
    (line : km.part .line) (rdn : km.part .rdn) (que : km.part .que) (fwu : km.part .fwu) (any : ∀ f, km.fld f)
    (s : State) (p : Nat) (hs : s.Keeps km pq) : (State.toCapx s p).Keeps km pq := by
  unfold State.toCapx
  repeat' first
    | with_reducible assumption
    | (with_reducible (intros; exact any _))
    | ((try lift_lets -underBinder); intro x; refine Keep.use (k := km) (q := pq) (s := x) ?_ ?_; (on_goal 1 => dsimp -zeta only [x]); (on_goal 2 => clear_value x; intro _))
    | ((try lift_lets -underBinder); intro x; refine Keep.usePair (k := km) (q := pq) (p := x) ?_ ?_; (on_goal 1 => dsimp -zeta only [x]); (on_goal 2 => clear_value x; intro _))
    | ((try lift_lets -underBinder); intro x; refine Keep.memSt (x := x) ?_; subst x)
    | ((try lift_lets -underBinder); intro x; refine Keep.depSt (x := x) ?_; subst x)
    | ((try lift_lets -underBinder); intro x; clear_value x)
    | (intro _)
    | with_reducible apply Keep.ite
    | with_reducible apply State.setStage_good
    | with_reducible apply State.capx_good
    | with_reducible apply State.filter_good
    | with_reducible apply State.set_good
    | with_reducible apply State.setService_good
    | with_reducible apply State.placeLanes_good
    | with_reducible apply State.setPort_good
    | with_reducible apply State.sendAm_good
    | with_reducible apply State.rxStart_good

theorem State.toActive_good (out : km.part .out) (tim : km.part .tim) (dep : km.part .dep) (mem : km.part .mem)
    (dram : km.part .dram) (scn : km.part .scn) (cor : km.part .cor) (rai : km.part .rai) (lfm : km.part .lfm)
    (line : km.part .line) (rdn : km.part .rdn) (que : km.part .que) (any : ∀ f, km.fld f) (s : State) (p : Nat)
    (hs : s.Keeps km pq) : (State.toActive s p).Keeps km pq := by
  unfold State.toActive
  repeat' first
    | with_reducible assumption
    | (with_reducible (intros; exact any _))
    | ((try lift_lets -underBinder); intro x; refine Keep.use (k := km) (q := pq) (s := x) ?_ ?_; (on_goal 1 => dsimp -zeta only [x]); (on_goal 2 => clear_value x; intro _))
    | ((try lift_lets -underBinder); intro x; refine Keep.usePair (k := km) (q := pq) (p := x) ?_ ?_; (on_goal 1 => dsimp -zeta only [x]); (on_goal 2 => clear_value x; intro _))
    | ((try lift_lets -underBinder); intro x; refine Keep.memSt (x := x) ?_; subst x)
    | ((try lift_lets -underBinder); intro x; refine Keep.depSt (x := x) ?_; subst x)
    | ((try lift_lets -underBinder); intro x; clear_value x)
    | (intro _)
    | with_reducible apply State.setStage_good
    | with_reducible apply State.set_good
    | with_reducible apply State.ev_good
    | with_reducible apply State.evIf_good
    | with_reducible apply State.ldInvalid_good
    | with_reducible apply State.reportLink_good
    | with_reducible apply State.showLine_good
    | with_reducible apply State.enumStart_good

theorem State.tryActive_good (out : km.part .out) (tim : km.part .tim) (dep : km.part .dep) (mem : km.part .mem)
    (dram : km.part .dram) (scn : km.part .scn) (cor : km.part .cor) (rai : km.part .rai) (lfm : km.part .lfm)
    (line : km.part .line) (rdn : km.part .rdn) (que : km.part .que) (fwu : km.part .fwu) (any : ∀ f, km.fld f)
    (s : State) (p : Nat) (hs : s.Keeps km pq) : (State.tryActive s p).Keeps km pq := by
  unfold State.tryActive
  repeat' first
    | with_reducible assumption
    | (with_reducible (intros; exact any _))
    | ((try lift_lets -underBinder); intro x; refine Keep.use (k := km) (q := pq) (s := x) ?_ ?_; (on_goal 1 => dsimp -zeta only [x]); (on_goal 2 => clear_value x; intro _))
    | ((try lift_lets -underBinder); intro x; refine Keep.usePair (k := km) (q := pq) (p := x) ?_ ?_; (on_goal 1 => dsimp -zeta only [x]); (on_goal 2 => clear_value x; intro _))
    | ((try lift_lets -underBinder); intro x; refine Keep.memSt (x := x) ?_; subst x)
    | ((try lift_lets -underBinder); intro x; refine Keep.depSt (x := x) ?_; subst x)
    | ((try lift_lets -underBinder); intro x; clear_value x)
    | (intro _)
    | with_reducible apply Keep.ite
    | with_reducible apply State.capx_good
    | with_reducible apply State.toActive_good

theorem State.trainEnds_good (out : km.part .out) (tim : km.part .tim) (dep : km.part .dep) (mem : km.part .mem)
    (dram : km.part .dram) (scn : km.part .scn) (cor : km.part .cor) (rai : km.part .rai) (lfm : km.part .lfm)
    (line : km.part .line) (rdn : km.part .rdn) (que : km.part .que) (fwu : km.part .fwu) (any : ∀ f, km.fld f)
    (s : State) (p : Nat) (hs : s.Keeps km pq) : (State.trainEnds s p).Keeps km pq := by
  unfold State.trainEnds
  repeat' first
    | with_reducible assumption
    | (with_reducible (intros; exact any _))
    | (intro _)
    | with_reducible apply Keep.ite
    | with_reducible apply State.bringupFails_good
    | with_reducible apply State.toLock_good

theorem State.startTraining_good (out : km.part .out) (line : km.part .line)
    (hLNL_LANE_STAT_PRE_RX : ∀ a, km.fld (R.LNL.LANE_STAT.PRE_RX a))
    (hLNL_LANE_STAT_PRE_TX : ∀ a, km.fld (R.LNL.LANE_STAT.PRE_TX a))
    (hLNL_LANE_STAT_STATE : ∀ a, km.fld (R.LNL.LANE_STAT.STATE a))
    (hLNL_TX_TAPS_C0 : ∀ a, km.fld (R.LNL.TX_TAPS.C0 a)) (hLNL_TX_TAPS_CM1 : ∀ a, km.fld (R.LNL.TX_TAPS.CM1 a))
    (hLNL_TX_TAPS_CM2 : ∀ a, km.fld (R.LNL.TX_TAPS.CM2 a)) (hLNL_TX_TAPS_CP1 : ∀ a, km.fld (R.LNL.TX_TAPS.CP1 a))
    (hLNL_TX_TAPS_CP2 : ∀ a, km.fld (R.LNL.TX_TAPS.CP2 a)) (s : State) (l st : Nat) (hs : s.Keeps km pq) : (State.startTraining s l st).Keeps km pq := by
  unfold State.startTraining
  repeat' first
    | with_reducible assumption
    | with_reducible exact hLNL_LANE_STAT_PRE_RX _
    | with_reducible exact hLNL_LANE_STAT_PRE_TX _
    | with_reducible exact hLNL_LANE_STAT_STATE _
    | with_reducible exact hLNL_TX_TAPS_C0 _
    | with_reducible exact hLNL_TX_TAPS_CM1 _
    | with_reducible exact hLNL_TX_TAPS_CM2 _
    | with_reducible exact hLNL_TX_TAPS_CP1 _
    | with_reducible exact hLNL_TX_TAPS_CP2 _
    | ((try lift_lets -underBinder); intro x; refine Keep.use (k := km) (q := pq) (s := x) ?_ ?_; (on_goal 1 => dsimp -zeta only [x]); (on_goal 2 => clear_value x; intro _))
    | ((try lift_lets -underBinder); intro x; refine Keep.usePair (k := km) (q := pq) (p := x) ?_ ?_; (on_goal 1 => dsimp -zeta only [x]); (on_goal 2 => clear_value x; intro _))
    | ((try lift_lets -underBinder); intro x; refine Keep.memSt (x := x) ?_; subst x)
    | ((try lift_lets -underBinder); intro x; refine Keep.depSt (x := x) ?_; subst x)
    | ((try lift_lets -underBinder); intro x; clear_value x)
    | (intro _)
    | with_reducible apply Keep.ite
    | with_reducible apply State.setLaneState_good
    | with_reducible apply State.setTxTaps_good
    | with_reducible apply State.laneAnew_good
    | with_reducible apply State.setLane_good
    | with_reducible apply State.sendTraining_good

theorem State.fixChanged_good (out : km.part .out) (line : km.part .line)
    (hLNL_LANE_STAT_PRE_RX : ∀ a, km.fld (R.LNL.LANE_STAT.PRE_RX a))
    (hLNL_LANE_STAT_PRE_TX : ∀ a, km.fld (R.LNL.LANE_STAT.PRE_TX a))
    (hLNL_LANE_STAT_STATE : ∀ a, km.fld (R.LNL.LANE_STAT.STATE a))
    (hLNL_TX_TAPS_C0 : ∀ a, km.fld (R.LNL.TX_TAPS.C0 a)) (hLNL_TX_TAPS_CM1 : ∀ a, km.fld (R.LNL.TX_TAPS.CM1 a))
    (hLNL_TX_TAPS_CM2 : ∀ a, km.fld (R.LNL.TX_TAPS.CM2 a)) (hLNL_TX_TAPS_CP1 : ∀ a, km.fld (R.LNL.TX_TAPS.CP1 a))
    (hLNL_TX_TAPS_CP2 : ∀ a, km.fld (R.LNL.TX_TAPS.CP2 a)) (s : State) (l : Nat) (hs : s.Keeps km pq) : (State.fixChanged s l).Keeps km pq := by
  unfold State.fixChanged
  repeat' first
    | with_reducible assumption
    | with_reducible exact hLNL_LANE_STAT_PRE_RX _
    | with_reducible exact hLNL_LANE_STAT_PRE_TX _
    | with_reducible exact hLNL_LANE_STAT_STATE _
    | with_reducible exact hLNL_TX_TAPS_C0 _
    | with_reducible exact hLNL_TX_TAPS_CM1 _
    | with_reducible exact hLNL_TX_TAPS_CM2 _
    | with_reducible exact hLNL_TX_TAPS_CP1 _
    | with_reducible exact hLNL_TX_TAPS_CP2 _
    | ((try lift_lets -underBinder); intro x; refine Keep.use (k := km) (q := pq) (s := x) ?_ ?_; (on_goal 1 => dsimp -zeta only [x]); (on_goal 2 => clear_value x; intro _))
    | ((try lift_lets -underBinder); intro x; refine Keep.usePair (k := km) (q := pq) (p := x) ?_ ?_; (on_goal 1 => dsimp -zeta only [x]); (on_goal 2 => clear_value x; intro _))
    | ((try lift_lets -underBinder); intro x; refine Keep.memSt (x := x) ?_; subst x)
    | ((try lift_lets -underBinder); intro x; refine Keep.depSt (x := x) ?_; subst x)
    | ((try lift_lets -underBinder); intro x; clear_value x)
    | (intro _)
    | with_reducible apply Keep.ite
    | with_reducible apply State.retrain_good
    | with_reducible apply State.setTxTaps_good
    | with_reducible apply State.setLane_good
    | with_reducible apply State.sendTraining_good

theorem State.detectEnds_good (out : km.part .out) (tim : km.part .tim) (dep : km.part .dep) (mem : km.part .mem)
    (dram : km.part .dram) (scn : km.part .scn) (cor : km.part .cor) (rai : km.part .rai) (lfm : km.part .lfm)
    (line : km.part .line) (rdn : km.part .rdn) (que : km.part .que) (fwu : km.part .fwu) (any : ∀ f, km.fld f)
    (s : State) (p : Nat) (hs : s.Keeps km pq) : (State.detectEnds s p).Keeps km pq := by
  unfold State.detectEnds
  repeat' first
    | with_reducible assumption
    | (with_reducible (intros; exact any _))
    | ((try lift_lets -underBinder); intro x; refine Keep.use (k := km) (q := pq) (s := x) ?_ ?_; (on_goal 1 => dsimp -zeta only [x]); (on_goal 2 => clear_value x; intro _))
    | ((try lift_lets -underBinder); intro x; refine Keep.usePair (k := km) (q := pq) (p := x) ?_ ?_; (on_goal 1 => dsimp -zeta only [x]); (on_goal 2 => clear_value x; intro _))
    | ((try lift_lets -underBinder); intro x; refine Keep.memSt (x := x) ?_; subst x)
    | ((try lift_lets -underBinder); intro x; refine Keep.depSt (x := x) ?_; subst x)
    | ((try lift_lets -underBinder); intro x; clear_value x)
    | (intro _)
    | with_reducible apply Keep.ite
    | with_reducible apply State.filter_good
    | with_reducible apply State.toLock_good
    | with_reducible apply State.setStage_good
    | with_reducible apply State.startTraining_good
    | with_reducible apply Keep.foldl

theorem State.laneTrained_good (line : km.part .line)
    (hLNL_LANE_STAT_LAST_VALID : ∀ a, km.fld (R.LNL.LANE_STAT.LAST_VALID a))
    (hLNL_LAST_RX_RX : ∀ a, km.fld (R.LNL.LAST_RX.RX a))
    (hLNL_LAST_TX_TAPS_TAPS : ∀ a, km.fld (R.LNL.LAST_TX_TAPS.TAPS a))
    (hLNL_TRAIN_US_US : ∀ a, km.fld (R.LNL.TRAIN_US.US a)) (s : State) (l : Nat) (hs : s.Keeps km pq) : (State.laneTrained s l).Keeps km pq := by
  unfold State.laneTrained
  repeat' first
    | with_reducible assumption
    | with_reducible exact hLNL_LANE_STAT_LAST_VALID _
    | with_reducible exact hLNL_LAST_RX_RX _
    | with_reducible exact hLNL_LAST_TX_TAPS_TAPS _
    | with_reducible exact hLNL_TRAIN_US_US _
    | ((try lift_lets -underBinder); intro x; refine Keep.use (k := km) (q := pq) (s := x) ?_ ?_; (on_goal 1 => dsimp -zeta only [x]); (on_goal 2 => clear_value x; intro _))
    | ((try lift_lets -underBinder); intro x; refine Keep.usePair (k := km) (q := pq) (p := x) ?_ ?_; (on_goal 1 => dsimp -zeta only [x]); (on_goal 2 => clear_value x; intro _))
    | ((try lift_lets -underBinder); intro x; refine Keep.memSt (x := x) ?_; subst x)
    | ((try lift_lets -underBinder); intro x; refine Keep.depSt (x := x) ?_; subst x)
    | ((try lift_lets -underBinder); intro x; clear_value x)
    | (intro _)
    | with_reducible apply State.trainOver_good
    | with_reducible apply State.set_good
    | with_reducible apply State.setLane_good
    | with_reducible apply State.draw_good

theorem State.laneLeaves_good (out : km.part .out) (tim : km.part .tim) (dep : km.part .dep) (mem : km.part .mem)
    (dram : km.part .dram) (scn : km.part .scn) (cor : km.part .cor) (rai : km.part .rai) (lfm : km.part .lfm)
    (line : km.part .line) (rdn : km.part .rdn) (que : km.part .que) (fwu : km.part .fwu) (any : ∀ f, km.fld f)
    (s : State) (l : Nat) (hs : s.Keeps km pq) : (State.laneLeaves s l).Keeps km pq := by
  unfold State.laneLeaves
  repeat' first
    | with_reducible assumption
    | (with_reducible (intros; exact any _))
    | ((try lift_lets -underBinder); intro x; refine Keep.use (k := km) (q := pq) (s := x) ?_ ?_; (on_goal 1 => dsimp -zeta only [x]); (on_goal 2 => clear_value x; intro _))
    | ((try lift_lets -underBinder); intro x; refine Keep.usePair (k := km) (q := pq) (p := x) ?_ ?_; (on_goal 1 => dsimp -zeta only [x]); (on_goal 2 => clear_value x; intro _))
    | ((try lift_lets -underBinder); intro x; refine Keep.memSt (x := x) ?_; subst x)
    | ((try lift_lets -underBinder); intro x; refine Keep.depSt (x := x) ?_; subst x)
    | ((try lift_lets -underBinder); intro x; clear_value x)
    | (intro _)
    | with_reducible apply Keep.ite
    | with_reducible apply State.failLane_good
    | with_reducible apply State.trainEnds_good
    | with_reducible apply State.usePre_good
    | with_reducible apply State.laneTrained_good
    | with_reducible apply State.setLaneState_good
    | with_reducible apply State.set_good

theorem State.applyControl_good (line : km.part .line)
    (hLNL_LANE_STAT_PRE_TX : ∀ a, km.fld (R.LNL.LANE_STAT.PRE_TX a))
    (hLNL_TX_TAPS_C0 : ∀ a, km.fld (R.LNL.TX_TAPS.C0 a)) (hLNL_TX_TAPS_CM1 : ∀ a, km.fld (R.LNL.TX_TAPS.CM1 a))
    (hLNL_TX_TAPS_CM2 : ∀ a, km.fld (R.LNL.TX_TAPS.CM2 a)) (hLNL_TX_TAPS_CP1 : ∀ a, km.fld (R.LNL.TX_TAPS.CP1 a))
    (hLNL_TX_TAPS_CP2 : ∀ a, km.fld (R.LNL.TX_TAPS.CP2 a)) (s : State) (l ctl : Nat) (hs : s.Keeps km pq) : (State.applyControl s l ctl).Keeps km pq := by
  unfold State.applyControl
  repeat' first
    | with_reducible assumption
    | with_reducible exact hLNL_LANE_STAT_PRE_TX _
    | with_reducible exact hLNL_TX_TAPS_C0 _
    | with_reducible exact hLNL_TX_TAPS_CM1 _
    | with_reducible exact hLNL_TX_TAPS_CM2 _
    | with_reducible exact hLNL_TX_TAPS_CP1 _
    | with_reducible exact hLNL_TX_TAPS_CP2 _
    | ((try lift_lets -underBinder); intro x; refine Keep.use (k := km) (q := pq) (s := x) ?_ ?_; (on_goal 1 => dsimp -zeta only [x]); (on_goal 2 => clear_value x; intro _))
    | ((try lift_lets -underBinder); intro x; refine Keep.usePair (k := km) (q := pq) (p := x) ?_ ?_; (on_goal 1 => dsimp -zeta only [x]); (on_goal 2 => clear_value x; intro _))
    | ((try lift_lets -underBinder); intro x; refine Keep.memSt (x := x) ?_; subst x)
    | ((try lift_lets -underBinder); intro x; refine Keep.depSt (x := x) ?_; subst x)
    | ((try lift_lets -underBinder); intro x; clear_value x)
    | (intro _)
    | with_reducible apply Keep.ite
    | with_reducible apply Keep.ite1
    | dsimp -zeta only
    | with_reducible apply State.set_good
    | with_reducible apply State.setTxTaps_good
    | with_reducible apply State.setLane_good

theorem State.applyStatus_good (out : km.part .out) (line : km.part .line)
    (hLNL_LANE_STAT_PRE_RX : ∀ a, km.fld (R.LNL.LANE_STAT.PRE_RX a))
    (hLNL_LANE_STAT_PRE_TX : ∀ a, km.fld (R.LNL.LANE_STAT.PRE_TX a))
    (hLNL_LANE_STAT_STATE : ∀ a, km.fld (R.LNL.LANE_STAT.STATE a))
    (hLNL_TX_TAPS_C0 : ∀ a, km.fld (R.LNL.TX_TAPS.C0 a)) (hLNL_TX_TAPS_CM1 : ∀ a, km.fld (R.LNL.TX_TAPS.CM1 a))
    (hLNL_TX_TAPS_CM2 : ∀ a, km.fld (R.LNL.TX_TAPS.CM2 a)) (hLNL_TX_TAPS_CP1 : ∀ a, km.fld (R.LNL.TX_TAPS.CP1 a))
    (hLNL_TX_TAPS_CP2 : ∀ a, km.fld (R.LNL.TX_TAPS.CP2 a)) (s : State) (l sta req : Nat) (ready : Bool)
    (hs : s.Keeps km pq) : (State.applyStatus s l sta req ready).Keeps km pq := by
  unfold State.applyStatus
  repeat' first
    | with_reducible assumption
    | with_reducible exact hLNL_LANE_STAT_PRE_RX _
    | with_reducible exact hLNL_LANE_STAT_PRE_TX _
    | with_reducible exact hLNL_LANE_STAT_STATE _
    | with_reducible exact hLNL_TX_TAPS_C0 _
    | with_reducible exact hLNL_TX_TAPS_CM1 _
    | with_reducible exact hLNL_TX_TAPS_CM2 _
    | with_reducible exact hLNL_TX_TAPS_CP1 _
    | with_reducible exact hLNL_TX_TAPS_CP2 _
    | ((try lift_lets -underBinder); intro x; refine Keep.use (k := km) (q := pq) (s := x) ?_ ?_; (on_goal 1 => dsimp -zeta only [x]); (on_goal 2 => clear_value x; intro _))
    | ((try lift_lets -underBinder); intro x; refine Keep.usePair (k := km) (q := pq) (p := x) ?_ ?_; (on_goal 1 => dsimp -zeta only [x]); (on_goal 2 => clear_value x; intro _))
    | ((try lift_lets -underBinder); intro x; refine Keep.memSt (x := x) ?_; subst x)
    | ((try lift_lets -underBinder); intro x; refine Keep.depSt (x := x) ?_; subst x)
    | ((try lift_lets -underBinder); intro x; clear_value x)
    | (intro _)
    | with_reducible apply Keep.ite
    | with_reducible apply State.set_good
    | with_reducible apply State.retrain_good
    | with_reducible apply State.setLane_good

theorem State.trainingFrame_good (out : km.part .out) (tim : km.part .tim) (dep : km.part .dep) (mem : km.part .mem)
    (dram : km.part .dram) (scn : km.part .scn) (cor : km.part .cor) (rai : km.part .rai) (lfm : km.part .lfm)
    (line : km.part .line) (rdn : km.part .rdn) (que : km.part .que) (fwu : km.part .fwu) (any : ∀ f, km.fld f)
    (s : State) (l ctl sta : Nat) (valid inverted : Bool) (req : Nat) (errors : Option Nat) (hs : s.Keeps km pq) : (State.trainingFrame s l ctl sta valid inverted req errors).Keeps km pq := by
  unfold State.trainingFrame
  repeat' first
    | with_reducible assumption
    | (with_reducible (intros; exact any _))
    | ((try lift_lets -underBinder); intro x; refine Keep.use (k := km) (q := pq) (s := x) ?_ ?_; (on_goal 1 => dsimp -zeta only [x]); (on_goal 2 => clear_value x; intro _))
    | ((try lift_lets -underBinder); intro x; refine Keep.usePair (k := km) (q := pq) (p := x) ?_ ?_; (on_goal 1 => dsimp -zeta only [x]); (on_goal 2 => clear_value x; intro _))
    | ((try lift_lets -underBinder); intro x; refine Keep.memSt (x := x) ?_; subst x)
    | ((try lift_lets -underBinder); intro x; refine Keep.depSt (x := x) ?_; subst x)
    | ((try lift_lets -underBinder); intro x; clear_value x)
    | (intro _)
    | with_reducible apply Keep.ite
    | with_reducible apply State.retrain_good
    | with_reducible apply State.setLane_good
    | with_reducible apply State.failLane_good
    | with_reducible apply State.trainEnds_good
    | with_reducible apply State.detectEnds_good
    | with_reducible apply State.set_good
    | with_reducible apply State.setPort_good
    | with_reducible apply State.applyControl_good
    | with_reducible apply State.applyStatus_good
    | with_reducible apply State.sendTraining_good
    | with_reducible apply State.laneLeaves_good

theorem State.trainTimeout_good (out : km.part .out) (tim : km.part .tim) (dep : km.part .dep) (mem : km.part .mem)
    (dram : km.part .dram) (scn : km.part .scn) (cor : km.part .cor) (rai : km.part .rai) (lfm : km.part .lfm)
    (line : km.part .line) (rdn : km.part .rdn) (que : km.part .que) (fwu : km.part .fwu) (any : ∀ f, km.fld f)
    (s : State) (l : Nat) (hs : s.Keeps km pq) : (State.trainTimeout s l).Keeps km pq := by
  unfold State.trainTimeout
  repeat' first
    | with_reducible assumption
    | (with_reducible (intros; exact any _))
    | (intro _)
    | with_reducible apply Keep.ite
    | with_reducible apply State.failLane_good
    | with_reducible apply State.trainEnds_good

theorem State.giveUp_good (out : km.part .out) (tim : km.part .tim) (dep : km.part .dep) (mem : km.part .mem)
    (dram : km.part .dram) (scn : km.part .scn) (cor : km.part .cor) (rai : km.part .rai) (lfm : km.part .lfm)
    (line : km.part .line) (rdn : km.part .rdn) (que : km.part .que) (fwu : km.part .fwu) (any : ∀ f, km.fld f)
    (s : State) (l : Nat) (hs : s.Keeps km pq) : (State.giveUp s l).Keeps km pq := by
  unfold State.giveUp
  repeat' first
    | with_reducible assumption
    | (with_reducible (intros; exact any _))
    | ((try lift_lets -underBinder); intro x; refine Keep.use (k := km) (q := pq) (s := x) ?_ ?_; (on_goal 1 => dsimp -zeta only [x]); (on_goal 2 => clear_value x; intro _))
    | ((try lift_lets -underBinder); intro x; refine Keep.usePair (k := km) (q := pq) (p := x) ?_ ?_; (on_goal 1 => dsimp -zeta only [x]); (on_goal 2 => clear_value x; intro _))
    | ((try lift_lets -underBinder); intro x; refine Keep.memSt (x := x) ?_; subst x)
    | ((try lift_lets -underBinder); intro x; refine Keep.depSt (x := x) ?_; subst x)
    | ((try lift_lets -underBinder); intro x; clear_value x)
    | (intro _)
    | with_reducible apply Keep.ite
    | with_reducible apply State.retrain_good
    | with_reducible apply State.setLane_good
    | with_reducible apply State.sendTraining_good
    | with_reducible apply State.laneLeaves_good

theorem State.lockCheck_good (out : km.part .out) (tim : km.part .tim) (dep : km.part .dep) (mem : km.part .mem)
    (dram : km.part .dram) (scn : km.part .scn) (cor : km.part .cor) (rai : km.part .rai) (lfm : km.part .lfm)
    (line : km.part .line) (rdn : km.part .rdn) (que : km.part .que) (fwu : km.part .fwu) (any : ∀ f, km.fld f)
    (s : State) (p : Nat) (hs : s.Keeps km pq) : (State.lockCheck s p).Keeps km pq := by
  unfold State.lockCheck
  repeat' first
    | with_reducible assumption
    | (with_reducible (intros; exact any _))
    | (intro _)
    | with_reducible apply Keep.ite
    | with_reducible apply State.toCapx_good

theorem State.lockFail_good (out : km.part .out) (tim : km.part .tim) (dep : km.part .dep) (mem : km.part .mem)
    (dram : km.part .dram) (scn : km.part .scn) (cor : km.part .cor) (rai : km.part .rai) (lfm : km.part .lfm)
    (line : km.part .line) (rdn : km.part .rdn) (que : km.part .que) (fwu : km.part .fwu) (any : ∀ f, km.fld f)
    (s : State) (p k reason : Nat) (hs : s.Keeps km pq) : (State.lockFail s p k reason).Keeps km pq := by
  unfold State.lockFail
  repeat' first
    | with_reducible assumption
    | (with_reducible (intros; exact any _))
    | ((try lift_lets -underBinder); intro x; refine Keep.use (k := km) (q := pq) (s := x) ?_ ?_; (on_goal 1 => dsimp -zeta only [x]); (on_goal 2 => clear_value x; intro _))
    | ((try lift_lets -underBinder); intro x; refine Keep.usePair (k := km) (q := pq) (p := x) ?_ ?_; (on_goal 1 => dsimp -zeta only [x]); (on_goal 2 => clear_value x; intro _))
    | ((try lift_lets -underBinder); intro x; refine Keep.memSt (x := x) ?_; subst x)
    | ((try lift_lets -underBinder); intro x; refine Keep.depSt (x := x) ?_; subst x)
    | ((try lift_lets -underBinder); intro x; clear_value x)
    | (intro _)
    | with_reducible apply Keep.ite
    | with_reducible apply State.failLane_good
    | with_reducible apply State.lockCheck_good
    | with_reducible apply State.toLock_good

theorem State.showLaneSkew_good (hLNL_SKEW_PS : ∀ a, km.fld (R.LNL.SKEW.PS a)) (s : State) (l : Nat) (skew : Int)
    (hs : s.Keeps km pq) : (State.showLaneSkew s l skew).Keeps km pq := by
  unfold State.showLaneSkew
  repeat' first
    | with_reducible assumption
    | with_reducible exact hLNL_SKEW_PS _
    | (intro _)
    | with_reducible apply State.setI_good

theorem State.lockEnd_good (out : km.part .out) (tim : km.part .tim) (dep : km.part .dep) (mem : km.part .mem)
    (dram : km.part .dram) (scn : km.part .scn) (cor : km.part .cor) (rai : km.part .rai) (lfm : km.part .lfm)
    (line : km.part .line) (rdn : km.part .rdn) (que : km.part .que) (fwu : km.part .fwu) (any : ∀ f, km.fld f)
    (s : State) (p : Nat) (hs : s.Keeps km pq) : (State.lockEnd s p).Keeps km pq := by
  unfold State.lockEnd
  repeat' first
    | with_reducible assumption
    | (with_reducible (intros; exact any _))
    | ((try lift_lets -underBinder); intro x; refine Keep.use (k := km) (q := pq) (s := x) ?_ ?_; (on_goal 1 => dsimp -zeta only [x]); (on_goal 2 => clear_value x; intro _))
    | ((try lift_lets -underBinder); intro x; refine Keep.usePair (k := km) (q := pq) (p := x) ?_ ?_; (on_goal 1 => dsimp -zeta only [x]); (on_goal 2 => clear_value x; intro _))
    | ((try lift_lets -underBinder); intro x; refine Keep.memSt (x := x) ?_; subst x)
    | ((try lift_lets -underBinder); intro x; refine Keep.depSt (x := x) ?_; subst x)
    | ((try lift_lets -underBinder); intro x; clear_value x)
    | (intro _)
    | with_reducible apply Keep.ite
    | with_reducible apply State.filter_good
    | with_reducible apply State.failLane_good
    | with_reducible apply State.setStage_good
    | with_reducible apply State.set_good
    | with_reducible apply State.ev_good
    | with_reducible apply State.setLane_good
    | with_reducible apply State.startTraining_good
    | with_reducible apply State.toCapx_good
    | with_reducible apply State.linkDown_good
    | (simp -zeta only [Keep.mk_iff]; with_reducible refine Keep.upd ?_ rfl ?_; on_goal 2 => (and_intros <;> with_reducible first | exact .inl rfl | exact .inl ⟨rfl, rfl, rfl⟩ | exact .inr ‹_› | exact Nat.le_refl _ | exact Nat.le_add_right _ _))
    | with_reducible apply Keep.foldl

theorem State.capxSend_good (out : km.part .out) (tim : km.part .tim) (dep : km.part .dep) (mem : km.part .mem)
    (dram : km.part .dram) (scn : km.part .scn) (cor : km.part .cor) (rai : km.part .rai) (lfm : km.part .lfm)
    (line : km.part .line) (rdn : km.part .rdn) (que : km.part .que) (fwu : km.part .fwu) (any : ∀ f, km.fld f)
    (s : State) (p : Nat) (hs : s.Keeps km pq) : (State.capxSend s p).Keeps km pq := by
  unfold State.capxSend
  repeat' first
    | with_reducible assumption
    | (with_reducible (intros; exact any _))
    | ((try lift_lets -underBinder); intro x; refine Keep.use (k := km) (q := pq) (s := x) ?_ ?_; (on_goal 1 => dsimp -zeta only [x]); (on_goal 2 => clear_value x; intro _))
    | ((try lift_lets -underBinder); intro x; refine Keep.usePair (k := km) (q := pq) (p := x) ?_ ?_; (on_goal 1 => dsimp -zeta only [x]); (on_goal 2 => clear_value x; intro _))
    | ((try lift_lets -underBinder); intro x; refine Keep.memSt (x := x) ?_; subst x)
    | ((try lift_lets -underBinder); intro x; refine Keep.depSt (x := x) ?_; subst x)
    | ((try lift_lets -underBinder); intro x; clear_value x)
    | (intro _)
    | with_reducible apply Keep.ite
    | with_reducible apply State.capx_good
    | with_reducible apply State.queueMsg_good
    | with_reducible apply State.forN_good
    | with_reducible apply State.txGroup_good
    | with_reducible apply State.setPort_good
    | with_reducible apply State.tryActive_good

theorem State.capx_good (out : km.part .out) (tim : km.part .tim) (dep : km.part .dep) (mem : km.part .mem)
    (dram : km.part .dram) (scn : km.part .scn) (cor : km.part .cor) (rai : km.part .rai) (lfm : km.part .lfm)
    (line : km.part .line) (rdn : km.part .rdn) (que : km.part .que) (fwu : km.part .fwu) (any : ∀ f, km.fld f)
    (s : State) (p : Nat) (m : CapxMsg) (hs : s.Keeps km pq) : (State.capx s p m).Keeps km pq := by
  unfold State.capx
  repeat' first
    | with_reducible assumption
    | (with_reducible (intros; exact any _))
    | ((try lift_lets -underBinder); intro x; refine Keep.use (k := km) (q := pq) (s := x) ?_ ?_; (on_goal 1 => dsimp -zeta only [x]); (on_goal 2 => clear_value x; intro _))
    | ((try lift_lets -underBinder); intro x; refine Keep.usePair (k := km) (q := pq) (p := x) ?_ ?_; (on_goal 1 => dsimp -zeta only [x]); (on_goal 2 => clear_value x; intro _))
    | ((try lift_lets -underBinder); intro x; refine Keep.memSt (x := x) ?_; subst x)
    | ((try lift_lets -underBinder); intro x; refine Keep.depSt (x := x) ?_; subst x)
    | ((try lift_lets -underBinder); intro x; clear_value x)
    | (intro _)
    | with_reducible apply Keep.ite
    | with_reducible apply State.set_good
    | with_reducible apply State.setStage_good
    | with_reducible apply State.setPort_good
    | with_reducible apply State.err_good
    | with_reducible apply State.ev_good
    | with_reducible apply State.evIf_good
    | with_reducible apply State.tryActive_good
    | with_reducible apply State.bringupFails_good
    | with_reducible apply State.toLock_good

theorem State.capxTimeout_good (out : km.part .out) (tim : km.part .tim) (dep : km.part .dep) (mem : km.part .mem)
    (dram : km.part .dram) (scn : km.part .scn) (cor : km.part .cor) (rai : km.part .rai) (lfm : km.part .lfm)
    (line : km.part .line) (rdn : km.part .rdn) (que : km.part .que) (fwu : km.part .fwu) (any : ∀ f, km.fld f)
    (s : State) (p : Nat) (hs : s.Keeps km pq) : (State.capxTimeout s p).Keeps km pq := by
  unfold State.capxTimeout
  repeat' first
    | with_reducible assumption
    | (with_reducible (intros; exact any _))
    | (intro _)
    | with_reducible apply Keep.ite
    | with_reducible apply State.capx_good
    | with_reducible apply State.bringupFails_good

theorem State.retryInterval_good (out : km.part .out) (tim : km.part .tim) (dep : km.part .dep) (mem : km.part .mem)
    (dram : km.part .dram) (scn : km.part .scn) (cor : km.part .cor) (rai : km.part .rai) (lfm : km.part .lfm)
    (line : km.part .line) (rdn : km.part .rdn) (que : km.part .que) (any : ∀ f, km.fld f) (s : State) (p : Nat)
    (hs : s.Keeps km pq) : (State.retryInterval s p).Keeps km pq := by
  unfold State.retryInterval
  repeat' first
    | with_reducible assumption
    | (with_reducible (intros; exact any _))
    | (intro _)
    | with_reducible apply Keep.ite
    | with_reducible apply State.toDetect_good

theorem State.replayFrom_good (out : km.part .out) (tim : km.part .tim) (dep : km.part .dep) (mem : km.part .mem)
    (dram : km.part .dram) (scn : km.part .scn) (cor : km.part .cor) (rai : km.part .rai) (lfm : km.part .lfm)
    (line : km.part .line) (rdn : km.part .rdn) (que : km.part .que) (fwu : km.part .fwu) (any : ∀ f, km.fld f)
    (s : State) (p from_ : Nat) (hs : s.Keeps km pq) : (State.replayFrom s p from_).Keeps km pq := by
  unfold State.replayFrom
  repeat' first
    | with_reducible assumption
    | (with_reducible (intros; exact any _))
    | ((try lift_lets -underBinder); intro x; refine Keep.use (k := km) (q := pq) (s := x) ?_ ?_; (on_goal 1 => dsimp -zeta only [x]); (on_goal 2 => clear_value x; intro _))
    | ((try lift_lets -underBinder); intro x; refine Keep.usePair (k := km) (q := pq) (p := x) ?_ ?_; (on_goal 1 => dsimp -zeta only [x]); (on_goal 2 => clear_value x; intro _))
    | ((try lift_lets -underBinder); intro x; refine Keep.memSt (x := x) ?_; subst x)
    | ((try lift_lets -underBinder); intro x; refine Keep.depSt (x := x) ?_; subst x)
    | ((try lift_lets -underBinder); intro x; clear_value x)
    | (intro _)
    | with_reducible apply Keep.ite
    | with_reducible apply State.filter_good
    | with_reducible apply State.setPort_good
    | with_reducible apply State.lnkCount_good
    | with_reducible apply State.txSend_good
    | (simp -zeta only [Keep.mk_iff]; with_reducible refine Keep.upd ?_ rfl ?_; on_goal 2 => (and_intros <;> with_reducible first | exact .inl rfl | exact .inl ⟨rfl, rfl, rfl⟩ | exact .inr ‹_› | exact Nat.le_refl _ | exact Nat.le_add_right _ _))
    | with_reducible apply Keep.foldl

theorem State.moveLanes_good (tim : km.part .tim) (line : km.part .line)
    (hLNL_LANE_STAT_PRE_RX : ∀ a, km.fld (R.LNL.LANE_STAT.PRE_RX a))
    (hLNL_LANE_STAT_PRE_TX : ∀ a, km.fld (R.LNL.LANE_STAT.PRE_TX a))
    (hTIM_DOM_OFFSET_OFFSET : ∀ a, km.fld (R.TIM.DOM_OFFSET.OFFSET a))
    (hTIM_DOM_RATE_RATE : ∀ a, km.fld (R.TIM.DOM_RATE.RATE a)) (s : State) (p : Nat) (was now : List Nat)
    (hs : s.Keeps km pq) : (State.moveLanes s p was now).Keeps km pq := by
  unfold State.moveLanes
  repeat' first
    | with_reducible assumption
    | with_reducible exact hLNL_LANE_STAT_PRE_RX _
    | with_reducible exact hLNL_LANE_STAT_PRE_TX _
    | with_reducible exact hTIM_DOM_OFFSET_OFFSET _
    | with_reducible exact hTIM_DOM_RATE_RATE _
    | ((try lift_lets -underBinder); intro x; refine Keep.use (k := km) (q := pq) (s := x) ?_ ?_; (on_goal 1 => dsimp -zeta only [x]); (on_goal 2 => clear_value x; intro _))
    | ((try lift_lets -underBinder); intro x; refine Keep.usePair (k := km) (q := pq) (p := x) ?_ ?_; (on_goal 1 => dsimp -zeta only [x]); (on_goal 2 => clear_value x; intro _))
    | ((try lift_lets -underBinder); intro x; refine Keep.memSt (x := x) ?_; subst x)
    | ((try lift_lets -underBinder); intro x; refine Keep.depSt (x := x) ?_; subst x)
    | ((try lift_lets -underBinder); intro x; clear_value x)
    | (intro _)
    | with_reducible apply State.filter_good
    | with_reducible apply State.set_good
    | with_reducible apply State.usePre_good
    | with_reducible apply State.setLane_good
    | (simp -zeta only [Keep.mk_iff]; with_reducible refine Keep.upd ?_ rfl ?_; on_goal 2 => (and_intros <;> with_reducible first | exact .inl rfl | exact .inl ⟨rfl, rfl, rfl⟩ | exact .inr ‹_› | exact Nat.le_refl _ | exact Nat.le_add_right _ _))
    | with_reducible apply Keep.foldl

theorem State.widthSwitch_good (out : km.part .out) (tim : km.part .tim) (dep : km.part .dep) (mem : km.part .mem)
    (dram : km.part .dram) (scn : km.part .scn) (cor : km.part .cor) (rai : km.part .rai) (lfm : km.part .lfm)
    (line : km.part .line) (rdn : km.part .rdn) (que : km.part .que) (fwu : km.part .fwu) (any : ∀ f, km.fld f)
    (s : State) (p : Nat) (hs : s.Keeps km pq) : (State.widthSwitch s p).Keeps km pq := by
  unfold State.widthSwitch
  repeat' first
    | with_reducible assumption
    | (with_reducible (intros; exact any _))
    | ((try lift_lets -underBinder); intro x; refine Keep.use (k := km) (q := pq) (s := x) ?_ ?_; (on_goal 1 => dsimp -zeta only [x]); (on_goal 2 => clear_value x; intro _))
    | ((try lift_lets -underBinder); intro x; refine Keep.usePair (k := km) (q := pq) (p := x) ?_ ?_; (on_goal 1 => dsimp -zeta only [x]); (on_goal 2 => clear_value x; intro _))
    | ((try lift_lets -underBinder); intro x; refine Keep.memSt (x := x) ?_; subst x)
    | ((try lift_lets -underBinder); intro x; refine Keep.depSt (x := x) ?_; subst x)
    | ((try lift_lets -underBinder); intro x; clear_value x)
    | (intro _)
    | with_reducible apply Keep.ite
    | with_reducible apply State.setPort_good
    | with_reducible apply State.linkDown_good
    | with_reducible apply State.setService_good
    | with_reducible apply State.placeLanes_good
    | with_reducible apply State.moveLanes_good
    | with_reducible apply State.sendAm_good
    | with_reducible apply State.ldInvalid_good
    | with_reducible apply State.replayFrom_good
    | with_reducible apply State.lnkCount_good
    | with_reducible apply State.ev_good
    | with_reducible apply State.showLine_good
    | with_reducible apply State.reportLink_good
    | split

theorem State.startWidth_good (out : km.part .out) (tim : km.part .tim) (dep : km.part .dep) (mem : km.part .mem)
    (dram : km.part .dram) (scn : km.part .scn) (cor : km.part .cor) (rai : km.part .rai) (lfm : km.part .lfm)
    (line : km.part .line) (rdn : km.part .rdn) (que : km.part .que) (fwu : km.part .fwu) (any : ∀ f, km.fld f)
    (s : State) (p : Nat) (hs : s.Keeps km pq) : (State.startWidth s p).Keeps km pq := by
  unfold State.startWidth
  repeat' first
    | with_reducible assumption
    | (with_reducible (intros; exact any _))
    | ((try lift_lets -underBinder); intro x; refine Keep.use (k := km) (q := pq) (s := x) ?_ ?_; (on_goal 1 => dsimp -zeta only [x]); (on_goal 2 => clear_value x; intro _))
    | ((try lift_lets -underBinder); intro x; refine Keep.usePair (k := km) (q := pq) (p := x) ?_ ?_; (on_goal 1 => dsimp -zeta only [x]); (on_goal 2 => clear_value x; intro _))
    | ((try lift_lets -underBinder); intro x; refine Keep.memSt (x := x) ?_; subst x)
    | ((try lift_lets -underBinder); intro x; refine Keep.depSt (x := x) ?_; subst x)
    | ((try lift_lets -underBinder); intro x; clear_value x)
    | (intro _)
    | with_reducible apply State.setPort_good
    | with_reducible apply State.txGroup_good
    | with_reducible apply State.widthSwitch_good

theorem State.laneOut_good (out : km.part .out) (tim : km.part .tim) (dep : km.part .dep) (mem : km.part .mem)
    (dram : km.part .dram) (scn : km.part .scn) (cor : km.part .cor) (rai : km.part .rai) (lfm : km.part .lfm)
    (line : km.part .line) (rdn : km.part .rdn) (que : km.part .que) (fwu : km.part .fwu) (any : ∀ f, km.fld f)
    (s : State) (l st reason : Nat) (fault : Bool) (hs : s.Keeps km pq) : (State.laneOut s l st reason fault).Keeps km pq := by
  unfold State.laneOut
  repeat' first
    | with_reducible assumption
    | (with_reducible (intros; exact any _))
    | ((try lift_lets -underBinder); intro x; refine Keep.use (k := km) (q := pq) (s := x) ?_ ?_; (on_goal 1 => dsimp -zeta only [x]); (on_goal 2 => clear_value x; intro _))
    | ((try lift_lets -underBinder); intro x; refine Keep.usePair (k := km) (q := pq) (p := x) ?_ ?_; (on_goal 1 => dsimp -zeta only [x]); (on_goal 2 => clear_value x; intro _))
    | ((try lift_lets -underBinder); intro x; refine Keep.memSt (x := x) ?_; subst x)
    | ((try lift_lets -underBinder); intro x; refine Keep.depSt (x := x) ?_; subst x)
    | ((try lift_lets -underBinder); intro x; clear_value x)
    | (intro _)
    | with_reducible apply Keep.ite
    | with_reducible apply State.failLane_good
    | with_reducible apply State.setLaneState_good
    | with_reducible apply State.set_good
    | with_reducible apply State.linkDown_good
    | with_reducible apply State.startWidth_good

theorem State.retrain_good (out : km.part .out) (line : km.part .line)
    (hLNL_LANE_STAT_PRE_RX : ∀ a, km.fld (R.LNL.LANE_STAT.PRE_RX a))
    (hLNL_LANE_STAT_PRE_TX : ∀ a, km.fld (R.LNL.LANE_STAT.PRE_TX a))
    (hLNL_LANE_STAT_STATE : ∀ a, km.fld (R.LNL.LANE_STAT.STATE a))
    (hLNL_TX_TAPS_C0 : ∀ a, km.fld (R.LNL.TX_TAPS.C0 a)) (hLNL_TX_TAPS_CM1 : ∀ a, km.fld (R.LNL.TX_TAPS.CM1 a))
    (hLNL_TX_TAPS_CM2 : ∀ a, km.fld (R.LNL.TX_TAPS.CM2 a)) (hLNL_TX_TAPS_CP1 : ∀ a, km.fld (R.LNL.TX_TAPS.CP1 a))
    (hLNL_TX_TAPS_CP2 : ∀ a, km.fld (R.LNL.TX_TAPS.CP2 a)) (s : State) (l : Nat) (hs : s.Keeps km pq) : (State.retrain s l).Keeps km pq := by
  unfold State.retrain
  repeat' first
    | with_reducible assumption
    | with_reducible exact hLNL_LANE_STAT_PRE_RX _
    | with_reducible exact hLNL_LANE_STAT_PRE_TX _
    | with_reducible exact hLNL_LANE_STAT_STATE _
    | with_reducible exact hLNL_TX_TAPS_C0 _
    | with_reducible exact hLNL_TX_TAPS_CM1 _
    | with_reducible exact hLNL_TX_TAPS_CM2 _
    | with_reducible exact hLNL_TX_TAPS_CP1 _
    | with_reducible exact hLNL_TX_TAPS_CP2 _
    | ((try lift_lets -underBinder); intro x; refine Keep.use (k := km) (q := pq) (s := x) ?_ ?_; (on_goal 1 => dsimp -zeta only [x]); (on_goal 2 => clear_value x; intro _))
    | ((try lift_lets -underBinder); intro x; refine Keep.usePair (k := km) (q := pq) (p := x) ?_ ?_; (on_goal 1 => dsimp -zeta only [x]); (on_goal 2 => clear_value x; intro _))
    | ((try lift_lets -underBinder); intro x; refine Keep.memSt (x := x) ?_; subst x)
    | ((try lift_lets -underBinder); intro x; refine Keep.depSt (x := x) ?_; subst x)
    | ((try lift_lets -underBinder); intro x; clear_value x)
    | (intro _)
    | with_reducible apply State.laneAnew_good
    | with_reducible apply State.setLane_good
    | with_reducible apply State.startTraining_good

theorem State.laneFault_good (out : km.part .out) (tim : km.part .tim) (dep : km.part .dep) (mem : km.part .mem)
    (dram : km.part .dram) (scn : km.part .scn) (cor : km.part .cor) (rai : km.part .rai) (lfm : km.part .lfm)
    (line : km.part .line) (rdn : km.part .rdn) (que : km.part .que) (fwu : km.part .fwu) (any : ∀ f, km.fld f)
    (s : State) (l : Nat) (hs : s.Keeps km pq) : (State.laneFault s l).Keeps km pq := by
  unfold State.laneFault
  repeat' first
    | with_reducible assumption
    | (with_reducible (intros; exact any _))
    | ((try lift_lets -underBinder); intro x; refine Keep.use (k := km) (q := pq) (s := x) ?_ ?_; (on_goal 1 => dsimp -zeta only [x]); (on_goal 2 => clear_value x; intro _))
    | ((try lift_lets -underBinder); intro x; refine Keep.usePair (k := km) (q := pq) (p := x) ?_ ?_; (on_goal 1 => dsimp -zeta only [x]); (on_goal 2 => clear_value x; intro _))
    | ((try lift_lets -underBinder); intro x; refine Keep.memSt (x := x) ?_; subst x)
    | ((try lift_lets -underBinder); intro x; refine Keep.depSt (x := x) ?_; subst x)
    | ((try lift_lets -underBinder); intro x; clear_value x)
    | (intro _)
    | with_reducible apply Keep.ite
    | with_reducible apply State.ev_good
    | with_reducible apply State.laneOut_good
    | with_reducible apply State.retrain_good

theorem State.laneWrong_good (out : km.part .out) (tim : km.part .tim) (dep : km.part .dep) (mem : km.part .mem)
    (dram : km.part .dram) (scn : km.part .scn) (cor : km.part .cor) (rai : km.part .rai) (lfm : km.part .lfm)
    (line : km.part .line) (rdn : km.part .rdn) (que : km.part .que) (fwu : km.part .fwu) (any : ∀ f, km.fld f)
    (s : State) (l reason : Nat) (hs : s.Keeps km pq) : (State.laneWrong s l reason).Keeps km pq := by
  unfold State.laneWrong
  repeat' first
    | with_reducible assumption
    | (with_reducible (intros; exact any _))
    | ((try lift_lets -underBinder); intro x; refine Keep.use (k := km) (q := pq) (s := x) ?_ ?_; (on_goal 1 => dsimp -zeta only [x]); (on_goal 2 => clear_value x; intro _))
    | ((try lift_lets -underBinder); intro x; refine Keep.usePair (k := km) (q := pq) (p := x) ?_ ?_; (on_goal 1 => dsimp -zeta only [x]); (on_goal 2 => clear_value x; intro _))
    | ((try lift_lets -underBinder); intro x; refine Keep.memSt (x := x) ?_; subst x)
    | ((try lift_lets -underBinder); intro x; refine Keep.depSt (x := x) ?_; subst x)
    | ((try lift_lets -underBinder); intro x; clear_value x)
    | (intro _)
    | with_reducible apply Keep.ite
    | with_reducible apply State.evIf_good
    | with_reducible apply State.laneOut_good
    | with_reducible apply State.lockFail_good
    | with_reducible apply State.failLane_good
    | with_reducible apply State.toLock_good

theorem State.laneLocked_good (out : km.part .out) (tim : km.part .tim) (dep : km.part .dep) (mem : km.part .mem)
    (dram : km.part .dram) (scn : km.part .scn) (cor : km.part .cor) (rai : km.part .rai) (lfm : km.part .lfm)
    (line : km.part .line) (rdn : km.part .rdn) (que : km.part .que) (fwu : km.part .fwu) (any : ∀ f, km.fld f)
    (s : State) (l : Nat) (skew : Int) (found : Nat) (inverted : Bool) (hs : s.Keeps km pq) : (State.laneLocked s l skew found inverted).Keeps km pq := by
  unfold State.laneLocked
  repeat' first
    | with_reducible assumption
    | (with_reducible (intros; exact any _))
    | ((try lift_lets -underBinder); intro x; refine Keep.use (k := km) (q := pq) (s := x) ?_ ?_; (on_goal 1 => dsimp -zeta only [x]); (on_goal 2 => clear_value x; intro _))
    | ((try lift_lets -underBinder); intro x; refine Keep.usePair (k := km) (q := pq) (p := x) ?_ ?_; (on_goal 1 => dsimp -zeta only [x]); (on_goal 2 => clear_value x; intro _))
    | ((try lift_lets -underBinder); intro x; refine Keep.memSt (x := x) ?_; subst x)
    | ((try lift_lets -underBinder); intro x; refine Keep.depSt (x := x) ?_; subst x)
    | ((try lift_lets -underBinder); intro x; clear_value x)
    | (intro _)
    | with_reducible apply Keep.ite
    | with_reducible apply State.showLaneSkew_good
    | with_reducible apply State.set_good
    | with_reducible apply State.lockFail_good
    | with_reducible apply State.setPort_good
    | with_reducible apply State.lockCheck_good
    | with_reducible apply State.capx_good
    | with_reducible apply State.laneWrong_good

theorem State.mayWiden_good (out : km.part .out) (tim : km.part .tim) (dep : km.part .dep) (mem : km.part .mem)
    (dram : km.part .dram) (scn : km.part .scn) (cor : km.part .cor) (rai : km.part .rai) (lfm : km.part .lfm)
    (line : km.part .line) (rdn : km.part .rdn) (que : km.part .que) (fwu : km.part .fwu) (any : ∀ f, km.fld f)
    (s : State) (p : Nat) (hs : s.Keeps km pq) : (State.mayWiden s p).Keeps km pq := by
  unfold State.mayWiden
  repeat' first
    | with_reducible assumption
    | (with_reducible (intros; exact any _))
    | ((try lift_lets -underBinder); intro x; refine Keep.use (k := km) (q := pq) (s := x) ?_ ?_; (on_goal 1 => dsimp -zeta only [x]); (on_goal 2 => clear_value x; intro _))
    | ((try lift_lets -underBinder); intro x; refine Keep.usePair (k := km) (q := pq) (p := x) ?_ ?_; (on_goal 1 => dsimp -zeta only [x]); (on_goal 2 => clear_value x; intro _))
    | ((try lift_lets -underBinder); intro x; refine Keep.memSt (x := x) ?_; subst x)
    | ((try lift_lets -underBinder); intro x; refine Keep.depSt (x := x) ?_; subst x)
    | ((try lift_lets -underBinder); intro x; clear_value x)
    | (intro _)
    | with_reducible apply Keep.ite
    | with_reducible apply State.startWidth_good

theorem State.retrainDone_good (out : km.part .out) (tim : km.part .tim) (dep : km.part .dep) (mem : km.part .mem)
    (dram : km.part .dram) (scn : km.part .scn) (cor : km.part .cor) (rai : km.part .rai) (lfm : km.part .lfm)
    (line : km.part .line) (rdn : km.part .rdn) (que : km.part .que) (fwu : km.part .fwu) (any : ∀ f, km.fld f)
    (s : State) (l : Nat) (ok : Bool) (hs : s.Keeps km pq) : (State.retrainDone s l ok).Keeps km pq := by
  unfold State.retrainDone
  repeat' first
    | with_reducible assumption
    | (with_reducible (intros; exact any _))
    | ((try lift_lets -underBinder); intro x; refine Keep.use (k := km) (q := pq) (s := x) ?_ ?_; (on_goal 1 => dsimp -zeta only [x]); (on_goal 2 => clear_value x; intro _))
    | ((try lift_lets -underBinder); intro x; refine Keep.usePair (k := km) (q := pq) (p := x) ?_ ?_; (on_goal 1 => dsimp -zeta only [x]); (on_goal 2 => clear_value x; intro _))
    | ((try lift_lets -underBinder); intro x; refine Keep.memSt (x := x) ?_; subst x)
    | ((try lift_lets -underBinder); intro x; refine Keep.depSt (x := x) ?_; subst x)
    | ((try lift_lets -underBinder); intro x; clear_value x)
    | (intro _)
    | with_reducible apply Keep.ite
    | with_reducible apply State.retrain_good
    | with_reducible apply State.laneTrained_good
    | with_reducible apply State.set_good
    | with_reducible apply State.laneUp_good
    | with_reducible apply State.mayWiden_good
    | with_reducible apply State.failLane_good

theorem State.laneRetry_good (out : km.part .out) (line : km.part .line)
    (hLNK_PORT_STAT_FAILED : ∀ a, km.fld (R.LNK.PORT_STAT.FAILED a))
    (hLNL_LANE_STAT_PRE_RX : ∀ a, km.fld (R.LNL.LANE_STAT.PRE_RX a))
    (hLNL_LANE_STAT_PRE_TX : ∀ a, km.fld (R.LNL.LANE_STAT.PRE_TX a))
    (hLNL_LANE_STAT_REASON : ∀ a, km.fld (R.LNL.LANE_STAT.REASON a))
    (hLNL_LANE_STAT_STATE : ∀ a, km.fld (R.LNL.LANE_STAT.STATE a))
    (hLNL_TX_TAPS_C0 : ∀ a, km.fld (R.LNL.TX_TAPS.C0 a)) (hLNL_TX_TAPS_CM1 : ∀ a, km.fld (R.LNL.TX_TAPS.CM1 a))
    (hLNL_TX_TAPS_CM2 : ∀ a, km.fld (R.LNL.TX_TAPS.CM2 a)) (hLNL_TX_TAPS_CP1 : ∀ a, km.fld (R.LNL.TX_TAPS.CP1 a))
    (hLNL_TX_TAPS_CP2 : ∀ a, km.fld (R.LNL.TX_TAPS.CP2 a)) (s : State) (l : Nat) (hs : s.Keeps km pq) : (State.laneRetry s l).Keeps km pq := by
  unfold State.laneRetry
  repeat' first
    | with_reducible assumption
    | with_reducible exact hLNK_PORT_STAT_FAILED _
    | with_reducible exact hLNL_LANE_STAT_PRE_RX _
    | with_reducible exact hLNL_LANE_STAT_PRE_TX _
    | with_reducible exact hLNL_LANE_STAT_REASON _
    | with_reducible exact hLNL_LANE_STAT_STATE _
    | with_reducible exact hLNL_TX_TAPS_C0 _
    | with_reducible exact hLNL_TX_TAPS_CM1 _
    | with_reducible exact hLNL_TX_TAPS_CM2 _
    | with_reducible exact hLNL_TX_TAPS_CP1 _
    | with_reducible exact hLNL_TX_TAPS_CP2 _
    | ((try lift_lets -underBinder); intro x; refine Keep.use (k := km) (q := pq) (s := x) ?_ ?_; (on_goal 1 => dsimp -zeta only [x]); (on_goal 2 => clear_value x; intro _))
    | ((try lift_lets -underBinder); intro x; refine Keep.usePair (k := km) (q := pq) (p := x) ?_ ?_; (on_goal 1 => dsimp -zeta only [x]); (on_goal 2 => clear_value x; intro _))
    | ((try lift_lets -underBinder); intro x; refine Keep.memSt (x := x) ?_; subst x)
    | ((try lift_lets -underBinder); intro x; refine Keep.depSt (x := x) ?_; subst x)
    | ((try lift_lets -underBinder); intro x; clear_value x)
    | (intro _)
    | with_reducible apply Keep.ite
    | with_reducible apply State.set_good
    | with_reducible apply State.retrain_good
    | with_reducible apply State.setLaneState_good

theorem State.laneRetire_good (out : km.part .out) (tim : km.part .tim) (dep : km.part .dep) (mem : km.part .mem)
    (dram : km.part .dram) (scn : km.part .scn) (cor : km.part .cor) (rai : km.part .rai) (lfm : km.part .lfm)
    (line : km.part .line) (rdn : km.part .rdn) (que : km.part .que) (fwu : km.part .fwu) (any : ∀ f, km.fld f)
    (s : State) (l : Nat) (hs : s.Keeps km pq) : (State.laneRetire s l).Keeps km pq := by
  unfold State.laneRetire
  repeat' first
    | with_reducible assumption
    | (with_reducible (intros; exact any _))
    | ((try lift_lets -underBinder); intro x; refine Keep.use (k := km) (q := pq) (s := x) ?_ ?_; (on_goal 1 => dsimp -zeta only [x]); (on_goal 2 => clear_value x; intro _))
    | ((try lift_lets -underBinder); intro x; refine Keep.usePair (k := km) (q := pq) (p := x) ?_ ?_; (on_goal 1 => dsimp -zeta only [x]); (on_goal 2 => clear_value x; intro _))
    | ((try lift_lets -underBinder); intro x; refine Keep.memSt (x := x) ?_; subst x)
    | ((try lift_lets -underBinder); intro x; refine Keep.depSt (x := x) ?_; subst x)
    | ((try lift_lets -underBinder); intro x; clear_value x)
    | (intro _)
    | with_reducible apply Keep.ite
    | with_reducible apply State.set_good
    | with_reducible apply State.laneOut_good
    | with_reducible apply State.failLane_good
    | with_reducible apply State.trainEnds_good
    | with_reducible apply State.lockCheck_good
    | with_reducible apply State.toLock_good

theorem State.limitWidth_good (out : km.part .out) (tim : km.part .tim) (dep : km.part .dep) (mem : km.part .mem)
    (dram : km.part .dram) (scn : km.part .scn) (cor : km.part .cor) (rai : km.part .rai) (lfm : km.part .lfm)
    (line : km.part .line) (rdn : km.part .rdn) (que : km.part .que) (fwu : km.part .fwu) (any : ∀ f, km.fld f)
    (s : State) (p : Nat) (hs : s.Keeps km pq) : (State.limitWidth s p).Keeps km pq := by
  unfold State.limitWidth
  repeat' first
    | with_reducible assumption
    | (with_reducible (intros; exact any _))
    | ((try lift_lets -underBinder); intro x; refine Keep.use (k := km) (q := pq) (s := x) ?_ ?_; (on_goal 1 => dsimp -zeta only [x]); (on_goal 2 => clear_value x; intro _))
    | ((try lift_lets -underBinder); intro x; refine Keep.usePair (k := km) (q := pq) (p := x) ?_ ?_; (on_goal 1 => dsimp -zeta only [x]); (on_goal 2 => clear_value x; intro _))
    | ((try lift_lets -underBinder); intro x; refine Keep.memSt (x := x) ?_; subst x)
    | ((try lift_lets -underBinder); intro x; refine Keep.depSt (x := x) ?_; subst x)
    | ((try lift_lets -underBinder); intro x; clear_value x)
    | (intro _)
    | with_reducible apply Keep.ite
    | with_reducible apply State.setPort_good
    | with_reducible apply State.startWidth_good
    | with_reducible apply State.mayWiden_good

theorem State.maxWidthWrite_good (out : km.part .out) (tim : km.part .tim) (dep : km.part .dep) (mem : km.part .mem)
    (dram : km.part .dram) (scn : km.part .scn) (cor : km.part .cor) (rai : km.part .rai) (lfm : km.part .lfm)
    (line : km.part .line) (rdn : km.part .rdn) (que : km.part .que) (fwu : km.part .fwu) (any : ∀ f, km.fld f)
    (s : State) (p v : Nat) (hs : s.Keeps km pq) : (State.maxWidthWrite s p v).Keeps km pq := by
  unfold State.maxWidthWrite
  repeat' first
    | with_reducible assumption
    | (with_reducible (intros; exact any _))
    | (intro _)
    | with_reducible apply Keep.ite
    | with_reducible apply State.set_good
    | with_reducible apply State.limitWidth_good

theorem State.portThaw_good (out : km.part .out) (tim : km.part .tim) (dep : km.part .dep) (mem : km.part .mem)
    (dram : km.part .dram) (scn : km.part .scn) (cor : km.part .cor) (rai : km.part .rai) (lfm : km.part .lfm)
    (line : km.part .line) (rdn : km.part .rdn) (que : km.part .que) (fwu : km.part .fwu) (any : ∀ f, km.fld f)
    (s : State) (p : Nat) (hs : s.Keeps km pq) : (State.portThaw s p).Keeps km pq := by
  unfold State.portThaw
  repeat' first
    | with_reducible assumption
    | (with_reducible (intros; exact any _))
    | ((try lift_lets -underBinder); intro x; refine Keep.use (k := km) (q := pq) (s := x) ?_ ?_; (on_goal 1 => dsimp -zeta only [x]); (on_goal 2 => clear_value x; intro _))
    | ((try lift_lets -underBinder); intro x; refine Keep.usePair (k := km) (q := pq) (p := x) ?_ ?_; (on_goal 1 => dsimp -zeta only [x]); (on_goal 2 => clear_value x; intro _))
    | ((try lift_lets -underBinder); intro x; refine Keep.memSt (x := x) ?_; subst x)
    | ((try lift_lets -underBinder); intro x; refine Keep.depSt (x := x) ?_; subst x)
    | ((try lift_lets -underBinder); intro x; clear_value x)
    | (intro _)
    | with_reducible apply Keep.ite
    | with_reducible apply State.toDetect_good
    | with_reducible apply State.detectEnds_good
    | with_reducible apply State.trainEnds_good
    | with_reducible apply State.lockCheck_good
    | with_reducible apply State.toLock_good
    | with_reducible apply State.capx_good
    | with_reducible apply State.tryActive_good
    | with_reducible apply State.limitWidth_good

theorem execTrainingFrame_good (frc : km.part .frc) (out : km.part .out) (tim : km.part .tim) (dep : km.part .dep)
    (mem : km.part .mem) (dram : km.part .dram) (scn : km.part .scn) (cor : km.part .cor) (rai : km.part .rai)
    (lfm : km.part .lfm) (line : km.part .line) (rdn : km.part .rdn) (que : km.part .que) (fwu : km.part .fwu)
    (any : ∀ f, km.fld f) (l ctl sta : Nat) (valid inverted : Bool) (req : Nat) (errors : Option Nat) (t : Nat)
    (s : State) (hs : s.Keeps km pq) : ∀ st, execTrainingFrame l ctl sta valid inverted req errors t s = .next st → st.Keeps km pq := by
  unfold execTrainingFrame
  refine run_good hs (fun s hs => ?_)
  repeat' first
    | with_reducible assumption
    | (with_reducible (intros; exact any _))
    | (intro _)
    | with_reducible apply State.tick_good
    | with_reducible apply State.trainingFrame_good

theorem execTrainTimeout_good (frc : km.part .frc) (out : km.part .out) (tim : km.part .tim) (dep : km.part .dep)
    (mem : km.part .mem) (dram : km.part .dram) (scn : km.part .scn) (cor : km.part .cor) (rai : km.part .rai)
    (lfm : km.part .lfm) (line : km.part .line) (rdn : km.part .rdn) (que : km.part .que) (fwu : km.part .fwu)
    (any : ∀ f, km.fld f) (l t : Nat) (s : State) (hs : s.Keeps km pq) : ∀ st, execTrainTimeout l t s = .next st → st.Keeps km pq := by
  unfold execTrainTimeout
  refine run_good hs (fun s hs => ?_)
  repeat' first
    | with_reducible assumption
    | (with_reducible (intros; exact any _))
    | (intro _)
    | with_reducible apply State.tick_good
    | with_reducible apply State.trainTimeout_good

theorem execTrainGiveUp_good (frc : km.part .frc) (out : km.part .out) (tim : km.part .tim) (dep : km.part .dep)
    (mem : km.part .mem) (dram : km.part .dram) (scn : km.part .scn) (cor : km.part .cor) (rai : km.part .rai)
    (lfm : km.part .lfm) (line : km.part .line) (rdn : km.part .rdn) (que : km.part .que) (fwu : km.part .fwu)
    (any : ∀ f, km.fld f) (l t : Nat) (s : State) (hs : s.Keeps km pq) : ∀ st, execTrainGiveUp l t s = .next st → st.Keeps km pq := by
  unfold execTrainGiveUp
  refine run_good hs (fun s hs => ?_)
  repeat' first
    | with_reducible assumption
    | (with_reducible (intros; exact any _))
    | (intro _)
    | with_reducible apply State.tick_good
    | with_reducible apply State.giveUp_good

theorem execLaneLocked_good (frc : km.part .frc) (out : km.part .out) (tim : km.part .tim) (dep : km.part .dep)
    (mem : km.part .mem) (dram : km.part .dram) (scn : km.part .scn) (cor : km.part .cor) (rai : km.part .rai)
    (lfm : km.part .lfm) (line : km.part .line) (rdn : km.part .rdn) (que : km.part .que) (fwu : km.part .fwu)
    (any : ∀ f, km.fld f) (l : Nat) (skew : Int) (found : Nat) (inverted : Bool) (t : Nat) (s : State)
    (hs : s.Keeps km pq) : ∀ st, execLaneLocked l skew found inverted t s = .next st → st.Keeps km pq := by
  unfold execLaneLocked
  refine run_good hs (fun s hs => ?_)
  repeat' first
    | with_reducible assumption
    | (with_reducible (intros; exact any _))
    | (intro _)
    | with_reducible apply State.tick_good
    | with_reducible apply State.laneLocked_good

theorem execLockEnd_good (frc : km.part .frc) (out : km.part .out) (tim : km.part .tim) (dep : km.part .dep)
    (mem : km.part .mem) (dram : km.part .dram) (scn : km.part .scn) (cor : km.part .cor) (rai : km.part .rai)
    (lfm : km.part .lfm) (line : km.part .line) (rdn : km.part .rdn) (que : km.part .que) (fwu : km.part .fwu)
    (any : ∀ f, km.fld f) (p t : Nat) (s : State) (hs : s.Keeps km pq) : ∀ st, execLockEnd p t s = .next st → st.Keeps km pq := by
  unfold execLockEnd
  refine run_good hs (fun s hs => ?_)
  repeat' first
    | with_reducible assumption
    | (with_reducible (intros; exact any _))
    | (intro _)
    | with_reducible apply State.tick_good
    | with_reducible apply State.lockEnd_good

theorem execCapxSend_good (frc : km.part .frc) (out : km.part .out) (tim : km.part .tim) (dep : km.part .dep)
    (mem : km.part .mem) (dram : km.part .dram) (scn : km.part .scn) (cor : km.part .cor) (rai : km.part .rai)
    (lfm : km.part .lfm) (line : km.part .line) (rdn : km.part .rdn) (que : km.part .que) (fwu : km.part .fwu)
    (any : ∀ f, km.fld f) (p t : Nat) (s : State) (hs : s.Keeps km pq) : ∀ st, execCapxSend p t s = .next st → st.Keeps km pq := by
  unfold execCapxSend
  refine run_good hs (fun s hs => ?_)
  repeat' first
    | with_reducible assumption
    | (with_reducible (intros; exact any _))
    | (intro _)
    | with_reducible apply State.tick_good
    | with_reducible apply State.capxSend_good

theorem execCapx_good (frc : km.part .frc) (out : km.part .out) (tim : km.part .tim) (dep : km.part .dep)
    (mem : km.part .mem) (dram : km.part .dram) (scn : km.part .scn) (cor : km.part .cor) (rai : km.part .rai)
    (lfm : km.part .lfm) (line : km.part .line) (rdn : km.part .rdn) (que : km.part .que) (fwu : km.part .fwu)
    (any : ∀ f, km.fld f) (p : Nat) (m : CapxMsg) (t : Nat) (s : State) (hs : s.Keeps km pq) : ∀ st, execCapx p m t s = .next st → st.Keeps km pq := by
  unfold execCapx
  refine run_good hs (fun s hs => ?_)
  repeat' first
    | with_reducible assumption
    | (with_reducible (intros; exact any _))
    | (intro _)
    | with_reducible apply State.tick_good
    | with_reducible apply State.capx_good

theorem execCapxTimeout_good (frc : km.part .frc) (out : km.part .out) (tim : km.part .tim) (dep : km.part .dep)
    (mem : km.part .mem) (dram : km.part .dram) (scn : km.part .scn) (cor : km.part .cor) (rai : km.part .rai)
    (lfm : km.part .lfm) (line : km.part .line) (rdn : km.part .rdn) (que : km.part .que) (fwu : km.part .fwu)
    (any : ∀ f, km.fld f) (p t : Nat) (s : State) (hs : s.Keeps km pq) : ∀ st, execCapxTimeout p t s = .next st → st.Keeps km pq := by
  unfold execCapxTimeout
  refine run_good hs (fun s hs => ?_)
  repeat' first
    | with_reducible assumption
    | (with_reducible (intros; exact any _))
    | (intro _)
    | with_reducible apply State.tick_good
    | with_reducible apply State.capxTimeout_good

theorem execRetryInterval_good (frc : km.part .frc) (out : km.part .out) (tim : km.part .tim) (dep : km.part .dep)
    (mem : km.part .mem) (dram : km.part .dram) (scn : km.part .scn) (cor : km.part .cor) (rai : km.part .rai)
    (lfm : km.part .lfm) (line : km.part .line) (rdn : km.part .rdn) (que : km.part .que) (any : ∀ f, km.fld f)
    (p t : Nat) (s : State) (hs : s.Keeps km pq) : ∀ st, execRetryInterval p t s = .next st → st.Keeps km pq := by
  unfold execRetryInterval
  refine run_good hs (fun s hs => ?_)
  repeat' first
    | with_reducible assumption
    | (with_reducible (intros; exact any _))
    | (intro _)
    | with_reducible apply State.tick_good
    | with_reducible apply State.retryInterval_good

theorem execRestartPort_good (frc : km.part .frc) (out : km.part .out) (tim : km.part .tim) (dep : km.part .dep)
    (mem : km.part .mem) (dram : km.part .dram) (scn : km.part .scn) (cor : km.part .cor) (rai : km.part .rai)
    (lfm : km.part .lfm) (line : km.part .line) (rdn : km.part .rdn) (que : km.part .que) (fwu : km.part .fwu)
    (any : ∀ f, km.fld f) (p t : Nat) (s : State) (hs : s.Keeps km pq) : ∀ st, execRestartPort p t s = .next st → st.Keeps km pq := by
  unfold execRestartPort
  refine run_good hs (fun s hs => ?_)
  repeat' first
    | with_reducible assumption
    | (with_reducible (intros; exact any _))
    | (intro _)
    | with_reducible apply State.tick_good
    | with_reducible apply State.linkDown_good

theorem execMaxWidthWrite_good (frc : km.part .frc) (out : km.part .out) (tim : km.part .tim) (dep : km.part .dep)
    (mem : km.part .mem) (dram : km.part .dram) (scn : km.part .scn) (cor : km.part .cor) (rai : km.part .rai)
    (lfm : km.part .lfm) (line : km.part .line) (rdn : km.part .rdn) (que : km.part .que) (fwu : km.part .fwu)
    (any : ∀ f, km.fld f) (p v t : Nat) (s : State) (hs : s.Keeps km pq) : ∀ st, execMaxWidthWrite p v t s = .next st → st.Keeps km pq := by
  unfold execMaxWidthWrite
  refine run_good hs (fun s hs => ?_)
  repeat' first
    | with_reducible assumption
    | (with_reducible (intros; exact any _))
    | (intro _)
    | with_reducible apply State.tick_good
    | with_reducible apply State.maxWidthWrite_good

theorem execLaneFault_good (frc : km.part .frc) (out : km.part .out) (tim : km.part .tim) (dep : km.part .dep)
    (mem : km.part .mem) (dram : km.part .dram) (scn : km.part .scn) (cor : km.part .cor) (rai : km.part .rai)
    (lfm : km.part .lfm) (line : km.part .line) (rdn : km.part .rdn) (que : km.part .que) (fwu : km.part .fwu)
    (any : ∀ f, km.fld f) (l t : Nat) (s : State) (hs : s.Keeps km pq) : ∀ st, execLaneFault l t s = .next st → st.Keeps km pq := by
  unfold execLaneFault
  refine run_good hs (fun s hs => ?_)
  repeat' first
    | with_reducible assumption
    | (with_reducible (intros; exact any _))
    | (intro _)
    | with_reducible apply State.tick_good
    | with_reducible apply State.laneFault_good

theorem execRetrainDone_good (frc : km.part .frc) (out : km.part .out) (tim : km.part .tim) (dep : km.part .dep)
    (mem : km.part .mem) (dram : km.part .dram) (scn : km.part .scn) (cor : km.part .cor) (rai : km.part .rai)
    (lfm : km.part .lfm) (line : km.part .line) (rdn : km.part .rdn) (que : km.part .que) (fwu : km.part .fwu)
    (any : ∀ f, km.fld f) (l : Nat) (ok : Bool) (t : Nat) (s : State) (hs : s.Keeps km pq) : ∀ st, execRetrainDone l ok t s = .next st → st.Keeps km pq := by
  unfold execRetrainDone
  refine run_good hs (fun s hs => ?_)
  repeat' first
    | with_reducible assumption
    | (with_reducible (intros; exact any _))
    | (intro _)
    | with_reducible apply State.tick_good
    | with_reducible apply State.retrainDone_good

theorem execLaneRetry_good (frc : km.part .frc) (out : km.part .out) (line : km.part .line)
    (hLNK_PORT_STAT_FAILED : ∀ a, km.fld (R.LNK.PORT_STAT.FAILED a))
    (hLNL_LANE_STAT_PRE_RX : ∀ a, km.fld (R.LNL.LANE_STAT.PRE_RX a))
    (hLNL_LANE_STAT_PRE_TX : ∀ a, km.fld (R.LNL.LANE_STAT.PRE_TX a))
    (hLNL_LANE_STAT_REASON : ∀ a, km.fld (R.LNL.LANE_STAT.REASON a))
    (hLNL_LANE_STAT_STATE : ∀ a, km.fld (R.LNL.LANE_STAT.STATE a))
    (hLNL_TX_TAPS_C0 : ∀ a, km.fld (R.LNL.TX_TAPS.C0 a)) (hLNL_TX_TAPS_CM1 : ∀ a, km.fld (R.LNL.TX_TAPS.CM1 a))
    (hLNL_TX_TAPS_CM2 : ∀ a, km.fld (R.LNL.TX_TAPS.CM2 a)) (hLNL_TX_TAPS_CP1 : ∀ a, km.fld (R.LNL.TX_TAPS.CP1 a))
    (hLNL_TX_TAPS_CP2 : ∀ a, km.fld (R.LNL.TX_TAPS.CP2 a)) (l t : Nat) (s : State) (hs : s.Keeps km pq) : ∀ st, execLaneRetry l t s = .next st → st.Keeps km pq := by
  unfold execLaneRetry
  refine run_good hs (fun s hs => ?_)
  repeat' first
    | with_reducible assumption
    | with_reducible exact hLNK_PORT_STAT_FAILED _
    | with_reducible exact hLNL_LANE_STAT_PRE_RX _
    | with_reducible exact hLNL_LANE_STAT_PRE_TX _
    | with_reducible exact hLNL_LANE_STAT_REASON _
    | with_reducible exact hLNL_LANE_STAT_STATE _
    | with_reducible exact hLNL_TX_TAPS_C0 _
    | with_reducible exact hLNL_TX_TAPS_CM1 _
    | with_reducible exact hLNL_TX_TAPS_CM2 _
    | with_reducible exact hLNL_TX_TAPS_CP1 _
    | with_reducible exact hLNL_TX_TAPS_CP2 _
    | (intro _)
    | with_reducible apply State.tick_good
    | with_reducible apply State.laneRetry_good

theorem execLaneRetire_good (frc : km.part .frc) (out : km.part .out) (tim : km.part .tim) (dep : km.part .dep)
    (mem : km.part .mem) (dram : km.part .dram) (scn : km.part .scn) (cor : km.part .cor) (rai : km.part .rai)
    (lfm : km.part .lfm) (line : km.part .line) (rdn : km.part .rdn) (que : km.part .que) (fwu : km.part .fwu)
    (any : ∀ f, km.fld f) (l t : Nat) (s : State) (hs : s.Keeps km pq) : ∀ st, execLaneRetire l t s = .next st → st.Keeps km pq := by
  unfold execLaneRetire
  refine run_good hs (fun s hs => ?_)
  repeat' first
    | with_reducible assumption
    | (with_reducible (intros; exact any _))
    | (intro _)
    | with_reducible apply State.tick_good
    | with_reducible apply State.laneRetire_good

end Sys2Proof.Machine
end

