-- ==== Sys2Proof/Laws/KeepsFirmware.lean ====
section
/-!
SUPPORT. Every function of Machine/Firmware.lean changes what the hypotheses of its lemma name, and nothing else.
-/
namespace Sys2Proof.Machine
set_option Elab.async false
set_option linter.unusedVariables false
set_option linter.unusedTactic false
set_option linter.unreachableTactic false

variable {km : May} {pq : State}

theorem State.setImg_good (hSLT_SLOT_STAT_STATE : ∀ a, km.fld (R.SLT.SLOT_STAT.STATE a)) (s : State) (k v : Nat)
    (hs : s.Keeps km pq) : (State.setImg s k v).Keeps km pq := by
  unfold State.setImg
  repeat' first
    | with_reducible assumption
    | with_reducible exact hSLT_SLOT_STAT_STATE _
    | (intro _)
    | with_reducible apply State.set_good

theorem State.showSlot_good (hSLT_SLOT_PEER_PEER_MAX : ∀ a, km.fld (R.SLT.SLOT_PEER.PEER_MAX a))
    (hSLT_SLOT_PEER_PEER_MIN : ∀ a, km.fld (R.SLT.SLOT_PEER.PEER_MIN a))
    (hSLT_SLOT_STAT_COMPAT : ∀ a, km.fld (R.SLT.SLOT_STAT.COMPAT a))
    (hSLT_SLOT_STAT_RB_INDEX : ∀ a, km.fld (R.SLT.SLOT_STAT.RB_INDEX a))
    (hSLT_SLOT_STAT_RESULT : ∀ a, km.fld (R.SLT.SLOT_STAT.RESULT a))
    (hSLT_SLOT_VER_VERSION : ∀ a, km.fld (R.SLT.SLOT_VER.VERSION a)) (s : State) (k res : Nat) (hs : s.Keeps km pq) : (State.showSlot s k res).Keeps km pq := by
  unfold State.showSlot
  repeat' first
    | with_reducible assumption
    | with_reducible exact hSLT_SLOT_PEER_PEER_MAX _
    | with_reducible exact hSLT_SLOT_PEER_PEER_MIN _
    | with_reducible exact hSLT_SLOT_STAT_COMPAT _
    | with_reducible exact hSLT_SLOT_STAT_RB_INDEX _
    | with_reducible exact hSLT_SLOT_STAT_RESULT _
    | with_reducible exact hSLT_SLOT_VER_VERSION _
    | ((try lift_lets -underBinder); intro x; refine Keep.use (k := km) (q := pq) (s := x) ?_ ?_; (on_goal 1 => dsimp -zeta only [x]); (on_goal 2 => clear_value x; intro _))
    | ((try lift_lets -underBinder); intro x; refine Keep.usePair (k := km) (q := pq) (p := x) ?_ ?_; (on_goal 1 => dsimp -zeta only [x]); (on_goal 2 => clear_value x; intro _))
    | ((try lift_lets -underBinder); intro x; refine Keep.memSt (x := x) ?_; subst x)
    | ((try lift_lets -underBinder); intro x; refine Keep.depSt (x := x) ?_; subst x)
    | ((try lift_lets -underBinder); intro x; clear_value x)
    | (intro _)
    | with_reducible apply Keep.ite
    | with_reducible apply State.set_good

theorem State.checkDone_good (out : km.part .out) (line : km.part .line) (fwu : km.part .fwu)
    (hPG_ERR_ADDR_HI : ∀ a, km.fld (R.PG.ERR_ADDR_HI a)) (hPG_ERR_ADDR_LO : ∀ a, km.fld (R.PG.ERR_ADDR_LO a))
    (hPG_ERR_CODE : ∀ a, km.fld (R.PG.ERR_CODE a)) (hPG_ERR_COUNT : ∀ a, km.fld (R.PG.ERR_COUNT a))
    (hPG_ERR_OVERFLOW : ∀ a, km.fld (R.PG.ERR_OVERFLOW a)) (hPG_ERR_SOURCE : ∀ a, km.fld (R.PG.ERR_SOURCE a))
    (hPG_ERR_VALID : ∀ a, km.fld (R.PG.ERR_VALID a)) (hPG_EVT_PEND : ∀ a, km.fld (R.PG.EVT_PEND a))
    (hSLT_SLOT_PEER_PEER_MAX : ∀ a, km.fld (R.SLT.SLOT_PEER.PEER_MAX a))
    (hSLT_SLOT_PEER_PEER_MIN : ∀ a, km.fld (R.SLT.SLOT_PEER.PEER_MIN a))
    (hSLT_SLOT_STAT_COMPAT : ∀ a, km.fld (R.SLT.SLOT_STAT.COMPAT a))
    (hSLT_SLOT_STAT_RB_INDEX : ∀ a, km.fld (R.SLT.SLOT_STAT.RB_INDEX a))
    (hSLT_SLOT_STAT_RESULT : ∀ a, km.fld (R.SLT.SLOT_STAT.RESULT a))
    (hSLT_SLOT_STAT_STATE : ∀ a, km.fld (R.SLT.SLOT_STAT.STATE a))
    (hSLT_SLOT_VER_VERSION : ∀ a, km.fld (R.SLT.SLOT_VER.VERSION a)) (s : State) (k : Nat) (hs : s.Keeps km pq) : (State.checkDone s k).Keeps km pq := by
  unfold State.checkDone
  repeat' first
    | with_reducible assumption
    | with_reducible exact hPG_ERR_ADDR_HI _
    | with_reducible exact hPG_ERR_ADDR_LO _
    | with_reducible exact hPG_ERR_CODE _
    | with_reducible exact hPG_ERR_COUNT _
    | with_reducible exact hPG_ERR_OVERFLOW _
    | with_reducible exact hPG_ERR_SOURCE _
    | with_reducible exact hPG_ERR_VALID _
    | with_reducible exact hPG_EVT_PEND _
    | with_reducible exact hSLT_SLOT_PEER_PEER_MAX _
    | with_reducible exact hSLT_SLOT_PEER_PEER_MIN _
    | with_reducible exact hSLT_SLOT_STAT_COMPAT _
    | with_reducible exact hSLT_SLOT_STAT_RB_INDEX _
    | with_reducible exact hSLT_SLOT_STAT_RESULT _
    | with_reducible exact hSLT_SLOT_STAT_STATE _
    | with_reducible exact hSLT_SLOT_VER_VERSION _
    | ((try lift_lets -underBinder); intro x; refine Keep.use (k := km) (q := pq) (s := x) ?_ ?_; (on_goal 1 => dsimp -zeta only [x]); (on_goal 2 => clear_value x; intro _))
    | ((try lift_lets -underBinder); intro x; refine Keep.usePair (k := km) (q := pq) (p := x) ?_ ?_; (on_goal 1 => dsimp -zeta only [x]); (on_goal 2 => clear_value x; intro _))
    | ((try lift_lets -underBinder); intro x; refine Keep.memSt (x := x) ?_; subst x)
    | ((try lift_lets -underBinder); intro x; refine Keep.depSt (x := x) ?_; subst x)
    | ((try lift_lets -underBinder); intro x; clear_value x)
    | (intro _)
    | with_reducible apply Keep.ite
    | with_reducible apply State.showSlot_good
    | with_reducible apply State.setImg_good
    | with_reducible apply State.bootSave_good
    | with_reducible apply State.err_good
    | with_reducible apply State.ev_good
    | with_reducible apply State.send_good
    | split
    | (simp -zeta only [Keep.mk_iff]; with_reducible refine Keep.upd ?_ rfl ?_; on_goal 2 => (and_intros <;> with_reducible first | exact .inl rfl | exact .inl ⟨rfl, rfl, rfl⟩ | exact .inr ‹_› | exact Nat.le_refl _ | exact Nat.le_add_right _ _))

theorem State.openSlot_good (out : km.part .out) (tim : km.part .tim) (fwu : km.part .fwu)
    (hFWU_SESSION_ID : km.fld R.FWU.SESSION.ID) (hFWU_SESSION_PURPOSE : km.fld R.FWU.SESSION.PURPOSE)
    (hFWU_SESSION_SLOT : km.fld R.FWU.SESSION.SLOT) (hFWU_SESS_BYTES_BYTES : km.fld R.FWU.SESS_BYTES.BYTES)
    (hPG_ERR_ADDR_HI : ∀ a, km.fld (R.PG.ERR_ADDR_HI a)) (hPG_ERR_ADDR_LO : ∀ a, km.fld (R.PG.ERR_ADDR_LO a))
    (hPG_ERR_CODE : ∀ a, km.fld (R.PG.ERR_CODE a)) (hPG_ERR_COUNT : ∀ a, km.fld (R.PG.ERR_COUNT a))
    (hPG_ERR_OVERFLOW : ∀ a, km.fld (R.PG.ERR_OVERFLOW a)) (hPG_ERR_SOURCE : ∀ a, km.fld (R.PG.ERR_SOURCE a))
    (hPG_ERR_VALID : ∀ a, km.fld (R.PG.ERR_VALID a)) (hPG_EVT_PEND : ∀ a, km.fld (R.PG.EVT_PEND a))
    (hSLT_SLOT_GEN_GEN : ∀ a, km.fld (R.SLT.SLOT_GEN.GEN a))
    (hSLT_SLOT_STAT_RESULT : ∀ a, km.fld (R.SLT.SLOT_STAT.RESULT a))
    (hSLT_SLOT_STAT_STATE : ∀ a, km.fld (R.SLT.SLOT_STAT.STATE a))
    (hSLT_SLOT_STAT_TRIALS : ∀ a, km.fld (R.SLT.SLOT_STAT.TRIALS a))
    (hTIM_DOM_OFFSET_OFFSET : ∀ a, km.fld (R.TIM.DOM_OFFSET.OFFSET a))
    (hTIM_DOM_RATE_RATE : ∀ a, km.fld (R.TIM.DOM_RATE.RATE a)) (s : State) (k total id : Nat) (hs : s.Keeps km pq) : (State.openSlot s k total id).1.Keeps km pq := by
  unfold State.openSlot
  repeat' first
    | with_reducible assumption
    | with_reducible exact hPG_ERR_ADDR_HI _
    | with_reducible exact hPG_ERR_ADDR_LO _
    | with_reducible exact hPG_ERR_CODE _
    | with_reducible exact hPG_ERR_COUNT _
    | with_reducible exact hPG_ERR_OVERFLOW _
    | with_reducible exact hPG_ERR_SOURCE _
    | with_reducible exact hPG_ERR_VALID _
    | with_reducible exact hPG_EVT_PEND _
    | with_reducible exact hSLT_SLOT_GEN_GEN _
    | with_reducible exact hSLT_SLOT_STAT_RESULT _
    | with_reducible exact hSLT_SLOT_STAT_STATE _
    | with_reducible exact hSLT_SLOT_STAT_TRIALS _
    | with_reducible exact hTIM_DOM_OFFSET_OFFSET _
    | with_reducible exact hTIM_DOM_RATE_RATE _
    | ((try lift_lets -underBinder); intro x; refine Keep.use (k := km) (q := pq) (s := x) ?_ ?_; (on_goal 1 => dsimp -zeta only [x]); (on_goal 2 => clear_value x; intro _))
    | ((try lift_lets -underBinder); intro x; refine Keep.usePair (k := km) (q := pq) (p := x) ?_ ?_; (on_goal 1 => dsimp -zeta only [x]); (on_goal 2 => clear_value x; intro _))
    | ((try lift_lets -underBinder); intro x; refine Keep.memSt (x := x) ?_; subst x)
    | ((try lift_lets -underBinder); intro x; refine Keep.depSt (x := x) ?_; subst x)
    | ((try lift_lets -underBinder); intro x; clear_value x)
    | (intro _)
    | with_reducible apply Keep.ite
    | with_reducible apply Keep.ite1
    | dsimp -zeta only
    | with_reducible apply State.err_good
    | with_reducible apply State.setImg_good
    | with_reducible apply State.set_good
    | with_reducible apply State.bootSave_good
    | with_reducible apply State.filter_good
    | split
    | with_reducible refine Keep.fst (by assumption) ?_
    | (simp -zeta only [Keep.mk_iff]; with_reducible refine Keep.upd ?_ rfl ?_; on_goal 2 => (and_intros <;> with_reducible first | exact .inl rfl | exact .inl ⟨rfl, rfl, rfl⟩ | exact .inr ‹_› | exact Nat.le_refl _ | exact Nat.le_add_right _ _))

theorem State.writeSlot_good (fwu : km.part .fwu) (hFWU_SESS_BYTES_BYTES : km.fld R.FWU.SESS_BYTES.BYTES) (s : State)
    (l : List Byte) (hs : s.Keeps km pq) : (State.writeSlot s l).Keeps km pq := by
  unfold State.writeSlot
  repeat' first
    | with_reducible assumption
    | ((try lift_lets -underBinder); intro x; refine Keep.use (k := km) (q := pq) (s := x) ?_ ?_; (on_goal 1 => dsimp -zeta only [x]); (on_goal 2 => clear_value x; intro _))
    | ((try lift_lets -underBinder); intro x; refine Keep.usePair (k := km) (q := pq) (p := x) ?_ ?_; (on_goal 1 => dsimp -zeta only [x]); (on_goal 2 => clear_value x; intro _))
    | ((try lift_lets -underBinder); intro x; refine Keep.memSt (x := x) ?_; subst x)
    | ((try lift_lets -underBinder); intro x; refine Keep.depSt (x := x) ?_; subst x)
    | ((try lift_lets -underBinder); intro x; clear_value x)
    | (intro _)
    | with_reducible apply State.set_good
    | (simp -zeta only [Keep.mk_iff]; with_reducible refine Keep.upd ?_ rfl ?_; on_goal 2 => (and_intros <;> with_reducible first | exact .inl rfl | exact .inl ⟨rfl, rfl, rfl⟩ | exact .inr ‹_› | exact Nat.le_refl _ | exact Nat.le_add_right _ _))

theorem State.closeSlot_good (out : km.part .out) (tim : km.part .tim) (line : km.part .line) (fwu : km.part .fwu)
    (hFWU_SESSION_ID : km.fld R.FWU.SESSION.ID) (hFWU_SESSION_PURPOSE : km.fld R.FWU.SESSION.PURPOSE)
    (hFWU_SESSION_SLOT : km.fld R.FWU.SESSION.SLOT) (hFWU_SESS_BYTES_BYTES : km.fld R.FWU.SESS_BYTES.BYTES)
    (hPG_EVT_PEND : ∀ a, km.fld (R.PG.EVT_PEND a)) (hSLT_SLOT_STAT_STATE : ∀ a, km.fld (R.SLT.SLOT_STAT.STATE a))
    (hTIM_DOM_OFFSET_OFFSET : ∀ a, km.fld (R.TIM.DOM_OFFSET.OFFSET a))
    (hTIM_DOM_RATE_RATE : ∀ a, km.fld (R.TIM.DOM_RATE.RATE a)) (s : State) (hs : s.Keeps km pq) : (State.closeSlot s).Keeps km pq := by
  unfold State.closeSlot
  repeat' first
    | with_reducible assumption
    | with_reducible exact hPG_EVT_PEND _
    | with_reducible exact hSLT_SLOT_STAT_STATE _
    | with_reducible exact hTIM_DOM_OFFSET_OFFSET _
    | with_reducible exact hTIM_DOM_RATE_RATE _
    | ((try lift_lets -underBinder); intro x; refine Keep.use (k := km) (q := pq) (s := x) ?_ ?_; (on_goal 1 => dsimp -zeta only [x]); (on_goal 2 => clear_value x; intro _))
    | ((try lift_lets -underBinder); intro x; refine Keep.usePair (k := km) (q := pq) (p := x) ?_ ?_; (on_goal 1 => dsimp -zeta only [x]); (on_goal 2 => clear_value x; intro _))
    | ((try lift_lets -underBinder); intro x; refine Keep.memSt (x := x) ?_; subst x)
    | ((try lift_lets -underBinder); intro x; refine Keep.depSt (x := x) ?_; subst x)
    | ((try lift_lets -underBinder); intro x; clear_value x)
    | (intro _)
    | with_reducible apply State.setImg_good
    | with_reducible apply State.endSession_good

theorem State.startSlot_good (out : km.part .out) (fwu : km.part .fwu)
    (hFWU_FWU_STAT_LC_SLOT : km.fld R.FWU.FWU_STAT.LC_SLOT) (hFWU_FWU_STAT_MC_SLOT : km.fld R.FWU.FWU_STAT.MC_SLOT)
    (hSLT_SLOT_STAT_STATE : ∀ a, km.fld (R.SLT.SLOT_STAT.STATE a))
    (hSLT_SLOT_STAT_TRIALS : ∀ a, km.fld (R.SLT.SLOT_STAT.TRIALS a)) (s : State) (k : Nat) (hs : s.Keeps km pq) : (State.startSlot s k).Keeps km pq := by
  unfold State.startSlot
  repeat' first
    | with_reducible assumption
    | with_reducible exact hSLT_SLOT_STAT_STATE _
    | with_reducible exact hSLT_SLOT_STAT_TRIALS _
    | ((try lift_lets -underBinder); intro x; refine Keep.use (k := km) (q := pq) (s := x) ?_ ?_; (on_goal 1 => dsimp -zeta only [x]); (on_goal 2 => clear_value x; intro _))
    | ((try lift_lets -underBinder); intro x; refine Keep.usePair (k := km) (q := pq) (p := x) ?_ ?_; (on_goal 1 => dsimp -zeta only [x]); (on_goal 2 => clear_value x; intro _))
    | ((try lift_lets -underBinder); intro x; refine Keep.memSt (x := x) ?_; subst x)
    | ((try lift_lets -underBinder); intro x; refine Keep.depSt (x := x) ?_; subst x)
    | ((try lift_lets -underBinder); intro x; clear_value x)
    | (intro _)
    | with_reducible apply Keep.ite
    | with_reducible apply State.setImg_good
    | with_reducible apply State.set_good
    | with_reducible apply State.bootSave_good
    | with_reducible apply State.emit_good

theorem State.slotsReset_good (fwu : km.part .fwu) (hSLT_SLOT_STAT_STATE : ∀ a, km.fld (R.SLT.SLOT_STAT.STATE a))
    (hSLT_SLOT_STAT_TRIALS : ∀ a, km.fld (R.SLT.SLOT_STAT.TRIALS a)) (s : State) (hs : s.Keeps km pq) : (State.slotsReset s).Keeps km pq := by
  unfold State.slotsReset
  repeat' first
    | with_reducible assumption
    | with_reducible exact hSLT_SLOT_STAT_STATE _
    | with_reducible exact hSLT_SLOT_STAT_TRIALS _
    | (intro _)
    | with_reducible apply Keep.ite
    | with_reducible apply State.forN_good
    | with_reducible apply State.setImg_good
    | with_reducible apply State.set_good
    | with_reducible apply State.bootSave_good

theorem State.bootLoad_good (fwu : km.part .fwu) (hSLT_SLOT_GEN_GEN : ∀ a, km.fld (R.SLT.SLOT_GEN.GEN a))
    (hSLT_SLOT_PEER_PEER_MAX : ∀ a, km.fld (R.SLT.SLOT_PEER.PEER_MAX a))
    (hSLT_SLOT_PEER_PEER_MIN : ∀ a, km.fld (R.SLT.SLOT_PEER.PEER_MIN a))
    (hSLT_SLOT_STAT_COMPAT : ∀ a, km.fld (R.SLT.SLOT_STAT.COMPAT a))
    (hSLT_SLOT_STAT_RB_INDEX : ∀ a, km.fld (R.SLT.SLOT_STAT.RB_INDEX a))
    (hSLT_SLOT_STAT_RESULT : ∀ a, km.fld (R.SLT.SLOT_STAT.RESULT a))
    (hSLT_SLOT_STAT_STATE : ∀ a, km.fld (R.SLT.SLOT_STAT.STATE a))
    (hSLT_SLOT_STAT_TRIALS : ∀ a, km.fld (R.SLT.SLOT_STAT.TRIALS a))
    (hSLT_SLOT_VER_VERSION : ∀ a, km.fld (R.SLT.SLOT_VER.VERSION a)) (s : State) (hs : s.Keeps km pq) : (State.bootLoad s).Keeps km pq := by
  unfold State.bootLoad
  repeat' first
    | with_reducible assumption
    | with_reducible exact hSLT_SLOT_GEN_GEN _
    | with_reducible exact hSLT_SLOT_PEER_PEER_MAX _
    | with_reducible exact hSLT_SLOT_PEER_PEER_MIN _
    | with_reducible exact hSLT_SLOT_STAT_COMPAT _
    | with_reducible exact hSLT_SLOT_STAT_RB_INDEX _
    | with_reducible exact hSLT_SLOT_STAT_RESULT _
    | with_reducible exact hSLT_SLOT_STAT_STATE _
    | with_reducible exact hSLT_SLOT_STAT_TRIALS _
    | with_reducible exact hSLT_SLOT_VER_VERSION _
    | ((try lift_lets -underBinder); intro x; refine Keep.use (k := km) (q := pq) (s := x) ?_ ?_; (on_goal 1 => dsimp -zeta only [x]); (on_goal 2 => clear_value x; intro _))
    | ((try lift_lets -underBinder); intro x; refine Keep.usePair (k := km) (q := pq) (p := x) ?_ ?_; (on_goal 1 => dsimp -zeta only [x]); (on_goal 2 => clear_value x; intro _))
    | ((try lift_lets -underBinder); intro x; refine Keep.memSt (x := x) ?_; subst x)
    | ((try lift_lets -underBinder); intro x; refine Keep.depSt (x := x) ?_; subst x)
    | ((try lift_lets -underBinder); intro x; clear_value x)
    | (intro _)
    | with_reducible apply Keep.ite
    | with_reducible apply State.forN_good
    | with_reducible apply State.setImg_good
    | with_reducible apply State.set_good
    | with_reducible apply State.showSlot_good
    | with_reducible apply State.bootSave_good
    | split

theorem State.boot_good (out : km.part .out) (fwu : km.part .fwu)
    (hFWU_FWU_STAT_BOOT_PAIR : km.fld R.FWU.FWU_STAT.BOOT_PAIR)
    (hFWU_FWU_STAT_LC_SLOT : km.fld R.FWU.FWU_STAT.LC_SLOT) (hFWU_FWU_STAT_MC_SLOT : km.fld R.FWU.FWU_STAT.MC_SLOT)
    (hFWU_FWU_STAT_SAFE : km.fld R.FWU.FWU_STAT.SAFE) (hFWU_FWU_STAT_SAFE_CAUSE : km.fld R.FWU.FWU_STAT.SAFE_CAUSE)
    (hSLT_SLOT_PEER_PEER_MAX : ∀ a, km.fld (R.SLT.SLOT_PEER.PEER_MAX a))
    (hSLT_SLOT_PEER_PEER_MIN : ∀ a, km.fld (R.SLT.SLOT_PEER.PEER_MIN a))
    (hSLT_SLOT_STAT_COMPAT : ∀ a, km.fld (R.SLT.SLOT_STAT.COMPAT a))
    (hSLT_SLOT_STAT_RB_INDEX : ∀ a, km.fld (R.SLT.SLOT_STAT.RB_INDEX a))
    (hSLT_SLOT_STAT_RESULT : ∀ a, km.fld (R.SLT.SLOT_STAT.RESULT a))
    (hSLT_SLOT_STAT_STATE : ∀ a, km.fld (R.SLT.SLOT_STAT.STATE a))
    (hSLT_SLOT_STAT_TRIALS : ∀ a, km.fld (R.SLT.SLOT_STAT.TRIALS a))
    (hSLT_SLOT_VER_VERSION : ∀ a, km.fld (R.SLT.SLOT_VER.VERSION a)) (s : State) (bootSel : Bool)
    (hs : s.Keeps km pq) : (State.boot s bootSel).Keeps km pq := by
  unfold State.boot
  repeat' first
    | with_reducible assumption
    | with_reducible exact hSLT_SLOT_PEER_PEER_MAX _
    | with_reducible exact hSLT_SLOT_PEER_PEER_MIN _
    | with_reducible exact hSLT_SLOT_STAT_COMPAT _
    | with_reducible exact hSLT_SLOT_STAT_RB_INDEX _
    | with_reducible exact hSLT_SLOT_STAT_RESULT _
    | with_reducible exact hSLT_SLOT_STAT_STATE _
    | with_reducible exact hSLT_SLOT_STAT_TRIALS _
    | with_reducible exact hSLT_SLOT_VER_VERSION _
    | ((try lift_lets -underBinder); intro x; refine Keep.use (k := km) (q := pq) (s := x) ?_ ?_; (on_goal 1 => dsimp -zeta only [x]); (on_goal 2 => clear_value x; intro _))
    | ((try lift_lets -underBinder); intro x; refine Keep.usePair (k := km) (q := pq) (p := x) ?_ ?_; (on_goal 1 => dsimp -zeta only [x]); (on_goal 2 => clear_value x; intro _))
    | ((try lift_lets -underBinder); intro x; refine Keep.memSt (x := x) ?_; subst x)
    | ((try lift_lets -underBinder); intro x; refine Keep.depSt (x := x) ?_; subst x)
    | ((try lift_lets -underBinder); intro x; clear_value x)
    | (intro _)
    | with_reducible apply Keep.ite
    | with_reducible apply State.set_good
    | with_reducible apply State.forN_good
    | with_reducible apply State.showSlot_good
    | with_reducible apply State.setImg_good
    | with_reducible apply State.bootSave_good
    | with_reducible apply State.startSlot_good
    | split

theorem State.loadSettings_good (out : km.part .out) (fwu : km.part .fwu)
    (hFWU_FWU_STAT_SET_DEFAULT : km.fld R.FWU.FWU_STAT.SET_DEFAULT)
    (hFWU_FWU_STAT_SET_SLOT : km.fld R.FWU.FWU_STAT.SET_SLOT) (hPG_EVT_PEND : ∀ a, km.fld (R.PG.EVT_PEND a))
    (hSLT_SLOT_GEN_GEN : ∀ a, km.fld (R.SLT.SLOT_GEN.GEN a))
    (hSLT_SLOT_PEER_PEER_MAX : ∀ a, km.fld (R.SLT.SLOT_PEER.PEER_MAX a))
    (hSLT_SLOT_PEER_PEER_MIN : ∀ a, km.fld (R.SLT.SLOT_PEER.PEER_MIN a))
    (hSLT_SLOT_STAT_COMPAT : ∀ a, km.fld (R.SLT.SLOT_STAT.COMPAT a))
    (hSLT_SLOT_STAT_RB_INDEX : ∀ a, km.fld (R.SLT.SLOT_STAT.RB_INDEX a))
    (hSLT_SLOT_STAT_RESULT : ∀ a, km.fld (R.SLT.SLOT_STAT.RESULT a))
    (hSLT_SLOT_STAT_STATE : ∀ a, km.fld (R.SLT.SLOT_STAT.STATE a))
    (hSLT_SLOT_VER_VERSION : ∀ a, km.fld (R.SLT.SLOT_VER.VERSION a)) (s : State) (hs : s.Keeps km pq) : (State.loadSettings s).Keeps km pq := by
  unfold State.loadSettings
  repeat' first
    | with_reducible assumption
    | with_reducible exact hPG_EVT_PEND _
    | with_reducible exact hSLT_SLOT_GEN_GEN _
    | with_reducible exact hSLT_SLOT_PEER_PEER_MAX _
    | with_reducible exact hSLT_SLOT_PEER_PEER_MIN _
    | with_reducible exact hSLT_SLOT_STAT_COMPAT _
    | with_reducible exact hSLT_SLOT_STAT_RB_INDEX _
    | with_reducible exact hSLT_SLOT_STAT_RESULT _
    | with_reducible exact hSLT_SLOT_STAT_STATE _
    | with_reducible exact hSLT_SLOT_VER_VERSION _
    | ((try lift_lets -underBinder); intro x; refine Keep.use (k := km) (q := pq) (s := x) ?_ ?_; (on_goal 1 => dsimp -zeta only [x]); (on_goal 2 => clear_value x; intro _))
    | ((try lift_lets -underBinder); intro x; refine Keep.usePair (k := km) (q := pq) (p := x) ?_ ?_; (on_goal 1 => dsimp -zeta only [x]); (on_goal 2 => clear_value x; intro _))
    | ((try lift_lets -underBinder); intro x; refine Keep.memSt (x := x) ?_; subst x)
    | ((try lift_lets -underBinder); intro x; refine Keep.depSt (x := x) ?_; subst x)
    | ((try lift_lets -underBinder); intro x; clear_value x)
    | (intro _)
    | with_reducible apply Keep.ite
    | with_reducible apply State.forN_good
    | with_reducible apply State.setImg_good
    | with_reducible apply State.bootSave_good
    | with_reducible apply State.set_good
    | with_reducible apply State.showSlot_good
    | with_reducible apply State.ev_good
    | split
    | (simp -zeta only [Keep.mk_iff]; with_reducible refine Keep.upd ?_ rfl ?_; on_goal 2 => (and_intros <;> with_reducible first | exact .inl rfl | exact .inl ⟨rfl, rfl, rfl⟩ | exact .inr ‹_› | exact Nat.le_refl _ | exact Nat.le_add_right _ _))

theorem State.restartOn_good (out : km.part .out) (tim : km.part .tim) (dep : km.part .dep) (mem : km.part .mem)
    (dram : km.part .dram) (scn : km.part .scn) (cor : km.part .cor) (rai : km.part .rai) (lfm : km.part .lfm)
    (line : km.part .line) (rdn : km.part .rdn) (que : km.part .que) (mbx : km.part .mbx) (fwu : km.part .fwu)
    (any : ∀ f, km.fld f) (s : State) (k : Nat) (hs : s.Keeps km pq) : (State.restartOn s k).Keeps km pq := by
  unfold State.restartOn
  repeat' first
    | with_reducible assumption
    | (with_reducible (intros; exact any _))
    | (intro _)
    | with_reducible apply Keep.ite
    | with_reducible apply State.startSlot_good
    | with_reducible apply State.mcRestarts_good
    | with_reducible apply State.loadSettings_good
    | with_reducible apply State.linkDown_good

theorem State.activate_good (out : km.part .out) (tim : km.part .tim) (dep : km.part .dep) (mem : km.part .mem)
    (dram : km.part .dram) (scn : km.part .scn) (cor : km.part .cor) (rai : km.part .rai) (lfm : km.part .lfm)
    (line : km.part .line) (rdn : km.part .rdn) (que : km.part .que) (mbx : km.part .mbx) (fwu : km.part .fwu)
    (any : ∀ f, km.fld f) (s : State) (arg : Nat) (hs : s.Keeps km pq) : (State.activate s arg).Keeps km pq := by
  unfold State.activate
  repeat' first
    | with_reducible assumption
    | (with_reducible (intros; exact any _))
    | ((try lift_lets -underBinder); intro x; refine Keep.use (k := km) (q := pq) (s := x) ?_ ?_; (on_goal 1 => dsimp -zeta only [x]); (on_goal 2 => clear_value x; intro _))
    | ((try lift_lets -underBinder); intro x; refine Keep.usePair (k := km) (q := pq) (p := x) ?_ ?_; (on_goal 1 => dsimp -zeta only [x]); (on_goal 2 => clear_value x; intro _))
    | ((try lift_lets -underBinder); intro x; refine Keep.memSt (x := x) ?_; subst x)
    | ((try lift_lets -underBinder); intro x; refine Keep.depSt (x := x) ?_; subst x)
    | ((try lift_lets -underBinder); intro x; clear_value x)
    | (intro _)
    | with_reducible apply Keep.ite
    | with_reducible apply State.ev_good
    | with_reducible apply State.restartOn_good
    | with_reducible apply State.err_good

theorem State.confirm_good (fwu : km.part .fwu) (hSLT_SLOT_STAT_STATE : ∀ a, km.fld (R.SLT.SLOT_STAT.STATE a))
    (hSLT_SLOT_STAT_TRIALS : ∀ a, km.fld (R.SLT.SLOT_STAT.TRIALS a)) (s : State) (k : Nat) (hs : s.Keeps km pq) : (State.confirm s k).Keeps km pq := by
  unfold State.confirm
  repeat' first
    | with_reducible assumption
    | with_reducible exact hSLT_SLOT_STAT_STATE _
    | with_reducible exact hSLT_SLOT_STAT_TRIALS _
    | ((try lift_lets -underBinder); intro x; refine Keep.use (k := km) (q := pq) (s := x) ?_ ?_; (on_goal 1 => dsimp -zeta only [x]); (on_goal 2 => clear_value x; intro _))
    | ((try lift_lets -underBinder); intro x; refine Keep.usePair (k := km) (q := pq) (p := x) ?_ ?_; (on_goal 1 => dsimp -zeta only [x]); (on_goal 2 => clear_value x; intro _))
    | ((try lift_lets -underBinder); intro x; refine Keep.memSt (x := x) ?_; subst x)
    | ((try lift_lets -underBinder); intro x; refine Keep.depSt (x := x) ?_; subst x)
    | ((try lift_lets -underBinder); intro x; clear_value x)
    | (intro _)
    | with_reducible apply Keep.ite
    | with_reducible apply State.setImg_good
    | with_reducible apply State.set_good
    | with_reducible apply State.bootSave_good

theorem State.revert_good (out : km.part .out) (tim : km.part .tim) (dep : km.part .dep) (mem : km.part .mem)
    (dram : km.part .dram) (scn : km.part .scn) (cor : km.part .cor) (rai : km.part .rai) (lfm : km.part .lfm)
    (line : km.part .line) (rdn : km.part .rdn) (que : km.part .que) (mbx : km.part .mbx) (fwu : km.part .fwu)
    (any : ∀ f, km.fld f) (s : State) (k : Nat) (hs : s.Keeps km pq) : (State.revert s k).1.Keeps km pq := by
  unfold State.revert
  repeat' first
    | with_reducible assumption
    | (with_reducible (intros; exact any _))
    | ((try lift_lets -underBinder); intro x; refine Keep.use (k := km) (q := pq) (s := x) ?_ ?_; (on_goal 1 => dsimp -zeta only [x]); (on_goal 2 => clear_value x; intro _))
    | ((try lift_lets -underBinder); intro x; refine Keep.usePair (k := km) (q := pq) (p := x) ?_ ?_; (on_goal 1 => dsimp -zeta only [x]); (on_goal 2 => clear_value x; intro _))
    | ((try lift_lets -underBinder); intro x; refine Keep.memSt (x := x) ?_; subst x)
    | ((try lift_lets -underBinder); intro x; refine Keep.depSt (x := x) ?_; subst x)
    | ((try lift_lets -underBinder); intro x; clear_value x)
    | (intro _)
    | with_reducible apply Keep.ite
    | with_reducible apply Keep.ite1
    | dsimp -zeta only
    | with_reducible apply State.setImg_good
    | with_reducible apply State.bootSave_good
    | with_reducible apply State.ev_good
    | with_reducible apply State.err_good
    | with_reducible apply State.restartOn_good

theorem State.rbCommit_good (out : km.part .out) (hFWU_ROLLBACK_COUNT : km.fld R.FWU.ROLLBACK.COUNT)
    (hPG_ERR_ADDR_HI : ∀ a, km.fld (R.PG.ERR_ADDR_HI a)) (hPG_ERR_ADDR_LO : ∀ a, km.fld (R.PG.ERR_ADDR_LO a))
    (hPG_ERR_CODE : ∀ a, km.fld (R.PG.ERR_CODE a)) (hPG_ERR_COUNT : ∀ a, km.fld (R.PG.ERR_COUNT a))
    (hPG_ERR_OVERFLOW : ∀ a, km.fld (R.PG.ERR_OVERFLOW a)) (hPG_ERR_SOURCE : ∀ a, km.fld (R.PG.ERR_SOURCE a))
    (hPG_ERR_VALID : ∀ a, km.fld (R.PG.ERR_VALID a)) (hPG_EVT_PEND : ∀ a, km.fld (R.PG.EVT_PEND a)) (s : State)
    (secure : Bool) (hs : s.Keeps km pq) : (State.rbCommit s secure).Keeps km pq := by
  unfold State.rbCommit
  repeat' first
    | with_reducible assumption
    | with_reducible exact hPG_ERR_ADDR_HI _
    | with_reducible exact hPG_ERR_ADDR_LO _
    | with_reducible exact hPG_ERR_CODE _
    | with_reducible exact hPG_ERR_COUNT _
    | with_reducible exact hPG_ERR_OVERFLOW _
    | with_reducible exact hPG_ERR_SOURCE _
    | with_reducible exact hPG_ERR_VALID _
    | with_reducible exact hPG_EVT_PEND _
    | ((try lift_lets -underBinder); intro x; refine Keep.use (k := km) (q := pq) (s := x) ?_ ?_; (on_goal 1 => dsimp -zeta only [x]); (on_goal 2 => clear_value x; intro _))
    | ((try lift_lets -underBinder); intro x; refine Keep.usePair (k := km) (q := pq) (p := x) ?_ ?_; (on_goal 1 => dsimp -zeta only [x]); (on_goal 2 => clear_value x; intro _))
    | ((try lift_lets -underBinder); intro x; refine Keep.memSt (x := x) ?_; subst x)
    | ((try lift_lets -underBinder); intro x; refine Keep.depSt (x := x) ?_; subst x)
    | ((try lift_lets -underBinder); intro x; clear_value x)
    | (intro _)
    | with_reducible apply Keep.ite
    | with_reducible apply State.ev_good
    | with_reducible apply State.err_good
    | with_reducible apply State.set_good
    | split

theorem execConfirmMc_good (frc : km.part .frc) (fwu : km.part .fwu)
    (hSLT_SLOT_STAT_STATE : ∀ a, km.fld (R.SLT.SLOT_STAT.STATE a))
    (hSLT_SLOT_STAT_TRIALS : ∀ a, km.fld (R.SLT.SLOT_STAT.TRIALS a)) (t : Nat) (s : State) (hs : s.Keeps km pq) : ∀ st, execConfirmMc t s = .next st → st.Keeps km pq := by
  unfold execConfirmMc
  refine run_good hs (fun s hs => ?_)
  repeat' first
    | with_reducible assumption
    | with_reducible exact hSLT_SLOT_STAT_STATE _
    | with_reducible exact hSLT_SLOT_STAT_TRIALS _
    | ((try lift_lets -underBinder); intro x; refine Keep.use (k := km) (q := pq) (s := x) ?_ ?_; (on_goal 1 => dsimp -zeta only [x]); (on_goal 2 => clear_value x; intro _))
    | ((try lift_lets -underBinder); intro x; refine Keep.usePair (k := km) (q := pq) (p := x) ?_ ?_; (on_goal 1 => dsimp -zeta only [x]); (on_goal 2 => clear_value x; intro _))
    | ((try lift_lets -underBinder); intro x; refine Keep.memSt (x := x) ?_; subst x)
    | ((try lift_lets -underBinder); intro x; refine Keep.depSt (x := x) ?_; subst x)
    | ((try lift_lets -underBinder); intro x; clear_value x)
    | (intro _)
    | with_reducible apply State.tick_good
    | with_reducible apply State.confirm_good

theorem execConfirmLc_good (frc : km.part .frc) (fwu : km.part .fwu)
    (hSLT_SLOT_STAT_STATE : ∀ a, km.fld (R.SLT.SLOT_STAT.STATE a))
    (hSLT_SLOT_STAT_TRIALS : ∀ a, km.fld (R.SLT.SLOT_STAT.TRIALS a)) (t : Nat) (s : State) (hs : s.Keeps km pq) : ∀ st, execConfirmLc t s = .next st → st.Keeps km pq := by
  unfold execConfirmLc
  refine run_good hs (fun s hs => ?_)
  repeat' first
    | with_reducible assumption
    | with_reducible exact hSLT_SLOT_STAT_STATE _
    | with_reducible exact hSLT_SLOT_STAT_TRIALS _
    | ((try lift_lets -underBinder); intro x; refine Keep.use (k := km) (q := pq) (s := x) ?_ ?_; (on_goal 1 => dsimp -zeta only [x]); (on_goal 2 => clear_value x; intro _))
    | ((try lift_lets -underBinder); intro x; refine Keep.usePair (k := km) (q := pq) (p := x) ?_ ?_; (on_goal 1 => dsimp -zeta only [x]); (on_goal 2 => clear_value x; intro _))
    | ((try lift_lets -underBinder); intro x; refine Keep.memSt (x := x) ?_; subst x)
    | ((try lift_lets -underBinder); intro x; refine Keep.depSt (x := x) ?_; subst x)
    | ((try lift_lets -underBinder); intro x; clear_value x)
    | (intro _)
    | with_reducible apply State.tick_good
    | with_reducible apply State.confirm_good

theorem execRbCommit_good (frc : km.part .frc) (out : km.part .out)
    (hFWU_ROLLBACK_COUNT : km.fld R.FWU.ROLLBACK.COUNT) (hPG_ERR_ADDR_HI : ∀ a, km.fld (R.PG.ERR_ADDR_HI a))
    (hPG_ERR_ADDR_LO : ∀ a, km.fld (R.PG.ERR_ADDR_LO a)) (hPG_ERR_CODE : ∀ a, km.fld (R.PG.ERR_CODE a))
    (hPG_ERR_COUNT : ∀ a, km.fld (R.PG.ERR_COUNT a)) (hPG_ERR_OVERFLOW : ∀ a, km.fld (R.PG.ERR_OVERFLOW a))
    (hPG_ERR_SOURCE : ∀ a, km.fld (R.PG.ERR_SOURCE a)) (hPG_ERR_VALID : ∀ a, km.fld (R.PG.ERR_VALID a))
    (hPG_EVT_PEND : ∀ a, km.fld (R.PG.EVT_PEND a)) (secure : Bool) (t : Nat) (s : State) (hs : s.Keeps km pq) : ∀ st, execRbCommit secure t s = .next st → st.Keeps km pq := by
  unfold execRbCommit
  refine run_good hs (fun s hs => ?_)
  repeat' first
    | with_reducible assumption
    | with_reducible exact hPG_ERR_ADDR_HI _
    | with_reducible exact hPG_ERR_ADDR_LO _
    | with_reducible exact hPG_ERR_CODE _
    | with_reducible exact hPG_ERR_COUNT _
    | with_reducible exact hPG_ERR_OVERFLOW _
    | with_reducible exact hPG_ERR_SOURCE _
    | with_reducible exact hPG_ERR_VALID _
    | with_reducible exact hPG_EVT_PEND _
    | (intro _)
    | with_reducible apply State.tick_good
    | with_reducible apply State.rbCommit_good

theorem execCheckDone_good (frc : km.part .frc) (out : km.part .out) (line : km.part .line) (fwu : km.part .fwu)
    (hPG_ERR_ADDR_HI : ∀ a, km.fld (R.PG.ERR_ADDR_HI a)) (hPG_ERR_ADDR_LO : ∀ a, km.fld (R.PG.ERR_ADDR_LO a))
    (hPG_ERR_CODE : ∀ a, km.fld (R.PG.ERR_CODE a)) (hPG_ERR_COUNT : ∀ a, km.fld (R.PG.ERR_COUNT a))
    (hPG_ERR_OVERFLOW : ∀ a, km.fld (R.PG.ERR_OVERFLOW a)) (hPG_ERR_SOURCE : ∀ a, km.fld (R.PG.ERR_SOURCE a))
    (hPG_ERR_VALID : ∀ a, km.fld (R.PG.ERR_VALID a)) (hPG_EVT_PEND : ∀ a, km.fld (R.PG.EVT_PEND a))
    (hSLT_SLOT_PEER_PEER_MAX : ∀ a, km.fld (R.SLT.SLOT_PEER.PEER_MAX a))
    (hSLT_SLOT_PEER_PEER_MIN : ∀ a, km.fld (R.SLT.SLOT_PEER.PEER_MIN a))
    (hSLT_SLOT_STAT_COMPAT : ∀ a, km.fld (R.SLT.SLOT_STAT.COMPAT a))
    (hSLT_SLOT_STAT_RB_INDEX : ∀ a, km.fld (R.SLT.SLOT_STAT.RB_INDEX a))
    (hSLT_SLOT_STAT_RESULT : ∀ a, km.fld (R.SLT.SLOT_STAT.RESULT a))
    (hSLT_SLOT_STAT_STATE : ∀ a, km.fld (R.SLT.SLOT_STAT.STATE a))
    (hSLT_SLOT_VER_VERSION : ∀ a, km.fld (R.SLT.SLOT_VER.VERSION a)) (k t : Nat) (s : State) (hs : s.Keeps km pq) : ∀ st, execCheckDone k t s = .next st → st.Keeps km pq := by
  unfold execCheckDone
  refine run_good hs (fun s hs => ?_)
  repeat' first
    | with_reducible assumption
    | with_reducible exact hPG_ERR_ADDR_HI _
    | with_reducible exact hPG_ERR_ADDR_LO _
    | with_reducible exact hPG_ERR_CODE _
    | with_reducible exact hPG_ERR_COUNT _
    | with_reducible exact hPG_ERR_OVERFLOW _
    | with_reducible exact hPG_ERR_SOURCE _
    | with_reducible exact hPG_ERR_VALID _
    | with_reducible exact hPG_EVT_PEND _
    | with_reducible exact hSLT_SLOT_PEER_PEER_MAX _
    | with_reducible exact hSLT_SLOT_PEER_PEER_MIN _
    | with_reducible exact hSLT_SLOT_STAT_COMPAT _
    | with_reducible exact hSLT_SLOT_STAT_RB_INDEX _
    | with_reducible exact hSLT_SLOT_STAT_RESULT _
    | with_reducible exact hSLT_SLOT_STAT_STATE _
    | with_reducible exact hSLT_SLOT_VER_VERSION _
    | (intro _)
    | with_reducible apply State.tick_good
    | with_reducible apply State.checkDone_good

theorem execMailboxTimeout_good (frc : km.part .frc) (out : km.part .out)
    (hMBX_M_STAT_TIMEOUT : ∀ a b, km.fld (R.MBX.M_STAT.TIMEOUT a b)) (hPG_EVT_PEND : ∀ a, km.fld (R.PG.EVT_PEND a))
    (c k t : Nat) (s : State) (hs : s.Keeps km pq) : ∀ st, execMailboxTimeout c k t s = .next st → st.Keeps km pq := by
  unfold execMailboxTimeout
  refine run_good hs (fun s hs => ?_)
  repeat' first
    | with_reducible assumption
    | with_reducible exact hMBX_M_STAT_TIMEOUT _ _
    | with_reducible exact hPG_EVT_PEND _
    | (intro _)
    | with_reducible apply State.tick_good
    | with_reducible apply State.mbxTimeout_good

end Sys2Proof.Machine
end

