-- ==== Sys2Proof/Laws/KeepsClock.lean ====
section
/-!
SUPPORT. Every function of Machine/Clock.lean changes what the hypotheses of its lemma name, and nothing else.
-/
namespace Sys2Proof.Machine
set_option Elab.async false
set_option linter.unusedVariables false
set_option linter.unusedTactic false
set_option linter.unreachableTactic false

variable {km : May} {pq : State}

theorem State.showWall_good (tim : km.part .tim)
    (hTIM_LINE_TIME_CFG_INTERVAL_EXP : km.fld R.TIM.LINE_TIME_CFG.INTERVAL_EXP)
    (hTIM_TIM_CTRL_WALL_SEL : km.fld R.TIM.TIM_CTRL.WALL_SEL)
    (hTIM_TIM_STAT_HOLDOVER : km.fld R.TIM.TIM_STAT.HOLDOVER) (s : State) (hs : s.Keeps km pq) : (State.showWall s).Keeps km pq := by
  unfold State.showWall
  repeat' first
    | with_reducible assumption
    | ((try lift_lets -underBinder); intro x; refine Keep.use (k := km) (q := pq) (s := x) ?_ ?_; (on_goal 1 => dsimp -zeta only [x]); (on_goal 2 => clear_value x; intro _))
    | ((try lift_lets -underBinder); intro x; refine Keep.usePair (k := km) (q := pq) (p := x) ?_ ?_; (on_goal 1 => dsimp -zeta only [x]); (on_goal 2 => clear_value x; intro _))
    | ((try lift_lets -underBinder); intro x; refine Keep.memSt (x := x) ?_; subst x)
    | ((try lift_lets -underBinder); intro x; refine Keep.depSt (x := x) ?_; subst x)
    | ((try lift_lets -underBinder); intro x; clear_value x)
    | (intro _)
    | with_reducible apply Keep.ite
    | with_reducible apply State.set_good
    | (simp -zeta only [Keep.mk_iff]; with_reducible refine Keep.upd ?_ rfl ?_; on_goal 2 => (and_intros <;> with_reducible first | exact .inl rfl | exact .inl ⟨rfl, rfl, rfl⟩ | exact .inr ‹_› | exact Nat.le_refl _ | exact Nat.le_add_right _ _))

theorem State.putDomState_good (tim : km.part .tim) (hTIM_DOM_STAT_STATE : ∀ a, km.fld (R.TIM.DOM_STAT.STATE a))
    (hTIM_LINE_TIME_CFG_INTERVAL_EXP : km.fld R.TIM.LINE_TIME_CFG.INTERVAL_EXP)
    (hTIM_TIM_CTRL_WALL_SEL : km.fld R.TIM.TIM_CTRL.WALL_SEL)
    (hTIM_TIM_STAT_D0_STATE : km.fld R.TIM.TIM_STAT.D0_STATE)
    (hTIM_TIM_STAT_D1_STATE : km.fld R.TIM.TIM_STAT.D1_STATE)
    (hTIM_TIM_STAT_HOLDOVER : km.fld R.TIM.TIM_STAT.HOLDOVER) (s : State) (d v : Nat) (hs : s.Keeps km pq) : (State.putDomState s d v).Keeps km pq := by
  unfold State.putDomState
  repeat' first
    | with_reducible assumption
    | with_reducible exact hTIM_DOM_STAT_STATE _
    | (show km.fld _; split <;> first | assumption | exact hTIM_DOM_STAT_STATE _ | exact hTIM_LINE_TIME_CFG_INTERVAL_EXP | exact hTIM_TIM_CTRL_WALL_SEL | exact hTIM_TIM_STAT_D0_STATE | exact hTIM_TIM_STAT_D1_STATE | exact hTIM_TIM_STAT_HOLDOVER)
    | (intro _)
    | with_reducible apply Keep.ite
    | with_reducible apply State.set_good
    | with_reducible apply State.showWall_good

theorem State.validCheck_good (hTIM_TIM_STAT_TIME_VALID : km.fld R.TIM.TIM_STAT.TIME_VALID) (s : State)
    (hs : s.Keeps km pq) : (State.validCheck s).Keeps km pq := by
  unfold State.validCheck
  repeat' first
    | with_reducible assumption
    | (intro _)
    | with_reducible apply Keep.ite
    | with_reducible apply State.set_good

theorem State.setWallDom_good (out : km.part .out) (tim : km.part .tim)
    (hPG_EVT_PEND : ∀ a, km.fld (R.PG.EVT_PEND a))
    (hTIM_LINE_TIME_CFG_INTERVAL_EXP : km.fld R.TIM.LINE_TIME_CFG.INTERVAL_EXP)
    (hTIM_TIM_CTRL_WALL_SEL : km.fld R.TIM.TIM_CTRL.WALL_SEL)
    (hTIM_TIM_STAT_HOLDOVER : km.fld R.TIM.TIM_STAT.HOLDOVER) (hTIM_TIM_STAT_SLEWING : km.fld R.TIM.TIM_STAT.SLEWING)
    (hTIM_TIM_STAT_TIME_VALID : km.fld R.TIM.TIM_STAT.TIME_VALID)
    (hTIM_TIM_STAT_WALL_DOM : km.fld R.TIM.TIM_STAT.WALL_DOM) (s : State) (target : Nat) (r : Int)
    (hs : s.Keeps km pq) : (State.setWallDom s target r).Keeps km pq := by
  unfold State.setWallDom
  repeat' first
    | with_reducible assumption
    | with_reducible exact hPG_EVT_PEND _
    | ((try lift_lets -underBinder); intro x; refine Keep.use (k := km) (q := pq) (s := x) ?_ ?_; (on_goal 1 => dsimp -zeta only [x]); (on_goal 2 => clear_value x; intro _))
    | ((try lift_lets -underBinder); intro x; refine Keep.usePair (k := km) (q := pq) (p := x) ?_ ?_; (on_goal 1 => dsimp -zeta only [x]); (on_goal 2 => clear_value x; intro _))
    | ((try lift_lets -underBinder); intro x; refine Keep.memSt (x := x) ?_; subst x)
    | ((try lift_lets -underBinder); intro x; refine Keep.depSt (x := x) ?_; subst x)
    | ((try lift_lets -underBinder); intro x; clear_value x)
    | (intro _)
    | with_reducible apply State.set_good
    | with_reducible apply State.showWall_good
    | with_reducible apply State.ev_good
    | with_reducible apply State.validCheck_good
    | (simp -zeta only [Keep.mk_iff]; with_reducible refine Keep.upd ?_ rfl ?_; on_goal 2 => (and_intros <;> with_reducible first | exact .inl rfl | exact .inl ⟨rfl, rfl, rfl⟩ | exact .inr ‹_› | exact Nat.le_refl _ | exact Nat.le_add_right _ _))

theorem State.switchWall_good (out : km.part .out) (tim : km.part .tim)
    (hPG_EVT_PEND : ∀ a, km.fld (R.PG.EVT_PEND a))
    (hTIM_LINE_TIME_CFG_INTERVAL_EXP : km.fld R.TIM.LINE_TIME_CFG.INTERVAL_EXP)
    (hTIM_TIM_CTRL_WALL_SEL : km.fld R.TIM.TIM_CTRL.WALL_SEL)
    (hTIM_TIM_STAT_HOLDOVER : km.fld R.TIM.TIM_STAT.HOLDOVER) (hTIM_TIM_STAT_SLEWING : km.fld R.TIM.TIM_STAT.SLEWING)
    (hTIM_TIM_STAT_TIME_VALID : km.fld R.TIM.TIM_STAT.TIME_VALID)
    (hTIM_TIM_STAT_WALL_DOM : km.fld R.TIM.TIM_STAT.WALL_DOM) (s : State) (target : Nat) (force : Bool)
    (hs : s.Keeps km pq) : (State.switchWall s target force).Keeps km pq := by
  unfold State.switchWall
  repeat' first
    | with_reducible assumption
    | with_reducible exact hPG_EVT_PEND _
    | (intro _)
    | with_reducible apply Keep.ite
    | with_reducible apply State.setWallDom_good
    | with_reducible apply State.ev_good

theorem State.enterHoldover_good (out : km.part .out) (tim : km.part .tim)
    (hPG_EVT_PEND : ∀ a, km.fld (R.PG.EVT_PEND a)) (hTIM_DOM_STAT_STATE : ∀ a, km.fld (R.TIM.DOM_STAT.STATE a))
    (hTIM_LINE_TIME_CFG_INTERVAL_EXP : km.fld R.TIM.LINE_TIME_CFG.INTERVAL_EXP)
    (hTIM_TIM_CTRL_WALL_SEL : km.fld R.TIM.TIM_CTRL.WALL_SEL)
    (hTIM_TIM_STAT_D0_STATE : km.fld R.TIM.TIM_STAT.D0_STATE)
    (hTIM_TIM_STAT_D1_STATE : km.fld R.TIM.TIM_STAT.D1_STATE)
    (hTIM_TIM_STAT_HOLDOVER : km.fld R.TIM.TIM_STAT.HOLDOVER) (hTIM_TIM_STAT_SLEWING : km.fld R.TIM.TIM_STAT.SLEWING)
    (hTIM_TIM_STAT_TIME_VALID : km.fld R.TIM.TIM_STAT.TIME_VALID)
    (hTIM_TIM_STAT_WALL_DOM : km.fld R.TIM.TIM_STAT.WALL_DOM) (s : State) (d : Nat) (hs : s.Keeps km pq) : (State.enterHoldover s d).Keeps km pq := by
  unfold State.enterHoldover
  repeat' first
    | with_reducible assumption
    | with_reducible exact hPG_EVT_PEND _
    | with_reducible exact hTIM_DOM_STAT_STATE _
    | ((try lift_lets -underBinder); intro x; refine Keep.use (k := km) (q := pq) (s := x) ?_ ?_; (on_goal 1 => dsimp -zeta only [x]); (on_goal 2 => clear_value x; intro _))
    | ((try lift_lets -underBinder); intro x; refine Keep.usePair (k := km) (q := pq) (p := x) ?_ ?_; (on_goal 1 => dsimp -zeta only [x]); (on_goal 2 => clear_value x; intro _))
    | ((try lift_lets -underBinder); intro x; refine Keep.memSt (x := x) ?_; subst x)
    | ((try lift_lets -underBinder); intro x; refine Keep.depSt (x := x) ?_; subst x)
    | ((try lift_lets -underBinder); intro x; clear_value x)
    | (intro _)
    | with_reducible apply Keep.ite
    | with_reducible apply State.putDomState_good
    | with_reducible apply State.ev_good
    | with_reducible apply State.switchWall_good

theorem State.enterAcquire_good (tim : km.part .tim)
    (hTIM_DOM_STAT_LOCK_RUN : ∀ a, km.fld (R.TIM.DOM_STAT.LOCK_RUN a))
    (hTIM_DOM_STAT_STATE : ∀ a, km.fld (R.TIM.DOM_STAT.STATE a))
    (hTIM_LINE_TIME_CFG_INTERVAL_EXP : km.fld R.TIM.LINE_TIME_CFG.INTERVAL_EXP)
    (hTIM_TIM_CTRL_WALL_SEL : km.fld R.TIM.TIM_CTRL.WALL_SEL)
    (hTIM_TIM_STAT_D0_STATE : km.fld R.TIM.TIM_STAT.D0_STATE)
    (hTIM_TIM_STAT_D1_STATE : km.fld R.TIM.TIM_STAT.D1_STATE)
    (hTIM_TIM_STAT_HOLDOVER : km.fld R.TIM.TIM_STAT.HOLDOVER) (s : State) (d : Nat) (hs : s.Keeps km pq) : (State.enterAcquire s d).Keeps km pq := by
  unfold State.enterAcquire
  repeat' first
    | with_reducible assumption
    | with_reducible exact hTIM_DOM_STAT_LOCK_RUN _
    | with_reducible exact hTIM_DOM_STAT_STATE _
    | ((try lift_lets -underBinder); intro x; refine Keep.use (k := km) (q := pq) (s := x) ?_ ?_; (on_goal 1 => dsimp -zeta only [x]); (on_goal 2 => clear_value x; intro _))
    | ((try lift_lets -underBinder); intro x; refine Keep.usePair (k := km) (q := pq) (p := x) ?_ ?_; (on_goal 1 => dsimp -zeta only [x]); (on_goal 2 => clear_value x; intro _))
    | ((try lift_lets -underBinder); intro x; refine Keep.memSt (x := x) ?_; subst x)
    | ((try lift_lets -underBinder); intro x; refine Keep.depSt (x := x) ?_; subst x)
    | ((try lift_lets -underBinder); intro x; clear_value x)
    | (intro _)
    | with_reducible apply State.setDom_good
    | with_reducible apply State.set_good
    | with_reducible apply State.putDomState_good

theorem State.enterListen_good (tim : km.part .tim) (hTIM_DOM_STAT_STATE : ∀ a, km.fld (R.TIM.DOM_STAT.STATE a))
    (hTIM_LINE_TIME_CFG_INTERVAL_EXP : km.fld R.TIM.LINE_TIME_CFG.INTERVAL_EXP)
    (hTIM_TIM_CTRL_WALL_SEL : km.fld R.TIM.TIM_CTRL.WALL_SEL)
    (hTIM_TIM_STAT_D0_STATE : km.fld R.TIM.TIM_STAT.D0_STATE)
    (hTIM_TIM_STAT_D1_STATE : km.fld R.TIM.TIM_STAT.D1_STATE)
    (hTIM_TIM_STAT_HOLDOVER : km.fld R.TIM.TIM_STAT.HOLDOVER) (s : State) (d : Nat) (hs : s.Keeps km pq) : (State.enterListen s d).Keeps km pq := by
  unfold State.enterListen
  repeat' first
    | with_reducible assumption
    | with_reducible exact hTIM_DOM_STAT_STATE _
    | ((try lift_lets -underBinder); intro x; refine Keep.use (k := km) (q := pq) (s := x) ?_ ?_; (on_goal 1 => dsimp -zeta only [x]); (on_goal 2 => clear_value x; intro _))
    | ((try lift_lets -underBinder); intro x; refine Keep.usePair (k := km) (q := pq) (p := x) ?_ ?_; (on_goal 1 => dsimp -zeta only [x]); (on_goal 2 => clear_value x; intro _))
    | ((try lift_lets -underBinder); intro x; refine Keep.memSt (x := x) ?_; subst x)
    | ((try lift_lets -underBinder); intro x; refine Keep.depSt (x := x) ?_; subst x)
    | ((try lift_lets -underBinder); intro x; clear_value x)
    | (intro _)
    | with_reducible apply State.setDom_good
    | with_reducible apply State.putDomState_good

theorem State.domEnable_good (tim : km.part .tim) (hTIM_DOM_CFG_EN : ∀ a, km.fld (R.TIM.DOM_CFG.EN a))
    (hTIM_DOM_STAT_STATE : ∀ a, km.fld (R.TIM.DOM_STAT.STATE a))
    (hTIM_LINE_TIME_CFG_INTERVAL_EXP : km.fld R.TIM.LINE_TIME_CFG.INTERVAL_EXP)
    (hTIM_TIM_CTRL_WALL_SEL : km.fld R.TIM.TIM_CTRL.WALL_SEL)
    (hTIM_TIM_STAT_D0_STATE : km.fld R.TIM.TIM_STAT.D0_STATE)
    (hTIM_TIM_STAT_D1_STATE : km.fld R.TIM.TIM_STAT.D1_STATE)
    (hTIM_TIM_STAT_HOLDOVER : km.fld R.TIM.TIM_STAT.HOLDOVER) (s : State) (d : Nat) (on : Bool) (hs : s.Keeps km pq)
    : (State.domEnable s d on).Keeps km pq := by
  unfold State.domEnable
  repeat' first
    | with_reducible assumption
    | with_reducible exact hTIM_DOM_CFG_EN _
    | with_reducible exact hTIM_DOM_STAT_STATE _
    | ((try lift_lets -underBinder); intro x; refine Keep.use (k := km) (q := pq) (s := x) ?_ ?_; (on_goal 1 => dsimp -zeta only [x]); (on_goal 2 => clear_value x; intro _))
    | ((try lift_lets -underBinder); intro x; refine Keep.usePair (k := km) (q := pq) (p := x) ?_ ?_; (on_goal 1 => dsimp -zeta only [x]); (on_goal 2 => clear_value x; intro _))
    | ((try lift_lets -underBinder); intro x; refine Keep.memSt (x := x) ?_; subst x)
    | ((try lift_lets -underBinder); intro x; refine Keep.depSt (x := x) ?_; subst x)
    | ((try lift_lets -underBinder); intro x; clear_value x)
    | (intro _)
    | with_reducible apply Keep.ite
    | with_reducible apply State.set_good
    | with_reducible apply State.enterListen_good
    | with_reducible apply State.putDomState_good

theorem State.filter_good (tim : km.part .tim) (hTIM_DOM_OFFSET_OFFSET : ∀ a, km.fld (R.TIM.DOM_OFFSET.OFFSET a))
    (hTIM_DOM_RATE_RATE : ∀ a, km.fld (R.TIM.DOM_RATE.RATE a)) (s : State) (d : Nat) (m e : Int) (step : Bool)
    (hs : s.Keeps km pq) : (State.filter s d m e step).Keeps km pq := by
  unfold State.filter
  repeat' first
    | with_reducible assumption
    | with_reducible exact hTIM_DOM_OFFSET_OFFSET _
    | with_reducible exact hTIM_DOM_RATE_RATE _
    | ((try lift_lets -underBinder); intro x; refine Keep.use (k := km) (q := pq) (s := x) ?_ ?_; (on_goal 1 => dsimp -zeta only [x]); (on_goal 2 => clear_value x; intro _))
    | ((try lift_lets -underBinder); intro x; refine Keep.usePair (k := km) (q := pq) (p := x) ?_ ?_; (on_goal 1 => dsimp -zeta only [x]); (on_goal 2 => clear_value x; intro _))
    | ((try lift_lets -underBinder); intro x; refine Keep.memSt (x := x) ?_; subst x)
    | ((try lift_lets -underBinder); intro x; refine Keep.depSt (x := x) ?_; subst x)
    | ((try lift_lets -underBinder); intro x; clear_value x)
    | (intro _)
    | with_reducible apply Keep.ite
    | with_reducible apply State.setDom_good
    | with_reducible apply State.setI_good

theorem State.lockRuns_good (out : km.part .out) (tim : km.part .tim) (hPG_EVT_PEND : ∀ a, km.fld (R.PG.EVT_PEND a))
    (hTIM_DOM_STAT_LOCK_RUN : ∀ a, km.fld (R.TIM.DOM_STAT.LOCK_RUN a))
    (hTIM_DOM_STAT_STATE : ∀ a, km.fld (R.TIM.DOM_STAT.STATE a))
    (hTIM_LINE_TIME_CFG_INTERVAL_EXP : km.fld R.TIM.LINE_TIME_CFG.INTERVAL_EXP)
    (hTIM_TIM_CTRL_WALL_SEL : km.fld R.TIM.TIM_CTRL.WALL_SEL)
    (hTIM_TIM_STAT_D0_STATE : km.fld R.TIM.TIM_STAT.D0_STATE)
    (hTIM_TIM_STAT_D1_STATE : km.fld R.TIM.TIM_STAT.D1_STATE)
    (hTIM_TIM_STAT_HOLDOVER : km.fld R.TIM.TIM_STAT.HOLDOVER) (s : State) (d : Nat) (m : Int) (hs : s.Keeps km pq) : (State.lockRuns s d m).Keeps km pq := by
  unfold State.lockRuns
  repeat' first
    | with_reducible assumption
    | with_reducible exact hPG_EVT_PEND _
    | with_reducible exact hTIM_DOM_STAT_LOCK_RUN _
    | with_reducible exact hTIM_DOM_STAT_STATE _
    | ((try lift_lets -underBinder); intro x; refine Keep.use (k := km) (q := pq) (s := x) ?_ ?_; (on_goal 1 => dsimp -zeta only [x]); (on_goal 2 => clear_value x; intro _))
    | ((try lift_lets -underBinder); intro x; refine Keep.usePair (k := km) (q := pq) (p := x) ?_ ?_; (on_goal 1 => dsimp -zeta only [x]); (on_goal 2 => clear_value x; intro _))
    | ((try lift_lets -underBinder); intro x; refine Keep.memSt (x := x) ?_; subst x)
    | ((try lift_lets -underBinder); intro x; refine Keep.depSt (x := x) ?_; subst x)
    | ((try lift_lets -underBinder); intro x; clear_value x)
    | (intro _)
    | with_reducible apply Keep.ite
    | with_reducible apply State.set_good
    | with_reducible apply State.setDom_good
    | with_reducible apply State.putDomState_good
    | with_reducible apply State.ev_good
    | with_reducible apply State.enterAcquire_good

theorem State.measure_good (out : km.part .out) (tim : km.part .tim) (hPG_EVT_PEND : ∀ a, km.fld (R.PG.EVT_PEND a))
    (hTIM_DOM_OFFSET_OFFSET : ∀ a, km.fld (R.TIM.DOM_OFFSET.OFFSET a))
    (hTIM_DOM_RATE_RATE : ∀ a, km.fld (R.TIM.DOM_RATE.RATE a))
    (hTIM_DOM_STAT_LOCK_RUN : ∀ a, km.fld (R.TIM.DOM_STAT.LOCK_RUN a))
    (hTIM_DOM_STAT_REJECTED : ∀ a, km.fld (R.TIM.DOM_STAT.REJECTED a))
    (hTIM_DOM_STAT_STATE : ∀ a, km.fld (R.TIM.DOM_STAT.STATE a))
    (hTIM_LINE_TIME_CFG_INTERVAL_EXP : km.fld R.TIM.LINE_TIME_CFG.INTERVAL_EXP)
    (hTIM_TIM_CTRL_WALL_SEL : km.fld R.TIM.TIM_CTRL.WALL_SEL)
    (hTIM_TIM_STAT_D0_STATE : km.fld R.TIM.TIM_STAT.D0_STATE)
    (hTIM_TIM_STAT_D1_STATE : km.fld R.TIM.TIM_STAT.D1_STATE)
    (hTIM_TIM_STAT_HOLDOVER : km.fld R.TIM.TIM_STAT.HOLDOVER)
    (hTIM_TIM_STAT_TIME_VALID : km.fld R.TIM.TIM_STAT.TIME_VALID) (s : State) (d : Nat) (m e : Int) (force : Bool)
    (hs : s.Keeps km pq) : (State.measure s d m e force).Keeps km pq := by
  unfold State.measure
  repeat' first
    | with_reducible assumption
    | with_reducible exact hPG_EVT_PEND _
    | with_reducible exact hTIM_DOM_OFFSET_OFFSET _
    | with_reducible exact hTIM_DOM_RATE_RATE _
    | with_reducible exact hTIM_DOM_STAT_LOCK_RUN _
    | with_reducible exact hTIM_DOM_STAT_REJECTED _
    | with_reducible exact hTIM_DOM_STAT_STATE _
    | ((try lift_lets -underBinder); intro x; refine Keep.use (k := km) (q := pq) (s := x) ?_ ?_; (on_goal 1 => dsimp -zeta only [x]); (on_goal 2 => clear_value x; intro _))
    | ((try lift_lets -underBinder); intro x; refine Keep.usePair (k := km) (q := pq) (p := x) ?_ ?_; (on_goal 1 => dsimp -zeta only [x]); (on_goal 2 => clear_value x; intro _))
    | ((try lift_lets -underBinder); intro x; refine Keep.memSt (x := x) ?_; subst x)
    | ((try lift_lets -underBinder); intro x; refine Keep.depSt (x := x) ?_; subst x)
    | ((try lift_lets -underBinder); intro x; clear_value x)
    | (intro _)
    | with_reducible apply Keep.ite
    | with_reducible apply State.count_good
    | with_reducible apply State.enterAcquire_good
    | with_reducible apply State.filter_good
    | with_reducible apply State.evIf_good
    | with_reducible apply State.lockRuns_good
    | with_reducible apply State.validCheck_good

theorem State.showSched_good (hDEP_VPHASE_CUR_VPHASE : ∀ a, km.fld (R.DEP.VPHASE_CUR.VPHASE a))
    (hTIM_RATE_CUR_RATE : km.fld R.TIM.RATE_CUR.RATE) (hTIM_SCHED_N0_HI_N0 : km.fld R.TIM.SCHED_N0_HI.N0)
    (hTIM_SCHED_N0_LO_N0 : km.fld R.TIM.SCHED_N0_LO.N0) (hTIM_SCHED_T0_HI_T0 : km.fld R.TIM.SCHED_T0_HI.T0)
    (hTIM_SCHED_T0_LO_T0 : km.fld R.TIM.SCHED_T0_LO.T0) (s : State) (hs : s.Keeps km pq) : (State.showSched s).Keeps km pq := by
  unfold State.showSched
  repeat' first
    | with_reducible assumption
    | with_reducible exact hDEP_VPHASE_CUR_VPHASE _
    | ((try lift_lets -underBinder); intro x; refine Keep.use (k := km) (q := pq) (s := x) ?_ ?_; (on_goal 1 => dsimp -zeta only [x]); (on_goal 2 => clear_value x; intro _))
    | ((try lift_lets -underBinder); intro x; refine Keep.usePair (k := km) (q := pq) (p := x) ?_ ?_; (on_goal 1 => dsimp -zeta only [x]); (on_goal 2 => clear_value x; intro _))
    | ((try lift_lets -underBinder); intro x; refine Keep.memSt (x := x) ?_; subst x)
    | ((try lift_lets -underBinder); intro x; refine Keep.depSt (x := x) ?_; subst x)
    | ((try lift_lets -underBinder); intro x; clear_value x)
    | (intro _)
    | with_reducible apply State.set_good
    | with_reducible apply State.set64_good
    | with_reducible apply State.forN_good
    | split

theorem State.sendSched_good (out : km.part .out) (tim : km.part .tim) (line : km.part .line) (s : State) (p : Nat)
    (c : Sched) (next : Bool) (hs : s.Keeps km pq) : (State.sendSched s p c next).Keeps km pq := by
  unfold State.sendSched
  repeat' first
    | with_reducible assumption
    | ((try lift_lets -underBinder); intro x; refine Keep.use (k := km) (q := pq) (s := x) ?_ ?_; (on_goal 1 => dsimp -zeta only [x]); (on_goal 2 => clear_value x; intro _))
    | ((try lift_lets -underBinder); intro x; refine Keep.usePair (k := km) (q := pq) (p := x) ?_ ?_; (on_goal 1 => dsimp -zeta only [x]); (on_goal 2 => clear_value x; intro _))
    | ((try lift_lets -underBinder); intro x; refine Keep.memSt (x := x) ?_; subst x)
    | ((try lift_lets -underBinder); intro x; refine Keep.depSt (x := x) ?_; subst x)
    | ((try lift_lets -underBinder); intro x; clear_value x)
    | (intro _)
    | with_reducible apply Keep.ite
    | with_reducible apply State.send_good
    | (simp -zeta only [Keep.mk_iff]; with_reducible refine Keep.upd ?_ rfl ?_; on_goal 2 => (and_intros <;> with_reducible first | exact .inl rfl | exact .inl ⟨rfl, rfl, rfl⟩ | exact .inr ‹_› | exact Nat.le_refl _ | exact Nat.le_add_right _ _))

theorem State.sendScheds_good (out : km.part .out) (tim : km.part .tim) (line : km.part .line) (s : State)
    (hs : s.Keeps km pq) : (State.sendScheds s).Keeps km pq := by
  unfold State.sendScheds
  repeat' first
    | with_reducible assumption
    | ((try lift_lets -underBinder); intro x; refine Keep.use (k := km) (q := pq) (s := x) ?_ ?_; (on_goal 1 => dsimp -zeta only [x]); (on_goal 2 => clear_value x; intro _))
    | ((try lift_lets -underBinder); intro x; refine Keep.usePair (k := km) (q := pq) (p := x) ?_ ?_; (on_goal 1 => dsimp -zeta only [x]); (on_goal 2 => clear_value x; intro _))
    | ((try lift_lets -underBinder); intro x; refine Keep.memSt (x := x) ?_; subst x)
    | ((try lift_lets -underBinder); intro x; refine Keep.depSt (x := x) ?_; subst x)
    | ((try lift_lets -underBinder); intro x; clear_value x)
    | (intro _)
    | with_reducible apply Keep.ite
    | with_reducible apply State.forN_good
    | with_reducible apply State.sendSched_good
    | split

theorem State.takeSched_good (out : km.part .out) (tim : km.part .tim) (ing : km.part .ing) (line : km.part .line)
    (hDEP_MODE_CHECK_DEP_PENDING : km.fld R.DEP.MODE_CHECK.DEP_PENDING)
    (hDEP_MODE_CHECK_EPOCH_PENDING : km.fld R.DEP.MODE_CHECK.EPOCH_PENDING)
    (hDEP_MODE_CHECK_FIELDS : km.fld R.DEP.MODE_CHECK.FIELDS) (hDEP_MODE_CHECK_RULE : km.fld R.DEP.MODE_CHECK.RULE)
    (hDEP_MODE_CHECK_VALID : km.fld R.DEP.MODE_CHECK.VALID)
    (hDEP_MODE_CTRL_FB_VALID : km.fld R.DEP.MODE_CTRL.FB_VALID)
    (hDEP_VPHASE_CUR_VPHASE : ∀ a, km.fld (R.DEP.VPHASE_CUR.VPHASE a))
    (hING_FOLLOW_VALID : km.fld R.ING.FOLLOW.VALID) (hPG_ERR_ADDR_HI : ∀ a, km.fld (R.PG.ERR_ADDR_HI a))
    (hPG_ERR_ADDR_LO : ∀ a, km.fld (R.PG.ERR_ADDR_LO a)) (hPG_ERR_CODE : ∀ a, km.fld (R.PG.ERR_CODE a))
    (hPG_ERR_COUNT : ∀ a, km.fld (R.PG.ERR_COUNT a)) (hPG_ERR_OVERFLOW : ∀ a, km.fld (R.PG.ERR_OVERFLOW a))
    (hPG_ERR_SOURCE : ∀ a, km.fld (R.PG.ERR_SOURCE a)) (hPG_ERR_VALID : ∀ a, km.fld (R.PG.ERR_VALID a))
    (hPG_EVT_PEND : ∀ a, km.fld (R.PG.EVT_PEND a)) (hSCN_BUS_LOAD_GBPS : km.fld R.SCN.BUS_LOAD.GBPS)
    (hSCN_REFRESH_HZ : km.fld R.SCN.REFRESH.HZ) (hSCN_SPREAD_A : km.fld R.SCN.SPREAD.A)
    (hSCN_T_BL_NS : km.fld R.SCN.T_BL.NS) (hSCN_T_GAP_CYC : km.fld R.SCN.T_GAP.CYC)
    (hSCN_T_LOAD_NS : km.fld R.SCN.T_LOAD.NS) (hSCN_T_RC_CYC : km.fld R.SCN.T_RC.CYC)
    (hSCN_T_ROW_CYC : km.fld R.SCN.T_ROW.CYC) (hTIM_DOM_OFFSET_OFFSET : ∀ a, km.fld (R.TIM.DOM_OFFSET.OFFSET a))
    (hTIM_DOM_RATE_RATE : ∀ a, km.fld (R.TIM.DOM_RATE.RATE a)) (hTIM_RATE_CUR_RATE : km.fld R.TIM.RATE_CUR.RATE)
    (hTIM_RATE_NEXT_RATE : km.fld R.TIM.RATE_NEXT.RATE) (hTIM_SCHED_N0_HI_N0 : km.fld R.TIM.SCHED_N0_HI.N0)
    (hTIM_SCHED_N0_LO_N0 : km.fld R.TIM.SCHED_N0_LO.N0) (hTIM_SCHED_T0_HI_T0 : km.fld R.TIM.SCHED_T0_HI.T0)
    (hTIM_SCHED_T0_LO_T0 : km.fld R.TIM.SCHED_T0_LO.T0) (s : State) (c : Sched) (hs : s.Keeps km pq) : (State.takeSched s c).Keeps km pq := by
  unfold State.takeSched
  repeat' first
    | with_reducible assumption
    | with_reducible exact hDEP_VPHASE_CUR_VPHASE _
    | with_reducible exact hPG_ERR_ADDR_HI _
    | with_reducible exact hPG_ERR_ADDR_LO _
    | with_reducible exact hPG_ERR_CODE _
    | with_reducible exact hPG_ERR_COUNT _
    | with_reducible exact hPG_ERR_OVERFLOW _
    | with_reducible exact hPG_ERR_SOURCE _
    | with_reducible exact hPG_ERR_VALID _
    | with_reducible exact hPG_EVT_PEND _
    | with_reducible exact hTIM_DOM_OFFSET_OFFSET _
    | with_reducible exact hTIM_DOM_RATE_RATE _
    | ((try lift_lets -underBinder); intro x; refine Keep.use (k := km) (q := pq) (s := x) ?_ ?_; (on_goal 1 => dsimp -zeta only [x]); (on_goal 2 => clear_value x; intro _))
    | ((try lift_lets -underBinder); intro x; refine Keep.usePair (k := km) (q := pq) (p := x) ?_ ?_; (on_goal 1 => dsimp -zeta only [x]); (on_goal 2 => clear_value x; intro _))
    | ((try lift_lets -underBinder); intro x; refine Keep.memSt (x := x) ?_; subst x)
    | ((try lift_lets -underBinder); intro x; refine Keep.depSt (x := x) ?_; subst x)
    | ((try lift_lets -underBinder); intro x; clear_value x)
    | (intro _)
    | with_reducible apply Keep.ite
    | with_reducible apply State.filter_good
    | with_reducible apply State.showSched_good
    | with_reducible apply State.set_good
    | with_reducible apply State.ev_good
    | with_reducible apply State.evaluate_good
    | with_reducible apply State.sendScheds_good
    | with_reducible apply State.followEval_good
    | with_reducible apply State.showTimetable_good
    | (simp -zeta only [Keep.mk_iff]; with_reducible refine Keep.upd ?_ rfl ?_; on_goal 2 => (and_intros <;> with_reducible first | exact .inl rfl | exact .inl ⟨rfl, rfl, rfl⟩ | exact .inr ‹_› | exact Nat.le_refl _ | exact Nat.le_add_right _ _))

end Sys2Proof.Machine
end

