-- ==== Sys2Proof/Laws/KeepsLaunch.lean ====
section
/-!
SUPPORT. Every function of Machine/Launch.lean changes what the hypotheses of its lemma name, and nothing else.
-/
namespace Sys2Proof.Machine
set_option Elab.async false
set_option linter.unusedVariables false
set_option linter.unusedTactic false
set_option linter.unreachableTactic false

variable {km : May} {pq : State}

theorem State.showBoard_good (hDEP_DEP_STAT_ARMED : km.fld R.DEP.DEP_STAT.ARMED)
    (hDEP_DEP_STAT_NEXT_IDX : km.fld R.DEP.DEP_STAT.NEXT_IDX) (hDEP_ENT_STATUS_STATE : km.fld R.DEP.ENT_STATUS.STATE)
    (s : State) (hs : s.Keeps km pq) : (State.showBoard s).Keeps km pq := by
  unfold State.showBoard
  repeat' first
    | with_reducible assumption
    | ((try lift_lets -underBinder); intro x; refine Keep.use (k := km) (q := pq) (s := x) ?_ ?_; (on_goal 1 => dsimp -zeta only [x]); (on_goal 2 => clear_value x; intro _))
    | ((try lift_lets -underBinder); intro x; refine Keep.usePair (k := km) (q := pq) (p := x) ?_ ?_; (on_goal 1 => dsimp -zeta only [x]); (on_goal 2 => clear_value x; intro _))
    | ((try lift_lets -underBinder); intro x; refine Keep.memSt (x := x) ?_; subst x)
    | ((try lift_lets -underBinder); intro x; refine Keep.depSt (x := x) ?_; subst x)
    | ((try lift_lets -underBinder); intro x; clear_value x)
    | (intro _)
    | with_reducible apply State.set_good

theorem State.fire_good (out : km.part .out) (dep : km.part .dep) (hDEP_DEP_STAT_ARMED : km.fld R.DEP.DEP_STAT.ARMED)
    (hDEP_DEP_STAT_NEXT_IDX : km.fld R.DEP.DEP_STAT.NEXT_IDX) (hDEP_ENT_STATUS_STATE : km.fld R.DEP.ENT_STATUS.STATE)
    (hDEP_LATE_CNT_LATE : km.fld R.DEP.LATE_CNT.LATE) (hPG_EVT_PEND : ∀ a, km.fld (R.PG.EVT_PEND a)) (s : State)
    (i : Nat) (late : Bool) (hs : s.Keeps km pq) : (State.fire s i late).Keeps km pq := by
  unfold State.fire
  repeat' first
    | with_reducible assumption
    | with_reducible exact hPG_EVT_PEND _
    | ((try lift_lets -underBinder); intro x; refine Keep.use (k := km) (q := pq) (s := x) ?_ ?_; (on_goal 1 => dsimp -zeta only [x]); (on_goal 2 => clear_value x; intro _))
    | ((try lift_lets -underBinder); intro x; refine Keep.usePair (k := km) (q := pq) (p := x) ?_ ?_; (on_goal 1 => dsimp -zeta only [x]); (on_goal 2 => clear_value x; intro _))
    | ((try lift_lets -underBinder); intro x; refine Keep.memSt (x := x) ?_; subst x)
    | ((try lift_lets -underBinder); intro x; refine Keep.depSt (x := x) ?_; subst x)
    | ((try lift_lets -underBinder); intro x; clear_value x)
    | (intro _)
    | with_reducible apply Keep.ite
    | with_reducible apply State.setEntry_good
    | with_reducible apply State.showBoard_good
    | with_reducible apply State.ev_good
    | with_reducible apply State.count_good

theorem State.miss_good (out : km.part .out) (dep : km.part .dep) (hDEP_DEP_STAT_ARMED : km.fld R.DEP.DEP_STAT.ARMED)
    (hDEP_DEP_STAT_NEXT_IDX : km.fld R.DEP.DEP_STAT.NEXT_IDX) (hDEP_ENT_STATUS_STATE : km.fld R.DEP.ENT_STATUS.STATE)
    (hDEP_MISSED_CNT_MISSED : km.fld R.DEP.MISSED_CNT.MISSED) (hPG_EVT_PEND : ∀ a, km.fld (R.PG.EVT_PEND a))
    (s : State) (i : Nat) (hs : s.Keeps km pq) : (State.miss s i).Keeps km pq := by
  unfold State.miss
  repeat' first
    | with_reducible assumption
    | with_reducible exact hPG_EVT_PEND _
    | ((try lift_lets -underBinder); intro x; refine Keep.use (k := km) (q := pq) (s := x) ?_ ?_; (on_goal 1 => dsimp -zeta only [x]); (on_goal 2 => clear_value x; intro _))
    | ((try lift_lets -underBinder); intro x; refine Keep.usePair (k := km) (q := pq) (p := x) ?_ ?_; (on_goal 1 => dsimp -zeta only [x]); (on_goal 2 => clear_value x; intro _))
    | ((try lift_lets -underBinder); intro x; refine Keep.memSt (x := x) ?_; subst x)
    | ((try lift_lets -underBinder); intro x; refine Keep.depSt (x := x) ?_; subst x)
    | ((try lift_lets -underBinder); intro x; clear_value x)
    | (intro _)
    | with_reducible apply State.setEntry_good
    | with_reducible apply State.showBoard_good
    | with_reducible apply State.count_good
    | with_reducible apply State.ev_good

theorem State.launch_good (out : km.part .out) (dep : km.part .dep)
    (hDEP_DEP_STAT_ARMED : km.fld R.DEP.DEP_STAT.ARMED) (hDEP_DEP_STAT_NEXT_IDX : km.fld R.DEP.DEP_STAT.NEXT_IDX)
    (hDEP_ENT_STATUS_STATE : km.fld R.DEP.ENT_STATUS.STATE) (hDEP_LATE_CNT_LATE : km.fld R.DEP.LATE_CNT.LATE)
    (hDEP_MISSED_CNT_MISSED : km.fld R.DEP.MISSED_CNT.MISSED) (hPG_EVT_PEND : ∀ a, km.fld (R.PG.EVT_PEND a))
    (s : State) (i action : Nat) (late : Bool) (f : Entry → State → State) (hs : s.Keeps km pq)
    (hf : ∀ e s, s.Keeps km pq → (f e s).Keeps km pq) : (State.launch s i action late f).Keeps km pq := by
  unfold State.launch
  repeat' first
    | with_reducible assumption
    | with_reducible exact hPG_EVT_PEND _
    | (intro _)
    | with_reducible apply Keep.ite
    | with_reducible apply State.miss_good
    | with_reducible apply State.fire_good
    | with_reducible apply hf

theorem State.refusedLaunch_good (out : km.part .out) (hDEP_ENT_STATUS_RESULT : km.fld R.DEP.ENT_STATUS.RESULT)
    (hDEP_MODE_CHECK_REJECT_RULE : km.fld R.DEP.MODE_CHECK.REJECT_RULE)
    (hPG_EVT_PEND : ∀ a, km.fld (R.PG.EVT_PEND a)) (s : State) (rule : Nat) (hs : s.Keeps km pq) : (State.refusedLaunch s rule).Keeps km pq := by
  unfold State.refusedLaunch
  repeat' first
    | with_reducible assumption
    | with_reducible exact hPG_EVT_PEND _
    | (intro _)
    | with_reducible apply State.set_good
    | with_reducible apply State.modeReject_good

theorem State.refuseOwn_good (out : km.part .out) (hCOR_BANK_STAT_REFUSE : km.fld R.COR.BANK_STAT.REFUSE)
    (hPG_COMMIT : ∀ a, km.fld (R.PG.COMMIT a)) (hPG_COMMIT_PENDING : ∀ a, km.fld (R.PG.COMMIT_PENDING a))
    (hPG_ERR_ADDR_HI : ∀ a, km.fld (R.PG.ERR_ADDR_HI a)) (hPG_ERR_ADDR_LO : ∀ a, km.fld (R.PG.ERR_ADDR_LO a))
    (hPG_ERR_CODE : ∀ a, km.fld (R.PG.ERR_CODE a)) (hPG_ERR_COUNT : ∀ a, km.fld (R.PG.ERR_COUNT a))
    (hPG_ERR_OVERFLOW : ∀ a, km.fld (R.PG.ERR_OVERFLOW a)) (hPG_ERR_SOURCE : ∀ a, km.fld (R.PG.ERR_SOURCE a))
    (hPG_ERR_VALID : ∀ a, km.fld (R.PG.ERR_VALID a)) (hPG_EVT_PEND : ∀ a, km.fld (R.PG.EVT_PEND a)) (s : State)
    (b : Nat) (x : Nat × Nat × Nat) (hs : s.Keeps km pq) : (State.refuseOwn s b x).Keeps km pq := by
  unfold State.refuseOwn
  repeat' first
    | with_reducible assumption
    | with_reducible exact hPG_COMMIT _
    | with_reducible exact hPG_COMMIT_PENDING _
    | with_reducible exact hPG_ERR_ADDR_HI _
    | with_reducible exact hPG_ERR_ADDR_LO _
    | with_reducible exact hPG_ERR_CODE _
    | with_reducible exact hPG_ERR_COUNT _
    | with_reducible exact hPG_ERR_OVERFLOW _
    | with_reducible exact hPG_ERR_SOURCE _
    | with_reducible exact hPG_ERR_VALID _
    | with_reducible exact hPG_EVT_PEND _
    | ((try lift_lets -underBinder); intro x; refine Keep.use (k := km) (q := pq) (s := x) ?_ ?_; (on_goal 1 => dsimp -zeta only [x]); (on_goal 2 => clear_value x; intro _))
    | ((try lift_lets -underBinder); intro x; refine Keep.usePair (k := km) (q := pq) (p := x) ?_ ?_; (on_goal 1 => dsimp -zeta only [x]); (on_goal 2 => clear_value x; intro _))
    | ((try lift_lets -underBinder); intro x; refine Keep.memSt (x := x) ?_; subst x)
    | ((try lift_lets -underBinder); intro x; refine Keep.depSt (x := x) ?_; subst x)
    | ((try lift_lets -underBinder); intro x; clear_value x)
    | (intro _)
    | with_reducible apply Keep.ite
    | with_reducible apply State.set_good
    | with_reducible apply State.commitEnd_good
    | with_reducible apply State.ev_good
    | with_reducible apply State.err_good

theorem State.noteGroup_good (rdn : km.part .rdn) (s : State) (b : Nat) (hs : s.Keeps km pq) : (State.noteGroup s b).Keeps km pq := by
  unfold State.noteGroup
  repeat' first
    | with_reducible assumption
    | ((try lift_lets -underBinder); intro x; refine Keep.use (k := km) (q := pq) (s := x) ?_ ?_; (on_goal 1 => dsimp -zeta only [x]); (on_goal 2 => clear_value x; intro _))
    | ((try lift_lets -underBinder); intro x; refine Keep.usePair (k := km) (q := pq) (p := x) ?_ ?_; (on_goal 1 => dsimp -zeta only [x]); (on_goal 2 => clear_value x; intro _))
    | ((try lift_lets -underBinder); intro x; refine Keep.memSt (x := x) ?_; subst x)
    | ((try lift_lets -underBinder); intro x; refine Keep.depSt (x := x) ?_; subst x)
    | ((try lift_lets -underBinder); intro x; clear_value x)
    | (intro _)
    | with_reducible apply Keep.ite
    | (simp -zeta only [Keep.mk_iff]; with_reducible refine Keep.upd ?_ rfl ?_; on_goal 2 => (and_intros <;> with_reducible first | exact .inl rfl | exact .inl ⟨rfl, rfl, rfl⟩ | exact .inr ‹_› | exact Nat.le_refl _ | exact Nat.le_add_right _ _))

theorem State.commitPage_good (force : km.part .force) (out : km.part .out) (tim : km.part .tim) (map : km.part .map)
    (cmp : km.part .cmp) (mem : km.part .mem) (dram : km.part .dram) (scn : km.part .scn) (cor : km.part .cor)
    (rai : km.part .rai) (lfm : km.part .lfm) (line : km.part .line) (rdn : km.part .rdn) (any : ∀ f, km.fld f)
    (s : State) (b : Nat) (hs : s.Keeps km pq) : (State.commitPage s b).Keeps km pq := by
  unfold State.commitPage
  repeat' first
    | with_reducible assumption
    | (with_reducible (intros; exact any _))
    | ((try lift_lets -underBinder); intro x; refine Keep.use (k := km) (q := pq) (s := x) ?_ ?_; (on_goal 1 => dsimp -zeta only [x]); (on_goal 2 => clear_value x; intro _))
    | ((try lift_lets -underBinder); intro x; refine Keep.usePair (k := km) (q := pq) (p := x) ?_ ?_; (on_goal 1 => dsimp -zeta only [x]); (on_goal 2 => clear_value x; intro _))
    | ((try lift_lets -underBinder); intro x; refine Keep.memSt (x := x) ?_; subst x)
    | ((try lift_lets -underBinder); intro x; refine Keep.depSt (x := x) ?_; subst x)
    | ((try lift_lets -underBinder); intro x; clear_value x)
    | (intro _)
    | with_reducible apply Keep.ite
    | with_reducible apply State.noteGroup_good
    | with_reducible apply State.exchangeCards_good
    | with_reducible apply State.commitDone_good
    | with_reducible apply State.exchangeSpire_good
    | with_reducible apply State.corSwap_good
    | with_reducible apply State.exchangeTt_good
    | with_reducible apply State.showZones_good
    | with_reducible apply State.raiCommitted_good
    | with_reducible apply State.evalZones_good
    | with_reducible apply State.showFading_good

theorem State.commitSingle_good (force : km.part .force) (out : km.part .out) (tim : km.part .tim)
    (map : km.part .map) (cmp : km.part .cmp) (mem : km.part .mem) (dram : km.part .dram) (scn : km.part .scn)
    (cor : km.part .cor) (rai : km.part .rai) (lfm : km.part .lfm) (line : km.part .line) (rdn : km.part .rdn)
    (any : ∀ f, km.fld f) (s : State) (b : Nat) (hs : s.Keeps km pq) : (State.commitSingle s b).Keeps km pq := by
  unfold State.commitSingle
  repeat' first
    | with_reducible assumption
    | (with_reducible (intros; exact any _))
    | ((try lift_lets -underBinder); intro x; refine Keep.use (k := km) (q := pq) (s := x) ?_ ?_; (on_goal 1 => dsimp -zeta only [x]); (on_goal 2 => clear_value x; intro _))
    | ((try lift_lets -underBinder); intro x; refine Keep.usePair (k := km) (q := pq) (p := x) ?_ ?_; (on_goal 1 => dsimp -zeta only [x]); (on_goal 2 => clear_value x; intro _))
    | ((try lift_lets -underBinder); intro x; refine Keep.memSt (x := x) ?_; subst x)
    | ((try lift_lets -underBinder); intro x; refine Keep.depSt (x := x) ?_; subst x)
    | ((try lift_lets -underBinder); intro x; clear_value x)
    | (intro _)
    | with_reducible apply State.refuseOwn_good
    | with_reducible apply State.commitPage_good
    | split

theorem State.applyMode_good (out : km.part .out) (ing : km.part .ing) (line : km.part .line) (rdn : km.part .rdn)
    (hDEP_MODE_CTRL_LAST_CAUSE : km.fld R.DEP.MODE_CTRL.LAST_CAUSE)
    (hDEP_MODE_CUR_CODING_A : km.fld R.DEP.MODE_CUR.CODING_A)
    (hDEP_MODE_CUR_CODING_B : km.fld R.DEP.MODE_CUR.CODING_B) (hDEP_MODE_CUR_EMIT : km.fld R.DEP.MODE_CUR.EMIT)
    (hDEP_MODE_CUR_REDUN : km.fld R.DEP.MODE_CUR.REDUN) (hDEP_MODE_CUR_SCAN : km.fld R.DEP.MODE_CUR.SCAN)
    (hDEP_MODE_CUR_SINK : km.fld R.DEP.MODE_CUR.SINK) (hDEP_MODE_CUR_TIMING : km.fld R.DEP.MODE_CUR.TIMING)
    (hDEP_MODE_CUR_VIEWS : km.fld R.DEP.MODE_CUR.VIEWS) (hING_FOLLOW_VALID : km.fld R.ING.FOLLOW.VALID)
    (hPG_ERR_ADDR_HI : ∀ a, km.fld (R.PG.ERR_ADDR_HI a)) (hPG_ERR_ADDR_LO : ∀ a, km.fld (R.PG.ERR_ADDR_LO a))
    (hPG_ERR_CODE : ∀ a, km.fld (R.PG.ERR_CODE a)) (hPG_ERR_COUNT : ∀ a, km.fld (R.PG.ERR_COUNT a))
    (hPG_ERR_OVERFLOW : ∀ a, km.fld (R.PG.ERR_OVERFLOW a)) (hPG_ERR_SOURCE : ∀ a, km.fld (R.PG.ERR_SOURCE a))
    (hPG_ERR_VALID : ∀ a, km.fld (R.PG.ERR_VALID a)) (hPG_EVT_PEND : ∀ a, km.fld (R.PG.EVT_PEND a))
    (hRDN_RDN_STAT_STATE : km.fld R.RDN.RDN_STAT.STATE) (s : State) (m : ModeW) (cause : Nat) (hs : s.Keeps km pq) : (State.applyMode s m cause).Keeps km pq := by
  unfold State.applyMode
  repeat' first
    | with_reducible assumption
    | with_reducible exact hPG_ERR_ADDR_HI _
    | with_reducible exact hPG_ERR_ADDR_LO _
    | with_reducible exact hPG_ERR_CODE _
    | with_reducible exact hPG_ERR_COUNT _
    | with_reducible exact hPG_ERR_OVERFLOW _
    | with_reducible exact hPG_ERR_SOURCE _
    | with_reducible exact hPG_ERR_VALID _
    | with_reducible exact hPG_EVT_PEND _
    | ((try lift_lets -underBinder); intro x; refine Keep.use (k := km) (q := pq) (s := x) ?_ ?_; (on_goal 1 => dsimp -zeta only [x]); (on_goal 2 => clear_value x; intro _))
    | ((try lift_lets -underBinder); intro x; refine Keep.usePair (k := km) (q := pq) (p := x) ?_ ?_; (on_goal 1 => dsimp -zeta only [x]); (on_goal 2 => clear_value x; intro _))
    | ((try lift_lets -underBinder); intro x; refine Keep.memSt (x := x) ?_; subst x)
    | ((try lift_lets -underBinder); intro x; refine Keep.depSt (x := x) ?_; subst x)
    | ((try lift_lets -underBinder); intro x; clear_value x)
    | (intro _)
    | with_reducible apply Keep.ite
    | with_reducible apply State.modeChange_good
    | with_reducible apply State.followEval_good
    | with_reducible apply State.redunChanged_good

theorem State.noPeer_good (tim : km.part .tim) (s : State) (hs : s.Keeps km pq) : (State.noPeer s).Keeps km pq := by
  unfold State.noPeer
  repeat' first
    | with_reducible assumption
    | ((try lift_lets -underBinder); intro x; refine Keep.use (k := km) (q := pq) (s := x) ?_ ?_; (on_goal 1 => dsimp -zeta only [x]); (on_goal 2 => clear_value x; intro _))
    | ((try lift_lets -underBinder); intro x; refine Keep.usePair (k := km) (q := pq) (p := x) ?_ ?_; (on_goal 1 => dsimp -zeta only [x]); (on_goal 2 => clear_value x; intro _))
    | ((try lift_lets -underBinder); intro x; refine Keep.memSt (x := x) ?_; subst x)
    | ((try lift_lets -underBinder); intro x; refine Keep.depSt (x := x) ?_; subst x)
    | ((try lift_lets -underBinder); intro x; clear_value x)
    | (intro _)
    | (simp -zeta only [Keep.mk_iff]; with_reducible refine Keep.upd ?_ rfl ?_; on_goal 2 => (and_intros <;> with_reducible first | exact .inl rfl | exact .inl ⟨rfl, rfl, rfl⟩ | exact .inr ‹_› | exact Nat.le_refl _ | exact Nat.le_add_right _ _))

theorem State.refuseAll_good (out : km.part .out) (hPG_COMMIT : ∀ a, km.fld (R.PG.COMMIT a))
    (hPG_COMMIT_PENDING : ∀ a, km.fld (R.PG.COMMIT_PENDING a)) (hPG_ERR_ADDR_HI : ∀ a, km.fld (R.PG.ERR_ADDR_HI a))
    (hPG_ERR_ADDR_LO : ∀ a, km.fld (R.PG.ERR_ADDR_LO a)) (hPG_ERR_CODE : ∀ a, km.fld (R.PG.ERR_CODE a))
    (hPG_ERR_COUNT : ∀ a, km.fld (R.PG.ERR_COUNT a)) (hPG_ERR_OVERFLOW : ∀ a, km.fld (R.PG.ERR_OVERFLOW a))
    (hPG_ERR_SOURCE : ∀ a, km.fld (R.PG.ERR_SOURCE a)) (hPG_ERR_VALID : ∀ a, km.fld (R.PG.ERR_VALID a))
    (hPG_EVT_PEND : ∀ a, km.fld (R.PG.EVT_PEND a)) (s : State) (l : List Nat) (hs : s.Keeps km pq) : (State.refuseAll s l).Keeps km pq := by
  unfold State.refuseAll
  repeat' first
    | with_reducible assumption
    | with_reducible exact hPG_COMMIT _
    | with_reducible exact hPG_COMMIT_PENDING _
    | with_reducible exact hPG_ERR_ADDR_HI _
    | with_reducible exact hPG_ERR_ADDR_LO _
    | with_reducible exact hPG_ERR_CODE _
    | with_reducible exact hPG_ERR_COUNT _
    | with_reducible exact hPG_ERR_OVERFLOW _
    | with_reducible exact hPG_ERR_SOURCE _
    | with_reducible exact hPG_ERR_VALID _
    | with_reducible exact hPG_EVT_PEND _
    | (intro _)
    | with_reducible apply State.commitRefused_good
    | with_reducible apply Keep.foldl

theorem State.ownRefuse_good (out : km.part .out) (hCOR_BANK_STAT_REFUSE : km.fld R.COR.BANK_STAT.REFUSE)
    (hPG_COMMIT : ∀ a, km.fld (R.PG.COMMIT a)) (hPG_COMMIT_PENDING : ∀ a, km.fld (R.PG.COMMIT_PENDING a))
    (hPG_ERR_ADDR_HI : ∀ a, km.fld (R.PG.ERR_ADDR_HI a)) (hPG_ERR_ADDR_LO : ∀ a, km.fld (R.PG.ERR_ADDR_LO a))
    (hPG_ERR_CODE : ∀ a, km.fld (R.PG.ERR_CODE a)) (hPG_ERR_COUNT : ∀ a, km.fld (R.PG.ERR_COUNT a))
    (hPG_ERR_OVERFLOW : ∀ a, km.fld (R.PG.ERR_OVERFLOW a)) (hPG_ERR_SOURCE : ∀ a, km.fld (R.PG.ERR_SOURCE a))
    (hPG_ERR_VALID : ∀ a, km.fld (R.PG.ERR_VALID a)) (hPG_EVT_PEND : ∀ a, km.fld (R.PG.EVT_PEND a)) (s : State)
    (layout : Bool) (l : List Nat) (hs : s.Keeps km pq) : (State.ownRefuse s layout l).Keeps km pq := by
  unfold State.ownRefuse
  repeat' first
    | with_reducible assumption
    | with_reducible exact hPG_COMMIT _
    | with_reducible exact hPG_COMMIT_PENDING _
    | with_reducible exact hPG_ERR_ADDR_HI _
    | with_reducible exact hPG_ERR_ADDR_LO _
    | with_reducible exact hPG_ERR_CODE _
    | with_reducible exact hPG_ERR_COUNT _
    | with_reducible exact hPG_ERR_OVERFLOW _
    | with_reducible exact hPG_ERR_SOURCE _
    | with_reducible exact hPG_ERR_VALID _
    | with_reducible exact hPG_EVT_PEND _
    | ((try lift_lets -underBinder); intro x; refine Keep.use (k := km) (q := pq) (s := x) ?_ ?_; (on_goal 1 => dsimp -zeta only [x]); (on_goal 2 => clear_value x; intro _))
    | ((try lift_lets -underBinder); intro x; refine Keep.usePair (k := km) (q := pq) (p := x) ?_ ?_; (on_goal 1 => dsimp -zeta only [x]); (on_goal 2 => clear_value x; intro _))
    | ((try lift_lets -underBinder); intro x; refine Keep.memSt (x := x) ?_; subst x)
    | ((try lift_lets -underBinder); intro x; refine Keep.depSt (x := x) ?_; subst x)
    | ((try lift_lets -underBinder); intro x; clear_value x)
    | (intro _)
    | with_reducible apply State.refuseOwn_good
    | split
    | (simp -zeta only [Keep.mk_iff]; with_reducible refine Keep.upd ?_ rfl ?_; on_goal 2 => (and_intros <;> with_reducible first | exact .inl rfl | exact .inl ⟨rfl, rfl, rfl⟩ | exact .inr ‹_› | exact Nat.le_refl _ | exact Nat.le_add_right _ _))
    | with_reducible apply Keep.foldl

theorem State.sendChanged_good (out : km.part .out) (tim : km.part .tim) (line : km.part .line) (s : State)
    (was : ModeW × Nat) (hs : s.Keeps km pq) : (State.sendChanged s was).Keeps km pq := by
  unfold State.sendChanged
  repeat' first
    | with_reducible assumption
    | (intro _)
    | with_reducible apply Keep.ite
    | with_reducible apply State.sendScheds_good

theorem State.policies_good (out : km.part .out) (tim : km.part .tim) (dep : km.part .dep) (line : km.part .line)
    (hDEP_MODE_CHECK_DEP_PENDING : km.fld R.DEP.MODE_CHECK.DEP_PENDING)
    (hDEP_MODE_CHECK_EPOCH_PENDING : km.fld R.DEP.MODE_CHECK.EPOCH_PENDING)
    (hDEP_MODE_CHECK_FIELDS : km.fld R.DEP.MODE_CHECK.FIELDS) (hDEP_MODE_CHECK_RULE : km.fld R.DEP.MODE_CHECK.RULE)
    (hDEP_MODE_CHECK_VALID : km.fld R.DEP.MODE_CHECK.VALID)
    (hDEP_MODE_CTRL_FB_VALID : km.fld R.DEP.MODE_CTRL.FB_VALID)
    (hDEP_MODE_CTRL_LAST_CAUSE : km.fld R.DEP.MODE_CTRL.LAST_CAUSE)
    (hDEP_MODE_CUR_CODING_A : km.fld R.DEP.MODE_CUR.CODING_A)
    (hDEP_MODE_CUR_CODING_B : km.fld R.DEP.MODE_CUR.CODING_B) (hDEP_MODE_CUR_EMIT : km.fld R.DEP.MODE_CUR.EMIT)
    (hDEP_MODE_CUR_REDUN : km.fld R.DEP.MODE_CUR.REDUN) (hDEP_MODE_CUR_SCAN : km.fld R.DEP.MODE_CUR.SCAN)
    (hDEP_MODE_CUR_SINK : km.fld R.DEP.MODE_CUR.SINK) (hDEP_MODE_CUR_TIMING : km.fld R.DEP.MODE_CUR.TIMING)
    (hDEP_MODE_CUR_VIEWS : km.fld R.DEP.MODE_CUR.VIEWS) (hDEP_MODE_NEXT_CODING_A : km.fld R.DEP.MODE_NEXT.CODING_A)
    (hDEP_MODE_NEXT_CODING_B : km.fld R.DEP.MODE_NEXT.CODING_B) (hDEP_MODE_NEXT_EMIT : km.fld R.DEP.MODE_NEXT.EMIT)
    (hDEP_MODE_NEXT_REDUN : km.fld R.DEP.MODE_NEXT.REDUN) (hDEP_MODE_NEXT_SCAN : km.fld R.DEP.MODE_NEXT.SCAN)
    (hDEP_MODE_NEXT_SINK : km.fld R.DEP.MODE_NEXT.SINK) (hDEP_MODE_NEXT_TIMING : km.fld R.DEP.MODE_NEXT.TIMING)
    (hDEP_MODE_NEXT_VIEWS : km.fld R.DEP.MODE_NEXT.VIEWS)
    (hLNK_LINE_STAT_BREAK : ∀ a, km.fld (R.LNK.LINE_STAT.BREAK a))
    (hLNK_LINE_STAT_LINE_WIDTH : ∀ a, km.fld (R.LNK.LINE_STAT.LINE_WIDTH a))
    (hLNK_LINE_STAT_NARROW_STOP : ∀ a, km.fld (R.LNK.LINE_STAT.NARROW_STOP a))
    (hPG_EVT_PEND : ∀ a, km.fld (R.PG.EVT_PEND a)) (s : State) (hs : s.Keeps km pq) : (State.policies s).Keeps km pq := by
  unfold State.policies
  repeat' first
    | with_reducible assumption
    | with_reducible exact hLNK_LINE_STAT_BREAK _
    | with_reducible exact hLNK_LINE_STAT_LINE_WIDTH _
    | with_reducible exact hLNK_LINE_STAT_NARROW_STOP _
    | with_reducible exact hPG_EVT_PEND _
    | (intro _)
    | with_reducible apply Keep.ite
    | with_reducible apply State.applyPolicy_good
    | with_reducible apply State.sendChanged_good

theorem State.showRule_good (hDEP_MODE_CHECK_FIELDS : km.fld R.DEP.MODE_CHECK.FIELDS)
    (hDEP_MODE_CHECK_RULE : km.fld R.DEP.MODE_CHECK.RULE) (hDEP_MODE_CHECK_VALID : km.fld R.DEP.MODE_CHECK.VALID)
    (s : State) (r : Nat × Nat) (hs : s.Keeps km pq) : (State.showRule s r).Keeps km pq := by
  unfold State.showRule
  repeat' first
    | with_reducible assumption
    | (intro _)
    | with_reducible apply State.set_good

theorem State.rejectOpen_good (out : km.part .out)
    (hDEP_MODE_CHECK_REJECT_RULE : km.fld R.DEP.MODE_CHECK.REJECT_RULE)
    (hPG_EVT_PEND : ∀ a, km.fld (R.PG.EVT_PEND a)) (s : State) (hs : s.Keeps km pq) : (State.rejectOpen s).Keeps km pq := by
  unfold State.rejectOpen
  repeat' first
    | with_reducible assumption
    | with_reducible exact hPG_EVT_PEND _
    | (intro _)
    | with_reducible apply State.modeReject_good
    | with_reducible apply State.draw_good

theorem State.commitJoint_good (force : km.part .force) (out : km.part .out) (tim : km.part .tim)
    (dep : km.part .dep) (ing : km.part .ing) (map : km.part .map) (cmp : km.part .cmp) (mem : km.part .mem)
    (dram : km.part .dram) (scn : km.part .scn) (cor : km.part .cor) (rai : km.part .rai) (lfm : km.part .lfm)
    (line : km.part .line) (rdn : km.part .rdn) (any : ∀ f, km.fld f) (s : State) (l : List Nat) (hs : s.Keeps km pq)
    : (State.commitJoint s l).Keeps km pq := by
  unfold State.commitJoint
  repeat' first
    | with_reducible assumption
    | (with_reducible (intros; exact any _))
    | ((try lift_lets -underBinder); intro x; refine Keep.use (k := km) (q := pq) (s := x) ?_ ?_; (on_goal 1 => dsimp -zeta only [x]); (on_goal 2 => clear_value x; intro _))
    | ((try lift_lets -underBinder); intro x; refine Keep.usePair (k := km) (q := pq) (p := x) ?_ ?_; (on_goal 1 => dsimp -zeta only [x]); (on_goal 2 => clear_value x; intro _))
    | ((try lift_lets -underBinder); intro x; refine Keep.memSt (x := x) ?_; subst x)
    | ((try lift_lets -underBinder); intro x; refine Keep.depSt (x := x) ?_; subst x)
    | ((try lift_lets -underBinder); intro x; clear_value x)
    | (intro _)
    | with_reducible apply Keep.ite
    | with_reducible apply State.ownRefuse_good
    | with_reducible apply State.capacityError_good
    | with_reducible apply State.filter_good
    | with_reducible apply State.commitPage_good
    | with_reducible apply State.refuseAll_good
    | with_reducible apply State.evaluate_good
    | with_reducible apply State.modeReject_good
    | with_reducible apply State.showRule_good
    | with_reducible apply State.rejectOpen_good
    | with_reducible apply State.applyMode_good
    | with_reducible apply State.policies_good
    | split
    | (simp -zeta only [Keep.mk_iff]; with_reducible refine Keep.upd ?_ rfl ?_; on_goal 2 => (and_intros <;> with_reducible first | exact .inl rfl | exact .inl ⟨rfl, rfl, rfl⟩ | exact .inr ‹_› | exact Nat.le_refl _ | exact Nat.le_add_right _ _))
    | with_reducible apply Keep.foldl

theorem State.commitGroups_good (force : km.part .force) (out : km.part .out) (tim : km.part .tim)
    (dep : km.part .dep) (ing : km.part .ing) (map : km.part .map) (cmp : km.part .cmp) (mem : km.part .mem)
    (dram : km.part .dram) (scn : km.part .scn) (cor : km.part .cor) (rai : km.part .rai) (lfm : km.part .lfm)
    (line : km.part .line) (rdn : km.part .rdn) (any : ∀ f, km.fld f) (s : State) (mask : Nat) (w : Int)
    (hs : s.Keeps km pq) : (State.commitGroups s mask w).Keeps km pq := by
  unfold State.commitGroups
  repeat' first
    | with_reducible assumption
    | (with_reducible (intros; exact any _))
    | ((try lift_lets -underBinder); intro x; refine Keep.use (k := km) (q := pq) (s := x) ?_ ?_; (on_goal 1 => dsimp -zeta only [x]); (on_goal 2 => clear_value x; intro _))
    | ((try lift_lets -underBinder); intro x; refine Keep.usePair (k := km) (q := pq) (p := x) ?_ ?_; (on_goal 1 => dsimp -zeta only [x]); (on_goal 2 => clear_value x; intro _))
    | ((try lift_lets -underBinder); intro x; refine Keep.memSt (x := x) ?_; subst x)
    | ((try lift_lets -underBinder); intro x; refine Keep.depSt (x := x) ?_; subst x)
    | ((try lift_lets -underBinder); intro x; clear_value x)
    | (intro _)
    | with_reducible apply Keep.ite
    | with_reducible apply State.filter_good
    | with_reducible apply State.commitSingle_good
    | with_reducible apply State.commitJoint_good
    | with_reducible apply Keep.foldl

theorem State.launchCommit_good (force : km.part .force) (out : km.part .out) (tim : km.part .tim)
    (dep : km.part .dep) (ing : km.part .ing) (map : km.part .map) (cmp : km.part .cmp) (mem : km.part .mem)
    (dram : km.part .dram) (scn : km.part .scn) (cor : km.part .cor) (rai : km.part .rai) (lfm : km.part .lfm)
    (line : km.part .line) (rdn : km.part .rdn) (any : ∀ f, km.fld f) (s : State) (e : Entry) (hs : s.Keeps km pq) : (State.launchCommit s e).Keeps km pq := by
  unfold State.launchCommit
  repeat' first
    | with_reducible assumption
    | (with_reducible (intros; exact any _))
    | (intro _)
    | with_reducible apply State.commitGroups_good

theorem State.lightOff_good (scn : km.part .scn) (hSCN_SCN_STAT_LOADING : km.fld R.SCN.SCN_STAT.LOADING) (s : State)
    (hs : s.Keeps km pq) : (State.lightOff s).Keeps km pq := by
  unfold State.lightOff
  repeat' first
    | with_reducible assumption
    | ((try lift_lets -underBinder); intro x; refine Keep.use (k := km) (q := pq) (s := x) ?_ ?_; (on_goal 1 => dsimp -zeta only [x]); (on_goal 2 => clear_value x; intro _))
    | ((try lift_lets -underBinder); intro x; refine Keep.usePair (k := km) (q := pq) (p := x) ?_ ?_; (on_goal 1 => dsimp -zeta only [x]); (on_goal 2 => clear_value x; intro _))
    | ((try lift_lets -underBinder); intro x; refine Keep.memSt (x := x) ?_; subst x)
    | ((try lift_lets -underBinder); intro x; refine Keep.depSt (x := x) ?_; subst x)
    | ((try lift_lets -underBinder); intro x; clear_value x)
    | (intro _)
    | with_reducible apply State.dropLoads_good
    | (simp -zeta only [Keep.mk_iff]; with_reducible refine Keep.upd ?_ rfl ?_; on_goal 2 => (and_intros <;> with_reducible first | exact .inl rfl | exact .inl ⟨rfl, rfl, rfl⟩ | exact .inr ‹_› | exact Nat.le_refl _ | exact Nat.le_add_right _ _))

theorem State.darkBegin_good (out : km.part .out) (scn : km.part .scn) (rai : km.part .rai)
    (hLFM_LFM_STAT_SUSPENDED : km.fld R.LFM.LFM_STAT.SUSPENDED) (hPG_EVT_PEND : ∀ a, km.fld (R.PG.EVT_PEND a))
    (hRCH_CH_CNT_REJECT : ∀ a, km.fld (R.RCH.CH_CNT.REJECT a)) (hRCH_CH_DMAX_CUR : ∀ a, km.fld (R.RCH.CH_DMAX.CUR a))
    (hRCH_CH_STAT_AT_TARGET : ∀ a, km.fld (R.RCH.CH_STAT.AT_TARGET a))
    (hRCH_CH_STAT_CLAMPED : ∀ a, km.fld (R.RCH.CH_STAT.CLAMPED a))
    (hRCH_CH_TARGET_FLOOR : ∀ a, km.fld (R.RCH.CH_TARGET.FLOOR a))
    (hRCH_CH_TARGET_NEXT : ∀ a, km.fld (R.RCH.CH_TARGET.NEXT a))
    (hSCN_SCN_STAT_LOADING : km.fld R.SCN.SCN_STAT.LOADING) (s : State) (hs : s.Keeps km pq) : (State.darkBegin s).Keeps km pq := by
  unfold State.darkBegin
  repeat' first
    | with_reducible assumption
    | with_reducible exact hPG_EVT_PEND _
    | with_reducible exact hRCH_CH_CNT_REJECT _
    | with_reducible exact hRCH_CH_DMAX_CUR _
    | with_reducible exact hRCH_CH_STAT_AT_TARGET _
    | with_reducible exact hRCH_CH_STAT_CLAMPED _
    | with_reducible exact hRCH_CH_TARGET_FLOOR _
    | with_reducible exact hRCH_CH_TARGET_NEXT _
    | (intro _)
    | with_reducible apply Keep.ite
    | with_reducible apply State.lightOff_good
    | with_reducible apply State.raiShows_good
    | with_reducible apply State.set_good
    | with_reducible apply State.ev_good

theorem State.darkFinish_good (out : km.part .out) (dep : km.part .dep)
    (hLFM_LFM_STAT_SUSPENDED : km.fld R.LFM.LFM_STAT.SUSPENDED) (hPG_EVT_PEND : ∀ a, km.fld (R.PG.EVT_PEND a))
    (s : State) (hs : s.Keeps km pq) : (State.darkFinish s).Keeps km pq := by
  unfold State.darkFinish
  repeat' first
    | with_reducible assumption
    | with_reducible exact hPG_EVT_PEND _
    | ((try lift_lets -underBinder); intro x; refine Keep.use (k := km) (q := pq) (s := x) ?_ ?_; (on_goal 1 => dsimp -zeta only [x]); (on_goal 2 => clear_value x; intro _))
    | ((try lift_lets -underBinder); intro x; refine Keep.usePair (k := km) (q := pq) (p := x) ?_ ?_; (on_goal 1 => dsimp -zeta only [x]); (on_goal 2 => clear_value x; intro _))
    | ((try lift_lets -underBinder); intro x; refine Keep.memSt (x := x) ?_; subst x)
    | ((try lift_lets -underBinder); intro x; refine Keep.depSt (x := x) ?_; subst x)
    | ((try lift_lets -underBinder); intro x; clear_value x)
    | (intro _)
    | with_reducible apply Keep.ite
    | with_reducible apply State.set_good
    | with_reducible apply State.ev_good
    | (simp -zeta only [Keep.mk_iff]; with_reducible refine Keep.upd ?_ rfl ?_; on_goal 2 => (and_intros <;> with_reducible first | exact .inl rfl | exact .inl ⟨rfl, rfl, rfl⟩ | exact .inr ‹_› | exact Nat.le_refl _ | exact Nat.le_add_right _ _))

theorem State.darkStart_good (out : km.part .out) (dep : km.part .dep) (scn : km.part .scn) (rai : km.part .rai)
    (hLFM_LFM_STAT_SUSPENDED : km.fld R.LFM.LFM_STAT.SUSPENDED) (hPG_EVT_PEND : ∀ a, km.fld (R.PG.EVT_PEND a))
    (hRCH_CH_CNT_REJECT : ∀ a, km.fld (R.RCH.CH_CNT.REJECT a)) (hRCH_CH_DMAX_CUR : ∀ a, km.fld (R.RCH.CH_DMAX.CUR a))
    (hRCH_CH_STAT_AT_TARGET : ∀ a, km.fld (R.RCH.CH_STAT.AT_TARGET a))
    (hRCH_CH_STAT_CLAMPED : ∀ a, km.fld (R.RCH.CH_STAT.CLAMPED a))
    (hRCH_CH_TARGET_FLOOR : ∀ a, km.fld (R.RCH.CH_TARGET.FLOOR a))
    (hRCH_CH_TARGET_NEXT : ∀ a, km.fld (R.RCH.CH_TARGET.NEXT a))
    (hSCN_SCN_STAT_LOADING : km.fld R.SCN.SCN_STAT.LOADING) (s : State) (n : Nat) (hs : s.Keeps km pq) : (State.darkStart s n).Keeps km pq := by
  unfold State.darkStart
  repeat' first
    | with_reducible assumption
    | with_reducible exact hPG_EVT_PEND _
    | with_reducible exact hRCH_CH_CNT_REJECT _
    | with_reducible exact hRCH_CH_DMAX_CUR _
    | with_reducible exact hRCH_CH_STAT_AT_TARGET _
    | with_reducible exact hRCH_CH_STAT_CLAMPED _
    | with_reducible exact hRCH_CH_TARGET_FLOOR _
    | with_reducible exact hRCH_CH_TARGET_NEXT _
    | ((try lift_lets -underBinder); intro x; refine Keep.use (k := km) (q := pq) (s := x) ?_ ?_; (on_goal 1 => dsimp -zeta only [x]); (on_goal 2 => clear_value x; intro _))
    | ((try lift_lets -underBinder); intro x; refine Keep.usePair (k := km) (q := pq) (p := x) ?_ ?_; (on_goal 1 => dsimp -zeta only [x]); (on_goal 2 => clear_value x; intro _))
    | ((try lift_lets -underBinder); intro x; refine Keep.memSt (x := x) ?_; subst x)
    | ((try lift_lets -underBinder); intro x; refine Keep.depSt (x := x) ?_; subst x)
    | ((try lift_lets -underBinder); intro x; clear_value x)
    | (intro _)
    | with_reducible apply Keep.ite
    | with_reducible apply State.darkBegin_good
    | (simp -zeta only [Keep.mk_iff]; with_reducible refine Keep.upd ?_ rfl ?_; on_goal 2 => (and_intros <;> with_reducible first | exact .inl rfl | exact .inl ⟨rfl, rfl, rfl⟩ | exact .inr ‹_› | exact Nat.le_refl _ | exact Nat.le_add_right _ _))

theorem State.setEpoch_good (dep : km.part .dep) (hCLU_EPOCH_CUR_EPOCH : km.fld R.CLU.EPOCH_CUR.EPOCH) (s : State)
    (n : Nat) (hs : s.Keeps km pq) : (State.setEpoch s n).Keeps km pq := by
  unfold State.setEpoch
  repeat' first
    | with_reducible assumption
    | ((try lift_lets -underBinder); intro x; refine Keep.use (k := km) (q := pq) (s := x) ?_ ?_; (on_goal 1 => dsimp -zeta only [x]); (on_goal 2 => clear_value x; intro _))
    | ((try lift_lets -underBinder); intro x; refine Keep.usePair (k := km) (q := pq) (p := x) ?_ ?_; (on_goal 1 => dsimp -zeta only [x]); (on_goal 2 => clear_value x; intro _))
    | ((try lift_lets -underBinder); intro x; refine Keep.memSt (x := x) ?_; subst x)
    | ((try lift_lets -underBinder); intro x; refine Keep.depSt (x := x) ?_; subst x)
    | ((try lift_lets -underBinder); intro x; clear_value x)
    | (intro _)
    | with_reducible apply Keep.ite
    | with_reducible apply State.set_good
    | (simp -zeta only [Keep.mk_iff]; with_reducible refine Keep.upd ?_ rfl ?_; on_goal 2 => (and_intros <;> with_reducible first | exact .inl rfl | exact .inl ⟨rfl, rfl, rfl⟩ | exact .inr ‹_› | exact Nat.le_refl _ | exact Nat.le_add_right _ _))

theorem State.flipApply_good (force : km.part .force) (out : km.part .out) (tim : km.part .tim) (dep : km.part .dep)
    (ing : km.part .ing) (map : km.part .map) (cmp : km.part .cmp) (mem : km.part .mem) (dram : km.part .dram)
    (scn : km.part .scn) (cor : km.part .cor) (rai : km.part .rai) (lfm : km.part .lfm) (line : km.part .line)
    (rdn : km.part .rdn) (any : ∀ f, km.fld f) (s : State) (e : Entry) (n : Nat) (word : ModeW) (ok : List Nat)
    (hs : s.Keeps km pq) : (State.flipApply s e n word ok).Keeps km pq := by
  unfold State.flipApply
  repeat' first
    | with_reducible assumption
    | (with_reducible (intros; exact any _))
    | ((try lift_lets -underBinder); intro x; refine Keep.use (k := km) (q := pq) (s := x) ?_ ?_; (on_goal 1 => dsimp -zeta only [x]); (on_goal 2 => clear_value x; intro _))
    | ((try lift_lets -underBinder); intro x; refine Keep.usePair (k := km) (q := pq) (p := x) ?_ ?_; (on_goal 1 => dsimp -zeta only [x]); (on_goal 2 => clear_value x; intro _))
    | ((try lift_lets -underBinder); intro x; refine Keep.memSt (x := x) ?_; subst x)
    | ((try lift_lets -underBinder); intro x; refine Keep.depSt (x := x) ?_; subst x)
    | ((try lift_lets -underBinder); intro x; clear_value x)
    | (intro _)
    | with_reducible apply Keep.ite
    | with_reducible apply State.set_good
    | with_reducible apply State.applyMode_good
    | with_reducible apply State.commitPage_good
    | with_reducible apply State.setEpoch_good
    | with_reducible apply State.evaluate_good
    | with_reducible apply State.takeSched_good
    | with_reducible apply State.policies_good
    | with_reducible apply State.newPlanes_good
    | with_reducible apply State.showTimetable_good
    | split
    | (simp -zeta only [Keep.mk_iff]; with_reducible refine Keep.upd ?_ rfl ?_; on_goal 2 => (and_intros <;> with_reducible first | exact .inl rfl | exact .inl ⟨rfl, rfl, rfl⟩ | exact .inr ‹_› | exact Nat.le_refl _ | exact Nat.le_add_right _ _))
    | with_reducible apply Keep.foldl

theorem State.flipAnswer_good (force : km.part .force) (out : km.part .out) (tim : km.part .tim) (dep : km.part .dep)
    (ing : km.part .ing) (map : km.part .map) (cmp : km.part .cmp) (mem : km.part .mem) (dram : km.part .dram)
    (scn : km.part .scn) (cor : km.part .cor) (rai : km.part .rai) (lfm : km.part .lfm) (line : km.part .line)
    (rdn : km.part .rdn) (any : ∀ f, km.fld f) (s : State) (e : Entry) (n : Nat) (word : ModeW) (ok : List Nat)
    (mapBad : Bool) (fail : Option (Nat × Nat)) (hs : s.Keeps km pq) : (State.flipAnswer s e n word ok mapBad fail).Keeps km pq := by
  unfold State.flipAnswer
  repeat' first
    | with_reducible assumption
    | (with_reducible (intros; exact any _))
    | ((try lift_lets -underBinder); intro x; refine Keep.use (k := km) (q := pq) (s := x) ?_ ?_; (on_goal 1 => dsimp -zeta only [x]); (on_goal 2 => clear_value x; intro _))
    | ((try lift_lets -underBinder); intro x; refine Keep.usePair (k := km) (q := pq) (p := x) ?_ ?_; (on_goal 1 => dsimp -zeta only [x]); (on_goal 2 => clear_value x; intro _))
    | ((try lift_lets -underBinder); intro x; refine Keep.memSt (x := x) ?_; subst x)
    | ((try lift_lets -underBinder); intro x; refine Keep.depSt (x := x) ?_; subst x)
    | ((try lift_lets -underBinder); intro x; clear_value x)
    | (intro _)
    | with_reducible apply Keep.ite
    | with_reducible apply State.capacityError_good
    | with_reducible apply State.refuseAll_good
    | with_reducible apply State.evaluate_good
    | with_reducible apply State.modeReject_good
    | with_reducible apply State.darkStart_good
    | with_reducible apply State.rejectOpen_good
    | with_reducible apply State.flipApply_good
    | split
    | (simp -zeta only [Keep.mk_iff]; with_reducible refine Keep.upd ?_ rfl ?_; on_goal 2 => (and_intros <;> with_reducible first | exact .inl rfl | exact .inl ⟨rfl, rfl, rfl⟩ | exact .inr ‹_› | exact Nat.le_refl _ | exact Nat.le_add_right _ _))

theorem State.flip_good (force : km.part .force) (out : km.part .out) (tim : km.part .tim) (dep : km.part .dep)
    (ing : km.part .ing) (map : km.part .map) (cmp : km.part .cmp) (mem : km.part .mem) (dram : km.part .dram)
    (scn : km.part .scn) (cor : km.part .cor) (rai : km.part .rai) (lfm : km.part .lfm) (line : km.part .line)
    (rdn : km.part .rdn) (any : ∀ f, km.fld f) (s : State) (e : Entry) (n : Nat) (hs : s.Keeps km pq) : (State.flip s e n).Keeps km pq := by
  unfold State.flip
  repeat' first
    | with_reducible assumption
    | (with_reducible (intros; exact any _))
    | ((try lift_lets -underBinder); intro x; refine Keep.use (k := km) (q := pq) (s := x) ?_ ?_; (on_goal 1 => dsimp -zeta only [x]); (on_goal 2 => clear_value x; intro _))
    | ((try lift_lets -underBinder); intro x; refine Keep.usePair (k := km) (q := pq) (p := x) ?_ ?_; (on_goal 1 => dsimp -zeta only [x]); (on_goal 2 => clear_value x; intro _))
    | ((try lift_lets -underBinder); intro x; refine Keep.memSt (x := x) ?_; subst x)
    | ((try lift_lets -underBinder); intro x; refine Keep.depSt (x := x) ?_; subst x)
    | ((try lift_lets -underBinder); intro x; clear_value x)
    | (intro _)
    | with_reducible apply Keep.ite
    | with_reducible apply State.filter_good
    | with_reducible apply State.capacityError_good
    | with_reducible apply State.ownRefuse_good
    | with_reducible apply State.flipAnswer_good

theorem State.runScan_good (force : km.part .force) (out : km.part .out) (tim : km.part .tim) (dep : km.part .dep)
    (ing : km.part .ing) (map : km.part .map) (cmp : km.part .cmp) (mem : km.part .mem) (dram : km.part .dram)
    (scn : km.part .scn) (cor : km.part .cor) (rai : km.part .rai) (lfm : km.part .lfm) (line : km.part .line)
    (rdn : km.part .rdn) (any : ∀ f, km.fld f) (s : State) (hs : s.Keeps km pq) : (State.runScan s).Keeps km pq := by
  unfold State.runScan
  repeat' first
    | with_reducible assumption
    | (with_reducible (intros; exact any _))
    | ((try lift_lets -underBinder); intro x; refine Keep.use (k := km) (q := pq) (s := x) ?_ ?_; (on_goal 1 => dsimp -zeta only [x]); (on_goal 2 => clear_value x; intro _))
    | ((try lift_lets -underBinder); intro x; refine Keep.usePair (k := km) (q := pq) (p := x) ?_ ?_; (on_goal 1 => dsimp -zeta only [x]); (on_goal 2 => clear_value x; intro _))
    | ((try lift_lets -underBinder); intro x; refine Keep.memSt (x := x) ?_; subst x)
    | ((try lift_lets -underBinder); intro x; refine Keep.depSt (x := x) ?_; subst x)
    | ((try lift_lets -underBinder); intro x; clear_value x)
    | (intro _)
    | with_reducible apply Keep.ite
    | with_reducible apply State.takeCap_good
    | with_reducible apply State.subframe_good
    | (simp -zeta only [Keep.mk_iff]; with_reducible refine Keep.upd ?_ rfl ?_; on_goal 2 => (and_intros <;> with_reducible first | exact .inl rfl | exact .inl ⟨rfl, rfl, rfl⟩ | exact .inr ‹_› | exact Nat.le_refl _ | exact Nat.le_add_right _ _))

theorem State.flipRefused_good (force : km.part .force) (out : km.part .out) (tim : km.part .tim)
    (dep : km.part .dep) (ing : km.part .ing) (map : km.part .map) (cmp : km.part .cmp) (mem : km.part .mem)
    (dram : km.part .dram) (scn : km.part .scn) (cor : km.part .cor) (rai : km.part .rai) (lfm : km.part .lfm)
    (line : km.part .line) (rdn : km.part .rdn) (any : ∀ f, km.fld f) (s : State) (e : Entry) (hs : s.Keeps km pq) : (State.flipRefused s e).Keeps km pq := by
  unfold State.flipRefused
  repeat' first
    | with_reducible assumption
    | (with_reducible (intros; exact any _))
    | ((try lift_lets -underBinder); intro x; refine Keep.use (k := km) (q := pq) (s := x) ?_ ?_; (on_goal 1 => dsimp -zeta only [x]); (on_goal 2 => clear_value x; intro _))
    | ((try lift_lets -underBinder); intro x; refine Keep.usePair (k := km) (q := pq) (p := x) ?_ ?_; (on_goal 1 => dsimp -zeta only [x]); (on_goal 2 => clear_value x; intro _))
    | ((try lift_lets -underBinder); intro x; refine Keep.memSt (x := x) ?_; subst x)
    | ((try lift_lets -underBinder); intro x; refine Keep.depSt (x := x) ?_; subst x)
    | ((try lift_lets -underBinder); intro x; clear_value x)
    | (intro _)
    | with_reducible apply Keep.ite
    | with_reducible apply State.refusedLaunch_good
    | with_reducible apply State.commitJoint_good

theorem State.launchFlip_good (force : km.part .force) (out : km.part .out) (tim : km.part .tim) (dep : km.part .dep)
    (ing : km.part .ing) (map : km.part .map) (cmp : km.part .cmp) (mem : km.part .mem) (dram : km.part .dram)
    (scn : km.part .scn) (cor : km.part .cor) (rai : km.part .rai) (lfm : km.part .lfm) (line : km.part .line)
    (rdn : km.part .rdn) (any : ∀ f, km.fld f) (s : State) (e : Entry) (hs : s.Keeps km pq) : (State.launchFlip s e).Keeps km pq := by
  unfold State.launchFlip
  repeat' first
    | with_reducible assumption
    | (with_reducible (intros; exact any _))
    | ((try lift_lets -underBinder); intro x; refine Keep.use (k := km) (q := pq) (s := x) ?_ ?_; (on_goal 1 => dsimp -zeta only [x]); (on_goal 2 => clear_value x; intro _))
    | ((try lift_lets -underBinder); intro x; refine Keep.usePair (k := km) (q := pq) (p := x) ?_ ?_; (on_goal 1 => dsimp -zeta only [x]); (on_goal 2 => clear_value x; intro _))
    | ((try lift_lets -underBinder); intro x; refine Keep.memSt (x := x) ?_; subst x)
    | ((try lift_lets -underBinder); intro x; refine Keep.depSt (x := x) ?_; subst x)
    | ((try lift_lets -underBinder); intro x; clear_value x)
    | (intro _)
    | with_reducible apply Keep.ite
    | with_reducible apply State.flipRefused_good
    | with_reducible apply State.flip_good
    | with_reducible apply State.runScan_good

theorem State.schedAnswer_good (out : km.part .out) (tim : km.part .tim) (ing : km.part .ing) (line : km.part .line)
    (hDEP_ENT_STATUS_RESULT : km.fld R.DEP.ENT_STATUS.RESULT)
    (hDEP_MODE_CHECK_DEP_PENDING : km.fld R.DEP.MODE_CHECK.DEP_PENDING)
    (hDEP_MODE_CHECK_EPOCH_PENDING : km.fld R.DEP.MODE_CHECK.EPOCH_PENDING)
    (hDEP_MODE_CHECK_FIELDS : km.fld R.DEP.MODE_CHECK.FIELDS)
    (hDEP_MODE_CHECK_REJECT_RULE : km.fld R.DEP.MODE_CHECK.REJECT_RULE)
    (hDEP_MODE_CHECK_RULE : km.fld R.DEP.MODE_CHECK.RULE) (hDEP_MODE_CHECK_VALID : km.fld R.DEP.MODE_CHECK.VALID)
    (hDEP_MODE_CTRL_FB_VALID : km.fld R.DEP.MODE_CTRL.FB_VALID)
    (hDEP_VPHASE_CUR_VPHASE : ∀ a, km.fld (R.DEP.VPHASE_CUR.VPHASE a))
    (hING_FOLLOW_VALID : km.fld R.ING.FOLLOW.VALID) (hPG_ERR_ADDR_HI : ∀ a, km.fld (R.PG.ERR_ADDR_HI a))
    (hPG_ERR_ADDR_LO : ∀ a, km.fld (R.PG.ERR_ADDR_LO a)) (hPG_ERR_CODE : ∀ a, km.fld (R.PG.ERR_CODE a))
    (hPG_ERR_COUNT : ∀ a, km.fld (R.PG.ERR_COUNT a)) (hPG_ERR_OVERFLOW : ∀ a, km.fld (R.PG.ERR_OVERFLOW a))
    (hPG_ERR_SOURCE : ∀ a, km.fld (R.PG.ERR_SOURCE a)) (hPG_ERR_VALID : ∀ a, km.fld (R.PG.ERR_VALID a))
    (hPG_EVT_PEND : ∀ a, km.fld (R.PG.EVT_PEND a)) (hSCN_BUS_LOAD_GBPS : km.fld R.SCN.BUS_LOAD.GBPS)
    (hSCN_REFRESH_HZ : km.fld R.SCN.REFRESH.HZ) (hSCN_SPREAD_A : km.fld R.SCN.SPREAD.A)
    (hSCN_T_BL_NS : km.fld R.SCN.T_BL.NS) (hSCN_T_GAP_CYC : km.fld R.SCN.T_GAP.CYC)
    (hSCN_T_LOAD_NS : km.fld R.SCN.T_LOAD.NS) (hSCN_T_RC_CYC : km.fld R.SCN.T_RC.CYC)
    (hSCN_T_ROW_CYC : km.fld R.SCN.T_ROW.CYC) (hTIM_DOM_OFFSET_OFFSET : ∀ a, km.fld (R.TIM.DOM_OFFSET.OFFSET a))
    (hTIM_DOM_RATE_RATE : ∀ a, km.fld (R.TIM.DOM_RATE.RATE a)) (hTIM_RATE_CUR_RATE : km.fld R.TIM.RATE_CUR.RATE)
    (hTIM_RATE_NEXT_RATE : km.fld R.TIM.RATE_NEXT.RATE) (hTIM_SCHED_N0_HI_N0 : km.fld R.TIM.SCHED_N0_HI.N0)
    (hTIM_SCHED_N0_LO_N0 : km.fld R.TIM.SCHED_N0_LO.N0) (hTIM_SCHED_T0_HI_T0 : km.fld R.TIM.SCHED_T0_HI.T0)
    (hTIM_SCHED_T0_LO_T0 : km.fld R.TIM.SCHED_T0_LO.T0) (s : State) (c : Sched) (fail : Option (Nat × Nat))
    (hs : s.Keeps km pq) : (State.schedAnswer s c fail).Keeps km pq := by
  unfold State.schedAnswer
  repeat' first
    | with_reducible assumption
    | with_reducible exact hDEP_VPHASE_CUR_VPHASE _
    | with_reducible exact hPG_ERR_ADDR_HI _
    | with_reducible exact hPG_ERR_ADDR_LO _
    | with_reducible exact hPG_ERR_CODE _
    | with_reducible exact hPG_ERR_COUNT _
    | with_reducible exact hPG_ERR_OVERFLOW _
    | with_reducible exact hPG_ERR_SOURCE _
    | with_reducible exact hPG_ERR_VALID _
    | with_reducible exact hPG_EVT_PEND _
    | with_reducible exact hTIM_DOM_OFFSET_OFFSET _
    | with_reducible exact hTIM_DOM_RATE_RATE _
    | ((try lift_lets -underBinder); intro x; refine Keep.use (k := km) (q := pq) (s := x) ?_ ?_; (on_goal 1 => dsimp -zeta only [x]); (on_goal 2 => clear_value x; intro _))
    | ((try lift_lets -underBinder); intro x; refine Keep.usePair (k := km) (q := pq) (p := x) ?_ ?_; (on_goal 1 => dsimp -zeta only [x]); (on_goal 2 => clear_value x; intro _))
    | ((try lift_lets -underBinder); intro x; refine Keep.memSt (x := x) ?_; subst x)
    | ((try lift_lets -underBinder); intro x; refine Keep.depSt (x := x) ?_; subst x)
    | ((try lift_lets -underBinder); intro x; clear_value x)
    | (intro _)
    | with_reducible apply State.refusedLaunch_good
    | with_reducible apply State.takeSched_good
    | split

theorem State.launchSchedule_good (out : km.part .out) (tim : km.part .tim) (ing : km.part .ing)
    (line : km.part .line) (hDEP_ENT_STATUS_RESULT : km.fld R.DEP.ENT_STATUS.RESULT)
    (hDEP_MODE_CHECK_DEP_PENDING : km.fld R.DEP.MODE_CHECK.DEP_PENDING)
    (hDEP_MODE_CHECK_EPOCH_PENDING : km.fld R.DEP.MODE_CHECK.EPOCH_PENDING)
    (hDEP_MODE_CHECK_FIELDS : km.fld R.DEP.MODE_CHECK.FIELDS)
    (hDEP_MODE_CHECK_REJECT_RULE : km.fld R.DEP.MODE_CHECK.REJECT_RULE)
    (hDEP_MODE_CHECK_RULE : km.fld R.DEP.MODE_CHECK.RULE) (hDEP_MODE_CHECK_VALID : km.fld R.DEP.MODE_CHECK.VALID)
    (hDEP_MODE_CTRL_FB_VALID : km.fld R.DEP.MODE_CTRL.FB_VALID)
    (hDEP_VPHASE_CUR_VPHASE : ∀ a, km.fld (R.DEP.VPHASE_CUR.VPHASE a))
    (hING_FOLLOW_VALID : km.fld R.ING.FOLLOW.VALID) (hPG_ERR_ADDR_HI : ∀ a, km.fld (R.PG.ERR_ADDR_HI a))
    (hPG_ERR_ADDR_LO : ∀ a, km.fld (R.PG.ERR_ADDR_LO a)) (hPG_ERR_CODE : ∀ a, km.fld (R.PG.ERR_CODE a))
    (hPG_ERR_COUNT : ∀ a, km.fld (R.PG.ERR_COUNT a)) (hPG_ERR_OVERFLOW : ∀ a, km.fld (R.PG.ERR_OVERFLOW a))
    (hPG_ERR_SOURCE : ∀ a, km.fld (R.PG.ERR_SOURCE a)) (hPG_ERR_VALID : ∀ a, km.fld (R.PG.ERR_VALID a))
    (hPG_EVT_PEND : ∀ a, km.fld (R.PG.EVT_PEND a)) (hSCN_BUS_LOAD_GBPS : km.fld R.SCN.BUS_LOAD.GBPS)
    (hSCN_REFRESH_HZ : km.fld R.SCN.REFRESH.HZ) (hSCN_SPREAD_A : km.fld R.SCN.SPREAD.A)
    (hSCN_T_BL_NS : km.fld R.SCN.T_BL.NS) (hSCN_T_GAP_CYC : km.fld R.SCN.T_GAP.CYC)
    (hSCN_T_LOAD_NS : km.fld R.SCN.T_LOAD.NS) (hSCN_T_RC_CYC : km.fld R.SCN.T_RC.CYC)
    (hSCN_T_ROW_CYC : km.fld R.SCN.T_ROW.CYC) (hTIM_DOM_OFFSET_OFFSET : ∀ a, km.fld (R.TIM.DOM_OFFSET.OFFSET a))
    (hTIM_DOM_RATE_RATE : ∀ a, km.fld (R.TIM.DOM_RATE.RATE a)) (hTIM_RATE_CUR_RATE : km.fld R.TIM.RATE_CUR.RATE)
    (hTIM_RATE_NEXT_RATE : km.fld R.TIM.RATE_NEXT.RATE) (hTIM_SCHED_N0_HI_N0 : km.fld R.TIM.SCHED_N0_HI.N0)
    (hTIM_SCHED_N0_LO_N0 : km.fld R.TIM.SCHED_N0_LO.N0) (hTIM_SCHED_T0_HI_T0 : km.fld R.TIM.SCHED_T0_HI.T0)
    (hTIM_SCHED_T0_LO_T0 : km.fld R.TIM.SCHED_T0_LO.T0) (s : State) (e : Entry) (hs : s.Keeps km pq) : (State.launchSchedule s e).Keeps km pq := by
  unfold State.launchSchedule
  repeat' first
    | with_reducible assumption
    | with_reducible exact hDEP_VPHASE_CUR_VPHASE _
    | with_reducible exact hPG_ERR_ADDR_HI _
    | with_reducible exact hPG_ERR_ADDR_LO _
    | with_reducible exact hPG_ERR_CODE _
    | with_reducible exact hPG_ERR_COUNT _
    | with_reducible exact hPG_ERR_OVERFLOW _
    | with_reducible exact hPG_ERR_SOURCE _
    | with_reducible exact hPG_ERR_VALID _
    | with_reducible exact hPG_EVT_PEND _
    | with_reducible exact hTIM_DOM_OFFSET_OFFSET _
    | with_reducible exact hTIM_DOM_RATE_RATE _
    | ((try lift_lets -underBinder); intro x; refine Keep.use (k := km) (q := pq) (s := x) ?_ ?_; (on_goal 1 => dsimp -zeta only [x]); (on_goal 2 => clear_value x; intro _))
    | ((try lift_lets -underBinder); intro x; refine Keep.usePair (k := km) (q := pq) (p := x) ?_ ?_; (on_goal 1 => dsimp -zeta only [x]); (on_goal 2 => clear_value x; intro _))
    | ((try lift_lets -underBinder); intro x; refine Keep.memSt (x := x) ?_; subst x)
    | ((try lift_lets -underBinder); intro x; refine Keep.depSt (x := x) ?_; subst x)
    | ((try lift_lets -underBinder); intro x; clear_value x)
    | (intro _)
    | with_reducible apply Keep.ite
    | with_reducible apply State.schedAnswer_good
    | split

theorem State.launchActivate_good (out : km.part .out) (tim : km.part .tim) (dep : km.part .dep) (mem : km.part .mem)
    (dram : km.part .dram) (scn : km.part .scn) (cor : km.part .cor) (rai : km.part .rai) (lfm : km.part .lfm)
    (line : km.part .line) (rdn : km.part .rdn) (que : km.part .que) (mbx : km.part .mbx) (fwu : km.part .fwu)
    (any : ∀ f, km.fld f) (s : State) (e : Entry) (hs : s.Keeps km pq) : (State.launchActivate s e).Keeps km pq := by
  unfold State.launchActivate
  repeat' first
    | with_reducible assumption
    | (with_reducible (intros; exact any _))
    | (intro _)
    | with_reducible apply State.activate_good

theorem State.launchRailStep_good (out : km.part .out) (tim : km.part .tim) (rai : km.part .rai)
    (hPG_EVT_PEND : ∀ a, km.fld (R.PG.EVT_PEND a)) (hRCH_CH_CNT_REJECT : ∀ a, km.fld (R.RCH.CH_CNT.REJECT a))
    (hRCH_CH_STAT_AT_TARGET : ∀ a, km.fld (R.RCH.CH_STAT.AT_TARGET a))
    (hRCH_CH_STAT_CLAMPED : ∀ a, km.fld (R.RCH.CH_STAT.CLAMPED a))
    (hRCH_CH_TARGET_FLOOR : ∀ a, km.fld (R.RCH.CH_TARGET.FLOOR a))
    (hRCH_CH_TARGET_NEXT : ∀ a, km.fld (R.RCH.CH_TARGET.NEXT a))
    (hTIM_DOM_OFFSET_OFFSET : ∀ a, km.fld (R.TIM.DOM_OFFSET.OFFSET a))
    (hTIM_DOM_RATE_RATE : ∀ a, km.fld (R.TIM.DOM_RATE.RATE a)) (s : State) (e : Entry) (hs : s.Keeps km pq) : (State.launchRailStep s e).Keeps km pq := by
  unfold State.launchRailStep
  repeat' first
    | with_reducible assumption
    | with_reducible exact hPG_EVT_PEND _
    | with_reducible exact hRCH_CH_CNT_REJECT _
    | with_reducible exact hRCH_CH_STAT_AT_TARGET _
    | with_reducible exact hRCH_CH_STAT_CLAMPED _
    | with_reducible exact hRCH_CH_TARGET_FLOOR _
    | with_reducible exact hRCH_CH_TARGET_NEXT _
    | with_reducible exact hTIM_DOM_OFFSET_OFFSET _
    | with_reducible exact hTIM_DOM_RATE_RATE _
    | (intro _)
    | with_reducible apply Keep.ite
    | with_reducible apply State.railStep_good

theorem State.launchWallSwitch_good (out : km.part .out) (tim : km.part .tim)
    (hPG_EVT_PEND : ∀ a, km.fld (R.PG.EVT_PEND a))
    (hTIM_LINE_TIME_CFG_INTERVAL_EXP : km.fld R.TIM.LINE_TIME_CFG.INTERVAL_EXP)
    (hTIM_TIM_CTRL_WALL_SEL : km.fld R.TIM.TIM_CTRL.WALL_SEL)
    (hTIM_TIM_STAT_HOLDOVER : km.fld R.TIM.TIM_STAT.HOLDOVER) (hTIM_TIM_STAT_SLEWING : km.fld R.TIM.TIM_STAT.SLEWING)
    (hTIM_TIM_STAT_TIME_VALID : km.fld R.TIM.TIM_STAT.TIME_VALID)
    (hTIM_TIM_STAT_WALL_DOM : km.fld R.TIM.TIM_STAT.WALL_DOM) (s : State) (e : Entry) (hs : s.Keeps km pq) : (State.launchWallSwitch s e).Keeps km pq := by
  unfold State.launchWallSwitch
  repeat' first
    | with_reducible assumption
    | with_reducible exact hPG_EVT_PEND _
    | (intro _)
    | with_reducible apply State.switchWall_good

theorem State.noteEvent_good (tim : km.part .tim) (dep : km.part .dep)
    (hTIM_DOM_OFFSET_OFFSET : ∀ a, km.fld (R.TIM.DOM_OFFSET.OFFSET a))
    (hTIM_DOM_RATE_RATE : ∀ a, km.fld (R.TIM.DOM_RATE.RATE a)) (s : State) (k : Nat) (w : Int) (hs : s.Keeps km pq) : (State.noteEvent s k w).Keeps km pq := by
  unfold State.noteEvent
  repeat' first
    | with_reducible assumption
    | with_reducible exact hTIM_DOM_OFFSET_OFFSET _
    | with_reducible exact hTIM_DOM_RATE_RATE _
    | ((try lift_lets -underBinder); intro x; refine Keep.use (k := km) (q := pq) (s := x) ?_ ?_; (on_goal 1 => dsimp -zeta only [x]); (on_goal 2 => clear_value x; intro _))
    | ((try lift_lets -underBinder); intro x; refine Keep.usePair (k := km) (q := pq) (p := x) ?_ ?_; (on_goal 1 => dsimp -zeta only [x]); (on_goal 2 => clear_value x; intro _))
    | ((try lift_lets -underBinder); intro x; refine Keep.memSt (x := x) ?_; subst x)
    | ((try lift_lets -underBinder); intro x; refine Keep.depSt (x := x) ?_; subst x)
    | ((try lift_lets -underBinder); intro x; clear_value x)
    | (intro _)
    | with_reducible apply State.filter_good
    | (simp -zeta only [Keep.mk_iff]; with_reducible refine Keep.upd ?_ rfl ?_; on_goal 2 => (and_intros <;> with_reducible first | exact .inl rfl | exact .inl ⟨rfl, rfl, rfl⟩ | exact .inr ‹_› | exact Nat.le_refl _ | exact Nat.le_add_right _ _))

theorem State.tickoutAt_good (out : km.part .out) (s : State) (w : Int) (hs : s.Keeps km pq) : (State.tickoutAt s w).Keeps km pq := by
  unfold State.tickoutAt
  repeat' first
    | with_reducible assumption
    | (intro _)
    | with_reducible apply State.emit_good

theorem State.launchPulse_good (out : km.part .out) (s : State) (e : Entry) (hs : s.Keeps km pq) : (State.launchPulse s e).Keeps km pq := by
  unfold State.launchPulse
  repeat' first
    | with_reducible assumption
    | ((try lift_lets -underBinder); intro x; refine Keep.use (k := km) (q := pq) (s := x) ?_ ?_; (on_goal 1 => dsimp -zeta only [x]); (on_goal 2 => clear_value x; intro _))
    | ((try lift_lets -underBinder); intro x; refine Keep.usePair (k := km) (q := pq) (p := x) ?_ ?_; (on_goal 1 => dsimp -zeta only [x]); (on_goal 2 => clear_value x; intro _))
    | ((try lift_lets -underBinder); intro x; refine Keep.memSt (x := x) ?_; subst x)
    | ((try lift_lets -underBinder); intro x; refine Keep.depSt (x := x) ?_; subst x)
    | ((try lift_lets -underBinder); intro x; clear_value x)
    | (intro _)
    | with_reducible apply Keep.ite
    | with_reducible apply State.emit_good
    | with_reducible apply State.tickoutAt_good

theorem State.launchMark_good (out : km.part .out) (hDEP_MARK_TAG_TAG : km.fld R.DEP.MARK_TAG.TAG)
    (hPG_EVT_PEND : ∀ a, km.fld (R.PG.EVT_PEND a)) (s : State) (e : Entry) (hs : s.Keeps km pq) : (State.launchMark s e).Keeps km pq := by
  unfold State.launchMark
  repeat' first
    | with_reducible assumption
    | with_reducible exact hPG_EVT_PEND _
    | (intro _)
    | with_reducible apply State.set_good
    | with_reducible apply State.ev_good

theorem State.launchAny_good (force : km.part .force) (out : km.part .out) (tim : km.part .tim) (dep : km.part .dep)
    (ing : km.part .ing) (map : km.part .map) (cmp : km.part .cmp) (mem : km.part .mem) (dram : km.part .dram)
    (scn : km.part .scn) (cor : km.part .cor) (rai : km.part .rai) (lfm : km.part .lfm) (line : km.part .line)
    (rdn : km.part .rdn) (que : km.part .que) (mbx : km.part .mbx) (fwu : km.part .fwu) (any : ∀ f, km.fld f)
    (s : State) (i : Nat) (late : Bool) (hs : s.Keeps km pq) : (State.launchAny s i late).Keeps km pq := by
  unfold State.launchAny
  repeat' first
    | with_reducible assumption
    | (with_reducible (intros; exact any _))
    | ((try lift_lets -underBinder); intro x; refine Keep.use (k := km) (q := pq) (s := x) ?_ ?_; (on_goal 1 => dsimp -zeta only [x]); (on_goal 2 => clear_value x; intro _))
    | ((try lift_lets -underBinder); intro x; refine Keep.usePair (k := km) (q := pq) (p := x) ?_ ?_; (on_goal 1 => dsimp -zeta only [x]); (on_goal 2 => clear_value x; intro _))
    | ((try lift_lets -underBinder); intro x; refine Keep.memSt (x := x) ?_; subst x)
    | ((try lift_lets -underBinder); intro x; refine Keep.depSt (x := x) ?_; subst x)
    | ((try lift_lets -underBinder); intro x; clear_value x)
    | (intro _)
    | with_reducible apply Keep.ite
    | with_reducible apply State.launch_good
    | with_reducible apply State.launchCommit_good
    | with_reducible apply State.launchFlip_good
    | with_reducible apply State.launchSchedule_good
    | with_reducible apply State.launchActivate_good
    | with_reducible apply State.launchRailStep_good
    | with_reducible apply State.launchWallSwitch_good
    | with_reducible apply State.launchPulse_good
    | with_reducible apply State.launchMark_good

end Sys2Proof.Machine
end

