-- ==== Sys2Proof/Laws/KeepsBoard.lean ====
section
/-!
SUPPORT. Every function of Machine/Board.lean changes what the hypotheses of its lemma name, and nothing else.
-/
namespace Sys2Proof.Machine
set_option Elab.async false
set_option linter.unusedVariables false
set_option linter.unusedTactic false
set_option linter.unreachableTactic false

variable {km : May} {pq : State}

theorem State.entWrite_good (force : km.part .force) (out : km.part .out) (tim : km.part .tim) (dep : km.part .dep)
    (ing : km.part .ing) (map : km.part .map) (cmp : km.part .cmp) (mem : km.part .mem) (dram : km.part .dram)
    (scn : km.part .scn) (cor : km.part .cor) (rai : km.part .rai) (lfm : km.part .lfm) (line : km.part .line)
    (rdn : km.part .rdn) (que : km.part .que) (mbx : km.part .mbx) (fwu : km.part .fwu) (any : ∀ f, km.fld f)
    (s : State) (i : Nat) (e : Entry) (hs : s.Keeps km pq) : (State.entWrite s i e).Keeps km pq := by
  unfold State.entWrite
  repeat' first
    | with_reducible assumption
    | (with_reducible (intros; exact any _))
    | ((try lift_lets -underBinder); intro x; refine Keep.use (k := km) (q := pq) (s := x) ?_ ?_; (on_goal 1 => dsimp -zeta only [x]); (on_goal 2 => clear_value x; intro _))
    | ((try lift_lets -underBinder); intro x; refine Keep.usePair (k := km) (q := pq) (p := x) ?_ ?_; (on_goal 1 => dsimp -zeta only [x]); (on_goal 2 => clear_value x; intro _))
    | ((try lift_lets -underBinder); intro x; refine Keep.memSt (x := x) ?_; subst x)
    | ((try lift_lets -underBinder); intro x; refine Keep.depSt (x := x) ?_; subst x)
    | ((try lift_lets -underBinder); intro x; clear_value x)
    | (intro _)
    | with_reducible apply Keep.ite
    | with_reducible apply State.set_good
    | with_reducible apply State.showBoard_good
    | with_reducible apply State.filter_good
    | with_reducible apply State.setEntry_good
    | with_reducible apply State.launchAny_good
    | (simp -zeta only [Keep.mk_iff]; with_reducible refine Keep.upd ?_ rfl ?_; on_goal 2 => (and_intros <;> with_reducible first | exact .inl rfl | exact .inl ⟨rfl, rfl, rfl⟩ | exact .inr ‹_› | exact Nat.le_refl _ | exact Nat.le_add_right _ _))

theorem State.entRead_good (hDEP_DEP_STAT_ARMED : km.fld R.DEP.DEP_STAT.ARMED)
    (hDEP_DEP_STAT_NEXT_IDX : km.fld R.DEP.DEP_STAT.NEXT_IDX) (hDEP_ENT_ACT_ACTION : km.fld R.DEP.ENT_ACT.ACTION)
    (hDEP_ENT_ACT_FORM : km.fld R.DEP.ENT_ACT.FORM) (hDEP_ENT_ACT_LATE_OK : km.fld R.DEP.ENT_ACT.LATE_OK)
    (hDEP_ENT_ARG_ARG : km.fld R.DEP.ENT_ARG.ARG) (hDEP_ENT_OFS_OFS : km.fld R.DEP.ENT_OFS.OFS)
    (hDEP_ENT_STATUS_RESULT : km.fld R.DEP.ENT_STATUS.RESULT) (hDEP_ENT_STATUS_STATE : km.fld R.DEP.ENT_STATUS.STATE)
    (hDEP_ENT_TIME_HI_TIME : km.fld R.DEP.ENT_TIME_HI.TIME) (hDEP_ENT_TIME_LO_TIME : km.fld R.DEP.ENT_TIME_LO.TIME)
    (s : State) (i : Nat) (hs : s.Keeps km pq) : (State.entRead s i).Keeps km pq := by
  unfold State.entRead
  repeat' first
    | with_reducible assumption
    | ((try lift_lets -underBinder); intro x; refine Keep.use (k := km) (q := pq) (s := x) ?_ ?_; (on_goal 1 => dsimp -zeta only [x]); (on_goal 2 => clear_value x; intro _))
    | ((try lift_lets -underBinder); intro x; refine Keep.usePair (k := km) (q := pq) (p := x) ?_ ?_; (on_goal 1 => dsimp -zeta only [x]); (on_goal 2 => clear_value x; intro _))
    | ((try lift_lets -underBinder); intro x; refine Keep.memSt (x := x) ?_; subst x)
    | ((try lift_lets -underBinder); intro x; refine Keep.depSt (x := x) ?_; subst x)
    | ((try lift_lets -underBinder); intro x; clear_value x)
    | (intro _)
    | with_reducible apply State.set64_good
    | with_reducible apply State.set_good
    | with_reducible apply State.setI_good
    | with_reducible apply State.showBoard_good

theorem State.entCancel_good (dep : km.part .dep) (hDEP_DEP_STAT_ARMED : km.fld R.DEP.DEP_STAT.ARMED)
    (hDEP_DEP_STAT_NEXT_IDX : km.fld R.DEP.DEP_STAT.NEXT_IDX)
    (hDEP_ENT_STATUS_RESULT : km.fld R.DEP.ENT_STATUS.RESULT) (hDEP_ENT_STATUS_STATE : km.fld R.DEP.ENT_STATUS.STATE)
    (s : State) (i : Nat) (hs : s.Keeps km pq) : (State.entCancel s i).Keeps km pq := by
  unfold State.entCancel
  repeat' first
    | with_reducible assumption
    | ((try lift_lets -underBinder); intro x; refine Keep.use (k := km) (q := pq) (s := x) ?_ ?_; (on_goal 1 => dsimp -zeta only [x]); (on_goal 2 => clear_value x; intro _))
    | ((try lift_lets -underBinder); intro x; refine Keep.usePair (k := km) (q := pq) (p := x) ?_ ?_; (on_goal 1 => dsimp -zeta only [x]); (on_goal 2 => clear_value x; intro _))
    | ((try lift_lets -underBinder); intro x; refine Keep.memSt (x := x) ?_; subst x)
    | ((try lift_lets -underBinder); intro x; refine Keep.depSt (x := x) ?_; subst x)
    | ((try lift_lets -underBinder); intro x; clear_value x)
    | (intro _)
    | with_reducible apply Keep.ite
    | with_reducible apply State.set_good
    | with_reducible apply State.showBoard_good
    | with_reducible apply State.setEntry_good

theorem State.missBefore_good (out : km.part .out) (dep : km.part .dep)
    (hDEP_DEP_STAT_ARMED : km.fld R.DEP.DEP_STAT.ARMED) (hDEP_DEP_STAT_NEXT_IDX : km.fld R.DEP.DEP_STAT.NEXT_IDX)
    (hDEP_ENT_STATUS_STATE : km.fld R.DEP.ENT_STATUS.STATE) (hDEP_MISSED_CNT_MISSED : km.fld R.DEP.MISSED_CNT.MISSED)
    (hPG_EVT_PEND : ∀ a, km.fld (R.PG.EVT_PEND a)) (s : State) (first : Nat) (hs : s.Keeps km pq) : (State.missBefore s first).Keeps km pq := by
  unfold State.missBefore
  repeat' first
    | with_reducible assumption
    | with_reducible exact hPG_EVT_PEND _
    | (intro _)
    | with_reducible apply Keep.ite
    | with_reducible apply State.miss_good
    | with_reducible apply Keep.foldl

theorem State.entMissed_good (out : km.part .out) (dep : km.part .dep)
    (hDEP_DEP_STAT_ARMED : km.fld R.DEP.DEP_STAT.ARMED) (hDEP_DEP_STAT_NEXT_IDX : km.fld R.DEP.DEP_STAT.NEXT_IDX)
    (hDEP_ENT_STATUS_STATE : km.fld R.DEP.ENT_STATUS.STATE) (hDEP_MISSED_CNT_MISSED : km.fld R.DEP.MISSED_CNT.MISSED)
    (hPG_EVT_PEND : ∀ a, km.fld (R.PG.EVT_PEND a)) (s : State) (i : Nat) (hs : s.Keeps km pq) : (State.entMissed s i).Keeps km pq := by
  unfold State.entMissed
  repeat' first
    | with_reducible assumption
    | with_reducible exact hPG_EVT_PEND _
    | (intro _)
    | with_reducible apply Keep.ite
    | with_reducible apply State.miss_good

end Sys2Proof.Machine
end

