-- ==== Sys2Proof/Laws/KeepsWords.lean ====
section
/-!
SUPPORT. Every function of Machine/Words.lean changes what the hypotheses of its lemma name, and nothing else.
-/
namespace Sys2Proof.Machine
set_option Elab.async false
set_option linter.unusedVariables false
set_option linter.unusedTactic false
set_option linter.unreachableTactic false

variable {km : May} {pq : State}

theorem State.putFields_good (s : State) (addr v : Nat) (p : Acc → Bool) (put : State → Fld → Acc → Nat → State)
    (hs : s.Keeps km pq) (hf : ∀ s f a v, s.Keeps km pq → (put s f a v).Keeps km pq) : (State.putFields s addr v p put).Keeps km pq := by
  unfold State.putFields
  repeat' first
    | with_reducible assumption
    | (intro _)
    | with_reducible apply Keep.ite
    | with_reducible apply Keep.foldl
    | with_reducible apply hf

end Sys2Proof.Machine
end

