-- ==== Sys2Proof/Laws/KeepsRelief.lean ====
section
/-!
SUPPORT. Every function of Machine/Relief.lean changes what the hypotheses of its lemma name, and nothing else.
-/
namespace Sys2Proof.Machine
set_option Elab.async false
set_option linter.unusedVariables false
set_option linter.unusedTactic false
set_option linter.unreachableTactic false

variable {km : May} {pq : State}

theorem State.mirror_good (out : km.part .out) (line : km.part .line)
    (hRDN_MIRROR_SEQ_TX : km.fld R.RDN.MIRROR_SEQ.TX) (s : State) (r : MirrorRec) (hs : s.Keeps km pq) : (State.mirror s r).Keeps km pq := by
  unfold State.mirror
  repeat' first
    | with_reducible assumption
    | ((try lift_lets -underBinder); intro x; refine Keep.use (k := km) (q := pq) (s := x) ?_ ?_; (on_goal 1 => dsimp -zeta only [x]); (on_goal 2 => clear_value x; intro _))
    | ((try lift_lets -underBinder); intro x; refine Keep.usePair (k := km) (q := pq) (p := x) ?_ ?_; (on_goal 1 => dsimp -zeta only [x]); (on_goal 2 => clear_value x; intro _))
    | ((try lift_lets -underBinder); intro x; refine Keep.memSt (x := x) ?_; subst x)
    | ((try lift_lets -underBinder); intro x; refine Keep.depSt (x := x) ?_; subst x)
    | ((try lift_lets -underBinder); intro x; clear_value x)
    | (intro _)
    | with_reducible apply State.set_good
    | with_reducible apply State.send_good

theorem State.mirrorReg_good (out : km.part .out) (line : km.part .line)
    (hRDN_MIRROR_SEQ_TX : km.fld R.RDN.MIRROR_SEQ.TX) (s : State) (addr : Nat) (hs : s.Keeps km pq) : (State.mirrorReg s addr).Keeps km pq := by
  unfold State.mirrorReg
  repeat' first
    | with_reducible assumption
    | (intro _)
    | with_reducible apply Keep.ite
    | with_reducible apply State.mirror_good

theorem State.mirrorWindow_good (out : km.part .out) (line : km.part .line)
    (hRDN_MIRROR_SEQ_TX : km.fld R.RDN.MIRROR_SEQ.TX) (s : State) (addr n : Nat) (hs : s.Keeps km pq) : (State.mirrorWindow s addr n).Keeps km pq := by
  unfold State.mirrorWindow
  repeat' first
    | with_reducible assumption
    | ((try lift_lets -underBinder); intro x; refine Keep.use (k := km) (q := pq) (s := x) ?_ ?_; (on_goal 1 => dsimp -zeta only [x]); (on_goal 2 => clear_value x; intro _))
    | ((try lift_lets -underBinder); intro x; refine Keep.usePair (k := km) (q := pq) (p := x) ?_ ?_; (on_goal 1 => dsimp -zeta only [x]); (on_goal 2 => clear_value x; intro _))
    | ((try lift_lets -underBinder); intro x; refine Keep.memSt (x := x) ?_; subst x)
    | ((try lift_lets -underBinder); intro x; refine Keep.depSt (x := x) ?_; subst x)
    | ((try lift_lets -underBinder); intro x; clear_value x)
    | (intro _)
    | with_reducible apply Keep.ite
    | with_reducible apply State.mirror_good

theorem State.mirrorArm_good (out : km.part .out) (line : km.part .line)
    (hRDN_MIRROR_SEQ_TX : km.fld R.RDN.MIRROR_SEQ.TX) (s : State) (b : Nat) (on : Bool) (hs : s.Keeps km pq) : (State.mirrorArm s b on).Keeps km pq := by
  unfold State.mirrorArm
  repeat' first
    | with_reducible assumption
    | (intro _)
    | with_reducible apply Keep.ite
    | with_reducible apply State.mirror_good

theorem State.mirrorEntry_good (out : km.part .out) (line : km.part .line)
    (hRDN_MIRROR_SEQ_TX : km.fld R.RDN.MIRROR_SEQ.TX) (s : State) (i : Nat) (e : Entry) (op : Nat)
    (hs : s.Keeps km pq) : (State.mirrorEntry s i e op).Keeps km pq := by
  unfold State.mirrorEntry
  repeat' first
    | with_reducible assumption
    | (intro _)
    | with_reducible apply Keep.ite
    | with_reducible apply State.mirror_good

theorem State.mirrorReset_good (out : km.part .out) (tim : km.part .tim) (line : km.part .line)
    (hRDN_MIRROR_SEQ_TX : km.fld R.RDN.MIRROR_SEQ.TX)
    (hTIM_DOM_OFFSET_OFFSET : ∀ a, km.fld (R.TIM.DOM_OFFSET.OFFSET a))
    (hTIM_DOM_RATE_RATE : ∀ a, km.fld (R.TIM.DOM_RATE.RATE a)) (s was : State) (b : Nat) (hs : s.Keeps km pq)
    (hs : was.Keeps km pq) : (State.mirrorReset s was b).Keeps km pq := by
  unfold State.mirrorReset
  repeat' first
    | with_reducible assumption
    | with_reducible exact hTIM_DOM_OFFSET_OFFSET _
    | with_reducible exact hTIM_DOM_RATE_RATE _
    | ((try lift_lets -underBinder); intro x; refine Keep.use (k := km) (q := pq) (s := x) ?_ ?_; (on_goal 1 => dsimp -zeta only [x]); (on_goal 2 => clear_value x; intro _))
    | ((try lift_lets -underBinder); intro x; refine Keep.usePair (k := km) (q := pq) (p := x) ?_ ?_; (on_goal 1 => dsimp -zeta only [x]); (on_goal 2 => clear_value x; intro _))
    | ((try lift_lets -underBinder); intro x; refine Keep.memSt (x := x) ?_; subst x)
    | ((try lift_lets -underBinder); intro x; refine Keep.depSt (x := x) ?_; subst x)
    | ((try lift_lets -underBinder); intro x; clear_value x)
    | (intro _)
    | with_reducible apply Keep.ite
    | with_reducible apply State.mirrorArm_good
    | with_reducible apply State.filter_good
    | with_reducible apply State.mirrorReg_good
    | with_reducible apply State.mirrorWindow_good
    | with_reducible apply State.mirrorEntry_good
    | with_reducible apply Keep.foldl

theorem State.sendImage_good (out : km.part .out) (line : km.part .line) (rdn : km.part .rdn)
    (hRDN_MIRROR_SEQ_TX : km.fld R.RDN.MIRROR_SEQ.TX) (s : State) (hs : s.Keeps km pq) : (State.sendImage s).Keeps km pq := by
  unfold State.sendImage
  repeat' first
    | with_reducible assumption
    | ((try lift_lets -underBinder); intro x; refine Keep.use (k := km) (q := pq) (s := x) ?_ ?_; (on_goal 1 => dsimp -zeta only [x]); (on_goal 2 => clear_value x; intro _))
    | ((try lift_lets -underBinder); intro x; refine Keep.usePair (k := km) (q := pq) (p := x) ?_ ?_; (on_goal 1 => dsimp -zeta only [x]); (on_goal 2 => clear_value x; intro _))
    | ((try lift_lets -underBinder); intro x; refine Keep.memSt (x := x) ?_; subst x)
    | ((try lift_lets -underBinder); intro x; refine Keep.depSt (x := x) ?_; subst x)
    | ((try lift_lets -underBinder); intro x; clear_value x)
    | (intro _)
    | with_reducible apply Keep.ite
    | with_reducible apply State.mirror_good
    | split
    | (simp -zeta only [Keep.mk_iff]; with_reducible refine Keep.upd ?_ rfl ?_; on_goal 2 => (and_intros <;> with_reducible first | exact .inl rfl | exact .inl ⟨rfl, rfl, rfl⟩ | exact .inr ‹_› | exact Nat.le_refl _ | exact Nat.le_add_right _ _))
    | with_reducible apply Keep.foldl

theorem State.noteGroups_good (tim : km.part .tim) (rdn : km.part .rdn)
    (hTIM_DOM_OFFSET_OFFSET : ∀ a, km.fld (R.TIM.DOM_OFFSET.OFFSET a))
    (hTIM_DOM_RATE_RATE : ∀ a, km.fld (R.TIM.DOM_RATE.RATE a)) (s : State) (n : Nat) (w : Int) (hs : s.Keeps km pq) : (State.noteGroups s n w).Keeps km pq := by
  unfold State.noteGroups
  repeat' first
    | with_reducible assumption
    | with_reducible exact hTIM_DOM_OFFSET_OFFSET _
    | with_reducible exact hTIM_DOM_RATE_RATE _
    | ((try lift_lets -underBinder); intro x; refine Keep.use (k := km) (q := pq) (s := x) ?_ ?_; (on_goal 1 => dsimp -zeta only [x]); (on_goal 2 => clear_value x; intro _))
    | ((try lift_lets -underBinder); intro x; refine Keep.usePair (k := km) (q := pq) (p := x) ?_ ?_; (on_goal 1 => dsimp -zeta only [x]); (on_goal 2 => clear_value x; intro _))
    | ((try lift_lets -underBinder); intro x; refine Keep.memSt (x := x) ?_; subst x)
    | ((try lift_lets -underBinder); intro x; refine Keep.depSt (x := x) ?_; subst x)
    | ((try lift_lets -underBinder); intro x; clear_value x)
    | (intro _)
    | with_reducible apply Keep.ite
    | with_reducible apply State.filter_good
    | (simp -zeta only [Keep.mk_iff]; with_reducible refine Keep.upd ?_ rfl ?_; on_goal 2 => (and_intros <;> with_reducible first | exact .inl rfl | exact .inl ⟨rfl, rfl, rfl⟩ | exact .inr ‹_› | exact Nat.le_refl _ | exact Nat.le_add_right _ _))

theorem State.notedGroups_good (rdn : km.part .rdn) (s : State) (hs : s.Keeps km pq) : (State.notedGroups s).Keeps km pq := by
  unfold State.notedGroups
  repeat' first
    | with_reducible assumption
    | ((try lift_lets -underBinder); intro x; refine Keep.use (k := km) (q := pq) (s := x) ?_ ?_; (on_goal 1 => dsimp -zeta only [x]); (on_goal 2 => clear_value x; intro _))
    | ((try lift_lets -underBinder); intro x; refine Keep.usePair (k := km) (q := pq) (p := x) ?_ ?_; (on_goal 1 => dsimp -zeta only [x]); (on_goal 2 => clear_value x; intro _))
    | ((try lift_lets -underBinder); intro x; refine Keep.memSt (x := x) ?_; subst x)
    | ((try lift_lets -underBinder); intro x; refine Keep.depSt (x := x) ?_; subst x)
    | ((try lift_lets -underBinder); intro x; clear_value x)
    | (intro _)
    | (simp -zeta only [Keep.mk_iff]; with_reducible refine Keep.upd ?_ rfl ?_; on_goal 2 => (and_intros <;> with_reducible first | exact .inl rfl | exact .inl ⟨rfl, rfl, rfl⟩ | exact .inr ‹_› | exact Nat.le_refl _ | exact Nat.le_add_right _ _))

theorem State.mirrorFrame_good (out : km.part .out) (line : km.part .line)
    (hRDN_MIRROR_SEQ_TX : km.fld R.RDN.MIRROR_SEQ.TX) (s : State) (n : Nat) (hs : s.Keeps km pq) : (State.mirrorFrame s n).Keeps km pq := by
  unfold State.mirrorFrame
  repeat' first
    | with_reducible assumption
    | (intro _)
    | with_reducible apply Keep.ite
    | with_reducible apply State.forN_good
    | with_reducible apply State.mirror_good

theorem State.mirrorN_good (hMAP_MIRROR_N_N_A : km.fld R.MAP.MIRROR_N.N_A)
    (hMAP_MIRROR_N_N_B : km.fld R.MAP.MIRROR_N.N_B) (s : State) (loc stopsA stopsB : Nat) (hs : s.Keeps km pq) : (State.mirrorN s loc stopsA stopsB).Keeps km pq := by
  unfold State.mirrorN
  repeat' first
    | with_reducible assumption
    | (intro _)
    | with_reducible apply Keep.ite
    | with_reducible apply State.set_good

theorem State.takeImage_good (force : km.part .force) (out : km.part .out) (map : km.part .map) (cmp : km.part .cmp)
    (rdn : km.part .rdn) (any : ∀ f, km.fld f) (s : State) (hs : s.Keeps km pq) : (State.takeImage s).Keeps km pq := by
  unfold State.takeImage
  repeat' first
    | with_reducible assumption
    | (with_reducible (intros; exact any _))
    | ((try lift_lets -underBinder); intro x; refine Keep.use (k := km) (q := pq) (s := x) ?_ ?_; (on_goal 1 => dsimp -zeta only [x]); (on_goal 2 => clear_value x; intro _))
    | ((try lift_lets -underBinder); intro x; refine Keep.usePair (k := km) (q := pq) (p := x) ?_ ?_; (on_goal 1 => dsimp -zeta only [x]); (on_goal 2 => clear_value x; intro _))
    | ((try lift_lets -underBinder); intro x; refine Keep.memSt (x := x) ?_; subst x)
    | ((try lift_lets -underBinder); intro x; refine Keep.depSt (x := x) ?_; subst x)
    | ((try lift_lets -underBinder); intro x; clear_value x)
    | (intro _)
    | with_reducible apply Keep.ite
    | with_reducible apply State.modeChange_good
    | with_reducible apply State.putFields_good
    | with_reducible apply State.set_good
    | with_reducible apply State.setCur_good
    | with_reducible apply State.showCards_good
    | with_reducible apply State.showPanels_good
    | with_reducible apply State.evaluate_good
    | (simp -zeta only [Keep.mk_iff]; with_reducible refine Keep.upd ?_ rfl ?_; on_goal 2 => (and_intros <;> with_reducible first | exact .inl rfl | exact .inl ⟨rfl, rfl, rfl⟩ | exact .inr ‹_› | exact Nat.le_refl _ | exact Nat.le_add_right _ _))
    | with_reducible apply Keep.foldl

theorem State.imageDeparture_good (force : km.part .force) (out : km.part .out) (map : km.part .map)
    (cmp : km.part .cmp) (rdn : km.part .rdn) (any : ∀ f, km.fld f) (s : State) (hs : s.Keeps km pq) : (State.imageDeparture s).Keeps km pq := by
  unfold State.imageDeparture
  repeat' first
    | with_reducible assumption
    | (with_reducible (intros; exact any _))
    | ((try lift_lets -underBinder); intro x; refine Keep.use (k := km) (q := pq) (s := x) ?_ ?_; (on_goal 1 => dsimp -zeta only [x]); (on_goal 2 => clear_value x; intro _))
    | ((try lift_lets -underBinder); intro x; refine Keep.usePair (k := km) (q := pq) (p := x) ?_ ?_; (on_goal 1 => dsimp -zeta only [x]); (on_goal 2 => clear_value x; intro _))
    | ((try lift_lets -underBinder); intro x; refine Keep.memSt (x := x) ?_; subst x)
    | ((try lift_lets -underBinder); intro x; refine Keep.depSt (x := x) ?_; subst x)
    | ((try lift_lets -underBinder); intro x; clear_value x)
    | (intro _)
    | with_reducible apply Keep.ite
    | with_reducible apply State.takeImage_good
    | with_reducible apply State.set_good
    | with_reducible apply State.ev_good
    | split
    | (simp -zeta only [Keep.mk_iff]; with_reducible refine Keep.upd ?_ rfl ?_; on_goal 2 => (and_intros <;> with_reducible first | exact .inl rfl | exact .inl ⟨rfl, rfl, rfl⟩ | exact .inr ‹_› | exact Nat.le_refl _ | exact Nat.le_add_right _ _))

theorem State.reliefDeparture_good (out : km.part .out) (rdn : km.part .rdn)
    (hCOL_MFADE_POS_POS : km.fld R.COL.MFADE_POS.POS) (hLAY_L_FADE_POS_POS : ∀ a, km.fld (R.LAY.L_FADE_POS.POS a))
    (hPG_EVT_PEND : ∀ a, km.fld (R.PG.EVT_PEND a)) (hRDN_MIRROR_LATE_COUNT : km.fld R.RDN.MIRROR_LATE.COUNT)
    (hRDN_RDN_STAT_STATE : km.fld R.RDN.RDN_STAT.STATE) (s : State) (n : Nat) (hs : s.Keeps km pq) : (State.reliefDeparture s n).Keeps km pq := by
  unfold State.reliefDeparture
  repeat' first
    | with_reducible assumption
    | with_reducible exact hLAY_L_FADE_POS_POS _
    | with_reducible exact hPG_EVT_PEND _
    | ((try lift_lets -underBinder); intro x; refine Keep.use (k := km) (q := pq) (s := x) ?_ ?_; (on_goal 1 => dsimp -zeta only [x]); (on_goal 2 => clear_value x; intro _))
    | ((try lift_lets -underBinder); intro x; refine Keep.usePair (k := km) (q := pq) (p := x) ?_ ?_; (on_goal 1 => dsimp -zeta only [x]); (on_goal 2 => clear_value x; intro _))
    | ((try lift_lets -underBinder); intro x; refine Keep.memSt (x := x) ?_; subst x)
    | ((try lift_lets -underBinder); intro x; refine Keep.depSt (x := x) ?_; subst x)
    | ((try lift_lets -underBinder); intro x; clear_value x)
    | (intro _)
    | with_reducible apply Keep.ite
    | with_reducible apply State.set_good
    | with_reducible apply State.count_good
    | with_reducible apply State.syncLost_good
    | split
    | (simp -zeta only [Keep.mk_iff]; with_reducible refine Keep.upd ?_ rfl ?_; on_goal 2 => (and_intros <;> with_reducible first | exact .inl rfl | exact .inl ⟨rfl, rfl, rfl⟩ | exact .inr ‹_› | exact Nat.le_refl _ | exact Nat.le_add_right _ _))
    | with_reducible apply Keep.foldl

end Sys2Proof.Machine
end

