-- ==== Sys2Proof/Laws/KeepsCluster.lean ====
section
/-!
SUPPORT. Every function of Machine/Cluster.lean changes what the hypotheses of its lemma name, and nothing else.
-/
namespace Sys2Proof.Machine
set_option Elab.async false
set_option linter.unusedVariables false
set_option linter.unusedTactic false
set_option linter.unreachableTactic false

variable {km : May} {pq : State}

theorem State.setPhase_good (hCLU_CLU_STAT_PHASE : km.fld R.CLU.CLU_STAT.PHASE) (s : State) (v : Nat)
    (hs : s.Keeps km pq) : (State.setPhase s v).Keeps km pq := by
  unfold State.setPhase
  repeat' first
    | with_reducible assumption
    | (intro _)
    | with_reducible apply State.set_good

theorem State.timeErrors_good (out : km.part .out) (tim : km.part .tim) (line : km.part .line) (clu : km.part .clu)
    (hCLU_CLU_STAT_OUT_OF_TIME : km.fld R.CLU.CLU_STAT.OUT_OF_TIME) (hCLU_TIME_ERR_NS : km.fld R.CLU.TIME_ERR.NS)
    (hPG_EVT_PEND : ∀ a, km.fld (R.PG.EVT_PEND a)) (hTIM_DOM_OFFSET_OFFSET : ∀ a, km.fld (R.TIM.DOM_OFFSET.OFFSET a))
    (hTIM_DOM_RATE_RATE : ∀ a, km.fld (R.TIM.DOM_RATE.RATE a)) (s : State) (hs : s.Keeps km pq) : (State.timeErrors s).Keeps km pq := by
  unfold State.timeErrors
  repeat' first
    | with_reducible assumption
    | with_reducible exact hPG_EVT_PEND _
    | with_reducible exact hTIM_DOM_OFFSET_OFFSET _
    | with_reducible exact hTIM_DOM_RATE_RATE _
    | ((try lift_lets -underBinder); intro x; refine Keep.use (k := km) (q := pq) (s := x) ?_ ?_; (on_goal 1 => dsimp -zeta only [x]); (on_goal 2 => clear_value x; intro _))
    | ((try lift_lets -underBinder); intro x; refine Keep.usePair (k := km) (q := pq) (p := x) ?_ ?_; (on_goal 1 => dsimp -zeta only [x]); (on_goal 2 => clear_value x; intro _))
    | ((try lift_lets -underBinder); intro x; refine Keep.memSt (x := x) ?_; subst x)
    | ((try lift_lets -underBinder); intro x; refine Keep.depSt (x := x) ?_; subst x)
    | ((try lift_lets -underBinder); intro x; clear_value x)
    | (intro _)
    | dsimp -zeta only
    | with_reducible apply State.set_good
    | with_reducible apply State.setLineTx_good
    | with_reducible apply State.filter_good
    | with_reducible apply State.evIf_good
    | split
    | with_reducible refine Keep.fst (by assumption) ?_
    | (simp -zeta only [Keep.mk_iff]; with_reducible refine Keep.upd ?_ rfl ?_; on_goal 2 => (and_intros <;> with_reducible first | exact .inl rfl | exact .inl ⟨rfl, rfl, rfl⟩ | exact .inr ‹_› | exact Nat.le_refl _ | exact Nat.le_add_right _ _))
    | with_reducible apply Keep.foldl
    | with_reducible apply Keep.foldl1

theorem State.showSeen_good (tim : km.part .tim) (hCLU_SEEN_MASK : km.fld R.CLU.SEEN.MASK)
    (hTIM_DOM_OFFSET_OFFSET : ∀ a, km.fld (R.TIM.DOM_OFFSET.OFFSET a))
    (hTIM_DOM_RATE_RATE : ∀ a, km.fld (R.TIM.DOM_RATE.RATE a)) (s : State) (n : Nat) (hs : s.Keeps km pq) : (State.showSeen s n).Keeps km pq := by
  unfold State.showSeen
  repeat' first
    | with_reducible assumption
    | with_reducible exact hTIM_DOM_OFFSET_OFFSET _
    | with_reducible exact hTIM_DOM_RATE_RATE _
    | (intro _)
    | with_reducible apply State.set_good

theorem State.digestCheck_good (out : km.part .out) (tim : km.part .tim) (line : km.part .line) (clu : km.part .clu)
    (hCLU_DIGEST_BAD_MEMBER : km.fld R.CLU.DIGEST_BAD.MEMBER) (hCLU_DIGEST_BAD_PORT : km.fld R.CLU.DIGEST_BAD.PORT)
    (hCLU_DIGEST_BAD_STOP : km.fld R.CLU.DIGEST_BAD.STOP) (hPG_EVT_PEND : ∀ a, km.fld (R.PG.EVT_PEND a))
    (hTIM_DOM_OFFSET_OFFSET : ∀ a, km.fld (R.TIM.DOM_OFFSET.OFFSET a))
    (hTIM_DOM_RATE_RATE : ∀ a, km.fld (R.TIM.DOM_RATE.RATE a)) (s : State) (n : Nat) (hs : s.Keeps km pq) : (State.digestCheck s n).Keeps km pq := by
  unfold State.digestCheck
  repeat' first
    | with_reducible assumption
    | with_reducible exact hPG_EVT_PEND _
    | with_reducible exact hTIM_DOM_OFFSET_OFFSET _
    | with_reducible exact hTIM_DOM_RATE_RATE _
    | ((try lift_lets -underBinder); intro x; refine Keep.use (k := km) (q := pq) (s := x) ?_ ?_; (on_goal 1 => dsimp -zeta only [x]); (on_goal 2 => clear_value x; intro _))
    | ((try lift_lets -underBinder); intro x; refine Keep.usePair (k := km) (q := pq) (p := x) ?_ ?_; (on_goal 1 => dsimp -zeta only [x]); (on_goal 2 => clear_value x; intro _))
    | ((try lift_lets -underBinder); intro x; refine Keep.memSt (x := x) ?_; subst x)
    | ((try lift_lets -underBinder); intro x; refine Keep.depSt (x := x) ?_; subst x)
    | ((try lift_lets -underBinder); intro x; clear_value x)
    | (intro _)
    | with_reducible apply Keep.ite
    | with_reducible apply Keep.ite1
    | dsimp -zeta only
    | with_reducible apply State.filter_good
    | with_reducible apply State.setLineTx_good
    | with_reducible apply State.set_good
    | with_reducible apply State.ev_good
    | split
    | with_reducible refine Keep.fst (by assumption) ?_
    | (simp -zeta only [Keep.mk_iff]; with_reducible refine Keep.upd ?_ rfl ?_; on_goal 2 => (and_intros <;> with_reducible first | exact .inl rfl | exact .inl ⟨rfl, rfl, rfl⟩ | exact .inr ‹_› | exact Nat.le_refl _ | exact Nat.le_add_right _ _))
    | with_reducible apply Keep.foldl
    | with_reducible apply Keep.foldl1

theorem State.recMisses_good (tim : km.part .tim) (clu : km.part .clu)
    (hCLU_REC_MISS_COUNT : km.fld R.CLU.REC_MISS.COUNT)
    (hTIM_DOM_OFFSET_OFFSET : ∀ a, km.fld (R.TIM.DOM_OFFSET.OFFSET a))
    (hTIM_DOM_RATE_RATE : ∀ a, km.fld (R.TIM.DOM_RATE.RATE a)) (s : State) (n : Nat) (hs : s.Keeps km pq) : (State.recMisses s n).Keeps km pq := by
  unfold State.recMisses
  repeat' first
    | with_reducible assumption
    | with_reducible exact hTIM_DOM_OFFSET_OFFSET _
    | with_reducible exact hTIM_DOM_RATE_RATE _
    | ((try lift_lets -underBinder); intro x; refine Keep.use (k := km) (q := pq) (s := x) ?_ ?_; (on_goal 1 => dsimp -zeta only [x]); (on_goal 2 => clear_value x; intro _))
    | ((try lift_lets -underBinder); intro x; refine Keep.usePair (k := km) (q := pq) (p := x) ?_ ?_; (on_goal 1 => dsimp -zeta only [x]); (on_goal 2 => clear_value x; intro _))
    | ((try lift_lets -underBinder); intro x; refine Keep.memSt (x := x) ?_; subst x)
    | ((try lift_lets -underBinder); intro x; refine Keep.depSt (x := x) ?_; subst x)
    | ((try lift_lets -underBinder); intro x; clear_value x)
    | (intro _)
    | with_reducible apply Keep.ite
    | with_reducible apply State.filter_good
    | with_reducible apply State.count_good
    | (simp -zeta only [Keep.mk_iff]; with_reducible refine Keep.upd ?_ rfl ?_; on_goal 2 => (and_intros <;> with_reducible first | exact .inl rfl | exact .inl ⟨rfl, rfl, rfl⟩ | exact .inr ‹_› | exact Nat.le_refl _ | exact Nat.le_add_right _ _))

theorem State.cluBefore_good (out : km.part .out) (tim : km.part .tim) (line : km.part .line) (clu : km.part .clu)
    (hCLU_CLU_STAT_LATE : km.fld R.CLU.CLU_STAT.LATE) (hCLU_CLU_STAT_OUT_OF_TIME : km.fld R.CLU.CLU_STAT.OUT_OF_TIME)
    (hCLU_CLU_STAT_READY : km.fld R.CLU.CLU_STAT.READY) (hCLU_DIGEST_BAD_MEMBER : km.fld R.CLU.DIGEST_BAD.MEMBER)
    (hCLU_DIGEST_BAD_PORT : km.fld R.CLU.DIGEST_BAD.PORT) (hCLU_DIGEST_BAD_STOP : km.fld R.CLU.DIGEST_BAD.STOP)
    (hCLU_REC_MISS_COUNT : km.fld R.CLU.REC_MISS.COUNT) (hCLU_TIME_ERR_NS : km.fld R.CLU.TIME_ERR.NS)
    (hPG_EVT_PEND : ∀ a, km.fld (R.PG.EVT_PEND a)) (hTIM_DOM_OFFSET_OFFSET : ∀ a, km.fld (R.TIM.DOM_OFFSET.OFFSET a))
    (hTIM_DOM_RATE_RATE : ∀ a, km.fld (R.TIM.DOM_RATE.RATE a)) (s : State) (n : Nat) (hs : s.Keeps km pq) : (State.cluBefore s n).Keeps km pq := by
  unfold State.cluBefore
  repeat' first
    | with_reducible assumption
    | with_reducible exact hPG_EVT_PEND _
    | with_reducible exact hTIM_DOM_OFFSET_OFFSET _
    | with_reducible exact hTIM_DOM_RATE_RATE _
    | ((try lift_lets -underBinder); intro x; refine Keep.use (k := km) (q := pq) (s := x) ?_ ?_; (on_goal 1 => dsimp -zeta only [x]); (on_goal 2 => clear_value x; intro _))
    | ((try lift_lets -underBinder); intro x; refine Keep.usePair (k := km) (q := pq) (p := x) ?_ ?_; (on_goal 1 => dsimp -zeta only [x]); (on_goal 2 => clear_value x; intro _))
    | ((try lift_lets -underBinder); intro x; refine Keep.memSt (x := x) ?_; subst x)
    | ((try lift_lets -underBinder); intro x; refine Keep.depSt (x := x) ?_; subst x)
    | ((try lift_lets -underBinder); intro x; clear_value x)
    | (intro _)
    | with_reducible apply Keep.ite
    | with_reducible apply State.recMisses_good
    | with_reducible apply State.digestCheck_good
    | with_reducible apply State.timeErrors_good
    | with_reducible apply State.set_good
    | with_reducible apply State.evIf_good
    | (simp -zeta only [Keep.mk_iff]; with_reducible refine Keep.upd ?_ rfl ?_; on_goal 2 => (and_intros <;> with_reducible first | exact .inl rfl | exact .inl ⟨rfl, rfl, rfl⟩ | exact .inr ‹_› | exact Nat.le_refl _ | exact Nat.le_add_right _ _))

theorem State.cluRequest_good (out : km.part .out) (tim : km.part .tim) (line : km.part .line)
    (hLNE_INFLIGHT_COUNT : ∀ a, km.fld (R.LNE.INFLIGHT.COUNT a))
    (hLNE_STALL_CNT_COUNT : ∀ a, km.fld (R.LNE.STALL_CNT.COUNT a))
    (hTIM_DOM_OFFSET_OFFSET : ∀ a, km.fld (R.TIM.DOM_OFFSET.OFFSET a))
    (hTIM_DOM_RATE_RATE : ∀ a, km.fld (R.TIM.DOM_RATE.RATE a)) (s : State) (p k op loc mask : Nat) (data : List Nat)
    (hs : s.Keeps km pq) : (State.cluRequest s p k op loc mask data).Keeps km pq := by
  unfold State.cluRequest
  repeat' first
    | with_reducible assumption
    | with_reducible exact hLNE_INFLIGHT_COUNT _
    | with_reducible exact hLNE_STALL_CNT_COUNT _
    | with_reducible exact hTIM_DOM_OFFSET_OFFSET _
    | with_reducible exact hTIM_DOM_RATE_RATE _
    | ((try lift_lets -underBinder); intro x; refine Keep.use (k := km) (q := pq) (s := x) ?_ ?_; (on_goal 1 => dsimp -zeta only [x]); (on_goal 2 => clear_value x; intro _))
    | ((try lift_lets -underBinder); intro x; refine Keep.usePair (k := km) (q := pq) (p := x) ?_ ?_; (on_goal 1 => dsimp -zeta only [x]); (on_goal 2 => clear_value x; intro _))
    | ((try lift_lets -underBinder); intro x; refine Keep.memSt (x := x) ?_; subst x)
    | ((try lift_lets -underBinder); intro x; refine Keep.depSt (x := x) ?_; subst x)
    | ((try lift_lets -underBinder); intro x; clear_value x)
    | (intro _)
    | with_reducible apply State.draw_good
    | with_reducible apply State.request_good

theorem State.stopsEntry_good (out : km.part .out) (tim : km.part .tim) (line : km.part .line)
    (hLNE_INFLIGHT_COUNT : ∀ a, km.fld (R.LNE.INFLIGHT.COUNT a))
    (hLNE_STALL_CNT_COUNT : ∀ a, km.fld (R.LNE.STALL_CNT.COUNT a))
    (hTIM_DOM_OFFSET_OFFSET : ∀ a, km.fld (R.TIM.DOM_OFFSET.OFFSET a))
    (hTIM_DOM_RATE_RATE : ∀ a, km.fld (R.TIM.DOM_RATE.RATE a)) (s : State) (stops : List (Nat × Nat)) (i : Nat)
    (e : Entry) (hs : s.Keeps km pq) : (State.stopsEntry s stops i e).Keeps km pq := by
  unfold State.stopsEntry
  repeat' first
    | with_reducible assumption
    | with_reducible exact hLNE_INFLIGHT_COUNT _
    | with_reducible exact hLNE_STALL_CNT_COUNT _
    | with_reducible exact hTIM_DOM_OFFSET_OFFSET _
    | with_reducible exact hTIM_DOM_RATE_RATE _
    | (intro _)
    | with_reducible apply State.cluRequest_good
    | with_reducible apply Keep.foldl

theorem State.ownEntry_good (dep : km.part .dep) (hDEP_DEP_STAT_ARMED : km.fld R.DEP.DEP_STAT.ARMED)
    (hDEP_DEP_STAT_NEXT_IDX : km.fld R.DEP.DEP_STAT.NEXT_IDX) (hDEP_ENT_STATUS_STATE : km.fld R.DEP.ENT_STATUS.STATE)
    (s : State) (i : Nat) (e : Entry) (hs : s.Keeps km pq) : (State.ownEntry s i e).Keeps km pq := by
  unfold State.ownEntry
  repeat' first
    | with_reducible assumption
    | (intro _)
    | with_reducible apply Keep.ite
    | with_reducible apply State.setEntry_good
    | with_reducible apply State.showBoard_good

theorem State.prepare_good (out : km.part .out) (clu : km.part .clu)
    (hCLU_CLU_STAT_PHASE : km.fld R.CLU.CLU_STAT.PHASE) (hCLU_EPOCH_PEND_EPOCH : km.fld R.CLU.EPOCH_PEND.EPOCH)
    (hPG_EVT_PEND : ∀ a, km.fld (R.PG.EVT_PEND a)) (s : State) (epoch flip deadline : Nat) (hs : s.Keeps km pq) : (State.prepare s epoch flip deadline).Keeps km pq := by
  unfold State.prepare
  repeat' first
    | with_reducible assumption
    | with_reducible exact hPG_EVT_PEND _
    | ((try lift_lets -underBinder); intro x; refine Keep.use (k := km) (q := pq) (s := x) ?_ ?_; (on_goal 1 => dsimp -zeta only [x]); (on_goal 2 => clear_value x; intro _))
    | ((try lift_lets -underBinder); intro x; refine Keep.usePair (k := km) (q := pq) (p := x) ?_ ?_; (on_goal 1 => dsimp -zeta only [x]); (on_goal 2 => clear_value x; intro _))
    | ((try lift_lets -underBinder); intro x; refine Keep.memSt (x := x) ?_; subst x)
    | ((try lift_lets -underBinder); intro x; refine Keep.depSt (x := x) ?_; subst x)
    | ((try lift_lets -underBinder); intro x; clear_value x)
    | (intro _)
    | with_reducible apply State.setPhase_good
    | with_reducible apply State.set_good
    | with_reducible apply State.ev_good
    | (simp -zeta only [Keep.mk_iff]; with_reducible refine Keep.upd ?_ rfl ?_; on_goal 2 => (and_intros <;> with_reducible first | exact .inl rfl | exact .inl ⟨rfl, rfl, rfl⟩ | exact .inr ‹_› | exact Nat.le_refl _ | exact Nat.le_add_right _ _))

theorem State.armEpoch_good (out : km.part .out) (tim : km.part .tim) (dep : km.part .dep) (line : km.part .line)
    (clu : km.part .clu) (hCLU_CLU_STAT_PHASE : km.fld R.CLU.CLU_STAT.PHASE)
    (hCLU_EPOCH_PEND_EPOCH : km.fld R.CLU.EPOCH_PEND.EPOCH) (hDEP_DEP_STAT_ARMED : km.fld R.DEP.DEP_STAT.ARMED)
    (hDEP_DEP_STAT_NEXT_IDX : km.fld R.DEP.DEP_STAT.NEXT_IDX) (hDEP_ENT_STATUS_STATE : km.fld R.DEP.ENT_STATUS.STATE)
    (hLNE_INFLIGHT_COUNT : ∀ a, km.fld (R.LNE.INFLIGHT.COUNT a))
    (hLNE_STALL_CNT_COUNT : ∀ a, km.fld (R.LNE.STALL_CNT.COUNT a)) (hPG_EVT_PEND : ∀ a, km.fld (R.PG.EVT_PEND a))
    (hTIM_DOM_OFFSET_OFFSET : ∀ a, km.fld (R.TIM.DOM_OFFSET.OFFSET a))
    (hTIM_DOM_RATE_RATE : ∀ a, km.fld (R.TIM.DOM_RATE.RATE a)) (s : State) (epoch flip : Nat) (hs : s.Keeps km pq) : (State.armEpoch s epoch flip).Keeps km pq := by
  unfold State.armEpoch
  repeat' first
    | with_reducible assumption
    | with_reducible exact hLNE_INFLIGHT_COUNT _
    | with_reducible exact hLNE_STALL_CNT_COUNT _
    | with_reducible exact hPG_EVT_PEND _
    | with_reducible exact hTIM_DOM_OFFSET_OFFSET _
    | with_reducible exact hTIM_DOM_RATE_RATE _
    | ((try lift_lets -underBinder); intro x; refine Keep.use (k := km) (q := pq) (s := x) ?_ ?_; (on_goal 1 => dsimp -zeta only [x]); (on_goal 2 => clear_value x; intro _))
    | ((try lift_lets -underBinder); intro x; refine Keep.usePair (k := km) (q := pq) (p := x) ?_ ?_; (on_goal 1 => dsimp -zeta only [x]); (on_goal 2 => clear_value x; intro _))
    | ((try lift_lets -underBinder); intro x; refine Keep.memSt (x := x) ?_; subst x)
    | ((try lift_lets -underBinder); intro x; refine Keep.depSt (x := x) ?_; subst x)
    | ((try lift_lets -underBinder); intro x; clear_value x)
    | (intro _)
    | with_reducible apply State.ownEntry_good
    | with_reducible apply State.stopsEntry_good
    | with_reducible apply State.setPhase_good
    | with_reducible apply State.set_good
    | with_reducible apply State.ev_good
    | (simp -zeta only [Keep.mk_iff]; with_reducible refine Keep.upd ?_ rfl ?_; on_goal 2 => (and_intros <;> with_reducible first | exact .inl rfl | exact .inl ⟨rfl, rfl, rfl⟩ | exact .inr ‹_› | exact Nat.le_refl _ | exact Nat.le_add_right _ _))

theorem State.cluIdle_good (clu : km.part .clu) (hCLU_CLU_STAT_PHASE : km.fld R.CLU.CLU_STAT.PHASE)
    (hCLU_EPOCH_PEND_EPOCH : km.fld R.CLU.EPOCH_PEND.EPOCH) (s : State) (hs : s.Keeps km pq) : (State.cluIdle s).Keeps km pq := by
  unfold State.cluIdle
  repeat' first
    | with_reducible assumption
    | ((try lift_lets -underBinder); intro x; refine Keep.use (k := km) (q := pq) (s := x) ?_ ?_; (on_goal 1 => dsimp -zeta only [x]); (on_goal 2 => clear_value x; intro _))
    | ((try lift_lets -underBinder); intro x; refine Keep.usePair (k := km) (q := pq) (p := x) ?_ ?_; (on_goal 1 => dsimp -zeta only [x]); (on_goal 2 => clear_value x; intro _))
    | ((try lift_lets -underBinder); intro x; refine Keep.memSt (x := x) ?_; subst x)
    | ((try lift_lets -underBinder); intro x; refine Keep.depSt (x := x) ?_; subst x)
    | ((try lift_lets -underBinder); intro x; clear_value x)
    | (intro _)
    | with_reducible apply State.setPhase_good
    | with_reducible apply State.set_good
    | (simp -zeta only [Keep.mk_iff]; with_reducible refine Keep.upd ?_ rfl ?_; on_goal 2 => (and_intros <;> with_reducible first | exact .inl rfl | exact .inl ⟨rfl, rfl, rfl⟩ | exact .inr ‹_› | exact Nat.le_refl _ | exact Nat.le_add_right _ _))

theorem State.cancelEpoch_good (out : km.part .out) (tim : km.part .tim) (dep : km.part .dep) (line : km.part .line)
    (clu : km.part .clu) (hCLU_CLU_STAT_PHASE : km.fld R.CLU.CLU_STAT.PHASE)
    (hCLU_EPOCH_PEND_EPOCH : km.fld R.CLU.EPOCH_PEND.EPOCH) (hDEP_DEP_STAT_ARMED : km.fld R.DEP.DEP_STAT.ARMED)
    (hDEP_DEP_STAT_NEXT_IDX : km.fld R.DEP.DEP_STAT.NEXT_IDX) (hDEP_ENT_STATUS_STATE : km.fld R.DEP.ENT_STATUS.STATE)
    (hLNE_INFLIGHT_COUNT : ∀ a, km.fld (R.LNE.INFLIGHT.COUNT a))
    (hLNE_STALL_CNT_COUNT : ∀ a, km.fld (R.LNE.STALL_CNT.COUNT a)) (hPG_EVT_PEND : ∀ a, km.fld (R.PG.EVT_PEND a))
    (hTIM_DOM_OFFSET_OFFSET : ∀ a, km.fld (R.TIM.DOM_OFFSET.OFFSET a))
    (hTIM_DOM_RATE_RATE : ∀ a, km.fld (R.TIM.DOM_RATE.RATE a)) (s : State) (epoch : Nat) (hs : s.Keeps km pq) : (State.cancelEpoch s epoch).Keeps km pq := by
  unfold State.cancelEpoch
  repeat' first
    | with_reducible assumption
    | with_reducible exact hLNE_INFLIGHT_COUNT _
    | with_reducible exact hLNE_STALL_CNT_COUNT _
    | with_reducible exact hPG_EVT_PEND _
    | with_reducible exact hTIM_DOM_OFFSET_OFFSET _
    | with_reducible exact hTIM_DOM_RATE_RATE _
    | ((try lift_lets -underBinder); intro x; refine Keep.use (k := km) (q := pq) (s := x) ?_ ?_; (on_goal 1 => dsimp -zeta only [x]); (on_goal 2 => clear_value x; intro _))
    | ((try lift_lets -underBinder); intro x; refine Keep.usePair (k := km) (q := pq) (p := x) ?_ ?_; (on_goal 1 => dsimp -zeta only [x]); (on_goal 2 => clear_value x; intro _))
    | ((try lift_lets -underBinder); intro x; refine Keep.memSt (x := x) ?_; subst x)
    | ((try lift_lets -underBinder); intro x; refine Keep.depSt (x := x) ?_; subst x)
    | ((try lift_lets -underBinder); intro x; clear_value x)
    | (intro _)
    | with_reducible apply Keep.ite
    | with_reducible apply State.filter_good
    | with_reducible apply State.showBoard_good
    | with_reducible apply State.stopsEntry_good
    | with_reducible apply State.cluIdle_good
    | with_reducible apply State.ev_good
    | (simp -zeta only [Keep.mk_iff]; with_reducible refine Keep.upd ?_ rfl ?_; on_goal 2 => (and_intros <;> with_reducible first | exact .inl rfl | exact .inl ⟨rfl, rfl, rfl⟩ | exact .inr ‹_› | exact Nat.le_refl _ | exact Nat.le_add_right _ _))

theorem State.catchUp_good (out : km.part .out) (tim : km.part .tim) (dep : km.part .dep) (line : km.part .line)
    (clu : km.part .clu) (hCLU_CLU_STAT_PHASE : km.fld R.CLU.CLU_STAT.PHASE)
    (hCLU_EPOCH_PEND_EPOCH : km.fld R.CLU.EPOCH_PEND.EPOCH) (hDEP_DEP_STAT_ARMED : km.fld R.DEP.DEP_STAT.ARMED)
    (hDEP_DEP_STAT_NEXT_IDX : km.fld R.DEP.DEP_STAT.NEXT_IDX) (hDEP_ENT_STATUS_STATE : km.fld R.DEP.ENT_STATUS.STATE)
    (hLNE_INFLIGHT_COUNT : ∀ a, km.fld (R.LNE.INFLIGHT.COUNT a))
    (hLNE_STALL_CNT_COUNT : ∀ a, km.fld (R.LNE.STALL_CNT.COUNT a)) (hPG_EVT_PEND : ∀ a, km.fld (R.PG.EVT_PEND a))
    (hTIM_DOM_OFFSET_OFFSET : ∀ a, km.fld (R.TIM.DOM_OFFSET.OFFSET a))
    (hTIM_DOM_RATE_RATE : ∀ a, km.fld (R.TIM.DOM_RATE.RATE a)) (s : State) (epoch : Nat) (hs : s.Keeps km pq) : (State.catchUp s epoch).Keeps km pq := by
  unfold State.catchUp
  repeat' first
    | with_reducible assumption
    | with_reducible exact hLNE_INFLIGHT_COUNT _
    | with_reducible exact hLNE_STALL_CNT_COUNT _
    | with_reducible exact hPG_EVT_PEND _
    | with_reducible exact hTIM_DOM_OFFSET_OFFSET _
    | with_reducible exact hTIM_DOM_RATE_RATE _
    | ((try lift_lets -underBinder); intro x; refine Keep.use (k := km) (q := pq) (s := x) ?_ ?_; (on_goal 1 => dsimp -zeta only [x]); (on_goal 2 => clear_value x; intro _))
    | ((try lift_lets -underBinder); intro x; refine Keep.usePair (k := km) (q := pq) (p := x) ?_ ?_; (on_goal 1 => dsimp -zeta only [x]); (on_goal 2 => clear_value x; intro _))
    | ((try lift_lets -underBinder); intro x; refine Keep.memSt (x := x) ?_; subst x)
    | ((try lift_lets -underBinder); intro x; refine Keep.depSt (x := x) ?_; subst x)
    | ((try lift_lets -underBinder); intro x; clear_value x)
    | (intro _)
    | with_reducible apply Keep.ite
    | with_reducible apply State.ownEntry_good
    | with_reducible apply State.stopsEntry_good
    | with_reducible apply State.setPhase_good
    | with_reducible apply State.set_good
    | with_reducible apply State.ev_good
    | (simp -zeta only [Keep.mk_iff]; with_reducible refine Keep.upd ?_ rfl ?_; on_goal 2 => (and_intros <;> with_reducible first | exact .inl rfl | exact .inl ⟨rfl, rfl, rfl⟩ | exact .inr ‹_› | exact Nat.le_refl _ | exact Nat.le_add_right _ _))

theorem State.takeLevel_good (out : km.part .out) (tim : km.part .tim) (line : km.part .line) (clu : km.part .clu)
    (hCLU_CLU_STAT_LEVEL : km.fld R.CLU.CLU_STAT.LEVEL) (hLNE_INFLIGHT_COUNT : ∀ a, km.fld (R.LNE.INFLIGHT.COUNT a))
    (hLNE_STALL_CNT_COUNT : ∀ a, km.fld (R.LNE.STALL_CNT.COUNT a))
    (hLNK_PORT_CTRL_LEVEL_MAX : ∀ a, km.fld (R.LNK.PORT_CTRL.LEVEL_MAX a))
    (hPG_EVT_PEND : ∀ a, km.fld (R.PG.EVT_PEND a)) (hTIM_DOM_OFFSET_OFFSET : ∀ a, km.fld (R.TIM.DOM_OFFSET.OFFSET a))
    (hTIM_DOM_RATE_RATE : ∀ a, km.fld (R.TIM.DOM_RATE.RATE a)) (s : State) (v : Nat) (hs : s.Keeps km pq) : (State.takeLevel s v).Keeps km pq := by
  unfold State.takeLevel
  repeat' first
    | with_reducible assumption
    | with_reducible exact hLNE_INFLIGHT_COUNT _
    | with_reducible exact hLNE_STALL_CNT_COUNT _
    | with_reducible exact hLNK_PORT_CTRL_LEVEL_MAX _
    | with_reducible exact hPG_EVT_PEND _
    | with_reducible exact hTIM_DOM_OFFSET_OFFSET _
    | with_reducible exact hTIM_DOM_RATE_RATE _
    | ((try lift_lets -underBinder); intro x; refine Keep.use (k := km) (q := pq) (s := x) ?_ ?_; (on_goal 1 => dsimp -zeta only [x]); (on_goal 2 => clear_value x; intro _))
    | ((try lift_lets -underBinder); intro x; refine Keep.usePair (k := km) (q := pq) (p := x) ?_ ?_; (on_goal 1 => dsimp -zeta only [x]); (on_goal 2 => clear_value x; intro _))
    | ((try lift_lets -underBinder); intro x; refine Keep.memSt (x := x) ?_; subst x)
    | ((try lift_lets -underBinder); intro x; refine Keep.depSt (x := x) ?_; subst x)
    | ((try lift_lets -underBinder); intro x; clear_value x)
    | (intro _)
    | with_reducible apply Keep.ite
    | with_reducible apply State.set_good
    | with_reducible apply State.forN_good
    | with_reducible apply State.cluRequest_good
    | with_reducible apply State.evIf_good
    | (simp -zeta only [Keep.mk_iff]; with_reducible refine Keep.upd ?_ rfl ?_; on_goal 2 => (and_intros <;> with_reducible first | exact .inl rfl | exact .inl ⟨rfl, rfl, rfl⟩ | exact .inr ‹_› | exact Nat.le_refl _ | exact Nat.le_add_right _ _))
    | with_reducible apply Keep.foldl

theorem State.issue_good (clu : km.part .clu) (s : State) (cmd arg : Nat) (hs : s.Keeps km pq) : (State.issue s cmd arg).Keeps km pq := by
  unfold State.issue
  repeat' first
    | with_reducible assumption
    | ((try lift_lets -underBinder); intro x; refine Keep.use (k := km) (q := pq) (s := x) ?_ ?_; (on_goal 1 => dsimp -zeta only [x]); (on_goal 2 => clear_value x; intro _))
    | ((try lift_lets -underBinder); intro x; refine Keep.usePair (k := km) (q := pq) (p := x) ?_ ?_; (on_goal 1 => dsimp -zeta only [x]); (on_goal 2 => clear_value x; intro _))
    | ((try lift_lets -underBinder); intro x; refine Keep.memSt (x := x) ?_; subst x)
    | ((try lift_lets -underBinder); intro x; refine Keep.depSt (x := x) ?_; subst x)
    | ((try lift_lets -underBinder); intro x; clear_value x)
    | (intro _)
    | (simp -zeta only [Keep.mk_iff]; with_reducible refine Keep.upd ?_ rfl ?_; on_goal 2 => (and_intros <;> with_reducible first | exact .inl rfl | exact .inl ⟨rfl, rfl, rfl⟩ | exact .inr ‹_› | exact Nat.le_refl _ | exact Nat.le_add_right _ _))

theorem State.masterStep_good (out : km.part .out) (tim : km.part .tim) (dep : km.part .dep) (line : km.part .line)
    (clu : km.part .clu) (hCLU_CLU_STAT_LEVEL : km.fld R.CLU.CLU_STAT.LEVEL)
    (hCLU_CLU_STAT_PHASE : km.fld R.CLU.CLU_STAT.PHASE) (hCLU_EPOCH_PEND_EPOCH : km.fld R.CLU.EPOCH_PEND.EPOCH)
    (hCLU_LATE_MASK_MASK : km.fld R.CLU.LATE_MASK.MASK) (hCLU_READY_MASK_MASK : km.fld R.CLU.READY_MASK.MASK)
    (hDEP_DEP_STAT_ARMED : km.fld R.DEP.DEP_STAT.ARMED) (hDEP_DEP_STAT_NEXT_IDX : km.fld R.DEP.DEP_STAT.NEXT_IDX)
    (hDEP_ENT_STATUS_STATE : km.fld R.DEP.ENT_STATUS.STATE)
    (hLNE_INFLIGHT_COUNT : ∀ a, km.fld (R.LNE.INFLIGHT.COUNT a))
    (hLNE_STALL_CNT_COUNT : ∀ a, km.fld (R.LNE.STALL_CNT.COUNT a))
    (hLNK_PORT_CTRL_LEVEL_MAX : ∀ a, km.fld (R.LNK.PORT_CTRL.LEVEL_MAX a))
    (hPG_EVT_PEND : ∀ a, km.fld (R.PG.EVT_PEND a)) (hTIM_DOM_OFFSET_OFFSET : ∀ a, km.fld (R.TIM.DOM_OFFSET.OFFSET a))
    (hTIM_DOM_RATE_RATE : ∀ a, km.fld (R.TIM.DOM_RATE.RATE a)) (s : State) (n : Nat) (hs : s.Keeps km pq) : (State.masterStep s n).Keeps km pq := by
  unfold State.masterStep
  repeat' first
    | with_reducible assumption
    | with_reducible exact hLNE_INFLIGHT_COUNT _
    | with_reducible exact hLNE_STALL_CNT_COUNT _
    | with_reducible exact hLNK_PORT_CTRL_LEVEL_MAX _
    | with_reducible exact hPG_EVT_PEND _
    | with_reducible exact hTIM_DOM_OFFSET_OFFSET _
    | with_reducible exact hTIM_DOM_RATE_RATE _
    | ((try lift_lets -underBinder); intro x; refine Keep.use (k := km) (q := pq) (s := x) ?_ ?_; (on_goal 1 => dsimp -zeta only [x]); (on_goal 2 => clear_value x; intro _))
    | ((try lift_lets -underBinder); intro x; refine Keep.usePair (k := km) (q := pq) (p := x) ?_ ?_; (on_goal 1 => dsimp -zeta only [x]); (on_goal 2 => clear_value x; intro _))
    | ((try lift_lets -underBinder); intro x; refine Keep.memSt (x := x) ?_; subst x)
    | ((try lift_lets -underBinder); intro x; refine Keep.depSt (x := x) ?_; subst x)
    | ((try lift_lets -underBinder); intro x; clear_value x)
    | (intro _)
    | with_reducible apply Keep.ite
    | with_reducible apply State.set_good
    | with_reducible apply State.filter_good
    | with_reducible apply State.takeLevel_good
    | with_reducible apply State.issue_good
    | with_reducible apply State.armEpoch_good
    | with_reducible apply State.cancelEpoch_good
    | with_reducible apply State.catchUp_good
    | with_reducible apply State.evIf_good
    | split

theorem State.sendCluster_good (out : km.part .out) (hETH_TX_FRAMES_COUNT : ∀ a, km.fld (R.ETH.TX_FRAMES.COUNT a))
    (s : State) (r : ClusterRec) (hs : s.Keeps km pq) : (State.sendCluster s r).Keeps km pq := by
  unfold State.sendCluster
  repeat' first
    | with_reducible assumption
    | with_reducible exact hETH_TX_FRAMES_COUNT _
    | ((try lift_lets -underBinder); intro x; refine Keep.use (k := km) (q := pq) (s := x) ?_ ?_; (on_goal 1 => dsimp -zeta only [x]); (on_goal 2 => clear_value x; intro _))
    | ((try lift_lets -underBinder); intro x; refine Keep.usePair (k := km) (q := pq) (p := x) ?_ ?_; (on_goal 1 => dsimp -zeta only [x]); (on_goal 2 => clear_value x; intro _))
    | ((try lift_lets -underBinder); intro x; refine Keep.memSt (x := x) ?_; subst x)
    | ((try lift_lets -underBinder); intro x; refine Keep.depSt (x := x) ?_; subst x)
    | ((try lift_lets -underBinder); intro x; clear_value x)
    | (intro _)
    | with_reducible apply Keep.ite
    | with_reducible apply State.emit_good
    | with_reducible apply State.forN_good
    | with_reducible apply State.ethSent_good

theorem State.cluAfter_good (out : km.part .out) (tim : km.part .tim) (dep : km.part .dep) (line : km.part .line)
    (clu : km.part .clu) (hCLU_CLU_STAT_IS_MASTER : km.fld R.CLU.CLU_STAT.IS_MASTER)
    (hCLU_CLU_STAT_LEVEL : km.fld R.CLU.CLU_STAT.LEVEL) (hCLU_CLU_STAT_PHASE : km.fld R.CLU.CLU_STAT.PHASE)
    (hCLU_EPOCH_PEND_EPOCH : km.fld R.CLU.EPOCH_PEND.EPOCH) (hCLU_LATE_MASK_MASK : km.fld R.CLU.LATE_MASK.MASK)
    (hCLU_READY_MASK_MASK : km.fld R.CLU.READY_MASK.MASK) (hCLU_SEEN_MASK : km.fld R.CLU.SEEN.MASK)
    (hDEP_DEP_STAT_ARMED : km.fld R.DEP.DEP_STAT.ARMED) (hDEP_DEP_STAT_NEXT_IDX : km.fld R.DEP.DEP_STAT.NEXT_IDX)
    (hDEP_ENT_STATUS_STATE : km.fld R.DEP.ENT_STATUS.STATE)
    (hETH_TX_FRAMES_COUNT : ∀ a, km.fld (R.ETH.TX_FRAMES.COUNT a))
    (hLNE_INFLIGHT_COUNT : ∀ a, km.fld (R.LNE.INFLIGHT.COUNT a))
    (hLNE_STALL_CNT_COUNT : ∀ a, km.fld (R.LNE.STALL_CNT.COUNT a))
    (hLNK_PORT_CTRL_LEVEL_MAX : ∀ a, km.fld (R.LNK.PORT_CTRL.LEVEL_MAX a))
    (hPG_EVT_PEND : ∀ a, km.fld (R.PG.EVT_PEND a)) (hTIM_DOM_OFFSET_OFFSET : ∀ a, km.fld (R.TIM.DOM_OFFSET.OFFSET a))
    (hTIM_DOM_RATE_RATE : ∀ a, km.fld (R.TIM.DOM_RATE.RATE a)) (s : State) (n : Nat) (hs : s.Keeps km pq) : (State.cluAfter s n).Keeps km pq := by
  unfold State.cluAfter
  repeat' first
    | with_reducible assumption
    | with_reducible exact hETH_TX_FRAMES_COUNT _
    | with_reducible exact hLNE_INFLIGHT_COUNT _
    | with_reducible exact hLNE_STALL_CNT_COUNT _
    | with_reducible exact hLNK_PORT_CTRL_LEVEL_MAX _
    | with_reducible exact hPG_EVT_PEND _
    | with_reducible exact hTIM_DOM_OFFSET_OFFSET _
    | with_reducible exact hTIM_DOM_RATE_RATE _
    | ((try lift_lets -underBinder); intro x; refine Keep.use (k := km) (q := pq) (s := x) ?_ ?_; (on_goal 1 => dsimp -zeta only [x]); (on_goal 2 => clear_value x; intro _))
    | ((try lift_lets -underBinder); intro x; refine Keep.usePair (k := km) (q := pq) (p := x) ?_ ?_; (on_goal 1 => dsimp -zeta only [x]); (on_goal 2 => clear_value x; intro _))
    | ((try lift_lets -underBinder); intro x; refine Keep.memSt (x := x) ?_; subst x)
    | ((try lift_lets -underBinder); intro x; refine Keep.depSt (x := x) ?_; subst x)
    | ((try lift_lets -underBinder); intro x; clear_value x)
    | (intro _)
    | with_reducible apply Keep.ite
    | with_reducible apply State.set_good
    | with_reducible apply State.cluIdle_good
    | with_reducible apply State.masterStep_good
    | with_reducible apply State.showSeen_good
    | with_reducible apply State.sendCluster_good

end Sys2Proof.Machine
end

