-- ==== Sys2Proof/Laws/KeepsVideo.lean ====
section
/-!
SUPPORT. Every function of Machine/Video.lean changes what the hypotheses of its lemma name, and nothing else.
-/
namespace Sys2Proof.Machine
set_option Elab.async false
set_option linter.unusedVariables false
set_option linter.unusedTactic false
set_option linter.unreachableTactic false

variable {km : May} {pq : State}

theorem State.frameError_good (out : km.part .out) (tim : km.part .tim) (mem : km.part .mem) (dram : km.part .dram)
    (scn : km.part .scn) (cor : km.part .cor) (rai : km.part .rai) (lfm : km.part .lfm) (line : km.part .line)
    (rdn : km.part .rdn) (any : ∀ f, km.fld f) (s : State) (p cause : Nat) (hs : s.Keeps km pq) : (State.frameError s p cause).Keeps km pq := by
  unfold State.frameError
  repeat' first
    | with_reducible assumption
    | (with_reducible (intros; exact any _))
    | ((try lift_lets -underBinder); intro x; refine Keep.use (k := km) (q := pq) (s := x) ?_ ?_; (on_goal 1 => dsimp -zeta only [x]); (on_goal 2 => clear_value x; intro _))
    | ((try lift_lets -underBinder); intro x; refine Keep.usePair (k := km) (q := pq) (p := x) ?_ ?_; (on_goal 1 => dsimp -zeta only [x]); (on_goal 2 => clear_value x; intro _))
    | ((try lift_lets -underBinder); intro x; refine Keep.memSt (x := x) ?_; subst x)
    | ((try lift_lets -underBinder); intro x; refine Keep.depSt (x := x) ?_; subst x)
    | ((try lift_lets -underBinder); intro x; clear_value x)
    | (intro _)
    | with_reducible apply Keep.ite
    | with_reducible apply State.setStream_good
    | with_reducible apply State.count_good
    | with_reducible apply State.ev_good
    | with_reducible apply State.skip_good
    | with_reducible apply State.markBad_good
    | with_reducible apply State.streamFail_good
    | split

theorem State.farEnd_good (out : km.part .out) (tim : km.part .tim) (map : km.part .map) (cmp : km.part .cmp)
    (line : km.part .line) (rdn : km.part .rdn) (any : ∀ f, km.fld f) (s : State) (h : FrameHdr) (member : Nat)
    (hs : s.Keeps km pq) : (State.farEnd s h member).Keeps km pq := by
  unfold State.farEnd
  repeat' first
    | with_reducible assumption
    | (with_reducible (intros; exact any _))
    | ((try lift_lets -underBinder); intro x; refine Keep.use (k := km) (q := pq) (s := x) ?_ ?_; (on_goal 1 => dsimp -zeta only [x]); (on_goal 2 => clear_value x; intro _))
    | ((try lift_lets -underBinder); intro x; refine Keep.usePair (k := km) (q := pq) (p := x) ?_ ?_; (on_goal 1 => dsimp -zeta only [x]); (on_goal 2 => clear_value x; intro _))
    | ((try lift_lets -underBinder); intro x; refine Keep.memSt (x := x) ?_; subst x)
    | ((try lift_lets -underBinder); intro x; refine Keep.depSt (x := x) ?_; subst x)
    | ((try lift_lets -underBinder); intro x; clear_value x)
    | (intro _)
    | with_reducible apply Keep.ite
    | with_reducible apply State.set_good
    | with_reducible apply State.resync_good
    | with_reducible apply State.sendImage_good
    | with_reducible apply State.depose_good
    | (simp -zeta only [Keep.mk_iff]; with_reducible refine Keep.upd ?_ rfl ?_; on_goal 2 => (and_intros <;> with_reducible first | exact .inl rfl | exact .inl ⟨rfl, rfl, rfl⟩ | exact .inr ‹_› | exact Nat.le_refl _ | exact Nat.le_add_right _ _))

theorem State.tileHeader_good (out : km.part .out) (tim : km.part .tim) (mem : km.part .mem) (dram : km.part .dram)
    (scn : km.part .scn) (cor : km.part .cor) (rai : km.part .rai) (lfm : km.part .lfm) (line : km.part .line)
    (any : ∀ f, km.fld f) (s : State) (p : Nat) (h : FrameHdr) (skip : Bool) (hs : s.Keeps km pq) : (State.tileHeader s p h skip).Keeps km pq := by
  unfold State.tileHeader
  repeat' first
    | with_reducible assumption
    | (with_reducible (intros; exact any _))
    | (intro _)
    | with_reducible apply Keep.ite
    | with_reducible apply State.standbyPut_good
    | with_reducible apply State.preferLead_good
    | with_reducible apply State.count_good
    | with_reducible apply State.copyCoding_good
    | with_reducible apply State.openView_good

theorem State.takeHeader_good (out : km.part .out) (tim : km.part .tim) (map : km.part .map) (cmp : km.part .cmp)
    (mem : km.part .mem) (dram : km.part .dram) (scn : km.part .scn) (cor : km.part .cor) (rai : km.part .rai)
    (lfm : km.part .lfm) (line : km.part .line) (rdn : km.part .rdn) (any : ∀ f, km.fld f) (s : State) (p : Nat)
    (h : FrameHdr) (member : Nat) (hs : s.Keeps km pq) : (State.takeHeader s p h member).Keeps km pq := by
  unfold State.takeHeader
  repeat' first
    | with_reducible assumption
    | (with_reducible (intros; exact any _))
    | ((try lift_lets -underBinder); intro x; refine Keep.use (k := km) (q := pq) (s := x) ?_ ?_; (on_goal 1 => dsimp -zeta only [x]); (on_goal 2 => clear_value x; intro _))
    | ((try lift_lets -underBinder); intro x; refine Keep.usePair (k := km) (q := pq) (p := x) ?_ ?_; (on_goal 1 => dsimp -zeta only [x]); (on_goal 2 => clear_value x; intro _))
    | ((try lift_lets -underBinder); intro x; refine Keep.memSt (x := x) ?_; subst x)
    | ((try lift_lets -underBinder); intro x; refine Keep.depSt (x := x) ?_; subst x)
    | ((try lift_lets -underBinder); intro x; clear_value x)
    | (intro _)
    | with_reducible apply Keep.ite
    | with_reducible apply State.setStream_good
    | with_reducible apply State.streamFail_good
    | with_reducible apply State.handover_good
    | with_reducible apply State.farEnd_good
    | with_reducible apply State.tileHeader_good
    | split

theorem State.frameHeader_good (out : km.part .out) (tim : km.part .tim) (map : km.part .map) (cmp : km.part .cmp)
    (mem : km.part .mem) (dram : km.part .dram) (scn : km.part .scn) (cor : km.part .cor) (rai : km.part .rai)
    (lfm : km.part .lfm) (line : km.part .line) (rdn : km.part .rdn) (any : ∀ f, km.fld f) (s : State) (p : Nat)
    (h : FrameHdr) (crcOk : Bool) (member : Nat) (hs : s.Keeps km pq) : (State.frameHeader s p h crcOk member).Keeps km pq := by
  unfold State.frameHeader
  repeat' first
    | with_reducible assumption
    | (with_reducible (intros; exact any _))
    | ((try lift_lets -underBinder); intro x; refine Keep.use (k := km) (q := pq) (s := x) ?_ ?_; (on_goal 1 => dsimp -zeta only [x]); (on_goal 2 => clear_value x; intro _))
    | ((try lift_lets -underBinder); intro x; refine Keep.usePair (k := km) (q := pq) (p := x) ?_ ?_; (on_goal 1 => dsimp -zeta only [x]); (on_goal 2 => clear_value x; intro _))
    | ((try lift_lets -underBinder); intro x; refine Keep.memSt (x := x) ?_; subst x)
    | ((try lift_lets -underBinder); intro x; refine Keep.depSt (x := x) ?_; subst x)
    | ((try lift_lets -underBinder); intro x; clear_value x)
    | (intro _)
    | with_reducible apply Keep.ite
    | with_reducible apply State.frameError_good
    | with_reducible apply State.takeHeader_good

theorem State.shareHeader_good (out : km.part .out) (tim : km.part .tim) (mem : km.part .mem) (dram : km.part .dram)
    (scn : km.part .scn) (cor : km.part .cor) (rai : km.part .rai) (lfm : km.part .lfm) (line : km.part .line)
    (rdn : km.part .rdn) (any : ∀ f, km.fld f) (s : State) (p : Nat) (k : ShareHdr) (crcOk : Bool)
    (hs : s.Keeps km pq) : (State.shareHeader s p k crcOk).Keeps km pq := by
  unfold State.shareHeader
  repeat' first
    | with_reducible assumption
    | (with_reducible (intros; exact any _))
    | ((try lift_lets -underBinder); intro x; refine Keep.use (k := km) (q := pq) (s := x) ?_ ?_; (on_goal 1 => dsimp -zeta only [x]); (on_goal 2 => clear_value x; intro _))
    | ((try lift_lets -underBinder); intro x; refine Keep.usePair (k := km) (q := pq) (p := x) ?_ ?_; (on_goal 1 => dsimp -zeta only [x]); (on_goal 2 => clear_value x; intro _))
    | ((try lift_lets -underBinder); intro x; refine Keep.memSt (x := x) ?_; subst x)
    | ((try lift_lets -underBinder); intro x; refine Keep.depSt (x := x) ?_; subst x)
    | ((try lift_lets -underBinder); intro x; clear_value x)
    | (intro _)
    | with_reducible apply Keep.ite
    | with_reducible apply State.frameError_good
    | with_reducible apply State.setStream_good
    | with_reducible apply State.standbyPut_good
    | with_reducible apply State.skip_good
    | with_reducible apply State.openShare_good
    | split

theorem State.segmentHeader_good (out : km.part .out) (tim : km.part .tim) (mem : km.part .mem)
    (dram : km.part .dram) (scn : km.part .scn) (cor : km.part .cor) (rai : km.part .rai) (lfm : km.part .lfm)
    (line : km.part .line) (rdn : km.part .rdn) (any : ∀ f, km.fld f) (s : State) (p view round frame : Nat)
    (crcOk : Bool) (hs : s.Keeps km pq) : (State.segmentHeader s p view round frame crcOk).Keeps km pq := by
  unfold State.segmentHeader
  repeat' first
    | with_reducible assumption
    | (with_reducible (intros; exact any _))
    | ((try lift_lets -underBinder); intro x; refine Keep.use (k := km) (q := pq) (s := x) ?_ ?_; (on_goal 1 => dsimp -zeta only [x]); (on_goal 2 => clear_value x; intro _))
    | ((try lift_lets -underBinder); intro x; refine Keep.usePair (k := km) (q := pq) (p := x) ?_ ?_; (on_goal 1 => dsimp -zeta only [x]); (on_goal 2 => clear_value x; intro _))
    | ((try lift_lets -underBinder); intro x; refine Keep.memSt (x := x) ?_; subst x)
    | ((try lift_lets -underBinder); intro x; refine Keep.depSt (x := x) ?_; subst x)
    | ((try lift_lets -underBinder); intro x; clear_value x)
    | (intro _)
    | with_reducible apply Keep.ite
    | with_reducible apply State.frameError_good
    | with_reducible apply State.setStream_good
    | split

theorem State.ownRow_good (out : km.part .out) (tim : km.part .tim) (mem : km.part .mem) (dram : km.part .dram)
    (scn : km.part .scn) (cor : km.part .cor) (line : km.part .line) (any : ∀ f, km.fld f) (s : State)
    (p v y bits : Nat) (k : ShareHdr) (h : FrameHdr) (skip : Bool) (bad : List Nat) (hs : s.Keeps km pq) : (State.ownRow s p v y bits k h skip bad).Keeps km pq := by
  unfold State.ownRow
  repeat' first
    | with_reducible assumption
    | (with_reducible (intros; exact any _))
    | ((try lift_lets -underBinder); intro x; refine Keep.use (k := km) (q := pq) (s := x) ?_ ?_; (on_goal 1 => dsimp -zeta only [x]); (on_goal 2 => clear_value x; intro _))
    | ((try lift_lets -underBinder); intro x; refine Keep.usePair (k := km) (q := pq) (p := x) ?_ ?_; (on_goal 1 => dsimp -zeta only [x]); (on_goal 2 => clear_value x; intro _))
    | ((try lift_lets -underBinder); intro x; refine Keep.memSt (x := x) ?_; subst x)
    | ((try lift_lets -underBinder); intro x; refine Keep.depSt (x := x) ?_; subst x)
    | ((try lift_lets -underBinder); intro x; clear_value x)
    | (intro _)
    | with_reducible apply Keep.ite
    | with_reducible apply State.lineCrc_good
    | with_reducible apply State.takeRow_good
    | with_reducible apply State.ringPut_good

theorem State.rowData_good (out : km.part .out) (tim : km.part .tim) (mem : km.part .mem) (dram : km.part .dram)
    (scn : km.part .scn) (cor : km.part .cor) (rai : km.part .rai) (lfm : km.part .lfm) (line : km.part .line)
    (rdn : km.part .rdn) (any : ∀ f, km.fld f) (s : State) (p r bits : Nat) (bad : List Nat) (hs : s.Keeps km pq) : (State.rowData s p r bits bad).Keeps km pq := by
  unfold State.rowData
  repeat' first
    | with_reducible assumption
    | (with_reducible (intros; exact any _))
    | ((try lift_lets -underBinder); intro x; refine Keep.use (k := km) (q := pq) (s := x) ?_ ?_; (on_goal 1 => dsimp -zeta only [x]); (on_goal 2 => clear_value x; intro _))
    | ((try lift_lets -underBinder); intro x; refine Keep.usePair (k := km) (q := pq) (p := x) ?_ ?_; (on_goal 1 => dsimp -zeta only [x]); (on_goal 2 => clear_value x; intro _))
    | ((try lift_lets -underBinder); intro x; refine Keep.memSt (x := x) ?_; subst x)
    | ((try lift_lets -underBinder); intro x; refine Keep.depSt (x := x) ?_; subst x)
    | ((try lift_lets -underBinder); intro x; clear_value x)
    | (intro _)
    | with_reducible apply Keep.ite
    | with_reducible apply State.frameError_good
    | with_reducible apply State.setStream_good
    | with_reducible apply State.ownRow_good
    | with_reducible apply State.skip_good
    | split

theorem State.shareTrailer_good (out : km.part .out) (tim : km.part .tim) (mem : km.part .mem) (dram : km.part .dram)
    (scn : km.part .scn) (cor : km.part .cor) (rai : km.part .rai) (lfm : km.part .lfm) (line : km.part .line)
    (rdn : km.part .rdn) (any : ∀ f, km.fld f) (s : State) (p : Nat) (tr : ShareTrl) (crcOk : Bool)
    (hs : s.Keeps km pq) : (State.shareTrailer s p tr crcOk).Keeps km pq := by
  unfold State.shareTrailer
  repeat' first
    | with_reducible assumption
    | (with_reducible (intros; exact any _))
    | ((try lift_lets -underBinder); intro x; refine Keep.use (k := km) (q := pq) (s := x) ?_ ?_; (on_goal 1 => dsimp -zeta only [x]); (on_goal 2 => clear_value x; intro _))
    | ((try lift_lets -underBinder); intro x; refine Keep.usePair (k := km) (q := pq) (p := x) ?_ ?_; (on_goal 1 => dsimp -zeta only [x]); (on_goal 2 => clear_value x; intro _))
    | ((try lift_lets -underBinder); intro x; refine Keep.memSt (x := x) ?_; subst x)
    | ((try lift_lets -underBinder); intro x; refine Keep.depSt (x := x) ?_; subst x)
    | ((try lift_lets -underBinder); intro x; clear_value x)
    | (intro _)
    | with_reducible apply Keep.ite
    | with_reducible apply State.frameError_good
    | with_reducible apply State.setStream_good
    | with_reducible apply State.standbyPut_good
    | with_reducible apply State.skip_good
    | with_reducible apply State.judgeShare_good
    | with_reducible apply State.forN_good
    | with_reducible apply State.closeBand_good
    | split

theorem State.viewTrailer_good (out : km.part .out) (tim : km.part .tim) (mem : km.part .mem) (dram : km.part .dram)
    (scn : km.part .scn) (cor : km.part .cor) (rai : km.part .rai) (lfm : km.part .lfm) (line : km.part .line)
    (rdn : km.part .rdn) (any : ∀ f, km.fld f) (s : State) (p view frame : Nat) (crcOk : Bool) (hs : s.Keeps km pq) : (State.viewTrailer s p view frame crcOk).Keeps km pq := by
  unfold State.viewTrailer
  repeat' first
    | with_reducible assumption
    | (with_reducible (intros; exact any _))
    | ((try lift_lets -underBinder); intro x; refine Keep.use (k := km) (q := pq) (s := x) ?_ ?_; (on_goal 1 => dsimp -zeta only [x]); (on_goal 2 => clear_value x; intro _))
    | ((try lift_lets -underBinder); intro x; refine Keep.usePair (k := km) (q := pq) (p := x) ?_ ?_; (on_goal 1 => dsimp -zeta only [x]); (on_goal 2 => clear_value x; intro _))
    | ((try lift_lets -underBinder); intro x; refine Keep.memSt (x := x) ?_; subst x)
    | ((try lift_lets -underBinder); intro x; refine Keep.depSt (x := x) ?_; subst x)
    | ((try lift_lets -underBinder); intro x; clear_value x)
    | (intro _)
    | with_reducible apply Keep.ite
    | with_reducible apply State.frameError_good
    | with_reducible apply State.setStream_good
    | split

theorem State.leadWaitEnd_good (rdn : km.part .rdn) (hRDN_RDN_STAT_STATE : km.fld R.RDN.RDN_STAT.STATE) (s : State)
    (hs : s.Keeps km pq) : (State.leadWaitEnd s).Keeps km pq := by
  unfold State.leadWaitEnd
  repeat' first
    | with_reducible assumption
    | ((try lift_lets -underBinder); intro x; refine Keep.use (k := km) (q := pq) (s := x) ?_ ?_; (on_goal 1 => dsimp -zeta only [x]); (on_goal 2 => clear_value x; intro _))
    | ((try lift_lets -underBinder); intro x; refine Keep.usePair (k := km) (q := pq) (p := x) ?_ ?_; (on_goal 1 => dsimp -zeta only [x]); (on_goal 2 => clear_value x; intro _))
    | ((try lift_lets -underBinder); intro x; refine Keep.memSt (x := x) ?_; subst x)
    | ((try lift_lets -underBinder); intro x; refine Keep.depSt (x := x) ?_; subst x)
    | ((try lift_lets -underBinder); intro x; clear_value x)
    | (intro _)
    | with_reducible apply Keep.ite
    | with_reducible apply State.set_good
    | (simp -zeta only [Keep.mk_iff]; with_reducible refine Keep.upd ?_ rfl ?_; on_goal 2 => (and_intros <;> with_reducible first | exact .inl rfl | exact .inl ⟨rfl, rfl, rfl⟩ | exact .inr ‹_› | exact Nat.le_refl _ | exact Nat.le_add_right _ _))

theorem State.handover_good (out : km.part .out) (rdn : km.part .rdn)
    (hPG_ERR_ADDR_HI : ∀ a, km.fld (R.PG.ERR_ADDR_HI a)) (hPG_ERR_ADDR_LO : ∀ a, km.fld (R.PG.ERR_ADDR_LO a))
    (hPG_ERR_CODE : ∀ a, km.fld (R.PG.ERR_CODE a)) (hPG_ERR_COUNT : ∀ a, km.fld (R.PG.ERR_COUNT a))
    (hPG_ERR_OVERFLOW : ∀ a, km.fld (R.PG.ERR_OVERFLOW a)) (hPG_ERR_SOURCE : ∀ a, km.fld (R.PG.ERR_SOURCE a))
    (hPG_ERR_VALID : ∀ a, km.fld (R.PG.ERR_VALID a)) (hPG_EVT_PEND : ∀ a, km.fld (R.PG.EVT_PEND a)) (s : State)
    (hs : s.Keeps km pq) : (State.handover s).Keeps km pq := by
  unfold State.handover
  repeat' first
    | with_reducible assumption
    | with_reducible exact hPG_ERR_ADDR_HI _
    | with_reducible exact hPG_ERR_ADDR_LO _
    | with_reducible exact hPG_ERR_CODE _
    | with_reducible exact hPG_ERR_COUNT _
    | with_reducible exact hPG_ERR_OVERFLOW _
    | with_reducible exact hPG_ERR_SOURCE _
    | with_reducible exact hPG_ERR_VALID _
    | with_reducible exact hPG_EVT_PEND _
    | ((try lift_lets -underBinder); intro x; refine Keep.use (k := km) (q := pq) (s := x) ?_ ?_; (on_goal 1 => dsimp -zeta only [x]); (on_goal 2 => clear_value x; intro _))
    | ((try lift_lets -underBinder); intro x; refine Keep.usePair (k := km) (q := pq) (p := x) ?_ ?_; (on_goal 1 => dsimp -zeta only [x]); (on_goal 2 => clear_value x; intro _))
    | ((try lift_lets -underBinder); intro x; refine Keep.memSt (x := x) ?_; subst x)
    | ((try lift_lets -underBinder); intro x; refine Keep.depSt (x := x) ?_; subst x)
    | ((try lift_lets -underBinder); intro x; clear_value x)
    | (intro _)
    | with_reducible apply Keep.ite
    | with_reducible apply State.ev_good
    | with_reducible apply State.err_good
    | (simp -zeta only [Keep.mk_iff]; with_reducible refine Keep.upd ?_ rfl ?_; on_goal 2 => (and_intros <;> with_reducible first | exact .inl rfl | exact .inl ⟨rfl, rfl, rfl⟩ | exact .inr ‹_› | exact Nat.le_refl _ | exact Nat.le_add_right _ _))

theorem State.resync_good (rdn : km.part .rdn) (hRDN_RDN_STAT_STATE : km.fld R.RDN.RDN_STAT.STATE) (s : State)
    (hs : s.Keeps km pq) : (State.resync s).Keeps km pq := by
  unfold State.resync
  repeat' first
    | with_reducible assumption
    | (intro _)
    | with_reducible apply Keep.ite
    | with_reducible apply State.toSyncing_good

theorem execFrameHeader_good (frc : km.part .frc) (out : km.part .out) (tim : km.part .tim) (map : km.part .map)
    (cmp : km.part .cmp) (mem : km.part .mem) (dram : km.part .dram) (scn : km.part .scn) (cor : km.part .cor)
    (rai : km.part .rai) (lfm : km.part .lfm) (line : km.part .line) (rdn : km.part .rdn) (any : ∀ f, km.fld f)
    (p : Nat) (h : FrameHdr) (crcOk : Bool) (member t : Nat) (s : State) (hs : s.Keeps km pq) : ∀ st, execFrameHeader p h crcOk member t s = .next st → st.Keeps km pq := by
  unfold execFrameHeader
  refine run_good hs (fun s hs => ?_)
  repeat' first
    | with_reducible assumption
    | (with_reducible (intros; exact any _))
    | (intro _)
    | with_reducible apply State.tick_good
    | with_reducible apply State.frameHeader_good

theorem execShareHeader_good (frc : km.part .frc) (out : km.part .out) (tim : km.part .tim) (mem : km.part .mem)
    (dram : km.part .dram) (scn : km.part .scn) (cor : km.part .cor) (rai : km.part .rai) (lfm : km.part .lfm)
    (line : km.part .line) (rdn : km.part .rdn) (any : ∀ f, km.fld f) (p : Nat) (k : ShareHdr) (crcOk : Bool)
    (t : Nat) (s : State) (hs : s.Keeps km pq) : ∀ st, execShareHeader p k crcOk t s = .next st → st.Keeps km pq := by
  unfold execShareHeader
  refine run_good hs (fun s hs => ?_)
  repeat' first
    | with_reducible assumption
    | (with_reducible (intros; exact any _))
    | (intro _)
    | with_reducible apply State.tick_good
    | with_reducible apply State.shareHeader_good

theorem execSegmentHeader_good (frc : km.part .frc) (out : km.part .out) (tim : km.part .tim) (mem : km.part .mem)
    (dram : km.part .dram) (scn : km.part .scn) (cor : km.part .cor) (rai : km.part .rai) (lfm : km.part .lfm)
    (line : km.part .line) (rdn : km.part .rdn) (any : ∀ f, km.fld f) (p view round frame : Nat) (crcOk : Bool)
    (t : Nat) (s : State) (hs : s.Keeps km pq) : ∀ st, execSegmentHeader p view round frame crcOk t s = .next st → st.Keeps km pq := by
  unfold execSegmentHeader
  refine run_good hs (fun s hs => ?_)
  repeat' first
    | with_reducible assumption
    | (with_reducible (intros; exact any _))
    | (intro _)
    | with_reducible apply State.tick_good
    | with_reducible apply State.segmentHeader_good

theorem execRowData_good (frc : km.part .frc) (out : km.part .out) (tim : km.part .tim) (mem : km.part .mem)
    (dram : km.part .dram) (scn : km.part .scn) (cor : km.part .cor) (rai : km.part .rai) (lfm : km.part .lfm)
    (line : km.part .line) (rdn : km.part .rdn) (any : ∀ f, km.fld f) (p round bits : Nat) (bad : List Nat) (t : Nat)
    (s : State) (hs : s.Keeps km pq) : ∀ st, execRowData p round bits bad t s = .next st → st.Keeps km pq := by
  unfold execRowData
  refine run_good hs (fun s hs => ?_)
  repeat' first
    | with_reducible assumption
    | (with_reducible (intros; exact any _))
    | (intro _)
    | with_reducible apply State.tick_good
    | with_reducible apply State.rowData_good

theorem execShareTrailer_good (frc : km.part .frc) (out : km.part .out) (tim : km.part .tim) (mem : km.part .mem)
    (dram : km.part .dram) (scn : km.part .scn) (cor : km.part .cor) (rai : km.part .rai) (lfm : km.part .lfm)
    (line : km.part .line) (rdn : km.part .rdn) (any : ∀ f, km.fld f) (p : Nat) (tr : ShareTrl) (crcOk : Bool)
    (t : Nat) (s : State) (hs : s.Keeps km pq) : ∀ st, execShareTrailer p tr crcOk t s = .next st → st.Keeps km pq := by
  unfold execShareTrailer
  refine run_good hs (fun s hs => ?_)
  repeat' first
    | with_reducible assumption
    | (with_reducible (intros; exact any _))
    | (intro _)
    | with_reducible apply State.tick_good
    | with_reducible apply State.shareTrailer_good

theorem execViewTrailer_good (frc : km.part .frc) (out : km.part .out) (tim : km.part .tim) (mem : km.part .mem)
    (dram : km.part .dram) (scn : km.part .scn) (cor : km.part .cor) (rai : km.part .rai) (lfm : km.part .lfm)
    (line : km.part .line) (rdn : km.part .rdn) (any : ∀ f, km.fld f) (p view frame : Nat) (crcOk : Bool) (t : Nat)
    (s : State) (hs : s.Keeps km pq) : ∀ st, execViewTrailer p view frame crcOk t s = .next st → st.Keeps km pq := by
  unfold execViewTrailer
  refine run_good hs (fun s hs => ?_)
  repeat' first
    | with_reducible assumption
    | (with_reducible (intros; exact any _))
    | (intro _)
    | with_reducible apply State.tick_good
    | with_reducible apply State.viewTrailer_good

theorem execStreamGap_good (frc : km.part .frc) (out : km.part .out) (tim : km.part .tim) (mem : km.part .mem)
    (dram : km.part .dram) (scn : km.part .scn) (cor : km.part .cor) (rai : km.part .rai) (lfm : km.part .lfm)
    (line : km.part .line) (rdn : km.part .rdn) (any : ∀ f, km.fld f) (p t : Nat) (s : State) (hs : s.Keeps km pq) : ∀ st, execStreamGap p t s = .next st → st.Keeps km pq := by
  unfold execStreamGap
  refine run_good hs (fun s hs => ?_)
  repeat' first
    | with_reducible assumption
    | (with_reducible (intros; exact any _))
    | (intro _)
    | with_reducible apply State.tick_good
    | with_reducible apply State.streamFail_good

theorem execLeadWaitEnd_good (frc : km.part .frc) (rdn : km.part .rdn)
    (hRDN_RDN_STAT_STATE : km.fld R.RDN.RDN_STAT.STATE) (t : Nat) (s : State) (hs : s.Keeps km pq) : ∀ st, execLeadWaitEnd t s = .next st → st.Keeps km pq := by
  unfold execLeadWaitEnd
  refine runIn_good hs (fun s hs => ?_)
  repeat' first
    | with_reducible assumption
    | (intro _)
    | with_reducible apply State.tick_good
    | with_reducible apply State.leadWaitEnd_good

theorem execHandover_good (frc : km.part .frc) (out : km.part .out) (rdn : km.part .rdn)
    (hPG_ERR_ADDR_HI : ∀ a, km.fld (R.PG.ERR_ADDR_HI a)) (hPG_ERR_ADDR_LO : ∀ a, km.fld (R.PG.ERR_ADDR_LO a))
    (hPG_ERR_CODE : ∀ a, km.fld (R.PG.ERR_CODE a)) (hPG_ERR_COUNT : ∀ a, km.fld (R.PG.ERR_COUNT a))
    (hPG_ERR_OVERFLOW : ∀ a, km.fld (R.PG.ERR_OVERFLOW a)) (hPG_ERR_SOURCE : ∀ a, km.fld (R.PG.ERR_SOURCE a))
    (hPG_ERR_VALID : ∀ a, km.fld (R.PG.ERR_VALID a)) (hPG_EVT_PEND : ∀ a, km.fld (R.PG.EVT_PEND a)) (t : Nat)
    (s : State) (hs : s.Keeps km pq) : ∀ st, execHandover t s = .next st → st.Keeps km pq := by
  unfold execHandover
  refine runIn_good hs (fun s hs => ?_)
  repeat' first
    | with_reducible assumption
    | with_reducible exact hPG_ERR_ADDR_HI _
    | with_reducible exact hPG_ERR_ADDR_LO _
    | with_reducible exact hPG_ERR_CODE _
    | with_reducible exact hPG_ERR_COUNT _
    | with_reducible exact hPG_ERR_OVERFLOW _
    | with_reducible exact hPG_ERR_SOURCE _
    | with_reducible exact hPG_ERR_VALID _
    | with_reducible exact hPG_EVT_PEND _
    | (intro _)
    | with_reducible apply State.tick_good
    | with_reducible apply State.handover_good

theorem execResyncRelief_good (frc : km.part .frc) (rdn : km.part .rdn)
    (hRDN_RDN_STAT_STATE : km.fld R.RDN.RDN_STAT.STATE) (t : Nat) (s : State) (hs : s.Keeps km pq) : ∀ st, execResyncRelief t s = .next st → st.Keeps km pq := by
  unfold execResyncRelief
  refine runIn_good hs (fun s hs => ?_)
  repeat' first
    | with_reducible assumption
    | (intro _)
    | with_reducible apply State.tick_good
    | with_reducible apply State.resync_good

end Sys2Proof.Machine
end

