-- ==== Sys2Proof/Laws/KeepsFrame.lean ====
section
/-!
SUPPORT. Every function of Machine/Frame.lean changes what the hypotheses of its lemma name, and nothing else.
-/
namespace Sys2Proof.Machine
set_option Elab.async false
set_option linter.unusedVariables false
set_option linter.unusedTactic false
set_option linter.unreachableTactic false

variable {km : May} {pq : State}

theorem State.fallbackOn_good (out : km.part .out)
    (hDEP_MODE_CHECK_DEP_PENDING : km.fld R.DEP.MODE_CHECK.DEP_PENDING)
    (hDEP_MODE_CHECK_EPOCH_PENDING : km.fld R.DEP.MODE_CHECK.EPOCH_PENDING)
    (hDEP_MODE_CHECK_FIELDS : km.fld R.DEP.MODE_CHECK.FIELDS) (hDEP_MODE_CHECK_RULE : km.fld R.DEP.MODE_CHECK.RULE)
    (hDEP_MODE_CHECK_VALID : km.fld R.DEP.MODE_CHECK.VALID)
    (hDEP_MODE_CTRL_FB_ACTIVE : km.fld R.DEP.MODE_CTRL.FB_ACTIVE)
    (hDEP_MODE_CTRL_FB_VALID : km.fld R.DEP.MODE_CTRL.FB_VALID)
    (hDEP_MODE_CTRL_LAST_CAUSE : km.fld R.DEP.MODE_CTRL.LAST_CAUSE)
    (hDEP_MODE_CUR_CODING_A : km.fld R.DEP.MODE_CUR.CODING_A)
    (hDEP_MODE_CUR_CODING_B : km.fld R.DEP.MODE_CUR.CODING_B) (hDEP_MODE_CUR_EMIT : km.fld R.DEP.MODE_CUR.EMIT)
    (hDEP_MODE_CUR_REDUN : km.fld R.DEP.MODE_CUR.REDUN) (hDEP_MODE_CUR_SCAN : km.fld R.DEP.MODE_CUR.SCAN)
    (hDEP_MODE_CUR_SINK : km.fld R.DEP.MODE_CUR.SINK) (hDEP_MODE_CUR_TIMING : km.fld R.DEP.MODE_CUR.TIMING)
    (hDEP_MODE_CUR_VIEWS : km.fld R.DEP.MODE_CUR.VIEWS) (hPG_EVT_PEND : ∀ a, km.fld (R.PG.EVT_PEND a)) (s : State)
    (hs : s.Keeps km pq) : (State.fallbackOn s).Keeps km pq := by
  unfold State.fallbackOn
  repeat' first
    | with_reducible assumption
    | with_reducible exact hPG_EVT_PEND _
    | ((try lift_lets -underBinder); intro x; refine Keep.use (k := km) (q := pq) (s := x) ?_ ?_; (on_goal 1 => dsimp -zeta only [x]); (on_goal 2 => clear_value x; intro _))
    | ((try lift_lets -underBinder); intro x; refine Keep.usePair (k := km) (q := pq) (p := x) ?_ ?_; (on_goal 1 => dsimp -zeta only [x]); (on_goal 2 => clear_value x; intro _))
    | ((try lift_lets -underBinder); intro x; refine Keep.memSt (x := x) ?_; subst x)
    | ((try lift_lets -underBinder); intro x; refine Keep.depSt (x := x) ?_; subst x)
    | ((try lift_lets -underBinder); intro x; clear_value x)
    | (intro _)
    | with_reducible apply State.set_good
    | with_reducible apply State.modeChange_good
    | with_reducible apply State.evaluate_good

theorem State.fallbackOff_good (out : km.part .out)
    (hDEP_MODE_CHECK_DEP_PENDING : km.fld R.DEP.MODE_CHECK.DEP_PENDING)
    (hDEP_MODE_CHECK_EPOCH_PENDING : km.fld R.DEP.MODE_CHECK.EPOCH_PENDING)
    (hDEP_MODE_CHECK_FIELDS : km.fld R.DEP.MODE_CHECK.FIELDS) (hDEP_MODE_CHECK_RULE : km.fld R.DEP.MODE_CHECK.RULE)
    (hDEP_MODE_CHECK_VALID : km.fld R.DEP.MODE_CHECK.VALID)
    (hDEP_MODE_CTRL_FB_ACTIVE : km.fld R.DEP.MODE_CTRL.FB_ACTIVE)
    (hDEP_MODE_CTRL_FB_VALID : km.fld R.DEP.MODE_CTRL.FB_VALID)
    (hDEP_MODE_CTRL_LAST_CAUSE : km.fld R.DEP.MODE_CTRL.LAST_CAUSE)
    (hDEP_MODE_CUR_CODING_A : km.fld R.DEP.MODE_CUR.CODING_A)
    (hDEP_MODE_CUR_CODING_B : km.fld R.DEP.MODE_CUR.CODING_B) (hDEP_MODE_CUR_EMIT : km.fld R.DEP.MODE_CUR.EMIT)
    (hDEP_MODE_CUR_REDUN : km.fld R.DEP.MODE_CUR.REDUN) (hDEP_MODE_CUR_SCAN : km.fld R.DEP.MODE_CUR.SCAN)
    (hDEP_MODE_CUR_SINK : km.fld R.DEP.MODE_CUR.SINK) (hDEP_MODE_CUR_TIMING : km.fld R.DEP.MODE_CUR.TIMING)
    (hDEP_MODE_CUR_VIEWS : km.fld R.DEP.MODE_CUR.VIEWS) (hPG_EVT_PEND : ∀ a, km.fld (R.PG.EVT_PEND a)) (s : State)
    (hs : s.Keeps km pq) : (State.fallbackOff s).Keeps km pq := by
  unfold State.fallbackOff
  repeat' first
    | with_reducible assumption
    | with_reducible exact hPG_EVT_PEND _
    | ((try lift_lets -underBinder); intro x; refine Keep.use (k := km) (q := pq) (s := x) ?_ ?_; (on_goal 1 => dsimp -zeta only [x]); (on_goal 2 => clear_value x; intro _))
    | ((try lift_lets -underBinder); intro x; refine Keep.usePair (k := km) (q := pq) (p := x) ?_ ?_; (on_goal 1 => dsimp -zeta only [x]); (on_goal 2 => clear_value x; intro _))
    | ((try lift_lets -underBinder); intro x; refine Keep.memSt (x := x) ?_; subst x)
    | ((try lift_lets -underBinder); intro x; refine Keep.depSt (x := x) ?_; subst x)
    | ((try lift_lets -underBinder); intro x; clear_value x)
    | (intro _)
    | with_reducible apply Keep.ite
    | with_reducible apply State.set_good
    | with_reducible apply State.modeChange_good
    | with_reducible apply State.evaluate_good

theorem State.setDiv_good (hCMP_CMP_STAT_ENG_DIV : km.fld R.CMP.CMP_STAT.ENG_DIV) (s : State) (v : Nat)
    (hs : s.Keeps km pq) : (State.setDiv s v).Keeps km pq := by
  unfold State.setDiv
  repeat' first
    | with_reducible assumption
    | (intro _)
    | with_reducible apply State.set_good

theorem State.restored_good (out : km.part .out) (tim : km.part .tim) (mbx : km.part .mbx)
    (hHKT_HKT_STAT_THR_STATE : km.fld R.HKT.HKT_STAT.THR_STATE)
    (hMBX_M_REFUSED_COUNT : ∀ a b, km.fld (R.MBX.M_REFUSED.COUNT a b))
    (hMBX_M_STAT_RX_COUNT : ∀ a b, km.fld (R.MBX.M_STAT.RX_COUNT a b))
    (hMBX_M_STAT_RX_POISON : ∀ a b, km.fld (R.MBX.M_STAT.RX_POISON a b))
    (hMBX_M_STAT_TX_FULL : ∀ a b, km.fld (R.MBX.M_STAT.TX_FULL a b))
    (hMBX_M_STAT_TX_INFLIGHT : ∀ a b, km.fld (R.MBX.M_STAT.TX_INFLIGHT a b))
    (hMBX_RX_DATA : ∀ a b c, km.fld (R.MBX.RX.DATA a b c)) (hPG_EVT_PEND : ∀ a, km.fld (R.PG.EVT_PEND a))
    (hTIM_DOM_OFFSET_OFFSET : ∀ a, km.fld (R.TIM.DOM_OFFSET.OFFSET a))
    (hTIM_DOM_RATE_RATE : ∀ a, km.fld (R.TIM.DOM_RATE.RATE a)) (s : State) (hs : s.Keeps km pq) : (State.restored s).Keeps km pq := by
  unfold State.restored
  repeat' first
    | with_reducible assumption
    | with_reducible exact hMBX_M_REFUSED_COUNT _ _
    | with_reducible exact hMBX_M_STAT_RX_COUNT _ _
    | with_reducible exact hMBX_M_STAT_RX_POISON _ _
    | with_reducible exact hMBX_M_STAT_TX_FULL _ _
    | with_reducible exact hMBX_M_STAT_TX_INFLIGHT _ _
    | with_reducible exact hMBX_RX_DATA _ _ _
    | with_reducible exact hPG_EVT_PEND _
    | with_reducible exact hTIM_DOM_OFFSET_OFFSET _
    | with_reducible exact hTIM_DOM_RATE_RATE _
    | (intro _)
    | with_reducible apply Keep.ite
    | with_reducible apply State.setThr_good

theorem State.throttleApply_good (out : km.part .out) (dep : km.part .dep) (hkt : km.part .hkt)
    (hCMP_CMP_STAT_ENG_DIV : km.fld R.CMP.CMP_STAT.ENG_DIV)
    (hDEP_MODE_CHECK_DEP_PENDING : km.fld R.DEP.MODE_CHECK.DEP_PENDING)
    (hDEP_MODE_CHECK_EPOCH_PENDING : km.fld R.DEP.MODE_CHECK.EPOCH_PENDING)
    (hDEP_MODE_CHECK_FIELDS : km.fld R.DEP.MODE_CHECK.FIELDS) (hDEP_MODE_CHECK_RULE : km.fld R.DEP.MODE_CHECK.RULE)
    (hDEP_MODE_CHECK_VALID : km.fld R.DEP.MODE_CHECK.VALID)
    (hDEP_MODE_CTRL_FB_ACTIVE : km.fld R.DEP.MODE_CTRL.FB_ACTIVE)
    (hDEP_MODE_CTRL_FB_VALID : km.fld R.DEP.MODE_CTRL.FB_VALID)
    (hDEP_MODE_CTRL_LAST_CAUSE : km.fld R.DEP.MODE_CTRL.LAST_CAUSE)
    (hDEP_MODE_CUR_CODING_A : km.fld R.DEP.MODE_CUR.CODING_A)
    (hDEP_MODE_CUR_CODING_B : km.fld R.DEP.MODE_CUR.CODING_B) (hDEP_MODE_CUR_EMIT : km.fld R.DEP.MODE_CUR.EMIT)
    (hDEP_MODE_CUR_REDUN : km.fld R.DEP.MODE_CUR.REDUN) (hDEP_MODE_CUR_SCAN : km.fld R.DEP.MODE_CUR.SCAN)
    (hDEP_MODE_CUR_SINK : km.fld R.DEP.MODE_CUR.SINK) (hDEP_MODE_CUR_TIMING : km.fld R.DEP.MODE_CUR.TIMING)
    (hDEP_MODE_CUR_VIEWS : km.fld R.DEP.MODE_CUR.VIEWS) (hPG_EVT_PEND : ∀ a, km.fld (R.PG.EVT_PEND a)) (s : State)
    (n : Nat) (hs : s.Keeps km pq) : (State.throttleApply s n).Keeps km pq := by
  unfold State.throttleApply
  repeat' first
    | with_reducible assumption
    | with_reducible exact hPG_EVT_PEND _
    | ((try lift_lets -underBinder); intro x; refine Keep.use (k := km) (q := pq) (s := x) ?_ ?_; (on_goal 1 => dsimp -zeta only [x]); (on_goal 2 => clear_value x; intro _))
    | ((try lift_lets -underBinder); intro x; refine Keep.usePair (k := km) (q := pq) (p := x) ?_ ?_; (on_goal 1 => dsimp -zeta only [x]); (on_goal 2 => clear_value x; intro _))
    | ((try lift_lets -underBinder); intro x; refine Keep.memSt (x := x) ?_; subst x)
    | ((try lift_lets -underBinder); intro x; refine Keep.depSt (x := x) ?_; subst x)
    | ((try lift_lets -underBinder); intro x; clear_value x)
    | (intro _)
    | with_reducible apply Keep.ite
    | with_reducible apply State.fallbackOn_good
    | with_reducible apply State.setDiv_good
    | with_reducible apply State.fallbackOff_good
    | split
    | (simp -zeta only [Keep.mk_iff]; with_reducible refine Keep.upd ?_ rfl ?_; on_goal 2 => (and_intros <;> with_reducible first | exact .inl rfl | exact .inl ⟨rfl, rfl, rfl⟩ | exact .inr ‹_› | exact Nat.le_refl _ | exact Nat.le_add_right _ _))

theorem State.throttleDeparture_good (out : km.part .out) (tim : km.part .tim) (dep : km.part .dep)
    (hkt : km.part .hkt) (mbx : km.part .mbx) (hCMP_CMP_STAT_ENG_DIV : km.fld R.CMP.CMP_STAT.ENG_DIV)
    (hDEP_MODE_CHECK_DEP_PENDING : km.fld R.DEP.MODE_CHECK.DEP_PENDING)
    (hDEP_MODE_CHECK_EPOCH_PENDING : km.fld R.DEP.MODE_CHECK.EPOCH_PENDING)
    (hDEP_MODE_CHECK_FIELDS : km.fld R.DEP.MODE_CHECK.FIELDS) (hDEP_MODE_CHECK_RULE : km.fld R.DEP.MODE_CHECK.RULE)
    (hDEP_MODE_CHECK_VALID : km.fld R.DEP.MODE_CHECK.VALID)
    (hDEP_MODE_CTRL_FB_ACTIVE : km.fld R.DEP.MODE_CTRL.FB_ACTIVE)
    (hDEP_MODE_CTRL_FB_VALID : km.fld R.DEP.MODE_CTRL.FB_VALID)
    (hDEP_MODE_CTRL_LAST_CAUSE : km.fld R.DEP.MODE_CTRL.LAST_CAUSE)
    (hDEP_MODE_CUR_CODING_A : km.fld R.DEP.MODE_CUR.CODING_A)
    (hDEP_MODE_CUR_CODING_B : km.fld R.DEP.MODE_CUR.CODING_B) (hDEP_MODE_CUR_EMIT : km.fld R.DEP.MODE_CUR.EMIT)
    (hDEP_MODE_CUR_REDUN : km.fld R.DEP.MODE_CUR.REDUN) (hDEP_MODE_CUR_SCAN : km.fld R.DEP.MODE_CUR.SCAN)
    (hDEP_MODE_CUR_SINK : km.fld R.DEP.MODE_CUR.SINK) (hDEP_MODE_CUR_TIMING : km.fld R.DEP.MODE_CUR.TIMING)
    (hDEP_MODE_CUR_VIEWS : km.fld R.DEP.MODE_CUR.VIEWS) (hHKT_HKT_STAT_THR_STATE : km.fld R.HKT.HKT_STAT.THR_STATE)
    (hMBX_M_REFUSED_COUNT : ∀ a b, km.fld (R.MBX.M_REFUSED.COUNT a b))
    (hMBX_M_STAT_RX_COUNT : ∀ a b, km.fld (R.MBX.M_STAT.RX_COUNT a b))
    (hMBX_M_STAT_RX_POISON : ∀ a b, km.fld (R.MBX.M_STAT.RX_POISON a b))
    (hMBX_M_STAT_TX_FULL : ∀ a b, km.fld (R.MBX.M_STAT.TX_FULL a b))
    (hMBX_M_STAT_TX_INFLIGHT : ∀ a b, km.fld (R.MBX.M_STAT.TX_INFLIGHT a b))
    (hMBX_RX_DATA : ∀ a b c, km.fld (R.MBX.RX.DATA a b c)) (hPG_EVT_PEND : ∀ a, km.fld (R.PG.EVT_PEND a))
    (hTIM_DOM_OFFSET_OFFSET : ∀ a, km.fld (R.TIM.DOM_OFFSET.OFFSET a))
    (hTIM_DOM_RATE_RATE : ∀ a, km.fld (R.TIM.DOM_RATE.RATE a)) (s : State) (n : Nat) (hs : s.Keeps km pq) : (State.throttleDeparture s n).Keeps km pq := by
  unfold State.throttleDeparture
  repeat' first
    | with_reducible assumption
    | with_reducible exact hMBX_M_REFUSED_COUNT _ _
    | with_reducible exact hMBX_M_STAT_RX_COUNT _ _
    | with_reducible exact hMBX_M_STAT_RX_POISON _ _
    | with_reducible exact hMBX_M_STAT_TX_FULL _ _
    | with_reducible exact hMBX_M_STAT_TX_INFLIGHT _ _
    | with_reducible exact hMBX_RX_DATA _ _ _
    | with_reducible exact hPG_EVT_PEND _
    | with_reducible exact hTIM_DOM_OFFSET_OFFSET _
    | with_reducible exact hTIM_DOM_RATE_RATE _
    | (intro _)
    | with_reducible apply Keep.ite
    | with_reducible apply State.throttleApply_good
    | with_reducible apply State.restored_good

theorem State.dueWidths_good (out : km.part .out) (tim : km.part .tim) (dep : km.part .dep) (line : km.part .line)
    (hDEP_MODE_CHECK_DEP_PENDING : km.fld R.DEP.MODE_CHECK.DEP_PENDING)
    (hDEP_MODE_CHECK_EPOCH_PENDING : km.fld R.DEP.MODE_CHECK.EPOCH_PENDING)
    (hDEP_MODE_CHECK_FIELDS : km.fld R.DEP.MODE_CHECK.FIELDS) (hDEP_MODE_CHECK_RULE : km.fld R.DEP.MODE_CHECK.RULE)
    (hDEP_MODE_CHECK_VALID : km.fld R.DEP.MODE_CHECK.VALID)
    (hDEP_MODE_CTRL_FB_VALID : km.fld R.DEP.MODE_CTRL.FB_VALID)
    (hDEP_MODE_CTRL_LAST_CAUSE : km.fld R.DEP.MODE_CTRL.LAST_CAUSE)
    (hDEP_MODE_CUR_CODING_A : km.fld R.DEP.MODE_CUR.CODING_A)
    (hDEP_MODE_CUR_CODING_B : km.fld R.DEP.MODE_CUR.CODING_B) (hDEP_MODE_CUR_EMIT : km.fld R.DEP.MODE_CUR.EMIT)
    (hDEP_MODE_CUR_REDUN : km.fld R.DEP.MODE_CUR.REDUN) (hDEP_MODE_CUR_SCAN : km.fld R.DEP.MODE_CUR.SCAN)
    (hDEP_MODE_CUR_SINK : km.fld R.DEP.MODE_CUR.SINK) (hDEP_MODE_CUR_TIMING : km.fld R.DEP.MODE_CUR.TIMING)
    (hDEP_MODE_CUR_VIEWS : km.fld R.DEP.MODE_CUR.VIEWS) (hDEP_MODE_NEXT_CODING_A : km.fld R.DEP.MODE_NEXT.CODING_A)
    (hDEP_MODE_NEXT_CODING_B : km.fld R.DEP.MODE_NEXT.CODING_B) (hDEP_MODE_NEXT_EMIT : km.fld R.DEP.MODE_NEXT.EMIT)
    (hDEP_MODE_NEXT_REDUN : km.fld R.DEP.MODE_NEXT.REDUN) (hDEP_MODE_NEXT_SCAN : km.fld R.DEP.MODE_NEXT.SCAN)
    (hDEP_MODE_NEXT_SINK : km.fld R.DEP.MODE_NEXT.SINK) (hDEP_MODE_NEXT_TIMING : km.fld R.DEP.MODE_NEXT.TIMING)
    (hDEP_MODE_NEXT_VIEWS : km.fld R.DEP.MODE_NEXT.VIEWS)
    (hLNK_LINE_STAT_BREAK : ∀ a, km.fld (R.LNK.LINE_STAT.BREAK a))
    (hLNK_LINE_STAT_LINE_WIDTH : ∀ a, km.fld (R.LNK.LINE_STAT.LINE_WIDTH a))
    (hLNK_LINE_STAT_NARROW_STOP : ∀ a, km.fld (R.LNK.LINE_STAT.NARROW_STOP a))
    (hPG_EVT_PEND : ∀ a, km.fld (R.PG.EVT_PEND a)) (s : State) (hs : s.Keeps km pq) : (State.dueWidths s).Keeps km pq := by
  unfold State.dueWidths
  repeat' first
    | with_reducible assumption
    | with_reducible exact hLNK_LINE_STAT_BREAK _
    | with_reducible exact hLNK_LINE_STAT_LINE_WIDTH _
    | with_reducible exact hLNK_LINE_STAT_NARROW_STOP _
    | with_reducible exact hPG_EVT_PEND _
    | (intro _)
    | with_reducible apply Keep.ite
    | with_reducible apply State.forN_good
    | with_reducible apply State.policyDue_good
    | with_reducible apply State.applyPolicy_good
    | with_reducible apply State.sendChanged_good

theorem State.senderBefore_good (out : km.part .out) (tim : km.part .tim) (cmp : km.part .cmp) (mem : km.part .mem)
    (dram : km.part .dram) (line : km.part .line) (rdn : km.part .rdn) (clu : km.part .clu) (any : ∀ f, km.fld f)
    (s : State) (n : Nat) (hs : s.Keeps km pq) : (State.senderBefore s n).Keeps km pq := by
  unfold State.senderBefore
  repeat' first
    | with_reducible assumption
    | (with_reducible (intros; exact any _))
    | ((try lift_lets -underBinder); intro x; refine Keep.use (k := km) (q := pq) (s := x) ?_ ?_; (on_goal 1 => dsimp -zeta only [x]); (on_goal 2 => clear_value x; intro _))
    | ((try lift_lets -underBinder); intro x; refine Keep.usePair (k := km) (q := pq) (p := x) ?_ ?_; (on_goal 1 => dsimp -zeta only [x]); (on_goal 2 => clear_value x; intro _))
    | ((try lift_lets -underBinder); intro x; refine Keep.memSt (x := x) ?_; subst x)
    | ((try lift_lets -underBinder); intro x; refine Keep.depSt (x := x) ?_; subst x)
    | ((try lift_lets -underBinder); intro x; clear_value x)
    | (intro _)
    | with_reducible apply State.monitorTake_good
    | with_reducible apply State.telMisses_good
    | with_reducible apply State.cluBefore_good
    | with_reducible apply State.reliefDeparture_good
    | split

theorem State.senderDeparture_good (force : km.part .force) (out : km.part .out) (tim : km.part .tim)
    (dep : km.part .dep) (ing : km.part .ing) (map : km.part .map) (cmp : km.part .cmp) (mem : km.part .mem)
    (dram : km.part .dram) (scn : km.part .scn) (cor : km.part .cor) (rai : km.part .rai) (lfm : km.part .lfm)
    (hkt : km.part .hkt) (line : km.part .line) (rdn : km.part .rdn) (clu : km.part .clu) (mbx : km.part .mbx)
    (any : ∀ f, km.fld f) (s : State) (n : Nat) (hs : s.Keeps km pq) : (State.senderDeparture s n).Keeps km pq := by
  unfold State.senderDeparture
  repeat' first
    | with_reducible assumption
    | (with_reducible (intros; exact any _))
    | ((try lift_lets -underBinder); intro x; refine Keep.use (k := km) (q := pq) (s := x) ?_ ?_; (on_goal 1 => dsimp -zeta only [x]); (on_goal 2 => clear_value x; intro _))
    | ((try lift_lets -underBinder); intro x; refine Keep.usePair (k := km) (q := pq) (p := x) ?_ ?_; (on_goal 1 => dsimp -zeta only [x]); (on_goal 2 => clear_value x; intro _))
    | ((try lift_lets -underBinder); intro x; refine Keep.memSt (x := x) ?_; subst x)
    | ((try lift_lets -underBinder); intro x; refine Keep.depSt (x := x) ?_; subst x)
    | ((try lift_lets -underBinder); intro x; clear_value x)
    | (intro _)
    | with_reducible apply State.pickAll_good
    | with_reducible apply State.imageDeparture_good
    | with_reducible apply State.noteGroups_good
    | with_reducible apply State.commitGroups_good
    | with_reducible apply State.notedGroups_good
    | with_reducible apply State.throttleDeparture_good
    | with_reducible apply State.dueWidths_good
    | with_reducible apply State.stepFades_good
    | with_reducible apply State.contentCheck_good
    | with_reducible apply State.latchPicture_good
    | with_reducible apply State.mirrorFrame_good
    | with_reducible apply State.cluAfter_good

theorem State.judgeFrame_good (line : km.part .line)
    (hLNE_RX_INCOMPLETE_COUNT : ∀ a, km.fld (R.LNE.RX_INCOMPLETE.COUNT a))
    (hLNE_RX_MISSING_COUNT : ∀ a, km.fld (R.LNE.RX_MISSING.COUNT a)) (s : State) (n : Nat) (hs : s.Keeps km pq) : (State.judgeFrame s n).Keeps km pq := by
  unfold State.judgeFrame
  repeat' first
    | with_reducible assumption
    | with_reducible exact hLNE_RX_INCOMPLETE_COUNT _
    | with_reducible exact hLNE_RX_MISSING_COUNT _
    | ((try lift_lets -underBinder); intro x; refine Keep.use (k := km) (q := pq) (s := x) ?_ ?_; (on_goal 1 => dsimp -zeta only [x]); (on_goal 2 => clear_value x; intro _))
    | ((try lift_lets -underBinder); intro x; refine Keep.usePair (k := km) (q := pq) (p := x) ?_ ?_; (on_goal 1 => dsimp -zeta only [x]); (on_goal 2 => clear_value x; intro _))
    | ((try lift_lets -underBinder); intro x; refine Keep.memSt (x := x) ?_; subst x)
    | ((try lift_lets -underBinder); intro x; refine Keep.depSt (x := x) ?_; subst x)
    | ((try lift_lets -underBinder); intro x; clear_value x)
    | (intro _)
    | with_reducible apply Keep.ite
    | with_reducible apply State.count_good
    | (simp -zeta only [Keep.mk_iff]; with_reducible refine Keep.upd ?_ rfl ?_; on_goal 2 => (and_intros <;> with_reducible first | exact .inl rfl | exact .inl ⟨rfl, rfl, rfl⟩ | exact .inr ‹_› | exact Nat.le_refl _ | exact Nat.le_add_right _ _))

theorem State.noteUnderrun_good (out : km.part .out) (line : km.part .line)
    (hOTG_UNDERRUN_CNT_A : km.fld R.OTG.UNDERRUN_CNT.A) (hOTG_UNDERRUN_CNT_B : km.fld R.OTG.UNDERRUN_CNT.B)
    (hPG_EVT_PEND : ∀ a, km.fld (R.PG.EVT_PEND a)) (s : State) (hs : s.Keeps km pq) : (State.noteUnderrun s).Keeps km pq := by
  unfold State.noteUnderrun
  repeat' first
    | with_reducible assumption
    | with_reducible exact hPG_EVT_PEND _
    | ((try lift_lets -underBinder); intro x; refine Keep.use (k := km) (q := pq) (s := x) ?_ ?_; (on_goal 1 => dsimp -zeta only [x]); (on_goal 2 => clear_value x; intro _))
    | ((try lift_lets -underBinder); intro x; refine Keep.usePair (k := km) (q := pq) (p := x) ?_ ?_; (on_goal 1 => dsimp -zeta only [x]); (on_goal 2 => clear_value x; intro _))
    | ((try lift_lets -underBinder); intro x; refine Keep.memSt (x := x) ?_; subst x)
    | ((try lift_lets -underBinder); intro x; refine Keep.depSt (x := x) ?_; subst x)
    | ((try lift_lets -underBinder); intro x; clear_value x)
    | (intro _)
    | with_reducible apply State.underruns_good
    | (simp -zeta only [Keep.mk_iff]; with_reducible refine Keep.upd ?_ rfl ?_; on_goal 2 => (and_intros <;> with_reducible first | exact .inl rfl | exact .inl ⟨rfl, rfl, rfl⟩ | exact .inr ‹_› | exact Nat.le_refl _ | exact Nat.le_add_right _ _))

theorem State.flipPlanes_good (force : km.part .force) (out : km.part .out) (tim : km.part .tim) (dep : km.part .dep)
    (ing : km.part .ing) (map : km.part .map) (cmp : km.part .cmp) (mem : km.part .mem) (dram : km.part .dram)
    (scn : km.part .scn) (cor : km.part .cor) (rai : km.part .rai) (lfm : km.part .lfm) (line : km.part .line)
    (rdn : km.part .rdn) (any : ∀ f, km.fld f) (s : State) (n : Nat) (hs : s.Keeps km pq) : (State.flipPlanes s n).1.Keeps km pq := by
  unfold State.flipPlanes
  repeat' first
    | with_reducible assumption
    | (with_reducible (intros; exact any _))
    | ((try lift_lets -underBinder); intro x; refine Keep.use (k := km) (q := pq) (s := x) ?_ ?_; (on_goal 1 => dsimp -zeta only [x]); (on_goal 2 => clear_value x; intro _))
    | ((try lift_lets -underBinder); intro x; refine Keep.usePair (k := km) (q := pq) (p := x) ?_ ?_; (on_goal 1 => dsimp -zeta only [x]); (on_goal 2 => clear_value x; intro _))
    | ((try lift_lets -underBinder); intro x; refine Keep.memSt (x := x) ?_; subst x)
    | ((try lift_lets -underBinder); intro x; refine Keep.depSt (x := x) ?_; subst x)
    | ((try lift_lets -underBinder); intro x; clear_value x)
    | (intro _)
    | with_reducible apply Keep.ite
    | with_reducible apply Keep.ite1
    | dsimp -zeta only
    | with_reducible apply State.flip_good
    | with_reducible apply State.set_good
    | with_reducible apply State.count_good
    | with_reducible apply State.ev_good
    | with_reducible apply State.noteUnderrun_good
    | split
    | with_reducible refine Keep.fst (by assumption) ?_
    | (simp -zeta only [Keep.mk_iff]; with_reducible refine Keep.upd ?_ rfl ?_; on_goal 2 => (and_intros <;> with_reducible first | exact .inl rfl | exact .inl ⟨rfl, rfl, rfl⟩ | exact .inr ‹_› | exact Nat.le_refl _ | exact Nat.le_add_right _ _))

theorem State.bandsDark_good (out : km.part .out) (tim : km.part .tim) (mem : km.part .mem) (dram : km.part .dram)
    (scn : km.part .scn) (line : km.part .line) (hDEP_MODE_CHECK_DEP_PENDING : km.fld R.DEP.MODE_CHECK.DEP_PENDING)
    (hDEP_MODE_CHECK_EPOCH_PENDING : km.fld R.DEP.MODE_CHECK.EPOCH_PENDING)
    (hDEP_MODE_CHECK_FIELDS : km.fld R.DEP.MODE_CHECK.FIELDS) (hDEP_MODE_CHECK_RULE : km.fld R.DEP.MODE_CHECK.RULE)
    (hDEP_MODE_CHECK_VALID : km.fld R.DEP.MODE_CHECK.VALID)
    (hDEP_MODE_CTRL_FB_VALID : km.fld R.DEP.MODE_CTRL.FB_VALID)
    (hLOG_LOG_ADDR_LO_ADDR : ∀ a, km.fld (R.LOG.LOG_ADDR_LO.ADDR a))
    (hLOG_LOG_INFO_ADDR_HI : ∀ a, km.fld (R.LOG.LOG_INFO.ADDR_HI a))
    (hLOG_LOG_INFO_ARRAY : ∀ a, km.fld (R.LOG.LOG_INFO.ARRAY a))
    (hLOG_LOG_INFO_BYTES : ∀ a, km.fld (R.LOG.LOG_INFO.BYTES a))
    (hLOG_LOG_INFO_CHANNEL : ∀ a, km.fld (R.LOG.LOG_INFO.CHANNEL a))
    (hLOG_LOG_INFO_CODE : ∀ a, km.fld (R.LOG.LOG_INFO.CODE a))
    (hLOG_LOG_INFO_PORT : ∀ a, km.fld (R.LOG.LOG_INFO.PORT a))
    (hLOG_LOG_INFO_SRAM : ∀ a, km.fld (R.LOG.LOG_INFO.SRAM a))
    (hLOG_LOG_TIME_HI_NS : ∀ a, km.fld (R.LOG.LOG_TIME_HI.NS a))
    (hLOG_LOG_TIME_LO_NS : ∀ a, km.fld (R.LOG.LOG_TIME_LO.NS a))
    (hMEM_CH_STAT_FILLED : ∀ a, km.fld (R.MEM.CH_STAT.FILLED a))
    (hMEM_CH_STAT_MIRROR_OK : ∀ a, km.fld (R.MEM.CH_STAT.MIRROR_OK a))
    (hMEM_CH_STAT_STATE : ∀ a, km.fld (R.MEM.CH_STAT.STATE a))
    (hPAR_DRAM_ERR_CNT_COUNT : km.fld R.PAR.DRAM_ERR_CNT.COUNT) (hPAR_LOG_STAT_NEXT : km.fld R.PAR.LOG_STAT.NEXT)
    (hPAR_LOG_STAT_TOTAL : km.fld R.PAR.LOG_STAT.TOTAL) (hPAR_LOG_STAT_WRAPPED : km.fld R.PAR.LOG_STAT.WRAPPED)
    (hPAR_MIRROR_FIX_CNT_COUNT : km.fld R.PAR.MIRROR_FIX_CNT.COUNT)
    (hPG_ERR_ADDR_HI : ∀ a, km.fld (R.PG.ERR_ADDR_HI a)) (hPG_ERR_ADDR_LO : ∀ a, km.fld (R.PG.ERR_ADDR_LO a))
    (hPG_ERR_CODE : ∀ a, km.fld (R.PG.ERR_CODE a)) (hPG_ERR_COUNT : ∀ a, km.fld (R.PG.ERR_COUNT a))
    (hPG_ERR_OVERFLOW : ∀ a, km.fld (R.PG.ERR_OVERFLOW a)) (hPG_ERR_SOURCE : ∀ a, km.fld (R.PG.ERR_SOURCE a))
    (hPG_ERR_VALID : ∀ a, km.fld (R.PG.ERR_VALID a)) (hPG_EVT_PEND : ∀ a, km.fld (R.PG.EVT_PEND a))
    (hPG_FAULT : ∀ a, km.fld (R.PG.FAULT a)) (hPG_POISON_SEEN : ∀ a, km.fld (R.PG.POISON_SEEN a))
    (hSCN_POISON_WORDS_COUNT : km.fld R.SCN.POISON_WORDS.COUNT)
    (hSCN_SCN_STAT_LOADING : km.fld R.SCN.SCN_STAT.LOADING)
    (hTIM_DOM_OFFSET_OFFSET : ∀ a, km.fld (R.TIM.DOM_OFFSET.OFFSET a))
    (hTIM_DOM_RATE_RATE : ∀ a, km.fld (R.TIM.DOM_RATE.RATE a)) (s : State) (hs : s.Keeps km pq) : (State.bandsDark s).Keeps km pq := by
  unfold State.bandsDark
  repeat' first
    | with_reducible assumption
    | with_reducible exact hLOG_LOG_ADDR_LO_ADDR _
    | with_reducible exact hLOG_LOG_INFO_ADDR_HI _
    | with_reducible exact hLOG_LOG_INFO_ARRAY _
    | with_reducible exact hLOG_LOG_INFO_BYTES _
    | with_reducible exact hLOG_LOG_INFO_CHANNEL _
    | with_reducible exact hLOG_LOG_INFO_CODE _
    | with_reducible exact hLOG_LOG_INFO_PORT _
    | with_reducible exact hLOG_LOG_INFO_SRAM _
    | with_reducible exact hLOG_LOG_TIME_HI_NS _
    | with_reducible exact hLOG_LOG_TIME_LO_NS _
    | with_reducible exact hMEM_CH_STAT_FILLED _
    | with_reducible exact hMEM_CH_STAT_MIRROR_OK _
    | with_reducible exact hMEM_CH_STAT_STATE _
    | with_reducible exact hPG_ERR_ADDR_HI _
    | with_reducible exact hPG_ERR_ADDR_LO _
    | with_reducible exact hPG_ERR_CODE _
    | with_reducible exact hPG_ERR_COUNT _
    | with_reducible exact hPG_ERR_OVERFLOW _
    | with_reducible exact hPG_ERR_SOURCE _
    | with_reducible exact hPG_ERR_VALID _
    | with_reducible exact hPG_EVT_PEND _
    | with_reducible exact hPG_FAULT _
    | with_reducible exact hPG_POISON_SEEN _
    | with_reducible exact hTIM_DOM_OFFSET_OFFSET _
    | with_reducible exact hTIM_DOM_RATE_RATE _
    | ((try lift_lets -underBinder); intro x; refine Keep.use (k := km) (q := pq) (s := x) ?_ ?_; (on_goal 1 => dsimp -zeta only [x]); (on_goal 2 => clear_value x; intro _))
    | ((try lift_lets -underBinder); intro x; refine Keep.usePair (k := km) (q := pq) (p := x) ?_ ?_; (on_goal 1 => dsimp -zeta only [x]); (on_goal 2 => clear_value x; intro _))
    | ((try lift_lets -underBinder); intro x; refine Keep.memSt (x := x) ?_; subst x)
    | ((try lift_lets -underBinder); intro x; refine Keep.depSt (x := x) ?_; subst x)
    | ((try lift_lets -underBinder); intro x; clear_value x)
    | (intro _)
    | with_reducible apply Keep.ite
    | with_reducible apply State.forN_good
    | with_reducible apply State.reloadBand_good
    | (simp -zeta only [Keep.mk_iff]; with_reducible refine Keep.upd ?_ rfl ?_; on_goal 2 => (and_intros <;> with_reducible first | exact .inl rfl | exact .inl ⟨rfl, rfl, rfl⟩ | exact .inr ‹_› | exact Nat.le_refl _ | exact Nat.le_add_right _ _))

theorem State.closeBands_good (out : km.part .out) (tim : km.part .tim) (mem : km.part .mem) (dram : km.part .dram)
    (scn : km.part .scn) (line : km.part .line) (any : ∀ f, km.fld f) (s : State) (n : Nat) (hs : s.Keeps km pq) : (State.closeBands s n).1.Keeps km pq := by
  unfold State.closeBands
  repeat' first
    | with_reducible assumption
    | (with_reducible (intros; exact any _))
    | ((try lift_lets -underBinder); intro x; refine Keep.use (k := km) (q := pq) (s := x) ?_ ?_; (on_goal 1 => dsimp -zeta only [x]); (on_goal 2 => clear_value x; intro _))
    | ((try lift_lets -underBinder); intro x; refine Keep.usePair (k := km) (q := pq) (p := x) ?_ ?_; (on_goal 1 => dsimp -zeta only [x]); (on_goal 2 => clear_value x; intro _))
    | ((try lift_lets -underBinder); intro x; refine Keep.memSt (x := x) ?_; subst x)
    | ((try lift_lets -underBinder); intro x; refine Keep.depSt (x := x) ?_; subst x)
    | ((try lift_lets -underBinder); intro x; clear_value x)
    | (intro _)
    | with_reducible apply Keep.ite
    | with_reducible apply Keep.ite1
    | dsimp -zeta only
    | with_reducible apply State.bandsDark_good
    | with_reducible apply State.bandsDeparture_good
    | with_reducible apply State.noteUnderrun_good
    | split
    | with_reducible refine Keep.fst (by assumption) ?_
    | (simp -zeta only [Keep.mk_iff]; with_reducible refine Keep.upd ?_ rfl ?_; on_goal 2 => (and_intros <;> with_reducible first | exact .inl rfl | exact .inl ⟨rfl, rfl, rfl⟩ | exact .inr ‹_› | exact Nat.le_refl _ | exact Nat.le_add_right _ _))

theorem State.setHold_good (line : km.part .line) (hLNE_FADE_POS_F : ∀ a, km.fld (R.LNE.FADE_POS.F a))
    (hLNE_HOLD_STAT_HELD : ∀ a, km.fld (R.LNE.HOLD_STAT.HELD a))
    (hLNE_HOLD_STAT_STATE : ∀ a, km.fld (R.LNE.HOLD_STAT.STATE a)) (s : State) (st held j : Nat) (hs : s.Keeps km pq)
    : (State.setHold s st held j).Keeps km pq := by
  unfold State.setHold
  repeat' first
    | with_reducible assumption
    | with_reducible exact hLNE_FADE_POS_F _
    | with_reducible exact hLNE_HOLD_STAT_HELD _
    | with_reducible exact hLNE_HOLD_STAT_STATE _
    | ((try lift_lets -underBinder); intro x; refine Keep.use (k := km) (q := pq) (s := x) ?_ ?_; (on_goal 1 => dsimp -zeta only [x]); (on_goal 2 => clear_value x; intro _))
    | ((try lift_lets -underBinder); intro x; refine Keep.usePair (k := km) (q := pq) (p := x) ?_ ?_; (on_goal 1 => dsimp -zeta only [x]); (on_goal 2 => clear_value x; intro _))
    | ((try lift_lets -underBinder); intro x; refine Keep.memSt (x := x) ?_; subst x)
    | ((try lift_lets -underBinder); intro x; refine Keep.depSt (x := x) ?_; subst x)
    | ((try lift_lets -underBinder); intro x; clear_value x)
    | (intro _)
    | with_reducible apply Keep.ite
    | with_reducible apply State.set_good
    | (simp -zeta only [Keep.mk_iff]; with_reducible refine Keep.upd ?_ rfl ?_; on_goal 2 => (and_intros <;> with_reducible first | exact .inl rfl | exact .inl ⟨rfl, rfl, rfl⟩ | exact .inr ‹_› | exact Nat.le_refl _ | exact Nat.le_add_right _ _))

theorem State.fadeTo_good (out : km.part .out) (line : km.part .line)
    (hLNE_FADE_POS_F : ∀ a, km.fld (R.LNE.FADE_POS.F a)) (hLNE_HOLD_STAT_HELD : ∀ a, km.fld (R.LNE.HOLD_STAT.HELD a))
    (hLNE_HOLD_STAT_STATE : ∀ a, km.fld (R.LNE.HOLD_STAT.STATE a)) (hPG_EVT_PEND : ∀ a, km.fld (R.PG.EVT_PEND a))
    (s : State) (j : Nat) (hs : s.Keeps km pq) : (State.fadeTo s j).Keeps km pq := by
  unfold State.fadeTo
  repeat' first
    | with_reducible assumption
    | with_reducible exact hLNE_FADE_POS_F _
    | with_reducible exact hLNE_HOLD_STAT_HELD _
    | with_reducible exact hLNE_HOLD_STAT_STATE _
    | with_reducible exact hPG_EVT_PEND _
    | ((try lift_lets -underBinder); intro x; refine Keep.use (k := km) (q := pq) (s := x) ?_ ?_; (on_goal 1 => dsimp -zeta only [x]); (on_goal 2 => clear_value x; intro _))
    | ((try lift_lets -underBinder); intro x; refine Keep.usePair (k := km) (q := pq) (p := x) ?_ ?_; (on_goal 1 => dsimp -zeta only [x]); (on_goal 2 => clear_value x; intro _))
    | ((try lift_lets -underBinder); intro x; refine Keep.memSt (x := x) ?_; subst x)
    | ((try lift_lets -underBinder); intro x; refine Keep.depSt (x := x) ?_; subst x)
    | ((try lift_lets -underBinder); intro x; clear_value x)
    | (intro _)
    | with_reducible apply Keep.ite
    | with_reducible apply State.setHold_good
    | with_reducible apply State.ev_good
    | with_reducible apply State.evIf_good

theorem State.holdEnds_good (out : km.part .out) (line : km.part .line)
    (hLNE_FADE_POS_F : ∀ a, km.fld (R.LNE.FADE_POS.F a)) (hLNE_HOLD_STAT_HELD : ∀ a, km.fld (R.LNE.HOLD_STAT.HELD a))
    (hLNE_HOLD_STAT_STATE : ∀ a, km.fld (R.LNE.HOLD_STAT.STATE a)) (hPG_EVT_PEND : ∀ a, km.fld (R.PG.EVT_PEND a))
    (s : State) (hs : s.Keeps km pq) : (State.holdEnds s).Keeps km pq := by
  unfold State.holdEnds
  repeat' first
    | with_reducible assumption
    | with_reducible exact hLNE_FADE_POS_F _
    | with_reducible exact hLNE_HOLD_STAT_HELD _
    | with_reducible exact hLNE_HOLD_STAT_STATE _
    | with_reducible exact hPG_EVT_PEND _
    | (intro _)
    | with_reducible apply Keep.ite
    | with_reducible apply State.setHold_good
    | with_reducible apply State.ev_good
    | with_reducible apply State.fadeTo_good

theorem State.holdStep_good (out : km.part .out) (line : km.part .line)
    (hLNE_FADE_POS_F : ∀ a, km.fld (R.LNE.FADE_POS.F a)) (hLNE_HOLD_STAT_HELD : ∀ a, km.fld (R.LNE.HOLD_STAT.HELD a))
    (hLNE_HOLD_STAT_STATE : ∀ a, km.fld (R.LNE.HOLD_STAT.STATE a)) (hPG_EVT_PEND : ∀ a, km.fld (R.PG.EVT_PEND a))
    (s : State) (new : Bool) (hs : s.Keeps km pq) : (State.holdStep s new).Keeps km pq := by
  unfold State.holdStep
  repeat' first
    | with_reducible assumption
    | with_reducible exact hLNE_FADE_POS_F _
    | with_reducible exact hLNE_HOLD_STAT_HELD _
    | with_reducible exact hLNE_HOLD_STAT_STATE _
    | with_reducible exact hPG_EVT_PEND _
    | ((try lift_lets -underBinder); intro x; refine Keep.use (k := km) (q := pq) (s := x) ?_ ?_; (on_goal 1 => dsimp -zeta only [x]); (on_goal 2 => clear_value x; intro _))
    | ((try lift_lets -underBinder); intro x; refine Keep.usePair (k := km) (q := pq) (p := x) ?_ ?_; (on_goal 1 => dsimp -zeta only [x]); (on_goal 2 => clear_value x; intro _))
    | ((try lift_lets -underBinder); intro x; refine Keep.memSt (x := x) ?_; subst x)
    | ((try lift_lets -underBinder); intro x; refine Keep.depSt (x := x) ?_; subst x)
    | ((try lift_lets -underBinder); intro x; clear_value x)
    | (intro _)
    | with_reducible apply Keep.ite
    | with_reducible apply State.setHold_good
    | with_reducible apply State.evIf_good
    | with_reducible apply State.holdEnds_good
    | with_reducible apply State.ev_good
    | with_reducible apply State.fadeTo_good

theorem State.tileBefore_good (force : km.part .force) (out : km.part .out) (tim : km.part .tim) (dep : km.part .dep)
    (ing : km.part .ing) (map : km.part .map) (cmp : km.part .cmp) (mem : km.part .mem) (dram : km.part .dram)
    (scn : km.part .scn) (cor : km.part .cor) (rai : km.part .rai) (lfm : km.part .lfm) (line : km.part .line)
    (rdn : km.part .rdn) (any : ∀ f, km.fld f) (s : State) (hs : s.Keeps km pq) : (State.tileBefore s).Keeps km pq := by
  unfold State.tileBefore
  repeat' first
    | with_reducible assumption
    | (with_reducible (intros; exact any _))
    | ((try lift_lets -underBinder); intro x; refine Keep.use (k := km) (q := pq) (s := x) ?_ ?_; (on_goal 1 => dsimp -zeta only [x]); (on_goal 2 => clear_value x; intro _))
    | ((try lift_lets -underBinder); intro x; refine Keep.usePair (k := km) (q := pq) (p := x) ?_ ?_; (on_goal 1 => dsimp -zeta only [x]); (on_goal 2 => clear_value x; intro _))
    | ((try lift_lets -underBinder); intro x; refine Keep.memSt (x := x) ?_; subst x)
    | ((try lift_lets -underBinder); intro x; refine Keep.depSt (x := x) ?_; subst x)
    | ((try lift_lets -underBinder); intro x; clear_value x)
    | (intro _)
    | with_reducible apply Keep.ite
    | with_reducible apply Keep.ite1
    | dsimp -zeta only
    | with_reducible apply State.judgeFrame_good
    | with_reducible apply State.closeBands_good
    | with_reducible apply State.flipPlanes_good
    | with_reducible apply State.holdStep_good
    | with_reducible apply State.raiDeparture_good
    | split
    | with_reducible refine Keep.fst (by assumption) ?_
    | (simp -zeta only [Keep.mk_iff]; with_reducible refine Keep.upd ?_ rfl ?_; on_goal 2 => (and_intros <;> with_reducible first | exact .inl rfl | exact .inl ⟨rfl, rfl, rfl⟩ | exact .inr ‹_› | exact Nat.le_refl _ | exact Nat.le_add_right _ _))

theorem State.tileDeparture_good (force : km.part .force) (out : km.part .out) (tim : km.part .tim)
    (dep : km.part .dep) (ing : km.part .ing) (map : km.part .map) (cmp : km.part .cmp) (mem : km.part .mem)
    (dram : km.part .dram) (scn : km.part .scn) (cor : km.part .cor) (rai : km.part .rai) (lfm : km.part .lfm)
    (line : km.part .line) (rdn : km.part .rdn) (mbx : km.part .mbx) (any : ∀ f, km.fld f) (s : State) (n : Nat)
    (hs : s.Keeps km pq) : (State.tileDeparture s n).Keeps km pq := by
  unfold State.tileDeparture
  repeat' first
    | with_reducible assumption
    | (with_reducible (intros; exact any _))
    | ((try lift_lets -underBinder); intro x; refine Keep.use (k := km) (q := pq) (s := x) ?_ ?_; (on_goal 1 => dsimp -zeta only [x]); (on_goal 2 => clear_value x; intro _))
    | ((try lift_lets -underBinder); intro x; refine Keep.usePair (k := km) (q := pq) (p := x) ?_ ?_; (on_goal 1 => dsimp -zeta only [x]); (on_goal 2 => clear_value x; intro _))
    | ((try lift_lets -underBinder); intro x; refine Keep.memSt (x := x) ?_; subst x)
    | ((try lift_lets -underBinder); intro x; refine Keep.depSt (x := x) ?_; subst x)
    | ((try lift_lets -underBinder); intro x; clear_value x)
    | (intro _)
    | with_reducible apply Keep.ite
    | with_reducible apply State.hktCap_good
    | with_reducible apply State.sendTelemetry_good
    | with_reducible apply State.commitGroups_good
    | with_reducible apply State.takeCap_good
    | with_reducible apply State.subframe_good
    | with_reducible apply State.bandsReload_good
    | (simp -zeta only [Keep.mk_iff]; with_reducible refine Keep.upd ?_ rfl ?_; on_goal 2 => (and_intros <;> with_reducible first | exact .inl rfl | exact .inl ⟨rfl, rfl, rfl⟩ | exact .inr ‹_› | exact Nat.le_refl _ | exact Nat.le_add_right _ _))

theorem State.skip_good (out : km.part .out) (hDEP_SKIP_CNT_SKIPPED : km.fld R.DEP.SKIP_CNT.SKIPPED)
    (hPG_EVT_PEND : ∀ a, km.fld (R.PG.EVT_PEND a)) (s : State) (k : Nat) (hs : s.Keeps km pq) : (State.skip s k).Keeps km pq := by
  unfold State.skip
  repeat' first
    | with_reducible assumption
    | with_reducible exact hPG_EVT_PEND _
    | (intro _)
    | with_reducible apply Keep.ite
    | with_reducible apply State.count_good
    | with_reducible apply State.ev_good

theorem State.darkEdges_good (out : km.part .out) (dep : km.part .dep) (scn : km.part .scn) (rai : km.part .rai)
    (hLFM_LFM_STAT_SUSPENDED : km.fld R.LFM.LFM_STAT.SUSPENDED) (hPG_EVT_PEND : ∀ a, km.fld (R.PG.EVT_PEND a))
    (hRCH_CH_CNT_REJECT : ∀ a, km.fld (R.RCH.CH_CNT.REJECT a)) (hRCH_CH_DMAX_CUR : ∀ a, km.fld (R.RCH.CH_DMAX.CUR a))
    (hRCH_CH_STAT_AT_TARGET : ∀ a, km.fld (R.RCH.CH_STAT.AT_TARGET a))
    (hRCH_CH_STAT_CLAMPED : ∀ a, km.fld (R.RCH.CH_STAT.CLAMPED a))
    (hRCH_CH_TARGET_FLOOR : ∀ a, km.fld (R.RCH.CH_TARGET.FLOOR a))
    (hRCH_CH_TARGET_NEXT : ∀ a, km.fld (R.RCH.CH_TARGET.NEXT a))
    (hSCN_SCN_STAT_LOADING : km.fld R.SCN.SCN_STAT.LOADING) (s : State) (n : Nat) (hs : s.Keeps km pq) : (State.darkEdges s n).Keeps km pq := by
  unfold State.darkEdges
  repeat' first
    | with_reducible assumption
    | with_reducible exact hPG_EVT_PEND _
    | with_reducible exact hRCH_CH_CNT_REJECT _
    | with_reducible exact hRCH_CH_DMAX_CUR _
    | with_reducible exact hRCH_CH_STAT_AT_TARGET _
    | with_reducible exact hRCH_CH_STAT_CLAMPED _
    | with_reducible exact hRCH_CH_TARGET_FLOOR _
    | with_reducible exact hRCH_CH_TARGET_NEXT _
    | ((try lift_lets -underBinder); intro x; refine Keep.use (k := km) (q := pq) (s := x) ?_ ?_; (on_goal 1 => dsimp -zeta only [x]); (on_goal 2 => clear_value x; intro _))
    | ((try lift_lets -underBinder); intro x; refine Keep.usePair (k := km) (q := pq) (p := x) ?_ ?_; (on_goal 1 => dsimp -zeta only [x]); (on_goal 2 => clear_value x; intro _))
    | ((try lift_lets -underBinder); intro x; refine Keep.memSt (x := x) ?_; subst x)
    | ((try lift_lets -underBinder); intro x; refine Keep.depSt (x := x) ?_; subst x)
    | ((try lift_lets -underBinder); intro x; clear_value x)
    | (intro _)
    | with_reducible apply Keep.ite
    | with_reducible apply State.darkFinish_good
    | with_reducible apply State.darkBegin_good
    | split

theorem State.launched_good (dep : km.part .dep) (starts : km.part .starts) (s : State) (n : Nat)
    (hs : s.Keeps km pq) : (State.launched s n).Keeps km pq := by
  unfold State.launched
  repeat' first
    | with_reducible assumption
    | ((try lift_lets -underBinder); intro x; refine Keep.use (k := km) (q := pq) (s := x) ?_ ?_; (on_goal 1 => dsimp -zeta only [x]); (on_goal 2 => clear_value x; intro _))
    | ((try lift_lets -underBinder); intro x; refine Keep.usePair (k := km) (q := pq) (p := x) ?_ ?_; (on_goal 1 => dsimp -zeta only [x]); (on_goal 2 => clear_value x; intro _))
    | ((try lift_lets -underBinder); intro x; refine Keep.memSt (x := x) ?_; subst x)
    | ((try lift_lets -underBinder); intro x; refine Keep.depSt (x := x) ?_; subst x)
    | ((try lift_lets -underBinder); intro x; clear_value x)
    | (intro _)
    | (simp -zeta only [Keep.mk_iff]; with_reducible refine Keep.upd ?_ rfl ?_; on_goal 2 => (and_intros <;> with_reducible first | exact .inl rfl | exact .inl ⟨rfl, rfl, rfl⟩ | exact .inr ‹_› | exact Nat.le_refl _ | exact Nat.le_add_right _ _))

theorem State.depart_good (force : km.part .force) (out : km.part .out) (tim : km.part .tim) (dep : km.part .dep)
    (starts : km.part .starts) (ing : km.part .ing) (map : km.part .map) (cmp : km.part .cmp) (mem : km.part .mem)
    (dram : km.part .dram) (scn : km.part .scn) (cor : km.part .cor) (rai : km.part .rai) (lfm : km.part .lfm)
    (hkt : km.part .hkt) (line : km.part .line) (rdn : km.part .rdn) (clu : km.part .clu) (mbx : km.part .mbx)
    (any : ∀ f, km.fld f) (s : State) (n : Nat) (hs : s.Keeps km pq) : (State.depart s n).Keeps km pq := by
  unfold State.depart
  repeat' first
    | with_reducible assumption
    | (with_reducible (intros; exact any _))
    | ((try lift_lets -underBinder); intro x; refine Keep.use (k := km) (q := pq) (s := x) ?_ ?_; (on_goal 1 => dsimp -zeta only [x]); (on_goal 2 => clear_value x; intro _))
    | ((try lift_lets -underBinder); intro x; refine Keep.usePair (k := km) (q := pq) (p := x) ?_ ?_; (on_goal 1 => dsimp -zeta only [x]); (on_goal 2 => clear_value x; intro _))
    | ((try lift_lets -underBinder); intro x; refine Keep.memSt (x := x) ?_; subst x)
    | ((try lift_lets -underBinder); intro x; refine Keep.depSt (x := x) ?_; subst x)
    | ((try lift_lets -underBinder); intro x; clear_value x)
    | (intro _)
    | with_reducible apply State.skip_good
    | with_reducible apply State.darkEdges_good
    | with_reducible apply State.showDemand_good
    | with_reducible apply State.senderBefore_good
    | with_reducible apply State.tileBefore_good
    | with_reducible apply State.noteEvent_good
    | with_reducible apply State.launched_good
    | with_reducible apply State.set_good
    | with_reducible apply State.ev_good
    | with_reducible apply State.senderDeparture_good
    | with_reducible apply State.tileDeparture_good
    | split

theorem State.adoptLate_good (force : km.part .force) (out : km.part .out) (tim : km.part .tim) (dep : km.part .dep)
    (ing : km.part .ing) (map : km.part .map) (cmp : km.part .cmp) (mem : km.part .mem) (dram : km.part .dram)
    (scn : km.part .scn) (cor : km.part .cor) (rai : km.part .rai) (lfm : km.part .lfm) (line : km.part .line)
    (rdn : km.part .rdn) (que : km.part .que) (mbx : km.part .mbx) (fwu : km.part .fwu) (any : ∀ f, km.fld f)
    (s : State) (n : Nat) (hs : s.Keeps km pq) : (State.adoptLate s n).Keeps km pq := by
  unfold State.adoptLate
  repeat' first
    | with_reducible assumption
    | (with_reducible (intros; exact any _))
    | ((try lift_lets -underBinder); intro x; refine Keep.use (k := km) (q := pq) (s := x) ?_ ?_; (on_goal 1 => dsimp -zeta only [x]); (on_goal 2 => clear_value x; intro _))
    | ((try lift_lets -underBinder); intro x; refine Keep.usePair (k := km) (q := pq) (p := x) ?_ ?_; (on_goal 1 => dsimp -zeta only [x]); (on_goal 2 => clear_value x; intro _))
    | ((try lift_lets -underBinder); intro x; refine Keep.memSt (x := x) ?_; subst x)
    | ((try lift_lets -underBinder); intro x; refine Keep.depSt (x := x) ?_; subst x)
    | ((try lift_lets -underBinder); intro x; clear_value x)
    | (intro _)
    | with_reducible apply Keep.ite
    | with_reducible apply State.launchAny_good
    | split
    | (simp -zeta only [Keep.mk_iff]; with_reducible refine Keep.upd ?_ rfl ?_; on_goal 2 => (and_intros <;> with_reducible first | exact .inl rfl | exact .inl ⟨rfl, rfl, rfl⟩ | exact .inr ‹_› | exact Nat.le_refl _ | exact Nat.le_add_right _ _))
    | with_reducible apply Keep.foldl

theorem State.dueSched_good (force : km.part .force) (out : km.part .out) (tim : km.part .tim) (dep : km.part .dep)
    (ing : km.part .ing) (map : km.part .map) (cmp : km.part .cmp) (mem : km.part .mem) (dram : km.part .dram)
    (scn : km.part .scn) (cor : km.part .cor) (rai : km.part .rai) (lfm : km.part .lfm) (line : km.part .line)
    (rdn : km.part .rdn) (que : km.part .que) (mbx : km.part .mbx) (fwu : km.part .fwu) (any : ∀ f, km.fld f)
    (s : State) (n : Nat) (hs : s.Keeps km pq) : (State.dueSched s n).Keeps km pq := by
  unfold State.dueSched
  repeat' first
    | with_reducible assumption
    | (with_reducible (intros; exact any _))
    | ((try lift_lets -underBinder); intro x; refine Keep.use (k := km) (q := pq) (s := x) ?_ ?_; (on_goal 1 => dsimp -zeta only [x]); (on_goal 2 => clear_value x; intro _))
    | ((try lift_lets -underBinder); intro x; refine Keep.usePair (k := km) (q := pq) (p := x) ?_ ?_; (on_goal 1 => dsimp -zeta only [x]); (on_goal 2 => clear_value x; intro _))
    | ((try lift_lets -underBinder); intro x; refine Keep.memSt (x := x) ?_; subst x)
    | ((try lift_lets -underBinder); intro x; refine Keep.depSt (x := x) ?_; subst x)
    | ((try lift_lets -underBinder); intro x; clear_value x)
    | (intro _)
    | with_reducible apply Keep.ite
    | with_reducible apply State.takeSched_good
    | with_reducible apply State.adoptLate_good
    | with_reducible apply State.skip_good
    | split

theorem State.frameDeparture_good (force : km.part .force) (out : km.part .out) (tim : km.part .tim)
    (dep : km.part .dep) (starts : km.part .starts) (ing : km.part .ing) (map : km.part .map) (cmp : km.part .cmp)
    (mem : km.part .mem) (dram : km.part .dram) (scn : km.part .scn) (cor : km.part .cor) (rai : km.part .rai)
    (lfm : km.part .lfm) (hkt : km.part .hkt) (line : km.part .line) (rdn : km.part .rdn) (clu : km.part .clu)
    (que : km.part .que) (mbx : km.part .mbx) (fwu : km.part .fwu) (any : ∀ f, km.fld f) (s : State) (n : Nat)
    (hs : s.Keeps km pq) : (State.frameDeparture s n).Keeps km pq := by
  unfold State.frameDeparture
  repeat' first
    | with_reducible assumption
    | (with_reducible (intros; exact any _))
    | ((try lift_lets -underBinder); intro x; refine Keep.use (k := km) (q := pq) (s := x) ?_ ?_; (on_goal 1 => dsimp -zeta only [x]); (on_goal 2 => clear_value x; intro _))
    | ((try lift_lets -underBinder); intro x; refine Keep.usePair (k := km) (q := pq) (p := x) ?_ ?_; (on_goal 1 => dsimp -zeta only [x]); (on_goal 2 => clear_value x; intro _))
    | ((try lift_lets -underBinder); intro x; refine Keep.memSt (x := x) ?_; subst x)
    | ((try lift_lets -underBinder); intro x; refine Keep.depSt (x := x) ?_; subst x)
    | ((try lift_lets -underBinder); intro x; clear_value x)
    | (intro _)
    | with_reducible apply Keep.ite
    | with_reducible apply State.dueSched_good
    | with_reducible apply State.skip_good
    | with_reducible apply State.depart_good
    | (simp -zeta only [Keep.mk_iff]; with_reducible refine Keep.upd ?_ rfl ?_; on_goal 2 => (and_intros <;> with_reducible first | exact .inl rfl | exact .inl ⟨rfl, rfl, rfl⟩ | exact .inr ‹_› | exact Nat.le_refl _ | exact Nat.le_add_right _ _))

theorem State.viewDeparture_good (force : km.part .force) (out : km.part .out) (tim : km.part .tim)
    (dep : km.part .dep) (ing : km.part .ing) (map : km.part .map) (cmp : km.part .cmp) (mem : km.part .mem)
    (dram : km.part .dram) (scn : km.part .scn) (cor : km.part .cor) (rai : km.part .rai) (lfm : km.part .lfm)
    (line : km.part .line) (rdn : km.part .rdn) (any : ∀ f, km.fld f) (s : State) (n k : Nat) (hs : s.Keeps km pq) : (State.viewDeparture s n k).Keeps km pq := by
  unfold State.viewDeparture
  repeat' first
    | with_reducible assumption
    | (with_reducible (intros; exact any _))
    | ((try lift_lets -underBinder); intro x; refine Keep.use (k := km) (q := pq) (s := x) ?_ ?_; (on_goal 1 => dsimp -zeta only [x]); (on_goal 2 => clear_value x; intro _))
    | ((try lift_lets -underBinder); intro x; refine Keep.usePair (k := km) (q := pq) (p := x) ?_ ?_; (on_goal 1 => dsimp -zeta only [x]); (on_goal 2 => clear_value x; intro _))
    | ((try lift_lets -underBinder); intro x; refine Keep.memSt (x := x) ?_; subst x)
    | ((try lift_lets -underBinder); intro x; refine Keep.depSt (x := x) ?_; subst x)
    | ((try lift_lets -underBinder); intro x; clear_value x)
    | (intro _)
    | with_reducible apply Keep.ite
    | with_reducible apply State.noteEvent_good
    | with_reducible apply State.ev_good
    | with_reducible apply State.subframe_good
    | (simp -zeta only [Keep.mk_iff]; with_reducible refine Keep.upd ?_ rfl ?_; on_goal 2 => (and_intros <;> with_reducible first | exact .inl rfl | exact .inl ⟨rfl, rfl, rfl⟩ | exact .inr ‹_› | exact Nat.le_refl _ | exact Nat.le_add_right _ _))

theorem State.instantLaunch_good (force : km.part .force) (out : km.part .out) (tim : km.part .tim)
    (dep : km.part .dep) (starts : km.part .starts) (ing : km.part .ing) (map : km.part .map) (cmp : km.part .cmp)
    (mem : km.part .mem) (dram : km.part .dram) (scn : km.part .scn) (cor : km.part .cor) (rai : km.part .rai)
    (lfm : km.part .lfm) (hkt : km.part .hkt) (line : km.part .line) (rdn : km.part .rdn) (clu : km.part .clu)
    (que : km.part .que) (mbx : km.part .mbx) (fwu : km.part .fwu) (any : ∀ f, km.fld f) (s : State) (w : Int)
    (rank idx : Nat) (hs : s.Keeps km pq) : (State.instantLaunch s w rank idx).Keeps km pq := by
  unfold State.instantLaunch
  repeat' first
    | with_reducible assumption
    | (with_reducible (intros; exact any _))
    | ((try lift_lets -underBinder); intro x; refine Keep.use (k := km) (q := pq) (s := x) ?_ ?_; (on_goal 1 => dsimp -zeta only [x]); (on_goal 2 => clear_value x; intro _))
    | ((try lift_lets -underBinder); intro x; refine Keep.usePair (k := km) (q := pq) (p := x) ?_ ?_; (on_goal 1 => dsimp -zeta only [x]); (on_goal 2 => clear_value x; intro _))
    | ((try lift_lets -underBinder); intro x; refine Keep.memSt (x := x) ?_; subst x)
    | ((try lift_lets -underBinder); intro x; refine Keep.depSt (x := x) ?_; subst x)
    | ((try lift_lets -underBinder); intro x; clear_value x)
    | (intro _)
    | with_reducible apply Keep.ite
    | with_reducible apply State.filter_good
    | with_reducible apply State.launchAny_good
    | with_reducible apply State.frameDeparture_good
    | split
    | (simp -zeta only [Keep.mk_iff]; with_reducible refine Keep.upd ?_ rfl ?_; on_goal 2 => (and_intros <;> with_reducible first | exact .inl rfl | exact .inl ⟨rfl, rfl, rfl⟩ | exact .inr ‹_› | exact Nat.le_refl _ | exact Nat.le_add_right _ _))
    | with_reducible apply Keep.foldl

theorem State.departInstant_good (force : km.part .force) (out : km.part .out) (tim : km.part .tim)
    (dep : km.part .dep) (starts : km.part .starts) (ing : km.part .ing) (map : km.part .map) (cmp : km.part .cmp)
    (mem : km.part .mem) (dram : km.part .dram) (scn : km.part .scn) (cor : km.part .cor) (rai : km.part .rai)
    (lfm : km.part .lfm) (hkt : km.part .hkt) (line : km.part .line) (rdn : km.part .rdn) (clu : km.part .clu)
    (que : km.part .que) (mbx : km.part .mbx) (fwu : km.part .fwu) (any : ∀ f, km.fld f) (s : State) (n : Nat)
    (hs : s.Keeps km pq) : (State.departInstant s n).Keeps km pq := by
  unfold State.departInstant
  repeat' first
    | with_reducible assumption
    | (with_reducible (intros; exact any _))
    | ((try lift_lets -underBinder); intro x; refine Keep.use (k := km) (q := pq) (s := x) ?_ ?_; (on_goal 1 => dsimp -zeta only [x]); (on_goal 2 => clear_value x; intro _))
    | ((try lift_lets -underBinder); intro x; refine Keep.usePair (k := km) (q := pq) (p := x) ?_ ?_; (on_goal 1 => dsimp -zeta only [x]); (on_goal 2 => clear_value x; intro _))
    | ((try lift_lets -underBinder); intro x; refine Keep.memSt (x := x) ?_; subst x)
    | ((try lift_lets -underBinder); intro x; refine Keep.depSt (x := x) ?_; subst x)
    | ((try lift_lets -underBinder); intro x; clear_value x)
    | (intro _)
    | with_reducible apply Keep.ite
    | with_reducible apply State.instantLaunch_good
    | with_reducible apply State.frameDeparture_good
    | split

theorem State.launchInstant_good (force : km.part .force) (out : km.part .out) (tim : km.part .tim)
    (dep : km.part .dep) (starts : km.part .starts) (ing : km.part .ing) (map : km.part .map) (cmp : km.part .cmp)
    (mem : km.part .mem) (dram : km.part .dram) (scn : km.part .scn) (cor : km.part .cor) (rai : km.part .rai)
    (lfm : km.part .lfm) (hkt : km.part .hkt) (line : km.part .line) (rdn : km.part .rdn) (clu : km.part .clu)
    (que : km.part .que) (mbx : km.part .mbx) (fwu : km.part .fwu) (any : ∀ f, km.fld f) (s : State) (i action : Nat)
    (late : Bool) (f : Entry → State → State) (hs : s.Keeps km pq) (hf : ∀ e s, s.Keeps km pq → (f e s).Keeps km pq)
    : (State.launchInstant s i action late f).Keeps km pq := by
  unfold State.launchInstant
  repeat' first
    | with_reducible assumption
    | (with_reducible (intros; exact any _))
    | ((try lift_lets -underBinder); intro x; refine Keep.use (k := km) (q := pq) (s := x) ?_ ?_; (on_goal 1 => dsimp -zeta only [x]); (on_goal 2 => clear_value x; intro _))
    | ((try lift_lets -underBinder); intro x; refine Keep.usePair (k := km) (q := pq) (p := x) ?_ ?_; (on_goal 1 => dsimp -zeta only [x]); (on_goal 2 => clear_value x; intro _))
    | ((try lift_lets -underBinder); intro x; refine Keep.memSt (x := x) ?_; subst x)
    | ((try lift_lets -underBinder); intro x; refine Keep.depSt (x := x) ?_; subst x)
    | ((try lift_lets -underBinder); intro x; clear_value x)
    | (intro _)
    | with_reducible apply Keep.ite
    | with_reducible apply State.instantLaunch_good
    | with_reducible apply State.launch_good
    | split

theorem execFrameDeparture_good (frc : km.part .frc) (force : km.part .force) (out : km.part .out)
    (tim : km.part .tim) (dep : km.part .dep) (starts : km.part .starts) (ing : km.part .ing) (map : km.part .map)
    (cmp : km.part .cmp) (mem : km.part .mem) (dram : km.part .dram) (scn : km.part .scn) (cor : km.part .cor)
    (rai : km.part .rai) (lfm : km.part .lfm) (hkt : km.part .hkt) (line : km.part .line) (rdn : km.part .rdn)
    (clu : km.part .clu) (que : km.part .que) (mbx : km.part .mbx) (fwu : km.part .fwu) (any : ∀ f, km.fld f)
    (n t : Nat) (s : State) (hs : s.Keeps km pq) : ∀ st, execFrameDeparture n t s = .next st → st.Keeps km pq := by
  unfold execFrameDeparture
  refine run_good hs (fun s hs => ?_)
  repeat' first
    | with_reducible assumption
    | (with_reducible (intros; exact any _))
    | (intro _)
    | with_reducible apply State.tick_good
    | with_reducible apply State.departInstant_good

theorem execViewDeparture_good (frc : km.part .frc) (force : km.part .force) (out : km.part .out)
    (tim : km.part .tim) (dep : km.part .dep) (ing : km.part .ing) (map : km.part .map) (cmp : km.part .cmp)
    (mem : km.part .mem) (dram : km.part .dram) (scn : km.part .scn) (cor : km.part .cor) (rai : km.part .rai)
    (lfm : km.part .lfm) (line : km.part .line) (rdn : km.part .rdn) (any : ∀ f, km.fld f) (n k t : Nat) (s : State)
    (hs : s.Keeps km pq) : ∀ st, execViewDeparture n k t s = .next st → st.Keeps km pq := by
  unfold execViewDeparture
  refine run_good hs (fun s hs => ?_)
  repeat' first
    | with_reducible assumption
    | (with_reducible (intros; exact any _))
    | (intro _)
    | with_reducible apply State.tick_good
    | with_reducible apply State.viewDeparture_good

theorem execCommitEntry_good (frc : km.part .frc) (force : km.part .force) (out : km.part .out) (tim : km.part .tim)
    (dep : km.part .dep) (starts : km.part .starts) (ing : km.part .ing) (map : km.part .map) (cmp : km.part .cmp)
    (mem : km.part .mem) (dram : km.part .dram) (scn : km.part .scn) (cor : km.part .cor) (rai : km.part .rai)
    (lfm : km.part .lfm) (hkt : km.part .hkt) (line : km.part .line) (rdn : km.part .rdn) (clu : km.part .clu)
    (que : km.part .que) (mbx : km.part .mbx) (fwu : km.part .fwu) (any : ∀ f, km.fld f) (i : Nat) (late : Bool)
    (t : Nat) (s : State) (hs : s.Keeps km pq) : ∀ st, execCommitEntry i late t s = .next st → st.Keeps km pq := by
  unfold execCommitEntry
  refine run_good hs (fun s hs => ?_)
  repeat' first
    | with_reducible assumption
    | (with_reducible (intros; exact any _))
    | (intro _)
    | with_reducible apply State.tick_good
    | with_reducible apply State.launchInstant_good
    | with_reducible apply State.launchCommit_good

theorem execEpochFlip_good (frc : km.part .frc) (force : km.part .force) (out : km.part .out) (tim : km.part .tim)
    (dep : km.part .dep) (starts : km.part .starts) (ing : km.part .ing) (map : km.part .map) (cmp : km.part .cmp)
    (mem : km.part .mem) (dram : km.part .dram) (scn : km.part .scn) (cor : km.part .cor) (rai : km.part .rai)
    (lfm : km.part .lfm) (hkt : km.part .hkt) (line : km.part .line) (rdn : km.part .rdn) (clu : km.part .clu)
    (que : km.part .que) (mbx : km.part .mbx) (fwu : km.part .fwu) (any : ∀ f, km.fld f) (i : Nat) (late : Bool)
    (t : Nat) (s : State) (hs : s.Keeps km pq) : ∀ st, execEpochFlip i late t s = .next st → st.Keeps km pq := by
  unfold execEpochFlip
  refine run_good hs (fun s hs => ?_)
  repeat' first
    | with_reducible assumption
    | (with_reducible (intros; exact any _))
    | (intro _)
    | with_reducible apply State.tick_good
    | with_reducible apply State.launchInstant_good
    | with_reducible apply State.launchFlip_good

theorem execScheduleEntry_good (frc : km.part .frc) (force : km.part .force) (out : km.part .out)
    (tim : km.part .tim) (dep : km.part .dep) (starts : km.part .starts) (ing : km.part .ing) (map : km.part .map)
    (cmp : km.part .cmp) (mem : km.part .mem) (dram : km.part .dram) (scn : km.part .scn) (cor : km.part .cor)
    (rai : km.part .rai) (lfm : km.part .lfm) (hkt : km.part .hkt) (line : km.part .line) (rdn : km.part .rdn)
    (clu : km.part .clu) (que : km.part .que) (mbx : km.part .mbx) (fwu : km.part .fwu) (any : ∀ f, km.fld f)
    (i : Nat) (late : Bool) (t : Nat) (s : State) (hs : s.Keeps km pq) : ∀ st, execScheduleEntry i late t s = .next st → st.Keeps km pq := by
  unfold execScheduleEntry
  refine run_good hs (fun s hs => ?_)
  repeat' first
    | with_reducible assumption
    | (with_reducible (intros; exact any _))
    | (intro _)
    | with_reducible apply State.tick_good
    | with_reducible apply State.launchInstant_good
    | with_reducible apply State.launchSchedule_good

theorem execFwActivate_good (frc : km.part .frc) (force : km.part .force) (out : km.part .out) (tim : km.part .tim)
    (dep : km.part .dep) (starts : km.part .starts) (ing : km.part .ing) (map : km.part .map) (cmp : km.part .cmp)
    (mem : km.part .mem) (dram : km.part .dram) (scn : km.part .scn) (cor : km.part .cor) (rai : km.part .rai)
    (lfm : km.part .lfm) (hkt : km.part .hkt) (line : km.part .line) (rdn : km.part .rdn) (clu : km.part .clu)
    (que : km.part .que) (mbx : km.part .mbx) (fwu : km.part .fwu) (any : ∀ f, km.fld f) (i : Nat) (late : Bool)
    (t : Nat) (s : State) (hs : s.Keeps km pq) : ∀ st, execFwActivate i late t s = .next st → st.Keeps km pq := by
  unfold execFwActivate
  refine run_good hs (fun s hs => ?_)
  repeat' first
    | with_reducible assumption
    | (with_reducible (intros; exact any _))
    | (intro _)
    | with_reducible apply State.tick_good
    | with_reducible apply State.launchInstant_good
    | with_reducible apply State.launchActivate_good

theorem execRailStep_good (frc : km.part .frc) (force : km.part .force) (out : km.part .out) (tim : km.part .tim)
    (dep : km.part .dep) (starts : km.part .starts) (ing : km.part .ing) (map : km.part .map) (cmp : km.part .cmp)
    (mem : km.part .mem) (dram : km.part .dram) (scn : km.part .scn) (cor : km.part .cor) (rai : km.part .rai)
    (lfm : km.part .lfm) (hkt : km.part .hkt) (line : km.part .line) (rdn : km.part .rdn) (clu : km.part .clu)
    (que : km.part .que) (mbx : km.part .mbx) (fwu : km.part .fwu) (any : ∀ f, km.fld f) (i : Nat) (late : Bool)
    (t : Nat) (s : State) (hs : s.Keeps km pq) : ∀ st, execRailStep i late t s = .next st → st.Keeps km pq := by
  unfold execRailStep
  refine run_good hs (fun s hs => ?_)
  repeat' first
    | with_reducible assumption
    | (with_reducible (intros; exact any _))
    | (intro _)
    | with_reducible apply State.tick_good
    | with_reducible apply State.launchInstant_good
    | with_reducible apply State.launchRailStep_good

theorem execWallSwitch_good (frc : km.part .frc) (force : km.part .force) (out : km.part .out) (tim : km.part .tim)
    (dep : km.part .dep) (starts : km.part .starts) (ing : km.part .ing) (map : km.part .map) (cmp : km.part .cmp)
    (mem : km.part .mem) (dram : km.part .dram) (scn : km.part .scn) (cor : km.part .cor) (rai : km.part .rai)
    (lfm : km.part .lfm) (hkt : km.part .hkt) (line : km.part .line) (rdn : km.part .rdn) (clu : km.part .clu)
    (que : km.part .que) (mbx : km.part .mbx) (fwu : km.part .fwu) (any : ∀ f, km.fld f) (i : Nat) (late : Bool)
    (t : Nat) (s : State) (hs : s.Keeps km pq) : ∀ st, execWallSwitch i late t s = .next st → st.Keeps km pq := by
  unfold execWallSwitch
  refine run_good hs (fun s hs => ?_)
  repeat' first
    | with_reducible assumption
    | (with_reducible (intros; exact any _))
    | (intro _)
    | with_reducible apply State.tick_good
    | with_reducible apply State.launchInstant_good
    | with_reducible apply State.launchWallSwitch_good

theorem execPulse_good (frc : km.part .frc) (force : km.part .force) (out : km.part .out) (tim : km.part .tim)
    (dep : km.part .dep) (starts : km.part .starts) (ing : km.part .ing) (map : km.part .map) (cmp : km.part .cmp)
    (mem : km.part .mem) (dram : km.part .dram) (scn : km.part .scn) (cor : km.part .cor) (rai : km.part .rai)
    (lfm : km.part .lfm) (hkt : km.part .hkt) (line : km.part .line) (rdn : km.part .rdn) (clu : km.part .clu)
    (que : km.part .que) (mbx : km.part .mbx) (fwu : km.part .fwu) (any : ∀ f, km.fld f) (i : Nat) (late : Bool)
    (t : Nat) (s : State) (hs : s.Keeps km pq) : ∀ st, execPulse i late t s = .next st → st.Keeps km pq := by
  unfold execPulse
  refine run_good hs (fun s hs => ?_)
  repeat' first
    | with_reducible assumption
    | (with_reducible (intros; exact any _))
    | (intro _)
    | with_reducible apply State.tick_good
    | with_reducible apply State.launchInstant_good
    | with_reducible apply State.launchPulse_good

theorem execMarkEntry_good (frc : km.part .frc) (force : km.part .force) (out : km.part .out) (tim : km.part .tim)
    (dep : km.part .dep) (starts : km.part .starts) (ing : km.part .ing) (map : km.part .map) (cmp : km.part .cmp)
    (mem : km.part .mem) (dram : km.part .dram) (scn : km.part .scn) (cor : km.part .cor) (rai : km.part .rai)
    (lfm : km.part .lfm) (hkt : km.part .hkt) (line : km.part .line) (rdn : km.part .rdn) (clu : km.part .clu)
    (que : km.part .que) (mbx : km.part .mbx) (fwu : km.part .fwu) (any : ∀ f, km.fld f) (i : Nat) (late : Bool)
    (t : Nat) (s : State) (hs : s.Keeps km pq) : ∀ st, execMarkEntry i late t s = .next st → st.Keeps km pq := by
  unfold execMarkEntry
  refine run_good hs (fun s hs => ?_)
  repeat' first
    | with_reducible assumption
    | (with_reducible (intros; exact any _))
    | (intro _)
    | with_reducible apply State.tick_good
    | with_reducible apply State.launchInstant_good
    | with_reducible apply State.launchMark_good

theorem execEntMissed_good (frc : km.part .frc) (out : km.part .out) (dep : km.part .dep)
    (hDEP_DEP_STAT_ARMED : km.fld R.DEP.DEP_STAT.ARMED) (hDEP_DEP_STAT_NEXT_IDX : km.fld R.DEP.DEP_STAT.NEXT_IDX)
    (hDEP_ENT_STATUS_STATE : km.fld R.DEP.ENT_STATUS.STATE) (hDEP_MISSED_CNT_MISSED : km.fld R.DEP.MISSED_CNT.MISSED)
    (hPG_EVT_PEND : ∀ a, km.fld (R.PG.EVT_PEND a)) (i t : Nat) (s : State) (hs : s.Keeps km pq) : ∀ st, execEntMissed i t s = .next st → st.Keeps km pq := by
  unfold execEntMissed
  refine run_good hs (fun s hs => ?_)
  repeat' first
    | with_reducible assumption
    | with_reducible exact hPG_EVT_PEND _
    | (intro _)
    | with_reducible apply State.tick_good
    | with_reducible apply State.entMissed_good

end Sys2Proof.Machine
end

