-- ==== Sys2Proof/Laws/KeepsTimeCmd.lean ====
section
/-!
SUPPORT. Every function of Machine/TimeCmd.lean changes what the hypotheses of its lemma name, and nothing else.
-/
namespace Sys2Proof.Machine
set_option Elab.async false
set_option linter.unusedVariables false
set_option linter.unusedTactic false
set_option linter.unreachableTactic false

variable {km : May} {pq : State}

theorem State.stepLaunch_good (force : km.part .force) (out : km.part .out) (tim : km.part .tim) (dep : km.part .dep)
    (starts : km.part .starts) (ing : km.part .ing) (map : km.part .map) (cmp : km.part .cmp) (mem : km.part .mem)
    (dram : km.part .dram) (scn : km.part .scn) (cor : km.part .cor) (rai : km.part .rai) (lfm : km.part .lfm)
    (hkt : km.part .hkt) (line : km.part .line) (rdn : km.part .rdn) (clu : km.part .clu) (que : km.part .que)
    (mbx : km.part .mbx) (fwu : km.part .fwu) (any : ∀ f, km.fld f) (s : State) (w0 : Int) (hs : s.Keeps km pq) : (State.stepLaunch s w0).Keeps km pq := by
  unfold State.stepLaunch
  repeat' first
    | with_reducible assumption
    | (with_reducible (intros; exact any _))
    | ((try lift_lets -underBinder); intro x; refine Keep.use (k := km) (q := pq) (s := x) ?_ ?_; (on_goal 1 => dsimp -zeta only [x]); (on_goal 2 => clear_value x; intro _))
    | ((try lift_lets -underBinder); intro x; refine Keep.usePair (k := km) (q := pq) (p := x) ?_ ?_; (on_goal 1 => dsimp -zeta only [x]); (on_goal 2 => clear_value x; intro _))
    | ((try lift_lets -underBinder); intro x; refine Keep.memSt (x := x) ?_; subst x)
    | ((try lift_lets -underBinder); intro x; refine Keep.depSt (x := x) ?_; subst x)
    | ((try lift_lets -underBinder); intro x; clear_value x)
    | (intro _)
    | with_reducible apply Keep.ite
    | with_reducible apply State.launchAny_good
    | with_reducible apply State.filter_good
    | with_reducible apply State.frameDeparture_good
    | split
    | (simp -zeta only [Keep.mk_iff]; with_reducible refine Keep.upd ?_ rfl ?_; on_goal 2 => (and_intros <;> with_reducible first | exact .inl rfl | exact .inl ⟨rfl, rfl, rfl⟩ | exact .inr ‹_› | exact Nat.le_refl _ | exact Nat.le_add_right _ _))
    | with_reducible apply Keep.foldl

theorem State.measureAt_good (force : km.part .force) (out : km.part .out) (tim : km.part .tim) (dep : km.part .dep)
    (starts : km.part .starts) (ing : km.part .ing) (map : km.part .map) (cmp : km.part .cmp) (mem : km.part .mem)
    (dram : km.part .dram) (scn : km.part .scn) (cor : km.part .cor) (rai : km.part .rai) (lfm : km.part .lfm)
    (hkt : km.part .hkt) (line : km.part .line) (rdn : km.part .rdn) (clu : km.part .clu) (que : km.part .que)
    (mbx : km.part .mbx) (fwu : km.part .fwu) (any : ∀ f, km.fld f) (s : State) (d : Nat) (m e : Int) (force : Bool)
    (hs : s.Keeps km pq) : (State.measureAt s d m e force).Keeps km pq := by
  unfold State.measureAt
  repeat' first
    | with_reducible assumption
    | (with_reducible (intros; exact any _))
    | ((try lift_lets -underBinder); intro x; refine Keep.use (k := km) (q := pq) (s := x) ?_ ?_; (on_goal 1 => dsimp -zeta only [x]); (on_goal 2 => clear_value x; intro _))
    | ((try lift_lets -underBinder); intro x; refine Keep.usePair (k := km) (q := pq) (p := x) ?_ ?_; (on_goal 1 => dsimp -zeta only [x]); (on_goal 2 => clear_value x; intro _))
    | ((try lift_lets -underBinder); intro x; refine Keep.memSt (x := x) ?_; subst x)
    | ((try lift_lets -underBinder); intro x; refine Keep.depSt (x := x) ?_; subst x)
    | ((try lift_lets -underBinder); intro x; clear_value x)
    | (intro _)
    | with_reducible apply Keep.ite
    | with_reducible apply State.measure_good
    | with_reducible apply State.stepLaunch_good

theorem State.domMeas_good (force : km.part .force) (out : km.part .out) (tim : km.part .tim) (dep : km.part .dep)
    (starts : km.part .starts) (ing : km.part .ing) (map : km.part .map) (cmp : km.part .cmp) (mem : km.part .mem)
    (dram : km.part .dram) (scn : km.part .scn) (cor : km.part .cor) (rai : km.part .rai) (lfm : km.part .lfm)
    (hkt : km.part .hkt) (line : km.part .line) (rdn : km.part .rdn) (clu : km.part .clu) (que : km.part .que)
    (mbx : km.part .mbx) (fwu : km.part .fwu) (any : ∀ f, km.fld f) (s : State) (d w : Nat) (e : Int)
    (hs : s.Keeps km pq) : (State.domMeas s d w e).Keeps km pq := by
  unfold State.domMeas
  repeat' first
    | with_reducible assumption
    | (with_reducible (intros; exact any _))
    | (intro _)
    | with_reducible apply Keep.ite
    | with_reducible apply State.set_good
    | with_reducible apply State.draw_good
    | with_reducible apply State.measureAt_good

theorem State.requestWall_good (force : km.part .force) (out : km.part .out) (tim : km.part .tim)
    (dep : km.part .dep) (starts : km.part .starts) (ing : km.part .ing) (map : km.part .map) (cmp : km.part .cmp)
    (mem : km.part .mem) (dram : km.part .dram) (scn : km.part .scn) (cor : km.part .cor) (rai : km.part .rai)
    (lfm : km.part .lfm) (hkt : km.part .hkt) (line : km.part .line) (rdn : km.part .rdn) (clu : km.part .clu)
    (que : km.part .que) (mbx : km.part .mbx) (fwu : km.part .fwu) (any : ∀ f, km.fld f) (s : State) (target : Nat)
    (force : Bool) (hs : s.Keeps km pq) : (State.requestWall s target force).Keeps km pq := by
  unfold State.requestWall
  repeat' first
    | with_reducible assumption
    | (with_reducible (intros; exact any _))
    | ((try lift_lets -underBinder); intro x; refine Keep.use (k := km) (q := pq) (s := x) ?_ ?_; (on_goal 1 => dsimp -zeta only [x]); (on_goal 2 => clear_value x; intro _))
    | ((try lift_lets -underBinder); intro x; refine Keep.usePair (k := km) (q := pq) (p := x) ?_ ?_; (on_goal 1 => dsimp -zeta only [x]); (on_goal 2 => clear_value x; intro _))
    | ((try lift_lets -underBinder); intro x; refine Keep.memSt (x := x) ?_; subst x)
    | ((try lift_lets -underBinder); intro x; refine Keep.depSt (x := x) ?_; subst x)
    | ((try lift_lets -underBinder); intro x; clear_value x)
    | (intro _)
    | with_reducible apply Keep.ite
    | with_reducible apply State.switchWall_good
    | with_reducible apply State.stepLaunch_good

theorem State.domLost_good (out : km.part .out) (tim : km.part .tim) (hPG_EVT_PEND : ∀ a, km.fld (R.PG.EVT_PEND a))
    (hTIM_DOM_STAT_STATE : ∀ a, km.fld (R.TIM.DOM_STAT.STATE a))
    (hTIM_LINE_TIME_CFG_INTERVAL_EXP : km.fld R.TIM.LINE_TIME_CFG.INTERVAL_EXP)
    (hTIM_TIM_CTRL_WALL_SEL : km.fld R.TIM.TIM_CTRL.WALL_SEL)
    (hTIM_TIM_STAT_D0_STATE : km.fld R.TIM.TIM_STAT.D0_STATE)
    (hTIM_TIM_STAT_D1_STATE : km.fld R.TIM.TIM_STAT.D1_STATE)
    (hTIM_TIM_STAT_HOLDOVER : km.fld R.TIM.TIM_STAT.HOLDOVER) (hTIM_TIM_STAT_SLEWING : km.fld R.TIM.TIM_STAT.SLEWING)
    (hTIM_TIM_STAT_TIME_VALID : km.fld R.TIM.TIM_STAT.TIME_VALID)
    (hTIM_TIM_STAT_WALL_DOM : km.fld R.TIM.TIM_STAT.WALL_DOM) (s : State) (d : Nat) (hs : s.Keeps km pq) : (State.domLost s d).Keeps km pq := by
  unfold State.domLost
  repeat' first
    | with_reducible assumption
    | with_reducible exact hPG_EVT_PEND _
    | with_reducible exact hTIM_DOM_STAT_STATE _
    | (intro _)
    | with_reducible apply Keep.ite
    | with_reducible apply State.enterHoldover_good

theorem State.domsLost_good (out : km.part .out) (tim : km.part .tim) (hPG_EVT_PEND : ∀ a, km.fld (R.PG.EVT_PEND a))
    (hTIM_DOM_STAT_STATE : ∀ a, km.fld (R.TIM.DOM_STAT.STATE a))
    (hTIM_LINE_TIME_CFG_INTERVAL_EXP : km.fld R.TIM.LINE_TIME_CFG.INTERVAL_EXP)
    (hTIM_TIM_CTRL_WALL_SEL : km.fld R.TIM.TIM_CTRL.WALL_SEL)
    (hTIM_TIM_STAT_D0_STATE : km.fld R.TIM.TIM_STAT.D0_STATE)
    (hTIM_TIM_STAT_D1_STATE : km.fld R.TIM.TIM_STAT.D1_STATE)
    (hTIM_TIM_STAT_HOLDOVER : km.fld R.TIM.TIM_STAT.HOLDOVER) (s : State) (hs : s.Keeps km pq) : (State.domsLost s).Keeps km pq := by
  unfold State.domsLost
  repeat' first
    | with_reducible assumption
    | with_reducible exact hPG_EVT_PEND _
    | with_reducible exact hTIM_DOM_STAT_STATE _
    | (intro _)
    | with_reducible apply Keep.ite
    | with_reducible apply State.forN_good
    | with_reducible apply State.putDomState_good
    | with_reducible apply State.ev_good

theorem State.slewEnd_good (tim : km.part .tim) (hTIM_TIM_STAT_SLEWING : km.fld R.TIM.TIM_STAT.SLEWING) (s : State)
    (hs : s.Keeps km pq) : (State.slewEnd s).Keeps km pq := by
  unfold State.slewEnd
  repeat' first
    | with_reducible assumption
    | ((try lift_lets -underBinder); intro x; refine Keep.use (k := km) (q := pq) (s := x) ?_ ?_; (on_goal 1 => dsimp -zeta only [x]); (on_goal 2 => clear_value x; intro _))
    | ((try lift_lets -underBinder); intro x; refine Keep.usePair (k := km) (q := pq) (p := x) ?_ ?_; (on_goal 1 => dsimp -zeta only [x]); (on_goal 2 => clear_value x; intro _))
    | ((try lift_lets -underBinder); intro x; refine Keep.memSt (x := x) ?_; subst x)
    | ((try lift_lets -underBinder); intro x; refine Keep.depSt (x := x) ?_; subst x)
    | ((try lift_lets -underBinder); intro x; clear_value x)
    | (intro _)
    | with_reducible apply Keep.ite
    | with_reducible apply State.set_good
    | (simp -zeta only [Keep.mk_iff]; with_reducible refine Keep.upd ?_ rfl ?_; on_goal 2 => (and_intros <;> with_reducible first | exact .inl rfl | exact .inl ⟨rfl, rfl, rfl⟩ | exact .inr ‹_› | exact Nat.le_refl _ | exact Nat.le_add_right _ _))

theorem State.showDelay_good (hTIM_DOM_DELAY_DELAY : ∀ a, km.fld (R.TIM.DOM_DELAY.DELAY a))
    (hTIM_LD_V : ∀ a, km.fld (R.TIM.LD.V a)) (s : State) (p : Nat) (hs : s.Keeps km pq) : (State.showDelay s p).Keeps km pq := by
  unfold State.showDelay
  repeat' first
    | with_reducible assumption
    | with_reducible exact hTIM_DOM_DELAY_DELAY _
    | with_reducible exact hTIM_LD_V _
    | ((try lift_lets -underBinder); intro x; refine Keep.use (k := km) (q := pq) (s := x) ?_ ?_; (on_goal 1 => dsimp -zeta only [x]); (on_goal 2 => clear_value x; intro _))
    | ((try lift_lets -underBinder); intro x; refine Keep.usePair (k := km) (q := pq) (p := x) ?_ ?_; (on_goal 1 => dsimp -zeta only [x]); (on_goal 2 => clear_value x; intro _))
    | ((try lift_lets -underBinder); intro x; refine Keep.memSt (x := x) ?_; subst x)
    | ((try lift_lets -underBinder); intro x; refine Keep.depSt (x := x) ?_; subst x)
    | ((try lift_lets -underBinder); intro x; clear_value x)
    | (intro _)
    | with_reducible apply Keep.ite
    | with_reducible apply State.set_good

theorem State.sendTimes_good (out : km.part .out) (tim : km.part .tim) (line : km.part .line) (s : State)
    (hs : s.Keeps km pq) : (State.sendTimes s).Keeps km pq := by
  unfold State.sendTimes
  repeat' first
    | with_reducible assumption
    | ((try lift_lets -underBinder); intro x; refine Keep.use (k := km) (q := pq) (s := x) ?_ ?_; (on_goal 1 => dsimp -zeta only [x]); (on_goal 2 => clear_value x; intro _))
    | ((try lift_lets -underBinder); intro x; refine Keep.usePair (k := km) (q := pq) (p := x) ?_ ?_; (on_goal 1 => dsimp -zeta only [x]); (on_goal 2 => clear_value x; intro _))
    | ((try lift_lets -underBinder); intro x; refine Keep.memSt (x := x) ?_; subst x)
    | ((try lift_lets -underBinder); intro x; refine Keep.depSt (x := x) ?_; subst x)
    | ((try lift_lets -underBinder); intro x; clear_value x)
    | (intro _)
    | with_reducible apply Keep.ite
    | with_reducible apply State.forN_good
    | with_reducible apply State.draw_good
    | with_reducible apply State.send_good
    | (simp -zeta only [Keep.mk_iff]; with_reducible refine Keep.upd ?_ rfl ?_; on_goal 2 => (and_intros <;> with_reducible first | exact .inl rfl | exact .inl ⟨rfl, rfl, rfl⟩ | exact .inr ‹_› | exact Nat.le_refl _ | exact Nat.le_add_right _ _))

theorem State.forwardTime_good (out : km.part .out) (line : km.part .line) (s : State) (p : Nat) (m : TimeMsg)
    (inF outF : Nat) (hs : s.Keeps km pq) : (State.forwardTime s p m inF outF).Keeps km pq := by
  unfold State.forwardTime
  repeat' first
    | with_reducible assumption
    | ((try lift_lets -underBinder); intro x; refine Keep.use (k := km) (q := pq) (s := x) ?_ ?_; (on_goal 1 => dsimp -zeta only [x]); (on_goal 2 => clear_value x; intro _))
    | ((try lift_lets -underBinder); intro x; refine Keep.usePair (k := km) (q := pq) (p := x) ?_ ?_; (on_goal 1 => dsimp -zeta only [x]); (on_goal 2 => clear_value x; intro _))
    | ((try lift_lets -underBinder); intro x; refine Keep.memSt (x := x) ?_; subst x)
    | ((try lift_lets -underBinder); intro x; refine Keep.depSt (x := x) ?_; subst x)
    | ((try lift_lets -underBinder); intro x; clear_value x)
    | (intro _)
    | with_reducible apply State.passTime_good

theorem State.timeMeasure_good (force : km.part .force) (out : km.part .out) (tim : km.part .tim)
    (dep : km.part .dep) (starts : km.part .starts) (ing : km.part .ing) (map : km.part .map) (cmp : km.part .cmp)
    (mem : km.part .mem) (dram : km.part .dram) (scn : km.part .scn) (cor : km.part .cor) (rai : km.part .rai)
    (lfm : km.part .lfm) (hkt : km.part .hkt) (line : km.part .line) (rdn : km.part .rdn) (clu : km.part .clu)
    (que : km.part .que) (mbx : km.part .mbx) (fwu : km.part .fwu) (any : ∀ f, km.fld f) (s : State) (p : Nat)
    (m : TimeMsg) (inF : Nat) (hs : s.Keeps km pq) : (State.timeMeasure s p m inF).Keeps km pq := by
  unfold State.timeMeasure
  repeat' first
    | with_reducible assumption
    | (with_reducible (intros; exact any _))
    | ((try lift_lets -underBinder); intro x; refine Keep.use (k := km) (q := pq) (s := x) ?_ ?_; (on_goal 1 => dsimp -zeta only [x]); (on_goal 2 => clear_value x; intro _))
    | ((try lift_lets -underBinder); intro x; refine Keep.usePair (k := km) (q := pq) (p := x) ?_ ?_; (on_goal 1 => dsimp -zeta only [x]); (on_goal 2 => clear_value x; intro _))
    | ((try lift_lets -underBinder); intro x; refine Keep.memSt (x := x) ?_; subst x)
    | ((try lift_lets -underBinder); intro x; refine Keep.depSt (x := x) ?_; subst x)
    | ((try lift_lets -underBinder); intro x; clear_value x)
    | (intro _)
    | with_reducible apply Keep.ite
    | with_reducible apply State.enterAcquire_good
    | with_reducible apply State.count_good
    | with_reducible apply State.setDom_good
    | with_reducible apply State.measureAt_good
    | with_reducible apply State.showWall_good

theorem State.timeMessage_good (force : km.part .force) (out : km.part .out) (tim : km.part .tim)
    (dep : km.part .dep) (starts : km.part .starts) (ing : km.part .ing) (map : km.part .map) (cmp : km.part .cmp)
    (mem : km.part .mem) (dram : km.part .dram) (scn : km.part .scn) (cor : km.part .cor) (rai : km.part .rai)
    (lfm : km.part .lfm) (hkt : km.part .hkt) (line : km.part .line) (rdn : km.part .rdn) (clu : km.part .clu)
    (que : km.part .que) (mbx : km.part .mbx) (fwu : km.part .fwu) (any : ∀ f, km.fld f) (s : State) (p : Nat)
    (m : TimeMsg) (inF outF : Nat) (hs : s.Keeps km pq) : (State.timeMessage s p m inF outF).Keeps km pq := by
  unfold State.timeMessage
  repeat' first
    | with_reducible assumption
    | (with_reducible (intros; exact any _))
    | (intro _)
    | with_reducible apply Keep.ite
    | with_reducible apply State.forwardTime_good
    | with_reducible apply State.timeMeasure_good

theorem State.receiveSched_good (tim : km.part .tim) (s : State) (c : Sched) (next : Bool) (hs : s.Keeps km pq) : (State.receiveSched s c next).Keeps km pq := by
  unfold State.receiveSched
  repeat' first
    | with_reducible assumption
    | ((try lift_lets -underBinder); intro x; refine Keep.use (k := km) (q := pq) (s := x) ?_ ?_; (on_goal 1 => dsimp -zeta only [x]); (on_goal 2 => clear_value x; intro _))
    | ((try lift_lets -underBinder); intro x; refine Keep.usePair (k := km) (q := pq) (p := x) ?_ ?_; (on_goal 1 => dsimp -zeta only [x]); (on_goal 2 => clear_value x; intro _))
    | ((try lift_lets -underBinder); intro x; refine Keep.memSt (x := x) ?_; subst x)
    | ((try lift_lets -underBinder); intro x; refine Keep.depSt (x := x) ?_; subst x)
    | ((try lift_lets -underBinder); intro x; clear_value x)
    | (intro _)
    | with_reducible apply Keep.ite
    | split
    | (simp -zeta only [Keep.mk_iff]; with_reducible refine Keep.upd ?_ rfl ?_; on_goal 2 => (and_intros <;> with_reducible first | exact .inl rfl | exact .inl ⟨rfl, rfl, rfl⟩ | exact .inr ‹_› | exact Nat.le_refl _ | exact Nat.le_add_right _ _))

theorem State.schedMessage_good (out : km.part .out) (tim : km.part .tim)
    (hDEP_MODE_CHECK_DEP_PENDING : km.fld R.DEP.MODE_CHECK.DEP_PENDING)
    (hDEP_MODE_CHECK_EPOCH_PENDING : km.fld R.DEP.MODE_CHECK.EPOCH_PENDING)
    (hDEP_MODE_CHECK_FIELDS : km.fld R.DEP.MODE_CHECK.FIELDS) (hDEP_MODE_CHECK_RULE : km.fld R.DEP.MODE_CHECK.RULE)
    (hDEP_MODE_CHECK_VALID : km.fld R.DEP.MODE_CHECK.VALID)
    (hDEP_MODE_CTRL_DARK_FRAMES : km.fld R.DEP.MODE_CTRL.DARK_FRAMES)
    (hDEP_MODE_CTRL_FB_VALID : km.fld R.DEP.MODE_CTRL.FB_VALID) (hDEP_VPHASE_V : ∀ a, km.fld (R.DEP.VPHASE.V a))
    (hPG_EVT_PEND : ∀ a, km.fld (R.PG.EVT_PEND a)) (hTIM_RATE_NEXT_RATE : km.fld R.TIM.RATE_NEXT.RATE) (s : State)
    (p : Nat) (m : SchedMsg) (hs : s.Keeps km pq) : (State.schedMessage s p m).Keeps km pq := by
  unfold State.schedMessage
  repeat' first
    | with_reducible assumption
    | with_reducible exact hDEP_VPHASE_V _
    | with_reducible exact hPG_EVT_PEND _
    | ((try lift_lets -underBinder); intro x; refine Keep.use (k := km) (q := pq) (s := x) ?_ ?_; (on_goal 1 => dsimp -zeta only [x]); (on_goal 2 => clear_value x; intro _))
    | ((try lift_lets -underBinder); intro x; refine Keep.usePair (k := km) (q := pq) (p := x) ?_ ?_; (on_goal 1 => dsimp -zeta only [x]); (on_goal 2 => clear_value x; intro _))
    | ((try lift_lets -underBinder); intro x; refine Keep.memSt (x := x) ?_; subst x)
    | ((try lift_lets -underBinder); intro x; refine Keep.depSt (x := x) ?_; subst x)
    | ((try lift_lets -underBinder); intro x; clear_value x)
    | (intro _)
    | with_reducible apply Keep.ite
    | with_reducible apply State.set_good
    | with_reducible apply State.forN_good
    | with_reducible apply State.receiveSched_good
    | with_reducible apply State.evaluate_good
    | (simp -zeta only [Keep.mk_iff]; with_reducible refine Keep.upd ?_ rfl ?_; on_goal 2 => (and_intros <;> with_reducible first | exact .inl rfl | exact .inl ⟨rfl, rfl, rfl⟩ | exact .inr ‹_› | exact Nat.le_refl _ | exact Nat.le_add_right _ _))

theorem State.ldInterval_good (out : km.part .out) (tim : km.part .tim) (line : km.part .line)
    (hTIM_DOM_DELAY_DELAY : ∀ a, km.fld (R.TIM.DOM_DELAY.DELAY a)) (hTIM_LD_V : ∀ a, km.fld (R.TIM.LD.V a))
    (s : State) (p t1 : Nat) (hs : s.Keeps km pq) : (State.ldInterval s p t1).Keeps km pq := by
  unfold State.ldInterval
  repeat' first
    | with_reducible assumption
    | with_reducible exact hTIM_DOM_DELAY_DELAY _
    | with_reducible exact hTIM_LD_V _
    | ((try lift_lets -underBinder); intro x; refine Keep.use (k := km) (q := pq) (s := x) ?_ ?_; (on_goal 1 => dsimp -zeta only [x]); (on_goal 2 => clear_value x; intro _))
    | ((try lift_lets -underBinder); intro x; refine Keep.usePair (k := km) (q := pq) (p := x) ?_ ?_; (on_goal 1 => dsimp -zeta only [x]); (on_goal 2 => clear_value x; intro _))
    | ((try lift_lets -underBinder); intro x; refine Keep.memSt (x := x) ?_; subst x)
    | ((try lift_lets -underBinder); intro x; refine Keep.depSt (x := x) ?_; subst x)
    | ((try lift_lets -underBinder); intro x; clear_value x)
    | (intro _)
    | with_reducible apply Keep.ite
    | with_reducible apply State.send_good
    | with_reducible apply State.ldReq_good
    | (simp -zeta only [Keep.mk_iff]; with_reducible refine Keep.upd ?_ rfl ?_; on_goal 2 => (and_intros <;> with_reducible first | exact .inl rfl | exact .inl ⟨rfl, rfl, rfl⟩ | exact .inr ‹_› | exact Nat.le_refl _ | exact Nat.le_add_right _ _))

theorem State.ldReq_good (out : km.part .out) (tim : km.part .tim) (line : km.part .line)
    (hTIM_DOM_DELAY_DELAY : ∀ a, km.fld (R.TIM.DOM_DELAY.DELAY a)) (hTIM_LD_V : ∀ a, km.fld (R.TIM.LD.V a))
    (s : State) (p q t2 t3 : Nat) (hs : s.Keeps km pq) : (State.ldReq s p q t2 t3).Keeps km pq := by
  unfold State.ldReq
  repeat' first
    | with_reducible assumption
    | with_reducible exact hTIM_DOM_DELAY_DELAY _
    | with_reducible exact hTIM_LD_V _
    | (intro _)
    | with_reducible apply Keep.ite
    | with_reducible apply State.send_good

theorem State.ldClose_good (tim : km.part .tim) (s : State) (p : Nat) (hs : s.Keeps km pq) : (State.ldClose s p).Keeps km pq := by
  unfold State.ldClose
  repeat' first
    | with_reducible assumption
    | ((try lift_lets -underBinder); intro x; refine Keep.use (k := km) (q := pq) (s := x) ?_ ?_; (on_goal 1 => dsimp -zeta only [x]); (on_goal 2 => clear_value x; intro _))
    | ((try lift_lets -underBinder); intro x; refine Keep.usePair (k := km) (q := pq) (p := x) ?_ ?_; (on_goal 1 => dsimp -zeta only [x]); (on_goal 2 => clear_value x; intro _))
    | ((try lift_lets -underBinder); intro x; refine Keep.memSt (x := x) ?_; subst x)
    | ((try lift_lets -underBinder); intro x; refine Keep.depSt (x := x) ?_; subst x)
    | ((try lift_lets -underBinder); intro x; clear_value x)
    | (intro _)
    | with_reducible apply Keep.ite
    | (simp -zeta only [Keep.mk_iff]; with_reducible refine Keep.upd ?_ rfl ?_; on_goal 2 => (and_intros <;> with_reducible first | exact .inl rfl | exact .inl ⟨rfl, rfl, rfl⟩ | exact .inr ‹_› | exact Nat.le_refl _ | exact Nat.le_add_right _ _))

theorem State.ldRsp_good (tim : km.part .tim) (hTIM_DOM_DELAY_DELAY : ∀ a, km.fld (R.TIM.DOM_DELAY.DELAY a))
    (hTIM_LD_V : ∀ a, km.fld (R.TIM.LD.V a)) (s : State) (p q : Nat) (turn : Int) (t4 : Nat) (hs : s.Keeps km pq) : (State.ldRsp s p q turn t4).Keeps km pq := by
  unfold State.ldRsp
  repeat' first
    | with_reducible assumption
    | with_reducible exact hTIM_DOM_DELAY_DELAY _
    | with_reducible exact hTIM_LD_V _
    | ((try lift_lets -underBinder); intro x; refine Keep.use (k := km) (q := pq) (s := x) ?_ ?_; (on_goal 1 => dsimp -zeta only [x]); (on_goal 2 => clear_value x; intro _))
    | ((try lift_lets -underBinder); intro x; refine Keep.usePair (k := km) (q := pq) (p := x) ?_ ?_; (on_goal 1 => dsimp -zeta only [x]); (on_goal 2 => clear_value x; intro _))
    | ((try lift_lets -underBinder); intro x; refine Keep.memSt (x := x) ?_; subst x)
    | ((try lift_lets -underBinder); intro x; refine Keep.depSt (x := x) ?_; subst x)
    | ((try lift_lets -underBinder); intro x; clear_value x)
    | (intro _)
    | with_reducible apply Keep.ite
    | with_reducible apply State.ldClose_good
    | with_reducible apply State.showDelay_good
    | split
    | (simp -zeta only [Keep.mk_iff]; with_reducible refine Keep.upd ?_ rfl ?_; on_goal 2 => (and_intros <;> with_reducible first | exact .inl rfl | exact .inl ⟨rfl, rfl, rfl⟩ | exact .inr ‹_› | exact Nat.le_refl _ | exact Nat.le_add_right _ _))

theorem State.setTick_good (tim : km.part .tim) (hTIM_TIM_STAT_TICK_STATE : km.fld R.TIM.TIM_STAT.TICK_STATE)
    (s : State) (v : Nat) (hs : s.Keeps km pq) : (State.setTick s v).Keeps km pq := by
  unfold State.setTick
  repeat' first
    | with_reducible assumption
    | ((try lift_lets -underBinder); intro x; refine Keep.use (k := km) (q := pq) (s := x) ?_ ?_; (on_goal 1 => dsimp -zeta only [x]); (on_goal 2 => clear_value x; intro _))
    | ((try lift_lets -underBinder); intro x; refine Keep.usePair (k := km) (q := pq) (p := x) ?_ ?_; (on_goal 1 => dsimp -zeta only [x]); (on_goal 2 => clear_value x; intro _))
    | ((try lift_lets -underBinder); intro x; refine Keep.memSt (x := x) ?_; subst x)
    | ((try lift_lets -underBinder); intro x; refine Keep.depSt (x := x) ?_; subst x)
    | ((try lift_lets -underBinder); intro x; clear_value x)
    | (intro _)
    | with_reducible apply State.set_good
    | (simp -zeta only [Keep.mk_iff]; with_reducible refine Keep.upd ?_ rfl ?_; on_goal 2 => (and_intros <;> with_reducible first | exact .inl rfl | exact .inl ⟨rfl, rfl, rfl⟩ | exact .inr ‹_› | exact Nat.le_refl _ | exact Nat.le_add_right _ _))

theorem State.tickMove_good (out : km.part .out) (tim : km.part .tim) (line : km.part .line)
    (hDEP_VPHASE_CUR_VPHASE : ∀ a, km.fld (R.DEP.VPHASE_CUR.VPHASE a))
    (hTIM_RATE_CUR_RATE : km.fld R.TIM.RATE_CUR.RATE) (hTIM_SCHED_N0_HI_N0 : km.fld R.TIM.SCHED_N0_HI.N0)
    (hTIM_SCHED_N0_LO_N0 : km.fld R.TIM.SCHED_N0_LO.N0) (hTIM_SCHED_T0_HI_T0 : km.fld R.TIM.SCHED_T0_HI.T0)
    (hTIM_SCHED_T0_LO_T0 : km.fld R.TIM.SCHED_T0_LO.T0) (s : State) (err : Int) (hs : s.Keeps km pq) : (State.tickMove s err).Keeps km pq := by
  unfold State.tickMove
  repeat' first
    | with_reducible assumption
    | with_reducible exact hDEP_VPHASE_CUR_VPHASE _
    | ((try lift_lets -underBinder); intro x; refine Keep.use (k := km) (q := pq) (s := x) ?_ ?_; (on_goal 1 => dsimp -zeta only [x]); (on_goal 2 => clear_value x; intro _))
    | ((try lift_lets -underBinder); intro x; refine Keep.usePair (k := km) (q := pq) (p := x) ?_ ?_; (on_goal 1 => dsimp -zeta only [x]); (on_goal 2 => clear_value x; intro _))
    | ((try lift_lets -underBinder); intro x; refine Keep.memSt (x := x) ?_; subst x)
    | ((try lift_lets -underBinder); intro x; refine Keep.depSt (x := x) ?_; subst x)
    | ((try lift_lets -underBinder); intro x; clear_value x)
    | (intro _)
    | with_reducible apply State.sendScheds_good
    | with_reducible apply State.showSched_good
    | split
    | (simp -zeta only [Keep.mk_iff]; with_reducible refine Keep.upd ?_ rfl ?_; on_goal 2 => (and_intros <;> with_reducible first | exact .inl rfl | exact .inl ⟨rfl, rfl, rfl⟩ | exact .inr ‹_› | exact Nat.le_refl _ | exact Nat.le_add_right _ _))

theorem State.pendAt_good (out : km.part .out) (tim : km.part .tim) (line : km.part .line) (s : State) (c : Sched)
    (r : Nat) (t0 : Int) (hs : s.Keeps km pq) : (State.pendAt s c r t0).Keeps km pq := by
  unfold State.pendAt
  repeat' first
    | with_reducible assumption
    | ((try lift_lets -underBinder); intro x; refine Keep.use (k := km) (q := pq) (s := x) ?_ ?_; (on_goal 1 => dsimp -zeta only [x]); (on_goal 2 => clear_value x; intro _))
    | ((try lift_lets -underBinder); intro x; refine Keep.usePair (k := km) (q := pq) (p := x) ?_ ?_; (on_goal 1 => dsimp -zeta only [x]); (on_goal 2 => clear_value x; intro _))
    | ((try lift_lets -underBinder); intro x; refine Keep.memSt (x := x) ?_; subst x)
    | ((try lift_lets -underBinder); intro x; refine Keep.depSt (x := x) ?_; subst x)
    | ((try lift_lets -underBinder); intro x; clear_value x)
    | (intro _)
    | with_reducible apply State.sendScheds_good
    | (simp -zeta only [Keep.mk_iff]; with_reducible refine Keep.upd ?_ rfl ?_; on_goal 2 => (and_intros <;> with_reducible first | exact .inl rfl | exact .inl ⟨rfl, rfl, rfl⟩ | exact .inr ‹_› | exact Nat.le_refl _ | exact Nat.le_add_right _ _))

theorem State.rateAnswer_good (out : km.part .out) (tim : km.part .tim) (line : km.part .line)
    (hDEP_MODE_CHECK_FIELDS : km.fld R.DEP.MODE_CHECK.FIELDS) (hDEP_MODE_CHECK_RULE : km.fld R.DEP.MODE_CHECK.RULE)
    (hDEP_MODE_CHECK_VALID : km.fld R.DEP.MODE_CHECK.VALID)
    (hTIM_TIM_STAT_TICK_STATE : km.fld R.TIM.TIM_STAT.TICK_STATE) (s : State) (c : Sched) (r : Nat) (x : Int)
    (fail : Option (Nat × Nat)) (hs : s.Keeps km pq) : (State.rateAnswer s c r x fail).Keeps km pq := by
  unfold State.rateAnswer
  repeat' first
    | with_reducible assumption
    | ((try lift_lets -underBinder); intro x; refine Keep.use (k := km) (q := pq) (s := x) ?_ ?_; (on_goal 1 => dsimp -zeta only [x]); (on_goal 2 => clear_value x; intro _))
    | ((try lift_lets -underBinder); intro x; refine Keep.usePair (k := km) (q := pq) (p := x) ?_ ?_; (on_goal 1 => dsimp -zeta only [x]); (on_goal 2 => clear_value x; intro _))
    | ((try lift_lets -underBinder); intro x; refine Keep.memSt (x := x) ?_; subst x)
    | ((try lift_lets -underBinder); intro x; refine Keep.depSt (x := x) ?_; subst x)
    | ((try lift_lets -underBinder); intro x; clear_value x)
    | (intro _)
    | with_reducible apply Keep.ite
    | with_reducible apply State.set_good
    | with_reducible apply State.setTick_good
    | with_reducible apply State.pendAt_good
    | split
    | (simp -zeta only [Keep.mk_iff]; with_reducible refine Keep.upd ?_ rfl ?_; on_goal 2 => (and_intros <;> with_reducible first | exact .inl rfl | exact .inl ⟨rfl, rfl, rfl⟩ | exact .inr ‹_› | exact Nat.le_refl _ | exact Nat.le_add_right _ _))

theorem State.confirmRate_good (out : km.part .out) (tim : km.part .tim) (line : km.part .line)
    (hDEP_MODE_CHECK_DEP_PENDING : km.fld R.DEP.MODE_CHECK.DEP_PENDING)
    (hDEP_MODE_CHECK_EPOCH_PENDING : km.fld R.DEP.MODE_CHECK.EPOCH_PENDING)
    (hDEP_MODE_CHECK_FIELDS : km.fld R.DEP.MODE_CHECK.FIELDS) (hDEP_MODE_CHECK_RULE : km.fld R.DEP.MODE_CHECK.RULE)
    (hDEP_MODE_CHECK_VALID : km.fld R.DEP.MODE_CHECK.VALID)
    (hDEP_MODE_CTRL_FB_VALID : km.fld R.DEP.MODE_CTRL.FB_VALID) (hPG_EVT_PEND : ∀ a, km.fld (R.PG.EVT_PEND a))
    (hTIM_RATE_NEXT_RATE : km.fld R.TIM.RATE_NEXT.RATE) (hTIM_TICK_CFG_RATE_SEEN : km.fld R.TIM.TICK_CFG.RATE_SEEN)
    (hTIM_TIM_STAT_TICK_STATE : km.fld R.TIM.TIM_STAT.TICK_STATE) (s : State) (r : Nat) (x : Int)
    (hs : s.Keeps km pq) : (State.confirmRate s r x).Keeps km pq := by
  unfold State.confirmRate
  repeat' first
    | with_reducible assumption
    | with_reducible exact hPG_EVT_PEND _
    | ((try lift_lets -underBinder); intro x; refine Keep.use (k := km) (q := pq) (s := x) ?_ ?_; (on_goal 1 => dsimp -zeta only [x]); (on_goal 2 => clear_value x; intro _))
    | ((try lift_lets -underBinder); intro x; refine Keep.usePair (k := km) (q := pq) (p := x) ?_ ?_; (on_goal 1 => dsimp -zeta only [x]); (on_goal 2 => clear_value x; intro _))
    | ((try lift_lets -underBinder); intro x; refine Keep.memSt (x := x) ?_; subst x)
    | ((try lift_lets -underBinder); intro x; refine Keep.depSt (x := x) ?_; subst x)
    | ((try lift_lets -underBinder); intro x; clear_value x)
    | (intro _)
    | with_reducible apply Keep.ite
    | with_reducible apply State.set_good
    | with_reducible apply State.ev_good
    | with_reducible apply State.setTick_good
    | with_reducible apply State.evaluate_good
    | with_reducible apply State.pendAt_good
    | with_reducible apply State.rateAnswer_good
    | split
    | (simp -zeta only [Keep.mk_iff]; with_reducible refine Keep.upd ?_ rfl ?_; on_goal 2 => (and_intros <;> with_reducible first | exact .inl rfl | exact .inl ⟨rfl, rfl, rfl⟩ | exact .inr ‹_› | exact Nat.le_refl _ | exact Nat.le_add_right _ _))

theorem State.tickAcquire_good (out : km.part .out) (tim : km.part .tim) (line : km.part .line)
    (hDEP_MODE_CHECK_DEP_PENDING : km.fld R.DEP.MODE_CHECK.DEP_PENDING)
    (hDEP_MODE_CHECK_EPOCH_PENDING : km.fld R.DEP.MODE_CHECK.EPOCH_PENDING)
    (hDEP_MODE_CHECK_FIELDS : km.fld R.DEP.MODE_CHECK.FIELDS) (hDEP_MODE_CHECK_RULE : km.fld R.DEP.MODE_CHECK.RULE)
    (hDEP_MODE_CHECK_VALID : km.fld R.DEP.MODE_CHECK.VALID)
    (hDEP_MODE_CTRL_FB_VALID : km.fld R.DEP.MODE_CTRL.FB_VALID) (hPG_EVT_PEND : ∀ a, km.fld (R.PG.EVT_PEND a))
    (hTIM_RATE_NEXT_RATE : km.fld R.TIM.RATE_NEXT.RATE) (hTIM_TICK_CFG_RATE_SEEN : km.fld R.TIM.TICK_CFG.RATE_SEEN)
    (hTIM_TIM_STAT_TICK_STATE : km.fld R.TIM.TIM_STAT.TICK_STATE) (s : State) (x : Int) (hs : s.Keeps km pq) : (State.tickAcquire s x).Keeps km pq := by
  unfold State.tickAcquire
  repeat' first
    | with_reducible assumption
    | with_reducible exact hPG_EVT_PEND _
    | ((try lift_lets -underBinder); intro x; refine Keep.use (k := km) (q := pq) (s := x) ?_ ?_; (on_goal 1 => dsimp -zeta only [x]); (on_goal 2 => clear_value x; intro _))
    | ((try lift_lets -underBinder); intro x; refine Keep.usePair (k := km) (q := pq) (p := x) ?_ ?_; (on_goal 1 => dsimp -zeta only [x]); (on_goal 2 => clear_value x; intro _))
    | ((try lift_lets -underBinder); intro x; refine Keep.memSt (x := x) ?_; subst x)
    | ((try lift_lets -underBinder); intro x; refine Keep.depSt (x := x) ?_; subst x)
    | ((try lift_lets -underBinder); intro x; clear_value x)
    | (intro _)
    | with_reducible apply Keep.ite
    | with_reducible apply State.confirmRate_good
    | with_reducible apply State.ev_good
    | split
    | (simp -zeta only [Keep.mk_iff]; with_reducible refine Keep.upd ?_ rfl ?_; on_goal 2 => (and_intros <;> with_reducible first | exact .inl rfl | exact .inl ⟨rfl, rfl, rfl⟩ | exact .inr ‹_› | exact Nat.le_refl _ | exact Nat.le_add_right _ _))

theorem State.tickPhase_good (out : km.part .out) (tim : km.part .tim) (line : km.part .line) (s : State) (x : Int)
    (hs : s.Keeps km pq) : (State.tickPhase s x).Keeps km pq := by
  unfold State.tickPhase
  repeat' first
    | with_reducible assumption
    | ((try lift_lets -underBinder); intro x; refine Keep.use (k := km) (q := pq) (s := x) ?_ ?_; (on_goal 1 => dsimp -zeta only [x]); (on_goal 2 => clear_value x; intro _))
    | ((try lift_lets -underBinder); intro x; refine Keep.usePair (k := km) (q := pq) (p := x) ?_ ?_; (on_goal 1 => dsimp -zeta only [x]); (on_goal 2 => clear_value x; intro _))
    | ((try lift_lets -underBinder); intro x; refine Keep.memSt (x := x) ?_; subst x)
    | ((try lift_lets -underBinder); intro x; refine Keep.depSt (x := x) ?_; subst x)
    | ((try lift_lets -underBinder); intro x; clear_value x)
    | (intro _)
    | with_reducible apply Keep.ite
    | with_reducible apply State.pendAt_good
    | split
    | (simp -zeta only [Keep.mk_iff]; with_reducible refine Keep.upd ?_ rfl ?_; on_goal 2 => (and_intros <;> with_reducible first | exact .inl rfl | exact .inl ⟨rfl, rfl, rfl⟩ | exact .inr ‹_› | exact Nat.le_refl _ | exact Nat.le_add_right _ _))

theorem State.tickLocked_good (out : km.part .out) (tim : km.part .tim) (line : km.part .line)
    (hDEP_VPHASE_CUR_VPHASE : ∀ a, km.fld (R.DEP.VPHASE_CUR.VPHASE a)) (hPG_EVT_PEND : ∀ a, km.fld (R.PG.EVT_PEND a))
    (hTIM_RATE_CUR_RATE : km.fld R.TIM.RATE_CUR.RATE) (hTIM_SCHED_N0_HI_N0 : km.fld R.TIM.SCHED_N0_HI.N0)
    (hTIM_SCHED_N0_LO_N0 : km.fld R.TIM.SCHED_N0_LO.N0) (hTIM_SCHED_T0_HI_T0 : km.fld R.TIM.SCHED_T0_HI.T0)
    (hTIM_SCHED_T0_LO_T0 : km.fld R.TIM.SCHED_T0_LO.T0) (hTIM_TICK_CNT_OUT_TICKS : km.fld R.TIM.TICK_CNT.OUT_TICKS)
    (hTIM_TIM_STAT_TICK_STATE : km.fld R.TIM.TIM_STAT.TICK_STATE) (s : State) (x : Int) (hs : s.Keeps km pq) : (State.tickLocked s x).Keeps km pq := by
  unfold State.tickLocked
  repeat' first
    | with_reducible assumption
    | with_reducible exact hDEP_VPHASE_CUR_VPHASE _
    | with_reducible exact hPG_EVT_PEND _
    | ((try lift_lets -underBinder); intro x; refine Keep.use (k := km) (q := pq) (s := x) ?_ ?_; (on_goal 1 => dsimp -zeta only [x]); (on_goal 2 => clear_value x; intro _))
    | ((try lift_lets -underBinder); intro x; refine Keep.usePair (k := km) (q := pq) (p := x) ?_ ?_; (on_goal 1 => dsimp -zeta only [x]); (on_goal 2 => clear_value x; intro _))
    | ((try lift_lets -underBinder); intro x; refine Keep.memSt (x := x) ?_; subst x)
    | ((try lift_lets -underBinder); intro x; refine Keep.depSt (x := x) ?_; subst x)
    | ((try lift_lets -underBinder); intro x; clear_value x)
    | (intro _)
    | with_reducible apply Keep.ite
    | with_reducible apply State.tickPhase_good
    | with_reducible apply State.tickMove_good
    | with_reducible apply State.count_good
    | with_reducible apply State.setTick_good
    | with_reducible apply State.ev_good
    | split
    | (simp -zeta only [Keep.mk_iff]; with_reducible refine Keep.upd ?_ rfl ?_; on_goal 2 => (and_intros <;> with_reducible first | exact .inl rfl | exact .inl ⟨rfl, rfl, rfl⟩ | exact .inr ‹_› | exact Nat.le_refl _ | exact Nat.le_add_right _ _))

theorem State.tickIn_good (out : km.part .out) (tim : km.part .tim) (line : km.part .line)
    (hDEP_MODE_CHECK_DEP_PENDING : km.fld R.DEP.MODE_CHECK.DEP_PENDING)
    (hDEP_MODE_CHECK_EPOCH_PENDING : km.fld R.DEP.MODE_CHECK.EPOCH_PENDING)
    (hDEP_MODE_CHECK_FIELDS : km.fld R.DEP.MODE_CHECK.FIELDS) (hDEP_MODE_CHECK_RULE : km.fld R.DEP.MODE_CHECK.RULE)
    (hDEP_MODE_CHECK_VALID : km.fld R.DEP.MODE_CHECK.VALID)
    (hDEP_MODE_CTRL_FB_VALID : km.fld R.DEP.MODE_CTRL.FB_VALID)
    (hDEP_VPHASE_CUR_VPHASE : ∀ a, km.fld (R.DEP.VPHASE_CUR.VPHASE a)) (hPG_EVT_PEND : ∀ a, km.fld (R.PG.EVT_PEND a))
    (hTIM_RATE_CUR_RATE : km.fld R.TIM.RATE_CUR.RATE) (hTIM_RATE_NEXT_RATE : km.fld R.TIM.RATE_NEXT.RATE)
    (hTIM_SCHED_N0_HI_N0 : km.fld R.TIM.SCHED_N0_HI.N0) (hTIM_SCHED_N0_LO_N0 : km.fld R.TIM.SCHED_N0_LO.N0)
    (hTIM_SCHED_T0_HI_T0 : km.fld R.TIM.SCHED_T0_HI.T0) (hTIM_SCHED_T0_LO_T0 : km.fld R.TIM.SCHED_T0_LO.T0)
    (hTIM_TICK_CFG_RATE_SEEN : km.fld R.TIM.TICK_CFG.RATE_SEEN)
    (hTIM_TICK_CNT_OUT_TICKS : km.fld R.TIM.TICK_CNT.OUT_TICKS)
    (hTIM_TIM_STAT_TICK_STATE : km.fld R.TIM.TIM_STAT.TICK_STATE) (s : State) (f16 : Nat) (hs : s.Keeps km pq) : (State.tickIn s f16).Keeps km pq := by
  unfold State.tickIn
  repeat' first
    | with_reducible assumption
    | with_reducible exact hDEP_VPHASE_CUR_VPHASE _
    | with_reducible exact hPG_EVT_PEND _
    | ((try lift_lets -underBinder); intro x; refine Keep.use (k := km) (q := pq) (s := x) ?_ ?_; (on_goal 1 => dsimp -zeta only [x]); (on_goal 2 => clear_value x; intro _))
    | ((try lift_lets -underBinder); intro x; refine Keep.usePair (k := km) (q := pq) (p := x) ?_ ?_; (on_goal 1 => dsimp -zeta only [x]); (on_goal 2 => clear_value x; intro _))
    | ((try lift_lets -underBinder); intro x; refine Keep.memSt (x := x) ?_; subst x)
    | ((try lift_lets -underBinder); intro x; refine Keep.depSt (x := x) ?_; subst x)
    | ((try lift_lets -underBinder); intro x; clear_value x)
    | (intro _)
    | with_reducible apply Keep.ite
    | with_reducible apply State.tickLocked_good
    | with_reducible apply State.setTick_good
    | with_reducible apply State.tickAcquire_good
    | (simp -zeta only [Keep.mk_iff]; with_reducible refine Keep.upd ?_ rfl ?_; on_goal 2 => (and_intros <;> with_reducible first | exact .inl rfl | exact .inl ⟨rfl, rfl, rfl⟩ | exact .inr ‹_› | exact Nat.le_refl _ | exact Nat.le_add_right _ _))

theorem State.tickWindowEnd_good (out : km.part .out) (tim : km.part .tim)
    (hPG_EVT_PEND : ∀ a, km.fld (R.PG.EVT_PEND a)) (hTIM_TICK_CNT_MISSES : km.fld R.TIM.TICK_CNT.MISSES)
    (hTIM_TIM_STAT_TICK_STATE : km.fld R.TIM.TIM_STAT.TICK_STATE) (s : State) (hs : s.Keeps km pq) : (State.tickWindowEnd s).Keeps km pq := by
  unfold State.tickWindowEnd
  repeat' first
    | with_reducible assumption
    | with_reducible exact hPG_EVT_PEND _
    | ((try lift_lets -underBinder); intro x; refine Keep.use (k := km) (q := pq) (s := x) ?_ ?_; (on_goal 1 => dsimp -zeta only [x]); (on_goal 2 => clear_value x; intro _))
    | ((try lift_lets -underBinder); intro x; refine Keep.usePair (k := km) (q := pq) (p := x) ?_ ?_; (on_goal 1 => dsimp -zeta only [x]); (on_goal 2 => clear_value x; intro _))
    | ((try lift_lets -underBinder); intro x; refine Keep.memSt (x := x) ?_; subst x)
    | ((try lift_lets -underBinder); intro x; refine Keep.depSt (x := x) ?_; subst x)
    | ((try lift_lets -underBinder); intro x; clear_value x)
    | (intro _)
    | with_reducible apply Keep.ite
    | with_reducible apply State.count_good
    | with_reducible apply State.setTick_good
    | with_reducible apply State.ev_good
    | (simp -zeta only [Keep.mk_iff]; with_reducible refine Keep.upd ?_ rfl ?_; on_goal 2 => (and_intros <;> with_reducible first | exact .inl rfl | exact .inl ⟨rfl, rfl, rfl⟩ | exact .inr ‹_› | exact Nat.le_refl _ | exact Nat.le_add_right _ _))

theorem State.tickWindow_good (out : km.part .out) (tim : km.part .tim)
    (hPG_EVT_PEND : ∀ a, km.fld (R.PG.EVT_PEND a)) (hTIM_TICK_CNT_MISSES : km.fld R.TIM.TICK_CNT.MISSES)
    (hTIM_TIM_STAT_TICK_STATE : km.fld R.TIM.TIM_STAT.TICK_STATE) (s : State) (hs : s.Keeps km pq) : (State.tickWindow s).Keeps km pq := by
  unfold State.tickWindow
  repeat' first
    | with_reducible assumption
    | with_reducible exact hPG_EVT_PEND _
    | (intro _)
    | with_reducible apply Keep.ite
    | with_reducible apply State.tickWindowEnd_good

theorem State.frameSrc_good (tim : km.part .tim) (hTIM_TIM_CTRL_FRAME_SRC : km.fld R.TIM.TIM_CTRL.FRAME_SRC)
    (hTIM_TIM_STAT_TICK_STATE : km.fld R.TIM.TIM_STAT.TICK_STATE) (s : State) (v : Nat) (hs : s.Keeps km pq) : (State.frameSrc s v).Keeps km pq := by
  unfold State.frameSrc
  repeat' first
    | with_reducible assumption
    | ((try lift_lets -underBinder); intro x; refine Keep.use (k := km) (q := pq) (s := x) ?_ ?_; (on_goal 1 => dsimp -zeta only [x]); (on_goal 2 => clear_value x; intro _))
    | ((try lift_lets -underBinder); intro x; refine Keep.usePair (k := km) (q := pq) (p := x) ?_ ?_; (on_goal 1 => dsimp -zeta only [x]); (on_goal 2 => clear_value x; intro _))
    | ((try lift_lets -underBinder); intro x; refine Keep.memSt (x := x) ?_; subst x)
    | ((try lift_lets -underBinder); intro x; refine Keep.depSt (x := x) ?_; subst x)
    | ((try lift_lets -underBinder); intro x; clear_value x)
    | (intro _)
    | with_reducible apply Keep.ite
    | with_reducible apply State.set_good
    | with_reducible apply State.setTick_good

theorem State.tickOut_good (out : km.part .out) (s : State) (hs : s.Keeps km pq) : (State.tickOut s).Keeps km pq := by
  unfold State.tickOut
  repeat' first
    | with_reducible assumption
    | (intro _)
    | with_reducible apply Keep.ite
    | with_reducible apply State.tickoutAt_good

theorem State.ppsOut_good (out : km.part .out) (s : State) (hs : s.Keeps km pq) : (State.ppsOut s).Keeps km pq := by
  unfold State.ppsOut
  repeat' first
    | with_reducible assumption
    | (intro _)
    | with_reducible apply Keep.ite
    | with_reducible apply State.emit_good

theorem State.loadPages_good (force : km.part .force) (out : km.part .out) (tim : km.part .tim) (map : km.part .map)
    (cmp : km.part .cmp) (mem : km.part .mem) (dram : km.part .dram) (scn : km.part .scn) (cor : km.part .cor)
    (rai : km.part .rai) (lfm : km.part .lfm) (line : km.part .line) (rdn : km.part .rdn) (any : ∀ f, km.fld f)
    (s : State) (hs : s.Keeps km pq) : (State.loadPages s).Keeps km pq := by
  unfold State.loadPages
  repeat' first
    | with_reducible assumption
    | (with_reducible (intros; exact any _))
    | ((try lift_lets -underBinder); intro x; refine Keep.use (k := km) (q := pq) (s := x) ?_ ?_; (on_goal 1 => dsimp -zeta only [x]); (on_goal 2 => clear_value x; intro _))
    | ((try lift_lets -underBinder); intro x; refine Keep.usePair (k := km) (q := pq) (p := x) ?_ ?_; (on_goal 1 => dsimp -zeta only [x]); (on_goal 2 => clear_value x; intro _))
    | ((try lift_lets -underBinder); intro x; refine Keep.memSt (x := x) ?_; subst x)
    | ((try lift_lets -underBinder); intro x; refine Keep.depSt (x := x) ?_; subst x)
    | ((try lift_lets -underBinder); intro x; clear_value x)
    | (intro _)
    | with_reducible apply State.filter_good
    | with_reducible apply State.refuseOwn_good
    | with_reducible apply State.commitPage_good
    | split
    | (simp -zeta only [Keep.mk_iff]; with_reducible refine Keep.upd ?_ rfl ?_; on_goal 2 => (and_intros <;> with_reducible first | exact .inl rfl | exact .inl ⟨rfl, rfl, rfl⟩ | exact .inr ‹_› | exact Nat.le_refl _ | exact Nat.le_add_right _ _))
    | with_reducible apply Keep.foldl

theorem State.loadEpoch_good (force : km.part .force) (out : km.part .out) (tim : km.part .tim) (dep : km.part .dep)
    (starts : km.part .starts) (ing : km.part .ing) (map : km.part .map) (cmp : km.part .cmp) (mem : km.part .mem)
    (dram : km.part .dram) (scn : km.part .scn) (cor : km.part .cor) (rai : km.part .rai) (lfm : km.part .lfm)
    (line : km.part .line) (rdn : km.part .rdn) (any : ∀ f, km.fld f) (s : State) (c : Sched) (hs : s.Keeps km pq) : (State.loadEpoch s c).Keeps km pq := by
  unfold State.loadEpoch
  repeat' first
    | with_reducible assumption
    | (with_reducible (intros; exact any _))
    | ((try lift_lets -underBinder); intro x; refine Keep.use (k := km) (q := pq) (s := x) ?_ ?_; (on_goal 1 => dsimp -zeta only [x]); (on_goal 2 => clear_value x; intro _))
    | ((try lift_lets -underBinder); intro x; refine Keep.usePair (k := km) (q := pq) (p := x) ?_ ?_; (on_goal 1 => dsimp -zeta only [x]); (on_goal 2 => clear_value x; intro _))
    | ((try lift_lets -underBinder); intro x; refine Keep.memSt (x := x) ?_; subst x)
    | ((try lift_lets -underBinder); intro x; refine Keep.depSt (x := x) ?_; subst x)
    | ((try lift_lets -underBinder); intro x; clear_value x)
    | (intro _)
    | with_reducible apply Keep.ite
    | with_reducible apply State.putModeCur_good
    | with_reducible apply State.set_good
    | with_reducible apply State.ev_good
    | with_reducible apply State.redunChanged_good
    | with_reducible apply State.corLock_good
    | with_reducible apply State.loadPages_good
    | with_reducible apply State.setEpoch_good
    | with_reducible apply State.takeSched_good
    | with_reducible apply State.newPlanes_good
    | with_reducible apply State.showTimetable_good
    | with_reducible apply State.policies_good
    | with_reducible apply State.missBefore_good
    | with_reducible apply State.evaluate_good
    | with_reducible apply State.followEval_good
    | with_reducible apply State.sendCluster_good
    | (simp -zeta only [Keep.mk_iff]; with_reducible refine Keep.upd ?_ rfl ?_; on_goal 2 => (and_intros <;> with_reducible first | exact .inl rfl | exact .inl ⟨rfl, rfl, rfl⟩ | exact .inr ‹_› | exact Nat.le_refl _ | exact Nat.le_add_right _ _))

theorem State.loadFails_good (out : km.part .out) (dep : km.part .dep)
    (hDEP_MODE_CHECK_DEP_PENDING : km.fld R.DEP.MODE_CHECK.DEP_PENDING)
    (hDEP_MODE_CHECK_EPOCH_PENDING : km.fld R.DEP.MODE_CHECK.EPOCH_PENDING)
    (hDEP_MODE_CHECK_FIELDS : km.fld R.DEP.MODE_CHECK.FIELDS)
    (hDEP_MODE_CHECK_REJECT_RULE : km.fld R.DEP.MODE_CHECK.REJECT_RULE)
    (hDEP_MODE_CHECK_RULE : km.fld R.DEP.MODE_CHECK.RULE) (hDEP_MODE_CHECK_VALID : km.fld R.DEP.MODE_CHECK.VALID)
    (hDEP_MODE_CTRL_FB_VALID : km.fld R.DEP.MODE_CTRL.FB_VALID) (hPG_BUSY : ∀ a, km.fld (R.PG.BUSY a))
    (hPG_EN : ∀ a, km.fld (R.PG.EN a)) (hPG_EVT_PEND : ∀ a, km.fld (R.PG.EVT_PEND a)) (s : State) (rule : Nat)
    (hs : s.Keeps km pq) : (State.loadFails s rule).Keeps km pq := by
  unfold State.loadFails
  repeat' first
    | with_reducible assumption
    | with_reducible exact hPG_BUSY _
    | with_reducible exact hPG_EN _
    | with_reducible exact hPG_EVT_PEND _
    | ((try lift_lets -underBinder); intro x; refine Keep.use (k := km) (q := pq) (s := x) ?_ ?_; (on_goal 1 => dsimp -zeta only [x]); (on_goal 2 => clear_value x; intro _))
    | ((try lift_lets -underBinder); intro x; refine Keep.usePair (k := km) (q := pq) (p := x) ?_ ?_; (on_goal 1 => dsimp -zeta only [x]); (on_goal 2 => clear_value x; intro _))
    | ((try lift_lets -underBinder); intro x; refine Keep.memSt (x := x) ?_; subst x)
    | ((try lift_lets -underBinder); intro x; refine Keep.depSt (x := x) ?_; subst x)
    | ((try lift_lets -underBinder); intro x; clear_value x)
    | (intro _)
    | with_reducible apply State.set_good
    | with_reducible apply State.evaluate_good
    | with_reducible apply State.modeReject_good
    | (simp -zeta only [Keep.mk_iff]; with_reducible refine Keep.upd ?_ rfl ?_; on_goal 2 => (and_intros <;> with_reducible first | exact .inl rfl | exact .inl ⟨rfl, rfl, rfl⟩ | exact .inr ‹_› | exact Nat.le_refl _ | exact Nat.le_add_right _ _))

theorem State.startupAnswer_good (force : km.part .force) (out : km.part .out) (tim : km.part .tim)
    (dep : km.part .dep) (starts : km.part .starts) (ing : km.part .ing) (map : km.part .map) (cmp : km.part .cmp)
    (mem : km.part .mem) (dram : km.part .dram) (scn : km.part .scn) (cor : km.part .cor) (rai : km.part .rai)
    (lfm : km.part .lfm) (line : km.part .line) (rdn : km.part .rdn) (any : ∀ f, km.fld f) (s : State) (c : Sched)
    (fail : Option (Nat × Nat)) (hs : s.Keeps km pq) : (State.startupAnswer s c fail).Keeps km pq := by
  unfold State.startupAnswer
  repeat' first
    | with_reducible assumption
    | (with_reducible (intros; exact any _))
    | ((try lift_lets -underBinder); intro x; refine Keep.use (k := km) (q := pq) (s := x) ?_ ?_; (on_goal 1 => dsimp -zeta only [x]); (on_goal 2 => clear_value x; intro _))
    | ((try lift_lets -underBinder); intro x; refine Keep.usePair (k := km) (q := pq) (p := x) ?_ ?_; (on_goal 1 => dsimp -zeta only [x]); (on_goal 2 => clear_value x; intro _))
    | ((try lift_lets -underBinder); intro x; refine Keep.memSt (x := x) ?_; subst x)
    | ((try lift_lets -underBinder); intro x; refine Keep.depSt (x := x) ?_; subst x)
    | ((try lift_lets -underBinder); intro x; clear_value x)
    | (intro _)
    | with_reducible apply State.loadFails_good
    | with_reducible apply State.loadEpoch_good
    | split

theorem State.startupLoad_good (force : km.part .force) (out : km.part .out) (tim : km.part .tim)
    (dep : km.part .dep) (starts : km.part .starts) (ing : km.part .ing) (map : km.part .map) (cmp : km.part .cmp)
    (mem : km.part .mem) (dram : km.part .dram) (scn : km.part .scn) (cor : km.part .cor) (rai : km.part .rai)
    (lfm : km.part .lfm) (line : km.part .line) (rdn : km.part .rdn) (any : ∀ f, km.fld f) (s : State)
    (hs : s.Keeps km pq) : (State.startupLoad s).Keeps km pq := by
  unfold State.startupLoad
  repeat' first
    | with_reducible assumption
    | (with_reducible (intros; exact any _))
    | ((try lift_lets -underBinder); intro x; refine Keep.use (k := km) (q := pq) (s := x) ?_ ?_; (on_goal 1 => dsimp -zeta only [x]); (on_goal 2 => clear_value x; intro _))
    | ((try lift_lets -underBinder); intro x; refine Keep.usePair (k := km) (q := pq) (p := x) ?_ ?_; (on_goal 1 => dsimp -zeta only [x]); (on_goal 2 => clear_value x; intro _))
    | ((try lift_lets -underBinder); intro x; refine Keep.memSt (x := x) ?_; subst x)
    | ((try lift_lets -underBinder); intro x; refine Keep.depSt (x := x) ?_; subst x)
    | ((try lift_lets -underBinder); intro x; clear_value x)
    | (intro _)
    | with_reducible apply Keep.ite
    | with_reducible apply State.startupAnswer_good
    | split

theorem execDomMeas_good (frc : km.part .frc) (force : km.part .force) (out : km.part .out) (tim : km.part .tim)
    (dep : km.part .dep) (starts : km.part .starts) (ing : km.part .ing) (map : km.part .map) (cmp : km.part .cmp)
    (mem : km.part .mem) (dram : km.part .dram) (scn : km.part .scn) (cor : km.part .cor) (rai : km.part .rai)
    (lfm : km.part .lfm) (hkt : km.part .hkt) (line : km.part .line) (rdn : km.part .rdn) (clu : km.part .clu)
    (que : km.part .que) (mbx : km.part .mbx) (fwu : km.part .fwu) (any : ∀ f, km.fld f) (d w : Nat) (e : Int)
    (t : Nat) (s : State) (hs : s.Keeps km pq) : ∀ st, execDomMeas d w e t s = .next st → st.Keeps km pq := by
  unfold execDomMeas
  refine runIn_good hs (fun s hs => ?_)
  repeat' first
    | with_reducible assumption
    | (with_reducible (intros; exact any _))
    | (intro _)
    | with_reducible apply State.tick_good
    | with_reducible apply State.domMeas_good

theorem execDomainEnable_good (frc : km.part .frc) (tim : km.part .tim)
    (hTIM_DOM_CFG_EN : ∀ a, km.fld (R.TIM.DOM_CFG.EN a)) (hTIM_DOM_STAT_STATE : ∀ a, km.fld (R.TIM.DOM_STAT.STATE a))
    (hTIM_LINE_TIME_CFG_INTERVAL_EXP : km.fld R.TIM.LINE_TIME_CFG.INTERVAL_EXP)
    (hTIM_TIM_CTRL_WALL_SEL : km.fld R.TIM.TIM_CTRL.WALL_SEL)
    (hTIM_TIM_STAT_D0_STATE : km.fld R.TIM.TIM_STAT.D0_STATE)
    (hTIM_TIM_STAT_D1_STATE : km.fld R.TIM.TIM_STAT.D1_STATE)
    (hTIM_TIM_STAT_HOLDOVER : km.fld R.TIM.TIM_STAT.HOLDOVER) (d t : Nat) (s : State) (hs : s.Keeps km pq) : ∀ st, execDomainEnable d t s = .next st → st.Keeps km pq := by
  unfold execDomainEnable
  refine run_good hs (fun s hs => ?_)
  repeat' first
    | with_reducible assumption
    | with_reducible exact hTIM_DOM_CFG_EN _
    | with_reducible exact hTIM_DOM_STAT_STATE _
    | (intro _)
    | with_reducible apply State.tick_good
    | with_reducible apply State.domEnable_good

theorem execDomainDisable_good (frc : km.part .frc) (tim : km.part .tim)
    (hTIM_DOM_CFG_EN : ∀ a, km.fld (R.TIM.DOM_CFG.EN a)) (hTIM_DOM_STAT_STATE : ∀ a, km.fld (R.TIM.DOM_STAT.STATE a))
    (hTIM_LINE_TIME_CFG_INTERVAL_EXP : km.fld R.TIM.LINE_TIME_CFG.INTERVAL_EXP)
    (hTIM_TIM_CTRL_WALL_SEL : km.fld R.TIM.TIM_CTRL.WALL_SEL)
    (hTIM_TIM_STAT_D0_STATE : km.fld R.TIM.TIM_STAT.D0_STATE)
    (hTIM_TIM_STAT_D1_STATE : km.fld R.TIM.TIM_STAT.D1_STATE)
    (hTIM_TIM_STAT_HOLDOVER : km.fld R.TIM.TIM_STAT.HOLDOVER) (d t : Nat) (s : State) (hs : s.Keeps km pq) : ∀ st, execDomainDisable d t s = .next st → st.Keeps km pq := by
  unfold execDomainDisable
  refine run_good hs (fun s hs => ?_)
  repeat' first
    | with_reducible assumption
    | with_reducible exact hTIM_DOM_CFG_EN _
    | with_reducible exact hTIM_DOM_STAT_STATE _
    | (intro _)
    | with_reducible apply State.tick_good
    | with_reducible apply State.domEnable_good

theorem execDomainLossTimeout_good (frc : km.part .frc) (out : km.part .out) (tim : km.part .tim)
    (hPG_EVT_PEND : ∀ a, km.fld (R.PG.EVT_PEND a)) (hTIM_DOM_STAT_STATE : ∀ a, km.fld (R.TIM.DOM_STAT.STATE a))
    (hTIM_LINE_TIME_CFG_INTERVAL_EXP : km.fld R.TIM.LINE_TIME_CFG.INTERVAL_EXP)
    (hTIM_TIM_CTRL_WALL_SEL : km.fld R.TIM.TIM_CTRL.WALL_SEL)
    (hTIM_TIM_STAT_D0_STATE : km.fld R.TIM.TIM_STAT.D0_STATE)
    (hTIM_TIM_STAT_D1_STATE : km.fld R.TIM.TIM_STAT.D1_STATE)
    (hTIM_TIM_STAT_HOLDOVER : km.fld R.TIM.TIM_STAT.HOLDOVER) (hTIM_TIM_STAT_SLEWING : km.fld R.TIM.TIM_STAT.SLEWING)
    (hTIM_TIM_STAT_TIME_VALID : km.fld R.TIM.TIM_STAT.TIME_VALID)
    (hTIM_TIM_STAT_WALL_DOM : km.fld R.TIM.TIM_STAT.WALL_DOM) (d t : Nat) (s : State) (hs : s.Keeps km pq) : ∀ st, execDomainLossTimeout d t s = .next st → st.Keeps km pq := by
  unfold execDomainLossTimeout
  refine run_good hs (fun s hs => ?_)
  repeat' first
    | with_reducible assumption
    | with_reducible exact hPG_EVT_PEND _
    | with_reducible exact hTIM_DOM_STAT_STATE _
    | (intro _)
    | with_reducible apply State.tick_good
    | with_reducible apply State.domLost_good

theorem execSwitchNow_good (frc : km.part .frc) (force : km.part .force) (out : km.part .out) (tim : km.part .tim)
    (dep : km.part .dep) (starts : km.part .starts) (ing : km.part .ing) (map : km.part .map) (cmp : km.part .cmp)
    (mem : km.part .mem) (dram : km.part .dram) (scn : km.part .scn) (cor : km.part .cor) (rai : km.part .rai)
    (lfm : km.part .lfm) (hkt : km.part .hkt) (line : km.part .line) (rdn : km.part .rdn) (clu : km.part .clu)
    (que : km.part .que) (mbx : km.part .mbx) (fwu : km.part .fwu) (any : ∀ f, km.fld f) (force : Bool) (t : Nat)
    (s : State) (hs : s.Keeps km pq) : ∀ st, execSwitchNow force t s = .next st → st.Keeps km pq := by
  unfold execSwitchNow
  refine run_good hs (fun s hs => ?_)
  repeat' first
    | with_reducible assumption
    | (with_reducible (intros; exact any _))
    | (intro _)
    | with_reducible apply State.tick_good
    | with_reducible apply State.requestWall_good

theorem execWallSelWrite_good (frc : km.part .frc) (force : km.part .force) (out : km.part .out) (tim : km.part .tim)
    (dep : km.part .dep) (starts : km.part .starts) (ing : km.part .ing) (map : km.part .map) (cmp : km.part .cmp)
    (mem : km.part .mem) (dram : km.part .dram) (scn : km.part .scn) (cor : km.part .cor) (rai : km.part .rai)
    (lfm : km.part .lfm) (hkt : km.part .hkt) (line : km.part .line) (rdn : km.part .rdn) (clu : km.part .clu)
    (que : km.part .que) (mbx : km.part .mbx) (fwu : km.part .fwu) (any : ∀ f, km.fld f) (d : Nat) (force : Bool)
    (t : Nat) (s : State) (hs : s.Keeps km pq) : ∀ st, execWallSelWrite d force t s = .next st → st.Keeps km pq := by
  unfold execWallSelWrite
  refine run_good hs (fun s hs => ?_)
  repeat' first
    | with_reducible assumption
    | (with_reducible (intros; exact any _))
    | (intro _)
    | with_reducible apply State.tick_good
    | with_reducible apply State.requestWall_good

theorem execSlewEnd_good (frc : km.part .frc) (tim : km.part .tim)
    (hTIM_TIM_STAT_SLEWING : km.fld R.TIM.TIM_STAT.SLEWING) (t : Nat) (s : State) (hs : s.Keeps km pq) : ∀ st, execSlewEnd t s = .next st → st.Keeps km pq := by
  unfold execSlewEnd
  refine run_good hs (fun s hs => ?_)
  repeat' first
    | with_reducible assumption
    | (intro _)
    | with_reducible apply State.tick_good
    | with_reducible apply State.slewEnd_good

theorem execTimeInterval_good (frc : km.part .frc) (out : km.part .out) (tim : km.part .tim) (line : km.part .line)
    (t : Nat) (s : State) (hs : s.Keeps km pq) : ∀ st, execTimeInterval t s = .next st → st.Keeps km pq := by
  unfold execTimeInterval
  refine runIn_good hs (fun s hs => ?_)
  repeat' first
    | with_reducible assumption
    | (intro _)
    | with_reducible apply State.tick_good
    | with_reducible apply State.sendTimes_good

theorem execTimeMessage_good (frc : km.part .frc) (force : km.part .force) (out : km.part .out) (tim : km.part .tim)
    (dep : km.part .dep) (starts : km.part .starts) (ing : km.part .ing) (map : km.part .map) (cmp : km.part .cmp)
    (mem : km.part .mem) (dram : km.part .dram) (scn : km.part .scn) (cor : km.part .cor) (rai : km.part .rai)
    (lfm : km.part .lfm) (hkt : km.part .hkt) (line : km.part .line) (rdn : km.part .rdn) (clu : km.part .clu)
    (que : km.part .que) (mbx : km.part .mbx) (fwu : km.part .fwu) (any : ∀ f, km.fld f) (p : Nat) (m : TimeMsg)
    (inF outF t : Nat) (s : State) (hs : s.Keeps km pq) : ∀ st, execTimeMessage p m inF outF t s = .next st → st.Keeps km pq := by
  unfold execTimeMessage
  refine runIn_good hs (fun s hs => ?_)
  repeat' first
    | with_reducible assumption
    | (with_reducible (intros; exact any _))
    | (intro _)
    | with_reducible apply State.tick_good
    | with_reducible apply State.timeMessage_good

theorem execSchedInterval_good (frc : km.part .frc) (out : km.part .out) (tim : km.part .tim) (line : km.part .line)
    (t : Nat) (s : State) (hs : s.Keeps km pq) : ∀ st, execSchedInterval t s = .next st → st.Keeps km pq := by
  unfold execSchedInterval
  refine runIn_good hs (fun s hs => ?_)
  repeat' first
    | with_reducible assumption
    | (intro _)
    | with_reducible apply State.tick_good
    | with_reducible apply State.sendScheds_good

theorem execSched_good (frc : km.part .frc) (out : km.part .out) (tim : km.part .tim)
    (hDEP_MODE_CHECK_DEP_PENDING : km.fld R.DEP.MODE_CHECK.DEP_PENDING)
    (hDEP_MODE_CHECK_EPOCH_PENDING : km.fld R.DEP.MODE_CHECK.EPOCH_PENDING)
    (hDEP_MODE_CHECK_FIELDS : km.fld R.DEP.MODE_CHECK.FIELDS) (hDEP_MODE_CHECK_RULE : km.fld R.DEP.MODE_CHECK.RULE)
    (hDEP_MODE_CHECK_VALID : km.fld R.DEP.MODE_CHECK.VALID)
    (hDEP_MODE_CTRL_DARK_FRAMES : km.fld R.DEP.MODE_CTRL.DARK_FRAMES)
    (hDEP_MODE_CTRL_FB_VALID : km.fld R.DEP.MODE_CTRL.FB_VALID) (hDEP_VPHASE_V : ∀ a, km.fld (R.DEP.VPHASE.V a))
    (hPG_EVT_PEND : ∀ a, km.fld (R.PG.EVT_PEND a)) (hTIM_RATE_NEXT_RATE : km.fld R.TIM.RATE_NEXT.RATE) (p : Nat)
    (m : SchedMsg) (t : Nat) (s : State) (hs : s.Keeps km pq) : ∀ st, execSched p m t s = .next st → st.Keeps km pq := by
  unfold execSched
  refine runIn_good hs (fun s hs => ?_)
  repeat' first
    | with_reducible assumption
    | with_reducible exact hDEP_VPHASE_V _
    | with_reducible exact hPG_EVT_PEND _
    | (intro _)
    | with_reducible apply State.tick_good
    | with_reducible apply State.schedMessage_good

theorem execLdInterval_good (frc : km.part .frc) (out : km.part .out) (tim : km.part .tim) (line : km.part .line)
    (hTIM_DOM_DELAY_DELAY : ∀ a, km.fld (R.TIM.DOM_DELAY.DELAY a)) (hTIM_LD_V : ∀ a, km.fld (R.TIM.LD.V a))
    (p t1 t : Nat) (s : State) (hs : s.Keeps km pq) : ∀ st, execLdInterval p t1 t s = .next st → st.Keeps km pq := by
  unfold execLdInterval
  refine run_good hs (fun s hs => ?_)
  repeat' first
    | with_reducible assumption
    | with_reducible exact hTIM_DOM_DELAY_DELAY _
    | with_reducible exact hTIM_LD_V _
    | (intro _)
    | with_reducible apply State.tick_good
    | with_reducible apply State.ldInterval_good

theorem execLdReq_good (frc : km.part .frc) (out : km.part .out) (tim : km.part .tim) (line : km.part .line)
    (hTIM_DOM_DELAY_DELAY : ∀ a, km.fld (R.TIM.DOM_DELAY.DELAY a)) (hTIM_LD_V : ∀ a, km.fld (R.TIM.LD.V a))
    (p q t2 t3 t : Nat) (s : State) (hs : s.Keeps km pq) : ∀ st, execLdReq p q t2 t3 t s = .next st → st.Keeps km pq := by
  unfold execLdReq
  refine run_good hs (fun s hs => ?_)
  repeat' first
    | with_reducible assumption
    | with_reducible exact hTIM_DOM_DELAY_DELAY _
    | with_reducible exact hTIM_LD_V _
    | (intro _)
    | with_reducible apply State.tick_good
    | with_reducible apply State.ldReq_good

theorem execLdRsp_good (frc : km.part .frc) (tim : km.part .tim)
    (hTIM_DOM_DELAY_DELAY : ∀ a, km.fld (R.TIM.DOM_DELAY.DELAY a)) (hTIM_LD_V : ∀ a, km.fld (R.TIM.LD.V a))
    (p q : Nat) (turn : Int) (t4 t : Nat) (s : State) (hs : s.Keeps km pq) : ∀ st, execLdRsp p q turn t4 t s = .next st → st.Keeps km pq := by
  unfold execLdRsp
  refine run_good hs (fun s hs => ?_)
  repeat' first
    | with_reducible assumption
    | with_reducible exact hTIM_DOM_DELAY_DELAY _
    | with_reducible exact hTIM_LD_V _
    | (intro _)
    | with_reducible apply State.tick_good
    | with_reducible apply State.ldRsp_good

theorem execLdTimeout_good (frc : km.part .frc) (tim : km.part .tim) (p t : Nat) (s : State) (hs : s.Keeps km pq) : ∀ st, execLdTimeout p t s = .next st → st.Keeps km pq := by
  unfold execLdTimeout
  refine run_good hs (fun s hs => ?_)
  repeat' first
    | with_reducible assumption
    | (intro _)
    | with_reducible apply State.tick_good
    | with_reducible apply State.ldClose_good

theorem execTickin_good (frc : km.part .frc) (out : km.part .out) (tim : km.part .tim) (line : km.part .line)
    (hDEP_MODE_CHECK_DEP_PENDING : km.fld R.DEP.MODE_CHECK.DEP_PENDING)
    (hDEP_MODE_CHECK_EPOCH_PENDING : km.fld R.DEP.MODE_CHECK.EPOCH_PENDING)
    (hDEP_MODE_CHECK_FIELDS : km.fld R.DEP.MODE_CHECK.FIELDS) (hDEP_MODE_CHECK_RULE : km.fld R.DEP.MODE_CHECK.RULE)
    (hDEP_MODE_CHECK_VALID : km.fld R.DEP.MODE_CHECK.VALID)
    (hDEP_MODE_CTRL_FB_VALID : km.fld R.DEP.MODE_CTRL.FB_VALID)
    (hDEP_VPHASE_CUR_VPHASE : ∀ a, km.fld (R.DEP.VPHASE_CUR.VPHASE a)) (hPG_EVT_PEND : ∀ a, km.fld (R.PG.EVT_PEND a))
    (hTIM_RATE_CUR_RATE : km.fld R.TIM.RATE_CUR.RATE) (hTIM_RATE_NEXT_RATE : km.fld R.TIM.RATE_NEXT.RATE)
    (hTIM_SCHED_N0_HI_N0 : km.fld R.TIM.SCHED_N0_HI.N0) (hTIM_SCHED_N0_LO_N0 : km.fld R.TIM.SCHED_N0_LO.N0)
    (hTIM_SCHED_T0_HI_T0 : km.fld R.TIM.SCHED_T0_HI.T0) (hTIM_SCHED_T0_LO_T0 : km.fld R.TIM.SCHED_T0_LO.T0)
    (hTIM_TICK_CFG_RATE_SEEN : km.fld R.TIM.TICK_CFG.RATE_SEEN)
    (hTIM_TICK_CNT_OUT_TICKS : km.fld R.TIM.TICK_CNT.OUT_TICKS)
    (hTIM_TIM_STAT_TICK_STATE : km.fld R.TIM.TIM_STAT.TICK_STATE) (f16 t : Nat) (s : State) (hs : s.Keeps km pq) : ∀ st, execTickin f16 t s = .next st → st.Keeps km pq := by
  unfold execTickin
  refine runIn_good hs (fun s hs => ?_)
  repeat' first
    | with_reducible assumption
    | with_reducible exact hDEP_VPHASE_CUR_VPHASE _
    | with_reducible exact hPG_EVT_PEND _
    | (intro _)
    | with_reducible apply State.tick_good
    | with_reducible apply State.tickIn_good

theorem execTickWindowEnd_good (frc : km.part .frc) (out : km.part .out) (tim : km.part .tim)
    (hPG_EVT_PEND : ∀ a, km.fld (R.PG.EVT_PEND a)) (hTIM_TICK_CNT_MISSES : km.fld R.TIM.TICK_CNT.MISSES)
    (hTIM_TIM_STAT_TICK_STATE : km.fld R.TIM.TIM_STAT.TICK_STATE) (t : Nat) (s : State) (hs : s.Keeps km pq) : ∀ st, execTickWindowEnd t s = .next st → st.Keeps km pq := by
  unfold execTickWindowEnd
  refine runIn_good hs (fun s hs => ?_)
  repeat' first
    | with_reducible assumption
    | with_reducible exact hPG_EVT_PEND _
    | (intro _)
    | with_reducible apply State.tick_good
    | with_reducible apply State.tickWindow_good

theorem execFrameSrcWrite_good (frc : km.part .frc) (tim : km.part .tim)
    (hTIM_TIM_CTRL_FRAME_SRC : km.fld R.TIM.TIM_CTRL.FRAME_SRC)
    (hTIM_TIM_STAT_TICK_STATE : km.fld R.TIM.TIM_STAT.TICK_STATE) (v t : Nat) (s : State) (hs : s.Keeps km pq) : ∀ st, execFrameSrcWrite v t s = .next st → st.Keeps km pq := by
  unfold execFrameSrcWrite
  refine runIn_good hs (fun s hs => ?_)
  repeat' first
    | with_reducible assumption
    | (intro _)
    | with_reducible apply State.tick_good
    | with_reducible apply State.frameSrc_good

theorem execTickoutPulse_good (frc : km.part .frc) (out : km.part .out) (t : Nat) (s : State) (hs : s.Keeps km pq) : ∀ st, execTickoutPulse t s = .next st → st.Keeps km pq := by
  unfold execTickoutPulse
  refine run_good hs (fun s hs => ?_)
  repeat' first
    | with_reducible assumption
    | (intro _)
    | with_reducible apply State.tick_good
    | with_reducible apply State.tickOut_good

theorem execPpsPulse_good (frc : km.part .frc) (out : km.part .out) (t : Nat) (s : State) (hs : s.Keeps km pq) : ∀ st, execPpsPulse t s = .next st → st.Keeps km pq := by
  unfold execPpsPulse
  refine run_good hs (fun s hs => ?_)
  repeat' first
    | with_reducible assumption
    | (intro _)
    | with_reducible apply State.tick_good
    | with_reducible apply State.ppsOut_good

theorem execEntWrite_good (frc : km.part .frc) (force : km.part .force) (out : km.part .out) (tim : km.part .tim)
    (dep : km.part .dep) (ing : km.part .ing) (map : km.part .map) (cmp : km.part .cmp) (mem : km.part .mem)
    (dram : km.part .dram) (scn : km.part .scn) (cor : km.part .cor) (rai : km.part .rai) (lfm : km.part .lfm)
    (line : km.part .line) (rdn : km.part .rdn) (que : km.part .que) (mbx : km.part .mbx) (fwu : km.part .fwu)
    (any : ∀ f, km.fld f) (t : Nat) (s : State) (hs : s.Keeps km pq) : ∀ st, execEntWrite t s = .next st → st.Keeps km pq := by
  unfold execEntWrite
  refine run_good hs (fun s hs => ?_)
  repeat' first
    | with_reducible assumption
    | (with_reducible (intros; exact any _))
    | ((try lift_lets -underBinder); intro x; refine Keep.use (k := km) (q := pq) (s := x) ?_ ?_; (on_goal 1 => dsimp -zeta only [x]); (on_goal 2 => clear_value x; intro _))
    | ((try lift_lets -underBinder); intro x; refine Keep.usePair (k := km) (q := pq) (p := x) ?_ ?_; (on_goal 1 => dsimp -zeta only [x]); (on_goal 2 => clear_value x; intro _))
    | ((try lift_lets -underBinder); intro x; refine Keep.memSt (x := x) ?_; subst x)
    | ((try lift_lets -underBinder); intro x; refine Keep.depSt (x := x) ?_; subst x)
    | ((try lift_lets -underBinder); intro x; clear_value x)
    | (intro _)
    | with_reducible apply State.tick_good
    | with_reducible apply State.entWrite_good
    | with_reducible apply State.mirrorEntry_good

theorem execEntRead_good (frc : km.part .frc) (hDEP_DEP_STAT_ARMED : km.fld R.DEP.DEP_STAT.ARMED)
    (hDEP_DEP_STAT_NEXT_IDX : km.fld R.DEP.DEP_STAT.NEXT_IDX) (hDEP_ENT_ACT_ACTION : km.fld R.DEP.ENT_ACT.ACTION)
    (hDEP_ENT_ACT_FORM : km.fld R.DEP.ENT_ACT.FORM) (hDEP_ENT_ACT_LATE_OK : km.fld R.DEP.ENT_ACT.LATE_OK)
    (hDEP_ENT_ARG_ARG : km.fld R.DEP.ENT_ARG.ARG) (hDEP_ENT_OFS_OFS : km.fld R.DEP.ENT_OFS.OFS)
    (hDEP_ENT_STATUS_RESULT : km.fld R.DEP.ENT_STATUS.RESULT) (hDEP_ENT_STATUS_STATE : km.fld R.DEP.ENT_STATUS.STATE)
    (hDEP_ENT_TIME_HI_TIME : km.fld R.DEP.ENT_TIME_HI.TIME) (hDEP_ENT_TIME_LO_TIME : km.fld R.DEP.ENT_TIME_LO.TIME)
    (t : Nat) (s : State) (hs : s.Keeps km pq) : ∀ st, execEntRead t s = .next st → st.Keeps km pq := by
  unfold execEntRead
  refine run_good hs (fun s hs => ?_)
  repeat' first
    | with_reducible assumption
    | (intro _)
    | with_reducible apply State.tick_good
    | with_reducible apply State.entRead_good

theorem execEntCancel_good (frc : km.part .frc) (out : km.part .out) (dep : km.part .dep) (line : km.part .line)
    (hDEP_DEP_STAT_ARMED : km.fld R.DEP.DEP_STAT.ARMED) (hDEP_DEP_STAT_NEXT_IDX : km.fld R.DEP.DEP_STAT.NEXT_IDX)
    (hDEP_ENT_STATUS_RESULT : km.fld R.DEP.ENT_STATUS.RESULT) (hDEP_ENT_STATUS_STATE : km.fld R.DEP.ENT_STATUS.STATE)
    (hRDN_MIRROR_SEQ_TX : km.fld R.RDN.MIRROR_SEQ.TX) (t : Nat) (s : State) (hs : s.Keeps km pq) : ∀ st, execEntCancel t s = .next st → st.Keeps km pq := by
  unfold execEntCancel
  refine run_good hs (fun s hs => ?_)
  repeat' first
    | with_reducible assumption
    | ((try lift_lets -underBinder); intro x; refine Keep.use (k := km) (q := pq) (s := x) ?_ ?_; (on_goal 1 => dsimp -zeta only [x]); (on_goal 2 => clear_value x; intro _))
    | ((try lift_lets -underBinder); intro x; refine Keep.usePair (k := km) (q := pq) (p := x) ?_ ?_; (on_goal 1 => dsimp -zeta only [x]); (on_goal 2 => clear_value x; intro _))
    | ((try lift_lets -underBinder); intro x; refine Keep.memSt (x := x) ?_; subst x)
    | ((try lift_lets -underBinder); intro x; refine Keep.depSt (x := x) ?_; subst x)
    | ((try lift_lets -underBinder); intro x; clear_value x)
    | (intro _)
    | with_reducible apply State.tick_good
    | with_reducible apply State.entCancel_good
    | with_reducible apply State.mirrorEntry_good

theorem execStartupEpochLoad_good (frc : km.part .frc) (force : km.part .force) (out : km.part .out)
    (tim : km.part .tim) (dep : km.part .dep) (starts : km.part .starts) (ing : km.part .ing) (map : km.part .map)
    (cmp : km.part .cmp) (mem : km.part .mem) (dram : km.part .dram) (scn : km.part .scn) (cor : km.part .cor)
    (rai : km.part .rai) (lfm : km.part .lfm) (line : km.part .line) (rdn : km.part .rdn) (any : ∀ f, km.fld f)
    (t : Nat) (s : State) (hs : s.Keeps km pq) : ∀ st, execStartupEpochLoad t s = .next st → st.Keeps km pq := by
  unfold execStartupEpochLoad
  refine run_good hs (fun s hs => ?_)
  repeat' first
    | with_reducible assumption
    | (with_reducible (intros; exact any _))
    | (intro _)
    | with_reducible apply State.tick_good
    | with_reducible apply State.startupLoad_good

end Sys2Proof.Machine
end

