-- ==== Sys2Proof/Laws/KeepsClusterCmd.lean ====
section
/-!
SUPPORT. Every function of Machine/ClusterCmd.lean changes what the hypotheses of its lemma name, and nothing else.
-/
namespace Sys2Proof.Machine
set_option Elab.async false
set_option linter.unusedVariables false
set_option linter.unusedTactic false
set_option linter.unreachableTactic false

variable {km : May} {pq : State}

theorem State.hasActed_good (clu : km.part .clu) (s : State) (r : ClusterRec) (hs : s.Keeps km pq) : (State.hasActed s r).Keeps km pq := by
  unfold State.hasActed
  repeat' first
    | with_reducible assumption
    | ((try lift_lets -underBinder); intro x; refine Keep.use (k := km) (q := pq) (s := x) ?_ ?_; (on_goal 1 => dsimp -zeta only [x]); (on_goal 2 => clear_value x; intro _))
    | ((try lift_lets -underBinder); intro x; refine Keep.usePair (k := km) (q := pq) (p := x) ?_ ?_; (on_goal 1 => dsimp -zeta only [x]); (on_goal 2 => clear_value x; intro _))
    | ((try lift_lets -underBinder); intro x; refine Keep.memSt (x := x) ?_; subst x)
    | ((try lift_lets -underBinder); intro x; refine Keep.depSt (x := x) ?_; subst x)
    | ((try lift_lets -underBinder); intro x; clear_value x)
    | (intro _)
    | (simp -zeta only [Keep.mk_iff]; with_reducible refine Keep.upd ?_ rfl ?_; on_goal 2 => (and_intros <;> with_reducible first | exact .inl rfl | exact .inl ⟨rfl, rfl, rfl⟩ | exact .inr ‹_› | exact Nat.le_refl _ | exact Nat.le_add_right _ _))

theorem State.obeyMaster_good (out : km.part .out) (tim : km.part .tim) (dep : km.part .dep) (line : km.part .line)
    (clu : km.part .clu) (hCLU_CLU_STAT_LEVEL : km.fld R.CLU.CLU_STAT.LEVEL)
    (hCLU_CLU_STAT_PHASE : km.fld R.CLU.CLU_STAT.PHASE) (hCLU_EPOCH_PEND_EPOCH : km.fld R.CLU.EPOCH_PEND.EPOCH)
    (hDEP_DEP_STAT_ARMED : km.fld R.DEP.DEP_STAT.ARMED) (hDEP_DEP_STAT_NEXT_IDX : km.fld R.DEP.DEP_STAT.NEXT_IDX)
    (hDEP_ENT_STATUS_STATE : km.fld R.DEP.ENT_STATUS.STATE)
    (hLNE_INFLIGHT_COUNT : ∀ a, km.fld (R.LNE.INFLIGHT.COUNT a))
    (hLNE_STALL_CNT_COUNT : ∀ a, km.fld (R.LNE.STALL_CNT.COUNT a))
    (hLNK_PORT_CTRL_LEVEL_MAX : ∀ a, km.fld (R.LNK.PORT_CTRL.LEVEL_MAX a))
    (hPG_EVT_PEND : ∀ a, km.fld (R.PG.EVT_PEND a)) (hTIM_DOM_OFFSET_OFFSET : ∀ a, km.fld (R.TIM.DOM_OFFSET.OFFSET a))
    (hTIM_DOM_RATE_RATE : ∀ a, km.fld (R.TIM.DOM_RATE.RATE a)) (s : State) (r : ClusterRec) (hs : s.Keeps km pq) : (State.obeyMaster s r).Keeps km pq := by
  unfold State.obeyMaster
  repeat' first
    | with_reducible assumption
    | with_reducible exact hLNE_INFLIGHT_COUNT _
    | with_reducible exact hLNE_STALL_CNT_COUNT _
    | with_reducible exact hLNK_PORT_CTRL_LEVEL_MAX _
    | with_reducible exact hPG_EVT_PEND _
    | with_reducible exact hTIM_DOM_OFFSET_OFFSET _
    | with_reducible exact hTIM_DOM_RATE_RATE _
    | ((try lift_lets -underBinder); intro x; refine Keep.use (k := km) (q := pq) (s := x) ?_ ?_; (on_goal 1 => dsimp -zeta only [x]); (on_goal 2 => clear_value x; intro _))
    | ((try lift_lets -underBinder); intro x; refine Keep.usePair (k := km) (q := pq) (p := x) ?_ ?_; (on_goal 1 => dsimp -zeta only [x]); (on_goal 2 => clear_value x; intro _))
    | ((try lift_lets -underBinder); intro x; refine Keep.memSt (x := x) ?_; subst x)
    | ((try lift_lets -underBinder); intro x; refine Keep.depSt (x := x) ?_; subst x)
    | ((try lift_lets -underBinder); intro x; clear_value x)
    | (intro _)
    | with_reducible apply Keep.ite
    | with_reducible apply State.prepare_good
    | with_reducible apply State.hasActed_good
    | with_reducible apply State.armEpoch_good
    | with_reducible apply State.cancelEpoch_good
    | with_reducible apply State.catchUp_good
    | with_reducible apply State.takeLevel_good

theorem State.masterSched_good (tim : km.part .tim) (s : State) (r : ClusterRec) (hs : s.Keeps km pq) : (State.masterSched s r).Keeps km pq := by
  unfold State.masterSched
  repeat' first
    | with_reducible assumption
    | ((try lift_lets -underBinder); intro x; refine Keep.use (k := km) (q := pq) (s := x) ?_ ?_; (on_goal 1 => dsimp -zeta only [x]); (on_goal 2 => clear_value x; intro _))
    | ((try lift_lets -underBinder); intro x; refine Keep.usePair (k := km) (q := pq) (p := x) ?_ ?_; (on_goal 1 => dsimp -zeta only [x]); (on_goal 2 => clear_value x; intro _))
    | ((try lift_lets -underBinder); intro x; refine Keep.memSt (x := x) ?_; subst x)
    | ((try lift_lets -underBinder); intro x; refine Keep.depSt (x := x) ?_; subst x)
    | ((try lift_lets -underBinder); intro x; clear_value x)
    | (intro _)
    | with_reducible apply Keep.ite
    | with_reducible apply State.set_good
    | with_reducible apply State.receiveSched_good
    | (simp -zeta only [Keep.mk_iff]; with_reducible refine Keep.upd ?_ rfl ?_; on_goal 2 => (and_intros <;> with_reducible first | exact .inl rfl | exact .inl ⟨rfl, rfl, rfl⟩ | exact .inr ‹_› | exact Nat.le_refl _ | exact Nat.le_add_right _ _))

theorem State.masterBack_good (out : km.part .out) (clu : km.part .clu)
    (hCLU_CLU_STAT_MASTER_LOST : km.fld R.CLU.CLU_STAT.MASTER_LOST) (hPG_EVT_PEND : ∀ a, km.fld (R.PG.EVT_PEND a))
    (s : State) (hs : s.Keeps km pq) : (State.masterBack s).Keeps km pq := by
  unfold State.masterBack
  repeat' first
    | with_reducible assumption
    | with_reducible exact hPG_EVT_PEND _
    | ((try lift_lets -underBinder); intro x; refine Keep.use (k := km) (q := pq) (s := x) ?_ ?_; (on_goal 1 => dsimp -zeta only [x]); (on_goal 2 => clear_value x; intro _))
    | ((try lift_lets -underBinder); intro x; refine Keep.usePair (k := km) (q := pq) (p := x) ?_ ?_; (on_goal 1 => dsimp -zeta only [x]); (on_goal 2 => clear_value x; intro _))
    | ((try lift_lets -underBinder); intro x; refine Keep.memSt (x := x) ?_; subst x)
    | ((try lift_lets -underBinder); intro x; refine Keep.depSt (x := x) ?_; subst x)
    | ((try lift_lets -underBinder); intro x; clear_value x)
    | (intro _)
    | with_reducible apply Keep.ite
    | with_reducible apply State.set_good
    | with_reducible apply State.ev_good
    | (simp -zeta only [Keep.mk_iff]; with_reducible refine Keep.upd ?_ rfl ?_; on_goal 2 => (and_intros <;> with_reducible first | exact .inl rfl | exact .inl ⟨rfl, rfl, rfl⟩ | exact .inr ‹_› | exact Nat.le_refl _ | exact Nat.le_add_right _ _))

theorem State.clusterState_good (out : km.part .out) (tim : km.part .tim) (dep : km.part .dep) (line : km.part .line)
    (clu : km.part .clu) (hCLU_CLU_STAT_LEVEL : km.fld R.CLU.CLU_STAT.LEVEL)
    (hCLU_CLU_STAT_MASTER_LOST : km.fld R.CLU.CLU_STAT.MASTER_LOST)
    (hCLU_CLU_STAT_PHASE : km.fld R.CLU.CLU_STAT.PHASE) (hCLU_CONFLICT_COUNT : km.fld R.CLU.CONFLICT.COUNT)
    (hCLU_EPOCH_PEND_EPOCH : km.fld R.CLU.EPOCH_PEND.EPOCH) (hDEP_DEP_STAT_ARMED : km.fld R.DEP.DEP_STAT.ARMED)
    (hDEP_DEP_STAT_NEXT_IDX : km.fld R.DEP.DEP_STAT.NEXT_IDX) (hDEP_ENT_STATUS_STATE : km.fld R.DEP.ENT_STATUS.STATE)
    (hLNE_INFLIGHT_COUNT : ∀ a, km.fld (R.LNE.INFLIGHT.COUNT a))
    (hLNE_STALL_CNT_COUNT : ∀ a, km.fld (R.LNE.STALL_CNT.COUNT a))
    (hLNK_PORT_CTRL_LEVEL_MAX : ∀ a, km.fld (R.LNK.PORT_CTRL.LEVEL_MAX a))
    (hPG_EVT_PEND : ∀ a, km.fld (R.PG.EVT_PEND a)) (hTIM_DOM_OFFSET_OFFSET : ∀ a, km.fld (R.TIM.DOM_OFFSET.OFFSET a))
    (hTIM_DOM_RATE_RATE : ∀ a, km.fld (R.TIM.DOM_RATE.RATE a)) (s : State) (r : ClusterRec) (hs : s.Keeps km pq) : (State.clusterState s r).Keeps km pq := by
  unfold State.clusterState
  repeat' first
    | with_reducible assumption
    | with_reducible exact hLNE_INFLIGHT_COUNT _
    | with_reducible exact hLNE_STALL_CNT_COUNT _
    | with_reducible exact hLNK_PORT_CTRL_LEVEL_MAX _
    | with_reducible exact hPG_EVT_PEND _
    | with_reducible exact hTIM_DOM_OFFSET_OFFSET _
    | with_reducible exact hTIM_DOM_RATE_RATE _
    | ((try lift_lets -underBinder); intro x; refine Keep.use (k := km) (q := pq) (s := x) ?_ ?_; (on_goal 1 => dsimp -zeta only [x]); (on_goal 2 => clear_value x; intro _))
    | ((try lift_lets -underBinder); intro x; refine Keep.usePair (k := km) (q := pq) (p := x) ?_ ?_; (on_goal 1 => dsimp -zeta only [x]); (on_goal 2 => clear_value x; intro _))
    | ((try lift_lets -underBinder); intro x; refine Keep.memSt (x := x) ?_; subst x)
    | ((try lift_lets -underBinder); intro x; refine Keep.depSt (x := x) ?_; subst x)
    | ((try lift_lets -underBinder); intro x; clear_value x)
    | (intro _)
    | with_reducible apply Keep.ite
    | with_reducible apply State.count_good
    | with_reducible apply State.filter_good
    | with_reducible apply State.masterBack_good
    | with_reducible apply State.masterSched_good
    | with_reducible apply State.obeyMaster_good
    | split
    | (simp -zeta only [Keep.mk_iff]; with_reducible refine Keep.upd ?_ rfl ?_; on_goal 2 => (and_intros <;> with_reducible first | exact .inl rfl | exact .inl ⟨rfl, rfl, rfl⟩ | exact .inr ‹_› | exact Nat.le_refl _ | exact Nat.le_add_right _ _))

theorem State.epochRequest_good (out : km.part .out) (clu : km.part .clu)
    (hCLU_CLU_STAT_PHASE : km.fld R.CLU.CLU_STAT.PHASE) (hCLU_EPOCH_PEND_EPOCH : km.fld R.CLU.EPOCH_PEND.EPOCH)
    (hPG_ERR_ADDR_HI : ∀ a, km.fld (R.PG.ERR_ADDR_HI a)) (hPG_ERR_ADDR_LO : ∀ a, km.fld (R.PG.ERR_ADDR_LO a))
    (hPG_ERR_CODE : ∀ a, km.fld (R.PG.ERR_CODE a)) (hPG_ERR_COUNT : ∀ a, km.fld (R.PG.ERR_COUNT a))
    (hPG_ERR_OVERFLOW : ∀ a, km.fld (R.PG.ERR_OVERFLOW a)) (hPG_ERR_SOURCE : ∀ a, km.fld (R.PG.ERR_SOURCE a))
    (hPG_ERR_VALID : ∀ a, km.fld (R.PG.ERR_VALID a)) (hPG_EVT_PEND : ∀ a, km.fld (R.PG.EVT_PEND a)) (s : State)
    (hs : s.Keeps km pq) : (State.epochRequest s).Keeps km pq := by
  unfold State.epochRequest
  repeat' first
    | with_reducible assumption
    | with_reducible exact hPG_ERR_ADDR_HI _
    | with_reducible exact hPG_ERR_ADDR_LO _
    | with_reducible exact hPG_ERR_CODE _
    | with_reducible exact hPG_ERR_COUNT _
    | with_reducible exact hPG_ERR_OVERFLOW _
    | with_reducible exact hPG_ERR_SOURCE _
    | with_reducible exact hPG_ERR_VALID _
    | with_reducible exact hPG_EVT_PEND _
    | ((try lift_lets -underBinder); intro x; refine Keep.use (k := km) (q := pq) (s := x) ?_ ?_; (on_goal 1 => dsimp -zeta only [x]); (on_goal 2 => clear_value x; intro _))
    | ((try lift_lets -underBinder); intro x; refine Keep.usePair (k := km) (q := pq) (p := x) ?_ ?_; (on_goal 1 => dsimp -zeta only [x]); (on_goal 2 => clear_value x; intro _))
    | ((try lift_lets -underBinder); intro x; refine Keep.memSt (x := x) ?_; subst x)
    | ((try lift_lets -underBinder); intro x; refine Keep.depSt (x := x) ?_; subst x)
    | ((try lift_lets -underBinder); intro x; clear_value x)
    | (intro _)
    | with_reducible apply Keep.ite
    | with_reducible apply State.ev_good
    | with_reducible apply State.err_good
    | with_reducible apply State.issue_good
    | with_reducible apply State.prepare_good

theorem State.epochCancel_good (out : km.part .out) (tim : km.part .tim) (dep : km.part .dep) (line : km.part .line)
    (clu : km.part .clu) (hCLU_CLU_STAT_PHASE : km.fld R.CLU.CLU_STAT.PHASE)
    (hCLU_EPOCH_PEND_EPOCH : km.fld R.CLU.EPOCH_PEND.EPOCH) (hDEP_DEP_STAT_ARMED : km.fld R.DEP.DEP_STAT.ARMED)
    (hDEP_DEP_STAT_NEXT_IDX : km.fld R.DEP.DEP_STAT.NEXT_IDX) (hDEP_ENT_STATUS_STATE : km.fld R.DEP.ENT_STATUS.STATE)
    (hLNE_INFLIGHT_COUNT : ∀ a, km.fld (R.LNE.INFLIGHT.COUNT a))
    (hLNE_STALL_CNT_COUNT : ∀ a, km.fld (R.LNE.STALL_CNT.COUNT a)) (hPG_EVT_PEND : ∀ a, km.fld (R.PG.EVT_PEND a))
    (hTIM_DOM_OFFSET_OFFSET : ∀ a, km.fld (R.TIM.DOM_OFFSET.OFFSET a))
    (hTIM_DOM_RATE_RATE : ∀ a, km.fld (R.TIM.DOM_RATE.RATE a)) (s : State) (hs : s.Keeps km pq) : (State.epochCancel s).Keeps km pq := by
  unfold State.epochCancel
  repeat' first
    | with_reducible assumption
    | with_reducible exact hLNE_INFLIGHT_COUNT _
    | with_reducible exact hLNE_STALL_CNT_COUNT _
    | with_reducible exact hPG_EVT_PEND _
    | with_reducible exact hTIM_DOM_OFFSET_OFFSET _
    | with_reducible exact hTIM_DOM_RATE_RATE _
    | (intro _)
    | with_reducible apply Keep.ite
    | with_reducible apply State.issue_good
    | with_reducible apply State.cancelEpoch_good

theorem State.masterLost_good (out : km.part .out) (clu : km.part .clu)
    (hCLU_CLU_STAT_MASTER_LOST : km.fld R.CLU.CLU_STAT.MASTER_LOST)
    (hCLU_CLU_STAT_PHASE : km.fld R.CLU.CLU_STAT.PHASE) (hCLU_EPOCH_PEND_EPOCH : km.fld R.CLU.EPOCH_PEND.EPOCH)
    (hPG_EVT_PEND : ∀ a, km.fld (R.PG.EVT_PEND a)) (s : State) (hs : s.Keeps km pq) : (State.masterLost s).Keeps km pq := by
  unfold State.masterLost
  repeat' first
    | with_reducible assumption
    | with_reducible exact hPG_EVT_PEND _
    | ((try lift_lets -underBinder); intro x; refine Keep.use (k := km) (q := pq) (s := x) ?_ ?_; (on_goal 1 => dsimp -zeta only [x]); (on_goal 2 => clear_value x; intro _))
    | ((try lift_lets -underBinder); intro x; refine Keep.usePair (k := km) (q := pq) (p := x) ?_ ?_; (on_goal 1 => dsimp -zeta only [x]); (on_goal 2 => clear_value x; intro _))
    | ((try lift_lets -underBinder); intro x; refine Keep.memSt (x := x) ?_; subst x)
    | ((try lift_lets -underBinder); intro x; refine Keep.depSt (x := x) ?_; subst x)
    | ((try lift_lets -underBinder); intro x; clear_value x)
    | (intro _)
    | with_reducible apply Keep.ite
    | with_reducible apply State.set_good
    | with_reducible apply State.ev_good
    | with_reducible apply State.cluIdle_good
    | (simp -zeta only [Keep.mk_iff]; with_reducible refine Keep.upd ?_ rfl ?_; on_goal 2 => (and_intros <;> with_reducible first | exact .inl rfl | exact .inl ⟨rfl, rfl, rfl⟩ | exact .inr ‹_› | exact Nat.le_refl _ | exact Nat.le_add_right _ _))

theorem execClusterState_good (frc : km.part .frc) (out : km.part .out) (tim : km.part .tim) (dep : km.part .dep)
    (line : km.part .line) (clu : km.part .clu) (hCLU_CLU_STAT_LEVEL : km.fld R.CLU.CLU_STAT.LEVEL)
    (hCLU_CLU_STAT_MASTER_LOST : km.fld R.CLU.CLU_STAT.MASTER_LOST)
    (hCLU_CLU_STAT_PHASE : km.fld R.CLU.CLU_STAT.PHASE) (hCLU_CONFLICT_COUNT : km.fld R.CLU.CONFLICT.COUNT)
    (hCLU_EPOCH_PEND_EPOCH : km.fld R.CLU.EPOCH_PEND.EPOCH) (hDEP_DEP_STAT_ARMED : km.fld R.DEP.DEP_STAT.ARMED)
    (hDEP_DEP_STAT_NEXT_IDX : km.fld R.DEP.DEP_STAT.NEXT_IDX) (hDEP_ENT_STATUS_STATE : km.fld R.DEP.ENT_STATUS.STATE)
    (hLNE_INFLIGHT_COUNT : ∀ a, km.fld (R.LNE.INFLIGHT.COUNT a))
    (hLNE_STALL_CNT_COUNT : ∀ a, km.fld (R.LNE.STALL_CNT.COUNT a))
    (hLNK_PORT_CTRL_LEVEL_MAX : ∀ a, km.fld (R.LNK.PORT_CTRL.LEVEL_MAX a))
    (hPG_EVT_PEND : ∀ a, km.fld (R.PG.EVT_PEND a)) (hTIM_DOM_OFFSET_OFFSET : ∀ a, km.fld (R.TIM.DOM_OFFSET.OFFSET a))
    (hTIM_DOM_RATE_RATE : ∀ a, km.fld (R.TIM.DOM_RATE.RATE a)) (r : ClusterRec) (t : Nat) (s : State)
    (hs : s.Keeps km pq) : ∀ st, execClusterState r t s = .next st → st.Keeps km pq := by
  unfold execClusterState
  refine runIn_good hs (fun s hs => ?_)
  repeat' first
    | with_reducible assumption
    | with_reducible exact hLNE_INFLIGHT_COUNT _
    | with_reducible exact hLNE_STALL_CNT_COUNT _
    | with_reducible exact hLNK_PORT_CTRL_LEVEL_MAX _
    | with_reducible exact hPG_EVT_PEND _
    | with_reducible exact hTIM_DOM_OFFSET_OFFSET _
    | with_reducible exact hTIM_DOM_RATE_RATE _
    | (intro _)
    | with_reducible apply State.tick_good
    | with_reducible apply State.clusterState_good

theorem execEpochRequest_good (frc : km.part .frc) (out : km.part .out) (clu : km.part .clu)
    (hCLU_CLU_STAT_PHASE : km.fld R.CLU.CLU_STAT.PHASE) (hCLU_EPOCH_PEND_EPOCH : km.fld R.CLU.EPOCH_PEND.EPOCH)
    (hPG_ERR_ADDR_HI : ∀ a, km.fld (R.PG.ERR_ADDR_HI a)) (hPG_ERR_ADDR_LO : ∀ a, km.fld (R.PG.ERR_ADDR_LO a))
    (hPG_ERR_CODE : ∀ a, km.fld (R.PG.ERR_CODE a)) (hPG_ERR_COUNT : ∀ a, km.fld (R.PG.ERR_COUNT a))
    (hPG_ERR_OVERFLOW : ∀ a, km.fld (R.PG.ERR_OVERFLOW a)) (hPG_ERR_SOURCE : ∀ a, km.fld (R.PG.ERR_SOURCE a))
    (hPG_ERR_VALID : ∀ a, km.fld (R.PG.ERR_VALID a)) (hPG_EVT_PEND : ∀ a, km.fld (R.PG.EVT_PEND a)) (t : Nat)
    (s : State) (hs : s.Keeps km pq) : ∀ st, execEpochRequest t s = .next st → st.Keeps km pq := by
  unfold execEpochRequest
  refine runIn_good hs (fun s hs => ?_)
  repeat' first
    | with_reducible assumption
    | with_reducible exact hPG_ERR_ADDR_HI _
    | with_reducible exact hPG_ERR_ADDR_LO _
    | with_reducible exact hPG_ERR_CODE _
    | with_reducible exact hPG_ERR_COUNT _
    | with_reducible exact hPG_ERR_OVERFLOW _
    | with_reducible exact hPG_ERR_SOURCE _
    | with_reducible exact hPG_ERR_VALID _
    | with_reducible exact hPG_EVT_PEND _
    | (intro _)
    | with_reducible apply State.tick_good
    | with_reducible apply State.epochRequest_good

theorem execEpochCancel_good (frc : km.part .frc) (out : km.part .out) (tim : km.part .tim) (dep : km.part .dep)
    (line : km.part .line) (clu : km.part .clu) (hCLU_CLU_STAT_PHASE : km.fld R.CLU.CLU_STAT.PHASE)
    (hCLU_EPOCH_PEND_EPOCH : km.fld R.CLU.EPOCH_PEND.EPOCH) (hDEP_DEP_STAT_ARMED : km.fld R.DEP.DEP_STAT.ARMED)
    (hDEP_DEP_STAT_NEXT_IDX : km.fld R.DEP.DEP_STAT.NEXT_IDX) (hDEP_ENT_STATUS_STATE : km.fld R.DEP.ENT_STATUS.STATE)
    (hLNE_INFLIGHT_COUNT : ∀ a, km.fld (R.LNE.INFLIGHT.COUNT a))
    (hLNE_STALL_CNT_COUNT : ∀ a, km.fld (R.LNE.STALL_CNT.COUNT a)) (hPG_EVT_PEND : ∀ a, km.fld (R.PG.EVT_PEND a))
    (hTIM_DOM_OFFSET_OFFSET : ∀ a, km.fld (R.TIM.DOM_OFFSET.OFFSET a))
    (hTIM_DOM_RATE_RATE : ∀ a, km.fld (R.TIM.DOM_RATE.RATE a)) (t : Nat) (s : State) (hs : s.Keeps km pq) : ∀ st, execEpochCancel t s = .next st → st.Keeps km pq := by
  unfold execEpochCancel
  refine runIn_good hs (fun s hs => ?_)
  repeat' first
    | with_reducible assumption
    | with_reducible exact hLNE_INFLIGHT_COUNT _
    | with_reducible exact hLNE_STALL_CNT_COUNT _
    | with_reducible exact hPG_EVT_PEND _
    | with_reducible exact hTIM_DOM_OFFSET_OFFSET _
    | with_reducible exact hTIM_DOM_RATE_RATE _
    | (intro _)
    | with_reducible apply State.tick_good
    | with_reducible apply State.epochCancel_good

theorem execMasterLost_good (frc : km.part .frc) (out : km.part .out) (clu : km.part .clu)
    (hCLU_CLU_STAT_MASTER_LOST : km.fld R.CLU.CLU_STAT.MASTER_LOST)
    (hCLU_CLU_STAT_PHASE : km.fld R.CLU.CLU_STAT.PHASE) (hCLU_EPOCH_PEND_EPOCH : km.fld R.CLU.EPOCH_PEND.EPOCH)
    (hPG_EVT_PEND : ∀ a, km.fld (R.PG.EVT_PEND a)) (t : Nat) (s : State) (hs : s.Keeps km pq) : ∀ st, execMasterLost t s = .next st → st.Keeps km pq := by
  unfold execMasterLost
  refine runIn_good hs (fun s hs => ?_)
  repeat' first
    | with_reducible assumption
    | with_reducible exact hPG_EVT_PEND _
    | (intro _)
    | with_reducible apply State.tick_good
    | with_reducible apply State.masterLost_good

end Sys2Proof.Machine
end

