-- ==== Sys2Proof/Laws/KeepsPower.lean ====
section
/-!
SUPPORT. Every function of Machine/Power.lean changes what the hypotheses of its lemma name, and nothing else.
-/
namespace Sys2Proof.Machine
set_option Elab.async false
set_option linter.unusedVariables false
set_option linter.unusedTactic false
set_option linter.unreachableTactic false

variable {km : May} {pq : State}

theorem State.setCause_good (fwu : km.part .fwu) (hRCK_RST_CAUSE_JTAG : km.fld R.RCK.RST_CAUSE.JTAG)
    (hRCK_RST_CAUSE_POWER_ON : km.fld R.RCK.RST_CAUSE.POWER_ON)
    (hRCK_RST_CAUSE_RESET_N : km.fld R.RCK.RST_CAUSE.RESET_N)
    (hRCK_RST_CAUSE_SOFTWARE : km.fld R.RCK.RST_CAUSE.SOFTWARE)
    (hRCK_RST_CAUSE_THERMAL : km.fld R.RCK.RST_CAUSE.THERMAL) (s : State) (m : Nat) (hs : s.Keeps km pq) : (State.setCause s m).Keeps km pq := by
  unfold State.setCause
  repeat' first
    | with_reducible assumption
    | ((try lift_lets -underBinder); intro x; refine Keep.use (k := km) (q := pq) (s := x) ?_ ?_; (on_goal 1 => dsimp -zeta only [x]); (on_goal 2 => clear_value x; intro _))
    | ((try lift_lets -underBinder); intro x; refine Keep.usePair (k := km) (q := pq) (p := x) ?_ ?_; (on_goal 1 => dsimp -zeta only [x]); (on_goal 2 => clear_value x; intro _))
    | ((try lift_lets -underBinder); intro x; refine Keep.memSt (x := x) ?_; subst x)
    | ((try lift_lets -underBinder); intro x; refine Keep.depSt (x := x) ?_; subst x)
    | ((try lift_lets -underBinder); intro x; clear_value x)
    | (intro _)
    | with_reducible apply State.set_good
    | (simp -zeta only [Keep.mk_iff]; with_reducible refine Keep.upd ?_ rfl ?_; on_goal 2 => (and_intros <;> with_reducible first | exact .inl rfl | exact .inl ⟨rfl, rfl, rfl⟩ | exact .inr ‹_› | exact Nat.le_refl _ | exact Nat.le_add_right _ _))

theorem State.inReset_good (role : km.part .role) (power : km.part .power) (frc : km.part .frc) (force : km.part .force) (out : km.part .out) (tim : km.part .tim) (dep : km.part .dep) (starts : km.part .starts) (ing : km.part .ing) (map : km.part .map) (cmp : km.part .cmp) (otg : km.part .otg) (mem : km.part .mem) (dram : km.part .dram) (scn : km.part .scn) (cor : km.part .cor) (rai : km.part .rai) (lfm : km.part .lfm) (hkt : km.part .hkt) (line : km.part .line) (rdn : km.part .rdn) (clu : km.part .clu) (que : km.part .que) (mbx : km.part .mbx) (klc : km.part .klc) (fwu : km.part .fwu) (any : ∀ f, km.fld f) (s : State) (p : Power) (cause : Nat) (hs : s.Keeps km pq) : (s.inReset p cause).Keeps km pq := by
  apply State.setCause_good <;> try (first | assumption | (intros; exact any _))
  refine ⟨rise_filter _ hs.1, List.Pairwise.nil, ⟨List.Pairwise.nil, by simp⟩, hs.4, hs.5, hs.6, fun p => .inl ?_, fun f => .inl ⟨f, any f, rfl⟩⟩
  cases p <;> assumption

theorem State.addCause_good (fwu : km.part .fwu) (hRCK_RST_CAUSE_JTAG : km.fld R.RCK.RST_CAUSE.JTAG)
    (hRCK_RST_CAUSE_POWER_ON : km.fld R.RCK.RST_CAUSE.POWER_ON)
    (hRCK_RST_CAUSE_RESET_N : km.fld R.RCK.RST_CAUSE.RESET_N)
    (hRCK_RST_CAUSE_SOFTWARE : km.fld R.RCK.RST_CAUSE.SOFTWARE)
    (hRCK_RST_CAUSE_THERMAL : km.fld R.RCK.RST_CAUSE.THERMAL) (s : State) (cause : Nat) (hs : s.Keeps km pq) : (State.addCause s cause).Keeps km pq := by
  unfold State.addCause
  repeat' first
    | with_reducible assumption
    | (intro _)
    | with_reducible apply State.setCause_good

theorem State.roleDefaults_good (hDEP_MODE_CUR_ROLE : km.fld R.DEP.MODE_CUR.ROLE)
    (hDEP_MODE_NEXT_ROLE : km.fld R.DEP.MODE_NEXT.ROLE)
    (hMEM_PORT_TGT_HARD : ∀ a b, km.fld (R.MEM.PORT_TGT.HARD a b))
    (hMEM_PORT_TGT_TGT : ∀ a b, km.fld (R.MEM.PORT_TGT.TGT a b))
    (hTIM_DOM_LOST_COUNT : ∀ a, km.fld (R.TIM.DOM_LOST.COUNT a))
    (hTIM_TIM_CTRL_FRAME_SRC : km.fld R.TIM.TIM_CTRL.FRAME_SRC) (s : State) (b : Nat) (hs : s.Keeps km pq) : (State.roleDefaults s b).Keeps km pq := by
  unfold State.roleDefaults
  repeat' first
    | with_reducible assumption
    | with_reducible exact hMEM_PORT_TGT_HARD _ _
    | with_reducible exact hMEM_PORT_TGT_TGT _ _
    | with_reducible exact hTIM_DOM_LOST_COUNT _
    | ((try lift_lets -underBinder); intro x; refine Keep.use (k := km) (q := pq) (s := x) ?_ ?_; (on_goal 1 => dsimp -zeta only [x]); (on_goal 2 => clear_value x; intro _))
    | ((try lift_lets -underBinder); intro x; refine Keep.usePair (k := km) (q := pq) (p := x) ?_ ?_; (on_goal 1 => dsimp -zeta only [x]); (on_goal 2 => clear_value x; intro _))
    | ((try lift_lets -underBinder); intro x; refine Keep.memSt (x := x) ?_; subst x)
    | ((try lift_lets -underBinder); intro x; refine Keep.depSt (x := x) ?_; subst x)
    | ((try lift_lets -underBinder); intro x; clear_value x)
    | (intro _)
    | with_reducible apply Keep.ite
    | with_reducible apply State.set_good
    | with_reducible apply State.forN_good

theorem State.loadTrims_good (out : km.part .out) (hkt : km.part .hkt)
    (hCAL_CAL_STAT_FUSE_OK : km.fld R.CAL.CAL_STAT.FUSE_OK) (hCAL_FUSE_CRC_COMPUTED : km.fld R.CAL.FUSE_CRC.COMPUTED)
    (hCAL_FUSE_CRC_STORED : km.fld R.CAL.FUSE_CRC.STORED)
    (hCAL_TRIM_FACT_CODE : ∀ a, km.fld (R.CAL.TRIM_FACT.CODE a)) (hPG_EVT_PEND : ∀ a, km.fld (R.PG.EVT_PEND a))
    (hPG_FAULT : ∀ a, km.fld (R.PG.FAULT a)) (s : State) (f : Fuses) (hs : s.Keeps km pq) : (State.loadTrims s f).Keeps km pq := by
  unfold State.loadTrims
  repeat' first
    | with_reducible assumption
    | with_reducible exact hCAL_TRIM_FACT_CODE _
    | with_reducible exact hPG_EVT_PEND _
    | with_reducible exact hPG_FAULT _
    | ((try lift_lets -underBinder); intro x; refine Keep.use (k := km) (q := pq) (s := x) ?_ ?_; (on_goal 1 => dsimp -zeta only [x]); (on_goal 2 => clear_value x; intro _))
    | ((try lift_lets -underBinder); intro x; refine Keep.usePair (k := km) (q := pq) (p := x) ?_ ?_; (on_goal 1 => dsimp -zeta only [x]); (on_goal 2 => clear_value x; intro _))
    | ((try lift_lets -underBinder); intro x; refine Keep.memSt (x := x) ?_; subst x)
    | ((try lift_lets -underBinder); intro x; refine Keep.depSt (x := x) ?_; subst x)
    | ((try lift_lets -underBinder); intro x; clear_value x)
    | (intro _)
    | with_reducible apply Keep.ite
    | with_reducible apply State.set_good
    | with_reducible apply State.forN_good
    | with_reducible apply State.setI_good
    | with_reducible apply State.takeTrims_good
    | with_reducible apply State.fault_good
    | with_reducible apply State.ev_good

theorem State.loadMacs_good (hETH_MAC_HI_MAC : ∀ a, km.fld (R.ETH.MAC_HI.MAC a))
    (hETH_MAC_LO_MAC : ∀ a, km.fld (R.ETH.MAC_LO.MAC a)) (s : State) (hs : s.Keeps km pq) : (State.loadMacs s).Keeps km pq := by
  unfold State.loadMacs
  repeat' first
    | with_reducible assumption
    | with_reducible exact hETH_MAC_HI_MAC _
    | with_reducible exact hETH_MAC_LO_MAC _
    | (intro _)
    | with_reducible apply State.forN_good
    | with_reducible apply State.set64_good

theorem State.loadIdentity_good (out : km.part .out) (hETH_MAC_HI_MAC : ∀ a, km.fld (R.ETH.MAC_HI.MAC a))
    (hETH_MAC_LO_MAC : ∀ a, km.fld (R.ETH.MAC_LO.MAC a)) (hIDN_DIE_DIE_X : km.fld R.IDN.DIE.DIE_X)
    (hIDN_DIE_DIE_Y : km.fld R.IDN.DIE.DIE_Y) (hIDN_DIE_WAFER : km.fld R.IDN.DIE.WAFER)
    (hIDN_IDN_TYPE_STEPPING : km.fld R.IDN.IDN_TYPE.STEPPING) (hIDN_ID_STAT_ID_OK : km.fld R.IDN.ID_STAT.ID_OK)
    (hIDN_LOT_HI_LOT : km.fld R.IDN.LOT_HI.LOT) (hIDN_LOT_LO_LOT : km.fld R.IDN.LOT_LO.LOT)
    (hIDN_MAC_BASE_HI_MAC : km.fld R.IDN.MAC_BASE_HI.MAC) (hIDN_MAC_BASE_LO_MAC : km.fld R.IDN.MAC_BASE_LO.MAC)
    (hIDN_SERIAL_V : ∀ a, km.fld (R.IDN.SERIAL.V a)) (hPG_EVT_PEND : ∀ a, km.fld (R.PG.EVT_PEND a))
    (hPG_FAULT : ∀ a, km.fld (R.PG.FAULT a)) (s : State) (f : Fuses) (hs : s.Keeps km pq) : (State.loadIdentity s f).Keeps km pq := by
  unfold State.loadIdentity
  repeat' first
    | with_reducible assumption
    | with_reducible exact hETH_MAC_HI_MAC _
    | with_reducible exact hETH_MAC_LO_MAC _
    | with_reducible exact hIDN_SERIAL_V _
    | with_reducible exact hPG_EVT_PEND _
    | with_reducible exact hPG_FAULT _
    | ((try lift_lets -underBinder); intro x; refine Keep.use (k := km) (q := pq) (s := x) ?_ ?_; (on_goal 1 => dsimp -zeta only [x]); (on_goal 2 => clear_value x; intro _))
    | ((try lift_lets -underBinder); intro x; refine Keep.usePair (k := km) (q := pq) (p := x) ?_ ?_; (on_goal 1 => dsimp -zeta only [x]); (on_goal 2 => clear_value x; intro _))
    | ((try lift_lets -underBinder); intro x; refine Keep.memSt (x := x) ?_; subst x)
    | ((try lift_lets -underBinder); intro x; refine Keep.depSt (x := x) ?_; subst x)
    | ((try lift_lets -underBinder); intro x; clear_value x)
    | (intro _)
    | with_reducible apply Keep.ite
    | with_reducible apply State.set_good
    | with_reducible apply State.forN_good
    | with_reducible apply State.set64_good
    | with_reducible apply State.loadMacs_good
    | with_reducible apply State.fault_good

theorem State.bootEnables_good (out : km.part .out) (tim : km.part .tim) (dep : km.part .dep) (mem : km.part .mem)
    (dram : km.part .dram) (scn : km.part .scn) (cor : km.part .cor) (rai : km.part .rai) (lfm : km.part .lfm)
    (line : km.part .line) (rdn : km.part .rdn) (que : km.part .que) (any : ∀ f, km.fld f) (s : State)
    (hs : s.Keeps km pq) : (State.bootEnables s).Keeps km pq := by
  unfold State.bootEnables
  repeat' first
    | with_reducible assumption
    | (with_reducible (intros; exact any _))
    | ((try lift_lets -underBinder); intro x; refine Keep.use (k := km) (q := pq) (s := x) ?_ ?_; (on_goal 1 => dsimp -zeta only [x]); (on_goal 2 => clear_value x; intro _))
    | ((try lift_lets -underBinder); intro x; refine Keep.usePair (k := km) (q := pq) (p := x) ?_ ?_; (on_goal 1 => dsimp -zeta only [x]); (on_goal 2 => clear_value x; intro _))
    | ((try lift_lets -underBinder); intro x; refine Keep.memSt (x := x) ?_; subst x)
    | ((try lift_lets -underBinder); intro x; refine Keep.depSt (x := x) ?_; subst x)
    | ((try lift_lets -underBinder); intro x; clear_value x)
    | (intro _)
    | with_reducible apply Keep.ite
    | with_reducible apply State.set_good
    | with_reducible apply State.forN_good
    | with_reducible apply State.memEnable_good
    | with_reducible apply State.portEnable_good
    | with_reducible apply Keep.foldl

theorem State.release_good (role : km.part .role) (power : km.part .power) (frc : km.part .frc) (out : km.part .out)
    (tim : km.part .tim) (dep : km.part .dep) (mem : km.part .mem) (dram : km.part .dram) (scn : km.part .scn)
    (cor : km.part .cor) (rai : km.part .rai) (lfm : km.part .lfm) (hkt : km.part .hkt) (line : km.part .line)
    (rdn : km.part .rdn) (que : km.part .que) (fwu : km.part .fwu) (any : ∀ f, km.fld f) (s : State) (strap : Nat)
    (bootSel : Bool) (f : Fuses) (ppm : Int) (hs : s.Keeps km pq) : (State.release s strap bootSel f ppm).Keeps km pq := by
  unfold State.release
  repeat' first
    | with_reducible assumption
    | (with_reducible (intros; exact any _))
    | ((try lift_lets -underBinder); intro x; refine Keep.use (k := km) (q := pq) (s := x) ?_ ?_; (on_goal 1 => dsimp -zeta only [x]); (on_goal 2 => clear_value x; intro _))
    | ((try lift_lets -underBinder); intro x; refine Keep.usePair (k := km) (q := pq) (p := x) ?_ ?_; (on_goal 1 => dsimp -zeta only [x]); (on_goal 2 => clear_value x; intro _))
    | ((try lift_lets -underBinder); intro x; refine Keep.memSt (x := x) ?_; subst x)
    | ((try lift_lets -underBinder); intro x; refine Keep.depSt (x := x) ?_; subst x)
    | ((try lift_lets -underBinder); intro x; clear_value x)
    | (intro _)
    | with_reducible apply Keep.ite
    | with_reducible apply State.set_good
    | with_reducible apply State.roleDefaults_good
    | with_reducible apply State.setI_good
    | with_reducible apply State.loadTrims_good
    | with_reducible apply State.loadIdentity_good
    | with_reducible apply State.bootLoad_good
    | with_reducible apply State.slotsReset_good
    | with_reducible apply State.boot_good
    | with_reducible apply State.bootEnables_good
    | (simp -zeta only [Keep.mk_iff]; with_reducible refine Keep.upd ?_ rfl ?_; on_goal 2 => (and_intros <;> with_reducible first | exact .inl rfl | exact .inl ⟨rfl, rfl, rfl⟩ | exact .inr ‹_› | exact Nat.le_refl _ | exact Nat.le_add_right _ _))
    | with_reducible apply Keep.foldl

theorem State.refclkLost_good (out : km.part .out) (tim : km.part .tim) (dep : km.part .dep) (mem : km.part .mem)
    (dram : km.part .dram) (scn : km.part .scn) (cor : km.part .cor) (rai : km.part .rai) (lfm : km.part .lfm)
    (line : km.part .line) (rdn : km.part .rdn) (que : km.part .que) (fwu : km.part .fwu) (any : ∀ f, km.fld f)
    (s : State) (ppm : Int) (hs : s.Keeps km pq) : (State.refclkLost s ppm).Keeps km pq := by
  unfold State.refclkLost
  repeat' first
    | with_reducible assumption
    | (with_reducible (intros; exact any _))
    | ((try lift_lets -underBinder); intro x; refine Keep.use (k := km) (q := pq) (s := x) ?_ ?_; (on_goal 1 => dsimp -zeta only [x]); (on_goal 2 => clear_value x; intro _))
    | ((try lift_lets -underBinder); intro x; refine Keep.usePair (k := km) (q := pq) (p := x) ?_ ?_; (on_goal 1 => dsimp -zeta only [x]); (on_goal 2 => clear_value x; intro _))
    | ((try lift_lets -underBinder); intro x; refine Keep.memSt (x := x) ?_; subst x)
    | ((try lift_lets -underBinder); intro x; refine Keep.depSt (x := x) ?_; subst x)
    | ((try lift_lets -underBinder); intro x; clear_value x)
    | (intro _)
    | with_reducible apply Keep.ite
    | with_reducible apply State.setI_good
    | with_reducible apply State.set_good
    | with_reducible apply State.ev_good
    | with_reducible apply State.portDown_good
    | with_reducible apply State.forN_good
    | with_reducible apply State.ethDown_good
    | with_reducible apply State.domsLost_good
    | (simp -zeta only [Keep.mk_iff]; with_reducible refine Keep.upd ?_ rfl ?_; on_goal 2 => (and_intros <;> with_reducible first | exact .inl rfl | exact .inl ⟨rfl, rfl, rfl⟩ | exact .inr ‹_› | exact Nat.le_refl _ | exact Nat.le_add_right _ _))

theorem State.refclkBack_good (out : km.part .out) (tim : km.part .tim) (dep : km.part .dep) (mem : km.part .mem)
    (dram : km.part .dram) (scn : km.part .scn) (cor : km.part .cor) (rai : km.part .rai) (lfm : km.part .lfm)
    (line : km.part .line) (rdn : km.part .rdn) (que : km.part .que) (fwu : km.part .fwu) (any : ∀ f, km.fld f)
    (s : State) (hs : s.Keeps km pq) : (State.refclkBack s).Keeps km pq := by
  unfold State.refclkBack
  repeat' first
    | with_reducible assumption
    | (with_reducible (intros; exact any _))
    | ((try lift_lets -underBinder); intro x; refine Keep.use (k := km) (q := pq) (s := x) ?_ ?_; (on_goal 1 => dsimp -zeta only [x]); (on_goal 2 => clear_value x; intro _))
    | ((try lift_lets -underBinder); intro x; refine Keep.usePair (k := km) (q := pq) (p := x) ?_ ?_; (on_goal 1 => dsimp -zeta only [x]); (on_goal 2 => clear_value x; intro _))
    | ((try lift_lets -underBinder); intro x; refine Keep.memSt (x := x) ?_; subst x)
    | ((try lift_lets -underBinder); intro x; refine Keep.depSt (x := x) ?_; subst x)
    | ((try lift_lets -underBinder); intro x; clear_value x)
    | (intro _)
    | with_reducible apply Keep.ite
    | with_reducible apply State.set_good
    | with_reducible apply State.ev_good
    | with_reducible apply State.portThaw_good
    | (simp -zeta only [Keep.mk_iff]; with_reducible refine Keep.upd ?_ rfl ?_; on_goal 2 => (and_intros <;> with_reducible first | exact .inl rfl | exact .inl ⟨rfl, rfl, rfl⟩ | exact .inr ‹_› | exact Nat.le_refl _ | exact Nat.le_add_right _ _))

theorem State.showRefclk_good (hRCK_CLK_STAT_PPM : km.fld R.RCK.CLK_STAT.PPM)
    (hRCK_CLK_STAT_REFCLK_OK : km.fld R.RCK.CLK_STAT.REFCLK_OK) (s : State) (ppm : Int) (hs : s.Keeps km pq) : (State.showRefclk s ppm).Keeps km pq := by
  unfold State.showRefclk
  repeat' first
    | with_reducible assumption
    | (intro _)
    | with_reducible apply State.setI_good
    | with_reducible apply State.set_good

theorem State.thermalReset_good (role : km.part .role) (power : km.part .power) (frc : km.part .frc)
    (force : km.part .force) (out : km.part .out) (tim : km.part .tim) (dep : km.part .dep)
    (starts : km.part .starts) (ing : km.part .ing) (map : km.part .map) (cmp : km.part .cmp) (otg : km.part .otg)
    (mem : km.part .mem) (dram : km.part .dram) (scn : km.part .scn) (cor : km.part .cor) (rai : km.part .rai)
    (lfm : km.part .lfm) (hkt : km.part .hkt) (line : km.part .line) (rdn : km.part .rdn) (clu : km.part .clu)
    (que : km.part .que) (mbx : km.part .mbx) (klc : km.part .klc) (fwu : km.part .fwu) (any : ∀ f, km.fld f)
    (s : State) (hs : s.Keeps km pq) : (State.thermalReset s).Keeps km pq := by
  unfold State.thermalReset
  repeat' first
    | with_reducible assumption
    | (with_reducible (intros; exact any _))
    | (intro _)
    | with_reducible apply Keep.ite
    | with_reducible apply State.inReset_good

theorem State.roundEnd_good (out : km.part .out) (tim : km.part .tim) (dep : km.part .dep) (mem : km.part .mem)
    (dram : km.part .dram) (scn : km.part .scn) (cor : km.part .cor) (rai : km.part .rai) (lfm : km.part .lfm)
    (hkt : km.part .hkt) (line : km.part .line) (rdn : km.part .rdn) (que : km.part .que) (fwu : km.part .fwu)
    (any : ∀ f, km.fld f) (s : State) (down : Bool) (hs : s.Keeps km pq) : (State.roundEnd s down).Keeps km pq := by
  unfold State.roundEnd
  repeat' first
    | with_reducible assumption
    | (with_reducible (intros; exact any _))
    | ((try lift_lets -underBinder); intro x; refine Keep.use (k := km) (q := pq) (s := x) ?_ ?_; (on_goal 1 => dsimp -zeta only [x]); (on_goal 2 => clear_value x; intro _))
    | ((try lift_lets -underBinder); intro x; refine Keep.usePair (k := km) (q := pq) (p := x) ?_ ?_; (on_goal 1 => dsimp -zeta only [x]); (on_goal 2 => clear_value x; intro _))
    | ((try lift_lets -underBinder); intro x; refine Keep.memSt (x := x) ?_; subst x)
    | ((try lift_lets -underBinder); intro x; refine Keep.depSt (x := x) ?_; subst x)
    | ((try lift_lets -underBinder); intro x; clear_value x)
    | (intro _)
    | with_reducible apply Keep.ite
    | with_reducible apply State.portDown_good
    | with_reducible apply State.forN_good
    | with_reducible apply State.ethDown_good
    | (simp -zeta only [Keep.mk_iff]; with_reducible refine Keep.upd ?_ rfl ?_; on_goal 2 => (and_intros <;> with_reducible first | exact .inl rfl | exact .inl ⟨rfl, rfl, rfl⟩ | exact .inr ‹_› | exact Nat.le_refl _ | exact Nat.le_add_right _ _))

theorem State.roundDone_good (out : km.part .out) (tim : km.part .tim) (dep : km.part .dep) (mem : km.part .mem)
    (dram : km.part .dram) (scn : km.part .scn) (cor : km.part .cor) (rai : km.part .rai) (lfm : km.part .lfm)
    (hkt : km.part .hkt) (line : km.part .line) (rdn : km.part .rdn) (que : km.part .que) (mbx : km.part .mbx)
    (fwu : km.part .fwu) (any : ∀ f, km.fld f) (s : State) (raw : List Int) (vb : Nat) (hs : s.Keeps km pq) : (State.roundDone s raw vb).Keeps km pq := by
  unfold State.roundDone
  repeat' first
    | with_reducible assumption
    | (with_reducible (intros; exact any _))
    | (intro _)
    | with_reducible apply State.hktRound_good
    | with_reducible apply State.roundEnd_good

theorem execPowerUp_good (role : km.part .role) (power : km.part .power) (frc : km.part .frc)
    (force : km.part .force) (out : km.part .out) (tim : km.part .tim) (dep : km.part .dep)
    (starts : km.part .starts) (ing : km.part .ing) (map : km.part .map) (cmp : km.part .cmp) (otg : km.part .otg)
    (mem : km.part .mem) (dram : km.part .dram) (scn : km.part .scn) (cor : km.part .cor) (rai : km.part .rai)
    (lfm : km.part .lfm) (hkt : km.part .hkt) (line : km.part .line) (rdn : km.part .rdn) (clu : km.part .clu)
    (que : km.part .que) (mbx : km.part .mbx) (klc : km.part .klc) (fwu : km.part .fwu) (any : ∀ f, km.fld f)
    (us : Nat) (s : State) (hs : s.Keeps km pq) : ∀ st, execPowerUp us s = .next st → st.Keeps km pq := by
  unfold execPowerUp
  intro st h
  refine (Host.Outcome.next.inj h) ▸ ?_
  repeat' first
    | with_reducible assumption
    | (with_reducible (intros; exact any _))
    | (intro _)
    | with_reducible apply State.inReset_good
    | with_reducible apply State.set_good

theorem execInternal5vLoss_good (power : km.part .power) (s : State) (hs : s.Keeps km pq) : ∀ st, execInternal5vLoss s = .next st → st.Keeps km pq := by
  unfold execInternal5vLoss
  intro st h
  refine (Host.Outcome.next.inj h) ▸ ?_
  repeat' first
    | with_reducible assumption
    | ((try lift_lets -underBinder); intro x; refine Keep.use (k := km) (q := pq) (s := x) ?_ ?_; (on_goal 1 => dsimp -zeta only [x]); (on_goal 2 => clear_value x; intro _))
    | ((try lift_lets -underBinder); intro x; refine Keep.usePair (k := km) (q := pq) (p := x) ?_ ?_; (on_goal 1 => dsimp -zeta only [x]); (on_goal 2 => clear_value x; intro _))
    | ((try lift_lets -underBinder); intro x; refine Keep.memSt (x := x) ?_; subst x)
    | ((try lift_lets -underBinder); intro x; refine Keep.depSt (x := x) ?_; subst x)
    | ((try lift_lets -underBinder); intro x; clear_value x)
    | (intro _)
    | with_reducible apply Keep.ite
    | (simp -zeta only [Keep.mk_iff]; with_reducible refine Keep.upd ?_ rfl ?_; on_goal 2 => (and_intros <;> with_reducible first | exact .inl rfl | exact .inl ⟨rfl, rfl, rfl⟩ | exact .inr ‹_› | exact Nat.le_refl _ | exact Nat.le_add_right _ _))

theorem State.resetN_good (role : km.part .role) (power : km.part .power) (frc : km.part .frc)
    (force : km.part .force) (out : km.part .out) (tim : km.part .tim) (dep : km.part .dep)
    (starts : km.part .starts) (ing : km.part .ing) (map : km.part .map) (cmp : km.part .cmp) (otg : km.part .otg)
    (mem : km.part .mem) (dram : km.part .dram) (scn : km.part .scn) (cor : km.part .cor) (rai : km.part .rai)
    (lfm : km.part .lfm) (hkt : km.part .hkt) (line : km.part .line) (rdn : km.part .rdn) (clu : km.part .clu)
    (que : km.part .que) (mbx : km.part .mbx) (klc : km.part .klc) (fwu : km.part .fwu) (any : ∀ f, km.fld f)
    (s : State) (hs : s.Keeps km pq) : (State.resetN s).Keeps km pq := by
  unfold State.resetN
  repeat' first
    | with_reducible assumption
    | (with_reducible (intros; exact any _))
    | ((try lift_lets -underBinder); intro x; refine Keep.use (k := km) (q := pq) (s := x) ?_ ?_; (on_goal 1 => dsimp -zeta only [x]); (on_goal 2 => clear_value x; intro _))
    | ((try lift_lets -underBinder); intro x; refine Keep.usePair (k := km) (q := pq) (p := x) ?_ ?_; (on_goal 1 => dsimp -zeta only [x]); (on_goal 2 => clear_value x; intro _))
    | ((try lift_lets -underBinder); intro x; refine Keep.memSt (x := x) ?_; subst x)
    | ((try lift_lets -underBinder); intro x; refine Keep.depSt (x := x) ?_; subst x)
    | ((try lift_lets -underBinder); intro x; clear_value x)
    | (intro _)
    | with_reducible apply State.addCause_good
    | with_reducible apply State.inReset_good
    | split

theorem execResetN_good (role : km.part .role) (power : km.part .power) (frc : km.part .frc) (force : km.part .force)
    (out : km.part .out) (tim : km.part .tim) (dep : km.part .dep) (starts : km.part .starts) (ing : km.part .ing)
    (map : km.part .map) (cmp : km.part .cmp) (otg : km.part .otg) (mem : km.part .mem) (dram : km.part .dram)
    (scn : km.part .scn) (cor : km.part .cor) (rai : km.part .rai) (lfm : km.part .lfm) (hkt : km.part .hkt)
    (line : km.part .line) (rdn : km.part .rdn) (clu : km.part .clu) (que : km.part .que) (mbx : km.part .mbx)
    (klc : km.part .klc) (fwu : km.part .fwu) (any : ∀ f, km.fld f) (ns : Nat) (s : State) (hs : s.Keeps km pq) : ∀ st, execResetN ns s = .next st → st.Keeps km pq := by
  unfold execResetN
  intro st h
  refine (Host.Outcome.next.inj h) ▸ ?_
  repeat' first
    | with_reducible assumption
    | (with_reducible (intros; exact any _))
    | (intro _)
    | with_reducible apply Keep.ite
    | with_reducible apply State.resetN_good
    | with_reducible apply State.draw_good

theorem execResetRelease_good (role : km.part .role) (power : km.part .power) (frc : km.part .frc)
    (out : km.part .out) (tim : km.part .tim) (dep : km.part .dep) (mem : km.part .mem) (dram : km.part .dram)
    (scn : km.part .scn) (cor : km.part .cor) (rai : km.part .rai) (lfm : km.part .lfm) (hkt : km.part .hkt)
    (line : km.part .line) (rdn : km.part .rdn) (que : km.part .que) (fwu : km.part .fwu) (any : ∀ f, km.fld f)
    (strap : Nat) (bootSel : Bool) (f : Fuses) (ppm : Int) (s : State) (hs : s.Keeps km pq) : ∀ st, execResetRelease strap bootSel f ppm s = .next st → st.Keeps km pq := by
  unfold execResetRelease
  intro st h
  split at h <;> first | (have h := Host.Outcome.next.inj h; subst h) | cases h
  repeat' first
    | with_reducible assumption
    | (with_reducible (intros; exact any _))
    | ((try lift_lets -underBinder); intro x; refine Keep.use (k := km) (q := pq) (s := x) ?_ ?_; (on_goal 1 => dsimp -zeta only [x]); (on_goal 2 => clear_value x; intro _))
    | ((try lift_lets -underBinder); intro x; refine Keep.usePair (k := km) (q := pq) (p := x) ?_ ?_; (on_goal 1 => dsimp -zeta only [x]); (on_goal 2 => clear_value x; intro _))
    | ((try lift_lets -underBinder); intro x; refine Keep.memSt (x := x) ?_; subst x)
    | ((try lift_lets -underBinder); intro x; refine Keep.depSt (x := x) ?_; subst x)
    | ((try lift_lets -underBinder); intro x; clear_value x)
    | (intro _)
    | with_reducible apply State.release_good

theorem execSoftwareReset_good (role : km.part .role) (power : km.part .power) (frc : km.part .frc)
    (force : km.part .force) (out : km.part .out) (tim : km.part .tim) (dep : km.part .dep)
    (starts : km.part .starts) (ing : km.part .ing) (map : km.part .map) (cmp : km.part .cmp) (otg : km.part .otg)
    (mem : km.part .mem) (dram : km.part .dram) (scn : km.part .scn) (cor : km.part .cor) (rai : km.part .rai)
    (lfm : km.part .lfm) (hkt : km.part .hkt) (line : km.part .line) (rdn : km.part .rdn) (clu : km.part .clu)
    (que : km.part .que) (mbx : km.part .mbx) (klc : km.part .klc) (fwu : km.part .fwu) (any : ∀ f, km.fld f)
    (s : State) (hs : s.Keeps km pq) : ∀ st, execSoftwareReset s = .next st → st.Keeps km pq := by
  unfold execSoftwareReset
  refine run_good hs (fun s hs => ?_)
  repeat' first
    | with_reducible assumption
    | (with_reducible (intros; exact any _))
    | (intro _)
    | with_reducible apply State.inReset_good

theorem execModrst_good (role : km.part .role) (power : km.part .power) (frc : km.part .frc) (force : km.part .force)
    (out : km.part .out) (tim : km.part .tim) (dep : km.part .dep) (starts : km.part .starts) (ing : km.part .ing)
    (map : km.part .map) (cmp : km.part .cmp) (otg : km.part .otg) (mem : km.part .mem) (dram : km.part .dram)
    (scn : km.part .scn) (cor : km.part .cor) (rai : km.part .rai) (lfm : km.part .lfm) (hkt : km.part .hkt)
    (line : km.part .line) (rdn : km.part .rdn) (clu : km.part .clu) (que : km.part .que) (mbx : km.part .mbx)
    (klc : km.part .klc) (fwu : km.part .fwu) (any : ∀ f, km.fld f) (s : State) (hs : s.Keeps km pq) : ∀ st, execModrst s = .next st → st.Keeps km pq := by
  unfold execModrst
  intro st h
  split at h <;> first | (have h := Host.Outcome.next.inj h; subst h) | cases h
  repeat' first
    | with_reducible assumption
    | (with_reducible (intros; exact any _))
    | ((try lift_lets -underBinder); intro x; refine Keep.use (k := km) (q := pq) (s := x) ?_ ?_; (on_goal 1 => dsimp -zeta only [x]); (on_goal 2 => clear_value x; intro _))
    | ((try lift_lets -underBinder); intro x; refine Keep.usePair (k := km) (q := pq) (p := x) ?_ ?_; (on_goal 1 => dsimp -zeta only [x]); (on_goal 2 => clear_value x; intro _))
    | ((try lift_lets -underBinder); intro x; refine Keep.memSt (x := x) ?_; subst x)
    | ((try lift_lets -underBinder); intro x; refine Keep.depSt (x := x) ?_; subst x)
    | ((try lift_lets -underBinder); intro x; clear_value x)
    | (intro _)
    | with_reducible apply State.addCause_good
    | with_reducible apply State.inReset_good

theorem execThermalReset_good (role : km.part .role) (power : km.part .power) (frc : km.part .frc)
    (force : km.part .force) (out : km.part .out) (tim : km.part .tim) (dep : km.part .dep)
    (starts : km.part .starts) (ing : km.part .ing) (map : km.part .map) (cmp : km.part .cmp) (otg : km.part .otg)
    (mem : km.part .mem) (dram : km.part .dram) (scn : km.part .scn) (cor : km.part .cor) (rai : km.part .rai)
    (lfm : km.part .lfm) (hkt : km.part .hkt) (line : km.part .line) (rdn : km.part .rdn) (clu : km.part .clu)
    (que : km.part .que) (mbx : km.part .mbx) (klc : km.part .klc) (fwu : km.part .fwu) (any : ∀ f, km.fld f)
    (t : Nat) (s : State) (hs : s.Keeps km pq) : ∀ st, execThermalReset t s = .next st → st.Keeps km pq := by
  unfold execThermalReset
  refine run_good hs (fun s hs => ?_)
  repeat' first
    | with_reducible assumption
    | (with_reducible (intros; exact any _))
    | (intro _)
    | with_reducible apply State.tick_good
    | with_reducible apply State.thermalReset_good

theorem execShutdownRestart_good (power : km.part .power) (s : State) (hs : s.Keeps km pq) : ∀ st, execShutdownRestart s = .next st → st.Keeps km pq := by
  unfold execShutdownRestart
  intro st h
  split at h <;> first | (have h := Host.Outcome.next.inj h; subst h) | cases h
  repeat' first
    | with_reducible assumption
    | ((try lift_lets -underBinder); intro x; refine Keep.use (k := km) (q := pq) (s := x) ?_ ?_; (on_goal 1 => dsimp -zeta only [x]); (on_goal 2 => clear_value x; intro _))
    | ((try lift_lets -underBinder); intro x; refine Keep.usePair (k := km) (q := pq) (p := x) ?_ ?_; (on_goal 1 => dsimp -zeta only [x]); (on_goal 2 => clear_value x; intro _))
    | ((try lift_lets -underBinder); intro x; refine Keep.memSt (x := x) ?_; subst x)
    | ((try lift_lets -underBinder); intro x; refine Keep.depSt (x := x) ?_; subst x)
    | ((try lift_lets -underBinder); intro x; clear_value x)
    | (intro _)
    | split
    | (simp -zeta only [Keep.mk_iff]; with_reducible refine Keep.upd ?_ rfl ?_; on_goal 2 => (and_intros <;> with_reducible first | exact .inl rfl | exact .inl ⟨rfl, rfl, rfl⟩ | exact .inr ‹_› | exact Nat.le_refl _ | exact Nat.le_add_right _ _))

theorem execRefclkLost_good (frc : km.part .frc) (out : km.part .out) (tim : km.part .tim) (dep : km.part .dep)
    (mem : km.part .mem) (dram : km.part .dram) (scn : km.part .scn) (cor : km.part .cor) (rai : km.part .rai)
    (lfm : km.part .lfm) (line : km.part .line) (rdn : km.part .rdn) (que : km.part .que) (fwu : km.part .fwu)
    (any : ∀ f, km.fld f) (ppm : Int) (t : Nat) (s : State) (hs : s.Keeps km pq) : ∀ st, execRefclkLost ppm t s = .next st → st.Keeps km pq := by
  unfold execRefclkLost
  refine run_good hs (fun s hs => ?_)
  repeat' first
    | with_reducible assumption
    | (with_reducible (intros; exact any _))
    | (intro _)
    | with_reducible apply State.tick_good
    | with_reducible apply State.refclkLost_good

theorem execRetAuto_good (frc : km.part .frc) (out : km.part .out) (tim : km.part .tim) (dep : km.part .dep)
    (mem : km.part .mem) (dram : km.part .dram) (scn : km.part .scn) (cor : km.part .cor) (rai : km.part .rai)
    (lfm : km.part .lfm) (line : km.part .line) (rdn : km.part .rdn) (que : km.part .que) (fwu : km.part .fwu)
    (any : ∀ f, km.fld f) (ppm : Int) (t : Nat) (s : State) (hs : s.Keeps km pq) : ∀ st, execRetAuto ppm t s = .next st → st.Keeps km pq := by
  unfold execRetAuto
  refine run_good hs (fun s hs => ?_)
  repeat' first
    | with_reducible assumption
    | (with_reducible (intros; exact any _))
    | ((try lift_lets -underBinder); intro x; refine Keep.use (k := km) (q := pq) (s := x) ?_ ?_; (on_goal 1 => dsimp -zeta only [x]); (on_goal 2 => clear_value x; intro _))
    | ((try lift_lets -underBinder); intro x; refine Keep.usePair (k := km) (q := pq) (p := x) ?_ ?_; (on_goal 1 => dsimp -zeta only [x]); (on_goal 2 => clear_value x; intro _))
    | ((try lift_lets -underBinder); intro x; refine Keep.memSt (x := x) ?_; subst x)
    | ((try lift_lets -underBinder); intro x; refine Keep.depSt (x := x) ?_; subst x)
    | ((try lift_lets -underBinder); intro x; clear_value x)
    | (intro _)
    | with_reducible apply Keep.ite
    | with_reducible apply State.tick_good
    | with_reducible apply State.showRefclk_good
    | with_reducible apply State.refclkBack_good

theorem execRetNow_good (frc : km.part .frc) (out : km.part .out) (tim : km.part .tim) (dep : km.part .dep)
    (mem : km.part .mem) (dram : km.part .dram) (scn : km.part .scn) (cor : km.part .cor) (rai : km.part .rai)
    (lfm : km.part .lfm) (line : km.part .line) (rdn : km.part .rdn) (que : km.part .que) (fwu : km.part .fwu)
    (any : ∀ f, km.fld f) (ppm : Int) (t : Nat) (s : State) (hs : s.Keeps km pq) : ∀ st, execRetNow ppm t s = .next st → st.Keeps km pq := by
  unfold execRetNow
  refine run_good hs (fun s hs => ?_)
  repeat' first
    | with_reducible assumption
    | (with_reducible (intros; exact any _))
    | ((try lift_lets -underBinder); intro x; refine Keep.use (k := km) (q := pq) (s := x) ?_ ?_; (on_goal 1 => dsimp -zeta only [x]); (on_goal 2 => clear_value x; intro _))
    | ((try lift_lets -underBinder); intro x; refine Keep.usePair (k := km) (q := pq) (p := x) ?_ ?_; (on_goal 1 => dsimp -zeta only [x]); (on_goal 2 => clear_value x; intro _))
    | ((try lift_lets -underBinder); intro x; refine Keep.memSt (x := x) ?_; subst x)
    | ((try lift_lets -underBinder); intro x; refine Keep.depSt (x := x) ?_; subst x)
    | ((try lift_lets -underBinder); intro x; clear_value x)
    | (intro _)
    | with_reducible apply Keep.ite
    | with_reducible apply State.tick_good
    | with_reducible apply State.showRefclk_good
    | with_reducible apply State.refclkBack_good

theorem execRoundDone_good (frc : km.part .frc) (out : km.part .out) (tim : km.part .tim) (dep : km.part .dep)
    (mem : km.part .mem) (dram : km.part .dram) (scn : km.part .scn) (cor : km.part .cor) (rai : km.part .rai)
    (lfm : km.part .lfm) (hkt : km.part .hkt) (line : km.part .line) (rdn : km.part .rdn) (que : km.part .que)
    (mbx : km.part .mbx) (fwu : km.part .fwu) (any : ∀ f, km.fld f) (raw : List Int) (vb t : Nat) (s : State)
    (hs : s.Keeps km pq) : ∀ st, execRoundDone raw vb t s = .next st → st.Keeps km pq := by
  unfold execRoundDone
  refine run_good hs (fun s hs => ?_)
  repeat' first
    | with_reducible assumption
    | (with_reducible (intros; exact any _))
    | (intro _)
    | with_reducible apply State.tick_good
    | with_reducible apply State.roundDone_good

theorem State.confirmWindow_good (role : km.part .role) (power : km.part .power) (frc : km.part .frc)
    (force : km.part .force) (out : km.part .out) (tim : km.part .tim) (dep : km.part .dep)
    (starts : km.part .starts) (ing : km.part .ing) (map : km.part .map) (cmp : km.part .cmp) (otg : km.part .otg)
    (mem : km.part .mem) (dram : km.part .dram) (scn : km.part .scn) (cor : km.part .cor) (rai : km.part .rai)
    (lfm : km.part .lfm) (hkt : km.part .hkt) (line : km.part .line) (rdn : km.part .rdn) (clu : km.part .clu)
    (que : km.part .que) (mbx : km.part .mbx) (klc : km.part .klc) (fwu : km.part .fwu) (any : ∀ f, km.fld f)
    (s : State) (cpu : Nat) (hs : s.Keeps km pq) : (State.confirmWindow s cpu).Keeps km pq := by
  unfold State.confirmWindow
  repeat' first
    | with_reducible assumption
    | (with_reducible (intros; exact any _))
    | ((try lift_lets -underBinder); intro x; refine Keep.use (k := km) (q := pq) (s := x) ?_ ?_; (on_goal 1 => dsimp -zeta only [x]); (on_goal 2 => clear_value x; intro _))
    | ((try lift_lets -underBinder); intro x; refine Keep.usePair (k := km) (q := pq) (p := x) ?_ ?_; (on_goal 1 => dsimp -zeta only [x]); (on_goal 2 => clear_value x; intro _))
    | ((try lift_lets -underBinder); intro x; refine Keep.memSt (x := x) ?_; subst x)
    | ((try lift_lets -underBinder); intro x; refine Keep.depSt (x := x) ?_; subst x)
    | ((try lift_lets -underBinder); intro x; clear_value x)
    | (intro _)
    | with_reducible apply Keep.ite
    | with_reducible apply Keep.ite1
    | dsimp -zeta only
    | with_reducible apply State.revert_good
    | with_reducible apply State.draw_good
    | with_reducible apply State.inReset_good

theorem execConfirmWindowEnd_good (role : km.part .role) (power : km.part .power) (frc : km.part .frc)
    (force : km.part .force) (out : km.part .out) (tim : km.part .tim) (dep : km.part .dep)
    (starts : km.part .starts) (ing : km.part .ing) (map : km.part .map) (cmp : km.part .cmp) (otg : km.part .otg)
    (mem : km.part .mem) (dram : km.part .dram) (scn : km.part .scn) (cor : km.part .cor) (rai : km.part .rai)
    (lfm : km.part .lfm) (hkt : km.part .hkt) (line : km.part .line) (rdn : km.part .rdn) (clu : km.part .clu)
    (que : km.part .que) (mbx : km.part .mbx) (klc : km.part .klc) (fwu : km.part .fwu) (any : ∀ f, km.fld f)
    (cpu t : Nat) (s : State) (hs : s.Keeps km pq) : ∀ st, execConfirmWindowEnd cpu t s = .next st → st.Keeps km pq := by
  unfold execConfirmWindowEnd
  refine run_good hs (fun s hs => ?_)
  repeat' first
    | with_reducible assumption
    | (with_reducible (intros; exact any _))
    | (intro _)
    | with_reducible apply State.tick_good
    | with_reducible apply State.confirmWindow_good

end Sys2Proof.Machine
end

