-- ==== Sys2Proof/Laws/KeepsSession.lean ====
section
/-!
SUPPORT. Every function of Machine/Session.lean changes what the hypotheses of its lemma name, and nothing else.
-/
namespace Sys2Proof.Machine
set_option Elab.async false
set_option linter.unusedVariables false
set_option linter.unusedTactic false
set_option linter.unreachableTactic false

variable {km : May} {pq : State}

theorem State.setSession_good (tim : km.part .tim) (line : km.part .line)
    (hTIM_DOM_OFFSET_OFFSET : ∀ a, km.fld (R.TIM.DOM_OFFSET.OFFSET a))
    (hTIM_DOM_RATE_RATE : ∀ a, km.fld (R.TIM.DOM_RATE.RATE a)) (s : State) (p : Nat) (v : SvcOut)
    (hs : s.Keeps km pq) : (State.setSession s p v).Keeps km pq := by
  unfold State.setSession
  repeat' first
    | with_reducible assumption
    | with_reducible exact hTIM_DOM_OFFSET_OFFSET _
    | with_reducible exact hTIM_DOM_RATE_RATE _
    | ((try lift_lets -underBinder); intro x; refine Keep.use (k := km) (q := pq) (s := x) ?_ ?_; (on_goal 1 => dsimp -zeta only [x]); (on_goal 2 => clear_value x; intro _))
    | ((try lift_lets -underBinder); intro x; refine Keep.usePair (k := km) (q := pq) (p := x) ?_ ?_; (on_goal 1 => dsimp -zeta only [x]); (on_goal 2 => clear_value x; intro _))
    | ((try lift_lets -underBinder); intro x; refine Keep.memSt (x := x) ?_; subst x)
    | ((try lift_lets -underBinder); intro x; refine Keep.depSt (x := x) ?_; subst x)
    | ((try lift_lets -underBinder); intro x; clear_value x)
    | (intro _)
    | with_reducible apply State.setLineTx_good

theorem State.endOut_good (tim : km.part .tim) (line : km.part .line)
    (hTIM_DOM_OFFSET_OFFSET : ∀ a, km.fld (R.TIM.DOM_OFFSET.OFFSET a))
    (hTIM_DOM_RATE_RATE : ∀ a, km.fld (R.TIM.DOM_RATE.RATE a)) (s : State) (p k : Nat) (hs : s.Keeps km pq) : (State.endOut s p k).Keeps km pq := by
  unfold State.endOut
  repeat' first
    | with_reducible assumption
    | with_reducible exact hTIM_DOM_OFFSET_OFFSET _
    | with_reducible exact hTIM_DOM_RATE_RATE _
    | ((try lift_lets -underBinder); intro x; refine Keep.use (k := km) (q := pq) (s := x) ?_ ?_; (on_goal 1 => dsimp -zeta only [x]); (on_goal 2 => clear_value x; intro _))
    | ((try lift_lets -underBinder); intro x; refine Keep.usePair (k := km) (q := pq) (p := x) ?_ ?_; (on_goal 1 => dsimp -zeta only [x]); (on_goal 2 => clear_value x; intro _))
    | ((try lift_lets -underBinder); intro x; refine Keep.memSt (x := x) ?_; subst x)
    | ((try lift_lets -underBinder); intro x; refine Keep.depSt (x := x) ?_; subst x)
    | ((try lift_lets -underBinder); intro x; clear_value x)
    | (intro _)
    | with_reducible apply State.setLineTx_good

theorem State.pumpSession_good (out : km.part .out) (tim : km.part .tim) (line : km.part .line) (hTIM_DOM_OFFSET_OFFSET : ∀ a, km.fld (R.TIM.DOM_OFFSET.OFFSET a)) (hTIM_DOM_RATE_RATE : ∀ a, km.fld (R.TIM.DOM_RATE.RATE a)) (s : State) (p k n : Nat) (hs : s.Keeps km pq) : (s.pumpSession p k n).Keeps km pq := by
  induction n generalizing s with
  | zero => exact hs
  | succ n ih =>
    unfold State.pumpSession
    split
    · exact hs
    · split
      · exact hs
      · refine ih _ ?_
        apply State.send_good <;> try (first | assumption | (intros; exact any _))
        apply State.setSession_good <;> (first | assumption | (intros; exact any _))

theorem State.openOut_good (out : km.part .out) (tim : km.part .tim) (line : km.part .line)
    (hTIM_DOM_OFFSET_OFFSET : ∀ a, km.fld (R.TIM.DOM_OFFSET.OFFSET a))
    (hTIM_DOM_RATE_RATE : ∀ a, km.fld (R.TIM.DOM_RATE.RATE a)) (s : State) (p k purpose slot total : Nat)
    (buf : List Byte) (w : Caller × Nat × Nat) (hs : s.Keeps km pq) : (State.openOut s p k purpose slot total buf w).Keeps km pq := by
  unfold State.openOut
  repeat' first
    | with_reducible assumption
    | with_reducible exact hTIM_DOM_OFFSET_OFFSET _
    | with_reducible exact hTIM_DOM_RATE_RATE _
    | ((try lift_lets -underBinder); intro x; refine Keep.use (k := km) (q := pq) (s := x) ?_ ?_; (on_goal 1 => dsimp -zeta only [x]); (on_goal 2 => clear_value x; intro _))
    | ((try lift_lets -underBinder); intro x; refine Keep.usePair (k := km) (q := pq) (p := x) ?_ ?_; (on_goal 1 => dsimp -zeta only [x]); (on_goal 2 => clear_value x; intro _))
    | ((try lift_lets -underBinder); intro x; refine Keep.memSt (x := x) ?_; subst x)
    | ((try lift_lets -underBinder); intro x; refine Keep.depSt (x := x) ?_; subst x)
    | ((try lift_lets -underBinder); intro x; clear_value x)
    | (intro _)
    | with_reducible apply State.draw_good
    | with_reducible apply State.setSession_good
    | with_reducible apply State.send_good
    | (simp -zeta only [Keep.mk_iff]; with_reducible refine Keep.upd ?_ rfl ?_; on_goal 2 => (and_intros <;> with_reducible first | exact .inl rfl | exact .inl ⟨rfl, rfl, rfl⟩ | exact .inr ‹_› | exact Nat.le_refl _ | exact Nat.le_add_right _ _))

theorem State.mbxReturn_good (out : km.part .out) (tim : km.part .tim) (line : km.part .line) (mbx : km.part .mbx) (hMBX_M_STAT_RX_COUNT : ∀ a b, km.fld (R.MBX.M_STAT.RX_COUNT a b)) (hMBX_M_STAT_RX_POISON : ∀ a b, km.fld (R.MBX.M_STAT.RX_POISON a b)) (hMBX_M_STAT_TX_INFLIGHT : ∀ a b, km.fld (R.MBX.M_STAT.TX_INFLIGHT a b)) (hMBX_RX_DATA : ∀ a b c, km.fld (R.MBX.RX.DATA a b c)) (hPG_EVT_PEND : ∀ a, km.fld (R.PG.EVT_PEND a)) (hTIM_DOM_OFFSET_OFFSET : ∀ a, km.fld (R.TIM.DOM_OFFSET.OFFSET a)) (hTIM_DOM_RATE_RATE : ∀ a, km.fld (R.TIM.DOM_RATE.RATE a)) (s : State) (n : Nat) (hs : s.Keeps km pq) : (s.mbxReturn n).Keeps km pq := by
  induction n generalizing s with
  | zero => exact hs
  | succ n ih =>
    unfold State.mbxReturn
    split
    · exact hs
    · split
      · exact hs
      · refine Keep.ite hs (Keep.ite (ih _ ?_) (ih _ ?_))
        · apply State.mbxPop_good <;> (first | assumption | (intros; exact any _))
        apply State.mbxPop_good <;> try (first | assumption | (intros; exact any _))
        refine Keep.foldl ?_ fun a g ha => ?_
        · exact Keep.mk_iff.2 <| Keep.upd hs rfl (by and_intros <;> first | exact .inl rfl | exact .inl ⟨rfl, rfl, rfl⟩ | exact Nat.le_refl _ | exact .inr ‹_›)
        · apply State.send_good <;> (first | assumption | (intros; exact any _))

theorem State.mbxRelay_good (out : km.part .out) (tim : km.part .tim) (line : km.part .line) (mbx : km.part .mbx)
    (hMBX_M_STAT_RX_COUNT : ∀ a b, km.fld (R.MBX.M_STAT.RX_COUNT a b))
    (hMBX_M_STAT_RX_POISON : ∀ a b, km.fld (R.MBX.M_STAT.RX_POISON a b))
    (hMBX_M_STAT_TX_INFLIGHT : ∀ a b, km.fld (R.MBX.M_STAT.TX_INFLIGHT a b))
    (hMBX_RX_DATA : ∀ a b c, km.fld (R.MBX.RX.DATA a b c)) (hPG_EVT_PEND : ∀ a, km.fld (R.PG.EVT_PEND a))
    (hTIM_DOM_OFFSET_OFFSET : ∀ a, km.fld (R.TIM.DOM_OFFSET.OFFSET a))
    (hTIM_DOM_RATE_RATE : ∀ a, km.fld (R.TIM.DOM_RATE.RATE a)) (s : State) (hs : s.Keeps km pq) : (State.mbxRelay s).Keeps km pq := by
  unfold State.mbxRelay
  repeat' first
    | with_reducible assumption
    | with_reducible exact hMBX_M_STAT_RX_COUNT _ _
    | with_reducible exact hMBX_M_STAT_RX_POISON _ _
    | with_reducible exact hMBX_M_STAT_TX_INFLIGHT _ _
    | with_reducible exact hMBX_RX_DATA _ _ _
    | with_reducible exact hPG_EVT_PEND _
    | with_reducible exact hTIM_DOM_OFFSET_OFFSET _
    | with_reducible exact hTIM_DOM_RATE_RATE _
    | ((try lift_lets -underBinder); intro x; refine Keep.use (k := km) (q := pq) (s := x) ?_ ?_; (on_goal 1 => dsimp -zeta only [x]); (on_goal 2 => clear_value x; intro _))
    | ((try lift_lets -underBinder); intro x; refine Keep.usePair (k := km) (q := pq) (p := x) ?_ ?_; (on_goal 1 => dsimp -zeta only [x]); (on_goal 2 => clear_value x; intro _))
    | ((try lift_lets -underBinder); intro x; refine Keep.memSt (x := x) ?_; subst x)
    | ((try lift_lets -underBinder); intro x; refine Keep.depSt (x := x) ?_; subst x)
    | ((try lift_lets -underBinder); intro x; clear_value x)
    | (intro _)
    | with_reducible apply Keep.ite
    | with_reducible apply State.mbxReturn_good
    | split

theorem State.mbxSendRelay_good (out : km.part .out) (tim : km.part .tim) (line : km.part .line) (mbx : km.part .mbx)
    (hMBX_M_REFUSED_COUNT : ∀ a b, km.fld (R.MBX.M_REFUSED.COUNT a b))
    (hMBX_M_STAT_RX_COUNT : ∀ a b, km.fld (R.MBX.M_STAT.RX_COUNT a b))
    (hMBX_M_STAT_RX_POISON : ∀ a b, km.fld (R.MBX.M_STAT.RX_POISON a b))
    (hMBX_M_STAT_TX_FULL : ∀ a b, km.fld (R.MBX.M_STAT.TX_FULL a b))
    (hMBX_M_STAT_TX_INFLIGHT : ∀ a b, km.fld (R.MBX.M_STAT.TX_INFLIGHT a b))
    (hMBX_RX_DATA : ∀ a b c, km.fld (R.MBX.RX.DATA a b c)) (hPG_EVT_PEND : ∀ a, km.fld (R.PG.EVT_PEND a))
    (hTIM_DOM_OFFSET_OFFSET : ∀ a, km.fld (R.TIM.DOM_OFFSET.OFFSET a))
    (hTIM_DOM_RATE_RATE : ∀ a, km.fld (R.TIM.DOM_RATE.RATE a)) (s : State) (c k : Nat) (hs : s.Keeps km pq) : (State.mbxSendRelay s c k).Keeps km pq := by
  unfold State.mbxSendRelay
  repeat' first
    | with_reducible assumption
    | with_reducible exact hMBX_M_REFUSED_COUNT _ _
    | with_reducible exact hMBX_M_STAT_RX_COUNT _ _
    | with_reducible exact hMBX_M_STAT_RX_POISON _ _
    | with_reducible exact hMBX_M_STAT_TX_FULL _ _
    | with_reducible exact hMBX_M_STAT_TX_INFLIGHT _ _
    | with_reducible exact hMBX_RX_DATA _ _ _
    | with_reducible exact hPG_EVT_PEND _
    | with_reducible exact hTIM_DOM_OFFSET_OFFSET _
    | with_reducible exact hTIM_DOM_RATE_RATE _
    | (intro _)
    | with_reducible apply State.mbxSend_good
    | with_reducible apply State.mbxRelay_good

end Sys2Proof.Machine
end

