-- ==== Sys2Proof/Laws/KeepsRules.lean ====
section
/-!
SUPPORT. Every function of Machine/Rules.lean changes what the hypotheses of its lemma name, and nothing else.
-/
namespace Sys2Proof.Machine
set_option Elab.async false
set_option linter.unusedVariables false
set_option linter.unusedTactic false
set_option linter.unreachableTactic false

variable {km : May} {pq : State}

theorem State.showQueues_good (tim : km.part .tim) (hQUE_QUE_STAT_ENABLED : km.fld R.QUE.QUE_STAT.ENABLED)
    (hTIM_DOM_OFFSET_OFFSET : ∀ a, km.fld (R.TIM.DOM_OFFSET.OFFSET a))
    (hTIM_DOM_RATE_RATE : ∀ a, km.fld (R.TIM.DOM_RATE.RATE a)) (s : State) (hs : s.Keeps km pq) : (State.showQueues s).Keeps km pq := by
  unfold State.showQueues
  repeat' first
    | with_reducible assumption
    | with_reducible exact hTIM_DOM_OFFSET_OFFSET _
    | with_reducible exact hTIM_DOM_RATE_RATE _
    | (intro _)
    | with_reducible apply State.set_good

theorem State.queueEnable_good (tim : km.part .tim) (hQCX_Q_CTRL_EN : ∀ a, km.fld (R.QCX.Q_CTRL.EN a))
    (hQCX_Q_CTRL_ERROR : ∀ a, km.fld (R.QCX.Q_CTRL.ERROR a)) (hQUE_QUE_STAT_ENABLED : km.fld R.QUE.QUE_STAT.ENABLED)
    (hTIM_DOM_OFFSET_OFFSET : ∀ a, km.fld (R.TIM.DOM_OFFSET.OFFSET a))
    (hTIM_DOM_RATE_RATE : ∀ a, km.fld (R.TIM.DOM_RATE.RATE a)) (s : State) (q : Nat) (hs : s.Keeps km pq) : (State.queueEnable s q).Keeps km pq := by
  unfold State.queueEnable
  repeat' first
    | with_reducible assumption
    | with_reducible exact hQCX_Q_CTRL_EN _
    | with_reducible exact hQCX_Q_CTRL_ERROR _
    | with_reducible exact hTIM_DOM_OFFSET_OFFSET _
    | with_reducible exact hTIM_DOM_RATE_RATE _
    | (intro _)
    | with_reducible apply State.set_good
    | with_reducible apply State.showQueues_good

theorem State.dropDesc_good (out : km.part .out) (tim : km.part .tim) (line : km.part .line) (que : km.part .que)
    (hPG_ERR_ADDR_HI : ∀ a, km.fld (R.PG.ERR_ADDR_HI a)) (hPG_ERR_ADDR_LO : ∀ a, km.fld (R.PG.ERR_ADDR_LO a))
    (hPG_ERR_CODE : ∀ a, km.fld (R.PG.ERR_CODE a)) (hPG_ERR_COUNT : ∀ a, km.fld (R.PG.ERR_COUNT a))
    (hPG_ERR_OVERFLOW : ∀ a, km.fld (R.PG.ERR_OVERFLOW a)) (hPG_ERR_SOURCE : ∀ a, km.fld (R.PG.ERR_SOURCE a))
    (hPG_ERR_VALID : ∀ a, km.fld (R.PG.ERR_VALID a)) (hPG_EVT_PEND : ∀ a, km.fld (R.PG.EVT_PEND a))
    (hPG_POISON_SEEN : ∀ a, km.fld (R.PG.POISON_SEEN a)) (hQCX_Q_CTRL_IDLE : ∀ a, km.fld (R.QCX.Q_CTRL.IDLE a))
    (hQCX_Q_DONE_CNT_COUNT : ∀ a, km.fld (R.QCX.Q_DONE_CNT.COUNT a))
    (hQCX_Q_HEAD_IDX : ∀ a, km.fld (R.QCX.Q_HEAD.IDX a))
    (hQCX_Q_INFLIGHT_COUNT : ∀ a, km.fld (R.QCX.Q_INFLIGHT.COUNT a))
    (hQUE_DESC_ERR_COUNT : km.fld R.QUE.DESC_ERR.COUNT) (hQUE_INFLIGHT_COUNT : km.fld R.QUE.INFLIGHT.COUNT)
    (hTEN_REVOKED_CNT_COUNT : ∀ a, km.fld (R.TEN.REVOKED_CNT.COUNT a))
    (hTIM_DOM_OFFSET_OFFSET : ∀ a, km.fld (R.TIM.DOM_OFFSET.OFFSET a))
    (hTIM_DOM_RATE_RATE : ∀ a, km.fld (R.TIM.DOM_RATE.RATE a)) (s : State) (st : Nat) (d : Desc) (hs : s.Keeps km pq)
    : (State.dropDesc s st d).Keeps km pq := by
  unfold State.dropDesc
  repeat' first
    | with_reducible assumption
    | with_reducible exact hPG_ERR_ADDR_HI _
    | with_reducible exact hPG_ERR_ADDR_LO _
    | with_reducible exact hPG_ERR_CODE _
    | with_reducible exact hPG_ERR_COUNT _
    | with_reducible exact hPG_ERR_OVERFLOW _
    | with_reducible exact hPG_ERR_SOURCE _
    | with_reducible exact hPG_ERR_VALID _
    | with_reducible exact hPG_EVT_PEND _
    | with_reducible exact hPG_POISON_SEEN _
    | with_reducible exact hQCX_Q_CTRL_IDLE _
    | with_reducible exact hQCX_Q_DONE_CNT_COUNT _
    | with_reducible exact hQCX_Q_HEAD_IDX _
    | with_reducible exact hQCX_Q_INFLIGHT_COUNT _
    | with_reducible exact hTEN_REVOKED_CNT_COUNT _
    | with_reducible exact hTIM_DOM_OFFSET_OFFSET _
    | with_reducible exact hTIM_DOM_RATE_RATE _
    | ((try lift_lets -underBinder); intro x; refine Keep.use (k := km) (q := pq) (s := x) ?_ ?_; (on_goal 1 => dsimp -zeta only [x]); (on_goal 2 => clear_value x; intro _))
    | ((try lift_lets -underBinder); intro x; refine Keep.usePair (k := km) (q := pq) (p := x) ?_ ?_; (on_goal 1 => dsimp -zeta only [x]); (on_goal 2 => clear_value x; intro _))
    | ((try lift_lets -underBinder); intro x; refine Keep.memSt (x := x) ?_; subst x)
    | ((try lift_lets -underBinder); intro x; refine Keep.depSt (x := x) ?_; subst x)
    | ((try lift_lets -underBinder); intro x; clear_value x)
    | (intro _)
    | with_reducible apply Keep.ite
    | with_reducible apply State.setDesc_good
    | with_reducible apply State.complete_good
    | with_reducible apply State.settle_good

theorem State.queueDisable_good (out : km.part .out) (tim : km.part .tim) (line : km.part .line) (que : km.part .que)
    (hPG_ERR_ADDR_HI : ∀ a, km.fld (R.PG.ERR_ADDR_HI a)) (hPG_ERR_ADDR_LO : ∀ a, km.fld (R.PG.ERR_ADDR_LO a))
    (hPG_ERR_CODE : ∀ a, km.fld (R.PG.ERR_CODE a)) (hPG_ERR_COUNT : ∀ a, km.fld (R.PG.ERR_COUNT a))
    (hPG_ERR_OVERFLOW : ∀ a, km.fld (R.PG.ERR_OVERFLOW a)) (hPG_ERR_SOURCE : ∀ a, km.fld (R.PG.ERR_SOURCE a))
    (hPG_ERR_VALID : ∀ a, km.fld (R.PG.ERR_VALID a)) (hPG_EVT_PEND : ∀ a, km.fld (R.PG.EVT_PEND a))
    (hPG_POISON_SEEN : ∀ a, km.fld (R.PG.POISON_SEEN a)) (hQCX_Q_CTRL_EN : ∀ a, km.fld (R.QCX.Q_CTRL.EN a))
    (hQCX_Q_CTRL_IDLE : ∀ a, km.fld (R.QCX.Q_CTRL.IDLE a))
    (hQCX_Q_DONE_CNT_COUNT : ∀ a, km.fld (R.QCX.Q_DONE_CNT.COUNT a))
    (hQCX_Q_HEAD_IDX : ∀ a, km.fld (R.QCX.Q_HEAD.IDX a))
    (hQCX_Q_INFLIGHT_COUNT : ∀ a, km.fld (R.QCX.Q_INFLIGHT.COUNT a))
    (hQUE_DESC_ERR_COUNT : km.fld R.QUE.DESC_ERR.COUNT) (hQUE_INFLIGHT_COUNT : km.fld R.QUE.INFLIGHT.COUNT)
    (hQUE_QUE_STAT_ENABLED : km.fld R.QUE.QUE_STAT.ENABLED)
    (hTEN_REVOKED_CNT_COUNT : ∀ a, km.fld (R.TEN.REVOKED_CNT.COUNT a))
    (hTIM_DOM_OFFSET_OFFSET : ∀ a, km.fld (R.TIM.DOM_OFFSET.OFFSET a))
    (hTIM_DOM_RATE_RATE : ∀ a, km.fld (R.TIM.DOM_RATE.RATE a)) (s : State) (q : Nat) (hs : s.Keeps km pq) : (State.queueDisable s q).Keeps km pq := by
  unfold State.queueDisable
  repeat' first
    | with_reducible assumption
    | with_reducible exact hPG_ERR_ADDR_HI _
    | with_reducible exact hPG_ERR_ADDR_LO _
    | with_reducible exact hPG_ERR_CODE _
    | with_reducible exact hPG_ERR_COUNT _
    | with_reducible exact hPG_ERR_OVERFLOW _
    | with_reducible exact hPG_ERR_SOURCE _
    | with_reducible exact hPG_ERR_VALID _
    | with_reducible exact hPG_EVT_PEND _
    | with_reducible exact hPG_POISON_SEEN _
    | with_reducible exact hQCX_Q_CTRL_EN _
    | with_reducible exact hQCX_Q_CTRL_IDLE _
    | with_reducible exact hQCX_Q_DONE_CNT_COUNT _
    | with_reducible exact hQCX_Q_HEAD_IDX _
    | with_reducible exact hQCX_Q_INFLIGHT_COUNT _
    | with_reducible exact hTEN_REVOKED_CNT_COUNT _
    | with_reducible exact hTIM_DOM_OFFSET_OFFSET _
    | with_reducible exact hTIM_DOM_RATE_RATE _
    | ((try lift_lets -underBinder); intro x; refine Keep.use (k := km) (q := pq) (s := x) ?_ ?_; (on_goal 1 => dsimp -zeta only [x]); (on_goal 2 => clear_value x; intro _))
    | ((try lift_lets -underBinder); intro x; refine Keep.usePair (k := km) (q := pq) (p := x) ?_ ?_; (on_goal 1 => dsimp -zeta only [x]); (on_goal 2 => clear_value x; intro _))
    | ((try lift_lets -underBinder); intro x; refine Keep.memSt (x := x) ?_; subst x)
    | ((try lift_lets -underBinder); intro x; refine Keep.depSt (x := x) ?_; subst x)
    | ((try lift_lets -underBinder); intro x; clear_value x)
    | (intro _)
    | with_reducible apply State.set_good
    | with_reducible apply State.showQueues_good
    | with_reducible apply State.filter_good
    | with_reducible apply State.dropDesc_good
    | with_reducible apply Keep.foldl

theorem State.queueError_good (out : km.part .out) (tim : km.part .tim)
    (hPG_ERR_ADDR_HI : ∀ a, km.fld (R.PG.ERR_ADDR_HI a)) (hPG_ERR_ADDR_LO : ∀ a, km.fld (R.PG.ERR_ADDR_LO a))
    (hPG_ERR_CODE : ∀ a, km.fld (R.PG.ERR_CODE a)) (hPG_ERR_COUNT : ∀ a, km.fld (R.PG.ERR_COUNT a))
    (hPG_ERR_OVERFLOW : ∀ a, km.fld (R.PG.ERR_OVERFLOW a)) (hPG_ERR_SOURCE : ∀ a, km.fld (R.PG.ERR_SOURCE a))
    (hPG_ERR_VALID : ∀ a, km.fld (R.PG.ERR_VALID a)) (hPG_EVT_PEND : ∀ a, km.fld (R.PG.EVT_PEND a))
    (hQCX_Q_CTRL_EN : ∀ a, km.fld (R.QCX.Q_CTRL.EN a)) (hQCX_Q_CTRL_ERROR : ∀ a, km.fld (R.QCX.Q_CTRL.ERROR a))
    (hQCX_Q_ERR_CAUSE : ∀ a, km.fld (R.QCX.Q_ERR.CAUSE a)) (hQCX_Q_ERR_IDX : ∀ a, km.fld (R.QCX.Q_ERR.IDX a))
    (hQUE_QUE_STAT_ENABLED : km.fld R.QUE.QUE_STAT.ENABLED)
    (hTIM_DOM_OFFSET_OFFSET : ∀ a, km.fld (R.TIM.DOM_OFFSET.OFFSET a))
    (hTIM_DOM_RATE_RATE : ∀ a, km.fld (R.TIM.DOM_RATE.RATE a)) (s : State) (q cause idx : Nat) (hs : s.Keeps km pq) : (State.queueError s q cause idx).Keeps km pq := by
  unfold State.queueError
  repeat' first
    | with_reducible assumption
    | with_reducible exact hPG_ERR_ADDR_HI _
    | with_reducible exact hPG_ERR_ADDR_LO _
    | with_reducible exact hPG_ERR_CODE _
    | with_reducible exact hPG_ERR_COUNT _
    | with_reducible exact hPG_ERR_OVERFLOW _
    | with_reducible exact hPG_ERR_SOURCE _
    | with_reducible exact hPG_ERR_VALID _
    | with_reducible exact hPG_EVT_PEND _
    | with_reducible exact hQCX_Q_CTRL_EN _
    | with_reducible exact hQCX_Q_CTRL_ERROR _
    | with_reducible exact hQCX_Q_ERR_CAUSE _
    | with_reducible exact hQCX_Q_ERR_IDX _
    | with_reducible exact hTIM_DOM_OFFSET_OFFSET _
    | with_reducible exact hTIM_DOM_RATE_RATE _
    | ((try lift_lets -underBinder); intro x; refine Keep.use (k := km) (q := pq) (s := x) ?_ ?_; (on_goal 1 => dsimp -zeta only [x]); (on_goal 2 => clear_value x; intro _))
    | ((try lift_lets -underBinder); intro x; refine Keep.usePair (k := km) (q := pq) (p := x) ?_ ?_; (on_goal 1 => dsimp -zeta only [x]); (on_goal 2 => clear_value x; intro _))
    | ((try lift_lets -underBinder); intro x; refine Keep.memSt (x := x) ?_; subst x)
    | ((try lift_lets -underBinder); intro x; refine Keep.depSt (x := x) ?_; subst x)
    | ((try lift_lets -underBinder); intro x; clear_value x)
    | (intro _)
    | with_reducible apply State.set_good
    | with_reducible apply State.showQueues_good
    | with_reducible apply State.ev_good
    | with_reducible apply State.err_good

theorem State.takeRules_good (tim : km.part .tim) (any : ∀ f, km.fld f) (s : State) (hs : s.Keeps km pq) : (s.takeRules).Keeps km pq := by
  unfold State.takeRules
  refine Keep.mk_iff.2 <| Keep.upd (s := s) hs rfl ?_
  and_intros <;> try first | exact .inl rfl | exact .inl ⟨rfl, rfl, rfl⟩ | exact Nat.le_refl _
  refine .inr ⟨any, fun _ => ?_⟩
  refine List.pairwise_append.2 ⟨List.pairwise_append.2 ⟨rise_filter _ hs.1, ?_, ?_⟩, rise_filter _ hs.1, ?_⟩
  · exact List.pairwise_map.2 (List.Pairwise.imp (fun h => Nat.add_lt_add_right h _) (rise_filter _ hs.1))
  · intro x hx y hy
    simp only [List.mem_filter, List.mem_map, Bool.and_eq_true, decide_eq_true_eq] at hx hy
    obtain ⟨z, hz, rfl⟩ := hy
    show x.1 < z.1 + 32768
    omega
  · intro x hx y hy
    simp only [List.mem_append, List.mem_filter, List.mem_map, Bool.and_eq_true, decide_eq_true_eq] at hx hy
    rcases hx with hx | ⟨z, hz, rfl⟩
    · omega
    · show z.1 + 32768 < y.1
      omega

theorem State.recheckJob_good (klc : km.part .klc) (s : State) (hs : s.Keeps km pq) : (State.recheckJob s).Keeps km pq := by
  unfold State.recheckJob
  repeat' first
    | with_reducible assumption
    | ((try lift_lets -underBinder); intro x; refine Keep.use (k := km) (q := pq) (s := x) ?_ ?_; (on_goal 1 => dsimp -zeta only [x]); (on_goal 2 => clear_value x; intro _))
    | ((try lift_lets -underBinder); intro x; refine Keep.usePair (k := km) (q := pq) (p := x) ?_ ?_; (on_goal 1 => dsimp -zeta only [x]); (on_goal 2 => clear_value x; intro _))
    | ((try lift_lets -underBinder); intro x; refine Keep.memSt (x := x) ?_; subst x)
    | ((try lift_lets -underBinder); intro x; refine Keep.depSt (x := x) ?_; subst x)
    | ((try lift_lets -underBinder); intro x; clear_value x)
    | (intro _)
    | with_reducible apply Keep.ite
    | split
    | (simp -zeta only [Keep.mk_iff]; with_reducible refine Keep.upd ?_ rfl ?_; on_goal 2 => (and_intros <;> with_reducible first | exact .inl rfl | exact .inl ⟨rfl, rfl, rfl⟩ | exact .inr ‹_› | exact Nat.le_refl _ | exact Nat.le_add_right _ _))

theorem State.ruleCommit_good (out : km.part .out) (tim : km.part .tim) (klc : km.part .klc) (any : ∀ f, km.fld f)
    (s : State) (hs : s.Keeps km pq) : (State.ruleCommit s).Keeps km pq := by
  unfold State.ruleCommit
  repeat' first
    | with_reducible assumption
    | (with_reducible (intros; exact any _))
    | ((try lift_lets -underBinder); intro x; refine Keep.use (k := km) (q := pq) (s := x) ?_ ?_; (on_goal 1 => dsimp -zeta only [x]); (on_goal 2 => clear_value x; intro _))
    | ((try lift_lets -underBinder); intro x; refine Keep.usePair (k := km) (q := pq) (p := x) ?_ ?_; (on_goal 1 => dsimp -zeta only [x]); (on_goal 2 => clear_value x; intro _))
    | ((try lift_lets -underBinder); intro x; refine Keep.memSt (x := x) ?_; subst x)
    | ((try lift_lets -underBinder); intro x; refine Keep.depSt (x := x) ?_; subst x)
    | ((try lift_lets -underBinder); intro x; clear_value x)
    | (intro _)
    | with_reducible apply Keep.ite
    | with_reducible apply State.ev_good
    | with_reducible apply State.err_good
    | with_reducible apply State.takeRules_good
    | with_reducible apply State.set_good
    | with_reducible apply State.recheckJob_good
    | with_reducible apply State.showOld_good

theorem State.ruleDone_good (out : km.part .out) (tim : km.part .tim) (hPG_EVT_PEND : ∀ a, km.fld (R.PG.EVT_PEND a))
    (hTEN_RULE_STAT_DRAINING : km.fld R.TEN.RULE_STAT.DRAINING) (hTEN_RULE_STAT_OLD : km.fld R.TEN.RULE_STAT.OLD)
    (hTIM_DOM_OFFSET_OFFSET : ∀ a, km.fld (R.TIM.DOM_OFFSET.OFFSET a))
    (hTIM_DOM_RATE_RATE : ∀ a, km.fld (R.TIM.DOM_RATE.RATE a)) (s : State) (hs : s.Keeps km pq) : (State.ruleDone s).Keeps km pq := by
  unfold State.ruleDone
  repeat' first
    | with_reducible assumption
    | with_reducible exact hPG_EVT_PEND _
    | with_reducible exact hTIM_DOM_OFFSET_OFFSET _
    | with_reducible exact hTIM_DOM_RATE_RATE _
    | ((try lift_lets -underBinder); intro x; refine Keep.use (k := km) (q := pq) (s := x) ?_ ?_; (on_goal 1 => dsimp -zeta only [x]); (on_goal 2 => clear_value x; intro _))
    | ((try lift_lets -underBinder); intro x; refine Keep.usePair (k := km) (q := pq) (p := x) ?_ ?_; (on_goal 1 => dsimp -zeta only [x]); (on_goal 2 => clear_value x; intro _))
    | ((try lift_lets -underBinder); intro x; refine Keep.memSt (x := x) ?_; subst x)
    | ((try lift_lets -underBinder); intro x; refine Keep.depSt (x := x) ?_; subst x)
    | ((try lift_lets -underBinder); intro x; clear_value x)
    | (intro _)
    | with_reducible apply Keep.ite
    | with_reducible apply State.showOld_good
    | with_reducible apply State.set_good
    | with_reducible apply State.ev_good

theorem State.queueReset_good (hQCX_Q_CTRL_EN : ∀ a, km.fld (R.QCX.Q_CTRL.EN a))
    (hQCX_Q_CTRL_IDLE : ∀ a, km.fld (R.QCX.Q_CTRL.IDLE a)) (hQCX_Q_FETCH_IDX : ∀ a, km.fld (R.QCX.Q_FETCH.IDX a))
    (hQCX_Q_HEAD_IDX : ∀ a, km.fld (R.QCX.Q_HEAD.IDX a))
    (hQCX_Q_INFLIGHT_COUNT : ∀ a, km.fld (R.QCX.Q_INFLIGHT.COUNT a))
    (hQCX_Q_TAIL_IDX : ∀ a, km.fld (R.QCX.Q_TAIL.IDX a)) (s : State) (q : Nat) (hs : s.Keeps km pq) : (State.queueReset s q).Keeps km pq := by
  unfold State.queueReset
  repeat' first
    | with_reducible assumption
    | with_reducible exact hQCX_Q_CTRL_EN _
    | with_reducible exact hQCX_Q_CTRL_IDLE _
    | with_reducible exact hQCX_Q_FETCH_IDX _
    | with_reducible exact hQCX_Q_HEAD_IDX _
    | with_reducible exact hQCX_Q_INFLIGHT_COUNT _
    | with_reducible exact hQCX_Q_TAIL_IDX _
    | ((try lift_lets -underBinder); intro x; refine Keep.use (k := km) (q := pq) (s := x) ?_ ?_; (on_goal 1 => dsimp -zeta only [x]); (on_goal 2 => clear_value x; intro _))
    | ((try lift_lets -underBinder); intro x; refine Keep.usePair (k := km) (q := pq) (p := x) ?_ ?_; (on_goal 1 => dsimp -zeta only [x]); (on_goal 2 => clear_value x; intro _))
    | ((try lift_lets -underBinder); intro x; refine Keep.memSt (x := x) ?_; subst x)
    | ((try lift_lets -underBinder); intro x; refine Keep.depSt (x := x) ?_; subst x)
    | ((try lift_lets -underBinder); intro x; clear_value x)
    | (intro _)
    | with_reducible apply State.set_good

theorem State.discardTxns_good (line : km.part .line) (s : State) (t p : Nat) (hs : s.Keeps km pq) : (State.discardTxns s t p).Keeps km pq := by
  unfold State.discardTxns
  repeat' first
    | with_reducible assumption
    | ((try lift_lets -underBinder); intro x; refine Keep.use (k := km) (q := pq) (s := x) ?_ ?_; (on_goal 1 => dsimp -zeta only [x]); (on_goal 2 => clear_value x; intro _))
    | ((try lift_lets -underBinder); intro x; refine Keep.usePair (k := km) (q := pq) (p := x) ?_ ?_; (on_goal 1 => dsimp -zeta only [x]); (on_goal 2 => clear_value x; intro _))
    | ((try lift_lets -underBinder); intro x; refine Keep.memSt (x := x) ?_; subst x)
    | ((try lift_lets -underBinder); intro x; refine Keep.depSt (x := x) ?_; subst x)
    | ((try lift_lets -underBinder); intro x; clear_value x)
    | (intro _)
    | with_reducible apply Keep.ite
    | with_reducible apply State.setLineTx_good

theorem State.tenantReset_good (out : km.part .out) (tim : km.part .tim) (line : km.part .line) (que : km.part .que)
    (mbx : km.part .mbx) (klc : km.part .klc) (hMBX_M_STAT_PEER_RESET : ∀ a b, km.fld (R.MBX.M_STAT.PEER_RESET a b))
    (hMBX_M_STAT_RX_COUNT : ∀ a b, km.fld (R.MBX.M_STAT.RX_COUNT a b))
    (hMBX_M_STAT_RX_POISON : ∀ a b, km.fld (R.MBX.M_STAT.RX_POISON a b))
    (hMBX_M_STAT_TX_INFLIGHT : ∀ a b, km.fld (R.MBX.M_STAT.TX_INFLIGHT a b))
    (hMBX_RX_DATA : ∀ a b c, km.fld (R.MBX.RX.DATA a b c)) (hPG_EVT_PEND : ∀ a, km.fld (R.PG.EVT_PEND a))
    (hQCX_Q_CTRL_EN : ∀ a, km.fld (R.QCX.Q_CTRL.EN a)) (hQCX_Q_CTRL_IDLE : ∀ a, km.fld (R.QCX.Q_CTRL.IDLE a))
    (hQCX_Q_FETCH_IDX : ∀ a, km.fld (R.QCX.Q_FETCH.IDX a)) (hQCX_Q_HEAD_IDX : ∀ a, km.fld (R.QCX.Q_HEAD.IDX a))
    (hQCX_Q_INFLIGHT_COUNT : ∀ a, km.fld (R.QCX.Q_INFLIGHT.COUNT a))
    (hQCX_Q_TAIL_IDX : ∀ a, km.fld (R.QCX.Q_TAIL.IDX a)) (hQUE_INFLIGHT_COUNT : km.fld R.QUE.INFLIGHT.COUNT)
    (hQUE_QUE_STAT_ENABLED : km.fld R.QUE.QUE_STAT.ENABLED)
    (hTIM_DOM_OFFSET_OFFSET : ∀ a, km.fld (R.TIM.DOM_OFFSET.OFFSET a))
    (hTIM_DOM_RATE_RATE : ∀ a, km.fld (R.TIM.DOM_RATE.RATE a)) (s : State) (t : Nat) (hs : s.Keeps km pq) : (State.tenantReset s t).Keeps km pq := by
  unfold State.tenantReset
  repeat' first
    | with_reducible assumption
    | with_reducible exact hMBX_M_STAT_PEER_RESET _ _
    | with_reducible exact hMBX_M_STAT_RX_COUNT _ _
    | with_reducible exact hMBX_M_STAT_RX_POISON _ _
    | with_reducible exact hMBX_M_STAT_TX_INFLIGHT _ _
    | with_reducible exact hMBX_RX_DATA _ _ _
    | with_reducible exact hPG_EVT_PEND _
    | with_reducible exact hQCX_Q_CTRL_EN _
    | with_reducible exact hQCX_Q_CTRL_IDLE _
    | with_reducible exact hQCX_Q_FETCH_IDX _
    | with_reducible exact hQCX_Q_HEAD_IDX _
    | with_reducible exact hQCX_Q_INFLIGHT_COUNT _
    | with_reducible exact hQCX_Q_TAIL_IDX _
    | with_reducible exact hTIM_DOM_OFFSET_OFFSET _
    | with_reducible exact hTIM_DOM_RATE_RATE _
    | ((try lift_lets -underBinder); intro x; refine Keep.use (k := km) (q := pq) (s := x) ?_ ?_; (on_goal 1 => dsimp -zeta only [x]); (on_goal 2 => clear_value x; intro _))
    | ((try lift_lets -underBinder); intro x; refine Keep.usePair (k := km) (q := pq) (p := x) ?_ ?_; (on_goal 1 => dsimp -zeta only [x]); (on_goal 2 => clear_value x; intro _))
    | ((try lift_lets -underBinder); intro x; refine Keep.memSt (x := x) ?_; subst x)
    | ((try lift_lets -underBinder); intro x; refine Keep.depSt (x := x) ?_; subst x)
    | ((try lift_lets -underBinder); intro x; clear_value x)
    | (intro _)
    | with_reducible apply Keep.ite
    | with_reducible apply State.filter_good
    | with_reducible apply State.discardTxns_good
    | with_reducible apply State.queueReset_good
    | with_reducible apply State.showQueues_good
    | with_reducible apply State.set_good
    | with_reducible apply State.mbxReset_good
    | with_reducible apply State.ev_good
    | split
    | (simp -zeta only [Keep.mk_iff]; with_reducible refine Keep.upd ?_ rfl ?_; on_goal 2 => (and_intros <;> with_reducible first | exact .inl rfl | exact .inl ⟨rfl, rfl, rfl⟩ | exact .inr ‹_› | exact Nat.le_refl _ | exact Nat.le_add_right _ _))
    | with_reducible apply Keep.foldl

theorem State.flr_good (out : km.part .out) (tim : km.part .tim) (line : km.part .line) (que : km.part .que)
    (mbx : km.part .mbx) (klc : km.part .klc) (hMBX_M_STAT_PEER_RESET : ∀ a b, km.fld (R.MBX.M_STAT.PEER_RESET a b))
    (hMBX_M_STAT_RX_COUNT : ∀ a b, km.fld (R.MBX.M_STAT.RX_COUNT a b))
    (hMBX_M_STAT_RX_POISON : ∀ a b, km.fld (R.MBX.M_STAT.RX_POISON a b))
    (hMBX_M_STAT_TX_INFLIGHT : ∀ a b, km.fld (R.MBX.M_STAT.TX_INFLIGHT a b))
    (hMBX_RX_DATA : ∀ a b c, km.fld (R.MBX.RX.DATA a b c)) (hPG_EVT_PEND : ∀ a, km.fld (R.PG.EVT_PEND a))
    (hQCX_Q_CTRL_EN : ∀ a, km.fld (R.QCX.Q_CTRL.EN a)) (hQCX_Q_CTRL_IDLE : ∀ a, km.fld (R.QCX.Q_CTRL.IDLE a))
    (hQCX_Q_FETCH_IDX : ∀ a, km.fld (R.QCX.Q_FETCH.IDX a)) (hQCX_Q_HEAD_IDX : ∀ a, km.fld (R.QCX.Q_HEAD.IDX a))
    (hQCX_Q_INFLIGHT_COUNT : ∀ a, km.fld (R.QCX.Q_INFLIGHT.COUNT a))
    (hQCX_Q_TAIL_IDX : ∀ a, km.fld (R.QCX.Q_TAIL.IDX a)) (hQUE_INFLIGHT_COUNT : km.fld R.QUE.INFLIGHT.COUNT)
    (hQUE_QUE_STAT_ENABLED : km.fld R.QUE.QUE_STAT.ENABLED)
    (hTIM_DOM_OFFSET_OFFSET : ∀ a, km.fld (R.TIM.DOM_OFFSET.OFFSET a))
    (hTIM_DOM_RATE_RATE : ∀ a, km.fld (R.TIM.DOM_RATE.RATE a)) (s : State) (t : Nat) (hs : s.Keeps km pq) : (State.flr s t).Keeps km pq := by
  unfold State.flr
  repeat' first
    | with_reducible assumption
    | with_reducible exact hMBX_M_STAT_PEER_RESET _ _
    | with_reducible exact hMBX_M_STAT_RX_COUNT _ _
    | with_reducible exact hMBX_M_STAT_RX_POISON _ _
    | with_reducible exact hMBX_M_STAT_TX_INFLIGHT _ _
    | with_reducible exact hMBX_RX_DATA _ _ _
    | with_reducible exact hPG_EVT_PEND _
    | with_reducible exact hQCX_Q_CTRL_EN _
    | with_reducible exact hQCX_Q_CTRL_IDLE _
    | with_reducible exact hQCX_Q_FETCH_IDX _
    | with_reducible exact hQCX_Q_HEAD_IDX _
    | with_reducible exact hQCX_Q_INFLIGHT_COUNT _
    | with_reducible exact hQCX_Q_TAIL_IDX _
    | with_reducible exact hTIM_DOM_OFFSET_OFFSET _
    | with_reducible exact hTIM_DOM_RATE_RATE _
    | ((try lift_lets -underBinder); intro x; refine Keep.use (k := km) (q := pq) (s := x) ?_ ?_; (on_goal 1 => dsimp -zeta only [x]); (on_goal 2 => clear_value x; intro _))
    | ((try lift_lets -underBinder); intro x; refine Keep.usePair (k := km) (q := pq) (p := x) ?_ ?_; (on_goal 1 => dsimp -zeta only [x]); (on_goal 2 => clear_value x; intro _))
    | ((try lift_lets -underBinder); intro x; refine Keep.memSt (x := x) ?_; subst x)
    | ((try lift_lets -underBinder); intro x; refine Keep.depSt (x := x) ?_; subst x)
    | ((try lift_lets -underBinder); intro x; clear_value x)
    | (intro _)
    | with_reducible apply Keep.ite
    | with_reducible apply State.forN_good
    | with_reducible apply State.tenantReset_good
    | (simp -zeta only [Keep.mk_iff]; with_reducible refine Keep.upd ?_ rfl ?_; on_goal 2 => (and_intros <;> with_reducible first | exact .inl rfl | exact .inl ⟨rfl, rfl, rfl⟩ | exact .inr ‹_› | exact Nat.le_refl _ | exact Nat.le_add_right _ _))

theorem State.testRun_good (out : km.part .out) (tim : km.part .tim) (dep : km.part .dep) (mem : km.part .mem)
    (dram : km.part .dram) (scn : km.part .scn) (cor : km.part .cor) (rai : km.part .rai) (lfm : km.part .lfm)
    (hkt : km.part .hkt) (line : km.part .line) (rdn : km.part .rdn) (que : km.part .que) (fwu : km.part .fwu)
    (any : ∀ f, km.fld f) (s : State) (id k : Nat) (hs : s.Keeps km pq) : (State.testRun s id k).Keeps km pq := by
  unfold State.testRun
  repeat' first
    | with_reducible assumption
    | (with_reducible (intros; exact any _))
    | ((try lift_lets -underBinder); intro x; refine Keep.use (k := km) (q := pq) (s := x) ?_ ?_; (on_goal 1 => dsimp -zeta only [x]); (on_goal 2 => clear_value x; intro _))
    | ((try lift_lets -underBinder); intro x; refine Keep.usePair (k := km) (q := pq) (p := x) ?_ ?_; (on_goal 1 => dsimp -zeta only [x]); (on_goal 2 => clear_value x; intro _))
    | ((try lift_lets -underBinder); intro x; refine Keep.memSt (x := x) ?_; subst x)
    | ((try lift_lets -underBinder); intro x; refine Keep.depSt (x := x) ?_; subst x)
    | ((try lift_lets -underBinder); intro x; clear_value x)
    | (intro _)
    | with_reducible apply Keep.ite
    | with_reducible apply State.set_good
    | with_reducible apply State.count_good
    | with_reducible apply State.forN_good
    | with_reducible apply State.bistGo_good
    | with_reducible apply State.portDown_good
    | (simp -zeta only [Keep.mk_iff]; with_reducible refine Keep.upd ?_ rfl ?_; on_goal 2 => (and_intros <;> with_reducible first | exact .inl rfl | exact .inl ⟨rfl, rfl, rfl⟩ | exact .inr ‹_› | exact Nat.le_refl _ | exact Nat.le_add_right _ _))

theorem State.testEnd_good (out : km.part .out) (que : km.part .que) (hPG_EVT_PEND : ∀ a, km.fld (R.PG.EVT_PEND a))
    (hQUE_TEST_DETAIL_DETAIL : km.fld R.QUE.TEST_DETAIL.DETAIL)
    (hQUE_TEST_STAT_RESULT : km.fld R.QUE.TEST_STAT.RESULT) (hQUE_TEST_STAT_STATE : km.fld R.QUE.TEST_STAT.STATE)
    (s : State) (result detail : Nat) (hs : s.Keeps km pq) : (State.testEnd s result detail).Keeps km pq := by
  unfold State.testEnd
  repeat' first
    | with_reducible assumption
    | with_reducible exact hPG_EVT_PEND _
    | ((try lift_lets -underBinder); intro x; refine Keep.use (k := km) (q := pq) (s := x) ?_ ?_; (on_goal 1 => dsimp -zeta only [x]); (on_goal 2 => clear_value x; intro _))
    | ((try lift_lets -underBinder); intro x; refine Keep.usePair (k := km) (q := pq) (p := x) ?_ ?_; (on_goal 1 => dsimp -zeta only [x]); (on_goal 2 => clear_value x; intro _))
    | ((try lift_lets -underBinder); intro x; refine Keep.memSt (x := x) ?_; subst x)
    | ((try lift_lets -underBinder); intro x; refine Keep.depSt (x := x) ?_; subst x)
    | ((try lift_lets -underBinder); intro x; clear_value x)
    | (intro _)
    | with_reducible apply State.set_good
    | with_reducible apply State.ev_good
    | (simp -zeta only [Keep.mk_iff]; with_reducible refine Keep.upd ?_ rfl ?_; on_goal 2 => (and_intros <;> with_reducible first | exact .inl rfl | exact .inl ⟨rfl, rfl, rfl⟩ | exact .inr ‹_› | exact Nat.le_refl _ | exact Nat.le_add_right _ _))

theorem State.testGo_good (out : km.part .out) (tim : km.part .tim) (dep : km.part .dep) (mem : km.part .mem)
    (dram : km.part .dram) (scn : km.part .scn) (cor : km.part .cor) (rai : km.part .rai) (lfm : km.part .lfm)
    (hkt : km.part .hkt) (line : km.part .line) (rdn : km.part .rdn) (que : km.part .que) (fwu : km.part .fwu)
    (any : ∀ f, km.fld f) (s : State) (hs : s.Keeps km pq) : (State.testGo s).Keeps km pq := by
  unfold State.testGo
  repeat' first
    | with_reducible assumption
    | (with_reducible (intros; exact any _))
    | ((try lift_lets -underBinder); intro x; refine Keep.use (k := km) (q := pq) (s := x) ?_ ?_; (on_goal 1 => dsimp -zeta only [x]); (on_goal 2 => clear_value x; intro _))
    | ((try lift_lets -underBinder); intro x; refine Keep.usePair (k := km) (q := pq) (p := x) ?_ ?_; (on_goal 1 => dsimp -zeta only [x]); (on_goal 2 => clear_value x; intro _))
    | ((try lift_lets -underBinder); intro x; refine Keep.memSt (x := x) ?_; subst x)
    | ((try lift_lets -underBinder); intro x; refine Keep.depSt (x := x) ?_; subst x)
    | ((try lift_lets -underBinder); intro x; clear_value x)
    | (intro _)
    | with_reducible apply Keep.ite
    | with_reducible apply State.set_good
    | with_reducible apply State.testRun_good
    | with_reducible apply State.err_good
    | with_reducible apply State.testEnd_good
    | (simp -zeta only [Keep.mk_iff]; with_reducible refine Keep.upd ?_ rfl ?_; on_goal 2 => (and_intros <;> with_reducible first | exact .inl rfl | exact .inl ⟨rfl, rfl, rfl⟩ | exact .inr ‹_› | exact Nat.le_refl _ | exact Nat.le_add_right _ _))

theorem State.testStop_good (out : km.part .out) (tim : km.part .tim) (dep : km.part .dep) (mem : km.part .mem)
    (dram : km.part .dram) (scn : km.part .scn) (cor : km.part .cor) (rai : km.part .rai) (lfm : km.part .lfm)
    (hkt : km.part .hkt) (line : km.part .line) (rdn : km.part .rdn) (que : km.part .que) (fwu : km.part .fwu)
    (any : ∀ f, km.fld f) (s : State) (id k : Nat) (hs : s.Keeps km pq) : (State.testStop s id k).Keeps km pq := by
  unfold State.testStop
  repeat' first
    | with_reducible assumption
    | (with_reducible (intros; exact any _))
    | ((try lift_lets -underBinder); intro x; refine Keep.use (k := km) (q := pq) (s := x) ?_ ?_; (on_goal 1 => dsimp -zeta only [x]); (on_goal 2 => clear_value x; intro _))
    | ((try lift_lets -underBinder); intro x; refine Keep.usePair (k := km) (q := pq) (p := x) ?_ ?_; (on_goal 1 => dsimp -zeta only [x]); (on_goal 2 => clear_value x; intro _))
    | ((try lift_lets -underBinder); intro x; refine Keep.memSt (x := x) ?_; subst x)
    | ((try lift_lets -underBinder); intro x; refine Keep.depSt (x := x) ?_; subst x)
    | ((try lift_lets -underBinder); intro x; clear_value x)
    | (intro _)
    | with_reducible apply Keep.ite
    | with_reducible apply State.portThaw_good
    | (simp -zeta only [Keep.mk_iff]; with_reducible refine Keep.upd ?_ rfl ?_; on_goal 2 => (and_intros <;> with_reducible first | exact .inl rfl | exact .inl ⟨rfl, rfl, rfl⟩ | exact .inr ‹_› | exact Nat.le_refl _ | exact Nat.le_add_right _ _))

theorem State.testDone_good (out : km.part .out) (tim : km.part .tim) (dep : km.part .dep) (mem : km.part .mem)
    (dram : km.part .dram) (scn : km.part .scn) (cor : km.part .cor) (rai : km.part .rai) (lfm : km.part .lfm)
    (hkt : km.part .hkt) (line : km.part .line) (rdn : km.part .rdn) (que : km.part .que) (fwu : km.part .fwu)
    (any : ∀ f, km.fld f) (s : State) (result detail : Nat) (hs : s.Keeps km pq) : (State.testDone s result detail).Keeps km pq := by
  unfold State.testDone
  repeat' first
    | with_reducible assumption
    | (with_reducible (intros; exact any _))
    | ((try lift_lets -underBinder); intro x; refine Keep.use (k := km) (q := pq) (s := x) ?_ ?_; (on_goal 1 => dsimp -zeta only [x]); (on_goal 2 => clear_value x; intro _))
    | ((try lift_lets -underBinder); intro x; refine Keep.usePair (k := km) (q := pq) (p := x) ?_ ?_; (on_goal 1 => dsimp -zeta only [x]); (on_goal 2 => clear_value x; intro _))
    | ((try lift_lets -underBinder); intro x; refine Keep.memSt (x := x) ?_; subst x)
    | ((try lift_lets -underBinder); intro x; refine Keep.depSt (x := x) ?_; subst x)
    | ((try lift_lets -underBinder); intro x; clear_value x)
    | (intro _)
    | with_reducible apply Keep.ite
    | with_reducible apply State.testStop_good
    | with_reducible apply State.set_good
    | with_reducible apply State.testEnd_good
    | split

theorem State.testResume_good (out : km.part .out) (tim : km.part .tim) (dep : km.part .dep) (mem : km.part .mem)
    (dram : km.part .dram) (scn : km.part .scn) (cor : km.part .cor) (rai : km.part .rai) (lfm : km.part .lfm)
    (hkt : km.part .hkt) (line : km.part .line) (rdn : km.part .rdn) (que : km.part .que) (fwu : km.part .fwu)
    (any : ∀ f, km.fld f) (s : State) (hs : s.Keeps km pq) : (State.testResume s).Keeps km pq := by
  unfold State.testResume
  repeat' first
    | with_reducible assumption
    | (with_reducible (intros; exact any _))
    | ((try lift_lets -underBinder); intro x; refine Keep.use (k := km) (q := pq) (s := x) ?_ ?_; (on_goal 1 => dsimp -zeta only [x]); (on_goal 2 => clear_value x; intro _))
    | ((try lift_lets -underBinder); intro x; refine Keep.usePair (k := km) (q := pq) (p := x) ?_ ?_; (on_goal 1 => dsimp -zeta only [x]); (on_goal 2 => clear_value x; intro _))
    | ((try lift_lets -underBinder); intro x; refine Keep.memSt (x := x) ?_; subst x)
    | ((try lift_lets -underBinder); intro x; refine Keep.depSt (x := x) ?_; subst x)
    | ((try lift_lets -underBinder); intro x; clear_value x)
    | (intro _)
    | with_reducible apply Keep.ite
    | with_reducible apply State.testRun_good
    | split
    | (simp -zeta only [Keep.mk_iff]; with_reducible refine Keep.upd ?_ rfl ?_; on_goal 2 => (and_intros <;> with_reducible first | exact .inl rfl | exact .inl ⟨rfl, rfl, rfl⟩ | exact .inr ‹_› | exact Nat.le_refl _ | exact Nat.le_add_right _ _))

theorem execQueueDisable_good (frc : km.part .frc) (out : km.part .out) (tim : km.part .tim) (line : km.part .line)
    (que : km.part .que) (hPG_ERR_ADDR_HI : ∀ a, km.fld (R.PG.ERR_ADDR_HI a))
    (hPG_ERR_ADDR_LO : ∀ a, km.fld (R.PG.ERR_ADDR_LO a)) (hPG_ERR_CODE : ∀ a, km.fld (R.PG.ERR_CODE a))
    (hPG_ERR_COUNT : ∀ a, km.fld (R.PG.ERR_COUNT a)) (hPG_ERR_OVERFLOW : ∀ a, km.fld (R.PG.ERR_OVERFLOW a))
    (hPG_ERR_SOURCE : ∀ a, km.fld (R.PG.ERR_SOURCE a)) (hPG_ERR_VALID : ∀ a, km.fld (R.PG.ERR_VALID a))
    (hPG_EVT_PEND : ∀ a, km.fld (R.PG.EVT_PEND a)) (hPG_POISON_SEEN : ∀ a, km.fld (R.PG.POISON_SEEN a))
    (hQCX_Q_CTRL_EN : ∀ a, km.fld (R.QCX.Q_CTRL.EN a)) (hQCX_Q_CTRL_IDLE : ∀ a, km.fld (R.QCX.Q_CTRL.IDLE a))
    (hQCX_Q_DONE_CNT_COUNT : ∀ a, km.fld (R.QCX.Q_DONE_CNT.COUNT a))
    (hQCX_Q_HEAD_IDX : ∀ a, km.fld (R.QCX.Q_HEAD.IDX a))
    (hQCX_Q_INFLIGHT_COUNT : ∀ a, km.fld (R.QCX.Q_INFLIGHT.COUNT a))
    (hQUE_DESC_ERR_COUNT : km.fld R.QUE.DESC_ERR.COUNT) (hQUE_INFLIGHT_COUNT : km.fld R.QUE.INFLIGHT.COUNT)
    (hQUE_QUE_STAT_ENABLED : km.fld R.QUE.QUE_STAT.ENABLED)
    (hTEN_REVOKED_CNT_COUNT : ∀ a, km.fld (R.TEN.REVOKED_CNT.COUNT a))
    (hTIM_DOM_OFFSET_OFFSET : ∀ a, km.fld (R.TIM.DOM_OFFSET.OFFSET a))
    (hTIM_DOM_RATE_RATE : ∀ a, km.fld (R.TIM.DOM_RATE.RATE a)) (q t : Nat) (s : State) (hs : s.Keeps km pq) : ∀ st, execQueueDisable q t s = .next st → st.Keeps km pq := by
  unfold execQueueDisable
  refine runIn_good hs (fun s hs => ?_)
  repeat' first
    | with_reducible assumption
    | with_reducible exact hPG_ERR_ADDR_HI _
    | with_reducible exact hPG_ERR_ADDR_LO _
    | with_reducible exact hPG_ERR_CODE _
    | with_reducible exact hPG_ERR_COUNT _
    | with_reducible exact hPG_ERR_OVERFLOW _
    | with_reducible exact hPG_ERR_SOURCE _
    | with_reducible exact hPG_ERR_VALID _
    | with_reducible exact hPG_EVT_PEND _
    | with_reducible exact hPG_POISON_SEEN _
    | with_reducible exact hQCX_Q_CTRL_EN _
    | with_reducible exact hQCX_Q_CTRL_IDLE _
    | with_reducible exact hQCX_Q_DONE_CNT_COUNT _
    | with_reducible exact hQCX_Q_HEAD_IDX _
    | with_reducible exact hQCX_Q_INFLIGHT_COUNT _
    | with_reducible exact hTEN_REVOKED_CNT_COUNT _
    | with_reducible exact hTIM_DOM_OFFSET_OFFSET _
    | with_reducible exact hTIM_DOM_RATE_RATE _
    | (intro _)
    | with_reducible apply State.tick_good
    | with_reducible apply State.queueDisable_good

theorem execRuleCommit_good (frc : km.part .frc) (out : km.part .out) (tim : km.part .tim) (klc : km.part .klc)
    (any : ∀ f, km.fld f) (t : Nat) (s : State) (hs : s.Keeps km pq) : ∀ st, execRuleCommit t s = .next st → st.Keeps km pq := by
  unfold execRuleCommit
  refine runIn_good hs (fun s hs => ?_)
  repeat' first
    | with_reducible assumption
    | (with_reducible (intros; exact any _))
    | (intro _)
    | with_reducible apply State.tick_good
    | with_reducible apply State.ruleCommit_good

theorem execRuleDone_good (frc : km.part .frc) (out : km.part .out) (tim : km.part .tim)
    (hPG_EVT_PEND : ∀ a, km.fld (R.PG.EVT_PEND a)) (hTEN_RULE_STAT_DRAINING : km.fld R.TEN.RULE_STAT.DRAINING)
    (hTEN_RULE_STAT_OLD : km.fld R.TEN.RULE_STAT.OLD)
    (hTIM_DOM_OFFSET_OFFSET : ∀ a, km.fld (R.TIM.DOM_OFFSET.OFFSET a))
    (hTIM_DOM_RATE_RATE : ∀ a, km.fld (R.TIM.DOM_RATE.RATE a)) (t : Nat) (s : State) (hs : s.Keeps km pq) : ∀ st, execRuleDone t s = .next st → st.Keeps km pq := by
  unfold execRuleDone
  refine runIn_good hs (fun s hs => ?_)
  repeat' first
    | with_reducible assumption
    | with_reducible exact hPG_EVT_PEND _
    | with_reducible exact hTIM_DOM_OFFSET_OFFSET _
    | with_reducible exact hTIM_DOM_RATE_RATE _
    | (intro _)
    | with_reducible apply State.tick_good
    | with_reducible apply State.ruleDone_good

theorem execFlr_good (frc : km.part .frc) (out : km.part .out) (tim : km.part .tim) (line : km.part .line)
    (que : km.part .que) (mbx : km.part .mbx) (klc : km.part .klc)
    (hMBX_M_STAT_PEER_RESET : ∀ a b, km.fld (R.MBX.M_STAT.PEER_RESET a b))
    (hMBX_M_STAT_RX_COUNT : ∀ a b, km.fld (R.MBX.M_STAT.RX_COUNT a b))
    (hMBX_M_STAT_RX_POISON : ∀ a b, km.fld (R.MBX.M_STAT.RX_POISON a b))
    (hMBX_M_STAT_TX_INFLIGHT : ∀ a b, km.fld (R.MBX.M_STAT.TX_INFLIGHT a b))
    (hMBX_RX_DATA : ∀ a b c, km.fld (R.MBX.RX.DATA a b c)) (hPG_EVT_PEND : ∀ a, km.fld (R.PG.EVT_PEND a))
    (hQCX_Q_CTRL_EN : ∀ a, km.fld (R.QCX.Q_CTRL.EN a)) (hQCX_Q_CTRL_IDLE : ∀ a, km.fld (R.QCX.Q_CTRL.IDLE a))
    (hQCX_Q_FETCH_IDX : ∀ a, km.fld (R.QCX.Q_FETCH.IDX a)) (hQCX_Q_HEAD_IDX : ∀ a, km.fld (R.QCX.Q_HEAD.IDX a))
    (hQCX_Q_INFLIGHT_COUNT : ∀ a, km.fld (R.QCX.Q_INFLIGHT.COUNT a))
    (hQCX_Q_TAIL_IDX : ∀ a, km.fld (R.QCX.Q_TAIL.IDX a)) (hQUE_INFLIGHT_COUNT : km.fld R.QUE.INFLIGHT.COUNT)
    (hQUE_QUE_STAT_ENABLED : km.fld R.QUE.QUE_STAT.ENABLED)
    (hTIM_DOM_OFFSET_OFFSET : ∀ a, km.fld (R.TIM.DOM_OFFSET.OFFSET a))
    (hTIM_DOM_RATE_RATE : ∀ a, km.fld (R.TIM.DOM_RATE.RATE a)) (f t : Nat) (s : State) (hs : s.Keeps km pq) : ∀ st, execFlr f t s = .next st → st.Keeps km pq := by
  unfold execFlr
  refine runIn_good hs (fun s hs => ?_)
  repeat' first
    | with_reducible assumption
    | with_reducible exact hMBX_M_STAT_PEER_RESET _ _
    | with_reducible exact hMBX_M_STAT_RX_COUNT _ _
    | with_reducible exact hMBX_M_STAT_RX_POISON _ _
    | with_reducible exact hMBX_M_STAT_TX_INFLIGHT _ _
    | with_reducible exact hMBX_RX_DATA _ _ _
    | with_reducible exact hPG_EVT_PEND _
    | with_reducible exact hQCX_Q_CTRL_EN _
    | with_reducible exact hQCX_Q_CTRL_IDLE _
    | with_reducible exact hQCX_Q_FETCH_IDX _
    | with_reducible exact hQCX_Q_HEAD_IDX _
    | with_reducible exact hQCX_Q_INFLIGHT_COUNT _
    | with_reducible exact hQCX_Q_TAIL_IDX _
    | with_reducible exact hTIM_DOM_OFFSET_OFFSET _
    | with_reducible exact hTIM_DOM_RATE_RATE _
    | (intro _)
    | with_reducible apply State.tick_good
    | with_reducible apply State.flr_good

theorem execPerstN_good (frc : km.part .frc) (out : km.part .out) (tim : km.part .tim) (line : km.part .line)
    (que : km.part .que) (mbx : km.part .mbx) (klc : km.part .klc)
    (hMBX_M_STAT_PEER_RESET : ∀ a b, km.fld (R.MBX.M_STAT.PEER_RESET a b))
    (hMBX_M_STAT_RX_COUNT : ∀ a b, km.fld (R.MBX.M_STAT.RX_COUNT a b))
    (hMBX_M_STAT_RX_POISON : ∀ a b, km.fld (R.MBX.M_STAT.RX_POISON a b))
    (hMBX_M_STAT_TX_INFLIGHT : ∀ a b, km.fld (R.MBX.M_STAT.TX_INFLIGHT a b))
    (hMBX_RX_DATA : ∀ a b c, km.fld (R.MBX.RX.DATA a b c)) (hPG_EVT_PEND : ∀ a, km.fld (R.PG.EVT_PEND a))
    (hQCX_Q_CTRL_EN : ∀ a, km.fld (R.QCX.Q_CTRL.EN a)) (hQCX_Q_CTRL_IDLE : ∀ a, km.fld (R.QCX.Q_CTRL.IDLE a))
    (hQCX_Q_FETCH_IDX : ∀ a, km.fld (R.QCX.Q_FETCH.IDX a)) (hQCX_Q_HEAD_IDX : ∀ a, km.fld (R.QCX.Q_HEAD.IDX a))
    (hQCX_Q_INFLIGHT_COUNT : ∀ a, km.fld (R.QCX.Q_INFLIGHT.COUNT a))
    (hQCX_Q_TAIL_IDX : ∀ a, km.fld (R.QCX.Q_TAIL.IDX a)) (hQUE_INFLIGHT_COUNT : km.fld R.QUE.INFLIGHT.COUNT)
    (hQUE_QUE_STAT_ENABLED : km.fld R.QUE.QUE_STAT.ENABLED)
    (hTIM_DOM_OFFSET_OFFSET : ∀ a, km.fld (R.TIM.DOM_OFFSET.OFFSET a))
    (hTIM_DOM_RATE_RATE : ∀ a, km.fld (R.TIM.DOM_RATE.RATE a)) (t : Nat) (s : State) (hs : s.Keeps km pq) : ∀ st, execPerstN t s = .next st → st.Keeps km pq := by
  unfold execPerstN
  refine runIn_good hs (fun s hs => ?_)
  repeat' first
    | with_reducible assumption
    | with_reducible exact hMBX_M_STAT_PEER_RESET _ _
    | with_reducible exact hMBX_M_STAT_RX_COUNT _ _
    | with_reducible exact hMBX_M_STAT_RX_POISON _ _
    | with_reducible exact hMBX_M_STAT_TX_INFLIGHT _ _
    | with_reducible exact hMBX_RX_DATA _ _ _
    | with_reducible exact hPG_EVT_PEND _
    | with_reducible exact hQCX_Q_CTRL_EN _
    | with_reducible exact hQCX_Q_CTRL_IDLE _
    | with_reducible exact hQCX_Q_FETCH_IDX _
    | with_reducible exact hQCX_Q_HEAD_IDX _
    | with_reducible exact hQCX_Q_INFLIGHT_COUNT _
    | with_reducible exact hQCX_Q_TAIL_IDX _
    | with_reducible exact hTIM_DOM_OFFSET_OFFSET _
    | with_reducible exact hTIM_DOM_RATE_RATE _
    | (intro _)
    | with_reducible apply State.tick_good
    | with_reducible apply State.flr_good

theorem execSendMessage_good (frc : km.part .frc) (out : km.part .out) (tim : km.part .tim) (line : km.part .line)
    (mbx : km.part .mbx) (hMBX_M_REFUSED_COUNT : ∀ a b, km.fld (R.MBX.M_REFUSED.COUNT a b))
    (hMBX_M_STAT_RX_COUNT : ∀ a b, km.fld (R.MBX.M_STAT.RX_COUNT a b))
    (hMBX_M_STAT_RX_POISON : ∀ a b, km.fld (R.MBX.M_STAT.RX_POISON a b))
    (hMBX_M_STAT_TX_FULL : ∀ a b, km.fld (R.MBX.M_STAT.TX_FULL a b))
    (hMBX_M_STAT_TX_INFLIGHT : ∀ a b, km.fld (R.MBX.M_STAT.TX_INFLIGHT a b))
    (hMBX_RX_DATA : ∀ a b c, km.fld (R.MBX.RX.DATA a b c)) (hPG_EVT_PEND : ∀ a, km.fld (R.PG.EVT_PEND a))
    (hTIM_DOM_OFFSET_OFFSET : ∀ a, km.fld (R.TIM.DOM_OFFSET.OFFSET a))
    (hTIM_DOM_RATE_RATE : ∀ a, km.fld (R.TIM.DOM_RATE.RATE a)) (c k t : Nat) (s : State) (hs : s.Keeps km pq) : ∀ st, execSendMessage c k t s = .next st → st.Keeps km pq := by
  unfold execSendMessage
  refine run_good hs (fun s hs => ?_)
  repeat' first
    | with_reducible assumption
    | with_reducible exact hMBX_M_REFUSED_COUNT _ _
    | with_reducible exact hMBX_M_STAT_RX_COUNT _ _
    | with_reducible exact hMBX_M_STAT_RX_POISON _ _
    | with_reducible exact hMBX_M_STAT_TX_FULL _ _
    | with_reducible exact hMBX_M_STAT_TX_INFLIGHT _ _
    | with_reducible exact hMBX_RX_DATA _ _ _
    | with_reducible exact hPG_EVT_PEND _
    | with_reducible exact hTIM_DOM_OFFSET_OFFSET _
    | with_reducible exact hTIM_DOM_RATE_RATE _
    | (intro _)
    | with_reducible apply State.tick_good
    | with_reducible apply State.mbxSendRelay_good

theorem execTestGo_good (frc : km.part .frc) (out : km.part .out) (tim : km.part .tim) (dep : km.part .dep)
    (mem : km.part .mem) (dram : km.part .dram) (scn : km.part .scn) (cor : km.part .cor) (rai : km.part .rai)
    (lfm : km.part .lfm) (hkt : km.part .hkt) (line : km.part .line) (rdn : km.part .rdn) (que : km.part .que)
    (fwu : km.part .fwu) (any : ∀ f, km.fld f) (id target retries t : Nat) (s : State) (hs : s.Keeps km pq) : ∀ st, execTestGo id target retries t s = .next st → st.Keeps km pq := by
  unfold execTestGo
  refine run_good hs (fun s hs => ?_)
  repeat' first
    | with_reducible assumption
    | (with_reducible (intros; exact any _))
    | ((try lift_lets -underBinder); intro x; refine Keep.use (k := km) (q := pq) (s := x) ?_ ?_; (on_goal 1 => dsimp -zeta only [x]); (on_goal 2 => clear_value x; intro _))
    | ((try lift_lets -underBinder); intro x; refine Keep.usePair (k := km) (q := pq) (p := x) ?_ ?_; (on_goal 1 => dsimp -zeta only [x]); (on_goal 2 => clear_value x; intro _))
    | ((try lift_lets -underBinder); intro x; refine Keep.memSt (x := x) ?_; subst x)
    | ((try lift_lets -underBinder); intro x; refine Keep.depSt (x := x) ?_; subst x)
    | ((try lift_lets -underBinder); intro x; clear_value x)
    | (intro _)
    | with_reducible apply State.tick_good
    | with_reducible apply State.set_good
    | with_reducible apply State.testGo_good

theorem execTestDone_good (frc : km.part .frc) (out : km.part .out) (tim : km.part .tim) (dep : km.part .dep)
    (mem : km.part .mem) (dram : km.part .dram) (scn : km.part .scn) (cor : km.part .cor) (rai : km.part .rai)
    (lfm : km.part .lfm) (hkt : km.part .hkt) (line : km.part .line) (rdn : km.part .rdn) (que : km.part .que)
    (fwu : km.part .fwu) (any : ∀ f, km.fld f) (result detail t : Nat) (s : State) (hs : s.Keeps km pq) : ∀ st, execTestDone result detail t s = .next st → st.Keeps km pq := by
  unfold execTestDone
  refine run_good hs (fun s hs => ?_)
  repeat' first
    | with_reducible assumption
    | (with_reducible (intros; exact any _))
    | (intro _)
    | with_reducible apply State.tick_good
    | with_reducible apply State.testDone_good

theorem execTestResume_good (frc : km.part .frc) (out : km.part .out) (tim : km.part .tim) (dep : km.part .dep)
    (mem : km.part .mem) (dram : km.part .dram) (scn : km.part .scn) (cor : km.part .cor) (rai : km.part .rai)
    (lfm : km.part .lfm) (hkt : km.part .hkt) (line : km.part .line) (rdn : km.part .rdn) (que : km.part .que)
    (fwu : km.part .fwu) (any : ∀ f, km.fld f) (t : Nat) (s : State) (hs : s.Keeps km pq) : ∀ st, execTestResume t s = .next st → st.Keeps km pq := by
  unfold execTestResume
  refine run_good hs (fun s hs => ?_)
  repeat' first
    | with_reducible assumption
    | (with_reducible (intros; exact any _))
    | (intro _)
    | with_reducible apply State.tick_good
    | with_reducible apply State.testResume_good

end Sys2Proof.Machine
end

