-- ==== Sys2Proof/Laws/KeepsPage.lean ====
section
/-!
SUPPORT. Every function of Machine/Page.lean changes what the hypotheses of its lemma name, and nothing else.
-/
namespace Sys2Proof.Machine
set_option Elab.async false
set_option linter.unusedVariables false
set_option linter.unusedTactic false
set_option linter.unreachableTactic false

variable {km : May} {pq : State}

theorem State.header_good (s : State) (b : Nat) (f : State → State) (hs : s.Keeps km pq)
    (hf : ∀ s, s.Keeps km pq → (f s).Keeps km pq) : (State.header s b f).Keeps km pq := by
  unfold State.header
  repeat' first
    | with_reducible assumption
    | (intro _)
    | with_reducible apply Keep.ite
    | with_reducible apply hf

theorem State.resignal_good (out : km.part .out) (s : State) (b : Nat) (hs : s.Keeps km pq) : (State.resignal s b).Keeps km pq := by
  unfold State.resignal
  repeat' first
    | with_reducible assumption
    | (intro _)
    | with_reducible apply Keep.ite
    | with_reducible apply State.signalSide_good
    | with_reducible apply Keep.foldl

theorem State.evtClear_good (out : km.part .out) (hPG_EVT_PEND : ∀ a, km.fld (R.PG.EVT_PEND a)) (s : State)
    (b m : Nat) (hs : s.Keeps km pq) : (State.evtClear s b m).Keeps km pq := by
  unfold State.evtClear
  repeat' first
    | with_reducible assumption
    | with_reducible exact hPG_EVT_PEND _
    | ((try lift_lets -underBinder); intro x; refine Keep.use (k := km) (q := pq) (s := x) ?_ ?_; (on_goal 1 => dsimp -zeta only [x]); (on_goal 2 => clear_value x; intro _))
    | ((try lift_lets -underBinder); intro x; refine Keep.usePair (k := km) (q := pq) (p := x) ?_ ?_; (on_goal 1 => dsimp -zeta only [x]); (on_goal 2 => clear_value x; intro _))
    | ((try lift_lets -underBinder); intro x; refine Keep.memSt (x := x) ?_; subst x)
    | ((try lift_lets -underBinder); intro x; refine Keep.depSt (x := x) ?_; subst x)
    | ((try lift_lets -underBinder); intro x; clear_value x)
    | (intro _)
    | with_reducible apply State.set_good
    | with_reducible apply State.resignal_good

theorem State.evtSet_good (out : km.part .out) (hPG_EVT_PEND : ∀ a, km.fld (R.PG.EVT_PEND a)) (s : State) (b m : Nat)
    (hs : s.Keeps km pq) : (State.evtSet s b m).Keeps km pq := by
  unfold State.evtSet
  repeat' first
    | with_reducible assumption
    | with_reducible exact hPG_EVT_PEND _
    | (intro _)
    | with_reducible apply State.pendBits_good

theorem State.evtEn_good (out : km.part .out) (hPG_EVT_EN : ∀ a, km.fld (R.PG.EVT_EN a)) (s : State) (b v : Nat)
    (hs : s.Keeps km pq) : (State.evtEn s b v).Keeps km pq := by
  unfold State.evtEn
  repeat' first
    | with_reducible assumption
    | with_reducible exact hPG_EVT_EN _
    | (intro _)
    | with_reducible apply State.set_good
    | with_reducible apply State.resignal_good

theorem State.pageEnable_good (out : km.part .out) (tim : km.part .tim) (dep : km.part .dep) (mem : km.part .mem)
    (dram : km.part .dram) (scn : km.part .scn) (cor : km.part .cor) (rai : km.part .rai) (lfm : km.part .lfm)
    (line : km.part .line) (rdn : km.part .rdn) (que : km.part .que) (any : ∀ f, km.fld f) (s : State) (b : Nat)
    (hs : s.Keeps km pq) : (State.pageEnable s b).Keeps km pq := by
  unfold State.pageEnable
  repeat' first
    | with_reducible assumption
    | (with_reducible (intros; exact any _))
    | ((try lift_lets -underBinder); intro x; refine Keep.use (k := km) (q := pq) (s := x) ?_ ?_; (on_goal 1 => dsimp -zeta only [x]); (on_goal 2 => clear_value x; intro _))
    | ((try lift_lets -underBinder); intro x; refine Keep.usePair (k := km) (q := pq) (p := x) ?_ ?_; (on_goal 1 => dsimp -zeta only [x]); (on_goal 2 => clear_value x; intro _))
    | ((try lift_lets -underBinder); intro x; refine Keep.memSt (x := x) ?_; subst x)
    | ((try lift_lets -underBinder); intro x; refine Keep.depSt (x := x) ?_; subst x)
    | ((try lift_lets -underBinder); intro x; clear_value x)
    | (intro _)
    | with_reducible apply Keep.ite
    | with_reducible apply State.set_good
    | with_reducible apply State.portEnable_good
    | with_reducible apply State.memEnable_good
    | with_reducible apply State.forN_good
    | with_reducible apply State.railEval_good
    | split
    | (simp -zeta only [Keep.mk_iff]; with_reducible refine Keep.upd ?_ rfl ?_; on_goal 2 => (and_intros <;> with_reducible first | exact .inl rfl | exact .inl ⟨rfl, rfl, rfl⟩ | exact .inr ‹_› | exact Nat.le_refl _ | exact Nat.le_add_right _ _))

theorem State.pageDisable_good (out : km.part .out) (tim : km.part .tim) (dep : km.part .dep) (mem : km.part .mem)
    (dram : km.part .dram) (scn : km.part .scn) (cor : km.part .cor) (rai : km.part .rai) (lfm : km.part .lfm)
    (line : km.part .line) (rdn : km.part .rdn) (que : km.part .que) (fwu : km.part .fwu) (any : ∀ f, km.fld f)
    (s : State) (b : Nat) (hs : s.Keeps km pq) : (State.pageDisable s b).Keeps km pq := by
  unfold State.pageDisable
  repeat' first
    | with_reducible assumption
    | (with_reducible (intros; exact any _))
    | ((try lift_lets -underBinder); intro x; refine Keep.use (k := km) (q := pq) (s := x) ?_ ?_; (on_goal 1 => dsimp -zeta only [x]); (on_goal 2 => clear_value x; intro _))
    | ((try lift_lets -underBinder); intro x; refine Keep.usePair (k := km) (q := pq) (p := x) ?_ ?_; (on_goal 1 => dsimp -zeta only [x]); (on_goal 2 => clear_value x; intro _))
    | ((try lift_lets -underBinder); intro x; refine Keep.memSt (x := x) ?_; subst x)
    | ((try lift_lets -underBinder); intro x; refine Keep.depSt (x := x) ?_; subst x)
    | ((try lift_lets -underBinder); intro x; clear_value x)
    | (intro _)
    | with_reducible apply State.set_good
    | with_reducible apply State.portDisable_good
    | with_reducible apply State.forN_good
    | with_reducible apply State.railEval_good
    | with_reducible apply State.dropLoads_good
    | split
    | (simp -zeta only [Keep.mk_iff]; with_reducible refine Keep.upd ?_ rfl ?_; on_goal 2 => (and_intros <;> with_reducible first | exact .inl rfl | exact .inl ⟨rfl, rfl, rfl⟩ | exact .inr ‹_› | exact Nat.le_refl _ | exact Nat.le_add_right _ _))

theorem State.writeEn_good (out : km.part .out) (tim : km.part .tim) (dep : km.part .dep) (mem : km.part .mem)
    (dram : km.part .dram) (scn : km.part .scn) (cor : km.part .cor) (rai : km.part .rai) (lfm : km.part .lfm)
    (line : km.part .line) (rdn : km.part .rdn) (que : km.part .que) (fwu : km.part .fwu) (any : ∀ f, km.fld f)
    (s : State) (b v : Nat) (hs : s.Keeps km pq) : (State.writeEn s b v).Keeps km pq := by
  unfold State.writeEn
  repeat' first
    | with_reducible assumption
    | (with_reducible (intros; exact any _))
    | (intro _)
    | with_reducible apply Keep.ite
    | with_reducible apply State.pageEnable_good
    | with_reducible apply State.pageDisable_good

theorem State.commitArm_good (out : km.part .out) (map : km.part .map) (cmp : km.part .cmp) (scn : km.part .scn)
    (line : km.part .line) (hDEP_MODE_CHECK_DEP_PENDING : km.fld R.DEP.MODE_CHECK.DEP_PENDING)
    (hDEP_MODE_CHECK_EPOCH_PENDING : km.fld R.DEP.MODE_CHECK.EPOCH_PENDING)
    (hDEP_MODE_CHECK_FIELDS : km.fld R.DEP.MODE_CHECK.FIELDS) (hDEP_MODE_CHECK_RULE : km.fld R.DEP.MODE_CHECK.RULE)
    (hDEP_MODE_CHECK_VALID : km.fld R.DEP.MODE_CHECK.VALID)
    (hDEP_MODE_CTRL_FB_VALID : km.fld R.DEP.MODE_CTRL.FB_VALID) (hPG_COMMIT : ∀ a, km.fld (R.PG.COMMIT a))
    (hPG_COMMIT_PENDING : ∀ a, km.fld (R.PG.COMMIT_PENDING a)) (hPG_EVT_PEND : ∀ a, km.fld (R.PG.EVT_PEND a))
    (hRDN_MIRROR_SEQ_TX : km.fld R.RDN.MIRROR_SEQ.TX) (s : State) (b : Nat) (hs : s.Keeps km pq) : (State.commitArm s b).Keeps km pq := by
  unfold State.commitArm
  repeat' first
    | with_reducible assumption
    | with_reducible exact hPG_COMMIT _
    | with_reducible exact hPG_COMMIT_PENDING _
    | with_reducible exact hPG_EVT_PEND _
    | ((try lift_lets -underBinder); intro x; refine Keep.use (k := km) (q := pq) (s := x) ?_ ?_; (on_goal 1 => dsimp -zeta only [x]); (on_goal 2 => clear_value x; intro _))
    | ((try lift_lets -underBinder); intro x; refine Keep.usePair (k := km) (q := pq) (p := x) ?_ ?_; (on_goal 1 => dsimp -zeta only [x]); (on_goal 2 => clear_value x; intro _))
    | ((try lift_lets -underBinder); intro x; refine Keep.memSt (x := x) ?_; subst x)
    | ((try lift_lets -underBinder); intro x; refine Keep.depSt (x := x) ?_; subst x)
    | ((try lift_lets -underBinder); intro x; clear_value x)
    | (intro _)
    | with_reducible apply Keep.ite
    | with_reducible apply State.armCommit_good
    | with_reducible apply State.mirrorArm_good
    | with_reducible apply State.evaluate_good
    | (simp -zeta only [Keep.mk_iff]; with_reducible refine Keep.upd ?_ rfl ?_; on_goal 2 => (and_intros <;> with_reducible first | exact .inl rfl | exact .inl ⟨rfl, rfl, rfl⟩ | exact .inr ‹_› | exact Nat.le_refl _ | exact Nat.le_add_right _ _))

theorem State.cardsSynced_good (out : km.part .out) (map : km.part .map) (line : km.part .line)
    (hDEP_MODE_CHECK_DEP_PENDING : km.fld R.DEP.MODE_CHECK.DEP_PENDING)
    (hDEP_MODE_CHECK_EPOCH_PENDING : km.fld R.DEP.MODE_CHECK.EPOCH_PENDING)
    (hDEP_MODE_CHECK_FIELDS : km.fld R.DEP.MODE_CHECK.FIELDS) (hDEP_MODE_CHECK_RULE : km.fld R.DEP.MODE_CHECK.RULE)
    (hDEP_MODE_CHECK_VALID : km.fld R.DEP.MODE_CHECK.VALID)
    (hDEP_MODE_CTRL_FB_VALID : km.fld R.DEP.MODE_CTRL.FB_VALID)
    (hMAP_CARD_STAT_SYNCING : km.fld R.MAP.CARD_STAT.SYNCING) (hPG_BUSY : ∀ a, km.fld (R.PG.BUSY a))
    (hPG_COMMIT : ∀ a, km.fld (R.PG.COMMIT a)) (hPG_COMMIT_PENDING : ∀ a, km.fld (R.PG.COMMIT_PENDING a))
    (hPG_EVT_PEND : ∀ a, km.fld (R.PG.EVT_PEND a)) (hRDN_MIRROR_SEQ_TX : km.fld R.RDN.MIRROR_SEQ.TX) (s : State)
    (hs : s.Keeps km pq) : (State.cardsSynced s).Keeps km pq := by
  unfold State.cardsSynced
  repeat' first
    | with_reducible assumption
    | with_reducible exact hPG_BUSY _
    | with_reducible exact hPG_COMMIT _
    | with_reducible exact hPG_COMMIT_PENDING _
    | with_reducible exact hPG_EVT_PEND _
    | ((try lift_lets -underBinder); intro x; refine Keep.use (k := km) (q := pq) (s := x) ?_ ?_; (on_goal 1 => dsimp -zeta only [x]); (on_goal 2 => clear_value x; intro _))
    | ((try lift_lets -underBinder); intro x; refine Keep.usePair (k := km) (q := pq) (p := x) ?_ ?_; (on_goal 1 => dsimp -zeta only [x]); (on_goal 2 => clear_value x; intro _))
    | ((try lift_lets -underBinder); intro x; refine Keep.memSt (x := x) ?_; subst x)
    | ((try lift_lets -underBinder); intro x; refine Keep.depSt (x := x) ?_; subst x)
    | ((try lift_lets -underBinder); intro x; clear_value x)
    | (intro _)
    | with_reducible apply Keep.ite
    | with_reducible apply State.set_good
    | with_reducible apply State.ev_good
    | with_reducible apply State.cardStore_good
    | with_reducible apply State.armCommit_good
    | with_reducible apply State.mirrorArm_good
    | with_reducible apply State.evaluate_good
    | (simp -zeta only [Keep.mk_iff]; with_reducible refine Keep.upd ?_ rfl ?_; on_goal 2 => (and_intros <;> with_reducible first | exact .inl rfl | exact .inl ⟨rfl, rfl, rfl⟩ | exact .inr ‹_› | exact Nat.le_refl _ | exact Nat.le_add_right _ _))
    | with_reducible apply Keep.foldl

theorem State.spireSynced_good (out : km.part .out) (cmp : km.part .cmp) (line : km.part .line)
    (hPG_BUSY : ∀ a, km.fld (R.PG.BUSY a)) (hPG_COMMIT : ∀ a, km.fld (R.PG.COMMIT a))
    (hPG_COMMIT_PENDING : ∀ a, km.fld (R.PG.COMMIT_PENDING a)) (hPG_EVT_PEND : ∀ a, km.fld (R.PG.EVT_PEND a))
    (hRDN_MIRROR_SEQ_TX : km.fld R.RDN.MIRROR_SEQ.TX) (hSPI_SP_STAT_SYNCING : km.fld R.SPI.SP_STAT.SYNCING)
    (s : State) (hs : s.Keeps km pq) : (State.spireSynced s).Keeps km pq := by
  unfold State.spireSynced
  repeat' first
    | with_reducible assumption
    | with_reducible exact hPG_BUSY _
    | with_reducible exact hPG_COMMIT _
    | with_reducible exact hPG_COMMIT_PENDING _
    | with_reducible exact hPG_EVT_PEND _
    | ((try lift_lets -underBinder); intro x; refine Keep.use (k := km) (q := pq) (s := x) ?_ ?_; (on_goal 1 => dsimp -zeta only [x]); (on_goal 2 => clear_value x; intro _))
    | ((try lift_lets -underBinder); intro x; refine Keep.usePair (k := km) (q := pq) (p := x) ?_ ?_; (on_goal 1 => dsimp -zeta only [x]); (on_goal 2 => clear_value x; intro _))
    | ((try lift_lets -underBinder); intro x; refine Keep.memSt (x := x) ?_; subst x)
    | ((try lift_lets -underBinder); intro x; refine Keep.depSt (x := x) ?_; subst x)
    | ((try lift_lets -underBinder); intro x; clear_value x)
    | (intro _)
    | with_reducible apply Keep.ite
    | with_reducible apply State.set_good
    | with_reducible apply State.ev_good
    | with_reducible apply State.spireStore_good
    | with_reducible apply State.armCommit_good
    | with_reducible apply State.mirrorArm_good
    | (simp -zeta only [Keep.mk_iff]; with_reducible refine Keep.upd ?_ rfl ?_; on_goal 2 => (and_intros <;> with_reducible first | exact .inl rfl | exact .inl ⟨rfl, rfl, rfl⟩ | exact .inr ‹_› | exact Nat.le_refl _ | exact Nat.le_add_right _ _))
    | with_reducible apply Keep.foldl

theorem State.commitDisarm_good (out : km.part .out) (line : km.part .line)
    (hPG_COMMIT : ∀ a, km.fld (R.PG.COMMIT a)) (hPG_COMMIT_PENDING : ∀ a, km.fld (R.PG.COMMIT_PENDING a))
    (hRDN_MIRROR_SEQ_TX : km.fld R.RDN.MIRROR_SEQ.TX) (s : State) (b : Nat) (hs : s.Keeps km pq) : (State.commitDisarm s b).Keeps km pq := by
  unfold State.commitDisarm
  repeat' first
    | with_reducible assumption
    | with_reducible exact hPG_COMMIT _
    | with_reducible exact hPG_COMMIT_PENDING _
    | (intro _)
    | with_reducible apply Keep.ite
    | with_reducible apply State.commitEnd_good
    | with_reducible apply State.mirrorArm_good

theorem State.showFrozen_good (hPG_FROZEN : ∀ a, km.fld (R.PG.FROZEN a)) (s : State) (b : Nat) (hs : s.Keeps km pq) : (State.showFrozen s b).Keeps km pq := by
  unfold State.showFrozen
  repeat' first
    | with_reducible assumption
    | with_reducible exact hPG_FROZEN _
    | (intro _)
    | with_reducible apply State.set_good

theorem State.stopPass_good (cor : km.part .cor) (s : State) (hs : s.Keeps km pq) : (State.stopPass s).Keeps km pq := by
  unfold State.stopPass
  repeat' first
    | with_reducible assumption
    | ((try lift_lets -underBinder); intro x; refine Keep.use (k := km) (q := pq) (s := x) ?_ ?_; (on_goal 1 => dsimp -zeta only [x]); (on_goal 2 => clear_value x; intro _))
    | ((try lift_lets -underBinder); intro x; refine Keep.usePair (k := km) (q := pq) (p := x) ?_ ?_; (on_goal 1 => dsimp -zeta only [x]); (on_goal 2 => clear_value x; intro _))
    | ((try lift_lets -underBinder); intro x; refine Keep.memSt (x := x) ?_; subst x)
    | ((try lift_lets -underBinder); intro x; refine Keep.depSt (x := x) ?_; subst x)
    | ((try lift_lets -underBinder); intro x; clear_value x)
    | (intro _)
    | (simp -zeta only [Keep.mk_iff]; with_reducible refine Keep.upd ?_ rfl ?_; on_goal 2 => (and_intros <;> with_reducible first | exact .inl rfl | exact .inl ⟨rfl, rfl, rfl⟩ | exact .inr ‹_› | exact Nat.le_refl _ | exact Nat.le_add_right _ _))

theorem State.writeFreeze_good (out : km.part .out) (tim : km.part .tim) (dep : km.part .dep) (cmp : km.part .cmp)
    (mem : km.part .mem) (dram : km.part .dram) (scn : km.part .scn) (cor : km.part .cor) (rai : km.part .rai)
    (lfm : km.part .lfm) (line : km.part .line) (rdn : km.part .rdn) (que : km.part .que) (fwu : km.part .fwu)
    (any : ∀ f, km.fld f) (s : State) (b v : Nat) (hs : s.Keeps km pq) : (State.writeFreeze s b v).Keeps km pq := by
  unfold State.writeFreeze
  repeat' first
    | with_reducible assumption
    | (with_reducible (intros; exact any _))
    | ((try lift_lets -underBinder); intro x; refine Keep.use (k := km) (q := pq) (s := x) ?_ ?_; (on_goal 1 => dsimp -zeta only [x]); (on_goal 2 => clear_value x; intro _))
    | ((try lift_lets -underBinder); intro x; refine Keep.usePair (k := km) (q := pq) (p := x) ?_ ?_; (on_goal 1 => dsimp -zeta only [x]); (on_goal 2 => clear_value x; intro _))
    | ((try lift_lets -underBinder); intro x; refine Keep.memSt (x := x) ?_; subst x)
    | ((try lift_lets -underBinder); intro x; refine Keep.depSt (x := x) ?_; subst x)
    | ((try lift_lets -underBinder); intro x; clear_value x)
    | (intro _)
    | with_reducible apply Keep.ite
    | with_reducible apply State.set_good
    | with_reducible apply State.showFrozen_good
    | with_reducible apply State.stopPicture_good
    | with_reducible apply State.stopPass_good
    | with_reducible apply State.applyRecords_good
    | with_reducible apply State.portThaw_good
    | split
    | (simp -zeta only [Keep.mk_iff]; with_reducible refine Keep.upd ?_ rfl ?_; on_goal 2 => (and_intros <;> with_reducible first | exact .inl rfl | exact .inl ⟨rfl, rfl, rfl⟩ | exact .inr ‹_› | exact Nat.le_refl _ | exact Nat.le_add_right _ _))

theorem State.hwFreeze_good (out : km.part .out) (tim : km.part .tim) (dep : km.part .dep) (cmp : km.part .cmp)
    (mem : km.part .mem) (dram : km.part .dram) (scn : km.part .scn) (cor : km.part .cor) (rai : km.part .rai)
    (lfm : km.part .lfm) (line : km.part .line) (rdn : km.part .rdn) (que : km.part .que) (fwu : km.part .fwu)
    (any : ∀ f, km.fld f) (s : State) (b : Nat) (hs : s.Keeps km pq) : (State.hwFreeze s b).Keeps km pq := by
  unfold State.hwFreeze
  repeat' first
    | with_reducible assumption
    | (with_reducible (intros; exact any _))
    | ((try lift_lets -underBinder); intro x; refine Keep.use (k := km) (q := pq) (s := x) ?_ ?_; (on_goal 1 => dsimp -zeta only [x]); (on_goal 2 => clear_value x; intro _))
    | ((try lift_lets -underBinder); intro x; refine Keep.usePair (k := km) (q := pq) (p := x) ?_ ?_; (on_goal 1 => dsimp -zeta only [x]); (on_goal 2 => clear_value x; intro _))
    | ((try lift_lets -underBinder); intro x; refine Keep.memSt (x := x) ?_; subst x)
    | ((try lift_lets -underBinder); intro x; refine Keep.depSt (x := x) ?_; subst x)
    | ((try lift_lets -underBinder); intro x; clear_value x)
    | (intro _)
    | with_reducible apply Keep.ite
    | with_reducible apply State.set_good
    | with_reducible apply State.showFrozen_good
    | with_reducible apply State.err_good
    | with_reducible apply State.stopPicture_good
    | with_reducible apply State.stopPass_good
    | with_reducible apply State.linkDown_good
    | with_reducible apply State.mirrorLost_good
    | with_reducible apply State.memCheck_good
    | split

theorem State.headerReset_good (hPG_COMMIT : ∀ a, km.fld (R.PG.COMMIT a))
    (hPG_COMMIT_PENDING : ∀ a, km.fld (R.PG.COMMIT_PENDING a)) (hPG_ERR_ADDR_HI : ∀ a, km.fld (R.PG.ERR_ADDR_HI a))
    (hPG_ERR_ADDR_LO : ∀ a, km.fld (R.PG.ERR_ADDR_LO a)) (hPG_ERR_CODE : ∀ a, km.fld (R.PG.ERR_CODE a))
    (hPG_ERR_COUNT : ∀ a, km.fld (R.PG.ERR_COUNT a)) (hPG_ERR_OVERFLOW : ∀ a, km.fld (R.PG.ERR_OVERFLOW a))
    (hPG_ERR_SOURCE : ∀ a, km.fld (R.PG.ERR_SOURCE a)) (hPG_ERR_VALID : ∀ a, km.fld (R.PG.ERR_VALID a))
    (hPG_EVT_PEND : ∀ a, km.fld (R.PG.EVT_PEND a)) (hPG_FREEZE : ∀ a, km.fld (R.PG.FREEZE a))
    (hPG_FROZEN : ∀ a, km.fld (R.PG.FROZEN a)) (hPG_HW_FREEZE : ∀ a, km.fld (R.PG.HW_FREEZE a)) (s : State) (b : Nat)
    (hs : s.Keeps km pq) : (State.headerReset s b).Keeps km pq := by
  unfold State.headerReset
  repeat' first
    | with_reducible assumption
    | with_reducible exact hPG_COMMIT _
    | with_reducible exact hPG_COMMIT_PENDING _
    | with_reducible exact hPG_ERR_ADDR_HI _
    | with_reducible exact hPG_ERR_ADDR_LO _
    | with_reducible exact hPG_ERR_CODE _
    | with_reducible exact hPG_ERR_COUNT _
    | with_reducible exact hPG_ERR_OVERFLOW _
    | with_reducible exact hPG_ERR_SOURCE _
    | with_reducible exact hPG_ERR_VALID _
    | with_reducible exact hPG_EVT_PEND _
    | with_reducible exact hPG_FREEZE _
    | with_reducible exact hPG_FROZEN _
    | with_reducible exact hPG_HW_FREEZE _
    | ((try lift_lets -underBinder); intro x; refine Keep.use (k := km) (q := pq) (s := x) ?_ ?_; (on_goal 1 => dsimp -zeta only [x]); (on_goal 2 => clear_value x; intro _))
    | ((try lift_lets -underBinder); intro x; refine Keep.usePair (k := km) (q := pq) (p := x) ?_ ?_; (on_goal 1 => dsimp -zeta only [x]); (on_goal 2 => clear_value x; intro _))
    | ((try lift_lets -underBinder); intro x; refine Keep.memSt (x := x) ?_; subst x)
    | ((try lift_lets -underBinder); intro x; refine Keep.depSt (x := x) ?_; subst x)
    | ((try lift_lets -underBinder); intro x; clear_value x)
    | (intro _)
    | with_reducible apply State.set_good
    | with_reducible apply State.errClear_good
    | with_reducible apply State.commitEnd_good

theorem State.regsReset_good (force : km.part .force) (tim : km.part .tim) (any : ∀ f, km.fld f) (s : State)
    (b : Nat) (keep : List Fld) (hs : s.Keeps km pq) : (State.regsReset s b keep).Keeps km pq := by
  unfold State.regsReset
  repeat' first
    | with_reducible assumption
    | (with_reducible (intros; exact any _))
    | (intro _)
    | with_reducible apply State.clearPage_good

theorem State.timReset_good (force : km.part .force) (out : km.part .out) (tim : km.part .tim) (any : ∀ f, km.fld f)
    (s : State) (hs : s.Keeps km pq) : (State.timReset s).Keeps km pq := by
  unfold State.timReset
  repeat' first
    | with_reducible assumption
    | (with_reducible (intros; exact any _))
    | ((try lift_lets -underBinder); intro x; refine Keep.use (k := km) (q := pq) (s := x) ?_ ?_; (on_goal 1 => dsimp -zeta only [x]); (on_goal 2 => clear_value x; intro _))
    | ((try lift_lets -underBinder); intro x; refine Keep.usePair (k := km) (q := pq) (p := x) ?_ ?_; (on_goal 1 => dsimp -zeta only [x]); (on_goal 2 => clear_value x; intro _))
    | ((try lift_lets -underBinder); intro x; refine Keep.memSt (x := x) ?_; subst x)
    | ((try lift_lets -underBinder); intro x; refine Keep.depSt (x := x) ?_; subst x)
    | ((try lift_lets -underBinder); intro x; clear_value x)
    | (intro _)
    | with_reducible apply State.regsReset_good
    | with_reducible apply State.roleDefaults_good
    | with_reducible apply State.set_good
    | with_reducible apply State.frameSrc_good
    | with_reducible apply State.forN_good
    | with_reducible apply State.putDomState_good
    | with_reducible apply State.domEnable_good
    | with_reducible apply State.showWall_good
    | with_reducible apply State.evaluate_good
    | (simp -zeta only [Keep.mk_iff]; with_reducible refine Keep.upd ?_ rfl ?_; on_goal 2 => (and_intros <;> with_reducible first | exact .inl rfl | exact .inl ⟨rfl, rfl, rfl⟩ | exact .inr ‹_› | exact Nat.le_refl _ | exact Nat.le_add_right _ _))

theorem State.depReset_good (force : km.part .force) (out : km.part .out) (tim : km.part .tim) (dep : km.part .dep)
    (line : km.part .line) (any : ∀ f, km.fld f) (s : State) (hs : s.Keeps km pq) : (State.depReset s).Keeps km pq := by
  unfold State.depReset
  repeat' first
    | with_reducible assumption
    | (with_reducible (intros; exact any _))
    | ((try lift_lets -underBinder); intro x; refine Keep.use (k := km) (q := pq) (s := x) ?_ ?_; (on_goal 1 => dsimp -zeta only [x]); (on_goal 2 => clear_value x; intro _))
    | ((try lift_lets -underBinder); intro x; refine Keep.usePair (k := km) (q := pq) (p := x) ?_ ?_; (on_goal 1 => dsimp -zeta only [x]); (on_goal 2 => clear_value x; intro _))
    | ((try lift_lets -underBinder); intro x; refine Keep.memSt (x := x) ?_; subst x)
    | ((try lift_lets -underBinder); intro x; refine Keep.depSt (x := x) ?_; subst x)
    | ((try lift_lets -underBinder); intro x; clear_value x)
    | (intro _)
    | with_reducible apply Keep.ite
    | with_reducible apply State.regsReset_good
    | with_reducible apply State.roleDefaults_good
    | with_reducible apply State.putModeNext_good
    | with_reducible apply State.forN_good
    | with_reducible apply State.set_good
    | with_reducible apply State.showBoard_good
    | with_reducible apply State.evaluate_good
    | with_reducible apply State.sendChanged_good
    | (simp -zeta only [Keep.mk_iff]; with_reducible refine Keep.upd ?_ rfl ?_; on_goal 2 => (and_intros <;> with_reducible first | exact .inl rfl | exact .inl ⟨rfl, rfl, rfl⟩ | exact .inr ‹_› | exact Nat.le_refl _ | exact Nat.le_add_right _ _))

theorem State.mapReset_good (force : km.part .force) (out : km.part .out) (tim : km.part .tim) (map : km.part .map)
    (mem : km.part .mem) (any : ∀ f, km.fld f) (s : State) (hs : s.Keeps km pq) : (State.mapReset s).Keeps km pq := by
  unfold State.mapReset
  repeat' first
    | with_reducible assumption
    | (with_reducible (intros; exact any _))
    | ((try lift_lets -underBinder); intro x; refine Keep.use (k := km) (q := pq) (s := x) ?_ ?_; (on_goal 1 => dsimp -zeta only [x]); (on_goal 2 => clear_value x; intro _))
    | ((try lift_lets -underBinder); intro x; refine Keep.usePair (k := km) (q := pq) (p := x) ?_ ?_; (on_goal 1 => dsimp -zeta only [x]); (on_goal 2 => clear_value x; intro _))
    | ((try lift_lets -underBinder); intro x; refine Keep.memSt (x := x) ?_; subst x)
    | ((try lift_lets -underBinder); intro x; refine Keep.depSt (x := x) ?_; subst x)
    | ((try lift_lets -underBinder); intro x; clear_value x)
    | (intro _)
    | with_reducible apply State.regsReset_good
    | with_reducible apply State.set_good
    | with_reducible apply State.bankMarks_good
    | with_reducible apply State.evaluate_good
    | (simp -zeta only [Keep.mk_iff]; with_reducible refine Keep.upd ?_ rfl ?_; on_goal 2 => (and_intros <;> with_reducible first | exact .inl rfl | exact .inl ⟨rfl, rfl, rfl⟩ | exact .inr ‹_› | exact Nat.le_refl _ | exact Nat.le_add_right _ _))

theorem State.spireReset_good (force : km.part .force) (tim : km.part .tim) (cmp : km.part .cmp) (mem : km.part .mem)
    (any : ∀ f, km.fld f) (s : State) (hs : s.Keeps km pq) : (State.spireReset s).Keeps km pq := by
  unfold State.spireReset
  repeat' first
    | with_reducible assumption
    | (with_reducible (intros; exact any _))
    | ((try lift_lets -underBinder); intro x; refine Keep.use (k := km) (q := pq) (s := x) ?_ ?_; (on_goal 1 => dsimp -zeta only [x]); (on_goal 2 => clear_value x; intro _))
    | ((try lift_lets -underBinder); intro x; refine Keep.usePair (k := km) (q := pq) (p := x) ?_ ?_; (on_goal 1 => dsimp -zeta only [x]); (on_goal 2 => clear_value x; intro _))
    | ((try lift_lets -underBinder); intro x; refine Keep.memSt (x := x) ?_; subst x)
    | ((try lift_lets -underBinder); intro x; refine Keep.depSt (x := x) ?_; subst x)
    | ((try lift_lets -underBinder); intro x; clear_value x)
    | (intro _)
    | with_reducible apply State.regsReset_good
    | with_reducible apply State.set_good
    | with_reducible apply State.bankMarks_good
    | (simp -zeta only [Keep.mk_iff]; with_reducible refine Keep.upd ?_ rfl ?_; on_goal 2 => (and_intros <;> with_reducible first | exact .inl rfl | exact .inl ⟨rfl, rfl, rfl⟩ | exact .inr ‹_› | exact Nat.le_refl _ | exact Nat.le_add_right _ _))

theorem State.layerReset_good (force : km.part .force) (tim : km.part .tim) (any : ∀ f, km.fld f) (s : State)
    (i : Nat) (hs : s.Keeps km pq) : (State.layerReset s i).Keeps km pq := by
  unfold State.layerReset
  repeat' first
    | with_reducible assumption
    | (with_reducible (intros; exact any _))
    | ((try lift_lets -underBinder); intro x; refine Keep.use (k := km) (q := pq) (s := x) ?_ ?_; (on_goal 1 => dsimp -zeta only [x]); (on_goal 2 => clear_value x; intro _))
    | ((try lift_lets -underBinder); intro x; refine Keep.usePair (k := km) (q := pq) (p := x) ?_ ?_; (on_goal 1 => dsimp -zeta only [x]); (on_goal 2 => clear_value x; intro _))
    | ((try lift_lets -underBinder); intro x; refine Keep.memSt (x := x) ?_; subst x)
    | ((try lift_lets -underBinder); intro x; refine Keep.depSt (x := x) ?_; subst x)
    | ((try lift_lets -underBinder); intro x; clear_value x)
    | (intro _)
    | with_reducible apply State.regsReset_good
    | with_reducible apply State.set_good
    | with_reducible apply State.showFading_good

theorem State.ethReset_good (force : km.part .force) (out : km.part .out) (tim : km.part .tim) (any : ∀ f, km.fld f)
    (s : State) (hs : s.Keeps km pq) : (State.ethReset s).Keeps km pq := by
  unfold State.ethReset
  repeat' first
    | with_reducible assumption
    | (with_reducible (intros; exact any _))
    | (intro _)
    | with_reducible apply State.forN_good
    | with_reducible apply State.ethDown_good
    | with_reducible apply State.regsReset_good
    | with_reducible apply State.loadMacs_good

theorem State.klcSoft_good (force : km.part .force) (tim : km.part .tim) (klc : km.part .klc) (any : ∀ f, km.fld f)
    (s : State) (hs : s.Keeps km pq) : (State.klcSoft s).Keeps km pq := by
  unfold State.klcSoft
  repeat' first
    | with_reducible assumption
    | (with_reducible (intros; exact any _))
    | ((try lift_lets -underBinder); intro x; refine Keep.use (k := km) (q := pq) (s := x) ?_ ?_; (on_goal 1 => dsimp -zeta only [x]); (on_goal 2 => clear_value x; intro _))
    | ((try lift_lets -underBinder); intro x; refine Keep.usePair (k := km) (q := pq) (p := x) ?_ ?_; (on_goal 1 => dsimp -zeta only [x]); (on_goal 2 => clear_value x; intro _))
    | ((try lift_lets -underBinder); intro x; refine Keep.memSt (x := x) ?_; subst x)
    | ((try lift_lets -underBinder); intro x; refine Keep.depSt (x := x) ?_; subst x)
    | ((try lift_lets -underBinder); intro x; clear_value x)
    | (intro _)
    | with_reducible apply State.klcReset_good
    | with_reducible apply State.regsReset_good
    | with_reducible apply State.showJob_good
    | split

theorem State.lnkReset_good (force : km.part .force) (out : km.part .out) (tim : km.part .tim) (dep : km.part .dep)
    (mem : km.part .mem) (dram : km.part .dram) (scn : km.part .scn) (cor : km.part .cor) (rai : km.part .rai)
    (lfm : km.part .lfm) (line : km.part .line) (rdn : km.part .rdn) (que : km.part .que) (fwu : km.part .fwu)
    (any : ∀ f, km.fld f) (s : State) (p : Nat) (hs : s.Keeps km pq) : (State.lnkReset s p).Keeps km pq := by
  unfold State.lnkReset
  repeat' first
    | with_reducible assumption
    | (with_reducible (intros; exact any _))
    | ((try lift_lets -underBinder); intro x; refine Keep.use (k := km) (q := pq) (s := x) ?_ ?_; (on_goal 1 => dsimp -zeta only [x]); (on_goal 2 => clear_value x; intro _))
    | ((try lift_lets -underBinder); intro x; refine Keep.usePair (k := km) (q := pq) (p := x) ?_ ?_; (on_goal 1 => dsimp -zeta only [x]); (on_goal 2 => clear_value x; intro _))
    | ((try lift_lets -underBinder); intro x; refine Keep.memSt (x := x) ?_; subst x)
    | ((try lift_lets -underBinder); intro x; refine Keep.depSt (x := x) ?_; subst x)
    | ((try lift_lets -underBinder); intro x; clear_value x)
    | (intro _)
    | with_reducible apply Keep.ite
    | with_reducible apply State.portDown_good
    | with_reducible apply State.regsReset_good
    | with_reducible apply State.setPort_good
    | with_reducible apply State.toDetect_good
    | with_reducible apply State.setStage_good
    | with_reducible apply State.forN_good
    | with_reducible apply State.setLaneState_good

theorem State.lnlReset_good (force : km.part .force) (out : km.part .out) (tim : km.part .tim) (dep : km.part .dep)
    (mem : km.part .mem) (dram : km.part .dram) (scn : km.part .scn) (cor : km.part .cor) (rai : km.part .rai)
    (lfm : km.part .lfm) (line : km.part .line) (rdn : km.part .rdn) (que : km.part .que) (fwu : km.part .fwu)
    (any : ∀ f, km.fld f) (s : State) (l : Nat) (hs : s.Keeps km pq) : (State.lnlReset s l).Keeps km pq := by
  unfold State.lnlReset
  repeat' first
    | with_reducible assumption
    | (with_reducible (intros; exact any _))
    | ((try lift_lets -underBinder); intro x; refine Keep.use (k := km) (q := pq) (s := x) ?_ ?_; (on_goal 1 => dsimp -zeta only [x]); (on_goal 2 => clear_value x; intro _))
    | ((try lift_lets -underBinder); intro x; refine Keep.usePair (k := km) (q := pq) (p := x) ?_ ?_; (on_goal 1 => dsimp -zeta only [x]); (on_goal 2 => clear_value x; intro _))
    | ((try lift_lets -underBinder); intro x; refine Keep.memSt (x := x) ?_; subst x)
    | ((try lift_lets -underBinder); intro x; refine Keep.depSt (x := x) ?_; subst x)
    | ((try lift_lets -underBinder); intro x; clear_value x)
    | (intro _)
    | with_reducible apply Keep.ite
    | with_reducible apply State.regsReset_good
    | with_reducible apply State.setLane_good
    | with_reducible apply State.laneRetry_good
    | with_reducible apply State.laneFault_good

theorem State.lneReset_good (force : km.part .force) (out : km.part .out) (tim : km.part .tim) (lfm : km.part .lfm)
    (line : km.part .line) (que : km.part .que) (any : ∀ f, km.fld f) (s : State) (p : Nat) (hs : s.Keeps km pq) : (State.lneReset s p).Keeps km pq := by
  unfold State.lneReset
  repeat' first
    | with_reducible assumption
    | (with_reducible (intros; exact any _))
    | ((try lift_lets -underBinder); intro x; refine Keep.use (k := km) (q := pq) (s := x) ?_ ?_; (on_goal 1 => dsimp -zeta only [x]); (on_goal 2 => clear_value x; intro _))
    | ((try lift_lets -underBinder); intro x; refine Keep.usePair (k := km) (q := pq) (p := x) ?_ ?_; (on_goal 1 => dsimp -zeta only [x]); (on_goal 2 => clear_value x; intro _))
    | ((try lift_lets -underBinder); intro x; refine Keep.memSt (x := x) ?_; subst x)
    | ((try lift_lets -underBinder); intro x; refine Keep.depSt (x := x) ?_; subst x)
    | ((try lift_lets -underBinder); intro x; clear_value x)
    | (intro _)
    | with_reducible apply Keep.ite
    | with_reducible apply State.setLineTx_good
    | with_reducible apply State.txnDone_good
    | with_reducible apply State.enumAbandon_good
    | with_reducible apply State.evIf_good
    | with_reducible apply State.skip_good
    | with_reducible apply State.markBad_good
    | with_reducible apply State.setStream_good
    | with_reducible apply State.regsReset_good
    | with_reducible apply State.showTmo_good
    | with_reducible apply State.showSilent_good
    | split
    | (simp -zeta only [Keep.mk_iff]; with_reducible refine Keep.upd ?_ rfl ?_; on_goal 2 => (and_intros <;> with_reducible first | exact .inl rfl | exact .inl ⟨rfl, rfl, rfl⟩ | exact .inr ‹_› | exact Nat.le_refl _ | exact Nat.le_add_right _ _))
    | with_reducible apply Keep.foldl

theorem State.corReset_good (force : km.part .force) (out : km.part .out) (tim : km.part .tim) (mem : km.part .mem)
    (dram : km.part .dram) (cor : km.part .cor) (any : ∀ f, km.fld f) (s : State) (hs : s.Keeps km pq) : (State.corReset s).Keeps km pq := by
  unfold State.corReset
  repeat' first
    | with_reducible assumption
    | (with_reducible (intros; exact any _))
    | ((try lift_lets -underBinder); intro x; refine Keep.use (k := km) (q := pq) (s := x) ?_ ?_; (on_goal 1 => dsimp -zeta only [x]); (on_goal 2 => clear_value x; intro _))
    | ((try lift_lets -underBinder); intro x; refine Keep.usePair (k := km) (q := pq) (p := x) ?_ ?_; (on_goal 1 => dsimp -zeta only [x]); (on_goal 2 => clear_value x; intro _))
    | ((try lift_lets -underBinder); intro x; refine Keep.memSt (x := x) ?_; subst x)
    | ((try lift_lets -underBinder); intro x; refine Keep.depSt (x := x) ?_; subst x)
    | ((try lift_lets -underBinder); intro x; clear_value x)
    | (intro _)
    | with_reducible apply Keep.ite
    | with_reducible apply State.stopPass_good
    | with_reducible apply State.postUpload_good
    | with_reducible apply State.bankSyncStop_good
    | with_reducible apply State.regsReset_good
    | with_reducible apply State.showUploads_good
    | (simp -zeta only [Keep.mk_iff]; with_reducible refine Keep.upd ?_ rfl ?_; on_goal 2 => (and_intros <;> with_reducible first | exact .inl rfl | exact .inl ⟨rfl, rfl, rfl⟩ | exact .inr ‹_› | exact Nat.le_refl _ | exact Nat.le_add_right _ _))
    | with_reducible apply Keep.foldl

theorem State.scnReset_good (force : km.part .force) (out : km.part .out) (tim : km.part .tim) (scn : km.part .scn)
    (any : ∀ f, km.fld f) (s : State) (hs : s.Keeps km pq) : (State.scnReset s).Keeps km pq := by
  unfold State.scnReset
  repeat' first
    | with_reducible assumption
    | (with_reducible (intros; exact any _))
    | ((try lift_lets -underBinder); intro x; refine Keep.use (k := km) (q := pq) (s := x) ?_ ?_; (on_goal 1 => dsimp -zeta only [x]); (on_goal 2 => clear_value x; intro _))
    | ((try lift_lets -underBinder); intro x; refine Keep.usePair (k := km) (q := pq) (p := x) ?_ ?_; (on_goal 1 => dsimp -zeta only [x]); (on_goal 2 => clear_value x; intro _))
    | ((try lift_lets -underBinder); intro x; refine Keep.memSt (x := x) ?_; subst x)
    | ((try lift_lets -underBinder); intro x; refine Keep.depSt (x := x) ?_; subst x)
    | ((try lift_lets -underBinder); intro x; clear_value x)
    | (intro _)
    | with_reducible apply State.ttAbandon_good
    | with_reducible apply State.regsReset_good
    | with_reducible apply State.dropLoads_good
    | (simp -zeta only [Keep.mk_iff]; with_reducible refine Keep.upd ?_ rfl ?_; on_goal 2 => (and_intros <;> with_reducible first | exact .inl rfl | exact .inl ⟨rfl, rfl, rfl⟩ | exact .inr ‹_› | exact Nat.le_refl _ | exact Nat.le_add_right _ _))

theorem State.raiReset_good (force : km.part .force) (out : km.part .out) (tim : km.part .tim) (mem : km.part .mem)
    (dram : km.part .dram) (rai : km.part .rai) (lfm : km.part .lfm) (line : km.part .line) (any : ∀ f, km.fld f)
    (s : State) (hs : s.Keeps km pq) : (State.raiReset s).Keeps km pq := by
  unfold State.raiReset
  repeat' first
    | with_reducible assumption
    | (with_reducible (intros; exact any _))
    | ((try lift_lets -underBinder); intro x; refine Keep.use (k := km) (q := pq) (s := x) ?_ ?_; (on_goal 1 => dsimp -zeta only [x]); (on_goal 2 => clear_value x; intro _))
    | ((try lift_lets -underBinder); intro x; refine Keep.usePair (k := km) (q := pq) (p := x) ?_ ?_; (on_goal 1 => dsimp -zeta only [x]); (on_goal 2 => clear_value x; intro _))
    | ((try lift_lets -underBinder); intro x; refine Keep.memSt (x := x) ?_; subst x)
    | ((try lift_lets -underBinder); intro x; refine Keep.depSt (x := x) ?_; subst x)
    | ((try lift_lets -underBinder); intro x; clear_value x)
    | (intro _)
    | with_reducible apply State.regsReset_good
    | with_reducible apply State.forN_good
    | with_reducible apply State.railEval_good
    | with_reducible apply State.evalZones_good
    | (simp -zeta only [Keep.mk_iff]; with_reducible refine Keep.upd ?_ rfl ?_; on_goal 2 => (and_intros <;> with_reducible first | exact .inl rfl | exact .inl ⟨rfl, rfl, rfl⟩ | exact .inr ‹_› | exact Nat.le_refl _ | exact Nat.le_add_right _ _))

theorem State.lfmReset_good (force : km.part .force) (out : km.part .out) (tim : km.part .tim) (mem : km.part .mem)
    (dram : km.part .dram) (lfm : km.part .lfm) (line : km.part .line) (any : ∀ f, km.fld f) (s : State)
    (hs : s.Keeps km pq) : (State.lfmReset s).Keeps km pq := by
  unfold State.lfmReset
  repeat' first
    | with_reducible assumption
    | (with_reducible (intros; exact any _))
    | ((try lift_lets -underBinder); intro x; refine Keep.use (k := km) (q := pq) (s := x) ?_ ?_; (on_goal 1 => dsimp -zeta only [x]); (on_goal 2 => clear_value x; intro _))
    | ((try lift_lets -underBinder); intro x; refine Keep.usePair (k := km) (q := pq) (p := x) ?_ ?_; (on_goal 1 => dsimp -zeta only [x]); (on_goal 2 => clear_value x; intro _))
    | ((try lift_lets -underBinder); intro x; refine Keep.memSt (x := x) ?_; subst x)
    | ((try lift_lets -underBinder); intro x; refine Keep.depSt (x := x) ?_; subst x)
    | ((try lift_lets -underBinder); intro x; clear_value x)
    | (intro _)
    | with_reducible apply State.regsReset_good
    | with_reducible apply State.set_good
    | with_reducible apply State.showFaults_good
    | with_reducible apply State.evalZones_good
    | (simp -zeta only [Keep.mk_iff]; with_reducible refine Keep.upd ?_ rfl ?_; on_goal 2 => (and_intros <;> with_reducible first | exact .inl rfl | exact .inl ⟨rfl, rfl, rfl⟩ | exact .inr ‹_› | exact Nat.le_refl _ | exact Nat.le_add_right _ _))

theorem State.memReset_good (force : km.part .force) (out : km.part .out) (tim : km.part .tim) (mem : km.part .mem)
    (any : ∀ f, km.fld f) (s : State) (c : Nat) (wasFrozen : Bool) (hs : s.Keeps km pq) : (State.memReset s c wasFrozen).Keeps km pq := by
  unfold State.memReset
  repeat' first
    | with_reducible assumption
    | (with_reducible (intros; exact any _))
    | ((try lift_lets -underBinder); intro x; refine Keep.use (k := km) (q := pq) (s := x) ?_ ?_; (on_goal 1 => dsimp -zeta only [x]); (on_goal 2 => clear_value x; intro _))
    | ((try lift_lets -underBinder); intro x; refine Keep.usePair (k := km) (q := pq) (p := x) ?_ ?_; (on_goal 1 => dsimp -zeta only [x]); (on_goal 2 => clear_value x; intro _))
    | ((try lift_lets -underBinder); intro x; refine Keep.memSt (x := x) ?_; subst x)
    | ((try lift_lets -underBinder); intro x; refine Keep.depSt (x := x) ?_; subst x)
    | ((try lift_lets -underBinder); intro x; clear_value x)
    | (intro _)
    | with_reducible apply Keep.ite
    | with_reducible apply State.regsReset_good
    | with_reducible apply State.roleDefaults_good
    | with_reducible apply State.filter_good
    | with_reducible apply State.dramErr_good
    | with_reducible apply State.setCh_good
    | with_reducible apply State.memCheck_good
    | (simp -zeta only [Keep.mk_iff]; with_reducible refine Keep.upd ?_ rfl ?_; on_goal 2 => (and_intros <;> with_reducible first | exact .inl rfl | exact .inl ⟨rfl, rfl, rfl⟩ | exact .inr ‹_› | exact Nat.le_refl _ | exact Nat.le_add_right _ _))
    | with_reducible apply Keep.foldl

theorem State.hktReset_good (force : km.part .force) (out : km.part .out) (tim : km.part .tim) (hkt : km.part .hkt)
    (mbx : km.part .mbx) (any : ∀ f, km.fld f) (s : State) (hs : s.Keeps km pq) : (State.hktReset s).Keeps km pq := by
  unfold State.hktReset
  repeat' first
    | with_reducible assumption
    | (with_reducible (intros; exact any _))
    | ((try lift_lets -underBinder); intro x; refine Keep.use (k := km) (q := pq) (s := x) ?_ ?_; (on_goal 1 => dsimp -zeta only [x]); (on_goal 2 => clear_value x; intro _))
    | ((try lift_lets -underBinder); intro x; refine Keep.usePair (k := km) (q := pq) (p := x) ?_ ?_; (on_goal 1 => dsimp -zeta only [x]); (on_goal 2 => clear_value x; intro _))
    | ((try lift_lets -underBinder); intro x; refine Keep.memSt (x := x) ?_; subst x)
    | ((try lift_lets -underBinder); intro x; refine Keep.depSt (x := x) ?_; subst x)
    | ((try lift_lets -underBinder); intro x; clear_value x)
    | (intro _)
    | with_reducible apply Keep.ite
    | with_reducible apply State.releaseSender_good
    | with_reducible apply State.setThr_good
    | with_reducible apply State.regsReset_good
    | with_reducible apply State.set_good
    | (simp -zeta only [Keep.mk_iff]; with_reducible refine Keep.upd ?_ rfl ?_; on_goal 2 => (and_intros <;> with_reducible first | exact .inl rfl | exact .inl ⟨rfl, rfl, rfl⟩ | exact .inr ‹_› | exact Nat.le_refl _ | exact Nat.le_add_right _ _))

theorem State.calReset_good (force : km.part .force) (tim : km.part .tim) (any : ∀ f, km.fld f) (s : State)
    (hs : s.Keeps km pq) : (State.calReset s).Keeps km pq := by
  unfold State.calReset
  repeat' first
    | with_reducible assumption
    | (with_reducible (intros; exact any _))
    | (intro _)
    | with_reducible apply State.regsReset_good

theorem State.fwuReset_good (out : km.part .out) (tim : km.part .tim) (line : km.part .line) (fwu : km.part .fwu)
    (hFWU_FWU_CFG_CONFIRM_S : km.fld R.FWU.FWU_CFG.CONFIRM_S)
    (hFWU_FWU_STAT_SET_DEFAULT : km.fld R.FWU.FWU_STAT.SET_DEFAULT)
    (hFWU_FWU_STAT_SET_SLOT : km.fld R.FWU.FWU_STAT.SET_SLOT) (hFWU_SESSION_ID : km.fld R.FWU.SESSION.ID)
    (hFWU_SESSION_PURPOSE : km.fld R.FWU.SESSION.PURPOSE) (hFWU_SESSION_SLOT : km.fld R.FWU.SESSION.SLOT)
    (hFWU_SESS_BYTES_BYTES : km.fld R.FWU.SESS_BYTES.BYTES) (hPG_EVT_PEND : ∀ a, km.fld (R.PG.EVT_PEND a))
    (hSLT_SLOT_STAT_STATE : ∀ a, km.fld (R.SLT.SLOT_STAT.STATE a))
    (hTIM_DOM_OFFSET_OFFSET : ∀ a, km.fld (R.TIM.DOM_OFFSET.OFFSET a))
    (hTIM_DOM_RATE_RATE : ∀ a, km.fld (R.TIM.DOM_RATE.RATE a)) (s : State) (hs : s.Keeps km pq) : (State.fwuReset s).Keeps km pq := by
  unfold State.fwuReset
  repeat' first
    | with_reducible assumption
    | with_reducible exact hPG_EVT_PEND _
    | with_reducible exact hSLT_SLOT_STAT_STATE _
    | with_reducible exact hTIM_DOM_OFFSET_OFFSET _
    | with_reducible exact hTIM_DOM_RATE_RATE _
    | ((try lift_lets -underBinder); intro x; refine Keep.use (k := km) (q := pq) (s := x) ?_ ?_; (on_goal 1 => dsimp -zeta only [x]); (on_goal 2 => clear_value x; intro _))
    | ((try lift_lets -underBinder); intro x; refine Keep.usePair (k := km) (q := pq) (p := x) ?_ ?_; (on_goal 1 => dsimp -zeta only [x]); (on_goal 2 => clear_value x; intro _))
    | ((try lift_lets -underBinder); intro x; refine Keep.memSt (x := x) ?_; subst x)
    | ((try lift_lets -underBinder); intro x; refine Keep.depSt (x := x) ?_; subst x)
    | ((try lift_lets -underBinder); intro x; clear_value x)
    | (intro _)
    | with_reducible apply State.endSession_good
    | with_reducible apply State.set_good

theorem State.pwrReset_good (force : km.part .force) (tim : km.part .tim) (any : ∀ f, km.fld f) (s : State)
    (hs : s.Keeps km pq) : (State.pwrReset s).Keeps km pq := by
  unfold State.pwrReset
  repeat' first
    | with_reducible assumption
    | (with_reducible (intros; exact any _))
    | (intro _)
    | with_reducible apply State.regsReset_good

theorem State.rckReset_good (fwu : km.part .fwu) (hRCK_CLK_CTRL_RET_AUTO : km.fld R.RCK.CLK_CTRL.RET_AUTO)
    (hRCK_CLK_CTRL_RET_MS : km.fld R.RCK.CLK_CTRL.RET_MS) (hRCK_RST_CAUSE_JTAG : km.fld R.RCK.RST_CAUSE.JTAG)
    (hRCK_RST_CAUSE_POWER_ON : km.fld R.RCK.RST_CAUSE.POWER_ON)
    (hRCK_RST_CAUSE_RESET_N : km.fld R.RCK.RST_CAUSE.RESET_N)
    (hRCK_RST_CAUSE_SOFTWARE : km.fld R.RCK.RST_CAUSE.SOFTWARE)
    (hRCK_RST_CAUSE_THERMAL : km.fld R.RCK.RST_CAUSE.THERMAL) (s : State) (hs : s.Keeps km pq) : (State.rckReset s).Keeps km pq := by
  unfold State.rckReset
  repeat' first
    | with_reducible assumption
    | (intro _)
    | with_reducible apply State.set_good
    | with_reducible apply State.setCause_good

theorem State.svpReset_good (force : km.part .force) (tim : km.part .tim) (any : ∀ f, km.fld f) (s : State)
    (hs : s.Keeps km pq) : (State.svpReset s).Keeps km pq := by
  unfold State.svpReset
  repeat' first
    | with_reducible assumption
    | (with_reducible (intros; exact any _))
    | (intro _)
    | with_reducible apply State.regsReset_good

theorem State.parReset_good (force : km.part .force) (tim : km.part .tim) (mem : km.part .mem) (any : ∀ f, km.fld f)
    (s : State) (hs : s.Keeps km pq) : (State.parReset s).Keeps km pq := by
  unfold State.parReset
  repeat' first
    | with_reducible assumption
    | (with_reducible (intros; exact any _))
    | ((try lift_lets -underBinder); intro x; refine Keep.use (k := km) (q := pq) (s := x) ?_ ?_; (on_goal 1 => dsimp -zeta only [x]); (on_goal 2 => clear_value x; intro _))
    | ((try lift_lets -underBinder); intro x; refine Keep.usePair (k := km) (q := pq) (p := x) ?_ ?_; (on_goal 1 => dsimp -zeta only [x]); (on_goal 2 => clear_value x; intro _))
    | ((try lift_lets -underBinder); intro x; refine Keep.memSt (x := x) ?_; subst x)
    | ((try lift_lets -underBinder); intro x; refine Keep.depSt (x := x) ?_; subst x)
    | ((try lift_lets -underBinder); intro x; clear_value x)
    | (intro _)
    | with_reducible apply State.regsReset_good
    | (simp -zeta only [Keep.mk_iff]; with_reducible refine Keep.upd ?_ rfl ?_; on_goal 2 => (and_intros <;> with_reducible first | exact .inl rfl | exact .inl ⟨rfl, rfl, rfl⟩ | exact .inr ‹_› | exact Nat.le_refl _ | exact Nat.le_add_right _ _))

theorem State.showHeld_good (hQUE_ACC_HELD_D : km.fld R.QUE.ACC_HELD.D) (hQUE_ACC_HELD_U : km.fld R.QUE.ACC_HELD.U)
    (hQUE_DUP_SRCS_COUNT : km.fld R.QUE.DUP_SRCS.COUNT) (s : State) (hs : s.Keeps km pq) : (State.showHeld s).Keeps km pq := by
  unfold State.showHeld
  repeat' first
    | with_reducible assumption
    | (intro _)
    | with_reducible apply State.set_good

theorem State.queReset_good (force : km.part .force) (out : km.part .out) (tim : km.part .tim) (dep : km.part .dep)
    (mem : km.part .mem) (dram : km.part .dram) (scn : km.part .scn) (cor : km.part .cor) (rai : km.part .rai)
    (lfm : km.part .lfm) (hkt : km.part .hkt) (line : km.part .line) (rdn : km.part .rdn) (que : km.part .que)
    (fwu : km.part .fwu) (any : ∀ f, km.fld f) (s : State) (hs : s.Keeps km pq) : (State.queReset s).Keeps km pq := by
  unfold State.queReset
  repeat' first
    | with_reducible assumption
    | (with_reducible (intros; exact any _))
    | ((try lift_lets -underBinder); intro x; refine Keep.use (k := km) (q := pq) (s := x) ?_ ?_; (on_goal 1 => dsimp -zeta only [x]); (on_goal 2 => clear_value x; intro _))
    | ((try lift_lets -underBinder); intro x; refine Keep.usePair (k := km) (q := pq) (p := x) ?_ ?_; (on_goal 1 => dsimp -zeta only [x]); (on_goal 2 => clear_value x; intro _))
    | ((try lift_lets -underBinder); intro x; refine Keep.memSt (x := x) ?_; subst x)
    | ((try lift_lets -underBinder); intro x; refine Keep.depSt (x := x) ?_; subst x)
    | ((try lift_lets -underBinder); intro x; clear_value x)
    | (intro _)
    | with_reducible apply State.queueDisable_good
    | with_reducible apply State.testStop_good
    | with_reducible apply State.regsReset_good
    | with_reducible apply State.showQueues_good
    | with_reducible apply State.showHeld_good
    | with_reducible apply State.set_good
    | with_reducible apply State.filter_good
    | split
    | (simp -zeta only [Keep.mk_iff]; with_reducible refine Keep.upd ?_ rfl ?_; on_goal 2 => (and_intros <;> with_reducible first | exact .inl rfl | exact .inl ⟨rfl, rfl, rfl⟩ | exact .inr ‹_› | exact Nat.le_refl _ | exact Nat.le_add_right _ _))
    | with_reducible apply Keep.foldl

theorem State.rdnReset_good (force : km.part .force) (tim : km.part .tim) (line : km.part .line) (rdn : km.part .rdn)
    (any : ∀ f, km.fld f) (s : State) (hs : s.Keeps km pq) : (State.rdnReset s).Keeps km pq := by
  unfold State.rdnReset
  repeat' first
    | with_reducible assumption
    | (with_reducible (intros; exact any _))
    | ((try lift_lets -underBinder); intro x; refine Keep.use (k := km) (q := pq) (s := x) ?_ ?_; (on_goal 1 => dsimp -zeta only [x]); (on_goal 2 => clear_value x; intro _))
    | ((try lift_lets -underBinder); intro x; refine Keep.usePair (k := km) (q := pq) (p := x) ?_ ?_; (on_goal 1 => dsimp -zeta only [x]); (on_goal 2 => clear_value x; intro _))
    | ((try lift_lets -underBinder); intro x; refine Keep.memSt (x := x) ?_; subst x)
    | ((try lift_lets -underBinder); intro x; refine Keep.depSt (x := x) ?_; subst x)
    | ((try lift_lets -underBinder); intro x; clear_value x)
    | (intro _)
    | with_reducible apply Keep.ite
    | with_reducible apply State.regsReset_good
    | with_reducible apply State.redunChanged_good
    | (simp -zeta only [Keep.mk_iff]; with_reducible refine Keep.upd ?_ rfl ?_; on_goal 2 => (and_intros <;> with_reducible first | exact .inl rfl | exact .inl ⟨rfl, rfl, rfl⟩ | exact .inr ‹_› | exact Nat.le_refl _ | exact Nat.le_add_right _ _))

theorem State.cluReset_good (force : km.part .force) (out : km.part .out) (tim : km.part .tim) (line : km.part .line)
    (clu : km.part .clu) (any : ∀ f, km.fld f) (s : State) (hs : s.Keeps km pq) : (State.cluReset s).Keeps km pq := by
  unfold State.cluReset
  repeat' first
    | with_reducible assumption
    | (with_reducible (intros; exact any _))
    | ((try lift_lets -underBinder); intro x; refine Keep.use (k := km) (q := pq) (s := x) ?_ ?_; (on_goal 1 => dsimp -zeta only [x]); (on_goal 2 => clear_value x; intro _))
    | ((try lift_lets -underBinder); intro x; refine Keep.usePair (k := km) (q := pq) (p := x) ?_ ?_; (on_goal 1 => dsimp -zeta only [x]); (on_goal 2 => clear_value x; intro _))
    | ((try lift_lets -underBinder); intro x; refine Keep.memSt (x := x) ?_; subst x)
    | ((try lift_lets -underBinder); intro x; refine Keep.depSt (x := x) ?_; subst x)
    | ((try lift_lets -underBinder); intro x; clear_value x)
    | (intro _)
    | with_reducible apply State.regsReset_good
    | (simp -zeta only [Keep.mk_iff]; with_reducible refine Keep.upd ?_ rfl ?_; on_goal 2 => (and_intros <;> with_reducible first | exact .inl rfl | exact .inl ⟨rfl, rfl, rfl⟩ | exact .inr ‹_› | exact Nat.le_refl _ | exact Nat.le_add_right _ _))

theorem State.blockReset_good (force : km.part .force) (out : km.part .out) (tim : km.part .tim) (dep : km.part .dep)
    (ing : km.part .ing) (map : km.part .map) (cmp : km.part .cmp) (mem : km.part .mem) (dram : km.part .dram)
    (scn : km.part .scn) (cor : km.part .cor) (rai : km.part .rai) (lfm : km.part .lfm) (hkt : km.part .hkt)
    (line : km.part .line) (rdn : km.part .rdn) (clu : km.part .clu) (que : km.part .que) (mbx : km.part .mbx)
    (klc : km.part .klc) (fwu : km.part .fwu) (any : ∀ f, km.fld f) (s : State) (b : Nat) (wasFrozen : Bool)
    (hs : s.Keeps km pq) : (State.blockReset s b wasFrozen).Keeps km pq := by
  unfold State.blockReset
  repeat' first
    | with_reducible assumption
    | (with_reducible (intros; exact any _))
    | ((try lift_lets -underBinder); intro x; refine Keep.use (k := km) (q := pq) (s := x) ?_ ?_; (on_goal 1 => dsimp -zeta only [x]); (on_goal 2 => clear_value x; intro _))
    | ((try lift_lets -underBinder); intro x; refine Keep.usePair (k := km) (q := pq) (p := x) ?_ ?_; (on_goal 1 => dsimp -zeta only [x]); (on_goal 2 => clear_value x; intro _))
    | ((try lift_lets -underBinder); intro x; refine Keep.memSt (x := x) ?_; subst x)
    | ((try lift_lets -underBinder); intro x; refine Keep.depSt (x := x) ?_; subst x)
    | ((try lift_lets -underBinder); intro x; clear_value x)
    | (intro _)
    | with_reducible apply State.rckReset_good
    | with_reducible apply State.pwrReset_good
    | with_reducible apply State.hktReset_good
    | with_reducible apply State.calReset_good
    | with_reducible apply State.timReset_good
    | with_reducible apply State.depReset_good
    | with_reducible apply State.regsReset_good
    | with_reducible apply State.mbxReset_good
    | with_reducible apply State.fwuReset_good
    | with_reducible apply State.svpReset_good
    | with_reducible apply State.ethReset_good
    | with_reducible apply State.ingReset_good
    | with_reducible apply State.showLoad_good
    | with_reducible apply State.showFree_good
    | with_reducible apply State.followEval_good
    | with_reducible apply State.flowPageReset_good
    | with_reducible apply State.mapReset_good
    | with_reducible apply State.layerReset_good
    | with_reducible apply State.spireReset_good
    | with_reducible apply State.klcSoft_good
    | with_reducible apply State.lnkReset_good
    | with_reducible apply State.lnlReset_good
    | with_reducible apply State.lneReset_good
    | with_reducible apply State.corReset_good
    | with_reducible apply State.scnReset_good
    | with_reducible apply State.raiReset_good
    | with_reducible apply State.lfmReset_good
    | with_reducible apply State.memReset_good
    | with_reducible apply State.parReset_good
    | with_reducible apply State.queReset_good
    | with_reducible apply State.showOld_good
    | with_reducible apply State.rdnReset_good
    | with_reducible apply State.cluReset_good
    | split

theorem State.softReset_good (force : km.part .force) (out : km.part .out) (tim : km.part .tim) (dep : km.part .dep)
    (ing : km.part .ing) (map : km.part .map) (cmp : km.part .cmp) (mem : km.part .mem) (dram : km.part .dram)
    (scn : km.part .scn) (cor : km.part .cor) (rai : km.part .rai) (lfm : km.part .lfm) (hkt : km.part .hkt)
    (line : km.part .line) (rdn : km.part .rdn) (clu : km.part .clu) (que : km.part .que) (mbx : km.part .mbx)
    (klc : km.part .klc) (fwu : km.part .fwu) (any : ∀ f, km.fld f) (s : State) (b : Nat) (hs : s.Keeps km pq) : (State.softReset s b).Keeps km pq := by
  unfold State.softReset
  repeat' first
    | with_reducible assumption
    | (with_reducible (intros; exact any _))
    | ((try lift_lets -underBinder); intro x; refine Keep.use (k := km) (q := pq) (s := x) ?_ ?_; (on_goal 1 => dsimp -zeta only [x]); (on_goal 2 => clear_value x; intro _))
    | ((try lift_lets -underBinder); intro x; refine Keep.usePair (k := km) (q := pq) (p := x) ?_ ?_; (on_goal 1 => dsimp -zeta only [x]); (on_goal 2 => clear_value x; intro _))
    | ((try lift_lets -underBinder); intro x; refine Keep.memSt (x := x) ?_; subst x)
    | ((try lift_lets -underBinder); intro x; refine Keep.depSt (x := x) ?_; subst x)
    | ((try lift_lets -underBinder); intro x; clear_value x)
    | (intro _)
    | with_reducible apply State.headerReset_good
    | with_reducible apply State.blockReset_good
    | with_reducible apply State.stopPicture_good
    | with_reducible apply State.mirrorReset_good

theorem State.modeNextWrite_good (out : km.part .out) (tim : km.part .tim) (line : km.part .line)
    (hDEP_MODE_CHECK_DEP_PENDING : km.fld R.DEP.MODE_CHECK.DEP_PENDING)
    (hDEP_MODE_CHECK_EPOCH_PENDING : km.fld R.DEP.MODE_CHECK.EPOCH_PENDING)
    (hDEP_MODE_CHECK_FIELDS : km.fld R.DEP.MODE_CHECK.FIELDS) (hDEP_MODE_CHECK_RULE : km.fld R.DEP.MODE_CHECK.RULE)
    (hDEP_MODE_CHECK_VALID : km.fld R.DEP.MODE_CHECK.VALID)
    (hDEP_MODE_CTRL_FB_VALID : km.fld R.DEP.MODE_CTRL.FB_VALID)
    (hDEP_MODE_NEXT_CODING_A : km.fld R.DEP.MODE_NEXT.CODING_A)
    (hDEP_MODE_NEXT_CODING_B : km.fld R.DEP.MODE_NEXT.CODING_B) (hDEP_MODE_NEXT_EMIT : km.fld R.DEP.MODE_NEXT.EMIT)
    (hDEP_MODE_NEXT_REDUN : km.fld R.DEP.MODE_NEXT.REDUN) (hDEP_MODE_NEXT_SCAN : km.fld R.DEP.MODE_NEXT.SCAN)
    (hDEP_MODE_NEXT_SINK : km.fld R.DEP.MODE_NEXT.SINK) (hDEP_MODE_NEXT_TIMING : km.fld R.DEP.MODE_NEXT.TIMING)
    (hDEP_MODE_NEXT_VIEWS : km.fld R.DEP.MODE_NEXT.VIEWS) (hPG_EVT_PEND : ∀ a, km.fld (R.PG.EVT_PEND a)) (s : State)
    (v : Nat) (hs : s.Keeps km pq) : (State.modeNextWrite s v).Keeps km pq := by
  unfold State.modeNextWrite
  repeat' first
    | with_reducible assumption
    | with_reducible exact hPG_EVT_PEND _
    | ((try lift_lets -underBinder); intro x; refine Keep.use (k := km) (q := pq) (s := x) ?_ ?_; (on_goal 1 => dsimp -zeta only [x]); (on_goal 2 => clear_value x; intro _))
    | ((try lift_lets -underBinder); intro x; refine Keep.usePair (k := km) (q := pq) (p := x) ?_ ?_; (on_goal 1 => dsimp -zeta only [x]); (on_goal 2 => clear_value x; intro _))
    | ((try lift_lets -underBinder); intro x; refine Keep.memSt (x := x) ?_; subst x)
    | ((try lift_lets -underBinder); intro x; refine Keep.depSt (x := x) ?_; subst x)
    | ((try lift_lets -underBinder); intro x; clear_value x)
    | (intro _)
    | with_reducible apply Keep.ite
    | with_reducible apply State.putModeNext_good
    | with_reducible apply State.emit_good
    | with_reducible apply State.evaluate_good
    | with_reducible apply State.sendChanged_good

theorem State.modeFallbackWrite_good (out : km.part .out)
    (hDEP_MODE_CHECK_DEP_PENDING : km.fld R.DEP.MODE_CHECK.DEP_PENDING)
    (hDEP_MODE_CHECK_EPOCH_PENDING : km.fld R.DEP.MODE_CHECK.EPOCH_PENDING)
    (hDEP_MODE_CHECK_FIELDS : km.fld R.DEP.MODE_CHECK.FIELDS) (hDEP_MODE_CHECK_RULE : km.fld R.DEP.MODE_CHECK.RULE)
    (hDEP_MODE_CHECK_VALID : km.fld R.DEP.MODE_CHECK.VALID)
    (hDEP_MODE_CTRL_FB_VALID : km.fld R.DEP.MODE_CTRL.FB_VALID)
    (hDEP_MODE_FALLBACK_CODING_A : km.fld R.DEP.MODE_FALLBACK.CODING_A)
    (hDEP_MODE_FALLBACK_CODING_B : km.fld R.DEP.MODE_FALLBACK.CODING_B)
    (hDEP_MODE_FALLBACK_REDUN : km.fld R.DEP.MODE_FALLBACK.REDUN)
    (hDEP_MODE_FALLBACK_TIMING : km.fld R.DEP.MODE_FALLBACK.TIMING)
    (hDEP_MODE_FALLBACK_VIEWS : km.fld R.DEP.MODE_FALLBACK.VIEWS) (hPG_EVT_PEND : ∀ a, km.fld (R.PG.EVT_PEND a))
    (s : State) (v : Nat) (hs : s.Keeps km pq) : (State.modeFallbackWrite s v).Keeps km pq := by
  unfold State.modeFallbackWrite
  repeat' first
    | with_reducible assumption
    | with_reducible exact hPG_EVT_PEND _
    | ((try lift_lets -underBinder); intro x; refine Keep.use (k := km) (q := pq) (s := x) ?_ ?_; (on_goal 1 => dsimp -zeta only [x]); (on_goal 2 => clear_value x; intro _))
    | ((try lift_lets -underBinder); intro x; refine Keep.usePair (k := km) (q := pq) (p := x) ?_ ?_; (on_goal 1 => dsimp -zeta only [x]); (on_goal 2 => clear_value x; intro _))
    | ((try lift_lets -underBinder); intro x; refine Keep.memSt (x := x) ?_; subst x)
    | ((try lift_lets -underBinder); intro x; refine Keep.depSt (x := x) ?_; subst x)
    | ((try lift_lets -underBinder); intro x; clear_value x)
    | (intro _)
    | with_reducible apply Keep.ite
    | with_reducible apply State.set_good
    | with_reducible apply State.evaluate_good

theorem execEvtPendClear_good (frc : km.part .frc) (out : km.part .out)
    (hPG_EVT_PEND : ∀ a, km.fld (R.PG.EVT_PEND a)) (b v t : Nat) (s : State) (hs : s.Keeps km pq) : ∀ st, execEvtPendClear b v t s = .next st → st.Keeps km pq := by
  unfold execEvtPendClear
  refine run_good hs (fun s hs => ?_)
  repeat' first
    | with_reducible assumption
    | with_reducible exact hPG_EVT_PEND _
    | (intro _)
    | with_reducible apply State.tick_good
    | with_reducible apply State.header_good
    | with_reducible apply State.evtClear_good

theorem execEvtSet_good (frc : km.part .frc) (out : km.part .out) (hPG_EVT_PEND : ∀ a, km.fld (R.PG.EVT_PEND a))
    (b v t : Nat) (s : State) (hs : s.Keeps km pq) : ∀ st, execEvtSet b v t s = .next st → st.Keeps km pq := by
  unfold execEvtSet
  refine run_good hs (fun s hs => ?_)
  repeat' first
    | with_reducible assumption
    | with_reducible exact hPG_EVT_PEND _
    | (intro _)
    | with_reducible apply State.tick_good
    | with_reducible apply State.header_good
    | with_reducible apply State.evtSet_good

theorem execEvtEnWrite_good (frc : km.part .frc) (out : km.part .out) (line : km.part .line)
    (hPG_EVT_EN : ∀ a, km.fld (R.PG.EVT_EN a)) (hRDN_MIRROR_SEQ_TX : km.fld R.RDN.MIRROR_SEQ.TX) (b v t : Nat)
    (s : State) (hs : s.Keeps km pq) : ∀ st, execEvtEnWrite b v t s = .next st → st.Keeps km pq := by
  unfold execEvtEnWrite
  refine run_good hs (fun s hs => ?_)
  repeat' first
    | with_reducible assumption
    | with_reducible exact hPG_EVT_EN _
    | (intro _)
    | with_reducible apply State.tick_good
    | with_reducible apply State.header_good
    | with_reducible apply State.evtEn_good
    | with_reducible apply State.mirrorReg_good

theorem execErrInfoClear_good (frc : km.part .frc) (hPG_ERR_ADDR_HI : ∀ a, km.fld (R.PG.ERR_ADDR_HI a))
    (hPG_ERR_ADDR_LO : ∀ a, km.fld (R.PG.ERR_ADDR_LO a)) (hPG_ERR_CODE : ∀ a, km.fld (R.PG.ERR_CODE a))
    (hPG_ERR_COUNT : ∀ a, km.fld (R.PG.ERR_COUNT a)) (hPG_ERR_OVERFLOW : ∀ a, km.fld (R.PG.ERR_OVERFLOW a))
    (hPG_ERR_SOURCE : ∀ a, km.fld (R.PG.ERR_SOURCE a)) (hPG_ERR_VALID : ∀ a, km.fld (R.PG.ERR_VALID a)) (b t : Nat)
    (s : State) (hs : s.Keeps km pq) : ∀ st, execErrInfoClear b t s = .next st → st.Keeps km pq := by
  unfold execErrInfoClear
  refine run_good hs (fun s hs => ?_)
  repeat' first
    | with_reducible assumption
    | with_reducible exact hPG_ERR_ADDR_HI _
    | with_reducible exact hPG_ERR_ADDR_LO _
    | with_reducible exact hPG_ERR_CODE _
    | with_reducible exact hPG_ERR_COUNT _
    | with_reducible exact hPG_ERR_OVERFLOW _
    | with_reducible exact hPG_ERR_SOURCE _
    | with_reducible exact hPG_ERR_VALID _
    | (intro _)
    | with_reducible apply State.tick_good
    | with_reducible apply State.header_good
    | with_reducible apply State.errClear_good

theorem execPageEnable_good (frc : km.part .frc) (out : km.part .out) (tim : km.part .tim) (dep : km.part .dep)
    (mem : km.part .mem) (dram : km.part .dram) (scn : km.part .scn) (cor : km.part .cor) (rai : km.part .rai)
    (lfm : km.part .lfm) (line : km.part .line) (rdn : km.part .rdn) (que : km.part .que) (fwu : km.part .fwu)
    (any : ∀ f, km.fld f) (b t : Nat) (s : State) (hs : s.Keeps km pq) : ∀ st, execPageEnable b t s = .next st → st.Keeps km pq := by
  unfold execPageEnable
  refine run_good hs (fun s hs => ?_)
  repeat' first
    | with_reducible assumption
    | (with_reducible (intros; exact any _))
    | (intro _)
    | with_reducible apply State.tick_good
    | with_reducible apply State.header_good
    | with_reducible apply State.writeEn_good
    | with_reducible apply State.mirrorReg_good

theorem execPageDisable_good (frc : km.part .frc) (out : km.part .out) (tim : km.part .tim) (dep : km.part .dep)
    (mem : km.part .mem) (dram : km.part .dram) (scn : km.part .scn) (cor : km.part .cor) (rai : km.part .rai)
    (lfm : km.part .lfm) (line : km.part .line) (rdn : km.part .rdn) (que : km.part .que) (fwu : km.part .fwu)
    (any : ∀ f, km.fld f) (b t : Nat) (s : State) (hs : s.Keeps km pq) : ∀ st, execPageDisable b t s = .next st → st.Keeps km pq := by
  unfold execPageDisable
  refine run_good hs (fun s hs => ?_)
  repeat' first
    | with_reducible assumption
    | (with_reducible (intros; exact any _))
    | (intro _)
    | with_reducible apply State.tick_good
    | with_reducible apply State.header_good
    | with_reducible apply State.writeEn_good
    | with_reducible apply State.mirrorReg_good

theorem execSoftReset_good (frc : km.part .frc) (force : km.part .force) (out : km.part .out) (tim : km.part .tim)
    (dep : km.part .dep) (ing : km.part .ing) (map : km.part .map) (cmp : km.part .cmp) (mem : km.part .mem)
    (dram : km.part .dram) (scn : km.part .scn) (cor : km.part .cor) (rai : km.part .rai) (lfm : km.part .lfm)
    (hkt : km.part .hkt) (line : km.part .line) (rdn : km.part .rdn) (clu : km.part .clu) (que : km.part .que)
    (mbx : km.part .mbx) (klc : km.part .klc) (fwu : km.part .fwu) (any : ∀ f, km.fld f) (b t : Nat) (s : State)
    (hs : s.Keeps km pq) : ∀ st, execSoftReset b t s = .next st → st.Keeps km pq := by
  unfold execSoftReset
  refine run_good hs (fun s hs => ?_)
  repeat' first
    | with_reducible assumption
    | (with_reducible (intros; exact any _))
    | (intro _)
    | with_reducible apply State.tick_good
    | with_reducible apply State.header_good
    | with_reducible apply State.softReset_good

theorem execCommitArm_good (frc : km.part .frc) (out : km.part .out) (map : km.part .map) (cmp : km.part .cmp)
    (scn : km.part .scn) (line : km.part .line) (hDEP_MODE_CHECK_DEP_PENDING : km.fld R.DEP.MODE_CHECK.DEP_PENDING)
    (hDEP_MODE_CHECK_EPOCH_PENDING : km.fld R.DEP.MODE_CHECK.EPOCH_PENDING)
    (hDEP_MODE_CHECK_FIELDS : km.fld R.DEP.MODE_CHECK.FIELDS) (hDEP_MODE_CHECK_RULE : km.fld R.DEP.MODE_CHECK.RULE)
    (hDEP_MODE_CHECK_VALID : km.fld R.DEP.MODE_CHECK.VALID)
    (hDEP_MODE_CTRL_FB_VALID : km.fld R.DEP.MODE_CTRL.FB_VALID) (hPG_COMMIT : ∀ a, km.fld (R.PG.COMMIT a))
    (hPG_COMMIT_PENDING : ∀ a, km.fld (R.PG.COMMIT_PENDING a)) (hPG_EVT_PEND : ∀ a, km.fld (R.PG.EVT_PEND a))
    (hRDN_MIRROR_SEQ_TX : km.fld R.RDN.MIRROR_SEQ.TX) (b t : Nat) (s : State) (hs : s.Keeps km pq) : ∀ st, execCommitArm b t s = .next st → st.Keeps km pq := by
  unfold execCommitArm
  refine run_good hs (fun s hs => ?_)
  repeat' first
    | with_reducible assumption
    | with_reducible exact hPG_COMMIT _
    | with_reducible exact hPG_COMMIT_PENDING _
    | with_reducible exact hPG_EVT_PEND _
    | (intro _)
    | with_reducible apply State.tick_good
    | with_reducible apply State.header_good
    | with_reducible apply State.commitArm_good

theorem execCommitDisarm_good (frc : km.part .frc) (out : km.part .out) (line : km.part .line)
    (hPG_COMMIT : ∀ a, km.fld (R.PG.COMMIT a)) (hPG_COMMIT_PENDING : ∀ a, km.fld (R.PG.COMMIT_PENDING a))
    (hRDN_MIRROR_SEQ_TX : km.fld R.RDN.MIRROR_SEQ.TX) (b t : Nat) (s : State) (hs : s.Keeps km pq) : ∀ st, execCommitDisarm b t s = .next st → st.Keeps km pq := by
  unfold execCommitDisarm
  refine run_good hs (fun s hs => ?_)
  repeat' first
    | with_reducible assumption
    | with_reducible exact hPG_COMMIT _
    | with_reducible exact hPG_COMMIT_PENDING _
    | (intro _)
    | with_reducible apply State.tick_good
    | with_reducible apply State.header_good
    | with_reducible apply State.commitDisarm_good

theorem execFreezePage_good (frc : km.part .frc) (out : km.part .out) (tim : km.part .tim) (dep : km.part .dep)
    (cmp : km.part .cmp) (mem : km.part .mem) (dram : km.part .dram) (scn : km.part .scn) (cor : km.part .cor)
    (rai : km.part .rai) (lfm : km.part .lfm) (line : km.part .line) (rdn : km.part .rdn) (que : km.part .que)
    (fwu : km.part .fwu) (any : ∀ f, km.fld f) (b t : Nat) (s : State) (hs : s.Keeps km pq) : ∀ st, execFreezePage b t s = .next st → st.Keeps km pq := by
  unfold execFreezePage
  refine run_good hs (fun s hs => ?_)
  repeat' first
    | with_reducible assumption
    | (with_reducible (intros; exact any _))
    | (intro _)
    | with_reducible apply State.tick_good
    | with_reducible apply State.header_good
    | with_reducible apply State.writeFreeze_good
    | with_reducible apply State.mirrorReg_good

theorem execUnfreezePage_good (frc : km.part .frc) (out : km.part .out) (tim : km.part .tim) (dep : km.part .dep)
    (cmp : km.part .cmp) (mem : km.part .mem) (dram : km.part .dram) (scn : km.part .scn) (cor : km.part .cor)
    (rai : km.part .rai) (lfm : km.part .lfm) (line : km.part .line) (rdn : km.part .rdn) (que : km.part .que)
    (fwu : km.part .fwu) (any : ∀ f, km.fld f) (b t : Nat) (s : State) (hs : s.Keeps km pq) : ∀ st, execUnfreezePage b t s = .next st → st.Keeps km pq := by
  unfold execUnfreezePage
  refine run_good hs (fun s hs => ?_)
  repeat' first
    | with_reducible assumption
    | (with_reducible (intros; exact any _))
    | (intro _)
    | with_reducible apply State.tick_good
    | with_reducible apply State.header_good
    | with_reducible apply State.writeFreeze_good
    | with_reducible apply State.mirrorReg_good

theorem execHwFreeze_good (frc : km.part .frc) (out : km.part .out) (tim : km.part .tim) (dep : km.part .dep)
    (cmp : km.part .cmp) (mem : km.part .mem) (dram : km.part .dram) (scn : km.part .scn) (cor : km.part .cor)
    (rai : km.part .rai) (lfm : km.part .lfm) (line : km.part .line) (rdn : km.part .rdn) (que : km.part .que)
    (fwu : km.part .fwu) (any : ∀ f, km.fld f) (b t : Nat) (s : State) (hs : s.Keeps km pq) : ∀ st, execHwFreeze b t s = .next st → st.Keeps km pq := by
  unfold execHwFreeze
  refine run_good hs (fun s hs => ?_)
  repeat' first
    | with_reducible assumption
    | (with_reducible (intros; exact any _))
    | (intro _)
    | with_reducible apply State.tick_good
    | with_reducible apply State.header_good
    | with_reducible apply State.hwFreeze_good

theorem execModeNextWrite_good (frc : km.part .frc) (out : km.part .out) (tim : km.part .tim) (line : km.part .line)
    (hDEP_MODE_CHECK_DEP_PENDING : km.fld R.DEP.MODE_CHECK.DEP_PENDING)
    (hDEP_MODE_CHECK_EPOCH_PENDING : km.fld R.DEP.MODE_CHECK.EPOCH_PENDING)
    (hDEP_MODE_CHECK_FIELDS : km.fld R.DEP.MODE_CHECK.FIELDS) (hDEP_MODE_CHECK_RULE : km.fld R.DEP.MODE_CHECK.RULE)
    (hDEP_MODE_CHECK_VALID : km.fld R.DEP.MODE_CHECK.VALID)
    (hDEP_MODE_CTRL_FB_VALID : km.fld R.DEP.MODE_CTRL.FB_VALID)
    (hDEP_MODE_NEXT_CODING_A : km.fld R.DEP.MODE_NEXT.CODING_A)
    (hDEP_MODE_NEXT_CODING_B : km.fld R.DEP.MODE_NEXT.CODING_B) (hDEP_MODE_NEXT_EMIT : km.fld R.DEP.MODE_NEXT.EMIT)
    (hDEP_MODE_NEXT_REDUN : km.fld R.DEP.MODE_NEXT.REDUN) (hDEP_MODE_NEXT_SCAN : km.fld R.DEP.MODE_NEXT.SCAN)
    (hDEP_MODE_NEXT_SINK : km.fld R.DEP.MODE_NEXT.SINK) (hDEP_MODE_NEXT_TIMING : km.fld R.DEP.MODE_NEXT.TIMING)
    (hDEP_MODE_NEXT_VIEWS : km.fld R.DEP.MODE_NEXT.VIEWS) (hPG_EVT_PEND : ∀ a, km.fld (R.PG.EVT_PEND a))
    (hRDN_MIRROR_SEQ_TX : km.fld R.RDN.MIRROR_SEQ.TX) (v t : Nat) (s : State) (hs : s.Keeps km pq) : ∀ st, execModeNextWrite v t s = .next st → st.Keeps km pq := by
  unfold execModeNextWrite
  refine run_good hs (fun s hs => ?_)
  repeat' first
    | with_reducible assumption
    | with_reducible exact hPG_EVT_PEND _
    | (intro _)
    | with_reducible apply State.tick_good
    | with_reducible apply State.modeNextWrite_good
    | with_reducible apply State.mirrorReg_good

theorem execModeFallbackWrite_good (frc : km.part .frc) (out : km.part .out) (line : km.part .line)
    (hDEP_MODE_CHECK_DEP_PENDING : km.fld R.DEP.MODE_CHECK.DEP_PENDING)
    (hDEP_MODE_CHECK_EPOCH_PENDING : km.fld R.DEP.MODE_CHECK.EPOCH_PENDING)
    (hDEP_MODE_CHECK_FIELDS : km.fld R.DEP.MODE_CHECK.FIELDS) (hDEP_MODE_CHECK_RULE : km.fld R.DEP.MODE_CHECK.RULE)
    (hDEP_MODE_CHECK_VALID : km.fld R.DEP.MODE_CHECK.VALID)
    (hDEP_MODE_CTRL_FB_VALID : km.fld R.DEP.MODE_CTRL.FB_VALID)
    (hDEP_MODE_FALLBACK_CODING_A : km.fld R.DEP.MODE_FALLBACK.CODING_A)
    (hDEP_MODE_FALLBACK_CODING_B : km.fld R.DEP.MODE_FALLBACK.CODING_B)
    (hDEP_MODE_FALLBACK_REDUN : km.fld R.DEP.MODE_FALLBACK.REDUN)
    (hDEP_MODE_FALLBACK_TIMING : km.fld R.DEP.MODE_FALLBACK.TIMING)
    (hDEP_MODE_FALLBACK_VIEWS : km.fld R.DEP.MODE_FALLBACK.VIEWS) (hPG_EVT_PEND : ∀ a, km.fld (R.PG.EVT_PEND a))
    (hRDN_MIRROR_SEQ_TX : km.fld R.RDN.MIRROR_SEQ.TX) (v t : Nat) (s : State) (hs : s.Keeps km pq) : ∀ st, execModeFallbackWrite v t s = .next st → st.Keeps km pq := by
  unfold execModeFallbackWrite
  refine run_good hs (fun s hs => ?_)
  repeat' first
    | with_reducible assumption
    | with_reducible exact hPG_EVT_PEND _
    | (intro _)
    | with_reducible apply State.tick_good
    | with_reducible apply State.modeFallbackWrite_good
    | with_reducible apply State.mirrorReg_good

theorem execCardSyncDone_good (frc : km.part .frc) (out : km.part .out) (map : km.part .map) (line : km.part .line)
    (hDEP_MODE_CHECK_DEP_PENDING : km.fld R.DEP.MODE_CHECK.DEP_PENDING)
    (hDEP_MODE_CHECK_EPOCH_PENDING : km.fld R.DEP.MODE_CHECK.EPOCH_PENDING)
    (hDEP_MODE_CHECK_FIELDS : km.fld R.DEP.MODE_CHECK.FIELDS) (hDEP_MODE_CHECK_RULE : km.fld R.DEP.MODE_CHECK.RULE)
    (hDEP_MODE_CHECK_VALID : km.fld R.DEP.MODE_CHECK.VALID)
    (hDEP_MODE_CTRL_FB_VALID : km.fld R.DEP.MODE_CTRL.FB_VALID)
    (hMAP_CARD_STAT_SYNCING : km.fld R.MAP.CARD_STAT.SYNCING) (hPG_BUSY : ∀ a, km.fld (R.PG.BUSY a))
    (hPG_COMMIT : ∀ a, km.fld (R.PG.COMMIT a)) (hPG_COMMIT_PENDING : ∀ a, km.fld (R.PG.COMMIT_PENDING a))
    (hPG_EVT_PEND : ∀ a, km.fld (R.PG.EVT_PEND a)) (hRDN_MIRROR_SEQ_TX : km.fld R.RDN.MIRROR_SEQ.TX) (t : Nat)
    (s : State) (hs : s.Keeps km pq) : ∀ st, execCardSyncDone t s = .next st → st.Keeps km pq := by
  unfold execCardSyncDone
  refine runIn_good hs (fun s hs => ?_)
  repeat' first
    | with_reducible assumption
    | with_reducible exact hPG_BUSY _
    | with_reducible exact hPG_COMMIT _
    | with_reducible exact hPG_COMMIT_PENDING _
    | with_reducible exact hPG_EVT_PEND _
    | (intro _)
    | with_reducible apply State.tick_good
    | with_reducible apply State.cardsSynced_good

theorem execSpireSyncDone_good (frc : km.part .frc) (out : km.part .out) (cmp : km.part .cmp) (line : km.part .line)
    (hPG_BUSY : ∀ a, km.fld (R.PG.BUSY a)) (hPG_COMMIT : ∀ a, km.fld (R.PG.COMMIT a))
    (hPG_COMMIT_PENDING : ∀ a, km.fld (R.PG.COMMIT_PENDING a)) (hPG_EVT_PEND : ∀ a, km.fld (R.PG.EVT_PEND a))
    (hRDN_MIRROR_SEQ_TX : km.fld R.RDN.MIRROR_SEQ.TX) (hSPI_SP_STAT_SYNCING : km.fld R.SPI.SP_STAT.SYNCING) (t : Nat)
    (s : State) (hs : s.Keeps km pq) : ∀ st, execSpireSyncDone t s = .next st → st.Keeps km pq := by
  unfold execSpireSyncDone
  refine runIn_good hs (fun s hs => ?_)
  repeat' first
    | with_reducible assumption
    | with_reducible exact hPG_BUSY _
    | with_reducible exact hPG_COMMIT _
    | with_reducible exact hPG_COMMIT_PENDING _
    | with_reducible exact hPG_EVT_PEND _
    | (intro _)
    | with_reducible apply State.tick_good
    | with_reducible apply State.spireSynced_good

theorem execTtSyncDone_good (frc : km.part .frc) (out : km.part .out) (scn : km.part .scn)
    (hDEP_MODE_CHECK_DEP_PENDING : km.fld R.DEP.MODE_CHECK.DEP_PENDING)
    (hDEP_MODE_CHECK_EPOCH_PENDING : km.fld R.DEP.MODE_CHECK.EPOCH_PENDING)
    (hDEP_MODE_CHECK_FIELDS : km.fld R.DEP.MODE_CHECK.FIELDS) (hDEP_MODE_CHECK_RULE : km.fld R.DEP.MODE_CHECK.RULE)
    (hDEP_MODE_CHECK_VALID : km.fld R.DEP.MODE_CHECK.VALID)
    (hDEP_MODE_CTRL_FB_VALID : km.fld R.DEP.MODE_CTRL.FB_VALID) (hPG_COMMIT : ∀ a, km.fld (R.PG.COMMIT a))
    (hPG_COMMIT_PENDING : ∀ a, km.fld (R.PG.COMMIT_PENDING a)) (hPG_EVT_PEND : ∀ a, km.fld (R.PG.EVT_PEND a))
    (hSCN_TT_STAT_SYNCING : km.fld R.SCN.TT_STAT.SYNCING) (t : Nat) (s : State) (hs : s.Keeps km pq) : ∀ st, execTtSyncDone t s = .next st → st.Keeps km pq := by
  unfold execTtSyncDone
  refine runIn_good hs (fun s hs => ?_)
  repeat' first
    | with_reducible assumption
    | with_reducible exact hPG_COMMIT _
    | with_reducible exact hPG_COMMIT_PENDING _
    | with_reducible exact hPG_EVT_PEND _
    | (intro _)
    | with_reducible apply State.tick_good
    | with_reducible apply State.ttSynced_good

end Sys2Proof.Machine
end

