-- ==== Sys2Proof/Laws/KeepsLine.lean ====
section
/-!
SUPPORT. Every function of Machine/Line.lean changes what the hypotheses of its lemma name, and nothing else.
-/
namespace Sys2Proof.Machine
set_option Elab.async false
set_option linter.unusedVariables false
set_option linter.unusedTactic false
set_option linter.unreachableTactic false

variable {km : May} {pq : State}

theorem State.keepWidth_good (tim : km.part .tim) (line : km.part .line)
    (hTIM_DOM_OFFSET_OFFSET : ∀ a, km.fld (R.TIM.DOM_OFFSET.OFFSET a))
    (hTIM_DOM_RATE_RATE : ∀ a, km.fld (R.TIM.DOM_RATE.RATE a)) (s : State) (p : Nat) (m : LinkStateMsg)
    (hs : s.Keeps km pq) : (State.keepWidth s p m).Keeps km pq := by
  unfold State.keepWidth
  repeat' first
    | with_reducible assumption
    | with_reducible exact hTIM_DOM_OFFSET_OFFSET _
    | with_reducible exact hTIM_DOM_RATE_RATE _
    | ((try lift_lets -underBinder); intro x; refine Keep.use (k := km) (q := pq) (s := x) ?_ ?_; (on_goal 1 => dsimp -zeta only [x]); (on_goal 2 => clear_value x; intro _))
    | ((try lift_lets -underBinder); intro x; refine Keep.usePair (k := km) (q := pq) (p := x) ?_ ?_; (on_goal 1 => dsimp -zeta only [x]); (on_goal 2 => clear_value x; intro _))
    | ((try lift_lets -underBinder); intro x; refine Keep.memSt (x := x) ?_; subst x)
    | ((try lift_lets -underBinder); intro x; refine Keep.depSt (x := x) ?_; subst x)
    | ((try lift_lets -underBinder); intro x; clear_value x)
    | (intro _)
    | with_reducible apply Keep.ite
    | with_reducible apply State.filter_good
    | with_reducible apply State.setLineTx_good

theorem State.linkStateSender_good (out : km.part .out) (tim : km.part .tim) (dep : km.part .dep)
    (mem : km.part .mem) (dram : km.part .dram) (scn : km.part .scn) (cor : km.part .cor) (rai : km.part .rai)
    (lfm : km.part .lfm) (line : km.part .line) (rdn : km.part .rdn) (que : km.part .que) (any : ∀ f, km.fld f)
    (s : State) (p : Nat) (m : LinkStateMsg) (hs : s.Keeps km pq) : (State.linkStateSender s p m).Keeps km pq := by
  unfold State.linkStateSender
  repeat' first
    | with_reducible assumption
    | (with_reducible (intros; exact any _))
    | ((try lift_lets -underBinder); intro x; refine Keep.use (k := km) (q := pq) (s := x) ?_ ?_; (on_goal 1 => dsimp -zeta only [x]); (on_goal 2 => clear_value x; intro _))
    | ((try lift_lets -underBinder); intro x; refine Keep.usePair (k := km) (q := pq) (p := x) ?_ ?_; (on_goal 1 => dsimp -zeta only [x]); (on_goal 2 => clear_value x; intro _))
    | ((try lift_lets -underBinder); intro x; refine Keep.memSt (x := x) ?_; subst x)
    | ((try lift_lets -underBinder); intro x; refine Keep.depSt (x := x) ?_; subst x)
    | ((try lift_lets -underBinder); intro x; clear_value x)
    | (intro _)
    | with_reducible apply Keep.ite
    | with_reducible apply State.streamFail_good
    | with_reducible apply State.keepWidth_good
    | with_reducible apply State.setN_good
    | with_reducible apply State.showLine_good
    | with_reducible apply State.enumStart_good

theorem State.linkState_good (out : km.part .out) (tim : km.part .tim) (dep : km.part .dep) (mem : km.part .mem)
    (dram : km.part .dram) (scn : km.part .scn) (cor : km.part .cor) (rai : km.part .rai) (lfm : km.part .lfm)
    (line : km.part .line) (rdn : km.part .rdn) (que : km.part .que) (any : ∀ f, km.fld f) (s : State) (p : Nat)
    (m : LinkStateMsg) (hs : s.Keeps km pq) : (State.linkState s p m).Keeps km pq := by
  unfold State.linkState
  repeat' first
    | with_reducible assumption
    | (with_reducible (intros; exact any _))
    | ((try lift_lets -underBinder); intro x; refine Keep.use (k := km) (q := pq) (s := x) ?_ ?_; (on_goal 1 => dsimp -zeta only [x]); (on_goal 2 => clear_value x; intro _))
    | ((try lift_lets -underBinder); intro x; refine Keep.usePair (k := km) (q := pq) (p := x) ?_ ?_; (on_goal 1 => dsimp -zeta only [x]); (on_goal 2 => clear_value x; intro _))
    | ((try lift_lets -underBinder); intro x; refine Keep.memSt (x := x) ?_; subst x)
    | ((try lift_lets -underBinder); intro x; refine Keep.depSt (x := x) ?_; subst x)
    | ((try lift_lets -underBinder); intro x; clear_value x)
    | (intro _)
    | with_reducible apply Keep.ite
    | with_reducible apply State.linkStateSender_good
    | with_reducible apply State.streamFail_good
    | split

theorem State.enumAt_good (out : km.part .out) (line : km.part .line)
    (hLNE_TILE_STOP_STOP_D : ∀ a, km.fld (R.LNE.TILE_STOP.STOP_D a))
    (hLNE_TILE_STOP_STOP_U : ∀ a, km.fld (R.LNE.TILE_STOP.STOP_U a)) (s : State) (p : Nat) (m : EnumMsg)
    (hs : s.Keeps km pq) : (State.enumAt s p m).Keeps km pq := by
  unfold State.enumAt
  repeat' first
    | with_reducible assumption
    | with_reducible exact hLNE_TILE_STOP_STOP_D _
    | with_reducible exact hLNE_TILE_STOP_STOP_U _
    | (show km.fld _; split <;> first | assumption | exact hLNE_TILE_STOP_STOP_D _ | exact hLNE_TILE_STOP_STOP_U _)
    | ((try lift_lets -underBinder); intro x; refine Keep.use (k := km) (q := pq) (s := x) ?_ ?_; (on_goal 1 => dsimp -zeta only [x]); (on_goal 2 => clear_value x; intro _))
    | ((try lift_lets -underBinder); intro x; refine Keep.usePair (k := km) (q := pq) (p := x) ?_ ?_; (on_goal 1 => dsimp -zeta only [x]); (on_goal 2 => clear_value x; intro _))
    | ((try lift_lets -underBinder); intro x; refine Keep.memSt (x := x) ?_; subst x)
    | ((try lift_lets -underBinder); intro x; refine Keep.depSt (x := x) ?_; subst x)
    | ((try lift_lets -underBinder); intro x; clear_value x)
    | (intro _)
    | with_reducible apply Keep.ite
    | with_reducible apply State.set_good
    | with_reducible apply State.send_good

theorem State.takeSerials_good (out : km.part .out) (tim : km.part .tim) (line : km.part .line)
    (hLNE_TEL_STAT_CHANGED : ∀ a, km.fld (R.LNE.TEL_STAT.CHANGED a)) (hPG_EVT_PEND : ∀ a, km.fld (R.PG.EVT_PEND a))
    (hTIM_DOM_OFFSET_OFFSET : ∀ a, km.fld (R.TIM.DOM_OFFSET.OFFSET a))
    (hTIM_DOM_RATE_RATE : ∀ a, km.fld (R.TIM.DOM_RATE.RATE a)) (s : State) (p : Nat) (l : List EnumRsp)
    (hs : s.Keeps km pq) : (State.takeSerials s p l).Keeps km pq := by
  unfold State.takeSerials
  repeat' first
    | with_reducible assumption
    | with_reducible exact hLNE_TEL_STAT_CHANGED _
    | with_reducible exact hPG_EVT_PEND _
    | with_reducible exact hTIM_DOM_OFFSET_OFFSET _
    | with_reducible exact hTIM_DOM_RATE_RATE _
    | ((try lift_lets -underBinder); intro x; refine Keep.use (k := km) (q := pq) (s := x) ?_ ?_; (on_goal 1 => dsimp -zeta only [x]); (on_goal 2 => clear_value x; intro _))
    | ((try lift_lets -underBinder); intro x; refine Keep.usePair (k := km) (q := pq) (p := x) ?_ ?_; (on_goal 1 => dsimp -zeta only [x]); (on_goal 2 => clear_value x; intro _))
    | ((try lift_lets -underBinder); intro x; refine Keep.memSt (x := x) ?_; subst x)
    | ((try lift_lets -underBinder); intro x; refine Keep.depSt (x := x) ?_; subst x)
    | ((try lift_lets -underBinder); intro x; clear_value x)
    | (intro _)
    | with_reducible apply Keep.ite
    | with_reducible apply State.filter_good
    | with_reducible apply State.setLineTx_good
    | with_reducible apply State.set_good
    | with_reducible apply State.ev_good

theorem State.checkSkew_good (out : km.part .out) (tim : km.part .tim)
    (hLNE_TEL_STAT_SKEW : ∀ a, km.fld (R.LNE.TEL_STAT.SKEW a)) (hPG_ERR_ADDR_HI : ∀ a, km.fld (R.PG.ERR_ADDR_HI a))
    (hPG_ERR_ADDR_LO : ∀ a, km.fld (R.PG.ERR_ADDR_LO a)) (hPG_ERR_CODE : ∀ a, km.fld (R.PG.ERR_CODE a))
    (hPG_ERR_COUNT : ∀ a, km.fld (R.PG.ERR_COUNT a)) (hPG_ERR_OVERFLOW : ∀ a, km.fld (R.PG.ERR_OVERFLOW a))
    (hPG_ERR_SOURCE : ∀ a, km.fld (R.PG.ERR_SOURCE a)) (hPG_ERR_VALID : ∀ a, km.fld (R.PG.ERR_VALID a))
    (hPG_EVT_PEND : ∀ a, km.fld (R.PG.EVT_PEND a)) (hTIM_DOM_OFFSET_OFFSET : ∀ a, km.fld (R.TIM.DOM_OFFSET.OFFSET a))
    (hTIM_DOM_RATE_RATE : ∀ a, km.fld (R.TIM.DOM_RATE.RATE a)) (s : State) (p n : Nat) (l : List EnumRsp)
    (hs : s.Keeps km pq) : (State.checkSkew s p n l).Keeps km pq := by
  unfold State.checkSkew
  repeat' first
    | with_reducible assumption
    | with_reducible exact hLNE_TEL_STAT_SKEW _
    | with_reducible exact hPG_ERR_ADDR_HI _
    | with_reducible exact hPG_ERR_ADDR_LO _
    | with_reducible exact hPG_ERR_CODE _
    | with_reducible exact hPG_ERR_COUNT _
    | with_reducible exact hPG_ERR_OVERFLOW _
    | with_reducible exact hPG_ERR_SOURCE _
    | with_reducible exact hPG_ERR_VALID _
    | with_reducible exact hPG_EVT_PEND _
    | with_reducible exact hTIM_DOM_OFFSET_OFFSET _
    | with_reducible exact hTIM_DOM_RATE_RATE _
    | ((try lift_lets -underBinder); intro x; refine Keep.use (k := km) (q := pq) (s := x) ?_ ?_; (on_goal 1 => dsimp -zeta only [x]); (on_goal 2 => clear_value x; intro _))
    | ((try lift_lets -underBinder); intro x; refine Keep.usePair (k := km) (q := pq) (p := x) ?_ ?_; (on_goal 1 => dsimp -zeta only [x]); (on_goal 2 => clear_value x; intro _))
    | ((try lift_lets -underBinder); intro x; refine Keep.memSt (x := x) ?_; subst x)
    | ((try lift_lets -underBinder); intro x; refine Keep.depSt (x := x) ?_; subst x)
    | ((try lift_lets -underBinder); intro x; clear_value x)
    | (intro _)
    | with_reducible apply Keep.ite
    | with_reducible apply State.filter_good
    | with_reducible apply State.set_good
    | with_reducible apply State.err_good
    | with_reducible apply State.ev_good

theorem State.enumEnd_good (out : km.part .out) (tim : km.part .tim) (dep : km.part .dep) (line : km.part .line)
    (hLNE_LNE_STAT_ENUM_BUSY : ∀ a, km.fld (R.LNE.LNE_STAT.ENUM_BUSY a))
    (hLNE_LNE_STAT_ENUM_SHORT : ∀ a, km.fld (R.LNE.LNE_STAT.ENUM_SHORT a))
    (hLNE_LNE_STAT_N : ∀ a, km.fld (R.LNE.LNE_STAT.N a))
    (hLNE_LNE_STAT_OVERLONG : ∀ a, km.fld (R.LNE.LNE_STAT.OVERLONG a))
    (hLNE_TEL_STAT_CHANGED : ∀ a, km.fld (R.LNE.TEL_STAT.CHANGED a))
    (hLNE_TEL_STAT_SILENT : ∀ a, km.fld (R.LNE.TEL_STAT.SILENT a))
    (hLNE_TEL_STAT_SKEW : ∀ a, km.fld (R.LNE.TEL_STAT.SKEW a))
    (hLNE_TXN_TMO_EFF_US : ∀ a, km.fld (R.LNE.TXN_TMO.EFF_US a))
    (hLNK_LINE_STAT_LINE_WIDTH : ∀ a, km.fld (R.LNK.LINE_STAT.LINE_WIDTH a))
    (hLNK_LINE_STAT_NARROW_STOP : ∀ a, km.fld (R.LNK.LINE_STAT.NARROW_STOP a))
    (hPG_ERR_ADDR_HI : ∀ a, km.fld (R.PG.ERR_ADDR_HI a)) (hPG_ERR_ADDR_LO : ∀ a, km.fld (R.PG.ERR_ADDR_LO a))
    (hPG_ERR_CODE : ∀ a, km.fld (R.PG.ERR_CODE a)) (hPG_ERR_COUNT : ∀ a, km.fld (R.PG.ERR_COUNT a))
    (hPG_ERR_OVERFLOW : ∀ a, km.fld (R.PG.ERR_OVERFLOW a)) (hPG_ERR_SOURCE : ∀ a, km.fld (R.PG.ERR_SOURCE a))
    (hPG_ERR_VALID : ∀ a, km.fld (R.PG.ERR_VALID a)) (hPG_EVT_PEND : ∀ a, km.fld (R.PG.EVT_PEND a))
    (hTIM_DOM_OFFSET_OFFSET : ∀ a, km.fld (R.TIM.DOM_OFFSET.OFFSET a))
    (hTIM_DOM_RATE_RATE : ∀ a, km.fld (R.TIM.DOM_RATE.RATE a)) (s : State) (p : Nat) (short : Bool)
    (hs : s.Keeps km pq) : (State.enumEnd s p short).Keeps km pq := by
  unfold State.enumEnd
  repeat' first
    | with_reducible assumption
    | with_reducible exact hLNE_LNE_STAT_ENUM_BUSY _
    | with_reducible exact hLNE_LNE_STAT_ENUM_SHORT _
    | with_reducible exact hLNE_LNE_STAT_N _
    | with_reducible exact hLNE_LNE_STAT_OVERLONG _
    | with_reducible exact hLNE_TEL_STAT_CHANGED _
    | with_reducible exact hLNE_TEL_STAT_SILENT _
    | with_reducible exact hLNE_TEL_STAT_SKEW _
    | with_reducible exact hLNE_TXN_TMO_EFF_US _
    | with_reducible exact hLNK_LINE_STAT_LINE_WIDTH _
    | with_reducible exact hLNK_LINE_STAT_NARROW_STOP _
    | with_reducible exact hPG_ERR_ADDR_HI _
    | with_reducible exact hPG_ERR_ADDR_LO _
    | with_reducible exact hPG_ERR_CODE _
    | with_reducible exact hPG_ERR_COUNT _
    | with_reducible exact hPG_ERR_OVERFLOW _
    | with_reducible exact hPG_ERR_SOURCE _
    | with_reducible exact hPG_ERR_VALID _
    | with_reducible exact hPG_EVT_PEND _
    | with_reducible exact hTIM_DOM_OFFSET_OFFSET _
    | with_reducible exact hTIM_DOM_RATE_RATE _
    | ((try lift_lets -underBinder); intro x; refine Keep.use (k := km) (q := pq) (s := x) ?_ ?_; (on_goal 1 => dsimp -zeta only [x]); (on_goal 2 => clear_value x; intro _))
    | ((try lift_lets -underBinder); intro x; refine Keep.usePair (k := km) (q := pq) (p := x) ?_ ?_; (on_goal 1 => dsimp -zeta only [x]); (on_goal 2 => clear_value x; intro _))
    | ((try lift_lets -underBinder); intro x; refine Keep.memSt (x := x) ?_; subst x)
    | ((try lift_lets -underBinder); intro x; refine Keep.depSt (x := x) ?_; subst x)
    | ((try lift_lets -underBinder); intro x; clear_value x)
    | (intro _)
    | with_reducible apply Keep.ite
    | with_reducible apply State.set_good
    | with_reducible apply State.enumAbandon_good
    | with_reducible apply State.err_good
    | with_reducible apply State.ev_good
    | with_reducible apply State.numberTo_good
    | with_reducible apply State.takeSerials_good
    | with_reducible apply State.checkSkew_good
    | with_reducible apply State.showLine_good
    | split

theorem State.enumRspAt_good (out : km.part .out) (tim : km.part .tim) (dep : km.part .dep) (line : km.part .line)
    (hLNE_LNE_STAT_ENUM_BUSY : ∀ a, km.fld (R.LNE.LNE_STAT.ENUM_BUSY a))
    (hLNE_LNE_STAT_ENUM_SHORT : ∀ a, km.fld (R.LNE.LNE_STAT.ENUM_SHORT a))
    (hLNE_LNE_STAT_N : ∀ a, km.fld (R.LNE.LNE_STAT.N a))
    (hLNE_LNE_STAT_OVERLONG : ∀ a, km.fld (R.LNE.LNE_STAT.OVERLONG a))
    (hLNE_TEL_STAT_CHANGED : ∀ a, km.fld (R.LNE.TEL_STAT.CHANGED a))
    (hLNE_TEL_STAT_SILENT : ∀ a, km.fld (R.LNE.TEL_STAT.SILENT a))
    (hLNE_TEL_STAT_SKEW : ∀ a, km.fld (R.LNE.TEL_STAT.SKEW a))
    (hLNE_TXN_TMO_EFF_US : ∀ a, km.fld (R.LNE.TXN_TMO.EFF_US a))
    (hLNK_LINE_STAT_LINE_WIDTH : ∀ a, km.fld (R.LNK.LINE_STAT.LINE_WIDTH a))
    (hLNK_LINE_STAT_NARROW_STOP : ∀ a, km.fld (R.LNK.LINE_STAT.NARROW_STOP a))
    (hPG_ERR_ADDR_HI : ∀ a, km.fld (R.PG.ERR_ADDR_HI a)) (hPG_ERR_ADDR_LO : ∀ a, km.fld (R.PG.ERR_ADDR_LO a))
    (hPG_ERR_CODE : ∀ a, km.fld (R.PG.ERR_CODE a)) (hPG_ERR_COUNT : ∀ a, km.fld (R.PG.ERR_COUNT a))
    (hPG_ERR_OVERFLOW : ∀ a, km.fld (R.PG.ERR_OVERFLOW a)) (hPG_ERR_SOURCE : ∀ a, km.fld (R.PG.ERR_SOURCE a))
    (hPG_ERR_VALID : ∀ a, km.fld (R.PG.ERR_VALID a)) (hPG_EVT_PEND : ∀ a, km.fld (R.PG.EVT_PEND a))
    (hTIM_DOM_OFFSET_OFFSET : ∀ a, km.fld (R.TIM.DOM_OFFSET.OFFSET a))
    (hTIM_DOM_RATE_RATE : ∀ a, km.fld (R.TIM.DOM_RATE.RATE a)) (s : State) (p : Nat) (r : EnumRsp)
    (hs : s.Keeps km pq) : (State.enumRspAt s p r).Keeps km pq := by
  unfold State.enumRspAt
  repeat' first
    | with_reducible assumption
    | with_reducible exact hLNE_LNE_STAT_ENUM_BUSY _
    | with_reducible exact hLNE_LNE_STAT_ENUM_SHORT _
    | with_reducible exact hLNE_LNE_STAT_N _
    | with_reducible exact hLNE_LNE_STAT_OVERLONG _
    | with_reducible exact hLNE_TEL_STAT_CHANGED _
    | with_reducible exact hLNE_TEL_STAT_SILENT _
    | with_reducible exact hLNE_TEL_STAT_SKEW _
    | with_reducible exact hLNE_TXN_TMO_EFF_US _
    | with_reducible exact hLNK_LINE_STAT_LINE_WIDTH _
    | with_reducible exact hLNK_LINE_STAT_NARROW_STOP _
    | with_reducible exact hPG_ERR_ADDR_HI _
    | with_reducible exact hPG_ERR_ADDR_LO _
    | with_reducible exact hPG_ERR_CODE _
    | with_reducible exact hPG_ERR_COUNT _
    | with_reducible exact hPG_ERR_OVERFLOW _
    | with_reducible exact hPG_ERR_SOURCE _
    | with_reducible exact hPG_ERR_VALID _
    | with_reducible exact hPG_EVT_PEND _
    | with_reducible exact hTIM_DOM_OFFSET_OFFSET _
    | with_reducible exact hTIM_DOM_RATE_RATE _
    | ((try lift_lets -underBinder); intro x; refine Keep.use (k := km) (q := pq) (s := x) ?_ ?_; (on_goal 1 => dsimp -zeta only [x]); (on_goal 2 => clear_value x; intro _))
    | ((try lift_lets -underBinder); intro x; refine Keep.usePair (k := km) (q := pq) (p := x) ?_ ?_; (on_goal 1 => dsimp -zeta only [x]); (on_goal 2 => clear_value x; intro _))
    | ((try lift_lets -underBinder); intro x; refine Keep.memSt (x := x) ?_; subst x)
    | ((try lift_lets -underBinder); intro x; refine Keep.depSt (x := x) ?_; subst x)
    | ((try lift_lets -underBinder); intro x; clear_value x)
    | (intro _)
    | with_reducible apply Keep.ite
    | with_reducible apply State.filter_good
    | with_reducible apply State.setLineTx_good
    | with_reducible apply State.enumEnd_good

theorem State.enumTimeout_good (out : km.part .out) (tim : km.part .tim) (dep : km.part .dep) (line : km.part .line)
    (hLNE_LNE_STAT_ENUM_BUSY : ∀ a, km.fld (R.LNE.LNE_STAT.ENUM_BUSY a))
    (hLNE_LNE_STAT_ENUM_SHORT : ∀ a, km.fld (R.LNE.LNE_STAT.ENUM_SHORT a))
    (hLNE_LNE_STAT_N : ∀ a, km.fld (R.LNE.LNE_STAT.N a))
    (hLNE_LNE_STAT_OVERLONG : ∀ a, km.fld (R.LNE.LNE_STAT.OVERLONG a))
    (hLNE_TEL_STAT_CHANGED : ∀ a, km.fld (R.LNE.TEL_STAT.CHANGED a))
    (hLNE_TEL_STAT_SILENT : ∀ a, km.fld (R.LNE.TEL_STAT.SILENT a))
    (hLNE_TEL_STAT_SKEW : ∀ a, km.fld (R.LNE.TEL_STAT.SKEW a))
    (hLNE_TXN_TMO_EFF_US : ∀ a, km.fld (R.LNE.TXN_TMO.EFF_US a))
    (hLNK_LINE_STAT_LINE_WIDTH : ∀ a, km.fld (R.LNK.LINE_STAT.LINE_WIDTH a))
    (hLNK_LINE_STAT_NARROW_STOP : ∀ a, km.fld (R.LNK.LINE_STAT.NARROW_STOP a))
    (hPG_ERR_ADDR_HI : ∀ a, km.fld (R.PG.ERR_ADDR_HI a)) (hPG_ERR_ADDR_LO : ∀ a, km.fld (R.PG.ERR_ADDR_LO a))
    (hPG_ERR_CODE : ∀ a, km.fld (R.PG.ERR_CODE a)) (hPG_ERR_COUNT : ∀ a, km.fld (R.PG.ERR_COUNT a))
    (hPG_ERR_OVERFLOW : ∀ a, km.fld (R.PG.ERR_OVERFLOW a)) (hPG_ERR_SOURCE : ∀ a, km.fld (R.PG.ERR_SOURCE a))
    (hPG_ERR_VALID : ∀ a, km.fld (R.PG.ERR_VALID a)) (hPG_EVT_PEND : ∀ a, km.fld (R.PG.EVT_PEND a))
    (hTIM_DOM_OFFSET_OFFSET : ∀ a, km.fld (R.TIM.DOM_OFFSET.OFFSET a))
    (hTIM_DOM_RATE_RATE : ∀ a, km.fld (R.TIM.DOM_RATE.RATE a)) (s : State) (p : Nat) (hs : s.Keeps km pq) : (State.enumTimeout s p).Keeps km pq := by
  unfold State.enumTimeout
  repeat' first
    | with_reducible assumption
    | with_reducible exact hLNE_LNE_STAT_ENUM_BUSY _
    | with_reducible exact hLNE_LNE_STAT_ENUM_SHORT _
    | with_reducible exact hLNE_LNE_STAT_N _
    | with_reducible exact hLNE_LNE_STAT_OVERLONG _
    | with_reducible exact hLNE_TEL_STAT_CHANGED _
    | with_reducible exact hLNE_TEL_STAT_SILENT _
    | with_reducible exact hLNE_TEL_STAT_SKEW _
    | with_reducible exact hLNE_TXN_TMO_EFF_US _
    | with_reducible exact hLNK_LINE_STAT_LINE_WIDTH _
    | with_reducible exact hLNK_LINE_STAT_NARROW_STOP _
    | with_reducible exact hPG_ERR_ADDR_HI _
    | with_reducible exact hPG_ERR_ADDR_LO _
    | with_reducible exact hPG_ERR_CODE _
    | with_reducible exact hPG_ERR_COUNT _
    | with_reducible exact hPG_ERR_OVERFLOW _
    | with_reducible exact hPG_ERR_SOURCE _
    | with_reducible exact hPG_ERR_VALID _
    | with_reducible exact hPG_EVT_PEND _
    | with_reducible exact hTIM_DOM_OFFSET_OFFSET _
    | with_reducible exact hTIM_DOM_RATE_RATE _
    | (intro _)
    | with_reducible apply Keep.ite
    | with_reducible apply State.enumEnd_good

theorem State.respond_good (out : km.part .out) (line : km.part .line) (s : State) (p : Nat) (m : ReqMsg)
    (didx : Nat) (r : RspMsg) (hs : s.Keeps km pq) : (State.respond s p m didx r).Keeps km pq := by
  unfold State.respond
  repeat' first
    | with_reducible assumption
    | ((try lift_lets -underBinder); intro x; refine Keep.use (k := km) (q := pq) (s := x) ?_ ?_; (on_goal 1 => dsimp -zeta only [x]); (on_goal 2 => clear_value x; intro _))
    | ((try lift_lets -underBinder); intro x; refine Keep.usePair (k := km) (q := pq) (p := x) ?_ ?_; (on_goal 1 => dsimp -zeta only [x]); (on_goal 2 => clear_value x; intro _))
    | ((try lift_lets -underBinder); intro x; refine Keep.memSt (x := x) ?_; subst x)
    | ((try lift_lets -underBinder); intro x; refine Keep.depSt (x := x) ?_; subst x)
    | ((try lift_lets -underBinder); intro x; clear_value x)
    | (intro _)
    | with_reducible apply Keep.ite
    | with_reducible apply State.send_good

theorem State.putWin_good (out : km.part .out) (tim : km.part .tim) (line : km.part .line)
    (hPG_EVT_PEND : ∀ a, km.fld (R.PG.EVT_PEND a)) (hQUE_DUP_EVICT_COUNT : km.fld R.QUE.DUP_EVICT.COUNT)
    (hTIM_DOM_OFFSET_OFFSET : ∀ a, km.fld (R.TIM.DOM_OFFSET.OFFSET a))
    (hTIM_DOM_RATE_RATE : ∀ a, km.fld (R.TIM.DOM_RATE.RATE a)) (s : State) (w : DupWin) (hs : s.Keeps km pq) : (State.putWin s w).Keeps km pq := by
  unfold State.putWin
  repeat' first
    | with_reducible assumption
    | with_reducible exact hPG_EVT_PEND _
    | with_reducible exact hTIM_DOM_OFFSET_OFFSET _
    | with_reducible exact hTIM_DOM_RATE_RATE _
    | ((try lift_lets -underBinder); intro x; refine Keep.use (k := km) (q := pq) (s := x) ?_ ?_; (on_goal 1 => dsimp -zeta only [x]); (on_goal 2 => clear_value x; intro _))
    | ((try lift_lets -underBinder); intro x; refine Keep.usePair (k := km) (q := pq) (p := x) ?_ ?_; (on_goal 1 => dsimp -zeta only [x]); (on_goal 2 => clear_value x; intro _))
    | ((try lift_lets -underBinder); intro x; refine Keep.memSt (x := x) ?_; subst x)
    | ((try lift_lets -underBinder); intro x; refine Keep.depSt (x := x) ?_; subst x)
    | ((try lift_lets -underBinder); intro x; clear_value x)
    | (intro _)
    | with_reducible apply Keep.ite
    | with_reducible apply State.filter_good
    | with_reducible apply State.count_good
    | with_reducible apply State.ev_good
    | (simp -zeta only [Keep.mk_iff]; with_reducible refine Keep.upd ?_ rfl ?_; on_goal 2 => (and_intros <;> with_reducible first | exact .inl rfl | exact .inl ⟨rfl, rfl, rfl⟩ | exact .inr ‹_› | exact Nat.le_refl _ | exact Nat.le_add_right _ _))

theorem State.releaseDone_good (out : km.part .out) (line : km.part .line) (s : State) (hs : s.Keeps km pq) : (State.releaseDone s).Keeps km pq := by
  unfold State.releaseDone
  repeat' first
    | with_reducible assumption
    | ((try lift_lets -underBinder); intro x; refine Keep.use (k := km) (q := pq) (s := x) ?_ ?_; (on_goal 1 => dsimp -zeta only [x]); (on_goal 2 => clear_value x; intro _))
    | ((try lift_lets -underBinder); intro x; refine Keep.usePair (k := km) (q := pq) (p := x) ?_ ?_; (on_goal 1 => dsimp -zeta only [x]); (on_goal 2 => clear_value x; intro _))
    | ((try lift_lets -underBinder); intro x; refine Keep.memSt (x := x) ?_; subst x)
    | ((try lift_lets -underBinder); intro x; refine Keep.depSt (x := x) ?_; subst x)
    | ((try lift_lets -underBinder); intro x; clear_value x)
    | (intro _)
    | with_reducible apply Keep.ite
    | with_reducible apply Keep.ite1
    | dsimp -zeta only
    | with_reducible apply State.respond_good
    | split
    | with_reducible refine Keep.fst (by assumption) ?_
    | (simp -zeta only [Keep.mk_iff]; with_reducible refine Keep.upd ?_ rfl ?_; on_goal 2 => (and_intros <;> with_reducible first | exact .inl rfl | exact .inl ⟨rfl, rfl, rfl⟩ | exact .inr ‹_› | exact Nat.le_refl _ | exact Nat.le_add_right _ _))
    | with_reducible apply Keep.foldl
    | with_reducible apply Keep.foldl1

theorem State.repeatOf_good (out : km.part .out) (tim : km.part .tim) (line : km.part .line)
    (hPG_EVT_PEND : ∀ a, km.fld (R.PG.EVT_PEND a)) (hQUE_DUP_EVICT_COUNT : km.fld R.QUE.DUP_EVICT.COUNT)
    (hQUE_DUP_HIT_COUNT : km.fld R.QUE.DUP_HIT.COUNT)
    (hTIM_DOM_OFFSET_OFFSET : ∀ a, km.fld (R.TIM.DOM_OFFSET.OFFSET a))
    (hTIM_DOM_RATE_RATE : ∀ a, km.fld (R.TIM.DOM_RATE.RATE a)) (s : State) (p : Nat) (m : ReqMsg)
    (done : Option RspMsg) (hs : s.Keeps km pq) : (State.repeatOf s p m done).Keeps km pq := by
  unfold State.repeatOf
  repeat' first
    | with_reducible assumption
    | with_reducible exact hPG_EVT_PEND _
    | with_reducible exact hTIM_DOM_OFFSET_OFFSET _
    | with_reducible exact hTIM_DOM_RATE_RATE _
    | ((try lift_lets -underBinder); intro x; refine Keep.use (k := km) (q := pq) (s := x) ?_ ?_; (on_goal 1 => dsimp -zeta only [x]); (on_goal 2 => clear_value x; intro _))
    | ((try lift_lets -underBinder); intro x; refine Keep.usePair (k := km) (q := pq) (p := x) ?_ ?_; (on_goal 1 => dsimp -zeta only [x]); (on_goal 2 => clear_value x; intro _))
    | ((try lift_lets -underBinder); intro x; refine Keep.memSt (x := x) ?_; subst x)
    | ((try lift_lets -underBinder); intro x; refine Keep.depSt (x := x) ?_; subst x)
    | ((try lift_lets -underBinder); intro x; clear_value x)
    | (intro _)
    | with_reducible apply Keep.ite
    | with_reducible apply State.putWin_good
    | with_reducible apply State.count_good
    | with_reducible apply State.releaseDone_good
    | split
    | (simp -zeta only [Keep.mk_iff]; with_reducible refine Keep.upd ?_ rfl ?_; on_goal 2 => (and_intros <;> with_reducible first | exact .inl rfl | exact .inl ⟨rfl, rfl, rfl⟩ | exact .inr ‹_› | exact Nat.le_refl _ | exact Nat.le_add_right _ _))

theorem State.accept_good (out : km.part .out) (tim : km.part .tim) (line : km.part .line)
    (hPG_EVT_PEND : ∀ a, km.fld (R.PG.EVT_PEND a)) (hQUE_DUP_EVICT_COUNT : km.fld R.QUE.DUP_EVICT.COUNT)
    (hTIM_DOM_OFFSET_OFFSET : ∀ a, km.fld (R.TIM.DOM_OFFSET.OFFSET a))
    (hTIM_DOM_RATE_RATE : ∀ a, km.fld (R.TIM.DOM_RATE.RATE a)) (s : State) (p : Nat) (m : ReqMsg)
    (hs : s.Keeps km pq) : (State.accept s p m).Keeps km pq := by
  unfold State.accept
  repeat' first
    | with_reducible assumption
    | with_reducible exact hPG_EVT_PEND _
    | with_reducible exact hTIM_DOM_OFFSET_OFFSET _
    | with_reducible exact hTIM_DOM_RATE_RATE _
    | ((try lift_lets -underBinder); intro x; refine Keep.use (k := km) (q := pq) (s := x) ?_ ?_; (on_goal 1 => dsimp -zeta only [x]); (on_goal 2 => clear_value x; intro _))
    | ((try lift_lets -underBinder); intro x; refine Keep.usePair (k := km) (q := pq) (p := x) ?_ ?_; (on_goal 1 => dsimp -zeta only [x]); (on_goal 2 => clear_value x; intro _))
    | ((try lift_lets -underBinder); intro x; refine Keep.memSt (x := x) ?_; subst x)
    | ((try lift_lets -underBinder); intro x; refine Keep.depSt (x := x) ?_; subst x)
    | ((try lift_lets -underBinder); intro x; clear_value x)
    | (intro _)
    | with_reducible apply State.putWin_good
    | (simp -zeta only [Keep.mk_iff]; with_reducible refine Keep.upd ?_ rfl ?_; on_goal 2 => (and_intros <;> with_reducible first | exact .inl rfl | exact .inl ⟨rfl, rfl, rfl⟩ | exact .inr ‹_› | exact Nat.le_refl _ | exact Nat.le_add_right _ _))

theorem State.reqAt_good (out : km.part .out) (tim : km.part .tim) (line : km.part .line)
    (hPG_EVT_PEND : ∀ a, km.fld (R.PG.EVT_PEND a)) (hQUE_ACC_DROP_D : km.fld R.QUE.ACC_DROP.D)
    (hQUE_ACC_DROP_U : km.fld R.QUE.ACC_DROP.U) (hQUE_ACC_HELD_D : km.fld R.QUE.ACC_HELD.D)
    (hQUE_ACC_HELD_U : km.fld R.QUE.ACC_HELD.U) (hQUE_DUP_EVICT_COUNT : km.fld R.QUE.DUP_EVICT.COUNT)
    (hQUE_DUP_HIT_COUNT : km.fld R.QUE.DUP_HIT.COUNT) (hQUE_DUP_SRCS_COUNT : km.fld R.QUE.DUP_SRCS.COUNT)
    (hTIM_DOM_OFFSET_OFFSET : ∀ a, km.fld (R.TIM.DOM_OFFSET.OFFSET a))
    (hTIM_DOM_RATE_RATE : ∀ a, km.fld (R.TIM.DOM_RATE.RATE a)) (s : State) (p : Nat) (m : ReqMsg)
    (hs : s.Keeps km pq) : (State.reqAt s p m).Keeps km pq := by
  unfold State.reqAt
  repeat' first
    | with_reducible assumption
    | with_reducible exact hPG_EVT_PEND _
    | with_reducible exact hTIM_DOM_OFFSET_OFFSET _
    | with_reducible exact hTIM_DOM_RATE_RATE _
    | (show km.fld _; split <;> first | assumption | exact hPG_EVT_PEND _ | exact hQUE_ACC_DROP_D | exact hQUE_ACC_DROP_U | exact hQUE_ACC_HELD_D | exact hQUE_ACC_HELD_U | exact hQUE_DUP_EVICT_COUNT | exact hQUE_DUP_HIT_COUNT | exact hQUE_DUP_SRCS_COUNT | exact hTIM_DOM_OFFSET_OFFSET _ | exact hTIM_DOM_RATE_RATE _)
    | ((try lift_lets -underBinder); intro x; refine Keep.use (k := km) (q := pq) (s := x) ?_ ?_; (on_goal 1 => dsimp -zeta only [x]); (on_goal 2 => clear_value x; intro _))
    | ((try lift_lets -underBinder); intro x; refine Keep.usePair (k := km) (q := pq) (p := x) ?_ ?_; (on_goal 1 => dsimp -zeta only [x]); (on_goal 2 => clear_value x; intro _))
    | ((try lift_lets -underBinder); intro x; refine Keep.memSt (x := x) ?_; subst x)
    | ((try lift_lets -underBinder); intro x; refine Keep.depSt (x := x) ?_; subst x)
    | ((try lift_lets -underBinder); intro x; clear_value x)
    | (intro _)
    | with_reducible apply Keep.ite
    | with_reducible apply State.repeatOf_good
    | with_reducible apply State.count_good
    | with_reducible apply State.ev_good
    | with_reducible apply State.accept_good
    | with_reducible apply State.showHeld_good
    | split

theorem State.readFor_good (out : km.part .out) (line : km.part .line)
    (hPG_ERR_ADDR_HI : ∀ a, km.fld (R.PG.ERR_ADDR_HI a)) (hPG_ERR_ADDR_LO : ∀ a, km.fld (R.PG.ERR_ADDR_LO a))
    (hPG_ERR_CODE : ∀ a, km.fld (R.PG.ERR_CODE a)) (hPG_ERR_COUNT : ∀ a, km.fld (R.PG.ERR_COUNT a))
    (hPG_ERR_OVERFLOW : ∀ a, km.fld (R.PG.ERR_OVERFLOW a)) (hPG_ERR_SOURCE : ∀ a, km.fld (R.PG.ERR_SOURCE a))
    (hPG_ERR_VALID : ∀ a, km.fld (R.PG.ERR_VALID a)) (hPG_EVT_PEND : ∀ a, km.fld (R.PG.EVT_PEND a))
    (hPG_POISON_SEEN : ∀ a, km.fld (R.PG.POISON_SEEN a)) (s : State) (a : Nat) (r : Rd) (hs : s.Keeps km pq) : (State.readFor s a r).1.Keeps km pq := by
  unfold State.readFor
  repeat' first
    | with_reducible assumption
    | with_reducible exact hPG_ERR_ADDR_HI _
    | with_reducible exact hPG_ERR_ADDR_LO _
    | with_reducible exact hPG_ERR_CODE _
    | with_reducible exact hPG_ERR_COUNT _
    | with_reducible exact hPG_ERR_OVERFLOW _
    | with_reducible exact hPG_ERR_SOURCE _
    | with_reducible exact hPG_ERR_VALID _
    | with_reducible exact hPG_EVT_PEND _
    | with_reducible exact hPG_POISON_SEEN _
    | (intro _)
    | with_reducible apply Keep.ite
    | with_reducible apply Keep.ite1
    | dsimp -zeta only
    | with_reducible apply State.poison_good

theorem State.wordRead_good (out : km.part .out) (tim : km.part .tim) (mem : km.part .mem) (dram : km.part .dram)
    (cor : km.part .cor) (line : km.part .line) (any : ∀ f, km.fld f) (s : State) (g : Agent) (a : Nat)
    (hs : s.Keeps km pq) : (State.wordRead s g a).1.Keeps km pq := by
  unfold State.wordRead
  repeat' first
    | with_reducible assumption
    | (with_reducible (intros; exact any _))
    | ((try lift_lets -underBinder); intro x; refine Keep.use (k := km) (q := pq) (s := x) ?_ ?_; (on_goal 1 => dsimp -zeta only [x]); (on_goal 2 => clear_value x; intro _))
    | ((try lift_lets -underBinder); intro x; refine Keep.usePair (k := km) (q := pq) (p := x) ?_ ?_; (on_goal 1 => dsimp -zeta only [x]); (on_goal 2 => clear_value x; intro _))
    | ((try lift_lets -underBinder); intro x; refine Keep.useRd (k := km) (q := pq) (x := x) ?_ ?_; (on_goal 1 => dsimp -zeta only [x]); (on_goal 2 => clear_value x; intro _))
    | ((try lift_lets -underBinder); intro x; refine Keep.memSt (x := x) ?_; subst x)
    | ((try lift_lets -underBinder); intro x; refine Keep.depSt (x := x) ?_; subst x)
    | ((try lift_lets -underBinder); intro x; clear_value x)
    | (intro _)
    | with_reducible apply Keep.ite
    | with_reducible apply Keep.ite1
    | dsimp -zeta only
    | with_reducible apply State.readAt_good
    | with_reducible apply State.readFor_good

theorem State.wordPeek_good (out : km.part .out) (tim : km.part .tim) (mem : km.part .mem) (dram : km.part .dram)
    (cor : km.part .cor) (line : km.part .line) (any : ∀ f, km.fld f) (s : State) (g : Agent) (a : Nat)
    (hs : s.Keeps km pq) : (State.wordPeek s g a).1.Keeps km pq := by
  unfold State.wordPeek
  repeat' first
    | with_reducible assumption
    | (with_reducible (intros; exact any _))
    | ((try lift_lets -underBinder); intro x; refine Keep.use (k := km) (q := pq) (s := x) ?_ ?_; (on_goal 1 => dsimp -zeta only [x]); (on_goal 2 => clear_value x; intro _))
    | ((try lift_lets -underBinder); intro x; refine Keep.usePair (k := km) (q := pq) (p := x) ?_ ?_; (on_goal 1 => dsimp -zeta only [x]); (on_goal 2 => clear_value x; intro _))
    | ((try lift_lets -underBinder); intro x; refine Keep.useRd (k := km) (q := pq) (x := x) ?_ ?_; (on_goal 1 => dsimp -zeta only [x]); (on_goal 2 => clear_value x; intro _))
    | ((try lift_lets -underBinder); intro x; refine Keep.memSt (x := x) ?_; subst x)
    | ((try lift_lets -underBinder); intro x; refine Keep.depSt (x := x) ?_; subst x)
    | ((try lift_lets -underBinder); intro x; clear_value x)
    | (intro _)
    | with_reducible apply Keep.ite
    | with_reducible apply Keep.ite1
    | dsimp -zeta only
    | with_reducible apply State.readAt_good
    | with_reducible apply State.readFor_good

theorem State.wordWrite_good (role : km.part .role) (power : km.part .power) (frc : km.part .frc)
    (force : km.part .force) (out : km.part .out) (tim : km.part .tim) (dep : km.part .dep)
    (starts : km.part .starts) (ing : km.part .ing) (map : km.part .map) (cmp : km.part .cmp) (otg : km.part .otg)
    (mem : km.part .mem) (dram : km.part .dram) (scn : km.part .scn) (cor : km.part .cor) (rai : km.part .rai)
    (lfm : km.part .lfm) (hkt : km.part .hkt) (line : km.part .line) (rdn : km.part .rdn) (clu : km.part .clu)
    (que : km.part .que) (mbx : km.part .mbx) (klc : km.part .klc) (fwu : km.part .fwu) (any : ∀ f, km.fld f)
    (s : State) (g : Agent) (a v : Nat) (hs : s.Keeps km pq) : (State.wordWrite s g a v).1.Keeps km pq := by
  unfold State.wordWrite
  repeat' first
    | with_reducible assumption
    | (with_reducible (intros; exact any _))
    | ((try lift_lets -underBinder); intro x; refine Keep.use (k := km) (q := pq) (s := x) ?_ ?_; (on_goal 1 => dsimp -zeta only [x]); (on_goal 2 => clear_value x; intro _))
    | ((try lift_lets -underBinder); intro x; refine Keep.usePair (k := km) (q := pq) (p := x) ?_ ?_; (on_goal 1 => dsimp -zeta only [x]); (on_goal 2 => clear_value x; intro _))
    | ((try lift_lets -underBinder); intro x; refine Keep.memSt (x := x) ?_; subst x)
    | ((try lift_lets -underBinder); intro x; refine Keep.depSt (x := x) ?_; subst x)
    | ((try lift_lets -underBinder); intro x; clear_value x)
    | (intro _)
    | with_reducible apply Keep.ite
    | with_reducible apply Keep.ite1
    | dsimp -zeta only
    | with_reducible apply State.writeAt_good

theorem State.wordsRead_good (out : km.part .out) (tim : km.part .tim) (mem : km.part .mem) (dram : km.part .dram) (cor : km.part .cor) (line : km.part .line) (any : ∀ f, km.fld f) (s : State) (g : Agent) (a n : Nat) (hs : s.Keeps km pq) : (s.wordsRead g a n).1.Keeps km pq := by
  induction n generalizing s a with
  | zero => exact hs
  | succ n ih =>
    have h1 : (s.wordRead g a).1.Keeps km pq := by apply State.wordRead_good <;> first | assumption | (intros; exact any _)
    unfold State.wordsRead
    split
    · rename_i he; rw [he] at h1; exact h1
    · rename_i he; rw [he] at h1; exact ih _ _ h1

theorem State.wordsWrite_good (role : km.part .role) (power : km.part .power) (frc : km.part .frc) (force : km.part .force) (out : km.part .out) (tim : km.part .tim) (dep : km.part .dep) (starts : km.part .starts) (ing : km.part .ing) (map : km.part .map) (cmp : km.part .cmp) (otg : km.part .otg) (mem : km.part .mem) (dram : km.part .dram) (scn : km.part .scn) (cor : km.part .cor) (rai : km.part .rai) (lfm : km.part .lfm) (hkt : km.part .hkt) (line : km.part .line) (rdn : km.part .rdn) (clu : km.part .clu) (que : km.part .que) (mbx : km.part .mbx) (klc : km.part .klc) (fwu : km.part .fwu) (any : ∀ f, km.fld f) (s : State) (g : Agent) (a : Nat) (l : List Nat) (hs : s.Keeps km pq) : (s.wordsWrite g a l).1.Keeps km pq := by
  induction l generalizing s a with
  | nil => exact hs
  | cons v r ih =>
    have h1 : (s.wordWrite g a v).1.Keeps km pq := by apply State.wordWrite_good <;> first | assumption | (intros; exact any _)
    unfold State.wordsWrite
    split
    · rename_i he; rw [he] at h1; exact h1
    · rename_i he; rw [he] at h1; exact ih _ _ h1

theorem State.maskedWrite_good (role : km.part .role) (power : km.part .power) (frc : km.part .frc)
    (force : km.part .force) (out : km.part .out) (tim : km.part .tim) (dep : km.part .dep)
    (starts : km.part .starts) (ing : km.part .ing) (map : km.part .map) (cmp : km.part .cmp) (otg : km.part .otg)
    (mem : km.part .mem) (dram : km.part .dram) (scn : km.part .scn) (cor : km.part .cor) (rai : km.part .rai)
    (lfm : km.part .lfm) (hkt : km.part .hkt) (line : km.part .line) (rdn : km.part .rdn) (clu : km.part .clu)
    (que : km.part .que) (mbx : km.part .mbx) (klc : km.part .klc) (fwu : km.part .fwu) (any : ∀ f, km.fld f)
    (s : State) (g : Agent) (a mask v : Nat) (hs : s.Keeps km pq) : (State.maskedWrite s g a mask v).1.Keeps km pq := by
  unfold State.maskedWrite
  repeat' first
    | with_reducible assumption
    | (with_reducible (intros; exact any _))
    | ((try lift_lets -underBinder); intro x; refine Keep.use (k := km) (q := pq) (s := x) ?_ ?_; (on_goal 1 => dsimp -zeta only [x]); (on_goal 2 => clear_value x; intro _))
    | ((try lift_lets -underBinder); intro x; refine Keep.usePair (k := km) (q := pq) (p := x) ?_ ?_; (on_goal 1 => dsimp -zeta only [x]); (on_goal 2 => clear_value x; intro _))
    | ((try lift_lets -underBinder); intro x; refine Keep.memSt (x := x) ?_; subst x)
    | ((try lift_lets -underBinder); intro x; refine Keep.depSt (x := x) ?_; subst x)
    | ((try lift_lets -underBinder); intro x; clear_value x)
    | (intro _)
    | dsimp -zeta only
    | with_reducible apply State.wordPeek_good
    | with_reducible apply State.wordWrite_good
    | split
    | with_reducible refine Keep.fst (by assumption) ?_

theorem State.perform_good (role : km.part .role) (power : km.part .power) (frc : km.part .frc)
    (force : km.part .force) (out : km.part .out) (tim : km.part .tim) (dep : km.part .dep)
    (starts : km.part .starts) (ing : km.part .ing) (map : km.part .map) (cmp : km.part .cmp) (otg : km.part .otg)
    (mem : km.part .mem) (dram : km.part .dram) (scn : km.part .scn) (cor : km.part .cor) (rai : km.part .rai)
    (lfm : km.part .lfm) (hkt : km.part .hkt) (line : km.part .line) (rdn : km.part .rdn) (clu : km.part .clu)
    (que : km.part .que) (mbx : km.part .mbx) (klc : km.part .klc) (fwu : km.part .fwu) (any : ∀ f, km.fld f)
    (s : State) (g : Agent) (m : ReqMsg) (hs : s.Keeps km pq) : (State.perform s g m).1.Keeps km pq := by
  unfold State.perform
  repeat' first
    | with_reducible assumption
    | (with_reducible (intros; exact any _))
    | ((try lift_lets -underBinder); intro x; refine Keep.use (k := km) (q := pq) (s := x) ?_ ?_; (on_goal 1 => dsimp -zeta only [x]); (on_goal 2 => clear_value x; intro _))
    | ((try lift_lets -underBinder); intro x; refine Keep.usePair (k := km) (q := pq) (p := x) ?_ ?_; (on_goal 1 => dsimp -zeta only [x]); (on_goal 2 => clear_value x; intro _))
    | ((try lift_lets -underBinder); intro x; refine Keep.memSt (x := x) ?_; subst x)
    | ((try lift_lets -underBinder); intro x; refine Keep.depSt (x := x) ?_; subst x)
    | ((try lift_lets -underBinder); intro x; clear_value x)
    | (intro _)
    | with_reducible apply Keep.ite
    | with_reducible apply Keep.ite1
    | dsimp -zeta only
    | with_reducible apply State.wordsRead_good
    | with_reducible apply State.count_good
    | with_reducible apply State.wordsWrite_good
    | with_reducible apply State.maskedWrite_good

theorem State.cacheRsp_good (line : km.part .line) (s : State) (m : ReqMsg) (r : RspMsg) (hs : s.Keeps km pq) : (State.cacheRsp s m r).Keeps km pq := by
  unfold State.cacheRsp
  repeat' first
    | with_reducible assumption
    | ((try lift_lets -underBinder); intro x; refine Keep.use (k := km) (q := pq) (s := x) ?_ ?_; (on_goal 1 => dsimp -zeta only [x]); (on_goal 2 => clear_value x; intro _))
    | ((try lift_lets -underBinder); intro x; refine Keep.usePair (k := km) (q := pq) (p := x) ?_ ?_; (on_goal 1 => dsimp -zeta only [x]); (on_goal 2 => clear_value x; intro _))
    | ((try lift_lets -underBinder); intro x; refine Keep.memSt (x := x) ?_; subst x)
    | ((try lift_lets -underBinder); intro x; refine Keep.depSt (x := x) ?_; subst x)
    | ((try lift_lets -underBinder); intro x; clear_value x)
    | (intro _)
    | with_reducible apply Keep.ite
    | (simp -zeta only [Keep.mk_iff]; with_reducible refine Keep.upd ?_ rfl ?_; on_goal 2 => (and_intros <;> with_reducible first | exact .inl rfl | exact .inl ⟨rfl, rfl, rfl⟩ | exact .inr ‹_› | exact Nat.le_refl _ | exact Nat.le_add_right _ _))

theorem State.finishReq_good (out : km.part .out) (line : km.part .line) (hQUE_ACC_HELD_D : km.fld R.QUE.ACC_HELD.D)
    (hQUE_ACC_HELD_U : km.fld R.QUE.ACC_HELD.U) (hQUE_DUP_SRCS_COUNT : km.fld R.QUE.DUP_SRCS.COUNT) (s : State)
    (status : Nat) (data : List Nat) (hs : s.Keeps km pq) : (State.finishReq s status data).Keeps km pq := by
  unfold State.finishReq
  repeat' first
    | with_reducible assumption
    | ((try lift_lets -underBinder); intro x; refine Keep.use (k := km) (q := pq) (s := x) ?_ ?_; (on_goal 1 => dsimp -zeta only [x]); (on_goal 2 => clear_value x; intro _))
    | ((try lift_lets -underBinder); intro x; refine Keep.usePair (k := km) (q := pq) (p := x) ?_ ?_; (on_goal 1 => dsimp -zeta only [x]); (on_goal 2 => clear_value x; intro _))
    | ((try lift_lets -underBinder); intro x; refine Keep.memSt (x := x) ?_; subst x)
    | ((try lift_lets -underBinder); intro x; refine Keep.depSt (x := x) ?_; subst x)
    | ((try lift_lets -underBinder); intro x; clear_value x)
    | (intro _)
    | with_reducible apply Keep.ite
    | with_reducible apply State.count_good
    | with_reducible apply State.cacheRsp_good
    | with_reducible apply State.respond_good
    | with_reducible apply State.releaseDone_good
    | with_reducible apply State.showHeld_good
    | split
    | (simp -zeta only [Keep.mk_iff]; with_reducible refine Keep.upd ?_ rfl ?_; on_goal 2 => (and_intros <;> with_reducible first | exact .inl rfl | exact .inl ⟨rfl, rfl, rfl⟩ | exact .inr ‹_› | exact Nat.le_refl _ | exact Nat.le_add_right _ _))

theorem State.heldAt_good (line : km.part .line) (s : State) (k : Nat) (hs : s.Keeps km pq) : (State.heldAt s k).Keeps km pq := by
  unfold State.heldAt
  repeat' first
    | with_reducible assumption
    | ((try lift_lets -underBinder); intro x; refine Keep.use (k := km) (q := pq) (s := x) ?_ ?_; (on_goal 1 => dsimp -zeta only [x]); (on_goal 2 => clear_value x; intro _))
    | ((try lift_lets -underBinder); intro x; refine Keep.usePair (k := km) (q := pq) (p := x) ?_ ?_; (on_goal 1 => dsimp -zeta only [x]); (on_goal 2 => clear_value x; intro _))
    | ((try lift_lets -underBinder); intro x; refine Keep.memSt (x := x) ?_; subst x)
    | ((try lift_lets -underBinder); intro x; refine Keep.depSt (x := x) ?_; subst x)
    | ((try lift_lets -underBinder); intro x; clear_value x)
    | (intro _)
    | split
    | (simp -zeta only [Keep.mk_iff]; with_reducible refine Keep.upd ?_ rfl ?_; on_goal 2 => (and_intros <;> with_reducible first | exact .inl rfl | exact .inl ⟨rfl, rfl, rfl⟩ | exact .inr ‹_› | exact Nat.le_refl _ | exact Nat.le_add_right _ _))

theorem State.executeReq_good (role : km.part .role) (power : km.part .power) (frc : km.part .frc)
    (force : km.part .force) (out : km.part .out) (tim : km.part .tim) (dep : km.part .dep)
    (starts : km.part .starts) (ing : km.part .ing) (map : km.part .map) (cmp : km.part .cmp) (otg : km.part .otg)
    (mem : km.part .mem) (dram : km.part .dram) (scn : km.part .scn) (cor : km.part .cor) (rai : km.part .rai)
    (lfm : km.part .lfm) (hkt : km.part .hkt) (line : km.part .line) (rdn : km.part .rdn) (clu : km.part .clu)
    (que : km.part .que) (mbx : km.part .mbx) (klc : km.part .klc) (fwu : km.part .fwu) (any : ∀ f, km.fld f)
    (s : State) (op : Nat) (hs : s.Keeps km pq) : (State.executeReq s op).Keeps km pq := by
  unfold State.executeReq
  repeat' first
    | with_reducible assumption
    | (with_reducible (intros; exact any _))
    | ((try lift_lets -underBinder); intro x; refine Keep.use (k := km) (q := pq) (s := x) ?_ ?_; (on_goal 1 => dsimp -zeta only [x]); (on_goal 2 => clear_value x; intro _))
    | ((try lift_lets -underBinder); intro x; refine Keep.usePair (k := km) (q := pq) (p := x) ?_ ?_; (on_goal 1 => dsimp -zeta only [x]); (on_goal 2 => clear_value x; intro _))
    | ((try lift_lets -underBinder); intro x; refine Keep.memSt (x := x) ?_; subst x)
    | ((try lift_lets -underBinder); intro x; refine Keep.depSt (x := x) ?_; subst x)
    | ((try lift_lets -underBinder); intro x; clear_value x)
    | (intro _)
    | with_reducible apply Keep.ite
    | with_reducible apply Keep.ite1
    | dsimp -zeta only
    | with_reducible apply State.wordsWrite_good
    | with_reducible apply State.finishReq_good
    | with_reducible apply State.heldAt_good
    | with_reducible apply State.perform_good
    | split

theorem State.rspAt_good (out : km.part .out) (tim : km.part .tim) (line : km.part .line) (que : km.part .que)
    (hLNE_INFLIGHT_COUNT : ∀ a, km.fld (R.LNE.INFLIGHT.COUNT a))
    (hLNE_LATE_RSP_COUNT : ∀ a, km.fld (R.LNE.LATE_RSP.COUNT a)) (hPG_ERR_ADDR_HI : ∀ a, km.fld (R.PG.ERR_ADDR_HI a))
    (hPG_ERR_ADDR_LO : ∀ a, km.fld (R.PG.ERR_ADDR_LO a)) (hPG_ERR_CODE : ∀ a, km.fld (R.PG.ERR_CODE a))
    (hPG_ERR_COUNT : ∀ a, km.fld (R.PG.ERR_COUNT a)) (hPG_ERR_OVERFLOW : ∀ a, km.fld (R.PG.ERR_OVERFLOW a))
    (hPG_ERR_SOURCE : ∀ a, km.fld (R.PG.ERR_SOURCE a)) (hPG_ERR_VALID : ∀ a, km.fld (R.PG.ERR_VALID a))
    (hPG_EVT_PEND : ∀ a, km.fld (R.PG.EVT_PEND a)) (hPG_POISON_SEEN : ∀ a, km.fld (R.PG.POISON_SEEN a))
    (hQCX_Q_CTRL_IDLE : ∀ a, km.fld (R.QCX.Q_CTRL.IDLE a))
    (hQCX_Q_DONE_CNT_COUNT : ∀ a, km.fld (R.QCX.Q_DONE_CNT.COUNT a))
    (hQCX_Q_HEAD_IDX : ∀ a, km.fld (R.QCX.Q_HEAD.IDX a))
    (hQCX_Q_INFLIGHT_COUNT : ∀ a, km.fld (R.QCX.Q_INFLIGHT.COUNT a))
    (hQUE_DESC_ERR_COUNT : km.fld R.QUE.DESC_ERR.COUNT) (hQUE_INFLIGHT_COUNT : km.fld R.QUE.INFLIGHT.COUNT)
    (hSVP_TX_DGRAM_COUNT : km.fld R.SVP.TX_DGRAM.COUNT)
    (hTEN_FLR_DISCARD_COUNT : ∀ a, km.fld (R.TEN.FLR_DISCARD.COUNT a))
    (hTEN_REVOKED_CNT_COUNT : ∀ a, km.fld (R.TEN.REVOKED_CNT.COUNT a))
    (hTEN_RULE_STAT_OLD : km.fld R.TEN.RULE_STAT.OLD)
    (hTIM_DOM_OFFSET_OFFSET : ∀ a, km.fld (R.TIM.DOM_OFFSET.OFFSET a))
    (hTIM_DOM_RATE_RATE : ∀ a, km.fld (R.TIM.DOM_RATE.RATE a)) (s : State) (p : Nat) (r : RspMsg)
    (hs : s.Keeps km pq) : (State.rspAt s p r).Keeps km pq := by
  unfold State.rspAt
  repeat' first
    | with_reducible assumption
    | with_reducible exact hLNE_INFLIGHT_COUNT _
    | with_reducible exact hLNE_LATE_RSP_COUNT _
    | with_reducible exact hPG_ERR_ADDR_HI _
    | with_reducible exact hPG_ERR_ADDR_LO _
    | with_reducible exact hPG_ERR_CODE _
    | with_reducible exact hPG_ERR_COUNT _
    | with_reducible exact hPG_ERR_OVERFLOW _
    | with_reducible exact hPG_ERR_SOURCE _
    | with_reducible exact hPG_ERR_VALID _
    | with_reducible exact hPG_EVT_PEND _
    | with_reducible exact hPG_POISON_SEEN _
    | with_reducible exact hQCX_Q_CTRL_IDLE _
    | with_reducible exact hQCX_Q_DONE_CNT_COUNT _
    | with_reducible exact hQCX_Q_HEAD_IDX _
    | with_reducible exact hQCX_Q_INFLIGHT_COUNT _
    | with_reducible exact hTEN_FLR_DISCARD_COUNT _
    | with_reducible exact hTEN_REVOKED_CNT_COUNT _
    | with_reducible exact hTIM_DOM_OFFSET_OFFSET _
    | with_reducible exact hTIM_DOM_RATE_RATE _
    | ((try lift_lets -underBinder); intro x; refine Keep.use (k := km) (q := pq) (s := x) ?_ ?_; (on_goal 1 => dsimp -zeta only [x]); (on_goal 2 => clear_value x; intro _))
    | ((try lift_lets -underBinder); intro x; refine Keep.usePair (k := km) (q := pq) (p := x) ?_ ?_; (on_goal 1 => dsimp -zeta only [x]); (on_goal 2 => clear_value x; intro _))
    | ((try lift_lets -underBinder); intro x; refine Keep.memSt (x := x) ?_; subst x)
    | ((try lift_lets -underBinder); intro x; refine Keep.depSt (x := x) ?_; subst x)
    | ((try lift_lets -underBinder); intro x; clear_value x)
    | (intro _)
    | with_reducible apply Keep.ite
    | with_reducible apply State.txnDone_good
    | with_reducible apply State.pump_good
    | with_reducible apply State.count_good
    | split

theorem State.txnTimeout_good (out : km.part .out) (tim : km.part .tim) (line : km.part .line) (que : km.part .que)
    (hLNE_INFLIGHT_COUNT : ∀ a, km.fld (R.LNE.INFLIGHT.COUNT a))
    (hLNE_TMO_CNT_COUNT : ∀ a, km.fld (R.LNE.TMO_CNT.COUNT a)) (hPG_ERR_ADDR_HI : ∀ a, km.fld (R.PG.ERR_ADDR_HI a))
    (hPG_ERR_ADDR_LO : ∀ a, km.fld (R.PG.ERR_ADDR_LO a)) (hPG_ERR_CODE : ∀ a, km.fld (R.PG.ERR_CODE a))
    (hPG_ERR_COUNT : ∀ a, km.fld (R.PG.ERR_COUNT a)) (hPG_ERR_OVERFLOW : ∀ a, km.fld (R.PG.ERR_OVERFLOW a))
    (hPG_ERR_SOURCE : ∀ a, km.fld (R.PG.ERR_SOURCE a)) (hPG_ERR_VALID : ∀ a, km.fld (R.PG.ERR_VALID a))
    (hPG_EVT_PEND : ∀ a, km.fld (R.PG.EVT_PEND a)) (hPG_POISON_SEEN : ∀ a, km.fld (R.PG.POISON_SEEN a))
    (hQCX_Q_CTRL_IDLE : ∀ a, km.fld (R.QCX.Q_CTRL.IDLE a))
    (hQCX_Q_DONE_CNT_COUNT : ∀ a, km.fld (R.QCX.Q_DONE_CNT.COUNT a))
    (hQCX_Q_HEAD_IDX : ∀ a, km.fld (R.QCX.Q_HEAD.IDX a))
    (hQCX_Q_INFLIGHT_COUNT : ∀ a, km.fld (R.QCX.Q_INFLIGHT.COUNT a))
    (hQUE_DESC_ERR_COUNT : km.fld R.QUE.DESC_ERR.COUNT) (hQUE_INFLIGHT_COUNT : km.fld R.QUE.INFLIGHT.COUNT)
    (hSVP_TX_DGRAM_COUNT : km.fld R.SVP.TX_DGRAM.COUNT)
    (hTEN_FLR_DISCARD_COUNT : ∀ a, km.fld (R.TEN.FLR_DISCARD.COUNT a))
    (hTEN_REVOKED_CNT_COUNT : ∀ a, km.fld (R.TEN.REVOKED_CNT.COUNT a))
    (hTEN_RULE_STAT_OLD : km.fld R.TEN.RULE_STAT.OLD)
    (hTIM_DOM_OFFSET_OFFSET : ∀ a, km.fld (R.TIM.DOM_OFFSET.OFFSET a))
    (hTIM_DOM_RATE_RATE : ∀ a, km.fld (R.TIM.DOM_RATE.RATE a)) (s : State) (p didx : Nat) (hs : s.Keeps km pq) : (State.txnTimeout s p didx).Keeps km pq := by
  unfold State.txnTimeout
  repeat' first
    | with_reducible assumption
    | with_reducible exact hLNE_INFLIGHT_COUNT _
    | with_reducible exact hLNE_TMO_CNT_COUNT _
    | with_reducible exact hPG_ERR_ADDR_HI _
    | with_reducible exact hPG_ERR_ADDR_LO _
    | with_reducible exact hPG_ERR_CODE _
    | with_reducible exact hPG_ERR_COUNT _
    | with_reducible exact hPG_ERR_OVERFLOW _
    | with_reducible exact hPG_ERR_SOURCE _
    | with_reducible exact hPG_ERR_VALID _
    | with_reducible exact hPG_EVT_PEND _
    | with_reducible exact hPG_POISON_SEEN _
    | with_reducible exact hQCX_Q_CTRL_IDLE _
    | with_reducible exact hQCX_Q_DONE_CNT_COUNT _
    | with_reducible exact hQCX_Q_HEAD_IDX _
    | with_reducible exact hQCX_Q_INFLIGHT_COUNT _
    | with_reducible exact hTEN_FLR_DISCARD_COUNT _
    | with_reducible exact hTEN_REVOKED_CNT_COUNT _
    | with_reducible exact hTIM_DOM_OFFSET_OFFSET _
    | with_reducible exact hTIM_DOM_RATE_RATE _
    | ((try lift_lets -underBinder); intro x; refine Keep.use (k := km) (q := pq) (s := x) ?_ ?_; (on_goal 1 => dsimp -zeta only [x]); (on_goal 2 => clear_value x; intro _))
    | ((try lift_lets -underBinder); intro x; refine Keep.usePair (k := km) (q := pq) (p := x) ?_ ?_; (on_goal 1 => dsimp -zeta only [x]); (on_goal 2 => clear_value x; intro _))
    | ((try lift_lets -underBinder); intro x; refine Keep.memSt (x := x) ?_; subst x)
    | ((try lift_lets -underBinder); intro x; refine Keep.depSt (x := x) ?_; subst x)
    | ((try lift_lets -underBinder); intro x; clear_value x)
    | (intro _)
    | with_reducible apply State.txnExpire_good
    | split

theorem State.creditRelease_good (out : km.part .out) (tim : km.part .tim) (line : km.part .line)
    (que : km.part .que) (hLNE_INFLIGHT_COUNT : ∀ a, km.fld (R.LNE.INFLIGHT.COUNT a))
    (hPG_ERR_ADDR_HI : ∀ a, km.fld (R.PG.ERR_ADDR_HI a)) (hPG_ERR_ADDR_LO : ∀ a, km.fld (R.PG.ERR_ADDR_LO a))
    (hPG_ERR_CODE : ∀ a, km.fld (R.PG.ERR_CODE a)) (hPG_ERR_COUNT : ∀ a, km.fld (R.PG.ERR_COUNT a))
    (hPG_ERR_OVERFLOW : ∀ a, km.fld (R.PG.ERR_OVERFLOW a)) (hPG_ERR_SOURCE : ∀ a, km.fld (R.PG.ERR_SOURCE a))
    (hPG_ERR_VALID : ∀ a, km.fld (R.PG.ERR_VALID a)) (hPG_EVT_PEND : ∀ a, km.fld (R.PG.EVT_PEND a))
    (hPG_POISON_SEEN : ∀ a, km.fld (R.PG.POISON_SEEN a)) (hQCX_Q_CTRL_IDLE : ∀ a, km.fld (R.QCX.Q_CTRL.IDLE a))
    (hQCX_Q_DONE_CNT_COUNT : ∀ a, km.fld (R.QCX.Q_DONE_CNT.COUNT a))
    (hQCX_Q_HEAD_IDX : ∀ a, km.fld (R.QCX.Q_HEAD.IDX a))
    (hQCX_Q_INFLIGHT_COUNT : ∀ a, km.fld (R.QCX.Q_INFLIGHT.COUNT a))
    (hQUE_DESC_ERR_COUNT : km.fld R.QUE.DESC_ERR.COUNT) (hQUE_INFLIGHT_COUNT : km.fld R.QUE.INFLIGHT.COUNT)
    (hSVP_TX_DGRAM_COUNT : km.fld R.SVP.TX_DGRAM.COUNT)
    (hTEN_REVOKED_CNT_COUNT : ∀ a, km.fld (R.TEN.REVOKED_CNT.COUNT a))
    (hTIM_DOM_OFFSET_OFFSET : ∀ a, km.fld (R.TIM.DOM_OFFSET.OFFSET a))
    (hTIM_DOM_RATE_RATE : ∀ a, km.fld (R.TIM.DOM_RATE.RATE a)) (s : State) (p didx : Nat) (hs : s.Keeps km pq) : (State.creditRelease s p didx).Keeps km pq := by
  unfold State.creditRelease
  repeat' first
    | with_reducible assumption
    | with_reducible exact hLNE_INFLIGHT_COUNT _
    | with_reducible exact hPG_ERR_ADDR_HI _
    | with_reducible exact hPG_ERR_ADDR_LO _
    | with_reducible exact hPG_ERR_CODE _
    | with_reducible exact hPG_ERR_COUNT _
    | with_reducible exact hPG_ERR_OVERFLOW _
    | with_reducible exact hPG_ERR_SOURCE _
    | with_reducible exact hPG_ERR_VALID _
    | with_reducible exact hPG_EVT_PEND _
    | with_reducible exact hPG_POISON_SEEN _
    | with_reducible exact hQCX_Q_CTRL_IDLE _
    | with_reducible exact hQCX_Q_DONE_CNT_COUNT _
    | with_reducible exact hQCX_Q_HEAD_IDX _
    | with_reducible exact hQCX_Q_INFLIGHT_COUNT _
    | with_reducible exact hTEN_REVOKED_CNT_COUNT _
    | with_reducible exact hTIM_DOM_OFFSET_OFFSET _
    | with_reducible exact hTIM_DOM_RATE_RATE _
    | ((try lift_lets -underBinder); intro x; refine Keep.use (k := km) (q := pq) (s := x) ?_ ?_; (on_goal 1 => dsimp -zeta only [x]); (on_goal 2 => clear_value x; intro _))
    | ((try lift_lets -underBinder); intro x; refine Keep.usePair (k := km) (q := pq) (p := x) ?_ ?_; (on_goal 1 => dsimp -zeta only [x]); (on_goal 2 => clear_value x; intro _))
    | ((try lift_lets -underBinder); intro x; refine Keep.memSt (x := x) ?_; subst x)
    | ((try lift_lets -underBinder); intro x; refine Keep.depSt (x := x) ?_; subst x)
    | ((try lift_lets -underBinder); intro x; clear_value x)
    | (intro _)
    | with_reducible apply State.setLineTx_good
    | with_reducible apply State.filter_good
    | with_reducible apply State.pump_good

theorem State.svcReply_good (out : km.part .out) (line : km.part .line) (s : State) (p status session ack : Nat)
    (hs : s.Keeps km pq) : (State.svcReply s p status session ack).Keeps km pq := by
  unfold State.svcReply
  repeat' first
    | with_reducible assumption
    | (intro _)
    | with_reducible apply State.send_good

theorem State.takeIn_good (line : km.part .line) (hSVP_SVC_SEG_COUNT : km.fld R.SVP.SVC_SEG.COUNT) (s : State)
    (x : SvcIn) (hs : s.Keeps km pq) : (State.takeIn s x).Keeps km pq := by
  unfold State.takeIn
  repeat' first
    | with_reducible assumption
    | ((try lift_lets -underBinder); intro x; refine Keep.use (k := km) (q := pq) (s := x) ?_ ?_; (on_goal 1 => dsimp -zeta only [x]); (on_goal 2 => clear_value x; intro _))
    | ((try lift_lets -underBinder); intro x; refine Keep.usePair (k := km) (q := pq) (p := x) ?_ ?_; (on_goal 1 => dsimp -zeta only [x]); (on_goal 2 => clear_value x; intro _))
    | ((try lift_lets -underBinder); intro x; refine Keep.memSt (x := x) ?_; subst x)
    | ((try lift_lets -underBinder); intro x; refine Keep.depSt (x := x) ?_; subst x)
    | ((try lift_lets -underBinder); intro x; clear_value x)
    | (intro _)
    | with_reducible apply State.count_good
    | (simp -zeta only [Keep.mk_iff]; with_reducible refine Keep.upd ?_ rfl ?_; on_goal 2 => (and_intros <;> with_reducible first | exact .inl rfl | exact .inl ⟨rfl, rfl, rfl⟩ | exact .inr ‹_› | exact Nat.le_refl _ | exact Nat.le_add_right _ _))

theorem State.svcOpen_good (out : km.part .out) (tim : km.part .tim) (line : km.part .line) (mbx : km.part .mbx)
    (fwu : km.part .fwu) (hFWU_SESSION_ID : km.fld R.FWU.SESSION.ID)
    (hFWU_SESSION_PURPOSE : km.fld R.FWU.SESSION.PURPOSE) (hFWU_SESSION_SLOT : km.fld R.FWU.SESSION.SLOT)
    (hFWU_SESS_BYTES_BYTES : km.fld R.FWU.SESS_BYTES.BYTES)
    (hMBX_M_STAT_RX_COUNT : ∀ a b, km.fld (R.MBX.M_STAT.RX_COUNT a b))
    (hMBX_M_STAT_RX_POISON : ∀ a b, km.fld (R.MBX.M_STAT.RX_POISON a b))
    (hMBX_M_STAT_TX_INFLIGHT : ∀ a b, km.fld (R.MBX.M_STAT.TX_INFLIGHT a b))
    (hMBX_RX_DATA : ∀ a b c, km.fld (R.MBX.RX.DATA a b c)) (hPG_ERR_ADDR_HI : ∀ a, km.fld (R.PG.ERR_ADDR_HI a))
    (hPG_ERR_ADDR_LO : ∀ a, km.fld (R.PG.ERR_ADDR_LO a)) (hPG_ERR_CODE : ∀ a, km.fld (R.PG.ERR_CODE a))
    (hPG_ERR_COUNT : ∀ a, km.fld (R.PG.ERR_COUNT a)) (hPG_ERR_OVERFLOW : ∀ a, km.fld (R.PG.ERR_OVERFLOW a))
    (hPG_ERR_SOURCE : ∀ a, km.fld (R.PG.ERR_SOURCE a)) (hPG_ERR_VALID : ∀ a, km.fld (R.PG.ERR_VALID a))
    (hPG_EVT_PEND : ∀ a, km.fld (R.PG.EVT_PEND a)) (hSLT_SLOT_GEN_GEN : ∀ a, km.fld (R.SLT.SLOT_GEN.GEN a))
    (hSLT_SLOT_STAT_RESULT : ∀ a, km.fld (R.SLT.SLOT_STAT.RESULT a))
    (hSLT_SLOT_STAT_STATE : ∀ a, km.fld (R.SLT.SLOT_STAT.STATE a))
    (hSLT_SLOT_STAT_TRIALS : ∀ a, km.fld (R.SLT.SLOT_STAT.TRIALS a))
    (hSVP_SVC_SEG_COUNT : km.fld R.SVP.SVC_SEG.COUNT)
    (hTIM_DOM_OFFSET_OFFSET : ∀ a, km.fld (R.TIM.DOM_OFFSET.OFFSET a))
    (hTIM_DOM_RATE_RATE : ∀ a, km.fld (R.TIM.DOM_RATE.RATE a)) (s : State) (p : Nat) (m : SvcMsg)
    (hs : s.Keeps km pq) : (State.svcOpen s p m).Keeps km pq := by
  unfold State.svcOpen
  repeat' first
    | with_reducible assumption
    | with_reducible exact hMBX_M_STAT_RX_COUNT _ _
    | with_reducible exact hMBX_M_STAT_RX_POISON _ _
    | with_reducible exact hMBX_M_STAT_TX_INFLIGHT _ _
    | with_reducible exact hMBX_RX_DATA _ _ _
    | with_reducible exact hPG_ERR_ADDR_HI _
    | with_reducible exact hPG_ERR_ADDR_LO _
    | with_reducible exact hPG_ERR_CODE _
    | with_reducible exact hPG_ERR_COUNT _
    | with_reducible exact hPG_ERR_OVERFLOW _
    | with_reducible exact hPG_ERR_SOURCE _
    | with_reducible exact hPG_ERR_VALID _
    | with_reducible exact hPG_EVT_PEND _
    | with_reducible exact hSLT_SLOT_GEN_GEN _
    | with_reducible exact hSLT_SLOT_STAT_RESULT _
    | with_reducible exact hSLT_SLOT_STAT_STATE _
    | with_reducible exact hSLT_SLOT_STAT_TRIALS _
    | with_reducible exact hTIM_DOM_OFFSET_OFFSET _
    | with_reducible exact hTIM_DOM_RATE_RATE _
    | ((try lift_lets -underBinder); intro x; refine Keep.use (k := km) (q := pq) (s := x) ?_ ?_; (on_goal 1 => dsimp -zeta only [x]); (on_goal 2 => clear_value x; intro _))
    | ((try lift_lets -underBinder); intro x; refine Keep.usePair (k := km) (q := pq) (p := x) ?_ ?_; (on_goal 1 => dsimp -zeta only [x]); (on_goal 2 => clear_value x; intro _))
    | ((try lift_lets -underBinder); intro x; refine Keep.memSt (x := x) ?_; subst x)
    | ((try lift_lets -underBinder); intro x; refine Keep.depSt (x := x) ?_; subst x)
    | ((try lift_lets -underBinder); intro x; clear_value x)
    | (intro _)
    | with_reducible apply Keep.ite
    | with_reducible apply Keep.ite1
    | dsimp -zeta only
    | with_reducible apply State.svcReply_good
    | with_reducible apply State.openSlot_good
    | with_reducible apply State.takeIn_good
    | with_reducible apply State.set_good
    | with_reducible apply State.mbxRelay_good

theorem State.svcTake_good (out : km.part .out) (tim : km.part .tim) (mbx : km.part .mbx) (fwu : km.part .fwu)
    (hFWU_SESS_BYTES_BYTES : km.fld R.FWU.SESS_BYTES.BYTES)
    (hMBX_M_REFUSED_COUNT : ∀ a b, km.fld (R.MBX.M_REFUSED.COUNT a b))
    (hMBX_M_STAT_RX_COUNT : ∀ a b, km.fld (R.MBX.M_STAT.RX_COUNT a b))
    (hMBX_M_STAT_RX_POISON : ∀ a b, km.fld (R.MBX.M_STAT.RX_POISON a b))
    (hMBX_M_STAT_TX_FULL : ∀ a b, km.fld (R.MBX.M_STAT.TX_FULL a b))
    (hMBX_M_STAT_TX_INFLIGHT : ∀ a b, km.fld (R.MBX.M_STAT.TX_INFLIGHT a b))
    (hMBX_RX_DATA : ∀ a b c, km.fld (R.MBX.RX.DATA a b c)) (hPG_EVT_PEND : ∀ a, km.fld (R.PG.EVT_PEND a))
    (hTIM_DOM_OFFSET_OFFSET : ∀ a, km.fld (R.TIM.DOM_OFFSET.OFFSET a))
    (hTIM_DOM_RATE_RATE : ∀ a, km.fld (R.TIM.DOM_RATE.RATE a)) (s : State) (x : SvcIn) (l : List Byte)
    (hs : s.Keeps km pq) : (State.svcTake s x l).1.Keeps km pq := by
  unfold State.svcTake
  repeat' first
    | with_reducible assumption
    | with_reducible exact hMBX_M_REFUSED_COUNT _ _
    | with_reducible exact hMBX_M_STAT_RX_COUNT _ _
    | with_reducible exact hMBX_M_STAT_RX_POISON _ _
    | with_reducible exact hMBX_M_STAT_TX_FULL _ _
    | with_reducible exact hMBX_M_STAT_TX_INFLIGHT _ _
    | with_reducible exact hMBX_RX_DATA _ _ _
    | with_reducible exact hPG_EVT_PEND _
    | with_reducible exact hTIM_DOM_OFFSET_OFFSET _
    | with_reducible exact hTIM_DOM_RATE_RATE _
    | ((try lift_lets -underBinder); intro x; refine Keep.use (k := km) (q := pq) (s := x) ?_ ?_; (on_goal 1 => dsimp -zeta only [x]); (on_goal 2 => clear_value x; intro _))
    | ((try lift_lets -underBinder); intro x; refine Keep.usePair (k := km) (q := pq) (p := x) ?_ ?_; (on_goal 1 => dsimp -zeta only [x]); (on_goal 2 => clear_value x; intro _))
    | ((try lift_lets -underBinder); intro x; refine Keep.memSt (x := x) ?_; subst x)
    | ((try lift_lets -underBinder); intro x; refine Keep.depSt (x := x) ?_; subst x)
    | ((try lift_lets -underBinder); intro x; clear_value x)
    | (intro _)
    | with_reducible apply Keep.ite
    | with_reducible apply Keep.ite1
    | dsimp -zeta only
    | with_reducible apply State.writeSlot_good
    | with_reducible apply State.set_good
    | with_reducible apply State.mbxPut_good

theorem State.svcNext_good (out : km.part .out) (tim : km.part .tim) (line : km.part .line) (mbx : km.part .mbx)
    (fwu : km.part .fwu) (hFWU_SESSION_ID : km.fld R.FWU.SESSION.ID)
    (hFWU_SESSION_PURPOSE : km.fld R.FWU.SESSION.PURPOSE) (hFWU_SESSION_SLOT : km.fld R.FWU.SESSION.SLOT)
    (hFWU_SESS_BYTES_BYTES : km.fld R.FWU.SESS_BYTES.BYTES)
    (hMBX_M_REFUSED_COUNT : ∀ a b, km.fld (R.MBX.M_REFUSED.COUNT a b))
    (hMBX_M_STAT_RX_COUNT : ∀ a b, km.fld (R.MBX.M_STAT.RX_COUNT a b))
    (hMBX_M_STAT_RX_POISON : ∀ a b, km.fld (R.MBX.M_STAT.RX_POISON a b))
    (hMBX_M_STAT_TX_FULL : ∀ a b, km.fld (R.MBX.M_STAT.TX_FULL a b))
    (hMBX_M_STAT_TX_INFLIGHT : ∀ a b, km.fld (R.MBX.M_STAT.TX_INFLIGHT a b))
    (hMBX_RX_DATA : ∀ a b c, km.fld (R.MBX.RX.DATA a b c)) (hPG_EVT_PEND : ∀ a, km.fld (R.PG.EVT_PEND a))
    (hSLT_SLOT_STAT_STATE : ∀ a, km.fld (R.SLT.SLOT_STAT.STATE a))
    (hSVP_SVC_DISC_COUNT : km.fld R.SVP.SVC_DISC.COUNT) (hSVP_SVC_SEG_COUNT : km.fld R.SVP.SVC_SEG.COUNT)
    (hTIM_DOM_OFFSET_OFFSET : ∀ a, km.fld (R.TIM.DOM_OFFSET.OFFSET a))
    (hTIM_DOM_RATE_RATE : ∀ a, km.fld (R.TIM.DOM_RATE.RATE a)) (s : State) (p : Nat) (x : SvcIn) (m : SvcMsg)
    (full : Bool) (hs : s.Keeps km pq) : (State.svcNext s p x m full).Keeps km pq := by
  unfold State.svcNext
  repeat' first
    | with_reducible assumption
    | with_reducible exact hMBX_M_REFUSED_COUNT _ _
    | with_reducible exact hMBX_M_STAT_RX_COUNT _ _
    | with_reducible exact hMBX_M_STAT_RX_POISON _ _
    | with_reducible exact hMBX_M_STAT_TX_FULL _ _
    | with_reducible exact hMBX_M_STAT_TX_INFLIGHT _ _
    | with_reducible exact hMBX_RX_DATA _ _ _
    | with_reducible exact hPG_EVT_PEND _
    | with_reducible exact hSLT_SLOT_STAT_STATE _
    | with_reducible exact hTIM_DOM_OFFSET_OFFSET _
    | with_reducible exact hTIM_DOM_RATE_RATE _
    | ((try lift_lets -underBinder); intro x; refine Keep.use (k := km) (q := pq) (s := x) ?_ ?_; (on_goal 1 => dsimp -zeta only [x]); (on_goal 2 => clear_value x; intro _))
    | ((try lift_lets -underBinder); intro x; refine Keep.usePair (k := km) (q := pq) (p := x) ?_ ?_; (on_goal 1 => dsimp -zeta only [x]); (on_goal 2 => clear_value x; intro _))
    | ((try lift_lets -underBinder); intro x; refine Keep.memSt (x := x) ?_; subst x)
    | ((try lift_lets -underBinder); intro x; refine Keep.depSt (x := x) ?_; subst x)
    | ((try lift_lets -underBinder); intro x; clear_value x)
    | (intro _)
    | with_reducible apply Keep.ite
    | with_reducible apply Keep.ite1
    | dsimp -zeta only
    | with_reducible apply State.count_good
    | with_reducible apply State.svcReply_good
    | with_reducible apply State.svcTake_good
    | with_reducible apply State.closeSlot_good
    | with_reducible apply State.endSession_good
    | with_reducible apply State.mbxRelay_good
    | split
    | with_reducible refine Keep.fst (by assumption) ?_
    | (simp -zeta only [Keep.mk_iff]; with_reducible refine Keep.upd ?_ rfl ?_; on_goal 2 => (and_intros <;> with_reducible first | exact .inl rfl | exact .inl ⟨rfl, rfl, rfl⟩ | exact .inr ‹_› | exact Nat.le_refl _ | exact Nat.le_add_right _ _))

theorem State.svcTile_good (out : km.part .out) (tim : km.part .tim) (line : km.part .line) (mbx : km.part .mbx)
    (fwu : km.part .fwu) (hFWU_SESSION_ID : km.fld R.FWU.SESSION.ID)
    (hFWU_SESSION_PURPOSE : km.fld R.FWU.SESSION.PURPOSE) (hFWU_SESSION_SLOT : km.fld R.FWU.SESSION.SLOT)
    (hFWU_SESS_BYTES_BYTES : km.fld R.FWU.SESS_BYTES.BYTES)
    (hMBX_M_REFUSED_COUNT : ∀ a b, km.fld (R.MBX.M_REFUSED.COUNT a b))
    (hMBX_M_STAT_RX_COUNT : ∀ a b, km.fld (R.MBX.M_STAT.RX_COUNT a b))
    (hMBX_M_STAT_RX_POISON : ∀ a b, km.fld (R.MBX.M_STAT.RX_POISON a b))
    (hMBX_M_STAT_TX_FULL : ∀ a b, km.fld (R.MBX.M_STAT.TX_FULL a b))
    (hMBX_M_STAT_TX_INFLIGHT : ∀ a b, km.fld (R.MBX.M_STAT.TX_INFLIGHT a b))
    (hMBX_RX_DATA : ∀ a b c, km.fld (R.MBX.RX.DATA a b c)) (hPG_ERR_ADDR_HI : ∀ a, km.fld (R.PG.ERR_ADDR_HI a))
    (hPG_ERR_ADDR_LO : ∀ a, km.fld (R.PG.ERR_ADDR_LO a)) (hPG_ERR_CODE : ∀ a, km.fld (R.PG.ERR_CODE a))
    (hPG_ERR_COUNT : ∀ a, km.fld (R.PG.ERR_COUNT a)) (hPG_ERR_OVERFLOW : ∀ a, km.fld (R.PG.ERR_OVERFLOW a))
    (hPG_ERR_SOURCE : ∀ a, km.fld (R.PG.ERR_SOURCE a)) (hPG_ERR_VALID : ∀ a, km.fld (R.PG.ERR_VALID a))
    (hPG_EVT_PEND : ∀ a, km.fld (R.PG.EVT_PEND a)) (hSLT_SLOT_GEN_GEN : ∀ a, km.fld (R.SLT.SLOT_GEN.GEN a))
    (hSLT_SLOT_STAT_RESULT : ∀ a, km.fld (R.SLT.SLOT_STAT.RESULT a))
    (hSLT_SLOT_STAT_STATE : ∀ a, km.fld (R.SLT.SLOT_STAT.STATE a))
    (hSLT_SLOT_STAT_TRIALS : ∀ a, km.fld (R.SLT.SLOT_STAT.TRIALS a))
    (hSVP_SVC_DISC_COUNT : km.fld R.SVP.SVC_DISC.COUNT) (hSVP_SVC_SEG_COUNT : km.fld R.SVP.SVC_SEG.COUNT)
    (hTIM_DOM_OFFSET_OFFSET : ∀ a, km.fld (R.TIM.DOM_OFFSET.OFFSET a))
    (hTIM_DOM_RATE_RATE : ∀ a, km.fld (R.TIM.DOM_RATE.RATE a)) (s : State) (p : Nat) (m : SvcMsg) (full : Bool)
    (hs : s.Keeps km pq) : (State.svcTile s p m full).Keeps km pq := by
  unfold State.svcTile
  repeat' first
    | with_reducible assumption
    | with_reducible exact hMBX_M_REFUSED_COUNT _ _
    | with_reducible exact hMBX_M_STAT_RX_COUNT _ _
    | with_reducible exact hMBX_M_STAT_RX_POISON _ _
    | with_reducible exact hMBX_M_STAT_TX_FULL _ _
    | with_reducible exact hMBX_M_STAT_TX_INFLIGHT _ _
    | with_reducible exact hMBX_RX_DATA _ _ _
    | with_reducible exact hPG_ERR_ADDR_HI _
    | with_reducible exact hPG_ERR_ADDR_LO _
    | with_reducible exact hPG_ERR_CODE _
    | with_reducible exact hPG_ERR_COUNT _
    | with_reducible exact hPG_ERR_OVERFLOW _
    | with_reducible exact hPG_ERR_SOURCE _
    | with_reducible exact hPG_ERR_VALID _
    | with_reducible exact hPG_EVT_PEND _
    | with_reducible exact hSLT_SLOT_GEN_GEN _
    | with_reducible exact hSLT_SLOT_STAT_RESULT _
    | with_reducible exact hSLT_SLOT_STAT_STATE _
    | with_reducible exact hSLT_SLOT_STAT_TRIALS _
    | with_reducible exact hTIM_DOM_OFFSET_OFFSET _
    | with_reducible exact hTIM_DOM_RATE_RATE _
    | ((try lift_lets -underBinder); intro x; refine Keep.use (k := km) (q := pq) (s := x) ?_ ?_; (on_goal 1 => dsimp -zeta only [x]); (on_goal 2 => clear_value x; intro _))
    | ((try lift_lets -underBinder); intro x; refine Keep.usePair (k := km) (q := pq) (p := x) ?_ ?_; (on_goal 1 => dsimp -zeta only [x]); (on_goal 2 => clear_value x; intro _))
    | ((try lift_lets -underBinder); intro x; refine Keep.memSt (x := x) ?_; subst x)
    | ((try lift_lets -underBinder); intro x; refine Keep.depSt (x := x) ?_; subst x)
    | ((try lift_lets -underBinder); intro x; clear_value x)
    | (intro _)
    | with_reducible apply Keep.ite
    | with_reducible apply State.svcNext_good
    | with_reducible apply State.svcOpen_good
    | with_reducible apply State.count_good
    | split

theorem State.svcSender_good (out : km.part .out) (tim : km.part .tim) (line : km.part .line)
    (hTIM_DOM_OFFSET_OFFSET : ∀ a, km.fld (R.TIM.DOM_OFFSET.OFFSET a))
    (hTIM_DOM_RATE_RATE : ∀ a, km.fld (R.TIM.DOM_RATE.RATE a)) (s : State) (p : Nat) (m : SvcMsg)
    (hs : s.Keeps km pq) : (State.svcSender s p m).Keeps km pq := by
  unfold State.svcSender
  repeat' first
    | with_reducible assumption
    | with_reducible exact hTIM_DOM_OFFSET_OFFSET _
    | with_reducible exact hTIM_DOM_RATE_RATE _
    | ((try lift_lets -underBinder); intro x; refine Keep.use (k := km) (q := pq) (s := x) ?_ ?_; (on_goal 1 => dsimp -zeta only [x]); (on_goal 2 => clear_value x; intro _))
    | ((try lift_lets -underBinder); intro x; refine Keep.usePair (k := km) (q := pq) (p := x) ?_ ?_; (on_goal 1 => dsimp -zeta only [x]); (on_goal 2 => clear_value x; intro _))
    | ((try lift_lets -underBinder); intro x; refine Keep.memSt (x := x) ?_; subst x)
    | ((try lift_lets -underBinder); intro x; refine Keep.depSt (x := x) ?_; subst x)
    | ((try lift_lets -underBinder); intro x; clear_value x)
    | (intro _)
    | with_reducible apply Keep.ite
    | with_reducible apply State.send_good
    | with_reducible apply State.setSession_good
    | split

theorem State.svcAt_good (out : km.part .out) (tim : km.part .tim) (line : km.part .line) (mbx : km.part .mbx)
    (fwu : km.part .fwu) (hFWU_SESSION_ID : km.fld R.FWU.SESSION.ID)
    (hFWU_SESSION_PURPOSE : km.fld R.FWU.SESSION.PURPOSE) (hFWU_SESSION_SLOT : km.fld R.FWU.SESSION.SLOT)
    (hFWU_SESS_BYTES_BYTES : km.fld R.FWU.SESS_BYTES.BYTES)
    (hMBX_M_REFUSED_COUNT : ∀ a b, km.fld (R.MBX.M_REFUSED.COUNT a b))
    (hMBX_M_STAT_RX_COUNT : ∀ a b, km.fld (R.MBX.M_STAT.RX_COUNT a b))
    (hMBX_M_STAT_RX_POISON : ∀ a b, km.fld (R.MBX.M_STAT.RX_POISON a b))
    (hMBX_M_STAT_TX_FULL : ∀ a b, km.fld (R.MBX.M_STAT.TX_FULL a b))
    (hMBX_M_STAT_TX_INFLIGHT : ∀ a b, km.fld (R.MBX.M_STAT.TX_INFLIGHT a b))
    (hMBX_RX_DATA : ∀ a b c, km.fld (R.MBX.RX.DATA a b c)) (hPG_ERR_ADDR_HI : ∀ a, km.fld (R.PG.ERR_ADDR_HI a))
    (hPG_ERR_ADDR_LO : ∀ a, km.fld (R.PG.ERR_ADDR_LO a)) (hPG_ERR_CODE : ∀ a, km.fld (R.PG.ERR_CODE a))
    (hPG_ERR_COUNT : ∀ a, km.fld (R.PG.ERR_COUNT a)) (hPG_ERR_OVERFLOW : ∀ a, km.fld (R.PG.ERR_OVERFLOW a))
    (hPG_ERR_SOURCE : ∀ a, km.fld (R.PG.ERR_SOURCE a)) (hPG_ERR_VALID : ∀ a, km.fld (R.PG.ERR_VALID a))
    (hPG_EVT_PEND : ∀ a, km.fld (R.PG.EVT_PEND a)) (hSLT_SLOT_GEN_GEN : ∀ a, km.fld (R.SLT.SLOT_GEN.GEN a))
    (hSLT_SLOT_STAT_RESULT : ∀ a, km.fld (R.SLT.SLOT_STAT.RESULT a))
    (hSLT_SLOT_STAT_STATE : ∀ a, km.fld (R.SLT.SLOT_STAT.STATE a))
    (hSLT_SLOT_STAT_TRIALS : ∀ a, km.fld (R.SLT.SLOT_STAT.TRIALS a))
    (hSVP_SVC_DISC_COUNT : km.fld R.SVP.SVC_DISC.COUNT) (hSVP_SVC_SEG_COUNT : km.fld R.SVP.SVC_SEG.COUNT)
    (hTIM_DOM_OFFSET_OFFSET : ∀ a, km.fld (R.TIM.DOM_OFFSET.OFFSET a))
    (hTIM_DOM_RATE_RATE : ∀ a, km.fld (R.TIM.DOM_RATE.RATE a)) (s : State) (p : Nat) (m : SvcMsg) (full : Bool)
    (hs : s.Keeps km pq) : (State.svcAt s p m full).Keeps km pq := by
  unfold State.svcAt
  repeat' first
    | with_reducible assumption
    | with_reducible exact hMBX_M_REFUSED_COUNT _ _
    | with_reducible exact hMBX_M_STAT_RX_COUNT _ _
    | with_reducible exact hMBX_M_STAT_RX_POISON _ _
    | with_reducible exact hMBX_M_STAT_TX_FULL _ _
    | with_reducible exact hMBX_M_STAT_TX_INFLIGHT _ _
    | with_reducible exact hMBX_RX_DATA _ _ _
    | with_reducible exact hPG_ERR_ADDR_HI _
    | with_reducible exact hPG_ERR_ADDR_LO _
    | with_reducible exact hPG_ERR_CODE _
    | with_reducible exact hPG_ERR_COUNT _
    | with_reducible exact hPG_ERR_OVERFLOW _
    | with_reducible exact hPG_ERR_SOURCE _
    | with_reducible exact hPG_ERR_VALID _
    | with_reducible exact hPG_EVT_PEND _
    | with_reducible exact hSLT_SLOT_GEN_GEN _
    | with_reducible exact hSLT_SLOT_STAT_RESULT _
    | with_reducible exact hSLT_SLOT_STAT_STATE _
    | with_reducible exact hSLT_SLOT_STAT_TRIALS _
    | with_reducible exact hTIM_DOM_OFFSET_OFFSET _
    | with_reducible exact hTIM_DOM_RATE_RATE _
    | ((try lift_lets -underBinder); intro x; refine Keep.use (k := km) (q := pq) (s := x) ?_ ?_; (on_goal 1 => dsimp -zeta only [x]); (on_goal 2 => clear_value x; intro _))
    | ((try lift_lets -underBinder); intro x; refine Keep.usePair (k := km) (q := pq) (p := x) ?_ ?_; (on_goal 1 => dsimp -zeta only [x]); (on_goal 2 => clear_value x; intro _))
    | ((try lift_lets -underBinder); intro x; refine Keep.memSt (x := x) ?_; subst x)
    | ((try lift_lets -underBinder); intro x; refine Keep.depSt (x := x) ?_; subst x)
    | ((try lift_lets -underBinder); intro x; clear_value x)
    | (intro _)
    | with_reducible apply Keep.ite
    | with_reducible apply State.svcTile_good
    | with_reducible apply State.svcSender_good
    | split

theorem State.answerOpen_good (out : km.part .out) (tim : km.part .tim) (line : km.part .line)
    (hSVP_TX_DGRAM_COUNT : km.fld R.SVP.TX_DGRAM.COUNT)
    (hTIM_DOM_OFFSET_OFFSET : ∀ a, km.fld (R.TIM.DOM_OFFSET.OFFSET a))
    (hTIM_DOM_RATE_RATE : ∀ a, km.fld (R.TIM.DOM_RATE.RATE a)) (s : State) (p : Nat) (v : SvcOut) (st : Nat)
    (hs : s.Keeps km pq) : (State.answerOpen s p v st).Keeps km pq := by
  unfold State.answerOpen
  repeat' first
    | with_reducible assumption
    | with_reducible exact hTIM_DOM_OFFSET_OFFSET _
    | with_reducible exact hTIM_DOM_RATE_RATE _
    | ((try lift_lets -underBinder); intro x; refine Keep.use (k := km) (q := pq) (s := x) ?_ ?_; (on_goal 1 => dsimp -zeta only [x]); (on_goal 2 => clear_value x; intro _))
    | ((try lift_lets -underBinder); intro x; refine Keep.usePair (k := km) (q := pq) (p := x) ?_ ?_; (on_goal 1 => dsimp -zeta only [x]); (on_goal 2 => clear_value x; intro _))
    | ((try lift_lets -underBinder); intro x; refine Keep.memSt (x := x) ?_; subst x)
    | ((try lift_lets -underBinder); intro x; refine Keep.depSt (x := x) ?_; subst x)
    | ((try lift_lets -underBinder); intro x; clear_value x)
    | (intro _)
    | with_reducible apply Keep.ite
    | with_reducible apply State.setSession_good
    | with_reducible apply State.reply_good
    | split

theorem State.ackSender_good (out : km.part .out) (tim : km.part .tim) (line : km.part .line)
    (hSVP_TX_DGRAM_COUNT : km.fld R.SVP.TX_DGRAM.COUNT)
    (hTIM_DOM_OFFSET_OFFSET : ∀ a, km.fld (R.TIM.DOM_OFFSET.OFFSET a))
    (hTIM_DOM_RATE_RATE : ∀ a, km.fld (R.TIM.DOM_RATE.RATE a)) (s : State) (p : Nat) (a : SvcAck)
    (hs : s.Keeps km pq) : (State.ackSender s p a).Keeps km pq := by
  unfold State.ackSender
  repeat' first
    | with_reducible assumption
    | with_reducible exact hTIM_DOM_OFFSET_OFFSET _
    | with_reducible exact hTIM_DOM_RATE_RATE _
    | ((try lift_lets -underBinder); intro x; refine Keep.use (k := km) (q := pq) (s := x) ?_ ?_; (on_goal 1 => dsimp -zeta only [x]); (on_goal 2 => clear_value x; intro _))
    | ((try lift_lets -underBinder); intro x; refine Keep.usePair (k := km) (q := pq) (p := x) ?_ ?_; (on_goal 1 => dsimp -zeta only [x]); (on_goal 2 => clear_value x; intro _))
    | ((try lift_lets -underBinder); intro x; refine Keep.memSt (x := x) ?_; subst x)
    | ((try lift_lets -underBinder); intro x; refine Keep.depSt (x := x) ?_; subst x)
    | ((try lift_lets -underBinder); intro x; clear_value x)
    | (intro _)
    | with_reducible apply Keep.ite
    | with_reducible apply State.answerOpen_good
    | with_reducible apply State.endOut_good
    | with_reducible apply State.filter_good
    | with_reducible apply State.setSession_good
    | with_reducible apply State.pumpSession_good
    | split

theorem State.ackTile_good (out : km.part .out) (tim : km.part .tim) (line : km.part .line) (mbx : km.part .mbx)
    (hMBX_M_STAT_RX_COUNT : ∀ a b, km.fld (R.MBX.M_STAT.RX_COUNT a b))
    (hMBX_M_STAT_RX_POISON : ∀ a b, km.fld (R.MBX.M_STAT.RX_POISON a b))
    (hMBX_M_STAT_TX_INFLIGHT : ∀ a b, km.fld (R.MBX.M_STAT.TX_INFLIGHT a b))
    (hMBX_RX_DATA : ∀ a b c, km.fld (R.MBX.RX.DATA a b c)) (hPG_EVT_PEND : ∀ a, km.fld (R.PG.EVT_PEND a))
    (hTIM_DOM_OFFSET_OFFSET : ∀ a, km.fld (R.TIM.DOM_OFFSET.OFFSET a))
    (hTIM_DOM_RATE_RATE : ∀ a, km.fld (R.TIM.DOM_RATE.RATE a)) (s : State) (p : Nat) (a : SvcAck)
    (hs : s.Keeps km pq) : (State.ackTile s p a).Keeps km pq := by
  unfold State.ackTile
  repeat' first
    | with_reducible assumption
    | with_reducible exact hMBX_M_STAT_RX_COUNT _ _
    | with_reducible exact hMBX_M_STAT_RX_POISON _ _
    | with_reducible exact hMBX_M_STAT_TX_INFLIGHT _ _
    | with_reducible exact hMBX_RX_DATA _ _ _
    | with_reducible exact hPG_EVT_PEND _
    | with_reducible exact hTIM_DOM_OFFSET_OFFSET _
    | with_reducible exact hTIM_DOM_RATE_RATE _
    | ((try lift_lets -underBinder); intro x; refine Keep.use (k := km) (q := pq) (s := x) ?_ ?_; (on_goal 1 => dsimp -zeta only [x]); (on_goal 2 => clear_value x; intro _))
    | ((try lift_lets -underBinder); intro x; refine Keep.usePair (k := km) (q := pq) (p := x) ?_ ?_; (on_goal 1 => dsimp -zeta only [x]); (on_goal 2 => clear_value x; intro _))
    | ((try lift_lets -underBinder); intro x; refine Keep.memSt (x := x) ?_; subst x)
    | ((try lift_lets -underBinder); intro x; refine Keep.depSt (x := x) ?_; subst x)
    | ((try lift_lets -underBinder); intro x; clear_value x)
    | (intro _)
    | with_reducible apply Keep.ite
    | with_reducible apply State.filter_good
    | with_reducible apply State.mbxRelay_good
    | split
    | (simp -zeta only [Keep.mk_iff]; with_reducible refine Keep.upd ?_ rfl ?_; on_goal 2 => (and_intros <;> with_reducible first | exact .inl rfl | exact .inl ⟨rfl, rfl, rfl⟩ | exact .inr ‹_› | exact Nat.le_refl _ | exact Nat.le_add_right _ _))

theorem State.svcAckAt_good (out : km.part .out) (tim : km.part .tim) (line : km.part .line) (mbx : km.part .mbx)
    (hMBX_M_STAT_RX_COUNT : ∀ a b, km.fld (R.MBX.M_STAT.RX_COUNT a b))
    (hMBX_M_STAT_RX_POISON : ∀ a b, km.fld (R.MBX.M_STAT.RX_POISON a b))
    (hMBX_M_STAT_TX_INFLIGHT : ∀ a b, km.fld (R.MBX.M_STAT.TX_INFLIGHT a b))
    (hMBX_RX_DATA : ∀ a b c, km.fld (R.MBX.RX.DATA a b c)) (hPG_EVT_PEND : ∀ a, km.fld (R.PG.EVT_PEND a))
    (hSVP_TX_DGRAM_COUNT : km.fld R.SVP.TX_DGRAM.COUNT)
    (hTIM_DOM_OFFSET_OFFSET : ∀ a, km.fld (R.TIM.DOM_OFFSET.OFFSET a))
    (hTIM_DOM_RATE_RATE : ∀ a, km.fld (R.TIM.DOM_RATE.RATE a)) (s : State) (p : Nat) (a : SvcAck)
    (hs : s.Keeps km pq) : (State.svcAckAt s p a).Keeps km pq := by
  unfold State.svcAckAt
  repeat' first
    | with_reducible assumption
    | with_reducible exact hMBX_M_STAT_RX_COUNT _ _
    | with_reducible exact hMBX_M_STAT_RX_POISON _ _
    | with_reducible exact hMBX_M_STAT_TX_INFLIGHT _ _
    | with_reducible exact hMBX_RX_DATA _ _ _
    | with_reducible exact hPG_EVT_PEND _
    | with_reducible exact hTIM_DOM_OFFSET_OFFSET _
    | with_reducible exact hTIM_DOM_RATE_RATE _
    | ((try lift_lets -underBinder); intro x; refine Keep.use (k := km) (q := pq) (s := x) ?_ ?_; (on_goal 1 => dsimp -zeta only [x]); (on_goal 2 => clear_value x; intro _))
    | ((try lift_lets -underBinder); intro x; refine Keep.usePair (k := km) (q := pq) (p := x) ?_ ?_; (on_goal 1 => dsimp -zeta only [x]); (on_goal 2 => clear_value x; intro _))
    | ((try lift_lets -underBinder); intro x; refine Keep.memSt (x := x) ?_; subst x)
    | ((try lift_lets -underBinder); intro x; refine Keep.depSt (x := x) ?_; subst x)
    | ((try lift_lets -underBinder); intro x; clear_value x)
    | (intro _)
    | with_reducible apply Keep.ite
    | with_reducible apply State.ackTile_good
    | with_reducible apply State.ackSender_good
    | split

theorem State.sendSegs_good (out : km.part .out) (line : km.part .line) (s : State) (l : List SvcMsg) (p : Nat)
    (hs : s.Keeps km pq) : (State.sendSegs s l p).Keeps km pq := by
  unfold State.sendSegs
  repeat' first
    | with_reducible assumption
    | (intro _)
    | with_reducible apply State.send_good
    | with_reducible apply Keep.foldl

theorem State.svcResend_good (out : km.part .out) (line : km.part .line) (s : State) (p k : Nat) (hs : s.Keeps km pq)
    : (State.svcResend s p k).Keeps km pq := by
  unfold State.svcResend
  repeat' first
    | with_reducible assumption
    | ((try lift_lets -underBinder); intro x; refine Keep.use (k := km) (q := pq) (s := x) ?_ ?_; (on_goal 1 => dsimp -zeta only [x]); (on_goal 2 => clear_value x; intro _))
    | ((try lift_lets -underBinder); intro x; refine Keep.usePair (k := km) (q := pq) (p := x) ?_ ?_; (on_goal 1 => dsimp -zeta only [x]); (on_goal 2 => clear_value x; intro _))
    | ((try lift_lets -underBinder); intro x; refine Keep.memSt (x := x) ?_; subst x)
    | ((try lift_lets -underBinder); intro x; refine Keep.depSt (x := x) ?_; subst x)
    | ((try lift_lets -underBinder); intro x; clear_value x)
    | (intro _)
    | with_reducible apply State.sendSegs_good
    | split

theorem execLinkState_good (frc : km.part .frc) (out : km.part .out) (tim : km.part .tim) (dep : km.part .dep)
    (mem : km.part .mem) (dram : km.part .dram) (scn : km.part .scn) (cor : km.part .cor) (rai : km.part .rai)
    (lfm : km.part .lfm) (line : km.part .line) (rdn : km.part .rdn) (que : km.part .que) (any : ∀ f, km.fld f)
    (p : Nat) (m : LinkStateMsg) (t : Nat) (s : State) (hs : s.Keeps km pq) : ∀ st, execLinkState p m t s = .next st → st.Keeps km pq := by
  unfold execLinkState
  refine run_good hs (fun s hs => ?_)
  repeat' first
    | with_reducible assumption
    | (with_reducible (intros; exact any _))
    | (intro _)
    | with_reducible apply State.tick_good
    | with_reducible apply State.linkState_good

theorem execEnumStart_good (frc : km.part .frc) (out : km.part .out) (line : km.part .line)
    (hLNE_ENUM_RUN_RUN : ∀ a, km.fld (R.LNE.ENUM_RUN.RUN a))
    (hLNE_LNE_STAT_ENUM_BUSY : ∀ a, km.fld (R.LNE.LNE_STAT.ENUM_BUSY a)) (p t : Nat) (s : State) (hs : s.Keeps km pq)
    : ∀ st, execEnumStart p t s = .next st → st.Keeps km pq := by
  unfold execEnumStart
  refine run_good hs (fun s hs => ?_)
  repeat' first
    | with_reducible assumption
    | with_reducible exact hLNE_ENUM_RUN_RUN _
    | with_reducible exact hLNE_LNE_STAT_ENUM_BUSY _
    | (intro _)
    | with_reducible apply State.tick_good
    | with_reducible apply State.enumStart_good

theorem execEnumMsg_good (frc : km.part .frc) (out : km.part .out) (line : km.part .line)
    (hLNE_TILE_STOP_STOP_D : ∀ a, km.fld (R.LNE.TILE_STOP.STOP_D a))
    (hLNE_TILE_STOP_STOP_U : ∀ a, km.fld (R.LNE.TILE_STOP.STOP_U a)) (p : Nat) (m : EnumMsg) (t : Nat) (s : State)
    (hs : s.Keeps km pq) : ∀ st, execEnumMsg p m t s = .next st → st.Keeps km pq := by
  unfold execEnumMsg
  refine run_good hs (fun s hs => ?_)
  repeat' first
    | with_reducible assumption
    | with_reducible exact hLNE_TILE_STOP_STOP_D _
    | with_reducible exact hLNE_TILE_STOP_STOP_U _
    | (intro _)
    | with_reducible apply State.tick_good
    | with_reducible apply State.enumAt_good

theorem execEnumRsp_good (frc : km.part .frc) (out : km.part .out) (tim : km.part .tim) (dep : km.part .dep)
    (line : km.part .line) (hLNE_LNE_STAT_ENUM_BUSY : ∀ a, km.fld (R.LNE.LNE_STAT.ENUM_BUSY a))
    (hLNE_LNE_STAT_ENUM_SHORT : ∀ a, km.fld (R.LNE.LNE_STAT.ENUM_SHORT a))
    (hLNE_LNE_STAT_N : ∀ a, km.fld (R.LNE.LNE_STAT.N a))
    (hLNE_LNE_STAT_OVERLONG : ∀ a, km.fld (R.LNE.LNE_STAT.OVERLONG a))
    (hLNE_TEL_STAT_CHANGED : ∀ a, km.fld (R.LNE.TEL_STAT.CHANGED a))
    (hLNE_TEL_STAT_SILENT : ∀ a, km.fld (R.LNE.TEL_STAT.SILENT a))
    (hLNE_TEL_STAT_SKEW : ∀ a, km.fld (R.LNE.TEL_STAT.SKEW a))
    (hLNE_TXN_TMO_EFF_US : ∀ a, km.fld (R.LNE.TXN_TMO.EFF_US a))
    (hLNK_LINE_STAT_LINE_WIDTH : ∀ a, km.fld (R.LNK.LINE_STAT.LINE_WIDTH a))
    (hLNK_LINE_STAT_NARROW_STOP : ∀ a, km.fld (R.LNK.LINE_STAT.NARROW_STOP a))
    (hPG_ERR_ADDR_HI : ∀ a, km.fld (R.PG.ERR_ADDR_HI a)) (hPG_ERR_ADDR_LO : ∀ a, km.fld (R.PG.ERR_ADDR_LO a))
    (hPG_ERR_CODE : ∀ a, km.fld (R.PG.ERR_CODE a)) (hPG_ERR_COUNT : ∀ a, km.fld (R.PG.ERR_COUNT a))
    (hPG_ERR_OVERFLOW : ∀ a, km.fld (R.PG.ERR_OVERFLOW a)) (hPG_ERR_SOURCE : ∀ a, km.fld (R.PG.ERR_SOURCE a))
    (hPG_ERR_VALID : ∀ a, km.fld (R.PG.ERR_VALID a)) (hPG_EVT_PEND : ∀ a, km.fld (R.PG.EVT_PEND a))
    (hTIM_DOM_OFFSET_OFFSET : ∀ a, km.fld (R.TIM.DOM_OFFSET.OFFSET a))
    (hTIM_DOM_RATE_RATE : ∀ a, km.fld (R.TIM.DOM_RATE.RATE a)) (p : Nat) (m : EnumRsp) (t : Nat) (s : State)
    (hs : s.Keeps km pq) : ∀ st, execEnumRsp p m t s = .next st → st.Keeps km pq := by
  unfold execEnumRsp
  refine run_good hs (fun s hs => ?_)
  repeat' first
    | with_reducible assumption
    | with_reducible exact hLNE_LNE_STAT_ENUM_BUSY _
    | with_reducible exact hLNE_LNE_STAT_ENUM_SHORT _
    | with_reducible exact hLNE_LNE_STAT_N _
    | with_reducible exact hLNE_LNE_STAT_OVERLONG _
    | with_reducible exact hLNE_TEL_STAT_CHANGED _
    | with_reducible exact hLNE_TEL_STAT_SILENT _
    | with_reducible exact hLNE_TEL_STAT_SKEW _
    | with_reducible exact hLNE_TXN_TMO_EFF_US _
    | with_reducible exact hLNK_LINE_STAT_LINE_WIDTH _
    | with_reducible exact hLNK_LINE_STAT_NARROW_STOP _
    | with_reducible exact hPG_ERR_ADDR_HI _
    | with_reducible exact hPG_ERR_ADDR_LO _
    | with_reducible exact hPG_ERR_CODE _
    | with_reducible exact hPG_ERR_COUNT _
    | with_reducible exact hPG_ERR_OVERFLOW _
    | with_reducible exact hPG_ERR_SOURCE _
    | with_reducible exact hPG_ERR_VALID _
    | with_reducible exact hPG_EVT_PEND _
    | with_reducible exact hTIM_DOM_OFFSET_OFFSET _
    | with_reducible exact hTIM_DOM_RATE_RATE _
    | (intro _)
    | with_reducible apply State.tick_good
    | with_reducible apply State.enumRspAt_good

theorem execEnumTimeout_good (frc : km.part .frc) (out : km.part .out) (tim : km.part .tim) (dep : km.part .dep)
    (line : km.part .line) (hLNE_LNE_STAT_ENUM_BUSY : ∀ a, km.fld (R.LNE.LNE_STAT.ENUM_BUSY a))
    (hLNE_LNE_STAT_ENUM_SHORT : ∀ a, km.fld (R.LNE.LNE_STAT.ENUM_SHORT a))
    (hLNE_LNE_STAT_N : ∀ a, km.fld (R.LNE.LNE_STAT.N a))
    (hLNE_LNE_STAT_OVERLONG : ∀ a, km.fld (R.LNE.LNE_STAT.OVERLONG a))
    (hLNE_TEL_STAT_CHANGED : ∀ a, km.fld (R.LNE.TEL_STAT.CHANGED a))
    (hLNE_TEL_STAT_SILENT : ∀ a, km.fld (R.LNE.TEL_STAT.SILENT a))
    (hLNE_TEL_STAT_SKEW : ∀ a, km.fld (R.LNE.TEL_STAT.SKEW a))
    (hLNE_TXN_TMO_EFF_US : ∀ a, km.fld (R.LNE.TXN_TMO.EFF_US a))
    (hLNK_LINE_STAT_LINE_WIDTH : ∀ a, km.fld (R.LNK.LINE_STAT.LINE_WIDTH a))
    (hLNK_LINE_STAT_NARROW_STOP : ∀ a, km.fld (R.LNK.LINE_STAT.NARROW_STOP a))
    (hPG_ERR_ADDR_HI : ∀ a, km.fld (R.PG.ERR_ADDR_HI a)) (hPG_ERR_ADDR_LO : ∀ a, km.fld (R.PG.ERR_ADDR_LO a))
    (hPG_ERR_CODE : ∀ a, km.fld (R.PG.ERR_CODE a)) (hPG_ERR_COUNT : ∀ a, km.fld (R.PG.ERR_COUNT a))
    (hPG_ERR_OVERFLOW : ∀ a, km.fld (R.PG.ERR_OVERFLOW a)) (hPG_ERR_SOURCE : ∀ a, km.fld (R.PG.ERR_SOURCE a))
    (hPG_ERR_VALID : ∀ a, km.fld (R.PG.ERR_VALID a)) (hPG_EVT_PEND : ∀ a, km.fld (R.PG.EVT_PEND a))
    (hTIM_DOM_OFFSET_OFFSET : ∀ a, km.fld (R.TIM.DOM_OFFSET.OFFSET a))
    (hTIM_DOM_RATE_RATE : ∀ a, km.fld (R.TIM.DOM_RATE.RATE a)) (p t : Nat) (s : State) (hs : s.Keeps km pq) : ∀ st, execEnumTimeout p t s = .next st → st.Keeps km pq := by
  unfold execEnumTimeout
  refine run_good hs (fun s hs => ?_)
  repeat' first
    | with_reducible assumption
    | with_reducible exact hLNE_LNE_STAT_ENUM_BUSY _
    | with_reducible exact hLNE_LNE_STAT_ENUM_SHORT _
    | with_reducible exact hLNE_LNE_STAT_N _
    | with_reducible exact hLNE_LNE_STAT_OVERLONG _
    | with_reducible exact hLNE_TEL_STAT_CHANGED _
    | with_reducible exact hLNE_TEL_STAT_SILENT _
    | with_reducible exact hLNE_TEL_STAT_SKEW _
    | with_reducible exact hLNE_TXN_TMO_EFF_US _
    | with_reducible exact hLNK_LINE_STAT_LINE_WIDTH _
    | with_reducible exact hLNK_LINE_STAT_NARROW_STOP _
    | with_reducible exact hPG_ERR_ADDR_HI _
    | with_reducible exact hPG_ERR_ADDR_LO _
    | with_reducible exact hPG_ERR_CODE _
    | with_reducible exact hPG_ERR_COUNT _
    | with_reducible exact hPG_ERR_OVERFLOW _
    | with_reducible exact hPG_ERR_SOURCE _
    | with_reducible exact hPG_ERR_VALID _
    | with_reducible exact hPG_EVT_PEND _
    | with_reducible exact hTIM_DOM_OFFSET_OFFSET _
    | with_reducible exact hTIM_DOM_RATE_RATE _
    | (intro _)
    | with_reducible apply State.tick_good
    | with_reducible apply State.enumTimeout_good

theorem execReq_good (frc : km.part .frc) (out : km.part .out) (tim : km.part .tim) (line : km.part .line)
    (hPG_EVT_PEND : ∀ a, km.fld (R.PG.EVT_PEND a)) (hQUE_ACC_DROP_D : km.fld R.QUE.ACC_DROP.D)
    (hQUE_ACC_DROP_U : km.fld R.QUE.ACC_DROP.U) (hQUE_ACC_HELD_D : km.fld R.QUE.ACC_HELD.D)
    (hQUE_ACC_HELD_U : km.fld R.QUE.ACC_HELD.U) (hQUE_DUP_EVICT_COUNT : km.fld R.QUE.DUP_EVICT.COUNT)
    (hQUE_DUP_HIT_COUNT : km.fld R.QUE.DUP_HIT.COUNT) (hQUE_DUP_SRCS_COUNT : km.fld R.QUE.DUP_SRCS.COUNT)
    (hTIM_DOM_OFFSET_OFFSET : ∀ a, km.fld (R.TIM.DOM_OFFSET.OFFSET a))
    (hTIM_DOM_RATE_RATE : ∀ a, km.fld (R.TIM.DOM_RATE.RATE a)) (p : Nat) (m : ReqMsg) (t : Nat) (s : State)
    (hs : s.Keeps km pq) : ∀ st, execReq p m t s = .next st → st.Keeps km pq := by
  unfold execReq
  refine run_good hs (fun s hs => ?_)
  repeat' first
    | with_reducible assumption
    | with_reducible exact hPG_EVT_PEND _
    | with_reducible exact hTIM_DOM_OFFSET_OFFSET _
    | with_reducible exact hTIM_DOM_RATE_RATE _
    | (intro _)
    | with_reducible apply State.tick_good
    | with_reducible apply State.reqAt_good

theorem execReadTxn_good (role : km.part .role) (power : km.part .power) (frc : km.part .frc)
    (force : km.part .force) (out : km.part .out) (tim : km.part .tim) (dep : km.part .dep)
    (starts : km.part .starts) (ing : km.part .ing) (map : km.part .map) (cmp : km.part .cmp) (otg : km.part .otg)
    (mem : km.part .mem) (dram : km.part .dram) (scn : km.part .scn) (cor : km.part .cor) (rai : km.part .rai)
    (lfm : km.part .lfm) (hkt : km.part .hkt) (line : km.part .line) (rdn : km.part .rdn) (clu : km.part .clu)
    (que : km.part .que) (mbx : km.part .mbx) (klc : km.part .klc) (fwu : km.part .fwu) (any : ∀ f, km.fld f)
    (t : Nat) (s : State) (hs : s.Keeps km pq) : ∀ st, execReadTxn t s = .next st → st.Keeps km pq := by
  unfold execReadTxn
  refine run_good hs (fun s hs => ?_)
  repeat' first
    | with_reducible assumption
    | (with_reducible (intros; exact any _))
    | (intro _)
    | with_reducible apply State.tick_good
    | with_reducible apply State.executeReq_good

theorem execWriteTxn_good (role : km.part .role) (power : km.part .power) (frc : km.part .frc)
    (force : km.part .force) (out : km.part .out) (tim : km.part .tim) (dep : km.part .dep)
    (starts : km.part .starts) (ing : km.part .ing) (map : km.part .map) (cmp : km.part .cmp) (otg : km.part .otg)
    (mem : km.part .mem) (dram : km.part .dram) (scn : km.part .scn) (cor : km.part .cor) (rai : km.part .rai)
    (lfm : km.part .lfm) (hkt : km.part .hkt) (line : km.part .line) (rdn : km.part .rdn) (clu : km.part .clu)
    (que : km.part .que) (mbx : km.part .mbx) (klc : km.part .klc) (fwu : km.part .fwu) (any : ∀ f, km.fld f)
    (t : Nat) (s : State) (hs : s.Keeps km pq) : ∀ st, execWriteTxn t s = .next st → st.Keeps km pq := by
  unfold execWriteTxn
  refine run_good hs (fun s hs => ?_)
  repeat' first
    | with_reducible assumption
    | (with_reducible (intros; exact any _))
    | (intro _)
    | with_reducible apply State.tick_good
    | with_reducible apply State.executeReq_good

theorem execWriteMasked_good (role : km.part .role) (power : km.part .power) (frc : km.part .frc)
    (force : km.part .force) (out : km.part .out) (tim : km.part .tim) (dep : km.part .dep)
    (starts : km.part .starts) (ing : km.part .ing) (map : km.part .map) (cmp : km.part .cmp) (otg : km.part .otg)
    (mem : km.part .mem) (dram : km.part .dram) (scn : km.part .scn) (cor : km.part .cor) (rai : km.part .rai)
    (lfm : km.part .lfm) (hkt : km.part .hkt) (line : km.part .line) (rdn : km.part .rdn) (clu : km.part .clu)
    (que : km.part .que) (mbx : km.part .mbx) (klc : km.part .klc) (fwu : km.part .fwu) (any : ∀ f, km.fld f)
    (t : Nat) (s : State) (hs : s.Keeps km pq) : ∀ st, execWriteMasked t s = .next st → st.Keeps km pq := by
  unfold execWriteMasked
  refine run_good hs (fun s hs => ?_)
  repeat' first
    | with_reducible assumption
    | (with_reducible (intros; exact any _))
    | (intro _)
    | with_reducible apply State.tick_good
    | with_reducible apply State.executeReq_good

theorem execPing_good (role : km.part .role) (power : km.part .power) (frc : km.part .frc) (force : km.part .force)
    (out : km.part .out) (tim : km.part .tim) (dep : km.part .dep) (starts : km.part .starts) (ing : km.part .ing)
    (map : km.part .map) (cmp : km.part .cmp) (otg : km.part .otg) (mem : km.part .mem) (dram : km.part .dram)
    (scn : km.part .scn) (cor : km.part .cor) (rai : km.part .rai) (lfm : km.part .lfm) (hkt : km.part .hkt)
    (line : km.part .line) (rdn : km.part .rdn) (clu : km.part .clu) (que : km.part .que) (mbx : km.part .mbx)
    (klc : km.part .klc) (fwu : km.part .fwu) (any : ∀ f, km.fld f) (t : Nat) (s : State) (hs : s.Keeps km pq) : ∀ st, execPing t s = .next st → st.Keeps km pq := by
  unfold execPing
  refine run_good hs (fun s hs => ?_)
  repeat' first
    | with_reducible assumption
    | (with_reducible (intros; exact any _))
    | (intro _)
    | with_reducible apply State.tick_good
    | with_reducible apply State.executeReq_good

theorem execRsp_good (frc : km.part .frc) (out : km.part .out) (tim : km.part .tim) (line : km.part .line)
    (que : km.part .que) (hLNE_INFLIGHT_COUNT : ∀ a, km.fld (R.LNE.INFLIGHT.COUNT a))
    (hLNE_LATE_RSP_COUNT : ∀ a, km.fld (R.LNE.LATE_RSP.COUNT a)) (hPG_ERR_ADDR_HI : ∀ a, km.fld (R.PG.ERR_ADDR_HI a))
    (hPG_ERR_ADDR_LO : ∀ a, km.fld (R.PG.ERR_ADDR_LO a)) (hPG_ERR_CODE : ∀ a, km.fld (R.PG.ERR_CODE a))
    (hPG_ERR_COUNT : ∀ a, km.fld (R.PG.ERR_COUNT a)) (hPG_ERR_OVERFLOW : ∀ a, km.fld (R.PG.ERR_OVERFLOW a))
    (hPG_ERR_SOURCE : ∀ a, km.fld (R.PG.ERR_SOURCE a)) (hPG_ERR_VALID : ∀ a, km.fld (R.PG.ERR_VALID a))
    (hPG_EVT_PEND : ∀ a, km.fld (R.PG.EVT_PEND a)) (hPG_POISON_SEEN : ∀ a, km.fld (R.PG.POISON_SEEN a))
    (hQCX_Q_CTRL_IDLE : ∀ a, km.fld (R.QCX.Q_CTRL.IDLE a))
    (hQCX_Q_DONE_CNT_COUNT : ∀ a, km.fld (R.QCX.Q_DONE_CNT.COUNT a))
    (hQCX_Q_HEAD_IDX : ∀ a, km.fld (R.QCX.Q_HEAD.IDX a))
    (hQCX_Q_INFLIGHT_COUNT : ∀ a, km.fld (R.QCX.Q_INFLIGHT.COUNT a))
    (hQUE_DESC_ERR_COUNT : km.fld R.QUE.DESC_ERR.COUNT) (hQUE_INFLIGHT_COUNT : km.fld R.QUE.INFLIGHT.COUNT)
    (hSVP_TX_DGRAM_COUNT : km.fld R.SVP.TX_DGRAM.COUNT)
    (hTEN_FLR_DISCARD_COUNT : ∀ a, km.fld (R.TEN.FLR_DISCARD.COUNT a))
    (hTEN_REVOKED_CNT_COUNT : ∀ a, km.fld (R.TEN.REVOKED_CNT.COUNT a))
    (hTEN_RULE_STAT_OLD : km.fld R.TEN.RULE_STAT.OLD)
    (hTIM_DOM_OFFSET_OFFSET : ∀ a, km.fld (R.TIM.DOM_OFFSET.OFFSET a))
    (hTIM_DOM_RATE_RATE : ∀ a, km.fld (R.TIM.DOM_RATE.RATE a)) (p : Nat) (m : RspMsg) (t : Nat) (s : State)
    (hs : s.Keeps km pq) : ∀ st, execRsp p m t s = .next st → st.Keeps km pq := by
  unfold execRsp
  refine run_good hs (fun s hs => ?_)
  repeat' first
    | with_reducible assumption
    | with_reducible exact hLNE_INFLIGHT_COUNT _
    | with_reducible exact hLNE_LATE_RSP_COUNT _
    | with_reducible exact hPG_ERR_ADDR_HI _
    | with_reducible exact hPG_ERR_ADDR_LO _
    | with_reducible exact hPG_ERR_CODE _
    | with_reducible exact hPG_ERR_COUNT _
    | with_reducible exact hPG_ERR_OVERFLOW _
    | with_reducible exact hPG_ERR_SOURCE _
    | with_reducible exact hPG_ERR_VALID _
    | with_reducible exact hPG_EVT_PEND _
    | with_reducible exact hPG_POISON_SEEN _
    | with_reducible exact hQCX_Q_CTRL_IDLE _
    | with_reducible exact hQCX_Q_DONE_CNT_COUNT _
    | with_reducible exact hQCX_Q_HEAD_IDX _
    | with_reducible exact hQCX_Q_INFLIGHT_COUNT _
    | with_reducible exact hTEN_FLR_DISCARD_COUNT _
    | with_reducible exact hTEN_REVOKED_CNT_COUNT _
    | with_reducible exact hTIM_DOM_OFFSET_OFFSET _
    | with_reducible exact hTIM_DOM_RATE_RATE _
    | (intro _)
    | with_reducible apply State.tick_good
    | with_reducible apply State.rspAt_good

theorem execTxnTimeout_good (frc : km.part .frc) (out : km.part .out) (tim : km.part .tim) (line : km.part .line)
    (que : km.part .que) (hLNE_INFLIGHT_COUNT : ∀ a, km.fld (R.LNE.INFLIGHT.COUNT a))
    (hLNE_TMO_CNT_COUNT : ∀ a, km.fld (R.LNE.TMO_CNT.COUNT a)) (hPG_ERR_ADDR_HI : ∀ a, km.fld (R.PG.ERR_ADDR_HI a))
    (hPG_ERR_ADDR_LO : ∀ a, km.fld (R.PG.ERR_ADDR_LO a)) (hPG_ERR_CODE : ∀ a, km.fld (R.PG.ERR_CODE a))
    (hPG_ERR_COUNT : ∀ a, km.fld (R.PG.ERR_COUNT a)) (hPG_ERR_OVERFLOW : ∀ a, km.fld (R.PG.ERR_OVERFLOW a))
    (hPG_ERR_SOURCE : ∀ a, km.fld (R.PG.ERR_SOURCE a)) (hPG_ERR_VALID : ∀ a, km.fld (R.PG.ERR_VALID a))
    (hPG_EVT_PEND : ∀ a, km.fld (R.PG.EVT_PEND a)) (hPG_POISON_SEEN : ∀ a, km.fld (R.PG.POISON_SEEN a))
    (hQCX_Q_CTRL_IDLE : ∀ a, km.fld (R.QCX.Q_CTRL.IDLE a))
    (hQCX_Q_DONE_CNT_COUNT : ∀ a, km.fld (R.QCX.Q_DONE_CNT.COUNT a))
    (hQCX_Q_HEAD_IDX : ∀ a, km.fld (R.QCX.Q_HEAD.IDX a))
    (hQCX_Q_INFLIGHT_COUNT : ∀ a, km.fld (R.QCX.Q_INFLIGHT.COUNT a))
    (hQUE_DESC_ERR_COUNT : km.fld R.QUE.DESC_ERR.COUNT) (hQUE_INFLIGHT_COUNT : km.fld R.QUE.INFLIGHT.COUNT)
    (hSVP_TX_DGRAM_COUNT : km.fld R.SVP.TX_DGRAM.COUNT)
    (hTEN_FLR_DISCARD_COUNT : ∀ a, km.fld (R.TEN.FLR_DISCARD.COUNT a))
    (hTEN_REVOKED_CNT_COUNT : ∀ a, km.fld (R.TEN.REVOKED_CNT.COUNT a))
    (hTEN_RULE_STAT_OLD : km.fld R.TEN.RULE_STAT.OLD)
    (hTIM_DOM_OFFSET_OFFSET : ∀ a, km.fld (R.TIM.DOM_OFFSET.OFFSET a))
    (hTIM_DOM_RATE_RATE : ∀ a, km.fld (R.TIM.DOM_RATE.RATE a)) (p didx t : Nat) (s : State) (hs : s.Keeps km pq) : ∀ st, execTxnTimeout p didx t s = .next st → st.Keeps km pq := by
  unfold execTxnTimeout
  refine run_good hs (fun s hs => ?_)
  repeat' first
    | with_reducible assumption
    | with_reducible exact hLNE_INFLIGHT_COUNT _
    | with_reducible exact hLNE_TMO_CNT_COUNT _
    | with_reducible exact hPG_ERR_ADDR_HI _
    | with_reducible exact hPG_ERR_ADDR_LO _
    | with_reducible exact hPG_ERR_CODE _
    | with_reducible exact hPG_ERR_COUNT _
    | with_reducible exact hPG_ERR_OVERFLOW _
    | with_reducible exact hPG_ERR_SOURCE _
    | with_reducible exact hPG_ERR_VALID _
    | with_reducible exact hPG_EVT_PEND _
    | with_reducible exact hPG_POISON_SEEN _
    | with_reducible exact hQCX_Q_CTRL_IDLE _
    | with_reducible exact hQCX_Q_DONE_CNT_COUNT _
    | with_reducible exact hQCX_Q_HEAD_IDX _
    | with_reducible exact hQCX_Q_INFLIGHT_COUNT _
    | with_reducible exact hTEN_FLR_DISCARD_COUNT _
    | with_reducible exact hTEN_REVOKED_CNT_COUNT _
    | with_reducible exact hTIM_DOM_OFFSET_OFFSET _
    | with_reducible exact hTIM_DOM_RATE_RATE _
    | (intro _)
    | with_reducible apply State.tick_good
    | with_reducible apply State.txnTimeout_good

theorem execCreditRelease_good (frc : km.part .frc) (out : km.part .out) (tim : km.part .tim) (line : km.part .line)
    (que : km.part .que) (hLNE_INFLIGHT_COUNT : ∀ a, km.fld (R.LNE.INFLIGHT.COUNT a))
    (hPG_ERR_ADDR_HI : ∀ a, km.fld (R.PG.ERR_ADDR_HI a)) (hPG_ERR_ADDR_LO : ∀ a, km.fld (R.PG.ERR_ADDR_LO a))
    (hPG_ERR_CODE : ∀ a, km.fld (R.PG.ERR_CODE a)) (hPG_ERR_COUNT : ∀ a, km.fld (R.PG.ERR_COUNT a))
    (hPG_ERR_OVERFLOW : ∀ a, km.fld (R.PG.ERR_OVERFLOW a)) (hPG_ERR_SOURCE : ∀ a, km.fld (R.PG.ERR_SOURCE a))
    (hPG_ERR_VALID : ∀ a, km.fld (R.PG.ERR_VALID a)) (hPG_EVT_PEND : ∀ a, km.fld (R.PG.EVT_PEND a))
    (hPG_POISON_SEEN : ∀ a, km.fld (R.PG.POISON_SEEN a)) (hQCX_Q_CTRL_IDLE : ∀ a, km.fld (R.QCX.Q_CTRL.IDLE a))
    (hQCX_Q_DONE_CNT_COUNT : ∀ a, km.fld (R.QCX.Q_DONE_CNT.COUNT a))
    (hQCX_Q_HEAD_IDX : ∀ a, km.fld (R.QCX.Q_HEAD.IDX a))
    (hQCX_Q_INFLIGHT_COUNT : ∀ a, km.fld (R.QCX.Q_INFLIGHT.COUNT a))
    (hQUE_DESC_ERR_COUNT : km.fld R.QUE.DESC_ERR.COUNT) (hQUE_INFLIGHT_COUNT : km.fld R.QUE.INFLIGHT.COUNT)
    (hSVP_TX_DGRAM_COUNT : km.fld R.SVP.TX_DGRAM.COUNT)
    (hTEN_REVOKED_CNT_COUNT : ∀ a, km.fld (R.TEN.REVOKED_CNT.COUNT a))
    (hTIM_DOM_OFFSET_OFFSET : ∀ a, km.fld (R.TIM.DOM_OFFSET.OFFSET a))
    (hTIM_DOM_RATE_RATE : ∀ a, km.fld (R.TIM.DOM_RATE.RATE a)) (p didx t : Nat) (s : State) (hs : s.Keeps km pq) : ∀ st, execCreditRelease p didx t s = .next st → st.Keeps km pq := by
  unfold execCreditRelease
  refine run_good hs (fun s hs => ?_)
  repeat' first
    | with_reducible assumption
    | with_reducible exact hLNE_INFLIGHT_COUNT _
    | with_reducible exact hPG_ERR_ADDR_HI _
    | with_reducible exact hPG_ERR_ADDR_LO _
    | with_reducible exact hPG_ERR_CODE _
    | with_reducible exact hPG_ERR_COUNT _
    | with_reducible exact hPG_ERR_OVERFLOW _
    | with_reducible exact hPG_ERR_SOURCE _
    | with_reducible exact hPG_ERR_VALID _
    | with_reducible exact hPG_EVT_PEND _
    | with_reducible exact hPG_POISON_SEEN _
    | with_reducible exact hQCX_Q_CTRL_IDLE _
    | with_reducible exact hQCX_Q_DONE_CNT_COUNT _
    | with_reducible exact hQCX_Q_HEAD_IDX _
    | with_reducible exact hQCX_Q_INFLIGHT_COUNT _
    | with_reducible exact hTEN_REVOKED_CNT_COUNT _
    | with_reducible exact hTIM_DOM_OFFSET_OFFSET _
    | with_reducible exact hTIM_DOM_RATE_RATE _
    | (intro _)
    | with_reducible apply State.tick_good
    | with_reducible apply State.creditRelease_good

theorem execSvc_good (frc : km.part .frc) (out : km.part .out) (tim : km.part .tim) (line : km.part .line)
    (mbx : km.part .mbx) (fwu : km.part .fwu) (hFWU_SESSION_ID : km.fld R.FWU.SESSION.ID)
    (hFWU_SESSION_PURPOSE : km.fld R.FWU.SESSION.PURPOSE) (hFWU_SESSION_SLOT : km.fld R.FWU.SESSION.SLOT)
    (hFWU_SESS_BYTES_BYTES : km.fld R.FWU.SESS_BYTES.BYTES)
    (hMBX_M_REFUSED_COUNT : ∀ a b, km.fld (R.MBX.M_REFUSED.COUNT a b))
    (hMBX_M_STAT_RX_COUNT : ∀ a b, km.fld (R.MBX.M_STAT.RX_COUNT a b))
    (hMBX_M_STAT_RX_POISON : ∀ a b, km.fld (R.MBX.M_STAT.RX_POISON a b))
    (hMBX_M_STAT_TX_FULL : ∀ a b, km.fld (R.MBX.M_STAT.TX_FULL a b))
    (hMBX_M_STAT_TX_INFLIGHT : ∀ a b, km.fld (R.MBX.M_STAT.TX_INFLIGHT a b))
    (hMBX_RX_DATA : ∀ a b c, km.fld (R.MBX.RX.DATA a b c)) (hPG_ERR_ADDR_HI : ∀ a, km.fld (R.PG.ERR_ADDR_HI a))
    (hPG_ERR_ADDR_LO : ∀ a, km.fld (R.PG.ERR_ADDR_LO a)) (hPG_ERR_CODE : ∀ a, km.fld (R.PG.ERR_CODE a))
    (hPG_ERR_COUNT : ∀ a, km.fld (R.PG.ERR_COUNT a)) (hPG_ERR_OVERFLOW : ∀ a, km.fld (R.PG.ERR_OVERFLOW a))
    (hPG_ERR_SOURCE : ∀ a, km.fld (R.PG.ERR_SOURCE a)) (hPG_ERR_VALID : ∀ a, km.fld (R.PG.ERR_VALID a))
    (hPG_EVT_PEND : ∀ a, km.fld (R.PG.EVT_PEND a)) (hSLT_SLOT_GEN_GEN : ∀ a, km.fld (R.SLT.SLOT_GEN.GEN a))
    (hSLT_SLOT_STAT_RESULT : ∀ a, km.fld (R.SLT.SLOT_STAT.RESULT a))
    (hSLT_SLOT_STAT_STATE : ∀ a, km.fld (R.SLT.SLOT_STAT.STATE a))
    (hSLT_SLOT_STAT_TRIALS : ∀ a, km.fld (R.SLT.SLOT_STAT.TRIALS a))
    (hSVP_SVC_DISC_COUNT : km.fld R.SVP.SVC_DISC.COUNT) (hSVP_SVC_SEG_COUNT : km.fld R.SVP.SVC_SEG.COUNT)
    (hTIM_DOM_OFFSET_OFFSET : ∀ a, km.fld (R.TIM.DOM_OFFSET.OFFSET a))
    (hTIM_DOM_RATE_RATE : ∀ a, km.fld (R.TIM.DOM_RATE.RATE a)) (p : Nat) (m : SvcMsg) (full : Bool) (t : Nat)
    (s : State) (hs : s.Keeps km pq) : ∀ st, execSvc p m full t s = .next st → st.Keeps km pq := by
  unfold execSvc
  refine run_good hs (fun s hs => ?_)
  repeat' first
    | with_reducible assumption
    | with_reducible exact hMBX_M_REFUSED_COUNT _ _
    | with_reducible exact hMBX_M_STAT_RX_COUNT _ _
    | with_reducible exact hMBX_M_STAT_RX_POISON _ _
    | with_reducible exact hMBX_M_STAT_TX_FULL _ _
    | with_reducible exact hMBX_M_STAT_TX_INFLIGHT _ _
    | with_reducible exact hMBX_RX_DATA _ _ _
    | with_reducible exact hPG_ERR_ADDR_HI _
    | with_reducible exact hPG_ERR_ADDR_LO _
    | with_reducible exact hPG_ERR_CODE _
    | with_reducible exact hPG_ERR_COUNT _
    | with_reducible exact hPG_ERR_OVERFLOW _
    | with_reducible exact hPG_ERR_SOURCE _
    | with_reducible exact hPG_ERR_VALID _
    | with_reducible exact hPG_EVT_PEND _
    | with_reducible exact hSLT_SLOT_GEN_GEN _
    | with_reducible exact hSLT_SLOT_STAT_RESULT _
    | with_reducible exact hSLT_SLOT_STAT_STATE _
    | with_reducible exact hSLT_SLOT_STAT_TRIALS _
    | with_reducible exact hTIM_DOM_OFFSET_OFFSET _
    | with_reducible exact hTIM_DOM_RATE_RATE _
    | (intro _)
    | with_reducible apply State.tick_good
    | with_reducible apply State.svcAt_good

theorem execSvcAck_good (frc : km.part .frc) (out : km.part .out) (tim : km.part .tim) (line : km.part .line)
    (mbx : km.part .mbx) (hMBX_M_STAT_RX_COUNT : ∀ a b, km.fld (R.MBX.M_STAT.RX_COUNT a b))
    (hMBX_M_STAT_RX_POISON : ∀ a b, km.fld (R.MBX.M_STAT.RX_POISON a b))
    (hMBX_M_STAT_TX_INFLIGHT : ∀ a b, km.fld (R.MBX.M_STAT.TX_INFLIGHT a b))
    (hMBX_RX_DATA : ∀ a b c, km.fld (R.MBX.RX.DATA a b c)) (hPG_EVT_PEND : ∀ a, km.fld (R.PG.EVT_PEND a))
    (hSVP_TX_DGRAM_COUNT : km.fld R.SVP.TX_DGRAM.COUNT)
    (hTIM_DOM_OFFSET_OFFSET : ∀ a, km.fld (R.TIM.DOM_OFFSET.OFFSET a))
    (hTIM_DOM_RATE_RATE : ∀ a, km.fld (R.TIM.DOM_RATE.RATE a)) (p : Nat) (m : SvcAck) (t : Nat) (s : State)
    (hs : s.Keeps km pq) : ∀ st, execSvcAck p m t s = .next st → st.Keeps km pq := by
  unfold execSvcAck
  refine run_good hs (fun s hs => ?_)
  repeat' first
    | with_reducible assumption
    | with_reducible exact hMBX_M_STAT_RX_COUNT _ _
    | with_reducible exact hMBX_M_STAT_RX_POISON _ _
    | with_reducible exact hMBX_M_STAT_TX_INFLIGHT _ _
    | with_reducible exact hMBX_RX_DATA _ _ _
    | with_reducible exact hPG_EVT_PEND _
    | with_reducible exact hTIM_DOM_OFFSET_OFFSET _
    | with_reducible exact hTIM_DOM_RATE_RATE _
    | (intro _)
    | with_reducible apply State.tick_good
    | with_reducible apply State.svcAckAt_good

theorem execSvcResend_good (frc : km.part .frc) (out : km.part .out) (line : km.part .line) (p k t : Nat) (s : State)
    (hs : s.Keeps km pq) : ∀ st, execSvcResend p k t s = .next st → st.Keeps km pq := by
  unfold execSvcResend
  refine run_good hs (fun s hs => ?_)
  repeat' first
    | with_reducible assumption
    | (intro _)
    | with_reducible apply State.tick_good
    | with_reducible apply State.svcResend_good

end Sys2Proof.Machine
end

