-- ==== Sys2Proof/Laws/KeepsMirror.lean ====
section
/-!
SUPPORT. Every function of Machine/Mirror.lean changes what the hypotheses of its lemma name, and nothing else.
-/
namespace Sys2Proof.Machine
set_option Elab.async false
set_option linter.unusedVariables false
set_option linter.unusedTactic false
set_option linter.unreachableTactic false

variable {km : May} {pq : State}

theorem State.mirrorWord_good (role : km.part .role) (power : km.part .power) (frc : km.part .frc)
    (force : km.part .force) (out : km.part .out) (tim : km.part .tim) (dep : km.part .dep)
    (starts : km.part .starts) (ing : km.part .ing) (map : km.part .map) (cmp : km.part .cmp) (otg : km.part .otg)
    (mem : km.part .mem) (dram : km.part .dram) (scn : km.part .scn) (cor : km.part .cor) (rai : km.part .rai)
    (lfm : km.part .lfm) (hkt : km.part .hkt) (line : km.part .line) (rdn : km.part .rdn) (clu : km.part .clu)
    (que : km.part .que) (mbx : km.part .mbx) (klc : km.part .klc) (fwu : km.part .fwu) (any : ∀ f, km.fld f)
    (s : State) (a v : Nat) (hs : s.Keeps km pq) : (State.mirrorWord s a v).Keeps km pq := by
  unfold State.mirrorWord
  repeat' first
    | with_reducible assumption
    | (with_reducible (intros; exact any _))
    | ((try lift_lets -underBinder); intro x; refine Keep.use (k := km) (q := pq) (s := x) ?_ ?_; (on_goal 1 => dsimp -zeta only [x]); (on_goal 2 => clear_value x; intro _))
    | ((try lift_lets -underBinder); intro x; refine Keep.usePair (k := km) (q := pq) (p := x) ?_ ?_; (on_goal 1 => dsimp -zeta only [x]); (on_goal 2 => clear_value x; intro _))
    | ((try lift_lets -underBinder); intro x; refine Keep.memSt (x := x) ?_; subst x)
    | ((try lift_lets -underBinder); intro x; refine Keep.depSt (x := x) ?_; subst x)
    | ((try lift_lets -underBinder); intro x; clear_value x)
    | (intro _)
    | with_reducible apply Keep.ite
    | with_reducible apply State.set_good
    | with_reducible apply State.writeFreeze_good
    | with_reducible apply State.writeEn_good
    | with_reducible apply State.writeAt_good

theorem State.mirrorApply_good (role : km.part .role) (power : km.part .power) (frc : km.part .frc)
    (force : km.part .force) (out : km.part .out) (tim : km.part .tim) (dep : km.part .dep)
    (starts : km.part .starts) (ing : km.part .ing) (map : km.part .map) (cmp : km.part .cmp) (otg : km.part .otg)
    (mem : km.part .mem) (dram : km.part .dram) (scn : km.part .scn) (cor : km.part .cor) (rai : km.part .rai)
    (lfm : km.part .lfm) (hkt : km.part .hkt) (line : km.part .line) (rdn : km.part .rdn) (clu : km.part .clu)
    (que : km.part .que) (mbx : km.part .mbx) (klc : km.part .klc) (fwu : km.part .fwu) (any : ∀ f, km.fld f)
    (s : State) (r : MirrorRec) (hs : s.Keeps km pq) : (State.mirrorApply s r).Keeps km pq := by
  unfold State.mirrorApply
  repeat' first
    | with_reducible assumption
    | (with_reducible (intros; exact any _))
    | ((try lift_lets -underBinder); intro x; refine Keep.use (k := km) (q := pq) (s := x) ?_ ?_; (on_goal 1 => dsimp -zeta only [x]); (on_goal 2 => clear_value x; intro _))
    | ((try lift_lets -underBinder); intro x; refine Keep.usePair (k := km) (q := pq) (p := x) ?_ ?_; (on_goal 1 => dsimp -zeta only [x]); (on_goal 2 => clear_value x; intro _))
    | ((try lift_lets -underBinder); intro x; refine Keep.memSt (x := x) ?_; subst x)
    | ((try lift_lets -underBinder); intro x; refine Keep.depSt (x := x) ?_; subst x)
    | ((try lift_lets -underBinder); intro x; clear_value x)
    | (intro _)
    | with_reducible apply Keep.ite
    | with_reducible apply Keep.ite1
    | dsimp -zeta only
    | with_reducible apply State.mirrorWord_good
    | with_reducible apply State.mirrorN_good
    | with_reducible apply State.commitArm_good
    | with_reducible apply State.commitDisarm_good
    | with_reducible apply State.entWrite_good
    | with_reducible apply State.entCancel_good
    | with_reducible apply State.setEpoch_good
    | with_reducible apply State.filter_good
    | split
    | with_reducible refine Keep.fst (by assumption) ?_
    | (simp -zeta only [Keep.mk_iff]; with_reducible refine Keep.upd ?_ rfl ?_; on_goal 2 => (and_intros <;> with_reducible first | exact .inl rfl | exact .inl ⟨rfl, rfl, rfl⟩ | exact .inr ‹_› | exact Nat.le_refl _ | exact Nat.le_add_right _ _))
    | with_reducible apply Keep.foldl
    | with_reducible apply Keep.foldl1

theorem State.mirrorTake_good (role : km.part .role) (power : km.part .power) (frc : km.part .frc)
    (force : km.part .force) (out : km.part .out) (tim : km.part .tim) (dep : km.part .dep)
    (starts : km.part .starts) (ing : km.part .ing) (map : km.part .map) (cmp : km.part .cmp) (otg : km.part .otg)
    (mem : km.part .mem) (dram : km.part .dram) (scn : km.part .scn) (cor : km.part .cor) (rai : km.part .rai)
    (lfm : km.part .lfm) (hkt : km.part .hkt) (line : km.part .line) (rdn : km.part .rdn) (clu : km.part .clu)
    (que : km.part .que) (mbx : km.part .mbx) (klc : km.part .klc) (fwu : km.part .fwu) (any : ∀ f, km.fld f)
    (s : State) (q : Nat) (r : MirrorRec) (hs : s.Keeps km pq) : (State.mirrorTake s q r).Keeps km pq := by
  unfold State.mirrorTake
  repeat' first
    | with_reducible assumption
    | (with_reducible (intros; exact any _))
    | ((try lift_lets -underBinder); intro x; refine Keep.use (k := km) (q := pq) (s := x) ?_ ?_; (on_goal 1 => dsimp -zeta only [x]); (on_goal 2 => clear_value x; intro _))
    | ((try lift_lets -underBinder); intro x; refine Keep.usePair (k := km) (q := pq) (p := x) ?_ ?_; (on_goal 1 => dsimp -zeta only [x]); (on_goal 2 => clear_value x; intro _))
    | ((try lift_lets -underBinder); intro x; refine Keep.memSt (x := x) ?_; subst x)
    | ((try lift_lets -underBinder); intro x; refine Keep.depSt (x := x) ?_; subst x)
    | ((try lift_lets -underBinder); intro x; clear_value x)
    | (intro _)
    | with_reducible apply State.mirrorApply_good
    | with_reducible apply State.set_good
    | (simp -zeta only [Keep.mk_iff]; with_reducible refine Keep.upd ?_ rfl ?_; on_goal 2 => (and_intros <;> with_reducible first | exact .inl rfl | exact .inl ⟨rfl, rfl, rfl⟩ | exact .inr ‹_› | exact Nat.le_refl _ | exact Nat.le_add_right _ _))

theorem State.mirrorDrain_good (role : km.part .role) (power : km.part .power) (frc : km.part .frc) (force : km.part .force) (out : km.part .out) (tim : km.part .tim) (dep : km.part .dep) (starts : km.part .starts) (ing : km.part .ing) (map : km.part .map) (cmp : km.part .cmp) (otg : km.part .otg) (mem : km.part .mem) (dram : km.part .dram) (scn : km.part .scn) (cor : km.part .cor) (rai : km.part .rai) (lfm : km.part .lfm) (hkt : km.part .hkt) (line : km.part .line) (rdn : km.part .rdn) (clu : km.part .clu) (que : km.part .que) (mbx : km.part .mbx) (klc : km.part .klc) (fwu : km.part .fwu) (any : ∀ f, km.fld f) (s : State) (n : Nat) (hs : s.Keeps km pq) : (s.mirrorDrain n).Keeps km pq := by
  induction n generalizing s with
  | zero => exact hs
  | succ n ih =>
    unfold State.mirrorDrain
    split
    · exact hs
    · split
      · exact hs
      · refine ih _ ?_
        apply State.mirrorTake_good <;> try (first | assumption | (intros; exact any _))
        exact Keep.mk_iff.2 <| Keep.upd hs rfl (by and_intros <;> first | exact .inl rfl | exact .inl ⟨rfl, rfl, rfl⟩ | exact Nat.le_refl _ | exact .inr ‹_›)

theorem State.mirrorAt_good (role : km.part .role) (power : km.part .power) (frc : km.part .frc)
    (force : km.part .force) (out : km.part .out) (tim : km.part .tim) (dep : km.part .dep)
    (starts : km.part .starts) (ing : km.part .ing) (map : km.part .map) (cmp : km.part .cmp) (otg : km.part .otg)
    (mem : km.part .mem) (dram : km.part .dram) (scn : km.part .scn) (cor : km.part .cor) (rai : km.part .rai)
    (lfm : km.part .lfm) (hkt : km.part .hkt) (line : km.part .line) (rdn : km.part .rdn) (clu : km.part .clu)
    (que : km.part .que) (mbx : km.part .mbx) (klc : km.part .klc) (fwu : km.part .fwu) (any : ∀ f, km.fld f)
    (s : State) (p : Nat) (m : MirrorMsg) (hs : s.Keeps km pq) : (State.mirrorAt s p m).Keeps km pq := by
  unfold State.mirrorAt
  repeat' first
    | with_reducible assumption
    | (with_reducible (intros; exact any _))
    | ((try lift_lets -underBinder); intro x; refine Keep.use (k := km) (q := pq) (s := x) ?_ ?_; (on_goal 1 => dsimp -zeta only [x]); (on_goal 2 => clear_value x; intro _))
    | ((try lift_lets -underBinder); intro x; refine Keep.usePair (k := km) (q := pq) (p := x) ?_ ?_; (on_goal 1 => dsimp -zeta only [x]); (on_goal 2 => clear_value x; intro _))
    | ((try lift_lets -underBinder); intro x; refine Keep.memSt (x := x) ?_; subst x)
    | ((try lift_lets -underBinder); intro x; refine Keep.depSt (x := x) ?_; subst x)
    | ((try lift_lets -underBinder); intro x; clear_value x)
    | (intro _)
    | with_reducible apply Keep.ite
    | with_reducible apply State.mirrorTake_good
    | with_reducible apply State.mirrorDrain_good
    | (simp -zeta only [Keep.mk_iff]; with_reducible refine Keep.upd ?_ rfl ?_; on_goal 2 => (and_intros <;> with_reducible first | exact .inl rfl | exact .inl ⟨rfl, rfl, rfl⟩ | exact .inr ‹_› | exact Nat.le_refl _ | exact Nat.le_add_right _ _))

theorem State.mirrorGap_good (out : km.part .out) (rdn : km.part .rdn) (hPG_EVT_PEND : ∀ a, km.fld (R.PG.EVT_PEND a))
    (hRDN_MIRROR_GAP_COUNT : km.fld R.RDN.MIRROR_GAP.COUNT) (hRDN_RDN_STAT_STATE : km.fld R.RDN.RDN_STAT.STATE)
    (s : State) (hs : s.Keeps km pq) : (State.mirrorGap s).Keeps km pq := by
  unfold State.mirrorGap
  repeat' first
    | with_reducible assumption
    | with_reducible exact hPG_EVT_PEND _
    | ((try lift_lets -underBinder); intro x; refine Keep.use (k := km) (q := pq) (s := x) ?_ ?_; (on_goal 1 => dsimp -zeta only [x]); (on_goal 2 => clear_value x; intro _))
    | ((try lift_lets -underBinder); intro x; refine Keep.usePair (k := km) (q := pq) (p := x) ?_ ?_; (on_goal 1 => dsimp -zeta only [x]); (on_goal 2 => clear_value x; intro _))
    | ((try lift_lets -underBinder); intro x; refine Keep.memSt (x := x) ?_; subst x)
    | ((try lift_lets -underBinder); intro x; refine Keep.depSt (x := x) ?_; subst x)
    | ((try lift_lets -underBinder); intro x; clear_value x)
    | (intro _)
    | with_reducible apply Keep.ite
    | with_reducible apply State.count_good
    | with_reducible apply State.syncLost_good
    | (simp -zeta only [Keep.mk_iff]; with_reducible refine Keep.upd ?_ rfl ?_; on_goal 2 => (and_intros <;> with_reducible first | exact .inl rfl | exact .inl ⟨rfl, rfl, rfl⟩ | exact .inr ‹_› | exact Nat.le_refl _ | exact Nat.le_add_right _ _))

theorem execMirrorRecord_good (role : km.part .role) (power : km.part .power) (frc : km.part .frc)
    (force : km.part .force) (out : km.part .out) (tim : km.part .tim) (dep : km.part .dep)
    (starts : km.part .starts) (ing : km.part .ing) (map : km.part .map) (cmp : km.part .cmp) (otg : km.part .otg)
    (mem : km.part .mem) (dram : km.part .dram) (scn : km.part .scn) (cor : km.part .cor) (rai : km.part .rai)
    (lfm : km.part .lfm) (hkt : km.part .hkt) (line : km.part .line) (rdn : km.part .rdn) (clu : km.part .clu)
    (que : km.part .que) (mbx : km.part .mbx) (klc : km.part .klc) (fwu : km.part .fwu) (any : ∀ f, km.fld f)
    (p : Nat) (m : MirrorMsg) (t : Nat) (s : State) (hs : s.Keeps km pq) : ∀ st, execMirrorRecord p m t s = .next st → st.Keeps km pq := by
  unfold execMirrorRecord
  refine run_good hs (fun s hs => ?_)
  repeat' first
    | with_reducible assumption
    | (with_reducible (intros; exact any _))
    | (intro _)
    | with_reducible apply State.tick_good
    | with_reducible apply State.mirrorAt_good

theorem execMirrorGap_good (frc : km.part .frc) (out : km.part .out) (rdn : km.part .rdn)
    (hPG_EVT_PEND : ∀ a, km.fld (R.PG.EVT_PEND a)) (hRDN_MIRROR_GAP_COUNT : km.fld R.RDN.MIRROR_GAP.COUNT)
    (hRDN_RDN_STAT_STATE : km.fld R.RDN.RDN_STAT.STATE) (t : Nat) (s : State) (hs : s.Keeps km pq) : ∀ st, execMirrorGap t s = .next st → st.Keeps km pq := by
  unfold execMirrorGap
  refine run_good hs (fun s hs => ?_)
  repeat' first
    | with_reducible assumption
    | with_reducible exact hPG_EVT_PEND _
    | (intro _)
    | with_reducible apply State.tick_good
    | with_reducible apply State.mirrorGap_good

end Sys2Proof.Machine
end

