-- ==== Sys2Proof/Laws/KeepsService.lean ====
section
/-!
SUPPORT. Every function of Machine/Service.lean changes what the hypotheses of its lemma name, and nothing else.
-/
namespace Sys2Proof.Machine
set_option Elab.async false
set_option linter.unusedVariables false
set_option linter.unusedTactic false
set_option linter.unreachableTactic false

variable {km : May} {pq : State}

theorem State.svpDrop_good (out : km.part .out) (hPG_EVT_PEND : ∀ a, km.fld (R.PG.EVT_PEND a))
    (hSVP_RX_DROP_COUNT : km.fld R.SVP.RX_DROP.COUNT) (s : State) (hs : s.Keeps km pq) : (State.svpDrop s).Keeps km pq := by
  unfold State.svpDrop
  repeat' first
    | with_reducible assumption
    | with_reducible exact hPG_EVT_PEND _
    | (intro _)
    | with_reducible apply State.count_good
    | with_reducible apply State.ev_good

theorem State.svpTake_good (out : km.part .out) (hPG_EVT_PEND : ∀ a, km.fld (R.PG.EVT_PEND a))
    (hSVP_RX_DGRAM_COUNT : km.fld R.SVP.RX_DGRAM.COUNT) (hSVP_RX_DROP_COUNT : km.fld R.SVP.RX_DROP.COUNT) (s : State)
    (d : Dgram) (act : State → State) (hs : s.Keeps km pq) (hf : ∀ s, s.Keeps km pq → (act s).Keeps km pq) : (State.svpTake s d act).Keeps km pq := by
  unfold State.svpTake
  repeat' first
    | with_reducible assumption
    | with_reducible exact hPG_EVT_PEND _
    | (intro _)
    | with_reducible apply Keep.ite
    | with_reducible apply State.count_good
    | with_reducible apply State.svpDrop_good
    | with_reducible apply hf

theorem State.svpOpenStatus_good (out : km.part .out) (hSVP_TX_DGRAM_COUNT : km.fld R.SVP.TX_DGRAM.COUNT) (s : State)
    (d : Dgram) (op : Nat) (hs : s.Keeps km pq) : (State.svpOpenStatus s d op).Keeps km pq := by
  unfold State.svpOpenStatus
  repeat' first
    | with_reducible assumption
    | (intro _)
    | with_reducible apply State.draw_good
    | with_reducible apply State.reply_good

theorem State.serviceFrame_good (out : km.part .out) (tim : km.part .tim)
    (hLNE_MSG_UNKNOWN_COUNT : ∀ a, km.fld (R.LNE.MSG_UNKNOWN.COUNT a)) (hPG_EVT_PEND : ∀ a, km.fld (R.PG.EVT_PEND a))
    (hSVP_RX_DGRAM_COUNT : km.fld R.SVP.RX_DGRAM.COUNT) (hSVP_RX_DROP_COUNT : km.fld R.SVP.RX_DROP.COUNT)
    (hSVP_TX_DGRAM_COUNT : km.fld R.SVP.TX_DGRAM.COUNT)
    (hTIM_DOM_OFFSET_OFFSET : ∀ a, km.fld (R.TIM.DOM_OFFSET.OFFSET a))
    (hTIM_DOM_RATE_RATE : ∀ a, km.fld (R.TIM.DOM_RATE.RATE a)) (s : State) (f : SvpFrame) (hs : s.Keeps km pq) : (State.serviceFrame s f).Keeps km pq := by
  unfold State.serviceFrame
  repeat' first
    | with_reducible assumption
    | with_reducible exact hLNE_MSG_UNKNOWN_COUNT _
    | with_reducible exact hPG_EVT_PEND _
    | with_reducible exact hTIM_DOM_OFFSET_OFFSET _
    | with_reducible exact hTIM_DOM_RATE_RATE _
    | ((try lift_lets -underBinder); intro x; refine Keep.use (k := km) (q := pq) (s := x) ?_ ?_; (on_goal 1 => dsimp -zeta only [x]); (on_goal 2 => clear_value x; intro _))
    | ((try lift_lets -underBinder); intro x; refine Keep.usePair (k := km) (q := pq) (p := x) ?_ ?_; (on_goal 1 => dsimp -zeta only [x]); (on_goal 2 => clear_value x; intro _))
    | ((try lift_lets -underBinder); intro x; refine Keep.memSt (x := x) ?_; subst x)
    | ((try lift_lets -underBinder); intro x; refine Keep.depSt (x := x) ?_; subst x)
    | ((try lift_lets -underBinder); intro x; clear_value x)
    | (intro _)
    | with_reducible apply Keep.ite
    | with_reducible apply State.emit_good
    | with_reducible apply State.svpDrop_good
    | with_reducible apply State.unknown_good
    | with_reducible apply State.svpTake_good
    | with_reducible apply State.reply_good
    | split

theorem State.serviceReg_good (role : km.part .role) (power : km.part .power) (frc : km.part .frc)
    (force : km.part .force) (out : km.part .out) (tim : km.part .tim) (dep : km.part .dep)
    (starts : km.part .starts) (ing : km.part .ing) (map : km.part .map) (cmp : km.part .cmp) (otg : km.part .otg)
    (mem : km.part .mem) (dram : km.part .dram) (scn : km.part .scn) (cor : km.part .cor) (rai : km.part .rai)
    (lfm : km.part .lfm) (hkt : km.part .hkt) (line : km.part .line) (rdn : km.part .rdn) (clu : km.part .clu)
    (que : km.part .que) (mbx : km.part .mbx) (klc : km.part .klc) (fwu : km.part .fwu) (any : ∀ f, km.fld f)
    (s : State) (d : Dgram) (op : Nat) (hs : s.Keeps km pq) : (State.serviceReg s d op).Keeps km pq := by
  unfold State.serviceReg
  repeat' first
    | with_reducible assumption
    | (with_reducible (intros; exact any _))
    | ((try lift_lets -underBinder); intro x; refine Keep.use (k := km) (q := pq) (s := x) ?_ ?_; (on_goal 1 => dsimp -zeta only [x]); (on_goal 2 => clear_value x; intro _))
    | ((try lift_lets -underBinder); intro x; refine Keep.usePair (k := km) (q := pq) (p := x) ?_ ?_; (on_goal 1 => dsimp -zeta only [x]); (on_goal 2 => clear_value x; intro _))
    | ((try lift_lets -underBinder); intro x; refine Keep.memSt (x := x) ?_; subst x)
    | ((try lift_lets -underBinder); intro x; refine Keep.depSt (x := x) ?_; subst x)
    | ((try lift_lets -underBinder); intro x; clear_value x)
    | (intro _)
    | with_reducible apply Keep.ite
    | with_reducible apply Keep.ite1
    | dsimp -zeta only
    | with_reducible apply State.count_good
    | with_reducible apply State.svpOpenStatus_good
    | with_reducible apply State.reply_good
    | with_reducible apply State.perform_good
    | with_reducible apply State.request_good

theorem State.slotOpen_good (out : km.part .out) (tim : km.part .tim) (line : km.part .line) (fwu : km.part .fwu)
    (hFWU_SESSION_ID : km.fld R.FWU.SESSION.ID) (hFWU_SESSION_PURPOSE : km.fld R.FWU.SESSION.PURPOSE)
    (hFWU_SESSION_SLOT : km.fld R.FWU.SESSION.SLOT) (hFWU_SESS_BYTES_BYTES : km.fld R.FWU.SESS_BYTES.BYTES)
    (hPG_ERR_ADDR_HI : ∀ a, km.fld (R.PG.ERR_ADDR_HI a)) (hPG_ERR_ADDR_LO : ∀ a, km.fld (R.PG.ERR_ADDR_LO a))
    (hPG_ERR_CODE : ∀ a, km.fld (R.PG.ERR_CODE a)) (hPG_ERR_COUNT : ∀ a, km.fld (R.PG.ERR_COUNT a))
    (hPG_ERR_OVERFLOW : ∀ a, km.fld (R.PG.ERR_OVERFLOW a)) (hPG_ERR_SOURCE : ∀ a, km.fld (R.PG.ERR_SOURCE a))
    (hPG_ERR_VALID : ∀ a, km.fld (R.PG.ERR_VALID a)) (hPG_EVT_PEND : ∀ a, km.fld (R.PG.EVT_PEND a))
    (hSLT_SLOT_GEN_GEN : ∀ a, km.fld (R.SLT.SLOT_GEN.GEN a))
    (hSLT_SLOT_STAT_RESULT : ∀ a, km.fld (R.SLT.SLOT_STAT.RESULT a))
    (hSLT_SLOT_STAT_STATE : ∀ a, km.fld (R.SLT.SLOT_STAT.STATE a))
    (hSLT_SLOT_STAT_TRIALS : ∀ a, km.fld (R.SLT.SLOT_STAT.TRIALS a))
    (hSVP_TX_DGRAM_COUNT : km.fld R.SVP.TX_DGRAM.COUNT)
    (hTIM_DOM_OFFSET_OFFSET : ∀ a, km.fld (R.TIM.DOM_OFFSET.OFFSET a))
    (hTIM_DOM_RATE_RATE : ∀ a, km.fld (R.TIM.DOM_RATE.RATE a)) (s : State) (d : Dgram) (hs : s.Keeps km pq) : (State.slotOpen s d).Keeps km pq := by
  unfold State.slotOpen
  repeat' first
    | with_reducible assumption
    | with_reducible exact hPG_ERR_ADDR_HI _
    | with_reducible exact hPG_ERR_ADDR_LO _
    | with_reducible exact hPG_ERR_CODE _
    | with_reducible exact hPG_ERR_COUNT _
    | with_reducible exact hPG_ERR_OVERFLOW _
    | with_reducible exact hPG_ERR_SOURCE _
    | with_reducible exact hPG_ERR_VALID _
    | with_reducible exact hPG_EVT_PEND _
    | with_reducible exact hSLT_SLOT_GEN_GEN _
    | with_reducible exact hSLT_SLOT_STAT_RESULT _
    | with_reducible exact hSLT_SLOT_STAT_STATE _
    | with_reducible exact hSLT_SLOT_STAT_TRIALS _
    | with_reducible exact hTIM_DOM_OFFSET_OFFSET _
    | with_reducible exact hTIM_DOM_RATE_RATE _
    | ((try lift_lets -underBinder); intro x; refine Keep.use (k := km) (q := pq) (s := x) ?_ ?_; (on_goal 1 => dsimp -zeta only [x]); (on_goal 2 => clear_value x; intro _))
    | ((try lift_lets -underBinder); intro x; refine Keep.usePair (k := km) (q := pq) (p := x) ?_ ?_; (on_goal 1 => dsimp -zeta only [x]); (on_goal 2 => clear_value x; intro _))
    | ((try lift_lets -underBinder); intro x; refine Keep.memSt (x := x) ?_; subst x)
    | ((try lift_lets -underBinder); intro x; refine Keep.depSt (x := x) ?_; subst x)
    | ((try lift_lets -underBinder); intro x; clear_value x)
    | (intro _)
    | with_reducible apply Keep.ite
    | with_reducible apply Keep.ite1
    | dsimp -zeta only
    | with_reducible apply State.openSlot_good
    | with_reducible apply State.reply_good
    | with_reducible apply State.openOut_good

theorem State.slotDataOwn_good (fwu : km.part .fwu) (hFWU_SESS_BYTES_BYTES : km.fld R.FWU.SESS_BYTES.BYTES)
    (s : State) (d : Dgram) (full : Bool) (hs : s.Keeps km pq) : (State.slotDataOwn s d full).1.Keeps km pq := by
  unfold State.slotDataOwn
  repeat' first
    | with_reducible assumption
    | ((try lift_lets -underBinder); intro x; refine Keep.use (k := km) (q := pq) (s := x) ?_ ?_; (on_goal 1 => dsimp -zeta only [x]); (on_goal 2 => clear_value x; intro _))
    | ((try lift_lets -underBinder); intro x; refine Keep.usePair (k := km) (q := pq) (p := x) ?_ ?_; (on_goal 1 => dsimp -zeta only [x]); (on_goal 2 => clear_value x; intro _))
    | ((try lift_lets -underBinder); intro x; refine Keep.memSt (x := x) ?_; subst x)
    | ((try lift_lets -underBinder); intro x; refine Keep.depSt (x := x) ?_; subst x)
    | ((try lift_lets -underBinder); intro x; clear_value x)
    | (intro _)
    | with_reducible apply Keep.ite
    | with_reducible apply Keep.ite1
    | dsimp -zeta only
    | with_reducible apply State.count_good
    | with_reducible apply State.writeSlot_good

theorem State.slotDataFar_good (out : km.part .out) (tim : km.part .tim) (line : km.part .line)
    (hTIM_DOM_OFFSET_OFFSET : ∀ a, km.fld (R.TIM.DOM_OFFSET.OFFSET a))
    (hTIM_DOM_RATE_RATE : ∀ a, km.fld (R.TIM.DOM_RATE.RATE a)) (s : State) (p k : Nat) (d : Dgram)
    (hs : s.Keeps km pq) : (State.slotDataFar s p k d).1.Keeps km pq := by
  unfold State.slotDataFar
  repeat' first
    | with_reducible assumption
    | with_reducible exact hTIM_DOM_OFFSET_OFFSET _
    | with_reducible exact hTIM_DOM_RATE_RATE _
    | ((try lift_lets -underBinder); intro x; refine Keep.use (k := km) (q := pq) (s := x) ?_ ?_; (on_goal 1 => dsimp -zeta only [x]); (on_goal 2 => clear_value x; intro _))
    | ((try lift_lets -underBinder); intro x; refine Keep.usePair (k := km) (q := pq) (p := x) ?_ ?_; (on_goal 1 => dsimp -zeta only [x]); (on_goal 2 => clear_value x; intro _))
    | ((try lift_lets -underBinder); intro x; refine Keep.memSt (x := x) ?_; subst x)
    | ((try lift_lets -underBinder); intro x; refine Keep.depSt (x := x) ?_; subst x)
    | ((try lift_lets -underBinder); intro x; clear_value x)
    | (intro _)
    | with_reducible apply Keep.ite
    | with_reducible apply Keep.ite1
    | dsimp -zeta only
    | with_reducible apply State.count_good
    | with_reducible apply State.setSession_good
    | with_reducible apply State.pumpSession_good
    | split

theorem State.slotData_good (out : km.part .out) (tim : km.part .tim) (line : km.part .line) (fwu : km.part .fwu)
    (hFWU_SESS_BYTES_BYTES : km.fld R.FWU.SESS_BYTES.BYTES) (hSVP_TX_DGRAM_COUNT : km.fld R.SVP.TX_DGRAM.COUNT)
    (hTIM_DOM_OFFSET_OFFSET : ∀ a, km.fld (R.TIM.DOM_OFFSET.OFFSET a))
    (hTIM_DOM_RATE_RATE : ∀ a, km.fld (R.TIM.DOM_RATE.RATE a)) (s : State) (d : Dgram) (full : Bool)
    (hs : s.Keeps km pq) : (State.slotData s d full).Keeps km pq := by
  unfold State.slotData
  repeat' first
    | with_reducible assumption
    | with_reducible exact hTIM_DOM_OFFSET_OFFSET _
    | with_reducible exact hTIM_DOM_RATE_RATE _
    | ((try lift_lets -underBinder); intro x; refine Keep.use (k := km) (q := pq) (s := x) ?_ ?_; (on_goal 1 => dsimp -zeta only [x]); (on_goal 2 => clear_value x; intro _))
    | ((try lift_lets -underBinder); intro x; refine Keep.usePair (k := km) (q := pq) (p := x) ?_ ?_; (on_goal 1 => dsimp -zeta only [x]); (on_goal 2 => clear_value x; intro _))
    | ((try lift_lets -underBinder); intro x; refine Keep.memSt (x := x) ?_; subst x)
    | ((try lift_lets -underBinder); intro x; refine Keep.depSt (x := x) ?_; subst x)
    | ((try lift_lets -underBinder); intro x; clear_value x)
    | (intro _)
    | with_reducible apply Keep.ite
    | with_reducible apply Keep.ite1
    | dsimp -zeta only
    | with_reducible apply State.count_good
    | with_reducible apply State.svpOpenStatus_good
    | with_reducible apply State.slotDataOwn_good
    | with_reducible apply State.slotDataFar_good
    | with_reducible apply State.reply_good

theorem State.slotClose_good (out : km.part .out) (tim : km.part .tim) (line : km.part .line) (fwu : km.part .fwu)
    (hFWU_SESSION_ID : km.fld R.FWU.SESSION.ID) (hFWU_SESSION_PURPOSE : km.fld R.FWU.SESSION.PURPOSE)
    (hFWU_SESSION_SLOT : km.fld R.FWU.SESSION.SLOT) (hFWU_SESS_BYTES_BYTES : km.fld R.FWU.SESS_BYTES.BYTES)
    (hPG_EVT_PEND : ∀ a, km.fld (R.PG.EVT_PEND a)) (hSLT_SLOT_STAT_STATE : ∀ a, km.fld (R.SLT.SLOT_STAT.STATE a))
    (hSVP_TX_DGRAM_COUNT : km.fld R.SVP.TX_DGRAM.COUNT)
    (hTIM_DOM_OFFSET_OFFSET : ∀ a, km.fld (R.TIM.DOM_OFFSET.OFFSET a))
    (hTIM_DOM_RATE_RATE : ∀ a, km.fld (R.TIM.DOM_RATE.RATE a)) (s : State) (d : Dgram) (hs : s.Keeps km pq) : (State.slotClose s d).Keeps km pq := by
  unfold State.slotClose
  repeat' first
    | with_reducible assumption
    | with_reducible exact hPG_EVT_PEND _
    | with_reducible exact hSLT_SLOT_STAT_STATE _
    | with_reducible exact hTIM_DOM_OFFSET_OFFSET _
    | with_reducible exact hTIM_DOM_RATE_RATE _
    | ((try lift_lets -underBinder); intro x; refine Keep.use (k := km) (q := pq) (s := x) ?_ ?_; (on_goal 1 => dsimp -zeta only [x]); (on_goal 2 => clear_value x; intro _))
    | ((try lift_lets -underBinder); intro x; refine Keep.usePair (k := km) (q := pq) (p := x) ?_ ?_; (on_goal 1 => dsimp -zeta only [x]); (on_goal 2 => clear_value x; intro _))
    | ((try lift_lets -underBinder); intro x; refine Keep.memSt (x := x) ?_; subst x)
    | ((try lift_lets -underBinder); intro x; refine Keep.depSt (x := x) ?_; subst x)
    | ((try lift_lets -underBinder); intro x; clear_value x)
    | (intro _)
    | with_reducible apply Keep.ite
    | with_reducible apply Keep.ite1
    | dsimp -zeta only
    | with_reducible apply State.closeSlot_good
    | with_reducible apply State.setSession_good
    | with_reducible apply State.pumpSession_good
    | with_reducible apply State.reply_good
    | split

theorem State.dropPoisoned_good (out : km.part .out) (tim : km.part .tim) (mbx : km.part .mbx)
    (hMBX_M_STAT_RX_COUNT : ∀ a b, km.fld (R.MBX.M_STAT.RX_COUNT a b))
    (hMBX_M_STAT_RX_POISON : ∀ a b, km.fld (R.MBX.M_STAT.RX_POISON a b))
    (hMBX_M_STAT_TX_INFLIGHT : ∀ a b, km.fld (R.MBX.M_STAT.TX_INFLIGHT a b))
    (hMBX_RX_DATA : ∀ a b c, km.fld (R.MBX.RX.DATA a b c)) (hPG_EVT_PEND : ∀ a, km.fld (R.PG.EVT_PEND a))
    (hTIM_DOM_OFFSET_OFFSET : ∀ a, km.fld (R.TIM.DOM_OFFSET.OFFSET a))
    (hTIM_DOM_RATE_RATE : ∀ a, km.fld (R.TIM.DOM_RATE.RATE a)) (s : State) (c : Nat) (hs : s.Keeps km pq) : (State.dropPoisoned s c).Keeps km pq := by
  unfold State.dropPoisoned
  repeat' first
    | with_reducible assumption
    | with_reducible exact hMBX_M_STAT_RX_COUNT _ _
    | with_reducible exact hMBX_M_STAT_RX_POISON _ _
    | with_reducible exact hMBX_M_STAT_TX_INFLIGHT _ _
    | with_reducible exact hMBX_RX_DATA _ _ _
    | with_reducible exact hPG_EVT_PEND _
    | with_reducible exact hTIM_DOM_OFFSET_OFFSET _
    | with_reducible exact hTIM_DOM_RATE_RATE _
    | ((try lift_lets -underBinder); intro x; refine Keep.use (k := km) (q := pq) (s := x) ?_ ?_; (on_goal 1 => dsimp -zeta only [x]); (on_goal 2 => clear_value x; intro _))
    | ((try lift_lets -underBinder); intro x; refine Keep.usePair (k := km) (q := pq) (p := x) ?_ ?_; (on_goal 1 => dsimp -zeta only [x]); (on_goal 2 => clear_value x; intro _))
    | ((try lift_lets -underBinder); intro x; refine Keep.memSt (x := x) ?_; subst x)
    | ((try lift_lets -underBinder); intro x; refine Keep.depSt (x := x) ?_; subst x)
    | ((try lift_lets -underBinder); intro x; clear_value x)
    | (intro _)
    | with_reducible apply Keep.ite
    | with_reducible apply State.forN_good
    | with_reducible apply State.mbxPop_good
    | split

theorem State.mbxOwn_good (out : km.part .out) (tim : km.part .tim) (mbx : km.part .mbx)
    (hMBX_M_REFUSED_COUNT : ∀ a b, km.fld (R.MBX.M_REFUSED.COUNT a b))
    (hMBX_M_STAT_RX_COUNT : ∀ a b, km.fld (R.MBX.M_STAT.RX_COUNT a b))
    (hMBX_M_STAT_RX_POISON : ∀ a b, km.fld (R.MBX.M_STAT.RX_POISON a b))
    (hMBX_M_STAT_TX_FULL : ∀ a b, km.fld (R.MBX.M_STAT.TX_FULL a b))
    (hMBX_M_STAT_TX_INFLIGHT : ∀ a b, km.fld (R.MBX.M_STAT.TX_INFLIGHT a b))
    (hMBX_RX_DATA : ∀ a b c, km.fld (R.MBX.RX.DATA a b c)) (hPG_EVT_PEND : ∀ a, km.fld (R.PG.EVT_PEND a))
    (hSVP_TX_DGRAM_COUNT : km.fld R.SVP.TX_DGRAM.COUNT)
    (hTIM_DOM_OFFSET_OFFSET : ∀ a, km.fld (R.TIM.DOM_OFFSET.OFFSET a))
    (hTIM_DOM_RATE_RATE : ∀ a, km.fld (R.TIM.DOM_RATE.RATE a)) (s : State) (d : Dgram) (hs : s.Keeps km pq) : (State.mbxOwn s d).Keeps km pq := by
  unfold State.mbxOwn
  repeat' first
    | with_reducible assumption
    | with_reducible exact hMBX_M_REFUSED_COUNT _ _
    | with_reducible exact hMBX_M_STAT_RX_COUNT _ _
    | with_reducible exact hMBX_M_STAT_RX_POISON _ _
    | with_reducible exact hMBX_M_STAT_TX_FULL _ _
    | with_reducible exact hMBX_M_STAT_TX_INFLIGHT _ _
    | with_reducible exact hMBX_RX_DATA _ _ _
    | with_reducible exact hPG_EVT_PEND _
    | with_reducible exact hTIM_DOM_OFFSET_OFFSET _
    | with_reducible exact hTIM_DOM_RATE_RATE _
    | ((try lift_lets -underBinder); intro x; refine Keep.use (k := km) (q := pq) (s := x) ?_ ?_; (on_goal 1 => dsimp -zeta only [x]); (on_goal 2 => clear_value x; intro _))
    | ((try lift_lets -underBinder); intro x; refine Keep.usePair (k := km) (q := pq) (p := x) ?_ ?_; (on_goal 1 => dsimp -zeta only [x]); (on_goal 2 => clear_value x; intro _))
    | ((try lift_lets -underBinder); intro x; refine Keep.memSt (x := x) ?_; subst x)
    | ((try lift_lets -underBinder); intro x; refine Keep.depSt (x := x) ?_; subst x)
    | ((try lift_lets -underBinder); intro x; clear_value x)
    | (intro _)
    | with_reducible apply Keep.ite
    | with_reducible apply State.count_good
    | with_reducible apply State.mbxPut_good
    | with_reducible apply State.dropPoisoned_good
    | with_reducible apply State.mbxPop_good
    | with_reducible apply State.reply_good
    | split

theorem State.mbxFar_good (out : km.part .out) (tim : km.part .tim) (line : km.part .line)
    (hSVP_TX_DGRAM_COUNT : km.fld R.SVP.TX_DGRAM.COUNT)
    (hTIM_DOM_OFFSET_OFFSET : ∀ a, km.fld (R.TIM.DOM_OFFSET.OFFSET a))
    (hTIM_DOM_RATE_RATE : ∀ a, km.fld (R.TIM.DOM_RATE.RATE a)) (s : State) (p k : Nat) (d : Dgram)
    (hs : s.Keeps km pq) : (State.mbxFar s p k d).Keeps km pq := by
  unfold State.mbxFar
  repeat' first
    | with_reducible assumption
    | with_reducible exact hTIM_DOM_OFFSET_OFFSET _
    | with_reducible exact hTIM_DOM_RATE_RATE _
    | ((try lift_lets -underBinder); intro x; refine Keep.use (k := km) (q := pq) (s := x) ?_ ?_; (on_goal 1 => dsimp -zeta only [x]); (on_goal 2 => clear_value x; intro _))
    | ((try lift_lets -underBinder); intro x; refine Keep.usePair (k := km) (q := pq) (p := x) ?_ ?_; (on_goal 1 => dsimp -zeta only [x]); (on_goal 2 => clear_value x; intro _))
    | ((try lift_lets -underBinder); intro x; refine Keep.memSt (x := x) ?_; subst x)
    | ((try lift_lets -underBinder); intro x; refine Keep.depSt (x := x) ?_; subst x)
    | ((try lift_lets -underBinder); intro x; clear_value x)
    | (intro _)
    | with_reducible apply Keep.ite
    | with_reducible apply Keep.ite1
    | dsimp -zeta only
    | with_reducible apply State.count_good
    | with_reducible apply State.openOut_good
    | with_reducible apply State.reply_good
    | with_reducible apply State.setSession_good
    | with_reducible apply State.pumpSession_good
    | split

theorem State.mbxService_good (out : km.part .out) (tim : km.part .tim) (line : km.part .line) (mbx : km.part .mbx)
    (hMBX_M_REFUSED_COUNT : ∀ a b, km.fld (R.MBX.M_REFUSED.COUNT a b))
    (hMBX_M_STAT_RX_COUNT : ∀ a b, km.fld (R.MBX.M_STAT.RX_COUNT a b))
    (hMBX_M_STAT_RX_POISON : ∀ a b, km.fld (R.MBX.M_STAT.RX_POISON a b))
    (hMBX_M_STAT_TX_FULL : ∀ a b, km.fld (R.MBX.M_STAT.TX_FULL a b))
    (hMBX_M_STAT_TX_INFLIGHT : ∀ a b, km.fld (R.MBX.M_STAT.TX_INFLIGHT a b))
    (hMBX_RX_DATA : ∀ a b c, km.fld (R.MBX.RX.DATA a b c)) (hPG_EVT_PEND : ∀ a, km.fld (R.PG.EVT_PEND a))
    (hSVP_TX_DGRAM_COUNT : km.fld R.SVP.TX_DGRAM.COUNT)
    (hTIM_DOM_OFFSET_OFFSET : ∀ a, km.fld (R.TIM.DOM_OFFSET.OFFSET a))
    (hTIM_DOM_RATE_RATE : ∀ a, km.fld (R.TIM.DOM_RATE.RATE a)) (s : State) (d : Dgram) (hs : s.Keeps km pq) : (State.mbxService s d).Keeps km pq := by
  unfold State.mbxService
  repeat' first
    | with_reducible assumption
    | with_reducible exact hMBX_M_REFUSED_COUNT _ _
    | with_reducible exact hMBX_M_STAT_RX_COUNT _ _
    | with_reducible exact hMBX_M_STAT_RX_POISON _ _
    | with_reducible exact hMBX_M_STAT_TX_FULL _ _
    | with_reducible exact hMBX_M_STAT_TX_INFLIGHT _ _
    | with_reducible exact hMBX_RX_DATA _ _ _
    | with_reducible exact hPG_EVT_PEND _
    | with_reducible exact hTIM_DOM_OFFSET_OFFSET _
    | with_reducible exact hTIM_DOM_RATE_RATE _
    | ((try lift_lets -underBinder); intro x; refine Keep.use (k := km) (q := pq) (s := x) ?_ ?_; (on_goal 1 => dsimp -zeta only [x]); (on_goal 2 => clear_value x; intro _))
    | ((try lift_lets -underBinder); intro x; refine Keep.usePair (k := km) (q := pq) (p := x) ?_ ?_; (on_goal 1 => dsimp -zeta only [x]); (on_goal 2 => clear_value x; intro _))
    | ((try lift_lets -underBinder); intro x; refine Keep.memSt (x := x) ?_; subst x)
    | ((try lift_lets -underBinder); intro x; refine Keep.depSt (x := x) ?_; subst x)
    | ((try lift_lets -underBinder); intro x; clear_value x)
    | (intro _)
    | with_reducible apply Keep.ite
    | with_reducible apply State.count_good
    | with_reducible apply State.svpOpenStatus_good
    | with_reducible apply State.mbxOwn_good
    | with_reducible apply State.mbxFar_good
    | with_reducible apply State.reply_good

theorem State.keyRevoke_good (out : km.part .out) (hFWU_KEYS_REVOKED : km.fld R.FWU.KEYS.REVOKED)
    (hSVP_TX_DGRAM_COUNT : km.fld R.SVP.TX_DGRAM.COUNT) (s : State) (d : Dgram) (hs : s.Keeps km pq) : (State.keyRevoke s d).Keeps km pq := by
  unfold State.keyRevoke
  repeat' first
    | with_reducible assumption
    | (intro _)
    | with_reducible apply Keep.ite
    | with_reducible apply State.svpOpenStatus_good
    | with_reducible apply State.reply_good
    | with_reducible apply State.set_good

theorem State.sessionTimeout_good (out : km.part .out) (tim : km.part .tim) (line : km.part .line)
    (fwu : km.part .fwu) (hFWU_SESSION_ID : km.fld R.FWU.SESSION.ID)
    (hFWU_SESSION_PURPOSE : km.fld R.FWU.SESSION.PURPOSE) (hFWU_SESSION_SLOT : km.fld R.FWU.SESSION.SLOT)
    (hFWU_SESS_BYTES_BYTES : km.fld R.FWU.SESS_BYTES.BYTES) (hPG_EVT_PEND : ∀ a, km.fld (R.PG.EVT_PEND a))
    (hSLT_SLOT_STAT_STATE : ∀ a, km.fld (R.SLT.SLOT_STAT.STATE a))
    (hTIM_DOM_OFFSET_OFFSET : ∀ a, km.fld (R.TIM.DOM_OFFSET.OFFSET a))
    (hTIM_DOM_RATE_RATE : ∀ a, km.fld (R.TIM.DOM_RATE.RATE a)) (s : State) (hs : s.Keeps km pq) : (State.sessionTimeout s).Keeps km pq := by
  unfold State.sessionTimeout
  repeat' first
    | with_reducible assumption
    | with_reducible exact hPG_EVT_PEND _
    | with_reducible exact hSLT_SLOT_STAT_STATE _
    | with_reducible exact hTIM_DOM_OFFSET_OFFSET _
    | with_reducible exact hTIM_DOM_RATE_RATE _
    | ((try lift_lets -underBinder); intro x; refine Keep.use (k := km) (q := pq) (s := x) ?_ ?_; (on_goal 1 => dsimp -zeta only [x]); (on_goal 2 => clear_value x; intro _))
    | ((try lift_lets -underBinder); intro x; refine Keep.usePair (k := km) (q := pq) (p := x) ?_ ?_; (on_goal 1 => dsimp -zeta only [x]); (on_goal 2 => clear_value x; intro _))
    | ((try lift_lets -underBinder); intro x; refine Keep.memSt (x := x) ?_; subst x)
    | ((try lift_lets -underBinder); intro x; refine Keep.depSt (x := x) ?_; subst x)
    | ((try lift_lets -underBinder); intro x; clear_value x)
    | (intro _)
    | with_reducible apply Keep.ite
    | with_reducible apply State.endSession_good
    | split
    | (simp -zeta only [Keep.mk_iff]; with_reducible refine Keep.upd ?_ rfl ?_; on_goal 2 => (and_intros <;> with_reducible first | exact .inl rfl | exact .inl ⟨rfl, rfl, rfl⟩ | exact .inr ‹_› | exact Nat.le_refl _ | exact Nat.le_add_right _ _))

theorem execServiceFrame_good (frc : km.part .frc) (out : km.part .out) (tim : km.part .tim)
    (hLNE_MSG_UNKNOWN_COUNT : ∀ a, km.fld (R.LNE.MSG_UNKNOWN.COUNT a)) (hPG_EVT_PEND : ∀ a, km.fld (R.PG.EVT_PEND a))
    (hSVP_RX_DGRAM_COUNT : km.fld R.SVP.RX_DGRAM.COUNT) (hSVP_RX_DROP_COUNT : km.fld R.SVP.RX_DROP.COUNT)
    (hSVP_TX_DGRAM_COUNT : km.fld R.SVP.TX_DGRAM.COUNT)
    (hTIM_DOM_OFFSET_OFFSET : ∀ a, km.fld (R.TIM.DOM_OFFSET.OFFSET a))
    (hTIM_DOM_RATE_RATE : ∀ a, km.fld (R.TIM.DOM_RATE.RATE a)) (f : SvpFrame) (t : Nat) (s : State)
    (hs : s.Keeps km pq) : ∀ st, execServiceFrame f t s = .next st → st.Keeps km pq := by
  unfold execServiceFrame
  refine run_good hs (fun s hs => ?_)
  repeat' first
    | with_reducible assumption
    | with_reducible exact hLNE_MSG_UNKNOWN_COUNT _
    | with_reducible exact hPG_EVT_PEND _
    | with_reducible exact hTIM_DOM_OFFSET_OFFSET _
    | with_reducible exact hTIM_DOM_RATE_RATE _
    | (intro _)
    | with_reducible apply State.tick_good
    | with_reducible apply State.serviceFrame_good

theorem execSvpLinkUp_good (frc : km.part .frc) (out : km.part .out) (hPG_EVT_PEND : ∀ a, km.fld (R.PG.EVT_PEND a))
    (hSVP_SVP_STAT_AN_DONE : km.fld R.SVP.SVP_STAT.AN_DONE) (hSVP_SVP_STAT_LINK_UP : km.fld R.SVP.SVP_STAT.LINK_UP)
    (t : Nat) (s : State) (hs : s.Keeps km pq) : ∀ st, execSvpLinkUp t s = .next st → st.Keeps km pq := by
  unfold execSvpLinkUp
  refine run_good hs (fun s hs => ?_)
  repeat' first
    | with_reducible assumption
    | with_reducible exact hPG_EVT_PEND _
    | ((try lift_lets -underBinder); intro x; refine Keep.use (k := km) (q := pq) (s := x) ?_ ?_; (on_goal 1 => dsimp -zeta only [x]); (on_goal 2 => clear_value x; intro _))
    | ((try lift_lets -underBinder); intro x; refine Keep.usePair (k := km) (q := pq) (p := x) ?_ ?_; (on_goal 1 => dsimp -zeta only [x]); (on_goal 2 => clear_value x; intro _))
    | ((try lift_lets -underBinder); intro x; refine Keep.memSt (x := x) ?_; subst x)
    | ((try lift_lets -underBinder); intro x; refine Keep.depSt (x := x) ?_; subst x)
    | ((try lift_lets -underBinder); intro x; clear_value x)
    | (intro _)
    | with_reducible apply Keep.ite
    | with_reducible apply State.tick_good
    | with_reducible apply State.svpLink_good

theorem execSvpLinkDown_good (frc : km.part .frc) (out : km.part .out) (hPG_EVT_PEND : ∀ a, km.fld (R.PG.EVT_PEND a))
    (hSVP_SVP_STAT_AN_DONE : km.fld R.SVP.SVP_STAT.AN_DONE) (hSVP_SVP_STAT_LINK_UP : km.fld R.SVP.SVP_STAT.LINK_UP)
    (t : Nat) (s : State) (hs : s.Keeps km pq) : ∀ st, execSvpLinkDown t s = .next st → st.Keeps km pq := by
  unfold execSvpLinkDown
  refine run_good hs (fun s hs => ?_)
  repeat' first
    | with_reducible assumption
    | with_reducible exact hPG_EVT_PEND _
    | ((try lift_lets -underBinder); intro x; refine Keep.use (k := km) (q := pq) (s := x) ?_ ?_; (on_goal 1 => dsimp -zeta only [x]); (on_goal 2 => clear_value x; intro _))
    | ((try lift_lets -underBinder); intro x; refine Keep.usePair (k := km) (q := pq) (p := x) ?_ ?_; (on_goal 1 => dsimp -zeta only [x]); (on_goal 2 => clear_value x; intro _))
    | ((try lift_lets -underBinder); intro x; refine Keep.memSt (x := x) ?_; subst x)
    | ((try lift_lets -underBinder); intro x; refine Keep.depSt (x := x) ?_; subst x)
    | ((try lift_lets -underBinder); intro x; clear_value x)
    | (intro _)
    | with_reducible apply Keep.ite
    | with_reducible apply State.tick_good
    | with_reducible apply State.svpLink_good

theorem execRegRead_good (role : km.part .role) (power : km.part .power) (frc : km.part .frc)
    (force : km.part .force) (out : km.part .out) (tim : km.part .tim) (dep : km.part .dep)
    (starts : km.part .starts) (ing : km.part .ing) (map : km.part .map) (cmp : km.part .cmp) (otg : km.part .otg)
    (mem : km.part .mem) (dram : km.part .dram) (scn : km.part .scn) (cor : km.part .cor) (rai : km.part .rai)
    (lfm : km.part .lfm) (hkt : km.part .hkt) (line : km.part .line) (rdn : km.part .rdn) (clu : km.part .clu)
    (que : km.part .que) (mbx : km.part .mbx) (klc : km.part .klc) (fwu : km.part .fwu) (any : ∀ f, km.fld f)
    (d : Dgram) (t : Nat) (s : State) (hs : s.Keeps km pq) : ∀ st, execRegRead d t s = .next st → st.Keeps km pq := by
  unfold execRegRead
  refine run_good hs (fun s hs => ?_)
  repeat' first
    | with_reducible assumption
    | (with_reducible (intros; exact any _))
    | (intro _)
    | with_reducible apply State.tick_good
    | with_reducible apply State.svpTake_good
    | with_reducible apply State.serviceReg_good

theorem execRegWrite_good (role : km.part .role) (power : km.part .power) (frc : km.part .frc)
    (force : km.part .force) (out : km.part .out) (tim : km.part .tim) (dep : km.part .dep)
    (starts : km.part .starts) (ing : km.part .ing) (map : km.part .map) (cmp : km.part .cmp) (otg : km.part .otg)
    (mem : km.part .mem) (dram : km.part .dram) (scn : km.part .scn) (cor : km.part .cor) (rai : km.part .rai)
    (lfm : km.part .lfm) (hkt : km.part .hkt) (line : km.part .line) (rdn : km.part .rdn) (clu : km.part .clu)
    (que : km.part .que) (mbx : km.part .mbx) (klc : km.part .klc) (fwu : km.part .fwu) (any : ∀ f, km.fld f)
    (d : Dgram) (t : Nat) (s : State) (hs : s.Keeps km pq) : ∀ st, execRegWrite d t s = .next st → st.Keeps km pq := by
  unfold execRegWrite
  refine run_good hs (fun s hs => ?_)
  repeat' first
    | with_reducible assumption
    | (with_reducible (intros; exact any _))
    | (intro _)
    | with_reducible apply State.tick_good
    | with_reducible apply State.svpTake_good
    | with_reducible apply State.serviceReg_good

theorem execSlotOpen_good (frc : km.part .frc) (out : km.part .out) (tim : km.part .tim) (line : km.part .line)
    (fwu : km.part .fwu) (hFWU_SESSION_ID : km.fld R.FWU.SESSION.ID)
    (hFWU_SESSION_PURPOSE : km.fld R.FWU.SESSION.PURPOSE) (hFWU_SESSION_SLOT : km.fld R.FWU.SESSION.SLOT)
    (hFWU_SESS_BYTES_BYTES : km.fld R.FWU.SESS_BYTES.BYTES) (hPG_ERR_ADDR_HI : ∀ a, km.fld (R.PG.ERR_ADDR_HI a))
    (hPG_ERR_ADDR_LO : ∀ a, km.fld (R.PG.ERR_ADDR_LO a)) (hPG_ERR_CODE : ∀ a, km.fld (R.PG.ERR_CODE a))
    (hPG_ERR_COUNT : ∀ a, km.fld (R.PG.ERR_COUNT a)) (hPG_ERR_OVERFLOW : ∀ a, km.fld (R.PG.ERR_OVERFLOW a))
    (hPG_ERR_SOURCE : ∀ a, km.fld (R.PG.ERR_SOURCE a)) (hPG_ERR_VALID : ∀ a, km.fld (R.PG.ERR_VALID a))
    (hPG_EVT_PEND : ∀ a, km.fld (R.PG.EVT_PEND a)) (hSLT_SLOT_GEN_GEN : ∀ a, km.fld (R.SLT.SLOT_GEN.GEN a))
    (hSLT_SLOT_STAT_RESULT : ∀ a, km.fld (R.SLT.SLOT_STAT.RESULT a))
    (hSLT_SLOT_STAT_STATE : ∀ a, km.fld (R.SLT.SLOT_STAT.STATE a))
    (hSLT_SLOT_STAT_TRIALS : ∀ a, km.fld (R.SLT.SLOT_STAT.TRIALS a))
    (hSVP_RX_DGRAM_COUNT : km.fld R.SVP.RX_DGRAM.COUNT) (hSVP_RX_DROP_COUNT : km.fld R.SVP.RX_DROP.COUNT)
    (hSVP_TX_DGRAM_COUNT : km.fld R.SVP.TX_DGRAM.COUNT)
    (hTIM_DOM_OFFSET_OFFSET : ∀ a, km.fld (R.TIM.DOM_OFFSET.OFFSET a))
    (hTIM_DOM_RATE_RATE : ∀ a, km.fld (R.TIM.DOM_RATE.RATE a)) (d : Dgram) (t : Nat) (s : State) (hs : s.Keeps km pq)
    : ∀ st, execSlotOpen d t s = .next st → st.Keeps km pq := by
  unfold execSlotOpen
  refine run_good hs (fun s hs => ?_)
  repeat' first
    | with_reducible assumption
    | with_reducible exact hPG_ERR_ADDR_HI _
    | with_reducible exact hPG_ERR_ADDR_LO _
    | with_reducible exact hPG_ERR_CODE _
    | with_reducible exact hPG_ERR_COUNT _
    | with_reducible exact hPG_ERR_OVERFLOW _
    | with_reducible exact hPG_ERR_SOURCE _
    | with_reducible exact hPG_ERR_VALID _
    | with_reducible exact hPG_EVT_PEND _
    | with_reducible exact hSLT_SLOT_GEN_GEN _
    | with_reducible exact hSLT_SLOT_STAT_RESULT _
    | with_reducible exact hSLT_SLOT_STAT_STATE _
    | with_reducible exact hSLT_SLOT_STAT_TRIALS _
    | with_reducible exact hTIM_DOM_OFFSET_OFFSET _
    | with_reducible exact hTIM_DOM_RATE_RATE _
    | (intro _)
    | with_reducible apply State.tick_good
    | with_reducible apply State.svpTake_good
    | with_reducible apply State.slotOpen_good

theorem execSlotData_good (frc : km.part .frc) (out : km.part .out) (tim : km.part .tim) (line : km.part .line)
    (fwu : km.part .fwu) (hFWU_SESS_BYTES_BYTES : km.fld R.FWU.SESS_BYTES.BYTES)
    (hPG_EVT_PEND : ∀ a, km.fld (R.PG.EVT_PEND a)) (hSVP_RX_DGRAM_COUNT : km.fld R.SVP.RX_DGRAM.COUNT)
    (hSVP_RX_DROP_COUNT : km.fld R.SVP.RX_DROP.COUNT) (hSVP_TX_DGRAM_COUNT : km.fld R.SVP.TX_DGRAM.COUNT)
    (hTIM_DOM_OFFSET_OFFSET : ∀ a, km.fld (R.TIM.DOM_OFFSET.OFFSET a))
    (hTIM_DOM_RATE_RATE : ∀ a, km.fld (R.TIM.DOM_RATE.RATE a)) (d : Dgram) (full : Bool) (t : Nat) (s : State)
    (hs : s.Keeps km pq) : ∀ st, execSlotData d full t s = .next st → st.Keeps km pq := by
  unfold execSlotData
  refine run_good hs (fun s hs => ?_)
  repeat' first
    | with_reducible assumption
    | with_reducible exact hPG_EVT_PEND _
    | with_reducible exact hTIM_DOM_OFFSET_OFFSET _
    | with_reducible exact hTIM_DOM_RATE_RATE _
    | (intro _)
    | with_reducible apply State.tick_good
    | with_reducible apply State.svpTake_good
    | with_reducible apply State.slotData_good

theorem execSlotClose_good (frc : km.part .frc) (out : km.part .out) (tim : km.part .tim) (line : km.part .line)
    (fwu : km.part .fwu) (hFWU_SESSION_ID : km.fld R.FWU.SESSION.ID)
    (hFWU_SESSION_PURPOSE : km.fld R.FWU.SESSION.PURPOSE) (hFWU_SESSION_SLOT : km.fld R.FWU.SESSION.SLOT)
    (hFWU_SESS_BYTES_BYTES : km.fld R.FWU.SESS_BYTES.BYTES) (hPG_EVT_PEND : ∀ a, km.fld (R.PG.EVT_PEND a))
    (hSLT_SLOT_STAT_STATE : ∀ a, km.fld (R.SLT.SLOT_STAT.STATE a))
    (hSVP_RX_DGRAM_COUNT : km.fld R.SVP.RX_DGRAM.COUNT) (hSVP_RX_DROP_COUNT : km.fld R.SVP.RX_DROP.COUNT)
    (hSVP_TX_DGRAM_COUNT : km.fld R.SVP.TX_DGRAM.COUNT)
    (hTIM_DOM_OFFSET_OFFSET : ∀ a, km.fld (R.TIM.DOM_OFFSET.OFFSET a))
    (hTIM_DOM_RATE_RATE : ∀ a, km.fld (R.TIM.DOM_RATE.RATE a)) (d : Dgram) (t : Nat) (s : State) (hs : s.Keeps km pq)
    : ∀ st, execSlotClose d t s = .next st → st.Keeps km pq := by
  unfold execSlotClose
  refine run_good hs (fun s hs => ?_)
  repeat' first
    | with_reducible assumption
    | with_reducible exact hPG_EVT_PEND _
    | with_reducible exact hSLT_SLOT_STAT_STATE _
    | with_reducible exact hTIM_DOM_OFFSET_OFFSET _
    | with_reducible exact hTIM_DOM_RATE_RATE _
    | (intro _)
    | with_reducible apply State.tick_good
    | with_reducible apply State.svpTake_good
    | with_reducible apply State.slotClose_good

theorem execMbx_good (frc : km.part .frc) (out : km.part .out) (tim : km.part .tim) (line : km.part .line)
    (mbx : km.part .mbx) (hMBX_M_REFUSED_COUNT : ∀ a b, km.fld (R.MBX.M_REFUSED.COUNT a b))
    (hMBX_M_STAT_RX_COUNT : ∀ a b, km.fld (R.MBX.M_STAT.RX_COUNT a b))
    (hMBX_M_STAT_RX_POISON : ∀ a b, km.fld (R.MBX.M_STAT.RX_POISON a b))
    (hMBX_M_STAT_TX_FULL : ∀ a b, km.fld (R.MBX.M_STAT.TX_FULL a b))
    (hMBX_M_STAT_TX_INFLIGHT : ∀ a b, km.fld (R.MBX.M_STAT.TX_INFLIGHT a b))
    (hMBX_RX_DATA : ∀ a b c, km.fld (R.MBX.RX.DATA a b c)) (hPG_EVT_PEND : ∀ a, km.fld (R.PG.EVT_PEND a))
    (hSVP_RX_DGRAM_COUNT : km.fld R.SVP.RX_DGRAM.COUNT) (hSVP_RX_DROP_COUNT : km.fld R.SVP.RX_DROP.COUNT)
    (hSVP_TX_DGRAM_COUNT : km.fld R.SVP.TX_DGRAM.COUNT)
    (hTIM_DOM_OFFSET_OFFSET : ∀ a, km.fld (R.TIM.DOM_OFFSET.OFFSET a))
    (hTIM_DOM_RATE_RATE : ∀ a, km.fld (R.TIM.DOM_RATE.RATE a)) (d : Dgram) (t : Nat) (s : State) (hs : s.Keeps km pq)
    : ∀ st, execMbx d t s = .next st → st.Keeps km pq := by
  unfold execMbx
  refine run_good hs (fun s hs => ?_)
  repeat' first
    | with_reducible assumption
    | with_reducible exact hMBX_M_REFUSED_COUNT _ _
    | with_reducible exact hMBX_M_STAT_RX_COUNT _ _
    | with_reducible exact hMBX_M_STAT_RX_POISON _ _
    | with_reducible exact hMBX_M_STAT_TX_FULL _ _
    | with_reducible exact hMBX_M_STAT_TX_INFLIGHT _ _
    | with_reducible exact hMBX_RX_DATA _ _ _
    | with_reducible exact hPG_EVT_PEND _
    | with_reducible exact hTIM_DOM_OFFSET_OFFSET _
    | with_reducible exact hTIM_DOM_RATE_RATE _
    | (intro _)
    | with_reducible apply State.tick_good
    | with_reducible apply State.svpTake_good
    | with_reducible apply State.mbxService_good

theorem execKeyRevoke_good (frc : km.part .frc) (out : km.part .out) (hFWU_KEYS_REVOKED : km.fld R.FWU.KEYS.REVOKED)
    (hPG_EVT_PEND : ∀ a, km.fld (R.PG.EVT_PEND a)) (hSVP_RX_DGRAM_COUNT : km.fld R.SVP.RX_DGRAM.COUNT)
    (hSVP_RX_DROP_COUNT : km.fld R.SVP.RX_DROP.COUNT) (hSVP_TX_DGRAM_COUNT : km.fld R.SVP.TX_DGRAM.COUNT) (d : Dgram)
    (t : Nat) (s : State) (hs : s.Keeps km pq) : ∀ st, execKeyRevoke d t s = .next st → st.Keeps km pq := by
  unfold execKeyRevoke
  refine run_good hs (fun s hs => ?_)
  repeat' first
    | with_reducible assumption
    | with_reducible exact hPG_EVT_PEND _
    | (intro _)
    | with_reducible apply State.tick_good
    | with_reducible apply State.svpTake_good
    | with_reducible apply State.keyRevoke_good

theorem execSessionTimeout_good (frc : km.part .frc) (out : km.part .out) (tim : km.part .tim) (line : km.part .line)
    (fwu : km.part .fwu) (hFWU_SESSION_ID : km.fld R.FWU.SESSION.ID)
    (hFWU_SESSION_PURPOSE : km.fld R.FWU.SESSION.PURPOSE) (hFWU_SESSION_SLOT : km.fld R.FWU.SESSION.SLOT)
    (hFWU_SESS_BYTES_BYTES : km.fld R.FWU.SESS_BYTES.BYTES) (hPG_EVT_PEND : ∀ a, km.fld (R.PG.EVT_PEND a))
    (hSLT_SLOT_STAT_STATE : ∀ a, km.fld (R.SLT.SLOT_STAT.STATE a))
    (hTIM_DOM_OFFSET_OFFSET : ∀ a, km.fld (R.TIM.DOM_OFFSET.OFFSET a))
    (hTIM_DOM_RATE_RATE : ∀ a, km.fld (R.TIM.DOM_RATE.RATE a)) (t : Nat) (s : State) (hs : s.Keeps km pq) : ∀ st, execSessionTimeout t s = .next st → st.Keeps km pq := by
  unfold execSessionTimeout
  refine run_good hs (fun s hs => ?_)
  repeat' first
    | with_reducible assumption
    | with_reducible exact hPG_EVT_PEND _
    | with_reducible exact hSLT_SLOT_STAT_STATE _
    | with_reducible exact hTIM_DOM_OFFSET_OFFSET _
    | with_reducible exact hTIM_DOM_RATE_RATE _
    | (intro _)
    | with_reducible apply State.tick_good
    | with_reducible apply State.sessionTimeout_good

end Sys2Proof.Machine
end

