-- ==== Sys2Proof/Laws/State.lean ====
section
/-!
SUPPORT. What each update of the state leaves alone, field by field, and the fields it writes.
-/
namespace Sys2Proof.Machine

variable (s : State)

@[simp] theorem State.set_pending (f : Fld) (v : Nat) : (s.set f v).pending = s.pending := rfl
@[simp] theorem State.set_power (f : Fld) (v : Nat) : (s.set f v).power = s.power := rfl
@[simp] theorem State.set_role (f : Fld) (v : Nat) : (s.set f v).role = s.role := rfl
@[simp] theorem State.set_frc (f : Fld) (v : Nat) : (s.set f v).frc = s.frc := rfl
@[simp] theorem State.set_force (f : Fld) (v : Nat) : (s.set f v).force = s.force := rfl
@[simp] theorem State.set_fresh (f : Fld) (v : Nat) : (s.set f v).fresh = s.fresh := rfl
@[simp] theorem State.set_out (f : Fld) (v : Nat) : (s.set f v).out = s.out := rfl
@[simp] theorem State.set_tim (f : Fld) (v : Nat) : (s.set f v).tim = s.tim := rfl
@[simp] theorem State.set_dep (f : Fld) (v : Nat) : (s.set f v).dep = s.dep := rfl
@[simp] theorem State.set_ing (f : Fld) (v : Nat) : (s.set f v).ing = s.ing := rfl
@[simp] theorem State.set_map (f : Fld) (v : Nat) : (s.set f v).map = s.map := rfl
@[simp] theorem State.set_cmp (f : Fld) (v : Nat) : (s.set f v).cmp = s.cmp := rfl
@[simp] theorem State.set_otg (f : Fld) (v : Nat) : (s.set f v).otg = s.otg := rfl
@[simp] theorem State.set_mem (f : Fld) (v : Nat) : (s.set f v).mem = s.mem := rfl
@[simp] theorem State.set_scn (f : Fld) (v : Nat) : (s.set f v).scn = s.scn := rfl
@[simp] theorem State.set_cor (f : Fld) (v : Nat) : (s.set f v).cor = s.cor := rfl
@[simp] theorem State.set_rai (f : Fld) (v : Nat) : (s.set f v).rai = s.rai := rfl
@[simp] theorem State.set_lfm (f : Fld) (v : Nat) : (s.set f v).lfm = s.lfm := rfl
@[simp] theorem State.set_hkt (f : Fld) (v : Nat) : (s.set f v).hkt = s.hkt := rfl
@[simp] theorem State.set_line (f : Fld) (v : Nat) : (s.set f v).line = s.line := rfl
@[simp] theorem State.set_rdn (f : Fld) (v : Nat) : (s.set f v).rdn = s.rdn := rfl
@[simp] theorem State.set_clu (f : Fld) (v : Nat) : (s.set f v).clu = s.clu := rfl
@[simp] theorem State.set_que (f : Fld) (v : Nat) : (s.set f v).que = s.que := rfl
@[simp] theorem State.set_mbx (f : Fld) (v : Nat) : (s.set f v).mbx = s.mbx := rfl
@[simp] theorem State.set_klc (f : Fld) (v : Nat) : (s.set f v).klc = s.klc := rfl
@[simp] theorem State.set_fwu (f : Fld) (v : Nat) : (s.set f v).fwu = s.fwu := rfl

@[simp] theorem State.setCur_pending (f : Fld) (v : Nat) : (s.setCur f v).pending = s.pending := rfl
@[simp] theorem State.setCur_power (f : Fld) (v : Nat) : (s.setCur f v).power = s.power := rfl
@[simp] theorem State.setCur_role (f : Fld) (v : Nat) : (s.setCur f v).role = s.role := rfl
@[simp] theorem State.setCur_frc (f : Fld) (v : Nat) : (s.setCur f v).frc = s.frc := rfl
@[simp] theorem State.setCur_regs (f : Fld) (v : Nat) : (s.setCur f v).regs = s.regs := rfl
@[simp] theorem State.setCur_fresh (f : Fld) (v : Nat) : (s.setCur f v).fresh = s.fresh := rfl
@[simp] theorem State.setCur_out (f : Fld) (v : Nat) : (s.setCur f v).out = s.out := rfl
@[simp] theorem State.setCur_tim (f : Fld) (v : Nat) : (s.setCur f v).tim = s.tim := rfl
@[simp] theorem State.setCur_dep (f : Fld) (v : Nat) : (s.setCur f v).dep = s.dep := rfl
@[simp] theorem State.setCur_ing (f : Fld) (v : Nat) : (s.setCur f v).ing = s.ing := rfl
@[simp] theorem State.setCur_map (f : Fld) (v : Nat) : (s.setCur f v).map = s.map := rfl
@[simp] theorem State.setCur_cmp (f : Fld) (v : Nat) : (s.setCur f v).cmp = s.cmp := rfl
@[simp] theorem State.setCur_otg (f : Fld) (v : Nat) : (s.setCur f v).otg = s.otg := rfl
@[simp] theorem State.setCur_mem (f : Fld) (v : Nat) : (s.setCur f v).mem = s.mem := rfl
@[simp] theorem State.setCur_scn (f : Fld) (v : Nat) : (s.setCur f v).scn = s.scn := rfl
@[simp] theorem State.setCur_cor (f : Fld) (v : Nat) : (s.setCur f v).cor = s.cor := rfl
@[simp] theorem State.setCur_rai (f : Fld) (v : Nat) : (s.setCur f v).rai = s.rai := rfl
@[simp] theorem State.setCur_lfm (f : Fld) (v : Nat) : (s.setCur f v).lfm = s.lfm := rfl
@[simp] theorem State.setCur_hkt (f : Fld) (v : Nat) : (s.setCur f v).hkt = s.hkt := rfl
@[simp] theorem State.setCur_line (f : Fld) (v : Nat) : (s.setCur f v).line = s.line := rfl
@[simp] theorem State.setCur_rdn (f : Fld) (v : Nat) : (s.setCur f v).rdn = s.rdn := rfl
@[simp] theorem State.setCur_clu (f : Fld) (v : Nat) : (s.setCur f v).clu = s.clu := rfl
@[simp] theorem State.setCur_que (f : Fld) (v : Nat) : (s.setCur f v).que = s.que := rfl
@[simp] theorem State.setCur_mbx (f : Fld) (v : Nat) : (s.setCur f v).mbx = s.mbx := rfl
@[simp] theorem State.setCur_klc (f : Fld) (v : Nat) : (s.setCur f v).klc = s.klc := rfl
@[simp] theorem State.setCur_fwu (f : Fld) (v : Nat) : (s.setCur f v).fwu = s.fwu := rfl

@[simp] theorem State.emit_pending (o : Out) : (s.emit o).pending = s.pending := rfl
@[simp] theorem State.emit_power (o : Out) : (s.emit o).power = s.power := rfl
@[simp] theorem State.emit_role (o : Out) : (s.emit o).role = s.role := rfl
@[simp] theorem State.emit_frc (o : Out) : (s.emit o).frc = s.frc := rfl
@[simp] theorem State.emit_regs (o : Out) : (s.emit o).regs = s.regs := rfl
@[simp] theorem State.emit_force (o : Out) : (s.emit o).force = s.force := rfl
@[simp] theorem State.emit_fresh (o : Out) : (s.emit o).fresh = s.fresh := rfl
@[simp] theorem State.emit_tim (o : Out) : (s.emit o).tim = s.tim := rfl
@[simp] theorem State.emit_dep (o : Out) : (s.emit o).dep = s.dep := rfl
@[simp] theorem State.emit_ing (o : Out) : (s.emit o).ing = s.ing := rfl
@[simp] theorem State.emit_map (o : Out) : (s.emit o).map = s.map := rfl
@[simp] theorem State.emit_cmp (o : Out) : (s.emit o).cmp = s.cmp := rfl
@[simp] theorem State.emit_otg (o : Out) : (s.emit o).otg = s.otg := rfl
@[simp] theorem State.emit_mem (o : Out) : (s.emit o).mem = s.mem := rfl
@[simp] theorem State.emit_scn (o : Out) : (s.emit o).scn = s.scn := rfl
@[simp] theorem State.emit_cor (o : Out) : (s.emit o).cor = s.cor := rfl
@[simp] theorem State.emit_rai (o : Out) : (s.emit o).rai = s.rai := rfl
@[simp] theorem State.emit_lfm (o : Out) : (s.emit o).lfm = s.lfm := rfl
@[simp] theorem State.emit_hkt (o : Out) : (s.emit o).hkt = s.hkt := rfl
@[simp] theorem State.emit_line (o : Out) : (s.emit o).line = s.line := rfl
@[simp] theorem State.emit_rdn (o : Out) : (s.emit o).rdn = s.rdn := rfl
@[simp] theorem State.emit_clu (o : Out) : (s.emit o).clu = s.clu := rfl
@[simp] theorem State.emit_que (o : Out) : (s.emit o).que = s.que := rfl
@[simp] theorem State.emit_mbx (o : Out) : (s.emit o).mbx = s.mbx := rfl
@[simp] theorem State.emit_klc (o : Out) : (s.emit o).klc = s.klc := rfl
@[simp] theorem State.emit_fwu (o : Out) : (s.emit o).fwu = s.fwu := rfl

@[simp] theorem State.draw_pending : (s.draw).pending = s.pending := rfl
@[simp] theorem State.draw_power : (s.draw).power = s.power := rfl
@[simp] theorem State.draw_role : (s.draw).role = s.role := rfl
@[simp] theorem State.draw_frc : (s.draw).frc = s.frc := rfl
@[simp] theorem State.draw_regs : (s.draw).regs = s.regs := rfl
@[simp] theorem State.draw_force : (s.draw).force = s.force := rfl
@[simp] theorem State.draw_out : (s.draw).out = s.out := rfl
@[simp] theorem State.draw_tim : (s.draw).tim = s.tim := rfl
@[simp] theorem State.draw_dep : (s.draw).dep = s.dep := rfl
@[simp] theorem State.draw_ing : (s.draw).ing = s.ing := rfl
@[simp] theorem State.draw_map : (s.draw).map = s.map := rfl
@[simp] theorem State.draw_cmp : (s.draw).cmp = s.cmp := rfl
@[simp] theorem State.draw_otg : (s.draw).otg = s.otg := rfl
@[simp] theorem State.draw_mem : (s.draw).mem = s.mem := rfl
@[simp] theorem State.draw_scn : (s.draw).scn = s.scn := rfl
@[simp] theorem State.draw_cor : (s.draw).cor = s.cor := rfl
@[simp] theorem State.draw_rai : (s.draw).rai = s.rai := rfl
@[simp] theorem State.draw_lfm : (s.draw).lfm = s.lfm := rfl
@[simp] theorem State.draw_hkt : (s.draw).hkt = s.hkt := rfl
@[simp] theorem State.draw_line : (s.draw).line = s.line := rfl
@[simp] theorem State.draw_rdn : (s.draw).rdn = s.rdn := rfl
@[simp] theorem State.draw_clu : (s.draw).clu = s.clu := rfl
@[simp] theorem State.draw_que : (s.draw).que = s.que := rfl
@[simp] theorem State.draw_mbx : (s.draw).mbx = s.mbx := rfl
@[simp] theorem State.draw_klc : (s.draw).klc = s.klc := rfl
@[simp] theorem State.draw_fwu : (s.draw).fwu = s.fwu := rfl

@[simp] theorem State.tick_pending (t : Nat) : (s.tick t).pending = s.pending := rfl
@[simp] theorem State.tick_power (t : Nat) : (s.tick t).power = s.power := rfl
@[simp] theorem State.tick_role (t : Nat) : (s.tick t).role = s.role := rfl
@[simp] theorem State.tick_regs (t : Nat) : (s.tick t).regs = s.regs := rfl
@[simp] theorem State.tick_force (t : Nat) : (s.tick t).force = s.force := rfl
@[simp] theorem State.tick_fresh (t : Nat) : (s.tick t).fresh = s.fresh := rfl
@[simp] theorem State.tick_out (t : Nat) : (s.tick t).out = s.out := rfl
@[simp] theorem State.tick_tim (t : Nat) : (s.tick t).tim = s.tim := rfl
@[simp] theorem State.tick_dep (t : Nat) : (s.tick t).dep = s.dep := rfl
@[simp] theorem State.tick_ing (t : Nat) : (s.tick t).ing = s.ing := rfl
@[simp] theorem State.tick_map (t : Nat) : (s.tick t).map = s.map := rfl
@[simp] theorem State.tick_cmp (t : Nat) : (s.tick t).cmp = s.cmp := rfl
@[simp] theorem State.tick_otg (t : Nat) : (s.tick t).otg = s.otg := rfl
@[simp] theorem State.tick_mem (t : Nat) : (s.tick t).mem = s.mem := rfl
@[simp] theorem State.tick_scn (t : Nat) : (s.tick t).scn = s.scn := rfl
@[simp] theorem State.tick_cor (t : Nat) : (s.tick t).cor = s.cor := rfl
@[simp] theorem State.tick_rai (t : Nat) : (s.tick t).rai = s.rai := rfl
@[simp] theorem State.tick_lfm (t : Nat) : (s.tick t).lfm = s.lfm := rfl
@[simp] theorem State.tick_hkt (t : Nat) : (s.tick t).hkt = s.hkt := rfl
@[simp] theorem State.tick_line (t : Nat) : (s.tick t).line = s.line := rfl
@[simp] theorem State.tick_rdn (t : Nat) : (s.tick t).rdn = s.rdn := rfl
@[simp] theorem State.tick_clu (t : Nat) : (s.tick t).clu = s.clu := rfl
@[simp] theorem State.tick_que (t : Nat) : (s.tick t).que = s.que := rfl
@[simp] theorem State.tick_mbx (t : Nat) : (s.tick t).mbx = s.mbx := rfl
@[simp] theorem State.tick_klc (t : Nat) : (s.tick t).klc = s.klc := rfl
@[simp] theorem State.tick_fwu (t : Nat) : (s.tick t).fwu = s.fwu := rfl

@[simp] theorem State.emit_out (o : Out) : (s.emit o).out = s.out ++ [o] := rfl
@[simp] theorem State.draw_fresh : s.draw.fresh = s.fresh + 1 := rfl
@[simp] theorem State.tick_frc (t : Nat) : (s.tick t).frc = max s.frc t := rfl
theorem State.set_regs (f : Fld) (v : Nat) : (s.set f v).regs = putD s.regs f.key (v % 2 ^ f.width) f.rst := rfl
theorem State.setCur_force (f : Fld) (v : Nat) : (s.setCur f v).force = putD s.force f.key (v % 2 ^ f.width) f.rst := rfl

end Sys2Proof.Machine
end

