-- ==== Sys2Proof/Laws/Ops.lean ====
section
/-!
SUPPORT. What the shared operations of Machine/Ops.lean do to a field, and what they leave alone.
-/
namespace Sys2Proof.Machine

variable {s : State}

/-! ### Reading a field after an update -/

@[simp] theorem State.get_emit {o : Out} {g : Fld} : (s.emit o).get g = s.get g := rfl
@[simp] theorem State.get_draw {g : Fld} : s.draw.get g = s.get g := rfl
@[simp] theorem State.get_tick {t : Nat} {g : Fld} : (s.tick t).get g = s.get g := rfl
@[simp] theorem State.get_setCur {f g : Fld} {v : Nat} : (s.setCur f v).get g = s.get g := rfl
@[simp] theorem State.cur_set {f g : Fld} {v : Nat} : (s.set f v).cur g = s.cur g := rfl
@[simp] theorem State.cur_emit {o : Out} {g : Fld} : (s.emit o).cur g = s.cur g := rfl
@[simp] theorem State.cur_draw {g : Fld} : s.draw.cur g = s.cur g := rfl
@[simp] theorem State.cur_tick {t : Nat} {g : Fld} : (s.tick t).cur g = s.cur g := rfl

@[simp] theorem State.live_set {f : Fld} {v b : Nat} : (s.set f v).live b = s.live b := rfl
@[simp] theorem State.live_emit {o : Out} {b : Nat} : (s.emit o).live b = s.live b := rfl
@[simp] theorem State.live_draw {b : Nat} : s.draw.live b = s.live b := rfl
@[simp] theorem State.live_tick {t b : Nat} : (s.tick t).live b = s.live b := rfl

/-! ### The canonical form of the register file -/

@[simp] theorem State.regsOk_emit {o : Out} : (s.emit o).regsOk ↔ s.regsOk := Iff.rfl
@[simp] theorem State.regsOk_draw : s.draw.regsOk ↔ s.regsOk := Iff.rfl
@[simp] theorem State.regsOk_tick {t : Nat} : (s.tick t).regsOk ↔ s.regsOk := Iff.rfl
@[simp] theorem State.regsOk_setCur {f : Fld} {v : Nat} : (s.setCur f v).regsOk ↔ s.regsOk := Iff.rfl

theorem State.regsOk_set {f : Fld} {v : Nat} (h : s.regsOk) : (s.set f v).regsOk := putD_rise h

/-! ### Events -/

theorem State.regs_signalSide {b g : Nat} : (s.signalSide b g).regs = s.regs := rfl

theorem State.regs_sides {b : Nat} {q : Nat → Bool} (l : List Nat) :
    ∀ u : State, (l.foldl (fun u g => if q g then u.signalSide b g else u) u).regs = u.regs := by
  induction l with
  | nil => intro u; rfl
  | cons g l ih =>
    intro u
    rw [List.foldl_cons, ih]
    split <;> rfl

/-- Setting pending events changes EVT_PEND of the page and no other register. -/
theorem State.regs_pendBits {b m : Nat} : (s.pendBits b m).regs =
    (s.set (R.PG.EVT_PEND b) (s.get (R.PG.EVT_PEND b) ||| m)).regs := State.regs_sides _ _

theorem State.pendBits_get {b m : Nat} {g : Fld} : (s.pendBits b m).get g =
    (s.set (R.PG.EVT_PEND b) (s.get (R.PG.EVT_PEND b) ||| m)).get g := by
  simp only [State.get, State.regs_pendBits]

theorem State.regsOk_pendBits {b m : Nat} (h : s.regsOk) : (s.pendBits b m).regsOk := by
  unfold State.regsOk
  rw [State.regs_pendBits]; exact State.regsOk_set h

theorem State.regsOk_ev {b k : Nat} (h : s.regsOk) : (s.ev b k).regsOk := by
  unfold State.ev; split
  · exact State.regsOk_pendBits h
  · exact h

theorem State.get_ev_ne {b k : Nat} {g : Fld} (h : s.regsOk) (hk : g.key ≠ (R.PG.EVT_PEND b).key) : (s.ev b k).get g = s.get g := by
  unfold State.ev; split
  · rw [State.pendBits_get, State.get_set_ne h hk]
  · rfl

theorem bitAt_or {a m k : Nat} : bitAt (a ||| m) k = (bitAt a k || bitAt m k) := by
  simp only [bitAt, ← Nat.shiftRight_eq_div_pow]
  have h (x : Nat) : (x >>> k % 2 == 1) = x.testBit k := by
    simp [Nat.testBit, Nat.one_and_eq_mod_two, bne]
    rcases Nat.mod_two_eq_zero_or_one (x >>> k) with h | h <;> simp [h]
  rw [h, h, h, Nat.testBit_or]

theorem bitAt_mod {a k n : Nat} (h : k < n) : bitAt (a % 2 ^ n) k = bitAt a k := by
  have h' (x : Nat) : bitAt x k = x.testBit k := by
    simp [bitAt, Nat.testBit, Nat.one_and_eq_mod_two, Nat.shiftRight_eq_div_pow, bne]
    rcases Nat.mod_two_eq_zero_or_one (x / 2 ^ k) with h | h <;> simp [h]
  rw [h', h', Nat.testBit_mod_two_pow]; simp [h]

theorem bitAt_two_pow {k j : Nat} : bitAt (2 ^ k) j = decide (k = j) := by
  have h' (x : Nat) : bitAt x j = x.testBit j := by
    simp [bitAt, Nat.testBit, Nat.one_and_eq_mod_two, Nat.shiftRight_eq_div_pow, bne]
    rcases Nat.mod_two_eq_zero_or_one (x / 2 ^ j) with h | h <;> simp [h]
  rw [h', Nat.testBit_two_pow]

theorem Fld.key_pend {b c : Nat} : (R.PG.EVT_PEND b).key = (R.PG.EVT_PEND c).key ↔ b = c := by
  simp only [Fld.key, R.PG.EVT_PEND]; omega

theorem State.raised_ev_self {b k : Nat} (h : s.regsOk) (hl : s.live b = true) (hk : k < 32) : (s.ev b k).raised b k = true := by
  unfold State.ev State.raised
  rw [if_pos hl, State.pendBits_get, State.get_set_self h]
  show bitAt ((_ ||| _) % 2 ^ 32) k = true
  rw [bitAt_mod hk, bitAt_or, bitAt_two_pow]; simp

theorem State.raised_ev {b c k j : Nat} (h : s.regsOk) (hk : k < 32) (hr : s.raised b k = true) : (s.ev c j).raised b k = true := by
  unfold State.ev State.raised at *
  split
  · rw [State.pendBits_get]
    by_cases hb : b = c
    · subst hb; rw [State.get_set_self h]
      show bitAt ((_ ||| _) % 2 ^ 32) k = true
      rw [bitAt_mod hk, bitAt_or, hr]; rfl
    · rw [State.get_set_ne h (by rw [Ne, Fld.key_pend]; exact hb)]; exact hr
  · exact hr

theorem State.raised_set {b k v : Nat} {f : Fld} (h : s.regsOk) (hf : (R.PG.EVT_PEND b).key ≠ f.key) :
    (s.set f v).raised b k = s.raised b k := by
  unfold State.raised; rw [State.get_set_ne h hf]

end Sys2Proof.Machine
end

