-- ==== Sys2Proof/Tests/Slice0.lean ====
section
/-!
SUPPORT. Tests: ill-formed commands are refused by the well-formedness check, worked values of the spec come out, and the
hypotheses of every statement are met by a named state.
-/
namespace Sys2Proof.Machine

set_option Elab.async false
set_option linter.unusedVariables false

/-- A witness state: the reset state in a role, with some fields set and the MC image started. -/
def wit (r : Role) (l : List (Fld × Nat)) : State := l.foldl (fun s e => s.set e.1 e.2) { State.reset with role := r, fwu := { mcUp := true } }

theorem canon_of {s : State} (h : keysRise s.regs ∧ keysRise s.force ∧ Memory.wf zeroB s.mem.dram) : s.Canon := h

theorem up_of {s : State} (h : s.power = .running ∧ keysRise s.regs ∧ keysRise s.force ∧ Memory.wf zeroB s.mem.dram) :
    s.up := h

theorem gap_of {s : State} {g n : Nat} (h : s.tim.residual = 0)
    (k : ((s.dom s.wallDom).timeAt (16 * s.frc) - (s.dom g).timeAt (16 * s.frc)).natAbs ≤ n) :
    (s.wallGap g).natAbs ≤ n := by
  simpa [State.wallGap, State.wall, State.wallAt, State.residualAt, h] using k

theorem far_of {s : State} {g n : Nat} (h : s.tim.residual = 0)
    (k : n < ((s.dom s.wallDom).timeAt (16 * s.frc) - (s.dom g).timeAt (16 * s.frc)).natAbs) :
    n < (s.wallGap g).natAbs := by
  simpa [State.wallGap, State.wall, State.wallAt, State.residualAt, h] using k

theorem due_of {s : State} {c : Sched} {n : Nat} (h : s.tim.residual = 0)
    (k : s.get R.DEP.TICKOUT_CFG.SRC = 0 ∧ s.dep.loaded = true ∧ s.tim.sched = some c ∧ s.pending? = none ∧ s.dep.next ≤ n ∧ s.tickoutOfs ≤ 0)
    (d : let w := (s.dom s.wallDom).timeAt (16 * s.frc); let v := w - s.tickoutOfs; let m := (c.nearest v).1 + c.n0
      ([m - 1, m, m + 1].filter (fun m => 0 ≤ m && (c.at m.toNat - w) * 3 / 131072 == (v - w) * 3 / 131072)).head?.map
        Int.toNat = some n) : s.tickoutDue = true := by
  have e : s.wall = (s.dom s.wallDom).timeAt (16 * s.frc) := by simp [State.wall, State.wallAt, State.residualAt, h]
  have f : s.departsAt c (s.wall - s.tickoutOfs) = some n := by simpa only [State.departsAt, State.cycleOf, e] using d
  obtain ⟨h0, l, hc, hp, hn, ho⟩ := k
  simp [State.tickoutDue, h0, State.frameEventAt, Int.not_lt.mpr ho, l, hc, hp, f, State.schedFor, hn]

theorem res_of {s : State} {f : Nat} (h : s.tim.residual = 0) : s.residualAt f = 0 := by simp [State.residualAt, h]

/-- A tile whose DRAM lists nothing, with channel 0 serving and no parity mark. -/
def Blank (s : State) : Prop := s.role = .tile ∧ s.copies = [0] ∧ s.mem.par = [] ∧ s.mem.dram = []

theorem readLE_nil (a n : Nat) : readLE zeroB [] a n = 0 := by
  induction n generalizing a with
  | zero => rfl
  | succ n ih => simp [readLE, ih, readB, zeroB]

theorem read_blank {s : State} {port a : Nat} (h : Blank s) (ha : a < tileEnd) :
    Blank (s.dramRead port a).1 ∧ (s.dramRead port a).2 = (0, false) := by
  obtain ⟨h1, h2, h3, h4⟩ := h
  have e : tileEnd = 0xA000000 := rfl
  have hr : s.route a = .copies [0] := by
    simp only [State.route, State.isTile, h1, h2]
    rw [if_neg (by omega), if_neg (by omega), if_neg (by simp; omega), if_pos (by simpa using ha)]
  simp only [State.dramRead, hr]
  have hm : ∀ ch, ((s.draw).moved ch 8).parMask a ([0].getD (Config.choice s.fresh % [0].length) 0) = 0 := by
    intro ch
    simp [State.parMask, State.draw, State.moved, h3, lookupD]
  have hc : s.readCopy [0] = [0].getD (Config.choice s.fresh % [0].length) 0 := rfl
  rw [hc, if_pos (hm _)]
  refine ⟨⟨h1, h2, h3, h4⟩, ?_⟩
  simp [State.word8, State.draw, State.moved, h4, readLE_nil]

theorem reads_blank (port b : Nat) (l : List Nat) (hl : ∀ i ∈ l, (b + i) * 8 < tileEnd) :
    ∀ (s : State) (x : List Byte) (p : Bool), Blank s →
      (l.foldl (fun (acc : State × List Byte × Bool) i =>
        let (s, l, p) := acc
        let (s, d, q) := s.dramRead port ((b + i) * 8)
        (s, l ++ toBytes 8 d, p || q)) (s, x, p)).2 = (x ++ List.replicate (8 * l.length) 0#8, p) := by
  induction l with
  | nil => intro s x p _; simp
  | cons i l ih =>
    intro s x p h
    obtain ⟨k, e⟩ := read_blank (port := port) h (hl i (by simp))
    simp only [List.foldl_cons, e]
    rw [ih (fun j hj => hl j (by simp [hj])) _ _ _ k]
    have : toBytes 8 0 = List.replicate 8 0#8 := by decide
    rw [this, List.append_assoc, List.replicate_append_replicate, List.length_cons, Bool.or_false,
      show 8 * (l.length + 1) = 8 + 8 * l.length by omega]

theorem bytes_blank {s : State} {port a n : Nat} (h : Blank s) (ha : a + n + 7 < tileEnd) :
    (s.dramBytes port a n).2 = (List.replicate n 0#8, false) := by
  have := reads_blank port (a / 8) (List.range ((a + n + 7) / 8 - a / 8))
    (fun i hi => by rw [List.mem_range] at hi; omega) s [] false h
  simp only [State.dramBytes]
  rw [this]
  simp only [List.nil_append, List.length_range, List.drop_replicate, List.take_replicate, Prod.mk.injEq, and_true]
  congr 1
  omega

theorem poison_blank {s : State} {port a n : Nat} (h : s.role = .tile ∧ s.copies = [0] ∧ s.mem.par = [] ∧ s.mem.dram = [])
    (ha : a + n + 7 < tileEnd) : (s.dramBytes port a n).2.2 = false := by rw [bytes_blank h ha]

theorem leNat_zeros (n : Nat) : leNat (List.replicate n 0#8) = 0 := by
  induction n with
  | zero => rfl
  | succ n ih => simp [List.replicate_succ, leNat, ih]

theorem decode_blank {s : State} {port a n : Nat} (h : s.role = .tile ∧ s.copies = [0] ∧ s.mem.par = [] ∧ s.mem.dram = [])
    (ha : a + n + 7 < tileEnd) : (unlossless80 (leNat (s.dramBytes port a n).2.1)).isSome := by
  rw [bytes_blank h ha]
  simp only [leNat_zeros]
  decide +kernel

/-- The CRC-24 of R236 over a header of zeros and 31 flits of zeros, worked out in four parts. -/
theorem crc_zeros : crc24 0 (List.replicate 31 0) = 832743 := by
  have e : List.replicate 31 0 = List.replicate 8 0 ++ List.replicate 8 0 ++ List.replicate 8 0 ++ List.replicate 7 0 := rfl
  have a : crc24 0 (List.replicate 8 0) = 1341474 := by decide +kernel
  have b : (List.replicate 8 0).foldl (fun c f => crcBits 24 0x864CFB f 128 c) 1341474 = 8463156 := by decide +kernel
  have c : (List.replicate 8 0).foldl (fun c f => crcBits 24 0x864CFB f 128 c) 8463156 = 10159950 := by decide +kernel
  have d : (List.replicate 7 0).foldl (fun c f => crcBits 24 0x864CFB f 128 c) 10159950 = 832743 := by decide +kernel
  rw [crc24] at a ⊢
  rw [e, List.foldl_append, List.foldl_append, List.foldl_append, a, b, c, d]

theorem ready_of {x : State} {p v : Nat} (h : (x.rxFlit p 0).1 = 0 ∧ ((List.range 31).map fun i => (x.rxFlit p (i + 1)).1) =
      List.replicate 31 0 ∧ (x.rxFlit p 32).1 = v ∧ ((List.range 32).any fun i => (x.rxFlit p i).2) = false ∧
      (x.rxFlit p 0).2 = false ∧ x.stage p ≠ Stage.lock)
    (k : ((x.rxDrop32 p).group p 0 (List.replicate 31 0) v false false).rxReady p = false) : (x.popGroup p).rxReady p = false := by
  rw [State.popGroup, if_neg h.2.2.2.2.2, h.1, h.2.1, h.2.2.1, h.2.2.2.1, h.2.2.2.2.1]; exact k

theorem crc_val {x : State} {p : Nat} (h : (x.rxFlit p 0).1 = 0 ∧
      ((List.range 31).map fun i => (x.rxFlit p (i + 1)).1) = List.replicate 31 0) :
    crc24 (x.rxFlit p 0).1 ((List.range 31).map fun i => (x.rxFlit p (i + 1)).1) = 832743 := by rw [h.1, h.2, crc_zeros]

/-! ### The hypotheses of the statements are met -/

theorem witness_StepTakesTheFront :
    (∃ (s : State) (c : Instr) (r : List Instr), s.pending = c :: r) ∧
    (∃ s : State, s.pending = [] ∧ s.power = .running) ∧ (∃ s : State, s.pending = [] ∧ s.power ≠ .running) :=
  ⟨⟨{ State.reset with pending := [.calRun 9] }, .calRun 9, [], rfl⟩, ⟨State.reset, rfl, rfl⟩,
    ⟨{ State.reset with power := .held }, rfl, by decide⟩⟩

theorem witness_ResetState : ∃ f : Fld, f.key ≠ R.RCK.RST_CAUSE.POWER_ON.key := ⟨R.TIM.SLEW_MAX.V, by decide⟩

theorem witness_SaggedModuleStops : ∃ (s : State) (c : Instr), s.power = .sagged ∧ (∀ us, c ≠ .powerUp us) ∧
    c ≠ .internal5vLoss ∧ (∀ ns, c ≠ .resetN ns) :=
  ⟨{ State.reset with power := .sagged }, .calRun 9, rfl, nofun, nofun, nofun⟩

theorem witness_OutputsOutsideService : (∃ (s : State), s.power = .held ∨ s.power = .hot) ∧
    (∃ s : State, s.power = .running ∧ s.role = .sender) ∧ (∃ (s : State) (l : Nat), s.power = .running ∧ s.role = .tile ∧ l < 8) :=
  ⟨⟨{ State.reset with power := .hot }, .inr rfl⟩, ⟨wit .sender [], rfl, rfl⟩, ⟨wit .tile [], 7, rfl, rfl, by decide⟩⟩

theorem witness_EveryCommandCompletes : ∃ s : State, s.power ≠ .sagged := ⟨State.reset, by decide⟩

theorem witness_NothingIsTakenBack : ∃ (s t : State) (c : Instr), s.up ∧ exec c s = .next t :=
  ⟨State.reset, _, .calRun 9, up_of (by decide), rfl⟩

theorem witness_CanonicalFormsAreKept : ∃ s t : State, s.Canon ∧ step s = .next t :=
  ⟨State.reset, _, canon_of (by decide), rfl⟩

theorem witness_WaitingCommandsStayWellFormed : ∃ s t : State, s.Canon ∧ s.queueOk ∧ step s = .next t :=
  ⟨{ State.reset with pending := [.calRun 9] }, _, canon_of (by decide), (by intro c hc; cases hc with | head => decide | tail _ h => cases h), rfl⟩

theorem witness_frames : ∃ s t : State, s.Canon ∧ exec (.jrTail 3 9) s = .next t :=
  ⟨State.reset, _, canon_of (by decide), rfl⟩

theorem witness_InactivePages_event : ∃ (s : State) (b : Nat) (g : PageKind) (i : Nat), pageAt b = some (g, i) ∧
    activePage s.role g i = false := ⟨State.reset, 0xD0000, .cor, 0, by decide, by decide⟩

theorem witness_NowhereReadsZero :
    (∃ (s : State) (who : Agent) (a n t : Nat), s.up ∧ pageAt (a % 2 ^ 25) = none ∧ windowAt (a % 2 ^ 25) = none) ∧
    (∃ (s : State) (who : Agent) (a n v t : Nat), s.up ∧ pageAt (a % 2 ^ 25) = none ∧ windowAt (a % 2 ^ 25) = none) :=
  ⟨⟨wit .sender [], (.tenant 0), 0x1FFFFF8, 4, 2, up_of (by decide), by decide +kernel⟩,
    ⟨wit .sender [], (.tenant 0), 0x1FFFFF8, 4, 1, 2, up_of (by decide), by decide +kernel⟩⟩

theorem witness_InactivePages :
    (∃ (s : State) (who : Agent) (a n t : Nat) (k : PageKind) (i : Nat), s.up ∧ pageAt (a % 2 ^ 25) = some (k, i) ∧
      activePage s.role k i = false ∧ pageAccess (a % 2 ^ 25) n) ∧
    (∃ (s : State) (who : Agent) (a n v t : Nat) (k : PageKind) (i : Nat), s.up ∧ pageAt (a % 2 ^ 25) = some (k, i) ∧
      activePage s.role k i = false ∧ pageAccess (a % 2 ^ 25) n) :=
  ⟨⟨wit .sender [], .service, 0xD0100, 4, 9, .cor, 0, up_of (by decide), by decide +kernel⟩,
    ⟨wit .sender [], .service, 0xD0104, 4, 7, 9, .cor, 0, up_of (by decide), by decide +kernel⟩⟩

theorem witness_TrimsReturnToZero :
    (∃ (s : State), s.up) ∧
    (∃ (s : State), s.up) ∧
    (∃ (s : State) (ns : Nat), s.up ∧ 10000 ≤ ns) ∧
    (∃ (s : State) (t : Nat), s.up ∧ s.live B.cal) :=
  ⟨⟨wit .sender [(R.CAL.TRIM_FIELD.CODE 0, 5), (R.CAL.TRIM_FIELD.CODE 1, 6)], up_of (by decide)⟩,
    ⟨wit .sender [(R.CAL.TRIM_FIELD.CODE 0, 5), (R.CAL.TRIM_FIELD.CODE 1, 6)], up_of (by decide)⟩,
    ⟨wit .sender [(R.CAL.TRIM_FIELD.CODE 0, 5), (R.CAL.TRIM_FIELD.CODE 1, 6)], 10000, up_of (by decide),
      by decide +kernel⟩,
    ⟨wit .sender [(R.CAL.TRIM_FIELD.CODE 0, 5), (R.CAL.TRIM_FIELD.CODE 1, 6)], 9, up_of (by decide),
      by decide +kernel⟩⟩

theorem witness_FailedRetrainingDegrades :
    (∃ (s : State) (c t : Nat), s.up ∧ c < 4 ∧ s.live (B.mem c) ∧ s.chFrozen c = false ∧ s.mem.retraining.contains c ∧
      s.chState c = Ch.ready) ∧
    (∃ (s : State) (c t : Nat), s.up ∧ c < 4 ∧ s.chState c = Ch.degraded ∧ s.chFrozen c = false ∧ (s.tick
      t).retrainDue c ∧ s.mem.retraining.contains c = false) :=
  ⟨⟨(fun s : State => { s with mem := { s.mem with retraining := [1] } }) (wit .sender [(R.MEM.CH_STAT.STATE 1, 3)]),
      1, 9, up_of (by decide), by decide +kernel⟩,
    ⟨(fun s : State => { s with mem := { s.mem with wanted := [1] } }) (wit .sender [(R.MEM.CH_STAT.STATE 1, 4)]), 1,
      9, up_of (by decide), by decide +kernel⟩⟩

theorem witness_RefusedStartUpLoad :
    (∃ (s : State) (t : Nat) (c : Sched) (r : Nat × Nat), s.up ∧ s.frozen B.dep = false ∧ s.dep.loaded = false ∧
      s.dep.loadWait = true ∧ (s.tick t).startSched = some c ∧ s.modeFail s.modeNext s.envStaged = some r) ∧
    (∃ (s : State) (t : Nat), s.up ∧ s.dep.loaded = false ∧ s.dep.loadWait = false) :=
  ⟨⟨(fun s : State =>
      { s with dep := { s.dep with loadWait := true }, tim := { s.tim with schedSeen := [some ⟨0,10^9,9,[0,0,0]⟩, none] } })
      (wit .sender [(R.TIM.TIM_STAT.TIME_VALID, 1), (R.TIM.TIM_CTRL.FRAME_SRC, 2), (R.DEP.MODE_NEXT.TIMING, 1),
      (R.DEP.MODE_NEXT.VIEWS, 3)]), 9, ⟨0,10^9,9,[0,0,0]⟩, ((((fun s : State =>
      { s with dep := { s.dep with loadWait := true }, tim := { s.tim with schedSeen := [some ⟨0,10^9,9,[0,0,0]⟩, none] } })
      (wit .sender [(R.TIM.TIM_STAT.TIME_VALID, 1), (R.TIM.TIM_CTRL.FRAME_SRC, 2), (R.DEP.MODE_NEXT.TIMING, 1),
      (R.DEP.MODE_NEXT.VIEWS, 3)])).modeFail ((fun s : State =>
      { s with dep := { s.dep with loadWait := true }, tim := { s.tim with schedSeen := [some ⟨0,10^9,9,[0,0,0]⟩, none] } })
      (wit .sender [(R.TIM.TIM_STAT.TIME_VALID, 1), (R.TIM.TIM_CTRL.FRAME_SRC, 2), (R.DEP.MODE_NEXT.TIMING, 1),
      (R.DEP.MODE_NEXT.VIEWS, 3)])).modeNext ((fun s : State =>
      { s with dep := { s.dep with loadWait := true }, tim := { s.tim with schedSeen := [some ⟨0,10^9,9,[0,0,0]⟩, none] } })
      (wit .sender [(R.TIM.TIM_STAT.TIME_VALID, 1), (R.TIM.TIM_CTRL.FRAME_SRC, 2), (R.DEP.MODE_NEXT.TIMING, 1),
      (R.DEP.MODE_NEXT.VIEWS, 3)])).envStaged).getD (0, 0)), up_of (by decide), by decide +kernel⟩,
    ⟨wit .sender [], 9, up_of (by decide), by decide +kernel⟩⟩

theorem witness_MailboxSendAndPop :
    (∃ (s : State) (c k t : Nat), s.up ∧ c < 24 ∧ k < 2 ∧ s.works (B.mbx c) ∧ ((s.chan c).sent k).length < 4 ∧
      s.line.svcIn = none) ∧
    (∃ (s : State) (c k t : Nat), s.up ∧ c < 24 ∧ k < 2 ∧ s.works (B.mbx c) ∧ 4 ≤ ((s.chan c).sent k).length ∧
      s.line.svcIn = none) ∧
    (∃ (s : State) (c k t : Nat) (m : List Nat × Bool) (r : List (List Nat × Bool)), s.up ∧ c < 24 ∧ k < 2 ∧ s.works
      (B.mbx c) ∧ (s.chan c).sent (1 - k) = m :: r ∧ (s.chan c).due = [] ∧ (k = 1 → s.role = .tile ∨ 16 ≤ c)) ∧
    (∃ (s : State) (c k t : Nat) (m : List Nat × Bool), s.up ∧ c < 24 ∧ k < 2 ∧ s.works (B.mbx c) ∧ (s.chan c).sent (1
      - k) = [m] ∧ (s.chan c).due = []) :=
  ⟨⟨wit .sender [(R.PG.EN (B.mbx 5), 1)], 5, 1, 9, up_of (by decide), by decide +kernel⟩,
    ⟨(fun s : State => { s with mbx := [(5, ⟨[([], false), ([], false), ([], false), ([], false)], [], []⟩)] }) (wit
      .sender [(R.PG.EN (B.mbx 5), 1)]), 5, 0, 9, up_of (by decide), by decide +kernel⟩,
    ⟨(fun s : State => { s with mbx := [(17, ⟨[([], false), ([7], false)], [], []⟩)] }) (wit .sender [(R.PG.EN (B.mbx
      17), 1)]), 17, 1, 9, ([], false), [([7], false)], up_of (by decide), by decide +kernel⟩,
    ⟨(fun s : State => { s with mbx := [(5, ⟨[([], false)], [], []⟩)] }) (wit .sender [(R.PG.EN (B.mbx 5), 1)]), 5, 1,
      9, ([], false), up_of (by decide), by decide +kernel⟩⟩

theorem witness_ResetCommands :
    (∃ (s : State) (us : Nat), s.Canon) ∧
    (∃ (s : State), s.power ≠ .off) ∧
    (∃ (s : State) (ns : Nat), s.up ∧ 10000 ≤ ns) ∧
    (∃ (s : State) (ns : Nat), s.up ∧ ns < 1000) ∧
    (∃ (s : State) (strap : Nat) (b : Bool) (f : Fuses) (ppm : Int), s.Canon ∧ s.power = .held) ∧
    (∃ (s : State), s.up) ∧
    (∃ (s : State), s.up) :=
  ⟨⟨(fun s : State => { s with power := .off }) (wit .sender []), 12000, canon_of (by decide)⟩,
    ⟨wit .sender [], by decide +kernel⟩,
    ⟨wit .sender [], 10000, up_of (by decide), by decide +kernel⟩,
    ⟨wit .sender [], 999, up_of (by decide), by decide +kernel⟩,
    ⟨(fun s : State => { s with power := .held }) (wit .sender []), 1, false, ⟨[],0,0,true,0,0,0,0,0,0,[],0,0,[]⟩, 5,
      canon_of (by decide), by decide +kernel⟩,
    ⟨wit .sender [], up_of (by decide)⟩,
    ⟨wit .sender [], up_of (by decide)⟩⟩

theorem witness_ThermalAndClock :
    (∃ (s : State) (t : Nat), s.up ∧ s.hkt.shutdown = true ∧ s.hkt.shutAt + 30000000 ≤ s.frc) ∧
    (∃ (s : State), s.power = .hot) ∧
    (∃ (s : State) (ppm : Int) (t : Nat), s.up ∧ s.tim.onInt = false) ∧
    (∃ (s : State) (ppm : Int) (t : Nat), s.up ∧ ppm.natAbs ≤ 1000 ∧ s.on R.RCK.CLK_CTRL.RET_AUTO ∧ s.tim.onInt =
      true) ∧
    (∃ (s : State) (ppm : Int) (t : Nat), s.up ∧ ppm.natAbs ≤ 1000 ∧ s.tim.onInt = true) :=
  ⟨⟨(fun s : State => { s with frc := 30000000, hkt := { s.hkt with shutdown := true } }) (wit .sender []), 5, up_of
      (by decide), by decide +kernel⟩,
    ⟨(fun s : State => { s with power := .hot }) (wit .sender []), by decide +kernel⟩,
    ⟨wit .sender [(R.TIM.TIM_STAT.TIME_VALID, 1)], 3000, 9, up_of (by decide), by decide +kernel⟩,
    ⟨(fun s : State => { s with tim := { s.tim with onInt := true } }) (wit .sender [(R.RCK.CLK_CTRL.RET_AUTO, 1)]),
      (-1000), 9, up_of (by decide), by decide +kernel⟩,
    ⟨(fun s : State => { s with tim := { s.tim with onInt := true } }) (wit .sender []), 1000, 9, up_of (by decide),
      by decide +kernel⟩⟩

theorem witness_RegisterAccess :
    (∃ (s : State) (v t : Nat), s.up) ∧
    (∃ (s : State) (i v t : Nat), s.up ∧ i < 9 ∧ s.mirrors = false) ∧
    (∃ (s : State) (who : Agent) (a n v t : Nat), s.up ∧ (pageAt a).isSome ∧ a < 2 ^ 25 ∧ pageAccess a n = false ∧
      s.live (a / 0x1000 * 0x1000) ∧ s.get (R.PG.ERR_VALID (a / 0x1000 * 0x1000)) = 0) ∧
    (∃ (s : State) (who : Agent) (t : Nat), s.up ∧ who.secure ∧ s.get R.TIM.TICK_CNT.OUT_TICKS < 2 ^ 16 ∧ s.get
      R.TIM.TICK_CNT.MISSES < 2 ^ 16) ∧
    (∃ (s : State) (who : Agent) (t : Nat), s.up ∧ s.live B.tim) ∧
    (∃ (s : State) (who : Agent) (t : Nat), s.up ∧ s.live B.tim ∧ s.get R.TIM.SLEW_MAX.V < 2 ^ 16) ∧
    (∃ (s : State) (b v t : Nat), s.up ∧ s.live b ∧ b % 0x1000 = 0 ∧ s.get (R.PG.EVT_PEND b) < 2 ^ 32) ∧
    (∃ (s : State) (b v t : Nat), s.up ∧ s.live b ∧ b % 0x1000 = 0) ∧
    (∃ (s : State) (b v t : Nat), s.up ∧ s.live b ∧ b % 0x1000 = 0 ∧ s.mirrors = false) ∧
    (∃ (s : State) (b t : Nat), s.up ∧ s.live b ∧ b % 0x1000 = 0) :=
  ⟨⟨wit .sender [], 65537, 4, up_of (by decide)⟩,
    ⟨wit .sender [], 3, 65539, 4, up_of (by decide), by decide +kernel⟩,
    ⟨wit .sender [], (.tenant 0), 0x8122, 4, 1, 2, up_of (by decide), by decide +kernel⟩,
    ⟨wit .sender [(R.TIM.TICK_CNT.OUT_TICKS, 7), (R.TIM.TICK_CNT.MISSES, 65535)], .service, 3, up_of (by decide),
      by decide +kernel⟩,
    ⟨wit .sender [], (.tenant 3), 3, up_of (by decide), by decide +kernel⟩,
    ⟨wit .sender [], (.tenant 3), 3, up_of (by decide), by decide +kernel⟩,
    ⟨wit .sender [(R.PG.EVT_PEND 0x8000, 5)], 0x8000, 4, 1, up_of (by decide), by decide +kernel⟩,
    ⟨wit .sender [(R.PG.EVT_PEND 0x8000, 5)], 0x8000, 8, 1, up_of (by decide), by decide +kernel⟩,
    ⟨wit .sender [(R.PG.EVT_PEND 0x8000, 5)], 0x8000, 1, 1, up_of (by decide), by decide +kernel⟩,
    ⟨wit .sender [(R.PG.ERR_CODE 0x8000, 3), (R.PG.ERR_VALID 0x8000, 1)], 0x8000, 1, up_of (by decide),
      by decide +kernel⟩⟩

theorem witness_PageControl :
    (∃ (s : State) (b t : Nat), s.up ∧ s.live b ∧ b % 0x1000 = 0 ∧ s.mayEnable b) ∧
    (∃ (s : State) (b t : Nat), s.up ∧ s.live b ∧ b % 0x1000 = 0 ∧ s.get (R.PG.EN b) ≤ 1) ∧
    (∃ (s : State) (t : Nat), s.up ∧ s.live B.tim) ∧
    (∃ (s : State) (b t : Nat), s.up ∧ s.live b ∧ b % 0x1000 = 0 ∧ b ≠ B.map ∧ b ≠ B.spire ∧ b ≠ B.scn) ∧
    (∃ (s : State) (b t : Nat), s.up ∧ s.live b ∧ b % 0x1000 = 0 ∧ s.get (R.PG.COMMIT_PENDING b) ≤ 1) ∧
    (∃ (s : State) (b t : Nat), s.up ∧ s.live b ∧ b % 0x1000 = 0 ∧ b ≠ B.lfm) ∧
    (∃ (s : State) (b t : Nat), s.up ∧ s.live b ∧ b % 0x1000 = 0 ∧ b ≠ B.lfm ∧ s.get (R.PG.HW_FREEZE b) = 0) ∧
    (∃ (s : State) (b t : Nat), s.up ∧ s.live b ∧ b % 0x1000 = 0 ∧ s.get (R.PG.ERR_VALID b) = 0) :=
  ⟨⟨wit .sender [], 0x60000, 1, up_of (by decide), by decide +kernel⟩,
    ⟨wit .sender [(R.PG.EN 0x60000, 1)], 0x60000, 1, up_of (by decide), by decide +kernel⟩,
    ⟨wit .sender [(R.TIM.SLEW_MAX.V, 5)], 1, up_of (by decide), by decide +kernel⟩,
    ⟨wit .sender [], 0x80000, 1, up_of (by decide), by decide +kernel⟩,
    ⟨wit .sender [(R.PG.COMMIT_PENDING 0x80000, 1)], 0x80000, 1, up_of (by decide), by decide +kernel⟩,
    ⟨wit .sender [], 0x80000, 1, up_of (by decide), by decide +kernel⟩,
    ⟨wit .sender [(R.PG.FREEZE 0x80000, 1), (R.PG.FROZEN 0x80000, 1)], 0x80000, 1, up_of (by decide),
      by decide +kernel⟩,
    ⟨wit .sender [], 0x80000, 1, up_of (by decide), by decide +kernel⟩⟩

theorem witness_ModesAndDepartures :
    (∃ (s : State) (v t : Nat), s.up ∧ s.role = .sender ∧ s.get R.DEP.MODE_NEXT.SCAN < 2 ^ R.DEP.MODE_NEXT.SCAN.width) ∧
    (∃ (s : State) (v t : Nat), s.up ∧ s.role = .sender) ∧
    (∃ (s : State) (n t : Nat), s.up ∧ s.role = .tile ∧ s.frozen B.dep = false ∧ s.dep.loaded = true ∧ s.dep.next ≤ n) ∧
    (∃ (s : State) (n t : Nat), s.up ∧ s.role = .sender ∧ s.frozen B.dep = false ∧ s.dep.loaded = true ∧ s.dep.next ≤
      n ∧ s.timeValid = false ∧ s.tim.pend = none) ∧
    (∃ (s : State) (n t : Nat), s.up ∧ s.role = .sender ∧ s.frozen B.dep = false ∧ s.dep.loaded = true ∧ s.dep.next ≤
      n ∧ s.timeValid = true) ∧
    (∃ (s : State) (n k t : Nat), s.up ∧ s.role = .sender ∧ s.frozen B.dep = false ∧ s.dep.loaded = true ∧ s.dep.last
      = some n ∧ 0 < k ∧ k < 4 ∧ k < s.views ∧ s.timeValid = true) :=
  ⟨⟨wit .sender [], 0x01010210, 1, up_of (by decide), by decide +kernel⟩,
    ⟨wit .sender [], 0x01010210, 1, up_of (by decide), by decide +kernel⟩,
    ⟨(fun s : State => { s with dep := { s.dep with loaded := true, next := 4 } }) (wit .tile []), 6, 100, up_of
      (by decide), by decide +kernel⟩,
    ⟨(fun s : State => { s with dep := { s.dep with loaded := true, next := 4 } }) (wit .sender []), 6, 100, up_of
      (by decide), by decide +kernel⟩,
    ⟨(fun s : State => { s with dep := { s.dep with loaded := true, next := 4 } }) (wit .sender
      [(R.TIM.TIM_STAT.TIME_VALID, 1)]), 6, 100, up_of (by decide), by decide +kernel⟩,
    ⟨(fun s : State => { s with dep := { s.dep with loaded := true, last := some 3 } }) (wit .sender
      [(R.DEP.MODE_CUR.VIEWS, 1), (R.TIM.TIM_STAT.TIME_VALID, 1)]), 3, 1, 100, up_of (by decide), by decide +kernel⟩⟩

theorem witness_BoardLaunches :
    (∃ (s : State) (idx : Nat) (late : Bool) (t : Nat), s.up ∧ (s.entry idx).state = .armed ∧ (s.entry idx).action = 1
      ∧ s.timeValid = true ∧ s.frozen B.dep = false) ∧
    (∃ (s : State) (idx t : Nat), s.up ∧ (s.entry idx).state = .armed ∧ (s.entry idx).action = 1 ∧ s.timeValid = true
      ∧ s.frozen B.dep = false ∧ s.role = .sender ∧ s.dep.board = [(idx, s.entry idx)] ∧ s.duePages (groupBits
      (s.entry idx).arg) = [B.col]) ∧
    (∃ (s : State) (idx : Nat) (late : Bool) (t : Nat), s.up ∧ (s.entry idx).state = .armed ∧ (s.entry idx).action = 2
      ∧ s.timeValid = true ∧ s.frozen B.dep = false) ∧
    (∃ (s : State) (idx : Nat) (late : Bool) (t : Nat) (x : State), s.up ∧ (s.entry idx).state = .armed ∧ (s.entry
      idx).action = 2 ∧ s.timeValid = true ∧ s.frozen B.dep = false ∧ x = (s.tick t).fire idx late ∧ s.dep.dark = none
      ∧ s.dep.scanDue = false ∧ (x.duePages (x.instantMask ((x.launchTime (s.entry idx)).getD x.wall) (if x.dep.last =
      some (x.flipDeparture (s.entry idx)) then 1 else 0))).filter jointPages.contains = [] ∧ x.flipFail x.modeNext []
      false = none) ∧
    (∃ (s : State) (idx : Nat) (late : Bool) (t : Nat), s.up ∧ (s.entry idx).state = .armed ∧ (s.entry idx).action = 2
      ∧ s.timeValid = true ∧ s.frozen B.dep = false ∧ s.dep.dark ≠ none ∧ s.dep.scanDue = false) ∧
    (∃ (s : State) (idx : Nat) (late : Bool) (t : Nat), s.up ∧ (s.entry idx).state = .armed ∧ (s.entry idx).action = 3
      ∧ s.timeValid = true ∧ s.frozen B.dep = false) ∧
    (∃ (s : State) (idx : Nat) (late : Bool) (t : Nat) (x : State) (c : Sched), s.up ∧ (s.entry idx).state = .armed ∧
      (s.entry idx).action = 3 ∧ s.timeValid = true ∧ s.frozen B.dep = false ∧ s.role = .sender ∧ x = (s.tick t).fire
      idx late ∧ s.tim.sched = some c ∧ x.armedAt (c.at (s.entry idx).time) 2 = [] ∧ x.modeFail x.modeCur (x.envAfter
      (x.duePages (x.instantMask (c.at (s.entry idx).time) 1)) (s.get R.TIM.RATE_NEXT.RATE) s.vphaseNext) = none ∧
      viewSpacingOk (s.get R.TIM.RATE_NEXT.RATE) s.vphaseNext (s.modeCur.views + 1)) ∧
    (∃ (s : State) (idx : Nat) (late : Bool) (t : Nat), s.up ∧ (s.entry idx).state = .armed ∧ (s.entry idx).action = 4
      ∧ s.timeValid = true ∧ s.frozen B.dep = false) ∧
    (∃ (s : State) (idx : Nat) (late : Bool) (t k : Nat), s.up ∧ (s.entry idx).state = .armed ∧ (s.entry idx).action =
      4 ∧ s.timeValid = true ∧ s.frozen B.dep = false ∧ s.get R.FWU.FWU_STAT.SAFE = 0 ∧ bitAt (s.entry idx).arg 0 =
      false ∧ bitAt (s.entry idx).arg 1 ∧ k = 2 + bitsOf (s.entry idx).arg 5 1 ∧ s.img k = Img.checked ∧
      s.pairConsistent s.mcSlot k ∧ s.hkt.shutdown = false) :=
  ⟨⟨(fun s : State => { s with dep := { s.dep with board := [(5, ⟨1000, 1, 1, 0, 0x11, 0, .armed⟩)] } }) (wit .sender
      [(R.TIM.TIM_STAT.TIME_VALID, 1)]), 5, true, 100, up_of (by decide), by decide +kernel⟩,
    ⟨(fun s : State => { s with dep := { s.dep with board := [(5, ⟨1000, 1, 1, 0, 0x2, 0, .armed⟩)] } }) (wit .sender
      [(R.TIM.TIM_STAT.TIME_VALID, 1), (R.PG.COMMIT 0x80000, 1), (R.PG.COMMIT_PENDING 0x80000, 1), (R.PG.CGRP 0x80000,
      1), (R.COL.MTX.COEF 1, 5)]), 5, 100, up_of (by decide), by decide +kernel⟩,
    ⟨(fun s : State => { s with dep := { s.dep with board := [(5, ⟨1000, 2, 1, 0, 0x11, 0, .armed⟩)] } }) (wit .sender
      [(R.TIM.TIM_STAT.TIME_VALID, 1)]), 5, false, 100, up_of (by decide), by decide +kernel⟩,
    ⟨(fun s : State => { s with dep := { s.dep with board := [(5, ⟨1000, 2, 1, 0, 0x11, 0, .armed⟩)] } }) (wit .sender
      [(R.TIM.TIM_STAT.TIME_VALID, 1), (R.DEP.MODE_NEXT.VIEWS, 1)]), 5, false, 100, ((((fun s : State =>
      { s with dep := { s.dep with board := [(5, ⟨1000, 2, 1, 0, 0x11, 0, .armed⟩)] } }) (wit .sender
      [(R.TIM.TIM_STAT.TIME_VALID, 1), (R.DEP.MODE_NEXT.VIEWS, 1)])).tick 100).fire 5 false), up_of (by decide),
      by decide +kernel, by decide +kernel, by decide +kernel, by decide +kernel, rfl, by decide +kernel⟩,
    ⟨(fun s : State =>
      { s with dep := { s.dep with dark := some (1, 2), board := [(5, ⟨1000, 2, 1, 0, 0x11, 0, .armed⟩)] } }) (wit
      .sender [(R.TIM.TIM_STAT.TIME_VALID, 1)]), 5, false, 100, up_of (by decide), by decide +kernel⟩,
    ⟨(fun s : State => { s with dep := { s.dep with board := [(5, ⟨1000, 3, 1, 0, 0x11, 0, .armed⟩)] } }) (wit .sender
      [(R.TIM.TIM_STAT.TIME_VALID, 1)]), 5, false, 100, up_of (by decide), by decide +kernel⟩,
    ⟨(fun s : State =>
      { s with tim := { s.tim with sched := some ⟨0, 10^9, 0, []⟩ }, dep := { s.dep with board := [(5, ⟨1000, 3, 1, 0, 0, 0, .armed⟩)] } })
      (wit .sender [(R.TIM.TIM_STAT.TIME_VALID, 1)]), 5, false, 100, ((((fun s : State =>
      { s with tim := { s.tim with sched := some ⟨0, 10^9, 0, []⟩ }, dep := { s.dep with board := [(5, ⟨1000, 3, 1, 0, 0, 0, .armed⟩)] } })
      (wit .sender [(R.TIM.TIM_STAT.TIME_VALID, 1)])).tick 100).fire 5 false), ⟨0, 10^9, 0, []⟩, up_of (by decide),
      by decide +kernel, by decide +kernel, by decide +kernel, by decide +kernel, by decide +kernel, rfl,
      by decide +kernel⟩,
    ⟨(fun s : State => { s with dep := { s.dep with board := [(5, ⟨1000, 4, 1, 0, 0x11, 0, .armed⟩)] } }) (wit .sender
      [(R.TIM.TIM_STAT.TIME_VALID, 1)]), 5, false, 100, up_of (by decide), by decide +kernel⟩,
    ⟨(fun s : State => { s with dep := { s.dep with board := [(5, ⟨1000, 4, 1, 0, 0x22, 0, .armed⟩)] } }) (wit .sender
      [(R.TIM.TIM_STAT.TIME_VALID, 1), (R.SLT.SLOT_STAT.STATE 3, 3)]), 5, false, 100, 3, up_of (by decide),
      by decide +kernel⟩⟩

theorem witness_BoardSteps :
    (∃ (s : State) (idx : Nat) (late : Bool) (c t : Nat), s.up ∧ (s.entry idx).state = .armed ∧ (s.entry idx).action =
      5 ∧ s.timeValid = true ∧ s.frozen B.dep = false ∧ s.role = .tile ∧ s.frozen B.rai = false ∧ c < 24 ∧ bitAt
      (s.entry idx).arg c ∧ s.cur (R.RCH.CH_CTRL.MODE c) ≠ 1) ∧
    (∃ (s : State) (idx : Nat) (late : Bool) (c t : Nat), s.up ∧ (s.entry idx).state = .armed ∧ (s.entry idx).action =
      5 ∧ s.timeValid = true ∧ s.frozen B.dep = false ∧ s.role = .tile ∧ s.frozen B.rai = false ∧ c < 24 ∧ (List.range
      24).all (fun k => bitAt (s.entry idx).arg k == (k == c)) ∧ s.cur (R.RCH.CH_CTRL.MODE c) = 1) ∧
    (∃ (s : State) (idx : Nat) (late : Bool) (t : Nat), s.up ∧ (s.entry idx).state = .armed ∧ (s.entry idx).action = 6
      ∧ s.timeValid = true ∧ s.frozen B.dep = false ∧ (s.entry idx).arg % 2 ≠ s.wallDom ∧ ((s.tick t).wallGap
      ((s.entry idx).arg % 2)).natAbs ≤ s.switchMax.natAbs) ∧
    (∃ (s : State) (idx : Nat) (late : Bool) (t : Nat), s.up ∧ (s.entry idx).state = .armed ∧ (s.entry idx).action = 7
      ∧ s.timeValid = true ∧ s.frozen B.dep = false) ∧
    (∃ (s : State) (idx : Nat) (late : Bool) (t : Nat), s.up ∧ (s.entry idx).state = .armed ∧ (s.entry idx).action = 8
      ∧ s.timeValid = true ∧ s.frozen B.dep = false) ∧
    (∃ (s : State) (idx t : Nat), s.up ∧ s.frozen B.dep = false ∧ (s.entry idx).state = .armed ∧ s.timeValid = false) :=
  ⟨⟨(fun s : State => { s with dep := { s.dep with board := [(5, ⟨1000, 5, 1, 0, 0x800000, 0, .armed⟩)] } }) (wit
      .tile [(R.TIM.TIM_STAT.TIME_VALID, 1)]), 5, false, 23, 100, up_of (by decide), by decide +kernel⟩,
    ⟨(fun s : State =>
      ({ s with dep := { s.dep with board := [(5, ⟨1000, 5, 1, 0, 8, 0, .armed⟩)] }, force := [((R.RCH.CH_CTRL.MODE 3).key, 1)] }
      : State)) (wit .tile [(R.TIM.TIM_STAT.TIME_VALID, 1), (R.RCH.CH_CTRL.MODE 3, 1)]), 5, false, 3, 100, up_of
      (by decide), by decide +kernel⟩,
    ⟨(fun s : State => { s with dep := { s.dep with board := [(5, ⟨1000, 6, 1, 0, 1, 0, .armed⟩)] } }) (wit .sender
      [(R.TIM.TIM_STAT.TIME_VALID, 1)]), 5, false, 100, up_of (by decide), by decide +kernel, by decide +kernel,
      by decide +kernel, by decide +kernel, by decide +kernel, gap_of (by decide +kernel) (by decide +kernel)⟩,
    ⟨(fun s : State => { s with dep := { s.dep with board := [(5, ⟨1000, 7, 1, 0, 0x1203, 0, .armed⟩)] } }) (wit
      .sender [(R.TIM.TIM_STAT.TIME_VALID, 1)]), 5, false, 100, up_of (by decide), by decide +kernel⟩,
    ⟨(fun s : State => { s with dep := { s.dep with board := [(5, ⟨1000, 8, 1, 0, 77, 0, .armed⟩)] } }) (wit .sender
      [(R.TIM.TIM_STAT.TIME_VALID, 1)]), 5, true, 100, up_of (by decide), by decide +kernel⟩,
    ⟨(fun s : State => { s with dep := { s.dep with board := [(5, ⟨1000, 8, 1, 0, 0x11, 0, .armed⟩)] } }) (wit .sender
      []), 5, 1, up_of (by decide), by decide +kernel⟩⟩

theorem witness_BoardWrites :
    (∃ (s : State) (t : Nat), s.up ∧ (s.tick t).writeResult s.entSel s.stagedEntry = 0 ∧ s.stagedEntry.action ≠ 0 ∧
      s.stagedEntry.lateOk = 0) ∧
    (∃ (s : State) (t : Nat), s.up) ∧
    (∃ (s : State) (t : Nat), s.up ∧ (s.entry s.entSel).state = .armed ∧ (s.tick t).nearer (s.entry s.entSel) s.guardU
      = false) ∧
    (∃ (s : State) (t : Nat) (c : Sched), s.up ∧ s.frozen B.dep = false ∧ s.role = .sender ∧ s.dep.loaded = false ∧
      s.dep.loadWait = true ∧ (s.tick t).startSched = some c ∧ s.modeFail s.modeNext s.envStaged = none ∧
      viewSpacingOk c.rate c.vphase (s.modeNext.views + 1)) :=
  ⟨⟨wit .sender [(R.DEP.ENT_SEL.IDX, 3), (R.DEP.ENT_ACT.ACTION, 8), (R.DEP.ENT_ACT.FORM, 1), (R.DEP.ENT_TIME_LO.TIME,
      0xFFFFFFFF)], 1, up_of (by decide), by decide +kernel⟩,
    ⟨(fun s : State => { s with dep := { s.dep with board := [(5, ⟨1000, 8, 1, 0, 77, 0, .armed⟩)] } }) (wit .sender
      [(R.DEP.ENT_SEL.IDX, 5)]), 1, up_of (by decide)⟩,
    ⟨(fun s : State => { s with dep := { s.dep with board := [(5, ⟨2 ^ 62, 8, 1, 0, 77, 0, .armed⟩)] } }) (wit .sender
      [(R.DEP.ENT_SEL.IDX, 5)]), 1, up_of (by decide), by decide +kernel⟩,
    ⟨(fun s : State =>
      { s with dep := { s.dep with loadWait := true }, tim := { s.tim with schedSeen := [some ⟨0,10^9,9,[0,0,0]⟩, none] } })
      (wit .sender [(R.TIM.TIM_STAT.TIME_VALID, 1), (R.TIM.TIM_CTRL.FRAME_SRC, 2)]), 9, ⟨0,10^9,9,[0,0,0]⟩, up_of
      (by decide), by decide +kernel⟩⟩

theorem witness_Domains :
    (∃ (s : State) (d w : Nat) (e : Int) (t : Nat), s.up ∧ s.role = .sender ∧ s.frozen B.tim = false ∧ d < 2 ∧
      s.accepts d = false ∧ s.domState d ≠ DomS.listen) ∧
    (∃ (s : State) (d w : Nat) (e : Int) (t : Nat), s.up ∧ s.role = .sender ∧ s.frozen B.tim = false ∧ d < 2 ∧ w < 2 ^
      32 ∧ -7 ≤ e ∧ e ≤ 0 ∧ s.domState d = DomS.listen ∧ s.accepts d ∧ s.wallDom ≠ d) ∧
    (∃ (s : State) (d w : Nat) (e : Int) (t : Nat), s.up ∧ s.role = .sender ∧ s.frozen B.tim = false ∧ d < 2 ∧ w < 2 ^
      32 ∧ (s.domState d = DomS.acquire ∨ s.domState d = DomS.locked ∨ s.domState d = DomS.holdover)) ∧
    (∃ (s : State) (d t : Nat), s.up ∧ d < 2 ∧ s.domState d = DomS.disabled) ∧
    (∃ (s : State) (d t : Nat), s.up ∧ d < 2) ∧
    (∃ (s : State) (d t : Nat), s.up ∧ s.frozen B.tim = false ∧ d < 2 ∧ (s.domState d = DomS.acquire ∨ s.domState d =
      DomS.locked)) ∧
    (∃ (s : State) (t : Nat), s.up ∧ s.wallDom < 2 ∧ ((s.tick t).wallGap (1 - s.wallDom)).natAbs ≤ s.switchMax.natAbs) ∧
    (∃ (s : State) (t : Nat), s.up ∧ s.wallDom < 2 ∧ s.switchMax.natAbs < ((s.tick t).wallGap (1 - s.wallDom)).natAbs) ∧
    (∃ (s : State) (d t : Nat), s.up ∧ d < 2 ∧ d ≠ s.wallDom ∧ ((s.tick t).wallGap d).natAbs ≤ s.switchMax.natAbs) ∧
    (∃ (s : State) (t : Nat), s.up ∧ s.frozen B.tim = false ∧ s.on R.TIM.TIM_STAT.SLEWING ∧ (s.tick t).residualAt (max
      s.frc t) = 0) :=
  ⟨⟨wit .sender [(R.TIM.DOM_STAT.STATE 1, 0)], 1, 5, 0, 9, up_of (by decide), by decide +kernel⟩,
    ⟨wit .sender [(R.TIM.DOM_STAT.STATE 1, 1)], 1, 4294967295, (-3), 9, up_of (by decide), by decide +kernel⟩,
    ⟨wit .sender [(R.TIM.DOM_STAT.STATE 1, 3)], 1, 4294967295, (-3), 9, up_of (by decide), by decide +kernel⟩,
    ⟨wit .sender [(R.TIM.DOM_STAT.STATE 1, 0)], 1, 9, up_of (by decide), by decide +kernel⟩,
    ⟨wit .sender [], 1, 9, up_of (by decide), by decide +kernel⟩,
    ⟨wit .sender [(R.TIM.DOM_STAT.STATE 1, 3)], 1, 9, up_of (by decide), by decide +kernel⟩,
    ⟨wit .sender [], 9, up_of (by decide), by decide +kernel, gap_of (by decide +kernel) (by decide +kernel)⟩,
    ⟨(fun s : State => { s with tim := { s.tim with dom1 := { s.tim.dom1 with offset := 10 ^ 12 } } }) (wit .sender
      []), 9, up_of (by decide), by decide +kernel, far_of (by decide +kernel) (by decide +kernel)⟩,
    ⟨wit .sender [], 1, 9, up_of (by decide), by decide +kernel, by decide +kernel, gap_of (by decide +kernel)
      (by decide +kernel)⟩,
    ⟨wit .sender [(R.TIM.TIM_STAT.SLEWING, 1)], 9, up_of (by decide), by decide +kernel, by decide +kernel, res_of
      (by decide +kernel)⟩⟩

theorem witness_TimeMessages :
    (∃ (s : State) (t : Nat), s.up ∧ s.role = .sender ∧ s.frozen B.tim = false ∧ s.get R.FWU.FWU_STAT.SAFE = 0 ∧
      s.portActive 0 = false ∧ s.portActive 1) ∧
    (∃ (s : State) (p : Nat) (m : TimeMsg) (inF outF t : Nat), s.up ∧ s.role = .tile ∧ s.frozen B.tim = false ∧ p < 2
      ∧ s.portActive p ∧ s.portActive (1 - p) ∧ s.accepts p = false) ∧
    (∃ (s : State) (c : Sched) (t : Nat), s.up ∧ s.role = .sender ∧ s.get R.FWU.FWU_STAT.SAFE = 0 ∧ s.portActive 0 ∧
      s.portActive 1 = false ∧ s.tim.sched = some c ∧ s.pending? = none) ∧
    (∃ (s : State) (p : Nat) (m : SchedMsg) (t : Nat), s.up ∧ s.role = .tile ∧ s.frozen B.tim = false ∧ p < 2 ∧
      s.portActive p ∧ p = s.wallDom ∧ m.next = true ∧ s.dep.last = none ∧ p = s.line.shownPort ∧ m.dark < 16) ∧
    (∃ (s : State) (p t1 t : Nat), s.up ∧ s.frozen B.tim = false ∧ p < 2 ∧ s.portActive p) ∧
    (∃ (s : State) (p q t2 t3 t : Nat), s.up ∧ s.frozen B.tim = false ∧ s.portActive p) ∧
    (∃ (s : State) (p q : Nat) (turn : Int) (t4 t t1 : Nat), s.up ∧ s.frozen B.tim = false ∧ s.tim.ldOpen.getD p none
      = some (t1, q) ∧ p < s.tim.ldSamples.length) ∧
    (∃ (s : State) (p t : Nat), s.up) :=
  ⟨⟨wit .sender [(R.LNK.PORT_STAT.STAGE 1, 5)], 9, up_of (by decide), by decide +kernel⟩,
    ⟨wit .tile [(R.LNK.PORT_STAT.STAGE 1, 5), (R.LNK.PORT_STAT.STAGE 0, 5), (R.TIM.DOM_STAT.STATE 0, 0)], 0,
      ⟨false,true,false,false,1,13,5,6⟩, 3, 4, 9, up_of (by decide), by decide +kernel⟩,
    ⟨(fun s : State => { s with tim := { s.tim with sched := some ⟨0,5,9,[0,0,0]⟩ } }) (wit .sender
      [(R.LNK.PORT_STAT.STAGE 0, 5)]), ⟨0,5,9,[0,0,0]⟩, 9, up_of (by decide), by decide +kernel⟩,
    ⟨wit .tile [(R.LNK.PORT_STAT.STAGE 0, 5)], 0, ⟨false,true,1,⟨9,5,9,[0,0,0]⟩,0,4⟩, 9, up_of (by decide),
      by decide +kernel⟩,
    ⟨wit .sender [(R.LNK.PORT_STAT.STAGE 1, 5)], 1, 7, 9, up_of (by decide), by decide +kernel⟩,
    ⟨wit .sender [(R.LNK.PORT_STAT.STAGE 1, 5)], 1, 7, 8, 10, 20, up_of (by decide), by decide +kernel⟩,
    ⟨(fun s : State => { s with tim := { s.tim with ldOpen := [none, some (3, 7)] } }) (wit .sender []), 1, 7, 2, 90,
      100, 3, up_of (by decide), by decide +kernel⟩,
    ⟨(fun s : State => { s with tim := { s.tim with ldOpen := [none, some (3, 7)] } }) (wit .sender []), 1, 100, up_of
      (by decide)⟩⟩

theorem witness_TicksAndPulses :
    (∃ (s : State) (f t : Nat), s.up ∧ s.role = .sender ∧ s.frozen B.tim = false ∧ s.tickState = TickS.acquire ∧
      s.tim.ticks = []) ∧
    (∃ (s : State) (t : Nat), s.up ∧ s.role = .sender ∧ s.frozen B.tim = false ∧ s.tickState = TickS.acquire ∧
      s.tim.tickSeen = false ∧ 2 ≤ s.tim.empties) ∧
    (∃ (s : State) (v t : Nat), s.up ∧ s.role = .sender ∧ v < 4) ∧
    (∃ (s : State) (t : Nat), s.up ∧ s.frozen B.dep = false ∧ s.on R.DEP.TICKOUT_CFG.EN ∧ s.timeValid = true ∧ (s.tick
      t).tickoutDue) ∧
    (∃ (s : State) (t : Nat), s.up ∧ s.frozen B.tim = false ∧ s.on R.TIM.PPS_CFG.EN ∧ s.timeValid = true) :=
  ⟨⟨wit .sender [(R.TIM.TIM_STAT.TICK_STATE, 1)], 800, 100, up_of (by decide), by decide +kernel⟩,
    ⟨(fun s : State => { s with tim := { s.tim with empties := 2 } }) (wit .sender [(R.TIM.TIM_STAT.TICK_STATE, 1)]),
      100, up_of (by decide), by decide +kernel⟩,
    ⟨wit .sender [], 1, 9, up_of (by decide), by decide +kernel⟩,
    ⟨(fun s : State => let w := (s.dom s.wallDom).timeAt (16 * 9) - s.tickoutOfs;
      { s with frc := 9, dep := { s.dep with loaded := true, next := 0 }, tim := { s.tim with sched := some ⟨3, w, 9, [0,0,0]⟩, pend := none } })
      (wit .sender [(R.DEP.TICKOUT_CFG.EN, 1), (R.TIM.TIM_STAT.TIME_VALID, 1)]), 9, up_of (by decide),
      by decide +kernel, by decide +kernel, by decide +kernel, due_of (n := 3) (by decide +kernel) ⟨by decide +kernel,
      by decide +kernel, rfl, by decide +kernel, by decide +kernel, by decide +kernel⟩ (by decide +kernel)⟩,
    ⟨wit .sender [(R.TIM.PPS_CFG.EN, 1), (R.TIM.TIM_STAT.TIME_VALID, 1)], 9, up_of (by decide), by decide +kernel⟩⟩

theorem witness_EthernetPorts :
    (∃ (s : State) (p t : Nat), s.up ∧ s.frozen B.eth = false ∧ s.get R.FWU.FWU_STAT.SAFE = 0 ∧ s.hkt.shutdown = false
      ∧ s.tim.onInt = false ∧ s.role = .sender ∧ s.enabled B.eth ∧ s.ethExists p ∧ s.on (R.ETH.PORT_CTRL.EN p) ∧ s.get
      (R.ETH.PORT_STAT.LINK_UP p) = 0) ∧
    (∃ (s : State) (p t : Nat), s.up ∧ s.role = .sender ∧ p < 4 ∧ s.on (R.ETH.PORT_STAT.LINK_UP p)) ∧
    (∃ (s : State) (p : Nat) (f : EthFrame) (corr t : Nat), s.up ∧ s.frozen B.eth = false ∧ s.role = .sender ∧ p < 4 ∧
      s.live B.eth ∧ s.enabled B.eth ∧ s.ethExists p ∧ s.on (R.ETH.PORT_STAT.LINK_UP p) ∧ f.fcsOk = true ∧ f.len ≤
      9022 ∧ f.body = .control) ∧
    (∃ (s : State) (p : Nat) (f : EthFrame) (corr uncorr t : Nat), s.up ∧ s.frozen B.eth = false ∧ s.role = .sender ∧
      p < 4 ∧ s.live B.eth ∧ s.enabled B.eth ∧ s.ethExists p ∧ s.on (R.ETH.PORT_STAT.LINK_UP p) ∧ f.fcsOk = false) ∧
    (∃ (s : State) (p : Nat) (f : EthFrame) (corr t src dst port size : Nat) (rtp : Option RtpPkt), s.up ∧ s.frozen
      B.eth = false ∧ s.role = .sender ∧ p < 4 ∧ s.live B.eth ∧ s.enabled B.eth ∧ s.ethExists p ∧ s.on
      (R.ETH.PORT_STAT.LINK_UP p) ∧ f.fcsOk = true ∧ f.len ≤ 9022 ∧ f.body = .udp src dst port size rtp ∧ (port = 319
      ∨ port = 320)) ∧
    (∃ (s : State) (p : Nat) (f : EthFrame) (corr t src dst port size : Nat) (r : RtpPkt) (k l : Nat), s.up ∧ s.frozen
      B.eth = false ∧ s.role = .sender ∧ p < 4 ∧ s.live B.eth ∧ s.enabled B.eth ∧ s.enabled B.ing ∧ s.live B.ing ∧
      s.ethExists p ∧ s.on (R.ETH.PORT_STAT.LINK_UP p) ∧ f.fcsOk = true ∧ f.len ≤ 9022 ∧ f.body = .udp src dst port
      size (some r) ∧ port ≠ 319 ∧ port ≠ 320 ∧ size ≤ s.udpLimit p ∧ s.findLeg p src dst port r.pt f.vlan = some (k,
      l)) ∧
    (∃ (s : State) (t k l : Nat) (r : RtpPkt) (rest : List (Nat × Nat × RtpPkt)), s.up ∧ s.role = .sender ∧
      s.ing.inbox = (k, l, r) :: rest) ∧
    (∃ (s : State) (t k : Nat) (r : RtpPkt) (rest : List (Nat × Nat × RtpPkt)), s.up ∧ s.role = .sender ∧ s.ing.inbox
      = (k, 0, r) :: rest ∧ k < 32 ∧ k < s.ing.slots.length ∧ s.works B.ing ∧ s.frozen (B.flow k) = false ∧ s.on
      (R.FLOW.FLOW_CTRL.EN k) ∧ s.on (R.FLOW.FLOW_CTRL.LEGA_EN k) ∧ r.ok = true ∧ isVideo k ∧ s.runsOk k r.runs) ∧
    (∃ (s : State) (t k : Nat) (r : RtpPkt) (rest : List (Nat × Nat × RtpPkt)), s.up ∧ s.role = .sender ∧ s.ing.inbox
      = (k, 0, r) :: rest ∧ k < 32 ∧ k < s.ing.slots.length ∧ s.works B.ing ∧ s.frozen (B.flow k) = false ∧ s.on
      (R.FLOW.FLOW_CTRL.EN k) ∧ s.on (R.FLOW.FLOW_CTRL.LEGA_EN k) ∧ r.ok = true ∧ isVideo k ∧ s.runsOk k r.runs ∧
      r.marker = false ∧ s.follows k = false ∧ (s.slot k).recv = [] ∧ (s.slot k).legA.last = none ∧ (s.slot
      k).legB.last = none ∧ (s.slot k).legA.miss = [] ∧ (s.slot k).legB.miss = [] ∧ (s.slot k).unrec = [] ∧ (s.slot
      k).lastMarker = none) ∧
    (∃ (s : State) (t k : Nat) (r : RtpPkt) (rest : List (Nat × Nat × RtpPkt)), s.up ∧ s.role = .sender ∧ s.ing.inbox
      = (k, 0, r) :: rest ∧ k < 32 ∧ k < s.ing.slots.length ∧ s.works B.ing ∧ s.frozen (B.flow k) = false ∧ s.on
      (R.FLOW.FLOW_CTRL.EN k) ∧ s.on (R.FLOW.FLOW_CTRL.LEGA_EN k) ∧ r.ok = false) ∧
    (∃ (s : State) (t : Nat) (m : MonFrame), s.up ∧ s.role = .sender ∧ s.cmp.monitor = some m ∧ s.ethExists m.port ∧
      s.on (R.ETH.PORT_STAT.LINK_UP m.port)) ∧
    (∃ (s : State) (t : Nat) (m : MonFrame), s.up ∧ s.role = .sender ∧ s.cmp.monitor = some m ∧ s.ethExists m.port =
      false) :=
  ⟨⟨wit .sender [(R.PG.EN 0x30000, 1), (R.ETH.PORT_CTRL.EN 1, 1)], 1, 9, up_of (by decide), by decide +kernel⟩,
    ⟨wit .sender [(R.ETH.PORT_STAT.LINK_UP 3, 1)], 3, 9, up_of (by decide), by decide +kernel⟩,
    ⟨wit .sender [(R.PG.EN 0x30000, 1), (R.ETH.PORT_STAT.LINK_UP 1, 1), (R.ETH.ETH_CFG.MODE, 0)], 1, ⟨7, 64, true,
      none, .control⟩, 2, 9, up_of (by decide), by decide +kernel⟩,
    ⟨wit .sender [(R.PG.EN 0x30000, 1), (R.ETH.PORT_STAT.LINK_UP 1, 1), (R.ETH.ETH_CFG.MODE, 0)], 1, ⟨0, 64, false,
      none, .control⟩, 2, 1, 9, up_of (by decide), by decide +kernel⟩,
    ⟨wit .sender [(R.PG.EN 0x30000, 1), (R.ETH.PORT_STAT.LINK_UP 1, 1), (R.ETH.ETH_CFG.MODE, 0)], 1, ⟨7, 64, true,
      none, .udp 1 2 319 44 none⟩, 2, 9, 1, 2, 319, 44, none, up_of (by decide), by decide +kernel⟩,
    ⟨wit .sender [(R.PG.EN 0x30000, 1), (R.ETH.PORT_STAT.LINK_UP 1, 1), (R.ETH.ETH_CFG.MODE, 0), (R.PG.EN B.ing, 1),
      (R.FLOW.FLOW_CTRL.EN 3, 1), (R.FLOW.FLOW_CTRL.LEGA_EN 3, 1), (R.FLOW.LEGA_DST.ADDR 3, 2), (R.FLOW.LEGA_PORT.UDP
      3, 5004), (legEth 3 0, 1)], 1, ⟨7, 64, true, none, .udp 1 2 5004 44 (some ⟨5, 7, false, 96, [], [], true⟩)⟩, 2,
      9, 1, 2, 5004, 44, ⟨5, 7, false, 96, [], [], true⟩, 3, 0, up_of (by decide), by decide +kernel⟩,
    ⟨(fun s : State => { s with ing := { s.ing with inbox := [(1, 0, ⟨5, 7, false, 96, [], [], true⟩)] } }) (wit
      .sender []), 9, 1, 0, ⟨5, 7, false, 96, [], [], true⟩, [], up_of (by decide), by decide +kernel⟩,
    ⟨(fun s : State => { s with ing := { s.ing with inbox := [(1, 0, ⟨5, 7, false, 96, [], [], true⟩)] } }) (wit
      .sender [(R.PG.EN B.ing, 1), (R.FLOW.FLOW_CTRL.EN 1, 1), (R.FLOW.FLOW_CTRL.LEGA_EN 1, 1)]), 9, 1, ⟨5, 7, false,
      96, [], [], true⟩, [], up_of (by decide), by decide +kernel⟩,
    ⟨(fun s : State => { s with ing := { s.ing with inbox := [(1, 0, ⟨5, 7, false, 96, [], [], true⟩)] } }) (wit
      .sender [(R.PG.EN B.ing, 1), (R.FLOW.FLOW_CTRL.EN 1, 1), (R.FLOW.FLOW_CTRL.LEGA_EN 1, 1)]), 9, 1, ⟨5, 7, false,
      96, [], [], true⟩, [], up_of (by decide), by decide +kernel⟩,
    ⟨(fun s : State => { s with ing := { s.ing with inbox := [(1, 0, ⟨5, 7, false, 96, [], [], false⟩)] } }) (wit
      .sender [(R.PG.EN B.ing, 1), (R.FLOW.FLOW_CTRL.EN 1, 1), (R.FLOW.FLOW_CTRL.LEGA_EN 1, 1)]), 9, 1, ⟨5, 7, false,
      96, [], [], false⟩, [], up_of (by decide), by decide +kernel⟩,
    ⟨(fun s : State => { s with cmp := { s.cmp with monitor := some ⟨1, 0, 1, 5, 6, 96, 7, 0, [[{}, {}]]⟩ } }) (wit
      .sender [(R.ETH.PORT_STAT.LINK_UP 1, 1), (R.ETH.ETH_CFG.MODE, 0)]), 9, ⟨1, 0, 1, 5, 6, 96, 7, 0, [[{}, {}]]⟩,
      up_of (by decide), by decide +kernel⟩,
    ⟨(fun s : State => { s with cmp := { s.cmp with monitor := some ⟨1, 0, 3, 5, 6, 96, 7, 0, []⟩ } }) (wit .sender
      [(R.ETH.ETH_CFG.MODE, 1)]), 9, ⟨1, 0, 3, 5, 6, 96, 7, 0, []⟩, up_of (by decide), by decide +kernel⟩⟩

theorem witness_FlowSlots :
    (∃ (s : State) (k t : Nat) (f : RecvFrame), s.up ∧ s.flowStands k = false ∧ s.role = .sender ∧ k < 32 ∧ k <
      s.ing.slots.length ∧ (((s.tick t).expireLeg k 0).expireLeg k 1).slot k = s.slot k ∧ (s.slot k).recv.find? (fun f
      => f.marker.isSome) = some f ∧ f.complete ((s.slot k).markerBefore f) = false) ∧
    (∃ (s : State) (k l t : Nat), s.up ∧ s.flowStands k = false ∧ s.role = .sender ∧ k < 32 ∧ k < s.ing.slots.length ∧
      l < 2 ∧ s.flow k = Flow.running ∧ s.bothLegs k ∧ ((s.slot k).leg l).at_ + max 1 (s.get
      R.ING.ING_CTRL.LEG_TIMEOUT) * 1500000 ≤ max s.frc t ∧ max s.frc t < ((s.slot k).leg (1 - l)).at_ + max 1 (s.get
      R.ING.ING_CTRL.LEG_TIMEOUT) * 1500000) ∧
    (∃ (s : State) (k t : Nat), s.up ∧ s.flowStands k = false ∧ s.role = .sender ∧ k < 32 ∧ (s.flow k = Flow.wait ∨
      s.flow k = Flow.running ∨ s.flow k = Flow.degraded) ∧ max (s.slot k).legA.at_ (s.slot k).legB.at_ + max 1 (s.get
      R.ING.ING_CTRL.FLOW_TIMEOUT) * 1500000 ≤ max s.frc t) ∧
    (∃ (s : State) (k v t : Nat), s.up ∧ s.role = .sender ∧ k < 32 ∧ s.on (R.FLOW.FLOW_CTRL.EN k)) ∧
    (∃ (s : State) (k v t : Nat) (x : State), s.up ∧ s.role = .sender ∧ k < 32 ∧ k < s.ing.slots.length ∧ s.get
      (R.FLOW.FLOW_CTRL.EN k) = 0 ∧ x = ((s.tick t).flowFields k (v / 2 * 2 + 1)).flowLegs k (v / 2 * 2 + 1) ∧
      x.enableCode k = 0) ∧
    (∃ (s : State) (k v t : Nat), s.up ∧ s.role = .sender ∧ k < 32 ∧ s.get (R.FLOW.FLOW_CTRL.EN k) = 0 ∧ s.enabled
      B.ing = false) ∧
    (∃ (s : State) (k v t : Nat), s.up ∧ s.role = .sender ∧ k < 32 ∧ k < s.ing.slots.length ∧ s.on
      (R.FLOW.FLOW_CTRL.EN k)) ∧
    (∃ (s : State) (k v t : Nat), s.up ∧ s.role = .sender ∧ k < 32 ∧ bitsOf v 0 1 = 0) :=
  ⟨⟨(fun s : State => s.setSlot 2
      { s.slot 2 with lastMarker := some 1, recv := [{ ts := 7, buf := some 0, marker := some 9 }] }) (wit .sender
      []), 2, 9, { ts := 7, buf := some 0, marker := some 9 }, up_of (by decide), by decide +kernel⟩,
    ⟨(fun s : State =>
      { (s.setSlot 2 { s.slot 2 with legB := { (s.slot 2).legB with at_ := 1500001 } }) with frc := 0 }) (wit .sender
      [(R.FLOW.FLOW_STAT.STATE 2, 2), (R.FLOW.FLOW_CTRL.LEGA_EN 2, 1), (R.FLOW.FLOW_CTRL.LEGB_EN 2, 1),
      (R.ING.ING_CTRL.LEG_TIMEOUT, 1)]), 2, 0, 1500000, up_of (by decide), by decide +kernel⟩,
    ⟨wit .sender [(R.FLOW.FLOW_STAT.STATE 2, 2)], 2, 99999999999999, up_of (by decide), by decide +kernel⟩,
    ⟨wit .sender [(R.FLOW.FLOW_CTRL.EN 2, 1)], 2, 0x700, 9, up_of (by decide), by decide +kernel⟩,
    ⟨wit .sender [(R.PG.EN B.ing, 1), (R.ING.FS_SIZE.MIB, 1024), (R.MEM.CH_STAT.STATE 0, 3), (R.MEM.CH_STAT.STATE 1,
      3), (R.MEM.CH_STAT.STATE 2, 3), (R.MEM.CH_STAT.STATE 3, 3)], 2, 0x702, 9, ((((wit .sender [(R.PG.EN B.ing, 1),
      (R.ING.FS_SIZE.MIB, 1024), (R.MEM.CH_STAT.STATE 0, 3), (R.MEM.CH_STAT.STATE 1, 3), (R.MEM.CH_STAT.STATE 2, 3),
      (R.MEM.CH_STAT.STATE 3, 3)]).tick 9).flowFields 2 0x703).flowLegs 2 0x703), up_of (by decide),
      by decide +kernel, by decide +kernel, by decide +kernel, by decide +kernel, rfl, by decide +kernel⟩,
    ⟨wit .sender [], 2, 0x700, 9, up_of (by decide), by decide +kernel⟩,
    ⟨wit .sender [(R.FLOW.FLOW_CTRL.EN 2, 1), (R.FLOW.FLOW_STAT.STATE 2, 2)], 2, 0, 9, up_of (by decide),
      by decide +kernel⟩,
    ⟨wit .sender [], 2, 4, 9, up_of (by decide), by decide +kernel⟩⟩

theorem witness_CardsSpireAndViews :
    (∃ (s : State) (t : Nat), s.up ∧ s.role = .sender) ∧
    (∃ (s : State) (t : Nat), s.up ∧ s.role = .sender ∧ s.on R.MAP.CARD_STAT.CHECK_BUSY ∧ s.cardStaged = none) ∧
    (∃ (s : State) (t code c loc src : Nat), s.up ∧ s.role = .sender ∧ s.on R.MAP.CARD_STAT.CHECK_BUSY ∧ s.cardStaged
      = some (code, c, loc, src) ∧ code < 2 ^ R.MAP.CARD_STAT.CHECK_CODE.width) ∧
    (∃ (s : State) (t : Nat), s.up ∧ s.role = .sender ∧ s.on R.MAP.CARD_STAT.SYNCING ∧ s.map.stalled = [] ∧
      s.map.stalledCommit = false) ∧
    (∃ (s : State) (t : Nat), s.up ∧ s.role = .sender) ∧
    (∃ (s : State) (t : Nat), s.up ∧ s.role = .sender ∧ s.on R.SPI.SP_STAT.SYNCING ∧ s.cmp.spStalled = [] ∧
      s.cmp.spStalledCommit = false) ∧
    (∃ (s : State) (n t : Nat), s.up ∧ s.role = .sender ∧ s.get R.FWU.FWU_STAT.SAFE = 0 ∧ s.dep.last = some n ∧
      s.enabled B.otg ∧ s.frozen B.otg) ∧
    (∃ (s : State) (n t : Nat), s.up ∧ s.role = .sender ∧ s.get R.FWU.FWU_STAT.SAFE = 0 ∧ s.dep.last = some n ∧ s.live
      B.otg ∧ s.enabled B.otg ∧ s.frozen B.otg = false ∧ s.frameDark n = false ∧ s.modeCur.timing = 0) ∧
    (∃ (s : State) (n a b t : Nat), s.up ∧ s.role = .sender ∧ s.otg.frame = some n) ∧
    (∃ (s : State) (n p v a b t : Nat), s.up ∧ s.role = .sender ∧ s.otg.frame = some n ∧ s.otg.follow = false ∧
      s.pathStopped = false ∧ p < 2 ∧ s.portActive p ∧ v < s.otg.views) ∧
    (∃ (s : State) (n : Nat) (cutA cutB : Option (Nat × Nat)) (a b t : Nat), s.up ∧ s.role = .sender ∧ s.otg.frame =
      some n) :=
  ⟨⟨wit .sender [], 9, up_of (by decide), by decide +kernel⟩,
    ⟨wit .sender [(R.MAP.CARD_STAT.CHECK_BUSY, 1)], 9, up_of (by decide), by decide +kernel⟩,
    ⟨(fun s : State => { s with map := { s.map with stage := [(0, 1#8)], canvas := { cw := 0 } } }) (wit .sender
      [(R.MAP.CARD_STAT.CHECK_BUSY, 1)]), 9, (((enabledCards ([(0, 1#8)] : List Host.Cell)) |> fun l => (cardCheck l
      ({} : Canvas)).getD (0,0,0,0)).1), ((((fun s : State =>
      { s with map := { s.map with stage := [(0, 1#8)], canvas := { cw := 0 } } }) (wit .sender
      [(R.MAP.CARD_STAT.CHECK_BUSY, 1)])).cardStaged.getD (0,0,0,0)).2.1), ((((fun s : State =>
      { s with map := { s.map with stage := [(0, 1#8)], canvas := { cw := 0 } } }) (wit .sender
      [(R.MAP.CARD_STAT.CHECK_BUSY, 1)])).cardStaged.getD (0,0,0,0)).2.2.1), ((((fun s : State =>
      { s with map := { s.map with stage := [(0, 1#8)], canvas := { cw := 0 } } }) (wit .sender
      [(R.MAP.CARD_STAT.CHECK_BUSY, 1)])).cardStaged.getD (0,0,0,0)).2.2.2), up_of (by decide), by decide +kernel⟩,
    ⟨wit .sender [(R.MAP.CARD_STAT.SYNCING, 1)], 9, up_of (by decide), by decide +kernel⟩,
    ⟨wit .sender [], 9, up_of (by decide), by decide +kernel⟩,
    ⟨wit .sender [(R.SPI.SP_STAT.SYNCING, 1)], 9, up_of (by decide), by decide +kernel⟩,
    ⟨(fun s : State => { s with dep := { s.dep with last := some 3 } }) (wit .sender [(R.PG.EN 0x50000, 1),
      (R.PG.FREEZE 0x50000, 1)]), 3, 9, up_of (by decide), by decide +kernel⟩,
    ⟨(fun s : State => { s with dep := { s.dep with last := some 3 } }) (wit .sender [(R.PG.EN 0x50000, 1)]), 3, 9,
      up_of (by decide), by decide +kernel⟩,
    ⟨(fun s : State => { s with otg := { s.otg with frame := some 3, dark := true } }) (wit .sender []), 3, 0, 1, 9,
      up_of (by decide), by decide +kernel⟩,
    ⟨(fun s : State =>
      { s with otg := { s.otg with frame := some 3, dark := true, views := 2, shares := [(0, 1, [{ stop := 1, dark := true }])] } })
      (wit .sender [(R.LNK.PORT_STAT.STAGE 0, 5), (R.LNK.PORT_STAT.WIDTH 0, 4), (R.LNK.PORT_STAT.IN_SERVICE 0, 15),
      (R.PG.EN B.cmp, 1), (R.PG.EN B.col, 1), (R.PG.EN B.map, 1), (R.PG.EN (B.layer 0), 1), (R.PG.EN (B.layer 2), 1),
      (R.PG.EN (B.layer 4), 1), (R.PG.EN (B.layer 6), 1), (R.PG.EN (B.layer 8), 1), (R.PG.EN (B.layer 10), 1),
      (R.PG.EN (B.layer 12), 1), (R.PG.EN (B.layer 14), 1), (R.PG.EN B.otg, 1), (R.PG.EN B.spire, 1)]), 3, 0, 1, 0, 1,
      9, up_of (by decide), by decide +kernel⟩,
    ⟨(fun s : State => { s with otg := { s.otg with frame := some 3, dark := true } }) (wit .sender []), 3, none,
      (some (0, 1)), 0, 1, 9, up_of (by decide), by decide +kernel⟩⟩

theorem witness_LaneTraining :
    (∃ (s : State) (l ctl sta : Nat) (inverted : Bool) (req : Nat) (errors : Option Nat) (t : Nat), s.up ∧ 8 ≤ l ∧ l <
      16 ∧ l < s.line.lanes.length ∧ (s.laneState l = LaneS.detect ∨ s.laneState l = LaneS.train ∨ s.laneState l =
      LaneS.retrain)) ∧
    (∃ (s : State) (l ctl sta : Nat) (inverted : Bool) (req t : Nat), s.up ∧ 8 ≤ l ∧ l < 16 ∧ l < s.line.lanes.length
      ∧ s.laneState l = LaneS.train ∧ bitsOf ctl 15 2 = laneIdx l ∧ bitAt ctl 13 = false ∧ bitAt ctl 17 = false ∧
      bitsOf ctl 10 2 = 0 ∧ bitsOf ctl 0 12 ≠ (s.lane l).req) ∧
    (∃ (s : State) (l ctl sta : Nat) (inverted : Bool) (req : Nat) (errors : Option Nat) (t : Nat), s.up ∧ 8 ≤ l ∧ l <
      16 ∧ l < s.line.lanes.length ∧ s.laneState l = LaneS.detect ∧ bitsOf ctl 15 2 = laneIdx l ∧ (s.lane l).run < 7 ∧
      (List.range 4).all (fun k => decide ((s.lane (physLane (lanePort l) k)).run < 8))) ∧
    (∃ (s : State) (l t : Nat), s.up ∧ 8 ≤ l ∧ l < 16 ∧ s.laneState l = LaneS.train) ∧
    (∃ (s : State) (l t : Nat), s.up ∧ 8 ≤ l ∧ l < 16 ∧ s.laneState l = LaneS.train ∧ ((s.lane l).peerReady ∨ (s.lane
      l).peerGiveUp) ∧ clampN 10 55 (s.get (R.LNL.TRAIN_CFG.TMO l)) * 1500000 ≤ (s.tick t).frc - (s.lane l).since) ∧
    (∃ (s : State) (l t : Nat), s.up ∧ 8 ≤ l ∧ l < 16 ∧ l < s.line.lanes.length ∧ s.laneState l = LaneS.train ∧
      (s.lane l).peerReady = false ∧ (s.lane l).peerGiveUp = false ∧ clampN 10 55 (s.get (R.LNL.TRAIN_CFG.TMO l)) *
      1500000 ≤ (s.tick t).frc - (s.lane l).since) ∧
    (∃ (s : State) (l : Nat) (skew : Int) (inverted : Bool) (t : Nat), s.up ∧ 8 ≤ l ∧ l < 16 ∧ s.stage (lanePort l) =
      Stage.lock ∧ s.laneState l = LaneS.lock ∧ skew.natAbs ≤ 48000) ∧
    (∃ (s : State) (p t : Nat), s.up ∧ p < 2 ∧ s.stage p = Stage.lock ∧ s.lnkMoves p ∧ (s.inService p).all (fun k =>
      (s.port p).locked.contains k || !(s.lane (physLane p k)).fixed) ∧ (s.candidates p).any (fun k => (s.port
      p).locked.contains k)) ∧
    (∃ (s : State) (p t : Nat), s.up ∧ p < 2 ∧ s.stage p = Stage.lock ∧ s.lnkMoves p ∧ s.inService p = [] ∧
      s.candidates p = []) :=
  ⟨⟨wit .sender [(R.LNL.LANE_STAT.STATE 9, 1)], 9, 1, 2, true, 0, none, 9, up_of (by decide), by decide +kernel⟩,
    ⟨wit .sender [(R.LNL.LANE_STAT.STATE 9, 2)], 9, (0x8000 + 1), 0, true, 0, 9, up_of (by decide), by decide +kernel⟩,
    ⟨wit .sender [(R.LNL.LANE_STAT.STATE 9, 1)], 9, 0x8000, 2, true, 0, none, 9, up_of (by decide), by decide +kernel⟩,
    ⟨wit .sender [(R.LNL.LANE_STAT.STATE 9, 2)], 9, 9, up_of (by decide), by decide +kernel⟩,
    ⟨(fun s : State => s.setLane 9 { s.lane 9 with peerReady := true }) (wit .sender [(R.LNL.LANE_STAT.STATE 9, 2)]),
      9, 999999999, up_of (by decide), by decide +kernel⟩,
    ⟨wit .sender [(R.LNL.LANE_STAT.STATE 9, 2)], 9, 999999999, up_of (by decide), by decide +kernel⟩,
    ⟨wit .sender [(R.LNK.PORT_STAT.STAGE 0, 3), (R.LNL.LANE_STAT.STATE 9, 3)], 9, (-48000), true, 9, up_of
      (by decide), by decide +kernel⟩,
    ⟨(fun s : State => s.setPort 1 { s.port 1 with locked := [0, 2] }) (wit .sender [(R.PG.EN 0xA1000, 1),
      (R.LNK.PORT_STAT.STAGE 1, 3), (R.LNK.PORT_STAT.IN_SERVICE 1, 15), (R.LNK.PORT_STAT.WORKING 1, 15),
      (R.LNL.LANE_STAT.STATE 12, 3), (R.LNL.LANE_STAT.STATE 13, 3), (R.LNL.LANE_STAT.STATE 14, 3),
      (R.LNL.LANE_STAT.STATE 15, 3)]), 1, 9, up_of (by decide), by decide +kernel⟩,
    ⟨(fun s : State => [12, 13, 14, 15].foldl (fun s l => s.setLaneState l LaneS.failed) s) (wit .sender [(R.PG.EN
      0xA1000, 1), (R.LNK.PORT_STAT.STAGE 1, 3)]), 1, 9, up_of (by decide), by decide +kernel⟩⟩

theorem witness_PortStages :
    (∃ (s : State) (p t : Nat), s.up ∧ p < 2 ∧ s.stage p = Stage.capx) ∧
    (∃ (s : State) (p : Nat) (m : CapxMsg) (t : Nat), s.up ∧ p < 2 ∧ s.stage p = Stage.capx ∧ s.lnkMoves p ∧ pairOk
      (s.portFn p) (m.fn % 8) = false) ∧
    (∃ (s : State) (p : Nat) (m : CapxMsg) (t : Nat), s.up ∧ p < 2 ∧ s.stage p = Stage.capx ∧ s.lnkMoves p ∧ pairOk
      (s.portFn p) (m.fn % 8) ∧ serviceOf (s.port p).maxWidth ((s.working p).filter (bitAt (s.rxGood p &&& m.rxGood)))
      = s.inService p) ∧
    (∃ (s : State) (p t : Nat), s.up ∧ p < 2 ∧ s.stage p = Stage.capx ∧ s.lnkMoves p) ∧
    (∃ (s : State) (p t : Nat), s.up ∧ p < 2 ∧ (s.stage p = Stage.down ∨ s.stage p = Stage.held) ∧ (s.port p).waits =
      true ∧ s.lnkMoves p) ∧
    (∃ (s : State) (p t : Nat), s.up ∧ p < 2 ∧ s.stage p = Stage.active ∧ s.lnkMoves p) ∧
    (∃ (s : State) (p v t : Nat), s.up ∧ p < 2 ∧ v < 3) :=
  ⟨⟨wit .sender [(R.LNK.PORT_STAT.STAGE 1, 4)], 1, 9, up_of (by decide), by decide +kernel⟩,
    ⟨wit .sender [(R.PG.EN 0xA1000, 1), (R.LNK.PORT_STAT.STAGE 1, 4)], 1, ⟨1, 2, 3, 15, false, 1, 1, 7⟩, 9, up_of
      (by decide), by decide +kernel⟩,
    ⟨(fun s : State => s.setPort 1 { s.port 1 with locked := [0, 1, 2, 3], seenSent := true }) (wit .sender [(R.PG.EN
      0xA1000, 1), (R.LNK.PORT_STAT.STAGE 1, 4), (R.LNK.PORT_STAT.IN_SERVICE 1, 15), (R.LNK.PORT_STAT.WORKING 1, 15),
      (R.LNK.PORT_STAT.WIDTH 1, 4)]), 1, ⟨4, 2, 3, 15, true, 1, 1, 7⟩, 9, up_of (by decide), by decide +kernel⟩,
    ⟨wit .sender [(R.PG.EN 0xA1000, 1), (R.LNK.PORT_STAT.STAGE 1, 4)], 1, 9, up_of (by decide), by decide +kernel⟩,
    ⟨(fun s : State => s.setPort 1 { s.port 1 with waits := true }) (wit .sender [(R.PG.EN 0xA1000, 1),
      (R.LNK.PORT_STAT.STAGE 1, 6)]), 1, 9, up_of (by decide), by decide +kernel⟩,
    ⟨wit .sender [(R.PG.EN 0xA1000, 1), (R.LNK.PORT_STAT.STAGE 1, 5)], 1, 9, up_of (by decide), by decide +kernel⟩,
    ⟨wit .sender [], 1, 2, 9, up_of (by decide), by decide +kernel⟩⟩

theorem witness_GroupsAndLanes :
    (∃ (s : State) (p : Nat) (rx : List (Nat × Nat)) (t : Nat) (x : State), s.up ∧ p < 2 ∧ x = rx.foldl (fun z e =>
      z.takeWord p e.1 e.2) (s.tick t) ∧ x.rxReady p ∧ x.stage p ≠ Stage.lock ∧ (x.popGroup p).rxReady p = false ∧
      (List.range 32).all (fun i => !(x.rxFlit p i).2) ∧ bitsOf (x.rxFlit p 32).1 32 24 = crc24 (x.rxFlit p 0).1
      ((List.range 31).map (fun i => (x.rxFlit p (i + 1)).1)) ∧ bitsOf (x.rxFlit p 0).1 0 12 = (x.port p).expect ∧
      (x.port p).synced = true ∧ bitAt (x.rxFlit p 0).1 25 = false ∧ bitAt (x.rxFlit p 0).1 26 = false) ∧
    (∃ (s : State) (p : Nat) (rx : List (Nat × Nat)) (t : Nat) (x : State), s.up ∧ p < 2 ∧ x = rx.foldl (fun z e =>
      z.takeWord p e.1 e.2) (s.tick t) ∧ x.rxReady p ∧ x.stage p ≠ Stage.lock ∧ (x.popGroup p).rxReady p = false ∧
      x.frozen (B.lnk p) = false ∧ bitsOf (x.rxFlit p 32).1 32 24 ≠ crc24 (x.rxFlit p 0).1 ((List.range 31).map (fun i
      => (x.rxFlit p (i + 1)).1)) ∧ bitsOf (x.rxFlit p 32).1 32 24 ≠ 0xFFFFFF - crc24 (x.rxFlit p 0).1 ((List.range
      31).map (fun i => (x.rxFlit p (i + 1)).1)) ∧ (x.port p).nakAt = none) ∧
    (∃ (s : State) (p t : Nat) (g : SentGroup) (r : List SentGroup), s.up ∧ p < 2 ∧ (s.stage p = Stage.capx ∨ s.stage
      p = Stage.active) ∧ s.frozen (B.lnk p) = false ∧ (s.port p).sent = g :: r ∧ g.seq < 4096 ∧ s.replayTmo p ≤
      (s.tick t).frc - g.last ∧ g.replays < clampN 1 8 (s.get (R.LNK.REPLAY_CFG.MAX p)) ∧ (s.tick t).frc - g.at_ <
      30000) ∧
    (∃ (s : State) (p t : Nat) (g : SentGroup) (r : List SentGroup), s.up ∧ p < 2 ∧ (s.stage p = Stage.capx ∨ s.stage
      p = Stage.active) ∧ s.frozen (B.lnk p) = false ∧ (s.port p).sent = g :: r ∧ g.seq < 4096 ∧ s.replayTmo p ≤
      (s.tick t).frc - g.last ∧ (clampN 1 8 (s.get (R.LNK.REPLAY_CFG.MAX p)) ≤ g.replays ∨ 30000 ≤ (s.tick t).frc -
      g.at_)) ∧
    (∃ (s : State) (l t : Nat), s.up ∧ 8 ≤ l ∧ l < 16 ∧ s.portActive (lanePort l) ∧ s.laneState l = LaneS.spare ∧
      (s.inService (lanePort l)).contains (laneIdx l) = false) ∧
    (∃ (s : State) (l t : Nat), s.up ∧ 8 ≤ l ∧ l < 16 ∧ s.portActive (lanePort l) ∧ s.laneState l = LaneS.inService ∧
      (s.inService (lanePort l)).contains (laneIdx l) ∧ (s.working (lanePort l)).any (fun k => k != laneIdx l &&
      (s.inService (lanePort l)).contains k) ∧ s.liveWidth (lanePort l) ∧ s.frozen (B.lnk (lanePort l)) = false ∧
      (s.port (lanePort l)).wRx = none) ∧
    (∃ (s : State) (l t : Nat), s.up ∧ 8 ≤ l ∧ l < 16 ∧ s.laneState l = LaneS.retrain ∧ s.portActive (lanePort l)) ∧
    (∃ (s : State) (l t : Nat), s.up ∧ 8 ≤ l ∧ l < 16 ∧ s.laneState l = LaneS.retrain ∧ s.portActive (lanePort l) ∧
      s.get (R.LNK.PORT_CTRL.AUTO_WIDEN (lanePort l)) = 0) ∧
    (∃ (s : State) (l t : Nat), s.up ∧ 8 ≤ l ∧ l < 16 ∧ s.laneState l = LaneS.failed ∧ s.get (R.LNL.LANE_CTRL.RETIRE
      l) = 0 ∧ s.portActive (lanePort l) = false) ∧
    (∃ (s : State) (l t : Nat), s.up ∧ 8 ≤ l ∧ l < 16 ∧ s.laneState l = LaneS.failed ∧ s.get (R.LNL.LANE_CTRL.RETIRE
      l) = 0 ∧ s.portActive (lanePort l)) ∧
    (∃ (s : State) (l t : Nat), s.up ∧ 8 ≤ l ∧ l < 16 ∧ s.stage (lanePort l) = Stage.detect ∧ s.laneState l ≠
      LaneS.failed) :=
  ⟨⟨(fun s : State => (fun s => [8, 9, 10, 11].foldl (fun s l => s.setLane l
      { s.lane l with rxFlits := if l = 8 then (List.replicate 8 (0, false)) ++ [(832743 * 2 ^ 32, false)] else List.replicate 8 (0, false) })
      s) (s.setPort 0 { s.port 0 with synced := true })) (wit .sender [(R.LNK.PORT_STAT.STAGE 0, 5),
      (R.LNK.PORT_STAT.IN_SERVICE 0, 15), (R.LNK.PORT_STAT.WIDTH 0, 4), (R.LNL.LANE_STAT.STATE 8, 4),
      (R.LNL.LANE_STAT.STATE 9, 4), (R.LNL.LANE_STAT.STATE 10, 4), (R.LNL.LANE_STAT.STATE 11, 4)]), 0, [], 9, (((fun s
      : State => (fun s => [8, 9, 10, 11].foldl (fun s l => s.setLane l
      { s.lane l with rxFlits := if l = 8 then (List.replicate 8 (0, false)) ++ [(832743 * 2 ^ 32, false)] else List.replicate 8 (0, false) })
      s) (s.setPort 0 { s.port 0 with synced := true })) (wit .sender [(R.LNK.PORT_STAT.STAGE 0, 5),
      (R.LNK.PORT_STAT.IN_SERVICE 0, 15), (R.LNK.PORT_STAT.WIDTH 0, 4), (R.LNL.LANE_STAT.STATE 8, 4),
      (R.LNL.LANE_STAT.STATE 9, 4), (R.LNL.LANE_STAT.STATE 10, 4), (R.LNL.LANE_STAT.STATE 11, 4)])).tick 9), up_of
      (by decide), by decide +kernel, rfl, by decide +kernel, by decide +kernel, ready_of (v := 832743 * 2 ^ 32)
      (by decide +kernel) (by rw [State.group, crc_zeros]; decide +kernel), by decide +kernel,
      by rw [crc_val] <;> decide +kernel, by decide +kernel⟩,
    ⟨(fun s : State => [8, 9, 10, 11].foldl (fun s l => s.setLane l
      { s.lane l with rxFlits := if l = 8 then (List.replicate 8 (0, false)) ++ [(0, false)] else List.replicate 8 (0, false) })
      s) (wit .sender [(R.LNK.PORT_STAT.STAGE 0, 5), (R.LNK.PORT_STAT.IN_SERVICE 0, 15), (R.LNK.PORT_STAT.WIDTH 0, 4),
      (R.LNL.LANE_STAT.STATE 8, 4), (R.LNL.LANE_STAT.STATE 9, 4), (R.LNL.LANE_STAT.STATE 10, 4),
      (R.LNL.LANE_STAT.STATE 11, 4)]), 0, [], 9, (((fun s : State => [8, 9, 10, 11].foldl (fun s l => s.setLane l
      { s.lane l with rxFlits := if l = 8 then (List.replicate 8 (0, false)) ++ [(0, false)] else List.replicate 8 (0, false) })
      s) (wit .sender [(R.LNK.PORT_STAT.STAGE 0, 5), (R.LNK.PORT_STAT.IN_SERVICE 0, 15), (R.LNK.PORT_STAT.WIDTH 0, 4),
      (R.LNL.LANE_STAT.STATE 8, 4), (R.LNL.LANE_STAT.STATE 9, 4), (R.LNL.LANE_STAT.STATE 10, 4),
      (R.LNL.LANE_STAT.STATE 11, 4)])).tick 9), up_of (by decide), by decide +kernel, rfl, by decide +kernel,
      by decide +kernel, ready_of (v := 0) (by decide +kernel) (by rw [State.group, crc_zeros]; decide +kernel),
      by decide +kernel, by rw [crc_val] <;> decide +kernel, by rw [crc_val] <;> decide +kernel, by decide +kernel⟩,
    ⟨(fun s : State => { (fun s => s.setPort 1 { s.port 1 with sent := [⟨5, [], [], 0, 0, 0⟩] }) s with frc := 0 })
      (wit .sender [(R.LNK.PORT_STAT.STAGE 1, 5), (R.LNK.PORT_STAT.IN_SERVICE 1, 3), (R.LNK.PORT_STAT.WIDTH 1, 2),
      (R.LNK.REPLAY_CFG.MAX 1, 4)]), 1, 29000, ⟨5, [], [], 0, 0, 0⟩, [], up_of (by decide), by decide +kernel⟩,
    ⟨(fun s : State => s.setPort 1 { s.port 1 with sent := [⟨5, [], [], 9, 0, 0⟩] }) (wit .sender
      [(R.LNK.PORT_STAT.STAGE 1, 5), (R.LNK.PORT_STAT.IN_SERVICE 1, 3), (R.LNK.PORT_STAT.WIDTH 1, 2),
      (R.LNK.REPLAY_CFG.MAX 1, 4)]), 1, 99930000, ⟨5, [], [], 9, 0, 0⟩, [], up_of (by decide), by decide +kernel⟩,
    ⟨wit .sender [(R.LNK.PORT_STAT.STAGE 1, 5), (R.LNL.LANE_STAT.STATE 13, 5)], 13, 9, up_of (by decide),
      by decide +kernel⟩,
    ⟨wit .sender [(R.LNK.PORT_STAT.STAGE 1, 5), (R.LNL.LANE_STAT.STATE 13, 4), (R.LNK.PORT_STAT.IN_SERVICE 1, 15),
      (R.LNK.PORT_STAT.WORKING 1, 15), (R.LNK.CAPX_STAT.FEATURES 1, 3), (R.LNK.CAPX_STAT.LEVEL 1, 2)], 13, 9, up_of
      (by decide), by decide +kernel⟩,
    ⟨wit .sender [(R.LNK.PORT_STAT.STAGE 0, 5), (R.LNL.LANE_STAT.STATE 9, 7)], 9, 9, up_of (by decide),
      by decide +kernel⟩,
    ⟨wit .sender [(R.LNK.PORT_STAT.STAGE 0, 5), (R.LNL.LANE_STAT.STATE 9, 7), (R.LNK.PORT_CTRL.AUTO_WIDEN 0, 0)], 9,
      9, up_of (by decide), by decide +kernel⟩,
    ⟨wit .sender [(R.LNL.LANE_STAT.STATE 9, 6)], 9, 9, up_of (by decide), by decide +kernel⟩,
    ⟨wit .sender [(R.LNK.PORT_STAT.STAGE 0, 5), (R.LNL.LANE_STAT.STATE 9, 6)], 9, 9, up_of (by decide),
      by decide +kernel⟩,
    ⟨wit .sender [(R.LNK.PORT_STAT.STAGE 0, 1)], 9, 9, up_of (by decide), by decide +kernel⟩⟩

theorem witness_LineEnumeration :
    (∃ (s : State) (p : Nat) (m : LinkStateMsg) (t : Nat), s.up ∧ s.role = .tile ∧ p < 2 ∧ s.portActive p ∧ s.works
      (B.lne p) ∧ m.cause = 2 ∧ (m.fn = 6 ∨ m.fn = 7) ∧ s.dual = false) ∧
    (∃ (s : State) (p : Nat) (m : LinkStateMsg) (t : Nat), s.up ∧ s.role = .sender ∧ p < 2 ∧ s.portActive p ∧ s.works
      (B.lne p) ∧ m.cause = 3 ∧ m.fn = s.faceFn p ∧ (m.fn = 6 ∨ m.fn = 7) ∧ m.stage = Stage.active ∧ s.reportStop p m
      ≠ 0) ∧
    (∃ (s : State) (p t : Nat), s.up ∧ s.role = .sender ∧ p < 2 ∧ s.portActive p ∧ s.works (B.lne p)) ∧
    (∃ (s : State) (p : Nat) (m : EnumMsg) (t : Nat), s.up ∧ s.role = .tile ∧ p < 2 ∧ s.portActive p ∧ s.works (B.lne
      p) ∧ m.stop ≤ 254 ∧ s.hasNext p = false) ∧
    (∃ (s : State) (p : Nat) (m : EnumMsg) (t : Nat), s.up ∧ s.role = .tile ∧ p < 2 ∧ s.portActive p ∧ s.works (B.lne
      p) ∧ m.stop ≤ 254 ∧ s.hasNext p) ∧
    (∃ (s : State) (p : Nat) (m : EnumMsg) (t : Nat), s.up ∧ s.role = .tile ∧ p < 2 ∧ s.portActive p ∧ s.works (B.lne
      p) ∧ 254 < m.stop) ∧
    (∃ (s : State) (p : Nat) (m : EnumRsp) (t : Nat), s.up ∧ s.role = .sender ∧ p < 2 ∧ s.portActive p ∧ s.works
      (B.lne p) ∧ s.on (R.LNE.LNE_STAT.ENUM_BUSY p) ∧ m.run = s.get (R.LNE.ENUM_RUN.RUN p) ∧ heardAll ((s.lineTx
      p).rsps.filter (fun e => e.stop != m.stop) ++ [m]) = false) ∧
    (∃ (s : State) (p t : Nat), s.up ∧ s.role = .sender ∧ p < 2 ∧ s.on (R.LNE.LNE_STAT.ENUM_BUSY p)) ∧
    (∃ (s : State) (p : Nat) (m : TelemMsg) (t : Nat), s.up ∧ s.role = .sender ∧ p < 2 ∧ s.portActive p ∧ s.get
      R.FWU.FWU_STAT.SAFE = 0 ∧ s.telOn p ∧ 1 ≤ m.stop ∧ m.stop ≤ 254 ∧ s.dual = false) :=
  ⟨⟨wit .tile [(R.LNK.PORT_STAT.STAGE 0, 5), (R.PG.EN (B.lne 0), 1)], 0, ⟨6, 1, 2, 5, 0, 15, 2, 0⟩, 9, up_of
      (by decide), by decide +kernel⟩,
    ⟨wit .sender [(R.LNK.PORT_STAT.STAGE 0, 5), (R.PG.EN (B.lne 0), 1)], 0, ⟨6, 1, 2, 5, 0, 15, 3, 0⟩, 9, up_of
      (by decide), by decide +kernel⟩,
    ⟨wit .sender [(R.LNK.PORT_STAT.STAGE 1, 5), (R.PG.EN (B.lne 1), 1)], 1, 9, up_of (by decide), by decide +kernel⟩,
    ⟨wit .tile [(R.LNK.PORT_STAT.STAGE 0, 5), (R.PG.EN (B.lne 0), 1)], 0, ⟨false, 254, 1, 7⟩, 9, up_of (by decide),
      by decide +kernel⟩,
    ⟨(fun s : State => s.setPort 1 { s.port 1 with peerFn := some 6 }) (wit .tile [(R.LNK.PORT_STAT.STAGE 0, 5),
      (R.LNK.PORT_STAT.STAGE 1, 5), (R.PG.EN (B.lne 0), 1)]), 0, ⟨false, 254, 1, 7⟩, 9, up_of (by decide),
      by decide +kernel⟩,
    ⟨wit .tile [(R.LNK.PORT_STAT.STAGE 0, 5), (R.PG.EN (B.lne 0), 1)], 0, ⟨false, 255, 1, 7⟩, 9, up_of (by decide),
      by decide +kernel⟩,
    ⟨wit .sender [(R.LNK.PORT_STAT.STAGE 0, 5), (R.PG.EN (B.lne 0), 1), (R.LNE.LNE_STAT.ENUM_BUSY 0, 1)], 0, ⟨false,
      false, 1, 0, 1, 0, 3, 0, 5⟩, 9, up_of (by decide), by decide +kernel⟩,
    ⟨wit .sender [(R.LNE.LNE_STAT.ENUM_BUSY 1, 1)], 1, 9, up_of (by decide), by decide +kernel⟩,
    ⟨wit .sender [(R.LNK.PORT_STAT.STAGE 0, 5), (R.PG.EN (B.lne 0), 1), (R.LNE.LNE_CTRL.TEL_EN 0, 1)], 0, ⟨false, 3,
      0, 3, 1, 2, 3, 4, 5, 6, 7, 8, 9, 10, 11, 12, 13, 14⟩, 9, up_of (by decide), by decide +kernel⟩⟩

theorem witness_VideoStream :
    (∃ (s : State) (p : Nat) (h : FrameHdr) (member t : Nat), s.up ∧ p < 2 ∧ s.watches p ∧ s.role = .sender ∧
      (s.stream p).open_ = false) ∧
    (∃ (s : State) (p : Nat) (h : FrameHdr) (member t : Nat), s.up ∧ p < 2 ∧ s.watches p) ∧
    (∃ (s : State) (p : Nat) (k : ShareHdr) (t : Nat) (h : FrameHdr), s.up ∧ p < 2 ∧ s.watches p ∧ s.role = .sender ∧
      (s.stream p).hunt = false ∧ (s.stream p).hdr = some h ∧ (s.stream p).open_ = true ∧ (s.stream p).shares.length <
      h.nshare ∧ (∀ e ∈ (s.stream p).shares, e.stop < k.stop)) ∧
    (∃ (s : State) (p : Nat) (k : ShareHdr) (t : Nat) (h : FrameHdr), s.up ∧ p < 2 ∧ s.watches p ∧ s.role = .tile ∧
      (s.stream p).hunt = false ∧ (s.stream p).hdr = some h ∧ (s.stream p).open_ = true ∧ (s.stream p).shares.length <
      h.nshare ∧ (∀ e ∈ (s.stream p).shares, e.stop < k.stop)) ∧
    (∃ (s : State) (p round t : Nat) (h : FrameHdr), s.up ∧ p < 2 ∧ s.watches p ∧ (s.stream p).hunt = false ∧
      (s.stream p).hdr = some h ∧ (s.stream p).open_ = true ∧ (s.stream p).listed = true ∧ (s.stream p).segDone = true
      ∧ round = (s.stream p).nextSeg ∧ round % 8 = 0 ∧ round < (s.stream p).roundsOf) ∧
    (∃ (s : State) (p r bits : Nat) (bad : List Nat) (t : Nat) (h : FrameHdr) (a : Nat), s.up ∧ p < 2 ∧ s.watches p ∧
      (s.stream p).hunt = false ∧ (s.stream p).open_ = true ∧ (s.stream p).hdr = some h ∧ (s.stream p).seg = some a ∧
      a ≤ r ∧ r < a + 8 ∧ r < (s.stream p).roundsOf ∧ (s.stream p).rounds.contains r = false) ∧
    (∃ (s : State) (p : Nat) (tr : ShareTrl) (t : Nat) (h : FrameHdr) (k : ShareHdr), s.up ∧ p < 2 ∧ s.watches p ∧
      (s.stream p).hunt = false ∧ (s.stream p).hdr = some h ∧ (s.stream p).open_ = true ∧ (s.stream p).listed = true ∧
      (s.stream p).lit[(s.stream p).trailers]? = some k ∧ tr.stop = k.stop ∧ tr.incomplete = true) ∧
    (∃ (s : State) (p t : Nat) (h : FrameHdr), s.up ∧ p < 2 ∧ s.watches p ∧ (s.stream p).hunt = false ∧ (s.stream
      p).hdr = some h ∧ (s.stream p).open_ = true ∧ (s.stream p).listed = true ∧ (s.stream p).trailers = (s.stream
      p).lit.length) :=
  ⟨⟨wit .sender [(R.LNK.PORT_STAT.STAGE 0, 5), (R.PG.EN (B.lne 0), 1)], 0, ⟨0, 1, 0, false, false, 5, 2, 0⟩, 1, 9,
      up_of (by decide), by decide +kernel⟩,
    ⟨wit .sender [(R.LNK.PORT_STAT.STAGE 0, 5), (R.PG.EN (B.lne 0), 1)], 0, ⟨0, 1, 0, false, false, 5, 2, 0⟩, 1, 9,
      up_of (by decide), by decide +kernel⟩,
    ⟨(fun s : State => s.setStream 0 { hdr := some ⟨0, 1, 0, false, false, 5, 2, 0⟩, open_ := true }) (wit .sender
      [(R.LNK.PORT_STAT.STAGE 0, 5), (R.PG.EN (B.lne 0), 1)]), 0, ⟨1, false, false, 4, 2⟩, 9, ⟨0, 1, 0, false, false,
      5, 2, 0⟩, up_of (by decide), by decide +kernel⟩,
    ⟨(fun s : State => s.setStream 0 { hdr := some ⟨0, 1, 0, false, false, 5, 2, 0⟩, open_ := true }) (wit .tile
      [(R.LNK.PORT_STAT.STAGE 0, 5), (R.PG.EN (B.lne 0), 1)]), 0, ⟨1, false, false, 4, 2⟩, 9, ⟨0, 1, 0, false, false,
      5, 2, 0⟩, up_of (by decide), by decide +kernel⟩,
    ⟨(fun s : State => s.setStream 0
      { hdr := some ⟨0, 1, 0, false, false, 5, 2, 0⟩, open_ := true, shares := [⟨1, false, false, 4, 2⟩, ⟨2, true, false, 0, 0⟩] })
      (wit .sender [(R.LNK.PORT_STAT.STAGE 0, 5), (R.PG.EN (B.lne 0), 1)]), 0, 0, 9, ⟨0, 1, 0, false, false, 5, 2, 0⟩,
      up_of (by decide), by decide +kernel⟩,
    ⟨(fun s : State => s.setStream 0
      { hdr := some ⟨0, 1, 0, false, false, 5, 2, 0⟩, open_ := true, seg := some 0, shares := [⟨1, false, false, 4, 2⟩, ⟨2, true, false, 0, 0⟩] })
      (wit .sender [(R.LNK.PORT_STAT.STAGE 0, 5), (R.PG.EN (B.lne 0), 1)]), 0, 1, 5, [], 9, ⟨0, 1, 0, false, false, 5,
      2, 0⟩, 0, up_of (by decide), by decide +kernel⟩,
    ⟨(fun s : State => s.setStream 0
      { hdr := some ⟨0, 1, 0, false, false, 5, 2, 0⟩, open_ := true, seg := some 0, nextSeg := 8, rounds := [0, 1], shares := [⟨1, false, false, 4, 2⟩, ⟨2, true, false, 0, 0⟩] })
      (wit .sender [(R.LNK.PORT_STAT.STAGE 0, 5), (R.PG.EN (B.lne 0), 1)]), 0, ⟨1, true, false, false, 0, 2⟩, 9, ⟨0,
      1, 0, false, false, 5, 2, 0⟩, ⟨1, false, false, 4, 2⟩, up_of (by decide), by decide +kernel⟩,
    ⟨(fun s : State => s.setStream 0
      { hdr := some ⟨0, 1, 0, false, false, 5, 2, 0⟩, open_ := true, trailers := 1, seg := some 0, nextSeg := 8, rounds := [0, 1], shares := [⟨1, false, false, 4, 2⟩, ⟨2, true, false, 0, 0⟩] })
      (wit .sender [(R.LNK.PORT_STAT.STAGE 0, 5), (R.PG.EN (B.lne 0), 1)]), 0, 9, ⟨0, 1, 0, false, false, 5, 2, 0⟩,
      up_of (by decide), by decide +kernel⟩⟩

theorem witness_LineRequests :
    (∃ (s : State) (p : Nat) (m : ReqMsg) (t : Nat), s.up ∧ s.role = .tile ∧ p < 2 ∧ s.portActive p ∧ s.works (B.lne
      p) ∧ s.ownStop p ≠ 0 ∧ hitsStop m.stop (s.ownStop p) ∧ m.valid ∧ (s.winOf m.src).tags.find? (fun e => e.1 ==
      m.tag) = none ∧ (s.line.held.filter (fun h => h.side == p)).length < 64) ∧
    (∃ (s : State) (t : Nat) (h : HeldReq) (rest : List HeldReq), s.up ∧ s.role = .tile ∧ s.line.held = h :: rest ∧
      h.req.op = 1 ∧ h.drop = false ∧ h.next = 0 ∧ h.done = none ∧ h.port < 2 ∧ s.ownStop h.port ≠ 0 ∧ h.req.stop =
      s.ownStop h.port ∧ s.portActive h.port ∧ h.req.loc = 0x8120 ∧ h.req.count = 1 ∧ s.get R.FWU.FWU_STAT.SAFE = 0 ∧
      s.get R.TIM.SLEW_MAX.V < 2 ^ 16) ∧
    (∃ (s : State) (t : Nat) (h : HeldReq) (rest : List HeldReq) (v : Nat), s.up ∧ s.role = .tile ∧ s.line.held = h ::
      rest ∧ h.req.op = 2 ∧ h.drop = false ∧ h.next = 0 ∧ h.done = none ∧ h.port < 2 ∧ s.ownStop h.port ≠ 0 ∧
      h.req.stop = s.ownStop h.port ∧ s.portActive h.port ∧ h.req.loc = 0x8120 ∧ h.req.count = 1 ∧ h.req.data = [v] ∧
      s.get R.FWU.FWU_STAT.SAFE = 0) ∧
    (∃ (s : State) (t : Nat) (h : HeldReq) (rest : List HeldReq) (v : Nat), s.up ∧ s.role = .tile ∧ s.line.held = h ::
      rest ∧ h.req.op = 3 ∧ h.drop = false ∧ h.next = 0 ∧ h.done = none ∧ h.port < 2 ∧ s.ownStop h.port ≠ 0 ∧
      h.req.stop = s.ownStop h.port ∧ s.portActive h.port ∧ h.req.loc = 0x8120 ∧ h.req.mask = 0xFFFF ∧ h.req.data =
      [v] ∧ s.get R.FWU.FWU_STAT.SAFE = 0) ∧
    (∃ (s : State) (t : Nat) (h : HeldReq) (rest : List HeldReq), s.up ∧ s.role = .tile ∧ s.line.held = h :: rest ∧
      h.req.op = 4 ∧ h.drop = false ∧ h.next = 0 ∧ h.done = none ∧ h.port < 2 ∧ s.ownStop h.port ≠ 0 ∧ h.req.stop =
      s.ownStop h.port ∧ s.portActive h.port) ∧
    (∃ (s : State) (p : Nat) (m : RspMsg) (t : Nat), s.up ∧ s.role = .sender ∧ p < 2 ∧ s.portActive p ∧ m.src / 32 =
      s.get (R.LNE.LINE_ID.ID p) ∧ (s.lineTx p).txns.find? (fun e => e.req.didx == m.didx) = none) ∧
    (∃ (s : State) (p : Nat) (m : RspMsg) (t : Nat) (x : Txn), s.up ∧ s.role = .sender ∧ p < 2 ∧ s.portActive p ∧
      m.src / 32 = s.get (R.LNE.LINE_ID.ID p) ∧ (s.lineTx p).txns.find? (fun e => e.req.didx == m.didx) = some x ∧
      x.discard = true ∧ x.tenant < 16 ∧ (s.lineTx p).waiting = []) ∧
    (∃ (s : State) (p : Nat) (m : RspMsg) (t : Nat) (x : Txn) (dst : Caller) (tag : Nat), s.up ∧ s.role = .sender ∧ p
      < 2 ∧ s.portActive p ∧ m.src / 32 = s.get (R.LNE.LINE_ID.ID p) ∧ (s.lineTx p).txns.find? (fun e => e.req.didx ==
      m.didx) = some x ∧ x.discard = false ∧ x.owner = .service dst tag ∧ (s.lineTx p).waiting = [] ∧ s.on
      R.SVP.SVP_STAT.LINK_UP) ∧
    (∃ (s : State) (p : Nat) (m : RspMsg) (t : Nat) (x : Txn) (q i : Nat) (d : Desc), s.up ∧ s.role = .sender ∧ p < 2
      ∧ s.portActive p ∧ m.src / 32 = s.get (R.LNE.LINE_ID.ID p) ∧ (s.lineTx p).txns.find? (fun e => e.req.didx ==
      m.didx) = some x ∧ x.discard = false ∧ x.owner = .desc q i 0 ∧ x.req.op ≠ 1 ∧ (s.lineTx p).waiting = [] ∧ s.desc
      q i = some d ∧ d.result = none ∧ d.answers = [] ∧ d.sent = 1 ∧ d.op ≠ 1 ∧ s.qClass q < 3) ∧
    (∃ (s : State) (p didx t : Nat) (x : Txn), s.up ∧ p < 2 ∧ (s.lineTx p).txns.find? (fun e => e.req.didx == didx) =
      some x ∧ x.discard = true ∧ x.tenant < 16 ∧ (s.lineTx p).waiting = []) ∧
    (∃ (s : State) (p didx t : Nat) (x : Txn) (dst : Caller) (tag : Nat), s.up ∧ p < 2 ∧ (s.lineTx p).txns.find? (fun
      e => e.req.didx == didx) = some x ∧ x.discard = false ∧ x.owner = .service dst tag ∧ (s.lineTx p).waiting = [] ∧
      s.on R.SVP.SVP_STAT.LINK_UP ∧ s.live (B.lne p)) ∧
    (∃ (s : State) (p didx t : Nat), s.up ∧ p < 2 ∧ (s.lineTx p).waiting = []) :=
  ⟨⟨wit .tile [(R.LNK.PORT_STAT.STAGE 0, 5), (R.PG.EN (B.lne 0), 1), (R.LNE.TILE_STOP.STOP_U 0, 3)], 0, ⟨2, 1, 3,
      false, 33, 9, 4, 0x8120, 0xFFFF, [77]⟩, 9, up_of (by decide), by decide +kernel⟩,
    ⟨(fun s : State =>
      { s with line := { s.line with held := [⟨0, ⟨1, 1, 3, false, 33, 9, 4, 0x8120, 0xFFFF, [77]⟩, 0, 4, false, 0, none⟩] } })
      (wit .tile [(R.LNK.PORT_STAT.STAGE 0, 5), (R.PG.EN (B.lne 0), 1), (R.LNE.TILE_STOP.STOP_U 0, 3)]), 9, ⟨0, ⟨1, 1,
      3, false, 33, 9, 4, 0x8120, 0xFFFF, [77]⟩, 0, 4, false, 0, none⟩, [], up_of (by decide), by decide +kernel⟩,
    ⟨(fun s : State =>
      { s with line := { s.line with held := [⟨0, ⟨2, 1, 3, false, 33, 9, 4, 0x8120, 0xFFFF, [77]⟩, 0, 4, false, 0, none⟩] } })
      (wit .tile [(R.LNK.PORT_STAT.STAGE 0, 5), (R.PG.EN (B.lne 0), 1), (R.LNE.TILE_STOP.STOP_U 0, 3)]), 9, ⟨0, ⟨2, 1,
      3, false, 33, 9, 4, 0x8120, 0xFFFF, [77]⟩, 0, 4, false, 0, none⟩, [], 77, up_of (by decide), by decide +kernel⟩,
    ⟨(fun s : State =>
      { s with line := { s.line with held := [⟨0, ⟨3, 1, 3, false, 33, 9, 4, 0x8120, 0xFFFF, [77]⟩, 0, 4, false, 0, none⟩] } })
      (wit .tile [(R.LNK.PORT_STAT.STAGE 0, 5), (R.PG.EN (B.lne 0), 1), (R.LNE.TILE_STOP.STOP_U 0, 3)]), 9, ⟨0, ⟨3, 1,
      3, false, 33, 9, 4, 0x8120, 0xFFFF, [77]⟩, 0, 4, false, 0, none⟩, [], 77, up_of (by decide), by decide +kernel⟩,
    ⟨(fun s : State =>
      { s with line := { s.line with held := [⟨0, ⟨4, 1, 3, false, 33, 9, 4, 0x8120, 0xFFFF, [77]⟩, 0, 4, false, 0, none⟩] } })
      (wit .tile [(R.LNK.PORT_STAT.STAGE 0, 5), (R.PG.EN (B.lne 0), 1), (R.LNE.TILE_STOP.STOP_U 0, 3)]), 9, ⟨0, ⟨4, 1,
      3, false, 33, 9, 4, 0x8120, 0xFFFF, [77]⟩, 0, 4, false, 0, none⟩, [], up_of (by decide), by decide +kernel⟩,
    ⟨wit .sender [(R.LNK.PORT_STAT.STAGE 0, 5), (R.LNE.LINE_ID.ID 0, 1)], 0, ⟨0, 1, 3, false, 33, 9, 4, 0x8120, [5]⟩,
      9, up_of (by decide), by decide +kernel⟩,
    ⟨(fun s : State => s.setLineTx 0
      { s.lineTx 0 with txns := [⟨0, ⟨1, 1, 3, false, 33, 9, 4, 0x8120, 0xFFFF, [77]⟩, .desc 1 0 0, 2, 0, true, 0⟩] })
      (wit .sender [(R.LNK.PORT_STAT.STAGE 0, 5), (R.LNE.LINE_ID.ID 0, 1)]), 0, ⟨0, 1, 3, false, 33, 9, 4, 0x8120,
      [5]⟩, 9, ⟨0, ⟨1, 1, 3, false, 33, 9, 4, 0x8120, 0xFFFF, [77]⟩, .desc 1 0 0, 2, 0, true, 0⟩, up_of (by decide),
      by decide +kernel⟩,
    ⟨(fun s : State => s.setLineTx 0
      { s.lineTx 0 with txns := [⟨0, ⟨1, 1, 3, false, 33, 9, 4, 0x8120, 0xFFFF, [77]⟩, .service ⟨1, 2, 3⟩ 7, 2, 0, false, 0⟩] })
      (wit .sender [(R.LNK.PORT_STAT.STAGE 0, 5), (R.LNE.LINE_ID.ID 0, 1), (R.SVP.SVP_STAT.LINK_UP, 1)]), 0, ⟨0, 1, 3,
      false, 33, 9, 4, 0x8120, [5]⟩, 9, ⟨0, ⟨1, 1, 3, false, 33, 9, 4, 0x8120, 0xFFFF, [77]⟩, .service ⟨1, 2, 3⟩ 7, 2,
      0, false, 0⟩, ⟨1, 2, 3⟩, 7, up_of (by decide), by decide +kernel⟩,
    ⟨(fun s : State =>
      { (s.setLineTx 0 { s.lineTx 0 with txns := [⟨0, ⟨2, 1, 3, false, 33, 9, 4, 0x8120, 0xFFFF, [77]⟩, .desc 1 0 0, 2, 0, false, 0⟩] }) with que := { s.que with descs := [⟨1, 0, [2#8], 0, 1, [], true, none, none⟩] } })
      (wit .sender [(R.LNK.PORT_STAT.STAGE 0, 5), (R.LNE.LINE_ID.ID 0, 1)]), 0, ⟨0, 1, 3, false, 33, 9, 4, 0x8120,
      [5]⟩, 9, ⟨0, ⟨2, 1, 3, false, 33, 9, 4, 0x8120, 0xFFFF, [77]⟩, .desc 1 0 0, 2, 0, false, 0⟩, 1, 0, ⟨1, 0, [2#8],
      0, 1, [], true, none, none⟩, up_of (by decide), by decide +kernel⟩,
    ⟨(fun s : State => s.setLineTx 0
      { s.lineTx 0 with txns := [⟨0, ⟨1, 1, 3, false, 33, 9, 4, 0x8120, 0xFFFF, [77]⟩, .desc 1 0 0, 2, 0, true, 0⟩] })
      (wit .sender []), 0, 4, 9, ⟨0, ⟨1, 1, 3, false, 33, 9, 4, 0x8120, 0xFFFF, [77]⟩, .desc 1 0 0, 2, 0, true, 0⟩,
      up_of (by decide), by decide +kernel⟩,
    ⟨(fun s : State => s.setLineTx 0
      { s.lineTx 0 with txns := [⟨0, ⟨1, 1, 3, false, 33, 9, 4, 0x8120, 0xFFFF, [77]⟩, .service ⟨1, 2, 3⟩ 7, 2, 0, false, 0⟩] })
      (wit .sender [(R.SVP.SVP_STAT.LINK_UP, 1)]), 0, 4, 9, ⟨0, ⟨1, 1, 3, false, 33, 9, 4, 0x8120, 0xFFFF, [77]⟩,
      .service ⟨1, 2, 3⟩ 7, 2, 0, false, 0⟩, ⟨1, 2, 3⟩, 7, up_of (by decide), by decide +kernel⟩,
    ⟨(fun s : State => s.setLineTx 0 { s.lineTx 0 with held := [(4, 3), (5, 3)] }) (wit .sender []), 0, 4, 9, up_of
      (by decide), by decide +kernel⟩⟩

theorem witness_SessionsAndMirror :
    (∃ (s : State) (p : Nat) (m : SvcMsg) (full : Bool) (t : Nat) (v : SvcOut), s.up ∧ s.role = .sender ∧ p < 2 ∧
      s.portActive p ∧ s.session p m.stop = some v ∧ v.session = m.session ∧ v.purpose = 4 ∧ v.rxSeq = none ∧ m.seq =
      0 ∧ m.stop = v.stop) ∧
    (∃ (s : State) (p : Nat) (m : SvcMsg) (full : Bool) (t : Nat), s.up ∧ s.role = .tile ∧ p < 2 ∧ s.portActive p ∧
      s.ownStop p ≠ 0 ∧ m.stop = s.ownStop p ∧ s.line.svcIn = none ∧ m.seq ≠ 0) ∧
    (∃ (s : State) (p : Nat) (m : SvcAck) (t : Nat) (v : SvcOut), s.up ∧ s.role = .sender ∧ p < 2 ∧ s.portActive p ∧
      s.session p m.stop = some v ∧ v.session = m.session ∧ m.status = 0 ∧ v.closing = false ∧ v.wait = none ∧ v.buf =
      [] ∧ v.stop = m.stop) ∧
    (∃ (s : State) (p : Nat) (m : SvcAck) (t : Nat) (v : SvcOut), s.up ∧ s.role = .sender ∧ p < 2 ∧ s.portActive p ∧
      s.session p m.stop = some v ∧ v.session = m.session ∧ (m.status = 3 ∨ m.status = 4)) ∧
    (∃ (s : State) (p k t : Nat) (v : SvcOut), s.up ∧ s.role = .sender ∧ p < 2 ∧ s.portActive p ∧ s.session p k = some
      v) ∧
    (∃ (s : State) (p : Nat) (m : MirrorMsg) (t : Nat), s.up ∧ p < 2 ∧ s.isRelief ∧ s.portActive p ∧
      s.rdn.nextSeq.getD m.seq = m.seq ∧ s.rdn.early = [] ∧ m.body = .imageStart 2) ∧
    (∃ (s : State) (p : Nat) (m : MirrorMsg) (t n : Nat), s.up ∧ p < 2 ∧ s.isRelief ∧ s.portActive p ∧ s.rdn.nextSeq =
      some n ∧ n < m.seq ∧ m.seq < n + 32768 ∧ m.seq < 65536 ∧ s.rdn.early = []) ∧
    (∃ (s : State) (t : Nat), s.up ∧ s.isRelief ∧ s.rdn.early ≠ [] ∧ s.get R.RDN.RDN_STAT.STATE = 2) ∧
    (∃ (s : State) (t : Nat), s.up ∧ s.isRelief ∧ s.rdn.early ≠ [] ∧ s.get R.RDN.RDN_STAT.STATE = 3) :=
  ⟨⟨(fun s : State => s.setLineTx 0
      { s.lineTx 0 with sessions := [{ stop := 3, session := 9, purpose := 4, slot := 17, segs := [⟨true, false, 3, 9, 0, [1#8]⟩] }] })
      (wit .sender [(R.LNK.PORT_STAT.STAGE 0, 5)]), 0, ⟨false, false, 3, 9, 0, [7#8]⟩, false, 9,
      { stop := 3, session := 9, purpose := 4, slot := 17, segs := [⟨true, false, 3, 9, 0, [1#8]⟩] }, up_of
      (by decide), by decide +kernel⟩,
    ⟨wit .tile [(R.LNK.PORT_STAT.STAGE 0, 5), (R.LNE.TILE_STOP.STOP_U 0, 3)], 0, ⟨false, false, 3, 9, 1, [7#8]⟩,
      false, 9, up_of (by decide), by decide +kernel⟩,
    ⟨(fun s : State => s.setLineTx 0
      { s.lineTx 0 with sessions := [{ stop := 3, session := 9, purpose := 4, slot := 17, segs := [⟨true, false, 3, 9, 0, [1#8]⟩] }] })
      (wit .sender [(R.LNK.PORT_STAT.STAGE 0, 5)]), 0, ⟨0, 3, 9, 0⟩, 9,
      { stop := 3, session := 9, purpose := 4, slot := 17, segs := [⟨true, false, 3, 9, 0, [1#8]⟩] }, up_of
      (by decide), by decide +kernel⟩,
    ⟨(fun s : State => s.setLineTx 0
      { s.lineTx 0 with sessions := [{ stop := 3, session := 9, purpose := 4, slot := 17, segs := [⟨true, false, 3, 9, 0, [1#8]⟩] }] })
      (wit .sender [(R.LNK.PORT_STAT.STAGE 0, 5)]), 0, ⟨3, 3, 9, 0⟩, 9,
      { stop := 3, session := 9, purpose := 4, slot := 17, segs := [⟨true, false, 3, 9, 0, [1#8]⟩] }, up_of
      (by decide), by decide +kernel⟩,
    ⟨(fun s : State => s.setLineTx 0
      { s.lineTx 0 with sessions := [{ stop := 3, session := 9, purpose := 4, slot := 17, segs := [⟨true, false, 3, 9, 0, [1#8]⟩] }] })
      (wit .sender [(R.LNK.PORT_STAT.STAGE 0, 5)]), 0, 3, 9,
      { stop := 3, session := 9, purpose := 4, slot := 17, segs := [⟨true, false, 3, 9, 0, [1#8]⟩] }, up_of
      (by decide), by decide +kernel⟩,
    ⟨wit .sender [(R.PG.EN B.rdn, 1), (R.RDN.RDN_STAT.STATE, 2), (R.DEP.MODE_CUR.REDUN, 1), (R.LNK.PORT_STAT.STAGE 0,
      5)], 0, ⟨false, 65535, .imageStart 2⟩, 9, up_of (by decide), by decide +kernel⟩,
    ⟨(fun s : State => { s with rdn := { s.rdn with nextSeq := some 3 } }) (wit .sender [(R.PG.EN B.rdn, 1),
      (R.RDN.RDN_STAT.STATE, 2), (R.DEP.MODE_CUR.REDUN, 1), (R.LNK.PORT_STAT.STAGE 0, 5)]), 0, ⟨false, 5, .imageStart
      2⟩, 9, 3, up_of (by decide), by decide +kernel⟩,
    ⟨(fun s : State => { s with rdn := { s.rdn with early := [(3, .imageStart 2)] } }) (wit .sender [(R.PG.EN B.rdn,
      1), (R.RDN.RDN_STAT.STATE, 2), (R.DEP.MODE_CUR.REDUN, 1), (R.LNK.PORT_STAT.STAGE 0, 5)]), 9, up_of (by decide),
      by decide +kernel⟩,
    ⟨(fun s : State => { s with rdn := { s.rdn with early := [(3, .imageStart 2)] } }) (wit .sender [(R.PG.EN B.rdn,
      1), (R.RDN.RDN_STAT.STATE, 2), (R.DEP.MODE_CUR.REDUN, 1), (R.LNK.PORT_STAT.STAGE 0, 5), (R.RDN.RDN_STAT.STATE,
      3)]), 9, up_of (by decide), by decide +kernel⟩⟩

theorem witness_CodecJobs :
    (∃ (s : State) (v t : Nat), s.up) ∧
    (∃ (s : State) (blocks t : Nat) (b : List (BitVec 8)), s.up ∧ s.klc.job = none ∧ s.works B.klc ∧ s.ringPending ∧
      s.queuePending = false ∧ b = ((s.tick t).dramBytes 3 (s.get64 R.KLC.JR_BASE_LO.BASE R.KLC.JR_BASE_HI.BASE + 64 *
      s.get R.KLC.JR_HEAD.IDX) 64).2.1 ∧ ({ bytes := b } : Job).op = 1) ∧
    (∃ (s : State) (blocks t : Nat) (b : List (BitVec 8)), s.up ∧ s.klc.job = none ∧ s.works B.klc ∧ s.ringPending ∧
      s.queuePending = false ∧ b = ((s.tick t).dramBytes 3 (s.get64 R.KLC.JR_BASE_LO.BASE R.KLC.JR_BASE_HI.BASE + 64 *
      s.get R.KLC.JR_HEAD.IDX) 64).2.1 ∧ ({ bytes := b } : Job).op = 2) ∧
    (∃ (s : State) (t : Nat) (j : Job), s.up ∧ s.klc.job = some j ∧ s.frozen B.klc = false ∧ j.abort = true ∧ j.status
      = none ∧ j.drop = false ∧ j.owner = none ∧ j.counted = true) ∧
    (∃ (s : State) (t : Nat) (j : Job) (st a : Nat), s.up ∧ s.klc.job = some j ∧ s.frozen B.klc = false ∧ j.status =
      some (st, a) ∧ j.drop = false ∧ j.owner = none ∧ j.counted = true ∧ s.get R.PAR.CHK_CTRL.MODE ≠ 3 ∧ (s.route
      (j.at_ + 32)) = .copies [0] ∧ s.isTile = false) ∧
    (∃ (s : State) (t : Nat) (j : Job), s.up ∧ s.klc.job = some j) :=
  ⟨⟨wit .sender [], 3, 9, up_of (by decide)⟩,
    ⟨(fun s : State => { s with mem := { s.mem with dram := [(0, 17#8)] } }) (wit .sender [(R.PG.EN B.klc, 1),
      (R.KLC.JR_TAIL.IDX, 1), (R.MEM.CH_STAT.STATE 0, 3)]), 4, 9, (17#8 :: List.replicate 63 0#8), up_of (by decide),
      by decide +kernel⟩,
    ⟨(fun s : State => { s with mem := { s.mem with dram := [(0, 18#8)] } }) (wit .sender [(R.PG.EN B.klc, 1),
      (R.KLC.JR_TAIL.IDX, 1), (R.MEM.CH_STAT.STATE 0, 3)]), 4, 9, (18#8 :: List.replicate 63 0#8), up_of (by decide),
      by decide +kernel⟩,
    ⟨(fun s : State =>
      { s with klc := { s.klc with job := some { owner := none, idx := 0, at_ := 64, bytes := [], abort := true } } })
      (wit .sender []), 9, { owner := none, idx := 0, at_ := 64, bytes := [], abort := true }, up_of (by decide),
      by decide +kernel⟩,
    ⟨(fun s : State =>
      { s with klc := { s.klc with job := some { owner := none, idx := 0, at_ := 64, bytes := [], status := some (2, 0), inDone := 4096, outDone := 3264 } } })
      (wit .sender [(R.MEM.CH_STAT.STATE 0, 3)]), 9,
      { owner := none, idx := 0, at_ := 64, bytes := [], status := some (2, 0), inDone := 4096, outDone := 3264 }, 2,
      0, up_of (by decide), by decide +kernel⟩,
    ⟨(fun s : State =>
      { s with klc := { s.klc with job := some { owner := none, idx := 0, at_ := 64, bytes := [], abort := true } } })
      (wit .sender []), 9, { owner := none, idx := 0, at_ := 64, bytes := [], abort := true }, up_of (by decide),
      by decide +kernel⟩⟩

theorem witness_CorrectionBanks :
    (∃ (s : State) (t : Nat) (x : Latch), s.up ∧ s.role = .tile ∧ s.cor.pass = some x ∧ (List.range s.views).all (fun
      v => s.cor.doneViews.contains v || s.scn.backDark.contains v) = true) ∧
    (∃ (s : State) (t : Nat), s.up ∧ s.role = .tile ∧ s.on R.COR.BANK_STAT.SYNCING ∧ s.cor.pass = none) ∧
    (∃ (s : State) (t : Nat), s.up ∧ s.role = .tile ∧ s.cor.copying = true) ∧
    (∃ (s : State) (o n v t : Nat), s.up ∧ s.role = .tile ∧ o < 0x400000 ∧ s.get R.COR.APER_CTRL.TARGET = 0 ∧ s.get
      R.COR.APER_OFS.OFS / 2 ^ 22 * 2 ^ 22 + o + n ≤ s.regions * 4096 ∧ s.regionBusy ((s.get R.COR.APER_OFS.OFS / 2 ^
      22 * 2 ^ 22 + o) / 4096) = false ∧ s.isTile = true ∧ (s.route (s.bankBase s.stagingBank + (s.get
      R.COR.APER_OFS.OFS / 2 ^ 22 * 2 ^ 22 + o))) = .copies [0] ∧ s.get R.PAR.CHK_CTRL.MODE ≠ 3) ∧
    (∃ (s : State) (o n v t : Nat), s.up ∧ s.role = .tile ∧ o < 0x400000 ∧ s.get R.COR.APER_CTRL.TARGET = 0 ∧ s.get
      R.COR.APER_OFS.OFS / 2 ^ 22 * 2 ^ 22 + o + n ≤ s.regions * 4096 ∧ s.on R.COR.BANK_STAT.SYNCING) :=
  ⟨⟨(fun s : State =>
      { s with cor := { s.cor with pass := some ⟨6, 0, [], 0, 0, 0, 0, 0, 0, 0, [], 0, [], [], [], 0, 0, []⟩, doneViews := [0, 1, 2, 3] } })
      (wit .tile []), 9, ⟨6, 0, [], 0, 0, 0, 0, 0, 0, 0, [], 0, [], [], [], 0, 0, []⟩, up_of (by decide),
      by decide +kernel⟩,
    ⟨wit .tile [(R.COR.BANK_STAT.SYNCING, 1)], 9, up_of (by decide), by decide +kernel⟩,
    ⟨(fun s : State => { s with cor := { s.cor with copying := true } }) (wit .tile [(R.COR.BANK_STAT.SYNCING, 1)]),
      9, up_of (by decide), by decide +kernel⟩,
    ⟨wit .tile [(R.MEM.CH_STAT.STATE 0, 3), (R.COR.APER_CTRL.TARGET, 0), (R.COR.GEOM.TW, 8), (R.COR.GEOM.TH, 8)], 16,
      4, 0x04030201, 9, up_of (by decide), by decide +kernel⟩,
    ⟨wit .tile [(R.COR.BANK_STAT.SYNCING, 1), (R.COR.APER_CTRL.TARGET, 0), (R.COR.GEOM.TW, 8), (R.COR.GEOM.TH, 8)],
      16, 4, 5, 9, up_of (by decide), by decide +kernel⟩⟩

theorem witness_UploadCommands :
    (∃ (s : State) (v t : Nat), s.up ∧ s.role = .tile ∧ bitsOf v 31 1 = 1 ∧ bitsOf v 3 1 = 0 ∧ s.cor.uploads.length <
      16) ∧
    (∃ (s : State) (t : Nat) (x : Upload) (r : List Upload), s.up ∧ s.role = .tile ∧ s.cor.uploads = x :: r ∧ x.op = 1
      ∧ x.status = 0 ∧ x.started = true ∧ s.frozen B.cor = false ∧ ((s.tick t).dramBytes 3 (s.upbuf + x.src + x.done *
      srcBytes 1) (srcBytes 1)).2.2 = false) ∧
    (∃ (s : State) (t : Nat) (x : Upload) (r : List Upload), s.up ∧ s.role = .tile ∧ s.cor.uploads = x :: r ∧ x.op = 2
      ∧ x.status = 0 ∧ x.started = true ∧ s.frozen B.cor = false ∧ ((s.tick t).dramBytes 3 (s.upbuf + x.src + x.done *
      srcBytes 2) (srcBytes 2)).2.2 = false) ∧
    (∃ (s : State) (t : Nat) (x : Upload) (r : List Upload), s.up ∧ s.role = .tile ∧ s.cor.uploads = x :: r ∧ x.op = 3
      ∧ x.status = 0 ∧ x.started = true ∧ s.frozen B.cor = false ∧ ((s.tick t).dramBytes 3 (s.upbuf + x.src + x.done *
      srcBytes 3) (srcBytes 3)).2.2 = false ∧ (unlossless80 (leNat ((s.tick t).dramBytes 3 (s.upbuf + x.src + x.done *
      srcBytes 3) (srcBytes 3)).2.1)).isSome) ∧
    (∃ (s : State) (t : Nat) (x : Upload) (r : List Upload), s.up ∧ s.role = .tile ∧ s.cor.uploads = x :: r ∧ x.op = 4
      ∧ x.status = 0 ∧ x.started = true ∧ s.frozen B.cor = false) ∧
    (∃ (s : State) (t : Nat) (x : Upload) (r : List Upload), s.up ∧ s.role = .tile ∧ s.cor.uploads = x :: r ∧ x.op = 1
      ∧ x.status ≠ 0) ∧
    (∃ (s : State) (t : Nat) (c d : Nat × Nat × Nat) (r : List (Nat × Nat × Nat)), s.up ∧ s.role = .tile ∧
      s.cor.completions = c :: d :: r) :=
  ⟨⟨wit .tile [], 0x80000701, 9, up_of (by decide), by decide +kernel⟩,
    ⟨(fun s : State =>
      { s with cor := { s.cor with uploads := [{ op := 1, id := 7, first := 0, count := 2, src := 0, started := true }] } })
      (wit .tile [(R.MEM.CH_STAT.STATE 0, 3)]), 9,
      { op := 1, id := 7, first := 0, count := 2, src := 0, started := true }, [], up_of (by decide),
      by decide +kernel, by decide +kernel, by decide +kernel, by decide +kernel, by decide +kernel,
      by decide +kernel, poison_blank (by decide +kernel) (by decide +kernel)⟩,
    ⟨(fun s : State =>
      { s with cor := { s.cor with uploads := [{ op := 2, id := 7, first := 0, count := 2, src := 0, started := true }] } })
      (wit .tile [(R.MEM.CH_STAT.STATE 0, 3)]), 9,
      { op := 2, id := 7, first := 0, count := 2, src := 0, started := true }, [], up_of (by decide),
      by decide +kernel, by decide +kernel, by decide +kernel, by decide +kernel, by decide +kernel,
      by decide +kernel, poison_blank (by decide +kernel) (by decide +kernel)⟩,
    ⟨(fun s : State =>
      { s with cor := { s.cor with uploads := [{ op := 3, id := 7, first := 0, count := 2, src := 0, started := true }] } })
      (wit .tile [(R.MEM.CH_STAT.STATE 0, 3)]), 9,
      { op := 3, id := 7, first := 0, count := 2, src := 0, started := true }, [], up_of (by decide),
      by decide +kernel, by decide +kernel, by decide +kernel, by decide +kernel, by decide +kernel,
      by decide +kernel, poison_blank (by decide +kernel) (by decide +kernel), decode_blank (by decide +kernel)
      (by decide +kernel)⟩,
    ⟨(fun s : State =>
      { s with cor := { s.cor with uploads := [{ op := 4, id := 7, first := 0, count := 2, src := 0, started := true }] } })
      (wit .tile [(R.MEM.CH_STAT.STATE 0, 3)]), 9,
      { op := 4, id := 7, first := 0, count := 2, src := 0, started := true }, [], up_of (by decide),
      by decide +kernel⟩,
    ⟨(fun s : State => { s with cor := { s.cor with uploads := [⟨1, 7, 0, 2, 0, 2, true, 1⟩] } }) (wit .tile []), 9,
      ⟨1, 7, 0, 2, 0, 2, true, 1⟩, [], up_of (by decide), by decide +kernel⟩,
    ⟨(fun s : State => { s with cor := { s.cor with completions := [(7, 1, 2), (8, 2, 0)] } }) (wit .tile []), 9, (7,
      1, 2), (8, 2, 0), [], up_of (by decide), by decide +kernel⟩⟩

theorem witness_ScanLoads :
    (∃ (s : State) (t : Nat), s.up ∧ s.role = .tile ∧ s.live B.scn ∧ s.enabled B.scn ∧ s.get R.SCN.SCN_STAT.GAP = 0 ∧
      s.dep.last.isSome ∧ (timetable s.scn.force).rbEn = 0) ∧
    (∃ (s : State) (t : Nat), s.up ∧ s.role = .tile ∧ s.live B.scn ∧ s.enabled B.scn ∧ s.get R.SCN.SCN_STAT.GAP = 0 ∧
      s.dep.last.isSome ∧ (timetable s.scn.force).rbEn = 1) ∧
    (∃ (s : State) (g : List (Nat × List Nat)) (t : Nat), s.up ∧ s.role = .tile ∧ s.get R.LFM.LFM_STAT.SUSPENDED = 0 ∧
      s.enabled B.lfm ∧ (timetable s.scn.force).rbEn ≠ 0 ∧ s.frozen B.lfm = false) ∧
    (∃ (s : State) (t : Nat) (x : Load), s.up ∧ s.role = .tile ∧ s.scnWorks ∧ s.modeCur.timing = 0 ∧ s.scn.flip =
      false ∧ s.scn.targetFree = true ∧ s.scn.loaded = some x) ∧
    (∃ (s : State) (t : Nat), s.up ∧ s.role = .tile ∧ s.scnWorks ∧ s.modeCur.timing = 0 ∧ s.scn.flip = false ∧
      s.scn.targetFree = true ∧ s.scn.loaded = none) ∧
    (∃ (s : State) (t : Nat), s.up ∧ s.role = .tile ∧ s.loadFree ∧ s.nextView ≠ 0) ∧
    (∃ (s : State) (t : Nat), s.up ∧ s.role = .tile ∧ s.loadFree ∧ s.nextView = 0 ∧ s.scn.backFrame = s.dep.last) ∧
    (∃ (s : State) (t : Nat) (x : Load), s.up ∧ s.role = .tile ∧ s.scn.load = some x ∧ x.view = 0) ∧
    (∃ (s : State) (t : Nat), s.up ∧ s.role = .tile ∧ s.loadFree ∧ s.nextView = 0) ∧
    (∃ (s : State) (t : Nat), s.up ∧ s.role = .tile ∧ s.live B.scn ∧ s.enabled B.scn ∧ s.get R.SCN.SCN_STAT.GAP = 0 ∧
      s.dep.last.isSome ∧ s.get R.SCN.SCN_STAT.ROW + 1 < s.scanS) :=
  ⟨⟨(fun s : State => { s with dep := { s.dep with loaded := true, last := some 6 } }) (wit .tile [(R.PG.EN B.scn,
      1)]), 9, up_of (by decide), by decide +kernel⟩,
    ⟨(fun s : State =>
      { s with dep := { s.dep with loaded := true, last := some 6 }, scn := { s.scn with force := writeBytes zeroB [] 0 (List.replicate 256 1#8) } })
      (wit .tile [(R.PG.EN B.scn, 1)]), 9, up_of (by decide), by decide +kernel⟩,
    ⟨(fun s : State => { s with scn := { s.scn with force := writeBytes zeroB [] 0 (List.replicate 256 1#8) } }) (wit
      .tile [(R.PG.EN B.lfm, 1)]), [(0, [1, 2])], 9, up_of (by decide), by decide +kernel⟩,
    ⟨(fun s : State =>
      { s with dep := { s.dep with loaded := true, last := some 6 }, scn := { s.scn with loaded := some ⟨0, 1, 6⟩ } })
      (wit .tile [(R.PG.EN B.scn, 1)]), 9, ⟨0, 1, 6⟩, up_of (by decide), by decide +kernel⟩,
    ⟨(fun s : State => { s with dep := { s.dep with loaded := true, last := some 6 } }) (wit .tile [(R.PG.EN B.scn,
      1)]), 9, up_of (by decide), by decide +kernel⟩,
    ⟨(fun s : State => { s with dep := { s.dep with loaded := true, last := some 6 } }) (wit .tile [(R.PG.EN B.scn,
      1), (R.DEP.MODE_CUR.VIEWS, 1)]), 9, up_of (by decide), by decide +kernel⟩,
    ⟨(fun s : State =>
      { s with dep := { s.dep with loaded := true, last := some 6 }, scn := { s.scn with backFrame := some 6 } }) (wit
      .tile [(R.PG.EN B.scn, 1)]), 9, up_of (by decide), by decide +kernel⟩,
    ⟨(fun s : State => { s with scn := { s.scn with load := some ⟨0, 1, 6⟩ } }) (wit .tile []), 9, ⟨0, 1, 6⟩, up_of
      (by decide), by decide +kernel⟩,
    ⟨(fun s : State => { s with dep := { s.dep with loaded := true, last := some 6 } }) (wit .tile [(R.PG.EN B.scn,
      1)]), 9, up_of (by decide), by decide +kernel⟩,
    ⟨(fun s : State => { s with dep := { s.dep with loaded := true, last := some 6 } }) (wit .tile [(R.PG.EN B.scn,
      1), (R.DEP.MODE_CUR.SCAN, 7)]), 9, up_of (by decide), by decide +kernel⟩⟩

theorem witness_BandsAndTimetable :
    (∃ (s : State) (b t : Nat), s.up ∧ s.role = .tile ∧ b < s.scn.bands.length ∧ s.modeCur.timing = 1 ∧ (s.band
      b).closed = false ∧ (s.band b).rows = []) ∧
    (∃ (s : State) (b t : Nat), s.up ∧ s.role = .tile ∧ b < s.scn.bands.length ∧ s.modeCur.timing = 1 ∧ s.scnWorks ∧
      (s.band b).closed = false ∧ (s.band b).rows ≠ [] ∧ (List.range s.scanS).all (fun r => (s.band b).rows.contains
      r)) ∧
    (∃ (s : State) (b t a : Nat), s.up ∧ s.role = .tile ∧ b < s.scn.bands.length ∧ s.modeCur.timing = 1 ∧ s.scnWorks ∧
      (s.band b).loadAt = some a ∧ a + 1500 ≤ max s.frc t ∧ (s.band b).reload = false) ∧
    (∃ (s : State) (t : Nat), s.up ∧ s.role = .tile) ∧
    (∃ (s : State) (t : Nat), s.up ∧ s.role = .tile ∧ s.on R.SCN.TT_STAT.CHECK_BUSY) ∧
    (∃ (s : State) (t : Nat), s.up ∧ s.role = .tile ∧ s.on R.SCN.TT_STAT.SYNCING ∧ s.scn.stalled = [] ∧
      s.scn.stalledCommit = false) :=
  ⟨⟨(fun s : State => { s with scn := { s.scn with bands := [{ rows := [], loadAt := none }] } }) (wit .tile
      [(R.DEP.MODE_CUR.TIMING, 1)]), 0, 9, up_of (by decide), by decide +kernel⟩,
    ⟨(fun s : State =>
      { s with dep := { s.dep with loaded := true, last := some 6 }, scn := { s.scn with bands := [{ rows := List.range 40 }] } })
      (wit .tile [(R.PG.EN B.scn, 1), (R.DEP.MODE_CUR.TIMING, 1)]), 0, 9, up_of (by decide), by decide +kernel⟩,
    ⟨(fun s : State =>
      { s with dep := { s.dep with loaded := true, last := some 6 }, scn := { s.scn with bands := [{ rows := [], loadAt := some 0 }] } })
      (wit .tile [(R.PG.EN B.scn, 1), (R.DEP.MODE_CUR.TIMING, 1)]), 0, 1500, 0, up_of (by decide), by decide +kernel⟩,
    ⟨wit .tile [], 9, up_of (by decide), by decide +kernel⟩,
    ⟨wit .tile [(R.SCN.TT_STAT.CHECK_BUSY, 1)], 9, up_of (by decide), by decide +kernel⟩,
    ⟨wit .tile [(R.SCN.TT_STAT.SYNCING, 1)], 9, up_of (by decide), by decide +kernel⟩⟩

theorem witness_RailStates :
    (∃ (s : State) (c mv ma t : Nat), s.up ∧ s.role = .tile ∧ c < 24 ∧ (s.railState c = Rail.softstart ∨ s.railState c
      = Rail.ready) ∧ s.frozen B.rai = false ∧ s.get (R.RCH.CH_STAT.SET_NOW c) < 2 ^ (R.RCH.CH_STAT.SET_NOW c).width) ∧
    (∃ (s : State) (c mv ma t : Nat), s.up ∧ s.role = .tile ∧ c < 24 ∧ s.railState c = Rail.softstart) ∧
    (∃ (s : State) (c mv t : Nat), s.up ∧ s.role = .tile ∧ c < 24 ∧ s.rai.discharging.contains c ∧ s.railState c =
      Rail.discharge ∧ s.cur (R.RCH.CH_CTRL.MODE c) = 0) ∧
    (∃ (s : State) (c mv ma t : Nat), s.up ∧ s.role = .tile ∧ c < 24 ∧ s.railState c = Rail.discharge) ∧
    (∃ (s : State) (c n mv ma t : Nat), s.up ∧ s.role = .tile ∧ c < 24 ∧ s.railState c = Rail.ready ∧ max 1 (s.cur
      (R.RCH.CH_SENSE.OC_CYC c)) ≤ n) ∧
    (∃ (s : State) (c mv ma t : Nat), s.up ∧ s.role = .tile ∧ c < 24 ∧ (s.railState c = Rail.softstart ∨ s.railState c
      = Rail.ready ∨ s.railState c = Rail.discharge)) ∧
    (∃ (s : State) (c mv ma t : Nat), s.up ∧ s.role = .tile ∧ c < 24 ∧ s.railState c = Rail.ready) ∧
    (∃ (s : State) (c mv ma t : Nat), s.up ∧ s.role = .tile ∧ c < 24 ∧ (s.railState c = Rail.softstart ∨ s.railState c
      = Rail.ready ∨ s.railState c = Rail.discharge)) ∧
    (∃ (s : State) (c t : Nat), s.up ∧ s.role = .tile ∧ c < 24 ∧ s.railState c = Rail.fault ∧ s.on
      (R.RCH.CH_STAT.DISCHARGED c) ∧ s.cur (R.RCH.CH_CTRL.MODE c) = 0) :=
  ⟨⟨wit .tile [(R.RCH.CH_STAT.STATE 5, 2), (R.RCH.CH_STAT.SET_NOW 5, 40)], 5, 3000, 10, 9, up_of (by decide),
      by decide +kernel⟩,
    ⟨wit .tile [(R.RCH.CH_STAT.STATE 5, 1)], 5, 3300, 20, 9, up_of (by decide), by decide +kernel⟩,
    ⟨(fun s : State => { s with rai := { s.rai with discharging := [5] } }) (wit .tile [(R.RCH.CH_STAT.STATE 5, 3)]),
      5, 30, 9, up_of (by decide), by decide +kernel⟩,
    ⟨wit .tile [(R.RCH.CH_STAT.STATE 5, 3)], 5, 900, 2, 9, up_of (by decide), by decide +kernel⟩,
    ⟨wit .tile [(R.RCH.CH_STAT.STATE 5, 2)], 5, 999, 900, 2, 9, up_of (by decide), by decide +kernel⟩,
    ⟨wit .tile [(R.RCH.CH_STAT.STATE 5, 2)], 5, 900, 2, 9, up_of (by decide), by decide +kernel⟩,
    ⟨wit .tile [(R.RCH.CH_STAT.STATE 5, 2)], 5, 900, 2, 9, up_of (by decide), by decide +kernel⟩,
    ⟨wit .tile [(R.RCH.CH_STAT.STATE 5, 2)], 5, 900, 2, 9, up_of (by decide), by decide +kernel⟩,
    ⟨wit .tile [(R.RCH.CH_STAT.STATE 5, 4), (R.RCH.CH_STAT.DISCHARGED 5, 1)], 5, 9, up_of (by decide),
      by decide +kernel⟩⟩

theorem witness_AuxAndLatches :
    (∃ (s : State) (k t : Nat), s.up ∧ s.on (auxEn k) ∧ s.on (auxOk k)) ∧
    (∃ (s : State) (k t : Nat), s.up ∧ s.on (auxEn k) ∧ s.on (auxLim k)) ∧
    (∃ (s : State) (m t : Nat), s.up ∧ s.role = .tile ∧ (List.range 64).all (fun z => s.zoneMode z == 0)) ∧
    (∃ (s : State) (m t z : Nat), s.up ∧ s.role = .tile ∧ z < 64 ∧ s.zoneMode z ≠ 0 ∧ s.zoneRailFault z ∧ s.frozen
      B.lfm = false ∧ s.live B.lfm ∧ s.bit64 R.LFM.LATCH_LO.ZONES R.LFM.LATCH_HI.ZONES z ∧ bitAt m z ∧ s.get
      R.LFM.LATCH_LO.ZONES < 2 ^ 32 ∧ s.get R.LFM.LATCH_HI.ZONES < 2 ^ 32) ∧
    (∃ (s : State) (o n v t : Nat), s.up ∧ s.role = .tile ∧ o + n ≤ s.faultBytes ∧ s.route (s.faultBase + o) = .copies
      [0] ∧ s.get R.PAR.CHK_CTRL.MODE ≠ 3 ∧ rangeEnds.all (fun e => !(decide (s.faultBase + o < e) && decide (e <
      s.faultBase + o + n)))) :=
  ⟨⟨wit .sender [(auxEn 1, 1), (auxOk 1, 1)], 1, 9, up_of (by decide), by decide +kernel⟩,
    ⟨wit .sender [(auxEn 1, 1), (auxLim 1, 1)], 1, 9, up_of (by decide), by decide +kernel⟩,
    ⟨wit .tile [(R.LFM.LATCH_LO.ZONES, 7)], 5, 9, up_of (by decide), by decide +kernel⟩,
    ⟨(fun s : State =>
      { s with force := [(R.ZON.ZONE_MODE.MODE 1, 1), (R.ZON.ZONE_XY1.X1 1, 255), (R.ZON.ZONE_XY1.Y1 1, 255), (R.RAI.RMAP.E0 0, 5)].foldl (fun l e => putD l e.1.key e.2 e.1.rst) s.force })
      (wit .tile [(R.LFM.LATCH_LO.ZONES, 7), (R.RCH.CH_STAT.STATE 5, 4), (R.COR.GEOM.TW, 8), (R.COR.GEOM.TH, 8)]), 2,
      9, 1, up_of (by decide), by decide +kernel⟩,
    ⟨wit .tile [(R.MEM.CH_STAT.STATE 0, 3), (R.COR.GEOM.TW, 8), (R.COR.GEOM.TH, 8)], 4, 4, 0x55, 9, up_of (by decide),
      by decide +kernel⟩⟩

theorem witness_ChannelTraining :
    (∃ (s : State) (c margin t : Nat), s.up ∧ c < 4 ∧ s.workingMargin c margin ∧ (s.fwu.mcUp = true ∨ (List.range
      4).any (fun k => k != c && s.chState k == Ch.train)) ∧ s.live (B.mem c) ∧ s.chState c = Ch.train ∧ s.chFrozen c
      = false ∧ s.on (R.MEM.CH_STAT.FILLED c) ∧ s.mem.resilver.contains c = false ∧ s.mem.toSelfRefresh.contains c =
      false) ∧
    (∃ (s : State) (c margin t : Nat), s.up ∧ c < 4 ∧ s.workingMargin c margin ∧ (s.fwu.mcUp = true ∨ (List.range
      4).any (fun k => k != c && s.chState k == Ch.train)) ∧ s.chState c = Ch.train ∧ s.chFrozen c = false ∧ s.get
      (R.MEM.CH_STAT.FILLED c) = 0 ∧ s.mem.toSelfRefresh.contains c = false) ∧
    (∃ (s : State) (c t : Nat), s.up ∧ c < 4 ∧ (s.fwu.mcUp = true ∨ (List.range 4).any (fun k => k != c && s.chState k
      == Ch.train)) ∧ s.live (B.mem c) ∧ s.chState c = Ch.train) ∧
    (∃ (s : State) (c t : Nat), s.up ∧ c < 4 ∧ s.live (B.mem c) ∧ s.chState c = Ch.fill ∧ s.chFrozen c = false ∧
      s.mem.resilver.contains c = false ∧ s.mem.toSelfRefresh.contains c = false) ∧
    (∃ (s : State) (c t : Nat), s.up ∧ c < 2 ∧ s.live (B.mem c) ∧ s.chState c = Ch.fill ∧ s.chFrozen c = false ∧
      s.mem.resilver.contains c ∧ s.mem.toSelfRefresh.contains c = false ∧ s.on (R.MEM.CH_STAT.FILLED c)) ∧
    (∃ (s : State) (c t : Nat), s.up ∧ c < 4 ∧ s.chUp c ∧ (s.tick t).retrainDue c ∧ s.mem.retraining.contains c =
      false) ∧
    (∃ (s : State) (c m t : Nat), s.up ∧ c < 4 ∧ s.workingMargin c m ∧ s.live (B.mem c) ∧ s.mem.retraining.contains c
      ∧ s.chState c = Ch.ready) ∧
    (∃ (s : State) (c m t : Nat), s.up ∧ c < 4 ∧ s.workingMargin c m = false ∧ s.live (B.mem c) ∧
      s.mem.retraining.contains c ∧ s.chState c = Ch.ready) ∧
    (∃ (s : State) (c t : Nat), s.up ∧ c < 4 ∧ s.chUp c ∧ s.mem.wanted.contains c = false) :=
  ⟨⟨wit .sender [(R.MEM.CH_STAT.STATE 1, 1), (R.MEM.CH_STAT.FILLED 1, 1)], 1, 40, 9, up_of (by decide),
      by decide +kernel⟩,
    ⟨wit .sender [(R.MEM.CH_STAT.STATE 1, 1), (R.MEM.CH_STAT.FILLED 1, 0)], 1, 40, 9, up_of (by decide),
      by decide +kernel⟩,
    ⟨wit .sender [(R.MEM.CH_STAT.STATE 1, 1)], 1, 9, up_of (by decide), by decide +kernel⟩,
    ⟨wit .sender [(R.MEM.CH_STAT.STATE 1, 2)], 1, 9, up_of (by decide), by decide +kernel⟩,
    ⟨(fun s : State => { s with mem := { s.mem with resilver := [1] } }) (wit .tile [(R.MEM.CH_STAT.STATE 1, 2),
      (R.MEM.CH_STAT.FILLED 1, 1)]), 1, 9, up_of (by decide), by decide +kernel⟩,
    ⟨(fun s : State => { s with mem := { s.mem with wanted := [1] } }) (wit .sender [(R.MEM.CH_STAT.STATE 1, 3)]), 1,
      9, up_of (by decide), by decide +kernel⟩,
    ⟨(fun s : State => { s with mem := { s.mem with retraining := [1] } }) (wit .sender [(R.MEM.CH_STAT.STATE 1, 3)]),
      1, 40, 9, up_of (by decide), by decide +kernel⟩,
    ⟨(fun s : State => { s with mem := { s.mem with retraining := [1] } }) (wit .sender [(R.MEM.CH_STAT.STATE 1, 3)]),
      1, 5, 9, up_of (by decide), by decide +kernel⟩,
    ⟨wit .sender [(R.MEM.CH_STAT.STATE 1, 4)], 1, 9, up_of (by decide), by decide +kernel⟩⟩

theorem witness_ChannelStates :
    (∃ (s : State) (c t : Nat), s.up ∧ s.role = .sender ∧ c < 4 ∧ s.chState c = Ch.ready ∧ s.chFrozen c = false) ∧
    (∃ (s : State) (c t : Nat), s.up ∧ c < 4 ∧ s.live (B.mem c) ∧ s.chState c ≠ Ch.ready ∧ s.get (R.PG.ERR_VALID
      (B.mem c)) = 0) ∧
    (∃ (s : State) (c t : Nat), s.up ∧ s.role = .sender ∧ c < 4 ∧ s.chState c = Ch.selfRefresh ∧ (s.tick t).retrainDue
      c) ∧
    (∃ (s : State) (c t : Nat), s.up ∧ c < 4 ∧ s.live (B.mem c) ∧ s.chUp c) ∧
    (∃ (s : State) (c t : Nat), s.up ∧ c < 4 ∧ s.chState c = Ch.offline) ∧
    (∃ (s : State) (c t : Nat), s.up ∧ s.role = .sender ∧ c < 4 ∧ s.chState c = Ch.ready ∧ s.chFrozen c = false ∧
      s.portsQuiet ∧ (List.range 4).all (fun o => o == c || s.chState o == Ch.selfRefresh || s.chState o ==
      Ch.offline)) ∧
    (∃ (s : State) (c : Nat) (bad : Option Nat) (t : Nat), s.up ∧ c < 4 ∧ s.get (R.MEM.BIST_STAT.RESULT c) = 1 ∧
      s.chState c ≠ Ch.offline ∧ s.live (B.mem c)) :=
  ⟨⟨wit .sender [(R.MEM.CH_STAT.STATE 1, 3)], 1, 9, up_of (by decide), by decide +kernel⟩,
    ⟨wit .sender [(R.MEM.CH_STAT.STATE 1, 4)], 1, 9, up_of (by decide), by decide +kernel⟩,
    ⟨(fun s : State => { s with mem := { s.mem with wanted := [1] } }) (wit .sender [(R.MEM.CH_STAT.STATE 1, 5)]), 1,
      9, up_of (by decide), by decide +kernel⟩,
    ⟨wit .sender [(R.MEM.CH_STAT.STATE 1, 3)], 1, 9, up_of (by decide), by decide +kernel⟩,
    ⟨wit .sender [(R.MEM.CH_STAT.STATE 1, 6)], 1, 9, up_of (by decide), by decide +kernel⟩,
    ⟨wit .sender [(R.MEM.CH_STAT.STATE 1, 3), (R.MEM.CH_STAT.STATE 0, 6), (R.MEM.CH_STAT.STATE 2, 6),
      (R.MEM.CH_STAT.STATE 3, 5)], 1, 9, up_of (by decide), by decide +kernel⟩,
    ⟨wit .sender [(R.MEM.BIST_STAT.RESULT 1, 1)], 1, (some 64), 9, up_of (by decide), by decide +kernel⟩⟩

theorem witness_MemoryAccess :
    (∃ (s : State) (port a n v lat : Nat) (fwd stall : Bool) (t : Nat) (l : List Nat), s.up ∧ s.route a = .copies l ∧
      s.get R.PAR.CHK_CTRL.MODE ≠ 3 ∧ rangeEnds.all (fun e => !(decide (a < e) && decide (e < a + n)))) ∧
    (∃ (s : State) (port a t c : Nat), s.up ∧ s.route a = .copies [c] ∧ a % 8 = 0 ∧ s.parMask a c = 0 ∧ s.role =
      .sender) ∧
    (∃ (s : State) (b array o bytes loc t : Nat), s.up ∧ s.live b ∧ b % 0x1000 = 0 ∧ s.live B.par ∧ b ≠ B.par ∧ s.get
      (R.PG.ERR_VALID b) = 0) ∧
    (∃ (s : State) (array o bytes loc t k q : Nat) (f : RecvFrame) (a : Nat) (r : List Nat), s.up ∧ s.role = .sender ∧
      k < 32 ∧ k < s.ing.slots.length ∧ (s.slot k).recv = [f] ∧ f.a.any (fun e => e.1 == unwrapSeq (s.slot
      k).legA.last q) ∧ (f.a.filter (fun e => unwrapSeq (s.slot k).legA.last q < e.1)).map (·.2) = a :: r) ∧
    (∃ (s : State) (t base n : Nat), s.up ∧ s.on R.PAR.PAT_CTRL.EN ∧ s.works B.par ∧ s.patWalk[s.mem.patBank]? = some
      (base, n) ∧ s.mem.patRegion + 1 < n) ∧
    (∃ (s : State) (t : Nat), s.up) :=
  ⟨⟨wit .sender [(R.MEM.CH_STAT.STATE 0, 3)], 2, 4096, 8, 0x1122, 30, true, false, 9, [0], up_of (by decide),
      by decide +kernel⟩,
    ⟨(fun s : State => { s with mem := { s.mem with dram := [(4097, 7#8)] } }) (wit .sender [(R.MEM.CH_STAT.STATE 0,
      3)]), 2, 4096, 9, 0, up_of (by decide), by decide +kernel⟩,
    ⟨wit .sender [], 0x60000, 1, 3, 1, 17, 9, up_of (by decide), by decide +kernel⟩,
    ⟨(fun s : State => s.setSlot 2
      { s.slot 2 with recv := [{ ts := 7, buf := some 0, a := [(5, 1), (6, 2)] }], legA := { last := some 6 } }) (wit
      .sender []), 1, 3, 1, 17, 9, 2, 5, { ts := 7, buf := some 0, a := [(5, 1), (6, 2)] }, 2, [], up_of (by decide),
      by decide +kernel⟩,
    ⟨wit .sender [(R.PAR.PAT_CTRL.EN, 1), (R.PG.EN B.par, 1), (R.PAR.PAT_SIZE.MIB, 1), (R.MEM.CH_STAT.STATE 0, 3)], 9,
      0, 256, up_of (by decide), by decide +kernel⟩,
    ⟨wit .sender [(R.PAR.PAT_BAD.VALID, 1), (R.PAR.PAT_BAD.REGION, 9)], 9, up_of (by decide)⟩⟩

theorem witness_HostAccess :
    (∃ (s : State) (fn t : Nat), s.up ∧ fn < 16 ∧ s.pcieUp ∧ s.barOk fn 0x8120 false ∧ s.get R.TIM.SLEW_MAX.V < 2 ^
      16) ∧
    (∃ (s : State) (fn v t : Nat), s.up ∧ fn < 16 ∧ s.pcieUp ∧ s.barOk fn 0x8120 true) ∧
    (∃ (s : State) (fn t : Nat), s.up ∧ fn < 16 ∧ s.pcieUp ∧ s.barOk fn 0x8120 true = false) ∧
    (∃ (s : State) (fn q tail t : Nat), s.up ∧ fn < 16 ∧ q < 8192 ∧ tail < 4096 ∧ s.pcieUp ∧ s.qOwner q = fn ∧ tail <
      s.qSize q) ∧
    (∃ (s : State) (fn q tail t : Nat), s.up ∧ fn < 16 ∧ q < 8192 ∧ s.pcieUp ∧ s.qOwner q ≠ fn) ∧
    (∃ (s : State) (q : Nat) (l : List (BitVec 8)) (t : Nat), s.up ∧ q < 8192 ∧ s.fnUp (s.qOwner q) ∧ l.length = 64 ∧
      s.pcieUp ∧ s.works B.que ∧ s.on (R.QCX.Q_CTRL.EN q) ∧ s.get (R.QCX.Q_FETCH.IDX q) ≠ s.get (R.QCX.Q_TAIL.IDX q) ∧
      s.get (R.QCX.Q_INFLIGHT.COUNT q) < 64 ∧ s.descLegal ⟨q, s.get (R.QCX.Q_FETCH.IDX q), l, s.get
      R.TEN.RULE_EPOCH.EPOCH, 0, [], false, none, none⟩ ∧ s.descOk ⟨q, s.get (R.QCX.Q_FETCH.IDX q), l, s.get
      R.TEN.RULE_EPOCH.EPOCH, 0, [], false, none, none⟩) ∧
    (∃ (s : State) (q : Nat) (l : List (BitVec 8)) (poison : Bool) (t : Nat), s.up ∧ q < 8192 ∧ s.fnUp (s.qOwner q) ∧
      s.pcieUp ∧ s.works B.que ∧ s.on (R.QCX.Q_CTRL.EN q) ∧ s.get (R.QCX.Q_FETCH.IDX q) ≠ s.get (R.QCX.Q_TAIL.IDX q) ∧
      s.get (R.QCX.Q_INFLIGHT.COUNT q) < 64) :=
  ⟨⟨wit .sender [], 0, 9, up_of (by decide), by decide +kernel⟩,
    ⟨wit .sender [], 0, 65537, 9, up_of (by decide), by decide +kernel⟩,
    ⟨wit .sender [], 3, 9, up_of (by decide), by decide +kernel⟩,
    ⟨wit .sender [(R.QCX.Q_CTRL.SIZE_EXP 7, 4), (R.QCX.Q_CTRL.OWNER 7, 2)], 2, 7, 15, 9, up_of (by decide),
      by decide +kernel⟩,
    ⟨wit .sender [(R.QCX.Q_CTRL.OWNER 7, 2)], 1, 7, 15, 9, up_of (by decide), by decide +kernel⟩,
    ⟨wit .sender [(R.PG.EN B.que, 1), (R.QCX.Q_CTRL.EN 7, 1), (R.QCX.Q_CTRL.SIZE_EXP 7, 4), (R.QCX.Q_CTRL.CLASS 7, 0),
      (R.TEN.RULE_EPOCH.EPOCH, 0), (R.QCX.Q_TAIL.IDX 7, 1)], 7, (toBytes 64 (1 + 0x8120 * 2 ^ 64 + 2 ^ 128)), 9, up_of
      (by decide), by decide +kernel⟩,
    ⟨wit .sender [(R.PG.EN B.que, 1), (R.QCX.Q_CTRL.EN 7, 1), (R.QCX.Q_CTRL.SIZE_EXP 7, 4), (R.QCX.Q_CTRL.CLASS 7, 0),
      (R.TEN.RULE_EPOCH.EPOCH, 0), (R.QCX.Q_TAIL.IDX 7, 1)], 7, (List.replicate 64 0#8), false, 9, up_of (by decide),
      by decide +kernel⟩⟩

theorem witness_RemoteDescriptors :
    (∃ (s : State) (q idx t : Nat) (d : Desc), s.up ∧ s.role = .sender ∧ q < 8192 ∧ s.works B.que ∧ s.qClass q = 0 ∧
      s.desc q idx = some d ∧ d.op = 1 ∧ s.dispatchable q idx ∧ s.myTurn q ∧ d.epoch = s.get R.TEN.RULE_EPOCH.EPOCH ∧
      stopOf d.addr ≠ 0 ∧ s.badAddress d.addr d.op = false ∧ s.lineRoom (portOf d.addr) (stopOf d.addr)) ∧
    (∃ (s : State) (q idx t : Nat) (d : Desc), s.up ∧ s.role = .sender ∧ q < 8192 ∧ s.works B.que ∧ s.qClass q = 0 ∧
      s.desc q idx = some d ∧ d.op = 2 ∧ s.dispatchable q idx ∧ s.myTurn q ∧ d.epoch = s.get R.TEN.RULE_EPOCH.EPOCH ∧
      stopOf d.addr ≠ 0 ∧ s.badAddress d.addr d.op = false ∧ s.lineRoom (portOf d.addr) (stopOf d.addr)) ∧
    (∃ (s : State) (q idx t : Nat) (d : Desc), s.up ∧ s.role = .sender ∧ q < 8192 ∧ s.works B.que ∧ s.qClass q = 0 ∧
      s.desc q idx = some d ∧ d.op = 3 ∧ s.dispatchable q idx ∧ s.myTurn q ∧ d.epoch = s.get R.TEN.RULE_EPOCH.EPOCH ∧
      stopOf d.addr ≠ 0 ∧ s.badAddress d.addr d.op = false ∧ s.lineRoom (portOf d.addr) (stopOf d.addr)) ∧
    (∃ (s : State) (q idx t : Nat) (d : Desc), s.up ∧ s.role = .sender ∧ q < 8192 ∧ s.works B.que ∧ s.qClass q = 0 ∧
      s.desc q idx = some d ∧ d.op = 4 ∧ s.dispatchable q idx ∧ s.myTurn q ∧ d.epoch = s.get R.TEN.RULE_EPOCH.EPOCH ∧
      stopOf d.addr ≠ 0 ∧ s.badAddress d.addr d.op = false ∧ s.lineRoom (portOf d.addr) (stopOf d.addr)) ∧
    (∃ (s : State) (q idx : Nat) (l : List (BitVec 8)) (t : Nat) (d : Desc), s.up ∧ s.role = .sender ∧ q < 8192 ∧
      s.works B.que ∧ s.qClass q = 3 ∧ s.desc q idx = some d ∧ d.op = 5 ∧ s.dispatchable q idx ∧ s.myTurn q ∧ d.epoch
      = s.get R.TEN.RULE_EPOCH.EPOCH ∧ d.len ≠ 0 ∧ d.answers = [] ∧ stopOf d.addr ≠ 0 ∧ s.badAddress d.addr 2 = false
      ∧ s.lineRoom (portOf d.addr) (stopOf d.addr)) ∧
    (∃ (s : State) (q idx t : Nat) (d : Desc), s.up ∧ s.role = .sender ∧ q < 8192 ∧ s.works B.que ∧ s.qClass q = 5 ∧
      s.desc q idx = some d ∧ d.op = 2 ∧ s.dispatchable q idx ∧ s.myTurn q ∧ d.epoch = s.get R.TEN.RULE_EPOCH.EPOCH ∧
      stopOf d.addr ≠ 0 ∧ s.badAddress d.addr 2 = false ∧ s.lineRoom (portOf d.addr) (stopOf d.addr) ∧ (s.lineTx
      (portOf d.addr)).txns = [] ∧ stopOf d.addr ≠ 255 ∧ (s.lineTx (portOf d.addr)).held = []) ∧
    (∃ (s : State) (q idx t : Nat) (d : Desc), s.up ∧ s.role = .sender ∧ q < 8192 ∧ s.works B.que ∧ s.qClass q = 5 ∧
      s.desc q idx = some d ∧ d.op = 6 ∧ s.dispatchable q idx ∧ s.myTurn q ∧ d.epoch = s.get R.TEN.RULE_EPOCH.EPOCH ∧
      stopOf d.addr ≠ 0 ∧ s.badAddress d.addr 2 = false ∧ s.lineRoom (portOf d.addr) (stopOf d.addr) ∧ (s.lineTx
      (portOf d.addr)).txns = [] ∧ stopOf d.addr ≠ 255 ∧ (s.lineTx (portOf d.addr)).held = []) :=
  ⟨⟨(fun s : State =>
      { s with que := { s.que with descs := [⟨7, 0, toBytes 64 (1 + (0x8120 + 3 * 2 ^ 25) * 2 ^ 64 + 2 ^ 128 + 0xFF * 2 ^ 160 + 77 * 2 ^ 192), 0, 0, [], false, none, none⟩] } })
      (wit .sender [(R.PG.EN B.que, 1), (R.QCX.Q_CTRL.EN 7, 1), (R.QCX.Q_CTRL.SIZE_EXP 7, 4), (R.QCX.Q_CTRL.CLASS 7,
      0), (R.TEN.RULE_EPOCH.EPOCH, 0), (R.LNK.PORT_STAT.STAGE 0, 5), (R.LNE.LNE_STAT.N 0, 9)]), 7, 0, 9, ⟨7, 0,
      toBytes 64 (1 + (0x8120 + 3 * 2 ^ 25) * 2 ^ 64 + 2 ^ 128 + 0xFF * 2 ^ 160 + 77 * 2 ^ 192), 0, 0, [], false,
      none, none⟩, up_of (by decide), by decide +kernel⟩,
    ⟨(fun s : State =>
      { s with que := { s.que with descs := [⟨7, 0, toBytes 64 (2 + (0x8120 + 3 * 2 ^ 25) * 2 ^ 64 + 2 ^ 128 + 0xFF * 2 ^ 160 + 77 * 2 ^ 192), 0, 0, [], false, none, none⟩] } })
      (wit .sender [(R.PG.EN B.que, 1), (R.QCX.Q_CTRL.EN 7, 1), (R.QCX.Q_CTRL.SIZE_EXP 7, 4), (R.QCX.Q_CTRL.CLASS 7,
      0), (R.TEN.RULE_EPOCH.EPOCH, 0), (R.LNK.PORT_STAT.STAGE 0, 5), (R.LNE.LNE_STAT.N 0, 9)]), 7, 0, 9, ⟨7, 0,
      toBytes 64 (2 + (0x8120 + 3 * 2 ^ 25) * 2 ^ 64 + 2 ^ 128 + 0xFF * 2 ^ 160 + 77 * 2 ^ 192), 0, 0, [], false,
      none, none⟩, up_of (by decide), by decide +kernel⟩,
    ⟨(fun s : State =>
      { s with que := { s.que with descs := [⟨7, 0, toBytes 64 (3 + (0x8120 + 3 * 2 ^ 25) * 2 ^ 64 + 2 ^ 128 + 0xFF * 2 ^ 160 + 77 * 2 ^ 192), 0, 0, [], false, none, none⟩] } })
      (wit .sender [(R.PG.EN B.que, 1), (R.QCX.Q_CTRL.EN 7, 1), (R.QCX.Q_CTRL.SIZE_EXP 7, 4), (R.QCX.Q_CTRL.CLASS 7,
      0), (R.TEN.RULE_EPOCH.EPOCH, 0), (R.LNK.PORT_STAT.STAGE 0, 5), (R.LNE.LNE_STAT.N 0, 9)]), 7, 0, 9, ⟨7, 0,
      toBytes 64 (3 + (0x8120 + 3 * 2 ^ 25) * 2 ^ 64 + 2 ^ 128 + 0xFF * 2 ^ 160 + 77 * 2 ^ 192), 0, 0, [], false,
      none, none⟩, up_of (by decide), by decide +kernel⟩,
    ⟨(fun s : State =>
      { s with que := { s.que with descs := [⟨7, 0, toBytes 64 (4 + (0x8120 + 3 * 2 ^ 25) * 2 ^ 64 + 2 ^ 128 + 0xFF * 2 ^ 160 + 77 * 2 ^ 192), 0, 0, [], false, none, none⟩] } })
      (wit .sender [(R.PG.EN B.que, 1), (R.QCX.Q_CTRL.EN 7, 1), (R.QCX.Q_CTRL.SIZE_EXP 7, 4), (R.QCX.Q_CTRL.CLASS 7,
      0), (R.TEN.RULE_EPOCH.EPOCH, 0), (R.LNK.PORT_STAT.STAGE 0, 5), (R.LNE.LNE_STAT.N 0, 9)]), 7, 0, 9, ⟨7, 0,
      toBytes 64 (4 + (0x8120 + 3 * 2 ^ 25) * 2 ^ 64 + 2 ^ 128 + 0xFF * 2 ^ 160 + 77 * 2 ^ 192), 0, 0, [], false,
      none, none⟩, up_of (by decide), by decide +kernel⟩,
    ⟨(fun s : State =>
      { s with que := { s.que with descs := [⟨7, 0, toBytes 64 (5 + (0xC00040 + 3 * 2 ^ 25) * 2 ^ 64 + 64 * 2 ^ 128), 0, 0, [], false, none, none⟩] } })
      (wit .sender [(R.PG.EN B.que, 1), (R.QCX.Q_CTRL.EN 7, 1), (R.QCX.Q_CTRL.SIZE_EXP 7, 4), (R.QCX.Q_CTRL.CLASS 7,
      3), (R.TEN.RULE_EPOCH.EPOCH, 0), (R.LNK.PORT_STAT.STAGE 0, 5), (R.LNE.LNE_STAT.N 0, 9)]), 7, 0, (List.replicate
      32 1#8), 9, ⟨7, 0, toBytes 64 (5 + (0xC00040 + 3 * 2 ^ 25) * 2 ^ 64 + 64 * 2 ^ 128), 0, 0, [], false, none,
      none⟩, up_of (by decide), by decide +kernel⟩,
    ⟨(fun s : State =>
      { s with que := { s.que with descs := [⟨7, 0, toBytes 64 (2 + (3 * 2 ^ 25) * 2 ^ 64 + 5 * 2 ^ 128 + 8 * 2 ^ 160), 0, 0, [], false, none, none⟩] } })
      (wit .sender [(R.PG.EN B.que, 1), (R.QCX.Q_CTRL.EN 7, 1), (R.QCX.Q_CTRL.SIZE_EXP 7, 4), (R.QCX.Q_CTRL.CLASS 7,
      5), (R.TEN.RULE_EPOCH.EPOCH, 0), (R.LNK.PORT_STAT.STAGE 0, 5), (R.LNE.LNE_STAT.N 0, 9)]), 7, 0, 9, ⟨7, 0,
      toBytes 64 (2 + (3 * 2 ^ 25) * 2 ^ 64 + 5 * 2 ^ 128 + 8 * 2 ^ 160), 0, 0, [], false, none, none⟩, up_of
      (by decide), by decide +kernel⟩,
    ⟨(fun s : State =>
      { s with que := { s.que with descs := [⟨7, 0, toBytes 64 (6 + (3 * 2 ^ 25) * 2 ^ 64 + 5 * 2 ^ 128 + 8 * 2 ^ 160), 0, 0, [], false, none, none⟩] } })
      (wit .sender [(R.PG.EN B.que, 1), (R.QCX.Q_CTRL.EN 7, 1), (R.QCX.Q_CTRL.SIZE_EXP 7, 4), (R.QCX.Q_CTRL.CLASS 7,
      5), (R.TEN.RULE_EPOCH.EPOCH, 0), (R.LNK.PORT_STAT.STAGE 0, 5), (R.LNE.LNE_STAT.N 0, 9)]), 7, 0, 9, ⟨7, 0,
      toBytes 64 (6 + (3 * 2 ^ 25) * 2 ^ 64 + 5 * 2 ^ 128 + 8 * 2 ^ 160), 0, 0, [], false, none, none⟩, up_of
      (by decide), by decide +kernel⟩⟩

theorem witness_LocalDescriptors :
    (∃ (s : State) (q idx t : Nat) (d : Desc), s.up ∧ s.role = .sender ∧ q < 8192 ∧ s.works B.que ∧ s.qClass q = 1 ∧
      s.desc q idx = some d ∧ d.op = 1 ∧ s.dispatchable q idx ∧ s.myTurn q ∧ d.epoch = s.get R.TEN.RULE_EPOCH.EPOCH ∧
      locOf d.addr = 0x71104 ∧ d.len = 1 ∧ s.get (R.LAY.L_DST_XY.DX 0) < 2 ^ 15 ∧ s.get (R.LAY.L_DST_XY.DY 0) < 2 ^
      15) ∧
    (∃ (s : State) (q idx t : Nat) (d : Desc), s.up ∧ s.role = .sender ∧ q < 8192 ∧ s.works B.que ∧ s.qClass q = 1 ∧
      s.desc q idx = some d ∧ d.op = 2 ∧ s.dispatchable q idx ∧ s.myTurn q ∧ d.epoch = s.get R.TEN.RULE_EPOCH.EPOCH ∧
      locOf d.addr = 0x71104 ∧ d.len = 1) ∧
    (∃ (s : State) (q idx t : Nat) (d : Desc), s.up ∧ s.role = .sender ∧ q < 8192 ∧ s.works B.que ∧ s.qClass q = 1 ∧
      s.desc q idx = some d ∧ d.op = 3 ∧ s.dispatchable q idx ∧ s.myTurn q ∧ d.epoch = s.get R.TEN.RULE_EPOCH.EPOCH ∧
      locOf d.addr = 0x71104 ∧ d.len = 1 ∧ d.le 20 4 = 0x7FFF) ∧
    (∃ (s : State) (q idx t : Nat) (d : Desc), s.up ∧ s.role = .sender ∧ q < 8192 ∧ s.works B.que ∧ s.qClass q = 2 ∧
      s.desc q idx = some d ∧ d.op = 2 ∧ s.dispatchable q idx ∧ s.myTurn q ∧ d.epoch = s.get R.TEN.RULE_EPOCH.EPOCH ∧
      d.addr + 4 * d.len ≤ 0x200000 ∧ d.addr % 4 = 0 ∧ d.len = 1 ∧ s.get R.MAP.CARD_STAT.SYNCING = 0) ∧
    (∃ (s : State) (q idx : Nat) (l : List (BitVec 8)) (t : Nat) (d : Desc), s.up ∧ s.role = .sender ∧ q < 8192 ∧
      s.works B.que ∧ s.qClass q = 2 ∧ s.desc q idx = some d ∧ d.op = 5 ∧ s.dispatchable q idx ∧ s.myTurn q ∧ d.epoch
      = s.get R.TEN.RULE_EPOCH.EPOCH ∧ d.addr + d.len ≤ 0x200000 ∧ d.addr % 4 = 0 ∧ l.length = d.len) ∧
    (∃ (s : State) (q t : Nat), s.up ∧ s.role = .sender ∧ q < 8192 ∧ s.que.descs = []) ∧
    (∃ (s : State) (q t : Nat) (d : Desc), s.up ∧ s.role = .sender ∧ q < 8192 ∧ s.que.descs = [d] ∧ d.q = q ∧ d.result
      = none ∧ d.dispatched = false ∧ d.stop = none ∧ d.sent = 0) :=
  ⟨⟨(fun s : State =>
      { s with que := { s.que with descs := [⟨7, 0, toBytes 64 (1 + 0x71104 * 2 ^ 64 + 2 ^ 128 + 0x7FFF * 2 ^ 160 + 77 * 2 ^ 192), 0, 0, [], false, none, none⟩] } })
      (wit .sender [(R.PG.EN B.que, 1), (R.QCX.Q_CTRL.EN 7, 1), (R.QCX.Q_CTRL.SIZE_EXP 7, 4), (R.QCX.Q_CTRL.CLASS 7,
      1), (R.TEN.RULE_EPOCH.EPOCH, 0)]), 7, 0, 9, ⟨7, 0, toBytes 64 (1 + 0x71104 * 2 ^ 64 + 2 ^ 128 + 0x7FFF * 2 ^ 160
      + 77 * 2 ^ 192), 0, 0, [], false, none, none⟩, up_of (by decide), by decide +kernel⟩,
    ⟨(fun s : State =>
      { s with que := { s.que with descs := [⟨7, 0, toBytes 64 (2 + 0x71104 * 2 ^ 64 + 2 ^ 128 + 0x7FFF * 2 ^ 160 + 77 * 2 ^ 192), 0, 0, [], false, none, none⟩] } })
      (wit .sender [(R.PG.EN B.que, 1), (R.QCX.Q_CTRL.EN 7, 1), (R.QCX.Q_CTRL.SIZE_EXP 7, 4), (R.QCX.Q_CTRL.CLASS 7,
      1), (R.TEN.RULE_EPOCH.EPOCH, 0)]), 7, 0, 9, ⟨7, 0, toBytes 64 (2 + 0x71104 * 2 ^ 64 + 2 ^ 128 + 0x7FFF * 2 ^ 160
      + 77 * 2 ^ 192), 0, 0, [], false, none, none⟩, up_of (by decide), by decide +kernel⟩,
    ⟨(fun s : State =>
      { s with que := { s.que with descs := [⟨7, 0, toBytes 64 (3 + 0x71104 * 2 ^ 64 + 2 ^ 128 + 0x7FFF * 2 ^ 160 + 77 * 2 ^ 192), 0, 0, [], false, none, none⟩] } })
      (wit .sender [(R.PG.EN B.que, 1), (R.QCX.Q_CTRL.EN 7, 1), (R.QCX.Q_CTRL.SIZE_EXP 7, 4), (R.QCX.Q_CTRL.CLASS 7,
      1), (R.TEN.RULE_EPOCH.EPOCH, 0)]), 7, 0, 9, ⟨7, 0, toBytes 64 (3 + 0x71104 * 2 ^ 64 + 2 ^ 128 + 0x7FFF * 2 ^ 160
      + 77 * 2 ^ 192), 0, 0, [], false, none, none⟩, up_of (by decide), by decide +kernel⟩,
    ⟨(fun s : State =>
      { s with que := { s.que with descs := [⟨7, 0, toBytes 64 (2 + 0x40 * 2 ^ 64 + 2 ^ 128 + 77 * 2 ^ 192), 0, 0, [], false, none, none⟩] } })
      (wit .sender [(R.PG.EN B.que, 1), (R.QCX.Q_CTRL.EN 7, 1), (R.QCX.Q_CTRL.SIZE_EXP 7, 4), (R.QCX.Q_CTRL.CLASS 7,
      2), (R.TEN.RULE_EPOCH.EPOCH, 0)]), 7, 0, 9, ⟨7, 0, toBytes 64 (2 + 0x40 * 2 ^ 64 + 2 ^ 128 + 77 * 2 ^ 192), 0,
      0, [], false, none, none⟩, up_of (by decide), by decide +kernel⟩,
    ⟨(fun s : State =>
      { s with que := { s.que with descs := [⟨7, 0, toBytes 64 (5 + 0x40 * 2 ^ 64 + 64 * 2 ^ 128), 0, 0, [], false, none, none⟩] } })
      (wit .sender [(R.PG.EN B.que, 1), (R.QCX.Q_CTRL.EN 7, 1), (R.QCX.Q_CTRL.SIZE_EXP 7, 4), (R.QCX.Q_CTRL.CLASS 7,
      2), (R.TEN.RULE_EPOCH.EPOCH, 0)]), 7, 0, (List.replicate 64 1#8), 9, ⟨7, 0, toBytes 64 (5 + 0x40 * 2 ^ 64 + 64 *
      2 ^ 128), 0, 0, [], false, none, none⟩, up_of (by decide), by decide +kernel⟩,
    ⟨wit .sender [(R.PG.EN B.que, 1), (R.QCX.Q_CTRL.EN 7, 1), (R.QCX.Q_CTRL.SIZE_EXP 7, 4), (R.QCX.Q_CTRL.CLASS 7, 0),
      (R.TEN.RULE_EPOCH.EPOCH, 0)], 7, 9, up_of (by decide), by decide +kernel⟩,
    ⟨(fun s : State => { s with que := { s.que with descs := [⟨7, 0, [2#8], 0, 0, [], false, none, none⟩] } }) (wit
      .sender [(R.PG.EN B.que, 1), (R.QCX.Q_CTRL.EN 7, 1), (R.QCX.Q_CTRL.SIZE_EXP 7, 4), (R.QCX.Q_CTRL.CLASS 7, 0),
      (R.TEN.RULE_EPOCH.EPOCH, 0)]), 7, 9, ⟨7, 0, [2#8], 0, 0, [], false, none, none⟩, up_of (by decide),
      by decide +kernel⟩⟩

theorem witness_RulesAndResets :
    (∃ (s : State) (t : Nat), s.up ∧ s.role = .sender ∧ s.get R.TEN.RULE_STAT.DRAINING = 0) ∧
    (∃ (s : State) (t : Nat), s.up ∧ s.role = .sender ∧ s.on R.TEN.RULE_STAT.DRAINING) ∧
    (∃ (s : State) (t : Nat), s.up ∧ s.role = .sender ∧ s.on R.TEN.RULE_STAT.DRAINING ∧ s.line.tx0.txns = [] ∧
      s.line.tx1.txns = [] ∧ s.klc.job = none) ∧
    (∃ (s : State) (f t : Nat), s.up ∧ s.role = .sender ∧ 0 < f ∧ f < 16) ∧
    (∃ (s : State) (t : Nat), s.up ∧ s.role = .sender) ∧
    (∃ (s : State) (c k t : Nat), s.up ∧ c < 24 ∧ k < 2 ∧ (s.chan c).sent k ≠ [] ∧ s.get (R.MBX.M_TMO.UNITS c k) ≠ 0 ∧
      s.works (B.mbx c)) :=
  ⟨⟨wit .sender [(R.RUL.R_LWR_LO.MASK 3, 0x55)], 9, up_of (by decide), by decide +kernel⟩,
    ⟨wit .sender [(R.TEN.RULE_STAT.DRAINING, 1)], 9, up_of (by decide), by decide +kernel⟩,
    ⟨wit .sender [(R.TEN.RULE_STAT.DRAINING, 1)], 9, up_of (by decide), by decide +kernel⟩,
    ⟨wit .sender [], 3, 9, up_of (by decide), by decide +kernel⟩,
    ⟨(fun s : State => { s with que := { s.que with descs := [⟨7, 0, [], 0, 0, [], false, none, none⟩] } }) (wit
      .sender []), 9, up_of (by decide), by decide +kernel⟩,
    ⟨(fun s : State => { s with mbx := [(5, ⟨[([], false), ([7], false)], [], []⟩)] }) (wit .sender [(R.PG.EN (B.mbx
      5), 1), (R.MBX.M_TMO.UNITS 5 0, 3)]), 5, 0, 9, up_of (by decide), by decide +kernel⟩⟩

theorem witness_SelfTests :
    (∃ (s : State) (target r t : Nat), s.up ∧ s.que.test = none) ∧
    (∃ (s : State) (target r t : Nat), s.up ∧ s.que.test = none) ∧
    (∃ (s : State) (result detail t k n : Nat), s.up ∧ s.que.test = some (3, k, n) ∧ s.get R.QUE.TEST_STAT.STATE = 1) ∧
    (∃ (s : State) (t k n : Nat), s.up ∧ s.que.test = some (1, k, n) ∧ s.get R.QUE.TEST_STAT.STATE = 2 ∧ s.testWaits 1
      k = false) :=
  ⟨⟨wit .sender [], 0, 2, 9, up_of (by decide), by decide +kernel⟩,
    ⟨wit .sender [], 0, 2, 9, up_of (by decide), by decide +kernel⟩,
    ⟨(fun s : State => { s with que := { s.que with test := some (3, 0, 1) }, hkt := { s.hkt with testing := true } })
      (wit .sender [(R.QUE.TEST_STAT.STATE, 1)]), 1, 7, 9, 0, 1, up_of (by decide), by decide +kernel⟩,
    ⟨(fun s : State => { s with que := { s.que with test := some (1, 3, 1) } }) (wit .sender [(R.QUE.TEST_STAT.STATE,
      2)]), 9, 3, 1, up_of (by decide), by decide +kernel⟩⟩

theorem witness_LeadAndRelief :
    (∃ (s : State) (t : Nat), s.up ∧ s.role = .sender ∧ s.works B.rdn ∧ s.dual ∧ s.rdn.waiting = true ∧ s.get
      R.RDN.RDN_STAT.STATE = 0) ∧
    (∃ (s : State) (p t : Nat), s.up ∧ s.role = .tile ∧ p < 2 ∧ s.dual = false) ∧
    (∃ (s : State) (p t : Nat) (h : FrameHdr), s.up ∧ s.role = .sender ∧ s.works B.rdn ∧ p < 2 ∧ (s.stream p).hdr =
      some h ∧ h.relief = false ∧ s.get R.RDN.RDN_STAT.STATE = 2) ∧
    (∃ (s : State) (p t : Nat) (h : FrameHdr), s.up ∧ s.role = .sender ∧ s.works B.rdn ∧ p < 2 ∧ (s.stream p).hdr =
      some h ∧ h.relief = false ∧ s.get R.RDN.RDN_STAT.STATE = 3 ∧ s.on R.RDN.RDN_CFG.AUTO) ∧
    (∃ (s : State) (t : Nat), s.up ∧ s.role = .sender ∧ s.frozen B.rdn = false ∧ s.get R.RDN.RDN_STAT.STATE = 1 ∧
      bitAt (s.get R.RDN.HEALTH.RX) 0 ∧ bitAt (s.get R.RDN.HEALTH.RX) 1) ∧
    (∃ (s : State) (t : Nat), s.up ∧ s.role = .sender ∧ s.frozen B.rdn = false ∧ s.get R.RDN.RDN_STAT.STATE ≠ 1) ∧
    (∃ (s : State) (t : Nat), s.up ∧ s.role = .sender ∧ s.frozen B.rdn = false ∧ s.dual) :=
  ⟨⟨(fun s : State => { s with rdn := { s.rdn with waiting := true } }) (wit .sender [(R.DEP.MODE_CUR.REDUN, 1),
      (R.PG.EN 0x160000, 1)]), 9, up_of (by decide), by decide +kernel⟩,
    ⟨(fun s : State => { s with dep := { s.dep with last := some 6 } }) (wit .tile []), 0, 9, up_of (by decide),
      by decide +kernel⟩,
    ⟨(fun s : State => s.setStream 0 { hdr := some ⟨0, 1, 0, false, false, 5, 2, 0⟩ }) (wit .sender
      [(R.RDN.RDN_STAT.STATE, 2), (R.PG.EN 0x160000, 1)]), 0, 9, ⟨0, 1, 0, false, false, 5, 2, 0⟩, up_of (by decide),
      by decide +kernel⟩,
    ⟨(fun s : State => s.setStream 0 { hdr := some ⟨0, 1, 0, false, false, 5, 2, 0⟩ }) (wit .sender
      [(R.RDN.RDN_STAT.STATE, 3), (R.RDN.RDN_CFG.AUTO, 1), (R.PG.EN 0x160000, 1)]), 0, 9, ⟨0, 1, 0, false, false, 5,
      2, 0⟩, up_of (by decide), by decide +kernel⟩,
    ⟨wit .sender [(R.RDN.RDN_STAT.STATE, 1), (R.RDN.HEALTH.RX, 3)], 9, up_of (by decide), by decide +kernel⟩,
    ⟨wit .sender [], 9, up_of (by decide), by decide +kernel⟩,
    ⟨wit .sender [(R.DEP.MODE_CUR.REDUN, 1), (R.RDN.RDN_STAT.STATE, 3)], 9, up_of (by decide), by decide +kernel⟩⟩

theorem witness_Cluster :
    (∃ (s : State) (r : ClusterRec) (t : Nat), s.up ∧ s.cluWorks ∧ r.member ≠ s.ownMember ∧ r.member < 32 ∧ bitAt
      r.flags 0 = false ∧ s.recOf r.member = none) ∧
    (∃ (s : State) (r : ClusterRec) (t : Nat), s.up ∧ s.cluWorks ∧ r.member ≠ s.ownMember ∧ r.member < 32 ∧ bitAt
      r.flags 0 ∧ r.member ≠ s.get R.CLU.CLU_CFG.MASTER) ∧
    (∃ (s : State) (t : Nat), s.up ∧ s.cluWorks ∧ s.isMaster ∧ s.depNumber (s.get R.CLU.REQ_DEADLINE.DEADLINE) + 2 ≤
      s.depNumber (s.get R.CLU.REQ_FLIP.FLIP) ∧ s.flipHeld = false ∧ s.get R.CLU.CLU_STAT.MASTER_LOST = 0) ∧
    (∃ (s : State) (t : Nat), s.up ∧ s.cluWorks ∧ s.isMaster ∧ s.cluPhase = 1) ∧
    (∃ (s : State) (t : Nat), s.up ∧ s.cluWorks ∧ s.isMaster = false ∧ s.get R.CLU.CLU_STAT.MASTER_LOST = 0 ∧ max 1
      (s.get R.CLU.CLU_CFG.LOSS) ≤ s.clu.misses) :=
  ⟨⟨wit .sender [(R.PG.EN B.clu, 1)], ⟨5, 0, 1, 7, 2, 3, 4, 5, 0, 0, 0, 1920, 1080, 0, 0, false, 0, 0, 0, false, ⟨0,
      0, 0, []⟩⟩, 9, up_of (by decide), by decide +kernel⟩,
    ⟨wit .sender [(R.PG.EN B.clu, 1)], ⟨5, 1, 1, 7, 2, 3, 4, 5, 0, 0, 0, 1920, 1080, 0, 0, false, 0, 0, 0, false, ⟨0,
      0, 0, []⟩⟩, 9, up_of (by decide), by decide +kernel⟩,
    ⟨wit .sender [(R.PG.EN B.clu, 1), (R.CLU.REQ_FLIP.FLIP, 9), (R.CLU.REQ_DEADLINE.DEADLINE, 7)], 9, up_of
      (by decide), by decide +kernel⟩,
    ⟨wit .sender [(R.PG.EN B.clu, 1), (R.CLU.CLU_STAT.PHASE, 1)], 9, up_of (by decide), by decide +kernel⟩,
    ⟨(fun s : State => { s with clu := { s.clu with misses := 99 } }) (wit .sender [(R.PG.EN B.clu, 1),
      (R.CLU.CLU_CFG.MASTER, 4)]), 9, up_of (by decide), by decide +kernel⟩⟩

theorem witness_Housekeeping :
    (∃ (s : State) (raw : List Int) (vb t : Nat), s.up ∧ s.hkt.testing = false) ∧
    (∃ (s : State) (t : Nat), s.up ∧ s.thr = 1 ∧ s.hktEval) ∧
    (∃ (s : State) (t : Nat), s.up ∧ s.thr = 1 ∧ s.hktEval) ∧
    (∃ (s : State) (t : Nat), s.up ∧ s.role = .sender ∧ s.thr = 2 ∧ s.hktEval ∧ s.get R.DEP.MODE_CTRL.FB_ACTIVE = 0 ∧
      s.hkt.fbNext ≠ some true) ∧
    (∃ (s : State) (m t : Nat), s.up) ∧
    (∃ (s : State) (t : Nat), s.up) ∧
    (∃ (s : State) (a g : Int) (t : Nat), s.up ∧ s.frozen B.cal = false ∧ s.on R.CAL.CAL_STAT.BUSY ∧ g.natAbs ≤ 20000
      ∧ 100 * ((s.get R.CAL.REFIN_CFG.UV : Int) - (a - g)).natAbs ≤ 2 * (a - g).natAbs) ∧
    (∃ (s : State) (a g : Int) (t : Nat), s.up ∧ s.frozen B.cal = false ∧ s.on R.CAL.CAL_STAT.BUSY ∧ 20000 < g.natAbs) :=
  ⟨⟨wit .sender [], (List.replicate 64 0), 0, 9, up_of (by decide), by decide +kernel⟩,
    ⟨wit .sender [(R.PG.EN B.hkt, 1), (R.HKT.HKT_STAT.THR_STATE, 1)], 9, up_of (by decide), by decide +kernel⟩,
    ⟨wit .sender [(R.PG.EN B.hkt, 1), (R.HKT.HKT_STAT.THR_STATE, 1)], 9, up_of (by decide), by decide +kernel⟩,
    ⟨wit .sender [(R.PG.EN B.hkt, 1), (R.HKT.HKT_STAT.THR_STATE, 1), (R.HKT.HKT_STAT.THR_STATE, 2)], 9, up_of
      (by decide), by decide +kernel⟩,
    ⟨wit .sender [(R.HCH.CH_VAL.BROKEN 5, 1)], 0x20, 9, up_of (by decide)⟩,
    ⟨wit .sender [], 9, up_of (by decide)⟩,
    ⟨wit .sender [(R.CAL.CAL_STAT.BUSY, 1), (R.CAL.REFIN_CFG.UV, 1000)], 1000, 0, 9, up_of (by decide),
      by decide +kernel⟩,
    ⟨wit .sender [(R.CAL.CAL_STAT.BUSY, 1)], 1000, (-20001), 9, up_of (by decide), by decide +kernel⟩⟩

theorem witness_Images :
    (∃ (s : State) (t : Nat), s.up ∧ s.get R.FWU.FWU_STAT.SAFE = 0 ∧ s.mcSlot < 4 ∧ s.img s.mcSlot = Img.trial) ∧
    (∃ (s : State) (t : Nat), s.up ∧ s.get R.FWU.FWU_STAT.SAFE = 0 ∧ s.lcSlot < 4 ∧ s.img s.lcSlot = Img.trial) ∧
    (∃ (s : State) (t : Nat), s.up ∧ s.get R.FWU.FWU_STAT.SAFE = 0 ∧ s.mcSlot < 2 ∧ s.img s.mcSlot = Img.trial ∧ s.img
      (otherSlot s.mcSlot) ≠ Img.inForce) ∧
    (∃ (s : State) (t : Nat), s.up ∧ s.get R.FWU.FWU_STAT.SAFE = 0 ∧ s.lcSlot < 4 ∧ s.img s.lcSlot = Img.trial ∧ s.img
      (otherSlot s.lcSlot) = Img.inForce) ∧
    (∃ (s : State) (t : Nat), s.up ∧ s.img s.mcSlot = Img.inForce ∧ s.img s.lcSlot = Img.inForce ∧ s.mcSlot = 0 ∧
      s.lcSlot = 2) ∧
    (∃ (s : State) (t : Nat), s.up ∧ s.get R.FWU.FWU_STAT.SAFE = 0 ∧ s.mcSlot < 4 ∧ s.img s.mcSlot = Img.trial) ∧
    (∃ (s : State) (k t : Nat), s.up ∧ k < 6 ∧ s.img k = Img.written ∧ s.line.svcIn = none) :=
  ⟨⟨wit .sender [(R.SLT.SLOT_STAT.STATE 0, 5)], 9, up_of (by decide), by decide +kernel⟩,
    ⟨wit .sender [(R.SLT.SLOT_STAT.STATE 2, 5)], 9, up_of (by decide), by decide +kernel⟩,
    ⟨wit .sender [(R.SLT.SLOT_STAT.STATE 0, 5)], 9, up_of (by decide), by decide +kernel⟩,
    ⟨wit .sender [(R.SLT.SLOT_STAT.STATE 2, 5), (R.SLT.SLOT_STAT.STATE 3, 6)], 9, up_of (by decide),
      by decide +kernel⟩,
    ⟨wit .sender [(R.SLT.SLOT_STAT.STATE 0, 6), (R.SLT.SLOT_STAT.STATE 2, 6), (R.SLT.SLOT_STAT.RB_INDEX 0, 3),
      (R.SLT.SLOT_STAT.RB_INDEX 2, 4)], 9, up_of (by decide), by decide +kernel⟩,
    ⟨wit .sender [(R.SLT.SLOT_STAT.STATE 0, 5)], 9, up_of (by decide), by decide +kernel⟩,
    ⟨wit .sender [(R.SLT.SLOT_STAT.STATE 1, 2)], 1, 9, up_of (by decide), by decide +kernel⟩⟩

theorem witness_ServicePort :
    (∃ (s : State) (t : Nat), s.up ∧ s.svpUp ∧ s.get R.SVP.SVP_IPV4.ADDR ≠ 0) ∧
    (∃ (s : State) (t : Nat), s.up ∧ s.svpUp) ∧
    (∃ (s : State) (t : Nat), s.up ∧ s.role = .sender ∧ s.works B.svp ∧ s.on R.SVP.SVP_CTRL.PORT_EN ∧ s.get
      R.SVP.SVP_STAT.LINK_UP = 0) ∧
    (∃ (s : State) (t : Nat), s.up ∧ s.role = .sender ∧ s.on R.SVP.SVP_STAT.LINK_UP) ∧
    (∃ (s : State) (d : Dgram) (t : Nat), s.up ∧ s.svpUp ∧ s.svpMine d ∧ d.count = 1 ∧ d.addr = 0x8120 ∧ s.get
      R.TIM.SLEW_MAX.V < 2 ^ 16) ∧
    (∃ (s : State) (d : Dgram) (t : Nat), s.up ∧ s.svpUp ∧ s.svpMine d ∧ d.count = 1 ∧ d.addr = 0x8120 ∧ 4 ≤
      d.data.length) ∧
    (∃ (s : State) (d : Dgram) (t : Nat), s.up ∧ s.svpUp ∧ s.svpMine d ∧ d.slot ≤ 3 ∧ stopOf d.addr = 0 ∧ s.keyInUse
      d.slot = false) ∧
    (∃ (s : State) (d : Dgram) (t : Nat), s.up ∧ s.svpUp ∧ s.svpMine d ∧ d.slot ≤ 3 ∧ stopOf d.addr = 0 ∧ s.keyInUse
      d.slot) :=
  ⟨⟨wit .sender [(R.PG.EN B.svp, 1), (R.SVP.SVP_STAT.LINK_UP, 1), (R.SVP.SVP_IPV4.ADDR, 7)], 9, up_of (by decide),
      by decide +kernel⟩,
    ⟨wit .sender [(R.PG.EN B.svp, 1), (R.SVP.SVP_STAT.LINK_UP, 1), (R.SVP.SVP_IPV4.ADDR, 7)], 9, up_of (by decide),
      by decide +kernel⟩,
    ⟨wit .sender [(R.PG.EN B.svp, 1), (R.SVP.SVP_CTRL.PORT_EN, 1)], 9, up_of (by decide), by decide +kernel⟩,
    ⟨wit .sender [(R.PG.EN B.svp, 1), (R.SVP.SVP_STAT.LINK_UP, 1), (R.SVP.SVP_IPV4.ADDR, 7)], 9, up_of (by decide),
      by decide +kernel⟩,
    ⟨wit .sender [(R.PG.EN B.svp, 1), (R.SVP.SVP_STAT.LINK_UP, 1), (R.SVP.SVP_IPV4.ADDR, 7)], ⟨⟨9, 9, 7⟩,
      State.reset.get R.SVP.SVP_UDP.PORT, 21, 0, 1, 0x8120, []⟩, 9, up_of (by decide), by decide +kernel⟩,
    ⟨wit .sender [(R.PG.EN B.svp, 1), (R.SVP.SVP_STAT.LINK_UP, 1), (R.SVP.SVP_IPV4.ADDR, 7)], ⟨⟨9, 9, 7⟩,
      State.reset.get R.SVP.SVP_UDP.PORT, 21, 0, 1, 0x8120, [1#8, 2#8, 3#8, 4#8]⟩, 9, up_of (by decide),
      by decide +kernel⟩,
    ⟨wit .sender [(R.PG.EN B.svp, 1), (R.SVP.SVP_STAT.LINK_UP, 1), (R.SVP.SVP_IPV4.ADDR, 7)], ⟨⟨9, 9, 7⟩,
      State.reset.get R.SVP.SVP_UDP.PORT, 21, 3, 0, 0, []⟩, 9, up_of (by decide), by decide +kernel⟩,
    ⟨(fun s : State => { s with fwu := { s.fwu with flash := writeBytes erased [] (slotBase 0 + 6) [2#8] } }) (wit
      .sender [(R.PG.EN B.svp, 1), (R.SVP.SVP_STAT.LINK_UP, 1), (R.SVP.SVP_IPV4.ADDR, 7), (R.SLT.SLOT_STAT.STATE 0,
      6)]), ⟨⟨9, 9, 7⟩, State.reset.get R.SVP.SVP_UDP.PORT, 21, 2, 0, 0, []⟩, 9, up_of (by decide), by decide +kernel⟩⟩

theorem witness_ServiceSlots :
    (∃ (s : State) (d : Dgram) (t : Nat), s.up ∧ s.svpUp ∧ s.svpMine d ∧ stopOf d.addr = 0 ∧ s.get
      R.FWU.SESSION.PURPOSE = 0 ∧ d.slot < 6 ∧ (s.img d.slot = Img.empty ∨ s.img d.slot = Img.checked ∨ s.img d.slot =
      Img.bad) ∧ leNat (d.data.take 4) ≤ slotSize d.slot ∧ s.newestSettings ≠ some d.slot) ∧
    (∃ (s : State) (d : Dgram) (t : Nat), s.up ∧ s.svpUp ∧ s.svpMine d ∧ stopOf d.addr = 0 ∧ 1 ≤ d.count ∧ d.count ≤
      960 ∧ d.count ≤ d.data.length ∧ s.get R.FWU.SESSION.PURPOSE = 1 ∧ locOf d.addr = s.get R.FWU.SESS_BYTES.BYTES ∧
      s.get R.FWU.SESS_BYTES.BYTES + d.count ≤ s.fwu.total ∧ s.get R.FWU.SESS_BYTES.BYTES + d.count < 2 ^
      R.FWU.SESS_BYTES.BYTES.width) ∧
    (∃ (s : State) (d : Dgram) (t : Nat), s.up ∧ s.svpUp ∧ s.svpMine d ∧ stopOf d.addr = 0 ∧ s.get
      R.FWU.SESSION.PURPOSE = 1 ∧ s.get R.FWU.SESSION.SLOT < 6) ∧
    (∃ (s : State) (d : Dgram) (t : Nat), s.up ∧ s.svpUp ∧ s.svpMine d ∧ 16 ≤ d.slot ∧ d.slot ≤ 23 ∧ d.count = 64 ∧ 64
      ≤ d.data.length ∧ stopOf d.addr = 0 ∧ s.works (B.mbx d.slot) ∧ (s.chan d.slot).toB.length < 4 ∧ (s.chan
      d.slot).toA = []) ∧
    (∃ (s : State) (t : Nat) (x : SvcIn), s.up ∧ s.role = .tile ∧ s.line.svcIn = some x ∧ x.closed = false ∧ s.get
      R.FWU.SESSION.SLOT < 6) :=
  ⟨⟨wit .sender [(R.PG.EN B.svp, 1), (R.SVP.SVP_STAT.LINK_UP, 1), (R.SVP.SVP_IPV4.ADDR, 7)], ⟨⟨9, 9, 7⟩,
      State.reset.get R.SVP.SVP_UDP.PORT, 21, 1, 0, 0, [0#8, 1#8, 0#8, 0#8]⟩, 9, up_of (by decide), by decide +kernel⟩,
    ⟨(fun s : State => { s with fwu := { s.fwu with total := 256 } }) (wit .sender [(R.PG.EN B.svp, 1),
      (R.SVP.SVP_STAT.LINK_UP, 1), (R.SVP.SVP_IPV4.ADDR, 7), (R.FWU.SESSION.PURPOSE, 1)]), ⟨⟨9, 9, 7⟩, State.reset.get
      R.SVP.SVP_UDP.PORT, 21, 1, 2, 0, [1#8, 2#8]⟩, 9, up_of (by decide), by decide +kernel⟩,
    ⟨wit .sender [(R.PG.EN B.svp, 1), (R.SVP.SVP_STAT.LINK_UP, 1), (R.SVP.SVP_IPV4.ADDR, 7), (R.FWU.SESSION.PURPOSE,
      1)], ⟨⟨9, 9, 7⟩, State.reset.get R.SVP.SVP_UDP.PORT, 21, 1, 0, 0, []⟩, 9, up_of (by decide), by decide +kernel⟩,
    ⟨wit .sender [(R.PG.EN B.svp, 1), (R.SVP.SVP_STAT.LINK_UP, 1), (R.SVP.SVP_IPV4.ADDR, 7), (R.PG.EN (B.mbx 17), 1)],
      ⟨⟨9, 9, 7⟩, State.reset.get R.SVP.SVP_UDP.PORT, 21, 17, 64, 0, (List.replicate 64 1#8)⟩, 9, up_of (by decide),
      by decide +kernel⟩,
    ⟨(fun s : State => { s with line := { s.line with svcIn := some ⟨0, 9, 0, 1, 0, 64, [], false, 0, []⟩ } }) (wit
      .tile [(R.FWU.SESSION.PURPOSE, 1)]), 9, ⟨0, 9, 0, 1, 0, 64, [], false, 0, []⟩, up_of (by decide),
      by decide +kernel⟩⟩

/-! ### Ill-formed operands are refused, one case for each bound -/

theorem test_fit_Fuses :
    (⟨[], 0, 0, false, 0, 0, 0, 0, 0, 0, [], 0, 0, []⟩ : Fuses).fit = true ∧ (⟨[], 2 ^ 32, 0, false, 0, 0, 0, 0, 0, 0,
      [], 0, 0, []⟩ : Fuses).fit = false ∧ (⟨[], 0, 2 ^ 32, false, 0, 0, 0, 0, 0, 0, [], 0, 0, []⟩ : Fuses).fit = false
      ∧ (⟨[], 0, 0, false, 16, 0, 0, 0, 0, 0, [], 0, 0, []⟩ : Fuses).fit = false ∧ (⟨[], 0, 0, false, 0, 2 ^ 32, 0, 0,
      0, 0, [], 0, 0, []⟩ : Fuses).fit = false ∧ (⟨[], 0, 0, false, 0, 0, 2 ^ 32, 0, 0, 0, [], 0, 0, []⟩ : Fuses).fit =
      false ∧ (⟨[], 0, 0, false, 0, 0, 0, 32, 0, 0, [], 0, 0, []⟩ : Fuses).fit = false ∧ (⟨[], 0, 0, false, 0, 0, 0, 0,
      256, 0, [], 0, 0, []⟩ : Fuses).fit = false ∧ (⟨[], 0, 0, false, 0, 0, 0, 0, 0, 256, [], 0, 0, []⟩ : Fuses).fit =
      false ∧ (⟨[], 0, 0, false, 0, 0, 0, 0, 0, 0, [2 ^ 32], 0, 0, []⟩ : Fuses).fit = false ∧ (⟨[], 0, 0, false, 0, 0,
      0, 0, 0, 0, [], 2 ^ 48, 0, []⟩ : Fuses).fit = false ∧ (⟨[], 0, 0, false, 0, 0, 0, 0, 0, 0, [], 0, 16, []⟩ :
      Fuses).fit = false ∧ (⟨[], 0, 0, false, 0, 0, 0, 0, 0, 0, [], 0, 0, (List.replicate 5 0)⟩ : Fuses).fit = false ∧
      (⟨[], 0, 0, false, 0, 0, 0, 0, 0, 0, [], 0, 0, [2 ^ 384]⟩ : Fuses).fit = false := by
  decide +kernel

theorem test_fit_Sched :
    (⟨0, 0, 0, []⟩ : Sched).fit = true ∧ (⟨2 ^ 64, 0, 0, []⟩ : Sched).fit = false ∧ (⟨0, 0, 16, []⟩ : Sched).fit = false
      ∧ (⟨0, 0, 0, [2 ^ 32]⟩ : Sched).fit = false := by
  decide +kernel

theorem test_fit_TimeMsg :
    (⟨false, false, false, false, 0, 0, 0, 0⟩ : TimeMsg).fit = true ∧ (⟨false, false, false, false, 2 ^ 16, 0, 0, 0⟩ :
      TimeMsg).fit = false ∧ (⟨false, false, false, false, 0, 256, 0, 0⟩ : TimeMsg).fit = false ∧ (⟨false, false, false,
      false, 0, 0, -1, 0⟩ : TimeMsg).fit = false ∧ (⟨false, false, false, false, 0, 0, 0, 2 ^ 63⟩ : TimeMsg).fit = false := by
  decide +kernel

theorem test_fit_SchedMsg :
    (⟨false, false, 0, ⟨0, 0, 0, []⟩, 0, 0⟩ : SchedMsg).fit = true ∧ (⟨false, false, 2 ^ 16, ⟨0, 0, 0, []⟩, 0, 0⟩ :
      SchedMsg).fit = false ∧ (⟨false, false, 0, ⟨0, 0, 16, []⟩, 0, 0⟩ : SchedMsg).fit = false ∧ (⟨false, false, 0, ⟨0,
      0, 0, []⟩, 2 ^ 32, 0⟩ : SchedMsg).fit = false ∧ (⟨false, false, 0, ⟨0, 0, 0, []⟩, 0, 16⟩ : SchedMsg).fit = false := by
  decide +kernel

theorem test_fit_CapxMsg :
    (⟨0, 0, 0, 0, false, 0, 0, 0⟩ : CapxMsg).fit = true ∧ (⟨256, 0, 0, 0, false, 0, 0, 0⟩ : CapxMsg).fit = false ∧ (⟨0,
      256, 0, 0, false, 0, 0, 0⟩ : CapxMsg).fit = false ∧ (⟨0, 0, 256, 0, false, 0, 0, 0⟩ : CapxMsg).fit = false ∧ (⟨0,
      0, 0, 16, false, 0, 0, 0⟩ : CapxMsg).fit = false ∧ (⟨0, 0, 0, 0, false, 2 ^ 16, 0, 0⟩ : CapxMsg).fit = false ∧
      (⟨0, 0, 0, 0, false, 0, 16, 0⟩ : CapxMsg).fit = false ∧ (⟨0, 0, 0, 0, false, 0, 0, 2 ^ 96⟩ : CapxMsg).fit = false := by
  decide +kernel

theorem test_fit_LinkStateMsg :
    (⟨0, 0, 0, 0, 0, 0, 1, 0⟩ : LinkStateMsg).fit = true ∧ (⟨256, 0, 0, 0, 0, 0, 1, 0⟩ : LinkStateMsg).fit = false ∧
      (⟨0, 256, 0, 0, 0, 0, 1, 0⟩ : LinkStateMsg).fit = false ∧ (⟨0, 0, 256, 0, 0, 0, 1, 0⟩ : LinkStateMsg).fit = false
      ∧ (⟨0, 0, 0, 8, 0, 0, 1, 0⟩ : LinkStateMsg).fit = false ∧ (⟨0, 0, 0, 0, 4, 0, 1, 0⟩ : LinkStateMsg).fit = false ∧
      (⟨0, 0, 0, 0, 0, 256, 1, 0⟩ : LinkStateMsg).fit = false ∧ (⟨0, 0, 0, 0, 0, 0, 0, 0⟩ : LinkStateMsg).fit = false ∧
      (⟨0, 0, 0, 0, 0, 0, 6, 0⟩ : LinkStateMsg).fit = false := by
  decide +kernel

theorem test_fit_EnumMsg :
    (⟨false, 1, 0, 0⟩ : EnumMsg).fit = true ∧ (⟨false, 0, 0, 0⟩ : EnumMsg).fit = false ∧ (⟨false, 256, 0, 0⟩ :
      EnumMsg).fit = false ∧ (⟨false, 1, 2 ^ 16, 0⟩ : EnumMsg).fit = false ∧ (⟨false, 1, 0, 2 ^ 16⟩ : EnumMsg).fit =
      false := by
  decide +kernel

theorem test_fit_EnumRsp :
    (⟨false, false, 1, 0, 0, 0, 0, 0, 0⟩ : EnumRsp).fit = true ∧ (⟨false, false, 0, 0, 0, 0, 0, 0, 0⟩ : EnumRsp).fit =
      false ∧ (⟨false, false, 256, 0, 0, 0, 0, 0, 0⟩ : EnumRsp).fit = false ∧ (⟨false, false, 1, 256, 0, 0, 0, 0, 0⟩ :
      EnumRsp).fit = false ∧ (⟨false, false, 1, 0, 2 ^ 16, 0, 0, 0, 0⟩ : EnumRsp).fit = false ∧ (⟨false, false, 1, 0, 0,
      2 ^ 16, 0, 0, 0⟩ : EnumRsp).fit = false ∧ (⟨false, false, 1, 0, 0, 0, 2 ^ 16, 0, 0⟩ : EnumRsp).fit = false ∧
      (⟨false, false, 1, 0, 0, 0, 0, 16, 0⟩ : EnumRsp).fit = false ∧ (⟨false, false, 1, 0, 0, 0, 0, 0, 2 ^ 96⟩ :
      EnumRsp).fit = false := by
  decide +kernel

theorem test_fit_ReqMsg :
    (⟨1, 1, 0, false, 0, 0, 0, 0, 0, []⟩ : ReqMsg).fit = true ∧ (⟨0, 1, 0, false, 0, 0, 0, 0, 0, []⟩ : ReqMsg).fit =
      false ∧ (⟨5, 1, 0, false, 0, 0, 0, 0, 0, []⟩ : ReqMsg).fit = false ∧ (⟨1, 0, 0, false, 0, 0, 0, 0, 0, []⟩ :
      ReqMsg).fit = false ∧ (⟨1, 9, 0, false, 0, 0, 0, 0, 0, []⟩ : ReqMsg).fit = false ∧ (⟨1, 1, 256, false, 0, 0, 0, 0,
      0, []⟩ : ReqMsg).fit = false ∧ (⟨1, 1, 0, false, 2 ^ 16, 0, 0, 0, 0, []⟩ : ReqMsg).fit = false ∧ (⟨1, 1, 0, false,
      0, 2 ^ 16, 0, 0, 0, []⟩ : ReqMsg).fit = false ∧ (⟨1, 1, 0, false, 0, 0, 2 ^ 16, 0, 0, []⟩ : ReqMsg).fit = false ∧
      (⟨1, 1, 0, false, 0, 0, 0, 2 ^ 25, 0, []⟩ : ReqMsg).fit = false ∧ (⟨1, 1, 0, false, 0, 0, 0, 0, 2 ^ 32, []⟩ :
      ReqMsg).fit = false ∧ (⟨1, 1, 0, false, 0, 0, 0, 0, 0, [2 ^ 32]⟩ : ReqMsg).fit = false := by
  decide +kernel

theorem test_fit_RspMsg :
    (⟨0, 1, 0, false, 0, 0, 0, 0, []⟩ : RspMsg).fit = true ∧ (⟨16, 1, 0, false, 0, 0, 0, 0, []⟩ : RspMsg).fit = false ∧
      (⟨0, 0, 0, false, 0, 0, 0, 0, []⟩ : RspMsg).fit = false ∧ (⟨0, 9, 0, false, 0, 0, 0, 0, []⟩ : RspMsg).fit = false
      ∧ (⟨0, 1, 256, false, 0, 0, 0, 0, []⟩ : RspMsg).fit = false ∧ (⟨0, 1, 0, false, 2 ^ 16, 0, 0, 0, []⟩ : RspMsg).fit
      = false ∧ (⟨0, 1, 0, false, 0, 2 ^ 16, 0, 0, []⟩ : RspMsg).fit = false ∧ (⟨0, 1, 0, false, 0, 0, 2 ^ 16, 0, []⟩ :
      RspMsg).fit = false ∧ (⟨0, 1, 0, false, 0, 0, 0, 2 ^ 25, []⟩ : RspMsg).fit = false ∧ (⟨0, 1, 0, false, 0, 0, 0, 0,
      [2 ^ 32]⟩ : RspMsg).fit = false := by
  decide +kernel

theorem test_fit_TelemMsg :
    (⟨false, 0, 0, 0, 0, 0, 0, 0, 0, 0, 0, 0, 0, 0, 0, 0, 0, 0⟩ : TelemMsg).fit = true ∧ (⟨false, 256, 0, 0, 0, 0, 0, 0,
      0, 0, 0, 0, 0, 0, 0, 0, 0, 0⟩ : TelemMsg).fit = false ∧ (⟨false, 0, 256, 0, 0, 0, 0, 0, 0, 0, 0, 0, 0, 0, 0, 0, 0,
      0⟩ : TelemMsg).fit = false ∧ (⟨false, 0, 0, 2 ^ 32, 0, 0, 0, 0, 0, 0, 0, 0, 0, 0, 0, 0, 0, 0⟩ : TelemMsg).fit =
      false ∧ (⟨false, 0, 0, 0, 2 ^ 32, 0, 0, 0, 0, 0, 0, 0, 0, 0, 0, 0, 0, 0⟩ : TelemMsg).fit = false ∧ (⟨false, 0, 0,
      0, 0, 2 ^ 64, 0, 0, 0, 0, 0, 0, 0, 0, 0, 0, 0, 0⟩ : TelemMsg).fit = false ∧ (⟨false, 0, 0, 0, 0, 0, 256, 0, 0, 0,
      0, 0, 0, 0, 0, 0, 0, 0⟩ : TelemMsg).fit = false ∧ (⟨false, 0, 0, 0, 0, 0, 0, 256, 0, 0, 0, 0, 0, 0, 0, 0, 0, 0⟩ :
      TelemMsg).fit = false ∧ (⟨false, 0, 0, 0, 0, 0, 0, 0, 256, 0, 0, 0, 0, 0, 0, 0, 0, 0⟩ : TelemMsg).fit = false ∧
      (⟨false, 0, 0, 0, 0, 0, 0, 0, 0, 256, 0, 0, 0, 0, 0, 0, 0, 0⟩ : TelemMsg).fit = false ∧ (⟨false, 0, 0, 0, 0, 0, 0,
      0, 0, 0, 2 ^ 32, 0, 0, 0, 0, 0, 0, 0⟩ : TelemMsg).fit = false ∧ (⟨false, 0, 0, 0, 0, 0, 0, 0, 0, 0, 0, 2 ^ 16, 0,
      0, 0, 0, 0, 0⟩ : TelemMsg).fit = false ∧ (⟨false, 0, 0, 0, 0, 0, 0, 0, 0, 0, 0, 0, 2 ^ 16, 0, 0, 0, 0, 0⟩ :
      TelemMsg).fit = false ∧ (⟨false, 0, 0, 0, 0, 0, 0, 0, 0, 0, 0, 0, 0, 2 ^ 64, 0, 0, 0, 0⟩ : TelemMsg).fit = false ∧
      (⟨false, 0, 0, 0, 0, 0, 0, 0, 0, 0, 0, 0, 0, 0, 2 ^ 64, 0, 0, 0⟩ : TelemMsg).fit = false ∧ (⟨false, 0, 0, 0, 0, 0,
      0, 0, 0, 0, 0, 0, 0, 0, 0, 2 ^ 24, 0, 0⟩ : TelemMsg).fit = false ∧ (⟨false, 0, 0, 0, 0, 0, 0, 0, 0, 0, 0, 0, 0, 0,
      0, 0, 256, 0⟩ : TelemMsg).fit = false ∧ (⟨false, 0, 0, 0, 0, 0, 0, 0, 0, 0, 0, 0, 0, 0, 0, 0, 0, 2 ^ 16⟩ :
      TelemMsg).fit = false := by
  decide +kernel

theorem test_fit_SvcMsg :
    (⟨false, false, 0, 0, 0, []⟩ : SvcMsg).fit = true ∧ (⟨false, false, 256, 0, 0, []⟩ : SvcMsg).fit = false ∧ (⟨false,
      false, 0, 2 ^ 16, 0, []⟩ : SvcMsg).fit = false ∧ (⟨false, false, 0, 0, 2 ^ 16, []⟩ : SvcMsg).fit = false ∧
      (⟨false, false, 0, 0, 0, (List.replicate 49 0)⟩ : SvcMsg).fit = false := by
  decide +kernel

theorem test_fit_SvcAck :
    (⟨0, 0, 0, 0⟩ : SvcAck).fit = true ∧ (⟨256, 0, 0, 0⟩ : SvcAck).fit = false ∧ (⟨0, 256, 0, 0⟩ : SvcAck).fit = false ∧
      (⟨0, 0, 2 ^ 16, 0⟩ : SvcAck).fit = false ∧ (⟨0, 0, 0, 2 ^ 16⟩ : SvcAck).fit = false := by
  decide +kernel

theorem test_fit_MirrorMsg :
    (⟨false, 0, .imageStart 0⟩ : MirrorMsg).fit = true ∧ (⟨false, 2 ^ 16, .imageStart 0⟩ : MirrorMsg).fit = false ∧
      (⟨false, 0, .image (2 ^ 25) [] 0 0⟩ : MirrorMsg).fit = false := by
  decide +kernel

theorem test_fit_ClusterRec :
    (⟨0, 0, 0, 0, 0, 0, 0, 0, 0, 0, 0, 0, 0, 0, 0, false, 0, 0, 0, false, ⟨0, 0, 0, []⟩⟩ : ClusterRec).fit = true ∧
      (⟨32, 0, 0, 0, 0, 0, 0, 0, 0, 0, 0, 0, 0, 0, 0, false, 0, 0, 0, false, ⟨0, 0, 0, []⟩⟩ : ClusterRec).fit = false ∧
      (⟨0, 2 ^ 8, 0, 0, 0, 0, 0, 0, 0, 0, 0, 0, 0, 0, 0, false, 0, 0, 0, false, ⟨0, 0, 0, []⟩⟩ : ClusterRec).fit = false
      ∧ (⟨0, 0, 256, 0, 0, 0, 0, 0, 0, 0, 0, 0, 0, 0, 0, false, 0, 0, 0, false, ⟨0, 0, 0, []⟩⟩ : ClusterRec).fit = false
      ∧ (⟨0, 0, 0, 2 ^ 32, 0, 0, 0, 0, 0, 0, 0, 0, 0, 0, 0, false, 0, 0, 0, false, ⟨0, 0, 0, []⟩⟩ : ClusterRec).fit =
      false ∧ (⟨0, 0, 0, 0, 2 ^ 32, 0, 0, 0, 0, 0, 0, 0, 0, 0, 0, false, 0, 0, 0, false, ⟨0, 0, 0, []⟩⟩ :
      ClusterRec).fit = false ∧ (⟨0, 0, 0, 0, 0, 2 ^ 64, 0, 0, 0, 0, 0, 0, 0, 0, 0, false, 0, 0, 0, false, ⟨0, 0, 0,
      []⟩⟩ : ClusterRec).fit = false ∧ (⟨0, 0, 0, 0, 0, 0, 2 ^ 32, 0, 0, 0, 0, 0, 0, 0, 0, false, 0, 0, 0, false, ⟨0, 0,
      0, []⟩⟩ : ClusterRec).fit = false ∧ (⟨0, 0, 0, 0, 0, 0, 0, 2 ^ 64, 0, 0, 0, 0, 0, 0, 0, false, 0, 0, 0, false, ⟨0,
      0, 0, []⟩⟩ : ClusterRec).fit = false ∧ (⟨0, 0, 0, 0, 0, 0, 0, 0, 2 ^ 31, 0, 0, 0, 0, 0, 0, false, 0, 0, 0, false,
      ⟨0, 0, 0, []⟩⟩ : ClusterRec).fit = false ∧ (⟨0, 0, 0, 0, 0, 0, 0, 0, 0, 2 ^ 32, 0, 0, 0, 0, 0, false, 0, 0, 0,
      false, ⟨0, 0, 0, []⟩⟩ : ClusterRec).fit = false ∧ (⟨0, 0, 0, 0, 0, 0, 0, 0, 0, 0, 2 ^ 32, 0, 0, 0, 0, false, 0, 0,
      0, false, ⟨0, 0, 0, []⟩⟩ : ClusterRec).fit = false ∧ (⟨0, 0, 0, 0, 0, 0, 0, 0, 0, 0, 0, 2 ^ 16, 0, 0, 0, false, 0,
      0, 0, false, ⟨0, 0, 0, []⟩⟩ : ClusterRec).fit = false ∧ (⟨0, 0, 0, 0, 0, 0, 0, 0, 0, 0, 0, 0, 2 ^ 16, 0, 0, false,
      0, 0, 0, false, ⟨0, 0, 0, []⟩⟩ : ClusterRec).fit = false ∧ (⟨0, 0, 0, 0, 0, 0, 0, 0, 0, 0, 0, 0, 0, 256, 0, false,
      0, 0, 0, false, ⟨0, 0, 0, []⟩⟩ : ClusterRec).fit = false ∧ (⟨0, 0, 0, 0, 0, 0, 0, 0, 0, 0, 0, 0, 0, 0, 2 ^ 8,
      false, 0, 0, 0, false, ⟨0, 0, 0, []⟩⟩ : ClusterRec).fit = false ∧ (⟨0, 0, 0, 0, 0, 0, 0, 0, 0, 0, 0, 0, 0, 0, 0,
      false, 2 ^ 32, 0, 0, false, ⟨0, 0, 0, []⟩⟩ : ClusterRec).fit = false ∧ (⟨0, 0, 0, 0, 0, 0, 0, 0, 0, 0, 0, 0, 0, 0,
      0, false, 0, 2 ^ 64, 0, false, ⟨0, 0, 0, []⟩⟩ : ClusterRec).fit = false ∧ (⟨0, 0, 0, 0, 0, 0, 0, 0, 0, 0, 0, 0, 0,
      0, 0, false, 0, 0, 2 ^ 64, false, ⟨0, 0, 0, []⟩⟩ : ClusterRec).fit = false ∧ (⟨0, 0, 0, 0, 0, 0, 0, 0, 0, 0, 0, 0,
      0, 0, 0, false, 0, 0, 0, false, ⟨0, 0, 16, []⟩⟩ : ClusterRec).fit = false := by
  decide +kernel

theorem test_fit_FrameHdr :
    (⟨0, 0, 0, false, false, 0, 0, 0⟩ : FrameHdr).fit = true ∧ (⟨4, 0, 0, false, false, 0, 0, 0⟩ : FrameHdr).fit = false
      ∧ (⟨0, 4, 0, false, false, 0, 0, 0⟩ : FrameHdr).fit = false ∧ (⟨0, 0, 4, false, false, 0, 0, 0⟩ : FrameHdr).fit =
      false ∧ (⟨0, 0, 0, false, false, 2 ^ 32, 0, 0⟩ : FrameHdr).fit = false ∧ (⟨0, 0, 0, false, false, 0, 255, 0⟩ :
      FrameHdr).fit = false ∧ (⟨0, 0, 0, false, false, 0, 0, 2 ^ 16⟩ : FrameHdr).fit = false := by
  decide +kernel

theorem test_fit_ShareHdr :
    (⟨0, false, false, 0, 0⟩ : ShareHdr).fit = true ∧ (⟨256, false, false, 0, 0⟩ : ShareHdr).fit = false ∧ (⟨0, false,
      false, 2 ^ 15, 0⟩ : ShareHdr).fit = false ∧ (⟨0, false, false, 0, 2 ^ 15⟩ : ShareHdr).fit = false := by
  decide +kernel

theorem test_fit_ShareTrl :
    (⟨0, false, false, false, 0, 0⟩ : ShareTrl).fit = true ∧ (⟨256, false, false, false, 0, 0⟩ : ShareTrl).fit = false ∧
      (⟨0, false, false, false, 2 ^ 32, 0⟩ : ShareTrl).fit = false ∧ (⟨0, false, false, false, 0, 2 ^ 14⟩ :
      ShareTrl).fit = false := by
  decide +kernel

theorem test_fit_EthFrame :
    (⟨16, 64, true, none, .control⟩ : EthFrame).fit = false ∧ (⟨0, 64, true, none, .control⟩ : EthFrame).fit = true ∧
      (⟨0, 64, true, some (2 ^ 16), .control⟩ : EthFrame).fit = false ∧ (⟨0, 64, true, none, .udp (2 ^ 32) 0 0 0 none⟩ :
      EthFrame).fit = false ∧ (⟨0, 64, true, none, .udp 0 (2 ^ 32) 0 0 none⟩ : EthFrame).fit = false ∧ (⟨0, 64, true,
      none, .udp 0 0 65536 0 none⟩ : EthFrame).fit = false ∧ (⟨0, 64, true, none, .udp 0 0 0 65536 none⟩ : EthFrame).fit
      = false := by
  decide +kernel

theorem test_fit_Dgram :
    (⟨⟨0, 0, 0⟩, 0, 0, 0, 0, 0, []⟩ : Dgram).fit = true ∧ (⟨⟨2 ^ 32, 0, 0⟩, 0, 0, 0, 0, 0, []⟩ : Dgram).fit = false ∧
      (⟨⟨0, 2 ^ 16, 0⟩, 0, 0, 0, 0, 0, []⟩ : Dgram).fit = false ∧ (⟨⟨0, 0, 2 ^ 32⟩, 0, 0, 0, 0, 0, []⟩ : Dgram).fit =
      false ∧ (⟨⟨0, 0, 0⟩, 2 ^ 16, 0, 0, 0, 0, []⟩ : Dgram).fit = false ∧ (⟨⟨0, 0, 0⟩, 0, 2 ^ 16, 0, 0, 0, []⟩ :
      Dgram).fit = false ∧ (⟨⟨0, 0, 0⟩, 0, 0, 256, 0, 0, []⟩ : Dgram).fit = false ∧ (⟨⟨0, 0, 0⟩, 0, 0, 0, 2 ^ 16, 0, []⟩
      : Dgram).fit = false ∧ (⟨⟨0, 0, 0⟩, 0, 0, 0, 0, 2 ^ 64, []⟩ : Dgram).fit = false ∧ (⟨⟨0, 0, 0⟩, 0, 0, 0, 0, 0,
      (List.replicate 961 0)⟩ : Dgram).fit = false := by
  decide +kernel

theorem test_fit_Agent :
    Agent.fit (.tenant 15) = true ∧ Agent.fit (.tenant 16) = false ∧ Agent.fit (.line 31) = true ∧ Agent.fit (.line 32)
      = false := by
  decide +kernel

theorem test_fit_MirrorRec :
    MirrorRec.fit (.imageStart 0) = true ∧ MirrorRec.fit (.write (2 ^ 25) [] 0 0) = false ∧ MirrorRec.fit (.write 0 [2 ^
      32] 0 0) = false ∧ MirrorRec.fit (.write 0 [] 256 0) = false ∧ MirrorRec.fit (.write 0 [] 0 256) = false ∧
      MirrorRec.fit (.arm true (2 ^ 25)) = false ∧ MirrorRec.fit (.entry 256 0 0 0 0 0) = false ∧ MirrorRec.fit (.entry
      0 (2 ^ 64) 0 0 0 0) = false ∧ MirrorRec.fit (.entry 0 0 (2 ^ 32) 0 0 0) = false ∧ MirrorRec.fit (.entry 0 0 0 (2 ^
      32) 0 0) = false ∧ MirrorRec.fit (.entry 0 0 0 0 (2 ^ 31) 0) = false ∧ MirrorRec.fit (.entry 0 0 0 0 0 256) =
      false ∧ MirrorRec.fit (.frame 2 0 0 0 0 []) = false ∧ MirrorRec.fit (.frame 0 (2 ^ 64) 0 0 0 []) = false ∧
      MirrorRec.fit (.frame 0 0 65536 0 0 []) = false ∧ MirrorRec.fit (.frame 0 0 0 (2 ^ 32) 0 []) = false ∧
      MirrorRec.fit (.frame 0 0 0 0 (2 ^ 32) []) = false ∧ MirrorRec.fit (.frame 0 0 0 0 0 [2 ^ 32]) = false ∧
      MirrorRec.fit (.imageStart (2 ^ 32)) = false ∧ MirrorRec.fit (.image (2 ^ 25) [] 0 0) = false ∧ MirrorRec.fit
      (.image 0 [2 ^ 32] 0 0) = false ∧ MirrorRec.fit (.image 0 [] 256 0) = false ∧ MirrorRec.fit (.image 0 [] 0 256) =
      false ∧ MirrorRec.fit (.imageEnd (2 ^ 64)) = false := by
  decide +kernel

theorem test_fit_SvpFrame :
    SvpFrame.fit .other = true ∧ SvpFrame.fit (.arp (2 ^ 32)) = false ∧ SvpFrame.fit (.unknown 256 ⟨⟨0, 0, 0⟩, 0, 0, 0,
      0, 0, []⟩) = false ∧ SvpFrame.fit (.unknown 0 ⟨⟨2 ^ 32, 0, 0⟩, 0, 0, 0, 0, 0, []⟩) = false := by
  decide +kernel

theorem test_wf_resetRelease_to_pageEnable :
    Instr.wellFormed (.resetRelease 0 false ⟨[], 0, 0, false, 0, 0, 0, 0, 0, 0, [], 0, 0, []⟩ 0) = true ∧
      Instr.wellFormed (.resetRelease 4 false ⟨[], 0, 0, false, 0, 0, 0, 0, 0, 0, [], 0, 0, []⟩ 0) = false ∧
      Instr.wellFormed (.resetRelease 0 false ⟨[], 2 ^ 32, 0, false, 0, 0, 0, 0, 0, 0, [], 0, 0, []⟩ 0) = false ∧
      Instr.wellFormed (.thermalReset 0) = true ∧ Instr.wellFormed (.thermalReset (2 ^ 64)) = false ∧ Instr.wellFormed
      (.refclkLost 0 0) = true ∧ Instr.wellFormed (.refclkLost 0 (2 ^ 64)) = false ∧ Instr.wellFormed (.retAuto 0 0) =
      true ∧ Instr.wellFormed (.retAuto 0 (2 ^ 64)) = false ∧ Instr.wellFormed (.retNow 0 0) = true ∧ Instr.wellFormed
      (.retNow 0 (2 ^ 64)) = false ∧ Instr.wellFormed (.registerWrite .service 0 4 0 0) = true ∧ Instr.wellFormed
      (.registerWrite (.tenant 16) 0 4 0 0) = false ∧ Instr.wellFormed (.registerWrite .service (2 ^ 25) 4 0 0) = false
      ∧ Instr.wellFormed (.registerWrite .service 0 3 0 0) = false ∧ Instr.wellFormed (.registerWrite .service 0 4 (2 ^
      64) 0) = false ∧ Instr.wellFormed (.registerWrite .service 0 4 0 (2 ^ 64)) = false ∧ Instr.wellFormed (.rcRead
      .service 0 4 0) = true ∧ Instr.wellFormed (.rcRead (.tenant 16) 0 4 0) = false ∧ Instr.wellFormed (.rcRead
      .service (2 ^ 25) 4 0) = false ∧ Instr.wellFormed (.rcRead .service 0 3 0) = false ∧ Instr.wellFormed (.rcRead
      .service 0 4 (2 ^ 64)) = false ∧ Instr.wellFormed (.evtPendClear 0x80000 0 0) = true ∧ Instr.wellFormed
      (.evtPendClear 0x80004 0 0) = false ∧ Instr.wellFormed (.evtPendClear 0x80000 (2 ^ 32) 0) = false ∧
      Instr.wellFormed (.evtPendClear 0x80000 0 (2 ^ 64)) = false ∧ Instr.wellFormed (.evtSet 0x80000 0 0) = true ∧
      Instr.wellFormed (.evtSet 0x80004 0 0) = false ∧ Instr.wellFormed (.evtSet 0x80000 (2 ^ 32) 0) = false ∧
      Instr.wellFormed (.evtSet 0x80000 0 (2 ^ 64)) = false ∧ Instr.wellFormed (.evtEnWrite 0x80000 0 0) = true ∧
      Instr.wellFormed (.evtEnWrite 0x80004 0 0) = false ∧ Instr.wellFormed (.evtEnWrite 0x80000 (2 ^ 32) 0) = false ∧
      Instr.wellFormed (.evtEnWrite 0x80000 0 (2 ^ 64)) = false ∧ Instr.wellFormed (.errInfoClear 0x80000 0) = true ∧
      Instr.wellFormed (.errInfoClear 0x80004 0) = false ∧ Instr.wellFormed (.errInfoClear 0x80000 (2 ^ 64)) = false ∧
      Instr.wellFormed (.pageEnable 0x80000 0) = true ∧ Instr.wellFormed (.pageEnable 0x80004 0) = false ∧
      Instr.wellFormed (.pageEnable 0x80000 (2 ^ 64)) = false := by
  decide +kernel

theorem test_wf_pageDisable_to_commitEntry :
    Instr.wellFormed (.pageDisable 0x80000 0) = true ∧ Instr.wellFormed (.pageDisable 0x80004 0) = false ∧
      Instr.wellFormed (.pageDisable 0x80000 (2 ^ 64)) = false ∧ Instr.wellFormed (.softReset 0x80000 0) = true ∧
      Instr.wellFormed (.softReset 0x80004 0) = false ∧ Instr.wellFormed (.softReset 0x80000 (2 ^ 64)) = false ∧
      Instr.wellFormed (.commitArm 0x80000 0) = true ∧ Instr.wellFormed (.commitArm 0x80004 0) = false ∧
      Instr.wellFormed (.commitArm 0x80000 (2 ^ 64)) = false ∧ Instr.wellFormed (.commitDisarm 0x80000 0) = true ∧
      Instr.wellFormed (.commitDisarm 0x80004 0) = false ∧ Instr.wellFormed (.commitDisarm 0x80000 (2 ^ 64)) = false ∧
      Instr.wellFormed (.freezePage 0x80000 0) = true ∧ Instr.wellFormed (.freezePage 0x80004 0) = false ∧
      Instr.wellFormed (.freezePage 0x80000 (2 ^ 64)) = false ∧ Instr.wellFormed (.unfreezePage 0x80000 0) = true ∧
      Instr.wellFormed (.unfreezePage 0x80004 0) = false ∧ Instr.wellFormed (.unfreezePage 0x80000 (2 ^ 64)) = false ∧
      Instr.wellFormed (.hwFreeze 0x80000 0) = true ∧ Instr.wellFormed (.hwFreeze 0x80004 0) = false ∧ Instr.wellFormed
      (.hwFreeze 0x80000 (2 ^ 64)) = false ∧ Instr.wellFormed (.modeNextWrite 0 0) = true ∧ Instr.wellFormed
      (.modeNextWrite (2 ^ 32) 0) = false ∧ Instr.wellFormed (.modeNextWrite 0 (2 ^ 64)) = false ∧ Instr.wellFormed
      (.modeFallbackWrite 0 0) = true ∧ Instr.wellFormed (.modeFallbackWrite (2 ^ 32) 0) = false ∧ Instr.wellFormed
      (.modeFallbackWrite 0 (2 ^ 64)) = false ∧ Instr.wellFormed (.frameDeparture 0 0) = true ∧ Instr.wellFormed
      (.frameDeparture (2 ^ 64) 0) = false ∧ Instr.wellFormed (.frameDeparture 0 (2 ^ 64)) = false ∧ Instr.wellFormed
      (.viewDeparture 0 1 0) = true ∧ Instr.wellFormed (.viewDeparture (2 ^ 64) 1 0) = false ∧ Instr.wellFormed
      (.viewDeparture 0 0 0) = false ∧ Instr.wellFormed (.viewDeparture 0 4 0) = false ∧ Instr.wellFormed
      (.viewDeparture 0 1 (2 ^ 64)) = false ∧ Instr.wellFormed (.commitEntry 0 false 0) = true ∧ Instr.wellFormed
      (.commitEntry 256 false 0) = false ∧ Instr.wellFormed (.commitEntry 0 false (2 ^ 64)) = false := by
  decide +kernel

theorem test_wf_epochFlip_to_startupEpochLoad :
    Instr.wellFormed (.epochFlip 0 false 0) = true ∧ Instr.wellFormed (.epochFlip 256 false 0) = false ∧
      Instr.wellFormed (.epochFlip 0 false (2 ^ 64)) = false ∧ Instr.wellFormed (.scheduleEntry 0 false 0) = true ∧
      Instr.wellFormed (.scheduleEntry 256 false 0) = false ∧ Instr.wellFormed (.scheduleEntry 0 false (2 ^ 64)) = false
      ∧ Instr.wellFormed (.fwActivate 0 false 0) = true ∧ Instr.wellFormed (.fwActivate 256 false 0) = false ∧
      Instr.wellFormed (.fwActivate 0 false (2 ^ 64)) = false ∧ Instr.wellFormed (.railStep 0 false 0) = true ∧
      Instr.wellFormed (.railStep 256 false 0) = false ∧ Instr.wellFormed (.railStep 0 false (2 ^ 64)) = false ∧
      Instr.wellFormed (.wallSwitch 0 false 0) = true ∧ Instr.wellFormed (.wallSwitch 256 false 0) = false ∧
      Instr.wellFormed (.wallSwitch 0 false (2 ^ 64)) = false ∧ Instr.wellFormed (.pulse 0 false 0) = true ∧
      Instr.wellFormed (.pulse 256 false 0) = false ∧ Instr.wellFormed (.pulse 0 false (2 ^ 64)) = false ∧
      Instr.wellFormed (.markEntry 0 false 0) = true ∧ Instr.wellFormed (.markEntry 256 false 0) = false ∧
      Instr.wellFormed (.markEntry 0 false (2 ^ 64)) = false ∧ Instr.wellFormed (.entMissed 0 0) = true ∧
      Instr.wellFormed (.entMissed 256 0) = false ∧ Instr.wellFormed (.entMissed 0 (2 ^ 64)) = false ∧ Instr.wellFormed
      (.entWrite 0) = true ∧ Instr.wellFormed (.entWrite (2 ^ 64)) = false ∧ Instr.wellFormed (.entRead 0) = true ∧
      Instr.wellFormed (.entRead (2 ^ 64)) = false ∧ Instr.wellFormed (.entCancel 0) = true ∧ Instr.wellFormed
      (.entCancel (2 ^ 64)) = false ∧ Instr.wellFormed (.startupEpochLoad 0) = true ∧ Instr.wellFormed
      (.startupEpochLoad (2 ^ 64)) = false := by
  decide +kernel

theorem test_wf_domMeas_to_ldInterval :
    Instr.wellFormed (.domMeas 0 0 0 0) = true ∧ Instr.wellFormed (.domMeas 2 0 0 0) = false ∧ Instr.wellFormed
      (.domMeas 0 (2 ^ 32) 0 0) = false ∧ Instr.wellFormed (.domMeas 0 0 0 (2 ^ 64)) = false ∧ Instr.wellFormed
      (.domainEnable 0 0) = true ∧ Instr.wellFormed (.domainEnable 2 0) = false ∧ Instr.wellFormed (.domainEnable 0 (2 ^
      64)) = false ∧ Instr.wellFormed (.domainDisable 0 0) = true ∧ Instr.wellFormed (.domainDisable 2 0) = false ∧
      Instr.wellFormed (.domainDisable 0 (2 ^ 64)) = false ∧ Instr.wellFormed (.domainLossTimeout 0 0) = true ∧
      Instr.wellFormed (.domainLossTimeout 2 0) = false ∧ Instr.wellFormed (.domainLossTimeout 0 (2 ^ 64)) = false ∧
      Instr.wellFormed (.switchNow false 0) = true ∧ Instr.wellFormed (.switchNow false (2 ^ 64)) = false ∧
      Instr.wellFormed (.wallSelWrite 0 false 0) = true ∧ Instr.wellFormed (.wallSelWrite 2 false 0) = false ∧
      Instr.wellFormed (.wallSelWrite 0 false (2 ^ 64)) = false ∧ Instr.wellFormed (.slewEnd 0) = true ∧
      Instr.wellFormed (.slewEnd (2 ^ 64)) = false ∧ Instr.wellFormed (.timeInterval 0) = true ∧ Instr.wellFormed
      (.timeInterval (2 ^ 64)) = false ∧ Instr.wellFormed (.timeMessage 0 ⟨false, false, false, false, 0, 0, 0, 0⟩ 0 0
      0) = true ∧ Instr.wellFormed (.timeMessage 2 ⟨false, false, false, false, 0, 0, 0, 0⟩ 0 0 0) = false ∧
      Instr.wellFormed (.timeMessage 0 ⟨false, false, false, false, 2 ^ 16, 0, 0, 0⟩ 0 0 0) = false ∧ Instr.wellFormed
      (.timeMessage 0 ⟨false, false, false, false, 0, 0, 0, 0⟩ (2 ^ 68) 0 0) = false ∧ Instr.wellFormed (.timeMessage 0
      ⟨false, false, false, false, 0, 0, 0, 0⟩ 0 (2 ^ 68) 0) = false ∧ Instr.wellFormed (.timeMessage 0 ⟨false, false,
      false, false, 0, 0, 0, 0⟩ 0 0 (2 ^ 64)) = false ∧ Instr.wellFormed (.schedInterval 0) = true ∧ Instr.wellFormed
      (.schedInterval (2 ^ 64)) = false ∧ Instr.wellFormed (.sched 0 ⟨false, false, 0, ⟨0, 0, 0, []⟩, 0, 0⟩ 0) = true ∧
      Instr.wellFormed (.sched 2 ⟨false, false, 0, ⟨0, 0, 0, []⟩, 0, 0⟩ 0) = false ∧ Instr.wellFormed (.sched 0 ⟨false,
      false, 2 ^ 16, ⟨0, 0, 0, []⟩, 0, 0⟩ 0) = false ∧ Instr.wellFormed (.sched 0 ⟨false, false, 0, ⟨0, 0, 0, []⟩, 0, 0⟩
      (2 ^ 64)) = false ∧ Instr.wellFormed (.ldInterval 0 0 0) = true ∧ Instr.wellFormed (.ldInterval 2 0 0) = false ∧
      Instr.wellFormed (.ldInterval 0 (2 ^ 68) 0) = false ∧ Instr.wellFormed (.ldInterval 0 0 (2 ^ 64)) = false := by
  decide +kernel

theorem test_wf_ldReq_to_ingPacket :
    Instr.wellFormed (.ldReq 0 0 0 0 0) = true ∧ Instr.wellFormed (.ldReq 2 0 0 0 0) = false ∧ Instr.wellFormed (.ldReq
      0 (2 ^ 16) 0 0 0) = false ∧ Instr.wellFormed (.ldReq 0 0 (2 ^ 68) 0 0) = false ∧ Instr.wellFormed (.ldReq 0 0 0 (2
      ^ 68) 0) = false ∧ Instr.wellFormed (.ldReq 0 0 0 0 (2 ^ 64)) = false ∧ Instr.wellFormed (.ldRsp 0 0 0 0 0) = true
      ∧ Instr.wellFormed (.ldRsp 2 0 0 0 0) = false ∧ Instr.wellFormed (.ldRsp 0 (2 ^ 16) 0 0 0) = false ∧
      Instr.wellFormed (.ldRsp 0 0 0 (2 ^ 68) 0) = false ∧ Instr.wellFormed (.ldRsp 0 0 0 0 (2 ^ 64)) = false ∧
      Instr.wellFormed (.ldTimeout 0 0) = true ∧ Instr.wellFormed (.ldTimeout 2 0) = false ∧ Instr.wellFormed
      (.ldTimeout 0 (2 ^ 64)) = false ∧ Instr.wellFormed (.tickin 0 0) = true ∧ Instr.wellFormed (.tickin (2 ^ 68) 0) =
      false ∧ Instr.wellFormed (.tickin 0 (2 ^ 64)) = false ∧ Instr.wellFormed (.tickWindowEnd 0) = true ∧
      Instr.wellFormed (.tickWindowEnd (2 ^ 64)) = false ∧ Instr.wellFormed (.frameSrcWrite 0 0) = true ∧
      Instr.wellFormed (.frameSrcWrite 4 0) = false ∧ Instr.wellFormed (.frameSrcWrite 0 (2 ^ 64)) = false ∧
      Instr.wellFormed (.tickoutPulse 0) = true ∧ Instr.wellFormed (.tickoutPulse (2 ^ 64)) = false ∧ Instr.wellFormed
      (.ppsPulse 0) = true ∧ Instr.wellFormed (.ppsPulse (2 ^ 64)) = false ∧ Instr.wellFormed (.ethLinkUp 0 0) = true ∧
      Instr.wellFormed (.ethLinkUp 4 0) = false ∧ Instr.wellFormed (.ethLinkUp 0 (2 ^ 64)) = false ∧ Instr.wellFormed
      (.ethLinkDown 0 0) = true ∧ Instr.wellFormed (.ethLinkDown 4 0) = false ∧ Instr.wellFormed (.ethLinkDown 0 (2 ^
      64)) = false ∧ Instr.wellFormed (.ethFrame 0 ⟨0, 0, false, none, .control⟩ 0 0 0) = true ∧ Instr.wellFormed
      (.ethFrame 4 ⟨0, 0, false, none, .control⟩ 0 0 0) = false ∧ Instr.wellFormed (.ethFrame 0 ⟨0, 64, true, none, .udp
      (2 ^ 32) 0 0 0 none⟩ 0 0 0) = false ∧ Instr.wellFormed (.ethFrame 0 ⟨0, 0, false, none, .control⟩ 0 0 (2 ^ 64)) =
      false ∧ Instr.wellFormed (.ingPacket 0) = true ∧ Instr.wellFormed (.ingPacket (2 ^ 64)) = false := by
  decide +kernel

theorem test_wf_mergeWaitEnd_to_otgFrameStart :
    Instr.wellFormed (.mergeWaitEnd 0 0) = true ∧ Instr.wellFormed (.mergeWaitEnd 32 0) = false ∧ Instr.wellFormed
      (.mergeWaitEnd 0 (2 ^ 64)) = false ∧ Instr.wellFormed (.legLost 0 0 0) = true ∧ Instr.wellFormed (.legLost 32 0 0)
      = false ∧ Instr.wellFormed (.legLost 0 2 0) = false ∧ Instr.wellFormed (.legLost 0 0 (2 ^ 64)) = false ∧
      Instr.wellFormed (.flowLost 0 0) = true ∧ Instr.wellFormed (.flowLost 32 0) = false ∧ Instr.wellFormed (.flowLost
      0 (2 ^ 64)) = false ∧ Instr.wellFormed (.flowEnable 0 0 0) = true ∧ Instr.wellFormed (.flowEnable 32 0 0) = false
      ∧ Instr.wellFormed (.flowEnable 0 (2 ^ 32) 0) = false ∧ Instr.wellFormed (.flowEnable 0 0 (2 ^ 64)) = false ∧
      Instr.wellFormed (.flowDisable 0 0 0) = true ∧ Instr.wellFormed (.flowDisable 32 0 0) = false ∧ Instr.wellFormed
      (.flowDisable 0 (2 ^ 32) 0) = false ∧ Instr.wellFormed (.flowDisable 0 0 (2 ^ 64)) = false ∧ Instr.wellFormed
      (.legEnable 0 0 0) = true ∧ Instr.wellFormed (.legEnable 32 0 0) = false ∧ Instr.wellFormed (.legEnable 0 (2 ^ 32)
      0) = false ∧ Instr.wellFormed (.legEnable 0 0 (2 ^ 64)) = false ∧ Instr.wellFormed (.cardCheck 0) = true ∧
      Instr.wellFormed (.cardCheck (2 ^ 64)) = false ∧ Instr.wellFormed (.cardCheckDone 0) = true ∧ Instr.wellFormed
      (.cardCheckDone (2 ^ 64)) = false ∧ Instr.wellFormed (.cardSyncDone 0) = true ∧ Instr.wellFormed (.cardSyncDone (2
      ^ 64)) = false ∧ Instr.wellFormed (.spireCheck 0) = true ∧ Instr.wellFormed (.spireCheck (2 ^ 64)) = false ∧
      Instr.wellFormed (.spireSyncDone 0) = true ∧ Instr.wellFormed (.spireSyncDone (2 ^ 64)) = false ∧ Instr.wellFormed
      (.otgFrameStart 0) = true ∧ Instr.wellFormed (.otgFrameStart (2 ^ 64)) = false := by
  decide +kernel

theorem test_wf_blankStart_to_retryInterval :
    Instr.wellFormed (.blankStart 0 0 0) = true ∧ Instr.wellFormed (.blankStart 0 0 (2 ^ 64)) = false ∧ Instr.wellFormed
      (.otgAbort none none 0 0 0) = true ∧ Instr.wellFormed (.otgAbort none none 0 0 (2 ^ 64)) = false ∧
      Instr.wellFormed (.monitorFrame 0) = true ∧ Instr.wellFormed (.monitorFrame (2 ^ 64)) = false ∧ Instr.wellFormed
      (.trainingFrame 0 0 0 false false 0 none 0) = true ∧ Instr.wellFormed (.trainingFrame 16 0 0 false false 0 none 0)
      = false ∧ Instr.wellFormed (.trainingFrame 0 (2 ^ 24) 0 false false 0 none 0) = false ∧ Instr.wellFormed
      (.trainingFrame 0 0 (2 ^ 24) false false 0 none 0) = false ∧ Instr.wellFormed (.trainingFrame 0 0 0 false false (2
      ^ 13) none 0) = false ∧ Instr.wellFormed (.trainingFrame 0 0 0 false false 0 none (2 ^ 64)) = false ∧
      Instr.wellFormed (.trainTimeout 0 0) = true ∧ Instr.wellFormed (.trainTimeout 16 0) = false ∧ Instr.wellFormed
      (.trainTimeout 0 (2 ^ 64)) = false ∧ Instr.wellFormed (.trainGiveUp 0 0) = true ∧ Instr.wellFormed (.trainGiveUp
      16 0) = false ∧ Instr.wellFormed (.trainGiveUp 0 (2 ^ 64)) = false ∧ Instr.wellFormed (.laneLocked 0 0 0 false 0)
      = true ∧ Instr.wellFormed (.laneLocked 16 0 0 false 0) = false ∧ Instr.wellFormed (.laneLocked 0 0 4 false 0) =
      false ∧ Instr.wellFormed (.laneLocked 0 0 0 false (2 ^ 64)) = false ∧ Instr.wellFormed (.lockEnd 0 0) = true ∧
      Instr.wellFormed (.lockEnd 2 0) = false ∧ Instr.wellFormed (.lockEnd 0 (2 ^ 64)) = false ∧ Instr.wellFormed
      (.capxSend 0 0) = true ∧ Instr.wellFormed (.capxSend 2 0) = false ∧ Instr.wellFormed (.capxSend 0 (2 ^ 64)) =
      false ∧ Instr.wellFormed (.capx 0 ⟨0, 0, 0, 0, false, 0, 0, 0⟩ 0) = true ∧ Instr.wellFormed (.capx 2 ⟨0, 0, 0, 0,
      false, 0, 0, 0⟩ 0) = false ∧ Instr.wellFormed (.capx 0 ⟨256, 0, 0, 0, false, 0, 0, 0⟩ 0) = false ∧
      Instr.wellFormed (.capx 0 ⟨0, 0, 0, 0, false, 0, 0, 0⟩ (2 ^ 64)) = false ∧ Instr.wellFormed (.capxTimeout 0 0) =
      true ∧ Instr.wellFormed (.capxTimeout 2 0) = false ∧ Instr.wellFormed (.capxTimeout 0 (2 ^ 64)) = false ∧
      Instr.wellFormed (.retryInterval 0 0) = true ∧ Instr.wellFormed (.retryInterval 2 0) = false ∧ Instr.wellFormed
      (.retryInterval 0 (2 ^ 64)) = false := by
  decide +kernel

theorem test_wf_restartPort_to_enumRsp :
    Instr.wellFormed (.restartPort 0 0) = true ∧ Instr.wellFormed (.restartPort 2 0) = false ∧ Instr.wellFormed
      (.restartPort 0 (2 ^ 64)) = false ∧ Instr.wellFormed (.maxWidthWrite 0 0 0) = true ∧ Instr.wellFormed
      (.maxWidthWrite 2 0 0) = false ∧ Instr.wellFormed (.maxWidthWrite 0 4 0) = false ∧ Instr.wellFormed
      (.maxWidthWrite 0 0 (2 ^ 64)) = false ∧ Instr.wellFormed (.groupHeader 0 [] 0) = true ∧ Instr.wellFormed
      (.groupHeader 2 [] 0) = false ∧ Instr.wellFormed (.groupHeader 0 [(4, 0)] 0) = false ∧ Instr.wellFormed
      (.groupHeader 0 [] (2 ^ 64)) = false ∧ Instr.wellFormed (.replayTimeout 0 0) = true ∧ Instr.wellFormed
      (.replayTimeout 2 0) = false ∧ Instr.wellFormed (.replayTimeout 0 (2 ^ 64)) = false ∧ Instr.wellFormed (.laneFault
      0 0) = true ∧ Instr.wellFormed (.laneFault 16 0) = false ∧ Instr.wellFormed (.laneFault 0 (2 ^ 64)) = false ∧
      Instr.wellFormed (.retrainDone 0 false 0) = true ∧ Instr.wellFormed (.retrainDone 16 false 0) = false ∧
      Instr.wellFormed (.retrainDone 0 false (2 ^ 64)) = false ∧ Instr.wellFormed (.laneRetry 0 0) = true ∧
      Instr.wellFormed (.laneRetry 16 0) = false ∧ Instr.wellFormed (.laneRetry 0 (2 ^ 64)) = false ∧ Instr.wellFormed
      (.laneRetire 0 0) = true ∧ Instr.wellFormed (.laneRetire 16 0) = false ∧ Instr.wellFormed (.laneRetire 0 (2 ^ 64))
      = false ∧ Instr.wellFormed (.linkState 0 ⟨0, 0, 0, 0, 0, 0, 1, 0⟩ 0) = true ∧ Instr.wellFormed (.linkState 2 ⟨0,
      0, 0, 0, 0, 0, 1, 0⟩ 0) = false ∧ Instr.wellFormed (.linkState 0 ⟨256, 0, 0, 0, 0, 0, 1, 0⟩ 0) = false ∧
      Instr.wellFormed (.linkState 0 ⟨0, 0, 0, 0, 0, 0, 1, 0⟩ (2 ^ 64)) = false ∧ Instr.wellFormed (.enumStart 0 0) =
      true ∧ Instr.wellFormed (.enumStart 2 0) = false ∧ Instr.wellFormed (.enumStart 0 (2 ^ 64)) = false ∧
      Instr.wellFormed (.enumMsg 0 ⟨false, 1, 0, 0⟩ 0) = true ∧ Instr.wellFormed (.enumMsg 2 ⟨false, 1, 0, 0⟩ 0) = false
      ∧ Instr.wellFormed (.enumMsg 0 ⟨false, 0, 0, 0⟩ 0) = false ∧ Instr.wellFormed (.enumMsg 0 ⟨false, 1, 0, 0⟩ (2 ^
      64)) = false ∧ Instr.wellFormed (.enumRsp 0 ⟨false, false, 1, 0, 0, 0, 0, 0, 0⟩ 0) = true ∧ Instr.wellFormed
      (.enumRsp 2 ⟨false, false, 1, 0, 0, 0, 0, 0, 0⟩ 0) = false ∧ Instr.wellFormed (.enumRsp 0 ⟨false, false, 0, 0, 0,
      0, 0, 0, 0⟩ 0) = false ∧ Instr.wellFormed (.enumRsp 0 ⟨false, false, 1, 0, 0, 0, 0, 0, 0⟩ (2 ^ 64)) = false := by
  decide +kernel

theorem test_wf_enumTimeout_to_ping :
    Instr.wellFormed (.enumTimeout 0 0) = true ∧ Instr.wellFormed (.enumTimeout 2 0) = false ∧ Instr.wellFormed
      (.enumTimeout 0 (2 ^ 64)) = false ∧ Instr.wellFormed (.frameHeader 0 ⟨0, 0, 0, false, false, 0, 0, 0⟩ false 0 0) =
      true ∧ Instr.wellFormed (.frameHeader 2 ⟨0, 0, 0, false, false, 0, 0, 0⟩ false 0 0) = false ∧ Instr.wellFormed
      (.frameHeader 0 ⟨4, 0, 0, false, false, 0, 0, 0⟩ false 0 0) = false ∧ Instr.wellFormed (.frameHeader 0 ⟨0, 0, 0,
      false, false, 0, 0, 0⟩ false 32 0) = false ∧ Instr.wellFormed (.frameHeader 0 ⟨0, 0, 0, false, false, 0, 0, 0⟩
      false 0 (2 ^ 64)) = false ∧ Instr.wellFormed (.shareHeader 0 ⟨0, false, false, 0, 0⟩ false 0) = true ∧
      Instr.wellFormed (.shareHeader 2 ⟨0, false, false, 0, 0⟩ false 0) = false ∧ Instr.wellFormed (.shareHeader 0 ⟨256,
      false, false, 0, 0⟩ false 0) = false ∧ Instr.wellFormed (.shareHeader 0 ⟨0, false, false, 0, 0⟩ false (2 ^ 64)) =
      false ∧ Instr.wellFormed (.segmentHeader 0 0 0 0 false 0) = true ∧ Instr.wellFormed (.segmentHeader 2 0 0 0 false
      0) = false ∧ Instr.wellFormed (.segmentHeader 0 4 0 0 false 0) = false ∧ Instr.wellFormed (.segmentHeader 0 0 (2 ^
      14) 0 false 0) = false ∧ Instr.wellFormed (.segmentHeader 0 0 0 (2 ^ 32) false 0) = false ∧ Instr.wellFormed
      (.segmentHeader 0 0 0 0 false (2 ^ 64)) = false ∧ Instr.wellFormed (.rowData 0 0 0 [] 0) = true ∧ Instr.wellFormed
      (.rowData 2 0 0 [] 0) = false ∧ Instr.wellFormed (.rowData 0 (2 ^ 14) 0 [] 0) = false ∧ Instr.wellFormed (.rowData
      0 0 0 [] (2 ^ 64)) = false ∧ Instr.wellFormed (.shareTrailer 0 ⟨0, false, false, false, 0, 0⟩ false 0) = true ∧
      Instr.wellFormed (.shareTrailer 2 ⟨0, false, false, false, 0, 0⟩ false 0) = false ∧ Instr.wellFormed
      (.shareTrailer 0 ⟨256, false, false, false, 0, 0⟩ false 0) = false ∧ Instr.wellFormed (.shareTrailer 0 ⟨0, false,
      false, false, 0, 0⟩ false (2 ^ 64)) = false ∧ Instr.wellFormed (.viewTrailer 0 0 0 false 0) = true ∧
      Instr.wellFormed (.viewTrailer 2 0 0 false 0) = false ∧ Instr.wellFormed (.viewTrailer 0 4 0 false 0) = false ∧
      Instr.wellFormed (.viewTrailer 0 0 (2 ^ 32) false 0) = false ∧ Instr.wellFormed (.viewTrailer 0 0 0 false (2 ^
      64)) = false ∧ Instr.wellFormed (.req 0 ⟨1, 1, 0, false, 0, 0, 0, 0, 0, []⟩ 0) = true ∧ Instr.wellFormed (.req 2
      ⟨1, 1, 0, false, 0, 0, 0, 0, 0, []⟩ 0) = false ∧ Instr.wellFormed (.req 0 ⟨0, 1, 0, false, 0, 0, 0, 0, 0, []⟩ 0) =
      false ∧ Instr.wellFormed (.req 0 ⟨1, 1, 0, false, 0, 0, 0, 0, 0, []⟩ (2 ^ 64)) = false ∧ Instr.wellFormed
      (.readTxn 0) = true ∧ Instr.wellFormed (.readTxn (2 ^ 64)) = false ∧ Instr.wellFormed (.writeTxn 0) = true ∧
      Instr.wellFormed (.writeTxn (2 ^ 64)) = false ∧ Instr.wellFormed (.writeMasked 0) = true ∧ Instr.wellFormed
      (.writeMasked (2 ^ 64)) = false ∧ Instr.wellFormed (.ping 0) = true ∧ Instr.wellFormed (.ping (2 ^ 64)) = false := by
  decide +kernel

theorem test_wf_rsp_to_decompress :
    Instr.wellFormed (.rsp 0 ⟨0, 1, 0, false, 0, 0, 0, 0, []⟩ 0) = true ∧ Instr.wellFormed (.rsp 2 ⟨0, 1, 0, false, 0,
      0, 0, 0, []⟩ 0) = false ∧ Instr.wellFormed (.rsp 0 ⟨16, 1, 0, false, 0, 0, 0, 0, []⟩ 0) = false ∧ Instr.wellFormed
      (.rsp 0 ⟨0, 1, 0, false, 0, 0, 0, 0, []⟩ (2 ^ 64)) = false ∧ Instr.wellFormed (.txnTimeout 0 0 0) = true ∧
      Instr.wellFormed (.txnTimeout 2 0 0) = false ∧ Instr.wellFormed (.txnTimeout 0 (2 ^ 16) 0) = false ∧
      Instr.wellFormed (.txnTimeout 0 0 (2 ^ 64)) = false ∧ Instr.wellFormed (.creditRelease 0 0 0) = true ∧
      Instr.wellFormed (.creditRelease 2 0 0) = false ∧ Instr.wellFormed (.creditRelease 0 (2 ^ 16) 0) = false ∧
      Instr.wellFormed (.creditRelease 0 0 (2 ^ 64)) = false ∧ Instr.wellFormed (.svc 0 ⟨false, false, 0, 0, 0, []⟩
      false 0) = true ∧ Instr.wellFormed (.svc 2 ⟨false, false, 0, 0, 0, []⟩ false 0) = false ∧ Instr.wellFormed (.svc 0
      ⟨false, false, 256, 0, 0, []⟩ false 0) = false ∧ Instr.wellFormed (.svc 0 ⟨false, false, 0, 0, 0, []⟩ false (2 ^
      64)) = false ∧ Instr.wellFormed (.svcAck 0 ⟨0, 0, 0, 0⟩ 0) = true ∧ Instr.wellFormed (.svcAck 2 ⟨0, 0, 0, 0⟩ 0) =
      false ∧ Instr.wellFormed (.svcAck 0 ⟨256, 0, 0, 0⟩ 0) = false ∧ Instr.wellFormed (.svcAck 0 ⟨0, 0, 0, 0⟩ (2 ^ 64))
      = false ∧ Instr.wellFormed (.svcResend 0 1 0) = true ∧ Instr.wellFormed (.svcResend 2 1 0) = false ∧
      Instr.wellFormed (.svcResend 0 0 0) = false ∧ Instr.wellFormed (.svcResend 0 255 0) = false ∧ Instr.wellFormed
      (.svcResend 0 1 (2 ^ 64)) = false ∧ Instr.wellFormed (.mirrorRecord 0 ⟨false, 0, .imageStart 0⟩ 0) = true ∧
      Instr.wellFormed (.mirrorRecord 2 ⟨false, 0, .imageStart 0⟩ 0) = false ∧ Instr.wellFormed (.mirrorRecord 0 ⟨false,
      2 ^ 16, .imageStart 0⟩ 0) = false ∧ Instr.wellFormed (.mirrorRecord 0 ⟨false, 0, .imageStart 0⟩ (2 ^ 64)) = false
      ∧ Instr.wellFormed (.mirrorGap 0) = true ∧ Instr.wellFormed (.mirrorGap (2 ^ 64)) = false ∧ Instr.wellFormed
      (.telem 0 ⟨false, 0, 0, 0, 0, 0, 0, 0, 0, 0, 0, 0, 0, 0, 0, 0, 0, 0⟩ 0) = true ∧ Instr.wellFormed (.telem 2
      ⟨false, 0, 0, 0, 0, 0, 0, 0, 0, 0, 0, 0, 0, 0, 0, 0, 0, 0⟩ 0) = false ∧ Instr.wellFormed (.telem 0 ⟨false, 256, 0,
      0, 0, 0, 0, 0, 0, 0, 0, 0, 0, 0, 0, 0, 0, 0⟩ 0) = false ∧ Instr.wellFormed (.telem 0 ⟨false, 0, 0, 0, 0, 0, 0, 0,
      0, 0, 0, 0, 0, 0, 0, 0, 0, 0⟩ (2 ^ 64)) = false ∧ Instr.wellFormed (.jrTail 0 0) = true ∧ Instr.wellFormed
      (.jrTail 4096 0) = false ∧ Instr.wellFormed (.jrTail 0 (2 ^ 64)) = false ∧ Instr.wellFormed (.compress none 0 0) =
      true ∧ Instr.wellFormed (.compress (some (8192, 0)) 0 0) = false ∧ Instr.wellFormed (.compress none 0 (2 ^ 64)) =
      false ∧ Instr.wellFormed (.decompress none 0 0) = true ∧ Instr.wellFormed (.decompress (some (8192, 0)) 0 0) =
      false ∧ Instr.wellFormed (.decompress none 0 (2 ^ 64)) = false := by
  decide +kernel

theorem test_wf_jobDone_to_uplCommandEnd :
    Instr.wellFormed (.jobDone 0) = true ∧ Instr.wellFormed (.jobDone (2 ^ 64)) = false ∧ Instr.wellFormed (.abortJob 0)
      = true ∧ Instr.wellFormed (.abortJob (2 ^ 64)) = false ∧ Instr.wellFormed (.passDone 0) = true ∧ Instr.wellFormed
      (.passDone (2 ^ 64)) = false ∧ Instr.wellFormed (.bankSyncStart 0) = true ∧ Instr.wellFormed (.bankSyncStart (2 ^
      64)) = false ∧ Instr.wellFormed (.bankSyncDone 0) = true ∧ Instr.wellFormed (.bankSyncDone (2 ^ 64)) = false ∧
      Instr.wellFormed (.apertureWrite 0 4 0 0) = true ∧ Instr.wellFormed (.apertureWrite 0x400000 4 0 0) = false ∧
      Instr.wellFormed (.apertureWrite 0 3 0 0) = false ∧ Instr.wellFormed (.apertureWrite 0 4 (2 ^ 64) 0) = false ∧
      Instr.wellFormed (.apertureWrite 0 4 0 (2 ^ 64)) = false ∧ Instr.wellFormed (.uplCmdGo 0 0) = true ∧
      Instr.wellFormed (.uplCmdGo (2 ^ 32) 0) = false ∧ Instr.wellFormed (.uplCmdGo 0 (2 ^ 64)) = false ∧
      Instr.wellFormed (.copyRegions 0) = true ∧ Instr.wellFormed (.copyRegions (2 ^ 64)) = false ∧ Instr.wellFormed
      (.copyPack 0) = true ∧ Instr.wellFormed (.copyPack (2 ^ 64)) = false ∧ Instr.wellFormed (.copyPacked 0) = true ∧
      Instr.wellFormed (.copyPacked (2 ^ 64)) = false ∧ Instr.wellFormed (.unitRecords 0) = true ∧ Instr.wellFormed
      (.unitRecords (2 ^ 64)) = false ∧ Instr.wellFormed (.uplCommandEnd 0) = true ∧ Instr.wellFormed (.uplCommandEnd (2
      ^ 64)) = false := by
  decide +kernel

theorem test_wf_uplDoneRead_to_ttSyncDone :
    Instr.wellFormed (.uplDoneRead 0) = true ∧ Instr.wellFormed (.uplDoneRead (2 ^ 64)) = false ∧ Instr.wellFormed
      (.gapStart 0) = true ∧ Instr.wellFormed (.gapStart (2 ^ 64)) = false ∧ Instr.wellFormed (.readbackWindowEnd [] 0)
      = true ∧ Instr.wellFormed (.readbackWindowEnd [(0, [2 ^ 32])] 0) = false ∧ Instr.wellFormed (.readbackWindowEnd []
      (2 ^ 64)) = false ∧ Instr.wellFormed (.flipSend 0) = true ∧ Instr.wellFormed (.flipSend (2 ^ 64)) = false ∧
      Instr.wellFormed (.loadStart 0) = true ∧ Instr.wellFormed (.loadStart (2 ^ 64)) = false ∧ Instr.wellFormed
      (.loadDone 0) = true ∧ Instr.wellFormed (.loadDone (2 ^ 64)) = false ∧ Instr.wellFormed (.loadDeadline 0) = true ∧
      Instr.wellFormed (.loadDeadline (2 ^ 64)) = false ∧ Instr.wellFormed (.bandClose 0 0) = true ∧ Instr.wellFormed
      (.bandClose (2 ^ 15) 0) = false ∧ Instr.wellFormed (.bandClose 0 (2 ^ 64)) = false ∧ Instr.wellFormed (.bandFlip 0
      0) = true ∧ Instr.wellFormed (.bandFlip (2 ^ 15) 0) = false ∧ Instr.wellFormed (.bandFlip 0 (2 ^ 64)) = false ∧
      Instr.wellFormed (.ttCheck 0) = true ∧ Instr.wellFormed (.ttCheck (2 ^ 64)) = false ∧ Instr.wellFormed
      (.ttCheckDone 0) = true ∧ Instr.wellFormed (.ttCheckDone (2 ^ 64)) = false ∧ Instr.wellFormed (.ttSyncDone 0) =
      true ∧ Instr.wellFormed (.ttSyncDone (2 ^ 64)) = false := by
  decide +kernel

theorem test_wf_rampStep_to_latchClear :
    Instr.wellFormed (.rampStep 0 0 0 0) = true ∧ Instr.wellFormed (.rampStep 24 0 0 0) = false ∧ Instr.wellFormed
      (.rampStep 0 (2 ^ 16) 0 0) = false ∧ Instr.wellFormed (.rampStep 0 0 (2 ^ 16) 0) = false ∧ Instr.wellFormed
      (.rampStep 0 0 0 (2 ^ 64)) = false ∧ Instr.wellFormed (.railReady 0 0 0 0) = true ∧ Instr.wellFormed (.railReady
      24 0 0 0) = false ∧ Instr.wellFormed (.railReady 0 (2 ^ 16) 0 0) = false ∧ Instr.wellFormed (.railReady 0 0 (2 ^
      16) 0) = false ∧ Instr.wellFormed (.railReady 0 0 0 (2 ^ 64)) = false ∧ Instr.wellFormed (.discharged 0 0 0) =
      true ∧ Instr.wellFormed (.discharged 24 0 0) = false ∧ Instr.wellFormed (.discharged 0 (2 ^ 16) 0) = false ∧
      Instr.wellFormed (.discharged 0 0 (2 ^ 64)) = false ∧ Instr.wellFormed (.disTimeout 0 0 0 0) = true ∧
      Instr.wellFormed (.disTimeout 24 0 0 0) = false ∧ Instr.wellFormed (.disTimeout 0 (2 ^ 16) 0 0) = false ∧
      Instr.wellFormed (.disTimeout 0 0 (2 ^ 16) 0) = false ∧ Instr.wellFormed (.disTimeout 0 0 0 (2 ^ 64)) = false ∧
      Instr.wellFormed (.overcurrent 0 0 0 0 0) = true ∧ Instr.wellFormed (.overcurrent 24 0 0 0 0) = false ∧
      Instr.wellFormed (.overcurrent 0 0 (2 ^ 16) 0 0) = false ∧ Instr.wellFormed (.overcurrent 0 0 0 (2 ^ 16) 0) =
      false ∧ Instr.wellFormed (.overcurrent 0 0 0 0 (2 ^ 64)) = false ∧ Instr.wellFormed (.overvoltage 0 0 0 0) = true
      ∧ Instr.wellFormed (.overvoltage 24 0 0 0) = false ∧ Instr.wellFormed (.overvoltage 0 (2 ^ 16) 0 0) = false ∧
      Instr.wellFormed (.overvoltage 0 0 (2 ^ 16) 0) = false ∧ Instr.wellFormed (.overvoltage 0 0 0 (2 ^ 64)) = false ∧
      Instr.wellFormed (.undervoltage 0 0 0 0) = true ∧ Instr.wellFormed (.undervoltage 24 0 0 0) = false ∧
      Instr.wellFormed (.undervoltage 0 (2 ^ 16) 0 0) = false ∧ Instr.wellFormed (.undervoltage 0 0 (2 ^ 16) 0) = false
      ∧ Instr.wellFormed (.undervoltage 0 0 0 (2 ^ 64)) = false ∧ Instr.wellFormed (.externalFault 0 0 0 0) = true ∧
      Instr.wellFormed (.externalFault 24 0 0 0) = false ∧ Instr.wellFormed (.externalFault 0 (2 ^ 16) 0 0) = false ∧
      Instr.wellFormed (.externalFault 0 0 (2 ^ 16) 0) = false ∧ Instr.wellFormed (.externalFault 0 0 0 (2 ^ 64)) =
      false ∧ Instr.wellFormed (.clrFault 0 0) = true ∧ Instr.wellFormed (.clrFault 24 0) = false ∧ Instr.wellFormed
      (.clrFault 0 (2 ^ 64)) = false ∧ Instr.wellFormed (.auxLimit 0 0) = true ∧ Instr.wellFormed (.auxLimit 2 0) =
      false ∧ Instr.wellFormed (.auxLimit 0 (2 ^ 64)) = false ∧ Instr.wellFormed (.auxRetry 0 false 0) = true ∧
      Instr.wellFormed (.auxRetry 2 false 0) = false ∧ Instr.wellFormed (.auxRetry 0 false (2 ^ 64)) = false ∧
      Instr.wellFormed (.latchClear 0 0) = true ∧ Instr.wellFormed (.latchClear (2 ^ 64) 0) = false ∧ Instr.wellFormed
      (.latchClear 0 (2 ^ 64)) = false := by
  decide +kernel

theorem test_wf_faultMapWrite_to_returnChannel :
    Instr.wellFormed (.faultMapWrite 0 4 0 0) = true ∧ Instr.wellFormed (.faultMapWrite 0x100000 4 0 0) = false ∧
      Instr.wellFormed (.faultMapWrite 0 3 0 0) = false ∧ Instr.wellFormed (.faultMapWrite 0 4 (2 ^ 64) 0) = false ∧
      Instr.wellFormed (.faultMapWrite 0 4 0 (2 ^ 64)) = false ∧ Instr.wellFormed (.trainDone 0 0 0) = true ∧
      Instr.wellFormed (.trainDone 4 0 0) = false ∧ Instr.wellFormed (.trainDone 0 0 (2 ^ 64)) = false ∧
      Instr.wellFormed (.dramTrainTimeout 0 0) = true ∧ Instr.wellFormed (.dramTrainTimeout 4 0) = false ∧
      Instr.wellFormed (.dramTrainTimeout 0 (2 ^ 64)) = false ∧ Instr.wellFormed (.fillDone 0 0) = true ∧
      Instr.wellFormed (.fillDone 4 0) = false ∧ Instr.wellFormed (.fillDone 0 (2 ^ 64)) = false ∧ Instr.wellFormed
      (.resilverDone 0 0) = true ∧ Instr.wellFormed (.resilverDone 4 0) = false ∧ Instr.wellFormed (.resilverDone 0 (2 ^
      64)) = false ∧ Instr.wellFormed (.retrainStart 0 0) = true ∧ Instr.wellFormed (.retrainStart 4 0) = false ∧
      Instr.wellFormed (.retrainStart 0 (2 ^ 64)) = false ∧ Instr.wellFormed (.retrainEnd 0 none 0) = true ∧
      Instr.wellFormed (.retrainEnd 4 none 0) = false ∧ Instr.wellFormed (.retrainEnd 0 none (2 ^ 64)) = false ∧
      Instr.wellFormed (.retrainNow 0 0) = true ∧ Instr.wellFormed (.retrainNow 4 0) = false ∧ Instr.wellFormed
      (.retrainNow 0 (2 ^ 64)) = false ∧ Instr.wellFormed (.srEnter 0 0) = true ∧ Instr.wellFormed (.srEnter 4 0) =
      false ∧ Instr.wellFormed (.srEnter 0 (2 ^ 64)) = false ∧ Instr.wellFormed (.srExit 0 0) = true ∧ Instr.wellFormed
      (.srExit 4 0) = false ∧ Instr.wellFormed (.srExit 0 (2 ^ 64)) = false ∧ Instr.wellFormed (.offlineChannel 0 0) =
      true ∧ Instr.wellFormed (.offlineChannel 4 0) = false ∧ Instr.wellFormed (.offlineChannel 0 (2 ^ 64)) = false ∧
      Instr.wellFormed (.returnChannel 0 0) = true ∧ Instr.wellFormed (.returnChannel 4 0) = false ∧ Instr.wellFormed
      (.returnChannel 0 (2 ^ 64)) = false := by
  decide +kernel

theorem test_wf_bistGo_to_tileRegWriteMasked :
    Instr.wellFormed (.bistGo 0 0) = true ∧ Instr.wellFormed (.bistGo 4 0) = false ∧ Instr.wellFormed (.bistGo 0 (2 ^
      64)) = false ∧ Instr.wellFormed (.bistDone 0 none 0) = true ∧ Instr.wellFormed (.bistDone 4 none 0) = false ∧
      Instr.wellFormed (.bistDone 0 none (2 ^ 64)) = false ∧ Instr.wellFormed (.dramAccess 0 0 0 false 0 0 0 0 false
      false 0) = true ∧ Instr.wellFormed (.dramAccess 8 0 0 false 0 0 0 0 false false 0) = false ∧ Instr.wellFormed
      (.dramAccess 0 (2 ^ 64) 0 false 0 0 0 0 false false 0) = false ∧ Instr.wellFormed (.dramAccess 0 0 0 false 0 0 0 0
      false false (2 ^ 64)) = false ∧ Instr.wellFormed (.sramParity 0x80000 0 0 0 0 none 0) = true ∧ Instr.wellFormed
      (.sramParity 0x80004 0 0 0 0 none 0) = false ∧ Instr.wellFormed (.sramParity 0x80000 0 0 0 (2 ^ 25) none 0) =
      false ∧ Instr.wellFormed (.sramParity 0x80000 0 0 0 0 (some (32, 0, 0)) 0) = false ∧ Instr.wellFormed (.sramParity
      0x80000 0 0 0 0 none (2 ^ 64)) = false ∧ Instr.wellFormed (.patrolRead 0) = true ∧ Instr.wellFormed (.patrolRead
      (2 ^ 64)) = false ∧ Instr.wellFormed (.patBadRead 0) = true ∧ Instr.wellFormed (.patBadRead (2 ^ 64)) = false ∧
      Instr.wellFormed (.barAccess 0 0 0 none 0) = true ∧ Instr.wellFormed (.barAccess 16 0 0 none 0) = false ∧
      Instr.wellFormed (.barAccess 0 (2 ^ 25) 0 none 0) = false ∧ Instr.wellFormed (.barAccess 0 0 0 none (2 ^ 64)) =
      false ∧ Instr.wellFormed (.doorbell 0 0 0 0) = true ∧ Instr.wellFormed (.doorbell 16 0 0 0) = false ∧
      Instr.wellFormed (.doorbell 0 8192 0 0) = false ∧ Instr.wellFormed (.doorbell 0 0 4096 0) = false ∧
      Instr.wellFormed (.doorbell 0 0 0 (2 ^ 64)) = false ∧ Instr.wellFormed (.descriptorFetch 0 (List.replicate 64 0)
      false false 0) = true ∧ Instr.wellFormed (.descriptorFetch 8192 (List.replicate 64 0) false false 0) = false ∧
      Instr.wellFormed (.descriptorFetch 0 [] false false 0) = false ∧ Instr.wellFormed (.descriptorFetch 0
      (List.replicate 64 0) false false (2 ^ 64)) = false ∧ Instr.wellFormed (.tileRegRead 0 0 0) = true ∧
      Instr.wellFormed (.tileRegRead 8192 0 0) = false ∧ Instr.wellFormed (.tileRegRead 0 4096 0) = false ∧
      Instr.wellFormed (.tileRegRead 0 0 (2 ^ 64)) = false ∧ Instr.wellFormed (.tileRegWrite 0 0 0) = true ∧
      Instr.wellFormed (.tileRegWrite 8192 0 0) = false ∧ Instr.wellFormed (.tileRegWrite 0 4096 0) = false ∧
      Instr.wellFormed (.tileRegWrite 0 0 (2 ^ 64)) = false ∧ Instr.wellFormed (.tileRegWriteMasked 0 0 0) = true ∧
      Instr.wellFormed (.tileRegWriteMasked 8192 0 0) = false ∧ Instr.wellFormed (.tileRegWriteMasked 0 4096 0) = false
      ∧ Instr.wellFormed (.tileRegWriteMasked 0 0 (2 ^ 64)) = false := by
  decide +kernel

theorem test_wf_tileRegPing_to_ruleDone :
    Instr.wellFormed (.tileRegPing 0 0 0) = true ∧ Instr.wellFormed (.tileRegPing 8192 0 0) = false ∧ Instr.wellFormed
      (.tileRegPing 0 4096 0) = false ∧ Instr.wellFormed (.tileRegPing 0 0 (2 ^ 64)) = false ∧ Instr.wellFormed
      (.layerRead 0 0 0) = true ∧ Instr.wellFormed (.layerRead 8192 0 0) = false ∧ Instr.wellFormed (.layerRead 0 4096
      0) = false ∧ Instr.wellFormed (.layerRead 0 0 (2 ^ 64)) = false ∧ Instr.wellFormed (.layerWrite 0 0 0) = true ∧
      Instr.wellFormed (.layerWrite 8192 0 0) = false ∧ Instr.wellFormed (.layerWrite 0 4096 0) = false ∧
      Instr.wellFormed (.layerWrite 0 0 (2 ^ 64)) = false ∧ Instr.wellFormed (.layerWriteMasked 0 0 0) = true ∧
      Instr.wellFormed (.layerWriteMasked 8192 0 0) = false ∧ Instr.wellFormed (.layerWriteMasked 0 4096 0) = false ∧
      Instr.wellFormed (.layerWriteMasked 0 0 (2 ^ 64)) = false ∧ Instr.wellFormed (.cardWrite 0 0 0) = true ∧
      Instr.wellFormed (.cardWrite 8192 0 0) = false ∧ Instr.wellFormed (.cardWrite 0 4096 0) = false ∧ Instr.wellFormed
      (.cardWrite 0 0 (2 ^ 64)) = false ∧ Instr.wellFormed (.cardCopy 0 0 [] none 0) = true ∧ Instr.wellFormed
      (.cardCopy 8192 0 [] none 0) = false ∧ Instr.wellFormed (.cardCopy 0 4096 [] none 0) = false ∧ Instr.wellFormed
      (.cardCopy 0 0 [] none (2 ^ 64)) = false ∧ Instr.wellFormed (.upload 0 0 [] false 0) = true ∧ Instr.wellFormed
      (.upload 8192 0 [] false 0) = false ∧ Instr.wellFormed (.upload 0 4096 [] false 0) = false ∧ Instr.wellFormed
      (.upload 0 0 (List.replicate 33 0) false 0) = false ∧ Instr.wellFormed (.upload 0 0 [] false (2 ^ 64)) = false ∧
      Instr.wellFormed (.departWrite 0 0 0) = true ∧ Instr.wellFormed (.departWrite 8192 0 0) = false ∧ Instr.wellFormed
      (.departWrite 0 4096 0) = false ∧ Instr.wellFormed (.departWrite 0 0 (2 ^ 64)) = false ∧ Instr.wellFormed
      (.departCancel 0 0 0) = true ∧ Instr.wellFormed (.departCancel 8192 0 0) = false ∧ Instr.wellFormed (.departCancel
      0 4096 0) = false ∧ Instr.wellFormed (.departCancel 0 0 (2 ^ 64)) = false ∧ Instr.wellFormed (.queueDisable 0 0) =
      true ∧ Instr.wellFormed (.queueDisable 8192 0) = false ∧ Instr.wellFormed (.queueDisable 0 (2 ^ 64)) = false ∧
      Instr.wellFormed (.ruleCommit 0) = true ∧ Instr.wellFormed (.ruleCommit (2 ^ 64)) = false ∧ Instr.wellFormed
      (.ruleDone 0) = true ∧ Instr.wellFormed (.ruleDone (2 ^ 64)) = false := by
  decide +kernel

theorem test_wf_flr_to_resyncRelief :
    Instr.wellFormed (.flr 0 0) = true ∧ Instr.wellFormed (.flr 16 0) = false ∧ Instr.wellFormed (.flr 0 (2 ^ 64)) =
      false ∧ Instr.wellFormed (.perstN 0) = true ∧ Instr.wellFormed (.perstN (2 ^ 64)) = false ∧ Instr.wellFormed
      (.sendMessage 0 0 0) = true ∧ Instr.wellFormed (.sendMessage 24 0 0) = false ∧ Instr.wellFormed (.sendMessage 0 2
      0) = false ∧ Instr.wellFormed (.sendMessage 0 0 (2 ^ 64)) = false ∧ Instr.wellFormed (.popMessage 0 0 0) = true ∧
      Instr.wellFormed (.popMessage 24 0 0) = false ∧ Instr.wellFormed (.popMessage 0 2 0) = false ∧ Instr.wellFormed
      (.popMessage 0 0 (2 ^ 64)) = false ∧ Instr.wellFormed (.mailboxTimeout 0 0 0) = true ∧ Instr.wellFormed
      (.mailboxTimeout 24 0 0) = false ∧ Instr.wellFormed (.mailboxTimeout 0 2 0) = false ∧ Instr.wellFormed
      (.mailboxTimeout 0 0 (2 ^ 64)) = false ∧ Instr.wellFormed (.testGo 0 0 0 0) = true ∧ Instr.wellFormed (.testGo 256
      0 0 0) = false ∧ Instr.wellFormed (.testGo 0 256 0 0) = false ∧ Instr.wellFormed (.testGo 0 0 16 0) = false ∧
      Instr.wellFormed (.testGo 0 0 0 (2 ^ 64)) = false ∧ Instr.wellFormed (.testDone 1 0 0) = true ∧ Instr.wellFormed
      (.testDone 0 0 0) = false ∧ Instr.wellFormed (.testDone 4 0 0) = false ∧ Instr.wellFormed (.testDone 1 (2 ^ 32) 0)
      = false ∧ Instr.wellFormed (.testDone 1 0 (2 ^ 64)) = false ∧ Instr.wellFormed (.testResume 0) = true ∧
      Instr.wellFormed (.testResume (2 ^ 64)) = false ∧ Instr.wellFormed (.leadWaitEnd 0) = true ∧ Instr.wellFormed
      (.leadWaitEnd (2 ^ 64)) = false ∧ Instr.wellFormed (.streamGap 0 0) = true ∧ Instr.wellFormed (.streamGap 2 0) =
      false ∧ Instr.wellFormed (.streamGap 0 (2 ^ 64)) = false ∧ Instr.wellFormed (.handover 0) = true ∧
      Instr.wellFormed (.handover (2 ^ 64)) = false ∧ Instr.wellFormed (.resyncRelief 0) = true ∧ Instr.wellFormed
      (.resyncRelief (2 ^ 64)) = false := by
  decide +kernel

theorem test_wf_clusterState_to_confirmMc :
    Instr.wellFormed (.clusterState ⟨0, 0, 0, 0, 0, 0, 0, 0, 0, 0, 0, 0, 0, 0, 0, false, 0, 0, 0, false, ⟨0, 0, 0, []⟩⟩
      0) = true ∧ Instr.wellFormed (.clusterState ⟨32, 0, 0, 0, 0, 0, 0, 0, 0, 0, 0, 0, 0, 0, 0, false, 0, 0, 0, false,
      ⟨0, 0, 0, []⟩⟩ 0) = false ∧ Instr.wellFormed (.clusterState ⟨0, 0, 0, 0, 0, 0, 0, 0, 0, 0, 0, 0, 0, 0, 0, false,
      0, 0, 0, false, ⟨0, 0, 0, []⟩⟩ (2 ^ 64)) = false ∧ Instr.wellFormed (.epochRequest 0) = true ∧ Instr.wellFormed
      (.epochRequest (2 ^ 64)) = false ∧ Instr.wellFormed (.epochCancel 0) = true ∧ Instr.wellFormed (.epochCancel (2 ^
      64)) = false ∧ Instr.wellFormed (.masterLost 0) = true ∧ Instr.wellFormed (.masterLost (2 ^ 64)) = false ∧
      Instr.wellFormed (.roundDone (List.replicate 64 0) 0 0) = true ∧ Instr.wellFormed (.roundDone [] 0 0) = false ∧
      Instr.wellFormed (.roundDone (List.replicate 64 0) 0 (2 ^ 64)) = false ∧ Instr.wellFormed (.graceEnd 0) = true ∧
      Instr.wellFormed (.graceEnd (2 ^ 64)) = false ∧ Instr.wellFormed (.enforceNow 0) = true ∧ Instr.wellFormed
      (.enforceNow (2 ^ 64)) = false ∧ Instr.wellFormed (.engDivStep 0) = true ∧ Instr.wellFormed (.engDivStep (2 ^ 64))
      = false ∧ Instr.wellFormed (.brokenClear 0 0) = true ∧ Instr.wellFormed (.brokenClear (2 ^ 64) 0) = false ∧
      Instr.wellFormed (.brokenClear 0 (2 ^ 64)) = false ∧ Instr.wellFormed (.calRun 0) = true ∧ Instr.wellFormed
      (.calRun (2 ^ 64)) = false ∧ Instr.wellFormed (.fieldDone 0 0 0) = true ∧ Instr.wellFormed (.fieldDone 0 0 (2 ^
      64)) = false ∧ Instr.wellFormed (.confirmMc 0) = true ∧ Instr.wellFormed (.confirmMc (2 ^ 64)) = false := by
  decide +kernel

theorem test_wf_confirmLc_to_slotClose :
    Instr.wellFormed (.confirmLc 0) = true ∧ Instr.wellFormed (.confirmLc (2 ^ 64)) = false ∧ Instr.wellFormed
      (.confirmWindowEnd 0 0) = true ∧ Instr.wellFormed (.confirmWindowEnd 2 0) = false ∧ Instr.wellFormed
      (.confirmWindowEnd 0 (2 ^ 64)) = false ∧ Instr.wellFormed (.rbCommit false 0) = true ∧ Instr.wellFormed (.rbCommit
      false (2 ^ 64)) = false ∧ Instr.wellFormed (.checkDone 0 0) = true ∧ Instr.wellFormed (.checkDone 6 0) = false ∧
      Instr.wellFormed (.checkDone 0 (2 ^ 64)) = false ∧ Instr.wellFormed (.serviceFrame .other 0) = true ∧
      Instr.wellFormed (.serviceFrame (.arp (2 ^ 32)) 0) = false ∧ Instr.wellFormed (.serviceFrame .other (2 ^ 64)) =
      false ∧ Instr.wellFormed (.svpLinkUp 0) = true ∧ Instr.wellFormed (.svpLinkUp (2 ^ 64)) = false ∧ Instr.wellFormed
      (.svpLinkDown 0) = true ∧ Instr.wellFormed (.svpLinkDown (2 ^ 64)) = false ∧ Instr.wellFormed (.regRead ⟨⟨0, 0,
      0⟩, 0, 0, 0, 0, 0, []⟩ 0) = true ∧ Instr.wellFormed (.regRead ⟨⟨2 ^ 32, 0, 0⟩, 0, 0, 0, 0, 0, []⟩ 0) = false ∧
      Instr.wellFormed (.regRead ⟨⟨0, 0, 0⟩, 0, 0, 0, 0, 0, []⟩ (2 ^ 64)) = false ∧ Instr.wellFormed (.regWrite ⟨⟨0, 0,
      0⟩, 0, 0, 0, 0, 0, []⟩ 0) = true ∧ Instr.wellFormed (.regWrite ⟨⟨2 ^ 32, 0, 0⟩, 0, 0, 0, 0, 0, []⟩ 0) = false ∧
      Instr.wellFormed (.regWrite ⟨⟨0, 0, 0⟩, 0, 0, 0, 0, 0, []⟩ (2 ^ 64)) = false ∧ Instr.wellFormed (.slotOpen ⟨⟨0, 0,
      0⟩, 0, 0, 0, 0, 0, []⟩ 0) = true ∧ Instr.wellFormed (.slotOpen ⟨⟨2 ^ 32, 0, 0⟩, 0, 0, 0, 0, 0, []⟩ 0) = false ∧
      Instr.wellFormed (.slotOpen ⟨⟨0, 0, 0⟩, 0, 0, 0, 0, 0, []⟩ (2 ^ 64)) = false ∧ Instr.wellFormed (.slotData ⟨⟨0, 0,
      0⟩, 0, 0, 0, 0, 0, []⟩ false 0) = true ∧ Instr.wellFormed (.slotData ⟨⟨2 ^ 32, 0, 0⟩, 0, 0, 0, 0, 0, []⟩ false 0)
      = false ∧ Instr.wellFormed (.slotData ⟨⟨0, 0, 0⟩, 0, 0, 0, 0, 0, []⟩ false (2 ^ 64)) = false ∧ Instr.wellFormed
      (.slotClose ⟨⟨0, 0, 0⟩, 0, 0, 0, 0, 0, []⟩ 0) = true ∧ Instr.wellFormed (.slotClose ⟨⟨2 ^ 32, 0, 0⟩, 0, 0, 0, 0,
      0, []⟩ 0) = false ∧ Instr.wellFormed (.slotClose ⟨⟨0, 0, 0⟩, 0, 0, 0, 0, 0, []⟩ (2 ^ 64)) = false := by
  decide +kernel

theorem test_wf_mbx_to_rowSelectEdge :
    Instr.wellFormed (.mbx ⟨⟨0, 0, 0⟩, 0, 0, 0, 0, 0, []⟩ 0) = true ∧ Instr.wellFormed (.mbx ⟨⟨2 ^ 32, 0, 0⟩, 0, 0, 0,
      0, 0, []⟩ 0) = false ∧ Instr.wellFormed (.mbx ⟨⟨0, 0, 0⟩, 0, 0, 0, 0, 0, []⟩ (2 ^ 64)) = false ∧ Instr.wellFormed
      (.keyRevoke ⟨⟨0, 0, 0⟩, 0, 0, 0, 0, 0, []⟩ 0) = true ∧ Instr.wellFormed (.keyRevoke ⟨⟨2 ^ 32, 0, 0⟩, 0, 0, 0, 0,
      0, []⟩ 0) = false ∧ Instr.wellFormed (.keyRevoke ⟨⟨0, 0, 0⟩, 0, 0, 0, 0, 0, []⟩ (2 ^ 64)) = false ∧
      Instr.wellFormed (.sessionTimeout 0) = true ∧ Instr.wellFormed (.sessionTimeout (2 ^ 64)) = false ∧
      Instr.wellFormed (.rowSelectEdge 0) = true ∧ Instr.wellFormed (.rowSelectEdge (2 ^ 64)) = false := by
  decide +kernel

/-! ### Values that the spec works out -/

/-- The check value of R191 over the bytes of "123456789". -/
theorem test_crc32_check : crc32 [49, 50, 51, 52, 53, 54, 55, 56, 57] = 0xCBF43926 := by decide +kernel

/-- The check value of the digest's CRC-64 (chapter 16) over the same bytes. -/
theorem test_crc64_check : crc64 [49, 50, 51, 52, 53, 54, 55, 56, 57] = 0x995DC9BBDF1939FA := by decide +kernel

/-- The KLOILE18 block of chapter 10: mode 1 wins with E = 26 and the first pixel decodes to (3,111, 1,191, 1,191). -/
theorem test_kloile18_block :
    let b := codeBlock 2 (List.replicate 8 ⟨3085, 1200, 1200⟩ ++ List.replicate 8 ⟨1200, 1200, 3085⟩)
    b.1 % 2 = 1 ∧ b.2.2 = 26 ∧ b.2.1.head? = some ⟨3111, 1191, 1191⟩ ∧ decodeBlock 2 b.1 = b.2.1 := by decide +kernel

/-- The rail of chapter 13 with 40,000 µF (COUT 4,000): VCAP is 600 at 500 mJ and is limited to 800 at 1,000 mJ. -/
theorem test_vcap : vcapOf 500 4000 = some 600 ∧ vcapOf 1000 4000 = some 800 := by decide +kernel

end Sys2Proof.Machine
end

/-!
What every command and every step keep, and which modules take every command: the statements of spec/00_scope.md.
-/
namespace Sys2Proof.Machine

/-! ### No command stops on a module that has not sagged -/

/-- The frame around a command stops only after a sag (R376). -/
theorem run_completes {f : State → State} {s : State} (h : s.power ≠ .sagged) : ∃ t, run f s = .next t := by
  unfold run
  cases hp : s.power with
  | sagged => exact absurd hp h
  | running | held | hot | off => exact ⟨_, rfl⟩

/-- Three commands complete whatever the power, three look at the power themselves, and every other one is wrapped in
`run`. -/
theorem exec_completes {s : State} (c : Instr) (h : s.power ≠ .sagged) : ∃ t, exec c s = .next t := by
  cases c with
  | powerUp | internal5vLoss | resetN => exact ⟨_, rfl⟩
  | resetRelease | modrst | shutdownRestart =>
    simp only [exec, execResetRelease, execModrst, execShutdownRestart]
    cases hp : s.power with
    | sagged => exact absurd hp h
    | running | held | hot | off => exact ⟨_, rfl⟩
  | _ =>
    unfold exec
    exact run_completes h

/-- Settles O4: whatever the operands, only the sag makes a command stop. -/
theorem everyCommandCompletes : Obligations.EveryCommandCompletes :=
  fun _ c h => exec_completes c h

/-! ### Every step keeps the canonical forms -/

/-- Everything may change: of `State.Keeps` there remain the canonical forms, the queue, the outputs already sent and the
count of free values. -/
def May.all : May := ⟨fun _ => True, fun _ => True⟩

@[simp] theorem May.all_part (p : Part) : May.all.part p := trivial
@[simp] theorem May.all_fld (f : Fld) : May.all.fld f := trivial

/-- The invariant of one command: each meaning has its own lemma of Laws/Keeps*.lean, and what that lemma wants named is
named by `May.all`. -/
theorem State.leaves_all {s : State} (hs : s.Canon) (c : Instr) : s.leaves c May.all := by
  have hk : s.Keeps May.all s := Keep.refl hs
  unfold State.leaves
  cases c
  case' powerUp => apply execPowerUp_good
  case' internal5vLoss => apply execInternal5vLoss_good
  case' resetN => apply execResetN_good
  case' resetRelease => apply execResetRelease_good
  case' softwareReset => apply execSoftwareReset_good
  case' modrst => apply execModrst_good
  case' thermalReset => apply execThermalReset_good
  case' shutdownRestart => apply execShutdownRestart_good
  case' refclkLost => apply execRefclkLost_good
  case' retAuto => apply execRetAuto_good
  case' retNow => apply execRetNow_good
  case' registerWrite => apply execRegisterWrite_good
  case' rcRead => apply execRcRead_good
  case' evtPendClear => apply execEvtPendClear_good
  case' evtSet => apply execEvtSet_good
  case' evtEnWrite => apply execEvtEnWrite_good
  case' errInfoClear => apply execErrInfoClear_good
  case' pageEnable => apply execPageEnable_good
  case' pageDisable => apply execPageDisable_good
  case' softReset => apply execSoftReset_good
  case' commitArm => apply execCommitArm_good
  case' commitDisarm => apply execCommitDisarm_good
  case' freezePage => apply execFreezePage_good
  case' unfreezePage => apply execUnfreezePage_good
  case' hwFreeze => apply execHwFreeze_good
  case' modeNextWrite => apply execModeNextWrite_good
  case' modeFallbackWrite => apply execModeFallbackWrite_good
  case' frameDeparture => apply execFrameDeparture_good
  case' viewDeparture => apply execViewDeparture_good
  case' commitEntry => apply execCommitEntry_good
  case' epochFlip => apply execEpochFlip_good
  case' scheduleEntry => apply execScheduleEntry_good
  case' fwActivate => apply execFwActivate_good
  case' railStep => apply execRailStep_good
  case' wallSwitch => apply execWallSwitch_good
  case' pulse => apply execPulse_good
  case' markEntry => apply execMarkEntry_good
  case' entMissed => apply execEntMissed_good
  case' entWrite => apply execEntWrite_good
  case' entRead => apply execEntRead_good
  case' entCancel => apply execEntCancel_good
  case' startupEpochLoad => apply execStartupEpochLoad_good
  case' domMeas => apply execDomMeas_good
  case' domainEnable => apply execDomainEnable_good
  case' domainDisable => apply execDomainDisable_good
  case' domainLossTimeout => apply execDomainLossTimeout_good
  case' switchNow => apply execSwitchNow_good
  case' wallSelWrite => apply execWallSelWrite_good
  case' slewEnd => apply execSlewEnd_good
  case' timeInterval => apply execTimeInterval_good
  case' timeMessage => apply execTimeMessage_good
  case' schedInterval => apply execSchedInterval_good
  case' sched => apply execSched_good
  case' ldInterval => apply execLdInterval_good
  case' ldReq => apply execLdReq_good
  case' ldRsp => apply execLdRsp_good
  case' ldTimeout => apply execLdTimeout_good
  case' tickin => apply execTickin_good
  case' tickWindowEnd => apply execTickWindowEnd_good
  case' frameSrcWrite => apply execFrameSrcWrite_good
  case' tickoutPulse => apply execTickoutPulse_good
  case' ppsPulse => apply execPpsPulse_good
  case' ethLinkUp => apply execEthLinkUp_good
  case' ethLinkDown => apply execEthLinkDown_good
  case' ethFrame => apply execEthFrame_good
  case' ingPacket => apply execIngPacket_good
  case' mergeWaitEnd => apply execMergeWaitEnd_good
  case' legLost => apply execLegLost_good
  case' flowLost => apply execFlowLost_good
  case' flowEnable => apply execFlowEnable_good
  case' flowDisable => apply execFlowDisable_good
  case' legEnable => apply execLegEnable_good
  case' cardCheck => apply execCardCheck_good
  case' cardCheckDone => apply execCardCheckDone_good
  case' cardSyncDone => apply execCardSyncDone_good
  case' spireCheck => apply execSpireCheck_good
  case' spireSyncDone => apply execSpireSyncDone_good
  case' otgFrameStart => apply execOtgFrameStart_good
  case' blankStart => apply execBlankStart_good
  case' otgAbort => apply execOtgAbort_good
  case' monitorFrame => apply execMonitorFrame_good
  case' trainingFrame => apply execTrainingFrame_good
  case' trainTimeout => apply execTrainTimeout_good
  case' trainGiveUp => apply execTrainGiveUp_good
  case' laneLocked => apply execLaneLocked_good
  case' lockEnd => apply execLockEnd_good
  case' capxSend => apply execCapxSend_good
  case' capx => apply execCapx_good
  case' capxTimeout => apply execCapxTimeout_good
  case' retryInterval => apply execRetryInterval_good
  case' restartPort => apply execRestartPort_good
  case' maxWidthWrite => apply execMaxWidthWrite_good
  case' groupHeader => apply execGroupHeader_good
  case' replayTimeout => apply execReplayTimeout_good
  case' laneFault => apply execLaneFault_good
  case' retrainDone => apply execRetrainDone_good
  case' laneRetry => apply execLaneRetry_good
  case' laneRetire => apply execLaneRetire_good
  case' linkState => apply execLinkState_good
  case' enumStart => apply execEnumStart_good
  case' enumMsg => apply execEnumMsg_good
  case' enumRsp => apply execEnumRsp_good
  case' enumTimeout => apply execEnumTimeout_good
  case' frameHeader => apply execFrameHeader_good
  case' shareHeader => apply execShareHeader_good
  case' segmentHeader => apply execSegmentHeader_good
  case' rowData => apply execRowData_good
  case' shareTrailer => apply execShareTrailer_good
  case' viewTrailer => apply execViewTrailer_good
  case' req => apply execReq_good
  case' readTxn => apply execReadTxn_good
  case' writeTxn => apply execWriteTxn_good
  case' writeMasked => apply execWriteMasked_good
  case' ping => apply execPing_good
  case' rsp => apply execRsp_good
  case' txnTimeout => apply execTxnTimeout_good
  case' creditRelease => apply execCreditRelease_good
  case' svc => apply execSvc_good
  case' svcAck => apply execSvcAck_good
  case' svcResend => apply execSvcResend_good
  case' mirrorRecord => apply execMirrorRecord_good
  case' mirrorGap => apply execMirrorGap_good
  case' telem => apply execTelem_good
  case' jrTail => apply execJrTail_good
  case' compress => apply execCompress_good
  case' decompress => apply execDecompress_good
  case' jobDone => apply execJobDone_good
  case' abortJob => apply execAbortJob_good
  case' passDone => apply execPassDone_good
  case' bankSyncStart => apply execBankSyncStart_good
  case' bankSyncDone => apply execBankSyncDone_good
  case' apertureWrite => apply execApertureWrite_good
  case' uplCmdGo => apply execUplCmdGo_good
  case' copyRegions => apply execCopyRegions_good
  case' copyPack => apply execCopyPack_good
  case' copyPacked => apply execCopyPacked_good
  case' unitRecords => apply execUnitRecords_good
  case' uplCommandEnd => apply execUplCommandEnd_good
  case' uplDoneRead => apply execUplDoneRead_good
  case' gapStart => apply execGapStart_good
  case' readbackWindowEnd => apply execReadbackWindowEnd_good
  case' flipSend => apply execFlipSend_good
  case' loadStart => apply execLoadStart_good
  case' loadDone => apply execLoadDone_good
  case' loadDeadline => apply execLoadDeadline_good
  case' bandClose => apply execBandClose_good
  case' bandFlip => apply execBandFlip_good
  case' ttCheck => apply execTtCheck_good
  case' ttCheckDone => apply execTtCheckDone_good
  case' ttSyncDone => apply execTtSyncDone_good
  case' rampStep => apply execRampStep_good
  case' railReady => apply execRailReady_good
  case' discharged => apply execDischarged_good
  case' disTimeout => apply execDisTimeout_good
  case' overcurrent => apply execOvercurrent_good
  case' overvoltage => apply execOvervoltage_good
  case' undervoltage => apply execUndervoltage_good
  case' externalFault => apply execExternalFault_good
  case' clrFault => apply execClrFault_good
  case' auxLimit => apply execAuxLimit_good
  case' auxRetry => apply execAuxRetry_good
  case' latchClear => apply execLatchClear_good
  case' faultMapWrite => apply execFaultMapWrite_good
  case' trainDone => apply execTrainDone_good
  case' dramTrainTimeout => apply execDramTrainTimeout_good
  case' fillDone => apply execFillDone_good
  case' resilverDone => apply execResilverDone_good
  case' retrainStart => apply execRetrainStart_good
  case' retrainEnd => apply execRetrainEnd_good
  case' retrainNow => apply execRetrainNow_good
  case' srEnter => apply execSrEnter_good
  case' srExit => apply execSrExit_good
  case' offlineChannel => apply execOfflineChannel_good
  case' returnChannel => apply execReturnChannel_good
  case' bistGo => apply execBistGo_good
  case' bistDone => apply execBistDone_good
  case' dramAccess => apply execDramAccess_good
  case' sramParity => apply execSramParity_good
  case' patrolRead => apply execPatrolRead_good
  case' patBadRead => apply execPatBadRead_good
  case' barAccess => apply execBarAccess_good
  case' doorbell => apply execDoorbell_good
  case' descriptorFetch => apply execDescriptorFetch_good
  case' tileRegRead => apply execTileRegRead_good
  case' tileRegWrite => apply execTileRegWrite_good
  case' tileRegWriteMasked => apply execTileRegWriteMasked_good
  case' tileRegPing => apply execTileRegPing_good
  case' layerRead => apply execLayerRead_good
  case' layerWrite => apply execLayerWrite_good
  case' layerWriteMasked => apply execLayerWriteMasked_good
  case' cardWrite => apply execCardWrite_good
  case' cardCopy => apply execCardCopy_good
  case' upload => apply execUpload_good
  case' departWrite => apply execDepartWrite_good
  case' departCancel => apply execDepartCancel_good
  case' queueDisable => apply execQueueDisable_good
  case' ruleCommit => apply execRuleCommit_good
  case' ruleDone => apply execRuleDone_good
  case' flr => apply execFlr_good
  case' perstN => apply execPerstN_good
  case' sendMessage => apply execSendMessage_good
  case' popMessage => apply execPopMessage_good
  case' mailboxTimeout => apply execMailboxTimeout_good
  case' testGo => apply execTestGo_good
  case' testDone => apply execTestDone_good
  case' testResume => apply execTestResume_good
  case' leadWaitEnd => apply execLeadWaitEnd_good
  case' streamGap => apply execStreamGap_good
  case' handover => apply execHandover_good
  case' resyncRelief => apply execResyncRelief_good
  case' clusterState => apply execClusterState_good
  case' epochRequest => apply execEpochRequest_good
  case' epochCancel => apply execEpochCancel_good
  case' masterLost => apply execMasterLost_good
  case' roundDone => apply execRoundDone_good
  case' graceEnd => apply execGraceEnd_good
  case' enforceNow => apply execEnforceNow_good
  case' engDivStep => apply execEngDivStep_good
  case' brokenClear => apply execBrokenClear_good
  case' calRun => apply execCalRun_good
  case' fieldDone => apply execFieldDone_good
  case' confirmMc => apply execConfirmMc_good
  case' confirmLc => apply execConfirmLc_good
  case' confirmWindowEnd => apply execConfirmWindowEnd_good
  case' rbCommit => apply execRbCommit_good
  case' checkDone => apply execCheckDone_good
  case' serviceFrame => apply execServiceFrame_good
  case' svpLinkUp => apply execSvpLinkUp_good
  case' svpLinkDown => apply execSvpLinkDown_good
  case' regRead => apply execRegRead_good
  case' regWrite => apply execRegWrite_good
  case' slotOpen => apply execSlotOpen_good
  case' slotData => apply execSlotData_good
  case' slotClose => apply execSlotClose_good
  case' mbx => apply execMbx_good
  case' keyRevoke => apply execKeyRevoke_good
  case' sessionTimeout => apply execSessionTimeout_good
  case' rowSelectEdge => apply execRowSelectEdge_good
  all_goals simp [hk]

/-- The queue is no keyed part of the state. -/
theorem State.canon_pending {s : State} {q : List Instr} : { s with pending := q }.Canon ↔ s.Canon := Iff.rfl

/-- The counter of time is no keyed part of the state. -/
theorem State.idle_canon {s : State} (hs : s.Canon) : s.idle.Canon := by
  unfold State.idle
  split <;> exact hs

theorem step_canon {s t : State} (hs : s.Canon) (h : step s = .next t) : t.Canon := by
  unfold step at h
  split at h
  · cases h
    exact State.idle_canon hs
  · exact Keep.canon (State.leaves_all (State.canon_pending.2 hs) _ t h)

/-- Settles O6: the idle step touches no keyed part, and every command keeps all three canonical. -/
theorem canonicalFormsAreKept : Obligations.CanonicalFormsAreKept :=
  fun _ _ => step_canon

end Sys2Proof.Machine

/-!
The wall's architecture: what an access to a page of an inactive block does (spec/01_wall_architecture.md).
-/
namespace Sys2Proof.Machine

/-! ### A command on a running module -/

/-- On a running module the frame around a command is its effect. -/
theorem run_of_up {f : State → State} {s : State} (hs : s.up) : run f s = .next (f s) := by
  simp only [run, hs.1]

/-- What a read answers on a running module (R75). -/
theorem State.gives_rcRead {s : State} (hs : s.up) {who : Agent} {a n t : Nat} {p : State → Prop}
    (h : p (((s.tick t).readAt who (a % 2 ^ 25) n).st.emit
      (.data (a % 2 ^ 25) n ((s.tick t).readAt who (a % 2 ^ 25) n).v))) : s.gives (.rcRead who a n t) p :=
  ⟨_, show execRcRead who a n t s = .next _ from run_of_up hs, h⟩

/-- What a write does on a running module (R73). -/
theorem State.gives_registerWrite {s : State} (hs : s.up) {who : Agent} {a n v t : Nat} {p : State → Prop}
    (h : p ((s.tick t).writeAt who (a % 2 ^ 25) n v).1) : s.gives (.registerWrite who a n v t) p :=
  ⟨_, show execRegisterWrite who a n v t s = .next _ from run_of_up hs, h⟩

/-! ### The page of an address -/

theorem pageRows_aligned : ∀ r ∈ pageRows, r.2.1 % 0x1000 = 0 := by decide

/-- An address lies in the page of the first word of its 4 KiB: every row of Table 3-5 is a run of whole pages. -/
theorem pageAt_pageBase (a : Nat) : pageAt (a / 0x1000 * 0x1000) = pageAt a := by
  have hrow : pageRows.find? (fun r => r.2.1 ≤ a / 0x1000 * 0x1000 && a / 0x1000 * 0x1000 < r.2.1 + r.2.2 * 0x1000) =
      pageRows.find? (fun r => r.2.1 ≤ a && a < r.2.1 + r.2.2 * 0x1000) := by
    refine List.find?_congr fun r hr => ?_
    have := pageRows_aligned r hr
    rw [Bool.eq_iff_iff]
    simp only [Bool.and_eq_true, decide_eq_true_eq]
    omega
  unfold pageAt
  rw [hrow]
  cases hfind : pageRows.find? (fun r => r.2.1 ≤ a && a < r.2.1 + r.2.2 * 0x1000) with
  | none => rfl
  | some r =>
    have := pageRows_aligned r (List.mem_of_find?_eq_some hfind)
    have hindex : (a / 0x1000 * 0x1000 - r.2.1) / 0x1000 = (a - r.2.1) / 0x1000 := by omega
    simp only [hindex]

theorem State.live_of_pageAt {s : State} {b i : Nat} {k : PageKind} (hp : pageAt b = some (k, i)) :
    s.live b = activePage s.role k i := by
  simp only [State.live, hp]

/-- The base of the page of an address is live where the page is active. -/
theorem State.live_pageBase {s : State} {a i : Nat} {k : PageKind} (hp : pageAt a = some (k, i)) :
    s.live (a / 0x1000 * 0x1000) = activePage s.role k i :=
  State.live_of_pageAt ((pageAt_pageBase a).trans hp)

/-! ### Access to a page -/

/-- An aligned read of 4 bytes in a page is a read of the page, whoever reads. -/
theorem State.readAt_page {s : State} {g : Agent} {a n i : Nat} {k : PageKind} (hp : pageAt a = some (k, i))
    (hn : pageAccess a n) : s.readAt g a n = s.pageRead g k i a := by
  simp [State.readAt, hp, hn]

/-- An aligned write of 4 bytes in a page is a write of the page, whoever writes. -/
theorem State.writeAt_page {s : State} {g : Agent} {a n v i : Nat} {k : PageKind} (hp : pageAt a = some (k, i))
    (hn : pageAccess a n) : s.writeAt g a n v = s.pageWrite g k i a (v % 2 ^ (8 * n)) := by
  simp [State.writeAt, hp, hn]

/-- An inactive page tells its identity and nothing else, and nothing of the state moves (R10). -/
theorem State.pageRead_inactive {s : State} {g : Agent} {k : PageKind} {i a : Nat}
    (hl : s.live (a / 0x1000 * 0x1000) = false) :
    s.pageRead g k i a = ⟨s, if a % 0x1000 = 0 then pageId k i else 0, false, false⟩ := by
  simp [State.pageRead, hl]

/-- An inactive page takes no write, and does not refuse it either (R10). -/
theorem State.pageWrite_inactive {s : State} {g : Agent} {k : PageKind} {i a v : Nat}
    (hl : s.live (a / 0x1000 * 0x1000) = false) : s.pageWrite g k i a v = (s, false) := by
  simp [State.pageWrite, hl]

/-- An inactive page raises no event (R10, R82). -/
theorem State.ev_inactive {s : State} {b k : Nat} (hl : s.live b = false) : s.ev b k = s := by
  simp [State.ev, hl]

/-- Settles O9: an access passes the width check into the page, and the page's base is not live, since it lies in the
same page as the address. -/
theorem inactivePages : Obligations.InactivePages := by
  refine ⟨?read, ?write, ?event⟩
  case read =>
    intro s who a n t k i hs hp hoff hn
    have hl : (s.tick t).live (a % 2 ^ 25 / 0x1000 * 0x1000) = false := (State.live_pageBase hp).trans hoff
    refine State.gives_rcRead hs ?_
    rw [State.readAt_page hp hn, State.pageRead_inactive hl]
  case write =>
    intro s who a n v t k i hs hp hoff hn
    have hl : (s.tick t).live (a % 2 ^ 25 / 0x1000 * 0x1000) = false := (State.live_pageBase hp).trans hoff
    refine State.gives_registerWrite hs ?_
    rw [State.writeAt_page hp hn, State.pageWrite_inactive hl]
  case event =>
    intro s b k g i hp hoff
    exact State.ev_inactive ((State.live_of_pageAt hp).trans hoff)

end Sys2Proof.Machine

/-!
Mode words and departures (spec/02_modes.md): a view of a frame departs once, so a VIEW_DEPARTURE of a view that has
departed raises nothing.
-/
namespace Sys2Proof.Machine

/-- What the command of a view departure does on a running module (R114). -/
theorem exec_viewDeparture_of_up {s : State} (hs : s.up) {n k t : Nat} :
    exec (.viewDeparture n k t) s = .next ((s.tick t).viewDeparture n k) :=
  show execViewDeparture n k t s = _ from run_of_up hs

/-- The views of a frame depart in ascending order, each once (R114). -/
theorem State.viewDeparture_of_departed {s : State} {n k : Nat} (h : k ≤ s.dep.lastView) : s.viewDeparture n k = s := by
  simp [State.viewDeparture, h]

/-- A sender with valid time that shows two views and has launched frame 3; view 1 is still to depart. -/
def viewOneDue : State :=
  (({ dep := { loaded := true, last := some 3, next := 4 } } : State).set R.DEP.MODE_CUR.VIEWS 1).set R.TIM.TIM_STAT.TIME_VALID 1

/-- The same sender when view 1 has departed and software has cleared the event (R82). -/
def viewOneDeparted : State := (viewOneDue.viewDeparture 3 1).evtClear B.dep (2 ^ Ev.DEP.VIEW_DEP)

theorem viewOneDeparted_up : viewOneDeparted.up :=
  ⟨by decide +kernel, show keysRise viewOneDeparted.regs by decide +kernel,
    show keysRise viewOneDeparted.force by decide +kernel,
    show Memory.wf zeroB viewOneDeparted.mem.dram by decide +kernel⟩

/-- Refutes O19: its last clause does not ask that the view has not departed yet. On a sender whose view 1 of frame 3 has
departed, a second VIEW_DEPARTURE of that view changes nothing, and the event that software has cleared stays clear. -/
theorem not_modesAndDepartures : ¬ Obligations.ModesAndDepartures := by
  unfold Obligations.ModesAndDepartures
  rintro ⟨-, -, -, -, -, hview⟩
  obtain ⟨u, hu, hraised⟩ := hview viewOneDeparted 3 1 0 viewOneDeparted_up (by decide +kernel) (by decide +kernel)
    (by decide +kernel) (by decide +kernel) (by decide) (by decide) (by decide +kernel) (by decide +kernel)
  have hlast : 1 ≤ (viewOneDeparted.tick 0).dep.lastView := by decide +kernel
  rw [exec_viewDeparture_of_up viewOneDeparted_up, State.viewDeparture_of_departed hlast] at hu
  cases hu
  have hclear : (viewOneDeparted.tick 0).raised B.dep Ev.DEP.VIEW_DEP = false := by decide +kernel
  exact absurd (hclear.symm.trans hraised) Bool.false_ne_true

end Sys2Proof.Machine

/-!
The register model (spec/03_register_model.md): what a step does to the queue, what reset leaves, addresses outside every
page, and two groups of commands that do not complete as stated.
-/
namespace Sys2Proof.Machine

/-! ### The queue of waiting commands -/

/-- Counting a cycle of the time clock leaves the queue alone. -/
@[simp] theorem State.idle_pending (s : State) : s.idle.pending = s.pending := by
  unfold State.idle
  split <;> rfl

/-- A step takes the command at the front of the queue, if there is one, and leaves the others in their order. -/
theorem step_pending {s t : State} (hs : s.Canon) (h : step s = .next t) : t.pending = s.pending.drop 1 := by
  unfold step at h
  cases hq : s.pending with
  | nil =>
    rw [hq] at h
    cases h
    simp [hq]
  | cons c r =>
    rw [hq] at h
    exact (State.leaves_all (State.canon_pending.2 hs) c t h).pending

/-- Settles O7: a step only takes the front off the queue, so what is left was well-formed before. -/
theorem waitingCommandsStayWellFormed : Obligations.WaitingCommandsStayWellFormed := by
  intro s t hs hq h
  have hrest := step_pending hs h
  refine ⟨fun c hc => hq c ?_, hrest⟩
  rw [hrest] at hc
  exact List.mem_of_mem_drop hc

/-! ### Reset -/

/-- Reset lists the cause of the power-on reset and no other field. -/
theorem State.get_reset (f : Fld) : State.reset.get f = if f.key = R.RCK.RST_CAUSE.POWER_ON.key then 1 else f.rst := by
  simp only [State.get, State.reset, lookupD, eq_comm (a := f.key)]
  split <;> simp

/-- Settles O2: the register file after reset has one entry, and everything else is empty. -/
theorem resetState : Obligations.ResetState := by
  refine ⟨fun f hf => ?_, ?_, ⟨?_, ?_, ?_⟩, ?_, rfl, rfl, rfl, rfl, rfl⟩
  · rw [State.get_reset, if_neg hf]
  · rw [State.get_reset, if_pos rfl]
  · exact List.pairwise_singleton _ _
  · exact List.Pairwise.nil
  · exact ⟨List.Pairwise.nil, nofun⟩
  · exact nofun

/-! ### Outside every page and window -/

/-- A read outside every page and window answers 0 and leaves the state alone (R67). -/
theorem State.readAt_nowhere {s : State} {g : Agent} {a n : Nat} (hp : pageAt a = none) (hw : windowAt a = none) :
    s.readAt g a n = ⟨s, 0, false, false⟩ := by
  simp only [State.readAt, hp, hw]

/-- A write outside every page and window is lost and not refused (R67). -/
theorem State.writeAt_nowhere {s : State} {g : Agent} {a n v : Nat} (hp : pageAt a = none) (hw : windowAt a = none) :
    s.writeAt g a n v = (s, false) := by
  simp only [State.writeAt, hp, hw]

/-- Settles O8: the access finds neither a page nor a window. -/
theorem nowhereReadsZero : Obligations.NowhereReadsZero := by
  refine ⟨?read, ?write⟩
  case read =>
    intro s who a n t hs hp hw
    exact State.gives_rcRead hs (by rw [State.readAt_nowhere hp hw])
  case write =>
    intro s who a n v t hs hp hw
    exact State.gives_registerWrite hs (by rw [State.writeAt_nowhere hp hw])

/-! ### A write of a shadow register -/

/-- A module in the Tile role with every register at its reset value. -/
def idleTile : State := { role := .tile }

theorem idleTile_up : idleTile.up := ⟨rfl, List.Pairwise.nil, List.Pairwise.nil, List.Pairwise.nil, nofun⟩

/-- A tile has no active COL page, so a write of its colour matrix is lost (R10). -/
theorem idleTile_loses_matrix_write :
    idleTile.gives (.registerWrite .service 0x80104 4 1 0) fun u => u = idleTile.tick 0 := by
  refine State.gives_registerWrite idleTile_up ?_
  rw [State.writeAt_page (k := .col) (i := 0) (by decide) (by decide), State.pageWrite_inactive (by decide)]

/-- Refutes O17: its clause of the colour matrix does not ask for the Sender role. A tile loses a write of 1 to coefficient
0, which goes on reading its reset value. -/
theorem not_registerAccess : ¬ Obligations.RegisterAccess := by
  unfold Obligations.RegisterAccess
  rintro ⟨-, hmatrix, -⟩
  obtain ⟨u, hu, hcoef, -⟩ := hmatrix idleTile 0 1 0 idleTile_up (by decide) rfl
  obtain ⟨w, hw, rfl⟩ := idleTile_loses_matrix_write
  obtain rfl : idleTile.tick 0 = u := Host.Outcome.next.inj (hw.symm.trans hu)
  exact absurd hcoef (by decide)

/-! ### A COMMIT entry whose page fails its own check -/

/-- What the command of a COMMIT entry does on a running module (Table 4-12). -/
theorem exec_commitEntry_of_up {s : State} (hs : s.up) {i t : Nat} {late : Bool} :
    exec (.commitEntry i late t) s = .next ((s.tick t).launchInstant i 1 late (fun e s => s.launchCommit e)) :=
  show execCommitEntry i late t s = _ from run_of_up hs

/-- A sender with valid time and one armed COMMIT entry of group 1, in which COL has an armed commit; the monitor is on and
its staged width is 1, which is odd (R199). -/
def oddMonitor : State :=
  [(R.TIM.TIM_STAT.TIME_VALID, 1), (R.PG.CGRP B.col, 1), (R.PG.COMMIT B.col, 1), (R.PG.COMMIT_PENDING B.col, 1),
    (R.COL.MON_CTRL.EN, 1), (R.COL.MON_SIZE.MW, 1)].foldl (fun s e => s.set e.1 e.2)
    { dep := { board := [(5, ⟨1000, 1, 1, 0, 2, 0, .armed⟩)] } }

theorem oddMonitor_up : oddMonitor.up :=
  ⟨by decide +kernel, show keysRise oddMonitor.regs by decide +kernel, show keysRise oddMonitor.force by decide +kernel,
    show Memory.wf zeroB oddMonitor.mem.dram by decide +kernel⟩

/-- Refutes O20: its clause of the transfer does not ask that the page passes its own check. The odd monitor width makes COL
refuse the commit (R79, R199), so COMMIT_DONE is not raised. -/
theorem not_boardLaunches : ¬ Obligations.BoardLaunches := by
  unfold Obligations.BoardLaunches
  rintro ⟨-, htransfer, -⟩
  have hdue : oddMonitor.duePages (groupBits (oddMonitor.entry 5).arg) = [B.col] := by decide +kernel
  obtain ⟨u, hu, -, -, hdone⟩ := htransfer oddMonitor 5 0 oddMonitor_up (by decide +kernel) (by decide +kernel)
    (by decide +kernel) (by decide +kernel) rfl rfl hdue
  rw [exec_commitEntry_of_up oddMonitor_up] at hu
  cases hu
  have hnot : ((oddMonitor.tick 0).launchInstant 5 1 false (fun e s => s.launchCommit e)).raised B.col Ev.PG.COMMIT_DONE =
      false := by decide +kernel
  exact absurd (hnot.symm.trans hdone) Bool.false_ne_true

end Sys2Proof.Machine

/-!
The commands of a page header (spec/03_register_model.md): what enabling, freezing, arming and resetting a page leaves in
PG_CTRL, PG_STAT and ERR_INFO, whatever else the block does on the way.
-/
namespace Sys2Proof.Machine

/-! ### The header fields of a page

What a command of a page leaves of PG_CTRL, PG_STAT and ERR_INFO is read off a projection of the register file: the
fields listed under chosen keys, which a write under any other key keeps whether or not the list is sorted. -/

/-- What a register file lists under the keys of `K`. -/
def fieldsAt (K : Nat → Bool) (l : List (Nat × Nat)) : List (Nat × Nat) := l.filter (fun e => K e.1)

/-- The keys of EN, COMMIT, FREEZE, COMMIT_PENDING, FROZEN and HW_FREEZE of the page at `b` (Table 3-4). -/
def ctrlKey (b n : Nat) : Bool :=
  [R.PG.EN b, R.PG.COMMIT b, R.PG.FREEZE b, R.PG.COMMIT_PENDING b, R.PG.FROZEN b, R.PG.HW_FREEZE b].any
    (fun f => f.key == n)

/-- These keys and that of ERR_CODE. -/
def headerKey (b n : Nat) : Bool := ctrlKey b n || (R.PG.ERR_CODE b).key == n

/-- The keys of `headerKey` for the two LNK pages. -/
def linkKey (n : Nat) : Bool := headerKey (B.lnk 0) n || headerKey (B.lnk 1) n

/-- The fields that the logging of an error may write. -/
def errFields (b : Nat) : List Fld :=
  [R.PG.ERR_COUNT b, R.PG.ERR_VALID b, R.PG.ERR_OVERFLOW b, R.PG.ERR_CODE b, R.PG.ERR_SOURCE b, R.PG.ERR_ADDR_LO b,
    R.PG.ERR_ADDR_HI b, R.PG.EVT_PEND b]

section FieldsAt
variable {s : State} {K : Nat → Bool}

theorem fieldsAt_putD {k v d : Nat} (h : K k = false) (l : List (Nat × Nat)) :
    fieldsAt K (putD l k v d) = fieldsAt K l := by
  induction l with
  | nil => unfold putD; split <;> simp [fieldsAt, h]
  | cons e r ih =>
    obtain ⟨a, w⟩ := e
    unfold putD
    split_ifs with h1 h2 h3 h4
    · rfl
    · simp [fieldsAt, h]
    · subst h3; simp [fieldsAt, h]
    · subst h3; simp [fieldsAt, h]
    · simp only [fieldsAt, List.filter_cons] at ih ⊢
      simp only [ih]

/-- The file that lists less under chosen keys reads the same there. -/
theorem lookupD_fieldsAt {k : Nat} (hk : K k = true) (d : Nat) {l : List (Nat × Nat)} (h : keysRise l) :
    lookupD (fieldsAt K l) k d = lookupD l k d := by
  induction l with
  | nil => rfl
  | cons e r ih =>
    obtain ⟨a, v⟩ := e
    have ⟨hlow, hr⟩ := List.pairwise_cons.1 h
    rw [fieldsAt] at ih ⊢
    rcases ha : K a with _ | _
    · have hne : a ≠ k := fun e => by simp [← e, ha] at hk
      simp only [List.filter_cons, ha, lookupD, hne, ↓reduceIte, Bool.false_eq_true]
      split
      · exact lookupD_low _ _ _ fun e he => lt_trans ‹k < a› (hlow e (List.mem_of_mem_filter he))
      · exact ih hr
    · simp only [List.filter_cons, ha, lookupD, ↓reduceIte, ih hr]

theorem fieldsAt_of_imp {Q : Nat → Bool} (h : ∀ n, Q n = true → K n = true) {l m : List (Nat × Nat)}
    (e : fieldsAt K l = fieldsAt K m) : fieldsAt Q l = fieldsAt Q m := by
  have part : ∀ l, fieldsAt Q (fieldsAt K l) = fieldsAt Q l := fun l => by
    simp only [fieldsAt, List.filter_filter]
    refine List.filter_congr fun x _ => ?_
    cases hx : Q x.1
    · rfl
    · simp [h _ hx]
  rw [← part l, e, part m]

@[simp] theorem State.fieldsAt_set {f : Fld} {v : Nat} (h : K f.key = false) :
    fieldsAt K (s.set f v).regs = fieldsAt K s.regs := fieldsAt_putD h _

@[simp] theorem fieldsAt_ite {c : Prop} [Decidable c] {a b : List (Nat × Nat)} :
    fieldsAt K (if c then a else b) = if c then fieldsAt K a else fieldsAt K b :=
  apply_ite (fieldsAt K) c a b

@[simp] theorem State.regs_ite {c : Prop} [Decidable c] {a b : State} :
    (if c then a else b).regs = if c then a.regs else b.regs :=
  apply_ite State.regs c a b

@[simp] theorem regs_foldl {α : Type} {f : State → α → State} (h : ∀ s x, (f s x).regs = s.regs) (l : List α) :
    (l.foldl f s).regs = s.regs := by
  induction l generalizing s with
  | nil => rfl
  | cons x l ih => rw [List.foldl_cons, ih, h]

@[simp] theorem fieldsAt_foldl {α : Type} {f : State → α → State}
    (h : ∀ s x, fieldsAt K (f s x).regs = fieldsAt K s.regs) (l : List α) :
    fieldsAt K (l.foldl f s).regs = fieldsAt K s.regs := by
  induction l generalizing s with
  | nil => rfl
  | cons x l ih => rw [List.foldl_cons, ih, h]

theorem fieldsAt_foldl1 {α β : Type} {f : State × β → α → State × β}
    (h : ∀ s x, fieldsAt K (f s x).1.regs = fieldsAt K s.1.regs) (l : List α) {p : State × β} :
    fieldsAt K (l.foldl f p).1.regs = fieldsAt K p.1.regs := by
  induction l generalizing p with
  | nil => rfl
  | cons x l ih => rw [List.foldl_cons, ih, h]

@[simp] theorem regs_forN {n} {f : State → Nat → State} (h : ∀ s x, (f s x).regs = s.regs) :
    (s.forN n f).regs = s.regs := regs_foldl h _

@[simp] theorem fieldsAt_forN {n} {f : State → Nat → State} (h : ∀ s x, fieldsAt K (f s x).regs = fieldsAt K s.regs) :
    fieldsAt K (s.forN n f).regs = fieldsAt K s.regs := fieldsAt_foldl h _

@[simp] theorem fieldsAt_foldr {α : Type} {f : α → State → State}
    (h : ∀ x s, fieldsAt K (f x s).regs = fieldsAt K s.regs) (l : List α) :
    fieldsAt K (l.foldr f s).regs = fieldsAt K s.regs := by
  induction l with
  | nil => rfl
  | cons x l ih => rw [List.foldr_cons, h, ih]

@[simp] theorem State.fieldsAt_count {f : Fld} {n : Nat} (h : K f.key = false) :
    fieldsAt K (s.count f n).regs = fieldsAt K s.regs := State.fieldsAt_set h

@[simp] theorem State.fieldsAt_setI {f : Fld} {n : Int} (h : K f.key = false) :
    fieldsAt K (s.setI f n).regs = fieldsAt K s.regs := State.fieldsAt_set h

@[simp] theorem State.fieldsAt_set64 {f g : Fld} {n : Nat} (h : K f.key = false) (hg : K g.key = false) :
    fieldsAt K (s.set64 f g n).regs = fieldsAt K s.regs := by simp [State.set64, h, hg]

@[simp] theorem State.fieldsAt_ev {b k : Nat} (h : K (R.PG.EVT_PEND b).key = false) :
    fieldsAt K (s.ev b k).regs = fieldsAt K s.regs := by
  unfold State.ev
  split
  · rw [State.regs_pendBits, State.fieldsAt_set h]
  · rfl

@[simp] theorem State.fieldsAt_evIf {c : Bool} {b k : Nat} (h : K (R.PG.EVT_PEND b).key = false) :
    fieldsAt K (s.evIf c b k).regs = fieldsAt K s.regs := by
  simp [State.evIf, h]

@[simp] theorem State.fieldsAt_lnkCount {p : Nat} {f : Fld} {n : Nat} (h : K f.key = false) :
    fieldsAt K (s.lnkCount p f n).regs = fieldsAt K s.regs := by
  simp [State.lnkCount, h]

theorem State.fieldsAt_err {b code x a : Nat} (h : ∀ f ∈ errFields b, K f.key = false) :
    fieldsAt K (s.err b code x a).regs = fieldsAt K s.regs := by
  simp only [errFields, List.forall_mem_cons] at h
  simp [State.err, h]

end FieldsAt

/-! ### What lies outside the LNK headers -/

theorem headerKey_eq_false {b n : Nat} (h : n / 32 ≠ b + 8 ∧ n / 32 ≠ b + 0xC ∧ n / 32 ≠ b + 0x24) :
    headerKey b n = false := by
  simp only [headerKey, ctrlKey, List.any_cons, List.any_nil, Bool.or_false, Bool.or_eq_false_iff, beq_eq_false_iff_ne,
    Fld.key, R.PG.EN, R.PG.COMMIT, R.PG.FREEZE, R.PG.COMMIT_PENDING, R.PG.FROZEN, R.PG.HW_FREEZE,
    R.PG.ERR_CODE]
  omega

theorem linkKey_eq_false {a l : Nat} (hl : l < 32)
    (h : a < 0xA0000 ∨ 0xA2000 ≤ a ∨ (a % 0x1000 ≠ 8 ∧ a % 0x1000 ≠ 0xC ∧ a % 0x1000 ≠ 0x24)) :
    linkKey (a * 32 + l) = false := by
  simp only [linkKey, Bool.or_eq_false_iff, B.lnk]
  constructor <;> refine headerKey_eq_false ?_ <;> omega

theorem linkKey_page {o k l w r : Nat} (h : 0x100 ≤ o % 0x1000) (hl : l < 32) :
    linkKey (Fld.key ⟨o + k * 0x1000, l, w, r⟩) = false :=
  linkKey_eq_false hl (by simp only; omega)

theorem linkKey_high {o x l w r : Nat} (h : 0xA2000 ≤ o) (hl : l < 32) : linkKey (Fld.key ⟨o + x, l, w, r⟩) = false :=
  linkKey_eq_false hl (by simp only; omega)

@[simp] theorem linkKey_slotState (k : Nat) : linkKey (R.SLT.SLOT_STAT.STATE k).key = false :=
  linkKey_eq_false (by simp [R.SLT.SLOT_STAT.STATE]) (by simp only [R.SLT.SLOT_STAT.STATE]; omega)

@[simp] theorem linkKey_cor :
    linkKey R.COR.GEOM_MISMATCH.COUNT.key = false ∧ linkKey R.COR.POISON_REC.COUNT.key = false ∧
    linkKey R.COR.ZONE_SUBST_HI.ZONES.key = false ∧ linkKey R.COR.ZONE_SUBST_LO.ZONES.key = false := by
  and_intros <;> exact rfl

@[simp] theorem linkKey_dep :
    linkKey R.DEP.MODE_CHECK.DEP_PENDING.key = false ∧ linkKey R.DEP.MODE_CHECK.EPOCH_PENDING.key = false ∧
    linkKey R.DEP.MODE_CHECK.FIELDS.key = false ∧ linkKey R.DEP.MODE_CHECK.RULE.key = false ∧
    linkKey R.DEP.MODE_CHECK.VALID.key = false ∧ linkKey R.DEP.MODE_CTRL.FB_VALID.key = false ∧
    linkKey R.DEP.MODE_CTRL.LAST_CAUSE.key = false ∧ linkKey R.DEP.MODE_CUR.CODING_A.key = false ∧
    linkKey R.DEP.MODE_CUR.CODING_B.key = false ∧ linkKey R.DEP.MODE_CUR.EMIT.key = false ∧
    linkKey R.DEP.MODE_CUR.REDUN.key = false ∧ linkKey R.DEP.MODE_CUR.SCAN.key = false ∧
    linkKey R.DEP.MODE_CUR.SINK.key = false ∧ linkKey R.DEP.MODE_CUR.TIMING.key = false ∧
    linkKey R.DEP.MODE_CUR.VIEWS.key = false ∧ linkKey R.DEP.MODE_NEXT.CODING_A.key = false ∧
    linkKey R.DEP.MODE_NEXT.CODING_B.key = false ∧ linkKey R.DEP.MODE_NEXT.EMIT.key = false ∧
    linkKey R.DEP.MODE_NEXT.REDUN.key = false ∧ linkKey R.DEP.MODE_NEXT.SCAN.key = false ∧
    linkKey R.DEP.MODE_NEXT.SINK.key = false ∧ linkKey R.DEP.MODE_NEXT.TIMING.key = false ∧
    linkKey R.DEP.MODE_NEXT.VIEWS.key = false := by
  and_intros <;> exact rfl

@[simp] theorem linkKey_fwu :
    linkKey R.FWU.SESSION.ID.key = false ∧ linkKey R.FWU.SESSION.PURPOSE.key = false ∧
    linkKey R.FWU.SESSION.SLOT.key = false ∧ linkKey R.FWU.SESS_BYTES.BYTES.key = false := by
  and_intros <;> exact rfl

@[simp] theorem linkKey_par :
    linkKey R.PAR.CHK_CTRL.INJ_ARM.key = false ∧ linkKey R.PAR.DRAM_ERR_CNT.COUNT.key = false ∧
    linkKey R.PAR.LOG_STAT.NEXT.key = false ∧ linkKey R.PAR.LOG_STAT.TOTAL.key = false ∧
    linkKey R.PAR.LOG_STAT.WRAPPED.key = false ∧ linkKey R.PAR.MIRROR_FIX_CNT.COUNT.key = false := by
  and_intros <;> exact rfl

@[simp] theorem linkKey_que :
    linkKey R.QUE.DESC_ERR.COUNT.key = false ∧ linkKey R.QUE.INFLIGHT.COUNT.key = false := by
  and_intros <;> exact rfl

@[simp] theorem linkKey_rdn :
    linkKey R.RDN.RDN_STAT.LAST_CAUSE.key = false ∧ linkKey R.RDN.RDN_STAT.STATE.key = false ∧
    linkKey R.RDN.SWITCH_CNT.COUNT.key = false := by
  and_intros <;> exact rfl

@[simp] theorem linkKey_scn :
    linkKey R.SCN.POISON_WORDS.COUNT.key = false ∧ linkKey R.SCN.ROW_REPEAT_CNT.COUNT.key = false ∧
    linkKey R.SCN.SCN_STAT.LOADING.key = false := by
  and_intros <;> exact rfl

@[simp] theorem linkKey_svp :
    linkKey R.SVP.TX_DGRAM.COUNT.key = false := by decide

@[simp] theorem linkKey_ten :
    linkKey R.TEN.RULE_STAT.OLD.key = false := by decide

@[simp] theorem linkKey_cor_indexed (k : Nat) :
    linkKey (R.COR.ZONE_TEMP.SUBST k).key = false ∧ linkKey (R.COR.ZONE_TEMP.T k).key = false := by
  and_intros <;> exact linkKey_high (by decide) (by decide)

@[simp] theorem linkKey_lne (k : Nat) :
    linkKey (R.LNE.ENUM_RUN.RUN k).key = false ∧ linkKey (R.LNE.INFLIGHT.COUNT k).key = false ∧
    linkKey (R.LNE.LINKDOWN_CNT.COUNT k).key = false ∧ linkKey (R.LNE.LNE_STAT.ENUM_BUSY k).key = false ∧
    linkKey (R.LNE.LNE_STAT.N k).key = false ∧ linkKey (R.LNE.TEL_STAT.SILENT k).key = false ∧
    linkKey (R.LNE.TXN_TMO.EFF_US k).key = false := by
  and_intros <;> exact linkKey_page (by decide) (by decide)

@[simp] theorem linkKey_lnk (k : Nat) :
    linkKey (R.LNK.BRINGUP_US.US k).key = false ∧ linkKey (R.LNK.CAPX_STAT.DISABLED k).key = false ∧
    linkKey (R.LNK.CAPX_STAT.FEATURES k).key = false ∧ linkKey (R.LNK.CAPX_STAT.LEVEL k).key = false ∧
    linkKey (R.LNK.DOWN_CNT.COUNT k).key = false ∧ linkKey (R.LNK.LINE_STAT.LINE_WIDTH k).key = false ∧
    linkKey (R.LNK.LINE_STAT.NARROW_STOP k).key = false ∧ linkKey (R.LNK.PORT_STAT.FAILED k).key = false ∧
    linkKey (R.LNK.PORT_STAT.IN_SERVICE k).key = false ∧ linkKey (R.LNK.PORT_STAT.STAGE k).key = false ∧
    linkKey (R.LNK.PORT_STAT.TIMING_LANE k).key = false ∧ linkKey (R.LNK.PORT_STAT.WIDTH k).key = false ∧
    linkKey (R.LNK.PORT_STAT.WORKING k).key = false ∧ linkKey (R.LNK.REPLAY_CNT.COUNT k).key = false ∧
    linkKey (R.LNK.WIDTH_CNT.COUNT k).key = false := by
  and_intros <;> exact linkKey_page (by decide) (by decide)

@[simp] theorem linkKey_lnl (k : Nat) :
    linkKey (R.LNL.LANE_STAT.LAST_VALID k).key = false ∧ linkKey (R.LNL.LANE_STAT.LOGICAL k).key = false ∧
    linkKey (R.LNL.LANE_STAT.PRE_RX k).key = false ∧ linkKey (R.LNL.LANE_STAT.PRE_TX k).key = false ∧
    linkKey (R.LNL.LANE_STAT.REASON k).key = false ∧ linkKey (R.LNL.LANE_STAT.STATE k).key = false ∧
    linkKey (R.LNL.TRAIN_US.US k).key = false ∧ linkKey (R.LNL.TX_TAPS.C0 k).key = false ∧
    linkKey (R.LNL.TX_TAPS.CM1 k).key = false ∧ linkKey (R.LNL.TX_TAPS.CM2 k).key = false ∧
    linkKey (R.LNL.TX_TAPS.CP1 k).key = false ∧ linkKey (R.LNL.TX_TAPS.CP2 k).key = false := by
  and_intros <;> exact linkKey_page (by decide) (by decide)

@[simp] theorem linkKey_log (k : Nat) :
    linkKey (R.LOG.LOG_ADDR_LO.ADDR k).key = false ∧ linkKey (R.LOG.LOG_INFO.ADDR_HI k).key = false ∧
    linkKey (R.LOG.LOG_INFO.ARRAY k).key = false ∧ linkKey (R.LOG.LOG_INFO.BYTES k).key = false ∧
    linkKey (R.LOG.LOG_INFO.CHANNEL k).key = false ∧ linkKey (R.LOG.LOG_INFO.CODE k).key = false ∧
    linkKey (R.LOG.LOG_INFO.PORT k).key = false ∧ linkKey (R.LOG.LOG_INFO.SRAM k).key = false ∧
    linkKey (R.LOG.LOG_TIME_HI.NS k).key = false ∧ linkKey (R.LOG.LOG_TIME_LO.NS k).key = false := by
  and_intros <;> exact linkKey_high (by decide) (by decide)

@[simp] theorem linkKey_mem (k : Nat) :
    linkKey (R.MEM.CH_STAT.FILLED k).key = false ∧ linkKey (R.MEM.CH_STAT.MIRROR_OK k).key = false ∧
    linkKey (R.MEM.CH_STAT.STATE k).key = false := by
  and_intros <;> exact linkKey_page (by decide) (by decide)

@[simp] theorem linkKey_qcx (k : Nat) :
    linkKey (R.QCX.Q_CTRL.IDLE k).key = false ∧ linkKey (R.QCX.Q_DONE_CNT.COUNT k).key = false ∧
    linkKey (R.QCX.Q_HEAD.IDX k).key = false ∧ linkKey (R.QCX.Q_INFLIGHT.COUNT k).key = false := by
  and_intros <;> exact linkKey_high (by decide) (by decide)

@[simp] theorem linkKey_rch (k : Nat) :
    linkKey (R.RCH.CH_CNT.REJECT k).key = false ∧ linkKey (R.RCH.CH_DMAX.NEXT k).key = false ∧
    linkKey (R.RCH.CH_STAT.AT_TARGET k).key = false ∧ linkKey (R.RCH.CH_TARGET.FLOOR k).key = false ∧
    linkKey (R.RCH.CH_TARGET.NEXT k).key = false := by
  and_intros <;> exact linkKey_high (by decide) (by decide)

@[simp] theorem linkKey_ten_indexed (k : Nat) :
    linkKey (R.TEN.FLR_DISCARD.COUNT k).key = false ∧ linkKey (R.TEN.REVOKED_CNT.COUNT k).key = false := by
  and_intros <;> exact linkKey_high (by decide) (by decide)

/-- A page begins at `b`, above the two LNK pages. -/
structure OffLink (b : Nat) : Prop where
  base : b % 0x1000 = 0
  high : 0xA2000 ≤ b

@[simp] theorem offLink_pages : OffLink B.cor ∧ OffLink B.scn ∧ OffLink B.rai ∧ OffLink B.par ∧ OffLink B.que ∧
    OffLink B.rdn := by
  and_intros <;> exact ⟨rfl, by decide⟩

@[simp] theorem offLink_indexed (k : Nat) : OffLink (B.lnl k) ∧ OffLink (B.lne k) ∧ OffLink (B.mem k) := by
  and_intros <;> refine ⟨?_, ?_⟩ <;> simp only [B.lnl, B.lne, B.mem] <;> omega

@[simp] theorem pageBase_pages : B.tim % 0x1000 = 0 ∧ B.dep % 0x1000 = 0 ∧ B.fwu % 0x1000 = 0 ∧ B.cor % 0x1000 = 0 ∧
    B.scn % 0x1000 = 0 ∧ B.rai % 0x1000 = 0 ∧ B.par % 0x1000 = 0 ∧ B.que % 0x1000 = 0 ∧ B.rdn % 0x1000 = 0 := by
  decide

@[simp] theorem pageBase_indexed (k : Nat) : B.lnk k % 0x1000 = 0 ∧ B.lnl k % 0x1000 = 0 ∧ B.lne k % 0x1000 = 0 ∧
    B.mem k % 0x1000 = 0 := by
  simp only [B.lnk, B.lnl, B.lne, B.mem]
  omega

@[simp] theorem linkKey_evtPend {b : Nat} (hb : b % 0x1000 = 0) : linkKey (R.PG.EVT_PEND b).key = false :=
  linkKey_eq_false (by simp [R.PG.EVT_PEND]) (by simp only [R.PG.EVT_PEND]; omega)

theorem linkKey_pg {b : Nat} (h : OffLink b) :
    linkKey (R.PG.ERR_COUNT b).key = false ∧ linkKey (R.PG.ERR_VALID b).key = false ∧
      linkKey (R.PG.ERR_OVERFLOW b).key = false ∧ linkKey (R.PG.ERR_CODE b).key = false ∧
      linkKey (R.PG.ERR_SOURCE b).key = false ∧ linkKey (R.PG.ERR_ADDR_LO b).key = false ∧
      linkKey (R.PG.ERR_ADDR_HI b).key = false ∧ linkKey (R.PG.POISON_SEEN b).key = false ∧
      linkKey (R.PG.FAULT b).key = false := by
  and_intros <;> exact linkKey_high h.high (by decide)

/-! ### What a port, a lane and the line do leaves the LNK headers alone

One lemma for each function that a link going down or coming up may reach, in the order of their definitions: `regs_f` where
`f` writes no register, `linkFields_f` where it writes none of the LNK headers. The composite ones follow by rewriting. -/

section LinkFields
variable {s : State}

@[simp] theorem State.linkFields_err {b code x a : Nat} (h : OffLink b) :
    fieldsAt linkKey (s.err b code x a).regs = fieldsAt linkKey s.regs :=
  State.fieldsAt_err (by simp [errFields, linkKey_pg h, h.base])

@[simp] theorem State.linkFields_poison {b x a : Nat} (h : OffLink b) :
    fieldsAt linkKey (s.poison b x a).regs = fieldsAt linkKey s.regs := by
  simp [State.poison, linkKey_pg h, h, h.base]

@[simp] theorem State.linkFields_fault {b : Nat} {c : Bool} (h : OffLink b) :
    fieldsAt linkKey (s.fault b c).regs = fieldsAt linkKey s.regs := by
  simp [State.fault, linkKey_pg h, h.base]

@[simp] theorem State.linkFields_rejectEv {c : Nat} :
    fieldsAt linkKey (s.rejectEv c).regs = fieldsAt linkKey s.regs := by
  simp [State.rejectEv]

@[simp] theorem State.linkFields_showRail {c : Nat} :
    fieldsAt linkKey (s.showRail c).regs = fieldsAt linkKey s.regs := by
  simp [State.showRail]

@[simp] theorem State.linkFields_railRejectNext {c : Nat} :
    fieldsAt linkKey (s.railRejectNext c).regs = fieldsAt linkKey s.regs := by
  simp [State.railRejectNext]

@[simp] theorem State.linkFields_setRailNext {c d : Nat} :
    fieldsAt linkKey (s.setRailNext c d).regs = fieldsAt linkKey s.regs := by
  simp [State.setRailNext]

@[simp] theorem State.regs_setPort {p : Nat} {x : PortSt} : (s.setPort p x).regs = s.regs := rfl

@[simp] theorem State.regs_queueMsg {p : Nat} {m : Msg} : (s.queueMsg p m).regs = s.regs := by
  simp [State.queueMsg]

@[simp] theorem State.regs_send {p : Nat} {m : Msg} : (s.send p m).regs = s.regs := by
  simp [State.send]

@[simp] theorem State.regs_setLane {l : Nat} {x : LaneSt} : (s.setLane l x).regs = s.regs := rfl

@[simp] theorem State.linkFields_laneAnew {l : Nat} :
    fieldsAt linkKey (s.laneAnew l).regs = fieldsAt linkKey s.regs := by
  simp [State.laneAnew]

@[simp] theorem State.regs_setLineTx {p : Nat} {x : LineTx} : (s.setLineTx p x).regs = s.regs := rfl

@[simp] theorem State.linkFields_enumAbandon {p : Nat} :
    fieldsAt linkKey (s.enumAbandon p).regs = fieldsAt linkKey s.regs := by
  simp [State.enumAbandon]

@[simp] theorem State.linkFields_ldInvalid {p : Nat} :
    fieldsAt linkKey (s.ldInvalid p).regs = fieldsAt linkKey s.regs := by
  simp [State.ldInvalid]

@[simp] theorem State.regs_bootSave : s.bootSave.regs = s.regs := by
  simp only [State.bootSave]
  split_ifs <;> rfl

@[simp] theorem State.linkFields_endSession {bad : Bool} :
    fieldsAt linkKey (s.endSession bad).regs = fieldsAt linkKey s.regs := by
  simp [State.endSession]

@[simp] theorem State.linkFields_sessionLost : fieldsAt linkKey s.sessionLost.regs = fieldsAt linkKey s.regs := by
  simp [State.sessionLost]

@[simp] theorem State.linkFields_reply {dst : Caller} {op tag status : Nat} {data : List Byte} :
    fieldsAt linkKey (s.reply dst op tag status data).regs = fieldsAt linkKey s.regs := by
  simp [State.reply]

@[simp] theorem State.linkFields_dropSessions {p n : Nat} :
    fieldsAt linkKey (s.dropSessions p n).regs = fieldsAt linkKey s.regs := by
  simp only [State.dropSessions]
  refine (fieldsAt_foldl (fun s v => ?_) _).trans (by simp)
  split <;> simp

@[simp] theorem State.regs_policyDue {p : Nat} : (s.policyDue p).regs = s.regs := rfl

@[simp] theorem State.linkFields_showSilent {p : Nat} :
    fieldsAt linkKey (s.showSilent p).regs = fieldsAt linkKey s.regs := by
  simp [State.showSilent]

@[simp] theorem State.linkFields_showTmo {p : Nat} :
    fieldsAt linkKey (s.showTmo p).regs = fieldsAt linkKey s.regs := by
  simp [State.showTmo]

@[simp] theorem State.linkFields_numberTo {p n : Nat} :
    fieldsAt linkKey (s.numberTo p n).regs = fieldsAt linkKey s.regs := by
  simp [State.numberTo]

@[simp] theorem State.linkFields_showTxns {p : Nat} :
    fieldsAt linkKey (s.showTxns p).regs = fieldsAt linkKey s.regs := by
  simp [State.showTxns]

@[simp] theorem State.linkFields_dispatch {p : Nat} {req : ReqMsg} {owner : Owner} {tenant : Nat} :
    fieldsAt linkKey (s.dispatch p req owner tenant).regs = fieldsAt linkKey s.regs := by
  simp [State.dispatch]

@[simp] theorem State.regs_setDesc {d : Desc} : (s.setDesc d).regs = s.regs := rfl

@[simp] theorem State.regs_dropDescs {q : Nat} {l : List Desc} : (s.dropDescs q l).regs = s.regs := rfl

@[simp] theorem State.linkFields_advanceHead {q : Nat} :
    fieldsAt linkKey (s.advanceHead q).regs = fieldsAt linkKey s.regs := by
  simp [State.advanceHead]

@[simp] theorem State.linkFields_showInflight {q : Nat} :
    fieldsAt linkKey (s.showInflight q).regs = fieldsAt linkKey s.regs := by
  simp [State.showInflight]

@[simp] theorem State.linkFields_complete {q idx status done : Nat} {data : List Nat} :
    fieldsAt linkKey (s.complete q idx status done data).regs = fieldsAt linkKey s.regs := by
  unfold State.complete
  split
  · rfl
  · simp

@[simp] theorem State.linkFields_settle {q idx : Nat} :
    fieldsAt linkKey (s.settle q idx).regs = fieldsAt linkKey s.regs := by
  unfold State.settle
  split
  · rfl
  · dsimp only
    repeat' split
    all_goals simp

@[simp] theorem State.linkFields_answer {q idx part status : Nat} {data : List Nat} :
    fieldsAt linkKey (s.answer q idx part status data).regs = fieldsAt linkKey s.regs := by
  unfold State.answer
  split <;> simp

@[simp] theorem State.linkFields_tell {o : Owner} {op status : Nat} {data : List Nat} :
    fieldsAt linkKey (s.tell o op status data).regs = fieldsAt linkKey s.regs := by
  cases o <;> simp [State.tell]

@[simp] theorem State.linkFields_pumpOne {p : Nat} :
    fieldsAt linkKey (s.pumpOne p).regs = fieldsAt linkKey s.regs := by
  unfold State.pumpOne
  split
  · rfl
  · simp

@[simp] theorem State.linkFields_pump {p : Nat} : fieldsAt linkKey (s.pump p).regs = fieldsAt linkKey s.regs := by
  simp [State.pump]

@[simp] theorem State.linkFields_showOld : fieldsAt linkKey s.showOld.regs = fieldsAt linkKey s.regs := by
  simp [State.showOld]

@[simp] theorem State.linkFields_txnDone {p : Nat} {t : Txn} {status : Nat} {data : List Nat} :
    fieldsAt linkKey (s.txnDone p t status data).regs = fieldsAt linkKey s.regs := by
  simp [State.txnDone]

@[simp] theorem State.linkFields_setN {p n : Nat} : fieldsAt linkKey (s.setN p n).regs = fieldsAt linkKey s.regs := by
  simp [State.setN]

@[simp] theorem State.linkFields_showLine {p : Nat} :
    fieldsAt linkKey (s.showLine p).regs = fieldsAt linkKey s.regs := by
  simp [State.showLine]

@[simp] theorem State.regs_setRxView {x : ViewRx} : (s.setRxView x).regs = s.regs := rfl

@[simp] theorem State.regs_spireFails : s.spireFails.regs = s.regs := rfl

@[simp] theorem State.regs_markBad {v : Nat} : (s.markBad v).regs = s.regs := by
  unfold State.markBad
  split
  · rfl
  · simp

@[simp] theorem State.regs_setStream {p : Nat} {x : StreamSt} : (s.setStream p x).regs = s.regs := rfl

@[simp] theorem State.linkFields_takeLead {cause : Nat} :
    fieldsAt linkKey (s.takeLead cause).regs = fieldsAt linkKey s.regs := by
  simp [State.takeLead]

@[simp] theorem State.linkFields_leadFails {cause : Nat} :
    fieldsAt linkKey (s.leadFails cause).regs = fieldsAt linkKey s.regs := by
  simp [State.leadFails]

@[simp] theorem State.linkFields_evaluate : fieldsAt linkKey s.evaluate.regs = fieldsAt linkKey s.regs := by
  simp [State.evaluate]

@[simp] theorem State.linkFields_putModeCur {m : ModeW} :
    fieldsAt linkKey (s.putModeCur m).regs = fieldsAt linkKey s.regs := by
  simp [State.putModeCur]

@[simp] theorem State.linkFields_modeChange {m : ModeW} {cause : Nat} :
    fieldsAt linkKey (s.modeChange m cause).regs = fieldsAt linkKey s.regs := by
  simp [State.modeChange]

@[simp] theorem State.linkFields_putModeNext {m : ModeW} :
    fieldsAt linkKey (s.putModeNext m).regs = fieldsAt linkKey s.regs := by
  simp [State.putModeNext]

@[simp] theorem State.linkFields_copyCoding {c : Nat} :
    fieldsAt linkKey (s.copyCoding c).regs = fieldsAt linkKey s.regs := by
  simp [State.copyCoding]

@[simp] theorem State.linkFields_parLog {addr port ch sram array code bytes : Nat} :
    fieldsAt linkKey (s.parLog addr port ch sram array code bytes).regs = fieldsAt linkKey s.regs := by
  simp [State.parLog]

@[simp] theorem State.linkFields_dramErr {page code port addr bytes : Nat} :
    fieldsAt linkKey (s.dramErr page code port addr bytes).regs = fieldsAt linkKey s.regs := by
  simp [State.dramErr]

@[simp] theorem State.regs_dropChannel {c : Nat} : (s.dropChannel c).regs = s.regs := rfl

@[simp] theorem State.linkFields_mirrorLost : fieldsAt linkKey s.mirrorLost.regs = fieldsAt linkKey s.regs := by
  simp [State.mirrorLost]

@[simp] theorem State.linkFields_setCh {c v : Nat} :
    fieldsAt linkKey (s.setCh c v).regs = fieldsAt linkKey s.regs := by
  simp [State.setCh]

@[simp] theorem State.linkFields_enterOffline {c : Nat} :
    fieldsAt linkKey (s.enterOffline c).regs = fieldsAt linkKey s.regs := by
  simp [State.enterOffline]

@[simp] theorem State.linkFields_mismatchHit {c : Nat} :
    fieldsAt linkKey (s.mismatchHit c).regs = fieldsAt linkKey s.regs := by
  simp [State.mismatchHit]

@[simp] theorem State.regs_moved {l : List Nat} {n : Nat} : (s.moved l n).regs = s.regs := rfl

@[simp] theorem State.regs_setPar {a c m : Nat} : (s.setPar a c m).regs = s.regs := rfl

@[simp] theorem State.linkFields_dramRead {port a : Nat} :
    fieldsAt linkKey (s.dramRead port a).1.regs = fieldsAt linkKey s.regs := by
  unfold State.dramRead
  split
  · simp
  · rfl
  · simp [apply_ite Prod.fst]

@[simp] theorem State.linkFields_planeValue {set view i : Nat} {d : Nat × Bool} :
    fieldsAt linkKey (s.planeValue set view i d).1.regs = fieldsAt linkKey s.regs := by
  simp [State.planeValue, apply_ite Prod.fst]

@[simp] theorem State.linkFields_loadValue {set view i : Nat} {d : Nat × Bool} {dark : Bool} :
    fieldsAt linkKey (s.loadValue set view i d dark).1.regs = fieldsAt linkKey s.regs := by
  simp [State.loadValue]

@[simp] theorem State.linkFields_readLamps {port a n : Nat} :
    fieldsAt linkKey (s.readLamps port a n).1.regs = fieldsAt linkKey s.regs := by
  unfold State.readLamps
  exact fieldsAt_foldl1 (fun r i => by simp) _

@[simp] theorem State.linkFields_loadValues {set view i0 n : Nat} {dark : Bool} :
    fieldsAt linkKey (s.loadValues set view i0 n dark).1.regs = fieldsAt linkKey s.regs := by
  unfold State.loadValues
  split_ifs
  · rfl
  · exact (fieldsAt_foldl1 (fun r e => by simp) _).trans State.linkFields_readLamps

@[simp] theorem State.linkFields_memCheck : fieldsAt linkKey s.memCheck.regs = fieldsAt linkKey s.regs := by
  simp [State.memCheck]

@[simp] theorem State.linkFields_memSettle {was : List Nat} :
    fieldsAt linkKey (s.memSettle was).regs = fieldsAt linkKey s.regs := by
  simp [State.memSettle]

@[simp] theorem State.regs_sendBand {b : Nat} {vals : List Nat} : (s.sendBand b vals).regs = s.regs := by
  simp [State.sendBand]

@[simp] theorem State.regs_setBand {b : Nat} {x : Band} : (s.setBand b x).regs = s.regs := rfl

@[simp] theorem State.linkFields_showLoading : fieldsAt linkKey s.showLoading.regs = fieldsAt linkKey s.regs := by
  simp [State.showLoading]

@[simp] theorem State.linkFields_loadBand {b set : Nat} {reload : Bool} :
    fieldsAt linkKey (s.loadBand b set reload).regs = fieldsAt linkKey s.regs := by
  simp [State.loadBand]

@[simp] theorem State.linkFields_injectWrite {port a n : Nat} :
    fieldsAt linkKey (s.injectWrite port a n).regs = fieldsAt linkKey s.regs := by
  unfold State.injectWrite
  split
  · simp [regs_foldl (f := fun (s : State) c => s.setPar a c _) (fun _ _ => rfl)]
  · rfl

@[simp] theorem State.regs_markWrite {a n : Nat} {poison : Bool} : (s.markWrite a n poison).regs = s.regs := by
  unfold State.markWrite
  refine regs_foldl (fun s i => ?_) _
  exact regs_foldl (f := fun (s : State) c => s.setPar _ c _) (fun _ _ => rfl) _

@[simp] theorem State.regs_queueWrite {l : List Nat} {a n : Nat} : (s.queueWrite l a n).regs = s.regs := rfl

@[simp] theorem State.linkFields_dramPut {port a : Nat} {bytes : List Byte} {poison : Bool} :
    fieldsAt linkKey (s.dramPut port a bytes poison).regs = fieldsAt linkKey s.regs := by
  unfold State.dramPut
  split
  · simp
  · rfl
  · simp

@[simp] theorem State.linkFields_dramWrite {port a : Nat} {bytes : List Byte} {poison : Bool} :
    fieldsAt linkKey (s.dramWrite port a bytes poison).regs = fieldsAt linkKey s.regs := by
  unfold State.dramWrite
  split <;> simp

@[simp] theorem State.linkFields_writeLamps {a : Nat} {l : List (Nat × Bool)} :
    fieldsAt linkKey (s.writeLamps a l).regs = fieldsAt linkKey s.regs := by
  simp [State.writeLamps]

@[simp] theorem State.linkFields_repeatRow {y : Nat} :
    fieldsAt linkKey (s.repeatRow y).regs = fieldsAt linkKey s.regs := by
  simp [State.repeatRow]

@[simp] theorem State.linkFields_closeBand {b : Nat} :
    fieldsAt linkKey (s.closeBand b).regs = fieldsAt linkKey s.regs := by
  simp [State.closeBand]

@[simp] theorem State.linkFields_bandRow {y : Nat} :
    fieldsAt linkKey (s.bandRow y).regs = fieldsAt linkKey s.regs := by
  simp [State.bandRow]

@[simp] theorem State.regs_keepMax {L : Latch} {x y e d : Nat} {bad : Bool} :
    (s.keepMax L x y e d bad).regs = s.regs := rfl

@[simp] theorem State.regs_prbsTo {L : Latch} {view i : Nat} : (s.prbsTo L view i).1.regs = s.regs := rfl

@[simp] theorem State.linkFields_dramBytes {port a n : Nat} :
    fieldsAt linkKey (s.dramBytes port a n).1.regs = fieldsAt linkKey s.regs := by
  unfold State.dramBytes
  exact fieldsAt_foldl1 (fun r i => by simp) _

@[simp] theorem State.linkFields_records {bank : Nat} {flags : List Nat} {i0 n : Nat} :
    fieldsAt linkKey (s.records bank flags i0 n).1.regs = fieldsAt linkKey s.regs := by
  unfold State.records
  refine fieldsAt_foldl1 (fun r j => ?_) _
  dsimp only
  split_ifs <;> simp

@[simp] theorem State.linkFields_correctRow {L : Latch} {view y : Nat} {px : List Pix} {bad : List Nat} :
    fieldsAt linkKey (s.correctRow L view y px bad).regs = fieldsAt linkKey s.regs := by
  simp only [State.correctRow, State.linkFields_writeLamps]
  refine (fieldsAt_foldl1 (fun a j => ?_) _).trans ?_
  · dsimp only
    split_ifs <;> rfl
  · split <;> simp

@[simp] theorem State.linkFields_takeRow {v y bits : Nat} {bad : List Nat} :
    fieldsAt linkKey (s.takeRow v y bits bad).regs = fieldsAt linkKey s.regs := by
  unfold State.takeRow
  split
  · rfl
  split
  · rfl
  split
  · rfl
  lift_lets
  extract_lets px crc s₁ src s₂
  have e : fieldsAt linkKey s₂.regs = fieldsAt linkKey s.regs := by simp only [s₂]; split <;> rfl
  rw [← e]
  clear_value s₂
  split
  · simp
  · rfl

@[simp] theorem State.linkFields_fromRing : fieldsAt linkKey s.fromRing.regs = fieldsAt linkKey s.regs := by
  simp [State.fromRing]

@[simp] theorem State.linkFields_lostRow {v y : Nat} :
    fieldsAt linkKey (s.lostRow v y).regs = fieldsAt linkKey s.regs := by
  unfold State.lostRow
  split
  · rfl
  lift_lets
  extract_lets f n
  split
  rename_i s₁ l h
  lift_lets
  extract_lets s₂ s₃ s₄
  have e₁ : fieldsAt linkKey s₁.regs = fieldsAt linkKey s.regs := by
    rw [show s₁ = (s.readLamps 2 (s.planeBase f v + 2 * (y * n)) n).1 by rw [h], State.linkFields_readLamps]
  have e₂ : fieldsAt linkKey s₂.regs = fieldsAt linkKey s₁.regs := by
    simp only [s₂]
    split
    · refine fieldsAt_foldl (fun s e => ?_) _
      rfl
    · rfl
  have e₄ : fieldsAt linkKey s₄.regs = fieldsAt linkKey s.regs := by simp [s₄, s₃, e₂, e₁]
  clear_value s₄
  split
  · exact e₄
  · exact e₄

@[simp] theorem State.regs_drawN {n : Nat} : (s.drawN n).regs = s.regs := rfl

@[simp] theorem State.linkFields_beginPass {n : Nat} :
    fieldsAt linkKey (s.beginPass n).regs = fieldsAt linkKey s.regs := by
  refine (State.fieldsAt_evIf (by simp)).trans ((fieldsAt_forN (fun s z => by simp)).trans ?_)
  simp only [State.fieldsAt_set, linkKey_cor]
  rfl

@[simp] theorem State.linkFields_maybeBegin : fieldsAt linkKey s.maybeBegin.regs = fieldsAt linkKey s.regs := by
  simp [State.maybeBegin]

@[simp] theorem State.linkFields_raiTake {maxima : List Nat} :
    fieldsAt linkKey (s.raiTake maxima).regs = fieldsAt linkKey s.regs := by
  simp [State.raiTake]

@[simp] theorem State.linkFields_viewDark {v : Nat} :
    fieldsAt linkKey (s.viewDark v).regs = fieldsAt linkKey s.regs := by
  simp [State.viewDark]

@[simp] theorem State.linkFields_openView {v : Nat} {dark : Bool} :
    fieldsAt linkKey (s.openView v dark).regs = fieldsAt linkKey s.regs := by
  simp [State.openView]

@[simp] theorem State.regs_judgeShare {v : Nat} {tr : ShareTrl} : (s.judgeShare v tr).regs = s.regs := by
  unfold State.judgeShare
  repeat' split
  all_goals simp

@[simp] theorem State.linkFields_standbyJudge {l : List StandbyView} :
    fieldsAt linkKey (s.standbyJudge l).regs = fieldsAt linkKey s.regs := by
  unfold State.standbyJudge
  refine fieldsAt_foldl (fun s x => ?_) _
  split
  · simp
  · rfl

@[simp] theorem State.linkFields_openShare {v : Nat} {h : ShareHdr} :
    fieldsAt linkKey (s.openShare v h).regs = fieldsAt linkKey s.regs := by
  unfold State.openShare
  split
  · rfl
  · simp

@[simp] theorem State.linkFields_standbyOpen {l : List StandbyView} :
    fieldsAt linkKey (s.standbyOpen l).regs = fieldsAt linkKey s.regs := by
  unfold State.standbyOpen
  refine fieldsAt_foldl (fun s x => ?_) _
  dsimp only
  split <;> simp

@[simp] theorem State.linkFields_showPort {q : Nat} :
    fieldsAt linkKey (s.showPort q).regs = fieldsAt linkKey s.regs := by
  simp only [State.showPort]
  split
  · rfl
  split_ifs
  · rfl
  rw [State.linkFields_standbyJudge]
  refine (fieldsAt_foldl (fun s r => ?_) _).trans (by simp)
  split
  · split_ifs
    · rfl
    · refine fieldsAt_foldl (fun s y => ?_) _
      split
      · simp
      · rfl
  · rfl

@[simp] theorem State.linkFields_streamFail {p cause : Nat} :
    fieldsAt linkKey (s.streamFail p cause).regs = fieldsAt linkKey s.regs := by
  unfold State.streamFail
  cases s.role with
  | sender => dsimp only; split <;> simp
  | tile => simp

@[simp] theorem State.linkFields_streamLost {p : Nat} :
    fieldsAt linkKey (s.streamLost p).regs = fieldsAt linkKey s.regs := by
  simp [State.streamLost]

@[simp] theorem State.linkFields_lineLost {p : Nat} :
    fieldsAt linkKey (s.lineLost p).regs = fieldsAt linkKey s.regs := by
  unfold State.lineLost
  dsimp only
  split <;> simp

@[simp] theorem State.regs_reportLink {q cause : Nat} : (s.reportLink q cause).regs = s.regs := by
  simp [State.reportLink]

@[simp] theorem State.linkFields_setService {p : Nat} {l : List Nat} :
    fieldsAt linkKey (s.setService p l).regs = fieldsAt linkKey s.regs := by
  simp [State.setService]

@[simp] theorem State.linkFields_setStage {p v : Nat} :
    fieldsAt linkKey (s.setStage p v).regs = fieldsAt linkKey s.regs := by
  simp [State.setStage]

@[simp] theorem State.linkFields_portLeaves {p st : Nat} :
    fieldsAt linkKey (s.portLeaves p st).regs = fieldsAt linkKey s.regs := by
  simp [State.portLeaves]

@[simp] theorem State.linkFields_portDown {p : Nat} :
    fieldsAt linkKey (s.portDown p).regs = fieldsAt linkKey s.regs := by
  simp [State.portDown]

@[simp] theorem State.linkFields_setLaneState {l v : Nat} :
    fieldsAt linkKey (s.setLaneState l v).regs = fieldsAt linkKey s.regs := by
  simp [State.setLaneState]

@[simp] theorem State.linkFields_trainOver {l : Nat} :
    fieldsAt linkKey (s.trainOver l).regs = fieldsAt linkKey s.regs := by
  simp [State.trainOver]

@[simp] theorem State.linkFields_failLane {p k reason : Nat} :
    fieldsAt linkKey (s.failLane p k reason).regs = fieldsAt linkKey s.regs := by
  simp [State.failLane]

@[simp] theorem State.regs_sendTraining {l : Nat} : (s.sendTraining l).regs = s.regs := by
  simp [State.sendTraining]

@[simp] theorem State.linkFields_setTxTaps {l : Nat} {t : List Int} :
    fieldsAt linkKey (s.setTxTaps l t).regs = fieldsAt linkKey s.regs := by
  simp [State.setTxTaps]

@[simp] theorem State.linkFields_toDetect {p : Nat} :
    fieldsAt linkKey (s.toDetect p).regs = fieldsAt linkKey s.regs := by
  simp [State.toDetect]

@[simp] theorem State.linkFields_linkDown {p : Nat} :
    fieldsAt linkKey (s.linkDown p).regs = fieldsAt linkKey s.regs := by
  simp [State.linkDown]

@[simp] theorem State.linkFields_portEnable {p : Nat} :
    fieldsAt linkKey (s.portEnable p).regs = fieldsAt linkKey s.regs := by
  simp [State.portEnable]

@[simp] theorem State.linkFields_portDisable {p : Nat} :
    fieldsAt linkKey (s.portDisable p).regs = fieldsAt linkKey s.regs := by
  simp [State.portDisable]

@[simp] theorem State.linkFields_startTraining {l st : Nat} :
    fieldsAt linkKey (s.startTraining l st).regs = fieldsAt linkKey s.regs := by
  simp [State.startTraining]

@[simp] theorem State.regs_rxStart {p : Nat} : (s.rxStart p).regs = s.regs := by
  unfold State.rxStart
  refine regs_foldl (fun s k => ?_) _
  rfl

@[simp] theorem State.regs_sendWord {l w : Nat} : (s.sendWord l w).regs = s.regs := by
  simp [State.sendWord]

@[simp] theorem State.regs_sendAm {p n : Nat} : (s.sendAm p n).regs = s.regs := by
  simp [State.sendAm]

@[simp] theorem State.regs_sendData {p i k : Nat} : (s.sendData p i k).regs = s.regs := by
  simp [State.sendData]

@[simp] theorem State.regs_sendWords {p : Nat} : (s.sendWords p).regs = s.regs := by
  simp [State.sendWords]

@[simp] theorem State.regs_pushFlits {p : Nat} {l : List Nat} : (s.pushFlits p l).regs = s.regs := by
  simp [State.pushFlits]

@[simp] theorem State.regs_txSend {p : Nat} {g : TxGroup} : (s.txSend p g).regs = s.regs := by
  simp [State.txSend]

@[simp] theorem State.regs_txStart {p : Nat} : (s.txStart p).regs = s.regs := by
  simp only [State.txStart, State.regs_txSend, State.regs_sendAm]
  refine regs_foldl (fun s k => ?_) _
  rfl

@[simp] theorem State.linkFields_usePre {l : Nat} : fieldsAt linkKey (s.usePre l).regs = fieldsAt linkKey s.regs := by
  simp [State.usePre]

@[simp] theorem State.linkFields_toLock {p : Nat} : fieldsAt linkKey (s.toLock p).regs = fieldsAt linkKey s.regs := by
  simp [State.toLock]

@[simp] theorem State.linkFields_detectEnds {p : Nat} :
    fieldsAt linkKey (s.detectEnds p).regs = fieldsAt linkKey s.regs := by
  simp [State.detectEnds]

@[simp] theorem State.regs_txGroup {p : Nat} : (s.txGroup p).regs = s.regs := by
  simp [State.txGroup]

@[simp] theorem State.linkFields_moveLanes {p : Nat} {was now : List Nat} :
    fieldsAt linkKey (s.moveLanes p was now).regs = fieldsAt linkKey s.regs := by
  simp only [State.moveLanes]
  refine (fieldsAt_foldl (fun s k => ?_) _).trans ((fieldsAt_foldl (fun s k => ?_) _).trans
    (fieldsAt_foldl (fun s k => ?_) _)) <;> simp

@[simp] theorem State.linkFields_laneUp {l : Nat} {inServ : Bool} :
    fieldsAt linkKey (s.laneUp l inServ).regs = fieldsAt linkKey s.regs := by
  simp [State.laneUp]

@[simp] theorem State.linkFields_placeLanes {p : Nat} :
    fieldsAt linkKey (s.placeLanes p).regs = fieldsAt linkKey s.regs := by
  simp [State.placeLanes]

@[simp] theorem State.linkFields_replayFrom {p from_ : Nat} :
    fieldsAt linkKey (s.replayFrom p from_).regs = fieldsAt linkKey s.regs := by
  simp [State.replayFrom]

@[simp] theorem State.linkFields_widthSwitch {p : Nat} :
    fieldsAt linkKey (s.widthSwitch p).regs = fieldsAt linkKey s.regs := by
  unfold State.widthSwitch
  lift_lets
  extract_lets x was s₀
  split
  · extract_lets now s₁ s₂ s₃ s₄ s₅
    have e₄ : fieldsAt linkKey s₄.regs = fieldsAt linkKey s.regs := by
      simp only [s₄]
      split <;> simp [s₃, s₂, s₁, s₀]
    clear_value s₄
    split
    · simp [s₀]
    · split <;> simp [s₅, e₄]
  · rfl

@[simp] theorem State.linkFields_startWidth {p : Nat} :
    fieldsAt linkKey (s.startWidth p).regs = fieldsAt linkKey s.regs := by
  simp [State.startWidth]

@[simp] theorem State.linkFields_mayWiden {p : Nat} :
    fieldsAt linkKey (s.mayWiden p).regs = fieldsAt linkKey s.regs := by
  simp [State.mayWiden]

@[simp] theorem State.linkFields_limitWidth {p : Nat} :
    fieldsAt linkKey (s.limitWidth p).regs = fieldsAt linkKey s.regs := by
  simp [State.limitWidth]

@[simp] theorem State.linkFields_toCapx {p : Nat} : fieldsAt linkKey (s.toCapx p).regs = fieldsAt linkKey s.regs := by
  simp [State.toCapx]

@[simp] theorem State.linkFields_lockCheck {p : Nat} :
    fieldsAt linkKey (s.lockCheck p).regs = fieldsAt linkKey s.regs := by
  simp [State.lockCheck]

@[simp] theorem State.linkFields_enumStart {p : Nat} :
    fieldsAt linkKey (s.enumStart p).regs = fieldsAt linkKey s.regs := by
  simp [State.enumStart]

@[simp] theorem State.linkFields_toActive {p : Nat} :
    fieldsAt linkKey (s.toActive p).regs = fieldsAt linkKey s.regs := by
  simp [State.toActive]

@[simp] theorem State.linkFields_tryActive {p : Nat} :
    fieldsAt linkKey (s.tryActive p).regs = fieldsAt linkKey s.regs := by
  simp [State.tryActive]

end LinkFields

theorem State.get_of_fieldsAt {K : Nat → Bool} {s z : State} {f : Fld} (hf : K f.key = true) (hs : s.regsOk)
    (hz : z.regsOk) (e : fieldsAt K s.regs = fieldsAt K z.regs) : s.get f = z.get f := by
  rw [State.get, State.get, ← lookupD_fieldsAt hf _ hs, ← lookupD_fieldsAt hf _ hz, e]

/-! ### What lies outside the header of any page -/

theorem headerKey_of_ctrlKey {b n : Nat} (h : ctrlKey b n = true) : headerKey b n = true := by simp [headerKey, h]

theorem linkKey_of_headerKey {p n : Nat} (hp : p < 2) (h : headerKey (B.lnk p) n = true) : linkKey n = true := by
  have : p = 0 ∨ p = 1 := by omega
  rcases this with rfl | rfl <;> simp [linkKey, h]

theorem ctrlKey_of_headerKey {b n : Nat} (h : headerKey b n = false) : ctrlKey b n = false := by
  simp only [headerKey, Bool.or_eq_false_iff] at h
  exact h.1

theorem headerKey_offset {b : Nat} (hb : b % 0x1000 = 0) {f : Fld} (h : 0x100 ≤ f.addr % 0x1000) (hl : f.lsb < 32) :
    headerKey b f.key = false :=
  headerKey_eq_false (by simp only [Fld.key]; omega)

section Header
variable {s : State} {b c k : Nat}

theorem headerKey_mirrorSeq (hb : b % 0x1000 = 0) : headerKey b R.RDN.MIRROR_SEQ.TX.key = false :=
  headerKey_offset hb (by decide) (by decide)

theorem headerKey_dep (hb : b % 0x1000 = 0) :
    headerKey b R.DEP.MODE_CHECK.VALID.key = false ∧ headerKey b R.DEP.MODE_CHECK.RULE.key = false ∧
      headerKey b R.DEP.MODE_CHECK.FIELDS.key = false ∧ headerKey b R.DEP.MODE_CHECK.EPOCH_PENDING.key = false ∧
      headerKey b R.DEP.MODE_CHECK.DEP_PENDING.key = false ∧ headerKey b R.DEP.MODE_CTRL.FB_VALID.key = false := by
  and_intros <;> exact headerKey_offset hb (by decide) (by decide)

theorem headerKey_chStat (hb : b % 0x1000 = 0) :
    headerKey b (R.MEM.CH_STAT.STATE k).key = false ∧ headerKey b (R.MEM.CH_STAT.MIRROR_OK k).key = false := by
  constructor <;> refine headerKey_offset hb ?_ (by simp [R.MEM.CH_STAT.STATE, R.MEM.CH_STAT.MIRROR_OK]) <;>
    simp only [R.MEM.CH_STAT.STATE, R.MEM.CH_STAT.MIRROR_OK] <;> omega

theorem headerKey_evtPend (hb : b % 0x1000 = 0) (hc : c % 0x1000 = 0) : headerKey b (R.PG.EVT_PEND c).key = false :=
  headerKey_eq_false (by simp only [R.PG.EVT_PEND, Fld.key]; omega)

theorem headerKey_statFlag (hb : b % 0x1000 = 0) (hc : c % 0x1000 = 0) :
    headerKey b (R.PG.FAULT c).key = false ∧ headerKey b (R.PG.BUSY c).key = false := by
  simp only [headerKey, ctrlKey, List.any_cons, List.any_nil, Bool.or_false, Bool.or_eq_false_iff, beq_eq_false_iff_ne,
    Fld.key, R.PG.EN, R.PG.COMMIT, R.PG.FREEZE, R.PG.COMMIT_PENDING, R.PG.FROZEN, R.PG.HW_FREEZE,
    R.PG.ERR_CODE, R.PG.FAULT, R.PG.BUSY]
  omega

theorem State.fieldsAt_mirror {K : Nat → Bool} (h : K R.RDN.MIRROR_SEQ.TX.key = false) {r : MirrorRec} :
    fieldsAt K (s.mirror r).regs = fieldsAt K s.regs := by
  simp [State.mirror, h]

theorem State.fieldsAt_mirrorReg {K : Nat → Bool} (h : K R.RDN.MIRROR_SEQ.TX.key = false) {a : Nat} :
    fieldsAt K (s.mirrorReg a).regs = fieldsAt K s.regs := by
  simp [State.mirrorReg, State.fieldsAt_mirror h]

theorem State.fieldsAt_mirrorArm {K : Nat → Bool} (h : K R.RDN.MIRROR_SEQ.TX.key = false) {on : Bool} :
    fieldsAt K (s.mirrorArm b on).regs = fieldsAt K s.regs := by
  simp [State.mirrorArm, State.fieldsAt_mirror h]

theorem State.header_evaluate (hb : b % 0x1000 = 0) :
    fieldsAt (headerKey b) s.evaluate.regs = fieldsAt (headerKey b) s.regs := by
  simp [State.evaluate, headerKey_dep hb, headerKey_evtPend hb]

theorem State.header_memCheck (hb : b % 0x1000 = 0) :
    fieldsAt (headerKey b) s.memCheck.regs = fieldsAt (headerKey b) s.regs := by
  simp [State.memCheck, State.fault, State.header_evaluate hb, headerKey_statFlag hb, headerKey_evtPend hb]

theorem State.header_mirrorLost (hb : b % 0x1000 = 0) :
    fieldsAt (headerKey b) s.mirrorLost.regs = fieldsAt (headerKey b) s.regs := by
  simp [State.mirrorLost, headerKey_chStat hb, headerKey_evtPend hb]

theorem State.header_memEnable (hb : b % 0x1000 = 0) :
    fieldsAt (headerKey b) (s.memEnable k).regs = fieldsAt (headerKey b) s.regs := by
  simp [State.memEnable, State.setCh, headerKey_chStat hb]

theorem State.header_dropLoads (hb : b % 0x1000 = 0) :
    fieldsAt (headerKey b) s.dropLoads.regs = fieldsAt (headerKey b) s.regs :=
  State.fieldsAt_set (headerKey_offset hb (by decide) (by decide))

@[simp] theorem State.regs_stopPicture : (s.stopPicture b).regs = s.regs := by
  unfold State.stopPicture
  split <;> rfl

@[simp] theorem State.regs_stopPass : s.stopPass.regs = s.regs := by
  unfold State.stopPass
  rfl

end Header

/-! ### The rails -/

theorem ctrlKey_eq_false {b n : Nat} (h : n / 32 ≠ b + 8 ∧ n / 32 ≠ b + 0xC) : ctrlKey b n = false := by
  simp only [ctrlKey, List.any_cons, List.any_nil, Bool.or_false, Bool.or_eq_false_iff, beq_eq_false_iff_ne,
    Fld.key, R.PG.EN, R.PG.COMMIT, R.PG.FREEZE, R.PG.COMMIT_PENDING, R.PG.FROZEN, R.PG.HW_FREEZE]
  omega

/-- The channel registers stand 0x40 bytes apart, so that none of them lies at the offset of PG_CTRL or PG_STAT. -/
theorem ctrlKey_channel {b o k l w r : Nat} (hb : b % 0x1000 = 0) (h : o % 0x40 ≠ 8 ∧ o % 0x40 ≠ 0xC) (hl : l < 32) :
    ctrlKey b (Fld.key ⟨o + k * 0x40, l, w, r⟩) = false :=
  ctrlKey_eq_false (by simp only [Fld.key]; omega)

section Rails
variable {s : State} {b c : Nat}

theorem ctrlKey_rch (hb : b % 0x1000 = 0) :
    ctrlKey b (R.RCH.CH_CNT.REJECT c).key = false ∧ ctrlKey b (R.RCH.CH_TARGET.NEXT c).key = false ∧
      ctrlKey b (R.RCH.CH_TARGET.FLOOR c).key = false ∧ ctrlKey b (R.RCH.CH_STAT.AT_TARGET c).key = false ∧
      ctrlKey b (R.RCH.CH_STAT.CLAMPED c).key = false ∧ ctrlKey b (R.RCH.CH_STAT.STATE c).key = false ∧
      ctrlKey b (R.RCH.CH_STAT.DISCHARGED c).key = false ∧ ctrlKey b (R.RCH.CH_STAT.SET_NOW c).key = false := by
  and_intros <;> exact ctrlKey_channel hb (by decide) (by decide)

theorem ctrlKey_raiReady (hb : b % 0x1000 = 0) : ctrlKey b R.RAI.RAI_READY.READY.key = false :=
  ctrlKey_of_headerKey (headerKey_offset hb (by decide) (by decide))

theorem State.ctrl_rejectEv (hb : b % 0x1000 = 0) :
    fieldsAt (ctrlKey b) (s.rejectEv c).regs = fieldsAt (ctrlKey b) s.regs := by
  simp [State.rejectEv, ctrlKey_rch hb, ctrlKey_of_headerKey (headerKey_evtPend hb (c := B.rai) rfl)]

theorem State.ctrl_showRail (hb : b % 0x1000 = 0) :
    fieldsAt (ctrlKey b) (s.showRail c).regs = fieldsAt (ctrlKey b) s.regs := by
  simp [State.showRail, ctrlKey_rch hb]

theorem State.ctrl_railReject (hb : b % 0x1000 = 0) :
    fieldsAt (ctrlKey b) (s.railReject c).regs = fieldsAt (ctrlKey b) s.regs := by
  simp [State.railReject, State.ctrl_rejectEv hb]

theorem State.ctrl_railRejectNext (hb : b % 0x1000 = 0) :
    fieldsAt (ctrlKey b) (s.railRejectNext c).regs = fieldsAt (ctrlKey b) s.regs := by
  simp [State.railRejectNext, State.ctrl_rejectEv hb]

theorem State.ctrl_setRailCur (hb : b % 0x1000 = 0) {t : Nat} :
    fieldsAt (ctrlKey b) (s.setRailCur c t).regs = fieldsAt (ctrlKey b) s.regs := by
  simp [State.setRailCur, State.ctrl_showRail hb, State.ctrl_railReject hb, ctrlKey_rch hb]

theorem State.ctrl_setRailNext (hb : b % 0x1000 = 0) {d : Nat} :
    fieldsAt (ctrlKey b) (s.setRailNext c d).regs = fieldsAt (ctrlKey b) s.regs := by
  simp [State.setRailNext, State.ctrl_showRail hb, State.ctrl_railRejectNext hb]

theorem State.ctrl_railAim (hb : b % 0x1000 = 0) :
    fieldsAt (ctrlKey b) (s.railAim c).regs = fieldsAt (ctrlKey b) s.regs := by
  simp [State.railAim, State.ctrl_setRailCur hb, State.ctrl_setRailNext hb]

theorem State.ctrl_setRail (hb : b % 0x1000 = 0) {v : Nat} :
    fieldsAt (ctrlKey b) (s.setRail c v).regs = fieldsAt (ctrlKey b) s.regs := by
  simp [State.setRail, State.putBit, ctrlKey_rch hb, ctrlKey_raiReady hb]

theorem State.ctrl_railEval (hb : b % 0x1000 = 0) :
    fieldsAt (ctrlKey b) (s.railEval c).regs = fieldsAt (ctrlKey b) s.regs := by
  simp [State.railEval, State.startDischarge, State.ctrl_railAim hb, State.ctrl_setRail hb, ctrlKey_rch hb]

end Rails

/-! ### A port that thaws -/

/-- The keys of `ctrlKey` for the two LNK pages. -/
def linkCtrl (n : Nat) : Bool := ctrlKey (B.lnk 0) n || ctrlKey (B.lnk 1) n

theorem linkKey_of_linkCtrl {n : Nat} (h : linkCtrl n = true) : linkKey n = true := by
  simp only [linkCtrl, Bool.or_eq_true] at h
  simp only [linkKey, Bool.or_eq_true]
  exact h.imp headerKey_of_ctrlKey headerKey_of_ctrlKey

theorem linkCtrl_of_linkKey {n : Nat} (h : linkKey n = false) : linkCtrl n = false :=
  Bool.eq_false_iff.2 fun hc => by simp [linkKey_of_linkCtrl hc] at h

/-- What the logging of an error writes lies outside PG_CTRL and PG_STAT of every page. -/
theorem ctrlKey_err {b c : Nat} (hb : b % 0x1000 = 0) (hc : c % 0x1000 = 0) :
    ∀ f ∈ errFields c, ctrlKey b f.key = false := by
  simp only [errFields, List.forall_mem_cons]
  and_intros <;> try refine ctrlKey_eq_false ?_
  all_goals simp [R.PG.ERR_COUNT, R.PG.ERR_VALID, R.PG.ERR_OVERFLOW, R.PG.ERR_CODE, R.PG.ERR_SOURCE, R.PG.ERR_ADDR_LO,
      R.PG.ERR_ADDR_HI, R.PG.EVT_PEND, Fld.key]
  all_goals omega

theorem linkCtrl_err {b : Nat} (hb : b % 0x1000 = 0) : ∀ f ∈ errFields b, linkCtrl f.key = false := fun f hf => by
  rw [linkCtrl, ctrlKey_err (pageBase_indexed 0).1 hb f hf, ctrlKey_err (pageBase_indexed 1).1 hb f hf, Bool.or_false]

section PortThaw
variable {s : State} {p : Nat}

theorem State.fieldsAt_linkCtrl {s z : State} (e : fieldsAt linkKey s.regs = fieldsAt linkKey z.regs) :
    fieldsAt linkCtrl s.regs = fieldsAt linkCtrl z.regs :=
  fieldsAt_of_imp (fun _ => linkKey_of_linkCtrl) e

theorem State.linkCtrl_bringupFails {code source : Nat} :
    fieldsAt linkCtrl (s.bringupFails p code source).regs = fieldsAt linkCtrl s.regs := by
  have herr := linkCtrl_err (pageBase_indexed p).1
  simp [State.bringupFails, State.fieldsAt_err herr, herr (R.PG.EVT_PEND (B.lnk p)) (by simp [errFields]),
    State.fieldsAt_linkCtrl State.linkFields_setStage]

theorem State.linkCtrl_trainEnds : fieldsAt linkCtrl (s.trainEnds p).regs = fieldsAt linkCtrl s.regs := by
  simp [State.trainEnds, State.linkCtrl_bringupFails, State.fieldsAt_linkCtrl State.linkFields_toLock]

theorem State.linkCtrl_portThaw : fieldsAt linkCtrl (s.portThaw p).regs = fieldsAt linkCtrl s.regs := by
  simp [State.portThaw, State.linkCtrl_trainEnds, State.fieldsAt_linkCtrl State.linkFields_toLock,
    State.fieldsAt_linkCtrl State.linkFields_toDetect, State.fieldsAt_linkCtrl State.linkFields_detectEnds,
    State.fieldsAt_linkCtrl State.linkFields_lockCheck, State.fieldsAt_linkCtrl State.linkFields_tryActive,
    State.fieldsAt_linkCtrl State.linkFields_limitWidth]

end PortThaw

/-! ### The commands of a page -/

/-- The page rows of the LNK block: two pages from 0xA0000. -/
theorem lnk_of_pageAt {b p : Nat} (h : pageAt b = some (.lnk, p)) (hb : b % 0x1000 = 0) : b = B.lnk p ∧ p < 2 := by
  unfold pageAt at h
  split at h
  · next r hr =>
    have hrow : ∀ r ∈ pageRows, r.1 = .lnk → r = (.lnk, 0xA0000, 2) := by decide
    have hin := List.find?_some hr
    simp only [Option.some.injEq, Prod.mk.injEq] at h
    rw [hrow r (List.mem_of_find?_eq_some hr) h.1] at hin h
    simp only [Bool.and_eq_true, decide_eq_true_eq, B.lnk] at hin h ⊢
    omega
  · simp at h

section PageCommands
variable {s z : State} {b p : Nat}

theorem fieldsAt_header_of_link (h : pageAt b = some (.lnk, p)) (hb : b % 0x1000 = 0)
    (e : fieldsAt linkKey s.regs = fieldsAt linkKey z.regs) :
    fieldsAt (headerKey b) s.regs = fieldsAt (headerKey b) z.regs := by
  obtain ⟨rfl, hp⟩ := lnk_of_pageAt h hb
  exact fieldsAt_of_imp (fun _ => linkKey_of_headerKey hp) e

theorem fieldsAt_ctrl_of_header (e : fieldsAt (headerKey b) s.regs = fieldsAt (headerKey b) z.regs) :
    fieldsAt (ctrlKey b) s.regs = fieldsAt (ctrlKey b) z.regs :=
  fieldsAt_of_imp (fun _ => headerKey_of_ctrlKey) e

theorem fieldsAt_ctrl_of_linkCtrl (h : pageAt b = some (.lnk, p)) (hb : b % 0x1000 = 0)
    (e : fieldsAt linkCtrl s.regs = fieldsAt linkCtrl z.regs) :
    fieldsAt (ctrlKey b) s.regs = fieldsAt (ctrlKey b) z.regs := by
  obtain ⟨rfl, hp⟩ := lnk_of_pageAt h hb
  refine fieldsAt_of_imp (fun n hn => ?_) e
  have : p = 0 ∨ p = 1 := by omega
  rcases this with rfl | rfl <;> simp [linkCtrl, hn]

/-- Enabling a page writes EN and nothing else of PG_CTRL and PG_STAT but BUSY. -/
theorem State.ctrl_pageEnable (hb : b % 0x1000 = 0) :
    fieldsAt (ctrlKey b) (s.pageEnable b).regs = fieldsAt (ctrlKey b) (s.set (R.PG.EN b) 1).regs := by
  unfold State.pageEnable
  split
  · next h => exact fieldsAt_ctrl_of_header (fieldsAt_header_of_link h hb State.linkFields_portEnable)
  · exact fieldsAt_ctrl_of_header (State.header_memEnable hb)
  · exact fieldsAt_forN fun s c => State.ctrl_railEval hb
  · dsimp only
    split
    · rfl
    · exact State.fieldsAt_set (ctrlKey_of_headerKey (headerKey_statFlag hb hb).2)
  · rfl

theorem State.ctrl_pageDisable (hb : b % 0x1000 = 0) :
    fieldsAt (ctrlKey b) (s.pageDisable b).regs = fieldsAt (ctrlKey b) (s.set (R.PG.EN b) 0).regs := by
  unfold State.pageDisable
  split
  · next h => exact fieldsAt_ctrl_of_header (fieldsAt_header_of_link h hb State.linkFields_portDisable)
  · exact fieldsAt_forN fun s c => State.ctrl_railEval hb
  · exact fieldsAt_ctrl_of_header (State.header_dropLoads hb)
  · rfl

theorem State.ctrl_writeFreeze {v : Nat} (hb : b % 0x1000 = 0) (hlfm : b ≠ B.lfm) :
    fieldsAt (ctrlKey b) (s.writeFreeze b v).regs = fieldsAt (ctrlKey b) ((s.set (R.PG.FREEZE b) v).showFrozen b).regs := by
  unfold State.writeFreeze
  simp only [hlfm, decide_false, Bool.false_and, Bool.false_eq_true, ↓reduceIte]
  split
  · next p h =>
    have thaw : ∀ z : State, fieldsAt (ctrlKey b) (z.portThaw p).regs = fieldsAt (ctrlKey b) z.regs := fun z =>
      fieldsAt_ctrl_of_linkCtrl h hb State.linkCtrl_portThaw
    simp [thaw]
  · simp

theorem State.header_hwFreeze (hb : b % 0x1000 = 0) :
    fieldsAt (headerKey b) (s.hwFreeze b).regs =
      fieldsAt (headerKey b) (((s.set (R.PG.HW_FREEZE b) 1).showFrozen b).err b 0x05 0 0).regs := by
  unfold State.hwFreeze
  dsimp only
  split
  · next h =>
    rw [fieldsAt_header_of_link h hb State.linkFields_linkDown]
    simp
  · rw [State.header_memCheck hb]
    simp [State.header_mirrorLost hb]
  · simp

end PageCommands

/-! ### The soft reset of TIM -/

/-- The keys of EVT_PEND, ERR_VALID and COMMIT_PENDING of the TIM page. -/
def timHeader (n : Nat) : Bool :=
  [R.PG.EVT_PEND B.tim, R.PG.ERR_VALID B.tim, R.PG.COMMIT_PENDING B.tim].any (fun f => f.key == n)

/-- These keys and that of SLEW_MAX. -/
def timKey (n : Nat) : Bool := timHeader n || R.TIM.SLEW_MAX.V.key == n

theorem timKey_eq_false {n : Nat} (h : 0x8124 * 32 ≤ n) : timKey n = false := by
  simp only [timKey, timHeader, List.any_cons, List.any_nil, Bool.or_false, Bool.or_eq_false_iff, beq_eq_false_iff_ne,
    Fld.key, R.PG.EVT_PEND, R.PG.ERR_VALID, R.PG.COMMIT_PENDING, R.TIM.SLEW_MAX.V, B.tim]
  omega

theorem timKey_tim : timKey R.TIM.TIM_CTRL.WALL_SEL.key = false ∧ timKey R.TIM.TIM_CTRL.FRAME_SRC.key = false ∧
    timKey R.TIM.TIM_STAT.HOLDOVER.key = false ∧ timKey R.TIM.TIM_STAT.D0_STATE.key = false ∧
    timKey R.TIM.TIM_STAT.D1_STATE.key = false ∧ timKey R.TIM.TIM_STAT.TICK_STATE.key = false ∧
    timKey R.TIM.RATE_NEXT.RATE.key = false ∧ timKey R.TIM.LINE_TIME_CFG.INTERVAL_EXP.key = false := by
  decide

theorem timKey_dom (k : Nat) : timKey (R.TIM.DOM_CFG.EN k).key = false ∧ timKey (R.TIM.DOM_STAT.STATE k).key = false ∧
    timKey (R.TIM.DOM_LOST.COUNT k).key = false := by
  and_intros <;> refine timKey_eq_false ?_ <;>
    simp only [Fld.key, R.TIM.DOM_CFG.EN, R.TIM.DOM_STAT.STATE, R.TIM.DOM_LOST.COUNT] <;> omega

theorem timKey_dep : timKey R.DEP.MODE_CHECK.VALID.key = false ∧ timKey R.DEP.MODE_CHECK.RULE.key = false ∧
    timKey R.DEP.MODE_CHECK.FIELDS.key = false ∧ timKey R.DEP.MODE_CHECK.EPOCH_PENDING.key = false ∧
    timKey R.DEP.MODE_CHECK.DEP_PENDING.key = false ∧ timKey R.DEP.MODE_CTRL.FB_VALID.key = false ∧
    timKey (R.PG.EVT_PEND B.dep).key = false := by
  decide

section TimReset
variable {s : State} {d v : Nat}

theorem State.regs_setDom {x : Domain} : (s.setDom d x).regs = s.regs := by
  simp [State.setDom]

theorem State.timKey_showWall : fieldsAt timKey s.showWall.regs = fieldsAt timKey s.regs := by
  simp [State.showWall, timKey_tim]

theorem State.timKey_putDomState : fieldsAt timKey (s.putDomState d v).regs = fieldsAt timKey s.regs := by
  unfold State.putDomState
  rw [State.timKey_showWall, State.fieldsAt_set, State.fieldsAt_set (timKey_dom d).2.1]
  split <;> simp [timKey_tim]

theorem State.timKey_domEnable : fieldsAt timKey (s.domEnable d true).regs = fieldsAt timKey s.regs := by
  simp [State.domEnable, State.enterListen, State.timKey_putDomState, State.regs_setDom, timKey_dom d]

theorem State.timKey_frameSrc : fieldsAt timKey (s.frameSrc v).regs = fieldsAt timKey s.regs := by
  simp [State.frameSrc, State.setTick, timKey_tim]

theorem State.timKey_evaluate : fieldsAt timKey s.evaluate.regs = fieldsAt timKey s.regs := by
  simp [State.evaluate, timKey_dep]

theorem State.timKey_roleDefaults : fieldsAt timKey (s.roleDefaults B.tim).regs = fieldsAt timKey s.regs := by
  simp [State.roleDefaults, timKey_tim, timKey_dom]

/-- Of these fields the reset of the block clears SLEW_MAX alone. -/
theorem State.timKey_timReset : fieldsAt timKey s.timReset.regs = fieldsAt timHeader s.regs := by
  simp only [State.timReset, State.timKey_evaluate, State.timKey_showWall]
  rw [fieldsAt_forN fun s d => by rw [State.timKey_domEnable, State.timKey_putDomState],
    State.timKey_frameSrc, State.fieldsAt_set (by decide), State.timKey_roleDefaults]
  simp only [State.regsReset, State.clearPage, fieldsAt, List.filter_filter]
  refine List.filter_congr fun e _ => ?_
  generalize e.1 = n
  rcases h : timHeader n with _ | _
  · rcases eq_or_ne R.TIM.SLEW_MAX.V.key n with rfl | hn
    · decide
    · simp [timKey, h, hn]
  · simp only [timHeader, List.any_cons, List.any_nil, Bool.or_false, Bool.or_eq_true, beq_iff_eq] at h
    rcases h with rfl | rfl | rfl <;> decide

end TimReset

/-! ### The commands on a running module -/

section Execution
variable {s : State} {b t : Nat}

/-- A command that acts on a live page does so once the clock stands at its time. -/
theorem run_header_of_up (hs : s.up) (hl : s.live b = true) (hb : b % 0x1000 = 0) {f : State → State} :
    run (fun s => (s.tick t).header b f) s = .next (f (s.tick t)) := by
  rw [run_of_up hs]
  simp [State.header, hl, hb]

/-- What a command answers is read off a state `x` that lists the same under the keys of `K`. -/
theorem State.gives_of_fieldsAt {u x : State} {c : Instr} {K : Nat → Bool} {p : State → Prop} (hs : s.up)
    (he : exec c s = .next u) (e : fieldsAt K u.regs = fieldsAt K x.regs) (hx : x.regsOk)
    (hp : ∀ v : State, (∀ f, K f.key = true → v.get f = x.get f) → p v) : s.gives c p :=
  ⟨u, he, hp u fun _ hf => State.get_of_fieldsAt hf (State.leaves_all hs.2 c u he).regs hx e⟩

theorem ctrlKey_ctrl : ctrlKey b (R.PG.EN b).key = true ∧ ctrlKey b (R.PG.COMMIT b).key = true ∧
    ctrlKey b (R.PG.FREEZE b).key = true ∧ ctrlKey b (R.PG.COMMIT_PENDING b).key = true ∧
    ctrlKey b (R.PG.FROZEN b).key = true ∧ ctrlKey b (R.PG.HW_FREEZE b).key = true := by
  simp [ctrlKey]

theorem headerKey_header : headerKey b (R.PG.FROZEN b).key = true ∧ headerKey b (R.PG.HW_FREEZE b).key = true ∧
    headerKey b (R.PG.ERR_CODE b).key = true := by
  simp [headerKey, ctrlKey]

theorem ctrlKey_mirrorSeq (hb : b % 0x1000 = 0) : ctrlKey b R.RDN.MIRROR_SEQ.TX.key = false :=
  ctrlKey_of_headerKey (headerKey_mirrorSeq hb)

theorem State.mayEnable_tick : (s.tick t).mayEnable b = s.mayEnable b := rfl

theorem State.gives_pageEnable (hs : s.up) (hl : s.live b = true) (hb : b % 0x1000 = 0) (hm : s.mayEnable b = true) :
    s.gives (.pageEnable b t) fun u => u.get (R.PG.EN b) = 1 := by
  have hz : (s.tick t).regsOk := hs.2.1
  refine State.gives_of_fieldsAt (K := ctrlKey b) (x := (s.tick t).set (R.PG.EN b) 1) hs (run_header_of_up hs hl hb)
    ?_ (State.regsOk_set hz) fun v hv => ?_
  · rw [State.fieldsAt_mirrorReg (ctrlKey_mirrorSeq hb)]
    simp only [State.writeEn, State.mayEnable_tick, hm, Nat.one_mod, ↓reduceIte]
    exact State.ctrl_pageEnable hb
  · rw [hv _ ctrlKey_ctrl.1, State.get_set_self hz]
    rfl

theorem State.gives_pageDisable (hs : s.up) (hl : s.live b = true) (hb : b % 0x1000 = 0)
    (he : s.get (R.PG.EN b) ≤ 1) :
    s.gives (.pageDisable b t) fun u => u.get (R.PG.EN b) = 0 := by
  have hz : (s.tick t).regsOk := hs.2.1
  obtain hen | hen : s.enabled b = true ∨ s.enabled b = false := by simp
  · refine State.gives_of_fieldsAt (K := ctrlKey b) (x := (s.tick t).set (R.PG.EN b) 0) hs (run_header_of_up hs hl hb)
      ?_ (State.regsOk_set hz) fun v hv => ?_
    · rw [State.fieldsAt_mirrorReg (ctrlKey_mirrorSeq hb), State.writeEn,
        if_neg (by decide), if_pos (show (s.tick t).enabled b = true from hen)]
      exact State.ctrl_pageDisable hb
    · rw [hv _ ctrlKey_ctrl.1, State.get_set_self hz]
      rfl
  · refine State.gives_of_fieldsAt (K := ctrlKey b) (x := s) hs (run_header_of_up hs hl hb) ?_ hs.2.1 fun v hv => ?_
    · rw [State.fieldsAt_mirrorReg (ctrlKey_mirrorSeq hb), State.writeEn,
        if_neg (by decide), if_neg (by rw [show (s.tick t).enabled b = false from hen]; decide)]
      rfl
    · rw [hv _ ctrlKey_ctrl.1]
      simp only [State.enabled, State.on, beq_eq_false_iff_ne] at hen
      omega

theorem State.gives_commitArm (hs : s.up) (hl : s.live b = true) (hb : b % 0x1000 = 0) (hmap : b ≠ B.map)
    (hspire : b ≠ B.spire) (hscn : b ≠ B.scn) :
    s.gives (.commitArm b t) fun u => u.get (R.PG.COMMIT b) = 1 ∧ u.get (R.PG.COMMIT_PENDING b) = 1 := by
  have hz : (s.tick t).regsOk := hs.2.1
  refine State.gives_of_fieldsAt (K := ctrlKey b) (x := (s.tick t).armCommit b) hs (run_header_of_up hs hl hb)
    ?_ (State.regsOk_set (State.regsOk_set hz)) fun v hv => ?_
  · simp only [State.commitArm, hmap, hspire, hscn, decide_false, Bool.false_and, Bool.false_eq_true, ↓reduceIte]
    exact State.fieldsAt_mirrorArm (ctrlKey_mirrorSeq hb)
  · obtain ⟨-, hcommit, -, hpending, -⟩ := ctrlKey_ctrl (b := b)
    rw [hv _ hcommit, hv _ hpending, State.armCommit, State.get_set_self (State.regsOk_set hz),
      State.get_set_ne (State.regsOk_set hz) (by simp only [Fld.key, R.PG.COMMIT, R.PG.COMMIT_PENDING]; omega),
      State.get_set_self hz]
    exact ⟨rfl, rfl⟩

theorem State.gives_commitDisarm (hs : s.up) (hl : s.live b = true) (hb : b % 0x1000 = 0)
    (hp : s.get (R.PG.COMMIT_PENDING b) ≤ 1) :
    s.gives (.commitDisarm b t) fun u => u.get (R.PG.COMMIT_PENDING b) = 0 := by
  have hz : (s.tick t).regsOk := hs.2.1
  obtain ⟨-, -, -, hpending, -⟩ := ctrlKey_ctrl (b := b)
  obtain hon | hon : s.on (R.PG.COMMIT_PENDING b) = true ∨ s.on (R.PG.COMMIT_PENDING b) = false := by simp
  · refine State.gives_of_fieldsAt (K := ctrlKey b) (x := (s.tick t).commitEnd b) hs (run_header_of_up hs hl hb)
      ?_ (State.regsOk_set (State.regsOk_set hz)) fun v hv => ?_
    · rw [State.commitDisarm, if_pos (show (s.tick t).on _ = true from hon)]
      exact State.fieldsAt_mirrorArm (ctrlKey_mirrorSeq hb)
    · rw [hv _ hpending, State.commitEnd, State.get_set_self (State.regsOk_set hz)]
      rfl
  · refine ⟨s.tick t, ?_, ?_⟩
    · refine (run_header_of_up hs hl hb).trans ?_
      rw [State.commitDisarm, if_neg (by rw [show (s.tick t).on _ = false from hon]; decide)]
    · simp only [State.on, beq_eq_false_iff_ne] at hon
      show s.get _ = 0
      omega

/-- FREEZE written and FROZEN shown. -/
theorem State.get_frozen_of_writeFreeze {v : Nat} (h : s.regsOk) :
    ((s.set (R.PG.FREEZE b) v).showFrozen b).get (R.PG.FREEZE b) = v % 2 ∧
      ((s.set (R.PG.FREEZE b) v).showFrozen b).get (R.PG.FROZEN b) = bit (v % 2 == 1 || s.on (R.PG.HW_FREEZE b)) := by
  have hne : (R.PG.FREEZE b).key ≠ (R.PG.FROZEN b).key := by simp only [Fld.key, R.PG.FREEZE, R.PG.FROZEN]; omega
  have hhw : (R.PG.HW_FREEZE b).key ≠ (R.PG.FREEZE b).key := by simp only [Fld.key, R.PG.FREEZE, R.PG.HW_FREEZE]; omega
  rw [State.showFrozen, State.get_set_ne (State.regsOk_set h) hne, State.get_set_self h,
    State.get_set_self (State.regsOk_set h)]
  refine ⟨rfl, ?_⟩
  rw [State.frozen, State.on, State.on, State.on, State.get_set_self h, State.get_set_ne h hhw]
  show bit (v % 2 == 1 || _) % 2 = _
  cases v % 2 == 1 <;> cases s.get (R.PG.HW_FREEZE b) == 1 <;> rfl

theorem State.gives_writeFreeze {c : Instr} {v : Nat} {p : State → Prop} (hs : s.up) (hb : b % 0x1000 = 0)
    (hlfm : b ≠ B.lfm) (he : exec c s = .next (((s.tick t).writeFreeze b v).mirrorReg (b + 8)))
    (hp : ∀ u : State, u.get (R.PG.FREEZE b) = v % 2 →
      u.get (R.PG.FROZEN b) = bit (v % 2 == 1 || s.on (R.PG.HW_FREEZE b)) → p u) : s.gives c p := by
  have hz : (s.tick t).regsOk := hs.2.1
  obtain ⟨-, -, hfreeze, -, hfrozen, -⟩ := ctrlKey_ctrl (b := b)
  obtain ⟨hf, hshown⟩ := State.get_frozen_of_writeFreeze (b := b) (v := v) hz
  refine State.gives_of_fieldsAt (K := ctrlKey b) (x := ((s.tick t).set (R.PG.FREEZE b) v).showFrozen b) hs he
    ?_ (State.regsOk_set (State.regsOk_set hz)) fun u hu => hp u ?_ ?_
  · rw [State.fieldsAt_mirrorReg (ctrlKey_mirrorSeq hb), State.ctrl_writeFreeze hb hlfm]
  · rw [hu _ hfreeze, hf]
  · rw [hu _ hfrozen, hshown]
    rfl

theorem State.gives_freezePage (hs : s.up) (hl : s.live b = true) (hb : b % 0x1000 = 0) (hlfm : b ≠ B.lfm) :
    s.gives (.freezePage b t) fun u => u.get (R.PG.FREEZE b) = 1 ∧ u.get (R.PG.FROZEN b) = 1 :=
  State.gives_writeFreeze hs hb hlfm (run_header_of_up hs hl hb) fun _ hf hshown => ⟨hf, hshown⟩

theorem State.gives_unfreezePage (hs : s.up) (hl : s.live b = true) (hb : b % 0x1000 = 0) (hlfm : b ≠ B.lfm)
    (hhw : s.get (R.PG.HW_FREEZE b) = 0) :
    s.gives (.unfreezePage b t) fun u => u.get (R.PG.FREEZE b) = 0 ∧ u.get (R.PG.FROZEN b) = 0 :=
  State.gives_writeFreeze hs hb hlfm (run_header_of_up hs hl hb) fun _ hf hshown =>
    ⟨hf, by rw [hshown, State.on, hhw]; rfl⟩

/-- An error at a live page whose ERR_INFO is free is logged with its code (Table 3-4D). -/
theorem State.err_of_free {code source a : Nat} (hl : s.live b = true) (h : s.regsOk)
    (hfree : s.get (R.PG.ERR_VALID b) = 0) :
    (s.err b code source a).regsOk ∧ (s.err b code source a).get (R.PG.ERR_CODE b) = code % 0x100 := by
  have hvalid : ∀ v, (s.set (R.PG.ERR_COUNT b) v).on (R.PG.ERR_VALID b) = false := fun v => by
    rw [State.on, State.get_set_ne h (by simp [Fld.key, R.PG.ERR_VALID, R.PG.ERR_COUNT]), hfree]
    rfl
  have hset : ∀ {z : State} {f : Fld} {v : Nat}, z.regsOk → (z.set f v).regsOk := State.regsOk_set
  rw [State.err, if_neg (by simp [hl])]
  dsimp only
  rw [if_neg (by simp [hvalid])]
  refine ⟨State.regsOk_ev (hset (hset (hset (hset (hset (hset h)))))), ?_⟩
  rw [State.set64,
    State.get_ev_ne (hset (hset (hset (hset (hset (hset h)))))) (by simp [Fld.key, R.PG.ERR_CODE, R.PG.EVT_PEND]),
    State.get_set_ne (hset (hset (hset (hset (hset h))))) (by simp [Fld.key, R.PG.ERR_CODE, R.PG.ERR_ADDR_HI]),
    State.get_set_ne (hset (hset (hset (hset h)))) (by simp [Fld.key, R.PG.ERR_CODE, R.PG.ERR_ADDR_LO]),
    State.get_set_ne (hset (hset (hset h))) (by simp [Fld.key, R.PG.ERR_CODE, R.PG.ERR_SOURCE]),
    State.get_set_self (hset (hset h))]
  rfl

theorem State.gives_hwFreeze (hs : s.up) (hl : s.live b = true) (hb : b % 0x1000 = 0)
    (hfree : s.get (R.PG.ERR_VALID b) = 0) :
    s.gives (.hwFreeze b t) fun u => u.get (R.PG.HW_FREEZE b) = 1 ∧ u.get (R.PG.FROZEN b) = 1 ∧
      u.get (R.PG.ERR_CODE b) = 0x05 := by
  have hz : (s.tick t).regsOk := hs.2.1
  obtain ⟨hFrozen, hHw, hCode⟩ := headerKey_header (b := b)
  obtain ⟨-, -, -, -, hfrozen, hhw⟩ := ctrlKey_ctrl (b := b)
  have hne : (R.PG.HW_FREEZE b).key ≠ (R.PG.FROZEN b).key := by simp [Fld.key, R.PG.HW_FREEZE, R.PG.FROZEN]
  have hv : (R.PG.ERR_VALID b).key ≠ (R.PG.FROZEN b).key := by simp only [Fld.key, R.PG.ERR_VALID, R.PG.FROZEN]; omega
  have hv' : (R.PG.ERR_VALID b).key ≠ (R.PG.HW_FREEZE b).key := by simp only [Fld.key, R.PG.ERR_VALID, R.PG.HW_FREEZE]; omega
  have h₁ : ((s.tick t).set (R.PG.HW_FREEZE b) 1).regsOk := State.regsOk_set hz
  have h₂ : (((s.tick t).set (R.PG.HW_FREEZE b) 1).showFrozen b).regsOk := State.regsOk_set h₁
  have hset : ((s.tick t).set (R.PG.HW_FREEZE b) 1).on (R.PG.HW_FREEZE b) = true := by
    rw [State.on, State.get_set_self hz]
    rfl
  obtain ⟨hx, hcode⟩ := State.err_of_free (code := 5) (source := 0) (a := 0)
    (s := ((s.tick t).set (R.PG.HW_FREEZE b) 1).showFrozen b) hl h₂
    (by rw [State.showFrozen, State.get_set_ne h₁ hv, State.get_set_ne hz hv', State.get_tick, hfree])
  have hctrl := State.fieldsAt_err (K := ctrlKey b) (s := ((s.tick t).set (R.PG.HW_FREEZE b) 1).showFrozen b)
    (code := 5) (x := 0) (a := 0) (ctrlKey_err hb hb)
  refine State.gives_of_fieldsAt (K := headerKey b) hs (run_header_of_up hs hl hb) (State.header_hwFreeze hb) hx
    fun u hu => ?_
  rw [hu _ hHw, hu _ hFrozen, hu _ hCode, hcode, State.get_of_fieldsAt hhw hx h₂ hctrl,
    State.get_of_fieldsAt hfrozen hx h₂ hctrl, State.showFrozen, State.get_set_ne h₁ hne, State.get_set_self hz,
    State.get_set_self h₁, State.frozen, hset, Bool.or_true]
  exact ⟨rfl, rfl, rfl⟩

theorem lookupD_of_not_mem {l : List (Nat × Nat)} {k d : Nat} (h : ∀ e ∈ l, e.1 ≠ k) : lookupD l k d = d := by
  induction l with
  | nil => rfl
  | cons e r ih =>
    rw [lookupD, if_neg (h e List.mem_cons_self), ih fun e he => h e (List.mem_cons_of_mem _ he), ite_self]

theorem State.regsOk_errClear (h : s.regsOk) : (s.errClear b).regsOk := by
  have hset : ∀ {z : State} {f : Fld} {v : Nat}, z.regsOk → (z.set f v).regsOk := State.regsOk_set
  exact hset (hset (hset (hset (hset (hset (hset h))))))

theorem State.regsOk_headerReset (h : s.regsOk) : (s.headerReset b).regsOk := by
  have hset : ∀ {z : State} {f : Fld} {v : Nat}, z.regsOk → (z.set f v).regsOk := State.regsOk_set
  exact hset (hset (hset (hset (hset (State.regsOk_errClear (hset h))))))

theorem State.headerReset_tim (h : s.regsOk) :
    (s.headerReset B.tim).get (R.PG.EVT_PEND B.tim) = 0 ∧ (s.headerReset B.tim).get (R.PG.ERR_VALID B.tim) = 0 ∧
      (s.headerReset B.tim).get (R.PG.COMMIT_PENDING B.tim) = 0 := by
  have hx : (s.headerReset B.tim).regsOk := State.regsOk_headerReset h
  have h₁ : (s.set (R.PG.EVT_PEND B.tim) 0).regsOk := State.regsOk_set h
  refine ⟨?_, ?_, ?_⟩
  · refine (State.get_of_fieldsAt (K := fun n => (R.PG.EVT_PEND B.tim).key == n) (z := s.set (R.PG.EVT_PEND B.tim) 0)
      (by simp) hx h₁ ?_).trans (State.get_set_self h)
    simp (decide := true) [State.headerReset, State.errClear, State.commitEnd]
  · refine (State.get_of_fieldsAt (K := fun n => (R.PG.ERR_VALID B.tim).key == n)
      (z := (s.set (R.PG.EVT_PEND B.tim) 0).set (R.PG.ERR_VALID B.tim) 0)
      (by simp) hx (State.regsOk_set h₁) ?_).trans (State.get_set_self h₁)
    simp (decide := true) [State.headerReset, State.errClear, State.commitEnd]
  · have h₂ : ∀ {z : State}, z.regsOk → (z.commitEnd B.tim).get (R.PG.COMMIT_PENDING B.tim) = 0 := fun hz =>
      State.get_set_self (State.regsOk_set hz)
    refine h₂ (State.regsOk_set (State.regsOk_set (State.regsOk_set ?_)))
    exact State.regsOk_errClear h₁

theorem State.gives_softReset_tim (hs : s.up) (hl : s.live B.tim = true) :
    s.gives (.softReset B.tim t) fun u => u.get (R.PG.EVT_PEND B.tim) = 0 ∧ u.get (R.PG.ERR_VALID B.tim) = 0 ∧
      u.get (R.PG.COMMIT_PENDING B.tim) = 0 ∧ u.get R.TIM.SLEW_MAX.V = 100 := by
  have hx : ((s.tick t).headerReset B.tim).regsOk := State.regsOk_headerReset hs.2.1
  obtain ⟨hpend, hvalid, hpending⟩ := State.headerReset_tim (s := s.tick t) hs.2.1
  have he : exec (.softReset B.tim t) s = .next ((s.tick t).softReset B.tim) := run_header_of_up hs hl rfl
  have hfields : fieldsAt timKey ((s.tick t).softReset B.tim).regs =
      fieldsAt timHeader ((s.tick t).headerReset B.tim).regs := by
    have hno : mirrorsCommit B.tim = false := by decide
    rw [State.softReset, State.mirrorReset, hno, Bool.and_false, Bool.not_false, if_pos rfl, State.regs_stopPicture]
    exact State.timKey_timReset
  have hu := (State.leaves_all hs.2 _ _ he).regs
  have hget : ∀ f, timKey f.key = true → ((s.tick t).softReset B.tim).get f =
      lookupD (fieldsAt timHeader ((s.tick t).headerReset B.tim).regs) f.key f.rst := fun f hf => by
    rw [State.get, ← lookupD_fieldsAt hf _ hu, hfields]
  have hhead : ∀ f, timHeader f.key = true →
      ((s.tick t).softReset B.tim).get f = ((s.tick t).headerReset B.tim).get f := fun f hf => by
    rw [hget f (by simp [timKey, hf]), lookupD_fieldsAt hf _ hx, State.get]
  refine ⟨_, he, (hhead _ (by decide)).trans hpend, (hhead _ (by decide)).trans hvalid,
    (hhead _ (by decide)).trans hpending, (hget _ (by decide)).trans (lookupD_of_not_mem fun e hmem hkey => ?_)⟩
  have := (List.mem_filter.1 hmem).2
  rw [hkey] at this
  exact absurd this (by decide)

end Execution

/-- Settles O18: whatever else the block does, the header of its page keeps what the command wrote there. -/
theorem pageControl : Obligations.PageControl := by
  unfold Obligations.PageControl
  exact ⟨fun _ _ _ => State.gives_pageEnable, fun _ _ _ => State.gives_pageDisable,
    fun _ _ => State.gives_softReset_tim, fun _ _ _ => State.gives_commitArm, fun _ _ _ => State.gives_commitDisarm,
    fun _ _ _ => State.gives_freezePage, fun _ _ _ => State.gives_unfreezePage, fun _ _ _ => State.gives_hwFreeze⟩

end Sys2Proof.Machine

/-!
Time (spec/04_time_and_departures.md): the step of the queue, and the commands of the tick machine and of the pulse outputs.
-/
namespace Sys2Proof.Machine

/-- Settles O1: the front of the queue decides what a step is, and on an empty queue the power does. -/
theorem stepTakesTheFront : Obligations.StepTakesTheFront := by
  refine ⟨fun s c r hq => ?front, fun s hq hp => ?running, fun s hq hp => ?idle⟩
  case front => simp only [step, hq]
  case running => simp only [step, hq, State.idle, hp]
  case idle => simp only [step, hq, State.idle]

/-! ### Reading one field -/

/-- The key of `f` and no other. -/
def Fld.only (f : Fld) (n : Nat) : Bool := f.key == n

theorem Fld.only_key (f : Fld) : f.only f.key = true := by simp [Fld.only]

/-- Two states that list the same under the key of `f` read the same in `f`. -/
theorem State.get_of_only {s z : State} {f : Fld} (hs : s.regsOk) (hz : z.regsOk)
    (e : fieldsAt f.only s.regs = fieldsAt f.only z.regs) : s.get f = z.get f :=
  State.get_of_fieldsAt f.only_key hs hz e

/-- A state that lists under the key of `f` what a write of `v` left there reads it. -/
theorem State.get_of_only_set {s z : State} {f : Fld} {v : Nat} (hs : s.regsOk) (hz : z.regsOk)
    (e : fieldsAt f.only s.regs = fieldsAt f.only (z.set f v).regs) : s.get f = v % 2 ^ f.width :=
  (State.get_of_only hs (State.regsOk_set hz) e).trans (State.get_set_self hz)

/-- What a command of a running module leaves lists its registers in order. -/
theorem State.regsOk_of_next {s u : State} {c : Instr} (hs : s.up) (h : exec c s = .next u) : u.regsOk :=
  (State.leaves_all hs.2 c u h).regs

/-! ### Ticks and pulses -/

section Ticks
variable {s : State} {t : Nat}

/-- On a running sender the frame around a sender's command is its effect. -/
theorem runIn_of_up {r : Role} {f : State → State} (hs : s.up) (hr : s.role = r) : runIn r f s = .next (f s) := by
  rw [runIn, run_of_up hs, if_pos hr]

theorem TickS.acquire_ne : TickS.acquire ≠ TickS.off ∧ TickS.acquire ≠ TickS.locked ∧ TickS.acquire ≠ TickS.holdover := by
  decide

/-- In ACQUIRE the first tick of a run is stored, and nothing more happens before the eighth (Table 4-10). -/
theorem State.gives_tickin {f : Nat} (hs : s.up) (hr : s.role = .sender) (hf : s.frozen B.tim = false)
    (ha : s.tickState = TickS.acquire) (hl : s.tim.ticks = []) :
    s.gives (.tickin f t) fun u => u.tim.ticks = [u.tim.lastTick] ∧ u.tim.tickSeen = true := by
  obtain ⟨hoff, hlocked, hhold⟩ := TickS.acquire_ne
  have ha' : (s.tick t).tickState = TickS.acquire := ha
  have hf' : (s.tick t).frozen B.tim = false := hf
  refine ⟨_, show execTickin f t s = _ from runIn_of_up hs hr, ?_⟩
  simp [State.tickIn, ha', hf', hoff, hlocked, hhold, State.tickAcquire, hl]

theorem State.tickState_setTick {v : Nat} (h : s.regsOk) : (s.setTick v).tickState = v % 4 := State.get_set_self h

theorem State.regsOk_setTick {v : Nat} (h : s.regsOk) : (s.setTick v).regsOk := State.regsOk_set h

/-- The TIM page is active in both roles (Table 3-5). -/
theorem State.live_tim (s : State) : s.live B.tim = true := by
  rw [State.live_of_pageAt (k := .tim) (i := 0) (by decide)]
  cases s.role <;> rfl

theorem State.tickState_ev {b k : Nat} (h : s.regsOk) (hb : b % 0x1000 = 0) : (s.ev b k).tickState = s.tickState :=
  State.get_ev_ne h (by simp only [Fld.key, R.TIM.TIM_STAT.TICK_STATE, R.PG.EVT_PEND]; omega)

/-- The third empty window in a row loses the tick (Table 4-10). -/
theorem State.tickWindow_third (hf : s.frozen B.tim = false) (ha : s.tickState = TickS.acquire)
    (hseen : s.tim.tickSeen = false) (he : 2 ≤ s.tim.empties) :
    ∃ m, s.tickWindow = (({ s with tim := m } : State).setTick TickS.holdover).ev B.tim Ev.TIM.TICK_LOSS := by
  refine ⟨{ s.tim with empties := s.tim.empties + 1, misses := 0, tickSeen := false, inSeen := false }, ?_⟩
  simp [State.tickWindow, State.tickWindowEnd, hf, ha, hseen, he, TickS.acquire_ne.2.1]

theorem State.gives_tickWindowEnd (hs : s.up) (hr : s.role = .sender) (hf : s.frozen B.tim = false)
    (ha : s.tickState = TickS.acquire) (hseen : s.tim.tickSeen = false) (he : 2 ≤ s.tim.empties) :
    s.gives (.tickWindowEnd t) fun u => u.tickState = TickS.holdover ∧ u.raised B.tim Ev.TIM.TICK_LOSS := by
  obtain ⟨m, hm⟩ := State.tickWindow_third (s := s.tick t) hf ha hseen he
  have hz : ({ s.tick t with tim := m } : State).regsOk := hs.2.1
  refine ⟨_, (show execTickWindowEnd t s = _ from runIn_of_up hs hr).trans (congrArg _ hm), ?_, ?_⟩
  · exact (State.tickState_ev (State.regsOk_setTick hz) rfl).trans (State.tickState_setTick hz)
  · exact State.raised_ev_self (State.regsOk_setTick hz) (State.live_tim _) (by decide)

/-- FRAME_SRC takes each of its four codes; only code 1 runs the tick machine (R108, Table 4-9). -/
theorem State.gives_frameSrcWrite {v : Nat} (hs : s.up) (hr : s.role = .sender) (hv : v < 4) :
    s.gives (.frameSrcWrite v t) fun u => u.get R.TIM.TIM_CTRL.FRAME_SRC = v ∧ (v ≠ 1 → u.tickState = TickS.off) ∧
      (v = 1 → s.tickState = TickS.off → u.tickState = TickS.acquire) := by
  have hz : (s.tick t).regsOk := hs.2.1
  have hx : ((s.tick t).set R.TIM.TIM_CTRL.FRAME_SRC v).regsOk := State.regsOk_set hz
  have hsrc : ((s.tick t).set R.TIM.TIM_CTRL.FRAME_SRC v).get R.TIM.TIM_CTRL.FRAME_SRC = v :=
    (State.get_set_self hz).trans (Nat.mod_eq_of_lt hv)
  have hkeep : ∀ w, (((s.tick t).set R.TIM.TIM_CTRL.FRAME_SRC v).setTick w).get R.TIM.TIM_CTRL.FRAME_SRC = v := fun w =>
    (State.get_set_ne hx (by decide)).trans hsrc
  have hstate : ((s.tick t).set R.TIM.TIM_CTRL.FRAME_SRC v).tickState = s.tickState := State.get_set_ne hz (by decide)
  refine ⟨_, show execFrameSrcWrite v t s = _ from runIn_of_up hs hr, ?_⟩
  simp only [State.frameSrc, Nat.mod_eq_of_lt hv, hstate]
  split_ifs with h1 hoff
  · exact ⟨hkeep _, fun h => absurd h1 h, fun _ _ => State.tickState_setTick hx⟩
  · exact ⟨hsrc, fun h => absurd h1 h, fun _ h => absurd h hoff⟩
  · exact ⟨hkeep _, fun _ => State.tickState_setTick hx, fun h => absurd h h1⟩

/-- TICKOUT emits the pulse that is due (R113). -/
theorem State.gives_tickoutPulse (hs : s.up) (hf : s.frozen B.dep = false) (hen : s.on R.DEP.TICKOUT_CFG.EN = true)
    (hv : s.timeValid = true) (hd : (s.tick t).tickoutDue = true) :
    s.gives (.tickoutPulse t) fun u => u.out = s.out ++ [.pulse 0 (1000 * clampN 1 255 (s.get
      R.DEP.TICKOUT_CFG.WIDTH)) (s.get R.DEP.TICKOUT_CFG.POL) u.wall] := by
  have hon : (s.tick t).tickoutOn = true := by
    show (s.on _ && s.timeValid && !s.frozen B.dep) = true
    rw [hen, hv, hf]
    rfl
  refine ⟨_, show execTickoutPulse t s = _ from run_of_up hs, ?_⟩
  rw [State.tickOut, hon, hd]
  rfl

/-- PPSOUT emits its pulse while time is valid (R113). -/
theorem State.gives_ppsPulse (hs : s.up) (hf : s.frozen B.tim = false) (hen : s.on R.TIM.PPS_CFG.EN = true)
    (hv : s.timeValid = true) :
    s.gives (.ppsPulse t) fun u => u.out = s.out ++ [.pulse 1 (1000 * clampN 1 255 (s.get R.TIM.PPS_CFG.WIDTH)) 0 u.wall] := by
  have hon : ((s.tick t).on R.TIM.PPS_CFG.EN && (s.tick t).timeValid && !(s.tick t).frozen B.tim) = true := by
    show (s.on _ && s.timeValid && !s.frozen B.tim) = true
    rw [hen, hv, hf]
    rfl
  refine ⟨_, show execPpsPulse t s = _ from run_of_up hs, ?_⟩
  rw [State.ppsOut, if_pos hon]
  rfl

end Ticks

/-- Settles O25: each clause is what the command's function does in that state. -/
theorem ticksAndPulses : Obligations.TicksAndPulses := by
  unfold Obligations.TicksAndPulses
  exact ⟨fun _ _ _ => State.gives_tickin, fun _ _ => State.gives_tickWindowEnd, fun _ _ _ => State.gives_frameSrcWrite,
    fun _ _ => State.gives_tickoutPulse, fun _ _ => State.gives_ppsPulse⟩

end Sys2Proof.Machine

/-!
The board's registers and the start-up epoch load (spec/04_time_and_departures.md, spec/19_start_up.md).
-/
namespace Sys2Proof.Machine

/-! ### The board's registers -/

section Board
variable {s : State} {t i : Nat} {e : Entry}

theorem find_putEntry (l : List (Nat × Entry)) :
    (putEntry l i e).find? (fun x => x.1 == i) = some (i, e) := by
  induction l with
  | nil => simp [putEntry]
  | cons x r ih =>
    obtain ⟨j, y⟩ := x
    unfold putEntry
    split_ifs with hlt heq
    · simp
    · simp
    · simpa [Ne.symm heq] using ih

/-- The entry that was put is the one that is found. -/
@[simp] theorem State.entry_setEntry : (s.setEntry i e).entry i = e := by
  simp [State.entry, State.setEntry, find_putEntry]

/-- An entry is found in the board alone. -/
theorem State.entry_of_dep {z : State} (h : s.dep = z.dep) : s.entry i = z.entry i := by
  simp only [State.entry, h]

@[simp] theorem State.dep_showBoard : s.showBoard.dep = s.dep := rfl

@[simp] theorem State.dep_ite {c : Prop} [Decidable c] {a b : State} :
    (if c then a else b).dep = if c then a.dep else b.dep := apply_ite State.dep c a b

@[simp] theorem State.dep_mirrorEntry {op : Nat} : (s.mirrorEntry i e op).dep = s.dep := by
  simp [State.mirrorEntry, State.mirror, State.send, State.queueMsg, State.setPort]

/-- The keys that showing the board writes. -/
theorem State.only_showBoard {f : Fld} (ha : f.only R.DEP.DEP_STAT.ARMED.key = false)
    (hn : f.only R.DEP.DEP_STAT.NEXT_IDX.key = false) (hs : f.only R.DEP.ENT_STATUS.STATE.key = false) :
    fieldsAt f.only s.showBoard.regs = fieldsAt f.only s.regs := by
  simp [State.showBoard, ha, hn, hs]

theorem State.only_mirrorEntry {f : Fld} {op : Nat} (h : f.only R.RDN.MIRROR_SEQ.TX.key = false) :
    fieldsAt f.only (s.mirrorEntry i e op).regs = fieldsAt f.only s.regs := by
  simp [State.mirrorEntry, State.fieldsAt_mirror h]

theorem EntState.code_lt (x : EntState) : x.code < 8 := by cases x <;> decide

/-- ENT_STATUS.STATE shows the state of the entry that ENT_SEL names. -/
theorem State.get_state_showBoard (h : s.regsOk) :
    s.showBoard.get R.DEP.ENT_STATUS.STATE = (s.entry s.entSel).state.code := by
  have hsel : ((s.set R.DEP.DEP_STAT.ARMED s.armedCount).set R.DEP.DEP_STAT.NEXT_IDX s.nextIdx).get R.DEP.ENT_SEL.IDX =
      s.entSel := (State.get_set_ne (State.regsOk_set h) (by decide)).trans (State.get_set_ne h (by decide))
  rw [State.showBoard, State.get_set_self (State.regsOk_set (State.regsOk_set h)), hsel]
  exact Nat.mod_eq_of_lt (EntState.code_lt _)

/-- A write that is accepted stores the staged entry (R116). -/
theorem State.gives_entWrite (hs : s.up) (hok : (s.tick t).writeResult s.entSel s.stagedEntry = 0)
    (ha : s.stagedEntry.action ≠ 0) (hl : s.stagedEntry.lateOk = 0) :
    s.gives (.entWrite t) fun u => u.entry s.entSel = s.stagedEntry ∧ u.get R.DEP.ENT_STATUS.RESULT = 0 := by
  have he : exec (.entWrite t) s = .next (((((s.tick t).set R.DEP.ENT_STATUS.RESULT 0).setEntry s.entSel
      s.stagedEntry).showBoard).mirrorEntry s.entSel s.stagedEntry 1) := by
    refine (show execEntWrite t s = _ from run_of_up hs).trans ?_
    have hsel : (s.tick t).entSel = s.entSel := rfl
    have hstaged : (s.tick t).stagedEntry = s.stagedEntry := rfl
    simp [State.entWrite, hsel, hstaged, hok, ha, hl]
  refine ⟨_, he, ?_, ?_⟩
  · rw [State.entry_of_dep State.dep_mirrorEntry, State.entry_of_dep State.dep_showBoard, State.entry_setEntry]
  · refine State.get_of_only_set (z := s.tick t) (v := 0) (State.regsOk_of_next hs he) hs.2.1 ?_
    rw [State.only_mirrorEntry (by decide), State.only_showBoard (by decide) (by decide) (by decide)]
    rfl

/-- A cancel of an armed entry that is not too near cancels it (R116). -/
theorem State.gives_entCancel (hs : s.up) (ha : (s.entry s.entSel).state = .armed)
    (hn : (s.tick t).nearer (s.entry s.entSel) s.guardU = false) :
    s.gives (.entCancel t) fun u => (u.entry s.entSel).state = .cancelled ∧ u.get R.DEP.ENT_STATUS.RESULT = 0 := by
  have he : exec (.entCancel t) s = .next (((((s.tick t).set R.DEP.ENT_STATUS.RESULT 0).setEntry s.entSel
      { s.entry s.entSel with state := .cancelled }).showBoard).mirrorEntry s.entSel (s.entry s.entSel) 3) := by
    refine (show execEntCancel t s = _ from run_of_up hs).trans ?_
    have hsel : (s.tick t).entSel = s.entSel := rfl
    have hent : (s.tick t).entry s.entSel = s.entry s.entSel := rfl
    have hguard : (s.tick t).guardU = s.guardU := rfl
    simp [State.entCancel, hsel, hent, hguard, ha, hn]
  refine ⟨_, he, ?_, ?_⟩
  · rw [State.entry_of_dep State.dep_mirrorEntry, State.entry_of_dep State.dep_showBoard, State.entry_setEntry]
  · refine State.get_of_only_set (z := s.tick t) (v := 0) (State.regsOk_of_next hs he) hs.2.1 ?_
    rw [State.only_mirrorEntry (by decide), State.only_showBoard (by decide) (by decide) (by decide)]
    rfl

/-- The entry's fields as a READ shows them, before the board's own registers follow. -/
def State.showEntry (s : State) (e : Entry) : State :=
  (((((s.set64 R.DEP.ENT_TIME_LO.TIME R.DEP.ENT_TIME_HI.TIME e.time).set R.DEP.ENT_ACT.ACTION e.action).set
    R.DEP.ENT_ACT.FORM e.form).set R.DEP.ENT_ACT.LATE_OK e.lateOk).set R.DEP.ENT_ARG.ARG e.arg).setI R.DEP.ENT_OFS.OFS e.ofs |>.set
    R.DEP.ENT_STATUS.RESULT 0

theorem State.entRead_eq : s.entRead i = (s.showEntry (s.entry i)).showBoard := rfl

/-- A READ shows the entry that ENT_SEL names (R116). -/
theorem State.gives_entRead (hs : s.up) :
    s.gives (.entRead t) fun u => u.get R.DEP.ENT_ARG.ARG = (s.entry s.entSel).arg % 2 ^ R.DEP.ENT_ARG.ARG.width ∧
      u.get R.DEP.ENT_ACT.ACTION = (s.entry s.entSel).action % 2 ^ R.DEP.ENT_ACT.ACTION.width ∧
      u.get R.DEP.ENT_STATUS.RESULT = 0 ∧ u.get R.DEP.ENT_STATUS.STATE = (s.entry s.entSel).state.code := by
  have he : exec (.entRead t) s = .next ((s.tick t).showEntry (s.entry s.entSel)).showBoard :=
    show execEntRead t s = _ from run_of_up hs
  have hu := State.regsOk_of_next hs he
  have hz : (s.tick t).regsOk := hs.2.1
  have hset : ∀ {z : State} {f : Fld} {v : Nat}, z.regsOk → (z.set f v).regsOk := State.regsOk_set
  have hx : ((s.tick t).showEntry (s.entry s.entSel)).regsOk := hset (hset (hset (hset (hset (hset (hset (hset hz)))))))
  have hsel : ((s.tick t).showEntry (s.entry s.entSel)).entSel = s.entSel :=
    State.get_of_only (z := s.tick t) hx hz (by simp (decide := true) [State.showEntry])
  have hdep : ((s.tick t).showEntry (s.entry s.entSel)).dep = s.dep := by simp [State.showEntry, State.set64, State.setI]
  have hboard : ∀ {f : Fld}, f.only R.DEP.DEP_STAT.ARMED.key = false → f.only R.DEP.DEP_STAT.NEXT_IDX.key = false →
      f.only R.DEP.ENT_STATUS.STATE.key = false →
      ((s.tick t).showEntry (s.entry s.entSel)).showBoard.get f = ((s.tick t).showEntry (s.entry s.entSel)).get f :=
    fun ha hn hs => State.get_of_only hu hx (State.only_showBoard ha hn hs)
  refine ⟨_, he, ?_, ?_, ?_, ?_⟩
  · rw [hboard (by decide) (by decide) (by decide), State.showEntry, State.set64, State.setI,
      State.get_set_ne (hset (hset (hset (hset (hset (hset (hset hz))))))) (by decide),
      State.get_set_ne (hset (hset (hset (hset (hset (hset hz)))))) (by decide),
      State.get_set_self (hset (hset (hset (hset (hset hz)))))]
  · rw [hboard (by decide) (by decide) (by decide)]
    refine State.get_of_only_set (z := (s.tick t).set64 R.DEP.ENT_TIME_LO.TIME R.DEP.ENT_TIME_HI.TIME
      (s.entry s.entSel).time) hx (hset (hset hz)) ?_
    rw [State.showEntry, State.fieldsAt_set (by decide), State.fieldsAt_setI (by decide), State.fieldsAt_set (by decide),
      State.fieldsAt_set (by decide), State.fieldsAt_set (by decide)]
  · rw [hboard (by decide) (by decide) (by decide), State.showEntry, State.set64, State.setI,
      State.get_set_self (hset (hset (hset (hset (hset (hset (hset hz)))))))]
    rfl
  · rw [State.get_state_showBoard hx, hsel, State.entry_of_dep hdep]

end Board

/-! ### The start-up epoch load -/

/-- Everything may change but which frame starts next and whether the module is loaded. -/
def May.keepStarts : May := ⟨fun p => p ≠ .starts, fun _ => True⟩

@[simp] theorem May.keepStarts_part {p : Part} : May.keepStarts.part p ↔ p ≠ .starts := Iff.rfl
@[simp] theorem May.keepStarts_fld (f : Fld) : May.keepStarts.fld f := trivial

theorem State.loaded_of_keeps {s z : State} (h : s.Keeps May.keepStarts z) : s.dep.loaded = z.dep.loaded :=
  ((h.part .starts).resolve_left (by simp)).2.2

section Load
variable {s : State} {c : Sched} {t : Nat}

@[simp] theorem State.isTile_tick : (s.tick t).isTile = s.isTile := rfl
@[simp] theorem State.tw_tick : (s.tick t).tw = s.tw := rfl
@[simp] theorem State.th_tick : (s.tick t).th = s.th := rfl
@[simp] theorem State.reliefCarries_tick : (s.tick t).reliefCarries = s.reliefCarries := rfl
@[simp] theorem State.oneChannel_tick : (s.tick t).oneChannel = s.oneChannel := rfl
@[simp] theorem State.modeNext_tick : (s.tick t).modeNext = s.modeNext := rfl
@[simp] theorem State.envStaged_tick : (s.tick t).envStaged = s.envStaged := rfl
@[simp] theorem State.lineFails_tick {m : ModeW} {e : ModeEnv} {p : Nat} :
    (s.tick t).lineFails m e p = s.lineFails m e p := rfl

/-- No rule of Table 2-4 looks at the clock. -/
@[simp] theorem State.modeFail_tick {m : ModeW} {e : ModeEnv} : (s.tick t).modeFail m e = s.modeFail m e := by
  simp only [State.modeFail, State.isTile_tick, State.tw_tick, State.th_tick, State.reliefCarries_tick,
    State.oneChannel_tick, State.modeNext_tick, State.lineFails_tick, State.tick_tim, State.tick_line, State.get_tick]
  rfl

/-- The load sets LOADED before it takes the schedule, and nothing after that clears it (R558). -/
theorem State.loaded_loadEpoch (h : s.Canon) : (s.loadEpoch c).dep.loaded = true := by
  have hs : s.Keeps May.all s := Keep.refl h
  unfold State.loadEpoch
  extract_lets was s₁ s₂ s₃ s₄ s₅ first z s₆ s₇ s₈ s₉ s₁₀
  have h₂ : s₂.Keeps May.all s := by
    apply State.ev_good <;> try simp
    apply State.set_good _ _ _ (by simp)
    apply State.set_good _ _ _ (by simp)
    apply State.putModeCur_good <;> simp [hs]
  have h₃ : s₃.Keeps May.all s := by
    refine Keep.ite h₂ ?_
    apply State.redunChanged_good <;> simp [h₂]
  have h₄ : s₄.Keeps May.all s := by
    refine Keep.ite ?_ h₃
    apply State.corLock_good <;> simp [h₃]
  have h₅ : s₅.Keeps May.all s := by
    apply State.setEpoch_good <;> try simp
    apply State.loadPages_good <;> simp [h₄]
  have hc : s₅.Canon := Keep.canon h₅
  clear_value s₅
  have h₆ : s₆.Keeps May.keepStarts s₆ := Keep.refl hc
  have h₇ : s₇.Keeps May.keepStarts s₆ := by
    apply State.takeSched_good <;> try simp
    exact State.set_good _ _ _ (by simp) h₆
  have h₈ : s₈.Keeps May.keepStarts s₆ := by
    refine Keep.ite ?_ ?_
    · apply State.showTimetable_good <;> try simp
      apply State.newPlanes_good <;> simp [h₇]
    · apply State.policies_good <;> simp [h₇]
  have h₉ : s₉.Keeps May.keepStarts s₆ := by
    apply State.evaluate_good <;> try simp
    apply State.missBefore_good <;> simp [h₈]
  have h₁₀ : s₁₀.Keeps May.keepStarts s₆ := by
    refine Keep.ite ?_ h₉
    apply State.followEval_good <;> simp [h₉]
  refine (State.loaded_of_keeps (z := s₆) ?_).trans rfl
  refine Keep.ite ?_ h₁₀
  apply State.sendCluster_good <;> simp [h₁₀]

/-- Where the conditions of the load hold and no rule of Table 2-4 fails, the command loads (R557, R558). -/
theorem State.startupLoad_eq (hf : s.frozen B.dep = false) (hl : s.dep.loaded = false) (hw : s.dep.loadWait = true)
    (hc : s.startSched = some c) (hm : s.modeFail s.modeNext s.envStaged = none)
    (hv : viewSpacingOk c.rate c.vphase (s.modeNext.views + 1) = true) : s.startupLoad = s.loadEpoch c := by
  rw [State.startupLoad, if_neg (by simp [hl, hw, hf]), hc]
  dsimp only
  rw [hm, hv, Bool.or_true, if_pos rfl]
  rfl

theorem State.gives_startupEpochLoad (hs : s.up) (hf : s.frozen B.dep = false) (hl : s.dep.loaded = false)
    (hw : s.dep.loadWait = true) (hc : (s.tick t).startSched = some c)
    (hm : s.modeFail s.modeNext s.envStaged = none)
    (hv : viewSpacingOk c.rate c.vphase (s.modeNext.views + 1) = true) :
    s.gives (.startupEpochLoad t) fun u => u.dep.loaded = true := by
  refine ⟨(s.tick t).startupLoad, show execStartupEpochLoad t s = _ from run_of_up hs, ?_⟩
  have hload : (s.tick t).startupLoad = (s.tick t).loadEpoch c :=
    State.startupLoad_eq hf hl hw hc (by simpa using hm) (by simpa using hv)
  show (s.tick t).startupLoad.dep.loaded = true
  rw [hload]
  exact State.loaded_loadEpoch hs.2

end Load

/-- Settles O22: what a write, a read and a cancel leave in the board, and what the load leaves of LOADED. -/
theorem boardWrites : Obligations.BoardWrites := by
  unfold Obligations.BoardWrites
  exact ⟨fun _ _ => State.gives_entWrite, fun _ _ => State.gives_entRead, fun _ _ => State.gives_entCancel,
    fun _ _ _ hs hf _ => State.gives_startupEpochLoad hs hf⟩

end Sys2Proof.Machine

/-!
What launches on the board leaves alone: a launch moves no clock domain (spec/04_time_and_departures.md).
-/
namespace Sys2Proof.Machine

/-! ### What a launch leaves of the clock domains

One lemma for each function that a step of wall time may reach, in the order of their definitions. -/

/-- The keys of the registers of both clock domains, DOM0_CFG to DOM1_LOST (Table 4-16). -/
def clockKey (n : Nat) : Bool := decide (0x8180 * 32 ≤ n) && decide (n < 0x81C0 * 32)

/-- The clock domains of `s` are those of `z`: their registers, and their anchors, offsets and rates. -/
@[simp] abbrev State.SameClocks (s z : State) : Prop :=
  fieldsAt clockKey s.regs = fieldsAt clockKey z.regs ∧ s.tim.dom0 = z.tim.dom0 ∧ s.tim.dom1 = z.tim.dom1

theorem State.SameClocks.trans {s y z : State} (h : s.SameClocks y) (h' : y.SameClocks z) : s.SameClocks z := by
  obtain ⟨h₁, h₂, h₃⟩ := h
  obtain ⟨i₁, i₂, i₃⟩ := h'
  exact ⟨h₁.trans i₁, h₂.trans i₂, h₃.trans i₃⟩

theorem clockKey_outside {n : Nat} (h : n < 0x8180 * 32 ∨ 0x81C0 * 32 ≤ n) : clockKey n = false := by
  simp only [clockKey, Bool.and_eq_false_iff, decide_eq_false_iff_not]
  omega

theorem clockKey_high {a x l w r : Nat} (h : 0x81C0 ≤ a) : clockKey (Fld.key ⟨a + x, l, w, r⟩) = false :=
  clockKey_outside (by simp only [Fld.key]; omega)

theorem clockKey_high2 {a x y l w r : Nat} (h : 0x81C0 ≤ a) : clockKey (Fld.key ⟨a + x + y, l, w, r⟩) = false :=
  clockKey_high (Nat.le_add_right_of_le h)

theorem clockKey_high3 {a x y z l w r : Nat} (h : 0x81C0 ≤ a) : clockKey (Fld.key ⟨a + x + y + z, l, w, r⟩) = false :=
  clockKey_high2 (Nat.le_add_right_of_le h)

theorem clockKey_page {b o l w r : Nat} (hb : b % 0x1000 = 0) (ho : o < 0x180) (hl : l < 32) :
    clockKey (Fld.key ⟨b + o, l, w, r⟩) = false :=
  clockKey_outside (by simp only [Fld.key]; omega)

@[simp] theorem clockKey_pg {b : Nat} (hb : b % 0x1000 = 0) :
    clockKey (R.PG.EVT_PEND b).key = false ∧ clockKey (R.PG.ERR_COUNT b).key = false ∧
      clockKey (R.PG.ERR_VALID b).key = false ∧
      clockKey (R.PG.ERR_OVERFLOW b).key = false ∧ clockKey (R.PG.ERR_CODE b).key = false ∧
      clockKey (R.PG.ERR_SOURCE b).key = false ∧ clockKey (R.PG.ERR_ADDR_LO b).key = false ∧
      clockKey (R.PG.ERR_ADDR_HI b).key = false ∧ clockKey (R.PG.POISON_SEEN b).key = false ∧
      clockKey (R.PG.FAULT b).key = false ∧ clockKey (R.PG.COMMIT b).key = false ∧
      clockKey (R.PG.COMMIT_PENDING b).key = false := by
  and_intros <;> exact clockKey_page hb (by decide) (by decide)

@[simp] theorem clockKey_cor (k : Nat) :
    clockKey (R.COR.ZONE_TEMP.SUBST k).key = false ∧ clockKey (R.COR.ZONE_TEMP.T k).key = false := by
  and_intros <;> exact clockKey_high (by decide)

@[simp] theorem clockKey_dep (k : Nat) : clockKey (R.DEP.VPHASE_CUR.VPHASE k).key = false := clockKey_high (by decide)

@[simp] theorem clockKey_eth (k : Nat) : clockKey (R.ETH.TX_FRAMES.COUNT k).key = false := clockKey_high (by decide)

@[simp] theorem clockKey_flow (k : Nat) :
    clockKey (R.FLOW.DROPS.COUNT k).key = false ∧ clockKey (R.FLOW.REPEATS.COUNT k).key = false ∧
    clockKey (R.FLOW.RTP_TS.TS k).key = false ∧ clockKey (R.FLOW.TC.STALE k).key = false ∧
    clockKey (R.FLOW.TC.V k).key = false := by
  and_intros <;> exact clockKey_high2 (by decide)

@[simp] theorem clockKey_lay (k : Nat) :
    clockKey (R.LAY.L_FADE_POS.POS k).key = false ∧ clockKey (R.LAY.L_STAT.FADING k).key = false ∧
    clockKey (R.LAY.L_STAT.NO_KEY k).key = false := by
  and_intros <;> exact clockKey_high2 (by decide)

@[simp] theorem clockKey_lne (k : Nat) :
    clockKey (R.LNE.FADE_POS.F k).key = false ∧ clockKey (R.LNE.HOLD_STAT.HELD k).key = false ∧
    clockKey (R.LNE.HOLD_STAT.STATE k).key = false ∧ clockKey (R.LNE.INFLIGHT.COUNT k).key = false ∧
    clockKey (R.LNE.LINKDOWN_CNT.COUNT k).key = false ∧ clockKey (R.LNE.LNE_STAT.ENUM_BUSY k).key = false ∧
    clockKey (R.LNE.LNE_STAT.N k).key = false ∧ clockKey (R.LNE.RX_INCOMPLETE.COUNT k).key = false ∧
    clockKey (R.LNE.RX_MISSING.COUNT k).key = false ∧ clockKey (R.LNE.STALL_CNT.COUNT k).key = false ∧
    clockKey (R.LNE.TEL_MISS.COUNT k).key = false ∧ clockKey (R.LNE.TEL_STAT.SILENT k).key = false ∧
    clockKey (R.LNE.TXN_TMO.EFF_US k).key = false := by
  and_intros <;> exact clockKey_high (by decide)

@[simp] theorem clockKey_lnk (k : Nat) :
    clockKey (R.LNK.CAPX_STAT.DISABLED k).key = false ∧ clockKey (R.LNK.CAPX_STAT.FEATURES k).key = false ∧
    clockKey (R.LNK.CAPX_STAT.LEVEL k).key = false ∧ clockKey (R.LNK.DOWN_CNT.COUNT k).key = false ∧
    clockKey (R.LNK.LINE_STAT.BREAK k).key = false ∧ clockKey (R.LNK.LINE_STAT.LINE_WIDTH k).key = false ∧
    clockKey (R.LNK.LINE_STAT.NARROW_STOP k).key = false ∧ clockKey (R.LNK.PORT_CTRL.LEVEL_MAX k).key = false ∧
    clockKey (R.LNK.PORT_STAT.FAILED k).key = false ∧ clockKey (R.LNK.PORT_STAT.IN_SERVICE k).key = false ∧
    clockKey (R.LNK.PORT_STAT.STAGE k).key = false ∧ clockKey (R.LNK.PORT_STAT.TIMING_LANE k).key = false ∧
    clockKey (R.LNK.PORT_STAT.WIDTH k).key = false ∧ clockKey (R.LNK.PORT_STAT.WORKING k).key = false := by
  and_intros <;> exact clockKey_high (by decide)

@[simp] theorem clockKey_lnl (k : Nat) :
    clockKey (R.LNL.LANE_STAT.LAST_VALID k).key = false ∧ clockKey (R.LNL.LANE_STAT.LOGICAL k).key = false ∧
    clockKey (R.LNL.LANE_STAT.PRE_RX k).key = false ∧ clockKey (R.LNL.LANE_STAT.PRE_TX k).key = false ∧
    clockKey (R.LNL.LANE_STAT.REASON k).key = false ∧ clockKey (R.LNL.LANE_STAT.STATE k).key = false ∧
    clockKey (R.LNL.TRAIN_US.US k).key = false ∧ clockKey (R.LNL.TX_TAPS.C0 k).key = false ∧
    clockKey (R.LNL.TX_TAPS.CM1 k).key = false ∧ clockKey (R.LNL.TX_TAPS.CM2 k).key = false ∧
    clockKey (R.LNL.TX_TAPS.CP1 k).key = false ∧ clockKey (R.LNL.TX_TAPS.CP2 k).key = false := by
  and_intros <;> exact clockKey_high (by decide)

@[simp] theorem clockKey_log (k : Nat) :
    clockKey (R.LOG.LOG_ADDR_LO.ADDR k).key = false ∧ clockKey (R.LOG.LOG_INFO.ADDR_HI k).key = false ∧
    clockKey (R.LOG.LOG_INFO.ARRAY k).key = false ∧ clockKey (R.LOG.LOG_INFO.BYTES k).key = false ∧
    clockKey (R.LOG.LOG_INFO.CHANNEL k).key = false ∧ clockKey (R.LOG.LOG_INFO.CODE k).key = false ∧
    clockKey (R.LOG.LOG_INFO.PORT k).key = false ∧ clockKey (R.LOG.LOG_INFO.SRAM k).key = false ∧
    clockKey (R.LOG.LOG_TIME_LO.NS k).key = false ∧ clockKey (R.LOG.LOG_TIME_HI.NS k).key = false := by
  and_intros <;> exact clockKey_high (by decide)

@[simp] theorem clockKey_mbx (p k : Nat) :
    clockKey (R.MBX.M_REFUSED.COUNT p k).key = false ∧ clockKey (R.MBX.M_STAT.PEER_RESET p k).key = false ∧
    clockKey (R.MBX.M_STAT.RX_COUNT p k).key = false ∧ clockKey (R.MBX.M_STAT.RX_POISON p k).key = false ∧
    clockKey (R.MBX.M_STAT.TX_FULL p k).key = false ∧ clockKey (R.MBX.M_STAT.TX_INFLIGHT p k).key = false := by
  and_intros <;> exact clockKey_high2 (by decide)

@[simp] theorem clockKey_mbxData (p k i : Nat) : clockKey (R.MBX.RX.DATA p k i).key = false := clockKey_high3 (by decide)

@[simp] theorem clockKey_mem (k : Nat) :
    clockKey (R.MEM.CH_STAT.FILLED k).key = false ∧ clockKey (R.MEM.CH_STAT.MIRROR_OK k).key = false ∧
    clockKey (R.MEM.CH_STAT.STATE k).key = false ∧ clockKey (R.MEM.DEMAND.GBPS k).key = false := by
  and_intros <;> exact clockKey_high (by decide)

@[simp] theorem clockKey_qcx (k : Nat) :
    clockKey (R.QCX.Q_CTRL.IDLE k).key = false ∧ clockKey (R.QCX.Q_DONE_CNT.COUNT k).key = false ∧
    clockKey (R.QCX.Q_HEAD.IDX k).key = false ∧ clockKey (R.QCX.Q_INFLIGHT.COUNT k).key = false := by
  and_intros <;> exact clockKey_high (by decide)

@[simp] theorem clockKey_rch (k : Nat) :
    clockKey (R.RCH.CH_CNT.RAMP_LATE k).key = false ∧ clockKey (R.RCH.CH_CNT.REJECT k).key = false ∧
    clockKey (R.RCH.CH_DMAX.CUR k).key = false ∧ clockKey (R.RCH.CH_DMAX.NEXT k).key = false ∧
    clockKey (R.RCH.CH_STAT.AT_TARGET k).key = false ∧ clockKey (R.RCH.CH_STAT.CLAMPED k).key = false ∧
    clockKey (R.RCH.CH_STAT.DISCHARGED k).key = false ∧ clockKey (R.RCH.CH_STAT.SET_NOW k).key = false ∧
    clockKey (R.RCH.CH_STAT.STATE k).key = false ∧ clockKey (R.RCH.CH_TARGET.FLOOR k).key = false ∧
    clockKey (R.RCH.CH_TARGET.NEXT k).key = false ∧ clockKey (R.RCH.CH_VCAP.VCAP k).key = false := by
  and_intros <;> exact clockKey_high (by decide)

@[simp] theorem clockKey_slt (k : Nat) :
    clockKey (R.SLT.SLOT_GEN.GEN k).key = false ∧ clockKey (R.SLT.SLOT_PEER.PEER_MAX k).key = false ∧
    clockKey (R.SLT.SLOT_PEER.PEER_MIN k).key = false ∧ clockKey (R.SLT.SLOT_STAT.COMPAT k).key = false ∧
    clockKey (R.SLT.SLOT_STAT.RB_INDEX k).key = false ∧ clockKey (R.SLT.SLOT_STAT.RESULT k).key = false ∧
    clockKey (R.SLT.SLOT_STAT.STATE k).key = false ∧ clockKey (R.SLT.SLOT_STAT.TRIALS k).key = false ∧
    clockKey (R.SLT.SLOT_VER.VERSION k).key = false := by
  and_intros <;> exact clockKey_high (by decide)

@[simp] theorem clockKey_ten (k : Nat) :
    clockKey (R.TEN.FLR_DISCARD.COUNT k).key = false ∧ clockKey (R.TEN.REVOKED_CNT.COUNT k).key = false := by
  and_intros <;> exact clockKey_high (by decide)

@[simp] theorem clockKey_zon (k : Nat) : clockKey (R.ZON.ZONE_FAULTS.COUNT k).key = false := clockKey_high (by decide)

/-- Each address in `l` begins a page. -/
def PageBases (l : List Nat) : Prop := ∀ b ∈ l, b % 0x1000 = 0

@[simp] theorem PageBases.filter {l : List Nat} {q : Nat → Bool} (h : PageBases l) : PageBases (l.filter q) :=
  fun b hb => h b (List.mem_of_mem_filter hb)

@[simp] theorem PageBases.dep : PageBases [B.dep] := by simp [PageBases]

@[simp] theorem State.pageBases_duePages {s : State} {m : Nat} : PageBases (s.duePages m) := by
  have hall : ∀ b ∈ allPages, b % 0x1000 = 0 := by decide
  intro b hb
  simp only [State.duePages, List.mem_flatMap, List.mem_filter] at hb
  obtain ⟨_, _, ⟨hin, _⟩, _⟩ := hb
  exact hall b hin

@[simp] theorem pageBase_layer (k : Nat) : B.layer k % 0x1000 = 0 := by
  simp only [B.layer]
  omega

@[simp] theorem pageBase_mbx (c : Nat) : B.mbx c % 0x1000 = 0 := by
  simp only [B.mbx]
  omega

section Clocks
variable {s : State}

@[simp] theorem State.tim_ite {c : Prop} [Decidable c] {a b : State} :
    (if c then a else b).tim = if c then a.tim else b.tim := apply_ite State.tim c a b

@[simp] theorem TimSt.dom0_ite {c : Prop} [Decidable c] {a b : TimSt} :
    (if c then a else b).dom0 = if c then a.dom0 else b.dom0 := apply_ite TimSt.dom0 c a b

@[simp] theorem TimSt.dom1_ite {c : Prop} [Decidable c] {a b : TimSt} :
    (if c then a else b).dom1 = if c then a.dom1 else b.dom1 := apply_ite TimSt.dom1 c a b

@[simp] theorem State.clocks_foldl {α : Type} {f : State → α → State} (h : ∀ s x, (f s x).SameClocks s) (l : List α) :
    (l.foldl f s).SameClocks s := by
  induction l generalizing s with
  | nil => exact ⟨rfl, rfl, rfl⟩
  | cons x l ih => exact ih.trans (h s x)

@[simp] theorem State.clocks_foldr {α : Type} {f : α → State → State} (h : ∀ x s, (f x s).SameClocks s) (l : List α) :
    (l.foldr f s).SameClocks s := by
  rw [List.foldr_eq_foldl_reverse]
  exact State.clocks_foldl (fun s x => h x s) _

@[simp] theorem State.clocks_forN {n : Nat} {f : State → Nat → State} (h : ∀ s x, (f s x).SameClocks s) :
    (s.forN n f).SameClocks s := State.clocks_foldl h _

theorem State.clocks_foldl_mem {α : Type} {f : State → α → State} {l : List α}
    (h : ∀ s, ∀ x ∈ l, (f s x).SameClocks s) : (l.foldl f s).SameClocks s := by
  induction l generalizing s with
  | nil => exact ⟨rfl, rfl, rfl⟩
  | cons x l ih => exact (ih fun s y hy => h s y (List.mem_cons_of_mem x hy)).trans (h s x List.mem_cons_self)

theorem State.clocks_foldl1 {α β : Type} {f : State × β → α → State × β} (h : ∀ p x, (f p x).1.SameClocks p.1)
    (l : List α) {p : State × β} : (l.foldl f p).1.SameClocks p.1 := by
  induction l generalizing p with
  | nil => exact ⟨rfl, rfl, rfl⟩
  | cons x l ih => exact ih.trans (h p x)

@[simp] theorem State.clocks_set {f : Fld} {v : Nat} (h : clockKey f.key = false) : (s.set f v).SameClocks s :=
  ⟨State.fieldsAt_set h, rfl, rfl⟩

@[simp] theorem State.clocks_emit {o : Out} : (s.emit o).SameClocks s := ⟨rfl, rfl, rfl⟩

@[simp] theorem State.clocks_signalSide {b g : Nat} : (s.signalSide b g).SameClocks s := by
  simp [State.signalSide]

@[simp] theorem State.clocks_pendBits {b m : Nat} (hb : b % 0x1000 = 0) : (s.pendBits b m).SameClocks s := by
  simp [State.pendBits, State.signalSide, hb]

@[simp] theorem State.clocks_ev {b k : Nat} (hb : b % 0x1000 = 0) : (s.ev b k).SameClocks s := by
  simp [State.ev, hb]

@[simp] theorem State.clocks_count {f : Fld} {n : Nat} (h : clockKey f.key = false) :
    (s.count f n).SameClocks s := State.clocks_set h

@[simp] theorem State.clocks_rejectEv {c : Nat} : (s.rejectEv c).SameClocks s := by
  simp [State.rejectEv]

@[simp] theorem State.clocks_railReject {c : Nat} : (s.railReject c).SameClocks s := by
  simp [State.railReject]

@[simp] theorem State.clocks_showRail {c : Nat} : (s.showRail c).SameClocks s := by
  simp [State.showRail]

@[simp] theorem State.clocks_setRailCur {c t : Nat} : (s.setRailCur c t).SameClocks s := by
  simp [State.setRailCur]

@[simp] theorem State.clocks_railStep {mask : Nat} : (s.railStep mask).SameClocks s := by
  simp [State.railStep]

@[simp] theorem State.clocks_launchRailStep {e : Entry} : (s.launchRailStep e).SameClocks s := by
  simp [State.launchRailStep]

@[simp] theorem State.clocks_showBoard : s.showBoard.SameClocks s := by
  simp (decide := true) [State.showBoard]

@[simp] theorem State.clocks_setEntry {i : Nat} {e : Entry} : (s.setEntry i e).SameClocks s := by
  simp [State.setEntry]

@[simp] theorem State.clocks_fire {i : Nat} {late : Bool} : (s.fire i late).SameClocks s := by
  simp (decide := true) [State.fire]

@[simp] theorem State.clocks_miss {i : Nat} : (s.miss i).SameClocks s := by
  simp (decide := true) [State.miss]

@[simp] theorem State.clocks_launch {i a : Nat} {late : Bool} {f : Entry → State → State}
    (hf : ∀ e s, (f e s).SameClocks s) :
    (s.launch i a late f).SameClocks s := by
  simp [State.launch, hf]

@[simp] theorem State.clocks_set64 {f g : Fld} {v : Nat} (h : clockKey f.key = false) (hg : clockKey g.key = false) :
    (s.set64 f g v).SameClocks s := by
  simp [State.set64, h, hg]

@[simp] theorem State.clocks_err {b code x a : Nat} (hb : b % 0x1000 = 0) : (s.err b code x a).SameClocks s := by
  simp [State.err, hb]

@[simp] theorem State.clocks_setPort {p : Nat} {x : PortSt} : (s.setPort p x).SameClocks s := by
  simp [State.setPort]

@[simp] theorem State.clocks_setLineTx {p : Nat} {x : LineTx} : (s.setLineTx p x).SameClocks s := by
  simp [State.setLineTx]

@[simp] theorem State.clocks_enumAbandon {p : Nat} : (s.enumAbandon p).SameClocks s := by
  simp [State.enumAbandon]

@[simp] theorem State.clocks_setStream {p : Nat} {x : StreamSt} : (s.setStream p x).SameClocks s := by
  simp [State.setStream]

@[simp] theorem State.clocks_takeLead {cause : Nat} : (s.takeLead cause).SameClocks s := by
  simp (decide := true) [State.takeLead]

@[simp] theorem State.clocks_leadFails {cause : Nat} : (s.leadFails cause).SameClocks s := by
  simp [State.leadFails]

@[simp] theorem State.clocks_spireFails : s.spireFails.SameClocks s := by
  simp [State.spireFails]

@[simp] theorem State.clocks_setRxView {x : ViewRx} : (s.setRxView x).SameClocks s := by
  simp [State.setRxView]

@[simp] theorem State.clocks_judgeShare {v : Nat} {tr : ShareTrl} : (s.judgeShare v tr).SameClocks s := by
  unfold State.judgeShare
  dsimp only
  repeat' split
  all_goals simp

@[simp] theorem State.clocks_setBand {b : Nat} {x : Band} : (s.setBand b x).SameClocks s := by
  simp [State.setBand]

@[simp] theorem State.clocks_sendBand {b : Nat} {vals : List Nat} : (s.sendBand b vals).SameClocks s := by
  simp [State.sendBand]

@[simp] theorem State.clocks_draw : s.draw.SameClocks s := by
  simp [State.draw]

@[simp] theorem State.clocks_showLoading : s.showLoading.SameClocks s := by
  simp (decide := true) [State.showLoading]

@[simp] theorem State.clocks_evIf {c : Bool} {b k : Nat} (hb : b % 0x1000 = 0) : (s.evIf c b k).SameClocks s := by
  simp [State.evIf, hb]

@[simp] theorem State.clocks_fault {b : Nat} {c : Bool} (hb : b % 0x1000 = 0) : (s.fault b c).SameClocks s := by
  simp [State.fault, hb]

@[simp] theorem State.clocks_evaluate : s.evaluate.SameClocks s := by
  simp (decide := true) [State.evaluate]

@[simp] theorem State.clocks_memCheck : s.memCheck.SameClocks s := by
  simp [State.memCheck]

@[simp] theorem State.clocks_memSettle {was : List Nat} : (s.memSettle was).SameClocks s := by
  simp [State.memSettle]

@[simp] theorem State.clocks_setPar {a c m : Nat} : (s.setPar a c m).SameClocks s := by
  simp [State.setPar]

@[simp] theorem State.clocks_moved {l : List Nat} {n : Nat} : (s.moved l n).SameClocks s := by
  simp [State.moved]

@[simp] theorem State.clocks_dropChannel {c : Nat} : (s.dropChannel c).SameClocks s := by
  simp [State.dropChannel]

@[simp] theorem State.clocks_mirrorLost : s.mirrorLost.SameClocks s := by
  simp [State.mirrorLost]

@[simp] theorem State.clocks_setCh {c v : Nat} : (s.setCh c v).SameClocks s := by
  simp [State.setCh]

@[simp] theorem State.clocks_enterOffline {c : Nat} : (s.enterOffline c).SameClocks s := by
  simp [State.enterOffline]

@[simp] theorem State.clocks_mismatchHit {c : Nat} : (s.mismatchHit c).SameClocks s := by
  simp [State.mismatchHit]

@[simp] theorem State.clocks_parLog {addr port ch sram array code bytes : Nat} :
    (s.parLog addr port ch sram array code bytes).SameClocks s := by
  simp (decide := true) [State.parLog]

@[simp] theorem State.clocks_dramErr {page code port addr bytes : Nat} :
    (s.dramErr page code port addr bytes).SameClocks s := by
  simp [State.dramErr]

@[simp] theorem State.clocks_dramRead {port a : Nat} : (s.dramRead port a).1.SameClocks s := by
  unfold State.dramRead
  dsimp only
  repeat' split
  all_goals simp (decide := true)

@[simp] theorem State.clocks_readLamps {port a n : Nat} : (s.readLamps port a n).1.SameClocks s := by
  unfold State.readLamps
  exact State.clocks_foldl1 (fun r i => by simp) _

@[simp] theorem State.clocks_poison {b x a : Nat} (hb : b % 0x1000 = 0) : (s.poison b x a).SameClocks s := by
  simp [State.poison, hb]

@[simp] theorem State.clocks_planeValue {set view i : Nat} {d : Nat × Bool} :
    (s.planeValue set view i d).1.SameClocks s := by
  unfold State.planeValue
  dsimp only
  repeat' split
  all_goals simp (decide := true)

@[simp] theorem State.clocks_loadValue {set view i : Nat} {d : Nat × Bool} {dark : Bool} :
    (s.loadValue set view i d dark).1.SameClocks s := by
  simp [State.loadValue]

@[simp] theorem State.clocks_loadValues {set view i0 n : Nat} {dark : Bool} :
    (s.loadValues set view i0 n dark).1.SameClocks s := by
  unfold State.loadValues
  split_ifs
  · exact ⟨rfl, rfl, rfl⟩
  · exact State.SameClocks.trans (State.clocks_foldl1 (fun r e => by simp) _) State.clocks_readLamps

@[simp] theorem State.clocks_loadBand {b set : Nat} {reload : Bool} : (s.loadBand b set reload).SameClocks s := by
  simp [State.loadBand]

@[simp] theorem State.clocks_injectWrite {port a n : Nat} : (s.injectWrite port a n).SameClocks s := by
  simp (decide := true) [State.injectWrite]

@[simp] theorem State.clocks_markWrite {a n : Nat} {poison : Bool} : (s.markWrite a n poison).SameClocks s := by
  simp [State.markWrite]

@[simp] theorem State.clocks_queueWrite {l : List Nat} {a n : Nat} : (s.queueWrite l a n).SameClocks s := by
  simp [State.queueWrite]

@[simp] theorem State.clocks_dramPut {port a : Nat} {bytes : List Sys2Proof.Byte} {poison : Bool} :
    (s.dramPut port a bytes poison).SameClocks s := by
  unfold State.dramPut
  split <;> simp

@[simp] theorem State.clocks_dramWrite {port a : Nat} {bytes : List Sys2Proof.Byte} {poison : Bool} :
    (s.dramWrite port a bytes poison).SameClocks s := by
  unfold State.dramWrite
  split <;> simp

@[simp] theorem State.clocks_writeLamps {a : Nat} {l : List (Nat × Bool)} : (s.writeLamps a l).SameClocks s := by
  simp [State.writeLamps]

@[simp] theorem State.clocks_repeatRow {y : Nat} : (s.repeatRow y).SameClocks s := by
  simp [State.repeatRow]

@[simp] theorem State.clocks_closeBand {b : Nat} : (s.closeBand b).SameClocks s := by
  simp (decide := true) [State.closeBand]

@[simp] theorem State.clocks_standbyJudge {l : List StandbyView} : (s.standbyJudge l).SameClocks s := by
  refine State.clocks_foldl (fun s x => ?_) _
  split <;> simp

@[simp] theorem State.clocks_keepMax {L : Latch} {x y e d : Nat} {bad : Bool} :
    (s.keepMax L x y e d bad).SameClocks s := by
  simp [State.keepMax]

@[simp] theorem State.clocks_lostRow {v y : Nat} : (s.lostRow v y).SameClocks s := by
  unfold State.lostRow
  dsimp only
  repeat' split
  all_goals simp (decide := true)

@[simp] theorem State.clocks_railRejectNext {c : Nat} : (s.railRejectNext c).SameClocks s := by
  simp [State.railRejectNext]

@[simp] theorem State.clocks_setRailNext {c d : Nat} : (s.setRailNext c d).SameClocks s := by
  simp [State.setRailNext]

@[simp] theorem State.clocks_raiTake {maxima : List Nat} : (s.raiTake maxima).SameClocks s := by
  simp [State.raiTake]

@[simp] theorem State.clocks_viewDark {v : Nat} : (s.viewDark v).SameClocks s := by
  simp [State.viewDark]

@[simp] theorem State.clocks_drawN {n : Nat} : (s.drawN n).SameClocks s := by
  simp [State.drawN]

@[simp] theorem State.clocks_setI {f : Fld} {v : Int} (h : clockKey f.key = false) :
    (s.setI f v).SameClocks s := State.clocks_set h

@[simp] theorem State.clocks_beginPass {n : Nat} : (s.beginPass n).SameClocks s := 
  (State.clocks_evIf (by simp)).trans ((State.clocks_forN fun s z => by simp).trans
    ((State.clocks_set rfl).trans ((State.clocks_set rfl).trans (State.clocks_drawN (n := 48)))))

@[simp] theorem State.clocks_maybeBegin : s.maybeBegin.SameClocks s := by
  simp [State.maybeBegin]

@[simp] theorem State.clocks_openView {v : Nat} {dark : Bool} : (s.openView v dark).SameClocks s := by
  simp [State.openView]

@[simp] theorem State.clocks_openShare {v : Nat} {h : ShareHdr} : (s.openShare v h).SameClocks s := by
  unfold State.openShare
  split <;> simp (decide := true)

@[simp] theorem State.clocks_standbyOpen {l : List StandbyView} : (s.standbyOpen l).SameClocks s := by
  refine State.clocks_foldl (fun s x => ?_) _
  dsimp only
  split <;> simp

@[simp] theorem State.clocks_prbsTo {L : Latch} {view i : Nat} : (s.prbsTo L view i).1.SameClocks s := by
  simp [State.prbsTo]

@[simp] theorem State.clocks_dramBytes {port a n : Nat} : (s.dramBytes port a n).1.SameClocks s := by
  unfold State.dramBytes
  exact State.clocks_foldl1 (fun r i => by simp) _

@[simp] theorem State.clocks_records {bank : Nat} {flags : List Nat} {i0 n : Nat} :
    (s.records bank flags i0 n).1.SameClocks s := by
  unfold State.records
  refine State.clocks_foldl1 (fun r j => ?_) _
  dsimp only
  split_ifs <;> simp

@[simp] theorem State.clocks_correctRow {L : Latch} {view y : Nat} {px : List Pix} {bad : List Nat} :
    (s.correctRow L view y px bad).SameClocks s := by
  simp only [State.correctRow]
  refine State.clocks_writeLamps.trans (.trans (State.clocks_foldl1 (fun a j => ?_) _) ?_)
  · dsimp only
    split_ifs <;> simp
  · split <;> simp (decide := true)

@[simp] theorem State.clocks_bandRow {y : Nat} : (s.bandRow y).SameClocks s := by
  simp [State.bandRow]

@[simp] theorem State.clocks_takeRow {v y bits : Nat} {bad : List Nat} : (s.takeRow v y bits bad).SameClocks s := by
  unfold State.takeRow
  dsimp only
  repeat' split
  all_goals simp

@[simp] theorem State.clocks_fromRing : s.fromRing.SameClocks s := by
  simp [State.fromRing]

@[simp] theorem State.clocks_putModeNext {m : ModeW} : (s.putModeNext m).SameClocks s := by
  simp (decide := true) [State.putModeNext]

@[simp] theorem State.clocks_putModeCur {m : ModeW} : (s.putModeCur m).SameClocks s := by
  simp (decide := true) [State.putModeCur]

@[simp] theorem State.clocks_modeChange {m : ModeW} {cause : Nat} : (s.modeChange m cause).SameClocks s := by
  simp (decide := true) [State.modeChange]

@[simp] theorem State.clocks_copyCoding {c : Nat} : (s.copyCoding c).SameClocks s := by
  simp [State.copyCoding]

@[simp] theorem State.clocks_showPort {q : Nat} : (s.showPort q).SameClocks s := by
  simp only [State.showPort]
  split
  · exact ⟨rfl, rfl, rfl⟩
  split_ifs
  · exact ⟨rfl, rfl, rfl⟩
  refine State.clocks_standbyJudge.trans (.trans (State.clocks_foldl (fun s r => ?_) _) (by simp))
  split
  · split_ifs
    · exact ⟨rfl, rfl, rfl⟩
    · refine State.clocks_foldl (fun s y => ?_) _
      split <;> simp
  · exact ⟨rfl, rfl, rfl⟩

@[simp] theorem State.clocks_streamFail {p cause : Nat} : (s.streamFail p cause).SameClocks s := by
  unfold State.streamFail
  dsimp only
  repeat' split
  all_goals simp

@[simp] theorem State.clocks_markBad {v : Nat} : (s.markBad v).SameClocks s := by
  unfold State.markBad
  split <;> simp

@[simp] theorem State.clocks_streamLost {p : Nat} : (s.streamLost p).SameClocks s := by
  simp [State.streamLost]

@[simp] theorem State.clocks_policyDue {p : Nat} : (s.policyDue p).SameClocks s := by
  simp [State.policyDue]

@[simp] theorem State.clocks_showLine {p : Nat} : (s.showLine p).SameClocks s := by
  simp [State.showLine]

@[simp] theorem State.clocks_bootSave : s.bootSave.SameClocks s := by
  simp [State.bootSave]

@[simp] theorem State.clocks_endSession {bad : Bool} : (s.endSession bad).SameClocks s := by
  simp (decide := true) [State.endSession]

@[simp] theorem State.clocks_sessionLost : s.sessionLost.SameClocks s := by
  simp [State.sessionLost]

@[simp] theorem State.clocks_showTxns {p : Nat} : (s.showTxns p).SameClocks s := by
  simp [State.showTxns]

@[simp] theorem State.clocks_queueMsg {p : Nat} {m : Msg} : (s.queueMsg p m).SameClocks s := by
  simp [State.queueMsg]

@[simp] theorem State.clocks_send {p : Nat} {m : Msg} : (s.send p m).SameClocks s := by
  simp [State.send]

@[simp] theorem State.clocks_dispatch {p : Nat} {req : ReqMsg} {owner : Owner} {tenant : Nat} :
    (s.dispatch p req owner tenant).SameClocks s := by
  simp [State.dispatch]

@[simp] theorem State.clocks_setDesc {d : Desc} : (s.setDesc d).SameClocks s := by
  simp [State.setDesc]

@[simp] theorem State.clocks_showInflight {q : Nat} : (s.showInflight q).SameClocks s := by
  simp (decide := true) [State.showInflight]

@[simp] theorem State.clocks_dropDescs {q : Nat} {l : List Desc} : (s.dropDescs q l).SameClocks s := by
  simp [State.dropDescs]

@[simp] theorem State.clocks_advanceHead {q : Nat} : (s.advanceHead q).SameClocks s := by
  simp [State.advanceHead]

@[simp] theorem State.clocks_complete {q idx status done : Nat} {data : List Nat} :
    (s.complete q idx status done data).SameClocks s := by
  unfold State.complete
  split <;> simp (decide := true)

@[simp] theorem State.clocks_settle {q idx : Nat} : (s.settle q idx).SameClocks s := by
  unfold State.settle
  dsimp only
  repeat' split
  all_goals simp

@[simp] theorem State.clocks_answer {q idx part status : Nat} {data : List Nat} :
    (s.answer q idx part status data).SameClocks s := by
  unfold State.answer
  split <;> simp

@[simp] theorem State.clocks_reply {dst : Caller} {op tag status : Nat} {data : List Sys2Proof.Byte} :
    (s.reply dst op tag status data).SameClocks s := by
  simp (decide := true) [State.reply]

@[simp] theorem State.clocks_tell {o : Owner} {op status : Nat} {data : List Nat} :
    (s.tell o op status data).SameClocks s := by
  unfold State.tell
  split <;> simp

@[simp] theorem State.clocks_pumpOne {p : Nat} : (s.pumpOne p).SameClocks s := by
  unfold State.pumpOne
  split <;> simp

@[simp] theorem State.clocks_pump {p : Nat} : (s.pump p).SameClocks s := by
  simp [State.pump]

@[simp] theorem State.clocks_showOld : s.showOld.SameClocks s := by
  simp (decide := true) [State.showOld]

@[simp] theorem State.clocks_txnDone {p : Nat} {t : Txn} {status : Nat} {data : List Nat} :
    (s.txnDone p t status data).SameClocks s := by
  simp [State.txnDone]

@[simp] theorem State.clocks_showSilent {p : Nat} : (s.showSilent p).SameClocks s := by
  simp [State.showSilent]

@[simp] theorem State.clocks_showTmo {p : Nat} : (s.showTmo p).SameClocks s := by
  simp [State.showTmo]

@[simp] theorem State.clocks_numberTo {p n : Nat} : (s.numberTo p n).SameClocks s := by
  simp [State.numberTo]

@[simp] theorem State.clocks_dropSessions {p n : Nat} : (s.dropSessions p n).SameClocks s := by
  refine .trans (State.clocks_foldl (fun s v => ?_) _) (State.clocks_setLineTx)
  split <;> simp

@[simp] theorem State.clocks_setN {p n : Nat} : (s.setN p n).SameClocks s := by
  simp [State.setN]

@[simp] theorem State.clocks_ldInvalid {p : Nat} : (s.ldInvalid p).SameClocks s := by
  simp [State.ldInvalid]

@[simp] theorem State.clocks_lineLost {p : Nat} : (s.lineLost p).SameClocks s := by
  unfold State.lineLost
  dsimp only
  split <;> simp

@[simp] theorem State.clocks_setLane {l : Nat} {x : LaneSt} : (s.setLane l x).SameClocks s := by
  simp [State.setLane]

@[simp] theorem State.clocks_laneAnew {l : Nat} : (s.laneAnew l).SameClocks s := by
  simp [State.laneAnew]

@[simp] theorem State.clocks_lnkCount {p : Nat} {f : Fld} {n : Nat} (h : clockKey f.key = false) :
    (s.lnkCount p f n).SameClocks s := by
  simp [State.lnkCount, h]

@[simp] theorem State.clocks_setService {p : Nat} {l : List Nat} : (s.setService p l).SameClocks s := by
  simp [State.setService]

@[simp] theorem State.clocks_setStage {p v : Nat} : (s.setStage p v).SameClocks s := by
  simp [State.setStage]

@[simp] theorem State.clocks_reportLink {q cause : Nat} : (s.reportLink q cause).SameClocks s := by
  simp [State.reportLink]

@[simp] theorem State.clocks_portLeaves {p st : Nat} : (s.portLeaves p st).SameClocks s := by
  simp [State.portLeaves]

@[simp] theorem State.clocks_portDown {p : Nat} : (s.portDown p).SameClocks s := by
  simp [State.portDown]

@[simp] theorem State.clocks_setLaneState {l v : Nat} : (s.setLaneState l v).SameClocks s := by
  simp [State.setLaneState]

@[simp] theorem State.clocks_sendTraining {l : Nat} : (s.sendTraining l).SameClocks s := by
  simp [State.sendTraining]

@[simp] theorem State.clocks_setTxTaps {l : Nat} {t : List Int} : (s.setTxTaps l t).SameClocks s := by
  simp [State.setTxTaps]

@[simp] theorem State.clocks_trainOver {l : Nat} : (s.trainOver l).SameClocks s := by
  simp [State.trainOver]

@[simp] theorem State.clocks_failLane {p k reason : Nat} : (s.failLane p k reason).SameClocks s := by
  simp [State.failLane]

@[simp] theorem State.clocks_toDetect {p : Nat} : (s.toDetect p).SameClocks s := by
  simp [State.toDetect]

@[simp] theorem State.clocks_linkDown {p : Nat} : (s.linkDown p).SameClocks s := by
  simp [State.linkDown]

@[simp] theorem State.clocks_setImg {k v : Nat} : (s.setImg k v).SameClocks s := by
  simp [State.setImg]

@[simp] theorem State.clocks_startSlot {k : Nat} : (s.startSlot k).SameClocks s := by
  simp (decide := true) [State.startSlot]

@[simp] theorem State.clocks_setChan {c : Nat} {x : MbxChan} : (s.setChan c x).SameClocks s := by
  simp [State.setChan]

@[simp] theorem State.clocks_showSide {c k : Nat} : (s.showSide c k).SameClocks s := by
  simp [State.showSide]

@[simp] theorem State.clocks_showChan {c : Nat} : (s.showChan c).SameClocks s := by
  simp [State.showChan]

@[simp] theorem State.clocks_mbxReset {c : Nat} {sides : List Nat} : (s.mbxReset c sides).SameClocks s := by
  simp [State.mbxReset]

@[simp] theorem State.clocks_mcRestarts : s.mcRestarts.SameClocks s := by
  simp [State.mcRestarts]

@[simp] theorem State.clocks_showSlot {k res : Nat} : (s.showSlot k res).SameClocks s := by
  simp [State.showSlot]

@[simp] theorem State.clocks_loadSettings : s.loadSettings.SameClocks s := by
  unfold State.loadSettings
  dsimp only
  split <;> simp (decide := true)

@[simp] theorem State.clocks_restartOn {k : Nat} : (s.restartOn k).SameClocks s := by
  simp [State.restartOn]

@[simp] theorem State.clocks_activate {arg : Nat} : (s.activate arg).SameClocks s := by
  simp [State.activate]

@[simp] theorem State.clocks_launchActivate {e : Entry} : (s.launchActivate e).SameClocks s := by
  simp [State.launchActivate]

@[simp] theorem State.clocks_modeReject {rule : Nat} : (s.modeReject rule).SameClocks s := by
  simp (decide := true) [State.modeReject]

@[simp] theorem State.clocks_refusedLaunch {rule : Nat} : (s.refusedLaunch rule).SameClocks s := by
  simp (decide := true) [State.refusedLaunch]

@[simp] theorem State.clocks_setSlot {k : Nat} {x : SlotSt} : (s.setSlot k x).SameClocks s := by
  simp [State.setSlot]

@[simp] theorem State.clocks_followTurn {k : Nat} : (s.followTurn k).SameClocks s := by
  simp [State.followTurn]

@[simp] theorem State.clocks_followEval : s.followEval.SameClocks s := by
  simp (decide := true) [State.followEval]

@[simp] theorem State.clocks_showTimetable : s.showTimetable.SameClocks s := by
  simp (decide := true) [State.showTimetable]

@[simp] theorem State.clocks_showSched : s.showSched.SameClocks s := by
  unfold State.showSched
  split <;> simp (decide := true)

@[simp] theorem State.clocks_sendSched {p : Nat} {c : Sched} {next : Bool} :
    (s.sendSched p c next).SameClocks s := by
  simp [State.sendSched]

@[simp] theorem State.clocks_sendScheds : s.sendScheds.SameClocks s := by
  unfold State.sendScheds
  split
  · exact ⟨rfl, rfl, rfl⟩
  · refine State.clocks_forN fun s p => ?_
    dsimp only
    split <;> split <;> simp

@[simp] theorem State.clocks_takeSched {c : Sched} : (s.takeSched c).SameClocks s := by
  simp (decide := true) [State.takeSched]

@[simp] theorem State.clocks_schedAnswer {c : Sched} {fail : Option (Nat × Nat)} :
    (s.schedAnswer c fail).SameClocks s := by
  unfold State.schedAnswer
  split <;> simp

@[simp] theorem State.clocks_launchSchedule {e : Entry} : (s.launchSchedule e).SameClocks s := by
  unfold State.launchSchedule
  split <;> simp

@[simp] theorem State.clocks_tickoutAt {w : Int} : (s.tickoutAt w).SameClocks s := by
  simp [State.tickoutAt]

@[simp] theorem State.clocks_launchPulse {e : Entry} : (s.launchPulse e).SameClocks s := by
  simp [State.launchPulse]

@[simp] theorem State.clocks_toSyncing : s.toSyncing.SameClocks s := by
  simp (decide := true) [State.toSyncing]

@[simp] theorem State.clocks_redunChanged {dual : Bool} : (s.redunChanged dual).SameClocks s := by
  simp (decide := true) [State.redunChanged]

@[simp] theorem State.clocks_applyMode {m : ModeW} {cause : Nat} : (s.applyMode m cause).SameClocks s := by
  simp [State.applyMode]

@[simp] theorem State.clocks_railAim {c : Nat} : (s.railAim c).SameClocks s := by
  simp [State.railAim]

@[simp] theorem State.clocks_putBit {f : Fld} {k : Nat} {b : Bool} (h : clockKey f.key = false) :
    (s.putBit f k b).SameClocks s := State.clocks_set h

@[simp] theorem State.clocks_setRail {c st : Nat} : (s.setRail c st).SameClocks s := by
  simp (decide := true) [State.setRail]

@[simp] theorem State.clocks_startDischarge {c : Nat} : (s.startDischarge c).SameClocks s := by
  simp [State.startDischarge]

@[simp] theorem State.clocks_railEval {c : Nat} : (s.railEval c).SameClocks s := by
  simp [State.railEval]

@[simp] theorem State.clocks_raiCommitted : s.raiCommitted.SameClocks s := by
  simp [State.raiCommitted]

@[simp] theorem State.clocks_exchangeTt : s.exchangeTt.SameClocks s := by
  simp (decide := true) [State.exchangeTt]

@[simp] theorem State.clocks_bankMarks {a n b : Nat} : (s.bankMarks a n b).SameClocks s := by
  simp [State.bankMarks]

@[simp] theorem State.clocks_showCards : s.showCards.SameClocks s := by
  simp (decide := true) [State.showCards]

@[simp] theorem State.clocks_exchangeCards : s.exchangeCards.SameClocks s := by
  simp (decide := true) [State.exchangeCards]

@[simp] theorem State.clocks_showPanels : s.showPanels.SameClocks s := by
  simp (decide := true) [State.showPanels]

@[simp] theorem State.clocks_exchangeSpire : s.exchangeSpire.SameClocks s := by
  simp (decide := true) [State.exchangeSpire]

@[simp] theorem State.clocks_setCur {f : Fld} {v : Nat} : (s.setCur f v).SameClocks s := by
  simp [State.setCur]

@[simp] theorem State.clocks_corSwap : s.corSwap.SameClocks s := by
  simp (decide := true) [State.corSwap]

@[simp] theorem State.clocks_noteGroup {b : Nat} : (s.noteGroup b).SameClocks s := by
  simp [State.noteGroup]

@[simp] theorem State.clocks_transfer {b : Nat} : (s.transfer b).SameClocks s := by
  unfold State.transfer
  split <;> simp

@[simp] theorem State.clocks_commitEnd {b : Nat} (hb : b % 0x1000 = 0) : (s.commitEnd b).SameClocks s := by
  simp [State.commitEnd, hb]

@[simp] theorem State.clocks_commitDone {b : Nat} (hb : b % 0x1000 = 0) : (s.commitDone b).SameClocks s := by
  simp [State.commitDone, hb]

@[simp] theorem State.clocks_showZones : s.showZones.SameClocks s := by
  simp (decide := true) [State.showZones]

@[simp] theorem State.clocks_putBit64 {f g : Fld} {k : Nat} {b : Bool} (h : clockKey f.key = false)
    (hg : clockKey g.key = false) :
    (s.putBit64 f g k b).SameClocks s := by
  simp [State.putBit64, h, hg]

@[simp] theorem State.clocks_evalZone {z : Nat} : (s.evalZone z).SameClocks s := by
  simp (decide := true) [State.evalZone]

@[simp] theorem State.clocks_faultCheck {i : Nat} : (s.faultCheck i).SameClocks s := by
  simp (decide := true) [State.faultCheck]

@[simp] theorem State.clocks_faultScan : s.faultScan.SameClocks s := by
  simp [State.faultScan]

@[simp] theorem State.clocks_evalZones : s.evalZones.SameClocks s := by
  simp [State.evalZones]

@[simp] theorem State.clocks_showFading : s.showFading.SameClocks s := by
  simp [State.showFading]

@[simp] theorem State.clocks_commitPage {b : Nat} (hb : b % 0x1000 = 0) : (s.commitPage b).SameClocks s := by
  simp [State.commitPage, hb]

@[simp] theorem State.clocks_showRule {r : Nat × Nat} : (s.showRule r).SameClocks s := by
  simp (decide := true) [State.showRule]

@[simp] theorem State.clocks_commitRefused {b : Nat} (hb : b % 0x1000 = 0) : (s.commitRefused b).SameClocks s := by
  simp [State.commitRefused, hb]

@[simp] theorem State.clocks_refuseAll {l : List Nat} (hl : PageBases l) : (s.refuseAll l).SameClocks s := 
  State.clocks_foldl_mem fun _ b hb => State.clocks_commitRefused (hl b hb)

@[simp] theorem State.clocks_rejectOpen : s.rejectOpen.SameClocks s := by
  simp [State.rejectOpen]

@[simp] theorem State.clocks_capacityError {m : ModeW} {l : List ModeEnv} : (s.capacityError m l).SameClocks s := by
  simp (decide := true) [State.capacityError]

@[simp] theorem State.clocks_sendChanged {was : ModeW × Nat} : (s.sendChanged was).SameClocks s := by
  simp [State.sendChanged]

@[simp] theorem State.clocks_applyPolicy {p : Nat} : (s.applyPolicy p).SameClocks s := by
  simp [State.applyPolicy]

@[simp] theorem State.clocks_policies : s.policies.SameClocks s := by
  simp [State.policies]

@[simp] theorem State.clocks_refuseOwn {b : Nat} {x : Nat × Nat × Nat} (hb : b % 0x1000 = 0) :
    (s.refuseOwn b x).SameClocks s := by
  simp (decide := true) [State.refuseOwn, hb]

@[simp] theorem State.clocks_ownRefuse {layout : Bool} {l : List Nat} (hl : PageBases l) :
    (s.ownRefuse layout l).SameClocks s := by
  refine State.clocks_foldl_mem fun s b hb => ?_
  split
  · exact State.clocks_refuseOwn (hl b hb)
  · exact ⟨rfl, rfl, rfl⟩

@[simp] theorem State.clocks_commitPages {l : List Nat}
    (hl : PageBases l) : (l.foldl State.commitPage s).SameClocks s :=
  State.clocks_foldl_mem fun _ b hb => State.clocks_commitPage (hl b hb)

@[simp] theorem State.clocks_noPeer : s.noPeer.SameClocks s := by
  simp [State.noPeer]

@[simp] theorem State.clocks_commitJoint {l : List Nat} (hl : PageBases l) : (s.commitJoint l).SameClocks s := by
  have hok : PageBases (s.ownPass false l) := hl.filter
  unfold State.commitJoint
  split_ifs
  · exact ⟨rfl, rfl, rfl⟩
  · have hfilter : ∀ q, PageBases ((s.ownPass false l).filter q) := fun _ => hok.filter
    dsimp only
    split
    · simp [hl, hfilter]
    · simp [hl, hok, hfilter]

@[simp] theorem State.clocks_commitSingle {b : Nat} (hb : b % 0x1000 = 0) : (s.commitSingle b).SameClocks s := by
  unfold State.commitSingle
  split <;> simp [hb]

@[simp] theorem State.clocks_commitSingles {l : List Nat} (hl : PageBases l) :
    (l.foldl State.commitSingle s).SameClocks s :=
  State.clocks_foldl_mem fun _ b hb => State.clocks_commitSingle (hl b hb)

@[simp] theorem State.clocks_commitGroups {mask : Nat} {w : Int} : (s.commitGroups mask w).SameClocks s := by
  have hjoint : PageBases (if s.flipAt w = true then [] else
      (s.duePages (s.instantMask w mask)).filter jointPages.contains) := by
    split
    · exact nofun
    · simp
  exact (State.clocks_commitSingles (by simp)).trans (State.clocks_commitJoint hjoint)

@[simp] theorem State.clocks_launchCommit {e : Entry} : (s.launchCommit e).SameClocks s := by
  simp [State.launchCommit]

@[simp] theorem State.clocks_takeCap : s.takeCap.SameClocks s := by
  simp (decide := true) [State.takeCap]

@[simp] theorem State.clocks_sendPlanes {t : Timetable} {row seg : Nat} : (s.sendPlanes t row seg).SameClocks s := by
  simp [State.sendPlanes]

@[simp] theorem State.clocks_rowEdge : s.rowEdge.SameClocks s := by
  simp (decide := true) [State.rowEdge]

@[simp] theorem State.clocks_subframe {v : Nat} : (s.subframe v).SameClocks s := by
  simp (decide := true) [State.subframe]

@[simp] theorem State.clocks_runScan : s.runScan.SameClocks s := by
  simp [State.runScan]

@[simp] theorem State.clocks_flipRefused {e : Entry} : (s.flipRefused e).SameClocks s := by
  simp [State.flipRefused]

@[simp] theorem State.clocks_raiShows {d : List Nat} : (s.raiShows d).SameClocks s := by
  simp [State.raiShows]

@[simp] theorem State.clocks_dropLoads : s.dropLoads.SameClocks s := by
  simp (decide := true) [State.dropLoads]

@[simp] theorem State.clocks_lightOff : s.lightOff.SameClocks s := by
  simp [State.lightOff]

@[simp] theorem State.clocks_darkBegin : s.darkBegin.SameClocks s := by
  simp (decide := true) [State.darkBegin]

@[simp] theorem State.clocks_darkStart {n : Nat} : (s.darkStart n).SameClocks s := by
  simp [State.darkStart]

@[simp] theorem State.clocks_layPlanes : s.layPlanes.SameClocks s := by
  simp (decide := true) [State.layPlanes]

@[simp] theorem State.clocks_newPlanes : s.newPlanes.SameClocks s := by
  simp (decide := true) [State.newPlanes]

@[simp] theorem State.clocks_setEpoch {n : Nat} : (s.setEpoch n).SameClocks s := by
  simp (decide := true) [State.setEpoch]

@[simp] theorem State.clocks_flipApply {e : Entry} {n : Nat} {word : ModeW} {ok : List Nat} (hok : PageBases ok) :
    (s.flipApply e n word ok).SameClocks s := by
  unfold State.flipApply
  dsimp only
  split <;> simp (decide := true) [hok]

@[simp] theorem State.clocks_flipAnswer {e : Entry} {n : Nat} {word : ModeW} {ok : List Nat} {mapBad : Bool} {fail : Option (Nat × Nat)}
    (hok : PageBases ok) : (s.flipAnswer e n word ok mapBad fail).SameClocks s := by
  unfold State.flipAnswer
  dsimp only
  split
  · simp [hok]
  · split_ifs <;> simp [hok]

@[simp] theorem State.clocks_flip {e : Entry} {n : Nat} : (s.flip e n).SameClocks s := by
  simp [State.flip, State.ownPass]

@[simp] theorem State.clocks_launchFlip {e : Entry} : (s.launchFlip e).SameClocks s := by
  simp [State.launchFlip]

@[simp] theorem State.clocks_launchMark {e : Entry} : (s.launchMark e).SameClocks s := by
  simp (decide := true) [State.launchMark]

@[simp] theorem State.clocks_showWall : s.showWall.SameClocks s := by
  simp (decide := true) [State.showWall]

@[simp] theorem State.clocks_validCheck : s.validCheck.SameClocks s := by
  simp (decide := true) [State.validCheck]

@[simp] theorem State.clocks_setWallDom {target : Nat} {r : Int} : (s.setWallDom target r).SameClocks s := by
  simp (decide := true) [State.setWallDom]

@[simp] theorem State.clocks_switchWall {target : Nat} {force : Bool} :
    (s.switchWall target force).SameClocks s := by
  simp [State.switchWall]

@[simp] theorem State.clocks_launchWallSwitch {e : Entry} : (s.launchWallSwitch e).SameClocks s := by
  simp [State.launchWallSwitch]

@[simp] theorem State.clocks_launchAny {i : Nat} {late : Bool} : (s.launchAny i late).SameClocks s := by
  simp [State.launchAny]

@[simp] theorem State.clocks_showDemand : s.showDemand.SameClocks s := by
  simp [State.showDemand]

@[simp] theorem State.clocks_showFree : s.showFree.SameClocks s := by
  simp (decide := true) [State.showFree]

@[simp] theorem State.clocks_freeOld {k : Nat} : (s.freeOld k).SameClocks s := by
  simp [State.freeOld]

@[simp] theorem State.clocks_frameSettle {k : Nat} : (s.frameSettle k).SameClocks s := by
  unfold State.frameSettle
  dsimp only
  split <;> simp

@[simp] theorem State.clocks_pickAnc {k : Nat} : (s.pickAnc k).SameClocks s := by
  unfold State.pickAnc
  dsimp only
  repeat' split
  all_goals simp

@[simp] theorem State.clocks_pickFrame {k : Nat} : (s.pickFrame k).SameClocks s := by
  unfold State.pickFrame
  dsimp only
  split <;> simp

@[simp] theorem State.clocks_pickLoss {k policy : Nat} : (s.pickLoss k policy).SameClocks s := by
  simp [State.pickLoss]

@[simp] theorem State.clocks_pickVideo {k : Nat} : (s.pickVideo k).SameClocks s := by
  simp [State.pickVideo]

@[simp] theorem State.clocks_pickAll : s.pickAll.SameClocks s := by
  simp [State.pickAll]

@[simp] theorem State.clocks_mirror {r : MirrorRec} : (s.mirror r).SameClocks s := by
  simp (decide := true) [State.mirror]

@[simp] theorem State.clocks_mirrorFrame {n : Nat} : (s.mirrorFrame n).SameClocks s := by
  simp [State.mirrorFrame]

@[simp] theorem State.clocks_stepFades : s.stepFades.SameClocks s := by
  simp (decide := true) [State.stepFades]

@[simp] theorem State.clocks_dueWidths : s.dueWidths.SameClocks s := by
  simp [State.dueWidths]

@[simp] theorem State.clocks_contentCheck : s.contentCheck.SameClocks s := by
  simp (decide := true) [State.contentCheck]

@[simp] theorem State.clocks_noteGroups {n : Nat} {w : Int} : (s.noteGroups n w).SameClocks s := by
  simp [State.noteGroups]

@[simp] theorem State.clocks_latchCards : s.latchCards.SameClocks s := by
  simp [State.latchCards]

@[simp] theorem State.clocks_latchPicture : s.latchPicture.SameClocks s := by
  simp [State.latchPicture]

@[simp] theorem State.clocks_mbxPut {c k : Nat} {words : List Nat} {poison : Bool} :
    (s.mbxPut c k words poison).SameClocks s := by
  simp [State.mbxPut]

@[simp] theorem State.clocks_mcFlush {c : Nat} : (s.mcFlush c).SameClocks s := by
  unfold State.mcFlush
  refine State.clocks_forN fun s _ => ?_
  split <;> simp

@[simp] theorem State.clocks_mcAnswer {c : Nat} {l : List (List Nat × Bool)} : (s.mcAnswer c l).SameClocks s := by
  simp [State.mcAnswer]

@[simp] theorem State.clocks_thrNotice : s.thrNotice.SameClocks s := by
  simp [State.thrNotice]

@[simp] theorem State.clocks_setThr {v : Nat} : (s.setThr v).SameClocks s := by
  simp (decide := true) [State.setThr]

@[simp] theorem State.clocks_restored : s.restored.SameClocks s := by
  simp [State.restored]

@[simp] theorem State.clocks_setDiv {v : Nat} : (s.setDiv v).SameClocks s := by
  simp (decide := true) [State.setDiv]

@[simp] theorem State.clocks_fallbackOff : s.fallbackOff.SameClocks s := by
  simp (decide := true) [State.fallbackOff]

@[simp] theorem State.clocks_fallbackOn : s.fallbackOn.SameClocks s := by
  simp (decide := true) [State.fallbackOn]

@[simp] theorem State.clocks_throttleApply {n : Nat} : (s.throttleApply n).SameClocks s := by
  unfold State.throttleApply
  dsimp only
  repeat' split
  all_goals simp

@[simp] theorem State.clocks_throttleDeparture {n : Nat} : (s.throttleDeparture n).SameClocks s := by
  simp [State.throttleDeparture]

@[simp] theorem State.clocks_showSeen {n : Nat} : (s.showSeen n).SameClocks s := by
  simp (decide := true) [State.showSeen]

@[simp] theorem State.clocks_setPhase {v : Nat} : (s.setPhase v).SameClocks s := by
  simp (decide := true) [State.setPhase]

@[simp] theorem State.clocks_cluIdle : s.cluIdle.SameClocks s := by
  simp (decide := true) [State.cluIdle]

@[simp] theorem State.clocks_issue {cmd arg : Nat} : (s.issue cmd arg).SameClocks s := by
  simp [State.issue]

@[simp] theorem State.clocks_request {p : Nat} {req : ReqMsg} {owner : Owner} {tenant : Nat} :
    (s.request p req owner tenant).SameClocks s := by
  simp [State.request]

@[simp] theorem State.clocks_cluRequest {p k op loc mask : Nat} {data : List Nat} :
    (s.cluRequest p k op loc mask data).SameClocks s := by
  simp [State.cluRequest]

@[simp] theorem State.clocks_takeLevel {v : Nat} : (s.takeLevel v).SameClocks s := by
  simp (decide := true) [State.takeLevel]

@[simp] theorem State.clocks_stopsEntry {stops : List (Nat × Nat)} {i : Nat} {e : Entry} :
    (s.stopsEntry stops i e).SameClocks s := by
  simp [State.stopsEntry]

@[simp] theorem State.clocks_cancelEpoch {epoch : Nat} : (s.cancelEpoch epoch).SameClocks s := by
  simp (decide := true) [State.cancelEpoch]

@[simp] theorem State.clocks_ownEntry {i : Nat} {e : Entry} : (s.ownEntry i e).SameClocks s := by
  simp [State.ownEntry]

@[simp] theorem State.clocks_armEpoch {epoch flip : Nat} : (s.armEpoch epoch flip).SameClocks s := by
  simp (decide := true) [State.armEpoch]

@[simp] theorem State.clocks_catchUp {epoch : Nat} : (s.catchUp epoch).SameClocks s := by
  simp (decide := true) [State.catchUp]

@[simp] theorem State.clocks_masterStep {n : Nat} : (s.masterStep n).SameClocks s := by
  unfold State.masterStep
  dsimp only
  repeat' split
  all_goals simp (decide := true)

@[simp] theorem State.clocks_ethSent {p n : Nat} : (s.ethSent p n).SameClocks s := by
  simp [State.ethSent]

@[simp] theorem State.clocks_sendCluster {r : ClusterRec} : (s.sendCluster r).SameClocks s := by
  simp [State.sendCluster]

@[simp] theorem State.clocks_cluAfter {n : Nat} : (s.cluAfter n).SameClocks s := by
  simp (decide := true) [State.cluAfter]

@[simp] theorem State.clocks_notedGroups : s.notedGroups.SameClocks s := by
  simp [State.notedGroups]

@[simp] theorem State.clocks_putFields {a v : Nat} {q : Acc → Bool} {put : State → Fld → Acc → Nat → State}
    (h : ∀ s f x w, (put s f x w).SameClocks s) : (s.putFields a v q put).SameClocks s := by
  unfold State.putFields
  refine State.clocks_foldl (fun s f => ?_) _
  split
  · exact h _ _ _ _
  · exact ⟨rfl, rfl, rfl⟩

@[simp] theorem State.clocks_takeImage : s.takeImage.SameClocks s := by
  simp [State.takeImage]

@[simp] theorem State.clocks_imageDeparture : s.imageDeparture.SameClocks s := by
  unfold State.imageDeparture
  split <;> simp (decide := true)

@[simp] theorem State.clocks_senderDeparture {n : Nat} : (s.senderDeparture n).SameClocks s := by
  simp [State.senderDeparture]

@[simp] theorem State.clocks_launched {n : Nat} : (s.launched n).SameClocks s := by
  simp [State.launched]

@[simp] theorem State.clocks_setHold {st held j : Nat} : (s.setHold st held j).SameClocks s := by
  simp [State.setHold]

@[simp] theorem State.clocks_fadeTo {j : Nat} : (s.fadeTo j).SameClocks s := by
  simp [State.fadeTo]

@[simp] theorem State.clocks_holdEnds : s.holdEnds.SameClocks s := by
  simp [State.holdEnds]

@[simp] theorem State.clocks_holdStep {new : Bool} : (s.holdStep new).SameClocks s := by
  simp [State.holdStep]

@[simp] theorem State.clocks_noteUnderrun : s.noteUnderrun.SameClocks s := by
  simp [State.noteUnderrun]

@[simp] theorem State.clocks_flipPlanes {n : Nat} : (s.flipPlanes n).1.SameClocks s := by
  unfold State.flipPlanes
  dsimp only
  repeat' split
  all_goals simp (decide := true)

@[simp] theorem State.clocks_judgeFrame {n : Nat} : (s.judgeFrame n).SameClocks s := by
  simp [State.judgeFrame]

@[simp] theorem State.clocks_reloadBand {b : Nat} : (s.reloadBand b).SameClocks s := by
  simp [State.reloadBand]

@[simp] theorem State.clocks_bandsDark : s.bandsDark.SameClocks s := by
  simp [State.bandsDark]

@[simp] theorem State.clocks_bandsDeparture : s.bandsDeparture.1.SameClocks s := by
  simp (decide := true) [State.bandsDeparture]

@[simp] theorem State.clocks_closeBands {n : Nat} : (s.closeBands n).1.SameClocks s := by
  unfold State.closeBands
  split <;> simp

@[simp] theorem State.clocks_raiDeparture {d : List Nat} {late : Bool} : (s.raiDeparture d late).SameClocks s := by
  simp [State.raiDeparture]

@[simp] theorem State.clocks_tileBefore : s.tileBefore.SameClocks s := by
  unfold State.tileBefore
  dsimp only
  repeat' split
  all_goals simp

@[simp] theorem State.clocks_noteEvent {k : Nat} {w : Int} : (s.noteEvent k w).SameClocks s := by
  simp [State.noteEvent]

@[simp] theorem State.clocks_darkFinish : s.darkFinish.SameClocks s := by
  simp (decide := true) [State.darkFinish]

@[simp] theorem State.clocks_darkEdges {n : Nat} : (s.darkEdges n).SameClocks s := by
  unfold State.darkEdges
  split <;> simp

@[simp] theorem State.clocks_monitorTake {n : Nat} : (s.monitorTake n).SameClocks s := by
  simp [State.monitorTake]

@[simp] theorem State.clocks_telMiss {p k : Nat} : (s.telMiss p k).SameClocks s := by
  simp [State.telMiss]

@[simp] theorem State.clocks_telMisses {n : Nat} : (s.telMisses n).SameClocks s := by
  simp [State.telMisses]

@[simp] theorem State.clocks_syncLost : s.syncLost.SameClocks s := by
  simp [State.syncLost]

@[simp] theorem State.clocks_reliefDeparture {n : Nat} : (s.reliefDeparture n).SameClocks s := by
  unfold State.reliefDeparture
  split <;> simp (decide := true)

@[simp] theorem State.clocks_timeErrors : s.timeErrors.SameClocks s := by
  unfold State.timeErrors
  dsimp only
  refine (State.clocks_evIf rfl).trans ((State.clocks_set rfl).trans (.trans (State.clocks_foldl1 (fun a e => ?_) _) ?_))
  · split <;> simp
  · simp (decide := true)

@[simp] theorem State.clocks_digestCheck {n : Nat} : (s.digestCheck n).SameClocks s := by
  unfold State.digestCheck
  split_ifs
  · exact ⟨rfl, rfl, rfl⟩
  · extract_lets d
    split
    next s₁ bad h₁ =>
    have e₁ : (s₁, bad).1.SameClocks s := by
      rw [← h₁]
      exact State.clocks_foldl1 (fun a r => by simp) _
    split
    next s₂ stop h₂ =>
    have e₂ : (s₂, stop).1.SameClocks s₁ := by
      rw [← h₂]
      refine State.clocks_foldl1 (fun a e => ?_) _
      split
      · exact ⟨rfl, rfl, rfl⟩
      · split_ifs <;> simp
    refine State.SameClocks.trans ?_ (e₂.trans e₁)
    split <;> simp (decide := true)

@[simp] theorem State.clocks_recMisses {n : Nat} : (s.recMisses n).SameClocks s := by
  simp (decide := true) [State.recMisses]

@[simp] theorem State.clocks_cluBefore {n : Nat} : (s.cluBefore n).SameClocks s := by
  simp (decide := true) [State.cluBefore]

@[simp] theorem State.clocks_senderBefore {n : Nat} : (s.senderBefore n).SameClocks s := by
  unfold State.senderBefore
  split <;> simp

@[simp] theorem State.clocks_sendTelemetry {n : Nat} : (s.sendTelemetry n).SameClocks s := by
  simp [State.sendTelemetry]

@[simp] theorem State.clocks_spireLoad {l : List Nat} : (s.spireLoad l).SameClocks s := by
  simp (decide := true) [State.spireLoad]

@[simp] theorem State.clocks_bandsReload : s.bandsReload.SameClocks s := by
  simp [State.bandsReload]

@[simp] theorem State.clocks_hktCap : s.hktCap.SameClocks s := by
  simp (decide := true) [State.hktCap]

@[simp] theorem State.clocks_tileDeparture {n : Nat} : (s.tileDeparture n).SameClocks s := by
  simp [State.tileDeparture]

@[simp] theorem State.clocks_skip {k : Nat} : (s.skip k).SameClocks s := by
  simp (decide := true) [State.skip]

@[simp] theorem State.clocks_depart {n : Nat} : (s.depart n).SameClocks s := by
  unfold State.depart
  dsimp only
  repeat' split
  all_goals simp (decide := true)

@[simp] theorem State.clocks_adoptLate {n : Nat} : (s.adoptLate n).SameClocks s := by
  unfold State.adoptLate
  split <;> simp

@[simp] theorem State.clocks_dueSched {n : Nat} : (s.dueSched n).SameClocks s := by
  unfold State.dueSched
  dsimp only
  repeat' split
  all_goals simp

@[simp] theorem State.clocks_frameDeparture {n : Nat} : (s.frameDeparture n).SameClocks s := by
  simp [State.frameDeparture]

@[simp] theorem State.clocks_stepLaunch {w0 : Int} : (s.stepLaunch w0).SameClocks s := by
  unfold State.stepLaunch
  dsimp only
  repeat' split
  all_goals simp

end Clocks
end Sys2Proof.Machine

/-!
Clock domains and the wall domain (spec/04_time_and_departures.md).
-/
namespace Sys2Proof.Machine

/-! ### Reading a clock domain -/

section Domains
variable {s z : State} {d v t w : Nat} {m e : Int} {step : Bool} {f : Fld}

theorem clockKey_dom {a l w r : Nat} (hd : d < 2) (ha : 0x8180 ≤ a) (ha' : a < 0x81A0) (hl : l < 32) :
    clockKey (Fld.key ⟨a + d * 0x20, l, w, r⟩) = true := by
  simp only [clockKey, Fld.key, Bool.and_eq_true]
  refine ⟨decide_eq_true ?_, decide_eq_true ?_⟩ <;> omega

/-- The words of one domain that its measurements and its states are shown in. -/
theorem clockKey_domFields (hd : d < 2) : clockKey (R.TIM.DOM_STAT.STATE d).key = true ∧
    clockKey (R.TIM.DOM_STAT.LOCK_RUN d).key = true ∧ clockKey (R.TIM.DOM_OFFSET.OFFSET d).key = true ∧
    clockKey (R.TIM.DOM_LOOP.KI_SHIFT d).key = true ∧ clockKey (R.TIM.DOM_CFG.EN d).key = true := by
  and_intros <;> exact clockKey_dom hd (by decide) (by decide) (by decide)

theorem Fld.only_ne {g : Fld} (h : f.key ≠ g.key) : f.only g.key = false := beq_false_of_ne h

/-- Two fields of one domain lie in other words or at other bits. -/
theorem domKey_ne {a b l k w x r q : Nat} (h : a ≠ b ∨ l ≠ k := by decide) (hl : l < 32 := by decide)
    (hk : k < 32 := by decide) : Fld.key ⟨a + d * 0x20, l, w, r⟩ ≠ Fld.key ⟨b + d * 0x20, k, x, q⟩ := by
  simp only [Fld.key]
  omega

/-- Where the domains are the same, each of their fields is. -/
theorem State.SameClocks.only (h : s.SameClocks z) (hf : clockKey f.key = true) :
    fieldsAt f.only s.regs = fieldsAt f.only z.regs :=
  fieldsAt_of_imp (fun n hn => by rwa [← eq_of_beq hn]) h.1

theorem State.SameClocks.dom (h : s.SameClocks z) : s.dom d = z.dom d := by
  simp only [State.dom, h.2.1, h.2.2]

@[simp] theorem State.dom_set {g : Fld} {i : Nat} : (s.set g v).dom i = s.dom i := rfl

@[simp] theorem State.dom_setDom {x : Domain} : (s.setDom d x).dom d = x := by
  unfold State.dom State.setDom
  split <;> rfl

/-! ### The states of a domain -/

/-- Of the domains, a new state changes the STATE field alone. -/
theorem State.clocks_putDomState : (s.putDomState d v).SameClocks (s.set (R.TIM.DOM_STAT.STATE d) v) := by
  refine State.clocks_showWall.trans (State.clocks_set ?_)
  split <;> rfl

theorem State.regsOk_setDom {x : Domain} : (s.setDom d x).regsOk ↔ s.regsOk := by
  rw [State.regsOk, State.regs_setDom, State.regsOk]

theorem State.clocks_enterListen :
    ∃ x, (s.enterListen d).SameClocks ((s.setDom d x).set (R.TIM.DOM_STAT.STATE d) DomS.listen) :=
  ⟨_, State.clocks_putDomState⟩

theorem State.clocks_enterHoldover :
    (s.enterHoldover d).SameClocks (s.set (R.TIM.DOM_STAT.STATE d) DomS.holdover) := by
  refine State.SameClocks.trans ?_ ((State.clocks_ev (b := B.tim) (k := Ev.TIM.D0_HOLDOVER + d) rfl).trans
    State.clocks_putDomState)
  unfold State.enterHoldover
  dsimp only
  split <;> simp

/-- A state whose domains are those after a write of `v` to STATE is in the state `v`. -/
theorem State.domState_of_clocks (hd : d < 2) (hv : v < 8) (hs : s.regsOk) (hz : z.regsOk)
    (h : s.SameClocks (z.set (R.TIM.DOM_STAT.STATE d) v)) : s.domState d = v :=
  (State.get_of_only_set hs hz (h.only (clockKey_domFields hd).1)).trans (Nat.mod_eq_of_lt hv)

/-- The domain `d` of `s` with its run of measurements outside 4 × LOCK_THR at 0. -/
def State.clearRuns (s : State) (d : Nat) : State :=
  (s.setDom d { s.dom d with outRun := 0 }).set (R.TIM.DOM_STAT.LOCK_RUN d) 0

theorem State.clocks_enterAcquire :
    (s.enterAcquire d).SameClocks ((s.clearRuns d).set (R.TIM.DOM_STAT.STATE d) DomS.acquire) := State.clocks_putDomState

/-- ACQUIRE starts with the rate that the domain has. -/
@[simp] theorem State.rho_enterAcquire : ((s.enterAcquire d).dom d).rho = (s.dom d).rho := by
  rw [State.clocks_enterAcquire.dom, State.dom_set, State.clearRuns, State.dom_set, State.dom_setDom]

theorem State.only_enterAcquire (hc : clockKey f.key = true) (hl : f.key ≠ (R.TIM.DOM_STAT.LOCK_RUN d).key)
    (hst : f.key ≠ (R.TIM.DOM_STAT.STATE d).key) : fieldsAt f.only (s.enterAcquire d).regs = fieldsAt f.only s.regs :=
  (State.clocks_enterAcquire.only hc).trans ((State.fieldsAt_set (Fld.only_ne hst)).trans (State.fieldsAt_set (Fld.only_ne hl)))

theorem State.canon_enterAcquire (h : s.Canon) : (s.enterAcquire d).Canon :=
  Keep.canon (k := .all) (q := s) (by apply State.enterAcquire_good <;> simp [Keep.refl h])

theorem State.canon_lockRuns (h : s.Canon) : (s.lockRuns d m).Canon :=
  Keep.canon (k := .all) (q := s) (by apply State.lockRuns_good <;> simp [Keep.refl h])

theorem State.canon_putDomState (h : s.Canon) : (s.putDomState d v).Canon :=
  Keep.canon (k := .all) (q := s) (by apply State.putDomState_good <;> simp [Keep.refl h])

/-! ### The runs towards LOCKED and back to ACQUIRE -/

theorem State.rho_lockRuns : ((s.lockRuns d m).dom d).rho = (s.dom d).rho := by
  have hlock : ∀ {z : State}, ((z.putDomState d DomS.locked).ev B.tim (Ev.TIM.D0_LOCK + d)).dom d = z.dom d := fun {z} =>
    ((State.clocks_ev rfl).trans State.clocks_putDomState).dom
  unfold State.lockRuns
  dsimp only
  split_ifs <;> simp [hlock]

theorem State.only_lockRuns (hc : clockKey f.key = true) (hl : f.key ≠ (R.TIM.DOM_STAT.LOCK_RUN d).key)
    (hst : f.key ≠ (R.TIM.DOM_STAT.STATE d).key) : fieldsAt f.only (s.lockRuns d m).regs = fieldsAt f.only s.regs := by
  have hlock : ∀ {z : State}, fieldsAt f.only ((z.putDomState d DomS.locked).ev B.tim (Ev.TIM.D0_LOCK + d)).regs =
      fieldsAt f.only z.regs := fun {z} =>
    (((State.clocks_ev rfl).trans State.clocks_putDomState).only hc).trans (State.fieldsAt_set (Fld.only_ne hst))
  unfold State.lockRuns
  dsimp only
  split_ifs <;> simp [hlock, State.only_enterAcquire hc hl hst, State.regs_setDom, Fld.only_ne hl]

/-- With no run yet, one measurement does not end ACQUIRE (R93). -/
theorem State.domState_lockRuns (hs : s.regsOk) (ha : s.domState d = DomS.acquire)
    (hrun : s.get (R.TIM.DOM_STAT.LOCK_RUN d) = 0) : (s.lockRuns d m).domState d = DomS.acquire := by
  have hy : ∀ r x, ((s.set (R.TIM.DOM_STAT.LOCK_RUN d) r).setDom d x).domState d = DomS.acquire := fun _ _ =>
    (State.get_set_ne hs domKey_ne).trans ha
  have hshort : ∀ (c : Prop) [Decidable c], (if c then 1 else 0) < 16 := fun c _ => by split <;> omega
  rw [State.lockRuns]
  dsimp only
  rw [hrun, if_neg (by simp [hshort]), if_neg (by simp [hy, DomS.acquire, DomS.locked])]
  exact hy _ _

/-! ### Measurements -/

/-- `s` at `t` with the path delay that a measurement of the domain `d` found. -/
def State.measured (s : State) (d t : Nat) : State :=
  ((s.tick t).set (R.TIM.DOM_DELAY.DELAY d) (Config.choice s.fresh)).draw

theorem State.get_measured (h : s.regsOk) (hf : f.key ≠ (R.TIM.DOM_DELAY.DELAY d).key) :
    (s.measured d t).get f = s.get f := State.get_set_ne (s := s.tick t) h hf

theorem State.canon_measured (h : s.Canon) : (s.measured d t).Canon := ⟨State.regsOk_set h.1, h.2⟩

theorem State.domState_measured (h : s.regsOk) : (s.measured d t).domState d = s.domState d :=
  State.get_measured h domKey_ne

theorem State.accepts_measured (hd : d < 2) (h : s.regsOk) : (s.measured d t).accepts d = s.accepts d := by
  have hport : (s.measured d t).get (R.TIM.DOM_CFG.PORT d) = s.get (R.TIM.DOM_CFG.PORT d) :=
    State.get_measured h domKey_ne
  have hmode : (s.measured d t).get R.ETH.ETH_CFG.MODE = s.get R.ETH.ETH_CFG.MODE :=
    State.get_measured h (by simp only [Fld.key, R.ETH.ETH_CFG.MODE, R.TIM.DOM_DELAY.DELAY]; omega)
  have hrole : (s.measured d t).role = s.role := rfl
  simp only [State.accepts, State.ethExists, State.domState_measured h, hport, hmode, hrole]

theorem State.exec_domMeas (hs : s.up) (hr : s.role = .sender) (hf : s.frozen B.tim = false) (hd : d < 2)
    (he : s.domState d = DomS.listen → -7 ≤ e ∧ e ≤ 0) :
    exec (.domMeas d w e t) s = .next ((s.measured d t).measureAt d (sgn 32 w * 4096) e false) := by
  have hskip : ¬ ((s.tick t).frozen B.tim ||
      (decide ((s.tick t).domState d = DomS.listen) && !(-7 ≤ e && e ≤ 0))) = true := by
    show ¬ (s.frozen B.tim || (decide (s.domState d = DomS.listen) && !(-7 ≤ e && e ≤ 0))) = true
    simpa [hf] using he
  refine (show execDomMeas d w e t s = _ from runIn_of_up hs hr).trans ?_
  rw [Nat.mod_eq_of_lt hd, State.domMeas, if_neg hskip]
  rfl

/-- What is not accepted is counted and does nothing else. -/
theorem State.measureAt_rejected (h : s.accepts d = false) {force : Bool} :
    s.measureAt d m e force = s.count (R.TIM.DOM_STAT.REJECTED d) := by
  simp [State.measureAt, State.measure, h]

theorem State.gives_domMeas_rejected (hs : s.up) (hr : s.role = .sender) (hf : s.frozen B.tim = false) (hd : d < 2)
    (ha : s.accepts d = false) (hl : s.domState d ≠ DomS.listen) :
    s.gives (.domMeas d w e t) fun u => u.get (R.TIM.DOM_STAT.REJECTED d) =
      min (s.get (R.TIM.DOM_STAT.REJECTED d) + 1) (2 ^ (R.TIM.DOM_STAT.REJECTED d).width - 1) := by
  have hz : (s.measured d t).regsOk := (State.canon_measured hs.2).1
  have hn : (s.measured d t).get (R.TIM.DOM_STAT.REJECTED d) = s.get (R.TIM.DOM_STAT.REJECTED d) :=
    State.get_measured hs.2.1 domKey_ne
  refine ⟨_, State.exec_domMeas hs hr hf hd fun h => absurd h hl, ?_⟩
  dsimp only
  rw [State.measureAt_rejected ((State.accepts_measured hd hs.2.1).trans ha), State.count, State.get_set_self hz, hn]
  exact Nat.mod_eq_of_lt (by simp only [R.TIM.DOM_STAT.REJECTED]; omega)

/-- `s` where the domain `d` is in ACQUIRE if it was in LISTEN or HOLDOVER (R93). -/
def State.readied (s : State) (d : Nat) : State :=
  if s.domState d = DomS.listen || s.domState d = DomS.holdover then s.enterAcquire d else s

theorem State.canon_readied (h : s.Canon) : (s.readied d).Canon := by
  unfold State.readied
  split
  · exact State.canon_enterAcquire h
  · exact h

theorem State.rho_readied : ((s.readied d).dom d).rho = (s.dom d).rho := by
  unfold State.readied
  split <;> simp

theorem State.get_readied (h : s.Canon) (hc : clockKey f.key = true) (hl : f.key ≠ (R.TIM.DOM_STAT.LOCK_RUN d).key)
    (hst : f.key ≠ (R.TIM.DOM_STAT.STATE d).key) : (s.readied d).get f = s.get f := by
  refine State.get_of_only (State.canon_readied h).1 h.1 ?_
  unfold State.readied
  split
  · exact State.only_enterAcquire hc hl hst
  · rfl

/-- What an accepted measurement makes of the domain before its runs are counted; `c` says whether wall time stepped. -/
def State.followed (s : State) (d : Nat) (m e : Int) (step c : Bool) : State :=
  ((s.readied d).filter d m e step).evIf c B.tim Ev.TIM.WALL_STEP

/-- After that an accepted measurement counts the runs; what a step of wall time launches leaves the domains alone. -/
theorem State.clocks_measureAt {force : Bool} (h : s.accepts d = true) :
    ∃ step c, (s.measureAt d m e force).SameClocks ((s.followed d m e step c).lockRuns d m) := by
  have hm : ∃ step c, (s.measure d m e force).SameClocks ((s.followed d m e step c).lockRuns d m) := by
    rw [State.measure, if_neg (by simp [h])]
    exact ⟨_, _, State.clocks_validCheck⟩
  obtain ⟨step, c, hm⟩ := hm
  refine ⟨step, c, ?_⟩
  unfold State.measureAt
  dsimp only
  split
  · exact State.clocks_stepLaunch.trans hm
  · exact hm

/-- Whether wall time stepped is only an event. -/
theorem State.clocks_followed {c : Bool} :
    (s.followed d m e step c).SameClocks ((s.readied d).filter d m e step) := State.clocks_evIf rfl

theorem State.canon_followed {c : Bool} (h : s.Canon) : (s.followed d m e step c).Canon :=
  Keep.canon (k := .all) (q := s.readied d) (by
    apply State.evIf_good <;> try simp
    apply State.filter_good <;> simp [Keep.refl (State.canon_readied h)])

/-- The filter moves the rate by `rateMove` within its bounds (R94). -/
theorem State.rho_filter : ((s.filter d m e step).dom d).rho =
    clampI rhoMax ((s.dom d).rho - rateMove m (s.get (R.TIM.DOM_LOOP.KI_SHIFT d)) e) :=
  congrArg Domain.rho State.dom_setDom

theorem State.rho_measureAt {force : Bool} (hc : s.Canon) (hd : d < 2) (h : s.accepts d = true) :
    ((s.measureAt d m e force).dom d).rho =
      clampI rhoMax ((s.dom d).rho - rateMove m (s.get (R.TIM.DOM_LOOP.KI_SHIFT d)) e) := by
  obtain ⟨step, c, hm⟩ := State.clocks_measureAt (m := m) (e := e) (force := force) h
  have hki : (s.readied d).get (R.TIM.DOM_LOOP.KI_SHIFT d) = s.get (R.TIM.DOM_LOOP.KI_SHIFT d) :=
    State.get_readied hc (clockKey_dom hd (by decide) (by decide) (by decide)) domKey_ne
      domKey_ne
  rw [hm.dom, State.rho_lockRuns, State.clocks_followed.dom, State.rho_filter, State.rho_readied, hki]

/-- The offset shown is the measurement, rounded to nanoseconds. -/
theorem State.offset_measureAt {force : Bool} (hc : s.Canon) (hd : d < 2) (h : s.accepts d = true)
    (hu : (s.measureAt d m e force).regsOk) :
    (s.measureAt d m e force).get (R.TIM.DOM_OFFSET.OFFSET d) = uns 32 (roundDiv m 4096) % 2 ^ 32 := by
  have hk := (clockKey_domFields hd).2.2.1
  obtain ⟨step, c, hm⟩ := State.clocks_measureAt (m := m) (e := e) (force := force) h
  exact State.get_of_only_set (z := (State.setDom _ d _).setI _ _) hu (State.regsOk_set (State.canon_readied hc).1)
    ((hm.only hk).trans ((State.only_lockRuns hk domKey_ne
      domKey_ne).trans (State.clocks_followed.only hk)))

theorem roundDiv_mul (x : Int) : roundDiv (x * 4096) 4096 = x := by
  unfold roundDiv
  split <;> omega

theorem uns_sgn {w : Nat} (h : w < 2 ^ 32) : uns 32 (sgn 32 w) = w := by
  unfold uns sgn
  split <;> omega

/-- An accepted measurement shows its offset and moves the rate (R94). -/
theorem State.domMeas_accepted (hs : s.up) (hd : d < 2) (hw : w < 2 ^ 32) (ha : s.accepts d = true)
    (he : exec (.domMeas d w e t) s = .next ((s.measured d t).measureAt d (sgn 32 w * 4096) e false)) :
    ((s.measured d t).measureAt d (sgn 32 w * 4096) e false).get (R.TIM.DOM_OFFSET.OFFSET d) = w ∧
      (((s.measured d t).measureAt d (sgn 32 w * 4096) e false).dom d).rho = clampI rhoMax ((s.dom d).rho -
        rateMove (sgn 32 w * 4096) (s.get (R.TIM.DOM_LOOP.KI_SHIFT d)) e) := by
  have hc : (s.measured d t).Canon := State.canon_measured hs.2
  have ha' : (s.measured d t).accepts d = true := (State.accepts_measured hd hs.2.1).trans ha
  have hki : (s.measured d t).get (R.TIM.DOM_LOOP.KI_SHIFT d) = s.get (R.TIM.DOM_LOOP.KI_SHIFT d) :=
    State.get_measured hs.2.1 domKey_ne
  constructor
  · rw [State.offset_measureAt hc hd ha' (State.regsOk_of_next hs he), roundDiv_mul, uns_sgn hw, Nat.mod_eq_of_lt hw]
  · rw [State.rho_measureAt hc hd ha', hki]
    rfl

theorem State.only_filter (hr : f.key ≠ (R.TIM.DOM_RATE.RATE d).key) (ho : f.key ≠ (R.TIM.DOM_OFFSET.OFFSET d).key) :
    fieldsAt f.only (s.filter d m e step).regs = fieldsAt f.only s.regs :=
  (State.fieldsAt_setI (Fld.only_ne ho)).trans ((State.fieldsAt_setI (Fld.only_ne hr)).trans (congrArg _ State.regs_setDom))

theorem State.get_followed {c : Bool} (h : s.Canon) (hc : clockKey f.key = true)
    (hr : f.key ≠ (R.TIM.DOM_RATE.RATE d).key) (ho : f.key ≠ (R.TIM.DOM_OFFSET.OFFSET d).key) :
    (s.followed d m e step c).get f = (s.readied d).get f :=
  State.get_of_only (State.canon_followed h).1 (State.canon_readied h).1
    ((State.clocks_followed.only hc).trans (State.only_filter hr ho))

/-- A measurement that is accepted in LISTEN starts ACQUIRE (R93). -/
theorem State.domState_measureAt {force : Bool} (hc : s.Canon) (hd : d < 2) (h : s.accepts d = true)
    (hl : s.domState d = DomS.listen) (hu : (s.measureAt d m e force).regsOk) :
    (s.measureAt d m e force).domState d = DomS.acquire := by
  obtain ⟨hks, hkl, -⟩ := clockKey_domFields hd
  obtain ⟨step, c, hm⟩ := State.clocks_measureAt (m := m) (e := e) (force := force) h
  have hready : s.readied d = s.enterAcquire d := if_pos (by simp [hl])
  have hx := State.canon_enterAcquire (d := d) hc
  have hz : (s.clearRuns d).regsOk := State.regsOk_set hc.1
  have hf := State.canon_followed (d := d) (m := m) (e := e) (step := step) (c := c) hc
  have hstate : (s.followed d m e step c).domState d = DomS.acquire :=
    (State.get_followed hc hks domKey_ne domKey_ne).trans
      (hready ▸ State.domState_of_clocks hd (by decide) hx.1 hz State.clocks_enterAcquire)
  have hrun : (s.followed d m e step c).get (R.TIM.DOM_STAT.LOCK_RUN d) = 0 := by
    rw [State.get_followed hc hkl domKey_ne domKey_ne, hready]
    exact State.get_of_only_set (v := 0) (z := s.setDom d { s.dom d with outRun := 0 }) hx.1 hc.1
      ((State.clocks_enterAcquire.only hkl).trans (State.fieldsAt_set (Fld.only_ne domKey_ne)))
  exact (State.get_of_only hu (State.canon_lockRuns hf).1 (hm.only hks)).trans (State.domState_lockRuns hf.1 hstate hrun)

theorem State.gives_domMeas_listen (hs : s.up) (hr : s.role = .sender) (hf : s.frozen B.tim = false) (hd : d < 2)
    (hw : w < 2 ^ 32) (he : -7 ≤ e) (he' : e ≤ 0) (hl : s.domState d = DomS.listen) (ha : s.accepts d = true) :
    s.gives (.domMeas d w e t) fun u => u.domState d = DomS.acquire ∧ u.get (R.TIM.DOM_OFFSET.OFFSET d) = w ∧
      (u.dom d).rho = clampI rhoMax ((s.dom d).rho - rateMove (sgn 32 w * 4096) (s.get (R.TIM.DOM_LOOP.KI_SHIFT d)) e) := by
  have hx := State.exec_domMeas (w := w) (t := t) hs hr hf hd fun _ => ⟨he, he'⟩
  exact ⟨_, hx, State.domState_measureAt (State.canon_measured hs.2) hd ((State.accepts_measured hd hs.2.1).trans ha)
    ((State.domState_measured hs.2.1).trans hl) (State.regsOk_of_next hs hx), State.domMeas_accepted hs hd hw ha hx⟩

theorem State.gives_domMeas_followed (hs : s.up) (hr : s.role = .sender) (hf : s.frozen B.tim = false) (hd : d < 2)
    (hw : w < 2 ^ 32) (h : s.domState d = DomS.acquire ∨ s.domState d = DomS.locked ∨ s.domState d = DomS.holdover) :
    s.gives (.domMeas d w e t) fun u => u.get (R.TIM.DOM_OFFSET.OFFSET d) = w ∧
      (u.dom d).rho = clampI rhoMax ((s.dom d).rho - rateMove (sgn 32 w * 4096) (s.get (R.TIM.DOM_LOOP.KI_SHIFT d)) e) := by
  have ha : s.accepts d = true := by
    rw [State.accepts]
    rcases h with h | h | h <;> simp [h]
  have hl : s.domState d ≠ DomS.listen := by
    rcases h with h | h | h <;> rw [h] <;> decide
  have hx := State.exec_domMeas (w := w) (e := e) (t := t) hs hr hf hd fun h => absurd h hl
  exact ⟨_, hx, State.domMeas_accepted hs hd hw ha hx⟩

/-! ### Enabling, disabling and losing a domain -/

/-- A command whose effect leaves the domains of `z` with `v` in STATE leaves EN as `z` has it and the state `v`. -/
theorem State.enable_of_clocks (hd : d < 2) (hv : v < 8) (hs : s.regsOk) (hz : z.regsOk)
    (h : s.SameClocks (z.set (R.TIM.DOM_STAT.STATE d) v)) :
    s.get (R.TIM.DOM_CFG.EN d) = z.get (R.TIM.DOM_CFG.EN d) ∧ s.domState d = v := by
  obtain ⟨-, -, -, -, hen⟩ := clockKey_domFields hd
  exact ⟨State.get_of_only hs hz ((h.only hen).trans
    (State.fieldsAt_set (Fld.only_ne domKey_ne))), State.domState_of_clocks hd hv hs hz h⟩

theorem State.gives_domainEnable (hs : s.up) (hd : d < 2) (h : s.domState d = DomS.disabled) :
    s.gives (.domainEnable d t) fun u => u.get (R.TIM.DOM_CFG.EN d) = 1 ∧ u.domState d = DomS.listen := by
  have hx : ((s.tick t).set (R.TIM.DOM_CFG.EN d) 1).regsOk := State.regsOk_set (s := s.tick t) hs.2.1
  have hoff : ((s.tick t).set (R.TIM.DOM_CFG.EN d) 1).domState d = DomS.disabled :=
    (State.get_set_ne (s := s.tick t) hs.2.1 domKey_ne).trans h
  have he : exec (.domainEnable d t) s = .next (((s.tick t).set (R.TIM.DOM_CFG.EN d) 1).enterListen d) := by
    refine (show execDomainEnable d t s = _ from run_of_up hs).trans ?_
    rw [Nat.mod_eq_of_lt hd, State.domEnable]
    exact congrArg _ (if_pos hoff)
  obtain ⟨x, hlisten⟩ := State.clocks_enterListen (s := (s.tick t).set (R.TIM.DOM_CFG.EN d) 1) (d := d)
  obtain ⟨hen, hstate⟩ := State.enable_of_clocks hd (by decide) (State.regsOk_of_next hs he) (State.regsOk_setDom.2 hx) hlisten
  exact ⟨_, he, hen.trans (State.get_set_self (s := s.tick t) hs.2.1), hstate⟩

theorem State.gives_domainDisable (hs : s.up) (hd : d < 2) :
    s.gives (.domainDisable d t) fun u => u.get (R.TIM.DOM_CFG.EN d) = 0 ∧ u.domState d = DomS.disabled := by
  have he : exec (.domainDisable d t) s = .next (((s.tick t).set (R.TIM.DOM_CFG.EN d) 0).putDomState d DomS.disabled) := by
    refine (show execDomainDisable d t s = _ from run_of_up hs).trans ?_
    rw [Nat.mod_eq_of_lt hd]
    rfl
  obtain ⟨hen, hstate⟩ := State.enable_of_clocks hd (by decide) (State.regsOk_of_next hs he)
    (State.regsOk_set (s := s.tick t) hs.2.1) State.clocks_putDomState
  exact ⟨_, he, hen.trans (State.get_set_self (s := s.tick t) hs.2.1), hstate⟩

/-! ### Switching the wall domain -/

section Events
variable {b k target : Nat} {r : Int}

/-- Fields that a switch writes, other than its events. -/
theorem State.only_showWall (hh : f.key ≠ R.TIM.TIM_STAT.HOLDOVER.key) (hw : f.key ≠ R.TIM.TIM_CTRL.WALL_SEL.key)
    (hi : f.key ≠ R.TIM.LINE_TIME_CFG.INTERVAL_EXP.key) : fieldsAt f.only s.showWall.regs = fieldsAt f.only s.regs := by
  simp [State.showWall, Fld.only_ne hh, Fld.only_ne hw, Fld.only_ne hi]

theorem State.only_validCheck (h : f.key ≠ R.TIM.TIM_STAT.TIME_VALID.key) :
    fieldsAt f.only s.validCheck.regs = fieldsAt f.only s.regs := by
  simp [State.validCheck, Fld.only_ne h]

theorem State.canon_showWall (h : s.Canon) : s.showWall.Canon :=
  Keep.canon (k := .all) (q := s) (by apply State.showWall_good <;> simp [Keep.refl h])

theorem State.canon_setWallDom (h : s.Canon) : (s.setWallDom target r).Canon :=
  Keep.canon (k := .all) (q := s) (by apply State.setWallDom_good <;> simp [Keep.refl h])

/-- `s` with `target` as its wall domain and the residual `r`, before the event. -/
def State.pointWall (s : State) (target : Nat) (r : Int) : State :=
  (State.set { s.set R.TIM.TIM_STAT.WALL_DOM target with tim := { s.tim with residual := r, resAt := s.frc } }
    R.TIM.TIM_STAT.SLEWING (bit (r != 0))).showWall

theorem State.setWallDom_eq : s.setWallDom target r = ((s.pointWall target r).ev B.tim Ev.TIM.WALL_SWITCH).validCheck := rfl

theorem State.canon_pointWall (h : s.Canon) : (s.pointWall target r).Canon :=
  State.canon_showWall ⟨State.regsOk_set (State.regsOk_set h.1), h.2⟩

theorem State.pend_pointWall : fieldsAt (R.PG.EVT_PEND B.tim).only (s.pointWall target r).regs =
    fieldsAt (R.PG.EVT_PEND B.tim).only s.regs := by
  rw [State.pointWall, State.only_showWall (by decide) (by decide) (by decide), State.fieldsAt_set (by decide)]
  exact State.fieldsAt_set (by decide)

theorem State.raised_of_only (hs : s.regsOk) (hz : z.regsOk)
    (e : fieldsAt (R.PG.EVT_PEND b).only s.regs = fieldsAt (R.PG.EVT_PEND b).only z.regs) : s.raised b k = z.raised b k := by
  rw [State.raised, State.raised, State.get_of_only hs hz e]

theorem State.wallDom_setWallDom (h : s.Canon) (ht : target < 2) : (s.setWallDom target r).wallDom = target := by
  refine (State.get_of_only_set (v := target) (State.canon_setWallDom h).1 h.1 ?_).trans (Nat.mod_eq_of_lt ht)
  rw [State.setWallDom_eq, State.only_validCheck (by decide), State.fieldsAt_ev (by decide), State.pointWall,
    State.only_showWall (by decide) (by decide) (by decide), State.fieldsAt_set (by decide)]

/-- A switch of the wall domain takes back no event. -/
theorem State.raised_setWallDom (h : s.Canon) (hk : k < 32) (hr : s.raised B.tim k = true) :
    (s.setWallDom target r).raised B.tim k = true := by
  have hc := State.canon_setWallDom (target := target) (r := r) h
  have hx := State.canon_pointWall (target := target) (r := r) h
  have hev := State.raised_ev (c := B.tim) (j := Ev.TIM.WALL_SWITCH) hx.1 hk
    ((State.raised_of_only hx.1 h.1 State.pend_pointWall).trans hr)
  exact (State.raised_of_only hc.1 (State.regsOk_ev hx.1) (State.only_validCheck (by decide))).trans hev

/-- With no force asked for, a switch beyond the limit is only reported (R98). -/
theorem State.switchWall_far (ht : target ≠ s.wallDom) (hg : s.switchMax.natAbs < (s.wallGap target).natAbs) :
    s.switchWall target false = s.ev B.tim Ev.TIM.DOMAIN_FAR := by
  simp [State.switchWall, ht, hg]

theorem State.switchWall_near {force : Bool} (ht : target ≠ s.wallDom)
    (hg : (s.wallGap target).natAbs ≤ s.switchMax.natAbs) :
    s.switchWall target force = s.setWallDom target (s.wallGap target) := by
  simp [State.switchWall, ht, hg]

theorem State.raised_switchWall (h : s.Canon) (hk : k < 32) (hr : s.raised B.tim k = true) :
    (s.switchWall target false).raised B.tim k = true := by
  by_cases ht : target = s.wallDom
  · rwa [State.switchWall, if_pos ht]
  · rcases Nat.lt_or_ge s.switchMax.natAbs (s.wallGap target).natAbs with hg | hg
    · rw [State.switchWall_far ht hg]
      exact State.raised_ev h.1 hk hr
    · rw [State.switchWall_near ht hg]
      exact State.raised_setWallDom h hk hr

theorem State.canon_ev (h : s.Canon) : (s.ev b k).Canon :=
  Keep.canon (k := .all) (q := s) (by apply State.ev_good <;> simp [Keep.refl h])

theorem State.raised_enterHoldover (h : s.Canon) (hd : d < 2) :
    (s.enterHoldover d).raised B.tim (Ev.TIM.D0_HOLDOVER + d) = true := by
  have hk : Ev.TIM.D0_HOLDOVER + d < 32 := by simp only [Ev.TIM.D0_HOLDOVER]; omega
  have hp := State.canon_putDomState (d := d) (v := DomS.holdover) h
  have hr := State.raised_ev_self hp.1 (State.live_tim _) hk
  unfold State.enterHoldover
  dsimp only
  split
  · exact State.raised_switchWall (State.canon_ev hp) hk hr
  · exact hr

/-- An active domain that is lost goes to HOLDOVER (R93). -/
theorem State.gives_domainLossTimeout (hs : s.up) (hf : s.frozen B.tim = false) (hd : d < 2)
    (h : s.domState d = DomS.acquire ∨ s.domState d = DomS.locked) :
    s.gives (.domainLossTimeout d t) fun u => u.domState d = DomS.holdover ∧ u.raised B.tim (Ev.TIM.D0_HOLDOVER + d) := by
  have hc : (s.tick t).Canon := hs.2
  have hlost : (!(s.tick t).frozen B.tim && ((s.tick t).domState d = DomS.acquire || (s.tick t).domState d = DomS.locked)) =
      true := by
    show (!s.frozen B.tim && (s.domState d = DomS.acquire || s.domState d = DomS.locked)) = true
    simpa [hf] using h
  have he : exec (.domainLossTimeout d t) s = .next ((s.tick t).enterHoldover d) := by
    refine (show execDomainLossTimeout d t s = _ from run_of_up hs).trans ?_
    rw [Nat.mod_eq_of_lt hd, State.domLost, if_pos hlost]
  exact ⟨_, he, State.domState_of_clocks hd (by decide) (State.regsOk_of_next hs he) hc.1 State.clocks_enterHoldover,
    State.raised_enterHoldover hc hd⟩

/-- Without force no step of wall time launches anything. -/
theorem State.requestWall_unforced : s.requestWall target false = s.switchWall target false := by
  simp [State.requestWall, State.switchSteps]

theorem State.wallDom_requestWall (h : s.Canon) (ht : target < 2) (hne : target ≠ s.wallDom)
    (hg : (s.wallGap target).natAbs ≤ s.switchMax.natAbs) : (s.requestWall target false).wallDom = target := by
  rw [State.requestWall_unforced, State.switchWall_near hne hg, State.wallDom_setWallDom h ht]

/-- The other domain is another one. -/
theorem State.other_ne (hw : s.wallDom < 2) : 1 - s.wallDom ≠ s.wallDom := by omega

theorem State.gives_switchNow_near (hs : s.up) (hw : s.wallDom < 2)
    (hg : ((s.tick t).wallGap (1 - s.wallDom)).natAbs ≤ s.switchMax.natAbs) :
    s.gives (.switchNow false t) fun u => u.wallDom = 1 - s.wallDom :=
  ⟨_, show execSwitchNow false t s = _ from run_of_up hs,
    State.wallDom_requestWall (s := s.tick t) hs.2 (show 1 - s.wallDom < 2 by omega) (State.other_ne hw) hg⟩

theorem State.gives_switchNow_far (hs : s.up) (hw : s.wallDom < 2)
    (hg : s.switchMax.natAbs < ((s.tick t).wallGap (1 - s.wallDom)).natAbs) :
    s.gives (.switchNow false t) fun u => u.wallDom = s.wallDom ∧ u.raised B.tim Ev.TIM.DOMAIN_FAR := by
  have hz : (s.tick t).regsOk := hs.2.1
  have he : exec (.switchNow false t) s = .next ((s.tick t).ev B.tim Ev.TIM.DOMAIN_FAR) := by
    refine (show execSwitchNow false t s = _ from run_of_up hs).trans ?_
    rw [State.requestWall_unforced]
    exact congrArg _ (State.switchWall_far (State.other_ne (s := s.tick t) hw) hg)
  exact ⟨_, he, State.get_ev_ne hz (by decide), State.raised_ev_self hz (State.live_tim _) (by decide)⟩

theorem State.gives_wallSelWrite (hs : s.up) (hd : d < 2) (hne : d ≠ s.wallDom)
    (hg : ((s.tick t).wallGap d).natAbs ≤ s.switchMax.natAbs) :
    s.gives (.wallSelWrite d false t) fun u => u.wallDom = d := by
  refine ⟨_, show execWallSelWrite d false t s = _ from run_of_up hs, ?_⟩
  rw [Nat.mod_eq_of_lt hd]
  exact State.wallDom_requestWall (s := s.tick t) hs.2 hd hne hg

/-- The slew ends when nothing of the residual is left (R98). -/
theorem State.gives_slewEnd (hs : s.up) (hf : s.frozen B.tim = false) (hon : s.on R.TIM.TIM_STAT.SLEWING = true)
    (hr : (s.tick t).residualAt (max s.frc t) = 0) :
    s.gives (.slewEnd t) fun u => u.get R.TIM.TIM_STAT.SLEWING = 0 ∧ u.tim.residual = 0 := by
  have hend : (!(s.tick t).frozen B.tim && (s.tick t).on R.TIM.TIM_STAT.SLEWING &&
      (s.tick t).residualAt (s.tick t).frc = 0) = true := by
    show (!s.frozen B.tim && s.on R.TIM.TIM_STAT.SLEWING && decide ((s.tick t).residualAt (max s.frc t) = 0)) = true
    simp [hf, hon, hr]
  refine ⟨_, show execSlewEnd t s = _ from run_of_up hs, ?_⟩
  rw [State.slewEnd, if_pos hend]
  exact ⟨State.get_set_self (s := s.tick t) hs.2.1, rfl⟩

end Events

end Domains

/-- Settles O23: each clause reads one field of the domain or of the wall domain after the command. -/
theorem domains : Obligations.Domains := by
  unfold Obligations.Domains
  exact ⟨fun _ _ _ _ _ => State.gives_domMeas_rejected,
    fun _ _ _ _ _ hs hr hf hd hw he he' hl ha _ => State.gives_domMeas_listen hs hr hf hd hw he he' hl ha,
    fun _ _ _ _ _ => State.gives_domMeas_followed, fun _ _ _ => State.gives_domainEnable,
    fun _ _ _ => State.gives_domainDisable, fun _ _ _ => State.gives_domainLossTimeout, fun _ _ => State.gives_switchNow_near,
    fun _ _ => State.gives_switchNow_far, fun _ _ _ => State.gives_wallSelWrite, fun _ _ => State.gives_slewEnd⟩

end Sys2Proof.Machine

/-!
Ingest (spec/05_ingest.md): under which number ING stores the first packet of a slot, and what an enable asks of the ING page.
-/
namespace Sys2Proof.Machine

/-! ### The number of a slot's first packet -/

/-- What the command of a waiting packet does on a running sender (R138). -/
theorem exec_ingPacket_of_up {s : State} (hs : s.up) (hr : s.role = .sender) {t : Nat} :
    exec (.ingPacket t) s = .next ((s.tick t).ingNext.followAdvance) :=
  show execIngPacket t s = _ from runIn_of_up hs hr

/-- ING takes the packet that waits first. -/
theorem State.ingNext_of_inbox {s : State} {k l : Nat} {r : RtpPkt} {rest : List (Nat × Nat × RtpPkt)}
    (h : s.ing.inbox = (k, l, r) :: rest) :
    s.ingNext = ({ s with ing := { s.ing with inbox := rest } } : State).ingPacket k l r := by
  simp only [State.ingNext, h]

/-- The measured rate of a leg (R137) touches nothing that numbers are counted from. -/
theorem LegSt.metered_eq {g : LegSt} {now : Nat} {r : RtpPkt} :
    g.metered now r = { g with
      since := if g.since + ancWindow ≤ now then now else g.since
      bits := if g.since + ancWindow ≤ now then r.ancBits else g.bits + r.ancBits } := by
  unfold LegSt.metered
  split <;> rfl

/-- The first number of a slot is extended by a whole turn of the counter, so that copies before it have numbers too. -/
theorem unwrapSeq_none {q : Nat} : unwrapSeq none q = q + 2 ^ 32 := rfl

/-- A video packet without payload: sequence number 5, timestamp 7, no marker. -/
def plainPacket : RtpPkt := ⟨5, 7, false, 96, [], [], true⟩

/-- A sender with ING enabled, slot 1 enabled with leg A, nothing received yet, and one packet waiting for that leg. -/
def firstPacketWaits : State :=
  [(R.PG.EN B.ing, 1), (R.FLOW.FLOW_CTRL.EN 1, 1), (R.FLOW.FLOW_CTRL.LEGA_EN 1, 1)].foldl (fun s e => s.set e.1 e.2)
    { ing := { inbox := [(1, 0, plainPacket)] } }

theorem firstPacketWaits_up : firstPacketWaits.up :=
  ⟨by decide +kernel, show keysRise firstPacketWaits.regs by decide +kernel,
    show keysRise firstPacketWaits.force by decide +kernel, show Memory.wf zeroB firstPacketWaits.mem.dram by decide +kernel⟩

/-- The one frame that this packet begins holds it under its extended number. -/
theorem firstPacketWaits_stored :
    (((firstPacketWaits.tick 0).ingNext.followAdvance).slot 1).recv.map (·.a) = [[(unwrapSeq none plainPacket.seq, 0)]] := by
  have hwaits : (firstPacketWaits.tick 0).ing.inbox = [(1, 0, plainPacket)] := by decide +kernel
  rw [State.ingNext_of_inbox hwaits]
  simp -zeta only [State.ingPacket, LegSt.metered_eq]
  decide +kernel

/-- Refutes O26: its clause of a frame's first packet says that the frame holds the packet under the sequence number it carries. ING
stores the extended number (log entry 116): the packet with number 5 stands as 5 + 2^32. -/
theorem not_ethernetPorts : ¬ Obligations.EthernetPorts := by
  unfold Obligations.EthernetPorts
  rintro ⟨-, -, -, -, -, -, -, -, hfirst, -⟩
  obtain ⟨u, hu, f, hrecv, -, hnumber, -⟩ := hfirst firstPacketWaits 0 1 plainPacket [] firstPacketWaits_up
    (by decide +kernel) (by decide +kernel) (by decide) (by decide +kernel) (by decide +kernel) (by decide +kernel)
    (by decide +kernel) (by decide +kernel) rfl (by decide) rfl rfl (by decide +kernel) (by decide +kernel)
    (by decide +kernel) (by decide +kernel) (by decide +kernel) (by decide +kernel) (by decide +kernel) (by decide +kernel)
  rw [exec_ingPacket_of_up firstPacketWaits_up (by decide +kernel)] at hu
  cases hu
  have hstored := firstPacketWaits_stored
  rw [hrecv, List.map_singleton, hnumber, unwrapSeq_none] at hstored
  exact absurd hstored (by decide)

/-! ### An enable while ING is disabled -/

/-- What the command of an enable does on a running sender (R135). -/
theorem exec_flowEnable_of_up {s : State} (hs : s.up) (hr : s.role = .sender) {k v t : Nat} :
    exec (.flowEnable k v t) s = .next (((s.tick t).flowCtrlWrite k (v / 2 * 2 + 1)).followEval) :=
  show execFlowEnable k v t s = _ from runIn_of_up hs hr

/-- A sender after reset with a frame-sync region of 1 GiB; its ING page is still disabled (R70). -/
def ingDisabled : State := ({} : State).set R.ING.FS_SIZE.MIB 1024

theorem ingDisabled_up : ingDisabled.up :=
  ⟨by decide +kernel, show keysRise ingDisabled.regs by decide +kernel, show keysRise ingDisabled.force by decide +kernel,
    show Memory.wf zeroB ingDisabled.mem.dram by decide +kernel⟩

/-- Slot 2 written with EN and LEGA_EN passes every check of Table 5-4, none of which asks for the ING page, and waits for its
flow. -/
theorem ingDisabled_waits : (((ingDisabled.tick 0).flowCtrlWrite 2 3).followEval).flow 2 = Flow.wait := by decide +kernel

/-- Refutes O27: its clause of an enable while ING is disabled says that every such enable is refused. With room for its buffers and
one leg the slot passes the checks of R135, takes its enable and waits. -/
theorem not_flowSlots : ¬ Obligations.FlowSlots := by
  unfold Obligations.FlowSlots
  rintro ⟨-, -, -, -, -, hrefused, -⟩
  obtain ⟨u, hu, -, hflow⟩ := hrefused ingDisabled 2 2 0 ingDisabled_up (by decide +kernel) (by decide) (by decide +kernel)
    (by decide +kernel)
  rw [exec_flowEnable_of_up ingDisabled_up (by decide +kernel)] at hu
  cases hu
  exact absurd (ingDisabled_waits.symm.trans hflow) (by decide)

end Sys2Proof.Machine

/-!
Canvas mapping (spec/06_canvas_mapping.md): how OTG composes a frame of one pixel, and what the errors of its reads leave in
HEALTH.TX.
-/
namespace Sys2Proof.Machine

-- One kernel evaluation at a time: started side by side they need more threads than memory allows.
set_option Elab.async false

/-! ### What a frame start leaves of HEALTH.TX -/

section Health
variable {s : State} {b k n p : Nat} {K : Nat → Bool}

/-- What the command of a frame start does on a running sender (R200). -/
theorem exec_otgFrameStart_of_up {t : Nat} (hs : s.up) (hr : s.role = .sender) :
    exec (.otgFrameStart t) s = .next (s.tick t).otgStart :=
  show execOtgFrameStart t s = _ from runIn_of_up hs hr

/-- OTG has begun frame `n`, which neither is dark nor follows a flow; nothing of it is composed yet (R200). -/
def State.otgBegun (s : State) (n : Nat) : State :=
  let x := s.set R.RDN.HEALTH.TX s.healthWord
  let y := { x with otg := {
    frame := some n, time := (x.depTime n).getD x.wall, views := s.modeCur.views + 1, codA := s.modeCur.codA
    codB := s.modeCur.codB, health := x.get R.RDN.HEALTH.TX, relief := x.srcRelief, dark := false, follow := false
    shares := [] } }
  ((y.set R.OTG.OTG_STAT.ROUND_A 0).set R.OTG.OTG_STAT.ROUND_B 0).set R.OTG.OTG_STAT.VIEW 0

/-- A frame that is not dark and does not follow a flow is composed as it begins. -/
theorem State.otgStart_eq (hn : s.dep.last = some n) (hl : s.live B.otg = true) (he : s.enabled B.otg = true)
    (hsafe : s.on R.FWU.FWU_STAT.SAFE = false) (hf : s.frozen B.otg = false) (hd : s.frameDark n = false)
    (ht : s.modeCur.timing = 0) : s.otgStart = (s.otgBegun n).composeStart.composeFrame n := by
  simp [State.otgStart, State.otgBegun, hn, hl, he, hsafe, hf, hd, ht]

theorem State.fieldsAt_poison {source a : Nat} (hp : K (R.PG.POISON_SEEN b).key = false)
    (h : ∀ f ∈ errFields b, K f.key = false) : fieldsAt K (s.poison b source a).regs = fieldsAt K s.regs := by
  simp [State.poison, State.fieldsAt_err h, h (R.PG.EVT_PEND b) (by simp [errFields]), hp]

theorem State.fieldsAt_portFrameEv {c : Bool} (h : K (R.PG.EVT_PEND b).key = false) :
    fieldsAt K (s.portFrameEv p c b k).regs = fieldsAt K s.regs := by
  simp [State.portFrameEv, h]

theorem State.fieldsAt_framePoison {l : List Nat} (hp : K (R.PG.POISON_SEEN b).key = false)
    (h : ∀ f ∈ errFields b, K f.key = false) : fieldsAt K (s.framePoison b l).regs = fieldsAt K s.regs := by
  cases l with
  | nil => rfl
  | cons a l => simp [State.framePoison, State.fieldsAt_poison hp h]

/-- HEALTH.TX lies in no page header. -/
theorem healthKey_header (hb : b % 0x1000 = 0) : (∀ f ∈ errFields b, R.RDN.HEALTH.TX.only f.key = false) ∧
    R.RDN.HEALTH.TX.only (R.PG.EVT_PEND b).key = false ∧ R.RDN.HEALTH.TX.only (R.PG.POISON_SEEN b).key = false := by
  have off : ∀ o l w r, o < 0x10C → l < 32 → R.RDN.HEALTH.TX.only (Fld.key ⟨b + o, l, w, r⟩) = false := by
    intro o l w r ho hl
    simp only [Fld.only, beq_eq_false_iff_ne, Fld.key, R.RDN.HEALTH.TX]
    omega
  simp only [errFields, List.forall_mem_cons, List.not_mem_nil, false_implies, implies_true, and_true]
  and_intros <;> exact off _ _ _ _ (by decide) (by decide)

/-- The counters and events of a row that do not depend on its reads (R158, R160, R181). -/
def State.rowCounted (s : State) (a : Tally) : State :=
  (((((s.count R.MAP.OUTSIDE_CNT.COUNT a.outside).count R.MAP.DEGEN_CNT.COUNT a.degen).frameEv (a.degen != 0) B.map
    Ev.MAP.DEGENERATE).count R.CMP.SKIP_CNT.COUNT a.skip).count R.CMP.EXTEND_CNT.COUNT a.ext).frameEv (a.skip + a.ext != 0)
    B.cmp Ev.CMP.OVERLAP

theorem State.health_framePoison {l : List Nat} (hb : b % 0x1000 = 0) :
    fieldsAt R.RDN.HEALTH.TX.only (s.framePoison b l).regs = fieldsAt R.RDN.HEALTH.TX.only s.regs :=
  State.fieldsAt_framePoison (healthKey_header hb).2.2 (healthKey_header hb).1

theorem State.health_portFrameEv {c : Bool} (hb : b % 0x1000 = 0) :
    fieldsAt R.RDN.HEALTH.TX.only (s.portFrameEv p c b k).regs = fieldsAt R.RDN.HEALTH.TX.only s.regs :=
  State.fieldsAt_portFrameEv (healthKey_header hb).2.1

theorem State.health_readLines {pr : Probe} :
    fieldsAt R.RDN.HEALTH.TX.only (s.readLines n pr).regs = fieldsAt R.RDN.HEALTH.TX.only s.regs := by
  simp only [State.readLines, State.frameEv]
  rw [State.health_portFrameEv rfl, State.fieldsAt_count rfl]

/-- Once the words of a row are read, its effects leave HEALTH.TX alone. -/
theorem State.health_applyTally {a : Tally} {errs : List Nat} :
    fieldsAt R.RDN.HEALTH.TX.only (s.applyTally n p a errs).regs =
      fieldsAt R.RDN.HEALTH.TX.only ((s.rowCounted a).readWords a.probe).regs := by
  have hbound : R.RDN.HEALTH.TX.only (if p = 0 then R.KLC.BOUND_CNT.A else R.KLC.BOUND_CNT.B).key = false := by
    split <;> rfl
  have hblock : R.RDN.HEALTH.TX.only (if p = 0 then R.KLC.BLOCK_CNT_A.COUNT else R.KLC.BLOCK_CNT_B.COUNT).key = false := by
    split <;> rfl
  simp only [State.applyTally]
  rw [State.health_portFrameEv rfl, State.fieldsAt_count hbound, State.fieldsAt_count hblock, State.health_framePoison rfl,
    State.health_framePoison rfl, State.health_readLines]
  rfl

theorem State.health_composeEnd :
    fieldsAt R.RDN.HEALTH.TX.only s.composeEnd.regs = fieldsAt R.RDN.HEALTH.TX.only s.regs := by
  simp only [State.composeEnd]
  rw [State.fieldsAt_count rfl]

/-- A round past the tallest card of the view composes nothing. -/
theorem State.regs_composeRound_past {force : Bool} (h : s.viewRounds s.otg.next.1 ≤ s.otg.next.2) :
    (s.composeRound n force).regs = s.regs := by
  simp [State.composeRound, h]

/-- A refused read only logs its error. -/
theorem State.dramRead_refused {port a code page : Nat} (h : s.route a = .refuse code page) :
    (s.dramRead port a).1 = s.dramErr page code port a 0 := by
  simp only [State.dramRead, h]

/-- A row that needs one new word, and nothing anew, reads that word once (R165). -/
theorem State.readWords_single {pr : Probe} {w : Nat}
    (hw : pr.words.eraseDups.filter (fun w => !s.otg.words.contains w) = [w]) (hr : refetched pr.rows = 0) :
    s.readWords pr = (({ s with otg := { s.otg with words := s.otg.words ++ [w] } } : State).dramRead 1 w).1 := by
  simp only [State.readWords, hw, hr, if_pos, List.foldl_cons, List.foldl_nil]

theorem State.wall_of_settled (h : s.tim.residual = 0) : s.wall = (s.dom s.wallDom).timeAt (16 * s.frc) := by
  simp [State.wall, State.wallAt, State.residualAt, h]

/-- The log entry that is written next takes the time of the error, and the register file stays sorted. -/
theorem State.parLog_time {addr port ch sram array code bytes : Nat} (h : s.regsOk) :
    (s.parLog addr port ch sram array code bytes).regsOk ∧
      (s.parLog addr port ch sram array code bytes).get (R.LOG.LOG_TIME_HI.NS (s.get R.PAR.LOG_STAT.NEXT)) =
        (s.wall / 65536).toNat / 2 ^ 32 % 2 ^ 32 := by
  have hoff : ∀ i, (R.LOG.LOG_TIME_HI.NS i).key ≠ R.PAR.LOG_STAT.TOTAL.key ∧
      (R.LOG.LOG_TIME_HI.NS i).key ≠ R.PAR.LOG_STAT.NEXT.key ∧ (R.LOG.LOG_TIME_HI.NS i).key ≠ R.PAR.LOG_STAT.WRAPPED.key := by
    intro i
    simp only [Fld.key, R.LOG.LOG_TIME_HI.NS, R.PAR.LOG_STAT.TOTAL, R.PAR.LOG_STAT.NEXT, R.PAR.LOG_STAT.WRAPPED]
    omega
  unfold State.parLog
  extract_lets k w s₁ s₂ s₃ s₄
  obtain ⟨htotal, hnext, hwrapped⟩ := hoff k
  have h₁ : s₁.regsOk := State.regsOk_set (State.regsOk_set (State.regsOk_set h))
  have h₂ : s₂.regsOk := State.regsOk_set (State.regsOk_set (State.regsOk_set h₁))
  have hlo : ((s₂.set (R.LOG.LOG_INFO.CODE k) code).set (R.LOG.LOG_INFO.BYTES k) bytes).regsOk :=
    State.regsOk_set (State.regsOk_set h₂)
  have h₃ : s₃.regsOk := State.regsOk_set (State.regsOk_set hlo)
  have htime : s₃.get (R.LOG.LOG_TIME_HI.NS k) = w / 2 ^ 32 % 2 ^ 32 := State.get_set_self (State.regsOk_set hlo)
  have h₄ : s₄.regsOk ∧ s₄.get (R.LOG.LOG_TIME_HI.NS k) = s₃.get (R.LOG.LOG_TIME_HI.NS k) := by
    simp only [s₄]
    split
    · exact ⟨State.regsOk_set h₃, State.get_set_ne h₃ hwrapped⟩
    · exact ⟨h₃, rfl⟩
  refine ⟨State.regsOk_set (State.regsOk_set h₄.1), ?_⟩
  rw [State.count, State.get_set_ne (State.regsOk_set h₄.1) htotal, State.get_set_ne h₄.1 hnext, h₄.2, htime]

end Health

/-- A field that is not listed reads its reset value. -/
theorem lookupD_default (l : List (Nat × Nat)) (k d e : Nat) : lookupD l k d = lookupD l k e ∨ lookupD l k d = d := by
  induction l with
  | nil => exact .inr rfl
  | cons x l ih =>
    unfold lookupD
    split_ifs
    · exact .inl rfl
    · exact .inr rfl
    · exact ih

/-! ### A row of one point -/

section Point
variable {s : State} {n set v : Nat} {p : Point}

/-- The slack of a mapped coordinate is less than 1/64 pixel (R157). -/
theorem mapSlack_bounds (i : Nat) (cf : List Nat) (x y : Nat) : -1023 ≤ mapSlack i cf x y ∧ mapSlack i cf x y ≤ 1023 := by
  unfold mapSlack
  omega

/-- A layer that is not enabled gives nothing. -/
theorem State.layerAt_disabled {k : Nat} (h : s.latOn (R.LAY.L_CTRL.EN k) = false) : s.layerAt n set v p k = {} := by
  simp [State.layerAt, h]

/-- Layers above that are not enabled leave the stack to those below (R180). -/
theorem State.stack_disabled {l r : List Nat} (h : ∀ k ∈ l, s.latOn (R.LAY.L_CTRL.EN k) = false) :
    s.stack n set v p (l ++ r) = s.stack n set v p r := by
  induction l with
  | nil => rfl
  | cons k l ih =>
    rw [List.forall_mem_cons] at h
    simp [State.stack, State.layerAt_disabled h.1, ih h.2, Probe.add]

/-- Where only the lowest layer is enabled and gives nothing, the background shows, and what the layer fetched counts. -/
theorem State.lightAt_failed {pr : Probe} (h : ∀ k ∈ (List.range' 1 15).reverse, s.latOn (R.LAY.L_CTRL.EN k) = false)
    (hs : (s.layerAt n set v p 0).some_ = false) (hp : (s.layerAt n set v p 0).probe = pr)
    (hrows : pr.rows.map (fun e => (0, e.2)) = pr.rows) :
    ∃ c, s.lightAt n set v p = (c, 0, 0, pr) := by
  have hstack : s.stack n set v p (List.range 16).reverse = ([], pr) := by
    rw [show (List.range 16).reverse = (List.range' 1 15).reverse ++ [0] from rfl, State.stack_disabled h]
    simp [State.stack, hs, hp, hrows, Probe.add]
  exact ⟨_, by simp only [State.lightAt, hstack, List.length_nil, Nat.zero_le, if_true]; rfl⟩

/-- A card of one pixel in which no panel shows gives one pixel, with what its layers fetched. -/
theorem State.cardRow_point {c : Card} {l : Light} {pr : Probe} (hw : c.w = 1)
    (hp : mapPixel s.map.latch s.map.canvas c 0 0 = .at p) (hl : s.lightAt n c.kset v p = (l, 0, 0, pr)) :
    ∃ px, s.cardRow n v c [] 0 = ([px], { probe := pr }) := by
  refine ⟨s.outputPixel s.otg.badM s.otg.badC l, ?_⟩
  simp [State.cardRow, hw, State.cardPixel, hp, hl, panelAt, Probe.add, List.range_succ]

end Point

/-! ### A frame of one pixel -/

/-- The card of stop 1 on port A in view 0: one pixel, whose centre lies at (5, 5). -/
def pointCells : List Host.Cell :=
  [(0, 0x11#8), (4, 1#8), (6, 1#8), (18, 0xA0#8), (19, 0x40#8), (30, 0xA0#8), (31, 0x40#8), (42, 0x80#8), (43, 0x3F#8)]

/-- Layer 0 covers 16 by 16 pixels and shows sample (0, 0) of slot 0 on all of them. -/
def pointLayer : List (Nat × Nat) :=
  [((R.LAY.L_CTRL.EN 0).key, 1), ((R.LAY.L_DST_WH.DW 0).key, 16), ((R.LAY.L_DST_WH.DH 0).key, 16),
    ((R.LAY.L_USTEP.USTEP 0).key, 0), ((R.LAY.L_VSTEP.VSTEP 0).key, 0)]

/-- Slot 0 presents a picture of one 8-bit sample at address 0 of DRAM. -/
def pointSlot : SlotSt :=
  { picked := some { buf := 0, addr := 0, ts := 0, fmt := { w := 1, h := 1, sampling := 3, depth := 0 } }, present := 1 }

/-- A sender that has launched frame 5: the picture path and OTG are enabled, one stop stands on port A, time is valid, and the DRAM
channels are still in RESET. -/
def pointDue : State :=
  (picturePages.map R.PG.EN ++ [R.PG.EN B.otg, R.LNE.LNE_STAT.N 0, R.TIM.TIM_STAT.TIME_VALID]).foldl (fun s f => s.set f 1)
    { dep := { last := some 5 }, map := { latch := pointCells }, cmp := { latch := pointLayer }, ing := { slots := [pointSlot] } }

/-- The same sender with 0x3FF0 listed under LOG_STAT.NEXT, a field of 4 bits: the register file is still sorted. -/
def logBeyond : State := { pointDue with regs := putD pointDue.regs R.PAR.LOG_STAT.NEXT.key 0x3FF0 0 }

theorem logBeyond_up : logBeyond.up :=
  ⟨by decide +kernel, show keysRise logBeyond.regs by decide +kernel,
    show keysRise logBeyond.force by decide +kernel, show Memory.wf zeroB logBeyond.mem.dram by decide +kernel⟩

/-- Its frame 5, begun and divided into shares. -/
def pointStarted : State := ((logBeyond.tick 0).otgBegun 5).composeStart

theorem logBeyond_starts : (logBeyond.tick 0).otgStart = pointStarted.composeFrame 5 :=
  State.otgStart_eq (by decide +kernel) (by decide +kernel) (by decide +kernel) (by decide +kernel) (by decide +kernel)
    (by decide +kernel) (by decide +kernel)

/-- The one share of the frame. -/
def pointShare : ShareAcc := { port := 0, view := 0, stop := 1 }

/-- The card as the table in force gives it. -/
def pointCard : Card := cardAt pointCells 0

/-- What layer 0 fetches for the pixel: 36 taps of the one sample, which no channel serves. -/
def pointProbe : Probe :=
  { bad := List.replicate 36 0, words := List.replicate 36 0, rows := List.replicate 6 (0, 0) }

theorem pointCard_maps : ∃ p : Point, mapPixel pointStarted.map.latch pointStarted.map.canvas pointCard 0 0 = .at p ∧
    0 ≤ p.x ∧ p.x < 16 * 65536 ∧ 0 ≤ p.y ∧ p.y < 16 * 65536 := by
  have hproj : projPoint pointCard.m 0 0 =
      some ⟨327680 + mapSlack 0 pointCard.m 0 0, 327680 + mapSlack 1 pointCard.m 0 0⟩ := rfl
  have hx := mapSlack_bounds 0 pointCard.m 0 0
  have hy := mapSlack_bounds 1 pointCard.m 0 0
  have hmesh : pointCard.meshEn = 0 := by decide +kernel
  have hcluster : pointCard.cluster = 0 := by decide +kernel
  have hcv : pointStarted.map.canvas = {} := by decide +kernel
  refine ⟨⟨327680 + mapSlack 0 pointCard.m 0 0, 327680 + mapSlack 1 pointCard.m 0 0⟩, ?_, ?_⟩
  · simp [mapPixel, hproj, hmesh, hcluster, hcv]
    omega
  · simp only
    omega

theorem pointStarted_placement {p : Point} (hx : 0 ≤ p.x ∧ p.x < 16 * 65536) (hy : 0 ≤ p.y ∧ p.y < 16 * 65536) :
    pointStarted.placement 0 p = some (0, 0) := by
  obtain ⟨hdx, hdy, hdw, hdh, hu, hv, hus, hvs⟩ :
      pointStarted.lat (R.LAY.L_DST_XY.DX 0) = 0 ∧ pointStarted.lat (R.LAY.L_DST_XY.DY 0) = 0 ∧
      pointStarted.lat (R.LAY.L_DST_WH.DW 0) = 16 ∧ pointStarted.lat (R.LAY.L_DST_WH.DH 0) = 16 ∧
      pointStarted.lat (R.LAY.L_U0.U0 0) = 0 ∧ pointStarted.lat (R.LAY.L_V0.V0 0) = 0 ∧
      pointStarted.lat (R.LAY.L_USTEP.USTEP 0) = 0 ∧ pointStarted.lat (R.LAY.L_VSTEP.VSTEP 0) = 0 := by
    decide +kernel
  simp [State.placement, hdx, hdy, hdw, hdh, hu, hv, hus, hvs, hx, hy, sgn]
  omega

/-- The layer gives nothing: none of its taps can be had. -/
theorem pointStarted_layerAt {p : Point} (hx : 0 ≤ p.x ∧ p.x < 16 * 65536) (hy : 0 ≤ p.y ∧ p.y < 16 * 65536) :
    (pointStarted.layerAt 5 0 0 p 0).some_ = false ∧ (pointStarted.layerAt 5 0 0 p 0).probe = pointProbe := by
  unfold State.layerAt
  rw [pointStarted_placement hx hy]
  decide +kernel

/-- The row of the one share: one pixel, and the words that its layer asked for. -/
theorem pointStarted_shareRow :
    ∃ px, pointStarted.shareRow 5 0 pointShare = some ([px], { probe := pointProbe }) := by
  obtain ⟨p, hmap, hx0, hx1, hy0, hy1⟩ := pointCard_maps
  obtain ⟨hsome, hprobe⟩ := pointStarted_layerAt ⟨hx0, hx1⟩ ⟨hy0, hy1⟩
  have hcard : pointStarted.accCard pointShare = some pointCard := by decide +kernel
  obtain ⟨hh, hw, hkset⟩ : pointCard.h = 1 ∧ pointCard.w = 1 ∧ pointCard.kset = 0 := by decide +kernel
  have hflat : pointStarted.otg.flat = false := by decide +kernel
  have hpanels : panels pointStarted.cmp.spLatch = [] := List.eq_nil_of_length_eq_zero (by decide +kernel)
  obtain ⟨l, hlight⟩ := State.lightAt_failed (s := pointStarted) (n := 5) (set := 0) (v := 0) (p := p) (by decide +kernel) hsome
    hprobe (by decide +kernel)
  obtain ⟨px, hrow⟩ := State.cardRow_point (s := pointStarted) (n := 5) (v := 0) hw hmap (hkset ▸ hlight)
  exact ⟨px, by simp [State.shareRow, hcard, hh, hflat, hpanels, show pointShare.view = 0 from rfl, hrow]⟩

/-- Composed without coding, the row has the effects of its tally alone. -/
theorem putRow_uncoded {s : State} {n : Nat} {a : ShareAcc} {l : List Pix} {t : Tally}
    (h : (if a.port = 0 then s.otg.codA else s.otg.codB) = 0) :
    ∃ a', s.putRow n a (some (l, t)) = (s.applyTally n a.port t [], a') ∧ a'.port = a.port ∧ a'.view = a.view ∧
      a'.stop = a.stop := by
  simp only [State.putRow, h, codeRow, if_pos]
  exact ⟨_, rfl, rfl, rfl, rfl⟩

/-- The row has had its effects. -/
def pointRow : State := pointStarted.applyTally 5 0 { probe := pointProbe } []

/-- The first round composes the row. -/
theorem pointStarted_composeRound : ∃ a, pointStarted.composeRound 5 true =
      ({ pointRow with otg := { pointRow.otg with accs := [a], next := (0, 1) } } : State) ∧
    a.port = 0 ∧ a.view = 0 ∧ a.stop = 1 := by
  obtain ⟨px, hrow⟩ := pointStarted_shareRow
  obtain ⟨a, hput, ha⟩ := putRow_uncoded (s := pointStarted) (n := 5) (a := pointShare) (l := [px])
    (t := { probe := pointProbe }) (by decide +kernel)
  have hnext : pointStarted.otg.next = (0, 0) := by decide +kernel
  have hviews : pointStarted.otg.views = 1 := by decide +kernel
  have hrounds : pointStarted.viewRounds 0 = 1 := by decide +kernel
  have haccs : pointStarted.otg.accs = [pointShare] := by decide +kernel
  refine ⟨a, ?_, ha⟩
  simp [State.composeRound, hnext, hviews, hrounds, haccs, hrow, hput, show pointShare.view = 0 from rfl,
    show pointShare.port = 0 from rfl, pointRow]

/-- The second round is past the card's one row, so that the frame lists under HEALTH.TX what its first row left there. -/
theorem pointStarted_composeFrame : fieldsAt R.RDN.HEALTH.TX.only (pointStarted.composeFrame 5).regs =
    fieldsAt R.RDN.HEALTH.TX.only pointRow.regs := by
  obtain ⟨a, hround, hport, hview, hstop⟩ := pointStarted_composeRound
  have hcount : ((List.range pointStarted.otg.views).map (fun v => pointStarted.viewRounds v + 1)).foldl (· + ·) 0 = 2 := by
    decide +kernel
  have hrounds : pointStarted.composeRounds 5 true = (pointStarted.composeRound 5 true).composeRound 5 true := by
    simp [State.composeRounds, hcount, State.forN, List.range_succ]
  have hcard : findCard (enabledCards pointRow.map.latch) 0 1 0 = some pointCard := by decide +kernel
  have hheight : pointCard.h = 1 := by decide +kernel
  have hpast : (pointStarted.composeRound 5 true).viewRounds (pointStarted.composeRound 5 true).otg.next.1 ≤
      (pointStarted.composeRound 5 true).otg.next.2 := by
    simp [hround, State.viewRounds, State.accCard, hport, hview, hstop, hcard, hheight]
  rw [State.composeFrame, State.health_composeEnd, hrounds, State.regs_composeRound_past hpast, hround]

/-- The sender just before it reads the one word that the row needs. -/
def pointCounted : State :=
  let s := pointStarted.rowCounted { probe := pointProbe }
  { s with otg := { s.otg with words := s.otg.words ++ [0] } }

/-- The read is refused and its error logged: the time of log entry 0x3FF0 lies where HEALTH.TX lies. -/
def pointLogged : State := (pointCounted.err (B.mem 0) 0x13 1 0).parLog 0 1 0 0 0 0x13 0

theorem pointLogged_time : pointLogged.regsOk ∧ pointLogged.get (R.LOG.LOG_TIME_HI.NS 0x3FF0) = 0 := by
  have hnext : (pointCounted.err (B.mem 0) 0x13 1 0).get R.PAR.LOG_STAT.NEXT = 0x3FF0 := by decide +kernel
  have hwall : (pointCounted.err (B.mem 0) 0x13 1 0).wall = 0 :=
    (State.wall_of_settled (by decide +kernel)).trans (by decide +kernel)
  have hsorted : (pointCounted.err (B.mem 0) 0x13 1 0).regsOk := show keysRise _ by decide +kernel
  have hlog := State.parLog_time (addr := 0) (port := 1) (ch := 0) (sram := 0) (array := 0) (code := 0x13) (bytes := 0) hsorted
  rwa [hnext, hwall] at hlog

theorem pointRow_health : fieldsAt R.RDN.HEALTH.TX.only pointRow.regs =
    fieldsAt R.RDN.HEALTH.TX.only pointLogged.regs := by
  obtain ⟨htile, hserves, hfrozen, hoffline⟩ : pointCounted.isTile = false ∧ pointCounted.chServes 0 = false ∧
      pointCounted.chFrozen 0 = false ∧ pointCounted.chState 0 ≠ Ch.offline := by decide +kernel
  have hroute : pointCounted.route 0 = .refuse 0x13 0 := by
    simp [State.route, htile, hserves, State.chRefusal, hfrozen, hoffline]
  rw [pointRow, State.health_applyTally, State.readWords_single (w := 0) (by decide +kernel) (by decide +kernel)]
  exact congrArg (fun s : State => fieldsAt R.RDN.HEALTH.TX.only s.regs) (State.dramRead_refused (s := pointCounted) hroute)

/-- Refutes O28: its clause of a frame start says that HEALTH.TX holds the health word once the frame is composed. `State.up`
bounds no field by its width, so LOG_STAT.NEXT may read 0x3FF0, as no reachable state has it; the model then writes the time of
log entry 0x3FF0, 16 bytes an entry, at the address of HEALTH.TX when a word of the frame cannot be read. -/
theorem not_cardsSpireAndViews : ¬ Obligations.CardsSpireAndViews := by
  unfold Obligations.CardsSpireAndViews
  rintro ⟨-, -, -, -, -, -, -, hstart, -⟩
  obtain ⟨u, hu, -, -, -, -, -, -, hhealth⟩ := hstart logBeyond 5 0 logBeyond_up (by decide +kernel) (by decide +kernel)
    (by decide +kernel) (by decide +kernel) (by decide +kernel) (by decide +kernel) (by decide +kernel) (by decide +kernel)
  have hregs := State.regsOk_of_next logBeyond_up hu
  rw [exec_otgFrameStart_of_up logBeyond_up (by decide +kernel), logBeyond_starts] at hu
  obtain rfl := Host.Outcome.next.inj hu
  have hword : logBeyond.healthWord % 2 ^ R.RDN.HEALTH.TX.width = 2049 := by decide +kernel
  have hkey : R.RDN.HEALTH.TX.key = (R.LOG.LOG_TIME_HI.NS 0x3FF0).key := rfl
  have hlisted := pointStarted_composeFrame.trans pointRow_health
  have htime := (State.get_of_only (f := R.LOG.LOG_TIME_HI.NS 0x3FF0) hregs pointLogged_time.1 hlisted).trans pointLogged_time.2
  rw [State.get, hword, hkey] at hhealth
  rw [State.get] at htime
  rcases lookupD_default (pointStarted.composeFrame 5).regs (R.LOG.LOG_TIME_HI.NS 0x3FF0).key R.RDN.HEALTH.TX.rst
    (R.LOG.LOG_TIME_HI.NS 0x3FF0).rst with h | h
  · exact absurd (hhealth.symm.trans (h.trans htime)) (by decide)
  · exact absurd (hhealth.symm.trans h) (by decide)

end Sys2Proof.Machine

/-!
Tybel links (chapter 8): three groups of commands that do not complete as stated.
-/
namespace Sys2Proof.Machine

-- One kernel evaluation at a time: started side by side they need more threads than memory allows.
set_option Elab.async false

/-! ### A lane that times out in TRAIN -/

/-- What the command of a training timeout does on a running module (R227). -/
theorem exec_trainTimeout_of_up {s : State} (hs : s.up) {l t : Nat} :
    exec (.trainTimeout l t) s = .next ((s.tick t).trainTimeout l) :=
  show execTrainTimeout l t s = _ from run_of_up hs

/-- A port that LOCK has sent back to TRAIN: the mask that both ends agreed on names port lane 0 alone, which trains again, and port
lane 1 waits to lock. -/
def maskedPort : State :=
  ([(R.PG.EN (B.lnk 0), 1), (R.LNK.PORT_STAT.STAGE 0, Stage.train), (R.LNL.LANE_STAT.STATE 8, LaneS.train),
    (R.LNL.LANE_STAT.STATE 9, LaneS.lock)].foldl (fun s e => s.set e.1 e.2) ({} : State)).setPort 0 { mask := 1 }

theorem maskedPort_up : maskedPort.up :=
  ⟨by decide +kernel, show keysRise maskedPort.regs by decide +kernel, show keysRise maskedPort.force by decide +kernel,
    show Memory.wf zeroB maskedPort.mem.dram by decide +kernel⟩

/-- Refutes O29: its clause of a timeout does not ask that a lane is left to lock. With lane 8 FAILED the mask names no lane that
could lock, so the link goes down and to DETECT at once (Table 8-3), where lane 8 begins anew. -/
theorem not_laneTraining : ¬ Obligations.LaneTraining := by
  unfold Obligations.LaneTraining
  rintro ⟨-, -, -, htimeout, -⟩
  obtain ⟨u, hu, hfailed, -⟩ := htimeout maskedPort 8 0 maskedPort_up (by decide) (by decide) (by decide +kernel)
  rw [exec_trainTimeout_of_up maskedPort_up] at hu
  obtain rfl := Host.Outcome.next.inj hu
  have hdetect : ((maskedPort.tick 0).trainTimeout 8).laneState 8 = LaneS.detect := by decide +kernel
  exact absurd (hdetect.symm.trans hfailed) (by decide)

/-! ### A width limit on a port that goes down -/

/-- What the command of a write of MAX_WIDTH does on a running module (R214). -/
theorem exec_maxWidthWrite_of_up {s : State} (hs : s.up) {p v t : Nat} :
    exec (.maxWidthWrite p v t) s = .next ((s.tick t).maxWidthWrite p v) :=
  show execMaxWidthWrite p v t s = _ from run_of_up hs

/-- A tile whose port U is ACTIVE on a lane that works no longer, with a width request of the peer for no lane, and with an upload under
way, for which 0x77FC is listed under SESSION.SLOT, a field of 3 bits: the register file is still sorted. -/
def slotBeyond : State :=
  let s := ([(R.PG.EN (B.lnk 0), 1), (R.LNK.PORT_STAT.STAGE 0, Stage.active), (R.LNK.PORT_STAT.IN_SERVICE 0, 1),
    (R.LNK.CAPX_STAT.FEATURES 0, 1), (R.FWU.SESSION.PURPOSE, 1)].foldl (fun s e => s.set e.1 e.2)
      ({ role := .tile, line := { svcIn := some ⟨0, 0, 0, 1, 0, 0, [], false, 0, []⟩ } } : State)).setPort 0 { wRx := some 0 }
  { s with regs := putD s.regs R.FWU.SESSION.SLOT.key 0x77FC 0 }

theorem slotBeyond_up : slotBeyond.up :=
  ⟨by decide +kernel, show keysRise slotBeyond.regs by decide +kernel, show keysRise slotBeyond.force by decide +kernel,
    show Memory.wf zeroB slotBeyond.mem.dram by decide +kernel⟩

/-- Refutes O30: its clause of MAX_WIDTH says that the field holds what is written. `State.up` bounds no field by its width, so
SESSION.SLOT may read 0x77FC, as no reachable state has it. The write then narrows the port to no lane and takes the link down, the
session ends with it, and the model marks slot 0x77FC as BAD, 16 bytes a slot, at the address of MAX_WIDTH. -/
theorem not_portStages : ¬ Obligations.PortStages := by
  unfold Obligations.PortStages
  rintro ⟨-, -, -, -, -, -, hwidth⟩
  obtain ⟨u, hu, hmax⟩ := hwidth slotBeyond 0 1 0 slotBeyond_up (by decide) (by decide)
  rw [exec_maxWidthWrite_of_up slotBeyond_up] at hu
  obtain rfl := Host.Outcome.next.inj hu
  have hbad : ((slotBeyond.tick 0).maxWidthWrite 0 1).get (R.LNK.PORT_CTRL.MAX_WIDTH 0) = 4 := by decide +kernel
  exact absurd (hbad.symm.trans hmax) (by decide)

/-! ### A spare lane that faults at level 1 -/

/-- What the command of a lane fault does on a running module (R248). -/
theorem exec_laneFault_of_up {s : State} (hs : s.up) {l t : Nat} :
    exec (.laneFault l t) s = .next ((s.tick t).laneFault l) :=
  show execLaneFault l t s = _ from run_of_up hs

/-- A port in ACTIVE at level 1, with port lane 1 SPARE. -/
def levelOne : State :=
  [(R.PG.EN (B.lnk 1), 1), (R.LNK.PORT_STAT.STAGE 1, Stage.active), (R.LNK.CAPX_STAT.LEVEL 1, 1),
    (R.LNL.LANE_STAT.STATE 13, LaneS.spare)].foldl (fun s e => s.set e.1 e.2) ({} : State)

theorem levelOne_up : levelOne.up :=
  ⟨by decide +kernel, show keysRise levelOne.regs by decide +kernel, show keysRise levelOne.force by decide +kernel,
    show Memory.wf zeroB levelOne.mem.dram by decide +kernel⟩

/-- Refutes O31: its clause of a spare lane's fault does not ask for an agreed level above 1. At level 1 the fault takes the link down
even so (R251), and its bring-up leaves lane 13 in DETECT. -/
theorem not_groupsAndLanes : ¬ Obligations.GroupsAndLanes := by
  unfold Obligations.GroupsAndLanes
  rintro ⟨-, -, -, -, hfault, -⟩
  obtain ⟨u, hu, hretrain, -⟩ := hfault levelOne 13 0 levelOne_up (by decide) (by decide) (by decide +kernel)
    (by decide +kernel) (by decide +kernel)
  rw [exec_laneFault_of_up levelOne_up] at hu
  obtain rfl := Host.Outcome.next.inj hu
  have hdetect : ((levelOne.tick 0).laneFault 13).laneState 13 = LaneS.detect := by decide +kernel
  exact absurd (hdetect.symm.trans hretrain) (by decide)

end Sys2Proof.Machine

/-!
Lines (spec/09_line_operation.md): link states, enumeration and the telemetry records of the stops.
-/
namespace Sys2Proof.Machine

/-! ### What the line keeps under updates of other parts -/

section LineParts
variable {s : State} {p q b k v n t : Nat} {f : Fld} {m : Msg}

@[simp] theorem State.line_ite {c : Prop} [Decidable c] {a b : State} :
    (if c then a else b).line = if c then a.line else b.line := apply_ite State.line c a b

theorem State.line_pendBits {m : Nat} : (s.pendBits b m).line = s.line := by
  unfold State.pendBits
  exact Keep.foldl_of (P := fun u : State => u.line = s.line) rfl fun u g h => by split <;> exact h

@[simp] theorem State.line_ev : (s.ev b k).line = s.line := by
  simp [State.ev, State.line_pendBits]

@[simp] theorem State.line_showLine : (s.showLine p).line = s.line := by
  simp [State.showLine, State.policyDue]

@[simp] theorem State.line_showSilent : (s.showSilent p).line = s.line := by
  simp [State.showSilent]

@[simp] theorem State.line_mismatch : (s.mismatch p k).line = s.line := by
  unfold State.mismatch
  dsimp only
  split <;> simp [State.count]

theorem State.lineTx_of_line {z : State} (h : s.line = z.line) : s.lineTx p = z.lineTx p := by
  simp only [State.lineTx, h]

@[simp] theorem State.lineTx_setLineTx {x : LineTx} : (s.setLineTx p x).lineTx p = x := by
  unfold State.lineTx State.setLineTx
  split <;> rfl

@[simp] theorem State.stream_setStream {x : StreamSt} : (s.setStream p x).stream p = x := by
  unfold State.stream State.setStream
  split <;> rfl

theorem State.tx_setPort {x : PortSt} : (s.setPort q x).line.tx0 = s.line.tx0 ∧ (s.setPort q x).line.tx1 = s.line.tx1 := by
  unfold State.setPort
  dsimp only
  split <;> exact ⟨rfl, rfl⟩

/-- A message in a control queue changes nothing of the line at a sender's ports. -/
@[simp] theorem State.lineTx_send : (s.send q m).lineTx p = s.lineTx p := by
  unfold State.send State.queueMsg
  split
  · simp only [State.lineTx, State.tx_setPort, State.emit]
  · rfl

@[simp] theorem State.get_send : (s.send q m).get f = s.get f := by
  rw [State.get, State.regs_send, State.get]

/-- A port in ACTIVE puts out a message that it queues (R265). -/
theorem State.out_send (h : s.portActive q = true) : (s.send q m).out = s.out ++ [.msg q m] := by
  rw [State.send, if_pos h]
  rfl

end LineParts

/-! ### Fields of the LNE page -/

section LineFields
variable {s : State} {K : Nat → Bool} {p n short : Nat}

/-- The LNE pages are active in both roles (Table 3-5). -/
theorem State.live_lne (s : State) (hp : p < 2) : s.live (B.lne p) = true := by
  have hpage : ∀ p < 2, pageAt (B.lne p) = some (.lne, p) := by decide
  rw [State.live_of_pageAt (hpage p hp)]
  cases s.role <;> rfl

theorem State.fieldsAt_numberTo (hN : K (R.LNE.LNE_STAT.N p).key = false) (hT : K (R.LNE.TXN_TMO.EFF_US p).key = false)
    (hS : K (R.LNE.TEL_STAT.SILENT p).key = false) (hE : K (R.PG.EVT_PEND (B.lne p)).key = false) :
    fieldsAt K (s.numberTo p n).regs = fieldsAt K s.regs := by
  simp [State.numberTo, State.showTmo, State.showSilent, hN, hT, hS, hE]

theorem State.fieldsAt_takeSerials {l : List EnumRsp} (hC : K (R.LNE.TEL_STAT.CHANGED p).key = false)
    (hE : K (R.PG.EVT_PEND (B.lne p)).key = false) : fieldsAt K (s.takeSerials p l).regs = fieldsAt K s.regs := by
  simp [State.takeSerials, hC, hE]

theorem State.fieldsAt_checkSkew {l : List EnumRsp} (hS : K (R.LNE.TEL_STAT.SKEW p).key = false)
    (hE : ∀ f ∈ errFields (B.lne p), K f.key = false) : fieldsAt K (s.checkSkew p n l).regs = fieldsAt K s.regs := by
  simp [State.checkSkew, State.fieldsAt_err hE, hS, hE (R.PG.EVT_PEND (B.lne p)) (by simp [errFields])]

theorem State.fieldsAt_showLine (hW : K (R.LNK.LINE_STAT.LINE_WIDTH p).key = false)
    (hN : K (R.LNK.LINE_STAT.NARROW_STOP p).key = false) (hE : K (R.PG.EVT_PEND (B.lnk p)).key = false) :
    fieldsAt K (s.showLine p).regs = fieldsAt K s.regs := by
  simp [State.showLine, hW, hN, hE]

end LineFields

/-! ### Link states -/

section LinkState
variable {s : State} {p t : Nat} {m : LinkStateMsg}

/-- What the command of a link state does on a running module (R254). -/
theorem exec_linkState_of_up (hs : s.up) (hp : p < 2) : exec (.linkState p m t) s = .next ((s.tick t).linkState p m) := by
  refine (show execLinkState p m t s = _ from run_of_up hs).trans ?_
  rw [Nat.mod_eq_of_lt hp]

/-- The loss of a link between a tile and the originator fails the stream (R481). -/
theorem State.gives_linkState_tile (hs : s.up) (hr : s.role = .tile) (hp : p < 2) (ha : s.portActive p = true)
    (hw : s.works (B.lne p) = true) (hc : m.cause = 2) (hf : m.fn = 6 ∨ m.fn = 7) (hd : s.dual = false) :
    s.gives (.linkState p m t) fun u => (u.stream p).failed = some s.lastDep := by
  refine ⟨_, exec_linkState_of_up hs hp, ?_⟩
  have ha' : (s.tick t).portActive p = true := ha
  have hw' : (s.tick t).works (B.lne p) = true := hw
  have hd' : ∀ x, ((s.tick t).setStream p x).dual = false := fun _ => hd
  have hfn : (m.fn == 6 || m.fn == 7) = true := by simpa using hf
  simp only [State.linkState, ha', hw', Bool.not_true, Bool.or_false, Bool.false_eq_true, ↓reduceIte, State.tick_role, hr, hc,
    hfn, Bool.and_self, decide_true, State.streamFail, hd', Bool.false_and, State.stream_setStream]
  rfl

/-- A change of width alone brings the stop's link width and nothing else of the line (R254). -/
theorem State.gives_linkState_width (hs : s.up) (hr : s.role = .sender) (hp : p < 2) (ha : s.portActive p = true)
    (hw : s.works (B.lne p) = true) (hc : m.cause = 3) (hf : m.fn = s.faceFn p) (ht : m.fn = 6 ∨ m.fn = 7)
    (hst : m.stage = Stage.active) (hk : s.reportStop p m ≠ 0) :
    s.gives (.linkState p m t) fun u => (u.lineTx p).widths =
      (s.reportStop p m, widthLanes m.width) :: (s.lineTx p).widths.filter (fun w => w.1 != s.reportStop p m) := by
  refine ⟨_, exec_linkState_of_up hs hp, ?_⟩
  have ha' : (s.tick t).portActive p = true := ha
  have hw' : (s.tick t).works (B.lne p) = true := hw
  have hf' : m.fn = (s.tick t).faceFn p := hf
  have hk' : (s.tick t).reportStop p m ≠ 0 := hk
  have hfn : (m.fn == 6 || m.fn == 7) = true := by simpa using ht
  have hkeep : (s.tick t).linkState p m = ((s.tick t).keepWidth p m).showLine p := by
    simp [State.linkState, ha', hw', hr, State.linkStateSender, hc, hfn, hk']
  have hwidths : (((s.tick t).keepWidth p m).lineTx p).widths =
      (s.reportStop p m, widthLanes m.width) :: (s.lineTx p).widths.filter (fun w => w.1 != s.reportStop p m) := by
    rw [State.keepWidth, State.lineTx_setLineTx, if_pos hf', if_pos hst]
    rfl
  show (((s.tick t).linkState p m).lineTx p).widths = _
  rw [hkeep, State.lineTx_of_line State.line_showLine, hwidths]

end LinkState

/-! ### Enumeration at a sender -/

section EnumSender
variable {s : State} {p t : Nat} {m : EnumRsp} {short : Bool}

/-- A run of enumeration starts with the next number and no response, and its first message goes out (R266). -/
theorem State.gives_enumStart (hs : s.up) (hr : s.role = .sender) (hp : p < 2) (ha : s.portActive p = true)
    (hw : s.works (B.lne p) = true) :
    s.gives (.enumStart p t) fun u => u.get (R.LNE.LNE_STAT.ENUM_BUSY p) = 1 ∧
      u.get (R.LNE.ENUM_RUN.RUN p) = (s.get (R.LNE.ENUM_RUN.RUN p) + 1) % 65536 ∧
      u.out = s.out ++ [.msg p (.enumMsg ⟨s.srcRelief, 1, s.get (R.LNE.LINE_ID.ID p), u.get (R.LNE.ENUM_RUN.RUN p)⟩)] ∧
      (u.lineTx p).rsps = [] := by
  have hz : (s.tick t).regsOk := hs.2.1
  have hw' : (s.tick t).works (B.lne p) = true := hw
  let run := (s.get (R.LNE.ENUM_RUN.RUN p) + 1) % 65536
  let y := (s.tick t).set (R.LNE.ENUM_RUN.RUN p) run
  let z := (y.set (R.LNE.LNE_STAT.ENUM_BUSY p) 1).setLineTx p { (s.tick t).lineTx p with rsps := [] }
  have hy : y.regsOk := State.regsOk_set hz
  have hkeep : ∀ f : Fld, f.key ≠ (R.LNE.ENUM_RUN.RUN p).key → f.key ≠ (R.LNE.LNE_STAT.ENUM_BUSY p).key →
      z.get f = s.get f := fun f hr hb => (State.get_set_ne hy hb).trans (State.get_set_ne hz hr)
  have hne : (R.LNE.ENUM_RUN.RUN p).key ≠ (R.LNE.LNE_STAT.ENUM_BUSY p).key := by
    simp [Fld.key, R.LNE.ENUM_RUN.RUN, R.LNE.LNE_STAT.ENUM_BUSY]; omega
  have hrun : z.get (R.LNE.ENUM_RUN.RUN p) = run :=
    (State.get_set_ne hy hne).trans ((State.get_set_self hz).trans (Nat.mod_mod _ _))
  have hbusy : z.get (R.LNE.LNE_STAT.ENUM_BUSY p) = 1 := State.get_set_self hy
  have hrelief : z.srcRelief = s.srcRelief := by
    have h₁ := hkeep R.RDN.RDN_STAT.STATE (by simp [Fld.key, R.RDN.RDN_STAT.STATE, R.LNE.ENUM_RUN.RUN]; omega)
      (by simp [Fld.key, R.RDN.RDN_STAT.STATE, R.LNE.LNE_STAT.ENUM_BUSY]; omega)
    have h₂ := hkeep R.RDN.RDN_CFG.ROLE (by simp [Fld.key, R.RDN.RDN_CFG.ROLE, R.LNE.ENUM_RUN.RUN]; omega)
      (by simp [Fld.key, R.RDN.RDN_CFG.ROLE, R.LNE.LNE_STAT.ENUM_BUSY]; omega)
    simp only [State.srcRelief, State.on, h₁, h₂]
  have hid : z.get (R.LNE.LINE_ID.ID p) = s.get (R.LNE.LINE_ID.ID p) :=
    hkeep _ (by simp [Fld.key, R.LNE.LINE_ID.ID, R.LNE.ENUM_RUN.RUN])
      (by simp [Fld.key, R.LNE.LINE_ID.ID, R.LNE.LNE_STAT.ENUM_BUSY]; omega)
  have hactive : z.portActive p = true := by
    rw [State.portActive, hkeep _ (by simp [Fld.key, R.LNK.PORT_STAT.STAGE, R.LNE.ENUM_RUN.RUN])
      (by simp [Fld.key, R.LNK.PORT_STAT.STAGE, R.LNE.LNE_STAT.ENUM_BUSY]; omega)]
    exact ha
  have he : exec (.enumStart p t) s =
      .next (z.send p (.enumMsg ⟨z.srcRelief, 1, z.get (R.LNE.LINE_ID.ID p), run⟩)) := by
    refine (show execEnumStart p t s = _ from run_of_up hs).trans ?_
    rw [Nat.mod_eq_of_lt hp, State.enumStart, if_neg (by simp [hr, hw'])]
    rfl
  refine ⟨_, he, ?_, ?_, ?_, ?_⟩
  · rw [State.get_send, hbusy]
  · rw [State.get_send, hrun]
  · rw [State.out_send hactive, State.get_send, hrun, hrelief, hid]
    rfl
  · rw [State.lineTx_send, State.lineTx_setLineTx]

/-- A response of the run under way is kept, the latest of its stop (R268). -/
theorem State.gives_enumRsp (hs : s.up) (hr : s.role = .sender) (hp : p < 2) (ha : s.portActive p = true)
    (hw : s.works (B.lne p) = true) (hb : s.on (R.LNE.LNE_STAT.ENUM_BUSY p) = true)
    (hrun : m.run = s.get (R.LNE.ENUM_RUN.RUN p))
    (hmore : heardAll ((s.lineTx p).rsps.filter (fun e => e.stop != m.stop) ++ [m]) = false) :
    s.gives (.enumRsp p m t) fun u =>
      (u.lineTx p).rsps = (s.lineTx p).rsps.filter (fun e => e.stop != m.stop) ++ [m] := by
  have ha' : (s.tick t).portActive p = true := ha
  have hw' : (s.tick t).works (B.lne p) = true := hw
  have hb' : (s.tick t).on (R.LNE.LNE_STAT.ENUM_BUSY p) = true := hb
  have htx : (s.tick t).lineTx p = s.lineTx p := rfl
  have he : exec (.enumRsp p m t) s = .next ((s.tick t).setLineTx p { s.lineTx p with
      rsps := (s.lineTx p).rsps.filter (fun e => e.stop != m.stop) ++ [m] }) := by
    refine (show execEnumRsp p m t s = _ from run_of_up hs).trans ?_
    rw [Nat.mod_eq_of_lt hp, State.enumRspAt, if_neg (by simp [hr, ha', hw', hb', hrun])]
    simp only [htx, hmore, Bool.false_eq_true, ↓reduceIte]
  exact ⟨_, he, congrArg LineTx.rsps State.lineTx_setLineTx⟩

/-- The keys of ENUM_BUSY and ENUM_SHORT of port `p`. -/
def enumKey (p n : Nat) : Bool := (R.LNE.LNE_STAT.ENUM_BUSY p).key == n || (R.LNE.LNE_STAT.ENUM_SHORT p).key == n

theorem enumKey_eq_false {a l w r : Nat} (hl : l < 32 := by decide)
    (h : a ≠ 0xC0104 + p * 0x1000 ∨ l ≠ 8 ∧ l ≠ 9 := by omega) : enumKey p (Fld.key ⟨a, l, w, r⟩) = false := by
  simp only [enumKey, Bool.or_eq_false_iff, beq_eq_false_iff_ne, Fld.key, R.LNE.LNE_STAT.ENUM_BUSY,
    R.LNE.LNE_STAT.ENUM_SHORT]
  omega

theorem enumKey_errFields : ∀ f ∈ errFields (B.lne p), enumKey p f.key = false := by
  simp only [errFields, List.forall_mem_cons, B.lne]
  exact ⟨enumKey_eq_false, enumKey_eq_false, enumKey_eq_false, enumKey_eq_false, enumKey_eq_false, enumKey_eq_false,
    enumKey_eq_false, enumKey_eq_false, List.forall_mem_nil _⟩

/-- N, the serials and the skew of a run are other fields than ENUM_BUSY and ENUM_SHORT. -/
theorem State.enumKey_taken {n k : Nat} {l : List EnumRsp} :
    fieldsAt (enumKey p) (((s.numberTo p n).takeSerials p l).checkSkew p k l).regs = fieldsAt (enumKey p) s.regs := by
  have hpend : enumKey p (R.PG.EVT_PEND (B.lne p)).key = false := enumKey_errFields _ (by simp [errFields])
  rw [State.fieldsAt_checkSkew enumKey_eq_false enumKey_errFields, State.fieldsAt_takeSerials enumKey_eq_false hpend,
    State.fieldsAt_numberTo enumKey_eq_false enumKey_eq_false enumKey_eq_false hpend]

theorem State.canon_taken {n k : Nat} {l : List EnumRsp} (h : s.Canon) :
    (((s.numberTo p n).takeSerials p l).checkSkew p k l).Canon := by
  refine Keep.canon (k := .all) (q := s) ?_
  apply State.checkSkew_good <;> try simp
  apply State.takeSerials_good <;> try simp
  apply State.numberTo_good <;> simp [Keep.refl h]

/-- A run ends with the event ENUM_DONE at a state in which ENUM_BUSY is 0 and ENUM_SHORT says how it ended (R268). -/
theorem State.enumEnd_eq (h : s.Canon) (p : Nat) (short : Bool) : ∃ (x : State) (v : Nat), x.Canon ∧
    fieldsAt (enumKey p) x.regs = fieldsAt (enumKey p) (((s.set (R.LNE.LNE_STAT.ENUM_SHORT p) (bit short)).set
      (R.LNE.LNE_STAT.OVERLONG p) v).set (R.LNE.LNE_STAT.ENUM_BUSY p) 0).regs ∧
    s.enumEnd p short = (x.ev (B.lne p) Ev.LNE.ENUM_DONE).showLine p := by
  have hpend : enumKey p (R.PG.EVT_PEND (B.lne p)).key = false := enumKey_errFields _ (by simp [errFields])
  unfold State.enumEnd
  extract_lets l beyond n s₁ s₂ s₃ s₄
  have h₂ : s₂.Canon := ⟨State.regsOk_set (State.regsOk_set (State.regsOk_set h.1)), h.2⟩
  obtain ⟨hcanon, hfields⟩ : s₃.Canon ∧ fieldsAt (enumKey p) s₃.regs = fieldsAt (enumKey p) s₂.regs := by
    cases hbeyond : beyond with
    | some r =>
      simp only [s₃, hbeyond]
      refine ⟨Keep.canon (k := .all) (q := s₂) ?_, by rw [State.fieldsAt_ev hpend, State.fieldsAt_err enumKey_errFields]⟩
      apply State.ev_good <;> try simp
      apply State.err_good <;> simp [Keep.refl h₂]
    | none =>
      simp only [s₃, hbeyond]
      exact ⟨h₂, trivial⟩
  exact ⟨s₄.checkSkew p n l, bit beyond.isSome, State.canon_taken hcanon, State.enumKey_taken.trans hfields, rfl⟩

/-- An enumeration that meets its limit ends short (R268). -/
theorem State.gives_enumTimeout (hs : s.up) (hr : s.role = .sender) (hp : p < 2)
    (hb : s.on (R.LNE.LNE_STAT.ENUM_BUSY p) = true) :
    s.gives (.enumTimeout p t) fun u => u.get (R.LNE.LNE_STAT.ENUM_BUSY p) = 0 ∧
      u.get (R.LNE.LNE_STAT.ENUM_SHORT p) = 1 ∧ u.raised (B.lne p) Ev.LNE.ENUM_DONE = true := by
  have hb' : (s.tick t).on (R.LNE.LNE_STAT.ENUM_BUSY p) = true := hb
  obtain ⟨x, v, hx, hkeys, hend⟩ := State.enumEnd_eq (show (s.tick t).Canon from hs.2) p true
  have he : exec (.enumTimeout p t) s = .next ((x.ev (B.lne p) Ev.LNE.ENUM_DONE).showLine p) := by
    refine (show execEnumTimeout p t s = _ from run_of_up hs).trans ?_
    rw [Nat.mod_eq_of_lt hp, State.enumTimeout, if_pos (by simp [hr, hb']), hend]
  have hu : ((x.ev (B.lne p) Ev.LNE.ENUM_DONE).showLine p).regsOk := State.regsOk_of_next hs he
  set y := (s.tick t).set (R.LNE.LNE_STAT.ENUM_SHORT p) (bit true) with hydef
  have hy : y.regsOk := State.regsOk_set hs.2.1
  have hz : (y.set (R.LNE.LNE_STAT.OVERLONG p) v).regsOk := State.regsOk_set hy
  have hfields : fieldsAt (enumKey p) ((x.ev (B.lne p) Ev.LNE.ENUM_DONE).showLine p).regs = fieldsAt (enumKey p)
      ((y.set (R.LNE.LNE_STAT.OVERLONG p) v).set (R.LNE.LNE_STAT.ENUM_BUSY p) 0).regs := by
    rw [State.fieldsAt_showLine enumKey_eq_false enumKey_eq_false enumKey_eq_false, State.fieldsAt_ev enumKey_eq_false, hkeys]
  refine ⟨_, he, ?_, ?_, ?_⟩
  · rw [State.get_of_fieldsAt (by simp [enumKey]) hu (State.regsOk_set hz) hfields, State.get_set_self hz]
    rfl
  · rw [State.get_of_fieldsAt (by simp [enumKey]) hu (State.regsOk_set hz) hfields,
      State.get_set_ne hz (by simp [Fld.key, R.LNE.LNE_STAT.ENUM_SHORT, R.LNE.LNE_STAT.ENUM_BUSY]),
      State.get_set_ne hy (by simp [Fld.key, R.LNE.LNE_STAT.ENUM_SHORT, R.LNE.LNE_STAT.OVERLONG]),
      State.get_set_self (s := s.tick t) hs.2.1]
    rfl
  · have hpend : ∀ {a l w r : Nat}, a ≠ B.lne p + 0x18 → l < 32 →
        (R.PG.EVT_PEND (B.lne p)).only (Fld.key ⟨a, l, w, r⟩) = false := by
      intro a l w r ha hl
      exact Fld.only_ne (by simp only [Fld.key, R.PG.EVT_PEND]; omega)
    refine (State.raised_of_only hu (State.regsOk_ev hx.1) (State.fieldsAt_showLine ?_ ?_ ?_)).trans
      (State.raised_ev_self hx.1 (State.live_lne x hp) (by decide))
    all_goals exact hpend (by simp only [B.lne, B.lnk]; omega) (by decide)

end EnumSender

/-! ### Enumeration at a tile -/

section EnumTile
variable {s : State} {p q v t : Nat} {m : EnumMsg}

/-- The field of TILE_STOP that holds the number counted from port `p`: port U for 0, port D else (R267). -/
def stopFld (p : Nat) : Fld := if p = 0 then R.LNE.TILE_STOP.STOP_U 0 else R.LNE.TILE_STOP.STOP_D 0

theorem State.ownStop_eq : s.ownStop p = s.get (stopFld p) := rfl

theorem stopFld_width : (stopFld p).width = 8 := by
  unfold stopFld
  split <;> rfl

theorem State.portActive_set_stopFld (h : s.regsOk) (hq : q < 2) :
    (s.set (stopFld p) v).portActive q = s.portActive q := by
  have hne : (R.LNK.PORT_STAT.STAGE q).key ≠ (stopFld p).key := by
    unfold stopFld
    split <;> simp [Fld.key, R.LNK.PORT_STAT.STAGE, R.LNE.TILE_STOP.STOP_U, R.LNE.TILE_STOP.STOP_D] <;> omega
  rw [State.portActive, State.get_set_ne h hne, State.portActive]

theorem State.hasNext_set_stopFld (h : s.regsOk) : (s.set (stopFld p) v).hasNext p = s.hasNext p := by
  rw [State.hasNext, State.portActive_set_stopFld h (by omega)]
  rfl

theorem State.portActive_send {b : Msg} : (s.send q b).portActive p = s.portActive p := by
  rw [State.portActive, State.get_send, State.portActive]

/-- The other port of a tile that has a next unit is ACTIVE. -/
theorem State.portActive_of_hasNext (h : s.hasNext p = true) : s.portActive (1 - p) = true := (Bool.and_eq_true_iff.mp h).1

/-- What the command of an enumeration message does on a running module (R267). -/
theorem exec_enumMsg_of_up (hs : s.up) (hp : p < 2) : exec (.enumMsg p m t) s = .next ((s.tick t).enumAt p m) := by
  refine (show execEnumMsg p m t s = _ from run_of_up hs).trans ?_
  rw [Nat.mod_eq_of_lt hp]

/-- The response of a tile to an enumeration message; `z` holds its stop numbers. -/
def enumAnswer (z : State) (p : Nat) (m : EnumMsg) (no last : Bool) : EnumRsp where
  last := last
  noNumber := no
  stop := m.stop
  other := z.ownStop (1 - p)
  lineId := m.lineId
  run := m.run
  typeId := z.get R.IDN.IDN_TYPE.TYPE_ID
  stepping := z.get R.IDN.IDN_TYPE.STEPPING
  serial := z.serial

/-- A tile that can take the number takes it, answers, and passes the next number on (R267). -/
theorem State.enumAt_of_le (h : s.regsOk) (hr : s.role = .tile) (ha : s.portActive p = true) (hw : s.works (B.lne p) = true)
    (hm : m.stop ≤ 254) : s.enumAt p m =
      let y := s.set (stopFld p) m.stop
      let z := y.send p (.enumRsp (enumAnswer y p m false (!s.hasNext p)))
      if s.hasNext p then z.send (1 - p) (.enumMsg { m with stop := m.stop + 1 }) else z := by
  have hno : decide (254 < m.stop) = false := decide_eq_false (by omega)
  rw [State.enumAt, if_neg (by simp [hr, ha, hw]), ← State.hasNext_set_stopFld (v := m.stop) h]
  simp only [hno, Bool.not_false, Bool.true_and, Bool.false_eq_true, ↓reduceIte]
  rfl

/-- A message with a number above 254 is answered and changes nothing else (R267). -/
theorem State.enumAt_of_gt (hr : s.role = .tile) (ha : s.portActive p = true) (hw : s.works (B.lne p) = true)
    (hm : 254 < m.stop) : s.enumAt p m = s.send p (.enumRsp (enumAnswer s p m true true)) := by
  have hno : decide (254 < m.stop) = true := decide_eq_true hm
  rw [State.enumAt, if_neg (by simp [hr, ha, hw])]
  simp only [hno, Bool.not_true, Bool.false_and, Bool.not_false, Bool.false_eq_true, ↓reduceIte]
  rfl

theorem State.ownStop_send {b : Msg} : (s.send q b).ownStop p = s.ownStop p := State.get_send

theorem State.ownStop_set (h : s.regsOk) (hv : v ≤ 254) : (s.set (stopFld p) v).ownStop p = v := by
  rw [State.ownStop_eq, State.get_set_self h, stopFld_width, Nat.mod_eq_of_lt (by omega)]

theorem State.gives_enumMsg_last (hs : s.up) (hr : s.role = .tile) (hp : p < 2) (ha : s.portActive p = true)
    (hw : s.works (B.lne p) = true) (hm : m.stop ≤ 254) (hn : s.hasNext p = false) :
    s.gives (.enumMsg p m t) fun u => u.ownStop p = m.stop ∧ (∃ r, u.out = s.out ++ [.msg p (.enumRsp r)] ∧
      r.last = true ∧ r.stop = m.stop ∧ r.lineId = m.lineId ∧ r.run = m.run) := by
  have hz : (s.tick t).regsOk := hs.2.1
  have hn' : (s.tick t).hasNext p = false := hn
  have ha' : (s.tick t).portActive p = true := ha
  refine ⟨_, exec_enumMsg_of_up hs hp, ?_⟩
  rw [State.enumAt_of_le hz hr ha' hw hm]
  simp only [hn', Bool.not_false, Bool.false_eq_true, ↓reduceIte]
  refine ⟨State.ownStop_send.trans (State.ownStop_set hz hm), _,
    State.out_send ((State.portActive_set_stopFld hz hp).trans ha'), rfl, rfl, rfl, rfl⟩

theorem State.gives_enumMsg_next (hs : s.up) (hr : s.role = .tile) (hp : p < 2) (ha : s.portActive p = true)
    (hw : s.works (B.lne p) = true) (hm : m.stop ≤ 254) (hn : s.hasNext p = true) :
    s.gives (.enumMsg p m t) fun u => u.ownStop p = m.stop ∧
      u.out[s.out.length + 1]? = some (.msg (1 - p) (.enumMsg { m with stop := m.stop + 1 })) ∧
      u.out.length = s.out.length + 2 := by
  have hz : (s.tick t).regsOk := hs.2.1
  have hn' : (s.tick t).hasNext p = true := hn
  have ha' : (s.tick t).portActive p = true := ha
  refine ⟨_, exec_enumMsg_of_up hs hp, ?_⟩
  rw [State.enumAt_of_le hz hr ha' hw hm]
  simp only [hn', Bool.not_true, ↓reduceIte]
  have hthis : ((s.tick t).set (stopFld p) m.stop).portActive p = true := (State.portActive_set_stopFld hz hp).trans ha'
  have hother : ((s.tick t).set (stopFld p) m.stop).portActive (1 - p) = true :=
    (State.portActive_set_stopFld hz (by omega)).trans (State.portActive_of_hasNext hn')
  refine ⟨(State.ownStop_send.trans State.ownStop_send).trans (State.ownStop_set hz hm), ?_⟩
  rw [State.out_send (State.portActive_send.trans hother), State.out_send hthis]
  simp

theorem State.gives_enumMsg_beyond (hs : s.up) (hr : s.role = .tile) (hp : p < 2) (ha : s.portActive p = true)
    (hw : s.works (B.lne p) = true) (hm : 254 < m.stop) :
    s.gives (.enumMsg p m t) fun u => u.ownStop p = s.ownStop p ∧ u.out.length = s.out.length + 1 := by
  have ha' : (s.tick t).portActive p = true := ha
  refine ⟨_, exec_enumMsg_of_up hs hp, ?_⟩
  rw [State.enumAt_of_gt (s := s.tick t) hr ha' hw hm]
  refine ⟨State.ownStop_send, ?_⟩
  rw [State.out_send ha', List.length_append]
  rfl

end EnumTile

/-! ### Telemetry -/

section DramKeeps
variable {s : State} {K : Nat → Bool}

/-- What a DRAM write records lies on the pages MEM and PAR; `K` names no field there or above. -/
def belowMem (K : Nat → Bool) : Prop := ∀ a l w r : Nat, 0x110000 ≤ a → K (Fld.key ⟨a, l, w, r⟩) = false

theorem belowMem.off {a l w r : Nat} (h : belowMem K) (ha : 0x110000 ≤ a) : K (Fld.key ⟨a, l, w, r⟩) = false := h a l w r ha

theorem belowMem_errFields {b : Nat} (h : belowMem K) (hb : 0x110000 ≤ b) : ∀ f ∈ errFields b, K f.key = false := by
  simp only [errFields, List.forall_mem_cons]
  exact ⟨h.off (by omega), h.off (by omega), h.off (by omega), h.off (by omega), h.off (by omega), h.off (by omega),
    h.off (by omega), h.off (by omega), List.forall_mem_nil _⟩

theorem belowMem_parLog (h : belowMem K) : K R.PAR.LOG_STAT.NEXT.key = false ∧ K R.PAR.LOG_STAT.WRAPPED.key = false ∧
    K R.PAR.LOG_STAT.TOTAL.key = false :=
  ⟨h.off (by decide), h.off (by decide), h.off (by decide)⟩

theorem belowMem_logEntry (h : belowMem K) (k : Nat) : K (R.LOG.LOG_ADDR_LO.ADDR k).key = false ∧
    K (R.LOG.LOG_INFO.ADDR_HI k).key = false ∧ K (R.LOG.LOG_INFO.PORT k).key = false ∧
    K (R.LOG.LOG_INFO.CHANNEL k).key = false ∧ K (R.LOG.LOG_INFO.SRAM k).key = false ∧
    K (R.LOG.LOG_INFO.ARRAY k).key = false ∧ K (R.LOG.LOG_INFO.CODE k).key = false ∧
    K (R.LOG.LOG_INFO.BYTES k).key = false ∧ K (R.LOG.LOG_TIME_LO.NS k).key = false ∧
    K (R.LOG.LOG_TIME_HI.NS k).key = false :=
  ⟨h.off (by omega), h.off (by omega), h.off (by omega), h.off (by omega), h.off (by omega), h.off (by omega),
    h.off (by omega), h.off (by omega), h.off (by omega), h.off (by omega)⟩

theorem State.fieldsAt_parLog (h : belowMem K) {addr port ch sram array code bytes : Nat} :
    fieldsAt K (s.parLog addr port ch sram array code bytes).regs = fieldsAt K s.regs := by
  simp [State.parLog, belowMem_parLog h, belowMem_logEntry h]

theorem State.fieldsAt_dramErr (h : belowMem K) {page code port addr bytes : Nat} :
    fieldsAt K (s.dramErr page code port addr bytes).regs = fieldsAt K s.regs := by
  rw [State.dramErr, State.fieldsAt_parLog h, State.fieldsAt_err]
  exact belowMem_errFields h (by simp only [B.mem]; omega)

theorem State.fieldsAt_injectWrite (h : belowMem K) {port a n : Nat} :
    fieldsAt K (s.injectWrite port a n).regs = fieldsAt K s.regs := by
  unfold State.injectWrite
  split
  · rw [State.fieldsAt_ev (h.off (by decide)), State.fieldsAt_set (h.off (by decide)),
      regs_foldl (fun z c => State.regs_setPar)]
  · rfl

theorem State.fieldsAt_dramPut (h : belowMem K) {port a : Nat} {bytes : List Byte} {poison : Bool} :
    fieldsAt K (s.dramPut port a bytes poison).regs = fieldsAt K s.regs := by
  unfold State.dramPut
  split
  · exact State.fieldsAt_dramErr h
  · rfl
  · rw [State.fieldsAt_injectWrite h, State.regs_markWrite]
    rfl

theorem State.fieldsAt_dramWrite (h : belowMem K) {port a : Nat} {bytes : List Byte} {poison : Bool} :
    fieldsAt K (s.dramWrite port a bytes poison).regs = fieldsAt K s.regs := by
  unfold State.dramWrite
  split
  · exact State.fieldsAt_dramPut h
  · rw [State.fieldsAt_dramPut h, State.fieldsAt_dramPut h]

theorem State.canon_dramWrite (h : s.Canon) {port a : Nat} {bytes : List Byte} {poison : Bool} :
    (s.dramWrite port a bytes poison).Canon :=
  Keep.canon (k := .all) (q := s) (by apply State.dramWrite_good <;> simp [Keep.refl h])

/-- A DRAM write leaves the number of stops of a port. -/
theorem State.lastStop_dramWrite (h : s.Canon) {p port a : Nat} (hp : p < 2) {bytes : List Byte} :
    (s.dramWrite port a bytes).lastStop p = s.lastStop p := by
  refine State.get_of_only (State.canon_dramWrite h).1 h.1 (State.fieldsAt_dramWrite ?_)
  intro a l w r ha
  exact Fld.only_ne (by simp only [Fld.key, R.LNE.LNE_STAT.N]; omega)

end DramKeeps

section Telemetry
variable {s : State} {p t : Nat} {m : TelemMsg} {e : StopSt} {x : LineTx} {k : Nat}

theorem LineTx.stop_setStop : (x.setStop e).stop e.stop = e := by
  simp [LineTx.stop, LineTx.setStop]

theorem LineTx.stop_stop : (x.stop k).stop = k := by
  unfold LineTx.stop
  cases h : x.stops.find? (fun e => e.stop == k) with
  | none => rfl
  | some e => simpa using List.find?_some h

/-- What a sender knows of a stop after its record `m`; `n` stops are numbered (R288). -/
def StopSt.told (e : StopSt) (m : TelemMsg) (n : Nat) : StopSt :=
  let e := { e with tele := some m, level := if m.frame % 4 = 3 then bitsOf m.ident 16 8 else e.level }
  if m.stop ≤ n then { e with misses := 0, silent := false } else e

theorem StopSt.stop_told {n : Nat} : (e.told m n).stop = e.stop := by
  by_cases hn : m.stop ≤ n <;> simp [StopSt.told, hn]

theorem StopSt.tele_told {n : Nat} : (e.told m n).tele = some m := by
  by_cases hn : m.stop ≤ n <;> simp [StopSt.told, hn]

theorem StopSt.misses_told {n : Nat} (h : m.stop ≤ n) : (e.told m n).misses = 0 := by
  simp [StopSt.told, h]

/-- TELEM changes what the line knows of one stop; what follows is not of the line (R288, R480). -/
theorem State.line_telem (hon : s.telOn p = true) (h1 : 1 ≤ m.stop) (h254 : m.stop ≤ 254) :
    ∃ w : State, w = s.dramWrite 4 (s.telRecord p m.stop) (Msg.telem m).bytes ∧ (s.telem p m).line =
      (w.setLineTx p ((w.lineTx p).setStop (((w.lineTx p).stop m.stop).told m (w.lastStop p)))).line := by
  refine ⟨_, rfl, ?_⟩
  set w := s.dramWrite 4 (s.telRecord p m.stop) (Msg.telem m).bytes with hw
  set z := (w.setLineTx p ((w.lineTx p).setStop (((w.lineTx p).stop m.stop).told m (w.lastStop p)))).showSilent p with hz
  have hgo : ¬ ((!s.telOn p || decide (m.stop = 0) || decide (254 < m.stop)) = true) := by
    simp [hon]
    omega
  have htelem : s.telem p m = if (z.dual && z.works B.rdn && m.lcrc != 0) = true then z.mismatch p m.stop else z := by
    rw [State.telem, if_neg hgo]
    rfl
  rw [htelem, State.line_ite, State.line_mismatch, ite_self, hz, State.line_showSilent]

/-- A record updates what the sender knows of the stop that it names (R288). -/
theorem State.stop_telem (h : s.Canon) (hp : p < 2) (hon : s.telOn p = true) (h1 : 1 ≤ m.stop) (h254 : m.stop ≤ 254) :
    ∃ y : LineTx, ((s.telem p m).lineTx p).stop m.stop = (y.stop m.stop).told m (s.lastStop p) := by
  obtain ⟨w, hw, hline⟩ := State.line_telem hon h1 h254
  have hstop : (((w.lineTx p).stop m.stop).told m (w.lastStop p)).stop = m.stop := StopSt.stop_told.trans LineTx.stop_stop
  have hlast : w.lastStop p = s.lastStop p := hw ▸ State.lastStop_dramWrite h hp
  refine ⟨w.lineTx p, ?_⟩
  rw [State.lineTx_of_line hline, State.lineTx_setLineTx, ← hlast]
  exact (congrArg _ hstop.symm).trans LineTx.stop_setStop

/-- A telemetry record is stored for its stop (R288). -/
theorem State.gives_telem (hs : s.up) (hr : s.role = .sender) (hp : p < 2) (ha : s.portActive p = true)
    (hsafe : s.get R.FWU.FWU_STAT.SAFE = 0) (hon : s.telOn p = true) (h1 : 1 ≤ m.stop) (h254 : m.stop ≤ 254) :
    s.gives (.telem p m t) fun u => ((u.lineTx p).stop m.stop).tele = some m ∧
      (m.stop ≤ s.lastStop p → ((u.lineTx p).stop m.stop).misses = 0) := by
  have hgo : ((s.tick t).portActive p && !(s.tick t).on R.FWU.FWU_STAT.SAFE) = true := by
    have ha' : (s.tick t).portActive p = true := ha
    have hsafe' : (s.tick t).get R.FWU.FWU_STAT.SAFE = 0 := hsafe
    simp [ha', State.on, hsafe']
  have he : exec (.telem p m t) s = .next ((s.tick t).telem p m) := by
    refine (show execTelem p m t s = _ from runIn_of_up hs hr).trans ?_
    rw [if_pos hgo]
  obtain ⟨y, hy⟩ := State.stop_telem (s := s.tick t) hs.2 hp hon h1 h254
  refine ⟨_, he, ?_, fun hle => ?_⟩
  · rw [hy, StopSt.tele_told]
  · rw [hy, StopSt.misses_told (n := (s.tick t).lastStop p) hle]

end Telemetry

/-- Settles O32: each clause is the branch of its command that the conditions select, read off the state it leaves. -/
theorem lineEnumeration : Obligations.LineEnumeration := by
  unfold Obligations.LineEnumeration
  exact ⟨fun _ _ _ _ => State.gives_linkState_tile, fun _ _ _ _ => State.gives_linkState_width,
    fun _ _ _ => State.gives_enumStart, fun _ _ _ _ => State.gives_enumMsg_last, fun _ _ _ _ => State.gives_enumMsg_next,
    fun _ _ _ _ => State.gives_enumMsg_beyond, fun _ _ _ _ => State.gives_enumRsp, fun _ _ _ => State.gives_enumTimeout,
    fun _ _ _ _ hs hr hp ha hsafe hon h1 h254 _ => State.gives_telem hs hr hp ha hsafe hon h1 h254⟩

end Sys2Proof.Machine

/-!
Lines (spec/09_line_operation.md): what a tile answers when a request ends, and the sessions and mirror records of a line.
-/
namespace Sys2Proof.Machine

-- One kernel evaluation at a time: started side by side they need more threads than memory allows.
set_option Elab.async false

/-! ### A request that ends before a cached completion -/

/-- A ping of stop 3 with TAG `tag`. -/
def pingOf (tag : Nat) : ReqMsg :=
  { op := 4, count := 0, stop := 3, relief := false, src := 33, tag := tag, didx := tag, loc := 0, mask := 0, data := [] }

/-- Stop 3 of the line on port U has executed the ping with TAG 8 and then taken the ping with TAG 9 and a repeat of the first.
Only the kernel evaluates it: it needs no compiled code. -/
noncomputable def repeatWaits : State :=
  (((wit .tile [(R.LNK.PORT_STAT.STAGE 0, Stage.active), (R.PG.EN (B.lne 0), 1), (R.LNE.TILE_STOP.STOP_U 0, 3)]).reqAt 0
    (pingOf 8)).executeReq 4 |>.reqAt 0 (pingOf 9)).reqAt 0 (pingOf 8)

theorem repeatWaits_up : repeatWaits.up :=
  show repeatWaits.power = .running ∧ keysRise repeatWaits.regs ∧ keysRise repeatWaits.force ∧
    Memory.wf zeroB repeatWaits.mem.dram by decide +kernel

/-- The ping with TAG 9 stands first, and the repeat waits behind it with its cached completion (R278). -/
theorem repeatWaits_held : repeatWaits.line.held = [⟨0, pingOf 9, 0, 9, false, 0, none⟩,
    ⟨0, pingOf 8, 0, 8, false, 0, some ⟨0, 0, 0, true, 33, 8, 0, 0, []⟩⟩] := by decide +kernel

/-- The tile is an active stop. -/
theorem repeatWaits_stop : repeatWaits.role = .tile ∧ repeatWaits.ownStop 0 ≠ 0 ∧ 3 = repeatWaits.ownStop 0 ∧
    repeatWaits.portActive 0 = true := by decide +kernel

/-- Refutes O34: its clauses of READ, WRITE, WRITE_MASKED and PING do not ask that no cached completion waits. When the ping with
TAG 9 ends, the completion of the repeat behind it leaves as well (R278, R282), so the rest of the queue does not stay. -/
theorem not_lineRequests : ¬ Obligations.LineRequests := by
  unfold Obligations.LineRequests
  rintro ⟨-, -, -, -, hping, -⟩
  obtain ⟨hrole, hown, hstop, hactive⟩ := repeatWaits_stop
  obtain ⟨u, hu, hrest, -⟩ := hping repeatWaits 0 _ _ repeatWaits_up hrole repeatWaits_held rfl rfl rfl rfl (by decide) hown
    hstop hactive
  have hrun : exec (.ping 0) repeatWaits = .next ((repeatWaits.tick 0).executeReq 4) :=
    run_of_up (f := fun s => (s.tick 0).executeReq 4) repeatWaits_up
  obtain rfl := Host.Outcome.next.inj (hrun.symm.trans hu)
  have hempty : ((repeatWaits.tick 0).executeReq 4).line.held = [] := by decide +kernel
  exact absurd (hempty.symm.trans hrest) (List.cons_ne_nil _ _).symm

/-! ### Commands, counters and the queue of a port -/

section CommandsAndSend
variable {s : State} {f : Fld} {n p : Nat}

/-- On a running module a command leaves what its function answers. -/
theorem State.gives_of_run {c : Instr} {f : State → State} {P : State → Prop} {u : State} (hs : s.up) (hc : exec c s = run f s)
    (hu : f s = u) (h : P u) : s.gives c P :=
  ⟨u, (hc.trans (run_of_up hs)).trans (congrArg _ hu), h⟩

/-- The commands of a line name their port by `p % 2`. -/
theorem State.gives_of_port {c : Instr} {f : Nat → State → State} {P : State → Prop} {u : State} (hs : s.up) (hp : p < 2)
    (hc : exec c s = run (f (p % 2)) s) (hu : f p s = u) (h : P u) : s.gives c P :=
  State.gives_of_run hs (hc.trans (by rw [Nat.mod_eq_of_lt hp])) hu h

/-- A counter that is counted up reads its new value, or all ones. -/
theorem State.get_count_self (h : s.regsOk) : (s.count f n).get f = min (s.get f + n) (2 ^ f.width - 1) :=
  (State.get_set_self h).trans
    (Nat.mod_eq_of_lt ((Nat.min_le_right _ _).trans_lt (Nat.sub_one_lt_of_lt (Nat.two_pow_pos f.width))))

/-- A port in ACTIVE puts out segments in the order in which it queues them (R265). -/
theorem State.out_sendSegs (h : s.portActive p = true) (l : List SvcMsg) :
    (s.sendSegs l p).out = s.out ++ l.map (fun g => .msg p (.svc g)) := by
  induction l generalizing s with
  | nil => exact (List.append_nil _).symm
  | cons g l ih =>
    refine (ih (State.portActive_send.trans h)).trans ?_
    rw [State.out_send h]
    exact List.append_assoc _ _ _

end CommandsAndSend

/-! ### Sessions at a sender -/

section SenderSessions
variable {s : State} {p k n : Nat} {v : SvcOut} {m : SvcMsg} {a : SvcAck} {full : Bool}

theorem State.session_stop (h : s.session p k = some v) : v.stop = k := beq_iff_eq.mp (List.find?_some h :)

/-- A session is looked up among those of its port. -/
theorem State.session_setLineTx {x : LineTx} :
    (s.setLineTx p x).session p k = x.sessions.find? (fun v => v.stop == k) :=
  congrArg (fun x : LineTx => x.sessions.find? (fun v : SvcOut => v.stop == k)) State.lineTx_setLineTx

theorem State.session_setSession (h : v.stop = k) : (s.setSession p v).session p k = some v :=
  State.session_setLineTx.trans (List.find?_cons_of_pos (beq_iff_eq.mpr h))

theorem State.session_endOut (h : v.stop = k) : (s.endOut p v.stop).session p k = none :=
  State.session_setLineTx.trans
    (List.find?_eq_none.mpr fun _ hw hk => bne_iff_ne.mp (List.mem_filter.mp hw).2 ((beq_iff_eq.mp hk).trans h.symm))

theorem State.session_send {b : Msg} : (s.send p b).session p k = s.session p k :=
  congrArg (fun x : LineTx => x.sessions.find? (fun v : SvcOut => v.stop == k)) State.lineTx_send

/-- What a sender in ACTIVE does with a segment (R549). -/
theorem State.svcAt_sender (ha : s.portActive p = true) (hr : s.role = .sender) : s.svcAt p m full = s.svcSender p m :=
  (if_neg (Bool.not_not_eq.mpr ha)).trans (by rw [hr])

/-- What a sender in ACTIVE does with an acknowledgement (R286). -/
theorem State.svcAckAt_sender (ha : s.portActive p = true) (hr : s.role = .sender) : s.svcAckAt p a = s.ackSender p a :=
  (if_neg (Bool.not_not_eq.mpr ha)).trans (by rw [hr])

/-- The first segment that a mailbox session brings back is stored and acknowledged (R549). -/
theorem State.svcSender_first (hv : s.session p m.stop = some v) (hid : v.session = m.session) (h4 : v.purpose = 4)
    (hnone : v.rxSeq = none) (h0 : m.seq = 0) : s.svcSender p m =
      (s.setSession p { v with rx := v.rx ++ m.data, rxSeq := some m.seq }).send p (.svcAck ⟨0, m.stop, v.session, m.seq⟩) := by
  unfold State.svcSender
  rw [hv]
  refine (if_neg fun h => ?_).trans (if_neg fun h => ?_)
  · exact (Bool.or_eq_true_iff.mp h).elim (fun h => bne_iff_ne.mp h hid) fun h => bne_iff_ne.mp h h4
  · exact bne_iff_ne.mp h (h0.trans (by rw [hnone]))

/-- An acknowledgement with status 3 or 4 ends its session (R286). -/
theorem State.ackSender_ends (hv : s.session p a.stop = some v) (hid : v.session = a.session)
    (hst : a.status = 3 ∨ a.status = 4) : s.ackSender p a = s.endOut p v.stop := by
  unfold State.ackSender
  rw [hv]
  refine (if_neg ?_).trans ((if_neg ?_).trans (if_pos ?_))
  · exact fun h => bne_iff_ne.mp h hid
  · obtain h | h := hst <;> rw [h] <;> decide
  · obtain h | h := hst <;> rw [h] <;> rfl

/-- Where nothing is due, nothing goes out. -/
theorem State.pumpSession_idle (h : s.session p k = some v) (hd : v.due = none) :
    s.pumpSession p k (n + 1) = s := by
  unfold State.pumpSession
  simp only [h, hd]

/-- Nothing is due of a session without bytes to send that is not closing. -/
theorem SvcOut.due_idle (hb : v.buf = []) (hc : v.closing = false) : v.due = none := by
  refine (congrArg _ ((if_neg ?_).trans (if_neg ?_))).trans (ite_self _)
  · exact fun h => ne_true_of_eq_false hc (Bool.and_eq_true_iff.mp h).1
  · rw [hb]
    exact ne_of_eq_of_ne (Bool.and_false _) Bool.false_ne_true

/-- Nobody waits for the answer to the datagram that opened the session. -/
theorem State.answerOpen_of_none (h : v.wait = none) : s.answerOpen p v n = s := by
  unfold State.answerOpen
  rw [h]

/-- An acknowledgement takes what it covers off the list of segments, and what is due goes out (R286). -/
theorem State.ackSender_takes (hv : s.session p a.stop = some v) (hid : v.session = a.session)
    (hst : a.status = 0 ∧ v.closing = false ∧ v.wait = none) : s.ackSender p a =
      (s.setSession p { v with segs := v.segs.filter (fun g => !acked a.ack g.seq), acked := some a.ack }).pumpSession p v.stop
        32 := by
  unfold State.ackSender
  rw [hv]
  refine (if_neg ?_).trans ((if_neg ?_).trans ((if_neg ?_).trans ((if_neg ?_).trans
    (congrArg (State.pumpSession · p v.stop 32) (State.answerOpen_of_none ?_)))))
  · exact fun h => bne_iff_ne.mp h hid
  · rw [hst.1]
    decide
  · rw [hst.1]
    decide
  · rw [hst.2.1]
    exact Bool.false_ne_true
  · exact hst.2.2

/-- Every segment that is not acknowledged goes out again, oldest first (R286). -/
theorem State.svcResend_sender (hr : s.role = .sender) (hv : s.session p k = some v) :
    s.svcResend p k = s.sendSegs v.segs p := by
  unfold State.svcResend
  rw [hr, hv]

end SenderSessions

/-! ### A segment at a tile -/

section TileSegment
variable {s : State} {p : Nat} {m : SvcMsg} {full : Bool}

/-- What a tile in ACTIVE does with a segment (R549). -/
theorem State.svcAt_tile (ha : s.portActive p = true) (hr : s.role = .tile) : s.svcAt p m full = s.svcTile p m full :=
  (if_neg (Bool.not_not_eq.mpr ha)).trans (by rw [hr])

/-- A segment without an open session that does not begin one is discarded and counted (R549). -/
theorem State.svcTile_away (hown : s.ownStop p ≠ 0) (hstop : m.stop = s.ownStop p) (hin : s.line.svcIn = none)
    (hseq : m.seq ≠ 0) : s.svcTile p m full = s.count R.SVP.SVC_DISC.COUNT := by
  unfold State.svcTile
  rw [hin]
  refine (if_neg ?_).trans (if_neg hseq)
  exact fun h => (Bool.or_eq_true_iff.mp h).elim (fun h => hown (of_decide_eq_true h)) fun h => bne_iff_ne.mp h hstop

end TileSegment

/-! ### Mirror records -/

section Mirror
variable {s : State} {p : Nat} {m : MirrorMsg}

/-- The record that is due is applied (R478); no other waits for it. -/
theorem State.mirrorAt_due (hr : s.isRelief = true) (ha : s.portActive p = true) (he : s.rdn.early = [])
    (hn : s.rdn.nextSeq.getD m.seq = m.seq) (hm : m.body = .imageStart 2) :
    s.mirrorAt p m = s.mirrorTake m.seq (.imageStart 2) := by
  refine (if_neg ?_).trans ((if_pos ?_).trans ?_)
  · exact fun h => (Bool.or_eq_true_iff.mp h).elim (Bool.not_not_eq.mpr hr) (Bool.not_not_eq.mpr ha)
  · rw [hn, Nat.add_sub_cancel_left]
  · rw [he, hm]
    rfl

/-- A record ahead of the one that is due waits (R478). -/
theorem State.rdn_mirrorAt_early (hr : s.isRelief = true) (ha : s.portActive p = true) (he : s.rdn.early = [])
    (hne : (m.seq + 65536 - s.rdn.nextSeq.getD m.seq) % 65536 ≠ 0)
    (hlt : (m.seq + 65536 - s.rdn.nextSeq.getD m.seq) % 65536 < 32768) :
    (s.mirrorAt p m).rdn = { s.rdn with early := s.rdn.early ++ [(m.seq, m.body)] } := by
  refine congrArg State.rdn ((if_neg ?_).trans ((if_neg hne).trans (if_pos ?_)))
  · exact fun h => (Bool.or_eq_true_iff.mp h).elim (Bool.not_not_eq.mpr hr) (Bool.not_not_eq.mpr ha)
  · exact Bool.and_eq_true_iff.mpr ⟨decide_eq_true hlt, by rw [he]; rfl⟩

/-- How far a sequence number lies ahead of an earlier one, less than 2^15 before it. -/
theorem ahead_of_lt {n q : Nat} (hlow : n < q) (hhigh : q < n + 32768) : (q + 65536 - n) % 65536 = q - n := by
  rw [Nat.sub_add_comm hlow.le, Nat.add_mod_right]
  exact Nat.mod_eq_of_lt ((Nat.sub_lt_left_of_lt_add hlow.le hhigh).trans (by decide))

/-! ### A gap of the mirror -/

/-- The counter of gaps is another field than STATE. -/
theorem State.get_state_gapCounted (h : s.regsOk) :
    (s.count R.RDN.MIRROR_GAP.COUNT).get R.RDN.RDN_STAT.STATE = s.get R.RDN.RDN_STAT.STATE :=
  State.get_set_ne h (by decide)

theorem State.gap_counts (hr : s.isRelief = true) (he : s.rdn.early ≠ []) :
    ¬ (!s.isRelief || s.rdn.early == []) = true :=
  fun h => (Bool.or_eq_true_iff.mp h).elim (Bool.not_not_eq.mpr hr) fun h => he (beq_iff_eq.mp h)

/-- A gap before a record that has come makes a relief in SYNCING take the sequence up anew (R478). -/
theorem State.mirrorGap_of_syncing (h : s.regsOk) (hr : s.isRelief = true) (he : s.rdn.early ≠ [])
    (hst : s.get R.RDN.RDN_STAT.STATE = 2) : s.mirrorGap = { s.count R.RDN.MIRROR_GAP.COUNT with
      rdn := { s.rdn with nextSeq := none, early := [], image := [], imageEnd := none } } := by
  refine (if_neg (State.gap_counts hr he)).trans (if_neg ?_)
  rw [State.get_state_gapCounted h, hst]
  decide

/-- Such a gap loses READY (R478). -/
theorem State.mirrorGap_of_ready (h : s.regsOk) (hr : s.isRelief = true) (he : s.rdn.early ≠ [])
    (hst : s.get R.RDN.RDN_STAT.STATE = 3) :
    s.mirrorGap = (s.count R.RDN.MIRROR_GAP.COUNT).toSyncing.ev B.rdn Ev.RDN.SYNC_LOST :=
  (if_neg (State.gap_counts hr he)).trans
    ((if_pos ((State.get_state_gapCounted h).trans hst)).trans (if_pos ((State.get_state_gapCounted h).trans hst)))

/-- A relief works, so its page is live. -/
theorem State.live_rdn_of_isRelief (h : s.isRelief = true) : s.live B.rdn = true := by
  have hworks : s.works B.rdn = true := (Bool.and_eq_true_iff.mp (Bool.and_eq_true_iff.mp h).1).2
  exact (Bool.and_eq_true_iff.mp (Bool.and_eq_true_iff.mp hworks).1).1

/-- An event leaves the relief's state alone. -/
theorem State.rdn_ev {b k : Nat} : (s.ev b k).rdn = s.rdn := by
  unfold State.ev
  split
  · exact Keep.foldl_of (P := fun u : State => u.rdn = s.rdn) rfl fun u g h => by split <;> exact h
  · rfl

end Mirror

/-- Settles O35: each clause is the branch of its command that the conditions select, read off the state it leaves. -/
theorem sessionsAndMirror : Obligations.SessionsAndMirror := by
  unfold Obligations.SessionsAndMirror
  refine ⟨?_, ?_, ?_, ?_, ?_, ?_, ?_, ?_, ?_⟩
  · intro s p m full t v hs hr hp ha hv hid h4 hnone h0 hstop
    refine State.gives_of_port (f := fun p s => (s.tick t).svcAt p m full) hs hp rfl
      ((State.svcAt_sender (s := s.tick t) ha hr).trans (State.svcSender_first (s := s.tick t) hv hid h4 hnone h0)) ?_
    rw [h0]
    exact ⟨State.session_send.trans (State.session_setSession hstop.symm), State.out_send (s := (s.tick t).setSession p _) ha⟩
  · intro s p m full t hs hr hp ha hown hstop hin hseq
    exact State.gives_of_port (f := fun p s => (s.tick t).svcAt p m full) hs hp rfl
      ((State.svcAt_tile (s := s.tick t) ha hr).trans (State.svcTile_away (s := s.tick t) hown hstop hin hseq))
      (State.get_count_self (s := s.tick t) hs.2.1)
  · intro s p a t v hs hr hp ha hv hid h0 hc hwait hb hstop
    refine State.gives_of_port (f := fun p s => (s.tick t).svcAckAt p a) hs hp rfl
      ((State.svcAckAt_sender (s := s.tick t) ha hr).trans
        ((State.ackSender_takes (s := s.tick t) hv hid ⟨h0, hc, hwait⟩).trans
          (State.pumpSession_idle (State.session_setSession rfl) (SvcOut.due_idle hb hc)))) ?_
    exact State.session_setSession hstop
  · intro s p a t v hs hr hp ha hv hid hst
    exact State.gives_of_port (f := fun p s => (s.tick t).svcAckAt p a) hs hp rfl
      ((State.svcAckAt_sender (s := s.tick t) ha hr).trans (State.ackSender_ends (s := s.tick t) hv hid hst))
      (State.session_endOut (State.session_stop hv))
  · intro s p k t v hs hr hp ha hv
    exact State.gives_of_port (f := fun p s => (s.tick t).svcResend p k) hs hp rfl
      (State.svcResend_sender (s := s.tick t) hr hv) (State.out_sendSegs (s := s.tick t) ha v.segs)
  · intro s p m t hs hp hr ha hn he hm
    exact State.gives_of_port (f := fun p s => (s.tick t).mirrorAt p m) hs hp rfl
      (State.mirrorAt_due (s := s.tick t) hr ha he hn hm)
      ⟨rfl, State.get_set_self (s := (s.tick t).mirrorApply (.imageStart 2)) hs.2.1, rfl⟩
  · intro s p m t n hs hp hr ha hn hlow hhigh _ he
    have hahead : (m.seq + 65536 - s.rdn.nextSeq.getD m.seq) % 65536 = m.seq - n := by
      rw [hn]
      exact ahead_of_lt hlow hhigh
    have hrdn := State.rdn_mirrorAt_early (s := s.tick t) hr ha he (hahead.trans_ne (Nat.sub_ne_zero_of_lt hlow))
      (hahead.trans_lt (Nat.sub_lt_left_of_lt_add hlow.le hhigh))
    exact State.gives_of_port (f := fun p s => (s.tick t).mirrorAt p m) hs hp rfl rfl
      ⟨(congrArg RdnSt.early hrdn).trans (congrArg (· ++ _) he), (congrArg RdnSt.nextSeq hrdn).trans hn⟩
  · intro s t hs hr he hst
    exact State.gives_of_run (f := fun s => (s.tick t).mirrorGap) hs rfl
      (State.mirrorGap_of_syncing (s := s.tick t) hs.2.1 hr he hst) ⟨State.get_count_self (s := s.tick t) hs.2.1, rfl, rfl, rfl⟩
  · intro s t hs hr he hst
    have hsyncing : ((s.tick t).count R.RDN.MIRROR_GAP.COUNT).toSyncing.regsOk := State.regsOk_set (State.regsOk_set hs.2.1)
    refine State.gives_of_run (f := fun s => (s.tick t).mirrorGap) hs rfl
      (State.mirrorGap_of_ready (s := s.tick t) hs.2.1 hr he hst) ⟨?_, ?_, ?_⟩
    · exact (State.get_ev_ne hsyncing (by decide)).trans (State.get_set_self (State.regsOk_set hs.2.1))
    · exact congrArg RdnSt.early State.rdn_ev
    · exact State.raised_ev_self hsyncing (State.live_rdn_of_isRelief (s := s) hr) (by decide)

end Sys2Proof.Machine

/-!
The codec engine (spec/10_kloile_codec.md): where the result of a finished job lands.
-/
namespace Sys2Proof.Machine

-- One kernel evaluation at a time: started side by side they need more threads than memory allows.
set_option Elab.async false

/-- A job of the ring that ended with OUT_FULL after one block. Its descriptor stands 36 bytes below the end of the usable DRAM of
channel 0, so four bytes of its result lie below that end and eight above. -/
noncomputable def acrossJob : Job := { at_ := 0x6FFFFFDC, inDone := 4096, outDone := 3264, status := some (JobS.outFull, 0) }

/-- A sender with channel 0 READY, whose engine has taken that job. -/
noncomputable def acrossEnd : State := (wit .sender [(R.MEM.CH_STAT.STATE 0, Ch.ready)]).jobStart acrossJob 0 0

/-- The part of the result above that end is refused (R409, R426). -/
theorem acrossEnd_refused : ((acrossEnd.tick 0).jobDone).mem.dram ≠
    writeBytes zeroB acrossEnd.mem.dram (acrossJob.at_ + 32) (acrossJob.result JobS.outFull) := by decide +kernel

/-- Refutes O36: its clause of a job that ends says that all 12 bytes of the result are stored from `at_ + 32`, and asks only that
the first address is served. `State.up` does not bind `at_` to a multiple of 64, as every descriptor of a ring has it (Table 10-5), so
the result may run across the end of the usable DRAM of channel 0; the write is then served in two parts and the second refused. -/
theorem not_codecJobs : ¬ Obligations.CodecJobs := by
  rintro ⟨-, -, -, -, hdone, -⟩
  have hup : acrossEnd.up := up_of ⟨rfl, by decide +kernel, .nil, .nil, List.forall_mem_nil _⟩
  obtain ⟨u, hu, hstored⟩ := hdone acrossEnd 0 acrossJob JobS.outFull 0 hup rfl rfl rfl rfl rfl rfl (by decide) rfl rfl
  have hnext : (acrossEnd.tick 0).jobDone = u := Host.Outcome.next.inj ((run_of_up hup).symm.trans hu)
  have hdram : u.mem.dram = _ := hstored.2.2.2.2.2
  exact acrossEnd_refused ((congrArg (·.mem.dram) hnext).trans hdram)

end Sys2Proof.Machine

/-!
Lamp correction (spec/11_lamp_correction.md): where a write through the aperture lands, and the upload commands.
-/
namespace Sys2Proof.Machine

/-! ### What the parts of a command may change -/

/-- Everything but the state of the correction unit may change. -/
def May.butCor : May := ⟨(· ≠ .cor), fun _ => True⟩

theorem May.butCor_part {p : Part} (h : p ≠ .cor) : May.butCor.part p := h
theorem May.butCor_fld {f : Fld} : May.butCor.fld f := trivial

/-- The fields in which COR shows its upload queue and its oldest completion (Table 11-8). -/
def uploadFields : List Fld := [R.COR.UPL_STAT.QUEUED, R.COR.BANK_STAT.UPL_BUSY, R.COR.UPL_STAT.RUNNING,
  R.COR.UPL_STAT.RUN_ID, R.COR.UPL_STAT.RUN_DONE, R.COR.UPL_DONE.ID, R.COR.UPL_DONE.STATUS, R.COR.UPL_DONE.REGIONS]

/-- Only those fields may change. -/
def May.uploadsShown : May := ⟨fun _ => False, (· ∈ uploadFields)⟩

section ButCor
variable {s z : State} {x : Upload}

theorem Keep.cor (h : s.Keeps .butCor z) : s.cor = z.cor := (h.part .cor).resolve_left (absurd rfl)

theorem State.keeps_dramBytes (h : s.Keeps .butCor z) {port a n : Nat} : (s.dramBytes port a n).1.Keeps .butCor z := by
  apply State.dramBytes_good <;> simp [h, May.butCor_part, May.butCor_fld]

theorem State.keeps_dramWrite (h : s.Keeps .butCor z) {port a : Nat} {bytes : List Byte} :
    (s.dramWrite port a bytes).Keeps .butCor z := by
  apply State.dramWrite_good <;> simp [h, May.butCor_part, May.butCor_fld]

theorem State.cor_memSettle (h : s.Canon) {was : List Nat} : (s.memSettle was).cor = s.cor :=
  Keep.cor (by apply State.memSettle_good <;> simp [Keep.refl h, May.butCor_part, May.butCor_fld])

theorem State.canon_putRegion (h : s.Canon) {bytes : List Byte} {flag : Bool} : (s.putRegion x bytes flag).Canon :=
  Keep.canon (k := .all) (q := s) (by apply State.putRegion_good <;> simp [Keep.refl h])

theorem State.keeps_showUploads (h : s.Canon) : s.showUploads.Keeps .uploadsShown s := by
  apply State.showUploads_good <;> simp [Keep.refl h, May.uploadsShown, uploadFields]

end ButCor

/-! ### Where the fields of COR lie (Table 11-8) -/

theorem pageAt_cor : pageAt B.cor = some (.cor, 0) := by decide +kernel

theorem uploadDone_lt : Ev.COR.UPL_DONE < 32 := by decide +kernel

/-- Pending events are shown elsewhere than uploads. -/
theorem pend_not_uploadField : ∀ g ∈ uploadFields, (R.PG.EVT_PEND B.cor).key ≠ g.key := by decide +kernel

/-- Pending events are shown elsewhere than the error of the page (Table 3-4D). -/
theorem pend_not_errField : ∀ f ∈ (errFields B.cor).take 7, (R.PG.EVT_PEND B.cor).key ≠ f.key := by decide +kernel

theorem doneId_apart : R.COR.UPL_DONE.ID.key ≠ R.COR.UPL_DONE.STATUS.key ∧ R.COR.UPL_DONE.ID.key ≠ R.COR.UPL_DONE.REGIONS.key := by
  decide +kernel

theorem doneStatus_apart : R.COR.UPL_DONE.STATUS.key ≠ R.COR.UPL_DONE.REGIONS.key := by decide +kernel

/-- A staged operand is another field than those that a write of UPL_CMD sets. -/
def besideCommand (f : Fld) : Prop :=
  f.key ≠ R.COR.UPL_CMD.OP.key ∧ f.key ≠ R.COR.UPL_CMD.SUPERSEDE.key ∧ f.key ≠ R.COR.UPL_CMD.ID.key

theorem besideCommand_first : besideCommand R.COR.UPL_RGN.FIRST := by unfold besideCommand; decide +kernel
theorem besideCommand_count : besideCommand R.COR.UPL_RGN.COUNT := by unfold besideCommand; decide +kernel
theorem besideCommand_src : besideCommand R.COR.UPL_SRC.OFS := by unfold besideCommand; decide +kernel

/-! ### A write through the aperture at the end of a channel -/

/-- A tile of 8 × 8 pixels with channel 0 READY, whose staging bank begins four bytes below the end of the usable DRAM of that
channel. -/
noncomputable def acrossBank : State := wit .tile [(R.MEM.CH_STAT.STATE 0, Ch.ready), (R.COR.GEOM.TW, 8), (R.COR.GEOM.TH, 8),
  (R.COR.BANK1_BASE_LO.BASE, 0x6FFFFFFC)]

/-- The first address that the write of eight bytes at offset 0 of the window reaches, as the obligation spells it. -/
noncomputable def acrossStart : Nat :=
  acrossBank.bankBase acrossBank.stagingBank + (acrossBank.get R.COR.APER_OFS.OFS / 2 ^ 22 * 2 ^ 22 + 0)

theorem acrossBank_up : acrossBank.up := up_of (by decide +kernel)

theorem acrossBank_tile : acrossBank.role = .tile := by decide +kernel

theorem acrossBank_isTile : acrossBank.isTile = true := by decide +kernel

theorem acrossBank_target : acrossBank.get R.COR.APER_CTRL.TARGET = 0 := by decide +kernel

theorem acrossBank_room : acrossBank.get R.COR.APER_OFS.OFS / 2 ^ 22 * 2 ^ 22 + 0 + 8 ≤ acrossBank.regions * 4096 := by
  decide +kernel

theorem acrossBank_idle : acrossBank.regionBusy ((acrossBank.get R.COR.APER_OFS.OFS / 2 ^ 22 * 2 ^ 22 + 0) / 4096) = false := by
  decide +kernel

theorem acrossStart_eq : acrossStart = 0x6FFFFFFC := by decide +kernel

theorem acrossBank_served : acrossBank.route acrossStart = .copies [0] := by decide +kernel

theorem acrossBank_unarmed : acrossBank.get R.PAR.CHK_CTRL.MODE ≠ 3 := by decide +kernel

/-- The part of the write above that end is refused (R409, R426). -/
theorem acrossBank_refused : ((acrossBank.tick 0).aperWrite 0 8 0x0807060504030201).mem.dram ≠
    writeBytes zeroB acrossBank.mem.dram acrossStart (toBytes 8 0x0807060504030201) := by decide +kernel

/-- What a write through the aperture does on a running tile (R330). -/
theorem exec_apertureWrite_of_up {s : State} (hs : s.up) (hr : s.role = .tile) {o n v t : Nat} :
    exec (.apertureWrite o n v t) s = .next ((s.tick t).aperWrite (o % 0x400000) n v) :=
  show execApertureWrite o n v t s = _ from runIn_of_up hs hr

/-- Refutes O37: its clause of a write through the aperture says that all `n` bytes are stored, and asks only that the first
address is served. `State.up` does not bind the base of a bank to the place that the start-up epoch load gives it (R309), so the
write may run across the end of the usable DRAM of channel 0; it is then served in two parts and the second refused. -/
theorem not_correctionBanks : ¬ Obligations.CorrectionBanks := by
  rintro ⟨-, -, -, hwrite, -⟩
  obtain ⟨u, hu, hstored⟩ := hwrite acrossBank 0 8 0x0807060504030201 0 acrossBank_up acrossBank_tile (by decide)
    acrossBank_target acrossBank_room acrossBank_idle acrossBank_isTile acrossBank_served acrossBank_unarmed
  obtain rfl := Host.Outcome.next.inj ((exec_apertureWrite_of_up acrossBank_up acrossBank_tile).symm.trans hu)
  exact acrossBank_refused hstored

/-- On a running module in its role a command leaves what its function answers. -/
theorem State.gives_of_runIn {s u : State} {c : Instr} {role : Role} {f : State → State} {P : State → Prop} (hs : s.up)
    (hr : s.role = role) (hc : exec c s = runIn role f s) (hu : f s = u) (h : P u) : s.gives c P :=
  ⟨u, (hc.trans (runIn_of_up hs hr)).trans (congrArg _ hu), h⟩

/-- The queue of uploads is `q`. -/
def State.withUploads (s : State) (q : List Upload) : State := { s with cor := { s.cor with uploads := q } }

/-- The completions that wait are `l`. -/
def State.withCompletions (s : State) (l : List (Nat × Nat × Nat)) : State :=
  { s with cor := { s.cor with completions := l } }

/-- What `showUploads` shows of the queue, before the oldest completion follows. -/
def State.showQueue (s : State) : State :=
  let w := (s.set R.COR.UPL_STAT.QUEUED s.cor.uploads.length).set R.COR.BANK_STAT.UPL_BUSY (bit (s.cor.uploads != []))
  match s.cor.uploads with
  | u :: _ =>
    if u.started then ((w.set R.COR.UPL_STAT.RUNNING 1).set R.COR.UPL_STAT.RUN_ID u.id).set R.COR.UPL_STAT.RUN_DONE u.done
    else w.set R.COR.UPL_STAT.RUNNING 0
  | [] => w.set R.COR.UPL_STAT.RUNNING 0

section ShowUploads
variable {s : State} {q : List Upload} {c : Nat × Nat × Nat} {l : List (Nat × Nat × Nat)}

theorem State.canon_withUploads (h : s.Canon) : (s.withUploads q).Canon := h
theorem State.canon_withCompletions (h : s.Canon) : (s.withCompletions l).Canon := h

theorem State.cor_showUploads (h : s.Canon) : s.showUploads.cor = s.cor :=
  ((State.keeps_showUploads h).part .cor).resolve_left id

theorem State.get_showUploads (h : s.Canon) {f : Fld} (hf : ∀ g ∈ uploadFields, f.key ≠ g.key) :
    s.showUploads.get f = s.get f :=
  ((State.keeps_showUploads h).fld f).resolve_left fun ⟨g, hg, hk⟩ => hf g hg hk

/-- UPL_BUSY shows whether a command waits or runs (R332). -/
theorem State.get_busy_showUploads (h : s.Canon) :
    s.showUploads.get R.COR.BANK_STAT.UPL_BUSY = bit (s.cor.uploads != []) % 2 ^ R.COR.BANK_STAT.UPL_BUSY.width := by
  refine State.get_of_only_set (z := s.set R.COR.UPL_STAT.QUEUED s.cor.uploads.length) (State.keeps_showUploads h).regs
    (State.regsOk_set h.1) ?_
  unfold State.showUploads
  cases hq : s.cor.uploads with
  | nil => cases hc : s.cor.completions <;> simp (decide := true) [hc]
  | cons u r => by_cases hu : u.started <;> cases hc : s.cor.completions <;> simp (decide := true) [hu, hc]

theorem State.regsOk_showQueue (h : s.regsOk) : s.showQueue.regsOk := by
  have hset : ∀ {u : State} {f : Fld} {v : Nat}, u.regsOk → (u.set f v).regsOk := State.regsOk_set
  have hbusy := hset (f := R.COR.BANK_STAT.UPL_BUSY) (v := bit (s.cor.uploads != []))
    (hset (f := R.COR.UPL_STAT.QUEUED) (v := s.cor.uploads.length) h)
  unfold State.showQueue
  dsimp only
  split
  · split
    · exact hset (hset (hset hbusy))
    · exact hset hbusy
  · exact hset hbusy

/-- UPL_DONE shows the oldest completion (R336). -/
theorem State.showUploads_of_completion (hc : s.cor.completions = c :: l) : s.showUploads =
    ((s.showQueue.set R.COR.UPL_DONE.ID c.1).set R.COR.UPL_DONE.STATUS c.2.1).set R.COR.UPL_DONE.REGIONS c.2.2 := by
  unfold State.showUploads State.showQueue
  cases hq : s.cor.uploads with
  | nil => simp only [State.set_cor, hc]
  | cons u r => by_cases hu : u.started <;> simp only [State.set_cor, hc, hu, ↓reduceIte, Bool.false_eq_true]

theorem State.get_doneId_showUploads (h : s.regsOk) (hc : s.cor.completions = c :: l) :
    s.showUploads.get R.COR.UPL_DONE.ID = c.1 % 2 ^ R.COR.UPL_DONE.ID.width := by
  have hz := State.regsOk_showQueue h
  rw [State.showUploads_of_completion hc, State.get_set_ne (State.regsOk_set (State.regsOk_set hz)) doneId_apart.2,
    State.get_set_ne (State.regsOk_set hz) doneId_apart.1, State.get_set_self hz]

theorem State.get_doneStatus_showUploads (h : s.regsOk) (hc : s.cor.completions = c :: l) :
    s.showUploads.get R.COR.UPL_DONE.STATUS = c.2.1 % 2 ^ R.COR.UPL_DONE.STATUS.width := by
  have hz := State.regsOk_showQueue h
  rw [State.showUploads_of_completion hc, State.get_set_ne (State.regsOk_set (State.regsOk_set hz)) doneStatus_apart,
    State.get_set_self (State.regsOk_set hz)]

end ShowUploads

/-! ### GO -/

/-- What GO leaves in UPL_CMD. -/
def State.stageUpload (s : State) (v : Nat) : State :=
  ((s.set R.COR.UPL_CMD.OP v).set R.COR.UPL_CMD.SUPERSEDE (v / 8)).set R.COR.UPL_CMD.ID (v / 256)

/-- The command that GO posts, with its staged operands (R332). -/
def State.goUpload (s : State) (v : Nat) : Upload :=
  { op := bitsOf v 0 3, id := bitsOf v 8 8, first := s.get R.COR.UPL_RGN.FIRST, count := s.get R.COR.UPL_RGN.COUNT
    src := s.get R.COR.UPL_SRC.OFS }

section Go
variable {s : State} {v : Nat}

theorem State.canon_stageUpload (h : s.Canon) : (s.stageUpload v).Canon :=
  ⟨State.regsOk_set (State.regsOk_set (State.regsOk_set h.1)), h.2⟩

theorem State.get_stageUpload (h : s.regsOk) {f : Fld} (hf : besideCommand f) : (s.stageUpload v).get f = s.get f := by
  obtain ⟨hop, hsup, hid⟩ := hf
  rw [State.stageUpload, State.get_set_ne (State.regsOk_set (State.regsOk_set h)) hid,
    State.get_set_ne (State.regsOk_set h) hsup, State.get_set_ne h hop]

theorem State.goUpload_stageUpload (h : s.regsOk) : (s.stageUpload v).goUpload v = s.goUpload v := by
  unfold State.goUpload
  rw [State.get_stageUpload h besideCommand_first, State.get_stageUpload h besideCommand_count,
    State.get_stageUpload h besideCommand_src]

/-- Without SUPERSEDE, GO puts its command behind those that wait (R332). -/
theorem State.uplGo_queues (h : s.regsOk) (hgo : bitsOf v 31 1 = 1) (hsup : bitsOf v 3 1 = 0)
    (hroom : s.cor.uploads.length < 16) :
    s.uplGo v = ((s.stageUpload v).withUploads (s.cor.uploads ++ [s.goUpload v])).showUploads := by
  rw [← State.goUpload_stageUpload h]
  unfold State.uplGo
  dsimp only
  rw [if_neg (by simp [hgo]), if_neg (by simpa using hroom)]
  simp [hsup, State.stageUpload, State.goUpload, State.withUploads]

end Go

/-! ### The next region of a command -/

section Regions
variable {s : State} {x : Upload} {r : List Upload} {t op : Nat}

theorem State.canon_setFlags {b : Nat} {l : List Nat} (h : s.Canon) : (s.setFlags b l).Canon := h

theorem State.uploads_setFlags {b : Nat} {l : List Nat} : (s.setFlags b l).cor.uploads = s.cor.uploads := by
  unfold State.setFlags
  dsimp only
  split <;> rfl

theorem State.uploads_setHead (h : s.Canon) : (s.setHead x).cor.uploads = x :: s.cor.uploads.drop 1 :=
  congrArg CorSt.uploads (State.cor_showUploads (State.canon_withUploads (q := x :: s.cor.uploads.drop 1) h))

/-- Putting a region advances the command at the head by one (R333). -/
theorem State.uploads_putRegion (h : s.Canon) (hq : s.cor.uploads = x :: r) {bytes : List Byte} {flag : Bool} :
    (s.putRegion x bytes flag).cor.uploads =
      { x with done := x.done + 1, status := if x.done + 1 = x.count then 1 else 0 } :: r := by
  have hwrite := State.keeps_dramWrite (port := 1) (a := s.bankBase s.stagingBank + 4096 * (x.first + x.done))
    (bytes := bytes) (Keep.refl h)
  rw [State.putRegion, State.uploads_setHead (State.canon_setFlags (Keep.canon hwrite)), State.uploads_setFlags,
    Keep.cor hwrite, hq]
  rfl

theorem Upload.started_eta (h : x.started = true) : { x with started := true } = x := by
  cases x
  cases h
  rfl

theorem State.uplMayRun_of_started (h0 : x.status = 0) (hst : x.started = true) (hf : s.frozen B.cor = false) :
    s.uplMayRun x = true := by
  simp [State.uplMayRun, h0, hst, hf]

/-- A running command whose source carries no mark and, where it is packed, decodes puts its next region (R333, R334). -/
theorem State.uplRegion_puts (h : s.Canon) (hq : s.cor.uploads = x :: r) (hrun : s.uplMayRun x = true)
    (hst : x.started = true)
    (hread : x.op ≠ 4 → (s.dramBytes 3 (s.upbuf + x.src + x.done * srcBytes x.op) (srcBytes x.op)).2.2 = false)
    (hdecode : x.op = 1 ∨ x.op = 2 ∨ x.op = 4 ∨
      (unlossless80 (leNat (s.dramBytes 3 (s.upbuf + x.src + x.done * srcBytes x.op) (srcBytes x.op)).2.1)).isSome) :
    ∃ (z : State) (bytes : List Byte) (flag : Bool), z.Keeps .butCor s ∧ s.uplRegion x.op = z.putRegion x bytes flag := by
  have hs : s.Keeps .butCor s := Keep.refl h
  have hsrc := State.keeps_dramBytes hs (port := 3) (a := s.upbuf + x.src + x.done * srcBytes x.op) (n := srcBytes x.op)
  unfold State.uplRegion
  rw [hq]
  dsimp only
  rw [if_neg (by simp [hrun]), if_neg (by simp [hst])]
  simp only [Upload.started_eta hst]
  split
  next => exact ⟨_, _, _, hs, rfl⟩
  next hunit =>
    rw [if_neg (by simp [hread hunit])]
    split
    next => exact ⟨_, _, _, hsrc, rfl⟩
    next hcopy =>
      split
      next =>
        split
        · exact ⟨_, _, _, hsrc, rfl⟩
        · exact ⟨_, _, _, State.count_good _ _ _ May.butCor_fld hsrc, rfl⟩
      next hpack =>
        split
        · exact ⟨_, _, _, hsrc, rfl⟩
        next hnone => simp [hcopy, hpack, hunit, hnone] at hdecode

/-- What the four commands of an operation do while it runs: the command at the head advances by one (R333). -/
theorem State.gives_uplStep {c : Instr} (hs : s.up) (hr : s.role = .tile) (hq : s.cor.uploads = x :: r) (hop : x.op = op)
    (h0 : x.status = 0) (hst : x.started = true) (hf : s.frozen B.cor = false)
    (hc : exec c s = runIn .tile (fun s => (s.tick t).uplStep op) s)
    (hread : x.op ≠ 4 → ((s.tick t).dramBytes 3 (s.upbuf + x.src + x.done * srcBytes x.op) (srcBytes x.op)).2.2 = false)
    (hdecode : x.op = 1 ∨ x.op = 2 ∨ x.op = 4 ∨ (unlossless80 (leNat
      ((s.tick t).dramBytes 3 (s.upbuf + x.src + x.done * srcBytes x.op) (srcBytes x.op)).2.1)).isSome) :
    s.gives c fun u => u.cor.uploads =
      { x with done := x.done + 1, status := if x.done + 1 = x.count then 1 else 0 } :: r := by
  subst hop
  obtain ⟨z, bytes, flag, hz, hput⟩ := State.uplRegion_puts (s := s.tick t) hs.2 hq
    (State.uplMayRun_of_started h0 hst hf) hst hread hdecode
  refine State.gives_of_runIn hs hr hc (u := (z.putRegion x bytes flag).memSettle (s.tick t).chStates)
    (congrArg (State.memSettle · _) hput) ?_
  rw [State.cor_memSettle (State.canon_putRegion (Keep.canon hz))]
  exact State.uploads_putRegion (Keep.canon hz) ((congrArg CorSt.uploads (Keep.cor hz)).trans hq)

end Regions

/-! ### The end of a command -/

section CommandEnd
variable {s : State} {x : Upload} {r : List Upload}

/-- An error of COR leaves its pending events pending. -/
theorem State.raised_err {k code source a : Nat} (h : s.regsOk) (hk : k < 32) (hr : s.raised B.cor k = true) :
    (s.err B.cor code source a).raised B.cor k = true := by
  have hset : ∀ {u : State} (f : Fld) (v : Nat), u.regsOk ∧ u.raised B.cor k = true → f ∈ (errFields B.cor).take 7 →
      (u.set f v).regsOk ∧ (u.set f v).raised B.cor k = true :=
    fun f _ hu hf => ⟨State.regsOk_set hu.1, (State.raised_set hu.1 (pend_not_errField f hf)).trans hu.2⟩
  unfold State.err
  split
  · exact hr
  · have hcount := hset (R.PG.ERR_COUNT B.cor) (min (s.get (R.PG.ERR_COUNT B.cor) + 1) 255) ⟨h, hr⟩ (by simp [errFields])
    dsimp only
    split
    · exact (hset (R.PG.ERR_OVERFLOW B.cor) 1 hcount (by simp [errFields])).2
    · have hvalid := hset (R.PG.ERR_VALID B.cor) 1 hcount (by simp [errFields])
      have hcode := hset (R.PG.ERR_CODE B.cor) code hvalid (by simp [errFields])
      have hsource := hset (R.PG.ERR_SOURCE B.cor) source hcode (by simp [errFields])
      have hlow := hset (R.PG.ERR_ADDR_LO B.cor) (a % 2 ^ 32) hsource (by simp [errFields])
      have hhigh := hset (R.PG.ERR_ADDR_HI B.cor) (a / 2 ^ 32) hlow (by simp [errFields])
      exact State.raised_ev hhigh.1 hk hhigh.2

theorem State.live_cor (h : s.role = .tile) : s.live B.cor = true := by
  rw [State.live_of_pageAt pageAt_cor, h]
  rfl

/-- Of the correction unit a post changes the completions alone (R336). -/
theorem State.keeps_postUpload (h : s.Canon) :
    (s.postUpload x).Keeps .butCor (s.withCompletions (s.cor.completions ++ [(x.id, x.status, x.done)])) := by
  have hev := State.ev_good (May.butCor_part (by decide)) (fun _ => May.butCor_fld) _ B.cor Ev.COR.UPL_DONE
    (Keep.refl (State.canon_withCompletions (l := s.cor.completions ++ [(x.id, x.status, x.done)]) h))
  unfold State.postUpload
  dsimp only
  split
  · exact hev
  · apply State.err_good
    case hs => exact hev
    all_goals simp [May.butCor_part, May.butCor_fld]

theorem State.raised_postUpload (h : s.Canon) (hr : s.role = .tile) : (s.postUpload x).raised B.cor Ev.COR.UPL_DONE = true := by
  have hok := (State.canon_withCompletions (l := s.cor.completions ++ [(x.id, x.status, x.done)]) h).1
  have hev := State.raised_ev_self (b := B.cor) (k := Ev.COR.UPL_DONE) hok (State.live_cor hr) uploadDone_lt
  unfold State.postUpload
  dsimp only
  split
  · exact hev
  · exact State.raised_err (State.regsOk_ev hok) uploadDone_lt hev

/-- A COPY that has ended leaves the queue and posts its completion (R336). -/
theorem State.uplEnd_of_ended (hq : s.cor.uploads = x :: r) (hop : x.op = 1) (hst : x.status ≠ 0) :
    s.uplEnd = ((s.withUploads r).postUpload x).showUploads := by
  unfold State.uplEnd
  rw [hq]
  simp [hop, hst, State.withUploads]

end CommandEnd

/-- Settles O38: a region goes to the staging bank and advances the head of the queue, whichever of the four operations wrote
it; the other commands change the queue or the completions and show them. -/
theorem uploadCommands : Obligations.UploadCommands := by
  unfold Obligations.UploadCommands
  refine ⟨?go, ?copy, ?pack, ?packed, ?unit, ?finish, ?read⟩
  case go =>
    intro s v t hs hr hgo hsup hroom
    have hqueued : (((s.tick t).stageUpload v).withUploads ((s.tick t).cor.uploads ++ [(s.tick t).goUpload v])).Canon :=
      State.canon_withUploads (State.canon_stageUpload hs.2)
    refine State.gives_of_runIn (f := fun s => (s.tick t).uplGo v) hs hr rfl
      (State.uplGo_queues (s := s.tick t) hs.2.1 hgo hsup hroom) ⟨?_, ?_⟩
    · exact congrArg CorSt.uploads (State.cor_showUploads hqueued)
    · rw [State.get_busy_showUploads hqueued]
      simp [State.withUploads, bit, R.COR.BANK_STAT.UPL_BUSY]
  case copy =>
    intro s t x r hs hr hq hop h0 hst hf hgood
    exact State.gives_uplStep hs hr hq hop h0 hst hf rfl (fun _ => hop ▸ hgood) (.inl hop)
  case pack =>
    intro s t x r hs hr hq hop h0 hst hf hgood
    exact State.gives_uplStep hs hr hq hop h0 hst hf rfl (fun _ => hop ▸ hgood) (.inr (.inl hop))
  case packed =>
    intro s t x r hs hr hq hop h0 hst hf hgood hdecode
    exact State.gives_uplStep hs hr hq hop h0 hst hf rfl (fun _ => hop ▸ hgood) (.inr (.inr (.inr (hop ▸ hdecode))))
  case unit =>
    intro s t x r hs hr hq hop h0 hst hf
    exact State.gives_uplStep hs hr hq hop h0 hst hf rfl (fun hunit => absurd hop hunit) (.inr (.inr (.inl hop)))
  case finish =>
    intro s t x r hs hr hq hop hst
    have hrest : ((s.tick t).withUploads r).Canon := State.canon_withUploads hs.2
    have hpost := State.keeps_postUpload (x := x) hrest
    have hcor := (State.cor_showUploads (Keep.canon hpost)).trans (Keep.cor hpost)
    refine State.gives_of_runIn (f := fun s => (s.tick t).uplEnd) hs hr rfl
      (State.uplEnd_of_ended (s := s.tick t) hq hop hst) ⟨congrArg CorSt.uploads hcor, congrArg CorSt.completions hcor, ?_⟩
    exact (congrArg (bitAt · _) (State.get_showUploads (Keep.canon hpost) pend_not_uploadField)).trans (State.raised_postUpload hrest hr)
  case read =>
    intro s t c d r hs hr hc
    have hrest : ((s.tick t).withCompletions (s.cor.completions.drop 1)).Canon := State.canon_withCompletions hs.2
    have hnext : s.cor.completions.drop 1 = d :: r := congrArg (List.drop 1) hc
    exact State.gives_of_runIn (f := fun s => (s.tick t).uplDoneRead) hs hr rfl rfl
      ⟨(congrArg CorSt.completions (State.cor_showUploads hrest)).trans hnext,
        State.get_doneId_showUploads hrest.1 hnext, State.get_doneStatus_showUploads hrest.1 hnext⟩

end Sys2Proof.Machine

/-!
What a module outside service does: a sag stops every command but a reset, and the outputs are held (spec/13_rails_faults_energy.md,
spec/20_outputs.md).
-/
namespace Sys2Proof.Machine

/-! ### A sagged module -/

theorem run_of_sagged {f : State → State} {s : State} (h : s.power = .sagged) : run f s = .fault .undefinedAfterSag := by
  unfold run
  rw [h]

/-- Settles O3: the three resets aside, a command either asks `run` or looks at the power itself, and both answer a sag with the
fault. -/
theorem saggedModuleStops : Obligations.SaggedModuleStops := by
  intro s c hsag hup hloss hreset
  cases c with
  | powerUp us => exact absurd rfl (hup us)
  | internal5vLoss => exact absurd rfl hloss
  | resetN ns => exact absurd rfl (hreset ns)
  | resetRelease | modrst | shutdownRestart =>
    simp only [exec, execResetRelease, execModrst, execShutdownRestart, hsag]
  | _ =>
    unfold exec
    exact run_of_sagged hsag

/-! ### Outputs outside service -/

section Outputs
variable {s : State} {p : Pin}

/-- A held output of a module with power has the level of Table 20-5. -/
theorem State.pinLevel_of_held (hp : s.power = .running ∨ s.power = .held ∨ s.power = .hot) (h : s.held p = true) :
    s.pinLevel p = some (s.restLevel p) := by
  unfold State.pinLevel
  obtain hp | hp | hp := hp <;> rw [hp] <;> exact if_pos h

/-- In reset every output is held (R571). -/
theorem State.held_of_inReset (hp : s.power = .held ∨ s.power = .hot) : s.held p = true := by
  have hreset : s.inResetNow = true := by
    obtain hp | hp := hp <;> simp [State.inResetNow, hp]
  have hrails : ∀ c, s.railDriven c = false := by
    intro c
    obtain hp | hp := hp <;> simp [State.railDriven, hp]
  cases p <;> simp [State.held, State.scanOff, hreset, hrails]

/-- A sender drives no scan-out (R9). -/
theorem State.scanOff_of_sender (hr : s.role = .sender) : s.scanOff = true := by simp [State.scanOff, hr]

/-- A sender drives no rail (R9). -/
theorem State.railDriven_of_sender (hr : s.role = .sender) (c : Nat) : s.railDriven c = false := by simp [State.railDriven, hr]

end Outputs

/-- Settles O14: each output is held, so it has its level of Table 20-5. -/
theorem outputsOutsideService : Obligations.OutputsOutsideService := by
  unfold Obligations.OutputsOutsideService
  refine ⟨fun s p hp => State.pinLevel_of_held (.inr hp) (State.held_of_inReset hp), ?_, ?_⟩
  · intro s k hp hr
    have hscan := State.scanOff_of_sender hr
    have hrail := State.railDriven_of_sender hr k
    have level : ∀ p, s.held p = true → s.pinLevel p = some (s.restLevel p) := fun p => State.pinLevel_of_held (.inl hp)
    exact ⟨level _ (by simp [State.held, hscan]), level _ (by simp [State.held, hscan]), level _ (by simp [State.held, hscan]),
      level _ (by simp [State.held, hscan]), level _ (by simp [State.held, hrail]), level _ (by simp [State.held, hrail])⟩
  · intro s l hp hr hl
    have level : ∀ p, s.held p = true → s.pinLevel p = some (s.restLevel p) := fun p => State.pinLevel_of_held (.inl hp)
    exact ⟨level _ (by simp [State.held, hl, hr]), level _ (by simp [State.held, hr]), level _ (by simp [State.held, hr])⟩

end Sys2Proof.Machine

/-!
Statements of chapters 12 to 18 that the model does not meet: for each a running state on which the command answers otherwise.
-/
namespace Sys2Proof.Machine

-- One kernel evaluation at a time: started side by side they need more threads than memory allows.
set_option Elab.async false

section Answers
variable {s : State} {c : Instr} {f : State → State} {role : Role} {P : State → Prop}

/-- What a command gives on a running module holds of the state that its function answers. -/
theorem State.holds_of_gives (hs : s.up) (hc : exec c s = run f s) (h : s.gives c P) : P (f s) := by
  obtain ⟨u, hu, hP⟩ := h
  have hnext : f s = u := Host.Outcome.next.inj ((run_of_up hs).symm.trans (hc.symm.trans hu))
  exact hnext ▸ hP

/-- The same for a command of one role. -/
theorem State.holds_of_givesIn (hs : s.up) (hr : s.role = role) (hc : exec c s = runIn role f s) (h : s.gives c P) : P (f s) := by
  obtain ⟨u, hu, hP⟩ := h
  have hnext : f s = u := Host.Outcome.next.inj ((runIn_of_up hs hr).symm.trans (hc.symm.trans hu))
  exact hnext ▸ hP

end Answers

/-! ### A band flips only where a cycle begins (R364) -/

/-- A tile in mode 2D with two rows of scan-out, whose only band has been loaded, in the middle of a cycle. -/
noncomputable def midCycle : State :=
  let s := wit .tile [(R.DEP.MODE_CUR.TIMING, 1), (R.DEP.MODE_CUR.SCAN, 1), (R.PG.EN B.scn, 1)]
  { s with dep := { s.dep with last := some 0 }, scn := { s.scn with bands := [{ loadAt := some 0 }] } }

theorem midCycle_up : midCycle.up := up_of (by decide +kernel)

theorem midCycle_waits : (((midCycle.tick 1500).flipBand 0).band 0).loadAt ≠ none := by decide +kernel

/-- Refutes O40: its clause of BAND_FLIP does not ask that a cycle ends, and within a cycle the loaded band waits (R364). -/
theorem not_bandsAndTimetable : ¬ Obligations.BandsAndTimetable := by
  rintro ⟨-, -, hflip, -⟩
  obtain ⟨hload, -⟩ := State.holds_of_givesIn (f := fun s => (s.tick 1500).flipBand 0) midCycle_up (by decide +kernel) rfl
    (hflip midCycle 0 1500 0 midCycle_up (by decide +kernel) (by decide +kernel) (by decide +kernel) (by decide +kernel)
      (by decide +kernel) (by decide +kernel) (by decide +kernel))
  exact midCycle_waits hload

/-! ### A PULSE entry may drive TICKOUT as well (R113, Table 4-12) -/

/-- Where TICKOUT follows PULSE entries without an offset, its pulse comes after that of the GPIO. -/
theorem State.getLast?_out_launchPulse {s : State} {e : Entry} (hon : s.tickoutOn = true) (hsrc : s.get R.DEP.TICKOUT_CFG.SRC = 2)
    (hofs : s.tickoutOfs = 0) (ht : s.launchTime e = none) :
    ∃ width pol w, (s.launchPulse e).out.getLast? = some (.pulse 0 width pol w) := by
  have hnow : s.cycleOf s.wall = 0 := by simp [State.cycleOf]
  have hboth : (s.launchPulse e).out = s.out ++ [.pulse (2 + e.arg % 16) (bitsOf e.arg 8 8 * 1000) 1 s.wall] ++
      [.pulse 0 (1000 * clampN 1 255 (s.get R.DEP.TICKOUT_CFG.WIDTH)) (s.get R.DEP.TICKOUT_CFG.POL) (s.wall + 0)] := by
    unfold State.launchPulse
    simp only [ht, hofs, Option.getD_none]
    rw [if_pos (by simp [hon, hsrc, hnow])]
    rfl
  exact ⟨_, _, _, hboth ▸ List.getLast?_concat⟩

/-- A tile with valid time whose TICKOUT follows PULSE entries, with one of GPIO 0 armed for a departure of no schedule. -/
noncomputable def tickoutPulse : State :=
  let s := wit .tile [(R.DEP.TICKOUT_CFG.EN, 1), (R.DEP.TICKOUT_CFG.SRC, 2), (R.TIM.TIM_STAT.TIME_VALID, 1)]
  { s with dep := { s.dep with board := [(0, { time := 0, action := 7, form := 1, lateOk := 0, arg := 256, ofs := 0, state := .armed })] } }

/-- What PULSE does at its launch. -/
def State.pulseEntry (s : State) : State := (s.tick 0).launchInstant 0 7 false (fun e s => s.launchPulse e)

theorem tickoutPulse_up : tickoutPulse.up := up_of (by decide +kernel)

theorem tickoutPulse_launches :
    tickoutPulse.pulseEntry = ((tickoutPulse.tick 0).fire 0 false).launchPulse (tickoutPulse.entry 0) := by
  have htime : (tickoutPulse.tick 0).launchTime (tickoutPulse.entry 0) = none := by decide +kernel
  have harmed : ¬ ((tickoutPulse.tick 0).frozen B.dep || ((tickoutPulse.tick 0).entry 0).state != .armed ||
      ((tickoutPulse.tick 0).entry 0).action != 7) = true := by decide +kernel
  have hvalid : ¬ (!(tickoutPulse.tick 0).timeValid) = true := by decide +kernel
  unfold State.pulseEntry State.launchInstant
  simp only [show (tickoutPulse.tick 0).entry 0 = tickoutPulse.entry 0 from rfl, htime]
  exact (if_neg harmed).trans (if_neg hvalid)

/-- Refutes O21: its clause of PULSE says that the pulse of the GPIO is the last output, and where TICKOUT_CFG.SRC selects PULSE
entries the pulse of TICKOUT follows it (R113). -/
theorem not_boardSteps : ¬ Obligations.BoardSteps := by
  rintro ⟨-, -, -, hpulse, -⟩
  obtain ⟨hout, -⟩ := State.holds_of_gives (f := State.pulseEntry) tickoutPulse_up rfl
    (hpulse tickoutPulse 0 false 0 tickoutPulse_up (by decide +kernel) (by decide +kernel) (by decide +kernel) (by decide +kernel))
  obtain ⟨width, pol, w, hlast⟩ := State.getLast?_out_launchPulse (s := (tickoutPulse.tick 0).fire 0 false)
    (e := tickoutPulse.entry 0) (by decide +kernel) (by decide +kernel) (by decide +kernel) (by decide +kernel)
  rw [tickoutPulse_launches, hlast] at hout
  have hpin : 0 = 2 + (tickoutPulse.entry 0).arg % 16 := (Out.pulse.inj (Option.some.inj hout)).1
  omega

/-! ### Latches of zones (R401) -/

/-- A tile whose LATCH_LO holds a bit above its 32 zones. -/
noncomputable def wideLatch : State := { wit .tile [] with regs := [(R.LFM.LATCH_LO.ZONES.key, 2 ^ 32)] }

theorem wideLatch_up : wideLatch.up := up_of (by decide +kernel)

theorem wideLatch_stays :
    ((wideLatch.tick 0).latchClear (2 ^ 32)).bit64 R.LFM.LATCH_LO.ZONES R.LFM.LATCH_HI.ZONES 32 = true := by decide +kernel

theorem wideLatch_clears :
    (wideLatch.bit64 R.LFM.LATCH_LO.ZONES R.LFM.LATCH_HI.ZONES 32 && !bitAt (2 ^ 32) 32) = false := by decide +kernel

/-- Refutes O42: its clause of LATCH_CLEAR does not bound the latches by the width of their fields, as the clause after it does;
a bit above LATCH_LO reads as zone 32 and no write reaches it. -/
theorem not_auxAndLatches : ¬ Obligations.AuxAndLatches := by
  rintro ⟨-, -, hclear, -⟩
  have hall := State.holds_of_givesIn (f := fun s => (s.tick 0).latchClear (2 ^ 32)) wideLatch_up (by decide +kernel) rfl
    (hclear wideLatch (2 ^ 32) 0 wideLatch_up (by decide +kernel) (by decide +kernel))
  have hzone := beq_iff_eq.mp (List.all_eq_true.mp hall 32 (by decide))
  rw [wideLatch_stays, wideLatch_clears] at hzone
  exact Bool.noConfusion hzone

/-! ### A resilver whose source goes OFFLINE (R417, R418) -/

/-- A tile whose channel 0 resilvers from channel 1, which is DEGRADED, waits for a resilver of its own and goes OFFLINE with its
next mismatch; the first word of its copy is one. -/
noncomputable def brokenSource : State :=
  let s := wit .tile [(R.MEM.CH_STAT.STATE 0, Ch.fill), (R.MEM.CH_STAT.FILLED 0, 1), (R.MEM.CH_STAT.STATE 1, Ch.degraded),
    (R.MEM.OFFLINE_CFG.THR 1, 1)]
  { s with mem := { s.mem with resilver := [0, 1], par := [(1, 1)] } }

theorem brokenSource_up : brokenSource.up := up_of (by decide +kernel)

theorem brokenSource_none : ((brokenSource.tick 0).resilverDone 0).mem.resilver = [] := by decide +kernel

/-- Refutes O43: its clause of RESILVER_DONE says that only the channel itself leaves the resilvers; a mismatch of the source that
takes it OFFLINE (R417) takes it out as well. -/
theorem not_channelTraining : ¬ Obligations.ChannelTraining := by
  rintro ⟨-, -, -, -, hdone, -⟩
  obtain ⟨-, hres, -⟩ := State.holds_of_gives (f := fun s => (s.tick 0).resilverDone 0) brokenSource_up rfl
    (hdone brokenSource 0 0 brokenSource_up (by decide) (by decide +kernel) (by decide +kernel) (by decide +kernel)
      (by decide +kernel) (by decide +kernel) (by decide +kernel))
  exact absurd (brokenSource_none.symm.trans hres) (by decide +kernel)

/-! ### The walk of the patrol reader (R436) -/

/-- A sender whose patrol reader is past the first region of a pass that had no bank when it began. -/
noncomputable def midPass : State :=
  let s := wit .sender [(R.PAR.PAT_CTRL.EN, 1), (R.PG.EN B.par, 1), (R.PAR.PAT_SIZE.MIB, 1)]
  { s with mem := { s.mem with patRegion := 1 } }

theorem midPass_up : midPass.up := up_of (by decide +kernel)

theorem midPass_restarts : (midPass.tick 0).patrolRead.mem.patRegion = 0 := by decide +kernel

/-- Refutes O45: its clause of PATROL_READ reads the banks from the registers, and a pass keeps those with which it began; the walk
that PAT_SIZE gives now counts for the next pass. -/
theorem not_memoryAccess : ¬ Obligations.MemoryAccess := by
  rintro ⟨-, -, -, -, hread, -⟩
  obtain ⟨-, hregion, -⟩ := State.holds_of_gives (f := fun s => (s.tick 0).patrolRead) midPass_up rfl
    (hread midPass 0 0 256 midPass_up (by decide +kernel) (by decide +kernel) (by decide +kernel) (by decide +kernel))
  exact absurd (midPass_restarts.symm.trans hregion) (by decide +kernel)

/-! ### A word of on-die SRAM with a poison mark (R434) -/

/-- A sender whose register SLEW_MAX holds 5 in a word that carries a poison mark; its service port is up. -/
noncomputable def poisonedWord : State :=
  let s := wit .sender [(R.TIM.SLEW_MAX.V, 5), (R.PG.EN B.svp, 1), (R.SVP.SVP_STAT.LINK_UP, 1)]
  { s with mem := { s.mem with sram := [0x8120] } }

theorem poisonedWord_up : poisonedWord.up := up_of (by decide +kernel)

theorem poisonedWord_host : ((poisonedWord.tick 0).barAccess 0 0x8120 4 none).out = [.hostData 0 0x8120 4 5 true] := by
  decide +kernel

/-- Refutes O46: its clause of a BAR0 read says that the data carry no poison, and does not ask that the word has no mark (R434). -/
theorem not_hostAccess : ¬ Obligations.HostAccess := by
  rintro ⟨hread, -⟩
  have hout := State.holds_of_gives (f := fun s => (s.tick 0).barAccess 0 0x8120 4 none) poisonedWord_up rfl
    (hread poisonedWord 0 0 poisonedWord_up (by decide) (by decide +kernel) (by decide +kernel) (by decide +kernel))
  exact absurd (poisonedWord_host.symm.trans hout) (by decide +kernel)

/-- A datagram that reads that register. -/
noncomputable def readDgram : Dgram :=
  { from_ := { ip := 0, udp := 0, at_ := 0 }, udp := poisonedWord.get R.SVP.SVP_UDP.PORT, seq := 0, slot := 0, count := 1
    addr := 0x8120, data := [] }

theorem poisonedWord_service : ((poisonedWord.tick 0).svpTake readDgram (fun s => s.serviceReg readDgram 1)).out.getLast? =
    some (.service readDgram.from_ 1 0 0 [0, 0, 0, 0]) := by decide +kernel

/-- Refutes O55: its clause of REG_READ does not ask that the word has no poison mark; a marked one is recorded and reads as 0. -/
theorem not_servicePort : ¬ Obligations.ServicePort := by
  rintro ⟨-, -, -, -, hread, -⟩
  obtain ⟨hout, -⟩ := State.holds_of_gives (f := fun s => (s.tick 0).svpTake readDgram (fun s => s.serviceReg readDgram 1))
    poisonedWord_up rfl (hread poisonedWord readDgram 0 poisonedWord_up (by decide +kernel) (by decide +kernel) rfl rfl
      (by decide +kernel))
  exact absurd (poisonedWord_service.symm.trans hout) (by decide +kernel)

/-- A LAYER descriptor that reads L_DST_XY of layer 0. -/
noncomputable def readLayer : Desc := { q := 0, idx := 0, bytes := [1, 0, 0, 0, 0, 0, 0, 0] ++ toBytes 8 0x71104 ++ toBytes 4 1, epoch := 0 }

/-- A sender with that descriptor in a queue of class LAYER, whose register holds 5 in a word that carries a poison mark. -/
noncomputable def poisonedLayer : State :=
  let s := wit .sender [(R.PG.EN B.que, 1), (R.LAY.L_DST_XY.DX 0, 5), (R.QCX.Q_CTRL.CLASS 0, 1)]
  { s with mem := { s.mem with sram := [0x71100] }, que := { s.que with descs := [readLayer] } }

theorem poisonedLayer_up : poisonedLayer.up := up_of (by decide +kernel)

theorem poisonedLayer_out : ((poisonedLayer.tick 0).layerReg 0 0 1).out =
    [.hostWrite 0 24 [0, 0, 0, 0], .hostWrite 0 56 [0, 0, 0, 0, 1, 0, 0, 0]] := by decide +kernel

/-- Refutes O48: its clause of LAYER READ does not ask that the word has no poison mark; a marked one is recorded and reads as 0. -/
theorem not_localDescriptors : ¬ Obligations.LocalDescriptors := by
  rintro ⟨hread, -⟩
  obtain ⟨-, hdata⟩ := State.holds_of_gives (f := fun s => (s.tick 0).layerReg 0 0 1) poisonedLayer_up rfl
    (hread poisonedLayer 0 0 0 readLayer poisonedLayer_up (by decide +kernel) (by decide) (by decide +kernel) (by decide +kernel)
      (by decide +kernel) (by decide +kernel) (by decide +kernel) (by decide +kernel) (by decide +kernel) (by decide +kernel)
      (by decide +kernel) (by decide +kernel) (by decide +kernel))
  rw [poisonedLayer_out] at hdata
  exact absurd hdata (by decide +kernel)

/-! ### BROKEN of a housekeeping channel (R510) -/

/-- A module whose BROKEN of channel 0, a field of one bit, holds 2. -/
noncomputable def wideBroken : State := { wit .tile [] with regs := [((R.HCH.CH_VAL.BROKEN 0).key, 2)] }

theorem wideBroken_up : wideBroken.up := up_of (by decide +kernel)

theorem wideBroken_stays : ((wideBroken.tick 0).brokenClear 1).get (R.HCH.CH_VAL.BROKEN 0) = 2 := by decide +kernel

/-- Refutes O53: its clause of BROKEN_CLEAR does not bound BROKEN by the width of its field, and `State.up` does not either; only a
channel whose BROKEN is 1 is broken and is cleared. -/
theorem not_housekeeping : ¬ Obligations.Housekeeping := by
  rintro ⟨-, -, -, -, hclear, -⟩
  have hall := State.holds_of_gives (f := fun s => (s.tick 0).brokenClear 1) wideBroken_up rfl (hclear wideBroken 1 0 wideBroken_up)
  have hzero := List.all_eq_true.mp hall 0 (by decide)
  rw [wideBroken_stays] at hzero
  exact absurd hzero (by decide)

end Sys2Proof.Machine

/-!
Rules about the operations of the state that the proofs below share: what a command leaves, events, errors, and loops.
-/
namespace Sys2Proof.Machine

section Commands
variable {s u : State} {c : Instr} {f : State → State} {role : Role} {P : State → Prop}

/-- What a command answers on a running module lists its registers in order, so its fields can be read. -/
theorem State.gives_of_run_ok (hs : s.up) (hc : exec c s = run f s) (hu : f s = u) (h : u.regsOk → P u) : s.gives c P := by
  have hnext : exec c s = .next u := (hc.trans (run_of_up hs)).trans (congrArg _ hu)
  exact ⟨u, hnext, h (State.regsOk_of_next hs hnext)⟩

/-- The same for a command of one role. -/
theorem State.gives_of_runIn_ok (hs : s.up) (hr : s.role = role) (hc : exec c s = runIn role f s) (hu : f s = u)
    (h : u.regsOk → P u) : s.gives c P := by
  have hnext : exec c s = .next u := (hc.trans (runIn_of_up hs hr)).trans (congrArg _ hu)
  exact ⟨u, hnext, h (State.regsOk_of_next hs hnext)⟩

end Commands

section Events
variable {s : State} {b c k j code source a v : Nat} {f : Fld} {z : State}

theorem State.live_of_works (h : s.works b = true) : s.live b = true :=
  (Bool.and_eq_true_iff.mp (Bool.and_eq_true_iff.mp h).1).1

theorem State.live_of_role (h : s.role = z.role) : s.live b = z.live b := by
  unfold State.live
  rw [h]

/-- Of `z` only registers and outputs have changed. -/
def State.Shows (s z : State) : Prop := s = { z with regs := s.regs, out := s.out }

theorem State.Shows.trans {u z : State} (h : s.Shows u) (hu : u.Shows z) : s.Shows z :=
  Eq.trans (h : s = _) (congrArg (fun w : State => { w with regs := s.regs, out := s.out }) hu)

/-- An event changes registers and outputs alone. -/
theorem State.shows_ev : (s.ev b k).Shows s := by
  unfold State.ev
  split
  · exact Keep.foldl_of (P := fun u : State => u = { s with regs := u.regs, out := u.out }) rfl
      fun u g h => by
        split
        · exact congrArg (State.emit · _) h
        · exact h
  · rfl

theorem State.shows_set : (s.set f v).Shows s := rfl

theorem State.shows_evIf {x : Bool} : (s.evIf x b j).Shows s := by
  unfold State.evIf
  split
  · exact State.shows_ev
  · rfl

/-- An error changes registers and outputs alone. -/
theorem State.shows_err : (s.err b code source a).Shows s := by
  unfold State.err
  split
  · exact rfl
  · dsimp only
    split
    · exact State.shows_set.trans State.shows_set
    · exact State.shows_ev.trans (State.shows_set.trans (State.shows_set.trans (State.shows_set.trans
        (State.shows_set.trans (State.shows_set.trans State.shows_set)))))

section Shown
variable (h : s.Shows z)
include h

theorem State.Shows.role : s.role = z.role := by rw [show s = _ from h]
theorem State.Shows.force : s.force = z.force := by rw [show s = _ from h]
theorem State.Shows.frc : s.frc = z.frc := by rw [show s = _ from h]
theorem State.Shows.tim : s.tim = z.tim := by rw [show s = _ from h]
theorem State.Shows.dep : s.dep = z.dep := by rw [show s = _ from h]
theorem State.Shows.mem : s.mem = z.mem := by rw [show s = _ from h]
theorem State.Shows.scn : s.scn = z.scn := by rw [show s = _ from h]
theorem State.Shows.rai : s.rai = z.rai := by rw [show s = _ from h]
theorem State.Shows.lfm : s.lfm = z.lfm := by rw [show s = _ from h]
theorem State.Shows.hkt : s.hkt = z.hkt := by rw [show s = _ from h]
theorem State.Shows.line : s.line = z.line := by rw [show s = _ from h]
theorem State.Shows.clu : s.clu = z.clu := by rw [show s = _ from h]
theorem State.Shows.rdn : s.rdn = z.rdn := by rw [show s = _ from h]
theorem State.Shows.que : s.que = z.que := by rw [show s = _ from h]
theorem State.Shows.mbx : s.mbx = z.mbx := by rw [show s = _ from h]
theorem State.Shows.klc : s.klc = z.klc := by rw [show s = _ from h]
theorem State.Shows.fwu : s.fwu = z.fwu := by rw [show s = _ from h]

end Shown

/-- Counting up writes the counter's field. -/
theorem State.count_eq {n : Nat} : s.count f n = s.set f (min (s.get f + n) (2 ^ f.width - 1)) := rfl

theorem State.canon_err (h : s.Canon) : (s.err b code source a).Canon :=
  Keep.canon (k := .all) (q := s) (by apply State.err_good <;> simp [Keep.refl h])

theorem State.canon_set (h : s.Canon) : (s.set f v).Canon := ⟨State.regsOk_set h.1, h.2⟩

/-- Pending events and the error registers lie at other offsets of a page (Tables 3-4B and 3-4D). -/
theorem pend_ne_errField (hb : b % 0x1000 = 0) (hc : c % 0x1000 = 0) : ∀ f ∈ (errFields c).take 7, (R.PG.EVT_PEND b).key ≠ f.key := by
  intro f hf
  simp only [errFields, List.take, List.mem_cons, List.not_mem_nil, or_false] at hf
  rcases hf with rfl | rfl | rfl | rfl | rfl | rfl | rfl <;>
    simp only [Fld.key, R.PG.EVT_PEND, R.PG.ERR_COUNT, R.PG.ERR_CODE, R.PG.ERR_SOURCE, R.PG.ERR_OVERFLOW, R.PG.ERR_VALID,
      R.PG.ERR_ADDR_LO, R.PG.ERR_ADDR_HI] <;> omega

/-- An error leaves pending events pending, of whichever page. -/
theorem State.raised_err_of_raised (h : s.regsOk) (hb : b % 0x1000 = 0) (hc : c % 0x1000 = 0) (hk : k < 32)
    (hr : s.raised b k = true) : (s.err c code source a).raised b k = true := by
  have hset : ∀ {u : State} (f : Fld) (v : Nat), u.regsOk ∧ u.raised b k = true → f ∈ (errFields c).take 7 →
      (u.set f v).regsOk ∧ (u.set f v).raised b k = true :=
    fun f _ hu hf => ⟨State.regsOk_set hu.1, (State.raised_set hu.1 (pend_ne_errField hb hc f hf)).trans hu.2⟩
  unfold State.err
  split
  · exact hr
  · have hcount := hset (R.PG.ERR_COUNT c) (min (s.get (R.PG.ERR_COUNT c) + 1) 255) ⟨h, hr⟩ (by simp [errFields])
    dsimp only
    split
    · exact (hset (R.PG.ERR_OVERFLOW c) 1 hcount (by simp [errFields])).2
    · have hvalid := hset (R.PG.ERR_VALID c) 1 hcount (by simp [errFields])
      have hcode := hset (R.PG.ERR_CODE c) code hvalid (by simp [errFields])
      have hsource := hset (R.PG.ERR_SOURCE c) source hcode (by simp [errFields])
      have hlow := hset (R.PG.ERR_ADDR_LO c) (a % 2 ^ 32) hsource (by simp [errFields])
      have hhigh := hset (R.PG.ERR_ADDR_HI c) (a / 2 ^ 32) hlow (by simp [errFields])
      exact State.raised_ev hhigh.1 hk hhigh.2

end Events

section Fields
variable {u z : State} {f : Fld} {n : Nat}

/-- A state that lists under the key of `f` what a count in `z` left there reads it. -/
theorem State.get_of_only_count (hu : u.regsOk) (hz : z.regsOk)
    (e : fieldsAt f.only u.regs = fieldsAt f.only (z.count f n).regs) : u.get f = min (z.get f + n) (2 ^ f.width - 1) :=
  (State.get_of_only hu (State.regsOk_set hz) e).trans (State.get_count_self hz)

end Fields

section FirstError
variable {s : State} {b code source a : Nat}

/-- The first error of a page makes ERR_INFO valid (R83). -/
theorem State.get_valid_err (hl : s.live b = true) (h : s.regsOk) (hu : (s.err b code source a).regsOk)
    (hfree : s.get (R.PG.ERR_VALID b) = 0) : (s.err b code source a).get (R.PG.ERR_VALID b) = 1 := by
  have hvalid : ∀ v, (s.set (R.PG.ERR_COUNT b) v).on (R.PG.ERR_VALID b) = false := fun v => by
    rw [State.on, State.get_set_ne h (by simp [Fld.key, R.PG.ERR_VALID, R.PG.ERR_COUNT]), hfree]
    rfl
  have hne {f : Fld} (hf : (R.PG.ERR_VALID b).key ≠ f.key) : (R.PG.ERR_VALID b).only f.key = false := beq_eq_false_iff_ne.mpr hf
  have herr : fieldsAt (R.PG.ERR_VALID b).only (s.err b code source a).regs =
      fieldsAt (R.PG.ERR_VALID b).only ((s.set (R.PG.ERR_COUNT b) (min (s.get (R.PG.ERR_COUNT b) + 1) 255)).set (R.PG.ERR_VALID b) 1).regs := by
    rw [State.err, if_neg (by simp [hl])]
    dsimp only
    rw [if_neg (by simp [hvalid]), State.fieldsAt_ev (hne (by simp only [Fld.key, R.PG.ERR_VALID, R.PG.EVT_PEND]; omega)),
      State.fieldsAt_set64 (hne (by simp only [Fld.key, R.PG.ERR_VALID, R.PG.ERR_ADDR_LO]; omega))
        (hne (by simp only [Fld.key, R.PG.ERR_VALID, R.PG.ERR_ADDR_HI]; omega)),
      State.fieldsAt_set (hne (by simp [Fld.key, R.PG.ERR_VALID, R.PG.ERR_SOURCE])),
      State.fieldsAt_set (hne (by simp [Fld.key, R.PG.ERR_VALID, R.PG.ERR_CODE]))]
  exact State.get_of_only_set (v := 1) hu (State.regsOk_set h) herr

end FirstError

/-! ### An event that stays pending -/

/-- A field at another offset of its page than EVT_PEND. -/
theorem pend_ne_of_offset {b : Nat} {f : Fld} (hb : b % 0x1000 = 0) (hf : f.key / 32 % 0x1000 ≠ 0x18) :
    (R.PG.EVT_PEND b).key ≠ f.key := by
  intro h
  rw [← h] at hf
  simp only [Fld.key, R.PG.EVT_PEND] at hf
  omega

/-- Event `k` of the page at `b` is pending in a register file in order. -/
structure State.Raised (s : State) (b k : Nat) : Prop where
  regs : s.regsOk
  bit : s.raised b k = true

namespace State.Raised
variable {s : State} {b k c j v code source a : Nat} {f : Fld}

theorem of_ev (h : s.regsOk) (hl : s.live b = true) (hk : k < 32) : (s.ev b k).Raised b k :=
  ⟨State.regsOk_ev h, State.raised_ev_self h hl hk⟩

theorem set (h : s.Raised b k) (hf : (R.PG.EVT_PEND b).key ≠ f.key) : (s.set f v).Raised b k :=
  ⟨State.regsOk_set h.regs, (State.raised_set h.regs hf).trans h.bit⟩

theorem ev (h : s.Raised b k) (hk : k < 32) : (s.ev c j).Raised b k :=
  ⟨State.regsOk_ev h.regs, State.raised_ev h.regs hk h.bit⟩

theorem evIf (h : s.Raised b k) (hk : k < 32) {x : Bool} : (s.evIf x c j).Raised b k := by
  unfold State.evIf
  split
  · exact h.ev hk
  · exact h

theorem err (h : s.Raised b k) (hb : b % 0x1000 = 0) (hc : c % 0x1000 = 0) (hk : k < 32) : (s.err c code source a).Raised b k :=
  have hset {u : State} {f : Fld} {v : Nat} (hu : u.regsOk) : (u.set f v).regsOk := State.regsOk_set hu
  ⟨by
    unfold State.err
    split
    · exact h.regs
    · dsimp only
      split
      · exact hset (hset h.regs)
      · exact State.regsOk_ev (hset (hset (hset (hset (hset (hset h.regs)))))),
    State.raised_err_of_raised h.regs hb hc hk h.bit⟩

theorem fault (h : s.Raised b k) (hb : b % 0x1000 = 0) (hc : c % 0x1000 = 0) (hk : k < 32) {x : Bool} :
    (s.fault c x).Raised b k :=
  (h.set (by simp only [Fld.key, R.PG.EVT_PEND, R.PG.FAULT]; omega)).evIf hk

theorem ite (c : Prop) [Decidable c] {x y : State} (hx : c → x.Raised b k) (hy : ¬ c → y.Raised b k) :
    (if c then x else y).Raised b k := by
  split
  · exact hx ‹_›
  · exact hy ‹_›

end State.Raised

/-! ### What a function leaves alone -/

/-- Everything but the parts `l` and the fields `F` may change. -/
def May.but (l : List Part) (F : List Fld) : May := ⟨(· ∉ l), fun g => ∀ f ∈ F, f.key ≠ g.key⟩

section Kept
variable {s z : State} {l : List Part} {F : List Fld} {p : Part} {f : Fld}

@[simp] theorem May.but_part : (May.but l F).part p ↔ p ∉ l := Iff.rfl
@[simp] theorem May.but_fld {g : Fld} : (May.but l F).fld g ↔ ∀ f ∈ F, f.key ≠ g.key := Iff.rfl

theorem Keep.samePart (h : s.Keeps (.but l F) z) (hp : p ∈ l) : s.samePart z p := (h.part p).resolve_left fun hn => hn hp

theorem Keep.sameField (h : s.Keeps (.but l F) z) (hf : f ∈ F) : s.get f = z.get f :=
  (h.fld f).resolve_left fun ⟨_, hg, hk⟩ => hg f hf hk

theorem State.samePart.trans {u : State} (h : u.samePart s p) (hs : s.samePart z p) : u.samePart z p := by
  cases p <;> simp_all [State.samePart]

/-- An update of other parts keeps them as well. -/
theorem Keep.update {u : State} (h : s.Keeps (.but l F) z) (hparts : ∀ p ∈ l, u.samePart s p)
    (hsame : u.regs = s.regs ∧ u.force = s.force ∧ u.mem.dram = s.mem.dram ∧ u.pending = s.pending ∧ u.out = s.out ∧
      u.fresh = s.fresh := by exact ⟨rfl, rfl, rfl, rfl, rfl, rfl⟩) : u.Keeps (.but l F) z := by
  obtain ⟨hregs, hforce, hdram, hpending, hout, hfresh⟩ := hsame
  refine ⟨?_, ?_, ?_, hpending.trans h.pending, hout ▸ h.out, hfresh ▸ h.fresh, fun p => ?_, fun f => ?_⟩
  · exact (congrArg keysRise hregs).mpr h.regs
  · exact (congrArg keysRise hforce).mpr h.force
  · exact (congrArg (Memory.wf zeroB) hdram).mpr h.dram
  · by_cases hp : p ∈ l
    · exact .inr ((hparts p hp).trans (Keep.samePart h hp))
    · exact .inl hp
  · have hget : u.get f = s.get f := by simp only [State.get, hregs]
    exact hget ▸ h.fld f

end Kept

/-- Two keys that differ. -/
theorem Fld.only_of_ne {f g : Fld} (h : f.key ≠ g.key) : f.only g.key = false := beq_eq_false_iff_ne.mpr h

section Loops
variable {s : State} {n : Nat} {g : State → Nat → State}

theorem State.que_forN (h : ∀ s i, (g s i).que = s.que) : (s.forN n g).que = s.que :=
  Keep.foldl_of (P := fun u : State => u.que = s.que) rfl fun u i hu => (h u i).trans hu

theorem State.hkt_forN (h : ∀ s i, (g s i).hkt = s.hkt) : (s.forN n g).hkt = s.hkt :=
  Keep.foldl_of (P := fun u : State => u.hkt = s.hkt) rfl fun u i hu => (h u i).trans hu

theorem State.forN_of {P : State → Prop} {s : State} {n : Nat} {g : State → Nat → State} (h0 : P s)
    (hstep : ∀ u i, i < n → P u → P (g u i)) : P (s.forN n g) := by
  unfold State.forN
  induction n with
  | zero => exact h0
  | succ n ih =>
    rw [List.range_succ, List.foldl_append]
    exact hstep _ n (by omega) (ih fun u i hi => hstep u i (by omega))

theorem State.forN_succ {s : State} {n : Nat} {g : State → Nat → State} : s.forN (n + 1) g = g (s.forN n g) n := by
  simp [State.forN, List.range_succ]

/-- Writing a row of registers leaves each of them with its value. -/
theorem State.get_forN_set {s : State} {n i : Nat} {F : Nat → Fld} {v : Nat → Nat} (h : s.regsOk) (hi : i < n)
    (hF : ∀ j < n, i ≠ j → (F i).key ≠ (F j).key) :
    (s.forN n fun u j => u.set (F j) (v j)).get (F i) = v i % 2 ^ (F i).width := by
  induction n with
  | zero => omega
  | succ n ih =>
    have hregs : (s.forN n fun u j => u.set (F j) (v j)).regsOk :=
      State.forN_of (P := State.regsOk) h fun _ j _ hu => State.regsOk_set hu
    rw [State.forN_succ]
    by_cases hin : i = n
    · subst hin
      exact State.get_set_self hregs
    · rw [State.get_set_ne hregs (hF n (by omega) hin)]
      exact ih (by omega) fun j hj => hF j (by omega)

end Loops

/-! ### What a DRAM read leaves alone (R412, R426) -/

section DramReads
variable {s z : State} {K : Nat → Bool} {port a n c : Nat}

theorem State.fieldsAt_enterOffline (h : belowMem K) : fieldsAt K (s.enterOffline c).regs = fieldsAt K s.regs := by
  have hstate : K (R.MEM.CH_STAT.STATE c).key = false := h.off (by omega)
  have hfilled : K (R.MEM.CH_STAT.FILLED c).key = false := h.off (by omega)
  have hmirror : K (R.MEM.CH_STAT.MIRROR_OK 0).key = false := h.off (by omega)
  have hpend (c : Nat) : K (R.PG.EVT_PEND (B.mem c)).key = false := h.off (by simp only [B.mem]; omega)
  simp [State.enterOffline, State.mirrorLost, State.setCh, State.dropChannel, hstate, hfilled, hmirror, hpend]

theorem State.fieldsAt_mismatchHit (h : belowMem K) : fieldsAt K (s.mismatchHit c).regs = fieldsAt K s.regs := by
  unfold State.mismatchHit
  dsimp only
  split
  · split
    · exact State.fieldsAt_enterOffline h
    · rfl
  · rfl

theorem State.fieldsAt_dramRead (h : belowMem K) : fieldsAt K (s.dramRead port a).1.regs = fieldsAt K s.regs := by
  have hfix : K R.PAR.MIRROR_FIX_CNT.COUNT.key = false := h.off (by decide)
  have herr : K R.PAR.DRAM_ERR_CNT.COUNT.key = false := h.off (by decide)
  have hpend : K (R.PG.EVT_PEND B.par).key = false := h.off (by decide)
  unfold State.dramRead
  split
  · exact State.fieldsAt_dramErr h
  · rfl
  · dsimp only
    split_ifs
    · rfl
    · rfl
    · rw [State.fieldsAt_mismatchHit h, State.fieldsAt_parLog h, State.fieldsAt_ev hpend, State.fieldsAt_count hfix]
      rfl
    · rw [State.fieldsAt_mismatchHit h, State.fieldsAt_dramErr h, State.fieldsAt_ev hpend, State.fieldsAt_count herr]
      rfl

theorem State.fieldsAt_dramBytes (h : belowMem K) : fieldsAt K (s.dramBytes port a n).1.regs = fieldsAt K s.regs := by
  unfold State.dramBytes
  exact fieldsAt_foldl1 (by
    rintro ⟨u, l, p⟩ i
    exact State.fieldsAt_dramRead h) _

theorem State.canon_dramRead (h : s.Canon) : (s.dramRead port a).1.Canon :=
  Keep.canon (k := .all) (q := s) (by apply State.dramRead_good <;> simp [Keep.refl h])

theorem State.canon_dramBytes (h : s.Canon) : (s.dramBytes port a n).1.Canon :=
  Keep.canon (k := .all) (q := s) (by apply State.dramBytes_good <;> simp [Keep.refl h])

/-- A field below the pages of the memory. -/
theorem State.get_dramBytes {f : Fld} (h : s.Canon) (hf : f.key < 0x2200000) : (s.dramBytes port a n).1.get f = s.get f := by
  refine State.get_of_only (State.canon_dramBytes h).1 h.1 (State.fieldsAt_dramBytes fun a l w r ha => Fld.only_of_ne ?_)
  simp only [Fld.key] at hf ⊢
  omega

/-- A DRAM read keeps the parts beside the memory, the outputs and the timers. -/
theorem State.samePart_dramBytes {p : Part} (h : s.Canon) (hp : p ∉ [Part.out, .tim, .mem, .dram]) :
    (s.dramBytes port a n).1.samePart s p := by
  simp only [List.mem_cons, List.not_mem_nil, or_false, not_or] at hp
  obtain ⟨hout, htim, hmem, hdram⟩ := hp
  refine Keep.samePart (l := [p]) (F := []) ?_ (by simp)
  apply State.dramBytes_good <;> simp [Keep.refl h, Ne.symm hout, Ne.symm htim, Ne.symm hmem, Ne.symm hdram]

end DramReads

end Sys2Proof.Machine

/-!
Self-tests (spec/15_tenants_queues_mailboxes.md, Table 15-8): how a test starts, ends and runs again.
-/
namespace Sys2Proof.Machine

/-! ### The parts of a test's start and end -/

/-- The operands of TEST_CTRL are written. -/
def State.askTest (s : State) (id target retries : Nat) : State :=
  ((s.set R.QUE.TEST_CTRL.ID id).set R.QUE.TEST_CTRL.TARGET target).set R.QUE.TEST_CTRL.RETRIES retries

/-- The test that runs, waits or has ended. -/
def State.withTest (s : State) (x : Option (Nat × Nat × Nat)) : State := { s with que := { s.que with test := x } }

/-- TEST_STAT when a test begins. -/
def State.beginTest (s : State) : State :=
  ((s.set R.QUE.TEST_STAT.STATE 1).set R.QUE.TEST_STAT.RESULT 0).count R.QUE.TEST_STAT.TRIES

/-- The test of the housekeeping channels stops the rounds. -/
def State.stopRounds (s : State) : State :=
  ({ s with hkt := { s.hkt with testing := true } }.forN 64 (fun s c => s.set (R.HCH.CH_VAL.STALE c) 1)).set R.HKT.HKT_STAT.STALE 1

section Parts
variable {s : State} {id k n target retries : Nat}

theorem State.canon_askTest (h : s.Canon) : (s.askTest id target retries).Canon :=
  ⟨State.regsOk_set (State.regsOk_set (State.regsOk_set h.1)), h.2⟩

theorem State.get_id_askTest (h : s.Canon) : (s.askTest id target retries).get R.QUE.TEST_CTRL.ID = id % 2 ^ 8 :=
  State.get_of_only_set (State.canon_askTest h).1 h.1 (by simp (decide := true) [State.askTest])

theorem State.get_target_askTest (h : s.Canon) :
    (s.askTest id target retries).get R.QUE.TEST_CTRL.TARGET = target % 2 ^ R.QUE.TEST_CTRL.TARGET.width :=
  State.get_of_only_set (z := s.set R.QUE.TEST_CTRL.ID id) (State.canon_askTest h).1 (State.regsOk_set h.1)
    (by simp (decide := true) [State.askTest])

theorem State.test_withTest {x : Option (Nat × Nat × Nat)} : (s.withTest x).que.test = x := rfl
theorem State.get_withTest {x : Option (Nat × Nat × Nat)} {f : Fld} : (s.withTest x).get f = s.get f := rfl
theorem State.regsOk_withTest {x : Option (Nat × Nat × Nat)} (h : s.regsOk) : (s.withTest x).regsOk := h
theorem State.que_beginTest : s.beginTest.que = s.que := rfl

/-- The test of the housekeeping channels never waits (Table 15-8). -/
theorem State.testGo_rounds (hnone : s.que.test = none) (hid : s.get R.QUE.TEST_CTRL.ID = 3) :
    s.testGo = ((s.set R.QUE.TEST_STAT.TRIES 0).withTest
      (some (3, min (s.get R.QUE.TEST_CTRL.TARGET) (testMax 3), 1))).beginTest.stopRounds := by
  unfold State.testGo
  rw [if_neg (by simp [hnone])]
  simp only [hid]
  rfl

/-- A number that names no test is refused with code 0x14 (R465). -/
theorem State.testGo_unknown (hnone : s.que.test = none) (hid : s.get R.QUE.TEST_CTRL.ID = 7) :
    s.testGo = ((s.set R.QUE.TEST_STAT.TRIES 0).err B.que 0x14 0 0).testEnd 4 0 := by
  unfold State.testGo
  rw [if_neg (by simp [hnone])]
  simp only [hid]
  rfl

theorem State.regsOk_beginTest (h : s.regsOk) : s.beginTest.regsOk := State.regsOk_set (State.regsOk_set (State.regsOk_set h))

theorem State.get_state_beginTest (h : s.regsOk) : s.beginTest.get R.QUE.TEST_STAT.STATE = 1 :=
  State.get_of_only_set (v := 1) (State.regsOk_beginTest h) h (by simp (decide := true) [State.beginTest])

theorem State.get_tries_beginTest (h : s.regsOk) :
    s.beginTest.get R.QUE.TEST_STAT.TRIES = min (s.get R.QUE.TEST_STAT.TRIES + 1) 15 := by
  have hshown := State.regsOk_set (f := R.QUE.TEST_STAT.RESULT) (v := 0) (State.regsOk_set (f := R.QUE.TEST_STAT.STATE) (v := 1) h)
  rw [State.beginTest, State.get_count_self hshown, State.get_set_ne (State.regsOk_set h) (by decide),
    State.get_set_ne h (by decide)]
  rfl

/-- STALE of a housekeeping channel is bit 16 of its word, no field of TEST_STAT. -/
theorem stale_apart {f : Fld} (h : f.lsb < 16) (c : Nat) : f.only (R.HCH.CH_VAL.STALE c).key = false := by
  simp only [Fld.only, Fld.key, R.HCH.CH_VAL.STALE, beq_eq_false_iff_ne]
  omega

theorem State.get_stopRounds {f : Fld} (h : s.regsOk) (hu : s.stopRounds.regsOk) (hf : f.lsb < 16)
    (hk : f.only R.HKT.HKT_STAT.STALE.key = false) : s.stopRounds.get f = s.get f :=
  State.get_of_only hu h (by simp [State.stopRounds, hk, stale_apart hf])

theorem State.que_stopRounds : s.stopRounds.que = s.que :=
  (State.set_que _ _ _).trans (State.que_forN fun s _ => State.set_que s _ _)

theorem State.testing_stopRounds : s.stopRounds.hkt.testing = true :=
  congrArg HktSt.testing ((State.set_hkt _ _ _).trans (State.hkt_forN fun s _ => State.set_hkt s _ _))

/-- What the end of a test shows, and that no test is left. -/
def State.TestEnded (u : State) (result detail : Nat) : Prop :=
  u.que.test = none ∧ u.get R.QUE.TEST_STAT.STATE = 0 ∧
    u.get R.QUE.TEST_STAT.RESULT = result % 2 ^ R.QUE.TEST_STAT.RESULT.width ∧
    u.get R.QUE.TEST_DETAIL.DETAIL = detail % 2 ^ R.QUE.TEST_DETAIL.DETAIL.width

theorem State.testEnded_testEnd {result detail : Nat} (h : s.regsOk) (hu : (s.testEnd result detail).regsOk) :
    (s.testEnd result detail).TestEnded result detail := by
  have hstate := State.regsOk_set (f := R.QUE.TEST_STAT.STATE) (v := 0) h
  have hresult := State.regsOk_set (f := R.QUE.TEST_STAT.RESULT) (v := result) hstate
  refine ⟨congrArg QueSt.test State.shows_ev.que, ?_, ?_, ?_⟩
  · exact State.get_of_only_set (v := 0) hu h (by simp (decide := true) [State.testEnd])
  · exact State.get_of_only_set hu hstate (by simp (decide := true) [State.testEnd])
  · exact State.get_of_only_set hu hresult (by simp (decide := true) [State.testEnd])

/-- The test of the housekeeping channels is not preempted: it ends, and the rounds go on (R465). -/
theorem State.testDone_rounds {result detail : Nat} (ht : s.que.test = some (3, k, n)) (hst : s.get R.QUE.TEST_STAT.STATE = 1) :
    s.testDone result detail = ({ s with hkt := { s.hkt with testing := false } }).testEnd result detail := by
  unfold State.testDone
  rw [ht]
  simp [hst, State.testStop]

/-- A march test that no longer waits runs again (R466). -/
theorem State.testResume_march (ht : s.que.test = some (1, k, n)) (hst : s.get R.QUE.TEST_STAT.STATE = 2)
    (hw : s.testWaits 1 k = false) : s.testResume = (s.withTest (some (1, k, n + 1))).beginTest := by
  unfold State.testResume
  rw [ht]
  simp only [hst, hw]
  rfl

end Parts

/-- Settles O50: the branch of each command that its conditions select, and the fields that it shows. -/
theorem selfTests : Obligations.SelfTests := by
  unfold Obligations.SelfTests
  refine ⟨?start, ?unknown, ?done, ?resume⟩
  case start =>
    intro s target r t hs hnone
    have hask : ((s.tick t).askTest 3 target r).Canon := State.canon_askTest hs.2
    have htries := State.regsOk_set (f := R.QUE.TEST_STAT.TRIES) (v := 0) hask.1
    refine State.gives_of_run_ok (f := fun s => ((s.tick t).askTest 3 target r).testGo) hs rfl
      (State.testGo_rounds hnone (State.get_id_askTest hs.2)) fun hu => ⟨?_, ?_, ?_, State.testing_stopRounds⟩
    · rw [State.que_stopRounds, State.que_beginTest, State.test_withTest, State.get_target_askTest (s := s.tick t) hs.2]
    · exact (State.get_stopRounds (State.regsOk_beginTest (State.regsOk_withTest htries)) hu (by decide) (by decide)).trans (State.get_state_beginTest (State.regsOk_withTest htries))
    · rw [State.get_stopRounds (State.regsOk_beginTest (State.regsOk_withTest htries)) hu (by decide) (by decide), State.get_tries_beginTest (State.regsOk_withTest htries),
        State.get_withTest, State.get_set_self hask.1]
      decide
  case unknown =>
    intro s target r t hs hnone
    have hask : ((s.tick t).askTest 7 target r).Canon := State.canon_askTest hs.2
    refine State.gives_of_run_ok (f := fun s => ((s.tick t).askTest 7 target r).testGo) hs rfl
      (State.testGo_unknown hnone (State.get_id_askTest hs.2)) fun hu => ?_
    obtain ⟨htest, hstate, hresult, -⟩ := State.testEnded_testEnd (State.canon_err (State.canon_set hask)).1 hu
    exact ⟨htest, hstate, hresult⟩
  case done =>
    intro s result detail t k n hs ht hst
    refine State.gives_of_run_ok (f := fun s => (s.tick t).testDone result detail) hs rfl
      (State.testDone_rounds (s := s.tick t) ht hst) fun hu => ?_
    obtain ⟨htest, hstate, hresult, hdetail⟩ :=
      State.testEnded_testEnd (s := { s.tick t with hkt := { s.hkt with testing := false } }) hs.2.1 hu
    exact ⟨htest, hstate, hresult, hdetail, congrArg HktSt.testing State.shows_ev.hkt⟩
  case resume =>
    intro s t k n hs ht hst hw
    exact State.gives_of_run_ok (f := fun s => (s.tick t).testResume) hs rfl
      (State.testResume_march (s := s.tick t) ht hst hw) fun _ => ⟨rfl, State.get_state_beginTest hs.2.1⟩

end Sys2Proof.Machine

/-!
The roles of a pair of senders (spec/16_relief_and_clusters.md): the wait for the lead, stream gaps, the handover and the resync.
-/
namespace Sys2Proof.Machine

/-! ### Where RDN lies -/

theorem pageAt_rdn : pageAt B.rdn = some (.rdn, 0) := by decide +kernel

section Relief
variable {s : State} {p cause : Nat}

theorem State.live_rdn_of_sender (h : s.role = .sender) : s.live B.rdn = true := by
  rw [State.live_of_pageAt pageAt_rdn, h]
  rfl

/-! ### Taking the lead -/

/-- A sender of a dual mode that has waited leads (R472). -/
theorem State.leadWaitEnd_leads (hw : s.works B.rdn = true) (hd : s.dual = true) (hwait : s.rdn.waiting = true)
    (hst : s.get R.RDN.RDN_STAT.STATE = 0) :
    s.leadWaitEnd = ({ s with rdn := { s.rdn with waiting := false } }).set R.RDN.RDN_STAT.STATE 1 := by
  unfold State.leadWaitEnd
  simp [hw, hd, hwait, hst]

/-- A gap of the lead's stream meets the relief by its state (R481). -/
theorem State.streamFail_lead {h : FrameHdr} (hr : s.role = .sender) (hh : (s.stream p).hdr = some h) (hl : h.relief = false) :
    s.streamFail p cause = s.leadFails cause := by
  unfold State.streamFail
  simp [hr, hh, hl]

/-- In a single mode a gap fails the stream of its port (R481). -/
theorem State.streamFail_single (hr : s.role = .tile) (hd : s.dual = false) :
    s.streamFail p cause = s.setStream p { s.stream p with failed := some s.lastDep } := by
  have hdual : (s.setStream p { s.stream p with failed := some s.lastDep }).dual = false := hd
  unfold State.streamFail
  simp only [hr, hdual]
  rfl

/-- A relief that is not ready tells of a lead that fails (R481). -/
theorem State.leadFails_syncing (hw : s.works B.rdn = true) (hst : s.get R.RDN.RDN_STAT.STATE = 2) :
    s.leadFails cause = s.ev B.rdn Ev.RDN.LEAD_FAIL := by
  unfold State.leadFails
  simp [hw, hst]

/-- A ready relief that may switch by itself takes the lead (R481). -/
theorem State.leadFails_ready (hw : s.works B.rdn = true) (hst : s.get R.RDN.RDN_STAT.STATE = 3)
    (hauto : s.on R.RDN.RDN_CFG.AUTO = true) : s.leadFails cause = s.takeLead cause := by
  unfold State.leadFails
  simp [hw, hst, hauto]

/-! ### The handover -/

theorem State.handover_accepts (hf : s.frozen B.rdn = false) (hst : s.get R.RDN.RDN_STAT.STATE = 1)
    (h0 : bitAt (s.get R.RDN.HEALTH.RX) 0 = true) (h1 : bitAt (s.get R.RDN.HEALTH.RX) 1 = true) :
    s.handover = { s with rdn := { s.rdn with handing := true } } := by
  unfold State.handover
  simp [hf, hst, h0, h1]

theorem State.handover_refuses (hf : s.frozen B.rdn = false) (hst : s.get R.RDN.RDN_STAT.STATE ≠ 1) :
    s.handover = (s.ev B.rdn Ev.RDN.HANDOVER_REFUSED).err B.rdn 0x10 0 0 := by
  unfold State.handover
  simp [hf, hst]

theorem State.resync_syncs (hf : s.frozen B.rdn = false) (hd : s.dual = true) : s.resync = s.toSyncing := by
  unfold State.resync
  simp [hf, hd]

end Relief

/-- Settles O51: the branch of each command that the state of RDN selects. -/
theorem leadAndRelief : Obligations.LeadAndRelief := by
  unfold Obligations.LeadAndRelief
  refine ⟨?wait, ?single, ?syncing, ?ready, ?accepted, ?refused, ?resync⟩
  case wait =>
    intro s t hs hr hw hd hwait hst
    exact State.gives_of_runIn (f := fun s => (s.tick t).leadWaitEnd) hs hr rfl
      (State.leadWaitEnd_leads (s := s.tick t) hw hd hwait hst)
      ⟨State.get_set_self (s := { s.tick t with rdn := { s.rdn with waiting := false } }) hs.2.1, rfl⟩
  case single =>
    intro s p t hs hr _ hd
    exact State.gives_of_run (f := fun s => (s.tick t).streamFail p 1) hs rfl (State.streamFail_single (s := s.tick t) hr hd)
      (congrArg StreamSt.failed (State.stream_setStream (s := s.tick t)))
  case syncing =>
    intro s p t h hs hr hw _ hh hl hst
    refine State.gives_of_run (f := fun s => (s.tick t).streamFail p 1) hs rfl
      ((State.streamFail_lead (s := s.tick t) hr hh hl).trans (State.leadFails_syncing (s := s.tick t) hw hst)) ⟨?_, ?_⟩
    · exact State.raised_ev_self hs.2.1 (State.live_of_works (s := s.tick t) hw) (by decide)
    · exact (State.get_ev_ne (s := s.tick t) hs.2.1 (by decide)).trans hst
  case ready =>
    intro s p t h hs hr hw _ hh hl hst hauto
    refine State.gives_of_run_ok (f := fun s => (s.tick t).streamFail p 1) hs rfl
      ((State.streamFail_lead (s := s.tick t) hr hh hl).trans (State.leadFails_ready (s := s.tick t) hw hst hauto)) fun hu => ?_
    have htick : (s.tick t).regsOk := hs.2.1
    have hstate := State.regsOk_set (f := R.RDN.RDN_STAT.STATE) (v := 1) htick
    have hcause := State.regsOk_set (f := R.RDN.RDN_STAT.LAST_CAUSE) (v := 1) hstate
    have hkept : (((s.tick t).set R.RDN.RDN_STAT.STATE 1).set R.RDN.RDN_STAT.LAST_CAUSE 1).get R.RDN.SWITCH_CNT.COUNT =
        s.get R.RDN.SWITCH_CNT.COUNT := State.get_of_only hcause hs.2.1 (by simp (decide := true))
    refine ⟨?_, ?_, congrArg RdnSt.taken State.shows_ev.rdn, ?_, ?_⟩
    · exact State.get_of_only_set (v := 1) hu htick (by simp (decide := true) [State.takeLead])
    · exact State.get_of_only_set (v := 1) hu hstate (by simp (decide := true) [State.takeLead])
    · exact (State.get_of_only_count hu hcause (State.fieldsAt_ev (by decide))).trans
        (congrArg (fun n => min (n + 1) _) hkept)
    · exact State.raised_ev_self (State.regsOk_set hcause) (State.live_rdn_of_sender hr) (by decide)
  case accepted =>
    intro s t hs hr hf hst h0 h1
    exact State.gives_of_runIn (f := fun s => (s.tick t).handover) hs hr rfl
      (State.handover_accepts (s := s.tick t) hf hst h0 h1) rfl
  case refused =>
    intro s t hs hr hf hst
    have hev := State.raised_ev_self (s := s.tick t) (b := B.rdn) (k := Ev.RDN.HANDOVER_REFUSED) hs.2.1
      (State.live_rdn_of_sender hr) (by decide)
    exact State.gives_of_runIn (f := fun s => (s.tick t).handover) hs hr rfl (State.handover_refuses (s := s.tick t) hf hst)
      ⟨congrArg RdnSt.handing (State.shows_err.trans State.shows_ev).rdn,
        State.raised_err_of_raised (State.regsOk_ev hs.2.1) (by decide) (by decide) (by decide) hev⟩
  case resync =>
    intro s t hs hr hf hd
    exact State.gives_of_runIn (f := fun s => (s.tick t).resync) hs hr rfl (State.resync_syncs (s := s.tick t) hf hd)
      ⟨State.get_set_self (s := s.tick t) hs.2.1, rfl, rfl, rfl⟩

end Sys2Proof.Machine

/-!
The cluster (spec/16_relief_and_clusters.md): member records, epoch requests and the loss of the master.
-/
namespace Sys2Proof.Machine

section Cluster
variable {s : State} {r : ClusterRec}

/-- The cluster unit works, so its page is live. -/
theorem State.live_clu_of_cluWorks (h : s.cluWorks = true) : s.live B.clu = true := by
  have hworks : s.works B.clu = true := by simp_all [State.cluWorks]
  simp_all [State.works]

theorem State.sender_of_cluWorks (h : s.cluWorks = true) : s.role = .sender := by simp_all [State.cluWorks]

/-! ### Records -/

/-- The first record of a member that does not claim to be the master is stored (R492). -/
theorem State.clusterState_stores (hw : s.cluWorks = true) (hown : r.member ≠ s.ownMember) (hm : r.member < 32)
    (hflag : bitAt r.flags 0 = false) (hnew : s.recOf r.member = none) : s.clusterState r =
      { s with clu := { s.clu with recs := s.clu.recs.filter (fun o => o.member != r.member) ++ [r] } } := by
  unfold State.clusterState
  simp [hw, hown, hm, hflag, hnew]

/-- A record that claims to be the master beside the one named in MASTER is a conflict (R500). -/
theorem State.clusterState_conflicts (hw : s.cluWorks = true) (hown : r.member ≠ s.ownMember) (hm : r.member < 32)
    (hflag : bitAt r.flags 0 = true) (hother : r.member ≠ s.get R.CLU.CLU_CFG.MASTER) :
    s.clusterState r = s.count R.CLU.CONFLICT.COUNT := by
  unfold State.clusterState
  simp [hw, hown, hm, hflag, hother]

/-! ### Epochs -/

/-- The master prepares the epoch that was asked for (R496). -/
theorem State.epochRequest_prepares (hw : s.cluWorks = true) (hm : s.isMaster = true)
    (hfar : s.depNumber (s.get R.CLU.REQ_DEADLINE.DEADLINE) + 2 ≤ s.depNumber (s.get R.CLU.REQ_FLIP.FLIP))
    (hfree : s.flipHeld = false) (hlost : s.get R.CLU.CLU_STAT.MASTER_LOST = 0) :
    s.epochRequest = (s.issue 1 s.clu.arg).prepare (s.get R.CLU.EPOCH_REQ.EPOCH) (s.depNumber (s.get R.CLU.REQ_FLIP.FLIP))
      (s.depNumber (s.get R.CLU.REQ_DEADLINE.DEADLINE)) := by
  unfold State.epochRequest
  simp [hw, hm, Nat.not_lt.mpr hfar, hfree, State.on, hlost]

theorem State.epochCancel_cancels (hw : s.cluWorks = true) (hm : s.isMaster = true) (hp : s.cluPhase = 1) :
    s.epochCancel = (s.issue 3 s.clu.arg).cancelEpoch s.clu.cEpoch := by
  unfold State.epochCancel
  simp [hw, hm, hp]

/-- A prepared epoch that is cancelled leaves the board and the stops (R498). -/
def State.dropArmed (s : State) (epoch : Nat) : State :=
  if s.clu.armed == some epoch && (s.entry s.cluIdx).state == .armed && (s.entry s.cluIdx).action == 2 &&
      (s.entry s.cluIdx).arg == epoch then
    let u := ({ s with dep := { s.dep with board := s.dep.board.filter (fun x => x.1 != s.cluIdx) } }).showBoard
    u.stopsEntry u.everyStop s.cluIdx ⟨0, 0, 0, 0, 0, 0, .free⟩
  else s

theorem State.cancelEpoch_eq {epoch : Nat} :
    s.cancelEpoch epoch = (s.dropArmed epoch).cluIdle.ev B.clu Ev.CLU.EPOCH_CANCELLED := rfl

theorem State.keeps_dropArmed (h : s.Canon) {epoch : Nat} : (s.dropArmed epoch).Keeps (.but [.role, .clu] []) s := by
  refine Keep.ite ?_ (Keep.refl h)
  apply State.stopsEntry_good <;> try simp
  apply State.showBoard_good <;> try simp
  exact Keep.update (Keep.refl h) (by simp [State.samePart])

/-! ### The loss of the master -/

/-- A PREPARE that is not armed is discarded. -/
def State.dropPrepared (s : State) : State :=
  if s.cluPhase = 1 then { s.cluIdle with clu := { s.cluIdle.clu with acted := (0, 0) } } else s

theorem State.masterLost_shows (hw : s.cluWorks = true) (hm : s.isMaster = false)
    (hlost : s.get R.CLU.CLU_STAT.MASTER_LOST = 0) (hmiss : max 1 (s.get R.CLU.CLU_CFG.LOSS) ≤ s.clu.misses) :
    s.masterLost = ((s.set R.CLU.CLU_STAT.MASTER_LOST 1).ev B.clu Ev.CLU.MASTER_LOST).dropPrepared := by
  unfold State.masterLost
  rw [if_neg (by simp [hw, hm, State.on, hlost, Nat.not_lt.mpr hmiss])]
  rfl

theorem State.get_dropPrepared (h : s.regsOk) (hu : s.dropPrepared.regsOk) {f : Fld}
    (hphase : f.only R.CLU.CLU_STAT.PHASE.key = false) (hpend : f.only R.CLU.EPOCH_PEND.EPOCH.key = false) :
    s.dropPrepared.get f = s.get f := by
  refine State.get_of_only hu h ?_
  unfold State.dropPrepared
  split
  · exact (State.fieldsAt_set hpend).trans (State.fieldsAt_set hphase)
  · rfl

end Cluster

/-- Settles O52: the branch of each command that its conditions select, and what it leaves of the cluster's state. -/
theorem cluster : Obligations.Cluster := by
  unfold Obligations.Cluster
  refine ⟨?record, ?conflict, ?request, ?cancel, ?lost⟩
  case record =>
    intro s r t hs hw hown hm hflag hnew
    exact State.gives_of_runIn (f := fun s => (s.tick t).clusterState r) hs (State.sender_of_cluWorks hw) rfl
      (State.clusterState_stores (s := s.tick t) hw hown hm hflag hnew) rfl
  case conflict =>
    intro s r t hs hw hown hm hflag hother
    exact State.gives_of_runIn (f := fun s => (s.tick t).clusterState r) hs (State.sender_of_cluWorks hw) rfl
      (State.clusterState_conflicts (s := s.tick t) hw hown hm hflag hother) ⟨State.get_count_self (s := s.tick t) hs.2.1, rfl⟩
  case request =>
    intro s t hs hw hm hfar hfree hlost
    refine State.gives_of_runIn_ok (f := fun s => (s.tick t).epochRequest) hs (State.sender_of_cluWorks hw) rfl
      (State.epochRequest_prepares (s := s.tick t) hw hm hfar hfree hlost) fun hu => ?_
    refine ⟨State.get_of_only_set (v := 1) hu hs.2.1 ?_, congrArg CluSt.cmd State.shows_ev.clu,
      congrArg CluSt.cEpoch State.shows_ev.clu, congrArg CluSt.cFlip State.shows_ev.clu,
      congrArg CluSt.cDeadline State.shows_ev.clu, ?_⟩
    · exact (State.fieldsAt_ev (by decide)).trans (State.fieldsAt_set (by decide))
    · exact State.raised_ev_self (State.regsOk_set (State.regsOk_set hs.2.1)) (State.live_clu_of_cluWorks (s := s) hw) (by decide)
  case cancel =>
    intro s t hs hw hm hphase
    have hkept := State.keeps_dropArmed (s := (s.tick t).issue 3 s.clu.arg) hs.2 (epoch := s.clu.cEpoch)
    have hrole := Keep.samePart hkept (p := .role) (by decide)
    have hclu := Keep.samePart hkept (p := .clu) (by decide)
    refine State.gives_of_runIn_ok (f := fun s => (s.tick t).epochCancel) hs (State.sender_of_cluWorks hw) rfl
      ((State.epochCancel_cancels (s := s.tick t) hw hm hphase).trans State.cancelEpoch_eq) fun hu => ⟨?_, ?_, ?_⟩
    · exact State.get_of_only_set (v := 0) hu hkept.regs ((State.fieldsAt_ev (by decide)).trans (State.fieldsAt_set (by decide)))
    · exact (congrArg CluSt.cmd State.shows_ev.clu).trans (congrArg CluSt.cmd hclu)
    · refine State.raised_ev_self (State.regsOk_set (State.regsOk_set hkept.regs)) ?_ (by decide)
      exact (congrArg (fun r => activePage r .clu 0) hrole).trans (State.live_clu_of_cluWorks (s := s) hw)
  case lost =>
    intro s t hs hw hm hlost hmiss
    have hset := State.regsOk_set (s := s.tick t) (f := R.CLU.CLU_STAT.MASTER_LOST) (v := 1) hs.2.1
    have hraised := State.raised_ev_self (b := B.clu) (k := Ev.CLU.MASTER_LOST) hset (State.live_clu_of_cluWorks (s := s) hw) (by decide)
    refine State.gives_of_runIn_ok (f := fun s => (s.tick t).masterLost) hs (State.sender_of_cluWorks hw) rfl
      (State.masterLost_shows (s := s.tick t) hw hm hlost hmiss) fun hu => ⟨?_, ?_⟩
    · exact (State.get_dropPrepared (State.regsOk_ev hset) hu (by decide) (by decide)).trans
        ((State.get_ev_ne hset (by decide)).trans (State.get_set_self (s := s.tick t) hs.2.1))
    · exact (congrArg (bitAt · _) (State.get_dropPrepared (State.regsOk_ev hset) hu (by decide) (by decide))).trans hraised

end Sys2Proof.Machine

/-!
DRAM channels (spec/14_memory_and_integrity.md): a retraining that fails, self-refresh, OFFLINE, RETURN and the BIST.
-/
namespace Sys2Proof.Machine

/-! ### Where the fields of a channel lie (Table 14-9) -/

/-- The fields of channel `c` that its state changes show or read. -/
def channelFields (c : Nat) : List Fld :=
  [R.MEM.CH_STAT.STATE c, R.MEM.CH_STAT.FILLED c, R.MEM.CH_STAT.MARGIN c, R.MEM.CH_CTRL.SR c, R.MEM.TRAIN_CNT.FAILED c,
    R.MEM.BIST_STAT.RESULT c, R.MEM.TEMP.T c, R.MEM.TRAIN_CFG.INTERVAL c, R.MEM.TRAIN_CFG.DT c, R.PG.HW_FREEZE (B.mem c)]

/-- The fields that a change of a channel's state may change elsewhere: the fault of the memory and the check of the mode words. -/
def checkFields : List Fld :=
  [R.PG.FAULT (B.mem 0), R.PG.EVT_PEND (B.mem 0), R.DEP.MODE_CHECK.VALID, R.DEP.MODE_CHECK.RULE, R.DEP.MODE_CHECK.FIELDS,
    R.DEP.MODE_CHECK.EPOCH_PENDING, R.DEP.MODE_CHECK.DEP_PENDING, R.DEP.MODE_CTRL.FB_VALID, R.PG.EVT_PEND B.dep]

theorem channel_beside_check : ∀ c < 4, ∀ f ∈ channelFields c, ∀ g ∈ checkFields, f.only g.key = false := by decide +kernel

theorem channel_beside_err : ∀ c < 4, ∀ f ∈ channelFields c, ∀ g ∈ errFields (B.mem c), f.only g.key = false := by decide +kernel

theorem channel_beside_pend : ∀ c < 4, ∀ f ∈ channelFields c, f.key ≠ (R.PG.EVT_PEND (B.mem c)).key := by decide +kernel

theorem pageAt_mem : ∀ c < 4, pageAt (B.mem c) = some (.mem, c) := by decide +kernel

section Channels
variable {s : State} {c k : Nat} {f : Fld}

theorem State.live_mem (hc : c < 4) : s.live (B.mem c) = true := by
  rw [State.live_of_pageAt (pageAt_mem c hc)]
  cases s.role <;> rfl

/-! ### The check that follows a change of a channel's state (R412, R419) -/

theorem State.fieldsAt_memCheck {K : Nat → Bool} (h : ∀ g ∈ checkFields, K g.key = false) :
    fieldsAt K s.memCheck.regs = fieldsAt K s.regs := by
  simp only [checkFields, List.forall_mem_cons] at h
  simp [State.memCheck, State.fault, State.evaluate, h]

theorem State.canon_memCheck (h : s.Canon) : s.memCheck.Canon :=
  Keep.canon (k := .all) (q := s) (by apply State.memCheck_good <;> simp [Keep.refl h])

theorem State.get_memCheck (h : s.Canon) (hc : c < 4) (hf : f ∈ channelFields c) : s.memCheck.get f = s.get f :=
  State.get_of_only (State.canon_memCheck h).1 h.1 (State.fieldsAt_memCheck (channel_beside_check c hc f hf))

theorem State.Raised.evaluate {b : Nat} (h : s.Raised b k) (hb : b % 0x1000 = 0) (hk : k < 32) : s.evaluate.Raised b k := by
  have hset {u : State} {f : Fld} {v : Nat} (hu : u.Raised b k) (hf : f.key / 32 % 0x1000 ≠ 0x18) : (u.set f v).Raised b k :=
    hu.set (pend_ne_of_offset hb hf)
  unfold State.evaluate
  exact (hset (hset (hset (hset (hset (hset h (by decide)) (by decide)) (by decide)) (by decide)) (by decide)) (by decide)).evIf hk

theorem State.Raised.memCheck {b : Nat} (h : s.Raised b k) (hb : b % 0x1000 = 0) (hk : k < 32) : s.memCheck.Raised b k :=
  (h.fault hb (by decide) hk).evaluate hb hk

/-! ### Retraining (R416) -/

/-- What a retraining without a working setting leaves before the state of its channel changes. -/
def State.failedTraining (s : State) (c : Nat) : State :=
  { s.count (R.MEM.TRAIN_CNT.FAILED c) with mem := { s.mem with
      retraining := s.mem.retraining.filter (· != c)
      lastTrain := (c, s.frc) :: s.mem.lastTrain.filter (fun e => e.1 != c)
      lastTemp := (c, (s.count (R.MEM.TRAIN_CNT.FAILED c)).get (R.MEM.TEMP.T c)) :: s.mem.lastTemp.filter (fun e => e.1 != c) } }

theorem State.get_failedTraining (h : s.regsOk) (hf : f.key ≠ (R.MEM.TRAIN_CNT.FAILED c).key) :
    (s.failedTraining c).get f = s.get f := State.get_set_ne h hf

/-- A READY channel whose retraining finds no setting becomes DEGRADED. -/
theorem State.retrainEnd_fails (h : s.regsOk) (hin : s.mem.retraining.contains c = true) (hready : s.chState c = Ch.ready) :
    s.retrainEnd c none = ((s.failedTraining c).setCh c Ch.degraded).ev (B.mem c) Ev.MEM.DEGRADED := by
  have hstate : (s.failedTraining c).chState c = Ch.ready :=
    (State.get_failedTraining h (by simp only [Fld.key, R.MEM.CH_STAT.STATE, R.MEM.TRAIN_CNT.FAILED]; omega)).trans hready
  unfold State.retrainEnd
  rw [if_neg (by rw [hin]; decide)]
  exact if_pos hstate

/-- A DEGRADED channel that is not frozen serves. -/
theorem State.chServes_of_degraded (hf : s.get (R.PG.HW_FREEZE (B.mem c)) ≠ 1) (hst : s.chState c = Ch.degraded) :
    s.chServes c = true := by
  simp [State.chServes, State.chFrozen, State.on, hf, hst]

/-- The next retraining of a DEGRADED channel starts when it is due (R415). -/
theorem State.retrainStart_due (hst : s.chState c = Ch.degraded) (hf : s.chFrozen c = false) (hdue : s.retrainDue c = true)
    (hin : s.mem.retraining.contains c = false) : s.retrainStart c =
      { s with mem := { s.mem with retraining := s.mem.retraining ++ [c], wanted := s.mem.wanted.filter (· != c) } } := by
  refine if_pos ?_
  rw [State.chUp, hst, hf, hdue, hin]
  decide

end Channels

/-- Settles O11: the channel keeps its margin and serves in DEGRADED; the next retraining changes no field. -/
theorem failedRetrainingDegrades : Obligations.FailedRetrainingDegrades := by
  unfold Obligations.FailedRetrainingDegrades
  refine ⟨?fails, ?starts⟩
  case fails =>
    intro s c t hs hc _ hfrozen hin hready
    have hcount : ((s.tick t).failedTraining c).regsOk := State.regsOk_set hs.2.1
    have hset := State.regsOk_set (f := R.MEM.CH_STAT.STATE c) (v := Ch.degraded) hcount
    have hpend := channel_beside_pend c hc
    have hev {f : Fld} (hf : f ∈ channelFields c) :
        (((s.tick t).failedTraining c).setCh c Ch.degraded |>.ev (B.mem c) Ev.MEM.DEGRADED).get f =
          (((s.tick t).failedTraining c).setCh c Ch.degraded).get f := State.get_ev_ne hset (channel_beside_pend c hc f hf)
    have hkept {f : Fld} (hf : f ∈ channelFields c) (hs' : f.key ≠ (R.MEM.CH_STAT.STATE c).key)
        (hn : f.key ≠ (R.MEM.TRAIN_CNT.FAILED c).key) :
        (((s.tick t).failedTraining c).setCh c Ch.degraded |>.ev (B.mem c) Ev.MEM.DEGRADED).get f = s.get f :=
      (hev hf).trans ((State.get_set_ne hcount hs').trans (State.get_failedTraining (s := s.tick t) hs.2.1 hn))
    have hstate := (hev (f := R.MEM.CH_STAT.STATE c) (by simp [channelFields])).trans (State.get_set_self hcount)
    have hstill : _ = s.get (R.PG.HW_FREEZE (B.mem c)) := hkept (by simp [channelFields])
      (by simp only [Fld.key, R.MEM.CH_STAT.STATE, R.PG.HW_FREEZE, B.mem]; omega)
      (by simp only [Fld.key, R.MEM.TRAIN_CNT.FAILED, R.PG.HW_FREEZE, B.mem]; omega)
    refine State.gives_of_run (f := fun s => (s.tick t).retrainEnd c none) hs rfl
      (State.retrainEnd_fails (s := s.tick t) hs.2.1 hin hready) ⟨?_, hstate, ?_, ?_, ?_, ?_⟩
    · exact congrArg MemSt.retraining State.shows_ev.mem
    · exact State.chServes_of_degraded (hstill.trans_ne (by simpa [State.chFrozen, State.on] using hfrozen)) hstate
    · exact hkept (by simp [channelFields]) (by simp only [Fld.key, R.MEM.CH_STAT.STATE, R.MEM.CH_STAT.MARGIN]; omega)
        (by simp only [Fld.key, R.MEM.TRAIN_CNT.FAILED, R.MEM.CH_STAT.MARGIN]; omega)
    · exact (hev (by simp [channelFields])).trans ((State.get_set_ne hcount
        (by simp only [Fld.key, R.MEM.CH_STAT.STATE, R.MEM.TRAIN_CNT.FAILED]; omega)).trans (State.get_count_self (s := s.tick t) hs.2.1))
    · exact State.raised_ev_self hset (State.live_mem hc) (by decide)
  case starts =>
    intro s c t hs hc hdegraded hfrozen hdue hin
    refine State.gives_of_run (f := fun s => (s.tick t).retrainStart c) hs rfl
      (State.retrainStart_due (s := s.tick t) hdegraded hfrozen hdue hin) ⟨rfl, hdegraded, ?_⟩
    exact State.chServes_of_degraded (s := s) (by simpa [State.chFrozen, State.on] using hfrozen) hdegraded

/-! ### Self-refresh, OFFLINE, RETURN and the BIST (R417, R418, R420, R421) -/

section States
variable {s : State} {c : Nat} {f : Fld} {bad : Option Nat}

theorem State.srEnter_sender (hr : s.role = .sender) (hst : s.chState c = Ch.ready) (hf : s.chFrozen c = false) :
    s.srEnter c = s.enterSr c := by
  unfold State.srEnter
  simp [State.isTile, hr, hst, hf]

theorem State.srEnter_refused (hst : s.chState c ≠ Ch.ready) : s.srEnter c = s.err (B.mem c) 0x15 0 0 := by
  unfold State.srEnter
  simp [hst]

/-- The channel is told to leave self-refresh. -/
def State.wakeCh (s : State) (c : Nat) : State := (s.set (R.MEM.CH_CTRL.SR c) 0).ev (B.mem c) Ev.MEM.SR_EXIT

theorem State.get_wakeCh (h : s.regsOk) (hc : c < 4) (hf : f ∈ channelFields c) (hsr : f.key ≠ (R.MEM.CH_CTRL.SR c).key) :
    (s.wakeCh c).get f = s.get f :=
  (State.get_ev_ne (State.regsOk_set h) (channel_beside_pend c hc f hf)).trans (State.get_set_ne h hsr)

theorem State.retrainDue_wakeCh (h : s.regsOk) (hc : c < 4) : (s.wakeCh c).retrainDue c = s.retrainDue c := by
  have hmem : (s.wakeCh c).mem = s.mem := (State.shows_ev.trans State.shows_set).mem
  have hfrc : (s.wakeCh c).frc = s.frc := (State.shows_ev.trans State.shows_set).frc
  have hget {f : Fld} := State.get_wakeCh (s := s) (c := c) (f := f) h hc
  unfold State.retrainDue
  rw [hmem, hfrc, hget (by simp [channelFields]) (by simp only [Fld.key, R.MEM.TEMP.T, R.MEM.CH_CTRL.SR]; omega),
    hget (by simp [channelFields]) (by simp only [Fld.key, R.MEM.TRAIN_CFG.INTERVAL, R.MEM.CH_CTRL.SR]; omega),
    hget (by simp [channelFields]) (by simp only [Fld.key, R.MEM.TRAIN_CFG.DT, R.MEM.CH_CTRL.SR]; omega)]

/-- A channel of a sender that leaves self-refresh late trains (R420). -/
theorem State.srExit_trains (h : s.regsOk) (hr : s.role = .sender) (hc : c < 4) (hst : s.chState c = Ch.selfRefresh)
    (hdue : s.retrainDue c = true) : s.srExit c = ((s.wakeCh c).setCh c Ch.train).memCheck := by
  have hstate : (s.set (R.MEM.CH_CTRL.SR c) 0).chState c = Ch.selfRefresh :=
    (State.get_set_ne h (by simp only [Fld.key, R.MEM.CH_STAT.STATE, R.MEM.CH_CTRL.SR]; omega)).trans hst
  have hleaves : s.leaveSr c = (s.wakeCh c).setCh c Ch.train := by
    unfold State.leaveSr
    rw [if_neg (by rw [hstate]; decide)]
    exact if_pos ((State.retrainDue_wakeCh h hc).trans hdue)
  unfold State.srExit
  rw [hleaves, if_neg (by simp [State.isTile, hr])]

theorem channel_beside_mirror : ∀ c < 4, ∀ f ∈ channelFields c,
    f.only (R.MEM.CH_STAT.MIRROR_OK 0).key = false ∧ f.only (R.PG.EVT_PEND (B.mem 0)).key = false := by decide +kernel

theorem State.canon_mirrorLost (h : s.Canon) : s.mirrorLost.Canon :=
  Keep.canon (k := .all) (q := s) (by apply State.mirrorLost_good <;> simp [Keep.refl h])

theorem State.get_mirrorLost (h : s.Canon) (hc : c < 4) (hf : f ∈ channelFields c) : s.mirrorLost.get f = s.get f := by
  obtain ⟨hok, hpend⟩ := channel_beside_mirror c hc f hf
  refine State.get_of_only (State.canon_mirrorLost h).1 h.1 ?_
  unfold State.mirrorLost
  split
  · exact (State.fieldsAt_ev hpend).trans (State.fieldsAt_set hok)
  · rfl

theorem State.Raised.mirrorLost {b k : Nat} (h : s.Raised b k) (hb : b % 0x1000 = 0) (hk : k < 32) : s.mirrorLost.Raised b k :=
  .ite _ (fun _ => (h.set (pend_ne_of_offset hb (by decide))).ev hk) fun _ => h

/-- The state, FILLED and the event of a channel that goes OFFLINE. -/
def State.showOffline (s : State) (c : Nat) : State :=
  ((s.setCh c Ch.offline).set (R.MEM.CH_STAT.FILLED c) 0).ev (B.mem c) Ev.MEM.OFFLINE

/-- The channel is shown OFFLINE, and what the memory held of it is gone (R417). -/
def State.leaveService (s : State) (c : Nat) : State :=
  let u := (s.dropChannel c).showOffline c
  { u with mem := { u.mem with
    retraining := u.mem.retraining.filter (· != c), wanted := u.mem.wanted.filter (· != c)
    toSelfRefresh := u.mem.toSelfRefresh.filter (· != c), queues := putAt u.mem.queues c []
    resilver := u.mem.resilver.filter (· != c) } }

theorem State.enterOffline_eq : s.enterOffline c = if c < 2 then (s.leaveService c).mirrorLost else s.leaveService c := rfl

theorem State.canon_leaveService (h : s.Canon) : (s.leaveService c).Canon := by
  have hdrop : (s.dropChannel c).Canon :=
    Keep.canon (k := .all) (q := s) (by apply State.dropChannel_good <;> simp [Keep.refl h])
  have hshown : ((s.dropChannel c).showOffline c).Canon := State.canon_ev (State.canon_set (State.canon_set hdrop))
  exact hshown

theorem State.canon_enterOffline (h : s.Canon) : (s.enterOffline c).Canon :=
  Keep.canon (k := .all) (q := s) (by apply State.enterOffline_good <;> simp [Keep.refl h])

theorem State.get_enterOffline (h : s.Canon) (hc : c < 4) (hf : f ∈ channelFields c) :
    (s.enterOffline c).get f = ((s.setCh c Ch.offline).set (R.MEM.CH_STAT.FILLED c) 0).get f := by
  have hleft : (s.leaveService c).get f = ((s.setCh c Ch.offline).set (R.MEM.CH_STAT.FILLED c) 0).get f :=
    State.get_ev_ne (s := ((s.dropChannel c).setCh c Ch.offline).set (R.MEM.CH_STAT.FILLED c) 0)
      (State.regsOk_set (State.regsOk_set (s := s.dropChannel c) h.1)) (channel_beside_pend c hc f hf)
  rw [State.enterOffline_eq]
  split
  · exact (State.get_mirrorLost (State.canon_leaveService h) hc hf).trans hleft
  · exact hleft

theorem State.raised_enterOffline (h : s.Canon) (hc : c < 4) : (s.enterOffline c).Raised (B.mem c) Ev.MEM.OFFLINE := by
  have hshown : ((s.dropChannel c).showOffline c).Raised (B.mem c) Ev.MEM.OFFLINE :=
    State.Raised.of_ev (State.regsOk_set (State.regsOk_set (s := s.dropChannel c) h.1)) (State.live_mem hc) (by decide)
  have hleft : (s.leaveService c).Raised (B.mem c) Ev.MEM.OFFLINE := ⟨hshown.regs, hshown.bit⟩
  rw [State.enterOffline_eq]
  exact .ite _ (fun _ => hleft.mirrorLost (by simp only [B.mem]; omega) (by decide)) fun _ => hleft

theorem State.chOffline_leaves (h : s.chUp c = true) : s.chOffline c = (s.enterOffline c).memCheck := if_pos h

/-- A channel that returns trains (R418). -/
def State.startReturn (s : State) (c : Nat) : State :=
  let u := s.setCh c Ch.train
  if u.isTile && c < 2 then { u with mem := { u.mem with resilver := c :: u.mem.resilver.filter (· != c) } } else u

theorem State.regs_startReturn : (s.startReturn c).regs = (s.setCh c Ch.train).regs := by
  unfold State.startReturn
  dsimp only
  split <;> rfl

theorem State.canon_startReturn (h : s.Canon) : (s.startReturn c).Canon := by
  unfold State.startReturn
  dsimp only
  split <;> exact State.canon_set h

theorem State.chReturn_trains (hst : s.chState c = Ch.offline) : s.chReturn c = (s.startReturn c).memCheck := if_pos hst

/-- The only channel awake of a sender at rest is tested (R421). -/
theorem State.bistGo_tests (hr : s.role = .sender) (hst : s.chState c = Ch.ready) (hf : s.chFrozen c = false)
    (hq : s.portsQuiet = true)
    (hrest : (List.range 4).all (fun o => o == c || s.chState o == Ch.selfRefresh || s.chState o == Ch.offline) = true) :
    s.bistGo c = ((s.dropChannel c).set (R.MEM.CH_STAT.FILLED c) 0).set (R.MEM.BIST_STAT.RESULT c) 1 := by
  unfold State.bistGo
  simp only [State.isTile, hr, hst, hf, hq, hrest]
  rfl

/-- What the end of a BIST shows. -/
def State.showBist (s : State) (c : Nat) (bad : Option Nat) : State :=
  let u := s.set (R.MEM.BIST_STAT.RESULT c) (if bad.isSome then 3 else 2)
  (match bad with
    | some a => u.set64 (R.PG.ERR_ADDR_LO (B.mem c)) (R.PG.ERR_ADDR_HI (B.mem c)) a
    | none => u).ev (B.mem c) Ev.MEM.BIST_DONE

theorem State.canon_showBist (h : s.Canon) : (s.showBist c bad).Canon := by
  unfold State.showBist
  cases bad with
  | none => exact State.canon_ev (State.canon_set h)
  | some a => exact State.canon_ev (State.canon_set (State.canon_set (State.canon_set h)))

theorem channel_beside_errAddr : ∀ c < 4, ∀ f ∈ channelFields c,
    f.only (R.PG.ERR_ADDR_LO (B.mem c)).key = false ∧ f.only (R.PG.ERR_ADDR_HI (B.mem c)).key = false := by decide +kernel

theorem State.get_showBist (h : s.Canon) (hc : c < 4) (hf : f ∈ channelFields c) :
    (s.showBist c bad).get f = (s.set (R.MEM.BIST_STAT.RESULT c) (if bad.isSome then 3 else 2)).get f := by
  obtain ⟨hlow, hhigh⟩ := channel_beside_errAddr c hc f hf
  refine State.get_of_only (State.canon_showBist h).1 (State.regsOk_set h.1) ?_
  refine (State.fieldsAt_ev (Fld.only_of_ne (channel_beside_pend c hc f hf))).trans ?_
  cases bad with
  | none => rfl
  | some a => exact State.fieldsAt_set64 hlow hhigh

theorem State.raised_showBist (h : s.regsOk) (hc : c < 4) : (s.showBist c bad).Raised (B.mem c) Ev.MEM.BIST_DONE := by
  unfold State.showBist
  cases bad with
  | none => exact .of_ev (State.regsOk_set h) (State.live_mem hc) (by decide)
  | some a => exact .of_ev (State.regsOk_set (State.regsOk_set (State.regsOk_set h))) (State.live_mem hc) (by decide)

/-- The end of a BIST of a channel that is not OFFLINE makes it fill anew (R421). -/
theorem State.bistDone_fills (h : s.Canon) (hc : c < 4) (hres : s.get (R.MEM.BIST_STAT.RESULT c) = 1)
    (hst : s.chState c ≠ Ch.offline) : s.bistDone c bad = ((s.showBist c bad).setCh c Ch.fill).memCheck := by
  have hstate : (s.showBist c bad).chState c ≠ Ch.offline :=
    ((State.get_showBist h hc (by simp [channelFields])).trans
      (State.get_set_ne h.1 (by simp only [Fld.key, R.MEM.CH_STAT.STATE, R.MEM.BIST_STAT.RESULT]; omega))).trans_ne hst
  unfold State.bistDone
  rw [if_neg (by simp [hres])]
  exact congrArg State.memCheck (if_neg hstate)

end States

/-- Settles O44: what each command writes of the channel's fields, which the check that follows leaves alone. -/
theorem channelStates : Obligations.ChannelStates := by
  unfold Obligations.ChannelStates
  refine ⟨?enter, ?refused, ?leave, ?offline, ?returns, ?test, ?tested⟩
  case enter =>
    intro s c t hs hr hc hst hf
    have htick : (s.tick t).regsOk := hs.2.1
    have hset := State.regsOk_set (f := R.MEM.CH_STAT.STATE c) (v := Ch.selfRefresh) htick
    have hsr := State.regsOk_set (f := R.MEM.CH_CTRL.SR c) (v := 1) hset
    have hev {f : Fld} (hf : f ∈ channelFields c) := State.get_ev_ne (k := Ev.MEM.SR_ENTER) hsr (channel_beside_pend c hc f hf)
    refine State.gives_of_run (f := fun s => (s.tick t).srEnter c) hs rfl (State.srEnter_sender (s := s.tick t) hr hst hf)
      ⟨?_, (hev (by simp [channelFields])).trans (State.get_set_self hset),
        State.raised_ev_self hsr (State.live_mem hc) (by decide)⟩
    exact (hev (f := R.MEM.CH_STAT.STATE c) (by simp [channelFields])).trans ((State.get_set_ne hset
      (by simp only [Fld.key, R.MEM.CH_STAT.STATE, R.MEM.CH_CTRL.SR]; omega)).trans (State.get_set_self htick))
  case refused =>
    intro s c t hs hc hl hst hfree
    refine State.gives_of_run_ok (f := fun s => (s.tick t).srEnter c) hs rfl (State.srEnter_refused (s := s.tick t) hst)
      fun hu => ⟨?_, (State.err_of_free (s := s.tick t) hl hs.2.1 hfree).2, State.get_valid_err (s := s.tick t) hl hs.2.1 hu hfree⟩
    exact State.get_of_only hu hs.2.1 (State.fieldsAt_err (s := s.tick t) (channel_beside_err c hc _ (by simp [channelFields])))
  case leave =>
    intro s c t hs hr hc hst hdue
    have hwake : ((s.tick t).wakeCh c).Canon := State.canon_ev (State.canon_set hs.2)
    have hset : (((s.tick t).wakeCh c).setCh c Ch.train).Canon := State.canon_set hwake
    have hraised : ((s.tick t).wakeCh c).Raised (B.mem c) Ev.MEM.SR_EXIT :=
      .of_ev (State.regsOk_set (s := s.tick t) hs.2.1) (State.live_mem hc) (by decide)
    refine State.gives_of_run (f := fun s => (s.tick t).srExit c) hs rfl
      (State.srExit_trains (s := s.tick t) hs.2.1 hr hc hst hdue) ⟨?_, ?_, ?_⟩
    · exact (State.get_memCheck hset hc (by simp [channelFields])).trans (State.get_set_self hwake.1)
    · rw [State.get_memCheck hset hc (by simp [channelFields]), State.setCh, State.get_set_ne hwake.1
        (by simp only [Fld.key, R.MEM.CH_STAT.STATE, R.MEM.CH_CTRL.SR]; omega), State.wakeCh,
        State.get_ev_ne (State.regsOk_set (s := s.tick t) hs.2.1) (channel_beside_pend c hc _ (by simp [channelFields]))]
      exact State.get_set_self (s := s.tick t) hs.2.1
    · exact ((hraised.set (pend_ne_of_offset (by simp only [B.mem]; omega)
        (by simp only [Fld.key, R.MEM.CH_STAT.STATE]; omega))).memCheck (by simp only [B.mem]; omega) (by decide)).bit
  case offline =>
    intro s c t hs hc _ hup
    have hoff : ((s.tick t).enterOffline c).Canon := State.canon_enterOffline hs.2
    have hget {f : Fld} (hf : f ∈ channelFields c) : ((s.tick t).enterOffline c).memCheck.get f = _ :=
      (State.get_memCheck hoff hc hf).trans (State.get_enterOffline hs.2 hc hf)
    have hset := State.regsOk_set (s := s.tick t) (f := R.MEM.CH_STAT.STATE c) (v := Ch.offline) hs.2.1
    refine State.gives_of_run (f := fun s => (s.tick t).chOffline c) hs rfl (State.chOffline_leaves (s := s.tick t) hup)
      ⟨?_, (hget (by simp [channelFields])).trans (State.get_set_self hset), ?_⟩
    · exact (hget (f := R.MEM.CH_STAT.STATE c) (by simp [channelFields])).trans ((State.get_set_ne hset
        (by simp only [Fld.key, R.MEM.CH_STAT.STATE, R.MEM.CH_STAT.FILLED]; omega)).trans (State.get_set_self (s := s.tick t) hs.2.1))
    · exact ((State.raised_enterOffline (s := s.tick t) hs.2 hc).memCheck (by simp only [B.mem]; omega) (by decide)).bit
  case returns =>
    intro s c t hs hc hst
    refine State.gives_of_run (f := fun s => (s.tick t).chReturn c) hs rfl (State.chReturn_trains (s := s.tick t) hst) ?_
    refine (State.get_memCheck (State.canon_startReturn (s := s.tick t) hs.2) hc (by simp [channelFields])).trans ?_
    exact (congrArg (fun l => lookupD l _ _) State.regs_startReturn).trans (State.get_set_self (s := s.tick t) hs.2.1)
  case test =>
    intro s c t hs hr hc hst hf hq hrest
    have hset := State.regsOk_set (s := (s.tick t).dropChannel c) (f := R.MEM.CH_STAT.FILLED c) (v := 0) hs.2.1
    exact State.gives_of_run (f := fun s => (s.tick t).bistGo c) hs rfl (State.bistGo_tests (s := s.tick t) hr hst hf hq hrest)
      ⟨State.get_set_self hset, (State.get_set_ne hset
        (by simp only [Fld.key, R.MEM.CH_STAT.FILLED, R.MEM.BIST_STAT.RESULT]; omega)).trans
          (State.get_set_self (s := (s.tick t).dropChannel c) hs.2.1)⟩
  case tested =>
    intro s c bad t hs hc hres hst _
    have hshown : ((s.tick t).showBist c bad).Canon := State.canon_showBist hs.2
    have hset : (((s.tick t).showBist c bad).setCh c Ch.fill).Canon := State.canon_set hshown
    refine State.gives_of_run (f := fun s => (s.tick t).bistDone c bad) hs rfl
      (State.bistDone_fills (s := s.tick t) hs.2 hc hres hst) ⟨?_, ?_, ?_⟩
    · rw [State.get_memCheck hset hc (by simp [channelFields]), State.setCh, State.get_set_ne hshown.1
        (by simp only [Fld.key, R.MEM.CH_STAT.STATE, R.MEM.BIST_STAT.RESULT]; omega),
        State.get_showBist (s := s.tick t) hs.2 hc (by simp [channelFields]), State.get_set_self (s := s.tick t) hs.2.1]
      cases bad <;> rfl
    · exact (State.get_memCheck hset hc (by simp [channelFields])).trans (State.get_set_self hshown.1)
    · exact (((State.raised_showBist (s := s.tick t) hs.2.1 hc).set (pend_ne_of_offset (by simp only [B.mem]; omega)
        (by simp only [Fld.key, R.MEM.CH_STAT.STATE]; omega))).memCheck (by simp only [B.mem]; omega) (by decide)).bit

end Sys2Proof.Machine

/-!
Mailbox channels (spec/15_tenants_queues_mailboxes.md, R458): SEND and POP.
-/
namespace Sys2Proof.Machine

/-! ### Channels and what their registers show -/

/-- The registers in which side `k` of channel `c` shows its messages. -/
def sideFields (c k : Nat) : List Fld :=
  [R.MBX.M_STAT.TX_INFLIGHT c k, R.MBX.M_STAT.RX_COUNT c k, R.MBX.M_STAT.RX_POISON c k] ++ (List.range 16).map (R.MBX.RX.DATA c k)

/-- The two sides of a channel and their event register lie apart. -/
theorem side_beside_side : ∀ c < 24, ∀ k < 2, ∀ f ∈ sideFields c k, (R.PG.EVT_PEND (B.mbx c)).key ≠ f.key ∧
    ∀ g ∈ sideFields c (1 - k), f.key ≠ g.key := by decide +kernel

theorem full_beside_side : ∀ c < 24, ∀ k < 2, (R.PG.EVT_PEND (B.mbx c)).key ≠ (R.MBX.M_STAT.TX_FULL c k).key ∧
    ∀ j < 2, ∀ g ∈ sideFields c j, (R.MBX.M_STAT.TX_FULL c k).key ≠ g.key := by decide +kernel

section Channels
variable {s z u : State} {c k i : Nat} {x : MbxChan}

theorem State.chan_of_mbx (h : s.mbx = z.mbx) : s.chan c = z.chan c := by rw [State.chan, h]; rfl

theorem State.Shows.chan (h : s.Shows z) : s.chan c = z.chan c := State.chan_of_mbx h.mbx

theorem State.chan_setChan : (s.setChan c x).chan c = x := by
  unfold State.chan State.setChan
  dsimp only
  split
  · next hx =>
    have hnone : (s.mbx.filter (fun e => e.1 != c)).find? (fun e => e.1 == c) = none := by
      rw [List.find?_eq_none]
      intro e he
      simpa using (List.mem_filter.mp he).2
    rw [hnone, hx]
    rfl
  · simp

theorem MbxChan.sent_setSent {l : List (List Nat × Bool)} (hk : k < 2) (j : Nat) (hj : j < 2) :
    (x.setSent k l).sent j = if j = k then l else x.sent j := by
  have hk' : k = 0 ∨ k = 1 := by omega
  have hj' : j = 0 ∨ j = 1 := by omega
  rcases hk' with rfl | rfl <;> rcases hj' with rfl | rfl <;> rfl

theorem MbxChan.due_setSent {l : List (List Nat × Bool)} : (x.setSent k l).due = x.due := by
  unfold MbxChan.setSent
  split <;> rfl

theorem State.shows_showSide : (s.showSide c k).Shows s := by
  unfold State.showSide
  exact State.forN_of (P := (State.Shows · s)) rfl fun _ i _ hu => State.shows_set.trans hu

theorem State.shows_showChan : (s.showChan c).Shows s := State.shows_showSide.trans State.shows_showSide

/-- What `showSide` writes are the registers of `sideFields`. -/
theorem State.showSide_of {P : State → Prop} (h0 : P s) (hset : ∀ f ∈ sideFields c k, ∀ (u : State) (v : Nat), P u → P (u.set f v)) :
    P (s.showSide c k) := by
  unfold State.showSide
  refine State.forN_of (hset _ (by simp [sideFields]) _ _ (hset _ (by simp [sideFields]) _ _ (hset _ (by simp [sideFields]) _ _ h0)))
    fun u i hi hu => hset _ ?_ _ _ hu
  exact List.mem_append_right _ (List.mem_map_of_mem (List.mem_range.mpr hi))

theorem State.regsOk_showSide (h : s.regsOk) : (s.showSide c k).regsOk :=
  State.showSide_of h fun _ _ _ _ hu => State.regsOk_set hu

theorem State.regsOk_showChan (h : s.regsOk) : (s.showChan c).regsOk := State.regsOk_showSide (State.regsOk_showSide h)

theorem State.get_showSide {f : Fld} (h : s.regsOk) (hf : ∀ g ∈ sideFields c k, f.key ≠ g.key) : (s.showSide c k).get f = s.get f :=
  (State.showSide_of (P := fun u => u.regsOk ∧ u.get f = s.get f) ⟨h, rfl⟩ fun g hg _ _ hu =>
    ⟨State.regsOk_set hu.1, (State.get_set_ne hu.1 (hf g hg)).trans hu.2⟩).2

theorem State.get_showChan {f : Fld} (h : s.regsOk) (hf : ∀ j < 2, ∀ g ∈ sideFields c j, f.key ≠ g.key) :
    (s.showChan c).get f = s.get f :=
  (State.get_showSide (State.regsOk_showSide h) (hf 1 (by omega))).trans (State.get_showSide h (hf 0 (by omega)))

theorem State.Raised.showChan {b j : Nat} (h : s.Raised b j) (hb : ∀ i < 2, ∀ f ∈ sideFields c i, (R.PG.EVT_PEND b).key ≠ f.key) :
    (s.showChan c).Raised b j :=
  State.showSide_of (P := (State.Raised · b j))
    (State.showSide_of (P := (State.Raised · b j)) h fun f hf _ _ hu => hu.set (hb 0 (by omega) f hf))
    fun f hf _ _ hu => hu.set (hb 1 (by omega) f hf)

/-- Side `k` shows how many messages it has in flight, how many wait for it, and the words of the oldest. -/
structure State.SideShown (u : State) (c k : Nat) : Prop where
  inflight : u.get (R.MBX.M_STAT.TX_INFLIGHT c k) = ((u.chan c).sent k).length % 8
  waiting : u.get (R.MBX.M_STAT.RX_COUNT c k) = ((u.chan c).sent (1 - k)).length % 8
  words : ∀ i < 16, u.get (R.MBX.RX.DATA c k i) = ((((u.chan c).sent (1 - k)).map (·.1)).headD []).getD i 0 % 2 ^ 32

theorem State.SideShown.of_get (h : z.SideShown c k) (hchan : u.chan c = z.chan c) (hget : ∀ f ∈ sideFields c k, u.get f = z.get f) :
    u.SideShown c k where
  inflight := by rw [hget _ (by simp [sideFields]), hchan, h.inflight]
  waiting := by rw [hget _ (by simp [sideFields]), hchan, h.waiting]
  words i hi := by
    rw [hget _ (List.mem_append_right _ (List.mem_map_of_mem (List.mem_range.mpr hi))), hchan, h.words i hi]

/-- The words of RX, which a side writes last, lie apart from the counts. -/
theorem rx_beside_counts : ∀ i < 16, (R.MBX.M_STAT.TX_INFLIGHT c k).key ≠ (R.MBX.RX.DATA c k i).key ∧
    (R.MBX.M_STAT.RX_COUNT c k).key ≠ (R.MBX.RX.DATA c k i).key ∧
    ∀ j < 16, i ≠ j → (R.MBX.RX.DATA c k i).key ≠ (R.MBX.RX.DATA c k j).key := by
  intro i hi
  simp only [Fld.key, R.MBX.M_STAT.TX_INFLIGHT, R.MBX.M_STAT.RX_COUNT, R.MBX.RX.DATA]
  refine ⟨by omega, by omega, fun j hj hij => by omega⟩

theorem State.get_rxRow {f : Fld} {v : Nat → Nat} (h : s.regsOk) (hf : ∀ i < 16, f.key ≠ (R.MBX.RX.DATA c k i).key) :
    (s.forN 16 fun u i => u.set (R.MBX.RX.DATA c k i) (v i)).get f = s.get f :=
  (State.forN_of (P := fun u => u.regsOk ∧ u.get f = s.get f) ⟨h, rfl⟩ fun _ i hi hu =>
    ⟨State.regsOk_set hu.1, (State.get_set_ne hu.1 (hf i hi)).trans hu.2⟩).2

theorem State.sideShown_showSide (h : s.regsOk) : (s.showSide c k).SideShown c k := by
  have hchan : (s.showSide c k).chan c = s.chan c := State.shows_showSide.chan
  have hlight := State.regsOk_set (f := R.MBX.M_STAT.TX_INFLIGHT c k) (v := ((s.chan c).sent k).length) h
  have hcount := State.regsOk_set (f := R.MBX.M_STAT.RX_COUNT c k) (v := ((s.chan c).sent (1 - k)).length) hlight
  refine ⟨?_, ?_, fun i hi => ?_⟩ <;> rw [hchan] <;> unfold State.showSide
  · rw [State.get_rxRow (State.regsOk_set hcount) fun i hi => (rx_beside_counts i hi).1,
      State.get_set_ne hcount (by simp only [Fld.key, R.MBX.M_STAT.TX_INFLIGHT, R.MBX.M_STAT.RX_POISON]; omega),
      State.get_set_ne hlight (by simp only [Fld.key, R.MBX.M_STAT.TX_INFLIGHT, R.MBX.M_STAT.RX_COUNT]; omega)]
    exact State.get_set_self h
  · rw [State.get_rxRow (State.regsOk_set hcount) fun i hi => (rx_beside_counts i hi).2.1,
      State.get_set_ne hcount (by simp only [Fld.key, R.MBX.M_STAT.RX_COUNT, R.MBX.M_STAT.RX_POISON]; omega)]
    exact State.get_set_self hlight
  · refine (State.get_forN_set (State.regsOk_set hcount) hi (rx_beside_counts i hi).2.2).trans ?_
    split <;> rename_i heq <;> simp [heq, R.MBX.RX.DATA]

theorem State.sideShown_showChan (h : s.regsOk) (hc : c < 24) (hk : k < 2) : (s.showChan c).SideShown c k := by
  have hshow := State.regsOk_showSide (c := c) (k := 0) h
  rcases show k = 1 ∨ k = 0 by omega with rfl | rfl
  · exact State.sideShown_showSide hshow
  · refine (State.sideShown_showSide h).of_get State.shows_showSide.chan fun f hf => ?_
    exact State.get_showSide hshow ((side_beside_side c hc 0 (by omega) f hf).2)

theorem State.SideShown.ev {b j : Nat} (h : s.SideShown c k) (hs : s.regsOk) (hb : ∀ f ∈ sideFields c k, f.key ≠ (R.PG.EVT_PEND b).key) :
    (s.ev b j).SideShown c k :=
  h.of_get State.shows_ev.chan fun f hf => State.get_ev_ne hs (hb f hf)

/-! ### SEND and POP (R458) -/

/-- The channel after a message of side `k` with room. -/
def State.queueMessage (s : State) (c k : Nat) (m : List Nat × Bool) : State :=
  ((s.setChan c ((s.chan c).setSent k ((s.chan c).sent k ++ [m]))).set (R.MBX.M_STAT.TX_FULL c k) 0).showChan c

theorem State.mbxPut_room {w : List Nat} {p : Bool} (hroom : ((s.chan c).sent k).length < 4) :
    s.mbxPut c k w p = (s.queueMessage c k (w, p)).ev (B.mbx c) (if k = 0 then Ev.MBX.B_MSG else Ev.MBX.A_MSG) :=
  if_neg (by omega)

theorem State.mbxPut_full {w : List Nat} {p : Bool} (hfull : 4 ≤ ((s.chan c).sent k).length) :
    s.mbxPut c k w p = (s.set (R.MBX.M_STAT.TX_FULL c k) 1).count (R.MBX.M_REFUSED.COUNT c k) := if_pos hfull

/-- A SEND puts the words of TX; without a service session nothing more happens. -/
theorem State.mbxSendRelay_puts (hw : s.works (B.mbx c) = true) (hsvc : s.line.svcIn = none) :
    s.mbxSendRelay c k = s.mbxPut c k (s.txWords c k).1 (s.txWords c k).2 := by
  have hsend : s.mbxSend c k = s.mbxPut c k (s.txWords c k).1 (s.txWords c k).2 := by simp [State.mbxSend, hw]
  have hline : (s.mbxSend c k).line = s.line := by
    rw [hsend]
    rcases Nat.lt_or_ge ((s.chan c).sent k).length 4 with h | h
    · rw [State.mbxPut_room h]
      exact (State.shows_ev.trans (State.shows_showChan.trans State.shows_set)).line
    · rw [State.mbxPut_full h]
      rfl
  rw [State.mbxSendRelay, State.mbxRelay, hline, hsvc]
  exact hsend

/-- The oldest message of the other side has left. -/
def State.dropOldest (s : State) (c k : Nat) (r : List (List Nat × Bool)) : State :=
  (s.setChan c ((s.chan c).setSent (1 - k) r)).showChan c

theorem State.mbxPop_drops {m : List Nat × Bool} {r : List (List Nat × Bool)} (hw : s.works (B.mbx c) = true)
    (hm : (s.chan c).sent (1 - k) = m :: r) : s.mbxPop c k =
      (s.dropOldest c k r).evIf (r == []) (B.mbx c) (if k = 1 then Ev.MBX.A_EMPTY else Ev.MBX.B_EMPTY) := by
  unfold State.mbxPop
  dsimp only
  rw [hm]
  simp [hw, State.dropOldest]

theorem State.mcFlush_idle (h : (s.chan c).due = []) : s.mcFlush c = s :=
  State.forN_of (P := (· = s)) rfl fun u _ _ hu => by
    subst hu
    simp [h]

theorem State.chan_queueMessage {m : List Nat × Bool} : (s.queueMessage c k m).chan c = (s.chan c).setSent k ((s.chan c).sent k ++ [m]) :=
  ((State.shows_showChan.trans State.shows_set).chan).trans State.chan_setChan

theorem State.sent_queueMessage {m : List Nat × Bool} (hk : k < 2) :
    ((s.queueMessage c k m).chan c).sent k = (s.chan c).sent k ++ [m] := by
  rw [State.chan_queueMessage, MbxChan.sent_setSent hk k hk, if_pos rfl]

theorem State.live_queueMessage {b : Nat} {m : List Nat × Bool} : (s.queueMessage c k m).live b = s.live b :=
  State.live_of_role State.shows_showChan.role

section Queued
variable {m : List Nat × Bool} (h : s.regsOk)
include h

theorem State.regsOk_queueMessage : (s.queueMessage c k m).regsOk :=
  State.regsOk_showChan (State.regsOk_set (s := s.setChan c _) h)

theorem State.get_full_queueMessage (hc : c < 24) (hk : k < 2) : (s.queueMessage c k m).get (R.MBX.M_STAT.TX_FULL c k) = 0 :=
  (State.get_showChan (State.regsOk_set (s := s.setChan c _) h) (full_beside_side c hc k hk).2).trans
    (State.get_set_self (s := s.setChan c _) h)

theorem State.sideShown_queueMessage (hc : c < 24) (hk : k < 2) : (s.queueMessage c k m).SideShown c k :=
  State.sideShown_showChan (State.regsOk_set (s := s.setChan c _) h) hc hk

end Queued

theorem State.chan_dropOldest {r : List (List Nat × Bool)} : (s.dropOldest c k r).chan c = (s.chan c).setSent (1 - k) r :=
  State.shows_showChan.chan.trans State.chan_setChan

theorem State.SideShown.evIf {b j : Nat} {x : Bool} (h : s.SideShown c k) (hs : s.regsOk)
    (hb : ∀ f ∈ sideFields c k, f.key ≠ (R.PG.EVT_PEND b).key) : (s.evIf x b j).SideShown c k := by
  unfold State.evIf
  split
  · exact h.ev hs hb
  · exact h

/-- After a POP without further traffic the channel has lost its oldest message and both sides show that. -/
theorem State.chan_mbxPop {m : List Nat × Bool} {r : List (List Nat × Bool)} (hw : s.works (B.mbx c) = true)
    (hm : (s.chan c).sent (1 - k) = m :: r) : (s.mbxPop c k).chan c = (s.chan c).setSent (1 - k) r := by
  rw [State.mbxPop_drops hw hm]
  exact State.shows_evIf.chan.trans State.chan_dropOldest

theorem State.sideShown_mbxPop {m : List Nat × Bool} {r : List (List Nat × Bool)} (h : s.regsOk) (hc : c < 24) (hk : k < 2)
    (hw : s.works (B.mbx c) = true) (hm : (s.chan c).sent (1 - k) = m :: r) : (s.mbxPop c k).SideShown c k := by
  rw [State.mbxPop_drops hw hm]
  exact (State.sideShown_showChan (s := s.setChan c _) h hc hk).evIf (State.regsOk_showChan (s := s.setChan c _) h) fun f hf =>
    (side_beside_side c hc k hk f hf).1.symm

theorem State.role_mbxPop : (s.mbxPop c k).role = s.role := by
  unfold State.mbxPop
  dsimp only
  split
  · rfl
  · split
    · rfl
    · exact (State.shows_evIf.trans State.shows_showChan).role

theorem State.raised_mbxPop {m : List Nat × Bool} (h : s.regsOk)
    (hw : s.works (B.mbx c) = true) (hm : (s.chan c).sent (1 - k) = [m]) :
    (s.mbxPop c k).Raised (B.mbx c) (if k = 1 then Ev.MBX.A_EMPTY else Ev.MBX.B_EMPTY) := by
  have hlive : (s.dropOldest c k []).live (B.mbx c) = true :=
    (State.live_of_role (State.shows_showChan.role)).trans (State.live_of_works hw)
  rw [State.mbxPop_drops hw hm]
  exact State.Raised.of_ev (State.regsOk_showChan (s := s.setChan c _) h) hlive (by split <;> decide)

/-! ### What the MC image sends in answer leaves the other direction alone (R462) -/

theorem State.Raised.mbxPut {b j : Nat} {w : List Nat} {p : Bool} (h : s.Raised b j) (hc : c < 24) (hk : k < 2) (hb : b = B.mbx c) (hj : j < 32) :
    (s.mbxPut c k w p).Raised b j := by
  subst hb
  have hfull := (full_beside_side c hc k hk).1
  rcases Nat.lt_or_ge ((s.chan c).sent k).length 4 with hroom | hroom
  · have hset : (s.setChan c ((s.chan c).setSent k ((s.chan c).sent k ++ [(w, p)]))).Raised (B.mbx c) j := ⟨h.regs, h.bit⟩
    rw [State.mbxPut_room hroom]
    refine (State.Raised.showChan (hset.set hfull) fun i hi f hf => ?_).ev hj
    exact (side_beside_side c hc i hi f hf).1
  · rw [State.mbxPut_full hroom]
    exact (h.set hfull).set (by simp only [Fld.key, R.PG.EVT_PEND, R.MBX.M_REFUSED.COUNT, B.mbx]; omega)

theorem State.toB_mbxPut {w : List Nat} {p : Bool} : ((s.mbxPut c 1 w p).chan c).toB = (s.chan c).toB := by
  rcases Nat.lt_or_ge ((s.chan c).sent 1).length 4 with hroom | hroom
  · rw [State.mbxPut_room hroom, State.shows_ev.chan, State.chan_queueMessage]
    rfl
  · rw [State.mbxPut_full hroom]
    rfl

/-- Channel `c` holds no message of side A, and A_EMPTY shows that. -/
structure State.Drained (s : State) (c : Nat) : Prop where
  canon : s.Canon
  empty : (s.chan c).toB = []
  raised : s.raised (B.mbx c) Ev.MBX.A_EMPTY = true

theorem State.Drained.toRaised (h : s.Drained c) : s.Raised (B.mbx c) Ev.MBX.A_EMPTY := ⟨h.canon.1, h.raised⟩

theorem State.Drained.of_same (h : s.Drained c) (hu : u.Canon) (hm : u.mbx = s.mbx)
    (hp : u.get (R.PG.EVT_PEND (B.mbx c)) = s.get (R.PG.EVT_PEND (B.mbx c))) : u.Drained c :=
  ⟨hu, by rw [State.chan_of_mbx hm, h.empty], by rw [State.raised, hp]; exact h.raised⟩

theorem State.Drained.setDue (h : s.Drained c) {d : List (List Nat × Bool)} : (s.setChan c { s.chan c with due := d }).Drained c :=
  ⟨h.canon, by rw [State.chan_setChan]; exact h.empty, h.raised⟩

theorem State.Drained.mbxPut {w : List Nat} {p : Bool} (h : s.Drained c) (hc : c < 24) : (s.mbxPut c 1 w p).Drained c :=
  ⟨Keep.canon (k := .all) (q := s) (by apply State.mbxPut_good <;> simp [Keep.refl h.canon]), State.toB_mbxPut.trans h.empty,
    (h.toRaised.mbxPut hc (by omega) rfl (by decide)).bit⟩

theorem State.Drained.mcFlush (h : s.Drained c) (hc : c < 24) : (s.mcFlush c).Drained c :=
  State.forN_of (P := (State.Drained · c)) h fun u _ _ hu => by
    dsimp only
    split
    · exact hu
    · split
      · exact hu
      · exact hu.setDue.mbxPut hc

theorem State.Drained.mcAnswer {l : List (List Nat × Bool)} (h : s.Drained c) (hc : c < 24) : (s.mcAnswer c l).Drained c :=
  h.setDue.mcFlush hc

theorem State.Drained.mcRefuse {seq why : Nat} (h : s.Drained c) (hc : c < 24) : (s.mcRefuse c seq why).Drained c :=
  h.mcAnswer hc

theorem State.Drained.dramBytes {port a n : Nat} (h : s.Drained c) (hc : c < 24) : (s.dramBytes port a n).1.Drained c :=
  h.of_same (State.canon_dramBytes h.canon) (State.samePart_dramBytes (p := .mbx) h.canon (by decide))
    (State.get_dramBytes h.canon (by simp only [Fld.key, R.PG.EVT_PEND, B.mbx]; omega))

theorem State.Drained.telGet {seq p j : Nat} (h : s.Drained c) (hc : c < 24) : (s.telGet c seq p j).Drained c := by
  unfold State.telGet
  split
  · exact h.mcRefuse hc
  · split
    · exact h.mcRefuse hc
    · exact (h.dramBytes hc).mcAnswer hc

theorem State.Drained.ancBytes {j : Nat} {f : FrameRec} (h : s.Drained c) (hc : c < 24) : (s.ancBytes j f).1.Drained c :=
  Keep.foldl_of (P := fun a : State × List Byte × Bool => a.1.Drained c) h fun _ _ ha => ha.dramBytes hc

theorem State.Drained.ancGet {seq j : Nat} (h : s.Drained c) (hc : c < 24) : (s.ancGet c seq j).Drained c := by
  unfold State.ancGet
  split
  · exact h.mcRefuse hc
  · split
    · exact h.mcRefuse hc
    · exact (h.ancBytes hc).mcAnswer hc

theorem State.Drained.mcServe {m : List Nat × Bool} (h : s.Drained c) (hc : c < 24) : (s.mcServe c m).Drained c := by
  unfold State.mcServe
  split
  · exact h
  · dsimp only
    split
    · exact h.telGet hc
    · split
      · exact h.ancGet hc
      · exact h

/-- In a tile, and on the channels without services, the MC image does not answer. -/
theorem State.mcServe_idle {m : List Nat × Bool} (h : s.role = .tile ∨ 16 ≤ c) : s.mcServe c m = s := by
  unfold State.mcServe
  rcases h with h | h <;> simp [h]

/-- POP of side B hands the message to the MC image. -/
theorem State.mbxTake_serves {m : List Nat × Bool} {r : List (List Nat × Bool)} (hw : s.works (B.mbx c) = true)
    (hm : (s.chan c).sent 0 = m :: r) : s.mbxTake c 1 = (s.mbxPop c 1).mcServe c m := by
  unfold State.mbxTake
  rw [show (s.chan c).toB = m :: r from hm]
  simp [hw]

/-- POP of side A, when no answer waits. -/
theorem State.mbxTake_pops {m : List Nat × Bool} {r : List (List Nat × Bool)} (hw : s.works (B.mbx c) = true)
    (hm : (s.chan c).sent 1 = m :: r) (hdue : (s.chan c).due = []) : s.mbxTake c 0 = s.mbxPop c 0 := by
  have hidle : ((s.mbxPop c 0).chan c).due = [] := by
    rw [State.chan_mbxPop hw hm, MbxChan.due_setSent, hdue]
  unfold State.mbxTake
  simp [hw, State.mcFlush_idle hidle]

end Channels

/-- Settles O13: SEND puts the words of TX or counts the refusal; POP drops the oldest message, and an answer of the MC image goes
the other way. -/
theorem mailboxSendAndPop : Obligations.MailboxSendAndPop := by
  unfold Obligations.MailboxSendAndPop
  refine ⟨?queues, ?refuses, ?pops, ?empties⟩
  case queues =>
    intro s c k t hs hc hk hw hroom hsvc
    have hshow : ((s.tick t).queueMessage c k (s.txWords c k)).regsOk := State.regsOk_queueMessage (s := s.tick t) hs.2.1
    have hput : (s.tick t).mbxSendRelay (c % 24) (k % 2) = ((s.tick t).queueMessage c k (s.txWords c k)).ev (B.mbx c)
        (if k = 0 then Ev.MBX.B_MSG else Ev.MBX.A_MSG) := by
      rw [Nat.mod_eq_of_lt hc, Nat.mod_eq_of_lt hk, State.mbxSendRelay_puts (s := s.tick t) hw hsvc]
      exact State.mbxPut_room (s := s.tick t) hroom
    have hsent := State.sent_queueMessage (s := s.tick t) (c := c) (m := s.txWords c k) hk
    refine State.gives_of_run (f := fun s => (s.tick t).mbxSendRelay (c % 24) (k % 2)) hs rfl hput
      ⟨(congrArg (MbxChan.sent · k) State.shows_ev.chan).trans hsent, ?_, ?_, ?_⟩
    · exact (State.get_ev_ne hshow (full_beside_side c hc k hk).1.symm).trans (State.get_full_queueMessage (s := s.tick t) hs.2.1 hc hk)
    · refine (State.get_ev_ne hshow (side_beside_side c hc k hk _ (by simp [sideFields])).1.symm).trans ?_
      rw [(State.sideShown_queueMessage (s := s.tick t) hs.2.1 hc hk).inflight, hsent, List.length_append]
      exact Nat.mod_eq_of_lt (Nat.lt_of_le_of_lt (Nat.succ_le_of_lt hroom) (by decide))
    · exact State.raised_ev_self hshow (State.live_queueMessage.trans (State.live_of_works (s := s) hw)) (by split <;> decide)
  case refuses =>
    intro s c k t hs hc hk hw hfull hsvc
    have hmark := State.regsOk_set (s := s.tick t) (f := R.MBX.M_STAT.TX_FULL c k) (v := 1) hs.2.1
    have hput : (s.tick t).mbxSendRelay (c % 24) (k % 2) =
        ((s.tick t).set (R.MBX.M_STAT.TX_FULL c k) 1).count (R.MBX.M_REFUSED.COUNT c k) := by
      rw [Nat.mod_eq_of_lt hc, Nat.mod_eq_of_lt hk, State.mbxSendRelay_puts (s := s.tick t) hw hsvc]
      exact State.mbxPut_full (s := s.tick t) hfull
    refine State.gives_of_run (f := fun s => (s.tick t).mbxSendRelay (c % 24) (k % 2)) hs rfl hput ⟨rfl, ?_, ?_, ?_⟩
    · exact (State.get_set_ne hmark (by simp only [Fld.key, R.MBX.M_STAT.TX_FULL, R.MBX.M_REFUSED.COUNT]; omega)).trans
        (State.get_set_self (s := s.tick t) hs.2.1)
    · rw [State.get_count_self hmark, State.get_set_ne (s := s.tick t) hs.2.1
        (by simp only [Fld.key, R.MBX.M_STAT.TX_FULL, R.MBX.M_REFUSED.COUNT]; omega)]
      rfl
    · rw [List.all_eq_true]
      intro i hi
      have hi' := List.mem_range.mp hi
      rw [beq_iff_eq, State.count_eq, State.get_set_ne hmark
        (by simp only [Fld.key, R.MBX.TX.DATA, R.MBX.M_REFUSED.COUNT]; omega)]
      exact State.get_set_ne (s := s.tick t) hs.2.1 (by simp only [Fld.key, R.MBX.TX.DATA, R.MBX.M_STAT.TX_FULL]; omega)
  case pops =>
    intro s c k t m r hs hc hk hw hm hdue hserve
    have htake : (s.tick t).mbxTake c k = (s.tick t).mbxPop c k := by
      rcases show k = 0 ∨ k = 1 by omega with rfl | rfl
      · exact State.mbxTake_pops (s := s.tick t) hw hm hdue
      · rw [State.mbxTake_serves (s := s.tick t) hw hm]
        exact State.mcServe_idle ((hserve rfl).imp State.role_mbxPop.trans id)
    have hchan := State.chan_mbxPop (s := s.tick t) hw hm
    have hside := State.sideShown_mbxPop (s := s.tick t) hs.2.1 hc hk hw hm
    have hleft : ((((s.tick t).mbxPop c k).chan c).sent (1 - k)) = r := by
      rw [hchan, MbxChan.sent_setSent (by omega) (1 - k) (by omega), if_pos rfl]
    refine State.gives_of_run (f := fun s => (s.tick t).mbxTake c k) hs rfl htake ⟨hleft, ?_, ?_, ?_⟩
    · rw [hchan, MbxChan.sent_setSent (by omega) k hk, if_neg (by omega)]
      rfl
    · rw [hside.waiting, hleft]
      rfl
    · rw [List.all_eq_true]
      intro i hi
      rw [beq_iff_eq, hside.words i (List.mem_range.mp hi), hleft]
  case empties =>
    intro s c k t m hs hc hk hw hm hdue
    have hchan := State.chan_mbxPop (s := s.tick t) hw hm
    have hraised := State.raised_mbxPop (s := s.tick t) hs.2.1 hw hm
    have hleft : ((((s.tick t).mbxPop c k).chan c).sent (1 - k)) = [] := by
      rw [hchan, MbxChan.sent_setSent (by omega) (1 - k) (by omega), if_pos rfl]
    rcases show k = 0 ∨ k = 1 by omega with rfl | rfl
    · exact State.gives_of_run (f := fun s => (s.tick t).mbxTake c 0) hs rfl (State.mbxTake_pops (s := s.tick t) hw hm hdue)
        ⟨hleft, hraised.bit⟩
    · have hcanon : ((s.tick t).mbxPop c 1).Canon :=
        Keep.canon (k := .all) (q := s.tick t) (by apply State.mbxPop_good <;> simp [Keep.refl (s := s.tick t) hs.2])
      have hdrained : (((s.tick t).mbxPop c 1).mcServe c m).Drained c :=
        State.Drained.mcServe ⟨hcanon, hleft, hraised.bit⟩ hc
      exact State.gives_of_run (f := fun s => (s.tick t).mbxTake c 1) hs rfl (State.mbxTake_serves (s := s.tick t) hw hm)
        ⟨hdrained.empty, hdrained.raised⟩

end Sys2Proof.Machine

/-!
Rule commits, tenant resets and the mailbox timeout (spec/15_tenants_queues_mailboxes.md, R453 to R459).
-/
namespace Sys2Proof.Machine

theorem pageAt_ten : pageAt B.ten = some (.ten, 0) := by decide +kernel

section Rules
variable {s u : State} {f g : Fld} {n t q c k : Nat}

theorem State.live_ten_of_sender (h : s.role = .sender) : s.live B.ten = true := by
  rw [State.live_of_pageAt pageAt_ten, h]
  rfl

/-! ### The staged slots become the slots in force (R453) -/

theorem State.canon_takeRules (h : s.Canon) : s.takeRules.Canon :=
  Keep.canon (k := .all) (q := s) (by apply State.takeRules_good <;> simp [Keep.refl h])

/-- Moving a stretch of a file keeps what is listed in it. -/
theorem lookupD_map_add {l : List (Nat × Nat)} {d key rst : Nat} :
    lookupD (l.map fun e => (e.1 + d, e.2)) (key + d) rst = lookupD l key rst := by
  induction l with
  | nil => rfl
  | cons e l ih =>
    simp only [List.map_cons, lookupD, ih, Nat.add_right_cancel_iff, Nat.add_lt_add_iff_right]

/-- A field below the slots in force is what it was. -/
theorem State.get_takeRules_below (h : s.Canon) (hf : f.key < 0x150800 * 32) : s.takeRules.get f = s.get f := by
  refine State.get_of_only (State.canon_takeRules h).1 h.1 ?_
  have hmoved : fieldsAt f.only ((s.regs.filter (fun e => 0x150400 * 32 ≤ e.1 && e.1 < 0x150800 * 32)).map (fun e => (e.1 + 0x400 * 32, e.2))) = [] := by
    refine List.filter_eq_nil_iff.mpr fun e he => ?_
    obtain ⟨x, hx, rfl⟩ := List.mem_map.mp he
    have hbound := (List.mem_filter.mp hx).2
    simp only [Bool.and_eq_true, decide_eq_true_eq] at hbound
    simp only [Fld.only, beq_iff_eq]
    omega
  have habove : fieldsAt f.only (s.regs.filter (fun e => 0x150C00 * 32 ≤ e.1)) = [] := by
    refine List.filter_eq_nil_iff.mpr fun e he => ?_
    have hbound := (List.mem_filter.mp he).2
    simp only [decide_eq_true_eq] at hbound
    simp only [Fld.only, beq_iff_eq]
    omega
  have hbelow : fieldsAt f.only (s.regs.filter (fun e => e.1 < 0x150800 * 32)) = fieldsAt f.only s.regs := by
    rw [fieldsAt, List.filter_filter]
    refine List.filter_congr fun e _ => ?_
    simp only [Fld.only, Bool.and_eq_left_iff_imp, beq_iff_eq, decide_eq_true_eq]
    omega
  simp only [fieldsAt] at hmoved habove hbelow ⊢
  simp only [State.takeRules, List.filter_append, hmoved, habove, hbelow, List.append_nil]

/-- A field of a slot in force reads what the staged one held. -/
theorem State.get_takeRules_force (h : s.Canon) (hg : g.key = f.key + 0x400 * 32) (hrst : g.rst = f.rst)
    (hlow : 0x150400 * 32 ≤ f.key) (hhigh : f.key < 0x150800 * 32) : s.takeRules.get g = s.get f := by
  have hforce : fieldsAt g.only s.takeRules.regs = (fieldsAt f.only s.regs).map fun e => (e.1 + 0x400 * 32, e.2) := by
    have hbelow : fieldsAt g.only (s.regs.filter (fun e => e.1 < 0x150800 * 32)) = [] := by
      refine List.filter_eq_nil_iff.mpr fun e he => ?_
      have hbound := (List.mem_filter.mp he).2
      simp only [decide_eq_true_eq] at hbound
      simp only [Fld.only, beq_iff_eq]
      omega
    have habove : fieldsAt g.only (s.regs.filter (fun e => 0x150C00 * 32 ≤ e.1)) = [] := by
      refine List.filter_eq_nil_iff.mpr fun e he => ?_
      have hbound := (List.mem_filter.mp he).2
      simp only [decide_eq_true_eq] at hbound
      simp only [Fld.only, beq_iff_eq]
      omega
    have hmoved : fieldsAt g.only ((s.regs.filter (fun e => 0x150400 * 32 ≤ e.1 && e.1 < 0x150800 * 32)).map
        (fun e => (e.1 + 0x400 * 32, e.2))) = (fieldsAt f.only s.regs).map fun e => (e.1 + 0x400 * 32, e.2) := by
      rw [fieldsAt, List.filter_map, List.filter_filter, fieldsAt]
      refine congrArg (List.map _) (List.filter_congr fun e _ => ?_)
      simp only [Function.comp, Fld.only, hg]
      rw [Bool.eq_iff_iff]
      simp only [Bool.and_eq_true, beq_iff_eq, decide_eq_true_eq]
      omega
    simp only [fieldsAt] at hmoved habove hbelow ⊢
    simp only [State.takeRules, List.filter_append, hmoved, habove, hbelow, List.append_nil, List.nil_append]
  unfold State.get
  rw [← lookupD_fieldsAt g.only_key g.rst (State.canon_takeRules h).1, hforce, hg, hrst, lookupD_map_add,
    lookupD_fieldsAt f.only_key f.rst h.1]

/-- The commit's registers: the epoch counts and the slots drain. -/
def State.countEpoch (s : State) : State :=
  (s.takeRules.set R.TEN.RULE_EPOCH.EPOCH (s.takeRules.get R.TEN.RULE_EPOCH.EPOCH + 1)).set R.TEN.RULE_STAT.DRAINING 1

theorem State.regs_recheckJob : s.recheckJob.regs = s.regs := by
  unfold State.recheckJob
  split
  · rfl
  · split
    · rfl
    · split
      · rfl
      · split <;> rfl

theorem State.ruleCommit_takes (h : s.get R.TEN.RULE_STAT.DRAINING = 0) : s.ruleCommit = s.countEpoch.recheckJob.showOld := by
  unfold State.ruleCommit
  exact if_neg (by simp [State.on, h])

theorem State.ruleCommit_refused (h : s.on R.TEN.RULE_STAT.DRAINING = true) :
    s.ruleCommit = (s.ev B.ten Ev.TEN.RULE_REFUSED).err B.ten 0x11 0 0 := by
  unfold State.ruleCommit
  exact if_pos h

/-- Nothing of an older epoch is under way. -/
theorem State.ruleDone_ends (h : s.regsOk) (hdrain : s.on R.TEN.RULE_STAT.DRAINING = true) (h0 : s.line.tx0.txns = [])
    (h1 : s.line.tx1.txns = []) (hjob : s.klc.job = none) :
    s.ruleDone = ((s.set R.TEN.RULE_STAT.OLD 0).set R.TEN.RULE_STAT.DRAINING 0).ev B.ten Ev.TEN.RULE_DONE := by
  have hold : s.showOld = s.set R.TEN.RULE_STAT.OLD 0 := by simp [State.showOld, h0, h1, hjob]
  unfold State.ruleDone
  rw [hold]
  refine if_pos ?_
  rw [State.on, State.get_set_ne h (by decide), State.get_set_self h]
  simpa [State.on] using hdrain

/-! ### Tenant resets (R455) -/

/-- The fields of a queue that a tenant's reset writes. -/
def contextFields (q : Nat) : List Fld :=
  [R.QCX.Q_CTRL.EN q, R.QCX.Q_INFLIGHT.COUNT q, R.QCX.Q_CTRL.IDLE q, R.QCX.Q_FETCH.IDX q, R.QCX.Q_HEAD.IDX q, R.QCX.Q_TAIL.IDX q]

/-- The role, the queued descriptors and the owners of the queues are those of `s`. -/
structure State.SameOwners (u s : State) : Prop where
  regs : u.regsOk
  role : u.role = s.role
  que : u.que.descs = s.que.descs
  owner : ∀ q, u.qOwner q = s.qOwner q

theorem State.SameOwners.set {v : Nat} (h : u.SameOwners s) (hf : ∀ q, (R.QCX.Q_CTRL.OWNER q).key ≠ f.key) :
    (u.set f v).SameOwners s :=
  ⟨State.regsOk_set h.regs, h.role, h.que, fun q => (State.get_set_ne h.regs (hf q)).trans (h.owner q)⟩

theorem State.SameOwners.queueReset (h : u.SameOwners s) : (u.queueReset q).SameOwners s := by
  have hfields : ∀ f ∈ contextFields q, ∀ p, (R.QCX.Q_CTRL.OWNER p).key ≠ f.key := by
    intro f hf p
    simp only [contextFields, List.mem_cons, List.not_mem_nil, or_false] at hf
    rcases hf with rfl | rfl | rfl | rfl | rfl | rfl <;>
      simp only [Fld.key, R.QCX.Q_CTRL.OWNER, R.QCX.Q_CTRL.EN, R.QCX.Q_INFLIGHT.COUNT, R.QCX.Q_CTRL.IDLE, R.QCX.Q_FETCH.IDX,
        R.QCX.Q_HEAD.IDX, R.QCX.Q_TAIL.IDX] <;> omega
  unfold State.queueReset
  exact (((((h.set (hfields _ (by simp [contextFields]))).set (hfields _ (by simp [contextFields]))).set
    (hfields _ (by simp [contextFields]))).set (hfields _ (by simp [contextFields]))).set
    (hfields _ (by simp [contextFields]))).set (hfields _ (by simp [contextFields]))

theorem owner_beside_side : ∀ c < 24, ∀ k < 2, ∀ f ∈ R.MBX.M_STAT.PEER_RESET c k :: sideFields c k, f.key < 0x30000000 := by decide +kernel

theorem State.SameOwners.mbxReset (h : u.SameOwners s) (hc : c < 24) : (u.mbxReset c [1]).SameOwners s := by
  have hset {z : State} {v k : Nat} {f : Fld} (hz : z.SameOwners s) (hk : k < 2) (hf : f ∈ R.MBX.M_STAT.PEER_RESET c k :: sideFields c k) :
      (z.set f v).SameOwners s :=
    hz.set fun q => by
      have hlow := owner_beside_side c hc k hk f hf
      simp only [Fld.key, R.QCX.Q_CTRL.OWNER] at hlow ⊢
      omega
  have hclear : (u.setChan c {}).SameOwners s := ⟨h.regs, h.role, h.que, h.owner⟩
  have hshow : ((u.setChan c {}).showChan c).SameOwners s :=
    State.showSide_of (P := (State.SameOwners · s)) (State.showSide_of (P := (State.SameOwners · s)) hclear
      fun f hf _ _ hz => hset hz (k := 0) (by omega) (List.mem_cons_of_mem _ hf))
      fun f hf _ _ hz => hset hz (k := 1) (by omega) (List.mem_cons_of_mem _ hf)
  exact hset hshow (k := 1) (by omega) (by simp)

/-- The descriptors of tenant `t` are gone. -/
def State.dropTenant (s : State) (t : Nat) : State :=
  { s with que := { s.que with descs := s.que.descs.filter fun d => !(s.qOwner d.q == t) } }

/-- What a reset of tenant `t` clears before its event. -/
def State.clearTenant (s : State) (t : Nat) : State :=
  let l := s.usedQueues.filter (fun q => s.qOwner q == t)
  let jobs := match s.klc.job with
    | some j => (match j.owner with | some o => s.qOwner o.1 == t | none => false)
    | none => false
  let s := ((s.dropTenant t).discardTxns t 0).discardTxns t 1
  let s := if jobs then
      { s with klc := { s.klc with job := s.klc.job.map (fun j => { j with abort := true, drop := true }) } } else s
  let s := (l.foldl State.queueReset s).showQueues
  (s.set R.QUE.INFLIGHT.COUNT (s.que.descs.filter (fun d => d.result.isNone)).length).mbxReset t [1]

theorem State.tenantReset_eq : s.tenantReset t = (s.clearTenant t).ev B.ten Ev.TEN.FLR := rfl

theorem State.sameOwners_clearTenant (h : s.regsOk) (ht : t < 24) : (s.clearTenant t).SameOwners (s.dropTenant t) := by
  have hlow {f : Fld} (hf : f.key < 0x30000000) : ∀ q, (R.QCX.Q_CTRL.OWNER q).key ≠ f.key := fun q => by
    simp only [Fld.key, R.QCX.Q_CTRL.OWNER] at hf ⊢
    omega
  have hdiscard : (((s.dropTenant t).discardTxns t 0).discardTxns t 1).SameOwners (s.dropTenant t) := ⟨h, rfl, rfl, fun _ => rfl⟩
  unfold State.clearTenant
  dsimp only
  refine State.SameOwners.mbxReset (State.SameOwners.set (State.SameOwners.set (Keep.foldl_of (P := (State.SameOwners · (s.dropTenant t))) ?_
    fun z q hz => hz.queueReset) (hlow (by decide))) (hlow (by decide))) ht
  split_ifs
  · exact ⟨hdiscard.regs, hdiscard.role, hdiscard.que, hdiscard.owner⟩
  · exact hdiscard

/-- A reset of tenant `t` drops its descriptors, keeps the owners of the queues and raises FLR. -/
structure State.TenantGone (u s : State) (keep : Nat → Bool) : Prop where
  raised : u.Raised B.ten Ev.TEN.FLR
  role : u.role = s.role
  descs : u.que.descs = s.que.descs.filter fun d => keep (s.qOwner d.q)
  owner : ∀ q, u.qOwner q = s.qOwner q

theorem State.tenantGone_tenantReset (h : s.regsOk) (hr : s.role = .sender) (ht : t < 24) :
    (s.tenantReset t).TenantGone s fun o => !(o == t) := by
  have hclear := State.sameOwners_clearTenant h ht
  rw [State.tenantReset_eq]
  refine ⟨.of_ev hclear.regs (State.live_ten_of_sender (hclear.role.trans hr)) (by decide), State.shows_ev.role.trans hclear.role,
    (congrArg QueSt.descs State.shows_ev.que).trans hclear.que, fun q => ?_⟩
  refine (State.get_ev_ne hclear.regs ?_).trans (hclear.owner q)
  simp only [Fld.key, R.QCX.Q_CTRL.OWNER, R.PG.EVT_PEND]
  omega

/-- A reset of PF0 resets tenants 0 to 15 one after the other (R578). -/
theorem State.tenantGone_forN {m : Nat} (h : s.regsOk) (hr : s.role = .sender) (hm : m ≤ 24) (hn : n + 1 = m) :
    (s.forN m State.tenantReset).TenantGone s fun o => decide (m ≤ o) := by
  subst hn
  induction n with
  | zero =>
    obtain ⟨hraised, hrole, hdescs, howner⟩ := State.tenantGone_tenantReset (t := 0) h hr (by omega)
    refine ⟨hraised, hrole, hdescs.trans (List.filter_congr fun d _ => ?_), howner⟩
    cases s.qOwner d.q <;> simp
  | succ n ih =>
    obtain ⟨hraised, hrole, hdescs, howner⟩ := ih (by omega)
    obtain ⟨hraised', hrole', hdescs', howner'⟩ :=
      State.tenantGone_tenantReset (t := n + 1) hraised.regs (hrole.trans hr) (by omega)
    rw [State.forN_succ]
    refine ⟨hraised', hrole'.trans hrole, ?_, fun q => (howner' q).trans (howner q)⟩
    rw [hdescs', hdescs, List.filter_filter]
    refine List.filter_congr fun d _ => ?_
    rw [howner, Bool.eq_iff_iff]
    simp only [Bool.and_eq_true, Bool.not_eq_true', beq_eq_false_iff_ne, decide_eq_true_eq]
    omega

/-- VF Enable of PF0 is cleared. -/
def State.clearVfs (s : State) : State := { s with que := { s.que with vfs := [] } }

theorem State.flr_zero : s.flr 0 = s.clearVfs.forN 16 State.tenantReset := if_pos rfl

theorem State.qOwner_clearVfs : s.clearVfs.qOwner q = s.qOwner q := rfl

theorem State.tenantGone_flr (h : s.regsOk) (hr : s.role = .sender) : (s.flr 0).TenantGone s fun o => decide (16 ≤ o) := by
  obtain ⟨hraised, hrole, hdescs, howner⟩ := State.tenantGone_forN (s := s.clearVfs) (m := 16) (n := 15) h hr (by decide) rfl
  rw [State.flr_zero]
  have hkept : s.clearVfs.que.descs = s.que.descs := rfl
  refine ⟨hraised, hrole, ?_, howner⟩
  rw [hdescs, hkept]
  refine List.filter_congr fun d _ => ?_
  rw [State.qOwner_clearVfs]

/-! ### The mailbox timeout (R459) -/

theorem State.mbxTimeout_sets (hsent : (s.chan c).sent k ≠ []) (hunits : s.get (R.MBX.M_TMO.UNITS c k) ≠ 0)
    (hw : s.works (B.mbx c) = true) : s.mbxTimeout c k =
      (s.set (R.MBX.M_STAT.TIMEOUT c k) 1).ev (B.mbx c) (if k = 0 then Ev.MBX.A_TIMEOUT else Ev.MBX.B_TIMEOUT) := by
  unfold State.mbxTimeout
  exact if_neg (by simp [hsent, hunits, hw])

end Rules

/-- Settles O49: the registers that a commit shows, the descriptors that a reset leaves and the bit of the timeout. -/
theorem rulesAndResets : Obligations.RulesAndResets := by
  unfold Obligations.RulesAndResets
  refine ⟨?commit, ?refused, ?done, ?flr, ?perst, ?timeout⟩
  case commit =>
    intro s t hs hr hdrain
    have htake : (s.tick t).takeRules.Canon := State.canon_takeRules (s := s.tick t) hs.2
    have hepoch := State.regsOk_set (f := R.TEN.RULE_EPOCH.EPOCH) (v := (s.tick t).takeRules.get R.TEN.RULE_EPOCH.EPOCH + 1) htake.1
    have hcount : (s.tick t).countEpoch.recheckJob.regsOk := (congrArg keysRise State.regs_recheckJob).mpr (State.regsOk_set hepoch)
    have hget {f : Fld} (hf : f.key ≠ R.TEN.RULE_STAT.OLD.key) :
        ((s.tick t).countEpoch.recheckJob.showOld).get f = (s.tick t).countEpoch.get f :=
      (State.get_set_ne hcount hf).trans (congrArg (fun l => lookupD l _ _) State.regs_recheckJob)
    refine State.gives_of_runIn (f := fun s => (s.tick t).ruleCommit) hs hr rfl (State.ruleCommit_takes (s := s.tick t) hdrain)
      ⟨?_, ?_, ?_⟩
    · rw [hget (by decide), State.countEpoch, State.get_set_ne hepoch (by decide), State.get_set_self htake.1,
        State.get_takeRules_below (s := s.tick t) hs.2 (by decide)]
      rfl
    · rw [hget (by decide), State.countEpoch, State.get_set_self hepoch]
      rfl
    · rw [hget (by decide), State.countEpoch, State.get_set_ne hepoch (by decide), State.get_set_ne htake.1 (by decide)]
      exact State.get_takeRules_force (s := s.tick t) hs.2 rfl rfl (by decide) (by decide)
  case refused =>
    intro s t hs hr hdrain
    have hraised : ((s.tick t).ev B.ten Ev.TEN.RULE_REFUSED).Raised B.ten Ev.TEN.RULE_REFUSED :=
      .of_ev (s := s.tick t) hs.2.1 (State.live_ten_of_sender (s := s.tick t) hr) (by decide)
    refine State.gives_of_runIn_ok (f := fun s => (s.tick t).ruleCommit) hs hr rfl (State.ruleCommit_refused (s := s.tick t) hdrain)
      fun hu => ⟨?_, (hraised.err (by decide) (by decide) (by decide)).bit⟩
    refine State.get_of_only (z := s) hu hs.2.1 ?_
    exact (State.fieldsAt_err (by decide)).trans (State.fieldsAt_ev (by decide))
  case done =>
    intro s t hs hr hdrain h0 h1 hjob
    have hold := State.regsOk_set (s := s.tick t) (f := R.TEN.RULE_STAT.OLD) (v := 0) hs.2.1
    have hclear := State.regsOk_set (f := R.TEN.RULE_STAT.DRAINING) (v := 0) hold
    exact State.gives_of_runIn (f := fun s => (s.tick t).ruleDone) hs hr rfl (State.ruleDone_ends (s := s.tick t) hs.2.1 hdrain h0 h1 hjob)
      ⟨(State.get_ev_ne hclear (by decide)).trans (State.get_set_self hold),
        State.raised_ev_self hclear (State.live_ten_of_sender (s := s) hr) (by decide)⟩
  case flr =>
    intro s f t hs hr hpos hf
    have hflr : (s.tick t).flr (f % 16) = (s.tick t).tenantReset f := by
      rw [Nat.mod_eq_of_lt hf]
      exact if_neg (by omega)
    obtain ⟨hraised, -, hdescs, howner⟩ := State.tenantGone_tenantReset (s := s.tick t) (t := f) hs.2.1 hr (by omega)
    refine State.gives_of_runIn (f := fun s => (s.tick t).flr (f % 16)) hs hr rfl hflr ⟨fun d hd => ?_, hraised.bit⟩
    have hkept := (List.mem_filter.mp (hdescs ▸ hd)).2
    rw [howner]
    simpa using hkept
  case perst =>
    intro s t hs hr
    have hgone : ((s.tick t).flr 0).TenantGone (s.tick t) fun o => decide (16 ≤ o) := State.tenantGone_flr (s := s.tick t) hs.2.1 hr
    exact State.gives_of_runIn (f := fun s => (s.tick t).flr 0) hs hr rfl rfl ⟨hgone.descs, hgone.raised.bit⟩
  case timeout =>
    intro s c k t hs hc hk hsent hunits hw
    have hset := State.regsOk_set (s := s.tick t) (f := R.MBX.M_STAT.TIMEOUT c k) (v := 1) hs.2.1
    refine State.gives_of_run (f := fun s => (s.tick t).mbxTimeout c k) hs rfl (State.mbxTimeout_sets (s := s.tick t) hsent hunits hw)
      ⟨?_, ?_, congrArg (MbxChan.sent · k) State.shows_ev.chan⟩
    · refine (State.get_ev_ne hset ?_).trans (State.get_set_self (s := s.tick t) hs.2.1)
      simp only [Fld.key, R.MBX.M_STAT.TIMEOUT, R.PG.EVT_PEND]
      omega
    · exact State.raised_ev_self hset (State.live_of_works (s := s) hw) (by split <;> decide)

end Sys2Proof.Machine

/-!
A start-up load whose mode check fails (spec/04_time_and_departures.md, R560).
-/
namespace Sys2Proof.Machine

theorem pageAt_dep : pageAt B.dep = some (.dep, 0) := by decide +kernel

section Refused
variable {s : State} {c : Sched} {r : Nat × Nat} {rule : Nat}

theorem State.live_dep : s.live B.dep = true := by
  rw [State.live_of_pageAt pageAt_dep]
  cases s.role <;> rfl

/-- A rule that fails is not made good by another one. -/
theorem lowerRule_some (y : Option (Nat × Nat)) : ∃ x, lowerRule (some r) y = some x := by
  cases y with
  | none => exact ⟨r, rfl⟩
  | some y =>
    simp only [lowerRule]
    split
    · exact ⟨y, rfl⟩
    · exact ⟨r, rfl⟩

/-- Where the staged mode breaks a rule of Table 2-4, the command refuses the load. -/
theorem State.startupLoad_fails (hf : s.frozen B.dep = false) (hl : s.dep.loaded = false) (hw : s.dep.loadWait = true)
    (hc : s.startSched = some c) (hm : s.modeFail s.modeNext s.envStaged = some r) : ∃ rule, s.startupLoad = s.loadFails rule := by
  obtain ⟨x, hx⟩ := lowerRule_some (r := r)
    (if s.role == .tile || viewSpacingOk c.rate c.vphase (s.modeNext.views + 1) then none else some (0x01, 0x42))
  refine ⟨x.1, ?_⟩
  rw [State.startupLoad, if_neg (by simp [hl, hw, hf]), hc]
  dsimp only
  rw [hm, hx]
  rfl

/-- Whether a start-up load waits. -/
def State.waitLoad (s : State) (w : Bool) : State := { s with dep := { s.dep with loadWait := w } }

/-- The load waits no more, and DEP is neither busy nor enabled. -/
def State.stopLoad (s : State) : State := ((s.waitLoad false).set (R.PG.BUSY B.dep) 0).set (R.PG.EN B.dep) 0

theorem State.shows_evaluate : s.evaluate.Shows s := by
  unfold State.evaluate
  exact State.shows_evIf.trans (State.shows_set.trans (State.shows_set.trans (State.shows_set.trans
    (State.shows_set.trans (State.shows_set.trans State.shows_set)))))

theorem State.loadFails_eq :
    s.loadFails rule = (s.stopLoad.evaluate.set R.DEP.MODE_CHECK.REJECT_RULE rule).ev B.dep Ev.DEP.MODE_REJECT := rfl

theorem State.shows_loadFails : (s.loadFails rule).Shows (s.waitLoad false) := by
  rw [State.loadFails_eq]
  exact State.shows_ev.trans (State.shows_set.trans (State.shows_evaluate.trans (State.shows_set.trans State.shows_set)))

theorem State.canon_loadFails (h : s.Canon) : (s.loadFails rule).Canon :=
  Keep.canon (k := .all) (q := s) (by apply State.loadFails_good <;> simp [Keep.refl h])

/-- The fields that a refused load leaves as they were. -/
def loadedFields : List Fld :=
  [R.DEP.MODE_CUR.TIMING, R.DEP.MODE_CUR.VIEWS, R.DEP.MODE_CUR.CODING_A, R.DEP.MODE_CUR.CODING_B, R.DEP.MODE_CUR.REDUN,
    R.DEP.MODE_CUR.SINK, R.DEP.MODE_CUR.EMIT, R.DEP.MODE_CUR.SCAN, R.DEP.MODE_CHECK.LOCKED, R.COR.GEOM.TW, R.COR.GEOM.TH]

/-- The fields that a refused load writes. -/
def refusalFields : List Fld :=
  [R.PG.BUSY B.dep, R.PG.EN B.dep, R.DEP.MODE_CHECK.VALID, R.DEP.MODE_CHECK.RULE, R.DEP.MODE_CHECK.FIELDS,
    R.DEP.MODE_CHECK.EPOCH_PENDING, R.DEP.MODE_CHECK.DEP_PENDING, R.DEP.MODE_CTRL.FB_VALID, R.PG.EVT_PEND B.dep,
    R.DEP.MODE_CHECK.REJECT_RULE]

theorem loaded_beside_refusal : ∀ f ∈ loadedFields, ∀ g ∈ refusalFields, f.only g.key = false := by decide +kernel

theorem State.get_loadFails {f : Fld} (h : s.Canon) (hf : f ∈ loadedFields) : (s.loadFails rule).get f = s.get f := by
  have hbeside := loaded_beside_refusal f hf
  simp only [refusalFields, List.forall_mem_cons] at hbeside
  exact State.get_of_only (State.canon_loadFails h).1 h.1 (by simp [State.loadFails, State.modeReject, State.evaluate, hbeside])

theorem State.get_en_loadFails (h : s.Canon) : (s.loadFails rule).get (R.PG.EN B.dep) = 0 :=
  State.get_of_only_set (v := 0) (z := (s.waitLoad false).set (R.PG.BUSY B.dep) 0)
    (State.canon_loadFails h).1 (State.regsOk_set (s := s.waitLoad false) h.1) (by simp (decide := true) [State.waitLoad, State.loadFails, State.modeReject, State.evaluate])

theorem State.raised_loadFails (h : s.Canon) : (s.loadFails rule).raised B.dep Ev.DEP.MODE_REJECT = true := by
  have hstop : s.stopLoad.Canon := State.canon_set (State.canon_set (s := s.waitLoad false) h)
  have hevaluate : s.stopLoad.evaluate.Canon :=
    Keep.canon (k := .all) (q := s.stopLoad) (by apply State.evaluate_good <;> simp [Keep.refl hstop])
  exact State.raised_ev_self (State.regsOk_set hevaluate.1) State.live_dep (by decide)

/-- The enable of DEP makes the load wait (R70). -/
def State.awaitLoad (s : State) : State := ((s.set (R.PG.EN B.dep) 1).waitLoad true).set (R.PG.BUSY B.dep) 1

theorem State.writeEn_dep (hl : s.dep.loaded = false) (hw : s.dep.loadWait = false) : s.writeEn B.dep 1 = s.awaitLoad := by
  have hmay : s.mayEnable B.dep = true := by
    have hnot : [B.rai, B.scn, B.cor, B.lfm].contains B.dep = false := by decide
    simp only [State.mayEnable, hnot, Bool.and_false, Bool.not_false]
  have henable : s.pageEnable B.dep = s.awaitLoad := by
    unfold State.pageEnable
    rw [pageAt_dep]
    exact if_neg (by simp [hl, hw])
  rw [State.writeEn, if_pos rfl, if_pos hmay, henable]

end Refused

/-- Settles O12: a refused load stops before the epoch, so what it would load keeps its value; the next enable waits again. -/
theorem refusedStartUpLoad : Obligations.RefusedStartUpLoad := by
  unfold Obligations.RefusedStartUpLoad
  refine ⟨?fails, ?waits⟩
  case fails =>
    intro s t c r hs hf hl hw hc hm
    have htick : (s.tick t).Canon := hs.2
    obtain ⟨rule, hload⟩ := State.startupLoad_fails (s := s.tick t) (r := r) hf hl hw hc (by simpa using hm)
    have hget {f : Fld} (h : f ∈ loadedFields) : ((s.tick t).loadFails rule).get f = s.get f := State.get_loadFails htick h
    have hshown := State.shows_loadFails (s := s.tick t) (rule := rule)
    refine State.gives_of_run (f := fun s => (s.tick t).startupLoad) hs rfl hload
      ⟨?_, State.raised_loadFails htick, State.get_en_loadFails htick, ?_, hget (by simp [loadedFields]),
        hget (by simp [loadedFields]), hget (by simp [loadedFields]), congrArg DepSt.loadWait hshown.dep, congrArg TimSt.sched hshown.tim, ?_⟩
    · exact (congrArg DepSt.loaded hshown.dep).trans hl
    · rw [State.modeCur, hget (by simp [loadedFields]), hget (by simp [loadedFields]), hget (by simp [loadedFields]),
        hget (by simp [loadedFields]), hget (by simp [loadedFields]), hget (by simp [loadedFields]), hget (by simp [loadedFields]),
        hget (by simp [loadedFields])]
      rfl
    · exact hshown.force
  case waits =>
    intro s t hs hl hw
    have hwait : ((s.tick t).writeEn B.dep 1).mirrorReg (B.dep + 8) = (s.tick t).awaitLoad.mirrorReg (B.dep + 8) :=
      congrArg (State.mirrorReg · _) (State.writeEn_dep (s := s.tick t) hl hw)
    have hset : (((s.tick t).set (R.PG.EN B.dep) 1).waitLoad true).Canon := State.canon_set (s := s.tick t) hs.2
    have hawait : (s.tick t).awaitLoad.Canon := State.canon_set hset
    have hmirror : ((s.tick t).awaitLoad.mirrorReg (B.dep + 8)).Keeps (.but [.dep] [R.PG.EN B.dep, R.PG.BUSY B.dep]) (s.tick t).awaitLoad := by
      apply State.mirrorReg_good <;> simp (decide := true) [Keep.refl hawait]
    refine ⟨(s.tick t).awaitLoad.mirrorReg (B.dep + 8), (run_header_of_up hs State.live_dep (by decide)).trans (congrArg _ hwait), ?_, ?_, ?_⟩
    · exact congrArg DepSt.loadWait (Keep.samePart (p := .dep) hmirror (by simp))
    · exact (Keep.sameField hmirror (by simp)).trans ((State.get_set_ne hset.1 (by decide)).trans (State.get_set_self (s := s.tick t) hs.2.1))
    · exact (Keep.sameField hmirror (by simp)).trans (State.get_set_self hset.1)

end Sys2Proof.Machine

/-!
Image slots and mailboxes over the service port (spec/18_images_and_service.md, R546 to R549).
-/
namespace Sys2Proof.Machine

theorem pageAt_fwu : pageAt B.fwu = some (.fwu, 0) := by decide +kernel

/-! ### Where the fields of sessions and slots lie -/

/-- The fields of the open session, of the counts of datagrams and of the service link. -/
def sessionFields : List Fld :=
  [R.FWU.SESSION.PURPOSE, R.FWU.SESSION.SLOT, R.FWU.SESSION.ID, R.FWU.SESS_BYTES.BYTES, R.SVP.RX_DGRAM.COUNT, R.SVP.TX_DGRAM.COUNT,
    R.SVP.SVP_STAT.LINK_UP, R.PG.EVT_PEND B.fwu]

/-- The fields of slot `k` that opening it writes. -/
def slotFields (k : Nat) : List Fld :=
  [R.SLT.SLOT_STAT.STATE k, R.SLT.SLOT_STAT.RESULT k, R.SLT.SLOT_GEN.GEN k, R.SLT.SLOT_STAT.TRIALS k]

theorem session_beside_slot : ∀ k < 8, ∀ f ∈ sessionFields, ∀ g ∈ slotFields k, f.only g.key = false ∧ g.only f.key = false := by decide +kernel

theorem state_beside_slot {k : Nat} : (R.SLT.SLOT_STAT.STATE k).only (R.SLT.SLOT_STAT.RESULT k).key = false ∧
    (R.SLT.SLOT_STAT.STATE k).only (R.SLT.SLOT_GEN.GEN k).key = false ∧
    (R.SLT.SLOT_STAT.STATE k).only (R.SLT.SLOT_STAT.TRIALS k).key = false := by
  simp only [Fld.only, Fld.key, R.SLT.SLOT_STAT.STATE, R.SLT.SLOT_STAT.RESULT, R.SLT.SLOT_GEN.GEN, R.SLT.SLOT_STAT.TRIALS,
    beq_eq_false_iff_ne]
  omega

theorem link_beside_side : ∀ c < 24, ∀ k < 2, ∀ g ∈ sideFields c k, R.SVP.SVP_STAT.LINK_UP.key ≠ g.key := by decide +kernel

section Service
variable {s z : State} {d : Dgram} {k total id n : Nat} {f : Fld}

theorem State.live_fwu : s.live B.fwu = true := by
  rw [State.live_of_pageAt pageAt_fwu]
  cases s.role <;> rfl

/-- Saving the boot control block changes flash alone. -/
theorem State.bootSave_eq : s.bootSave = { s with fwu := s.bootSave.fwu } := by
  unfold State.bootSave
  dsimp only
  split
  · rfl
  · split <;> rfl

@[simp] theorem State.line_bootSave : s.bootSave.line = s.line := by rw [State.bootSave_eq]

theorem State.regsOk_bootSave (h : s.regsOk) : s.bootSave.regsOk := (congrArg keysRise State.regs_bootSave).mpr h

/-! ### Datagrams and replies -/

theorem State.svpTake_acts {act : State → State} (hup : s.svpUp = true) (hmine : s.svpMine d = true) :
    s.svpTake d act = act (s.count R.SVP.RX_DGRAM.COUNT) := by
  simp [State.svpTake, hup, hmine]

theorem State.link_of_svpUp (hup : s.svpUp = true) : s.on R.SVP.SVP_STAT.LINK_UP = true := (Bool.and_eq_true_iff.mp hup).2

/-- A reply over a link that is up is counted and sent. -/
theorem State.reply_sends {dst : Caller} {op tag status : Nat} {data : List Byte} (h : s.on R.SVP.SVP_STAT.LINK_UP = true) :
    s.reply dst op tag status data = (s.count R.SVP.TX_DGRAM.COUNT).emit (.service dst op tag status data) := if_pos h

theorem State.on_of_get (h : s.get f = z.get f) : s.on f = z.on f := by rw [State.on, h]; rfl

/-- The module after the datagram of a command has been taken. -/
def State.taken (s : State) (t : Nat) : State := (s.tick t).count R.SVP.RX_DGRAM.COUNT

theorem State.regsOk_taken {t : Nat} (h : s.regsOk) : (s.taken t).regsOk := State.regsOk_set (s := s.tick t) h

theorem State.get_taken {t : Nat} (h : s.regsOk) (hf : f.key ≠ R.SVP.RX_DGRAM.COUNT.key) : (s.taken t).get f = s.get f :=
  State.get_set_ne (s := s.tick t) h hf

theorem State.img_taken {t : Nat} (h : s.regsOk) : (s.taken t).img k = s.img k :=
  State.get_taken h (by simp only [Fld.key, R.SLT.SLOT_STAT.STATE, R.SVP.RX_DGRAM.COUNT]; omega)

/-- `z` after a reply over a link that is up. -/
def State.replied (z : State) (o : Out) : State := (z.count R.SVP.TX_DGRAM.COUNT).emit o

theorem State.get_replied {o : Out} (h : s.regsOk) (hf : f.key ≠ R.SVP.TX_DGRAM.COUNT.key) : (s.replied o).get f = s.get f :=
  State.get_set_ne h hf

theorem State.img_replied {o : Out} (h : s.regsOk) : (s.replied o).img k = s.img k :=
  State.get_replied h (by simp only [Fld.key, R.SLT.SLOT_STAT.STATE, R.SVP.TX_DGRAM.COUNT]; omega)

theorem State.getLast_replied {o : Out} : (s.replied o).out.getLast? = some o := List.getLast?_concat

/-- A datagram for the module that acts and answers over a link which it leaves up. -/
theorem State.gives_of_reply {c : Instr} {act : State → State} {t : Nat} {dst : Caller} {op tag status : Nat} {data : List Byte}
    {P : State → Prop} (hs : s.up) (hc : exec c s = run (fun s => (s.tick t).svpTake d act) s) (hup : s.svpUp = true)
    (hmine : s.svpMine d = true) (hact : act (s.taken t) = z.reply dst op tag status data)
    (hlink : z.get R.SVP.SVP_STAT.LINK_UP = (s.taken t).get R.SVP.SVP_STAT.LINK_UP)
    (h : P (z.replied (.service dst op tag status data))) : s.gives c P := by
  have hon : z.on R.SVP.SVP_STAT.LINK_UP = true := (State.on_of_get (hlink.trans (State.get_taken hs.2.1 (by decide)))).trans (State.link_of_svpUp hup)
  refine State.gives_of_run hs hc ((State.svpTake_acts (s := s.tick t) hup hmine).trans ?_) h
  exact hact.trans (State.reply_sends hon)

/-! ### SLOT_OPEN (R547) -/

/-- The registers of a slot that a session opens. -/
def State.showOpened (s : State) (k id : Nat) : State :=
  let gen := ((List.range 6).map (fun j => s.get (R.SLT.SLOT_GEN.GEN j))).foldl max 0 + 1
  let s := ((s.setImg k Img.writing).set (R.SLT.SLOT_STAT.RESULT k) 0).set (R.SLT.SLOT_GEN.GEN k) gen
  let s := (s.set (R.SLT.SLOT_STAT.TRIALS k) 0).bootSave
  (((s.set R.FWU.SESSION.PURPOSE 1).set R.FWU.SESSION.SLOT k).set R.FWU.SESSION.ID id).set R.FWU.SESS_BYTES.BYTES 0

/-- The slot is open for `total` bytes. -/
def State.opened (s : State) (k total id : Nat) : State :=
  let u := s.showOpened k id
  { u with fwu := { u.fwu with
      total := total, flash := u.fwu.flash.filter (fun c => !(slotBase k ≤ c.1 && c.1 < slotBase k + (total + 65535) / 65536 * 65536)) } }

theorem State.openSlot_opens (hp : s.get R.FWU.SESSION.PURPOSE = 0) (hk : k < 6)
    (himg : s.img k = Img.empty ∨ s.img k = Img.checked ∨ s.img k = Img.bad) (htotal : total ≤ slotSize k)
    (hnew : s.newestSettings ≠ some k) : s.openSlot k total id = (s.opened k total id, Svc.ok) := by
  have hfree : [Img.empty, Img.checked, Img.bad].contains (s.img k) = true := by
    rcases himg with h | h | h <;> rw [h] <;> decide
  unfold State.openSlot
  rw [if_neg (by simp [hp]), if_neg (by simp only [hfree, Bool.not_true, Bool.or_false, Bool.or_eq_true, decide_eq_true_eq, beq_iff_eq]; simp [hnew]; omega)]
  rfl

theorem State.regsOk_showOpened (h : s.regsOk) : (s.showOpened k id).regsOk :=
  State.regsOk_set (State.regsOk_set (State.regsOk_set (State.regsOk_set (State.regsOk_bootSave
    (State.regsOk_set (State.regsOk_set (State.regsOk_set (State.regsOk_set h))))))))

theorem State.img_showOpened (h : s.regsOk) (hk : k < 6) : (s.showOpened k id).img k = Img.writing := by
  have hbeside {f : Fld} (hf : f ∈ sessionFields) := (session_beside_slot k (by omega) f hf (R.SLT.SLOT_STAT.STATE k) (by simp [slotFields])).2
  exact State.get_of_only_set (v := Img.writing) (State.regsOk_showOpened h) h (by
    simp [State.showOpened, State.setImg, state_beside_slot, hbeside (f := R.FWU.SESSION.PURPOSE) (by simp [sessionFields]),
      hbeside (f := R.FWU.SESSION.SLOT) (by simp [sessionFields]), hbeside (f := R.FWU.SESSION.ID) (by simp [sessionFields]),
      hbeside (f := R.FWU.SESS_BYTES.BYTES) (by simp [sessionFields])])

/-- What an opened slot shows of its session, and that the link stays up. -/
theorem State.get_showOpened (h : s.regsOk) (hk : k < 6) :
    (s.showOpened k id).get R.FWU.SESSION.PURPOSE = 1 ∧ (s.showOpened k id).get R.FWU.SESSION.SLOT = k ∧
      (s.showOpened k id).get R.FWU.SESS_BYTES.BYTES = 0 ∧
      (s.showOpened k id).get R.SVP.SVP_STAT.LINK_UP = s.get R.SVP.SVP_STAT.LINK_UP := by
  have hslot : (((s.setImg k Img.writing).set (R.SLT.SLOT_STAT.RESULT k) 0).set (R.SLT.SLOT_GEN.GEN k)
      (((List.range 6).map (fun j => s.get (R.SLT.SLOT_GEN.GEN j))).foldl max 0 + 1)).regsOk :=
    State.regsOk_set (State.regsOk_set (State.regsOk_set h))
  have hsaved := State.regsOk_bootSave (State.regsOk_set (f := R.SLT.SLOT_STAT.TRIALS k) (v := 0) hslot)
  have hpurpose := State.regsOk_set (f := R.FWU.SESSION.PURPOSE) (v := 1) hsaved
  have hnumber := State.regsOk_set (f := R.FWU.SESSION.SLOT) (v := k) hpurpose
  have hid := State.regsOk_set (f := R.FWU.SESSION.ID) (v := id) hnumber
  have hbeside := session_beside_slot k (by omega) R.SVP.SVP_STAT.LINK_UP (by simp [sessionFields])
  simp only [slotFields, List.forall_mem_cons] at hbeside
  refine ⟨?_, ?_, State.get_set_self hid, ?_⟩
  · exact (State.get_set_ne hid (by decide)).trans ((State.get_set_ne hnumber (by decide)).trans
      ((State.get_set_ne hpurpose (by decide)).trans (State.get_set_self hsaved)))
  · refine (State.get_set_ne hid (by decide)).trans ((State.get_set_ne hnumber (by decide)).trans ((State.get_set_self hpurpose).trans ?_))
    exact Nat.mod_eq_of_lt (Nat.lt_trans hk (by decide))
  · exact State.get_of_only (State.regsOk_showOpened h) h (by
      simp (decide := true) [State.showOpened, State.setImg, hbeside])

/-! ### SLOT_DATA and SLOT_CLOSE (R546, R547) -/

theorem State.slotData_writes (hs0 : stopOf d.addr = 0) (hc : 1 ≤ d.count) (hc' : d.count ≤ 960) (hl : d.count ≤ d.data.length)
    (hp : s.get R.FWU.SESSION.PURPOSE = 1) (hloc : locOf d.addr = s.get R.FWU.SESS_BYTES.BYTES)
    (htotal : s.get R.FWU.SESS_BYTES.BYTES + d.count ≤ s.fwu.total) :
    s.slotData d false = (s.writeSlot (d.data.take d.count)).reply d.from_ 0x11 d.seq Svc.ok [] := by
  have hown : s.slotDataOwn d false = (s.writeSlot (d.data.take d.count), Svc.ok) := by
    unfold State.slotDataOwn
    dsimp only
    rw [if_neg (by simp [hp]), if_neg (by simp [hloc]; omega)]
    rfl
  unfold State.slotData
  dsimp only
  rw [if_neg (by simp; omega), if_pos hs0, hown]

/-- The bytes written enter flash at their place. -/
def State.putFlash (s : State) (l : List Byte) : State :=
  { s with fwu := { s.fwu with flash := writeBytes erased s.fwu.flash (slotBase (s.get R.FWU.SESSION.SLOT) + s.get R.FWU.SESS_BYTES.BYTES) l } }

theorem State.regsOk_writeSlot {l : List Byte} (h : s.regsOk) : (s.writeSlot l).regsOk := State.regsOk_set (s := s.putFlash l) h

theorem State.get_writeSlot {l : List Byte} (h : s.regsOk) (hf : f.key ≠ R.FWU.SESS_BYTES.BYTES.key) : (s.writeSlot l).get f = s.get f :=
  State.get_set_ne (s := s.putFlash l) h hf

theorem State.bytes_writeSlot {l : List Byte} (h : s.regsOk) :
    (s.writeSlot l).get R.FWU.SESS_BYTES.BYTES = (s.get R.FWU.SESS_BYTES.BYTES + l.length) % 2 ^ R.FWU.SESS_BYTES.BYTES.width :=
  State.get_set_self (s := s.putFlash l) h

theorem State.flash_writeSlot {l : List Byte} {o : Out} : ((s.writeSlot l).replied o).fwu.flash =
    writeBytes erased s.fwu.flash (slotBase (s.get R.FWU.SESSION.SLOT) + s.get R.FWU.SESS_BYTES.BYTES) l := rfl

theorem State.flash_taken {t : Nat} : (s.taken t).fwu.flash = s.fwu.flash := rfl

/-- The registers and the event of a session that ends, after the state of its slot. -/
def State.clearSession (s : State) : State :=
  ((((s.bootSave.set R.FWU.SESSION.PURPOSE 0).set R.FWU.SESSION.SLOT 0).set R.FWU.SESSION.ID 0).set R.FWU.SESS_BYTES.BYTES 0).ev
    B.fwu Ev.FWU.SESSION_DONE

/-- The slot of a session that ends early is BAD. -/
def State.spoilSlot (s : State) (bad : Bool) : State :=
  if bad && s.get R.FWU.SESSION.PURPOSE == 1 then s.set (R.SLT.SLOT_STAT.STATE (s.get R.FWU.SESSION.SLOT)) 4 else s

theorem State.endSession_clears {bad : Bool} (hp : s.get R.FWU.SESSION.PURPOSE ≠ 0) : s.endSession bad =
    { (s.spoilSlot bad).clearSession with line := { (s.spoilSlot bad).bootSave.line with
        svcIn := (s.spoilSlot bad).bootSave.line.svcIn.filter fun x => x.closed && !bad } } := if_neg hp

theorem State.regsOk_clearSession (h : s.regsOk) : s.clearSession.regsOk :=
  State.regsOk_ev (State.regsOk_set (State.regsOk_set (State.regsOk_set (State.regsOk_set (State.regsOk_bootSave h)))))

theorem State.get_purpose_clearSession (h : s.regsOk) : s.clearSession.get R.FWU.SESSION.PURPOSE = 0 :=
  State.get_of_only_set (v := 0) (State.regsOk_clearSession h) (State.regsOk_bootSave h) (by simp (decide := true) [State.clearSession])

theorem State.img_clearSession (h : s.regsOk) (hk : k < 8) : s.clearSession.img k = s.img k := by
  have hbeside {f : Fld} (hf : f ∈ sessionFields) := (session_beside_slot k hk f hf (R.SLT.SLOT_STAT.STATE k) (by simp [slotFields])).2
  exact State.get_of_only (State.regsOk_clearSession h) h (by
    simp [State.clearSession, hbeside (f := R.FWU.SESSION.PURPOSE) (by simp [sessionFields]),
      hbeside (f := R.FWU.SESSION.SLOT) (by simp [sessionFields]), hbeside (f := R.FWU.SESSION.ID) (by simp [sessionFields]),
      hbeside (f := R.FWU.SESS_BYTES.BYTES) (by simp [sessionFields]), hbeside (f := R.PG.EVT_PEND B.fwu) (by simp [sessionFields])])

theorem State.link_clearSession (h : s.regsOk) : s.clearSession.get R.SVP.SVP_STAT.LINK_UP = s.get R.SVP.SVP_STAT.LINK_UP :=
  State.get_of_only (State.regsOk_clearSession h) h (by simp (decide := true) [State.clearSession])

theorem State.raised_clearSession (h : s.regsOk) : s.clearSession.Raised B.fwu Ev.FWU.SESSION_DONE :=
  .of_ev (State.regsOk_set (State.regsOk_set (State.regsOk_set (State.regsOk_set (State.regsOk_bootSave h))))) State.live_fwu (by decide)

/-- The slot is written and the session ended. -/
def State.written (s : State) : State :=
  let u := (s.setImg (s.get R.FWU.SESSION.SLOT) Img.written).clearSession
  let line := (s.setImg (s.get R.FWU.SESSION.SLOT) Img.written).bootSave.line
  { u with line := { line with svcIn := line.svcIn.filter fun x => x.closed && !false } }

theorem State.slotClose_writes (h : s.regsOk) (hs0 : stopOf d.addr = 0) (hp : s.get R.FWU.SESSION.PURPOSE = 1)
    (hk : s.get R.FWU.SESSION.SLOT < 6) : s.slotClose d = s.written.reply d.from_ 0x12 d.seq Svc.ok [] := by
  have hbeside := (session_beside_slot (s.get R.FWU.SESSION.SLOT) (by omega) R.FWU.SESSION.PURPOSE (by simp [sessionFields])
    (R.SLT.SLOT_STAT.STATE (s.get R.FWU.SESSION.SLOT)) (by simp [slotFields])).1
  have hopen : (s.setImg (s.get R.FWU.SESSION.SLOT) Img.written).get R.FWU.SESSION.PURPOSE ≠ 0 :=
    (State.get_set_ne h (by simpa [Fld.only] using hbeside)).trans_ne (by rw [hp]; decide)
  have hclose : s.closeSlot = s.written := State.endSession_clears hopen
  unfold State.slotClose
  simp only [hs0, hp, hclose, ↓reduceIte]

/-! ### Mailbox messages (R546) -/

/-- The header of a page decides whether its block works. -/
theorem State.works_of_get {b : Nat} (hr : s.role = z.role) (hen : s.get (R.PG.EN b) = z.get (R.PG.EN b))
    (hfr : s.get (R.PG.FREEZE b) = z.get (R.PG.FREEZE b)) (hhw : s.get (R.PG.HW_FREEZE b) = z.get (R.PG.HW_FREEZE b)) :
    s.works b = z.works b := by
  rw [State.works, State.live_of_role hr, State.enabled, State.on_of_get hen, State.frozen, State.on_of_get hfr, State.on_of_get hhw]
  rfl

theorem State.works_taken {c t : Nat} (h : s.regsOk) (hc : c < 24) : (s.taken t).works (B.mbx c) = s.works (B.mbx c) := by
  have hget {f : Fld} := State.get_taken (f := f) (t := t) h
  refine State.works_of_get rfl (hget ?_) (hget ?_) (hget ?_) <;>
    simp only [Fld.key, R.PG.EN, R.PG.FREEZE, R.PG.HW_FREEZE, R.SVP.RX_DGRAM.COUNT, B.mbx] <;> omega

theorem State.link_queueMessage {c : Nat} {m : List Nat × Bool} (h : s.regsOk) (hc : c < 24) :
    (s.queueMessage c 0 m).get R.SVP.SVP_STAT.LINK_UP = s.get R.SVP.SVP_STAT.LINK_UP :=
  (State.get_showChan (State.regsOk_set (s := s.setChan c _) h) (link_beside_side c hc)).trans
    (State.get_set_ne (s := s.setChan c _) h (by simp only [Fld.key, R.SVP.SVP_STAT.LINK_UP, R.MBX.M_STAT.TX_FULL]; omega))

theorem State.dropPoisoned_idle {c : Nat} (h : (s.chan c).toA = []) : s.dropPoisoned c = s :=
  State.forN_of (P := (· = s)) rfl fun u _ _ hu => by
    subst hu
    simp [h]

/-- A message for a channel with room is queued; without one of side B the reply is EMPTY. -/
theorem State.mbxService_queues (hlow : 16 ≤ d.slot) (hhigh : d.slot ≤ 23) (hc : d.count = 64) (hl : 64 ≤ d.data.length)
    (hs0 : stopOf d.addr = 0) (hw : s.works (B.mbx d.slot) = true) (hroom : (s.chan d.slot).toB.length < 4)
    (hempty : (s.chan d.slot).toA = []) : s.mbxService d =
      ((s.queueMessage d.slot 0 (msgWords d.data, false)).ev (B.mbx d.slot) Ev.MBX.B_MSG).reply d.from_ 0x20 d.seq Svc.empty [] := by
  have hput := State.mbxPut_room (s := s) (c := d.slot) (k := 0) (w := msgWords d.data) (p := false) hroom
  have hnone : (((s.queueMessage d.slot 0 (msgWords d.data, false)).ev (B.mbx d.slot) Ev.MBX.B_MSG).chan d.slot).toA = [] := by
    rw [State.shows_ev.chan, State.chan_queueMessage]
    exact hempty
  have hown : s.mbxOwn d = ((s.queueMessage d.slot 0 (msgWords d.data, false)).ev (B.mbx d.slot) Ev.MBX.B_MSG).reply
      d.from_ 0x20 d.seq Svc.empty [] := by
    unfold State.mbxOwn
    simp only [hc, hw, hput, ↓reduceIte, decide_true, Bool.and_self, State.dropPoisoned_idle hnone, hnone]
  unfold State.mbxService
  dsimp only
  rw [if_neg (by simp [hc]; omega), if_pos hs0, hown]

/-! ### SESSION_TIMEOUT (R549) -/

theorem State.sessionTimeout_ends {x : SvcIn} (hr : s.role = .tile) (hx : s.line.svcIn = some x) (hopen : x.closed = false) :
    s.sessionTimeout = { s.endSession true with line := { (s.endSession true).line with svcIn := none } } := by
  unfold State.sessionTimeout
  rw [hx]
  exact if_pos (by simp [State.isTile, hr, hopen])

theorem State.img_spoilSlot (h : s.regsOk) (hp : s.get R.FWU.SESSION.PURPOSE = 1) : (s.spoilSlot true).img (s.get R.FWU.SESSION.SLOT) = 4 := by
  rw [State.spoilSlot, if_pos (by simp [hp])]
  exact State.get_set_self h

theorem State.regsOk_spoilSlot {bad : Bool} (h : s.regsOk) : (s.spoilSlot bad).regsOk := by
  unfold State.spoilSlot
  split
  · exact State.regsOk_set h
  · exact h

/-- An opened slot differs from what its registers show in flash alone. -/
theorem State.get_opened : (s.opened k total id).get f = (s.showOpened k id).get f := rfl

theorem State.regsOk_opened (h : s.regsOk) : (s.opened k total id).regsOk := State.regsOk_showOpened h

theorem State.slotOpen_opens (hs0 : stopOf d.addr = 0) (hp : s.get R.FWU.SESSION.PURPOSE = 0) (hk : d.slot < 6)
    (himg : s.img d.slot = Img.empty ∨ s.img d.slot = Img.checked ∨ s.img d.slot = Img.bad)
    (htotal : leNat (d.data.take 4) ≤ slotSize d.slot) (hnew : s.newestSettings ≠ some d.slot) :
    s.slotOpen d = (s.opened d.slot (leNat (d.data.take 4)) 0).reply d.from_ 0x10 d.seq Svc.ok [] := by
  rw [State.slotOpen, if_pos hs0, State.openSlot_opens hp hk himg htotal hnew]

theorem State.total_replied {o : Out} : ((s.opened k total id).replied o).fwu.total = total := rfl

end Service

/-- Settles O56: a datagram counts before it acts and the reply counts after it; between them the slot, the session or the channel
changes. -/
theorem serviceSlots : Obligations.ServiceSlots := by
  unfold Obligations.ServiceSlots
  refine ⟨?opens, ?data, ?closes, ?mailbox, ?timeout⟩
  case opens =>
    intro s d t hs hup hmine hs0 hp hk himg htotal hnew
    have htaken : (s.taken t).regsOk := State.regsOk_taken hs.2.1
    have hnew' : (s.taken t).newestSettings = s.newestSettings := by
      simp only [State.newestSettings, State.img_taken hs.2.1, State.get_taken hs.2.1 (f := R.SLT.SLOT_GEN.GEN 5) (by decide),
        State.get_taken hs.2.1 (f := R.SLT.SLOT_GEN.GEN 4) (by decide)]
    have hact := State.slotOpen_opens hs0 ((State.get_taken (t := t) hs.2.1 (by decide)).trans hp) hk
      (by rwa [State.img_taken hs.2.1]) htotal (hnew'.trans_ne hnew)
    have hshow : ((s.taken t).opened d.slot (leNat (d.data.take 4)) 0).regsOk := State.regsOk_opened htaken
    obtain ⟨hpurpose, hslot, hbytes, hlink⟩ := State.get_showOpened (id := 0) htaken hk
    refine State.gives_of_reply (act := fun s => s.slotOpen d) hs rfl hup hmine hact (State.get_opened.trans hlink)
      ⟨?_, ?_, ?_, ?_, State.total_replied, State.getLast_replied⟩
    · exact (State.img_replied hshow).trans (State.get_opened.trans (State.img_showOpened htaken hk))
    · exact (State.get_replied hshow (by decide)).trans (State.get_opened.trans hpurpose)
    · exact (State.get_replied hshow (by decide)).trans (State.get_opened.trans hslot)
    · exact (State.get_replied hshow (by decide)).trans (State.get_opened.trans hbytes)
  case data =>
    intro s d t hs hup hmine hs0 hc hc' hl hp hloc htotal hwidth
    have hget {f : Fld} (hf : f.key ≠ R.SVP.RX_DGRAM.COUNT.key) : (s.taken t).get f = s.get f := State.get_taken hs.2.1 hf
    have hbytes := hget (f := R.FWU.SESS_BYTES.BYTES) (by decide)
    have hact := State.slotData_writes hs0 hc hc' hl ((hget (by decide)).trans hp) (hloc.trans hbytes.symm)
      (by rw [hbytes]; exact htotal)
    have hlen : (d.data.take d.count).length = d.count := by rw [List.length_take]; omega
    refine State.gives_of_reply (act := fun s => s.slotData d false) hs rfl hup hmine hact
      (State.get_writeSlot (State.regsOk_taken hs.2.1) (by decide)) ⟨?_, ?_, State.getLast_replied⟩
    · rw [State.flash_writeSlot, State.flash_taken, hbytes, hget (by decide)]
    · rw [State.get_replied (State.regsOk_writeSlot (State.regsOk_taken hs.2.1)) (by decide),
        State.bytes_writeSlot (State.regsOk_taken hs.2.1), hlen, hbytes]
      exact Nat.mod_eq_of_lt hwidth
  case closes =>
    intro s d t hs hup hmine hs0 hp hk
    have htaken : (s.taken t).regsOk := State.regsOk_taken hs.2.1
    have hslot : (s.taken t).get R.FWU.SESSION.SLOT = s.get R.FWU.SESSION.SLOT := State.get_taken hs.2.1 (by decide)
    have hmark : ((s.taken t).setImg ((s.taken t).get R.FWU.SESSION.SLOT) Img.written).regsOk := State.regsOk_set htaken
    have hclear := State.regsOk_clearSession hmark
    have hlink := (session_beside_slot (s.get R.FWU.SESSION.SLOT) (by omega) R.SVP.SVP_STAT.LINK_UP (by simp [sessionFields])
      (R.SLT.SLOT_STAT.STATE (s.get R.FWU.SESSION.SLOT)) (by simp [slotFields])).1
    refine State.gives_of_reply (act := fun s => s.slotClose d) hs rfl hup hmine
      (State.slotClose_writes htaken hs0 ((State.get_taken hs.2.1 (by decide)).trans hp) (hslot ▸ hk)) ?_ ⟨?_, ?_, ?_, State.getLast_replied⟩
    · exact (State.link_clearSession hmark).trans (State.get_set_ne htaken (by rw [hslot]; simpa [Fld.only] using hlink))
    · refine (State.img_replied (s := State.written _) hclear).trans ((State.img_clearSession hmark (by omega)).trans ?_)
      rw [hslot]
      exact State.get_set_self htaken
    · exact (State.get_replied (s := State.written _) hclear (by decide)).trans (State.get_purpose_clearSession hmark)
    · exact ((State.raised_clearSession hmark).set (f := R.SVP.TX_DGRAM.COUNT) (by decide)).bit
  case mailbox =>
    intro s d t hs hup hmine hlow hhigh hc hl hs0 hw hroom hempty
    have htaken : (s.taken t).regsOk := State.regsOk_taken hs.2.1
    have hworks : (s.taken t).works (B.mbx d.slot) = true := (State.works_taken hs.2.1 (by omega)).trans hw
    have hqueue := State.regsOk_queueMessage (c := d.slot) (k := 0) (m := (msgWords d.data, false)) htaken
    refine State.gives_of_reply (act := fun s => s.mbxService d) hs rfl hup hmine
      (State.mbxService_queues hlow hhigh hc hl hs0 hworks hroom hempty) ?_ ⟨?_, State.getLast_replied⟩
    · refine (State.get_ev_ne hqueue (by simp only [Fld.key, R.SVP.SVP_STAT.LINK_UP, R.PG.EVT_PEND, B.mbx]; omega)).trans ?_
      exact State.link_queueMessage htaken (by omega)
    · exact (congrArg MbxChan.toB State.shows_ev.chan).trans (congrArg MbxChan.toB State.chan_queueMessage)
  case timeout =>
    intro s t x hs hr hx hopen hk
    have hend := State.sessionTimeout_ends (s := s.tick t) hr hx hopen
    by_cases hp : s.get R.FWU.SESSION.PURPOSE = 0
    · have hnone : (s.tick t).endSession true = { s.tick t with line := { s.line with svcIn := none } } := if_pos hp
      exact State.gives_of_run (f := fun s => (s.tick t).sessionTimeout) hs rfl hend
        ⟨rfl, (congrArg (State.get · _) hnone).trans hp, fun h => absurd (hp.symm.trans h) (by decide)⟩
    · have hspoil : ((s.tick t).spoilSlot true).regsOk := State.regsOk_spoilSlot (s := s.tick t) hs.2.1
      refine State.gives_of_run (f := fun s => (s.tick t).sessionTimeout) hs rfl hend ⟨rfl, ?_, fun h1 => ?_⟩
      · exact (congrArg (State.get · _) (State.endSession_clears (s := s.tick t) hp)).trans (State.get_purpose_clearSession hspoil)
      · exact (congrArg (State.img · _) (State.endSession_clears (s := s.tick t) hp)).trans
          ((State.img_clearSession hspoil (by omega)).trans (State.img_spoilSlot (s := s.tick t) hs.2.1 h1))

end Sys2Proof.Machine

/-!
Descriptors for a stop of a line (spec/15_tenants_queues_mailboxes.md, R446 to R449).
-/
namespace Sys2Proof.Machine

section Remote
variable {s u : State} {q idx c op p tenant n : Nat} {d : Desc} {f : Fld} {m : ReqMsg} {owner : Owner}

/-! ### The turn of a queue (R446) -/

/-- A descriptor that is found lies in its queue at its place. -/
theorem State.place_of_desc (h : s.desc q idx = some d) : d.q = q ∧ d.idx = idx := by
  simpa using List.find?_some h

/-- A dispatchable descriptor whose queue has the turn goes on under the epoch of its admission. -/
theorem State.turn_goes (hr : s.role = .sender) (hw : s.works B.que = true) (hc : s.qClass q = c) (hd : s.desc q idx = some d)
    (hop : d.op = op) (hdisp : s.dispatchable q idx = true) (hturn : s.myTurn q = true)
    (hepoch : d.epoch = s.get R.TEN.RULE_EPOCH.EPOCH) (hroom : s.atBound d = false) : s.turn q idx c op = (s.served q, some d) := by
  have hserved : (s.served q).desc q idx = some d := hd
  have hdisp' : (s.served q).dispatchable q idx = true := hdisp
  have hepoch' : d.epoch = (s.served q).get R.TEN.RULE_EPOCH.EPOCH := hepoch
  unfold State.turn
  rw [hd]
  simp only [hr, hw, hc, hop, hdisp, hturn, hroom, beq_self_eq_true, Bool.and_self, Bool.not_true, Bool.or_self, Bool.false_eq_true, ↓reduceIte]
  unfold State.recheck
  rw [hserved, hdisp']
  simp [hepoch']

theorem State.atBound_of_room (h : s.lineRoom (portOf d.addr) (stopOf d.addr) = true) : s.atBound d = false := by
  simp [State.atBound, h]

/-! ### A request leaves on its port (R277) -/

/-- The transaction that takes the lowest free slot of the port. -/
def State.newTxn (s : State) (p : Nat) (req : ReqMsg) (owner : Owner) (tenant : Nat) : Txn :=
  let x := s.lineTx p
  let gen := match x.gens.find? (fun g => g.1 == x.freeSlot) with | some g => (g.2 + 1) % 32 | none => 0
  { slot := x.freeSlot, req := { req with didx := x.freeSlot + 2048 * gen, relief := s.srcRelief, src := tenant + 32 * s.get (R.LNE.LINE_ID.ID p) }
    owner := owner, tenant := tenant, epoch := s.get R.TEN.RULE_EPOCH.EPOCH, at_ := s.frc }

/-- The port with the transaction in its slot. -/
def State.addTxn (s : State) (p : Nat) (req : ReqMsg) (owner : Owner) (tenant : Nat) : State :=
  let x := s.lineTx p
  let gen := match x.gens.find? (fun g => g.1 == x.freeSlot) with | some g => (g.2 + 1) % 32 | none => 0
  (s.setLineTx p { x with txns := x.txns ++ [s.newTxn p req owner tenant]
                          gens := (x.freeSlot, gen) :: x.gens.filter (fun g => g.1 != x.freeSlot) }).showTxns p

theorem State.dispatch_eq : s.dispatch p m owner tenant = (s.addTxn p m owner tenant).send p (.req (s.newTxn p m owner tenant).req) := rfl

theorem State.get_addTxn (h : s.regsOk) (hf : f.key ≠ (R.LNE.INFLIGHT.COUNT p).key) : (s.addTxn p m owner tenant).get f = s.get f :=
  State.get_set_ne (s := s.setLineTx p _) h hf

theorem State.portActive_addTxn (h : s.regsOk) : (s.addTxn p m owner tenant).portActive p = s.portActive p := by
  rw [State.portActive, State.get_addTxn h (by simp only [Fld.key, R.LNK.PORT_STAT.STAGE, R.LNE.INFLIGHT.COUNT]; omega)]
  rfl

theorem State.regsOk_dispatch (h : s.regsOk) : (s.dispatch p m owner tenant).regsOk := by
  rw [State.dispatch_eq, State.send]
  split
  · exact State.regsOk_set (s := s.setLineTx p _) h
  · exact State.regsOk_set (s := s.setLineTx p _) h

theorem State.get_dispatch (h : s.regsOk) (hf : f.key ≠ (R.LNE.INFLIGHT.COUNT p).key) : (s.dispatch p m owner tenant).get f = s.get f := by
  rw [State.dispatch_eq, State.send]
  split
  · exact State.get_addTxn h hf
  · exact State.get_addTxn h hf

theorem State.out_dispatch (h : s.regsOk) (ha : s.portActive p = true) :
    (s.dispatch p m owner tenant).out = s.out ++ [.msg p (.req (s.newTxn p m owner tenant).req)] :=
  State.out_send ((State.portActive_addTxn h).trans ha)

theorem State.txns_dispatch : ((s.dispatch p m owner tenant).lineTx p).txns = (s.lineTx p).txns ++ [s.newTxn p m owner tenant] := by
  rw [State.dispatch_eq, State.lineTx_send]
  exact congrArg LineTx.txns (State.lineTx_setLineTx (s := s))

theorem State.held_dispatch : ((s.dispatch p m owner tenant).lineTx p).held = (s.lineTx p).held := by
  rw [State.dispatch_eq, State.lineTx_send]
  exact (congrArg LineTx.held (State.lineTx_setLineTx (s := s))).trans rfl

theorem State.que_send {b : Msg} : (s.send p b).que = s.que := by
  unfold State.send
  split <;> rfl

theorem State.que_dispatch : (s.dispatch p m owner tenant).que = s.que := by
  rw [State.dispatch_eq, State.que_send]
  rfl

theorem State.portActive_of_address {a : Nat} (hk : stopOf a ≠ 0) (h : s.badAddress a op = false) : s.portActive (portOf a) = true := by
  simp only [State.badAddress, Bool.or_eq_false_iff, Bool.and_eq_false_iff, Bool.not_eq_false', bne_eq_false_iff_eq] at h
  exact (h.2.resolve_left hk).2

/-- A descriptor whose accesses all leave counts them. -/
theorem State.portActive_sentAll (h : s.regsOk) : (s.sentAll d n).portActive p = s.portActive p := by
  rw [State.portActive, State.sentAll, State.count_eq, State.get_set_ne (s := s.setDesc _) h
    (by simp only [Fld.key, R.LNK.PORT_STAT.STAGE, R.QUE.DISPATCHED.COUNT]; omega)]
  rfl

theorem State.get_dispatched_sentAll (h : s.regsOk) :
    (s.sentAll d n).get R.QUE.DISPATCHED.COUNT = min (s.get R.QUE.DISPATCHED.COUNT + n) (2 ^ R.QUE.DISPATCHED.COUNT.width - 1) :=
  State.get_count_self (s := s.setDesc _) h

/-! ### TILE_REG (R446) -/

theorem State.tileReg_sends (hturn : s.turn q idx 0 op = (u, some d)) (hbad : u.badAddress d.addr op = false)
    (hk : stopOf d.addr ≠ 0) (hroom : u.lineRoom (portOf d.addr) (stopOf d.addr) = true) : s.tileReg q idx op =
      (u.sentAll d 1).dispatch (portOf d.addr) (d.request (stopOf d.addr) (locOf d.addr)) (.desc q idx 0) (u.qOwner q) := by
  have hstop : (d.request (stopOf d.addr) (locOf d.addr)).stop = stopOf d.addr := rfl
  unfold State.tileReg
  rw [hturn]
  simp only [hbad, hstop, hk, hroom, Bool.false_eq_true, ↓reduceIte, Bool.not_true]

/-- A request on the line: `m` with the slot, the side and the source that its port gives it. -/
def State.SentOn (u s : State) (p : Nat) (m : ReqMsg) : Prop :=
  ∃ didx relief src, u.out = s.out ++ [.msg p (.req { m with didx := didx, relief := relief, src := src })]

theorem State.gives_tileReg {i : Instr} {t : Nat} (hs : s.up) (hi : exec i s = run (fun s => (s.tick t).tileReg q idx op) s)
    (hr : s.role = .sender) (hw : s.works B.que = true) (hc : s.qClass q = 0) (hd : s.desc q idx = some d) (hop : d.op = op)
    (hdisp : s.dispatchable q idx = true) (hturn : s.myTurn q = true) (hepoch : d.epoch = s.get R.TEN.RULE_EPOCH.EPOCH)
    (hk : stopOf d.addr ≠ 0) (hbad : s.badAddress d.addr d.op = false) (hroom : s.lineRoom (portOf d.addr) (stopOf d.addr) = true) :
    s.gives i fun u => u.SentOn s (portOf d.addr) (d.request (stopOf d.addr) (locOf d.addr)) ∧
      (u.lineTx (portOf d.addr)).txns.length = (s.lineTx (portOf d.addr)).txns.length + 1 ∧
      u.get R.QUE.DISPATCHED.COUNT = min (s.get R.QUE.DISPATCHED.COUNT + 1) (2 ^ R.QUE.DISPATCHED.COUNT.width - 1) := by
  have hserve : ((s.tick t).served q).regsOk := hs.2.1
  have hsent : (((s.tick t).served q).sentAll d 1).regsOk := State.regsOk_set (s := ((s.tick t).served q).setDesc _) hserve
  have hactive : (((s.tick t).served q).sentAll d 1).portActive (portOf d.addr) = true :=
    (State.portActive_sentAll hserve).trans (State.portActive_of_address (s := s) hk hbad)
  refine State.gives_of_run hs hi (State.tileReg_sends
    (State.turn_goes (s := s.tick t) hr hw hc hd hop hdisp hturn hepoch (State.atBound_of_room (s := s.tick t) hroom))
    (hop ▸ hbad) hk hroom) ⟨?_, ?_, ?_⟩
  · exact ⟨_, _, _, State.out_dispatch hsent hactive⟩
  · rw [State.txns_dispatch, List.length_append]
    rfl
  · rw [State.get_dispatch hsent (by simp only [Fld.key, R.QUE.DISPATCHED.COUNT, R.LNE.INFLIGHT.COUNT]; omega),
      State.get_dispatched_sentAll hserve]
    rfl

/-! ### UPLOAD (R448) -/

/-- The next request of an UPLOAD: eight words of the host's data. -/
def Desc.upload (d : Desc) (data : List Byte) : ReqMsg :=
  { op := 2, count := 8, stop := stopOf d.addr, relief := false, src := 0, tag := (d.tag + d.sent) % 65536, didx := 0
    loc := locOf d.addr + 32 * d.sent, mask := 0, data := (List.range 8).map (fun i => leNat ((data.drop (4 * i)).take 4)) }

/-- One more request of the descriptor has left. -/
def State.sendPart (s : State) (d : Desc) : State :=
  (s.setDesc { d with sent := d.sent + 1, dispatched := (d.sent + 1) * 32 == d.len }).count R.QUE.DISPATCHED.COUNT

theorem State.uploadNext_sends {data : List Byte} (hturn : s.turn q idx 3 5 = (u, some d)) (hlen : d.len ≠ 0) (hans : d.answers = [])
    (hbad : u.badAddress d.addr 2 = false) (hk : stopOf d.addr ≠ 0) (hroom : u.lineRoom (portOf d.addr) (stopOf d.addr) = true) :
    s.uploadNext q idx data false =
      (u.sendPart d).dispatch (portOf d.addr) (d.upload data) (.desc q idx d.sent) (u.qOwner q) := by
  have hnone : (firstBad d.answers d.sent).isSome = false := by simp [hans, firstBad]
  unfold State.uploadNext
  rw [hturn]
  simp only [hlen, hnone, hbad, hk, hroom, Bool.false_eq_true, ↓reduceIte, Bool.not_true]
  rfl

theorem State.desc_setDesc {e : Desc} (hd : s.desc q idx = some d) (hq : e.q = q) (hi : e.idx = idx) : (s.setDesc e).desc q idx = some e := by
  have hmap : ∀ l : List Desc, l.find? (fun d => d.q == q && d.idx == idx) = some d →
      (l.map fun x => if x.q = e.q && x.idx = e.idx then e else x).find? (fun d => d.q == q && d.idx == idx) = some e := by
    intro l hl
    induction l with
    | nil => cases hl
    | cons x l ih =>
      by_cases hx : x.q = q ∧ x.idx = idx
      · simp [hq, hi, hx.1, hx.2]
      · have hne : (x.q == q && x.idx == idx) = false := by simpa using hx
        rw [List.find?_cons_of_neg (by simp [hne])] at hl
        have hkeep : (if x.q = e.q && x.idx = e.idx then e else x) = x := if_neg (by simpa [hq, hi] using hx)
        rw [List.map_cons, hkeep, List.find?_cons_of_neg (by simp [hne])]
        exact ih hl
  exact hmap _ hd

/-! ### DEPART (R449) -/

/-- The WRITE of an entry. -/
def Desc.entryWrite (d : Desc) : ReqMsg :=
  { op := 2, count := 7, stop := stopOf d.addr, relief := false, src := 0, tag := d.tag, didx := 0
    loc := B.dep + 0x130, mask := 0, data := d.entryWords }

/-- The READ of ENT_STATUS that follows it. -/
def Desc.entryRead (d : Desc) (tag : Nat) : ReqMsg := { d.entryWrite with op := 1, count := 1, data := [], loc := B.dep + 0x14C, tag := tag }

theorem State.departDesc_sends (hturn : s.turn q idx 5 op = (u, some d)) (hbad : u.badAddress d.addr 2 = false) (hk : stopOf d.addr ≠ 0)
    (hroom : u.lineRoom (portOf d.addr) (stopOf d.addr) = true)
    (hroom' : ((u.draw.sentAll d 2).dispatch (portOf d.addr) d.entryWrite (.desc q idx 0) (u.qOwner q)).lineRoom (portOf d.addr)
      (stopOf d.addr) = true) :
    s.departDesc q idx op = ((u.draw.sentAll d 2).dispatch (portOf d.addr) d.entryWrite (.desc q idx 0) (u.qOwner q)).dispatch
      (portOf d.addr) (d.entryRead ((d.tag + 1 + Config.choice u.fresh % 65535) % 65536)) (.desc q idx 1) (u.qOwner q) := by
  unfold State.departDesc
  rw [hturn]
  simp only [hbad, hk, hroom, Bool.false_eq_true, ↓reduceIte, Bool.not_true]
  exact if_pos hroom'

/-- A port without transactions and held credits has room for a second request to its stop. -/
theorem State.lineRoom_dispatch {k : Nat} (hnone : (s.lineTx p).txns = []) (hheld : (s.lineTx p).held = []) (hk : k ≠ 255) :
    (s.dispatch p m owner tenant).lineRoom p k = true := by
  have hcredits : ((s.dispatch p m owner tenant).lineTx p).credits k < 64 := by
    rw [LineTx.credits, State.txns_dispatch, State.held_dispatch, hnone, hheld]
    refine Nat.lt_of_le_of_lt (Nat.add_le_add_right (List.length_filter_le _ _) _) ?_
    simp
  unfold State.lineRoom
  dsimp only
  rw [if_neg hk, State.txns_dispatch, hnone]
  simpa using hcredits

theorem State.sent_two {a b : Out} (h : u.out = s.out ++ [a] ++ [b]) :
    u.out[s.out.length]? = some a ∧ u.out[s.out.length + 1]? = some b := by
  rw [h]
  simp

/-- The two requests of a DEPART descriptor leave one after the other. -/
theorem State.gives_departDesc {i : Instr} {t : Nat} (hs : s.up) (hi : exec i s = run (fun s => (s.tick t).departDesc q idx op) s)
    (hr : s.role = .sender) (hw : s.works B.que = true) (hc : s.qClass q = 5) (hd : s.desc q idx = some d) (hop : d.op = op)
    (hdisp : s.dispatchable q idx = true) (hturn : s.myTurn q = true) (hepoch : d.epoch = s.get R.TEN.RULE_EPOCH.EPOCH)
    (hk : stopOf d.addr ≠ 0) (hbad : s.badAddress d.addr 2 = false) (hroom : s.lineRoom (portOf d.addr) (stopOf d.addr) = true)
    (hnone : (s.lineTx (portOf d.addr)).txns = []) (hk' : stopOf d.addr ≠ 255) (hheld : (s.lineTx (portOf d.addr)).held = []) :
    s.gives i fun u => (∃ r : ReqMsg, u.out[s.out.length]? = some (.msg (portOf d.addr) (.req r)) ∧ r.op = 2 ∧ r.loc = B.dep + 0x130 ∧
        r.data = d.entryWords) ∧
      ∃ r : ReqMsg, u.out[s.out.length + 1]? = some (.msg (portOf d.addr) (.req r)) ∧ r.op = 1 ∧ r.loc = B.dep + 0x14C := by
  have hserve : (((s.tick t).served q).draw).regsOk := hs.2.1
  have hsent : (((s.tick t).served q).draw.sentAll d 2).regsOk := State.regsOk_set (s := (((s.tick t).served q).draw).setDesc _) hserve
  have hactive : (((s.tick t).served q).draw.sentAll d 2).portActive (portOf d.addr) = true :=
    (State.portActive_sentAll hserve).trans (State.portActive_of_address (s := s) hk hbad)
  have hwrite := State.out_dispatch (m := d.entryWrite) (owner := .desc q idx 0) (tenant := s.qOwner q) hsent hactive
  have hfirst := State.regsOk_dispatch (p := portOf d.addr) (m := d.entryWrite) (owner := .desc q idx 0) (tenant := s.qOwner q) hsent
  have hactive' := (State.get_dispatch (p := portOf d.addr) (m := d.entryWrite) (owner := .desc q idx 0) (tenant := s.qOwner q)
    (f := R.LNK.PORT_STAT.STAGE (portOf d.addr)) hsent (by simp only [Fld.key, R.LNK.PORT_STAT.STAGE, R.LNE.INFLIGHT.COUNT]; omega)).trans
    (beq_iff_eq.mp hactive)
  have hout := (State.out_dispatch (m := d.entryRead ((d.tag + 1 + Config.choice s.fresh % 65535) % 65536)) (owner := .desc q idx 1)
    (tenant := s.qOwner q) hfirst (beq_iff_eq.mpr hactive')).trans (congrArg (· ++ _) hwrite)
  obtain ⟨hfirst, hsecond⟩ := State.sent_two (s := s) hout
  exact State.gives_of_run hs hi (State.departDesc_sends
    (State.turn_goes (s := s.tick t) hr hw hc hd hop hdisp hturn hepoch (State.atBound_of_room (s := s.tick t) hroom))
    hbad hk hroom (State.lineRoom_dispatch hnone hheld hk')) ⟨⟨_, hfirst, rfl, rfl, rfl⟩, _, hsecond, rfl, rfl⟩

end Remote

/-- Settles O47: the descriptor has the turn, so its request takes a slot of its port and leaves; DEPART sends two. -/
theorem remoteDescriptors : Obligations.RemoteDescriptors := by
  unfold Obligations.RemoteDescriptors
  refine ⟨?read, ?write, ?masked, ?ping, ?upload, ?departWrite, ?departCancel⟩
  case read =>
    intro s q idx t d hs hr _ hw hc hd hop hdisp hturn hepoch hk hbad hroom
    obtain ⟨u, hu, ⟨didx, relief, src, hout⟩, htxns, hcount⟩ := State.gives_tileReg (i := .tileRegRead q idx t) hs rfl hr hw hc hd hop hdisp hturn hepoch hk hbad hroom
    exact ⟨u, hu, ⟨_, hout, hop, rfl, rfl, rfl, by simp [Desc.request, hop]⟩, htxns, hcount⟩
  case write =>
    intro s q idx t d hs hr _ hw hc hd hop hdisp hturn hepoch hk hbad hroom
    obtain ⟨u, hu, ⟨didx, relief, src, hout⟩, htxns, hcount⟩ := State.gives_tileReg (i := .tileRegWrite q idx t) hs rfl hr hw hc hd hop hdisp hturn hepoch hk hbad hroom
    exact ⟨u, hu, ⟨_, hout, hop, rfl, rfl, rfl, by simp [Desc.request, hop]⟩, htxns, hcount⟩
  case masked =>
    intro s q idx t d hs hr _ hw hc hd hop hdisp hturn hepoch hk hbad hroom
    obtain ⟨u, hu, ⟨didx, relief, src, hout⟩, htxns, hcount⟩ := State.gives_tileReg (i := .tileRegWriteMasked q idx t) hs rfl hr hw hc hd hop hdisp hturn hepoch hk hbad hroom
    exact ⟨u, hu, ⟨_, hout, hop, rfl, rfl, rfl, by simp [Desc.request, hop], by simp [Desc.request, hop]⟩, htxns, hcount⟩
  case ping =>
    intro s q idx t d hs hr _ hw hc hd hop hdisp hturn hepoch hk hbad hroom
    obtain ⟨u, hu, ⟨didx, relief, src, hout⟩, htxns, hcount⟩ := State.gives_tileReg (i := .tileRegPing q idx t) hs rfl hr hw hc hd hop hdisp hturn hepoch hk hbad hroom
    exact ⟨u, hu, ⟨_, hout, hop, rfl, rfl, rfl⟩, htxns, hcount⟩
  case upload =>
    intro s q idx l t d hs hr _ hw hc hd hop hdisp hturn hepoch hlen hans hk hbad hroom
    obtain ⟨hq, hi⟩ := State.place_of_desc hd
    have hpart : (((s.tick t).served q).sendPart d).regsOk := State.regsOk_set (s := ((s.tick t).served q).setDesc _) hs.2.1
    have hactive : (((s.tick t).served q).sendPart d).portActive (portOf d.addr) = true :=
      (congrArg (· == 5) (State.get_set_ne (s := ((s.tick t).served q).setDesc _) hs.2.1
        (by simp only [Fld.key, R.LNK.PORT_STAT.STAGE, R.QUE.DISPATCHED.COUNT]; omega))).trans (State.portActive_of_address (s := s) hk hbad)
    have hout := State.out_dispatch (m := d.upload l) (owner := .desc q idx d.sent) (tenant := s.qOwner q) hpart hactive
    refine State.gives_of_run (f := fun s => (s.tick t).uploadNext q idx l false) hs rfl (State.uploadNext_sends
      (State.turn_goes (s := s.tick t) hr hw hc hd hop hdisp hturn hepoch (State.atBound_of_room (s := s.tick t) hroom))
      hlen hans hbad hk hroom) ⟨⟨_, hout, rfl, rfl, rfl, rfl⟩, ?_⟩
    exact (congrArg (fun x : QueSt => x.descs.find? _) State.que_dispatch).trans
      (State.desc_setDesc (s := (s.tick t).served q) hd hq hi)
  case departWrite =>
    intro s q idx t d hs hr _ hw hc hd hop hdisp hturn hepoch hk hbad hroom hnone hk' hheld
    exact State.gives_departDesc hs rfl hr hw hc hd hop hdisp hturn hepoch hk hbad hroom hnone hk' hheld
  case departCancel =>
    intro s q idx t d hs hr _ hw hc hd hop hdisp hturn hepoch hk hbad hroom hnone hk' hheld
    exact State.gives_departDesc hs rfl hr hw hc hd hop hdisp hturn hepoch hk hbad hroom hnone hk' hheld

end Sys2Proof.Machine

/-!
What the fault map and the integrity zones leave alone (spec/13_rails_faults_energy.md, R396 to R402).
-/
namespace Sys2Proof.Machine

/-- The registers in which LFM shows its zones, its counts and its errors. -/
def lampFields : List Fld :=
  [R.LFM.LATCH_LO.ZONES, R.LFM.LATCH_HI.ZONES, R.LFM.LFM_STAT.ZONES, R.LFM.LFM_STAT.TILE_DARK, R.LFM.LFM_STAT.BLIND,
    R.LFM.FAULT_CNT.COUNT, R.LFM.MASK_CNT.COUNT, R.LFM.REC_CNT.COUNT, R.LFM.BAD_REC.COUNT, R.LFM.SUPPR_CNT.COUNT,
    R.PG.FAULT B.lfm, R.PG.POISON_SEEN B.lfm]

section Lamps
variable {s : State} {K : Nat → Bool} {b z i k : Nat}

/-- `K` names no field of the memory and none that LFM shows. -/
structure LampQuiet (K : Nat → Bool) : Prop where
  mem : belowMem K
  shown : ∀ f ∈ lampFields, K f.key = false
  errs : ∀ f ∈ errFields B.lfm, K f.key = false
  faults : ∀ z, K (R.ZON.ZONE_FAULTS.COUNT z).key = false

/-- A field below the page of LFM. -/
theorem lampQuiet_of_below {f : Fld} (hf : f.key < 0x100000 * 32) : LampQuiet f.only := by
  have hoff : ∀ g : Fld, 0x100000 ≤ g.addr → f.only g.key = false := fun g hg => Fld.only_of_ne fun h => by
    rw [h, Fld.key] at hf
    omega
  refine ⟨fun a l w r ha => hoff ⟨a, l, w, r⟩ (Nat.le_trans (by decide) ha), fun g hg => hoff g ?_, fun g hg => hoff g ?_,
    fun z => hoff _ (by simp only [R.ZON.ZONE_FAULTS.COUNT]; omega)⟩
  · exact (show ∀ g ∈ lampFields, 0x100000 ≤ g.addr by decide) g hg
  · exact (show ∀ g ∈ errFields B.lfm, 0x100000 ≤ g.addr by decide) g hg

theorem LampQuiet.pend (h : LampQuiet K) : K (R.PG.EVT_PEND B.lfm).key = false := h.errs _ (by simp [errFields])

theorem LampQuiet.fields (h : LampQuiet K) :
    K R.LFM.LATCH_LO.ZONES.key = false ∧ K R.LFM.LATCH_HI.ZONES.key = false ∧ K R.LFM.LFM_STAT.ZONES.key = false ∧
      K R.LFM.LFM_STAT.TILE_DARK.key = false ∧ K R.LFM.LFM_STAT.BLIND.key = false ∧ K R.LFM.FAULT_CNT.COUNT.key = false ∧
      K R.LFM.MASK_CNT.COUNT.key = false ∧ K R.LFM.REC_CNT.COUNT.key = false ∧ K R.LFM.BAD_REC.COUNT.key = false ∧
      K R.LFM.SUPPR_CNT.COUNT.key = false ∧ K (R.PG.FAULT B.lfm).key = false ∧ K (R.PG.POISON_SEEN B.lfm).key = false := by
  simpa only [lampFields, List.forall_mem_cons, List.not_mem_nil, false_implies, implies_true, and_true] using h.shown

theorem State.fieldsAt_putBit {f : Fld} {x : Bool} (h : K f.key = false) : fieldsAt K (s.putBit f k x).regs = fieldsAt K s.regs :=
  State.fieldsAt_set h

theorem State.fieldsAt_putBit64 {f g : Fld} {x : Bool} (hf : K f.key = false) (hg : K g.key = false) :
    fieldsAt K (s.putBit64 f g k x).regs = fieldsAt K s.regs := by
  unfold State.putBit64
  split
  · exact State.fieldsAt_putBit hf
  · exact State.fieldsAt_putBit hg

theorem State.fieldsAt_faultCheck (h : LampQuiet K) : fieldsAt K (s.faultCheck i).regs = fieldsAt K s.regs := by
  obtain ⟨-, -, -, -, -, -, -, -, -, -, -, hseen⟩ := h.fields
  have hread := State.fieldsAt_dramRead (s := s) (port := 4) (a := s.faultBase + 8 * i) h.mem
  unfold State.faultCheck
  dsimp only
  split
  · refine (State.fieldsAt_err h.errs).trans ((State.fieldsAt_ev h.pend).trans ((State.fieldsAt_set hseen).trans hread))
  · exact hread

theorem State.fieldsAt_faultScan (h : LampQuiet K) : fieldsAt K s.faultScan.regs = fieldsAt K s.regs :=
  (fieldsAt_foldl (fun _ _ => State.fieldsAt_faultCheck h) _).trans rfl

theorem State.fieldsAt_evalZone (h : LampQuiet K) : fieldsAt K (s.evalZone z).regs = fieldsAt K s.regs := by
  obtain ⟨hlow, hhigh, -⟩ := h.fields
  unfold State.evalZone
  dsimp only
  split
  · rw [State.fieldsAt_ev h.pend, State.fieldsAt_putBit64 hlow hhigh, State.fieldsAt_set (h.faults z)]
  · exact State.fieldsAt_set (h.faults z)

theorem State.fieldsAt_showZones (h : LampQuiet K) : fieldsAt K s.showZones.regs = fieldsAt K s.regs := by
  obtain ⟨-, -, hzones, htile, hblind, -, -, -, -, -, hfault, -⟩ := h.fields
  simp [State.showZones, State.fault, h.pend, hzones, htile, hblind, hfault]

theorem State.fieldsAt_evalZones (h : LampQuiet K) : fieldsAt K s.evalZones.regs = fieldsAt K s.regs :=
  (State.fieldsAt_showZones h).trans ((fieldsAt_forN fun _ _ => State.fieldsAt_evalZone h).trans (State.fieldsAt_faultScan h))

theorem State.canon_evalZones (h : s.Canon) : s.evalZones.Canon :=
  Keep.canon (k := .all) (q := s) (by apply State.evalZones_good <;> simp [Keep.refl h])

theorem State.samePart_evalZones {p : Part} (h : s.Canon) (hp : p ∉ [Part.out, .tim, .mem, .dram, .lfm, .line]) :
    s.evalZones.samePart s p := by
  simp only [List.mem_cons, List.not_mem_nil, or_false, not_or] at hp
  obtain ⟨hout, htim, hmem, hdram, hlfm, hline⟩ := hp
  refine Keep.samePart (l := [p]) (F := []) ?_ (by simp)
  apply State.evalZones_good <;> simp [Keep.refl h, Ne.symm hout, Ne.symm htim, Ne.symm hmem, Ne.symm hdram, Ne.symm hlfm, Ne.symm hline]

/-- The zones change no field below the page of LFM. -/
theorem State.get_evalZones {f : Fld} (h : s.Canon) (hf : f.key < 0x100000 * 32) : s.evalZones.get f = s.get f :=
  State.get_of_only (State.canon_evalZones h).1 h.1 (State.fieldsAt_evalZones (lampQuiet_of_below hf))

end Lamps

end Sys2Proof.Machine

/-!
Rail channels (spec/13_rails_faults_energy.md, Table 13-1): ramps, READY, discharge, faults and CLR_FAULT.
-/
namespace Sys2Proof.Machine

theorem pageAt_rai : pageAt B.rai = some (.rai, 0) := by decide +kernel

/-- The fields of channel `c` that its state shows. -/
def railFields (c : Nat) : List Fld :=
  [R.RCH.CH_STAT.STATE c, R.RCH.CH_STAT.FCAUSE c, R.RCH.CH_STAT.DISCHARGED c, R.RCH.CH_STAT.SET_NOW c, R.RCH.CH_MEAS.V c,
    R.RCH.CH_MEAS.I c, R.RCH.CH_LIM_CNT.COUNT c]

/-- They lie below the page of LFM, and apart from the rail page's own registers. -/
theorem rail_beside : ∀ c < 24, ∀ f ∈ railFields c, f.key < 0x100000 * 32 ∧
    ∀ g ∈ R.RAI.RAI_READY.READY :: R.RAI.RAI_STAT.FAULT :: errFields B.rai, f.only g.key = false := by decide +kernel

section Rails
variable {s u : State} {c cause mv ma n v : Nat} {f : Fld}

theorem State.live_rai_of_tile (h : s.role = .tile) : s.live B.rai = true := by
  rw [State.live_of_pageAt pageAt_rai, h]
  rfl

/-! ### States and measured values (Table 13-1) -/

/-- Moving a channel to a state changes that field and RAI_READY. -/
theorem State.canon_setRail (h : s.Canon) : (s.setRail c v).Canon := State.canon_set (State.canon_set h)

theorem State.railState_setRail (h : s.regsOk) (hc : c < 24) : (s.setRail c v).railState c = v % 8 :=
  (State.get_set_ne (State.regsOk_set h) (by
    have hne := (rail_beside c hc (R.RCH.CH_STAT.STATE c) (by simp [railFields])).2 R.RAI.RAI_READY.READY (by simp)
    simpa [Fld.only] using hne)).trans (State.get_set_self h)

theorem State.get_setRail (h : s.regsOk) (hc : c < 24) (hf : f ∈ railFields c) (hst : f.key ≠ (R.RCH.CH_STAT.STATE c).key) :
    (s.setRail c v).get f = s.get f :=
  (State.get_set_ne (State.regsOk_set h) (by
    have hne := (rail_beside c hc f hf).2 R.RAI.RAI_READY.READY (by simp)
    simpa [Fld.only] using hne)).trans (State.get_set_ne h hst)

theorem State.canon_railMeasure (h : s.Canon) : (s.railMeasure c mv ma).Canon := State.canon_set (State.canon_set h)

theorem State.get_railMeasure (h : s.regsOk) (hV : f.key ≠ (R.RCH.CH_MEAS.V c).key) (hI : f.key ≠ (R.RCH.CH_MEAS.I c).key) :
    (s.railMeasure c mv ma).get f = s.get f := (State.get_set_ne (State.regsOk_set h) hI).trans (State.get_set_ne h hV)

theorem State.railState_railMeasure (h : s.regsOk) : (s.railMeasure c mv ma).railState c = s.railState c :=
  State.get_railMeasure h (by simp only [Fld.key, R.RCH.CH_STAT.STATE, R.RCH.CH_MEAS.V]; omega)
    (by simp only [Fld.key, R.RCH.CH_STAT.STATE, R.RCH.CH_MEAS.I]; omega)

theorem State.volts_railMeasure (h : s.regsOk) : (s.railMeasure c mv ma).get (R.RCH.CH_MEAS.V c) = mv % 2 ^ (R.RCH.CH_MEAS.V c).width :=
  (State.get_set_ne (State.regsOk_set h) (by simp only [Fld.key, R.RCH.CH_MEAS.V, R.RCH.CH_MEAS.I]; omega)).trans (State.get_set_self h)

/-! ### Faults (R389, R390) -/

/-- What a fault shows of channel `c`. -/
def State.showFault (s : State) (c cause : Nat) : State :=
  ((s.setRail c Rail.fault).set (R.RCH.CH_STAT.FCAUSE c) cause).putBit R.RAI.RAI_STAT.FAULT c true

/-- A fault starts the discharge of its channel, but DIS_TIMEOUT ends it. -/
def State.faultDischarge (s : State) (c cause : Nat) : State :=
  if cause = 5 then (s.showFault c cause).stopDischarge c else (s.showFault c cause).startDischarge c

/-- The channel in FAULT, with the error and the event. -/
def State.faulted (s : State) (c cause : Nat) : State :=
  ((s.faultDischarge c cause).err B.rai 0x12 c 0).ev B.rai Ev.RAI.RAIL_FAULT

/-- A cause applies in the states of Table 13-1. -/
def causeApplies (st cause : Nat) : Prop :=
  (st = Rail.softstart ∨ st = Rail.ready ∨ st = Rail.discharge) ∧ (cause = 3 → st = Rail.ready) ∧ (cause = 5 → st = Rail.discharge)

theorem State.railFault_faults (h : causeApplies (s.railState c) cause) : s.railFault c cause = (s.faulted c cause).evalZones := by
  obtain ⟨hst, h3, h5⟩ := h
  have hnot : ¬ (cause = 5 && s.railState c = Rail.fault) = true := by
    simp only [Bool.and_eq_true, decide_eq_true_eq]
    rintro ⟨rfl, hf⟩
    exact absurd ((h5 rfl).symm.trans hf) (by decide)
  have happlies : ((s.railState c = Rail.softstart || s.railState c = Rail.ready || s.railState c = Rail.discharge) &&
      (cause != 3 || s.railState c == Rail.ready) && (cause != 5 || s.railState c == Rail.discharge)) = true := by
    simp only [Bool.and_eq_true, Bool.or_eq_true, decide_eq_true_eq, bne_iff_ne, beq_iff_eq]
    refine ⟨⟨by tauto, ?_⟩, ?_⟩
    · by_cases h : cause = 3
      · exact .inr (h3 h)
      · exact .inl h
    · by_cases h : cause = 5
      · exact .inr (h5 h)
      · exact .inl h
  unfold State.railFault
  dsimp only
  rw [if_neg hnot, if_neg (by rw [happlies]; decide)]
  rfl

theorem State.regs_faultDischarge : (s.faultDischarge c cause).regs = (s.showFault c cause).regs := by
  unfold State.faultDischarge
  split <;> rfl

theorem State.role_faultDischarge : (s.faultDischarge c cause).role = s.role := by
  unfold State.faultDischarge
  split <;> rfl

theorem State.canon_faultDischarge (h : s.Canon) : (s.faultDischarge c cause).Canon := by
  have hshow : (s.showFault c cause).Canon := State.canon_set (State.canon_set (State.canon_setRail h))
  unfold State.faultDischarge
  split <;> exact hshow

theorem State.canon_faulted (h : s.Canon) : (s.faulted c cause).Canon := State.canon_ev (State.canon_err (State.canon_faultDischarge h))

theorem State.get_faulted (h : s.Canon) (hc : c < 24) (hf : f ∈ railFields c) :
    (s.faulted c cause).evalZones.get f = ((s.setRail c Rail.fault).set (R.RCH.CH_STAT.FCAUSE c) cause).get f := by
  obtain ⟨hlow, hbeside⟩ := rail_beside c hc f hf
  rw [State.get_evalZones (State.canon_faulted h) hlow]
  refine State.get_of_only (State.canon_faulted h).1 (State.canon_set (State.canon_setRail h)).1 ?_
  rw [State.faulted, State.fieldsAt_ev (hbeside _ (by simp [errFields])), State.fieldsAt_err fun g hg => hbeside g (by simp [hg]),
    State.regs_faultDischarge]
  exact State.fieldsAt_putBit (hbeside _ (by simp))

/-- What a fault leaves of its channel. -/
theorem State.faulted_shows (h : s.Canon) (hr : s.role = .tile) (hc : c < 24) :
    (s.faulted c cause).evalZones.railState c = Rail.fault ∧
      (s.faulted c cause).evalZones.get (R.RCH.CH_STAT.FCAUSE c) = cause % 8 ∧
      (s.faulted c cause).evalZones.get (R.RCH.CH_LIM_CNT.COUNT c) = s.get (R.RCH.CH_LIM_CNT.COUNT c) ∧
      (s.faulted c cause).evalZones.raised B.rai Ev.RAI.RAIL_FAULT = true := by
  have hset := State.canon_setRail (c := c) (v := Rail.fault) h
  have hdischarge := State.canon_faultDischarge (c := c) (cause := cause) h
  refine ⟨(State.get_faulted h hc (by simp [railFields])).trans ?_, (State.get_faulted h hc (by simp [railFields])).trans
    (State.get_set_self hset.1), (State.get_faulted h hc (by simp [railFields])).trans ?_, ?_⟩
  · exact (State.get_set_ne hset.1 (by simp only [Fld.key, R.RCH.CH_STAT.STATE, R.RCH.CH_STAT.FCAUSE]; omega)).trans
      (State.railState_setRail h.1 hc)
  · exact (State.get_set_ne hset.1 (by simp only [Fld.key, R.RCH.CH_LIM_CNT.COUNT, R.RCH.CH_STAT.FCAUSE]; omega)).trans
      (State.get_setRail h.1 hc (by simp [railFields]) (by simp only [Fld.key, R.RCH.CH_LIM_CNT.COUNT, R.RCH.CH_STAT.STATE]; omega))
  · rw [State.raised, State.get_evalZones (State.canon_faulted h) (by decide)]
    refine State.raised_ev_self (State.canon_err hdischarge).1 (State.live_rai_of_tile ?_) (by decide)
    exact State.shows_err.role.trans (State.role_faultDischarge.trans hr)

theorem State.discharging_faulted (h : s.Canon) (hcause : cause ≠ 5) : c ∈ (s.faulted c cause).evalZones.rai.discharging := by
  have hrai : (s.faulted c cause).evalZones.rai = (s.faultDischarge c cause).rai :=
    (State.samePart_evalZones (p := .rai) (State.canon_faulted h) (by decide)).trans
      ((State.shows_ev.trans State.shows_err).rai)
  rw [hrai, State.faultDischarge, if_neg hcause]
  exact List.mem_cons_self

/-! ### Ramps (R380) -/

/-- The setpoint one code nearer to its goal. -/
def stepToward (v g : Nat) : Nat := if v < g then v + 1 else if g < v then v - 1 else v

theorem State.rampStep_steps (hst : s.railState c = Rail.softstart ∨ s.railState c = Rail.ready) (hf : s.frozen B.rai = false) :
    s.rampStep c = (s.set (R.RCH.CH_STAT.SET_NOW c) (stepToward (s.get (R.RCH.CH_STAT.SET_NOW c)) (s.railGoal c))).showRail c := by
  unfold State.rampStep
  dsimp only
  rw [if_pos (by simp only [hf, Bool.not_false, Bool.and_true, Bool.or_eq_true, decide_eq_true_eq]; exact hst)]
  rfl

/-- The fields in which a channel shows its target lie apart from the setpoint. -/
theorem State.setpoint_rampStep (h : s.Canon) (hst : s.railState c = Rail.softstart ∨ s.railState c = Rail.ready)
    (hf : s.frozen B.rai = false) : ((s.rampStep c).railMeasure c mv ma).get (R.RCH.CH_STAT.SET_NOW c) =
      stepToward (s.get (R.RCH.CH_STAT.SET_NOW c)) (s.railGoal c) % 2 ^ (R.RCH.CH_STAT.SET_NOW c).width := by
  have hset : ∀ v, (s.set (R.RCH.CH_STAT.SET_NOW c) v).regsOk := fun v => State.regsOk_set h.1
  rw [State.rampStep_steps hst hf]
  refine (State.get_railMeasure (State.regsOk_set (State.regsOk_set (State.regsOk_set (hset _))))
    (by simp only [Fld.key, R.RCH.CH_STAT.SET_NOW, R.RCH.CH_MEAS.V]; omega)
    (by simp only [Fld.key, R.RCH.CH_STAT.SET_NOW, R.RCH.CH_MEAS.I]; omega)).trans ?_
  refine (State.get_set_ne (State.regsOk_set (State.regsOk_set (hset _)))
    (by simp only [Fld.key, R.RCH.CH_STAT.SET_NOW, R.RCH.CH_STAT.AT_TARGET]; omega)).trans ?_
  refine (State.get_set_ne (State.regsOk_set (hset _))
    (by simp only [Fld.key, R.RCH.CH_STAT.SET_NOW, R.RCH.CH_TARGET.FLOOR]; omega)).trans ?_
  exact (State.get_set_ne (hset _) (by simp only [Fld.key, R.RCH.CH_STAT.SET_NOW, R.RCH.CH_TARGET.NEXT]; omega)).trans
    (State.get_set_self h.1)

/-! ### READY, OFF and CLR_FAULT -/

theorem State.railReady_moves (hc : c < 24) (hst : s.railState c = Rail.softstart) :
    s.railReady c = (s.setRail c Rail.ready).ev B.rai Ev.RAI.RAIL_READY := if_pos (by simp [hc, hst])

/-- A channel in OFF whose mode is OFF stays there. -/
theorem State.railEval_rests (hmode : s.cur (R.RCH.CH_CTRL.MODE c) = 0) (hst : s.railState c = Rail.off) : s.railEval c = s := by
  unfold State.railEval
  simp [hmode, hst, Rail.off, Rail.softstart, Rail.ready]

/-- A channel that has discharged. -/
def State.showDischarged (s : State) (c : Nat) : State :=
  (((s.stopDischarge c).set (R.RCH.CH_STAT.DISCHARGED c) 1).setRail c Rail.off).ev B.rai Ev.RAI.DISCHARGED

theorem State.canon_stopped (h : s.Canon) : ((s.stopDischarge c).set (R.RCH.CH_STAT.DISCHARGED c) 1).Canon :=
  State.canon_set (s := s.stopDischarge c) h

theorem State.get_showDischarged (h : s.Canon) (hc : c < 24) (hf : f ∈ railFields c) : (s.showDischarged c).get f =
    (((s.stopDischarge c).set (R.RCH.CH_STAT.DISCHARGED c) 1).setRail c Rail.off).get f := by
  have hpend := (rail_beside c hc f hf).2 (R.PG.EVT_PEND B.rai) (by simp [errFields])
  exact State.get_ev_ne (State.canon_setRail (State.canon_stopped h)).1 (by simpa [Fld.only] using hpend)

theorem State.railState_showDischarged (h : s.Canon) (hc : c < 24) : (s.showDischarged c).railState c = Rail.off :=
  (State.get_showDischarged h hc (by simp [railFields])).trans (State.railState_setRail (State.canon_stopped h).1 hc)

/-- A channel in DISCHARGE whose output has fallen goes to OFF, where its mode keeps it. -/
theorem State.railDischarged_moves (h : s.Canon) (hc : c < 24) (hst : s.railState c = Rail.discharge)
    (hmode : s.cur (R.RCH.CH_CTRL.MODE c) = 0) : s.railDischarged c = s.showDischarged c := by
  have hstopped : ((s.stopDischarge c).set (R.RCH.CH_STAT.DISCHARGED c) 1).railState c = Rail.discharge :=
    (State.get_set_ne (s := s.stopDischarge c) h.1
      (by simp only [Fld.key, R.RCH.CH_STAT.STATE, R.RCH.CH_STAT.DISCHARGED]; omega)).trans hst
  have hmode' : (s.showDischarged c).cur (R.RCH.CH_CTRL.MODE c) = 0 :=
    (congrArg (fun l => lookupD l (R.RCH.CH_CTRL.MODE c).key (R.RCH.CH_CTRL.MODE c).rst) State.shows_ev.force).trans hmode
  unfold State.railDischarged
  rw [if_neg (by simp [hst]), if_pos hstopped]
  exact State.railEval_rests hmode' (State.railState_showDischarged h hc)

/-- A channel in FAULT that is cleared. -/
def State.showCleared (s : State) (c : Nat) : State :=
  ((s.setRail c Rail.off).set (R.RCH.CH_STAT.FCAUSE c) 0).putBit R.RAI.RAI_STAT.FAULT c false

theorem State.get_showCleared (h : s.Canon) (hc : c < 24) (hf : f ∈ railFields c) :
    (s.showCleared c).get f = ((s.setRail c Rail.off).set (R.RCH.CH_STAT.FCAUSE c) 0).get f := by
  have hbit := (rail_beside c hc f hf).2 R.RAI.RAI_STAT.FAULT (by simp)
  exact State.get_set_ne (State.canon_set (State.canon_setRail h)).1 (by simpa [Fld.only] using hbit)

theorem State.railState_showCleared (h : s.Canon) (hc : c < 24) : (s.showCleared c).railState c = Rail.off :=
  (State.get_showCleared h hc (by simp [railFields])).trans ((State.get_set_ne (State.canon_setRail h).1
    (by simp only [Fld.key, R.RCH.CH_STAT.STATE, R.RCH.CH_STAT.FCAUSE]; omega)).trans (State.railState_setRail h.1 hc))

theorem State.railClear_clears (h : s.Canon) (hc : c < 24) (hst : s.railState c = Rail.fault)
    (hdis : s.on (R.RCH.CH_STAT.DISCHARGED c) = true) (hmode : s.cur (R.RCH.CH_CTRL.MODE c) = 0) : s.railClear c = s.showCleared c := by
  unfold State.railClear
  rw [if_pos (by simp [hst, hdis])]
  exact State.railEval_rests hmode (State.railState_showCleared h hc)

/-- As many limited cycles as OC_CYC says fault a READY channel (R388). -/
theorem State.railLimited_faults (hst : s.railState c = Rail.ready) (hn : max 1 (s.cur (R.RCH.CH_SENSE.OC_CYC c)) ≤ n) :
    s.railLimited c n = (s.count (R.RCH.CH_LIM_CNT.COUNT c) n).railFault c 1 := by
  have hn' : max 1 ((s.count (R.RCH.CH_LIM_CNT.COUNT c) n).cur (R.RCH.CH_SENSE.OC_CYC c)) ≤ n := hn
  unfold State.railLimited
  dsimp only
  rw [if_pos (by simp [hst]), if_pos hn']

/-- A measurement and a cause that applies: the channel faults. -/
theorem State.gives_fault {i : Instr} {t : Nat} (hs : s.up) (hr : s.role = .tile)
    (hi : exec i s = runIn .tile (fun s => ((s.tick t).railMeasure c mv ma).railFault c cause) s) (hc : c < 24)
    (happlies : causeApplies (s.railState c) cause) (hcause : cause < 8) : s.gives i fun u =>
      u.railState c = Rail.fault ∧ u.get (R.RCH.CH_STAT.FCAUSE c) = cause ∧ (cause ≠ 5 → c ∈ u.rai.discharging) ∧
        u.raised B.rai Ev.RAI.RAIL_FAULT = true := by
  have hmeasure : ((s.tick t).railMeasure c mv ma).Canon := State.canon_railMeasure (s := s.tick t) hs.2
  have hstate : ((s.tick t).railMeasure c mv ma).railState c = s.railState c := State.railState_railMeasure (s := s.tick t) hs.2.1
  obtain ⟨hst, hfc, -, hraised⟩ := State.faulted_shows (cause := cause) hmeasure hr hc
  exact State.gives_of_runIn hs hr hi (State.railFault_faults (hstate ▸ happlies))
    ⟨hst, hfc.trans (Nat.mod_eq_of_lt hcause), State.discharging_faulted hmeasure, hraised⟩

end Rails

/-- Settles O41: each command measures, moves its channel by Table 13-1 and, at a fault, lets LFM look at its zones. -/
theorem railStates : Obligations.RailStates := by
  unfold Obligations.RailStates
  refine ⟨?ramp, ?ready, ?discharged, ?disTimeout, ?overcurrent, ?overvoltage, ?undervoltage, ?external, ?clears⟩
  case ramp =>
    intro s c mv ma t hs hr hc hst hf hwidth
    have hstep := State.setpoint_rampStep (s := s.tick t) (mv := mv) (ma := ma) hs.2 hst hf
    have hcanon : ((s.tick t).rampStep c).regsOk := by
      rw [State.rampStep_steps (s := s.tick t) hst hf]
      exact State.regsOk_set (State.regsOk_set (State.regsOk_set (State.regsOk_set (s := s.tick t) hs.2.1)))
    refine State.gives_of_runIn (f := fun s => ((s.tick t).rampStep c).railMeasure c mv ma) hs hr rfl rfl
      ⟨fun hlt => hstep.trans ?_, fun hgt => hstep.trans ?_, fun heq => hstep.trans ?_, State.volts_railMeasure hcanon⟩
    · exact congrArg (· % _) (if_pos hlt)
    · refine (congrArg (· % _) ((if_neg (Nat.not_lt.mpr (Nat.le_of_lt hgt))).trans (if_pos hgt))).trans (Nat.mod_eq_of_lt ?_)
      exact Nat.lt_of_le_of_lt (Nat.sub_le _ _) hwidth
    · refine (congrArg (· % _) ((if_neg (Nat.not_lt.mpr (Nat.le_of_eq heq.symm))).trans (if_neg (Nat.not_lt.mpr (Nat.le_of_eq heq))))).trans ?_
      exact (Nat.mod_eq_of_lt hwidth).trans heq
  case ready =>
    intro s c mv ma t hs hr hc hst
    have hmeasure : ((s.tick t).railMeasure c mv ma).Canon := State.canon_railMeasure (s := s.tick t) hs.2
    have hset := State.canon_setRail (c := c) (v := Rail.ready) hmeasure
    have hget {f : Fld} (hf : f ∈ railFields c) := State.get_ev_ne (k := Ev.RAI.RAIL_READY) hset.1
      (show f.key ≠ (R.PG.EVT_PEND B.rai).key by
        have hpend := (rail_beside c hc f hf).2 (R.PG.EVT_PEND B.rai) (by simp [errFields])
        simpa [Fld.only] using hpend)
    refine State.gives_of_runIn (f := fun s => ((s.tick t).railMeasure c mv ma).railReady c) hs hr rfl
      (State.railReady_moves hc ((State.railState_railMeasure (s := s.tick t) hs.2.1).trans hst)) ⟨?_, ?_, ?_⟩
    · exact (hget (f := R.RCH.CH_STAT.STATE c) (by simp [railFields])).trans (State.railState_setRail hmeasure.1 hc)
    · exact (hget (by simp [railFields])).trans ((State.get_setRail hmeasure.1 hc (by simp [railFields])
        (by simp only [Fld.key, R.RCH.CH_MEAS.V, R.RCH.CH_STAT.STATE]; omega)).trans (State.volts_railMeasure (s := s.tick t) hs.2.1))
    · exact State.raised_ev_self hset.1 (State.live_rai_of_tile (s := State.setRail _ _ _) hr) (by decide)
  case discharged =>
    intro s c mv t hs hr hc _ hst hmode
    have hmeasure : ((s.tick t).railMeasure c mv 0).Canon := State.canon_railMeasure (s := s.tick t) hs.2
    have hset := State.canon_setRail (c := c) (v := Rail.off) (State.canon_stopped (c := c) hmeasure)
    refine State.gives_of_runIn (f := fun s => ((s.tick t).railMeasure c mv 0).railDischarged c) hs hr rfl
      (State.railDischarged_moves hmeasure hc ((State.railState_railMeasure (s := s.tick t) hs.2.1).trans hst) hmode)
      ⟨State.railState_showDischarged hmeasure hc, ?_, congrArg RaiSt.discharging State.shows_ev.rai,
        State.raised_ev_self hset.1 (State.live_rai_of_tile (s := State.setRail _ _ _) hr) (by decide)⟩
    exact (State.get_showDischarged hmeasure hc (by simp [railFields])).trans ((State.get_setRail (State.canon_stopped hmeasure).1 hc
      (by simp [railFields]) (by simp only [Fld.key, R.RCH.CH_STAT.DISCHARGED, R.RCH.CH_STAT.STATE]; omega)).trans
      (State.get_set_self (s := State.stopDischarge _ c) hmeasure.1))
  case disTimeout =>
    intro s c mv ma t hs hr hc hst
    obtain ⟨u, hu, hstate, hcause, -, hraised⟩ := State.gives_fault (i := .disTimeout c mv ma t) (cause := 5) hs hr rfl hc
      ⟨.inr (.inr hst), nofun, fun _ => hst⟩ (by decide)
    exact ⟨u, hu, hstate, hcause, hraised⟩
  case overcurrent =>
    intro s c n mv ma t hs hr hc hst hn
    have hmeasure : ((s.tick t).railMeasure c mv ma).Canon := State.canon_railMeasure (s := s.tick t) hs.2
    have hcount : (((s.tick t).railMeasure c mv ma).count (R.RCH.CH_LIM_CNT.COUNT c) n).Canon := State.canon_set hmeasure
    have hstate : ((s.tick t).railMeasure c mv ma).railState c = Rail.ready :=
      (State.railState_railMeasure (s := s.tick t) hs.2.1).trans hst
    have hstate' : (((s.tick t).railMeasure c mv ma).count (R.RCH.CH_LIM_CNT.COUNT c) n).railState c = Rail.ready :=
      (State.get_set_ne hmeasure.1 (by simp only [Fld.key, R.RCH.CH_STAT.STATE, R.RCH.CH_LIM_CNT.COUNT]; omega)).trans hstate
    obtain ⟨hfault, hcause, hlim, -⟩ := State.faulted_shows (cause := 1) hcount hr hc
    refine State.gives_of_runIn (f := fun s => ((s.tick t).railMeasure c mv ma).railLimited c n) hs hr rfl
      ((State.railLimited_faults hstate hn).trans (State.railFault_faults ⟨.inr (.inl hstate'), nofun, nofun⟩))
      ⟨hfault, hcause, hlim.trans ?_, State.discharging_faulted hcount (by decide)⟩
    rw [State.get_count_self hmeasure.1, State.get_railMeasure (s := s.tick t) hs.2.1
      (by simp only [Fld.key, R.RCH.CH_LIM_CNT.COUNT, R.RCH.CH_MEAS.V]; omega)
      (by simp only [Fld.key, R.RCH.CH_LIM_CNT.COUNT, R.RCH.CH_MEAS.I]; omega)]
    rfl
  case overvoltage =>
    intro s c mv ma t hs hr hc hst
    obtain ⟨u, hu, hstate, hcause, hdis, -⟩ := State.gives_fault (i := .overvoltage c mv ma t) (cause := 2) hs hr rfl hc
      ⟨hst, nofun, nofun⟩ (by decide)
    exact ⟨u, hu, hstate, hcause, hdis (by decide)⟩
  case undervoltage =>
    intro s c mv ma t hs hr hc hst
    obtain ⟨u, hu, hstate, hcause, hdis, -⟩ := State.gives_fault (i := .undervoltage c mv ma t) (cause := 3) hs hr rfl hc
      ⟨.inr (.inl hst), fun _ => hst, nofun⟩ (by decide)
    exact ⟨u, hu, hstate, hcause, hdis (by decide)⟩
  case external =>
    intro s c mv ma t hs hr hc hst
    obtain ⟨u, hu, hstate, hcause, hdis, -⟩ := State.gives_fault (i := .externalFault c mv ma t) (cause := 4) hs hr rfl hc
      ⟨hst, nofun, nofun⟩ (by decide)
    exact ⟨u, hu, hstate, hcause, hdis (by decide)⟩
  case clears =>
    intro s c t hs hr hc hst hdis hmode
    have hset : ((s.tick t).setRail c Rail.off).Canon := State.canon_setRail (s := s.tick t) hs.2
    exact State.gives_of_runIn (f := fun s => (s.tick t).railClear c) hs hr rfl
      (State.railClear_clears (s := s.tick t) hs.2 hc hst hdis hmode)
      ⟨State.railState_showCleared (s := s.tick t) hs.2 hc,
        (State.get_showCleared (s := s.tick t) hs.2 hc (by simp [railFields])).trans (State.get_set_self hset.1)⟩

end Sys2Proof.Machine

/-!
Scan-out (spec/12_scan_drive.md): the gap, the readback window, loads, flips and rows.
-/
namespace Sys2Proof.Machine

section ReadbackWindow
variable {s : State} {K : Nat → Bool} {k v b c j i g r code source a : Nat} {f : Fld} {l : List (Nat × Nat)} {x : Bool}

/-! ### What the records of a window leave alone (R393 to R396) -/

theorem State.fieldsAt_changeEntry (h : belowMem K) {put : Nat → Option Nat} :
    fieldsAt K (s.changeEntry i put).regs = fieldsAt K s.regs := by
  unfold State.changeEntry
  dsimp only
  split
  · exact (State.fieldsAt_dramWrite h).trans (State.fieldsAt_dramRead h)
  · exact State.fieldsAt_dramRead h

theorem State.fieldsAt_applyRecord (h : LampQuiet K) : fieldsAt K (s.applyRecord g r).1.regs = fieldsAt K s.regs := by
  obtain ⟨-, -, -, -, -, -, -, hrec, hbad, hsuppr, -⟩ := h.fields
  unfold State.applyRecord
  dsimp only
  split
  · exact State.fieldsAt_count hbad
  · split
    · exact State.fieldsAt_count hsuppr
    · exact (State.fieldsAt_changeEntry h.mem).trans (State.fieldsAt_count hrec)

theorem State.fieldsAt_showFaults (h : LampQuiet K) : fieldsAt K s.showFaults.regs = fieldsAt K s.regs := by
  obtain ⟨-, -, -, -, -, hfault, hmask, -⟩ := h.fields
  exact (State.fieldsAt_set hmask).trans (State.fieldsAt_set hfault)

/-- One more record, with whether one so far was bad and whether one marked a lamp. -/
def nextRecord (a : State × Bool × Bool) (e : Nat × Nat) : State × Bool × Bool :=
  ((a.1.applyRecord e.1 e.2).1, a.2.1 || (a.1.applyRecord e.1 e.2).2.1, a.2.2 || (a.1.applyRecord e.1 e.2).2.2)

/-- The records applied in order. -/
def State.eachRecord (s : State) (l : List (Nat × Nat)) : State × Bool × Bool := l.foldl nextRecord (s, false, false)

theorem State.applyRecords_eq : s.applyRecords l = (((s.eachRecord l).1.evIf (s.eachRecord l).2.1 B.lfm Ev.LFM.REC_ERR).evIf
    (s.eachRecord l).2.2 B.lfm Ev.LFM.LAMP_FAULT).showFaults.evalZones := rfl

theorem State.fieldsAt_eachRecord (h : LampQuiet K) : fieldsAt K (s.eachRecord l).1.regs = fieldsAt K s.regs :=
  fieldsAt_foldl1 (f := nextRecord) (p := (s, false, false)) (fun _ _ => State.fieldsAt_applyRecord h) l

theorem State.fieldsAt_applyRecords (h : LampQuiet K) : fieldsAt K (s.applyRecords l).regs = fieldsAt K s.regs := by
  rw [State.applyRecords_eq, State.fieldsAt_evalZones h, State.fieldsAt_showFaults h, State.fieldsAt_evIf h.pend,
    State.fieldsAt_evIf h.pend, State.fieldsAt_eachRecord h]

/-! ### An event of LFM that stays pending through them -/

/-- Event `k` of LFM is pending in a state in canonical form. -/
structure State.Pends (s : State) (k : Nat) : Prop where
  canon : s.Canon
  raised : s.Raised B.lfm k

namespace State.Pends

theorem only (h : s.Pends k) {u : State} (hu : u.Canon)
    (e : fieldsAt (R.PG.EVT_PEND B.lfm).only u.regs = fieldsAt (R.PG.EVT_PEND B.lfm).only s.regs) : u.Pends k :=
  ⟨hu, hu.1, (State.raised_of_only hu.1 h.canon.1 e).trans h.raised.bit⟩

theorem set (h : s.Pends k) (hf : f.key / 32 % 0x1000 ≠ 0x18) : (s.set f v).Pends k :=
  ⟨State.canon_set h.canon, h.raised.set (pend_ne_of_offset rfl hf)⟩

theorem ev (h : s.Pends k) (hk : k < 32) : (s.ev c j).Pends k := ⟨State.canon_ev h.canon, h.raised.ev hk⟩

theorem evIf (h : s.Pends k) (hk : k < 32) : (s.evIf x c j).Pends k := by
  unfold State.evIf
  split
  · exact h.ev hk
  · exact h

theorem err (h : s.Pends k) (hc : c % 0x1000 = 0) (hk : k < 32) : (s.err c code source a).Pends k :=
  ⟨State.canon_err h.canon, h.raised.err rfl hc hk⟩

theorem fault (h : s.Pends k) (hc : c % 0x1000 = 0) (hk : k < 32) : (s.fault c x).Pends k :=
  (h.set (by simp only [Fld.key, R.PG.FAULT]; omega)).evIf hk

theorem putLfm (h : s.Pends k) {m : LfmSt} : { s with lfm := m }.Pends k := ⟨h.canon, h.raised.regs, h.raised.bit⟩

theorem poison (h : s.Pends k) (hk : k < 32) : (s.poison B.lfm source a).Pends k :=
  have herr := (h.set (f := R.PG.POISON_SEEN B.lfm) (v := 1) (by decide)).ev (c := B.lfm) (j := Ev.PG.POISON) hk
    |>.err (c := B.lfm) (code := 0x01) (source := source) (a := a) rfl hk
  ⟨herr.canon, herr.raised.regs, herr.raised.bit⟩

theorem belowMem_pend : belowMem (R.PG.EVT_PEND B.lfm).only := fun a l w r ha => Fld.only_of_ne (by
  simp only [Fld.key, R.PG.EVT_PEND, B.lfm]
  omega)

theorem dramRead (h : s.Pends k) : (s.dramRead j a).1.Pends k :=
  h.only (State.canon_dramRead h.canon) (State.fieldsAt_dramRead belowMem_pend)

theorem dramWrite (h : s.Pends k) {bytes : List Byte} {poison : Bool} : (s.dramWrite j a bytes poison).Pends k :=
  h.only (State.canon_dramWrite h.canon) (State.fieldsAt_dramWrite belowMem_pend)

theorem changeEntry (h : s.Pends k) {put : Nat → Option Nat} : (s.changeEntry i put).Pends k := by
  unfold State.changeEntry
  dsimp only
  split
  · exact h.dramRead.dramWrite
  · exact h.dramRead

theorem applyRecord (h : s.Pends k) : (s.applyRecord g r).1.Pends k := by
  unfold State.applyRecord
  dsimp only
  split
  · exact h.set (by decide)
  · split
    · exact h.set (by decide)
    · dsimp only
      refine State.Pends.changeEntry ?_
      exact h.set (by decide)

theorem faultCheck (h : s.Pends k) (hk : k < 32) : (s.faultCheck i).Pends k := by
  unfold State.faultCheck
  dsimp only
  split
  · exact h.dramRead.putLfm.poison hk
  · exact h.dramRead

theorem faultScan (h : s.Pends k) (hk : k < 32) : s.faultScan.Pends k :=
  Keep.foldl_of (P := fun u : State => u.Pends k) h.putLfm fun _ _ hu => hu.faultCheck hk

theorem evalZone (h : s.Pends k) (hk : k < 32) : (s.evalZone j).Pends k := by
  have hcount {n : Nat} : (s.set (R.ZON.ZONE_FAULTS.COUNT j) n).Pends k :=
    ⟨State.canon_set h.canon, h.raised.set (by simp only [Fld.key, R.PG.EVT_PEND, R.ZON.ZONE_FAULTS.COUNT, B.lfm]; omega)⟩
  unfold State.evalZone
  dsimp only
  split
  · unfold State.putBit64
    split
    · exact (hcount.set (by decide)).ev hk
    · exact (hcount.set (by decide)).ev hk
  · exact hcount

/-- What the zones show, whatever the values. -/
theorem showing (h : s.Pends k) (hk : k < 32) {m n p : Nat} {x y z : Bool} :
    (((((s.set R.LFM.LFM_STAT.ZONES m).set R.LFM.LFM_STAT.TILE_DARK n).evIf x B.lfm i).set R.LFM.LFM_STAT.BLIND p).fault B.lfm y
      |>.evIf z B.lfm j).Pends k :=
  (((((h.set (by decide)).set (by decide)).evIf hk).set (by decide)).fault rfl hk).evIf hk

theorem showZones (h : s.Pends k) (hk : k < 32) : s.showZones.Pends k := by
  simp only [State.showZones]
  exact h.showing hk

theorem evalZones (h : s.Pends k) (hk : k < 32) : s.evalZones.Pends k :=
  (State.forN_of (P := fun u : State => u.Pends k) (h.faultScan hk) fun _ _ _ hu => hu.evalZone hk).showZones hk

theorem showFaults (h : s.Pends k) : s.showFaults.Pends k := (h.set (by decide)).set (by decide)

theorem eachRecord (h : s.Pends k) : (s.eachRecord l).1.Pends k :=
  Keep.foldl_of (P := fun a : State × Bool × Bool => a.1.Pends k) h fun _ _ ha => ha.applyRecord

theorem applyRecords (h : s.Pends k) (hk : k < 32) : (s.applyRecords l).Pends k := by
  rw [State.applyRecords_eq]
  exact ((h.eachRecord.evIf hk).evIf hk).showFaults.evalZones hk

theorem memSettle (h : s.Pends k) (hk : k < 32) {was : List Nat} : (s.memSettle was).Pends k := by
  unfold State.memSettle
  split
  · exact h
  · exact ⟨State.canon_memCheck h.canon, h.raised.memCheck rfl hk⟩

end State.Pends

/-- A count of LFM that no record changes. -/
theorem lampQuiet_overflow : LampQuiet R.LFM.OVF_CNT.COUNT.only :=
  ⟨fun a l w r ha => Fld.only_of_ne (by simp only [Fld.key, R.LFM.OVF_CNT.COUNT]; omega), by decide, by decide,
    fun z => Fld.only_of_ne (by simp only [Fld.key, R.LFM.OVF_CNT.COUNT, R.ZON.ZONE_FAULTS.COUNT]; omega)⟩

theorem State.fieldsAt_windowEnd_records {was : List Nat} :
    fieldsAt R.LFM.OVF_CNT.COUNT.only ((s.applyRecords l).memSettle was).regs = fieldsAt R.LFM.OVF_CNT.COUNT.only s.regs := by
  have hrecords := State.fieldsAt_applyRecords (s := s) (l := l) lampQuiet_overflow
  unfold State.memSettle
  split
  · exact hrecords
  · exact (State.fieldsAt_memCheck (by decide)).trans hrecords

theorem State.canon_memSettle (h : s.Canon) {was : List Nat} : (s.memSettle was).Canon := by
  unfold State.memSettle
  split
  · exact h
  · exact State.canon_memCheck h

/-- The records of the groups up to their end records (R393). -/
def groupRecords (w : List (Nat × List Nat)) : List (Nat × Nat) :=
  (w.map (fun g => (upToEnd g.2).1.map (fun r => (g.1, r)))).foldl (· ++ ·) []

/-- Some group sends no end record (R393). -/
def groupsOpen (w : List (Nat × List Nat)) : Bool := w.any (fun e => !(upToEnd e.2).2)

theorem State.frozen_windowOverflow (h : s.regsOk) : (s.windowOverflow x).frozen B.lfm = s.frozen B.lfm := by
  unfold State.windowOverflow
  split
  · have hkept {f : Fld} (hc : f.key ≠ R.LFM.OVF_CNT.COUNT.key) (hp : f.key ≠ (R.PG.EVT_PEND B.lfm).key) :
        ((s.count R.LFM.OVF_CNT.COUNT).ev B.lfm Ev.LFM.REC_ERR).get f = s.get f :=
      (State.get_ev_ne (State.regsOk_set h) hp).trans (State.get_set_ne h hc)
    simp only [State.frozen, State.on]
    rw [hkept (by decide) (by decide), hkept (by decide) (by decide)]
  · rfl

/-- LFM at work applies what the window has brought. -/
theorem State.windowEnd_applies {w : List (Nat × List Nat)} (h : s.regsOk) (hs : s.get R.LFM.LFM_STAT.SUSPENDED = 0)
    (he : s.enabled B.lfm = true) (hr : (timetable s.scn.force).rbEn ≠ 0) (hf : s.frozen B.lfm = false) :
    s.windowEnd w = ((s.windowOverflow (groupsOpen w)).applyRecords (groupRecords w)).memSettle s.chStates := by
  have hworks : ¬ (s.on R.LFM.LFM_STAT.SUSPENDED || !s.enabled B.lfm || (timetable s.scn.force).rbEn = 0) = true := by
    simp [State.on, hs, he, hr]
  unfold State.windowEnd State.readback
  rw [if_neg hworks]
  dsimp only
  rw [if_neg (by rw [State.frozen_windowOverflow h, hf]; decide)]
  rfl

theorem State.canon_windowOverflow (h : s.Canon) : (s.windowOverflow x).Canon := by
  unfold State.windowOverflow
  split
  · exact State.canon_ev (State.canon_set h)
  · exact h

theorem State.get_windowOverflow (h : s.regsOk) : (s.windowOverflow x).get R.LFM.OVF_CNT.COUNT =
    if x then min (s.get R.LFM.OVF_CNT.COUNT + 1) (2 ^ R.LFM.OVF_CNT.COUNT.width - 1) else s.get R.LFM.OVF_CNT.COUNT := by
  unfold State.windowOverflow
  split
  · exact (State.get_ev_ne (State.regsOk_set h) (by decide)).trans (State.get_count_self h)
  · rfl

theorem pageAt_lfm : pageAt B.lfm = some (.lfm, 0) := by decide +kernel

theorem State.live_lfm (hr : s.role = .tile) : s.live B.lfm = true := by
  rw [State.live_of_pageAt pageAt_lfm, hr]
  rfl

end ReadbackWindow

/-! ### The gap (R350) -/

section Gap
variable {s : State}

/-- BLANK rises and the gap begins. -/
def State.blanked (s : State) : State := (s.set R.SCN.SCN_STAT.GAP 1).ev B.scn Ev.SCN.BLANK_START

/-- CONFIG and SUBSYNC have gone out. -/
def State.gapOpened (s : State) : State :=
  let t := timetable s.scn.force
  let u := (s.blanked.emit (.sink 5 [s.blanked.scanS - 1, t.nseg - 1, spread t.nseg, t.seed])).emit (.sink 4 [0])
  { u with scn := { u.scn with resync := false, ready := true } }

theorem State.regs_gapOpened : s.gapOpened.regs = s.blanked.regs := rfl

theorem State.out_gapOpened : ∃ l, s.gapOpened.out = l ++ [.sink 5 [s.blanked.scanS - 1, (timetable s.scn.force).nseg - 1,
    spread (timetable s.scn.force).nseg, (timetable s.scn.force).seed]] ++ [.sink 4 [0]] := ⟨_, rfl⟩

/-- SCN visits rows: neither a gap nor a time before the first frame departure. -/
def State.visiting (s : State) : Prop :=
  s.live B.scn = true ∧ s.enabled B.scn = true ∧ s.get R.SCN.SCN_STAT.GAP = 0 ∧ s.dep.last.isSome = true

theorem State.visiting_guard (h : s.visiting) :
    ¬ (!s.live B.scn || !s.enabled B.scn || s.on R.SCN.SCN_STAT.GAP || s.dep.last.isNone) = true := by
  obtain ⟨hl, he, hg, hd⟩ := h
  have hsome : s.dep.last.isNone = false := by rwa [Option.isNone_eq_false_iff]
  simp [hl, he, hsome, State.on, hg]

theorem State.gapStart_opens (h : s.visiting) : s.gapStart =
    if (timetable s.scn.force).rbEn = 1 then (s.gapOpened.emit (.sink 6 [0])).emit
      (.readback (timetable s.scn.force).groups (timetable s.scn.force).rbUs) else s.gapOpened := if_neg (State.visiting_guard h)

theorem State.get_blanked {f : Fld} (h : s.regsOk) (hp : f.key ≠ (R.PG.EVT_PEND B.scn).key) :
    s.blanked.get f = (s.set R.SCN.SCN_STAT.GAP 1).get f := State.get_ev_ne (State.regsOk_set h) hp

theorem State.gap_blanked (h : s.regsOk) : s.blanked.get R.SCN.SCN_STAT.GAP = 1 :=
  (State.get_blanked h (by decide)).trans (State.get_set_self h)

theorem State.scanS_blanked (h : s.regsOk) : s.blanked.scanS = s.scanS :=
  congrArg (· + 1) ((State.get_blanked h (by decide)).trans (State.get_set_ne h (by decide)))

theorem State.raised_blanked (h : s.regsOk) (hl : s.live B.scn = true) : s.blanked.raised B.scn Ev.SCN.BLANK_START = true :=
  State.raised_ev_self (State.regsOk_set h) hl (by decide)

end Gap

/-! ### Rows (R348) -/

section Rows
variable {s : State} {t : Timetable} {row seg k : Nat} {f : Fld}

theorem State.regs_sendPlanes : (s.sendPlanes t row seg).regs = s.regs := by
  unfold State.sendPlanes
  split
  · exact Keep.foldl_of (P := fun u : State => u.regs = s.regs) rfl fun _ _ h => h
  · rfl

/-- The edge counts and raises; it keeps every field but the count of late loads. -/
theorem State.get_rowEdge (h : s.Canon) (hp : f.key ≠ (R.PG.EVT_PEND B.scn).key) (hc : f.key ≠ R.SCN.LOAD_LATE_CNT.COUNT.key) :
    s.rowEdge.get f = s.get f := by
  have hcanon : s.rowEdge.Canon := Keep.canon (k := .all) (q := s) (by apply State.rowEdge_good <;> simp [Keep.refl h])
  refine State.get_of_only hcanon.1 h.1 ?_
  have hpend : f.only (R.PG.EVT_PEND B.scn).key = false := Fld.only_of_ne hp
  have hcount : f.only R.SCN.LOAD_LATE_CNT.COUNT.key = false := Fld.only_of_ne hc
  simp only [State.rowEdge]
  rw [State.fieldsAt_evIf hpend]
  refine (State.fieldsAt_evIf hpend).trans ((State.fieldsAt_count hcount).trans ?_)
  exact congrArg _ State.regs_sendPlanes

theorem State.nextRow_next (h : s.visiting) (hrow : s.get R.SCN.SCN_STAT.ROW + 1 < s.scanS) :
    s.nextRow = (s.set R.SCN.SCN_STAT.ROW (s.get R.SCN.SCN_STAT.ROW + 1)).rowEdge :=
  (if_neg (State.visiting_guard h)).trans (if_pos hrow)

end Rows

/-! ### Loads and flips (R356 to R358) -/

section Loads
variable {s : State} {set view : Nat} {back : Bool} {vals : List Nat} {x : Load}

theorem State.sendBand_eq {b : Nat} : ∃ l, s.sendBand b vals = { s with out := l } := by
  unfold State.sendBand
  split
  · exact ⟨_, rfl⟩
  · exact ⟨_, rfl⟩

/-- A load that goes to the sinks is an output alone. -/
theorem State.sendBands_eq : ∃ l, s.sendBands vals = { s with out := l } :=
  State.forN_of (P := fun u : State => ∃ l, u = { s with out := l }) ⟨_, rfl⟩ fun u i _ ⟨l, hu⟩ => by
    obtain ⟨m, hm⟩ := State.sendBand_eq (s := u) (b := i)
      (vals := (vals.drop (i * (s.scanS * s.tw * s.numE))).take (s.scanS * s.tw * s.numE))
    exact ⟨m, hm.trans (by rw [hu])⟩

/-- What a load finds before it is put under way: the values of its plane have been read. -/
def State.loadRead (s : State) (set view : Nat) (back : Bool) : State × List Nat :=
  let u := s.spireLoad ((if back then s.scn.backFrame.getD 0 else s.scn.frontFrame.getD 0) :: s.dueFrames view)
  let r := u.loadValues set view 0 u.lamps
    (u.darkLoad view || (if back then u.scn.backDark else u.scn.frontDark).contains view)
  (r.1.memSettle u.chStates, r.2)

theorem State.startLoad_eq : s.startLoad set view back = ((s.loadRead set view back).1.putLoad
    ⟨view, set, if back then s.scn.backFrame.getD 0 else s.scn.frontFrame.getD 0⟩ back (s.loadRead set view back).2).sendBands
    (s.loadRead set view back).2 := rfl

theorem State.canon_loadRead (h : s.Canon) : (s.loadRead set view back).1.Canon := by
  refine State.canon_memSettle (Keep.canon (k := .all) (q := s) ?_)
  apply State.loadValues_good <;> try simp
  apply State.spireLoad_good <;> simp [Keep.refl h]

/-- A load that starts is shown. -/
theorem State.startLoad_shows (h : s.Canon) : (s.startLoad set view back).scn.load =
      some ⟨view, set, if back then s.scn.backFrame.getD 0 else s.scn.frontFrame.getD 0⟩ ∧
    (s.startLoad set view back).scn.fromBack = back ∧ (s.startLoad set view back).get R.SCN.SCN_STAT.LOADING = 1 := by
  have hread := State.canon_loadRead (set := set) (view := view) (back := back) h
  rw [State.startLoad_eq]
  generalize s.loadRead set view back = r at hread
  obtain ⟨l, hl⟩ := State.sendBands_eq (s := r.1.putLoad
    ⟨view, set, if back then s.scn.backFrame.getD 0 else s.scn.frontFrame.getD 0⟩ back r.2) (vals := r.2)
  rw [hl]
  exact ⟨rfl, rfl, State.get_set_self hread.1⟩

/-- A load that is free finds SCN at work. -/
theorem State.loadFree_last (h : s.loadFree = true) : s.dep.last.isSome = true := by
  simp only [State.loadFree, State.scnWorks, Bool.and_eq_true] at h
  exact h.1.1.1.1.2

theorem State.loadStart_front (h : s.loadFree = true) (hv : s.nextView ≠ 0) :
    s.loadStart = s.startLoad (s.get R.SCN.SCN_STAT.FRONT) s.nextView false :=
  (if_neg (by rw [h]; decide)).trans (if_neg hv)

theorem State.loadStart_back (h : s.loadFree = true) (hv : s.nextView = 0) (hb : s.scn.backFrame = s.dep.last) :
    s.loadStart = s.startLoad (1 - s.get R.SCN.SCN_STAT.FRONT) 0 true :=
  (if_neg (by rw [h]; decide)).trans ((if_pos hv).trans (if_pos (by rw [hb, State.loadFree_last h, beq_self_eq_true]; rfl)))

theorem State.loadDeadline_front (h : s.loadFree = true) (hv : s.nextView = 0) :
    s.loadDeadline = s.startLoad (s.get R.SCN.SCN_STAT.FRONT) 0 false := if_pos (by rw [h, hv]; rfl)

/-- A load of view 0 that ends. -/
def State.loaded (s : State) (x : Load) : State :=
  { s with scn := { s.scn with load := none, loaded := some x } }.set R.SCN.SCN_STAT.LOADING 0

theorem State.loadDone_view (hl : s.scn.load = some x) (hv : x.view = 0) : s.loadDone = (s.loaded x).frameDone := by
  unfold State.loadDone
  rw [hl]
  exact if_pos hv

/-- SCN may flip a whole subframe now. -/
def State.flips (s : State) : Prop :=
  s.scnWorks = true ∧ s.modeCur.timing = 0 ∧ s.scn.flip = false ∧ s.scn.targetFree = true

theorem State.flips_guard (h : s.flips) : ¬ (!s.scnWorks || s.modeCur.timing != 0 || s.scn.flip || !s.scn.targetFree) = true := by
  obtain ⟨hw, ht, hf, hfree⟩ := h
  simp [hw, ht, hf, hfree]

theorem State.flipSend_loaded (h : s.flips) (hl : s.scn.loaded = some x) :
    s.flipSend = { s with scn := { s.scn with flip := true, targetFree := false } }.sinkCell 3 [0x8000] := by
  refine (if_neg (State.flips_guard h)).trans ?_
  rw [hl]

/-- A load is abandoned at its flip moment. -/
def State.unloaded (s : State) : State :=
  { s with scn := { s.scn with load := none, target := [], fromBack := false, targetFree := false } }.set R.SCN.SCN_STAT.LOADING 0

theorem State.flipSend_late (h : s.flips) (hl : s.scn.loaded = none) :
    s.flipSend = (s.unloaded.count R.SCN.LOAD_LATE_CNT.COUNT).ev B.scn Ev.SCN.LOAD_LATE := by
  refine (if_neg (State.flips_guard h)).trans ?_
  rw [hl]
  rfl

theorem pageAt_scn : pageAt B.scn = some (.scn, 0) := by decide +kernel

theorem State.live_scn (hr : s.role = .tile) : s.live B.scn = true := by
  rw [State.live_of_pageAt pageAt_scn, hr]
  rfl

end Loads

/-! ### The commands -/

section ScanCommands
variable {s : State} {t : Nat} {x : Load} {w : List (Nat × List Nat)} {c : Instr} {f : State → State} {set view : Nat} {back : Bool}

theorem State.gives_readbackWindowEnd (hs : s.up) (hr : s.role = .tile) (hsus : s.get R.LFM.LFM_STAT.SUSPENDED = 0)
    (he : s.enabled B.lfm = true) (hrb : (timetable s.scn.force).rbEn ≠ 0) (hf : s.frozen B.lfm = false) :
    s.gives (.readbackWindowEnd w t) fun u => u.get R.LFM.OVF_CNT.COUNT = (if groupsOpen w then
      min (s.get R.LFM.OVF_CNT.COUNT + 1) (2 ^ R.LFM.OVF_CNT.COUNT.width - 1) else s.get R.LFM.OVF_CNT.COUNT) ∧
      (groupsOpen w → u.raised B.lfm Ev.LFM.REC_ERR) := by
  have hover := State.canon_windowOverflow (s := s.tick t) (x := groupsOpen w) hs.2
  refine State.gives_of_runIn_ok (f := fun s => (s.tick t).windowEnd w) hs hr rfl
    (State.windowEnd_applies (s := s.tick t) (w := w) hs.2.1 hsus he hrb hf) fun hu => ⟨?_, fun hopen => ?_⟩
  · exact (State.get_of_only hu hover.1 State.fieldsAt_windowEnd_records).trans (State.get_windowOverflow (s := s.tick t) hs.2.1)
  · have hraised : ((s.tick t).windowOverflow (groupsOpen w)).Pends Ev.LFM.REC_ERR := by
      refine ⟨hover, ?_⟩
      unfold State.windowOverflow
      rw [if_pos hopen]
      exact .of_ev (State.regsOk_set hs.2.1) (State.live_lfm (s := s.tick t) hr) (by decide)
    exact ((hraised.applyRecords (by decide)).memSettle (by decide)).raised.bit

theorem State.gives_flipSend_late (hs : s.up) (hr : s.role = .tile) (hflip : s.flips) (hl : s.scn.loaded = none) :
    s.gives (.flipSend t) fun u => u.scn.load = none ∧ u.get R.SCN.SCN_STAT.LOADING = 0 ∧ u.get R.SCN.LOAD_LATE_CNT.COUNT =
      min (s.get R.SCN.LOAD_LATE_CNT.COUNT + 1) (2 ^ R.SCN.LOAD_LATE_CNT.COUNT.width - 1) ∧
      u.raised B.scn Ev.SCN.LOAD_LATE := by
  have hset : (s.tick t).unloaded.regsOk := State.regsOk_set hs.2.1
  have hcount : ((s.tick t).unloaded.count R.SCN.LOAD_LATE_CNT.COUNT).regsOk := State.regsOk_set hset
  have hlate : (s.tick t).unloaded.get R.SCN.LOAD_LATE_CNT.COUNT = s.get R.SCN.LOAD_LATE_CNT.COUNT :=
    State.get_set_ne hs.2.1 (by decide)
  have hzero : (s.tick t).unloaded.get R.SCN.SCN_STAT.LOADING = 0 := State.get_set_self hs.2.1
  refine State.gives_of_runIn_ok (f := fun s => (s.tick t).flipSend) hs hr rfl
    (State.flipSend_late (s := s.tick t) hflip hl) fun _ =>
    ⟨congrArg ScnSt.load State.shows_ev.scn, ?_, ?_, State.raised_ev_self hcount (State.live_scn (s := s.tick t) hr) (by decide)⟩
  · exact (State.get_ev_ne hcount (by decide)).trans ((State.get_set_ne hset (by decide)).trans hzero)
  · exact (State.get_ev_ne hcount (by decide)).trans ((State.get_count_self hset).trans (by rw [hlate]))

theorem State.gives_loadDone (hs : s.up) (hr : s.role = .tile) (hl : s.scn.load = some x) (hv : x.view = 0) :
    s.gives (.loadDone t) fun u => u.scn.load = none ∧ u.scn.loaded = some x ∧ u.get R.SCN.SCN_STAT.LOADING = 0 ∧
      u.raised B.scn Ev.SCN.FRAME_DONE := by
  have hset : ((s.tick t).loaded x).regsOk := State.regsOk_set hs.2.1
  have hzero : ((s.tick t).loaded x).get R.SCN.SCN_STAT.LOADING = 0 := State.get_set_self hs.2.1
  refine State.gives_of_runIn_ok (f := fun s => (s.tick t).loadDone) hs hr rfl
    (State.loadDone_view (s := s.tick t) hl hv) fun _ => ⟨congrArg ScnSt.load State.shows_ev.scn,
      congrArg ScnSt.loaded State.shows_ev.scn, ?_, State.raised_ev_self (State.regsOk_set hset) (State.live_scn (s := s.tick t) hr)
        (by decide)⟩
  exact (State.get_ev_ne (State.regsOk_set hset) (by decide)).trans ((State.get_set_ne hset (by decide)).trans hzero)

theorem State.gives_gapStart (hs : s.up) (hr : s.role = .tile) (hv : s.visiting) :
    s.gives (.gapStart t) fun u => u.get R.SCN.SCN_STAT.GAP = 1 ∧ u.raised B.scn Ev.SCN.BLANK_START ∧
      Out.sink 5 [s.scanS - 1, (timetable s.scn.force).nseg - 1, spread (timetable s.scn.force).nseg,
        (timetable s.scn.force).seed] ∈ u.out ∧
      u.out.getLast? = some (if (timetable s.scn.force).rbEn = 1 then
        .readback (timetable s.scn.force).groups (timetable s.scn.force).rbUs else .sink 4 [0]) := by
  have hgap {u : State} (hu : u.regs = (s.tick t).blanked.regs) : u.get R.SCN.SCN_STAT.GAP = 1 ∧
      u.raised B.scn Ev.SCN.BLANK_START = true := by
    have hget : ∀ f, u.get f = (s.tick t).blanked.get f := fun f => by simp only [State.get, hu]
    exact ⟨(hget _).trans (State.gap_blanked (s := s.tick t) hs.2.1),
      (congrArg (bitAt · _) (hget _)).trans (State.raised_blanked (s := s.tick t) hs.2.1 hv.1)⟩
  obtain ⟨l, hl⟩ := State.out_gapOpened (s := s.tick t)
  rw [State.scanS_blanked (s := s.tick t) hs.2.1, State.tick_scn] at hl
  refine State.gives_of_runIn_ok (f := fun s => (s.tick t).gapStart) hs hr rfl (State.gapStart_opens (s := s.tick t) hv) fun _ => ?_
  rw [State.tick_scn]
  split
  · obtain ⟨hget, hraised⟩ := hgap (u := ((s.tick t).gapOpened.emit (.sink 6 [0])).emit _)
      (by simp only [State.emit_regs, State.regs_gapOpened])
    refine ⟨hget, hraised, ?_, ?_⟩
    · simp only [State.emit_out, hl]
      simp [State.scanS]
    · simp only [State.emit_out, List.getLast?_concat]
  · obtain ⟨hget, hraised⟩ := hgap State.regs_gapOpened
    refine ⟨hget, hraised, ?_, ?_⟩
    · rw [hl]
      simp [State.scanS]
    · rw [hl, List.getLast?_concat]

theorem State.gives_rowSelectEdge (hs : s.up) (hr : s.role = .tile) (hv : s.visiting)
    (hrow : s.get R.SCN.SCN_STAT.ROW + 1 < s.scanS) : s.gives (.rowSelectEdge t) fun u =>
      u.get R.SCN.SCN_STAT.ROW = (s.get R.SCN.SCN_STAT.ROW + 1) % 2 ^ R.SCN.SCN_STAT.ROW.width ∧
      u.get R.SCN.SCN_STAT.SEG = s.get R.SCN.SCN_STAT.SEG := by
  have hset : ((s.tick t).set R.SCN.SCN_STAT.ROW (s.get R.SCN.SCN_STAT.ROW + 1)).Canon := State.canon_set hs.2
  exact State.gives_of_runIn_ok (f := fun s => (s.tick t).nextRow) hs hr rfl (State.nextRow_next (s := s.tick t) hv hrow) fun _ =>
    ⟨(State.get_rowEdge hset (by decide) (by decide)).trans (State.get_set_self hs.2.1),
      (State.get_rowEdge hset (by decide) (by decide)).trans (State.get_set_ne hs.2.1 (by decide))⟩

/-- A command that starts a load shows it. -/
theorem State.gives_startLoad (hs : s.up) (hr : s.role = .tile) (hc : exec c s = runIn .tile f s)
    (hu : f s = (s.tick t).startLoad set view back) : s.gives c fun u => u.scn.load =
      some ⟨view, set, if back then s.scn.backFrame.getD 0 else s.scn.frontFrame.getD 0⟩ ∧ u.scn.fromBack = back ∧
      u.get R.SCN.SCN_STAT.LOADING = 1 :=
  State.gives_of_runIn_ok hs hr hc hu fun _ => State.startLoad_shows (s := s.tick t) hs.2

end ScanCommands

/-- Settles O39: each command sets its fields first; what the loads, the records and the row edge do after it changes other
fields or only adds outputs. -/
theorem scanLoads : Obligations.ScanLoads := by
  unfold Obligations.ScanLoads
  refine ⟨?gap, ?gapReadback, ?readback, ?flip, ?late, ?front, ?back, ?done, ?deadline, ?row⟩
  case gap =>
    intro s t hs hr hl he hg hd hrb
    obtain ⟨u, hnext, hgap, hraised, -, hlast⟩ := State.gives_gapStart (t := t) hs hr ⟨hl, he, hg, hd⟩
    rw [if_neg (by rw [hrb]; decide)] at hlast
    exact ⟨u, hnext, hgap, hraised, hlast⟩
  case gapReadback =>
    intro s t hs hr hl he hg hd hrb
    obtain ⟨u, hnext, hgap, hraised, hin, hlast⟩ := State.gives_gapStart (t := t) hs hr ⟨hl, he, hg, hd⟩
    rw [if_pos hrb] at hlast
    exact ⟨u, hnext, hgap, hraised, hin, hlast⟩
  case readback =>
    intro s w t hs hr hsus he hrb hf
    exact State.gives_readbackWindowEnd hs hr hsus he hrb hf
  case flip =>
    intro s t x hs hr hw ht hf hfree hl
    refine State.gives_of_runIn_ok (f := fun s => (s.tick t).flipSend) hs hr rfl
      (State.flipSend_loaded (s := s.tick t) ⟨hw, ht, hf, hfree⟩ hl) fun _ => ?_
    unfold State.sinkCell
    split
    · exact ⟨rfl, rfl, fun hsink => absurd ‹_› hsink⟩
    · exact ⟨rfl, rfl, fun _ => rfl⟩
  case late =>
    intro s t hs hr hw ht hf hfree hl
    exact State.gives_flipSend_late hs hr ⟨hw, ht, hf, hfree⟩ hl
  case front =>
    intro s t hs hr hfree hv
    obtain ⟨u, hnext, hload, -, hshown⟩ := State.gives_startLoad (c := .loadStart t) (f := fun s => (s.tick t).loadStart) hs hr rfl
      (State.loadStart_front (s := s.tick t) hfree hv)
    exact ⟨u, hnext, hload, hshown⟩
  case back =>
    intro s t hs hr hfree hv hb
    obtain ⟨u, hnext, hload, hfrom, hshown⟩ := State.gives_startLoad (c := .loadStart t) (f := fun s => (s.tick t).loadStart) hs hr
      rfl (State.loadStart_back (s := s.tick t) hfree hv hb)
    exact ⟨u, hnext, hload.trans (by rw [if_pos rfl, hb]; rfl), hfrom, hshown⟩
  case done =>
    intro s t x hs hr hl hv
    exact State.gives_loadDone hs hr hl hv
  case deadline =>
    intro s t hs hr hfree hv
    obtain ⟨u, hnext, hload, -, hshown⟩ := State.gives_startLoad (c := .loadDeadline t) (f := fun s => (s.tick t).loadDeadline) hs
      hr rfl (State.loadDeadline_front (s := s.tick t) hfree hv)
    exact ⟨u, hnext, hload, hshown⟩
  case row =>
    intro s t hs hr hl he hg hd hrow
    exact State.gives_rowSelectEdge hs hr ⟨hl, he, hg, hd⟩ hrow

end Sys2Proof.Machine

/-!
A running module keeps its role (R569): only the release of reset reads the strap, and no command releases a running module.
-/
namespace Sys2Proof.Machine

/-- What comes after `z` with the role of `z`. -/
abbrev State.Plays (s z : State) : Prop := s.Keeps (.but [.role] []) z

section Roles
variable {s q : State} {g : Agent} {k : PageKind} {i b off a n v : Nat}

theorem State.Plays.role (h : s.Plays q) : s.role = q.role := Keep.samePart h (List.mem_singleton.mpr rfl)

/-! ### Resets -/

theorem State.plays_inReset (h : s.Plays q) {p : Power} {cause : Nat} : (s.inReset p cause).Plays q := by
  apply State.setCause_good <;> try simp
  refine ⟨rise_filter _ h.regs, List.Pairwise.nil, ⟨List.Pairwise.nil, by simp⟩, h.pending, h.out, h.fresh, fun p => ?_, fun f =>
    .inl ⟨f, by simp, rfl⟩⟩
  by_cases hp : p = .role
  · subst hp
    exact .inr h.role
  · exact .inl (by simpa using hp)

theorem State.plays_thermalReset (h : s.Plays q) : s.thermalReset.Plays q := Keep.ite (State.plays_inReset h) h

theorem State.plays_addCause (h : s.Plays q) {cause : Nat} : (s.addCause cause).Plays q := by
  apply State.addCause_good <;> simp [h]

theorem State.plays_resetN (h : s.Plays q) : s.resetN.Plays q := by
  unfold State.resetN
  split
  · exact h
  · exact State.plays_addCause h
  · exact State.plays_addCause h
  · exact State.plays_inReset h
  · exact State.plays_inReset h

theorem State.plays_confirmWindow (h : s.Plays q) {cpu : Nat} : (s.confirmWindow cpu).Plays q := by
  have hrevert : (s.revert (if cpu = 0 then s.mcSlot else s.lcSlot)).1.Plays q := by
    apply State.revert_good <;> simp [h]
  refine Keep.ite hrevert (State.plays_inReset ?_)
  apply State.draw_good
  exact hrevert

/-! ### Register writes -/

theorem State.plays_set (h : s.Plays q) {f : Fld} : (s.set f v).Plays q := by
  apply State.set_good <;> simp [h]

theorem State.plays_writeReg (h : s.Plays q) : (s.writeReg k i b off v).Plays q := by
  apply State.writeReg_good <;> simp [h]

theorem State.plays_rckWrite (h : s.Plays q) : (s.rckWrite off v).Plays q := by
  refine Keep.ite (Keep.ite (State.plays_inReset h) h) (Keep.ite ?_ (State.plays_writeReg h))
  apply State.refclkBack_good <;> simp [State.plays_writeReg h]

theorem State.plays_blockWrite (h : s.Plays q) : (s.blockWrite g k i b off v).Plays q := by
  have hreg : (s.writeReg k i b off v).Plays q := State.plays_writeReg h
  cases k
  case rck => exact State.plays_rckWrite h
  case tim => apply State.timWrite_good <;> simp [h]
  case dep => apply State.depWrite_good <;> simp [h]
  case eth => apply State.ethWrite_good <;> simp [h]
  case ing => apply State.ingWrite_good <;> simp [h]
  case ingFlow =>
    change (s.flowWrite i b off v).Plays q
    apply State.flowWrite_good <;> simp [h]
  case map =>
    refine Keep.ite (Keep.ite (State.plays_set h) h) ?_
    apply State.evaluate_good <;> simp [hreg]
  case cmpSpire => exact Keep.ite (State.plays_set h) hreg
  case lnk => apply State.lnkWrite_good <;> simp [h]
  case lnl => apply State.lnlWrite_good <;> simp [h]
  case lne => apply State.lneWrite_good <;> simp [h]
  case klc => apply State.klcWrite_good <;> simp [h]
  case cor => apply State.corWrite_good <;> simp [h]
  case scn => exact Keep.ite (Keep.ite (State.plays_set h) h) hreg
  case pwr =>
    refine Keep.ite ?_ hreg
    apply State.auxSwitch_good <;> try simp
    apply State.auxSwitch_good <;> simp [h]
  case rai =>
    refine Keep.ite ?_ hreg
    apply State.railClear_good <;> simp [hreg]
  case lfm =>
    refine Keep.ite ?_ (Keep.ite ?_ hreg)
    · apply State.latchClear_good <;> simp [h]
    · apply State.latchClear_good <;> simp [h]
  case mem =>
    refine Keep.ite ?_ hreg
    apply State.memCtrl_good <;> simp [h]
  case que =>
    refine Keep.ite ?_ hreg
    apply State.testGo_good <;> simp [hreg]
  case ten =>
    refine Keep.ite (Keep.ite ?_ h) (Keep.ite h hreg)
    apply State.ruleCommit_good <;> simp [h]
  case rdn =>
    have hhand : s.handover.Plays q := by apply State.handover_good <;> simp [h]
    have hasked := Keep.ite (c := bitsOf v 0 1 = 1) hhand h
    refine Keep.ite (Keep.ite ?_ hasked) hreg
    apply State.resync_good <;> simp [hasked]
  case clu => apply State.cluWrite_good <;> simp [h]
  case hkt => apply State.hktWrite_good <;> simp [h]
  case cal => apply State.calWrite_good <;> simp [h]
  case fwu => apply State.fwuWrite_good <;> simp [h]
  case svp =>
    refine Keep.ite ?_ hreg
    apply State.svpLink_good <;> simp [hreg]
  case mbx => apply State.mbxWrite_good <;> simp [h]
  case idn => exact h
  case queCtx => exact h
  case otg => exact hreg
  case cmp => exact hreg
  case cmpLayer => exact hreg
  case col => exact hreg
  case par => exact hreg

theorem State.plays_mirrorReg (h : s.Plays q) : (s.mirrorReg a).Plays q := by
  apply State.mirrorReg_good <;> simp [h]

theorem State.plays_err (h : s.Plays q) {code source addr : Nat} : (s.err b code source addr).Plays q := by
  apply State.err_good <;> simp [h]

theorem State.plays_pageWrite (h : s.Plays q) : (s.pageWrite g k i a v).1.Plays q := by
  have hheader : (s.headerWrite k i (a / 0x1000 * 0x1000) (a % 0x1000) v).Plays q := by
    apply State.headerWrite_good <;> simp [h]
  have hblock : ((s.blockWrite g k i (a / 0x1000 * 0x1000) (a % 0x1000) v).sramStore a).Plays q := by
    apply State.sramStore_good <;> simp [State.plays_blockWrite h]
  unfold State.pageWrite
  dsimp only
  split_ifs
  · exact h
  · exact State.plays_err h
  · exact State.plays_mirrorReg hheader
  · exact h
  · exact State.plays_mirrorReg hblock

theorem State.plays_writeAt (h : s.Plays q) : (s.writeAt g a n v).1.Plays q := by
  unfold State.writeAt
  dsimp only
  split
  · split_ifs
    · exact State.plays_err h
    · exact State.plays_pageWrite h
  · split
    · exact h
    · split_ifs
      · exact State.plays_err h
      · exact h
      · exact State.plays_err h
      · apply State.windowWrite_good <;> simp [h]

/-! ### Requests -/

section Requests
variable {m : ReqMsg} {d : Desc} {idx op t mask : Nat} {l : List Nat} {r : MirrorRec}

theorem State.plays_wordWrite (h : s.Plays q) : (s.wordWrite g a v).1.Plays q := by
  unfold State.wordWrite
  dsimp only
  split
  · exact h
  · exact State.plays_writeAt h

theorem State.plays_wordsWrite (h : s.Plays q) : (s.wordsWrite g a l).1.Plays q := by
  induction l generalizing s a with
  | nil => exact h
  | cons v l ih =>
    have hword : (s.wordWrite g a v).1.Plays q := State.plays_wordWrite h
    unfold State.wordsWrite
    split
    case h_1 e => rwa [e] at hword
    case h_2 e =>
      rw [e] at hword
      exact ih hword

theorem State.plays_maskedWrite (h : s.Plays q) : (s.maskedWrite g a mask v).1.Plays q := by
  have hpeek : (s.wordPeek g a).1.Plays q := by apply State.wordPeek_good <;> simp [h]
  unfold State.maskedWrite
  split
  case h_1 e => rwa [e] at hpeek
  case h_2 e =>
    rw [e] at hpeek
    exact State.plays_wordWrite hpeek

theorem State.plays_perform (h : s.Plays q) : (s.perform g m).1.Plays q := by
  have hread : (s.wordsRead g m.loc m.count).1.Plays q := by apply State.wordsRead_good <;> simp [h]
  exact Keep.ite1 hread (Keep.ite1 (State.plays_wordsWrite h) (Keep.ite1 (State.plays_maskedWrite h) h))

theorem State.plays_finishReq (h : s.Plays q) {st : Nat} : (s.finishReq st l).Plays q := by
  apply State.finishReq_good <;> simp [h]

theorem State.plays_executeReq (h : s.Plays q) : (s.executeReq op).Plays q := by
  unfold State.executeReq
  split
  · exact h
  · refine Keep.ite h ?_
    dsimp only
    split
    · refine Keep.ite (State.plays_finishReq (State.plays_wordsWrite h)) ?_
      apply State.heldAt_good <;> simp [State.plays_wordsWrite h]
    · exact State.plays_finishReq (State.plays_perform h)

theorem State.plays_serviceReg (h : s.Plays q) {d : Dgram} : (s.serviceReg d op).Plays q := by
  have hreply {u : State} {c : Caller} {o tag st : Nat} {data : List Byte} (hu : u.Plays q) : (u.reply c o tag st data).Plays q := by
    apply State.reply_good <;> simp [hu]
  unfold State.serviceReg
  dsimp only
  refine Keep.ite ?_ (Keep.ite (hreply h) (Keep.ite (hreply (State.plays_perform h)) ?_))
  · apply State.svpOpenStatus_good <;> simp [h]
  · apply State.request_good <;> simp [h]

/-! ### Mirror records -/

theorem State.plays_mirrorWord (h : s.Plays q) : (s.mirrorWord a v).Plays q := by
  have hgroup := State.plays_set (f := R.PG.CGRP (a / 0x1000 * 0x1000)) (v := bitsOf v 8 4) h
  unfold State.mirrorWord
  dsimp only
  refine Keep.ite ?_ (State.plays_writeAt h)
  apply State.writeEn_good <;> try simp
  refine Keep.ite hgroup ?_
  apply State.writeFreeze_good <;> simp [hgroup]

theorem State.plays_rdn (h : s.Plays q) {x : RdnSt} : { s with rdn := x }.Plays q := Keep.update h (by simp [State.samePart])

theorem State.plays_mirrorApply (h : s.Plays q) : (s.mirrorApply r).Plays q := by
  have hmirror {loc na nb : Nat} : (s.mirrorN loc na nb).Plays q := by apply State.mirrorN_good <;> simp [h]
  cases r with
  | write loc data na nb =>
    exact Keep.foldl_of (P := fun x : State × Nat => x.1.Plays q) hmirror fun _ _ hx => State.plays_mirrorWord hx
  | arm on loc =>
    refine Keep.ite ?_ ?_
    · apply State.commitArm_good <;> simp [h]
    · apply State.commitDisarm_good <;> simp [h]
  | entry i time act arg ofs op =>
    refine Keep.ite ?_ (Keep.ite ?_ h)
    · apply State.entWrite_good <;> simp [h]
    · apply State.entCancel_good <;> simp [h]
  | frame part m groups epoch mfade lfades =>
    refine State.plays_rdn (Keep.ite ?_ h)
    apply State.setEpoch_good <;> simp [h]
  | imageStart n => exact State.plays_rdn h
  | image loc data na nb => exact State.plays_rdn hmirror
  | imageEnd d => exact State.plays_rdn h

theorem State.plays_mirrorTake (h : s.Plays q) {n : Nat} : (s.mirrorTake n r).Plays q :=
  State.plays_rdn (State.plays_set (State.plays_mirrorApply h))

theorem State.plays_mirrorDrain (h : s.Plays q) {n : Nat} : (s.mirrorDrain n).Plays q := by
  induction n generalizing s with
  | zero => exact h
  | succ n ih =>
    unfold State.mirrorDrain
    split
    · exact h
    · split
      · exact h
      · exact ih (State.plays_mirrorTake (State.plays_rdn h))

theorem State.plays_mirrorAt (h : s.Plays q) {p : Nat} {m : MirrorMsg} : (s.mirrorAt p m).Plays q :=
  Keep.ite h (Keep.ite (State.plays_mirrorDrain (State.plays_mirrorTake h)) (Keep.ite (State.plays_rdn h) h))

/-! ### The settings of a start of the module controller -/

theorem State.plays_stageSettings (h : s.Plays q) : s.stageSettings.Plays q := by
  have hen {u : State} {c w : Nat} (hu : u.Plays q) : (u.writeEn c w).Plays q := by apply State.writeEn_good <;> simp [hu]
  have hpages := Keep.foldl (k := .but [.role] []) (l := s.settingWords)
    (f := fun s w => (s.writeAt (.mc true) (w.1 / 4 * 4) 4 w.2).1) h fun _ _ hu => State.plays_writeAt hu
  have hcommit := Keep.foldl (f := State.commitArm) (l := s.settingWords.filterMap fun w => stagedBy w.1) hpages
    fun u c hu => by apply State.commitArm_good <;> simp [hu]
  have hstarted l := Keep.foldl (f := fun s b => s.writeEn b 1) (l := l) hcommit fun _ _ hu => hen hu
  exact Keep.ite (hstarted _) (hen (hstarted _))

theorem State.plays_mcStart (h : s.Plays q) : s.mcStart.Plays q := by
  refine Keep.ite h (State.plays_stageSettings ?_)
  apply State.loadSettings_good <;> try simp
  exact Keep.update h (by simp [State.samePart])

/-! ### Accesses of the host and descriptors -/

theorem State.plays_barOne (h : s.Plays q) {v : Option Nat} : (s.barOne t a n v).Plays q := by
  have hread : (s.readAt (.tenant t) a n).st.Plays q := by apply State.readAt_good <;> simp [h]
  have hdeny {u : State} (hu : u.Plays q) : (u.deny t a).Plays q := by apply State.deny_good <;> simp [hu]
  have hemit {u : State} {o : Out} (hu : u.Plays q) : (u.emit o).Plays q := by apply State.emit_good <;> simp [hu]
  cases v with
  | some v => exact Keep.ite (State.plays_writeAt h) (hdeny (Keep.ite (State.plays_writeAt h) h))
  | none => exact Keep.ite (hemit hread) (hemit (hdeny (Keep.ite hread h)))

theorem State.plays_barAccess (h : s.Plays q) {v : Option Nat} : (s.barAccess t a n v).Plays q := by
  have hseen : (s.seenFn t).Plays q := by apply State.seenFn_good <;> simp [h]
  exact Keep.ite h (Keep.ite (State.plays_barOne hseen) (Keep.foldl hseen fun _ _ hu => State.plays_barOne hu))

theorem State.plays_turn (h : s.Plays q) {x y z : Nat} : (s.turn x idx y z).1.Plays q := by
  apply State.turn_good <;> simp [h]

theorem State.plays_complete (h : s.Plays q) {x st done : Nat} {data : List Nat} : (s.complete x idx st done data).Plays q := by
  apply State.complete_good <;> simp [h]

theorem State.plays_sentAll (h : s.Plays q) : (s.sentAll d n).Plays q := by apply State.sentAll_good <;> simp [h]

theorem State.plays_answer (h : s.Plays q) {x part st : Nat} {data : List Nat} : (s.answer x idx part st data).Plays q := by
  apply State.answer_good <;> simp [h]

theorem State.plays_dispatch (h : s.Plays q) {p : Nat} {o : Owner} : (s.dispatch p m o t).Plays q := by
  apply State.dispatch_good <;> simp [h]

theorem State.plays_lineStall (h : s.Plays q) {p x : Nat} : (s.lineStall p x).Plays q := by
  apply State.lineStall_good <;> simp [h]

theorem State.plays_serveLocal (h : s.Plays q) : (s.serveLocal d m).Plays q :=
  State.plays_complete (State.plays_perform (State.plays_sentAll h))

theorem State.plays_tileReg (h : s.Plays q) {x : Nat} : (s.tileReg x idx op).Plays q := by
  have hturn : (s.turn x idx 0 op).1.Plays q := State.plays_turn h
  unfold State.tileReg
  split
  case h_1 e => rwa [e] at hturn
  case h_2 e =>
    rw [e] at hturn
    exact Keep.ite (State.plays_complete hturn) (Keep.ite (State.plays_serveLocal hturn)
      (Keep.ite (State.plays_lineStall hturn) (State.plays_dispatch (State.plays_sentAll hturn))))

theorem State.plays_layerReg (h : s.Plays q) {x : Nat} : (s.layerReg x idx op).Plays q := by
  have hturn : (s.turn x idx 1 op).1.Plays q := State.plays_turn h
  unfold State.layerReg
  split
  case h_1 e => rwa [e] at hturn
  case h_2 e =>
    rw [e] at hturn
    exact State.plays_serveLocal hturn

theorem State.plays_cardDesc (h : s.Plays q) {x : Nat} : (s.cardDesc x idx).Plays q := by
  have hturn : (s.turn x idx 2 2).1.Plays q := State.plays_turn h
  unfold State.cardDesc
  split
  case h_1 e => rwa [e] at hturn
  case h_2 e =>
    rw [e] at hturn
    exact State.plays_serveLocal hturn

theorem State.plays_wordsCopy (h : s.Plays q) : (s.wordsCopy g a l).1.Plays q := by
  induction l generalizing s a with
  | nil => exact h
  | cons v l ih =>
    have hword : (s.wordWrite g a v).1.Plays q := State.plays_wordWrite h
    unfold State.wordsCopy
    split
    case h_1 e => rwa [e] at hword
    case h_2 e =>
      rw [e] at hword
      exact ih hword

theorem State.plays_cardCopy (h : s.Plays q) {x : Nat} {data : List Byte} {bad : Option Nat} :
    (s.cardCopy x idx data bad).Plays q := by
  have hturn : (s.turn x idx 2 5).1.Plays q := State.plays_turn h
  unfold State.cardCopy
  split
  case h_1 e => rwa [e] at hturn
  case h_2 e =>
    rw [e] at hturn
    exact State.plays_complete (State.plays_wordsCopy (State.plays_sentAll hturn))

theorem State.plays_uploadNext (h : s.Plays q) {x : Nat} {data : List Byte} {bad : Bool} :
    (s.uploadNext x idx data bad).Plays q := by
  have hturn : (s.turn x idx 3 5).1.Plays q := State.plays_turn h
  have hstop {u : State} {d : Desc} {st : Nat} (hu : u.Plays q) : (u.uploadStop d st).Plays q := by
    apply State.uploadStop_good <;> simp [hu]
  have hsent {u : State} {d : Desc} (hu : u.Plays q) : ((u.setDesc d).count R.QUE.DISPATCHED.COUNT).Plays q := by
    apply State.count_good <;> try simp
    apply State.setDesc_good <;> simp [hu]
  unfold State.uploadNext
  split
  case h_1 e => rwa [e] at hturn
  case h_2 e =>
    rw [e] at hturn
    dsimp only
    refine Keep.ite (State.plays_complete hturn) (Keep.ite hturn (Keep.ite (hstop hturn) (Keep.ite (hstop hturn)
      (Keep.ite (State.plays_answer ?_) (Keep.ite (State.plays_lineStall hturn) (State.plays_dispatch (hsent hturn)))))))
    exact State.plays_perform (hsent hturn)

theorem State.plays_departDesc (h : s.Plays q) {x : Nat} : (s.departDesc x idx op).Plays q := by
  have hturn : (s.turn x idx 5 op).1.Plays q := State.plays_turn h
  unfold State.departDesc
  split
  case h_1 e => rwa [e] at hturn
  case h_2 u d e =>
    rw [e] at hturn
    have hdraw : u.draw.Plays q := State.draw_good u hturn
    dsimp only
    refine Keep.ite (State.plays_complete hturn) (Keep.ite (State.plays_complete ?_) (Keep.ite (State.plays_lineStall hturn)
      (Keep.ite (State.plays_dispatch ?_) (State.plays_lineStall hturn))))
    · exact State.plays_perform (State.plays_perform (State.plays_sentAll hturn))
    · exact State.plays_dispatch (State.plays_sentAll hdraw)

end Requests

/-! ### Every command -/

theorem State.plays_tick (h : s.Plays q) {t : Nat} : (s.tick t).Plays q := by apply State.tick_good <;> simp [h]

theorem State.plays_resetRelease (hs : s.up) {strap : Nat} {boot : Bool} {fuses : Fuses} {ppm : Int} :
    ∀ u, execResetRelease strap boot fuses ppm s = .next u → u.Plays s := by
  unfold execResetRelease
  rw [hs.1]
  rintro u ⟨⟩
  exact Keep.refl hs.2

theorem State.plays_modrst (hs : s.up) : ∀ u, execModrst s = .next u → u.Plays s := by
  unfold execModrst
  rw [hs.1]
  rintro u ⟨⟩
  exact State.plays_inReset (Keep.refl hs.2)

end Roles

/-- What a command answers on a running module has its role. -/
theorem State.leaves_role {s : State} (hs : s.up) (c : Instr) : s.leaves c (.but [.role] []) := by
  have h : s.Plays s := Keep.refl hs.2
  have htick {u : State} {t : Nat} (hu : u.Plays s) : (u.tick t).Plays s := State.plays_tick hu
  have hreq {t op : Nat} : ∀ u, run (fun s => (s.tick t).executeReq op) s = .next u → u.Plays s :=
    run_good h fun _ hu => State.plays_executeReq (htick hu)
  have htile {t x idx op : Nat} : ∀ u, run (fun s => (s.tick t).tileReg x idx op) s = .next u → u.Plays s :=
    run_good h fun _ hu => State.plays_tileReg (htick hu)
  have hlayer {t x idx op : Nat} : ∀ u, run (fun s => (s.tick t).layerReg x idx op) s = .next u → u.Plays s :=
    run_good h fun _ hu => State.plays_layerReg (htick hu)
  have hdep {t x idx op : Nat} : ∀ u, run (fun s => (s.tick t).departDesc x idx op) s = .next u → u.Plays s :=
    run_good h fun _ hu => State.plays_departDesc (htick hu)
  have hsvp {t op : Nat} {d : Dgram} : ∀ u, run (fun s => (s.tick t).svpTake d (fun s => s.serviceReg d op)) s = .next u →
      u.Plays s := run_good h fun u hu => by
    apply State.svpTake_good
    case hs => exact htick hu
    case hf => exact fun _ hv => State.plays_serviceReg hv
    all_goals simp
  unfold State.leaves
  cases c
  case powerUp us =>
    rintro u ⟨⟩
    exact State.plays_set (State.plays_inReset h)
  case resetN ns =>
    rintro u ⟨⟩
    exact Keep.ite h (Keep.ite (State.plays_resetN h) (Keep.ite (State.draw_good s h) (State.plays_resetN (State.draw_good s h))))
  case resetRelease => exact State.plays_resetRelease hs
  case softwareReset => exact run_good h fun u hu => State.plays_inReset hu
  case modrst => exact State.plays_modrst hs
  case thermalReset => exact run_good h fun u hu => State.plays_thermalReset (htick hu)
  case confirmWindowEnd => exact run_good h fun u hu => State.plays_confirmWindow (htick hu)
  case registerWrite => exact run_good h fun u hu => State.plays_writeAt (htick hu)
  case readTxn => exact hreq
  case writeTxn => exact hreq
  case writeMasked => exact hreq
  case ping => exact hreq
  case mirrorRecord => exact run_good h fun u hu => State.plays_mirrorAt (htick hu)
  case regRead => exact hsvp
  case regWrite => exact hsvp
  case trainDone c margin t =>
    refine run_good (f := fun s => ((s.tick t).trainDone c margin).mcStart) h fun u hu => State.plays_mcStart ?_
    apply State.trainDone_good <;> simp [htick hu]
  case dramTrainTimeout c t =>
    refine run_good (f := fun s => ((s.tick t).dramTrainTimeout c).mcStart) h fun u hu => State.plays_mcStart ?_
    apply State.dramTrainTimeout_good <;> simp [htick hu]
  case barAccess => exact run_good h fun u hu => State.plays_barAccess (htick hu)
  case tileRegRead => exact htile
  case tileRegWrite => exact htile
  case tileRegWriteMasked => exact htile
  case tileRegPing => exact htile
  case layerRead => exact hlayer
  case layerWrite => exact hlayer
  case layerWriteMasked => exact hlayer
  case cardWrite => exact run_good h fun u hu => State.plays_cardDesc (htick hu)
  case cardCopy => exact run_good h fun u hu => State.plays_cardCopy (htick hu)
  case upload => exact run_good h fun u hu => State.plays_uploadNext (htick hu)
  case departWrite => exact hdep
  case departCancel => exact hdep
  case' internal5vLoss => apply execInternal5vLoss_good
  case' shutdownRestart => apply execShutdownRestart_good
  case' refclkLost => apply execRefclkLost_good
  case' retAuto => apply execRetAuto_good
  case' retNow => apply execRetNow_good
  case' rcRead => apply execRcRead_good
  case' evtPendClear => apply execEvtPendClear_good
  case' evtSet => apply execEvtSet_good
  case' evtEnWrite => apply execEvtEnWrite_good
  case' errInfoClear => apply execErrInfoClear_good
  case' pageEnable => apply execPageEnable_good
  case' pageDisable => apply execPageDisable_good
  case' softReset => apply execSoftReset_good
  case' commitArm => apply execCommitArm_good
  case' commitDisarm => apply execCommitDisarm_good
  case' freezePage => apply execFreezePage_good
  case' unfreezePage => apply execUnfreezePage_good
  case' hwFreeze => apply execHwFreeze_good
  case' modeNextWrite => apply execModeNextWrite_good
  case' modeFallbackWrite => apply execModeFallbackWrite_good
  case' frameDeparture => apply execFrameDeparture_good
  case' viewDeparture => apply execViewDeparture_good
  case' commitEntry => apply execCommitEntry_good
  case' epochFlip => apply execEpochFlip_good
  case' scheduleEntry => apply execScheduleEntry_good
  case' fwActivate => apply execFwActivate_good
  case' railStep => apply execRailStep_good
  case' wallSwitch => apply execWallSwitch_good
  case' pulse => apply execPulse_good
  case' markEntry => apply execMarkEntry_good
  case' entMissed => apply execEntMissed_good
  case' entWrite => apply execEntWrite_good
  case' entRead => apply execEntRead_good
  case' entCancel => apply execEntCancel_good
  case' startupEpochLoad => apply execStartupEpochLoad_good
  case' domMeas => apply execDomMeas_good
  case' domainEnable => apply execDomainEnable_good
  case' domainDisable => apply execDomainDisable_good
  case' domainLossTimeout => apply execDomainLossTimeout_good
  case' switchNow => apply execSwitchNow_good
  case' wallSelWrite => apply execWallSelWrite_good
  case' slewEnd => apply execSlewEnd_good
  case' timeInterval => apply execTimeInterval_good
  case' timeMessage => apply execTimeMessage_good
  case' schedInterval => apply execSchedInterval_good
  case' sched => apply execSched_good
  case' ldInterval => apply execLdInterval_good
  case' ldReq => apply execLdReq_good
  case' ldRsp => apply execLdRsp_good
  case' ldTimeout => apply execLdTimeout_good
  case' tickin => apply execTickin_good
  case' tickWindowEnd => apply execTickWindowEnd_good
  case' frameSrcWrite => apply execFrameSrcWrite_good
  case' tickoutPulse => apply execTickoutPulse_good
  case' ppsPulse => apply execPpsPulse_good
  case' ethLinkUp => apply execEthLinkUp_good
  case' ethLinkDown => apply execEthLinkDown_good
  case' ethFrame => apply execEthFrame_good
  case' ingPacket => apply execIngPacket_good
  case' mergeWaitEnd => apply execMergeWaitEnd_good
  case' legLost => apply execLegLost_good
  case' flowLost => apply execFlowLost_good
  case' flowEnable => apply execFlowEnable_good
  case' flowDisable => apply execFlowDisable_good
  case' legEnable => apply execLegEnable_good
  case' cardCheck => apply execCardCheck_good
  case' cardCheckDone => apply execCardCheckDone_good
  case' cardSyncDone => apply execCardSyncDone_good
  case' spireCheck => apply execSpireCheck_good
  case' spireSyncDone => apply execSpireSyncDone_good
  case' otgFrameStart => apply execOtgFrameStart_good
  case' blankStart => apply execBlankStart_good
  case' otgAbort => apply execOtgAbort_good
  case' monitorFrame => apply execMonitorFrame_good
  case' trainingFrame => apply execTrainingFrame_good
  case' trainTimeout => apply execTrainTimeout_good
  case' trainGiveUp => apply execTrainGiveUp_good
  case' laneLocked => apply execLaneLocked_good
  case' lockEnd => apply execLockEnd_good
  case' capxSend => apply execCapxSend_good
  case' capx => apply execCapx_good
  case' capxTimeout => apply execCapxTimeout_good
  case' retryInterval => apply execRetryInterval_good
  case' restartPort => apply execRestartPort_good
  case' maxWidthWrite => apply execMaxWidthWrite_good
  case' groupHeader => apply execGroupHeader_good
  case' replayTimeout => apply execReplayTimeout_good
  case' laneFault => apply execLaneFault_good
  case' retrainDone => apply execRetrainDone_good
  case' laneRetry => apply execLaneRetry_good
  case' laneRetire => apply execLaneRetire_good
  case' linkState => apply execLinkState_good
  case' enumStart => apply execEnumStart_good
  case' enumMsg => apply execEnumMsg_good
  case' enumRsp => apply execEnumRsp_good
  case' enumTimeout => apply execEnumTimeout_good
  case' frameHeader => apply execFrameHeader_good
  case' shareHeader => apply execShareHeader_good
  case' segmentHeader => apply execSegmentHeader_good
  case' rowData => apply execRowData_good
  case' shareTrailer => apply execShareTrailer_good
  case' viewTrailer => apply execViewTrailer_good
  case' req => apply execReq_good
  case' rsp => apply execRsp_good
  case' txnTimeout => apply execTxnTimeout_good
  case' creditRelease => apply execCreditRelease_good
  case' svc => apply execSvc_good
  case' svcAck => apply execSvcAck_good
  case' svcResend => apply execSvcResend_good
  case' mirrorGap => apply execMirrorGap_good
  case' telem => apply execTelem_good
  case' jrTail => apply execJrTail_good
  case' compress => apply execCompress_good
  case' decompress => apply execDecompress_good
  case' jobDone => apply execJobDone_good
  case' abortJob => apply execAbortJob_good
  case' passDone => apply execPassDone_good
  case' bankSyncStart => apply execBankSyncStart_good
  case' bankSyncDone => apply execBankSyncDone_good
  case' apertureWrite => apply execApertureWrite_good
  case' uplCmdGo => apply execUplCmdGo_good
  case' copyRegions => apply execCopyRegions_good
  case' copyPack => apply execCopyPack_good
  case' copyPacked => apply execCopyPacked_good
  case' unitRecords => apply execUnitRecords_good
  case' uplCommandEnd => apply execUplCommandEnd_good
  case' uplDoneRead => apply execUplDoneRead_good
  case' gapStart => apply execGapStart_good
  case' readbackWindowEnd => apply execReadbackWindowEnd_good
  case' flipSend => apply execFlipSend_good
  case' loadStart => apply execLoadStart_good
  case' loadDone => apply execLoadDone_good
  case' loadDeadline => apply execLoadDeadline_good
  case' bandClose => apply execBandClose_good
  case' bandFlip => apply execBandFlip_good
  case' ttCheck => apply execTtCheck_good
  case' ttCheckDone => apply execTtCheckDone_good
  case' ttSyncDone => apply execTtSyncDone_good
  case' rampStep => apply execRampStep_good
  case' railReady => apply execRailReady_good
  case' discharged => apply execDischarged_good
  case' disTimeout => apply execDisTimeout_good
  case' overcurrent => apply execOvercurrent_good
  case' overvoltage => apply execOvervoltage_good
  case' undervoltage => apply execUndervoltage_good
  case' externalFault => apply execExternalFault_good
  case' clrFault => apply execClrFault_good
  case' auxLimit => apply execAuxLimit_good
  case' auxRetry => apply execAuxRetry_good
  case' latchClear => apply execLatchClear_good
  case' faultMapWrite => apply execFaultMapWrite_good
  case' fillDone => apply execFillDone_good
  case' resilverDone => apply execResilverDone_good
  case' retrainStart => apply execRetrainStart_good
  case' retrainEnd => apply execRetrainEnd_good
  case' retrainNow => apply execRetrainNow_good
  case' srEnter => apply execSrEnter_good
  case' srExit => apply execSrExit_good
  case' offlineChannel => apply execOfflineChannel_good
  case' returnChannel => apply execReturnChannel_good
  case' bistGo => apply execBistGo_good
  case' bistDone => apply execBistDone_good
  case' dramAccess => apply execDramAccess_good
  case' sramParity => apply execSramParity_good
  case' patrolRead => apply execPatrolRead_good
  case' patBadRead => apply execPatBadRead_good
  case' doorbell => apply execDoorbell_good
  case' descriptorFetch => apply execDescriptorFetch_good
  case' queueDisable => apply execQueueDisable_good
  case' ruleCommit => apply execRuleCommit_good
  case' ruleDone => apply execRuleDone_good
  case' flr => apply execFlr_good
  case' perstN => apply execPerstN_good
  case' sendMessage => apply execSendMessage_good
  case' popMessage => apply execPopMessage_good
  case' mailboxTimeout => apply execMailboxTimeout_good
  case' testGo => apply execTestGo_good
  case' testDone => apply execTestDone_good
  case' testResume => apply execTestResume_good
  case' leadWaitEnd => apply execLeadWaitEnd_good
  case' streamGap => apply execStreamGap_good
  case' handover => apply execHandover_good
  case' resyncRelief => apply execResyncRelief_good
  case' clusterState => apply execClusterState_good
  case' epochRequest => apply execEpochRequest_good
  case' epochCancel => apply execEpochCancel_good
  case' masterLost => apply execMasterLost_good
  case' roundDone => apply execRoundDone_good
  case' graceEnd => apply execGraceEnd_good
  case' enforceNow => apply execEnforceNow_good
  case' engDivStep => apply execEngDivStep_good
  case' brokenClear => apply execBrokenClear_good
  case' calRun => apply execCalRun_good
  case' fieldDone => apply execFieldDone_good
  case' confirmMc => apply execConfirmMc_good
  case' confirmLc => apply execConfirmLc_good
  case' rbCommit => apply execRbCommit_good
  case' checkDone => apply execCheckDone_good
  case' serviceFrame => apply execServiceFrame_good
  case' svpLinkUp => apply execSvpLinkUp_good
  case' svpLinkDown => apply execSvpLinkDown_good
  case' slotOpen => apply execSlotOpen_good
  case' slotData => apply execSlotData_good
  case' slotClose => apply execSlotClose_good
  case' mbx => apply execMbx_good
  case' keyRevoke => apply execKeyRevoke_good
  case' sessionTimeout => apply execSessionTimeout_good
  case' rowSelectEdge => apply execRowSelectEdge_good
  all_goals simp [h]

/-- Settles O5: each meaning keeps what was sent, the queue and the free values (`State.leaves_all`) and the role
(`State.leaves_role`). -/
theorem nothingIsTakenBack : Obligations.NothingIsTakenBack := by
  unfold Obligations.NothingIsTakenBack
  intro s u c hs hu
  obtain ⟨-, -, -, hpending, hout, hfresh, -, -⟩ := State.leaves_all hs.2 c u hu
  exact ⟨hout, hfresh, hpending, State.Plays.role (State.leaves_role hs c u hu)⟩

end Sys2Proof.Machine

/-!
What the line, the planes and the DRAM leave alone when a port goes down or thaws (spec/04_time_and_departures.md, R110;
spec/10_line.md): the reference clock, TIME_VALID and the image slots.
-/
namespace Sys2Proof.Machine

/-! ### The registers of the reference clock and of the image slots

One lemma for each function that a port which goes down, detects or comes back may reach, in the order of their definitions. -/

/-- The keys of the pages IDN and RCK, of TIME_VALID and of the page FWU. -/
def stillKey (n : Nat) : Bool :=
  decide (n < 0x2000 * 32) || decide (n = 0x8104 * 32) || (decide (0x28000 * 32 ≤ n) && decide (n < 0x29000 * 32))

/-- The reference clock and the image slots of `s` are those of `z`. -/
@[simp] abbrev State.Still (s z : State) : Prop :=
  fieldsAt stillKey s.regs = fieldsAt stillKey z.regs ∧ s.tim.onInt = z.tim.onInt

theorem State.Still.trans {s y z : State} (h : s.Still y) (h' : y.Still z) : s.Still z := by
  obtain ⟨hregs, hint⟩ := h
  obtain ⟨iregs, iint⟩ := h'
  exact ⟨hregs.trans iregs, hint.trans iint⟩

/-- A page beyond RCK other than FWU. -/
def quietPage (b : Nat) : Bool := decide (0x2000 ≤ b) && decide (b ≠ 0x28000) && decide (b % 0x1000 = 0)

theorem quietPage_iff {b : Nat} : quietPage b = true ↔ 0x2000 ≤ b ∧ b ≠ 0x28000 ∧ b % 0x1000 = 0 := by
  simp [quietPage, and_assoc]

theorem stillKey_outside {n : Nat} (hlow : 0x2000 * 32 ≤ n) (hvalid : n ≠ 0x8104 * 32) (hfwu : n < 0x28000 * 32 ∨ 0x29000 * 32 ≤ n) :
    stillKey n = false := by
  simp only [stillKey, Bool.or_eq_false_iff, Bool.and_eq_false_iff, decide_eq_false_iff_not]
  omega

theorem stillKey_high {a x l w r : Nat} (h : 0x29000 ≤ a) : stillKey (Fld.key ⟨a + x, l, w, r⟩) = false :=
  stillKey_outside (by simp only [Fld.key]; omega) (by simp only [Fld.key]; omega) (.inr (by simp only [Fld.key]; omega))

theorem stillKey_page {b o l w r : Nat} (hb : quietPage b = true) (ho : o < 0x100) (hl : l < 32) :
    stillKey (Fld.key ⟨b + o, l, w, r⟩) = false := by
  obtain ⟨hlow, hfwu, hpage⟩ := quietPage_iff.mp hb
  refine stillKey_outside (by simp only [Fld.key]; omega) (by simp only [Fld.key]; omega) ?_
  simp only [Fld.key]
  omega

@[simp] theorem stillKey_pg {b : Nat} (hb : quietPage b = true) :
    stillKey (R.PG.EVT_PEND b).key = false ∧ stillKey (R.PG.ERR_COUNT b).key = false ∧
      stillKey (R.PG.ERR_VALID b).key = false ∧
      stillKey (R.PG.ERR_OVERFLOW b).key = false ∧ stillKey (R.PG.ERR_CODE b).key = false ∧
      stillKey (R.PG.ERR_SOURCE b).key = false ∧ stillKey (R.PG.ERR_ADDR_LO b).key = false ∧
      stillKey (R.PG.ERR_ADDR_HI b).key = false ∧ stillKey (R.PG.POISON_SEEN b).key = false ∧
      stillKey (R.PG.FAULT b).key = false := by
  and_intros <;> exact stillKey_page hb (by decide) (by decide)

@[simp] theorem quietPage_each : quietPage B.tim = true ∧ quietPage B.dep = true ∧ quietPage B.rai = true ∧ quietPage B.rdn = true ∧
    quietPage B.scn = true ∧ quietPage B.cor = true ∧ quietPage B.par = true ∧ quietPage B.que = true ∧ quietPage B.lfm = true := by
  decide

@[simp] theorem quietPage_lnk (p : Nat) : quietPage (B.lnk p) = true := quietPage_iff.mpr (by simp only [B.lnk]; omega)

@[simp] theorem quietPage_lnl (l : Nat) : quietPage (B.lnl l) = true := quietPage_iff.mpr (by simp only [B.lnl]; omega)

@[simp] theorem quietPage_lne (p : Nat) : quietPage (B.lne p) = true := quietPage_iff.mpr (by simp only [B.lne]; omega)

@[simp] theorem quietPage_mem (c : Nat) : quietPage (B.mem c) = true := quietPage_iff.mpr (by simp only [B.mem]; omega)

@[simp] theorem stillKey_cor (k : Nat) :
    stillKey (R.COR.ZONE_TEMP.SUBST k).key = false ∧ stillKey (R.COR.ZONE_TEMP.T k).key = false := by
  and_intros <;> exact stillKey_high (by decide)

@[simp] theorem stillKey_lne (k : Nat) :
    stillKey (R.LNE.FADE_POS.F k).key = false ∧ stillKey (R.LNE.HOLD_STAT.STATE k).key = false ∧
    stillKey (R.LNE.INFLIGHT.COUNT k).key = false ∧ stillKey (R.LNE.LINKDOWN_CNT.COUNT k).key = false ∧
    stillKey (R.LNE.LNE_STAT.ENUM_BUSY k).key = false ∧ stillKey (R.LNE.LNE_STAT.N k).key = false ∧
    stillKey (R.LNE.TEL_STAT.SILENT k).key = false ∧ stillKey (R.LNE.TXN_TMO.EFF_US k).key = false ∧
    stillKey (R.LNE.ENUM_RUN.RUN k).key = false := by
  and_intros <;> exact stillKey_high (by decide)

@[simp] theorem stillKey_lnk (k : Nat) :
    stillKey (R.LNK.CAPX_STAT.DISABLED k).key = false ∧ stillKey (R.LNK.CAPX_STAT.FEATURES k).key = false ∧
    stillKey (R.LNK.CAPX_STAT.LEVEL k).key = false ∧ stillKey (R.LNK.DOWN_CNT.COUNT k).key = false ∧
    stillKey (R.LNK.LINE_STAT.LINE_WIDTH k).key = false ∧ stillKey (R.LNK.LINE_STAT.NARROW_STOP k).key = false ∧
    stillKey (R.LNK.PORT_STAT.FAILED k).key = false ∧ stillKey (R.LNK.PORT_STAT.IN_SERVICE k).key = false ∧
    stillKey (R.LNK.PORT_STAT.STAGE k).key = false ∧ stillKey (R.LNK.PORT_STAT.TIMING_LANE k).key = false ∧
    stillKey (R.LNK.PORT_STAT.WIDTH k).key = false ∧ stillKey (R.LNK.PORT_STAT.WORKING k).key = false ∧
    stillKey (R.LNK.BRINGUP_US.US k).key = false ∧ stillKey (R.LNK.REPLAY_CNT.COUNT k).key = false ∧
    stillKey (R.LNK.WIDTH_CNT.COUNT k).key = false := by
  and_intros <;> exact stillKey_high (by decide)

@[simp] theorem stillKey_lnl (k : Nat) :
    stillKey (R.LNL.LANE_STAT.LAST_VALID k).key = false ∧ stillKey (R.LNL.LANE_STAT.LOGICAL k).key = false ∧
    stillKey (R.LNL.LANE_STAT.PRE_RX k).key = false ∧ stillKey (R.LNL.LANE_STAT.PRE_TX k).key = false ∧
    stillKey (R.LNL.LANE_STAT.REASON k).key = false ∧ stillKey (R.LNL.LANE_STAT.STATE k).key = false ∧
    stillKey (R.LNL.TRAIN_US.US k).key = false ∧ stillKey (R.LNL.TX_TAPS.C0 k).key = false ∧
    stillKey (R.LNL.TX_TAPS.CM1 k).key = false ∧ stillKey (R.LNL.TX_TAPS.CM2 k).key = false ∧
    stillKey (R.LNL.TX_TAPS.CP1 k).key = false ∧ stillKey (R.LNL.TX_TAPS.CP2 k).key = false := by
  and_intros <;> exact stillKey_high (by decide)

@[simp] theorem stillKey_log (k : Nat) :
    stillKey (R.LOG.LOG_ADDR_LO.ADDR k).key = false ∧ stillKey (R.LOG.LOG_INFO.ADDR_HI k).key = false ∧
    stillKey (R.LOG.LOG_INFO.ARRAY k).key = false ∧ stillKey (R.LOG.LOG_INFO.BYTES k).key = false ∧
    stillKey (R.LOG.LOG_INFO.CHANNEL k).key = false ∧ stillKey (R.LOG.LOG_INFO.CODE k).key = false ∧
    stillKey (R.LOG.LOG_INFO.PORT k).key = false ∧ stillKey (R.LOG.LOG_INFO.SRAM k).key = false ∧
    stillKey (R.LOG.LOG_TIME_LO.NS k).key = false ∧ stillKey (R.LOG.LOG_TIME_HI.NS k).key = false := by
  and_intros <;> exact stillKey_high (by decide)

@[simp] theorem stillKey_mem (k : Nat) :
    stillKey (R.MEM.CH_STAT.FILLED k).key = false ∧ stillKey (R.MEM.CH_STAT.MIRROR_OK k).key = false ∧
    stillKey (R.MEM.CH_STAT.STATE k).key = false := by
  and_intros <;> exact stillKey_high (by decide)

@[simp] theorem stillKey_qcx (k : Nat) :
    stillKey (R.QCX.Q_CTRL.IDLE k).key = false ∧ stillKey (R.QCX.Q_DONE_CNT.COUNT k).key = false ∧
    stillKey (R.QCX.Q_HEAD.IDX k).key = false ∧ stillKey (R.QCX.Q_INFLIGHT.COUNT k).key = false := by
  and_intros <;> exact stillKey_high (by decide)

@[simp] theorem stillKey_rch (k : Nat) :
    stillKey (R.RCH.CH_CNT.REJECT k).key = false ∧ stillKey (R.RCH.CH_DMAX.NEXT k).key = false ∧
    stillKey (R.RCH.CH_STAT.AT_TARGET k).key = false ∧ stillKey (R.RCH.CH_STAT.SET_NOW k).key = false ∧
    stillKey (R.RCH.CH_TARGET.FLOOR k).key = false ∧ stillKey (R.RCH.CH_TARGET.NEXT k).key = false := by
  and_intros <;> exact stillKey_high (by decide)

@[simp] theorem stillKey_ten (k : Nat) :
    stillKey (R.TEN.FLR_DISCARD.COUNT k).key = false ∧ stillKey (R.TEN.REVOKED_CNT.COUNT k).key = false := by
  and_intros <;> exact stillKey_high (by decide)

section Stills
variable {s : State}

theorem State.still_foldl1 {α β : Type} {f : State × β → α → State × β} (h : ∀ p x, (f p x).1.Still p.1)
    (l : List α) {p : State × β} : (l.foldl f p).1.Still p.1 := by
  induction l generalizing p with
  | nil => exact ⟨rfl, rfl⟩
  | cons x l ih => exact ih.trans (h p x)

@[simp] theorem TimSt.onInt_ite {c : Prop} [Decidable c] {a b : TimSt} :
    (if c then a else b).onInt = if c then a.onInt else b.onInt := apply_ite TimSt.onInt c a b

@[simp] theorem State.still_foldl {α : Type} {f : State → α → State} (h : ∀ s x, (f s x).Still s) (l : List α) :
    (l.foldl f s).Still s := by
  induction l generalizing s with
  | nil => exact ⟨rfl, rfl⟩
  | cons x l ih => exact ih.trans (h s x)

@[simp] theorem State.still_foldr {α : Type} {f : α → State → State} (h : ∀ x s, (f x s).Still s) (l : List α) :
    (l.foldr f s).Still s := by
  rw [List.foldr_eq_foldl_reverse]
  exact State.still_foldl (fun s x => h x s) _

@[simp] theorem State.still_forN {n : Nat} {f : State → Nat → State} (h : ∀ s x, (f s x).Still s) :
    (s.forN n f).Still s := State.still_foldl h _

@[simp] theorem State.still_set {f : Fld} {v : Nat} (h : stillKey f.key = false) : (s.set f v).Still s :=
  ⟨State.fieldsAt_set h, rfl⟩

@[simp] theorem State.still_emit {o : Out} : (s.emit o).Still s := ⟨rfl, rfl⟩

@[simp] theorem State.still_signalSide {b g : Nat} : (s.signalSide b g).Still s := by
  simp [State.signalSide]

@[simp] theorem State.still_pendBits {b m : Nat} (hb : quietPage b = true) : (s.pendBits b m).Still s := by
  simp [State.pendBits, State.signalSide, hb]

@[simp] theorem State.still_ev {b k : Nat} (hb : quietPage b = true) : (s.ev b k).Still s := by
  simp [State.ev, hb]

@[simp] theorem State.still_count {f : Fld} {n : Nat} (h : stillKey f.key = false) :
    (s.count f n).Still s := State.still_set h

@[simp] theorem State.still_rejectEv {c : Nat} : (s.rejectEv c).Still s := by
  simp [State.rejectEv]

@[simp] theorem State.still_showRail {c : Nat} : (s.showRail c).Still s := by
  simp [State.showRail]

@[simp] theorem State.still_set64 {f g : Fld} {v : Nat} (h : stillKey f.key = false) (hg : stillKey g.key = false) :
    (s.set64 f g v).Still s := by
  simp [State.set64, h, hg]

@[simp] theorem State.still_err {b code x a : Nat} (hb : quietPage b = true) : (s.err b code x a).Still s := by
  simp [State.err, hb]

@[simp] theorem State.still_setPort {p : Nat} {x : PortSt} : (s.setPort p x).Still s := by
  simp [State.setPort]

@[simp] theorem State.still_setLineTx {p : Nat} {x : LineTx} : (s.setLineTx p x).Still s := by
  simp [State.setLineTx]

@[simp] theorem State.still_enumAbandon {p : Nat} : (s.enumAbandon p).Still s := by
  simp [State.enumAbandon]

@[simp] theorem State.still_setStream {p : Nat} {x : StreamSt} : (s.setStream p x).Still s := by
  simp [State.setStream]

@[simp] theorem State.still_takeLead {cause : Nat} : (s.takeLead cause).Still s := by
  simp (decide := true) [State.takeLead]

@[simp] theorem State.still_leadFails {cause : Nat} : (s.leadFails cause).Still s := by
  simp [State.leadFails]

@[simp] theorem State.still_spireFails : s.spireFails.Still s := by
  simp [State.spireFails]

@[simp] theorem State.still_setRxView {x : ViewRx} : (s.setRxView x).Still s := by
  simp [State.setRxView]

@[simp] theorem State.still_judgeShare {v : Nat} {tr : ShareTrl} : (s.judgeShare v tr).Still s := by
  unfold State.judgeShare
  dsimp only
  repeat' split
  all_goals simp

@[simp] theorem State.still_setBand {b : Nat} {x : Band} : (s.setBand b x).Still s := by
  simp [State.setBand]

@[simp] theorem State.still_sendBand {b : Nat} {vals : List Nat} : (s.sendBand b vals).Still s := by
  simp [State.sendBand]

@[simp] theorem State.still_draw : s.draw.Still s := by
  simp [State.draw]

@[simp] theorem State.still_showLoading : s.showLoading.Still s := by
  simp (decide := true) [State.showLoading]

@[simp] theorem State.still_evIf {c : Bool} {b k : Nat} (hb : quietPage b = true) : (s.evIf c b k).Still s := by
  simp [State.evIf, hb]

@[simp] theorem State.still_fault {b : Nat} {c : Bool} (hb : quietPage b = true) : (s.fault b c).Still s := by
  simp [State.fault, hb]

@[simp] theorem State.still_evaluate : s.evaluate.Still s := by
  simp (decide := true) [State.evaluate]

@[simp] theorem State.still_memCheck : s.memCheck.Still s := by
  simp [State.memCheck]

@[simp] theorem State.still_memSettle {was : List Nat} : (s.memSettle was).Still s := by
  simp [State.memSettle]

@[simp] theorem State.still_setPar {a c m : Nat} : (s.setPar a c m).Still s := by
  simp [State.setPar]

@[simp] theorem State.still_moved {l : List Nat} {n : Nat} : (s.moved l n).Still s := by
  simp [State.moved]

@[simp] theorem State.still_dropChannel {c : Nat} : (s.dropChannel c).Still s := by
  simp [State.dropChannel]

@[simp] theorem State.still_mirrorLost : s.mirrorLost.Still s := by
  simp [State.mirrorLost]

@[simp] theorem State.still_setCh {c v : Nat} : (s.setCh c v).Still s := by
  simp [State.setCh]

@[simp] theorem State.still_enterOffline {c : Nat} : (s.enterOffline c).Still s := by
  simp [State.enterOffline]

@[simp] theorem State.still_mismatchHit {c : Nat} : (s.mismatchHit c).Still s := by
  simp [State.mismatchHit]

@[simp] theorem State.still_parLog {addr port ch sram array code bytes : Nat} :
    (s.parLog addr port ch sram array code bytes).Still s := by
  simp (decide := true) [State.parLog]

@[simp] theorem State.still_dramErr {page code port addr bytes : Nat} :
    (s.dramErr page code port addr bytes).Still s := by
  simp [State.dramErr]

@[simp] theorem State.still_dramRead {port a : Nat} : (s.dramRead port a).1.Still s := by
  unfold State.dramRead
  dsimp only
  repeat' split
  all_goals simp (decide := true)

@[simp] theorem State.still_readLamps {port a n : Nat} : (s.readLamps port a n).1.Still s := by
  unfold State.readLamps
  exact State.still_foldl1 (fun r i => by simp) _

@[simp] theorem State.still_poison {b x a : Nat} (hb : quietPage b = true) : (s.poison b x a).Still s := by
  simp [State.poison, hb]

@[simp] theorem State.still_planeValue {set view i : Nat} {d : Nat × Bool} :
    (s.planeValue set view i d).1.Still s := by
  unfold State.planeValue
  dsimp only
  repeat' split
  all_goals simp (decide := true)

@[simp] theorem State.still_loadValue {set view i : Nat} {d : Nat × Bool} {dark : Bool} :
    (s.loadValue set view i d dark).1.Still s := by
  simp [State.loadValue]

@[simp] theorem State.still_loadValues {set view i0 n : Nat} {dark : Bool} :
    (s.loadValues set view i0 n dark).1.Still s := by
  unfold State.loadValues
  split_ifs
  · exact ⟨rfl, rfl⟩
  · exact State.Still.trans (State.still_foldl1 (fun r e => by simp) _) State.still_readLamps

@[simp] theorem State.still_loadBand {b set : Nat} {reload : Bool} : (s.loadBand b set reload).Still s := by
  simp [State.loadBand]

@[simp] theorem State.still_injectWrite {port a n : Nat} : (s.injectWrite port a n).Still s := by
  simp (decide := true) [State.injectWrite]

@[simp] theorem State.still_markWrite {a n : Nat} {poison : Bool} : (s.markWrite a n poison).Still s := by
  simp [State.markWrite]

@[simp] theorem State.still_queueWrite {l : List Nat} {a n : Nat} : (s.queueWrite l a n).Still s := by
  simp [State.queueWrite]

@[simp] theorem State.still_dramPut {port a : Nat} {bytes : List Sys2Proof.Byte} {poison : Bool} :
    (s.dramPut port a bytes poison).Still s := by
  unfold State.dramPut
  split <;> simp

@[simp] theorem State.still_dramWrite {port a : Nat} {bytes : List Sys2Proof.Byte} {poison : Bool} :
    (s.dramWrite port a bytes poison).Still s := by
  unfold State.dramWrite
  split <;> simp

@[simp] theorem State.still_writeLamps {a : Nat} {l : List (Nat × Bool)} : (s.writeLamps a l).Still s := by
  simp [State.writeLamps]

@[simp] theorem State.still_repeatRow {y : Nat} : (s.repeatRow y).Still s := by
  simp [State.repeatRow]

@[simp] theorem State.still_closeBand {b : Nat} : (s.closeBand b).Still s := by
  simp (decide := true) [State.closeBand]

@[simp] theorem State.still_standbyJudge {l : List StandbyView} : (s.standbyJudge l).Still s := by
  refine State.still_foldl (fun s x => ?_) _
  split <;> simp

@[simp] theorem State.still_keepMax {L : Latch} {x y e d : Nat} {bad : Bool} :
    (s.keepMax L x y e d bad).Still s := by
  simp [State.keepMax]

@[simp] theorem State.still_lostRow {v y : Nat} : (s.lostRow v y).Still s := by
  unfold State.lostRow
  dsimp only
  repeat' split
  all_goals simp (decide := true)

@[simp] theorem State.still_railRejectNext {c : Nat} : (s.railRejectNext c).Still s := by
  simp [State.railRejectNext]

@[simp] theorem State.still_setRailNext {c d : Nat} : (s.setRailNext c d).Still s := by
  simp [State.setRailNext]

@[simp] theorem State.still_raiTake {maxima : List Nat} : (s.raiTake maxima).Still s := by
  simp [State.raiTake]

@[simp] theorem State.still_viewDark {v : Nat} : (s.viewDark v).Still s := by
  simp [State.viewDark]

@[simp] theorem State.still_drawN {n : Nat} : (s.drawN n).Still s := by
  simp [State.drawN]

@[simp] theorem State.still_setI {f : Fld} {v : Int} (h : stillKey f.key = false) :
    (s.setI f v).Still s := State.still_set h

@[simp] theorem State.still_beginPass {n : Nat} : (s.beginPass n).Still s := 
  (State.still_evIf (by simp)).trans ((State.still_forN fun s z => by simp).trans
    ((State.still_set rfl).trans ((State.still_set rfl).trans (State.still_drawN (n := 48)))))

@[simp] theorem State.still_maybeBegin : s.maybeBegin.Still s := by
  simp [State.maybeBegin]

@[simp] theorem State.still_openView {v : Nat} {dark : Bool} : (s.openView v dark).Still s := by
  simp [State.openView]

@[simp] theorem State.still_openShare {v : Nat} {h : ShareHdr} : (s.openShare v h).Still s := by
  unfold State.openShare
  split <;> simp (decide := true)

@[simp] theorem State.still_standbyOpen {l : List StandbyView} : (s.standbyOpen l).Still s := by
  refine State.still_foldl (fun s x => ?_) _
  dsimp only
  split <;> simp

@[simp] theorem State.still_prbsTo {L : Latch} {view i : Nat} : (s.prbsTo L view i).1.Still s := by
  simp [State.prbsTo]

@[simp] theorem State.still_dramBytes {port a n : Nat} : (s.dramBytes port a n).1.Still s := by
  unfold State.dramBytes
  exact State.still_foldl1 (fun r i => by simp) _

@[simp] theorem State.still_records {bank : Nat} {flags : List Nat} {i0 n : Nat} :
    (s.records bank flags i0 n).1.Still s := by
  unfold State.records
  refine State.still_foldl1 (fun r j => ?_) _
  dsimp only
  split_ifs <;> simp

@[simp] theorem State.still_correctRow {L : Latch} {view y : Nat} {px : List Pix} {bad : List Nat} :
    (s.correctRow L view y px bad).Still s := by
  simp only [State.correctRow]
  refine State.still_writeLamps.trans (.trans (State.still_foldl1 (fun a j => ?_) _) ?_)
  · dsimp only
    split_ifs <;> simp
  · split <;> simp (decide := true)

@[simp] theorem State.still_bandRow {y : Nat} : (s.bandRow y).Still s := by
  simp [State.bandRow]

@[simp] theorem State.still_takeRow {v y bits : Nat} {bad : List Nat} : (s.takeRow v y bits bad).Still s := by
  unfold State.takeRow
  dsimp only
  repeat' split
  all_goals simp

@[simp] theorem State.still_fromRing : s.fromRing.Still s := by
  simp [State.fromRing]

@[simp] theorem State.still_putModeNext {m : ModeW} : (s.putModeNext m).Still s := by
  simp (decide := true) [State.putModeNext]

@[simp] theorem State.still_putModeCur {m : ModeW} : (s.putModeCur m).Still s := by
  simp (decide := true) [State.putModeCur]

@[simp] theorem State.still_modeChange {m : ModeW} {cause : Nat} : (s.modeChange m cause).Still s := by
  simp (decide := true) [State.modeChange]

@[simp] theorem State.still_copyCoding {c : Nat} : (s.copyCoding c).Still s := by
  simp [State.copyCoding]

@[simp] theorem State.still_showPort {q : Nat} : (s.showPort q).Still s := by
  simp only [State.showPort]
  split
  · exact ⟨rfl, rfl⟩
  split_ifs
  · exact ⟨rfl, rfl⟩
  refine State.still_standbyJudge.trans (.trans (State.still_foldl (fun s r => ?_) _) (by simp))
  split
  · split_ifs
    · exact ⟨rfl, rfl⟩
    · refine State.still_foldl (fun s y => ?_) _
      split <;> simp
  · exact ⟨rfl, rfl⟩

@[simp] theorem State.still_streamFail {p cause : Nat} : (s.streamFail p cause).Still s := by
  unfold State.streamFail
  dsimp only
  repeat' split
  all_goals simp

@[simp] theorem State.still_markBad {v : Nat} : (s.markBad v).Still s := by
  unfold State.markBad
  split <;> simp

@[simp] theorem State.still_streamLost {p : Nat} : (s.streamLost p).Still s := by
  simp [State.streamLost]

@[simp] theorem State.still_policyDue {p : Nat} : (s.policyDue p).Still s := by
  simp [State.policyDue]

@[simp] theorem State.still_showLine {p : Nat} : (s.showLine p).Still s := by
  simp [State.showLine]

@[simp] theorem State.still_bootSave : s.bootSave.Still s := by
  simp [State.bootSave]

@[simp] theorem State.still_showTxns {p : Nat} : (s.showTxns p).Still s := by
  simp [State.showTxns]

@[simp] theorem State.still_queueMsg {p : Nat} {m : Msg} : (s.queueMsg p m).Still s := by
  simp [State.queueMsg]

@[simp] theorem State.still_send {p : Nat} {m : Msg} : (s.send p m).Still s := by
  simp [State.send]

@[simp] theorem State.still_dispatch {p : Nat} {req : ReqMsg} {owner : Owner} {tenant : Nat} :
    (s.dispatch p req owner tenant).Still s := by
  simp [State.dispatch]

@[simp] theorem State.still_setDesc {d : Desc} : (s.setDesc d).Still s := by
  simp [State.setDesc]

@[simp] theorem State.still_showInflight {q : Nat} : (s.showInflight q).Still s := by
  simp (decide := true) [State.showInflight]

@[simp] theorem State.still_dropDescs {q : Nat} {l : List Desc} : (s.dropDescs q l).Still s := by
  simp [State.dropDescs]

@[simp] theorem State.still_advanceHead {q : Nat} : (s.advanceHead q).Still s := by
  simp [State.advanceHead]

@[simp] theorem State.still_complete {q idx status done : Nat} {data : List Nat} :
    (s.complete q idx status done data).Still s := by
  unfold State.complete
  split <;> simp (decide := true)

@[simp] theorem State.still_settle {q idx : Nat} : (s.settle q idx).Still s := by
  unfold State.settle
  dsimp only
  repeat' split
  all_goals simp

@[simp] theorem State.still_answer {q idx part status : Nat} {data : List Nat} :
    (s.answer q idx part status data).Still s := by
  unfold State.answer
  split <;> simp

@[simp] theorem State.still_reply {dst : Caller} {op tag status : Nat} {data : List Sys2Proof.Byte} :
    (s.reply dst op tag status data).Still s := by
  simp (decide := true) [State.reply]

@[simp] theorem State.still_tell {o : Owner} {op status : Nat} {data : List Nat} :
    (s.tell o op status data).Still s := by
  unfold State.tell
  split <;> simp

@[simp] theorem State.still_pumpOne {p : Nat} : (s.pumpOne p).Still s := by
  unfold State.pumpOne
  split <;> simp

@[simp] theorem State.still_pump {p : Nat} : (s.pump p).Still s := by
  simp [State.pump]

@[simp] theorem State.still_showOld : s.showOld.Still s := by
  simp (decide := true) [State.showOld]

@[simp] theorem State.still_txnDone {p : Nat} {t : Txn} {status : Nat} {data : List Nat} :
    (s.txnDone p t status data).Still s := by
  simp [State.txnDone]

@[simp] theorem State.still_showSilent {p : Nat} : (s.showSilent p).Still s := by
  simp [State.showSilent]

@[simp] theorem State.still_showTmo {p : Nat} : (s.showTmo p).Still s := by
  simp [State.showTmo]

@[simp] theorem State.still_numberTo {p n : Nat} : (s.numberTo p n).Still s := by
  simp [State.numberTo]

@[simp] theorem State.still_dropSessions {p n : Nat} : (s.dropSessions p n).Still s := by
  refine .trans (State.still_foldl (fun s v => ?_) _) (State.still_setLineTx)
  split <;> simp

@[simp] theorem State.still_setN {p n : Nat} : (s.setN p n).Still s := by
  simp [State.setN]

@[simp] theorem State.still_ldInvalid {p : Nat} : (s.ldInvalid p).Still s := by
  simp [State.ldInvalid]

@[simp] theorem State.still_setLane {l : Nat} {x : LaneSt} : (s.setLane l x).Still s := by
  simp [State.setLane]

@[simp] theorem State.still_laneAnew {l : Nat} : (s.laneAnew l).Still s := by
  simp [State.laneAnew]

@[simp] theorem State.still_lnkCount {p : Nat} {f : Fld} {n : Nat} (h : stillKey f.key = false) :
    (s.lnkCount p f n).Still s := by
  simp [State.lnkCount, h]

@[simp] theorem State.still_setService {p : Nat} {l : List Nat} : (s.setService p l).Still s := by
  simp [State.setService]

@[simp] theorem State.still_setStage {p v : Nat} : (s.setStage p v).Still s := by
  simp [State.setStage]

@[simp] theorem State.still_reportLink {q cause : Nat} : (s.reportLink q cause).Still s := by
  simp [State.reportLink]

@[simp] theorem State.still_setLaneState {l v : Nat} : (s.setLaneState l v).Still s := by
  simp [State.setLaneState]

@[simp] theorem State.still_sendTraining {l : Nat} : (s.sendTraining l).Still s := by
  simp [State.sendTraining]

@[simp] theorem State.still_setTxTaps {l : Nat} {t : List Int} : (s.setTxTaps l t).Still s := by
  simp [State.setTxTaps]

@[simp] theorem State.still_trainOver {l : Nat} : (s.trainOver l).Still s := by
  simp [State.trainOver]

@[simp] theorem State.still_failLane {p k reason : Nat} : (s.failLane p k reason).Still s := by
  simp [State.failLane]

@[simp] theorem State.still_toDetect {p : Nat} : (s.toDetect p).Still s := by
  simp [State.toDetect]

@[simp] theorem State.still_startTraining {l st : Nat} : (s.startTraining l st).Still s := by
  simp [State.startTraining]

@[simp] theorem State.still_rxStart {p : Nat} : (s.rxStart p).Still s := by
  exact State.still_foldl (fun s k => by simp) _

@[simp] theorem State.still_sendWord {l w : Nat} : (s.sendWord l w).Still s := by
  simp [State.sendWord]

@[simp] theorem State.still_sendAm {p n : Nat} : (s.sendAm p n).Still s := by
  simp [State.sendAm]

@[simp] theorem State.still_sendData {p i k : Nat} : (s.sendData p i k).Still s := by
  simp [State.sendData]

@[simp] theorem State.still_sendWords {p : Nat} : (s.sendWords p).Still s := by
  simp [State.sendWords]

@[simp] theorem State.still_pushFlits {p : Nat} {l : List Nat} : (s.pushFlits p l).Still s := by
  simp [State.pushFlits]

@[simp] theorem State.still_txSend {p : Nat} {g : TxGroup} : (s.txSend p g).Still s := by
  simp [State.txSend]

@[simp] theorem State.still_txStart {p : Nat} : (s.txStart p).Still s := by
  simp [State.txStart]

@[simp] theorem State.still_usePre {l : Nat} : (s.usePre l).Still s := by
  simp [State.usePre]

@[simp] theorem State.still_txGroup {p : Nat} : (s.txGroup p).Still s := by
  simp [State.txGroup]

@[simp] theorem State.still_moveLanes {p : Nat} {was now : List Nat} : (s.moveLanes p was now).Still s := by
  simp [State.moveLanes]

@[simp] theorem State.still_laneUp {l : Nat} {inServ : Bool} : (s.laneUp l inServ).Still s := by
  simp [State.laneUp]

@[simp] theorem State.still_placeLanes {p : Nat} : (s.placeLanes p).Still s := by
  simp [State.placeLanes]

@[simp] theorem State.still_replayFrom {p from_ : Nat} : (s.replayFrom p from_).Still s := by
  simp [State.replayFrom]

@[simp] theorem State.still_toCapx {p : Nat} : (s.toCapx p).Still s := by
  simp [State.toCapx]

@[simp] theorem State.still_lockCheck {p : Nat} : (s.lockCheck p).Still s := by
  simp [State.lockCheck]

@[simp] theorem State.still_enumStart {p : Nat} : (s.enumStart p).Still s := by
  simp [State.enumStart]

@[simp] theorem State.still_toActive {p : Nat} : (s.toActive p).Still s := by
  simp [State.toActive]

@[simp] theorem State.still_tryActive {p : Nat} : (s.tryActive p).Still s := by
  simp [State.tryActive]

end Stills

/-! ### The end of a session -/

/-- `u` comes from `s`, with or without the end of a session on the way. -/
def State.Ends (s u : State) : Prop := ∃ x : State, x.Still s ∧ (s.Canon → x.Canon) ∧ (u = x ∨ u = x.endSession true)

section Sessions
variable {s z x : State} {p st k : Nat}

theorem State.Ends.of_still (h : x.Still s) (hc : s.Canon → x.Canon) : s.Ends x := ⟨x, h, hc, .inl rfl⟩

theorem State.Ends.after (h : x.Still s) (hc : s.Canon → x.Canon) (he : x.Ends z) : s.Ends z := by
  obtain ⟨y, hy, hcy, hz⟩ := he
  exact ⟨y, hy.trans h, hcy ∘ hc, hz⟩

theorem State.ends_sessionLost : s.Ends s.sessionLost := by
  unfold State.sessionLost
  split
  · exact ⟨s, ⟨rfl, rfl⟩, id, .inr rfl⟩
  · exact ⟨s, ⟨rfl, rfl⟩, id, .inl rfl⟩

/-- The canonical form of what a function of Laws/Keeps gives. -/
theorem State.canon_of_keeps (h : s.Canon) (hf : s.Keeps .all s → x.Keeps .all s) : x.Canon :=
  Keep.canon (k := .all) (q := s) (hf (Keep.refl h))

theorem State.ends_lineLost : s.Ends (s.lineLost p) := by
  have hcanon (h : s.Keeps .all s) : ((s.ldInvalid p).streamLost p).Keeps .all s := by
    apply State.streamLost_good <;> try simp
    apply State.ldInvalid_good <;> simp [h]
  unfold State.lineLost
  dsimp only
  split
  · refine .of_still (by simp) fun h => State.canon_of_keeps h fun hk => ?_
    apply State.showLine_good <;> try simp
    apply State.enumAbandon_good <;> try simp
    apply State.setN_good <;> simp [hcanon hk]
  · refine .after (by simp) (fun h => ?_) State.ends_sessionLost
    have hlost : ((s.ldInvalid p).streamLost p).Canon := State.canon_of_keeps h hcanon
    exact hlost

theorem State.ends_portLeaves : s.Ends (s.portLeaves p st) := by
  have hloop {u : State} {l : List Nat} (h : u.Keeps .all s) :
      (l.foldl (fun s k => s.laneAnew (physLane p k)) u).Keeps .all s :=
    Keep.foldl h fun _ _ hu => by apply State.laneAnew_good <;> simp [hu]
  have hset {u : State} {f : Fld} {v : Nat} (h : u.Keeps .all s) : (u.set f v).Keeps .all s := by
    apply State.set_good <;> simp [h]
  have hport {u : State} {x : PortSt} (h : u.Keeps .all s) : (u.setPort p x).Keeps .all s := by
    apply State.setPort_good <;> simp [h]
  have hservice {u : State} {l : List Nat} (h : u.Keeps .all s) : (u.setService p l).Keeps .all s := by
    apply State.setService_good <;> simp [h]
  unfold State.portLeaves
  dsimp only
  split
  · exact .of_still ⟨rfl, rfl⟩ id
  split
  · refine .after (by simp) (fun h => State.canon_of_keeps h fun hk => ?_) State.ends_lineLost
    apply State.reportLink_good <;> try simp
    apply State.ev_good <;> try simp
    apply State.lnkCount_good <;> try simp
    exact hset (hservice (hloop (hport (hset hk))))
  · exact .of_still (by simp) fun h => State.canon_of_keeps h fun hk => hset (hservice (hloop (hport (hset hk))))

theorem State.ends_portDown : s.Ends (s.portDown p) := State.ends_portLeaves

end Sessions

/-! ### The reference clock -/

/-- The keys of `stillKey` but those of FWU. -/
def boardKey (n : Nat) : Bool := decide (n < 0x2000 * 32) || decide (n = 0x8104 * 32)

theorem stillKey_of_boardKey {n : Nat} (h : boardKey n = true) : stillKey n = true := by
  simp only [boardKey, stillKey, Bool.or_eq_true, Bool.and_eq_true, decide_eq_true_eq] at h ⊢
  omega

/-- The reference clock and TIME_VALID of `s` are those of `z`. -/
structure State.Boards (s z : State) : Prop where
  regs : fieldsAt boardKey s.regs = fieldsAt boardKey z.regs
  int : s.tim.onInt = z.tim.onInt

section Clock
variable {s y z x : State} {p : Nat}

theorem State.Boards.trans (h : s.Boards y) (h' : y.Boards z) : s.Boards z := ⟨h.regs.trans h'.regs, h.int.trans h'.int⟩

theorem State.Still.boards (h : s.Still z) : s.Boards z := by
  obtain ⟨hregs, hint⟩ := h
  exact ⟨fieldsAt_of_imp (fun _ => stillKey_of_boardKey) hregs, hint⟩

theorem State.boards_self : s.Boards s := ⟨rfl, rfl⟩

theorem State.Boards.ite {c : Prop} [Decidable c] (hx : x.Boards z) (hy : y.Boards z) : (if c then x else y).Boards z := by
  split
  · exact hx
  · exact hy

theorem boardKey_beyond {f : Fld} (h : 0x9000 ≤ f.addr) : boardKey f.key = false := by
  rw [boardKey, Bool.or_eq_false_iff]
  exact ⟨decide_eq_false (by simp only [Fld.key]; omega), decide_eq_false (by simp only [Fld.key]; omega)⟩

theorem State.tim_bootSave : s.bootSave.tim = s.tim := by
  unfold State.bootSave
  dsimp only
  split_ifs
  · rfl
  · rfl
  · rfl

theorem State.boards_set {f : Fld} {v : Nat} (h : 0x9000 ≤ f.addr) : (s.set f v).Boards s :=
  ⟨State.fieldsAt_set (boardKey_beyond h), rfl⟩

theorem State.boards_bootSave : s.bootSave.Boards s := ⟨congrArg _ State.regs_bootSave, congrArg TimSt.onInt State.tim_bootSave⟩

theorem State.boards_ev {b k : Nat} (h : 0x9000 ≤ b) : (s.ev b k).Boards s :=
  ⟨State.fieldsAt_ev (boardKey_beyond (Nat.le_add_right_of_le h)), congrArg TimSt.onInt State.shows_ev.tim⟩

theorem State.boards_endSession {bad : Bool} : (s.endSession bad).Boards s := by
  unfold State.endSession
  split
  · exact ⟨rfl, rfl⟩
  · dsimp only
    have hbad : (if bad && s.get R.FWU.SESSION.PURPOSE == 1 then
        s.set (R.SLT.SLOT_STAT.STATE (s.get R.FWU.SESSION.SLOT)) 4 else s).Boards s :=
      .ite (State.boards_set (Nat.le_add_right_of_le (by decide))) State.boards_self
    have hended := (State.boards_ev (b := B.fwu) (k := Ev.FWU.SESSION_DONE) (by decide)).trans
      ((State.boards_set (f := R.FWU.SESS_BYTES.BYTES) (v := 0) (by decide)).trans
      ((State.boards_set (f := R.FWU.SESSION.ID) (v := 0) (by decide)).trans
      ((State.boards_set (f := R.FWU.SESSION.SLOT) (v := 0) (by decide)).trans
      ((State.boards_set (f := R.FWU.SESSION.PURPOSE) (v := 0) (by decide)).trans (State.boards_bootSave.trans hbad)))))
    exact ⟨hended.regs, hended.int⟩

theorem State.Ends.boards (h : s.Ends z) : z.Boards s := by
  obtain ⟨x, hx, -, rfl | rfl⟩ := h
  · exact State.Still.boards hx
  · exact State.boards_endSession.trans (State.Still.boards hx)

theorem State.boards_portDown : (s.portDown p).Boards s := State.Ends.boards State.ends_portDown

theorem State.boards_linkDown : (s.linkDown p).Boards s :=
  .ite ((State.Still.boards State.still_toDetect).trans State.boards_portDown) State.boards_portDown

theorem State.boards_toLock : (s.toLock p).Boards s := by
  unfold State.toLock
  dsimp only
  split
  · exact State.boards_linkDown.trans (State.Still.boards (by simp))
  · exact State.Still.boards (by simp)

theorem State.boards_detectEnds : (s.detectEnds p).Boards s := by
  unfold State.detectEnds
  dsimp only
  split
  · exact State.boards_self
  split
  · exact State.boards_toLock
  · exact State.Still.boards (by simp)

theorem State.boards_trainEnds : (s.trainEnds p).Boards s :=
  .ite State.boards_self (.ite (State.Still.boards (by simp [State.bringupFails])) (.ite State.boards_toLock State.boards_self))

theorem State.boards_widthSwitch : (s.widthSwitch p).Boards s := by
  unfold State.widthSwitch
  dsimp only
  split
  · split
    · exact State.boards_linkDown.trans (State.Still.boards (by simp))
    · refine State.Still.boards ?_
      repeat' split
      all_goals simp
  · exact State.boards_self

theorem State.boards_startWidth : (s.startWidth p).Boards s :=
  State.boards_widthSwitch.trans (State.Still.boards (by simp))

theorem State.boards_mayWiden : (s.mayWiden p).Boards s := .ite State.boards_startWidth State.boards_self

theorem State.boards_limitWidth : (s.limitWidth p).Boards s := by
  unfold State.limitWidth
  dsimp only
  refine .ite (.ite ?_ ?_) State.boards_self
  · exact State.boards_startWidth.trans (State.Still.boards (by simp))
  · exact State.boards_mayWiden.trans (State.Still.boards (by simp))

theorem State.boards_portThaw : (s.portThaw p).Boards s := by
  unfold State.portThaw
  dsimp only
  refine .ite State.boards_self (.ite (State.Still.boards State.still_toDetect) (.ite State.boards_detectEnds
    (.ite State.boards_trainEnds (.ite (.ite (State.Still.boards State.still_lockCheck) State.boards_toLock) (.ite
      (.ite (State.Still.boards State.still_tryActive) State.boards_toLock) (.ite State.boards_limitWidth State.boards_self))))))

end Clock

end Sys2Proof.Machine

/-!
Thermal shutdown and the change of the reference clock (spec/04_time_and_departures.md, R110; spec/13_rails_faults_energy.md, R405;
spec/17_housekeeping.md, R516).
-/
namespace Sys2Proof.Machine

section ThermalClock
variable {s u : State} {p d v : Nat} {ppm : Int}

/-! ### What a change of the clock leaves of its registers -/

theorem State.boards_set_of {f : Fld} (h : boardKey f.key = false) : (s.set f v).Boards s := ⟨State.fieldsAt_set h, rfl⟩

theorem State.boards_ethDown : (s.ethDown p).Boards s := by
  have hset {s : State} {f : Fld} {v : Nat} (h : 0x9000 ≤ f.addr) : (s.set f v).Boards s := State.boards_set h
  have hlanes {u : State} {l : List Nat} : (l.foldl (fun s l => s.set (R.LNL.LANE_STAT.STATE l) 0) u).Boards u :=
    Keep.foldl_of (P := fun x : State => x.Boards u) State.boards_self
      fun _ _ h => (hset (Nat.le_add_right_of_le (by decide))).trans h
  unfold State.ethDown
  refine .ite ?_ State.boards_self
  exact (State.boards_ev (by decide)).trans ((hset (Nat.le_add_right_of_le (by decide))).trans
    ((hset (Nat.le_add_right_of_le (by decide))).trans (hlanes.trans ((hset (Nat.le_add_right_of_le (by decide))).trans
      (hset (Nat.le_add_right_of_le (by decide)))))))

theorem State.boards_ethDowns {n : Nat} : (s.forN n State.ethDown).Boards s :=
  State.forN_of (P := fun u : State => u.Boards s) State.boards_self fun _ _ _ hu => State.boards_ethDown.trans hu

theorem State.boards_showWall : s.showWall.Boards s := by
  have hhold {b : Bool} {m n : Nat} : ((({ s with tim := { s.tim with resetHold := b } } : State).set R.TIM.TIM_STAT.HOLDOVER m).set
      R.TIM.TIM_CTRL.WALL_SEL n).Boards s := (State.boards_set_of (by decide)).trans ((State.boards_set_of (by decide)).trans ⟨rfl, rfl⟩)
  unfold State.showWall
  dsimp only
  exact .ite ((State.boards_set_of (by decide)).trans hhold) hhold

theorem State.boards_putDomState (hd : d < 2) : (s.putDomState d v).Boards s := by
  have hkeys : ∀ d < 2, boardKey (R.TIM.DOM_STAT.STATE d).key = false ∧
      boardKey (if d = 0 then R.TIM.TIM_STAT.D0_STATE else R.TIM.TIM_STAT.D1_STATE).key = false := by decide
  obtain ⟨hdom, hstat⟩ := hkeys d hd
  exact State.boards_showWall.trans ((State.boards_set_of hstat).trans (State.boards_set_of hdom))

theorem State.boards_evTim {k : Nat} : (s.ev B.tim k).Boards s :=
  ⟨State.fieldsAt_ev (by decide), congrArg TimSt.onInt State.shows_ev.tim⟩

theorem State.boards_domsLost : s.domsLost.Boards s :=
  State.forN_of (P := fun u : State => u.Boards s) State.boards_self fun _ _ hd hu =>
    State.Boards.trans (.ite (State.boards_evTim.trans (State.boards_putDomState hd)) State.boards_self) hu

/-! ### The reference clock is lost (R110, R405) -/

/-- The module on its internal oscillator, before its ports go down. -/
def State.onInternal (s : State) (ppm : Int) : State :=
  let u := (s.setI R.RCK.CLK_STAT.PPM ppm).set R.RCK.CLK_STAT.REFCLK_OK 0
  let w := { u with tim := { u.tim with onInt := true } }
  let x := ((w.set R.RCK.CLK_STAT.ON_INTOSC 1).ev B.rck Ev.RCK.CLK_SWITCH).set R.TIM.TIM_STAT.ON_INTOSC 1
  (x.set R.TIM.TIM_STAT.TIME_VALID 0).ev B.tim Ev.TIM.REFCLK_LOST

theorem State.refclkLost_eq (h : s.tim.onInt = false) :
    s.refclkLost ppm = ((((s.onInternal ppm).portDown 0).portDown 1).forN 4 State.ethDown).domsLost :=
  if_neg (by simp [State.setI, h])

theorem State.boards_refclkLost (h : s.tim.onInt = false) : (s.refclkLost ppm).Boards (s.onInternal ppm) := by
  rw [State.refclkLost_eq h]
  exact State.boards_domsLost.trans (State.boards_ethDowns.trans ((State.boards_portDown (p := 1)).trans
    (State.boards_portDown (p := 0))))

theorem State.get_of_boards {f : Fld} (hu : u.regsOk) (hs : s.regsOk) (h : u.Boards s) (hf : boardKey f.key = true) :
    u.get f = s.get f := State.get_of_fieldsAt hf hu hs h.regs

/-- What the module shows on its internal oscillator. -/
theorem State.shows_onInternal (h : s.regsOk) : (s.onInternal ppm).regsOk ∧ (s.onInternal ppm).tim.onInt = true ∧
    (s.onInternal ppm).get R.RCK.CLK_STAT.REFCLK_OK = 0 ∧ (s.onInternal ppm).get R.RCK.CLK_STAT.ON_INTOSC = 1 ∧
    (s.onInternal ppm).get R.TIM.TIM_STAT.TIME_VALID = 0 := by
  have hset {u : State} {f : Fld} {v : Nat} (hu : u.regsOk) : (u.set f v).regsOk := State.regsOk_set hu
  let u := (s.setI R.RCK.CLK_STAT.PPM ppm).set R.RCK.CLK_STAT.REFCLK_OK 0
  let w : State := { u with tim := { u.tim with onInt := true } }
  have hu : u.regsOk := hset (hset h)
  have hw : w.regsOk := hu
  have hosc : (w.set R.RCK.CLK_STAT.ON_INTOSC 1).regsOk := hset hw
  have hev := State.regsOk_ev (b := B.rck) (k := Ev.RCK.CLK_SWITCH) hosc
  have htim := hset (f := R.TIM.TIM_STAT.ON_INTOSC) (v := 1) hev
  have hvalid := hset (f := R.TIM.TIM_STAT.TIME_VALID) (v := 0) htim
  have hkept {f : Fld} (hb : f.key ≠ (R.PG.EVT_PEND B.tim).key) (hv : f.key ≠ R.TIM.TIM_STAT.TIME_VALID.key)
      (ho : f.key ≠ R.TIM.TIM_STAT.ON_INTOSC.key) (hr : f.key ≠ (R.PG.EVT_PEND B.rck).key) :
      (s.onInternal ppm).get f = (w.set R.RCK.CLK_STAT.ON_INTOSC 1).get f :=
    (State.get_ev_ne hvalid hb).trans ((State.get_set_ne htim hv).trans ((State.get_set_ne hev ho).trans (State.get_ev_ne hosc hr)))
  refine ⟨State.regsOk_ev hvalid, ?_, ?_, ?_, ?_⟩
  · exact (congrArg TimSt.onInt State.shows_ev.tim).trans (congrArg TimSt.onInt
      (State.shows_ev (s := w.set R.RCK.CLK_STAT.ON_INTOSC 1)).tim)
  · exact (hkept (by decide) (by decide) (by decide) (by decide)).trans ((State.get_set_ne hw (by decide)).trans
      (State.get_set_self (s := s.setI R.RCK.CLK_STAT.PPM ppm) (hset h)))
  · exact (hkept (by decide) (by decide) (by decide) (by decide)).trans (State.get_set_self hw)
  · exact (State.get_ev_ne hvalid (by decide)).trans (State.get_set_self htim)

/-! ### The reference clock is back (R405) -/

/-- The module on its reference clock, before its ports thaw. -/
def State.onReference (s : State) : State :=
  let w := { s with tim := { s.tim with onInt := false } }
  (((w.set R.RCK.CLK_STAT.ON_INTOSC 0).ev B.rck Ev.RCK.CLK_SWITCH).set R.TIM.TIM_STAT.ON_INTOSC 0).ev B.tim Ev.TIM.REFCLK_BACK

theorem State.boards_refclkBack (h : s.tim.onInt = true) : s.refclkBack.Boards s.onReference := by
  have heq : s.refclkBack = (s.onReference.portThaw 0).portThaw 1 := if_neg (by simp [h])
  exact heq ▸ State.boards_portThaw.trans State.boards_portThaw

theorem State.shows_onReference (h : s.regsOk) : s.onReference.regsOk ∧ s.onReference.tim.onInt = false ∧
    s.onReference.get R.RCK.CLK_STAT.ON_INTOSC = 0 ∧
    s.onReference.get R.RCK.CLK_STAT.REFCLK_OK = s.get R.RCK.CLK_STAT.REFCLK_OK := by
  have hset {u : State} {f : Fld} {v : Nat} (hu : u.regsOk) : (u.set f v).regsOk := State.regsOk_set hu
  let w : State := { s with tim := { s.tim with onInt := false } }
  have hw : w.regsOk := h
  have hosc : (w.set R.RCK.CLK_STAT.ON_INTOSC 0).regsOk := hset hw
  have hev := State.regsOk_ev (b := B.rck) (k := Ev.RCK.CLK_SWITCH) hosc
  have htim := hset (f := R.TIM.TIM_STAT.ON_INTOSC) (v := 0) hev
  have hkept {f : Fld} (hb : f.key ≠ (R.PG.EVT_PEND B.tim).key) (ho : f.key ≠ R.TIM.TIM_STAT.ON_INTOSC.key)
      (hr : f.key ≠ (R.PG.EVT_PEND B.rck).key) : s.onReference.get f = (w.set R.RCK.CLK_STAT.ON_INTOSC 0).get f :=
    (State.get_ev_ne htim hb).trans ((State.get_set_ne hev ho).trans (State.get_ev_ne hosc hr))
  refine ⟨State.regsOk_ev htim, ?_, ?_, ?_⟩
  · exact (congrArg TimSt.onInt State.shows_ev.tim).trans (congrArg TimSt.onInt
      (State.shows_ev (s := w.set R.RCK.CLK_STAT.ON_INTOSC 0)).tim)
  · exact (hkept (by decide) (by decide) (by decide)).trans (State.get_set_self hw)
  · exact (hkept (by decide) (by decide) (by decide)).trans (State.get_set_ne hw (by decide))

/-- The return from a reference within its limit. -/
theorem State.refclkBack_shown (hs : s.regsOk) (hppm : ppm.natAbs ≤ 1000) (hint : s.tim.onInt = true)
    (hu : (s.showRefclk ppm).refclkBack.regsOk) : (s.showRefclk ppm).refclkBack.tim.onInt = false ∧
      (s.showRefclk ppm).refclkBack.get R.RCK.CLK_STAT.ON_INTOSC = 0 ∧
      (s.showRefclk ppm).refclkBack.get R.RCK.CLK_STAT.REFCLK_OK = 1 := by
  have hshow : (s.showRefclk ppm).regsOk := State.regsOk_set (State.regsOk_set hs)
  have hok : (s.showRefclk ppm).get R.RCK.CLK_STAT.REFCLK_OK = 1 :=
    (State.get_set_self (State.regsOk_set hs)).trans (by simp [hppm, bit, R.RCK.CLK_STAT.REFCLK_OK])
  have hback := State.boards_refclkBack (s := s.showRefclk ppm) hint
  obtain ⟨href, honInt, hosc, hkept⟩ := State.shows_onReference hshow
  exact ⟨hback.int.trans honInt, (State.get_of_boards hu href hback (by decide)).trans hosc,
    (State.get_of_boards hu href hback (by decide)).trans (hkept.trans hok)⟩

theorem State.on_showRefclk (hs : s.regsOk) (hppm : ppm.natAbs ≤ 1000) :
    (s.showRefclk ppm).on R.RCK.CLK_STAT.REFCLK_OK = true ∧
      (s.showRefclk ppm).on R.RCK.CLK_CTRL.RET_AUTO = s.on R.RCK.CLK_CTRL.RET_AUTO := by
  have hset : (s.setI R.RCK.CLK_STAT.PPM ppm).regsOk := State.regsOk_set hs
  constructor
  · have hok : (s.showRefclk ppm).get R.RCK.CLK_STAT.REFCLK_OK = 1 :=
      (State.get_set_self hset).trans (by simp [hppm, bit, R.RCK.CLK_STAT.REFCLK_OK])
    rw [State.on, hok]
    rfl
  · rw [State.on, State.on]
    exact congrArg (· == 1) ((State.get_set_ne hset (by decide)).trans (State.get_set_ne hs (by decide)))

/-- The last cause that a reset shows is the thermal one (Table 13-6). -/
theorem State.thermal_inReset {pw : Power} {m : Nat} (h : s.regsOk) :
    (s.inReset pw m).get R.RCK.RST_CAUSE.THERMAL = bitsOf m 4 1 % 2 :=
  State.get_set_self (State.regsOk_set (State.regsOk_set (State.regsOk_set (State.regsOk_set (rise_filter _ h)))))

end ThermalClock

/-- Settles O16: the ports, the links and the clock domains follow a change of the reference clock and leave what shows it. -/
theorem thermalAndClock : Obligations.ThermalAndClock := by
  unfold Obligations.ThermalAndClock
  refine ⟨?thermal, ?restart, ?lost, ?auto, ?now⟩
  case thermal =>
    intro s t hs hdown hat
    have hdue : (s.tick t).thermalReset = (s.tick t).inReset .hot Cause.thermal := if_pos (by
      have hwait : (s.tick t).hkt.shutAt + 30000000 ≤ (s.tick t).frc := le_trans hat (le_max_left _ _)
      simp only [Bool.and_eq_true, Bool.or_eq_true, decide_eq_true_eq]
      exact ⟨hdown, .inr hwait⟩)
    refine State.gives_of_run (f := fun s => (s.tick t).thermalReset) hs rfl hdue ⟨rfl, ?_⟩
    exact State.thermal_inReset (s := s.tick t) hs.2.1
  case restart =>
    intro s hot
    refine ⟨{ s with power := .held }, ?_, rfl⟩
    simp only [exec, execShutdownRestart, hot]
  case lost =>
    intro s ppm t hs hint
    have hlost := State.boards_refclkLost (s := s.tick t) (ppm := ppm) hint
    obtain ⟨hregs, hon, hok, hosc, hvalid⟩ := State.shows_onInternal (s := s.tick t) (ppm := ppm) hs.2.1
    exact State.gives_of_run_ok (f := fun s => (s.tick t).refclkLost ppm) hs rfl rfl fun hu =>
      ⟨hlost.int.trans hon, (State.get_of_boards hu hregs hlost (by decide)).trans hok,
        (State.get_of_boards hu hregs hlost (by decide)).trans hosc, (State.get_of_boards hu hregs hlost (by decide)).trans hvalid⟩
  case auto =>
    intro s ppm t hs hppm hauto hint
    obtain ⟨hok, hret⟩ := State.on_showRefclk (s := s.tick t) hs.2.1 hppm
    have hback : (if ((s.tick t).showRefclk ppm).on R.RCK.CLK_CTRL.RET_AUTO && ((s.tick t).showRefclk ppm).on R.RCK.CLK_STAT.REFCLK_OK
        then ((s.tick t).showRefclk ppm).refclkBack else (s.tick t).showRefclk ppm) = ((s.tick t).showRefclk ppm).refclkBack :=
      if_pos (by rw [hok, hret, Bool.and_true]; exact hauto)
    exact State.gives_of_run_ok (c := .retAuto ppm t) (f := fun s => if ((s.tick t).showRefclk ppm).on R.RCK.CLK_CTRL.RET_AUTO &&
      ((s.tick t).showRefclk ppm).on R.RCK.CLK_STAT.REFCLK_OK then ((s.tick t).showRefclk ppm).refclkBack else (s.tick t).showRefclk ppm)
      hs rfl hback (State.refclkBack_shown (s := s.tick t) hs.2.1 hppm hint)
  case now =>
    intro s ppm t hs hppm hint
    obtain ⟨hok, -⟩ := State.on_showRefclk (s := s.tick t) hs.2.1 hppm
    have hback : (if ((s.tick t).showRefclk ppm).on R.RCK.CLK_STAT.REFCLK_OK then ((s.tick t).showRefclk ppm).refclkBack
        else (s.tick t).showRefclk ppm) = ((s.tick t).showRefclk ppm).refclkBack := if_pos hok
    exact State.gives_of_run_ok (c := .retNow ppm t) (f := fun s => if ((s.tick t).showRefclk ppm).on R.RCK.CLK_STAT.REFCLK_OK then
      ((s.tick t).showRefclk ppm).refclkBack else (s.tick t).showRefclk ppm)
      hs rfl hback (State.refclkBack_shown (s := s.tick t) hs.2.1 hppm hint)

end Sys2Proof.Machine

/-!
Images (spec/18_firmware.md, R532, R536 and R537): confirmation, the end of the confirm window, RB_COMMIT and the check of a slot.
-/
namespace Sys2Proof.Machine

/-! ### The fields of the slots -/

theorem otherSlot_lt {k : Nat} (h : k < 4) : otherSlot k < 4 := by
  unfold otherSlot
  split <;> omega

theorem two_le_otherSlot {k : Nat} (h : 2 ≤ k) : 2 ≤ otherSlot k := by
  unfold otherSlot
  split <;> omega

theorem otherSlot_ne {k : Nat} : k ≠ otherSlot k := by
  unfold otherSlot
  split <;> omega

section Slots
variable {s u : State} {k j v : Nat} {f : Fld}

theorem slotState_ne (h : k ≠ j) : (R.SLT.SLOT_STAT.STATE k).key ≠ (R.SLT.SLOT_STAT.STATE j).key := by
  simp only [Fld.key, R.SLT.SLOT_STAT.STATE]
  omega

/-- Setting the state of one slot leaves that of another. -/
theorem State.img_setImg_ne (h : s.regsOk) (hk : k ≠ j) : (s.setImg j v).img k = s.img k := State.get_set_ne h (slotState_ne hk)

theorem State.img_setImg (h : s.regsOk) : (s.setImg k v).img k = v % 8 := State.get_set_self h

theorem State.get_bootSave : s.bootSave.get f = s.get f := by rw [State.get, State.regs_bootSave, State.get]

/-! ### Confirmation (R536) -/

/-- A slot in TRIAL that is confirmed. -/
def State.inForce (s : State) (k : Nat) : State := (s.setImg k Img.inForce).set (R.SLT.SLOT_STAT.TRIALS k) 0

theorem State.confirm_eq (ht : s.img k = Img.trial) (hs : s.get R.FWU.FWU_STAT.SAFE = 0) : s.confirm k =
    (if (s.inForce k).img (otherSlot k) = Img.inForce then (s.inForce k).setImg (otherSlot k) Img.checked else s.inForce k).bootSave :=
  if_neg (by simp [ht, State.on, hs])

theorem trials_ne_state : (R.SLT.SLOT_STAT.STATE j).key ≠ (R.SLT.SLOT_STAT.TRIALS k).key := by
  simp only [Fld.key, R.SLT.SLOT_STAT.STATE, R.SLT.SLOT_STAT.TRIALS]
  omega

/-- A confirmed slot is IN_FORCE without trials, and the other one is in force no more. -/
theorem State.confirm_shows (h : s.regsOk) (ht : s.img k = Img.trial) (hs : s.get R.FWU.FWU_STAT.SAFE = 0) :
    (s.confirm k).img k = Img.inForce ∧ (s.confirm k).get (R.SLT.SLOT_STAT.TRIALS k) = 0 ∧
      (s.img (otherSlot k) = Img.inForce → (s.confirm k).img (otherSlot k) = Img.checked) := by
  have hset : (s.setImg k Img.inForce).regsOk := State.regsOk_set h
  have hforce : (s.inForce k).regsOk := State.regsOk_set hset
  have himg : (s.inForce k).img k = Img.inForce := (State.get_set_ne hset trials_ne_state).trans (State.img_setImg h)
  have htrials : (s.inForce k).get (R.SLT.SLOT_STAT.TRIALS k) = 0 := State.get_set_self hset
  have hother : (s.inForce k).img (otherSlot k) = s.img (otherSlot k) :=
    (State.get_set_ne hset trials_ne_state).trans (State.img_setImg_ne h otherSlot_ne.symm)
  by_cases hin : s.img (otherSlot k) = Img.inForce
  · rw [State.confirm_eq ht hs, hother, if_pos hin]
    simp only [State.img, State.get_bootSave]
    exact ⟨(State.img_setImg_ne hforce otherSlot_ne).trans himg, (State.get_set_ne hforce trials_ne_state.symm).trans htrials,
      fun _ => State.img_setImg hforce⟩
  · rw [State.confirm_eq ht hs, hother, if_neg hin]
    simp only [State.img, State.get_bootSave]
    exact ⟨himg, htrials, fun h => absurd h hin⟩

/-! ### The end of the confirm window (R536) -/

/-- Slot `k` is BAD and REVERTED is pending, in a state in canonical form. -/
structure State.BadSlot (s : State) (k : Nat) : Prop where
  canon : s.Canon
  bad : s.img k = Img.bad
  reverted : s.Raised B.fwu Ev.FWU.REVERTED

theorem stillKey_slot (h : k < 6) : stillKey (R.SLT.SLOT_STAT.STATE k).key = true := by
  have hkeys : ∀ k < 6, stillKey (R.SLT.SLOT_STAT.STATE k).key = true := by decide
  exact hkeys k h

namespace State.BadSlot

theorem still (h : s.BadSlot k) (hk : k < 6) (hc : u.Canon) (hu : u.Still s) : u.BadSlot k := by
  have hget {f : Fld} (hf : stillKey f.key = true) : u.get f = s.get f := State.get_of_fieldsAt hf hc.1 h.canon.1 hu.1
  exact ⟨hc, (hget (stillKey_slot hk)).trans h.bad, hc.1, (congrArg (bitAt · _) (hget (by decide))).trans h.reverted.bit⟩

theorem set (h : s.BadSlot k) (hf : (R.SLT.SLOT_STAT.STATE k).key ≠ f.key) (hp : f.key / 32 % 0x1000 ≠ 0x18) : (s.set f v).BadSlot k :=
  ⟨State.canon_set h.canon, (State.get_set_ne h.canon.1 hf).trans h.bad, h.reverted.set (pend_ne_of_offset rfl hp)⟩

theorem ev (h : s.BadSlot k) {b : Nat} (hp : (R.SLT.SLOT_STAT.STATE k).key ≠ (R.PG.EVT_PEND b).key) : (s.ev b j).BadSlot k :=
  ⟨State.canon_ev h.canon, (State.get_ev_ne h.canon.1 hp).trans h.bad, h.reverted.ev (by decide)⟩

theorem bootSave (h : s.BadSlot k) : s.bootSave.BadSlot k := by
  have hc : s.bootSave.Canon := State.canon_of_keeps h.canon fun hd => by apply State.bootSave_good <;> simp [hd]
  exact ⟨hc, State.get_bootSave.trans h.bad, hc.1, (congrArg (bitAt · _) State.get_bootSave).trans h.reverted.bit⟩

theorem putLine (h : s.BadSlot k) {x : LineSt} : { s with line := x }.BadSlot k := ⟨h.canon, h.bad, h.reverted.regs, h.reverted.bit⟩

/-- A BAD slot that is set to BAD, or another slot. -/
theorem setBad (h : s.BadSlot k) : (s.set (R.SLT.SLOT_STAT.STATE j) 4).BadSlot k := by
  by_cases hkj : k = j
  · subst hkj
    exact ⟨State.canon_set h.canon, State.get_set_self h.canon.1, h.reverted.set
      (by simp only [Fld.key, R.PG.EVT_PEND, R.SLT.SLOT_STAT.STATE, B.fwu]; omega)⟩
  · exact ⟨State.canon_set h.canon, (State.get_set_ne h.canon.1 (slotState_ne hkj)).trans h.bad, h.reverted.set
      (by simp only [Fld.key, R.PG.EVT_PEND, R.SLT.SLOT_STAT.STATE, B.fwu]; omega)⟩

/-- The registers of the session lie before those of the slots. -/
theorem session_beside : ∀ k < 6, ∀ f ∈ [R.FWU.SESSION.PURPOSE, R.FWU.SESSION.SLOT, R.FWU.SESSION.ID, R.FWU.SESS_BYTES.BYTES,
    R.FWU.FWU_STAT.LC_SLOT, R.PG.EVT_PEND B.fwu], (R.SLT.SLOT_STAT.STATE k).key ≠ f.key := by decide

/-- A session that ends badly leaves BAD slots BAD. -/
theorem endSession (h : s.BadSlot k) (hk : k < 6) : (s.endSession true).BadSlot k := by
  have hbeside := session_beside k hk
  simp only [List.forall_mem_cons] at hbeside
  obtain ⟨hpurpose, hslot, hid, hbytes, -, hpend, -⟩ := hbeside
  unfold State.endSession
  split
  · exact h.putLine
  · have hbad : (if true && s.get R.FWU.SESSION.PURPOSE == 1 then s.set (R.SLT.SLOT_STAT.STATE (s.get R.FWU.SESSION.SLOT)) 4
        else s).BadSlot k := by
      split
      · exact h.setBad
      · exact h
    exact ((((((hbad.bootSave).set hpurpose (by decide)).set hslot (by decide)).set hid (by decide)).set hbytes (by decide)).ev
      hpend).putLine

theorem ends (h : s.BadSlot k) (hk : k < 6) (hu : s.Ends u) : u.BadSlot k := by
  obtain ⟨x, hx, hc, rfl | rfl⟩ := hu
  · exact h.still hk (hc h.canon) hx
  · exact (h.still hk (hc h.canon) hx).endSession hk

theorem linkDown (h : s.BadSlot k) (hk : k < 6) : (s.linkDown j).BadSlot k := by
  have hdown := h.ends hk (State.ends_portDown (p := j))
  unfold State.linkDown
  dsimp only
  split
  · refine hdown.still hk ?_ State.still_toDetect
    exact State.canon_of_keeps hdown.canon fun hd => by apply State.toDetect_good <;> simp [hd]
  · exact hdown

end State.BadSlot

/-- The slot that was in force runs again: its number is shown and both links go down. -/
theorem State.BadSlot.restartOn (h : s.BadSlot k) (hk : k < 6) (hj : 2 ≤ j) (hstate : s.img j ≠ Img.checked) :
    (s.restartOn j).BadSlot k := by
  have hlow : ¬ j < 2 := by omega
  have hstart : s.startSlot j = (s.set R.FWU.FWU_STAT.LC_SLOT (j - 2)).bootSave.emit (.start 1 j) := by
    simp only [State.startSlot, if_neg hstate, if_neg hlow]
  have hshown := (h.set (f := R.FWU.FWU_STAT.LC_SLOT) (v := j - 2) (State.BadSlot.session_beside k hk _ (by simp)) (by decide)).bootSave
  have hstarted : (s.startSlot j).BadSlot k := by
    rw [hstart]
    refine ⟨?_, hshown.bad, hshown.reverted.regs, hshown.reverted.bit⟩
    exact hshown.canon
  unfold State.restartOn
  rw [if_neg hlow]
  exact (hstarted.linkDown hk).linkDown hk

/-- The slot whose confirm window ends, before the other one runs. -/
def State.revoked (s : State) (k : Nat) : State := ((s.setImg k Img.bad).bootSave.ev B.fwu Ev.FWU.REVERTED).err B.fwu 0x12 0 0

theorem state_beside_err : ∀ k < 6, ∀ f ∈ errFields B.fwu, (R.SLT.SLOT_STAT.STATE k).only f.key = false := by decide

theorem State.canon_revoked (h : s.Canon) : (s.revoked k).Canon := by
  refine State.canon_err (State.canon_ev (State.canon_of_keeps (State.canon_set (f := R.SLT.SLOT_STAT.STATE k) (v := Img.bad) h)
    fun hd => ?_))
  apply State.bootSave_good <;> simp [hd, State.setImg]

/-- The states of the slots after it. -/
theorem State.img_revoked (h : s.Canon) (hj : j < 6) : (s.revoked k).img j = (s.setImg k Img.bad).img j := by
  have herr := state_beside_err j hj
  refine State.get_of_only (State.canon_revoked h).1 (State.regsOk_set h.1) ((State.fieldsAt_err herr).trans
    ((State.fieldsAt_ev (herr _ (by simp [errFields]))).trans ?_))
  rw [State.regs_bootSave]

theorem State.badSlot_revoked (h : s.Canon) (hk : k < 6) : (s.revoked k).BadSlot k := by
  have hsaved : ((s.setImg k Img.bad).bootSave).regsOk := by
    rw [State.regsOk, State.regs_bootSave]
    exact State.regsOk_set h.1
  exact ⟨State.canon_revoked h, (State.img_revoked h hk).trans (State.img_setImg h.1),
    (State.Raised.of_ev hsaved State.live_fwu (by decide)).err rfl rfl (by decide)⟩

theorem State.revert_eq (ht : s.img k = Img.trial) (hs : s.get R.FWU.FWU_STAT.SAFE = 0) : s.revert k =
    if (s.revoked k).img (otherSlot k) = Img.inForce then ((s.revoked k).restartOn (otherSlot k), true) else (s.revoked k, false) :=
  if_neg (by simp [ht, State.on, hs])

theorem State.img_other_revoked (h : s.Canon) (hk : k < 4) : (s.revoked k).img (otherSlot k) = s.img (otherSlot k) :=
  (State.img_revoked h (Nat.lt_of_lt_of_le (otherSlot_lt hk) (by decide))).trans (State.img_setImg_ne h.1 otherSlot_ne.symm)

/-- Without another slot in force the module is reset. -/
theorem State.confirmWindow_resets {cpu : Nat} (h : s.Canon) (hk : (if cpu = 0 then s.mcSlot else s.lcSlot) = k) (hlt : k < 4)
    (ht : s.img k = Img.trial) (hs : s.get R.FWU.FWU_STAT.SAFE = 0) (ho : s.img (otherSlot k) ≠ Img.inForce) :
    s.confirmWindow cpu = (s.revoked k).draw.inReset .held (Config.choice (s.revoked k).fresh % 32) := by
  unfold State.confirmWindow
  rw [hk, State.revert_eq ht hs, State.img_other_revoked h hlt, if_neg ho]
  rfl

/-- With another slot in force that one runs again. -/
theorem State.confirmWindow_reverts {cpu : Nat} (h : s.Canon) (hk : (if cpu = 0 then s.mcSlot else s.lcSlot) = k) (hlt : k < 4)
    (ht : s.img k = Img.trial) (hs : s.get R.FWU.FWU_STAT.SAFE = 0) (ho : s.img (otherSlot k) = Img.inForce) :
    s.confirmWindow cpu = (s.revoked k).restartOn (otherSlot k) := by
  unfold State.confirmWindow
  rw [hk, State.revert_eq ht hs, State.img_other_revoked h hlt, if_pos ho]
  rfl

/-! ### RB_COMMIT (R537) and the check of a slot (R532) -/

theorem State.rbCommit_commits (hm : s.img s.mcSlot = Img.inForce) (hl : s.img s.lcSlot = Img.inForce) (h0 : s.mcSlot = 0)
    (h2 : s.lcSlot = 2) : s.rbCommit true = s.set R.FWU.ROLLBACK.COUNT (max (min (s.get (R.SLT.SLOT_STAT.RB_INDEX 0))
      (s.get (R.SLT.SLOT_STAT.RB_INDEX 2))) (s.get R.FWU.ROLLBACK.COUNT)) := by
  rw [h0] at hm
  rw [h2] at hl
  simp [State.rbCommit, h0, h2, hm, hl, Img.inForce, Img.trial]

theorem State.rbCommit_refused (hs : s.get R.FWU.FWU_STAT.SAFE = 0) (ht : s.img s.mcSlot = Img.trial) :
    s.rbCommit true = (s.ev B.fwu Ev.FWU.ACT_REFUSED).err B.fwu 0x11 0 0 := by
  simp [State.rbCommit, State.on, hs, ht]

/-- The slot with its result, before the error and the event of its check. -/
def State.checked (s : State) (k : Nat) : State :=
  ((s.showSlot k (s.slotResult k)).setImg k (if s.slotResult k = 1 then Img.checked else Img.bad)).bootSave

/-- The check of a slot, before its event. -/
def State.judged (s : State) (k : Nat) : State := if s.slotResult k = 1 then s.checked k else (s.checked k).err B.fwu 0x10 k 0

theorem State.line_showSlot {r : Nat} : (s.showSlot k r).line = s.line := by
  unfold State.showSlot
  split
  · rfl
  · rfl

theorem State.line_checked : (s.checked k).line = s.line := State.line_bootSave.trans State.line_showSlot

theorem State.line_judged : (s.judged k).line = s.line := by
  unfold State.judged
  split
  · exact State.line_checked
  · exact State.shows_err.line.trans State.line_checked

theorem State.checkDone_eq (hw : s.img k = Img.written) (hk : k < 6) (hin : s.line.svcIn = none) :
    s.checkDone k = (s.judged k).ev B.fwu Ev.FWU.CHECK_DONE := by
  have hline : ((s.judged k).ev B.fwu Ev.FWU.CHECK_DONE).line.svcIn = none := by
    rw [State.shows_ev.line, State.line_judged, hin]
  have hguard : ¬ (s.img k != Img.written || 6 ≤ k) = true := by
    simp only [hw, bne_self_eq_false, Bool.false_or, decide_eq_true_eq]
    omega
  unfold State.checkDone
  rw [if_neg hguard]
  change (match ((s.judged k).ev B.fwu Ev.FWU.CHECK_DONE).line.svcIn with
    | some x => _
    | none => (s.judged k).ev B.fwu Ev.FWU.CHECK_DONE) = _
  rw [hline]

theorem State.canon_shown (h : s.Canon) {r : Nat} : (s.showSlot k r).Canon :=
  State.canon_of_keeps h fun hd => by apply State.showSlot_good <;> simp [hd]

theorem State.canon_checked (h : s.Canon) : (s.checked k).Canon := by
  refine State.canon_of_keeps h fun hd => ?_
  apply State.bootSave_good <;> try simp
  apply State.setImg_good <;> try simp
  apply State.showSlot_good <;> simp [hd]

theorem State.img_checked (h : s.Canon) :
    (s.checked k).img k = if s.slotResult k = 1 then Img.checked else Img.bad := by
  refine State.get_bootSave.trans ((State.img_setImg (State.canon_shown h).1).trans ?_)
  split
  · rfl
  · rfl

theorem State.canon_judged (h : s.Canon) : (s.judged k).Canon := by
  unfold State.judged
  split
  · exact State.canon_checked h
  · exact State.canon_err (State.canon_checked h)

theorem State.img_judged (h : s.Canon) (hk : k < 6) :
    (s.judged k).img k = if s.slotResult k = 1 then Img.checked else Img.bad := by
  refine Eq.trans ?_ (State.img_checked h)
  unfold State.judged
  split
  · rfl
  · exact State.get_of_only (State.canon_err (State.canon_checked h)).1 (State.canon_checked h).1
      (State.fieldsAt_err (state_beside_err k hk))

end Slots

/-- Settles O54: the slots' states change as they are set; a session that ends with its link leaves BAD slots BAD. -/
theorem images : Obligations.Images := by
  unfold Obligations.Images
  refine ⟨?mc, ?lc, ?resets, ?reverts, ?commit, ?refused, ?check⟩
  case mc =>
    intro s t hs hsafe _ ht
    exact State.gives_of_run (f := fun s => let s := s.tick t; s.confirm s.mcSlot) hs rfl rfl
      (State.confirm_shows (s := s.tick t) hs.2.1 ht hsafe)
  case lc =>
    intro s t hs hsafe _ ht
    exact State.gives_of_run (f := fun s => let s := s.tick t; s.confirm s.lcSlot) hs rfl rfl
      (State.confirm_shows (s := s.tick t) hs.2.1 ht hsafe)
  case resets =>
    intro s t hs hsafe hlt ht ho
    exact State.gives_of_run (f := fun s => (s.tick t).confirmWindow 0) hs rfl (State.confirmWindow_resets (s := s.tick t)
      (k := s.mcSlot) (cpu := 0) hs.2 rfl (Nat.lt_of_lt_of_le hlt (by decide)) ht hsafe ho) rfl
  case reverts =>
    intro s t hs hsafe hlt ht ho
    have hsix : s.lcSlot < 6 := Nat.lt_of_lt_of_le hlt (by decide)
    have hother : 2 ≤ otherSlot s.lcSlot := two_le_otherSlot (Nat.le_add_right 2 _)
    have hstate : ((s.tick t).revoked s.lcSlot).img (otherSlot s.lcSlot) ≠ Img.checked := by
      rw [State.img_other_revoked (s := s.tick t) hs.2 hlt]
      exact ho.trans_ne (by decide)
    obtain ⟨-, hbad, hreverted⟩ := (State.badSlot_revoked (s := s.tick t) hs.2 hsix).restartOn hsix hother hstate
    exact State.gives_of_run (f := fun s => (s.tick t).confirmWindow 1) hs rfl (State.confirmWindow_reverts (s := s.tick t)
      (k := s.lcSlot) (cpu := 1) hs.2 rfl hlt ht hsafe ho) ⟨hbad, hreverted.bit⟩
  case commit =>
    intro s t hs hm hl h0 h2
    exact State.gives_of_run (f := fun s => (s.tick t).rbCommit true) hs rfl
      (State.rbCommit_commits (s := s.tick t) hm hl h0 h2) (State.get_set_self (s := s.tick t) hs.2.1)
  case refused =>
    intro s t hs hsafe _ ht
    have hev : ((s.tick t).ev B.fwu Ev.FWU.ACT_REFUSED).Canon := State.canon_ev (s := s.tick t) hs.2
    have hkept : (((s.tick t).ev B.fwu Ev.FWU.ACT_REFUSED).err B.fwu 0x11 0 0).get R.FWU.ROLLBACK.COUNT =
        s.get R.FWU.ROLLBACK.COUNT := (State.get_of_only (State.canon_err hev).1 hev.1 (State.fieldsAt_err (by decide))).trans
      (State.get_ev_ne (s := s.tick t) hs.2.1 (by decide))
    exact State.gives_of_run (f := fun s => (s.tick t).rbCommit true) hs rfl (State.rbCommit_refused (s := s.tick t) hsafe ht)
      ⟨hkept, ((State.Raised.of_ev (s := s.tick t) hs.2.1 State.live_fwu (by decide)).err rfl rfl (by decide)).bit⟩
  case check =>
    intro s k t hs hk hw hin
    have hjudged := State.canon_judged (s := s.tick t) (k := k) hs.2
    exact State.gives_of_run (f := fun s => (s.tick t).checkDone k) hs rfl (State.checkDone_eq (s := s.tick t) hw hk hin)
      ⟨(State.get_ev_ne hjudged.1 (State.BadSlot.session_beside k hk _ (by simp))).trans (State.img_judged (s := s.tick t) hs.2 hk),
        (State.Raised.of_ev hjudged.1 State.live_fwu (by decide)).bit⟩

end Sys2Proof.Machine
